-- ==== Sys2Proof/Word.lean ====
section
/-! DEFINITION. The 32-bit register word and the index ranges of the device's repeated blocks (spec/00_scope.md R4, R8, R10;
spec/01_architecture.md "Blocks of the HVK-8100"). A value that the manual numbers 0 to n - 1 is a `Fin n`. -/

namespace Sys2Proof

/-- A register dword (R8). -/
abbrev Word := BitVec 32

/-- A mechanism number MN, 0 to 4095 (R4). -/
abbrev Mn := Fin 4096
/-- A Penetal port PEN0 to PEN63. -/
abbrev PortIx := Fin 64
/-- A drop of a port, 0 to 63. -/
abbrev DropIx := Fin 64
/-- A Cirque cluster C0 to C16. -/
abbrev ClusterIx := Fin 17
/-- A slot of a Cirque cluster. -/
abbrev SlotIx := Fin 32
/-- A loop of a slot, 0 to 7. -/
abbrev LoopIx := Fin 8
/-- A Firn lane F0 to F271. -/
abbrev LaneIx := Fin 272
/-- A beam B0 to B3. -/
abbrev BeamIx := Fin 4
/-- A Moraine decoder M0 to M31. -/
abbrev DecIx := Fin 32
/-- A function index FN = port x 64 + f. -/
abbrev FnIx := Fin 256
/-- A host port HP0 to HP3. -/
abbrev HostPort := Fin 4
/-- A management core MC0 to MC3. -/
abbrev CoreIx := Fin 4
/-- A supply domain D0 to D7, and a zone. -/
abbrev DomainIx := Fin 8
/-- A DRAM channel. -/
abbrev ChannelIx := Fin 8

/-- A table that lists only the entries which differ from a default, by strictly rising key. -/
abbrev Tab (α : Type) := List (Nat × α)

end Sys2Proof
end

