-- ==== Sys2Proof/Syntax.lean ====
section
/-! DEFINITION. The commands of the block: one constructor of `Instr` for each row of spec/opcode_table.json. An operand is what the
sender of the command supplies: the address and value of a register access, the index of the block an event happens at, and whatever
the event brings in from outside the device (samples, messages, readings, disc content, verdicts of hardware checks). -/

namespace Sys2Proof

/-- A submission descriptor as fetched, field by field (R12). `spec` is bytes 0x30 to 0x3B as a little-endian number,
`rsvd` bytes 0x3C to 0x3D, `dchk` bytes 0x3E to 0x3F. -/
structure Desc where
  opcode : Nat
  flags : Nat := 0
  ver : Nat := 3
  prio : Nat := 0
  tag : Nat := 0
  mn : Nat := 0
  key : Nat := 0
  atomicId : Nat := 0
  floeId : Nat := 0
  lba : Nat := 0
  count : Nat := 0
  deadlineMs : Nat := 0
  dptr0 : Nat := 0
  dptr1 : Nat := 0
  spec : Nat := 0
  rsvd : Nat := 0
  dchk : Nat := 0
  deriving DecidableEq, Repr


/-- An upstream servo slot as it arrives at a port (spec/03 "Upstream servo slot, 64 bytes"): the header fields, the bridge status, one
telemetry item, the sample fields and the CRC. -/
structure UpSlot where
  type : Nat := 0xA1
  drop : Nat := 0
  ver : Nat := 2
  seq : Nat := 0
  epoch : Nat := 0
  fcode : Nat := 0
  fdetail : Nat := 0
  safe : Bool := false
  lsup : Bool := false
  trayIn : Bool := false
  trayOut : Bool := false
  clamped : Bool := false
  disc : Bool := false
  ovld : Bool := false
  tlmIdx : Nat := 0
  tlmVal : Nat := 0
  ackSeq : Nat := 0
  fe : Int := 0
  sum : Int := 0
  te0 : Int := 0
  te1 : Int := 0
  te2 : Int := 0
  te3 : Int := 0
  lens : Int := 0
  tilt : Int := 0
  sae : Int := 0
  lmon : Int := 0
  ish1 : Int := 0
  ish2 : Int := 0
  bemfA : Int := 0
  bemfB : Int := 0
  vbus : Int := 0
  isled : Int := 0
  crc : Nat := 0
  deriving DecidableEq, Repr



/-- An address read from a disc: a HAF sector header (layer, cluster, frame), a HAF wobble (layer, track), or a BD address with its place
along the spiral and the radius in nm of its track (R138, R183, R231). -/
inductive DiscAddr where
  | header (layer cluster frame : Nat)
  | wobble (layer track : Nat)
  | bd (layer place radius : Nat)
  deriving DecidableEq, Repr


/-- What a drop reports at IDENT (R59, R63, spec/03 "Management classes"): its generation, serial number, firmware version and highest
version, whether its self-test passed and a disc is clamped, and the uA and uV of one count of its converters (R163). -/
structure DropIdent where
  drop : Nat
  gen : Nat := 4
  sn : Nat := 0
  fw : Nat := 0
  maxVer : Nat := 0x20
  selfTest : Bool := true
  clamped : Bool := false
  scaleI : Nat := 1
  scaleV : Nat := 1
  deriving DecidableEq, Repr

/-- What a training step found (R59 to R63): the pair codes of DETECT, the corrections of ALIGN, nothing for EQ and LOCK, and the partner of
IDENT: fan-out firmware and highest version, downstream corrections, the loop delay in ns, the drops. -/
inductive TrainInfo where
  | detect (up0 up1 dn0 dn1 : Fin 16)
  | align (upPol : Fin 4) (upSwap : Bool)
  | eq
  | lock
  | ident (fanout : Option (Nat × Nat)) (dnPol : Fin 4) (dnSwap : Bool) (loopNs : Nat) (drops : List DropIdent)
  | wake
  deriving DecidableEq, Repr

/-- The fields of an upstream frame header that a port acts on. -/
structure UpHeader where
  seq : Nat
  actSeq : Nat := 0
  reqLmode : Nat := 0
  dropChg : Bool := false
  crcOk : Bool := true
  /-- 64b/66b sync header errors on all lanes since the last header -/
  syncErrs : Nat := 0
  deriving DecidableEq, Repr

/-- The content of an upstream management message (spec/03 "Management classes"). -/
inductive MgmtBody where
  | ident (i : DropIdent)
  | fault (code detail : Nat)
  | status (trayIn trayOut clamped disc lsup safe : Bool) (tlmIdx tlmVal : Nat)
  | bfw
  | test (pass : Bool)
  | reset
  /-- a class that the table reserves -/
  | reserved
  deriving DecidableEq, Repr

/-- What the end of a calibration run brings in from outside (R198, R201): nothing in space 0, whose runs the device measures itself; the equaliser
settings a link found, whether none stands at a range end, and whether the link held; the readings of VREF_EXT and of ground. -/
inductive CalData where
  | measured
  | link (d0 d1 : Word) (inRange held : Bool)
  | monitor (vref gnd : Int)
  deriving DecidableEq, Repr


/-- How the data transfer of a command ends (R339, status 0x0502): done, failed, or stopped by a misaligned page list entry. -/
inductive Dma where
  | done | failed | badEntry
  deriving DecidableEq, Repr



/-- What a MOUNT reads from a disc (R207, R248, R278 to R281): the media sensed (1 a HAF disc, 8 BD-R, 9 BD-RE, any other 0xF); the DI
copies that decoded, in order; the number of written map clusters and the user bytes of those that decoded, by map cluster; the first blank
data cluster of each layer; the user bytes of the profile clusters that decoded and the number written; the layers, capacity, recorded
blocks and channel bit length (pm) of BD media. -/
structure MountInfo where
  media : Nat
  di : List (List Nat) := []
  mapWritten : Nat := 0
  appends : List (Nat × List Nat) := []
  blank : List Nat := []
  profiles : List (List Nat) := []
  profWritten : Nat := 0
  bdLayers : Nat := 1
  bdCapacity : Nat := 0
  bdNext : Nat := 0
  bdBit : Nat := 0
  deriving DecidableEq, Repr

/-- What the floe engine read of one member's unit: its 28 blocks, none where a sector stayed unreadable (R293). -/
structure FloeRead where
  member : Nat
  blocks : List (Option Nat)
  deriving DecidableEq, Repr


/-- A bridge or fan-out image of a package: its generation, version, length in bytes and CRC-32C (R489). -/
structure BfwImage where
  gen : Nat
  version : Nat
  bytes : Nat
  crc : Nat
  deriving DecidableEq, Repr

/-- What a firmware image says (R375, R463, R489): version, COMPAT, whether its signature verifies, the bridge images and the fan-out image of a
COMPONENT 1 package, the matrix files that a device image ships (R255), and the versions of its Cirque microcode, lane programs and decoder
programs (R123, R215, MOR_PROG). -/
structure FwImage where
  version : Nat
  compat : Nat := 0
  signed : Bool := true
  bridges : List BfwImage := []
  fan : Option BfwImage := none
  matrices : List (List Nat) := []
  ucode : Nat := 0
  laneProg : Nat := 0
  decProg : Nat := 0
  deriving DecidableEq, Repr

/-- A requester of the fabric whose transfer does not end (R469). -/
inductive Requester where
  | core (c : CoreIx)
  /-- a DMA channel, with the commands, buffered WRITEs and codeword whose transfers fail with it (R393) -/
  | dma (k : Fin 24) (cmds : List (FnIx × Nat)) (lost : List Nat) (cw : Option Nat)
  | lane (f : LaneIx)
  | decoder (d : DecIx)
  /-- the sector engine or the floe engine -/
  | engine
  | debug
  deriving DecidableEq, Repr

/-- An error that a memory checker found (R385, R388): class (1 data bit, 2 check bit, 3 uncorrectable), place (0 to 47 SRAM bank, 48 to 55
DRAM channel), requester code of MEM_ECC_LAST, word of the bank, DRAM line. -/
structure EccHit where
  cls : Fin 4
  loc : Fin 56
  req : Fin 32
  word : Nat := 0
  line : Nat := 0
  deriving DecidableEq, Repr

/-- What a boot stage finds (R458, R461): its FAIL_CODE, 0 for none, and the failing checker; the DRAM population and trained delays; the blocks
that fail their boot test; the straps (R535). -/
structure BootInfo where
  fail : Fin 256 := 0
  loc : Fin 56 := 0
  present : Fin 256 := 0
  rate : Fin 16 := 0
  gib : Fin 128 := 0
  delays : List (Nat × List Word) := []
  clusters : List Nat := []
  lanes : List Nat := []
  decoders : List Nat := []
  smbAddr : Fin 8 := 0
  testen : Bool := false
  deriving DecidableEq, Repr


/-- An access that reaches the port of an SRAM bank (R394, R395): the requester class (8 the debug port), whether it is a Cirque voice's, on port A,
the state partition it lies in, its first word, and the words it reads or, for a write, the byte mask and value of each word. -/
structure BankReq where
  cls : Nat
  voice : Bool
  part : Nat
  word : Nat
  words : Nat
  data : List (Nat × Nat)
  deriving DecidableEq, Repr

/-- A request that reaches a DRAM channel (R398): the requester class, the bank (subchannel x 64 + bank), the row and the page hint. -/
structure DramReq where
  cls : Nat
  bank : Nat
  row : Nat
  close : Bool
  deriving DecidableEq, Repr

/-- What a requester asks of a DRAM line by way of the Rime cache (R404, R406, R407). -/
inductive RimeAsk where
  | read
  | write (word value : Nat)
  | zero
  | prefetch
  deriving DecidableEq, Repr

/-- A request for a DRAM line: what it asks, the line, whether a core makes it on a wrong path (R414), and what checkers find if the line has to be
read from DRAM (`ecc`, with the word of an uncorrectable finding) and if a line has to be evicted (`lost`, R389). -/
structure RimeReq where
  ask : RimeAsk
  line : Nat
  cls : Nat
  wrongPath : Bool
  ecc : Nat
  word : Nat
  lost : Option Nat
  deriving DecidableEq, Repr

/-- What happens in one cycle of the memory system: requests that arrive, the DRAM banks whose timing allows a command, and the entries of the
eviction buffer whose DRAM write is issued or completes. -/
structure MemCycle where
  banks : List (Fin 48 × BankReq)
  dram : List (Fin 8 × DramReq)
  ready : List Nat
  rime : List RimeReq
  issue : List Nat
  wrote : List Nat
  deriving DecidableEq, Repr

/-- What the firmware of one core does in a Drone tick, as it can be seen from outside (R411, R415): heartbeats, the counts of event codes 1 to 8 of
MCORE_PERF_SEL by retired instructions, and the taken branches with the instructions retired before each. -/
structure CoreTick where
  beats : Nat := 0
  events : List Nat := []
  branches : List (Nat × Nat) := []
  deriving DecidableEq, Repr

/-- A ball as boundary scan sees it (R533): those whose cells observe only, the ball without a cell, any other by number. -/
inductive Ball where
  | lpermit (z : Fin 8)
  | ilkDa
  | ilkDb
  | pwren (g : Fin 6)
  | thermTrip
  | rsvd
  | other (k : Nat)
  deriving DecidableEq, Repr

/-- An instruction of the TAP (R493, R533): `extest` drives balls from the boundary-scan cells, `other` is one of debug access. -/
inductive JtagInstr where
  | idcode | bypass | sample | extest | other
  deriving DecidableEq, Repr

/-- One scan at the JTAG port: the instruction in force, the bits shifted in, the levels that the update gives to cells. -/
structure JtagScan where
  instr : JtagInstr
  tdi : List Bool
  drive : List (Ball × Bool)
  deriving DecidableEq, Repr

/-- What happens at the console and the JTAG port during a Drone tick (R532, R533): bytes of the firmware console, bytes that arrive on UART_RX, scans, and
whether the TAP is held in reset. -/
structure PinTick where
  console : List Nat
  uartRx : List Nat
  scans : List JtagScan
  tapReset : Bool
  deriving DecidableEq, Repr, Inhabited


/-- The commands of the block, in the order of spec/opcode_table.json. -/
inductive Instr where
  /-- REGISTER_WRITE: A write to a register that has no row of its own, with its effect taken by the field access types (R10). -/
  | registerWrite (addr : Nat) (value : Word) (be : Fin 16)
  /-- BAR4_ACCESS_DENIED: an access to BAR4 of a PF that is not steward completes with Unsupported Request or is discarded and counted (R320). -/
  | bar4AccessDenied (fn : FnIx) (write : Bool)
  /-- POWER_ON_RESET: VDD_DRONE or VDD_IO33 crosses its power-on threshold and the whole device is reset and booted (R542). -/
  | powerOnReset
  /-- BROWN_OUT_RESET: A power-good input of an enabled group falls and a cold reset of the core domain follows (R434). -/
  | brownOutReset (g : Fin 6)
  /-- PIN_RESET: RESET_L held low for at least 1 us resets the core domain cold and the Drone state machines (R450). -/
  | pinReset
  /-- SOFT_WARM_RESET: RST_CTRL OP 1 with the key performs a warm reset of the core domain (R448). -/
  | softWarmReset (key : Fin 65536)
  /-- SOFT_PIN_RESET: RST_CTRL OP 2 with the key performs a reset as RESET_L (R450). -/
  | softPinReset (key : Fin 65536)
  /-- DEBUG_RESET: an authenticated JTAG reset request performs a warm reset of the core domain (R448). -/
  | debugReset
  /-- LOCKUP_RESET: no core RUNNING for 1 s or a fabric hang for 10 ms starts a warm reset (R448). -/
  | lockupReset (hang : Bool)
  /-- BOOT_STAGE_DONE: A boot stage ends and the next begins, or the boot stops on a failed stage (R458). -/
  | bootStageDone (x : BootInfo)
  /-- OPTION_PROGRAM: RST_OPT_CMD OP 1 programs the staged option block into the lowest blank OTP slot (R457). -/
  | optionProgram (ok : Bool)
  /-- OPTION_READ: RST_OPT_CMD OP 2 reads an OTP option slot into the stage (R457). -/
  | optionRead (slot : Fin 16)
  /-- BLOCK_RESET: RST_BLK_CMD GO resets one block if it meets its idle condition (R465). -/
  | blockReset (cls : Fin 16) (index : Fin 512)
  /-- TRIAL_CONFIRM: after 60 s without an unplanned restart the TRIAL boot record becomes CONFIRMED (R464). -/
  | trialConfirm
  /-- XTAL_LOST: no crystal edge for 1 ms moves the Drone clock to the RC oscillator (R419). -/
  | xtalLost
  /-- XTAL_RELOCK: crystal edges present for 100 ms relock the Drone clock to the crystal (R419). -/
  | xtalRelock
  /-- REFCLK_LOST: REFCLK_SYS missing or out of range starts the clock-failure reset (R420). -/
  | refclkLost
  /-- TIME_RATIO_MEASURE: once per second while ACTIVE the device measures DRN_TIME_RATIO (R423). -/
  | timeRatioMeasure (ticks : Nat)
  /-- DOZE_IDLE: the idle conditions held for IDLE_MS start DOZE_ENTRY (R426). -/
  | dozeIdle
  /-- DOZE_REQUEST: DRN_PCTRL OP 1 enters DOZE_ENTRY at once when the idle conditions hold (R426). -/
  | dozeRequest
  /-- HIBERNATE_REQUEST: DRN_PCTRL OP 2 saves state and powers the core domain down into HIBERNATE (R430). -/
  | hibernateRequest (retain : List Word)
  /-- WAKE: A wake source leaves DOZE or HIBERNATE and the device becomes ACTIVE (R429). -/
  | wake (src : Fin 16)
  /-- WAKE_TIMER: A Drone wake timer reaches its time, sets FIRED and wakes the device (R429). -/
  | wakeTimer (k : Fin 4)
  /-- RETRY_WAKE: the RETRY_WAKE_S interval wakes the device to retry a FAILED port (R429). -/
  | retryWake
  /-- PGOOD_TIMEOUT: A power-good input does not rise within PG_TO_MS and every group is switched off (R434). -/
  | pgoodTimeout
  /-- POWER_RETRY: one second after a failed power-up the sequence is tried again, or FAILED is entered after 3 tries (R434). -/
  | powerRetry
  /-- TEMP_SAMPLE: every 100 us TMAX is sampled and WARN set or cleared (R436). -/
  | tempSample (temps : List Int)
  /-- FAN_UPDATE: every 100 ms the fan duty is recomputed from the curve (R437). -/
  | fanUpdate
  /-- TACH_MEASURE: each tach input is measured every second and STUCK set or cleared (R438). -/
  | tachMeasure (k : Fin 8) (edges : Nat)
  /-- THERMAL_STOP: TMAX at or above Tsd for 3 samples starts the managed thermal shutdown (R439). -/
  | thermalStop
  /-- THERMAL_RESTART: after every comparator reads below Tsd minus 10 C for 1 s the core domain restarts (R442). -/
  | thermalRestart
  /-- TCRIT_TRIP: A comparator at Tcrit drops every enable, resets the core domain and enters TRIPPED (R444). -/
  | tcritTrip (sensor : Fin 16)
  /-- TRIP_RESTART: TRIPPED restarts the core domain once cool and TRIP_HOLD_S has passed (R445). -/
  | tripRestart
  /-- SUPERVISOR_TIMEOUT: no supervisor kick for SUP_MS or BOOT_MS triggers the supervisor warm reset (R471). -/
  | supervisorTimeout (lost : Fin 65536)
  /-- SUP_KICK: firmware writes DBG_SUP_KICK to restart the supervisor timer (R471). -/
  | supKick (v : Word)
  /-- FABRIC_TIMEOUT: A granted fabric transfer not complete after FABRIC_US is ended with error and its requester reset (R469). -/
  | fabricTimeout (r : Requester) (code : Fin 65536) (base : Fin 65536) (granted : Nat)
  /-- EVENT_GATHER_END: the 1 ms gathering period ends and gathered rises of DBG_EVT_SUM are posted to the steward (R473). -/
  | eventGatherEnd
  /-- BIST_TEST_BLOCK: DBG_BIST_CMD OP 1 tests one block online (R485). -/
  | bistTestBlock (cls : Fin 16) (index : Fin 512)
  /-- BIST_WINDOW: DBG_BIST_CMD OP 2 opens a full-device test window under a held reset (R487). -/
  | bistWindow (fail : Bool) (unit : Fin 16) (channels : Fin 256) (durMs : Fin 65536)
  /-- PERIODIC_BIST: each PERIOD_H the device tests every cluster, lane, decoder and core in turn (R486). -/
  | periodicBist
  /-- BIST_DONE: A block test ends with a pass or fail verdict and the block is re-initialised (R482). -/
  | bistDone (pass : Bool) (memory : Bool)
  /-- AUTH_CHALLENGE: DBG_AUTH_CMD OP 1 places a fresh challenge (R493). -/
  | authChallenge
  /-- AUTH_VERIFY: DBG_AUTH_CMD OP 2 verifies the response signature (R493). -/
  | authVerify (ok : Bool)
  /-- AUTH_END: DBG_AUTH_CMD OP 3 ends debug authentication (R493). -/
  | authEnd
  /-- LIVE_UPDATE_STEP: one unit of a rolling activation finishes and the next unit or phase begins (R488). -/
  | liveUpdateStep
  /-- BFW_UPDATE: A bridge or fan-out that qualifies is sent a new image, checked and activated (R489). -/
  | bfwUpdate (mn : Fin 4160) (image : List Nat) (offer : Fin 4) (check : Fin 4)
  /-- BFW_REBOOT_TIMEOUT: REBOOT_MS after ACTIVATE ends the suspension for a drop that has not returned (R490). -/
  | bfwRebootTimeout (mn : Fin 4160)
  /-- CORE_READY: A restarting core reports ready and returns to RUNNING, taking back its home ports (R409). -/
  | coreReady (c : CoreIx)
  /-- CORE_HB_TIMEOUT: A core does not advance its heartbeat within HB_MS and is restarted (R411). -/
  | coreHbTimeout (c : CoreIx)
  /-- CORE_TRAP: A core traps, recording the trap and restarting on a fatal cause (R391). -/
  | coreTrap (c : CoreIx) (cause : Fin 256) (pc : Word) (addr : Word) (fatal : Bool) (ecc : Option EccHit)
  /-- CORE_PLANNED_RESTART: MCORE_CMD OP 1 restarts a RUNNING core with cause 5 (R413). -/
  | corePlannedRestart (c : CoreIx)
  /-- CORE_RELEASE: MCORE_CMD OP 2 releases a HELD core and restarts it (R412). -/
  | coreRelease (c : CoreIx)
  /-- CE_WRITEBACK: A corrected SRAM word is written back within 64 idle cycles (R386). -/
  | ceWriteback (bank : Fin 48) (word : Fin 262144)
  /-- PATROL_SCRUB: the patrol scrubber reads the next SRAM or DRAM word in an idle cycle (R386). -/
  | patrolScrub (dram : Bool) (hit : Option EccHit)
  /-- MERGE_FLUSH: A partial merge-buffer entry idle for IDLE_CYC is read, merged and written to its bank (R387). -/
  | mergeFlush (bank : Fin 48) (word : Fin 262144) (cls : Fin 4)
  /-- DMA_HALT: A DMA channel halts on an uncorrectable read or completion timeout and fails its transfers (R393). -/
  | dmaHalt (k : Fin 24) (ecc : Option EccHit) (cmds : List (FnIx × Nat)) (lost : List Nat) (cw : Option Nat)
  /-- DMA_RESTART: A halted DMA channel restarts 5 ms after the halt (R393). -/
  | dmaRestart (k : Fin 24)
  /-- DRAM_REFRESH: A channel's refresh interval expires and refresh runs, as an emergency at its postponement limit (R399). -/
  | dramRefresh (ch : ChannelIx)
  /-- SELF_REFRESH_ENTRY: A channel idle for SR_IDLE_US enters self-refresh (R400). -/
  | selfRefreshEntry (ch : ChannelIx)
  /-- DDR_APPLY_DELAYS: MEM_DDR_CMD OP 1 loads a channel's written delays as one action (R401). -/
  | ddrApplyDelays (ch : ChannelIx)
  /-- DDR_RETUNE: the die temperature moves by RETUNE_DELTA and firmware writes and applies new delays (R402). -/
  | ddrRetune (ch : ChannelIx)
  /-- DDR_TEST_START: MEM_DDR_TEST_CTRL START runs the test engine on an idle channel (R402). -/
  | ddrTestStart (ch : ChannelIx) (pattern : Fin 16) (len : Fin 65536) (fails : Option (Fin 1024))
  /-- DDR_TEST_STOP: MEM_DDR_TEST_CTRL STOP ends the test run (R402). -/
  | ddrTestStop
  /-- RIME_INVALIDATE: MEM_RIME_CTRL OP 1 discards every line and sets INVAL_DONE (R405). -/
  | rimeInvalidate
  /-- RIME_FLUSH: MEM_RIME_CTRL OP 2 writes back every dirty line (R405). -/
  | rimeFlush
  /-- RIME_ENABLE: setting MEM_RIME_CTRL.EN enables the cache if invalidated (R405). -/
  | rimeEnable
  /-- RIME_DISABLE: clearing MEM_RIME_CTRL.EN writes back dirty lines and bypasses the cache (R405). -/
  | rimeDisable
  /-- RIME_WAYS_CHANGE: A write of MEM_RIME_CTRL.WAYS changes the geometry while disabled (R405). -/
  | rimeWaysChange (ways : Fin 32)
  /-- PORT_ENABLE: setting PEN_CFG.EN starts training of a port after its LINK grant (R59). -/
  | portEnable (p : PortIx)
  /-- PORT_DISABLE: clearing PEN_CFG.EN makes servo-active mechanisms safe and retrains the port finding no drop (R82). -/
  | portDisable (p : PortIx)
  /-- RETRAIN: PEN_CTRL RETRAIN retrains the port (R59). -/
  | retrain (p : PortIx)
  /-- SLEEP: PEN_CTRL SLEEP puts the port in LOWPOWER at once when idle (R87). -/
  | sleep (p : PortIx)
  /-- PORT_WAKE: PEN_CTRL WAKE wakes the port from LOWPOWER (R88). -/
  | portWake (p : PortIx)
  /-- CLR_CNT: PEN_CTRL CLR_CNT clears every counter of the port (R59). -/
  | clrCnt (p : PortIx)
  /-- TRAIN_STEP_DONE: A training step completes and the next starts, or the port reaches ACTIVE or DEGRADED (R59). -/
  | trainStepDone (p : PortIx) (x : TrainInfo)
  /-- TRAIN_STEP_TIMEOUT: A training step exceeds its limit and the port enters FAILED (R59). -/
  | trainStepTimeout (p : PortIx) (partner : Bool)
  /-- TRAIN_RETRY: RETRY_MS in FAILED ends and training starts again (R59). -/
  | trainRetry (p : PortIx)
  /-- FRAME_TICK: A port's frame tick starts a downstream frame with header, actuator slots, bursts and messages (R65). -/
  | frameTick (p : PortIx)
  /-- UPSTREAM_HEADER: A valid upstream header arrives, keeping lock and carrying lane requests and drop changes (R81). -/
  | upstreamHeader (p : PortIx) (h : UpHeader)
  /-- SERVO_SLOT_RECEIVED: an upstream servo slot arrives and is accepted or counted missing (R74). -/
  | servoSlotReceived (p : PortIx) (k : Fin 16) (x : UpSlot) (onTime : Bool)
  /-- SERVO_SLOT_MISSING: an expected servo slot is missing; the mechanism is held or, at MISS_LIMIT, made safe with 0x70 (R80). -/
  | servoSlotMissing (p : PortIx) (k : Fin 16)
  /-- ACTUATOR_REPEAT: no actuator result is ready 96 ns after arrival and the previous drive repeats (R77). -/
  | actuatorRepeat (mn : Mn)
  /-- LOCK_TIMEOUT: A port not locked for LOCK_TO_MS retrains (R81). -/
  | lockTimeout (p : PortIx)
  /-- DROP_TIMEOUT: A drop silent for LOCK_TO_MS is retrained by port or fan-out downlink (R81). -/
  | dropTimeout (mn : Mn)
  /-- DROP_NOT_FOUND: A drop not identified within LOCK_TO_MS after a retrain goes ABSENT (R82). -/
  | dropNotFound (mn : Mn)
  /-- MGMT_MESSAGE: A management message is received and taken in order, discarded or counted as error (R75). -/
  | mgmtMessage (p : PortIx) (a : Fin 65) (mseq : Fin 4096) (mack : Fin 4096) (good : Bool) (b : MgmtBody)
  /-- MGMT_RESEND: 32 frames without acknowledgement resend the oldest unacknowledged message (R75). -/
  | mgmtResend (p : PortIx) (a : Fin 65)
  /-- MAP_EPOCH_CHANGE: at ACT_SEQ both ends switch to the new slot map and epoch (R71). -/
  | mapEpochChange (p : PortIx)
  /-- LANE_LOSS: A receive lane loses block lock and a single-lane change is announced (R84). -/
  | laneLoss (p : PortIx) (lane : Fin 2)
  /-- LANE_MODE_SWITCH: at ACT_SEQ the lane mode changes and excess bursts are withdrawn (R85). -/
  | laneModeSwitch (p : PortIx) (loopNs : Nat)
  /-- LANE_REJOIN_ATTEMPT: every 1,000 ms the device tries to lock a dropped receive lane (R86). -/
  | laneRejoinAttempt (p : PortIx) (lock : Bool)
  /-- LANE_REJOIN: A lane that held lock for 100 ms rejoins at an announced ACT_SEQ (R86). -/
  | laneRejoin (p : PortIx)
  /-- TX_OVERCURRENT: transmitter over-current shuts the lane within 1 us (R61). -/
  | txOvercurrent (p : PortIx) (lane : Fin 2)
  /-- TX_OVERCURRENT_RETRY: every 1,000 ms an over-current lane is retried (R61). -/
  | txOvercurrentRetry (p : PortIx) (lane : Fin 2) (clear : Bool)
  /-- LOWPOWER_ENTRY: A port idle for IDLE_US enters LOWPOWER and returns its LINK grant (R87). -/
  | lowpowerEntry (p : PortIx)
  /-- PARTNER_WAKE: A partner wake request seen by the squelch detector wakes the port (R88). -/
  | partnerWake (p : PortIx)
  /-- PORT_WAKE_TIMEOUT: A port not locked 40 us after its wake grant retrains from DETECT (R88). -/
  | portWakeTimeout (p : PortIx)
  /-- SERVO_POSITION_GRANT: A freed servo position goes to the earliest waiter that can use it (R564). -/
  | servoPositionGrant (p : PortIx)
  /-- SLOT_SAMPLE: A slot computes its loops for one servo sample and delivers the actuator result (R109). -/
  | slotSample (mn : Mn) (x : UpSlot)
  /-- CLUSTER_FAULT: A lockstep mismatch, parity or double-bit error starts an unplanned handover (R113). -/
  | clusterFault (c : ClusterIx) (cause : Fin 3)
  /-- HANDOVER_SERVE: from d + 960 ns the spare serves each slot from its last checkpoint (R114). -/
  | handoverServe (copies : List Mn)
  /-- CLUSTER_TEST_DONE: A cluster's test ends and it takes a role or becomes OUT_OF_SERVICE (R117). -/
  | clusterTestDone (c : ClusterIx) (pass : Bool)
  /-- HO_TEST: CIRQ_HO_CMD OP 1 hands a cluster over and tests it (R121). -/
  | hoTest (c : Fin 32)
  /-- HO_UCODE: CIRQ_HO_CMD OP 2 hands a cluster over, loads microcode and tests it (R121). -/
  | hoUcode (c : Fin 32)
  /-- HO_FORMAT: CIRQ_HO_CMD OP 3 hands a cluster over to a spare of the new format with new records (R122). -/
  | hoFormat (c : Fin 32) (fmt : Bool)
  /-- HO_RETEST: CIRQ_HO_CMD OP 4 retests an OUT_OF_SERVICE cluster (R121). -/
  | hoRetest (c : Fin 32)
  /-- PLANNED_SWITCH: at the chosen switch instant a planned handover or slot move takes effect (R120). -/
  | plannedSwitch (mn : Option Mn) (copies : List Mn)
  /-- COLLISION_MOVE: within 16 periods of a collision the device moves the slot to a placed cluster (R110). -/
  | collisionMove (mn : Mn)
  /-- COEF_STAGE_TO_SHADOW: CIRQ_COEF_CMD OP 1 checks a staged record and writes it to a shadow bank (R102). -/
  | coefStageToShadow (mn : Mn) (l : LoopIx)
  /-- COEF_SHADOW_TO_STAGE: CIRQ_COEF_CMD OP 2 copies a shadow bank record into CIRQ_STAGE (R562). -/
  | coefShadowToStage (mn : Mn) (l : LoopIx)
  /-- COEF_ACTIVE_TO_STAGE: CIRQ_COEF_CMD OP 3 copies an active bank record into CIRQ_STAGE (R101). -/
  | coefActiveToStage (mn : Mn) (l : LoopIx)
  /-- COEF_STAGE_TO_LIBRARY: CIRQ_COEF_CMD OP 4 writes a staged record to the coefficient library (R108). -/
  | coefStageToLibrary (cls : Fin 8) (l : LoopIx) (fmt : Bool)
  /-- COEF_LIBRARY_TO_STAGE: CIRQ_COEF_CMD OP 5 copies a library record into CIRQ_STAGE (R101). -/
  | coefLibraryToStage (cls : Fin 8) (l : LoopIx) (fmt : Bool)
  /-- SWAP_FROM_SHADOW: CIRQ_LOOP_CMD OP 1 puts loops in HOLD to swap to shadow records (R105). -/
  | swapFromShadow (mn : Mn) (mask : Fin 256)
  /-- SWAP_FROM_LIBRARY: CIRQ_LOOP_CMD OP 2 puts loops in HOLD to swap to library records (R105). -/
  | swapFromLibrary (mn : Mn) (mask : Fin 256)
  /-- SWAP_ABORT: CIRQ_LOOP_CMD OP 3 abandons a HOLD at the next sample (R106). -/
  | swapAbort (mn : Mn)
  /-- SWAP_EXECUTE: when every new record is fetched the loops swap banks and enter SOFT (R105). -/
  | swapExecute (mn : Mn)
  /-- SWAP_HOLD_TIMEOUT: HOLD_MAX periods without a swap abandon it (R106). -/
  | swapHoldTimeout (mn : Mn)
  /-- INJ_START: CIRQ_INJ_CTRL START starts the injection generator if allowed (R157). -/
  | injStart (c : ClusterIx) (mn : Mn) (l : LoopIx) (hold : Fin 16) (type : Fin 4)
  /-- INJ_STOP: CIRQ_INJ_CTRL STOP stops the generator (R156). -/
  | injStop (c : ClusterIx)
  /-- CAP_ARM: CIRQ_CAP_CTRL ARM takes a buffer and arms the capture engine (R158). -/
  | capArm (c : ClusterIx) (mn : Mn) (dec : Fin 16) (trig : Fin 4)
  /-- CAP_STOP: CIRQ_CAP_CTRL STOP ends the capture (R158). -/
  | capStop (c : ClusterIx)
  /-- PULL_IN_ATTEMPT_TIMEOUT: an attempt reaches its time limit without verification and fails, starting the next or fault 0x60 (R131). -/
  | pullInAttemptTimeout (mn : Mn)
  /-- LAYER_JUMP: the device starts a layer jump, entering SPINNING and ramping SA toward the target layer (R133). -/
  | layerJump (mn : Mn) (layer : Fin 10)
  /-- LAYER_STEP_TIMEOUT: A layer step not verified within LJ_MS fails and a full pull-in follows (R134). -/
  | layerStepTimeout (mn : Mn)
  /-- TRACK_ON_TIMEOUT: track-on not achieved within TRK_ON_MS records fault 0x61 (R138). -/
  | trackOnTimeout (mn : Mn)
  /-- TRACK_JUMP: A fine track jump of n tracks is kicked, braked and closed by track-on (R140). -/
  | trackJump (mn : Mn) (tracks : Int)
  /-- LONG_SEEK: A long seek moves the sled to a target and closes by track-on in rounds (R141). -/
  | longSeek (mn : Mn) (tracks : Int) (cmd : Option (FnIx × Nat))
  /-- ADDRESS_READ: A passing address is reported, correcting sled position and angle and checking direction (R231). -/
  | addressRead (mn : Mn) (b : BeamIx) (a : DiscAddr) (theta : Option Word) (residual : Option Int)
  /-- PROFILE_ALIGN: after half a revolution of capture the core scores offsets and aligns or discards the profile (R154). -/
  | profileAlign (mn : Mn)
  /-- PROFILE_LEARN_DONE: after 16 good revolutions the learned tables replace the old ones (R151). -/
  | profileLearnDone (mn : Mn)
  /-- SPIN_START: the first servo slot after the SPINUP grant starts the spindle sequence (R166). -/
  | spinStart (mn : Mn)
  /-- SENSE_DONE: SENSE_MS ends and the start continues to CATCH, SHORT or REST (R166). -/
  | senseDone (mn : Mn)
  /-- REVERSE_SHORT_DONE: the 16 ms short brake on reverse rotation ends and SENSE runs again (R166). -/
  | reverseShortDone (mn : Mn)
  /-- COAST_WAIT_DONE: the EX1 WAIT of COAST_MS ends and REST follows (R167). -/
  | coastWaitDone (mn : Mn)
  /-- CATCH_DONE: after 8 periods at zero current loop 6 closes and the spindle enters SLEW (R168). -/
  | catchDone (mn : Mn)
  /-- REST_DONE: REST_MS ends and ALIGN starts (R169). -/
  | restDone (mn : Mn)
  /-- ALIGN_DONE: ALIGN_MS ends and RAMP starts (R169). -/
  | alignDone (mn : Mn)
  /-- OBSERVER_HANDOVER: the forced speed reaches OL_RPM and the observer is tested for takeover (R169). -/
  | observerHandover (mn : Mn)
  /-- OBSERVER_TIMEOUT: the observer does not lock within 200 ms and the attempt fails (R169). -/
  | observerTimeout (mn : Mn)
  /-- SPINUP_TIMEOUT: SPINUP_MS passes before planned speed and fault 0x60 detail 0xF is recorded (R170). -/
  | spinupTimeout (mn : Mn)
  /-- SPEED_REACHED: planned speed is held for 16 periods, the SPINUP part is returned and pull-in starts (R171). -/
  | speedReached (mn : Mn)
  /-- SPEED_PLAN: the speed plan is recomputed on a zone or term change and every 10 ms while streaming (R173). -/
  | speedPlan (mn : Mn)
  /-- TARGET_DWELL: after DWELL_MS of difference TARGET takes the new plan value (R174). -/
  | targetDwell (mn : Mn)
  /-- IDLE_SPIN_DOWN: A TRACKING mechanism idle for IDLE_SPIN_MS spins down to PARKED (R43). -/
  | idleSpinDown (mn : Mn)
  /-- SLOT_RECLAIM: A mechanism waiting for a slot causes the longest-idle TRACKING mechanism to spin down (R44). -/
  | slotReclaim (mn : Mn)
  /-- SPIN_DOWN: A normal spin-down parks the sled and brakes or coasts the spindle (R176). -/
  | spinDown (mn : Mn)
  /-- SHORT_BRAKE_DONE: SHORT_MS ends and the spindle is STOPPED, releasing slot and SPIN grant (R177). -/
  | shortBrakeDone (mn : Mn)
  /-- COAST_DOWN_ELAPSED: COAST_MS after drive stop TURNING stops being held (R178). -/
  | coastDownElapsed (mn : Mn)
  /-- SLED_HOLD_CURRENT: after HOLD_DELAY_MS at rest the sled current drops to I_HOLD (R179). -/
  | sledHoldCurrent (mn : Mn)
  /-- SLED_TBL_STAGE_TO_TABLE: MECH_SLED_TBL_CTRL OP 1 copies the staged sine table to every cluster (R184). -/
  | sledTblStageToTable (cls : Fin 8)
  /-- SLED_TBL_TABLE_TO_STAGE: MECH_SLED_TBL_CTRL OP 2 reads a class table into the stage (R184). -/
  | sledTblTableToStage (cls : Fin 8)
  /-- SLED_TBL_DEFAULT_TO_STAGE: MECH_SLED_TBL_CTRL OP 3 places the default sine table in the stage (R179). -/
  | sledTblDefaultToStage (cls : Fin 8)
  /-- TRAY_MOVE_START: A tray or clamp move begins with a servo position and SEEK grant (R185). -/
  | trayMoveStart (mn : Mn)
  /-- TRAY_SWITCH_REACHED: the target switch reads active for DEBOUNCE_MS and the move stops (R185). -/
  | traySwitchReached (mn : Mn)
  /-- TRAY_TIMEOUT: A tray or clamp move fails its limits and fault 0x39 is recorded (R186). -/
  | trayTimeout (mn : Mn)
  /-- FORCE_SAFE: MECH_CTRL FORCE_SAFE makes the mechanism safe with fault 0x90 (R47). -/
  | forceSafe (mn : Mn)
  /-- CLR_FAULT: MECH_CTRL CLR_FAULT moves a FAULTED mechanism to its rest state (R37). -/
  | clrFault (mn : Mn)
  /-- UNISOLATE: MECH_CTRL UNISOLATE reruns the bridge self-test and releases the isolation if it passes (R50). -/
  | unisolate (mn : Mn) (pass : Bool) (clamped : Bool)
  /-- CAL_TEMP_CHECK: every 100 ms temperatures are compared and items marked stale (R190). -/
  | calTempCheck
  /-- CAL_RUN_START: A stale item's automatic run starts in a gap of the mechanism's work (R191). -/
  | calRunStart (space : Fin 4) (index : Fin 4096) (layer : Fin 10) (item : Fin 6) (probe : Fin 4097)
  /-- CAL_RUN_DONE: A calibration run ends and its result passes or fails the plausibility limits (R198). -/
  | calRunDone (space : Fin 4) (index : Fin 4096) (layer : Fin 10) (item : Fin 6) (x : CalData)
  /-- CAL_RETRY: RETRY_S after a failed run the item may run again (R198). -/
  | calRetry (space : Fin 4) (index : Fin 4096) (layer : Fin 10) (item : Fin 6)
  /-- CAL_READ_WINDOW: MECH_CAL_CMD OP 1 copies a record into MECH_CAL_DATA (R203). -/
  | calReadWindow (items : Fin 64)
  /-- CAL_WRITE_WINDOW: MECH_CAL_CMD OP 2 checks and writes the window's values (R203). -/
  | calWriteWindow (items : Fin 64)
  /-- CAL_RUN_NOW: MECH_CAL_CMD OP 3 starts the selected runs at once (R203). -/
  | calRunNow (items : Fin 64) (probe : Fin 4097)
  /-- CAL_MARK_STALE: MECH_CAL_CMD OP 4 marks selected items stale (R190). -/
  | calMarkStale (items : Fin 64)
  /-- LANE_BIND: A Firn lane is bound to a mechanism, loading taps and entering SEARCH (R209). -/
  | laneBind (mn : Mn) (own : Bool)
  /-- LANE_IDLE_RELEASE: after IDLE_HOLD_US with no work the lane is released and taps stored (R211). -/
  | laneIdleRelease (mn : Mn)
  /-- LANE_MIGRATE: FIRN_LANE_CMD OP 1 starts a planned migration to a free lane (R212). -/
  | laneMigrate (lane : Fin 512)
  /-- LANE_TEST: FIRN_LANE_CMD OP 2 tests a FREE lane (R214). -/
  | laneTest (lane : Fin 512)
  /-- LANE_RETEST: FIRN_LANE_CMD OP 3 retests an OUT_OF_SERVICE lane (R214). -/
  | laneRetest (lane : Fin 512)
  /-- MIGRATION_SWITCH: at the HAF cluster boundary the target takes over and the source is released (R212). -/
  | migrationSwitch (f : LaneIx)
  /-- LANE_FAULT: A lane fault rebinds the mechanism to a free lane and drops unfinished frames (R213). -/
  | laneFault (f : LaneIx) (cause : Fin 3)
  /-- LANE_TEST_DONE: A lane test ends, making it FREE or OUT_OF_SERVICE (R214). -/
  | laneTestDone (f : LaneIx) (pass : Bool)
  /-- RF_BURST: an RF burst is taken by the lane and processed into framing decisions and LLRs (R216). -/
  | rfBurst (f : LaneIx) (seq : Fin 4096) (ovld : Fin 16) (gain : Word) (words : List (BitVec 128)) (place : Option (Fin 16 × Fin 1048576 × Fin 8))
  /-- LEVEL_BANK_SWITCH: after the bridge acknowledges a level table the lane switches banks at the next cluster boundary (R237). -/
  | levelBankSwitch (f : LaneIx)
  /-- WRITE_STOP: A write stop request ends the run at a frame boundary (R239). -/
  | writeStop (f : LaneIx)
  /-- WRITE_STOP_TIMEOUT: A beam still writing 100 us after a stop request stops and emits L0 (R239). -/
  | writeStopTimeout (f : LaneIx)
  /-- LLR_MOVE: A READY codeword is moved into a free SRAM slot (R256). -/
  | llrMove
  /-- CODEWORD_URGENT: A READY codeword becomes urgent and may preempt a decoder (R263). -/
  | codewordUrgent (cw : Nat)
  /-- PARK_COMPLETE: A victim decoder writes its park state and the urgent codeword takes its slot and decoder (R264). -/
  | parkComplete (d : DecIx)
  /-- DECODER_GRANT: A free decoder is granted to the highest-ranked request (R261). -/
  | decoderGrant
  /-- DECODE_ITERATION: A decoder completes an iteration and the syndrome decides convergence or continuation (R258). -/
  | decodeIteration (d : DecIx)
  /-- WALL_TIMEOUT: A codeword reaches WALL_US and is declared uncorrectable (R260). -/
  | wallTimeout (cw : Nat)
  /-- STARVE_TIMEOUT: A request waiting longer than STARVE_US sets STARVE (R265). -/
  | starveTimeout (cw : Nat)
  /-- DECODER_WATCHDOG: A decoder without progress for WDOG_US is reset (R266). -/
  | decoderWatchdog (d : DecIx) (error : Bool)
  /-- DEC_TEST: MOR_DEC_CMD OP 1 tests a decoder (R266). -/
  | decTest (d : DecIx)
  /-- DEC_ENABLE: MOR_DEC_CMD OP 2 returns a tested decoder to the pool (R266). -/
  | decEnable (d : DecIx)
  /-- DEC_DISABLE: MOR_DEC_CMD OP 3 removes a decoder from the pool (R266). -/
  | decDisable (d : DecIx)
  /-- DECODER_TEST_DONE: A decoder test ends and it returns or becomes OUT_OF_SERVICE (R266). -/
  | decoderTestDone (d : DecIx) (pass : Bool)
  /-- OUTER_DECODE: after the last verdict of a cluster the outer Reed-Solomon decode runs (R269). -/
  | outerDecode (mn : Mn) (layer : Fin 16) (cluster : Nat)
  /-- SECTOR_RETRY_REV: A reread revolution ends, outer decode reruns, and retry ends at RETRY_REVS (R270). -/
  | sectorRetryRev (mn : Mn) (layer : Fin 16) (cluster : Nat)
  /-- MAP_APPEND: A map-zone append of commit records is written and becomes durable or fails (R22). -/
  | mapAppend (mn : Mn) (ok : Bool)
  /-- APPEND_RETRY: A pending append is tried again once its cause has passed (R22). -/
  | appendRetry (mn : Mn)
  /-- STRIPE_CLOSE_TIMEOUT: CLOSE_MS after a stripe's first unit the stripe closes (R289). -/
  | stripeCloseTimeout (id : Fin 4096) (num : Nat)
  /-- RESYNC: an unprotected stripe is resynced once its members are mounted (R291). -/
  | resync (id : Fin 4096) (num : Nat)
  /-- FLOE_RECONSTRUCT: an unresolved sector of a data member is rebuilt from k other members (R293). -/
  | floeReconstruct (mn : Mn) (layer : Fin 16) (cluster : Nat)
  /-- FLOE_REPAIR: after the read completes the rebuilt unit is written to a new cluster and remapped (R295). -/
  | floeRepair (mn : Mn)
  /-- SCRUB_TICK: background scrub takes the next closed stripe at RATE per second (R298). -/
  | scrubTick (id : Fin 4096)
  /-- REBUILD_STEP: A rebuild reconstructs the next stripe's unit and writes it to the target (R296). -/
  | rebuildStep (id : Fin 4096)
  /-- BREATH_REQUEST: A core or test controller requests a power grant, decided within 2 us (R306). -/
  | breathRequest (cls : Fin 8) (who : Mn) (v : Nat) (prio : Fin 256) (cmd : Option (FnIx × Nat))
  /-- BREATH_RELEASE: A grant is returned and deferred requests of the domain are re-evaluated (R306). -/
  | breathRelease (cls : Fin 8) (who : Mn)
  /-- REQUEST_AGED: A request waiting AGE_MS ages, drops KEEP and may block its class (R309). -/
  | requestAged (cls : Fin 8) (who : Mn)
  /-- OVERDRAW_TICK: every 100 us measured power is updated and THROTTLE lowered or raised (R313). -/
  | overdrawTick
  /-- OVERDRAW_LONG: overdraw for OVER_MS at full throttling sets OVERDRAW_LONG (R313). -/
  | overdrawLong (d : DomainIx)
  /-- MECH_EXCESS: measured power a quarter above committed for 10 ms sets MECH_EXCESS (R314). -/
  | mechExcess (mn : Mn)
  /-- BIST_GAP_EXPIRY: GAP_US after the previous BIST grant the next deferred BIST request may be granted (R315). -/
  | bistGapExpiry
  /-- HOST_PORT_RESET: A host port reset or link-down stops its functions and may lose the steward (R319). -/
  | hostPortReset (p : HostPort)
  /-- FUNCTION_LEVEL_RESET: an FLR of a function or PF stops it with work in flight (R348). -/
  | functionLevelReset (fn : FnIx)
  /-- BUS_MASTER_CLEAR: bus master enable cleared stops the function (R348). -/
  | busMasterClear (fn : FnIx)
  /-- FN_ENABLE: FN_CTRL EN 1 negotiates the version and creates the admin queue pair (R322). -/
  | fnEnable (fn : FnIx) (verReq : Fin 8) (table : Option (List Nat))
  /-- FN_DISABLE: FN_CTRL EN 0 stops the function (R348). -/
  | fnDisable (fn : FnIx)
  /-- FUNCTION_STOP_DONE: within 500 us the stop completes and RDY and EN read 0 (R349). -/
  | functionStopDone (fn : FnIx)
  /-- CLAIM: FN_CLAIM_CMD OP 1 makes the PF steward when its token is high enough (R325). -/
  | claim (fn : FnIx)
  /-- STANDBY: FN_CLAIM_CMD OP 2 makes the PF standby (R325). -/
  | standby (fn : FnIx)
  /-- RELEASE: FN_CLAIM_CMD OP 3 gives up the steward or standby role (R325). -/
  | release (fn : FnIx)
  /-- HEARTBEAT: FN_CLAIM_CMD OP 4 restarts the steward heartbeat timer (R325). -/
  | heartbeat (fn : FnIx)
  /-- STEWARD_HB_TIMEOUT: no heartbeat for HB_MS loses the steward and may promote the standby (R326). -/
  | stewardHbTimeout
  /-- FENCE_FUNCTION: HQP_FENCE OP 1 fences a function (R328). -/
  | fenceFunction (target : Fin 256)
  /-- FENCE_PORT: HQP_FENCE OP 2 fences a host port (R328). -/
  | fencePort (target : Fin 256)
  /-- UNFENCE_FUNCTION: HQP_FENCE OP 3 unfences a function (R328). -/
  | unfenceFunction (target : Fin 256)
  /-- UNFENCE_PORT: HQP_FENCE OP 4 unfences a host port (R328). -/
  | unfencePort (target : Fin 256)
  /-- ATTENTION_WRITE: A write to FN_ATTN wakes the device and starts a doorbell scan (R334). -/
  | attentionWrite (fn : FnIx)
  /-- DOORBELL_SCAN: the poller scans a function's doorbell records at its interval (R334). -/
  | doorbellScan (fn : FnIx) (recs : List (Nat × Word × Word))
  /-- DESCRIPTOR_FETCHED: A fetched descriptor is checked and accepted or rejected (R338). -/
  | descriptorFetched (fn : FnIx) (qpid : Nat) (d : Desc)
  /-- FETCH_TIMEOUT: A descriptor fetch fails or times out and is retried or the queue pair enters ERROR (R336). -/
  | fetchTimeout (fn : FnIx) (qpid : Nat) (err : Bool)
  /-- COMPLETION_WRITE: A port writer writes completion entries from its merger partition (R347). -/
  | completionWrite (p : HostPort)
  /-- COALESCE_TIMEOUT: the oldest unsignalled entry waits AGG_US and the MSI-X vector is signalled (R344). -/
  | coalesceTimeout (fn : FnIx) (qpid : Nat)
  /-- COMMAND_DEADLINE: A command's deadline expires and it completes with 0x0110 (R355). -/
  | commandDeadline (fn : FnIx) (tag : Nat)
  /-- WRITE_ACCEPTED: all data of a WRITE is in the write buffer and the WRITE is accepted (R359). -/
  | writeAccepted (fn : FnIx) (tag : Nat) (data : List Nat) (dma : Dma)
  /-- READ: reads logical blocks to host memory (R358). -/
  | read (fn : FnIx) (tag : Nat) (dma : Dma)
  /-- WRITE: writes logical blocks from host memory (R359). -/
  | write (fn : Fin 257) (tag : Nat)
  /-- VERIFY: reads and decodes blocks without moving data (R362). -/
  | verify (fn : FnIx) (tag : Nat)
  /-- COMMIT: waits until covered WRITEs are durable or lost and reports losses (R361). -/
  | commit (fn : FnIx) (tag : Nat)
  /-- MOUNT: mounts a disc, reading DI, map, profiles and snapshot (R278). -/
  | mount (fn : FnIx) (tag : Nat) (info : Option MountInfo) (dma : Dma)
  /-- UNMOUNT: writes pending records and spins down to LOADED (R39). -/
  | unmount (fn : FnIx) (tag : Nat)
  /-- LOAD: closes the tray and clamps the disc (R39). -/
  | load (fn : FnIx) (tag : Nat)
  /-- EJECT: unmounts, unclamps and opens the tray (R39). -/
  | eject (fn : FnIx) (tag : Nat)
  /-- SEEK_HINT: schedules placing the head over a target block (R366). -/
  | seekHint (fn : FnIx) (tag : Nat) (layer : Nat) (tracks : Int)
  /-- ABORT: looks for a command by TAG and catches it or reports too late or not found (R368). -/
  | abort (fn : FnIx) (tag : Nat)
  /-- SCRUB: reads the clusters of a range and repairs or scrubs stripes (R363). -/
  | scrub (fn : FnIx) (tag : Nat)
  /-- SERVO_TEST: runs the injection and capture engines and delivers the capture image (R367). -/
  | servoTest (fn : FnIx) (tag : Nat) (dma : Dma)
  /-- IDENTIFY: writes the structure selected by CNS (R370). -/
  | identify (fn : FnIx) (tag : Nat) (dma : Dma)
  /-- GET_LOG: returns bytes of a log (R371). -/
  | getLog (fn : FnIx) (tag : Nat) (dma : Dma)
  /-- SET_FEATURE: sets a feature record or value (R373). -/
  | setFeature (fn : FnIx) (tag : Nat) (data : List Nat) (dma : Dma)
  /-- GET_FEATURE: reads a feature record or value (R373). -/
  | getFeature (fn : FnIx) (tag : Nat) (dma : Dma)
  /-- FW_DOWNLOAD: stages part of a firmware image in DRAM (R375). -/
  | fwDownload (fn : FnIx) (tag : Nat) (dma : Dma)
  /-- FW_COMMIT: FW_ACTIVATE ACTION 1 checks and writes the staged image to the inactive slot (R375). -/
  | fwCommit (fn : FnIx) (tag : Nat) (image : FwImage) (flash : Bool)
  /-- FW_COMMIT_ACTIVATE: FW_ACTIVATE ACTION 2 commits and then activates the image (R375). -/
  | fwCommitActivate (fn : FnIx) (tag : Nat) (image : FwImage) (flash : Bool)
  /-- FW_ACTIVATE: FW_ACTIVATE ACTION 3 activates the committed image in SLOT, rolling or by warm reset (R463). -/
  | fwActivate (fn : FnIx) (tag : Nat)
  /-- CREATE_QP: creates a queue pair (R376). -/
  | createQp (fn : FnIx) (tag : Nat)
  /-- DELETE_QP: stops fetching, waits for completions and deletes a queue pair (R337). -/
  | deleteQp (fn : FnIx) (tag : Nat)
  /-- LEASE: grants, changes or revokes leases of a range of mechanisms (R377). -/
  | lease (fn : FnIx) (tag : Nat)
  /-- CALIB_SAVE: writes a calibration image to host memory (R378). -/
  | calibSave (fn : FnIx) (tag : Nat) (dma : Dma)
  /-- CALIB_RESTORE: applies a calibration image from host memory (R205). -/
  | calibRestore (fn : FnIx) (tag : Nat) (data : List Nat) (dma : Dma)
  /-- FLOE_DEFINE: FLOE_CONFIG OP 1 defines a floe set from a set record (R284). -/
  | floeDefine (fn : FnIx) (tag : Nat) (data : List Nat) (dma : Dma)
  /-- FLOE_DELETE: FLOE_CONFIG OP 2 closes open stripes and removes a set (R284). -/
  | floeDelete (fn : FnIx) (tag : Nat)
  /-- FLOE_REBUILD: FLOE_CONFIG OP 3 rebuilds a member onto a target mechanism (R296). -/
  | floeRebuild (fn : FnIx) (tag : Nat)
  /-- ARM: re-arms laser zones and acknowledges a latched discrepancy fault (R380). -/
  | arm (fn : FnIx) (tag : Nat)
  /-- ILK_CHANNEL_CHANGE: an interlock channel changes state and the permits and discrepancy timer follow (R497). -/
  | ilkChannelChange (a : Bool) (b : Bool)
  /-- PERMIT_HOLD_DONE: both channels CLOSED for 50 ms raise the permits of armed zones (R498). -/
  | permitHoldDone
  /-- DISCREPANCY_TIMEOUT: A disagreement lasting DISC_MS latches a discrepancy fault (R501). -/
  | discrepancyTimeout
  /-- DISARM: SAFE_ZONE_CTRL DISARM disarms zones and drops their permits (R505). -/
  | disarm (zones : Fin 256)
  /-- GPIO_EDGE: A selected edge on a GPIO sets its event bit and may wake the device (R527). -/
  | gpioEdge (g : Fin 32) (level : Bool)
  /-- GPIO_SET: DRN_GPIO_SET sets output bits (R528). -/
  | gpioSet (mask : Word)
  /-- GPIO_CLR: DRN_GPIO_CLR clears output bits (R528). -/
  | gpioClr (mask : Word)
  /-- MCTP_CONTROL: an MCTP control message is answered (R530). -/
  | mctpControl (req : List Nat)
  /-- MCTP_STATUS: vendor command 0x01 returns power, thermal, event and interlock status (R530). -/
  | mctpStatus
  /-- MCTP_READ_REGISTER: vendor command 0x02 reads a register without side effects (R557). -/
  | mctpReadRegister (offset : Nat)
  /-- MCTP_TELEMETRY: vendor command 0x03 returns a fleet telemetry record (R530). -/
  | mctpTelemetry (mn : Fin 65536)
  /-- MCTP_LOG_ENTRIES: vendor command 0x04 returns error log entries (R530). -/
  | mctpLogEntries (seq : Nat) (count : Fin 256)
  /-- REGISTER_READ: A steward or debug read of a register whose read has an effect of its own: an RC field clears, or a read of DRN_TIME_LO or FN_TIME_LO latches the upper half (R10). -/
  | registerRead (addr : Nat)
  /-- REFCLK_RESTORED: REFCLK_SYS meets both presence and frequency tests for 1 ms again, ending the hold of the clock-failure reset so that the core domain can power up and boot (R420). -/
  | refclkRestored
  /-- POWER_GOOD_RISE: A PGOOD input of an enabled supply group rises; after STEP_US the next group is enabled, or, under board sequencing, the device leaves stage POWER once every input is good (R434). -/
  | powerGoodRise (g : Fin 6)
  /-- HOST_LINK_UP: A host port completes PCI Express link training or equalisation and its link comes up, so its functions answer again and stale space 2 calibration items run (R460). -/
  | hostLinkUp (p : HostPort) (width : Fin 16) (rate : Fin 16)
  /-- DIMM_TEMP_READ: every 100 ms the device reads each DIMM's temperature sensor over the SPD bus and sets the refresh interval of R399 from it (R525). -/
  | dimmTempRead (ch : ChannelIx) (temp : Int)
  deriving DecidableEq, Repr

end Sys2Proof
end

