-- ==== Sys2Proof/Machine/Crc.lean ====
section
/-! DEFINITION. The check codes of the manual's structures: CRC-32C (Castagnoli, as iSCSI uses it), CRC-16/CCITT-FALSE (R338), and
little-endian bytes (R5). -/

namespace Sys2Proof.Machine

/-- The n little-endian bytes of a number. -/
def leBytes : Nat → Nat → List Nat
  | 0, _ => []
  | n + 1, v => v % 256 :: leBytes n (v / 256)

/-- The bytes of a list of dwords (R5). -/
def dwBytes (l : List Nat) : List Nat := l.flatMap (leBytes 4)

/-- k steps of a reflected CRC register with polynomial p. -/
def crcStepsR : Nat → Nat → Nat → Nat
  | 0, _, c => c
  | k + 1, p, c => crcStepsR k p (if c % 2 = 1 then Nat.xor (c / 2) p else c / 2)

/-- CRC-32C over bytes: polynomial 0x1EDC6F41 in reflected form, initial value and final XOR all ones. -/
def crc32c (l : List Nat) : Nat :=
  Nat.xor (l.foldl (fun c b => crcStepsR 8 0x82F63B78 (Nat.xor c b)) 0xFFFFFFFF) 0xFFFFFFFF

/-- k steps of a left-shifting CRC register of width w with polynomial p. -/
def crcStepsL : Nat → Nat → Nat → Nat → Nat
  | 0, _, _, c => c
  | k + 1, w, p, c => crcStepsL k w p (if c / 2 ^ (w - 1) % 2 = 1 then Nat.xor (c * 2 % 2 ^ w) p else c * 2 % 2 ^ w)

/-- CRC-16 with polynomial 0x1021, initial value 0xFFFF, no reflection, no final XOR (R338). -/
def crc16 (l : List Nat) : Nat :=
  l.foldl (fun c b => crcStepsL 8 16 0x1021 (Nat.xor c (b * 256))) 0xFFFF

/-- CRC-64/XZ over bytes: polynomial 0x42F0E1EBA9EA3693 in reflected form, initial value and final XOR all ones (R252). -/
def crc64 (l : List Nat) : Nat :=
  Nat.xor (l.foldl (fun c b => crcStepsR 8 0xC96C5795D7870F42 (Nat.xor c b)) 0xFFFFFFFFFFFFFFFF) 0xFFFFFFFFFFFFFFFF

/-- The little-endian number of the n bytes from offset k. -/
def leAt (l : List Nat) (k n : Nat) : Nat := (List.range n).foldl (fun a i => a + l.getD (k + i) 0 * 256 ^ i) 0

/-! ### The field GF(2^8) of R268 and R286: primitive polynomial x^8 + x^4 + x^3 + x^2 + 1 -/

/-- Multiplication by x. -/
def gfTwice (a : Nat) : Nat := if 128 ≤ a then Nat.xor (a * 2 - 256) 0x1D else a * 2

/-- k steps of a product: the bits of b from the lowest. -/
def gfMulSteps : Nat → Nat → Nat → Nat → Nat
  | 0, _, _, acc => acc
  | k + 1, a, b, acc => gfMulSteps k (gfTwice a) (b / 2) (if b % 2 = 1 then Nat.xor acc a else acc)

/-- The product of two field elements. -/
def gfMul (a b : Nat) : Nat := gfMulSteps 8 a b 0

/-- a to the power n. -/
def gfPow (a : Nat) : Nat → Nat
  | 0 => 1
  | n + 1 => gfMul a (gfPow a n)

/-- The inverse, a to the power 254. -/
def gfInv (a : Nat) : Nat := gfPow a 254

/-- The sum of field elements. -/
def gfSum (l : List Nat) : Nat := l.foldl Nat.xor 0

/-! ### The outer code RS(32,28) (R268, R269) -/

/-- The locator of sector i: alpha to the power 31 - i. -/
def rsLocator (i : Nat) : Nat := gfPow 2 (31 - i)

/-- Syndrome m of a column of 32 bytes. -/
def rsSyndrome (col : List Nat) (m : Nat) : Nat :=
  gfSum ((List.range 32).map fun i => gfMul (col.getD i 0) (gfPow 2 (m * (31 - i))))

/-- Coefficients, lowest first, of a polynomial times (x + r). -/
def gfPolyStep (p : List Nat) (r : Nat) : List Nat :=
  (List.range (p.length + 1)).map fun i => Nat.xor (if i = 0 then 0 else p.getD (i - 1) 0) (gfMul r (p.getD i 0))

/-- What must be added to the byte at position e so that, with like corrections at the other positions of `pos`, the first syndromes vanish. -/
def rsCorrection (syn : List Nat) (pos : List Nat) (e : Nat) : Nat :=
  let xs := (pos.filter fun j => j != e).map rsLocator
  let poly := xs.foldl gfPolyStep [1]
  let num := gfSum ((List.range poly.length).map fun m => gfMul (poly.getD m 0) (syn.getD m 0))
  gfMul num (gfInv (xs.foldl (fun a x => gfMul a (Nat.xor (rsLocator e) x)) 1))

/-- The column with every position of `pos` corrected. -/
def rsFix (col pos : List Nat) : List Nat :=
  let syn := (List.range 4).map (rsSyndrome col)
  (List.range 32).map fun i => if pos.contains i then Nat.xor (col.getD i 0) (rsCorrection syn pos i) else col.getD i 0

/-- All four syndromes vanish. -/
def rsClean (col : List Nat) : Bool := (List.range 4).all fun m => rsSyndrome col m == 0

/-- Decode a column with erasures F and up to (4 - |F|) / 2 errors: the first pattern that leaves no syndrome. -/
def rsErrors (col f : List Nat) : List Nat :=
  if rsClean (rsFix col f) then rsFix col f
  else
    let others := (List.range 32).filter fun i => !f.contains i
    let one := if f.length ≤ 2 then others.find? fun i => rsClean (rsFix col (i :: f)) else none
    match one with
    | some i => rsFix col (i :: f)
    | none =>
      let pairs := if f.length = 0 then others.flatMap fun i => (others.filter fun j => decide (i < j)).map fun j => [i, j] else []
      match pairs.find? fun p => rsClean (rsFix col p) with
      | some p => rsFix col p
      | none => rsFix col f

end Sys2Proof.Machine
end

