-- ==== Sys2Proof/Config.lean ====
section
/-! DEFINITION. The free values of the model: what the spec leaves open although the device goes on. None has a body, so no proof can
see a value. Each is named in notes/assumptions/. -/

namespace Sys2Proof

/-- The k-th free number taken in a run (notes/assumptions/3.md). -/
opaque Config.freeNat : Nat → Nat

/-- AES-256-XTS of one data unit as IEEE 1619 defines it (R357): KEY1, KEY2, tweak, block content (notes/assumptions/4.md). -/
opaque Config.xtsEncrypt : Nat → Nat → Nat → Nat → Nat
opaque Config.xtsDecrypt : Nat → Nat → Nat → Nat → Nat

/-- Dword i of the coefficient record that the device ships for class 0, loop and format (spec/05 "Shipped library designs";
notes/assumptions/5.md). -/
opaque Config.shippedCoef : Nat → Nat → Nat → Nat

/-- Dword i of the equaliser taps that a lane program presets for a class (R210; notes/assumptions/6.md). -/
opaque Config.presetTap : Nat → Nat → Nat

/-- The power in mW that the test table of the firmware image gives a block class (R315, R482; notes/assumptions/8.md). -/
opaque Config.bistMw : Nat → Nat

/-- The analogue gain code that a lane asks the bridge for, by class and layer (R216; notes/assumptions/9.md). -/
opaque Config.gainCode : Nat → Nat → Nat

/-- The payload of the CONFIG message that sets a gain code (R216; notes/assumptions/9.md). -/
opaque Config.gainPayload : Nat → List Nat

/-- The readings of the monitor ADC for 1.250 V and for full scale, in counts (R201; notes/assumptions/10.md). -/
opaque Config.monitorRef : Nat
opaque Config.monitorFullScale : Nat

/-- Dword i of the write strategy record that the device ships for class x 4 + media (R234; notes/assumptions/11.md). -/
opaque Config.shippedStrategy : Nat → Nat → Nat

/-- The payload rate of a host port, bytes a second, by width and rate code (R173); the radius in nm of a logical block of BD media, by capacity and LBA, and
the user data rate of BD media at a channel rate in bit/s, which its format gives (R173, R241; notes/assumptions/99.md). -/
opaque Config.hostPayload : Nat → Nat → Nat
opaque Config.bdRadius : Nat → Nat → Nat
opaque Config.bdUserRate : Nat → Nat

/-- The refresh interval in ns that the DDR5 specification gives for a DIMM temperature in 1/16 C (R399, R525; notes/assumptions/13.md). -/
opaque Config.refreshNs : Int → Nat

/-- The filters of a lane that the manual names and does not give (R219 to R221, R226): coefficient j of phase p of the 8-tap interpolator, Q2.14; the fast
slicer's decision from A_T, the r values newest first from 8 bits after the bit on, and the decisions before it; the oscillator steps of 2^-28 sample per
unit of timing error; E_nom before the first sample, in 2^-16 count (notes/assumptions/101.md). -/
opaque Config.interpTap : Nat → Nat → Int
opaque Config.slicer : Nat → List Int → List Int → Bool
opaque Config.teUnit : Int
opaque Config.eNomStart : Int

/-- Channel bit i of the guard of a HAF frame, and the channel bits of a BD recording from an LBA on, which its format defines (spec/08 "HAF disc frame",
R240; notes/assumptions/102.md). -/
opaque Config.guardBit : Nat → Bool
opaque Config.bdChannel : Nat → List Nat → List Bool

/-- What the sector engine makes of the channel bits read from a BD disc, newest first, each with whether it is erased, for a logical block: not yet in
hand, unreadable, or its content. Frame syncs, 17PP, NRZI and the error correction are the disc format's (R240, R281; notes/assumptions/102.md). -/
opaque Config.bdBlock : Nat → List (Bool × Bool) → Option (Option Nat)

/-- The answer to an MCTP control message, by endpoint and request (R530, DSP0236; notes/assumptions/14.md). -/
opaque Config.mctpAnswer : Nat → List Nat → List Nat

/-- What the units of the device ask of the memory in the cycles of a Drone tick (R394 to R408; notes/assumptions/104.md), which DRAM lines the
firmware makes cacheable (R404), the position among the command contexts of the one that a word of SB32 to SB39 holds (R392), the bytes of code of an
image and the content of a line of it (R392, R397). -/
opaque Config.memTraffic : Nat → List MemCycle
opaque Config.cacheable : Nat → Bool
opaque Config.contextAt : Nat → Nat → Option Nat
opaque Config.codeBytes : Nat → Nat
opaque Config.codeLine : Nat → Nat → Nat

/-- What the firmware does on the four cores in a Drone tick, by core (R411, R415), and the delays of its temperature tables by channel, die temperature in
1/16 C and lane (R402; notes/assumptions/110.md). -/
opaque Config.coreTicks : Nat → List CoreTick
opaque Config.delayTable : Nat → Int → Nat → Nat

/-- What the console and the JTAG port see in a Drone tick, the characters of a boot progress message by stage and code, and the boundary-scan cells of
the device, whose order the manual does not give (R461, R532, R533; notes/assumptions/106.md). -/
opaque Config.pins : Nat → PinTick
opaque Config.bootText : Nat → Nat → List Nat
opaque Config.scanLength : Nat

/-- Of an OPC (R197; notes/assumptions/107.md): the data bits of its segments before scrambling, and on a BD disc, by its capacity, the radius in nm of its
power calibration area's test blocks and the PW_NOM and BETA_T that its format defines. -/
opaque Config.opcData : Nat → Bool
opaque Config.bdTestRadius : Nat → Nat → Nat
opaque Config.bdPower : Nat → Nat × Int

end Sys2Proof
end

