-- ==== Sys2Proof/Machine/Fields.lean ====
section
/-! DEFINITION. What a register and a register field are (spec/00_scope.md R8, R9, R10), and the bit-field arithmetic on a dword. -/

namespace Sys2Proof.Machine

/-- Register access types (R10). -/
inductive Access where
  | rw | ro | w1c | w1s | rc | wo
  deriving DecidableEq, Repr

/-- A register, or an array of registers in up to two indices: register (i, j) stands at `base + i * stride + j * stride2`
and resets to `rst i j` (R554). Addresses below 0x100_0000 are offsets of the global setup window; the BAR0 of function FN
stands at 0x100_0000 + FN * 0x1_0000 in the model's own numbering. -/
structure Reg where
  base : Nat
  stride : Nat
  count : Nat
  stride2 : Nat
  count2 : Nat
  rst : Nat → Nat → Nat

/-- A field of a register: its lowest bit, its width and its access type. -/
structure Fld where
  reg : Reg
  lo : Nat
  width : Nat
  acc : Access

/-- A register with its fields. -/
structure RegEntry where
  reg : Reg
  flds : List Fld

/-- The address of register (i, j) of an array. -/
def Reg.addr (r : Reg) (i j : Nat) : Nat := r.base + i * r.stride + j * r.stride2

/-- (i, j) indexes a register of the array. -/
def Reg.has (r : Reg) (i j : Nat) : Bool := decide (i < max r.count 1) && decide (j < max r.count2 1)

/-- The dword that register (i, j) holds at reset. -/
def Reg.reset (r : Reg) (i j : Nat) : Word := BitVec.ofNat 32 (r.rst i j)

/-- Bits [lo + n - 1 : lo] of a dword. -/
def bitsOf (w : Word) (lo n : Nat) : Nat := w.toNat / 2 ^ lo % 2 ^ n

/-- The dword with bits [lo + n - 1 : lo] replaced by the low n bits of v. -/
def withBits (w : Word) (lo n v : Nat) : Word :=
  BitVec.ofNat 32 (w.toNat % 2 ^ lo + v % 2 ^ n * 2 ^ lo + w.toNat / 2 ^ (lo + n) * 2 ^ (lo + n))

/-- Bit k of a natural number, as 0 or 1. -/
def bitAt (v k : Nat) : Nat := v / 2 ^ k % 2

/-- A truth value as a bit. -/
def b2n (b : Bool) : Nat := if b then 1 else 0

end Sys2Proof.Machine
end

