-- ==== Sys2Proof/Machine/RegsChannel.lean ====
section
/-! DEFINITION. The registers and fields of the blocks FIRN, MOR, FLOE, BRTH: addresses and resets
from spec/21_register_index.md (R554), fields and access types (R10) from the field table of the chapter that owns the block. -/

namespace Sys2Proof.Machine

def Reg.FIRN_STATUS : Reg := ⟨0x0200000, 0x400, 272, 0x0, 1, fun _ _ => 0x00000000⟩
def Fld.FIRN_STATUS_MN : Fld := ⟨Reg.FIRN_STATUS, 16, 12, .ro⟩
def Fld.FIRN_STATUS_VALID : Fld := ⟨Reg.FIRN_STATUS, 15, 1, .ro⟩
def Fld.FIRN_STATUS_WRITE : Fld := ⟨Reg.FIRN_STATUS, 14, 1, .ro⟩
def Fld.FIRN_STATUS_BD : Fld := ⟨Reg.FIRN_STATUS, 13, 1, .ro⟩
def Fld.FIRN_STATUS_LAST_TEST : Fld := ⟨Reg.FIRN_STATUS, 6, 2, .ro⟩
def Fld.FIRN_STATUS_LSTATE : Fld := ⟨Reg.FIRN_STATUS, 0, 3, .ro⟩
def Reg.FIRN_EVENT : Reg := ⟨0x0200004, 0x400, 272, 0x0, 1, fun _ _ => 0x00000000⟩
def Fld.FIRN_EVENT_PROG_DONE : Fld := ⟨Reg.FIRN_EVENT, 11, 1, .w1c⟩
def Fld.FIRN_EVENT_MERGE : Fld := ⟨Reg.FIRN_EVENT, 10, 1, .w1c⟩
def Fld.FIRN_EVENT_INHIBIT : Fld := ⟨Reg.FIRN_EVENT, 9, 1, .w1c⟩
def Fld.FIRN_EVENT_GAIN : Fld := ⟨Reg.FIRN_EVENT, 8, 1, .w1c⟩
def Fld.FIRN_EVENT_ERASED : Fld := ⟨Reg.FIRN_EVENT, 7, 1, .w1c⟩
def Fld.FIRN_EVENT_FALLBACK : Fld := ⟨Reg.FIRN_EVENT, 6, 1, .w1c⟩
def Fld.FIRN_EVENT_LOCK_LOST : Fld := ⟨Reg.FIRN_EVENT, 5, 1, .w1c⟩
def Fld.FIRN_EVENT_OOS : Fld := ⟨Reg.FIRN_EVENT, 4, 1, .w1c⟩
def Fld.FIRN_EVENT_TEST_FAIL : Fld := ⟨Reg.FIRN_EVENT, 3, 1, .w1c⟩
def Fld.FIRN_EVENT_TEST_PASS : Fld := ⟨Reg.FIRN_EVENT, 2, 1, .w1c⟩
def Fld.FIRN_EVENT_MIGRATED : Fld := ⟨Reg.FIRN_EVENT, 1, 1, .w1c⟩
def Fld.FIRN_EVENT_FAULT : Fld := ⟨Reg.FIRN_EVENT, 0, 1, .w1c⟩
def Reg.FIRN_EVENT_EN : Reg := ⟨0x0200008, 0x400, 272, 0x0, 1, fun _ _ => 0x00000FFF⟩
def Fld.FIRN_EVENT_EN_PROG_DONE : Fld := ⟨Reg.FIRN_EVENT_EN, 11, 1, .rw⟩
def Fld.FIRN_EVENT_EN_MERGE : Fld := ⟨Reg.FIRN_EVENT_EN, 10, 1, .rw⟩
def Fld.FIRN_EVENT_EN_INHIBIT : Fld := ⟨Reg.FIRN_EVENT_EN, 9, 1, .rw⟩
def Fld.FIRN_EVENT_EN_GAIN : Fld := ⟨Reg.FIRN_EVENT_EN, 8, 1, .rw⟩
def Fld.FIRN_EVENT_EN_ERASED : Fld := ⟨Reg.FIRN_EVENT_EN, 7, 1, .rw⟩
def Fld.FIRN_EVENT_EN_FALLBACK : Fld := ⟨Reg.FIRN_EVENT_EN, 6, 1, .rw⟩
def Fld.FIRN_EVENT_EN_LOCK_LOST : Fld := ⟨Reg.FIRN_EVENT_EN, 5, 1, .rw⟩
def Fld.FIRN_EVENT_EN_OOS : Fld := ⟨Reg.FIRN_EVENT_EN, 4, 1, .rw⟩
def Fld.FIRN_EVENT_EN_TEST_FAIL : Fld := ⟨Reg.FIRN_EVENT_EN, 3, 1, .rw⟩
def Fld.FIRN_EVENT_EN_TEST_PASS : Fld := ⟨Reg.FIRN_EVENT_EN, 2, 1, .rw⟩
def Fld.FIRN_EVENT_EN_MIGRATED : Fld := ⟨Reg.FIRN_EVENT_EN, 1, 1, .rw⟩
def Fld.FIRN_EVENT_EN_FAULT : Fld := ⟨Reg.FIRN_EVENT_EN, 0, 1, .rw⟩
def Reg.FIRN_PROG : Reg := ⟨0x020000C, 0x400, 272, 0x0, 1, fun _ _ => 0x00000000⟩
def Fld.FIRN_PROG_VERSION : Fld := ⟨Reg.FIRN_PROG, 0, 16, .ro⟩
def Reg.FIRN_CNT : Reg := ⟨0x0200010, 0x400, 272, 0x0, 1, fun _ _ => 0x00000000⟩
def Fld.FIRN_CNT_FAULTS : Fld := ⟨Reg.FIRN_CNT, 24, 8, .ro⟩
def Fld.FIRN_CNT_MIGRATIONS : Fld := ⟨Reg.FIRN_CNT, 0, 16, .ro⟩
def Reg.FIRN_BEAM : Reg := ⟨0x0200018, 0x400, 272, 0x4, 4, fun _ _ => 0x00060000⟩
def Fld.FIRN_BEAM_RATE : Fld := ⟨Reg.FIRN_BEAM, 20, 12, .ro⟩
def Fld.FIRN_BEAM_TSTATE : Fld := ⟨Reg.FIRN_BEAM, 16, 3, .ro⟩
def Fld.FIRN_BEAM_MSE : Fld := ⟨Reg.FIRN_BEAM, 0, 16, .ro⟩
def Reg.FIRN_AGC : Reg := ⟨0x0200028, 0x400, 272, 0x4, 4, fun _ _ => 0x10000000⟩
def Fld.FIRN_AGC_GAIN : Fld := ⟨Reg.FIRN_AGC, 16, 16, .ro⟩
def Fld.FIRN_AGC_AMP : Fld := ⟨Reg.FIRN_AGC, 0, 16, .ro⟩
def Reg.FIRN_CNT_FRAME : Reg := ⟨0x0200038, 0x400, 272, 0x0, 1, fun _ _ => 0x00000000⟩
def Fld.FIRN_CNT_FRAME_COUNT : Fld := ⟨Reg.FIRN_CNT_FRAME, 0, 32, .rc⟩
def Reg.FIRN_CNT_FALLBACK : Reg := ⟨0x020003C, 0x400, 272, 0x0, 1, fun _ _ => 0x00000000⟩
def Fld.FIRN_CNT_FALLBACK_COUNT : Fld := ⟨Reg.FIRN_CNT_FALLBACK, 0, 32, .rc⟩
def Reg.FIRN_CNT_ERASED : Reg := ⟨0x0200040, 0x400, 272, 0x0, 1, fun _ _ => 0x00000000⟩
def Fld.FIRN_CNT_ERASED_COUNT : Fld := ⟨Reg.FIRN_CNT_ERASED, 0, 32, .rc⟩
def Reg.FIRN_CNT_DEFECT : Reg := ⟨0x0200044, 0x400, 272, 0x0, 1, fun _ _ => 0x00000000⟩
def Fld.FIRN_CNT_DEFECT_COUNT : Fld := ⟨Reg.FIRN_CNT_DEFECT, 0, 32, .rc⟩
def Reg.FIRN_CNT_MERGE : Reg := ⟨0x0200048, 0x400, 272, 0x0, 1, fun _ _ => 0x00000000⟩
def Fld.FIRN_CNT_MERGE_COUNT : Fld := ⟨Reg.FIRN_CNT_MERGE, 0, 32, .rc⟩
def Reg.FIRN_CNT_INHIBIT : Reg := ⟨0x020004C, 0x400, 272, 0x0, 1, fun _ _ => 0x00000000⟩
def Fld.FIRN_CNT_INHIBIT_COUNT : Fld := ⟨Reg.FIRN_CNT_INHIBIT, 0, 32, .rc⟩
def Reg.FIRN_TAP : Reg := ⟨0x0200200, 0x400, 272, 0x4, 120, fun _ _ => 0x00000000⟩
def Fld.FIRN_TAP_TAP_HI : Fld := ⟨Reg.FIRN_TAP, 16, 16, .ro⟩
def Fld.FIRN_TAP_TAP_LO : Fld := ⟨Reg.FIRN_TAP, 0, 16, .ro⟩
def Reg.FIRN_GCFG : Reg := ⟨0x0250000, 0x0, 1, 0x0, 1, fun _ _ => 0x13880300⟩
def Fld.FIRN_GCFG_IDLE_HOLD_US : Fld := ⟨Reg.FIRN_GCFG, 16, 16, .rw⟩
def Fld.FIRN_GCFG_FAULT_LIMIT : Fld := ⟨Reg.FIRN_GCFG, 8, 8, .rw⟩
def Reg.FIRN_GSTAT : Reg := ⟨0x0250004, 0x0, 1, 0x0, 1, fun _ _ => 0x00000000⟩
def Fld.FIRN_GSTAT_BOUND : Fld := ⟨Reg.FIRN_GSTAT, 16, 9, .ro⟩
def Fld.FIRN_GSTAT_OOS : Fld := ⟨Reg.FIRN_GSTAT, 0, 9, .ro⟩
def Reg.FIRN_RD_CFG : Reg := ⟨0x0250008, 0x0, 1, 0x0, 1, fun _ _ => 0x80376CA0⟩
def Fld.FIRN_RD_CFG_ACQ_BITS : Fld := ⟨Reg.FIRN_RD_CFG, 24, 8, .rw⟩
def Fld.FIRN_RD_CFG_KP_ACQ : Fld := ⟨Reg.FIRN_RD_CFG, 20, 4, .rw⟩
def Fld.FIRN_RD_CFG_KI_ACQ : Fld := ⟨Reg.FIRN_RD_CFG, 16, 4, .rw⟩
def Fld.FIRN_RD_CFG_KP_TRK : Fld := ⟨Reg.FIRN_RD_CFG, 12, 4, .rw⟩
def Fld.FIRN_RD_CFG_KI_TRK : Fld := ⟨Reg.FIRN_RD_CFG, 8, 4, .rw⟩
def Fld.FIRN_RD_CFG_MU : Fld := ⟨Reg.FIRN_RD_CFG, 4, 4, .rw⟩
def Reg.FIRN_AGC_CFG : Reg := ⟨0x025000C, 0x0, 1, 0x0, 1, fun _ _ => 0x40108EC0⟩
def Fld.FIRN_AGC_CFG_AGC_TGT : Fld := ⟨Reg.FIRN_AGC_CFG, 24, 8, .rw⟩
def Fld.FIRN_AGC_CFG_A_T : Fld := ⟨Reg.FIRN_AGC_CFG, 16, 8, .rw⟩
def Fld.FIRN_AGC_CFG_AGC_SHIFT_ACQ : Fld := ⟨Reg.FIRN_AGC_CFG, 12, 4, .rw⟩
def Fld.FIRN_AGC_CFG_AGC_SHIFT_TRK : Fld := ⟨Reg.FIRN_AGC_CFG, 8, 4, .rw⟩
def Fld.FIRN_AGC_CFG_DC_SHIFT : Fld := ⟨Reg.FIRN_AGC_CFG, 4, 4, .rw⟩
def Reg.FIRN_DEF_CFG : Reg := ⟨0x0250010, 0x0, 1, 0x0, 1, fun _ _ => 0x40C08410⟩
def Fld.FIRN_DEF_CFG_DROP_TH : Fld := ⟨Reg.FIRN_DEF_CFG, 24, 8, .rw⟩
def Fld.FIRN_DEF_CFG_OVER_TH : Fld := ⟨Reg.FIRN_DEF_CFG, 16, 8, .rw⟩
def Fld.FIRN_DEF_CFG_DROP_N : Fld := ⟨Reg.FIRN_DEF_CFG, 12, 4, .rw⟩
def Fld.FIRN_DEF_CFG_DEF_PRE : Fld := ⟨Reg.FIRN_DEF_CFG, 6, 6, .rw⟩
def Fld.FIRN_DEF_CFG_DEF_POST : Fld := ⟨Reg.FIRN_DEF_CFG, 0, 6, .rw⟩
def Reg.FIRN_SYNC_CFG : Reg := ⟨0x0250014, 0x0, 1, 0x0, 1, fun _ _ => 0x10006610⟩
def Fld.FIRN_SYNC_CFG_ERASE_MAX : Fld := ⟨Reg.FIRN_SYNC_CFG, 16, 16, .rw⟩
def Fld.FIRN_SYNC_CFG_SYNC_TOL : Fld := ⟨Reg.FIRN_SYNC_CFG, 12, 4, .rw⟩
def Fld.FIRN_SYNC_CFG_SYNC_WIN : Fld := ⟨Reg.FIRN_SYNC_CFG, 6, 6, .rw⟩
def Fld.FIRN_SYNC_CFG_LLR_FRAC : Fld := ⟨Reg.FIRN_SYNC_CFG, 4, 2, .rw⟩
def Reg.FIRN_BD_CFG : Reg := ⟨0x0250018, 0x0, 1, 0x0, 1, fun _ _ => 0x000228C0⟩
def Fld.FIRN_BD_CFG_BD_ERASE_TH : Fld := ⟨Reg.FIRN_BD_CFG, 16, 8, .rw⟩
def Fld.FIRN_BD_CFG_RE_WR_X : Fld := ⟨Reg.FIRN_BD_CFG, 12, 4, .rw⟩
def Fld.FIRN_BD_CFG_WR_X : Fld := ⟨Reg.FIRN_BD_CFG, 8, 4, .rw⟩
def Fld.FIRN_BD_CFG_RD_X : Fld := ⟨Reg.FIRN_BD_CFG, 4, 4, .rw⟩
def Reg.FIRN_LANE_CMD : Reg := ⟨0x025001C, 0x0, 1, 0x0, 1, fun _ _ => 0x00000000⟩
def Fld.FIRN_LANE_CMD_OP : Fld := ⟨Reg.FIRN_LANE_CMD, 8, 3, .wo⟩
def Reg.FIRN_LANE_STAT : Reg := ⟨0x0250020, 0x0, 1, 0x0, 1, fun _ _ => 0x00000000⟩
def Fld.FIRN_LANE_STAT_BUSY : Fld := ⟨Reg.FIRN_LANE_STAT, 31, 1, .ro⟩
def Fld.FIRN_LANE_STAT_RESULT : Fld := ⟨Reg.FIRN_LANE_STAT, 28, 3, .ro⟩
def Fld.FIRN_LANE_STAT_TO : Fld := ⟨Reg.FIRN_LANE_STAT, 16, 9, .ro⟩
def Fld.FIRN_LANE_STAT_FROM : Fld := ⟨Reg.FIRN_LANE_STAT, 0, 9, .ro⟩
def Reg.FIRN_EVT_SUM : Reg := ⟨0x0250040, 0x4, 9, 0x0, 1, fun _ _ => 0x00000000⟩
def Fld.FIRN_EVT_SUM_SUM : Fld := ⟨Reg.FIRN_EVT_SUM, 0, 32, .ro⟩

/-- Part of the FIRN block's register table. -/
def regTableFIRN0 : List RegEntry := [
  ⟨Reg.FIRN_STATUS, [Fld.FIRN_STATUS_MN, Fld.FIRN_STATUS_VALID, Fld.FIRN_STATUS_WRITE, Fld.FIRN_STATUS_BD, Fld.FIRN_STATUS_LAST_TEST, Fld.FIRN_STATUS_LSTATE]⟩,
  ⟨Reg.FIRN_EVENT, [Fld.FIRN_EVENT_PROG_DONE, Fld.FIRN_EVENT_MERGE, Fld.FIRN_EVENT_INHIBIT, Fld.FIRN_EVENT_GAIN, Fld.FIRN_EVENT_ERASED, Fld.FIRN_EVENT_FALLBACK, Fld.FIRN_EVENT_LOCK_LOST, Fld.FIRN_EVENT_OOS, Fld.FIRN_EVENT_TEST_FAIL, Fld.FIRN_EVENT_TEST_PASS, Fld.FIRN_EVENT_MIGRATED, Fld.FIRN_EVENT_FAULT]⟩,
  ⟨Reg.FIRN_EVENT_EN, [Fld.FIRN_EVENT_EN_PROG_DONE, Fld.FIRN_EVENT_EN_MERGE, Fld.FIRN_EVENT_EN_INHIBIT, Fld.FIRN_EVENT_EN_GAIN, Fld.FIRN_EVENT_EN_ERASED, Fld.FIRN_EVENT_EN_FALLBACK, Fld.FIRN_EVENT_EN_LOCK_LOST, Fld.FIRN_EVENT_EN_OOS, Fld.FIRN_EVENT_EN_TEST_FAIL, Fld.FIRN_EVENT_EN_TEST_PASS, Fld.FIRN_EVENT_EN_MIGRATED, Fld.FIRN_EVENT_EN_FAULT]⟩,
  ⟨Reg.FIRN_PROG, [Fld.FIRN_PROG_VERSION]⟩,
  ⟨Reg.FIRN_CNT, [Fld.FIRN_CNT_FAULTS, Fld.FIRN_CNT_MIGRATIONS]⟩,
  ⟨Reg.FIRN_BEAM, [Fld.FIRN_BEAM_RATE, Fld.FIRN_BEAM_TSTATE, Fld.FIRN_BEAM_MSE]⟩,
  ⟨Reg.FIRN_AGC, [Fld.FIRN_AGC_GAIN, Fld.FIRN_AGC_AMP]⟩,
  ⟨Reg.FIRN_CNT_FRAME, [Fld.FIRN_CNT_FRAME_COUNT]⟩,
  ⟨Reg.FIRN_CNT_FALLBACK, [Fld.FIRN_CNT_FALLBACK_COUNT]⟩,
  ⟨Reg.FIRN_CNT_ERASED, [Fld.FIRN_CNT_ERASED_COUNT]⟩,
  ⟨Reg.FIRN_CNT_DEFECT, [Fld.FIRN_CNT_DEFECT_COUNT]⟩,
  ⟨Reg.FIRN_CNT_MERGE, [Fld.FIRN_CNT_MERGE_COUNT]⟩]

/-- Part of the FIRN block's register table. -/
def regTableFIRN1 : List RegEntry := [
  ⟨Reg.FIRN_CNT_INHIBIT, [Fld.FIRN_CNT_INHIBIT_COUNT]⟩,
  ⟨Reg.FIRN_TAP, [Fld.FIRN_TAP_TAP_HI, Fld.FIRN_TAP_TAP_LO]⟩,
  ⟨Reg.FIRN_GCFG, [Fld.FIRN_GCFG_IDLE_HOLD_US, Fld.FIRN_GCFG_FAULT_LIMIT]⟩,
  ⟨Reg.FIRN_GSTAT, [Fld.FIRN_GSTAT_BOUND, Fld.FIRN_GSTAT_OOS]⟩,
  ⟨Reg.FIRN_RD_CFG, [Fld.FIRN_RD_CFG_ACQ_BITS, Fld.FIRN_RD_CFG_KP_ACQ, Fld.FIRN_RD_CFG_KI_ACQ, Fld.FIRN_RD_CFG_KP_TRK, Fld.FIRN_RD_CFG_KI_TRK, Fld.FIRN_RD_CFG_MU]⟩,
  ⟨Reg.FIRN_AGC_CFG, [Fld.FIRN_AGC_CFG_AGC_TGT, Fld.FIRN_AGC_CFG_A_T, Fld.FIRN_AGC_CFG_AGC_SHIFT_ACQ, Fld.FIRN_AGC_CFG_AGC_SHIFT_TRK, Fld.FIRN_AGC_CFG_DC_SHIFT]⟩,
  ⟨Reg.FIRN_DEF_CFG, [Fld.FIRN_DEF_CFG_DROP_TH, Fld.FIRN_DEF_CFG_OVER_TH, Fld.FIRN_DEF_CFG_DROP_N, Fld.FIRN_DEF_CFG_DEF_PRE, Fld.FIRN_DEF_CFG_DEF_POST]⟩,
  ⟨Reg.FIRN_SYNC_CFG, [Fld.FIRN_SYNC_CFG_ERASE_MAX, Fld.FIRN_SYNC_CFG_SYNC_TOL, Fld.FIRN_SYNC_CFG_SYNC_WIN, Fld.FIRN_SYNC_CFG_LLR_FRAC]⟩,
  ⟨Reg.FIRN_BD_CFG, [Fld.FIRN_BD_CFG_BD_ERASE_TH, Fld.FIRN_BD_CFG_RE_WR_X, Fld.FIRN_BD_CFG_WR_X, Fld.FIRN_BD_CFG_RD_X]⟩,
  ⟨Reg.FIRN_LANE_CMD, [Fld.FIRN_LANE_CMD_OP]⟩,
  ⟨Reg.FIRN_LANE_STAT, [Fld.FIRN_LANE_STAT_BUSY, Fld.FIRN_LANE_STAT_RESULT, Fld.FIRN_LANE_STAT_TO, Fld.FIRN_LANE_STAT_FROM]⟩,
  ⟨Reg.FIRN_EVT_SUM, [Fld.FIRN_EVT_SUM_SUM]⟩]

/-- Every register of the FIRN block with its fields. -/
def regTableFIRN : List RegEntry := regTableFIRN0 ++ regTableFIRN1

def Reg.MOR_GCFG : Reg := ⟨0x0280000, 0x0, 1, 0x0, 1, fun _ _ => 0x841408C8⟩
def Fld.MOR_GCFG_PREEMPT_EN : Fld := ⟨Reg.MOR_GCFG, 31, 1, .rw⟩
def Fld.MOR_GCFG_PARK_MAX : Fld := ⟨Reg.MOR_GCFG, 24, 4, .rw⟩
def Fld.MOR_GCFG_NEAR_US : Fld := ⟨Reg.MOR_GCFG, 16, 8, .rw⟩
def Fld.MOR_GCFG_RETRY_REVS : Fld := ⟨Reg.MOR_GCFG, 8, 4, .rw⟩
def Fld.MOR_GCFG_WALL_US : Fld := ⟨Reg.MOR_GCFG, 0, 8, .rw⟩
def Reg.MOR_TIMING : Reg := ⟨0x0280004, 0x0, 1, 0x0, 1, fun _ _ => 0x006403E8⟩
def Fld.MOR_TIMING_STARVE_US : Fld := ⟨Reg.MOR_TIMING, 16, 16, .rw⟩
def Fld.MOR_TIMING_WDOG_US : Fld := ⟨Reg.MOR_TIMING, 0, 16, .rw⟩
def Reg.MOR_GSTAT : Reg := ⟨0x0280008, 0x0, 1, 0x0, 1, fun _ _ => 0x00000000⟩
def Fld.MOR_GSTAT_SLOTS_USED : Fld := ⟨Reg.MOR_GSTAT, 16, 9, .ro⟩
def Fld.MOR_GSTAT_PARKED : Fld := ⟨Reg.MOR_GSTAT, 8, 6, .ro⟩
def Fld.MOR_GSTAT_BUSY : Fld := ⟨Reg.MOR_GSTAT, 0, 6, .ro⟩
def Reg.MOR_EVENT : Reg := ⟨0x028000C, 0x0, 1, 0x0, 1, fun _ _ => 0x00000000⟩
def Fld.MOR_EVENT_DEC_OOS : Fld := ⟨Reg.MOR_EVENT, 8, 1, .w1c⟩
def Fld.MOR_EVENT_DEC_TEST_FAIL : Fld := ⟨Reg.MOR_EVENT, 7, 1, .w1c⟩
def Fld.MOR_EVENT_MTX_LOADED : Fld := ⟨Reg.MOR_EVENT, 6, 1, .w1c⟩
def Fld.MOR_EVENT_CRC_FAIL : Fld := ⟨Reg.MOR_EVENT, 5, 1, .w1c⟩
def Fld.MOR_EVENT_UNCORR : Fld := ⟨Reg.MOR_EVENT, 4, 1, .w1c⟩
def Fld.MOR_EVENT_PARK_FULL : Fld := ⟨Reg.MOR_EVENT, 3, 1, .w1c⟩
def Fld.MOR_EVENT_OVERFLOW : Fld := ⟨Reg.MOR_EVENT, 2, 1, .w1c⟩
def Fld.MOR_EVENT_WDOG : Fld := ⟨Reg.MOR_EVENT, 1, 1, .w1c⟩
def Fld.MOR_EVENT_STARVE : Fld := ⟨Reg.MOR_EVENT, 0, 1, .w1c⟩
def Reg.MOR_EVENT_EN : Reg := ⟨0x0280010, 0x0, 1, 0x0, 1, fun _ _ => 0x000001CF⟩
def Fld.MOR_EVENT_EN_DEC_OOS : Fld := ⟨Reg.MOR_EVENT_EN, 8, 1, .rw⟩
def Fld.MOR_EVENT_EN_DEC_TEST_FAIL : Fld := ⟨Reg.MOR_EVENT_EN, 7, 1, .rw⟩
def Fld.MOR_EVENT_EN_MTX_LOADED : Fld := ⟨Reg.MOR_EVENT_EN, 6, 1, .rw⟩
def Fld.MOR_EVENT_EN_CRC_FAIL : Fld := ⟨Reg.MOR_EVENT_EN, 5, 1, .rw⟩
def Fld.MOR_EVENT_EN_UNCORR : Fld := ⟨Reg.MOR_EVENT_EN, 4, 1, .rw⟩
def Fld.MOR_EVENT_EN_PARK_FULL : Fld := ⟨Reg.MOR_EVENT_EN, 3, 1, .rw⟩
def Fld.MOR_EVENT_EN_OVERFLOW : Fld := ⟨Reg.MOR_EVENT_EN, 2, 1, .rw⟩
def Fld.MOR_EVENT_EN_WDOG : Fld := ⟨Reg.MOR_EVENT_EN, 1, 1, .rw⟩
def Fld.MOR_EVENT_EN_STARVE : Fld := ⟨Reg.MOR_EVENT_EN, 0, 1, .rw⟩
def Reg.MOR_STARVE_SRC : Reg := ⟨0x0280014, 0x0, 1, 0x0, 1, fun _ _ => 0x00000000⟩
def Fld.MOR_STARVE_SRC_MN : Fld := ⟨Reg.MOR_STARVE_SRC, 20, 12, .ro⟩
def Fld.MOR_STARVE_SRC_LANE : Fld := ⟨Reg.MOR_STARVE_SRC, 11, 9, .ro⟩
def Fld.MOR_STARVE_SRC_WAIT_US : Fld := ⟨Reg.MOR_STARVE_SRC, 0, 11, .ro⟩
def Reg.MOR_DEC_CMD : Reg := ⟨0x0280018, 0x0, 1, 0x0, 1, fun _ _ => 0x00000000⟩
def Fld.MOR_DEC_CMD_OP : Fld := ⟨Reg.MOR_DEC_CMD, 8, 3, .wo⟩
def Fld.MOR_DEC_CMD_DEC : Fld := ⟨Reg.MOR_DEC_CMD, 0, 5, .wo⟩
def Reg.MOR_DEC_CMD_STAT : Reg := ⟨0x028001C, 0x0, 1, 0x0, 1, fun _ _ => 0x00000000⟩
def Fld.MOR_DEC_CMD_STAT_BUSY : Fld := ⟨Reg.MOR_DEC_CMD_STAT, 31, 1, .ro⟩
def Fld.MOR_DEC_CMD_STAT_RESULT : Fld := ⟨Reg.MOR_DEC_CMD_STAT, 28, 3, .ro⟩
def Fld.MOR_DEC_CMD_STAT_DEC : Fld := ⟨Reg.MOR_DEC_CMD_STAT, 0, 5, .ro⟩
def Reg.MOR_MTX : Reg := ⟨0x0280020, 0x4, 2, 0x0, 1, fun _ _ => 0x00000000⟩
def Fld.MOR_MTX_ID_HI : Fld := ⟨Reg.MOR_MTX, 16, 16, .ro⟩
def Fld.MOR_MTX_ID_LO : Fld := ⟨Reg.MOR_MTX, 0, 16, .ro⟩
def Reg.MOR_CNT_CW : Reg := ⟨0x0280028, 0x0, 1, 0x0, 1, fun _ _ => 0x00000000⟩
def Fld.MOR_CNT_CW_COUNT : Fld := ⟨Reg.MOR_CNT_CW, 0, 32, .rc⟩
def Reg.MOR_CNT_UNC : Reg := ⟨0x028002C, 0x0, 1, 0x0, 1, fun _ _ => 0x00000000⟩
def Fld.MOR_CNT_UNC_COUNT : Fld := ⟨Reg.MOR_CNT_UNC, 0, 32, .rc⟩
def Reg.MOR_CNT_CRC : Reg := ⟨0x0280030, 0x0, 1, 0x0, 1, fun _ _ => 0x00000000⟩
def Fld.MOR_CNT_CRC_COUNT : Fld := ⟨Reg.MOR_CNT_CRC, 0, 32, .rc⟩
def Reg.MOR_CNT_PARK : Reg := ⟨0x0280034, 0x0, 1, 0x0, 1, fun _ _ => 0x00000000⟩
def Fld.MOR_CNT_PARK_COUNT : Fld := ⟨Reg.MOR_CNT_PARK, 0, 32, .rc⟩
def Reg.MOR_CNT_WDOG : Reg := ⟨0x0280038, 0x0, 1, 0x0, 1, fun _ _ => 0x00000000⟩
def Fld.MOR_CNT_WDOG_COUNT : Fld := ⟨Reg.MOR_CNT_WDOG, 0, 32, .rc⟩
def Reg.MOR_CNT_OVERFLOW : Reg := ⟨0x028003C, 0x0, 1, 0x0, 1, fun _ _ => 0x00000000⟩
def Fld.MOR_CNT_OVERFLOW_COUNT : Fld := ⟨Reg.MOR_CNT_OVERFLOW, 0, 32, .rc⟩
def Reg.MOR_SET : Reg := ⟨0x0280040, 0x4, 4, 0x0, 1, fun i _ => if i = 0 then 0x80C00000 else if i = 1 then 0x80020000 else if i = 2 then 0x80E00000 else 0x80D00000⟩
def Fld.MOR_SET_MAX_ITER : Fld := ⟨Reg.MOR_SET, 24, 8, .rw⟩
def Fld.MOR_SET_ALPHA : Fld := ⟨Reg.MOR_SET, 20, 4, .rw⟩
def Fld.MOR_SET_BETA : Fld := ⟨Reg.MOR_SET, 16, 4, .rw⟩
def Reg.MOR_LPRIO : Reg := ⟨0x0280100, 0x4, 34, 0x0, 1, fun _ _ => 0x88888888⟩
def Fld.MOR_LPRIO_PRIO : Fld := ⟨Reg.MOR_LPRIO, 0, 32, .rw⟩
def Reg.MOR_DEC : Reg := ⟨0x0280200, 0x4, 32, 0x0, 1, fun _ _ => 0x00000000⟩
def Fld.MOR_DEC_DSTATE : Fld := ⟨Reg.MOR_DEC, 28, 4, .ro⟩
def Fld.MOR_DEC_LANE : Fld := ⟨Reg.MOR_DEC, 19, 9, .ro⟩
def Fld.MOR_DEC_SET : Fld := ⟨Reg.MOR_DEC, 17, 2, .ro⟩
def Fld.MOR_DEC_RESUMED : Fld := ⟨Reg.MOR_DEC, 16, 1, .ro⟩
def Fld.MOR_DEC_ITER : Fld := ⟨Reg.MOR_DEC, 8, 8, .ro⟩
def Reg.MOR_PROG : Reg := ⟨0x0280280, 0x4, 32, 0x0, 1, fun _ _ => 0x00000000⟩
def Fld.MOR_PROG_VERSION : Fld := ⟨Reg.MOR_PROG, 0, 16, .ro⟩

/-- Part of the MOR block's register table. -/
def regTableMOR0 : List RegEntry := [
  ⟨Reg.MOR_GCFG, [Fld.MOR_GCFG_PREEMPT_EN, Fld.MOR_GCFG_PARK_MAX, Fld.MOR_GCFG_NEAR_US, Fld.MOR_GCFG_RETRY_REVS, Fld.MOR_GCFG_WALL_US]⟩,
  ⟨Reg.MOR_TIMING, [Fld.MOR_TIMING_STARVE_US, Fld.MOR_TIMING_WDOG_US]⟩,
  ⟨Reg.MOR_GSTAT, [Fld.MOR_GSTAT_SLOTS_USED, Fld.MOR_GSTAT_PARKED, Fld.MOR_GSTAT_BUSY]⟩,
  ⟨Reg.MOR_EVENT, [Fld.MOR_EVENT_DEC_OOS, Fld.MOR_EVENT_DEC_TEST_FAIL, Fld.MOR_EVENT_MTX_LOADED, Fld.MOR_EVENT_CRC_FAIL, Fld.MOR_EVENT_UNCORR, Fld.MOR_EVENT_PARK_FULL, Fld.MOR_EVENT_OVERFLOW, Fld.MOR_EVENT_WDOG, Fld.MOR_EVENT_STARVE]⟩,
  ⟨Reg.MOR_EVENT_EN, [Fld.MOR_EVENT_EN_DEC_OOS, Fld.MOR_EVENT_EN_DEC_TEST_FAIL, Fld.MOR_EVENT_EN_MTX_LOADED, Fld.MOR_EVENT_EN_CRC_FAIL, Fld.MOR_EVENT_EN_UNCORR, Fld.MOR_EVENT_EN_PARK_FULL, Fld.MOR_EVENT_EN_OVERFLOW, Fld.MOR_EVENT_EN_WDOG, Fld.MOR_EVENT_EN_STARVE]⟩,
  ⟨Reg.MOR_STARVE_SRC, [Fld.MOR_STARVE_SRC_MN, Fld.MOR_STARVE_SRC_LANE, Fld.MOR_STARVE_SRC_WAIT_US]⟩,
  ⟨Reg.MOR_DEC_CMD, [Fld.MOR_DEC_CMD_OP, Fld.MOR_DEC_CMD_DEC]⟩,
  ⟨Reg.MOR_DEC_CMD_STAT, [Fld.MOR_DEC_CMD_STAT_BUSY, Fld.MOR_DEC_CMD_STAT_RESULT, Fld.MOR_DEC_CMD_STAT_DEC]⟩,
  ⟨Reg.MOR_MTX, [Fld.MOR_MTX_ID_HI, Fld.MOR_MTX_ID_LO]⟩,
  ⟨Reg.MOR_CNT_CW, [Fld.MOR_CNT_CW_COUNT]⟩,
  ⟨Reg.MOR_CNT_UNC, [Fld.MOR_CNT_UNC_COUNT]⟩,
  ⟨Reg.MOR_CNT_CRC, [Fld.MOR_CNT_CRC_COUNT]⟩]

/-- Part of the MOR block's register table. -/
def regTableMOR1 : List RegEntry := [
  ⟨Reg.MOR_CNT_PARK, [Fld.MOR_CNT_PARK_COUNT]⟩,
  ⟨Reg.MOR_CNT_WDOG, [Fld.MOR_CNT_WDOG_COUNT]⟩,
  ⟨Reg.MOR_CNT_OVERFLOW, [Fld.MOR_CNT_OVERFLOW_COUNT]⟩,
  ⟨Reg.MOR_SET, [Fld.MOR_SET_MAX_ITER, Fld.MOR_SET_ALPHA, Fld.MOR_SET_BETA]⟩,
  ⟨Reg.MOR_LPRIO, [Fld.MOR_LPRIO_PRIO]⟩,
  ⟨Reg.MOR_DEC, [Fld.MOR_DEC_DSTATE, Fld.MOR_DEC_LANE, Fld.MOR_DEC_SET, Fld.MOR_DEC_RESUMED, Fld.MOR_DEC_ITER]⟩,
  ⟨Reg.MOR_PROG, [Fld.MOR_PROG_VERSION]⟩]

/-- Every register of the MOR block with its fields. -/
def regTableMOR : List RegEntry := regTableMOR0 ++ regTableMOR1

def Reg.FLOE_GCFG : Reg := ⟨0x02C0000, 0x0, 1, 0x0, 1, fun _ _ => 0xC01003E8⟩
def Fld.FLOE_GCFG_REPAIR_EN : Fld := ⟨Reg.FLOE_GCFG, 31, 1, .rw⟩
def Fld.FLOE_GCFG_AUTO_RESYNC : Fld := ⟨Reg.FLOE_GCFG, 30, 1, .rw⟩
def Fld.FLOE_GCFG_OPEN_MAX : Fld := ⟨Reg.FLOE_GCFG, 16, 8, .rw⟩
def Fld.FLOE_GCFG_CLOSE_MS : Fld := ⟨Reg.FLOE_GCFG, 0, 16, .rw⟩
def Reg.FLOE_ACC : Reg := ⟨0x02C0004, 0x0, 1, 0x0, 1, fun _ _ => 0x00000800⟩
def Fld.FLOE_ACC_ACC_MIB : Fld := ⟨Reg.FLOE_ACC, 0, 12, .rw⟩
def Reg.FLOE_SCRUB : Reg := ⟨0x02C0008, 0x0, 1, 0x0, 1, fun _ _ => 0x00040000⟩
def Fld.FLOE_SCRUB_RATE : Fld := ⟨Reg.FLOE_SCRUB, 16, 16, .rw⟩
def Reg.FLOE_GSTAT : Reg := ⟨0x02C000C, 0x0, 1, 0x0, 1, fun _ _ => 0x00000000⟩
def Fld.FLOE_GSTAT_SETS : Fld := ⟨Reg.FLOE_GSTAT, 16, 12, .ro⟩
def Fld.FLOE_GSTAT_OPEN : Fld := ⟨Reg.FLOE_GSTAT, 0, 16, .ro⟩
def Reg.FLOE_EVENT : Reg := ⟨0x02C0010, 0x0, 1, 0x0, 1, fun _ _ => 0x00000000⟩
def Fld.FLOE_EVENT_SET_FULL : Fld := ⟨Reg.FLOE_EVENT, 12, 1, .w1c⟩
def Fld.FLOE_EVENT_FORCE_CLOSE : Fld := ⟨Reg.FLOE_EVENT, 11, 1, .w1c⟩
def Fld.FLOE_EVENT_PLACE_WARN : Fld := ⟨Reg.FLOE_EVENT, 10, 1, .w1c⟩
def Fld.FLOE_EVENT_RESYNC : Fld := ⟨Reg.FLOE_EVENT, 9, 1, .w1c⟩
def Fld.FLOE_EVENT_REBUILD_FAIL : Fld := ⟨Reg.FLOE_EVENT, 8, 1, .w1c⟩
def Fld.FLOE_EVENT_REBUILD_DONE : Fld := ⟨Reg.FLOE_EVENT, 7, 1, .w1c⟩
def Fld.FLOE_EVENT_SCRUB_UNRES : Fld := ⟨Reg.FLOE_EVENT, 6, 1, .w1c⟩
def Fld.FLOE_EVENT_SCRUB_MISMATCH : Fld := ⟨Reg.FLOE_EVENT, 5, 1, .w1c⟩
def Fld.FLOE_EVENT_REPAIR : Fld := ⟨Reg.FLOE_EVENT, 4, 1, .w1c⟩
def Fld.FLOE_EVENT_RECON_FAIL : Fld := ⟨Reg.FLOE_EVENT, 3, 1, .w1c⟩
def Fld.FLOE_EVENT_RECON : Fld := ⟨Reg.FLOE_EVENT, 2, 1, .w1c⟩
def Fld.FLOE_EVENT_INSUFFICIENT : Fld := ⟨Reg.FLOE_EVENT, 1, 1, .w1c⟩
def Fld.FLOE_EVENT_DEGRADED : Fld := ⟨Reg.FLOE_EVENT, 0, 1, .w1c⟩
def Reg.FLOE_EVENT_EN : Reg := ⟨0x02C0014, 0x0, 1, 0x0, 1, fun _ _ => 0x00001FFB⟩
def Fld.FLOE_EVENT_EN_SET_FULL : Fld := ⟨Reg.FLOE_EVENT_EN, 12, 1, .rw⟩
def Fld.FLOE_EVENT_EN_FORCE_CLOSE : Fld := ⟨Reg.FLOE_EVENT_EN, 11, 1, .rw⟩
def Fld.FLOE_EVENT_EN_PLACE_WARN : Fld := ⟨Reg.FLOE_EVENT_EN, 10, 1, .rw⟩
def Fld.FLOE_EVENT_EN_RESYNC : Fld := ⟨Reg.FLOE_EVENT_EN, 9, 1, .rw⟩
def Fld.FLOE_EVENT_EN_REBUILD_FAIL : Fld := ⟨Reg.FLOE_EVENT_EN, 8, 1, .rw⟩
def Fld.FLOE_EVENT_EN_REBUILD_DONE : Fld := ⟨Reg.FLOE_EVENT_EN, 7, 1, .rw⟩
def Fld.FLOE_EVENT_EN_SCRUB_UNRES : Fld := ⟨Reg.FLOE_EVENT_EN, 6, 1, .rw⟩
def Fld.FLOE_EVENT_EN_SCRUB_MISMATCH : Fld := ⟨Reg.FLOE_EVENT_EN, 5, 1, .rw⟩
def Fld.FLOE_EVENT_EN_REPAIR : Fld := ⟨Reg.FLOE_EVENT_EN, 4, 1, .rw⟩
def Fld.FLOE_EVENT_EN_RECON_FAIL : Fld := ⟨Reg.FLOE_EVENT_EN, 3, 1, .rw⟩
def Fld.FLOE_EVENT_EN_RECON : Fld := ⟨Reg.FLOE_EVENT_EN, 2, 1, .rw⟩
def Fld.FLOE_EVENT_EN_INSUFFICIENT : Fld := ⟨Reg.FLOE_EVENT_EN, 1, 1, .rw⟩
def Fld.FLOE_EVENT_EN_DEGRADED : Fld := ⟨Reg.FLOE_EVENT_EN, 0, 1, .rw⟩
def Reg.FLOE_SEL : Reg := ⟨0x02C0018, 0x0, 1, 0x0, 1, fun _ _ => 0x00000000⟩
def Fld.FLOE_SEL_SET : Fld := ⟨Reg.FLOE_SEL, 0, 12, .rw⟩
def Reg.FLOE_SET_STAT : Reg := ⟨0x02C001C, 0x0, 1, 0x0, 1, fun _ _ => 0x00000000⟩
def Fld.FLOE_SET_STAT_STATE : Fld := ⟨Reg.FLOE_SET_STAT, 29, 3, .ro⟩
def Fld.FLOE_SET_STAT_PLACE_WARN : Fld := ⟨Reg.FLOE_SET_STAT, 28, 1, .ro⟩
def Fld.FLOE_SET_STAT_M : Fld := ⟨Reg.FLOE_SET_STAT, 24, 4, .ro⟩
def Fld.FLOE_SET_STAT_K : Fld := ⟨Reg.FLOE_SET_STAT, 16, 5, .ro⟩
def Fld.FLOE_SET_STAT_MOUNTED : Fld := ⟨Reg.FLOE_SET_STAT, 8, 8, .ro⟩
def Reg.FLOE_SET_STRIPES : Reg := ⟨0x02C0020, 0x0, 1, 0x0, 1, fun _ _ => 0x00000000⟩
def Fld.FLOE_SET_STRIPES_COUNT : Fld := ⟨Reg.FLOE_SET_STRIPES, 0, 32, .ro⟩
def Reg.FLOE_SET_UNPROT : Reg := ⟨0x02C0024, 0x0, 1, 0x0, 1, fun _ _ => 0x00000000⟩
def Fld.FLOE_SET_UNPROT_COUNT : Fld := ⟨Reg.FLOE_SET_UNPROT, 0, 32, .ro⟩
def Reg.FLOE_REBUILD_STAT : Reg := ⟨0x02C0028, 0x0, 1, 0x0, 1, fun _ _ => 0x00000000⟩
def Fld.FLOE_REBUILD_STAT_BUSY : Fld := ⟨Reg.FLOE_REBUILD_STAT, 31, 1, .ro⟩
def Fld.FLOE_REBUILD_STAT_WAIT : Fld := ⟨Reg.FLOE_REBUILD_STAT, 30, 1, .ro⟩
def Fld.FLOE_REBUILD_STAT_RESULT : Fld := ⟨Reg.FLOE_REBUILD_STAT, 27, 3, .ro⟩
def Fld.FLOE_REBUILD_STAT_MEMBER : Fld := ⟨Reg.FLOE_REBUILD_STAT, 22, 5, .ro⟩
def Fld.FLOE_REBUILD_STAT_LOST : Fld := ⟨Reg.FLOE_REBUILD_STAT, 0, 22, .ro⟩
def Reg.FLOE_REBUILD_DONE : Reg := ⟨0x02C002C, 0x0, 1, 0x0, 1, fun _ _ => 0x00000000⟩
def Fld.FLOE_REBUILD_DONE_STRIPES : Fld := ⟨Reg.FLOE_REBUILD_DONE, 0, 32, .ro⟩
def Reg.FLOE_CNT_RECON : Reg := ⟨0x02C0030, 0x0, 1, 0x0, 1, fun _ _ => 0x00000000⟩
def Fld.FLOE_CNT_RECON_COUNT : Fld := ⟨Reg.FLOE_CNT_RECON, 0, 32, .rc⟩
def Reg.FLOE_CNT_REPAIR : Reg := ⟨0x02C0034, 0x0, 1, 0x0, 1, fun _ _ => 0x00000000⟩
def Fld.FLOE_CNT_REPAIR_COUNT : Fld := ⟨Reg.FLOE_CNT_REPAIR, 0, 32, .rc⟩
def Reg.FLOE_CNT_SCRUB : Reg := ⟨0x02C0038, 0x0, 1, 0x0, 1, fun _ _ => 0x00000000⟩
def Fld.FLOE_CNT_SCRUB_COUNT : Fld := ⟨Reg.FLOE_CNT_SCRUB, 0, 32, .rc⟩
def Reg.FLOE_CNT_MISMATCH : Reg := ⟨0x02C003C, 0x0, 1, 0x0, 1, fun _ _ => 0x00000000⟩
def Fld.FLOE_CNT_MISMATCH_COUNT : Fld := ⟨Reg.FLOE_CNT_MISMATCH, 0, 32, .rc⟩
def Reg.FLOE_MEMBER : Reg := ⟨0x02C0080, 0x4, 32, 0x0, 1, fun _ _ => 0x00000000⟩
def Fld.FLOE_MEMBER_MOUNTED : Fld := ⟨Reg.FLOE_MEMBER, 31, 1, .ro⟩
def Fld.FLOE_MEMBER_PARITY : Fld := ⟨Reg.FLOE_MEMBER, 30, 1, .ro⟩
def Fld.FLOE_MEMBER_REBUILDING : Fld := ⟨Reg.FLOE_MEMBER, 29, 1, .ro⟩
def Fld.FLOE_MEMBER_MN : Fld := ⟨Reg.FLOE_MEMBER, 16, 12, .ro⟩

/-- Part of the FLOE block's register table. -/
def regTableFLOE0 : List RegEntry := [
  ⟨Reg.FLOE_GCFG, [Fld.FLOE_GCFG_REPAIR_EN, Fld.FLOE_GCFG_AUTO_RESYNC, Fld.FLOE_GCFG_OPEN_MAX, Fld.FLOE_GCFG_CLOSE_MS]⟩,
  ⟨Reg.FLOE_ACC, [Fld.FLOE_ACC_ACC_MIB]⟩,
  ⟨Reg.FLOE_SCRUB, [Fld.FLOE_SCRUB_RATE]⟩,
  ⟨Reg.FLOE_GSTAT, [Fld.FLOE_GSTAT_SETS, Fld.FLOE_GSTAT_OPEN]⟩,
  ⟨Reg.FLOE_EVENT, [Fld.FLOE_EVENT_SET_FULL, Fld.FLOE_EVENT_FORCE_CLOSE, Fld.FLOE_EVENT_PLACE_WARN, Fld.FLOE_EVENT_RESYNC, Fld.FLOE_EVENT_REBUILD_FAIL, Fld.FLOE_EVENT_REBUILD_DONE, Fld.FLOE_EVENT_SCRUB_UNRES, Fld.FLOE_EVENT_SCRUB_MISMATCH, Fld.FLOE_EVENT_REPAIR, Fld.FLOE_EVENT_RECON_FAIL, Fld.FLOE_EVENT_RECON, Fld.FLOE_EVENT_INSUFFICIENT, Fld.FLOE_EVENT_DEGRADED]⟩,
  ⟨Reg.FLOE_EVENT_EN, [Fld.FLOE_EVENT_EN_SET_FULL, Fld.FLOE_EVENT_EN_FORCE_CLOSE, Fld.FLOE_EVENT_EN_PLACE_WARN, Fld.FLOE_EVENT_EN_RESYNC, Fld.FLOE_EVENT_EN_REBUILD_FAIL, Fld.FLOE_EVENT_EN_REBUILD_DONE, Fld.FLOE_EVENT_EN_SCRUB_UNRES, Fld.FLOE_EVENT_EN_SCRUB_MISMATCH, Fld.FLOE_EVENT_EN_REPAIR, Fld.FLOE_EVENT_EN_RECON_FAIL, Fld.FLOE_EVENT_EN_RECON, Fld.FLOE_EVENT_EN_INSUFFICIENT, Fld.FLOE_EVENT_EN_DEGRADED]⟩,
  ⟨Reg.FLOE_SEL, [Fld.FLOE_SEL_SET]⟩,
  ⟨Reg.FLOE_SET_STAT, [Fld.FLOE_SET_STAT_STATE, Fld.FLOE_SET_STAT_PLACE_WARN, Fld.FLOE_SET_STAT_M, Fld.FLOE_SET_STAT_K, Fld.FLOE_SET_STAT_MOUNTED]⟩,
  ⟨Reg.FLOE_SET_STRIPES, [Fld.FLOE_SET_STRIPES_COUNT]⟩,
  ⟨Reg.FLOE_SET_UNPROT, [Fld.FLOE_SET_UNPROT_COUNT]⟩,
  ⟨Reg.FLOE_REBUILD_STAT, [Fld.FLOE_REBUILD_STAT_BUSY, Fld.FLOE_REBUILD_STAT_WAIT, Fld.FLOE_REBUILD_STAT_RESULT, Fld.FLOE_REBUILD_STAT_MEMBER, Fld.FLOE_REBUILD_STAT_LOST]⟩,
  ⟨Reg.FLOE_REBUILD_DONE, [Fld.FLOE_REBUILD_DONE_STRIPES]⟩]

/-- Part of the FLOE block's register table. -/
def regTableFLOE1 : List RegEntry := [
  ⟨Reg.FLOE_CNT_RECON, [Fld.FLOE_CNT_RECON_COUNT]⟩,
  ⟨Reg.FLOE_CNT_REPAIR, [Fld.FLOE_CNT_REPAIR_COUNT]⟩,
  ⟨Reg.FLOE_CNT_SCRUB, [Fld.FLOE_CNT_SCRUB_COUNT]⟩,
  ⟨Reg.FLOE_CNT_MISMATCH, [Fld.FLOE_CNT_MISMATCH_COUNT]⟩,
  ⟨Reg.FLOE_MEMBER, [Fld.FLOE_MEMBER_MOUNTED, Fld.FLOE_MEMBER_PARITY, Fld.FLOE_MEMBER_REBUILDING, Fld.FLOE_MEMBER_MN]⟩]

/-- Every register of the FLOE block with its fields. -/
def regTableFLOE : List RegEntry := regTableFLOE0 ++ regTableFLOE1

def Reg.BRTH_GCFG : Reg := ⟨0x0300000, 0x0, 1, 0x0, 1, fun _ _ => 0x13884032⟩
def Fld.BRTH_GCFG_AGE_MS : Fld := ⟨Reg.BRTH_GCFG, 16, 16, .rw⟩
def Fld.BRTH_GCFG_THROTTLE_MIN : Fld := ⟨Reg.BRTH_GCFG, 8, 8, .rw⟩
def Fld.BRTH_GCFG_OVER_MS : Fld := ⟨Reg.BRTH_GCFG, 0, 8, .rw⟩
def Reg.BRTH_GSTAT : Reg := ⟨0x0300004, 0x0, 1, 0x0, 1, fun _ _ => 0x00000000⟩
def Fld.BRTH_GSTAT_DEFERRED : Fld := ⟨Reg.BRTH_GSTAT, 16, 16, .ro⟩
def Fld.BRTH_GSTAT_OVERDRAWN : Fld := ⟨Reg.BRTH_GSTAT, 0, 8, .ro⟩
def Reg.BRTH_EVENT : Reg := ⟨0x0300008, 0x0, 1, 0x0, 1, fun _ _ => 0x00000000⟩
def Fld.BRTH_EVENT_DOM : Fld := ⟨Reg.BRTH_EVENT, 12, 3, .ro⟩
def Fld.BRTH_EVENT_SPINUP_LONG : Fld := ⟨Reg.BRTH_EVENT, 6, 1, .w1c⟩
def Fld.BRTH_EVENT_AGED : Fld := ⟨Reg.BRTH_EVENT, 5, 1, .w1c⟩
def Fld.BRTH_EVENT_MECH_EXCESS : Fld := ⟨Reg.BRTH_EVENT, 4, 1, .w1c⟩
def Fld.BRTH_EVENT_NEVER_FIT : Fld := ⟨Reg.BRTH_EVENT, 3, 1, .w1c⟩
def Fld.BRTH_EVENT_OVERCOMMIT : Fld := ⟨Reg.BRTH_EVENT, 2, 1, .w1c⟩
def Fld.BRTH_EVENT_OVERDRAW_LONG : Fld := ⟨Reg.BRTH_EVENT, 1, 1, .w1c⟩
def Fld.BRTH_EVENT_OVERDRAW : Fld := ⟨Reg.BRTH_EVENT, 0, 1, .w1c⟩
def Reg.BRTH_EVENT_EN : Reg := ⟨0x030000C, 0x0, 1, 0x0, 1, fun _ _ => 0x0000005F⟩
def Fld.BRTH_EVENT_EN_DOM : Fld := ⟨Reg.BRTH_EVENT_EN, 12, 3, .rw⟩
def Fld.BRTH_EVENT_EN_SPINUP_LONG : Fld := ⟨Reg.BRTH_EVENT_EN, 6, 1, .rw⟩
def Fld.BRTH_EVENT_EN_AGED : Fld := ⟨Reg.BRTH_EVENT_EN, 5, 1, .rw⟩
def Fld.BRTH_EVENT_EN_MECH_EXCESS : Fld := ⟨Reg.BRTH_EVENT_EN, 4, 1, .rw⟩
def Fld.BRTH_EVENT_EN_NEVER_FIT : Fld := ⟨Reg.BRTH_EVENT_EN, 3, 1, .rw⟩
def Fld.BRTH_EVENT_EN_OVERCOMMIT : Fld := ⟨Reg.BRTH_EVENT_EN, 2, 1, .rw⟩
def Fld.BRTH_EVENT_EN_OVERDRAW_LONG : Fld := ⟨Reg.BRTH_EVENT_EN, 1, 1, .rw⟩
def Fld.BRTH_EVENT_EN_OVERDRAW : Fld := ⟨Reg.BRTH_EVENT_EN, 0, 1, .rw⟩
def Reg.BRTH_EXCESS : Reg := ⟨0x0300010, 0x0, 1, 0x0, 1, fun _ _ => 0x00000000⟩
def Fld.BRTH_EXCESS_EXCESS_MW : Fld := ⟨Reg.BRTH_EXCESS, 16, 16, .ro⟩
def Fld.BRTH_EXCESS_MN : Fld := ⟨Reg.BRTH_EXCESS, 0, 12, .ro⟩
def Reg.BRTH_BIST_CFG : Reg := ⟨0x0300014, 0x0, 1, 0x0, 1, fun _ _ => 0x4E200064⟩
def Fld.BRTH_BIST_CFG_BUDGET_MW : Fld := ⟨Reg.BRTH_BIST_CFG, 16, 16, .rw⟩
def Fld.BRTH_BIST_CFG_GAP_US : Fld := ⟨Reg.BRTH_BIST_CFG, 0, 16, .rw⟩
def Reg.BRTH_BIST_STAT : Reg := ⟨0x0300018, 0x0, 1, 0x0, 1, fun _ _ => 0x00000000⟩
def Fld.BRTH_BIST_STAT_GRANTED_MW : Fld := ⟨Reg.BRTH_BIST_STAT, 16, 16, .ro⟩
def Fld.BRTH_BIST_STAT_DEFERRED : Fld := ⟨Reg.BRTH_BIST_STAT, 0, 8, .ro⟩
def Reg.BRTH_DOM_BUDGET : Reg := ⟨0x0300100, 0x20, 8, 0x0, 1, fun _ _ => 0xFFFFFFFF⟩
def Fld.BRTH_DOM_BUDGET_MW : Fld := ⟨Reg.BRTH_DOM_BUDGET, 0, 32, .rw⟩
def Reg.BRTH_DOM_RESERVE : Reg := ⟨0x0300104, 0x20, 8, 0x0, 1, fun _ _ => 0x00000000⟩
def Fld.BRTH_DOM_RESERVE_MW : Fld := ⟨Reg.BRTH_DOM_RESERVE, 0, 32, .rw⟩
def Reg.BRTH_DOM_KEEP : Reg := ⟨0x0300108, 0x20, 8, 0x0, 1, fun _ _ => 0x00001388⟩
def Fld.BRTH_DOM_KEEP_MW : Fld := ⟨Reg.BRTH_DOM_KEEP, 0, 32, .rw⟩
def Reg.BRTH_DOM_FIXED : Reg := ⟨0x030010C, 0x20, 8, 0x0, 1, fun _ _ => 0x00000000⟩
def Fld.BRTH_DOM_FIXED_MW : Fld := ⟨Reg.BRTH_DOM_FIXED, 0, 32, .rw⟩
def Reg.BRTH_DOM_COMMIT : Reg := ⟨0x0300110, 0x20, 8, 0x0, 1, fun _ _ => 0x00000000⟩
def Fld.BRTH_DOM_COMMIT_MW : Fld := ⟨Reg.BRTH_DOM_COMMIT, 0, 32, .ro⟩
def Reg.BRTH_DOM_MEAS : Reg := ⟨0x0300114, 0x20, 8, 0x0, 1, fun _ _ => 0x00000000⟩
def Fld.BRTH_DOM_MEAS_MW : Fld := ⟨Reg.BRTH_DOM_MEAS, 0, 32, .ro⟩
def Reg.BRTH_DOM_STAT : Reg := ⟨0x0300118, 0x20, 8, 0x0, 1, fun _ _ => 0x00000000⟩
def Fld.BRTH_DOM_STAT_OVERDRAW : Fld := ⟨Reg.BRTH_DOM_STAT, 31, 1, .ro⟩
def Fld.BRTH_DOM_STAT_OVERCOMMIT : Fld := ⟨Reg.BRTH_DOM_STAT, 30, 1, .ro⟩
def Fld.BRTH_DOM_STAT_BLOCKED : Fld := ⟨Reg.BRTH_DOM_STAT, 29, 1, .ro⟩
def Fld.BRTH_DOM_STAT_THROTTLED : Fld := ⟨Reg.BRTH_DOM_STAT, 16, 13, .ro⟩
def Fld.BRTH_DOM_STAT_DEFERRED : Fld := ⟨Reg.BRTH_DOM_STAT, 0, 13, .ro⟩
def Reg.BRTH_CLS_SPIN : Reg := ⟨0x0300200, 0x10, 8, 0x0, 1, fun _ _ => 0x005004B0⟩
def Fld.BRTH_CLS_SPIN_SPIN_K : Fld := ⟨Reg.BRTH_CLS_SPIN, 16, 16, .rw⟩
def Fld.BRTH_CLS_SPIN_SPIN_BASE_MW : Fld := ⟨Reg.BRTH_CLS_SPIN, 0, 16, .rw⟩
def Reg.BRTH_CLS_START : Reg := ⟨0x0300204, 0x10, 8, 0x0, 1, fun _ _ => 0x00001770⟩
def Fld.BRTH_CLS_START_PEAK_MW : Fld := ⟨Reg.BRTH_CLS_START, 0, 16, .rw⟩
def Reg.BRTH_CLS_MOVE : Reg := ⟨0x0300208, 0x10, 8, 0x0, 1, fun _ _ => 0x032001C2⟩
def Fld.BRTH_CLS_MOVE_SEEK_MW : Fld := ⟨Reg.BRTH_CLS_MOVE, 16, 16, .rw⟩
def Fld.BRTH_CLS_MOVE_WRITE_MW : Fld := ⟨Reg.BRTH_CLS_MOVE, 0, 16, .rw⟩
def Reg.BRTH_CLS_IDLE : Reg := ⟨0x030020C, 0x10, 8, 0x0, 1, fun _ _ => 0x00000258⟩
def Fld.BRTH_CLS_IDLE_IDLE_MW : Fld := ⟨Reg.BRTH_CLS_IDLE, 0, 16, .rw⟩
def Reg.BRTH_PORT : Reg := ⟨0x0300400, 0x4, 64, 0x0, 1, fun _ _ => 0x000009C4⟩
def Fld.BRTH_PORT_DOMAIN : Fld := ⟨Reg.BRTH_PORT, 16, 3, .rw⟩
def Fld.BRTH_PORT_LINK_MW : Fld := ⟨Reg.BRTH_PORT, 0, 16, .rw⟩
def Reg.BRTH_MECH : Reg := ⟨0x0301000, 0x8, 4096, 0x0, 1, fun _ _ => 0x00000000⟩
def Fld.BRTH_MECH_DEFERRED : Fld := ⟨Reg.BRTH_MECH, 31, 1, .ro⟩
def Fld.BRTH_MECH_DCLASS : Fld := ⟨Reg.BRTH_MECH, 28, 3, .ro⟩
def Fld.BRTH_MECH_SEEK : Fld := ⟨Reg.BRTH_MECH, 27, 1, .ro⟩
def Fld.BRTH_MECH_WRITE : Fld := ⟨Reg.BRTH_MECH, 26, 1, .ro⟩
def Fld.BRTH_MECH_SPINUP : Fld := ⟨Reg.BRTH_MECH, 25, 1, .ro⟩
def Fld.BRTH_MECH_SPIN : Fld := ⟨Reg.BRTH_MECH, 24, 1, .ro⟩
def Fld.BRTH_MECH_COMMIT_MW : Fld := ⟨Reg.BRTH_MECH, 0, 16, .ro⟩
def Reg.BRTH_MECH_MEAS : Reg := ⟨0x0301004, 0x8, 4096, 0x0, 1, fun _ _ => 0x00000000⟩
def Fld.BRTH_MECH_MEAS_MW : Fld := ⟨Reg.BRTH_MECH_MEAS, 0, 16, .ro⟩

/-- Part of the BRTH block's register table. -/
def regTableBRTH0 : List RegEntry := [
  ⟨Reg.BRTH_GCFG, [Fld.BRTH_GCFG_AGE_MS, Fld.BRTH_GCFG_THROTTLE_MIN, Fld.BRTH_GCFG_OVER_MS]⟩,
  ⟨Reg.BRTH_GSTAT, [Fld.BRTH_GSTAT_DEFERRED, Fld.BRTH_GSTAT_OVERDRAWN]⟩,
  ⟨Reg.BRTH_EVENT, [Fld.BRTH_EVENT_DOM, Fld.BRTH_EVENT_SPINUP_LONG, Fld.BRTH_EVENT_AGED, Fld.BRTH_EVENT_MECH_EXCESS, Fld.BRTH_EVENT_NEVER_FIT, Fld.BRTH_EVENT_OVERCOMMIT, Fld.BRTH_EVENT_OVERDRAW_LONG, Fld.BRTH_EVENT_OVERDRAW]⟩,
  ⟨Reg.BRTH_EVENT_EN, [Fld.BRTH_EVENT_EN_DOM, Fld.BRTH_EVENT_EN_SPINUP_LONG, Fld.BRTH_EVENT_EN_AGED, Fld.BRTH_EVENT_EN_MECH_EXCESS, Fld.BRTH_EVENT_EN_NEVER_FIT, Fld.BRTH_EVENT_EN_OVERCOMMIT, Fld.BRTH_EVENT_EN_OVERDRAW_LONG, Fld.BRTH_EVENT_EN_OVERDRAW]⟩,
  ⟨Reg.BRTH_EXCESS, [Fld.BRTH_EXCESS_EXCESS_MW, Fld.BRTH_EXCESS_MN]⟩,
  ⟨Reg.BRTH_BIST_CFG, [Fld.BRTH_BIST_CFG_BUDGET_MW, Fld.BRTH_BIST_CFG_GAP_US]⟩,
  ⟨Reg.BRTH_BIST_STAT, [Fld.BRTH_BIST_STAT_GRANTED_MW, Fld.BRTH_BIST_STAT_DEFERRED]⟩,
  ⟨Reg.BRTH_DOM_BUDGET, [Fld.BRTH_DOM_BUDGET_MW]⟩,
  ⟨Reg.BRTH_DOM_RESERVE, [Fld.BRTH_DOM_RESERVE_MW]⟩,
  ⟨Reg.BRTH_DOM_KEEP, [Fld.BRTH_DOM_KEEP_MW]⟩,
  ⟨Reg.BRTH_DOM_FIXED, [Fld.BRTH_DOM_FIXED_MW]⟩,
  ⟨Reg.BRTH_DOM_COMMIT, [Fld.BRTH_DOM_COMMIT_MW]⟩]

/-- Part of the BRTH block's register table. -/
def regTableBRTH1 : List RegEntry := [
  ⟨Reg.BRTH_DOM_MEAS, [Fld.BRTH_DOM_MEAS_MW]⟩,
  ⟨Reg.BRTH_DOM_STAT, [Fld.BRTH_DOM_STAT_OVERDRAW, Fld.BRTH_DOM_STAT_OVERCOMMIT, Fld.BRTH_DOM_STAT_BLOCKED, Fld.BRTH_DOM_STAT_THROTTLED, Fld.BRTH_DOM_STAT_DEFERRED]⟩,
  ⟨Reg.BRTH_CLS_SPIN, [Fld.BRTH_CLS_SPIN_SPIN_K, Fld.BRTH_CLS_SPIN_SPIN_BASE_MW]⟩,
  ⟨Reg.BRTH_CLS_START, [Fld.BRTH_CLS_START_PEAK_MW]⟩,
  ⟨Reg.BRTH_CLS_MOVE, [Fld.BRTH_CLS_MOVE_SEEK_MW, Fld.BRTH_CLS_MOVE_WRITE_MW]⟩,
  ⟨Reg.BRTH_CLS_IDLE, [Fld.BRTH_CLS_IDLE_IDLE_MW]⟩,
  ⟨Reg.BRTH_PORT, [Fld.BRTH_PORT_DOMAIN, Fld.BRTH_PORT_LINK_MW]⟩,
  ⟨Reg.BRTH_MECH, [Fld.BRTH_MECH_DEFERRED, Fld.BRTH_MECH_DCLASS, Fld.BRTH_MECH_SEEK, Fld.BRTH_MECH_WRITE, Fld.BRTH_MECH_SPINUP, Fld.BRTH_MECH_SPIN, Fld.BRTH_MECH_COMMIT_MW]⟩,
  ⟨Reg.BRTH_MECH_MEAS, [Fld.BRTH_MECH_MEAS_MW]⟩]

/-- Every register of the BRTH block with its fields. -/
def regTableBRTH : List RegEntry := regTableBRTH0 ++ regTableBRTH1

end Sys2Proof.Machine
end

