-- ==== Sys2Proof/Machine/RegsHostMem.lean ====
section
/-! DEFINITION. The registers and fields of the blocks HQP, MEM, MCORE, FN: addresses and resets
from spec/21_register_index.md (R554), fields and access types (R10) from the field table of the chapter that owns the block. -/

namespace Sys2Proof.Machine

def Reg.HQP_GCFG : Reg := ⟨0x0340000, 0x0, 1, 0x0, 1, fun _ _ => 0x64306401⟩
def Fld.HQP_GCFG_FETCH_US : Fld := ⟨Reg.HQP_GCFG, 24, 8, .rw⟩
def Fld.HQP_GCFG_FETCH_TRIES : Fld := ⟨Reg.HQP_GCFG, 20, 4, .rw⟩
def Fld.HQP_GCFG_POLL_MAX_US : Fld := ⟨Reg.HQP_GCFG, 8, 8, .rw⟩
def Fld.HQP_GCFG_POLL_MIN_US : Fld := ⟨Reg.HQP_GCFG, 0, 8, .rw⟩
def Reg.HQP_STEWARD : Reg := ⟨0x0340004, 0x0, 1, 0x0, 1, fun _ _ => 0x00000000⟩
def Fld.HQP_STEWARD_VALID : Fld := ⟨Reg.HQP_STEWARD, 31, 1, .ro⟩
def Fld.HQP_STEWARD_STANDBY_VALID : Fld := ⟨Reg.HQP_STEWARD, 30, 1, .ro⟩
def Fld.HQP_STEWARD_SOURCE : Fld := ⟨Reg.HQP_STEWARD, 24, 2, .ro⟩
def Fld.HQP_STEWARD_STANDBY_FN : Fld := ⟨Reg.HQP_STEWARD, 16, 8, .ro⟩
def Fld.HQP_STEWARD_STEWARD_FN : Fld := ⟨Reg.HQP_STEWARD, 0, 8, .ro⟩
def Reg.HQP_STEWARD_TOKEN : Reg := ⟨0x0340008, 0x0, 1, 0x0, 1, fun _ _ => 0x00000000⟩
def Fld.HQP_STEWARD_TOKEN_TOKEN : Fld := ⟨Reg.HQP_STEWARD_TOKEN, 0, 32, .ro⟩
def Reg.HQP_STANDBY_TOKEN : Reg := ⟨0x034000C, 0x0, 1, 0x0, 1, fun _ _ => 0x00000000⟩
def Fld.HQP_STANDBY_TOKEN_TOKEN : Fld := ⟨Reg.HQP_STANDBY_TOKEN, 0, 32, .ro⟩
def Reg.HQP_STEWARD_CFG : Reg := ⟨0x0340010, 0x0, 1, 0x0, 1, fun _ _ => 0x00000000⟩
def Fld.HQP_STEWARD_CFG_HB_MS : Fld := ⟨Reg.HQP_STEWARD_CFG, 0, 16, .rw⟩
def Reg.HQP_FENCE : Reg := ⟨0x0340014, 0x0, 1, 0x0, 1, fun _ _ => 0x00000000⟩
def Fld.HQP_FENCE_BUSY : Fld := ⟨Reg.HQP_FENCE, 31, 1, .ro⟩
def Fld.HQP_FENCE_RESULT : Fld := ⟨Reg.HQP_FENCE, 28, 3, .ro⟩
def Fld.HQP_FENCE_TARGET : Fld := ⟨Reg.HQP_FENCE, 8, 8, .rw⟩
def Fld.HQP_FENCE_OP : Fld := ⟨Reg.HQP_FENCE, 0, 3, .wo⟩
def Reg.HQP_EVENT : Reg := ⟨0x0340018, 0x0, 1, 0x0, 1, fun _ _ => 0x00000000⟩
def Fld.HQP_EVENT_EVT_LOST : Fld := ⟨Reg.HQP_EVENT, 6, 1, .w1c⟩
def Fld.HQP_EVENT_MERGE_FULL : Fld := ⟨Reg.HQP_EVENT, 5, 1, .w1c⟩
def Fld.HQP_EVENT_QP_ERROR : Fld := ⟨Reg.HQP_EVENT, 4, 1, .w1c⟩
def Fld.HQP_EVENT_FN_STOP : Fld := ⟨Reg.HQP_EVENT, 3, 1, .w1c⟩
def Fld.HQP_EVENT_PORT_DOWN : Fld := ⟨Reg.HQP_EVENT, 2, 1, .w1c⟩
def Fld.HQP_EVENT_STEWARD_LOST : Fld := ⟨Reg.HQP_EVENT, 1, 1, .w1c⟩
def Fld.HQP_EVENT_STEWARD_CHANGE : Fld := ⟨Reg.HQP_EVENT, 0, 1, .w1c⟩
def Reg.HQP_EVENT_EN : Reg := ⟨0x034001C, 0x0, 1, 0x0, 1, fun _ _ => 0x0000007F⟩
def Fld.HQP_EVENT_EN_EVT_LOST : Fld := ⟨Reg.HQP_EVENT_EN, 6, 1, .rw⟩
def Fld.HQP_EVENT_EN_MERGE_FULL : Fld := ⟨Reg.HQP_EVENT_EN, 5, 1, .rw⟩
def Fld.HQP_EVENT_EN_QP_ERROR : Fld := ⟨Reg.HQP_EVENT_EN, 4, 1, .rw⟩
def Fld.HQP_EVENT_EN_FN_STOP : Fld := ⟨Reg.HQP_EVENT_EN, 3, 1, .rw⟩
def Fld.HQP_EVENT_EN_PORT_DOWN : Fld := ⟨Reg.HQP_EVENT_EN, 2, 1, .rw⟩
def Fld.HQP_EVENT_EN_STEWARD_LOST : Fld := ⟨Reg.HQP_EVENT_EN, 1, 1, .rw⟩
def Fld.HQP_EVENT_EN_STEWARD_CHANGE : Fld := ⟨Reg.HQP_EVENT_EN, 0, 1, .rw⟩
def Reg.HQP_GSTAT : Reg := ⟨0x0340020, 0x0, 1, 0x0, 1, fun _ _ => 0x00000000⟩
def Fld.HQP_GSTAT_USED : Fld := ⟨Reg.HQP_GSTAT, 0, 19, .ro⟩
def Reg.HQP_TAGS : Reg := ⟨0x0340024, 0x0, 1, 0x0, 1, fun _ _ => 0x00000000⟩
def Fld.HQP_TAGS_USED : Fld := ⟨Reg.HQP_TAGS, 0, 19, .ro⟩
def Reg.HQP_MERGE : Reg := ⟨0x0340028, 0x0, 1, 0x0, 1, fun _ _ => 0x00000000⟩
def Fld.HQP_MERGE_PEAK : Fld := ⟨Reg.HQP_MERGE, 12, 10, .rc⟩
def Fld.HQP_MERGE_OCC : Fld := ⟨Reg.HQP_MERGE, 0, 12, .ro⟩
def Reg.HQP_PORT : Reg := ⟨0x0340040, 0x4, 4, 0x0, 1, fun _ _ => 0x00000000⟩
def Fld.HQP_PORT_RESETS : Fld := ⟨Reg.HQP_PORT, 16, 16, .ro⟩
def Fld.HQP_PORT_WIDTH : Fld := ⟨Reg.HQP_PORT, 8, 4, .ro⟩
def Fld.HQP_PORT_RATE : Fld := ⟨Reg.HQP_PORT, 4, 4, .ro⟩
def Fld.HQP_PORT_L1 : Fld := ⟨Reg.HQP_PORT, 1, 1, .ro⟩
def Fld.HQP_PORT_UP : Fld := ⟨Reg.HQP_PORT, 0, 1, .ro⟩
def Reg.HQP_FN_CFG : Reg := ⟨0x0341000, 0x20, 256, 0x0, 1, fun _ _ => 0x01000100⟩
def Fld.HQP_FN_CFG_WEIGHT : Fld := ⟨Reg.HQP_FN_CFG, 24, 8, .rw⟩
def Fld.HQP_FN_CFG_QP_QUOTA : Fld := ⟨Reg.HQP_FN_CFG, 0, 17, .rw⟩
def Reg.HQP_FN_TAGQ : Reg := ⟨0x0341004, 0x20, 256, 0x0, 1, fun _ _ => 0x00000400⟩
def Fld.HQP_FN_TAGQ_TAG_QUOTA : Fld := ⟨Reg.HQP_FN_TAGQ, 0, 19, .rw⟩
def Reg.HQP_FN_KEYS : Reg := ⟨0x0341008, 0x20, 256, 0x0, 1, fun i _ => 0x100000 + i * 16⟩
def Fld.HQP_FN_KEYS_COUNT : Fld := ⟨Reg.HQP_FN_KEYS, 16, 13, .rw⟩
def Fld.HQP_FN_KEYS_BASE : Fld := ⟨Reg.HQP_FN_KEYS, 0, 12, .rw⟩
def Reg.HQP_FN_STAT : Reg := ⟨0x034100C, 0x20, 256, 0x0, 1, fun _ _ => 0x00000000⟩
def Fld.HQP_FN_STAT_EVT_LOST : Fld := ⟨Reg.HQP_FN_STAT, 31, 1, .w1c⟩
def Fld.HQP_FN_STAT_BAR4_ERR : Fld := ⟨Reg.HQP_FN_STAT, 30, 1, .w1c⟩
def Fld.HQP_FN_STAT_VER : Fld := ⟨Reg.HQP_FN_STAT, 24, 3, .ro⟩
def Fld.HQP_FN_STAT_ENABLED : Fld := ⟨Reg.HQP_FN_STAT, 23, 1, .ro⟩
def Fld.HQP_FN_STAT_FENCED : Fld := ⟨Reg.HQP_FN_STAT, 22, 1, .ro⟩
def Fld.HQP_FN_STAT_QPS : Fld := ⟨Reg.HQP_FN_STAT, 0, 17, .ro⟩
def Reg.HQP_FN_DISCARD : Reg := ⟨0x0341010, 0x20, 256, 0x0, 1, fun _ _ => 0x00000000⟩
def Fld.HQP_FN_DISCARD_COUNT : Fld := ⟨Reg.HQP_FN_DISCARD, 0, 32, .rc⟩
def Reg.HQP_LEASE : Reg := ⟨0x0360000, 0x10, 4096, 0x4, 4, fun _ _ => 0x00000000⟩
def Fld.HQP_LEASE_VALID : Fld := ⟨Reg.HQP_LEASE, 31, 1, .ro⟩
def Fld.HQP_LEASE_MODE : Fld := ⟨Reg.HQP_LEASE, 16, 2, .ro⟩
def Fld.HQP_LEASE_FN : Fld := ⟨Reg.HQP_LEASE, 0, 8, .ro⟩

/-- Part of the HQP block's register table. -/
def regTableHQP0 : List RegEntry := [
  ⟨Reg.HQP_GCFG, [Fld.HQP_GCFG_FETCH_US, Fld.HQP_GCFG_FETCH_TRIES, Fld.HQP_GCFG_POLL_MAX_US, Fld.HQP_GCFG_POLL_MIN_US]⟩,
  ⟨Reg.HQP_STEWARD, [Fld.HQP_STEWARD_VALID, Fld.HQP_STEWARD_STANDBY_VALID, Fld.HQP_STEWARD_SOURCE, Fld.HQP_STEWARD_STANDBY_FN, Fld.HQP_STEWARD_STEWARD_FN]⟩,
  ⟨Reg.HQP_STEWARD_TOKEN, [Fld.HQP_STEWARD_TOKEN_TOKEN]⟩,
  ⟨Reg.HQP_STANDBY_TOKEN, [Fld.HQP_STANDBY_TOKEN_TOKEN]⟩,
  ⟨Reg.HQP_STEWARD_CFG, [Fld.HQP_STEWARD_CFG_HB_MS]⟩,
  ⟨Reg.HQP_FENCE, [Fld.HQP_FENCE_BUSY, Fld.HQP_FENCE_RESULT, Fld.HQP_FENCE_TARGET, Fld.HQP_FENCE_OP]⟩,
  ⟨Reg.HQP_EVENT, [Fld.HQP_EVENT_EVT_LOST, Fld.HQP_EVENT_MERGE_FULL, Fld.HQP_EVENT_QP_ERROR, Fld.HQP_EVENT_FN_STOP, Fld.HQP_EVENT_PORT_DOWN, Fld.HQP_EVENT_STEWARD_LOST, Fld.HQP_EVENT_STEWARD_CHANGE]⟩,
  ⟨Reg.HQP_EVENT_EN, [Fld.HQP_EVENT_EN_EVT_LOST, Fld.HQP_EVENT_EN_MERGE_FULL, Fld.HQP_EVENT_EN_QP_ERROR, Fld.HQP_EVENT_EN_FN_STOP, Fld.HQP_EVENT_EN_PORT_DOWN, Fld.HQP_EVENT_EN_STEWARD_LOST, Fld.HQP_EVENT_EN_STEWARD_CHANGE]⟩,
  ⟨Reg.HQP_GSTAT, [Fld.HQP_GSTAT_USED]⟩,
  ⟨Reg.HQP_TAGS, [Fld.HQP_TAGS_USED]⟩,
  ⟨Reg.HQP_MERGE, [Fld.HQP_MERGE_PEAK, Fld.HQP_MERGE_OCC]⟩,
  ⟨Reg.HQP_PORT, [Fld.HQP_PORT_RESETS, Fld.HQP_PORT_WIDTH, Fld.HQP_PORT_RATE, Fld.HQP_PORT_L1, Fld.HQP_PORT_UP]⟩]

/-- Part of the HQP block's register table. -/
def regTableHQP1 : List RegEntry := [
  ⟨Reg.HQP_FN_CFG, [Fld.HQP_FN_CFG_WEIGHT, Fld.HQP_FN_CFG_QP_QUOTA]⟩,
  ⟨Reg.HQP_FN_TAGQ, [Fld.HQP_FN_TAGQ_TAG_QUOTA]⟩,
  ⟨Reg.HQP_FN_KEYS, [Fld.HQP_FN_KEYS_COUNT, Fld.HQP_FN_KEYS_BASE]⟩,
  ⟨Reg.HQP_FN_STAT, [Fld.HQP_FN_STAT_EVT_LOST, Fld.HQP_FN_STAT_BAR4_ERR, Fld.HQP_FN_STAT_VER, Fld.HQP_FN_STAT_ENABLED, Fld.HQP_FN_STAT_FENCED, Fld.HQP_FN_STAT_QPS]⟩,
  ⟨Reg.HQP_FN_DISCARD, [Fld.HQP_FN_DISCARD_COUNT]⟩,
  ⟨Reg.HQP_LEASE, [Fld.HQP_LEASE_VALID, Fld.HQP_LEASE_MODE, Fld.HQP_LEASE_FN]⟩]

/-- Every register of the HQP block with its fields. -/
def regTableHQP : List RegEntry := regTableHQP0 ++ regTableHQP1

def Reg.MEM_SRAM_STAT : Reg := ⟨0x0380000, 0x0, 1, 0x0, 1, fun _ _ => 0x00000000⟩
def Fld.MEM_SRAM_STAT_TEST_DONE : Fld := ⟨Reg.MEM_SRAM_STAT, 31, 1, .ro⟩
def Fld.MEM_SRAM_STAT_TEST_FAIL : Fld := ⟨Reg.MEM_SRAM_STAT, 30, 1, .ro⟩
def Fld.MEM_SRAM_STAT_FAIL_LOC : Fld := ⟨Reg.MEM_SRAM_STAT, 24, 6, .ro⟩
def Reg.MEM_EVENT : Reg := ⟨0x0380004, 0x0, 1, 0x0, 1, fun _ _ => 0x00000000⟩
def Fld.MEM_EVENT_RIME_ERR : Fld := ⟨Reg.MEM_EVENT, 8, 1, .w1c⟩
def Fld.MEM_EVENT_DDR_UE : Fld := ⟨Reg.MEM_EVENT, 7, 1, .w1c⟩
def Fld.MEM_EVENT_DDR_CE : Fld := ⟨Reg.MEM_EVENT, 6, 1, .w1c⟩
def Fld.MEM_EVENT_MERGE_UE : Fld := ⟨Reg.MEM_EVENT, 5, 1, .w1c⟩
def Fld.MEM_EVENT_DMA_RESTART : Fld := ⟨Reg.MEM_EVENT, 4, 1, .w1c⟩
def Fld.MEM_EVENT_DMA_HALT : Fld := ⟨Reg.MEM_EVENT, 3, 1, .w1c⟩
def Fld.MEM_EVENT_UE : Fld := ⟨Reg.MEM_EVENT, 2, 1, .w1c⟩
def Fld.MEM_EVENT_CE_CHECK : Fld := ⟨Reg.MEM_EVENT, 1, 1, .w1c⟩
def Fld.MEM_EVENT_CE_DATA : Fld := ⟨Reg.MEM_EVENT, 0, 1, .w1c⟩
def Reg.MEM_EVENT_EN : Reg := ⟨0x0380008, 0x0, 1, 0x0, 1, fun _ _ => 0x000001FC⟩
def Fld.MEM_EVENT_EN_RIME_ERR : Fld := ⟨Reg.MEM_EVENT_EN, 8, 1, .rw⟩
def Fld.MEM_EVENT_EN_DDR_UE : Fld := ⟨Reg.MEM_EVENT_EN, 7, 1, .rw⟩
def Fld.MEM_EVENT_EN_DDR_CE : Fld := ⟨Reg.MEM_EVENT_EN, 6, 1, .rw⟩
def Fld.MEM_EVENT_EN_MERGE_UE : Fld := ⟨Reg.MEM_EVENT_EN, 5, 1, .rw⟩
def Fld.MEM_EVENT_EN_DMA_RESTART : Fld := ⟨Reg.MEM_EVENT_EN, 4, 1, .rw⟩
def Fld.MEM_EVENT_EN_DMA_HALT : Fld := ⟨Reg.MEM_EVENT_EN, 3, 1, .rw⟩
def Fld.MEM_EVENT_EN_UE : Fld := ⟨Reg.MEM_EVENT_EN, 2, 1, .rw⟩
def Fld.MEM_EVENT_EN_CE_CHECK : Fld := ⟨Reg.MEM_EVENT_EN, 1, 1, .rw⟩
def Fld.MEM_EVENT_EN_CE_DATA : Fld := ⟨Reg.MEM_EVENT_EN, 0, 1, .rw⟩
def Reg.MEM_ECC_LAST : Reg := ⟨0x038000C, 0x0, 1, 0x0, 1, fun _ _ => 0x00000000⟩
def Fld.MEM_ECC_LAST_CLASS : Fld := ⟨Reg.MEM_ECC_LAST, 30, 2, .ro⟩
def Fld.MEM_ECC_LAST_LOC : Fld := ⟨Reg.MEM_ECC_LAST, 23, 6, .ro⟩
def Fld.MEM_ECC_LAST_REQ : Fld := ⟨Reg.MEM_ECC_LAST, 18, 5, .ro⟩
def Fld.MEM_ECC_LAST_WORD : Fld := ⟨Reg.MEM_ECC_LAST, 0, 18, .ro⟩
def Reg.MEM_ECC_ADDR : Reg := ⟨0x0380010, 0x0, 1, 0x0, 1, fun _ _ => 0x00000000⟩
def Fld.MEM_ECC_ADDR_LINE : Fld := ⟨Reg.MEM_ECC_ADDR, 0, 32, .ro⟩
def Reg.MEM_MERGE_CFG : Reg := ⟨0x0380014, 0x0, 1, 0x0, 1, fun _ _ => 0x00000020⟩
def Fld.MEM_MERGE_CFG_IDLE_CYC : Fld := ⟨Reg.MEM_MERGE_CFG, 0, 8, .rw⟩
def Reg.MEM_SCRUB_CFG : Reg := ⟨0x0380018, 0x0, 1, 0x0, 1, fun _ _ => 0x00180E10⟩
def Fld.MEM_SCRUB_CFG_DRAM_H : Fld := ⟨Reg.MEM_SCRUB_CFG, 16, 16, .rw⟩
def Fld.MEM_SCRUB_CFG_SRAM_S : Fld := ⟨Reg.MEM_SCRUB_CFG, 0, 16, .rw⟩
def Reg.MEM_SRAM_PRIO : Reg := ⟨0x0380020, 0x4, 7, 0x0, 1, fun _ _ => 0x88888888⟩
def Fld.MEM_SRAM_PRIO_PRIO : Fld := ⟨Reg.MEM_SRAM_PRIO, 0, 32, .rw⟩
def Reg.MEM_DMA_STAT : Reg := ⟨0x0380040, 0x4, 24, 0x0, 1, fun _ _ => 0x00000000⟩
def Fld.MEM_DMA_STAT_CSTATE : Fld := ⟨Reg.MEM_DMA_STAT, 30, 2, .ro⟩
def Fld.MEM_DMA_STAT_HALTS : Fld := ⟨Reg.MEM_DMA_STAT, 16, 8, .ro⟩
def Fld.MEM_DMA_STAT_CAUSE : Fld := ⟨Reg.MEM_DMA_STAT, 8, 8, .ro⟩
def Reg.MEM_ECC_CNT : Reg := ⟨0x0380100, 0x4, 48, 0x0, 1, fun _ _ => 0x00000000⟩
def Fld.MEM_ECC_CNT_CE_DATA : Fld := ⟨Reg.MEM_ECC_CNT, 16, 16, .rc⟩
def Fld.MEM_ECC_CNT_CE_CHECK : Fld := ⟨Reg.MEM_ECC_CNT, 8, 8, .rc⟩
def Fld.MEM_ECC_CNT_UE : Fld := ⟨Reg.MEM_ECC_CNT, 0, 8, .rc⟩
def Reg.MEM_RIME_CTRL : Reg := ⟨0x0380200, 0x0, 1, 0x0, 1, fun _ _ => 0x00001000⟩
def Fld.MEM_RIME_CTRL_BUSY : Fld := ⟨Reg.MEM_RIME_CTRL, 31, 1, .ro⟩
def Fld.MEM_RIME_CTRL_ERR : Fld := ⟨Reg.MEM_RIME_CTRL, 28, 3, .ro⟩
def Fld.MEM_RIME_CTRL_WAYS : Fld := ⟨Reg.MEM_RIME_CTRL, 8, 5, .rw⟩
def Fld.MEM_RIME_CTRL_OP : Fld := ⟨Reg.MEM_RIME_CTRL, 1, 2, .wo⟩
def Fld.MEM_RIME_CTRL_EN : Fld := ⟨Reg.MEM_RIME_CTRL, 0, 1, .rw⟩
def Reg.MEM_RIME_STAT : Reg := ⟨0x0380204, 0x0, 1, 0x0, 1, fun _ _ => 0x00000000⟩
def Fld.MEM_RIME_STAT_INVAL_DONE : Fld := ⟨Reg.MEM_RIME_STAT, 31, 1, .ro⟩
def Fld.MEM_RIME_STAT_ENABLED : Fld := ⟨Reg.MEM_RIME_STAT, 30, 1, .ro⟩
def Fld.MEM_RIME_STAT_SIDE : Fld := ⟨Reg.MEM_RIME_STAT, 20, 7, .ro⟩
def Fld.MEM_RIME_STAT_DIRTY : Fld := ⟨Reg.MEM_RIME_STAT, 0, 18, .ro⟩
def Reg.MEM_RIME_CNT_HIT : Reg := ⟨0x0380208, 0x0, 1, 0x0, 1, fun _ _ => 0x00000000⟩
def Fld.MEM_RIME_CNT_HIT_COUNT : Fld := ⟨Reg.MEM_RIME_CNT_HIT, 0, 32, .rc⟩
def Reg.MEM_RIME_CNT_MISS : Reg := ⟨0x038020C, 0x0, 1, 0x0, 1, fun _ _ => 0x00000000⟩
def Fld.MEM_RIME_CNT_MISS_COUNT : Fld := ⟨Reg.MEM_RIME_CNT_MISS, 0, 32, .rc⟩
def Reg.MEM_RIME_CNT_SIDE : Reg := ⟨0x0380210, 0x0, 1, 0x0, 1, fun _ _ => 0x00000000⟩
def Fld.MEM_RIME_CNT_SIDE_COUNT : Fld := ⟨Reg.MEM_RIME_CNT_SIDE, 0, 32, .rc⟩
def Reg.MEM_RIME_CNT_EVB : Reg := ⟨0x0380214, 0x0, 1, 0x0, 1, fun _ _ => 0x00000000⟩
def Fld.MEM_RIME_CNT_EVB_COUNT : Fld := ⟨Reg.MEM_RIME_CNT_EVB, 0, 32, .rc⟩
def Reg.MEM_DDR_CFG : Reg := ⟨0x0380300, 0x0, 1, 0x0, 1, fun _ _ => 0x03E84020⟩
def Fld.MEM_DDR_CFG_SR_IDLE_US : Fld := ⟨Reg.MEM_DDR_CFG, 16, 16, .rw⟩
def Fld.MEM_DDR_CFG_RETUNE_DELTA : Fld := ⟨Reg.MEM_DDR_CFG, 8, 8, .rw⟩
def Fld.MEM_DDR_CFG_PAGE_POLICY : Fld := ⟨Reg.MEM_DDR_CFG, 6, 2, .rw⟩
def Fld.MEM_DDR_CFG_HIT_MAX : Fld := ⟨Reg.MEM_DDR_CFG, 2, 4, .rw⟩
def Reg.MEM_DDR_STAT : Reg := ⟨0x0380304, 0x0, 1, 0x0, 1, fun _ _ => 0x00000000⟩
def Fld.MEM_DDR_STAT_PRESENT : Fld := ⟨Reg.MEM_DDR_STAT, 24, 8, .ro⟩
def Fld.MEM_DDR_STAT_IN_SR : Fld := ⟨Reg.MEM_DDR_STAT, 16, 8, .ro⟩
def Fld.MEM_DDR_STAT_RATE : Fld := ⟨Reg.MEM_DDR_STAT, 12, 4, .ro⟩
def Fld.MEM_DDR_STAT_DIMM_GIB : Fld := ⟨Reg.MEM_DDR_STAT, 0, 7, .ro⟩
def Reg.MEM_DDR_CMD : Reg := ⟨0x0380308, 0x0, 1, 0x0, 1, fun _ _ => 0x00000000⟩
def Fld.MEM_DDR_CMD_BUSY : Fld := ⟨Reg.MEM_DDR_CMD, 31, 1, .ro⟩
def Fld.MEM_DDR_CMD_RESULT : Fld := ⟨Reg.MEM_DDR_CMD, 28, 3, .ro⟩
def Fld.MEM_DDR_CMD_PENDING : Fld := ⟨Reg.MEM_DDR_CMD, 16, 8, .ro⟩
def Fld.MEM_DDR_CMD_OP : Fld := ⟨Reg.MEM_DDR_CMD, 8, 3, .wo⟩
def Fld.MEM_DDR_CMD_CH : Fld := ⟨Reg.MEM_DDR_CMD, 0, 3, .rw⟩
def Reg.MEM_DDR_PRIO : Reg := ⟨0x038030C, 0x0, 1, 0x0, 1, fun _ _ => 0x88888888⟩
def Fld.MEM_DDR_PRIO_PRIO : Fld := ⟨Reg.MEM_DDR_PRIO, 0, 32, .rw⟩
def Reg.MEM_DDR_TEST_CTRL : Reg := ⟨0x0380310, 0x0, 1, 0x0, 1, fun _ _ => 0x00400000⟩
def Fld.MEM_DDR_TEST_CTRL_LEN_KIB : Fld := ⟨Reg.MEM_DDR_TEST_CTRL, 16, 16, .rw⟩
def Fld.MEM_DDR_TEST_CTRL_PATTERN : Fld := ⟨Reg.MEM_DDR_TEST_CTRL, 8, 4, .rw⟩
def Fld.MEM_DDR_TEST_CTRL_CH : Fld := ⟨Reg.MEM_DDR_TEST_CTRL, 4, 3, .rw⟩
def Fld.MEM_DDR_TEST_CTRL_STOP : Fld := ⟨Reg.MEM_DDR_TEST_CTRL, 1, 1, .wo⟩
def Fld.MEM_DDR_TEST_CTRL_START : Fld := ⟨Reg.MEM_DDR_TEST_CTRL, 0, 1, .wo⟩
def Reg.MEM_DDR_TEST_STAT : Reg := ⟨0x0380314, 0x0, 1, 0x0, 1, fun _ _ => 0x00000000⟩
def Fld.MEM_DDR_TEST_STAT_BUSY : Fld := ⟨Reg.MEM_DDR_TEST_STAT, 31, 1, .ro⟩
def Fld.MEM_DDR_TEST_STAT_RESULT : Fld := ⟨Reg.MEM_DDR_TEST_STAT, 28, 3, .ro⟩
def Fld.MEM_DDR_TEST_STAT_FAIL_LANES : Fld := ⟨Reg.MEM_DDR_TEST_STAT, 0, 10, .ro⟩
def Reg.MEM_DDR_ECC_CNT : Reg := ⟨0x0380320, 0x4, 8, 0x0, 1, fun _ _ => 0x00000000⟩
def Fld.MEM_DDR_ECC_CNT_CE_DATA : Fld := ⟨Reg.MEM_DDR_ECC_CNT, 16, 16, .rc⟩
def Fld.MEM_DDR_ECC_CNT_CE_CHECK : Fld := ⟨Reg.MEM_DDR_ECC_CNT, 8, 8, .rc⟩
def Fld.MEM_DDR_ECC_CNT_UE : Fld := ⟨Reg.MEM_DDR_ECC_CNT, 0, 8, .rc⟩
def Reg.MEM_DDR_DLY : Reg := ⟨0x0380400, 0x40, 8, 0x4, 10, fun _ _ => 0x00000000⟩
def Fld.MEM_DDR_DLY_VREF : Fld := ⟨Reg.MEM_DDR_DLY, 24, 8, .rw⟩
def Fld.MEM_DDR_DLY_GATE : Fld := ⟨Reg.MEM_DDR_DLY, 16, 8, .rw⟩
def Fld.MEM_DDR_DLY_WR_DLY : Fld := ⟨Reg.MEM_DDR_DLY, 8, 8, .rw⟩
def Fld.MEM_DDR_DLY_RD_DLY : Fld := ⟨Reg.MEM_DDR_DLY, 0, 8, .rw⟩

/-- Part of the MEM block's register table. -/
def regTableMEM0 : List RegEntry := [
  ⟨Reg.MEM_SRAM_STAT, [Fld.MEM_SRAM_STAT_TEST_DONE, Fld.MEM_SRAM_STAT_TEST_FAIL, Fld.MEM_SRAM_STAT_FAIL_LOC]⟩,
  ⟨Reg.MEM_EVENT, [Fld.MEM_EVENT_RIME_ERR, Fld.MEM_EVENT_DDR_UE, Fld.MEM_EVENT_DDR_CE, Fld.MEM_EVENT_MERGE_UE, Fld.MEM_EVENT_DMA_RESTART, Fld.MEM_EVENT_DMA_HALT, Fld.MEM_EVENT_UE, Fld.MEM_EVENT_CE_CHECK, Fld.MEM_EVENT_CE_DATA]⟩,
  ⟨Reg.MEM_EVENT_EN, [Fld.MEM_EVENT_EN_RIME_ERR, Fld.MEM_EVENT_EN_DDR_UE, Fld.MEM_EVENT_EN_DDR_CE, Fld.MEM_EVENT_EN_MERGE_UE, Fld.MEM_EVENT_EN_DMA_RESTART, Fld.MEM_EVENT_EN_DMA_HALT, Fld.MEM_EVENT_EN_UE, Fld.MEM_EVENT_EN_CE_CHECK, Fld.MEM_EVENT_EN_CE_DATA]⟩,
  ⟨Reg.MEM_ECC_LAST, [Fld.MEM_ECC_LAST_CLASS, Fld.MEM_ECC_LAST_LOC, Fld.MEM_ECC_LAST_REQ, Fld.MEM_ECC_LAST_WORD]⟩,
  ⟨Reg.MEM_ECC_ADDR, [Fld.MEM_ECC_ADDR_LINE]⟩,
  ⟨Reg.MEM_MERGE_CFG, [Fld.MEM_MERGE_CFG_IDLE_CYC]⟩,
  ⟨Reg.MEM_SCRUB_CFG, [Fld.MEM_SCRUB_CFG_DRAM_H, Fld.MEM_SCRUB_CFG_SRAM_S]⟩,
  ⟨Reg.MEM_SRAM_PRIO, [Fld.MEM_SRAM_PRIO_PRIO]⟩,
  ⟨Reg.MEM_DMA_STAT, [Fld.MEM_DMA_STAT_CSTATE, Fld.MEM_DMA_STAT_HALTS, Fld.MEM_DMA_STAT_CAUSE]⟩,
  ⟨Reg.MEM_ECC_CNT, [Fld.MEM_ECC_CNT_CE_DATA, Fld.MEM_ECC_CNT_CE_CHECK, Fld.MEM_ECC_CNT_UE]⟩,
  ⟨Reg.MEM_RIME_CTRL, [Fld.MEM_RIME_CTRL_BUSY, Fld.MEM_RIME_CTRL_ERR, Fld.MEM_RIME_CTRL_WAYS, Fld.MEM_RIME_CTRL_OP, Fld.MEM_RIME_CTRL_EN]⟩,
  ⟨Reg.MEM_RIME_STAT, [Fld.MEM_RIME_STAT_INVAL_DONE, Fld.MEM_RIME_STAT_ENABLED, Fld.MEM_RIME_STAT_SIDE, Fld.MEM_RIME_STAT_DIRTY]⟩]

/-- Part of the MEM block's register table. -/
def regTableMEM1 : List RegEntry := [
  ⟨Reg.MEM_RIME_CNT_HIT, [Fld.MEM_RIME_CNT_HIT_COUNT]⟩,
  ⟨Reg.MEM_RIME_CNT_MISS, [Fld.MEM_RIME_CNT_MISS_COUNT]⟩,
  ⟨Reg.MEM_RIME_CNT_SIDE, [Fld.MEM_RIME_CNT_SIDE_COUNT]⟩,
  ⟨Reg.MEM_RIME_CNT_EVB, [Fld.MEM_RIME_CNT_EVB_COUNT]⟩,
  ⟨Reg.MEM_DDR_CFG, [Fld.MEM_DDR_CFG_SR_IDLE_US, Fld.MEM_DDR_CFG_RETUNE_DELTA, Fld.MEM_DDR_CFG_PAGE_POLICY, Fld.MEM_DDR_CFG_HIT_MAX]⟩,
  ⟨Reg.MEM_DDR_STAT, [Fld.MEM_DDR_STAT_PRESENT, Fld.MEM_DDR_STAT_IN_SR, Fld.MEM_DDR_STAT_RATE, Fld.MEM_DDR_STAT_DIMM_GIB]⟩,
  ⟨Reg.MEM_DDR_CMD, [Fld.MEM_DDR_CMD_BUSY, Fld.MEM_DDR_CMD_RESULT, Fld.MEM_DDR_CMD_PENDING, Fld.MEM_DDR_CMD_OP, Fld.MEM_DDR_CMD_CH]⟩,
  ⟨Reg.MEM_DDR_PRIO, [Fld.MEM_DDR_PRIO_PRIO]⟩,
  ⟨Reg.MEM_DDR_TEST_CTRL, [Fld.MEM_DDR_TEST_CTRL_LEN_KIB, Fld.MEM_DDR_TEST_CTRL_PATTERN, Fld.MEM_DDR_TEST_CTRL_CH, Fld.MEM_DDR_TEST_CTRL_STOP, Fld.MEM_DDR_TEST_CTRL_START]⟩,
  ⟨Reg.MEM_DDR_TEST_STAT, [Fld.MEM_DDR_TEST_STAT_BUSY, Fld.MEM_DDR_TEST_STAT_RESULT, Fld.MEM_DDR_TEST_STAT_FAIL_LANES]⟩,
  ⟨Reg.MEM_DDR_ECC_CNT, [Fld.MEM_DDR_ECC_CNT_CE_DATA, Fld.MEM_DDR_ECC_CNT_CE_CHECK, Fld.MEM_DDR_ECC_CNT_UE]⟩,
  ⟨Reg.MEM_DDR_DLY, [Fld.MEM_DDR_DLY_VREF, Fld.MEM_DDR_DLY_GATE, Fld.MEM_DDR_DLY_WR_DLY, Fld.MEM_DDR_DLY_RD_DLY]⟩]

/-- Every register of the MEM block with its fields. -/
def regTableMEM : List RegEntry := regTableMEM0 ++ regTableMEM1

def Reg.MCORE_GCFG : Reg := ⟨0x03C0000, 0x0, 1, 0x0, 1, fun _ _ => 0x00640008⟩
def Fld.MCORE_GCFG_HB_MS : Fld := ⟨Reg.MCORE_GCFG, 16, 16, .rw⟩
def Fld.MCORE_GCFG_RESTART_LIMIT : Fld := ⟨Reg.MCORE_GCFG, 0, 8, .rw⟩
def Reg.MCORE_GSTAT : Reg := ⟨0x03C0004, 0x0, 1, 0x0, 1, fun _ _ => 0x00000000⟩
def Fld.MCORE_GSTAT_HELD : Fld := ⟨Reg.MCORE_GSTAT, 8, 4, .ro⟩
def Fld.MCORE_GSTAT_RESTARTING : Fld := ⟨Reg.MCORE_GSTAT, 4, 4, .ro⟩
def Fld.MCORE_GSTAT_RUNNING : Fld := ⟨Reg.MCORE_GSTAT, 0, 4, .ro⟩
def Reg.MCORE_EVENT : Reg := ⟨0x03C0008, 0x0, 1, 0x0, 1, fun _ _ => 0x00000000⟩
def Fld.MCORE_EVENT_OWNER : Fld := ⟨Reg.MCORE_EVENT, 4, 1, .w1c⟩
def Fld.MCORE_EVENT_HELD : Fld := ⟨Reg.MCORE_EVENT, 3, 1, .w1c⟩
def Fld.MCORE_EVENT_RESTART : Fld := ⟨Reg.MCORE_EVENT, 2, 1, .w1c⟩
def Fld.MCORE_EVENT_FATAL_TRAP : Fld := ⟨Reg.MCORE_EVENT, 1, 1, .w1c⟩
def Fld.MCORE_EVENT_HB_TIMEOUT : Fld := ⟨Reg.MCORE_EVENT, 0, 1, .w1c⟩
def Reg.MCORE_EVENT_EN : Reg := ⟨0x03C000C, 0x0, 1, 0x0, 1, fun _ _ => 0x0000001F⟩
def Fld.MCORE_EVENT_EN_OWNER : Fld := ⟨Reg.MCORE_EVENT_EN, 4, 1, .rw⟩
def Fld.MCORE_EVENT_EN_HELD : Fld := ⟨Reg.MCORE_EVENT_EN, 3, 1, .rw⟩
def Fld.MCORE_EVENT_EN_RESTART : Fld := ⟨Reg.MCORE_EVENT_EN, 2, 1, .rw⟩
def Fld.MCORE_EVENT_EN_FATAL_TRAP : Fld := ⟨Reg.MCORE_EVENT_EN, 1, 1, .rw⟩
def Fld.MCORE_EVENT_EN_HB_TIMEOUT : Fld := ⟨Reg.MCORE_EVENT_EN, 0, 1, .rw⟩
def Reg.MCORE_CMD : Reg := ⟨0x03C0010, 0x0, 1, 0x0, 1, fun _ _ => 0x00000000⟩
def Fld.MCORE_CMD_BUSY : Fld := ⟨Reg.MCORE_CMD, 31, 1, .ro⟩
def Fld.MCORE_CMD_RESULT : Fld := ⟨Reg.MCORE_CMD, 28, 3, .ro⟩
def Fld.MCORE_CMD_OP : Fld := ⟨Reg.MCORE_CMD, 8, 3, .wo⟩
def Fld.MCORE_CMD_CORE : Fld := ⟨Reg.MCORE_CMD, 0, 2, .rw⟩
def Reg.MCORE_OWN : Reg := ⟨0x03C0020, 0x4, 4, 0x0, 1, fun _ _ => 0xE4E4E4E4⟩
def Fld.MCORE_OWN_OWNER : Fld := ⟨Reg.MCORE_OWN, 0, 32, .ro⟩
def Reg.MCORE_TRACE_CTRL : Reg := ⟨0x03C0030, 0x0, 1, 0x0, 1, fun _ _ => 0x00000100⟩
def Fld.MCORE_TRACE_CTRL_STOP_ON_TRAP : Fld := ⟨Reg.MCORE_TRACE_CTRL, 8, 1, .rw⟩
def Fld.MCORE_TRACE_CTRL_EN : Fld := ⟨Reg.MCORE_TRACE_CTRL, 0, 4, .rw⟩
def Reg.MCORE_TRACE_PAGE : Reg := ⟨0x03C0034, 0x0, 1, 0x0, 1, fun _ _ => 0x00000000⟩
def Fld.MCORE_TRACE_PAGE_CORE : Fld := ⟨Reg.MCORE_TRACE_PAGE, 8, 2, .rw⟩
def Fld.MCORE_TRACE_PAGE_PAGE : Fld := ⟨Reg.MCORE_TRACE_PAGE, 0, 6, .rw⟩
def Reg.MCORE_STAT : Reg := ⟨0x03C0100, 0x40, 4, 0x0, 1, fun _ _ => 0x17000000⟩
def Fld.MCORE_STAT_CSTATE : Fld := ⟨Reg.MCORE_STAT, 28, 4, .ro⟩
def Fld.MCORE_STAT_LAST_CAUSE : Fld := ⟨Reg.MCORE_STAT, 24, 4, .ro⟩
def Fld.MCORE_STAT_RESTARTS : Fld := ⟨Reg.MCORE_STAT, 0, 16, .ro⟩
def Reg.MCORE_TRAP : Reg := ⟨0x03C0104, 0x40, 4, 0x0, 1, fun _ _ => 0x00000000⟩
def Fld.MCORE_TRAP_CAUSE : Fld := ⟨Reg.MCORE_TRAP, 24, 8, .ro⟩
def Fld.MCORE_TRAP_FATAL : Fld := ⟨Reg.MCORE_TRAP, 23, 1, .ro⟩
def Fld.MCORE_TRAP_COUNT : Fld := ⟨Reg.MCORE_TRAP, 0, 16, .ro⟩
def Reg.MCORE_TRAP_PC : Reg := ⟨0x03C0108, 0x40, 4, 0x0, 1, fun _ _ => 0x00000000⟩
def Fld.MCORE_TRAP_PC_VALUE : Fld := ⟨Reg.MCORE_TRAP_PC, 0, 32, .ro⟩
def Reg.MCORE_TRAP_ADDR : Reg := ⟨0x03C010C, 0x40, 4, 0x0, 1, fun _ _ => 0x00000000⟩
def Fld.MCORE_TRAP_ADDR_VALUE : Fld := ⟨Reg.MCORE_TRAP_ADDR, 0, 32, .ro⟩
def Reg.MCORE_HB : Reg := ⟨0x03C0110, 0x40, 4, 0x0, 1, fun _ _ => 0x00000000⟩
def Fld.MCORE_HB_VALUE : Fld := ⟨Reg.MCORE_HB, 0, 32, .ro⟩
def Reg.MCORE_PERF_SEL : Reg := ⟨0x03C0114, 0x40, 4, 0x0, 1, fun _ _ => 0x06050201⟩
def Fld.MCORE_PERF_SEL_SEL3 : Fld := ⟨Reg.MCORE_PERF_SEL, 24, 8, .rw⟩
def Fld.MCORE_PERF_SEL_SEL2 : Fld := ⟨Reg.MCORE_PERF_SEL, 16, 8, .rw⟩
def Fld.MCORE_PERF_SEL_SEL1 : Fld := ⟨Reg.MCORE_PERF_SEL, 8, 8, .rw⟩
def Fld.MCORE_PERF_SEL_SEL0 : Fld := ⟨Reg.MCORE_PERF_SEL, 0, 8, .rw⟩
def Reg.MCORE_PERF : Reg := ⟨0x03C0118, 0x40, 4, 0x4, 4, fun _ _ => 0x00000000⟩
def Fld.MCORE_PERF_COUNT : Fld := ⟨Reg.MCORE_PERF, 0, 32, .ro⟩
def Reg.MCORE_TRACE_PTR : Reg := ⟨0x03C0128, 0x40, 4, 0x0, 1, fun _ _ => 0x00000000⟩
def Fld.MCORE_TRACE_PTR_WRAPPED : Fld := ⟨Reg.MCORE_TRACE_PTR, 31, 1, .ro⟩
def Fld.MCORE_TRACE_PTR_FROZEN : Fld := ⟨Reg.MCORE_TRACE_PTR, 30, 1, .ro⟩
def Fld.MCORE_TRACE_PTR_NEXT : Fld := ⟨Reg.MCORE_TRACE_PTR, 0, 14, .ro⟩
def Reg.MCORE_TRACE_DATA : Reg := ⟨0x03C1000, 0x4, 1024, 0x0, 1, fun _ _ => 0x00000000⟩
def Fld.MCORE_TRACE_DATA_DWORD : Fld := ⟨Reg.MCORE_TRACE_DATA, 0, 32, .ro⟩

/-- Part of the MCORE block's register table. -/
def regTableMCORE0 : List RegEntry := [
  ⟨Reg.MCORE_GCFG, [Fld.MCORE_GCFG_HB_MS, Fld.MCORE_GCFG_RESTART_LIMIT]⟩,
  ⟨Reg.MCORE_GSTAT, [Fld.MCORE_GSTAT_HELD, Fld.MCORE_GSTAT_RESTARTING, Fld.MCORE_GSTAT_RUNNING]⟩,
  ⟨Reg.MCORE_EVENT, [Fld.MCORE_EVENT_OWNER, Fld.MCORE_EVENT_HELD, Fld.MCORE_EVENT_RESTART, Fld.MCORE_EVENT_FATAL_TRAP, Fld.MCORE_EVENT_HB_TIMEOUT]⟩,
  ⟨Reg.MCORE_EVENT_EN, [Fld.MCORE_EVENT_EN_OWNER, Fld.MCORE_EVENT_EN_HELD, Fld.MCORE_EVENT_EN_RESTART, Fld.MCORE_EVENT_EN_FATAL_TRAP, Fld.MCORE_EVENT_EN_HB_TIMEOUT]⟩,
  ⟨Reg.MCORE_CMD, [Fld.MCORE_CMD_BUSY, Fld.MCORE_CMD_RESULT, Fld.MCORE_CMD_OP, Fld.MCORE_CMD_CORE]⟩,
  ⟨Reg.MCORE_OWN, [Fld.MCORE_OWN_OWNER]⟩,
  ⟨Reg.MCORE_TRACE_CTRL, [Fld.MCORE_TRACE_CTRL_STOP_ON_TRAP, Fld.MCORE_TRACE_CTRL_EN]⟩,
  ⟨Reg.MCORE_TRACE_PAGE, [Fld.MCORE_TRACE_PAGE_CORE, Fld.MCORE_TRACE_PAGE_PAGE]⟩,
  ⟨Reg.MCORE_STAT, [Fld.MCORE_STAT_CSTATE, Fld.MCORE_STAT_LAST_CAUSE, Fld.MCORE_STAT_RESTARTS]⟩,
  ⟨Reg.MCORE_TRAP, [Fld.MCORE_TRAP_CAUSE, Fld.MCORE_TRAP_FATAL, Fld.MCORE_TRAP_COUNT]⟩,
  ⟨Reg.MCORE_TRAP_PC, [Fld.MCORE_TRAP_PC_VALUE]⟩,
  ⟨Reg.MCORE_TRAP_ADDR, [Fld.MCORE_TRAP_ADDR_VALUE]⟩]

/-- Part of the MCORE block's register table. -/
def regTableMCORE1 : List RegEntry := [
  ⟨Reg.MCORE_HB, [Fld.MCORE_HB_VALUE]⟩,
  ⟨Reg.MCORE_PERF_SEL, [Fld.MCORE_PERF_SEL_SEL3, Fld.MCORE_PERF_SEL_SEL2, Fld.MCORE_PERF_SEL_SEL1, Fld.MCORE_PERF_SEL_SEL0]⟩,
  ⟨Reg.MCORE_PERF, [Fld.MCORE_PERF_COUNT]⟩,
  ⟨Reg.MCORE_TRACE_PTR, [Fld.MCORE_TRACE_PTR_WRAPPED, Fld.MCORE_TRACE_PTR_FROZEN, Fld.MCORE_TRACE_PTR_NEXT]⟩,
  ⟨Reg.MCORE_TRACE_DATA, [Fld.MCORE_TRACE_DATA_DWORD]⟩]

/-- Every register of the MCORE block with its fields. -/
def regTableMCORE : List RegEntry := regTableMCORE0 ++ regTableMCORE1

def Reg.FN_VERSION : Reg := ⟨0x1000000, 0x10000, 256, 0x0, 1, fun _ _ => 0x00000007⟩
def Fld.FN_VERSION_SUPPORTED : Fld := ⟨Reg.FN_VERSION, 0, 3, .ro⟩
def Reg.FN_CAP : Reg := ⟨0x1000004, 0x10000, 256, 0x0, 1, fun _ _ => 0x00000000⟩
def Fld.FN_CAP_PF : Fld := ⟨Reg.FN_CAP, 31, 1, .ro⟩
def Fld.FN_CAP_MAX_LOG2 : Fld := ⟨Reg.FN_CAP, 12, 5, .ro⟩
def Fld.FN_CAP_FN : Fld := ⟨Reg.FN_CAP, 0, 8, .ro⟩
def Reg.FN_QP_QUOTA : Reg := ⟨0x1000008, 0x10000, 256, 0x0, 1, fun _ _ => 0x00000000⟩
def Fld.FN_QP_QUOTA_QUOTA : Fld := ⟨Reg.FN_QP_QUOTA, 0, 19, .ro⟩
def Reg.FN_TAG_QUOTA : Reg := ⟨0x100000C, 0x10000, 256, 0x0, 1, fun _ _ => 0x00000000⟩
def Fld.FN_TAG_QUOTA_QUOTA : Fld := ⟨Reg.FN_TAG_QUOTA, 0, 19, .ro⟩
def Reg.FN_CTRL : Reg := ⟨0x1000010, 0x10000, 256, 0x0, 1, fun _ _ => 0x00000000⟩
def Fld.FN_CTRL_VER_REQ : Fld := ⟨Reg.FN_CTRL, 8, 3, .rw⟩
def Fld.FN_CTRL_EN : Fld := ⟨Reg.FN_CTRL, 0, 1, .rw⟩
def Reg.FN_STAT : Reg := ⟨0x1000014, 0x10000, 256, 0x0, 1, fun _ _ => 0x00000000⟩
def Fld.FN_STAT_CAUSE : Fld := ⟨Reg.FN_STAT, 24, 8, .ro⟩
def Fld.FN_STAT_DOZE : Fld := ⟨Reg.FN_STAT, 16, 1, .ro⟩
def Fld.FN_STAT_FATAL : Fld := ⟨Reg.FN_STAT, 15, 1, .ro⟩
def Fld.FN_STAT_FENCED : Fld := ⟨Reg.FN_STAT, 14, 1, .ro⟩
def Fld.FN_STAT_ROLE : Fld := ⟨Reg.FN_STAT, 12, 2, .ro⟩
def Fld.FN_STAT_VER : Fld := ⟨Reg.FN_STAT, 8, 3, .ro⟩
def Fld.FN_STAT_RDY : Fld := ⟨Reg.FN_STAT, 0, 1, .ro⟩
def Reg.FN_AQ_SQ_LO : Reg := ⟨0x1000018, 0x10000, 256, 0x0, 1, fun _ _ => 0x00000000⟩
def Fld.FN_AQ_SQ_LO_ADDR : Fld := ⟨Reg.FN_AQ_SQ_LO, 0, 32, .rw⟩
def Reg.FN_AQ_SQ_HI : Reg := ⟨0x100001C, 0x10000, 256, 0x0, 1, fun _ _ => 0x00000000⟩
def Fld.FN_AQ_SQ_HI_ADDR : Fld := ⟨Reg.FN_AQ_SQ_HI, 0, 32, .rw⟩
def Reg.FN_AQ_CQ_LO : Reg := ⟨0x1000020, 0x10000, 256, 0x0, 1, fun _ _ => 0x00000000⟩
def Fld.FN_AQ_CQ_LO_ADDR : Fld := ⟨Reg.FN_AQ_CQ_LO, 0, 32, .rw⟩
def Reg.FN_AQ_CQ_HI : Reg := ⟨0x1000024, 0x10000, 256, 0x0, 1, fun _ _ => 0x00000000⟩
def Fld.FN_AQ_CQ_HI_ADDR : Fld := ⟨Reg.FN_AQ_CQ_HI, 0, 32, .rw⟩
def Reg.FN_AQ_CFG : Reg := ⟨0x1000028, 0x10000, 256, 0x0, 1, fun _ _ => 0x00000404⟩
def Fld.FN_AQ_CFG_VECTOR : Fld := ⟨Reg.FN_AQ_CFG, 16, 11, .rw⟩
def Fld.FN_AQ_CFG_CQ_LOG2 : Fld := ⟨Reg.FN_AQ_CFG, 8, 4, .rw⟩
def Fld.FN_AQ_CFG_SQ_LOG2 : Fld := ⟨Reg.FN_AQ_CFG, 0, 4, .rw⟩
def Reg.FN_DB_TBL_LO : Reg := ⟨0x1000030, 0x10000, 256, 0x0, 1, fun _ _ => 0x00000000⟩
def Fld.FN_DB_TBL_LO_ADDR : Fld := ⟨Reg.FN_DB_TBL_LO, 0, 32, .rw⟩
def Reg.FN_DB_TBL_HI : Reg := ⟨0x1000034, 0x10000, 256, 0x0, 1, fun _ _ => 0x00000000⟩
def Fld.FN_DB_TBL_HI_ADDR : Fld := ⟨Reg.FN_DB_TBL_HI, 0, 32, .rw⟩
def Reg.FN_DB_TBL_CFG : Reg := ⟨0x1000038, 0x10000, 256, 0x0, 1, fun _ _ => 0x00000000⟩
def Fld.FN_DB_TBL_CFG_PAGES : Fld := ⟨Reg.FN_DB_TBL_CFG, 0, 8, .rw⟩
def Reg.FN_ATTN : Reg := ⟨0x1000040, 0x10000, 256, 0x0, 1, fun _ _ => 0x00000000⟩
def Fld.FN_ATTN_ANY : Fld := ⟨Reg.FN_ATTN, 0, 32, .wo⟩
def Reg.FN_TIME_LO : Reg := ⟨0x1000048, 0x10000, 256, 0x0, 1, fun _ _ => 0x00000000⟩
def Fld.FN_TIME_LO_TIME_NS : Fld := ⟨Reg.FN_TIME_LO, 0, 32, .ro⟩
def Reg.FN_TIME_HI : Reg := ⟨0x100004C, 0x10000, 256, 0x0, 1, fun _ _ => 0x00000000⟩
def Fld.FN_TIME_HI_TIME_NS : Fld := ⟨Reg.FN_TIME_HI, 0, 32, .ro⟩
def Reg.FN_CLAIM_TOKEN : Reg := ⟨0x1000050, 0x10000, 256, 0x0, 1, fun _ _ => 0x00000000⟩
def Fld.FN_CLAIM_TOKEN_TOKEN : Fld := ⟨Reg.FN_CLAIM_TOKEN, 0, 32, .rw⟩
def Reg.FN_CLAIM_CMD : Reg := ⟨0x1000054, 0x10000, 256, 0x0, 1, fun _ _ => 0x00000000⟩
def Fld.FN_CLAIM_CMD_BUSY : Fld := ⟨Reg.FN_CLAIM_CMD, 31, 1, .ro⟩
def Fld.FN_CLAIM_CMD_RESULT : Fld := ⟨Reg.FN_CLAIM_CMD, 28, 3, .ro⟩
def Fld.FN_CLAIM_CMD_OP : Fld := ⟨Reg.FN_CLAIM_CMD, 0, 3, .wo⟩

/-- Part of the FN block's register table. -/
def regTableFN0 : List RegEntry := [
  ⟨Reg.FN_VERSION, [Fld.FN_VERSION_SUPPORTED]⟩,
  ⟨Reg.FN_CAP, [Fld.FN_CAP_PF, Fld.FN_CAP_MAX_LOG2, Fld.FN_CAP_FN]⟩,
  ⟨Reg.FN_QP_QUOTA, [Fld.FN_QP_QUOTA_QUOTA]⟩,
  ⟨Reg.FN_TAG_QUOTA, [Fld.FN_TAG_QUOTA_QUOTA]⟩,
  ⟨Reg.FN_CTRL, [Fld.FN_CTRL_VER_REQ, Fld.FN_CTRL_EN]⟩,
  ⟨Reg.FN_STAT, [Fld.FN_STAT_CAUSE, Fld.FN_STAT_DOZE, Fld.FN_STAT_FATAL, Fld.FN_STAT_FENCED, Fld.FN_STAT_ROLE, Fld.FN_STAT_VER, Fld.FN_STAT_RDY]⟩,
  ⟨Reg.FN_AQ_SQ_LO, [Fld.FN_AQ_SQ_LO_ADDR]⟩,
  ⟨Reg.FN_AQ_SQ_HI, [Fld.FN_AQ_SQ_HI_ADDR]⟩,
  ⟨Reg.FN_AQ_CQ_LO, [Fld.FN_AQ_CQ_LO_ADDR]⟩,
  ⟨Reg.FN_AQ_CQ_HI, [Fld.FN_AQ_CQ_HI_ADDR]⟩,
  ⟨Reg.FN_AQ_CFG, [Fld.FN_AQ_CFG_VECTOR, Fld.FN_AQ_CFG_CQ_LOG2, Fld.FN_AQ_CFG_SQ_LOG2]⟩,
  ⟨Reg.FN_DB_TBL_LO, [Fld.FN_DB_TBL_LO_ADDR]⟩]

/-- Part of the FN block's register table. -/
def regTableFN1 : List RegEntry := [
  ⟨Reg.FN_DB_TBL_HI, [Fld.FN_DB_TBL_HI_ADDR]⟩,
  ⟨Reg.FN_DB_TBL_CFG, [Fld.FN_DB_TBL_CFG_PAGES]⟩,
  ⟨Reg.FN_ATTN, [Fld.FN_ATTN_ANY]⟩,
  ⟨Reg.FN_TIME_LO, [Fld.FN_TIME_LO_TIME_NS]⟩,
  ⟨Reg.FN_TIME_HI, [Fld.FN_TIME_HI_TIME_NS]⟩,
  ⟨Reg.FN_CLAIM_TOKEN, [Fld.FN_CLAIM_TOKEN_TOKEN]⟩,
  ⟨Reg.FN_CLAIM_CMD, [Fld.FN_CLAIM_CMD_BUSY, Fld.FN_CLAIM_CMD_RESULT, Fld.FN_CLAIM_CMD_OP]⟩]

/-- Every register of the FN block with its fields. -/
def regTableFN : List RegEntry := regTableFN0 ++ regTableFN1

end Sys2Proof.Machine
end

