-- ==== Sys2Proof/Machine/RegsMechanism.lean ====
section
/-! DEFINITION. The registers and fields of the blocks MECH, PEN, CIRQ: addresses and resets
from spec/21_register_index.md (R554), fields and access types (R10) from the field table of the chapter that owns the block. -/

namespace Sys2Proof.Machine

def Reg.MECH_STATE : Reg := ⟨0x0080000, 0x40, 4096, 0x0, 1, fun _ _ => 0x00000000⟩
def Fld.MECH_STATE_TARGET : Fld := ⟨Reg.MECH_STATE, 8, 4, .ro⟩
def Fld.MECH_STATE_BUSY : Fld := ⟨Reg.MECH_STATE, 7, 1, .ro⟩
def Fld.MECH_STATE_SAFE_HOLD : Fld := ⟨Reg.MECH_STATE, 6, 1, .ro⟩
def Fld.MECH_STATE_TURNING : Fld := ⟨Reg.MECH_STATE, 5, 1, .ro⟩
def Fld.MECH_STATE_MOUNTED : Fld := ⟨Reg.MECH_STATE, 4, 1, .ro⟩
def Fld.MECH_STATE_STATE : Fld := ⟨Reg.MECH_STATE, 0, 4, .ro⟩
def Reg.MECH_CTRL : Reg := ⟨0x0080004, 0x40, 4096, 0x0, 1, fun _ _ => 0x00000000⟩
def Fld.MECH_CTRL_FORCE_SAFE : Fld := ⟨Reg.MECH_CTRL, 2, 1, .wo⟩
def Fld.MECH_CTRL_CLR_FAULT : Fld := ⟨Reg.MECH_CTRL, 1, 1, .wo⟩
def Fld.MECH_CTRL_UNISOLATE : Fld := ⟨Reg.MECH_CTRL, 0, 1, .wo⟩
def Reg.MECH_CFG : Reg := ⟨0x0080008, 0x40, 4096, 0x0, 1, fun _ _ => 0x00000200⟩
def Fld.MECH_CFG_AUTO_SPIN : Fld := ⟨Reg.MECH_CFG, 9, 1, .rw⟩
def Fld.MECH_CFG_STOP_MODE : Fld := ⟨Reg.MECH_CFG, 8, 1, .rw⟩
def Fld.MECH_CFG_CLASS : Fld := ⟨Reg.MECH_CFG, 4, 3, .rw⟩
def Fld.MECH_CFG_DOMAIN : Fld := ⟨Reg.MECH_CFG, 0, 3, .rw⟩
def Reg.MECH_IDLE : Reg := ⟨0x008000C, 0x40, 4096, 0x0, 1, fun _ _ => 0x0000EA60⟩
def Fld.MECH_IDLE_IDLE_SPIN_MS : Fld := ⟨Reg.MECH_IDLE, 0, 32, .rw⟩
def Reg.MECH_BRIDGE : Reg := ⟨0x0080010, 0x40, 4096, 0x0, 1, fun _ _ => 0x00000000⟩
def Fld.MECH_BRIDGE_BFW_VER : Fld := ⟨Reg.MECH_BRIDGE, 16, 16, .ro⟩
def Fld.MECH_BRIDGE_LINK_VER : Fld := ⟨Reg.MECH_BRIDGE, 8, 8, .ro⟩
def Fld.MECH_BRIDGE_GEN : Fld := ⟨Reg.MECH_BRIDGE, 0, 4, .ro⟩
def Reg.MECH_BRIDGE_SN_LO : Reg := ⟨0x0080014, 0x40, 4096, 0x0, 1, fun _ _ => 0x00000000⟩
def Fld.MECH_BRIDGE_SN_LO_SN : Fld := ⟨Reg.MECH_BRIDGE_SN_LO, 0, 32, .ro⟩
def Reg.MECH_BRIDGE_SN_HI : Reg := ⟨0x0080018, 0x40, 4096, 0x0, 1, fun _ _ => 0x00000000⟩
def Fld.MECH_BRIDGE_SN_HI_SN : Fld := ⟨Reg.MECH_BRIDGE_SN_HI, 0, 32, .ro⟩
def Reg.MECH_FAULT : Reg := ⟨0x008001C, 0x40, 4096, 0x0, 1, fun _ _ => 0x00000000⟩
def Fld.MECH_FAULT_NEW : Fld := ⟨Reg.MECH_FAULT, 31, 1, .w1c⟩
def Fld.MECH_FAULT_COUNT : Fld := ⟨Reg.MECH_FAULT, 16, 8, .ro⟩
def Fld.MECH_FAULT_DETAIL : Fld := ⟨Reg.MECH_FAULT, 8, 4, .ro⟩
def Fld.MECH_FAULT_CODE : Fld := ⟨Reg.MECH_FAULT, 0, 8, .ro⟩
def Reg.MECH_FAULT_TIME_LO : Reg := ⟨0x0080020, 0x40, 4096, 0x0, 1, fun _ _ => 0x00000000⟩
def Fld.MECH_FAULT_TIME_LO_TIME_NS : Fld := ⟨Reg.MECH_FAULT_TIME_LO, 0, 32, .ro⟩
def Reg.MECH_FAULT_TIME_HI : Reg := ⟨0x0080024, 0x40, 4096, 0x0, 1, fun _ _ => 0x00000000⟩
def Fld.MECH_FAULT_TIME_HI_TIME_NS : Fld := ⟨Reg.MECH_FAULT_TIME_HI, 0, 32, .ro⟩
def Reg.MECH_SERVO : Reg := ⟨0x0080028, 0x40, 4096, 0x0, 1, fun _ _ => 0x00000000⟩
def Fld.MECH_SERVO_LANE : Fld := ⟨Reg.MECH_SERVO, 16, 9, .ro⟩
def Fld.MECH_SERVO_LANE_VALID : Fld := ⟨Reg.MECH_SERVO, 15, 1, .ro⟩
def Fld.MECH_SERVO_SLOT_VALID : Fld := ⟨Reg.MECH_SERVO, 14, 1, .ro⟩
def Fld.MECH_SERVO_SLOT : Fld := ⟨Reg.MECH_SERVO, 5, 5, .ro⟩
def Fld.MECH_SERVO_CLUSTER : Fld := ⟨Reg.MECH_SERVO, 0, 5, .ro⟩
def Reg.MECH_DISC : Reg := ⟨0x008002C, 0x40, 4096, 0x0, 1, fun _ _ => 0x00000000⟩
def Fld.MECH_DISC_PROFILE_VALID : Fld := ⟨Reg.MECH_DISC, 9, 1, .ro⟩
def Fld.MECH_DISC_SEALED : Fld := ⟨Reg.MECH_DISC, 8, 1, .ro⟩
def Fld.MECH_DISC_LAYERS : Fld := ⟨Reg.MECH_DISC, 4, 4, .ro⟩
def Fld.MECH_DISC_MEDIA : Fld := ⟨Reg.MECH_DISC, 0, 4, .ro⟩
def Reg.MECH_SPEED : Reg := ⟨0x0080030, 0x40, 4096, 0x0, 1, fun _ _ => 0x00000000⟩
def Fld.MECH_SPEED_TARGET : Fld := ⟨Reg.MECH_SPEED, 16, 16, .ro⟩
def Fld.MECH_SPEED_MEAS : Fld := ⟨Reg.MECH_SPEED, 0, 16, .ro⟩
def Reg.MECH_BTEMP : Reg := ⟨0x0080034, 0x40, 4096, 0x0, 1, fun _ _ => 0x00000000⟩
def Fld.MECH_BTEMP_TEMP : Fld := ⟨Reg.MECH_BTEMP, 0, 16, .ro⟩
def Reg.MECH_COUNT : Reg := ⟨0x0080038, 0x40, 4096, 0x0, 1, fun _ _ => 0x00000000⟩
def Fld.MECH_COUNT_FAULTS : Fld := ⟨Reg.MECH_COUNT, 16, 16, .ro⟩
def Fld.MECH_COUNT_MOUNTS : Fld := ⟨Reg.MECH_COUNT, 0, 16, .ro⟩
def Reg.MECH_GCFG : Reg := ⟨0x00C0000, 0x0, 1, 0x0, 1, fun _ _ => 0x0927C003⟩
def Fld.MECH_GCFG_FAULT_WINDOW_MS : Fld := ⟨Reg.MECH_GCFG, 8, 24, .rw⟩
def Fld.MECH_GCFG_FAULT_LIMIT : Fld := ⟨Reg.MECH_GCFG, 0, 8, .rw⟩
def Reg.MECH_RECLAIM : Reg := ⟨0x00C0004, 0x0, 1, 0x0, 1, fun _ _ => 0x000007D0⟩
def Fld.MECH_RECLAIM_RECLAIM_MS : Fld := ⟨Reg.MECH_RECLAIM, 0, 32, .rw⟩
def Reg.MECH_COUNTS : Reg := ⟨0x00C0008, 0x0, 1, 0x0, 1, fun _ _ => 0x00000000⟩
def Fld.MECH_COUNTS_STREAMING : Fld := ⟨Reg.MECH_COUNTS, 16, 9, .ro⟩
def Fld.MECH_COUNTS_SERVO_ACTIVE : Fld := ⟨Reg.MECH_COUNTS, 0, 13, .ro⟩
def Reg.MECH_CHG_SUM : Reg := ⟨0x00C0010, 0x4, 4, 0x0, 1, fun _ _ => 0x00000000⟩
def Fld.MECH_CHG_SUM_SUM : Fld := ⟨Reg.MECH_CHG_SUM, 0, 32, .ro⟩
def Reg.MECH_SLED_TBL_CTRL : Reg := ⟨0x00C0020, 0x0, 1, 0x0, 1, fun _ _ => 0x00000000⟩
def Fld.MECH_SLED_TBL_CTRL_BUSY : Fld := ⟨Reg.MECH_SLED_TBL_CTRL, 31, 1, .ro⟩
def Fld.MECH_SLED_TBL_CTRL_ERR : Fld := ⟨Reg.MECH_SLED_TBL_CTRL, 28, 3, .ro⟩
def Fld.MECH_SLED_TBL_CTRL_TABLE : Fld := ⟨Reg.MECH_SLED_TBL_CTRL, 4, 3, .rw⟩
def Fld.MECH_SLED_TBL_CTRL_OP : Fld := ⟨Reg.MECH_SLED_TBL_CTRL, 0, 2, .wo⟩
def Reg.MECH_CHG : Reg := ⟨0x00C0100, 0x4, 128, 0x0, 1, fun _ _ => 0x00000000⟩
def Fld.MECH_CHG_CHG : Fld := ⟨Reg.MECH_CHG, 0, 32, .w1c⟩
def Reg.MECH_SLED_TBL_STAGE : Reg := ⟨0x00C0400, 0x4, 256, 0x0, 1, fun _ _ => 0x00000000⟩
def Fld.MECH_SLED_TBL_STAGE_SB : Fld := ⟨Reg.MECH_SLED_TBL_STAGE, 16, 16, .rw⟩
def Fld.MECH_SLED_TBL_STAGE_CA : Fld := ⟨Reg.MECH_SLED_TBL_STAGE, 0, 16, .rw⟩
def Reg.MECH_SPIN_STAT : Reg := ⟨0x00C4000, 0x20, 4096, 0x0, 1, fun _ _ => 0x01000000⟩
def Fld.MECH_SPIN_STAT_THROTTLE : Fld := ⟨Reg.MECH_SPIN_STAT, 16, 9, .ro⟩
def Fld.MECH_SPIN_STAT_TRIES : Fld := ⟨Reg.MECH_SPIN_STAT, 12, 4, .ro⟩
def Fld.MECH_SPIN_STAT_SHIFTING : Fld := ⟨Reg.MECH_SPIN_STAT, 10, 1, .ro⟩
def Fld.MECH_SPIN_STAT_REVERSE : Fld := ⟨Reg.MECH_SPIN_STAT, 9, 1, .ro⟩
def Fld.MECH_SPIN_STAT_OBS_LOCK : Fld := ⟨Reg.MECH_SPIN_STAT, 8, 1, .ro⟩
def Fld.MECH_SPIN_STAT_SPIN_STATE : Fld := ⟨Reg.MECH_SPIN_STAT, 0, 4, .ro⟩
def Reg.MECH_SPIN_CTRL : Reg := ⟨0x00C4004, 0x20, 4096, 0x0, 1, fun _ _ => 0x00000000⟩
def Fld.MECH_SPIN_CTRL_TARGET_OVR : Fld := ⟨Reg.MECH_SPIN_CTRL, 0, 16, .rw⟩
def Reg.MECH_SLED_POS : Reg := ⟨0x00C4008, 0x20, 4096, 0x0, 1, fun _ _ => 0x00000000⟩
def Fld.MECH_SLED_POS_POS : Fld := ⟨Reg.MECH_SLED_POS, 0, 32, .ro⟩
def Reg.MECH_SLED_LIM_IN : Reg := ⟨0x00C400C, 0x20, 4096, 0x0, 1, fun _ _ => 0x000092A7⟩
def Fld.MECH_SLED_LIM_IN_LIM : Fld := ⟨Reg.MECH_SLED_LIM_IN, 0, 32, .rw⟩
def Reg.MECH_SLED_LIM_OUT : Reg := ⟨0x00C4010, 0x20, 4096, 0x0, 1, fun _ _ => 0x000185F5⟩
def Fld.MECH_SLED_LIM_OUT_LIM : Fld := ⟨Reg.MECH_SLED_LIM_OUT, 0, 32, .rw⟩
def Reg.MECH_SLED_STAT : Reg := ⟨0x00C4014, 0x20, 4096, 0x0, 1, fun _ _ => 0x00000000⟩
def Fld.MECH_SLED_STAT_CLIPS : Fld := ⟨Reg.MECH_SLED_STAT, 16, 16, .ro⟩
def Fld.MECH_SLED_STAT_POS_VALID : Fld := ⟨Reg.MECH_SLED_STAT, 7, 1, .ro⟩
def Fld.MECH_SLED_STAT_HOLDING : Fld := ⟨Reg.MECH_SLED_STAT, 6, 1, .ro⟩
def Fld.MECH_SLED_STAT_MOVING : Fld := ⟨Reg.MECH_SLED_STAT, 5, 1, .ro⟩
def Fld.MECH_SLED_STAT_OUTSIDE : Fld := ⟨Reg.MECH_SLED_STAT, 4, 1, .ro⟩
def Fld.MECH_SLED_STAT_CLIP_OUT : Fld := ⟨Reg.MECH_SLED_STAT, 1, 1, .w1c⟩
def Fld.MECH_SLED_STAT_CLIP_IN : Fld := ⟨Reg.MECH_SLED_STAT, 0, 1, .w1c⟩
def Reg.MECH_CLAMP_CNT : Reg := ⟨0x00C4018, 0x20, 4096, 0x0, 1, fun _ _ => 0x00000000⟩
def Fld.MECH_CLAMP_CNT_CLAMPS : Fld := ⟨Reg.MECH_CLAMP_CNT, 0, 32, .ro⟩
def Reg.MECH_START_CNT : Reg := ⟨0x00C401C, 0x20, 4096, 0x0, 1, fun _ _ => 0x00000000⟩
def Fld.MECH_START_CNT_CATCHES : Fld := ⟨Reg.MECH_START_CNT, 24, 8, .ro⟩
def Fld.MECH_START_CNT_ALIGNS : Fld := ⟨Reg.MECH_START_CNT, 16, 8, .ro⟩
def Fld.MECH_START_CNT_NOWIN : Fld := ⟨Reg.MECH_START_CNT, 0, 16, .ro⟩
def Reg.MECH_CAL_CFG : Reg := ⟨0x00E4000, 0x0, 1, 0x0, 1, fun _ _ => 0x030A0330⟩
def Fld.MECH_CAL_CFG_FAIL_STOP : Fld := ⟨Reg.MECH_CAL_CFG, 24, 4, .rw⟩
def Fld.MECH_CAL_CFG_RETRY_S : Fld := ⟨Reg.MECH_CAL_CFG, 16, 8, .rw⟩
def Fld.MECH_CAL_CFG_AUTO_DEV : Fld := ⟨Reg.MECH_CAL_CFG, 9, 1, .rw⟩
def Fld.MECH_CAL_CFG_AUTO_MECH : Fld := ⟨Reg.MECH_CAL_CFG, 8, 1, .rw⟩
def Fld.MECH_CAL_CFG_TEMP_DELTA : Fld := ⟨Reg.MECH_CAL_CFG, 0, 8, .rw⟩
def Reg.MECH_CAL_CMD : Reg := ⟨0x00E4004, 0x0, 1, 0x0, 1, fun _ _ => 0x00000000⟩
def Fld.MECH_CAL_CMD_BUSY : Fld := ⟨Reg.MECH_CAL_CMD, 31, 1, .ro⟩
def Fld.MECH_CAL_CMD_ERR : Fld := ⟨Reg.MECH_CAL_CMD, 28, 3, .ro⟩
def Fld.MECH_CAL_CMD_ITEMS : Fld := ⟨Reg.MECH_CAL_CMD, 8, 6, .rw⟩
def Fld.MECH_CAL_CMD_OP : Fld := ⟨Reg.MECH_CAL_CMD, 0, 3, .wo⟩
def Reg.MECH_CAL_SEL : Reg := ⟨0x00E4008, 0x0, 1, 0x0, 1, fun _ _ => 0x00000000⟩
def Fld.MECH_CAL_SEL_SPACE : Fld := ⟨Reg.MECH_CAL_SEL, 28, 3, .rw⟩
def Fld.MECH_CAL_SEL_LAYER : Fld := ⟨Reg.MECH_CAL_SEL, 16, 4, .rw⟩
def Fld.MECH_CAL_SEL_INDEX : Fld := ⟨Reg.MECH_CAL_SEL, 0, 12, .rw⟩
def Reg.MECH_CAL_STAT : Reg := ⟨0x00E400C, 0x0, 1, 0x0, 1, fun _ _ => 0x00000000⟩
def Fld.MECH_CAL_STAT_FAILS : Fld := ⟨Reg.MECH_CAL_STAT, 16, 16, .ro⟩
def Fld.MECH_CAL_STAT_RUNS : Fld := ⟨Reg.MECH_CAL_STAT, 0, 16, .ro⟩
def Reg.MECH_CAL_LAST : Reg := ⟨0x00E4010, 0x0, 1, 0x0, 1, fun _ _ => 0x00000000⟩
def Fld.MECH_CAL_LAST_CAUSE : Fld := ⟨Reg.MECH_CAL_LAST, 28, 4, .ro⟩
def Fld.MECH_CAL_LAST_SPACE : Fld := ⟨Reg.MECH_CAL_LAST, 24, 3, .ro⟩
def Fld.MECH_CAL_LAST_LAYER : Fld := ⟨Reg.MECH_CAL_LAST, 20, 4, .ro⟩
def Fld.MECH_CAL_LAST_ITEM : Fld := ⟨Reg.MECH_CAL_LAST, 17, 3, .ro⟩
def Fld.MECH_CAL_LAST_INDEX : Fld := ⟨Reg.MECH_CAL_LAST, 0, 12, .ro⟩
def Reg.MECH_CAL_DATA : Reg := ⟨0x00E4020, 0x4, 8, 0x0, 1, fun _ _ => 0x00000000⟩
def Fld.MECH_CAL_DATA_DWORD : Fld := ⟨Reg.MECH_CAL_DATA, 0, 32, .rw⟩

/-- Part of the MECH block's register table. -/
def regTableMECH0 : List RegEntry := [
  ⟨Reg.MECH_STATE, [Fld.MECH_STATE_TARGET, Fld.MECH_STATE_BUSY, Fld.MECH_STATE_SAFE_HOLD, Fld.MECH_STATE_TURNING, Fld.MECH_STATE_MOUNTED, Fld.MECH_STATE_STATE]⟩,
  ⟨Reg.MECH_CTRL, [Fld.MECH_CTRL_FORCE_SAFE, Fld.MECH_CTRL_CLR_FAULT, Fld.MECH_CTRL_UNISOLATE]⟩,
  ⟨Reg.MECH_CFG, [Fld.MECH_CFG_AUTO_SPIN, Fld.MECH_CFG_STOP_MODE, Fld.MECH_CFG_CLASS, Fld.MECH_CFG_DOMAIN]⟩,
  ⟨Reg.MECH_IDLE, [Fld.MECH_IDLE_IDLE_SPIN_MS]⟩,
  ⟨Reg.MECH_BRIDGE, [Fld.MECH_BRIDGE_BFW_VER, Fld.MECH_BRIDGE_LINK_VER, Fld.MECH_BRIDGE_GEN]⟩,
  ⟨Reg.MECH_BRIDGE_SN_LO, [Fld.MECH_BRIDGE_SN_LO_SN]⟩,
  ⟨Reg.MECH_BRIDGE_SN_HI, [Fld.MECH_BRIDGE_SN_HI_SN]⟩,
  ⟨Reg.MECH_FAULT, [Fld.MECH_FAULT_NEW, Fld.MECH_FAULT_COUNT, Fld.MECH_FAULT_DETAIL, Fld.MECH_FAULT_CODE]⟩,
  ⟨Reg.MECH_FAULT_TIME_LO, [Fld.MECH_FAULT_TIME_LO_TIME_NS]⟩,
  ⟨Reg.MECH_FAULT_TIME_HI, [Fld.MECH_FAULT_TIME_HI_TIME_NS]⟩,
  ⟨Reg.MECH_SERVO, [Fld.MECH_SERVO_LANE, Fld.MECH_SERVO_LANE_VALID, Fld.MECH_SERVO_SLOT_VALID, Fld.MECH_SERVO_SLOT, Fld.MECH_SERVO_CLUSTER]⟩,
  ⟨Reg.MECH_DISC, [Fld.MECH_DISC_PROFILE_VALID, Fld.MECH_DISC_SEALED, Fld.MECH_DISC_LAYERS, Fld.MECH_DISC_MEDIA]⟩]

/-- Part of the MECH block's register table. -/
def regTableMECH1 : List RegEntry := [
  ⟨Reg.MECH_SPEED, [Fld.MECH_SPEED_TARGET, Fld.MECH_SPEED_MEAS]⟩,
  ⟨Reg.MECH_BTEMP, [Fld.MECH_BTEMP_TEMP]⟩,
  ⟨Reg.MECH_COUNT, [Fld.MECH_COUNT_FAULTS, Fld.MECH_COUNT_MOUNTS]⟩,
  ⟨Reg.MECH_GCFG, [Fld.MECH_GCFG_FAULT_WINDOW_MS, Fld.MECH_GCFG_FAULT_LIMIT]⟩,
  ⟨Reg.MECH_RECLAIM, [Fld.MECH_RECLAIM_RECLAIM_MS]⟩,
  ⟨Reg.MECH_COUNTS, [Fld.MECH_COUNTS_STREAMING, Fld.MECH_COUNTS_SERVO_ACTIVE]⟩,
  ⟨Reg.MECH_CHG_SUM, [Fld.MECH_CHG_SUM_SUM]⟩,
  ⟨Reg.MECH_SLED_TBL_CTRL, [Fld.MECH_SLED_TBL_CTRL_BUSY, Fld.MECH_SLED_TBL_CTRL_ERR, Fld.MECH_SLED_TBL_CTRL_TABLE, Fld.MECH_SLED_TBL_CTRL_OP]⟩,
  ⟨Reg.MECH_CHG, [Fld.MECH_CHG_CHG]⟩,
  ⟨Reg.MECH_SLED_TBL_STAGE, [Fld.MECH_SLED_TBL_STAGE_SB, Fld.MECH_SLED_TBL_STAGE_CA]⟩,
  ⟨Reg.MECH_SPIN_STAT, [Fld.MECH_SPIN_STAT_THROTTLE, Fld.MECH_SPIN_STAT_TRIES, Fld.MECH_SPIN_STAT_SHIFTING, Fld.MECH_SPIN_STAT_REVERSE, Fld.MECH_SPIN_STAT_OBS_LOCK, Fld.MECH_SPIN_STAT_SPIN_STATE]⟩,
  ⟨Reg.MECH_SPIN_CTRL, [Fld.MECH_SPIN_CTRL_TARGET_OVR]⟩]

/-- Part of the MECH block's register table. -/
def regTableMECH2 : List RegEntry := [
  ⟨Reg.MECH_SLED_POS, [Fld.MECH_SLED_POS_POS]⟩,
  ⟨Reg.MECH_SLED_LIM_IN, [Fld.MECH_SLED_LIM_IN_LIM]⟩,
  ⟨Reg.MECH_SLED_LIM_OUT, [Fld.MECH_SLED_LIM_OUT_LIM]⟩,
  ⟨Reg.MECH_SLED_STAT, [Fld.MECH_SLED_STAT_CLIPS, Fld.MECH_SLED_STAT_POS_VALID, Fld.MECH_SLED_STAT_HOLDING, Fld.MECH_SLED_STAT_MOVING, Fld.MECH_SLED_STAT_OUTSIDE, Fld.MECH_SLED_STAT_CLIP_OUT, Fld.MECH_SLED_STAT_CLIP_IN]⟩,
  ⟨Reg.MECH_CLAMP_CNT, [Fld.MECH_CLAMP_CNT_CLAMPS]⟩,
  ⟨Reg.MECH_START_CNT, [Fld.MECH_START_CNT_CATCHES, Fld.MECH_START_CNT_ALIGNS, Fld.MECH_START_CNT_NOWIN]⟩,
  ⟨Reg.MECH_CAL_CFG, [Fld.MECH_CAL_CFG_FAIL_STOP, Fld.MECH_CAL_CFG_RETRY_S, Fld.MECH_CAL_CFG_AUTO_DEV, Fld.MECH_CAL_CFG_AUTO_MECH, Fld.MECH_CAL_CFG_TEMP_DELTA]⟩,
  ⟨Reg.MECH_CAL_CMD, [Fld.MECH_CAL_CMD_BUSY, Fld.MECH_CAL_CMD_ERR, Fld.MECH_CAL_CMD_ITEMS, Fld.MECH_CAL_CMD_OP]⟩,
  ⟨Reg.MECH_CAL_SEL, [Fld.MECH_CAL_SEL_SPACE, Fld.MECH_CAL_SEL_LAYER, Fld.MECH_CAL_SEL_INDEX]⟩,
  ⟨Reg.MECH_CAL_STAT, [Fld.MECH_CAL_STAT_FAILS, Fld.MECH_CAL_STAT_RUNS]⟩,
  ⟨Reg.MECH_CAL_LAST, [Fld.MECH_CAL_LAST_CAUSE, Fld.MECH_CAL_LAST_SPACE, Fld.MECH_CAL_LAST_LAYER, Fld.MECH_CAL_LAST_ITEM, Fld.MECH_CAL_LAST_INDEX]⟩,
  ⟨Reg.MECH_CAL_DATA, [Fld.MECH_CAL_DATA_DWORD]⟩]

/-- Every register of the MECH block with its fields. -/
def regTableMECH : List RegEntry := regTableMECH0 ++ regTableMECH1 ++ regTableMECH2

def Reg.PEN_CTRL : Reg := ⟨0x0040000, 0x400, 64, 0x0, 1, fun _ _ => 0x00000000⟩
def Fld.PEN_CTRL_CLR_CNT : Fld := ⟨Reg.PEN_CTRL, 3, 1, .wo⟩
def Fld.PEN_CTRL_SLEEP : Fld := ⟨Reg.PEN_CTRL, 2, 1, .wo⟩
def Fld.PEN_CTRL_WAKE : Fld := ⟨Reg.PEN_CTRL, 1, 1, .wo⟩
def Fld.PEN_CTRL_RETRAIN : Fld := ⟨Reg.PEN_CTRL, 0, 1, .wo⟩
def Reg.PEN_CFG : Reg := ⟨0x0040004, 0x400, 64, 0x0, 1, fun i _ => 0x2A + (i % 17) * 0x100⟩
def Fld.PEN_CFG_PHASE : Fld := ⟨Reg.PEN_CFG, 8, 5, .rw⟩
def Fld.PEN_CFG_MAX_VER : Fld := ⟨Reg.PEN_CFG, 4, 2, .rw⟩
def Fld.PEN_CFG_RATE : Fld := ⟨Reg.PEN_CFG, 2, 2, .rw⟩
def Fld.PEN_CFG_LP_EN : Fld := ⟨Reg.PEN_CFG, 1, 1, .rw⟩
def Fld.PEN_CFG_EN : Fld := ⟨Reg.PEN_CFG, 0, 1, .rw⟩
def Reg.PEN_STATUS : Reg := ⟨0x0040008, 0x400, 64, 0x0, 1, fun _ _ => 0x00000000⟩
def Fld.PEN_STATUS_PSTATE : Fld := ⟨Reg.PEN_STATUS, 24, 4, .ro⟩
def Fld.PEN_STATUS_LMODE : Fld := ⟨Reg.PEN_STATUS, 20, 4, .ro⟩
def Fld.PEN_STATUS_FANOUT : Fld := ⟨Reg.PEN_STATUS, 17, 1, .ro⟩
def Fld.PEN_STATUS_LOCK : Fld := ⟨Reg.PEN_STATUS, 16, 1, .ro⟩
def Fld.PEN_STATUS_FAIL_CAUSE : Fld := ⟨Reg.PEN_STATUS, 8, 4, .ro⟩
def Fld.PEN_STATUS_DROPS : Fld := ⟨Reg.PEN_STATUS, 0, 7, .ro⟩
def Reg.PEN_LANE : Reg := ⟨0x004000C, 0x400, 64, 0x0, 1, fun _ _ => 0x00007777⟩
def Fld.PEN_LANE_DN_SWAP : Fld := ⟨Reg.PEN_LANE, 25, 1, .ro⟩
def Fld.PEN_LANE_UP_SWAP : Fld := ⟨Reg.PEN_LANE, 24, 1, .ro⟩
def Fld.PEN_LANE_DN_POL : Fld := ⟨Reg.PEN_LANE, 22, 2, .ro⟩
def Fld.PEN_LANE_UP_POL : Fld := ⟨Reg.PEN_LANE, 20, 2, .ro⟩
def Fld.PEN_LANE_DN1 : Fld := ⟨Reg.PEN_LANE, 12, 4, .ro⟩
def Fld.PEN_LANE_DN0 : Fld := ⟨Reg.PEN_LANE, 8, 4, .ro⟩
def Fld.PEN_LANE_UP1 : Fld := ⟨Reg.PEN_LANE, 4, 4, .ro⟩
def Fld.PEN_LANE_UP0 : Fld := ⟨Reg.PEN_LANE, 0, 4, .ro⟩
def Reg.PEN_EVENT : Reg := ⟨0x0040010, 0x400, 64, 0x0, 1, fun _ _ => 0x00000000⟩
def Fld.PEN_EVENT_LP_EXIT : Fld := ⟨Reg.PEN_EVENT, 13, 1, .w1c⟩
def Fld.PEN_EVENT_LP_ENTER : Fld := ⟨Reg.PEN_EVENT, 12, 1, .w1c⟩
def Fld.PEN_EVENT_LATE : Fld := ⟨Reg.PEN_EVENT, 11, 1, .w1c⟩
def Fld.PEN_EVENT_MISS : Fld := ⟨Reg.PEN_EVENT, 10, 1, .w1c⟩
def Fld.PEN_EVENT_WAKE_REQ : Fld := ⟨Reg.PEN_EVENT, 9, 1, .w1c⟩
def Fld.PEN_EVENT_DROP_CHG : Fld := ⟨Reg.PEN_EVENT, 8, 1, .w1c⟩
def Fld.PEN_EVENT_MGMT_ERR : Fld := ⟨Reg.PEN_EVENT, 7, 1, .w1c⟩
def Fld.PEN_EVENT_SEQ_ERR : Fld := ⟨Reg.PEN_EVENT, 6, 1, .w1c⟩
def Fld.PEN_EVENT_OVERCURRENT : Fld := ⟨Reg.PEN_EVENT, 5, 1, .w1c⟩
def Fld.PEN_EVENT_DEGRADED : Fld := ⟨Reg.PEN_EVENT, 4, 1, .w1c⟩
def Fld.PEN_EVENT_LANE_FAULT : Fld := ⟨Reg.PEN_EVENT, 3, 1, .w1c⟩
def Fld.PEN_EVENT_TRAIN_FAIL : Fld := ⟨Reg.PEN_EVENT, 2, 1, .w1c⟩
def Fld.PEN_EVENT_TRAINED : Fld := ⟨Reg.PEN_EVENT, 1, 1, .w1c⟩
def Fld.PEN_EVENT_LOCK_LOST : Fld := ⟨Reg.PEN_EVENT, 0, 1, .w1c⟩
def Reg.PEN_EVENT_EN : Reg := ⟨0x0040014, 0x400, 64, 0x0, 1, fun _ _ => 0x00003FFF⟩
def Fld.PEN_EVENT_EN_LP_EXIT : Fld := ⟨Reg.PEN_EVENT_EN, 13, 1, .rw⟩
def Fld.PEN_EVENT_EN_LP_ENTER : Fld := ⟨Reg.PEN_EVENT_EN, 12, 1, .rw⟩
def Fld.PEN_EVENT_EN_LATE : Fld := ⟨Reg.PEN_EVENT_EN, 11, 1, .rw⟩
def Fld.PEN_EVENT_EN_MISS : Fld := ⟨Reg.PEN_EVENT_EN, 10, 1, .rw⟩
def Fld.PEN_EVENT_EN_WAKE_REQ : Fld := ⟨Reg.PEN_EVENT_EN, 9, 1, .rw⟩
def Fld.PEN_EVENT_EN_DROP_CHG : Fld := ⟨Reg.PEN_EVENT_EN, 8, 1, .rw⟩
def Fld.PEN_EVENT_EN_MGMT_ERR : Fld := ⟨Reg.PEN_EVENT_EN, 7, 1, .rw⟩
def Fld.PEN_EVENT_EN_SEQ_ERR : Fld := ⟨Reg.PEN_EVENT_EN, 6, 1, .rw⟩
def Fld.PEN_EVENT_EN_OVERCURRENT : Fld := ⟨Reg.PEN_EVENT_EN, 5, 1, .rw⟩
def Fld.PEN_EVENT_EN_DEGRADED : Fld := ⟨Reg.PEN_EVENT_EN, 4, 1, .rw⟩
def Fld.PEN_EVENT_EN_LANE_FAULT : Fld := ⟨Reg.PEN_EVENT_EN, 3, 1, .rw⟩
def Fld.PEN_EVENT_EN_TRAIN_FAIL : Fld := ⟨Reg.PEN_EVENT_EN, 2, 1, .rw⟩
def Fld.PEN_EVENT_EN_TRAINED : Fld := ⟨Reg.PEN_EVENT_EN, 1, 1, .rw⟩
def Fld.PEN_EVENT_EN_LOCK_LOST : Fld := ⟨Reg.PEN_EVENT_EN, 0, 1, .rw⟩
def Reg.PEN_TIMING : Reg := ⟨0x0040018, 0x400, 64, 0x0, 1, fun _ _ => 0x00000000⟩
def Fld.PEN_TIMING_ACT_OFS : Fld := ⟨Reg.PEN_TIMING, 20, 12, .ro⟩
def Fld.PEN_TIMING_LOOP_NS : Fld := ⟨Reg.PEN_TIMING, 0, 16, .ro⟩
def Reg.PEN_LP : Reg := ⟨0x004001C, 0x400, 64, 0x0, 1, fun _ _ => 0x000003E8⟩
def Fld.PEN_LP_IDLE_US : Fld := ⟨Reg.PEN_LP, 0, 20, .rw⟩
def Reg.PEN_USE : Reg := ⟨0x0040020, 0x400, 64, 0x0, 1, fun _ _ => 0x00000000⟩
def Fld.PEN_USE_WRITE_HEADS : Fld := ⟨Reg.PEN_USE, 24, 5, .ro⟩
def Fld.PEN_USE_READ_HEADS : Fld := ⟨Reg.PEN_USE, 16, 5, .ro⟩
def Fld.PEN_USE_WAITING : Fld := ⟨Reg.PEN_USE, 8, 5, .ro⟩
def Fld.PEN_USE_SERVO : Fld := ⟨Reg.PEN_USE, 0, 5, .ro⟩
def Reg.PEN_FANOUT : Reg := ⟨0x0040024, 0x400, 64, 0x0, 1, fun _ _ => 0x00000000⟩
def Fld.PEN_FANOUT_FW_VER : Fld := ⟨Reg.PEN_FANOUT, 16, 16, .ro⟩
def Fld.PEN_FANOUT_MAX_VER : Fld := ⟨Reg.PEN_FANOUT, 8, 8, .ro⟩
def Fld.PEN_FANOUT_PRESENT : Fld := ⟨Reg.PEN_FANOUT, 0, 1, .ro⟩
def Reg.PEN_DROPS_LO : Reg := ⟨0x0040028, 0x400, 64, 0x0, 1, fun _ _ => 0x00000000⟩
def Fld.PEN_DROPS_LO_PRESENT : Fld := ⟨Reg.PEN_DROPS_LO, 0, 32, .ro⟩
def Reg.PEN_DROPS_HI : Reg := ⟨0x004002C, 0x400, 64, 0x0, 1, fun _ _ => 0x00000000⟩
def Fld.PEN_DROPS_HI_PRESENT : Fld := ⟨Reg.PEN_DROPS_HI, 0, 32, .ro⟩
def Reg.PEN_CNT_CRC : Reg := ⟨0x0040030, 0x400, 64, 0x0, 1, fun _ _ => 0x00000000⟩
def Fld.PEN_CNT_CRC_COUNT : Fld := ⟨Reg.PEN_CNT_CRC, 0, 32, .rc⟩
def Reg.PEN_CNT_MISS : Reg := ⟨0x0040034, 0x400, 64, 0x0, 1, fun _ _ => 0x00000000⟩
def Fld.PEN_CNT_MISS_COUNT : Fld := ⟨Reg.PEN_CNT_MISS, 0, 32, .rc⟩
def Reg.PEN_CNT_REPEAT : Reg := ⟨0x0040038, 0x400, 64, 0x0, 1, fun _ _ => 0x00000000⟩
def Fld.PEN_CNT_REPEAT_COUNT : Fld := ⟨Reg.PEN_CNT_REPEAT, 0, 32, .rc⟩
def Reg.PEN_CNT_BLK : Reg := ⟨0x004003C, 0x400, 64, 0x0, 1, fun _ _ => 0x00000000⟩
def Fld.PEN_CNT_BLK_COUNT : Fld := ⟨Reg.PEN_CNT_BLK, 0, 32, .rc⟩
def Reg.PEN_CNT_MGMT : Reg := ⟨0x0040040, 0x400, 64, 0x0, 1, fun _ _ => 0x00000000⟩
def Fld.PEN_CNT_MGMT_COUNT : Fld := ⟨Reg.PEN_CNT_MGMT, 0, 32, .rc⟩
def Reg.PEN_CNT_TRAIN : Reg := ⟨0x0040044, 0x400, 64, 0x0, 1, fun _ _ => 0x00000000⟩
def Fld.PEN_CNT_TRAIN_FAILS : Fld := ⟨Reg.PEN_CNT_TRAIN, 16, 16, .ro⟩
def Fld.PEN_CNT_TRAIN_TRAINS : Fld := ⟨Reg.PEN_CNT_TRAIN, 0, 16, .ro⟩
def Reg.PEN_SMAP : Reg := ⟨0x0040080, 0x400, 64, 0x4, 16, fun _ _ => 0x00000000⟩
def Fld.PEN_SMAP_VALID : Fld := ⟨Reg.PEN_SMAP, 15, 1, .ro⟩
def Fld.PEN_SMAP_SUB : Fld := ⟨Reg.PEN_SMAP, 13, 2, .ro⟩
def Fld.PEN_SMAP_SUBPH : Fld := ⟨Reg.PEN_SMAP, 11, 2, .ro⟩
def Fld.PEN_SMAP_DROP : Fld := ⟨Reg.PEN_SMAP, 0, 6, .ro⟩
def Reg.PEN_BMAP : Reg := ⟨0x00400C0, 0x400, 64, 0x4, 16, fun _ _ => 0x00000000⟩
def Fld.PEN_BMAP_VALID : Fld := ⟨Reg.PEN_BMAP, 31, 1, .ro⟩
def Fld.PEN_BMAP_DIR : Fld := ⟨Reg.PEN_BMAP, 30, 1, .ro⟩
def Fld.PEN_BMAP_SINGLE : Fld := ⟨Reg.PEN_BMAP, 29, 1, .ro⟩
def Fld.PEN_BMAP_DROP : Fld := ⟨Reg.PEN_BMAP, 16, 6, .ro⟩
def Fld.PEN_BMAP_START : Fld := ⟨Reg.PEN_BMAP, 0, 12, .ro⟩
def Reg.PEN_DROP : Reg := ⟨0x0040100, 0x400, 64, 0x4, 64, fun _ _ => 0x00000000⟩
def Fld.PEN_DROP_VER : Fld := ⟨Reg.PEN_DROP, 16, 8, .ro⟩
def Fld.PEN_DROP_MISS_RUN : Fld := ⟨Reg.PEN_DROP, 8, 4, .ro⟩
def Fld.PEN_DROP_DSTATE : Fld := ⟨Reg.PEN_DROP, 4, 2, .ro⟩
def Fld.PEN_DROP_BURST : Fld := ⟨Reg.PEN_DROP, 3, 1, .ro⟩
def Fld.PEN_DROP_SERVO : Fld := ⟨Reg.PEN_DROP, 2, 1, .ro⟩
def Fld.PEN_DROP_MGMT_OK : Fld := ⟨Reg.PEN_DROP, 1, 1, .ro⟩
def Fld.PEN_DROP_PRESENT : Fld := ⟨Reg.PEN_DROP, 0, 1, .ro⟩
def Reg.PEN_GCFG : Reg := ⟨0x0050000, 0x0, 1, 0x0, 1, fun _ _ => 0x000A6403⟩
def Fld.PEN_GCFG_LOCK_TO_MS : Fld := ⟨Reg.PEN_GCFG, 16, 8, .rw⟩
def Fld.PEN_GCFG_RETRY_MS : Fld := ⟨Reg.PEN_GCFG, 8, 8, .rw⟩
def Fld.PEN_GCFG_MISS_LIMIT : Fld := ⟨Reg.PEN_GCFG, 0, 3, .rw⟩
def Reg.PEN_GSTAT : Reg := ⟨0x0050004, 0x0, 1, 0x0, 1, fun _ _ => 0x00000000⟩
def Fld.PEN_GSTAT_LOWPOWER : Fld := ⟨Reg.PEN_GSTAT, 16, 7, .ro⟩
def Fld.PEN_GSTAT_ACTIVE : Fld := ⟨Reg.PEN_GSTAT, 0, 7, .ro⟩
def Reg.PEN_EVT_SUM_LO : Reg := ⟨0x0050008, 0x0, 1, 0x0, 1, fun _ _ => 0x00000000⟩
def Fld.PEN_EVT_SUM_LO_SUM : Fld := ⟨Reg.PEN_EVT_SUM_LO, 0, 32, .ro⟩
def Reg.PEN_EVT_SUM_HI : Reg := ⟨0x005000C, 0x0, 1, 0x0, 1, fun _ _ => 0x00000000⟩
def Fld.PEN_EVT_SUM_HI_SUM : Fld := ⟨Reg.PEN_EVT_SUM_HI, 0, 32, .ro⟩

/-- Part of the PEN block's register table. -/
def regTablePEN0 : List RegEntry := [
  ⟨Reg.PEN_CTRL, [Fld.PEN_CTRL_CLR_CNT, Fld.PEN_CTRL_SLEEP, Fld.PEN_CTRL_WAKE, Fld.PEN_CTRL_RETRAIN]⟩,
  ⟨Reg.PEN_CFG, [Fld.PEN_CFG_PHASE, Fld.PEN_CFG_MAX_VER, Fld.PEN_CFG_RATE, Fld.PEN_CFG_LP_EN, Fld.PEN_CFG_EN]⟩,
  ⟨Reg.PEN_STATUS, [Fld.PEN_STATUS_PSTATE, Fld.PEN_STATUS_LMODE, Fld.PEN_STATUS_FANOUT, Fld.PEN_STATUS_LOCK, Fld.PEN_STATUS_FAIL_CAUSE, Fld.PEN_STATUS_DROPS]⟩,
  ⟨Reg.PEN_LANE, [Fld.PEN_LANE_DN_SWAP, Fld.PEN_LANE_UP_SWAP, Fld.PEN_LANE_DN_POL, Fld.PEN_LANE_UP_POL, Fld.PEN_LANE_DN1, Fld.PEN_LANE_DN0, Fld.PEN_LANE_UP1, Fld.PEN_LANE_UP0]⟩,
  ⟨Reg.PEN_EVENT, [Fld.PEN_EVENT_LP_EXIT, Fld.PEN_EVENT_LP_ENTER, Fld.PEN_EVENT_LATE, Fld.PEN_EVENT_MISS, Fld.PEN_EVENT_WAKE_REQ, Fld.PEN_EVENT_DROP_CHG, Fld.PEN_EVENT_MGMT_ERR, Fld.PEN_EVENT_SEQ_ERR, Fld.PEN_EVENT_OVERCURRENT, Fld.PEN_EVENT_DEGRADED, Fld.PEN_EVENT_LANE_FAULT, Fld.PEN_EVENT_TRAIN_FAIL, Fld.PEN_EVENT_TRAINED, Fld.PEN_EVENT_LOCK_LOST]⟩,
  ⟨Reg.PEN_EVENT_EN, [Fld.PEN_EVENT_EN_LP_EXIT, Fld.PEN_EVENT_EN_LP_ENTER, Fld.PEN_EVENT_EN_LATE, Fld.PEN_EVENT_EN_MISS, Fld.PEN_EVENT_EN_WAKE_REQ, Fld.PEN_EVENT_EN_DROP_CHG, Fld.PEN_EVENT_EN_MGMT_ERR, Fld.PEN_EVENT_EN_SEQ_ERR, Fld.PEN_EVENT_EN_OVERCURRENT, Fld.PEN_EVENT_EN_DEGRADED, Fld.PEN_EVENT_EN_LANE_FAULT, Fld.PEN_EVENT_EN_TRAIN_FAIL, Fld.PEN_EVENT_EN_TRAINED, Fld.PEN_EVENT_EN_LOCK_LOST]⟩,
  ⟨Reg.PEN_TIMING, [Fld.PEN_TIMING_ACT_OFS, Fld.PEN_TIMING_LOOP_NS]⟩,
  ⟨Reg.PEN_LP, [Fld.PEN_LP_IDLE_US]⟩,
  ⟨Reg.PEN_USE, [Fld.PEN_USE_WRITE_HEADS, Fld.PEN_USE_READ_HEADS, Fld.PEN_USE_WAITING, Fld.PEN_USE_SERVO]⟩,
  ⟨Reg.PEN_FANOUT, [Fld.PEN_FANOUT_FW_VER, Fld.PEN_FANOUT_MAX_VER, Fld.PEN_FANOUT_PRESENT]⟩,
  ⟨Reg.PEN_DROPS_LO, [Fld.PEN_DROPS_LO_PRESENT]⟩,
  ⟨Reg.PEN_DROPS_HI, [Fld.PEN_DROPS_HI_PRESENT]⟩]

/-- Part of the PEN block's register table. -/
def regTablePEN1 : List RegEntry := [
  ⟨Reg.PEN_CNT_CRC, [Fld.PEN_CNT_CRC_COUNT]⟩,
  ⟨Reg.PEN_CNT_MISS, [Fld.PEN_CNT_MISS_COUNT]⟩,
  ⟨Reg.PEN_CNT_REPEAT, [Fld.PEN_CNT_REPEAT_COUNT]⟩,
  ⟨Reg.PEN_CNT_BLK, [Fld.PEN_CNT_BLK_COUNT]⟩,
  ⟨Reg.PEN_CNT_MGMT, [Fld.PEN_CNT_MGMT_COUNT]⟩,
  ⟨Reg.PEN_CNT_TRAIN, [Fld.PEN_CNT_TRAIN_FAILS, Fld.PEN_CNT_TRAIN_TRAINS]⟩,
  ⟨Reg.PEN_SMAP, [Fld.PEN_SMAP_VALID, Fld.PEN_SMAP_SUB, Fld.PEN_SMAP_SUBPH, Fld.PEN_SMAP_DROP]⟩,
  ⟨Reg.PEN_BMAP, [Fld.PEN_BMAP_VALID, Fld.PEN_BMAP_DIR, Fld.PEN_BMAP_SINGLE, Fld.PEN_BMAP_DROP, Fld.PEN_BMAP_START]⟩,
  ⟨Reg.PEN_DROP, [Fld.PEN_DROP_VER, Fld.PEN_DROP_MISS_RUN, Fld.PEN_DROP_DSTATE, Fld.PEN_DROP_BURST, Fld.PEN_DROP_SERVO, Fld.PEN_DROP_MGMT_OK, Fld.PEN_DROP_PRESENT]⟩,
  ⟨Reg.PEN_GCFG, [Fld.PEN_GCFG_LOCK_TO_MS, Fld.PEN_GCFG_RETRY_MS, Fld.PEN_GCFG_MISS_LIMIT]⟩,
  ⟨Reg.PEN_GSTAT, [Fld.PEN_GSTAT_LOWPOWER, Fld.PEN_GSTAT_ACTIVE]⟩,
  ⟨Reg.PEN_EVT_SUM_LO, [Fld.PEN_EVT_SUM_LO_SUM]⟩]

/-- Part of the PEN block's register table. -/
def regTablePEN2 : List RegEntry := [
  ⟨Reg.PEN_EVT_SUM_HI, [Fld.PEN_EVT_SUM_HI_SUM]⟩]

/-- Every register of the PEN block with its fields. -/
def regTablePEN : List RegEntry := regTablePEN0 ++ regTablePEN1 ++ regTablePEN2

def Reg.CIRQ_STATUS : Reg := ⟨0x0100000, 0x8000, 17, 0x0, 1, fun i _ => if i = 16 then 0x10000 else 0⟩
def Fld.CIRQ_STATUS_ROLE : Fld := ⟨Reg.CIRQ_STATUS, 16, 3, .ro⟩
def Fld.CIRQ_STATUS_LAST_TEST : Fld := ⟨Reg.CIRQ_STATUS, 8, 2, .ro⟩
def Fld.CIRQ_STATUS_SLOTS : Fld := ⟨Reg.CIRQ_STATUS, 0, 6, .ro⟩
def Reg.CIRQ_FMT : Reg := ⟨0x0100004, 0x8000, 17, 0x0, 1, fun _ _ => 0x00000000⟩
def Fld.CIRQ_FMT_FMT : Fld := ⟨Reg.CIRQ_FMT, 0, 1, .ro⟩
def Reg.CIRQ_UCODE : Reg := ⟨0x0100008, 0x8000, 17, 0x0, 1, fun _ _ => 0x00000000⟩
def Fld.CIRQ_UCODE_VERSION : Fld := ⟨Reg.CIRQ_UCODE, 0, 16, .ro⟩
def Reg.CIRQ_LOAD : Reg := ⟨0x010000C, 0x8000, 17, 0x0, 1, fun _ _ => 0x00000000⟩
def Fld.CIRQ_LOAD_LINES : Fld := ⟨Reg.CIRQ_LOAD, 16, 11, .ro⟩
def Fld.CIRQ_LOAD_SLOTS : Fld := ⟨Reg.CIRQ_LOAD, 0, 6, .ro⟩
def Reg.CIRQ_EVENT : Reg := ⟨0x0100010, 0x8000, 17, 0x0, 1, fun _ _ => 0x00000000⟩
def Fld.CIRQ_EVENT_UCODE_DONE : Fld := ⟨Reg.CIRQ_EVENT, 12, 1, .w1c⟩
def Fld.CIRQ_EVENT_CKPT_COPY : Fld := ⟨Reg.CIRQ_EVENT, 11, 1, .w1c⟩
def Fld.CIRQ_EVENT_COLLIDE : Fld := ⟨Reg.CIRQ_EVENT, 10, 1, .w1c⟩
def Fld.CIRQ_EVENT_SWAP_ABANDON : Fld := ⟨Reg.CIRQ_EVENT, 9, 1, .w1c⟩
def Fld.CIRQ_EVENT_SWAP_DONE : Fld := ⟨Reg.CIRQ_EVENT, 8, 1, .w1c⟩
def Fld.CIRQ_EVENT_OOS : Fld := ⟨Reg.CIRQ_EVENT, 7, 1, .w1c⟩
def Fld.CIRQ_EVENT_TEST_FAIL : Fld := ⟨Reg.CIRQ_EVENT, 6, 1, .w1c⟩
def Fld.CIRQ_EVENT_TEST_PASS : Fld := ⟨Reg.CIRQ_EVENT, 5, 1, .w1c⟩
def Fld.CIRQ_EVENT_HO_IN : Fld := ⟨Reg.CIRQ_EVENT, 4, 1, .w1c⟩
def Fld.CIRQ_EVENT_HO_OUT : Fld := ⟨Reg.CIRQ_EVENT, 3, 1, .w1c⟩
def Fld.CIRQ_EVENT_DBE : Fld := ⟨Reg.CIRQ_EVENT, 2, 1, .w1c⟩
def Fld.CIRQ_EVENT_PARITY : Fld := ⟨Reg.CIRQ_EVENT, 1, 1, .w1c⟩
def Fld.CIRQ_EVENT_MISMATCH : Fld := ⟨Reg.CIRQ_EVENT, 0, 1, .w1c⟩
def Reg.CIRQ_EVENT_EN : Reg := ⟨0x0100014, 0x8000, 17, 0x0, 1, fun _ _ => 0x00001FFF⟩
def Fld.CIRQ_EVENT_EN_UCODE_DONE : Fld := ⟨Reg.CIRQ_EVENT_EN, 12, 1, .rw⟩
def Fld.CIRQ_EVENT_EN_CKPT_COPY : Fld := ⟨Reg.CIRQ_EVENT_EN, 11, 1, .rw⟩
def Fld.CIRQ_EVENT_EN_COLLIDE : Fld := ⟨Reg.CIRQ_EVENT_EN, 10, 1, .rw⟩
def Fld.CIRQ_EVENT_EN_SWAP_ABANDON : Fld := ⟨Reg.CIRQ_EVENT_EN, 9, 1, .rw⟩
def Fld.CIRQ_EVENT_EN_SWAP_DONE : Fld := ⟨Reg.CIRQ_EVENT_EN, 8, 1, .rw⟩
def Fld.CIRQ_EVENT_EN_OOS : Fld := ⟨Reg.CIRQ_EVENT_EN, 7, 1, .rw⟩
def Fld.CIRQ_EVENT_EN_TEST_FAIL : Fld := ⟨Reg.CIRQ_EVENT_EN, 6, 1, .rw⟩
def Fld.CIRQ_EVENT_EN_TEST_PASS : Fld := ⟨Reg.CIRQ_EVENT_EN, 5, 1, .rw⟩
def Fld.CIRQ_EVENT_EN_HO_IN : Fld := ⟨Reg.CIRQ_EVENT_EN, 4, 1, .rw⟩
def Fld.CIRQ_EVENT_EN_HO_OUT : Fld := ⟨Reg.CIRQ_EVENT_EN, 3, 1, .rw⟩
def Fld.CIRQ_EVENT_EN_DBE : Fld := ⟨Reg.CIRQ_EVENT_EN, 2, 1, .rw⟩
def Fld.CIRQ_EVENT_EN_PARITY : Fld := ⟨Reg.CIRQ_EVENT_EN, 1, 1, .rw⟩
def Fld.CIRQ_EVENT_EN_MISMATCH : Fld := ⟨Reg.CIRQ_EVENT_EN, 0, 1, .rw⟩
def Reg.CIRQ_CNT : Reg := ⟨0x0100018, 0x8000, 17, 0x0, 1, fun _ _ => 0x00000000⟩
def Fld.CIRQ_CNT_FAULTS : Fld := ⟨Reg.CIRQ_CNT, 24, 8, .ro⟩
def Fld.CIRQ_CNT_HANDOVERS : Fld := ⟨Reg.CIRQ_CNT, 0, 16, .ro⟩
def Reg.CIRQ_CNT_ERR : Reg := ⟨0x010001C, 0x8000, 17, 0x0, 1, fun _ _ => 0x00000000⟩
def Fld.CIRQ_CNT_ERR_COUNT : Fld := ⟨Reg.CIRQ_CNT_ERR, 0, 32, .rc⟩
def Reg.CIRQ_SLOT : Reg := ⟨0x0100080, 0x8000, 17, 0x4, 32, fun _ _ => 0x00000000⟩
def Fld.CIRQ_SLOT_VALID : Fld := ⟨Reg.CIRQ_SLOT, 31, 1, .ro⟩
def Fld.CIRQ_SLOT_SUB : Fld := ⟨Reg.CIRQ_SLOT, 29, 2, .ro⟩
def Fld.CIRQ_SLOT_MN : Fld := ⟨Reg.CIRQ_SLOT, 16, 12, .ro⟩
def Fld.CIRQ_SLOT_ARR_CYC : Fld := ⟨Reg.CIRQ_SLOT, 0, 13, .ro⟩
def Reg.CIRQ_LSTAT : Reg := ⟨0x0100100, 0x8000, 17, 0x4, 32, fun _ _ => 0x00000000⟩
def Fld.CIRQ_LSTAT_HOLD_CNT : Fld := ⟨Reg.CIRQ_LSTAT, 24, 8, .ro⟩
def Fld.CIRQ_LSTAT_LS : Fld := ⟨Reg.CIRQ_LSTAT, 0, 16, .ro⟩
def Reg.CIRQ_ANGLE : Reg := ⟨0x0100180, 0x8000, 17, 0x4, 32, fun _ _ => 0x00000000⟩
def Fld.CIRQ_ANGLE_THETA : Fld := ⟨Reg.CIRQ_ANGLE, 0, 32, .ro⟩
def Reg.CIRQ_INJ_CTRL : Reg := ⟨0x0101000, 0x8000, 17, 0x0, 1, fun _ _ => 0x00000000⟩
def Fld.CIRQ_INJ_CTRL_MN : Fld := ⟨Reg.CIRQ_INJ_CTRL, 20, 12, .rw⟩
def Fld.CIRQ_INJ_CTRL_LOOP : Fld := ⟨Reg.CIRQ_INJ_CTRL, 16, 3, .rw⟩
def Fld.CIRQ_INJ_CTRL_PRBS_HOLD : Fld := ⟨Reg.CIRQ_INJ_CTRL, 12, 4, .rw⟩
def Fld.CIRQ_INJ_CTRL_TYPE : Fld := ⟨Reg.CIRQ_INJ_CTRL, 8, 2, .rw⟩
def Fld.CIRQ_INJ_CTRL_STOP : Fld := ⟨Reg.CIRQ_INJ_CTRL, 1, 1, .wo⟩
def Fld.CIRQ_INJ_CTRL_START : Fld := ⟨Reg.CIRQ_INJ_CTRL, 0, 1, .wo⟩
def Reg.CIRQ_INJ_AMP : Reg := ⟨0x0101004, 0x8000, 17, 0x0, 1, fun _ _ => 0x00000000⟩
def Fld.CIRQ_INJ_AMP_AMP : Fld := ⟨Reg.CIRQ_INJ_AMP, 0, 16, .rw⟩
def Reg.CIRQ_INJ_F0 : Reg := ⟨0x0101008, 0x8000, 17, 0x0, 1, fun _ _ => 0x00000000⟩
def Fld.CIRQ_INJ_F0_DPHI : Fld := ⟨Reg.CIRQ_INJ_F0, 0, 32, .rw⟩
def Reg.CIRQ_INJ_F1 : Reg := ⟨0x010100C, 0x8000, 17, 0x0, 1, fun _ _ => 0x00000000⟩
def Fld.CIRQ_INJ_F1_DPHI : Fld := ⟨Reg.CIRQ_INJ_F1, 0, 32, .rw⟩
def Reg.CIRQ_INJ_STEP : Reg := ⟨0x0101010, 0x8000, 17, 0x0, 1, fun _ _ => 0x00000000⟩
def Fld.CIRQ_INJ_STEP_RATIO : Fld := ⟨Reg.CIRQ_INJ_STEP, 16, 16, .rw⟩
def Fld.CIRQ_INJ_STEP_DWELL : Fld := ⟨Reg.CIRQ_INJ_STEP, 0, 16, .rw⟩
def Reg.CIRQ_INJ_STAT : Reg := ⟨0x0101014, 0x8000, 17, 0x0, 1, fun _ _ => 0x00000000⟩
def Fld.CIRQ_INJ_STAT_ACTIVE : Fld := ⟨Reg.CIRQ_INJ_STAT, 31, 1, .ro⟩
def Fld.CIRQ_INJ_STAT_END : Fld := ⟨Reg.CIRQ_INJ_STAT, 28, 3, .ro⟩
def Fld.CIRQ_INJ_STAT_ERR : Fld := ⟨Reg.CIRQ_INJ_STAT, 24, 4, .ro⟩
def Fld.CIRQ_INJ_STAT_STEP : Fld := ⟨Reg.CIRQ_INJ_STAT, 0, 16, .ro⟩
def Reg.CIRQ_CAP_CTRL : Reg := ⟨0x0101040, 0x8000, 17, 0x0, 1, fun _ _ => 0x00000000⟩
def Fld.CIRQ_CAP_CTRL_MN : Fld := ⟨Reg.CIRQ_CAP_CTRL, 20, 12, .rw⟩
def Fld.CIRQ_CAP_CTRL_DEC : Fld := ⟨Reg.CIRQ_CAP_CTRL, 16, 4, .rw⟩
def Fld.CIRQ_CAP_CTRL_TRIG : Fld := ⟨Reg.CIRQ_CAP_CTRL, 12, 2, .rw⟩
def Fld.CIRQ_CAP_CTRL_STOP : Fld := ⟨Reg.CIRQ_CAP_CTRL, 1, 1, .wo⟩
def Fld.CIRQ_CAP_CTRL_ARM : Fld := ⟨Reg.CIRQ_CAP_CTRL, 0, 1, .wo⟩
def Reg.CIRQ_CAP_SEL : Reg := ⟨0x0101044, 0x8000, 17, 0x0, 1, fun _ _ => 0x00000000⟩
def Fld.CIRQ_CAP_SEL_SEL3 : Fld := ⟨Reg.CIRQ_CAP_SEL, 24, 8, .rw⟩
def Fld.CIRQ_CAP_SEL_SEL2 : Fld := ⟨Reg.CIRQ_CAP_SEL, 16, 8, .rw⟩
def Fld.CIRQ_CAP_SEL_SEL1 : Fld := ⟨Reg.CIRQ_CAP_SEL, 8, 8, .rw⟩
def Fld.CIRQ_CAP_SEL_SEL0 : Fld := ⟨Reg.CIRQ_CAP_SEL, 0, 8, .rw⟩
def Reg.CIRQ_CAP_LEN : Reg := ⟨0x0101048, 0x8000, 17, 0x0, 1, fun _ _ => 0x0000FFFF⟩
def Fld.CIRQ_CAP_LEN_PRE : Fld := ⟨Reg.CIRQ_CAP_LEN, 16, 16, .rw⟩
def Fld.CIRQ_CAP_LEN_LEN : Fld := ⟨Reg.CIRQ_CAP_LEN, 0, 16, .rw⟩
def Reg.CIRQ_CAP_STAT : Reg := ⟨0x010104C, 0x8000, 17, 0x0, 1, fun _ _ => 0x1F000000⟩
def Fld.CIRQ_CAP_STAT_ARMED : Fld := ⟨Reg.CIRQ_CAP_STAT, 31, 1, .ro⟩
def Fld.CIRQ_CAP_STAT_TRIGGERED : Fld := ⟨Reg.CIRQ_CAP_STAT, 30, 1, .ro⟩
def Fld.CIRQ_CAP_STAT_DONE : Fld := ⟨Reg.CIRQ_CAP_STAT, 29, 1, .ro⟩
def Fld.CIRQ_CAP_STAT_BUF : Fld := ⟨Reg.CIRQ_CAP_STAT, 24, 5, .ro⟩
def Fld.CIRQ_CAP_STAT_ERR : Fld := ⟨Reg.CIRQ_CAP_STAT, 20, 4, .ro⟩
def Fld.CIRQ_CAP_STAT_COUNT : Fld := ⟨Reg.CIRQ_CAP_STAT, 0, 17, .ro⟩
def Reg.CIRQ_CAP_TRIG_LO : Reg := ⟨0x0101050, 0x8000, 17, 0x0, 1, fun _ _ => 0x00000000⟩
def Fld.CIRQ_CAP_TRIG_LO_TIME_NS : Fld := ⟨Reg.CIRQ_CAP_TRIG_LO, 0, 32, .ro⟩
def Reg.CIRQ_CAP_TRIG_HI : Reg := ⟨0x0101054, 0x8000, 17, 0x0, 1, fun _ _ => 0x00000000⟩
def Fld.CIRQ_CAP_TRIG_HI_TIME_NS : Fld := ⟨Reg.CIRQ_CAP_TRIG_HI, 0, 32, .ro⟩
def Reg.CIRQ_CAP_PAGE : Reg := ⟨0x0101058, 0x8000, 17, 0x0, 1, fun _ _ => 0x00000000⟩
def Fld.CIRQ_CAP_PAGE_PAGE : Fld := ⟨Reg.CIRQ_CAP_PAGE, 0, 9, .rw⟩
def Reg.CIRQ_CAP_DATA : Reg := ⟨0x0101800, 0x8000, 17, 0x4, 512, fun _ _ => 0x00000000⟩
def Fld.CIRQ_CAP_DATA_DWORD : Fld := ⟨Reg.CIRQ_CAP_DATA, 0, 32, .ro⟩
def Reg.CIRQ_GCFG : Reg := ⟨0x0190000, 0x0, 1, 0x0, 1, fun _ _ => 0x00000340⟩
def Fld.CIRQ_GCFG_FAULT_LIMIT : Fld := ⟨Reg.CIRQ_GCFG, 8, 8, .rw⟩
def Fld.CIRQ_GCFG_HOLD_MAX : Fld := ⟨Reg.CIRQ_GCFG, 0, 7, .rw⟩
def Reg.CIRQ_GSTAT : Reg := ⟨0x0190004, 0x0, 1, 0x0, 1, fun _ _ => 0x00000030⟩
def Fld.CIRQ_GSTAT_SLOTS_USED : Fld := ⟨Reg.CIRQ_GSTAT, 16, 10, .ro⟩
def Fld.CIRQ_GSTAT_OOS : Fld := ⟨Reg.CIRQ_GSTAT, 8, 5, .ro⟩
def Fld.CIRQ_GSTAT_SPARE_READY : Fld := ⟨Reg.CIRQ_GSTAT, 5, 1, .ro⟩
def Fld.CIRQ_GSTAT_SPARE : Fld := ⟨Reg.CIRQ_GSTAT, 0, 5, .ro⟩
def Reg.CIRQ_EVT_SUM : Reg := ⟨0x0190008, 0x0, 1, 0x0, 1, fun _ _ => 0x00000000⟩
def Fld.CIRQ_EVT_SUM_SUM : Fld := ⟨Reg.CIRQ_EVT_SUM, 0, 17, .ro⟩
def Reg.CIRQ_HO_CMD : Reg := ⟨0x019000C, 0x0, 1, 0x0, 1, fun _ _ => 0x00000000⟩
def Fld.CIRQ_HO_CMD_FMT : Fld := ⟨Reg.CIRQ_HO_CMD, 12, 1, .wo⟩
def Fld.CIRQ_HO_CMD_OP : Fld := ⟨Reg.CIRQ_HO_CMD, 8, 3, .wo⟩
def Fld.CIRQ_HO_CMD_CLUSTER : Fld := ⟨Reg.CIRQ_HO_CMD, 0, 5, .wo⟩
def Reg.CIRQ_HO_STAT : Reg := ⟨0x0190010, 0x0, 1, 0x0, 1, fun _ _ => 0x00000000⟩
def Fld.CIRQ_HO_STAT_BUSY : Fld := ⟨Reg.CIRQ_HO_STAT, 31, 1, .ro⟩
def Fld.CIRQ_HO_STAT_RESULT : Fld := ⟨Reg.CIRQ_HO_STAT, 28, 3, .ro⟩
def Fld.CIRQ_HO_STAT_CAUSE : Fld := ⟨Reg.CIRQ_HO_STAT, 24, 3, .ro⟩
def Fld.CIRQ_HO_STAT_TO : Fld := ⟨Reg.CIRQ_HO_STAT, 16, 5, .ro⟩
def Fld.CIRQ_HO_STAT_FROM : Fld := ⟨Reg.CIRQ_HO_STAT, 8, 5, .ro⟩
def Fld.CIRQ_HO_STAT_REPEATS : Fld := ⟨Reg.CIRQ_HO_STAT, 0, 6, .ro⟩
def Reg.CIRQ_HO_TIME_LO : Reg := ⟨0x0190014, 0x0, 1, 0x0, 1, fun _ _ => 0x00000000⟩
def Fld.CIRQ_HO_TIME_LO_TIME_NS : Fld := ⟨Reg.CIRQ_HO_TIME_LO, 0, 32, .ro⟩
def Reg.CIRQ_HO_TIME_HI : Reg := ⟨0x0190018, 0x0, 1, 0x0, 1, fun _ _ => 0x00000000⟩
def Fld.CIRQ_HO_TIME_HI_TIME_NS : Fld := ⟨Reg.CIRQ_HO_TIME_HI, 0, 32, .ro⟩
def Reg.CIRQ_COEF_CMD : Reg := ⟨0x0190020, 0x0, 1, 0x0, 1, fun _ _ => 0x00000000⟩
def Fld.CIRQ_COEF_CMD_BUSY : Fld := ⟨Reg.CIRQ_COEF_CMD, 31, 1, .ro⟩
def Fld.CIRQ_COEF_CMD_ERR : Fld := ⟨Reg.CIRQ_COEF_CMD, 28, 3, .ro⟩
def Fld.CIRQ_COEF_CMD_TARGET : Fld := ⟨Reg.CIRQ_COEF_CMD, 16, 12, .rw⟩
def Fld.CIRQ_COEF_CMD_FMT : Fld := ⟨Reg.CIRQ_COEF_CMD, 15, 1, .rw⟩
def Fld.CIRQ_COEF_CMD_LOOP : Fld := ⟨Reg.CIRQ_COEF_CMD, 8, 3, .rw⟩
def Fld.CIRQ_COEF_CMD_OP : Fld := ⟨Reg.CIRQ_COEF_CMD, 0, 3, .wo⟩
def Reg.CIRQ_LOOP_CMD : Reg := ⟨0x0190024, 0x0, 1, 0x0, 1, fun _ _ => 0x00000000⟩
def Fld.CIRQ_LOOP_CMD_MN : Fld := ⟨Reg.CIRQ_LOOP_CMD, 16, 12, .wo⟩
def Fld.CIRQ_LOOP_CMD_MASK : Fld := ⟨Reg.CIRQ_LOOP_CMD, 8, 8, .wo⟩
def Fld.CIRQ_LOOP_CMD_OP : Fld := ⟨Reg.CIRQ_LOOP_CMD, 0, 2, .wo⟩
def Reg.CIRQ_LOOP_STAT : Reg := ⟨0x0190028, 0x0, 1, 0x0, 1, fun _ _ => 0x00000000⟩
def Fld.CIRQ_LOOP_STAT_BUSY : Fld := ⟨Reg.CIRQ_LOOP_STAT, 31, 1, .ro⟩
def Fld.CIRQ_LOOP_STAT_ERR : Fld := ⟨Reg.CIRQ_LOOP_STAT, 28, 3, .ro⟩
def Fld.CIRQ_LOOP_STAT_MN : Fld := ⟨Reg.CIRQ_LOOP_STAT, 16, 12, .ro⟩
def Fld.CIRQ_LOOP_STAT_DONE : Fld := ⟨Reg.CIRQ_LOOP_STAT, 8, 8, .ro⟩
def Reg.CIRQ_STAGE : Reg := ⟨0x0190200, 0x4, 128, 0x0, 1, fun _ _ => 0x00000000⟩
def Fld.CIRQ_STAGE_DWORD : Fld := ⟨Reg.CIRQ_STAGE, 0, 32, .rw⟩

/-- Part of the CIRQ block's register table. -/
def regTableCIRQ0 : List RegEntry := [
  ⟨Reg.CIRQ_STATUS, [Fld.CIRQ_STATUS_ROLE, Fld.CIRQ_STATUS_LAST_TEST, Fld.CIRQ_STATUS_SLOTS]⟩,
  ⟨Reg.CIRQ_FMT, [Fld.CIRQ_FMT_FMT]⟩,
  ⟨Reg.CIRQ_UCODE, [Fld.CIRQ_UCODE_VERSION]⟩,
  ⟨Reg.CIRQ_LOAD, [Fld.CIRQ_LOAD_LINES, Fld.CIRQ_LOAD_SLOTS]⟩,
  ⟨Reg.CIRQ_EVENT, [Fld.CIRQ_EVENT_UCODE_DONE, Fld.CIRQ_EVENT_CKPT_COPY, Fld.CIRQ_EVENT_COLLIDE, Fld.CIRQ_EVENT_SWAP_ABANDON, Fld.CIRQ_EVENT_SWAP_DONE, Fld.CIRQ_EVENT_OOS, Fld.CIRQ_EVENT_TEST_FAIL, Fld.CIRQ_EVENT_TEST_PASS, Fld.CIRQ_EVENT_HO_IN, Fld.CIRQ_EVENT_HO_OUT, Fld.CIRQ_EVENT_DBE, Fld.CIRQ_EVENT_PARITY, Fld.CIRQ_EVENT_MISMATCH]⟩,
  ⟨Reg.CIRQ_EVENT_EN, [Fld.CIRQ_EVENT_EN_UCODE_DONE, Fld.CIRQ_EVENT_EN_CKPT_COPY, Fld.CIRQ_EVENT_EN_COLLIDE, Fld.CIRQ_EVENT_EN_SWAP_ABANDON, Fld.CIRQ_EVENT_EN_SWAP_DONE, Fld.CIRQ_EVENT_EN_OOS, Fld.CIRQ_EVENT_EN_TEST_FAIL, Fld.CIRQ_EVENT_EN_TEST_PASS, Fld.CIRQ_EVENT_EN_HO_IN, Fld.CIRQ_EVENT_EN_HO_OUT, Fld.CIRQ_EVENT_EN_DBE, Fld.CIRQ_EVENT_EN_PARITY, Fld.CIRQ_EVENT_EN_MISMATCH]⟩,
  ⟨Reg.CIRQ_CNT, [Fld.CIRQ_CNT_FAULTS, Fld.CIRQ_CNT_HANDOVERS]⟩,
  ⟨Reg.CIRQ_CNT_ERR, [Fld.CIRQ_CNT_ERR_COUNT]⟩,
  ⟨Reg.CIRQ_SLOT, [Fld.CIRQ_SLOT_VALID, Fld.CIRQ_SLOT_SUB, Fld.CIRQ_SLOT_MN, Fld.CIRQ_SLOT_ARR_CYC]⟩,
  ⟨Reg.CIRQ_LSTAT, [Fld.CIRQ_LSTAT_HOLD_CNT, Fld.CIRQ_LSTAT_LS]⟩,
  ⟨Reg.CIRQ_ANGLE, [Fld.CIRQ_ANGLE_THETA]⟩,
  ⟨Reg.CIRQ_INJ_CTRL, [Fld.CIRQ_INJ_CTRL_MN, Fld.CIRQ_INJ_CTRL_LOOP, Fld.CIRQ_INJ_CTRL_PRBS_HOLD, Fld.CIRQ_INJ_CTRL_TYPE, Fld.CIRQ_INJ_CTRL_STOP, Fld.CIRQ_INJ_CTRL_START]⟩]

/-- Part of the CIRQ block's register table. -/
def regTableCIRQ1 : List RegEntry := [
  ⟨Reg.CIRQ_INJ_AMP, [Fld.CIRQ_INJ_AMP_AMP]⟩,
  ⟨Reg.CIRQ_INJ_F0, [Fld.CIRQ_INJ_F0_DPHI]⟩,
  ⟨Reg.CIRQ_INJ_F1, [Fld.CIRQ_INJ_F1_DPHI]⟩,
  ⟨Reg.CIRQ_INJ_STEP, [Fld.CIRQ_INJ_STEP_RATIO, Fld.CIRQ_INJ_STEP_DWELL]⟩,
  ⟨Reg.CIRQ_INJ_STAT, [Fld.CIRQ_INJ_STAT_ACTIVE, Fld.CIRQ_INJ_STAT_END, Fld.CIRQ_INJ_STAT_ERR, Fld.CIRQ_INJ_STAT_STEP]⟩,
  ⟨Reg.CIRQ_CAP_CTRL, [Fld.CIRQ_CAP_CTRL_MN, Fld.CIRQ_CAP_CTRL_DEC, Fld.CIRQ_CAP_CTRL_TRIG, Fld.CIRQ_CAP_CTRL_STOP, Fld.CIRQ_CAP_CTRL_ARM]⟩,
  ⟨Reg.CIRQ_CAP_SEL, [Fld.CIRQ_CAP_SEL_SEL3, Fld.CIRQ_CAP_SEL_SEL2, Fld.CIRQ_CAP_SEL_SEL1, Fld.CIRQ_CAP_SEL_SEL0]⟩,
  ⟨Reg.CIRQ_CAP_LEN, [Fld.CIRQ_CAP_LEN_PRE, Fld.CIRQ_CAP_LEN_LEN]⟩,
  ⟨Reg.CIRQ_CAP_STAT, [Fld.CIRQ_CAP_STAT_ARMED, Fld.CIRQ_CAP_STAT_TRIGGERED, Fld.CIRQ_CAP_STAT_DONE, Fld.CIRQ_CAP_STAT_BUF, Fld.CIRQ_CAP_STAT_ERR, Fld.CIRQ_CAP_STAT_COUNT]⟩,
  ⟨Reg.CIRQ_CAP_TRIG_LO, [Fld.CIRQ_CAP_TRIG_LO_TIME_NS]⟩,
  ⟨Reg.CIRQ_CAP_TRIG_HI, [Fld.CIRQ_CAP_TRIG_HI_TIME_NS]⟩,
  ⟨Reg.CIRQ_CAP_PAGE, [Fld.CIRQ_CAP_PAGE_PAGE]⟩]

/-- Part of the CIRQ block's register table. -/
def regTableCIRQ2 : List RegEntry := [
  ⟨Reg.CIRQ_CAP_DATA, [Fld.CIRQ_CAP_DATA_DWORD]⟩,
  ⟨Reg.CIRQ_GCFG, [Fld.CIRQ_GCFG_FAULT_LIMIT, Fld.CIRQ_GCFG_HOLD_MAX]⟩,
  ⟨Reg.CIRQ_GSTAT, [Fld.CIRQ_GSTAT_SLOTS_USED, Fld.CIRQ_GSTAT_OOS, Fld.CIRQ_GSTAT_SPARE_READY, Fld.CIRQ_GSTAT_SPARE]⟩,
  ⟨Reg.CIRQ_EVT_SUM, [Fld.CIRQ_EVT_SUM_SUM]⟩,
  ⟨Reg.CIRQ_HO_CMD, [Fld.CIRQ_HO_CMD_FMT, Fld.CIRQ_HO_CMD_OP, Fld.CIRQ_HO_CMD_CLUSTER]⟩,
  ⟨Reg.CIRQ_HO_STAT, [Fld.CIRQ_HO_STAT_BUSY, Fld.CIRQ_HO_STAT_RESULT, Fld.CIRQ_HO_STAT_CAUSE, Fld.CIRQ_HO_STAT_TO, Fld.CIRQ_HO_STAT_FROM, Fld.CIRQ_HO_STAT_REPEATS]⟩,
  ⟨Reg.CIRQ_HO_TIME_LO, [Fld.CIRQ_HO_TIME_LO_TIME_NS]⟩,
  ⟨Reg.CIRQ_HO_TIME_HI, [Fld.CIRQ_HO_TIME_HI_TIME_NS]⟩,
  ⟨Reg.CIRQ_COEF_CMD, [Fld.CIRQ_COEF_CMD_BUSY, Fld.CIRQ_COEF_CMD_ERR, Fld.CIRQ_COEF_CMD_TARGET, Fld.CIRQ_COEF_CMD_FMT, Fld.CIRQ_COEF_CMD_LOOP, Fld.CIRQ_COEF_CMD_OP]⟩,
  ⟨Reg.CIRQ_LOOP_CMD, [Fld.CIRQ_LOOP_CMD_MN, Fld.CIRQ_LOOP_CMD_MASK, Fld.CIRQ_LOOP_CMD_OP]⟩,
  ⟨Reg.CIRQ_LOOP_STAT, [Fld.CIRQ_LOOP_STAT_BUSY, Fld.CIRQ_LOOP_STAT_ERR, Fld.CIRQ_LOOP_STAT_MN, Fld.CIRQ_LOOP_STAT_DONE]⟩,
  ⟨Reg.CIRQ_STAGE, [Fld.CIRQ_STAGE_DWORD]⟩]

/-- Every register of the CIRQ block with its fields. -/
def regTableCIRQ : List RegEntry := regTableCIRQ0 ++ regTableCIRQ1 ++ regTableCIRQ2

end Sys2Proof.Machine
end

