-- ==== Sys2Proof/Machine/RegsPlatform.lean ====
section
/-! DEFINITION. The registers and fields of the blocks GLB, DRN, RST, SAFE, DBG: addresses and resets
from spec/21_register_index.md (R554), fields and access types (R10) from the field table of the chapter that owns the block. -/

namespace Sys2Proof.Machine

def Reg.GLB_ID : Reg := ⟨0x0000000, 0x0, 1, 0x0, 1, fun _ _ => 0x7D3E8100⟩
def Fld.GLB_ID_VENDOR : Fld := ⟨Reg.GLB_ID, 16, 16, .ro⟩
def Fld.GLB_ID_PART : Fld := ⟨Reg.GLB_ID, 0, 16, .ro⟩
def Reg.GLB_SILICON : Reg := ⟨0x0000004, 0x0, 1, 0x0, 1, fun _ _ => 0x00000000⟩
def Fld.GLB_SILICON_MAJOR : Fld := ⟨Reg.GLB_SILICON, 4, 4, .ro⟩
def Fld.GLB_SILICON_MINOR : Fld := ⟨Reg.GLB_SILICON, 0, 4, .ro⟩
def Reg.GLB_DEVICE_ID_LO : Reg := ⟨0x0000008, 0x0, 1, 0x0, 1, fun _ _ => 0x00000000⟩
def Fld.GLB_DEVICE_ID_LO_ID : Fld := ⟨Reg.GLB_DEVICE_ID_LO, 0, 32, .ro⟩
def Reg.GLB_DEVICE_ID_HI : Reg := ⟨0x000000C, 0x0, 1, 0x0, 1, fun _ _ => 0x00000000⟩
def Fld.GLB_DEVICE_ID_HI_ID : Fld := ⟨Reg.GLB_DEVICE_ID_HI, 0, 32, .ro⟩
def Reg.GLB_CAUSE : Reg := ⟨0x0000010, 0x0, 1, 0x0, 1, fun _ _ => 0x00000000⟩
def Fld.GLB_CAUSE_CAUSE : Fld := ⟨Reg.GLB_CAUSE, 0, 32, .ro⟩
def Reg.GLB_OPT_STAT : Reg := ⟨0x0000014, 0x0, 1, 0x0, 1, fun _ _ => 0x00000000⟩
def Fld.GLB_OPT_STAT_VALID : Fld := ⟨Reg.GLB_OPT_STAT, 16, 16, .ro⟩
def Fld.GLB_OPT_STAT_DEFAULT : Fld := ⟨Reg.GLB_OPT_STAT, 8, 1, .ro⟩
def Fld.GLB_OPT_STAT_BLANK : Fld := ⟨Reg.GLB_OPT_STAT, 0, 5, .ro⟩
def Reg.GLB_OPT : Reg := ⟨0x0000080, 0x4, 32, 0x0, 1, fun _ _ => 0x00000000⟩
def Fld.GLB_OPT_DWORD : Fld := ⟨Reg.GLB_OPT, 0, 32, .ro⟩

/-- Part of the GLB block's register table. -/
def regTableGLB0 : List RegEntry := [
  ⟨Reg.GLB_ID, [Fld.GLB_ID_VENDOR, Fld.GLB_ID_PART]⟩,
  ⟨Reg.GLB_SILICON, [Fld.GLB_SILICON_MAJOR, Fld.GLB_SILICON_MINOR]⟩,
  ⟨Reg.GLB_DEVICE_ID_LO, [Fld.GLB_DEVICE_ID_LO_ID]⟩,
  ⟨Reg.GLB_DEVICE_ID_HI, [Fld.GLB_DEVICE_ID_HI_ID]⟩,
  ⟨Reg.GLB_CAUSE, [Fld.GLB_CAUSE_CAUSE]⟩,
  ⟨Reg.GLB_OPT_STAT, [Fld.GLB_OPT_STAT_VALID, Fld.GLB_OPT_STAT_DEFAULT, Fld.GLB_OPT_STAT_BLANK]⟩,
  ⟨Reg.GLB_OPT, [Fld.GLB_OPT_DWORD]⟩]

/-- Every register of the GLB block with its fields. -/
def regTableGLB : List RegEntry := regTableGLB0

def Reg.DRN_PSTAT : Reg := ⟨0x0010000, 0x0, 1, 0x0, 1, fun _ _ => 0x00000000⟩
def Fld.DRN_PSTAT_LAST_WAKE : Fld := ⟨Reg.DRN_PSTAT, 8, 4, .ro⟩
def Fld.DRN_PSTAT_STATE : Fld := ⟨Reg.DRN_PSTAT, 0, 4, .ro⟩
def Reg.DRN_PCTRL : Reg := ⟨0x0010004, 0x0, 1, 0x0, 1, fun _ _ => 0x00000000⟩
def Fld.DRN_PCTRL_BUSY : Fld := ⟨Reg.DRN_PCTRL, 31, 1, .ro⟩
def Fld.DRN_PCTRL_RESULT : Fld := ⟨Reg.DRN_PCTRL, 28, 3, .ro⟩
def Fld.DRN_PCTRL_OP : Fld := ⟨Reg.DRN_PCTRL, 0, 3, .wo⟩
def Reg.DRN_DOZE_CFG : Reg := ⟨0x0010008, 0x0, 1, 0x0, 1, fun _ _ => 0x803C03E8⟩
def Fld.DRN_DOZE_CFG_DOZE_EN : Fld := ⟨Reg.DRN_DOZE_CFG, 31, 1, .rw⟩
def Fld.DRN_DOZE_CFG_RETRY_WAKE_S : Fld := ⟨Reg.DRN_DOZE_CFG, 16, 8, .rw⟩
def Fld.DRN_DOZE_CFG_IDLE_MS : Fld := ⟨Reg.DRN_DOZE_CFG, 0, 16, .rw⟩
def Reg.DRN_WAKE_EN : Reg := ⟨0x001000C, 0x0, 1, 0x0, 1, fun _ _ => 0x0000000F⟩
def Fld.DRN_WAKE_EN_PERST : Fld := ⟨Reg.DRN_WAKE_EN, 3, 1, .rw⟩
def Fld.DRN_WAKE_EN_SMBUS : Fld := ⟨Reg.DRN_WAKE_EN, 2, 1, .rw⟩
def Fld.DRN_WAKE_EN_GPIO : Fld := ⟨Reg.DRN_WAKE_EN, 1, 1, .rw⟩
def Fld.DRN_WAKE_EN_TIMER : Fld := ⟨Reg.DRN_WAKE_EN, 0, 1, .rw⟩
def Reg.DRN_PWR_CFG : Reg := ⟨0x0010010, 0x0, 1, 0x0, 1, fun _ _ => 0x010A0064⟩
def Fld.DRN_PWR_CFG_SEQ_MODE : Fld := ⟨Reg.DRN_PWR_CFG, 31, 1, .ro⟩
def Fld.DRN_PWR_CFG_KEEP_DRAM : Fld := ⟨Reg.DRN_PWR_CFG, 24, 1, .rw⟩
def Fld.DRN_PWR_CFG_PG_TO_MS : Fld := ⟨Reg.DRN_PWR_CFG, 16, 8, .rw⟩
def Fld.DRN_PWR_CFG_STEP_US : Fld := ⟨Reg.DRN_PWR_CFG, 0, 16, .rw⟩
def Reg.DRN_PWR_STAT : Reg := ⟨0x0010014, 0x0, 1, 0x0, 1, fun _ _ => 0x00070000⟩
def Fld.DRN_PWR_STAT_FAILS : Fld := ⟨Reg.DRN_PWR_STAT, 24, 8, .ro⟩
def Fld.DRN_PWR_STAT_FAIL_GRP : Fld := ⟨Reg.DRN_PWR_STAT, 16, 3, .ro⟩
def Fld.DRN_PWR_STAT_PG : Fld := ⟨Reg.DRN_PWR_STAT, 8, 6, .ro⟩
def Fld.DRN_PWR_STAT_EN : Fld := ⟨Reg.DRN_PWR_STAT, 0, 6, .ro⟩
def Reg.DRN_CLK_STAT : Reg := ⟨0x0010018, 0x0, 1, 0x0, 1, fun _ _ => 0x00000000⟩
def Fld.DRN_CLK_STAT_PEN_PLLS : Fld := ⟨Reg.DRN_CLK_STAT, 8, 7, .ro⟩
def Fld.DRN_CLK_STAT_DDR_LOCK : Fld := ⟨Reg.DRN_CLK_STAT, 4, 1, .ro⟩
def Fld.DRN_CLK_STAT_CORE_LOCK : Fld := ⟨Reg.DRN_CLK_STAT, 3, 1, .ro⟩
def Fld.DRN_CLK_STAT_REF_OK : Fld := ⟨Reg.DRN_CLK_STAT, 2, 1, .ro⟩
def Fld.DRN_CLK_STAT_ON_RC : Fld := ⟨Reg.DRN_CLK_STAT, 1, 1, .ro⟩
def Fld.DRN_CLK_STAT_XTAL_OK : Fld := ⟨Reg.DRN_CLK_STAT, 0, 1, .ro⟩
def Reg.DRN_TIME_RATIO : Reg := ⟨0x001001C, 0x0, 1, 0x0, 1, fun _ _ => 0xEE6B2800⟩
def Fld.DRN_TIME_RATIO_RATIO : Fld := ⟨Reg.DRN_TIME_RATIO, 0, 32, .ro⟩
def Reg.DRN_TIME_LO : Reg := ⟨0x0010020, 0x0, 1, 0x0, 1, fun _ _ => 0x00000000⟩
def Fld.DRN_TIME_LO_TIME_NS : Fld := ⟨Reg.DRN_TIME_LO, 0, 32, .ro⟩
def Reg.DRN_TIME_HI : Reg := ⟨0x0010024, 0x0, 1, 0x0, 1, fun _ _ => 0x00000000⟩
def Fld.DRN_TIME_HI_TIME_NS : Fld := ⟨Reg.DRN_TIME_HI, 0, 32, .ro⟩
def Reg.DRN_EVENT : Reg := ⟨0x0010028, 0x0, 1, 0x0, 1, fun _ _ => 0x00000000⟩
def Fld.DRN_EVENT_FAN_STUCK : Fld := ⟨Reg.DRN_EVENT, 7, 1, .w1c⟩
def Fld.DRN_EVENT_HIB_WAKE : Fld := ⟨Reg.DRN_EVENT, 6, 1, .w1c⟩
def Fld.DRN_EVENT_PWR_FAIL : Fld := ⟨Reg.DRN_EVENT, 5, 1, .w1c⟩
def Fld.DRN_EVENT_REF_LOST : Fld := ⟨Reg.DRN_EVENT, 4, 1, .w1c⟩
def Fld.DRN_EVENT_XTAL_LOST : Fld := ⟨Reg.DRN_EVENT, 3, 1, .w1c⟩
def Fld.DRN_EVENT_TRIP : Fld := ⟨Reg.DRN_EVENT, 2, 1, .w1c⟩
def Fld.DRN_EVENT_SD : Fld := ⟨Reg.DRN_EVENT, 1, 1, .w1c⟩
def Fld.DRN_EVENT_WARN : Fld := ⟨Reg.DRN_EVENT, 0, 1, .w1c⟩
def Reg.DRN_EVENT_EN : Reg := ⟨0x001002C, 0x0, 1, 0x0, 1, fun _ _ => 0x000000FF⟩
def Fld.DRN_EVENT_EN_FAN_STUCK : Fld := ⟨Reg.DRN_EVENT_EN, 7, 1, .rw⟩
def Fld.DRN_EVENT_EN_HIB_WAKE : Fld := ⟨Reg.DRN_EVENT_EN, 6, 1, .rw⟩
def Fld.DRN_EVENT_EN_PWR_FAIL : Fld := ⟨Reg.DRN_EVENT_EN, 5, 1, .rw⟩
def Fld.DRN_EVENT_EN_REF_LOST : Fld := ⟨Reg.DRN_EVENT_EN, 4, 1, .rw⟩
def Fld.DRN_EVENT_EN_XTAL_LOST : Fld := ⟨Reg.DRN_EVENT_EN, 3, 1, .rw⟩
def Fld.DRN_EVENT_EN_TRIP : Fld := ⟨Reg.DRN_EVENT_EN, 2, 1, .rw⟩
def Fld.DRN_EVENT_EN_SD : Fld := ⟨Reg.DRN_EVENT_EN, 1, 1, .rw⟩
def Fld.DRN_EVENT_EN_WARN : Fld := ⟨Reg.DRN_EVENT_EN, 0, 1, .rw⟩
def Reg.DRN_THERM_CFG : Reg := ⟨0x0010030, 0x0, 1, 0x0, 1, fun _ _ => 0x07300690⟩
def Fld.DRN_THERM_CFG_TSD : Fld := ⟨Reg.DRN_THERM_CFG, 16, 16, .rw⟩
def Fld.DRN_THERM_CFG_TWARN : Fld := ⟨Reg.DRN_THERM_CFG, 0, 16, .rw⟩
def Reg.DRN_THERM_LIM : Reg := ⟨0x0010034, 0x0, 1, 0x0, 1, fun _ _ => 0x00033C08⟩
def Fld.DRN_THERM_LIM_TRIP_MAX : Fld := ⟨Reg.DRN_THERM_LIM, 16, 8, .rw⟩
def Fld.DRN_THERM_LIM_TRIP_HOLD_S : Fld := ⟨Reg.DRN_THERM_LIM, 8, 8, .rw⟩
def Fld.DRN_THERM_LIM_RESTART_MAX : Fld := ⟨Reg.DRN_THERM_LIM, 0, 8, .rw⟩
def Reg.DRN_THERM_STAT : Reg := ⟨0x0010038, 0x0, 1, 0x0, 1, fun _ _ => 0x00000000⟩
def Fld.DRN_THERM_STAT_DRONE_ONLY : Fld := ⟨Reg.DRN_THERM_STAT, 25, 1, .ro⟩
def Fld.DRN_THERM_STAT_WARN : Fld := ⟨Reg.DRN_THERM_STAT, 24, 1, .ro⟩
def Fld.DRN_THERM_STAT_HOT : Fld := ⟨Reg.DRN_THERM_STAT, 16, 4, .ro⟩
def Fld.DRN_THERM_STAT_TMAX : Fld := ⟨Reg.DRN_THERM_STAT, 0, 16, .ro⟩
def Reg.DRN_THERM_CNT : Reg := ⟨0x001003C, 0x0, 1, 0x0, 1, fun _ _ => 0x00000000⟩
def Fld.DRN_THERM_CNT_SHUTDOWNS : Fld := ⟨Reg.DRN_THERM_CNT, 16, 16, .ro⟩
def Fld.DRN_THERM_CNT_TRIPS : Fld := ⟨Reg.DRN_THERM_CNT, 0, 16, .ro⟩
def Reg.DRN_WAKE_LO : Reg := ⟨0x0010040, 0x8, 4, 0x0, 1, fun _ _ => 0x00000000⟩
def Fld.DRN_WAKE_LO_TIME_NS : Fld := ⟨Reg.DRN_WAKE_LO, 0, 32, .rw⟩
def Reg.DRN_WAKE_HI : Reg := ⟨0x0010044, 0x8, 4, 0x0, 1, fun _ _ => 0x00000000⟩
def Fld.DRN_WAKE_HI_TIME_NS : Fld := ⟨Reg.DRN_WAKE_HI, 0, 32, .rw⟩
def Reg.DRN_WAKE_CTRL : Reg := ⟨0x0010060, 0x0, 1, 0x0, 1, fun _ _ => 0x00000000⟩
def Fld.DRN_WAKE_CTRL_FIRED : Fld := ⟨Reg.DRN_WAKE_CTRL, 8, 4, .w1c⟩
def Fld.DRN_WAKE_CTRL_EN : Fld := ⟨Reg.DRN_WAKE_CTRL, 0, 4, .rw⟩
def Reg.DRN_FAN_CURVE_T : Reg := ⟨0x0010064, 0x0, 1, 0x0, 1, fun _ _ => 0x55463728⟩
def Fld.DRN_FAN_CURVE_T_P3 : Fld := ⟨Reg.DRN_FAN_CURVE_T, 24, 8, .rw⟩
def Fld.DRN_FAN_CURVE_T_P2 : Fld := ⟨Reg.DRN_FAN_CURVE_T, 16, 8, .rw⟩
def Fld.DRN_FAN_CURVE_T_P1 : Fld := ⟨Reg.DRN_FAN_CURVE_T, 8, 8, .rw⟩
def Fld.DRN_FAN_CURVE_T_P0 : Fld := ⟨Reg.DRN_FAN_CURVE_T, 0, 8, .rw⟩
def Reg.DRN_FAN_CURVE_D : Reg := ⟨0x0010068, 0x0, 1, 0x0, 1, fun _ _ => 0xFFA06440⟩
def Fld.DRN_FAN_CURVE_D_P3 : Fld := ⟨Reg.DRN_FAN_CURVE_D, 24, 8, .rw⟩
def Fld.DRN_FAN_CURVE_D_P2 : Fld := ⟨Reg.DRN_FAN_CURVE_D, 16, 8, .rw⟩
def Fld.DRN_FAN_CURVE_D_P1 : Fld := ⟨Reg.DRN_FAN_CURVE_D, 8, 8, .rw⟩
def Fld.DRN_FAN_CURVE_D_P0 : Fld := ⟨Reg.DRN_FAN_CURVE_D, 0, 8, .rw⟩
def Reg.DRN_TS : Reg := ⟨0x0010080, 0x4, 8, 0x0, 1, fun _ _ => 0x00000000⟩
def Fld.DRN_TS_TS_HI : Fld := ⟨Reg.DRN_TS, 16, 16, .ro⟩
def Fld.DRN_TS_TS_LO : Fld := ⟨Reg.DRN_TS, 0, 16, .ro⟩
def Reg.DRN_FAN_CFG : Reg := ⟨0x00100A0, 0x4, 8, 0x0, 1, fun _ _ => 0x000000FF⟩
def Fld.DRN_FAN_CFG_MODE : Fld := ⟨Reg.DRN_FAN_CFG, 8, 1, .rw⟩
def Fld.DRN_FAN_CFG_DUTY : Fld := ⟨Reg.DRN_FAN_CFG, 0, 8, .rw⟩
def Reg.DRN_FAN_STAT : Reg := ⟨0x00100C0, 0x4, 8, 0x0, 1, fun _ _ => 0x00FF0000⟩
def Fld.DRN_FAN_STAT_STUCK : Fld := ⟨Reg.DRN_FAN_STAT, 31, 1, .ro⟩
def Fld.DRN_FAN_STAT_DUTY : Fld := ⟨Reg.DRN_FAN_STAT, 16, 8, .ro⟩
def Fld.DRN_FAN_STAT_RPM : Fld := ⟨Reg.DRN_FAN_STAT, 0, 16, .ro⟩
def Reg.DRN_RETAIN : Reg := ⟨0x0010100, 0x4, 256, 0x0, 1, fun _ _ => 0x00000000⟩
def Fld.DRN_RETAIN_DWORD : Fld := ⟨Reg.DRN_RETAIN, 0, 32, .ro⟩
def Reg.DRN_GPIO_IN : Reg := ⟨0x0010600, 0x0, 1, 0x0, 1, fun _ _ => 0x00000000⟩
def Fld.DRN_GPIO_IN_GPIO : Fld := ⟨Reg.DRN_GPIO_IN, 0, 32, .ro⟩
def Reg.DRN_GPIO_OUT : Reg := ⟨0x0010604, 0x0, 1, 0x0, 1, fun _ _ => 0x00000000⟩
def Fld.DRN_GPIO_OUT_GPIO : Fld := ⟨Reg.DRN_GPIO_OUT, 0, 32, .rw⟩
def Reg.DRN_GPIO_SET : Reg := ⟨0x0010608, 0x0, 1, 0x0, 1, fun _ _ => 0x00000000⟩
def Fld.DRN_GPIO_SET_GPIO : Fld := ⟨Reg.DRN_GPIO_SET, 0, 32, .wo⟩
def Reg.DRN_GPIO_CLR : Reg := ⟨0x001060C, 0x0, 1, 0x0, 1, fun _ _ => 0x00000000⟩
def Fld.DRN_GPIO_CLR_GPIO : Fld := ⟨Reg.DRN_GPIO_CLR, 0, 32, .wo⟩
def Reg.DRN_GPIO_OE : Reg := ⟨0x0010610, 0x0, 1, 0x0, 1, fun _ _ => 0x00000000⟩
def Fld.DRN_GPIO_OE_GPIO : Fld := ⟨Reg.DRN_GPIO_OE, 0, 32, .rw⟩
def Reg.DRN_GPIO_PULL_LO : Reg := ⟨0x0010614, 0x0, 1, 0x0, 1, fun _ _ => 0x00000000⟩
def Fld.DRN_GPIO_PULL_LO_PULL : Fld := ⟨Reg.DRN_GPIO_PULL_LO, 0, 32, .rw⟩
def Reg.DRN_GPIO_PULL_HI : Reg := ⟨0x0010618, 0x0, 1, 0x0, 1, fun _ _ => 0x00000000⟩
def Fld.DRN_GPIO_PULL_HI_PULL : Fld := ⟨Reg.DRN_GPIO_PULL_HI, 0, 32, .rw⟩
def Reg.DRN_GPIO_EDGE_LO : Reg := ⟨0x001061C, 0x0, 1, 0x0, 1, fun _ _ => 0x00000000⟩
def Fld.DRN_GPIO_EDGE_LO_EDGE : Fld := ⟨Reg.DRN_GPIO_EDGE_LO, 0, 32, .rw⟩
def Reg.DRN_GPIO_EDGE_HI : Reg := ⟨0x0010620, 0x0, 1, 0x0, 1, fun _ _ => 0x00000000⟩
def Fld.DRN_GPIO_EDGE_HI_EDGE : Fld := ⟨Reg.DRN_GPIO_EDGE_HI, 0, 32, .rw⟩
def Reg.DRN_GPIO_EVENT : Reg := ⟨0x0010624, 0x0, 1, 0x0, 1, fun _ _ => 0x00000000⟩
def Fld.DRN_GPIO_EVENT_GPIO : Fld := ⟨Reg.DRN_GPIO_EVENT, 0, 32, .w1c⟩
def Reg.DRN_GPIO_WAKE : Reg := ⟨0x0010628, 0x0, 1, 0x0, 1, fun _ _ => 0x00000000⟩
def Fld.DRN_GPIO_WAKE_GPIO : Fld := ⟨Reg.DRN_GPIO_WAKE, 0, 32, .rw⟩

/-- Part of the DRN block's register table. -/
def regTableDRN0 : List RegEntry := [
  ⟨Reg.DRN_PSTAT, [Fld.DRN_PSTAT_LAST_WAKE, Fld.DRN_PSTAT_STATE]⟩,
  ⟨Reg.DRN_PCTRL, [Fld.DRN_PCTRL_BUSY, Fld.DRN_PCTRL_RESULT, Fld.DRN_PCTRL_OP]⟩,
  ⟨Reg.DRN_DOZE_CFG, [Fld.DRN_DOZE_CFG_DOZE_EN, Fld.DRN_DOZE_CFG_RETRY_WAKE_S, Fld.DRN_DOZE_CFG_IDLE_MS]⟩,
  ⟨Reg.DRN_WAKE_EN, [Fld.DRN_WAKE_EN_PERST, Fld.DRN_WAKE_EN_SMBUS, Fld.DRN_WAKE_EN_GPIO, Fld.DRN_WAKE_EN_TIMER]⟩,
  ⟨Reg.DRN_PWR_CFG, [Fld.DRN_PWR_CFG_SEQ_MODE, Fld.DRN_PWR_CFG_KEEP_DRAM, Fld.DRN_PWR_CFG_PG_TO_MS, Fld.DRN_PWR_CFG_STEP_US]⟩,
  ⟨Reg.DRN_PWR_STAT, [Fld.DRN_PWR_STAT_FAILS, Fld.DRN_PWR_STAT_FAIL_GRP, Fld.DRN_PWR_STAT_PG, Fld.DRN_PWR_STAT_EN]⟩,
  ⟨Reg.DRN_CLK_STAT, [Fld.DRN_CLK_STAT_PEN_PLLS, Fld.DRN_CLK_STAT_DDR_LOCK, Fld.DRN_CLK_STAT_CORE_LOCK, Fld.DRN_CLK_STAT_REF_OK, Fld.DRN_CLK_STAT_ON_RC, Fld.DRN_CLK_STAT_XTAL_OK]⟩,
  ⟨Reg.DRN_TIME_RATIO, [Fld.DRN_TIME_RATIO_RATIO]⟩,
  ⟨Reg.DRN_TIME_LO, [Fld.DRN_TIME_LO_TIME_NS]⟩,
  ⟨Reg.DRN_TIME_HI, [Fld.DRN_TIME_HI_TIME_NS]⟩,
  ⟨Reg.DRN_EVENT, [Fld.DRN_EVENT_FAN_STUCK, Fld.DRN_EVENT_HIB_WAKE, Fld.DRN_EVENT_PWR_FAIL, Fld.DRN_EVENT_REF_LOST, Fld.DRN_EVENT_XTAL_LOST, Fld.DRN_EVENT_TRIP, Fld.DRN_EVENT_SD, Fld.DRN_EVENT_WARN]⟩,
  ⟨Reg.DRN_EVENT_EN, [Fld.DRN_EVENT_EN_FAN_STUCK, Fld.DRN_EVENT_EN_HIB_WAKE, Fld.DRN_EVENT_EN_PWR_FAIL, Fld.DRN_EVENT_EN_REF_LOST, Fld.DRN_EVENT_EN_XTAL_LOST, Fld.DRN_EVENT_EN_TRIP, Fld.DRN_EVENT_EN_SD, Fld.DRN_EVENT_EN_WARN]⟩]

/-- Part of the DRN block's register table. -/
def regTableDRN1 : List RegEntry := [
  ⟨Reg.DRN_THERM_CFG, [Fld.DRN_THERM_CFG_TSD, Fld.DRN_THERM_CFG_TWARN]⟩,
  ⟨Reg.DRN_THERM_LIM, [Fld.DRN_THERM_LIM_TRIP_MAX, Fld.DRN_THERM_LIM_TRIP_HOLD_S, Fld.DRN_THERM_LIM_RESTART_MAX]⟩,
  ⟨Reg.DRN_THERM_STAT, [Fld.DRN_THERM_STAT_DRONE_ONLY, Fld.DRN_THERM_STAT_WARN, Fld.DRN_THERM_STAT_HOT, Fld.DRN_THERM_STAT_TMAX]⟩,
  ⟨Reg.DRN_THERM_CNT, [Fld.DRN_THERM_CNT_SHUTDOWNS, Fld.DRN_THERM_CNT_TRIPS]⟩,
  ⟨Reg.DRN_WAKE_LO, [Fld.DRN_WAKE_LO_TIME_NS]⟩,
  ⟨Reg.DRN_WAKE_HI, [Fld.DRN_WAKE_HI_TIME_NS]⟩,
  ⟨Reg.DRN_WAKE_CTRL, [Fld.DRN_WAKE_CTRL_FIRED, Fld.DRN_WAKE_CTRL_EN]⟩,
  ⟨Reg.DRN_FAN_CURVE_T, [Fld.DRN_FAN_CURVE_T_P3, Fld.DRN_FAN_CURVE_T_P2, Fld.DRN_FAN_CURVE_T_P1, Fld.DRN_FAN_CURVE_T_P0]⟩,
  ⟨Reg.DRN_FAN_CURVE_D, [Fld.DRN_FAN_CURVE_D_P3, Fld.DRN_FAN_CURVE_D_P2, Fld.DRN_FAN_CURVE_D_P1, Fld.DRN_FAN_CURVE_D_P0]⟩,
  ⟨Reg.DRN_TS, [Fld.DRN_TS_TS_HI, Fld.DRN_TS_TS_LO]⟩,
  ⟨Reg.DRN_FAN_CFG, [Fld.DRN_FAN_CFG_MODE, Fld.DRN_FAN_CFG_DUTY]⟩,
  ⟨Reg.DRN_FAN_STAT, [Fld.DRN_FAN_STAT_STUCK, Fld.DRN_FAN_STAT_DUTY, Fld.DRN_FAN_STAT_RPM]⟩]

/-- Part of the DRN block's register table. -/
def regTableDRN2 : List RegEntry := [
  ⟨Reg.DRN_RETAIN, [Fld.DRN_RETAIN_DWORD]⟩,
  ⟨Reg.DRN_GPIO_IN, [Fld.DRN_GPIO_IN_GPIO]⟩,
  ⟨Reg.DRN_GPIO_OUT, [Fld.DRN_GPIO_OUT_GPIO]⟩,
  ⟨Reg.DRN_GPIO_SET, [Fld.DRN_GPIO_SET_GPIO]⟩,
  ⟨Reg.DRN_GPIO_CLR, [Fld.DRN_GPIO_CLR_GPIO]⟩,
  ⟨Reg.DRN_GPIO_OE, [Fld.DRN_GPIO_OE_GPIO]⟩,
  ⟨Reg.DRN_GPIO_PULL_LO, [Fld.DRN_GPIO_PULL_LO_PULL]⟩,
  ⟨Reg.DRN_GPIO_PULL_HI, [Fld.DRN_GPIO_PULL_HI_PULL]⟩,
  ⟨Reg.DRN_GPIO_EDGE_LO, [Fld.DRN_GPIO_EDGE_LO_EDGE]⟩,
  ⟨Reg.DRN_GPIO_EDGE_HI, [Fld.DRN_GPIO_EDGE_HI_EDGE]⟩,
  ⟨Reg.DRN_GPIO_EVENT, [Fld.DRN_GPIO_EVENT_GPIO]⟩,
  ⟨Reg.DRN_GPIO_WAKE, [Fld.DRN_GPIO_WAKE_GPIO]⟩]

/-- Every register of the DRN block with its fields. -/
def regTableDRN : List RegEntry := regTableDRN0 ++ regTableDRN1 ++ regTableDRN2

def Reg.RST_CAUSE : Reg := ⟨0x0020000, 0x0, 1, 0x0, 1, fun _ _ => 0x00000001⟩
def Fld.RST_CAUSE_CLUSTER : Fld := ⟨Reg.RST_CAUSE, 10, 1, .w1c⟩
def Fld.RST_CAUSE_TRIP : Fld := ⟨Reg.RST_CAUSE, 9, 1, .w1c⟩
def Fld.RST_CAUSE_THERMAL : Fld := ⟨Reg.RST_CAUSE, 8, 1, .w1c⟩
def Fld.RST_CAUSE_LOCKUP : Fld := ⟨Reg.RST_CAUSE, 7, 1, .w1c⟩
def Fld.RST_CAUSE_CLKFAIL : Fld := ⟨Reg.RST_CAUSE, 6, 1, .w1c⟩
def Fld.RST_CAUSE_DEBUG : Fld := ⟨Reg.RST_CAUSE, 5, 1, .w1c⟩
def Fld.RST_CAUSE_SOFT : Fld := ⟨Reg.RST_CAUSE, 4, 1, .w1c⟩
def Fld.RST_CAUSE_SUPERVISOR : Fld := ⟨Reg.RST_CAUSE, 3, 1, .w1c⟩
def Fld.RST_CAUSE_PIN : Fld := ⟨Reg.RST_CAUSE, 2, 1, .w1c⟩
def Fld.RST_CAUSE_BOR : Fld := ⟨Reg.RST_CAUSE, 1, 1, .w1c⟩
def Fld.RST_CAUSE_POR : Fld := ⟨Reg.RST_CAUSE, 0, 1, .w1c⟩
def Reg.RST_CTRL : Reg := ⟨0x0020004, 0x0, 1, 0x0, 1, fun _ _ => 0x00000000⟩
def Fld.RST_CTRL_KEY : Fld := ⟨Reg.RST_CTRL, 16, 16, .wo⟩
def Fld.RST_CTRL_OP : Fld := ⟨Reg.RST_CTRL, 0, 2, .wo⟩
def Reg.RST_STAT : Reg := ⟨0x0020008, 0x0, 1, 0x0, 1, fun _ _ => 0x00000000⟩
def Fld.RST_STAT_STAGE : Fld := ⟨Reg.RST_STAT, 28, 4, .ro⟩
def Fld.RST_STAT_FAIL_STAGE : Fld := ⟨Reg.RST_STAT, 24, 4, .ro⟩
def Fld.RST_STAT_FAIL_CODE : Fld := ⟨Reg.RST_STAT, 16, 8, .ro⟩
def Reg.RST_BOOT_MS : Reg := ⟨0x002000C, 0x0, 1, 0x0, 1, fun _ _ => 0x00000000⟩
def Fld.RST_BOOT_MS_MS : Fld := ⟨Reg.RST_BOOT_MS, 0, 16, .ro⟩
def Reg.RST_BLK_CMD : Reg := ⟨0x0020010, 0x0, 1, 0x0, 1, fun _ _ => 0x00000000⟩
def Fld.RST_BLK_CMD_BUSY : Fld := ⟨Reg.RST_BLK_CMD, 31, 1, .ro⟩
def Fld.RST_BLK_CMD_RESULT : Fld := ⟨Reg.RST_BLK_CMD, 28, 3, .ro⟩
def Fld.RST_BLK_CMD_CLASS : Fld := ⟨Reg.RST_BLK_CMD, 24, 4, .rw⟩
def Fld.RST_BLK_CMD_GO : Fld := ⟨Reg.RST_BLK_CMD, 16, 1, .wo⟩
def Fld.RST_BLK_CMD_INDEX : Fld := ⟨Reg.RST_BLK_CMD, 0, 9, .rw⟩
def Reg.RST_FW_STAT : Reg := ⟨0x0020014, 0x0, 1, 0x0, 1, fun _ _ => 0x00000000⟩
def Fld.RST_FW_STAT_BOOTED : Fld := ⟨Reg.RST_FW_STAT, 30, 2, .ro⟩
def Fld.RST_FW_STAT_FALLBACK : Fld := ⟨Reg.RST_FW_STAT, 29, 1, .ro⟩
def Fld.RST_FW_STAT_TRIAL : Fld := ⟨Reg.RST_FW_STAT, 28, 1, .ro⟩
def Reg.RST_OPT_CMD : Reg := ⟨0x0020018, 0x0, 1, 0x0, 1, fun _ _ => 0x00000000⟩
def Fld.RST_OPT_CMD_BUSY : Fld := ⟨Reg.RST_OPT_CMD, 31, 1, .ro⟩
def Fld.RST_OPT_CMD_RESULT : Fld := ⟨Reg.RST_OPT_CMD, 28, 3, .ro⟩
def Fld.RST_OPT_CMD_SLOT : Fld := ⟨Reg.RST_OPT_CMD, 4, 4, .rw⟩
def Fld.RST_OPT_CMD_OP : Fld := ⟨Reg.RST_OPT_CMD, 0, 2, .wo⟩
def Reg.RST_OPT_STAGE : Reg := ⟨0x0020100, 0x4, 32, 0x0, 1, fun _ _ => 0x00000000⟩
def Fld.RST_OPT_STAGE_DWORD : Fld := ⟨Reg.RST_OPT_STAGE, 0, 32, .rw⟩

/-- Part of the RST block's register table. -/
def regTableRST0 : List RegEntry := [
  ⟨Reg.RST_CAUSE, [Fld.RST_CAUSE_CLUSTER, Fld.RST_CAUSE_TRIP, Fld.RST_CAUSE_THERMAL, Fld.RST_CAUSE_LOCKUP, Fld.RST_CAUSE_CLKFAIL, Fld.RST_CAUSE_DEBUG, Fld.RST_CAUSE_SOFT, Fld.RST_CAUSE_SUPERVISOR, Fld.RST_CAUSE_PIN, Fld.RST_CAUSE_BOR, Fld.RST_CAUSE_POR]⟩,
  ⟨Reg.RST_CTRL, [Fld.RST_CTRL_KEY, Fld.RST_CTRL_OP]⟩,
  ⟨Reg.RST_STAT, [Fld.RST_STAT_STAGE, Fld.RST_STAT_FAIL_STAGE, Fld.RST_STAT_FAIL_CODE]⟩,
  ⟨Reg.RST_BOOT_MS, [Fld.RST_BOOT_MS_MS]⟩,
  ⟨Reg.RST_BLK_CMD, [Fld.RST_BLK_CMD_BUSY, Fld.RST_BLK_CMD_RESULT, Fld.RST_BLK_CMD_CLASS, Fld.RST_BLK_CMD_GO, Fld.RST_BLK_CMD_INDEX]⟩,
  ⟨Reg.RST_FW_STAT, [Fld.RST_FW_STAT_BOOTED, Fld.RST_FW_STAT_FALLBACK, Fld.RST_FW_STAT_TRIAL]⟩,
  ⟨Reg.RST_OPT_CMD, [Fld.RST_OPT_CMD_BUSY, Fld.RST_OPT_CMD_RESULT, Fld.RST_OPT_CMD_SLOT, Fld.RST_OPT_CMD_OP]⟩,
  ⟨Reg.RST_OPT_STAGE, [Fld.RST_OPT_STAGE_DWORD]⟩]

/-- Every register of the RST block with its fields. -/
def regTableRST : List RegEntry := regTableRST0

def Reg.SAFE_CFG : Reg := ⟨0x03E0000, 0x0, 1, 0x0, 1, fun _ _ => 0x00000064⟩
def Fld.SAFE_CFG_AUTO_REARM : Fld := ⟨Reg.SAFE_CFG, 16, 1, .rw⟩
def Fld.SAFE_CFG_DISC_MS : Fld := ⟨Reg.SAFE_CFG, 0, 11, .rw⟩
def Reg.SAFE_STAT : Reg := ⟨0x03E0004, 0x0, 1, 0x0, 1, fun _ _ => 0x00000000⟩
def Fld.SAFE_STAT_FAULT : Fld := ⟨Reg.SAFE_STAT, 31, 1, .ro⟩
def Fld.SAFE_STAT_OK : Fld := ⟨Reg.SAFE_STAT, 30, 1, .ro⟩
def Fld.SAFE_STAT_DISC : Fld := ⟨Reg.SAFE_STAT, 29, 1, .ro⟩
def Fld.SAFE_STAT_CAUSE : Fld := ⟨Reg.SAFE_STAT, 24, 3, .ro⟩
def Fld.SAFE_STAT_STATE_B : Fld := ⟨Reg.SAFE_STAT, 4, 3, .ro⟩
def Fld.SAFE_STAT_STATE_A : Fld := ⟨Reg.SAFE_STAT, 0, 3, .ro⟩
def Reg.SAFE_ZONE : Reg := ⟨0x03E0008, 0x0, 1, 0x0, 1, fun _ _ => 0x00000000⟩
def Fld.SAFE_ZONE_ARMED : Fld := ⟨Reg.SAFE_ZONE, 8, 8, .ro⟩
def Fld.SAFE_ZONE_LPERMIT : Fld := ⟨Reg.SAFE_ZONE, 0, 8, .ro⟩
def Reg.SAFE_ZONE_CTRL : Reg := ⟨0x03E000C, 0x0, 1, 0x0, 1, fun _ _ => 0x00000000⟩
def Fld.SAFE_ZONE_CTRL_DISARM : Fld := ⟨Reg.SAFE_ZONE_CTRL, 0, 8, .wo⟩
def Reg.SAFE_EVENT : Reg := ⟨0x03E0010, 0x0, 1, 0x0, 1, fun _ _ => 0x00000000⟩
def Fld.SAFE_EVENT_LSUP_MISMATCH : Fld := ⟨Reg.SAFE_EVENT, 4, 1, .w1c⟩
def Fld.SAFE_EVENT_ARMED : Fld := ⟨Reg.SAFE_EVENT, 3, 1, .w1c⟩
def Fld.SAFE_EVENT_FAULT : Fld := ⟨Reg.SAFE_EVENT, 2, 1, .w1c⟩
def Fld.SAFE_EVENT_TRANSIENT : Fld := ⟨Reg.SAFE_EVENT, 1, 1, .w1c⟩
def Fld.SAFE_EVENT_DROP : Fld := ⟨Reg.SAFE_EVENT, 0, 1, .w1c⟩
def Reg.SAFE_EVENT_EN : Reg := ⟨0x03E0014, 0x0, 1, 0x0, 1, fun _ _ => 0x0000001D⟩
def Fld.SAFE_EVENT_EN_LSUP_MISMATCH : Fld := ⟨Reg.SAFE_EVENT_EN, 4, 1, .rw⟩
def Fld.SAFE_EVENT_EN_ARMED : Fld := ⟨Reg.SAFE_EVENT_EN, 3, 1, .rw⟩
def Fld.SAFE_EVENT_EN_FAULT : Fld := ⟨Reg.SAFE_EVENT_EN, 2, 1, .rw⟩
def Fld.SAFE_EVENT_EN_TRANSIENT : Fld := ⟨Reg.SAFE_EVENT_EN, 1, 1, .rw⟩
def Fld.SAFE_EVENT_EN_DROP : Fld := ⟨Reg.SAFE_EVENT_EN, 0, 1, .rw⟩
def Reg.SAFE_DISC_LAST : Reg := ⟨0x03E0018, 0x0, 1, 0x0, 1, fun _ _ => 0x00000000⟩
def Fld.SAFE_DISC_LAST_LAGGED_B : Fld := ⟨Reg.SAFE_DISC_LAST, 31, 1, .ro⟩
def Fld.SAFE_DISC_LAST_DUR_MS : Fld := ⟨Reg.SAFE_DISC_LAST, 0, 16, .ro⟩
def Reg.SAFE_CNT : Reg := ⟨0x03E001C, 0x0, 1, 0x0, 1, fun _ _ => 0x00000000⟩
def Fld.SAFE_CNT_FAULTS : Fld := ⟨Reg.SAFE_CNT, 16, 16, .ro⟩
def Fld.SAFE_CNT_DROPS : Fld := ⟨Reg.SAFE_CNT, 0, 16, .ro⟩
def Reg.SAFE_LSUP_LAST : Reg := ⟨0x03E0020, 0x0, 1, 0x0, 1, fun _ _ => 0x00000000⟩
def Fld.SAFE_LSUP_LAST_ZONE : Fld := ⟨Reg.SAFE_LSUP_LAST, 16, 3, .ro⟩
def Fld.SAFE_LSUP_LAST_MN : Fld := ⟨Reg.SAFE_LSUP_LAST, 0, 12, .ro⟩

/-- Part of the SAFE block's register table. -/
def regTableSAFE0 : List RegEntry := [
  ⟨Reg.SAFE_CFG, [Fld.SAFE_CFG_AUTO_REARM, Fld.SAFE_CFG_DISC_MS]⟩,
  ⟨Reg.SAFE_STAT, [Fld.SAFE_STAT_FAULT, Fld.SAFE_STAT_OK, Fld.SAFE_STAT_DISC, Fld.SAFE_STAT_CAUSE, Fld.SAFE_STAT_STATE_B, Fld.SAFE_STAT_STATE_A]⟩,
  ⟨Reg.SAFE_ZONE, [Fld.SAFE_ZONE_ARMED, Fld.SAFE_ZONE_LPERMIT]⟩,
  ⟨Reg.SAFE_ZONE_CTRL, [Fld.SAFE_ZONE_CTRL_DISARM]⟩,
  ⟨Reg.SAFE_EVENT, [Fld.SAFE_EVENT_LSUP_MISMATCH, Fld.SAFE_EVENT_ARMED, Fld.SAFE_EVENT_FAULT, Fld.SAFE_EVENT_TRANSIENT, Fld.SAFE_EVENT_DROP]⟩,
  ⟨Reg.SAFE_EVENT_EN, [Fld.SAFE_EVENT_EN_LSUP_MISMATCH, Fld.SAFE_EVENT_EN_ARMED, Fld.SAFE_EVENT_EN_FAULT, Fld.SAFE_EVENT_EN_TRANSIENT, Fld.SAFE_EVENT_EN_DROP]⟩,
  ⟨Reg.SAFE_DISC_LAST, [Fld.SAFE_DISC_LAST_LAGGED_B, Fld.SAFE_DISC_LAST_DUR_MS]⟩,
  ⟨Reg.SAFE_CNT, [Fld.SAFE_CNT_FAULTS, Fld.SAFE_CNT_DROPS]⟩,
  ⟨Reg.SAFE_LSUP_LAST, [Fld.SAFE_LSUP_LAST_ZONE, Fld.SAFE_LSUP_LAST_MN]⟩]

/-- Every register of the SAFE block with its fields. -/
def regTableSAFE : List RegEntry := regTableSAFE0

def Reg.DBG_EVT_SUM : Reg := ⟨0x03F0000, 0x0, 1, 0x0, 1, fun _ _ => 0x00000000⟩
def Fld.DBG_EVT_SUM_SRC : Fld := ⟨Reg.DBG_EVT_SUM, 0, 14, .ro⟩
def Reg.DBG_EVT_EN : Reg := ⟨0x03F0004, 0x0, 1, 0x0, 1, fun _ _ => 0x00003FFF⟩
def Fld.DBG_EVT_EN_SRC : Fld := ⟨Reg.DBG_EVT_EN, 0, 14, .rw⟩
def Reg.DBG_DEADLINE : Reg := ⟨0x03F0008, 0x0, 1, 0x0, 1, fun _ _ => 0x0140F01E⟩
def Fld.DBG_DEADLINE_MOUNT_S : Fld := ⟨Reg.DBG_DEADLINE, 20, 10, .rw⟩
def Fld.DBG_DEADLINE_ADMIN_S : Fld := ⟨Reg.DBG_DEADLINE, 10, 10, .rw⟩
def Fld.DBG_DEADLINE_IO_S : Fld := ⟨Reg.DBG_DEADLINE, 0, 10, .rw⟩
def Reg.DBG_FABRIC : Reg := ⟨0x03F000C, 0x0, 1, 0x0, 1, fun _ _ => 0x000003E8⟩
def Fld.DBG_FABRIC_FABRIC_US : Fld := ⟨Reg.DBG_FABRIC, 0, 16, .rw⟩
def Reg.DBG_LOG_SEQ : Reg := ⟨0x03F0010, 0x0, 1, 0x0, 1, fun _ _ => 0x00000000⟩
def Fld.DBG_LOG_SEQ_VALUE : Fld := ⟨Reg.DBG_LOG_SEQ, 0, 32, .ro⟩
def Reg.DBG_LOG_LOST : Reg := ⟨0x03F0014, 0x0, 1, 0x0, 1, fun _ _ => 0x00000000⟩
def Fld.DBG_LOG_LOST_VALUE : Fld := ⟨Reg.DBG_LOG_LOST, 0, 32, .rc⟩
def Reg.DBG_LOG_CFG : Reg := ⟨0x03F0018, 0x0, 1, 0x0, 1, fun _ _ => 0x00020010⟩
def Fld.DBG_LOG_CFG_NEW : Fld := ⟨Reg.DBG_LOG_CFG, 31, 1, .w1c⟩
def Fld.DBG_LOG_CFG_EVT_SEV : Fld := ⟨Reg.DBG_LOG_CFG, 16, 3, .rw⟩
def Fld.DBG_LOG_CFG_RATE : Fld := ⟨Reg.DBG_LOG_CFG, 0, 8, .rw⟩
def Reg.DBG_BIST_CMD : Reg := ⟨0x03F0020, 0x0, 1, 0x0, 1, fun _ _ => 0x00000000⟩
def Fld.DBG_BIST_CMD_BUSY : Fld := ⟨Reg.DBG_BIST_CMD, 31, 1, .ro⟩
def Fld.DBG_BIST_CMD_RESULT : Fld := ⟨Reg.DBG_BIST_CMD, 28, 3, .ro⟩
def Fld.DBG_BIST_CMD_CLASS : Fld := ⟨Reg.DBG_BIST_CMD, 24, 4, .rw⟩
def Fld.DBG_BIST_CMD_OP : Fld := ⟨Reg.DBG_BIST_CMD, 16, 3, .wo⟩
def Fld.DBG_BIST_CMD_INDEX : Fld := ⟨Reg.DBG_BIST_CMD, 0, 9, .rw⟩
def Reg.DBG_BIST_STAT : Reg := ⟨0x03F0024, 0x0, 1, 0x0, 1, fun _ _ => 0x00000000⟩
def Fld.DBG_BIST_STAT_ACTIVE : Fld := ⟨Reg.DBG_BIST_STAT, 31, 1, .ro⟩
def Fld.DBG_BIST_STAT_FAIL_NEW : Fld := ⟨Reg.DBG_BIST_STAT, 30, 1, .w1c⟩
def Fld.DBG_BIST_STAT_KIND : Fld := ⟨Reg.DBG_BIST_STAT, 28, 2, .ro⟩
def Fld.DBG_BIST_STAT_CLASS : Fld := ⟨Reg.DBG_BIST_STAT, 24, 4, .ro⟩
def Fld.DBG_BIST_STAT_INDEX : Fld := ⟨Reg.DBG_BIST_STAT, 0, 9, .ro⟩
def Reg.DBG_BIST_CFG : Reg := ⟨0x03F0028, 0x0, 1, 0x0, 1, fun _ _ => 0x00000018⟩
def Fld.DBG_BIST_CFG_PERIOD_H : Fld := ⟨Reg.DBG_BIST_CFG, 0, 16, .rw⟩
def Reg.DBG_BIST_FAILS : Reg := ⟨0x03F002C, 0x0, 1, 0x0, 1, fun _ _ => 0x00000000⟩
def Fld.DBG_BIST_FAILS_LOGIC : Fld := ⟨Reg.DBG_BIST_FAILS, 16, 16, .ro⟩
def Fld.DBG_BIST_FAILS_MEMORY : Fld := ⟨Reg.DBG_BIST_FAILS, 0, 16, .ro⟩
def Reg.DBG_UPD_STAT : Reg := ⟨0x03F0030, 0x0, 1, 0x0, 1, fun _ _ => 0x00000000⟩
def Fld.DBG_UPD_STAT_BUSY : Fld := ⟨Reg.DBG_UPD_STAT, 31, 1, .ro⟩
def Fld.DBG_UPD_STAT_DONE : Fld := ⟨Reg.DBG_UPD_STAT, 30, 1, .w1c⟩
def Fld.DBG_UPD_STAT_RESULT : Fld := ⟨Reg.DBG_UPD_STAT, 27, 3, .ro⟩
def Fld.DBG_UPD_STAT_PHASE : Fld := ⟨Reg.DBG_UPD_STAT, 24, 3, .ro⟩
def Fld.DBG_UPD_STAT_INDEX : Fld := ⟨Reg.DBG_UPD_STAT, 0, 13, .ro⟩
def Reg.DBG_BFW_CFG : Reg := ⟨0x03F0034, 0x0, 1, 0x0, 1, fun _ _ => 0x000007D0⟩
def Fld.DBG_BFW_CFG_AUTO : Fld := ⟨Reg.DBG_BFW_CFG, 16, 1, .rw⟩
def Fld.DBG_BFW_CFG_REBOOT_MS : Fld := ⟨Reg.DBG_BFW_CFG, 0, 16, .rw⟩
def Reg.DBG_BFW_STAT : Reg := ⟨0x03F0038, 0x0, 1, 0x0, 1, fun _ _ => 0x00000000⟩
def Fld.DBG_BFW_STAT_DONE : Fld := ⟨Reg.DBG_BFW_STAT, 16, 13, .ro⟩
def Fld.DBG_BFW_STAT_FAILED : Fld := ⟨Reg.DBG_BFW_STAT, 0, 13, .ro⟩
def Reg.DBG_AUTH_CMD : Reg := ⟨0x03F0040, 0x0, 1, 0x0, 1, fun _ _ => 0x00000000⟩
def Fld.DBG_AUTH_CMD_BUSY : Fld := ⟨Reg.DBG_AUTH_CMD, 31, 1, .ro⟩
def Fld.DBG_AUTH_CMD_RESULT : Fld := ⟨Reg.DBG_AUTH_CMD, 28, 3, .ro⟩
def Fld.DBG_AUTH_CMD_OP : Fld := ⟨Reg.DBG_AUTH_CMD, 0, 2, .wo⟩
def Reg.DBG_AUTH_STAT : Reg := ⟨0x03F0044, 0x0, 1, 0x0, 1, fun _ _ => 0x00000000⟩
def Fld.DBG_AUTH_STAT_AUTH : Fld := ⟨Reg.DBG_AUTH_STAT, 31, 1, .ro⟩
def Fld.DBG_AUTH_STAT_LOCKED : Fld := ⟨Reg.DBG_AUTH_STAT, 30, 1, .ro⟩
def Fld.DBG_AUTH_STAT_FAILS : Fld := ⟨Reg.DBG_AUTH_STAT, 0, 2, .ro⟩
def Reg.DBG_AUTH_CHAL : Reg := ⟨0x03F0050, 0x4, 4, 0x0, 1, fun _ _ => 0x00000000⟩
def Fld.DBG_AUTH_CHAL_DWORD : Fld := ⟨Reg.DBG_AUTH_CHAL, 0, 32, .ro⟩
def Reg.DBG_AUTH_RESP : Reg := ⟨0x03F0080, 0x4, 16, 0x0, 1, fun _ _ => 0x00000000⟩
def Fld.DBG_AUTH_RESP_DWORD : Fld := ⟨Reg.DBG_AUTH_RESP, 0, 32, .wo⟩
def Reg.DBG_SUP_CFG : Reg := ⟨0x03F8000, 0x0, 1, 0x0, 1, fun _ _ => 0x138807D0⟩
def Fld.DBG_SUP_CFG_BOOT_MS : Fld := ⟨Reg.DBG_SUP_CFG, 16, 16, .rw⟩
def Fld.DBG_SUP_CFG_SUP_MS : Fld := ⟨Reg.DBG_SUP_CFG, 0, 16, .rw⟩
def Reg.DBG_SUP_KICK : Reg := ⟨0x03F8004, 0x0, 1, 0x0, 1, fun _ _ => 0x00000000⟩
def Fld.DBG_SUP_KICK_VALUE : Fld := ⟨Reg.DBG_SUP_KICK, 0, 32, .wo⟩
def Reg.DBG_WIN_STAT : Reg := ⟨0x03F8008, 0x0, 1, 0x0, 1, fun _ _ => 0x00000000⟩
def Fld.DBG_WIN_STAT_NEW : Fld := ⟨Reg.DBG_WIN_STAT, 31, 1, .w1c⟩
def Fld.DBG_WIN_STAT_RESULT : Fld := ⟨Reg.DBG_WIN_STAT, 28, 3, .ro⟩
def Fld.DBG_WIN_STAT_UNIT : Fld := ⟨Reg.DBG_WIN_STAT, 24, 4, .ro⟩
def Fld.DBG_WIN_STAT_CHANNELS : Fld := ⟨Reg.DBG_WIN_STAT, 16, 8, .ro⟩
def Fld.DBG_WIN_STAT_DUR_MS : Fld := ⟨Reg.DBG_WIN_STAT, 0, 16, .ro⟩
def Reg.DBG_CRASH : Reg := ⟨0x03F8040, 0x4, 16, 0x0, 1, fun _ _ => 0x00000000⟩
def Fld.DBG_CRASH_DWORD : Fld := ⟨Reg.DBG_CRASH, 0, 32, .ro⟩

/-- Part of the DBG block's register table. -/
def regTableDBG0 : List RegEntry := [
  ⟨Reg.DBG_EVT_SUM, [Fld.DBG_EVT_SUM_SRC]⟩,
  ⟨Reg.DBG_EVT_EN, [Fld.DBG_EVT_EN_SRC]⟩,
  ⟨Reg.DBG_DEADLINE, [Fld.DBG_DEADLINE_MOUNT_S, Fld.DBG_DEADLINE_ADMIN_S, Fld.DBG_DEADLINE_IO_S]⟩,
  ⟨Reg.DBG_FABRIC, [Fld.DBG_FABRIC_FABRIC_US]⟩,
  ⟨Reg.DBG_LOG_SEQ, [Fld.DBG_LOG_SEQ_VALUE]⟩,
  ⟨Reg.DBG_LOG_LOST, [Fld.DBG_LOG_LOST_VALUE]⟩,
  ⟨Reg.DBG_LOG_CFG, [Fld.DBG_LOG_CFG_NEW, Fld.DBG_LOG_CFG_EVT_SEV, Fld.DBG_LOG_CFG_RATE]⟩,
  ⟨Reg.DBG_BIST_CMD, [Fld.DBG_BIST_CMD_BUSY, Fld.DBG_BIST_CMD_RESULT, Fld.DBG_BIST_CMD_CLASS, Fld.DBG_BIST_CMD_OP, Fld.DBG_BIST_CMD_INDEX]⟩,
  ⟨Reg.DBG_BIST_STAT, [Fld.DBG_BIST_STAT_ACTIVE, Fld.DBG_BIST_STAT_FAIL_NEW, Fld.DBG_BIST_STAT_KIND, Fld.DBG_BIST_STAT_CLASS, Fld.DBG_BIST_STAT_INDEX]⟩,
  ⟨Reg.DBG_BIST_CFG, [Fld.DBG_BIST_CFG_PERIOD_H]⟩,
  ⟨Reg.DBG_BIST_FAILS, [Fld.DBG_BIST_FAILS_LOGIC, Fld.DBG_BIST_FAILS_MEMORY]⟩,
  ⟨Reg.DBG_UPD_STAT, [Fld.DBG_UPD_STAT_BUSY, Fld.DBG_UPD_STAT_DONE, Fld.DBG_UPD_STAT_RESULT, Fld.DBG_UPD_STAT_PHASE, Fld.DBG_UPD_STAT_INDEX]⟩]

/-- Part of the DBG block's register table. -/
def regTableDBG1 : List RegEntry := [
  ⟨Reg.DBG_BFW_CFG, [Fld.DBG_BFW_CFG_AUTO, Fld.DBG_BFW_CFG_REBOOT_MS]⟩,
  ⟨Reg.DBG_BFW_STAT, [Fld.DBG_BFW_STAT_DONE, Fld.DBG_BFW_STAT_FAILED]⟩,
  ⟨Reg.DBG_AUTH_CMD, [Fld.DBG_AUTH_CMD_BUSY, Fld.DBG_AUTH_CMD_RESULT, Fld.DBG_AUTH_CMD_OP]⟩,
  ⟨Reg.DBG_AUTH_STAT, [Fld.DBG_AUTH_STAT_AUTH, Fld.DBG_AUTH_STAT_LOCKED, Fld.DBG_AUTH_STAT_FAILS]⟩,
  ⟨Reg.DBG_AUTH_CHAL, [Fld.DBG_AUTH_CHAL_DWORD]⟩,
  ⟨Reg.DBG_AUTH_RESP, [Fld.DBG_AUTH_RESP_DWORD]⟩,
  ⟨Reg.DBG_SUP_CFG, [Fld.DBG_SUP_CFG_BOOT_MS, Fld.DBG_SUP_CFG_SUP_MS]⟩,
  ⟨Reg.DBG_SUP_KICK, [Fld.DBG_SUP_KICK_VALUE]⟩,
  ⟨Reg.DBG_WIN_STAT, [Fld.DBG_WIN_STAT_NEW, Fld.DBG_WIN_STAT_RESULT, Fld.DBG_WIN_STAT_UNIT, Fld.DBG_WIN_STAT_CHANNELS, Fld.DBG_WIN_STAT_DUR_MS]⟩,
  ⟨Reg.DBG_CRASH, [Fld.DBG_CRASH_DWORD]⟩]

/-- Every register of the DBG block with its fields. -/
def regTableDBG : List RegEntry := regTableDBG0 ++ regTableDBG1

end Sys2Proof.Machine
end

