-- ==== Sys2Proof/Machine/State.lean ====
section
/-! DEFINITION. The state of the HVK-8100 as plain data: its register file, everything the spec lets a register or a later
event show that no register holds, and the queue of waiting commands. INVENTORY.md lists each item with its rule. -/

namespace Sys2Proof.Machine

/-- The reasons a step stops without a next state. Both stops are safe: the hardware has no such access. -/
inductive Fault where
  /-- Raised by REGISTER_WRITE and REGISTER_READ for an address in no window the spec gives (the 16 MiB setup window, the 64 KiB BAR0
  of a function, its 64 KiB BAR2). Safe. -/
  | noSuchAddress
  /-- Raised by REGISTER_WRITE and REGISTER_READ for an address that is not a multiple of 4: R8 gives no such access. Safe. -/
  | misaligned
  deriving DecidableEq, Repr

/-- The reasons a command has no meaning. -/
inductive Refusal where
  /-- Raised by the dispatcher for a command that has no meaning yet. Safe. -/
  | notModelled (mnemonic : String)
  deriving DecidableEq, Repr

/-! ### Device time, error log, steward events, output (R423, R424, R473, R475, R476) -/

/-- One error log entry (spec/17_dependability.md "Error log entry"). -/
structure LogEntry where
  time : Nat := 0
  seq : Nat := 0
  cls : Nat := 0
  code : Nat := 0
  sev : Nat := 0
  mn : Nat := 0xFFFF
  fn : Nat := 0xFFFF
  unit : Nat := 0xFFFF
  detail0 : Nat := 0
  detail1 : Nat := 0
  deriving DecidableEq, Repr

/-- Device time and its latches: whole ns, the fraction in 2^-24 ns, the upper halves latched by the LO reads (R342, R424);
when temperatures were last compared for the calibration (R190). -/
structure TimeState where
  now : Nat := 0
  frac : Nat := 0
  drnHi : Option Nat := none
  fnHi : Tab (Option Nat) := []
  calAt : Nat := 0
  deriving DecidableEq, Repr

/-- The error log: position (SEQ mod 4096) to entry, and the entries written in the running second by class, code and MN (R475, R476). -/
structure LogState where
  entries : Tab LogEntry := []
  second : Nat := 0
  counts : List ((Nat × Nat × Nat) × Nat) := []
  deriving DecidableEq, Repr

/-- Steward events: the enabled summary bits already accounted for, whether a gathering period runs, the bits gathered, when the period began (R473). -/
structure EvtState where
  seen : Nat := 0
  gathering : Bool := false
  gathered : Nat := 0
  since : Nat := 0
  deriving DecidableEq, Repr

/-! ### Queue pairs, command contexts, completions, write buffer (spec/12, spec/13) -/

/-- A queue pair (R331, R333, R337, R340, R344). Indices count without wrapping; `tail` and `head` are the last doorbell values taken. -/
structure Qp where
  live : Bool := false
  ver : Nat := 1
  sqBase : Nat := 0
  cqBase : Nat := 0
  sqLog2 : Nat := 4
  cqLog2 : Nat := 4
  vector : Nat := 0
  aggThr : Nat := 1
  aggUs : Nat := 0
  tail : Nat := 0
  head : Nat := 0
  fetched : Nat := 0
  posted : Nat := 0
  events : Nat := 0
  /-- the completions posted and not consumed, oldest first: true for an event entry -/
  kinds : List Bool := []
  error : Bool := false
  unsignalled : Nat := 0
  firstUnsignalled : Nat := 0
  fetchFails : Nat := 0
  /-- descriptors found by a scan and not yet fetched: the tail it took, its instant, DBG_DEADLINE then (R355, R468) -/
  found : List (Nat × Nat × Nat) := []
  /-- the TAG of the DELETE_QP that waits for this queue pair -/
  deletedBy : Option Nat := none
  deriving DecidableEq, Repr

/-- How far a command has come. -/
inductive CtxPhase where
  /-- accepted under R338, not yet executed -/
  | fetched
  /-- passed R354, waiting or running -/
  | running
  deriving DecidableEq, Repr

/-- A command context (R20): the descriptor and the progress of its command. -/
structure Ctx where
  fn : Nat
  qpid : Nat
  d : Desc
  foundAt : Nat := 0
  deadline : Nat := 0
  phase : CtxPhase := .fetched
  started : Bool := false
  accepted : Bool := false
  qpErr : Bool := false
  /-- blocks delivered, verified or read so far, and the flags and counts gathered for the completion (R356) -/
  done : Nat := 0
  flags : Nat := 0
  count1 : Nat := 0
  count2 : Nat := 0
  /-- for READ: the blocks written to the host before the command ends, by offset, with the content written last (R17) -/
  sent : List (Nat × Nat) := []
  /-- for COMMIT: the write-buffer entries it covers -/
  covers : List Nat := []
  /-- for SCRUB: the HAF clusters read -/
  reads : Nat := 0
  /-- for a durable FLOE_DURABLE WRITE: the stripes (set, number) that must be protected first; for a FLOE_REBUILD with WAIT: its set -/
  stripes : List (Nat × Nat) := []
  deriving DecidableEq, Repr

/-- A completion or event entry on its way through the merger (R13, R340, R343). -/
structure Cpl where
  fn : Nat
  qpid : Nat
  tag : Nat
  status : Nat := 0
  flags : Nat := 0
  res0 : Nat := 0
  res1 : Nat := 0
  urgent : Bool := false
  event : Bool := false
  qpErr : Bool := false
  ver : Nat := 3
  foundAt : Nat := 0
  time : Nat := 0
  service : Nat := 0
  deriving DecidableEq, Repr

/-- An event entry waiting in the store of its function (R343). -/
structure EvEntry where
  code : Nat
  qpid : Nat := 0
  detail : Nat := 0
  deriving DecidableEq, Repr

/-- Where a WRITE stands between the buffer and the disc. -/
inductive WbPhase where
  /-- fetched, data not all in the buffer -/
  | fetching
  /-- every block in the buffer (R359) -/
  | accepted
  /-- a write run has sent its first pulse descriptor (R368) -/
  | writing
  /-- every frame on disc, commit record pending in the next append -/
  | committing
  deriving DecidableEq, Repr

/-- A WRITE held in the DRAM write buffer (R24, R359). -/
structure WbEntry where
  id : Nat
  fn : Nat
  qpid : Nat
  tag : Nat
  mn : Nat
  lba : Nat
  count : Nat
  key : Nat := 0
  atomic : Bool := false
  atomicId : Nat := 0
  buffered : Bool := false
  floeDurable : Bool := false
  phase : WbPhase := .fetching
  /-- the blocks as the XTS engine leaves them -/
  data : List Nat := []
  /-- the data clusters reserved for it at acceptance: layer x 2^20 + cluster, in the order of its blocks -/
  clusters : List Nat := []
  /-- a write of the device's own: the set, stripe and member of a parity unit, or of a data unit that a repair or rebuild moves; FN is then 256 -/
  stripe : Option (Nat × Nat × Nat) := none
  reloc : Bool := false
  /-- of a moved unit: the place it moves from (a repair), or the extents it takes as LBA, COUNT, first block (a rebuild) -/
  movedFrom : Option Nat := none
  remap : List (Nat × Nat × Nat) := []
  deriving DecidableEq, Repr

/-- The losses recorded for a function on a mechanism (R360). -/
structure LossRec where
  tags : List Nat := []
  count : Nat := 0
  deriving DecidableEq, Repr

/-- A key slot (R357, R374). -/
structure KeySlot where
  mode : Nat := 0
  tweakHi : Nat := 0
  key1 : Nat := 0
  key2 : Nat := 0
  deriving DecidableEq, Repr

/-- What no register shows of a function: its BAR0 bus master enable, a stop under way, a fence waiting for it, its poll interval, and
whether the kind 2 or kind 3 power event of R474 is still owed to it. -/
structure FnX where
  busMaster : Bool := true
  stopping : Bool := false
  fencePending : Bool := false
  pollUs : Nat := 1
  owes2 : Bool := true
  owes3 : Bool := false
  /-- when the poller last scanned it (R334), and the queue pair that had its last fetch turn (R335) -/
  scanAt : Nat := 0
  lastQ : Nat := 65535
  scanDue : Bool := false
  dbPages : List Nat := []
  deriving DecidableEq, Repr

/-- The descriptor fetches of a host port (R335, R336): the function and queue pair that have the turn, the descriptors taken in it, the queue-pair
turns the function has had, and the fetch under way with the instant of its issue. -/
structure FetchX where
  fn : Nat := 0
  qpid : Nat := 0
  run : Nat := 0
  turns : Nat := 0
  issued : Option (Nat × Nat × Nat) := none
  deriving DecidableEq, Repr

/-- The host side. -/
structure HostState where
  fetch : Tab FetchX := []
  fnx : Tab FnX := []
  qps : Tab Qp := []
  cmds : List Ctx := []
  merge : List Cpl := []
  held : List Cpl := []
  events : Tab (List EvEntry) := []
  msix : Tab Nat := []
  wbuf : List WbEntry := []
  nextWb : Nat := 0
  losses : Tab LossRec := []
  keys : Tab KeySlot := []
  lastHeartbeat : Nat := 0
  deriving DecidableEq, Repr

/-! ### Power grants (spec/11) -/

/-- The grants one mechanism holds, in mW (R302, R303); none is "not held". -/
structure Grants where
  seek : Option Nat := none
  write : Option Nat := none
  spin : Option Nat := none
  spinup : Option Nat := none
  /-- when the SPINUP part was granted, 0 while none is held -/
  spinupAt : Nat := 0
  /-- SPINUP_LONG has been set for it -/
  spinupLong : Bool := false
  deriving DecidableEq, Repr

/-- A deferred request (R306 to R309). Class codes are those of R302; `who` is the MN, or the port for LINK. -/
structure PowerReq where
  cls : Nat
  who : Nat
  dom : Nat
  mw : Nat
  /-- the SPIN part of the amount, for START and RISE, and the new TARGET of a RISE, rpm x 4 -/
  spinPart : Nat := 0
  rpm4 : Nat := 0
  prio : Nat := 0
  at_ : Nat := 0
  /-- the command it serves, as FN and TAG -/
  forCmd : Option (Nat × Nat) := none
  aged : Bool := false
  /-- AGED has been set for it (R309) -/
  agedOnce : Bool := false
  deriving DecidableEq, Repr

/-- A BIST request or grant (R315). -/
structure BistReq where
  cls : Nat
  index : Nat
  mw : Nat
  deriving DecidableEq, Repr

/-- The Breath arbiter. `spinBefore` keeps the SPIN part a RISE replaced (R316); `link` the LINK grant of a port and the domain it was
charged to; `bistAt` the last BIST grant (R315); `tickAt` the last 100 us update; `longAt` since when a domain has been overdrawn at full throttling and
`excessAt` since when a mechanism has drawn a quarter too much, each with whether its event has been set (R313, R314); `meas` the last supply voltage (mV)
and current (mA) reported and when; `sums` the last sums of a domain's measured powers, newest first (R312). -/
structure BreathState where
  grants : Tab Grants := []
  spinBefore : Tab Nat := []
  link : Tab (Option (Nat × Nat)) := []
  reqs : List PowerReq := []
  bistHeld : List BistReq := []
  bistReqs : List BistReq := []
  bistAt : Option Nat := none
  tickAt : Nat := 0
  longAt : Tab (Option (Nat × Bool)) := []
  excessAt : Tab (Option (Nat × Bool)) := []
  meas : Tab (Nat × Nat × Nat) := []
  sums : Tab (List Nat) := []
  standing : Tab Bool := []
  deriving DecidableEq, Repr

/-! ### Mechanisms (spec/02) -/

/-- A tray or clamp move (R185): 1 close, 2 open, 3 clamp, 4 release; its start; the drive record in force then (R162); since when its target switch or
clamp state has been read, if it is. -/
structure TrayX where
  kind : Nat
  start : Nat
  dr : List Nat := []
  since : Option Nat := none
  deriving DecidableEq, Repr

/-- What no register shows of a mechanism. -/
structure MechX where
  /-- the bridge status bits last received (spec/03 "Upstream servo slot") -/
  trayIn : Bool := false
  trayOut : Bool := false
  clamped : Bool := false
  disc : Bool := false
  lsup : Bool := false
  /-- the MECH_CFG value in force (R55) -/
  cfgEff : Word := 0x200
  /-- instants of the FAULTED-action faults of the sliding window (R49) -/
  faultTimes : List Nat := []
  /-- since when no command is queued or running (R43, R44) -/
  idleSince : Nat := 0
  /-- when the last READ, WRITE, VERIFY or SCRUB, or write run, of it ended (R211) -/
  ioEnd : Nat := 0
  /-- since when the mechanism waits for a servo position, if it does (R44, R564), and whether a tray or clamp move waits (R185) -/
  waitSlot : Option Nat := none
  waitTray : Option Nat := none
  /-- the spindle stop of a spin-down has been issued (R45); a spin-down is under way -/
  stopIssued : Bool := false
  spinDown : Bool := false
  /-- the laser-supply mismatch of the present permit drop has been reported, and LASER_EN is held 0 for it (R506) -/
  lsupReported : Bool := false
  lsupHeld : Bool := false
  /-- the DISC_ID of the mounted disc, 0 for none or BD (R364) -/
  discId : Nat := 0
  /-- when the drive last stopped, none while it is not known, and when the drop last trained (R167, R178) -/
  driveStop : Option Nat := none
  attachedAt : Nat := 0
  /-- a polarity test is owed at the next track-on (R139) -/
  polarityDue : Bool := true
  /-- the scales of IDENT: uA and uV per bridge count (R163) -/
  scaleI : Nat := 1
  scaleV : Nat := 1
  /-- a tray or clamp move under way, and since when TRAY_IN and TRAY_OUT have both been read active, if they are (R185, R186) -/
  tray : Option TrayX := none
  trayBoth : Option Nat := none
  /-- when the short brake that ends a drive has lasted SHORT_MS (R176, R177) -/
  shortUntil : Nat := 0
  /-- of the speed plan (R173): the stream's start, since when the READs' unread data has exceeded a HAF cluster, if it does, the rate that READ
  completions have delivered, averaged, in bytes a second, and when it was formed -/
  streamAt : Nat := 0
  backlogAt : Option Nat := none
  drain : Nat := 0
  drainAt : Nat := 0
  /-- fleet telemetry (spec/13): blocks read and written, sectors recovered by the outer code or retry, sectors left unreadable, sectors
  reconstructed, ns spent servo-active, and since when it is -/
  tlRead : Nat := 0
  tlWrite : Nat := 0
  tlOuter : Nat := 0
  tlUnread : Nat := 0
  tlRecon : Nat := 0
  activeNs : Nat := 0
  activeAt : Option Nat := none
  /-- the layer that the spin-up under way acquires -/
  wantLayer : Nat := 0
  /-- a state command that ended before the transition it drives: opcode, FN, TAG (R355) -/
  orphan : Option (Nat × Nat × Nat) := none
  /-- a MOUNT from LOADED holds the disc's data and waits for its profile (R37) -/
  mountHeld : Bool := false
  deriving DecidableEq, Repr

/-! ### Penetal ports and drops (spec/03) -/

/-- Why a port waits for its LINK grant. -/
inductive LinkWant where
  | none | train | wake
  deriving DecidableEq, Repr

/-- A slot map change waiting for its epoch: PEN_SMAP entries and PEN_BMAP entries with their new dwords (R71). -/
structure MapChange where
  smap : List (Nat × Word) := []
  bmap : List (Nat × Word) := []
  deriving DecidableEq, Repr

/-- A drop waiting for a burst (R70). -/
structure BurstWait where
  drop : Nat
  down : Bool
  single : Bool
  deriving DecidableEq, Repr

/-- What no register shows of a port. Lanes 0 and 1 are RX0 and RX1, 2 and 3 TX0 and TX1. -/
structure PortX where
  want : LinkWant := .none
  /-- SEQ of the next frame (R74) -/
  seq : Nat := 0
  epoch : Nat := 0
  /-- an announced map change: ACT_SEQ and the change (R71); changes that came later wait -/
  mapNow : Option (Nat × MapChange) := none
  mapNext : MapChange := {}
  /-- an announced lane mode: the mode and its ACT_SEQ (R84) -/
  modeNext : Option (Nat × Nat) := none
  /-- RATE and PHASE in force (R66) -/
  rate : Nat := 2
  phase : Nat := 0
  /-- burst indices in the order of their grants (R85) -/
  burstOrder : List Nat := []
  waits : List BurstWait := []
  /-- lanes shut on over-current, each with the instant of the shutdown or of its last retry (R61) -/
  overCurrent : List (Nat × Nat) := []
  /-- when the port entered its PSTATE, began to run frames, lost lock (R59, R81, R82), and last held or changed what keeps it out of LOWPOWER (R87) -/
  stepAt : Nat := 0
  framesAt : Nat := 0
  lostAt : Option Nat := none
  busyAt : Nat := 0
  /-- when a receive lane was dropped or last tried, and since when the lane tried holds block lock (R86) -/
  tryAt : Nat := 0
  heldAt : Option Nat := none
  /-- SEQ of the downstream frame that started the present upstream frame, and frames since an upstream header (R74, R81) -/
  upSeq : Nat := 0
  sinceHeader : Nat := 0
  /-- the tick of the last frame, in 1/17 ns of device time, and the blocks per lane that the frames since the training have spanned (R65) -/
  tickAt : Option Nat := none
  blocks : Nat := 0
  /-- the lane mode changed and LOOP_NS has not been measured since (R78) -/
  remeasure : Bool := false
  deriving DecidableEq, Repr

/-- A management message: class and payload words (R75). -/
structure MgmtMsg where
  cls : Nat
  payload : List Nat := []
  deriving DecidableEq, Repr

/-- What no register shows of a drop, by MN. -/
structure DropX where
  /-- the management channel: next MSEQ to send, next expected, sent and not acknowledged, protocol errors in a row, resend rounds -/
  mseqTx : Nat := 0
  mseqRx : Nat := 0
  unacked : List MgmtMsg := []
  /-- messages not sent yet: 64 are unacknowledged, or the port runs no frames -/
  queued : List MgmtMsg := []
  protoErrs : Nat := 0
  rounds : Nat := 0
  /-- the fault code being reported, recorded once (R76), and the code a FACK is owed for -/
  faultSeen : Nat := 0
  fack : Option Nat := none
  /-- the drive fields last sent, for REPEAT (R77); before any, phases float -/
  drive : List Int := [0, 0, 0, 0, 0, 0, 0, 0, -32768, 0, 0, 0, 0, 0, 0]
  /-- telemetry items 0 to 7 as last received -/
  tlm : Tab Nat := []
  /-- the bridge is in its safe state -/
  safe : Bool := false
  /-- when the drop last sent a valid servo slot or a message (R81), and when the retrain of its downlink was requested (R82) -/
  heardAt : Nat := 0
  seekAt : Option Nat := none
  /-- the arrival of the servo slot that no actuator slot has answered (R77) -/
  dueAt : Option Nat := none
  deriving DecidableEq, Repr

/-! ### Cirque slots and their loops (spec/04, spec/05, spec/06) -/

/-- One loop of a slot: its two banks as 128 dwords (an empty list is an empty bank), histories `[x1, x2, y1, y2]` of each biquad, the last
o2 (`q`) and last output, the blend start H and the blend step (R97 to R107); `u`, `c` are the last input-stage and cascade values. -/
structure LoopX where
  active : List Nat := []
  shadow : List Nat := []
  hist : List (List Int) := []
  q : Int := 0
  last : Int := 0
  blendH : Int := 0
  blendK : Nat := 0
  u : Int := 0
  c : Int := 0
  /-- the next sample is the first of a new bank: x1 and x2 of the first biquad take its u (R107) -/
  fresh : Bool := false
  deriving DecidableEq, Repr

/-- A swap asked for: its mask, its source (1 shadow, 2 library), whether its loops have entered HOLD, whether ABORT ends it, and the sample periods
since the entry, missing samples included (R105, R106). -/
structure SwapX where
  mask : Nat
  src : Nat
  entered : Bool := false
  abort : Bool := false
  periods : Nat := 0
  deriving DecidableEq, Repr

/-- A handover or planned operation that runs (R113 to R122). `op` is 0 for an unplanned one, else the OP of CIRQ_HO_CMD; `lost` are the mechanisms
whose slots have lost a sample since the fault (R115). -/
structure HoX where
  src : Nat
  dst : Nat
  at_ : Nat := 0
  op : Nat := 0
  fmt : Nat := 0
  lost : List Nat := []
  deriving DecidableEq, Repr

/-- An operation of CIRQ_COEF_CMD that met a handover and completes after it: OP, MN, loop, and the record staged at the command. -/
structure CoefWait where
  op : Nat
  mn : Nat
  loop : Nat
  words : List Nat := []
  deriving DecidableEq, Repr

/-- A planned move of one slot (R110, R120). -/
structure MoveX where
  mn : Nat
  cluster : Nat
  slot : Nat
  deriving DecidableEq, Repr

/-- An injection generator that runs (R156): the phase and its increment, samples into the present step or hold, the LFSR, the last g. -/
structure InjX where
  phi : Nat := 0
  delta : Nat := 0
  n : Nat := 0
  lfsr : Nat := 0x7FFF
  g : Int := 0
  deriving DecidableEq, Repr

/-- A capture (R158): sample instants since arming, the points recorded oldest first (four values and a held mark), the points before the
trigger, the instant of the trigger, the engine's settings, and whether a SERVO_TEST owns generator and engine (R367). -/
structure CapX where
  ticks : Nat := 0
  points : List (List Int × Bool) := []
  before : Nat := 0
  trigTime : Nat := 0
  mn : Nat := 0
  loop : Nat := 0xFF
  injType : Nat := 0xFF
  periodNs : Nat := 0
  injGain : Nat := 0
  fmt : Nat := 0
  owner : Option (Nat × Nat) := none
  armed : Bool := false
  hit : Bool := false
  deriving DecidableEq, Repr

/-- The Cirque engine beside its registers: the coefficient library by class x 16 + loop x 2 + format, clusters whose slots are left
uncomputed, cluster faults toward FAULT_LIMIT, why a cluster tests (OP of R121, 0 after a fault), the microcode staged, generators and
captures by cluster, the sequence records, drive records and sled tables by class (R128, R162, R184). -/
structure CirqState where
  library : Tab (List Nat) := []
  uncomputed : List Nat := []
  faults : Tab Nat := []
  testOp : Tab Nat := []
  ho : Option HoX := none
  coefWait : Option CoefWait := none
  moves : List MoveX := []
  ucodeStaged : Nat := 0
  inj : Tab (Option InjX) := []
  cap : Tab CapX := []
  seqRec : Tab (List Nat) := []
  driveRec : Tab (List Nat) := []
  sledTbl : Tab (List Nat) := []
  deriving DecidableEq, Repr

/-- A linear ramp of an actuator output: from, to, start instant, duration in ns. -/
structure RampX where
  from_ : Int
  to_ : Int
  t0 : Nat
  dur : Nat
  deriving DecidableEq, Repr

/-- What an acquisition, jump or seek of a slot remembers (R129 to R141). `step` is the sequence step code of spec/05; `sub` is the row of
"Track-on" or the part of a jump; `attemptAt` the start of the running attempt, layer step or track-on. -/
structure SeqX where
  step : Nat := 0
  sub : Nat := 0
  attemptAt : Nat := 0
  attempts : Nat := 0
  returning : Bool := false
  afterJump : Bool := false
  reversed : Nat := 0
  target : Nat := 0
  jumpSign : Int := 0
  curves : Nat := 0
  inCurve : Bool := false
  lobe : Int := 0
  passed : Bool := false
  verify : Nat := 0
  sinceClose : Nat := 0
  jumpTracks : Int := 0
  jumpCount : Nat := 0
  seekRounds : Nat := 0
  landed : Nat := 0
  polStep : Nat := 0
  polNet : List Int := []
  /-- the command that a seek serves, as FN and TAG (R27, R141) -/
  cmd : Option (Nat × Nat) := none
  /-- on BD media, TRACKING is entered and the first sector header is still to be checked (R138) -/
  check : Bool := false
  deriving DecidableEq, Repr

/-- The crossing counter of R137: the side TEW last reached, samples since the last crossing, the last interval, the SUM samples of the last
64, whether SUM stood above their mean, the direction that the last fall of SUM gave, the sign of the last crossing. -/
structure CrossX where
  side : Int := 0
  since : Nat := 0
  interval : Nat := 0
  sums : List Int := []
  above : Bool := false
  dir : Int := 0
  deriving DecidableEq, Repr

/-- What SENSE measures of the back-EMF vector (R166): when it took its first and its last sample, angle and amplitude (uV) in the last one, and the angle
turned since the first, in 2^-32 of an electrical turn. -/
structure SenseX where
  from_ : Option Nat := none
  at_ : Nat := 0
  angle : Nat := 0
  turned : Int := 0
  mag : Nat := 0
  deriving DecidableEq, Repr

/-- The spindle side of a slot (R164 to R171). Angles are in 2^-32 of an electrical turn, speeds in 2^-16 of an electrical turn a second,
currents in uA, voltages in uV, the reference in 2^-16 rpm. -/
structure SpinX where
  theta : Int := 0
  omega : Int := 0
  iPrevA : Int := 0
  iPrevB : Int := 0
  vPrevA : Int := 0
  vPrevB : Int := 0
  intD : Int := 0
  intQ : Int := 0
  ref : Int := 0
  goal : Nat := 0
  forced : Int := 0
  forcedSpeed : Int := 0
  count : Nat := 0
  stall : Nat := 0
  period : Nat := 0
  noBrake : Bool := false
  noWin : Bool := false
  duties : List Int := [0, 0, 0, -32768]
  startAt : Option Nat := none
  reached : Bool := false
  obsTest : Bool := false
  mag : Nat := 0
  /-- when the present spindle state was entered, and when the observer's test began (R169) -/
  stateAt : Nat := 0
  obsAt : Nat := 0
  /-- the time of the start that counts toward SPINUP_MS (R167, R170) -/
  spinupNs : Nat := 0
  sense : SenseX := {}
  /-- since when the plan has differed from TARGET by more than HYST, if it does (R174) -/
  goalAt : Option Nat := none
  /-- a loop 7 record stands in the shadow bank for the next start sequence (R163) -/
  staged7 : Bool := false
  deriving DecidableEq, Repr

/-- The stepper generator of a slot: the position in 2^-16 microsteps, the velocity in 2^-16 microsteps a sample, since when it rests (R179, R180), its sine
table and one that waits for a full-step boundary (R184); the part of AMAX x T^2 below one count that the samples have left over, in 10^-18 of a count;
whether the last sample clipped a move (R182). -/
structure SledX where
  pos : Int := 0
  v : Int := 0
  restAt : Option Nat := none
  table : List Nat := []
  seekTgt : Option Int := none
  tableNew : List Nat := []
  left : Nat := 0
  clipped : Bool := false
  deriving DecidableEq, Repr

/-- The Sastrugi profile of a slot (R148 to R154): tables, scale, start of the entry ramp, whether theta is aligned; learning sums by bin
(focus, tracking, samples), whole revolutions counted, whether the running one is spoilt; revolutions whose residual was too large. -/
structure ProfX where
  sf : List Int := []
  st : List Int := []
  pscale : Nat := 0
  rampAt : Option Nat := none
  aligned : Bool := false
  learning : Bool := false
  bins : Tab (Int × Int × Nat) := []
  revBins : Tab (Int × Int × Nat) := []
  revs : Nat := 0
  spoilt : Bool := false
  resid : List (Int × Int) := []
  badRevs : Nat := 0
  capture : Tab (Int × Nat × Int) := []
  captured : Nat := 0
  /-- the angle captured so far, 2^32 per revolution (R154) -/
  capAngle : Nat := 0
  deriving DecidableEq, Repr

/-- A calibration run of space 0 while it measures (R194 to R197): item and layer; its phase with the time it began and the angle passed in it; the value of
the sweep; the amplitudes so far; of a tracking balance run the maximum and minimum since the last crossing, if there was one, and the intervals so far;
of SA_PRESET the sum and count of loop 4's outputs; of an OPC its test block. -/
structure CalRunX where
  item : Nat
  layer : Nat
  phase : Nat := 0
  t0 : Nat := 0
  ang : Int := 0
  j : Nat := 0
  ms : List Int := []
  span : Option (Int × Int) := none
  ivals : List (Int × Int) := []
  sum : Int := 0
  n : Nat := 0
  block : Nat := 0
  deriving DecidableEq, Repr

/-- What no register shows of a mechanism's slot; it follows the mechanism. `offs` are the offsets in force for loops 0, 1, 3 and 4 and the
ramp of each toward its new value: from, to, samples done (R135, R199). -/
structure ServoX where
  loops : Tab LoopX := []
  swap : Option SwapX := none
  /-- the loops that a swap has put in SOFT, by bit (R147) -/
  softMask : Nat := 0
  sq : List Nat := []
  /-- the drive record of the running start or stop sequence, of the speed plan, and of the sled's moves (R162) -/
  dr : List Nat := []
  drPlan : List Nat := []
  drSled : List Nat := []
  layer : Nat := 0
  lasers : Nat := 0
  prevFe : Int := 0
  seq : SeqX := {}
  cross : CrossX := {}
  ramp : Option RampX := none
  saRamp : Option RampX := none
  offFrom : List Int := [0, 0, 0, 0]
  offTo : List Int := [0, 0, 0, 0]
  offK : Nat := 0
  focLost : Nat := 0
  trkLost : Nat := 0
  focLosses : List Nat := []
  trkLosses : List Nat := []
  spin : SpinX := {}
  sled : SledX := {}
  prof : ProfX := {}
  /-- the first slot of the present holding has been received, and when (R72) -/
  first : Bool := false
  firstAt : Option Nat := none
  /-- the last two addresses read after a start (R172) -/
  addr : Option (DiscAddr × Nat) := none
  addrAt : Nat := 0
  /-- the tick, in 1/17 ns, of the sample at which θ last advanced (R148) -/
  thetaAt : Nat := 0
  addrDone : Bool := false
  /-- the calibration run that measures on the mechanism (R194, R195, R197), and that of SA_PRESET since the last focus lock (R196) -/
  run : Option CalRunX := none
  saRun : Option CalRunX := none
  deriving DecidableEq, Repr

/-- A calibration record (spec/07): D0 to D7 as the window shows them, consecutive failures by item, device time of the latest passed
run, the items whose runs are under way, the instant from which a failed item may run again (0 at once), items whose run a register or a
space 1 or 3 trigger forced, the T_RUN of each item (R190). -/
structure CalRec where
  d : List Nat := [0, 0, 0, 0, 0, 0, 0, 0]
  fails : List Nat := [0, 0, 0, 0, 0, 0]
  runTime : Nat := 0
  running : List Nat := []
  retryAt : List Nat := [0, 0, 0, 0, 0, 0]
  forced : List Nat := []
  tRun : List Int := [0, 0, 0, 0, 0, 0]
  deriving DecidableEq, Repr

/-- A Sastrugi profile record in DRAM (R153): tables in disc units, and the fields of the record's header that the device uses. -/
structure ProfRec where
  focus : List Int := []
  track : List Int := []
  revs : Nat := 0
  speed : Nat := 0
  rotorOfs : Nat := 0
  clampEpoch : Nat := 0
  mn : Nat := 0
  media : Nat := 0
  fresh : Bool := false
  deriving DecidableEq, Repr

/-! ### Firn lanes and Moraine (spec/08, spec/09) -/

/-- One channel bit of a beam: the interpolated output r (R220), its instant in 2^-28 samples of the beam's sample count, and whether its LLR is 0
(R225): it lies in a defect region, or the beam had no timing. -/
structure BitX where
  r : Int
  at_ : Nat
  hole : Bool
  deriving DecidableEq, Repr

/-- The oscillator of a beam (R220): the step Δ in samples per bit (U4.28), the next bit instant after the newest sample and bit instants so far, the last
bits newest first, the tentative decisions (1 or -1, with the defect mark of the bit) newest first, ε² of the bits that adapted (R219), how many did in the
present timing state, the bit at which the acquisition began, and the bits of the running defect region, 0 outside one. -/
structure OscX where
  delta : Nat := 0
  next : Int := 0
  k : Nat := 0
  bits : List BitX := []
  dec : List (Int × Bool) := []
  eps : List Nat := []
  inState : Nat := 0
  from_ : Nat := 0
  hole : Nat := 0
  deriving DecidableEq, Repr

/-- The framing of a beam (R228 to R231): the bit index of the frame's bit 0 as predicted or framed, whether the previous frame predicts it, whether the
frame is framed and assembled, the best place and distance of each sync mark so far, the LLRs formed (with whether each was zeroed) newest first, those
of data part A that backward recovery gave, and the layer, cluster and position of the frame on the disc. -/
structure FrameX where
  start : Int := 0
  chain : Bool := false
  taken : Bool := false
  best1 : Option (Int × Nat) := none
  best2 : Option (Int × Nat) := none
  llrs : List (Int × Bool) := []
  partA : List (Int × Bool) := []
  place : Option (Nat × Nat × Nat) := none
  deriving DecidableEq, Repr

/-- The windows of R232 on a beam: samples of the running one, its maximum and minimum, whether it is excluded; windows counted in the frame, and the sums
of their maxima and minima. -/
structure AmpX where
  n : Nat := 0
  hi : Int := 0
  lo : Int := 0
  bad : Bool := false
  count : Nat := 0
  his : Int := 0
  los : Int := 0
  deriving DecidableEq, Repr

/-- One beam of a lane beside its registers: gain (Q4.12), DC (1/256 count), samples since entry to SEARCH and in all, the last equaliser inputs, DC-removed
samples, equaliser outputs and flags of the defect detector newest first, the backward buffer (samples newest first, 256 added where OVLD stood, R230);
E_nom in 2^-16 count, samples in a row below the dropout threshold, samples since the last flagged one (R226); the former timing state of a HOLD, whether
the last frame was framed by a mark, the bridge gain code asked for, and the values of FIRN_RD_CFG, FIRN_AGC_CFG, FIRN_DEF_CFG, FIRN_SYNC_CFG in force
since the last entry to SEARCH (R242). -/
structure BeamX where
  g : Nat := 4096
  dc : Int := 0
  since : Nat := 0
  n : Nat := 0
  z : List Int := []
  ys : List Int := []
  qs : List Int := []
  flags : List Bool := []
  back : List Nat := []
  eNom : Int := 0
  low : Nat := 0
  clear : Option Nat := none
  held : Nat := 0
  framed : Bool := false
  gainCode : Nat := 0
  cfg : List Word := []
  osc : OscX := {}
  frm : FrameX := {}
  amp : AmpX := {}
  /-- the windows of a calibration run, and the asymmetries of the steps that its read-back has measured (R194, R197) -/
  meas : AmpX := {}
  betas : List Int := []
  /-- samples since the last framing decision (R213) -/
  quiet : Nat := 0
  /-- of the target of a migration: frames of this beam are the target's from here on (R212) -/
  took : Bool := false
  deriving DecidableEq, Repr

/-- A write run of a lane (R233): its write-buffer entry, the radius of its first bit in 2^-24 nm, the disc angle turned past the place of that bit (2^32 per
revolution, negative before it), the profile angle when it was last brought up to date, the level edges of each beam already sent, the last level of each
beam. -/
structure RunX where
  wb : Nat
  r0 : Nat
  ang : Int
  theta : Nat
  sent : List Nat := [0, 0, 0, 0]
  level : List Nat := [0, 0, 0, 0]
  /-- of an OPC, the segment that the bursts have reached (R197) -/
  opc : Option Nat := none
  /-- after a stop request (R239), the bit at which every beam emits L0, and the entry written, which the host may have withdrawn -/
  stop : Option Int := none
  rest : Option WbEntry := none
  deriving DecidableEq, Repr

/-- A lane beside its registers: its beams, the level bank in use and the one loaded and not yet in use (its bank), the two ends of a migration, the instant
of a stop request, faults toward FAULT_LIMIT, the test that runs (0 fault, 2 TEST, 3 RETEST, 4 BIST), whether it is bound for an access of the device's own,
what follows the migration away from it (0 FREE, 3 BIST test, 4 program update), the layer, cluster and position (0 to 7 on a beam) of the HAF frame that
passes under its head, none where no cluster is being read (R23), the SEQ of the last RF burst taken (R73), and its write run. -/
structure LaneX where
  beams : Tab BeamX := []
  bank : Nat := 0
  bankNext : Option Nat := none
  levels : List Nat := []
  migTo : Option Nat := none
  migFrom : Option Nat := none
  stopAt : Option Nat := none
  faults : Nat := 0
  testOp : Nat := 0
  own : Bool := false
  after : Nat := 0
  passing : Option (Nat × Nat × Nat) := none
  rfSeq : Option Nat := none
  run : Option RunX := none
  /-- the block of an OPC is read back (R197) -/
  opcRead : Bool := false
  /-- of a migration during a write, the clusters of the run written when it began (R212) -/
  migAt : Nat := 0
  /-- the clusters of the run written when the bridge was first seen to have acknowledged the bank loaded (R237) -/
  acked : Option Nat := none
  deriving DecidableEq, Repr

/-- Where a codeword stands. -/
inductive CwPlace where
  /-- its LLRs are being written into a ring entry -/
  | assembling
  /-- in a ring entry, complete -/
  | ready
  /-- in an SRAM slot, waiting for a decoder -/
  | staged
  /-- on decoder d -/
  | decoding (d : Nat)
  /-- parked -/
  | parked
  deriving DecidableEq, Repr

/-- A codeword of the LLR queue (spec/09 "Slot layout"). `id` counts them; `llrs` are its LLRs as recorded, `post` and `msgs` the posteriors and check-node
messages of a decoding that has begun (R258), else empty. -/
structure Codeword where
  id : Nat
  mn : Nat
  lane : Nat
  beam : Nat
  layer : Nat
  frame : Nat
  cluster : Nat
  flags : Nat := 0
  z : Nat := 0
  emap : Nat := 0
  matrix : Nat := 0
  set : Nat := 0
  time : Nat := 0
  place : CwPlace := .assembling
  iter : Nat := 0
  parks : Nat := 0
  wallFrom : Option Nat := none
  waitFrom : Nat := 0
  starved : Bool := false
  urgent : Bool := false
  llrs : List Int := []
  post : List (List Int) := []
  msgs : List (List Int) := []
  deriving DecidableEq, Repr

/-- A held matrix file (R255): identity, entries row-major, row order, load order. -/
structure MatrixX where
  id : Nat := 0
  entries : List Nat := []
  order : List Nat := []
  age : Nat := 0
  deriving DecidableEq, Repr

/-- One sector of a cluster being read: its 4,128 bytes when resolved, its verdict. -/
inductive SectorX where
  /-- no verdict yet -/
  | pending
  /-- resolved, with its 4,128 bytes -/
  | good (bytes : List Nat)
  /-- uncorrectable, erased, overflowed or missing -/
  | lost
  deriving DecidableEq, Repr

/-- A HAF cluster being read (R269, R270): its 32 sectors, the erasure map of each converged parity sector, reread revolutions so far. -/
structure ClusterRead where
  mn : Nat
  layer : Nat
  cluster : Nat
  sectors : List SectorX := []
  emaps : List Nat := []
  revs : Nat := 0
  /-- when its present revolution of rereading began (R270) -/
  revAt : Nat := 0
  done : Bool := false
  /-- sectors recovered by the outer code, by sector retry, by floe reconstruction -/
  outer : List Nat := []
  retry : List Nat := []
  recon : List Nat := []
  /-- status and result words of a reconstruction that failed (R294) -/
  reconFail : Option (Nat × Nat × Nat) := none
  deriving DecidableEq, Repr

/-- A commit record waiting for an append (R21, R274). -/
structure CommitRec where
  atomicId : Nat := 0
  atomic : Bool := false
  /-- LBA, COUNT, layer, cluster, block -/
  extents : List (Nat × Nat × Nat × Nat × Nat) := []
  /-- write-buffer entries that become durable with it -/
  wbs : List Nat := []
  deriving DecidableEq, Repr

/-- An extent entry of a MEMBER record on a parity member: the data member and LBA, COUNT, layer, cluster, block (R290). -/
structure MemberExt where
  member : Nat
  lba : Nat
  count : Nat
  layer : Nat
  cluster : Nat
  block : Nat
  deriving DecidableEq, Repr

/-- A mounted disc beside MECH_DISC (spec/09): identity, matrix, the extent map (LBA, COUNT, layer, cluster, block; later entries first),
GEN of the last append, the next map, profile and data clusters, appends since the last checkpoint, pending commit records, the append under
way, the SEQ of the profile zone, the next test block of each layer, clusters reported failed, PW_NOM and BETA_T of each layer, the next
writable block of a BD-R. -/
structure DiscX where
  matrix : Nat := 0
  dz : Nat := 0
  extents : List (Nat × Nat × Nat × Nat × Nat) := []
  gen : Nat := 0
  mapNext : Nat := 0
  profNext : Nat := 0
  dataNext : Tab Nat := []
  sinceCkpt : Nat := 0
  /-- GEN of the first append of the latest complete checkpoint, 0 for none (R273) -/
  ckptGen : Nat := 0
  commits : List CommitRec := []
  appending : List CommitRec := []
  profSeq : Nat := 0
  testNext : Tab Nat := []
  failed : List Nat := []
  leadIn : List (Nat × Int) := []
  zones : List (Nat × Nat) := []
  bdCapacity : Nat := 0
  bdNext : Nat := 0
  /-- on BD media, the channel bit length of the disc information, in pm (R241) -/
  bdBit : Nat := 0
  /-- MEMBER records of its journal: member, stripe, place of the unit as layer x 2^20 + cluster (R290) -/
  memberRecs : List (Nat × Nat × Nat) := []
  /-- on a parity member: the extents of the data members that its MEMBER records carry -/
  memberExts : List MemberExt := []
  deriving DecidableEq, Repr

/-- A stripe of a floe set (spec/10): its units as data member and place, when its first unit came, whether it is open, the bytes of its m
accumulators, the parity members that protect it, the blocks before the padding of each
unit, the parity members whose write is a resync. -/
structure StripeX where
  num : Nat
  units : List (Nat × Nat) := []
  opened : Nat := 0
  isOpen : Bool := false
  accs : List (List Nat) := []
  prot : List Nat := []
  lens : List (Nat × Nat) := []
  resync : List Nat := []
  deriving DecidableEq, Repr

/-- A rebuild (R296, R297): the member, the target mechanism, the next stripe, stripes done, units lost, whether it waits for members, the
command that waits for it. -/
structure RebuildX where
  member : Nat
  target : Nat
  next : Nat := 0
  done : Nat := 0
  lost : Nat := 0
  wait : Bool := false
  cmd : Option (Nat × Nat) := none
  deriving DecidableEq, Repr

/-- A data commit as MEMBER records carry it (R290): the data member, whether it moved units (RELOC), its units as stripe and place, its extents as LBA,
COUNT, layer, cluster, block, the parity members whose journals carry it. -/
structure MemberCommit where
  member : Nat
  reloc : Bool := false
  units : List (Nat × Nat) := []
  exts : List (Nat × Nat × Nat × Nat × Nat) := []
  carried : List Nat := []
  deriving DecidableEq, Repr

/-- A floe set: its members' DISC_IDs, stripes numbered so far, its stripes, the rebuild that runs, MEMBER, LOST, RESULT and stripes of the last
one, the next stripe of the background scrub, the state and the placement warning last reported, a delete that waits for open stripes (FN, TAG). -/
structure FloeSet where
  k : Nat := 0
  m : Nat := 0
  members : List Nat := []
  used : Nat := 0
  stripes : List StripeX := []
  rebuild : Option RebuildX := none
  last : Nat × Nat × Nat × Nat := (0, 0, 0, 0)
  scrubNext : Nat := 0
  scrubAt : Nat := 0
  state : Nat := 0
  warn : Bool := false
  deleting : Option (Nat × Nat) := none
  /-- the extents of the data members as the MEMBER records carry them, oldest first (R290) -/
  maps : List MemberExt := []
  /-- LAYERS of each member's disc as last mounted -/
  layers : Tab Nat := []
  memberCommits : List MemberCommit := []
  deriving DecidableEq, Repr

/-- A rebuilt unit that waits for its repair (R295): mechanism, place, its 28 blocks. -/
structure RepairX where
  mn : Nat
  at_ : Nat
  blocks : List Nat
  deriving DecidableEq, Repr

/-- The channel side of the device. -/
structure ChannelState where
  lanes : Tab LaneX := []
  taps : Tab (List Word) := []
  laneWait : List Nat := []
  cws : List Codeword := []
  nextCw : Nat := 0
  matrices : Tab MatrixX := []
  matrixAge : Nat := 0
  decTest : Tab Nat := []
  /-- when each decoder last completed a load, an iteration or a park (R266) -/
  decAt : Tab Nat := []
  reads : List ClusterRead := []
  discs : Tab DiscX := []
  /-- write strategy records set, by class x 4 + media (R234) -/
  strat : Tab (List Nat) := []
  repairs : List RepairX := []
  /-- channel bits read from a BD disc, newest first, each with whether it is erased (R240), by mechanism -/
  bdBits : Tab (List (Bool × Bool)) := []
  deriving DecidableEq, Repr

/-! ### Firmware, options, interlock (spec/16, spec/17, spec/18) -/

/-- A boot record copy (R462). -/
structure BootRec where
  seq : Nat := 0
  active : Nat := 0
  prev : Nat := 0
  trial : Bool := false
  tries : Nat := 0
  deriving DecidableEq, Repr

/-- An activation that runs (R463, R464, R488, R489): the FW_ACTIVATE it serves, the slot and image, whether it rolls back, whether the unit
that DBG_UPD_STAT shows has been started, and the units of the phase still to do: cores, clusters, lanes or decoders, or bridges by MN and
fan-outs as 4096 + port. -/
structure ActX where
  cmd : Option (Nat × Nat) := none
  slot : Nat
  image : FwImage
  rollback : Bool := false
  started : Bool := false
  todo : List Nat := []
  deriving DecidableEq, Repr

/-- A bridge or fan-out that restarts on a new image (R490): its MN (4096 + port for a fan-out), its image, when it was told to. -/
structure BfwX where
  mn : Nat
  image : BfwImage
  since : Nat := 0
  deriving DecidableEq, Repr

/-- Firmware: the images in slots A and B, the boot record copies, the version running on the cores, the staged image (bytes, component),
the activation that runs, the bridge package last activated and the bridge that restarts, instants of restarts of cause 1 to 4 by core, since when
every core runs the TRIAL image and its restarts. -/
structure FwState where
  slots : Tab (Option FwImage) := []
  recs : Tab (Option BootRec) := []
  running : Nat := 0
  staged : Nat := 0
  stagedComp : Nat := 0
  act : Option ActX := none
  package : Option FwImage := none
  bfw : Option BfwX := none
  restarts : Tab (List Nat) := []
  trialFrom : Option Nat := none
  trialFaults : Nat := 0
  deriving DecidableEq, Repr

/-- The interlock beside the SAFE registers: since when both channels read CLOSED, whether the 50 ms are complete, the disagreement (start, its
DISC_MS, whether a fault has been latched in it), the zones that re-arm, when the permit of each zone went low (R498 to R506); the last 16 samples of
each channel, latest first (before any, at the level of the pull), the bit of the patterns that is sampled next, and when the last was (R497). -/
structure IlkX where
  since : Option Nat := none
  held : Bool := false
  dis : Option (Nat × Nat × Bool) := none
  rearm : Nat := 0
  low : Tab Nat := []
  histA : List Bool := [false, false, false, false, false, false, false, false, false, false, false, false, false, false, false, false]
  histB : List Bool := [true, true, true, true, true, true, true, true, true, true, true, true, true, true, true, true]
  bit : Nat := 0
  bitAt : Nat := 0
  deriving DecidableEq, Repr

/-- An MCTP request: a control message, or a vendor-defined command (R530). -/
inductive MctpReq where
  | control (req : List Nat)
  | status
  | readRegister (offset : Nat)
  | telemetry (mn : Nat)
  | logEntries (seq count : Nat)
  deriving DecidableEq, Repr

/-- What follows once every supply group that a sequence switches off is off (R430, R434, R441, R449): HIBERNATE; THERMAL_OFF; a failed power-up of
group g, the n-th in a row; the 100 ms of a cold reset. -/
inductive OffGoal where
  | hibernate
  | thermal
  | failed (g n : Nat)
  | cycle
  deriving DecidableEq, Repr

/-- What the Drone domain's sequencer waits for (R434, R449, R487): the step to the next group that goes off; the end of the 100 ms for which a cold
reset holds the groups off; the end of the time for which a warm reset or a full-device window (with its result) holds the core-domain reset; the
STEP_US after a group is good; the 10 ms for which every power-good input must be high under board sequencing. -/
inductive DroneSeq where
  | off (g : OffGoal)
  | held
  | warm
  | window (fail : Bool) (unit channels durMs : Nat)
  | gap
  | good
  deriving DecidableEq, Repr

/-- Power, reset and thermal state of the Drone domain beside the DRN and RST registers (R425 to R445, R449 to R457, R471): failed power-ups in a
row; the group that a power-up under way waits for; whether it resumes from HIBERNATE and whether DRAM was kept; whether a retry waits its 1 s;
samples in a row at or above TSD; instants of managed shutdowns and trips of the last 24 h; the instant of the last trip; whether the limit of
R443 or R445 holds; whether the clock-failure reset is held; whether a fan register has been written; a wake source that came during HIB_ENTRY
(R446); the last value written to DBG_SUP_KICK; the OTP option slots programmed, as bytes; the strap value SMB_ADDR; TESTEN as sampled; the MCTP endpoint; the requests
held until a boot is complete (R539); whether the next boot owes the log entry of a crash record (R472); whether the boot under way has stopped on a
failed stage (R461); the sequencer and since when it waits; when the awaited group was enabled, the last power-up failed, the core-domain reset was
released, the core domain last kicked the supervisor or began to be watched (R471); when the ratio was last measured (R423), the idle conditions began
to hold (R426), DOZE_ENTRY and DOZE began, the last temperature sample, fan update and tach measurement were made (with the duty then), every
comparator came to read low enough for a restart (R442), no core was RUNNING any more (R448), and step 3 of R441 began to wait for the merger; whether THERM_TRIP_L is driven low (R444). -/
structure PowerX where
  tries : Nat := 0
  up : Option Nat := none
  resume : Bool := false
  keep : Bool := false
  retry : Bool := false
  hot : Nat := 0
  shutdowns : List Nat := []
  trips : List Nat := []
  tripAt : Nat := 0
  limit : Bool := false
  clkHold : Bool := false
  fanSet : Bool := false
  wakeDue : Nat := 0
  kick : Nat := 0
  otp : Tab (List Nat) := []
  smbAddr : Nat := 0
  testen : Bool := false
  eid : Nat := 0
  mctp : List MctpReq := []
  crashDue : Bool := false
  bootStop : Bool := false
  seq : Option (DroneSeq × Nat) := none
  upAt : Nat := 0
  retryAt : Nat := 0
  releasedAt : Nat := 0
  kickAt : Nat := 0
  ratioAt : Option Nat := none
  idleAt : Option Nat := none
  entryAt : Nat := 0
  dozeAt : Nat := 0
  sampleAt : Nat := 0
  fanAt : Nat := 0
  tachAt : Tab (Nat × Nat) := []
  coolAt : Option Nat := none
  noCoreAt : Option Nat := none
  drainAt : Option Nat := none
  tripLow : Bool := false
  deriving DecidableEq, Repr

/-- Self-test and debug state beside the DBG registers (R469, R482 to R487, R493): the online test that runs (class, index, whether commanded), the blocks that the round of the periodic test has still to test (places in its order) and when the round began, host ports held after a failed test, requester and target of
the last fabric action, whether the challenge is fresh; the console bytes taken from UART_RX (R532) and the balls that boundary scan drives (R533). -/
structure DbgX where
  test : Option (Nat × Nat × Bool) := none
  periodic : List Nat := []
  roundAt : Nat := 0
  deadPorts : List Nat := []
  fabric : Nat × Nat := (0, 0)
  fresh : Bool := false
  console : List Nat := []
  driven : List (Ball × Bool) := []
  deriving DecidableEq, Repr

/-- A trace record (R415). -/
structure TraceRec where
  type : Nat
  core : Nat
  icnt : Nat
  pc : Nat
  time : Nat
  deriving DecidableEq, Repr

/-- A word of the merge buffer of a bank (R387): the bytes written so far, the requester of the last write and the cycles since it. -/
structure MergeX where
  word : Nat
  mask : Nat
  value : Nat
  req : Nat
  idle : Nat
  deriving DecidableEq, Repr

/-- A bank port (R387, R394, R395): accesses that wait, in order of arrival; the access under way with the words it has left, and the one that the
debug port interrupted; the class last granted; the lines that port B has taken of each state partition, with the microsecond; the merge buffer; the
word last read. -/
structure BankX where
  waiting : List BankReq := []
  holder : Option BankReq := none
  paused : Option BankReq := none
  last : Nat := 7
  used : Tab (Nat × Nat) := []
  merge : List MergeX := []
  read : Nat := 0
  deriving DecidableEq, Repr

/-- A DRAM channel (R398 to R400): requests not yet in a bank queue, the bank queues, the open row and the consecutive hits of each bank, the bank last
picked, the class last admitted, the time of the last request. -/
structure ChanX where
  entering : List DramReq := []
  queues : Tab (List DramReq) := []
  rows : Tab (Option Nat) := []
  hits : Tab Nat := []
  lastBank : Nat := 0
  lastCls : Nat := 7
  lastAt : Nat := 0
  deriving DecidableEq, Repr

/-- A line of the Rime cache (R389, R403): address, content, the words whose check value reports them uncorrectable, dirty, recently used. -/
structure RimeLine where
  line : Nat
  data : Nat
  bad : Nat := 0
  dirty : Bool := false
  used : Bool := true
  deriving DecidableEq, Repr

/-- The Rime cache and the DRAM lines behind it (R389, R403 to R408): the ways of each set, the victim pointers, the side buffer and the eviction
buffer, oldest first (with whether the DRAM write is issued), the content of the lines in DRAM and the words there that carry an uncorrectable check
value. -/
structure RimeX where
  sets : Tab (List (Option RimeLine)) := []
  victim : Tab Nat := []
  side : List RimeLine := []
  evict : List (RimeLine × Bool) := []
  dram : Tab Nat := []
  bad : Tab Nat := []
  deriving DecidableEq, Repr

/-- Memory beside the MEM registers (R384 to R402, R416): SRAM words by bank x 2^18 + word (an unlisted word reads 0), corrected words not yet
written back, the next word of each patrol, the delays in force and the die temperature at the last apply of each DRAM channel, the DIMM
temperatures and when each channel was last refreshed, the trace buffer of each core with the records written so far; the bank ports, the DRAM channels
and the Rime cache, the time of the last DRAM request of a command, the code page that each core restarted with cause 2 waits for (R392), when each DMA
channel halted (R393) and each core last advanced its heartbeat (R411), when the sensor of
each DIMM was last read (R525), and when each patrol last read a word (R386). -/
structure MemX where
  sram : Tab Nat := []
  fix : List Nat := []
  sramNext : Nat := 0
  dramNext : Nat := 0
  delays : Tab (List Nat) := []
  applyTemp : Tab Int := []
  dimm : Tab Int := []
  refreshAt : Tab Nat := []
  trace : Tab (Tab (Option TraceRec)) := []
  traced : Tab Nat := []
  banks : Tab BankX := []
  chans : Tab ChanX := []
  rime : RimeX := {}
  touchedAt : Nat := 0
  pages : Tab (Option Nat) := []
  haltAt : Tab Nat := []
  hbAt : Tab Nat := []
  dimmAt : Tab Nat := []
  sramAt : Nat := 0
  dramAt : Nat := 0
  deriving DecidableEq, Repr

/-! ### The whole machine -/

/-- What the device has put on its wires: the model's own record, newest first, of what leaves toward hosts, bridges and pins. -/
inductive Output where
  /-- a completion entry written to host memory: its address and its 32 bytes (R13, R340) -/
  | completion (fn addr : Nat) (entry : List Nat)
  /-- an MSI-X message -/
  | msix (fn vector : Nat)
  /-- dwords or bytes written to host memory -/
  | hostWrite (fn : Nat) (addr : Nat) (data : List Nat)
  /-- a logical block written to host memory -/
  | hostBlock (fn lba data : Nat)
  /-- a management message to a drop (0x40 for the fan-out): class, payload -/
  | mgmt (port drop cls : Nat) (seq : Option (Nat × Nat)) (payload : List Nat)
  /-- an acknowledgement of management messages: the MSEQ the device expects next of an address (R75) -/
  | mgmtAck (port drop mack : Nat)
  /-- the safe actuator set with its spindle action (R47) -/
  | safeSet (mn stopMode : Nat)
  /-- a downstream actuator slot, as its 16 dwords (spec/03 "Downstream actuator slot") -/
  | actuator (mn : Nat) (dwords : List Nat)
  /-- a downstream frame: its header, the block at which it starts and the blocks per lane it spans (R65) -/
  | frame (port start blocks : Nat) (words : List Nat)
  /-- a map append written: mechanism, GEN, map cluster, the 114,688 bytes of its user data -/
  | append (mn gen cluster : Nat) (bytes : List Nat)
  /-- a downstream write burst: its header dwords and its 128-bit data words of pulse descriptors (R236) -/
  | writeBurst (mn : Nat) (header words : List Nat)
  /-- user data of a HAF cluster, or of a BD cluster, written to a disc: mechanism, place, blocks -/
  | discWrite (mn place : Nat) (blocks : List Nat)
  /-- an answer over the sideband -/
  | mctp (bytes : List Nat)
  /-- characters on UART_TX, each as its 10 bits: start, 8 data bits from the least significant on, stop (R532) -/
  | uart (frames : List (List Bool))
  /-- the bits of a scan on TDO (R533) -/
  | tdo (bits : List Bool)
  /-- a read answered Unsupported Request (R320) -/
  | unsupported (fn : Nat)
  /-- the data of a register read: address, dword -/
  | regData (addr : Nat) (value : Word)
  deriving DecidableEq, Repr

/-- The state of the device and the queue of waiting commands. -/
structure State where
  /-- commands waiting, first in first out -/
  pending : List Instr := []
  /-- every register, by address, where it differs from its reset value (R554) -/
  regs : Tab Word := []
  time : TimeState := {}
  log : LogState := {}
  evt : EvtState := {}
  host : HostState := {}
  breath : BreathState := {}
  mech : Tab MechX := []
  /-- the bridge serial number isolation has recorded for each mechanism (R50), in the Drone domain -/
  isol : Tab (Option Nat) := []
  port : Tab PortX := []
  drop : Tab DropX := []
  cirq : CirqState := {}
  servo : Tab ServoX := []
  cal : Tab CalRec := []
  profiles : Tab ProfRec := []
  chan : ChannelState := {}
  floe : Tab FloeSet := []
  fw : FwState := {}
  ilk : IlkX := {}
  pwr : PowerX := {}
  dbg : DbgX := {}
  memx : MemX := {}
  out : List Output := []
  /-- the model's own counter of free values taken (Config.freeNat) -/
  free : Nat := 0
  deriving DecidableEq, Repr

/-- The machine right after reset: every register at the value of spec/21_register_index.md, nothing held, nothing waiting. -/
def State.reset : State := {}

end Sys2Proof.Machine
end

