-- ==== Sys2Proof/Machine/Tab.lean ====
section
/-! DEFINITION. Reading and writing the sparse tables of State. A table lists only entries that differ from a default, by
strictly rising key: writing the default removes the entry, so equal contents are equal data. -/

namespace Sys2Proof.Machine

/-- The entry at key k, or the default. -/
def tabGet {α : Type} (t : Tab α) (k : Nat) (d : α) : α :=
  match t with
  | [] => d
  | (k', v) :: r => if k' = k then v else tabGet r k d

/-- The table with entry v at key k, keys kept rising. -/
def tabIns {α : Type} (t : Tab α) (k : Nat) (v : α) : Tab α :=
  match t with
  | [] => [(k, v)]
  | (k', v') :: r =>
    if k < k' then (k, v) :: (k', v') :: r
    else if k = k' then (k, v) :: r
    else (k', v') :: tabIns r k v

/-- The table without key k. -/
def tabDel {α : Type} (t : Tab α) (k : Nat) : Tab α := t.filter (fun e => e.1 != k)

/-- Write v at key k of a table whose unlisted entries read d. -/
def tabPut {α : Type} [DecidableEq α] (t : Tab α) (k : Nat) (v d : α) : Tab α :=
  if v = d then tabDel t k else tabIns t k v

/-- Change the entry at key k. -/
def tabMod {α : Type} [DecidableEq α] (t : Tab α) (k : Nat) (d : α) (f : α → α) : Tab α :=
  tabPut t k (f (tabGet t k d)) d

/-- The keys strictly rise. -/
def tabSorted {α : Type} : Tab α → Bool
  | [] => true
  | [_] => true
  | a :: b :: r => decide (a.1 < b.1) && tabSorted (b :: r)

end Sys2Proof.Machine
end

