-- ==== Sys2Proof/Machine/Ops.lean ====
section
/-! DEFINITION. The named operations over the register file, the error log, free values and the device's outputs. Every meaning
reads and writes registers through these. -/

namespace Sys2Proof.Machine

/-- The outcome of a meaning. -/
abbrev Out := Host.Outcome State Fault Refusal

/-! ### Registers and fields (R8, R10) -/

/-- The dword of register (i, j); an index that the array does not have reads as its reset value. -/
def State.rd (s : State) (r : Reg) (i j : Nat := 0) : Word := if r.has i j then tabGet s.regs (r.addr i j) (r.reset i j) else r.reset i j

/-- Replace the dword of register (i, j); there is nothing to write at an index that the array does not have. -/
def State.wr (s : State) (r : Reg) (i j : Nat) (v : Word) : State :=
  if r.has i j then { s with regs := tabPut s.regs (r.addr i j) v (r.reset i j) } else s

/-- The value of a field of register (i, j). -/
def State.get (s : State) (f : Fld) (i j : Nat := 0) : Nat := bitsOf (s.rd f.reg i j) f.lo f.width

/-- A one-bit field as a truth value. -/
def State.on (s : State) (f : Fld) (i j : Nat := 0) : Bool := s.get f i j == 1

/-- Put v, cut to the field's width, into a field of register (i, j); the register's other bits stay. -/
def State.set2 (s : State) (f : Fld) (i j v : Nat) : State :=
  s.wr f.reg i j (withBits (s.rd f.reg i j) f.lo f.width v)

/-- `set2` for a register with one index. -/
def State.set (s : State) (f : Fld) (i v : Nat) : State := s.set2 f i 0 v

/-- `set2` for a single register. -/
def State.set0 (s : State) (f : Fld) (v : Nat) : State := s.set2 f 0 0 v

/-- Set a field to v only when c holds. -/
def State.setIf (s : State) (c : Bool) (f : Fld) (i v : Nat) : State := if c then s.set f i v else s

/-- Set a one-bit event or status field. -/
def State.raise (s : State) (f : Fld) (i : Nat := 0) : State := s.set f i 1

/-- Add n to a counter field, saturating at its largest value (R480). -/
def State.bumpBy (s : State) (f : Fld) (i n : Nat) : State := s.set f i (min (s.get f i + n) (2 ^ f.width - 1))

/-- Add 1 to a counter field, saturating (R480). -/
def State.bump (s : State) (f : Fld) (i : Nat := 0) : State := s.bumpBy f i 1

/-- Add 1 to a counter field that wraps (R480). -/
def State.bumpWrap (s : State) (f : Fld) (i : Nat := 0) : State := s.set f i (s.get f i + 1)

/-- A 64-bit quantity held in a LO and a HI register. -/
def State.get64 (s : State) (lo hi : Fld) (i : Nat := 0) : Nat := s.get lo i + s.get hi i * 2 ^ 32

/-- Put a 64-bit quantity into a LO and a HI register. -/
def State.set64 (s : State) (lo hi : Fld) (i v : Nat) : State := (s.set lo i v).set hi i (v / 2 ^ 32)

/-! ### Free values, outputs, time -/

/-- Apply f over a list of indices. -/
def State.forEach {α : Type} (s : State) (l : List α) (f : State → α → State) : State := l.foldl f s

/-- Take a free value: any number at all. -/
def State.takeFree (s : State) : Nat × State := (Config.freeNat s.free, { s with free := s.free + 1 })

/-- Put a free value, cut to the field's width, into a field. -/
def State.setFree (s : State) (f : Fld) (i : Nat) : State := (s.takeFree.2).set f i s.takeFree.1

/-- Emit an output. -/
def State.emit (s : State) (o : Output) : State := { s with out := o :: s.out }

/-- Device time, ns (R423). -/
def State.now (s : State) : Nat := s.time.now

/-- A number of ms in ns. -/
def ms (n : Nat) : Nat := n * 1000000

/-- A number of us in ns. -/
def us (n : Nat) : Nat := n * 1000

/-- Device time moves in an idle step: while ACTIVE by one REFCLK_SYS cycle of 40 ns, in every other state by one Drone tick of DRN_TIME_RATIO ns in Q8.24
(R423, R424). -/
def State.tick (s : State) : State :=
  if s.get .DRN_PSTAT_STATE = 1 then { s with time := { s.time with now := (s.time.now + 40) % 2 ^ 64 } }
  else
    let t := s.time.frac + s.get .DRN_TIME_RATIO_RATIO
    { s with time := { s.time with now := (s.time.now + t / 2 ^ 24) % 2 ^ 64, frac := t % 2 ^ 24 } }

/-! ### DRAM self-refresh and delays (R400, R401) -/

/-- A quantity of n bits read as signed. -/
def signedField (n v : Nat) : Int := if v % 2 ^ n < 2 ^ (n - 1) then (v % 2 ^ n : Nat) else (v % 2 ^ n : Nat) - 2 ^ n

/-- The die temperature TMAX, 1/16 C. -/
def State.dieTemp (s : State) : Int := signedField 16 (s.get .DRN_THERM_STAT_TMAX)

/-- Channel ch loads the delays written to MEM_DDR_DLY as one action. -/
def State.applyDelays (s : State) (ch : Nat) : State :=
  let d := (List.range 10).map fun l => (s.rd .MEM_DDR_DLY ch l).toNat
  let pending := s.get .MEM_DDR_CMD_PENDING
  let s1 := { s with memx := { s.memx with delays := tabPut s.memx.delays ch d [], applyTemp := tabPut s.memx.applyTemp ch s.dieTemp 0 } }
  s1.set0 .MEM_DDR_CMD_PENDING (if bitAt pending ch = 1 then pending - 2 ^ ch else pending)

/-- A request to DRAM ends self-refresh on every channel, for addresses interleave across them (R396, R400); an apply that waited for the exit
takes place (R401). -/
def State.dramTouch (s0 : State) : State :=
  let s : State := { s0 with memx := { s0.memx with touchedAt := s0.now } }
  if s.get .MEM_DDR_STAT_IN_SR = 0 then s
  else
    let ch := s.get .MEM_DDR_CMD_CH
    let waits := s.on .MEM_DDR_CMD_BUSY && bitAt (s.get .MEM_DDR_STAT_IN_SR) ch == 1
    let s1 := s.set0 .MEM_DDR_STAT_IN_SR 0
    if waits then (s1.applyDelays ch).set0 .MEM_DDR_CMD_BUSY 0 else s1

/-! ### The error log (R475, R476, R478) -/

/-- What a log entry says; see spec/17_dependability.md "Error log entry". -/
structure LogArgs where
  cls : Nat
  code : Nat
  sev : Nat
  mn : Nat := 0xFFFF
  fn : Nat := 0xFFFF
  unit : Nat := 0xFFFF
  detail0 : Nat := 0
  detail1 : Nat := 0

/-- Entries of one class, code and MN already written in the running second. -/
def logCount (l : List ((Nat × Nat × Nat) × Nat)) (k : Nat × Nat × Nat) : Nat :=
  match l with
  | [] => 0
  | (k', n) :: r => if k' = k then n else logCount r k

/-- The counts with one more entry of k. -/
def logCountUp (l : List ((Nat × Nat × Nat) × Nat)) (k : Nat × Nat × Nat) : List ((Nat × Nat × Nat) × Nat) :=
  match l with
  | [] => [(k, 1)]
  | (k', n) :: r => if k' = k then (k', n + 1) :: r else (k', n) :: logCountUp r k

/-- Write one entry into the log, or count it as lost when its class, code and MN have had RATE entries in this second. -/
def State.logEntry (s : State) (a : LogArgs) : State :=
  let sec := s.now / 1000000000
  let counts := if sec = s.log.second then s.log.counts else []
  let k := (a.cls, a.code, a.mn)
  if logCount counts k < s.get .DBG_LOG_CFG_RATE then
    let seq := s.get .DBG_LOG_SEQ_VALUE
    let e : LogEntry := { time := s.now, seq := seq, cls := a.cls, code := a.code, sev := a.sev, mn := a.mn, fn := a.fn,
                          unit := a.unit, detail0 := a.detail0 % 2 ^ 32, detail1 := a.detail1 % 2 ^ 32 }
    let s1 := { s with log := { entries := tabIns s.log.entries (seq % 4096) e, second := sec, counts := logCountUp counts k } }
    let s2 := s1.bumpWrap .DBG_LOG_SEQ_VALUE
    if s.get .DBG_LOG_CFG_EVT_SEV ≤ a.sev then s2.raise .DBG_LOG_CFG_NEW else s2
  else
    ({ s with log := { s.log with second := sec, counts := counts } }).bump .DBG_LOG_LOST_VALUE

/-! ### Records of State -/

/-- Hidden record of mechanism n. -/
def State.mx (s : State) (n : Nat) : MechX := tabGet s.mech n {}

/-- Change the hidden record of mechanism n. -/
def State.modMech (s : State) (n : Nat) (f : MechX → MechX) : State := { s with mech := tabMod s.mech n {} f }

/-- Hidden record of function fn. -/
def State.fnx (s : State) (fn : Nat) : FnX := tabGet s.host.fnx fn {}

/-- The image that the cores run, where a slot holds it. -/
def State.runningImage (s : State) : Option FwImage :=
  let b := s.get .RST_FW_STAT_BOOTED
  if b < 2 then tabGet s.fw.slots b none else none

/-- Show the version of a block's program as the running image has it; a block loads it when a retest passes (R488). -/
def State.loadProgram (s : State) (f : Fld) (i : Nat) (v : FwImage → Nat) : State :=
  match s.runningImage with
  | some m => s.set f i (v m)
  | none => s

/-- The block is the one that an online test runs on, whose end is BIST_DONE (R482, R485). -/
def State.underBist (s : State) (cls i : Nat) : Bool := match s.dbg.test with
  | some (c, k, _) => c == cls && k == i
  | none => false

/-- The drop of mechanism n, or the fan-out before it, restarts after an update (R490). -/
def State.rebooting (s : State) (n : Nat) : Bool :=
  match s.fw.bfw with
  | some b => b.mn == n || b.mn == 4096 + n / 64
  | none => false

/-- Change one record of State: the event accounting, the interlock, power and reset, firmware, the power arbiter, floe sets, calibration, profiles. -/
def State.modEvt (s : State) (f : EvtState → EvtState) : State := { s with evt := f s.evt }
def State.modIlk (s : State) (f : IlkX → IlkX) : State := { s with ilk := f s.ilk }
def State.modPwr (s : State) (f : PowerX → PowerX) : State := { s with pwr := f s.pwr }
def State.modFw (s : State) (f : FwState → FwState) : State := { s with fw := f s.fw }
def State.modDbg (s : State) (f : DbgX → DbgX) : State := { s with dbg := f s.dbg }
def State.modBreath (s : State) (f : BreathState → BreathState) : State := { s with breath := f s.breath }
def State.modFloe (s : State) (f : Tab FloeSet → Tab FloeSet) : State := { s with floe := f s.floe }
def State.modCals (s : State) (f : Tab CalRec → Tab CalRec) : State := { s with cal := f s.cal }
def State.modProfiles (s : State) (f : Tab ProfRec → Tab ProfRec) : State := { s with profiles := f s.profiles }

/-- What no register shows of a port. -/
def State.px (s : State) (p : Nat) : PortX := tabGet s.port p {}
def State.modPort (s : State) (p : Nat) (f : PortX → PortX) : State := { s with port := tabMod s.port p {} f }

/-- Port p enters a PSTATE. -/
def State.portStep (s : State) (p k : Nat) : State := (s.set .PEN_STATUS_PSTATE p k).modPort p fun x => { x with stepAt := s.now }

/-- Change the host side. -/
def State.modHost (s : State) (f : HostState → HostState) : State := { s with host := f s.host }

/-- Change the hidden record of function fn. -/
def State.modFn (s : State) (fn : Nat) (f : FnX → FnX) : State :=
  s.modHost fun h => { h with fnx := tabMod h.fnx fn {} f }

end Sys2Proof.Machine
end

