-- ==== Sys2Proof/Machine/Flags.lean ====
section
/-! DEFINITION. Event conditions: which events are pending, the summary DBG_EVT_SUM of R473, and the registers that the manual
computes from others. -/

namespace Sys2Proof.Machine

/-- Some register of an event array has a bit set whose enable is set. -/
def State.anyEnabled (s : State) (ev en : Reg) : Bool :=
  s.regs.any fun e =>
    decide (ev.base ≤ e.1) && (e.1 - ev.base) % ev.stride == 0 && decide ((e.1 - ev.base) / ev.stride < ev.count) &&
      (e.2 &&& s.rd en ((e.1 - ev.base) / ev.stride)) != 0

/-- Some register of a one-index array is not zero. -/
def State.anyNonzero (s : State) (r : Reg) : Bool :=
  s.regs.any fun e =>
    decide (r.base ≤ e.1) && (e.1 - r.base) % r.stride == 0 && decide ((e.1 - r.base) / r.stride < r.count) && e.2 != 0

/-- The event register has a bit set whose enable is set. -/
def State.enabled1 (s : State) (ev en : Reg) : Bool := (s.rd ev &&& s.rd en) != 0

/-- Bit k of DBG_EVT_SUM: the event condition of source k (R473). -/
def State.evtBit (s : State) : Nat → Bool
  | 0 => s.anyNonzero .MECH_CHG
  | 1 => s.anyEnabled .PEN_EVENT .PEN_EVENT_EN
  | 2 => s.anyEnabled .CIRQ_EVENT .CIRQ_EVENT_EN
  | 3 => s.anyEnabled .FIRN_EVENT .FIRN_EVENT_EN
  | 4 => s.enabled1 .MOR_EVENT .MOR_EVENT_EN
  | 5 => s.enabled1 .FLOE_EVENT .FLOE_EVENT_EN
  | 6 => s.enabled1 .BRTH_EVENT .BRTH_EVENT_EN
  | 7 => s.enabled1 .HQP_EVENT .HQP_EVENT_EN
  | 8 => s.enabled1 .MEM_EVENT .MEM_EVENT_EN || s.enabled1 .MCORE_EVENT .MCORE_EVENT_EN
  | 9 => s.enabled1 .DRN_EVENT .DRN_EVENT_EN || s.rd .DRN_GPIO_EVENT != 0
  | 10 => s.enabled1 .SAFE_EVENT .SAFE_EVENT_EN
  | 11 => s.on .DBG_LOG_CFG_NEW
  | 12 => s.on .DBG_BIST_STAT_FAIL_NEW || s.on .DBG_WIN_STAT_NEW
  | 13 => s.on .DBG_UPD_STAT_DONE
  | _ => false

/-- DBG_EVT_SUM (R473). -/
def State.evtSum (s : State) : Nat := (List.range 14).foldl (fun a k => a + b2n (s.evtBit k) * 2 ^ k) 0

/-- The enabled bits of DBG_EVT_SUM. -/
def State.evtOn (s : State) : Nat := Nat.land s.evtSum (s.get .DBG_EVT_EN_SRC)

end Sys2Proof.Machine
end

