-- ==== Sys2Proof/Machine/Host.lean ====
section
/-! DEFINITION. The shared operations of the host side: queue pairs, the completion merger, event entries, steward events and the end of
every meaning (spec/12_host_ports_and_rings.md R343 to R349, spec/17_dependability.md R473). -/

namespace Sys2Proof.Machine

/-- The key of queue pair q of function fn. -/
def qpKey (fn q : Nat) : Nat := fn * 65536 + q

def State.qp (s : State) (fn q : Nat) : Qp := tabGet s.host.qps (qpKey fn q) {}

def State.modQp (s : State) (fn q : Nat) (f : Qp → Qp) : State :=
  s.modHost fun h => { h with qps := tabMod h.qps (qpKey fn q) {} f }

/-- Queue pairs of a function. -/
def State.qpsOf (s : State) (fn : Nat) : Nat :=
  (s.host.qps.filter fun e => e.2.live && e.1 / 65536 == fn).length

/-- Device tags a function holds: one for each outstanding command. -/
def State.tagsOf (s : State) (fn : Nat) : Nat := (s.host.cmds.filter fun c => c.fn == fn).length

/-- Entries of host port p in the merger queue. -/
def State.partCount (s : State) (p : Nat) : Nat := (s.host.merge.filter fun c => c.fn / 64 == p).length

/-- A result enters the merger queue at this instant, which is its TIMESTAMP_LO and ends its SERVICE_TIME (R341, R346). -/
def State.enterCpl (s : State) (c : Cpl) : State :=
  let n := s.partCount (c.fn / 64)
  let svc := if c.ver ≥ 2 && !c.event then min ((s.now - c.foundAt + 500) / 1000) 0xFFFFFFFF else 0
  let s1 := s.modHost fun h => { h with merge := h.merge ++ [{ c with time := s.now % 2 ^ 32, service := svc }] }
  let s2 := s1.set0 .HQP_MERGE_PEAK (max (s.get .HQP_MERGE_PEAK) (n + 1))
  if n + 1 = 512 then s2.raise .HQP_EVENT_MERGE_FULL else s2

/-- The merger accepts a result, or its source holds it while the partition of its port is full (R346). -/
def State.acceptCpl (s : State) (c : Cpl) : State :=
  if s.partCount (c.fn / 64) < 512 && !(s.host.held.any fun x => x.fn / 64 == c.fn / 64) then s.enterCpl c
  else s.modHost fun h => { h with held := h.held ++ [c] }

/-- Present a completion to the merger, or discard and count it when its function is stopping (R348). -/
def State.postCpl (s : State) (c : Cpl) : State :=
  if (s.fnx c.fn).stopping then s.bump .HQP_FN_DISCARD_COUNT c.fn else s.acceptCpl c

/-- The context of an outstanding command. -/
def State.ctx (s : State) (fn tag : Nat) : Option Ctx := s.host.cmds.find? fun c => c.fn == fn && c.d.tag == tag

def State.dropCtx (s : State) (fn tag : Nat) : State :=
  s.modHost fun h => { h with cmds := h.cmds.filter fun c => !(c.fn == fn && c.d.tag == tag) }

/-- Change the context of an outstanding command. -/
def State.modCtx (s : State) (fn tag : Nat) (f : Ctx → Ctx) : State :=
  s.modHost fun h => { h with cmds := h.cmds.map fun c => if c.fn == fn && c.d.tag == tag then f c else c }

/-- URGENT is defined in HQP 3 (R321). -/
def urgentOf (d : Desc) : Bool := d.ver ≥ 3 && bitAt d.flags 6 == 1

/-- A command completes: its context ends, its device tag is free, its completion goes to the merger. `flags` are bits [30:24] of R356. -/
def State.complete (s : State) (c : Ctx) (status flags r0 r1 : Nat) : State :=
  let s1 := s.dropCtx c.fn c.d.tag
  let busy := s1.host.cmds.any fun x => x.qpid != 0 && x.d.mn == c.d.mn
  let s2 := if c.qpid != 0 && !busy then s1.modMech c.d.mn fun m => { m with idleSince := s.now } else s1
  let io := (1 ≤ c.d.opcode ∧ c.d.opcode ≤ 3) ∨ c.d.opcode = 0x0B
  let s3 := if io then s2.modMech c.d.mn fun m => { m with ioEnd := s.now } else s2
  s3.postCpl { fn := c.fn, qpid := c.qpid, tag := c.d.tag, status := status, flags := flags, res0 := r0 % 2 ^ 32,
               res1 := r1 % 2 ^ 32, urgent := urgentOf c.d, qpErr := c.qpErr, ver := c.d.ver, foundAt := c.foundAt }

/-- An event entry for a function (R343): to its admin completion ring while one of the 8 entries kept for events is free there,
otherwise into its 64-entry store, whose oldest entry gives way. -/
def State.postEvent (s : State) (fn code qpid detail : Nat) : State :=
  if (s.fnx fn).stopping then s.bump .HQP_FN_DISCARD_COUNT fn
  else if (s.qp fn 0).live && decide ((s.qp fn 0).events < 8) then
    (s.modQp fn 0 fun q => { q with events := q.events + 1 }).acceptCpl
      { fn := fn, qpid := 0, tag := 0xFFFFFFFF, status := 0, event := true, res0 := code + qpid * 65536, res1 := detail % 2 ^ 32 }
  else
    let l := tabGet s.host.events fn []
    let e : EvEntry := { code := code, qpid := qpid, detail := detail % 2 ^ 32 }
    let put := fun (x : List EvEntry) => s.modHost fun h => { h with events := tabPut h.events fn x [] }
    if l.length < 64 then put (l ++ [e])
    else ((((put (l.drop 1 ++ [e])).raise .HQP_FN_STAT_EVT_LOST fn).raise .HQP_EVENT_EVT_LOST).logEntry
      { cls := 0x0A, code := 4, sev := 1, fn := fn, detail0 := 1 })

/-- Move waiting events of a function into the entries that its admin ring has free again. -/
def State.drainEvents : Nat → State → Nat → State
  | 0, s, _ => s
  | k + 1, s, fn =>
    match tabGet s.host.events fn [] with
    | [] => s
    | e :: r =>
      if (s.qp fn 0).live && decide ((s.qp fn 0).events < 8) then
        State.drainEvents k ((s.modHost fun h => { h with events := tabPut h.events fn r [] }).postEvent fn e.code e.qpid e.detail) fn
      else s

/-- Post a steward event entry, code 0x80, with the bits that rose (R473). -/
def State.postSteward (s : State) (bits : Nat) : State :=
  s.postEvent (s.get .HQP_STEWARD_STEWARD_FN) 0x80 0 bits

/-- Account for the enabled summary bits that have risen since the last accounting: posted at once when no gathering period runs and
there is a steward, gathered otherwise (R473). -/
def State.noteEvents (s : State) : State :=
  let on := s.evtOn
  let rose := Nat.land on (Nat.xor 0x3FFF s.evt.seen)
  let s1 := s.modEvt fun e => { e with seen := on }
  if rose = 0 then s1
  else if s.on .HQP_STEWARD_VALID && !s.evt.gathering then
    (s1.modEvt fun e => { e with gathering := true, since := s.now }).postSteward rose
  else s1.modEvt fun e => { e with gathered := Nat.lor e.gathered rose }

/-- The end of every meaning: the next state, with the steward events that the command raised accounted for. -/
def fin (s : State) : Out := .next s.noteEvents

/-- A wake source leaves DOZE_ENTRY or DOZE for WAKING, or meets one in WAKING: the lower code is recorded (R427, R429, R446). -/
def State.dozeWake (s : State) (src : Nat) : State :=
  match s.get .DRN_PSTAT_STATE with
  | 2 => ((s.set0 .DRN_PSTAT_STATE 4).set0 .DRN_PSTAT_LAST_WAKE src).set0 .DRN_PCTRL_BUSY 0
  | 3 => (s.set0 .DRN_PSTAT_STATE 4).set0 .DRN_PSTAT_LAST_WAKE src
  | 4 => s.set0 .DRN_PSTAT_LAST_WAKE (min src (s.get .DRN_PSTAT_LAST_WAKE))
  | _ => s

/-- No host reaches a register: HIBERNATE, THERMAL_STOP, THERMAL_OFF, TRIPPED, FAILED (R441, R556), or the core domain is in reset or its supplies are
switched (R454). -/
def State.closed (s : State) : Bool := (decide (6 ≤ s.get .DRN_PSTAT_STATE) && decide (s.get .DRN_PSTAT_STATE ≤ 10)) || s.pwr.seq.isSome

/-- A command given by a register write: it wakes a dozing device (R428), and no such write arrives while no host reaches a register. -/
def regCmd (s : State) (f : State → Out) : Out := if s.closed then fin s else f (s.dozeWake 2)

end Sys2Proof.Machine
end

