-- ==== Sys2Proof/Machine/Operands.lean ====
section
/-! DEFINITION. The submission descriptor: its bytes, the fields each opcode uses, and the nine checks of R338
(spec/12_host_ports_and_rings.md R338, R339; spec/13_command_set.md R352, R353). -/

namespace Sys2Proof.Machine

/-- Byte k of the command-specific bytes 0x30 to 0x3B. -/
def specByte (d : Desc) (k : Nat) : Nat := d.spec / 256 ^ k % 256

/-- The n bytes from byte k of the command-specific bytes, little-endian. -/
def specField (d : Desc) (k n : Nat) : Nat := d.spec / 256 ^ k % 256 ^ n

/-- Descriptor bytes 0x00 to 0x3D (R12). -/
def descBytes (d : Desc) : List Nat :=
  leBytes 1 d.opcode ++ leBytes 1 d.flags ++ leBytes 1 d.ver ++ leBytes 1 d.prio ++ leBytes 4 d.tag ++ leBytes 2 d.mn ++
  leBytes 2 d.key ++ leBytes 2 d.atomicId ++ leBytes 2 d.floeId ++ leBytes 8 d.lba ++ leBytes 4 d.count ++
  leBytes 4 d.deadlineMs ++ leBytes 8 d.dptr0 ++ leBytes 8 d.dptr1 ++ leBytes 12 d.spec ++ leBytes 2 d.rsvd

/-- The descriptor with the fields that version v does not define read as 0 (R321). -/
def versionView (v : Nat) (d : Desc) : Desc :=
  if v ≤ 1 then { d with flags := d.flags % 64, deadlineMs := 0, floeId := 0, dchk := 0 }
  else if v = 2 then { d with flags := d.flags % 64 + bitAt d.flags 7 * 128, floeId := 0 }
  else d

/-- The opcodes of R352 that an I/O queue pair takes. -/
def ioOpcode (o : Nat) : Bool := decide (1 ≤ o) && decide (o ≤ 0x0C)

/-- The opcodes of R352 that an admin queue pair takes. -/
def adminOpcode (o : Nat) : Bool := decide (0x80 ≤ o) && decide (o ≤ 0x8C)

/-- FLAGS [5:0] bits that an opcode defines (spec/13 "Command-specific fields"). -/
def flagMask (o : Nat) : Nat :=
  if o = 1 then 3 else if o = 2 then 7 else if o = 4 then 1 else if o = 9 then 1 else if o = 0x0B then 1 else if o = 0x8B then 1 else 0

/-- The opcode names a mechanism in TARGET [15:0] (scope and op bytes decide for some admin opcodes). -/
def namesMech (d : Desc) : Bool :=
  (decide (1 ≤ d.opcode) && decide (d.opcode ≤ 0x0C) && d.opcode != 0x0A) ||
  (d.opcode == 0x80 && specByte d 0 == 3) || d.opcode == 0x88 ||
  (d.opcode == 0x89 && specByte d 0 == 1) || d.opcode == 0x8A || (d.opcode == 0x8B && specByte d 0 == 3)

/-- The opcode uses FLOE_ID (R292, R379). -/
def usesFloe (o : Nat) : Bool := o == 1 || o == 2 || o == 3 || o == 0x0B || o == 0x8B

/-- Bytes of data that the opcode moves (R339), 0 for none. -/
def dataLen (d : Desc) : Nat :=
  if d.opcode = 1 ∨ d.opcode = 2 then d.count * 4096
  else if d.opcode = 5 then (if d.dptr0 = 0 then 0 else 64)
  else if d.opcode = 0x0C then 532544
  else if d.opcode = 0x80 then
    (if specByte d 0 = 0 then 4096 else if specByte d 0 = 2 then 512 else 64)
  else if d.opcode = 0x81 ∨ d.opcode = 0x82 ∨ d.opcode = 0x83 ∨ d.opcode = 0x84 ∨ d.opcode = 0x89 ∨ d.opcode = 0x8A then d.count
  else if d.opcode = 0x8B then (if specByte d 0 = 1 then d.count else 0)
  else 0

/-- Data bytes that a feature needs, for SET and for GET (R373); `none` for an unknown feature. -/
def featureLen (fid : Nat) (set : Bool) : Option Nat :=
  if fid = 1 then some 128 else if fid = 2 then some 128 else if fid = 3 then some 384 else if fid = 4 then some 4400
  else if fid = 5 then some 512 else if fid = 0x10 then some 0 else if fid = 0x20 then some (if set then 80 else 16) else none

/-- Check 4 of R338: no field that the opcode does not use is non-zero (R353), and every field is in its range. -/
def fieldsOk (d : Desc) : Bool :=
  let o := d.opcode
  let z := fun (b : Bool) (x : Nat) => b || x == 0
  d.rsvd == 0 && d.tag != 0xFFFFFFFF && decide (d.lba < 2 ^ 48 ∨ o = 0x0C) &&
  Nat.land (d.flags % 64) (0x3F - flagMask o) == 0 &&
  z (namesMech d) d.mn && decide (d.mn < 4096) &&
  z (o == 1 || o == 2) d.key && decide (d.key < 4096) &&
  z (o == 0x0C || (o == 2 && bitAt d.flags 0 == 1)) d.atomicId &&
  z (o == 0x0C || usesFloe o) d.floeId &&
  z (o == 1 || o == 2 || o == 3 || o == 9 || o == 0x0B || o == 0x0C || o == 0x81 || o == 0x84) d.lba &&
  z (o == 1 || o == 2 || o == 3 || o == 0x0B || o == 0x0C || (decide (0x81 ≤ o) && decide (o ≤ 0x84)) || o == 0x88 || o == 0x89 ||
     o == 0x8A || (o == 0x8B && specByte d 0 == 1)) d.count &&
  (match o with
   | 1 | 2 | 3 => decide (1 ≤ d.count ∧ d.count ≤ 4096) && d.spec == 0
   | 4 | 5 | 6 | 7 | 8 | 9 => d.spec == 0
   | 0x0A => d.spec / 256 ^ 6 == 0
   | 0x0B => decide (1 ≤ d.count) && d.spec == 0
   | 0x0C => decide (1 ≤ d.count ∧ d.count ≤ 65536)
   | 0x80 => decide (d.spec < 4)
   | 0x81 => decide (d.spec < 256) && decide (4 ≤ d.count ∧ d.count ≤ 16777216) && d.count % 4 == 0 && d.lba % 4 == 0
   | 0x82 | 0x83 => true
   | 0x84 => decide (d.spec < 2) && d.lba % 4096 == 0 && d.count % 4096 == 0 && decide (4096 ≤ d.count ∧ d.count ≤ 16777216)
   | 0x85 => decide (1 ≤ specByte d 0 ∧ specByte d 0 ≤ 3) && decide (specByte d 1 ≤ 1) && d.spec / 65536 == 0
   | 0x86 => specByte d 10 == 0 && specByte d 11 == 0
   | 0x87 => decide (d.spec < 65536)
   | 0x88 => (specByte d 1 == 0 || specByte d 1 == 1 || specByte d 1 == 3) && d.spec / 65536 == 0 &&
             decide (1 ≤ d.count ∧ d.count ≤ 4096) && decide (d.mn + d.count ≤ 4096)
   | 0x89 => decide (d.spec ≤ 2)
   | 0x8A => d.spec == 0
   | 0x8B => decide (1 ≤ specByte d 0 ∧ specByte d 0 ≤ 3) && d.spec / 65536 == 0
   | 0x8C => d.spec / 65536 == 0 && decide (specByte d 1 < 2)
   | _ => false)

/-- Pages that a transfer of len bytes from DPTR0 touches (R339). -/
def pagesOf (dptr0 len : Nat) : Nat := (dptr0 % 4096 + len + 4095) / 4096

/-- Check 6 of R338: the data pointers of R339 and R353. -/
def pointersOk (d : Desc) : Bool :=
  let len := dataLen d
  if d.opcode = 0x86 then d.dptr0 % 4096 == 0 && d.dptr1 % 4096 == 0
  else if len = 0 then d.dptr0 == 0 && d.dptr1 == 0
  else if d.opcode = 5 then d.dptr0 % 8 == 0 && decide (d.dptr0 % 4096 + 64 ≤ 4096) && d.dptr1 == 0
  else
    (if d.opcode = 1 ∨ d.opcode = 2 then d.dptr0 % 4096 == 0 else d.dptr0 % 8 == 0) &&
    decide (pagesOf d.dptr0 len ≤ 4096) &&
    (if pagesOf d.dptr0 len ≤ 1 then d.dptr1 == 0 else d.dptr1 % 4096 == 0)

/-- The command is reserved to the steward whatever its data say (R352, R373, R378). -/
def stewardOnly (d : Desc) : Bool :=
  d.opcode == 0x84 || d.opcode == 0x85 || d.opcode == 0x88 || d.opcode == 0x8B || d.opcode == 0x8C ||
  ((d.opcode == 0x82 || d.opcode == 0x83) && decide (1 ≤ specByte d 0 ∧ specByte d 0 ≤ 5)) ||
  (d.opcode == 0x89 && specByte d 0 != 1)

/-- The function is the steward PF. -/
def State.isSteward (s : State) (fn : Nat) : Bool := s.on .HQP_STEWARD_VALID && s.get .HQP_STEWARD_STEWARD_FN == fn

/-- The lease mode of a function on a mechanism: 3 for the steward PF, 0 without a lease (R329). -/
def State.leaseMode (s : State) (fn mn : Nat) : Nat :=
  if s.isSteward fn then 3
  else (List.range 4).foldl (fun a k =>
    if s.on .HQP_LEASE_VALID mn k && s.get .HQP_LEASE_FN mn k == fn then s.get .HQP_LEASE_MODE mn k else a) 0

/-- The lease mode an opcode needs on its mechanism (R329, R352): 0 none, 1 read, 3 full. -/
def leaseNeed (d : Desc) : Nat :=
  if d.opcode = 1 ∨ d.opcode = 3 ∨ d.opcode = 9 then 1
  else if d.opcode = 0x0A then 0
  else if d.opcode ≤ 0x0C then 3
  else if d.opcode = 0x80 ∧ specByte d 0 = 3 then 1
  else if d.opcode = 0x89 ∧ specByte d 0 = 1 then 3
  else 0

/-- Mode m is at least the mode needed. -/
def leaseOk (need m : Nat) : Bool := need == 0 || m == 3 || (need == 1 && m == 1)

/-- The key slot lies in the function's range (HQP_FN_KEYS). -/
def State.keyOk (s : State) (fn key : Nat) : Bool :=
  decide (s.get .HQP_FN_KEYS_BASE fn ≤ key ∧ key < s.get .HQP_FN_KEYS_BASE fn + s.get .HQP_FN_KEYS_COUNT fn)

/-- What the recovery image runs (R462): IDENTIFY, GET_LOG of the firmware slot log, FW_DOWNLOAD, FW_ACTIVATE, CREATE_QP, DELETE_QP. -/
def recoveryRuns (q : Nat) (d : Desc) : Bool :=
  q == 0 && (d.opcode == 0x80 || (d.opcode == 0x81 && specByte d 0 == 3) || (decide (0x84 ≤ d.opcode) && decide (d.opcode ≤ 0x87)))

/-- The opcode is one that the ring takes under the image that runs (R338, R462). -/
def State.opcodeOk (s : State) (q : Nat) (d : Desc) : Bool :=
  (if q = 0 then adminOpcode d.opcode else ioOpcode d.opcode) && (s.get .RST_FW_STAT_BOOTED != 2 || recoveryRuns q d)

/-- The nine checks of R338 in their order: the status of the first that fails, or none. -/
def State.checkDesc (s : State) (fn q : Nat) (d0 : Desc) : Option Nat :=
  let d := versionView (s.qp fn q).ver d0
  if d.ver ≠ (s.qp fn q).ver then some 0x0102
  else if bitAt d.flags 7 = 1 ∧ d.dchk ≠ crc16 (descBytes d0) then some 0x0103
  else if s.opcodeOk q d = false then some 0x0101
  else if fieldsOk d = false then some 0x0104
  else if (s.ctx fn d.tag).isSome then some 0x0105
  else if pointersOk d = false then some 0x0106
  else if stewardOnly d ∧ ¬ s.isSteward fn then some 0x0107
  else if (d.opcode = 1 ∨ d.opcode = 2) ∧ s.keyOk fn d.key = false then some 0x0503
  else if leaseOk (leaseNeed d) (s.leaseMode fn d.mn) = false then some 0x0501
  else none

/-- The default deadline of an opcode in seconds (R352, R468). -/
def State.defaultDeadline (s : State) (o : Nat) : Nat :=
  if o = 5 ∨ o = 6 ∨ o = 7 ∨ o = 8 then s.get .DBG_DEADLINE_MOUNT_S
  else if o < 0x80 then s.get .DBG_DEADLINE_IO_S else s.get .DBG_DEADLINE_ADMIN_S

end Sys2Proof.Machine
end

