-- ==== Sys2Proof/Machine/HostFns.lean ====
section
/-! DEFINITION. Host ports, functions, steward, fences, rings and completions: the commands of spec/12_host_ports_and_rings.md. -/

namespace Sys2Proof.Machine

/-! ### Steward and standby (R324 to R326) -/

/-- FN is a PF: f = 0. -/
def isPf (fn : Nat) : Bool := fn % 64 == 0

def State.isStandby (s : State) (fn : Nat) : Bool := s.on .HQP_STEWARD_STANDBY_VALID && s.get .HQP_STEWARD_STANDBY_FN == fn

/-- The log entry of a change of the standby: the present steward, or 0xFFFF for none, and HQP_STEWARD_TOKEN (log 0x0A.0x03). -/
def State.logStandby (s : State) : State :=
  s.logEntry { cls := 0x0A, code := 3, sev := 0, detail0 := if s.on .HQP_STEWARD_VALID then s.get .HQP_STEWARD_STEWARD_FN else 0xFFFF,
               detail1 := s.get .HQP_STEWARD_TOKEN_TOKEN }

/-- A PF loses the standby role. -/
def State.endStandby (s : State) : State :=
  if s.on .HQP_STEWARD_STANDBY_VALID then
    let fn := s.get .HQP_STEWARD_STANDBY_FN
    (((s.set0 .HQP_STEWARD_STANDBY_VALID 0).raise .HQP_EVENT_STEWARD_CHANGE).logStandby).postEvent fn 2 0 0
  else s

/-- A PF becomes steward with a token; `src` is HQP_STEWARD.SOURCE. After a period without a steward it receives one entry with every
enabled summary bit that reads 1 (R473). -/
def State.becomeSteward (s : State) (fn token src : Nat) : State :=
  let had := s.on .HQP_STEWARD_VALID
  let old := s.get .HQP_STEWARD_STEWARD_FN
  let s1 := if s.isStandby fn then s.set0 .HQP_STEWARD_STANDBY_VALID 0 else s
  let s2 := (((s1.set0 .HQP_STEWARD_VALID 1).set0 .HQP_STEWARD_STEWARD_FN fn).set0 .HQP_STEWARD_SOURCE src).set0
              .HQP_STEWARD_TOKEN_TOKEN token
  let s3 := (s2.raise .HQP_EVENT_STEWARD_CHANGE).modHost fun h => { h with lastHeartbeat := s.now }
  let s4 := s3.logEntry { cls := 0x0A, code := 3, sev := 0, fn := fn, detail0 := fn, detail1 := token }
  let s5 := if had && old != fn then s4.postEvent old 2 0 0 else s4
  let s6 := if had && old == fn then s5 else s5.postEvent fn 2 0 1
  if had then s6
  else
    let on := s6.evtOn
    let s7 := s6.modEvt fun e => { seen := on, gathering := e.gathering, gathered := 0 }
    if on = 0 then s7 else (s7.modEvt fun e => { e with gathering := true }).postSteward on

/-- The steward is lost: the standby takes the role in the same cycle if its token exceeds HQP_STEWARD_TOKEN (R326). -/
def State.loseSteward (s : State) : State :=
  if s.on .HQP_STEWARD_VALID then
    let old := s.get .HQP_STEWARD_STEWARD_FN
    if s.on .HQP_STEWARD_STANDBY_VALID && decide (s.get .HQP_STEWARD_TOKEN_TOKEN < s.get .HQP_STANDBY_TOKEN_TOKEN) then
      s.becomeSteward (s.get .HQP_STEWARD_STANDBY_FN) (s.get .HQP_STANDBY_TOKEN_TOKEN) 3
    else
      (((((s.set0 .HQP_STEWARD_VALID 0).set0 .HQP_STEWARD_SOURCE 0).raise .HQP_EVENT_STEWARD_LOST).raise
        .HQP_EVENT_STEWARD_CHANGE).logEntry
          { cls := 0x0A, code := 3, sev := 0, detail0 := 0xFFFF, detail1 := s.get .HQP_STEWARD_TOKEN_TOKEN }).postEvent old 2 0 0
  else s

/-- A PF that resets, disables or loses its bus master gives up either role (R325, R326). -/
def State.dropRoles (s : State) (fn : Nat) : State :=
  let s1 := if s.isStandby fn then s.endStandby else s
  if s1.isSteward fn then s1.loseSteward else s1

/-- FN_CLAIM_CMD: RESULT of an operation of function fn. -/
def State.claimResult (s : State) (fn r : Nat) : State := s.set .FN_CLAIM_CMD_RESULT fn r

def State.fenced (s : State) (fn : Nat) : Bool := s.on .HQP_FN_STAT_FENCED fn

/-- CLAIM (R325). -/
def execClaim (fn : FnIx) (s : State) : Out := regCmd s fun s =>
  let tok := s.get .FN_CLAIM_TOKEN_TOKEN fn
  let cur := s.get .HQP_STEWARD_TOKEN_TOKEN
  if !isPf fn || s.fenced fn then fin (s.claimResult fn 4)
  else if tok = 0 then fin (s.claimResult fn 2)
  else if (s.on .HQP_STEWARD_VALID && decide (tok ≤ cur)) || decide (tok < cur) then fin (s.claimResult fn 1)
  else fin ((s.becomeSteward fn tok 2).claimResult fn 0)

/-- STANDBY (R325). -/
def execStandby (fn : FnIx) (s : State) : Out := regCmd s fun s =>
  let tok := s.get .FN_CLAIM_TOKEN_TOKEN fn
  if !isPf fn || s.fenced fn then fin (s.claimResult fn 4)
  else if s.isSteward fn then fin (s.claimResult fn 3)
  else if tok = 0 then fin (s.claimResult fn 2)
  else
    let s1 := if s.isStandby fn then s else s.endStandby
    let s2 := ((s1.set0 .HQP_STEWARD_STANDBY_VALID 1).set0 .HQP_STEWARD_STANDBY_FN fn).set0 .HQP_STANDBY_TOKEN_TOKEN tok
    -- a PF that is standby already only changes its token
    let s3 := if s.isStandby fn then s2 else ((s2.raise .HQP_EVENT_STEWARD_CHANGE).logStandby).postEvent fn 2 0 2
    fin (s3.claimResult fn 0)

/-- RELEASE (R325, R326). -/
def execRelease (fn : FnIx) (s : State) : Out := regCmd s fun s =>
  if !isPf fn || s.fenced fn then fin (s.claimResult fn 4)
  else if s.isSteward fn then fin (s.loseSteward.claimResult fn 0)
  else if s.isStandby fn then fin (s.endStandby.claimResult fn 0)
  else fin (s.claimResult fn 3)

/-- HEARTBEAT (R325). -/
def execHeartbeat (fn : FnIx) (s : State) : Out := regCmd s fun s =>
  if !isPf fn || s.fenced fn then fin (s.claimResult fn 4)
  else if s.isSteward fn then
    fin ((s.modHost fun h => { h with lastHeartbeat := s.now }).claimResult fn 0)
  else fin (s.claimResult fn 3)

/-- STEWARD_HB_TIMEOUT: with HB_MS non-zero, no heartbeat for HB_MS loses the steward (R326). -/
def execStewardHbTimeout (s : State) : Out :=
  let hb := s.get .HQP_STEWARD_CFG_HB_MS
  if hb = 0 ∨ s.now < s.host.lastHeartbeat + ms hb then fin s else fin s.loseSteward

/-! ### Stopping a function (R348, R349) -/

/-- A WRITE that ends without a commit record leaves the buffer (R348, R355). -/
def State.dropWrite (s : State) (fn tag : Nat) : State :=
  s.modHost fun h => { h with wbuf := h.wbuf.filter fun w => !(w.fn == fn && w.tag == tag && !(w.buffered && w.phase != .fetching)) }

/-- Deferred power requests of a command are withdrawn (R310, R348). -/
def State.withdrawCmd (s : State) (fn tag : Nat) : State :=
  s.modBreath fun b => { b with reqs := b.reqs.filter fun r => r.forCmd != some (fn, tag) }

/-- The BAR0 registers of a function take their reset values (R560). -/
def State.resetBar0 (s : State) (fn : Nat) : State :=
  let b := 0x1000000 + fn * 0x10000
  { s with regs := s.regs.filter fun e => !(decide (b ≤ e.1) && decide (e.1 < b + 0x10000)) }

/-- The function has commands, completions or events in flight. -/
def State.fnWork (s : State) (fn : Nat) : Nat :=
  s.tagsOf fn + (s.host.merge.filter fun c => c.fn == fn).length + (s.host.held.filter fun c => c.fn == fn).length +
    (tabGet s.host.events fn []).length

/-- BAR4_ACCESS_DENIED: a PF that is not steward reads Unsupported Request; a write is discarded; both are counted (R320). Only a PF has BAR4. -/
def execBar4AccessDenied (fn : FnIx) (write : Bool) (s : State) : Out := regCmd s fun s =>
  if s.isSteward fn || !isPf fn then fin s
  else
    let s1 := s.raise .HQP_FN_STAT_BAR4_ERR fn
    fin (if write then s1 else s1.emit (.unsupported fn))

/-! ### Enabling a function (R322) -/

/-- The cause of FATAL at an enable, 0 for none (R322, FN_STAT.CAUSE). -/
def State.enableCause (s : State) (fn verReq : Nat) (table : Option (List Nat)) : Nat :=
  let lo := fun (f : Fld) => s.get f fn % 4096
  if verReq = 0 then 1
  else if lo .FN_AQ_SQ_LO_ADDR ≠ 0 ∨ lo .FN_AQ_CQ_LO_ADDR ≠ 0 ∨ lo .FN_DB_TBL_LO_ADDR ≠ 0 then 2
  else if s.get .FN_DB_TBL_CFG_PAGES fn = 0 then 3
  else match table with
    | none => 5
    | some _ => 0

/-- The admin queue pair as an enable creates it (R322, R344). -/
def State.adminQp (s : State) (fn ver : Nat) : Qp :=
  { live := true, ver := ver, sqBase := s.get64 .FN_AQ_SQ_LO_ADDR .FN_AQ_SQ_HI_ADDR fn,
    cqBase := s.get64 .FN_AQ_CQ_LO_ADDR .FN_AQ_CQ_HI_ADDR fn, sqLog2 := s.get .FN_AQ_CFG_SQ_LOG2 fn,
    cqLog2 := s.get .FN_AQ_CFG_CQ_LOG2 fn, vector := s.get .FN_AQ_CFG_VECTOR fn, aggThr := 1, aggUs := 0 }

/-- The power-state events owed to a function at its enable (R474). -/
def State.powerEvents (s : State) (fn : Nat) : State :=
  let x := s.fnx fn
  let s1 := if x.owes2 then s.postEvent fn 0x90 0 (2 + s.get .GLB_CAUSE_CAUSE % 2048 * 65536) else s
  let s2 := if x.owes3 then s1.postEvent fn 0x90 0 3 else s1
  s2.modFn fn fun f => { f with owes2 := false, owes3 := false }

/-- FN_ENABLE: FN_CTRL written with EN 1, once the function's bus master enable is set (R349). Ignored while the function is fenced or stopping; of an
enabled function the write sets VER_REQ alone, for its next enable (R10, R322, R328). -/
def execFnEnable (fn : FnIx) (verReq : Fin 8) (table : Option (List Nat)) (s : State) : Out := regCmd s fun s =>
  if s.fenced fn || (s.fnx fn).stopping then fin s
  else if s.on .FN_CTRL_EN fn then fin (s.set .FN_CTRL_VER_REQ fn verReq)
  else
    let s1 := (s.set .FN_CTRL_EN fn 1).set .FN_CTRL_VER_REQ fn verReq
    let cause := s1.enableCause fn verReq table
    if cause ≠ 0 then fin ((s1.raise .FN_STAT_FATAL fn).set .FN_STAT_CAUSE fn cause)
    else
      let ver := min verReq.val 3
      let s2 := (s1.modQp fn 0 fun _ => s1.adminQp fn ver).modFn fn fun f =>
        { f with busMaster := true, dbPages := (table.getD []).take (s.get .FN_DB_TBL_CFG_PAGES fn), pollUs := s.get .HQP_GCFG_POLL_MIN_US, scanAt := s.now }
      let s3 := (s2.set .FN_STAT_VER fn ver).raise .FN_STAT_RDY fn
      fin ((State.drainEvents 64 s3 fn).powerEvents fn)

/-! ### Doorbells and fetching (R333 to R337) -/

/-- A queue pair enters ERROR: it fetches nothing more; the commands fetched before carry QP_ERR (R337). -/
def State.qpError (s : State) (fn q cause : Nat) : State :=
  let s1 := s.modQp fn q fun x => { x with error := true }
  let s2 := s1.modHost fun h => { h with cmds := h.cmds.map fun c => if c.fn == fn && c.qpid == q then { c with qpErr := true } else c }
  let s3 := (s2.postEvent fn 1 q cause).raise .HQP_EVENT_QP_ERROR
  let s4 := s3.logEntry { cls := 0x0A, code := 1, sev := 2, fn := fn, detail0 := q, detail1 := cause }
  if q = 0 then (s4.raise .FN_STAT_FATAL fn).set .FN_STAT_CAUSE fn 4 else s4

/-- Completions of the queue pair posted and not consumed. -/
def outstandingPosted (q : Qp) : Nat := q.kinds.length

/-- Take one doorbell record (R333): the state, and whether new work was found. -/
def State.takeDoorbell (s : State) (fn q : Nat) (tail head : Nat) : State × Bool :=
  let x := s.qp fn q
  if !x.live || x.error then (s, false)
  else
    let new := (tail + 2 ^ 32 - x.tail) % 2 ^ 32
    let adv := (head + 2 ^ 32 - x.head) % 2 ^ 32
    let unfetched := (x.tail + 2 ^ 32 - x.fetched) % 2 ^ 32
    if 2 ^ x.sqLog2 < unfetched + new then (s.qpError fn q 2, false)
    else if outstandingPosted x < adv then (s.qpError fn q 3, false)
    else
      let freed := ((x.kinds.take adv).filter id).length
      let found := if new = 0 then x.found else x.found ++ [(tail, s.now, (s.rd .DBG_DEADLINE).toNat)]
      let s1 := s.modQp fn q fun y => { y with tail := tail, head := head, kinds := y.kinds.drop adv, events := y.events - freed, found := found }
      (s1, decide (new ≠ 0))

/-- A scan of the function's doorbell records is due: an attention write asked for it, or the poll interval has passed since the last one (R334). -/
def State.scanReady (s : State) (fn : Nat) : Bool :=
  let f := s.fnx fn
  s.get .DRN_PSTAT_STATE == 1 && s.on .FN_STAT_RDY fn && !s.fenced fn && !f.stopping &&
  (f.scanDue || decide (f.scanAt + 1000 * min f.pollUs (s.get .HQP_GCFG_POLL_MAX_US) ≤ s.now))

/-- Commands of the queue pair in the device, with their completions that are not in the ring yet. -/
def State.qpBusy (s : State) (fn q : Nat) : Nat :=
  let f := fun (c : Cpl) => c.fn == fn && c.qpid == q && !c.event
  (s.host.cmds.filter fun c => c.fn == fn && c.qpid == q).length + (s.host.merge.filter f).length + (s.host.held.filter f).length

/-- The device may fetch the next descriptor of the queue pair (R335, R337, R328). -/
def State.canFetch (s : State) (fn q : Nat) : Bool :=
  let x := s.qp fn q
  s.on .FN_STAT_RDY fn && !s.fenced fn && !(s.fnx fn).stopping && x.live && !x.error && x.deletedBy.isNone && x.fetched != x.tail &&
  decide (s.qpBusy fn q + (x.kinds.filter fun e => !e).length < 2 ^ x.cqLog2 - (if q = 0 then 8 else 0)) &&
  decide (s.tagsOf fn < s.get .HQP_FN_TAGQ_TAG_QUOTA fn) && decide (s.host.cmds.length < 262144)

/-! ### The order of fetches (R335) -/

def State.fetchX (s : State) (p : Nat) : FetchX := tabGet s.host.fetch p {}

def State.modFetch (s : State) (p : Nat) (f : FetchX → FetchX) : State := s.modHost fun h => { h with fetch := tabMod h.fetch p {} f }

/-- The next queue pair of a function that can fetch, after the one that had its last turn, in QPID order and from the admin queue pair on. -/
def State.nextQp (s : State) (fn : Nat) : Option Nat :=
  let l := ((s.host.qps.filter fun e => e.1 / 65536 == fn).map fun e => e.1 % 65536).filter (s.canFetch fn)
  match l.find? fun q => decide ((s.fnx fn).lastQ % 65535 < q ∨ (s.fnx fn).lastQ = 65535) with
  | some q => some q
  | none => l.head?

/-- The queue pair of port p whose descriptor is fetched next: the one that has the turn for up to 8 descriptors, then the next of its function for as
many turns as its WEIGHT, then that of the next function of the port. A turn of WEIGHT counts queue-pair turns: the model's choice
(notes/assumptions/109.md). -/
def State.nextFetch (s : State) (p : Nat) : Option (Nat × Nat) :=
  let x := s.fetchX p
  if 0 < x.run ∧ x.run < 8 ∧ s.canFetch x.fn x.qpid then some (x.fn, x.qpid)
  else
    let here := if x.fn / 64 = p ∧ x.turns < s.get .HQP_FN_CFG_WEIGHT x.fn then (s.nextQp x.fn).map fun q => (x.fn, q) else none
    match here with
    | some r => some r
    | none => ((List.range 64).map fun k => p * 64 + (x.fn % 64 + 1 + k) % 64).findSome? fun fn => (s.nextQp fn).map fun q => (fn, q)

/-- The fetch under way at port p: a new one is issued now when another queue pair is next. -/
def State.noteFetch (s : State) (p : Nat) : State :=
  let keep := fun (r : Nat × Nat) => match (s.fetchX p).issued with
    | some (f, q, t) => if f = r.1 ∧ q = r.2 then t else s.now
    | none => s.now
  let new := (s.nextFetch p).map fun r => (r.1, r.2, keep r)
  if (s.fetchX p).issued = new then s else s.modFetch p fun x => { x with issued := new }

/-- The fetch under way at port p has ended: queue pair q of function fn has had one more descriptor of its turn. -/
def State.fetchTaken (s : State) (fn q : Nat) : State :=
  let x := s.fetchX (fn / 64)
  let same := x.fn = fn ∧ x.qpid = q ∧ 0 < x.run ∧ x.run < 8
  let turns := if x.fn = fn ∧ x.turns < s.get .HQP_FN_CFG_WEIGHT fn then x.turns + 1 else 1
  let s1 := s.modFetch (fn / 64) fun _ =>
    if same then { x with run := x.run + 1, issued := none } else { fn := fn, qpid := q, run := 1, turns := turns, issued := none }
  s1.modFn fn fun f => { f with lastQ := q }

/-- The descriptor fetch of the queue pair that is under way, and whether FETCH_US has passed since its issue (R336). -/
def State.fetchLate (s : State) (fn q : Nat) : Option Bool :=
  match (s.fetchX (fn / 64)).issued with
  | some (f, k, t) => if f = fn ∧ k = q ∧ s.nextFetch (fn / 64) = some (fn, q) then some (decide (t + 1000 * s.get .HQP_GCFG_FETCH_US ≤ s.now)) else none
  | none => none

/-- DOORBELL_SCAN: every doorbell record of the function is read; the poll interval falls to its least after new work and doubles
otherwise (R333, R334). No scan runs for a function that is not ready, fenced or stopping, nor before it is due. -/
def execDoorbellScan (fn : FnIx) (recs : List (Nat × Word × Word)) (s : State) : Out :=
  if !s.scanReady fn then fin s
  else
    let r := recs.foldl (fun (a : State × Bool) x =>
      let b := a.1.takeDoorbell fn x.1 x.2.1.toNat x.2.2.toNat
      (b.1, a.2 || b.2)) (s, false)
    let lo := s.get .HQP_GCFG_POLL_MIN_US
    let hi := s.get .HQP_GCFG_POLL_MAX_US
    let s1 := r.1.modFn fn fun f => { f with pollUs := if r.2 then lo else min hi (f.pollUs * 2), scanDue := false, scanAt := s.now }
    fin ((State.drainEvents 64 s1 fn).noteFetch (fn / 64))

/-- The scan that found descriptor index i: its instant and the deadline defaults then in force. -/
def foundScan (l : List (Nat × Nat × Nat)) (i : Nat) : Nat × Nat :=
  match l with
  | [] => (0, 0)
  | (t, w, g) :: r => if (t + 2 ^ 32 - i) % 2 ^ 32 ≤ 65536 ∧ t ≠ i then (w, g) else foundScan r i

/-- The default deadline of an opcode in seconds under a DBG_DEADLINE value (R352, R468). -/
def deadlineS (o g : Nat) : Nat :=
  if o = 5 ∨ o = 6 ∨ o = 7 ∨ o = 8 then g / 2 ^ 20 % 1024 else if o < 0x80 then g % 1024 else g / 2 ^ 10 % 1024

/-- A fetched descriptor arrives, in the order of R335 and within FETCH_US: the nine checks of R338; a rejected descriptor completes at once, an accepted
one gets its context (R20, R355). -/
def State.takeDescriptor (s : State) (fn qpid : Nat) (d : Desc) : State :=
  if s.fetchLate fn qpid ≠ some false then s
  else
    let x := s.qp fn qpid
    let f := foundScan x.found x.fetched
    let v := versionView x.ver d
    let next := (x.fetched + 1) % 2 ^ 32
    let s1 := (s.fetchTaken fn qpid).modQp fn qpid fun y => { y with fetched := next, fetchFails := 0, found := y.found.filter fun e => e.1 != next }
    match s.checkDesc fn qpid d with
    | some st => (s1.postCpl { fn := fn, qpid := qpid, tag := d.tag, status := st, urgent := urgentOf v, ver := x.ver, foundAt := f.1 })
    | none =>
      let dl := if v.deadlineMs = 0 then ms (deadlineS d.opcode f.2 * 1000) else ms v.deadlineMs
      (s1.modHost fun h => { h with cmds := h.cmds ++ [{ fn := fn, qpid := qpid, d := v, foundAt := f.1, deadline := f.1 + dl }] }).modPwr fun p =>
        { p with idleAt := none }

/-- FETCH_TIMEOUT: the fetch under way returns an error (`err`), or FETCH_US has passed since its issue: it is issued again, and after FETCH_TRIES
consecutive failures the queue pair enters ERROR (R336). -/
def execFetchTimeout (fn : FnIx) (qpid : Nat) (err : Bool) (s : State) : Out :=
  match s.fetchLate fn qpid with
  | none => fin s
  | some late =>
    if !late && !err then fin s
    else
      let n := (s.qp fn qpid).fetchFails + 1
      let s1 := (s.modQp fn qpid fun y => { y with fetchFails := n }).modFetch (fn / 64) fun x => { x with issued := none }
      fin ((if s.get .HQP_GCFG_FETCH_TRIES ≤ n then s1.qpError fn qpid 1 else s1).noteFetch (fn / 64))

/-! ### Completions and interrupts (R340, R344, R347) -/

/-- The key of the dword at byte offset o of a function's BAR2, which holds the MSI-X table at 0 and the pending bits at 0x8000 (R560). -/
def msixKey (fn o : Nat) : Nat := fn * 0x10000 + o

/-- A BAR2 dword: Vector Control resets to masked, every other dword to 0. -/
def State.msixRd (s : State) (fn o : Nat) : Nat := tabGet s.host.msix (msixKey fn o) (if o < 0x8000 ∧ o % 16 = 12 then 1 else 0)

def State.msixWr (s : State) (fn o v : Nat) : State :=
  s.modHost fun h => { h with msix := tabPut h.msix (msixKey fn o) v (if o < 0x8000 ∧ o % 16 = 12 then 1 else 0) }

/-- Signal the vector of a ring: the message, or its pending bit while the vector is masked (R344). -/
def State.signal (s : State) (fn q : Nat) : State :=
  let v := (s.qp fn q).vector
  let s1 := s.modQp fn q fun x => { x with unsignalled := 0 }
  if s.msixRd fn (v * 16 + 12) % 2 = 1 then
    s1.msixWr fn (0x8000 + v / 32 * 4) (Nat.lor (s.msixRd fn (0x8000 + v / 32 * 4)) (2 ^ (v % 32)))
  else s1.emit (.msix fn v)

/-- The 32 bytes of a completion entry (R13): TAG, STATUS, FLAGS with EVENT, QP_ERR and the command's own bits, PHASE, the result words, SQ_HEAD, QPID,
TIMESTAMP_LO, SERVICE_TIME, and 0. -/
def cplEntry (c : Cpl) (phase sqHead : Nat) : List Nat :=
  leBytes 4 c.tag ++ leBytes 4 (c.status % 2 ^ 16 + 2 ^ 16 * (b2n c.event + 2 * b2n c.qpErr + 256 * (c.flags % 128)) + 2 ^ 31 * phase) ++
  leBytes 4 c.res0 ++ leBytes 4 c.res1 ++ leBytes 2 sqHead ++ leBytes 2 c.qpid ++ leBytes 4 c.time ++ leBytes 4 c.service ++ leBytes 4 0

/-- The address of entry `index` of a completion ring: the ring's base is page aligned, so the entry is 32-byte aligned (R13). -/
def cplAddr (base index : Nat) : Nat := base + 32 * index

/-- Write one completion entry into its ring and apply the coalescing rule (R340, R344). -/
def State.writeCpl (s : State) (c : Cpl) : State :=
  let x := s.qp c.fn c.qpid
  if !x.live then s.bump .HQP_FN_DISCARD_COUNT c.fn
  else
    let n := x.unsignalled + 1
    let s1 := s.modQp c.fn c.qpid fun y =>
      { y with posted := (y.posted + 1) % 2 ^ 32, kinds := y.kinds ++ [c.event], unsignalled := n,
               firstUnsignalled := if n = 1 then s.now else y.firstUnsignalled }
    let s2 := s1.emit (.completion c.fn (cplAddr x.cqBase (x.posted % 2 ^ x.cqLog2))
      (cplEntry c (1 - x.posted / 2 ^ x.cqLog2 % 2) (x.fetched % 2 ^ x.sqLog2)))
    if c.urgent || c.event || x.aggUs == 0 || decide (x.aggThr ≤ n) then s2.signal c.fn c.qpid else s2

/-- The entries of port p at the head of its partition that go into one write: up to 8 of one completion ring (R347). -/
def headRun (p : Nat) (l : List Cpl) : List Cpl :=
  match l.filter (fun c => c.fn / 64 == p) with
  | [] => []
  | c :: r => c :: ((r.takeWhile fun x => x.fn == c.fn && x.qpid == c.qpid).take 7)

/-- Held results whose partition has room again enter the queue, in order (R346). -/
def State.takeHeld : Nat → State → State
  | 0, s => s
  | k + 1, s =>
    match s.host.held.find? fun c => decide (s.partCount (c.fn / 64) < 512) with
    | none => s
    | some c => State.takeHeld k ((s.modHost fun h => { h with held := h.held.erase c }).enterCpl c)

/-- A DELETE_QP that waits for this queue pair ends once every command of it has posted its completion (R337). -/
def State.finishDelete (s : State) (fn q : Nat) : State :=
  match (s.qp fn q).deletedBy with
  | none => s
  | some tag =>
    if s.qpBusy fn q ≠ 0 then s
    else
      let s1 := s.modHost fun h => { h with qps := tabDel h.qps (qpKey fn q) }
      match s1.ctx fn tag with
      | none => s1
      | some c => s1.complete c 0 0 0 0

/-- COMPLETION_WRITE: the writer of host port p writes the entries at the head of its partition (R347). -/
def execCompletionWrite (p : HostPort) (s : State) : Out :=
  let run := headRun p s.host.merge
  let s1 := s.modHost fun h => { h with merge := run.foldl (fun l c => l.erase c) h.merge }
  let s2 := s1.forEach run fun t c => t.writeCpl c
  let s3 := State.takeHeld 16 s2
  fin ((s3.forEach run fun t c => t.finishDelete c.fn c.qpid).noteFetch p)

/-- COALESCE_TIMEOUT: the oldest unsignalled entry has waited AGG_US (R344). -/
def execCoalesceTimeout (fn : FnIx) (qpid : Nat) (s : State) : Out :=
  let x := s.qp fn qpid
  if x.live && decide (0 < x.unsignalled) && decide (x.firstUnsignalled + 1000 * x.aggUs ≤ s.now) then fin (s.signal fn qpid) else fin s

end Sys2Proof.Machine
end

