-- ==== Sys2Proof/Machine/Breath.lean ====
section
/-! DEFINITION. The Breath power-budget arbiter: costs, grants, deferral, rank and overdraw (spec/11_breath_arbiter.md R302 to R317). -/

namespace Sys2Proof.Machine

/-- Supply domain and class of a mechanism: the MECH_CFG value in force (R55). -/
def State.domOf (s : State) (n : Nat) : Nat := bitsOf (s.mx n).cfgEff 0 3
def State.clsOf (s : State) (n : Nat) : Nat := bitsOf (s.mx n).cfgEff 4 3
/-- MECH_CFG.STOP_MODE and AUTO_SPIN in force. -/
def State.stopMode (s : State) (n : Nat) : Nat := bitsOf (s.mx n).cfgEff 8 1
def State.autoSpin (s : State) (n : Nat) : Bool := bitsOf (s.mx n).cfgEff 9 1 == 1

def State.grants (s : State) (n : Nat) : Grants := tabGet s.breath.grants n {}

def grantSum (g : Grants) : Nat := g.seek.getD 0 + g.write.getD 0 + g.spin.getD 0 + g.spinup.getD 0

/-- The standing cost of mechanism n: IDLE_MW of its class in any state but ABSENT (R304). -/
def State.standingOf (s : State) (n : Nat) : Nat :=
  if tabGet s.breath.standing n false then s.get .BRTH_CLS_IDLE_IDLE_MW (s.clsOf n) else 0

/-- The standing costs of domain d. -/
def State.standingIn (s : State) (d : Nat) : Nat :=
  s.breath.standing.foldl (fun a e => if s.domOf e.1 = d then a + s.standingOf e.1 else a) 0

/-- Committed power of domain d (R303). -/
def State.committed (s : State) (d : Nat) : Nat :=
  s.standingIn d +
  s.breath.grants.foldl (fun a e => if s.domOf e.1 = d then a + grantSum e.2 else a) 0 +
  s.breath.link.foldl (fun a e => match e.2 with
    | some (dom, mw) => if dom = d then a + mw else a
    | none => a) 0

/-- An unlimited domain (R303). -/
def State.unlimited (s : State) (d : Nat) : Bool := s.get .BRTH_DOM_BUDGET_MW d == 0xFFFFFFFF

/-- Grantable power of domain d (R303). -/
def State.grantable (s : State) (d : Nat) : Nat := s.get .BRTH_DOM_BUDGET_MW d - s.get .BRTH_DOM_RESERVE_MW d

/-- Committed power exceeds grantable power (R304). -/
def State.overcommit (s : State) (d : Nat) : Bool := !s.unlimited d && decide (s.grantable d < s.committed d)

/-- Free power of domain d (R303). -/
def State.freePower (s : State) (d : Nat) : Nat := s.grantable d - s.committed d

/-- Running power of class c at a speed of rpm4 quarter rpm, mW (R305), rounded to the nearest, a half up. -/
def State.pSpin (s : State) (c rpm4 : Nat) : Nat :=
  s.get .BRTH_CLS_SPIN_SPIN_BASE_MW c + (s.get .BRTH_CLS_SPIN_SPIN_K c * rpm4 * rpm4 + 8000000) / 16000000

/-- The SPIN part that a request replaces: the one held, for a RISE (R302). -/
def State.replaces (s : State) (r : PowerReq) : Nat := if r.cls = 5 then (s.grants r.who).spin.getD 0 else 0

/-- A request fits (R307). -/
def State.fits (s : State) (r : PowerReq) : Bool :=
  let need := r.mw - s.replaces r
  let keep := if (r.cls = 4 ∨ r.cls = 5) ∧ ¬ r.aged then s.get .BRTH_DOM_KEEP_MW r.dom else 0
  s.unlimited r.dom || decide (need + keep ≤ s.freePower r.dom)

/-- A request can never fit its domain (R310). -/
def State.neverFits (s : State) (r : PowerReq) : Bool :=
  !s.unlimited r.dom && decide (s.grantable r.dom - s.standingIn r.dom < r.mw - s.replaces r)

/-- A request may be granted now: it fits, and neither OVERCOMMIT nor overdraw holds in its domain (R307). -/
def State.grantNow (s : State) (r : PowerReq) : Bool :=
  s.fits r && !s.overcommit r.dom && !s.on .BRTH_DOM_STAT_OVERDRAW r.dom

/-- A LINK grant lets the port go on: training from DETECT, or a wake (R59, R88). -/
def State.linkGranted (s : State) (p : Nat) : State :=
  let w := (s.px p).want
  let s1 := s.modPort p fun x => { x with want := .none }
  match w with
  | .none => s1
  | .train => s1.portStep p 1
  | .wake => s1.portStep p 9

/-- Make a grant (R302). -/
def State.makeGrant (s : State) (r : PowerReq) : State :=
  let up := fun (f : Grants → Grants) => s.modBreath fun b => { b with grants := tabMod b.grants r.who {} f }
  match r.cls with
  | 1 => (s.modBreath fun b => { b with link := tabPut b.link r.who (some (r.dom, r.mw)) none }).linkGranted r.who
  | 2 => up fun g => { g with seek := some r.mw }
  | 3 => up fun g => { g with write := some r.mw }
  | 4 => up fun g => { g with spin := some r.spinPart, spinup := some (r.mw - r.spinPart), spinupAt := s.now, spinupLong := false }
  | _ =>
    let s1 := up fun g => { g with spin := some r.spinPart, spinup := some (r.mw - r.spinPart), spinupAt := s.now, spinupLong := false }
    (s1.modBreath fun b => { b with spinBefore := tabPut b.spinBefore r.who ((s.grants r.who).spin.getD 0) 0 }).set .MECH_SPEED_TARGET r.who r.rpm4

/-- The rank of R308, as numbers to compare in order: aged, class, PRIO, time, MN before port, number. -/
def rankLt (a b : PowerReq) : Bool :=
  let k := fun (r : PowerReq) => [b2n (!r.aged), r.cls, 255 - r.prio, r.at_, b2n (r.cls == 1), r.who]
  decide (k a < k b)

/-- Insert a request by rank. -/
def rankInsert (r : PowerReq) : List PowerReq → List PowerReq
  | [] => [r]
  | x :: l => if rankLt r x then r :: x :: l else x :: rankInsert r l

def rankSort (l : List PowerReq) : List PowerReq := l.foldl (fun a r => rankInsert r a) []

/-- One evaluation of the deferred requests of a domain, in rank order: a request that fits is granted, one that does not is passed over,
and an aged one that does not fit blocks the lower ranks of its class (R308, R309). `blocked` lists the blocked classes. -/
def State.evaluate (s : State) (blocked : List Nat) : List PowerReq → State
  | [] => s
  | r :: l =>
    if blocked.contains r.cls then s.evaluate blocked l
    else if s.grantNow r then
      ((s.modBreath fun b => { b with reqs := b.reqs.erase r }).makeGrant r).evaluate blocked l
    else if r.aged && !s.fits r then (s.raise .BRTH_DOM_STAT_BLOCKED r.dom).evaluate (r.cls :: blocked) l
    else s.evaluate blocked l

/-- OVERCOMMIT of a domain is set or cleared as its committed power stands (R304). -/
def State.noteOvercommit (s : State) (d : Nat) : State :=
  if s.overcommit d then
    if s.on .BRTH_DOM_STAT_OVERCOMMIT d then s
    else ((s.raise .BRTH_DOM_STAT_OVERCOMMIT d).raise .BRTH_EVENT_OVERCOMMIT).set0 .BRTH_EVENT_DOM d
  else s.set .BRTH_DOM_STAT_OVERCOMMIT d 0

/-- The deferred requests of a domain that have waited AGE_MS are aged, by the AGE_MS in force now; each sets AGED once (R309). -/
def State.ageRequests (s : State) (d : Nat) : State :=
  let old := fun (r : PowerReq) => decide (r.at_ + ms (s.get .BRTH_GCFG_AGE_MS) ≤ s.now)
  let s1 := s.modBreath fun b =>
    { b with reqs := b.reqs.map fun r => if r.dom = d then { r with aged := old r, agedOnce := r.agedOnce || old r } else r }
  if s.breath.reqs.any fun r => r.dom == d && !r.agedOnce && old r then (s1.raise .BRTH_EVENT_AGED).set0 .BRTH_EVENT_DOM d else s1

/-- After a release, a register write or a change of overdraw state: evaluate the domain again (R306). -/
def State.reevaluate (s : State) (d : Nat) : State :=
  let s1 := ((s.noteOvercommit d).ageRequests d).set .BRTH_DOM_STAT_BLOCKED d 0
  (s1.evaluate [] (rankSort (s1.breath.reqs.filter fun r => r.dom == d))).noteOvercommit d

/-- What becomes of a request. -/
inductive Decision where
  | granted | deferred | refused
  deriving DecidableEq, Repr

/-- Decide a new request (R306, R307, R310): a request that arrives takes its rank among the deferred ones, so it waits behind a block. -/
def State.request (s : State) (r : PowerReq) : State × Decision :=
  if r.cls ≠ 1 ∧ s.neverFits r then (s, .refused)
  else
    let s0 := if r.cls = 1 ∧ s.neverFits r then (s.raise .BRTH_EVENT_NEVER_FIT).set0 .BRTH_EVENT_DOM r.dom else s
    let s1 := (s0.modBreath fun b => { b with reqs := b.reqs ++ [r] }).reevaluate r.dom
    (s1, if s1.breath.reqs.contains r then .deferred else .granted)

/-- Return grants of a mechanism (R306): `f` clears what is returned. -/
def State.returnGrant (s : State) (n : Nat) (f : Grants → Grants) : State :=
  (s.modBreath fun b => { b with grants := tabMod b.grants n {} f }).reevaluate (s.domOf n)

/-- Every grant of a mechanism is returned and its deferred requests are withdrawn (R302, R310, R316). -/
def State.returnAll (s : State) (n : Nat) : State :=
  (s.modBreath fun b =>
    { b with grants := tabDel b.grants n, reqs := b.reqs.filter (fun r => !(r.who == n && r.cls != 1)),
             spinBefore := tabDel b.spinBefore n }).reevaluate (s.domOf n)

/-- A port returns its LINK grant, and a deferred LINK request is withdrawn (R302, R310). -/
def State.returnLink (s : State) (p : Nat) : State :=
  let s1 := (s.modBreath fun b => { b with link := tabDel b.link p, reqs := b.reqs.filter fun r => !(r.cls == 1 && r.who == p) }).modPort p
    fun x => { x with want := .none }
  match tabGet s.breath.link p none with
  | none => s1
  | some (d, _) => s1.reevaluate d

/-- Request the LINK grant of a port, for a training or a wake (R59, R88, R302). A port that holds its grant goes on at once. -/
def State.requestLink (s : State) (p : Nat) (w : LinkWant) : State :=
  let s1 := s.modPort p fun x => { x with want := w }
  match tabGet s.breath.link p none with
  | some _ => s1.linkGranted p
  | none =>
    if s.breath.reqs.any fun r => r.cls == 1 && r.who == p then s1
    else (s1.request { cls := 1, who := p, dom := s.get .BRTH_PORT_DOMAIN p, mw := s.get .BRTH_PORT_LINK_MW p, at_ := s.now }).1

/-- The standing cost of a mechanism begins or ends (R304); a mechanism that is ABSENT keeps no measured power. -/
def State.chargeStanding (s : State) (n : Nat) (on : Bool) : State :=
  (s.modBreath fun b => { b with standing := tabPut b.standing n on false, meas := if on then b.meas else tabDel b.meas n,
                                 excessAt := if on then b.excessAt else tabDel b.excessAt n }).reevaluate (s.domOf n)

/-- The amount of a request of class c for mechanism n (R302), and its SPIN part: TARGET in quarter rpm for START and RISE, beams for WRITE. -/
def State.reqAmount (s : State) (c n beams rpm4 : Nat) : Nat × Nat :=
  let k := s.clsOf n
  match c with
  | 2 => (s.get .BRTH_CLS_MOVE_SEEK_MW k, 0)
  | 3 => (s.get .BRTH_CLS_MOVE_WRITE_MW k * beams, 0)
  | _ => (max (s.get .BRTH_CLS_START_PEAK_MW k) (s.pSpin k rpm4), s.pSpin k rpm4)

/-! ### BIST power (R315) -/

def bistSum (l : List BistReq) : Nat := l.foldl (fun a r => a + r.mw) 0

/-- Less than GAP_US has passed since the last BIST grant (R315). -/
def State.bistGap (s : State) : Bool :=
  match s.breath.bistAt with
  | none => false
  | some t => decide (s.now < t + 1000 * s.get .BRTH_BIST_CFG_GAP_US)

/-- Grant waiting BIST requests in their order while they fit and the gap has passed (R315). -/
def State.grantBistQ (s : State) : List BistReq → State
  | [] => s
  | r :: l =>
    if s.bistGap || decide (s.get .BRTH_BIST_CFG_BUDGET_MW < bistSum s.breath.bistHeld + r.mw) then s
    else (s.modBreath fun b => { b with bistReqs := l, bistHeld := b.bistHeld ++ [r], bistAt := some s.now }).grantBistQ l

def State.grantBist (s : State) : State := s.grantBistQ s.breath.bistReqs

/-- A BIST request; one above the whole budget stays deferred and sets NEVER_FIT (R310, R315). -/
def State.requestBist (s : State) (r : BistReq) : State :=
  let s1 := if s.get .BRTH_BIST_CFG_BUDGET_MW < r.mw then s.raise .BRTH_EVENT_NEVER_FIT else s
  (s1.modBreath fun b => { b with bistReqs := b.bistReqs ++ [r] }).grantBist

/-- The block holds its BIST grant. -/
def State.bistGranted (s : State) (cls index : Nat) : Bool := s.breath.bistHeld.any fun r => r.cls == cls && r.index == index

/-- The BIST grant of a block is returned, or its request withdrawn. -/
def State.returnBist (s : State) (cls index : Nat) : State :=
  let keep := fun (r : BistReq) => !(r.cls == cls && r.index == index)
  (s.modBreath fun b => { b with bistHeld := b.bistHeld.filter keep, bistReqs := b.bistReqs.filter keep }).grantBist

/-- A block test requests its power (R484). -/
def State.requestTest (s : State) (cls index : Nat) : State := s.requestBist { cls := cls, index := index, mw := Config.bistMw cls }

end Sys2Proof.Machine
end

