-- ==== Sys2Proof/Machine/PenMap.lean ====
section
/-! DEFINITION. The slot map of a port: servo positions, bursts and their waits, and the announcement of a change
(spec/03_penetal_link.md R66 to R72, R85). -/

namespace Sys2Proof.Machine

def portOf (n : Nat) : Nat := n / 64
def dropOf (n : Nat) : Nat := n % 64

def State.dx (s : State) (n : Nat) : DropX := tabGet s.drop n {}

def State.modDrop (s : State) (n : Nat) (f : DropX → DropX) : State := { s with drop := tabMod s.drop n {} f }

def State.pstate (s : State) (p : Nat) : Nat := s.get .PEN_STATUS_PSTATE p
/-- The port is ACTIVE or DEGRADED. -/
def State.portUp (s : State) (p : Nat) : Bool := s.pstate p == 6 || s.pstate p == 7

/-- A port in LOWPOWER requests its LINK grant to wake (R88). -/
def State.wakePort (s : State) (p : Nat) : State := if s.pstate p = 8 then s.requestLink p .wake else s

/-! ### The management channel: sending (R75) -/

/-- The channel of an address: a drop's MN, or 4096 + p for the fan-out of port p. -/
def chanKey (p a : Nat) : Nat := if a < 64 then p * 64 + a else 4096 + p

/-- Messages go out with MSEQs from `q` on, each with the MSEQ the device expects next as its MACK. -/
def State.emitMgmt (s : State) (p a : Nat) : Nat → List MgmtMsg → State
  | _, [] => s
  | q, m :: l => (s.emit (.mgmt p a m.cls (some (q, (s.dx (chanKey p a)).mseqRx)) m.payload)).emitMgmt p a ((q + 1) % 4096) l

/-- Messages that wait go out while the port runs frames and fewer than 64 are unacknowledged. -/
def State.flushMgmt (s : State) (p a : Nat) : State :=
  let k := chanKey p a
  let d := s.dx k
  let l := d.queued.take (64 - d.unacked.length)
  if !s.portUp p || l.isEmpty then s
  else
    (s.modDrop k fun x => { x with queued := x.queued.drop l.length, unacked := x.unacked ++ l, mseqTx := (x.mseqTx + l.length) % 4096 }).emitMgmt
      p a d.mseqTx l

/-- Send a message on a channel: in its turn, once the port, which wakes for it, runs frames (R75, R88). -/
def State.sendMgmt (s : State) (p a cls : Nat) (payload : List Nat) : State :=
  (((s.modDrop (chanKey p a) fun d => { d with queued := d.queued ++ [{ cls := cls, payload := payload }] }).flushMgmt p a).wakePort p)

/-- The last entry for index k in a list of changes, or the register's own dword. -/
def lastFor (l : List (Nat × Word)) (k : Nat) (d : Word) : Word := l.foldl (fun a e => if e.1 = k then e.2 else a) d

/-- PEN_SMAP entry k as the changes under way will leave it. -/
def State.smapView (s : State) (p k : Nat) : Word :=
  let x := s.px p
  let now := match x.mapNow with | none => [] | some (_, m) => m.smap
  lastFor (now ++ x.mapNext.smap) k (s.rd .PEN_SMAP p k)

/-- PEN_BMAP entry b as the changes under way will leave it. -/
def State.bmapView (s : State) (p b : Nat) : Word :=
  let x := s.px p
  let now := match x.mapNow with | none => [] | some (_, m) => m.bmap
  lastFor (now ++ x.mapNext.bmap) b (s.rd .PEN_BMAP p b)

/-- Announce the waiting map change when none is announced: a MAP broadcast with the map of the next epoch, then NEXT_EPOCH with ACT_SEQ at least 4
frames ahead (R71). While a lane mode is announced it waits, for a header holds one ACT_SEQ (notes/assumptions/92.md). -/
def State.announceMap (s : State) (p : Nat) : State :=
  let x := s.px p
  if x.mapNow.isSome || x.modeNext.isSome || x.mapNext == {} then s
  else
    (s.modPort p fun y => { y with mapNow := some ((y.seq + 4) % 4096, y.mapNext), mapNext := {} }).emit
      (.mgmt p 0x7F 3 none ((x.epoch + 1) % 16 ::
        ((List.range 16).map fun k => (s.smapView p k).toNat) ++ (List.range 16).map fun b => (s.bmapView p b).toNat))

/-- A lane mode is announced; a map change that was announced goes back to wait for it (R71, R84, notes/assumptions/92.md). -/
def State.announceMode (s : State) (p mode act : Nat) : State :=
  s.modPort p fun x =>
    { x with modeNext := some (mode, act % 4096), mapNow := none,
             mapNext := match x.mapNow with
               | none => x.mapNext
               | some (_, m) => { smap := m.smap ++ x.mapNext.smap, bmap := m.bmap ++ x.mapNext.bmap } }

def State.changeSmap (s : State) (p k : Nat) (w : Word) : State :=
  (s.modPort p fun x => { x with mapNext := { x.mapNext with smap := x.mapNext.smap ++ [(k, w)] }, busyAt := s.now }).announceMap p

def State.changeBmap (s : State) (p b : Nat) (w : Word) : State :=
  (s.modPort p fun x => { x with mapNext := { x.mapNext with bmap := x.mapNext.bmap ++ [(b, w)] }, busyAt := s.now }).announceMap p

def smapValid (w : Word) : Bool := bitsOf w 15 1 == 1
def bmapValid (w : Word) : Bool := bitsOf w 31 1 == 1

/-- Servo positions of port p that are or will be assigned. -/
def State.positions (s : State) (p : Nat) : List Nat := (List.range 16).filter fun k => smapValid (s.smapView p k)

/-- The lowest free servo position of a port (R69: at most 16). -/
def State.freePosition (s : State) (p : Nat) : Option Nat := (List.range 16).find? fun k => !smapValid (s.smapView p k)

/-- The servo position that a drop holds in the map in use, with its entry (R72). -/
def State.livePosition (s : State) (p d : Nat) : Option (Nat × Word) :=
  ((List.range 16).map fun k => (k, s.rd .PEN_SMAP p k)).find? fun e => smapValid e.2 && bitsOf e.2 0 6 == d

/-- A drop samples in the frame with SEQ `q`: (SEQ - SUBPH) mod divisor is 0 in its entry of the map (R66). -/
def samplesIn (w : Word) (q : Nat) : Bool := (q + 4096 - bitsOf w 11 2) % 2 ^ bitsOf w 13 2 == 0

/-- Mechanism n samples in the present upstream frame: it holds a servo position of the map in use, and the frame is one of its own (R66, R72). -/
def State.samplesNow (s : State) (n : Nat) : Bool :=
  match s.livePosition (portOf n) (dropOf n) with
  | none => false
  | some e => samplesIn e.2 (s.px (portOf n)).upSeq

/-- The servo position of a drop. -/
def State.positionOf (s : State) (p d : Nat) : Option Nat :=
  (List.range 16).find? fun k => smapValid (s.smapView p k) && bitsOf (s.smapView p k) 0 6 == d

/-- Frame period in us: 4, 2 or 1 for RATE 0, 1, 2 (R65). -/
def rateUs (rate : Nat) : Nat := if rate = 0 then 4 else if rate = 1 then 2 else 1

/-- Words of a burst, header included (R68). -/
def burstLen (down single : Bool) (t : Nat) : Nat :=
  1 + (if down then (if single then 25 * t else 100 * t) else (if single then (55 * t + 1) / 2 else 110 * t))

/-- Words of a frame in one direction (R65, "Words per frame"). -/
def frameWords (rate : Nat) (singleLane : Bool) : Nat :=
  if rate = 2 then (if singleLane then 390 else 781)
  else if rate = 1 then (if singleLane then 781 else 1562)
  else (if singleLane then 1562 else 3125)

/-- LMODE bit 0: upstream single-lane; bit 1: downstream single-lane. -/
def State.single (s : State) (p : Nat) (down : Bool) : Bool := bitAt (s.get .PEN_STATUS_LMODE p) (if down then 1 else 0) == 1

/-- The number of heads of a kind that a direction carries (R69). -/
def burstCap (rate : Nat) (down single lane1 : Bool) : Nat :=
  if single then (if down then 16 else if lane1 then (if rate = 2 then 10 else 12) else 16)
  else if lane1 then (if down then 3 else if rate = 2 then 2 else 3) else 6

/-- Granted bursts of port p, as their BMAP indices with their dwords. -/
def State.bursts (s : State) (p : Nat) : List (Nat × Word) :=
  ((List.range 16).map fun b => (b, s.bmapView p b)).filter fun e => bmapValid e.2

/-- The bursts of the map in use, which an announced change has not yet reached (R71). -/
def State.liveBursts (s : State) (p : Nat) : List (Nat × Word) :=
  ((List.range 16).map fun b => (b, s.rd .PEN_BMAP p b)).filter fun e => bmapValid e.2

def bmapDown (w : Word) : Bool := bitsOf w 30 1 == 1
def bmapSingle (w : Word) : Bool := bitsOf w 29 1 == 1
def bmapDrop (w : Word) : Nat := bitsOf w 16 6
def bmapStart (w : Word) : Nat := bitsOf w 0 12

def bmapWord (down single : Bool) (drop start : Nat) : Word :=
  BitVec.ofNat 32 (2 ^ 31 + b2n down * 2 ^ 30 + b2n single * 2 ^ 29 + drop * 2 ^ 16 + start)

/-- The capacity of R69 with a burst added: heads in all, four-beam heads in all, heads of the kind in its direction, and the words of the
direction's frame less the management reserve of R67. -/
def State.burstFits (s : State) (p : Nat) (down single : Bool) : Bool :=
  let l := s.bursts p
  let rate := (s.px p).rate
  let t := rateUs rate
  let lane1 := s.single p down
  let dir := l.filter fun e => bmapDown e.2 == down
  let used := dir.foldl (fun a e => a + burstLen down (bmapSingle e.2) t) 0
  let base := if down then 1 + (if s.single p false && !s.single p true then 128 else 64) else 65
  decide (l.length < 16) && (single || decide ((l.filter fun e => !bmapSingle e.2).length < 6)) &&
  decide ((dir.filter fun e => bmapSingle e.2 == single).length < burstCap rate down single lane1) &&
  decide (base + used + burstLen down single t + 16 * t ≤ frameWords rate lane1)

/-- The word before which every burst ends: the words of the frame, less the management reserve that follows the bursts upstream (R67, R68). -/
def State.burstTop (s : State) (p : Nat) (down : Bool) : Nat :=
  frameWords (s.px p).rate (s.single p down) - (if down then 0 else 16 * rateUs (s.px p).rate)

/-- A burst at `start` lies within the frame and shares no word with a granted burst of its direction, nor with the actuator region downstream. -/
def State.burstFree (s : State) (p : Nat) (down : Bool) (start len : Nat) : Bool :=
  let t := rateUs (s.px p).rate
  let act := s.get .PEN_TIMING_ACT_OFS p
  let actLen := if s.single p false && !s.single p true then 128 else 64
  decide (start + len ≤ s.burstTop p down) &&
  ((s.bursts p).all fun e => bmapDown e.2 != down || decide (start + len ≤ bmapStart e.2) ||
      decide (bmapStart e.2 + burstLen down (bmapSingle e.2) t ≤ start)) &&
  (!down || decide (start + len ≤ act) || decide (act + actLen ≤ start))

/-- The lowest start word at which a burst lies free (R68): `k` candidates from `w` on. -/
def State.burstStart (s : State) (p : Nat) (down : Bool) (len : Nat) : Nat → Nat → Option Nat
  | 0, _ => none
  | k + 1, w => if s.burstFree p down w len then some w else s.burstStart p down len k (w + 1)

/-- Grant a burst to a drop if it fits, in the lowest free BMAP entry. -/
def State.grantBurst (s : State) (p : Nat) (b : BurstWait) : Option State :=
  let t := rateUs (s.px p).rate
  if !s.burstFits p b.down b.single then none
  else
    match (List.range 16).find? (fun k => !bmapValid (s.bmapView p k)),
          s.burstStart p b.down (burstLen b.down b.single t) 3200 (if b.down then 1 else 65) with
    | some k, some w =>
      let s1 := s.changeBmap p k (bmapWord b.down b.single b.drop w)
      let s2 := s1.modPort p fun x => { x with burstOrder := x.burstOrder ++ [k] }
      some (s2.set2 .PEN_DROP_BURST p b.drop 1)
    | _, _ => none

/-- Grant waiting drops of one direction strictly in their order: the first that does not fit blocks the later ones (R70). -/
def State.serveWaits (s : State) (p : Nat) (down : Bool) : Nat → State
  | 0 => s
  | k + 1 =>
    match (s.px p).waits.find? fun b => b.down == down with
    | none => s
    | some b =>
      match s.grantBurst p b with
      | none => s
      | some s1 => (s1.modPort p fun x => { x with waits := x.waits.erase b }).serveWaits p down k

/-- A mechanism that needs a burst takes its place in the wait order of its direction, and the order is served (R70). -/
def State.wantBurst (s : State) (n : Nat) (down single : Bool) : State :=
  let b : BurstWait := { drop := dropOf n, down := down, single := single }
  let p := portOf n
  if (s.px p).waits.contains b || ((s.bursts p).any fun e => bmapDrop e.2 == dropOf n && bmapDown e.2 == down) then s
  else (s.modPort p fun x => { x with waits := x.waits ++ [b] }).serveWaits p down 16

/-- A drop's bursts are released and it waits for none; the waiters are served (R70, BURST_GRANT). -/
def State.dropBursts (s : State) (n : Nat) : State :=
  let p := portOf n
  let d := dropOf n
  let mine := (s.bursts p).filter fun e => bmapDrop e.2 == d
  let s1 := s.forEach mine fun t e => (t.changeBmap p e.1 0).modPort p fun x => { x with burstOrder := x.burstOrder.erase e.1 }
  let s2 := (s1.modPort p fun x => { x with waits := x.waits.filter fun b => b.drop != d }).set2 .PEN_DROP_BURST p d 0
  if mine.isEmpty then s2 else (s2.serveWaits p false 16).serveWaits p true 16

/-- A mechanism holds a burst of a direction in the map in use. -/
def State.liveBurst (s : State) (n : Nat) (down : Bool) : Bool :=
  (s.liveBursts (portOf n)).any fun e => bmapDown e.2 == down && bmapDrop e.2 == dropOf n

/-- A streaming mechanism turns from reading to writing or back: the burst of the other direction is released, and it asks for its own (R35, R70;
DEDUCED, notes/assumptions/102.md). -/
def State.turnBurst (s : State) (n : Nat) (down single : Bool) : State :=
  let has := (s.bursts (portOf n)).any fun e => bmapDown e.2 == down && bmapDrop e.2 == dropOf n
  if has || (s.px (portOf n)).waits.any fun b => b.drop == dropOf n && b.down == down then s else (s.dropBursts n).wantBurst n down single

/-- A drop's servo position is released (R71). -/
def State.dropPosition (s : State) (n : Nat) : State :=
  match s.positionOf (portOf n) (dropOf n) with
  | none => s
  | some k => (s.changeSmap (portOf n) k 0).set2 .PEN_DROP_SERVO (portOf n) (dropOf n) 0

end Sys2Proof.Machine
end

