-- ==== Sys2Proof/Machine/ServoArith.lean ====
section
/-! DEFINITION. The arithmetic of the servo loops, exactly as spec/04_cirque_engine.md R96 to R99, R107 and spec/05_servo_loops.md state it,
over the integers with explicit narrowing, and the fields of a coefficient record (R101). -/

namespace Sys2Proof.Machine

/-- Clamp an integer to lo .. hi. -/
def clampI (v lo hi : Int) : Int := max lo (min v hi)

def sat16 (v : Int) : Int := clampI v (-32768) 32767
def sat32 (v : Int) : Int := clampI v (-2147483648) 2147483647
/-- The Q9.31 accumulator range. -/
def sat40 (v : Int) : Int := clampI v (-(2 ^ 39)) (2 ^ 39 - 1)
def sat64 (v : Int) : Int := clampI v (-(2 ^ 63)) (2 ^ 63 - 1)

/-- Shift right arithmetically by k with round-half-up: add half of the discarded weight first. -/
def roundShr (v : Int) (k : Nat) : Int := if k = 0 then v else (v + 2 ^ (k - 1)) / 2 ^ k

/-- The n-bit two's-complement reading of the low n bits of a number. -/
def signed (n : Nat) (v : Nat) : Int :=
  let w := v % 2 ^ n
  if w < 2 ^ (n - 1) then (w : Int) else (w : Int) - 2 ^ n

/-- The n-bit two's-complement pattern of an integer. -/
def unsignedOf (n : Nat) (v : Int) : Nat := (v % 2 ^ n).toNat

/-- Dword i of a record; a bank that is not there reads 0. -/
def dw (r : List Nat) (i : Nat) : Nat := r.getD i 0

/-- Bits [lo + n - 1 : lo] of dword i of a record. -/
def dwBits (r : List Nat) (i lo n : Nat) : Nat := dw r i / 2 ^ lo % 2 ^ n

def recLoop (r : List Nat) : Nat := dwBits r 0 24 3
def recFmt (r : List Nat) : Nat := dwBits r 0 16 1
def recNbq (r : List Nat) : Nat := dwBits r 0 12 4
def recInSel (r : List Nat) : Nat := dwBits r 0 0 8
def recInExp (r : List Nat) : Nat := dwBits r 1 16 5
def recInOfs (r : List Nat) : Int := signed 16 (dw r 1)
def recOutMax (r : List Nat) : Int := signed 16 (dwBits r 4 16 16)
def recOutMin (r : List Nat) : Int := signed 16 (dw r 4)
def recSoftShift (r : List Nat) : Nat := dwBits r 5 24 4
def recSlew (r : List Nat) : Nat := dwBits r 5 0 16
def recInjGain (r : List Nat) : Int := signed 16 (dw r 6)

/-- R96: the input stage. -/
def inputStage (r : List Nat) (x : Int) : Int :=
  let d := x - recInOfs r
  if recFmt r = 0 then sat16 ((d * signed 16 (dw r 2) * 2 ^ recInExp r + 2 ^ 14) / 2 ^ 15)
  else sat32 ((d * signed 32 (dw r 2) * 2 ^ recInExp r + 2 ^ 20) / 2 ^ 21)

/-- R97: one dense biquad; the five products of Q1.15 values are shifted left by 1 and the accumulator saturates after each addition. -/
def denseBiquad (b0 b1 b2 a1 a2 : Int) (kshift : Nat) (h : List Int) (x : Int) : Int × List Int :=
  let x1 := h.getD 0 0; let x2 := h.getD 1 0; let y1 := h.getD 2 0; let y2 := h.getD 3 0
  let acc := [b0 * x, b1 * x1, b2 * x2, -(a1 * y1), -(a2 * y2)].foldl (fun a p => sat40 (a + p * 2)) 0
  let y := sat16 ((acc * 2 ^ kshift + 2 ^ 15) / 2 ^ 16)
  (y, [x, x1, y, y1])

/-- R98: one wide biquad; each product is shifted right by the coefficient's own SH, with rounding when SH is 1 or more. -/
def wideBiquad (m : List Int) (sh : List Nat) (h : List Int) (x : Int) : Int × List Int :=
  let x1 := h.getD 0 0; let x2 := h.getD 1 0; let y1 := h.getD 2 0; let y2 := h.getD 3 0
  let p := fun (i : Nat) (v : Int) => roundShr (v * m.getD i 0) (sh.getD i 0)
  let acc := [p 0 x, p 1 x1, p 2 x2, -(p 3 y1), -(p 4 y2)].foldl (fun a t => sat64 (a + t)) 0
  let y := sat32 ((acc + 2 ^ 29) / 2 ^ 30)
  (y, [x, x1, y, y1])

/-- Biquad j of a record (R101). -/
def biquad (r : List Nat) (j : Nat) (h : List Int) (x : Int) : Int × List Int :=
  if recFmt r = 0 then
    let b := 8 + 3 * j
    denseBiquad (signed 16 (dw r b)) (signed 16 (dwBits r b 16 16)) (signed 16 (dw r (b + 1))) (signed 16 (dwBits r (b + 1) 16 16))
      (signed 16 (dw r (b + 2))) (dwBits r (b + 2) 16 2) h x
  else
    let b := 8 + 6 * j
    wideBiquad ((List.range 5).map fun i => signed 32 (dw r (b + i))) ((List.range 5).map fun i => dwBits r (b + 5) (5 * i) 5) h x

/-- The cascade of NBQ biquads: output and new histories (R95). `k` counts the biquads left. -/
def cascade (r : List Nat) (hist : List (List Int)) : Nat → Nat → Int → Int × List (List Int)
  | 0, _, x => (x, [])
  | k + 1, j, x =>
    let y := biquad r j (hist.getD j []) x
    let z := cascade r hist k (j + 1) y.1
    (z.1, y.2 :: z.2)

/-- The interpolated profile value P of R99. -/
def profileAt (p : Nat → Int) (theta : Nat) : Int :=
  let i := theta / 2 ^ 22 % 1024
  let f : Int := (theta / 2 ^ 6 % 65536 : Nat)
  p i + ((p ((i + 1) % 1024) - p i) * f + 2 ^ 15) / 2 ^ 16

/-- The feed-forward adder of R99 for loops 0 and 1. -/
def feedForward (r : List Nat) (c pval : Int) : Int :=
  if recFmt r = 0 then sat16 (c + (pval * signed 16 (dw r 3) + 2 ^ 14) / 2 ^ 15)
  else sat32 (c + (pval * signed 32 (dw r 3) + 2 ^ 20) / 2 ^ 21)

/-- Conversion to actuator counts (R99). -/
def toCounts (r : List Nat) (v : Int) : Int := if recFmt r = 0 then v else sat16 ((v + 2 ^ 8) / 2 ^ 9)

/-- The soft-start blend of R107 in its k-th sample. -/
def blend (h o1 : Int) (k shift : Nat) : Int :=
  if shift = 0 then o1 else h + ((o1 - h) * k + 2 ^ (shift - 1)) / 2 ^ shift

/-- The slew limit of R99. -/
def slewLimit (r : List Nat) (ob q : Int) : Int :=
  if recSlew r = 0 then ob else clampI ob (q - recSlew r) (q + recSlew r)

/-- What one sample of a loop of 0 to 6 gives: the output o3, the new loop, the new loop state. -/
structure LoopOut where
  o3 : Int
  loop : LoopX
  ls : Nat

/-- One sample of a loop in CLOSED (1) or SOFT (3): R95 in its order. `pval` is the profile value (loops 0 and 1), `g` the injected
value, 0 while no injection is enabled on the loop. The first sample of a new bank gives x1 and x2 of the first biquad (R107). -/
def loopSample (l : Nat) (lx : LoopX) (ls : Nat) (x pval g : Int) : LoopOut :=
  let r := lx.active
  let u := inputStage r x
  let hist := if lx.fresh then (if recNbq r = 0 then [] else [[u, u, 0, 0]]) else lx.hist
  let c := cascade r hist (recNbq r) 0 u
  let v := if l < 2 then feedForward r c.1 pval else c.1
  let o1 := clampI (toCounts r v) (recOutMin r) (recOutMax r)
  let k := lx.blendK + 1
  let ob := if ls = 3 then blend lx.blendH o1 k (recSoftShift r) else o1
  let o2 := slewLimit r ob lx.q
  let o3 := clampI (o2 + (g * recInjGain r + 2 ^ 14) / 2 ^ 15) (recOutMin r) (recOutMax r)
  { o3 := o3
    loop := { lx with hist := c.2, q := o2, last := o3, u := u, c := c.1, fresh := false, blendK := if ls = 3 then k else lx.blendK }
    ls := if ls = 3 ∧ 2 ^ recSoftShift r ≤ k then 1 else ls }

/-- A new bank of a running loop (R105, R107): histories 0, the blend starts at the loop's last o2 `h`, the old bank becomes the shadow. -/
def newBank (lx : LoopX) (rec : List Nat) (h : Int) : LoopX :=
  { lx with active := rec, shadow := lx.active, hist := [], blendH := h, blendK := 0, fresh := true }

end Sys2Proof.Machine
end

