-- ==== Sys2Proof/Machine/Records.lean ====
section
/-! DEFINITION. The records that shape the servo system: sequence records (spec/05 R128), drive records (spec/06 R162), loop 7 records
(R565), coefficient records and their library (spec/04 R101, R102), sled tables (R179), calibration records (spec/07 R203) and profiles
(spec/05 R153): defaults, acceptance, fields. -/

namespace Sys2Proof.Machine

/-- One dword of a record with a 16-bit field in each half. -/
def halves (hi lo : Nat) : Nat := hi % 65536 * 65536 + lo % 65536

/-- A record of n dwords closed by the CRC-32C of the dwords before. -/
def withCrc (l : List Nat) : List Nat := l ++ [crc32c (dwBytes l)]

def crcOk (l : List Nat) (n : Nat) : Bool := decide (l.length = n) && dw l (n - 1) == crc32c (dwBytes (l.take (n - 1)))

/-! ### The sequence record (R128) -/

/-- The default sequence record of a class. -/
def seqDefault (c : Nat) : List Nat :=
  withCrc ([2 ^ 24 + c * 65536, halves 12000 (65536 - 6000), 3 * 2 ^ 24 + 50 * 65536 + 20 * 256 + 1, halves 6000 2000, halves 4000 1500,
    halves 6000 256, halves (65536 - 4000) (8 * 256 + 8), halves 0x2000 0x2000, halves 0x2000 0x2000, halves 2000 128, halves 8000 3000,
    halves 2500 (20 * 256 + 10), halves 40 3000, halves 6000 6000, halves 256 16, halves 586 (4 * 256 + 8), halves 5000 5000,
    halves 2000 256, halves 0x1E00 0x3C00, halves 2000 (205 * 256 + 8)] ++ List.replicate 11 0)

/-- The sequence record in force for a class. -/
def State.seqRec (s : State) (c : Nat) : List Nat := tabGet s.cirq.seqRec c (seqDefault c)

def rateDiv (r : List Nat) : Nat := dwBits r 0 0 2
def focUp (r : List Nat) : Int := signed 16 (dwBits r 1 16 16)
def focDown (r : List Nat) : Int := signed 16 (dw r 1)
def focAttempts (r : List Nat) : Nat := dwBits r 2 24 8
def focAttemptMs (r : List Nat) : Nat := dwBits r 2 16 8
def sweepMs (r : List Nat) : Nat := dwBits r 2 8 8
def skipN (r : List Nat) : Nat := dwBits r 2 0 4
def sumTh (r : List Nat) : Int := dwBits r 3 16 16
def sumLost (r : List Nat) : Int := dwBits r 3 0 16
def fePkTh (r : List Nat) : Int := dwBits r 4 16 16
def feLock (r : List Nat) : Int := dwBits r 4 0 16
def feLost (r : List Nat) : Int := dwBits r 5 16 16
def focVerify (r : List Nat) : Nat := dwBits r 5 0 16
def focPark (r : List Nat) : Int := signed 16 (dwBits r 6 16 16)
def lostN (r : List Nat) : Nat := dwBits r 6 8 8
def lossMax (r : List Nat) : Nat := dwBits r 6 0 8
def beamWeight (r : List Nat) (b : Nat) : Int := signed 16 (dwBits r (7 + b / 2) (16 * (b % 2)) 16)
def trkLockTh (r : List Nat) : Int := dwBits r 9 16 16
def trkLockN (r : List Nat) : Nat := dwBits r 9 0 16
def trkLost (r : List Nat) : Int := dwBits r 10 16 16
def wotTh (r : List Nat) : Int := dwBits r 10 0 16
def feWot (r : List Nat) : Int := dwBits r 11 16 16
def trkOnMs (r : List Nat) : Nat := dwBits r 11 8 8
def ljMs (r : List Nat) : Nat := dwBits r 11 0 8
def trkVelMin (r : List Nat) : Nat := dwBits r 12 16 16
def trkKick (r : List Nat) : Int := dwBits r 12 0 16
def jumpKick (r : List Nat) : Int := dwBits r 13 16 16
def jumpBrake (r : List Nat) : Int := dwBits r 13 0 16
def jumpMax (r : List Nat) : Nat := dwBits r 14 16 16
def seekLand (r : List Nat) : Nat := dwBits r 14 0 16
def microstepNm (r : List Nat) : Nat := dwBits r 15 16 16
def seekRounds (r : List Nat) : Nat := dwBits r 15 8 8
def crossHyst (r : List Nat) : Int := dwBits r 15 0 8
def ljKick (r : List Nat) : Int := dwBits r 16 16 16
def ljBrake (r : List Nat) : Int := dwBits r 16 0 16
def ljSaUs (r : List Nat) : Nat := dwBits r 17 16 16
def tiltRamp (r : List Nat) : Nat := dwBits r 17 0 16
def focSens (r : List Nat) : Nat := dwBits r 18 16 16
def trkSens (r : List Nat) : Nat := dwBits r 18 0 16
def profRampUs (r : List Nat) : Nat := dwBits r 19 16 16
def profMatch (r : List Nat) : Nat := dwBits r 19 8 8
def profResid (r : List Nat) : Nat := dwBits r 19 0 8

def inR (v lo hi : Nat) : Bool := decide (lo ≤ v) && decide (v ≤ hi)

/-- A sequence record for class c is accepted (R128). -/
def seqOk (c : Nat) (r : List Nat) : Bool :=
  crcOk r 32 && dwBits r 0 24 8 == 1 && dwBits r 0 16 3 == c && decide (rateDiv r ≤ 2) &&
  decide (focDown r < 0) && decide (0 < focUp r) && inR (focAttempts r) 1 8 && inR (focAttemptMs r) 10 255 && inR (sweepMs r) 2 60 &&
  decide (3 * sweepMs r + 2 ≤ 2 * focAttemptMs r) && decide (skipN r ≤ 3) && decide (0 < sumLost r) && decide (sumLost r < sumTh r) &&
  inR (focVerify r) 16 4096 && inR (lostN r) 1 64 && inR (lossMax r) 1 255 && inR (trkLockN r) 16 4096 && inR (trkOnMs r) 5 255 &&
  inR (ljMs r) 2 100 && inR (jumpMax r) 4 1024 && inR (seekRounds r) 1 8 && inR (profRampUs r) 100 20000 &&
  (List.range 11).all fun i => dw r (20 + i) == 0

/-! ### The drive record (R162) -/

def driveDefault (c : Nat) : List Nat :=
  withCrc ([2 ^ 24 + c * 65536 + 1, 4 * 2 ^ 24 + 3 * 65536 + 500, halves 600 300, halves 1000 400, halves 2000 2000, halves 8000 2000,
    halves 20000 200, 32 * 2 ^ 24 + 32 * 65536 + 500, halves 1200 8000, 170000, 1700000, halves 24000 8000, halves 0x0A00 100, 4000,
    40956, 37543, 99829, halves 24000 8000, halves 100 900, halves 3000 500, halves 16000 1500, 5] ++ List.replicate 9 0)

def State.driveRec (s : State) (c : Nat) : List Nat := tabGet s.cirq.driveRec c (driveDefault c)

def brakeDown (r : List Nat) : Bool := dwBits r 0 0 1 == 1
def senseMs (r : List Nat) : Nat := dwBits r 1 24 8
def startTries (r : List Nat) : Nat := dwBits r 1 16 8
def restMs (r : List Nat) : Nat := dwBits r 1 0 16
def alignMa (r : List Nat) : Nat := dwBits r 2 16 16
def alignMs (r : List Nat) : Nat := dwBits r 2 0 16
def olAccel (r : List Nat) : Nat := dwBits r 3 16 16
def olRpm (r : List Nat) : Nat := dwBits r 3 0 16
def accelOf (r : List Nat) : Nat := dwBits r 4 16 16
def decelOf (r : List Nat) : Nat := dwBits r 4 0 16
def spinupMs (r : List Nat) : Nat := dwBits r 5 16 16
def shortMs (r : List Nat) : Nat := dwBits r 5 0 16
def coastMs (r : List Nat) : Nat := dwBits r 6 16 16
def dwellMs (r : List Nat) : Nat := dwBits r 6 0 16
def hystOf (r : List Nat) : Nat := dwBits r 7 24 8
def marginOf (r : List Nat) : Nat := dwBits r 7 16 8
def drainMs (r : List Nat) : Nat := dwBits r 7 0 16
def rpmMin (r : List Nat) : Nat := dwBits r 8 16 16
def rpmMax (r : List Nat) : Nat := dwBits r 8 0 16
def vmaxOf (r : List Nat) : Nat := dw r 9
def amaxOf (r : List Nat) : Nat := dw r 10
def iRun (r : List Nat) : Nat := dwBits r 11 16 16
def iHold (r : List Nat) : Nat := dwBits r 11 0 16
def kvOf (r : List Nat) : Nat := dwBits r 12 16 16
def holdDelayMs (r : List Nat) : Nat := dwBits r 12 0 16
def vstopOf (r : List Nat) : Nat := dw r 13
def parkPos (r : List Nat) : Int := signed 32 (dw r 14)
def limIn (r : List Nat) : Int := signed 32 (dw r 15)
def limOut (r : List Nat) : Int := signed 32 (dw r 16)
def trayMax (r : List Nat) : Nat := dwBits r 17 16 16
def traySlow (r : List Nat) : Nat := dwBits r 17 0 16
def trayRampMs (r : List Nat) : Nat := dwBits r 18 16 16
def traySlowMs (r : List Nat) : Nat := dwBits r 18 0 16
def trayMs (r : List Nat) : Nat := dwBits r 19 16 16
def swLeaveMs (r : List Nat) : Nat := dwBits r 19 0 16
def clampDrive (r : List Nat) : Nat := dwBits r 20 16 16
def clampMs (r : List Nat) : Nat := dwBits r 20 0 16
def debounceMs (r : List Nat) : Nat := dwBits r 21 0 8

/-- A drive record for class c is accepted (R162). -/
def driveOk (c : Nat) (r : List Nat) : Bool :=
  crcOk r 32 && dwBits r 0 24 8 == 1 && dwBits r 0 16 3 == c && inR (senseMs r) 2 50 && inR (startTries r) 1 8 && decide (restMs r ≤ 5000) &&
  inR (alignMs r) 50 2000 && inR (olRpm r) 300 1200 && inR (accelOf r) 100 10000 && inR (decelOf r) 100 10000 && inR (spinupMs r) 1000 30000 &&
  inR (dwellMs r) 10 5000 && inR (drainMs r) 50 10000 && decide (1200 ≤ rpmMin r) && decide (rpmMin r < rpmMax r) && decide (rpmMax r ≤ 8000) &&
  inR (vmaxOf r) 1 2147483647 && inR (amaxOf r) 1 2147483647 && decide (iRun r ≤ 32767) && decide (iHold r ≤ 32767) &&
  decide (limIn r < limOut r) && decide (traySlow r ≤ trayMax r) && decide (trayMax r ≤ 32767) && inR (debounceMs r) 1 50 &&
  (List.range 9).all fun i => dw r (22 + i) == 0

/-! ### Loop 7 records (R565) and coefficient records (R101, R102) -/

/-- The default loop 7 record. -/
def commDefault : List Nat :=
  withCrc ([7 * 2 ^ 24 + 65536 + 0x0A, 0, 0, 0, 0, 0, 0, 0, halves 1000 6, halves 120 1800, halves 13200 520, halves 1500 800,
    halves 0x0200 0x0100, halves 200 400, halves 64880 655] ++ List.replicate 112 0)

def winNs (r : List Nat) : Nat := dwBits r 8 16 16
def poleRaw (r : List Nat) : Nat := dwBits r 8 0 5
/-- Pole pairs; a bank that is not there counts as 1. -/
def poles (r : List Nat) : Nat := max 1 (poleRaw r)
def lsUh (r : List Nat) : Nat := dwBits r 9 16 16
def rsMohm (r : List Nat) : Nat := dwBits r 9 0 16
def vbusMax (r : List Nat) : Nat := dwBits r 10 16 16
def keOf (r : List Nat) : Nat := dwBits r 10 0 16
def iqMax (r : List Nat) : Nat := dwBits r 11 16 16
def iqBrake (r : List Nat) : Nat := dwBits r 11 0 16
def kiI (r : List Nat) : Nat := dwBits r 12 16 16
def kpI (r : List Nat) : Nat := dwBits r 12 0 16
def obsBw (r : List Nat) : Nat := dwBits r 13 16 16
def obsMin (r : List Nat) : Nat := dwBits r 13 0 16
def dutyMax (r : List Nat) : Nat := dwBits r 14 16 16
def dutyMin (r : List Nat) : Nat := dwBits r 14 0 16

/-- Loops 3, 5, 6 and 7 are always wide (R94). -/
def alwaysWide (l : Nat) : Bool := l == 3 || l == 5 || l == 6 || l == 7

/-- The bits of dword i that a record of format f of a loop defines (R101, R565). -/
def coefMask (l f i : Nat) : Nat :=
  let full := 0xFFFFFFFF
  if i = 0 then 0x0701F0FF
  else if i = 127 then full
  else if l = 7 then
    (if i = 8 then 0xFFFF001F else if 9 ≤ i ∧ i ≤ 14 then full else 0)
  else if i = 1 then 0x001FFFFF
  else if i = 2 ∨ i = 3 then (if f = 0 then 0xFFFF else full)
  else if i = 4 then full
  else if i = 5 then 0x0F00FFFF
  else if i = 6 then 0xFFFF
  else if i = 7 then 0
  else if f = 0 then (if 38 ≤ i then 0 else if (i - 8) % 3 = 2 then 0x3FFFF else full)
  else (if 68 ≤ i then 0 else if (i - 8) % 6 = 5 then 0x1FFFFFF else full)

/-- No reserved bit of a record is set. -/
def coefReservedOk (l : Nat) (r : List Nat) : Bool :=
  (List.range 128).all fun i => Nat.land (dw r i) (coefMask l (recFmt r) i) == dw r i

/-- The code of R102 and R565 for a record addressed to loop l, 0 when it is accepted: 1 CRC, 3 format, 6 anything else. -/
def coefErr (l : Nat) (r : List Nat) : Nat :=
  if !crcOk r 128 then 1
  else if alwaysWide l && recFmt r == 0 then 3
  else if recLoop r ≠ l ∨ !coefReservedOk l r then 6
  else if l = 7 then
    (if recNbq r = 0 ∧ recInSel r = 0x0A ∧ inR (winNs r) 500 4000 ∧ inR (poleRaw r) 1 16 then 0 else 6)
  else if 10 < recNbq r ∨ 15 < recInExp r ∨ 10 < recSoftShift r ∨ recOutMax r < recOutMin r ∨ 0x0A < recInSel r then 6
  else if recFmt r = 0 ∧ ((List.range 10).any fun j => dwBits r (8 + 3 * j + 2) 16 2 == 3) then 6
  else 0

/-- The input code of a design that the device ships: the error signal of its loop (spec/05 "Servo signals of a slot"). -/
def shippedInSel (l : Nat) : Nat := [0x00, 0x09, 0x06, 0x07, 0x08, 0x0A, 0x0A].getD l 0

/-- A design that the device ships for class 0 (spec/05 "Shipped library designs"): LOOP, FMT, the biquads used and the input of its loop are stated, every
reserved bit is 0 and the CRC holds; its coefficients are not stated (notes/assumptions/5.md). -/
def shippedRec (l f : Nat) : List Nat :=
  let nbq := if l < 6 then [5, 6, 2, 2, 1, 1].getD l 0 else Config.shippedCoef l f 0 / 2 ^ 12 % 11
  withCrc ((l * 2 ^ 24 + f * 2 ^ 16 + nbq * 2 ^ 12 + shippedInSel l) ::
    (List.range 126).map fun i => Nat.land (Config.shippedCoef l f (i + 1)) (coefMask l f (i + 1)))

/-- The library's record for a class, loop and format: the one written last; else what the device ships: the default loop 7 record, and the designs for
class 0. Where there is none, a slot takes an empty active bank, in which every field reads 0 (DESIGN CHOICE, notes/assumptions/95.md). -/
def State.libRec (s : State) (c l f : Nat) : List Nat :=
  tabGet s.cirq.library (c * 16 + l * 2 + f)
    (if l = 7 then (if f = 1 then commDefault else [])
     else if c = 0 ∧ (f = 1 ∨ ¬ alwaysWide l) then shippedRec l f
     else [])

/-! ### Sled tables (R179) -/

/-- Entry i of the default sine table: round(65,535 cos(pi i / 512)) and round(65,535 sin(pi i / 512)), SB above CA. -/
def sineQ30 (x : Nat) : Int :=
  -- sin of x quarter turns in 2^-30, 0 <= x <= 2^30
  let y : Int := (x * 1686629713 : Nat) / 2 ^ 30
  let y2 := y * y / 2 ^ 30
  let t3 := y * y2 / 2 ^ 30
  let t5 := t3 * y2 / 2 ^ 30
  let t7 := t5 * y2 / 2 ^ 30
  let t9 := t7 * y2 / 2 ^ 30
  let t11 := t9 * y2 / 2 ^ 30
  let t13 := t11 * y2 / 2 ^ 30
  y - t3 / 6 + t5 / 120 - t7 / 5040 + t9 / 362880 - t11 / 39916800 + t13 / 6227020800

def sledDefault : List Nat :=
  (List.range 256).map fun i =>
    let f := fun (q : Nat) => ((65535 * sineQ30 q + 2 ^ 29) / 2 ^ 30).toNat
    halves (f (i * 2 ^ 22)) (f (2 ^ 30 - i * 2 ^ 22))

def State.sledTable (s : State) (c : Nat) : List Nat := tabGet s.cirq.sledTbl c sledDefault

/-! ### Calibration records (R203) and profiles (R153) -/

def calKey (space index layer : Nat) : Nat := (space * 4096 + index) * 16 + layer

def State.calRec (s : State) (space index layer : Nat) : CalRec := tabGet s.cal (calKey space index layer) {}

def State.modCal (s : State) (space index layer : Nat) (f : CalRec → CalRec) : State :=
  { s with cal := tabMod s.cal (calKey space index layer) {} f }

/-- The values of a layer table entry (R125): offsets of loops 0, 1, 3 and 4, the SA preset, the read power. -/
def calOffs (r : CalRec) : List Int :=
  [signed 16 (dw r.d 0), signed 16 (dwBits r.d 0 16 16), signed 16 (dw r.d 1), signed 16 (dwBits r.d 1 16 16)]
def calSaPreset (r : CalRec) : Int := signed 16 (dw r.d 2)
def calLread (r : CalRec) : Nat := dwBits r.d 2 16 16
def calPw (r : CalRec) (b : Nat) : Nat := dwBits r.d (3 + b / 2) (16 * (b % 2)) 16
def calValid (r : CalRec) (item : Nat) : Bool := bitAt (dw r.d 6) item == 1
def calStale (r : CalRec) (item : Nat) : Bool := bitAt (dw r.d 6) (8 + item) == 1

/-- A list with entry i replaced. -/
def setAt {α : Type} (l : List α) (i : Nat) (v : α) : List α := l.set i v

def profKey (n layer : Nat) : Nat := n * 16 + layer

def State.profRec (s : State) (n layer : Nat) : ProfRec := tabGet s.profiles (profKey n layer) {}

/-- DRAM holds a profile for a layer of the disc in mechanism n. -/
def State.hasProfile (s : State) (n layer : Nat) : Bool := !(s.profRec n layer).focus.isEmpty

/-! ### Slots -/

def State.sx (s : State) (n : Nat) : ServoX := tabGet s.servo n {}

def State.modServo (s : State) (n : Nat) (f : ServoX → ServoX) : State := { s with servo := tabMod s.servo n {} f }
def State.modSpin (s : State) (n : Nat) (f : SpinX → SpinX) : State := s.modServo n fun v => { v with spin := f v.spin }

def State.modCirq (s : State) (f : CirqState → CirqState) : State := { s with cirq := f s.cirq }

/-- The mechanism holds a Cirque slot, at this cluster and slot (R35). -/
def State.holdsSlot (s : State) (n : Nat) : Bool := s.on .MECH_SERVO_SLOT_VALID n
def State.clusterOf (s : State) (n : Nat) : Nat := s.get .MECH_SERVO_CLUSTER n
def State.slotOf (s : State) (n : Nat) : Nat := s.get .MECH_SERVO_SLOT n

/-- Loop l of mechanism n's slot. -/
def State.lx (s : State) (n l : Nat) : LoopX := tabGet (s.sx n).loops l {}

def State.modLoop (s : State) (n l : Nat) (f : LoopX → LoopX) : State :=
  s.modServo n fun v => { v with loops := tabMod v.loops l {} f }

/-- State of loop l in CIRQ_LSTAT (R104): 0 OFF, 1 CLOSED, 2 HOLD, 3 SOFT. -/
def State.ls (s : State) (n l : Nat) : Nat := s.get .CIRQ_LSTAT_LS (s.clusterOf n) (s.slotOf n) / 4 ^ l % 4

def State.setLs (s : State) (n l v : Nat) : State :=
  let w := s.get .CIRQ_LSTAT_LS (s.clusterOf n) (s.slotOf n)
  s.set2 .CIRQ_LSTAT_LS (s.clusterOf n) (s.slotOf n) (w - w / 4 ^ l % 4 * 4 ^ l + v * 4 ^ l)

/-- The servo sample period of a slot, ns (R65, R66). -/
def State.samplePeriod (s : State) (n : Nat) : Nat :=
  1000 * rateUs (s.px (portOf n)).rate * 2 ^ s.get .CIRQ_SLOT_SUB (s.clusterOf n) (s.slotOf n)

/-- Mechanism status and state helpers. -/
def State.mst (s : State) (n : Nat) : Nat := s.get .MECH_STATE_STATE n

/-- The mechanism is used as an EX1: its bridge is one, or its drop trained at version 1.0 (R31). -/
def State.asEx1 (s : State) (n : Nat) : Bool := s.get .MECH_BRIDGE_GEN n == 1 || s.get .MECH_BRIDGE_LINK_VER n == 0x10

/-- A mechanism runs single-beam: by its generation or link version, or in BD mode (R31, R126). -/
def State.singleBeam (s : State) (n : Nat) : Bool :=
  decide (s.get .MECH_BRIDGE_GEN n < 4) || decide (s.get .MECH_BRIDGE_LINK_VER n < 0x20) || s.get .MECH_DISC_MEDIA n == 8 ||
  s.get .MECH_DISC_MEDIA n == 9

def isBd (media : Nat) : Bool := media == 8 || media == 9
def isHaf (media : Nat) : Bool := media == 1 || media == 2 || media == 3

end Sys2Proof.Machine
end

