-- ==== Sys2Proof/Machine/Commutation.lean ====
section
/-! DEFINITION. Loop 7: commutation and observer in one PWM period (spec/06_spindle_and_sled.md R160, R164, R165). The manual states real
quantities and bounds each duty to 1 count of the exact value; here they are fixed-point numbers, and each duty carries a free deviation of
at most 1 count (notes/assumptions/7.md). -/

namespace Sys2Proof.Machine

/-- Integer square root: the bits of the root from bit k - 1 down. -/
def isqrtGo : Nat → Nat → Nat → Nat
  | 0, _, r => r
  | k + 1, n, r => if (r + 2 ^ k) * (r + 2 ^ k) ≤ n then isqrtGo k n (r + 2 ^ k) else isqrtGo k n r

def isqrt (n : Nat) : Nat := isqrtGo 64 n 0

/-- sin of an angle in 2^-32 turns, in 2^-30. -/
def sinT (a : Int) : Int :=
  let x := (a % 2 ^ 32).toNat
  let q := x / 2 ^ 30
  let f := x % 2 ^ 30
  if q = 0 then sineQ30 f else if q = 1 then sineQ30 (2 ^ 30 - f) else if q = 2 then -sineQ30 f else -sineQ30 (2 ^ 30 - f)

def cosT (a : Int) : Int := sinT (a + 2 ^ 30)

/-- v x w / 2^30, for a sine or cosine w. -/
def mul30 (v w : Int) : Int := v * w / 2 ^ 30

/-- Phases ordered by duty into hi, mid and lo; equal duties rank U above V above W (R160). -/
def phaseOrder (d : List Int) : List Nat :=
  let u := d.getD 0 0; let v := d.getD 1 0; let w := d.getD 2 0
  if u ≥ v ∧ v ≥ w then [0, 1, 2]
  else if u ≥ w ∧ w > v then [0, 2, 1]
  else if v > u ∧ u ≥ w then [1, 0, 2]
  else if v ≥ w ∧ w > u then [1, 2, 0]
  else if w > u ∧ u ≥ v then [2, 0, 1]
  else [2, 1, 0]

/-- The phase currents U, V, W from the two shunt samples under the order of the last applied duties (R164, step 1). -/
def phaseCurrents (d : List Int) (ish1 ish2 : Int) : List Int :=
  let o := phaseOrder d
  let hi := ish1
  let lo := -ish2
  let mid := -hi - lo
  (List.range 3).map fun p => if o.getD 0 0 = p then hi else if o.getD 1 0 = p then mid else lo

/-- The observer's step (R164, step 2): back-EMF estimate, angle error, speed and angle. -/
structure Observed where
  eA : Int
  eB : Int
  mag : Nat
  omega : Int
  theta : Int

def observe (r : List Nat) (sp : SpinX) (iA iB : Int) : Observed :=
  let rs : Int := rsMohm r
  let l : Int := lsUh r
  let eA := sp.vPrevA - rs * iA / 1000 - l * (iA - sp.iPrevA) / 16
  let eB := sp.vPrevB - rs * iB / 1000 - l * (iB - sp.iPrevB) / 16
  let mag := isqrt ((eA * eA + eB * eB).toNat)
  let ed := mul30 eA (cosT sp.theta) + mul30 eB (sinT sp.theta)
  let eps : Int := if mag = 0 then 0 else -(if sp.omega < 0 then -1 else 1) * ed * 2 ^ 30 / mag
  let bw : Int := obsBw r
  let omega := sp.omega + bw * bw * eps * 7074237752 / 2 ^ 60
  let theta := (sp.theta + omega * 1048576 / 1000000 + bw * eps * 128 / 1000000) % 2 ^ 32
  { eA := eA, eB := eB, mag := mag, omega := omega, theta := theta }

/-- The angle of a vector in 2^-32 turns, from its top bit down: each bit is kept while the vector does not lie before the angle. `q` is the quadrant. -/
def angleGo (a b : Int) : Nat → Int → Int
  | 0, th => th
  | k + 1, th =>
    let t := th + 2 ^ k
    if 0 ≤ b * cosT t - a * sinT t then angleGo a b k t else angleGo a b k th

def angleOf (a b : Int) : Int :=
  if a = 0 ∧ b = 0 then 0
  else if 0 < a ∧ 0 ≤ b then angleGo a b 30 0
  else if a ≤ 0 ∧ 0 < b then angleGo a b 30 (2 ^ 30)
  else if a < 0 ∧ b ≤ 0 then angleGo a b 30 (2 ^ 31)
  else angleGo a b 30 (3 * 2 ^ 30)

/-- The back-EMF vector, α and β in uV, from the line voltages U-W and V-W of floating phases (spec/03 BEMF_A, BEMF_B). -/
def emfVector (uw vw : Int) : Int × Int := ((2 * uw - vw) / 3, vw * 619925131 / 2 ^ 30)

/-- One sample of SENSE (R166). How the vector is averaged over SENSE_MS the manual does not say: amplitude and angle are those of the last sample, the rate
is the angle turned between the first and the last (DESIGN CHOICE, notes/assumptions/99.md). -/
def senseStep (x : SenseX) (now : Nat) (a b : Int) : SenseX :=
  let v := emfVector a b
  let th := (angleOf v.1 v.2 % 2 ^ 32).toNat
  let turned := match x.from_ with
    | none => 0
    | some _ => x.turned + signed 32 ((th + 2 ^ 32 - x.angle) % 2 ^ 32)
  { from_ := some (x.from_.getD now), at_ := now, angle := th, turned := turned, mag := isqrt ((v.1 * v.1 + v.2 * v.2).toNat) }

/-- The rate that SENSE measured, in 2^-16 electrical turns a second. -/
def senseRate (x : SenseX) : Int := match x.from_ with
  | none => 0
  | some t => if x.at_ ≤ t then 0 else x.turned * 1000000000 / ((x.at_ - t : Nat) * 65536)

/-- Mechanical speed in rpm x 4 of an electrical speed (R164). -/
def rpm4 (r : List Nat) (omega : Int) : Nat := omega.natAbs * 240 / 65536 / poles r

/-- Electrical speed of a mechanical speed in 2^-16 rpm. -/
def elecOf (r : List Nat) (rpm16 : Int) : Int := rpm16 * poles r / 60

/-- The torque current demanded (R164): o3 of loop 6 scaled to IQ_MAX, the driving side under THROTTLE, the braking side withdrawn while
the bus stands high. uA. -/
def iqDemand (r : List Nat) (o3 : Int) (throttle : Nat) (noBrake : Bool) : Int :=
  clampI (o3 * (iqMax r * 1000) / 32767) (if noBrake then 0 else -((iqBrake r : Int) * 1000)) ((iqMax r : Int) * 1000 * throttle / 256)

/-- The bus is too high for braking current, until it falls 2 % below VBUS_MAX (R164). `v` in uV. -/
def brakeWithdrawn (r : List Nat) (was : Bool) (v : Int) : Bool :=
  let lim : Int := vbusMax r * 1000
  if lim < v then true else if was then decide (lim * 98 / 100 ≤ v) else false

/-- Duties from the phase voltages (R164, step 5). -/
def dutiesOf (r : List Nat) (vA vB vbus : Int) : List Int :=
  let h := vB * 929887697 / 2 ^ 30
  let v := [vA, -vA / 2 + h, -vA / 2 - h]
  let mx := max (v.getD 0 0) (max (v.getD 1 0) (v.getD 2 0))
  let mn := min (v.getD 0 0) (min (v.getD 1 0) (v.getD 2 0))
  let vo := -(mx + mn) / 2
  v.map fun x => clampI (32768 + (if vbus ≤ 0 then 0 else ((x + vo) * 65536 * 2 + vbus) / (2 * vbus))) (dutyMin r) (dutyMax r)

/-- PWM_SHIFT of R165 and whether a window stays below WIN_NS. -/
def pwmShift (r : List Nat) (d : List Int) (period : Nat) : Int × Bool :=
  let o := phaseOrder d
  let at_ := fun (i : Nat) => d.getD (o.getD i 0) 0
  -- windows in 1/131072 of the period
  let w1 := at_ 0 - at_ 1
  let w2 := at_ 1 - at_ 2
  let need : Int := winNs r * 131072
  if need ≤ w1 * 16000 ∧ need ≤ w2 * 16000 then (0, false)
  else
    let m := min w1 w2
    let mag := (((winNs r : Int) * 131072 - m * 16000) * 65536 + 16000 * 131072 - 1) / 16000 / 131072
    -- no pulse past either end of the period: half width is d / 131072, the room on each side (65536 - d) / 131072
    let room := min ((65536 - at_ 0) / 2) ((65536 - at_ 2) / 2)
    let mag1 := max 0 (min mag room)
    let ok := need ≤ (m + 2 * mag1) * 16000
    (if period % 2 = 0 then mag1 else -mag1, !ok)

/-- What one driven PWM period gives: the PWM fields (U, V, W, shift) and the new record. -/
structure Period where
  sp : SpinX
  duties : List Int
  noWin : Bool

/-- Voltages applied to the frame of angle `th` and the duties (R164, steps 4 to 6). `free` gives the deviation of each duty. -/
def applyV (r : List Nat) (sp : SpinX) (vd vq th vbus : Int) (period : Nat) (free : List Int) : Period :=
  let vA := mul30 vd (cosT th) - mul30 vq (sinT th)
  let vB := mul30 vd (sinT th) + mul30 vq (cosT th)
  let d0 := dutiesOf r vA vB vbus
  let d := (List.range 3).map fun i => clampI (d0.getD i 0 + free.getD i 0) (dutyMin r) (dutyMax r)
  let sh := pwmShift r d period
  { sp := { sp with vPrevA := vA, vPrevB := vB, duties := d ++ [sh.1], noWin := sh.2 }, duties := d ++ [sh.1], noWin := sh.2 }

/-- The currents of the period: the two samples, or those the electrical model predicts when the last windows were too narrow (R165). -/
def currents (r : List Nat) (sp : SpinX) (ish1 ish2 : Int) : Int × Int :=
  if sp.noWin then
    let e : Int := keOf r * sp.omega * 60 / 65536 / poles r
    let eA := -mul30 e (sinT sp.theta)
    let eB := mul30 e (cosT sp.theta)
    let l : Int := max 1 (lsUh r)
    (sp.iPrevA + (sp.vPrevA - (rsMohm r : Int) * sp.iPrevA / 1000 - eA) * 16 / l,
     sp.iPrevB + (sp.vPrevB - (rsMohm r : Int) * sp.iPrevB / 1000 - eB) * 16 / l)
  else
    let i := phaseCurrents sp.duties ish1 ish2
    (i.getD 0 0, (i.getD 1 0 - i.getD 2 0) * 619925131 / 2 ^ 30)

/-- One PWM period with the spindle driven (R164). `lead` is the angle and speed of the frame that the voltages use where they are forced, else the
observer's; `ids` and `iqs` are the currents demanded in uA: the vector of ALIGN and RAMP lies on the d axis, at the forced angle (R169); currents in
uA, bus in uV. -/
def commute (r : List Nat) (sp0 : SpinX) (ish1 ish2 vbus ids iqs : Int) (lead : Option (Int × Int)) (period : Nat) (free : List Int) : Period × Nat :=
  let i := currents r sp0 ish1 ish2
  let ob := observe r sp0 i.1 i.2
  let sp := { sp0 with omega := ob.omega, theta := ob.theta, iPrevA := i.1, iPrevB := i.2 }
  let th := (lead.map (·.1)).getD sp.theta
  let w := (lead.map (·.2)).getD sp.omega
  let id := mul30 i.1 (cosT th) + mul30 i.2 (sinT th)
  let iq := -mul30 i.1 (sinT th) + mul30 i.2 (cosT th)
  let wl := fun (x : Int) => w * lsUh r * x * 6746518852 / 2 ^ 30 / 65536 / 1000000
  let kp : Int := kpI r
  let ki : Int := kiI r
  let intD := sp.intD + ki * (ids - id) * 16 / 256000
  let intQ := sp.intQ + ki * (iqs - iq) * 16 / 256000
  let eff : Int := keOf r * w * 60 / 65536 / poles r
  let vd := (rsMohm r : Int) * ids / 1000 + kp * (ids - id) / 256 + intD - wl iq
  let vq := (rsMohm r : Int) * iqs / 1000 + eff + wl id + kp * (iqs - iq) / 256 + intQ
  let lim := vbus * 619925131 / 2 ^ 30
  let mag : Int := isqrt ((vd * vd + vq * vq).toNat)
  if lim < mag then (applyV r sp (vd * lim / mag) (vq * lim / mag) th vbus period free, ob.mag)
  else (applyV r { sp with intD := intD, intQ := intQ } vd vq th vbus period free, ob.mag)

end Sys2Proof.Machine
end

