-- ==== Sys2Proof/Machine/CirqOps.lean ====
section
/-! DEFINITION. Shared operations of the Cirque engine: slot cost, placement, taking and releasing slots, banks and the swap rule
(spec/04_cirque_engine.md R91 to R108). -/

namespace Sys2Proof.Machine

/-! ### Capacity and placement (R91, R92) -/

/-- Lines per us of a slot in a cluster of format f, in sixteenths: 44 or 88 lines a sample at 1, 1/2, 1/4 ... MHz. -/
def slotLines (fmt rate sub : Nat) : Nat := (if fmt = 1 then 88 else 44) * (16 / (rateUs rate * 2 ^ sub))

/-- Slots of cluster c that are held. -/
def State.heldSlots (s : State) (c : Nat) : List Nat := (List.range 32).filter fun k => s.on .CIRQ_SLOT_VALID c k

/-- The mechanism in slot k of cluster c. -/
def State.slotMn (s : State) (c k : Nat) : Nat := s.get .CIRQ_SLOT_MN c k

/-- Lines per us committed in cluster c were its format f, in sixteenths (R91). -/
def State.clusterLines (s : State) (c fmt : Nat) : Nat :=
  (s.heldSlots c).foldl (fun a k =>
    a + slotLines fmt (s.px (portOf (s.slotMn c k))).rate (s.get .CIRQ_SLOT_SUB c k)) 0

/-- The nominal arrival of a slot after its frame start, in 1/1700 ns: LOOP_NS plus 4 words, or 8 in single-lane upstream operation, of
1.28 ns for each position before it (R91). -/
def State.arrival (s : State) (p pos : Nat) : Nat :=
  s.get .PEN_TIMING_LOOP_NS p * 1700 + pos * (if s.single p false then 8 else 4) * 2176

/-- The instant within its sample period at which a slot arrives, in 1/1700 ns, and that period. -/
def State.arrivalPhase (s : State) (p pos sub subph : Nat) : Nat × Nat :=
  let t := rateUs (s.px p).rate
  let period := t * 1700000 * 2 ^ sub
  ((s.arrival p pos + (s.px p).phase * t * 100000 + subph * t * 1700000) % period, period)

/-- Two arrivals are at least 6 cycles (6,800 units) apart in every frame in which both sample (R92). -/
def apart (a b : Nat × Nat) : Bool :=
  let m := min a.2 b.2
  let d := (a.1 % m + m - b.1 % m) % m
  decide (6800 ≤ d) && decide (6800 ≤ m - d)

/-- The arrival of the mechanism that holds a servo position. -/
def State.arrivalOf (s : State) (n : Nat) : Nat × Nat :=
  match s.positionOf (portOf n) (dropOf n) with
  | none => (0, 1)
  | some k =>
    let w := s.smapView (portOf n) k
    s.arrivalPhase (portOf n) k (bitsOf w 13 2) (bitsOf w 11 2)

/-- The lowest free slot of a cluster, one that no planned move has taken (R92, R110). -/
def State.freeSlot (s : State) (c : Nat) : Option Nat :=
  (List.range 32).find? fun k => !s.on .CIRQ_SLOT_VALID c k && !s.cirq.moves.any fun m => m.cluster == c && m.slot == k

/-- The formats that cluster c has and will have when an accepted FORMAT operation ends (R91, R121). -/
def State.formatsOf (s : State) (c : Nat) : List Nat :=
  s.get .CIRQ_FMT_FMT c :: match s.cirq.ho with
    | some h => if h.op = 3 ∧ h.src = c then [h.fmt] else []
    | none => []

/-- Cluster c can take a slot with this arrival and cost (R92). -/
def State.canPlace (s : State) (c p sub : Nat) (a : Nat × Nat) : Bool :=
  s.get .CIRQ_STATUS_ROLE c == 0 && (s.freeSlot c).isSome && (!s.cirq.uncomputed.contains c || (s.heldSlots c).isEmpty) &&
  (s.formatsOf c).all (fun f => decide (s.clusterLines c f + slotLines f (s.px p).rate sub ≤ 1408 * 16)) &&
  (s.heldSlots c).all fun k => apart a (s.arrivalOf (s.slotMn c k))

/-- Slots of cluster c from ports with the PHASE of port p. -/
def State.samePhase (s : State) (c p : Nat) : Nat :=
  ((s.heldSlots c).filter fun k => s.get .PEN_CFG_PHASE (portOf (s.slotMn c k)) == s.get .PEN_CFG_PHASE p).length

/-- The cluster of R92 for a slot: among those that qualify the one with most slots of the same PHASE, ties to the lowest index. -/
def State.choose (s : State) (p sub : Nat) (a : Nat × Nat) : Option Nat :=
  ((List.range 17).filter fun c => s.canPlace c p sub a).foldl (fun (best : Option Nat) c =>
    match best with
    | none => some c
    | some b => if s.samePhase b p < s.samePhase c p then some c else some b) none

/-- Slots held device-wide; 512 at most (R91, R93). -/
def State.slotsUsed (s : State) : Nat := (List.range 17).foldl (fun a c => a + (s.heldSlots c).length) 0

/-! ### Taking and releasing a slot (R35, R103) -/

/-- The nominal arrival of a position in cycles after its frame start (CIRQ_SLOT.ARR_CYC). -/
def State.arrCycles (s : State) (p pos : Nat) : Nat := s.arrival p pos * 3 / 3400

/-- The slots of a port's mechanisms show their nominal arrivals after LOOP_NS or the lane mode has changed (R78, R110). -/
def State.renewArrivals (s : State) (p : Nat) : State :=
  s.forEach ((List.range 64).map fun d => p * 64 + d) fun t n =>
    match t.positionOf p (dropOf n) with
    | some k => if t.holdsSlot n then t.set2 .CIRQ_SLOT_ARR_CYC (t.clusterOf n) (t.slotOf n) (t.arrCycles p k) else t
    | none => t

/-- Write the registers of slot (c, k) for mechanism n. -/
def State.putSlot (s : State) (n c k sub pos : Nat) : State :=
  let arr := s.arrCycles (portOf n) pos
  let s1 := ((((s.set2 .CIRQ_SLOT_VALID c k 1).set2 .CIRQ_SLOT_SUB c k sub).set2 .CIRQ_SLOT_MN c k n).set2 .CIRQ_SLOT_ARR_CYC c k arr)
  ((s1.set .MECH_SERVO_SLOT_VALID n 1).set .MECH_SERVO_CLUSTER n c).set .MECH_SERVO_SLOT n k

/-- The records that a mechanism's loops take from the library (R103). -/
def State.bankFor (s : State) (n l fmt : Nat) : List Nat := s.libRec (s.clsOf n) l (if alwaysWide l then 1 else fmt)

/-- Mechanism n takes slot (c, k) with its servo position: banks from the library, loops OFF, the position's register view (R103). -/
def State.takeSlot (s : State) (n c k sub pos : Nat) : State :=
  let fmt := s.get .CIRQ_FMT_FMT c
  let loops := (List.range 8).map fun l => (l, ({ active := s.bankFor n l fmt } : LoopX))
  let s1 := (s.putSlot n c k sub pos).modServo n fun _ =>
    { loops := loops, sq := s.seqRec (s.clsOf n), dr := s.driveRec (s.clsOf n), drPlan := s.driveRec (s.clsOf n), drSled := s.driveRec (s.clsOf n),
      sled := { pos := signed 32 (s.get .MECH_SLED_POS_POS n) * 2 ^ 16, table := s.sledTable (s.clsOf n) } }
  let s2 := (s1.set2 .CIRQ_LSTAT_LS c k 0).set2 .CIRQ_LSTAT_HOLD_CNT c k 0
  (s2.set2 .CIRQ_ANGLE_THETA c k 0).modMech n fun m => { m with waitSlot := none }

/-- A drop takes servo position k: an announced map change (R71). -/
def State.takePosition (s : State) (n k sub subph : Nat) : State :=
  let w := BitVec.ofNat 32 (2 ^ 15 + sub * 2 ^ 13 + subph * 2 ^ 11 + dropOf n)
  (s.changeSmap (portOf n) k w).set2 .PEN_DROP_SERVO (portOf n) (dropOf n) 1

/-- The loops of mechanism n that the last command of CIRQ_LOOP_CMD put in HOLD leave it: CIRQ_LOOP_STAT then shows `f` (R106, R562). -/
def State.loopStatEnd (s : State) (n : Nat) (f : State → State) : State :=
  if s.on .CIRQ_LOOP_STAT_BUSY && s.get .CIRQ_LOOP_STAT_MN == n then f (s.set0 .CIRQ_LOOP_STAT_BUSY 0) else s

/-- The event and log entry of a swap abandoned, and ERR 6 where CIRQ_LOOP_STAT shows it (R106, R478). -/
def State.swapAbandoned (s : State) (n mask cause : Nat) : State :=
  (s.raise .CIRQ_EVENT_SWAP_ABANDON (s.clusterOf n)).logEntry
    { cls := 5, code := 3, sev := 1, mn := n, unit := s.clusterOf n, detail0 := mask, detail1 := cause }

/-- Loops of mechanism n that are in SOFT for a swap. -/
def State.softLoops (s : State) (n : Nat) : List Nat :=
  (List.range 7).filter fun l => bitAt (s.sx n).softMask l == 1 && s.ls n l == 3

/-- The swap whose loops are in SOFT is abandoned with cause 3: each takes its old bank, which was its shadow, back (R108, R147,
notes/assumptions/97.md). -/
def State.abandonSoft (s : State) (n : Nat) : State :=
  let ls := s.softLoops n
  if ls.isEmpty then s
  else
    let mask := ls.foldl (fun a l => a + 2 ^ l) 0
    let s1 := (s.forEach ls fun t l => (t.modLoop n l fun x => { x with active := x.shadow, shadow := x.active }).setLs n l 1).modServo n fun v =>
      { v with softMask := 0 }
    (s1.setIf (s.get .CIRQ_LOOP_STAT_MN == n) .CIRQ_LOOP_STAT_ERR 0 6).swapAbandoned n mask 3

/-- The swap of mechanism n is abandoned (R106, R118): `cause` is that of log entry 0x05.0x03, 1 HOLD_MAX, 2 handover, 3 lock loss or safe
state, 4 ABORT. Loops in HOLD return to CLOSED with their old banks and frozen states. -/
def State.abandonSwap (s : State) (n cause : Nat) : State :=
  match (s.sx n).swap with
  | none => s
  | some w =>
    let c := s.clusterOf n
    let s1 := s.forEach (List.range 7) fun t l => if bitAt w.mask l = 1 ∧ t.ls n l = 2 then t.setLs n l 1 else t
    let s2 := (s1.modServo n fun v => { v with swap := none }).set2 .CIRQ_LSTAT_HOLD_CNT c (s.slotOf n) 0
    (s2.loopStatEnd n fun t => t.set0 .CIRQ_LOOP_STAT_ERR 6).swapAbandoned n w.mask cause

/-- The generator of cluster c ends with cause `e` (CIRQ_INJ_STAT.END). -/
def State.endInj (s : State) (c e : Nat) : State :=
  match tabGet s.cirq.inj c none with
  | none => s
  | some _ => ((s.modCirq fun q => { q with inj := tabDel q.inj c }).set .CIRQ_INJ_STAT_ACTIVE c 0).set .CIRQ_INJ_STAT_END c e

/-- The generator of cluster c runs on mechanism n. -/
def State.injOn (s : State) (c n : Nat) : Bool :=
  (tabGet s.cirq.inj c none).isSome && s.get .CIRQ_INJ_CTRL_MN c == n

/-- A generator that runs on mechanism n ends with cause `e` (R157). -/
def State.endInjOf (s : State) (n e : Nat) : State := if s.injOn (s.clusterOf n) n then s.endInj (s.clusterOf n) e else s

def State.cap (s : State) (c : Nat) : CapX := tabGet s.cirq.cap c {}

def State.modCap (s : State) (c : Nat) (f : CapX → CapX) : State := s.modCirq fun q => { q with cap := tabMod q.cap c {} f }

/-- The capture of cluster c ends, with an error code (0 none, 5 slot released) (R158). -/
def State.endCap (s : State) (c err : Nat) : State :=
  if (s.cap c).armed then
    let s0 := (s.modCap c fun x => { x with armed := false }).set .CIRQ_CAP_STAT_COUNT c (s.cap c).points.length
    let s1 := (s0.set .CIRQ_CAP_STAT_ARMED c 0).set .CIRQ_CAP_STAT_TRIGGERED c 0
    let s2 := if err = 0 then s1 else s1.set .CIRQ_CAP_STAT_ERR c err
    s2.raise .CIRQ_CAP_STAT_DONE c
  else s

/-- Sled stop request (R181): pulses stop at once, v is 0, a seek under way ends with its SEEK grant returned; POS_VALID clears after a safe state or above VSTOP. -/
def State.stopSled (s : State) (n : Nat) (safe : Bool) : State :=
  let v := (s.sx n).sled.v
  let fast := decide (vstopOf (s.sx n).drSled * s.samplePeriod n * 2 ^ 16 < v.natAbs * 1000000000)
  let s1 := if s.holdsSlot n then s.modServo n fun x => { x with sled := { x.sled with v := 0, seekTgt := none, restAt := some s.now } } else s
  let s2 := s1.set .MECH_SLED_STAT_MOVING n 0
  let s3 := if (s.sx n).sled.seekTgt.isSome then s2.returnGrant n fun g => { g with seek := none } else s2
  if safe || (s.holdsSlot n && fast) then s3.set .MECH_SLED_STAT_POS_VALID n 0 else s3

/-- Mechanism n releases its Cirque slot and servo position: the swap is abandoned, generator and capture end, banks are discarded
(R35, R103, R108, R157, R158, R181). -/
def State.releaseSlot (s : State) (n : Nat) : State :=
  if !s.holdsSlot n then s
  else
    let c := s.clusterOf n
    let k := s.slotOf n
    let s1 := ((s.abandonSwap n 3).abandonSoft n).stopSled n false
    let s2 := s1.endInjOf n 4
    let s3 := if (s2.cap c).armed ∧ (s2.cap c).mn = n then s2.endCap c 5 else s2
    let s4 := (((s3.wr .CIRQ_SLOT c k 0).wr .CIRQ_LSTAT c k 0).wr .CIRQ_ANGLE c k 0)
    let s5 := ((s4.set .MECH_SERVO_SLOT_VALID n 0).set .MECH_SERVO_CLUSTER n 0).set .MECH_SERVO_SLOT n 0
    let s6 := (s5.modServo n fun _ => {}).modCirq fun q => { q with moves := q.moves.filter fun m => m.mn != n }
    (s6.dropPosition n).modMech n fun m => { m with waitSlot := none }

/-! ### Closing and opening loops (R104, R107) -/

/-- A loop closes from OFF through SOFT: states cleared, H and q the sequence's last output (R104, R107). -/
def State.closeLoop (s : State) (n l : Nat) : State :=
  ((s.modLoop n l fun x => { x with hist := [], fresh := false, blendH := x.last, q := x.last, blendK := 0 }).modServo n fun v =>
    { v with softMask := v.softMask - bitAt v.softMask l * 2 ^ l }).setLs n l 3

/-- A loop goes OFF with its states cleared; its output is then what its sequence drives, from its last output H on (R104, R134). -/
def State.openLoop (s : State) (n l : Nat) : State :=
  (s.modLoop n l fun x => { x with hist := [], fresh := false, blendH := x.last }).setLs n l 0

/-- Several loops go OFF; a swap among them is abandoned first (R147), and an injection on them ends (R157). -/
def State.openLoops (s : State) (n : Nat) (ls : List Nat) : State :=
  let s1 := (s.abandonSwap n 3).abandonSoft n
  let s2 := s1.forEach ls fun t l => t.openLoop n l
  if ls.contains (s2.get .CIRQ_INJ_CTRL_LOOP (s.clusterOf n)) then s2.endInjOf n 3 else s2

/-- Drive the output of a loop that is OFF. -/
def State.driveLoop (s : State) (n l : Nat) (v : Int) : State := s.modLoop n l fun x => { x with last := v }

end Sys2Proof.Machine
end

