-- ==== Sys2Proof/Machine/ChanOps.lean ====
section
/-! DEFINITION. Shared operations of the read and write channel: binding and releasing lanes (spec/08_firn_channel.md R209 to R215) and
the codewords of the LLR queue (spec/09_codes_and_moraine.md R256 to R267). -/

namespace Sys2Proof.Machine

def State.lane (s : State) (f : Nat) : LaneX := tabGet s.chan.lanes f {}

def State.modChan (s : State) (f : ChannelState → ChannelState) : State := { s with chan := f s.chan }

def State.modLane (s : State) (f : Nat) (g : LaneX → LaneX) : State :=
  s.modChan fun c => { c with lanes := tabMod c.lanes f {} g }

def State.modBeam (s : State) (f b : Nat) (g : BeamX → BeamX) : State :=
  s.modLane f fun x => { x with beams := tabMod x.beams b {} g }

def State.beam (s : State) (f b : Nat) : BeamX := tabGet (s.lane f).beams b {}

def State.disc (s : State) (n : Nat) : DiscX := tabGet s.chan.discs n {}

def State.modDisc (s : State) (n : Nat) (f : DiscX → DiscX) : State :=
  s.modChan fun c => { c with discs := tabMod c.discs n {} f }

/-- The lane bound to mechanism n. -/
def State.laneOf (s : State) (n : Nat) : Option Nat :=
  if s.on .MECH_SERVO_LANE_VALID n then some (s.get .MECH_SERVO_LANE n) else none

/-- Lanes bound, and lanes in service. -/
def State.boundLanes (s : State) : Nat := ((List.range 272).filter fun f => s.on .FIRN_STATUS_VALID f).length
def State.lanesInService (s : State) : Nat := ((List.range 272).filter fun f => s.get .FIRN_STATUS_LSTATE f != 5).length

/-- The lowest-numbered FREE lane. -/
def State.freeLane (s : State) : Option Nat := (List.range 272).find? fun f => s.get .FIRN_STATUS_LSTATE f == 0

/-- One more lane may be bound: at most the smaller of 256 and the lanes in service less 1 (R209). -/
def State.laneAllowed (s : State) : Bool := decide (s.boundLanes < min 256 (s.lanesInService - 1))

/-- The beams that a mechanism uses: bit b for beam b. -/
def State.beamSet (s : State) (n : Nat) : Nat := if s.singleBeam n then 1 else 0xF

/-- The channel configuration that a beam takes at an entry to SEARCH (R242): FIRN_RD_CFG, FIRN_AGC_CFG, FIRN_DEF_CFG, FIRN_SYNC_CFG. -/
def State.beamCfg (s : State) : List Word := [s.rd .FIRN_RD_CFG, s.rd .FIRN_AGC_CFG, s.rd .FIRN_DEF_CFG, s.rd .FIRN_SYNC_CFG, s.rd .FIRN_BD_CFG]

/-- The radius of the track that the head is at or seeks, in nm. -/
def State.targetRadius (s : State) (n : Nat) : Nat :=
  ((s.sx n).sled.seekTgt.getD (signed 32 (s.get .MECH_SLED_POS_POS n))).toNat * microstepNm (s.seqRec (s.clsOf n))

/-- The channel bit length of the disc, in pm: 50 nm on HAF media, that of the disc information on BD media (R220, R241). -/
def State.bitLength (s : State) (n : Nat) : Nat := if isBd (s.get .MECH_DISC_MEDIA n) then (s.disc n).bdBit else 50000

/-- The step of an oscillator, U4.28 samples per bit, whose channel rate is predicted from the spindle speed and the radius of the target track (R220): at
most all ones. -/
def State.predictedDelta (s : State) (n : Nat) : Nat :=
  let v := 2 * 31415926536 * s.targetRadius n * 1000 * s.get .MECH_SPEED_MEAS n
  if v = 0 then 2 ^ 32 - 1 else min (440000000 * 2 ^ 28 * 240 * s.bitLength n * 10 ^ 10 / v) (2 ^ 32 - 1)

/-- The channel rate of a step Δ in Mbit/s, as FIRN_BEAM.RATE holds it: 440 / Δ to the nearest (R220). -/
def rateOf (delta : Nat) : Nat := min 4095 ((440 * 2 ^ 28 + delta / 2) / max 1 delta)

/-- A new step of beam b's oscillator; RATE shows its channel rate. -/
def State.setDelta (s : State) (f b : Nat) (delta : Int) : State :=
  let d := (max 1 (min delta (2 ^ 32 - 1))).toNat
  (s.modBeam f b fun x => { x with osc := { x.osc with delta := d } }).set2 .FIRN_BEAM_RATE f b (rateOf d)

/-- The gain code that a lane asks of the bridge on each beam for the mechanism's layer. -/
def State.gainCodes (s : State) (n : Nat) : Nat := Config.gainCode (s.clsOf n) (s.sx n).layer % 256

/-- Every beam of the set goes to SEARCH with gain 1.0 and a predicted rate, the others to IDLE (R210, R220). The bridge gain code is asked for with a
CONFIG message, whose payload the manual does not lay out (R216; notes/assumptions/9.md). No frame passes yet (R23). -/
def State.startBeams (s : State) (f n : Nat) : State :=
  ((s.modLane f fun x => { x with passing := none, rfSeq := none }).sendMgmt (portOf n) (dropOf n) 2 (Config.gainPayload (s.gainCodes n))).forEach
    (List.range 4) fun t b =>
    let used := bitAt (s.beamSet n) b = 1
    let t1 := t.set2 .FIRN_BEAM_TSTATE f b (if used then 0 else 6)
    let t2 := (t1.set2 .FIRN_AGC_GAIN f b 4096).modBeam f b fun _ =>
      { cfg := s.beamCfg, gainCode := s.gainCodes n, eNom := Config.eNomStart }
    if used then t2.setDelta f b (s.predictedDelta n) else t2

/-- Entry of a beam to SEARCH: the configuration registers apply from here (R242), and the channel rate is predicted (R220). -/
def State.enterSearch (s : State) (f b : Nat) : State :=
  let s1 := if s.get .FIRN_BEAM_TSTATE f b = 3 then s.raise .FIRN_EVENT_LOCK_LOST f else s
  let s2 := (s1.set2 .FIRN_BEAM_TSTATE f b 0).modBeam f b fun x =>
    { x with since := 0, held := 0, framed := false, cfg := s.beamCfg, frm := { x.frm with chain := false, best1 := none, best2 := none, place := none } }
  s2.setDelta f b (s.predictedDelta (s.get .FIRN_STATUS_MN f))

/-- The beams of lane f that wrote search again; what they held of the RF before the run is gone. -/
def State.searchAgain (s : State) (f : Nat) : State :=
  s.forEach (List.range 4) fun t b =>
    if t.get .FIRN_BEAM_TSTATE f b = 7 then
      (t.modBeam f b fun x => { g := x.g, dc := x.dc, eNom := x.eNom, gainCode := x.gainCode }).enterSearch f b
    else t

/-- The rate feed-forward at a servo sample: every beam's step is multiplied by the ratio of the observer's speed before to its speed now (R224), on both
lanes of a migration. -/
def State.feedForward (s : State) (n : Nat) (old new : Int) : State :=
  match s.laneOf n with
  | none => s
  | some f =>
    if old = new ∨ old = 0 ∨ new = 0 then s
    else s.forEach (f :: (s.lane f).migTo.toList) fun t g => t.forEach (List.range 4) fun u b =>
      if u.get .FIRN_BEAM_TSTATE g b = 6 then u else u.setDelta g b ((u.beam g b).osc.delta * old.natAbs / new.natAbs : Nat)

/-- The head leaves its track: no cluster is being read until a frame is framed again (R23). -/
def State.headLeaves (s : State) (n : Nat) : State := match s.laneOf n with
  | none => s
  | some f => s.modLane f fun x => { x with passing := none }

/-- The taps of the class presets, which the lane program holds and the manual does not state: 120 free dwords (notes/assumptions/6.md). -/
def State.presetTaps (s : State) (f : Nat) : State := s.forEach (List.range 120) fun t i => t.wr .FIRN_TAP f i (BitVec.ofNat 32 (Config.presetTap (s.clsOf (s.get .FIRN_STATUS_MN f)) i))

/-- Load the taps of the mechanism's layer from the tap store, or the class presets (R210). -/
def State.loadTaps (s : State) (f n : Nat) : State :=
  match tabGet s.chan.taps (profKey n (s.sx n).layer) [] with
  | [] => s.presetTaps f
  | l => s.forEach (List.range 120) fun t i => t.wr .FIRN_TAP f i (l.getD i 0)

/-- Bind lane f to mechanism n. `own` is an access of the device's own. -/
def State.bindLane (s : State) (f n : Nat) (own : Bool) : State :=
  let bd := isBd (s.get .MECH_DISC_MEDIA n)
  let s1 := (((s.set .FIRN_STATUS_LSTATE f 1).set .FIRN_STATUS_VALID f 1).set .FIRN_STATUS_MN f n).set .FIRN_STATUS_BD f (b2n bd)
  let s2 := ((s1.set .MECH_SERVO_LANE_VALID n 1).set .MECH_SERVO_LANE n f).modLane f fun x =>
    { x with own := own, migTo := none, migFrom := none, stopAt := none, bankNext := none }
  let s3 := (s2.loadTaps f n).startBeams f n
  (s3.modChan fun c => { c with laneWait := c.laneWait.erase n }).wantBurst n false (s.singleBeam n)

/-- Store a lane's taps for its mechanism's layer (R211). -/
def State.storeTaps (s : State) (f n : Nat) : State :=
  let l := (List.range 120).map fun i => s.rd .FIRN_TAP f i
  s.modChan fun c => { c with taps := tabPut c.taps (profKey n (s.sx n).layer) l [] }

/-- Lane f becomes FREE. -/
def State.freeLaneRegs (s : State) (f : Nat) : State :=
  let s1 := s.forEach (List.range 4) fun t b => t.set2 .FIRN_BEAM_TSTATE f b 6
  (((((s1.set .FIRN_STATUS_LSTATE f 0).set .FIRN_STATUS_VALID f 0).set .FIRN_STATUS_MN f 0).set .FIRN_STATUS_WRITE f 0).set
    .FIRN_STATUS_BD f 0).modLane f fun x =>
      { x with beams := [], migTo := none, migFrom := none, own := false, stopAt := none, bankNext := none, after := 0, passing := none, rfSeq := none,
               run := none }

/-- Drop the codewords that a lane is still assembling (R213). -/
def State.dropAssembling (s : State) (f : Nat) : State :=
  s.modChan fun c => { c with cws := c.cws.filter fun w => !(w.lane == f && w.place == .assembling) }

/-- A decoder's registers without a codeword. -/
def State.clearDecoder (s : State) (d : Nat) : State :=
  ((((s.set .MOR_DEC_DSTATE d 0).set .MOR_DEC_LANE d 0).set .MOR_DEC_SET d 0).set .MOR_DEC_ITER d 0).set .MOR_DEC_RESUMED d 0

/-- Decoder d goes under test (R266, R484). -/
def State.testDecoder (s : State) (d : Nat) : State := ((s.clearDecoder d).set .MOR_DEC_DSTATE d 5).requestTest 3 d

/-- Decoder d becomes OUT_OF_SERVICE. -/
def State.retireDecoder (s : State) (d : Nat) : State :=
  (((s.clearDecoder d).set .MOR_DEC_DSTATE d 7).raise .MOR_EVENT_DEC_OOS).modChan fun c => { c with decTest := tabDel c.decTest d }

/-- An operation of MOR_DEC_CMD ends with a RESULT. -/
def State.decCmdDone (s : State) (r : Nat) : State := (s.set0 .MOR_DEC_CMD_STAT_BUSY 0).set0 .MOR_DEC_CMD_STAT_RESULT r

/-- Decoder d is done with its codeword: it becomes IDLE, or the operation that waits for it takes effect (R267): 1 TEST, 3 DISABLE, 4 BIST,
5 program update. -/
def State.idleDecoder (s : State) (d : Nat) : State :=
  match tabGet s.chan.decTest d 0 with
  | 1 => s.testDecoder d
  | 4 => s.testDecoder d
  | 3 => (s.retireDecoder d).decCmdDone 0
  | 5 => (s.clearDecoder d).set .MOR_DEC_DSTATE d 6
  | _ => s.clearDecoder d

/-- Codewords of mechanism n leave rings, slots, park area and decoders; no verdict is reported (R47, R267). -/
def State.discardCws (s : State) (n : Nat) : State :=
  let mine := s.chan.cws.filter fun w => w.mn == n
  let s1 := s.forEach mine fun t w => match w.place with
    | .decoding d => t.idleDecoder d
    | _ => t
  s1.modChan fun c => { c with cws := c.cws.filter (fun w => w.mn != n), reads := c.reads.filter fun r => r.mn != n }

/-- The write run of lane f ends at once, as on write-inhibit (R238): L0 in every descriptor not yet sent, clusters not completely written
are reported failed, and the WRITE grant is returned (R302). -/
def State.endWrite (s : State) (f : Nat) : State :=
  if s.on .FIRN_STATUS_WRITE f then
    let n := s.get .FIRN_STATUS_MN f
    let s0 := (s.set .FIRN_STATUS_WRITE f 0).modLane f fun x => { x with stopAt := none, run := none }
    let s1 := ((s0.searchAgain f).turnBurst n false (s.singleBeam n)).returnGrant n fun g => { g with write := none }
    let back := fun (w : WbEntry) => if w.mn = n ∧ w.phase = .writing then { w with phase := .accepted, clusters := [] } else w
    let cut := (s1.host.wbuf.filter fun w => w.mn == n && w.phase == .writing).flatMap (·.clusters)
    ((s1.modHost fun h => { h with wbuf := h.wbuf.map back }).modDisc n fun d => { d with failed := d.failed ++ cut })
  else s

/-- Mechanism n releases its lane: taps stored unless it is made safe, the burst returned, both lanes of a migration freed
(R211, R242, R47). -/
def State.releaseLane (s : State) (n : Nat) (store : Bool) : State :=
  match s.laneOf n with
  | none => s.modChan fun c => { c with laneWait := c.laneWait.erase n }
  | some f =>
    let x := s.lane f
    let s0 := s.endWrite f
    let s1 := if store then s0.storeTaps f n else s0
    let s2 := (s1.dropAssembling f).freeLaneRegs f
    let s3 := match x.migTo with
      | none => s2
      | some g => ((s2.dropAssembling g).freeLaneRegs g).set0 .FIRN_LANE_STAT_RESULT 2
    let s4 := match x.migTo with
      | none => s3
      | some _ => s3.set0 .FIRN_LANE_STAT_BUSY 0
    let s5 := (s4.set .MECH_SERVO_LANE_VALID n 0).set .MECH_SERVO_LANE n 0
    s5.dropBursts n

/-- Division to the nearest, halves up. -/
def roundDiv (a b : Int) : Int := (2 * a + b) / (2 * b)

/-! ### RF amplitude and asymmetry (R232) -/

/-- A sample joins the running window of 64; a window that `bad` has marked is left out. -/
def windowStep (a : AmpX) (y : Int) (bad : Bool) : AmpX :=
  let w : AmpX := if a.n = 0 then { a with n := 1, hi := y, lo := y, bad := bad } else { a with n := a.n + 1, hi := max a.hi y, lo := min a.lo y, bad := a.bad || bad }
  if w.n < 64 then w else if w.bad then { w with n := 0 } else { w with n := 0, count := w.count + 1, his := w.his + w.hi, los := w.los + w.lo }

/-- M of the windows counted, in 1/16 count (R232). -/
def amplitude (a : AmpX) : Nat := (roundDiv (16 * (a.his - a.los)) (max 1 a.count)).toNat

/-- The asymmetry β of the windows counted, in 1/10,000: (A1 + A2) / (A1 - A2) (R232). -/
def asymmetry (a : AmpX) : Int := if a.his = a.los then 0 else roundDiv (10000 * (a.his + a.los)) (a.his - a.los)

/-- The measures of a run begin anew on every beam of a lane. -/
def State.clearMeas (s : State) (f : Nat) : State := s.forEach (List.range 4) fun t b => t.modBeam f b fun x => { x with meas := {} }

/-- M of a mechanism since its measures began: of B0 on a single-beam mechanism, of the four beams together on a four-beam one (R194). -/
def State.rfAmplitude (s : State) (n : Nat) : Int := match s.laneOf n with
  | none => 0
  | some f =>
    let l := (if s.singleBeam n then [0] else [0, 1, 2, 3]).map fun b => (s.beam f b).meas
    (amplitude { count := l.foldl (fun a x => a + x.count) 0, his := l.foldl (fun a x => a + x.his) 0, los := l.foldl (fun a x => a + x.los) 0 } : Nat)

end Sys2Proof.Machine
end

