-- ==== Sys2Proof/Machine/FloeSets.lean ====
section
/-! DEFINITION. The members of floe sets and the state of a set (spec/10_floe_sets.md R284, R285, R299). -/

namespace Sys2Proof.Machine

def State.set_ (s : State) (id : Nat) : FloeSet := tabGet s.floe id {}
def State.modSet (s : State) (id : Nat) (f : FloeSet → FloeSet) : State := { s with floe := tabMod s.floe id {} f }

/-- The set of the disc mounted in mechanism n and its member index. -/
def State.memberOf (s : State) (n : Nat) : Option (Nat × Nat) :=
  let id := (s.mx n).discId
  if id = 0 ∨ ¬ s.on .MECH_STATE_MOUNTED n then none
  else (s.floe.find? fun e => e.2.members.contains id).map fun e => (e.1, e.2.members.idxOf id)

/-- The mechanism in which member i of a set is mounted. -/
def State.memberMn (s : State) (id i : Nat) : Option Nat :=
  let d := (s.set_ id).members.getD i 0
  (s.mech.find? fun e => e.2.discId == d && d != 0 && s.on .MECH_STATE_MOUNTED e.1).map (·.1)

def setSize (f : FloeSet) : Nat := f.k + f.m

/-- Members mounted. -/
def State.mountedOf (s : State) (id : Nat) : List Nat := (List.range (setSize (s.set_ id))).filter fun i => (s.memberMn id i).isSome

/-- The state code of R299. -/
def State.setState (s : State) (id : Nat) : Nat :=
  let f := s.set_ id
  let n := (s.mountedOf id).length
  if f.k = 0 then 0 else if f.rebuild.isSome then 4 else if n = setSize f then 1 else if f.k ≤ n then 2 else 3

/-- Two mounted members share a port or a supply domain (R285). -/
def State.placeWarn (s : State) (id : Nat) : Bool :=
  let l := (s.mountedOf id).filterMap fun i => s.memberMn id i
  l.any fun a => l.any fun b => decide (a < b) && (portOf a == portOf b || s.domOf a == s.domOf b)

/-- A set's state and placement are seen anew: entering DEGRADED or INSUFFICIENT and an arising placement set their events. -/
def State.watchSet (s : State) (id : Nat) : State :=
  let st := s.setState id
  let w := s.placeWarn id
  let f := s.set_ id
  let s1 := s.modSet id fun x => if x.k = 0 then x else { x with state := st, warn := w }
  let s2 := if st = 2 ∧ f.state ≠ 2 then s1.raise .FLOE_EVENT_DEGRADED else s1
  let s3 := if st = 3 ∧ f.state ≠ 3 then s2.raise .FLOE_EVENT_INSUFFICIENT else s2
  if w && !f.warn then s3.raise .FLOE_EVENT_PLACE_WARN else s3

def State.watchSets (s : State) : State := s.forEach (s.floe.map (·.1)) State.watchSet

end Sys2Proof.Machine
end

