-- ==== Sys2Proof/Machine/MechOps.lean ====
section
/-! DEFINITION. Shared operations on a mechanism: states and transitions, recording faults, making safe, mounts, lost WRITEs
(spec/02_mechanisms.md R34 to R56, spec/06 R177, spec/13 R360). -/

namespace Sys2Proof.Machine

/-- The laser zone of a mechanism (R496), and its permit. -/
def zoneOf (n : Nat) : Nat := n / 512
def State.permit (s : State) (n : Nat) : Bool := bitAt (s.get .SAFE_ZONE_LPERMIT) (zoneOf n) == 1

def servoActive (st : Nat) : Bool := decide (4 ≤ st) && decide (st ≤ 7)
def isRest (st : Nat) : Bool := decide (st ≤ 3)

/-- The mechanism's bit in MECH_CHG is set (R36). -/
def State.chg (s : State) (n : Nat) : State :=
  let w := s.get .MECH_CHG_CHG (n / 32)
  s.set .MECH_CHG_CHG (n / 32) (Nat.lor w (2 ^ (n % 32)))

/-- SAFE_HOLD: the permit is low and the state is not ABSENT, FAULTED or ISOLATED (R53). -/
def State.noteSafeHold (s : State) (n : Nat) : State :=
  let st := s.mst n
  s.set .MECH_STATE_SAFE_HOLD n (b2n (!s.permit n && st != 0 && st != 8 && st != 9))

/-- The written MECH_CFG takes effect (R55); the domain or class may change the mechanism's costs. -/
def State.applyCfg (s : State) (n : Nat) : State :=
  let w := s.rd .MECH_CFG n
  if (s.mx n).cfgEff = w then s
  else
    let d := s.domOf n
    let s1 := (s.modMech n fun m => { m with cfgEff := w }).modBreath fun b =>
      { b with reqs := b.reqs.map fun r => if r.cls ≠ 1 ∧ r.who = n then { r with dom := bitsOf w 0 3 } else r }
    (((s1.reevaluate d).reevaluate (s1.domOf n)).watchSets).noteSafeHold n

/-- STATE takes a value; a rest state, FAULTED or ISOLATED brings the written MECH_CFG into force; the standing cost of R304 follows, and a stream begins in
STREAMING (R173). -/
def State.enterState (s : State) (n st : Nat) : State :=
  let sa := if st = 7 ∧ s.mst n ≠ 7 then s.modMech n fun m => { m with streamAt := s.now } else s
  let s0 := sa.modMech n fun m => match servoActive st, m.activeAt with
    | true, none => { m with activeAt := some s.now }
    | false, some t => { m with activeAt := none, activeNs := m.activeNs + (s.now - t) }
    | _, _ => m
  let s1 := (s0.set .MECH_STATE_STATE n st).noteSafeHold n
  let s2 := if isRest st ∨ st = 8 ∨ st = 9 then s1.applyCfg n else s1
  if tabGet s2.breath.standing n false = decide (st ≠ 0) then s2 else s2.chargeStanding n (decide (st ≠ 0))

/-- A transition begins (R36). -/
def State.beginMove (s : State) (n target : Nat) : State := (s.set .MECH_STATE_BUSY n 1).set .MECH_STATE_TARGET n target

/-- A transition ends or is abandoned: STATE and BUSY together, and the bit of MECH_CHG (R36). -/
def State.endMove (s : State) (n st : Nat) : State :=
  let s1 := (if isRest st || st == 8 || st == 9 then s.modMech n fun m => { m with orphan := none, mountHeld := false } else s).enterState n st
  (((s1.set .MECH_STATE_BUSY n 0).set .MECH_STATE_TARGET n 0).modPort (portOf n) fun x => { x with busyAt := s.now }).chg n

/-- STATE moves between TRACKING and STREAMING: a transition of its own, which sets the bit of MECH_CHG, unless it is a step of a longer one (R36). -/
def State.stepState (s : State) (n st : Nat) : State :=
  if s.on .MECH_STATE_BUSY n then s.enterState n st else (s.enterState n st).chg n

/-- The rest state that matches clamp and mount status (R37). -/
def State.restState (s : State) (n : Nat) : Nat :=
  if (s.mx n).clamped then (if s.on .MECH_STATE_MOUNTED n then 2 else 3) else 1

/-! ### Mount (R38, R189, R210) -/

/-- The mount of mechanism n ends: what DRAM holds for its disc is discarded (R189, R210, R153). -/
def State.clearMount (s : State) (n : Nat) : State :=
  let own := fun (e : Nat) => e / 16 == n
  let s1 := (s.set .MECH_STATE_MOUNTED n 0).set .MECH_DISC_PROFILE_VALID n 0
  let s2 := (s1.modCals fun l => l.filter fun e => !(e.1 / 65536 == 0 && own e.1)).modProfiles fun l => l.filter fun e => !own e.1
  let s3 := s2.modChan fun c => { c with taps := c.taps.filter (fun e => !own e.1), discs := tabDel c.discs n,
                                          reads := c.reads.filter (fun r => r.mn != n), repairs := c.repairs.filter fun r => r.mn != n }
  (s3.modMech n fun m => { m with discId := 0, mountHeld := false }).watchSets

/-- No disc is clamped any more: MECH_DISC reads none. -/
def State.clearDisc (s : State) (n : Nat) : State := (s.clearMount n).wr .MECH_DISC n 0 0

/-! ### Faults (R46, R49, R50) -/

/-- The action of a fault code is FAULTED rather than ISOLATED (R46). -/
def actionFaulted (code : Nat) : Bool :=
  code == 0x39 || code == 0x3A || code == 0x50 || code == 0x51 || code == 0x60 || code == 0x61 || code == 0x62 || code == 0x70 || code == 0x90

/-- Codes a bridge may report (R46). -/
def bridgeCode (code : Nat) : Bool :=
  [0x10, 0x11, 0x12, 0x13, 0x20, 0x24, 0x28, 0x2C, 0x30, 0x38, 0x3A, 0x40, 0x41, 0x42, 0x43, 0x44, 0x50, 0x51, 0x80].contains code

/-- A fault is recorded with code, detail and device time (R46), and counted. -/
def State.recordFault (s : State) (n code detail : Nat) : State :=
  let before := s.mst n
  let now := s.now
  let win := ms (s.get .MECH_GCFG_FAULT_WINDOW_MS)
  let times := ((s.mx n).faultTimes.filter fun t => now < t + win) ++ (if actionFaulted code then [now] else [])
  let s1 := s.modMech n fun m => { m with faultTimes := times }
  let s2 := (((s1.set .MECH_FAULT_CODE n code).set .MECH_FAULT_DETAIL n detail).set .MECH_FAULT_COUNT n (min times.length 255)).set .MECH_FAULT_NEW n 1
  let s3 := (s2.set64 .MECH_FAULT_TIME_LO_TIME_NS .MECH_FAULT_TIME_HI_TIME_NS n now).bump .MECH_COUNT_FAULTS n
  s3.logEntry { cls := 3, code := 1, sev := 2, mn := n, detail0 := (s3.rd .MECH_FAULT n).toNat, detail1 := before }

/-- The state a fault leads to: ISOLATED by its action or by the fault limit, else FAULTED (R46, R49). -/
def State.faultTarget (s : State) (n code : Nat) : Nat :=
  let lim := s.get .MECH_GCFG_FAULT_LIMIT
  if !actionFaulted code then 9
  else if lim ≠ 0 ∧ lim ≤ (s.mx n).faultTimes.length then 9 else 8

/-- The serial number of the bridge. -/
def State.bridgeSn (s : State) (n : Nat) : Nat := s.get64 .MECH_BRIDGE_SN_LO_SN .MECH_BRIDGE_SN_HI_SN n

/-- Record isolation against the bridge serial number (R50). -/
def State.recordIsolation (s : State) (n : Nat) : State := { s with isol := tabPut s.isol n (some (s.bridgeSn n)) none }

/-- Isolation is recorded against this serial number, at whatever mechanism (R50). -/
def State.isolated (s : State) (sn : Nat) : Bool := s.isol.any fun e => e.2 == some sn

/-! ### Lost WRITEs (R360) -/

/-- A write that moved a unit of a floe set is lost: the old cluster stays referenced (R295). -/
def State.repairLost (s : State) (w : WbEntry) : State :=
  (s.raise .FLOE_EVENT_RECON_FAIL).logEntry
    { cls := 8, code := 3, sev := 2, mn := w.mn, unit := (w.stripe.map (·.1)).getD 0xFFFF, detail0 := (w.stripe.map (·.2.1)).getD 0 }

/-- The WRITEs completed under BUFFERED that the mechanism has not made durable are lost, and recorded. -/
def State.loseWrites (s : State) (n : Nat) : State :=
  let lost := s.host.wbuf.filter fun w => w.mn == n && w.buffered && w.phase != .fetching
  let s1 := s.forEach (lost.filter fun w => decide (w.fn < 256)) fun t w =>
    let t1 := t.modHost fun h => { h with losses := tabMod h.losses (w.fn * 4096 + n) {} fun l =>
      { tags := if l.tags.length < 64 then l.tags ++ [w.tag] else l.tags, count := l.count + 1 } }
    t1.logEntry { cls := 3, code := 2, sev := 3, mn := n, fn := w.fn, detail0 := w.tag, detail1 := w.count }
  let s2 := s1.forEach (lost.filter (·.reloc)) State.repairLost
  (s2.modHost fun h => { h with wbuf := h.wbuf.filter fun w => w.mn != n }).modDisc n fun d => { d with commits := [], appending := [] }

/-! ### Completing a mechanism's commands -/

/-- The commands outstanding for a mechanism. -/
def State.cmdsOf (s : State) (n : Nat) : List Ctx := s.host.cmds.filter fun c => c.qpid != 0 && c.d.mn == n && ioOpcode c.d.opcode && c.d.opcode != 0x0A

/-- Result words and flags of a data command that ends before its end (R356, "Result words of the I/O commands"). -/
def cutResult (c : Ctx) : Nat × Nat × Nat :=
  let part := fun (k : Nat) => if k < c.d.count then 32 else 0
  if c.d.opcode = 1 then
    let k := ((List.range c.d.count).takeWhile fun i => c.sent.any fun e => e.1 == i).length
    (c.flags + part k, k, if k < c.d.count then k else 0xFFFFFFFF)
  else if c.d.opcode = 2 then (c.flags + part c.done, c.done, 0)
  else if c.d.opcode = 3 then (c.flags + 32, c.done, c.count1)
  else if c.d.opcode = 0x0B then (c.flags, c.reads, c.count1 % 65536 * 65536 + min c.count2 65535)
  else (0, 0, 0)

/-- The command that a SEEK request of a SEEK_HINT serves: none of a function's, so that what drops the hint finds the request (R366). -/
def hintCmd (n : Nat) : Nat × Nat := (257, n)

/-- A hint is dropped as soon as any other command for the mechanism is scheduled: its deferred SEEK request is withdrawn (R366). -/
def State.dropHint (s : State) (n : Nat) : State :=
  if s.breath.reqs.any fun r => r.forCmd == some (hintCmd n) then
    s.modBreath fun b => { b with reqs := b.reqs.filter fun r => r.forCmd != some (hintCmd n) }
  else s

/-- Complete one command that ends early with a status; LOAD, UNMOUNT and EJECT give MECH_STATE [11:0] in RESULT0. -/
def State.cutCmd (s : State) (c : Ctx) (st : Nat) : State :=
  let r := if c.d.opcode = 6 ∨ c.d.opcode = 7 ∨ c.d.opcode = 8 then (0, (s.rd .MECH_STATE c.d.mn).toNat % 4096, 0) else cutResult c
  (((s.withdrawCmd c.fn c.d.tag).dropWrite c.fn c.d.tag)).complete c st r.1 r.2.1 r.2.2

/-- COMMITs whose covered WRITEs are all durable or lost complete (R361); `gen` is GEN of the last append. -/
def State.finishCommits (s : State) (n : Nat) : State :=
  let cs := (s.cmdsOf n).filter fun c => c.d.opcode == 4 && c.phase == .running && c.covers.all fun w => !(s.host.wbuf.any fun x => x.id == w)
  s.forEach cs fun t c =>
    let l := tabGet t.host.losses (c.fn * 4096 + n) {}
    let t1 := t.modHost fun h => { h with losses := tabDel h.losses (c.fn * 4096 + n) }
    if l.count = 0 then t1.complete c 0 16 c.count1 (t.disc n).gen
    else t1.complete c 0x0230 16 c.count1 (l.tags.headD 0)

/-- Every command of the mechanism that has not completed ends with a status, COMMITs too; `moveFault` picks the LOAD or EJECT whose move caused fault
0x39, which completes with 0x0406 (R47). Losses stay recorded for the next COMMIT (R361). -/
def State.completeAll (s : State) (n st : Nat) (moveFault : Bool) : State :=
  s.forEach (s.cmdsOf n) fun t c =>
    t.cutCmd c (if moveFault && c.started && (c.d.opcode == 7 || c.d.opcode == 8) then 0x0406 else st)

/-! ### Actuator slots (spec/03 "Downstream actuator slot") -/

/-- LASER_EN of a mechanism's actuator slots: 0 while the permit is low or a mismatch holds it (R500, R506). -/
def State.laserEn (s : State) (n : Nat) : Nat := if s.permit n && !(s.mx n).lsupHeld then (s.sx n).lasers else 0

/-- TRAY_DRIVE of a move at an instant (R185): a tray ramps up, holds TRAY_MAX until TRAY_SLOW_MS, then drives TRAY_SLOW; a clamp drives CLAMP_DRIVE. -/
def trayDrive (t : TrayX) (now : Nat) : Nat :=
  let e := now - t.start
  if 3 ≤ t.kind then clampDrive t.dr
  else if ms (traySlowMs t.dr) ≤ e then traySlow t.dr
  else if e < ms (trayRampMs t.dr) then trayMax t.dr * e / ms (trayRampMs t.dr)
  else trayMax t.dr

/-- TRAY_CMD, CLAMP_CMD and TRAY_DRIVE: a mechanism makes one move at a time, so that the two commands are never both non-zero (R161). -/
def State.trayFields (s : State) (n : Nat) : List Int :=
  match (s.mx n).tray with
  | none => [0, 0, 0]
  | some t => [if t.kind = 1 then 1 else if t.kind = 2 then 2 else 0, if t.kind = 3 then 1 else if 4 ≤ t.kind then 2 else 0, (trayDrive t s.now : Int)]

/-- The drive fields of a mechanism without a Cirque slot: no laser, no current, phases floating; the tray and the clamp as their move drives them
(DESIGN CHOICE, notes/assumptions/100.md). -/
def restDrive : List Int := [0, 0, 0, 0, 0, 0, 0, 0, -32768, 0, 0, 0]
def State.restFields (s : State) (n : Nat) : List Int := restDrive ++ s.trayFields n

/-- Version code of a drop's link version. -/
def verCode (v : Nat) : Nat := if v < 0x11 then 0 else if v < 0x20 then 1 else 2

/-- The 16 dwords of an actuator slot of mechanism n. `w` are LASER_EN, FOCUS, TRACK, TILT, SA, PWM_U, PWM_V, PWM_W, PWM_SHIFT, SLED_A, SLED_B, LREAD,
TRAY_CMD, CLAMP_CMD and TRAY_DRIVE. -/
def State.actDwords (s : State) (n : Nat) (safe again : Bool) (w : List Int) : List Nat :=
  let p := portOf n
  let f := fun (i : Nat) => w.getD i 0
  let two := fun (i j : Nat) => unsignedOf 16 (f i) + unsignedOf 16 (f j) * 2 ^ 16
  let ack := (s.dx n).fack
  let body :=
    [0xA2 + dropOf n * 2 ^ 8 + verCode (s.get .MECH_BRIDGE_LINK_VER n) * 2 ^ 14 + (s.px p).seq % 4096 * 2 ^ 16 + (s.px p).epoch % 16 * 2 ^ 28,
     b2n safe + s.stopMode n * 2 + b2n again * 4 + b2n ack.isSome * 8 + unsignedOf 4 (f 0) * 2 ^ 4 + ack.getD 0 % 256 * 2 ^ 8 +
       unsignedOf 2 (f 12) * 2 ^ 16 + unsignedOf 2 (f 13) * 2 ^ 18,
     two 1 2, two 3 4, two 5 6, two 7 8, two 9 10, two 14 11, 0, 0, 0, 0, 0, 0, 0]
  body ++ [crc32c (dwBytes body)]

/-- An actuator slot goes out; it acknowledges a fault once (R76), and its fields are those a REPEAT would send again (R77). -/
def State.sendAct (s : State) (n : Nat) (safe again : Bool) (w : List Int) : State :=
  (s.modDrop n fun d => { d with drive := w, fack := none, dueAt := none }).emit (.actuator n (s.actDwords n safe again w))

/-- What the switches read, against a move under way and against each other (R185, R186). -/
def State.trayReads (s : State) (n : Nat) (trayIn trayOut clamped : Bool) : State :=
  let now := fun (b : Bool) (a : Option Nat) => if b then some (a.getD s.now) else none
  s.modMech n fun m =>
    { m with
      trayBoth := now (trayIn && trayOut) m.trayBoth,
      tray := m.tray.map fun t =>
        { t with since := now (match t.kind with | 1 => trayIn | 2 => trayOut | 3 => clamped | _ => !clamped) t.since } }

/-! ### Making safe (R47) -/

/-- A short brake starts: it has lasted SHORT_MS at shortUntil (R176, R177). -/
def State.startShort (s : State) (n : Nat) (r : List Nat) : State := s.modMech n fun m => { m with shortUntil := s.now + ms (shortMs r) }

/-- Spindle side of the safe state (R177): COAST or SHORT as STOP_MODE selects, and when the drive stopped. -/
def State.safeSpindle (s : State) (n : Nat) : State :=
  let s0 := s.startShort n (s.driveRec (s.clsOf n))
  let s1 := s0.set .MECH_SPIN_STAT_SPIN_STATE n (if s.stopMode n = 1 then 9 else 0xA)
  let s2 := (s1.set .MECH_SPIN_STAT_OBS_LOCK n 0).set .MECH_SPIN_STAT_SHIFTING n 0
  if s.holdsSlot n then
    (s2.modMech n fun m => { m with driveStop := some s.now, stopIssued := false, spinDown := false }).setIf (s.asEx1 n) .MECH_STATE_TURNING n 1
  else s2

/-- A tray or clamp move ends: SEEK grant and servo position returned (R185, R188). -/
def State.endTray (s : State) (n : Nat) : State :=
  match (s.mx n).tray with
  | none => if (s.mx n).waitTray.isSome then (s.modMech n fun m => { m with waitTray := none }).dropPosition n else s
  | some _ => (((s.modMech n fun m => { m with tray := none, waitTray := none }).returnGrant n fun g => { g with seek := none }).dropPosition n)

/-- A tray or clamp move that is under way stops: drive 0 and command hold go out in the position's next slot (R185). -/
def State.stopTray (s : State) (n : Nat) : State :=
  if (s.mx n).tray.isSome then (s.sendAct n false false (restDrive ++ [0, 0, 0])).endTray n else s.endTray n

/-- The offset in force for a loop of 0, 1, 3, 4 (R125, R199): i is its place in the list. -/
def offNow (v : ServoX) (i : Nat) : Int :=
  let a := v.offFrom.getD i 0
  let b := v.offTo.getD i 0
  let n := tiltRamp v.sq
  if n ≤ v.offK then b else a + ((b - a) * v.offK * 2 + n) / (2 * n)

/-- The measuring of an item of mechanism n ends: an offset that a sweep has moved returns by ramp to the value in use, an OPC's writing or read-back
ends (R194, R197, R199). -/
def State.endMeasure (s : State) (n item : Nat) : State :=
  if item = 4 then s.modServo n fun v => { v with saRun := none }
  else match (s.sx n).run with
    | none => s
    | some r =>
      if r.item ≠ item then s
      else
        let s1 := s.modServo n fun v =>
          { v with run := none, offFrom := (List.range 4).map (offNow v), offTo := calOffs (s.calRec 0 n v.layer), offK := 0 }
        match s1.laneOf n with
        | none => s1
        | some f => if item = 5 then ((if r.phase = 1 then s1.endWrite f else s1).modLane f fun x => { x with opcRead := false }) else s1

/-- Calibration runs of the mechanism for which `p` holds of record and item are abandoned (R208): CAUSE 5, log 0x0B.0x01; value, failure count and
staleness stay. -/
def State.abandonIn (s : State) (space n : Nat) (p : CalRec → Nat → Bool) : State :=
  let runs := s.cal.filter fun e => e.1 / 65536 == space && e.1 / 16 % 4096 == n && e.2.running.any (p e.2)
  s.forEach runs fun t e =>
    let gone := e.2.running.filter (p e.2)
    let t1 := t.modCal space n (e.1 % 16) fun r =>
      { r with running := r.running.filter fun i => !gone.contains i, forced := r.forced.filter fun i => !gone.contains i }
    t1.forEach gone fun u i =>
      let u0 := if space = 0 then u.endMeasure n i else u
      let u1 := ((((u0.set0 .MECH_CAL_LAST_CAUSE 5).set0 .MECH_CAL_LAST_SPACE space).set0 .MECH_CAL_LAST_LAYER (e.1 % 16)).set0
        .MECH_CAL_LAST_ITEM i).set0 .MECH_CAL_LAST_INDEX n
      u1.logEntry { cls := 0x0B, code := 1, sev := 1, mn := if space = 0 then n else 0xFFFF, detail0 := (u1.rd .MECH_CAL_LAST).toNat }

/-- Those calibration runs of a mechanism are abandoned. -/
def State.abandonSome (s : State) (n : Nat) (p : CalRec → Nat → Bool) : State := s.abandonIn 0 n p

/-- Every calibration run of the mechanism is abandoned (R208). -/
def State.abandonRuns (s : State) (n : Nat) : State := s.abandonSome n fun _ _ => true

/-- Make a mechanism safe and enter `target`, 8 FAULTED or 9 ISOLATED (R47): the safe set, every command completed, LLR codewords
discarded, lane, slot and grants released, buffered WRITEs lost. -/
def State.makeSafe (s : State) (n target : Nat) (moveFault : Bool := false) : State :=
  let s0 := (s.beginMove n target).emit (.safeSet n (s.stopMode n))
  let s1 := if (s0.positionOf (portOf n) (dropOf n)).isSome then s0.sendAct n true false [] else s0
  let s2 := (((s1.abandonRuns n).safeSpindle n).stopSled n true).endTray n
  let s3 := (s2.loseWrites n).completeAll n (if target = 9 then 0x0402 else 0x0401) moveFault
  let s4 := (s3.discardCws n).releaseLane n false
  let s5 := (s4.releaseSlot n).returnAll n
  let s6 := s5.modMech n fun m => { m with waitSlot := none, stopIssued := false, spinDown := false, polarityDue := true }
  let s7 := if target = 9 then s6.recordIsolation n else s6
  s7.endMove n target

/-- A fault is recorded and its action taken (R46, R47, R49). On an ABSENT mechanism nothing is done; an ISOLATED mechanism stays
ISOLATED and a FAULTED one can only go to ISOLATED (R52). -/
def State.fault (s : State) (n code detail : Nat) : State :=
  let st := s.mst n
  if st = 0 then s
  else
    let c := if code = 0 then 0x80 else code
    let s1 := s.recordFault n c detail
    let t := s1.faultTarget n c
    if st = 9 then s1
    else
      let s2 := if c = 0x3A then (s1.modMech n fun m => { m with clamped := false }).clearDisc n else s1
      if st = 8 ∧ t = 8 then s2 else s2.makeSafe n t (c == 0x39)

/-- A fault that a bridge reports; a reserved code is handled as 0x80 (R46), and so is a listed code that the table gives to the device or the
steward (notes/assumptions/90.md). -/
def State.bridgeFault (s : State) (n code detail : Nat) : State := s.fault n (if bridgeCode code then code else 0x80) detail

/-! ### Firn lanes of a mechanism (R26, R209 to R211) -/

/-- Mechanism n has READ, WRITE, VERIFY or SCRUB work, a calibration run, or a buffered WRITE still to be written, that needs a lane (R26). -/
def State.laneWork (s : State) (n : Nat) : Bool :=
  (s.cmdsOf n).any (fun c => c.d.opcode == 1 || c.d.opcode == 2 || c.d.opcode == 3 || c.d.opcode == 0x0B) ||
  s.cal.any (fun e => e.1 / 65536 == 0 && e.1 / 16 == n && e.2.running.any fun i => i != 4) ||
  s.host.wbuf.any (fun w => w.mn == n && (w.phase == .accepted || w.phase == .writing)) ||
  s.chan.reads.any (fun r => r.mn == n && !r.done && (r.sectors.take 28).any fun v => match v with | .good _ => false | _ => true)

/-- The lane of mechanism n stays bound: work, or a disc access of the device's own, for which it was bound or which holds the WRITE grant (R26). -/
def State.laneHeld (s : State) (n : Nat) : Bool :=
  s.laneWork n || (s.grants n).write.isSome || (match s.laneOf n with | some f => (s.lane f).own | none => false)

/-- Bind the lowest-numbered FREE lane and enter STREAMING (R37), or wait in order (R209). -/
def State.askLane (s : State) (n : Nat) (own : Bool) : State :=
  match s.laneOf n with
  | some f => s.modLane f fun x => { x with own := x.own && own }
  | none =>
    let first := (s.chan.laneWait.headD n) == n
    match (if first && s.laneAllowed then s.freeLane else none) with
    | some f =>
      let s1 := s.bindLane f n own
      if s1.mst n = 6 then s1.stepState n 7 else s1
    | none => if s.chan.laneWait.contains n then s else s.modChan fun c => { c with laneWait := c.laneWait ++ [n] }

/-- A mechanism gives its lane back and returns to TRACKING. -/
def State.backToTracking (s : State) (n : Nat) : State :=
  let s1 := s.releaseLane n true
  if s1.mst n = 7 then s1.stepState n 6 else s1

/-! ### Leaving to ABSENT (R37, R38, R189) -/

/-- The drop of mechanism n is not found: ABSENT. Its commands complete with 0x0403, grants, slot and lane go, buffered WRITEs are lost. -/
def State.toAbsent (s : State) (n : Nat) : State :=
  if s.mst n = 0 then s
  else
    let s1 := (s.abandonRuns n).loseWrites n
    let s2 := ((s1.completeAll n 0x0403 false).discardCws n).releaseLane n false
    let s3 := ((((if s2.holdsSlot n then s2.safeSpindle n else s2).stopSled n true).releaseSlot n).endTray n)
    let s4 := ((s3.returnAll n).clearDisc n).modMech n fun m =>
      { m with clamped := false, trayIn := false, trayOut := false, disc := false, waitSlot := none, waitTray := none, stopIssued := false,
               spinDown := false, driveStop := none }
    s4.endMove n 0

end Sys2Proof.Machine
end

