-- ==== Sys2Proof/Machine/Cirque.lean ====
section
/-! DEFINITION. Cluster faults, handovers, coefficient banks and swaps: the commands of spec/04_cirque_engine.md. -/

namespace Sys2Proof.Machine

/-! ### Coefficient banks (R101 to R108, R562, R565) -/

/-- The staged record, and a record put into the stage. -/
def State.stage (s : State) : List Nat := (List.range 128).map fun i => s.get .CIRQ_STAGE_DWORD i
def State.putStage (s : State) (r : List Nat) : State := s.forEach (List.range 128) fun t i => t.set .CIRQ_STAGE_DWORD i (dw r i)

/-- CIRQ_COEF_CMD after an operation addressed by MN, with its ERR. -/
def State.coefDone (s : State) (target l err : Nat) : State :=
  ((s.set0 .CIRQ_COEF_CMD_TARGET target).set0 .CIRQ_COEF_CMD_LOOP l).set0 .CIRQ_COEF_CMD_ERR err

/-- An operation addressed by MN, on the cluster that holds the mechanism now: OP 1 puts the record r in the loop's shadow bank, OP 2 and 3 put a bank
in the stage. A loop 7 record becomes active at once while the spindle is stopped or coasts (R102, R108, R163, R562). -/
def State.coefOp (s : State) (op n l : Nat) (r : List Nat) : State :=
  if !s.holdsSlot n then s.coefDone n l 2
  else if op = 1 then
    let st := s.get .MECH_SPIN_STAT_SPIN_STATE n
    if coefErr l r ≠ 0 then s.coefDone n l (coefErr l r)
    else if s.ls n l = 2 then s.coefDone n l 4
    else if l = 7 then
      let atOnce := st == 0 || st == 0xA
      let s1 := s.modSpin n fun p => { p with staged7 := !atOnce }
      (s1.modLoop n l fun x => if atOnce then { x with active := r, shadow := x.active } else { x with shadow := r }).coefDone n l 0
    else (s.modLoop n l fun x => { x with shadow := r }).coefDone n l 0
  else if op = 2 then
    match (s.lx n l).shadow with
    | [] => s.coefDone n l 7
    | b => (s.putStage b).coefDone n l 0
  else (s.putStage (s.lx n l).active).coefDone n l 0

/-- The mechanism's slot is being handed over, or moved (R124). -/
def State.inHandover (s : State) (n : Nat) : Bool :=
  s.holdsSlot n && (match s.cirq.ho with | some h => h.src == s.clusterOf n | none => false)

/-- A write of CIRQ_COEF_CMD with an operation addressed by MN: discarded while BUSY; one that meets a handover completes after it. -/
def State.coefCmd (s : State) (n op l : Nat) (r : List Nat) : Out := regCmd s fun s =>
  if s.on .CIRQ_COEF_CMD_BUSY then fin s
  else if s.inHandover n then
    fin ((((s.set0 .CIRQ_COEF_CMD_TARGET n).set0 .CIRQ_COEF_CMD_LOOP l).set0 .CIRQ_COEF_CMD_BUSY 1).modCirq fun q =>
      { q with coefWait := some { op := op, mn := n, loop := l, words := r } })
  else fin (s.coefOp op n l r)

/-- A handover has ended: the operation that met it completes. -/
def State.finishCoef (s : State) : State :=
  match s.cirq.coefWait with
  | none => s
  | some w => ((s.modCirq fun q => { q with coefWait := none }).set0 .CIRQ_COEF_CMD_BUSY 0).coefOp w.op w.mn w.loop w.words

/-! ### Handovers (R113 to R122) -/

/-- The cluster that holds the spare role and takes no handover yet. -/
def State.spare (s : State) : Option Nat :=
  match (List.range 17).find? fun c => s.get .CIRQ_STATUS_ROLE c == 1 with
  | none => none
  | some c => match s.cirq.ho with
    | none => some c
    | some h => if h.dst = c then none else some c

/-- Exchange one register between two clusters' blocks. -/
def State.exchange (s : State) (a b : Nat) (r : Reg) : State :=
  let va := s.rd r a
  let vb := s.rd r b
  (s.wr r a 0 vb).wr r b 0 va

/-- The injection and capture registers of a cluster, which move with its slots. -/
def injCapRegs : List Reg :=
  [.CIRQ_INJ_CTRL, .CIRQ_INJ_AMP, .CIRQ_INJ_F0, .CIRQ_INJ_F1, .CIRQ_INJ_STEP, .CIRQ_INJ_STAT, .CIRQ_CAP_CTRL, .CIRQ_CAP_SEL,
   .CIRQ_CAP_LEN, .CIRQ_CAP_STAT, .CIRQ_CAP_TRIG_LO, .CIRQ_CAP_TRIG_HI, .CIRQ_CAP_PAGE]

/-- Every slot of cluster a moves to the same slot of cluster b, with generator and capture; b takes the role ACTIVE. Loops in HOLD stay in
HOLD, their hold count starts again and the abandonment on a is logged (R114, R118). -/
def State.moveSlots (s : State) (a b : Nat) : State :=
  let s1 := s.forEach (List.range 32) fun t k =>
    let t1 := (((t.wr .CIRQ_SLOT b k (t.rd .CIRQ_SLOT a k)).wr .CIRQ_LSTAT b k (t.rd .CIRQ_LSTAT a k)).wr .CIRQ_ANGLE b k (t.rd .CIRQ_ANGLE a k))
    let t2 := ((t1.wr .CIRQ_SLOT a k 0).wr .CIRQ_LSTAT a k 0).wr .CIRQ_ANGLE a k 0
    if t.on .CIRQ_SLOT_VALID a k then
      let n := t.slotMn a k
      let t3 := t2.set .MECH_SERVO_CLUSTER n b
      match (t3.sx n).swap with
      | some w =>
        if w.entered then
          (((t3.set2 .CIRQ_LSTAT_HOLD_CNT b k 0).modServo n fun v => { v with swap := some { w with periods := 0 } }).raise .CIRQ_EVENT_SWAP_ABANDON a).logEntry
            { cls := 5, code := 3, sev := 1, mn := n, unit := a, detail0 := w.mask, detail1 := 2 }
        else t3
      | none => t3
    else t2
  let s2 := s1.forEach injCapRegs fun t r => t.exchange a b r
  let ia := tabGet s.cirq.inj a none
  let ib := tabGet s.cirq.inj b none
  let ca := s.cap a
  let cb := s.cap b
  let s3 := s2.modCirq fun q =>
    { q with inj := tabPut (tabPut q.inj a ib none) b ia none, cap := tabPut (tabPut q.cap a cb {}) b ca {},
             uncomputed := q.uncomputed.filter fun c => c != a }
  let s4 := ((s3.bump .CIRQ_CNT_HANDOVERS a).bump .CIRQ_CNT_HANDOVERS b).set .CIRQ_STATUS_ROLE b 0
  (s4.raise .CIRQ_EVENT_HO_OUT a).raise .CIRQ_EVENT_HO_IN b

/-- CIRQ_HO_STAT and CIRQ_HO_TIME of a handover or planned operation that starts. -/
def State.hoStat (s : State) (src dst cause : Nat) : State :=
  ((((((s.set0 .CIRQ_HO_STAT_BUSY 1).set0 .CIRQ_HO_STAT_RESULT 0).set0 .CIRQ_HO_STAT_CAUSE cause).set0 .CIRQ_HO_STAT_TO dst).set0
    .CIRQ_HO_STAT_FROM src).set0 .CIRQ_HO_STAT_REPEATS 0)

def State.hoTime (s : State) : State := s.set64 .CIRQ_HO_TIME_LO_TIME_NS .CIRQ_HO_TIME_HI_TIME_NS 0 s.now

/-- The entry of R478 for a handover. -/
def State.logHandover (s : State) (c : Nat) : State :=
  s.logEntry { cls := 5, code := 1, sev := 1, unit := c, detail0 := (s.rd .CIRQ_HO_STAT).toNat }

/-- Cluster c is reset and tested; `op` says why: the OP of R121, 0 after a fault, 5 for
microcode that an activation loads in place. -/
def State.testCluster (s : State) (c op : Nat) : State :=
  ((s.set .CIRQ_STATUS_ROLE c (if op = 2 ∨ op = 5 then 3 else 2)).modCirq fun q => { q with testOp := tabPut q.testOp c op 0 }).requestTest 1 c

/-- A cluster fault that starts no handover, in CIRQ_HO_STAT and CIRQ_HO_TIME: CAUSE, the cluster as FROM and TO, RESULT 1 where its slots have no spare
(R113, notes/assumptions/96.md). What shows a handover or operation that runs stays. -/
def State.hoFault (s : State) (c cause result : Nat) : State :=
  if s.on .CIRQ_HO_STAT_BUSY then s
  else (((s.hoStat c c cause).set0 .CIRQ_HO_STAT_BUSY 0).set0 .CIRQ_HO_STAT_RESULT result).hoTime

/-- CLUSTER_FAULT: cause 0 mismatch, 1 register parity, 2 double-bit error (R113 to R117, R452). -/
def execClusterFault (c : ClusterIx) (cause : Fin 3) (s : State) : Out :=
  let s1 := (match cause.val with
    | 0 => s.raise .CIRQ_EVENT_MISMATCH c
    | 1 => s.raise .CIRQ_EVENT_PARITY c
    | _ => s.raise .CIRQ_EVENT_DBE c).bump .CIRQ_CNT_FAULTS c |>.raise .RST_CAUSE_CLUSTER
  let s2 := s1.modCirq fun q => { q with faults := tabPut q.faults c (tabGet q.faults c 0 + 1) 0 }
  let role := s.get .CIRQ_STATUS_ROLE c
  if role = 1 then
    -- the spare: idle, or during a handover to it, which then has no cluster to serve its slots (R116)
    let s3 := s2.testCluster c 0
    match s.cirq.ho with
    | none => fin (s3.hoFault c (cause.val + 1) 0)
    | some h =>
      if h.dst ≠ c then fin s3
      else
        let s4 := (s3.modCirq fun q => { q with ho := none }).set0 .CIRQ_HO_STAT_BUSY 0
        if h.op = 0 then
          fin (((s4.modCirq fun q => { q with uncomputed := h.src :: q.uncomputed.filter fun x => x != h.src }).hoFault c (cause.val + 1) 1).finishCoef)
        else fin ((s4.hoFault c (cause.val + 1) 0).finishCoef)
  else if role = 0 then
    let planned := match s.cirq.ho with
      | some h => if h.src = c ∧ h.op ≠ 0 then some h.dst else none
      | none => none
    match (match planned with
      | some d => some d
      | none => if s.cirq.ho.isSome then none else s.spare) with
    | some d =>
      let s3 := ((s2.testCluster c 0).hoStat c d (cause.val + 1)).hoTime
      fin (s3.modCirq fun q => { q with ho := some { src := c, dst := d, at_ := s.now } })
    | none =>
      fin (((s2.testCluster c 0).modCirq fun q => { q with uncomputed := c.val :: q.uncomputed.filter fun x => x != c.val }).hoFault c (cause.val + 1) 1)
  else fin s2

/-- Checkpoint reads of a move to cluster c that the other copy served (R112). -/
def State.copyReads (s : State) (c k : Nat) : State :=
  if k = 0 then s else (s.bumpBy .CIRQ_CNT_ERR_COUNT c k).raise .CIRQ_EVENT_CKPT_COPY c

/-- HANDOVER_SERVE: an unplanned handover, from d + 960 ns on. `copies` are the mechanisms whose checkpoint came from the other copy; the slots that have
lost a sample are counted (R112, R114, R115). -/
def execHandoverServe (copies : List Mn) (s : State) : Out :=
  match s.cirq.ho with
  | none => fin s
  | some h =>
    if h.op ≠ 0 ∨ s.now < h.at_ + 960 then fin s
    else
      let s1 := (s.moveSlots h.src h.dst).set .CIRQ_FMT_FMT h.dst (s.get .CIRQ_FMT_FMT h.src)
      let s2 := ((s1.set0 .CIRQ_HO_STAT_REPEATS (min h.lost.length 32)).set0 .CIRQ_HO_STAT_BUSY 0).modCirq fun q => { q with ho := none }
      fin (((s2.copyReads h.dst copies.length).logHandover h.src).finishCoef)

/-- The test of cluster c ends (R117, R121, R123). -/
def State.clusterTestEnd (s : State) (c : Nat) (pass : Bool) : State :=
  let role := s.get .CIRQ_STATUS_ROLE c
  if role ≠ 2 ∧ role ≠ 3 then s
  else
    let op := tabGet s.cirq.testOp c 0
    let s1 := ((s.returnBist 1 c).set .CIRQ_STATUS_LAST_TEST c (if pass then 1 else 2)).raise (if pass then .CIRQ_EVENT_TEST_PASS else .CIRQ_EVENT_TEST_FAIL) c
    let n := if pass ∧ op = 4 then 0 else tabGet s.cirq.faults c 0
    let s2 := s1.modCirq fun q =>
      { q with testOp := tabDel q.testOp c, faults := tabPut q.faults c n 0,
               uncomputed := if (s.heldSlots c).isEmpty then q.uncomputed.filter (fun x => x != c) else q.uncomputed }
    let lim := s.get .CIRQ_GCFG_FAULT_LIMIT
    let s3 := if pass ∧ (op = 2 ∨ op = 5) then (s2.set .CIRQ_UCODE_VERSION c s.cirq.ucodeStaged).raise .CIRQ_EVENT_UCODE_DONE c
      else if pass ∧ op = 4 then s2.loadProgram .CIRQ_UCODE_VERSION c (·.ucode) else s2
    let s4 :=
      if pass ∧ ¬ (lim ≠ 0 ∧ lim ≤ n) then
        s3.set .CIRQ_STATUS_ROLE c (if (List.range 17).any fun x => x != c && s.get .CIRQ_STATUS_ROLE x == 1 then 0 else 1)
      else
        ((s3.set .CIRQ_STATUS_ROLE c 4).raise .CIRQ_EVENT_OOS c).logEntry { cls := 5, code := 2, sev := 3, unit := c, detail0 := n }
    if op = 0 ∨ op = 5 then s4
    else (s4.set0 .CIRQ_HO_STAT_BUSY 0).set0 .CIRQ_HO_STAT_RESULT (if pass then 0 else 6)

/-- CLUSTER_TEST_DONE. -/
def execClusterTestDone (c : ClusterIx) (pass : Bool) (s : State) : Out :=
  if s.underBist 1 c then fin s else fin (s.clusterTestEnd c pass)

/-- The refusals of R121 that TEST, UCODE and FORMAT share, 0 for none. -/
def State.hoRefusal (s : State) (c : Nat) : Nat :=
  if s.on .CIRQ_HO_STAT_BUSY then 5
  else if 17 ≤ c then 7
  else if s.spare.isNone then 1
  else if s.get .CIRQ_STATUS_ROLE c ≠ 0 then 4 else 0

/-- Start a planned operation of OP `op` on cluster c (R120, R121). -/
def State.startPlanned (s : State) (c op fmt : Nat) : State :=
  let d := s.spare.getD 0
  (s.hoStat c d (op + 3)).modCirq fun q => { q with ho := some { src := c, dst := d, at_ := s.now, op := op, fmt := fmt } }

/-- HO_TEST (R121, OP 1). -/
def execHoTest (c : Fin 32) (s : State) : Out := regCmd s fun s =>
  let r := s.hoRefusal c
  if r ≠ 0 then fin (s.set0 .CIRQ_HO_STAT_RESULT r) else fin (s.startPlanned c 1 0)

/-- HO_UCODE (R121, R123, OP 2). -/
def execHoUcode (c : Fin 32) (s : State) : Out := regCmd s fun s =>
  let r := s.hoRefusal c
  if r ≠ 0 then fin (s.set0 .CIRQ_HO_STAT_RESULT r) else fin (s.startPlanned c 2 0)

/-- The record that loop l of mechanism n takes in a change to format f: its shadow in that format, else the library's (R122). -/
def State.formatRec (s : State) (n l f : Nat) : List Nat :=
  let sh := (s.lx n l).shadow
  if sh ≠ [] ∧ recFmt sh = f then sh else s.libRec (s.clsOf n) l f

/-- HO_FORMAT (R121, R122, OP 3). -/
def execHoFormat (c : Fin 32) (fmt : Bool) (s : State) : Out := regCmd s fun s =>
  let r := s.hoRefusal c
  let f := b2n fmt
  let missing := (s.heldSlots c).any fun k => [0, 1, 2, 4].any fun l => (s.formatRec (s.slotMn c k) l f).isEmpty
  if r ≠ 0 then fin (s.set0 .CIRQ_HO_STAT_RESULT r)
  else if 1408 * 16 < s.clusterLines c f then fin (s.set0 .CIRQ_HO_STAT_RESULT 2)
  else if missing then fin (s.set0 .CIRQ_HO_STAT_RESULT 3)
  else
    let s1 := s.startPlanned c 3 f
    fin (s1.set .CIRQ_FMT_FMT (s.spare.getD 0) f)

/-- HO_RETEST: needs no spare (R117, R121, OP 4). -/
def execHoRetest (c : Fin 32) (s : State) : Out := regCmd s fun s =>
  if s.on .CIRQ_HO_STAT_BUSY then fin (s.set0 .CIRQ_HO_STAT_RESULT 5)
  else if 17 ≤ c.val then fin (s.set0 .CIRQ_HO_STAT_RESULT 7)
  else if s.get .CIRQ_STATUS_ROLE c ≠ 4 then fin (s.set0 .CIRQ_HO_STAT_RESULT 4)
  else fin ((s.hoStat c c 0).testCluster c 4)

/-- Loops 0, 1, 2 and 4 of a slot take their records of format f and enter SOFT at their next sample, from their last outputs (R122).
A loop in HOLD stays there (R118), a loop that is OFF only takes the record. -/
def State.reformat (s : State) (n f : Nat) (recs : List (Nat × List Nat)) : State :=
  s.forEach recs fun t r =>
    let ls := t.ls n r.1
    if ls = 2 then t
    else
      let t1 := t.modLoop n r.1 fun x => { newBank x r.2 x.last with shadow := if x.shadow ≠ [] ∧ recFmt x.shadow = f then [] else x.shadow, q := x.last }
      if ls = 0 then t1.modLoop n r.1 fun x => { x with fresh := false } else t1.setLs n r.1 3

/-- The generator and the capture engine of cluster a, which work on mechanism n, go on in cluster b with its slot where that cluster's own are idle;
else they end as at a release (R119, notes/assumptions/96.md). -/
def State.moveEngines (s : State) (n a b : Nat) : State :=
  let s1 :=
    if !s.injOn a n then s
    else if (tabGet s.cirq.inj b none).isSome then s.endInj a 4
    else
      let x := tabGet s.cirq.inj a none
      (s.forEach (injCapRegs.take 6) fun t r => t.exchange a b r).modCirq fun q => { q with inj := tabPut (tabDel q.inj a) b x none }
  if !((s.cap a).armed && (s.cap a).mn == n) then s1
  else if (s.cap b).armed then s1.endCap a 5
  else
    (s1.forEach (injCapRegs.drop 6) fun t r => t.exchange a b r).modCirq fun q =>
      { q with cap := tabPut (tabPut q.cap a (s.cap b) {}) b (s.cap a) {} }

/-- The move of one slot to a cluster (R110, R120): banks, states and sequences follow the mechanism, and the arrival is the nominal one now. -/
def State.moveSlot (s : State) (n c k : Nat) : State :=
  let a := s.clusterOf n
  let j := s.slotOf n
  let s1 := (((s.wr .CIRQ_SLOT c k (s.rd .CIRQ_SLOT a j)).wr .CIRQ_LSTAT c k (s.rd .CIRQ_LSTAT a j)).wr .CIRQ_ANGLE c k (s.rd .CIRQ_ANGLE a j))
  let s2 := ((s1.wr .CIRQ_SLOT a j 0).wr .CIRQ_LSTAT a j 0).wr .CIRQ_ANGLE a j 0
  let s3 := ((s2.set .MECH_SERVO_CLUSTER n c).set .MECH_SERVO_SLOT n k).moveEngines n a c
  match s.positionOf (portOf n) (dropOf n) with
  | some p => s3.set2 .CIRQ_SLOT_ARR_CYC c k (s.arrCycles (portOf n) p)
  | none => s3

/-- PLANNED_SWITCH: `none` is the switch instant of the planned handover, `some mn` that of a single-slot move (R120). `copies` are the mechanisms whose
checkpoint came from the other copy (R112). -/
def execPlannedSwitch (mn : Option Mn) (copies : List Mn) (s : State) : Out :=
  match mn with
  | some n =>
    match s.cirq.moves.find? fun m => m.mn == n.val with
    | none => fin s
    | some m =>
      let s1 := s.modCirq fun q => { q with moves := q.moves.erase m }
      if s.holdsSlot n && !s.on .CIRQ_SLOT_VALID m.cluster m.slot && s.get .CIRQ_STATUS_ROLE m.cluster == 0 then
        fin ((s1.moveSlot n m.cluster m.slot).copyReads m.cluster copies.length)
      else fin s1
  | none =>
    match s.cirq.ho with
    | none => fin s
    | some h =>
      if h.op = 0 then fin s
      else
        let held := (s.heldSlots h.src).map fun k => s.slotMn h.src k
        let recs := held.map fun n => (n, [0, 1, 2, 4].map fun l => (l, s.formatRec n l h.fmt))
        let s1 := (s.moveSlots h.src h.dst).modCirq fun q => { q with ho := none }
        let s2 := if h.op = 3 then s1.forEach recs fun t r => t.reformat r.1 h.fmt r.2
                  else s1.set .CIRQ_FMT_FMT h.dst (s.get .CIRQ_FMT_FMT h.src)
        let s3 := if h.op = 3 then (s2.set .CIRQ_STATUS_ROLE h.src 1).set0 .CIRQ_HO_STAT_BUSY 0 else s2.testCluster h.src h.op
        fin (((s3.copyReads h.dst copies.length).hoTime.logHandover h.src).finishCoef)

/-- COLLISION_MOVE: the collision is counted and a move to a cluster placed by R92 is planned (R110). -/
def execCollisionMove (mn : Mn) (s : State) : Out :=
  if !s.holdsSlot mn then fin s
  else
    let c := s.clusterOf mn
    let s1 := s.raise .CIRQ_EVENT_COLLIDE c
    let sub := s.get .CIRQ_SLOT_SUB c (s.slotOf mn)
    let away := { s with regs := (s.wr .CIRQ_SLOT c (s.slotOf mn) 0).regs }
    match away.choose (portOf mn) sub (s.arrivalOf mn) with
    | none => fin s1
    | some d =>
      if d = c then fin s1
      else match s.freeSlot d with
        | none => fin s1
        | some k => fin (s1.modCirq fun q => { q with moves := q.moves.filter (fun m => m.mn != mn.val) ++ [{ mn := mn, cluster := d, slot := k }] })

/-! ### Commands of CIRQ_COEF_CMD -/

/-- COEF_STAGE_TO_SHADOW (R102, R108, R163). -/
def execCoefStageToShadow (mn : Mn) (l : LoopIx) (s : State) : Out := s.coefCmd mn 1 l s.stage

/-- COEF_SHADOW_TO_STAGE (R562). -/
def execCoefShadowToStage (mn : Mn) (l : LoopIx) (s : State) : Out := s.coefCmd mn 2 l []

/-- COEF_ACTIVE_TO_STAGE (CIRQ_COEF_CMD OP 3). -/
def execCoefActiveToStage (mn : Mn) (l : LoopIx) (s : State) : Out := s.coefCmd mn 3 l []

/-- COEF_STAGE_TO_LIBRARY (R102, R108). A record whose FMT is not that of the command is refused with ERR 6 (DESIGN CHOICE, notes/assumptions/95.md). -/
def execCoefStageToLibrary (cls : Fin 8) (l : LoopIx) (fmt : Bool) (s : State) : Out := regCmd s fun s =>
  if s.on .CIRQ_COEF_CMD_BUSY then fin s else
  let r := s.stage
  let s0 := s.set0 .CIRQ_COEF_CMD_FMT (b2n fmt)
  let e := coefErr l r
  if e ≠ 0 then fin (s0.coefDone cls l e)
  else if recFmt r ≠ b2n fmt then fin (s0.coefDone cls l 6)
  else fin ((s0.modCirq fun q => { q with library := tabIns q.library (cls * 16 + l * 2 + b2n fmt) r }).coefDone cls l 0)

/-- COEF_LIBRARY_TO_STAGE (CIRQ_COEF_CMD OP 5). -/
def execCoefLibraryToStage (cls : Fin 8) (l : LoopIx) (fmt : Bool) (s : State) : Out := regCmd s fun s =>
  if s.on .CIRQ_COEF_CMD_BUSY then fin s else
  fin (((s.putStage (s.libRec cls l (b2n fmt))).set0 .CIRQ_COEF_CMD_FMT (b2n fmt)).coefDone cls l 0)

/-! ### Swaps (R105, R106, R108) -/

/-- The record a swap takes for loop l. -/
def State.swapRec (s : State) (n l src : Nat) : List Nat :=
  if src = 1 then (s.lx n l).shadow else s.libRec (s.clsOf n) l (if alwaysWide l then 1 else s.get .CIRQ_FMT_FMT (s.clusterOf n))

/-- The refusal of a SWAP, 0 for none (R105, R108, CIRQ_LOOP_STAT.ERR). -/
def State.swapErr (s : State) (n mask src : Nat) : Nat :=
  let ls := (List.range 7).filter fun l => bitAt mask l == 1
  let fmt := s.get .CIRQ_FMT_FMT (s.clusterOf n)
  if bitAt mask 7 = 1 then 5
  else if !s.holdsSlot n then 2
  else if (s.sx n).swap.isSome || ls.any fun l => s.ls n l != 1 then 4
  else if src = 1 ∧ ls.any fun l => (s.lx n l).shadow.isEmpty then 5
  else if ls.any fun l => (s.swapRec n l src).isEmpty || recFmt (s.swapRec n l src) != (if alwaysWide l then 1 else fmt) then 3
  else 0

/-- A SWAP from a source (R105): its loops enter HOLD at the slot's next sample. CIRQ_LOOP_STAT shows the last command. -/
def State.startSwap (s : State) (n mask src : Nat) : State :=
  let s1 := (s.set0 .CIRQ_LOOP_STAT_MN n).set0 .CIRQ_LOOP_STAT_DONE 0
  let e := s.swapErr n mask src
  if e ≠ 0 then (s1.set0 .CIRQ_LOOP_STAT_ERR e).set0 .CIRQ_LOOP_STAT_BUSY 0
  else if mask % 128 = 0 then (s1.set0 .CIRQ_LOOP_STAT_ERR 0).set0 .CIRQ_LOOP_STAT_BUSY 0
  else ((s1.set0 .CIRQ_LOOP_STAT_ERR 0).set0 .CIRQ_LOOP_STAT_BUSY 1).modServo n fun v => { v with swap := some { mask := mask, src := src } }

/-- SWAP_FROM_SHADOW (R105, OP 1). -/
def execSwapFromShadow (mn : Mn) (mask : Fin 256) (s : State) : Out := regCmd s fun s => fin (s.startSwap mn mask 1)

/-- SWAP_FROM_LIBRARY (R105, OP 2). -/
def execSwapFromLibrary (mn : Mn) (mask : Fin 256) (s : State) : Out := regCmd s fun s => fin (s.startSwap mn mask 2)

/-- SWAP_ABORT (R106, OP 3): the HOLD is abandoned at the next sample; without a HOLD it is refused with ERR 4. -/
def execSwapAbort (mn : Mn) (s : State) : Out := regCmd s fun s =>
  let s1 := ((s.set0 .CIRQ_LOOP_STAT_MN mn).set0 .CIRQ_LOOP_STAT_DONE 0).set0 .CIRQ_LOOP_STAT_BUSY 0
  if !s.holdsSlot mn then fin (s1.set0 .CIRQ_LOOP_STAT_ERR 2)
  else match (s.sx mn).swap with
    | none => fin (s1.set0 .CIRQ_LOOP_STAT_ERR 4)
    | some w =>
      if !w.entered then fin (s1.set0 .CIRQ_LOOP_STAT_ERR 4)
      else fin (((s1.set0 .CIRQ_LOOP_STAT_ERR 0).set0 .CIRQ_LOOP_STAT_BUSY 1).modServo mn fun v => { v with swap := some { w with abort := true } })

/-- SWAP_EXECUTE: every new record is in the partition; every loop in the mask swaps its bank and enters SOFT (R105, R107). -/
def execSwapExecute (mn : Mn) (s : State) : Out :=
  match (s.sx mn).swap with
  | none => fin s
  | some w =>
    if !w.entered || w.abort || decide (s.get .CIRQ_GCFG_HOLD_MAX ≤ w.periods) then fin s
    else
      let c := s.clusterOf mn
      let s1 := s.forEach ((List.range 7).filter fun l => bitAt w.mask l == 1) fun t l =>
        (t.modLoop mn l fun x => newBank x (s.swapRec mn l w.src) x.q).setLs mn l 3
      let s2 := (s1.modServo mn fun v => { v with swap := none, softMask := Nat.lor v.softMask w.mask }).set2 .CIRQ_LSTAT_HOLD_CNT c (s.slotOf mn) 0
      fin ((s2.loopStatEnd mn fun t => t.set0 .CIRQ_LOOP_STAT_DONE w.mask).raise .CIRQ_EVENT_SWAP_DONE c)

/-- SWAP_HOLD_TIMEOUT: HOLD_MAX periods have passed without the swap (R106). -/
def execSwapHoldTimeout (mn : Mn) (s : State) : Out :=
  match (s.sx mn).swap with
  | none => fin s
  | some w => if w.entered && decide (s.get .CIRQ_GCFG_HOLD_MAX ≤ w.periods) then fin (s.abandonSwap mn 1) else fin s

end Sys2Proof.Machine
end

