-- ==== Sys2Proof/Machine/Waiting.lean ====
section
/-! DEFINITION. Waiting for a servo position, a Cirque slot and a START grant: spin-ups and tray moves (spec/06 R185, R564; spec/04 R91 to
R93; spec/02 R35, R42, R44; spec/11 R302, R310). -/

namespace Sys2Proof.Machine

/-! ### Spin-ups -/

/-- The command for which mechanism n works next: the outstanding one accepted first. -/
def State.headCmd (s : State) (n : Nat) : Option Ctx := (s.cmdsOf n).head?

def ctxId (c : Ctx) : Nat × Nat := (c.fn, c.d.tag)

/-- A spin-up ends before it began: the slot goes back, the mechanism rests again. -/
def State.abandonStart (s : State) (n : Nat) : State :=
  let s1 := ((s.returnAll n).releaseSlot n).modMech n fun m => { m with waitSlot := none }
  s1.endMove n (s1.restState n)

/-- The START of a mechanism that has its slot: a request that can never fit completes the command it serves with 0x040B (R302, R310). -/
def State.askStart (s : State) (n : Nat) : State :=
  let amt := s.reqAmount 4 n 0 (s.get .MECH_SPEED_TARGET n)
  let c := s.headCmd n
  let r : PowerReq := { cls := 4, who := n, dom := s.domOf n, mw := amt.1, spinPart := amt.2, prio := (c.map fun x => x.d.prio).getD 0,
                        at_ := s.now, forCmd := c.map ctxId }
  match s.request r with
  | (t, .refused) => match c with
    | none => t.abandonStart n
    | some x => (t.cutCmd x 0x040B).abandonStart n
  | (t, _) => t

/-- A free position of the port and a slot placed by R92 for mechanism n, if there are both. -/
def State.grabSlot (s : State) (n : Nat) : Option State :=
  let p := portOf n
  let sub := rateDiv (s.seqRec (s.clsOf n))
  match s.freePosition p with
  | none => none
  | some k =>
    if 512 ≤ s.slotsUsed then none
    else
      match (List.range (2 ^ sub)).find? fun ph => (s.choose p sub (s.arrivalPhase p k sub ph)).isSome with
      | none => none
      | some ph =>
        let c := (s.choose p sub (s.arrivalPhase p k sub ph)).getD 0
        match s.freeSlot c with
        | none => none
        | some j =>
          some (((s.takePosition n k sub ph).takeSlot n c j sub k).modServo n fun v => { v with seq := { v.seq with target := (s.mx n).wantLayer } })

/-! ### The wait order of a port (R564) -/

/-- Insert a waiter (since when, MN, whether for a tray move) by time, then MN. -/
def insertWaiter (w : Nat × Nat × Bool) : List (Nat × Nat × Bool) → List (Nat × Nat × Bool)
  | [] => [w]
  | x :: l => if w.1 < x.1 ∨ (w.1 = x.1 ∧ w.2.1 < x.2.1) then w :: x :: l else x :: insertWaiter w l

/-- The waiters of port p for a servo position, earliest first. -/
def State.waiters (s : State) (p : Nat) : List (Nat × Nat × Bool) :=
  s.mech.foldl (fun l e =>
    if portOf e.1 ≠ p then l
    else match e.2.waitSlot with
      | some t => insertWaiter (t, e.1, false) l
      | none => match e.2.waitTray with
        | some t => if (s.positionOf p (dropOf e.1)).isSome then l else insertWaiter (t, e.1, true) l
        | none => l) []

/-- The mechanisms of every port that wait for a Cirque slot, earliest first (R44, R93). -/
def State.slotWaiters (s : State) : List (Nat × Nat × Bool) :=
  s.mech.foldl (fun l e => match e.2.waitSlot with
    | some t => insertWaiter (t, e.1, false) l
    | none => l) []

/-- A mechanism whose wait began before instant t, or none was asked for (`t` none), could take a slot now: a later one does not overtake it (R44). -/
def State.slotClaimed (s : State) (n : Nat) (t : Option Nat) : Bool :=
  s.slotWaiters.any fun w => w.2.1 != n && (match t with
    | none => true
    | some a => decide (w.1 < a ∨ (w.1 = a ∧ w.2.1 < n))) && (s.grabSlot w.2.1).isSome

/-- One waiter takes what it waits for, if it can at once. -/
def State.serveWaiter (s : State) (w : Nat × Nat × Bool) : Option State :=
  if w.2.2 then (s.freePosition (portOf w.2.1)).map fun k => s.takePosition w.2.1 k 0 0
  else if s.slotClaimed w.2.1 (some w.1) then none
  else (s.grabSlot w.2.1).map fun t => t.askStart w.2.1

/-- A freed position goes to the earliest waiter that can use it at once (R564). -/
def State.servePositions (s : State) : List (Nat × Nat × Bool) → State
  | [] => s
  | w :: l => match s.serveWaiter w with
    | some t => t
    | none => s.servePositions l

/-! ### Full speeds (R173, R241, R245, R246) -/

/-- The zone of cluster c on a layer: R_IN and FIRST of the last zone entry that does not begin after it; lead-in clusters lie in lead-in zones. -/
def zoneEntry (zones : List (Nat × Nat)) (layer c : Nat) : Option (Nat × Nat) :=
  ((zones.drop (layer * 223)).take 223).foldl (fun a z => if z.2 ≤ c ∧ (0xF0000 ≤ c → 0xF0000 ≤ z.2) then some z else a) none

/-- R_IN of the zone of a layer that holds radius r, in nm: from the zone entries of the disc, or the nominal one. -/
def zoneAt (zones : List (Nat × Nat)) (layer r : Nat) : Nat :=
  (((zones.drop (layer * 223)).take 223).foldl (fun (a : Option Nat) z => if z.1 ≤ r then some z.1 else a) none).getD
    (22400000 + 160000 * min 222 ((r - 22400000) / 160000))

/-- The speed of a zone at which its outermost track passes at 400 Mbit/s, in rpm (R245). -/
def zoneSpeed (rIn : Nat) : Nat := 6 * 10 ^ 21 / (31415926536 * (rIn + 160000))

/-- BD media are written: 1 BD-R, 2 BD-RE; 0 while the mechanism reads. -/
def State.bdWrites (s : State) (n : Nat) : Nat :=
  match s.laneOf n with
  | some f => if s.on .FIRN_STATUS_WRITE f then s.get .MECH_DISC_MEDIA n - 7 else 0
  | none => 0

/-- The speed of BD media at radius r nm, in rpm, for what the mechanism does (R241). -/
def State.bdSpeed (s : State) (n r : Nat) : Nat :=
  let x := match s.bdWrites n with
    | 0 => s.get .FIRN_BD_CFG_RD_X
    | 1 => s.get .FIRN_BD_CFG_WR_X
    | _ => s.get .FIRN_BD_CFG_RE_WR_X
  3960000 * x * (s.disc n).bdBit * 10 ^ 10 / (2 * 31415926536 * max 1 r)

/-- The drive record of mechanism n's speed plan: the one its last plan took, or that of its class (R162). -/
def State.planRec (s : State) (n : Nat) : List Nat := if (s.sx n).drPlan.isEmpty then s.driveRec (s.clsOf n) else (s.sx n).drPlan

/-- S_full at radius r nm of a layer (R173). -/
def State.fullSpeed (s : State) (n layer r : Nat) : Nat :=
  min (rpmMax (s.planRec n)) (if isBd (s.get .MECH_DISC_MEDIA n) then s.bdSpeed n r else zoneSpeed (zoneAt (s.disc n).zones layer r))

/-- S_full of the zone that holds a cluster; a disc that is not mounted starts in its lead-in. -/
def State.clusterSpeed (s : State) (n layer c : Nat) : Nat :=
  let z := match zoneEntry (s.disc n).zones layer c with
    | some z => z.1
    | none => 22400000
  min (rpmMax (s.planRec n)) (zoneSpeed z)

/-- S_full where the sled stands, or where its seek goes. -/
def State.hereSpeed (s : State) (n : Nat) : Nat :=
  let v := s.sx n
  let pos := v.sled.seekTgt.getD (signed 32 (s.get .MECH_SLED_POS_POS n))
  s.fullSpeed n v.layer (pos.toNat * microstepNm (s.seqRec (s.clsOf n)))

/-- TARGET of a plan in quarter rpm: TARGET_OVR replaces the plan, under the same clamp (R173). -/
def State.planned (s : State) (n sFull plan : Nat) : Nat :=
  let r := s.planRec n
  let ovr := s.get .MECH_SPIN_CTRL_TARGET_OVR n
  max (4 * rpmMin r) (min (if ovr = 0 then 4 * plan else ovr) (4 * min sFull (rpmMax r)))

/-- Unread data of the READs of mechanism n, in bytes, and since when it exceeds one HAF cluster (R173). -/
def State.unreadData (s : State) (n : Nat) : Nat :=
  ((s.cmdsOf n).filter fun c => c.d.opcode == 1).foldl (fun a c => a + (c.d.count - c.sent.length) * 4096) 0
def State.noteBacklog (s : State) (n : Nat) : State :=
  s.modMech n fun m => { m with backlogAt := if 114688 < s.unreadData n then some (m.backlogAt.getD s.now) else none }

/-- b^q for b in 2^-32, q below 2^k. -/
def decayGo : Nat → Nat → Nat → Nat
  | 0, _, _ => 2 ^ 32
  | k + 1, q, b =>
    let r := decayGo k (q / 2) (b * b / 2 ^ 32)
    if q % 2 = 1 then r * b / 2 ^ 32 else r

/-- e^(-t / tau) in 2^-32: whole 64ths of tau by powers of e^(-1/64), the rest to first order (DESIGN CHOICE, notes/assumptions/99.md). -/
def decay (t tau : Nat) : Nat :=
  if 64 * tau ≤ t then 0
  else decayGo 12 (64 * t / max 1 tau) 4228380000 * (2 ^ 32 - 64 * t % max 1 tau * 2 ^ 26 / max 1 tau) / 2 ^ 32

/-- D: the user data that READ completions delivered, averaged with time constant DRAIN_MS, in bytes a second (R173). -/
def State.drainNow (s : State) (n : Nat) : Nat :=
  (s.mx n).drain * decay (s.now - (s.mx n).drainAt) (ms (drainMs (s.planRec n))) / 2 ^ 32

/-- A READ has delivered k logical blocks. -/
def State.noteDrain (s : State) (n k : Nat) : State :=
  s.modMech n fun m => { m with drain := s.drainNow n + k * 4096 * 1000000000 / max 1 (ms (drainMs (s.planRec n))), drainAt := s.now }

/-- A spindle speed, in quarter rpm, within the figures of the part, 1,200 to 8,000 rpm (R3). -/
def clampRpm (rpm : Nat) : Nat := max 4800 (min rpm 32000)

/-- A spin-up to TRACKING on a layer begins, planned at the full speed of the target's zone (R173): the port wakes (R88), BUSY with TARGET 6, then slot, then
START; without a slot, or behind an earlier waiter of any port that can take it, it waits (R35, R42, R44). -/
def State.wantSpin (s : State) (n sFull layer : Nat) : State :=
  let s1 := (((s.wakePort (portOf n)).beginMove n 6).set .MECH_SPEED_TARGET n (clampRpm (s.planned n sFull sFull))).modMech n fun m => { m with wantLayer := layer }
  match (if (s1.waiters (portOf n)).isEmpty && !s1.slotClaimed n none then s1.grabSlot n else none) with
  | some t => t.askStart n
  | none => s1.modMech n fun m => { m with waitSlot := some s.now }

/-! ### Tray and clamp moves (R185, R187, R564) -/

/-- A tray or clamp move is wanted: the port wakes (R88), the move takes its place for a servo position and requests its SEEK grant. -/
def State.askTray (s : State) (n : Nat) : State :=
  let c := s.headCmd n
  let s1 := (s.wakePort (portOf n)).modMech n fun m => { m with waitTray := some s.now }
  let s2 := match (if (s.waiters (portOf n)).isEmpty ∧ (s.positionOf (portOf n) (dropOf n)).isNone then s1.freePosition (portOf n) else none) with
    | some k => s1.takePosition n k 0 0
    | none => s1
  let r : PowerReq := { cls := 2, who := n, dom := s.domOf n, mw := (s.reqAmount 2 n 0 0).1, prio := (c.map fun x => x.d.prio).getD 0,
                        at_ := s.now, forCmd := c.map ctxId }
  match s2.request r with
  | (t, .refused) =>
    let t1 := (t.endTray n).dropPosition n
    match c with
    | none => t1.endMove n (t1.restState n)
    | some x => (t1.endMove n (t1.restState n)).cutCmd x 0x040B
  | (t, _) => t

/-- ATTACHED is entered: the virtual sled limits come from the class's drive record (MECH_SLED_LIM_IN, MECH_SLED_LIM_OUT). -/
def State.loadLimits (s : State) (n : Nat) : State :=
  let r := s.driveRec (s.clsOf n)
  (s.set .MECH_SLED_LIM_IN_LIM n (unsignedOf 32 (limIn r))).set .MECH_SLED_LIM_OUT_LIM n (unsignedOf 32 (limOut r))

/-- A mechanism attaches, and passes on to LOADED with a clamped disc, without a mount (R37, R38). -/
def State.attach (s : State) (n : Nat) (clamped : Bool) : State :=
  let s1 := ((s.clearDisc n).modMech n fun m => { m with clamped := clamped }).enterState n 1
  (s1.loadLimits n).endMove n (if clamped then 3 else 1)

end Sys2Proof.Machine
end

