-- ==== Sys2Proof/Machine/Sequences.lean ====
section
/-! DEFINITION. The acquisition, jump and seek sequences of a slot and its loss handling, as operations that samples, timers and commands
share (spec/05_servo_loops.md R129 to R147, R149 to R154). -/

namespace Sys2Proof.Machine

def State.modSeq (s : State) (n : Nat) (f : SeqX → SeqX) : State := s.modServo n fun v => { v with seq := f v.seq }
def State.modProf (s : State) (n : Nat) (f : ProfX → ProfX) : State := s.modServo n fun v => { v with prof := f v.prof }
def State.modSled (s : State) (n : Nat) (f : SledX → SledX) : State := s.modServo n fun v => { v with sled := f v.sled }

/-- An armed capture of the slot's cluster that waits for this kind of event is triggered: 1 generator start, 2 loss, layer step or jump. -/
def State.capHit (s : State) (n kind : Nat) : State :=
  let c := s.clusterOf n
  if (s.cap c).armed ∧ (s.cap c).mn = n ∧ s.get .CIRQ_CAP_CTRL_TRIG c = kind then s.modCap c fun x => { x with hit := true } else s

/-- The value of a ramp now. -/
def rampAt (r : RampX) (now : Nat) : Int :=
  if r.t0 + r.dur ≤ now then r.to_ else r.from_ + (r.to_ - r.from_) * ((now - r.t0 : Nat) : Int) / r.dur

def rampDone (r : RampX) (now : Nat) : Bool := decide (r.t0 + r.dur ≤ now)

/-- Ramp the output of loop 0 to a value over a time. -/
def State.rampFocus (s : State) (n : Nat) (v : Int) (dur : Nat) : State :=
  s.modServo n fun x => { x with ramp := some { from_ := (s.lx n 0).last, to_ := v, t0 := s.now, dur := dur } }

/-- The layer table entry of a layer (R125). -/
def State.entry (s : State) (n layer : Nat) : CalRec := s.calRec 0 n layer

/-- Offsets of a layer in force at once for loops 0, 1 and 4, the tilt offset by ramp when `ramp` (R135, R199). -/
def State.takeOffsets (s : State) (n layer : Nat) (ramp : Bool) : State :=
  let o := calOffs (s.entry n layer)
  s.modServo n fun v =>
    let now := (List.range 4).map fun i =>
      v.offFrom.getD i 0 + (v.offTo.getD i 0 - v.offFrom.getD i 0) * (min v.offK (tiltRamp v.sq) : Nat) / max 1 (tiltRamp v.sq : Int)
    { v with offFrom := (List.range 4).map (fun i => if i = 2 ∧ ramp then now.getD i 0 else o.getD i 0), offTo := o, offK := 0 }

/-- The tables of the layer in focus from its profile record, in actuator counts (R153): disc units times the sensitivity. -/
def State.loadProfile (s : State) (n layer : Nat) : State :=
  let p := s.profRec n layer
  let f := fun (unit sens : Nat) (v : Int) => sat16 ((v * unit * sens + 128000) / 256000)
  let v := s.sx n
  let s1 := s.modProf n fun x => { x with sf := p.focus.map (f 4 (focSens v.sq)), st := p.track.map (f 2 (trkSens v.sq)) }
  s1.set .MECH_DISC_PROFILE_VALID n (b2n (s.hasProfile n layer))

/-- A loop 5 move ends: ES returns to 0 and the SEEK grant is returned (R141, R302). -/
def State.endSeek (s : State) (n : Nat) : State :=
  match (s.sx n).sled.seekTgt with
  | none => s
  | some _ => (s.modSled n fun x => { x with seekTgt := none }).returnGrant n fun g => { g with seek := none }

/-- Learning starts on the layer in focus (R152). -/
def State.startLearning (s : State) (n : Nat) : State :=
  s.modProf n fun p => { p with learning := true, bins := [], revBins := [], revs := 0, spoilt := true, badRevs := 0, resid := [] }

/-- A sequence that starts takes the sequence record in force for the class (R128), and the sled moves by the drive record in force (R162). -/
def State.takeSeq (s : State) (n : Nat) : State := s.modServo n fun v => { v with sq := s.seqRec (s.clsOf n), drSled := s.driveRec (s.clsOf n) }

/-- The layer whose SA_PRESET loop 4 takes while it is OFF: the target of a pull-in or layer jump that runs, else the layer in focus (R129, R133). -/
def ServoX.saLayer (v : ServoX) : Nat := if (1 ≤ v.seq.step ∧ v.seq.step ≤ 5) ∨ v.seq.step = 12 then v.seq.target else v.layer

/-- The layer whose LREAD goes out: the target of a pull-in that runs, else the layer in focus (R129, R135). -/
def ServoX.readLayer (v : ServoX) : Nat := if 1 ≤ v.seq.step ∧ v.seq.step ≤ 3 ∧ v.seq.jumpSign = 0 then v.seq.target else v.layer

/-! ### Pull-in (R129 to R132) -/

/-- One attempt starts: step 1. -/
def State.startAttempt (s : State) (n : Nat) : State :=
  let v := s.sx n
  let s1 := s.openLoops n [0, 1, 2, 3, 4, 5]
  let s2 := ((s1.driveLoop n 4 (calSaPreset (s.entry n v.seq.target))).driveLoop n 1 0).modServo n fun x => { x with lasers := 1, saRamp := none }
  let s3 := (s2.modProf n fun p => { p with pscale := 0, rampAt := none }).rampFocus n (focDown v.sq) (ms (sweepMs v.sq) / 4)
  (s3.takeOffsets n v.seq.target false).modSeq n fun q =>
    { q with step := 1, sub := 0, attemptAt := s.now, returning := false, curves := 0, inCurve := false, lobe := 0, passed := false,
             verify := 0, sinceClose := 0, jumpSign := 0 }

/-- A pull-in to a layer starts. While the laser is held off it does not: a transition that needs it ends in SPINNING, and a command acquires again
once the permit is back (R53). `jump` marks one that follows a failed layer step (R136). -/
def State.startPullIn (s : State) (n target : Nat) (jump : Bool) : State :=
  if s.on .MECH_STATE_SAFE_HOLD n then
    let s1 := s.modSeq n fun q => { q with step := 0, target := target }
    if s1.on .MECH_STATE_BUSY n && servoActive (s1.get .MECH_STATE_TARGET n) then s1.endMove n (s1.mst n) else s1
  else
    let s1 := (s.takeSeq n).modServo n fun v => { v with seq := { target := target, afterJump := jump } }
    s1.startAttempt n

/-- An attempt fails: step 6, the return to FOC_PARK (R131). -/
def State.failAttempt (s : State) (n : Nat) : State :=
  let v := s.sx n
  ((s.openLoops n [0, 1, 2, 3, 4, 5]).rampFocus n (focPark v.sq) (ms (sweepMs v.sq) / 4)).modSeq n fun q =>
    { q with step := 2, returning := true, attempts := q.attempts + 1, jumpSign := 0 }

/-- Step 6 ends: the next attempt, or fault 0x60 (0x62 after a layer jump) when FOC_ATTEMPTS have failed (R131, R136). -/
def State.attemptReturned (s : State) (n : Nat) : State :=
  let v := s.sx n
  if focAttempts v.sq ≤ v.seq.attempts then s.fault n (if v.seq.afterJump then 0x62 else 0x60) 0 else s.startAttempt n

/-! ### Track-on (R137 to R139) -/

/-- Track-on goes on at step 1 or at step 3, in a sequence that runs; TRK_ON_MS runs from here. -/
def State.trackOnFrom (s : State) (n : Nat) (step3 : Bool) : State :=
  let s1 := ((s.openLoops n [1]).driveLoop n 1 0)
  let s2 := if step3 then s1 else s1.openLoops n [2, 5]
  let pol := !step3 && (s.mx n).polarityDue
  s2.modSeq n fun q =>
    { q with step := 6, sub := if pol then 2 else 3, attemptAt := s.now, verify := 0, polStep := 0, polNet := [0, 0], landed := 0, check := false }

/-- Track-on starts, at step 1 or at step 3. -/
def State.startTrackOn (s : State) (n : Nat) (step3 : Bool) : State := (s.takeSeq n).trackOnFrom n step3

/-- Back to step 1 of the same track-on: its time limit runs on (R138), and starts again only for one that had entered TRACKING on BD media (DESIGN
CHOICE, notes/assumptions/97.md). -/
def State.retryTrackOn (s : State) (n : Nat) : State :=
  let q0 := (s.sx n).seq
  (s.trackOnFrom n false).modSeq n fun q => { q with attemptAt := if q0.check then q.attemptAt else q0.attemptAt }

/-- The mechanism is on track: TRACKING, or STREAMING while it holds a lane (R37). A transition to TRACKING ends here, the idle time starts from zero
(R52), and queued work that needs a lane binds one (R26). A layer of the mounted disc that has no profile begins to learn one (R152). -/
def State.reachTracking (s : State) (n : Nat) : State :=
  let st := if (s.laneOf n).isSome then 7 else 6
  let s0 := (s.modSeq n fun q => { q with step := 0, sub := 0, seekRounds := 0, cmd := none, check := false }).modMech n fun m => { m with idleSince := s.now }
  let s1 := if s.on .MECH_STATE_MOUNTED n && !s.hasProfile n (s.sx n).layer && !(s.sx n).prof.learning then s0.startLearning n else s0
  let s2 := if s.on .MECH_STATE_BUSY n ∧ s.get .MECH_STATE_TARGET n = 6 then s1.endMove n st
    else if s.mst n = st then s1 else s1.enterState n st
  if st = 6 ∧ s2.laneWork n then s2.askLane n false else s2

/-- A mechanism that rests in SPINNING with its spindle driven acquires again for a command (R39, R53): a transition to TRACKING, whose pull-in begins at
once when the start has reached its speed, else when it does (SPEED_REACHED). -/
def State.acquireAgain (s : State) (n layer : Nat) : State :=
  if s.on .MECH_STATE_SAFE_HOLD n || !s.holdsSlot n then s
  else
    let s1 := (s.beginMove n 6).modSeq n fun q => { q with target := layer, step := 0 }
    if (s.sx n).spin.reached && s.get .MECH_SPIN_STAT_SPIN_STATE n == 6 then s1.startPullIn n layer false else s1

/-! ### Focus verified (R130, R134, R135, R150, R154) -/

/-- Acquisition goes on after focus: alignment capture when the layer has a profile and the angle is not aligned, else track-on, which waits for the entry
ramp of a profile that is not in full (R149, R154). -/
def State.afterFocus (s : State) (n : Nat) : State :=
  let v := s.sx n
  if !v.prof.sf.isEmpty && !v.prof.aligned then
    (s.modSeq n fun q => { q with step := 9, sub := 0 }).modProf n fun p => { p with capture := [], captured := 0, capAngle := 0 }
  else if !v.prof.sf.isEmpty && v.prof.pscale != 256 then
    (s.modSeq n fun q => { q with step := 9, sub := 1 }).modProf n fun p => { p with rampAt := some (p.rampAt.getD s.now) }
  else s.startTrackOn n false

/-- FOCUSED is entered; a layer jump ends with it, and the mechanism goes on to TRACKING (R135, R136). -/
def State.reachFocused (s : State) (n : Nat) : State :=
  if s.on .MECH_STATE_BUSY n ∧ s.get .MECH_STATE_TARGET n = 5 then (s.endMove n 5).beginMove n 6 else s.enterState n 5

/-- A verified focus lock begins the measurement of the layer's SA_PRESET (R196). -/
def State.startSaRun (s : State) (n : Nat) : State :=
  let l := (s.sx n).layer
  (s.modCal 0 n l fun r => { r with running := if r.running.contains 4 then r.running else r.running ++ [4] }).modServo n fun v =>
    { v with saRun := some { item := 4, layer := l } }

/-- Focus lock is verified after a pull-in: FOCUSED, lasers on, loops 3 and 4 close. -/
def State.focusVerified (s : State) (n : Nat) : State :=
  let t := (s.sx n).seq.target
  let s1 := (s.modServo n fun v => { v with layer := t, lasers := s.beamSet n }).loadProfile n t
  ((((s1.closeLoop n 3).closeLoop n 4).startSaRun n).reachFocused n).afterFocus n

/-- A layer step starts (R134): loop 0 OFF, kick. Learning on the layer that is left ends. -/
def State.startLayerStep (s : State) (n : Nat) : State :=
  let v := s.sx n
  let sign : Int := if v.seq.target < v.layer then 1 else -1
  let s1 := (s.openLoops n [0]).capHit n 2
  ((s1.modServo n fun x => { x with saRamp := none }).modProf n fun p => { p with learning := false }).modSeq n fun q =>
    { q with step := 4, sub := 0, attemptAt := s.now, jumpSign := sign, verify := 0, sinceClose := 0, passed := false }

/-- A layer step is verified (R135, R150): the current entry moves; the next step, or the end of the jump. -/
def State.layerStepDone (s : State) (n : Nat) : State :=
  let v := s.sx n
  let next := if v.seq.jumpSign > 0 then v.layer - 1 else v.layer + 1
  let s1 := ((s.modServo n fun x => { x with layer := next }).takeOffsets n next true).loadProfile n next
  let s2 := s1.modProf n fun p => if !p.sf.isEmpty && p.aligned then p else { p with pscale := 0, rampAt := none }
  if next ≠ v.seq.target then s2.startLayerStep n
  else
    (((((s2.closeLoop n 4).startSaRun n).reachFocused n).beginMove n 6).modSeq n fun q => { q with jumpSign := 0 }).afterFocus n

/-! ### Loss of lock (R142 to R147) -/

/-- The loops open as on focus loss: OFF, lasers off, loop 0 toward FOC_PARK, SPINNING, lane released (R143, R146). -/
def State.loseFocus (s : State) (n : Nat) : State :=
  let v := s.sx n
  let slew := recSlew (s.lx n 0).active
  let d := ((s.lx n 0).last - focPark v.sq).natAbs
  let samples := if slew = 0 then 256 else (d + slew - 1) / slew
  let s1 := ((s.abandonRuns n).openLoops n [0, 1, 2, 3, 4, 5]).modServo n fun x => { x with lasers := 0, focLost := 0, trkLost := 0, saRamp := none }
  let s2 := (s1.rampFocus n (focPark v.sq) (samples * s.samplePeriod n)).driveLoop n 1 0
  let s3 := (s2.releaseLane n true).endSeek n
  let s4 := s3.modProf n fun p => { p with pscale := 0, rampAt := none, spoilt := true }
  if s4.on .MECH_STATE_BUSY n then s4.enterState n 4 else (s4.enterState n 4).chg n

/-! ### Starts of the spindle that a sample can end (R169, R170) -/

/-- A spindle state is entered; the model keeps when. -/
def State.enterSpin (s : State) (n st : Nat) : State := (s.set .MECH_SPIN_STAT_SPIN_STATE n st).modSpin n fun p => { p with stateAt := s.now, count := 0 }

/-- Loop 6 closes and the spindle enters SLEW; a spin-up shows SPINNING from here (R36, R168, R169). `ref` is in rpm. -/
def State.spinClosed (s : State) (n ref : Nat) : State :=
  let s1 := ((s.closeLoop n 6).enterSpin n 7).set .MECH_SPIN_STAT_OBS_LOCK n 1
  let s2 := (s1.setLs n 7 1).modSpin n fun p => { p with ref := ref * 65536, stall := 0, obsTest := false }
  if servoActive (s2.mst n) then s2 else s2.enterState n 4

/-- A start sequence, or a new attempt of one, begins with the drive record in force, and with a loop 7 record that stands in the shadow bank for it; EX1
waits, EX2 and EX4 sense (R162, R163, R166, R167). -/
def State.startSequence (s : State) (n : Nat) : State :=
  let s1 := if (s.sx n).spin.staged7 then s.modLoop n 7 fun x => { x with active := x.shadow, shadow := x.active } else s
  let s2 := s1.modServo n fun v => { v with dr := s.driveRec (s.clsOf n) }
  (s2.enterSpin n (if s.asEx1 n then 0xB else 1)).modSpin n fun p =>
    { p with stall := 0, obsTest := false, reached := false, forcedSpeed := 0, intD := 0, intQ := 0, sense := {}, staged7 := false }

/-! ### Spin-down (R43, R45, R176, R178) -/

/-- Commands of one opcode that have started on mechanism n complete; RESULT0 is MECH_STATE [11:0] (spec/13 "Result words"). -/
def State.completeState (s : State) (n op st : Nat) : State :=
  s.forEach ((s.cmdsOf n).filter fun c => c.d.opcode == op && c.started) fun t c => t.complete c st 0 ((t.rd .MECH_STATE n).toNat % 4096) 0

/-- A state command that drove an abandoned transition ends with a status; nothing of it drives the mechanism any more (R52). -/
def State.cutDriver (s : State) (n st : Nat) : State :=
  (s.modMech n fun m => { m with orphan := none }).forEach ((s.cmdsOf n).filter fun c => (c.d.opcode == 6 || c.d.opcode == 8) && c.started) fun t c =>
    t.cutCmd c st

/-- A normal spin-down ends: slot and SPIN grant are released (R176), and the mechanism rests. One toward LOADED, or for an EJECT, ends the
mount; an EJECT goes on from LOADED. -/
def State.endSpinDown (s : State) (n : Nat) : State :=
  let s0 := if s.get .MECH_STATE_TARGET n = 2 then s else s.clearMount n
  let s1 := (s0.releaseSlot n).modMech n fun m => { m with spinDown := false, stopIssued := false }
  let s2 := s1.returnGrant n fun g => { g with spin := none, spinup := none, spinupAt := 0 }
  if s.get .MECH_STATE_TARGET n = 1 then (s2.enterState n (s2.restState n)).askTray n
  else (s2.endMove n (s2.restState n)).completeState n 6 0

/-- The spindle stop is issued: loops 0 to 5 open, lasers go off, and the spindle brakes, or coasts with SPINDOWN clear (R45, R176). -/
def State.issueStop (s : State) (n : Nat) : State :=
  let s1 := ((s.endSeek n).openLoops n [0, 1, 2, 3, 4, 5]).modServo n fun v => { v with lasers := 0, ramp := none, saRamp := none, seq := {} }
  let s2 := s1.modMech n fun m => { m with stopIssued := true }
  let st := s.get .MECH_SPIN_STAT_SPIN_STATE n
  let r := s.driveRec (s.clsOf n)
  if brakeDown r && (st == 6 || st == 7 || st == 8) then (s2.modServo n fun v => { v with dr := r }).enterSpin n 8
  else
    let s3 := ((s2.openLoops n [6, 7]).enterSpin n 0xA).set .MECH_SPIN_STAT_OBS_LOCK n 0
    let s4 := (s3.modMech n fun m => { m with driveStop := some s.now }).setIf (s.asEx1 n) .MECH_STATE_TURNING n 1
    s4.endSpinDown n

/-- The park move of a spin-down begins, its SEEK grant held: loops 1 and 2 open, loop 5 carries the sled to PARK_POS (R176). -/
def State.startPark (s : State) (n : Nat) : State :=
  let s1 := (s.openLoops n [1, 2]).driveLoop n 1 0
  let s2 := if s1.ls n 5 = 0 then s1.closeLoop n 5 else s1
  let r := s.driveRec (s.clsOf n)
  let s3 := s2.modServo n fun v => { v with drSled := r }
  (s3.modSled n fun x => { x with seekTgt := some (parkPos r) }).modSeq n fun q => { q with step := 8, sub := 0, landed := 0 }

/-- A spin-down toward `target` begins (R43, R176): PARK once its SEEK grant is held; a mechanism whose SEEK can never fit stops at once. -/
def State.startSpinDown (s : State) (n target : Nat) : State :=
  if (s.mx n).spinDown then s.set .MECH_STATE_TARGET n target
  else
    let s1 := (((s.abandonRuns n).releaseLane n true).beginMove n target).modMech n fun m => { m with spinDown := true, stopIssued := false }
    let amt := s1.reqAmount 2 n 0 0
    match s1.request { cls := 2, who := n, dom := s1.domOf n, mw := amt.1, at_ := s.now } with
    | (t, .granted) => t.startPark n
    | (t, .deferred) => t
    | (t, .refused) => t.issueStop n

/-- A spin-down whose stop has not been issued is given up: its SEEK request or grant goes, and its transition is abandoned (R45, R52). -/
def State.dropSpinDown (s : State) (n : Nat) : State :=
  let s1 := (s.modMech n fun x => { x with spinDown := false }).modBreath fun b => { b with reqs := b.reqs.filter fun r => !(r.cls == 2 && r.who == n) }
  (s1.endSeek n).endMove n (s.mst n)

/-- A command accepted before the spindle stop cancels an idle spin-down or reclaim (R45): track-on runs again where the sled stands. -/
def State.cancelSpinDown (s : State) (n : Nat) : State :=
  let m := s.mx n
  if m.spinDown && !m.stopIssued && s.get .MECH_STATE_TARGET n == 2 then
    let s2 := s.dropSpinDown n
    if (s.sx n).seq.step = 8 then s2.startTrackOn n true else s2
  else s

/-! ### Loss of lock against other events (R52, R142 to R147) -/

/-- Focus loss (R143, R145). An idle spin-down or reclaim gives way to the re-acquisition; the spin-down of a state command goes on, and issues its stop
at once (R52). -/
def State.focusLoss (s : State) (n : Nat) : State :=
  let v := s.sx n
  let times := (v.focLosses.filter fun t => s.now < t + 1000000000) ++ [s.now]
  let s0 := (s.modServo n fun x => { x with focLosses := times }).capHit n 2
  if lossMax v.sq < times.length then s0.fault n 0x60 0
  else if (s.mx n).spinDown && s.get .MECH_STATE_TARGET n != 2 then (s0.loseFocus n).issueStop n
  else
    let s1 := if (s.mx n).spinDown then s0.dropSpinDown n else s0
    let busy := s1.on .MECH_STATE_BUSY n
    let s2 := s1.loseFocus n
    let s3 := if busy then s2 else s2.beginMove n 6
    s3.modSeq n fun _ => { ({} : SeqX) with step := 11, target := v.layer }

/-- Track loss (R144, R145), against a spin-down as a focus loss is. -/
def State.trackLoss (s : State) (n : Nat) : State :=
  let v := s.sx n
  let times := (v.trkLosses.filter fun t => s.now < t + 1000000000) ++ [s.now]
  let s0 := (s.modServo n fun x => { x with trkLosses := times, trkLost := 0 }).capHit n 2
  if lossMax v.sq < times.length then s0.fault n 0x61 0
  else
    let s1 := (((s0.abandonRuns n).headLeaves n).openLoops n [1, 2, 5]).modProf n fun p => { p with spoilt := true }
    if (s.mx n).spinDown && s.get .MECH_STATE_TARGET n != 2 then s1.issueStop n
    else
      let s2 := if (s.mx n).spinDown then s1.dropSpinDown n else s1
      let s3 := if s.mst n = 6 then (if s2.on .MECH_STATE_BUSY n then s2.enterState n 5 else ((s2.enterState n 5).chg n).beginMove n 6) else s2
      s3.startTrackOn n true

/-- A stall or a failed attempt (R170): the phases float, a locked focus counts as lost (R143), one that is being pulled in is given up, and a new attempt
begins, or fault 0x60 with DETAIL 0xF. Pull-in starts again when the new attempt reaches its speed. A spin-down that goes on needs no new attempt. A stall
after the planned speed was reached is no failed attempt: a new start begins with it (DEDUCED, notes/assumptions/99.md). -/
def State.spinFailed (s : State) (n : Nat) : State :=
  let done := (s.sx n).spin.reached
  let k := if done then 0 else s.get .MECH_SPIN_STAT_TRIES n + 1
  let s0 := ((s.set .MECH_SPIN_STAT_TRIES n k).set .MECH_SPIN_STAT_OBS_LOCK n 0).modSpin n fun p => { p with spinupNs := if done then 0 else p.spinupNs }
  if startTries (s.sx n).dr ≤ k then s0.fault n 0x60 0xF
  else
    let q := (s.sx n).seq
    let s1 := s0.openLoops n [6, 7]
    let s2 := if s.ls n 0 ≠ 0 then s1.focusLoss n else if q.step ≠ 0 then s1.loseFocus n else s1.openLoops n [5]
    if !s2.holdsSlot n || (s2.mx n).stopIssued then s2
    else
      let tgt := if s.ls n 0 ≠ 0 then (s.sx n).layer else q.target
      let s3 := s2.startSequence n
      let s4 := if s.asEx1 n then (s3.modMech n fun m => { m with driveStop := some s.now }).set .MECH_STATE_TURNING n 1 else s3
      (s4.modSeq n fun _ => { ({} : SeqX) with target := tgt, afterJump := s.ls n 0 = 0 && q.afterJump }).modProf n fun p => { p with aligned := false }

/-- The laser-permit drop of a slot (R53, R146): loops open as on focus loss, nothing is counted, acquisition waits. A transition under way is abandoned in
SPINNING; a state command whose spin-down it was ends with 0x0601 (R52). A spindle that is already stopping stops. -/
def State.permitLoss (s : State) (n : Nat) : State :=
  let v := s.sx n
  if (s.mx n).stopIssued then s.enterState n 4
  else
    let s0 := if (s.mx n).spinDown then s.dropSpinDown n else s
    let s1 := s0.loseFocus n
    let s2 := if s1.on .MECH_STATE_BUSY n then s1.endMove n 4 else s1
    (s2.cutDriver n 0x0601).modSeq n fun _ => { ({} : SeqX) with target := v.layer }

end Sys2Proof.Machine
end

