-- ==== Sys2Proof/Machine/Servo.lean ====
section
/-! DEFINITION. One servo sample of a slot: inputs, loops, sequences, spindle, sled, profile, injection and capture
(spec/04 R94 to R100, R109; spec/05 R125 to R158; spec/06 R164, R179, R180). -/

namespace Sys2Proof.Machine

/-! ### Signals -/

/-- The fields of a slot that the drop's version defines; the others read 0 (R64). -/
def visible (ver : Nat) (x : UpSlot) : UpSlot :=
  let x1 := if ver < 0x20 then { x with te1 := 0, te2 := 0, te3 := 0 } else x
  if ver < 0x11 then { x1 with bemfA := 0, bemfB := 0 } else x1

/-- The beam-weighted tracking error (R126). -/
def tewOf (sq : List Nat) (single : Bool) (trkOfs : Int) (x : UpSlot) : Int :=
  let w := fun b => if single then (if b = 0 then 0x7FFF else 0) else beamWeight sq b
  sat16 (sat16 ((w 0 * x.te0 + w 1 * x.te1 + w 2 * x.te2 + w 3 * x.te3 + 2 ^ 14) / 2 ^ 15) - trkOfs)

/-- The field an IN_SEL code selects (R94, "IN_SEL codes"). Code 0x0A, the loop-specific input of loops 5 and 6, reads 0 in a record of another loop
(DESIGN CHOICE, notes/assumptions/95.md). -/
def fieldOf (x : UpSlot) (tew : Int) (code : Nat) : Int :=
  match code with
  | 0 => x.fe | 1 => x.te0 | 2 => x.te1 | 3 => x.te2 | 4 => x.te3 | 5 => x.sum | 6 => x.lens | 7 => x.tilt | 8 => x.sae | 9 => tew
  | _ => 0

def offIndex (l : Nat) : Nat := if l = 0 then 0 else if l = 1 then 1 else if l = 3 then 2 else 3

/-- The x of loop l (R125, R127). `o32` is the output of loop 2 in this sample, `es` the seek term, `spd` the speed error. -/
def loopInput (v : ServoX) (l : Nat) (r : List Nat) (x : UpSlot) (tew o32 es spd : Int) : Int :=
  let code := recInSel r
  if l = 5 ∧ code = 0x0A then sat16 (o32 + es)
  else if l = 6 ∧ code = 0x0A then sat16 spd
  else if code = 9 then tew
  else if l = 0 ∨ l = 1 ∨ l = 3 ∨ l = 4 then sat16 (fieldOf x tew code - offNow v (offIndex l))
  else fieldOf x tew code

/-- P[i] of R149. -/
def profPoint (t : List Int) (scale : Nat) (i : Nat) : Int := (t.getD i 0 * scale + 128) / 256

/-! ### Crossings (R137) -/

/-- One sample of the crossing counter: the new counter, and the direction (+1, -1, or 0 when not known) of a crossing, if one is counted. -/
def crossStep (sq : List Nat) (c : CrossX) (tew sum : Int) : CrossX × Option Int :=
  let h := 64 * crossHyst sq
  let mean64 := c.sums.foldl (· + ·) 0
  let n := c.sums.length
  let above := decide (mean64 ≤ sum * n)
  let dir := if c.above && !above then (if tew > 0 then 1 else if tew < 0 then -1 else 0) else c.dir
  let side := if h < tew then 1 else if tew < -h then -1 else c.side
  let c1 := { c with sums := (c.sums ++ [sum]).drop (n + 1 - 64), above := above, dir := dir, since := c.since + 1 }
  if side ≠ c.side ∧ c.side ≠ 0 then ({ c1 with side := side, interval := c.since + 1, since := 0 }, some dir)
  else ({ c1 with side := side }, none)

/-! ### The profile angle (R148) -/

/-- The observer's speed times the sample period, in the units of θ. -/
def State.thetaStep (s : State) (n : Nat) : Int :=
  (s.sx n).spin.omega * s.samplePeriod n * 65536 / 1000000000 / poles (s.lx n 7).active

/-- θ advances by the observer's speed times the sample period. -/
def State.advanceTheta (s : State) (n : Nat) : State × Bool :=
  let c := s.clusterOf n
  let k := s.slotOf n
  let th := s.get .CIRQ_ANGLE_THETA c k
  let new := (th : Int) + s.thetaStep n
  ((s.set2 .CIRQ_ANGLE_THETA c k ((new % 2 ^ 32).toNat)).modServo n fun v => { v with thetaAt := ((s.px (portOf n)).tickAt).getD 0 },
   decide (new < 0 ∨ 2 ^ 32 ≤ new))

/-! ### Injection (R156) -/

/-- AMP x sin, rounded to the nearest count. -/
def sineG (amp phi : Nat) : Int := (sinT phi * amp * 2 + 2 ^ 30) / 2 ^ 31

/-- One sample instant of the generator of cluster c: g and the generator after it; `none` when the run ends. -/
def injStep (type amp f1 ratio dwell hold : Nat) (x : InjX) : Int × Option InjX × Bool :=
  if type = 0 then
    let g := sineG amp x.phi
    let n := x.n + 1
    let phi := (x.phi + x.delta) % 2 ^ 32
    if n = dwell then
      let d := x.delta + (x.delta * ratio + 2 ^ 15) / 2 ^ 16
      (g, if f1 < d then none else some { x with phi := phi, delta := d, n := 0 }, true)
    else (g, some { x with phi := phi, n := n }, false)
  else if type = 1 then
    let g : Int := if x.lfsr % 2 = 1 then amp else -(amp : Int)
    let n := x.n + 1
    if n = 2 ^ hold then
      let b := Nat.xor (bitAt x.lfsr 14) (bitAt x.lfsr 13)
      (g, some { x with lfsr := x.lfsr * 2 % 2 ^ 15 + b, n := 0 }, false)
    else (g, some { x with n := n }, false)
  else
    if x.n < dwell then ((amp : Int), some { x with n := x.n + 1 }, false) else (0, none, false)

/-- The generator of the slot's cluster takes one sample instant, if it runs on this slot; g for the sample. -/
def State.injSample (s : State) (n : Nat) : State × Int :=
  let c := s.clusterOf n
  match tabGet s.cirq.inj c none with
  | none => (s, 0)
  | some x =>
    if s.get .CIRQ_INJ_CTRL_MN c ≠ n then (s, 0)
    else
      let r := injStep (s.get .CIRQ_INJ_CTRL_TYPE c) (s.get .CIRQ_INJ_AMP_AMP c) (s.get .CIRQ_INJ_F1_DPHI c) (s.get .CIRQ_INJ_STEP_RATIO c)
        (s.get .CIRQ_INJ_STEP_DWELL c) (s.get .CIRQ_INJ_CTRL_PRBS_HOLD c) x
      let s1 := if r.2.2 then s.bump .CIRQ_INJ_STAT_STEP c else s
      match r.2.1 with
      | some y => (s1.modCirq fun q => { q with inj := tabPut q.inj c (some { y with g := r.1 }) none }, r.1)
      | none => (s1.endInj c 1, r.1)

/-! ### Capture (R158) -/

/-- The value of a capture signal (spec/05 "Capture signal codes"). -/
def State.capSignal (s : State) (n : Nat) (x : UpSlot) (tew g : Int) (code : Nat) : Int :=
  let v := s.sx n
  let lv := fun (l : Nat) (y : Int) => if recFmt (s.lx n l).active = 1 then sat16 ((y + 2 ^ 8) / 2 ^ 9) else y
  let th := s.get .CIRQ_ANGLE_THETA (s.clusterOf n) (s.slotOf n)
  if code ≤ 9 then fieldOf x tew code
  else if code = 0x0A then x.lmon else if code = 0x0B then x.ish1 else if code = 0x0C then x.ish2
  else if code = 0x0D then x.bemfA else if code = 0x0E then x.bemfB else if code = 0x0F then x.vbus else if code = 0x10 then x.isled
  else if 0x20 ≤ code ∧ code < 0x27 then lv (code - 0x20) (s.lx n (code - 0x20)).u
  else if 0x28 ≤ code ∧ code < 0x2F then lv (code - 0x28) (s.lx n (code - 0x28)).c
  else if 0x30 ≤ code ∧ code < 0x37 then (s.lx n (code - 0x30)).q
  else if 0x38 ≤ code ∧ code < 0x3F then (s.lx n (code - 0x38)).last
  else if code = 0x40 then g
  else if code = 0x41 then profileAt (profPoint v.prof.sf v.prof.pscale) th
  else if code = 0x42 then profileAt (profPoint v.prof.st v.prof.pscale) th
  else if code = 0x43 then signed 16 (th / 65536)
  else if code = 0x44 then (if v.seq.step = 12 then 4 else if v.seq.step = 0 ∧ v.prof.learning then 10 else v.seq.step)
  else signed 16 (s.get .MECH_SLED_POS_POS n)

/-- Four free values of 16 bits, for a pre-trigger point that was never recorded. -/
def State.freePoint (s : State) : State × (List Int × Bool) :=
  (((s.takeFree.2).takeFree.2.takeFree.2).takeFree.2,
   ([signed 16 s.takeFree.1, signed 16 s.takeFree.2.takeFree.1, signed 16 s.takeFree.2.takeFree.2.takeFree.1,
     signed 16 s.takeFree.2.takeFree.2.takeFree.2.takeFree.1], false))

def State.padPoints : Nat → State → List (List Int × Bool) → State × List (List Int × Bool)
  | 0, s, l => (s, l)
  | k + 1, s, l => State.padPoints k s.freePoint.1 (s.freePoint.2 :: l)

/-- One sample instant of the capture engine of the slot's cluster. -/
def State.capSample (s : State) (n : Nat) (x : UpSlot) (tew g : Int) (held : Bool) : State :=
  let c := s.clusterOf n
  let k := s.cap c
  if !k.armed || k.mn != n then s
  else
    let s0 := s.modCap c fun y => { y with ticks := y.ticks + 1 }
    let pre := s.get .CIRQ_CAP_LEN_PRE c
    let hit := s.get .CIRQ_CAP_CTRL_TRIG c == 0 || k.hit
    let wait := s.on .CIRQ_CAP_STAT_ARMED c
    if k.ticks % 2 ^ s.get .CIRQ_CAP_CTRL_DEC c ≠ 0 then s0
    else
      let sel := fun i => s.get (match i with | 0 => Fld.CIRQ_CAP_SEL_SEL0 | 1 => Fld.CIRQ_CAP_SEL_SEL1 | 2 => Fld.CIRQ_CAP_SEL_SEL2 | _ => Fld.CIRQ_CAP_SEL_SEL3) c
      let pt : List Int × Bool := ((List.range 4).map fun i => s.capSignal n x tew g (sel i), held)
      if wait && !hit then
        s0.modCap c fun y => { y with points := (y.points ++ [pt]).drop (y.points.length + 1 - pre) }
      else
        let s1 :=
          if wait then
            let p := s0.padPoints (pre - k.points.length) k.points
            let s2 := p.1.modCap c fun y => { y with points := p.2, trigTime := s.now }
            let s3 := (s2.set .CIRQ_CAP_STAT_ARMED c 0).set .CIRQ_CAP_STAT_TRIGGERED c 1
            s3.set64 .CIRQ_CAP_TRIG_LO_TIME_NS .CIRQ_CAP_TRIG_HI_TIME_NS c s.now
          else s0
        let pts := (s1.cap c).points ++ [pt]
        let s4 := (s1.modCap c fun y => { y with points := pts }).set .CIRQ_CAP_STAT_COUNT c pts.length
        if pts.length = s.get .CIRQ_CAP_LEN_LEN c + 1 then s4.endCap c 0 else s4

/-! ### The stepper generator (R179, R180, R182) -/

/-- Phase currents at a position (R179). -/
def sledCurrents (table : List Nat) (pos : Int) (i : Nat) : Int × Int :=
  let p := (pos % 1024).toNat
  let e := table.getD (p % 256) 0
  let a : Int := (e % 65536 : Nat)
  let b : Int := (e / 65536 : Nat)
  let q := p / 256
  let ab := if q = 0 then (a, b) else if q = 1 then (-b, a) else if q = 2 then (-a, -b) else (b, -a)
  ((ab.1 * i + 2 ^ 15) / 2 ^ 16, (ab.2 * i + 2 ^ 15) / 2 ^ 16)

/-- The demand of a sample in 2^-16 microsteps a sample, a signed 32-bit value, rounded to the nearest (R180). -/
def sledDemand (r : List Nat) (ts : Nat) (o35 : Int) : Int :=
  let lim : Int := (vmaxOf r : Int) * 256
  clampI ((clampI (o35 * kvOf r) (-lim) lim * ts * 512 + 1000000000) / 2000000000) (-2 ^ 31) (2 ^ 31 - 1)

/-- The generator in one sample (R180, R182): position and velocity in 2^-16 microsteps. AMAX x T^2 can be less than one count of v; what a sample leaves
over of it counts in the next (DESIGN CHOICE, notes/assumptions/99.md). -/
def State.sledMove (s : State) (n : Nat) (held : Bool) (o35 : Int) (off : Bool) : State :=
  let v := s.sx n
  let ts := s.samplePeriod n
  let vd := if off then 0 else sledDemand v.drSled ts o35
  let room := v.sled.left + amaxOf v.drSled * ts * ts * 65536
  let dv : Int := (room / 10 ^ 18 : Nat)
  let vel := if held then v.sled.v else clampI vd (v.sled.v - dv) (v.sled.v + dv)
  let pos := signed 48 (unsignedOf 48 (v.sled.pos + vel))
  let valid := s.on .MECH_SLED_STAT_POS_VALID n
  let lo := signed 32 (s.get .MECH_SLED_LIM_IN_LIM n) * 2 ^ 16
  let hi := signed 32 (s.get .MECH_SLED_LIM_OUT_LIM n) * 2 ^ 16
  let old := v.sled.pos
  -- a position already beyond a limit may move only back toward the permitted range
  let clipIn := valid && decide (pos < lo) && decide (vel < 0)
  let clipOut := valid && decide (hi < pos) && decide (vel > 0)
  let clip := clipIn || clipOut
  let pos1 := if clipIn then min old lo else if clipOut then max old hi else pos
  let vel1 := if clip then 0 else vel
  let pi := pos1 / 2 ^ 16
  let tbl := if v.sled.tableNew ≠ [] ∧ (pi % 256 = 0 ∨ pi / 256 ≠ old / 2 ^ 16 / 256) then v.sled.tableNew else v.sled.table
  let s1 := s.modSled n fun x =>
    { x with pos := pos1, v := vel1, restAt := if vel1 = 0 then some (x.restAt.getD s.now) else none, table := tbl,
             tableNew := if tbl = x.tableNew then [] else x.tableNew, left := if held then x.left else room % 10 ^ 18, clipped := clip }
  let s2 := (s1.set .MECH_SLED_POS_POS n (unsignedOf 32 pi)).set .MECH_SLED_STAT_MOVING n (b2n (decide (vel1 ≠ 0)))
  let s3 := s2.set .MECH_SLED_STAT_OUTSIDE n (b2n (valid && (decide (pos1 < lo) || decide (hi < pos1))))
  let s4 := if vel1 ≠ 0 then s3.set .MECH_SLED_STAT_HOLDING n 0 else s3
  -- a move that goes on against its limit has been counted
  if !clip || v.sled.clipped then s4
  else (if clipIn then s4.raise .MECH_SLED_STAT_CLIP_IN n else s4.raise .MECH_SLED_STAT_CLIP_OUT n).bump .MECH_SLED_STAT_CLIPS n

/-! ### The spindle in one sample (R164 to R171) -/

/-- Driven states of loop 7. -/
def spinDriven (st : Nat) : Bool := st == 2 || st == 4 || st == 5 || st == 6 || st == 7 || st == 8

/-- The reference of loop 6 slews toward its goal (R174, R176); RUN and SLEW follow it. -/
def State.slewRef (s : State) (n : Nat) : State :=
  let v := s.sx n
  let st := s.get .MECH_SPIN_STAT_SPIN_STATE n
  if st = 6 ∨ st = 7 ∨ st = 8 then
    let goal : Int := if st = 8 then 0 else (s.get .MECH_SPEED_TARGET n : Int) * 16384
    let ts : Int := s.samplePeriod n
    let r := if st = 8 then v.dr else v.drPlan
    let up : Int := (accelOf r : Int) * 65536 * ts / 1000000000
    let dn : Int := (decelOf r : Int) * 65536 * ts / 1000000000
    let ref := if v.spin.ref < goal then min goal (v.spin.ref + up) else max goal (v.spin.ref - dn)
    let s1 := s.modSpin n fun p => { p with ref := ref }
    if st = 8 then s1
    else
      let s2 := s1.set .MECH_SPIN_STAT_SPIN_STATE n (if ref = goal then 6 else 7)
      -- a falling reference that reaches its target gives back the SPIN part above P_spin(TARGET) (R311)
      let part := s.pSpin (s.clsOf n) (s.get .MECH_SPEED_TARGET n)
      if st = 7 ∧ ref = goal ∧ goal < v.spin.ref ∧ part < (s.grants n).spin.getD 0 then s2.returnGrant n fun g => { g with spin := some part } else s2
  else s

/-- Three free deviations of at most one count. -/
def State.freeDuties (s : State) : State × List Int :=
  let d := fun (k : Nat) => ((k % 3 : Nat) : Int) - 1
  (((s.takeFree.2).takeFree.2).takeFree.2, [d s.takeFree.1, d s.takeFree.2.takeFree.1, d s.takeFree.2.takeFree.2.takeFree.1])

/-- The end of a driven period: speed registers, stall, handover test and speed-reached counts (R164, R169 to R171, R176, R178). -/
def State.spinAfter (s : State) (n : Nat) (mag : Nat) : State :=
  let v := s.sx n
  let r := (s.lx n 7).active
  let st := s.get .MECH_SPIN_STAT_SPIN_STATE n
  let meas := rpm4 r v.spin.omega
  let s1 := (s.set .MECH_SPEED_MEAS n (min meas 65535)).set .MECH_STATE_TURNING n (b2n (decide (1200 ≤ meas)))
  if st = 5 then
    let speed := min (v.spin.forcedSpeed + elecOf r ((olAccel v.dr : Int) * 65536 * 16 / 1000000)) (elecOf r ((olRpm v.dr : Int) * 65536))
    let s2 := s1.modSpin n fun p => { p with forcedSpeed := speed, forced := (p.forced + speed * 1048576 / 1000000) % 2 ^ 32 }
    if v.spin.obsTest then
      let d := signed 32 (unsignedOf 32 (v.spin.theta - v.spin.forced))
      let k := if d.natAbs * 12 < 2 ^ 32 then v.spin.count + 1 else 0
      if k = 32 then s2.spinClosed n (olRpm v.dr) else s2.modSpin n fun p => { p with count := k }
    else s2
  else if st = 6 ∨ st = 7 then
    let floor_ : Int := (obsMin r : Int) * 65536
    let weak := decide (mag < keOf r * obsMin r) && decide (floor_ < v.spin.ref)
    let k := if weak then v.spin.stall + 1 else 0
    let tgt := s.get .MECH_SPEED_TARGET n
    let near := decide (((meas : Int) - tgt).natAbs * 200 ≤ tgt) && st == 6
    let s2 := s1.modSpin n fun p => { p with stall := k, count := if near then p.count + 1 else 0 }
    if k = 64 then s2.spinFailed n else s2
  else if st = 8 then
    if meas < obsMin r * 4 then
      ((((s1.enterSpin n 9).startShort n v.dr).set .MECH_SPIN_STAT_OBS_LOCK n 0).openLoops n [6, 7]).modMech n fun m => { m with driveStop := some s.now }
    else s1
  else s1.modSpin n fun p => { p with count := v.spin.count + 1 }

/-- The first PWM period after SENSE: loop 7 applies the voltage of the measured back-EMF, a quarter turn ahead of θ (R168). -/
def State.catchPeriod (s : State) (n : Nat) (x : UpSlot) (period : Nat) : State :=
  let v := s.sx n
  let f := s.freeDuties
  let c := applyV (s.lx n 7).active { v.spin with iPrevA := 0, iPrevB := 0 } 0 v.spin.sense.mag v.spin.theta (x.vbus * (s.mx n).scaleV) period f.2
  let s1 := (f.1.modSpin n fun _ => { c.sp with mag := v.spin.sense.mag }).set .MECH_SPIN_STAT_SHIFTING n (b2n (decide (c.duties.getD 3 0 ≠ 0)))
  (if c.noWin then s1.bump .MECH_START_CNT_NOWIN n else s1).spinAfter n v.spin.sense.mag

/-- Loop 7 in a sample: SENSE measures in every sample; a new PWM period computes, any other sample repeats the fields (R163, R164, R166). -/
def State.spinSample (s00 : State) (n : Nat) (x : UpSlot) (o36 : Int) : State :=
  let st := s00.get .MECH_SPIN_STAT_SPIN_STATE n
  let sv : Int := (s00.mx n).scaleV
  let s := if st = 1 then s00.modSpin n fun p => { p with sense := senseStep p.sense s00.now (x.bemfA * sv) (x.bemfB * sv) } else s00
  let v := s.sx n
  let period := s.now / 16000
  if period = v.spin.period then s
  else
    let s0 := s.modSpin n fun p => { p with period := period }
    if st = 2 ∧ v.spin.count = 0 then s0.catchPeriod n x period else
    if !spinDriven st then
      (s0.modSpin n fun p => { p with duties := if st = 3 ∨ st = 9 then [0, 0, 0, 0] else [0, 0, 0, -32768], noWin := false }).set .MECH_SPIN_STAT_SHIFTING n 0
    else
      let m := s.mx n
      let r := (s.lx n 7).active
      let vbus := x.vbus * m.scaleV
      let nb := brakeWithdrawn r v.spin.noBrake vbus
      let sp := { v.spin with noBrake := nb, period := period }
      let ids : Int := if st = 4 ∨ st = 5 then (alignMa v.dr : Int) * 1000 else 0
      let iqs := if st = 2 ∨ st = 4 ∨ st = 5 then 0 else iqDemand r o36 (s.get .MECH_SPIN_STAT_THROTTLE n) nb
      let lead := if st = 4 then some (0, 0) else if st = 5 then some (v.spin.forced, v.spin.forcedSpeed) else none
      let f := s0.freeDuties
      let c := commute r sp (x.ish1 * m.scaleI) (x.ish2 * m.scaleI) vbus ids iqs lead period f.2
      let s1 := (f.1.modSpin n fun _ => { c.1.sp with mag := c.2 }).set .MECH_SPIN_STAT_SHIFTING n (b2n (decide (c.1.duties.getD 3 0 ≠ 0)))
      let s2 := if c.1.noWin then s1.bump .MECH_START_CNT_NOWIN n else s1
      s2.spinAfter n c.2

/-! ### Learning and alignment capture (R151, R154) -/

/-- Squares of the cascade output and of P of loops 0 and 1 in the running revolution with PSCALE at 256; after 4 revolutions in a row whose
RMS of c exceeds PROF_RESID (Q4.4) times that of P, learning starts (R152). -/
def State.residSample (s : State) (n : Nat) (wrapped : Bool) : State :=
  let v := s.sx n
  if v.prof.learning || v.prof.pscale != 256 then s.modProf n fun p => { p with resid := [], badRevs := 0 }
  else
    let th := s.get .CIRQ_ANGLE_THETA (s.clusterOf n) (s.slotOf n)
    let at_ := fun (l : Nat) (t : List Int) =>
      let x := s.lx n l
      let c := if recFmt x.active = 1 then sat16 ((x.c + 2 ^ 8) / 2 ^ 9) else x.c
      let p := profileAt (profPoint t 256) th
      let o := v.prof.resid.getD l (0, 0)
      (o.1 + c * c, o.2 + p * p)
    let sums := [at_ 0 v.prof.sf, at_ 1 v.prof.st]
    if wrapped then
      let lim : Int := profResid v.sq * profResid v.sq
      let bad := !v.prof.spoilt && sums.any fun e => decide (lim * e.2 < 256 * e.1)
      let s1 := s.modProf n fun p => { p with resid := [], badRevs := if bad then p.badRevs + 1 else 0 }
      if 4 ≤ (s1.sx n).prof.badRevs then s1.startLearning n else s1
    else s.modProf n fun p => { p with resid := sums }

/-- A sample counts toward learning: its bin takes the outputs of loops 0 and 1; at the end of a revolution the bins join the sums unless it was spoilt.
A revolution in which a loop of 0 and 1 is not CLOSED (`closed` false) is spoilt (R151). -/
def State.learnSample (s0 : State) (n : Nat) (wrapped counts closed : Bool) : State :=
  let sr := s0.residSample n wrapped
  let s := if closed then sr else sr.modProf n fun p => { p with spoilt := true }
  let v := s.sx n
  if !v.prof.learning then (if wrapped then s.modProf n fun p => { p with spoilt := false } else s)
  else
    let bin := s.get .CIRQ_ANGLE_THETA (s.clusterOf n) (s.slotOf n) / 2 ^ 22
    let add := fun (t : Tab (Int × Int × Nat)) (b : Nat) (e : Int × Int × Nat) =>
      let o := tabGet t b (0, 0, 0)
      tabIns t b (o.1 + e.1, o.2.1 + e.2.1, o.2.2 + e.2.2)
    let s1 :=
      if wrapped then
        s.modProf n fun p =>
          if p.spoilt then { p with revBins := [], spoilt := false }
          else { p with bins := p.revBins.foldl (fun t e => add t e.1 e.2) p.bins, revBins := [], revs := p.revs + 1 }
      else s
    if counts then s1.modProf n fun p => { p with revBins := add p.revBins bin ((s.lx n 0).last, (s.lx n 1).last, 1) } else s1

/-! ### Sequence steps in a sample (R129 to R141) -/

/-- Both laser and layer stepping of a pull-in in its ramps (steps 1, 2 and 6). -/
def State.pullSample (s : State) (n : Nat) (x : UpSlot) : State :=
  let v := s.sx n
  let q := v.seq
  match v.ramp with
  | none => s.startAttempt n
  | some rp =>
    let s0 := s.driveLoop n 0 (rampAt rp s.now)
    if q.returning then (if rampDone rp s.now then s0.attemptReturned n else s0)
    else if q.step = 1 then
      if sumTh v.sq ≤ x.sum then s0.fault n 0x21 0
      else if rampDone rp s.now then (s0.rampFocus n (focUp v.sq) (ms (sweepMs v.sq))).modSeq n fun y => { y with step := 2 }
      else s0
    else
      let begins := !q.inCurve && decide (sumTh v.sq ≤ x.sum)
      let inside := begins || q.inCurve
      let k := if begins then q.curves + 1 else q.curves
      let lobe0 := if begins then 0 else q.lobe
      let lobe : Int := if !inside ∨ lobe0 ≠ 0 then lobe0 else if fePkTh v.sq ≤ x.fe then 1 else if x.fe ≤ -fePkTh v.sq then -1 else 0
      let rev := if lobe = -1 ∧ lobe0 = 0 then q.reversed + 1 else q.reversed
      let nlay := if s.get .MECH_DISC_LAYERS n = 0 then (if s.singleBeam n then 4 else 10) else s.get .MECH_DISC_LAYERS n
      let goal := skipN v.sq + nlay - q.target
      let ends := inside && decide (x.sum * 2 < sumTh v.sq)
      let s1 := s0.modSeq n fun y => { y with curves := k, inCurve := inside && !ends, lobe := lobe, reversed := rev }
      if 2 ≤ rev then s1.fault n 0x21 0
      else if inside ∧ k = goal ∧ lobe = 1 ∧ 0 < v.prevFe ∧ x.fe ≤ 0 then
        (s1.closeLoop n 0).modSeq n fun y => { y with step := 3, verify := 0, sinceClose := 0 }
      else if rampDone rp s.now then s1.failAttempt n
      else s1

/-- Focus verify after a close (R130). -/
def State.verifySample (s : State) (n : Nat) (x : UpSlot) (x0 : Int) (lost : Bool) : State :=
  let v := s.sx n
  let ok := decide (x0.natAbs ≤ feLock v.sq) && decide (sumTh v.sq ≤ x.sum)
  let k := if ok then v.seq.verify + 1 else 0
  let c := v.seq.sinceClose + 1
  let s1 := s.modSeq n fun q => { q with verify := k, sinceClose := c }
  if v.seq.jumpSign ≠ 0 then
    -- a layer step fails on focus lost; its time limit is LJ_MS (R134, R136)
    if lost then s1.startPullIn n v.seq.target true
    else if k = focVerify v.sq then s1.layerStepDone n else s1
  else if lost then s1.failAttempt n
  else if k = focVerify v.sq then s1.focusVerified n
  else if 8 * focVerify v.sq ≤ c then s1.failAttempt n
  else s1

/-- A layer step before its close (R134). -/
def State.layerSample (s : State) (n : Nat) (x : UpSlot) : State :=
  let v := s.sx n
  let q := v.seq
  let h := (s.lx n 0).blendH
  let sg := q.jumpSign
  if q.step = 4 then
    if x.sum * 2 < sumTh v.sq then (s.driveLoop n 0 (h - sg * ljBrake v.sq)).modSeq n fun y => { y with step := 5, sub := 0 }
    else s.driveLoop n 0 (h + sg * ljKick v.sq)
  else if q.sub = 0 then
    if sumTh v.sq ≤ x.sum then (s.driveLoop n 0 h).modSeq n fun y => { y with sub := 1 } else s.driveLoop n 0 (h - sg * ljBrake v.sq)
  else
    let passed := q.passed || decide (fePkTh v.sq ≤ sg * x.fe)
    let s1 := (s.driveLoop n 0 h).modSeq n fun y => { y with passed := passed }
    if q.passed && decide (0 < sg * v.prevFe) && decide (sg * x.fe ≤ 0) then
      (s1.closeLoop n 0).modSeq n fun y => { y with step := 3, verify := 0, sinceClose := 0 }
    else s1

/-- Track-on (R137 to R139). -/
def State.trackOnSample (s : State) (n : Nat) (tew : Int) (cross : Option Int) : State :=
  let v := s.sx n
  let q := v.seq
  if q.sub = 2 then
    let k := q.polStep
    let half := k / 64
    let net := match cross with
      | some d => setAt q.polNet half (q.polNet.getD half 0 + d)
      | none => q.polNet
    let drive : Int := if k % 64 < 32 then trkKick v.sq else 0
    let s1 := (s.driveLoop n 1 drive).modSeq n fun y => { y with polStep := k + 1, polNet := net }
    if k + 1 = 128 then
      let s2 := s1.modMech n fun m => { m with polarityDue := false }
      if net.all fun d => d < 0 then s2.fault n 0x25 0 else (s2.driveLoop n 1 0).modSeq n fun y => { y with sub := 3 }
    else s1
  else if q.sub = 3 then
    if cross.isSome && decide (trkVelMin v.sq ≤ v.cross.interval) then (s.closeLoop n 1).modSeq n fun y => { y with sub := 4, verify := 0 } else s
  else if q.sub = 4 then
    let k := if tew.natAbs ≤ trkLockTh v.sq then q.verify + 1 else 0
    let s1 := s.modSeq n fun y => { y with verify := k }
    if k = trkLockN v.sq then
      let s2 := ((if s1.ls n 2 = 0 then s1.closeLoop n 2 else s1))
      let s3 := (if s2.ls n 5 = 0 then s2.closeLoop n 5 else s2).modSeq n fun y => { y with sub := 6 }
      -- on BD media TRACKING is entered here, and the first sector header is checked later (R138)
      if isBd (s.get .MECH_DISC_MEDIA n) then
        (s3.reachTracking n).modSeq n fun y => { y with check := true, seekRounds := q.seekRounds, cmd := q.cmd }
      else s3
    else s1
  else s

/-- A fine track jump (R140). -/
def State.jumpSample (s : State) (n : Nat) (cross : Option Int) : State :=
  let v := s.sx n
  let q := v.seq
  let k := q.jumpCount + (if cross.isSome then 1 else 0)
  let sg : Int := if q.jumpTracks < 0 then -1 else 1
  let m := q.jumpTracks.natAbs
  let s1 := s.modSeq n fun y => { y with jumpCount := k }
  if 2 * m ≤ k then s1.trackOnFrom n true
  else if m ≤ k then s1.driveLoop n 1 (-sg * jumpBrake v.sq)
  else s1.driveLoop n 1 (sg * jumpKick v.sq)

/-- A long seek (R141): landed for 64 consecutive samples, then track-on; the park move of a spin-down then stops the spindle (R176). -/
def State.seekSample (s : State) (n : Nat) : State :=
  let v := s.sx n
  match v.sled.seekTgt with
  | none => s
  | some t =>
    let d := (t - v.sled.pos / 2 ^ 16).natAbs
    let k := if d ≤ seekLand v.sq then v.seq.landed + 1 else 0
    if k = 64 then (if (s.mx n).spinDown then s.issueStop n else (s.endSeek n).trackOnFrom n true)
    else s.modSeq n fun y => { y with landed := k }

/-- Alignment capture (R154): output of loop 0 and signed crossings per bin, for half a revolution; later the wait for the entry ramp. -/
def State.alignSample (s : State) (n : Nat) (cross : Option Int) : State :=
  let v := s.sx n
  if v.seq.sub = 1 then (if v.prof.pscale = 256 then s.startTrackOn n false else s)
  else if 2 ^ 31 ≤ v.prof.capAngle then s
  else
    let bin := s.get .CIRQ_ANGLE_THETA (s.clusterOf n) (s.slotOf n) / 2 ^ 22
    let o := tabGet v.prof.capture bin (0, 0, 0)
    s.modProf n fun p =>
      { p with capture := tabIns p.capture bin (o.1 + (s.lx n 0).last, o.2.1 + 1, o.2.2 + cross.getD 0), captured := p.captured + 1,
               capAngle := p.capAngle + (s.thetaStep n).natAbs }

/-- The step of the running sequence. -/
def State.seqSample (s : State) (n : Nat) (x : UpSlot) (x0 tew : Int) (cross : Option Int) (lost : Bool) : State :=
  let q := (s.sx n).seq
  match q.step with
  | 1 | 2 => s.pullSample n x
  | 3 => s.verifySample n x x0 lost
  | 4 | 5 => s.layerSample n x
  | 6 => s.trackOnSample n tew cross
  | 7 => s.jumpSample n cross
  | 8 => s.seekSample n
  | 9 => s.alignSample n cross
  | 11 => match (s.sx n).ramp with
    | none => s.startPullIn n q.target q.afterJump
    | some r => if rampDone r s.now then s.startPullIn n q.target q.afterJump else s
  | 12 =>
    -- a layer jump before its first step: the SA preset ramp (R133)
    match (s.sx n).saRamp with
    | some r => if rampDone r s.now then s.startLayerStep n else s
    | none => s.startLayerStep n
  | _ => s

/-! ### One sample -/

/-- Outputs of loops that are OFF move by their ramps (R133, R143). -/
def State.offOutputs (s : State) (n : Nat) : State :=
  let v := s.sx n
  let s1 := match v.saRamp with
    | some r => s.driveLoop n 4 (rampAt r s.now)
    | none => if s.ls n 4 = 0 then s.driveLoop n 4 (calSaPreset (s.entry n v.saLayer)) else s
  match v.ramp with
  | some r => if s.ls n 0 = 0 ∧ (v.seq.step = 0 ∨ v.seq.step = 11) then s1.driveLoop n 0 (rampAt r s.now) else s1
  | none => s1

/-- Loop l of 0 to 6 in this sample: CLOSED and SOFT compute, HOLD repeats, OFF outputs what its sequence drives (R95, R104). -/
def State.loopSampleAt (s : State) (n l : Nat) (x : Int) (g : Int) : State :=
  let st := s.ls n l
  if st = 1 ∨ st = 3 then
    let v := s.sx n
    let th := s.get .CIRQ_ANGLE_THETA (s.clusterOf n) (s.slotOf n)
    let pv := if l = 0 then profileAt (profPoint v.prof.sf v.prof.pscale) th else if l = 1 then profileAt (profPoint v.prof.st v.prof.pscale) th else 0
    let o := loopSample l (s.lx n l) st x pv g
    let s1 := (s.modLoop n l fun _ => o.loop).setLs n l o.ls
    if st = 3 ∧ o.ls = 1 then s1.modServo n fun y => { y with softMask := y.softMask - bitAt y.softMask l * 2 ^ l } else s1
  else s

/-- A sample period of a swap's HOLD passes, computed or missing (R106). -/
def State.swapPeriod (s : State) (n : Nat) : State :=
  match (s.sx n).swap with
  | none => s
  | some w => if w.entered then s.modServo n fun v => { v with swap := some { w with periods := w.periods + 1 } } else s

/-- The swap's HOLD begins, goes on, or is abandoned by ABORT or at HOLD_MAX periods, at a computed sample (R105, R106). A swap enters HOLD once every
loop of its mask is CLOSED, which a FORMAT switch after the command can delay (R104, notes/assumptions/95.md). -/
def State.swapSample (s : State) (n : Nat) : State :=
  match (s.sx n).swap with
  | none => s
  | some w =>
    let ls := (List.range 7).filter fun l => bitAt w.mask l == 1
    if w.abort then s.abandonSwap n 4
    else if w.entered then
      if s.get .CIRQ_GCFG_HOLD_MAX ≤ w.periods then s.abandonSwap n 1
      else s.set2 .CIRQ_LSTAT_HOLD_CNT (s.clusterOf n) (s.slotOf n) (min 255 (s.get .CIRQ_LSTAT_HOLD_CNT (s.clusterOf n) (s.slotOf n) + 1))
    else if ls.all fun l => s.ls n l == 1 then
      let s1 := (s.forEach ls fun t l => t.setLs n l 2).modServo n fun v => { v with swap := some { w with entered := true } }
      if ls.contains (s.get .CIRQ_INJ_CTRL_LOOP (s.clusterOf n)) then s1.endInjOf n 3 else s1
    else s

/-- Write-inhibit, raised only while the bound lane writes: the write ends (R146, R238), an OPC with it (R208), and a sled that seeks stops (R181). -/
def State.writeInhibit (s : State) (n : Nat) : State :=
  match s.laneOf n with
  | none => s
  | some f =>
    if s.on .FIRN_STATUS_WRITE f then
      let s0 := if (s.sx n).sled.seekTgt.isSome then s.stopSled n false else s
      (((s0.abandonSome n fun _ i => i == 5).endWrite f).raise .FIRN_EVENT_INHIBIT f).bump .FIRN_CNT_INHIBIT_COUNT f
    else s

/-- The actuator slot of a computed sample: drive fields in the order of the slot layout. -/
def State.driveWords (s : State) (n : Nat) : List Int :=
  let v := s.sx n
  let i := if s.on .MECH_SLED_STAT_HOLDING n then iHold v.drSled else iRun v.drSled
  let ab := sledCurrents v.sled.table (v.sled.pos / 2 ^ 16) i
  [(s.laserEn n : Int), (s.lx n 0).last, (s.lx n 1).last, (s.lx n 3).last, (s.lx n 4).last] ++ v.spin.duties ++
    [ab.1, ab.2, (calLread (s.entry n v.readLayer) : Int)] ++ s.trayFields n

/-- A start is under way: it has begun and not reached its planned speed (R166 to R171). -/
def State.starting (s : State) (n : Nat) : Bool := s.holdsSlot n && (s.sx n).spin.startAt.isSome && !(s.sx n).spin.reached

/-- A sample period of a start counts toward SPINUP_MS outside WAIT, while THROTTLE is 256 (R167, R170). -/
def State.countStart (s : State) (n : Nat) : State :=
  if s.starting n && s.get .MECH_SPIN_STAT_SPIN_STATE n != 0xB && s.get .MECH_SPIN_STAT_THROTTLE n == 256 then
    s.modSpin n fun p => { p with spinupNs := p.spinupNs + s.samplePeriod n }
  else s

/-- What every sample instant does, computed or held: θ, the time of a start, the periods of a swap, generator, entry ramp of the profile. -/
def State.instant (s : State) (n : Nat) : State × Bool × Int :=
  let a := s.advanceTheta n
  let b := (a.1.countStart n).swapPeriod n
  let c := b.injSample n
  let v := c.1.sx n
  let p := match v.prof.rampAt with
    | some t =>
      let k := min 256 (256 * ((s.now - t) / 1000) / max 1 (profRampUs v.sq))
      c.1.modProf n fun y => { y with pscale := k, rampAt := if k = 256 then none else y.rampAt }
    | none => c.1
  (p, a.2, c.2)

/-- A fine jump of m tracks starts (R140). -/
def State.startTrackJump (s : State) (n : Nat) (m : Int) : State :=
  let s1 := (((s.writeInhibit n).headLeaves n).openLoops n [1]).capHit n 2
  (s1.modProf n fun p => { p with spoilt := true }).modSeq n fun q => { q with step := 7, sub := 0, jumpTracks := m, jumpCount := 0 }

/-! ### Calibration runs in the samples (R194 to R197, R208) -/

/-- The sweep step of an item, in counts (R194). -/
def sweepStep (item : Nat) : Int := if item = 0 then 200 else 400

/-- The loop that the offset of an item belongs to. -/
def itemLoop (item : Nat) : Nat := if item = 2 then 3 else if item = 3 then 4 else item

/-- The generator moves the loop that a run moves: the run waits (R208). -/
def State.injMoves (s : State) (n item : Nat) : Bool :=
  decide (item < 4) && s.holdsSlot n && s.injOn (s.clusterOf n) n && s.get .CIRQ_INJ_CTRL_LOOP (s.clusterOf n) == itemLoop item

def State.modRun (s : State) (n : Nat) (f : CalRunX → CalRunX) : State := s.modServo n fun v => { v with run := v.run.map f }

/-- The offset of a sweep goes to its value V_j by ramp, j = 0 to 8 for V_-4 to V_4 (R194, R199). -/
def State.sweepTo (s : State) (n item j : Nat) : State :=
  let use := (calOffs (s.entry n (s.sx n).layer)).getD item 0
  (s.modServo n fun v =>
    { v with offFrom := (List.range 4).map (offNow v), offTo := (calOffs (s.entry n v.layer)).set item (use + ((j : Int) - 4) * sweepStep item), offK := 0 }).modRun n
    fun r => { r with phase := 0, j := j }

/-- A sweep in one sample: the ramp (0), 2 ms of settling (1), one revolution of measuring (2), complete (3). It waits for its lane. -/
def State.sweepSample (s : State) (n : Nat) (r : CalRunX) : State := match s.laneOf n with
  | none => s
  | some f =>
    let v := s.sx n
    if r.phase = 0 then (if tiltRamp v.sq ≤ v.offK then s.modRun n fun x => { x with phase := 1, t0 := s.now } else s)
    else if r.phase = 1 then
      (if r.t0 + 2000000 ≤ s.now then (s.clearMeas f).modRun n fun x => { x with phase := 2, ang := 0 } else s)
    else if r.phase = 2 then
      let a := r.ang + (s.thetaStep n).natAbs
      if a < 2 ^ 32 then s.modRun n fun x => { x with ang := a }
      else
        let s1 := s.modRun n fun x => { x with phase := 3, ms := x.ms ++ [s.rfAmplitude n] }
        if r.j < 8 then s1.sweepTo n r.item (r.j + 1) else s1
    else s

/-- A tracking balance run in one sample: the extremes of TEW + TRK_OFS between the crossings of its two jumps (R195). Phase 0 is the jump of +64 tracks,
1 that of -64, 2 complete. -/
def State.balanceSample (s : State) (n : Nat) (r : CalRunX) (raw : Int) (crossed : Bool) : State :=
  if (s.sx n).seq.step = 7 then
    s.modRun n fun x =>
      let sp := x.span.map fun e => (max e.1 raw, min e.2 raw)
      if crossed then { x with span := some (raw, raw), ivals := x.ivals ++ sp.toList } else { x with span := sp }
  else if (s.sx n).seq.step = 0 ∧ r.phase < 2 then
    let s1 := s.modRun n fun x => { x with phase := x.phase + 1, span := none }
    if r.phase = 0 then s1.startTrackJump n (-64) else s1
  else s

/-- An OPC in one sample: its block is read back from its first bit on, one revolution after it was written (R197). Phase 0 on the way, 1 writing, 2 before
the read-back, 3 before the block, 4 in it. -/
def State.opcSample (s : State) (n : Nat) (r : CalRunX) : State := match s.laneOf n with
  | none => s
  | some f =>
    if r.phase < 3 then s
    else
      let a := r.ang + s.thetaStep n
      let s1 := s.modRun n fun x => { x with ang := a, phase := if 0 ≤ a then 4 else 3 }
      if r.phase = 3 ∧ 0 ≤ a then
        (s1.forEach (List.range 4) fun t b =>
          if 5 < t.get .FIRN_BEAM_TSTATE f b then t else (t.enterSearch f b).modBeam f b fun x => { x with meas := {}, betas := [] })
      else s1

/-- The measurement of SA_PRESET in one sample: one revolution of loop 4 CLOSED (0), then the mean of its output over the next (1), complete (2); an opening
of loop 4 in that revolution spoils it (3) (R196, R198). -/
def State.presetSample (s : State) (n : Nat) : State := match (s.sx n).saRun with
  | none => s
  | some r =>
    let closed := s.ls n 4 == 1
    let a := r.ang + (s.thetaStep n).natAbs
    let x : CalRunX :=
      if r.phase = 0 then (if !closed then { r with ang := 0 } else if a < 2 ^ 32 then { r with ang := a } else { r with phase := 1, ang := 0 })
      else if r.phase = 1 then
        if !closed then { r with phase := 3 }
        else { r with sum := r.sum + (s.lx n 4).last, n := r.n + 1, ang := a, phase := if a < 2 ^ 32 then 1 else 2 }
      else r
    s.modServo n fun v => { v with saRun := some x }

/-- The calibration runs of a mechanism in a computed sample. -/
def State.calSample (s : State) (n : Nat) (raw : Int) (crossed : Bool) : State :=
  let t := s.presetSample n
  match (t.sx n).run with
  | none => t
  | some r =>
    if t.injMoves n r.item then t
    else if r.item = 1 then t.balanceSample n r raw crossed
    else if r.item = 5 then t.opcSample n r
    else t.sweepSample n r

/-- A held sample leaves its windows out of a run's means (R208). -/
def State.calHeld (s : State) (n : Nat) : State := match (s.sx n).run, s.laneOf n with
  | some _, some f => s.forEach (List.range 4) fun t b => t.modBeam f b fun x => { x with meas := { x.meas with bad := true } }
  | _, _ => s

/-- A held or missing sample (R100): no loop state moves, θ and the sled's last velocity go on, the inhibit stands, a capture marks the
point. -/
def State.heldSample (s : State) (n : Nat) (x : UpSlot) : State :=
  if !s.holdsSlot n then s
  else
    let i := s.instant n
    let s1 := (i.1.sledMove n true 0 false).modServo n fun v => { v with prof := { v.prof with spoilt := true } }
    let s2 := s1.learnSample n i.2.1 false true
    ((s2.capSample n x (tewOf (s.sx n).sq (s.singleBeam n) (offNow (s.sx n) 1) x) i.2.2 true).calHeld n).writeInhibit n

/-- After a computed sample the lane of a mechanism follows the observer's change of speed (R224). -/
def State.rateForward (s : State) (n : Nat) (old : Int) : State := s.feedForward n old (s.sx n).spin.omega

/-- A computed sample (R95, R100, R147). -/
def State.computeSample (s : State) (n : Nat) (x0raw : UpSlot) : State :=
  let x := visible (s.get .MECH_BRIDGE_LINK_VER n) x0raw
  let i := (s.modServo n fun v => { v with offK := v.offK + 1, first := true, firstAt := some (v.firstAt.getD s.now) }).instant n
  let s1 := i.1
  let injecting := s.injOn (s.clusterOf n) n
  let v := s1.sx n
  let tew := tewOf v.sq (s.singleBeam n) (offNow v 1) x
  let x0 := loopInput v 0 (s1.lx n 0).active x tew 0 0 0
  let cr := crossStep v.sq v.cross tew x.sum
  let focused := decide (s1.ls n 0 ≠ 0)
  let fBad := focused && (decide (x.sum < sumLost v.sq) || decide (feLost v.sq < (x0.natAbs : Int)))
  let fl := if fBad then v.focLost + 1 else 0
  let tBad := s1.ls n 1 == 1 && (decide (trkLost v.sq < (tew.natAbs : Int)) || cr.2.isSome)
  let tl := if tBad then v.trkLost + 1 else 0
  let s20 := s1.modServo n fun y => { y with cross := cr.1, focLost := fl, trkLost := tl }
  let lostF := decide (lostN v.sq ≤ fl)
  let lostT := decide (lostN v.sq ≤ tl)
  let drop := !x.lsup && (focused || v.seq.step == 1 || v.seq.step == 2) && s1.on .MECH_STATE_SAFE_HOLD n
  -- the inhibit is raised before the loops open (R146)
  let bad := decide (wotTh v.sq < (tew.natAbs : Int)) || decide (feWot v.sq < (x0.natAbs : Int)) || drop || lostF || lostT
  let s2 := if bad then s20.writeInhibit n else s20
  let s3 :=
    if drop then s2.permitLoss n
    else if lostF && v.seq.step != 3 then s2.focusLoss n
    else if lostT && !lostF then (if v.seq.step = 6 ∧ v.seq.sub ≠ 6 then s2.retryTrackOn n else s2.trackLoss n)
    else s2.seqSample n x x0 tew cr.2 lostF
  if !s3.holdsSlot n then s3
  else
    -- an earlier event of R147 makes swap hold and injection void in this sample; a step counts as one where the sequence moves on
    let q := (s3.sx n).seq
    let void := drop || lostF || lostT || decide (q.step ≠ v.seq.step ∨ q.sub ≠ v.seq.sub)
    let s4 := if void then s3 else s3.swapSample n
    let c := s4.clusterOf n
    let il := s4.get .CIRQ_INJ_CTRL_LOOP c
    let g := if void then 0 else i.2.2
    let gOf := fun (l : Nat) => if il == l then g else 0
    let inp := fun (t : State) (l : Nat) (o32 es spd : Int) => loopInput (t.sx n) l (t.lx n l).active x tew o32 es spd
    let s5 := s4.offOutputs n
    let s6 := s5.forEach [0, 1, 3, 4, 2] fun t l => t.loopSampleAt n l (inp t l 0 0 0) (gOf l)
    let o32 := if s6.ls n 2 = 0 then 0 else (s6.lx n 2).last
    let es := match (s6.sx n).sled.seekTgt with
      | some t => sat16 (t - (s6.sx n).sled.pos / 2 ^ 16)
      | none => 0
    let s7 := s6.loopSampleAt n 5 (inp s6 5 o32 es 0) (gOf 5)
    let s8 := s7.slewRef n
    let spd : Int := (s8.sx n).spin.ref / 16384 - (s8.get .MECH_SPEED_MEAS n : Int)
    let s9 := s8.loopSampleAt n 6 (inp s8 6 0 0 spd) (gOf 6)
    let s10 := (s9.spinSample n x (if s9.ls n 6 = 0 then 0 else (s9.lx n 6).last)).rateForward n (s9.sx n).spin.omega
    if !s10.holdsSlot n then s10
    else
      let s11 := s10.sledMove n false (s10.lx n 5).last (s10.ls n 5 == 0)
      let closed := s11.ls n 0 == 1 && s11.ls n 1 == 1
      let s12 := (s11.learnSample n i.2.1 (closed && !injecting) closed).modServo n fun y => { y with prevFe := x.fe }
      ((s12.calSample n (tew + offNow v 1) cr.2.isSome).capSample n x tew g false).sendAct n false false (s12.driveWords n)

/-- The slot computes: its cluster is in service and not uncomputed (R114, R116). -/
def State.computes (s : State) (n : Nat) : Bool :=
  s.holdsSlot n && s.get .CIRQ_STATUS_ROLE (s.clusterOf n) == 0 && !s.cirq.uncomputed.contains (s.clusterOf n)

/-- The slot's cluster has faulted with no spare to serve it: its samples count as missing (R116). -/
def State.leftOut (s : State) (n : Nat) : Bool := s.holdsSlot n && s.cirq.uncomputed.contains (s.clusterOf n)

/-- A servo slot is missing (R80): the sample is held, or fault 0x70 once the run reaches MISS_LIMIT. `x` is what arrived of it (R158). -/
def State.missSlot (s : State) (n : Nat) (x : UpSlot) : State :=
  let p := portOf n
  let d := dropOf n
  let k := s.get .PEN_DROP_MISS_RUN p d + 1
  let s1 := (s.bump .PEN_CNT_MISS_COUNT p).set2 .PEN_DROP_MISS_RUN p d (min k 15)
  if k < s.get .PEN_GCFG_MISS_LIMIT then s1.heldSample n x
  else if s.holdsSlot n then (s1.raise .PEN_EVENT_MISS p).fault n 0x70 0
  else s1

/-- A sample held for an unplanned handover: its slot has lost one (R114, R115). -/
def State.lostSample (s : State) (n : Nat) : State :=
  s.modCirq fun q =>
    { q with ho := q.ho.map fun (h : HoX) =>
        if h.op = 0 ∧ h.src = s.clusterOf n ∧ ¬ h.lost.contains n ∧ s.holdsSlot n then { h with lost := n :: h.lost } else h }

/-- SLOT_SAMPLE: one servo sample of a slot (R109), in a frame of the epoch that assigns its position and in which the drop samples (R66, R72). A slot
whose cluster does not serve it holds the sample (R100, R114). -/
def execSlotSample (mn : Mn) (x : UpSlot) (s : State) : Out :=
  if !s.samplesNow mn then fin s
  else if s.computes mn then fin (s.computeSample mn x)
  else if s.leftOut mn then fin (s.missSlot mn x)
  else fin ((s.lostSample mn).heldSample mn x)

end Sys2Proof.Machine
end

