-- ==== Sys2Proof/Machine/ServoCmds.lean ====
section
/-! DEFINITION. Injection, capture, layer jumps, track jumps, seeks, addresses and profiles: the commands of spec/05_servo_loops.md. -/

namespace Sys2Proof.Machine

/-! ### Injection and capture (R156 to R159) -/

/-- The ERR code of a START, 0 when it is allowed (R157, CIRQ_INJ_STAT.ERR). -/
def State.injErr (s : State) (c n l type : Nat) : Nat :=
  let amp := s.get .CIRQ_INJ_AMP_AMP c
  let f0 := s.get .CIRQ_INJ_F0_DPHI c
  if !s.holdsSlot n || s.clusterOf n != c then 1
  else if l = 7 then 4
  else if s.ls n l ≠ 1 then 2
  else if (match s.laneOf n with | some f => s.on .FIRN_STATUS_WRITE f | none => false) then 3
  else if 0x8000 ≤ amp ∨ type = 3 ∨ f0 = 0 ∨ 2 ^ 31 < f0 ∨ s.get .CIRQ_INJ_F1_DPHI c < f0 ∨
    (type ≠ 1 ∧ s.get .CIRQ_INJ_STEP_DWELL c = 0) then 5
  else if (s.cap c).owner.isSome then 6 else 0

/-- The settings of the generator that a capture image shows. -/
def State.capInj (s : State) (c n l type : Nat) : State :=
  s.modCap c fun x => { x with loop := l, injType := type, injGain := unsignedOf 16 (recInjGain (s.lx n l).active) }

/-- Start the generator of cluster c with the settings of its registers, which the checks have passed. -/
def State.startInj (s : State) (c n l type : Nat) : State :=
  let g : InjX := { delta := s.get .CIRQ_INJ_F0_DPHI c }
  let s1 := s.modCirq fun q => { q with inj := tabPut q.inj c (some g) none }
  let s2 := (((s1.set .CIRQ_INJ_STAT_ACTIVE c 1).set .CIRQ_INJ_STAT_END c 0).set .CIRQ_INJ_STAT_ERR c 0).set .CIRQ_INJ_STAT_STEP c 0
  let s3 := if (s2.cap c).armed ∧ (s2.cap c).mn = n then s2.capInj c n l type else s2
  s3.capHit n 1

/-- INJ_START: CIRQ_INJ_CTRL written with START 1 and these fields (R156, R157). -/
def execInjStart (c : ClusterIx) (mn : Mn) (l : LoopIx) (hold : Fin 16) (type : Fin 4) (s : State) : Out := regCmd s fun s =>
  let s1 := (((s.set .CIRQ_INJ_CTRL_MN c mn).set .CIRQ_INJ_CTRL_LOOP c l).set .CIRQ_INJ_CTRL_PRBS_HOLD c hold).set .CIRQ_INJ_CTRL_TYPE c type
  let e := s1.injErr c mn l type
  if e ≠ 0 then fin ((s1.set .CIRQ_INJ_STAT_ERR c e).set .CIRQ_INJ_STAT_END c 6)
  else fin (s1.startInj c mn l type)

/-- INJ_STOP (R156). -/
def execInjStop (c : ClusterIx) (s : State) : Out := regCmd s fun s => fin (s.endInj c 2)

/-- A defined capture signal code (spec/05 "Capture signal codes"). -/
def capCodeOk (k : Nat) : Bool :=
  decide (k ≤ 0x10) || (decide (0x20 ≤ k) && decide (k < 0x40) && k % 8 != 7) || (decide (0x40 ≤ k) && decide (k ≤ 0x45))

/-- A free buffer of the pool of 14. -/
def State.freeBuffer (s : State) : Option Nat :=
  (List.range 14).find? fun b => !(List.range 17).any fun c => s.get .CIRQ_CAP_STAT_BUF c == b

/-- The ERR code of an ARM but for the pool, 0 when it is allowed (CIRQ_CAP_STAT.ERR). -/
def State.capErr (s : State) (c n dec trig : Nat) : Nat :=
  if !s.holdsSlot n || s.clusterOf n != c then 1
  else if (s.cap c).owner.isSome then 3
  else if 10 < dec ∨ trig = 3 ∨ s.get .CIRQ_CAP_LEN_LEN c < s.get .CIRQ_CAP_LEN_PRE c ∨
    ¬ ((List.range 4).all fun i => capCodeOk (bitsOf (s.rd .CIRQ_CAP_SEL c) (8 * i) 8)) then 4
  else 0

/-- Arm the engine of cluster c with buffer b (R158). -/
def State.armCap (s : State) (c n b : Nat) (owner : Option (Nat × Nat)) : State :=
  let s1 := ((((s.set .CIRQ_CAP_STAT_ARMED c 1).set .CIRQ_CAP_STAT_TRIGGERED c 0).set .CIRQ_CAP_STAT_DONE c 0).set .CIRQ_CAP_STAT_BUF c b).set .CIRQ_CAP_STAT_ERR c 0
  let per := s.samplePeriod n * 2 ^ s.get .CIRQ_CAP_CTRL_DEC c
  let s2 := (s1.set .CIRQ_CAP_STAT_COUNT c 0).modCap c fun _ =>
    { mn := n, before := s.get .CIRQ_CAP_LEN_PRE c, periodNs := per, fmt := s.get .CIRQ_FMT_FMT c, owner := owner, armed := true }
  if s2.injOn c n then s2.capInj c n (s2.get .CIRQ_INJ_CTRL_LOOP c) (s2.get .CIRQ_INJ_CTRL_TYPE c) else s2

/-- CAP_ARM: CIRQ_CAP_CTRL written with ARM 1 and these fields (R158, R159). -/
def execCapArm (c : ClusterIx) (mn : Mn) (dec : Fin 16) (trig : Fin 4) (s : State) : Out := regCmd s fun s =>
  let s1 := ((s.set .CIRQ_CAP_CTRL_MN c mn).set .CIRQ_CAP_CTRL_DEC c dec).set .CIRQ_CAP_CTRL_TRIG c trig
  let e := s1.capErr c mn dec trig
  if e ≠ 0 then fin (s1.set .CIRQ_CAP_STAT_ERR c e)
  else
    let s2 := s1.set .CIRQ_CAP_STAT_BUF c 0x1F
    match s2.freeBuffer with
    | none => fin (s2.set .CIRQ_CAP_STAT_ERR c 2)
    | some b => fin (s2.armCap c mn b none)

/-- CAP_STOP (R158). -/
def execCapStop (c : ClusterIx) (s : State) : Out := regCmd s fun s => fin (s.endCap c 0)

/-! ### Acquisition time limits (R131, R134, R136, R138) -/

/-- PULL_IN_ATTEMPT_TIMEOUT: FOC_ATTEMPT_MS less SWEEP_MS / 4 have passed since the attempt started (R131). -/
def execPullInAttemptTimeout (mn : Mn) (s : State) : Out :=
  let v := s.sx mn
  let q := v.seq
  if s.holdsSlot mn && decide (1 ≤ q.step ∧ q.step ≤ 3) && !q.returning && q.jumpSign == 0 &&
    decide (q.attemptAt + ms (focAttemptMs v.sq) ≤ s.now + ms (sweepMs v.sq) / 4) then fin (s.failAttempt mn) else fin s

/-- LAYER_STEP_TIMEOUT: LJ_MS have passed since the step started; a full pull-in to the target layer follows (R134, R136). -/
def execLayerStepTimeout (mn : Mn) (s : State) : Out :=
  let q := (s.sx mn).seq
  if s.holdsSlot mn && decide (3 ≤ q.step ∧ q.step ≤ 5) && q.jumpSign != 0 && decide (q.attemptAt + ms (ljMs (s.sx mn).sq) ≤ s.now) then
    fin ((s.openLoops mn [0]).startPullIn mn q.target true) else fin s

/-- TRACK_ON_TIMEOUT: TRK_ON_MS have passed since step 1: fault 0x61 (R138). -/
def execTrackOnTimeout (mn : Mn) (s : State) : Out :=
  let q := (s.sx mn).seq
  if s.holdsSlot mn && q.step == 6 && decide (q.attemptAt + ms (trkOnMs (s.sx mn).sq) ≤ s.now) then fin (s.fault mn 0x61 0) else fin s

/-! ### Layer jumps, track jumps and seeks (R133, R140, R141) -/

/-- Layers of the disc in mechanism n, or the most that a pull-in expects while they are not known. -/
def State.layersOf (s : State) (n : Nat) : Nat :=
  if s.get .MECH_DISC_LAYERS n = 0 then (if s.singleBeam n then 4 else 10) else s.get .MECH_DISC_LAYERS n

/-- A layer jump begins (R133). -/
def State.startLayerJump (sr : State) (n layer : Nat) : State :=
  let s := sr.takeSeq n
  let s0 := ((s.abandonRuns n).writeInhibit n).releaseLane n true
  let s1 := ((s0.openLoops n [1, 2, 5, 4]).driveLoop n 1 0).stopSled n false
  let r : RampX := { from_ := (s1.lx n 4).last, to_ := calSaPreset (s1.entry n layer), t0 := s.now, dur := us (ljSaUs (s.sx n).sq) }
  let s2 := s1.modServo n fun v => { v with saRamp := some r, prof := { v.prof with spoilt := true }, trkLost := 0 }
  let s3 := s2.modSeq n fun _ => { ({} : SeqX) with step := 12, target := layer }
  ((s3.enterState n 4).chg n).beginMove n 5

/-- LAYER_JUMP: of a focused mechanism at rest in its state, to another layer of its disc (R133). -/
def execLayerJump (mn : Mn) (layer : Fin 10) (s : State) : Out :=
  let st := s.mst mn
  if (st == 5 || st == 6 || st == 7) && !s.on .MECH_STATE_BUSY mn && s.ls mn 0 != 0 && !s.on .MECH_STATE_SAFE_HOLD mn &&
    layer.val != (s.sx mn).layer && decide (layer.val < s.layersOf mn) then fin (s.startLayerJump mn layer)
  else fin s

/-- Loop 1 is closed on a track, or track-on has come to its address check; no spin-down has taken the mechanism. -/
def State.onTrack (s : State) (n : Nat) : Bool :=
  s.holdsSlot n && ((s.sx n).seq.step == 0 && s.ls n 1 != 0 || (s.sx n).seq.step == 6 && (s.sx n).seq.sub == 6)

/-- A jump the device makes: 1 to JUMP_MAX_TRK tracks, whole bands of 4 on HAF media (R140). -/
def State.jumpOk (s : State) (n : Nat) (m : Int) : Bool :=
  m != 0 && decide (m.natAbs ≤ jumpMax (s.sx n).sq) && (isBd (s.get .MECH_DISC_MEDIA n) || m % 4 == 0)

/-- TRACK_JUMP (R140). -/
def execTrackJump (mn : Mn) (tracks : Int) (s : State) : Out :=
  if s.onTrack mn && (s.takeSeq mn).jumpOk mn tracks then fin ((s.takeSeq mn).startTrackJump mn tracks) else fin s

/-- SLED_TGT of a seek of m tracks (R141). -/
def State.seekTarget (s : State) (n : Nat) (m : Int) : Int :=
  let pitch : Int := if isBd (s.get .MECH_DISC_MEDIA n) then 320 else 160
  let u : Int := max 1 (microstepNm (s.sx n).sq)
  (s.sx n).sled.pos / 2 ^ 16 + (2 * m * pitch + u) / (2 * u)

/-- A sled position beyond a virtual limit that is enforced (R182). -/
def State.beyondLimit (s : State) (n : Nat) (pos : Int) : Bool :=
  s.on .MECH_SLED_STAT_POS_VALID n &&
    (decide (pos < signed 32 (s.get .MECH_SLED_LIM_IN_LIM n)) || decide (signed 32 (s.get .MECH_SLED_LIM_OUT_LIM n) < pos))

/-- A round of a long seek starts, for a command, its SEEK grant held; the round after SEEK_ROUNDS is fault 0x61 (R141). -/
def State.seekRound (s : State) (n : Nat) (m : Int) : State :=
  let k := (s.sx n).seq.seekRounds + 1
  if seekRounds (s.sx n).sq < k then s.fault n 0x61 0
  else
    let tgt := s.seekTarget n m
    let s1 := (((s.writeInhibit n).headLeaves n).openLoops n [1]).driveLoop n 1 0
    let s2 := (s1.modSled n fun x => { x with seekTgt := some tgt }).modProf n fun p => { p with spoilt := true }
    s2.modSeq n fun q => { q with step := 8, sub := 0, landed := 0, seekRounds := k, check := false }

/-- A round of a seek whose target lies beyond a limit is not started: the seek ends where the head is, and the command it serves, if any, completes with
0x040A (R182). -/
def State.startSeek (s : State) (n : Nat) (m : Int) : State :=
  if !s.beyondLimit n (s.seekTarget n m) then s.seekRound n m
  else
    let q := (s.sx n).seq
    let s1 := s.returnGrant n fun g => { g with seek := none }
    let s2 := match q.cmd.bind fun c => s1.ctx c.1 c.2 with
      | some c => s1.cutCmd c 0x040A
      | none => s1
    if q.step = 6 then s2.reachTracking n else s2.modSeq n fun y => { y with seekRounds := 0, cmd := none }

/-- LONG_SEEK: the SEEK grant is held and the position is valid (R141, R182, R183, R302). From the address check of a seek it is that seek's next round;
else a seek begins, with the sequence record in force. -/
def execLongSeek (mn : Mn) (tracks : Int) (cmd : Option (FnIx × Nat)) (s : State) : Out :=
  if !s.onTrack mn || !s.on .MECH_SLED_STAT_POS_VALID mn || (s.grants mn).seek.isNone || decide (tracks.natAbs ≤ jumpMax (s.sx mn).sq) then fin s
  else
    let c := cmd.map fun x => (x.1.val, x.2)
    let q := (s.sx mn).seq
    let again := q.step == 6 || q.check && q.cmd == c
    let s1 := if again then s else (s.takeSeq mn).modSeq mn fun y => { y with seekRounds := 0 }
    fin ((s1.modSeq mn fun y => { y with cmd := c }).startSeek mn tracks)

/-! ### Addresses (R138, R148, R172, R183, R231, R246) -/

/-- The radius in nm of the B0 track at position p of cluster c (R246), with pi to 10 decimals. -/
def clusterRadius (z : Nat × Nat) (c p : Nat) : Nat :=
  isqrt (z.1 * z.1 + (8 * (c - z.2) + p) * 1195008000 * 10 ^ 10 / 31415926536)

/-- The radius of an address, and a number that rises along the disc as it turns forward; `none` for a radius that is not known. -/
def State.addressPlace (s : State) (n : Nat) (b : Nat) (a : DiscAddr) : Option Nat × Nat :=
  match a with
  | .header layer cluster frame =>
    ((zoneEntry (s.disc n).zones layer cluster).map fun z => clusterRadius z cluster (frame / 4) + 160 * b, cluster * 8 + frame / 4)
  | .wobble _ track => (some (22400000 + 160 * track), track)
  | .bd _ place radius => (some radius, place)

def addrLayer : DiscAddr → Nat
  | .header l _ _ => l
  | .wobble l _ => l
  | .bd l _ _ => l

def sameKind : DiscAddr → DiscAddr → Bool
  | .header _ _ _, .header _ _ _ => true
  | .wobble _ _, .wobble _ _ => true
  | .bd _ _ _, .bd _ _ _ => true
  | _, _ => false

/-- SLED_POS from an address read (R183). -/
def State.placeSled (s : State) (n r : Nat) : State :=
  let u := max 1 (microstepNm (s.sx n).sq)
  let p : Int := ((2 * r + u) / (2 * u) : Nat)
  let s1 := s.modSled n fun x => { x with pos := p * 2 ^ 16 }
  (s1.set .MECH_SLED_POS_POS n (unsignedOf 32 p)).set .MECH_SLED_STAT_POS_VALID n 1

/-- The profile angle against a reference read from a HAF disc (R148). -/
def State.correctAngle (s : State) (n theta : Nat) : State :=
  let c := s.clusterOf n
  let k := s.slotOf n
  let th := s.get .CIRQ_ANGLE_THETA c k
  let e := signed 32 ((theta + 2 ^ 32 - th) % 2 ^ 32)
  if e.natAbs ≤ 2 ^ 22 then s.set2 .CIRQ_ANGLE_THETA c k (unsignedOf 32 (th + e / 8))
  else (s.set2 .CIRQ_ANGLE_THETA c k theta).logEntry
    { cls := 3, code := 3, sev := 1, mn := n, detail0 := unsignedOf 32 e, detail1 := (s.sx n).layer }

/-- The direction check on the first two addresses after a start (R172). -/
def State.checkDirection (s : State) (n place : Nat) (a : DiscAddr) : State :=
  let v := s.sx n
  let meas := max 1 (s.get .MECH_SPEED_MEAS n)
  if v.addrDone then s
  else match v.addr with
    | some (a0, p0) =>
      if sameKind a0 a && decide (s.now < v.addrAt + 240000000000 / meas) then
        if place < p0 then s.fault n 0x14 0
        else if p0 < place then s.modServo n fun x => { x with addrDone := true } else s
      else s.modServo n fun x => { x with addr := some (a, place), addrAt := s.now }
    | none => s.modServo n fun x => { x with addr := some (a, place), addrAt := s.now }

/-- The address check is met: TRACKING, where BD media has not entered it before (R138). -/
def State.addressMet (s : State) (n : Nat) : State :=
  if (s.sx n).seq.check then s.modSeq n fun q => { q with check := false, seekRounds := 0, cmd := none } else s.reachTracking n

/-- A further round of a long seek, for the command that the seek serves; a seek whose command has gone ends where it stands (R27, R141). -/
def State.nextRound (s : State) (n : Nat) (d : Int) : State :=
  let q := (s.sx n).seq
  if q.cmd.isSome && (q.cmd.bind fun c => s.ctx c.1 c.2).isNone then s.addressMet n
  else if (s.grants n).seek.isSome then s.startSeek n d
  else
    let prio := ((q.cmd.bind fun c => s.ctx c.1 c.2).map fun c => c.d.prio).getD 0
    match s.request { cls := 2, who := n, dom := s.domOf n, mw := (s.reqAmount 2 n 0 0).1, prio := prio, at_ := s.now, forCmd := q.cmd } with
    | (t, .granted) => t.startSeek n d
    | (t, _) => t

/-- Step 6 of track-on: the address read against the one expected (R138, R141); on BD media, the first sector header that a lane reads. `residual` is the
distance in tracks to the track wanted, `none` when any track serves. -/
def State.checkAddress (s : State) (n : Nat) (a : DiscAddr) (residual : Option Int) : State :=
  let q := (s.sx n).seq
  if !(q.step == 6 && q.sub == 6) && !(q.step == 0 && q.check && (s.laneOf n).isSome) then s
  else if addrLayer a ≠ (s.sx n).layer then s.retryTrackOn n
  else match residual with
    | none => s.addressMet n
    | some d =>
      if d = 0 then s.addressMet n
      else if q.seekRounds = 0 then s.retryTrackOn n
      else if s.jumpOk n d then s.startTrackJump n d
      else s.nextRound n d

/-- ADDRESS_READ: a passing address of beam b, with the angular reference when the wobble gave one (R231, R138, R148, R172, R183). -/
def execAddressRead (mn : Mn) (b : BeamIx) (a : DiscAddr) (theta : Option Word) (residual : Option Int) (s : State) : Out :=
  if !s.holdsSlot mn then fin s
  else
    let p := s.addressPlace mn b a
    let s1 := match p.1 with
      | some r => s.placeSled mn r
      | none => s
    let s2 := match theta with
      | some t => if isBd (s.get .MECH_DISC_MEDIA mn) then s1 else s1.correctAngle mn t.toNat
      | none => s1
    let s3 := s2.checkDirection mn p.2 a
    fin (if s3.holdsSlot mn then s3.checkAddress mn a residual else s3)

/-! ### Profiles (R151 to R154) -/

/-- The disc angle of the rotor as the observer has it: the electrical angle over the pole pairs. -/
def State.rotorAngle (s : State) (n : Nat) : Nat := unsignedOf 32 ((s.sx n).spin.theta) / poles (s.lx n 7).active

/-! The alignment of R154. The manual does not say how the correlation is normalised nor how the harmonic is fitted: the model correlates the deviations
from the means, and fits an offset and one harmonic by least squares (DESIGN CHOICE, notes/assumptions/98.md). -/

/-- Sums over pairs (a, b): of a, b, a a, b b, a b. -/
def pairSums (l : List (Int × Int)) : Int × Int × Int × Int × Int :=
  l.foldl (fun s e => (s.1 + e.1, s.2.1 + e.2, s.2.2.1 + e.1 * e.1, s.2.2.2.1 + e.2 * e.2, s.2.2.2.2 + e.1 * e.2)) (0, 0, 0, 0, 0)

/-- The normalised correlation of pairs as a numerator and a squared denominator. -/
def correlation (l : List (Int × Int)) : Int × Int :=
  let n : Int := l.length
  let s := pairSums l
  (n * s.2.2.2.2 - s.1 * s.2.1, (n * s.2.2.1 - s.1 * s.1) * (n * s.2.2.2.1 - s.2.1 * s.2.1))

/-- A correlation is better than another. -/
def better (a b : Int × Int) : Bool :=
  let v := fun (x : Int × Int) => if 0 ≤ x.1 then x.1 * x.1 else -(x.1 * x.1)
  decide (v b * a.2 < v a * b.2)

/-- A correlation reaches a score in Q0.8. -/
def reaches (a : Int × Int) (score : Nat) : Bool :=
  decide (0 ≤ a.1) && decide (0 < a.2) && decide ((score * score : Nat) * a.2 ≤ 65536 * (a.1 * a.1))

/-- The captured bins against the focus table, with θ moved by `shift`. -/
def pairsAt (capture : Tab (Int × Nat × Int)) (sf : List Int) (shift : Nat) : List (Int × Int) :=
  capture.map fun e => ((2 * e.2.1 + e.2.2.1) / (2 * max 1 e.2.2.1), sf.getD ((e.1 * 2 ^ 22 + shift) % 2 ^ 32 / 2 ^ 22) 0)

/-- The best of candidate shifts, the first of equals, with its correlation. -/
def bestShift (capture : Tab (Int × Nat × Int)) (sf : List Int) : List Nat → Option (Nat × Int × Int)
  | [] => none
  | d :: l =>
    let c := correlation (pairsAt capture sf d)
    match bestShift capture sf l with
    | none => some (d, c)
    | some b => if better b.2 c then some b else some (d, c)

/-- The determinant of three rows of three. -/
def det3 (a b c d e f g h i : Int) : Int := a * (e * i - f * h) - b * (d * i - f * g) + c * (d * h - e * g)

/-- The harmonic of one turn that fits the crossings best, cosine and sine, in 1/512 of a unit of 2 nm: the displacement after each bin is half a track
pitch a crossing, inward for an outward crossing of the beam. -/
def fitHarmonic (capture : Tab (Int × Nat × Int)) (shift halfPitch : Nat) : Int × Int :=
  let d : List (Nat × Int) := (capture.foldl (fun (r : List (Nat × Int) × Int) e => (r.1 ++ [(e.1, r.2 - e.2.2.2)], r.2 - e.2.2.2)) ([], 0)).1
  let q : List (Int × Int × Int) := d.map fun e =>
    let a : Nat := (e.1 * 2 ^ 22 + shift) % 2 ^ 32
    (cosT a, sinT a, e.2 * (halfPitch : Int) / 2)
  let sum := fun (f : Int × Int × Int → Int) => q.foldl (fun a e => a + f e) 0
  let n : Int := q.length
  let c := sum (·.1); let s := sum (·.2.1); let y := sum (·.2.2)
  let cc := sum fun e => e.1 * e.1; let cs := sum fun e => e.1 * e.2.1; let ss := sum fun e => e.2.1 * e.2.1
  let yc := sum fun e => e.2.2 * e.1; let ys := sum fun e => e.2.2 * e.2.1
  let det := det3 n c s c cc cs s cs ss
  if det = 0 then (0, 0)
  else (det3 n y s c yc cs s ys ss * 512 * 2 ^ 30 / det, det3 n c y c cc yc s cs ys * 512 * 2 ^ 30 / det)

/-- The harmonic of one turn with amplitudes a (cosine) and b (sine) at point i of 1,024, amplitudes in 1/512 of a unit. -/
def harmonicAt (a b : Int) (i : Nat) : Int := (a * cosT (i * 2 ^ 22) + b * sinT (i * 2 ^ 22) + 2 ^ 38) / 2 ^ 39

/-- The first harmonic of a table of 1,024 points, amplitudes in 1/512 of a unit. -/
def firstHarmonic (t : List Int) : Int × Int :=
  let z := (List.range 1024).zip t
  (z.foldl (fun a e => a + e.2 * cosT (e.1 * 2 ^ 22) / 2 ^ 30) 0, z.foldl (fun a e => a + e.2 * sinT (e.1 * 2 ^ 22) / 2 ^ 30) 0)

/-- A table with its first harmonic replaced (R154). -/
def replaceHarmonic (t : List Int) (h : Int × Int) : List Int :=
  let o := firstHarmonic t
  ((List.range 1024).zip t).map fun e => sat16 (e.2 + harmonicAt (h.1 - o.1) (h.2 - o.2) e.1)

/-- The profile was measured or last aligned with the disc clamped as it is now (R154). -/
def State.sameClamp (s : State) (n : Nat) : Bool := (s.profRec n (s.sx n).layer).clampEpoch == s.get .MECH_CLAMP_CNT_CLAMPS n

/-- The candidate offsets of R154. -/
def State.candidates (s : State) (n : Nat) : List Nat :=
  let p := poles (s.lx n 7).active
  if s.sameClamp n then (List.range p).map fun j => ((s.profRec n (s.sx n).layer).rotorOfs + j * 2 ^ 32 / p) % 2 ^ 32
  else (List.range 1024).map fun j => j * 2 ^ 22

/-- What a candidate offset would add to θ as it stands. -/
def State.shiftOf (s : State) (n ofs : Nat) : Nat :=
  (ofs + s.rotorAngle n + 2 ^ 32 - s.get .CIRQ_ANGLE_THETA (s.clusterOf n) (s.slotOf n)) % 2 ^ 32

/-- No candidate matches: the profiles of the disc are discarded for this mount, and learning starts (R154). -/
def State.alignFailed (s : State) (n : Nat) : State :=
  let s1 := s.modProfiles fun l => l.filter fun e => e.1 / 16 != n
  let s2 := (s1.modProf n fun p => { p with sf := [], st := [], pscale := 0, rampAt := none }).set .MECH_DISC_PROFILE_VALID n 0
  (s2.startLearning n).startTrackOn n false

/-- The angle is found: θ moves by `shift`, the record takes the offset, and the profile enters by its ramp (R149, R154). -/
def State.aligned (s : State) (n shift : Nat) : State :=
  let v := s.sx n
  let same := s.sameClamp n
  let c := s.clusterOf n
  let th := (s.get .CIRQ_ANGLE_THETA c (s.slotOf n) + shift) % 2 ^ 32
  let harm := fitHarmonic v.prof.capture shift (if isBd (s.get .MECH_DISC_MEDIA n) then 160 else 80)
  let s1 := s.modProfiles fun l => tabMod l (profKey n v.layer) {} fun (p : ProfRec) =>
    { p with rotorOfs := (th + 2 ^ 32 - s.rotorAngle n) % 2 ^ 32, clampEpoch := s.get .MECH_CLAMP_CNT_CLAMPS n, mn := n,
             track := if same then p.track else replaceHarmonic p.track harm }
  let s2 := (if same then s1 else s1.loadProfile n v.layer).set2 .CIRQ_ANGLE_THETA c (s.slotOf n) th
  (s2.modProf n fun p => { p with aligned := true, rampAt := some s.now, pscale := 0 }).modSeq n fun q => { q with sub := 1 }

/-- PROFILE_ALIGN: half a revolution is captured and the core tests the candidate offsets against the focus table (R154). -/
def execProfileAlign (mn : Mn) (s : State) : Out :=
  let v := s.sx mn
  if !s.holdsSlot mn || v.seq.step != 9 || v.seq.sub != 0 || decide (v.prof.capAngle < 2 ^ 31) then fin s
  else match bestShift v.prof.capture v.prof.sf ((s.candidates mn).map (s.shiftOf mn)) with
    | some b => if reaches b.2 (profMatch v.sq) then fin (s.aligned mn b.1) else fin (s.alignFailed mn)
    | none => fin (s.alignFailed mn)

/-- The rounded mean of k samples; a bin without any is a free value. -/
def State.binMean (s : State) (sum : Int) (k : Nat) : State × Int :=
  if k = 0 then (s.takeFree.2, signed 16 s.takeFree.1) else (s, sat16 ((2 * sum + k) / (2 * k)))

/-- The learned tables of loops 0 and 1, bin by bin. -/
def State.learned (s : State) (bins : Tab (Int × Int × Nat)) : List Nat → State × List Int × List Int
  | [] => (s, [], [])
  | i :: l =>
    let e := tabGet bins i (0, 0, 0)
    let a := s.binMean e.1 e.2.2
    let b := a.1.binMean e.2.1 e.2.2
    let r := b.1.learned bins l
    (r.1, a.2 :: r.2.1, b.2 :: r.2.2)

/-- A count in disc units of `unit` nm (R151); free for a sensitivity of 0. -/
def discUnits (unit sens : Nat) (f : Nat) (v : Int) : Int :=
  if sens = 0 then signed 16 f else sat16 ((2 * v * 256000 + sens * unit) / (2 * sens * unit))

/-- PROFILE_LEARN_DONE: after 16 good revolutions the learned tables replace the old ones, without any ramp (R151, R152). -/
def execProfileLearnDone (mn : Mn) (s : State) : Out :=
  let v := s.sx mn
  if !s.holdsSlot mn || !v.prof.learning || decide (v.prof.revs < 16) then fin s
  else
    let r := s.learned v.prof.bins (List.range 1024)
    let s0 := r.1
    let rec_ : ProfRec :=
      { focus := r.2.1.map (discUnits 4 (focSens v.sq) s0.takeFree.1), track := r.2.2.map (discUnits 2 (trkSens v.sq) s0.takeFree.1),
        revs := v.prof.revs, speed := s.get .MECH_SPEED_MEAS mn,
        rotorOfs := (s.get .CIRQ_ANGLE_THETA (s.clusterOf mn) (s.slotOf mn) + 2 ^ 32 - s.rotorAngle mn) % 2 ^ 32,
        clampEpoch := s.get .MECH_CLAMP_CNT_CLAMPS mn, mn := mn, media := s.get .MECH_DISC_MEDIA mn, fresh := true }
    let s1 := { s0.takeFree.2 with profiles := tabIns s0.profiles (profKey mn v.layer) rec_ }
    let s2 := s1.modProf mn fun p => { p with sf := r.2.1, st := r.2.2, pscale := 256, rampAt := none, aligned := true, learning := false, bins := [],
                                               revBins := [], revs := 0 }
    fin (s2.set .MECH_DISC_PROFILE_VALID mn 1)

end Sys2Proof.Machine
end

