-- ==== Sys2Proof/Machine/Drives.lean ====
section
/-! DEFINITION. Spindle starts and speeds, spin-down, sled tables, tray and clamp moves, and the steward's operations on a mechanism: the
commands of spec/06_spindle_and_sled.md and of MECH_CTRL (spec/02 R37, R43 to R50). -/

namespace Sys2Proof.Machine

def State.spinState (s : State) (n : Nat) : Nat := s.get .MECH_SPIN_STAT_SPIN_STATE n

/-- A command whose time has not come waits for it: state st of the spindle has lasted `ms_` ms. -/
def State.spinFor (s : State) (n st ms_ : Nat) : Bool :=
  s.holdsSlot n && s.spinState n == st && decide ((s.sx n).spin.stateAt + ms ms_ ≤ s.now)

/-! ### Starts (R166 to R171) -/

/-- SPIN_START: the first servo slot after the SPINUP grant has arrived. EX1 waits, EX2 and EX4 sense (R72, R166, R167). -/
def execSpinStart (mn : Mn) (s : State) : Out :=
  let sp := (s.sx mn).spin
  if !s.holdsSlot mn || !(s.sx mn).first || (s.grants mn).spinup.isNone || sp.startAt.isSome then fin s
  else
    let s1 := (s.startSequence mn).set .MECH_SPIN_STAT_TRIES mn 0
    let s2 := s1.modSpin mn fun p => { p with startAt := some s.now, spinupNs := 0 }
    fin (s2.modServo mn fun v => { v with addr := none, addrDone := false })

/-- The angle and the integrators of loop 7 at the start of ALIGN. -/
def State.zeroAngle (s : State) (n : Nat) : State :=
  (s.setLs n 7 1).modSpin n fun p => { p with theta := 0, omega := 0, intD := 0, intQ := 0, iPrevA := 0, iPrevB := 0, vPrevA := 0, vPrevB := 0 }

/-- A start from rest goes on at REST, or at ALIGN when REST is skipped; it counts in ALIGNS (R166, R169). -/
def State.startFromRest (s : State) (n : Nat) (skip : Bool) : State :=
  let s1 := (s.bump .MECH_START_CNT_ALIGNS n).enterSpin n (if skip then 4 else 3)
  (if skip then s1.zeroAngle n else s1).modMech n fun m => { m with driveStop := none }

/-- SENSE_DONE: SENSE_MS have passed, and the back-EMF vector has been measured (R166, R168). -/
def execSenseDone (mn : Mn) (s : State) : Out :=
  let sp := (s.sx mn).spin
  let z := sp.sense
  if !s.spinFor mn 1 (senseMs (s.sx mn).dr) || z.from_.isNone then fin s
  else
    let rate := senseRate z
    let rpm := z.mag / max 1 (keOf (s.lx mn 7).active)
    let s1 := (s.set .MECH_SPIN_STAT_REVERSE mn (b2n (decide (rate < 0)))).set .MECH_STATE_TURNING mn (b2n (decide (300 ≤ rpm)))
    if 300 ≤ rpm ∧ 0 ≤ rate then
      let s3 := ((s1.bump .MECH_START_CNT_CATCHES mn).enterSpin mn 2).setLs mn 7 1
      fin ((s3.modSpin mn fun p => { p with theta := (z.angle + 3 * 2 ^ 30) % 2 ^ 32, omega := rate, intD := 0, intQ := 0 }).modMech mn fun m => { m with driveStop := none })
    else if 300 ≤ rpm then fin (s1.enterSpin mn 9)
    else
      let skip := match (s.mx mn).driveStop with
        | some t => decide (t + ms (coastMs (s.sx mn).dr) ≤ s.now)
        | none => false
      fin (s1.startFromRest mn skip)

/-- REVERSE_SHORT_DONE: after 16 ms SENSE runs again (R166). -/
def execReverseShortDone (mn : Mn) (s : State) : Out :=
  if s.starting mn && s.spinFor mn 9 16 then fin ((s.enterSpin mn 1).modSpin mn fun p => { p with sense := {} }) else fin s

/-- COAST_WAIT_DONE: the EX1 WAIT ends COAST_MS after the drive stopped, or after the drop's training where that is not known; SPINUP_MS runs from here, REST follows (R167, R170, R178). -/
def execCoastWaitDone (mn : Mn) (s : State) : Out :=
  let from_ := ((s.mx mn).driveStop).getD (s.mx mn).attachedAt
  if s.spinState mn == 0xB && s.holdsSlot mn && decide (from_ + ms (coastMs (s.sx mn).dr) ≤ s.now) then
    fin (((s.set .MECH_STATE_TURNING mn 0).modSpin mn fun p => { p with startAt := some s.now }).startFromRest mn false)
  else fin s

/-- CATCH_DONE: iq* has been held at 0 for 8 periods; loop 6 closes with its reference at MEAS (R168). -/
def execCatchDone (mn : Mn) (s : State) : Out :=
  if s.spinState mn == 2 && s.holdsSlot mn && decide (8 ≤ (s.sx mn).spin.count) then
    let meas := s.get .MECH_SPEED_MEAS mn
    fin ((s.spinClosed mn (meas / 4)).modSpin mn fun p => { p with ref := meas * 16384 })
  else fin s

/-- REST_DONE: after REST_MS ALIGN starts (R169). -/
def execRestDone (mn : Mn) (s : State) : Out :=
  if s.spinFor mn 3 (restMs (s.sx mn).dr) then fin ((s.enterSpin mn 4).zeroAngle mn) else fin s

/-- ALIGN_DONE: after ALIGN_MS RAMP starts (R169). -/
def execAlignDone (mn : Mn) (s : State) : Out :=
  if s.spinFor mn 4 (alignMs (s.sx mn).dr) then
    fin ((s.enterSpin mn 5).modSpin mn fun p => { p with forced := 0, forcedSpeed := 0, obsTest := false })
  else fin s

/-- OBSERVER_HANDOVER: the forced speed has reached OL_RPM (R169). -/
def execObserverHandover (mn : Mn) (s : State) : Out :=
  let v := s.sx mn
  if s.spinState mn == 5 && s.holdsSlot mn && !v.spin.obsTest && decide (elecOf (s.lx mn 7).active ((olRpm v.dr : Int) * 65536) ≤ v.spin.forcedSpeed) then
    fin (s.modSpin mn fun p => { p with obsTest := true, obsAt := s.now, count := 0 })
  else fin s

/-- OBSERVER_TIMEOUT: the observer has not held the angle within 200 ms: the attempt fails (R169, R170). -/
def execObserverTimeout (mn : Mn) (s : State) : Out :=
  let sp := (s.sx mn).spin
  if s.spinState mn == 5 && s.holdsSlot mn && sp.obsTest && decide (sp.obsAt + ms 200 ≤ s.now) then fin (s.spinFailed mn) else fin s

/-- SPINUP_TIMEOUT: SPINUP_MS have passed, WAIT apart: fault 0x60 with DETAIL 0xF (R167, R170). -/
def execSpinupTimeout (mn : Mn) (s : State) : Out :=
  if s.starting mn && s.spinState mn != 0xB && decide (ms (spinupMs (s.sx mn).dr) ≤ (s.sx mn).spin.spinupNs) then fin (s.fault mn 0x60 0xF) else fin s

/-- SPEED_REACHED: MEAS has stood within TARGET / 200 of TARGET for 16 periods; the SPINUP part is returned and pull-in may start (R171). -/
def execSpeedReached (mn : Mn) (s : State) : Out :=
  if s.spinState mn ≠ 6 ∨ ¬ s.holdsSlot mn ∨ (s.sx mn).spin.count < 16 then fin s
  else
    let s1 := s.modSpin mn fun p => { p with reached := true }
    let s2 := (s1.modBreath fun b => { b with spinBefore := tabDel b.spinBefore mn }).returnGrant mn fun g => { g with spinup := none, spinupAt := 0 }
    if s.mst mn == 4 && (s.sx mn).seq.step == 0 && s.ls mn 0 == 0 && s.on .MECH_STATE_BUSY mn && s.get .MECH_STATE_TARGET mn == 6 then
      fin (s2.startPullIn mn (s.sx mn).seq.target (s.sx mn).seq.afterJump)
    else fin s2

/-! ### Speed plans (R173, R174, R311) -/

/-- G: the highest whole speed, rpm, that the SPIN part covers (R311). -/
def State.speedG (s : State) (n : Nat) : Nat :=
  let c := s.clsOf n
  let room := (s.grants n).spin.getD 0 - s.get .BRTH_CLS_SPIN_SPIN_BASE_MW c
  let k := s.get .BRTH_CLS_SPIN_SPIN_K c
  let top := rpmMax (s.planRec n)
  if (s.grants n).spin.getD 0 < s.get .BRTH_CLS_SPIN_SPIN_BASE_MW c then 0
  else if k = 0 then top
  else min top (isqrt ((room * 1000000 + 499999) / k))

/-- R_full at S_full, bytes a second (R173): that of a four-beam head, or of BD media at its channel rate. -/
def State.fullRate (s : State) (n sFull : Nat) : Nat :=
  if isBd (s.get .MECH_DISC_MEDIA n) then
    let r := (signed 32 (s.get .MECH_SLED_POS_POS n)).toNat * microstepNm (s.sx n).sq
    let chan := sFull * 2 * 31415926536 * r * 1000 / (60 * max 1 (s.disc n).bdBit * 10 ^ 10)
    min (chan / 8) (Config.bdUserRate chan)
  else 153600000

/-- H: the payload rate of the host port of the READs, shared by the streaming mechanisms with READs from functions of that port (R173). The manual gives
the port's raw rate; what of it is payload is free below that (notes/assumptions/99.md). -/
def State.hostShare (s : State) (n : Nat) : Nat :=
  match (s.cmdsOf n).find? fun c => c.d.opcode == 1 with
  | none => 0
  | some c =>
    let p := c.fn / 64
    let w := s.get .HQP_PORT_WIDTH p
    let g := s.get .HQP_PORT_RATE p
    let k := (s.mech.filter fun e => s.mst e.1 == 7 && (s.cmdsOf e.1).any fun x => x.d.opcode == 1 && x.fn / 64 == p).length
    min (w * 2 ^ (g - 3) * 1000000000) (Config.hostPayload w g) / max 1 k

/-- The mechanism streams for less than DRAIN_MS, has held a backlog of READs for DWELL_MS, or writes: it runs at full speed (R173). -/
def State.fullPlan (s : State) (n : Nat) : Bool :=
  let r := s.planRec n
  (s.mst n == 7 && decide (s.now < (s.mx n).streamAt + ms (drainMs r))) ||
  (match (s.mx n).backlogAt with | some t => decide (t + ms (dwellMs r) ≤ s.now) | none => false) ||
  (match s.laneOf n with | some f => s.on .FIRN_STATUS_WRITE f | none => false)

/-- S_plan before its clamp, in rpm (R173). -/
def State.speedPlan (s : State) (n sFull : Nat) : Nat :=
  if s.fullPlan n then sFull
  else sFull * min (s.drainNow n * (256 + marginOf (s.planRec n)) / 256) (s.hostShare n) / max 1 (s.fullRate n sFull)

/-- The plan differs from TARGET by more than HYST (R174). -/
def State.beyondHyst (s : State) (n goal : Nat) : Bool :=
  let tgt := s.get .MECH_SPEED_TARGET n
  decide (tgt * hystOf (s.planRec n) < ((goal : Int) - tgt).natAbs * 256)

/-- SPEED_PLAN: the plan is recomputed, with the drive record in force; TARGET falls at once when S_full, G or RPM_MAX falls below it (R162, R173, R174). -/
def execSpeedPlan (mn : Mn) (s : State) : Out :=
  if !s.holdsSlot mn then fin s
  else
    let s1 := (s.modServo mn fun v => { v with drPlan := s.driveRec (s.clsOf mn) }).noteBacklog mn
    let sFull := s1.hereSpeed mn
    let goal := s1.planned mn sFull (s1.speedPlan mn sFull)
    let cap := 4 * min sFull (min (s1.speedG mn) (rpmMax (s1.planRec mn)))
    let s2 := if cap < s.get .MECH_SPEED_TARGET mn then s1.set .MECH_SPEED_TARGET mn cap else s1
    fin (s2.modSpin mn fun p => { p with goal := goal, goalAt := if s2.beyondHyst mn goal then some (p.goalAt.getD s.now) else none })

/-- TARGET_DWELL: the difference has exceeded HYST for DWELL_MS. A fall takes effect, a rise asks for its RISE when G does not cover it
(R174, R311). -/
def execTargetDwell (mn : Mn) (s : State) : Out :=
  let sp := (s.sx mn).spin
  let goal := sp.goal
  let tgt := s.get .MECH_SPEED_TARGET mn
  let due := match sp.goalAt with | some t => decide (t + ms (dwellMs (s.planRec mn)) ≤ s.now) | none => false
  if !s.holdsSlot mn || goal == 0 || !due || !s.beyondHyst mn goal then fin s
  else if goal < tgt then fin ((s.set .MECH_SPEED_TARGET mn goal).modSpin mn fun p => { p with goalAt := none })
  else
    let amt := s.reqAmount 5 mn 0 goal
    if s.breath.reqs.any fun r => r.cls == 5 && r.who == mn then fin s
    else
      let c := s.headCmd mn
      fin (s.request { cls := 5, who := mn, dom := s.domOf mn, mw := amt.1, spinPart := amt.2, rpm4 := goal,
                       prio := (c.map fun x => x.d.prio).getD 0, at_ := s.now, forCmd := c.map ctxId }).1

/-! ### Spin-down (R43 to R45, R176 to R178) -/

/-- Commit records of the disc in mechanism n that are not on disc yet. -/
def State.pendingCommits (s : State) (n : Nat) : Bool := !(s.disc n).commits.isEmpty || !(s.disc n).appending.isEmpty

/-- The mechanism can spin down of itself: TRACKING, or STREAMING only because a calibration run has bound its lane, no transition, no command, nothing
pending (R37, R43, R191). -/
def State.idleReady (s : State) (n : Nat) : Bool :=
  (s.mst n == 6 || s.mst n == 7) && !s.on .MECH_STATE_BUSY n && (s.cmdsOf n).isEmpty && !s.host.wbuf.any (fun w => w.mn == n) && !s.pendingCommits n &&
    (s.mx n).orphan.isNone

/-- IDLE_SPIN_DOWN: idle for IDLE_SPIN_MS (R43). -/
def execIdleSpinDown (mn : Mn) (s : State) : Out :=
  let t := s.get .MECH_IDLE_IDLE_SPIN_MS mn
  if s.idleReady mn && t != 0 && decide ((s.mx mn).idleSince + ms t ≤ s.now) then fin (s.startSpinDown mn 2) else fin s

/-- The TRACKING mechanism idle longest on the limit that holds mechanism n back (R44): its port while the port's positions are all taken,
else the device. -/
def State.reclaimVictim (s : State) (n : Nat) : Option Nat :=
  let here := (s.freePosition (portOf n)).isNone
  s.mech.foldl (fun best e =>
    if (here && portOf e.1 != portOf n) || !s.idleReady e.1 then best
    else match best with
      | none => some e.1
      | some b => if e.2.idleSince < (s.mx b).idleSince then some e.1 else some b) none

/-- SLOT_RECLAIM: mechanism mn waits because its port's or the device's limit is reached; a victim idle at least RECLAIM_MS spins down (R44). -/
def execSlotReclaim (mn : Mn) (s : State) : Out :=
  let r := s.get .MECH_RECLAIM_RECLAIM_MS
  let limit := (s.freePosition (portOf mn)).isNone || decide (512 ≤ s.slotsUsed)
  if (s.mx mn).waitSlot.isNone || r == 0 || !limit then fin s
  else match s.reclaimVictim mn with
    | none => fin s
    | some v => if (s.mx v).idleSince + ms r ≤ s.now then fin (s.startSpinDown v 2) else fin s

/-- SPIN_DOWN: a normal spin-down goes on once its SEEK grant is held (R176). -/
def execSpinDown (mn : Mn) (s : State) : Out :=
  let m := s.mx mn
  if m.spinDown && !m.stopIssued && (s.grants mn).seek.isSome && (s.sx mn).sled.seekTgt.isNone then fin (s.startPark mn) else fin s

/-- SHORT_BRAKE_DONE: SHORT_MS ends, the spindle is STOPPED; a spin-down ends with it (R176 to R178). -/
def execShortBrakeDone (mn : Mn) (s : State) : Out :=
  if s.spinState mn ≠ 9 ∨ s.starting mn ∨ s.now < (s.mx mn).shortUntil then fin s
  else
    let s1 := ((s.set .MECH_SPIN_STAT_SPIN_STATE mn 0).set .MECH_STATE_TURNING mn 0)
    fin (if (s.mx mn).spinDown ∧ s.holdsSlot mn then s1.endSpinDown mn else s1)

/-- COAST_DOWN_ELAPSED: COAST_MS after the drive stopped, or after the drop's training where that is not known, TURNING stops being held (R178). -/
def execCoastDownElapsed (mn : Mn) (s : State) : Out :=
  let from_ := ((s.mx mn).driveStop).getD (s.mx mn).attachedAt
  if s.holdsSlot mn || decide (s.now < from_ + ms (coastMs (s.driveRec (s.clsOf mn)))) then fin s else fin (s.set .MECH_STATE_TURNING mn 0)

/-! ### Sled (R179, R184) -/

/-- SLED_HOLD_CURRENT: the sled has been at rest for HOLD_DELAY_MS (R179). -/
def execSledHoldCurrent (mn : Mn) (s : State) : Out :=
  let due := match (s.sx mn).sled.restAt with | some t => decide (t + ms (holdDelayMs (s.sx mn).drSled) ≤ s.now) | none => false
  if s.holdsSlot mn && due && !s.on .MECH_SLED_STAT_MOVING mn then fin (s.raise .MECH_SLED_STAT_HOLDING mn) else fin s

/-- The staged sine table, and a table put into the stage. -/
def State.sledStage (s : State) : List Nat := (List.range 256).map fun i => (s.rd .MECH_SLED_TBL_STAGE i).toNat
def State.putSledStage (s : State) (t : List Nat) : State := s.forEach (List.range 256) fun u i => u.wr .MECH_SLED_TBL_STAGE i 0 (BitVec.ofNat 32 (dw t i))

def State.sledDone (s : State) (t : Nat) : State := (s.set0 .MECH_SLED_TBL_CTRL_TABLE t).set0 .MECH_SLED_TBL_CTRL_ERR 0

/-- SLED_TBL_STAGE_TO_TABLE: every cluster holds the table; each mechanism of the class changes at its next full-step boundary (R184). -/
def execSledTblStageToTable (cls : Fin 8) (s : State) : Out := regCmd s fun s =>
  let t := s.sledStage
  let s1 := s.modCirq fun q => { q with sledTbl := tabPut q.sledTbl cls t sledDefault }
  let held := s1.servo.filter fun e => s1.holdsSlot e.1 && s1.clsOf e.1 == cls.val
  fin ((s1.forEach held fun u e => u.modSled e.1 fun x => { x with tableNew := t }).sledDone cls)

/-- SLED_TBL_TABLE_TO_STAGE (MECH_SLED_TBL_CTRL OP 2). -/
def execSledTblTableToStage (cls : Fin 8) (s : State) : Out := regCmd s fun s => fin ((s.putSledStage (s.sledTable cls)).sledDone cls)

/-- SLED_TBL_DEFAULT_TO_STAGE (MECH_SLED_TBL_CTRL OP 3). -/
def execSledTblDefaultToStage (cls : Fin 8) (s : State) : Out := regCmd s fun s => fin ((s.putSledStage sledDefault).sledDone cls)

/-! ### Tray and clamp (R185 to R187) -/

/-- The move that mechanism n makes next: a LOAD closes, then clamps; an EJECT releases, then opens (R187). -/
def State.trayKind (s : State) (n : Nat) : Nat :=
  let eject := ((s.cmdsOf n).any fun c => c.d.opcode == 8 && c.started) || ((s.mx n).orphan.map (·.1)) == some 8
  let m := s.mx n
  if eject then (if m.clamped then 4 else 2) else if m.trayIn then 3 else 1

/-- TRAY_MOVE_START: the move begins with a servo position, the SEEK grant and the drive record in force; a LOAD or EJECT that finds TURNING 1 waits for it
(R162, R185, R187). -/
def execTrayMoveStart (mn : Mn) (s : State) : Out :=
  let m := s.mx mn
  if m.waitTray.isNone || m.tray.isSome || (s.grants mn).seek.isNone || (s.positionOf (portOf mn) (dropOf mn)).isNone || s.on .MECH_STATE_TURNING mn then
    fin s
  else
    let t : TrayX := { kind := s.trayKind mn, start := s.now, dr := s.driveRec (s.clsOf mn) }
    fin ((s.modMech mn fun x => { x with tray := some t, waitTray := none }).trayReads mn m.trayIn m.trayOut m.clamped)

/-- TRAY_SWITCH_REACHED: the target switch or clamp state has been read for DEBOUNCE_MS; the move stops and its command goes on or ends (R39, R185,
R187). -/
def execTraySwitchReached (mn : Mn) (s : State) : Out :=
  match (s.mx mn).tray with
  | none => fin s
  | some t =>
    let due := match t.since with | some a => decide (a + ms (debounceMs t.dr) ≤ s.now) | none => false
    let s1 := s.stopTray mn
    if !due then fin s else
    match t.kind with
    | 1 => if (s.mx mn).disc then fin (s1.askTray mn) else fin ((s1.endMove mn 1).completeState mn 7 0x0404)
    | 2 => fin ((s1.endMove mn 1).completeState mn 8 0)
    | 3 =>
      let s2 := (s1.bumpWrap .MECH_CLAMP_CNT_CLAMPS mn).modMech mn fun m => { m with clamped := true }
      fin ((s2.endMove mn 3).completeState mn 7 0)
    | _ => fin (((s1.modMech mn fun m => { m with clamped := false }).clearDisc mn).askTray mn)

/-- One of the limits of R186 has been passed: a move too long, a far switch that does not release, or both tray switches active. -/
def State.trayOverdue (s : State) (n : Nat) : Bool :=
  let m := s.mx n
  let both := match m.trayBoth with | some a => decide (a + ms (debounceMs (s.driveRec (s.clsOf n))) ≤ s.now) | none => false
  both || (match m.tray with
    | none => false
    | some t =>
      let far := t.kind == 1 && m.trayOut || t.kind == 2 && m.trayIn
      decide (t.start + ms (if 3 ≤ t.kind then clampMs t.dr else trayMs t.dr) ≤ s.now) || far && decide (t.start + ms (swLeaveMs t.dr) ≤ s.now))

/-- TRAY_TIMEOUT: fault 0x39 (R186). -/
def execTrayTimeout (mn : Mn) (s : State) : Out := if s.trayOverdue mn then fin (s.fault mn 0x39 0) else fin s

/-- SERVO_POSITION_GRANT: a freed position of the port goes to the earliest waiter that can use it at once (R564). -/
def execServoPositionGrant (p : PortIx) (s : State) : Out := fin (s.servePositions (s.waiters p))

/-! ### MECH_CTRL (R37, R47, R50) -/

/-- FORCE_SAFE: fault 0x90 (R46, R47). -/
def execForceSafe (mn : Mn) (s : State) : Out := regCmd s fun s => fin (s.fault mn 0x90 0)

/-- CLR_FAULT: a FAULTED mechanism takes its rest state; ignored in other states (R37, MECH_CTRL). -/
def State.clearFault (s : State) (n : Nat) : State :=
  let st := s.restState n
  (if st = 1 then s.loadLimits n else s).endMove n st

def execClrFault (mn : Mn) (s : State) : Out := regCmd s fun s => if s.mst mn = 8 then fin (s.clearFault mn) else fin s

/-- UNISOLATE: the bridge runs its self-test again; the result and whether it reports a clamped disc come from outside (R37, R38, R50). Only the record
of this mechanism is erased: a bridge whose serial number stands at another mechanism too stays recorded there (DESIGN CHOICE, note 91). -/
def execUnisolate (mn : Mn) (pass clamped : Bool) (s : State) : Out := regCmd s fun s =>
  if s.mst mn ≠ 9 then fin s
  else if pass then fin ({ s with isol := tabDel s.isol mn }.attach mn clamped)
  else fin (s.fault mn 0x80 0)

end Sys2Proof.Machine
end

