-- ==== Sys2Proof/Machine/BreathCmds.lean ====
section
/-! DEFINITION. The commands of spec/11_breath_arbiter.md: requests and releases, aging, measured power, overdraw, BIST spacing. -/

namespace Sys2Proof.Machine

/-- The request of class cls (2 to 5) for mechanism n: `v` is beams for WRITE, the new TARGET in rpm x 4 for RISE, within 1,200 to 8,000 rpm (R3, R302). -/
def State.mechRequest (s : State) (cls n v prio : Nat) (cmd : Option (Nat × Nat)) : PowerReq :=
  let rpm4 := max 4800 (min v 32000)
  let amt := s.reqAmount cls n v (if cls = 5 then rpm4 else s.get .MECH_SPEED_TARGET n)
  { cls := cls, who := n, dom := s.domOf n, mw := amt.1, spinPart := amt.2, rpm4 := rpm4, prio := prio, at_ := s.now, forCmd := cmd }

/-- The mechanism may hold grants: not ABSENT, FAULTED or ISOLATED (R47, R51), and this grant is neither held nor requested. -/
def State.mayRequest (s : State) (cls n : Nat) : Bool :=
  let st := s.mst n
  let g := s.grants n
  st != 0 && st != 8 && st != 9 && !(s.breath.reqs.any fun r => r.cls == cls && r.who == n) &&
  !(match cls with | 2 => g.seek.isSome | 3 => g.write.isSome | 4 => g.spin.isSome || g.spinup.isSome | _ => g.spinup.isSome || g.spin.isNone)

/-- BREATH_REQUEST: class 1 LINK of port `who`, 2 SEEK to 5 RISE of mechanism `who`, 6 BIST of block class who / 512, index who % 512, for `v` mW. A mechanism request
that can never fit completes its command with 0x040B; a START gives its slot back (R302, R306, R310, R315). -/
def execBreathRequest (cls : Fin 8) (who : Mn) (v : Nat) (prio : Fin 256) (cmd : Option (FnIx × Nat)) (s : State) : Out :=
  let cm := cmd.map fun c => (c.1.val, c.2)
  match cls.val with
  | 1 => if who.val < 64 then fin (s.requestLink who (s.px who).want) else fin s
  | 6 => fin (s.requestBist { cls := who / 512, index := who % 512, mw := v })
  | 2 | 3 | 4 | 5 =>
    if !s.mayRequest cls who then fin s
    else match s.request (s.mechRequest cls who v prio cm) with
      | (t, .refused) =>
        let t1 := match cm with
          | none => t
          | some c => match t.ctx c.1 c.2 with
            | none => t
            | some x => t.cutCmd x 0x040B
        fin (if cls = 4 then t1.abandonStart who else t1)
      | (t, _) => fin t
  | _ => fin s

/-- BREATH_RELEASE: a grant is returned; a RISE gives back to the SPIN part held before it (R302, R306, R316). -/
def execBreathRelease (cls : Fin 8) (who : Mn) (s : State) : Out :=
  match cls.val with
  | 1 => if who.val < 64 then fin (s.returnLink who) else fin s
  | 2 => fin (s.returnGrant who fun g => { g with seek := none })
  | 3 => fin (s.returnGrant who fun g => { g with write := none })
  | 4 => fin (s.returnGrant who fun g => { g with spin := none, spinup := none, spinupAt := 0 })
  | 5 =>
    let before := tabGet s.breath.spinBefore who 0
    if before = 0 then fin s
    else fin ((s.modBreath fun b => { b with spinBefore := tabDel b.spinBefore who }).returnGrant who fun g =>
      { g with spin := some before, spinup := none, spinupAt := 0 })
  | 6 => fin (s.returnBist (who / 512) (who % 512))
  | _ => fin s

/-- REQUEST_AGED: a deferred request of class cls has waited AGE_MS: its domain is evaluated again (R309). -/
def execRequestAged (cls : Fin 8) (who : Mn) (s : State) : Out :=
  let age := ms (s.get .BRTH_GCFG_AGE_MS)
  match s.breath.reqs.find? fun r => r.cls == cls.val && r.who == who.val && !r.aged && decide (r.at_ + age ≤ s.now) with
  | none => fin s
  | some r => fin (s.reevaluate r.dom)

/-! ### Measured power and overdraw (R312 to R314) -/

/-- Committed power of mechanism n: its standing cost and the grants it holds. -/
def State.committedOf (s : State) (n : Nat) : Nat := s.standingOf n + grantSum (s.grants n)

/-- Measured power of mechanism n, mW, rounded down; its committed power when it has reported nothing for 2 ms (R312). -/
def State.measured (s : State) (n : Nat) : Nat :=
  match tabGet s.breath.meas n (0, 0, 0) with
  | (mv, ma, t) => if s.now < t + 2000000 && t != 0 then mv * ma / 1000 else s.committedOf n

/-- Since when the measured power of mechanism n has been more than a quarter above its committed power, and whether MECH_EXCESS has been set for it (R314). -/
def State.noteExcess (s : State) (n : Nat) : State :=
  let since := if s.committedOf n * 5 < s.measured n * 4 then some ((tabGet s.breath.excessAt n none).getD (s.now, false)) else none
  s.modBreath fun b => { b with excessAt := tabPut b.excessAt n since none }

/-- Telemetry item 1 (supply voltage, mV) or 2 (input current, mA) arrives: the measured power is refreshed (R312). -/
def State.reportPower (s : State) (n item v : Nat) : State :=
  let o := tabGet s.breath.meas n (0, 0, 0)
  let x := if item = 1 then (v, o.2.1, s.now) else (o.1, v, s.now)
  (s.modBreath fun b => { b with meas := tabPut b.meas n x (0, 0, 0) }).noteExcess n

/-- The sum that BRTH_DOM_MEAS averages: mechanisms of the domain, its LINK grants, FIXED (R312). -/
def State.powerSum (s : State) (d : Nat) : Nat :=
  s.breath.standing.foldl (fun a e => if s.domOf e.1 = d then a + s.measured e.1 else a) 0 +
  s.breath.link.foldl (fun a e => match e.2 with
    | some (dom, mw) => if dom = d then a + mw else a
    | none => a) 0 + s.get .BRTH_DOM_FIXED_MW d

/-- A spindle that accelerates: ALIGN, RAMP, or SLEW with a rising reference (R313). -/
def State.accelerating (s : State) (n : Nat) : Bool :=
  let st := s.spinState n
  s.holdsSlot n && (st == 4 || st == 5 || (st == 7 && decide ((s.sx n).spin.ref < (s.get .MECH_SPEED_TARGET n : Int) * 16384)))

/-- Mechanisms of domain d that have a standing cost. -/
def State.mechsIn (s : State) (d : Nat) : List Nat := (s.breath.standing.filter fun e => s.domOf e.1 == d).map (·.1)

/-- Every spindle of domain d that accelerates is at THROTTLE_MIN (R313). -/
def State.fullyThrottled (s : State) (d : Nat) : Bool :=
  (s.mechsIn d).all fun n => !s.accelerating n || decide (s.get .MECH_SPIN_STAT_THROTTLE n ≤ s.get .BRTH_GCFG_THROTTLE_MIN)

/-- One 100 us update of a domain (R312, R313): the mean is compared exactly, and shown rounded down. -/
def State.overdrawTick (s : State) (d : Nat) : State :=
  let sums := (s.powerSum d :: tabGet s.breath.sums d []).take 10
  let total := sums.foldl (· + ·) 0
  let s1 := (s.modBreath fun b => { b with sums := tabPut b.sums d sums [] }).set .BRTH_DOM_MEAS_MW d (min (total / sums.length) 0xFFFFFFFF)
  let budget := s.get .BRTH_DOM_BUDGET_MW d * sums.length
  let was := s.on .BRTH_DOM_STAT_OVERDRAW d
  let ovr := !s.unlimited d && decide (budget < total)
  let ms_ := s1.mechsIn d
  let s2 :=
    if ovr then
      let low := s.get .BRTH_GCFG_THROTTLE_MIN
      s1.forEach (ms_.filter s1.accelerating) fun t n =>
        t.set .MECH_SPIN_STAT_THROTTLE n (max low (t.get .MECH_SPIN_STAT_THROTTLE n - 32))
    else if s.unlimited d || decide (2 * total + s.get .BRTH_DOM_RESERVE_MW d * sums.length ≤ 2 * budget) then
      s1.forEach ms_ fun t n => t.set .MECH_SPIN_STAT_THROTTLE n (min 256 (t.get .MECH_SPIN_STAT_THROTTLE n + 16))
    else s1
  let s3 := s2.set .BRTH_DOM_STAT_OVERDRAW d (b2n ovr)
  let long := if ovr && s3.fullyThrottled d then some ((tabGet s.breath.longAt d none).getD (s.now, false)) else none
  let s4 := s3.modBreath fun b => { b with longAt := tabPut b.longAt d long none }
  let s5 := if ovr && !was then (s4.raise .BRTH_EVENT_OVERDRAW).set0 .BRTH_EVENT_DOM d else s4
  if ovr = was then s5 else s5.reevaluate d

/-- Each SPINUP part held longer than 2 x SPINUP_MS sets BRTH_EVENT.SPINUP_LONG once. -/
def State.noteSpinupLong (s : State) : State :=
  let due := s.breath.grants.filter fun e =>
    e.2.spinup.isSome && !e.2.spinupLong && s.holdsSlot e.1 && decide (e.2.spinupAt + ms (2 * spinupMs (s.sx e.1).dr) < s.now)
  s.forEach (due.map (·.1)) fun t n =>
    ((t.modBreath fun b => { b with grants := tabMod b.grants n {} fun g => { g with spinupLong := true } }).raise .BRTH_EVENT_SPINUP_LONG).set0
      .BRTH_EVENT_DOM (t.domOf n)

/-- OVERDRAW_TICK: the 100 us update of every domain (R312, R313). -/
def execOverdrawTick (s : State) : Out :=
  if s.now < s.breath.tickAt + 100000 then fin s
  else
    let s1 := (s.modBreath fun b => { b with tickAt := s.now }).forEach (s.breath.standing.map (·.1)) State.noteExcess
    fin ((s1.forEach (List.range 8) State.overdrawTick).noteSpinupLong)

/-- OVERDRAW_LONG: overdraw has lasted OVER_MS with every accelerating spindle at THROTTLE_MIN; it is set once while that lasts (R313, log 0x09.0x01). -/
def execOverdrawLong (d : DomainIx) (s : State) : Out :=
  match tabGet s.breath.longAt d none with
  | some (t, false) =>
    if s.now < t + ms (s.get .BRTH_GCFG_OVER_MS) then fin s
    else
      let s1 := s.modBreath fun b => { b with longAt := tabPut b.longAt d (some (t, true)) none }
      fin (((s1.raise .BRTH_EVENT_OVERDRAW_LONG).set0 .BRTH_EVENT_DOM d).logEntry
        { cls := 9, code := 1, sev := 3, detail0 := d, detail1 := s.get .BRTH_DOM_MEAS_MW d })
  | _ => fin s

/-- MECH_EXCESS: measured power has been more than a quarter above committed power for 10 ms; it is set once while that lasts (R314). -/
def execMechExcess (mn : Mn) (s : State) : Out :=
  match tabGet s.breath.excessAt mn none with
  | some (t, false) =>
    if s.now < t + 10000000 then fin s
    else
      let s1 := s.modBreath fun b => { b with excessAt := tabPut b.excessAt mn (some (t, true)) none }
      let s2 := (s1.raise .BRTH_EVENT_MECH_EXCESS).set0 .BRTH_EVENT_DOM (s.domOf mn)
      fin ((s2.set0 .BRTH_EXCESS_EXCESS_MW (min (s.measured mn - s.committedOf mn) 65535)).set0 .BRTH_EXCESS_MN mn)
  | _ => fin s

/-- BIST_GAP_EXPIRY: GAP_US after the previous BIST grant, the next may be granted (R315). -/
def execBistGapExpiry (s : State) : Out := fin s.grantBist

end Sys2Proof.Machine
end

