-- ==== Sys2Proof/Machine/Penetal.lean ====
section
/-! DEFINITION. The Penetal ports: training, pair faults, frames, servo slots, the management channel, map and lane-mode changes, low power
(spec/03_penetal_link.md R57 to R90). -/

namespace Sys2Proof.Machine

def mnsOf (p : Nat) : List Nat := (List.range 64).map fun d => p * 64 + d

/-! ### Drops lost and found (R37, R38, R50, R82) -/

/-- The drop of mechanism n is not found: its mechanism is ABSENT, its entry shows it lost. -/
def State.dropLost (s : State) (n : Nat) : State :=
  let s1 := (s.toAbsent n).wr .MECH_BRIDGE n 0 0
  ((s1.wr .PEN_DROP (portOf n) (dropOf n) 0).set2 .PEN_DROP_DSTATE (portOf n) (dropOf n) 3).modDrop n fun _ => {}

/-- Version code of PEN_CFG.MAX_VER as LINK_VER. -/
def verOf (c : Nat) : Nat := if c = 0 then 0x10 else if c = 1 then 0x11 else 0x20

/-- The activation of a package ends: its command completes (R375, R489). -/
def State.packageDone (s : State) : State :=
  match s.fw.act with
  | none => s
  | some a =>
    let s1 := ((((s.set0 .DBG_UPD_STAT_BUSY 0).raise .DBG_UPD_STAT_DONE).set0 .DBG_UPD_STAT_RESULT 0).set0 .DBG_UPD_STAT_PHASE 0).set0 .DBG_UPD_STAT_INDEX 0
    let s2 := s1.modFw fun f => { f with act := none }
    match a.cmd.bind fun c => s2.ctx c.1 c.2 with
    | some c => s2.complete c 0 0 s2.fw.running a.slot
    | none => s2

/-- The update of a bridge or fan-out has ended, and the activation goes on (R489, R490). `cause` is that of the BFW reply, 0xFF without one. -/
def State.bfwEnd (s : State) (k cause version : Nat) : State :=
  let s1 := if cause = 0 then s.bump .DBG_BFW_STAT_DONE
    else (s.bump .DBG_BFW_STAT_FAILED).logEntry
      { cls := 0x0D, code := 3, sev := 2, mn := if k < 4096 then k else 0xFFFF, unit := if k < 4096 then 0xFFFF else k - 4096,
        detail0 := cause, detail1 := version }
  let s2 := s1.modFw fun f => { f with bfw := none, act := f.act.map fun (a : ActX) => { a with todo := a.todo.filter fun x => x != k } }
  match s2.fw.act with
  | some a =>
    if 6 ≤ s2.get .DBG_UPD_STAT_PHASE then
      match a.todo with
      | [] => s2.packageDone
      | x :: _ => (s2.set0 .DBG_UPD_STAT_PHASE (if x < 4096 then 6 else 7)).set0 .DBG_UPD_STAT_INDEX (x % 4096)
    else s2
  | none => s2

/-- A bridge or fan-out that restarts has returned with a version (R490). -/
def State.bfwReturn (s : State) (k version : Nat) : State :=
  match s.fw.bfw with
  | some b => if b.mn = k then s.bfwEnd k (if version = b.image.version then 0 else 0xFF) version else s
  | none => s

/-- A drop is identified (R37, R50, R59, R63): registers of the bridge, then ATTACHED or LOADED, or ISOLATED. A drop identified after its port's training
takes MAX_VER as it stands then (DESIGN CHOICE, notes/assumptions/93.md). -/
def State.identify (s : State) (p : Nat) (i : DropIdent) : State :=
  let d := i.drop % 64
  let n := p * 64 + d
  let old := s.bridgeSn n
  let sr := s.bfwReturn n i.fw
  let s0 := if s.mst n ≠ 0 ∧ old ≠ i.sn then sr.toAbsent n else sr
  let fan := if s.on .PEN_FANOUT_PRESENT p then s.get .PEN_FANOUT_MAX_VER p else 0x20
  let ver := min (verOf (s.get .PEN_CFG_MAX_VER p)) (min fan i.maxVer)
  let s1 := ((((s0.set2 .PEN_DROP_VER p d ver).set2 .PEN_DROP_DSTATE p d 2).set2 .PEN_DROP_MGMT_OK p d 1).set2 .PEN_DROP_PRESENT p d 1).set2
    .PEN_DROP_MISS_RUN p d 0
  let s2 := (((s1.set .MECH_BRIDGE_BFW_VER n i.fw).set .MECH_BRIDGE_LINK_VER n ver).set .MECH_BRIDGE_GEN n i.gen).set64
    .MECH_BRIDGE_SN_LO_SN .MECH_BRIDGE_SN_HI_SN n i.sn
  let s3 := (s2.raise .PEN_EVENT_DROP_CHG p).modMech n fun m =>
    { m with attachedAt := s.now, polarityDue := true, scaleI := i.scaleI, scaleV := i.scaleV }
  let s3 := s3.modDrop n fun x => { x with heardAt := s.now, seekAt := none }
  if s3.mst n ≠ 0 then
    (if i.selfTest then s3 else s3.fault n 0x80 0)
  else
    let s4 := s3.modMech n fun m => { m with driveStop := none }
    if !i.selfTest then ((s4.recordFault n 0x80 0).recordIsolation n).endMove n 9
    else if s4.isolated i.sn then s4.endMove n 9
    else s4.attach n i.clamped

/-! ### Training (R59 to R62, R78, R82) -/

/-- Training starts, once the port holds its LINK grant; every drop has to be identified again (R59, R82). While it waits for the grant PSTATE shows OFF
(DESIGN CHOICE, notes/assumptions/93.md). -/
def State.startTraining (s : State) (p : Nat) : State :=
  let s1 := s.forEach (List.range 64) fun t d =>
    if t.on .PEN_DROP_PRESENT p d then ((t.set2 .PEN_DROP_PRESENT p d 0).set2 .PEN_DROP_DSTATE p d 1).set2 .PEN_DROP_MGMT_OK p d 0 else t
  let s2 := ((s1.set .PEN_STATUS_LOCK p 0).portStep p 0).forEach (mnsOf p) fun t n =>
    if (t.dx n).seekAt.isSome then t.modDrop n fun x => { x with seekAt := none } else t
  let s3 := s2.modPort p fun x => { x with modeNext := none, remeasure := false, sinceHeader := 0, blocks := 0, tickAt := none, lostAt := none, heldAt := none }
  s3.requestLink p .train

/-- A training attempt fails: FAILED, and no drop is found (R59, R82). -/
def State.failTraining (s : State) (p cause : Nat) : State :=
  let s1 := (((s.portStep p 0xA).set .PEN_STATUS_FAIL_CAUSE p cause).set .PEN_STATUS_LOCK p 0).raise .PEN_EVENT_TRAIN_FAIL p
  let s2 := (s1.bump .PEN_CNT_TRAIN_FAILS p).logEntry
    { cls := 4, code := 1, sev := 1, unit := p, detail0 := cause, detail1 := (s1.rd .PEN_LANE p).toNat }
  (s2.forEach ((mnsOf p).filter fun n => s.mst n != 0 && !s.rebooting n) State.dropLost).returnLink p

/-- Pair codes of a direction as lanes usable. -/
def laneUsable (c : Nat) : Bool := c == 0

/-- LMODE for the lanes usable in each direction (R62, "Downstream frame header"). -/
def lmodeOf (up0 up1 dn0 dn1 : Bool) : Nat :=
  b2n (!(up0 && up1)) + b2n (!(dn0 && dn1)) * 2 + b2n (!up0) * 4 + b2n (!dn0) * 8

/-- A pair fault is recorded (R61). -/
def State.pairFault (s : State) (p : Nat) : State :=
  (s.raise .PEN_EVENT_LANE_FAULT p).logEntry { cls := 4, code := 2, sev := 2, unit := p, detail0 := (s.rd .PEN_LANE p).toNat }

/-- LOOP_NS is measured, and ACT_OFS set from it: ceil((LOOP_NS + 116) / 1.28) words (R78). -/
def State.setLoop (s : State) (p ns : Nat) : State :=
  ((s.set .PEN_TIMING_LOOP_NS p ns).set .PEN_TIMING_ACT_OFS p (((ns + 116) * 100 + 127) / 128)).renewArrivals p

/-- The port runs frames: ACTIVE, or DEGRADED with a direction in single-lane mode. Messages that waited go out. -/
def State.runFrames (s : State) (p : Nat) : State :=
  let m := s.get .PEN_STATUS_LMODE p
  let s1 := ((s.set .PEN_STATUS_PSTATE p (if m % 4 = 0 then 6 else 7)).set .PEN_STATUS_LOCK p 1).modPort p fun x =>
    { x with sinceHeader := 0, rate := s.get .PEN_CFG_RATE p, phase := s.get .PEN_CFG_PHASE p, framesAt := s.now, busyAt := s.now, lostAt := none,
             tryAt := s.now, heldAt := none }
  s1.forEach (List.range 65) fun t a => t.flushMgmt p a

/-- The time limit of a training step or of a wake, ns (R59, R88); 0 for a PSTATE without one. -/
def stepLimit (st : Nat) : Nat :=
  if st = 1 then us 50 else if st = 2 then us 200 else if st = 3 then ms 2 else if st = 4 then us 100 else if st = 5 then us 500
  else if st = 9 then us 40 else 0

/-- The step that the port is in has reached its time limit (R59, R88). -/
def State.stepLate (s : State) (p : Nat) : Bool := decide ((s.px p).stepAt + stepLimit (s.pstate p) ≤ s.now)

/-- TRAIN_STEP_DONE: the step that the port is in completes within its limit (R59, R60, R62, R78, R88). A training that succeeds clears FAIL_CAUSE (DESIGN
CHOICE, notes/assumptions/93.md). -/
def execTrainStepDone (p : PortIx) (x : TrainInfo) (s : State) : Out :=
  if s.stepLate p then fin s else
  match x with
  | .detect u0 u1 d0 d1 =>
    if s.pstate p ≠ 1 then fin s
    else
      let s1 := (((s.set .PEN_LANE_UP0 p u0).set .PEN_LANE_UP1 p u1).set .PEN_LANE_DN0 p d0).set .PEN_LANE_DN1 p d1
      let s2 := if u0.val + u1.val + d0.val + d1.val = 0 then s1 else s1.pairFault p
      if !(laneUsable u0 || laneUsable u1) || !(laneUsable d0 || laneUsable d1) then fin (s2.failTraining p 2)
      else fin ((s2.set .PEN_STATUS_LMODE p (lmodeOf (laneUsable u0) (laneUsable u1) (laneUsable d0) (laneUsable d1))).portStep p 2)
  | .align pol swap =>
    if s.pstate p ≠ 2 then fin s
    else fin (((s.set .PEN_LANE_UP_POL p pol).set .PEN_LANE_UP_SWAP p (b2n swap)).portStep p 3)
  | .eq => if s.pstate p ≠ 3 then fin s else fin (s.portStep p 4)
  | .lock => if s.pstate p ≠ 4 then fin s else fin ((s.set .PEN_STATUS_LOCK p 1).portStep p 5)
  | .ident fan pol swap ns drops =>
    if s.pstate p ≠ 5 then fin s
    else if 600 < ns then fin ((s.set .PEN_TIMING_LOOP_NS p ns).failTraining p 3)
    else
      let s1 := ((s.set .PEN_LANE_DN_POL p pol).set .PEN_LANE_DN_SWAP p (b2n swap)).setLoop p ns
      let s2 := match fan with
        | none => (s1.wr .PEN_FANOUT p 0 0).set .PEN_STATUS_FANOUT p 0
        | some f => ((((s1.set .PEN_FANOUT_FW_VER p f.1).set .PEN_FANOUT_MAX_VER p f.2).set .PEN_FANOUT_PRESENT p 1).set .PEN_STATUS_FANOUT p 1).bfwReturn (4096 + p) f.1
      let s3 := (((s2.runFrames p).raise .PEN_EVENT_TRAINED p).bump .PEN_CNT_TRAIN_TRAINS p).set .PEN_STATUS_FAIL_CAUSE p 0
      fin (s3.forEach drops fun t i => t.identify p i)
  | .wake => if s.pstate p ≠ 9 then fin s else fin ((s.runFrames p).raise .PEN_EVENT_LP_EXIT p)

/-- TRAIN_STEP_TIMEOUT: a step has reached its limit; `partner` tells FAIL_CAUSE 2 from 1 in DETECT (R59). -/
def execTrainStepTimeout (p : PortIx) (partner : Bool) (s : State) : Out :=
  if !s.stepLate p then fin s else
  match s.pstate p with
  | 1 => fin (s.failTraining p (if partner then 2 else 1))
  | 2 => fin (s.failTraining p 2)
  | 3 => fin (s.failTraining p 5)
  | 4 => fin (s.failTraining p 6)
  | 5 => fin (s.failTraining p 4)
  | _ => fin s

/-- TRAIN_RETRY: RETRY_MS in FAILED ends (R59); a port does not retry while the device dozes (R429). -/
def execTrainRetry (p : PortIx) (s : State) : Out :=
  let st := s.get .DRN_PSTAT_STATE
  let due := (s.px p).stepAt + ms (s.get .PEN_GCFG_RETRY_MS)
  if s.pstate p = 0xA ∧ s.on .PEN_CFG_EN p ∧ (st < 2 ∨ 4 < st) ∧ due ≤ s.now then fin (s.startTraining p) else fin s

/-- PEN_CFG.EN is set (R59). -/
def State.portEnable (s : State) (p : Nat) : State :=
  let s1 := s.set .PEN_CFG_EN p 1
  if s.pstate p = 0 ∧ (s.px p).want = .none then s1.startTraining p else s1

/-- PEN_CFG.EN is cleared: servo-active mechanisms are made safe with fault 0x90, then no drop is found and the port is OFF (R82). -/
def State.portDisable (s : State) (p : Nat) : State :=
  let s1 := s.forEach ((mnsOf p).filter fun n => s.on .PEN_DROP_SERVO p (dropOf n) || s.holdsSlot n) fun t n => t.fault n 0x90 0
  let s2 := s1.forEach ((mnsOf p).filter fun n => s1.mst n != 0) State.dropLost
  let s3 := ((s2.set .PEN_CFG_EN p 0).portStep p 0).set .PEN_STATUS_LOCK p 0
  (s3.modPort p fun x => { x with modeNext := none, remeasure := false, sinceHeader := 0, blocks := 0, tickAt := none, lostAt := none, heldAt := none }).returnLink p

/-- PORT_ENABLE. -/
def execPortEnable (p : PortIx) (s : State) : Out := regCmd s fun s => fin (s.portEnable p)

/-- PORT_DISABLE. -/
def execPortDisable (p : PortIx) (s : State) : Out := regCmd s fun s => fin (s.portDisable p)

/-- RETRAIN: PEN_CTRL.RETRAIN of an enabled port (R59). -/
def execRetrain (p : PortIx) (s : State) : Out := regCmd s fun s => if s.on .PEN_CFG_EN p then fin (s.startTraining p) else fin s

/-- CLR_CNT: every counter of the port, PEN_CNT_TRAIN included (PEN_CTRL). -/
def execClrCnt (p : PortIx) (s : State) : Out := regCmd s fun s =>
  fin (s.forEach [Reg.PEN_CNT_CRC, Reg.PEN_CNT_MISS, Reg.PEN_CNT_REPEAT, Reg.PEN_CNT_BLK, Reg.PEN_CNT_MGMT, Reg.PEN_CNT_TRAIN] fun t r => t.wr r p 0 0)

/-! ### Pair faults and lanes (R61, R62, R84 to R86) -/

/-- TX_OVERCURRENT: the lane is shut (R61). -/
def execTxOvercurrent (p : PortIx) (lane : Fin 2) (s : State) : Out :=
  let s1 := (s.set (if lane.val = 0 then .PEN_LANE_DN0 else .PEN_LANE_DN1) p 5).raise .PEN_EVENT_OVERCURRENT p
  fin ((s1.pairFault p).modPort p fun x => { x with overCurrent := (lane.val, s.now) :: x.overCurrent.filter fun l => l.1 != lane.val })

/-- TX_OVERCURRENT_RETRY: every 1,000 ms a lane that was shut is tried; `clear` says that the fault has gone (R61, R62). -/
def execTxOvercurrentRetry (p : PortIx) (lane : Fin 2) (clear : Bool) (s : State) : Out :=
  match (s.px p).overCurrent.find? fun l => l.1 == lane.val with
  | none => fin s
  | some l =>
    if s.now < l.2 + ms 1000 then fin s
    else
      let rest := (s.px p).overCurrent.filter fun l => l.1 != lane.val
      if clear then
        fin ((s.set (if lane.val = 0 then .PEN_LANE_DN0 else .PEN_LANE_DN1) p 0).modPort p fun x => { x with overCurrent := rest })
      else fin (s.modPort p fun x => { x with overCurrent := (lane.val, s.now) :: rest })

/-- Single-lane upstream is announced for the current SEQ + 2 when a receive lane is lost in dual-lane operation; a change announced before takes effect
first (R84, notes/assumptions/92.md). -/
def State.announceLoss (s : State) (p : Nat) : State :=
  let m := s.get .PEN_STATUS_LMODE p
  let l0 := s.get .PEN_LANE_UP0 p == 6
  if m % 2 = 1 ∨ (s.px p).modeNext.isSome ∨ !(l0 || s.get .PEN_LANE_UP1 p == 6) then s
  else s.announceMode p (m % 4 / 2 * 2 + m / 8 * 8 + 1 + b2n l0 * 4) ((s.px p).seq + 1)

/-- LANE_LOSS: a receive lane loses block lock (R61, R84). -/
def execLaneLoss (p : PortIx) (lane : Fin 2) (s : State) : Out :=
  if !s.portUp p then fin s
  else
    let s1 := s.modPort p fun x => { x with tryAt := s.now, heldAt := none }
    fin (((s1.set (if lane.val = 0 then .PEN_LANE_UP0 else .PEN_LANE_UP1) p 6).pairFault p).announceLoss p)

/-- LANE_REJOIN_ATTEMPT: 1,000 ms after the lane was dropped or last tried, the device tries to lock the dropped receive lane; `lock` says whether it gains
block lock (R86). A lane that holds lock is not tried again. -/
def execLaneRejoinAttempt (p : PortIx) (lock : Bool) (s : State) : Out :=
  let x := s.px p
  if !s.portUp p || s.get .PEN_STATUS_LMODE p % 2 == 0 || x.heldAt.isSome || decide (s.now < x.tryAt + ms 1000) then fin s
  else fin (s.modPort p fun y => { y with tryAt := s.now, heldAt := if lock then some s.now else none })

/-- The lane that was tried has held block lock for 100 ms (R86). -/
def State.laneHeldLong (s : State) (p : Nat) : Bool := match (s.px p).heldAt with
  | some t => decide (t + ms 100 ≤ s.now)
  | none => false

/-- LANE_REJOIN: the dropped receive lane has held lock for 100 ms and rejoins at an announced ACT_SEQ (R86); while another lane mode is announced it
stays out. -/
def execLaneRejoin (p : PortIx) (s : State) : Out :=
  let m := s.get .PEN_STATUS_LMODE p
  if !s.portUp p || m % 2 = 0 || (s.px p).modeNext.isSome || !s.laneHeldLong p then fin s
  else
    let s1 := (s.set (if m / 4 % 2 = 1 then .PEN_LANE_UP0 else .PEN_LANE_UP1) p 0).modPort p fun x => { x with heldAt := none }
    fin (s1.announceMode p (m % 4 / 2 * 2 + m / 8 * 8) ((s.px p).seq + 1))

/-- The granted bursts of a direction fit its capacity (R67, R69). -/
def State.dirFits (s : State) (p : Nat) (down : Bool) : Bool :=
  let rate := (s.px p).rate
  let t := rateUs rate
  let lane1 := s.single p down
  let dir := (s.bursts p).filter fun e => bmapDown e.2 == down
  let used := dir.foldl (fun a e => a + burstLen down (bmapSingle e.2) t) 0
  let base := if down then 1 + (if s.single p false && !s.single p true then 128 else 64) else 65
  let n4 := (dir.filter fun e => !bmapSingle e.2).length
  decide (n4 ≤ burstCap rate down false lane1) && decide (dir.length - n4 ≤ burstCap rate down true lane1) &&
  decide (base + used + 16 * t ≤ frameWords rate lane1)

/-- Withdraw the most recently granted bursts of a direction until the rest fit; their mechanisms wait behind those that wait already, in the order of
their withdrawal (R70, R85). -/
def State.withdrawBursts (s : State) (p : Nat) (down : Bool) : Nat → State
  | 0 => s
  | k + 1 =>
    if s.dirFits p down then s
    else
      match ((s.px p).burstOrder.filter fun b => bmapValid (s.bmapView p b) && bmapDown (s.bmapView p b) == down).getLast? with
      | none => s
      | some b =>
        let w := s.bmapView p b
        let s1 := (s.wr .PEN_BMAP p b 0).set2 .PEN_DROP_BURST p (bmapDrop w) 0
        let s2 := s1.modPort p fun x =>
          { x with burstOrder := x.burstOrder.erase b, mapNext := { x.mapNext with bmap := x.mapNext.bmap.filter fun e => e.1 != b },
                   mapNow := x.mapNow.map fun m => (m.1, { m.2 with bmap := m.2.bmap.filter fun e => e.1 != b }),
                   waits := x.waits ++ [{ drop := bmapDrop w, down := down, single := bmapSingle w }] }
        s2.withdrawBursts p down k

/-- Bursts that lie outside the frame now, or on the actuator region, move into free words (R68, R85). One that finds none is withdrawn and waits. -/
def State.replaceBursts (s : State) (p : Nat) (down : Bool) : State :=
  let t := rateUs (s.px p).rate
  s.forEach ((s.bursts p).filter fun e => bmapDown e.2 == down) fun u e =>
    let len := burstLen down (bmapSingle e.2) t
    let v := u.wr .PEN_BMAP p e.1 0
    if v.burstFree p down (bmapStart e.2) len then u
    else match v.burstStart p down len 3200 (if down then 1 else 65) with
      | none => (v.set2 .PEN_DROP_BURST p (bmapDrop e.2) 0).modPort p fun x =>
          { x with burstOrder := x.burstOrder.erase e.1,
                   waits := x.waits ++ [{ drop := bmapDrop e.2, down := down, single := bmapSingle e.2 }] }
      | some w => u.wr .PEN_BMAP p e.1 (bmapWord down (bmapSingle e.2) (bmapDrop e.2) w)

/-- Bursts fit what the frame offers now: those that no longer fit are withdrawn, the rest move into it, waiting ones take new room (R70, R85). -/
def State.refitBursts (s : State) (p : Nat) : State :=
  let s1 := ((s.withdrawBursts p false 16).replaceBursts p false).withdrawBursts p true 16
  ((s1.replaceBursts p true).serveWaits p false 16).serveWaits p true 16

/-- The announced lane mode takes effect in the next frame, with LOOP_NS to be measured again (R78, R84, R85). -/
def State.switchMode (s : State) (p m : Nat) : State :=
  let old := s.get .PEN_STATUS_LMODE p
  let s1 := ((s.set .PEN_STATUS_LMODE p m).set .PEN_STATUS_PSTATE p (if m % 4 = 0 then 6 else 7)).raise .PEN_EVENT_DEGRADED p
  let s2 := (s1.logEntry { cls := 4, code := 3, sev := 1, unit := p, detail0 := m, detail1 := old }).modPort p fun x =>
    { x with modeNext := none, remeasure := true }
  s2.refitBursts p

/-- LANE_MODE_SWITCH: at its ACT_SEQ the announced lane mode takes effect; LOOP_NS and ACT_OFS are measured again, here or, where the frame has begun in
the new mode without a measurement, now (R78, R84, R85). Then a lane lost meanwhile and a waiting map change are announced. -/
def execLaneModeSwitch (p : PortIx) (loopNs : Nat) (s : State) : Out :=
  let x := s.px p
  let s1 := match x.modeNext with
    | some (m, a) => if a = x.seq then s.switchMode p m else s
    | none => s
  if !(s1.px p).remeasure then fin s1
  else
    let s2 := ((s1.setLoop p loopNs).modPort p fun y => { y with remeasure := false }).refitBursts p
    fin ((s2.announceLoss p).announceMap p)

/-! ### Frames and headers (R65, R66, R71, R81, R84) -/

/-- The frame period in 1/17 ns of device time (R65). -/
def framePeriod (rate : Nat) : Nat := 17000 * rateUs rate

/-- The latest tick of a port at or before device time: n x period + PHASE x period / 17, in 1/17 ns (R65). -/
def State.tickNow (s : State) (p : Nat) : Option Nat :=
  let per := framePeriod (s.px p).rate
  let ofs := (s.px p).phase * (per / 17)
  if 17 * s.now < ofs then none else some ((17 * s.now - ofs) / per * per + ofs)

/-- Blocks per lane that the frame with a SEQ spans (R65). -/
def frameBlocks (rate seq : Nat) : Nat :=
  if rate = 2 then (if seq % 4 = 3 then 782 else 781) else if rate = 1 then (if seq % 2 = 1 then 1563 else 1562) else 3125

/-- The downstream header of the frame with SEQ of the port that starts at its latest tick (spec/03 "Downstream frame header"). -/
def State.downHeader (s : State) (p : Nat) : List Nat :=
  let x := s.px p
  let m := s.get .PEN_STATUS_LMODE p
  let act := match x.modeNext with
    | some (_, a) => a
    | none => match x.mapNow with | some (a, _) => a | none => 0
  let next := match x.modeNext with | some (k, _) => k | none => m
  let ep := if x.mapNow.isSome then (x.epoch + 1) % 16 else x.epoch
  let l := [0xF0 + x.rate * 2 ^ 8 + x.seq * 2 ^ 12 + m * 2 ^ 24 + x.epoch * 2 ^ 28, (s.tickNow p).getD 0 / 17 % 2 ^ 32,
            act + next * 2 ^ 12 + ep * 2 ^ 16 + s.get .PEN_TIMING_ACT_OFS p * 2 ^ 20]
  l ++ [crc32c (dwBytes l)]

/-- The announced map is in use and MAP_EPOCH takes its value; a change that waited is announced (R71). -/
def State.useMap (s : State) (p : Nat) (m : MapChange) : State :=
  let s1 := s.forEach m.smap fun t e => t.wr .PEN_SMAP p e.1 e.2
  let s2 := s1.forEach m.bmap fun t e => t.wr .PEN_BMAP p e.1 e.2
  (s2.modPort p fun x => { x with mapNow := none, epoch := (x.epoch + 1) % 16 }).announceMap p

/-- What was announced for the frame that now starts takes effect: the lane mode, and the map (R71, R84). -/
def State.takeAnnounced (s : State) (p : Nat) : State :=
  let q := (s.px p).seq
  let s1 := match (s.px p).modeNext with
    | some (m, a) => if a = q then s.switchMode p m else s
    | none => s
  match (s1.px p).mapNow with
  | some (a, m) => if a = q then s1.useMap p m else s1
  | none => s1

/-- RATE and PHASE written are in force when no drop of the port is servo-active (R66). -/
def State.takeRate (s : State) (p : Nat) : State :=
  if (s.positions p).isEmpty then s.modPort p fun x => { x with rate := s.get .PEN_CFG_RATE p, phase := s.get .PEN_CFG_PHASE p } else s

/-- A frame of the port is due: its latest tick lies after the tick of its last frame (R65). -/
def State.frameDue (s : State) (p : Nat) : Bool :=
  match s.tickNow p, (s.px p).tickAt with
  | none, _ => false
  | some _, none => true
  | some t, some l => decide (l < t)

/-- UPSTREAM_HEADER: a header with a good CRC keeps lock and may carry a lane request and a drop change (R81, R84); sync header errors seen since the last
one are counted. A request outside its window gives SEQ_ERR; one within it is discarded while another lane mode is announced, for the partner to send
again (R84, notes/assumptions/92.md). -/
def execUpstreamHeader (p : PortIx) (h : UpHeader) (s : State) : Out :=
  if !s.portUp p then fin s
  else if !h.crcOk then fin (s.bumpBy .PEN_CNT_BLK_COUNT p h.syncErrs)
  else
    let s1 := ((s.bumpBy .PEN_CNT_BLK_COUNT p h.syncErrs).set .PEN_STATUS_LOCK p 1).modPort p fun x =>
      { x with sinceHeader := 0, upSeq := h.seq % 4096, lostAt := none }
    let s2 := if h.dropChg then s1.raise .PEN_EVENT_DROP_CHG p else s1
    let m := s.get .PEN_STATUS_LMODE p
    let want := m % 2 + m / 4 % 2 * 4 + h.reqLmode / 2 % 2 * 2 + h.reqLmode / 8 % 2 * 8
    let ahead := (h.actSeq + 4096 - h.seq % 4096) % 4096
    if want = m then fin s2
    else if ahead < 2 ∨ 8 < ahead then fin (s2.raise .PEN_EVENT_SEQ_ERR p)
    else if (s.px p).modeNext.isSome then fin s2
    else fin (s2.announceMode p want h.actSeq)

/-- MAP_EPOCH_CHANGE: the frame whose SEQ is ACT_SEQ is next, and the new map is in use (R71). -/
def execMapEpochChange (p : PortIx) (s : State) : Out :=
  match (s.px p).mapNow with
  | none => fin s
  | some (a, m) => if a = (s.px p).seq then fin (s.useMap p m) else fin s

/-! ### Servo slots (R74, R76, R80, "Telemetry items") -/

/-- A telemetry item arrives. -/
def State.telemetry (s : State) (n idx v : Nat) : State :=
  let old := tabGet (s.dx n).tlm idx 0
  let s1 := s.modDrop n fun d => { d with tlm := tabPut d.tlm idx v 0 }
  if idx = 0 then s1.set .MECH_BTEMP_TEMP n v
  else if idx = 1 ∨ idx = 2 then s1.reportPower n idx v
  else if idx = 7 ∧ old ≠ v then s1.logEntry { cls := 3, code := 4, sev := 0, mn := n, detail0 := v, detail1 := old }
  else s1

/-- The end switches, clamp, disc sense, laser supply and safe bit that a bridge reports; CLAMPED changing outside a move counts in
MECH_CLAMP_CNT (R185). -/
def State.bridgeStatus (s : State) (n : Nat) (trayIn trayOut clamped disc lsup safe : Bool) : State :=
  let m := s.mx n
  let moving := match m.tray with | some t => t.kind == 3 || t.kind == 4 | none => false
  let s1 := if !moving && clamped != m.clamped then s.bumpWrap .MECH_CLAMP_CNT_CLAMPS n else s
  let s2 := s1.modMech n fun x => { x with trayIn := trayIn, trayOut := trayOut, clamped := if moving then x.clamped else clamped, disc := disc, lsup := lsup }
  (s2.trayReads n trayIn trayOut clamped).modDrop n fun d => { d with safe := safe }

/-- A servo slot reports LSUP (R506): supply present 10 ms after the permit went low is reported once and holds LASER_EN 0 until the permit is
high and LSUP agrees with it. -/
def State.lsupCheck (s : State) (n : Nat) (lsup : Bool) : State :=
  if s.permit n then (if lsup then s.modMech n fun m => { m with lsupHeld := false } else s)
  else if lsup && !(s.mx n).lsupReported && decide (tabGet s.ilk.low (zoneOf n) 0 + ms 10 ≤ s.now) then
    ((((s.modMech n fun m => { m with lsupReported := true, lsupHeld := true }).logEntry
      { cls := 0x0E, code := 5, sev := 3, mn := n, detail0 := zoneOf n }).set0 .SAFE_LSUP_LAST_ZONE (zoneOf n)).set0 .SAFE_LSUP_LAST_MN n).raise
      .SAFE_EVENT_LSUP_MISMATCH
  else s

/-- A fault code that a bridge reports is recorded once, when it first appears, and acknowledged (R76). -/
def State.bridgeReport (s : State) (n code detail : Nat) : State :=
  if code = 0 then s.modDrop n fun d => { d with faultSeen := 0, fack := none }
  else if (s.dx n).faultSeen = code then s.modDrop n fun d => { d with fack := some code }
  else (s.modDrop n fun d => { d with faultSeen := code, fack := some code }).bridgeFault n code detail

/-- The dwords of a servo slot but its CRC (spec/03 "Upstream servo slot"). -/
def slotWords (x : UpSlot) : List Nat :=
  let u := fun (v : Int) => unsignedOf 16 v
  let pr := fun (a b : Int) => u a + u b * 65536
  [x.type + x.drop * 2 ^ 8 + x.ver * 2 ^ 14 + x.seq * 2 ^ 16 + x.epoch * 2 ^ 28,
   x.fcode + x.fdetail * 2 ^ 8 + b2n x.safe * 2 ^ 12 + b2n x.lsup * 2 ^ 13 + b2n x.trayIn * 2 ^ 14 + b2n x.trayOut * 2 ^ 15 +
     b2n x.clamped * 2 ^ 16 + b2n x.disc * 2 ^ 17 + b2n x.ovld * 2 ^ 18 + x.tlmIdx * 2 ^ 20,
   x.tlmVal + x.ackSeq * 2 ^ 16, pr x.fe x.sum, pr x.te0 x.te1, pr x.te2 x.te3, pr x.lens x.tilt, pr x.sae x.lmon, pr x.ish1 x.ish2,
   pr x.bemfA x.bemfB, pr x.vbus x.isled, 0, 0, 0, 0]

def slotCrcOk (x : UpSlot) : Bool := x.crc == crc32c (dwBytes (slotWords x))

/-- The mechanism whose drop holds servo position k of port p and samples in the present frame (R66, R72). -/
def State.slotHolder (s : State) (p k : Nat) : Option Nat :=
  let w := s.rd .PEN_SMAP p k
  if smapValid w && samplesIn w (s.px p).upSeq then some (p * 64 + bitsOf w 0 6) else none

/-- The actuator slot of a mechanism that holds a servo position and no Cirque slot: it acknowledges a fault, and drives what its tray move drives (R76,
R185). -/
def State.restActuator (s : State) (n : Nat) : State :=
  if s.holdsSlot n then s
  else s.sendAct n false false (s.restFields n)

/-- SERVO_SLOT_RECEIVED: the slot in position k; `onTime` is false when its last word came more than 8 ns after the expected time (R74,
R76, R80). The samples themselves run as SLOT_SAMPLE. -/
def execServoSlotReceived (p : PortIx) (k : Fin 16) (x : UpSlot) (onTime : Bool) (s : State) : Out :=
  match s.slotHolder p k with
  | none => fin s
  | some n =>
    let behind := ((s.px p).upSeq + 4096 - x.seq) % 4096
    let s := s.modDrop n fun d => { d with dueAt := some s.now }
    if !slotCrcOk x then fin ((s.bump .PEN_CNT_CRC_COUNT p).missSlot n x)
    else if behind ≠ 0 then
      fin (((if behind ≤ 8 then s.raise .PEN_EVENT_LATE p else s.raise .PEN_EVENT_SEQ_ERR p)).missSlot n x)
    else if x.drop ≠ dropOf n ∨ x.epoch ≠ (s.px p).epoch ∨ onTime = false then fin (s.missSlot n x)
    else
      -- in a cluster that is left uncomputed the sample will count as missing (R116)
      let s0 := if s.leftOut n then s else s.set2 .PEN_DROP_MISS_RUN p (dropOf n) 0
      let s0 := s0.modDrop n fun d => { d with heardAt := s.now }
      let s1 := s0.bridgeStatus n x.trayIn x.trayOut x.clamped x.disc x.lsup x.safe
      let s2 := if s1.holdsSlot n then s1.modServo n fun v => { v with firstAt := some (v.firstAt.getD s.now) } else s1
      fin ((((s2.telemetry n x.tlmIdx x.tlmVal).lsupCheck n x.lsup).bridgeReport n x.fcode x.fdetail).restActuator n)

/-- A field of a slot that never came: no fields arrived, and a capture point that records them holds free values (R158). -/
def State.freeField (a : State × List Int) (_ : Nat) : State × List Int := (a.1.takeFree.2, signed 16 a.1.takeFree.1 :: a.2)

/-- SERVO_SLOT_MISSING (R80). -/
def execServoSlotMissing (p : PortIx) (k : Fin 16) (s : State) : Out :=
  match s.slotHolder p k with
  | none => fin s
  | some n =>
    let f := (List.range 16).foldl State.freeField (s.modDrop n fun d => { d with dueAt := some s.now }, [])
    let v := fun i => f.2.getD i 0
    fin (f.1.missSlot n { fe := v 0, te0 := v 1, te1 := v 2, te2 := v 3, te3 := v 4, sum := v 5, lens := v 6, tilt := v 7, sae := v 8, lmon := v 9,
                          ish1 := v 10, ish2 := v 11, bemfA := v 12, bemfB := v 13, vbus := v 14, isled := v 15 })

/-- The servo slot of a mechanism arrived, or should have, 96 ns ago, and no actuator slot has answered it (R77). -/
def State.repeatDue (s : State) (n : Nat) : Bool := match (s.dx n).dueAt with
  | some t => decide (t + 96 ≤ s.now)
  | none => false

/-- ACTUATOR_REPEAT: the previous drive fields go out again with REPEAT set, to a drop of the map in use (R77); the slot acknowledges a fault (R76). -/
def execActuatorRepeat (mn : Mn) (s : State) : Out :=
  if (s.livePosition (portOf mn) (dropOf mn)).isNone || !s.repeatDue mn then fin s
  else
    let w := (s.dx mn).drive
    fin ((s.bump .PEN_CNT_REPEAT_COUNT (portOf mn)).sendAct mn false true (setAt w 0 (if s.laserEn mn = 0 then 0 else w.getD 0 0)))

/-! ### Timeouts (R81, R82) -/

/-- LOCK_TIMEOUT: a port not locked for LOCK_TO_MS retrains (R81). -/
def execLockTimeout (p : PortIx) (s : State) : Out :=
  let held := (mnsOf p).any s.rebooting
  let long := match (s.px p).lostAt with
    | some t => decide (t + ms (s.get .PEN_GCFG_LOCK_TO_MS) ≤ s.now)
    | none => false
  if s.portUp p && long && !held then fin (s.startTraining p) else fin s

/-- DROP_TIMEOUT: a silent drop is retrained, through its fan-out downlink or with its port (R81). The request to address 0x40 is a CONFIG message with
the drop as its payload (DESIGN CHOICE, notes/assumptions/94.md). -/
def execDropTimeout (mn : Mn) (s : State) : Out :=
  let p := portOf mn
  let d := dropOf mn
  let heard := max (s.dx mn).heardAt (s.px p).framesAt
  if !s.portUp p || !s.on .PEN_DROP_PRESENT p d || s.rebooting mn || decide (s.now < heard + ms (s.get .PEN_GCFG_LOCK_TO_MS)) then fin s
  else if s.on .PEN_FANOUT_PRESENT p then
    let s0 := s.modDrop mn fun x => { x with seekAt := some s.now }
    let s1 := ((s0.set2 .PEN_DROP_PRESENT p d 0).set2 .PEN_DROP_DSTATE p d 1).set2 .PEN_DROP_MGMT_OK p d 0
    fin ((s1.raise .PEN_EVENT_DROP_CHG p).sendMgmt p 0x40 2 [d])
  else fin (s.startTraining p)

/-- DROP_NOT_FOUND: a drop that has to be identified again has not been within LOCK_TO_MS of the instant its port ran frames, or of the request for its
downlink's retrain: ABSENT (R37, R82). -/
def execDropNotFound (mn : Mn) (s : State) : Out :=
  let p := portOf mn
  let since := (s.dx mn).seekAt.getD (s.px p).framesAt
  if !s.portUp p || s.get .PEN_DROP_DSTATE p (dropOf mn) != 1 || s.rebooting mn || decide (s.now < since + ms (s.get .PEN_GCFG_LOCK_TO_MS)) then fin s
  else fin ((s.dropLost mn).raise .PEN_EVENT_DROP_CHG p)

/-! ### The management channel (R75, R76) -/

/-- The channel restarts at MSEQ 0, and what was not acknowledged is sent again (R75). `cause` 1 protocol errors, 2 resend rounds. -/
def State.restartChannel (s : State) (p a cause : Nat) : State :=
  let k := chanKey p a
  let l := (s.dx k).unacked
  let s1 := s.modDrop k fun d => { d with mseqTx := l.length, mseqRx := 0, protoErrs := 0, rounds := 0 }
  let s2 := if cause = 0 then s1
            else ((s1.emit (.mgmt p a 9 (some (0, 0)) [])).raise .PEN_EVENT_MGMT_ERR p).logEntry
              { cls := 4, code := 4, sev := 1, unit := p, detail0 := a, detail1 := cause }
  s2.emitMgmt p a 0 l

/-- The content of a message taken in order. -/
def State.takeMgmt (s : State) (p a : Nat) (b : MgmtBody) : State :=
  let n := p * 64 + a
  match b with
  | .ident i => if a < 64 then s.identify p { i with drop := a } else s
  | .fault c d => if a < 64 then (s.bridgeReport n c d).sendMgmt p a 5 [c] else s
  | .status ti tz cl di ls sf i v => if a < 64 then (s.bridgeStatus n ti tz cl di ls sf).telemetry n i v else s
  | .bfw => s
  | .test pass => if a < 64 && !pass then s.bridgeFault n 0x80 0 else s
  | .reset => (s.raise .PEN_EVENT_MGMT_ERR p).restartChannel p a 0
  | .reserved => s.bump .PEN_CNT_MGMT_COUNT p

/-- The acknowledgement of what a channel has taken so far (R75). -/
def State.ackMgmt (s : State) (p a : Nat) : State := s.emit (.mgmtAck p a (s.dx (chanKey p a)).mseqRx)

/-- MGMT_MESSAGE from address a (a drop, or 0x40 for the fan-out) of port p, with its MSEQ and MACK (R75). A message taken, or a duplicate, is
acknowledged; of messages that are discarded, only one taken in order ends a run of protocol errors (DESIGN CHOICE, notes/assumptions/94.md). -/
def execMgmtMessage (p : PortIx) (a : Fin 65) (mseq mack : Fin 4096) (good : Bool) (b : MgmtBody) (s : State) : Out :=
  if !s.portUp p then fin s
  else if !good then fin (s.bump .PEN_CNT_MGMT_COUNT p)
  else
    let k := chanKey p a
    let x := s.dx k
    let base := (x.mseqTx + 4096 - x.unacked.length) % 4096
    let acked := (mack.val + 4096 - base) % 4096
    let s0 := if acked ≠ 0 ∧ acked ≤ x.unacked.length then
        ((s.modDrop k fun d => { d with unacked := d.unacked.drop acked, rounds := 0 }).modPort p fun y => { y with busyAt := s.now }).flushMgmt p a
      else s
    let s0 := s0.modDrop k fun d => { d with heardAt := s.now }
    let d := (mseq.val + 4096 - x.mseqRx) % 4096
    if b = .reset then fin (s0.takeMgmt p a b)
    else if d = 0 then fin (((s0.modDrop k fun y => { y with mseqRx := (y.mseqRx + 1) % 4096, protoErrs := 0 }).ackMgmt p a).takeMgmt p a b)
    else if d ≤ 63 then fin (s0.bump .PEN_CNT_MGMT_COUNT p)
    else if 4032 ≤ d then fin ((s0.bump .PEN_CNT_MGMT_COUNT p).ackMgmt p a)
    else
      let s1 := ((s0.bump .PEN_CNT_MGMT_COUNT p).raise .PEN_EVENT_MGMT_ERR p).modDrop k fun y => { y with protoErrs := y.protoErrs + 1 }
      fin (if 4 ≤ (s1.dx k).protoErrs then s1.restartChannel p a 1 else s1)

/-- MGMT_RESEND: 32 frames without acknowledgement: a resend round, from the oldest message not acknowledged; after 8 rounds without progress the channel
restarts instead (R75). -/
def execMgmtResend (p : PortIx) (a : Fin 65) (s : State) : Out :=
  let k := chanKey p a
  let d := s.dx k
  if d.unacked.isEmpty || !s.portUp p then fin s
  else if 8 ≤ d.rounds then fin (s.restartChannel p a 2)
  else
    fin (((s.bumpBy .PEN_CNT_MGMT_COUNT p d.unacked.length).modDrop k fun y => { y with rounds := y.rounds + 1 }).emitMgmt p a
      ((d.mseqTx + 4096 - d.unacked.length) % 4096) d.unacked)

/-! ### Low power (R87 to R89) -/

/-- The first three conditions of R87: no position or burst held, no message unacknowledged, no transition under way. -/
def State.portIdle (s : State) (p : Nat) : Bool :=
  s.portUp p && (s.positions p).isEmpty && (s.bursts p).isEmpty &&
  ((4096 + p) :: mnsOf p).all (fun k => (s.dx k).unacked.isEmpty && (s.dx k).queued.isEmpty) && (mnsOf p).all fun n => !s.on .MECH_STATE_BUSY n

/-- The port enters LOWPOWER and returns its LINK grant (R87). -/
def State.enterLowPower (s : State) (p : Nat) : State :=
  let s1 := ((s.portStep p 8).set .PEN_STATUS_LOCK p 0).raise .PEN_EVENT_LP_ENTER p
  (s1.forEach ((mnsOf p).filter fun n => s.mst n != 0) fun t n => t.modDrop n fun d => { d with safe := true }).returnLink p

/-- LOWPOWER_ENTRY: idle for IDLE_US (R87). -/
def execLowpowerEntry (p : PortIx) (s : State) : Out :=
  let long := decide ((s.px p).busyAt + us (s.get .PEN_LP_IDLE_US p) ≤ s.now)
  if s.on .PEN_CFG_LP_EN p && s.portIdle p && long then fin (s.enterLowPower p) else fin s

/-- SLEEP: PEN_CTRL.SLEEP enters LOWPOWER at once when the conditions hold (R87), on a port with LP_EN set (DEDUCED, notes/assumptions/93.md). -/
def execSleep (p : PortIx) (s : State) : Out := regCmd s fun s =>
  if s.on .PEN_CFG_LP_EN p && s.portIdle p then fin (s.enterLowPower p) else fin s

/-- PORT_WAKE: PEN_CTRL.WAKE, or work for a mechanism on the port (R88). -/
def execPortWake (p : PortIx) (s : State) : Out := regCmd s fun s => fin (s.wakePort p)

/-- PORT_WAKE_TIMEOUT: not locked 40 us after the grant: training from DETECT (R88). -/
def execPortWakeTimeout (p : PortIx) (s : State) : Out := if s.pstate p = 9 ∧ s.stepLate p then fin (s.startTraining p) else fin s

end Sys2Proof.Machine
end

