-- ==== Sys2Proof/Machine/Channel.lean ====
section
/-! DEFINITION. The signal processing of a Firn lane's read side, sample by sample and channel bit by channel bit (spec/08 R216 to R232): DC removal and
AGC, the defect detector, the equaliser, the oscillator and interpolator, the max-log-MAP detector and the sync marks. Filters that the manual names
without giving their coefficients are free (notes/assumptions/101.md). -/

namespace Sys2Proof.Machine

/-- A field of the configuration in force for a beam: register i of `beamCfg`. -/
def cfgField (x : BeamX) (i : Nat) (f : Fld) : Nat := bitsOf (x.cfg.getD i (f.reg.reset 0 0)) f.lo f.width

/-- The target amplitude A_T. -/
def aT (x : BeamX) : Nat := cfgField x 1 .FIRN_AGC_CFG_A_T

/-! ### Samples: defects, DC removal and AGC (R216, R217, R226) -/

/-- How many samples a channel bit is processed after its instant, so that a defect region that begins DEF_PRE bits before a flagged bit, or merges over
fewer than 64 bits, is known in time at every channel rate of R220 (DESIGN CHOICE, notes/assumptions/101.md). -/
def lag : Nat := 1440

/-- max z - min z over the last 16 samples (R226). -/
def spanOf (l : List Int) : Int := l.foldl max (l.headD 0) - l.foldl min (l.headD 0)

/-- The defect detector takes the newest sample, already in front of `z` (R226): E against E_nom, DROP_N samples in a row below the dropout threshold, or an
overshoot. -/
def flagSample (x : BeamX) (marked : Bool) : BeamX :=
  let e := spanOf (x.z.take 16)
  let full := decide (16 ≤ x.z.length)
  let isLow := full && decide (e * 2 ^ 23 < x.eNom * cfgField x 2 .FIRN_DEF_CFG_DROP_TH)
  let isOver := marked || (full && decide (x.eNom * cfgField x 2 .FIRN_DEF_CFG_OVER_TH < e * 2 ^ 23))
  let low := if isLow then x.low + 1 else 0
  let n := cfgField x 2 .FIRN_DEF_CFG_DROP_N
  let drop := decide (n ≤ low)
  { x with low := low
           flags := (if drop then List.replicate n true ++ x.flags.drop (n - 1) else isOver :: x.flags).take 8192
           clear := if drop || isOver then some 0 else x.clear.map (· + 1) }

/-- The newest sample lies in a defect region as far as it is known then: at most DEF_POST bits after a flagged sample. -/
def inRegion (x : BeamX) : Bool := match x.clear with
  | none => false
  | some c => decide (c * 2 ^ 28 ≤ cfgField x 2 .FIRN_DEF_CFG_DEF_POST * x.osc.delta)

/-- One sample of one beam (R216, R217): DC, gain, defect detector; in a defect region dc, g and E_nom are held. -/
def takeSample (x : BeamX) (smp : Nat) (ovld : Bool) : BeamX :=
  let v : Int := (smp : Int) - 128
  let y := v - roundShr x.dc 8
  let z := clampI (roundShr (y * x.g) 12) (-512) 511
  let x1 := flagSample { x with n := x.n + 1, z := (z :: x.z).take 2048, ys := (y :: x.ys).take 2048,
                                back := ((smp + if ovld then 256 else 0) :: x.back).take 8192 } (ovld || smp == 0 || smp == 255)
  let sh := if x.since < 4096 then cfgField x 1 .FIRN_AGC_CFG_AGC_SHIFT_ACQ else cfgField x 1 .FIRN_AGC_CFG_AGC_SHIFT_TRK
  let g2 := clampI (x.g + roundShr (x.g * ((cfgField x 1 .FIRN_AGC_CFG_AGC_TGT : Int) - z.natAbs)) sh) 1024 65535
  let dc2 := x.dc + roundShr (v * 256 - x.dc) (cfgField x 1 .FIRN_AGC_CFG_DC_SHIFT)
  let x2 := { x1 with since := x.since + 1, quiet := x.quiet + 1, osc := { x1.osc with next := x1.osc.next - 2 ^ 28 } }
  if inRegion x1 then x2
  else { x2 with dc := dc2, g := g2.toNat, eNom := if 16 ≤ x1.z.length then x.eNom + spanOf (x1.z.take 16) - roundShr x.eNom 16 else x.eNom }

/-! ### The equaliser (R218) -/

/-- Tap t of lane f (FIRN_TAP). -/
def State.tap (s : State) (f t : Nat) : Int := signed 16 (bitsOf (s.rd .FIRN_TAP f (t / 2)) (16 * (t % 2)) 16)

def State.setTap (s : State) (f t : Nat) (v : Int) : State :=
  s.wr .FIRN_TAP f (t / 2) (withBits (s.rd .FIRN_TAP f (t / 2)) (16 * (t % 2)) 16 (unsignedOf 16 v))

/-- The equaliser output of beam b (R218) from the inputs `z a j`, j samples back on beam a; in single-beam operation only path (0,0) is computed. -/
def State.equalise (s : State) (f b : Nat) (single : Bool) (z : Nat → Nat → Int) : Int :=
  let path := fun a => (List.range 15).foldl (fun acc j => acc + s.tap f ((4 * b + a) * 15 + j) * z a j) (0 : Int)
  let sum := if single then (if b = 0 then path 0 else 0) else (List.range 4).foldl (fun acc a => acc + path a) 0
  clampI (roundShr sum 14) (-2048) 2047

/-! ### The preamble tone (R221) -/

/-- The correlation of the last 32 samples with the tone at a quarter of the channel rate, in phase and in quadrature, in 2^-30 count. -/
def toneSum (z : List Int) (delta : Nat) : Int × Int :=
  (List.range 32).foldl (fun a j =>
    let w : Int := (j * (2 ^ 58 / max 1 delta) : Nat)
    (a.1 + z.getD j 0 * cosT w, a.2 + z.getD j 0 * sinT w)) (0, 0)

/-- The mean correlation over the window reaches AGC_TGT / 2. -/
def toneFound (x : BeamX) : Bool :=
  let c := toneSum x.z x.osc.delta
  let t : Int := cfgField x 1 .FIRN_AGC_CFG_AGC_TGT * 16 * 2 ^ 30
  decide (t * t ≤ c.1 * c.1 + c.2 * c.2)

/-- The zero-phase start: the next bit instant falls on the next peak of the tone, 7 samples later on the equaliser's output for its fixed centre tap. The
preamble is taken to have begun with the window. -/
def toneStart (x : BeamX) : BeamX :=
  let c := toneSum x.z x.osc.delta
  let toPeak := 2 ^ 32 - (angleOf c.1 c.2 % 2 ^ 32).toNat
  let next : Nat := toPeak * 4 * x.osc.delta / 2 ^ 32 + 7 * 2 ^ 28
  { x with osc := { x.osc with next := next, inState := 0, from_ := x.osc.k, hole := 0 }
           frm := { x.frm with start := (x.osc.k : Int) - (32 * 2 ^ 28 + next) / max 1 x.osc.delta, chain := false, taken := false, best1 := none, best2 := none } }

/-! ### Bit instants (R220, R226) -/

/-- The interpolator at an instant `d` before the newest sample, in 2^-28 samples, over outputs `q i`, i samples back: the four before it and the four
after, at the nearest of 64 phases. -/
def interpolate (q : Nat → Int) (d : Nat) : Int :=
  let ph := (d + 2 ^ 21) / 2 ^ 22
  roundShr ((List.range 8).foldl (fun a j => a + Config.interpTap (ph % 64) j * q (ph / 64 + j - 3)) 0) 14

/-- The instant `d` before the newest sample lies in a defect region: at most DEF_PRE bits before a flagged sample, at most DEF_POST bits after one, or
between regions less than 64 bits apart (R226). -/
def inHole (x : BeamX) (d : Nat) : Bool :=
  let i := (d + 2 ^ 27) / 2 ^ 28
  let pre := cfgField x 2 .FIRN_DEF_CFG_DEF_PRE
  let post := cfgField x 2 .FIRN_DEF_CFG_DEF_POST
  let within := fun (n bits : Nat) => decide (n * 2 ^ 28 ≤ bits * x.osc.delta)
  match ((x.flags.take (i + 1)).reverse.findIdx? id), ((x.flags.drop i).findIdx? id) with
  | some a, some p => within a pre || within p post || decide ((a + p) * 2 ^ 28 < (pre + post + 64) * x.osc.delta)
  | some a, none => within a pre
  | none, some p => within p post
  | none, none => false

/-- The level d of the PR(1,2,2,1) target for four decisions, newest first (R219). -/
def targetOf (a : Nat) (l : List Int) : Int := (a : Int) * (l.getD 0 0 + 2 * l.getD 1 0 + 2 * l.getD 2 0 + l.getD 3 0)

/-- The mean of the last n values as a sum and a count. -/
def meanOf (l : List Nat) (n : Nat) : Nat × Nat := ((l.take n).foldl (· + ·) 0, min n l.length)

/-! ### The detector (R225) -/

/-- A decision bit as an amplitude. -/
def ampl (v : Nat) : Int := if v % 2 = 1 then 1 else -1

/-- The level for bit a after state p: the last three bits, the newest lowest. -/
def levelOf (at_ a p : Nat) : Int := targetOf at_ [ampl a, ampl p, ampl (p / 2), ampl (p / 4)]

/-- The least of some metrics; a state that is left out is none. -/
def leastOf (l : List (Option Int)) : Option Int :=
  l.foldl (fun a b => match a, b with
    | some x, some y => some (min x y)
    | none, y => y
    | x, none => x) none

/-- The states of the trellis: 8, or the 6 that the d = 1 constraint keeps in BD mode (R240). -/
def stateKept (bd : Bool) (p : Nat) : Bool := !bd || (p != 2 && p != 5)

def branch (at_ : Nat) (r : Int) (a p : Nat) : Int := (r - levelOf at_ a p) * (r - levelOf at_ a p)

/-- One step forward: the best metric into each state. -/
def trellisFwd (at_ : Nat) (bd : Bool) (m : List (Option Int)) (r : Int) : List (Option Int) :=
  (List.range 8).map fun t =>
    if stateKept bd t then leastOf ([t / 2, t / 2 + 4].map fun p => (m.getD p none).map (· + branch at_ r (t % 2) p)) else none

/-- One step backward: the best metric from each state on. -/
def trellisBwd (at_ : Nat) (bd : Bool) (r : Int) (m : List (Option Int)) : List (Option Int) :=
  (List.range 8).map fun p =>
    if stateKept bd p then leastOf ([0, 1].map fun a => (m.getD ((2 * p + a) % 8) none).map (· + branch at_ r a p)) else none

/-- Every state of the trellis at metric 0. -/
def trellisStart (bd : Bool) : List (Option Int) := (List.range 8).map fun p => if stateKept bd p then some 0 else none

/-- M1 - M0 of each bit of a window, with run-in before and after it (R225). `l` is the window and what follows. -/
def windowGo (at_ : Nat) (bd : Bool) : Nat → List Int → List (Option Int) → List Int
  | 0, _, _ => []
  | _, [], _ => []
  | n + 1, r :: l, m =>
    let after := l.foldr (trellisBwd at_ bd) (trellisStart bd)
    let best := fun a => (leastOf ((List.range 8).map fun p => match m.getD p none, after.getD ((2 * p + a) % 8) none with
      | some x, some y => some (x + branch at_ r a p + y)
      | _, _ => none)).getD 0
    (best 1 - best 0) :: windowGo at_ bd n l (trellisFwd at_ bd m r)

/-- The soft values M1 - M0 of a window of r values between its run-ins. -/
def softWindow (at_ : Nat) (bd : Bool) (pre win post : List Int) : List Int :=
  windowGo at_ bd win.length (win ++ post) (pre.foldl (trellisFwd at_ bd) (trellisStart bd))

/-- L of a bit (R225): (M1 - M0) / 2 σ², scaled and clamped; σ² is the mean ε² over the last 1,024 bits, never less than 1. -/
def llrOf (x : BeamX) (m : Int) : Int :=
  let e := meanOf x.osc.eps 1024
  clampI (roundDiv (m * 2 ^ cfgField x 3 .FIRN_SYNC_CFG_LLR_FRAC * max 1 e.2) (2 * max (max 1 e.2) e.1)) (-31) 31

/-- The LLRs of the 64 bits that now have their run-in on both sides (R225), appended to the beam's. -/
def detectWindow (bd : Bool) (x : BeamX) : BeamX :=
  if x.osc.k < 96 ∨ x.osc.k % 64 ≠ 32 then x
  else
    let l := (x.osc.bits.take 128).reverse
    let l := if x.osc.k = 96 then List.replicate 32 { r := 0, at_ := 0, hole := true } ++ l else l
    let pre := if x.osc.k = 96 then [] else (l.take 32).map (·.r)
    let win := (l.drop 32).take 64
    let m := softWindow (aT x) bd pre (win.map (·.r)) ((l.drop 96).map (·.r))
    let new := (win.zip m).map fun e => if e.1.hole then ((0 : Int), true) else (llrOf x e.2, false)
    { x with frm := { x.frm with llrs := (new.reverse ++ x.frm.llrs).take 40000 } }

/-! ### Codewords (R227, R231, R251) -/

/-- The PRBS x^23 + x^18 + 1 from a register of all ones: n bits, each the register's last stage (R251). -/
def prbsGo : Nat → Nat → List Nat
  | 0, _ => []
  | n + 1, r => r / 2 ^ 22 % 2 :: prbsGo n ((r * 2 + Nat.xor (r / 2 ^ 22 % 2) (r / 2 ^ 17 % 2)) % 2 ^ 23)

def prbs (n : Nat) : List Nat := prbsGo n (2 ^ 23 - 1)

/-- The LLR of absolute bit i, with whether it was zeroed: the newest of `llrs` is that of the last bit whose window is done. -/
def llrAt (x : BeamX) (i : Int) : Int × Bool :=
  let done : Int := ((x.osc.k - 32) / 64 * 64 : Nat)
  if 0 ≤ i ∧ i < done then x.frm.llrs.getD (done - 1 - i).toNat (0, true) else (0, true)

/-- Frame bit of codeword bit c (spec/08 "HAF disc frame"). -/
def frameBit (c : Nat) : Nat := if c < 976 then 368 + c else 416 + c

/-- The first n LLRs of the frame's codeword; those of data part A from backward recovery where it gave them (R229, R230). -/
def codewordLlrs (x : BeamX) (n : Nat) : List (Int × Bool) :=
  (List.range n).map fun c => if c < x.frm.partA.length then x.frm.partA.getD c (0, true) else llrAt x (x.frm.start + frameBit c)

/-- Z and the erasure map of a codeword (R227). -/
def zeroed (l : List (Int × Bool)) : Nat × Nat :=
  ((l.filter (·.2)).length, (List.range 144).foldl (fun a c => a + if ((l.drop (256 * c)).take 256).any (·.2) then 2 ^ c else 0) 0)

/-- The address of a frame whose address check passes (R231, R251): layer, cluster and frame. -/
def addressOf (x : BeamX) : Option (Nat × Nat × Nat) :=
  let hard := ((codewordLlrs x 128).zip (prbs 128)).map fun e => ((if e.1.1 < 0 then 1 else 0) + e.2) % 2
  let b := (List.range 16).map fun k => (List.range 8).foldl (fun a i => a * 2 + hard.getD (8 * k + i) 0) 0
  if crc32c (b.take 12) = leAt b 12 4 then
    let w := leAt b 0 4
    some (w / 2 ^ 25 % 16, w % 2 ^ 20, w / 2 ^ 20 % 32)
  else none

/-! ### Sync marks (R228) -/

/-- Sync mark 1; sync mark 2 is its complement. -/
def sm1 : Nat := 0xE2F07C1D8B3E
def sm2 : Nat := 2 ^ 48 - 1 - sm1

/-- The Hamming distance of the last 48 decisions, newest first, from a mark recorded most significant bit first; a bit inside a defect region counts. -/
def markDistance (mark : Nat) (l : List (Int × Bool)) : Nat :=
  (List.range 48).foldl (fun a i =>
    let e := l.getD i (0, true)
    a + if e.2 ∨ (if e.1 = 1 then 1 else 0) ≠ mark / 2 ^ i % 2 then 1 else 0) 0

/-- The better of two candidates: the least distance, the earliest on a tie. -/
def betterMark (old : Option (Int × Nat)) (start : Int) (d : Nat) : Option (Int × Nat) := match old with
  | some o => if d < o.2 then some (start, d) else some o
  | none => some (start, d)

/-- The decisions of the newest decided bit, index j, may complete a mark: within SYNC_WIN bits of its predicted position in TRACK, anywhere since the
acquisition began otherwise (R228). `track` is whether the beam is in TRACK, or in a HOLD out of it. -/
def markStep (x : BeamX) (track : Bool) (j : Nat) : BeamX :=
  let start : Int := (j : Int) - 47
  let tol := cfgField x 3 .FIRN_SYNC_CFG_SYNC_TOL
  let win := cfgField x 3 .FIRN_SYNC_CFG_SYNC_WIN
  let near := fun (pos : Int) => !(track && x.frm.chain) || decide ((start - (x.frm.start + pos)).natAbs ≤ win)
  let put := fun (old : Option (Int × Nat)) (mark : Nat) (pos : Int) =>
    let d := markDistance mark x.osc.dec
    if d ≤ tol ∧ near pos ∧ (x.osc.from_ : Int) ≤ start then betterMark old start d else old
  { x with frm := { x.frm with best1 := put x.frm.best1 sm1 320, best2 := put x.frm.best2 sm2 1344 } }

/-! ### RF amplitude (R232) -/

/-- The sample that `lag` samples have followed joins the running windows of the frame and of a calibration run; a window that touches a defect region, the
preamble or a sync mark is left out. In the read-back of an OPC a segment has one sync mark (R197). -/
def ampStep (x : BeamX) (timed opc : Bool) : BeamX :=
  let y := x.ys.getD lag 0
  let pos := (x.osc.k : Int) - x.frm.start
  let bad := !timed || inHole x (lag * 2 ^ 28) || decide (pos < 368) || (!opc && decide (1344 ≤ pos) && decide (pos < 1392))
  { x with amp := windowStep x.amp y bad, meas := windowStep x.meas y bad }

end Sys2Proof.Machine
end

