-- ==== Sys2Proof/Machine/Lanes.lean ====
section
/-! DEFINITION. Binding, migration, faults and tests of Firn lanes, RF bursts and the write side: the commands of spec/08_firn_channel.md. -/

namespace Sys2Proof.Machine

/-! ### Binding and release (R209 to R211) -/

/-- LANE_BIND: mechanism mn needs a lane, `own` for an access of the device's own (R209). -/
def execLaneBind (mn : Mn) (own : Bool) (s : State) : Out :=
  if (s.mst mn = 6 ∨ s.mst mn = 7) ∧ (own ∨ s.laneWork mn) then fin (s.askLane mn own) else fin s

/-- LANE_IDLE_RELEASE: IDLE_HOLD_US has passed since the last work (R211). -/
def execLaneIdleRelease (mn : Mn) (s : State) : Out :=
  if (s.laneOf mn).isSome ∧ ¬ s.laneHeld mn ∧ (s.mx mn).ioEnd + s.get .FIRN_GCFG_IDLE_HOLD_US * 1000 ≤ s.now then fin (s.backToTracking mn) else fin s

/-! ### Where a write run stands; its stop (R233, R239) -/

/-- Channel bits of the block of an OPC (R197). -/
def opcBits : Nat := 298752
def opcSegment : Nat := 27136

/-- The bit that lies at a disc angle past the first bit of a run, in 2^-16 bit: one start sweeps 50 nm x 640 nm to a bit on HAF media (R246); on BD media the
bit length of the disc counts along the turn. -/
def State.bitAtAngle (s : State) (n : Nat) (r0 : Nat) (a : Int) : Int :=
  if isBd (s.get .MECH_DISC_MEDIA n) then 2 * 31415926536 * r0 * a * 1000 * 2 ^ 16 / (10 ^ 10 * 2 ^ 56 * max 1 (s.disc n).bdBit)
  else 31415926536 * a * (2 * r0 * 2 ^ 8 + 640 * a) / (10 ^ 10 * 50 * 2 ^ 48)

/-- The run brought up to the present profile angle. -/
def State.turnRun (s : State) (n : Nat) (r : RunX) : RunX :=
  let th := s.get .CIRQ_ANGLE_THETA (s.clusterOf n) (s.slotOf n)
  { r with ang := r.ang + signed 32 (th + 2 ^ 32 - r.theta), theta := th }

/-- The angle of a run at an instant in 1/17 ns: θ of the last sample, and the observer's speed since. -/
def State.runAngleAt (s : State) (n : Nat) (r : RunX) (t17 : Nat) : Int :=
  r.ang + (s.sx n).spin.omega * 65536 * ((t17 : Int) - (s.sx n).thetaAt) / 17000000000 / poles (s.lx n 7).active

/-- The bit position of a run at an instant in 1/17 ns, in 2^-16 bit. -/
def State.runBitAt (s : State) (n : Nat) (r : RunX) (t17 : Nat) : Int := s.bitAtAngle n r.r0 (s.runAngleAt n (s.turnRun n r) t17)

/-- The channel bits of a frame of a run: of a HAF frame, of a segment of an OPC; none on BD media, whose frames the format defines. -/
def State.frameBits (s : State) (n : Nat) (r : RunX) : Option Nat :=
  if r.opc.isSome then some opcSegment else if isBd (s.get .MECH_DISC_MEDIA n) then none else some 37344

/-- A write stop request on lane f (R239): each beam completes its current frame, guard included, or stops 100 us after the request, whichever comes
first. The four beams of a run stand at the same bit of their frames (R233). -/
def State.stopRun (s : State) (f : Nat) : State :=
  let n := s.get .FIRN_STATUS_MN f
  match (s.lane f).run with
  | none => s
  | some r =>
    if !s.on .FIRN_STATUS_WRITE f || (s.lane f).stopAt.isSome then s
    else
      let late := s.runBitAt n r (17 * (s.now + 100000)) / 65536
      let stop := match s.frameBits n r with
        | none => late
        | some k => min late ((max 0 (s.runBitAt n r (17 * s.now)) / 65536 / k + 1) * k)
      s.modLane f fun x => { x with stopAt := some s.now, run := some { r with stop := some stop, rest := s.host.wbuf.find? fun w => w.id == r.wb } }

/-- A run that is to stop has reached the bit at which its beams emit L0. -/
def State.runStopped (s : State) (n : Nat) (r : RunX) : Bool :=
  match r.stop with
  | none => false
  | some k => decide (k * 65536 ≤ s.bitAtAngle n r.r0 (s.turnRun n r).ang)

/-! ### Migration (R212) -/

/-- FIRN_LANE_STAT of a command. -/
def State.laneStat (s : State) (lane res : Nat) : State := (s.set0 .FIRN_LANE_STAT_FROM lane).set0 .FIRN_LANE_STAT_RESULT res

/-- HAF clusters of the write run of lane f that have passed under the head. -/
def State.clustersPast (s : State) (f : Nat) : Nat :=
  let n := s.get .FIRN_STATUS_MN f
  match (s.lane f).run with
  | none => 0
  | some r => (s.bitAtAngle n r.r0 (s.turnRun n r).ang / (65536 * 298752)).toNat

/-- The target of the migration from lane f may take over (R212): on a write at the next cluster boundary, on a read once the first frame of a new cluster
has gone to it on each beam and the source has completed the frames that it had begun; where no cluster is being read, at once. -/
def State.migrationReady (s : State) (f g : Nat) : Bool :=
  let n := s.get .FIRN_STATUS_MN f
  if s.on .FIRN_STATUS_WRITE f then decide ((s.lane f).migAt < s.clustersPast f) || ((s.lane f).run.any fun r => r.stop.isSome)
  else
    !(s.chan.cws.any fun w => w.lane == f && w.place == .assembling) &&
      ((s.lane f).passing.isNone || (List.range 4).all fun b => bitAt (s.beamSet n) b == 0 || (s.beam g b).took)

/-- A planned migration from lane f to lane g begins: both ends receive the burst, the target's beams search. -/
def State.startMigration (s : State) (f g after : Nat) : State :=
  let n := s.get .FIRN_STATUS_MN f
  let s1 := (s.set .FIRN_STATUS_LSTATE f 2).modLane f fun x => { x with migTo := some g, after := after, migAt := s.clustersPast f }
  let s2 := ((((s1.set .FIRN_STATUS_LSTATE g 2).set .FIRN_STATUS_VALID g 1).set .FIRN_STATUS_MN g n).set .FIRN_STATUS_BD g
    (s.get .FIRN_STATUS_BD f)).modLane g fun x => { x with migFrom := some f, own := (s.lane f).own, stopAt := none,
                                                           bank := (s.lane f).bank, levels := (s.lane f).levels, bankNext := none }
  (s2.loadTaps g n).startBeams g n

/-- LANE_MIGRATE: FIRN_LANE_CMD OP 1. -/
def execLaneMigrate (lane : Fin 512) (s : State) : Out := regCmd s fun s =>
  if 271 < lane.val then fin s
  else if s.on .FIRN_LANE_STAT_BUSY then fin (s.laneStat lane 3)
  else if s.get .FIRN_STATUS_LSTATE lane ≠ 1 then fin (s.laneStat lane 2)
  else match s.freeLane with
    | none => fin (s.laneStat lane 1)
    | some g => fin ((((s.laneStat lane 0).set0 .FIRN_LANE_STAT_TO g).set0 .FIRN_LANE_STAT_BUSY 1).startMigration lane g 0)

/-- A command of FIRN_LANE_CMD on lane f ends with a RESULT, if it is one that runs. -/
def State.laneCmdDone (s : State) (f res : Nat) : State :=
  if s.on .FIRN_LANE_STAT_BUSY && s.get .FIRN_LANE_STAT_FROM == f then
    (s.set0 .FIRN_LANE_STAT_BUSY 0).set0 .FIRN_LANE_STAT_RESULT res
  else s

/-- Put a lane under test (R214, R484); `op` says why. -/
def State.testLane (s : State) (f op : Nat) : State :=
  ((s.set .FIRN_STATUS_LSTATE f 3).modLane f fun x => { x with testOp := op }).requestTest 2 f

/-- The lane that a mechanism has left takes its next role: FREE, under BIST, or loading a program. -/
def State.leftLane (s : State) (f : Nat) : State :=
  let after := (s.lane f).after
  let s1 := s.freeLaneRegs f
  if after = 3 then s1.testLane f 4 else if after = 4 then s1.set .FIRN_STATUS_LSTATE f 4 else s1

/-- The target of a migration takes ovr (R212): MECH_SERVO.LANE changes, the source is released. -/
def State.switchMigration (s : State) (f g : Nat) (store : Bool) : State :=
  let n := s.get .FIRN_STATUS_MN f
  let w := s.get .FIRN_STATUS_WRITE f
  let s0 := if store then s.storeTaps f n else s
  let s1' := ((s0.set .FIRN_STATUS_LSTATE g 1).set .FIRN_STATUS_WRITE g w).modLane g fun x => { x with migFrom := none, passing := (s.lane f).passing, run := (s.lane f).run }
  let s1 := if w = 1 then s1'.forEach (List.range 4) (fun t b => if t.get .FIRN_BEAM_TSTATE g b = 6 then t else t.set2 .FIRN_BEAM_TSTATE g b 7) else s1'
  let s2 := ((s1.set .MECH_SERVO_LANE n g).raise .FIRN_EVENT_MIGRATED g).bump .FIRN_CNT_MIGRATIONS g
  (((s2.leftLane f).raise .FIRN_EVENT_MIGRATED f).bump .FIRN_CNT_MIGRATIONS f).laneCmdDone f 0

/-- MIGRATION_SWITCH: the HAF cluster boundary at which lane f's target takes ovr. -/
def execMigrationSwitch (f : LaneIx) (s : State) : Out :=
  match (s.lane f).migTo with
  | none => fin s
  | some g => if s.migrationReady f g then fin (s.switchMigration f g true) else fin s

/-! ### Sectors of a cluster being read (R269) -/

/-- The cluster being read that a frame belongs to. -/
def State.readOf (s : State) (n layer cluster : Nat) : Option ClusterRead :=
  s.chan.reads.find? fun r => r.mn == n && r.layer == layer && r.cluster == cluster

/-- Change a cluster being read. -/
def State.modRead (s : State) (n layer cluster : Nat) (f : ClusterRead → ClusterRead) : State :=
  s.modChan fun c => { c with reads := c.reads.map fun r => if r.mn = n ∧ r.layer = layer ∧ r.cluster = cluster then f r else r }

/-- The verdict of one sector; a sector already resolved is kept (R270). -/
def State.verdict (s : State) (n layer cluster frame : Nat) (v : SectorX) : State :=
  s.modRead n layer cluster fun r => match r.sectors.getD frame .pending with
    | .good _ => r
    | _ => { r with sectors := r.sectors.set frame v }

/-! ### Faults and tests (R213, R214) -/

/-- The target of a migration faults: the migration is abandoned and the source serves on. -/
def State.dropTarget (s : State) (f g : Nat) : State :=
  (((s.set .FIRN_STATUS_LSTATE f 1).modLane f fun x => { x with migTo := none, after := 0 }).dropAssembling g).laneCmdDone f 2

/-- Every frame that a faulted lane has begun and not delivered is dropped; its sector is missing, so that it is read again (R213, R270). -/
def State.dropBegun (s : State) (f : Nat) : State :=
  (s.forEach (s.chan.cws.filter fun w => w.lane == f && w.place == .assembling) fun t w => t.verdict w.mn w.layer w.cluster w.frame .lost).dropAssembling f

/-- The mechanism of a faulted lane moves to the lowest-numbered FREE lane, or waits (R213). The new lane, if there is one. -/
def State.rebindAfterFault (s : State) (f n : Nat) : State × Option Nat :=
  let own := (s.lane f).own
  let s1 := ((s.endWrite f).dropBegun f).freeLaneRegs f
  let s2 := (s1.set .MECH_SERVO_LANE_VALID n 0).set .MECH_SERVO_LANE n 0
  match (List.range 272).find? fun g => g != f && s2.get .FIRN_STATUS_LSTATE g == 0 with
  | some g => (s2.bindLane g n own, some g)
  | none =>
    let s3 := if s2.mst n = 7 then s2.enterState n 6 else s2
    (s3.modChan fun c => { c with laneWait := c.laneWait ++ [n] }, none)

/-- Lane f faults; `detail` is what its log entry says of the cause (R213). -/
def State.laneFault (s : State) (f detail : Nat) : State :=
  let st := s.get .FIRN_STATUS_LSTATE f
  if 2 < st then s
  else
    let s1 := ((s.raise .FIRN_EVENT_FAULT f).bump .FIRN_CNT_FAULTS f).modLane f fun x => { x with faults := x.faults + 1 }
    let x := s1.lane f
    let n := s1.get .FIRN_STATUS_MN f
    let r : State × Option Nat :=
      if st = 0 then (s1, none)
      else match x.migFrom, x.migTo with
        | some g, _ => ((s1.dropTarget g f).freeLaneRegs f, some g)
        | none, some g =>
          let framed := (List.range 4).any fun b => (s1.beam g b).framed
          let s2 := ((s1.endWrite f).dropBegun f).switchMigration f g false
          (if framed then s2 else s2.startBeams g n, some g)
        | none, none => s1.rebindAfterFault f n
    let s2 := r.1.logEntry { cls := 6, code := 1, sev := 1, mn := if st = 0 then 0xFFFF else n, unit := f, detail0 := detail,
                             detail1 := r.2.getD 0xFFFF }
    s2.testLane f 0

/-- Beam b of lane f has made no framing decision for four frame times at its channel rate while its RF arrived (R213); none is due on BD media, in the
read-back of an OPC and while it does not read. -/
def State.framingSilent (s : State) (f b : Nat) : Bool :=
  let x := s.beam f b
  !s.on .FIRN_STATUS_BD f && !(s.lane f).opcRead && s.get .FIRN_BEAM_TSTATE f b < 6 && decide (4 * 37344 * x.osc.delta ≤ x.quiet * 2 ^ 28)

/-- LANE_FAULT: cause 0 buffer, 1 parity, 2 framing (R213, R242). -/
def execLaneFault (f : LaneIx) (cause : Fin 3) (s : State) : Out :=
  if cause = 2 ∧ ¬ (List.range 4).any (s.framingSilent f) then fin s else fin (s.laneFault f (cause.val + 1))

/-- LANE_TEST: FIRN_LANE_CMD OP 2. -/
def execLaneTest (lane : Fin 512) (s : State) : Out := regCmd s fun s =>
  if 271 < lane.val then fin s
  else if s.on .FIRN_LANE_STAT_BUSY then fin (s.laneStat lane 3)
  else if s.get .FIRN_STATUS_LSTATE lane ≠ 0 then fin (s.laneStat lane 2)
  else fin (((s.laneStat lane 0).set0 .FIRN_LANE_STAT_BUSY 1).testLane lane 2)

/-- LANE_RETEST: FIRN_LANE_CMD OP 3. -/
def execLaneRetest (lane : Fin 512) (s : State) : Out := regCmd s fun s =>
  if 271 < lane.val then fin s
  else if s.on .FIRN_LANE_STAT_BUSY then fin (s.laneStat lane 3)
  else if s.get .FIRN_STATUS_LSTATE lane ≠ 5 then fin (s.laneStat lane 2)
  else fin (((s.laneStat lane 0).set0 .FIRN_LANE_STAT_BUSY 1).testLane lane 3)

/-- The test of lane f ends (R214). -/
def State.laneTestEnd (s : State) (f : Nat) (pass : Bool) : State :=
  let x := s.lane f
  let n := if pass ∧ x.testOp = 3 then 0 else x.faults
  let lim := s.get .FIRN_GCFG_FAULT_LIMIT
  let s1 := ((s.returnBist 2 f).set .FIRN_STATUS_LAST_TEST f (if pass then 1 else 2)).raise
    (if pass then .FIRN_EVENT_TEST_PASS else .FIRN_EVENT_TEST_FAIL) f
  let s2' := s1.modLane f fun y => { y with faults := n, testOp := 0 }
  let s2 := if pass ∧ x.testOp = 3 then s2'.loadProgram .FIRN_PROG_VERSION f (·.laneProg) else s2'
  let s3 :=
    if pass && !(decide (lim ≠ 0) && decide (lim ≤ n)) then s2.set .FIRN_STATUS_LSTATE f 0
    else ((s2.set .FIRN_STATUS_LSTATE f 5).raise .FIRN_EVENT_OOS f).logEntry { cls := 6, code := 2, sev := 3, unit := f, detail0 := n }
  if x.testOp = 2 ∨ x.testOp = 3 then s3.laneCmdDone f (if pass then 0 else 4) else s3

/-- LANE_TEST_DONE. -/
def execLaneTestDone (f : LaneIx) (pass : Bool) (s : State) : Out :=
  if s.get .FIRN_STATUS_LSTATE f = 3 && !s.underBist 2 f then fin (s.laneTestEnd f pass) else fin s

/-! ### RF bursts (R216 to R232) -/

/-- Tap adaptation at a bit instant (R219): `eps` is r - d, `back` the samples since the one nearest the instant. -/
def State.adapt (s : State) (f b : Nat) (eps : Int) (back : Nat) : State :=
  let mu := cfgField (s.beam f b) 0 .FIRN_RD_CFG_MU
  let paths := if s.singleBeam (s.get .FIRN_STATUS_MN f) then [0] else List.range 4
  s.forEach paths fun t a => t.forEach (List.range 15) fun u j =>
    if a = b ∧ j = 7 then u
    else u.setTap f ((4 * b + a) * 15 + j) (sat16 (u.tap f ((4 * b + a) * 15 + j) - roundShr (eps * (s.beam f a).z.getD (back + j) 0) mu))

/-- A frame or codeword is erased. -/
def State.eraseFrame (s : State) (f layer cluster frame : Nat) : State :=
  ((s.bump .FIRN_CNT_ERASED_COUNT f).raise .FIRN_EVENT_ERASED f).verdict (s.get .FIRN_STATUS_MN f) layer cluster frame .lost

/-- The frame that beam b was to frame is erased, and the beam searches (R222, R229). -/
def State.eraseSearch (s : State) (f b : Nat) : State :=
  let s1 := match (s.beam f b).frm.place, (s.lane f).passing with
    | some q, _ => s.eraseFrame f q.1 q.2.1 (4 * q.2.2 + b)
    | none, some q => s.eraseFrame f q.1 q.2.1 (4 * q.2.2 + b)
    | none, none => (s.bump .FIRN_CNT_ERASED_COUNT f).raise .FIRN_EVENT_ERASED f
  s1.enterSearch f b

/-- A framed codeword starts to be assembled; without a free ring entry it is not (R256, R257). In a migration the target takes a beam over at its first
frame of a new cluster, and the source begins no frame of that beam from there on (R212). -/
def State.startCodeword (s1 : State) (f b layer cluster frame : Nat) (fromSm2 : Bool) : State :=
  let s := if (s1.lane f).migFrom.isSome && frame / 4 == 0 then s1.modBeam f b fun x => { x with took := true } else s1
  let n := s.get .FIRN_STATUS_MN f
  let used := (s.chan.cws.filter fun w => w.mn == n && w.beam == b && (w.place == .assembling || w.place == .ready)).length
  if ((s.lane f).migFrom.isSome && !(s.beam f b).took) || ((s.lane f).migTo.any fun g => (s.beam g b).took) then s
  else if 2 ≤ used then
    ((s.bump .MOR_CNT_OVERFLOW_COUNT).raise .MOR_EVENT_OVERFLOW).verdict n layer cluster frame .lost
  else
    let reread := match s.readOf n layer cluster with | some r => decide (0 < r.revs) | none => false
    let w : Codeword := { id := s.chan.nextCw, mn := n, lane := f, beam := b, layer := layer, frame := frame, cluster := cluster,
                          flags := b2n fromSm2 + 2 * b2n reread, matrix := (s.disc n).matrix, set := if reread then 3 else 0 }
    s.modChan fun c => { c with cws := c.cws ++ [w], nextCw := c.nextCw + 1 }

/-- Backward recovery of data part A from sync mark 2 at absolute bit `m2` (R230): z formed again from the stored samples with each beam's present dc and g,
the equaliser with its present taps, the oscillator run back at the present step, the detector over the 1,024 bits of SM1 and data part A; below
57 Mbit/s every LLR is 0. The time-reversed trellis has the same path metrics as the forward one. -/
def State.backward (s : State) (f b : Nat) (m2 : Int) : List (Int × Bool) :=
  let x := s.beam f b
  if s.get .FIRN_BEAM_RATE f b < 57 then List.replicate 976 (0, true)
  else
    let bd := s.on .FIRN_STATUS_BD f
    let single := s.singleBeam (s.get .FIRN_STATUS_MN f)
    let z := fun (a j : Nat) =>
      let y := s.beam f a
      clampI (roundShr (((y.back.getD j 128 % 256 : Nat) - 128 - roundShr y.dc 8) * y.g) 12) (-512) 511
    let q := fun (i : Nat) => s.equalise f b single fun a j => z a (i + j)
    let d0 := x.n * 2 ^ 28 - (x.osc.bits.getD ((x.osc.k : Int) - 1 - m2).toNat { r := 0, at_ := 0, hole := true }).at_
    let at_ := (List.range 1024).map fun i => d0 + (1024 - i) * x.osc.delta
    let rs := at_.map (interpolate q)
    let soft := (List.range 16).flatMap fun w =>
      softWindow (aT x) bd ((rs.take (64 * w)).drop (64 * w - 32)) ((rs.drop (64 * w)).take 64) ((rs.drop (64 * w + 64)).take 32)
    (((at_.zip soft).map fun e => if inHole x e.1 then ((0 : Int), true) else (llrOf x e.2, false)).drop 48)

/-- The place that follows on a beam: 8 frame positions to a cluster (R246). -/
def nextPlace (q : Nat × Nat × Nat) : Nat × Nat × Nat := if q.2.2 < 7 then (q.1, q.2.1, q.2.2 + 1) else (q.1, q.2.1 + 1, 0)

/-- Beam b frames a frame that begins at bit `start`, by a mark or at its predicted position, from SM2 or not (R229). The frame's place is that of its
address when the address check passes (R231), else the one after the previous frame's, else the one that the wobble gives. -/
def State.takeFrame (s : State) (f b : Nat) (start : Int) (fromSm2 byMark : Bool) : State :=
  let partA := if fromSm2 then s.backward f b (start + 1344) else []
  let s1 := (s.bump .FIRN_CNT_FRAME_COUNT f).modBeam f b fun x =>
    { x with framed := byMark, frm := { x.frm with start := start, chain := true, taken := true, best1 := none, best2 := none, partA := partA } }
  let s2 := if fromSm2 then (s1.bump .FIRN_CNT_FALLBACK_COUNT f).raise .FIRN_EVENT_FALLBACK f else s1
  let x := s2.beam f b
  let read := match addressOf x with
    | some a => if a.2.2 % 4 = b then some (a.1, a.2.1, a.2.2 / 4) else none
    | none => none
  let place := match read, x.frm.place with
    | some q, _ => some q
    | none, some q => some q
    | none, none => (s2.lane f).passing
  let s3 := (s2.modBeam f b fun y => { y with frm := { y.frm with place := place } }).modLane f fun l => { l with passing := place }
  match place with
  | some q => s3.startCodeword f b q.1 q.2.1 (4 * q.2.2 + b) fromSm2
  | none => (s3.bump .FIRN_CNT_ERASED_COUNT f).raise .FIRN_EVENT_ERASED f

/-- The framing decision of one frame, when its SM2 window closes (R222, R229). -/
def State.frameSync (s0 : State) (f b : Nat) : State :=
  let s := s0.modBeam f b fun x => { x with quiet := 0 }
  let x := s.beam f b
  let st := if s.get .FIRN_BEAM_TSTATE f b = 4 then x.held else s.get .FIRN_BEAM_TSTATE f b
  if st = 5 then s.eraseSearch f b
  else match x.frm.best1, x.frm.best2 with
    | some a, some c => if 2 < (c.1 - a.1 - 1024).natAbs ∧ c.2 < a.2 then s.takeFrame f b (c.1 - 1344) true true else s.takeFrame f b (a.1 - 320) false true
    | some a, none => s.takeFrame f b (a.1 - 320) false true
    | none, some c => s.takeFrame f b (c.1 - 1344) true true
    | none, none => if st = 3 ∧ x.framed then s.takeFrame f b x.frm.start false false else s.eraseSearch f b

/-- The last LLR of the frame that beam b assembles: READY, or erased when Z is above ERASE_MAX (R225, R227). -/
def State.lastLlr (s : State) (f b : Nat) : State :=
  match s.chan.cws.find? fun w => w.lane == f && w.beam == b && w.place == .assembling with
  | none => s
  | some w =>
    let l := codewordLlrs (s.beam f b) 36864
    let z := zeroed l
    if cfgField (s.beam f b) 3 .FIRN_SYNC_CFG_ERASE_MAX < z.1 then
      (s.modChan fun c => { c with cws := c.cws.filter fun v => v.id != w.id }).eraseFrame f w.layer w.cluster w.frame
    else
      s.modChan fun c => { c with cws := c.cws.map fun v =>
        if v.id = w.id then { v with z := z.1, emap := z.2, llrs := l.map (·.1), place := .ready, time := s.now } else v }

/-- A framed frame ends: its codeword is complete, AMP shows its amplitude, and the next frame is predicted (R227, R228, R232). -/
def State.endFrame (s : State) (f b : Nat) : State :=
  let a := (s.beam f b).amp
  let s1 := s.lastLlr f b
  let s2 := if a.count = 0 then s1 else s1.set2 .FIRN_AGC_AMP f b (min (amplitude a) 0xFFFF)
  s2.modBeam f b fun x => { x with amp := {}, frm := { x.frm with start := x.frm.start + 37344, taken := false, partA := [], place := x.frm.place.map nextPlace } }

/-- A defect region begins, runs on or ends at the newest bit (R223). -/
def State.regionStep (s : State) (f b : Nat) (hole : Bool) : State :=
  let x := s.beam f b
  let st := s.get .FIRN_BEAM_TSTATE f b
  let o := x.osc.hole
  if hole then
    let s1 := s.modBeam f b fun y => { y with osc := { y.osc with hole := o + 1 } }
    if o = 0 then
      let s2 := s1.bump .FIRN_CNT_DEFECT_COUNT f
      if st = 0 ∨ st = 4 then s2 else (s2.set2 .FIRN_BEAM_TSTATE f b 4).modBeam f b fun y => { y with held := st }
    else if st = 4 ∧ 2048 ≤ o then (if x.held = 3 then s1.raise .FIRN_EVENT_LOCK_LOST f else s1).enterSearch f b
    else s1
  else if o = 0 then s
  else
    let s1 := s.modBeam f b fun y => { y with osc := { y.osc with hole := 0 } }
    if st = 4 then (s1.set2 .FIRN_BEAM_TSTATE f b x.held).modBeam f b fun y => { y with held := 0 } else s1

/-- A beam changes its timing state; the bits updated in it count from 0. -/
def State.timingState (s : State) (f b st : Nat) : State :=
  (s.set2 .FIRN_BEAM_TSTATE f b st).modBeam f b fun x => { x with osc := { x.osc with inState := 0 } }

/-- ZPS ends at its first bit instant (R221); a beam still in ZPS or ACQ when the preamble has ended goes to LATE, a held one when it leaves HOLD (R222). -/
def State.preambleStep (s : State) (f b : Nat) : State :=
  let x := s.beam f b
  let st := s.get .FIRN_BEAM_TSTATE f b
  let ended := !s.on .FIRN_STATUS_BD f && decide (x.frm.start + 320 < x.osc.k)
  if ended then
    if st = 1 ∨ st = 2 then s.timingState f b 5
    else if st = 4 ∧ (x.held = 1 ∨ x.held = 2) then s.modBeam f b fun y => { y with held := 5, osc := { y.osc with inState := 0 } }
    else s
  else if st = 1 then s.timingState f b 2 else s

/-- The timing state that the error means and the bits in ACQ lead to (R221 to R223). -/
def State.judgeTiming (s : State) (f b : Nat) : State :=
  let x := s.beam f b
  let st := s.get .FIRN_BEAM_TSTATE f b
  let a2 := aT x * aT x
  let m := meanOf x.osc.eps 1024
  let s1 := s.set2 .FIRN_BEAM_MSE f b (min (m.1 / max 1 m.2) 0xFFFF)
  if st = 2 ∧ cfgField x 0 .FIRN_RD_CFG_ACQ_BITS ≤ x.osc.inState then s1.timingState f b 3
  else if st = 5 ∧ 64 ≤ x.osc.inState ∧ (meanOf x.osc.eps 64).1 * 16 < a2 * 64 then s1.timingState f b 3
  else if st = 3 ∧ 256 ≤ x.osc.inState ∧ a2 * 256 < (meanOf x.osc.eps 256).1 * 4 then s1.enterSearch f b
  else s1

/-- The bit decided last updates the oscillator and the taps (R219, R220). Its error ε and timing error te use its own r and those of the bit before it. -/
def State.updateTiming (s : State) (f b : Nat) : State :=
  let x := s.beam f b
  let st := s.get .FIRN_BEAM_TSTATE f b
  let bit := fun (i : Nat) => x.osc.bits.getD i { r := 0, at_ := 0, hole := true }
  let dec := x.osc.dec.map (·.1)
  let d0 := targetOf (aT x) dec
  let eps := (bit 8).r - d0
  let te := ((bit 8).r * targetOf (aT x) (dec.drop 1) - (bit 9).r * d0) * Config.teUnit
  let kp := if st = 3 then cfgField x 0 .FIRN_RD_CFG_KP_TRK else cfgField x 0 .FIRN_RD_CFG_KP_ACQ
  let ki := if st = 3 then cfgField x 0 .FIRN_RD_CFG_KI_TRK else cfgField x 0 .FIRN_RD_CFG_KI_ACQ
  let s1 := (s.modBeam f b fun y =>
    { y with osc := { y.osc with next := y.osc.next - roundShr te kp, eps := ((eps * eps).toNat :: y.osc.eps).take 1024, inState := y.osc.inState + 1 } }).setDelta
      f b (x.osc.delta - roundShr te ki)
  let pos := (x.osc.k : Int) - 9 - x.frm.start
  let data := s.on .FIRN_STATUS_BD f || (decide (368 ≤ pos) && !(decide (1344 ≤ pos) && decide (pos < 1392)))
  let s2 := if (st = 3 ∨ st = 5) ∧ data then s1.adapt f b eps ((x.n * 2 ^ 28 - (bit 8).at_ + 2 ^ 27) / 2 ^ 28) else s1
  s2.judgeTiming f b

/-- The fast slicer decides the bit 8 instants back (R225); outside SEARCH, HOLD and defect regions it updates timing recovery. -/
def State.decideBit (s : State) (f b : Nat) : State :=
  let x := s.beam f b
  if x.osc.bits.length < 9 then s
  else
    let st := s.get .FIRN_BEAM_TSTATE f b
    let hole := (x.osc.bits.getD 8 { r := 0, at_ := 0, hole := true }).hole
    let one := Config.slicer (aT x) ((x.osc.bits.take 12).map (·.r)) ((x.osc.dec.take 3).map (·.1))
    let s1 := s.modBeam f b fun y => { y with osc := { y.osc with dec := ((if one then 1 else -1, hole) :: y.osc.dec).take 64 } }
    if (st = 2 ∨ st = 3 ∨ st = 5) ∧ !hole ∧ x.osc.from_ + 9 ≤ x.osc.k then s1.updateTiming f b else s1

/-- Sync marks in the decisions, and the framing decision when the SM2 window closes (R228, R229); none in SEARCH, in BD mode and in an OPC's block. -/
def State.syncStep (s : State) (f b : Nat) : State :=
  let st := s.get .FIRN_BEAM_TSTATE f b
  if st = 0 ∨ s.on .FIRN_STATUS_BD f ∨ (s.lane f).opcRead then s
  else
    let s1 := s.modBeam f b fun x => markStep x (st == 3 || (st == 4 && x.held == 3)) (x.osc.k - 9)
    let x := s1.beam f b
    if !x.frm.taken && decide (x.frm.start + 1391 + cfgField x 3 .FIRN_SYNC_CFG_SYNC_WIN ≤ (x.osc.k : Int) - 9) then s1.frameSync f b else s1

/-- In the read-back of an OPC each segment ends after its 27,136 bits: its asymmetry is measured, and the beam acquires the next one anew (R197). -/
def State.opcSegmentEnd (s : State) (f b : Nat) : State :=
  let x := s.beam f b
  if (s.lane f).opcRead && s.get .FIRN_BEAM_TSTATE f b != 0 && decide (x.frm.start + 27136 ≤ x.osc.k) then
    (s.modBeam f b fun y => { y with betas := y.betas ++ [asymmetry y.meas] }).enterSearch f b
  else s

/-- On BD media each window of the detector gives its channel bits to the sector engine, an erased one where it lay in a defect region or |L| is below
BD_ERASE_TH (R240). -/
def State.bdWindow (s : State) (f b : Nat) : State :=
  let x := s.beam f b
  let st := s.get .FIRN_BEAM_TSTATE f b
  if s.on .FIRN_STATUS_BD f && b == 0 && decide (96 ≤ x.osc.k) && x.osc.k % 64 == 32 && decide (1 < st) && decide (st < 6) then
    let th := cfgField x 4 .FIRN_BD_CFG_BD_ERASE_TH
    let new := (x.frm.llrs.take 64).map fun e => (decide (e.1 < 0), e.2 || decide (e.1.natAbs < th))
    s.modChan fun c => { c with bdBits := tabMod c.bdBits (s.get .FIRN_STATUS_MN f) [] fun l => (new ++ l).take 4194304 }
  else s

/-- One bit instant of beam b, when it lies `lag` samples back (R219 to R229). -/
def State.bitInstant (s : State) (f b : Nat) : State :=
  let x := s.beam f b
  if -(lag * 2 ^ 28 : Nat) < x.osc.next then s
  else
    let d := (-x.osc.next).toNat
    let hole := inHole x d
    let bit : BitX := { r := interpolate (fun i => x.qs.getD i 0) d, at_ := x.n * 2 ^ 28 - d, hole := hole || s.get .FIRN_BEAM_TSTATE f b == 0 }
    let s1 := s.modBeam f b fun y => { y with osc := { y.osc with k := y.osc.k + 1, bits := (bit :: y.osc.bits).take 2048 } }
    let s2 := (((s1.regionStep f b hole).preambleStep f b).decideBit f b).syncStep f b
    let s3 := (s2.modBeam f b (detectWindow (s.on .FIRN_STATUS_BD f))).bdWindow f b
    let y := s3.beam f b
    let s4 := if y.frm.taken && decide (y.frm.start + 37280 ≤ ((y.osc.k - 32) / 64 * 64 : Nat)) then s3.endFrame f b else s3
    (s4.opcSegmentEnd f b).modBeam f b fun v => { v with osc := { v.osc with next := v.osc.next + v.osc.delta } }

/-- A beam in SEARCH looks for the tone in each window of 32 samples (R221); a codeword still being assembled ends there. -/
def State.searchTone (s : State) (f b : Nat) : State :=
  let x := s.beam f b
  if s.get .FIRN_BEAM_TSTATE f b = 0 ∧ x.since % 32 = 0 ∧ toneFound x then
    ((if x.frm.taken then s.endFrame f b else s).timingState f b 1).modBeam f b fun y => { toneStart y with meas := {} }
  else s

/-- One sample of every beam: DC and AGC, the equaliser, then each beam's windows and bit instants, at most two to a sample (R240). -/
def State.rfSample (s : State) (f ovld : Nat) (v : List Nat) : State :=
  let single := s.singleBeam (s.get .FIRN_STATUS_MN f)
  let bs := (List.range 4).filter fun b => decide (b < v.length) && s.get .FIRN_BEAM_TSTATE f b != 6 && s.get .FIRN_BEAM_TSTATE f b != 7
  let s1 := s.forEach bs fun t b =>
    let t1 := t.modBeam f b fun x => takeSample x (v.getD b 128) (bitAt ovld b == 1)
    t1.set2 .FIRN_AGC_GAIN f b (t1.beam f b).g
  let s2 := s1.forEach bs fun t b =>
    t.modBeam f b fun x => { x with qs := (t.equalise f b single (fun a j => (t.beam f a).z.getD j 0) :: x.qs).take 2048 }
  let opc := (s.lane f).opcRead
  s2.forEach bs fun t b =>
    let st := t.get .FIRN_BEAM_TSTATE f b
    (((t.modBeam f b fun x => ampStep x (decide (3 ≤ st)) opc).searchTone f b).bitInstant f b).bitInstant f b

/-- The samples of a burst, one list per sample instant with one sample per beam: byte 4i + b of word w is instant 4w + i of beam b; in a single-beam burst
byte j of word w is instant 16w + j (R73). -/
def burstSamples (single : Bool) (n : Nat) (words : List (BitVec 128)) : List (List Nat) :=
  let byte := fun (w j : Nat) => (words.getD w 0).toNat / 2 ^ (8 * j) % 256
  (List.range n).map fun k => if single then [byte (k / 16) (k % 16)] else (List.range 4).map fun b => byte (k / 4) (4 * (k % 4) + b)

/-- Lane f takes the burst of one frame (R73, R216). Its samples follow those of the frame before; a lost frame's samples count as overshoot, and after more
than 8 lost frames the beams search again; a burst that is not ahead of the last one is dropped (DESIGN CHOICE, notes/assumptions/101.md). -/
def State.takeBurst (s : State) (f : Nat) (seq : Fin 4096) (ovld : Fin 16) (gain : Word) (words : List (BitVec 128))
    (place : Option (Fin 16 × Fin 1048576 × Fin 8)) : State :=
  let n := s.get .FIRN_STATUS_MN f
  let ahead := match (s.lane f).rfSeq with
    | some q => (seq.val + 4096 - q) % 4096
    | none => 1
  if ¬ s.on .FIRN_STATUS_VALID f ∨ ¬ s.liveBurst n false ∨ ahead = 0 ∨ 2048 ≤ ahead then s
  else
    let bs := (List.range 4).filter fun b => bitAt (s.beamSet n) b == 1
    let count := 440 * rateUs (s.px (portOf n)).rate
    let s0 := s.dramTouch.modLane f fun x =>
      { x with rfSeq := some seq.val, passing := match place with | some q => some (q.1.val, q.2.1.val, q.2.2.val) | none => x.passing }
    let s1 := s0.forEach bs fun t b =>
      if bitsOf gain (8 * b) 8 = (t.beam f b).gainCode then t
      else (t.raise .FIRN_EVENT_GAIN f).modBeam f b fun x => { x with since := 0 }
    let s2 :=
      if 9 < ahead then s1.forEach bs fun t b => if 5 < t.get .FIRN_BEAM_TSTATE f b then t else t.enterSearch f b
      else s1.forEach (List.range ((ahead - 1) * count)) fun t _ => t.rfSample f 15 [128, 128, 128, 128]
    s2.forEach (burstSamples (s.singleBeam n) count words) fun t v => t.rfSample f ovld v

/-- RF_BURST: the burst of one frame for lane f: SEQ, OVLD bits and GAIN codes of its header and its data words (R73, R216), which a migration gives to both
its lanes (R212). `place` is the place of the frame that passes, where the wobble gives it. -/
def execRfBurst (f : LaneIx) (seq : Fin 4096) (ovld : Fin 16) (gain : Word) (words : List (BitVec 128))
    (place : Option (Fin 16 × Fin 1048576 × Fin 8)) (s : State) : Out :=
  fin (((s.lane f).migTo.toList).foldl (fun t g => t.takeBurst g seq ovld gain words place) (s.takeBurst f seq ovld gain words place))

/-! ### Write side (R237, R239) -/

/-- The dwords of a level table: levels of beam b at bytes 8 b + 2 l (R237). -/
def levelDwords (levels : List Nat) : List Nat := (List.range 8).map fun i => levels.getD (2 * i) 0 % 65536 + levels.getD (2 * i + 1) 0 % 65536 * 65536

/-- A level table is loaded into the bank not in use, with a CONFIG message of subtype 0x10. `levels` are L0 to L3 of each beam. -/
def State.loadLevels (s : State) (f : Nat) (levels : List Nat) : State :=
  let n := s.get .FIRN_STATUS_MN f
  let k := 1 - (s.lane f).bank
  (s.modLane f fun x => { x with bankNext := some k, levels := levels, acked := none }).sendMgmt (portOf n) (dropOf n) 2
    ([0x10 + 256 * k, 0, 0, 0] ++ levelDwords levels)

/-- The bridge has acknowledged the level table of lane f. -/
def State.bankAcked (s : State) (f : Nat) : Bool :=
  !((s.dx (s.get .FIRN_STATUS_MN f)).unacked.any fun m => m.cls == 2 && m.payload.headD 0 % 256 == 0x10)

/-- LEVEL_BANK_SWITCH: the first HAF cluster boundary of the run after the bridge has acknowledged the table (R237). -/
def execLevelBankSwitch (f : LaneIx) (s : State) : Out :=
  match (if (s.lane f).run.any (·.opc.isSome) then none else (s.lane f).bankNext) with
  | none => fin s
  | some k =>
    if !s.bankAcked f || !((s.lane f).run.isNone || (s.lane f).acked.any fun c => decide (c < s.clustersPast f)) then fin s
    else fin (s.modLane f fun x => { x with bank := k, bankNext := none })

/-- WRITE_STOP: a stop request; the run ends at its next frame boundary (R239). -/
def execWriteStop (f : LaneIx) (s : State) : Out :=
  fin (s.stopRun f)

/-- WRITE_STOP_TIMEOUT: 100 us after the request the beams still writing stop. -/
def execWriteStopTimeout (f : LaneIx) (s : State) : Out :=
  match (s.lane f).stopAt with
  | some t => if t + 100000 ≤ s.now then fin (s.endWrite f) else fin s
  | none => fin s

end Sys2Proof.Machine
end

