-- ==== Sys2Proof/Machine/Moraine.lean ====
section
/-! DEFINITION. The LLR queue, the decoder pool, the outer code and sector retry: the commands of spec/09_codes_and_moraine.md R256 to R270. -/

namespace Sys2Proof.Machine

/-! ### The LLR queue -/

/-- The codeword with this number. -/
def State.cw (s : State) (id : Nat) : Option Codeword := s.chan.cws.find? fun w => w.id == id

def State.modCw (s : State) (id : Nat) (f : Codeword → Codeword) : State :=
  s.modChan fun c => { c with cws := c.cws.map fun w => if w.id = id then f w else w }

/-- A codeword in an SRAM slot: staged, or on a decoder. -/
def inSlot (w : Codeword) : Bool := match w.place with
  | .staged => true
  | .decoding _ => true
  | _ => false

/-- SRAM slots held, of 300, and parked states, of 32. -/
def State.slotsHeld (s : State) : Nat := (s.chan.cws.filter inSlot).length
def State.parkedCount (s : State) : Nat := (s.chan.cws.filter fun w => w.place == .parked).length

/-- The earliest of some codewords by READY time. -/
def earliest (l : List Codeword) : Option Codeword :=
  l.foldl (fun a w => match a with
    | none => some w
    | some x => if w.time < x.time then some w else some x) none

/-- A codeword goes into a slot: it waits for a decoder from now. -/
def State.stageCw (s : State) (id : Nat) : State := s.modCw id fun w => { w with place := .staged, urgent := false, waitFrom := s.now }

/-- LLR_MOVE: the oldest READY codeword takes a free slot (R256). -/
def execLlrMove (s : State) : Out :=
  match (if s.slotsHeld < 300 then earliest (s.chan.cws.filter fun w => w.place == .ready) else none) with
  | none => fin s
  | some w => fin (s.stageCw w.id)

/-- The priority of a lane (MOR_LPRIO). -/
def State.lanePrio (s : State) (f : Nat) : Nat := bitsOf (s.rd .MOR_LPRIO (f / 8)) (4 * (f % 8)) 4

/-- The codeword on decoder d. -/
def State.onDecoder (s : State) (d : Nat) : Option Codeword := s.chan.cws.find? fun w => w.place == .decoding d

/-- The victim of R263 for an urgent codeword: a decoder in DECODE whose codeword ranks no higher and was parked fewer than PARK_MAX times,
the one with the most iterations, the lowest on a tie. -/
def State.victim (s : State) (prio : Nat) : Option Nat :=
  let ok := (List.range 32).filter fun d => s.get .MOR_DEC_DSTATE d == 2 && match s.onDecoder d with
    | some w => decide (s.lanePrio w.lane ≤ prio) && decide (w.parks < s.get .MOR_GCFG_PARK_MAX)
    | none => false
  ok.foldl (fun a d => match a with
    | none => some d
    | some x => if s.get .MOR_DEC_ITER x < s.get .MOR_DEC_ITER d then some d else some x) none

/-- The beam's next codeword is due to need the ring entry of a READY codeword within NEAR_US: the other entry is being filled, and the next frame starts
within that time at the beam's channel rate (R257). -/
def State.entryNear (s : State) (w : Codeword) : Bool :=
  let x := s.beam w.lane w.beam
  let bits := (x.frm.start + 37344 - x.osc.k).toNat
  (s.chan.cws.any fun v => v.lane == w.lane && v.beam == w.beam && v.place == .assembling) &&
    decide (bits * x.osc.delta ≤ s.get .MOR_GCFG_NEAR_US * 440 * 2 ^ 28)

/-- CODEWORD_URGENT: the codeword's ring entry is needed within NEAR_US (R257, R263); an urgent codeword that found no victim asks again. -/
def execCodewordUrgent (cw : Nat) (s : State) : Out :=
  match s.cw cw with
  | none => fin s
  | some w =>
    let waits := (s.chan.cws.filter fun v => v.urgent && v.place == .ready).length
    let taken := ((List.range 32).filter fun d => s.get .MOR_DEC_DSTATE d == 3).length
    if w.place ≠ .ready ∨ (if w.urgent then waits ≤ taken else !s.entryNear w) then fin s
    else
      let s1 := s.modCw cw fun v => { v with urgent := true }
      if ¬ s.on .MOR_GCFG_PREEMPT_EN ∨ s.slotsHeld < 300 then fin s1
      else if 32 ≤ s.parkedCount then fin (s1.raise .MOR_EVENT_PARK_FULL)
      else match s.victim (s.lanePrio w.lane) with
        | none => fin s1
        | some d => fin (s1.set .MOR_DEC_DSTATE d 3)

/-! ### Verdicts -/

/-- A codeword leaves the queue and its decoder, if it was on one. -/
def State.dropCw (s : State) (w : Codeword) : State :=
  let s1 := s.modChan fun c => { c with cws := c.cws.filter fun v => v.id != w.id }
  match w.place with
  | .decoding d => s1.idleDecoder d
  | _ => s1

/-- The codeword is uncorrectable (R259, R260). -/
def State.uncorrectable (s : State) (w : Codeword) : State :=
  (((s.bump .MOR_CNT_UNC_COUNT).raise .MOR_EVENT_UNCORR).verdict w.mn w.layer w.cluster w.frame .lost).dropCw w

/-- Decoder d shows the codeword it holds. -/
def State.showDecoder (s : State) (d : Nat) (w : Codeword) : State :=
  ((s.set .MOR_DEC_LANE d w.lane).set .MOR_DEC_SET d w.set).set .MOR_DEC_ITER d w.iter

/-- Decoder d takes a codeword: LOAD. A parked one resumes from its next row (R264). -/
def State.giveDecoder (s : State) (d : Nat) (w : Codeword) : State :=
  let resumed := w.place == .parked
  let s1 := (s.modCw w.id fun v => { v with place := .decoding d }).modChan fun c => { c with decAt := tabPut c.decAt d s.now 0 }
  ((s1.set .MOR_DEC_DSTATE d 1).showDecoder d w).set .MOR_DEC_RESUMED d (b2n resumed)

/-- Decoder d and a slot pass to the earliest urgent codeword, ahead of R261; a decoder that an operation waits for does not (R264, R267). -/
def State.passToUrgent (s : State) (d : Nat) : State :=
  match earliest (s.chan.cws.filter fun v => v.urgent && v.place == .ready) with
  | none => s.idleDecoder d
  | some u =>
    if tabGet s.chan.decTest d 0 ≠ 0 then (s.stageCw u.id).idleDecoder d
    else (s.modCw u.id fun v => { v with urgent := false }).giveDecoder d u

/-- PARK_COMPLETE: the victim on decoder d is parked; the earliest urgent codeword takes its slot and the decoder (R264). -/
def execParkComplete (d : DecIx) (s : State) : Out :=
  match s.onDecoder d with
  | none => fin s
  | some w =>
    if s.get .MOR_DEC_DSTATE d ≠ 3 then fin s
    else
      let s1 := (s.modCw w.id fun v => { v with place := .parked, parks := v.parks + 1, waitFrom := s.now, starved := false }).bump .MOR_CNT_PARK_COUNT
      fin (s1.passToUrgent d)

/-! ### Grants (R261, R262) -/

/-- Request a comes before request b. -/
def State.grantBefore (s : State) (a b : Codeword) : Bool :=
  let pa := s.lanePrio a.lane
  let pb := s.lanePrio b.lane
  if pa ≠ pb then decide (pb < pa)
  else if (a.place == .parked) != (b.place == .parked) then a.place == .parked
  else decide (a.time < b.time)

/-- The first request in the order of R261. -/
def State.firstRequest (s : State) : Option Codeword :=
  (s.chan.cws.filter fun w => w.place == .staged || w.place == .parked).foldl (fun a w => match a with
    | none => some w
    | some x => if s.grantBefore w x then some w else some x) none

/-- DECODER_GRANT: the lowest-numbered free decoder takes the first request. -/
def execDecoderGrant (s : State) : Out :=
  match (List.range 32).find? (fun d => s.get .MOR_DEC_DSTATE d == 0), s.firstRequest with
  | some d, some w => fin (s.giveDecoder d w)
  | _, _ => fin s

/-! ### Decoding (R251 to R253, R258, R259) -/

/-- A block of 256 bits turned so that bit i comes from bit (i + k) mod 256. -/
def rotBlock (v k : Nat) : Nat := v / 2 ^ k + v % 2 ^ k * 2 ^ (256 - k)

/-- The syndrome of base row r: the sum of its blocks of the word, each turned by its shift. -/
def rowSyndrome (entries : List Nat) (word r : Nat) : Nat :=
  (List.range 144).foldl (fun a c =>
    let e := entries.getD (r * 144 + c) 0xFFFF
    if 256 ≤ e then a else Nat.xor a (rotBlock (word / 2 ^ (256 * c) % 2 ^ 256) e)) 0

/-- The word satisfies every check of the matrix. -/
def ldpcClean (m : MatrixX) (word : Nat) : Bool := (List.range 15).all fun r => rowSyndrome m.entries word r == 0

/-- The 4,128 information bytes of a word: byte k is bits 8k to 8k + 7, most significant first (R251). -/
def infoBytes (word : Nat) : List Nat :=
  (List.range 4128).map fun k => (List.range 8).foldl (fun a i => a * 2 + word / 2 ^ (8 * k + i) % 2) 0

/-- The check of a converged sector: CRC-64 of a data sector (R252), HCRC of a parity sector (R259). -/
def sectorOk (frame : Nat) (b : List Nat) : Bool :=
  if frame < 28 then crc64 (b.take 4112) == leAt b 4112 8 else crc32c (b.take 12) == leAt b 12 4

/-- The matrix held under an identifier. -/
def State.matrixOf (s : State) (id : Nat) : Option MatrixX := (s.chan.matrices.find? fun e => e.2.id == id).map (·.2)

/-- The columns of EMAP of a converged parity sector are kept for R269. -/
def State.noteEmap (s : State) (w : Codeword) : State :=
  if w.frame < 28 then s
  else s.modRead w.mn w.layer w.cluster fun r =>
    { r with emaps := (List.range 4).map fun i => if i = w.frame - 28 then w.emap else r.emaps.getD i 0 }

/-- A converged word: good, or another attempt with the next set, or uncorrectable (R259). -/
def State.converged (s : State) (d : Nat) (w : Codeword) (word : Nat) : State :=
  let b := infoBytes word
  if sectorOk w.frame b then
    let s1 := (((s.bump .MOR_CNT_CW_COUNT).noteEmap w).verdict w.mn w.layer w.cluster w.frame (.good b)).dropCw w
    if bitAt w.flags 1 = 1 ∧ w.frame < 28 then
      (s1.modRead w.mn w.layer w.cluster fun r => { r with retry := w.frame :: r.retry.filter fun i => i != w.frame }).modMech w.mn fun m =>
        { m with tlOuter := m.tlOuter + 1 }
    else s1
  else
    let s1 := (s.bump .MOR_CNT_CRC_COUNT).raise .MOR_EVENT_CRC_FAIL
    if 0 < w.parks ∨ w.set = 2 then s1.uncorrectable w
    else
      let v := { w with set := (if w.set = 1 then 2 else 1), iter := 0, flags := Nat.lor w.flags 4, post := [], msgs := [] }
      (s1.modCw w.id fun _ => v).showDecoder d v

/-! Layered min-sum (R258). Posteriors stand by block column, messages by base row x 144 + block column, 256 values each. A normalised magnitude is rounded
down (DESIGN CHOICE, notes/assumptions/103.md). -/

/-- The posteriors of a codeword as a decoder loads it: its LLRs descrambled (R251). -/
def loadLlrs (llrs : List Int) : List (List Int) :=
  let p := prbs 36864
  (List.range 144).map fun c => (List.range 256).map fun i => let k := 256 * c + i; if p.getD k 0 = 1 then -(llrs.getD k 0) else llrs.getD k 0

/-- The magnitude that a check sends for a least magnitude m: normalised by ALPHA / 16, or less BETA when ALPHA is 0; 8-bit. -/
def checkMag (alpha beta m : Nat) : Nat := min 127 (if alpha = 0 then m - beta else m * alpha / 16)

/-- What a check sends to a bit when the other bits send it `l`. -/
def checkSends (alpha beta : Nat) (l : List Int) : Int :=
  let mag : Int := checkMag alpha beta (l.foldl (fun a v => min a v.natAbs) 1023)
  if (l.filter fun v => decide (v < 0)).length % 2 = 1 then -mag else mag

/-- One base row of the layered schedule: `x` are posteriors, 10-bit saturating, and messages. -/
def minSumRow (entries : List Nat) (alpha beta : Nat) (x : List (List Int) × List (List Int)) (r : Nat) : List (List Int) × List (List Int) :=
  let cols := (List.range 144).filter fun c => decide (entries.getD (r * 144 + c) 0xFFFF < 256)
  let at_ := fun (c i : Nat) => (i + entries.getD (r * 144 + c) 0) % 256
  let q := cols.map fun c => (c, (List.range 256).map fun i =>
    clampI ((x.1.getD c []).getD (at_ c i) 0 - (x.2.getD (r * 144 + c) []).getD i 0) (-512) 511)
  let sent := q.map fun e => (e.1, (List.range 256).map fun i => checkSends alpha beta ((q.filter fun v => v.1 != e.1).map fun v => v.2.getD i 0))
  let post := (q.zip sent).foldl (fun l e =>
    l.set e.1.1 ((List.range 256).map fun j =>
      let i := (j + 256 - at_ e.1.1 0) % 256
      clampI (e.1.2.getD i 0 + e.2.2.getD i 0) (-512) 511)) x.1
  (post, sent.foldl (fun l e => l.set (r * 144 + e.1) e.2) x.2)

/-- The hard decisions of posteriors: codeword bit k at bit k. -/
def hardWord (post : List (List Int)) : Nat :=
  post.foldr (fun col (a : Nat) => a * 2 ^ 256 + col.foldr (fun v (b : Nat) => b * 2 + if v < 0 then 1 else 0) 0) 0

/-- One iteration of a codeword: every row in the matrix's ORDER (R258). -/
def decodeOnce (m : MatrixX) (alpha beta : Nat) (w : Codeword) : Codeword :=
  let p0 := if w.post.isEmpty then loadLlrs w.llrs else w.post
  let m0 := if w.msgs.isEmpty then List.replicate 2160 (List.replicate 256 0) else w.msgs
  let x := m.order.foldl (minSumRow m.entries alpha beta) (p0, m0)
  { w with post := x.1, msgs := x.2 }

/-- The verdict of a codeword frees its decoder; one that was about to park it passes to the urgent codeword (R267). -/
def State.afterVerdict (s : State) (d : Nat) (preempt : Bool) : State :=
  if preempt && (s.onDecoder d).isNone && s.get .MOR_DEC_DSTATE d == 0 then s.passToUrgent d else s

/-- DECODE_ITERATION: decoder d completes an iteration of its codeword; its hard decisions satisfy every check, or another follows up to MAX_ITER (R258,
R259). -/
def execDecodeIteration (d : DecIx) (s : State) : Out :=
  match s.onDecoder d with
  | none => fin s
  | some w0 =>
    let st := s.get .MOR_DEC_DSTATE d
    if st ≠ 1 ∧ st ≠ 2 ∧ st ≠ 3 then fin s
    else
      let m := (s.matrixOf w0.matrix).getD {}
      let w := decodeOnce m (s.get .MOR_SET_ALPHA w0.set) (s.get .MOR_SET_BETA w0.set)
        { w0 with iter := w0.iter + 1, wallFrom := some ((w0.wallFrom).getD s.now) }
      let word := hardWord w.post
      let s0 := (s.modCw w.id fun _ => w).modChan fun c => { c with decAt := tabPut c.decAt d s.now 0 }
      let s1 := (s0.setIf (st = 1) .MOR_DEC_DSTATE d 2).showDecoder d w
      if (s.matrixOf w0.matrix).isSome && ldpcClean m word then fin ((s1.converged d w word).afterVerdict d (st = 3))
      else if s.get .MOR_SET_MAX_ITER w.set ≤ w.iter then fin ((s1.uncorrectable w).afterVerdict d (st = 3))
      else fin s1

/-- WALL_TIMEOUT: WALL_US from the start of the first iteration (R260). -/
def execWallTimeout (cw : Nat) (s : State) : Out :=
  match s.cw cw with
  | none => fin s
  | some w => if w.wallFrom.any fun t => decide (t + s.get .MOR_GCFG_WALL_US * 1000 ≤ s.now) then fin (s.uncorrectable w) else fin s

/-- STARVE_TIMEOUT: a request has waited longer than STARVE_US (R265). -/
def execStarveTimeout (cw : Nat) (s : State) : Out :=
  match s.cw cw with
  | none => fin s
  | some w =>
    if s.get .MOR_TIMING_STARVE_US = 0 ∨ w.starved ∨ ¬ (w.place = .staged ∨ w.place = .parked) ∨
        s.now ≤ w.waitFrom + s.get .MOR_TIMING_STARVE_US * 1000 then fin s
    else
      let s1 := (s.modCw cw fun v => { v with starved := true }).raise .MOR_EVENT_STARVE
      let s2 := ((s1.set0 .MOR_STARVE_SRC_MN w.mn).set0 .MOR_STARVE_SRC_LANE w.lane).set0 .MOR_STARVE_SRC_WAIT_US (min ((s.now - w.waitFrom) / 1000) 2047)
      fin (s2.logEntry { cls := 7, code := 2, sev := 1, mn := w.mn, unit := w.lane, detail0 := (s2.rd .MOR_STARVE_SRC).toNat })

/-- Decoder d has completed nothing for WDOG_US. -/
def State.decoderStuck (s : State) (d : Nat) : Bool := decide (tabGet s.chan.decAt d 0 + s.get .MOR_TIMING_WDOG_US * 1000 ≤ s.now)

/-- Decoder d made no progress for WDOG_US, or, with `error`, had an uncorrectable or parity error: its codeword is
uncorrectable; it is reset, and after an error also tested (R266). -/
def State.decoderWatchdog (s : State) (d : Nat) (error : Bool) : State :=
  let st := s.get .MOR_DEC_DSTATE d
  if 4 < st then s
  else
    let s1 := match s.onDecoder d with
      | none => s.clearDecoder d
      | some w => s.uncorrectable w
    if error then
      if 4 < s1.get .MOR_DEC_DSTATE d then s1 else s1.testDecoder d
    else if st = 0 then s
    else
      let s2 := (s1.raise .MOR_EVENT_WDOG).bump .MOR_CNT_WDOG_COUNT
      s2.logEntry { cls := 7, code := 1, sev := 1, unit := d, detail0 := d, detail1 := s.get .MOR_DEC_LANE d }

/-- DECODER_WATCHDOG. -/
def execDecoderWatchdog (d : DecIx) (error : Bool) (s : State) : Out :=
  if error || s.decoderStuck d then fin (s.decoderWatchdog d error) else fin s

/-! ### Operations on decoders (MOR_DEC_CMD) -/

/-- The start of an operation on decoder d: RESULT 2 while one runs, 1 in a wrong state; otherwise BUSY. -/
def State.decCmd (s : State) (d op : Nat) (ok : Bool) : Option State × State :=
  let s1 := s.set0 .MOR_DEC_CMD_STAT_DEC d
  if s.on .MOR_DEC_CMD_STAT_BUSY then (none, s1.set0 .MOR_DEC_CMD_STAT_RESULT 2)
  else if !ok then (none, s1.set0 .MOR_DEC_CMD_STAT_RESULT 1)
  else
    let s2 := (s1.set0 .MOR_DEC_CMD_STAT_BUSY 1).modChan fun c => { c with decTest := tabPut c.decTest d op 0 }
    (some s2, s2)

/-- DEC_TEST: MOR_DEC_CMD OP 1, of a decoder in service, after its current codeword, or OUT_OF_SERVICE (R267). -/
def execDecTest (d : DecIx) (s : State) : Out := regCmd s fun s =>
  let st := s.get .MOR_DEC_DSTATE d
  match s.decCmd d (if st = 7 then 2 else 1) (st != 5 && st != 6) with
  | (some t, _) => fin (if st = 0 ∨ st = 7 then t.testDecoder d else t)
  | (none, t) => fin t

/-- DEC_ENABLE: MOR_DEC_CMD OP 2; `decTest` 16 marks an OUT_OF_SERVICE decoder whose test passed. -/
def execDecEnable (d : DecIx) (s : State) : Out := regCmd s fun s =>
  match s.decCmd d 0 (s.get .MOR_DEC_DSTATE d == 7 && tabGet s.chan.decTest d 0 == 16) with
  | (some t, _) => fin ((t.clearDecoder d).decCmdDone 0)
  | (none, t) => fin t

/-- DEC_DISABLE: MOR_DEC_CMD OP 3, after the current codeword. -/
def execDecDisable (d : DecIx) (s : State) : Out := regCmd s fun s =>
  let st := s.get .MOR_DEC_DSTATE d
  match s.decCmd d 3 (decide (st < 5)) with
  | (some t, _) => fin (if st = 0 then t.idleDecoder d else t)
  | (none, t) => fin t

/-- The test of decoder d ends. -/
def State.decTestEnd (s : State) (d : Nat) (pass : Bool) : State :=
  let op := tabGet s.chan.decTest d 0
  let s1 := (s.returnBist 3 d).modChan fun c => { c with decTest := tabDel c.decTest d }
  let s2 :=
    if pass ∧ op = 2 then ((s1.loadProgram .MOR_PROG_VERSION d (·.decProg)).set .MOR_DEC_DSTATE d 7).modChan fun c => { c with decTest := tabPut c.decTest d 16 0 }
    else if pass then s1.clearDecoder d
    else (s1.raise .MOR_EVENT_DEC_TEST_FAIL).retireDecoder d
  if op = 1 ∨ op = 2 then s2.decCmdDone (if pass then 0 else 3) else s2

/-- DECODER_TEST_DONE. -/
def execDecoderTestDone (d : DecIx) (pass : Bool) (s : State) : Out :=
  if s.get .MOR_DEC_DSTATE d = 5 && !s.underBist 3 d then fin (s.decTestEnd d pass) else fin s

/-! ### The outer code and sector retry (R250, R268 to R270) -/

/-- The sector type of a cluster's place (R247, "Sector header"), for a data sector of its user data. -/
def sectorType (cluster : Nat) : Nat :=
  if cluster < 0xF0000 then 0
  else
    let i := cluster - 0xF0000
    if i < 64 then 5 else if i < 2112 then 3 else if i < 6208 then 4 else 2

/-- The LBA that the extent map gives a block of a data cluster. -/
def lbaAt (extents : List (Nat × Nat × Nat × Nat × Nat)) (layer cluster block : Nat) : Option Nat :=
  let q := cluster * 28 + block
  (extents.find? fun e => e.2.2.1 == layer && decide (e.2.2.2.1 * 28 + e.2.2.2.2 ≤ q) && decide (q < e.2.2.2.1 * 28 + e.2.2.2.2 + e.2.1)).map
    fun e => e.1 + (q - (e.2.2.2.1 * 28 + e.2.2.2.2))

/-- A sector header (R250, "Sector header"). -/
def sectorHeader (cluster frame layer type lba flags : Nat) : List Nat :=
  let h := leBytes 4 (cluster % 2 ^ 20 + frame * 2 ^ 20 + layer * 2 ^ 25 + type * 2 ^ 29) ++ leBytes 6 lba ++ leBytes 2 flags
  h ++ leBytes 4 (crc32c h)

/-- The header that the sector engine regenerates for a data sector of a cluster (R250). -/
def State.regenHeader (s : State) (n layer cluster frame : Nat) : List Nat :=
  let ty := sectorType cluster
  if ty ≠ 0 then sectorHeader cluster frame layer ty 0 0
  else match lbaAt (s.disc n).extents layer cluster frame with
    | some lba => sectorHeader cluster frame layer 0 lba 0
    | none => sectorHeader cluster frame layer 0 (2 ^ 48 - 1) 1

/-- The bytes of a sector with no good content read as 0 for the outer code. -/
def sectorBytes : SectorX → List Nat
  | .good b => b
  | _ => []

def isGood : SectorX → Bool
  | .good _ => true
  | _ => false

/-- The sectors in F. -/
def unresolved (l : List SectorX) : List Nat := (List.range 32).filter fun i => !isGood (l.getD i .pending)

/-- The unresolved data sectors. -/
def unresolvedData (l : List SectorX) : List Nat := (unresolved l).filter fun i => decide (i < 28)

/-- Byte columns 16 to 4,119 of the 32 sectors. -/
def columns (l : List SectorX) : List (List Nat) := (List.range 4104).map fun j => (List.range 32).map fun i => (sectorBytes (l.getD i .pending)).getD (16 + j) 0

/-- The sector i that decoded columns give, with its regenerated header, accepted when its CRC-64 passes. -/
def rebuiltSector (header : List Nat) (cols : List (List Nat)) (i : Nat) : Option (List Nat) :=
  let b := header ++ cols.map (fun c => c.getD i 0) ++ List.replicate 8 0
  if sectorOk i b then some b else none

/-- How many columns an erasure map flags. -/
def flagged (emap : Nat) : Nat := (List.range 144).foldl (fun a c => a + bitAt emap c) 0

/-- Converged parity sectors with flagged columns, most flagged first. -/
def suspects (l : List SectorX) (emaps : List Nat) : List Nat :=
  let c := (List.range 4).filter fun k => isGood (l.getD (28 + k) .pending) && decide (0 < flagged (emaps.getD k 0))
  (List.range 144).flatMap fun k => (c.filter fun i => flagged (emaps.getD i 0) == 144 - k).map (28 + ·)

/-- The sectors after the outer decode (R269). -/
def State.outerSectors (s : State) (r : ClusterRead) : List SectorX :=
  let hdr := s.regenHeader r.mn r.layer r.cluster
  let f := unresolved r.sectors
  if f.length = 0 ∨ 4 < f.length then r.sectors
  else
    let cols := columns r.sectors
    let fixed := cols.map fun c => rsFix c f
    let first := (unresolvedData r.sectors).foldl (fun l i => match rebuiltSector (hdr i) fixed i with
      | some b => l.set i (.good b)
      | none => l) r.sectors
    let left := unresolvedData first
    if left.isEmpty then first
    else
      let f2 := f ++ (suspects r.sectors r.emaps).take (4 - f.length)
      let again := cols.map fun c => rsErrors c f2
      let got := (unresolvedData r.sectors).map fun i => (i, rebuiltSector (hdr i) again i)
      if got.all fun e => e.2.isSome then got.foldl (fun l e => l.set e.1 (.good (e.2.getD []))) r.sectors else first

/-- Sectors still unresolved when retry ends are recorded as unreadable. -/
def State.logUnreadable (s : State) (r : ClusterRead) : State :=
  (s.modMech r.mn fun m => { m with tlUnread := m.tlUnread + (unresolvedData r.sectors).length }).forEach (unresolvedData r.sectors) fun t i =>
    t.logEntry { cls := 7, code := 3, sev := 2, mn := r.mn, detail0 := r.cluster + r.layer * 2 ^ 20 + i * 2 ^ 24,
                 detail1 := (lbaAt (s.disc r.mn).extents r.layer r.cluster i).getD 0xFFFFFFFF }

/-- Data sectors that the outer decode resolved. -/
def newlyGood (a b : List SectorX) : List Nat := (List.range 28).filter fun i => !isGood (a.getD i .pending) && isGood (b.getD i .pending)

/-- The outer decode of a cluster is done: `l` are its sectors now. -/
def State.outerDone (s : State) (r : ClusterRead) (l : List SectorX) (done : Bool) (revs : Nat) : State :=
  let got := newlyGood r.sectors l
  (s.modRead r.mn r.layer r.cluster fun x =>
    { x with sectors := if done then l else l.map (fun v => if isGood v then v else .pending), done := done, revs := revs, revAt := s.now,
             outer := x.outer ++ got }).modMech
      r.mn fun m => { m with tlOuter := m.tlOuter + got.length }

/-- Codewords of a cluster are still in the queue or on decoders. -/
def State.cwsLeft (s : State) (r : ClusterRead) : Bool := s.chan.cws.any fun w => w.mn == r.mn && w.layer == r.layer && w.cluster == r.cluster

/-- No verdict of a cluster is still to come: every sector has one, or the head has left the cluster and the sectors without one are missing (R269). -/
def State.verdictsIn (s : State) (r : ClusterRead) : Bool :=
  !s.cwsLeft r && (!(r.sectors.any fun x => x == .pending) ||
    ((r.sectors.any fun x => x != .pending) && match (s.laneOf r.mn).bind fun f => (s.lane f).passing with
      | some q => q.1 != r.layer || q.2.1 != r.cluster
      | none => true))

/-- A revolution has passed since the rereading of a cluster began or went on (R270). -/
def State.turnedOnce (s : State) (r : ClusterRead) : Bool := decide (r.revAt + 240000000000 / max 1 (s.get .MECH_SPEED_MEAS r.mn) ≤ s.now)

/-- OUTER_DECODE: the last verdict of a cluster has come. Unresolved data sectors go to a first reread (R269, R270). -/
def execOuterDecode (mn : Mn) (layer : Fin 16) (cluster : Nat) (s : State) : Out :=
  match s.readOf mn layer cluster with
  | none => fin s
  | some r =>
    if r.done ∨ 0 < r.revs ∨ ¬ s.verdictsIn r then fin s
    else
      let l := s.outerSectors r
      if (unresolvedData l).isEmpty then fin (s.outerDone r l true 0) else fin (s.outerDone r l false 1)

/-- SECTOR_RETRY_REV: a reread revolution ends; the outer decode runs with every sector known so far (R270). -/
def execSectorRetryRev (mn : Mn) (layer : Fin 16) (cluster : Nat) (s : State) : Out :=
  match s.readOf mn layer cluster with
  | none => fin s
  | some r =>
    if r.done ∨ r.revs = 0 ∨ s.cwsLeft r ∨ ¬ s.turnedOnce r then fin s
    else
      let l := s.outerSectors r
      let ended := decide (s.get .MOR_GCFG_RETRY_REVS ≤ r.revs)
      let s1 := s.outerDone r l (ended || (unresolvedData l).isEmpty) (r.revs + 1)
      fin (if ended then s1.logUnreadable { r with sectors := l } else s1)

end Sys2Proof.Machine
end

