-- ==== Sys2Proof/Machine/Calib.lean ====
section
/-! DEFINITION. Calibration runs, their limits and the calibration window: the commands of spec/07_calibration.md. -/

namespace Sys2Proof.Machine

/-! ### Records and what they are held for -/

/-- Dword i of a record with bits [lo + n - 1 : lo] replaced. -/
def putBits (l : List Nat) (i lo n v : Nat) : List Nat := l.set i (withBits (BitVec.ofNat 32 (dw l i)) lo n v).toNat

/-- T_NOW of a space (R190): the bridge's temperature, or the highest of the die sensors; signed 1/16 C. -/
def State.tNow (s : State) (space index : Nat) : Int :=
  if space = 0 then signed 16 (s.get .MECH_BTEMP_TEMP index) else signed 16 (s.get .DRN_THERM_STAT_TMAX)

/-- An item is stale, or has no valid value, which counts as stale (R190). -/
def needsRun (r : CalRec) (item : Nat) : Bool := calStale r item || !calValid r item

/-- The item bits a temperature triggers: all but SA_PRESET in space 0, the one item elsewhere. -/
def tempItems (space : Nat) : List Nat := if space = 0 then [0, 1, 2, 3, 5] else [0]

/-- The ERR of a selection: 1 no such index, 2 no disc or no such layer, 0 sound (MECH_CAL_CMD.ERR). -/
def State.calSelErr (s : State) (space index layer : Nat) : Nat :=
  if space = 0 then (if !s.on .MECH_STATE_MOUNTED index || decide (s.layersOf index ≤ layer) then 2 else 0)
  else if space = 1 then (if index < 256 then 0 else 1)
  else if space = 2 then (if index < 32 then 0 else 1)
  else if space = 3 then (if index < 24 then 0 else 1)
  else 1

/-- The layer that keys a record: spaces 1 to 3 have none. -/
def calLayer (space layer : Nat) : Nat := if space = 0 then layer else 0

/-- Items whose |T_NOW - T_RUN| exceeds TEMP_DELTA turn stale. -/
def State.tempStale (s : State) (space index layer : Nat) : State :=
  let delta := s.get .MECH_CAL_CFG_TEMP_DELTA
  s.modCal space index layer fun r =>
    { r with d := (tempItems space).foldl (fun d i =>
        if calValid r i && decide ((delta : Int) < (s.tNow space index - r.tRun.getD i 0).natAbs) then putBits d 6 (8 + i) 1 1 else d) r.d }

/-- CAL_TEMP_CHECK: the comparison of every 100 ms (R190). -/
def execCalTempCheck (s : State) : Out :=
  if s.get .DRN_PSTAT_STATE ≠ 1 ∨ s.now < s.time.calAt + ms 100 then fin s
  else
    let s1 := s.forEach (s.cal.map (·.1)) fun t k => t.tempStale (k / 65536) (k / 16 % 4096) (k % 16)
    fin { s1 with time := { s1.time with calAt := s.now } }

/-! ### Offsets and write power in use (R199, R235) -/

/-- A new offset of the layer in focus moves to its new value over TILT_RAMP samples. -/
def State.rampOffsets (s : State) (n layer : Nat) : State :=
  if s.holdsSlot n ∧ 5 ≤ s.mst n ∧ (s.sx n).layer = layer then
    s.modServo n fun v => { v with offFrom := (List.range 4).map (offNow v), offTo := calOffs (s.entry n layer), offK := 0 }
  else s

/-- The media kind of R234 for a MEDIA code. -/
def mediaKind (media : Nat) : Nat := if media = 8 then 1 else if media = 9 then 2 else 0

/-- The write strategy record in force. -/
def State.strategy (s : State) (cls media : Nat) : List Nat :=
  match tabGet s.chan.strat (cls * 4 + media) [] with
  | [] => (List.range 96).map fun i => Config.shippedStrategy (cls * 4 + media) i % 2 ^ 32
  | l => l

/-- L0 to L3 of each beam by the write power of a record (R235). -/
def State.levelsOf (s : State) (n : Nat) (r : CalRec) : List Nat :=
  let st := s.strategy (s.clsOf n) (mediaKind (s.get .MECH_DISC_MEDIA n))
  (List.range 4).flatMap fun b =>
    let pw := calPw r b
    let w := dw st (4 + 22 * b)
    [calLread r, pw, (pw * (w / 2 ^ 24 % 256) + 128) / 256, (pw * (w / 2 ^ 16 % 256) + 128) / 256]

/-- L0 to L3 of each beam on a layer. -/
def State.levelsFor (s : State) (n layer : Nat) : List Nat := s.levelsOf n (s.entry n layer)

/-- PW_NOM in 0.01 mW and BETA_T in 1/10,000 of a layer, from the lead-in or as a BD disc's format defines them (R197). -/
def State.opcNominal (s : State) (n layer : Nat) : Nat × Int :=
  if isBd (s.get .MECH_DISC_MEDIA n) then Config.bdPower (s.disc n).bdCapacity else (s.disc n).leadIn.getD layer (0, 0)

/-- L0 to L3 of each beam at step k: the strategy's levels at P_k = PW_NOM x (0.80 + 0.04 k) (R197, R235). -/
def State.opcLevels (s : State) (n layer k : Nat) : List Nat :=
  let p := ((s.opcNominal n layer).1 * (80 + 4 * min k 10) + 50) / 100
  let r := s.entry n layer
  s.levelsOf n { r with d := [dw r.d 0, dw r.d 1, dw r.d 2, p + p * 65536, p + p * 65536] ++ r.d.drop 5 }

/-- The bridge gets new levels when those of the layer in focus differ from the ones loaded last (R199, R237). -/
def State.refreshLevels (s : State) (n : Nat) : State :=
  match s.laneOf n with
  | none => s
  | some f =>
    let l := s.levelsFor n (s.sx n).layer
    if (s.lane f).levels = l then s else s.loadLevels f l

/-! ### Angles and bits of a written run (R148, R233) -/

/-! ### Starting runs (R191 to R193, R203) -/

/-- A READ, WRITE, VERIFY or SCRUB of the mechanism waits or runs as a command. -/
def State.dataWork (s : State) (n : Nat) : Bool :=
  (s.cmdsOf n).any fun c => c.d.opcode == 1 || c.d.opcode == 2 || c.d.opcode == 3 || c.d.opcode == 0x0B

/-- A run that MECH_CAL_CMD OP 3 has started is under way on the mechanism (R203). -/
def State.forcedRun (s : State) (n : Nat) : Bool := s.cal.any fun e => e.1 / 65536 == 0 && e.1 / 16 == n && e.2.running.any fun i => e.2.forced.contains i

/-- A data command of the mechanism is runnable (R191): one that has not completed, or a buffered WRITE whose run is still to come. -/
def State.dataRunnable (s : State) (n : Nat) : Bool :=
  s.dataWork n || s.host.wbuf.any fun w => w.mn == n && (w.phase == .accepted || w.phase == .writing)

/-- The automatic focus, tracking, tilt and aberration runs of a mechanism are abandoned because a data command became runnable (R191, R208); forced runs,
the measurement of SA_PRESET and an OPC go on. -/
def State.abandonAutoRuns (s : State) (n : Nat) : State := s.abandonSome n fun r i => decide (i < 4) && !r.forced.contains i

/-- A WRITE of the mechanism to this layer waits for its run (R192); on BD media the layer in focus serves. -/
def State.writeWaits (s : State) (n layer : Nat) : Bool :=
  s.host.wbuf.any fun w => w.mn == n && w.phase == .accepted && (match w.clusters with
    | [] => isBd (s.get .MECH_DISC_MEDIA n)
    | k :: _ => k / 2 ^ 20 == layer)

/-- A run begins. One that needs RF binds a lane for its length (R194, R197, R209); a sweep goes to its first value, a balance run jumps +64 tracks. -/
def State.beginRun (s : State) (space index layer item : Nat) : State :=
  let s1 := s.modCal space index layer fun r => { r with running := if r.running.contains item then r.running else r.running ++ [item] }
  if space ≠ 0 then s1
  else if item = 4 then s1.modServo index fun v => { v with saRun := some { item := 4, layer := layer } }
  else
    let s2 := s1.modServo index fun v => { v with run := some { item := item, layer := layer } }
    if item = 1 then s2.startTrackJump index 64
    else if item = 5 then s2.askLane index false
    else (s2.askLane index false).sweepTo index item 0

/-! ### Ends of WRITEs (R360) -/

/-- One buffered WRITE is lost, and recorded for its function (R360). -/
def State.loseEntry (s : State) (w : WbEntry) : State :=
  let s1 := s.modHost fun h => { h with wbuf := h.wbuf.filter fun x => x.id != w.id }
  if w.fn < 256 then
    (s1.modHost fun h => { h with losses := tabMod h.losses (w.fn * 4096 + w.mn) {} fun l =>
      { tags := if l.tags.length < 64 then l.tags ++ [w.tag] else l.tags, count := l.count + 1 } }).logEntry
      { cls := 3, code := 2, sev := 3, mn := w.mn, fn := w.fn, detail0 := w.tag, detail1 := w.count }
  else if w.reloc then s1.repairLost w else s1

/-- A WRITE cannot be written for a cause that cannot pass: it is lost when it was completed under BUFFERED, else it completes with `st`. -/
def State.failEntry (s : State) (w : WbEntry) (st : Nat) : State :=
  let s0 := s.modDisc w.mn fun d => { d with commits := d.commits.map fun c => { c with wbs := c.wbs.filter fun i => i != w.id } }
  if w.buffered then (s0.loseEntry w).finishCommits w.mn
  else match s0.ctx w.fn w.tag with
    | none => s0.modHost fun h => { h with wbuf := h.wbuf.filter fun x => x.id != w.id }
    | some c => (s0.cutCmd c st).finishCommits w.mn

/-- The WRITEs of a mechanism that wait for write power on a layer end with a status (R192, R198, R360). -/
def State.failWrites (s : State) (n layer st : Nat) : State :=
  let waiting := fun (w : WbEntry) => w.mn == n && w.phase == .accepted && (match w.clusters with | [] => false | k :: _ => k / 2 ^ 20 == layer)
  s.forEach (s.host.wbuf.filter waiting) fun t w => t.failEntry w st

/-- A run fails with a cause (R198): value, VALID, STALE and T_RUN stay; log 0x0B.0x01. -/
def State.failRun (s : State) (space index layer item cause : Nat) (value : Int) : State :=
  let wait := s.get .MECH_CAL_CFG_RETRY_S * 1000000000
  let s1 := s.modCal space index layer fun r =>
    { r with running := r.running.erase item, forced := r.forced.erase item, fails := r.fails.set item (r.fails.getD item 0 + 1),
             retryAt := r.retryAt.set item (s.now + wait) }
  let s2 := ((((s1.set0 .MECH_CAL_LAST_CAUSE cause).set0 .MECH_CAL_LAST_SPACE space).set0 .MECH_CAL_LAST_LAYER layer).set0
    .MECH_CAL_LAST_ITEM item).set0 .MECH_CAL_LAST_INDEX index
  (s2.bump .MECH_CAL_STAT_FAILS).logEntry { cls := 0x0B, code := 1, sev := 1, mn := if space = 0 then index else 0xFFFF,
                                            detail0 := (s2.rd .MECH_CAL_LAST).toNat, detail1 := unsignedOf 32 value }

/-- An OPC starts on the next unused test block of the layer; `probe` is the first blank one, found when none was used since the MOUNT
(R197, R279). With none left the test zone is exhausted (R198). -/
def State.startOpc (s : State) (n layer probe : Nat) : State :=
  let next := tabGet (s.disc n).testNext layer probe
  if 4096 ≤ next then
    let s1 := (s.failRun 0 n layer 5 4 0).logEntry { cls := 0x0B, code := 2, sev := 2, mn := n, detail0 := layer }
    if calValid (s.entry n layer) 5 then s1 else s1.failWrites n layer 0x0321
  else
    ((s.modDisc n fun d => { d with testNext := tabIns d.testNext layer (next + 1) }).beginRun 0 n layer 5).modRun n fun r => { r with block := next }

/-- A run of this item may start now. -/
def State.runAllowed (s : State) (space index layer item : Nat) : Bool :=
  let r := s.calRec space index layer
  let forced := r.forced.contains item
  let auto := needsRun r item && decide (r.fails.getD item 0 < s.get .MECH_CAL_CFG_FAIL_STOP) && r.retryAt.getD item 0 == 0
  if s.get .DRN_PSTAT_STATE ≠ 1 then false
  else if space = 0 then
    let v := s.sx index
    let here := (s.mst index == 6 || s.mst index == 7) && v.layer == layer && s.calSelErr 0 index layer == 0 && !s.injMoves index item && v.run.isNone &&
      s.onTrack index
    if item = 4 then s.ls index 0 != 0 && v.layer == layer && s.calSelErr 0 index layer == 0
    else if item = 5 then here && (forced || (auto && s.on .MECH_CAL_CFG_AUTO_MECH && s.writeWaits index layer))
    else here && (forced || (auto && s.on .MECH_CAL_CFG_AUTO_MECH && !s.dataRunnable index))
  else s.calSelErr space index layer == 0 && item == 0 && space != 2 && (forced || (auto && s.on .MECH_CAL_CFG_AUTO_DEV))

/-- CAL_RETRY: RETRY_S has passed since a failure (R198). -/
def execCalRetry (space : Fin 4) (index : Fin 4096) (layer : Fin 10) (item : Fin 6) (s : State) : Out :=
  fin (s.modCal space index (calLayer space layer) fun r =>
    if r.retryAt.getD item 0 ≤ s.now then { r with retryAt := r.retryAt.set item 0 } else r)

/-! ### Results (R194 to R198, R201) -/

/-- The outcome of a run: new dwords of the record, or a failure with its cause and the value produced. -/
inductive CalResult where
  | pass (d : List Nat)
  | fail (cause : Nat) (value : Int)
  deriving DecidableEq, Repr

/-- The largest change and the absolute limit of an offset item, in counts. -/
def offLimit (item : Nat) : Int := if item = 0 then 4000 else if item = 1 then 3000 else if item = 4 then 24000 else 6000
def offChange (item : Nat) : Int := if item = 0 then 1500 else if item = 1 then 1000 else if item = 4 then 4000 else 2000

/-- The value of an offset item, and the record with a new one. -/
def offValue (r : CalRec) (item : Nat) : Int := if item = 4 then calSaPreset r else (calOffs r).getD item 0
def putOff (d : List Nat) (item : Nat) (v : Int) : List Nat :=
  let u := unsignedOf 16 v
  match item with
  | 0 => putBits d 0 0 16 u
  | 1 => putBits d 0 16 16 u
  | 2 => putBits d 1 0 16 u
  | 3 => putBits d 1 16 16 u
  | _ => putBits d 2 0 16 u

/-- Limits of R198 on a new offset. -/
def checkOff (r : CalRec) (item : Nat) (v : Int) : CalResult :=
  if offLimit item < v.natAbs then .fail 1 v
  else if calValid r item && decide (offChange item < (v - offValue r item).natAbs) then .fail 2 v
  else .pass (putOff r.d item v)

/-- The vertex of the parabola through the nine points of a sweep, as a fraction of steps from the centre: numerator, denominator (R194).
The denominator is positive exactly when the fit opens downward. -/
def sweepVertex (m : List Int) : Int × Int :=
  let j := fun (k : Nat) => (k : Int) - 4
  let sum := fun (f : Int → Int) => (List.range 9).foldl (fun a k => a + f (j k) * m.getD k 0) (0 : Int)
  (231 * sum (fun x => x), 10 * (60 * sum (fun _ => 1) - 9 * sum (fun x => x * x)))

/-- A sweep's result. -/
def sweepResult (r : CalRec) (item : Nat) (m : List Int) : CalResult :=
  let v := sweepVertex m
  if m.length ≠ 9 ∨ v.2 ≤ 0 ∨ 4 * v.2 < v.1.natAbs then .fail 3 0
  else checkOff r item ((2 * (offValue r item * v.2 + sweepStep item * v.1) + v.2) / (2 * v.2))

/-- A tracking balance run's result (R195). -/
def trackResult (r : CalRec) (ivals : List (Int × Int)) : CalResult :=
  let n : Int := ivals.length
  let sum := ivals.foldl (fun a e => a + e.1 + e.2) (0 : Int)
  let span := ivals.foldl (fun a e => a + (e.1 - e.2)) (0 : Int)
  if n < 96 ∨ span < 4000 * n then .fail 3 0 else checkOff r 1 ((sum + n) / (2 * n))

/-- The write power of one beam from its eleven beta values (R197), 0.01 mW; none when the curve check fails. -/
def opcPower (pw : Nat) (target : Int) (b : List Int) : Option Nat :=
  let at_ := fun k => b.getD k 0
  if b.length ≠ 11 ∨ ¬ ((List.range 10).all fun k => decide (at_ k < at_ (k + 1))) ∨ target < at_ 0 ∨ at_ 10 < target then none
  else
    ((List.range 10).find? fun k => decide (at_ k ≤ target) && decide (target ≤ at_ (k + 1))).map fun k =>
      let den := 100 * (at_ (k + 1) - at_ k)
      let num := (pw : Int) * ((80 + 4 * (k : Int)) * (at_ (k + 1) - at_ k) + 4 * (target - at_ k))
      ((2 * num + den) / (2 * den)).toNat

/-- The OPC's result over the beams used. -/
def opcResult (r : CalRec) (beams : List Nat) (pw : Nat) (target : Int) (betas : List (List Int)) : CalResult :=
  let rec go : List Nat → List Nat → CalResult
    | [], d => .pass d
    | b :: l, d => match opcPower pw target (betas.getD b []) with
      | none => .fail 3 0
      | some v =>
        if v * 100 < 85 * pw ∨ 115 * pw < v * 100 then .fail 1 v
        else if calValid r 5 && decide (8 * calPw r b < ((v : Int) - calPw r b).natAbs * 100) then .fail 2 v
        else go l (putBits d (3 + b / 2) (16 * (b % 2)) 16 v)
  go beams r.d

/-- A monitor channel's result (R201): gain Q2.14 and offset in counts. -/
def monitorResult (r : CalRec) (vref gnd : Int) : CalResult :=
  let ref : Int := Config.monitorRef
  let fs : Int := Config.monitorFullScale
  if ref < 20 * (vref - ref).natAbs ∨ vref ≤ gnd then .fail 3 0
  else
    let den := vref - gnd
    let g := (2 * ref * 16384 + den) / (2 * den)
    let o := -gnd
    let g0 : Int := dwBits r.d 0 0 16
    let o0 : Int := signed 16 (dwBits r.d 0 16 16)
    if g * 10000 < 9500 * 16384 ∨ 10500 * 16384 < g * 10000 then .fail 1 g
    else if fs * 2 < 100 * o.natAbs then .fail 1 o
    else if calValid r 0 && decide (100 * 16384 < (g - g0).natAbs * 10000) then .fail 2 g
    else if calValid r 0 && decide (fs * 5 < 1000 * (o - o0).natAbs) then .fail 2 o
    else .pass (putBits (putBits r.d 0 0 16 (unsignedOf 16 g)) 0 16 16 (unsignedOf 16 o))

/-- The betas that the read-back of an OPC has measured, per beam (R197). -/
def State.opcBetas (s : State) (n : Nat) : List (List Int) := match s.laneOf n with
  | some f => (List.range 4).map fun b => (s.beam f b).betas
  | none => []

/-- The angle of an OPC's read-back is past its block. -/
def State.opcRead (s : State) (n : Nat) (r : CalRunX) : Bool := match (s.laneOf n).bind fun f => (s.lane f).run with
  | some x => r.phase == 4 && decide ((opcBits : Int) * 65536 ≤ s.bitAtAngle n x.r0 r.ang)
  | none => false

/-- The run has measured all it needs. -/
def State.measuredAll (s : State) (n item : Nat) : Bool :=
  if item = 4 then (match (s.sx n).saRun with
    | some r => decide (2 ≤ r.phase)
    | none => false)
  else match (s.sx n).run with
    | none => false
    | some r => r.item == item && (if item = 1 then r.phase == 2 else if item = 5 then s.opcRead n r else r.ms.length == 9)

/-- The result of a run from what it measured. -/
def State.calResult (s : State) (space index layer item : Nat) (x : CalData) : CalResult :=
  let r := s.calRec space index layer
  if space = 0 then
    if item = 4 then match (s.sx index).saRun with
      | some q => if q.phase = 2 then checkOff r 4 ((2 * q.sum + q.n) / (2 * max 1 q.n : Nat)) else .fail 3 0
      | none => .fail 3 0
    else if item = 5 then
      let p := s.opcNominal index layer
      opcResult r ((List.range 4).filter fun b => bitAt (s.beamSet index) b == 1) p.1 p.2 (s.opcBetas index)
    else
      let q := (s.sx index).run.getD { item := item, layer := layer }
      if item = 1 then trackResult r q.ivals else sweepResult r item q.ms
  else
    match x with
    | .link d0 d1 inRange held =>
      if space = 3 ∨ ¬ held then .fail 3 0 else if !inRange then .fail 1 0 else .pass ((r.d.set 0 d0.toNat).set 1 d1.toNat)
    | .monitor vref gnd => if space = 3 then monitorResult r vref gnd else .fail 3 0
    | .measured => .fail 3 0

/-- T_RUN of one item in a record, and the temperature that D5 shows (R203). -/
def putTRun (r : CalRec) (space item : Nat) (t : Int) : CalRec :=
  { r with tRun := r.tRun.set item t, d := putBits r.d 5 (if space = 0 ∧ item = 5 then 16 else 0) 16 (unsignedOf 16 t) }

/-- A run passes: value, VALID, STALE and T_RUN (R190), and the value takes effect (R199). -/
def State.passRun (s : State) (space index layer item : Nat) (d : List Nat) : State :=
  let t := s.tNow space index
  let s1 := s.modCal space index layer fun r0 =>
    let r := putTRun { r0 with d := putBits (putBits d 6 item 1 1) 6 (8 + item) 1 0 } space item t
    { r with running := r.running.erase item, forced := r.forced.erase item, fails := r.fails.set item 0, retryAt := r.retryAt.set item 0,
             runTime := s.now }
  let s2 := s1.bump .MECH_CAL_STAT_RUNS
  if space ≠ 0 then s2
  else if item = 5 then s2.refreshLevels index
  else if item = 4 then s2 else s2.rampOffsets index layer

/-! ### The window (R203) -/

/-- The selection of MECH_CAL_SEL: space, index, layer. -/
def State.calSel (s : State) : Nat × Nat × Nat := (s.get .MECH_CAL_SEL_SPACE, s.get .MECH_CAL_SEL_INDEX, s.get .MECH_CAL_SEL_LAYER)

/-- A command of the window ends with an ERR. -/
def State.calErr (s : State) (items err : Nat) : State := (s.set0 .MECH_CAL_CMD_ITEMS items).set0 .MECH_CAL_CMD_ERR err

/-- A write to MECH_CAL_CMD: discarded while BUSY; otherwise the selection is checked first. -/
def State.calCmd (s : State) (items : Nat) (f : State → Nat → Nat → Nat → State) : Out :=
  if s.on .MECH_CAL_CMD_BUSY then fin (s.set0 .MECH_CAL_CMD_ERR 4)
  else
    let q := s.calSel
    let e := s.calSelErr q.1 q.2.1 q.2.2
    if e ≠ 0 then fin (s.calErr items e) else fin (f (s.calErr items 0) q.1 q.2.1 (calLayer q.1 q.2.2))

/-- CAL_READ_WINDOW: MECH_CAL_CMD OP 1. -/
def execCalReadWindow (items : Fin 64) (s : State) : Out := regCmd s fun s =>
  s.calCmd items fun t space index layer =>
    t.forEach (List.range 8) fun u i => u.wr .MECH_CAL_DATA i 0 (BitVec.ofNat 32 (dw (s.calRec space index layer).d i))

/-- Every value of a record's dwords that is marked valid lies in its absolute range (R198). -/
def State.calInRange (s : State) (space index layer : Nat) (d : List Nat) : Bool :=
  let r : CalRec := { d := d }
  if space = 0 then
    let pw := ((s.disc index).leadIn.getD layer (0, 0)).1
    ((List.range 5).all fun i => decide ((offValue r i).natAbs ≤ offLimit i)) &&
      (!calValid r 5 || ((List.range 4).all fun b => bitAt (s.beamSet index) b == 0 ||
        (decide (85 * pw ≤ calPw r b * 100) && decide (calPw r b * 100 ≤ 115 * pw))))
  else if space = 3 then
    let g := dwBits d 0 0 16
    !calValid r 0 || (decide (9500 * 16384 ≤ g * 10000) && decide (g * 10000 ≤ 10500 * 16384) &&
      decide (100 * (signed 16 (dwBits d 0 16 16)).natAbs ≤ 2 * Config.monitorFullScale))
  else true

/-- Write a record's dwords as one action: VALID and T_RUN as written, STALE by R190; runs of it are abandoned (R208). -/
def State.putCal (s : State) (space index layer : Nat) (d : List Nat) : State :=
  let old := s.calRec space index layer
  let s0 := if space = 0 ∧ ¬ old.running.isEmpty then s.abandonRuns index else s
  let tOther := signed 16 (dw d 5)
  let tPw := signed 16 (dwBits d 5 16 16)
  -- SA_PRESET is measured at every lock; TX_PRESET of space 2 is read only
  let d1 := if space = 2 then d.set 1 (dw old.d 1) else d
  let s1 := s0.modCal space index layer fun r =>
    { r with d := putBits d1 6 8 6 0, tRun := if space = 0 then [tOther, tOther, tOther, tOther, tOther, tPw] else r.tRun.set 0 tOther, running := [] }
  let s2 := s1.tempStale space index layer
  if space = 0 then (s2.rampOffsets index layer).refreshLevels index else s2

/-- CAL_WRITE_WINDOW: MECH_CAL_CMD OP 2. -/
def execCalWriteWindow (items : Fin 64) (s : State) : Out := regCmd s fun s =>
  s.calCmd items fun t space index layer =>
    let d := (List.range 8).map fun i => (t.rd .MECH_CAL_DATA i).toNat
    if t.calInRange space index layer d then t.putCal space index layer d else t.calErr items 3

/-- CAL_MARK_STALE: MECH_CAL_CMD OP 4. -/
def execCalMarkStale (items : Fin 64) (s : State) : Out := regCmd s fun s =>
  s.calCmd items fun t space index layer =>
    let sel := if space = 0 then (List.range 6).filter fun i => bitAt items i == 1 else [0]
    t.modCal space index layer fun r => { r with d := sel.foldl (fun d i => putBits d 6 (8 + i) 1 1) r.d }

end Sys2Proof.Machine
end

