-- ==== Sys2Proof/Machine/Disc.lean ====
section
/-! DEFINITION. The extent map, cluster allocation, floe stripes and map appends of a mounted disc, as operations that the data commands
share (spec/09_codes_and_moraine.md R271 to R277; spec/10_floe_sets.md R286 to R291; spec/01_architecture.md R21, R22). -/

namespace Sys2Proof.Machine

/-- LBA, COUNT, layer, cluster, block. -/
abbrev Extent := Nat × Nat × Nat × Nat × Nat

/-! ### The extent map (R271, R275) -/

/-- Where an extent puts the block k blocks after its first. -/
def extentAt (e : Extent) (k : Nat) : Nat × Nat × Nat :=
  let q := e.2.2.2.1 * 28 + e.2.2.2.2 + k
  (e.2.2.1, q / 28, q % 28)

/-- Layer, cluster and block of an LBA. -/
def lookup (m : List Extent) (lba : Nat) : Option (Nat × Nat × Nat) :=
  (m.find? fun e => decide (e.1 ≤ lba) && decide (lba < e.1 + e.2.1)).map fun e => extentAt e (lba - e.1)

/-- What is left of extent e where the LBAs from lba, count of them, are mapped anew. -/
def trim (lba count : Nat) (e : Extent) : List Extent :=
  if e.1 + e.2.1 ≤ lba ∨ lba + count ≤ e.1 then [e]
  else
    let left := if e.1 < lba then [(e.1, lba - e.1, e.2.2)] else []
    let right := if lba + count < e.1 + e.2.1 then
        [(lba + count, e.1 + e.2.1 - (lba + count), extentAt e (lba + count - e.1))] else []
    left ++ right

/-- A later entry replaces an earlier one for every LBA that both cover. -/
def mapExtent (m : List Extent) (e : Extent) : List Extent := e :: m.flatMap (trim e.1 e.2.1)

def mapExtents (m : List Extent) (l : List Extent) : List Extent := l.foldl mapExtent m

/-- A place as layer x 2^20 + cluster. -/
def place (layer cluster : Nat) : Nat := layer * 2 ^ 20 + cluster
def placeLayer (p : Nat) : Nat := p / 2 ^ 20
def placeCluster (p : Nat) : Nat := p % 2 ^ 20

/-- The extents of a WRITE of count blocks from lba in clusters of 28 blocks: one for each run of successive places. -/
def writeExtents (lba count : Nat) (clusters : List Nat) : List Extent :=
  (clusters.foldl (fun (a : List Extent × Nat) p =>
    let n := min 28 (count - a.2)
    match a.1 with
    | e :: l =>
      if e.2.2.1 = placeLayer p ∧ e.2.2.2.1 + (e.2.1 + 27) / 28 = placeCluster p ∧ e.2.1 % 28 = 0 then ((e.1, e.2.1 + n, e.2.2) :: l, a.2 + n)
      else ((lba + a.2, n, placeLayer p, placeCluster p, 0) :: e :: l, a.2 + n)
    | [] => ([(lba + a.2, n, placeLayer p, placeCluster p, 0)], a.2 + n)) ([], 0)).1.reverse

/-- Logical blocks of the mounted disc (R271, R281). -/
def State.capacity (s : State) (n : Nat) : Nat :=
  if isBd (s.get .MECH_DISC_MEDIA n) then (s.disc n).bdCapacity else 24414096 * s.get .MECH_DISC_LAYERS n

/-! ### Allocation (R272) -/

/-- The next unwritten data cluster of a layer. -/
def DiscX.next (d : DiscX) (layer : Nat) : Nat := tabGet d.dataNext layer 0

/-- Unwritten data clusters of a disc. -/
def freeClusters (d : DiscX) (layers : Nat) : Nat := (List.range layers).foldl (fun a l => a + (d.dz - d.next l)) 0

/-- Take one cluster: from layer `pref` while it has any, else the lowest layer that has. -/
def takeCluster (d : DiscX) (layers pref : Nat) : Option (DiscX × Nat) :=
  let has := fun l => decide (l < layers) && decide (d.next l < d.dz)
  match (if has pref then some pref else (List.range layers).find? has) with
  | none => none
  | some l => some ({ d with dataNext := tabIns d.dataNext l (d.next l + 1) }, place l (d.next l))

/-- Take k clusters. -/
def takeClusters (layers pref : Nat) : Nat → DiscX → List Nat → Option (DiscX × List Nat)
  | 0, d, l => some (d, l.reverse)
  | k + 1, d, l => match takeCluster d layers pref with
    | none => none
    | some r => takeClusters layers pref k r.1 (r.2 :: l)

/-- Clusters for count blocks on mechanism n: the layer in focus first. -/
def State.allocate (s : State) (n count : Nat) : Option (State × List Nat) :=
  let pref := if servoActive (s.mst n) ∧ 5 ≤ s.mst n then (s.sx n).layer else 0
  (takeClusters (s.get .MECH_DISC_LAYERS n) pref ((count + 27) / 28) (s.disc n) []).map fun r => (s.modDisc n fun _ => r.1, r.2)

/-! ### Blocks as bytes -/

/-- The 4,096 bytes of a block and back. -/
def blockBytes (b : Nat) : List Nat := leBytes 4096 b
def bytesBlock (l : List Nat) : Nat := leAt l 0 4096

/-! ### Stripes (R286 to R290) -/

/-- The coefficient g of parity j and data member i (R286). -/
def floeCoef (j i : Nat) : Nat := gfInv (Nat.xor j (8 + i))

/-- Bytes of a unit or an accumulator. -/
def unitLen : Nat := 114688

/-- The bytes of a unit from the blocks of its cluster; missing blocks count as zeros. -/
def unitBytes (blocks : List Nat) : List Nat := ((List.range 28).map fun k => blocks.getD k 0).flatMap blockBytes

/-- An accumulator with a unit of member i added. -/
def accAdd (j i : Nat) (acc unit : List Nat) : List Nat :=
  List.zipWith (fun a b => Nat.xor a (gfMul (floeCoef j i) b)) acc unit

/-- The 28 blocks of an accumulator. -/
def accBlocks (acc : List Nat) : List Nat := (List.range 28).map fun k => bytesBlock ((acc.drop (4096 * k)).take 4096)

def FloeSet.stripe (f : FloeSet) (num : Nat) : Option StripeX := f.stripes.find? fun x => x.num == num

/-- Change one stripe of a set. -/
def State.modStripe (s : State) (id num : Nat) (g : StripeX → StripeX) : State :=
  s.modSet id fun f => { f with stripes := f.stripes.map fun x => if x.num = num then g x else x }

/-- A write of the device's own of 28 blocks to mechanism n, with clusters taken at once; none when the disc has none left or is sealed. -/
def State.ownWrite (s : State) (n lba : Nat) (data : List Nat) (stripe : Nat × Nat × Nat) (reloc : Bool) (from_ : Option Nat := none)
    (remap : List (Nat × Nat × Nat) := []) : Option State :=
  if s.on .MECH_DISC_SEALED n then none
  else (s.allocate n data.length).map fun r =>
    r.1.modHost fun h => { h with
      wbuf := h.wbuf ++ [{ id := h.nextWb, fn := 256, qpid := 0, tag := h.nextWb, mn := n, lba := lba, count := data.length, buffered := true,
                           phase := .accepted, data := data, clusters := r.2, stripe := some stripe, reloc := reloc,
                           movedFrom := from_, remap := remap }],
      nextWb := h.nextWb + 1 }

/-- The parity unit j of a stripe goes to its member, when that is mounted (R290). -/
def State.writeParity (s : State) (id num j : Nat) (blocks : List Nat) : State :=
  let i := (s.set_ id).k + j
  match s.memberMn id i with
  | none => s
  | some n => match s.ownWrite n (28 * num) blocks (id, num, i) false with
    | none => s
    | some t => t

/-- A stripe closes (R289, R290). -/
def State.closeStripe (s : State) (id num : Nat) : State :=
  match (s.set_ id).stripe num with
  | none => s
  | some x =>
    if !x.isOpen then s
    else
      let s1 := s.modStripe id num fun y => { y with isOpen := false, accs := [] }
      let s2 := if x.units.length < (s.set_ id).k then s1.raise .FLOE_EVENT_FORCE_CLOSE else s1
      s2.forEach (List.range (s.set_ id).m) fun t j => t.writeParity id num j (accBlocks (x.accs.getD j []))

/-- Open stripes of a set, oldest first. -/
def FloeSet.open_ (f : FloeSet) : List StripeX := f.stripes.filter (·.isOpen)

/-- KiB of the accumulator pool in use. -/
def State.accUsed (s : State) : Nat := s.floe.foldl (fun a e => a + (e.2.open_).length * (e.2.m * 112)) 0

/-- The oldest open stripe of the device: set and number. -/
def State.oldestOpen (s : State) : Option (Nat × Nat) :=
  (s.floe.foldl (fun (a : Option (Nat × Nat × Nat)) e => (e.2.open_).foldl (fun b x => match b with
    | none => some (x.opened, e.1, x.num)
    | some y => if x.opened < y.1 then some (x.opened, e.1, x.num) else b) a) none).map fun y => (y.2.1, y.2.2)

/-- Make room for one more open stripe of a set (R289). -/
def State.makeRoom (s : State) (id : Nat) : State :=
  let f := s.set_ id
  let s1 := match (if s.get .FLOE_GCFG_OPEN_MAX ≤ (f.open_).length then (f.open_).head? else none) with
    | none => s
    | some x => s.closeStripe id x.num
  if s1.get .FLOE_ACC_ACC_MIB * 1024 < s1.accUsed + f.m * 112 then
    match s1.oldestOpen with
    | none => s1
    | some (a, b) => s1.closeStripe a b
  else s1

/-- A unit of data member i, at `p` with these blocks, joins a stripe (R288, R289); `now` closes it at once. The stripe's number. -/
def State.joinStripe (s : State) (id i p : Nat) (blocks : List Nat) (close : Bool) : State × Nat :=
  let f := s.set_ id
  let u := unitBytes blocks
  let r : State × Nat := match (f.open_).find? fun x => !(x.units.any fun e => e.1 == i) with
    | some x => (s, x.num)
    | none =>
      let s1 := s.makeRoom id
      (s1.modSet id fun y => { y with used := y.used + 1, stripes := y.stripes ++
        [{ num := y.used, opened := s.now, isOpen := true, accs := List.replicate y.m (List.replicate unitLen 0) }] }, (s1.set_ id).used)
  let s2 := r.1.modStripe id r.2 fun x =>
    { x with units := x.units ++ [(i, p)], lens := x.lens ++ [(i, blocks.length)], accs := (List.range f.m).map fun j => accAdd j i (x.accs.getD j []) u }
  let full := match (s2.set_ id).stripe r.2 with
    | some x => decide (f.k ≤ x.units.length)
    | none => false
  (if full || close then s2.closeStripe id r.2 else s2, r.2)

/-- Stripes that a set may number: 0 to 871,932 x L - 1, L the least LAYERS of the parity members mounted (R287). -/
def State.stripeLimit (s : State) (id : Nat) : Nat :=
  let f := s.set_ id
  let ls := (List.range f.m).filterMap fun j => (s.memberMn id (f.k + j)).map fun n => s.get .MECH_DISC_LAYERS n
  871932 * ls.foldl min 10

/-- A commit of k units of data member i would need a stripe beyond the range (R292). -/
def State.stripesFull (s : State) (id i k : Nat) : Bool :=
  let f := s.set_ id
  let room := ((f.open_).filter fun x => !(x.units.any fun e => e.1 == i)).length
  decide (s.stripeLimit id < f.used + (k - room))

/-- Every parity member protects the stripe (R290). -/
def State.protected (s : State) (x : Nat × Nat) : Bool :=
  let f := s.set_ x.1
  match f.stripe x.2 with
  | none => true
  | some y => (List.range f.m).all fun j => y.prot.contains (f.k + j)

/-- Committed units not yet protected (FLOE_SET_UNPROT). -/
def unprotectedUnits (f : FloeSet) : Nat := f.stripes.foldl (fun a x => if x.prot.length < f.m then a + x.units.length else a) 0

/-- FLOE_DURABLE WRITEs whose stripes are all protected complete (R290). -/
def State.floeDurables (s : State) : State :=
  s.forEach (s.host.cmds.filter fun c => c.d.opcode == 2 && !c.stripes.isEmpty && c.stripes.all s.protected) fun t c =>
    t.complete c 0 16 c.d.count c.count1

/-! ### Write power and the WRITE grant (R192, R302, R360) -/

/-- The layer has valid write power. -/
def State.powerValid (s : State) (n layer : Nat) : Bool := calValid (s.entry n layer) 5

/-- A WRITE to the layer must wait for an OPC (R192): the power is stale and AUTO_MECH is set, unless a run has just failed. -/
def State.powerWaits (s : State) (n layer : Nat) : Bool :=
  let r := s.entry n layer
  r.running.contains 5 || (needsRun r 5 && s.on .MECH_CAL_CFG_AUTO_MECH && decide (r.fails.getD 5 0 < s.get .MECH_CAL_CFG_FAIL_STOP) &&
    r.retryAt.getD 5 0 == 0)

/-- The WRITE grant of mechanism n, asked for when it is neither held nor asked for: granted, still deferred, or refused for ever. -/
def State.askWrite (s : State) (n prio : Nat) (cmd : Option (Nat × Nat)) : State × Decision :=
  if s.get .DRN_PSTAT_STATE = 7 then (s, .deferred)
  else if (s.grants n).write.isSome then (s, .granted)
  else if s.mayRequest 3 n then s.request (s.mechRequest 3 n (if s.singleBeam n then 1 else 4) prio cmd)
  else (s, .deferred)

/-! ### Map appends (R22, R273 to R277) -/

/-- Clusters of the map zone, and the place of its k-th. -/
def State.mapZone (s : State) (n : Nat) : Nat := 16384 * s.get .MECH_DISC_LAYERS n
def mapPlace (k : Nat) : Nat := place (k / 16384) (0xF1840 + k % 16384)

/-- Runs of successive LBAs at successive blocks, from pairs of block and LBA: LBA, COUNT, first block. -/
def blockRuns (l : List (Nat × Nat)) : List (Nat × Nat × Nat) :=
  (l.foldl (fun (a : List (Nat × Nat × Nat)) e => match a with
    | (lba, c, b) :: r => if lba + c = e.2 ∧ b + c = e.1 then (lba, c + 1, b) :: r else (e.2, 1, e.1) :: (lba, c, b) :: r
    | [] => [(e.2, 1, e.1)]) []).reverse

/-- The live blocks of a cluster under a map: block and LBA. -/
def livePairs (m : List Extent) (p : Nat) : List (Nat × Nat) :=
  (List.range 28).filterMap fun b => (lbaAt m (placeLayer p) (placeCluster p) b).map fun lba => (b, lba)

/-- The extents that a write commits under the map m: those of its blocks, or of the live blocks of the unit it moves (R274, R295, R296). -/
def entryExtents (m : List Extent) (w : WbEntry) : List Extent :=
  let p := w.clusters.headD 0
  let moved := fun (l : List (Nat × Nat × Nat)) => l.map fun r => (r.1, r.2.1, placeLayer p, placeCluster p, r.2.2)
  match w.movedFrom with
  | some q => moved (blockRuns (livePairs m q))
  | none => if w.remap.isEmpty then (if w.reloc then [] else writeExtents w.lba w.count w.clusters) else moved w.remap

/-- DRAM in MiB. -/
def State.dramMib (s : State) : Nat := ((List.range 8).filter fun ch => bitAt (s.get .MEM_DDR_STAT_PRESENT) ch == 1).length * s.get .MEM_DDR_STAT_DIMM_GIB * 1024

/-- The extent map of a disc once the writes that it has accepted are committed. -/
def State.plannedMap (s : State) (n : Nat) : List Extent :=
  let m := (s.disc n).extents
  mapExtents m ((s.host.wbuf.filter fun w => w.mn == n && w.phase != .fetching).flatMap (entryExtents m))

/-- Bytes of DRAM that the users other than extent maps leave (R397, "DRAM users"): staging, the code of the active image (at most one flash slot,
R375), the write buffer, the accumulators, the LLR rings, the library, the drive records, and for each layer of a mounted disc its taps and its
profile. -/
def State.mapPool (s : State) : Nat :=
  let dram := s.dramMib * 2 ^ 20
  let layers := (s.mech.filter fun e => s.on .MECH_STATE_MOUNTED e.1).foldl (fun a e => a + s.get .MECH_DISC_LAYERS e.1) 0
  let code := min (Config.codeBytes s.fw.running) (120 * 2 ^ 20)
  dram - (128 * 2 ^ 20 + code + dram / 8 + s.get .FLOE_ACC_ACC_MIB * 2 ^ 20 + 27648 * 2 * 4 * 256 + 65 * 1024 + layers * (480 + 4160))

/-- The bytes of the extent maps of the mounted discs, with the extents of one WRITE more on mechanism n. -/
def State.mapBytes (s : State) (n : Nat) (l : List Extent) : Nat :=
  16 * (s.mech.filter fun e => s.on .MECH_STATE_MOUNTED e.1).foldl
    (fun a e => a + (if e.1 = n then (mapExtents (s.plannedMap n) l).length else (s.plannedMap e.1).length)) 0

/-- The commit record of a WRITE whose frames are all on disc. -/
def commitOf (w : WbEntry) : CommitRec :=
  { atomicId := w.atomicId, atomic := w.atomic, extents := writeExtents w.lba w.count w.clusters, wbs := [w.id] }

/-- The mechanism can write the append that is due (R22): on track, with its permit and valid write power. -/
def State.appendReady (s : State) (n : Nat) : Bool :=
  s.on .MECH_STATE_MOUNTED n && isHaf (s.get .MECH_DISC_MEDIA n) && (s.mst n == 6 || s.mst n == 7) && s.permit n && !s.on .MECH_DISC_SEALED n &&
  s.powerValid n (placeLayer (mapPlace (s.disc n).mapNext)) && decide ((s.disc n).mapNext < s.mapZone n) && s.get .DRN_PSTAT_STATE != 7

/-- The units of a WRITE: its places, each with its blocks. -/
def unitsOf (w : WbEntry) : List (Nat × List Nat) :=
  (List.range w.clusters.length).map fun k => (w.clusters.getD k 0, (w.data.drop (28 * k)).take 28)

/-- The extents of a commit of data member i, as MEMBER records carry them to the parity members (R290). -/
def State.addMaps (s : State) (id i : Nat) (l : List Extent) : State :=
  s.modSet id fun f => { f with maps := f.maps ++ l.map fun e =>
    { member := i, lba := e.1, count := e.2.1, layer := e.2.2.1, cluster := e.2.2.2.1, block := e.2.2.2.2 } }

/-- The units of a durable WRITE of a data member join stripes (R288): the stripes they joined. -/
def State.joinAll (s : State) (id i : Nat) (close : Bool) : List (Nat × List Nat) → List (Nat × Nat) → State × List (Nat × Nat)
  | [], l => (s, l)
  | u :: us, l =>
    let r := s.joinStripe id i u.1 u.2 close
    State.joinAll r.1 id i close us (l ++ [(id, r.2)])

/-- A data commit is kept for the MEMBER records that carry it (R290). -/
def State.noteCommit (s : State) (id : Nat) (m : MemberCommit) : State := s.modSet id fun f => { f with memberCommits := f.memberCommits ++ [m] }

/-- A parity unit, or a unit that a repair or rebuild moved, is durable with the extents committed for it (R290, R295). -/
def State.ownDurable (s : State) (w : WbEntry) (id num i : Nat) (exts : List Extent) : State :=
  if i < (s.set_ id).k then
    let s1 := s.modStripe id num fun x => { x with units := x.units.map fun e => if e.1 = i then (i, w.clusters.headD e.2) else e }
    let s2 := s1.addMaps id i exts
    let s2 := s2.noteCommit id { member := i, reloc := true, units := [(num, w.clusters.headD 0)], exts := exts }
    if w.movedFrom.isSome then (s2.raise .FLOE_EVENT_REPAIR).bump .FLOE_CNT_REPAIR_COUNT
    else s2.modSet id fun f => { f with rebuild := f.rebuild.map fun r => if r.target = w.mn then { r with done := r.done + 1 } else r }
  else
    let again := match (s.set_ id).stripe num with
      | some x => x.resync.contains i
      | none => false
    let s1 := s.modStripe id num fun x =>
      { x with prot := i :: x.prot.filter (fun p => p != i), resync := x.resync.filter fun p => p != i }
    let s2 := if again then s1.raise .FLOE_EVENT_RESYNC else s1
    let s3 := if w.reloc then (s2.raise .FLOE_EVENT_REPAIR).bump .FLOE_CNT_REPAIR_COUNT else s2
    (s3.modSet id fun f => { f with rebuild := f.rebuild.map fun r => if r.target = w.mn then { r with done := r.done + 1 } else r }).floeDurables

/-- One WRITE becomes durable in the append of generation gen (R21, R356, R361). -/
def State.writeDurable (s : State) (gen : Nat) (w : WbEntry) (exts : List Extent) : State :=
  let s0 := (s.modHost fun h => { h with wbuf := h.wbuf.filter fun x => x.id != w.id }).modMech w.mn fun m =>
    if w.fn < 256 then { m with tlWrite := m.tlWrite + w.count } else m
  let s1 := s0.modHost fun h => { h with cmds := h.cmds.map fun c =>
    if c.d.opcode == 4 && c.covers.contains w.id then { c with count1 := c.count1 + 1 } else c }
  let data := match s.memberOf w.mn with
    | some (id, i) => if i < (s.set_ id).k ∧ w.stripe.isNone then some (id, i) else none
    | none => none
  let r : State × List (Nat × Nat) := match data with
    | some (id, i) =>
      let u := (s1.addMaps id i exts).joinAll id i w.floeDurable (unitsOf w) []
      (u.1.noteCommit id { member := i, units := (u.2.map (·.2)).zip w.clusters, exts := exts }, u.2)
    | none => (s1, [])
  let s2 := match w.stripe with
    | some (id, num, i) => r.1.ownDurable w id num i exts
    | none => r.1
  if w.buffered then s2
  else match s2.ctx w.fn w.tag with
    | none => s2
    | some c =>
      if w.floeDurable && !(r.2.all s2.protected) then s2.modCtx w.fn w.tag fun x => { x with stripes := r.2, count1 := gen }
      else s2.complete c 0 16 w.count gen

/-- Records that need a stripe beyond the range leave the append; their WRITEs end with 0x0705 (R292). -/
def State.refuseFull (s : State) (n : Nat) (l : List WbEntry) : State × List WbEntry :=
  match s.memberOf n with
  | none => (s, l)
  | some (id, i) =>
    l.foldl (fun (a : State × List WbEntry) w =>
      if i < (s.set_ id).k ∧ w.stripe.isNone ∧ a.1.stripesFull id i ((a.2 ++ [w]).foldl (fun k x => k + x.clusters.length) 0) then
        ((a.1.failEntry w 0x0705).raise .FLOE_EVENT_SET_FULL, a.2)
      else (a.1, a.2 ++ [w])) (s, [])

/-- The write-buffer entries that wait for their commit record, in the order of their records. -/
def State.committing (s : State) (n : Nat) : List WbEntry :=
  let d := s.disc n
  let ids := (d.appending ++ d.commits).flatMap (·.wbs)
  ids.filterMap fun i => s.host.wbuf.find? fun w => w.id == i

/-! #### The bytes of an append (R273, R274, R290) -/

/-- An extent entry of 16 bytes. -/
def entryBytes (e : Extent) : List Nat :=
  leBytes 8 (e.1 + e.2.1 * 2 ^ 48) ++ leBytes 4 (e.2.2.2.1 + e.2.2.2.2 * 2 ^ 20 + e.2.2.1 * 2 ^ 25) ++ leBytes 4 0

/-- A record: its opening, then its body, padded to 8 bytes. -/
def recordBytes (type n : Nat) (body : List Nat) : List Nat :=
  [type, 0] ++ leBytes 2 body.length ++ leBytes 4 n ++ body ++ List.replicate ((8 - body.length % 8) % 8) 0

/-- A COMMIT record. -/
def commitBytes (w : WbEntry) (l : List Extent) : List Nat :=
  recordBytes 1 l.length (leBytes 2 w.atomicId ++ leBytes 2 (b2n w.atomic) ++ leBytes 4 0 ++ l.flatMap entryBytes)

/-- A MEMBER record of a data commit; `own` is the one on the data member itself, without extent entries. -/
def memberBytes (m : MemberCommit) (own : Bool) : List Nat :=
  let l := if own then [] else m.exts
  recordBytes 4 l.length ([m.member, b2n m.reloc] ++ leBytes 2 m.units.length ++ leBytes 4 0 ++
    m.units.flatMap (fun u => leBytes 4 u.1 ++ leBytes 4 (placeCluster u.2 + placeLayer u.2 * 2 ^ 25)) ++ l.flatMap entryBytes)

/-- The user data of an append cluster: the header with its CRC, the records, zeros. -/
def appendImage (disc gen ckpt flags nrec now : Nat) (recs : List Nat) : List Nat :=
  let h := leBytes 2 0x4A4D ++ leBytes 2 1 ++ leBytes 4 gen ++ leBytes 8 disc ++ leBytes 8 now ++ leBytes 4 ckpt ++ leBytes 4 nrec ++
    leBytes 4 recs.length ++ leBytes 4 flags ++ List.replicate 20 0
  let b := h ++ leBytes 4 (crc32c (h ++ recs)) ++ recs
  b ++ List.replicate (114688 - b.length) 0

/-- The extents of each write of an append, under the map that the writes before it leave, and the map after all. -/
def appendExtents : List Extent → List WbEntry → List (WbEntry × List Extent) × List Extent
  | m, [] => ([], m)
  | m, w :: l =>
    let e := entryExtents m w
    let r := appendExtents (mapExtents m e) l
    ((w, e) :: r.1, r.2)

/-- The data commits that a parity unit of a stripe takes to the journal of parity member i: those with a unit of the stripe, and those that moved units. -/
def FloeSet.toCarry (f : FloeSet) (i num : Nat) : List MemberCommit :=
  f.memberCommits.filter fun m => !m.carried.contains i && (m.reloc || m.units.any fun u => u.1 == num)

/-- The data commits that an append carries to parity members. -/
def State.carriedBy (s : State) (l : List WbEntry) : List MemberCommit :=
  (l.filterMap (·.stripe)).foldl (fun r x =>
    let f := s.set_ x.1
    if x.2.2 < f.k then r else r ++ (f.toCarry x.2.2 x.2.1).filter fun m => !r.contains m) []

/-- The journals of the parity members of an append carry those commits now. -/
def State.markCarried (s : State) (l : List WbEntry) : State :=
  s.forEach (l.filterMap (·.stripe)) fun t x => t.modSet x.1 fun f =>
    if x.2.2 < f.k then f
    else
      let c := f.toCarry x.2.2 x.2.1
      { f with memberCommits := f.memberCommits.map fun m => if c.contains m then { m with carried := x.2.2 :: m.carried } else m }

/-- At least the bytes that a write's records take in an append. -/
def State.recordSize (s : State) (n : Nat) (w : WbEntry) : Nat :=
  32 + 16 * (entryExtents (s.disc n).extents w).length + 8 * w.clusters.length + match w.stripe with
    | some (id, num, i) =>
      if i < (s.set_ id).k then 0 else (((s.set_ id).toCarry i num).map fun m => 16 + 8 * m.units.length + 16 * m.exts.length).foldl (· + ·) 0
    | none => 0

/-- The records that fit one append, the first always. -/
def State.takeFit (s : State) (n : Nat) (l : List WbEntry) : List WbEntry :=
  (l.foldl (fun (a : List WbEntry × Nat × Bool) w =>
    let k := a.2.1 + s.recordSize n w
    if a.2.2 || (decide (114616 < k) && !a.1.isEmpty) then (a.1, k, true) else (a.1 ++ [w], k, false)) ([], 0, false)).1

/-- The writes whose records the next append holds: after a failed append the same ones (R276), else those waiting that fit. -/
def State.appendSet (s : State) (n : Nat) : List WbEntry :=
  let of_ := fun (l : List CommitRec) => (l.flatMap (·.wbs)).filterMap fun i => s.host.wbuf.find? fun w => w.id == i
  match of_ (s.disc n).appending with
  | [] => s.takeFit n (of_ (s.disc n).commits)
  | l => l

/-- An append of the pending commit records is on disc (R22, R276, R277). -/
def State.appendDone (s : State) (n : Nat) : State :=
  let d := s.disc n
  let gen := d.gen + 1
  let r := s.refuseFull n (s.appendSet n)
  let ids := r.2.map (·.id)
  let last := decide (s.mapZone n ≤ d.mapNext + 1) || decide (0xFFFFFFFF ≤ gen)
  let x := appendExtents d.extents r.2
  let s1 := r.1.modDisc n fun y =>
    { y with gen := gen, mapNext := y.mapNext + 1, sinceCkpt := y.sinceCkpt + 1, appending := [],
             commits := y.commits.filter (fun c => !(c.wbs.all fun i => ids.contains i)), extents := x.2 }
  let durable := fun (t : State) => x.1.foldl (fun u e => u.writeDurable gen e.1 e.2) t
  let own := (s.memberOf n).toList.flatMap fun q =>
    ((durable s1).set_ q.1).memberCommits.drop (s1.set_ q.1).memberCommits.length
  let commits := x.1.map fun e => commitBytes e.1 e.2
  let recs := commits ++ own.map (memberBytes · true) ++ (s1.carriedBy r.2).map (memberBytes · false) ++
    (if last then [recordBytes 3 0 []] else [])
  let s2 := s1.emit (.append n gen d.mapNext (appendImage (s.mx n).discId gen d.ckptGen (if last then 4 else 0) recs.length s.now recs.flatten))
  let s3 := (durable s2).markCarried r.2
  let s4 := if last then
      let t := (s3.set .MECH_DISC_SEALED n 1).logEntry { cls := 7, code := 5, sev := 0, mn := n, detail0 := gen }
      (t.committing n).foldl (fun u w => u.failEntry w 0x0330) t
    else s3
  s4.finishCommits n

/-- An append failed: the next map cluster takes the same records under the same GEN (R276). -/
def State.appendFailed (s : State) (n : Nat) : State :=
  let d := s.disc n
  let ids := (s.appendSet n).map (·.id)
  let mine := fun (c : CommitRec) => c.wbs.any fun i => ids.contains i
  (s.modDisc n fun x => { x with mapNext := x.mapNext + 1, appending := (x.appending ++ x.commits).filter mine,
                                 commits := x.commits.filter fun c => !mine c }).logEntry
    { cls := 7, code := 4, sev := 1, mn := n, detail0 := d.gen + 1, detail1 := placeCluster (mapPlace d.mapNext) }

/-- The WRITE grant goes back at the end of a run, and a lane bound for the device's own access is released (R302, R209). -/
def State.endRun (s : State) (n : Nat) : State :=
  let s1 := s.returnGrant n fun g => { g with write := none }
  match s1.laneOf n with
  | none => s1
  | some f => if (s1.lane f).own then s1.backToTracking n else s1

/-- MAP_APPEND: the append of mechanism mn's pending commit records ends, written (`ok`) or failed. One whose grant is deferred or refused stays
pending; a record leaves it at its WRITE's deadline (R22), and a refusal under R310 loses the buffered WRITEs (R360). -/
def execMapAppend (mn : Mn) (ok : Bool) (s : State) : Out :=
  if (s.committing mn).isEmpty ∨ ¬ s.appendReady mn then fin s
  else match s.askWrite mn 0 none with
    | (t, .granted) => fin ((if ok then t.appendDone mn else t.appendFailed mn).endRun mn)
    | (t, .deferred) => fin t
    | (t, .refused) => fin ((((s.committing mn).filter (·.buffered)).foldl (fun u w => u.failEntry w 0x040B) t).endRun mn)

/-- APPEND_RETRY: the cause that held a pending append back has passed: the mechanism spins up when it is PARKED, binds a lane and asks for
its WRITE grant (R22). -/
def execAppendRetry (mn : Mn) (s : State) : Out :=
  if (s.committing mn).isEmpty ∨ ¬ s.on .MECH_STATE_MOUNTED mn ∨ ¬ s.permit mn then fin s
  else if s.mst mn = 2 then
    let p := mapPlace (s.disc mn).mapNext
    if s.on .MECH_STATE_BUSY mn then fin s else fin (s.wantSpin mn (s.clusterSpeed mn (placeLayer p) (placeCluster p)) (placeLayer p))
  else if s.mst mn = 6 ∨ s.mst mn = 7 then fin ((s.askLane mn ((s.laneOf mn).isNone && !s.laneWork mn)).askWrite mn 0 none).1
  else fin s

end Sys2Proof.Machine
end

