-- ==== Sys2Proof/Machine/WriteSide.lean ====
section
/-! DEFINITION. The write side of a lane (spec/08 R233 to R236, spec/09 R246, R250 to R253, R268): the channel bits of a write run, where they fall on the
disc and in time, the pulse descriptors of a frame's write burst, and the frame tick that sends them. -/

namespace Sys2Proof.Machine

/-! ### Channel bits of a run -/

/-- Bytes as codeword bits 8k to 8k + 7, most significant bit first (R251). -/
def infoWord (bytes : List Nat) : Nat :=
  (bytes.foldr (fun b (a : Nat) => a * 256 + (List.range 8).foldl (fun r i => r + b / 2 ^ (7 - i) % 2 * 2 ^ i) 0) 0)

/-- The codeword of 33,024 information bits (R253). The parity part has blocks of equal shift in rows 0 and 14 of its first column and one identity
between, so that the syndromes of all rows add up to the first parity block; each row then gives the next one. -/
def encodeLdpc (m : MatrixX) (info : Nat) : Nat :=
  let p0 := (List.range 15).foldl (fun a r => Nat.xor a (rowSyndrome m.entries info r)) 0
  (List.range 14).foldl (fun w r => w + rowSyndrome m.entries w r * 2 ^ (256 * (130 + r))) (info + p0 * 2 ^ (256 * 129))

/-- The n bits of a number, most significant first. -/
def msbBits (n v : Nat) : List Bool := (List.range n).map fun i => v / 2 ^ (n - 1 - i) % 2 == 1

/-- The 37,344 channel bits of a HAF frame (spec/08 "HAF disc frame", R228, R251). -/
def frameChannel (word : Nat) : List Bool :=
  let cw := (prbs 36864).zipIdx.map fun e => (e.1 + word / 2 ^ e.2) % 2 == 1
  (List.range 80).flatMap (fun _ => [false, false, true, true]) ++ msbBits 48 sm1 ++ cw.take 976 ++ msbBits 48 sm2 ++ cw.drop 976 ++
    (List.range 64).map Config.guardBit

/-- The LBA of data block i of a write: of the device's own moved blocks as they are mapped, none for padding. -/
def blockLba (w : WbEntry) (i : Nat) : Option Nat :=
  if w.fn = 256 then (w.remap.find? fun r => decide (r.2.2 ≤ i) && decide (i < r.2.2 + r.2.1)).map fun r => r.1 + (i - r.2.2)
  else if i < w.count then some (w.lba + i) else none

/-- Data sector f of the k-th cluster of a write: header, block, CRC-64, eight zeros (R250, R252). -/
def dataSector (w : WbEntry) (k f : Nat) : List Nat :=
  let p := w.clusters.getD k 0
  let h := match blockLba w (28 * k + f) with
    | some a => sectorHeader (placeCluster p) f (placeLayer p) 0 a 0
    | none => sectorHeader (placeCluster p) f (placeLayer p) 0 (2 ^ 48 - 1) 1
  let b := h ++ leBytes 4096 (w.data.getD (28 * k + f) 0)
  b ++ leBytes 8 (crc64 b) ++ List.replicate 8 0

/-- The 32 sectors of the k-th cluster of a write: bytes 16 to 4,119 of the parity sectors are the outer code's (R268). -/
def clusterSectors (w : WbEntry) (k : Nat) : List (List Nat) :=
  let p := w.clusters.getD k 0
  let data := (List.range 28).map (dataSector w k)
  let cols := (List.range 4104).map fun j => rsFix (data.map (fun b => b.getD (16 + j) 0) ++ [0, 0, 0, 0]) [28, 29, 30, 31]
  data ++ [28, 29, 30, 31].map fun i => sectorHeader (placeCluster p) i (placeLayer p) 1 0 0 ++ cols.map (fun c => c.getD i 0) ++ List.replicate 8 0

/-- The channel bits of beam b over a run: frame f of a cluster on beam f mod 4, in the order of f div 4 (R246). On BD media beam 0 writes what the format
gives (R240). -/
def State.runBits (s : State) (w : WbEntry) (b : Nat) : List Bool :=
  if isBd (s.get .MECH_DISC_MEDIA w.mn) then (if b = 0 then Config.bdChannel w.lba w.data else [])
  else
    let m := (s.matrixOf (s.disc w.mn).matrix).getD {}
    (List.range w.clusters.length).flatMap fun k =>
      (List.range 8).flatMap fun q => frameChannel (encodeLdpc m (infoWord ((clusterSectors w k).getD (4 * q + b) [])))

/-- Channel bits of a run on each beam. -/
def State.runLength (s : State) (w : WbEntry) : Nat :=
  if isBd (s.get .MECH_DISC_MEDIA w.mn) then (Config.bdChannel w.lba w.data).length else 298752 * w.clusters.length

/-! ### Marks and level edges (R234, R235) -/

/-- A mark: its first bit, its length, the length of the space before it. -/
structure MarkX where
  start : Nat
  len : Nat
  space : Nat
  deriving DecidableEq, Repr

/-- The marks of channel bits from index i on, `sp` bits into a space and `mk` bits into a mark. -/
def marksGo : List Bool → Nat → Nat → Nat → List MarkX
  | [], i, sp, mk => if mk = 0 then [] else [{ start := i - mk, len := mk, space := sp }]
  | true :: l, i, sp, mk => marksGo l (i + 1) sp (mk + 1)
  | false :: l, i, sp, mk =>
    if mk = 0 then marksGo l (i + 1) (sp + 1) 0 else { start := i - mk, len := mk, space := sp } :: marksGo l (i + 1) 1 0

/-- The level edges of a mark on beam b, in 1/16 T from the first bit of the run, each with its level; a pulse of no width is left out. -/
def markEdges (st : List Nat) (nMin b : Nat) (m : MarkX) : List (Int × Nat) :=
  let e := dw st (5 + 22 * b + 4 * min 4 (m.len - nMin) + min 3 (m.space - nMin))
  let t0 : Int := (16 * m.start : Nat)
  let t1 : Int := t0 + (16 * m.len : Nat)
  let dtf := signed 6 (e / 2 ^ 26)
  let w1 : Int := (e / 2 ^ 20 % 64 : Nat)
  let wl : Int := (e / 2 ^ 14 % 64 : Nat)
  let dte := signed 6 (e / 2 ^ 8)
  let wc : Int := (e / 2 ^ 2 % 64 : Nat)
  if (16 * m.len : Nat) + dte - dtf ≤ w1 + wl then [(t0 + dtf, 1), (t1 + dte, 0)]
  else
    [(t0 + dtf, 1), (t0 + dtf + w1, 2)] ++ (if wl = 0 then [] else [(t1 + dte - wl, 1)]) ++ (if wc = 0 then [] else [(t1 + dte, 3)]) ++ [(t1 + dte + wc, 0)]

/-! ### Where and when the bits fall (R233, R246) -/

/-- The radius of the B0 track at the first bit of a cluster, in 2^-24 nm (R246). -/
def State.clusterRadius (s : State) (n layer c : Nat) : Nat :=
  let z := (zoneEntry (s.disc n).zones layer c).getD (22400000, 0)
  isqrt (z.1 * z.1 * 2 ^ 48 + (c - z.2) * 9560064000 * 2 ^ 48 * 10 ^ 10 / 31415926536)

/-- The disc angle of a radius on the band spiral of 640 nm a revolution, which passes 22.400 mm at the angular reference (R244). -/
def spiralAngle (r : Nat) : Nat := (r - 22400000 * 2 ^ 24) * 2 ^ 8 / 640 % 2 ^ 32

/-- A run whose first bit falls at radius r0, before the head has reached its angle (R233). -/
def State.runToward (s : State) (n r0 : Nat) : RunX :=
  let th := s.get .CIRQ_ANGLE_THETA (s.clusterOf n) (s.slotOf n)
  { wb := 0, r0 := r0, ang := -(((spiralAngle r0 + 2 ^ 32 - th) % 2 ^ 32 : Nat) : Int), theta := th }

/-- The run of a write-buffer entry: its first bit falls where its first cluster begins; on BD media at once. -/
def State.newRun (s : State) (w : WbEntry) : RunX :=
  let n := w.mn
  let p := w.clusters.headD 0
  if isBd (s.get .MECH_DISC_MEDIA n) then
    { s.runToward n (Config.bdRadius (s.disc n).bdCapacity w.lba * 2 ^ 24) with wb := w.id, ang := 0 }
  else { s.runToward n (s.clusterRadius n (placeLayer p) (placeCluster p)) with wb := w.id }

/-- Every channel bit of the run has passed under the head. -/
def State.runDone (s : State) (w : WbEntry) (r : RunX) : Bool := decide (((s.runLength w * 2 ^ 16 : Nat) : Int) ≤ s.bitAtAngle w.mn r.r0 r.ang)

/-! ### Descriptors (R236) -/

/-- Place edges in slots, in order: two edges never share one, the later moves to POS 0 of the next slot. Slot, position and level of each edge that falls
before slot n; how many were moved. `last` is the slot of the edge before, plus one. -/
def placeEdges (n : Nat) : List (Int × Nat) → Nat → List (Nat × Nat × Nat) × Nat
  | [], _ => ([], 0)
  | (t, l) :: r, last =>
    let u := (max 0 t).toNat
    let moved := decide (u / 16 < last)
    let slot := max last (u / 16)
    if n ≤ slot then ([], b2n moved)
    else
      let x := placeEdges n r (slot + 1)
      ((slot, if moved then 0 else u % 16, l) :: x.1, x.2 + b2n moved)

/-- The descriptor bytes of slots j on: with an edge LEVEL, EDGE 1 and POS, without one the level held (R236). -/
def descriptors (bank : Nat) : Nat → Nat → Nat → List (Nat × Nat × Nat) → List Nat
  | 0, _, _, _ => []
  | k + 1, j, level, [] => (4 * bank + level) * 32 :: descriptors bank k (j + 1) level []
  | k + 1, j, level, e :: r =>
    if e.1 = j then ((4 * bank + e.2.2) * 32 + 16 + e.2.1) :: descriptors bank k (j + 1) e.2.2 r
    else (4 * bank + level) * 32 :: descriptors bank k (j + 1) level (e :: r)

/-- What a beam writes in one frame: its descriptors, the edges sent, the last level, the edges moved. -/
structure BeamFrame where
  bytes : List Nat
  sent : Nat
  level : Nat
  moved : Nat

/-- The level edges of beam b that a run has still to send; after a stop request those before its last bit, and L0 there (R239). -/
def restEdges (r : RunX) (edges : List (Int × Nat)) (b : Nat) : List (Int × Nat) :=
  let sent := r.sent.getD b 0
  match r.stop with
  | none => edges.drop sent
  | some k => if edges.length < sent then [] else (edges.drop sent).takeWhile (fun e => decide (e.1 < 16 * k)) ++ [(16 * k, 0)]

/-- The frame of beam b of a run, whose slots start at bit position x0 and end at x1, both in 2^-16 bit: every edge not yet sent is rounded to the nearest
1/16 of a slot (R236). -/
def State.beamFrame (s : State) (mn : Nat) (bits : Nat → List Bool) (r : RunX) (bank n : Nat) (x0 x1 : Int) (b : Nat) : BeamFrame :=
  let st := s.strategy (s.clsOf mn) (mediaKind (s.get .MECH_DISC_MEDIA mn))
  let nMin := if isBd (s.get .MECH_DISC_MEDIA mn) then 2 else 1
  let all := (marksGo (bits b) 0 0 0).flatMap (markEdges st nMin b)
  let edges := restEdges r all b
  let at_ := fun (e : Int × Nat) => (roundDiv ((e.1 * 4096 - x0) * (16 * n : Nat)) (max 1 (x1 - x0)), e.2)
  let p := placeEdges n ((edges.map at_).takeWhile fun e => decide (e.1 < (16 * n : Nat))) 0
  let level := r.level.getD b 0
  let sent := if r.stop.isSome && p.1.length == edges.length then all.length + 1 else r.sent.getD b 0 + p.1.length
  { bytes := descriptors bank n 0 level p.1, sent := sent, level := (p.1.getLast?.map (·.2.2)).getD level, moved := p.2 }

/-- 128-bit data words of descriptor bytes, one list per beam: byte 4i + b of word w is beam b in slot 4w + i; single-beam, byte j of word w is slot 16w + j. -/
def burstWords (n : Nat) (l : List (List Nat)) : List Nat :=
  let byte := fun (b j : Nat) => (l.getD b []).getD j 0
  if l.length = 1 then (List.range (n / 16)).map fun w => (List.range 16).foldl (fun a j => a + byte 0 (16 * w + j) * 256 ^ j) 0
  else (List.range (n / 4)).map fun w => (List.range 16).foldl (fun a j => a + byte (j % 4) (4 * w + j / 4) * 256 ^ j) 0

/-- The header of a write burst (spec/03 "RF and write burst header"). -/
def State.writeHeader (s : State) (n : Nat) (single : Bool) (words : Nat) : List Nat :=
  let x := s.px (portOf n)
  let h := [0xA5 + dropOf n * 2 ^ 8 + verCode (s.get .MECH_BRIDGE_LINK_VER n) * 2 ^ 14 + x.seq % 4096 * 2 ^ 16 + x.epoch % 16 * 2 ^ 28,
            (if single then 1 else 15) + words * 2 ^ 16, 0]
  h ++ [crc32c (dwBytes h)]

/-- The channel bits of an OPC's block on one beam: 11 segments, each the VFO preamble, SM1 and scrambled data, then 256 bits at L0 (R197). -/
def opcBlock : List Bool :=
  ((List.range 11).flatMap fun k =>
    (List.range 80).flatMap (fun _ => [false, false, true, true]) ++ msbBits 48 sm1 ++
      ((prbs (opcSegment - 368)).zipIdx.map fun e => (e.1 == 1) != Config.opcData (opcSegment * k + e.2))) ++ List.replicate 256 false

/-- The channel bits of a run on each beam. -/
def State.runSource (s : State) (n : Nat) (r : RunX) : Option (Nat → List Bool) :=
  if r.opc.isSome then some fun b => if b = 0 ∨ ¬ isBd (s.get .MECH_DISC_MEDIA n) then opcBlock else []
  else (r.rest.or (s.host.wbuf.find? fun w => w.id == r.wb)).map fun w => s.runBits w

/-- An OPC has reached a new segment: the other bank holds the levels of its step, and those of the next step go to the bank now free (R197, R237). -/
def State.opcBank (s : State) (n f : Nat) (r : RunX) (x0 : Int) : State × RunX := match r.opc, (s.sx n).run with
  | some k, some q =>
    let seg := min 10 (x0 / (65536 * opcSegment : Nat)).toNat
    if seg ≤ k then (s, r)
    else
      let s1 := s.modLane f fun x => { x with bank := 1 - x.bank, bankNext := none }
      (if seg < 10 then s1.loadLevels f (s1.opcLevels n q.layer (seg + 1)) else s1, { r with opc := some seg })
  | _, _ => (s, r)

/-- The write burst of a mechanism sent at device time `t17` (1/17 ns): the slots from 2 frames on (R236). A run that was to stop and has ends here (R239). -/
def State.sendWriteBurst (s9 : State) (n t17 : Nat) : State :=
  let s0 := match s9.laneOf n with
    | some f => if (s9.lane f).run.any fun r => s9.runStopped n r then s9.endWrite f else s9
    | none => s9
  let rate := (s0.px (portOf n)).rate
  let slots := 400 * rateUs rate
  let single := s0.singleBeam n
  let beams := if single then 1 else 4
  let out := fun (t : State) (l : List (List Nat)) => let w := burstWords slots l; t.emit (.writeBurst n (s0.writeHeader n single w.length) w)
  let idle := fun (bank : Nat) => out s0 (List.replicate beams (List.replicate slots (128 * bank)))
  match s0.laneOf n with
  | none => idle 0
  | some f =>
    let bank := (s0.lane f).bank
    match (s0.lane f).run with
    | none => idle bank
    | some r0 => match s0.runSource n r0 with
      | none => idle bank
      | some bits =>
        let r1 := s0.turnRun n r0
        let per := framePeriod rate
        let x0 := s0.bitAtAngle n r1.r0 (s0.runAngleAt n r1 (t17 + 2 * per))
        let x1 := s0.bitAtAngle n r1.r0 (s0.runAngleAt n r1 (t17 + 3 * per))
        let (sb, r) := s0.opcBank n f r1 x0
        let s := if (sb.lane f).bankNext.isSome && (sb.lane f).acked.isNone && sb.bankAcked f
          then sb.modLane f fun y => { y with acked := some (sb.clustersPast f) } else sb
        let l := (List.range beams).map (s.beamFrame n bits r (s.lane f).bank slots x0 x1)
        let moved := l.foldl (fun a e => a + e.moved) 0
        let s1 := (out s (l.map (·.bytes))).modLane f fun y => { y with run := some { r with sent := l.map (·.sent), level := l.map (·.level) } }
        if moved = 0 then s1 else (s1.bumpBy .FIRN_CNT_MERGE_COUNT f moved).raise .FIRN_EVENT_MERGE f

/-! ### The frame tick (R65, R236) -/

/-- The mechanisms of port p that hold a write burst in the map in use. -/
def State.writers (s : State) (p : Nat) : List Nat := ((s.liveBursts p).filter fun e => bmapDown e.2).map fun e => 64 * p + bmapDrop e.2

/-- FRAME_TICK: a downstream frame starts at its tick, with its header and its write bursts. A RATE or PHASE written takes effect when no drop is
servo-active; a lane mode or map announced for this SEQ takes effect; lock is lost after 8 frames without an upstream header (R65, R66, R71, R81, R84). -/
def execFrameTick (p : PortIx) (s : State) : Out :=
  let sr := s.takeRate p
  if !s.portUp p || !sr.frameDue p then fin s
  else
    let s0 := sr.takeAnnounced p
    let n := frameBlocks (s0.px p).rate (s0.px p).seq
    let t17 := (s0.tickNow p).getD 0
    let sw := (s0.emit (.frame p (s0.px p).blocks n (s0.downHeader p))).forEach (s0.writers p) fun t m => t.sendWriteBurst m t17
    let s1 := sw.modPort p fun x =>
      { x with seq := (x.seq + 1) % 4096, upSeq := x.seq, sinceHeader := min 9 (x.sinceHeader + 1), tickAt := s0.tickNow p, blocks := x.blocks + n }
    if 8 < (s1.px p).sinceHeader ∧ s.on .PEN_STATUS_LOCK p then
      fin (((s1.set .PEN_STATUS_LOCK p 0).raise .PEN_EVENT_LOCK_LOST p).modPort p fun x => { x with lostAt := some s.now })
    else fin s1

end Sys2Proof.Machine
end

