-- ==== Sys2Proof/Machine/DataCmds.lean ====
section
/-! DEFINITION. The I/O commands that move or check data, and the rules common to every command (spec/13_command_set.md R354 to R369;
spec/12_host_ports_and_rings.md R330, R338). A command row runs the outstanding command FN, TAG as far as it can go; it may come again. -/

namespace Sys2Proof.Machine

/-- DESCRIPTOR_FETCHED: the checks of R338. A command accepted for a mechanism before the spindle stop is issued cancels a spin-down (R45). -/
def execDescriptorFetched (fn : FnIx) (qpid : Nat) (d : Desc) (s : State) : Out :=
  let s1 := (s.takeDescriptor fn qpid d).noteFetch (fn / 64)
  fin (if s1.host.cmds.length ≠ s.host.cmds.length ∧ ioOpcode d.opcode ∧ namesMech d then s1.cancelSpinDown d.mn else s1)

/-! ### The checks of R354 -/

/-- Commands that need a laser (R381). -/
def laserOp (o : Nat) : Bool := o == 1 || o == 2 || o == 3 || o == 5 || o == 9 || o == 0x0B || o == 0x0C

/-- Key slot k. -/
def State.keySlot (s : State) (k : Nat) : KeySlot := tabGet s.host.keys k {}

/-- An UNMOUNT or EJECT of the mechanism was accepted before this command and has not completed (R41). -/
def State.unmountPending (s : State) (c : Ctx) : Bool :=
  ((s.cmdsOf c.d.mn).takeWhile fun x => !(x.fn == c.fn && x.d.tag == c.d.tag)).any fun x => x.d.opcode == 6 || x.d.opcode == 8

/-- The status that the mechanism's state gives an I/O command (R42), 0 when it can serve it or be spun up. -/
def State.stateStatus (s : State) (n : Nat) : Nat :=
  match s.mst n with
  | 0 => 0x0403
  | 1 => 0x0404
  | 2 => if s.autoSpin n then 0 else 0x0409
  | 3 => 0x0405
  | 8 => 0x0401
  | 9 => 0x0402
  | _ => if s.on .MECH_STATE_MOUNTED n then 0 else 0x0405

/-- The first check of R354 that fails, as a status; 0 for none. State commands have their own check of step 3. -/
def State.checkIo (s : State) (c : Ctx) : Nat :=
  let d := c.d
  let n := d.mn
  let o := d.opcode
  let m := s.memberOf n
  let parity := match m with
    | some (id, i) => decide ((s.set_ id).k ≤ i)
    | none => false
  if usesFloe o ∧ d.floeId ≠ 0 ∧ s.on .MECH_STATE_MOUNTED n ∧ (m.map (·.1)).getD 0 ≠ d.floeId then 0x0704
  else if parity && (o == 1 || o == 2 || o == 3) then 0x0703
  else if o == 2 && s.floe.any (fun e => match e.2.rebuild with | some r => r.target == n | none => false) then 0x0708
  else if (o == 1 || o == 2 || o == 3 || o == 9 || o == 0x0B || o == 0x0C) && s.unmountPending c then 0x0408
  else if s.stateStatus n ≠ 0 then s.stateStatus n
  else if laserOp o && s.on .MECH_STATE_SAFE_HOLD n then 0x0602
  else if (o == 1 || o == 2) && (s.keySlot d.key).mode == 0 then 0x0505
  else if (o == 1 || o == 2) && (s.keySlot d.key).mode == 2 && isHaf (s.get .MECH_DISC_MEDIA n) then 0x0506
  else if (o == 1 || o == 2 || o == 3 || o == 0x0B) && decide (s.capacity n < d.lba + d.count) then 0x0333
  else if o == 9 && decide (s.capacity n ≤ d.lba) then 0x0333
  else 0

/-- The spindle stop of a spin-down of mechanism n has been issued and PARKED is not reached (R45). -/
def State.stopping (s : State) (n : Nat) : Bool := (s.mx n).spinDown && (s.mx n).stopIssued && s.get .MECH_STATE_TARGET n == 2

/-- Run an outstanding command of one opcode: the first time it passes `check` or completes with its status, then `k` runs it. A command accepted
after the stop of a spin-down waits until PARKED is reached, and is checked there (R42, R45); a data command waits for the end of a run that
MECH_CAL_CMD has started (R203). -/
def State.runCmd (s : State) (fn tag op : Nat) (check : State → Ctx → Nat) (k : State → Ctx → State) : Out :=
  match s.ctx fn tag with
  | none => fin s
  | some c =>
    if c.d.opcode ≠ op ∨ ¬ c.stripes.isEmpty then fin s
    else if c.phase = .fetched ∧ s.stopping c.d.mn ∧ op ≠ 4 ∧ op ≠ 0x0A then fin s
    else if c.phase = .fetched ∧ (op = 1 ∨ op = 2 ∨ op = 3 ∨ op = 0x0B) ∧ s.forcedRun c.d.mn then fin s
    else if c.phase = .fetched then
      let st := check s c
      if st ≠ 0 then fin (s.cutCmd c st)
      else
        let s1 := s.modCtx fn tag fun x => { x with phase := .running }
        fin (k (if op = 0x0A then s1 else s1.dropHint c.d.mn) { c with phase := .running })
    else fin (k s c)

/-- The command has started (R330). -/
def State.startCtx (s : State) (c : Ctx) : State := s.modCtx c.fn c.d.tag fun x => { x with started := true }

/-- The status of a failed transfer. -/
def dmaStatus : Dma → Nat
  | .done => 0
  | .failed => 0x0502
  | .badEntry => 0x0106

/-- Clusters read for commands of a mechanism are dropped once no command needs any. -/
def State.dropReads (s : State) (n : Nat) : State :=
  if s.dataWork n then s else s.modChan fun c => { c with reads := c.reads.filter (fun r => r.mn != n), bdBits := tabDel c.bdBits n }

/-- The head is wanted on a mechanism: a PARKED one spins up (R42), one that a permit drop left in SPINNING acquires again (R53), an active one stops its
automatic runs (R191) and binds a lane (R209). -/
def State.wantHead (s : State) (n layer cluster : Nat) : State :=
  if s.mst n = 2 then (if s.on .MECH_STATE_BUSY n then s else s.wantSpin n (s.clusterSpeed n layer cluster) layer)
  else if s.mst n = 4 then (if s.on .MECH_STATE_BUSY n then s else s.acquireAgain n layer)
  else if s.mst n = 6 ∨ s.mst n = 7 then (if s.on .MECH_STATE_BUSY n then s else (s.abandonAutoRuns n).askLane n false)
  else s

/-- The head is wanted on BD media, at a logical block. -/
def State.wantBd (s : State) (n lba : Nat) : State :=
  if s.mst n = 2 then
    if s.on .MECH_STATE_BUSY n then s else s.wantSpin n (s.fullSpeed n 0 (Config.bdRadius (s.disc n).bdCapacity lba)) 0
  else s.wantHead n 0 0

/-- A cluster is wanted: it is read unless it is being read or has been. -/
def State.wantCluster (s : State) (n layer cluster : Nat) : State :=
  if (s.readOf n layer cluster).isSome then s
  else s.modChan fun c => { c with reads := c.reads ++
    [{ mn := n, layer := layer, cluster := cluster, sectors := List.replicate 32 .pending, emaps := [0, 0, 0, 0] }] }

/-! ### Encryption (R18, R357) -/

/-- The tweak of a block. -/
def tweakOf (k : KeySlot) (lba : Nat) : Nat := lba % 2 ^ 64 + k.tweakHi * 2 ^ 64

def encryptBlock (k : KeySlot) (lba b : Nat) : Nat := if k.mode = 1 then Config.xtsEncrypt k.key1 k.key2 (tweakOf k lba) b % 2 ^ 32768 else b
def decryptBlock (k : KeySlot) (lba b : Nat) : Nat := if k.mode = 1 then Config.xtsDecrypt k.key1 k.key2 (tweakOf k lba) b % 2 ^ 32768 else b

/-! ### READ and VERIFY (R24, R358, R362) -/

/-- Where one block of a READ or VERIFY stands. -/
inductive Src where
  /-- in hand, with the flag bits of R356 it brings -/
  | data (block flags : Nat)
  | zero
  | need (layer cluster : Nat)
  | wait
  | bad (status r0 r1 : Nat)
  deriving DecidableEq, Repr

/-- The sector engine's answer for one block of a cluster (R269, R270, R293). -/
def State.sectorSrc (s : State) (n layer cluster block : Nat) (recon : Bool) : Src :=
  match s.readOf n layer cluster with
  | none => .need layer cluster
  | some r => match r.sectors.getD block .pending with
    | .good b => .data (leAt b 16 4096) ((if r.outer.contains block then 2 else 0) + (if r.retry.contains block then 4 else 0) +
        (if r.recon.contains block then 8 else 0))
    | _ =>
      if !r.done then .wait
      else match s.memberOf n with
        | some (id, i) =>
          if recon && decide (i < (s.set_ id).k) then match r.reconFail with
            | none => .wait
            | some e => .bad e.1 e.2.1 e.2.2
          else .bad 0x0301 0 0
        | none => .bad 0x0301 0 0

/-- A WRITE of mechanism n that covers this block has been fetched and not yet accepted: a READ of the block waits (R24). -/
def State.writeComing (s : State) (n lba : Nat) : Bool :=
  s.host.cmds.any fun x => x.d.opcode == 2 && x.qpid != 0 && !x.accepted && x.d.mn == n && decide (x.d.lba ≤ lba) && decide (lba < x.d.lba + x.d.count)

/-- Block k of a command: the write buffer first (R24), then the map. Of several accepted WRITEs that cover the block the one whose entry was
opened last gives it: R24 names no order among them, and this is the model's choice (notes/assumptions/89.md). On BD media the sector engine
gives the block from the channel bits read (R240, R281). -/
def State.blockSrc (s : State) (c : Ctx) (k : Nat) : Src :=
  let n := c.d.mn
  let lba := c.d.lba + k
  let hit := s.host.wbuf.filter fun w => w.mn == n && w.stripe.isNone && decide (w.lba ≤ lba) && decide (lba < w.lba + w.count)
  if s.writeComing n lba || hit.any (fun w => w.phase == .fetching) then .wait
  else match hit.getLast? with
    | some w => .data (w.data.getD (lba - w.lba) 0) 1
    | none =>
      if isBd (s.get .MECH_DISC_MEDIA n) then
        match Config.bdBlock lba (tabGet s.chan.bdBits n []) with
        | none => .wait
        | some none => .bad 0x0301 0 0
        | some (some b) => .data b 0
      else match lookup (s.disc n).extents lba with
        | none => if c.d.opcode = 1 ∧ bitAt c.d.flags 1 = 1 then .zero else .bad 0x0302 0 0
        | some (l, cl, b) => s.sectorSrc n l cl b (c.d.opcode == 1 && bitAt c.d.flags 0 == 0)

/-- The blocks of a command in order. -/
def State.sources (s : State) (c : Ctx) : List Src := (List.range c.d.count).map (s.blockSrc c)

/-- A block that is not yet in hand. -/
def pendingSrc : Src → Bool
  | .need _ _ => true
  | .wait => true
  | _ => false

/-- The first unwritten block, which ends the command before any read (R358, R362). -/
def firstUnwritten (l : List Src) : Option Nat := (List.range l.length).find? fun k => l.getD k .zero == .bad 0x0302 0 0

/-- Ask for the clusters that are needed, and for the head. -/
def State.fetchClusters (s : State) (c : Ctx) (l : List Src) : State :=
  let s1 := l.foldl (fun t x => match x with
    | .need layer cluster => t.wantCluster c.d.mn layer cluster
    | _ => t) s
  let first := l.findSome? fun x => match x with
    | .need layer cluster => some (layer, cluster)
    | _ => none
  match first with
  | none => if isBd (s.get .MECH_DISC_MEDIA c.d.mn) then (s1.startCtx c).wantBd c.d.mn c.d.lba else s1
  | some p => (s1.startCtx c).wantHead c.d.mn p.1 p.2

/-- The content of a block in hand as the host receives it; none for a block that is not in hand (R18, R357, R358). -/
def State.hostContent (s : State) (c : Ctx) (l : List Src) (i : Nat) : Option Nat :=
  match l.getD i .wait with
  | .data b _ => some (decryptBlock (s.keySlot c.d.key) (c.d.lba + i) b)
  | .zero => some 0
  | _ => none

/-- The blocks of the first k that are in hand and not yet with the host in this content: offset and content. -/
def State.toSend (s : State) (c : Ctx) (l : List Src) (k : Nat) : List (Nat × Nat) :=
  (List.range k).filterMap fun i => match s.hostContent c l i with
    | some b => if c.sent.contains (i, b) then none else some (i, b)
    | none => none

/-- Write blocks to the host (R17). -/
def State.sendBlocks (s : State) (c : Ctx) (l : List (Nat × Nat)) : State :=
  s.forEach l fun t e => t.emit (.hostBlock c.fn (c.d.lba + e.1) e.2)

/-- The good blocks of a READ go to the host as they come to hand, without waiting for the rest of their HAF clusters (R17). A block whose content a
WRITE accepted since has replaced goes again, so that the READ ends with one state of every atomic group (R24). -/
def State.sendReady (s : State) (c : Ctx) (dma : Dma) (l : List Src) : State :=
  let x := s.toSend c l l.length
  if dma ≠ .done ∨ x.isEmpty then s
  else
    let fl := x.foldl (fun a e => match l.getD e.1 .wait with | .data _ f => Nat.lor a f | _ => a) c.flags
    (s.dramTouch.sendBlocks c x).modCtx c.fn c.d.tag fun y =>
      { y with sent := x ++ y.sent.filter (fun e => !(x.any fun f => f.1 == e.1)), flags := fl }

/-- Deliver the blocks before the first bad one to the host, and complete (R356, R358). -/
def State.deliver (s : State) (c : Ctx) (dma : Dma) (l : List Src) : State :=
  let good := l.takeWhile fun x => match x with | .bad _ _ _ => false | _ => true
  let k := good.length
  let flags := good.foldl (fun a x => match x with | .data _ f => Nat.lor a f | _ => a) 0
  if dma ≠ .done then (s.complete c (dmaStatus dma) 32 0 0).dropReads c.d.mn
  else
    let s1 := s.dramTouch.sendBlocks c (s.toSend c l k)
    let s2 := (s1.modMech c.d.mn fun m => { m with tlRead := m.tlRead + k }).noteDrain c.d.mn k
    let s3 := match l.getD k .zero with
      | .bad st r0 r1 => if st = 0x0701 then s2.complete c st (flags + 32) r0 r1 else s2.complete c st (flags + 32) k k
      | _ => s2.complete c 0 flags k 0xFFFFFFFF
    s3.dropReads c.d.mn

/-- READ. -/
def execRead (fn : FnIx) (tag : Nat) (dma : Dma) (s : State) : Out :=
  s.runCmd fn tag 1 State.checkIo fun t c =>
    let l := t.sources c
    match firstUnwritten l with
    | some k => t.complete c 0x0302 32 0 k
    | none => (if l.any pendingSrc then (t.sendReady c dma l).fetchClusters c l else t.deliver c dma l).noteBacklog c.d.mn

/-- What a VERIFY has found so far: flags, blocks decoded without the outer code or retry, blocks unreadable, blocks that needed either (R356, R362). -/
def verified (l : List Src) : Nat × Nat × Nat × Nat :=
  (l.foldl (fun a x => match x with | .data _ f => Nat.lor a f | _ => a) 0,
   (l.filter fun x => match x with | .data _ f => decide (f < 2) | _ => false).length,
   (l.filter fun x => match x with | .bad _ _ _ => true | _ => false).length,
   (l.filter fun x => match x with | .data _ f => decide (2 ≤ f) | _ => false).length)

/-- VERIFY. -/
def execVerify (fn : FnIx) (tag : Nat) (s : State) : Out :=
  s.runCmd fn tag 3 State.checkIo fun t c =>
    let l := t.sources c
    let v := verified l
    let res1 := v.2.2.1 * 65536 + min v.2.2.2 65535
    match firstUnwritten l with
    | some _ => t.complete c 0x0302 32 0 0
    | none =>
      if l.any pendingSrc then (t.modCtx fn tag fun x => { x with flags := v.1, done := v.2.1, count1 := res1 }).fetchClusters c l
      else (t.complete c (if v.2.2.1 = 0 then 0 else 0x0301) (v.1 + (if v.2.2.1 = 0 then 0 else 32)) v.2.1 res1).dropReads c.d.mn

/-! ### WRITE (R359) -/

/-- The newest write-buffer entry of a command, or of a write of the device's own (FN 256). -/
def State.wbOf (s : State) (fn tag : Nat) : Option WbEntry := (s.host.wbuf.filter fun w => w.fn == fn && w.tag == tag).getLast?

def State.modWb (s : State) (id : Nat) (f : WbEntry → WbEntry) : State :=
  s.modHost fun h => { h with wbuf := h.wbuf.map fun w => if w.id = id then f w else w }

/-- What a WRITE is refused for before its data is fetched: a sealed disc (R277), BD rules (R281). -/
def State.writeRefusal (s : State) (c : Ctx) : Nat :=
  let n := c.d.mn
  let media := s.get .MECH_DISC_MEDIA n
  if isBd media then
    if bitAt c.d.flags 0 = 1 then 0x0338
    else if media = 8 ∧ c.d.lba ≠ (s.disc n).bdNext then 0x0337 else 0
  else if s.on .MECH_DISC_SEALED n then 0x0330 else 0

/-- The write buffer, 1/8 of the populated DRAM, has room for so many more blocks (R359, spec/14 "DRAM users"). -/
def State.wbufRoom (s : State) (count : Nat) : Bool :=
  decide (((s.host.wbuf.map fun w => w.count).foldl (· + ·) 0 + count) * 4096 ≤ s.dramMib * 2 ^ 20 / 8)

/-- A new WRITE: its write-buffer entry waits for its data; without room in the write buffer the WRITE waits before it fetches them (R359). -/
def State.openWrite (s : State) (c : Ctx) : State :=
  let st := s.writeRefusal c
  if st ≠ 0 then s.cutCmd c st
  else if !s.wbufRoom c.d.count then s
  else
    (s.startCtx c).modHost fun h => { h with
      wbuf := h.wbuf ++ [{ id := h.nextWb, fn := c.fn, qpid := c.qpid, tag := c.d.tag, mn := c.d.mn, lba := c.d.lba, count := c.d.count,
                           key := c.d.key, atomic := bitAt c.d.flags 0 == 1, atomicId := c.d.atomicId, floeDurable := bitAt c.d.flags 2 == 1 }],
      nextWb := h.nextWb + 1 }

/-- WRITE_ACCEPTED: every block of a WRITE has reached the write buffer, or its transfer failed (R359). -/
def execWriteAccepted (fn : FnIx) (tag : Nat) (data : List Nat) (dma : Dma) (s : State) : Out :=
  match s.ctx fn tag, s.wbOf fn tag with
  | some c, some w =>
    if w.phase ≠ .fetching then fin s
    else if dma ≠ .done then fin (s.cutCmd c (dmaStatus dma))
    else
      let n := w.mn
      let key := s.keySlot w.key
      let enc := (List.range w.count).map fun k => encryptBlock key (w.lba + k) (data.getD k 0 % 2 ^ 32768)
      let buffered := bitAt c.d.flags 1 == 1
      let put := fun (t : State) (cl : List Nat) =>
        let t1 := (t.dramTouch.modWb w.id fun x => { x with phase := .accepted, data := enc, clusters := cl, buffered := buffered }).modCtx fn tag fun x =>
          { x with accepted := true, done := w.count }
        if buffered then t1.complete c 0 0 w.count 0 else t1
      if isBd (s.get .MECH_DISC_MEDIA n) then fin (put s [])
      else if s.on .MECH_DISC_SEALED n then fin (s.cutCmd c 0x0330)
      else match s.allocate n w.count with
        | none => fin (s.cutCmd c 0x0331)
        | some (t, cl) =>
          let l := writeExtents w.lba w.count cl
          if 1048576 < (mapExtents (s.plannedMap n) l).length ∨ s.mapPool < s.mapBytes n l then fin (s.cutCmd c 0x0332)
          else fin (put t cl)
  | _, _ => fin s

/-- The head of lane f is at a HAF cluster boundary: no cluster passes, or the last position of one has passed and no frame of it is still being
taken in (R23). -/
def State.atBoundary (s : State) (f : Nat) : Bool :=
  match (s.lane f).passing with
  | none => true
  | some x => x.2.2 == 7 && !s.chan.cws.any fun w => w.lane == f && w.place == .assembling

/-- Lane f begins a write run: its beams write (R233). -/
def State.startRun (s : State) (f : Nat) (w : WbEntry) : State :=
  let s0 := (s.dramTouch.endInjOf w.mn 5).modLane f fun x => { x with run := some (s.newRun w) }
  let s1 := (s0.set .FIRN_STATUS_WRITE f 1).forEach (List.range 4) fun t b =>
    if t.get .FIRN_BEAM_TSTATE f b = 6 then t else t.set2 .FIRN_BEAM_TSTATE f b 7
  (s1.refreshLevels w.mn).modWb w.id fun x => { x with phase := .writing }

/-- An accepted entry goes on toward its run: clusters, the head, write power, the lane, the WRITE grant (R192, R272, R302). -/
def State.towardRun (s : State) (w0 : WbEntry) : State :=
  let n := w0.mn
  let bd := isBd (s.get .MECH_DISC_MEDIA n)
  let s0 : Option (State × WbEntry) :=
    if bd || !w0.clusters.isEmpty then some (s, w0)
    else (s.allocate n w0.count).map fun r => (r.1.modWb w0.id fun x => { x with clusters := r.2 }, { w0 with clusters := r.2 })
  match s0 with
  | none => s.failEntry w0 0x0331
  | some (s1, w) =>
    let layer := placeLayer (w.clusters.headD 0)
    let want := fun (t : State) => if bd then t.wantBd n w.lba else t.wantHead n layer (placeCluster (w.clusters.headD 0))
    if s1.get .DRN_PSTAT_STATE = 7 then s1
    else if s1.mst n ≠ 6 ∧ s1.mst n ≠ 7 then want s1
    else
      let s2 := want s1
      if s2.powerWaits n layer then s2
      else if ¬ s2.powerValid n layer then s2.failEntry w (if 4096 ≤ tabGet (s2.disc n).testNext layer 0 then 0x0321 else 0x0320)
      else match s2.laneOf n with
        | none => s2
        | some f =>
          if s2.on .FIRN_STATUS_WRITE f || !s2.permit n || !s2.atBoundary f || (!bd && (s2.sx n).layer != layer) then s2
          else if !s2.liveBurst n true then s2.turnBurst n true (s2.singleBeam n)
          else match s2.askWrite n 0 (if w.buffered then none else some (w.fn, w.tag)) with
            | (t, .granted) => t.startRun f w
            | (t, .deferred) => t
            | (t, .refused) => t.failEntry w 0x040B

/-- Every frame of a run is on disc: the commit record waits for the next append (R21); on BD media the WRITE is done (R281). -/
def State.runWritten (s : State) (f : Nat) (w : WbEntry) : State :=
  let n := w.mn
  let s1 := (((s.set .FIRN_STATUS_WRITE f 0).modLane f fun x => { x with run := none }).modMech n fun m => { m with ioEnd := s.now }).searchAgain f
  let s2 := (s1.turnBurst n false (s.singleBeam n)).returnGrant n fun g => { g with write := none }
  if isBd (s.get .MECH_DISC_MEDIA n) then
    let s3 := s2.emit (.discWrite n w.lba w.data)
    let s4 := s3.modDisc n fun d => { d with bdNext := max d.bdNext ((w.lba + w.count + 15) / 16 * 16) }
    s4.writeDurable 0 w []
  else
    let s3 := s2.forEach (unitsOf w) fun t u => t.emit (.discWrite n u.1 u.2)
    (s3.modWb w.id fun x => { x with phase := .committing }).modDisc n fun d => { d with commits := d.commits ++ [commitOf w] }

/-- WRITE: checks and the write-buffer entry first; then each occurrence takes an accepted entry one stage on, to its run and to the end of
its run. FN 256 names a write of the device's own, and a buffered WRITE goes on after its completion. -/
def execWrite (fn : Fin 257) (tag : Nat) (s : State) : Out :=
  match s.wbOf fn tag with
  | some w =>
    if w.phase = .accepted then fin (s.towardRun w)
    else if w.phase = .writing then
      match s.laneOf w.mn with
      | none => fin s
      | some f =>
        if (s.lane f).run.any (fun r => s.runStopped w.mn r) then fin (s.endWrite f)
        else if (s.lane f).run.any (fun r => s.runDone w (s.turnRun w.mn r)) then fin (s.runWritten f w)
        else fin s
    else fin s
  | none => s.runCmd fn tag 2 State.checkIo fun t c => t.openWrite c

/-! ### COMMIT (R361) -/

/-- COMMIT. -/
def execCommit (fn : FnIx) (tag : Nat) (s : State) : Out :=
  s.runCmd fn tag 4 (fun _ _ => 0) fun t c =>
    if c.started then t
    else
      let n := c.d.mn
      let all := bitAt c.d.flags 0 == 1
      let cov := (t.host.wbuf.filter fun w => w.mn == n && decide (w.fn < 256) && w.phase != .fetching && (all || w.fn == fn.val)).map (·.id)
      ((t.modCtx fn tag fun x => { x with covers := cov }).startCtx c).finishCommits n

/-! ### SEEK_HINT (R366) -/

/-- The move of a SEEK_HINT is scheduled: a mechanism in TRACKING without data work changes layer, jumps within JUMP_MAX, or asks for the SEEK grant of a
longer seek (R366). -/
def State.scheduleHint (s : State) (n layer : Nat) (tracks : Int) : State × Decision :=
  if s.mst n ≠ 6 || s.on .MECH_STATE_BUSY n || s.dataWork n || !s.onTrack n then (s, .granted)
  else if layer ≠ (s.sx n).layer then (if layer < s.layersOf n then s.startLayerJump n layer else s, .granted)
  else if s.jumpOk n tracks then ((s.takeSeq n).startTrackJump n tracks, .granted)
  else if jumpMax (s.sx n).sq < tracks.natAbs ∧ s.mayRequest 2 n then
    s.request { cls := 2, who := n, dom := s.domOf n, mw := (s.reqAmount 2 n 0 0).1, at_ := s.now, forCmd := some (hintCmd n) }
  else (s, .granted)

/-- SEEK_HINT: `tracks` is the distance of the target, `layer` the layer of an unwritten one. A PARKED mechanism spins up (R42); with SPIN_ONLY it acquires
where its head is, and no seek is made. The estimate of RESULT0 is free. -/
def execSeekHint (fn : FnIx) (tag layer : Nat) (tracks : Int) (s : State) : Out :=
  s.runCmd fn tag 9 State.checkIo fun t c =>
    let n := c.d.mn
    let only := bitAt c.d.flags 0 == 1
    if !only && t.holdsSlot n && t.beyondLimit n (t.seekTarget n tracks) then t.cutCmd c 0x040A
    else
      let at_ := ((lookup (t.disc n).extents c.d.lba).map fun e => (e.1, e.2.1)).getD (layer, 0)
      let r : State × Decision :=
        if t.mst n ≠ 2 then (if only then (t, .granted) else t.scheduleHint n at_.1 tracks)
        else if only then (if t.on .MECH_STATE_BUSY n then t else t.wantSpin n (t.hereSpeed n) (t.mx n).wantLayer, .granted)
        else (if isBd (t.get .MECH_DISC_MEDIA n) then t.wantBd n c.d.lba else t.wantHead n at_.1 at_.2, .granted)
      match r with
      | (u, .refused) => u.cutCmd c 0x040B
      | (u, _) => ((u.startCtx c).takeFree.2).complete c 0 0 (u.takeFree.1 % 2 ^ 32) 0

/-! ### SCRUB (R363) -/

/-- The distinct places of the HAF clusters that hold written blocks of a range, in the order of the map. -/
def rangePlaces (m : List Extent) (lba count : Nat) : List Nat :=
  (m.flatMap fun e =>
    let a := max e.1 lba
    let b := min (e.1 + e.2.1) (lba + count)
    if b ≤ a then []
    else
      let p := extentAt e (a - e.1)
      let q := extentAt e (b - 1 - e.1)
      (List.range (q.2.1 + 1 - p.2.1)).map fun k => place p.1 (p.2.1 + k)).foldl (fun l p => if l.contains p then l else l ++ [p]) []

/-- The live blocks of a cluster: LBA and content, in the order of its blocks. -/
def liveBlocks (m : List Extent) (r : ClusterRead) : List (Nat × Nat) :=
  (List.range 28).filterMap fun b => match lbaAt m r.layer r.cluster b with
    | none => none
    | some lba => match r.sectors.getD b .pending with
      | .good x => some (lba, leAt x 16 4096)
      | _ => none

/-- Runs of successive LBAs of live blocks. -/
def liveRuns (l : List (Nat × Nat)) : List (Nat × List Nat) :=
  (l.foldl (fun (a : List (Nat × List Nat)) e => match a with
    | (lba, d) :: r => if lba + d.length = e.1 then (lba, d ++ [e.2]) :: r else (e.1, [e.2]) :: (lba, d) :: r
    | [] => [(e.1, [e.2])]) []).reverse

/-- REFRESH: the live blocks of a cluster are written again to new clusters, with a remap commit (R363, R295). -/
def State.refreshCluster (s : State) (n : Nat) (r : ClusterRead) : State :=
  s.forEach (liveRuns (liveBlocks (s.disc n).extents r)) fun t e =>
    match t.allocate n e.2.length with
    | none => t
    | some (u, cl) => u.modHost fun h => { h with
        wbuf := h.wbuf ++ [{ id := h.nextWb, fn := 256, qpid := 0, tag := h.nextWb, mn := n, lba := e.1, count := e.2.length, buffered := true,
                             phase := .accepted, data := e.2, clusters := cl }], nextWb := h.nextWb + 1 }

/-! ### SERVO_TEST (R367) and the capture image -/

/-- 16 bits of a signed value. -/
def u16 (v : Int) : Nat := unsignedOf 16 v

/-- The capture image of cluster c (spec/05 "Capture image"). -/
def State.capImage (s : State) (c : Nat) : List Nat :=
  let x := s.cap c
  let inj := x.injType ≠ 0xFF
  let z := fun (v : Nat) => if inj then v else 0
  let h := leBytes 2 0x4B43 ++ leBytes 2 1 ++ leBytes 2 x.mn ++ leBytes 1 x.loop ++ leBytes 1 x.injType ++ leBytes 4 (s.rd .CIRQ_CAP_SEL c).toNat ++
    leBytes 4 x.points.length ++ leBytes 4 x.periodNs ++ leBytes 4 x.before ++ leBytes 8 x.trigTime ++ leBytes 4 (z (s.get .CIRQ_INJ_F0_DPHI c)) ++
    leBytes 4 (z (s.get .CIRQ_INJ_F1_DPHI c)) ++ leBytes 4 (z (s.rd .CIRQ_INJ_STEP c).toNat) ++ leBytes 2 (z (s.get .CIRQ_INJ_AMP_AMP c)) ++
    leBytes 2 (z x.injGain) ++ leBytes 1 x.fmt ++ List.replicate 11 0
  let pts := (List.range 65536).flatMap fun k => (List.range 4).flatMap fun i => leBytes 2 (u16 (((x.points.getD k ([], false)).1).getD i 0))
  let held := (List.range 8192).map fun b => (List.range 8).foldl (fun a i => a + b2n ((x.points.getD (8 * b + i) ([], false)).2) * 2 ^ i) 0
  h ++ leBytes 4 (crc32c h) ++ pts ++ held

/-- The engines take the settings of a SERVO_TEST descriptor. -/
def State.servoTestRegs (s : State) (c : Nat) (d : Desc) : State :=
  let n := d.mn
  let ty := specByte d 1
  let s1 := ((((s.set .CIRQ_INJ_CTRL_MN c n).set .CIRQ_INJ_CTRL_LOOP c (specByte d 0)).set .CIRQ_INJ_CTRL_PRBS_HOLD c (specByte d 3)).set
    .CIRQ_INJ_CTRL_TYPE c ty)
  let s2 := (((s1.set .CIRQ_INJ_AMP_AMP c (specField d 8 2)).set .CIRQ_INJ_F0_DPHI c d.lba).set .CIRQ_INJ_F1_DPHI c (d.lba / 2 ^ 32)).set
    .CIRQ_INJ_STEP_RATIO c (specField d 10 2)
  let s3 := (s2.set .CIRQ_INJ_STEP_DWELL c d.atomicId).wr .CIRQ_CAP_SEL c 0 (BitVec.ofNat 32 (specField d 4 4))
  let s4 := (((s3.set .CIRQ_CAP_CTRL_MN c n).set .CIRQ_CAP_CTRL_DEC c (specByte d 2)).set .CIRQ_CAP_CTRL_TRIG c (if ty = 0xFF then 0 else 1))
  (s4.set .CIRQ_CAP_LEN_LEN c (d.count - 1)).set .CIRQ_CAP_LEN_PRE c d.floeId

/-- RESULT1 of a SERVO_TEST. -/
def State.servoTestRes (s : State) (c : Nat) : Nat :=
  s.get .CIRQ_INJ_STAT_END c + s.get .CIRQ_CAP_STAT_ERR c * 16 + s.get .CIRQ_INJ_STAT_ERR c * 256

/-- The test begins on cluster c, or is refused (0x0241 busy, 0x0240 by R157 or R158). -/
def State.beginServoTest (s : State) (c : Nat) (x : Ctx) : State :=
  let d := x.d
  let n := d.mn
  if (tabGet s.cirq.inj c none).isSome || (s.cap c).armed || (s.cap c).owner.isSome then s.cutCmd x 0x0241
  else
    let alone := specByte d 1 == 0xFF
    -- the engine gives back its previous buffer before it takes a new one (R159)
    let s1 := (s.servoTestRegs c d).set .CIRQ_CAP_STAT_BUF c 0x1F
    let e1 := if alone then 0 else s1.injErr c n (specByte d 0) (specByte d 1)
    let e2 := if s1.freeBuffer.isNone then 2 else s1.capErr c n (specByte d 2) (if alone then 0 else 1)
    let s2 := if e1 = 0 then s1 else (s1.set .CIRQ_INJ_STAT_ERR c e1).set .CIRQ_INJ_STAT_END c 6
    let s3 := if e2 = 0 then s2 else s2.set .CIRQ_CAP_STAT_ERR c e2
    if e1 ≠ 0 ∨ e2 ≠ 0 then s3.complete x 0x0240 0 0 (s3.servoTestRes c)
    else
      let s4 := s3.armCap c n ((s3.freeBuffer).getD 0) (some (x.fn, d.tag))
      (if alone then s4 else s4.startInj c n (specByte d 0) (specByte d 1)).startCtx x

/-- The test ends: the image goes to the host and both engines are free again. -/
def State.endServoTest (s : State) (c : Nat) (x : Ctx) (dma : Dma) : State :=
  let pts := (s.cap c).points.length
  let s1 := (s.emit (.hostWrite x.fn x.d.dptr0 (s.capImage c))).set .CIRQ_CAP_STAT_BUF c 0x1F
  (s1.modCap c fun q => { q with owner := none }).complete x (dmaStatus dma) 0 pts (s.servoTestRes c)

/-- SERVO_TEST. -/
def execServoTest (fn : FnIx) (tag : Nat) (dma : Dma) (s : State) : Out :=
  s.runCmd fn tag 0x0C State.checkIo fun t x =>
    let n := x.d.mn
    if ¬ t.holdsSlot n then (t.startCtx x).wantHead n 0 0xF0000
    else
      let c := t.clusterOf n
      if (t.cap c).owner ≠ some (fn.val, tag) then
        if t.on .MECH_STATE_BUSY n then t else t.beginServoTest c x
      else if (t.cap c).armed then t
      else
        -- a PRBS run, or a sine run with RATIO 0, stops when the capture ends
        let endless := specByte x.d 1 == 1 || (specByte x.d 1 == 0 && specField x.d 10 2 == 0)
        let t1 := if endless then t.endInj c 2 else t
        if (tabGet t1.cirq.inj c none).isSome then t1 else t1.endServoTest c x dma

/-! ### ABORT and deadlines (R355, R368, R369) -/

/-- The outstanding command that an ABORT names. -/
def State.abortTarget (s : State) (a : Ctx) : Option Ctx :=
  let q := specField a.d 4 2
  s.host.cmds.find? fun c => c.fn == a.fn && c.d.tag == specField a.d 0 4 && (q == 0xFFFF || c.qpid == q)

/-- A command that an ABORT catches (R368). -/
def State.caught (s : State) (c : Ctx) : Bool :=
  if c.d.opcode = 0x0A then false
  else if c.d.opcode = 2 then match s.wbOf c.fn c.d.tag with
    | some w => w.phase == .fetching || w.phase == .accepted
    | none => !c.started
  else if c.d.opcode = 1 ∨ c.d.opcode = 3 ∨ c.d.opcode = 0x0B ∨ c.d.opcode = 0x0C then true
  else !c.started

/-- A command that waits for a START has it withdrawn, and the slot goes back (R27, R35). -/
def State.withdrawStart (s : State) (c : Ctx) : State :=
  if s.breath.reqs.any fun r => r.cls == 4 && r.who == c.d.mn && r.forCmd == some (ctxId c) then
    (s.modBreath fun b => { b with reqs := b.reqs.filter fun r => !(r.cls == 4 && r.who == c.d.mn) }).abandonStart c.d.mn
  else s

/-- A LOAD or EJECT whose move has not begun gives up its place and its SEEK request. -/
def State.withdrawTray (s : State) (c : Ctx) : State :=
  let n := c.d.mn
  if (c.d.opcode == 7 || c.d.opcode == 8) && c.started && (s.mx n).waitTray.isSome && (s.grants n).seek.isNone then
    let s1 := (s.modBreath fun b => { b with reqs := b.reqs.filter fun r => !(r.cls == 2 && r.who == n) }).stopTray n
    s1.endMove n (s1.restState n)
  else s

/-- A state command whose transition is under way leaves it to go on (R355). -/
def State.leaveOrphan (s : State) (c : Ctx) : State :=
  let n := c.d.mn
  if (5 ≤ c.d.opcode ∧ c.d.opcode ≤ 8) ∧ c.qpid ≠ 0 ∧ c.started ∧ (s.on .MECH_STATE_BUSY n ∨ servoActive (s.mst n)) then
    s.modMech n fun m => { m with orphan := some (c.d.opcode, c.fn, c.d.tag) }
  else s

/-- A SERVO_TEST that ends early gives its engines back. -/
def State.freeEngines (s : State) (c : Ctx) : State :=
  match (List.range 17).find? fun k => (s.cap k).owner == some (ctxId c) with
  | none => s
  | some k => ((s.endInj k 2).endCap k 0).modCap k fun q => { q with owner := none }

/-- Once no commit record of mechanism n waits for an append and no write of it is left, the deferred WRITE request of the append is withdrawn (R27). -/
def State.withdrawAppend (s : State) (n : Nat) : State :=
  if (s.committing n).isEmpty && !(s.host.wbuf.any fun w => w.mn == n && w.buffered) then
    s.modBreath fun b => { b with reqs := b.reqs.filter fun r => !(r.cls == 3 && r.who == n && r.forCmd.isNone) }
  else s

/-- A command that ends leaves its work as R355 and R368 say: a START that it waits for is withdrawn, engines go back, a WRITE that is not
durable stops and commits nothing, a rebuild, a delete or an activation goes on without its command, a state command's transition goes on to its end. -/
def State.haltCmd (s : State) (c : Ctx) : State :=
  let id := ctxId c
  let s0 := s.modFloe fun l => l.map fun (e : Nat × FloeSet) => (e.1, { e.2 with
    rebuild := e.2.rebuild.map fun (r : RebuildX) => if r.cmd = some id then { r with cmd := none } else r,
    deleting := if e.2.deleting = some id then none else e.2.deleting })
  let sf := s0.modFw fun f => { f with act := f.act.map fun (a : ActX) => if a.cmd = some id then { a with cmd := none } else a }
  let s1 := sf.modHost fun h => { h with qps := h.qps.map fun (e : Nat × Qp) =>
    if c.qpid = 0 ∧ e.1 / 65536 = c.fn ∧ e.2.deletedBy = some c.d.tag then (e.1, { e.2 with deletedBy := none }) else e }
  let s2 := (((s1.withdrawStart c).withdrawTray c).freeEngines c).leaveOrphan c
  match (if c.d.opcode = 2 then s2.wbOf c.fn c.d.tag else none) with
  | none => s2
  | some w =>
    let t := s2.modDisc w.mn fun d => { d with commits := d.commits.filter (fun r => !r.wbs.contains w.id),
                                               appending := d.appending.filter fun r => !r.wbs.contains w.id }
    if w.buffered then s2
    else if w.phase == WbPhase.writing then match t.laneOf w.mn with
      | none => t
      | some f => t.stopRun f
    else t.withdrawAppend w.mn

/-- A command is stopped with a status. -/
def State.stopCmd (s : State) (c : Ctx) (st : Nat) : State := ((s.haltCmd c).cutCmd c st).dropReads c.d.mn

/-- ABORT. The caught command's completion is accepted first (R369). -/
def execAbort (fn : FnIx) (tag : Nat) (s : State) : Out :=
  s.runCmd fn tag 0x0A (fun _ _ => 0) fun t a =>
    match t.abortTarget a with
    | none => t.complete a 0 0 2 0
    | some c =>
      if t.caught c then (t.stopCmd c 0x0111).complete a 0 0 0 c.qpid
      else t.complete a 0 0 1 c.qpid

/-- COMMAND_DEADLINE: the deadline of an outstanding command expires (R355). -/
def execCommandDeadline (fn : FnIx) (tag : Nat) (s : State) : Out :=
  match s.ctx fn tag with
  | none => fin s
  | some c =>
    if s.now < c.deadline then fin s
    else fin ((s.stopCmd c 0x0110).logEntry
      { cls := 0x0C, code := 1, sev := 2, mn := if namesMech c.d then c.d.mn else 0xFFFF, fn := fn, detail0 := tag,
        detail1 := c.d.opcode + c.qpid * 65536 })

end Sys2Proof.Machine
end

