-- ==== Sys2Proof/Machine/DiscRecords.lean ====
section
/-! DEFINITION. The structures that a disc and the calibration image hold, as bytes: disc information, map appends and their records, profile
and calibration records (spec/09_codes_and_moraine.md R248, R249, R273 to R279; spec/05_servo_loops.md R153; spec/07_calibration.md R204 to
R207; spec/10_floe_sets.md R290). -/

namespace Sys2Proof.Machine

/-- The n bytes from offset k. -/
def bytesAt (b : List Nat) (k n : Nat) : List Nat := (b.drop k).take n

/-- Check code, magic number and version of a structure whose CRC-32C stands at 0x3C and covers bytes 0 to 0x3B and the len bytes from 0x40. -/
def headOk (b : List Nat) (magic len : Nat) : Bool :=
  leAt b 0 2 == magic && leAt b 2 2 == 1 && leAt b 0x3C 4 == crc32c (b.take 0x3C ++ bytesAt b 0x40 len)

/-! ### Disc information (R248, R249) -/

/-- Bytes of the DI before its CRC. -/
def diLen (b : List Nat) : Nat := 0xE0 + 8 * leAt b 0x18 2 * leAt b 5 1

/-- The first copy whose CRC passes. -/
def diCopy (l : List (List Nat)) : Option (List Nat) :=
  l.find? fun b => leAt b 0 2 == 0x4944 && leAt b (diLen b) 4 == crc32c (b.take (diLen b))

/-- LAYERS that a CLASS names. -/
def classLayers (c : Nat) : Nat := if c = 1 then 4 else if c = 2 then 6 else if c = 3 then 10 else 0

/-- A DI with the version and a CLASS that the device knows. -/
def diOk (b : List Nat) : Bool := leAt b 2 2 == 1 && decide (0 < leAt b 5 1) && leAt b 5 1 == classLayers (leAt b 4 1)

/-! ### Map appends (R273, R274, R290) -/

/-- A record of an append. -/
inductive JRec where
  | entries (l : List Extent)
  | seal_
  /-- MEMBER: the data member, its units as stripe and place, its extents -/
  | member (i : Nat) (units : List (Nat × Nat)) (l : List Extent)
  | other
  deriving DecidableEq, Repr

/-- The extent entry at offset k. -/
def entryAt (b : List Nat) (k : Nat) : Extent :=
  let w := leAt b k 8
  let a := leAt b (k + 8) 4
  (w % 2 ^ 48, w / 2 ^ 48, a / 2 ^ 25 % 16, a % 2 ^ 20, a / 2 ^ 20 % 32)

def entriesAt (b : List Nat) (k n : Nat) : List Extent := (List.range n).map fun i => entryAt b (k + 16 * i)

/-- The record at offset k. -/
def recordAt (b : List Nat) (k : Nat) : JRec :=
  let n := leAt b (k + 4) 4
  match leAt b k 1 with
  | 1 => .entries (entriesAt b (k + 16) n)
  | 2 => .entries (entriesAt b (k + 16) n)
  | 3 => .seal_
  | 4 =>
    let ns := leAt b (k + 10) 2
    .member (leAt b (k + 8) 1) ((List.range ns).map fun i =>
      (leAt b (k + 16 + 8 * i) 4, place (leAt b (k + 20 + 8 * i) 4 / 2 ^ 25 % 16) (leAt b (k + 20 + 8 * i) 4 % 2 ^ 20)))
      (entriesAt b (k + 16 + 8 * ns) n)
  | _ => .other

/-- The n records from offset k. -/
def recordsAt (b : List Nat) : Nat → Nat → List JRec
  | 0, _ => []
  | n + 1, k => recordAt b k :: recordsAt b n (k + (8 + leAt b (k + 2) 2 + 7) / 8 * 8)

/-- An append as replay uses it. -/
structure Append where
  at_ : Nat
  gen : Nat
  ckpt : Nat
  flags : Nat
  recs : List JRec
  deriving DecidableEq, Repr

/-- The append in a map cluster, when its header is valid (R273). -/
def appendOf (x : Nat × List Nat) : Option Append :=
  let b := x.2
  if headOk b 0x4A4D (leAt b 0x20 4) then
    some { at_ := x.1, gen := leAt b 4 4, ckpt := leAt b 0x18 4, flags := leAt b 0x24 4, recs := recordsAt b (leAt b 0x1C 4) 0x40 }
  else none

/-- Insert an append by GEN; one of two copies is kept (R276). -/
def insertAppend (a : Append) : List Append → List Append
  | [] => [a]
  | x :: l => if a.gen < x.gen then a :: x :: l else if a.gen = x.gen then x :: l else x :: insertAppend a l

/-- The appends that replay applies, by GEN, and the last valid one (R275, R278). -/
def replayed (l : List (Nat × List Nat)) : List Append × Option Append :=
  let v := l.filterMap appendOf
  let last := v.foldl (fun (b : Option Append) a => match b with
    | none => some a
    | some x => if x.at_ < a.at_ then some a else some x) none
  let from_ := (last.map (·.ckpt)).getD 0
  ((v.filter fun (a : Append) => decide (from_ ≤ a.gen)).foldl (fun r a => insertAppend a r) [], last)

def recExtents : JRec → List Extent
  | .entries l => l
  | _ => []

/-! ### Profile records (R153, R279) -/

/-- A profile record on disc: ROTOR_OFS and CLAMP_EPOCH are 0 there. -/
def profBytes (p : ProfRec) (layer media : Nat) : List Nat :=
  let pts := (p.focus ++ (if p.track.isEmpty then List.replicate 1024 0 else p.track)).flatMap fun v => leBytes 2 (unsignedOf 16 v)
  let mean := p.focus.foldl (· + ·) 0 * 4 / 1024
  let h := leBytes 2 0x5A53 ++ leBytes 2 1 ++ [layer % 256, media % 256] ++ leBytes 2 (if p.track.isEmpty then 1 else 3) ++ leBytes 2 p.revs ++ leBytes 2 p.speed ++ leBytes 8 0 ++
    leBytes 2 p.mn ++ leBytes 2 0 ++ leBytes 4 (unsignedOf 32 mean) ++ List.replicate 32 0
  h ++ leBytes 4 (crc32c (h ++ pts)) ++ pts

/-- The profile record of 4,160 bytes: its layer and content, when it is valid and its focus table is; a tracking table that is not valid is not taken. -/
def profOf (b : List Nat) : Option (Nat × ProfRec) :=
  let flags := leAt b 6 2
  if headOk b 0x5A53 4096 && decide (leAt b 4 1 ≤ 9) && bitAt flags 0 == 1 then
    let pt := fun (k : Nat) => (List.range 1024).map fun i => signed 16 (leAt b (k + 2 * i) 2)
    some (leAt b 4 1, { focus := pt 0x40, track := if bitAt flags 1 = 1 then pt 0x840 else [], media := leAt b 5 1, revs := leAt b 8 2,
                        speed := leAt b 10 2, mn := leAt b 0x14 2 })
  else none

/-! ### Calibration records (R204 to R207) -/

/-- A calibration record of an image or a snapshot. -/
structure CalImg where
  space : Nat
  layer : Nat
  index : Nat
  media : Nat
  sn : Nat
  disc : Nat
  runTime : Nat
  d : List Nat
  deriving DecidableEq, Repr

def calImgOf (b : List Nat) : CalImg :=
  { space := leAt b 0 1, layer := leAt b 1 1, index := leAt b 2 2, media := leAt b 4 1, sn := leAt b 8 8, disc := leAt b 0x10 8,
    runTime := leAt b 0x18 8, d := (List.range 8).map fun i => leAt b (0x20 + 4 * i) 4 }

/-- The record of the values in use, as 64 bytes. -/
def State.calBytes (s : State) (space index layer : Nat) : List Nat :=
  let r := s.calRec space index layer
  let own := space == 0
  [space, layer] ++ leBytes 2 index ++ [if own then s.get .MECH_DISC_MEDIA index else 0, 0, 0, 0] ++ leBytes 8 (if own then s.bridgeSn index else 0) ++
    leBytes 8 (if own then (s.mx index).discId else 0) ++ leBytes 8 r.runTime ++ (List.range 8).flatMap fun i => leBytes 4 (dw r.d i)

/-- A record applies as OP 2 does, or is skipped (R205, R206). -/
def State.applyCal (s : State) (c : CalImg) : Option State :=
  if s.calSelErr c.space c.index c.layer ≠ 0 ∨ ¬ s.calInRange c.space c.index (calLayer c.space c.layer) c.d then none
  else some ((s.putCal c.space c.index (calLayer c.space c.layer) c.d).modCal c.space c.index (calLayer c.space c.layer) fun r =>
    { r with runTime := c.runTime })

/-- A snapshot record of another bridge: its offsets are starting values, stale; its write power is not used (R207). -/
def State.foreignCal (s : State) (n : Nat) (c : CalImg) : State :=
  (s.modCal 0 n c.layer fun r =>
    { r with d := [dw c.d 0, dw c.d 1, dw c.d 2, 0, 0, dw c.d 5 % 65536, dw c.d 6 % 32 + 0x3F00, 0] }).rampOffsets n c.layer

/-! ### Profile appends (R153, R207, R279) -/

/-- A profile append: SEQ, its profile records and its calibration records, when it is valid. -/
def profAppendOf (b : List Nat) : Option (Nat × List (Nat × ProfRec) × List CalImg) :=
  let np := leAt b 0x10 2
  let nc := leAt b 0x12 2
  if headOk b 0x5A50 (4160 * np + 64 * nc) then
    some (leAt b 4 4, (List.range np).filterMap (fun i => profOf (bytesAt b (0x40 + 4160 * i) 4160)),
      (List.range nc).map fun i => calImgOf (bytesAt b (0x40 + 4160 * np + 64 * i) 64))
  else none

/-- The clusters of a profile zone in order of SEQ. -/
def profAppends (l : List (List Nat)) : List (Nat × List (Nat × ProfRec) × List CalImg) :=
  (l.filterMap profAppendOf).foldl (fun r a =>
    (r.takeWhile fun x => decide (x.1 ≤ a.1)) ++ a :: r.dropWhile fun x => decide (x.1 ≤ a.1)) []

/-- The profile append of an UNMOUNT: every layer learned or relearned, then a fresh snapshot of every layer. -/
def State.profAppend (s : State) (n : Nat) : List Nat :=
  let layers := List.range (s.get .MECH_DISC_LAYERS n)
  let ps := layers.filter fun l => (s.profRec n l).fresh && s.hasProfile n l
  let body := (ps.flatMap fun l => profBytes (s.profRec n l) l (s.get .MECH_DISC_MEDIA n)) ++ layers.flatMap fun l => s.calBytes 0 n l
  let h := leBytes 2 0x5A50 ++ leBytes 2 1 ++ leBytes 4 ((s.disc n).profSeq + 1) ++ leBytes 8 (s.mx n).discId ++ leBytes 2 ps.length ++
    leBytes 2 layers.length ++ List.replicate 40 0
  h ++ leBytes 4 (crc32c (h ++ body)) ++ body

/-- 28 blocks of a cluster from its user bytes. -/
def clusterBlocks (b : List Nat) : List Nat := (List.range 28).map fun k => bytesBlock (bytesAt b (4096 * k) 4096)

end Sys2Proof.Machine
end

