-- ==== Sys2Proof/Machine/StateCmds.lean ====
section
/-! DEFINITION. The state commands MOUNT, UNMOUNT, LOAD and EJECT (spec/02_mechanisms.md R37 to R41; spec/09_codes_and_moraine.md R278;
spec/13_command_set.md R364, R365). A row runs the outstanding command FN, TAG as far as it can go; it may come again. -/

namespace Sys2Proof.Machine

def stateOp (o : Nat) : Bool := decide (5 ≤ o) && decide (o ≤ 8)

/-- The commands of the mechanism accepted before this one. -/
def State.before (s : State) (c : Ctx) : List Ctx := (s.cmdsOf c.d.mn).takeWhile fun x => !(x.fn == c.fn && x.d.tag == c.d.tag)

/-- State commands run one at a time in the order of their acceptance (R40), also behind one that ended early (R355). -/
def State.stateTurn (s : State) (c : Ctx) : Bool := !((s.before c).any fun x => stateOp x.d.opcode) && (s.mx c.d.mn).orphan.isNone

/-! ### MOUNT: what the disc holds (R248, R278, R153, R207) -/

/-- The mount data of a HAF disc from its DI and its appends. -/
def mountDisc (di : List Nat) (i : MountInfo) : DiscX × List Append :=
  let layers := leAt di 5 1
  let zones := leAt di 0x18 2 * layers
  let r := replayed i.appends
  let exts := r.1.flatMap fun a => a.recs.flatMap recExtents
  let gen := (r.2.map (·.gen)).getD 0
  let all := (i.appends.filterMap appendOf).foldl (fun l a => insertAppend a l) []
  let ck := ((r.1.filter fun a => bitAt a.flags 1 == 1).getLast?.map (·.gen)).getD 0
  ({ matrix := leAt di 6 2, dz := leAt di 0x10 4, extents := mapExtents [] exts, gen := gen,
     mapNext := i.mapWritten, profNext := i.profWritten, ckptGen := (r.2.map (·.ckpt)).getD 0, sinceCkpt := (r.1.filter fun a => decide (ck < a.gen)).length,
     dataNext := (List.range layers).map fun l =>
       (l, max (i.blank.getD l 0) (exts.foldl (fun m e => if e.2.2.1 = l then max m (e.2.2.2.1 + (e.2.2.2.2 + e.2.1 + 27) / 28) else m) 0)),
     profSeq := ((profAppends i.profiles).getLast?.map (·.1)).getD 0,
     leadIn := (List.range layers).map fun l => (leAt di (0x40 + 16 * l) 2, signed 16 (leAt di (0x42 + 16 * l) 2)),
     zones := (List.range zones).map fun z => (leAt di (0xE0 + 8 * z) 4, leAt di (0xE4 + 8 * z) 4),
     memberRecs := all.flatMap fun a => a.recs.flatMap fun x => match x with
       | .member m us _ => us.map fun u => (m, u.1, u.2)
       | _ => [],
     memberExts := all.flatMap fun a => a.recs.flatMap fun x => match x with
       | .member m _ l => l.map fun e => { member := m, lba := e.1, count := e.2.1, layer := e.2.2.1, cluster := e.2.2.2.1, block := e.2.2.2.2 }
       | _ => [] }, r.1)

/-- The profiles and the snapshot of the profile zone come into DRAM: the latest record of each layer. -/
def State.loadRecords (s : State) (n : Nat) (i : MountInfo) : State :=
  let l := profAppends i.profiles
  let s1 := s.forEach ((l.flatMap fun a => a.2.1).filter fun p => p.2.media == s.get .MECH_DISC_MEDIA n) fun t p => t.modProfiles fun l => tabIns l (profKey n p.1) p.2
  let cals := (l.getLast?.map fun a => a.2.2).getD []
  s1.forEach (cals.filter fun c => c.space == 0 && decide (c.layer < s.get .MECH_DISC_LAYERS n)) fun t c =>
    if c.sn = s.bridgeSn n then
      if t.calInRange 0 n c.layer c.d then (t.putCal 0 n c.layer c.d).modCal 0 n c.layer fun r => { r with runTime := c.runTime } else t
    else t.foreignCal n c

/-- Blocks before the padding of the unit at a place, from the extents of a journal. -/
def unitLenOf (l : List Extent) (p : Nat) : Nat :=
  (l.filter fun e => e.2.2.1 == placeLayer p && e.2.2.2.1 == placeCluster p).foldl (fun m e => max m (min 28 (e.2.2.2.2 + e.2.1))) 0

/-- Put a place into a stripe of a set, as a MEMBER record names it. -/
def noteUnit (l : List Extent) (f : FloeSet) (m num p : Nat) : FloeSet :=
  let n := if unitLenOf l p = 0 then 28 else unitLenOf l p
  match f.stripe num with
  | none => { f with stripes := f.stripes ++ [{ num := num, units := [(m, p)], lens := [(m, n)] }], used := max f.used (num + 1) }
  | some x =>
    let y := if x.units.any fun e => e.1 == m then { x with units := x.units.map fun e => if e.1 = m then (m, p) else e }
      else { x with units := x.units ++ [(m, p)], lens := x.lens ++ [(m, n)] }
    { f with stripes := f.stripes.map fun z => if z.num = num then y else z }

/-- The data commits that the journal of a mounted data member tells, with the extents that its map holds in each unit; the journal of a parity member
carries those whose units it names (R290, R291). -/
def noteCarried (d : DiscX) (parity : Bool) (i : Nat) (f : FloeSet) : FloeSet :=
  if parity then
    { f with memberCommits := f.memberCommits.map fun m =>
        if !m.carried.contains i && m.units.all fun u => d.memberRecs.contains (m.member, u.1, u.2) then { m with carried := i :: m.carried } else m }
  else
    let mine := d.memberRecs.filter fun r => r.1 == i && !(f.memberCommits.any fun m => m.member == i && m.units.contains (r.2.1, r.2.2))
    { f with memberCommits := f.memberCommits ++ mine.map fun r =>
        { member := i, units := [(r.2.1, r.2.2)],
          exts := d.extents.filter fun e => e.2.2.1 == placeLayer r.2.2 && e.2.2.2.1 == placeCluster r.2.2 } }

/-- The floe engine takes in the journal of a mounted member: its MEMBER records and, on a parity member, its parity commits (R290, R291). -/
def State.joinSet (s : State) (n : Nat) : State :=
  match s.memberOf n with
  | none => s
  | some (id, i) =>
    let d := s.disc n
    let parity := decide ((s.set_ id).k ≤ i)
    let known := if parity then d.memberExts.map fun e => (e.lba, e.count, e.layer, e.cluster, e.block) else d.extents
    let s1 := s.modSet id fun f =>
      noteCarried d parity i (d.memberRecs.foldl (fun g r => noteUnit known g r.1 r.2.1 r.2.2) { f with layers := tabIns f.layers i (s.get .MECH_DISC_LAYERS n) })
    if !parity then s1
    else s1.modSet id fun f =>
      { f with
        maps := f.maps ++ d.memberExts.filter (fun e => !f.maps.contains e)
        stripes := f.stripes.map fun x =>
          if (lookup d.extents (28 * x.num)).isSome ∧ ¬ x.prot.contains i then { x with prot := i :: x.prot } else x }

/-! ### MOUNT: its end -/

/-- No map append has been written on a HAF disc (R278). -/
def State.blankDisc (s : State) (n : Nat) : Bool := isHaf (s.get .MECH_DISC_MEDIA n) && (s.disc n).mapNext == 0

def State.freeCount (s : State) (n : Nat) : Nat :=
  if isBd (s.get .MECH_DISC_MEDIA n) then ((s.disc n).bdCapacity - (s.disc n).bdNext) / 16
  else freeClusters (s.disc n) (s.get .MECH_DISC_LAYERS n)

/-- Map appends possible before the seal (R277). -/
def State.appendsLeft (s : State) (n : Nat) : Nat :=
  if s.on .MECH_DISC_SEALED n ∨ ¬ isHaf (s.get .MECH_DISC_MEDIA n) then 0
  else min (s.mapZone n - 1 - (s.disc n).mapNext) (0xFFFFFFFE - (s.disc n).gen)

/-- The mount report of 64 bytes (R364). -/
def State.mountReport (s : State) (n : Nat) : List Nat :=
  let m := s.memberOf n
  let parity := match m with
    | some (id, i) => decide ((s.set_ id).k ≤ i)
    | none => false
  let flags := s.get .MECH_DISC_SEALED n + b2n (s.blankDisc n) * 2 + s.get .MECH_DISC_PROFILE_VALID n * 4 + b2n m.isSome * 8 + b2n parity * 16
  let b := leBytes 8 (s.mx n).discId ++ leBytes 4 (s.capacity n) ++ leBytes 4 (s.disc n).gen ++ leBytes 4 (s.freeCount n) ++
    [s.get .MECH_DISC_MEDIA n, s.get .MECH_DISC_LAYERS n] ++ leBytes 2 flags ++ leBytes 2 ((m.map (·.1)).getD 0) ++ [(m.map (·.2)).getD 0xFF, 0] ++
    leBytes 2 (s.disc n).matrix ++ leBytes 2 0 ++ leBytes 4 (s.appendsLeft n) ++ List.replicate 24 0
  b ++ leBytes 4 (crc32c b)

/-- RESULT0 of a MOUNT. -/
def State.mountResult (s : State) (n : Nat) : Nat :=
  s.get .MECH_DISC_MEDIA n + s.get .MECH_DISC_LAYERS n * 16 + s.get .MECH_DISC_SEALED n * 256 + b2n (s.blankDisc n) * 512 +
    s.get .MECH_DISC_PROFILE_VALID n * 1024

/-- A MOUNT is complete: failure counts of its calibration items start anew (R198), the report goes to the host before the completion. -/
def State.mountDone (s : State) (n : Nat) (c : Option Ctx) (dma : Dma) : State :=
  let s1 := s.modCals fun l => l.map fun (e : Nat × CalRec) =>
    if e.1 / 65536 = 0 ∧ e.1 / 16 = n then (e.1, { e.2 with fails := [0, 0, 0, 0, 0, 0], retryAt := [0, 0, 0, 0, 0, 0] }) else e
  let s2 := (s1.bump .MECH_COUNT_MOUNTS n).modMech n fun m => { m with orphan := none }
  match c with
  | none => s2
  | some x =>
    if x.d.dptr0 = 0 then s2.complete x 0 0 (s2.mountResult n) (s2.capacity n)
    else if dma ≠ .done then s2.complete x (dmaStatus dma) 0 0 0
    else (s2.emit (.hostWrite x.fn x.d.dptr0 (s2.mountReport n))).complete x 0 0 (s2.mountResult n) (s2.capacity n)

/-- The mount data is complete: the disc is mounted, a floe set takes it as its member (R284). -/
def State.setMounted (s : State) (n : Nat) : State :=
  let s1 := (s.set .MECH_STATE_MOUNTED n 1).modMech n fun m => { m with mountHeld := false }
  ((s1.joinSet n).watchSets).endRun n

/-- A MOUNT that fails leaves the disc clamped and unmounted: the mechanism spins down to LOADED (R32, R248, R278). -/
def State.mountFails (s : State) (n media st : Nat) (c : Option Ctx) : State :=
  let s1 := ((s.clearMount n).wr .MECH_DISC n 0 0).set .MECH_DISC_MEDIA n media
  let s2 := (s1.modMech n fun m => { m with orphan := none }).startSpinDown n 3
  match c with
  | none => s2
  | some x => s2.complete x st 0 0 0

/-- The disc of a mechanism on track is read: its data come into DRAM, and a layer without a profile begins to learn one (R37, R152). -/
def State.readDisc (s : State) (n : Nat) (i : MountInfo) (c : Option Ctx) : State :=
  let s0 := s.clearMount n
  let load := fun (t : State) =>
    let t1 := t.modMech n fun m => { m with mountHeld := true }
    let l := (t1.sx n).layer
    if t1.hasProfile n l then t1.loadProfile n l else t1.startLearning n
  if i.media = 8 ∨ i.media = 9 then
    load ((((s0.wr .MECH_DISC n 0 0).set .MECH_DISC_MEDIA n i.media).set .MECH_DISC_LAYERS n i.bdLayers).modDisc n fun _ =>
      { ({} : DiscX) with bdCapacity := i.bdCapacity, bdNext := i.bdNext, bdBit := i.bdBit })
  else if i.media ≠ 1 then s.mountFails n 0xF 0x0334 c
  else if s.singleBeam n then s.mountFails n 0xE 0x0407 c
  else match diCopy i.di with
    | none => s.mountFails n 0xF 0x0334 c
    | some di =>
      if !diOk di then s.mountFails n 0xF 0x0334 c
      else
        let media := leAt di 4 1
        if !(s.chan.matrices.any fun e => e.2.id == leAt di 6 2) then s.mountFails n media 0x0336 c
        else
          let r := mountDisc di i
          if 0 < i.mapWritten ∧ r.2.isEmpty then s.mountFails n media 0x0335 c
          else
            let sealed_ := match (replayed i.appends).2 with
              | some a => bitAt a.flags 2 == 1 && a.recs.contains .seal_
              | none => false
            let s1 := (((s0.wr .MECH_DISC n 0 0).set .MECH_DISC_MEDIA n media).set .MECH_DISC_LAYERS n (leAt di 5 1)).set .MECH_DISC_SEALED n (b2n sealed_)
            let s2 := (s1.modDisc n fun _ => r.1).modMech n fun m => { m with discId := leAt di 8 8 }
            load (s2.loadRecords n i)

/-- One step of a MOUNT whose turn it is. -/
def State.mountStep (s : State) (n : Nat) (info : Option MountInfo) (c : Option Ctx) (dma : Dma) : State :=
  let st := s.mst n
  if s.on .MECH_STATE_BUSY n then s
  else if st = 2 ∨ st = 3 then s.wantSpin n (s.clusterSpeed n 0 0xF0000) 0
  else if st = 4 then s.acquireAgain n 0
  else if st ≠ 6 ∧ st ≠ 7 then s
  else if s.on .MECH_STATE_MOUNTED n then s.mountDone n c dma
  else if (s.mx n).mountHeld then (if s.hasProfile n (s.sx n).layer then (s.setMounted n).mountDone n c dma else s)
  else
    let t := s.askLane n ((s.laneOf n).isNone && !s.laneWork n)
    match info with
    | none => t
    | some i => if (t.laneOf n).isSome then t.readDisc n i c else t

/-- The status with which a MOUNT ends at once, 0 for none (R39, R381). -/
def State.mountStatus (s : State) (n : Nat) : Nat :=
  match s.mst n with
  | 0 => 0x0403
  | 1 => 0x0404
  | 9 => 0x0402
  | _ => if s.on .MECH_STATE_SAFE_HOLD n then 0x0602 else 0

/-- A state command whose turn has come clears a fault first (R39). -/
def State.leaveFault (s : State) (n : Nat) : State := if s.mst n = 8 then s.clearFault n else s

/-- Mark a command as running and started (R330). -/
def State.runCtx (s : State) (c : Ctx) : State := (s.modCtx c.fn c.d.tag fun x => { x with phase := .running, started := true }).dropHint c.d.mn

/-- The mechanism whose transition a state command that ended early still drives. -/
def State.orphanMech (s : State) (op fn tag : Nat) : Option Nat := (s.mech.find? fun e => e.2.orphan == some (op, fn, tag)).map (·.1)

/-- MOUNT. `info` is what the disc holds once it has been read, `dma` how the report's transfer ends. -/
def execMount (fn : FnIx) (tag : Nat) (info : Option MountInfo) (dma : Dma) (s : State) : Out :=
  match s.ctx fn tag with
  | none => match s.orphanMech 5 fn tag with
    | none => fin s
    | some n => fin (s.mountStep n info none dma)
  | some c =>
    let n := c.d.mn
    if c.d.opcode ≠ 5 ∨ c.qpid = 0 ∨ ¬ s.stateTurn c then fin s
    else if c.started then fin (s.mountStep n info (some c) dma)
    else
      let t := s.leaveFault n
      let st := t.mountStatus n
      if st ≠ 0 then fin (t.cutCmd c st)
      else fin ((t.runCtx c).mountStep n info (some { c with phase := .running, started := true }) dma)

/-! ### UNMOUNT and EJECT (R39, R41, R277, R279, R300) -/

/-- Nothing of the mechanism is still to be written, or can be (R39, R360). -/
def State.quiet (s : State) (n : Nat) : Bool := !(s.host.wbuf.any fun w => w.mn == n) && !s.pendingCommits n

/-- Map clusters that a checkpoint of the whole map takes: 4,094 entries fit one record, 7,162 one cluster. -/
def State.ckptParts (s : State) (n : Nat) : Nat := max 1 (((s.disc n).extents.length + 7161) / 7162)

/-- A checkpoint is due and leaves room for the sealing append (R277). -/
def State.ckptDue (s : State) (n : Nat) : Bool :=
  let d := s.disc n
  decide (256 ≤ d.sinceCkpt) && decide (d.mapNext + s.ckptParts n < s.mapZone n) && decide (d.gen + s.ckptParts n < 0xFFFFFFFF)

def State.writeCkpt (s : State) (n : Nat) : State :=
  let d := s.disc n
  let k := s.ckptParts n
  let s1 := s.forEach (List.range k) fun t i =>
    let last := i + 1 == k
    let l := (d.extents.drop (7162 * i)).take 7162
    let rec_ := fun (m : List Extent) => recordBytes 2 m.length (leBytes 4 i ++ leBytes 4 0 ++ m.flatMap entryBytes)
    let recs := if l.length ≤ 4094 then [rec_ l] else [rec_ (l.take 4094), rec_ (l.drop 4094)]
    t.emit (.append n (d.gen + 1 + i) (d.mapNext + i)
      (appendImage (s.mx n).discId (d.gen + 1 + i) (if last then d.gen + 1 else d.ckptGen) (1 + 2 * b2n last) recs.length s.now recs.flatten))
  s1.modDisc n fun x => { x with gen := d.gen + k, mapNext := d.mapNext + k, sinceCkpt := 0, ckptGen := d.gen + 1 }

/-- The place of cluster k of the profile zone (R247). -/
def profPlace (k : Nat) : Nat := place (k / 2048) (0xF0040 + k % 2048)

/-- A profile append is due: the disc is a HAF disc, not sealed, and its profile zone has room (R153, R207, R279). -/
def State.profDue (s : State) (n : Nat) : Bool :=
  isHaf (s.get .MECH_DISC_MEDIA n) && !s.on .MECH_DISC_SEALED n && decide ((s.disc n).profNext < 2048 * s.get .MECH_DISC_LAYERS n)

def State.writeProf (s : State) (n : Nat) : State :=
  let d := s.disc n
  let s1 := s.emit (.discWrite n (profPlace d.profNext) (clusterBlocks (s.profAppend n)))
  let s2 := s1.modDisc n fun x => { x with profNext := d.profNext + 1, profSeq := d.profSeq + 1 }
  s2.modProfiles fun l => l.map fun (e : Nat × ProfRec) => if e.1 / 16 = n then (e.1, { e.2 with fresh := false }) else e

/-- The appends of an UNMOUNT, then the spin-down toward `target`: one transition, which the disc access is a part of (R36). Appends that the mechanism
cannot write are left out. A re-acquisition under way is abandoned for it (R52). -/
def State.unmountActive (s0 : State) (n target : Nat) : State :=
  let s := if s0.get .MECH_STATE_TARGET n = target then s0
    else (if s0.on .MECH_STATE_BUSY n then s0.endMove n (s0.mst n) else s0).beginMove n target
  if ¬ s.appendReady n ∨ ¬ (s.ckptDue n ∨ s.profDue n) then s.startSpinDown n target
  else
    let t := s.askLane n ((s.laneOf n).isNone && !s.laneWork n)
    if (t.laneOf n).isNone then t
    else match t.askWrite n 0 none with
      | (u, .deferred) => u
      | (u, .refused) => u.startSpinDown n target
      | (u, .granted) =>
        let u1 := if u.ckptDue n then u.writeCkpt n else u
        let u2 := if u1.profDue n then u1.writeProf n else u1
        (u2.endRun n).startSpinDown n target

/-- One step of an UNMOUNT (target 3) or EJECT (target 1) whose turn it is, from LOADED, PARKED or a servo-active state. -/
def State.unmountStep (s : State) (n target : Nat) : State :=
  let st := s.mst n
  let tgt := s.get .MECH_STATE_TARGET n
  if s.on .MECH_STATE_BUSY n && !(servoActive st && !(s.mx n).spinDown && (tgt == 6 || tgt == target)) then s
  else if !s.quiet n then s
  else if st = 2 then
    let t := s.clearMount n
    if target = 3 then (t.endMove n 3).completeState n 6 0 else ((t.enterState n 3).beginMove n 1).askTray n
  else if st = 3 ∨ st = 1 then (s.beginMove n 1).askTray n
  else if servoActive st then s.unmountActive n target
  else s

/-- A spin-down that began of itself, its spindle not yet stopped, takes the new target (R45). -/
def State.takeOver (s : State) (n : Nat) : State := if (s.mx n).spinDown && !(s.mx n).stopIssued then s.cancelSpinDown n else s

/-- UNMOUNT and EJECT: they act after the last command accepted before them (R41). -/
def State.unmountCmd (s : State) (fn tag op target : Nat) (done : Nat → Bool) : Out :=
  match s.ctx fn tag with
  | none => match s.orphanMech op fn tag with
    | none => fin s
    | some n => fin (s.unmountStep n target)
  | some c =>
    let n := c.d.mn
    if c.d.opcode ≠ op ∨ c.qpid = 0 ∨ ¬ s.stateTurn c ∨ ¬ (s.before c).isEmpty then fin s
    else if c.started then fin (s.unmountStep n target)
    else
      let t := s.leaveFault n
      let st := t.mst n
      if st = 0 then fin (t.cutCmd c 0x0403)
      else if st = 9 then fin (t.cutCmd c 0x0402)
      else if done st then fin (t.cutCmd c 0)
      else fin (((t.takeOver n).runCtx c).unmountStep n target)

/-- UNMOUNT. -/
def execUnmount (fn : FnIx) (tag : Nat) (s : State) : Out := s.unmountCmd fn tag 6 3 fun st => st == 1 || st == 3

/-- EJECT. -/
def execEject (fn : FnIx) (tag : Nat) (s : State) : Out := s.unmountCmd fn tag 8 1 fun _ => false

/-! ### LOAD (R39, R187) -/

/-- LOAD. -/
def execLoad (fn : FnIx) (tag : Nat) (s : State) : Out :=
  match s.ctx fn tag with
  | none => fin s
  | some c =>
    let n := c.d.mn
    if c.d.opcode ≠ 7 ∨ c.qpid = 0 ∨ ¬ s.stateTurn c ∨ c.started then fin s
    else
      let t := s.leaveFault n
      match t.mst n with
      | 0 => fin (t.cutCmd c 0x0403)
      | 9 => fin (t.cutCmd c 0x0402)
      | 1 => fin (if t.on .MECH_STATE_BUSY n then t else ((t.runCtx c).beginMove n 3).askTray n)
      | _ => fin (t.cutCmd c 0)

end Sys2Proof.Machine
end

