-- ==== Sys2Proof/Machine/FnStops.lean ====
section
/-! DEFINITION. Function stops, resets of host ports and functions, and fences (spec/12_host_ports_and_rings.md R319, R328, R348 to R350). -/

namespace Sys2Proof.Machine

/-- A function stops. `cause` is that of log entry 0x0A.0x02: 1 FLR, 2 PF FLR, 3 port reset, 4 bus master, 5 EN, 6 fence. Accepted WRITEs
leave the buffer without a commit record, WRITEs completed under BUFFERED stay, completions and events are discarded and counted, queue
pairs and doorbell table go (R348). -/
def State.stopFn (s : State) (fn cause : Nat) : State :=
  let n := s.fnWork fn
  let s0 := s.forEach (s.host.cmds.filter fun c => c.fn == fn) State.haltCmd
  let s1 := s0.forEach (s0.host.cmds.filter fun c => c.fn == fn) fun t c => ((t.withdrawCmd fn c.d.tag).dropWrite fn c.d.tag).dropCtx fn c.d.tag
  let s2 := s1.modHost fun h =>
    { h with merge := h.merge.filter (fun c => c.fn != fn),
             held := h.held.filter (fun c => c.fn != fn), events := tabDel h.events fn,
             qps := h.qps.filter (fun e => e.1 / 65536 != fn) }
  let ms := (s.host.cmds.filter fun c => c.fn == fn && c.qpid != 0).map fun c => c.d.mn
  let s3 := (s2.forEach ms State.dropReads).modFn fn fun f => { f with stopping := true, dbPages := [], scanDue := false }
  let s4 := s3.bumpBy .HQP_FN_DISCARD_COUNT fn n
  if n = 0 then s4
  else (s4.raise .HQP_EVENT_FN_STOP).logEntry { cls := 0x0A, code := 2, sev := 2, fn := fn, detail0 := cause, detail1 := n }

/-- Reset or link-down of a host port stops its functions only (R319, R348, R560). -/
def State.portReset (s : State) (p : Nat) : State :=
  let s1 := (((s.bump .HQP_PORT_RESETS p).set .HQP_PORT_WIDTH p 0).set .HQP_PORT_RATE p 0).set .HQP_PORT_L1 p 0
  let s2 := (s1.set .HQP_PORT_UP p 0).raise .HQP_EVENT_PORT_DOWN
  let fns := (List.range 64).map fun f => p * 64 + f
  let s3 := s2.forEach fns fun t fn => (t.stopFn fn 3).resetBar0 fn
  s3.dropRoles (p * 64)

/-- HOST_PORT_RESET. -/
def execHostPortReset (p : HostPort) (s : State) : Out := fin (s.portReset p)

/-- FUNCTION_LEVEL_RESET: an FLR of a PF also stops every VF of the PF (R348). -/
def execFunctionLevelReset (fn : FnIx) (s : State) : Out :=
  let s1 := (s.stopFn fn 1).resetBar0 fn
  let vfs := if isPf fn then (List.range 63).map (fun k => fn.val + k + 1) else []
  let s2 := s1.forEach vfs fun t v => (t.stopFn v 2).resetBar0 v
  fin (s2.dropRoles fn)

/-- BUS_MASTER_CLEAR (R348). -/
def execBusMasterClear (fn : FnIx) (s : State) : Out :=
  fin (((s.modFn fn fun f => { f with busMaster := false }).stopFn fn 4).dropRoles fn)

/-- FN_DISABLE: FN_CTRL.EN 0 stops the function and clears FATAL (R348, FN_STAT). -/
def execFnDisable (fn : FnIx) (s : State) : Out := regCmd s fun s =>
  let s1 := ((s.stopFn fn 5).dropRoles fn).set .FN_STAT_FATAL fn 0
  fin (s1.set .FN_STAT_CAUSE fn 0)

/-- Apply a fence: the function is fenced, loses the standby role and stops (R328). -/
def State.applyFence (s : State) (fn : Nat) : State :=
  let s1 := s.raise .HQP_FN_STAT_FENCED fn
  let s2 := if s1.isStandby fn then s1.endStandby else s1
  s2.stopFn fn 6

/-- FUNCTION_STOP_DONE: RDY and EN read 0, VER_REQ keeps its value; a fence that waited applies (R349, R350). -/
def execFunctionStopDone (fn : FnIx) (s : State) : Out :=
  if (s.fnx fn).stopping then
    let s1 := ((s.set .FN_STAT_RDY fn 0).set .FN_STAT_VER fn 0).set .FN_CTRL_EN fn 0
    let s2 := s1.modFn fn fun f => { f with stopping := false, fencePending := false }
    let s3 := if (s.fnx fn).fencePending then s2.raise .HQP_FN_STAT_FENCED fn else s2
    let more := s3.host.fnx.any fun e => e.2.stopping && s3.fenced e.1
    fin (if more then s3 else s3.set0 .HQP_FENCE_BUSY 0)
  else fin s

/-- Fence one function, or leave the fence waiting for a stop that is under way (R328, R350). -/
def State.fenceFn (s : State) (fn : Nat) : State :=
  if (s.fnx fn).stopping then (s.modFn fn fun f => { f with fencePending := true }).set0 .HQP_FENCE_BUSY 1
  else (s.applyFence fn).set0 .HQP_FENCE_BUSY 1

/-- FENCE_FUNCTION (R328, HQP_FENCE OP 1). -/
def execFenceFunction (target : Fin 256) (s : State) : Out := regCmd s fun s =>
  let s0 := s.set0 .HQP_FENCE_TARGET target
  if s.on .HQP_FENCE_BUSY then fin (s.set0 .HQP_FENCE_RESULT 3)
  else if s.isSteward target then fin (s0.set0 .HQP_FENCE_RESULT 1)
  else fin ((s0.fenceFn target).set0 .HQP_FENCE_RESULT 0)

/-- FENCE_PORT: every function of the port but the steward's PF (R328, HQP_FENCE OP 2). -/
def execFencePort (target : Fin 256) (s : State) : Out := regCmd s fun s =>
  let s0 := s.set0 .HQP_FENCE_TARGET target
  if s.on .HQP_FENCE_BUSY then fin (s.set0 .HQP_FENCE_RESULT 3)
  else if 4 ≤ target.val then fin (s0.set0 .HQP_FENCE_RESULT 2)
  else
    let fns := ((List.range 64).map fun f => target.val * 64 + f).filter fun fn => !s.isSteward fn
    fin ((s0.forEach fns fun t fn => t.fenceFn fn).set0 .HQP_FENCE_RESULT 0)

/-- UNFENCE_FUNCTION (R328, HQP_FENCE OP 3). -/
def execUnfenceFunction (target : Fin 256) (s : State) : Out := regCmd s fun s =>
  if s.on .HQP_FENCE_BUSY then fin (s.set0 .HQP_FENCE_RESULT 3)
  else fin (((s.set0 .HQP_FENCE_TARGET target).set .HQP_FN_STAT_FENCED target 0).set0 .HQP_FENCE_RESULT 0)

/-- UNFENCE_PORT (R328, HQP_FENCE OP 4). -/
def execUnfencePort (target : Fin 256) (s : State) : Out := regCmd s fun s =>
  let s0 := s.set0 .HQP_FENCE_TARGET target
  if s.on .HQP_FENCE_BUSY then fin (s.set0 .HQP_FENCE_RESULT 3)
  else if 4 ≤ target.val then fin (s0.set0 .HQP_FENCE_RESULT 2)
  else
    let fns := (List.range 64).map fun f => target.val * 64 + f
    fin ((s0.forEach fns fun t fn => t.set .HQP_FN_STAT_FENCED fn 0).set0 .HQP_FENCE_RESULT 0)

end Sys2Proof.Machine
end

