-- ==== Sys2Proof/Machine/FloeCmds.lean ====
section
/-! DEFINITION. Floe sets: stripes, resync, reconstruction, repair, scrub, rebuild and FLOE_CONFIG (spec/10_floe_sets.md R283 to R301;
spec/13_command_set.md R363, R379), and SCRUB. The engine reads the units of other members as clusters of their discs. -/

namespace Sys2Proof.Machine

/-! ### Linear algebra over GF(2^8) (R286) -/

/-- Row r of the generator matrix for k data members: a unit row, or a parity row of Cauchy coefficients. -/
def genRow (k r : Nat) : List Nat :=
  if r < k then (List.range k).map fun i => if i = r then 1 else 0 else (List.range k).map fun i => floeCoef (r - k) i

/-- a + c b, entry by entry. -/
def rowAdd (a b : List Nat) (c : Nat) : List Nat := List.zipWith (fun x y => Nat.xor x (gfMul c y)) a b

/-- Elimination of column c: the first row from c on with a pivot there is scaled, moved to place c and cleared from the others. -/
def pivotCol (m : List (List Nat)) (c : Nat) : List (List Nat) :=
  match (List.range m.length).find? fun r => decide (c ≤ r) && (m.getD r []).getD c 0 != 0 with
  | none => m
  | some r =>
    let p := (m.getD r []).map fun x => gfMul (gfInv ((m.getD r []).getD c 0)) x
    let m1 := (m.set r (m.getD c [])).set c p
    (List.range m1.length).map fun i => if i = c then p else rowAdd (m1.getD i []) p ((m1.getD i []).getD c 0)

/-- Weights w with sum over j of w_j genRow(inputs_j) = genRow(target): the unit `target` from k inputs. -/
def weights (k : Nat) (inputs : List Nat) (target : Nat) : List Nat :=
  let cols := inputs.map (genRow k)
  let m := (List.range k).map fun i => (cols.map fun r => r.getD i 0) ++ [(genRow k target).getD i 0]
  ((List.range k).foldl pivotCol m).map fun r => r.getD k 0

/-- The sum of units, byte by byte, each with its weight. -/
def combine (n : Nat) (l : List (Nat × List Nat)) : List Nat :=
  l.foldl (fun a e => rowAdd a e.2 e.1) (List.replicate n 0)

/-! ### Units of a stripe (R286, R293) -/

/-- The place of member i's unit in a stripe. -/
def StripeX.place (x : StripeX) (i : Nat) : Option Nat := (x.units.find? fun e => e.1 == i).map (·.2)

/-- Member i holds a unit of the stripe: a data member one of its units, a parity member one that protects it. -/
def holdsUnit (f : FloeSet) (x : StripeX) (i : Nat) : Bool := if i < f.k then (x.place i).isSome else x.prot.contains i

/-- Member i's unit is available: known zero, or held and its disc mounted. -/
def State.unitThere (s : State) (id : Nat) (x : StripeX) (i : Nat) : Bool :=
  let f := s.set_ id
  (i < f.k && (x.place i).isNone) || (holdsUnit f x i && (s.memberMn id i).isSome)

/-- Block b of a unit that was read, as bytes: padding counts as zeros (R286). -/
def readBlock (f : FloeSet) (x : StripeX) (r : FloeRead) (b : Nat) : Option (List Nat) :=
  let n := if r.member < f.k then ((x.lens.find? fun e => e.1 == r.member).map (·.2)).getD 28 else 28
  if n ≤ b then some (List.replicate 4096 0) else ((r.blocks.getD b none).map blockBytes)

/-- The inputs at block position b, in the order of members: known zeros, and units read. -/
def State.inputsAt (s : State) (id : Nat) (x : StripeX) (target : Nat) (reads : List FloeRead) (b : Nat) : List (Nat × List Nat) :=
  let f := s.set_ id
  (List.range (setSize f)).filterMap fun i =>
    if i = target then none
    else if i < f.k ∧ (x.place i).isNone then some (i, List.replicate 4096 0)
    else if !s.unitThere id x i then none
    else match reads.find? fun r => r.member == i with
      | none => none
      | some r => (readBlock f x r b).map fun v => (i, v)

/-- The bytes of member `target` at block position b from the first k inputs; none with fewer. -/
def State.rebuildBlock (s : State) (id : Nat) (x : StripeX) (target : Nat) (reads : List FloeRead) (b : Nat) : Option (List Nat) :=
  let k := (s.set_ id).k
  let ins := (s.inputsAt id x target reads b).take k
  if ins.length < k then none
  else
    let w := weights k (ins.map (·.1)) target
    some (combine 4096 ((List.range k).map fun j => (w.getD j 0, (ins.getD j (0, [])).2)))

/-- The 28 blocks of a unit rebuilt whole. -/
def State.rebuildUnit (s : State) (id : Nat) (x : StripeX) (target : Nat) (reads : List FloeRead) : Option (List Nat) :=
  let l := (List.range 28).filterMap fun b => s.rebuildBlock id x target reads b
  if l.length < 28 then none else some (l.map bytesBlock)

/-! ### Reading the units of other members (R293, R294) -/

/-- Where a unit stands for the engine. -/
inductive UnitSrc where
  /-- known zero: no read -/
  | zero
  /-- read: its blocks, none where a sector is unreadable after the disc's own retry -/
  | read (blocks : List (Option Nat))
  /-- to be read: mechanism, layer, cluster -/
  | want (mn layer cluster : Nat)
  /-- not mounted, not held, or on a mechanism that cannot be brought to it -/
  | gone
  deriving DecidableEq, Repr

/-- The mechanism, layer and cluster of member i's unit: a parity unit stands where the parity member's own map has the stripe's blocks (R287). -/
def State.unitPlace (s : State) (id : Nat) (x : StripeX) (i : Nat) : Option (Nat × Nat × Nat) :=
  match s.memberMn id i with
  | none => none
  | some n =>
    if i < (s.set_ id).k then (x.place i).map fun p => (n, placeLayer p, placeCluster p)
    else (lookup (s.disc n).extents (28 * x.num)).map fun e => (n, e.1, e.2.1)

/-- A mechanism can be read by the engine: it is servo-active, or PARKED and spins up under AUTO_SPIN. -/
def State.readable (s : State) (n : Nat) : Bool := servoActive (s.mst n) || (s.mst n == 2 && s.autoSpin n)

def State.unitSrc (s : State) (id : Nat) (x : StripeX) (i : Nat) : UnitSrc :=
  if i < (s.set_ id).k ∧ (x.place i).isNone then .zero
  else match s.unitPlace id x i with
    | none => .gone
    | some (n, layer, cluster) => match s.readOf n layer cluster with
      | some r =>
        if r.done || (unresolvedData r.sectors).isEmpty then
          .read ((List.range 28).map fun b => match r.sectors.getD b .pending with
            | .good v => some (leAt v 16 4096)
            | _ => none)
        else .want n layer cluster
      | none => if s.readable n then .want n layer cluster else .gone

/-- The units that the engine has read, of some members. -/
def State.unitsRead (s : State) (id : Nat) (x : StripeX) (l : List Nat) : List FloeRead :=
  l.filterMap fun i => match s.unitSrc id x i with
    | .read bl => some { member := i, blocks := bl }
    | _ => none

/-- The units still to be read, of some members. -/
def State.unitsWanted (s : State) (id : Nat) (x : StripeX) (l : List Nat) : List (Nat × Nat × Nat) :=
  l.filterMap fun i => match s.unitSrc id x i with
    | .want n layer cluster => some (n, layer, cluster)
    | _ => none

/-- The engine asks for clusters of other members, and for their heads. -/
def State.fetchUnits (s : State) (l : List (Nat × Nat × Nat)) : State :=
  s.forEach l fun t e => (t.wantCluster e.1 e.2.1 e.2.2).wantHead e.1 e.2.1 e.2.2

/-- The clusters that the engine has read of some members are dropped. -/
def State.dropUnits (s : State) (id : Nat) (x : StripeX) (l : List Nat) : State :=
  s.forEach (l.filterMap fun i => (s.unitPlace id x i).map (·.1)) State.dropReads

/-- Member i's unit can serve as an input at the block positions bs. -/
def State.usable (s : State) (id : Nat) (x : StripeX) (bs : List Nat) (i : Nat) : Bool :=
  s.unitThere id x i && match s.unitSrc id x i with
    | .zero => true
    | .want _ _ _ => true
    | .gone => false
    | .read bl => bs.all fun b => (readBlock (s.set_ id) x { member := i, blocks := bl } b).isSome

/-- Members in the order in which the engine takes inputs: those that need no spin-up first, then data members before parity members, by index (R293). -/
def State.inputOrder (s : State) (id : Nat) (target : Nat) : List Nat :=
  let l := (List.range (setSize (s.set_ id))).filter fun i => i != target
  let parked := fun (i : Nat) => match s.memberMn id i with
    | some n => s.mst n == 2
    | none => false
  l.filter (fun i => !parked i) ++ l.filter parked

/-- The k inputs for member `target` at the block positions bs; one that turned out unreadable there is replaced by another (R293). -/
def State.inputsFor (s : State) (id : Nat) (x : StripeX) (target : Nat) (bs : List Nat) : List Nat :=
  ((s.inputOrder id target).filter (s.usable id x bs)).take (s.set_ id).k

/-! ### Closing and resync (R289, R291) -/

/-- STRIPE_CLOSE_TIMEOUT: CLOSE_MS since the stripe's first unit. -/
def execStripeCloseTimeout (id : Fin 4096) (num : Nat) (s : State) : Out :=
  match (s.set_ id).stripe num with
  | none => fin s
  | some x => if x.opened + s.get .FLOE_GCFG_CLOSE_MS * 1000000 ≤ s.now then fin (s.closeStripe id num) else fin s

/-- The parity write of a stripe on parity member i is under way. -/
def State.parityPending (s : State) (id num i : Nat) : Bool := s.host.wbuf.any fun w => w.stripe == some (id, num, i)

/-- RESYNC: the data units of a closed stripe are read, and its parity is computed from them and written to each mounted parity member that lacks it. -/
def execResync (id : Fin 4096) (num : Nat) (s : State) : Out :=
  let f := s.set_ id
  match f.stripe num with
  | none => fin s
  | some x =>
    if x.isOpen ∨ ¬ s.on .FLOE_GCFG_AUTO_RESYNC ∨ x.units.any (fun e => !s.unitThere id x e.1) then fin s
    else
      let data := List.range f.k
      let due := ((List.range f.m).map fun j => f.k + j).filter fun i => !(x.prot.contains i || s.parityPending id num i || (s.memberMn id i).isNone)
      if due.isEmpty then fin s
      else match s.unitsWanted id x data with
        | e :: l => fin (s.fetchUnits (e :: l))
        | [] =>
          let own := s.unitsRead id x data
          fin ((s.forEach due fun t i => match t.rebuildUnit id x i own with
            | none => t
            | some bl =>
              (t.modStripe id num fun y => { y with resync := i :: y.resync.filter fun p => p != i }).writeParity id num (i - f.k) bl).dropUnits id x data)

/-! ### Reconstruction and repair (R293 to R295) -/

/-- The stripe that holds member i's unit at a place. -/
def FloeSet.stripeAt (f : FloeSet) (i p : Nat) : Option StripeX := f.stripes.find? fun x => x.place i == some p

/-- A reconstruction that fails (R294): RECON_FAIL, the log, and the status and result words for the commands that wait. -/
def State.reconFails (s : State) (n layer cluster id num st r0 r1 : Nat) : State :=
  let s1 := (s.raise .FLOE_EVENT_RECON_FAIL).logEntry { cls := 8, code := 3, sev := 2, mn := n, unit := id, detail0 := num, detail1 := st }
  s1.modRead n layer cluster fun r => { r with reconFail := some (st, r0, r1) }

/-- A rebuilt data sector: header, block, CRC-64 and zeros (R286). -/
def State.rebuiltBytes (s : State) (n layer cluster b : Nat) (block : List Nat) : List Nat :=
  let h := s.regenHeader n layer cluster b ++ block
  h ++ leBytes 8 (crc64 h) ++ List.replicate 8 0

/-- The sectors of a cluster that were rebuilt come in; a repair of the unit is due with REPAIR_EN. -/
def State.reconDone (s : State) (n layer cluster : Nat) (got : List (Nat × List Nat)) : State :=
  let s1 := s.modRead n layer cluster fun r =>
    { r with sectors := got.foldl (fun l e => l.set e.1 (.good (s.rebuiltBytes n layer cluster e.1 e.2))) r.sectors, recon := r.recon ++ got.map (·.1) }
  let s2 := ((s1.raise .FLOE_EVENT_RECON).bumpBy .FLOE_CNT_RECON_COUNT 0 got.length).modMech n fun m => { m with tlRecon := m.tlRecon + got.length }
  match (if s.on .FLOE_GCFG_REPAIR_EN then s1.readOf n layer cluster else none) with
  | none => s2
  | some r =>
    if !(unresolvedData r.sectors).isEmpty then s2
    else
      let bl := (List.range 28).map fun b => match r.sectors.getD b .pending with
        | .good x => leAt x 16 4096
        | _ => 0
      s2.modChan fun c => { c with repairs := c.repairs ++ [{ mn := n, at_ := place layer cluster, blocks := bl }] }

/-- FLOE_RECONSTRUCT: sectors of a cluster that sector retry left unresolved are rebuilt from k other members, which are read first. -/
def execFloeReconstruct (mn : Mn) (layer : Fin 16) (cluster : Nat) (s : State) : Out :=
  match s.readOf mn layer cluster, s.memberOf mn with
  | some r, some (id, i) =>
    let f := s.set_ id
    let lost := unresolvedData r.sectors
    if !r.done ∨ lost.isEmpty ∨ f.k ≤ i ∨ r.reconFail.isSome then fin s
    else
      let x := (f.stripeAt i (place layer cluster)).getD { num := 0, units := [(i, place layer cluster)] }
      let others := (List.range (setSize f)).filter fun j => j != i
      let there := (others.filter fun j => s.unitThere id x j).length
      if there < f.k then
        let away := others.filter fun j => holdsUnit f x j && (s.memberMn id j).isNone
        fin (s.reconFails mn layer cluster id x.num 0x0701 (away.foldl (fun a j => a + 2 ^ j) 0) (id * 65536 + (f.k - there)))
      else
        let ins := s.inputsFor id x i lost
        match s.unitsWanted id x ins with
        | e :: l => fin (s.fetchUnits (e :: l))
        | [] =>
          let units := s.unitsRead id x ins
          let got := lost.filterMap fun b => (s.rebuildBlock id x i units b).map fun v => (b, v)
          fin ((if got.length < lost.length then s.reconFails mn layer cluster id x.num 0x0702 0 0 else s.reconDone mn layer cluster got).dropUnits id x ins)
  | _, _ => fin s

/-- FLOE_REPAIR: the oldest rebuilt unit of a mechanism goes to a newly allocated cluster, and its extents are remapped (R295). -/
def execFloeRepair (mn : Mn) (s : State) : Out :=
  match s.chan.repairs.find? fun r => r.mn == mn.val, s.memberOf mn with
  | some r, some (id, i) =>
    let t := s.modChan fun c => { c with repairs := c.repairs.filter fun q => q != r }
    match (s.set_ id).stripeAt i r.at_ with
    | none => fin t
    | some x => match t.ownWrite mn 0 r.blocks (id, x.num, i) true (some r.at_) with
      | some u => fin u
      | none => fin ((t.raise .FLOE_EVENT_RECON_FAIL).logEntry { cls := 8, code := 3, sev := 2, mn := mn, unit := id, detail0 := x.num })
  | _, _ => fin s

/-! ### Scrub (R298) -/

/-- Every unit of a stripe as read: its bytes, none where a block is missing. -/
def readUnit (f : FloeSet) (x : StripeX) (r : FloeRead) : Option (List Nat) :=
  let l := (List.range 28).filterMap fun b => readBlock f x r b
  if l.length < 28 then none else some (l.flatMap id)

/-- The units of a stripe that agree with parity when member `skip` is left out: every other parity member's unit equals what the k inputs
give. -/
def agree (k : Nat) (us : List (Nat × List Nat)) (skip : Option Nat) : Bool :=
  let l := us.filter fun e => some e.1 != skip
  let ins := l.take k
  (l.drop k).all fun e =>
    let w := weights k (ins.map (·.1)) e.1
    combine unitLen ((List.range ins.length).map fun j => (w.getD j 0, (ins.getD j (0, [])).2)) == e.2

/-- Member i's unit is written anew: a data unit to a new cluster of its disc, a parity unit as the stripe's blocks. -/
def State.rewriteUnit (s : State) (id : Nat) (x : StripeX) (i : Nat) (blocks : List Nat) : State :=
  let fail := fun (t : State) => (t.raise .FLOE_EVENT_RECON_FAIL).logEntry { cls := 8, code := 3, sev := 2, unit := id, detail0 := x.num }
  match s.memberMn id i with
  | none => s
  | some n =>
    let r := if i < (s.set_ id).k then s.ownWrite n 0 blocks (id, x.num, i) true (x.place i)
      else s.ownWrite n (28 * x.num) blocks (id, x.num, i) true
    r.getD (fail s)

/-- A unit of `target` from the whole units of the others. -/
def unitFrom (k : Nat) (us : List (Nat × List Nat)) (target : Nat) : List Nat :=
  let ins := (us.filter fun e => e.1 != target).take k
  let w := weights k (ins.map (·.1)) target
  accBlocks (combine unitLen ((List.range ins.length).map fun j => (w.getD j 0, (ins.getD j (0, [])).2)))

/-- One closed stripe is scrubbed with its units as read: the state after it, whether something stays unresolved, how many units are rewritten. -/
def State.scrubStripe (s : State) (id : Nat) (x : StripeX) (reads : List FloeRead) : State × Bool × Nat :=
  let f := s.set_ id
  let held := (List.range (setSize f)).filter fun i => holdsUnit f x i
  let s0 := s.bump .FLOE_CNT_SCRUB_COUNT
  let us := (List.range (setSize f)).filterMap fun i =>
    if i < f.k ∧ (x.place i).isNone then some (i, List.replicate unitLen 0)
    else (reads.find? fun r => r.member == i).bind fun r => if holdsUnit f x i then (readUnit f x r).map fun v => (i, v) else none
  let bad := held.filter fun i => !(us.any fun e => e.1 == i)
  if !bad.isEmpty then
    let lost := bad.filter fun i => (s.rebuildUnit id x i reads).isNone
    (s0.forEach bad fun t i => match t.rebuildUnit id x i reads with
      | none => (t.raise .FLOE_EVENT_RECON_FAIL).logEntry { cls := 8, code := 3, sev := 2, unit := id, detail0 := x.num, detail1 := 0x0702 }
      | some bl => (t.raise .FLOE_EVENT_RECON).rewriteUnit id x i bl, !lost.isEmpty, bad.length - lost.length)
  else if agree f.k us none then (s0, false, 0)
  else
    let placed := if f.m = 1 then [f.k] else (us.map (·.1)).filter fun i => holdsUnit f x i && agree f.k us (some i)
    match placed with
    | [i] => ((((s0.raise .FLOE_EVENT_SCRUB_MISMATCH).bump .FLOE_CNT_MISMATCH_COUNT)).rewriteUnit id x i (unitFrom f.k us i), false, 1)
    | _ => (((s0.raise .FLOE_EVENT_SCRUB_UNRES).raise .FLOE_EVENT_SCRUB_MISMATCH).logEntry
        { cls := 8, code := 1, sev := 3, unit := id, detail0 := x.num, detail1 := f.m }, true, 0)

/-- The members that hold a unit of a stripe. -/
def heldBy (f : FloeSet) (x : StripeX) : List Nat := (List.range (setSize f)).filter fun i => holdsUnit f x i

/-- SCRUB_TICK: at RATE stripes per second the background scrub takes the set's next closed stripe whose members are all servo-active: it spins no disc up
(DESIGN CHOICE, notes/assumptions/108.md). Its units are read, then it is scrubbed. -/
def execScrubTick (id : Fin 4096) (s : State) : Out :=
  let f := s.set_ id
  let rate := s.get .FLOE_SCRUB_RATE
  if rate = 0 ∨ f.used = 0 ∨ s.now < f.scrubAt + 1000000000 / rate then fin s
  else
    let ok := fun (x : StripeX) => !x.isOpen && (heldBy f x).all fun i => match s.memberMn id i with
      | some n => servoActive (s.mst n)
      | none => false
    let order := (List.range f.used).map fun j => (f.scrubNext + j) % f.used
    match order.findSome? fun n => (f.stripe n).bind fun x => if ok x then some x else none with
    | none => fin s
    | some x => match s.unitsWanted id x (heldBy f x) with
      | e :: l => fin (s.fetchUnits (e :: l))
      | [] =>
        let t := s.modSet id fun y => { y with scrubNext := (x.num + 1) % f.used, scrubAt := s.now }
        fin (((t.scrubStripe id x (s.unitsRead id x (heldBy f x))).1).dropUnits id x (heldBy f x))

/-! ### SCRUB (R363) -/

/-- The stripes that a SCRUB of a floe member covers: those with a unit in the range; on a parity member those that its blocks name. -/
def State.scrubStripes (s : State) (n id i lba count : Nat) : List StripeX :=
  let f := s.set_ id
  f.stripes.filter fun x => !x.isOpen &&
    if i < f.k then (rangePlaces (s.disc n).extents lba count).any fun p => x.place i == some p
    else decide (lba < 28 * x.num + 28) && decide (28 * x.num < lba + count)

/-- The end of a SCRUB, with its counts (R363). -/
def State.scrubEnd (s : State) (c : Ctx) : State :=
  (s.complete c (if c.count1 = 0 then 0 else 0x0301) c.flags c.reads (c.count1 % 65536 * 65536 + min c.count2 65535)).dropReads c.d.mn

/-- A SCRUB of a floe member: its closed stripes one after another, each read whole and scrubbed with repair (R298, R363). -/
def State.scrubMember (s : State) (c : Ctx) (id i : Nat) : State :=
  match (s.scrubStripes c.d.mn id i c.d.lba c.d.count)[c.done]? with
  | none => s.scrubEnd c
  | some x => match s.unitsWanted id x (heldBy (s.set_ id) x) with
    | e :: l => (s.startCtx c).fetchUnits (e :: l)
    | [] =>
      let r := s.scrubStripe id x (s.unitsRead id x (heldBy (s.set_ id) x))
      (r.1.modCtx c.fn c.d.tag fun y => { y with done := c.done + 1, reads := c.reads + (heldBy (s.set_ id) x).length, count1 := c.count1 + b2n r.2.1, count2 := c.count2 + r.2.2,
                                                  flags := if r.2.2 = 0 then c.flags else Nat.lor c.flags 8 }).dropUnits id x (heldBy (s.set_ id) x)

/-- SCRUB: one cluster after another; `done` counts clusters finished, `count1` those unresolved, `count2` those repaired or rewritten. On a floe member
stripes take the place of clusters. -/
def execScrub (fn : FnIx) (tag : Nat) (s : State) : Out :=
  s.runCmd fn tag 0x0B State.checkIo fun t c =>
    let n := c.d.mn
    match t.memberOf n with
    | some (id, i) => t.scrubMember c id i
    | none => match (rangePlaces (t.disc n).extents c.d.lba c.d.count)[c.done]? with
      | none => t.scrubEnd c
      | some p =>
        match t.readOf n (placeLayer p) (placeCluster p) with
        | none => ((t.startCtx c).wantCluster n (placeLayer p) (placeCluster p)).wantHead n (placeLayer p) (placeCluster p)
        | some r =>
          if !r.done && !(unresolvedData r.sectors).isEmpty then t.wantHead n (placeLayer p) (placeCluster p)
          else
            let bad := !(unresolvedData r.sectors).isEmpty
            let hard := !r.outer.isEmpty || !r.retry.isEmpty
            let redo := !bad && hard && bitAt c.d.flags 0 == 1 && !t.on .MECH_DISC_SEALED n
            let fl := Nat.lor c.flags ((if r.outer.isEmpty then 0 else 2) + (if r.retry.isEmpty then 0 else 4))
            let t1 := if redo then t.refreshCluster n r else t
            t1.modCtx fn tag fun x =>
              { x with done := c.done + 1, reads := c.reads + 1, count1 := c.count1 + b2n bad, count2 := c.count2 + b2n redo, flags := fl }

/-! ### Rebuild (R296, R297) -/

/-- A rebuild ends with RESULT: 0 done, 2 target failed, 3 inputs unreadable. -/
def State.endRebuild (s : State) (id res : Nat) (r : RebuildX) : State :=
  let s1 := s.modSet id fun f => { f with
    rebuild := none, last := (r.member, r.lost, res, r.done)
    members := if res = 0 then f.members.set r.member (s.mx r.target).discId else f.members }
  let s2 := s1.raise (if res = 0 then .FLOE_EVENT_REBUILD_DONE else .FLOE_EVENT_REBUILD_FAIL)
  let s3 := if r.lost = 0 then s2 else s2.logEntry { cls := 8, code := 2, sev := 3, unit := id, detail0 := r.member, detail1 := r.lost }
  let s4 := (if res = 0 then s3.joinSet r.target else s3).watchSets
  match r.cmd.bind fun c => s4.ctx c.1 c.2 with
  | none => s4
  | some c => s4.complete c (if res = 3 then 0x0702 else if res = 2 then 0x0706 else 0) 0 r.done r.lost

/-- The stripes that a rebuild of member i covers: those that hold a unit of it recorded by a parity member, or every stripe for parity. -/
def rebuildStripes (f : FloeSet) (i : Nat) : List StripeX :=
  f.stripes.filter fun x => !x.isOpen && (if i < f.k then (x.place i).isSome && !x.prot.isEmpty else !x.units.isEmpty)

/-- The next stripe of a rebuild. -/
def nextStripe (l : List StripeX) (from_ : Nat) : Option StripeX :=
  (l.filter fun x => decide (from_ ≤ x.num)).foldl (fun (a : Option StripeX) x => match a with
    | none => some x
    | some y => if x.num < y.num then some x else a) none

/-- The extents of a lost data member as its MEMBER records give them. -/
def memberMap (f : FloeSet) (i : Nat) : List Extent :=
  mapExtents [] ((f.maps.filter fun e => e.member == i).map fun e => (e.lba, e.count, e.layer, e.cluster, e.block))

/-- REBUILD_STEP: the next stripe's unit is rebuilt and written to the target; after the last is durable the rebuild ends. -/
def execRebuildStep (id : Fin 4096) (s : State) : Out :=
  let f := s.set_ id
  match f.rebuild with
  | none => fin s
  | some r =>
    if ¬ s.on .MECH_STATE_MOUNTED r.target then fin (s.endRebuild id 2 r)
    else match nextStripe (rebuildStripes f r.member) r.next with
      | none => if s.host.wbuf.any fun w => w.mn == r.target && w.stripe.isSome then fin s else fin (s.endRebuild id 0 r)
      | some x =>
        let put := fun (t : State) (g : RebuildX → RebuildX) => t.modSet id fun y => { y with rebuild := y.rebuild.map g }
        let there := ((List.range (setSize f)).filter fun j => j != r.member && s.unitThere id x j).length
        if there < f.k then fin (put s fun y => { y with wait := true })
        else
          let ins := s.inputsFor id x r.member (List.range 28)
          match s.unitsWanted id x ins with
          | e :: l => fin ((put s fun y => { y with wait := false }).fetchUnits (e :: l))
          | [] => match s.rebuildUnit id x r.member (s.unitsRead id x ins) with
            | none => fin (s.endRebuild id 3 r)
            | some bl =>
              let w := if r.member < f.k then
                  s.ownWrite r.target 0 bl (id, x.num, r.member) true none (blockRuns (livePairs (memberMap f r.member) ((x.place r.member).getD 0)))
                else s.ownWrite r.target (28 * x.num) bl (id, x.num, r.member) false
              match w with
              | none => fin (s.endRebuild id 2 r)
              | some t => fin ((put t fun y => { y with next := x.num + 1, wait := false }).dropUnits id x ins)

/-! ### FLOE_CONFIG (R284, R300, R379) -/

/-- The set record is refused (R284). -/
def State.setRefused (s : State) (b : List Nat) : Bool :=
  let id := leAt b 4 2
  let k := leAt b 6 1
  let m := leAt b 7 1
  let ds := (List.range (k + m)).map fun i => leAt b (0x40 + 8 * i) 8
  !headOk b 0x5346 (8 * (k + m)) || b.length != 64 + 8 * (k + m) || decide (id < 1) || decide (4095 < id) || decide (k < 2) || decide (m < 1) ||
  decide (8 < m) || decide (32 < k + m) || (List.range ds.length).any (fun i => (ds.drop (i + 1)).contains (ds.getD i 0)) ||
  s.floe.any (fun e => e.2.members.any fun d => ds.contains d) || decide ((s.set_ id).k ≠ 0) ||
  s.mech.any (fun e => s.on .MECH_STATE_MOUNTED e.1 && isBd (s.get .MECH_DISC_MEDIA e.1) && ds.contains e.2.discId)

/-- Run an outstanding FLOE_CONFIG of one OP. -/
def State.runFloe (s : State) (fn tag op : Nat) (k : State → Ctx → State) : Out :=
  match s.ctx fn tag with
  | none => fin s
  | some c => if c.d.opcode ≠ 0x8B ∨ c.qpid ≠ 0 ∨ specByte c.d 0 ≠ op then fin s else fin (k (s.modCtx fn tag fun x => { x with phase := .running }) c)

/-- FLOE_DEFINE: FLOE_CONFIG OP 1 with the set record `data`. -/
def execFloeDefine (fn : FnIx) (tag : Nat) (data : List Nat) (dma : Dma) (s : State) : Out :=
  s.runFloe fn tag 1 fun t c =>
    if dma ≠ .done then t.complete c (dmaStatus dma) 0 0 0
    else if leAt data 4 2 ≠ c.d.floeId then t.complete c 0x0104 0 0 0
    else if t.setRefused data then t.complete c 0x0707 0 0 0
    else
      let k := leAt data 6 1
      let m := leAt data 7 1
      let ds := (List.range (k + m)).map fun i => leAt data (0x40 + 8 * i) 8
      let t1 := t.modSet (leAt data 4 2) fun _ => { ({} : FloeSet) with k := k, m := m, members := ds }
      let t2 := t1.forEach ((t1.mech.filter fun e => ds.contains e.2.discId).map (·.1)) State.joinSet
      t2.watchSets.complete c 0 0 0 0

/-- FLOE_DELETE: open stripes close and are written first (R300). -/
def execFloeDelete (fn : FnIx) (tag : Nat) (s : State) : Out :=
  s.runFloe fn tag 2 fun t c =>
    let id := c.d.floeId
    let f := t.set_ id
    if f.k = 0 then t.complete c 0x0104 0 0 0
    else if f.rebuild.isSome then t.complete c 0x0708 0 0 0
    else
      let t1 := t.forEach ((f.open_).map (·.num)) fun u n => u.closeStripe id n
      if t1.host.wbuf.any fun w => (w.stripe.map (·.1)) == some id then t1.modSet id fun y => { y with deleting := some (fn.val, tag) }
      else (t1.modFloe fun l => tabDel l id).complete c 0 0 0 0

/-- FLOE_REBUILD: FLOE_CONFIG OP 3. -/
def execFloeRebuild (fn : FnIx) (tag : Nat) (s : State) : Out :=
  s.runFloe fn tag 3 fun t c =>
    let id := c.d.floeId
    let f := t.set_ id
    let i := specByte c.d 1
    let n := c.d.mn
    if c.started then t
    else if f.k = 0 ∨ setSize f ≤ i then t.complete c 0x0104 0 0 0
    else if f.rebuild.isSome then t.complete c 0x0708 0 0 0
    else if ¬ t.on .MECH_STATE_MOUNTED n ∨ ¬ t.blankDisc n ∨ t.get .MECH_DISC_LAYERS n < tabGet f.layers i 0 then t.complete c 0x0706 0 0 0
    else
      let lost := if i < f.k then (f.stripes.filter fun x => (x.place i).isSome && x.prot.isEmpty).length else 0
      let wait := bitAt c.d.flags 0 == 1
      let t1 := t.modSet id fun y => { y with
        rebuild := some { member := i, target := n, lost := lost, cmd := if wait then some (fn.val, tag) else none }
        stripes := if i < f.k then y.stripes else y.stripes.map fun x => { x with prot := x.prot.filter fun p => p != i } }
      let t2 := t1.watchSets
      if wait then t2.startCtx c else t2.complete c 0 0 0 0

end Sys2Proof.Machine
end

