-- ==== Sys2Proof/Machine/RegViews.lean ====
section
/-! DEFINITION. The registers that show what other state holds, computed when they are read: summaries, counts and mirrors (R56, R90, R124,
R243, R282, R301, R303, R317, R333, R351, R418, R473), and the register file as it reads. -/

namespace Sys2Proof.Machine

/-- The indices of the array element of r at address a. -/
def Reg.index (r : Reg) (a : Nat) : Option (Nat × Nat) :=
  let o := a - r.base
  let i := if r.stride = 0 then 0 else o / r.stride
  let q := if r.stride = 0 then o else o % r.stride
  let j := if r.stride2 = 0 then 0 else q / r.stride2
  let rest := if r.stride2 = 0 then q else q % r.stride2
  if r.base ≤ a ∧ i < max r.count 1 ∧ j < max r.count2 1 ∧ rest = 0 then some (i, j) else none

/-- A count, saturated at n bits. -/
def sat (n v : Nat) : Nat := min v (2 ^ n - 1)

/-- Bits b of a list of Booleans, the first lowest. -/
def bitList (l : List Bool) : Nat := l.foldr (fun b a => b2n b + 2 * a) 0

/-- How many of the first n indices satisfy p. -/
def countOf (n : Nat) (p : Nat → Bool) : Nat := ((List.range n).filter p).length

/-- An array element has an event set whose enable is set. -/
def State.evOn (s : State) (ev en : Reg) (i : Nat) : Bool := (s.rd ev i &&& s.rd en i) != 0

/-- Keys of mechanisms that some record names. -/
def State.mechKeys (s : State) : List Nat := s.mech.map (·.1)

/-- A value v placed at bit lo. -/
def at_ (lo v : Nat) : Nat := v * 2 ^ lo

def State.viewSpare (s : State) : Nat :=
  at_ 16 s.slotsUsed + at_ 8 (countOf 17 fun c => s.get .CIRQ_STATUS_ROLE c == 4) +
  match (List.range 17).find? fun c => s.get .CIRQ_STATUS_ROLE c == 1 with
  | some c => at_ 5 1 + c
  | none => 0x1F

/-- BRTH_MECH of mechanism n (R302, R303). -/
def State.viewBrthMech (s : State) (n : Nat) : Nat :=
  let g := s.grants n
  let r := s.breath.reqs.find? fun r => r.cls != 1 && r.who == n
  let dc := match r with
    | some r => at_ 31 1 + at_ 28 (r.cls % 8)
    | none => 0
  dc + at_ 27 (b2n g.seek.isSome) + at_ 26 (b2n g.write.isSome) + at_ 25 (b2n g.spinup.isSome) + at_ 24 (b2n g.spin.isSome) +
  sat 16 (s.standingOf n + grantSum g)

/-- BRTH_MECH_MEAS of mechanism n (R312), 0 for one that is ABSENT. -/
def State.viewMeas (s : State) (n : Nat) : Nat := if tabGet s.breath.standing n false then sat 16 (s.measured n) else 0

/-- BRTH_DOM_STAT of domain d, beside its stored bits. -/
def State.viewDomStat (s : State) (d : Nat) : Nat :=
  at_ 29 (s.get .BRTH_DOM_STAT_BLOCKED d) + at_ 30 (s.get .BRTH_DOM_STAT_OVERCOMMIT d) + at_ 31 (s.get .BRTH_DOM_STAT_OVERDRAW d) +
  at_ 16 (sat 13 ((s.mechsIn d).filter fun n => decide (s.get .MECH_SPIN_STAT_THROTTLE n < 256)).length) +
  sat 13 (s.breath.reqs.filter fun r => r.dom == d).length

/-- DOZE_ENTRY, DOZE or WAKING (R427). -/
def State.dozing (s : State) : Bool := decide (2 ≤ s.get .DRN_PSTAT_STATE) && decide (s.get .DRN_PSTAT_STATE ≤ 4)

/-- The role of a function: 1 steward, 2 standby (FN_STAT.ROLE). -/
def State.roleOf (s : State) (fn : Nat) : Nat := if s.isSteward fn then 1 else if s.isStandby fn then 2 else 0

/-- FN_CAP of function fn. -/
def fnCap (fn : Nat) : Nat := at_ 31 (b2n (isPf fn)) + at_ 12 16 + fn

def State.viewFnStat (s : State) (fn : Nat) : Nat :=
  (s.rd .FN_STAT fn).toNat % 2 ^ 12 + at_ 12 (s.roleOf fn) + at_ 14 (b2n (s.fenced fn)) + at_ 15 (s.get .FN_STAT_FATAL fn) +
  at_ 16 (b2n s.dozing) + at_ 24 (s.get .FN_STAT_CAUSE fn)

def State.viewHqpFnStat (s : State) (fn : Nat) : Nat :=
  at_ 31 (s.get .HQP_FN_STAT_EVT_LOST fn) + at_ 30 (s.get .HQP_FN_STAT_BAR4_ERR fn) + at_ 24 (s.get .FN_STAT_VER fn) +
  at_ 23 (s.get .FN_STAT_RDY fn) + at_ 22 (b2n (s.fenced fn)) + sat 17 (s.qpsOf fn)

/-- FLOE_MEMBER[i] of the selected set. -/
def State.viewMember (s : State) (i : Nat) : Nat :=
  let id := s.get .FLOE_SEL_SET
  let f := s.set_ id
  if setSize f ≤ i then 0
  else
    let re := match f.rebuild with
      | some r => r.member == i
      | none => false
    let mn := match s.memberMn id i, f.rebuild with
      | some n, _ => n
      | none, some r => if re then r.target else 0
      | none, none => 0
    at_ 31 (b2n (s.memberMn id i).isSome) + at_ 30 (b2n (decide (f.k ≤ i))) + at_ 29 (b2n re) + at_ 16 (mn % 4096)

def State.viewSetStat (s : State) : Nat :=
  let id := s.get .FLOE_SEL_SET
  let f := s.set_ id
  at_ 29 (s.setState id) + at_ 28 (b2n (s.placeWarn id)) + at_ 24 (f.m % 16) + at_ 16 (f.k % 32) + at_ 8 (sat 8 (s.mountedOf id).length)

/-- FLOE_REBUILD_STAT and FLOE_REBUILD_DONE of the selected set: the rebuild that runs, else the last one. -/
def State.viewRebuild (s : State) : Nat × Nat :=
  let f := s.set_ (s.get .FLOE_SEL_SET)
  match f.rebuild with
  | some r => (at_ 31 1 + at_ 30 (b2n r.wait) + at_ 22 (r.member % 32) + sat 22 r.lost, r.done)
  | none => (at_ 27 (f.last.2.2.1 % 8) + at_ 22 (f.last.1 % 32) + sat 22 f.last.2.1, f.last.2.2.2)

def State.viewCapData (s : State) (c i : Nat) : Nat :=
  if s.get .CIRQ_CAP_STAT_BUF c = 0x1F then 0 else leAt (s.capImage c) (s.get .CIRQ_CAP_PAGE_PAGE c * 2048 + 4 * i) 4

/-- Cores in a state, as a bit set (MCORE_GSTAT, which reads its reset value 0 while the core domain is off: notes/assumptions/12.md). -/
def State.coresIn (s : State) (st : Nat) : Nat := bitList ((List.range 4).map fun c => s.get .MCORE_STAT_CSTATE c == st)

/-- FAULTED-action faults of mechanism n in the window that ends now (R49). -/
def State.faultCount (s : State) (n : Nat) : Nat :=
  ((s.mx n).faultTimes.filter fun t => decide (s.now < t + ms (s.get .MECH_GCFG_FAULT_WINDOW_MS))).length

/-- The PLL of port p runs: it trains, wakes, or is ACTIVE or DEGRADED (R28). -/
def State.pllRuns (s : State) (p : Nat) : Bool :=
  let st := s.pstate p
  st != 0 && st != 8 && st != 0xA

/-- DRN_CLK_STAT: the port PLLs that run, and the DDR PLL, which stops while every populated channel is in self-refresh (R28, R421). -/
def State.viewClocks (s : State) : Nat :=
  let asleep := s.get .MEM_DDR_STAT_PRESENT != 0 && Nat.land (s.get .MEM_DDR_STAT_PRESENT) (255 - s.get .MEM_DDR_STAT_IN_SR) == 0
  (withBits (withBits (s.rd .DRN_CLK_STAT) 8 7 (countOf 64 s.pllRuns)) 4 1 (if asleep then 0 else s.get .DRN_CLK_STAT_DDR_LOCK)).toNat

/-- The registers computed at a read, with their values. -/
def views : List (Reg × (State → Nat → Nat → Nat)) :=
  [(.MECH_FAULT, fun s n _ => (withBits (s.rd .MECH_FAULT n) 16 8 (sat 8 (s.faultCount n))).toNat),
   (.DRN_CLK_STAT, fun s _ _ => s.viewClocks),
   (.MECH_CHG_SUM, fun s i _ => bitList ((List.range 32).map fun j => s.rd .MECH_CHG (32 * i + j) != 0)),
   (.MECH_COUNTS, fun s _ _ => at_ 16 (sat 9 (s.mechKeys.filter fun n => s.mst n == 7).length) + sat 13 s.slotsUsed),
   (.PEN_EVT_SUM_LO, fun s _ _ => bitList ((List.range 32).map fun p => s.evOn .PEN_EVENT .PEN_EVENT_EN p)),
   (.PEN_EVT_SUM_HI, fun s _ _ => bitList ((List.range 32).map fun p => s.evOn .PEN_EVENT .PEN_EVENT_EN (p + 32))),
   (.PEN_GSTAT, fun s _ _ => at_ 16 (countOf 64 fun p => s.pstate p == 8) + countOf 64 s.portUp),
   (.PEN_USE, fun s p _ =>
      let b := s.bursts p
      at_ 24 (sat 5 (b.filter fun e => bmapDown e.2).length) + at_ 16 (sat 5 (b.filter fun e => !bmapDown e.2).length) +
      at_ 8 (sat 5 (s.px p).waits.length) + sat 5 (s.positions p).length),
   (.PEN_DROPS_LO, fun s p _ => bitList ((List.range 32).map fun d => s.get .PEN_DROP_PRESENT p d == 1)),
   (.PEN_DROPS_HI, fun s p _ => bitList ((List.range 32).map fun d => s.get .PEN_DROP_PRESENT p (d + 32) == 1)),
   (.CIRQ_EVT_SUM, fun s _ _ => bitList ((List.range 17).map fun c => s.evOn .CIRQ_EVENT .CIRQ_EVENT_EN c)),
   (.CIRQ_GSTAT, fun s _ _ => s.viewSpare),
   (.CIRQ_STATUS, fun s c _ => at_ 16 (s.get .CIRQ_STATUS_ROLE c) + at_ 8 (s.get .CIRQ_STATUS_LAST_TEST c) + (s.heldSlots c).length),
   (.CIRQ_LOAD, fun s c _ => at_ 16 (sat 11 (s.clusterLines c (s.get .CIRQ_FMT_FMT c) / 16)) + (s.heldSlots c).length),
   (.CIRQ_CAP_DATA, fun s c i => s.viewCapData c i),
   (.FIRN_EVT_SUM, fun s k _ => bitList ((List.range (if k = 8 then 16 else 32)).map fun j => s.evOn .FIRN_EVENT .FIRN_EVENT_EN (32 * k + j))),
   (.FIRN_GSTAT, fun s _ _ => at_ 16 s.boundLanes + (272 - s.lanesInService)),
   (.MOR_GSTAT, fun s _ _ => at_ 16 s.slotsHeld + at_ 8 (sat 6 s.parkedCount) + countOf 32 fun d => (s.onDecoder d).isSome),
   (.MOR_MTX, fun s i _ => (tabGet s.chan.matrices (2 * i) {}).id % 65536 + at_ 16 ((tabGet s.chan.matrices (2 * i + 1) {}).id % 65536)),
   (.MCORE_GSTAT, fun s _ _ => if s.get .RST_STAT_STAGE = 0 then 0 else at_ 8 (s.coresIn 3) + at_ 4 (s.coresIn 1) + s.coresIn 0),
   (.BRTH_GSTAT, fun s _ _ => at_ 16 (sat 16 s.breath.reqs.length) + bitList ((List.range 8).map fun d => s.on .BRTH_DOM_STAT_OVERDRAW d)),
   (.BRTH_DOM_COMMIT, fun s d _ => s.committed d),
   (.BRTH_DOM_STAT, fun s d _ => s.viewDomStat d),
   (.BRTH_MECH, fun s n _ => s.viewBrthMech n),
   (.BRTH_MECH_MEAS, fun s n _ => s.viewMeas n),
   (.BRTH_BIST_STAT, fun s _ _ => at_ 16 (sat 16 (bistSum s.breath.bistHeld)) + sat 8 s.breath.bistReqs.length),
   (.FN_CAP, fun _ fn _ => fnCap fn),
   (.FN_QP_QUOTA, fun s fn _ => s.get .HQP_FN_CFG_QP_QUOTA fn),
   (.FN_TAG_QUOTA, fun s fn _ => s.get .HQP_FN_TAGQ_TAG_QUOTA fn),
   (.FN_STAT, fun s fn _ => s.viewFnStat fn),
   (.HQP_FN_STAT, fun s fn _ => s.viewHqpFnStat fn),
   (.HQP_GSTAT, fun s _ _ => (s.host.qps.filter fun e => e.2.live).length),
   (.HQP_TAGS, fun s _ _ => s.host.cmds.length),
   (.HQP_MERGE, fun s _ _ => at_ 12 (s.get .HQP_MERGE_PEAK) + s.host.merge.length),
   (.FLOE_GSTAT, fun s _ _ => at_ 16 (sat 12 (s.floe.filter fun e => decide (0 < e.2.k)).length) +
      sat 16 (s.floe.foldl (fun a e => a + (e.2.open_).length) 0)),
   (.FLOE_SET_STAT, fun s _ _ => s.viewSetStat),
   (.FLOE_SET_STRIPES, fun s _ _ => (s.set_ (s.get .FLOE_SEL_SET)).used),
   (.FLOE_SET_UNPROT, fun s _ _ => unprotectedUnits (s.set_ (s.get .FLOE_SEL_SET))),
   (.FLOE_MEMBER, fun s i _ => s.viewMember i),
   (.FLOE_REBUILD_STAT, fun s _ _ => s.viewRebuild.1),
   (.FLOE_REBUILD_DONE, fun s _ _ => s.viewRebuild.2),
   (.DBG_EVT_SUM, fun s _ _ => s.evtSum)]

/-- The value at address a if its register is computed at a read. -/
def State.viewAt (s : State) (a : Nat) : List (Reg × (State → Nat → Nat → Nat)) → Option Word
  | [] => none
  | (r, f) :: l =>
    match r.index a with
    | some (i, j) => some (BitVec.ofNat 32 (f s i j))
    | none => s.viewAt a l

/-- A dword of a register as it reads, the effects of the read apart. -/
def State.look (s : State) (r : Reg) (i j : Nat := 0) : Word :=
  match s.viewAt (r.addr i j) views with
  | some w => w
  | none => s.rd r i j

end Sys2Proof.Machine
end

