-- ==== Sys2Proof/Machine/Interlock.lean ====
section
/-! DEFINITION. The door interlock and the laser permits (spec/18_interlock.md R495 to R508, spec/13_command_set.md R380, R381). -/

namespace Sys2Proof.Machine

/-- Mechanisms of zone z that are not ABSENT. -/
def State.zoneMechs (s : State) (z : Nat) : List Nat := ((List.range 512).map fun i => z * 512 + i).filter fun n => s.mst n != 0

/-- A command that needs a laser meets the drop of its permit (R381): one that runs ends with 0x0601, one that has not started is checked
again. A MOUNT leaves the mechanism in SPINNING with the mount it had (R53). -/
def State.permitCut (s : State) (c : Ctx) : State :=
  if !laserOp c.d.opcode then s
  else if !c.started then s.modCtx c.fn c.d.tag fun x => { x with phase := .fetched }
  else s.stopCmd c 0x0601

/-- The permit of mechanism n has dropped (R53, R500). -/
def State.permitDown (s : State) (n : Nat) : State :=
  let st := s.mst n
  let s1 := s.forEach (s.cmdsOf n) State.permitCut
  let step := (s1.sx n).seq.step
  let lit := 5 ≤ st ∧ st ≤ 7 ∨ st = 4 ∧ (s1.ls n 0 ≠ 0 ∨ step = 1 ∨ step = 2)
  (if s1.holdsSlot n ∧ lit then s1.permitLoss n else s1).noteSafeHold n

/-- The permit of mechanism n has risen: a later mismatch is reported anew. -/
def State.permitUp (s : State) (n : Nat) : State := (s.modMech n fun m => { m with lsupReported := false }).noteSafeHold n

/-- LPERMIT[7:0] go low with the core domain, their isolation value (R30, R453): each fall is counted and timed. -/
def State.permitsLow (s : State) : State :=
  let fell := (List.range 8).filter fun z => bitAt (s.get .SAFE_ZONE_LPERMIT) z == 1
  let s1 := s.forEach fell fun t z => t.modIlk fun k => { k with low := tabPut k.low z t.now 0 }
  (s1.set0 .SAFE_ZONE_LPERMIT 0).bumpBy .SAFE_CNT_DROPS 0 fell.length

/-- LPERMIT follows the ARMED zones, the 50 ms and the fault latch (R498), and is held low from HIBERNATE to the end of the resume (R30); a fallen
permit is counted, timed and acted on, a risen one clears SAFE_HOLD. -/
def State.followPermits (s : State) : State :=
  let old := s.get .SAFE_ZONE_LPERMIT
  let new := if s.ilk.held && !s.on .SAFE_STAT_FAULT && !s.pwr.keep then s.get .SAFE_ZONE_ARMED else 0
  let fell := (List.range 8).filter fun z => bitAt old z == 1 && bitAt new z == 0
  let rose := (List.range 8).filter fun z => bitAt old z == 0 && bitAt new z == 1
  let s1 := (s.set0 .SAFE_ZONE_LPERMIT new).set0 .SAFE_STAT_OK (b2n (s.ilk.held && !s.on .SAFE_STAT_FAULT))
  let s2 := s1.forEach fell fun t z => t.modIlk fun k => { k with low := tabPut k.low z t.now 0 }
  let s3 := if fell.isEmpty then s2 else (s2.raise .SAFE_EVENT_DROP).bumpBy .SAFE_CNT_DROPS 0 fell.length
  let s4 := s3.forEach (fell.flatMap s3.zoneMechs) State.permitDown
  s4.forEach (rose.flatMap s4.zoneMechs) State.permitUp

/-- STATE_A in [2:0] and STATE_B in [6:4]. -/
def State.channels (s : State) : Nat := s.get .SAFE_STAT_STATE_A + s.get .SAFE_STAT_STATE_B * 16

/-- Latch a discrepancy fault (R501, R502); one already latched stays as it is. -/
def State.latchFault (s : State) (cause : Nat) : State :=
  if s.on .SAFE_STAT_FAULT then s
  else
    let s1 := ((s.raise .SAFE_STAT_FAULT).set0 .SAFE_STAT_CAUSE cause).set0 .SAFE_ZONE_ARMED 0
    let s2 := ((s1.raise .SAFE_EVENT_FAULT).bump .SAFE_CNT_FAULTS).logEntry { cls := 0x0E, code := 3, sev := 3, detail0 := cause, detail1 := s1.channels }
    (s2.modIlk fun k => { k with rearm := 0, dis := k.dis.map fun (d : Nat × Nat × Bool) => (d.1, d.2.1, true) }).followPermits

/-- A duration in whole ms. -/
def wholeMs (ns : Nat) : Nat := ns / 1000000

/-- The channels agree again (R501): a short disagreement in which nothing was latched is a transient, one of DISC_MS or more latches. -/
def State.endDisagreement (s : State) : State :=
  match s.ilk.dis with
  | none => s
  | some (t0, lim, latched) =>
    let dur := s.now - t0
    let s1 := ((s.modIlk fun k => { k with dis := none }).set0 .SAFE_STAT_DISC 0).set0 .SAFE_DISC_LAST_DUR_MS (min (wholeMs dur) 0xFFFF)
    if latched then s1
    else if ms lim ≤ dur then s1.latchFault 1
    else (s1.logEntry { cls := 0x0E, code := 2, sev := 1, detail0 := wholeMs dur, detail1 := s.get .SAFE_DISC_LAST_LAGGED_B }).raise .SAFE_EVENT_TRANSIENT

/-- A channel has left CLOSED (R503): the 50 ms begin anew, permits drop, zones stay ARMED only with AUTO_REARM. -/
def State.leaveClosed (s : State) : State :=
  let low := s.get .SAFE_ZONE_LPERMIT
  let s1 := s.modIlk fun k => { k with since := none, held := false }
  let s2 := if s.on .SAFE_STAT_FAULT then s1
    else if s.on .SAFE_CFG_AUTO_REARM then s1.modIlk fun k => { k with rearm := Nat.lor k.rearm low }
    else s1.set0 .SAFE_ZONE_ARMED 0
  let s3 := s2.followPermits
  if low = 0 then s3 else s3.logEntry { cls := 0x0E, code := 1, sev := 1, detail0 := s3.channels, detail1 := low }

/-- The test patterns PA and PB, sent most significant bit first (R497). -/
def patternA : Nat := 0xDA
def patternB : Nat := 0x25

/-- Bit k of a pattern in the order in which it is sent. -/
def sentBit (pat k : Nat) : Bool := bitAt pat (7 - k % 8) == 1

/-- The last n samples, the latest of bit k, equal a pattern. -/
def follows (h : List Bool) (pat k n : Nat) : Bool := (List.range n).all fun j => h.getD j false == sentBit pat (k + 16 - j)

/-- The state that a channel with pull level `pull`, own pattern and other pattern reads from its last samples, the latest of bit k (R497). -/
def channelState (pull : Bool) (own other : Nat) (h : List Bool) (k : Nat) : Nat :=
  let rests := fun (v : Bool) => (h.take 8).all fun x => x == v
  if rests (!pull) then 4 else if rests pull then 0 else if follows h other k 8 then 3 else if follows h own k 16 then 1
  else if follows h own k 1 then 2 else 5

/-- The channels read states a and b from now on (R497 to R503). -/
def State.channelsRead (s : State) (a b : Nat) : State :=
  let wasA := s.get .SAFE_STAT_STATE_A == 1
  let wasB := s.get .SAFE_STAT_STATE_B == 1
  let isA := decide (a = 1)
  let isB := decide (b = 1)
  let s1 := (s.set0 .SAFE_STAT_STATE_A a).set0 .SAFE_STAT_STATE_B b
  let s2 := if wasA && !isA || wasB && !isB then s1.leaveClosed else s1
  let s3 := if isA && isB && s2.ilk.since.isNone then s2.modIlk fun k => { k with since := some s.now } else s2
  -- the lagging channel: the one still CLOSED after a leave, the one not yet CLOSED after an arrival
  let lagB := if wasA && wasB then isB else !isB
  let s4 := if isA != isB && s3.ilk.dis.isNone then
      ((s3.modIlk fun k => { k with dis := some (s.now, s.get .SAFE_CFG_DISC_MS, false) }).raise .SAFE_STAT_DISC).set0 .SAFE_DISC_LAST_LAGGED_B (b2n lagB)
    else s3
  let s5 := if a = 3 ∨ a ≠ 4 ∧ b = 3 then s4.latchFault 2 else if a = 4 ∨ b = 4 then s4.latchFault 3 else s4
  if isA == isB then s5.endDisagreement else s5

/-- The bit period: 256 Drone ticks of 1/4.194304 MHz, in whole ns (R497). -/
def bitPeriod : Nat := 61035

/-- The next bit is sampled on both channels. -/
def State.takeSamples (s : State) (a b : Bool) : State := s.modIlk fun k =>
  { k with histA := a :: k.histA.take 15, histB := b :: k.histB.take 15, bit := (k.bit + 1) % 8, bitAt := s.now }

/-- ILK_CHANNEL_CHANGE: the samples of the next bit of both channels, each filtered by a majority of 8 Drone ticks, and the states that the channels then
read (R497); a sample that leaves both states as they are changes nothing else. -/
def execIlkChannelChange (a b : Bool) (s : State) : Out :=
  if s.now < s.ilk.bitAt + bitPeriod then fin s
  else
    let t := s.takeSamples a b
    let x := channelState false patternA patternB t.ilk.histA s.ilk.bit
    let y := channelState true patternB patternA t.ilk.histB s.ilk.bit
    fin (if x = s.get .SAFE_STAT_STATE_A ∧ y = s.get .SAFE_STAT_STATE_B then t else t.channelsRead x y)

/-- PERMIT_HOLD_DONE: both channels have read CLOSED for 50 ms (R498, R503). -/
def execPermitHoldDone (s : State) : Out :=
  if s.ilk.since.isNone ∨ s.ilk.held ∨ s.now < (s.ilk.since.getD 0) + ms 50 then fin s
  else
    let s1 := (s.modIlk fun k => { k with held := true, rearm := 0 }).followPermits
    let re := Nat.land s.ilk.rearm (s1.get .SAFE_ZONE_LPERMIT)
    fin (if re = 0 then s1 else s1.logEntry { cls := 0x0E, code := 4, sev := 0, detail0 := re, detail1 := 0xFFFF })

/-- DISCREPANCY_TIMEOUT: the running disagreement reaches DISC_MS (R501). -/
def execDiscrepancyTimeout (s : State) : Out :=
  match s.ilk.dis with
  | some (t0, lim, false) => if s.now < t0 + ms lim then fin s else fin ((s.set0 .SAFE_DISC_LAST_DUR_MS lim).latchFault 1)
  | _ => fin s

/-- DISARM: SAFE_ZONE_CTRL written (R505). -/
def execDisarm (zones : Fin 256) (s : State) : Out := regCmd s fun s =>
  let left := Nat.land (s.get .SAFE_ZONE_ARMED) (255 - zones)
  fin (((s.set0 .SAFE_ZONE_ARMED left).modIlk fun k => { k with rearm := Nat.land k.rearm left }).followPermits)

/-- ARM: opcode 0x8C, ZONES in byte 0x30, ACK in byte 0x31 (R380, R502, R504). -/
def execArm (fn : FnIx) (tag : Nat) (s : State) : Out :=
  match s.ctx fn tag with
  | none => fin s
  | some c =>
    if c.d.opcode ≠ 0x8C ∨ c.qpid ≠ 0 then fin s
    else
      let zones := specByte c.d 0
      let ack := specByte c.d 1 % 2 = 1
      let low := s.get .SAFE_ZONE_LPERMIT
      if s.get .SAFE_STAT_STATE_A ≠ 1 ∨ s.get .SAFE_STAT_STATE_B ≠ 1 then fin (s.complete c 0x0604 0 low zones)
      else if s.on .SAFE_STAT_FAULT ∧ ¬ ack then fin (s.complete c 0x0603 0 low zones)
      else
        let was := s.get .SAFE_ZONE_ARMED
        let now := Nat.lor was zones
        let s1 := ((s.set0 .SAFE_STAT_FAULT 0).set0 .SAFE_STAT_CAUSE 0).set0 .SAFE_ZONE_ARMED now
        let s2 := (if now ≠ was then s1.raise .SAFE_EVENT_ARMED else s1).followPermits
        let s3 := if zones = 0 then s2 else s2.logEntry { cls := 0x0E, code := 4, sev := 0, fn := fn, detail0 := zones, detail1 := fn }
        let high := s3.get .SAFE_ZONE_LPERMIT
        fin (s3.complete c 0 0 high (Nat.land zones (255 - high)))

end Sys2Proof.Machine
end

