-- ==== Sys2Proof/Machine/Admin.lean ====
section
/-! DEFINITION. Admin commands that read, and those of queue pairs and leases: IDENTIFY, GET_LOG, CREATE_QP, DELETE_QP, LEASE
(spec/13_command_set.md R370 to R372, R376, R377; spec/17_dependability.md R475 to R477; spec/12_host_ports_and_rings.md R329, R330). -/

namespace Sys2Proof.Machine

/-- Run an outstanding admin command of one opcode. -/
def State.runAdmin (s : State) (fn tag op : Nat) (k : State → Ctx → State) : Out :=
  match s.ctx fn tag with
  | none => fin s
  | some c => if c.d.opcode ≠ op ∨ c.qpid ≠ 0 then fin s else fin (k (s.modCtx fn tag fun x => { x with phase := .running }) c)

/-- Bytes go to the command's buffer and the command completes; a failed transfer completes with its own status. -/
def State.answer (s : State) (c : Ctx) (dma : Dma) (bytes : List Nat) (r0 r1 : Nat) : State :=
  if dma ≠ .done then s.complete c (dmaStatus dma) 0 0 0
  else (s.emit (.hostWrite c.fn c.d.dptr0 bytes)).complete c 0 0 r0 r1

/-- n zero bytes. -/
def zeros (n : Nat) : List Nat := List.replicate n 0

/-- ASCII text padded with spaces to n bytes. -/
def asciiPad (n : Nat) (t : String) : List Nat :=
  let l := t.toList.map Char.toNat
  l.take n ++ List.replicate (n - l.length) 32

/-- A structure of n bytes whose last 4 are the CRC-32C of the others. -/
def sealBytes (n : Nat) (l : List Nat) : List Nat :=
  let b := l ++ zeros (n - 4 - l.length)
  b ++ leBytes 4 (crc32c b)

/-! ### IDENTIFY -/

def State.deviceId (s : State) : Nat := s.get .GLB_DEVICE_ID_LO_ID + s.get .GLB_DEVICE_ID_HI_ID * 2 ^ 32


/-- The device structure, CNS 0. Features 1 to 5, 0x10 and 0x20 are supported (R373). -/
def State.deviceStruct (s : State) : List Nat :=
  sealBytes 4096 (asciiPad 16 "Thendirno" ++ asciiPad 16 "HVK-8100" ++ leBytes 8 s.deviceId ++ leBytes 4 s.fw.running ++
    leBytes 1 (s.rd .FN_VERSION 0).toNat ++ zeros 3 ++ [4096, 512, 256, 64].flatMap (leBytes 2) ++ leBytes 4 65536 ++ leBytes 4 262144 ++
    [4096, 4096, 4, 4095].flatMap (leBytes 2) ++ leBytes 4 s.dramMib ++ leBytes 4 0x1003E ++ leBytes 4 1)

/-- MSI-X vectors of a function (R351, FN_CAP). -/
def vectorsOf (fn : Nat) : Nat := if isPf fn then 2048 else 64

/-- The function structure, CNS 1. -/
def State.functionStruct (s : State) (fn : Nat) : List Nat :=
  sealBytes 64 ([fnCap fn, s.viewFnStat fn, s.get .HQP_FN_CFG_QP_QUOTA fn, s.get .HQP_FN_TAGQ_TAG_QUOTA fn, (s.rd .HQP_FN_KEYS fn).toNat,
    vectorsOf fn].flatMap (leBytes 4))

/-- The mechanism bitmap, CNS 2. -/
def State.mechBitmap (s : State) (fn : Nat) : List Nat :=
  (List.range 512).map fun i => bitList ((List.range 8).map fun j => s.leaseMode fn (8 * i + j) != 0)

/-- The mechanism structure, CNS 3. -/
def State.mechStruct (s : State) (fn n : Nat) : List Nat :=
  let m := s.memberOf n
  let mounted := s.on .MECH_STATE_MOUNTED n
  sealBytes 64 (leBytes 2 n ++ leBytes 2 ((s.rd .MECH_STATE n).toNat % 4096) ++ leBytes 1 (s.get .MECH_BRIDGE_GEN n) ++
    leBytes 1 (s.get .MECH_BRIDGE_LINK_VER n) ++ leBytes 1 (s.get .MECH_DISC_MEDIA n) ++ leBytes 1 (s.get .MECH_DISC_LAYERS n) ++
    leBytes 8 (s.bridgeSn n) ++ leBytes 8 (if mounted then (s.mx n).discId else 0) ++ leBytes 4 (if mounted then s.capacity n else 0) ++
    leBytes 2 ((m.map (·.1)).getD 0) ++ leBytes 1 ((m.map (·.2)).getD 0xFF) ++ leBytes 1 (s.leaseMode fn n) ++
    leBytes 2 (s.get .MECH_BRIDGE_BFW_VER n))

/-- IDENTIFY (R370). An unknown CNS has failed the descriptor check with 0x0104. -/
def execIdentify (fn : FnIx) (tag : Nat) (dma : Dma) (s : State) : Out :=
  s.runAdmin fn tag 0x80 fun t c =>
    let b := match specByte c.d 0 with
      | 0 => t.deviceStruct
      | 1 => t.functionStruct fn
      | 2 => t.mechBitmap fn
      | _ => t.mechStruct fn c.d.mn
    t.answer c dma b b.length 0

/-! ### GET_LOG -/

def logEntryBytes (e : LogEntry) : List Nat :=
  leBytes 8 e.time ++ leBytes 4 e.seq ++ leBytes 1 e.cls ++ leBytes 1 e.code ++ leBytes 1 e.sev ++ leBytes 1 0 ++ leBytes 2 e.mn ++
  leBytes 2 e.fn ++ leBytes 2 e.unit ++ leBytes 2 0 ++ leBytes 4 e.detail0 ++ leBytes 4 e.detail1

/-- Function fn sees an entry (R477). -/
def State.seesEntry (s : State) (fn : Nat) (e : LogEntry) : Bool :=
  s.isSteward fn || e.fn == fn || (decide (e.mn < 4096) && s.leaseMode fn e.mn != 0)

/-- The error log as function fn sees it. -/
def State.errorLog (s : State) (fn : Nat) : List Nat :=
  sealBytes 64 (leBytes 2 0x4C45 ++ leBytes 2 1 ++ leBytes 4 4096 ++ leBytes 4 (s.get .DBG_LOG_SEQ_VALUE) ++
    leBytes 4 (s.get .DBG_LOG_LOST_VALUE) ++ leBytes 8 s.now) ++
  (List.range 4096).flatMap fun i =>
    match s.log.entries.find? fun e => e.1 == i with
    | some e => if s.seesEntry fn e.2 then logEntryBytes e.2 else zeros 32
    | none => zeros 32

/-- Seconds that a mechanism has been servo-active. -/
def State.spinSeconds (s : State) (n : Nat) : Nat :=
  let m := s.mx n
  (m.activeNs + match m.activeAt with
    | some t => s.now - t
    | none => 0) / 1000000000

/-- The telemetry record of a mechanism, taken at one instant (R372). -/
def State.mechTelemetry (s : State) (n : Nat) : List Nat :=
  let m := s.mx n
  let mounted := s.on .MECH_STATE_MOUNTED n
  leBytes 2 n ++ leBytes 2 ((s.rd .MECH_STATE n).toNat % 4096) ++ leBytes 1 (s.get .MECH_DISC_MEDIA n) ++ leBytes 1 (s.get .MECH_FAULT_CODE n) ++
  leBytes 2 (1 + 2 * b2n mounted + 4 * s.get .MECH_DISC_SEALED n + 8 * b2n (s.memberOf n).isSome) ++
  leBytes 8 (if mounted then m.discId else 0) ++ leBytes 8 (s.bridgeSn n) ++ leBytes 2 (s.get .MECH_SPEED_MEAS n) ++
  leBytes 2 (s.get .MECH_BTEMP_TEMP n) ++ leBytes 2 (s.viewMeas n) ++ leBytes 2 (s.get .MECH_COUNT_MOUNTS n) ++
  leBytes 8 (sat 64 m.tlRead) ++ leBytes 8 (sat 64 m.tlWrite) ++ leBytes 4 (sat 32 m.tlOuter) ++ leBytes 4 (sat 32 m.tlUnread) ++
  leBytes 4 (sat 32 (s.spinSeconds n)) ++ leBytes 2 (sat 16 m.tlRecon) ++ leBytes 2 (s.get .MECH_COUNT_FAULTS n)

/-- Fleet telemetry as function fn sees it. -/
def State.telemetryLog (s : State) (fn : Nat) : List Nat :=
  sealBytes 64 (leBytes 2 0x5446 ++ leBytes 2 1 ++ leBytes 4 4096 ++ leBytes 8 s.now ++ leBytes 8 s.deviceId ++ leBytes 4 s.fw.running) ++
  (List.range 4096).flatMap fun n => if s.leaseMode fn n != 0 then s.mechTelemetry n else zeros 64

/-- The boot record in force: of the copies held, the one with the higher SEQ (R462). -/
def State.bootRec (s : State) : Option BootRec :=
  match tabGet s.fw.recs 0 none, tabGet s.fw.recs 1 none with
  | some a, some b => if a.seq < b.seq then some b else some a
  | some a, none => some a
  | none, b => b

/-- The slot active: the one booted, under the recovery image the one that the boot record names. -/
def State.activeSlot (s : State) : Nat :=
  let b := s.get .RST_FW_STAT_BOOTED
  if b < 2 then b else match s.bootRec with
    | some r => r.active
    | none => 0

/-- Version of the image in a slot, 0 for none. -/
def State.slotVersion (s : State) (k : Nat) : Nat := match tabGet s.fw.slots k none with
  | some i => i.version
  | none => 0

/-- The firmware slot log. -/
def State.fwLog (s : State) : List Nat :=
  sealBytes 64 ([s.fw.running, s.slotVersion 0, s.slotVersion 1, s.activeSlot, s.fw.staged, s.fw.stagedComp].flatMap (leBytes 4))

/-- GET_LOG (R371). -/
def execGetLog (fn : FnIx) (tag : Nat) (dma : Dma) (s : State) : Out :=
  s.runAdmin fn tag 0x81 fun t c =>
    let id := specByte c.d 0
    if id < 1 ∨ 3 < id then t.complete c 0x0104 0 0 0
    else
      let log := if id = 1 then t.errorLog fn else if id = 2 then t.telemetryLog fn else t.fwLog
      let b := (log.drop c.d.lba).take c.d.count
      t.answer c dma (b ++ zeros (c.d.count - b.length)) c.d.count log.length

/-! ### Queue pairs (R376, R337) -/

/-- CREATE_QP. -/
def execCreateQp (fn : FnIx) (tag : Nat) (s : State) : Out :=
  s.runAdmin fn tag 0x86 fun t c =>
    let d := c.d
    let q := specField d 0 2
    let sq := specByte d 2
    let cq := specByte d 3
    let vec := specField d 4 2
    let thr := specField d 6 2
    let ver := specByte d 9
    if q = 0 ∨ t.get .HQP_FN_CFG_QP_QUOTA fn ≤ q ∨ (t.fnx fn).dbPages.length ≤ q / 512 ∨ ¬ (4 ≤ sq ∧ sq ≤ 16) ∨ ¬ (4 ≤ cq ∧ cq ≤ 16) ∨
       vectorsOf fn ≤ vec ∨ 256 < thr ∨ ver = 0 then t.complete c 0x0104 0 0 0
    else if (t.qp fn q).live then t.complete c 0x0231 0 0 0
    else if 65536 ≤ (t.host.qps.filter fun e => e.2.live).length then t.complete c 0x0232 0 0 0
    else
      let v := min ver (t.get .FN_STAT_VER fn)
      let t1 := t.modQp fn q fun _ =>
        { live := true, ver := v, sqBase := d.dptr0, cqBase := d.dptr1, sqLog2 := sq, cqLog2 := cq, vector := vec, aggThr := max thr 1,
          aggUs := specByte d 8 }
      t1.complete c 0 0 v 0

/-- DELETE_QP. -/
def execDeleteQp (fn : FnIx) (tag : Nat) (s : State) : Out :=
  s.runAdmin fn tag 0x87 fun t c =>
    let q := specField c.d 0 2
    let x := t.qp fn q
    if x.deletedBy = some tag then t.finishDelete fn q
    else if q = 0 ∨ x.live = false ∨ x.deletedBy.isSome then t.complete c 0x0104 0 0 0
    else (t.modQp fn q fun y => { y with deletedBy := some tag }).finishDelete fn q

/-! ### Leases (R377, R330) -/

/-- The lease entry of a function on a mechanism. -/
def State.leaseEntry (s : State) (fn n : Nat) : Option Nat :=
  (List.range 4).find? fun k => s.on .HQP_LEASE_VALID n k && s.get .HQP_LEASE_FN n k == fn

/-- The first free lease entry of a mechanism. -/
def State.freeLease (s : State) (n : Nat) : Option Nat := (List.range 4).find? fun k => !s.on .HQP_LEASE_VALID n k

/-- Put a mode into the entry of a function; mode 0 empties it. -/
def State.putLease (s : State) (fn n mode : Nat) : State :=
  let w : Word := if mode = 0 then 0 else BitVec.ofNat 32 (0x80000000 + mode * 65536 + fn)
  match s.leaseEntry fn n with
  | some k => s.wr .HQP_LEASE n k w
  | none => if mode = 0 then s else match s.freeLease n with
    | some k => s.wr .HQP_LEASE n k w
    | none => s

/-- The mode that the entry of a function holds. -/
def State.entryMode (s : State) (fn n : Nat) : Nat := match s.leaseEntry fn n with
  | some k => s.get .HQP_LEASE_MODE n k
  | none => 0

/-- The lease of one function on one mechanism changes: its event entry, and at a revoke or a narrowing its commands that have not started end
(R330). -/
def State.changeLease (s : State) (fn n mode : Nat) : State :=
  if s.entryMode fn n = mode then s
  else
    let was := s.leaseMode fn n
    let s1 := (s.putLease fn n mode).postEvent fn 3 0 (n + mode * 65536)
    if s1.leaseMode fn n < was then
      s1.forEach (s1.host.cmds.filter fun c => c.fn == fn && namesMech c.d && c.d.mn == n && !c.started) fun t c => t.stopCmd c 0x0504
    else s1

/-- LEASE. -/
def execLease (fn : FnIx) (tag : Nat) (s : State) : Out :=
  s.runAdmin fn tag 0x88 fun t c =>
    let g := specByte c.d 0
    let mode := specByte c.d 1
    let ms := (List.range c.d.count).map fun i => c.d.mn + i
    if mode ≠ 0 ∧ ms.any (fun n => (t.leaseEntry g n).isNone && (t.freeLease n).isNone) then t.complete c 0x0233 0 0 0
    else
      let changed := (ms.filter fun n => t.entryMode g n != mode).length
      let own := t.modCtx fn tag fun x => { x with started := true }
      (own.forEach ms fun u n => u.changeLease g n mode).complete c 0 0 changed 0

end Sys2Proof.Machine
end

