-- ==== Sys2Proof/Machine/Features.lean ====
section
/-! DEFINITION. Features and the calibration image: SET_FEATURE, GET_FEATURE, CALIB_SAVE, CALIB_RESTORE (spec/13_command_set.md R373, R374,
R378; spec/09_codes_and_moraine.md R253 to R255; spec/08_firn_channel.md R234; spec/07_calibration.md R204 to R206). -/

namespace Sys2Proof.Machine

/-- Little-endian dwords of a byte list. -/
def dwordsOf (b : List Nat) : List Nat := (List.range (b.length / 4)).map fun i => leAt b (4 * i) 4

/-- A write strategy record is accepted for a class and media kind (R234). -/
def stratOk (cls media : Nat) (r : List Nat) : Bool :=
  crcOk r 96 && dwBits r 0 24 8 == 1 && dwBits r 0 16 3 == cls && dwBits r 0 8 2 == media && decide (media < 3) &&
  (List.range 4).all fun b => (List.range 20).all fun k => dwBits r (5 + 22 * b + k) 20 6 != 0

/-! ### LDPC matrix files (R253 to R255) -/

def matEntry (e : List Nat) (r c : Nat) : Nat := e.getD (r * 144 + c) 0xFFFF

/-- The rows in which a column has a block. -/
def colRows (e : List Nat) (c : Nat) : List Nat := (List.range 15).filter fun r => matEntry e r c != 0xFFFF

/-- The parity part has the shape of R253. -/
def parityShape (e : List Nat) : Bool :=
  let p := colRows e 129
  p.length == 3 && p.headD 1 == 0 && p.getLastD 0 == 14 && matEntry e 0 129 == matEntry e 14 129 && matEntry e (p.getD 1 0) 129 == 0 &&
  (List.range 14).all fun j => colRows e (130 + j) == [j, j + 1] && matEntry e j (130 + j) == 0 && matEntry e (j + 1) (130 + j) == 0

/-- A matrix file is accepted (R254). -/
def matrixOk (b : List Nat) : Bool :=
  let e := (List.range 2160).map fun i => leAt b (0x40 + 2 * i) 2
  let order := (List.range 15).map fun i => b.getD (0x1120 + i) 0
  b.length == 4400 && leAt b 0x3C 4 == crc32c (b.take 0x3C ++ (b.drop 0x40).take 0x10F0) && leAt b 0 2 == 0x4D51 && leAt b 2 2 == 1 &&
  leAt b 4 2 != 0 && leAt b 6 2 == 256 && leAt b 8 1 == 15 && leAt b 9 1 == 144 && leAt b 10 1 == 129 &&
  e.all (fun x => x == 0xFFFF || decide (x < 256)) && parityShape e && (List.range 15).all (fun i => order.contains i) &&
  (List.range 129).all (fun c => decide (3 ≤ (colRows e c).length ∧ (colRows e c).length ≤ 5)) &&
  (List.range 15).all fun r => decide (((List.range 144).filter fun c => matEntry e r c != 0xFFFF).length ≤ 48)

/-- The file of a held matrix. -/
def matrixFile (m : MatrixX) : List Nat :=
  let head := leBytes 2 0x4D51 ++ leBytes 2 1 ++ leBytes 2 m.id ++ leBytes 2 256 ++ [15, 144, 129] ++ zeros 49
  let tail := (m.entries.flatMap (leBytes 2)) ++ m.order ++ [0]
  head ++ leBytes 4 (crc32c (head ++ tail)) ++ tail

/-- A held matrix is in use (R255). -/
def State.matrixInUse (s : State) (id : Nat) : Bool :=
  s.chan.discs.any (fun e => s.on .MECH_STATE_MOUNTED e.1 && e.2.matrix == id) || s.chan.cws.any fun w => w.matrix == id

/-- The entry that a new file takes: an empty one, that of the same MATRIX_ID, or the one not in use loaded earliest. -/
def State.matrixPlace (s : State) (id : Nat) : Option Nat :=
  let at' := fun k => tabGet s.chan.matrices k {}
  match (List.range 4).find? fun k => (at' k).id == id with
  | some k => if s.matrixInUse id then none else some k
  | none =>
    match (List.range 4).find? fun k => (at' k).id == 0 with
    | some k => some k
    | none =>
      ((List.range 4).filter fun k => !s.matrixInUse (at' k).id).foldl (fun (a : Option Nat) k => match a with
        | none => some k
        | some j => if (at' k).age < (at' j).age then some k else some j) none

/-- Load an accepted matrix file into an entry. -/
def State.loadMatrix (s : State) (k : Nat) (b : List Nat) : State :=
  let m : MatrixX := { id := leAt b 4 2, entries := (List.range 2160).map (fun i => leAt b (0x40 + 2 * i) 2),
                       order := (List.range 15).map (fun i => b.getD (0x1120 + i) 0), age := s.chan.matrixAge }
  (s.modChan fun x => { x with matrices := tabPut x.matrices k m {}, matrixAge := x.matrixAge + 1 }).raise .MOR_EVENT_MTX_LOADED

/-! ### SET_FEATURE and GET_FEATURE (R373, R374) -/

/-- The checks of a feature command before its data move: unknown FID or a selector that names nothing, key slot range, COUNT, VALUE. -/
def State.featureRefused (s : State) (c : Ctx) (set : Bool) : Nat :=
  let fid := specByte c.d 0
  let s0 := specByte c.d 1
  let s1 := specField c.d 2 2
  let value := specField c.d 4 8
  match featureLen fid set with
  | none => 0x0235
  | some n =>
    let named :=
      if fid = 1 ∨ fid = 2 then decide (s0 < 8) && s1 == 0
      else if fid = 3 then decide (s0 < 8) && decide (s1 < 3)
      else if fid = 4 then s0 == 0 && (if set then s1 == 0 else s1 != 0 && (s.matrixOf s1).isSome)
      else if fid = 5 then decide (s0 < 8) && s1 % 8 + s1 / 256 % 2 * 256 == s1 &&
        (set || !(s.libRec s0 (s1 % 8) (s1 / 256)).isEmpty)
      else if fid = 0x10 then s0 == 0 && (s.qp c.fn s1).live
      else s0 == 0
    if !named then 0x0235
    else if fid = 0x20 ∧ s.keyOk c.fn s1 = false then 0x0503
    else if c.d.count ≠ n then 0x0104
    else if value ≠ 0 ∧ ¬ (set ∧ fid = 0x10) then 0x0104
    else if set ∧ fid = 0x10 ∧ (value / 2 ^ 24 ≠ 0 ∨ 256 < value % 65536) then 0x0104
    else 0

/-- A key slot record (R374): 0x0104 for equal keys in mode 1, 0x0213 for a malformed record, 0 when it is accepted. -/
def keyErr (b : List Nat) : Nat :=
  let mode := leAt b 0 1
  let k1 := leAt b 0x10 32
  let k2 := leAt b 0x30 32
  if 2 < mode ∨ leAt b 1 7 ≠ 0 ∨ (mode ≠ 1 ∧ (k1 ≠ 0 ∨ k2 ≠ 0)) then 0x0213
  else if mode = 1 ∧ k1 = k2 then 0x0104
  else 0

/-- An outstanding READ or WRITE names the slot. -/
def State.keyInUse (s : State) (k : Nat) : Bool := s.host.cmds.any fun c => (c.d.opcode == 1 || c.d.opcode == 2) && c.qpid != 0 && c.d.key == k

/-- Put a value into a table of records. -/
def putRec (t : Tab (List Nat)) (k : Nat) (r : List Nat) : Tab (List Nat) := tabPut t k r []

/-- A feature takes the data of an accepted SET: its status and the new state. -/
def State.setFeature (s : State) (fn fid s0 s1 value : Nat) (b : List Nat) : State × Nat :=
  let r := dwordsOf b
  let refuse := fun (ok : Bool) (t : State) => if ok then (t, 0) else (s, 0x0213)
  if fid = 1 then refuse (seqOk s0 r) (s.modCirq fun q => { q with seqRec := putRec q.seqRec s0 r })
  else if fid = 2 then refuse (driveOk s0 r) (s.modCirq fun q => { q with driveRec := putRec q.driveRec s0 r })
  else if fid = 3 then refuse (stratOk s0 s1 r) (s.modChan fun x => { x with strat := putRec x.strat (s0 * 4 + s1) r })
  else if fid = 4 then
    if matrixOk b = false then (s, 0x0211)
    else match s.matrixPlace (leAt b 4 2) with
      | none => (s, 0x0212)
      | some k => (s.loadMatrix k b, 0)
  else if fid = 5 then
    let l := s1 % 8
    let f := s1 / 256
    refuse (coefErr l r == 0 && recFmt r == f) (s.modCirq fun q => { q with library := putRec q.library (s0 * 16 + l * 2 + f) r })
  else if fid = 0x10 then (s.modQp fn s1 fun q => { q with aggThr := max 1 (value % 65536), aggUs := value / 65536 % 256 }, 0)
  else if s.keyInUse s1 then (s, 0x0228)
  else if keyErr b ≠ 0 then (s, keyErr b)
  else
    let k : KeySlot := if leAt b 0 1 = 0 then {} else
      { mode := leAt b 0 1, tweakHi := leAt b 8 8, key1 := leAt b 0x10 32, key2 := leAt b 0x30 32 }
    (s.modHost fun h => { h with keys := tabPut h.keys s1 k {} }, 0)

/-- SET_FEATURE. -/
def execSetFeature (fn : FnIx) (tag : Nat) (data : List Nat) (dma : Dma) (s : State) : Out :=
  s.runAdmin fn tag 0x82 fun t c =>
    let e := t.featureRefused c true
    if e ≠ 0 then t.complete c e 0 0 0
    else if dma ≠ .done then t.complete c (dmaStatus dma) 0 0 0
    else
      let b := (data.map (· % 256)).take c.d.count
      let p := t.setFeature fn (specByte c.d 0) (specByte c.d 1) (specField c.d 2 2) (specField c.d 4 8) (b ++ zeros (c.d.count - b.length))
      p.1.complete c p.2 0 0 0

/-- The bytes that a GET returns. -/
def State.featureData (s : State) (fid s0 s1 : Nat) : List Nat :=
  if fid = 1 then dwBytes (s.seqRec s0)
  else if fid = 2 then dwBytes (s.driveRec s0)
  else if fid = 3 then dwBytes (s.strategy s0 s1)
  else if fid = 4 then match s.matrixOf s1 with
    | some m => matrixFile m
    | none => []
  else if fid = 5 then dwBytes (s.libRec s0 (s1 % 8) (s1 / 256))
  else if fid = 0x20 then
    let k := s.keySlot s1
    leBytes 1 k.mode ++ zeros 7 ++ leBytes 8 k.tweakHi
  else []

/-- GET_FEATURE. -/
def execGetFeature (fn : FnIx) (tag : Nat) (dma : Dma) (s : State) : Out :=
  s.runAdmin fn tag 0x83 fun t c =>
    let e := t.featureRefused c false
    if e ≠ 0 then t.complete c e 0 0 0
    else
      let q := t.qp fn (specField c.d 2 2)
      if specByte c.d 0 = 0x10 then t.complete c 0 0 (q.aggThr + q.aggUs * 65536) 0
      else t.answer c dma (t.featureData (specByte c.d 0) (specByte c.d 1) (specField c.d 2 2)) 0 0

/-! ### The calibration image (R204 to R206, R378) -/

/-- Records of a scope in the order space, index, layer. -/
def State.calList (s : State) (scope mn : Nat) : List (Nat × Nat × Nat) :=
  let mechs := if scope = 2 then [] else if scope = 1 then [mn] else List.range 4096
  let zero := (mechs.filter fun n => s.on .MECH_STATE_MOUNTED n).flatMap fun n => (List.range (s.layersOf n)).map fun l => (0, n, l)
  let rest := if scope = 1 then [] else
    (List.range 256).map (fun i => (1, i, 0)) ++ (List.range 32).map (fun i => (2, i, 0)) ++ (List.range 24).map fun i => (3, i, 0)
  zero ++ rest

/-- DISC_ID of a record: that of the HAF lead-in, 0 for BD media. -/
def State.snapshotDisc (s : State) (n : Nat) : Nat := if isHaf (s.get .MECH_DISC_MEDIA n) then (s.mx n).discId else 0

/-- The 64 bytes of a record. -/
def State.calRecBytes (s : State) (e : Nat × Nat × Nat) : List Nat :=
  let r := s.calRec e.1 e.2.1 e.2.2
  let z := e.1 = 0
  leBytes 1 e.1 ++ leBytes 1 e.2.2 ++ leBytes 2 e.2.1 ++ leBytes 1 (if z then s.get .MECH_DISC_MEDIA e.2.1 else 0) ++ zeros 3 ++
  leBytes 8 (if z then s.bridgeSn e.2.1 else 0) ++ leBytes 8 (if z then s.snapshotDisc e.2.1 else 0) ++ leBytes 8 r.runTime ++
  dwBytes ((List.range 8).map fun i => dw r.d i)

/-- The image of a scope. -/
def State.calImage (s : State) (scope mn : Nat) : List Nat :=
  let l := s.calList scope mn
  let recs := l.flatMap s.calRecBytes
  let head := leBytes 2 0x4C43 ++ leBytes 2 1 ++ leBytes 1 scope ++ zeros 3 ++ leBytes 4 l.length ++ zeros 4 ++ leBytes 8 s.deviceId ++ zeros 4
  head ++ leBytes 4 (crc32c (head ++ recs)) ++ recs

/-- CALIB_SAVE. -/
def execCalibSave (fn : FnIx) (tag : Nat) (dma : Dma) (s : State) : Out :=
  s.runAdmin fn tag 0x89 fun t c =>
    let scope := specByte c.d 0
    if scope = 1 ∧ ¬ t.on .MECH_STATE_MOUNTED c.d.mn then t.complete c 0x0405 0 0 0
    else
      let b := t.calImage scope c.d.mn
      if c.d.count < b.length then t.complete c 0x0234 0 b.length 0
      else t.answer c dma b b.length (t.calList scope c.d.mn).length

/-- One record applies, or is skipped (R205). -/
def State.calApplies (s : State) (scope mn dev : Nat) (b : List Nat) : Bool :=
  let space := leAt b 0 1
  let layer := leAt b 1 1
  let index := leAt b 2 2
  s.calSelErr space index layer == 0 && (space != 0 || decide (index < 4096)) && s.calInRange space index layer (dwordsOf (b.drop 0x20)) &&
  (if space = 0 then
     (scope != 1 || index == mn) && s.get .MECH_DISC_MEDIA index == leAt b 4 1 && s.snapshotDisc index == leAt b 0x10 8 &&
     s.bridgeSn index == leAt b 8 8
   else scope != 1 && dev == s.deviceId)

/-- Apply the records of an image in order; the counts of those applied and skipped. -/
def State.calRestore (s : State) (scope mn dev : Nat) (recs : List (List Nat)) : State × Nat × Nat :=
  recs.foldl (fun (a : State × Nat × Nat) b =>
    if a.1.calApplies scope mn dev b then
      (a.1.putCal (leAt b 0 1) (leAt b 2 2) (calLayer (leAt b 0 1) (leAt b 1 1)) (dwordsOf (b.drop 0x20)), a.2.1 + 1, a.2.2)
    else (a.1, a.2.1, a.2.2 + 1)) (s, 0, 0)

/-- An image is sound (R205). -/
def calImageOk (b : List Nat) : Bool :=
  decide (32 ≤ b.length) && leAt b 0 2 == 0x4C43 && leAt b 2 2 == 1 && decide (leAt b 4 1 < 3) && b.length == 32 + 64 * leAt b 8 4 &&
  leAt b 0x1C 4 == crc32c (b.take 0x1C ++ b.drop 32)

/-- CALIB_RESTORE. -/
def execCalibRestore (fn : FnIx) (tag : Nat) (data : List Nat) (dma : Dma) (s : State) : Out :=
  s.runAdmin fn tag 0x8A fun t c =>
    let d := (data.map (· % 256)).take c.d.count
    let b := d ++ zeros (c.d.count - d.length)
    let scope := leAt b 4 1
    if dma ≠ .done then t.complete c (dmaStatus dma) 0 0 0
    else if calImageOk b = false then t.complete c 0x0210 0 0 0
    else if scope = 1 ∧ t.leaseMode fn c.d.mn ≠ 3 then t.complete c 0x0501 0 0 0
    else if scope ≠ 1 ∧ ¬ t.isSteward fn then t.complete c 0x0107 0 0 0
    else
      let recs := (List.range (leAt b 8 4)).map fun i => (b.drop (32 + 64 * i)).take 64
      let p := t.calRestore scope c.d.mn (leAt b 0x10 8) recs
      p.1.complete c 0 0 p.2.1 p.2.2

end Sys2Proof.Machine
end

