-- ==== Sys2Proof/Machine/MemOps.lean ====
section
/-! DEFINITION. The memory system at work: SRAM words and their error records, the bank ports with their arbitration and merge buffers, the DRAM
channels, the Rime cache, and one cycle of them all (spec/14_memory_and_cores.md R384 to R408). -/

namespace Sys2Proof.Machine

/-- Change the memory state. -/
def State.modMem (s : State) (f : MemX → MemX) : State := { s with memx := f s.memx }

/-- A word of an SRAM bank; a word that nothing has written reads 0. -/
def State.sramWord (s : State) (bank word : Nat) : Nat := tabGet s.memx.sram (bank * 2 ^ 18 + word) 0

/-- Write a word of an SRAM bank; a correction that waits for it is dropped (R386). -/
def State.sramWrite (s : State) (bank word v : Nat) : State :=
  let k := bank * 2 ^ 18 + word
  s.modMem fun m => { m with sram := tabPut m.sram k (v % 2 ^ 64) 0, fix := m.fix.filter fun x => x != k }

/-- A checker's finding is counted, shown and, if uncorrectable, logged (R385, R388, R391); a corrected SRAM word waits for its write-back. -/
def State.recordEcc (s : State) (loc req cls word line : Nat) : State :=
  if cls = 0 then s
  else
    let dram := decide (48 ≤ loc)
    let f := if cls = 1 then (Fld.MEM_ECC_CNT_CE_DATA, Fld.MEM_DDR_ECC_CNT_CE_DATA, Fld.MEM_EVENT_CE_DATA, Fld.MEM_EVENT_DDR_CE)
             else if cls = 2 then (Fld.MEM_ECC_CNT_CE_CHECK, Fld.MEM_DDR_ECC_CNT_CE_CHECK, Fld.MEM_EVENT_CE_CHECK, Fld.MEM_EVENT_DDR_CE)
             else (Fld.MEM_ECC_CNT_UE, Fld.MEM_DDR_ECC_CNT_UE, Fld.MEM_EVENT_UE, Fld.MEM_EVENT_DDR_UE)
    let s1 := if dram then (s.bump f.2.1 (loc - 48)).raise f.2.2.2 else (s.bump f.1 loc).raise f.2.2.1
    let s2 := s1.wr .MEM_ECC_LAST 0 0 (BitVec.ofNat 32 (cls * 2 ^ 30 + loc * 2 ^ 23 + req * 2 ^ 18 + if dram then 0 else word % 2 ^ 18))
    let s3 := if dram then s2.set0 .MEM_ECC_ADDR_LINE line else s2
    let last := (s3.rd .MEM_ECC_LAST).toNat
    if cls = 3 then s3.logEntry { cls := 2, code := if dram then 2 else 1, sev := 2, detail0 := last,
                                  detail1 := if dram then s3.get .MEM_ECC_ADDR_LINE else 0 }
    else if dram then s3
    else
      let k := loc * 2 ^ 18 + word % 2 ^ 18
      s3.modMem fun m => { m with fix := if m.fix.contains k then m.fix else m.fix ++ [k] }

/-! ### Bank ports (R387, R394, R395) -/

/-- Priority of a requester class in MEM_SRAM_PRIO or MEM_DDR_PRIO. -/
def prioOf (reg cls : Nat) : Nat := reg / 16 ^ cls % 16

/-- Group of MEM_SRAM_PRIO that a bank belongs to. -/
def bankGroup (bank : Nat) : Nat := ([8, 14, 20, 32, 40, 44].filter fun b => decide (b ≤ bank)).length

/-- Among the classes that ask, one of the highest priority; equal ones in turn, starting after the class last granted (R394). -/
def arbitrate (reg last : Nat) (asks : List Nat) : Option Nat :=
  let top := asks.foldl (fun a c => max a (prioOf reg c)) 0
  ((List.range 8).map fun k => (last + 1 + k) % 8).find? fun c => asks.contains c && prioOf reg c == top

/-- Lines per microsecond that port B of SB0 to SB7 takes of a state partition (R395). -/
def portBLines : Nat := 92

/-- Lines of a partition that port B has taken in microsecond `us`. -/
def BankX.linesIn (x : BankX) (us part : Nat) : Nat :=
  let u := tabGet x.used part (0, 0)
  if u.1 = us then u.2 else 0

/-- A request may be granted: one of port B of SB0 to SB7 only within the lines left of its partition. -/
def BankX.open (x : BankX) (bank us : Nat) (r : BankReq) : Bool := r.voice || decide (8 ≤ bank) || decide (x.linesIn us r.part < portBLines)

/-- Grant a request. -/
def BankX.take (x : BankX) (bank us : Nat) (r : BankReq) : BankX :=
  let portB := !r.voice && decide (bank < 8)
  { x with waiting := x.waiting.erase r, holder := some r, last := if r.voice || decide (8 ≤ r.cls) then x.last else r.cls,
           used := if portB then tabPut x.used r.part (us, x.linesIn us r.part + 1) (0, 0) else x.used }

/-- The request of the debug port, an emergency requester. -/
def BankX.debug (x : BankX) (bank us : Nat) : Option BankReq := x.waiting.find? fun r => !r.voice && r.cls == 8 && x.open bank us r

/-- The request granted next: on SB0 to SB7 one of port A first, then the debug port, then by arbitration (R394, R395). -/
def BankX.pick (x : BankX) (bank us reg : Nat) : Option BankReq :=
  match x.waiting.find? (fun r => decide (bank < 8) && r.voice), x.debug bank us with
  | some r, _ => some r
  | none, some r => some r
  | none, none =>
    let l := x.waiting.filter fun r => x.open bank us r
    match arbitrate reg x.last (l.map (·.cls)) with
    | some c => l.find? fun r => r.cls == c
    | none => none

/-- The grant of a cycle. The debug port interrupts an access of port B after its current word, and that access resumes after it. -/
def BankX.grant (x : BankX) (bank us reg : Nat) : BankX :=
  match x.holder with
  | some h =>
    if h.voice || h.cls == 8 then x
    else match x.debug bank us with
      | some d => { x.take bank us d with paused := some h }
      | none => x
  | none => match x.paused with
    | some h => { x with paused := none, holder := some h }
    | none => match x.pick bank us reg with
      | some r => x.take bank us r
      | none => x

def State.bank (s : State) (b : Nat) : BankX := tabGet s.memx.banks b {}
def State.modBank (s : State) (b : Nat) (f : BankX → BankX) : State := s.modMem fun m => { m with banks := tabMod m.banks b {} f }

/-- The bytes of `new` chosen by `mask` over those of `old`. -/
def mergeBytes (old new mask : Nat) : Nat :=
  (List.range 8).foldl (fun a i => a + (if bitAt mask i = 1 then new / 256 ^ i % 256 else old / 256 ^ i % 256) * 256 ^ i) 0

/-- The merge buffer's entry for a word. -/
def State.mergeEntry (s : State) (b word : Nat) : Option MergeX := (s.bank b).merge.find? fun e => e.word == word

def State.dropMerge (s : State) (b word : Nat) : State := s.modBank b fun x => { x with merge := x.merge.filter fun e => e.word != word }

/-- What a read of a bank word gives: the bytes in the merge buffer over the memory's (R387). -/
def State.bankRead (s : State) (b word : Nat) : Nat := match s.mergeEntry b word with
  | some e => mergeBytes (s.sramWord b word) e.value e.mask
  | none => s.sramWord b word

/-- Words of a merge buffer. -/
def mergeWords : Nat := 16

/-- Bytes of a word are written: they join the word's entry in the merge buffer; with all 8 bytes written it goes to the bank at once (R387). -/
def State.bankWrite (s : State) (b word mask value req : Nat) : State :=
  let old := (s.mergeEntry b word).getD { word := word, mask := 0, value := 0, req := req, idle := 0 }
  let m := Nat.lor old.mask (mask % 256)
  let v := mergeBytes old.value value mask
  let s1 := s.dropMerge b word
  if m = 255 then s1.sramWrite b word v
  else if m = 0 then s1
  else s1.modBank b fun x => { x with merge := x.merge ++ [{ word := word, mask := m, value := v, req := req, idle := 0 }] }

/-- A narrow write needs a place in a full merge buffer and waits for it. -/
def State.mergeFull (s : State) (b : Nat) (r : BankReq) : Bool := match r.data with
  | (mask, _) :: _ => mask % 256 != 255 && (s.mergeEntry b (r.word % 2 ^ 18)).isNone && decide (mergeWords ≤ (s.bank b).merge.length)
  | [] => false

/-- One word of an access passes. -/
def State.passWord (s : State) (b : Nat) (r : BankReq) : State :=
  let w := r.word % 2 ^ 18
  match r.data with
  | (mask, v) :: _ => s.bankWrite b w mask v r.cls
  | [] => s.modBank b fun x => { x with read := s.bankRead b w }

/-- What is left of an access after a word, if anything. -/
def restOf (r : BankReq) : Option BankReq :=
  let q := { r with word := r.word + 1, words := r.words - 1, data := r.data.drop 1 }
  if (if r.data.isEmpty then q.words == 0 else q.data.isEmpty) then none else some q

/-- The longest access that a grant covers: 128 bytes. -/
def cutAccess (r : BankReq) : BankReq := { r with words := max 1 (min r.words 16), data := r.data.take 16, cls := min r.cls 8 }

/-- The requests that arrive wait, and entries of the merge buffer age. -/
def BankX.arrive (x : BankX) (l : List BankReq) : BankX :=
  { x with waiting := x.waiting ++ l.map cutAccess, merge := x.merge.map fun e => { e with idle := e.idle + 1 } }

/-- One cycle of a bank: after the arrivals a grant is made and a word passes. -/
def State.bankCycle (s : State) (b : Nat) (arrive : List BankReq) : State :=
  let reg := s.get .MEM_SRAM_PRIO_PRIO (bankGroup b)
  let s1 := s.modBank b fun x => (x.arrive arrive).grant b (s.now / 1000) reg
  match (s1.bank b).holder with
  | none => s1
  | some r => if s1.mergeFull b r then s1 else (s1.passWord b r).modBank b fun x => { x with holder := restOf r }

/-! ### DRAM channels (R396, R398, R399) -/

def State.populated (s : State) (ch : Nat) : Bool := bitAt (s.get .MEM_DDR_STAT_PRESENT) ch == 1
def State.inSr (s : State) (ch : Nat) : Bool := bitAt (s.get .MEM_DDR_STAT_IN_SR) ch == 1

/-- The channel of a DRAM line: 256-byte units interleave across the populated channels (R396). -/
def State.channelOf (s : State) (line : Nat) : Nat :=
  let l := (List.range 8).filter s.populated
  l.getD (line / 2 % l.length) 0

/-- Requests that a bank queue holds. -/
def bankQueue : Nat := 8

/-- The oldest request of a class enters its bank queue: the debug port's first, else by MEM_DDR_PRIO among those whose queue has a place. -/
def ChanX.letIn (c : ChanX) (reg : Nat) : ChanX :=
  let l := c.entering.filter fun r => (tabGet c.queues r.bank []).length < bankQueue
  let r := match l.find? (fun r => 8 ≤ r.cls) with
    | some r => some r
    | none => match arbitrate reg c.lastCls (l.map (·.cls)) with
      | some k => l.find? fun r => r.cls == k
      | none => none
  match r with
  | none => c
  | some r => { c with entering := c.entering.erase r, queues := tabMod c.queues r.bank [] (· ++ [r]), lastCls := if r.cls < 8 then r.cls else c.lastCls }

/-- The bank picked: one with a request of the debug port, else in rotating order, starting after the bank last picked, among those with a request that
timing allows. -/
def ChanX.bankNext (c : ChanX) (ready : List Nat) : Option Nat :=
  let l := c.queues.filter fun e => !e.2.isEmpty && ready.contains e.1
  match l.find? fun e => e.2.any fun r => 8 ≤ r.cls with
  | some e => some e.1
  | none => match l.find? fun e => c.lastBank < e.1 with
    | some e => some e.1
    | none => l.head?.map (·.1)

/-- The request of a bank served next, and the consecutive hits then: one to the open row for at most HIT_MAX in a row, else the oldest (R398). -/
def ChanX.requestNext (c : ChanX) (hitMax bank : Nat) : Option (DramReq × Nat) :=
  let q := tabGet c.queues bank []
  let hit := fun (r : DramReq) => tabGet c.rows bank none == some r.row
  let n := tabGet c.hits bank 0
  match q.find? fun r => 8 ≤ r.cls with
  | some r => some (r, n)
  | none => match (if n < hitMax then q.find? hit else none), q with
    | some r, _ => some (r, n + 1)
    | none, r :: _ => some (r, b2n (hit r))
    | none, [] => none

/-- One access: the row stays open, or with the hint CLOSE and no further request for it is closed with auto-precharge. PAGE_POLICY overrides hints. -/
def ChanX.serve (c : ChanX) (policy hitMax bank : Nat) : ChanX := match c.requestNext hitMax bank with
  | none => c
  | some (r, n) =>
    let q := (tabGet c.queues bank []).erase r
    let closing := if policy = 0 then r.close else policy == 2
    let row := if closing && !(q.any fun x => x.row == r.row) then none else some r.row
    { c with queues := tabPut c.queues bank q [], rows := tabPut c.rows bank row none, hits := tabPut c.hits bank (if row.isNone then 0 else n) 0,
             lastBank := bank }

def State.modDdr (s : State) (ch : Nat) (f : ChanX → ChanX) : State := s.modMem fun m => { m with chans := tabMod m.chans ch {} f }

/-- A request ends self-refresh of its channel; delays that wait there apply at the exit (R400, R401). -/
def State.leaveSr (s : State) (ch : Nat) : State :=
  if !s.inSr ch then s
  else
    let s1 := s.set0 .MEM_DDR_STAT_IN_SR (s.get .MEM_DDR_STAT_IN_SR - 2 ^ ch)
    if s.on .MEM_DDR_CMD_BUSY && s.get .MEM_DDR_CMD_CH == ch then (s1.applyDelays ch).set0 .MEM_DDR_CMD_BUSY 0 else s1

/-- One cycle of a channel. -/
def State.chanCycle (s : State) (ch : Nat) (arrive : List DramReq) (ready : List Nat) : State :=
  if !s.populated ch then s
  else
    let reg := s.get .MEM_DDR_PRIO_PRIO
    let s1 := if arrive.isEmpty then s else (s.leaveSr ch).modDdr ch fun c => { c with entering := c.entering ++ arrive, lastAt := s.now }
    s1.modDdr ch fun c =>
      let d := c.letIn reg
      match d.bankNext ready with
      | some b => d.serve (s.get .MEM_DDR_CFG_PAGE_POLICY) (s.get .MEM_DDR_CFG_HIT_MAX) b
      | none => d

/-! ### The Rime cache (R389, R403 to R408) -/

def State.modRime (s : State) (f : RimeX → RimeX) : State := s.modMem fun m => { m with rime := f m.rime }

/-- Lines of the cache, of its side buffer and of its eviction buffer. -/
def rimeLines : Nat := 196608
def sideLines : Nat := 64
def evictLines : Nat := 32

/-- The sets of a geometry with `ways` ways. -/
def rimeSets (ways : Nat) : Nat := rimeLines / ways

/-- The ways of the set of a line. -/
def RimeX.setOf (x : RimeX) (ways line : Nat) : List (Option RimeLine) := tabGet x.sets (line % rimeSets ways) (List.replicate ways none)

/-- The line as its set holds it. -/
def RimeX.find (x : RimeX) (ways line : Nat) : Option RimeLine :=
  ((x.setOf ways line).find? fun e => match e with
    | some l => l.line == line
    | none => false).getD none

/-- Change the line in its set. -/
def RimeX.modLine (x : RimeX) (ways line : Nat) (f : RimeLine → RimeLine) : RimeX :=
  { x with sets := tabMod x.sets (line % rimeSets ways) (List.replicate ways none) fun l => l.map fun e => e.map fun c => if c.line = line then f c else c }

/-- The line as DRAM holds it. -/
def RimeX.dramLine (x : RimeX) (line : Nat) : RimeLine := { line := line, data := tabGet x.dram line 0, bad := tabGet x.bad line 0 }

/-- A line is written to DRAM with the check values of its words (R389). -/
def RimeX.store (x : RimeX) (l : RimeLine) : RimeX := { x with dram := tabPut x.dram l.line l.data 0, bad := tabPut x.bad l.line l.bad 0 }

/-- An issued entry of the eviction buffer completes. -/
def RimeX.wrote (x : RimeX) (i : Nat) : RimeX := match x.evict[i]? with
  | some (l, true) => { x.store l with evict := x.evict.eraseIdx i }
  | _ => x

/-- The DRAM write of an entry is issued, unless an earlier one of its line is outstanding (R408). -/
def RimeX.issue (x : RimeX) (i : Nat) : RimeX := match x.evict[i]? with
  | some (l, false) => if (x.evict.take i).any fun e => e.1.line == l.line then x else { x with evict := x.evict.set i (l, true) }
  | _ => x

/-- Every entry of the eviction buffer is written, oldest first. -/
def RimeX.drain (x : RimeX) : RimeX := { x.evict.foldl (fun y e => y.store e.1) x with evict := [] }

/-- Every dirty line is written back and stays, clean (R405). -/
def RimeX.flush (x : RimeX) : RimeX :=
  let d := x.drain
  let dirty := (d.sets.flatMap fun e => e.2.filterMap id).filter (·.dirty)
  { dirty.foldl RimeX.store d with sets := d.sets.map fun e => (e.1, e.2.map fun l => l.map fun c => { c with dirty := false }) }

/-- Every line is discarded; those of the eviction buffer have been evicted and are written. -/
def RimeX.discard (x : RimeX) : RimeX := { x.drain with sets := [], victim := [], side := [] }

/-- Dirty lines. -/
def RimeX.dirty (x : RimeX) : Nat := x.sets.foldl (fun a e => a + (e.2.filter fun l => match l with
  | some c => c.dirty
  | none => false).length) 0

/-- MEM_RIME_STAT shows the dirty lines and those of the side buffer. -/
def State.showRime (s : State) : State := (s.set0 .MEM_RIME_STAT_DIRTY (sat 18 s.memx.rime.dirty)).set0 .MEM_RIME_STAT_SIDE s.memx.rime.side.length

/-- The first way from the victim pointer on whose line is not recently used. -/
def coldWay (set : List (Option RimeLine)) (ptr : Nat) : Option Nat :=
  ((List.range set.length).map fun k => (ptr + k) % set.length).find? fun i => match set.getD i none with
    | some l => !l.used
    | none => false

/-- The way that a line takes: an empty one, else a line not recently used, from the victim pointer on; with every line recently used the bits are
cleared and the pointer's line goes. The set with the bits as they are then, the way, and whether the pointer moves past it. -/
def wayFor (set : List (Option RimeLine)) (ptr : Nat) : List (Option RimeLine) × Nat × Bool :=
  match (List.range set.length).find? fun i => (set.getD i none).isNone with
  | some i => (set, i, false)
  | none => match coldWay set ptr with
    | some i => (set, i, true)
    | none => (set.map fun e => e.map fun l => { l with used := false }, ptr % set.length, true)

/-- A dirty line leaves its set for the eviction buffer; with no place there the oldest entry is written first. A word that a checker finds uncorrectable
at this read of the bank is counted here and copied as such (R389, R408). -/
def State.evictLine (s : State) (bank : Nat) (lost : Option Nat) (l : RimeLine) : State :=
  if !l.dirty then s
  else
    let s1 := s.modRime fun x => if evictLines ≤ x.evict.length then
        { (match x.evict with
            | e :: _ => x.store e.1
            | [] => x) with evict := x.evict.drop 1 }
      else x
    let fresh := match lost with
      | some w => bitAt l.bad (w % 16) == 0
      | none => false
    let w := lost.getD 0 % 16
    let s2 := if fresh then s1.recordEcc bank 6 3 0 0 else s1
    s2.modRime fun x => { x with evict := x.evict ++ [({ l with bad := if fresh then Nat.lor l.bad (2 ^ w) else l.bad }, false)] }

/-- Allocate a line in its set. -/
def State.allocLine (s : State) (lost : Option Nat) (l : RimeLine) : State :=
  let ways := s.get .MEM_RIME_CTRL_WAYS
  let k := l.line % rimeSets ways
  let x := s.memx.rime
  let (set, way, moves) := wayFor (x.setOf ways l.line) (tabGet x.victim k 0)
  let s1 := match set.getD way none with
    | some v => s.evictLine (20 + (k * ways + way) / 16384) lost v
    | none => s
  s1.modRime fun x => { x with sets := tabPut x.sets k (set.set way (some l)) (List.replicate ways none),
                               victim := if moves then tabPut x.victim k ((way + 1) % ways) 0 else x.victim }

/-- A line is read from DRAM; what a checker finds is counted where it is found first, a marked word not again (R389). -/
def State.fillLine (s : State) (r : RimeReq) : RimeLine × State :=
  let l := s.memx.rime.dramLine r.line
  let w := r.word % 16
  let ch := 48 + s.channelOf r.line
  if r.ecc = 1 ∨ r.ecc = 2 then (l, s.recordEcc ch 6 r.ecc 0 r.line)
  else if r.ecc = 3 ∧ bitAt l.bad w = 0 then ({ l with bad := Nat.lor l.bad (2 ^ w) }, s.recordEcc ch 6 3 0 r.line)
  else (l, s)

/-- A word written anew carries a sound check value. -/
def RimeLine.put (l : RimeLine) (word value : Nat) : RimeLine :=
  let w := word % 16
  let old := l.data / 2 ^ (64 * w) % 2 ^ 64
  { l with data := l.data - old * 2 ^ (64 * w) + value % 2 ^ 64 * 2 ^ (64 * w), bad := if bitAt l.bad w = 1 then l.bad - 2 ^ w else l.bad }

/-- The request done on its line. -/
def askOn (a : RimeAsk) (l : RimeLine) : RimeLine := match a with
  | .read | .prefetch => { l with used := true }
  | .write w v => { l.put w v with dirty := true, used := true }
  | .zero => { l with data := 0, bad := 0, dirty := true, used := true }

/-- A demand access through the cache: in its set, in the side buffer, in the eviction buffer, or a miss (R404, R406 to R408). A line whose fill on a wrong
path finds an uncorrectable word is not allocated (R391). -/
def State.rimeDemand (s : State) (r : RimeReq) : State :=
  let ways := s.get .MEM_RIME_CTRL_WAYS
  let x := s.memx.rime
  if (x.find ways r.line).isSome then (s.modRime fun x => x.modLine ways r.line (askOn r.ask)).bump .MEM_RIME_CNT_HIT_COUNT
  else match x.side.find? (fun l => l.line == r.line), x.evict.reverse.find? (fun e => e.1.line == r.line) with
    | some l, _ =>
      ((s.bump .MEM_RIME_CNT_SIDE_COUNT).modRime fun x => { x with side := x.side.filter fun e => e.line != r.line }).allocLine r.lost (askOn r.ask l)
    | none, some (l, issued) =>
      let s1 := s.bump .MEM_RIME_CNT_EVB_COUNT
      let s2 := if issued then s1 else s1.modRime fun x => { x with evict := x.evict.filter fun e => !(e.1.line == r.line && !e.2) }
      s2.allocLine r.lost (askOn r.ask { l with dirty := !issued })
    | none, none =>
      let s1 := s.bump .MEM_RIME_CNT_MISS_COUNT
      match r.ask with
      | .zero => s1.allocLine r.lost (askOn r.ask { line := r.line, data := 0 })
      | _ =>
        let (l, s2) := s1.fillLine r
        if r.wrongPath && l.bad != 0 then s2 else s2.allocLine r.lost (askOn r.ask l)

/-- A prefetch hint brings a line that the cache does not hold into the side buffer, which replaces its oldest (R406). -/
def State.rimePrefetch (s : State) (r : RimeReq) : State :=
  let x := s.memx.rime
  if (x.find (s.get .MEM_RIME_CTRL_WAYS) r.line).isSome || x.side.any (fun l => l.line == r.line) || x.evict.any (fun e => e.1.line == r.line) then s
  else
    let (l, s1) := s.fillLine r
    s1.modRime fun x => { x with side := (if sideLines ≤ x.side.length then x.side.drop 1 else x.side) ++ [l] }

/-- A request that does not go through the cache acts on DRAM itself. -/
def State.rimeBypass (s : State) (r : RimeReq) : State := match r.ask with
  | .read => (s.fillLine r).2
  | .prefetch => s
  | a => s.modRime fun x => x.store (askOn a (x.dramLine r.line))

/-- A request for a DRAM line. A core's write or zero-line request never comes from a wrong path (R414). -/
def State.rimeRequest (s : State) (r : RimeReq) : State :=
  let writes := match r.ask with
    | .read | .prefetch => false
    | _ => true
  if r.wrongPath && (writes || !Config.cacheable r.line) then s
  else if !s.on .MEM_RIME_CTRL_EN || !Config.cacheable r.line then s.rimeBypass r
  else match r.ask with
    | .prefetch => s.rimePrefetch r
    | _ => s.rimeDemand r

/-- One cycle of the memory system. -/
def State.memCycle (s : State) (c : MemCycle) : State :=
  let bs := ((s.memx.banks.map (·.1)) ++ c.banks.map fun e => e.1.val).dedup
  let s1 := s.forEach bs fun t b => t.bankCycle b ((c.banks.filter fun e => e.1.val == b).map (·.2))
  let s2 := s1.forEach (List.range 8) fun t ch => t.chanCycle ch ((c.dram.filter fun e => e.1.val == ch).map (·.2)) c.ready
  let s3 := s2.modRime fun x => c.issue.foldl RimeX.issue (c.wrote.foldl RimeX.wrote x)
  (s3.forEach c.rime State.rimeRequest).showRime

/-- The memory cycles of a Drone tick. What the units of the device ask for in them is free (notes/assumptions/104.md). -/
def State.memTick (s : State) : State := ({ s with free := s.free + 1 }).forEach (Config.memTraffic s.free) State.memCycle

end Sys2Proof.Machine
end

