-- ==== Sys2Proof/Machine/Memory.lean ====
section
/-! DEFINITION. The memory system: error protection, DMA channels, DRAM, the Rime cache (spec/14_memory_and_cores.md R384 to R408, R418). -/

namespace Sys2Proof.Machine

/-- The word of a DRAM finding carries the mark of a copied error (R389). -/
def State.marked (s : State) (h : EccHit) : Bool := h.cls == 3 && decide (48 ≤ h.loc.val) && tabGet s.memx.rime.bad h.line 0 != 0

/-- The command whose context holds a word of SB32 to SB39 (R20, R392). -/
def State.contextHolding (s : State) (h : EccHit) : Option Ctx :=
  if h.cls == 3 && decide (32 ≤ h.loc.val ∧ h.loc.val ≤ 39) && decide (h.req.val < 8) then
    match Config.contextAt h.loc h.word with
    | some k => s.host.cmds[k]?
    | none => none
  else none

/-- The finding of an operand, counted once, where it was first found (R389); a command whose context holds an uncorrectable word completes (R392). -/
def State.recordHit (s : State) (h : EccHit) : State :=
  if s.marked h then s
  else
    let s1 := s.recordEcc h.loc h.req h.cls h.word h.line
    match s.contextHolding h with
    | some c => s1.stopCmd c 0x0502
    | none => s1

/-- CE_WRITEBACK: the bank word is stored again with a sound check value; the data were corrected at the read (R386). -/
def execCeWriteback (bank : Fin 48) (word : Fin 262144) (s : State) : Out :=
  let k := bank.val * 2 ^ 18 + word.val
  if s.memx.fix.contains k then fin (s.modMem fun m => { m with fix := m.fix.filter fun x => x != k }) else fin s

/-- Words of DRAM. -/
def State.dramWords (s : State) : Nat := s.dramMib * 2 ^ 17

/-- The next word of a patrol over `words` words is due: a patrol of `ns` spreads its reads evenly (R386; notes/assumptions/110.md). -/
def patrolDue (now last ns words : Nat) : Bool := decide (last * words + ns ≤ now * words)

/-- PATROL_SCRUB: the next SRAM word, or the next DRAM word, is read; what is found is treated as at any read (R386). A period of 0 disables a
patrol. The place of an SRAM finding is that of the patrol. -/
def execPatrolScrub (dram : Bool) (hit : Option EccHit) (s : State) : Out :=
  if dram then
    if s.get .MEM_SCRUB_CFG_DRAM_H = 0 ∨ s.dramWords = 0 ∨
       patrolDue s.now s.memx.dramAt (s.get .MEM_SCRUB_CFG_DRAM_H * 3600000000000) s.dramWords = false then fin s
    else
      let s1 := match hit with
        | some h => if 48 ≤ h.loc.val then s.recordEcc h.loc 9 h.cls 0 h.line else s
        | none => s
      fin (s1.modMem fun m => { m with dramNext := (m.dramNext + 1) % s.dramWords, dramAt := s.now })
  else if s.get .MEM_SCRUB_CFG_SRAM_S = 0 ∨
    patrolDue s.now s.memx.sramAt (s.get .MEM_SCRUB_CFG_SRAM_S * 1000000000) (48 * 2 ^ 18) = false then fin s
  else
    let k := s.memx.sramNext
    let s1 := match hit with
      | some h => s.recordEcc (k / 2 ^ 18) 9 h.cls (k % 2 ^ 18) 0
      | none => s
    fin (s1.modMem fun m => { m with sramNext := (k + 1) % (48 * 2 ^ 18), sramAt := s.now })

/-- MERGE_FLUSH: an entry of the merge buffer that has been idle for IDLE_CYC, or whose place is needed, goes to its bank: over the word read and
corrected; over an uncorrectable word the new bytes are discarded (R387). `cls` is the class of that read. -/
def execMergeFlush (bank : Fin 48) (word : Fin 262144) (cls : Fin 4) (s : State) : Out :=
  match s.mergeEntry bank word with
  | none => fin s
  | some e =>
    if e.idle < s.get .MEM_MERGE_CFG_IDLE_CYC ∧ (s.bank bank).merge.length < mergeWords then fin s
    else
      let s1 := (s.recordEcc bank e.req cls word 0).dropMerge bank word
      if cls.val = 3 then
        fin ((s1.raise .MEM_EVENT_MERGE_UE).logEntry { cls := 2, code := 4, sev := 2, detail0 := (s1.rd .MEM_ECC_LAST).toNat })
      else fin (s1.sramWrite bank word (mergeBytes (s1.sramWord bank word) e.value e.mask))

/-! ### DMA channels (R393) -/

/-- Halt a channel that is not halted. -/
def State.haltDma (s : State) (k cause : Nat) : State :=
  let s0 := s.modMem fun m => { m with haltAt := tabPut m.haltAt k s.now 0 }
  let s1 := ((s0.set .MEM_DMA_STAT_CSTATE k 2).set .MEM_DMA_STAT_CAUSE k cause).bump .MEM_DMA_STAT_HALTS k
  (s1.raise .MEM_EVENT_DMA_HALT).logEntry { cls := 2, code := 3, sev := 1, detail0 := k, detail1 := cause }

/-- The codeword that the LLR mover was moving becomes an erasure. -/
def State.eraseCw (s : State) (id : Nat) : State := match s.cw id with
  | none => s
  | some w => ((s.dropCw w).verdict w.mn w.layer w.cluster w.frame .lost)

/-- The transfers of a halted channel fail: commands with 0x0502, WRITEs completed under BUFFERED as lost, a codeword as an erasure. -/
def State.failTransfers (s : State) (cmds : List (FnIx × Nat)) (lost : List Nat) (cw : Option Nat) : State :=
  let s1 := s.forEach cmds fun t (x : FnIx × Nat) => match t.ctx x.1 x.2 with
    | some c => t.stopCmd c 0x0502
    | none => t
  let s2 := s1.forEach (s1.host.wbuf.filter fun w => lost.contains w.id && w.buffered) State.loseEntry
  match cw with
  | some i => s2.eraseCw i
  | none => s2

/-- DMA_HALT: an uncorrectable read (`ecc`), or a PCI Express completion timeout. -/
def execDmaHalt (k : Fin 24) (ecc : Option EccHit) (cmds : List (FnIx × Nat)) (lost : List Nat) (cw : Option Nat) (s : State) : Out :=
  if 2 ≤ s.get .MEM_DMA_STAT_CSTATE k then fin s
  else
    let s1 := match ecc with
      | some h => s.recordHit h
      | none => s
    fin ((s1.haltDma k (if ecc.isSome then 2 else 1)).failTransfers cmds lost (if 22 ≤ k.val then cw else none))

/-- DMA_RESTART: 5 ms after the halt. -/
def execDmaRestart (k : Fin 24) (s : State) : Out :=
  if s.get .MEM_DMA_STAT_CSTATE k = 2 ∧ tabGet s.memx.haltAt k 0 + 5000000 ≤ s.now then
    fin ((s.set .MEM_DMA_STAT_CSTATE k 0).raise .MEM_EVENT_DMA_RESTART)
  else fin s

/-! ### DRAM (R399 to R402) -/

/-- DRAM_REFRESH: the interval of the DIMM's temperature has expired (R399): every open row is closed, and queued row hits wait. A channel in
self-refresh refreshes itself. -/
def execDramRefresh (ch : ChannelIx) (s : State) : Out :=
  if s.populated ch && !s.inSr ch && decide (tabGet s.memx.refreshAt ch 0 + Config.refreshNs (tabGet s.memx.dimm ch 0) ≤ s.now) then
    fin ((s.modMem fun m => { m with refreshAt := tabPut m.refreshAt ch s.now 0 }).modDdr ch fun c => { c with rows := [], hits := [] })
  else fin s

/-- A channel has had no request for SR_IDLE_US and none waits (R400). -/
def State.chanIdle (s : State) (ch : Nat) : Bool :=
  let c := tabGet s.memx.chans ch {}
  c.entering.isEmpty && c.queues.isEmpty && decide (max c.lastAt s.memx.touchedAt + s.get .MEM_DDR_CFG_SR_IDLE_US * 1000 ≤ s.now)

/-- SELF_REFRESH_ENTRY: no request for SR_IDLE_US (R400). -/
def execSelfRefreshEntry (ch : ChannelIx) (s : State) : Out :=
  if s.populated ch ∧ ¬ s.inSr ch ∧ s.get .MEM_DDR_CFG_SR_IDLE_US ≠ 0 ∧ s.chanIdle ch then
    fin (s.set0 .MEM_DDR_STAT_IN_SR (s.get .MEM_DDR_STAT_IN_SR + 2 ^ ch.val))
  else fin s

/-- DDR_APPLY_DELAYS: MEM_DDR_CMD OP 1. In self-refresh the values apply at the exit (R401). -/
def execDdrApplyDelays (ch : ChannelIx) (s : State) : Out := regCmd s fun s =>
  if s.on .MEM_DDR_CMD_BUSY then fin (s.set0 .MEM_DDR_CMD_RESULT 3)
  else
    let s1 := s.set0 .MEM_DDR_CMD_CH ch
    if ¬ s.populated ch then fin (s1.set0 .MEM_DDR_CMD_RESULT 1)
    else if s.inSr ch then fin ((s1.set0 .MEM_DDR_CMD_RESULT 0).set0 .MEM_DDR_CMD_BUSY 1)
    else fin ((s1.set0 .MEM_DDR_CMD_RESULT 0).applyDelays ch)

/-- DDR_RETUNE: the die temperature has moved by more than RETUNE_DELTA since the last apply; firmware writes values of its tables and applies
them (R402). -/
def execDdrRetune (ch : ChannelIx) (s : State) : Out :=
  if s.populated ch ∧ ¬ s.inSr ch ∧ s.get .MEM_DDR_CFG_RETUNE_DELTA < (s.dieTemp - tabGet s.memx.applyTemp ch 0).natAbs then
    fin ((s.forEach (List.range 10) fun t l => t.wr .MEM_DDR_DLY ch l (BitVec.ofNat 32 (Config.delayTable ch s.dieTemp l))).applyDelays ch)
  else fin s

/-- A channel carries traffic: the device runs, and the channel is populated and not in self-refresh (R400, R402; notes/assumptions/110.md). -/
def State.carriesTraffic (s : State) (ch : Nat) : Bool := s.get .DRN_PSTAT_STATE == 1 && s.populated ch && !s.inSr ch

/-- DDR_TEST_START: MEM_DDR_TEST_CTRL START. `fails` is the mask of lanes with a mismatch once the run ends, none while it runs. -/
def execDdrTestStart (ch : ChannelIx) (pattern : Fin 16) (len : Fin 65536) (fails : Option (Fin 1024)) (s : State) : Out := regCmd s fun s =>
  if len.val = 0 ∨ s.on .MEM_DDR_TEST_STAT_BUSY then fin s
  else
    let s1 := (s.set0 .MEM_DDR_TEST_CTRL_CH ch).set0 .MEM_DDR_TEST_CTRL_LEN_KIB len
    let s2 := if pattern.val < 4 then s1.set0 .MEM_DDR_TEST_CTRL_PATTERN pattern else s1
    if s.carriesTraffic ch then fin (s2.set0 .MEM_DDR_TEST_STAT_RESULT 3)
    else match fails with
      | none => fin ((s2.set0 .MEM_DDR_TEST_STAT_BUSY 1).set0 .MEM_DDR_TEST_STAT_FAIL_LANES 0)
      | some m => fin ((s2.set0 .MEM_DDR_TEST_STAT_RESULT (if m.val = 0 then 0 else 1)).set0 .MEM_DDR_TEST_STAT_FAIL_LANES m)

/-- DDR_TEST_STOP. -/
def execDdrTestStop (s : State) : Out := regCmd s fun s =>
  if s.on .MEM_DDR_TEST_STAT_BUSY then fin ((s.set0 .MEM_DDR_TEST_STAT_BUSY 0).set0 .MEM_DDR_TEST_STAT_RESULT 2) else fin s

/-! ### The Rime cache (R405). The write-back of dirty lines ends at once. -/

/-- A MEM_RIME_CTRL operation is refused. -/
def State.rimeErr (s : State) (e : Nat) : State := (s.set0 .MEM_RIME_CTRL_ERR e).raise .MEM_EVENT_RIME_ERR

/-- Run an operation unless one is under way. -/
def State.rimeOp (s : State) (f : State → State) : Out :=
  if s.on .MEM_RIME_CTRL_BUSY then fin (s.rimeErr 4) else fin (f (s.set0 .MEM_RIME_CTRL_ERR 0))

/-- RIME_INVALIDATE: OP 1. -/
def execRimeInvalidate (s : State) : Out := regCmd s fun s =>
  s.rimeOp fun t =>
    if t.on .MEM_RIME_CTRL_EN then t.rimeErr 3
    else ((t.set0 .MEM_RIME_STAT_INVAL_DONE 1).modRime RimeX.discard).showRime

/-- RIME_FLUSH: OP 2. -/
def execRimeFlush (s : State) : Out := regCmd s fun s => s.rimeOp fun t => (t.modRime RimeX.flush).showRime

/-- RIME_ENABLE: EN written 1. -/
def execRimeEnable (s : State) : Out := regCmd s fun s =>
  s.rimeOp fun t =>
    if t.on .MEM_RIME_CTRL_EN then t
    else if t.on .MEM_RIME_STAT_INVAL_DONE then (t.set0 .MEM_RIME_CTRL_EN 1).set0 .MEM_RIME_STAT_ENABLED 1
    else t.rimeErr 1

/-- The cache is bypassed, its lines written back, its side buffer discarded. -/
def State.rimeOff (s : State) : State :=
  ((((s.set0 .MEM_RIME_CTRL_EN 0).set0 .MEM_RIME_STAT_ENABLED 0).set0 .MEM_RIME_STAT_INVAL_DONE 0).modRime fun x => x.flush.discard).showRime

/-- RIME_DISABLE: EN written 0. -/
def execRimeDisable (s : State) : Out := regCmd s fun s => s.rimeOp fun t => if t.on .MEM_RIME_CTRL_EN then t.rimeOff else t

/-- RIME_WAYS_CHANGE: WAYS written; other values than 2, 4, 8, 12, 16 are ignored. -/
def execRimeWaysChange (ways : Fin 32) (s : State) : Out := regCmd s fun s =>
  if ¬ [2, 4, 8, 12, 16].contains ways.val ∨ ways.val = s.get .MEM_RIME_CTRL_WAYS then fin s
  else s.rimeOp fun t =>
    if t.on .MEM_RIME_CTRL_EN then t.rimeErr 2
    else (t.set0 .MEM_RIME_CTRL_WAYS ways).set0 .MEM_RIME_STAT_INVAL_DONE 0

/-! ### The DIMM temperature (R525) -/

/-- DIMM_TEMP_READ: the reading, in 1/16 C, sets the refresh interval of the channel (Config.refreshNs of it). -/
def execDimmTempRead (ch : ChannelIx) (temp : Int) (s : State) : Out :=
  if s.populated ch && decide (tabGet s.memx.dimmAt ch 0 + ms 100 ≤ s.now) then
    fin (s.modMem fun m => { m with dimm := tabPut m.dimm ch temp 0, dimmAt := tabPut m.dimmAt ch s.now 0 })
  else fin s

end Sys2Proof.Machine
end

