-- ==== Sys2Proof/Machine/Cores.lean ====
section
/-! DEFINITION. The management cores: ownership, restarts, traps, traces, and the boot record writes that a restart can bring about
(spec/14_memory_and_cores.md R409 to R416; spec/16_reset_and_boot.md R462 to R464; spec/17_dependability.md R470). -/

namespace Sys2Proof.Machine

/-- Debug is authenticated (R493). -/
def State.debugAuth (s : State) : Bool := s.on .DBG_AUTH_STAT_AUTH

/-! ### Trace (R415, R416) -/

/-- Put one record into the buffer of a core. -/
def State.tracePut (s : State) (c : Nat) (r : TraceRec) : State :=
  let k := s.get .MCORE_TRACE_PTR_NEXT c
  let s1 := s.modMem fun m => { m with trace := tabMod m.trace c [] fun b => tabPut b k (some r) none,
                                       traced := tabMod m.traced c 0 (· + 1) }
  let s2 := s1.set .MCORE_TRACE_PTR_NEXT c ((k + 1) % 16384)
  if k + 1 = 16384 then s2.raise .MCORE_TRACE_PTR_WRAPPED c else s2

/-- A record of the model's own, with the instruction count free. -/
def State.traceOne (s : State) (c type pc : Nat) : State :=
  s.takeFree.2.tracePut c { type := type, core := c, icnt := s.takeFree.1 % 65536, pc := pc, time := s.now }

/-- The trace of a core is on (R416). -/
def State.tracing (s : State) (c : Nat) : Bool :=
  s.debugAuth && bitAt (s.get .MCORE_TRACE_CTRL_EN) c == 1 && !s.on .MCORE_TRACE_PTR_FROZEN c

/-- Each 4,096th record is a synchronisation. -/
def State.traceSync (s : State) (c pc : Nat) : State := if tabGet s.memx.traced c 0 % 4096 = 4095 then s.traceOne c 4 pc else s

/-- Trace an event of a core while its trace is on. -/
def State.traceEvent (s : State) (c type pc : Nat) : State := if s.tracing c then (s.traceOne c type pc).traceSync c pc else s

/-- Trace a taken branch of a core, with the instructions retired before it (R415). -/
def State.traceBranch (s : State) (c icnt pc : Nat) : State :=
  if s.tracing c then
    (s.tracePut c { type := 1, core := c, icnt := min icnt 65535, pc := pc % 2 ^ 32, time := s.now }).traceSync c (pc % 2 ^ 32)
  else s

/-! ### A core at work (R411, R415) -/

def State.running (s : State) (c : Nat) : Bool := s.get .MCORE_STAT_CSTATE c == 0

/-- The time of a core's heartbeat limit begins anew (R411). -/
def State.beat (s : State) (c : Nat) : State := s.modMem fun m => { m with hbAt := tabPut m.hbAt c s.now 0 }

/-- A core runs. -/
def State.startCore (s : State) (c : Nat) : State := (s.set .MCORE_STAT_CSTATE c 0).beat c

/-- The count of an event code in a tick: cycles are those of the 1.5 GHz clock since `from_`, every other event is of retired instructions. -/
def State.eventCount (s : State) (from_ : Nat) (x : CoreTick) (code : Nat) : Nat :=
  if code = 2 then s.now * 3 / 2 - from_ * 3 / 2 else if code = 0 then 0 else x.events.getD (code - 1) 0

/-- What one RUNNING core does in the tick since `from_`: its heartbeat, its performance counters and its trace. -/
def State.coreWork (s : State) (from_ c : Nat) (x : CoreTick) : State :=
  let s1 := if x.beats = 0 then s else (s.set .MCORE_HB_VALUE c ((s.get .MCORE_HB_VALUE c + x.beats) % 2 ^ 32)).beat c
  let s2 := s1.forEach (List.range 4) fun t i =>
    let k := t.eventCount from_ x (bitsOf (t.rd .MCORE_PERF_SEL c) (8 * i) 8)
    if k = 0 then t else t.wr .MCORE_PERF c i (t.rd .MCORE_PERF c i + BitVec.ofNat 32 k)
  s2.forEach x.branches fun t b => t.traceBranch c b.1 b.2

/-- The cores in a Drone tick of ACTIVE. What their firmware does is free (notes/assumptions/110.md). -/
def State.coreTick (s : State) (from_ : Nat) : State :=
  let l := Config.coreTicks s.free
  ({ s with free := s.free + 1 }).forEach ((List.range 4).filter s.running) fun t c => t.coreWork from_ c (l.getD c {})

/-! ### Ownership (R410, R470) -/

/-- RUNNING cores. -/
def State.runningCores (s : State) : Nat := countOf 4 s.running

/-- The first RUNNING core in the order of port p. -/
def State.nextOwner (s : State) (p : Nat) : Option Nat := ((List.range 4).map fun k => (p + k) % 4).find? s.running

/-- The owner that MCORE_OWN shows for port p. -/
def State.ownerOf (s : State) (p : Nat) : Nat := bitsOf (s.rd .MCORE_OWN (p / 16)) (2 * (p % 16)) 2

/-- Port p passes to a core: calibration runs of its mechanisms are abandoned (R470). -/
def State.passPort (s : State) (p c : Nat) : State :=
  let s1 := s.wr .MCORE_OWN (p / 16) 0 (withBits (s.rd .MCORE_OWN (p / 16)) (2 * (p % 16)) 2 c)
  let ns := (s.cal.filter fun e => e.1 / 65536 == 0 && e.1 / 16 / 64 == p && !e.2.running.isEmpty).map fun e => e.1 / 16
  s1.forEach ns.dedup State.abandonRuns

/-- Ports follow R410; with no core RUNNING nothing is shown anew. -/
def State.followOwners (s : State) : State :=
  let moved := (List.range 64).filter fun p => match s.nextOwner p with
    | some c => s.ownerOf p != c
    | none => false
  if moved.isEmpty then s
  else (s.forEach moved fun t p => match s.nextOwner p with
    | some c => t.passPort p c
    | none => t).raise .MCORE_EVENT_OWNER

/-! ### Boot records (R462, R464) -/

/-- Write a boot record into the copy with the lower SEQ or the invalid copy. -/
def State.writeBootRec (s : State) (active prev : Nat) (trial : Bool) (tries : Nat) : State :=
  let a := tabGet s.fw.recs 0 none
  let b := tabGet s.fw.recs 1 none
  let seq := match s.bootRec with
    | some r => r.seq + 1
    | none => 0
  let k := match a, b with
    | none, _ => 0
    | some _, none => 1
    | some x, some y => if x.seq < y.seq then 0 else 1
  let r : BootRec := { seq := seq, active := active, prev := prev, trial := trial, tries := tries }
  (s.modFw fun f => { f with recs := tabPut f.recs k (some r) none }).set0 .RST_FW_STAT_TRIAL (b2n trial)

/-- Show the unit that an activation works on. -/
def State.showUpd (s : State) (phase index : Nat) : State := (s.set0 .DBG_UPD_STAT_PHASE phase).set0 .DBG_UPD_STAT_INDEX index

/-- Two restarts of cause 1 to 4 under a TRIAL record: a CONFIRMED record names PREV, and every core rolls back to it (R464). -/
def State.rollBack (s : State) : State :=
  match s.bootRec with
  | none => s
  | some r =>
    let s1 := s.writeBootRec r.prev r.active false 0
    let img := (tabGet s.fw.slots r.prev none).getD { version := 0 }
    let cmd := match s.fw.act with
      | some a => a.cmd
      | none => none
    let s2 := s1.modFw fun f => { f with
      act := some { cmd := cmd, slot := r.prev, image := img, rollback := true, todo := [3, 2, 1, 0] }, trialFrom := none, trialFaults := 0 }
    ((s2.set0 .DBG_UPD_STAT_BUSY 1).set0 .DBG_UPD_STAT_RESULT 0).showUpd 2 3

/-- A restart of cause 1 to 4 under a TRIAL record. -/
def State.trialFault (s : State) : State :=
  if ¬ s.on .RST_FW_STAT_TRIAL ∨ s.get .DRN_PSTAT_STATE = 7 then s
  else
    let s1 := s.modFw fun f => { f with trialFrom := none, trialFaults := f.trialFaults + 1 }
    if 2 ≤ s1.fw.trialFaults then s1.rollBack else s1

/-! ### Restarts (R412) -/

/-- Instants of restarts of cause 1 to 4 of a core within the last 600 s. -/
def State.recentRestarts (s : State) (c : Nat) : List Nat := (tabGet s.fw.restarts c []).filter fun t => decide (s.now < t + 600 * 1000000000)

/-- A core restarts; with RESTART_LIMIT restarts of causes 1 to 4 within 600 s it becomes HELD. -/
def State.restartCore (s : State) (c cause : Nat) : State :=
  let s1 := (((s.set .MCORE_STAT_CSTATE c 1).set .MCORE_STAT_LAST_CAUSE c cause).bump .MCORE_STAT_RESTARTS c).raise .MCORE_EVENT_RESTART
  let s2 := (s1.logEntry { cls := 2, code := 5, sev := 1, unit := c, detail0 := cause, detail1 := s1.get .MCORE_TRAP_PC_VALUE c })
  let s3 := s2.takeFree.2.traceEvent c 3 (s2.takeFree.1 % 2 ^ 32)
  let s4 :=
    if 1 ≤ cause ∧ cause ≤ 4 then
      let l := s3.recentRestarts c ++ [s3.now]
      let t := s3.modFw fun f => { f with restarts := tabPut f.restarts c l [] }
      let lim := t.get .MCORE_GCFG_RESTART_LIMIT
      let u := if lim ≠ 0 ∧ lim ≤ l.length then
          ((t.set .MCORE_STAT_CSTATE c 3).raise .MCORE_EVENT_HELD).logEntry
            { cls := 2, code := 6, sev := 3, unit := c, detail0 := c, detail1 := l.length }
        else t
      u.trialFault
    else s3
  s4.followOwners

/-- Every core runs the image of a TRIAL record: its 60 s begin (R464). -/
def State.trialStart (s : State) : State :=
  if s.on .RST_FW_STAT_TRIAL && s.runningCores == 4 && s.fw.trialFrom.isNone && (s.fw.act.isNone || decide (3 ≤ s.get .DBG_UPD_STAT_PHASE)) then
    s.modFw fun f => { f with trialFrom := some s.now }
  else s

/-- Before a core restarted with cause 2 runs again, the 4 KiB page of code that held the failing word is read anew from the active slot (R392). -/
def State.reloadPage (s : State) (c : Nat) : State := match tabGet s.memx.pages c none with
  | none => s
  | some p =>
    let here := fun (l : RimeLine) => l.line / 32 == p
    let lines := (List.range 32).map fun i => p * 32 + i
    let s1 := s.modRime fun x => { x with
      sets := x.sets.map fun e => (e.1, e.2.map fun l => if (l.map here).getD false then none else l), side := x.side.filter fun l => !here l,
      evict := x.evict.filter fun e => !here e.1,
      dram := lines.foldl (fun t l => tabPut t l (Config.codeLine s.fw.running l) 0) x.dram, bad := lines.foldl tabDel x.bad }
    (s1.showRime).modMem fun m => { m with pages := tabPut m.pages c none none }

/-- CORE_READY: a restarting core reports itself ready; its home ports pass back (R409, R410). A core under test is not. -/
def execCoreReady (c : CoreIx) (s : State) : Out :=
  if s.get .MCORE_STAT_CSTATE c != 1 || s.underBist 9 c then fin s
  else
    let s1 := (s.reloadPage c).startCore c
    let s2 := if s1.get .MCORE_CMD_CORE = c then s1.set0 .MCORE_CMD_BUSY 0 else s1
    fin (s2.followOwners.trialStart)

/-- CORE_HB_TIMEOUT: a RUNNING core has not advanced MCORE_HB for HB_MS (R411, R413). -/
def execCoreHbTimeout (c : CoreIx) (s : State) : Out :=
  if s.running c && decide (tabGet s.memx.hbAt c 0 + ms (s.get .MCORE_GCFG_HB_MS) ≤ s.now) then fin ((s.raise .MCORE_EVENT_HB_TIMEOUT).restartCore c 1) else fin s

/-- The restart cause of a fatal trap. -/
def trapCause (cause : Nat) : Nat := if cause = 1 then 2 else if cause = 2 then 3 else 4

/-- The 4 KiB page of code with the word that a fetch found uncorrectable: that of the DRAM line, else of the address fetched. -/
def failingPage (pc : Word) (ecc : Option EccHit) : Nat := match ecc with
  | some h => if 48 ≤ h.loc.val then h.line / 32 else pc.toNat / 4096
  | none => pc.toNat / 4096

/-- CORE_TRAP: recorded, traced, and on a fatal cause the core restarts (R391, R409, R412, R416). Uncorrectable fetches and loads are fatal. -/
def execCoreTrap (c : CoreIx) (cause : Fin 256) (pc addr : Word) (fatal : Bool) (ecc : Option EccHit) (s : State) : Out :=
  if !s.running c then fin s
  else
    let s0 := match ecc with
      | some h => s.recordHit h
      | none => s
    let f := fatal || cause.val == 1 || cause.val == 2
    let s1 := ((s0.set .MCORE_TRAP_CAUSE c cause).set .MCORE_TRAP_FATAL c (b2n f)).bump .MCORE_TRAP_COUNT c
    let s2 := ((s1.set .MCORE_TRAP_PC_VALUE c pc.toNat).set .MCORE_TRAP_ADDR_VALUE c addr.toNat).traceEvent c 2 pc.toNat
    if !f then fin s2
    else
      let on := s2.debugAuth && bitAt (s2.get .MCORE_TRACE_CTRL_EN) c == 1 && s2.on .MCORE_TRACE_CTRL_STOP_ON_TRAP
      let s3 := if on then s2.raise .MCORE_TRACE_PTR_FROZEN c else s2
      let s4 := if cause.val = 1 then s3.modMem fun m => { m with pages := tabPut m.pages c (some (failingPage pc ecc)) none } else s3
      fin ((s4.raise .MCORE_EVENT_FATAL_TRAP).restartCore c (trapCause cause))

/-- What R413 says of a planned restart: 0 it may start, 1 wrong state, 2 the only RUNNING core, 3 another core RESTARTING. -/
def State.planErr (s : State) (c : Nat) : Nat :=
  if !s.running c then 1
  else if s.runningCores = 1 then 2
  else if (List.range 4).any fun k => k != c && s.get .MCORE_STAT_CSTATE k == 1 then 3
  else 0

/-- CORE_PLANNED_RESTART: MCORE_CMD OP 1 (R413). -/
def execCorePlannedRestart (c : CoreIx) (s : State) : Out := regCmd s fun s =>
  if s.on .MCORE_CMD_BUSY then fin (s.set0 .MCORE_CMD_RESULT 3)
  else
    let e := s.planErr c
    let s1 := (s.set0 .MCORE_CMD_CORE c).set0 .MCORE_CMD_RESULT e
    if e ≠ 0 then fin s1 else fin ((s1.set0 .MCORE_CMD_BUSY 1).restartCore c 5)

/-- CORE_RELEASE: MCORE_CMD OP 2 (R412). -/
def execCoreRelease (c : CoreIx) (s : State) : Out := regCmd s fun s =>
  if s.on .MCORE_CMD_BUSY then fin (s.set0 .MCORE_CMD_RESULT 3)
  else
    let s1 := s.set0 .MCORE_CMD_CORE c
    if s.get .MCORE_STAT_CSTATE c ≠ 3 then fin (s1.set0 .MCORE_CMD_RESULT 1)
    else fin (((s1.set0 .MCORE_CMD_RESULT 0).set0 .MCORE_CMD_BUSY 1).restartCore c 5)

end Sys2Proof.Machine
end

