-- ==== Sys2Proof/Machine/Console.lean ====
section
/-! DEFINITION. The console and the JTAG port (spec/19_signals_and_package.md R532, R533; spec/17_dependability.md R493). -/

namespace Sys2Proof.Machine

/-! ### UART (R461, R532) -/

/-- A character on the line: start bit, 8 data bits from the least significant on, no parity, 1 stop bit. -/
def uartFrame (b : Nat) : List Bool := false :: (List.range 8).map (fun i => bitAt b i == 1) ++ [true]

/-- Send characters on UART_TX. -/
def State.uartSend (s : State) (l : List Nat) : State := if l.isEmpty then s else s.emit (.uart (l.map uartFrame))

/-- Byte k of the option block in use. -/
def State.optByte (s : State) (k : Nat) : Nat := bitsOf (s.rd .GLB_OPT (k / 4)) (8 * (k % 4)) 8

/-- FLAGS.UART_LOG of the options. -/
def State.uartLog (s : State) : Bool := bitAt (s.optByte 4) 2 == 1

/-- Boot progress: a stage, and the code of its failure or 0. -/
def State.bootProgress (s : State) (stage code : Nat) : State := if s.uartLog then s.uartSend (Config.bootText stage code) else s

/-- Characters that arrive on UART_RX: ignored unless debug access is authenticated. -/
def State.uartReceive (s : State) (l : List Nat) : State :=
  if s.debugAuth then { s with dbg := { s.dbg with console := s.dbg.console ++ l.map (· % 256) } } else s

/-! ### JTAG (R493, R533) -/

/-- The IDCODE of the device. -/
def State.idcode (s : State) : Nat := 0x0810056F + s.get .GLB_SILICON_MAJOR * 0x10000000

/-- Balls that a boundary-scan instruction can drive: the others observe only, and RSVD has no cell. -/
def scanDrives (b : Ball) : Bool := match b with
  | .other _ => true
  | .lpermit _ | .ilkDa | .ilkDb | .pwren _ | .thermTrip | .rsvd => false

/-- The instruction in force: until debug access is authenticated only IDCODE, BYPASS and boundary scan are offered; any other selects BYPASS. -/
def State.jtagInstr (s : State) (i : JtagInstr) : JtagInstr := if i = .other ∧ s.debugAuth = false then .bypass else i

/-- Bits that the register of an instruction captures. -/
def State.jtagCapture (s : State) (i : JtagInstr) : List Bool × State := match i with
  | .idcode => ((List.range 32).map fun k => bitAt s.idcode k == 1, s)
  | .bypass => ([false], s)
  | .sample | .extest | .other => ((List.range Config.scanLength).map fun k => bitAt s.takeFree.1 k == 1, s.takeFree.2)

/-- One scan: what was captured leaves on TDO, then what came in on TDI; EXTEST drives the balls whose cells can. -/
def State.jtagScan (s : State) (x : JtagScan) : State :=
  let i := s.jtagInstr x.instr
  let (c, s1) := s.jtagCapture i
  let s2 := s1.emit (.tdo ((c ++ x.tdi).take x.tdi.length))
  { s2 with dbg := { s2.dbg with driven := if i = .extest then x.drive.filter fun e => scanDrives e.1 else [] } }

/-- The console and the JTAG port in a Drone tick. What arrives there, and what the firmware prints, is free (notes/assumptions/106.md). -/
def State.pinTick (s : State) : State :=
  let p := Config.pins s.free
  let s1 := ((({ s with free := s.free + 1 }).uartSend p.console).uartReceive p.uartRx).forEach p.scans State.jtagScan
  if p.tapReset then { s1 with dbg := { s1.dbg with driven := [] } } else s1

end Sys2Proof.Machine
end

