-- ==== Sys2Proof/Machine/RegFile.lean ====
section
/-! DEFINITION. The register file as an address space: which register an address names, and what a read of it returns, the effects of
the read apart (spec/00_scope.md R8 to R10; spec/21_register_index.md R554 to R558). -/

namespace Sys2Proof.Machine

/-- Every register of the setup window and of the functions' BAR0. -/
def allRegs : List RegEntry :=
  regTableGLB ++ regTableDRN ++ regTableRST ++ regTablePEN ++ regTableMECH ++ regTableCIRQ ++ regTableFIRN ++ regTableMOR ++ regTableFLOE ++
  regTableBRTH ++ regTableHQP ++ regTableMEM ++ regTableMCORE ++ regTableSAFE ++ regTableDBG ++ regTableFN

/-- The register at an address, with its indices; none for a reserved offset. -/
def findReg (a : Nat) : Option (RegEntry × Nat × Nat) :=
  allRegs.findSome? fun e => (e.reg.index a).map fun ij => (e, ij)

/-- The address lies in the setup window. -/
def inSetup (a : Nat) : Bool := decide (a < 0x1000000)
/-- The address lies in the BAR0 of a function; BAR0 of function FN stands at 0x100_0000 + FN * 0x1_0000. -/
def inBar0 (a : Nat) : Bool := decide (0x1000000 ≤ a) && decide (a < 0x2000000)
/-- The address lies in the BAR2 of a function; BAR2 of function FN stands at 0x200_0000 + FN * 0x1_0000. -/
def inBar2 (a : Nat) : Bool := decide (0x2000000 ≤ a) && decide (a < 0x3000000)

/-- The function whose BAR0 or BAR2 holds the address. -/
def fnAt (a : Nat) : Nat := a / 0x10000 % 256

/-- Register (i, j) is r at address a. -/
def isReg (e : RegEntry) (r : Reg) : Bool := e.reg.base == r.base

/-- Dword k of a trace record as it lies in the buffer (R416). -/
def traceDword (r : TraceRec) (k : Nat) : Nat :=
  match k with
  | 0 => r.type % 256 + at_ 8 (r.core % 256) + at_ 16 (r.icnt % 65536)
  | 1 => r.pc
  | 2 => r.time
  | _ => r.time / 2 ^ 32

/-- MCORE_TRACE_DATA[i]. -/
def State.viewTrace (s : State) (i : Nat) : Nat :=
  if !s.debugAuth then 0
  else match tabGet (tabGet s.memx.trace (s.get .MCORE_TRACE_PAGE_CORE) []) (s.get .MCORE_TRACE_PAGE_PAGE * 256 + i / 4) none with
    | some r => traceDword r (i % 4)
    | none => 0

/-- The upper half of device time that a HI register returns: the half that the last LO read latched, else the present one (R342, R424). -/
def State.timeHi (s : State) (l : Option Nat) : Nat := l.getD (s.now / 2 ^ 32)

/-- The dword of register e (i, j) before its write-only fields are taken out. -/
def State.rawAt (s : State) (e : RegEntry) (i j : Nat) : Word :=
  if isReg e .DRN_TIME_LO || isReg e .FN_TIME_LO then BitVec.ofNat 32 s.now
  else if isReg e .DRN_TIME_HI then BitVec.ofNat 32 (s.timeHi s.time.drnHi)
  else if isReg e .FN_TIME_HI then BitVec.ofNat 32 (s.timeHi (tabGet s.time.fnHi i none))
  else if isReg e .MCORE_TRACE_DATA then BitVec.ofNat 32 (s.viewTrace i)
  else s.look e.reg i j

/-- A dword with the write-only fields of its register read as 0 (R10). -/
def maskWo (e : RegEntry) (w : Word) : Word :=
  e.flds.foldl (fun w f => if f.acc = .wo then withBits w f.lo f.width 0 else w) w

/-- The dword that a read of address a of the setup window or a BAR0 returns, without the effects of the read; a reserved offset reads 0
(R9, R555). -/
def State.readAt (s : State) (a : Nat) : Word :=
  match findReg a with
  | some (e, i, j) => maskWo e (s.rawAt e i j)
  | none => 0

/-- A dword of BAR2: the MSI-X table and the Pending Bit Array (R560). -/
def State.readBar2 (s : State) (a : Nat) : Word := BitVec.ofNat 32 (s.msixRd (fnAt a) (a % 0x10000))

end Sys2Proof.Machine
end

