-- ==== Sys2Proof/Machine/Sideband.lean ====
section
/-! DEFINITION. The SMBus sideband: MCTP control messages and the four vendor-defined commands, none of which writes a register
(spec/19_signals_and_package.md R530, R539; spec/21_register_index.md R556, R557). An answer is the command code and the response bytes. -/

namespace Sys2Proof.Machine

def State.pst (s : State) : Nat := s.get .DRN_PSTAT_STATE

/-- The core domain is powered. -/
def State.coreOn (s : State) : Bool := s.pst != 6 && s.pst != 8 && s.pst != 9 && s.pst != 10

/-- The register at an address of the setup window lies in the Drone domain: DRN, RST, SAFE, and DBG from 0x003F_8000 on. -/
def droneServed (a : Nat) : Bool :=
  (decide (0x10000 ≤ a) && decide (a < 0x30000)) || (decide (0x3E0000 ≤ a) && decide (a < 0x3F0000)) ||
  (decide (0x3F8000 ≤ a) && decide (a < 0x400000))

/-- The status answer: five registers, 4 bytes each. -/
def State.mctpStatusBytes (s : State) : List Nat :=
  ([.DRN_PSTAT, .DRN_THERM_STAT, .DBG_EVT_SUM, .SAFE_STAT, .SAFE_ZONE] : List Reg).flatMap fun r => leBytes 4 (s.look r).toNat

/-- The answer to a register read: a completion code, and the dword where it is 0. -/
def State.mctpReadBytes (s : State) (a : Nat) : List Nat :=
  if a % 4 ≠ 0 ∨ 0x1000000 ≤ a then [1]
  else if s.coreOn = false ∧ droneServed a = false then [2]
  else 0 :: leBytes 4 (s.readAt a).toNat

/-- The answer to a telemetry request. -/
def State.mctpTelemetryBytes (s : State) (n : Nat) : List Nat :=
  if 4096 ≤ n then [1] else if s.coreOn = false then [2] else 0 :: s.mechTelemetry n

/-- The answer to a request for log entries: those of SEQ to SEQ + count - 1 that the log holds. -/
def State.mctpLogBytes (s : State) (seq count : Nat) : List Nat :=
  if count = 0 ∨ 4 < count then [1]
  else if s.coreOn = false then [2]
  else 0 :: (List.range count).flatMap fun k =>
    (s.log.entries.filter fun (e : Nat × LogEntry) => e.2.seq == (seq + k) % 2 ^ 32).flatMap fun (e : Nat × LogEntry) => logEntryBytes e.2

/-- Answer one request. A control message is answered as DSP0236 defines; Set Endpoint ID (control command 1, operations 0 and 1) takes effect. -/
def State.mctpAnswer (s : State) (r : MctpReq) : State :=
  match r with
  | .control q =>
    let s1 := s.emit (.mctp (Config.mctpAnswer s.pwr.eid q))
    if q.getD 1 0 = 1 ∧ q.getD 2 0 % 4 ≤ 1 then s1.modPwr fun p => { p with eid := q.getD 3 0 % 256 } else s1
  | .status => s.emit (.mctp (1 :: s.mctpStatusBytes))
  | .readRegister a => s.emit (.mctp (2 :: s.mctpReadBytes a))
  | .telemetry n => s.emit (.mctp (3 :: s.mctpTelemetryBytes n))
  | .logEntries q n => s.emit (.mctp (4 :: s.mctpLogBytes q n))

/-- A request is held until a boot or a resume is complete. -/
def State.mctpHold (s : State) (r : MctpReq) : State := s.modPwr fun p => { p with mctp := p.mctp ++ [r] }

/-- The requests held are answered. -/
def State.mctpRelease (s : State) : State :=
  (s.modPwr fun p => { p with mctp := [] }).forEach s.pwr.mctp State.mctpAnswer

end Sys2Proof.Machine
end

