-- ==== Sys2Proof/Machine/Reset.lean ====
section
/-! DEFINITION. Reset sources, the reset gap, options in OTP, the boot sequence and block resets (spec/16_reset_and_boot.md R448 to R466). -/

namespace Sys2Proof.Machine

/-! ### The reset of the core domain (R29, R30, R448 to R455, R494, R499, R508) -/

/-- The register at an address lies in the Drone domain, or holds the options and what manufacture gave: GLB, DRN, RST, SAFE, and DBG from
0x003F_8000 on. -/
def droneReg (a : Nat) : Bool :=
  decide (a < 0x30000) || (decide (0x3E0000 ≤ a) && decide (a < 0x3F0000)) || (decide (0x3F8000 ≤ a) && decide (a < 0x400000))

/-- Every zone is disarmed and every permit low. -/
def State.permitsOff (s : State) : State := ((s.permitsLow).set0 .SAFE_ZONE_ARMED 0).modIlk fun k => { k with rearm := 0 }

/-- What a reset of the core domain discards: every core-domain register and everything in SRAM and DRAM (R451). Flash, OTP, device time, the
isolation records and the Drone domain stay. An activation that it cuts shows RESULT 3. -/
def State.clearCore (s : State) : State :=
  let cut := s.fw.act.isSome
  let s1 : State :=
    { pending := s.pending, regs := s.regs.filter fun e => droneReg e.1, time := { s.time with fnHi := [] }, isol := s.isol,
      fw := { slots := s.fw.slots, recs := s.fw.recs, running := s.fw.running }, ilk := s.ilk, pwr := s.pwr, out := s.out, free := s.free }
  let s2 := if cut then (s1.set0 .DBG_UPD_STAT_RESULT 3).raise .DBG_UPD_STAT_DONE else s1
  ((((s2.set0 .DRN_PCTRL_BUSY 0).set0 .DRN_CLK_STAT_CORE_LOCK 0).set0 .DRN_CLK_STAT_DDR_LOCK 0).set0 .DRN_CLK_STAT_PEN_PLLS 0).modPwr fun p =>
    { p with up := none, resume := false, keep := false, hot := 0, clkHold := false, bootStop := false, wakeDue := 0, idleAt := none, noCoreAt := none,
             drainAt := none, ratioAt := none }

/-- The prelude of R453: the safe set with its present STOP_MODE to every servo-active mechanism. -/
def State.prelude (s : State) : State :=
  s.forEach ((s.mechKeys).filter fun n => servoActive (s.mst n)) fun t n => t.emit (.safeSet n (t.stopMode n))

/-- The core-domain reset is asserted: permits low, the core domain cleared, stage 0 of BOOT. -/
def State.assertReset (s : State) : State := (s.permitsOff.clearCore.set0 .DRN_PSTAT_STATE 0).set0 .RST_STAT_STAGE 0

/-- The core-domain reset is released: GLB_CAUSE takes RST_CAUSE, stage CORE begins, and the supervisor watches the boot (R452, R458, R471). -/
def State.releaseReset (s : State) : State :=
  ((s.wr .GLB_CAUSE 0 0 (s.rd .RST_CAUSE)).set0 .RST_STAT_STAGE 4).modPwr fun p => { p with releasedAt := s.now }

/-- The Drone sequencer begins to wait. -/
def State.await (s : State) (q : DroneSeq) : State := s.modPwr fun p => { p with seq := some (q, s.now) }

/-- The wait of the Drone sequencer is over. -/
def State.endAwait (s : State) : State := s.modPwr fun p => { p with seq := none }

/-- The sequencer switches supplies, or a cold reset runs: a warm source has nothing left to reset. -/
def State.sequencing (s : State) : Bool := match s.pwr.seq with
  | none | some (.warm, _) => false
  | some _ => true

/-- A warm source can act: the core domain runs or boots, and the boot has not stopped (R461, R466). -/
def State.warmOk (s : State) : Bool :=
  let st := s.get .DRN_PSTAT_STATE
  !s.pwr.bootStop && !s.pwr.clkHold && !s.sequencing && st != 6 && st != 8 && st != 9 && st != 10 &&
  (s.get .RST_STAT_STAGE == 0 || decide (4 ≤ s.get .RST_STAT_STAGE))

/-- A warm reset with the prelude (R449, R453); `q` is how long the reset is held. -/
def State.warmHeld (s : State) (cause : Fld) (q : DroneSeq) : State := ((s.raise cause).prelude.assertReset).await q

/-- A warm reset, held for 200 us (R449). -/
def State.warmReset (s : State) (cause : Fld) : State := s.warmHeld cause .warm

/-- The supplies are off and every group is to come up (R434); under board sequencing the device waits for the power-good inputs (R435, R449). -/
def State.beginPower (s : State) : State :=
  let s1 := (s.set0 .RST_STAT_STAGE 3).endAwait
  if s.on .DRN_PWR_CFG_SEQ_MODE then
    if s.get .DRN_PWR_STAT_PG = 0x3F then s1.await .good else s1
  else (s1.set0 .DRN_PWR_STAT_EN (Nat.lor (s.get .DRN_PWR_STAT_EN) 1)).modPwr fun p => { p with up := some 0, upAt := s.now }

/-- The core domain is powered up once REFCLK_SYS is good (R420). -/
def State.powerUp (s : State) : State := if s.on .DRN_CLK_STAT_REF_OK then s.beginPower else s.set0 .RST_STAT_STAGE 2

/-- Every enabled group is switched off at once (R444). -/
def State.suppliesOff (s : State) : State :=
  if s.on .DRN_PWR_CFG_SEQ_MODE then s else (s.set0 .DRN_PWR_STAT_EN 0).set0 .DRN_PWR_STAT_PG 0

/-- A group is switched off. -/
def State.dropGroup (s : State) (g : Nat) : State :=
  let off := fun (v : Nat) => Nat.land v (0x3F - 2 ^ g)
  (s.set0 .DRN_PWR_STAT_EN (off (s.get .DRN_PWR_STAT_EN))).set0 .DRN_PWR_STAT_PG (off (s.get .DRN_PWR_STAT_PG))

/-- The highest enabled group that a sequence switches off; HIBERNATE with KEEP_DRAM leaves group 5 (R434). -/
def State.topGroup (s : State) (g : OffGoal) : Option Nat :=
  let kept := g == .hibernate && s.on .DRN_PWR_CFG_KEEP_DRAM
  ((List.range 6).reverse).find? fun k => bitAt (s.get .DRN_PWR_STAT_EN) k == 1 && !(k == 5 && kept)

/-- The enabled groups are switched off in decreasing order, STEP_US apart, before `g` (R434). Under board sequencing none is (R435). -/
def State.beginOff (s : State) (g : OffGoal) : State :=
  let t := s.await (.off g)
  if s.on .DRN_PWR_CFG_SEQ_MODE then t
  else match s.topGroup g with
    | some k => t.dropGroup k
    | none => t

/-- The supplies of a cold reset: off, held off for 100 ms and up again; under board sequencing the reset is held until every power-good input has
been high for 10 ms (R449). -/
def State.coldSupplies (s : State) : State := if s.on .DRN_PWR_CFG_SEQ_MODE then s.beginPower else s.beginOff .cycle

/-- A cold reset (R449). -/
def State.coldReset (s : State) : State := s.assertReset.coldSupplies

/-! ### Sources -/

/-- GPIO and fan registers before the option loader has run (R454, R528). -/
def State.pinsToReset (s : State) : State :=
  let gpio := fun (a : Nat) => decide (0x10604 ≤ a ∧ a ≤ 0x10628)
  let s1 := { s with regs := s.regs.filter fun e => !gpio e.1 }
  (s1.forEach (List.range 8) fun t k => t.set .DRN_FAN_STAT_DUTY k 255).modPwr fun p => { p with fanSet := false }

/-- POWER_ON_RESET: the whole device, the Drone domain included; flash and OTP stay, and what manufacture gave (R448, R452, R542). -/
def execPowerOnReset (s : State) : Out :=
  let s1 : State :=
    { pending := s.pending, regs := s.regs.filter fun e => decide (e.1 < 0x10), fw := { slots := s.fw.slots, recs := s.fw.recs },
      pwr := { otp := s.pwr.otp }, out := s.out, free := s.free }
  fin (s1.set0 .RST_STAT_STAGE 1)

/-- The pin source (R450): the core domain cold and the Drone state machines; holds and 24-hour counts end, the option loader runs again. -/
def State.pinReset (s : State) (cause : Fld) : State :=
  let s1 := (((s.raise cause).assertReset).endAwait).pinsToReset
  let s2 := s1.modPwr fun p => { p with tries := 0, retry := false, shutdowns := [], trips := [], limit := false, mctp := [] }
  (if s.on .DRN_PWR_CFG_SEQ_MODE then s2 else s2.beginOff .cycle).set0 .RST_STAT_STAGE 1

/-- PIN_RESET. -/
def execPinReset (s : State) : Out := fin (s.pinReset .RST_CAUSE_PIN)

/-- BROWN_OUT_RESET: the power-good input of group g falls while the group is enabled (R434); under board sequencing, any input. -/
def execBrownOutReset (g : Fin 6) (s : State) : Out :=
  let pg := s.get .DRN_PWR_STAT_PG
  let s1 := if bitAt pg g = 1 then s.set0 .DRN_PWR_STAT_PG (pg - 2 ^ g.val) else s
  let st := s.get .DRN_PSTAT_STATE
  let off := st == 8 || st == 9 || st == 10
  if bitAt pg g = 0 ∨ off ∨ (¬ s.on .DRN_PWR_CFG_SEQ_MODE ∧ bitAt (s.get .DRN_PWR_STAT_EN) g = 0) then fin s1
  else
    let s2 := s1.raise .RST_CAUSE_BOR
    fin ((if st = 7 then s2.raise .RST_CAUSE_THERMAL else s2).coldReset)

/-- SOFT_WARM_RESET: RST_CTRL OP 1 (R448); another key is ignored. -/
def execSoftWarmReset (key : Fin 65536) (s : State) : Out := regCmd s fun s =>
  if key.val = 0x5253 && s.warmOk then fin (s.warmReset .RST_CAUSE_SOFT) else fin s

/-- SOFT_PIN_RESET: RST_CTRL OP 2 acts as the pin source and records SOFT. -/
def execSoftPinReset (key : Fin 65536) (s : State) : Out := regCmd s fun s =>
  if key.val = 0x5253 then fin (s.pinReset .RST_CAUSE_SOFT) else fin s

/-- DEBUG_RESET: only while debug is authenticated (R448, R493). -/
def execDebugReset (s : State) : Out := if s.debugAuth && s.warmOk then fin (s.warmReset .RST_CAUSE_DEBUG) else fin s

/-- LOCKUP_RESET: no core has been RUNNING for 1 s, or the fabric has made no progress for 10 ms (`hang`; R448, R469). -/
def execLockupReset (hang : Bool) (s : State) : Out :=
  let dead := match s.pwr.noCoreAt with
    | some t => decide (t + ms 1000 ≤ s.now)
    | none => false
  if s.warmOk && (hang || dead) then fin (s.warmReset .RST_CAUSE_LOCKUP) else fin s

/-! ### Options in OTP (R456, R457) -/

/-- The bytes of an OTP option slot; slot 0 is written at manufacture with the block of zeros. -/
def defaultBlock : List Nat :=
  let b := leBytes 2 0x4F50 ++ [1] ++ zeros 121
  b ++ leBytes 4 (crc32c b)

def State.otpSlot (s : State) (k : Nat) : List Nat := tabGet s.pwr.otp k (if k = 0 then defaultBlock else zeros 128)

/-- A block is valid: MAGIC, VERSION and CRC. -/
def blockValid (b : List Nat) : Bool :=
  b.length == 128 && leAt b 0 2 == 0x4F50 && leAt b 2 1 == 1 && leAt b 0x7C 4 == crc32c (b.take 0x7C)

def blockBlank (b : List Nat) : Bool := b.all fun x => x == 0

/-- The block that the option loader takes: the first valid slot from 15 down to 0, else zeros. -/
def State.loadedBlock (s : State) : Option (List Nat) := (((List.range 16).reverse).map s.otpSlot).find? blockValid

/-- The duty of a fan output's reset state. -/
def fanRst (c : Nat) : Nat := if c = 1 then 128 else if c = 2 then 0 else 255

/-- A mask of the GPIOs whose GPIO_RST code satisfies p. -/
def gpioMask (codes : Nat) (p : Nat → Bool) : Nat := bitList ((List.range 32).map fun g => p (codes / 4 ^ g % 4))

/-- The option loader: GLB_OPT, GLB_OPT_STAT, SEQ_MODE, the fuse map of GPIOs and fans (R456, R528, R537). -/
def State.loadOptions (s : State) : State :=
  let slots := (List.range 16).map s.otpSlot
  let valid := bitList (slots.map blockValid)
  let blank := (slots.filter blockBlank).length
  let b := s.loadedBlock.getD (zeros 128)
  let s1 := s.forEach (List.range 32) fun t i => t.wr .GLB_OPT i 0 (BitVec.ofNat 32 (leAt b (4 * i) 4))
  let s2 := ((s1.set0 .GLB_OPT_STAT_VALID valid).set0 .GLB_OPT_STAT_DEFAULT (b2n s.loadedBlock.isNone)).set0 .GLB_OPT_STAT_BLANK blank
  let seq := bitAt (leAt b 4 1) 0
  let s3 := (s2.set0 .DRN_PWR_CFG_SEQ_MODE seq)
  let s4 := if seq = 1 then s3.set0 .DRN_PWR_STAT_EN 0x3F else s3
  let codes := leAt b 0x18 8
  let pull := fun (k : Nat) => (List.range 16).foldl (fun a i => a + (if codes / 4 ^ (16 * k + i) % 4 = 3 then 2 else 0) * 4 ^ i) 0
  let s5 := ((s4.set0 .DRN_GPIO_OE_GPIO (gpioMask codes fun c => c == 1 || c == 2)).set0 .DRN_GPIO_OUT_GPIO (gpioMask codes fun c => c == 2))
  let s6 := (s5.set0 .DRN_GPIO_PULL_LO_PULL (pull 0)).set0 .DRN_GPIO_PULL_HI_PULL (pull 1)
  let oe := s6.get .DRN_GPIO_OE_GPIO
  let s7 := s6.set0 .DRN_GPIO_IN_GPIO (Nat.lor (Nat.land (s6.get .DRN_GPIO_IN_GPIO) (0xFFFFFFFF - oe)) (Nat.land (s6.get .DRN_GPIO_OUT_GPIO) oe))
  s7.forEach (List.range 8) fun t k => t.set .DRN_FAN_STAT_DUTY k (fanRst (leAt b 0x20 2 / 4 ^ k % 4))

/-- The staged block. -/
def State.stagedBlock (s : State) : List Nat := (List.range 32).flatMap fun i => leBytes 4 (s.rd .RST_OPT_STAGE i).toNat

/-- OPTION_PROGRAM: RST_OPT_CMD OP 1 (R457). A slot whose program does not read back as written holds bytes that nothing states. -/
def execOptionProgram (ok : Bool) (s : State) : Out := regCmd s fun s =>
  let b := s.stagedBlock
  if s.on .RST_OPT_CMD_BUSY || s.get .DRN_PSTAT_STATE == 7 then fin s
  else if blockValid b = false then fin (s.set0 .RST_OPT_CMD_RESULT 1)
  else match (List.range 16).find? fun k => blockBlank (s.otpSlot k) with
    | none => fin (s.set0 .RST_OPT_CMD_RESULT 2)
    | some k =>
      if ok then fin ((s.modPwr fun p => { p with otp := tabPut p.otp k b [] }).set0 .RST_OPT_CMD_RESULT 0)
      else fin ((s.takeFree.2.modPwr fun p => { p with otp := tabPut p.otp k (leBytes 128 s.takeFree.1) [] }).set0 .RST_OPT_CMD_RESULT 3)

/-- OPTION_READ: RST_OPT_CMD OP 2; a slot neither valid nor blank is a bad one. -/
def execOptionRead (slot : Fin 16) (s : State) : Out := regCmd s fun s =>
  if s.on .RST_OPT_CMD_BUSY then fin s
  else
    let b := s.otpSlot slot
    let s1 := s.set0 .RST_OPT_CMD_SLOT slot
    if blockValid b || blockBlank b then
      fin ((s1.forEach (List.range 32) fun t i => t.wr .RST_OPT_STAGE i 0 (BitVec.ofNat 32 (leAt b (4 * i) 4))).set0 .RST_OPT_CMD_RESULT 0)
    else fin (s1.set0 .RST_OPT_CMD_RESULT 4)

/-! ### The boot sequence (R458 to R462) -/

/-- A host port in electrical idle. -/
def State.portIdleLink (s : State) (p : Nat) : State := s.forEach [Fld.HQP_PORT_UP, .HQP_PORT_WIDTH, .HQP_PORT_RATE, .HQP_PORT_L1] fun t f => t.set f p 0

/-- A stage fails: the boot stops, and every host port goes to electrical idle (R461). -/
def State.stopBoot (s : State) (code : Nat) : State :=
  let s1 := ((s.set0 .RST_STAT_FAIL_STAGE (s.get .RST_STAT_STAGE)).set0 .RST_STAT_FAIL_CODE code).modPwr fun p => { p with bootStop := true }
  (s1.forEach (List.range 4) State.portIdleLink).bootProgress (s.get .RST_STAT_STAGE) code

def State.minFw (s : State) : Nat := s.get .GLB_OPT_DWORD 4

/-- The image of a slot may run: its signature verifies and its version is no lower than MIN_FW. -/
def State.slotGood (s : State) (k : Nat) : Bool := match tabGet s.fw.slots k none with
  | some i => i.signed && decide (s.minFw ≤ i.version)
  | none => false

/-- Stage ROM chooses the slot (R462). The version of the recovery image is not stated: a free value. -/
def State.bootRom (s : State) : State :=
  let r := s.bootRec.getD {}
  let p : State × Nat :=
    if r.trial ∧ r.tries = 2 then (s.writeBootRec r.prev r.active false 0, r.prev)
    else if r.trial then (s.writeBootRec r.active r.prev true (r.tries + 1), r.active)
    else (s.set0 .RST_FW_STAT_TRIAL 0, r.active)
  let t := p.1
  let boot := fun (u : State) (k : Nat) => (u.set0 .RST_FW_STAT_BOOTED k).modFw fun f => { f with running := u.slotVersion k }
  if t.slotGood p.2 then boot (t.set0 .RST_FW_STAT_FALLBACK 0) p.2
  else if t.slotGood (1 - p.2) then boot (t.set0 .RST_FW_STAT_FALLBACK 1) (1 - p.2)
  else
    let u := (t.takeFree.2.set0 .RST_FW_STAT_FALLBACK 1).set0 .RST_FW_STAT_BOOTED 2
    u.modFw fun f => { f with running := t.takeFree.1 % 2 ^ 32 }

/-- Population check and training of stage DRAM (R396, R401): FAIL_CODE 3 or 4, or the populated channels with their delays in force. -/
def State.bootDram (s : State) (x : BootInfo) : State :=
  let pop := (x.present.val == 0xFF || x.present.val == 0x55) && (x.gib.val == 16 || x.gib.val == 32 || x.gib.val == 64) && decide (x.rate.val ≤ 4)
  if pop = false ∨ x.fail.val = 3 then s.stopBoot 3
  else if x.fail.val = 4 then s.stopBoot 4
  else
    let s1 := (((s.set0 .MEM_DDR_STAT_PRESENT x.present).set0 .MEM_DDR_STAT_RATE x.rate).set0 .MEM_DDR_STAT_DIMM_GIB x.gib).set0 .DRN_CLK_STAT_DDR_LOCK 1
    let s2 := s1.forEach x.delays fun t e => t.forEach (List.range 10) fun u l => u.wr .MEM_DDR_DLY e.1 l (e.2.getD l 0)
    let s3 := s2.forEach ((List.range 8).filter fun ch => bitAt x.present ch == 1) State.applyDelays
    s3.set0 .RST_STAT_STAGE 8

/-- A block has failed a self-test: shown, counted and logged (R482, DBG_BIST_STAT); kind 1 logic, 2 memory. -/
def State.selfTestFailed (s : State) (cls index kind : Nat) : State :=
  let s1 := (((s.raise .DBG_BIST_STAT_FAIL_NEW).set0 .DBG_BIST_STAT_KIND kind).set0 .DBG_BIST_STAT_CLASS cls).set0 .DBG_BIST_STAT_INDEX index
  (s1.bump (if kind = 2 then .DBG_BIST_FAILS_MEMORY else .DBG_BIST_FAILS_LOGIC)).logEntry
    { cls := 0x0D, code := 1, sev := 3, unit := index, detail0 := cls * 2 ^ 24 + index, detail1 := kind }

/-- The matrices that an image ships are loaded (R255). -/
def State.loadShipped (s : State) : State := match s.runningImage with
  | none => s
  | some i => s.forEach (i.matrices.filter matrixOk) fun t b => match t.matrixPlace (leAt b 4 2) with
    | some k => t.loadMatrix k b
    | none => t

/-- Clusters, lanes and decoders are loaded with the programs of the image booted; the recovery image's program versions are not stated. -/
def State.loadPrograms (s : State) : State :=
  let one := fun (t : State) (f : Fld) (i : Nat) (v : FwImage → Nat) => if s.runningImage.isSome then t.loadProgram f i v else t.setFree f i
  let s1 := s.forEach (List.range 17) fun t c => one t .CIRQ_UCODE_VERSION c (·.ucode)
  let s2 := s1.forEach (List.range 272) fun t f => one t .FIRN_PROG_VERSION f (·.laneProg)
  s2.forEach (List.range 32) fun t d => one t .MOR_PROG_VERSION d (·.decProg)

/-- Stage ENGINES: programs and matrices loaded, every block tested; those that fail are OUT_OF_SERVICE, and too few in service stop the boot. -/
def State.bootEngines (s : State) (x : BootInfo) : State :=
  let cl := (x.clusters.filter fun c => decide (c < 17)).dedup
  let la := (x.lanes.filter fun f => decide (f < 272)).dedup
  let de := (x.decoders.filter fun d => decide (d < 32)).dedup
  let s1 := (s.loadPrograms).forEach cl fun t c => ((t.set .CIRQ_STATUS_ROLE c 4).set .CIRQ_STATUS_LAST_TEST c 2).selfTestFailed 1 c 1
  let s2 := s1.forEach la fun t f => ((t.set .FIRN_STATUS_LSTATE f 5).set .FIRN_STATUS_LAST_TEST f 2).selfTestFailed 2 f 1
  let s3 := s2.forEach de fun t d => (t.set .MOR_DEC_DSTATE d 7).selfTestFailed 3 d 1
  if 1 < cl.length ∨ 15 < la.length ∨ 31 < de.length then s3.stopBoot 6
  else ((s3.loadShipped).forEach (List.range 4) State.startCore).set0 .RST_STAT_STAGE 10

/-- A resume from HIBERNATE is shown, and owed to every function at its next enable (R474). -/
def State.oweResume (s : State) : State :=
  (((s.raise .DRN_EVENT_HIB_WAKE).forEach (List.range 256) fun t fn => t.modFn fn fun f => { f with owes3 := true }).modPwr fun p =>
    { p with resume := false })

/-- A crash record of the last supervisor action is logged (R472). -/
def State.logCrash (s : State) : State :=
  if s.pwr.crashDue then
    (s.logEntry { cls := 0x0C, code := 2, sev := 3, detail0 := s.get .DBG_CRASH_DWORD 2, detail1 := s.get .DBG_CRASH_DWORD 15 }).modPwr
      fun p => { p with crashDue := false }
  else s

/-- The options name a PF as steward, with token 0 (R324). -/
def State.optionSteward (s : State) : State :=
  let sw := s.optByte 3
  if 1 ≤ sw ∧ sw ≤ 4 then s.becomeSteward (64 * (sw - 1)) 0 1 else s

/-- The port is to train after a boot; the recovery image enables no port (R462). -/
def State.bootsPort (s : State) (p : Nat) : Bool := s.get .RST_FW_STAT_BOOTED != 2 && bitAt (s.optByte (8 + p / 8)) (p % 8) == 0

/-- A port is enabled and trains. -/
def State.enablePort (s : State) (p : Nat) : State := (s.set .PEN_CFG_EN p 1).startTraining p

/-- ACTIVE is entered: the supervisor's limit and the period of the periodic tests begin (R471, R486). -/
def State.becomeActive (s : State) : State :=
  (((s.set0 .RST_STAT_STAGE 11).set0 .DRN_PSTAT_STATE 1).modPwr fun p => { p with kickAt := s.now }).modDbg fun d => { d with roundAt := s.now }

/-- Power-state ACTIVE, the first configured state (R459): the steward of the options, every enabled port in training. RST_BOOT_MS takes the time since
the reset was released, in whole ms. -/
def State.bootDone (s : State) : State :=
  let s1 := (s.becomeActive.set0 .RST_BOOT_MS_MS (min ((s.now - s.pwr.releasedAt) / 1000000) 65535)).logCrash.optionSteward
  let s2 := (s1.forEach (List.range 4) State.beat).forEach ((List.range 64).filter s1.bootsPort) State.enablePort
  ((if s2.pwr.resume then s2.oweResume else s2).trialStart).mctpRelease

/-- A resume with DRAM kept is complete: cores run, the saved delays are in force, every enabled port trains, mechanisms keep their states (R431,
R432). -/
def State.resumeDone (s : State) : State :=
  let s1 := s.becomeActive.set0 .DRN_CLK_STAT_DDR_LOCK 1
  let s2 := s1.forEach (List.range 4) fun t c => (t.startCore c).set .MCORE_STAT_LAST_CAUSE c 7
  let s3 := (s2.set0 .MEM_DDR_STAT_IN_SR 0).forEach ((List.range 8).filter fun ch => bitAt (s.get .MEM_DDR_STAT_PRESENT) ch == 1) State.applyDelays
  let s4 := s3.forEach ((List.range 64).filter fun p => s.on .PEN_CFG_EN p) State.startTraining
  (s4.oweResume.modPwr fun p => { p with keep := false }).mctpRelease.followPermits

/-- The stage that runs ends, with what it found (R458). Stage POWER ends with POWER_GOOD_RISE. -/
def State.bootStage (s : State) (x : BootInfo) : State :=
  match s.get .RST_STAT_STAGE with
  | 0 => if s.pwr.seq.isSome then s else s.set0 .RST_STAT_STAGE 1
  | 1 =>
    if s.pwr.testen then s
    else
      let t := s.loadOptions.modPwr fun p => { p with smbAddr := x.smbAddr.val, testen := x.testen }
      if x.testen then t else t.set0 .RST_STAT_STAGE 2
  | 2 => if s.pwr.seq.isSome then s else (s.set0 .DRN_CLK_STAT_REF_OK 1).beginPower
  | 4 => (s.set0 .DRN_CLK_STAT_CORE_LOCK 1).set0 .RST_STAT_STAGE 5
  | 5 =>
    let t := s.set0 .MEM_SRAM_STAT_TEST_DONE 1
    if x.fail.val = 1 then ((t.set0 .MEM_SRAM_STAT_TEST_FAIL 1).set0 .MEM_SRAM_STAT_FAIL_LOC x.loc).stopBoot 1
    else if x.fail.val = 2 then t.stopBoot 2
    else if s.pwr.resume ∧ s.pwr.keep then t.resumeDone
    else t.set0 .RST_STAT_STAGE 6
  | 6 => s.bootRom.set0 .RST_STAT_STAGE 7
  | 7 => s.bootDram x
  | 8 => if x.fail.val = 5 then s.stopBoot 5 else s.set0 .RST_STAT_STAGE 9
  | 9 => s.bootEngines x
  | 10 => s.bootDone
  | _ => s

/-- BOOT_STAGE_DONE. A boot that has stopped stays so, and with TESTEN sampled high the device stays in stage OPTIONS (R535). From stage ROM on, each
stage that begins is shown on the console (R532). -/
def execBootStageDone (x : BootInfo) (s : State) : Out :=
  if s.pwr.bootStop ∨ s.pwr.clkHold ∨ s.get .DRN_PSTAT_STATE ≠ 0 then fin s
  else
    let t := s.bootStage x
    let k := t.get .RST_STAT_STAGE
    fin (if 6 ≤ k ∧ k ≠ s.get .RST_STAT_STAGE then t.bootProgress k 0 else t)

/-! ### Block resets (R465) -/

/-- Registers of a block return to their reset values. -/
def State.clearRegs (s : State) (rs : List Reg) (i : Nat) : State := s.forEach rs fun t r => t.wr r i 0 (r.reset i 0)

/-- The generator and capture registers that a cluster's reset takes. -/
def engineStat : List Reg := [.CIRQ_INJ_STAT, .CIRQ_CAP_STAT, .CIRQ_CAP_TRIG_LO, .CIRQ_CAP_TRIG_HI]

/-- Blocks of a class (0 for a class that R465 does not list). -/
def blockCount (cls : Nat) : Nat := [64, 17, 272, 32, 24, 1, 1, 1, 256, 4].getD cls 0

/-- A parity append, resync or rewrite of the floe engine waits. -/
def State.floeWork (s : State) : Bool :=
  (s.floe.any fun e => e.2.rebuild.isSome || (e.2.stripes.any fun x => x.isOpen || !x.resync.isEmpty)) || !s.chan.repairs.isEmpty ||
  s.host.wbuf.any fun w => w.stripe.isSome

/-- The block meets the idle condition of its class. -/
def State.blockIdle (s : State) (cls i : Nat) : Bool :=
  match cls with
  | 0 => s.get .PEN_STATUS_PSTATE i == 0 || s.get .PEN_STATUS_PSTATE i == 10
  | 1 => s.get .CIRQ_STATUS_ROLE i == 4 || ((s.heldSlots i).isEmpty && s.get .CIRQ_STATUS_ROLE i == 0)
  | 2 => s.get .FIRN_STATUS_LSTATE i == 0 || s.get .FIRN_STATUS_LSTATE i == 5
  | 3 => s.get .MOR_DEC_DSTATE i == 0 || s.get .MOR_DEC_DSTATE i == 7
  | 4 => s.get .MEM_DMA_STAT_CSTATE i == 0 || s.get .MEM_DMA_STAT_CSTATE i == 2
  | 5 => s.chan.reads.isEmpty && !((List.range 272).any fun f => s.on .FIRN_STATUS_WRITE f)
  | 6 => !s.floeWork && s.chan.reads.isEmpty && !(s.host.cmds.any fun c => c.started && c.d.opcode == 0x0B)
  | 7 => !s.on .MEM_RIME_CTRL_EN && !s.on .MEM_RIME_CTRL_BUSY
  | _ => true

/-- The reset of a block, and what follows it. -/
def State.blockReset (s : State) (cls i : Nat) : State :=
  match cls with
  | 0 =>
    let t := ((s.clearRegs [.PEN_STATUS, .PEN_EVENT, .PEN_LANE] i).modPort i fun _ => {}).returnLink i
    if t.on .PEN_CFG_EN i then t.startTraining i else t
  | 1 => ((s.clearRegs ([.CIRQ_EVENT] ++ (if i < 14 then engineStat else [])) i).modCirq fun q =>
      { q with inj := tabDel q.inj i, cap := tabDel q.cap i }).testCluster i 0
  | 2 => ((s.clearRegs [.FIRN_STATUS, .FIRN_EVENT] i).modChan fun c => { c with lanes := tabMod c.lanes i {} fun x => { faults := x.faults } }).testLane i 0
  | 3 => (s.clearDecoder i).testDecoder i
  | 4 => (s.set .MEM_DMA_STAT_CAUSE i 3).set .MEM_DMA_STAT_CSTATE i 0
  | 5 => s
  | 6 => s.clearRegs [.FLOE_EVENT] 0
  | 7 => s.clearRegs [.MEM_RIME_STAT] 0
  | 8 => (s.stopFn i 1).dropRoles i
  | _ => s.restartCore i 6

/-- BLOCK_RESET: RST_BLK_CMD GO. -/
def execBlockReset (cls : Fin 16) (index : Fin 512) (s : State) : Out := regCmd s fun s =>
  if s.on .RST_BLK_CMD_BUSY then fin (s.set0 .RST_BLK_CMD_RESULT 3)
  else
    let s1 := (s.set0 .RST_BLK_CMD_CLASS cls).set0 .RST_BLK_CMD_INDEX index
    let res := fun (k : Nat) => s1.set0 .RST_BLK_CMD_RESULT k
    if blockCount cls ≤ index.val then fin (res 2)
    else if s.blockIdle cls index = false then fin (res 1)
    else if cls.val = 9 ∧ s.running index ∧ s.runningCores = 1 then fin (res 4)
    else fin ((res 0).blockReset cls index)

end Sys2Proof.Machine
end

