-- ==== Sys2Proof/Machine/Power.lean ====
section
/-! DEFINITION. Clocks, power states, supplies, temperatures and fans (spec/15_clocks_power_sleep.md R419 to R446). A state that the device passes
through of itself (DOZE_ENTRY, WAKING, HIB_ENTRY, THERMAL_STOP) ends at the next Drone tick. -/

namespace Sys2Proof.Machine

/-! ### Clocks (R419, R420, R423) -/

/-- XTAL_LOST. -/
def execXtalLost (s : State) : Out :=
  if s.on .DRN_CLK_STAT_ON_RC then fin s
  else
    let s1 := ((s.set0 .DRN_CLK_STAT_XTAL_OK 0).set0 .DRN_CLK_STAT_ON_RC 1).raise .DRN_EVENT_XTAL_LOST
    fin (if s.coreOn then s1.logEntry { cls := 9, code := 5, sev := 2, detail0 := 1 } else s1)

/-- XTAL_RELOCK. -/
def execXtalRelock (s : State) : Out := fin ((s.set0 .DRN_CLK_STAT_XTAL_OK 1).set0 .DRN_CLK_STAT_ON_RC 0)

/-- REFCLK_LOST: the clock-failure reset, held until the clock is back; while the core domain is off only the clock is noted. -/
def execRefclkLost (s : State) : Out :=
  let s1 := s.set0 .DRN_CLK_STAT_REF_OK 0
  if ¬ s.coreOn ∨ ¬ s.on .DRN_CLK_STAT_REF_OK then fin s1
  else
    let s2 := s1.raise .DRN_EVENT_REF_LOST
    if s.warmOk then
      fin (((((s2.raise .RST_CAUSE_CLKFAIL).assertReset).await .warm).modPwr fun p => { p with clkHold := true }).logEntry
        { cls := 9, code := 5, sev := 2, detail0 := 2 })
    else fin s2

/-- REFCLK_RESTORED: the clock-failure reset ends after its 200 us (R449), or a power-up that waits for the clock begins. -/
def execRefclkRestored (s : State) : Out :=
  let s1 := s.set0 .DRN_CLK_STAT_REF_OK 1
  if s.pwr.clkHold then fin (s1.modPwr fun p => { p with clkHold := false })
  else if s.pst = 0 ∧ s.get .RST_STAT_STAGE = 2 ∧ s.pwr.seq = none ∧ ¬ s.pwr.bootStop then fin s1.beginPower
  else fin s1

/-- A measurement of the ratio is due: the first after a power-up of the core domain, then one a second while ACTIVE (R423). -/
def State.ratioDue (s : State) : Bool := match s.pwr.ratioAt with
  | none => s.on .DRN_CLK_STAT_CORE_LOCK
  | some t => s.pst == 1 && decide (t + ms 1000 ≤ s.now)

/-- TIME_RATIO_MEASURE: `ticks` Drone ticks counted over 25,000,000 REFCLK_SYS cycles (R423). -/
def execTimeRatioMeasure (ticks : Nat) (s : State) : Out :=
  if ticks = 0 ∨ ¬ s.ratioDue then fin s
  else fin ((s.set0 .DRN_TIME_RATIO_RATIO ((1000000000 * 2 ^ 24 + ticks / 2) / ticks)).modPwr fun p => { p with ratioAt := some s.now })

/-! ### Doze (R426 to R429) -/

/-- The idle conditions of R426. -/
def State.idleOk (s : State) : Bool :=
  s.slotsUsed == 0 && s.boundLanes == 0 && (s.breath.grants.all fun e => e.2 == {}) && s.breath.reqs.isEmpty &&
  !((s.mechKeys).any fun n => s.on .MECH_STATE_BUSY n || (s.mx n).tray.isSome) &&
  s.host.cmds.isEmpty && s.host.events.isEmpty && (s.cal.all fun e => e.2.running.isEmpty) && s.fw.act.isNone && s.fw.bfw.isNone &&
  !s.floeWork && s.chan.reads.isEmpty && s.host.wbuf.isEmpty && s.host.merge.isEmpty && s.host.held.isEmpty &&
  ((List.range 64).all fun p => s.pstate p == 0 || s.pstate p == 8 || s.pstate p == 10) &&
  ((List.range 24).all fun k => s.get .MEM_DMA_STAT_CSTATE k == 0)

/-- The entry of a state begins. -/
def State.beginEntry (s : State) (st : Nat) : State :=
  ((s.set0 .DRN_PSTAT_STATE st).set0 .DRN_PCTRL_BUSY 1).modPwr fun p => { p with entryAt := s.now, idleAt := none }

/-- The idle conditions are watched while ACTIVE: since when they hold. -/
def State.noteIdle (s : State) : State := s.modPwr fun p => { p with idleAt := if s.idleOk then some (p.idleAt.getD s.now) else none }

/-- The idle conditions have held for IDLE_MS. -/
def State.idleLong (s : State) : Bool := match s.pwr.idleAt with
  | some t => decide (t + ms (s.get .DRN_DOZE_CFG_IDLE_MS) ≤ s.now)
  | none => false

/-- DOZE_IDLE: the idle conditions have held for IDLE_MS. -/
def execDozeIdle (s : State) : Out :=
  if s.on .DRN_DOZE_CFG_DOZE_EN && s.pst == 1 && s.idleOk && s.idleLong then fin (s.beginEntry 2) else fin s

/-- DOZE_REQUEST: DRN_PCTRL OP 1. -/
def execDozeRequest (s : State) : Out := regCmd s fun s =>
  if s.on .DRN_PCTRL_BUSY then fin (s.set0 .DRN_PCTRL_RESULT 3)
  else if s.pst = 1 ∧ s.idleOk then fin ((s.set0 .DRN_PCTRL_RESULT 0).beginEntry 2)
  else fin (s.set0 .DRN_PCTRL_RESULT 1)

/-- A wake source of HIBERNATE is enabled (R429). -/
def State.hibWakes (s : State) (src : Nat) : Bool :=
  match src with
  | 4 => s.on .DRN_WAKE_EN_TIMER
  | 5 => s.on .DRN_WAKE_EN_GPIO
  | 6 => s.on .DRN_WAKE_EN_SMBUS
  | 7 => true
  | 9 => s.on .DRN_WAKE_EN_PERST
  | _ => false

/-- The resume out of HIBERNATE begins (R432). -/
def State.resumeBegin (s : State) (src : Nat) : State :=
  (((s.set0 .DRN_PSTAT_STATE 0).set0 .DRN_PSTAT_LAST_WAKE src).modPwr fun p => { p with resume := true, wakeDue := 0 }).powerUp

/-- A wake source arrives (R427, R429, R446): sources that meet give one wake with the lower code. -/
def State.wake (s : State) (src : Nat) : State :=
  let doze := decide (1 ≤ src) && decide (src ≤ 8)
  match s.pst with
  | 2 | 3 | 4 => if doze then s.dozeWake src else s
  | 5 =>
    if s.hibWakes src then s.modPwr fun p => { p with wakeDue := if p.wakeDue = 0 then src else min src p.wakeDue } else s
  | 6 => if s.hibWakes src then s.resumeBegin src else s
  | _ => s

/-- WAKE. Sources 4, 8 and 10 come by WAKE_TIMER, RETRY_WAKE and the thermal restarts, which say when they do. -/
def execWake (src : Fin 16) (s : State) : Out := fin (if src = 4 ∨ src = 8 ∨ src = 10 then s else s.wake src)

/-- Timer k fires when it is armed and its time has come (R429). -/
def State.timerDue (s : State) (k : Nat) : State :=
  let en := s.get .DRN_WAKE_CTRL_EN
  if bitAt en k = 0 ∨ s.now < s.get64 .DRN_WAKE_LO_TIME_NS .DRN_WAKE_HI_TIME_NS k then s
  else
    let fired := s.get .DRN_WAKE_CTRL_FIRED
    ((s.set0 .DRN_WAKE_CTRL_EN (en - 2 ^ k)).set0 .DRN_WAKE_CTRL_FIRED (Nat.lor fired (2 ^ k))).wake 4

/-- WAKE_TIMER: an armed wake timer has reached its time. -/
def execWakeTimer (k : Fin 4) (s : State) : Out := fin (s.timerDue k)

/-- RETRY_WAKE: RETRY_WAKE_S has passed since DOZE was reached, and an enabled port is FAILED; those ports train again (R429). -/
def execRetryWake (s : State) : Out :=
  let ps := (List.range 64).filter fun p => s.pstate p == 10 && s.on .PEN_CFG_EN p
  let w := s.get .DRN_DOZE_CFG_RETRY_WAKE_S
  if s.pst ≠ 3 ∨ w = 0 ∨ s.now < s.pwr.dozeAt + ms (1000 * w) ∨ ps = [] then fin s
  else fin ((s.wake 8).forEach ps State.startTraining)

/-! ### Hibernate (R430 to R432) -/

/-- HIBERNATE_REQUEST: DRN_PCTRL OP 2; `retain` is what the firmware saves in DRN_RETAIN. -/
def execHibernateRequest (retain : List Word) (s : State) : Out := regCmd s fun s =>
  if s.on .DRN_PCTRL_BUSY then fin (s.set0 .DRN_PCTRL_RESULT 3)
  else if s.pst ≠ 1 ∨ ¬ s.idleOk then fin (s.set0 .DRN_PCTRL_RESULT 1)
  else if s.on .DRN_PWR_CFG_SEQ_MODE then fin (s.set0 .DRN_PCTRL_RESULT 2)
  else
    let s1 := (s.set0 .DRN_PCTRL_RESULT 0).forEach (List.range 256) fun t i => t.wr .DRN_RETAIN i 0 (retain.getD i 0)
    fin (s1.beginEntry 5)

/-- Roles and links of the host side end as the core domain goes off: every port goes link-down, both roles end (R431). -/
def State.hostsGone (s : State) : State :=
  let s1 := s.endStandby.loseSteward
  s1.forEach ((List.range 4).filter fun p => s1.on .HQP_PORT_UP p) State.portReset

/-- The core domain's state outside DRAM is gone: BAR0 registers, queue pairs, function enables, keys, SRAM, links. -/
def State.stripCore (s : State) : State :=
  { s with regs := s.regs.filter (fun e => decide (e.1 < 0x1000000)), log := { second := s.log.second, counts := s.log.counts }, evt := {},
           host := { fnx := s.host.fnx.map (fun (e : Nat × FnX) => (e.1, { owes2 := e.2.owes2 })), losses := s.host.losses },
           breath := { s.breath with link := [] }, port := [], drop := [], dbg := { deadPorts := s.dbg.deadPorts },
           cirq := { s.cirq with inj := [], cap := [] },
           memx := { s.memx with sram := [], fix := [], trace := [], traced := [], banks := [], chans := [], pages := [], rime := s.memx.rime.flush.discard } }

/-- What HIBERNATE with KEEP_DRAM loses (R431): queue pairs, function enables, keys, SRAM, the Rime cache, links of mechanisms. -/
def State.hibLoses (s : State) : State :=
  let s2 := s.hostsGone.stripCore
  let s3 := s2.forEach (List.range 64) fun t p =>
    let t1 := (t.set .PEN_STATUS_PSTATE p 0).set .PEN_STATUS_LOCK p 0
    t1.forEach ((List.range 64).filter fun d => t1.on .PEN_DROP_PRESENT p d) fun u d =>
      ((u.set2 .PEN_DROP_PRESENT p d 0).set2 .PEN_DROP_DSTATE p d 1).set2 .PEN_DROP_MGMT_OK p d 0
  let s4 := s3.forEach (List.range 14) fun t c => t.clearRegs engineStat c
  ((((s4.set0 .MEM_RIME_STAT_DIRTY 0).set0 .DBG_AUTH_STAT_AUTH 0).set0 .DRN_CLK_STAT_CORE_LOCK 0).set0 .DRN_CLK_STAT_DDR_LOCK 0).set0
    .DRN_CLK_STAT_PEN_PLLS 0

/-- Fans at full duty while the core domain is off, once a fan register has been written (R437). -/
def State.fansFull (s : State) (force : Bool) : State :=
  if s.pwr.fanSet || force then s.forEach (List.range 8) fun t k => t.set .DRN_FAN_STAT_DUTY k 255 else s

/-- HIB_ENTRY: what was to be saved is saved, the core domain is in reset and its supplies begin to go off (R430, R434). -/
def State.hibernate (s : State) : State :=
  let s1 :=
    if s.on .DRN_PWR_CFG_KEEP_DRAM then
      let t := (s.hibLoses).set0 .MEM_DDR_STAT_IN_SR (s.get .MEM_DDR_STAT_PRESENT)
      (t.permitsLow.set0 .RST_STAT_STAGE 0).modPwr fun p => { p with keep := true }
    else s.assertReset
  (((s1.set0 .DRN_PSTAT_STATE 5).set0 .DRN_PCTRL_BUSY 1).modPwr fun p => { p with wakeDue := s.pwr.wakeDue }).beginOff .hibernate

/-- HIBERNATE is reached; a wake that came during the entry resumes the device at once (R430, R446). -/
def State.hibernated (s : State) : State :=
  let s1 := ((s.set0 .DRN_PSTAT_STATE 6).set0 .DRN_PCTRL_BUSY 0).set0 .DRN_THERM_STAT_DRONE_ONLY 1
  let s2 := (s1.modPwr fun p => { p with wakeDue := 0 }).fansFull false
  if s.pwr.wakeDue = 0 then s2 else s2.resumeBegin s.pwr.wakeDue

/-! ### Supplies (R434, R435) -/

/-- Every group is good: THERM_TRIP_L is released (R444), and so is the core-domain reset, or a resume with DRAM kept goes to the checker test (R432). -/
def State.powerDone (s : State) : State :=
  let s1 := s.modPwr fun p => { p with up := none, tries := 0, ratioAt := none, releasedAt := s.now, tripLow := false }
  if s.pwr.resume ∧ s.pwr.keep then (s1.set0 .DRN_CLK_STAT_CORE_LOCK 1).set0 .RST_STAT_STAGE 5 else s1.releaseReset

/-- The next group of a power-up. -/
def State.nextGroup (s : State) : Option Nat := (List.range 6).find? fun k => bitAt (s.get .DRN_PWR_STAT_EN) k == 0

/-- A group is enabled, and its power-good input awaited. -/
def State.enableGroup (s : State) (k : Nat) : State :=
  (s.set0 .DRN_PWR_STAT_EN (Nat.lor (s.get .DRN_PWR_STAT_EN) (2 ^ k))).modPwr fun p => { p with up := some k, upAt := s.now }

/-- POWER_GOOD_RISE: the power-good input of group g rises; STEP_US later the next group that is off is enabled. Under board sequencing the 10 ms of R449
begin with the last of them. -/
def execPowerGoodRise (g : Fin 6) (s : State) : Out :=
  let pg := Nat.lor (s.get .DRN_PWR_STAT_PG) (2 ^ g.val)
  let s1 := s.set0 .DRN_PWR_STAT_PG pg
  if s.on .DRN_PWR_CFG_SEQ_MODE then
    if pg = 0x3F ∧ s.pst = 0 ∧ s.get .RST_STAT_STAGE = 3 ∧ s.pwr.seq = none then fin (s1.await .good) else fin s1
  else if bitAt (s.get .DRN_PWR_STAT_EN) g = 0 then fin s
  else if s.pwr.up ≠ some g.val ∨ s.pwr.seq ≠ none then fin s1
  else if s.nextGroup = none then fin s1.powerDone
  else fin (s1.await .gap)

/-- PGOOD_TIMEOUT: the group that the power-up waits for is not good within PG_TO_MS of its enable; every group is switched off. DRAM kept for a resume is
lost with its supply. -/
def execPgoodTimeout (s : State) : Out :=
  match s.pwr.up with
  | none => fin s
  | some g =>
    if s.pwr.seq ≠ none ∨ s.now < s.pwr.upAt + ms (s.get .DRN_PWR_CFG_PG_TO_MS) then fin s
    else
      let n := s.pwr.tries + 1
      let s0 := if s.pwr.resume && s.pwr.keep then s.permitsOff.clearCore.modPwr fun p => { p with resume := true } else s
      fin ((s0.modPwr fun p => { p with up := none, tries := n }).beginOff (.failed g n))

/-- The groups of the n-th failed power-up in a row are off (R434). -/
def State.powerFailed (s : State) (g n : Nat) : State :=
  let s1 := ((s.raise .DRN_EVENT_PWR_FAIL).set0 .DRN_PWR_STAT_FAIL_GRP g).bump .DRN_PWR_STAT_FAILS
  let s2 := (s1.modPwr fun p => { p with retry := decide (n < 3), retryAt := s.now }).logEntry { cls := 9, code := 4, sev := 3, detail0 := g, detail1 := n }
  if n < 3 then s2 else (s2.set0 .DRN_PSTAT_STATE 10).fansFull false

/-- POWER_RETRY: 1 s after a failed power-up it is tried again. -/
def execPowerRetry (s : State) : Out :=
  if s.pwr.retry ∧ s.pwr.retryAt + ms 1000 ≤ s.now then fin ((s.modPwr fun p => { p with retry := false }).powerUp) else fin s

/-! ### Temperatures and fans (R436 to R438) -/

/-- A signed quantity as a 16-bit field. -/
def field16 (v : Int) : Nat := (v % 65536).toNat

/-- The duty of the fan curve at a temperature in 1/16 C, rounded to the nearest. -/
def curveDuty (t : List Nat) (d : List Nat) (x : Int) : Nat :=
  let tp := fun (i : Nat) => ((t.getD i 0 : Nat) : Int) * 16
  let dp := fun (i : Nat) => ((d.getD i 0 : Nat) : Int)
  if x < tp 0 then d.getD 0 0
  else if tp 3 ≤ x then d.getD 3 0
  else
    let i := if x < tp 1 then 0 else if x < tp 2 then 1 else 2
    let w := tp (i + 1) - tp i
    ((2 * (dp i * w + (dp (i + 1) - dp i) * (x - tp i)) + w) / (2 * w)).toNat

def State.hotNow (s : State) : Bool := decide (signedField 16 (s.get .DRN_THERM_CFG_TWARN) ≤ s.dieTemp)

/-- The fan outputs follow their rule once a fan register has been written. -/
def State.fanUpdate (s : State) : State :=
  if !s.pwr.fanSet then s
  else
    let curve := curveDuty (((List.range 4)).map fun i => bitsOf (s.rd .DRN_FAN_CURVE_T) (8 * i) 8)
      ((List.range 4).map fun i => bitsOf (s.rd .DRN_FAN_CURVE_D) (8 * i) 8) s.dieTemp
    s.forEach (List.range 8) fun t k =>
      t.set .DRN_FAN_STAT_DUTY k
        (if s.hotNow || !s.coreOn then 255 else if s.on .DRN_FAN_CFG_MODE k then s.get .DRN_FAN_CFG_DUTY k else curve)

/-- Since when every comparator has read low enough for a restart: watched at each sample while the core domain is off (R442). -/
def State.noteCool (s : State) (tmax : Int) : State :=
  s.modPwr fun p => { p with coolAt :=
    if s.coreOn ∨ signedField 16 (s.get .DRN_THERM_CFG_TSD) - 160 < tmax then none else some (p.coolAt.getD s.now) }

/-- The comparators have read low enough for 1 s without a break (R442). -/
def State.coolLong (s : State) : Bool := match s.pwr.coolAt with
  | some t => decide (t + ms 1000 ≤ s.now)
  | none => false

/-- TEMP_SAMPLE: every 100 us the readings of TS0 to TS15, 1/16 C; while the core domain is off they are those of the comparators (R436). -/
def execTempSample (temps : List Int) (s : State) : Out :=
  if s.now < s.pwr.sampleAt + us 100 then fin s else
  let x := (List.range 16).map fun i => temps.getD i 0
  let best := (List.range 16).foldl (fun (a : Nat) i => if x.getD a 0 < x.getD i 0 then i else a) 0
  let tmax := x.getD best 0
  let s1 := s.forEach (List.range 8) fun t i =>
    (t.set .DRN_TS_TS_LO i (field16 (x.getD (2 * i) 0))).set .DRN_TS_TS_HI i (field16 (x.getD (2 * i + 1) 0))
  let s2 := ((s1.set0 .DRN_THERM_STAT_TMAX (field16 tmax)).set0 .DRN_THERM_STAT_HOT best).set0 .DRN_THERM_STAT_DRONE_ONLY (b2n !s.coreOn)
  let warn := signedField 16 (s.get .DRN_THERM_CFG_TWARN)
  let s3 :=
    if warn ≤ tmax then ((s2.raise .DRN_THERM_STAT_WARN).raise .DRN_EVENT_WARN).fansFull false
    else if tmax ≤ warn - 32 then s2.set0 .DRN_THERM_STAT_WARN 0 else s2
  let hot := decide (signedField 16 (s.get .DRN_THERM_CFG_TSD) ≤ tmax)
  fin ((s3.noteCool tmax).modPwr fun p => { p with hot := if hot then p.hot + 1 else 0, sampleAt := s.now })

/-- FAN_UPDATE: every 100 ms. -/
def execFanUpdate (s : State) : Out :=
  if s.now < s.pwr.fanAt + ms 100 then fin s else fin (s.fanUpdate.modPwr fun p => { p with fanAt := s.now })

/-- TACH_MEASURE: the edges of tach input k in the second since its last measurement, two to a revolution (R438). The duty was at least 51 in that
second where it was at its begin and is now. -/
def execTachMeasure (k : Fin 8) (edges : Nat) (s : State) : Out :=
  let last := tabGet s.pwr.tachAt k (0, 255)
  let duty := s.get .DRN_FAN_STAT_DUTY k
  if s.now < last.1 + ms 1000 then fin s
  else
    let s1 := (s.set .DRN_FAN_STAT_RPM k (min (30 * edges) 65535)).modPwr fun p => { p with tachAt := tabPut p.tachAt k (s.now, duty) (0, 255) }
    if edges = 0 then
      if 51 ≤ duty ∧ 51 ≤ last.2 then fin ((s1.raise .DRN_FAN_STAT_STUCK k).raise .DRN_EVENT_FAN_STUCK) else fin s1
    else fin (s1.set .DRN_FAN_STAT_STUCK k 0)

/-! ### Managed shutdown and trip (R439 to R446) -/

/-- 24 hours in ns. -/
def dayNs : Nat := 86400 * 1000000000

/-- The instants of a list within the last 24 hours. -/
def State.lastDay (s : State) (l : List Nat) : List Nat := l.filter fun t => decide (s.now < t + dayNs)

/-- The core domain is in reset and its supplies go off toward THERMAL_OFF, which holds when the limit of R443 is passed. -/
def State.thermalOff (s : State) : State :=
  let l := s.lastDay s.pwr.shutdowns ++ [s.now]
  let lim := s.get .DRN_THERM_LIM_RESTART_MAX
  let held := decide (lim ≠ 0) && decide (lim < l.length)
  let s1 := (s.assertReset.set0 .DRN_PSTAT_STATE 7).modPwr fun p => { p with shutdowns := l, limit := held, retry := false, tries := 0, coolAt := none }
  (s1.beginOff .thermal).fansFull held

/-- THERMAL_OFF is reached. -/
def State.thermalReached (s : State) : State := (s.set0 .DRN_PSTAT_STATE 8).set0 .DRN_THERM_STAT_DRONE_ONLY 1

/-- The functions that are enabled. -/
def State.enabledFns (s : State) : List Nat := (List.range 256).filter fun fn => s.on .FN_STAT_RDY fn

/-- The lanes that write. -/
def State.writing (s : State) : List Nat := (List.range 272).filter fun f => s.on .FIRN_STATUS_WRITE f

/-- Every calibration run is abandoned; an OPC that writes is when its write has stopped (R208). -/
def State.abandonAll (s : State) : State :=
  let runs := ((s.cal.filter fun e => !e.2.running.isEmpty).map fun e => (e.1 / 65536, e.1 / 16 % 4096)).dedup
  let writes := fun (n : Nat) => match s.laneOf n with
    | some f => s.on .FIRN_STATUS_WRITE f
    | none => false
  s.forEach runs fun t e => t.abandonIn e.1 e.2 fun _ i => !(e.1 == 0 && i == 5 && writes e.2)

/-- THERMAL_STOP begins: a stop request for every write run, an OPC's too, and the end of the calibration runs (R208, R439, R440). -/
def State.thermalBegin (s : State) : State :=
  (((s.forEach s.writing State.stopRun).abandonAll).set0 .DRN_PSTAT_STATE 7).logEntry
    { cls := 9, code := 2, sev := 3, detail0 := s.get .DRN_THERM_STAT_TMAX, detail1 := s.get .DRN_THERM_STAT_HOT }

/-- Runs that were to stop 100 us ago end (R239). -/
def State.endLateRuns (s : State) : State :=
  s.forEach (s.writing.filter fun f => match (s.lane f).stopAt with | some t => decide (t + 100000 ≤ s.now) | none => true) State.endWrite

/-- Steps 1 and 2 of R441. -/
def State.thermalStop (s : State) : State :=
  let s1 := s.forEach ((s.mechKeys).filter fun n => servoActive (s.mst n)) fun t n => t.emit (.safeSet n 0)
  let s2 := s1.forEach s1.host.cmds fun t c => t.stopCmd c 0x0605
  let s3 := s2.forEach ((s2.mechKeys).filter fun n => s2.host.wbuf.any fun w => w.mn == n) State.loseWrites
  (s3.forEach s.enabledFns fun t fn => t.postEvent fn 0x90 0 1).modPwr fun p => { p with drainAt := some s.now }

/-- The merger has drained, or has had its 1 ms (R441). -/
def State.drained (s : State) (t : Nat) : Bool := s.host.merge.isEmpty || decide (t + ms 1 ≤ s.now)

/-- THERMAL_STOP: Tsd reached in three samples in a row. Where nothing runs (BOOT, HIB_ENTRY, HIBERNATE) the device goes off at once (R446). -/
def execThermalStop (s : State) : Out :=
  if s.pwr.hot < 3 then fin s
  else match s.pst with
    | 1 => fin s.thermalBegin
    | 2 | 3 | 4 => fin ((s.set0 .DRN_CLK_STAT_CORE_LOCK 1).thermalBegin)
    | 0 | 5 | 6 => fin s.thermalOff
    | _ => fin s

/-- The restart out of THERMAL_OFF or TRIPPED begins (R442, R445). -/
def State.thermalUp (s : State) (cause ev : Fld) : State :=
  (((((s.raise cause).raise ev).set0 .DRN_PSTAT_LAST_WAKE 10).set0 .DRN_PSTAT_STATE 0).modPwr fun p => { p with hot := 0 }).powerUp

/-- THERMAL_RESTART: every comparator at or below Tsd - 10 C for 1 s. -/
def execThermalRestart (s : State) : Out :=
  if s.pst ≠ 8 ∨ s.pwr.limit ∨ ¬ s.coolLong then fin s
  else fin ((s.thermalUp .RST_CAUSE_THERMAL .DRN_EVENT_SD).bump .DRN_THERM_CNT_SHUTDOWNS)

/-- TCRIT_TRIP: whatever the power state (R444). -/
def execTcritTrip (sensor : Fin 16) (s : State) : Out :=
  if s.pst = 9 then fin s
  else
    let l := s.lastDay s.pwr.trips ++ [s.now]
    let held := decide (s.get .DRN_THERM_LIM_TRIP_MAX ≤ l.length)
    let s0 := (s.assertReset.suppliesOff.endAwait.set0 .DRN_PSTAT_STATE 9).set0 .DRN_THERM_STAT_DRONE_ONLY 1
    let s1 := ((s0.set0 .DRN_PWR_STAT_EN 0).bump .DRN_THERM_CNT_TRIPS)
    let s2 := s1.modPwr fun p => { p with trips := l, tripAt := s.now, limit := held, retry := false, tries := 0, coolAt := none, tripLow := true }
    fin ((s2.fansFull held).logEntry { cls := 9, code := 3, sev := 3, detail0 := sensor })

/-- TRIP_RESTART: cool for 1 s, and TRIP_HOLD_S since the trip (R445). -/
def execTripRestart (s : State) : Out :=
  if s.pst ≠ 9 ∨ s.pwr.limit ∨ ¬ s.coolLong ∨ s.now < s.pwr.tripAt + s.get .DRN_THERM_LIM_TRIP_HOLD_S * 1000000000 then fin s
  else fin (s.thermalUp .RST_CAUSE_TRIP .DRN_EVENT_TRIP)

/-! ### The Drone sequencer (R434, R449, R487) -/

/-- Every group that was to go off is off. -/
def State.offDone (s : State) : OffGoal → State
  | .hibernate => s.hibernated
  | .thermal => s.thermalReached
  | .failed g n => s.powerFailed g n
  | .cycle => s.await .held

/-- The result of a full-device window is shown (R487). -/
def State.windowDone (s : State) (fail : Bool) (unit channels durMs : Nat) : State :=
  let s2 := ((s.raise .DBG_WIN_STAT_NEW).set0 .DBG_WIN_STAT_RESULT (b2n fail)).set0 .DBG_WIN_STAT_DUR_MS durMs
  (s2.set0 .DBG_WIN_STAT_UNIT (if fail then unit else 0)).set0 .DBG_WIN_STAT_CHANNELS (if fail then channels else 0)

/-- How long the sequencer waits, ns. -/
def State.seqWait (s : State) : DroneSeq → Nat
  | .off _ => if s.on .DRN_PWR_CFG_SEQ_MODE then 0 else us (s.get .DRN_PWR_CFG_STEP_US)
  | .held => ms 100
  | .warm => us 200
  | .window _ _ _ d => max (ms d) (us 200)
  | .gap => us (s.get .DRN_PWR_CFG_STEP_US)
  | .good => ms 10

/-- The wait of the sequencer is over. -/
def State.seqDone (s : State) : DroneSeq → State
  | .off g => match s.topGroup g with
    | some k => if s.on .DRN_PWR_CFG_SEQ_MODE then s.endAwait.offDone g else (s.dropGroup k).await (.off g)
    | none => s.endAwait.offDone g
  | .held => if s.get .RST_STAT_STAGE = 0 then s.endAwait.powerUp else s.endAwait
  | .warm => if s.pwr.clkHold then s else s.endAwait.releaseReset
  | .window f u c d => (s.endAwait.windowDone f u c d).releaseReset
  | .gap => match s.nextGroup with
    | some k => s.endAwait.enableGroup k
    | none => s.endAwait.powerDone
  | .good => s.endAwait.powerDone

/-! ### An idle step: one REFCLK_SYS cycle while ACTIVE, one Drone tick otherwise -/

/-- The core clock and the DDR clock run again; heartbeats and the supervisor did not count meanwhile (R429). -/
def State.waken (s : State) : State :=
  let d := s.now - s.pwr.entryAt
  let t := (s.set0 .DRN_PSTAT_STATE 1).modMem fun m => { m with hbAt := (List.range 4).foldl (fun l c => tabPut l c (tabGet l c 0 + d) 0) m.hbAt }
  ((t.modPwr fun p => { p with kickAt := p.kickAt + d }).dramTouch.set0 .DRN_CLK_STAT_CORE_LOCK 1).set0 .DRN_CLK_STAT_DDR_LOCK 1

/-- Since when no core is RUNNING (R448). -/
def State.noteCores (s : State) : State := s.modPwr fun p => { p with noCoreAt := if s.runningCores = 0 then some (p.noCoreAt.getD s.now) else none }

/-- Device time moves, the Drone sequencer goes on, and a power state that the device passes through ends. While ACTIVE the memory system, the cores and
the console work (R394 to R408, R411, R532), and the conditions that must hold for a time are watched. -/
def State.idleTick (s : State) : State :=
  let t := s.tick
  match s.pwr.seq with
  | some (q, from_) => if t.now < from_ + s.seqWait q then t else t.seqDone q
  | none => match s.pst with
    | 1 => (t.memTick.coreTick s.now).pinTick.noteIdle.noteCores
    | 2 =>
      let u := (((t.set0 .DRN_PSTAT_STATE 3).set0 .DRN_PCTRL_BUSY 0).set0 .MEM_DDR_STAT_IN_SR (s.get .MEM_DDR_STAT_PRESENT)).set0 .DRN_CLK_STAT_CORE_LOCK 0
      (u.set0 .DRN_CLK_STAT_DDR_LOCK 0).modPwr fun p => { p with dozeAt := t.now }
    | 4 => t.waken
    | 5 => t.hibernate
    | 7 => match s.pwr.drainAt with
      | some d => if t.drained d then t.thermalOff else t
      | none =>
        let u := t.endLateRuns
        if u.writing.isEmpty then u.thermalStop else u
    | _ => t

end Sys2Proof.Machine
end

