-- ==== Sys2Proof/Machine/Firmware.lean ====
section
/-! DEFINITION. Firmware images: staging, commit, activation, the rolling update and the update of bridges and fan-outs
(spec/13_command_set.md R375, spec/16_reset_and_boot.md R462 to R464, spec/17_dependability.md R488 to R490). -/

namespace Sys2Proof.Machine

/-! ### Staging and commit (R375) -/

/-- Bytes that an image of a COMPONENT may have: 120 MiB for a device image, 128 MiB for a bridge and fan-out image. -/
def stageLimit (comp : Nat) : Nat := (if comp = 0 then 120 else 128) * 2 ^ 20

/-- FW_DOWNLOAD. -/
def execFwDownload (fn : FnIx) (tag : Nat) (dma : Dma) (s : State) : Out :=
  s.runAdmin fn tag 0x84 fun t c =>
    let off := c.d.lba
    let comp := c.d.spec % 256
    if (off ≠ 0 ∧ off ≠ t.fw.staged) ∨ stageLimit comp < off + c.d.count then t.complete c 0x0222 0 0 0
    else if dma ≠ .done then t.complete c (dmaStatus dma) 0 0 0
    else
      let n := off + c.d.count
      (t.dramTouch.modFw fun f => { f with staged := n, stagedComp := if off = 0 then comp else f.stagedComp }).complete c 0 0 n 0

/-- What COMMIT finds wrong with the staged image, 0 for nothing. -/
def State.commitErr (s : State) (image : FwImage) : Nat :=
  if s.fw.act.isSome then 0x0223
  else if s.fw.staged = 0 ∨ ¬ image.signed then 0x0220
  else if image.version < s.minFw then 0x0221 else 0

/-- A device image goes into the slot that is not active; a flash that fails leaves no image there. A bridge package stays in DRAM. -/
def State.commitImage (s : State) (image : FwImage) (flash : Bool) : State :=
  if s.fw.stagedComp = 1 then s.modFw fun f => { f with package := some image }
  else s.modFw fun f => { f with slots := tabPut f.slots (1 - s.activeSlot) (if flash then some image else none) none }

/-- The action of a FW_ACTIVATE descriptor. -/
def fwAction (c : Ctx) : Nat := c.d.spec % 256

/-- FW_COMMIT: ACTION 1. No flash program starts in THERMAL_STOP (R439). -/
def execFwCommit (fn : FnIx) (tag : Nat) (image : FwImage) (flash : Bool) (s : State) : Out :=
  s.runAdmin fn tag 0x85 fun t c =>
    if fwAction c ≠ 1 ∨ t.pst = 7 then s
    else
      let e := t.commitErr image
      if e ≠ 0 then t.complete c e 0 0 0
      else
        let u := t.dramTouch.commitImage image flash
        u.complete c (if flash ∨ t.fw.stagedComp = 1 then 0 else 0x0224) 0 t.fw.running t.activeSlot

/-! ### Activation (R463, R488, R489) -/

/-- Completions of a function that wait in the merger are written. -/
def State.flushFn (s : State) (fn : Nat) : State :=
  let mine := s.host.merge.filter fun c => c.fn == fn
  (s.forEach mine State.writeCpl).modHost fun h => { h with merge := h.merge.filter fun c => c.fn != fn }

/-- Activation of a device image: a TRIAL record names the new slot; rolling when the running version is at or above COMPAT, otherwise the
command completes and a software warm reset follows. -/
def State.activate (s : State) (c : Ctx) (slot : Nat) (image : FwImage) : State :=
  if image.compat ≤ s.fw.running then
    let s1 := s.modFw fun f => { f with act := some { cmd := some (ctxId c), slot := slot, image := image } }
    ((s1.set0 .DBG_UPD_STAT_BUSY 1).set0 .DBG_UPD_STAT_RESULT 0).showUpd 1 0
  else
    let s1 := (s.complete c 0 0 image.version slot).flushFn c.fn
    let s2 := s1.writeBootRec slot s.activeSlot true 0
    if s2.warmOk then s2.warmReset .RST_CAUSE_SOFT else s2

/-- The bridge image of the package that bridge n takes, if its version differs. -/
def State.bridgeImage (s : State) (p : FwImage) (n : Nat) : Option BfwImage :=
  if 4096 ≤ n then
    if s.on .PEN_FANOUT_PRESENT (n - 4096) then p.fan.filter fun i => i.version != s.get .PEN_FANOUT_FW_VER (n - 4096) else none
  else if s.mst n = 0 ∨ s.mst n = 9 then none
  else (p.bridges.find? fun i => i.gen == s.get .MECH_BRIDGE_GEN n).filter fun i => i.version != s.get .MECH_BRIDGE_BFW_VER n

/-- The bridges in increasing MN, each fan-out after the bridges of its port. -/
def updateOrder : List Nat := (List.range 64).flatMap fun p => mnsOf p ++ [4096 + p]

/-- Activation of a package: every bridge and fan-out that it changes, one at a time. -/
def State.activatePackage (s : State) (c : Ctx) (image : FwImage) : State :=
  let todo := updateOrder.filter fun n => (s.bridgeImage image n).isSome
  let s1 := (s.modFw fun f => { f with act := some { cmd := some (ctxId c), slot := s.activeSlot, image := image, todo := todo }, package := some image })
  let x := todo.headD 0
  let s2 := (((s1.wr .DBG_BFW_STAT 0 0 0).set0 .DBG_UPD_STAT_BUSY 1).set0 .DBG_UPD_STAT_RESULT 0).showUpd (if x < 4096 then 6 else 7) (x % 4096)
  if todo = [] then s2.packageDone else s2

/-- FW_COMMIT_ACTIVATE: ACTION 2. -/
def execFwCommitActivate (fn : FnIx) (tag : Nat) (image : FwImage) (flash : Bool) (s : State) : Out :=
  s.runAdmin fn tag 0x85 fun t c =>
    if fwAction c ≠ 2 ∨ t.pst = 7 then s
    else
      let e := t.commitErr image
      if e ≠ 0 then t.complete c e 0 0 0
      else
        let u := t.dramTouch.commitImage image flash
        if t.fw.stagedComp = 1 then u.activatePackage c image
        else if flash then u.activate c (1 - t.activeSlot) image
        else u.complete c 0x0224 0 0 0

/-- FW_ACTIVATE: ACTION 3. -/
def execFwActivate (fn : FnIx) (tag : Nat) (s : State) : Out :=
  s.runAdmin fn tag 0x85 fun t c =>
    let slot := c.d.spec / 256 % 256
    if fwAction c ≠ 3 ∨ t.pst = 7 then s
    else if t.fw.act.isSome then t.complete c 0x0223 0 0 0
    else match tabGet t.fw.slots slot none with
      | none => t.complete c 0x0225 0 0 0
      | some image => t.activate c slot image

/-! ### The rolling update (R488) -/

def State.modAct (s : State) (f : ActX → ActX) : State := s.modFw fun w => { w with act := w.act.map f }

/-- The unit at the front of the phase is finished. -/
def State.unitDone (s : State) (u : Nat) : State := s.modAct fun a => { a with started := false, todo := a.todo.filter fun x => x != u }

/-- The units of a phase. -/
def phaseUnits (k : Nat) : List Nat :=
  if k = 2 then [3, 2, 1, 0] else if k = 3 then List.range 17 else if k = 4 then List.range 272 else if k = 5 then List.range 32 else []

/-- A phase has ended: logged, and the next begins. -/
def State.nextPhase (s : State) (a : ActX) (k : Nat) : State :=
  let s1 := s.logEntry { cls := 0x0D, code := 2, sev := if a.rollback then 3 else 0, detail0 := (s.rd .DBG_UPD_STAT).toNat, detail1 := a.image.version }
  (s1.modAct fun x => { x with started := false, todo := phaseUnits k }).showUpd k ((phaseUnits k).headD 0)

/-- The activation or rollback is complete: its command completes. -/
def State.updateDone (s : State) (a : ActX) : State :=
  let s1 := s.logEntry { cls := 0x0D, code := 2, sev := if a.rollback then 3 else 0, detail0 := (s.rd .DBG_UPD_STAT).toNat, detail1 := a.image.version }
  let s2 := (((s1.set0 .DBG_UPD_STAT_BUSY 0).raise .DBG_UPD_STAT_DONE).set0 .DBG_UPD_STAT_RESULT (b2n a.rollback)).showUpd 0 0
  let s3 := s2.modFw fun f => { f with act := none }
  match a.cmd.bind fun c => s3.ctx c.1 c.2 with
  | some c => s3.complete c 0 0 s3.fw.running a.slot
  | none => s3

/-- Units that cannot be loaded are passed over: cores HELD or STOPPED, blocks OUT_OF_SERVICE. -/
def State.skipUnit (s : State) (k u : Nat) : Bool :=
  match k with
  | 2 => s.get .MCORE_STAT_CSTATE u == 2 || s.get .MCORE_STAT_CSTATE u == 3
  | 3 => s.get .CIRQ_STATUS_ROLE u == 4
  | 4 => s.get .FIRN_STATUS_LSTATE u == 5
  | 5 => s.get .MOR_DEC_DSTATE u == 7
  | _ => true

/-- The unit under way is finished, if it is. -/
def State.finishUnit (s : State) (a : ActX) (k : Nat) : State :=
  let u := a.todo.headD 0
  if !a.started then s
  else match k with
    | 2 => if s.get .MCORE_STAT_CSTATE u = 1 then s else s.unitDone u
    | 3 =>
      let moving := match s.cirq.ho with
        | some h => h.op == 2 && h.src == u
        | none => false
      let role := s.get .CIRQ_STATUS_ROLE u
      if moving || role == 3 then s
      else if role < 2 ∧ s.get .CIRQ_UCODE_VERSION u = a.image.ucode % 65536 then s.unitDone u
      else s.modAct fun x => { x with started := false }
    | 4 =>
      let loaded := (List.range 272).filter fun f => s.get .FIRN_STATUS_LSTATE f == 4
      let s1 := s.forEach loaded fun t f => ((t.set .FIRN_PROG_VERSION f a.image.laneProg).raise .FIRN_EVENT_PROG_DONE f).set .FIRN_STATUS_LSTATE f 0
      let s2 := s1.modAct fun x => { x with todo := x.todo.filter fun f => !loaded.contains f }
      if s.get .FIRN_STATUS_LSTATE u = 2 then s2 else s2.modAct fun x => { x with started := false }
    | 5 =>
      let st := s.get .MOR_DEC_DSTATE u
      if st = 6 then
        (((s.set .MOR_PROG_VERSION u a.image.decProg).clearDecoder u).modChan fun c => { c with decTest := tabDel c.decTest u }).unitDone u
      else if tabGet s.chan.decTest u 0 = 5 then s else s.modAct fun x => { x with started := false }
    | _ => s

/-- Unit u is the one under way. -/
def State.beginUnit (s : State) (k u : Nat) : State :=
  ((s.modAct fun a => { a with started := true, todo := u :: a.todo.filter fun x => x != u }).showUpd k u).set0 .DBG_UPD_STAT_RESULT 0

/-- The next unit of a phase starts, where it can. -/
def State.startUnit (s : State) (a : ActX) (k : Nat) : State :=
  match k with
  | 2 => match a.todo with
    | [] => s
    | c :: _ => if s.planErr c = 0 then (s.beginUnit 2 c).restartCore c 5 else s
  | 3 => match s.spare.filter fun c => a.todo.contains c with
    | some c => (s.beginUnit 3 c).testCluster c 5
    | none => match a.todo.find? fun c => s.get .CIRQ_STATUS_ROLE c == 0 with
      | none => s
      | some c =>
        if (s.heldSlots c).isEmpty then (s.beginUnit 3 c).testCluster c 5
        else if s.hoRefusal c = 0 then (s.beginUnit 3 c).startPlanned c 2 0
        else if s.spare.isNone then (s.showUpd 3 c).set0 .DBG_UPD_STAT_RESULT 2
        else s
  | 4 =>
    let frees := a.todo.filter fun f => s.get .FIRN_STATUS_LSTATE f == 0
    match frees with
    | f :: _ => (s.forEach frees fun t x => t.set .FIRN_STATUS_LSTATE x 4).beginUnit 4 f
    | [] => match a.todo.find? fun f => s.get .FIRN_STATUS_LSTATE f == 1, s.freeLane with
      | some f, some g => (s.beginUnit 4 f).startMigration f g 4
      | _, _ => s
  | 5 => match a.todo with
    | [] => s
    | d :: _ =>
      let st := s.get .MOR_DEC_DSTATE d
      if tabGet s.chan.decTest d 0 ≠ 0 ∨ 4 < st then s
      else if st = 0 then (s.beginUnit 5 d).set .MOR_DEC_DSTATE d 6
      else (s.beginUnit 5 d).modChan fun c => { c with decTest := tabPut c.decTest d 5 0 }
  | _ => s

/-- Every core runs the new image: its version and slot are the running ones. -/
def State.coresUpdated (s : State) (a : ActX) : State :=
  ((s.modFw fun f => { f with running := a.image.version }).set0 .RST_FW_STAT_BOOTED a.slot).modCirq fun q => { q with ucodeStaged := a.image.ucode }

/-- One phase of the update ends when no unit is left to do. -/
def State.endPhase (s : State) (a : ActX) (k : Nat) : State :=
  match k with
  | 1 => (s.writeBootRec a.slot s.activeSlot true 0).nextPhase a 2
  | 2 => ((s.coresUpdated a).nextPhase a 3).trialStart
  | 3 => s.nextPhase a 4
  | 4 => s.nextPhase a 5
  | _ => s.updateDone a

/-- LIVE_UPDATE_STEP: the unit under way finishes, if it has; a phase with no unit left gives way to the next; the next unit starts. -/
def execLiveUpdateStep (s : State) : Out :=
  match s.fw.act with
  | none => fin s
  | some a =>
    let k := s.get .DBG_UPD_STAT_PHASE
    if 5 < k ∨ s.pst = 7 then fin s
    else
      let s1 := (s.finishUnit a k).modAct fun x => { x with todo := if x.started then x.todo else x.todo.filter fun u => !s.skipUnit k u }
      match s1.fw.act with
      | none => fin s1
      | some b =>
        let s2 := if !b.started && b.todo.isEmpty then s1.endPhase b k else s1
        match s2.fw.act with
        | none => fin s2
        | some d => if d.started then fin s2 else fin (s2.startUnit d (s2.get .DBG_UPD_STAT_PHASE))

/-- TRIAL_CONFIRM: every core has run the image of the TRIAL record for 60 s (R464). -/
def execTrialConfirm (s : State) : Out :=
  match s.fw.trialFrom, s.bootRec with
  | some t, some r =>
    if s.on .RST_FW_STAT_TRIAL ∧ t + 60 * 1000000000 ≤ s.now ∧ s.pst ≠ 7 then
      fin ((s.writeBootRec r.active r.prev false 0).modFw fun f => { f with trialFrom := none, trialFaults := 0 })
    else fin s
  | _, _ => fin s

/-! ### Bridges and fan-outs (R489, R490) -/

/-- The mechanism is in a state in which its bridge may restart. -/
def State.bfwState (s : State) (n : Nat) : Bool := let st := s.mst n; st == 1 || st == 2 || st == 3 || st == 8

/-- Whether bridge or fan-out k may be updated now, and its image: it is due in the activation, or AUTO is set and it trained later with another
version. -/
def State.bfwDue (s : State) (k : Nat) : Option BfwImage :=
  let due := match s.fw.act with
    | some a => decide (6 ≤ s.get .DBG_UPD_STAT_PHASE) && a.todo.contains k
    | none => s.on .DBG_BFW_CFG_AUTO
  let mns := mnsOf (k - 4096)
  let ready := if k < 4096 then s.bfwState k
    else (mns.all fun n => s.mst n == 0 || s.mst n == 9 || s.bfwState n) &&
      !(match s.fw.act with
        | some a => mns.any fun n => a.todo.contains n
        | none => false)
  if due && ready && s.fw.bfw.isNone then s.fw.package.bind fun p => s.bridgeImage p k else none

/-- A little-endian 64-bit word of 8 bytes. -/
def word64 (b : List Nat) (o : Nat) : Nat := leAt b o 8

/-- The messages that carry an image: OFFER, DATA in pieces of 224 bytes, CHECK. -/
def bfwOffer (i : BfwImage) : List Nat := [1 + i.bytes * 2 ^ 32, i.version % 65536 + i.gen % 16 * 2 ^ 16 + i.crc * 2 ^ 32]
def bfwData (b : List Nat) (k : Nat) : List Nat := (2 + 224 * k * 2 ^ 32) :: (List.range 14).map fun j => word64 b (224 * k + 8 * j)

/-- Send messages of class BFW to a bridge or fan-out. The answers that BFW_UPDATE carries acknowledge them, and what was sent before. -/
def State.sendBfw (s : State) (k : Nat) (l : List (List Nat)) : State :=
  let p := if k < 4096 then portOf k else k - 4096
  let a := if k < 4096 then dropOf k else 0x40
  (s.emitMgmt p a (s.dx k).mseqTx (l.map fun m => { cls := 7, payload := m })).modDrop k fun d =>
    { d with mseqTx := (d.mseqTx + l.length) % 4096, unacked := [] }

/-- BFW_UPDATE: the image goes to bridge `mn` (4096 + port for a fan-out), which answers the OFFER and the CHECK; with both good it is told to
restart. An image that is not the package's changes nothing. -/
def execBfwUpdate (mn : Fin 4160) (image : List Nat) (offer check : Fin 4) (s : State) : Out :=
  match s.bfwDue mn with
  | none => fin s
  | some i =>
    if image.length ≠ i.bytes ∨ crc32c image ≠ i.crc then fin s
    else
      let old := if mn.val < 4096 then s.get .MECH_BRIDGE_BFW_VER mn else s.get .PEN_FANOUT_FW_VER (mn.val - 4096)
      let x := if s.fw.act.isSome then s.showUpd (if mn.val < 4096 then 6 else 7) (mn.val % 4096) else s
      let s1 := x.sendBfw mn [bfwOffer i]
      if offer.val ≠ 0 then fin (s1.bfwEnd mn offer old)
      else
        let s2 := s1.sendBfw mn (((List.range ((i.bytes + 223) / 224)).map (bfwData image)) ++ [[3]])
        if check.val ≠ 0 then fin (s2.bfwEnd mn check old)
        else fin ((s2.sendBfw mn [[4]]).modFw fun f => { f with bfw := some { mn := mn, image := i, since := s.now } })

/-- BFW_REBOOT_TIMEOUT: a drop that has not returned within REBOOT_MS of the ACTIVATE counts as failed, and R81 applies to it again. -/
def execBfwRebootTimeout (mn : Fin 4160) (s : State) : Out :=
  match s.fw.bfw with
  | some b => if b.mn = mn.val ∧ b.since + ms (s.get .DBG_BFW_CFG_REBOOT_MS) ≤ s.now then
      fin (s.bfwEnd mn 0xFF (if mn.val < 4096 then s.get .MECH_BRIDGE_BFW_VER mn else s.get .PEN_FANOUT_FW_VER (mn.val - 4096)))
    else fin s
  | none => fin s

end Sys2Proof.Machine
end

