-- ==== Sys2Proof/Machine/Service.lean ====
section
/-! DEFINITION. Timeouts above the blocks, steward event gathering, self-test and debug access (spec/17_dependability.md R467 to R474, R482 to
R487, R493). -/

namespace Sys2Proof.Machine

/-! ### The device supervisor (R471, R472) -/

/-- The crash record; `lost` marks the dwords of the core domain (3 to 12 and 14) that had not returned. -/
def State.crashRecord (s : State) (lost : Nat) : List Nat :=
  let core := fun (k : Nat) (v : Word) => if bitAt lost k = 1 then 0xFFFFFFFF else v.toNat
  let n := min ((s.get .DBG_CRASH_DWORD 15) % 65536 + 1) 65535
  [s.now % 2 ^ 32, s.now / 2 ^ 32, (s.rd .RST_CAUSE).toNat, core 3 (s.look .MCORE_GSTAT)] ++
  ((List.range 4).map fun c => core (4 + c) (s.rd .MCORE_STAT c)) ++ ((List.range 4).map fun c => core (8 + c) (s.rd .MCORE_TRAP_PC c)) ++
  [core 12 (BitVec.ofNat 32 (s.dbg.fabric.1 + s.dbg.fabric.2 * 65536)), s.pwr.kick, core 14 (s.look .HQP_MERGE), 2 ^ 31 + n]

/-- The core domain is silent: no kick for SUP_MS while ACTIVE, or BOOT_MS since the reset was released while it boots (R471). -/
def State.silent (s : State) : Bool :=
  if s.pst = 1 then decide (s.pwr.kickAt + ms (s.get .DBG_SUP_CFG_SUP_MS) ≤ s.now)
  else s.pst == 0 && decide (4 ≤ s.get .RST_STAT_STAGE) && decide (s.pwr.releasedAt + ms (s.get .DBG_SUP_CFG_BOOT_MS) ≤ s.now)

/-- SUPERVISOR_TIMEOUT: the core domain is silent. In THERMAL_STOP the shutdown comes first, and the doze and hibernate states do not count (R492). -/
def execSupervisorTimeout (lost : Fin 65536) (s : State) : Out :=
  if !s.warmOk || !s.silent then fin s
  else
    let rec_ := s.crashRecord lost
    let s1 := s.forEach (List.range 16) fun t i => t.set .DBG_CRASH_DWORD i (rec_.getD i 0)
    fin ((s1.modPwr fun p => { p with crashDue := true }).warmReset .RST_CAUSE_SUPERVISOR)

/-- Every RUNNING core has advanced its heartbeat within HB_MS. -/
def State.coresAlive (s : State) : Bool :=
  ((List.range 4).filter s.running).all fun c => decide (s.now < tabGet s.memx.hbAt c 0 + ms (s.get .MCORE_GCFG_HB_MS))

/-- SUP_KICK: the firmware writes DBG_SUP_KICK; it does so only while every RUNNING core is alive (R471). -/
def execSupKick (v : Word) (s : State) : Out :=
  if s.coreOn && !s.dozing && s.pwr.seq.isNone && s.coresAlive then fin (s.modPwr fun p => { p with kick := v.toNat, kickAt := s.now }) else fin s

/-! ### The fabric (R469) -/

/-- FABRIC_TIMEOUT: a transfer of requester r, whose code is `code`, to the block at base `base` has not completed FABRIC_US after it was granted. An
engine's operation starts again; the debug port has only the error response. -/
def execFabricTimeout (r : Requester) (code base : Fin 65536) (granted : Nat) (s : State) : Out :=
  if s.now < granted + us (s.get .DBG_FABRIC_FABRIC_US) then fin s else
  let s1 := (s.modDbg fun d => { d with fabric := (code.val, base.val) }).logEntry
    { cls := 1, code := 2, sev := 1, detail0 := code, detail1 := base }
  match r with
  | .core c => fin (if s.running c then s1.restartCore c 6 else s1)
  | .dma k cmds lost cw =>
    if 2 ≤ s.get .MEM_DMA_STAT_CSTATE k then fin s1
    else fin ((s1.haltDma k 3).failTransfers cmds lost (if 22 ≤ k.val then cw else none))
  | .lane f => fin (s1.takeFree.2.laneFault f s1.takeFree.1)
  | .decoder d => fin (s1.decoderWatchdog d false)
  | .engine => fin s1
  | .debug => fin s1

/-! ### Steward events (R473) -/

/-- EVENT_GATHER_END: the gathering period ends; what it gathered is posted and a new period starts, or the next rise is posted at once. -/
def execEventGatherEnd (s : State) : Out :=
  if !s.evt.gathering ∨ s.now < s.evt.since + ms 1 then fin s
  else
    let g := s.evt.gathered
    if g = 0 ∨ ¬ s.on .HQP_STEWARD_VALID then fin (s.modEvt fun e => { e with gathering := false })
    else fin ((s.modEvt fun e => { e with gathered := 0, since := s.now }).postSteward g)

/-! ### Self-test (R482 to R487) -/

/-- A test of a block begins: debug authentication ends (R483). -/
def State.beginTest (s : State) (cls i : Nat) (cmd : Bool) : State :=
  let s1 := ((s.modDbg fun d => { d with test := some (cls, i, cmd) }).set0 .DBG_AUTH_STAT_AUTH 0).set0 .DBG_BIST_STAT_ACTIVE 1
  if cmd then (s1.set0 .DBG_BIST_CMD_BUSY 1).set0 .DBG_BIST_CMD_RESULT 0 else s1

/-- Take a block out for its test (R485), or say why not: 2 condition not met, 4 no spare ready, 5 the port carries the steward. -/
def State.takeOut (s : State) (cls i : Nat) (cmd : Bool) : State × Nat :=
  let t := s.beginTest cls i cmd
  match cls with
  | 1 =>
    let role := s.get .CIRQ_STATUS_ROLE i
    if 17 ≤ i ∨ 1 < role then (s, 2)
    else if s.spare.isNone then (s, 4)
    else if role = 1 then (t.testCluster i 1, 0)
    else if s.hoRefusal i ≠ 0 then (s, 2) else (t.startPlanned i 1 0, 0)
  | 2 =>
    let st := s.get .FIRN_STATUS_LSTATE i
    if 272 ≤ i then (s, 2)
    else if st = 0 then (t.testLane i 4, 0)
    else if st = 1 then match s.freeLane with
      | some g => (t.startMigration i g 3, 0)
      | none => (s, 2)
    else (s, 2)
  | 3 =>
    let st := s.get .MOR_DEC_DSTATE i
    if 32 ≤ i ∨ 4 < st ∨ tabGet s.chan.decTest i 0 ≠ 0 then (s, 2)
    else
      let u := t.modChan fun c => { c with decTest := tabPut c.decTest i 4 0 }
      (if st = 0 then u.testDecoder i else u, 0)
  | 9 => if 4 ≤ i ∨ s.planErr i ≠ 0 then (s, 2) else ((t.restartCore i 5).requestTest 9 i, 0)
  | 10 =>
    if 4 ≤ i then (s, 2)
    else if s.on .HQP_STEWARD_VALID && s.get .HQP_STEWARD_STEWARD_FN / 64 == i then (s, 5)
    else ((t.portReset i).requestTest 10 i, 0)
  | _ => (s, 2)

/-- BIST_TEST_BLOCK: DBG_BIST_CMD OP 1. -/
def execBistTestBlock (cls : Fin 16) (index : Fin 512) (s : State) : Out := regCmd s fun s =>
  if s.on .DBG_BIST_CMD_BUSY || s.dbg.test.isSome || s.fw.act.isSome then fin (s.set0 .DBG_BIST_CMD_RESULT 3)
  else
    let s1 := (s.set0 .DBG_BIST_CMD_CLASS cls).set0 .DBG_BIST_CMD_INDEX index
    let r := s1.takeOut cls index true
    fin (if r.2 = 0 then r.1 else s1.set0 .DBG_BIST_CMD_RESULT r.2)

/-- The order of the periodic test (R486). -/
def periodicOrder : List (Nat × Nat) :=
  (List.range 17).map (fun i => (1, i)) ++ (List.range 272).map (fun i => (2, i)) ++ (List.range 32).map (fun i => (3, i)) ++
  (List.range 4).map fun i => (9, i)

/-- A new period begins, with every block to test; those of the last that could not be taken are among them. -/
def State.newRound (s : State) : State :=
  if s.now < s.dbg.roundAt + ms (3600000 * s.get .DBG_BIST_CFG_PERIOD_H) then s
  else s.modDbg fun d => { d with periodic := List.range periodicOrder.length, roundAt := s.now }

/-- PERIODIC_BIST: the first block that the round has still to test and that can be taken is tested. It waits while a live update runs (R492). -/
def execPeriodicBist (s : State) : Out :=
  if s.get .DBG_BIST_CFG_PERIOD_H = 0 ∨ s.fw.act.isSome ∨ s.dbg.test.isSome then fin s
  else
    let t := s.newRound
    match t.dbg.periodic.find? fun j => let b := periodicOrder.getD j (0, 0); (t.takeOut b.1 b.2 false).2 == 0 with
    | none => fin t
    | some j =>
      let b := periodicOrder.getD j (0, 0)
      fin ((t.takeOut b.1 b.2 false).1.modDbg fun d => { d with periodic := d.periodic.filter fun k => k != j })

/-- The block is under its test: 0 not any more, 1 not yet, 2 yes. -/
def State.testStage (s : State) (cls i : Nat) : Nat :=
  match cls with
  | 1 =>
    let moving := match s.cirq.ho with
      | some h => h.src == i
      | none => false
    if s.get .CIRQ_STATUS_ROLE i = 2 then 2 else if moving then 1 else 0
  | 2 => if s.get .FIRN_STATUS_LSTATE i = 3 then 2 else if (s.lane i).after = 3 then 1 else 0
  | 3 => if s.get .MOR_DEC_DSTATE i = 5 then 2 else if tabGet s.chan.decTest i 0 = 4 then 1 else 0
  | _ => 2

/-- What follows the test of a block (R484, R485). -/
def State.endTest (s : State) (cls i : Nat) (pass : Bool) : State :=
  match cls with
  | 1 => s.clusterTestEnd i pass
  | 2 => s.laneTestEnd i pass
  | 3 => s.decTestEnd i pass
  | 9 =>
    let s1 := s.returnBist 9 i
    if pass then s1
    else (((s1.set .MCORE_STAT_CSTATE i 3).raise .MCORE_EVENT_HELD).logEntry { cls := 2, code := 6, sev := 3, unit := i, detail0 := i }).followOwners
  | _ =>
    let s1 := s.returnBist 10 i
    if pass then s1 else s1.modDbg fun d => { d with deadPorts := i :: d.deadPorts.filter fun p => p != i }

/-- BIST_DONE: the online test ends; `memory` says which part failed. -/
def execBistDone (pass memory : Bool) (s : State) : Out :=
  match s.dbg.test with
  | none => fin s
  | some (cls, i, cmd) =>
    let st := s.testStage cls i
    let over_ := fun (t : State) (r : Nat) =>
      let u := (t.modDbg fun d => { d with test := none }).set0 .DBG_BIST_STAT_ACTIVE 0
      if cmd then (u.set0 .DBG_BIST_CMD_BUSY 0).set0 .DBG_BIST_CMD_RESULT r else u
    if st = 1 then fin s
    else if st = 0 then fin (over_ s 2)
    else
      let s1 := over_ (s.endTest cls i pass) (if pass then 0 else 1)
      fin (if pass then s1 else s1.selfTestFailed cls i (if memory then 2 else 1))

/-- BIST_WINDOW: DBG_BIST_CMD OP 2; the core-domain reset is held for the window, at most 3 s. -/
def execBistWindow (fail : Bool) (unit : Fin 16) (channels : Fin 256) (durMs : Fin 65536) (s : State) : Out := regCmd s fun s =>
  if s.on .DBG_BIST_CMD_BUSY || s.dbg.test.isSome then fin (s.set0 .DBG_BIST_CMD_RESULT 3)
  else if s.pst ≠ 1 ∨ ¬ s.idleOk then fin (s.set0 .DBG_BIST_CMD_RESULT 2)
  else
    fin ((s.modHost fun h => { h with keys := [] }).warmHeld .RST_CAUSE_SOFT (.window fail unit channels (min durMs 3000)))

/-! ### Debug access (R493) -/

/-- FLAGS.JTAG_OFF of the options. -/
def State.jtagOff (s : State) : Bool := bitAt (s.optByte 4) 1 == 1

/-- What refuses authentication: 3 JTAG_OFF, 2 LOCKED. -/
def State.authErr (s : State) : Nat := if s.jtagOff then 3 else if s.on .DBG_AUTH_STAT_LOCKED then 2 else 0

/-- AUTH_CHALLENGE: DBG_AUTH_CMD OP 1; the challenge is random. -/
def execAuthChallenge (s : State) : Out :=
  let e := s.authErr
  if e ≠ 0 then fin (s.set0 .DBG_AUTH_CMD_RESULT e)
  else
    let s1 := s.forEach (List.range 4) fun t i => t.setFree .DBG_AUTH_CHAL_DWORD i
    fin ((s1.modDbg fun d => { d with fresh := true }).set0 .DBG_AUTH_CMD_RESULT 0)

/-- AUTH_VERIFY: DBG_AUTH_CMD OP 2; `ok` is whether the signature verifies. -/
def execAuthVerify (ok : Bool) (s : State) : Out :=
  let e := s.authErr
  if e ≠ 0 then fin (s.set0 .DBG_AUTH_CMD_RESULT e)
  else if !s.dbg.fresh then fin (s.set0 .DBG_AUTH_CMD_RESULT 4)
  else
    let s1 := s.modDbg fun d => { d with fresh := false }
    if ok then fin ((s1.set0 .DBG_AUTH_STAT_AUTH 1).set0 .DBG_AUTH_CMD_RESULT 0)
    else
      let n := s.get .DBG_AUTH_STAT_FAILS + 1
      let s2 := (s1.set0 .DBG_AUTH_STAT_FAILS n).set0 .DBG_AUTH_CMD_RESULT 1
      fin (if 3 ≤ n then s2.set0 .DBG_AUTH_STAT_LOCKED 1 else s2)

/-- AUTH_END: DBG_AUTH_CMD OP 3. -/
def execAuthEnd (s : State) : Out := fin ((s.set0 .DBG_AUTH_STAT_AUTH 0).set0 .DBG_AUTH_CMD_RESULT 0)

end Sys2Proof.Machine
end

