-- ==== Sys2Proof/Machine/Access.lean ====
section
/-! DEFINITION. Register reads and writes by address, GPIOs, attention writes, the sideband commands and host links (spec/00_scope.md R8 to R11,
R561; spec/21_register_index.md R554 to R560; spec/12 R320, R334; spec/15 R428, R429; spec/16 R460; spec/19 R527 to R530). A write that carries an
action (a write-only operation field) is the command of that action's own row; here only what the same write stores is taken. -/

namespace Sys2Proof.Machine

/-! ### GPIOs (R527, R528) -/

/-- The filtered level of GPIO g becomes lvl: a selected edge sets its event bit, and its wake bit makes that a wake source (R527). -/
def State.gpioLevel (s : State) (g : Nat) (lvl : Bool) : State :=
  let inn := s.get .DRN_GPIO_IN_GPIO
  if (bitAt inn g == 1) = lvl then s
  else
    let s1 := s.set0 .DRN_GPIO_IN_GPIO (if lvl then inn + 2 ^ g else inn - 2 ^ g)
    let code := bitsOf (if g < 16 then s.rd .DRN_GPIO_EDGE_LO else s.rd .DRN_GPIO_EDGE_HI) (2 * (g % 16)) 2
    if bitAt code (if lvl then 0 else 1) = 0 then s1
    else
      let s2 := s1.set0 .DRN_GPIO_EVENT_GPIO (Nat.lor (s.get .DRN_GPIO_EVENT_GPIO) (2 ^ g))
      if bitAt (s.get .DRN_GPIO_WAKE_GPIO) g = 1 then s2.wake 5 else s2

/-- Every driven ball follows its output bit. -/
def State.gpioDrive (s : State) : State :=
  s.forEach ((List.range 32).filter fun g => bitAt (s.get .DRN_GPIO_OE_GPIO) g == 1) fun t g => t.gpioLevel g (bitAt (t.get .DRN_GPIO_OUT_GPIO) g == 1)

/-- GPIO_EDGE. -/
def execGpioEdge (g : Fin 32) (level : Bool) (s : State) : Out := fin (s.gpioLevel g level)

/-- GPIO_SET. -/
def execGpioSet (mask : Word) (s : State) : Out := regCmd s fun s =>
  fin ((s.set0 .DRN_GPIO_OUT_GPIO (Nat.lor (s.get .DRN_GPIO_OUT_GPIO) mask.toNat)).gpioDrive)

/-- GPIO_CLR. -/
def execGpioClr (mask : Word) (s : State) : Out := regCmd s fun s =>
  fin ((s.set0 .DRN_GPIO_OUT_GPIO (Nat.land (s.get .DRN_GPIO_OUT_GPIO) (0xFFFFFFFF - mask.toNat))).gpioDrive)

/-! ### Attention, partner wakes, host links (R88, R334, R460) -/

/-- ATTENTION_WRITE: a fenced function's is ignored (R328). -/
def execAttentionWrite (fn : FnIx) (s : State) : Out :=
  if s.closed || s.fenced fn || (s.fnx fn).stopping then fin s else fin ((s.modFn fn fun f => { f with scanDue := true }).wake 1)

/-- PARTNER_WAKE: seen on a port in LOWPOWER; it also wakes a dozing device. -/
def execPartnerWake (p : PortIx) (s : State) : Out :=
  if s.pstate p = 8 then fin (((s.raise .PEN_EVENT_WAKE_REQ p).wakePort p).wake 3) else fin s

/-- A stale space 2 item of a lane may run as its host port equalises (R193). -/
def State.hostCalDue (s : State) (index : Nat) : Bool :=
  let r := s.calRec 2 index 0
  s.on .MECH_CAL_CFG_AUTO_DEV && needsRun r 0 && decide (r.fails.getD 0 0 < s.get .MECH_CAL_CFG_FAIL_STOP) && r.retryAt.getD 0 0 == 0

/-- The widths and rates that a host port trains to: x8, x4, x2 or x1 at 5.0, 4.0 or 3.0 (R3, HQP_PORT). -/
def linkTrains (width rate : Nat) : Bool :=
  (width == 1 || width == 2 || width == 4 || width == 8) && decide (3 ≤ rate) && decide (rate ≤ 5)

/-- The host ports are held in electrical idle: the core domain is off or in reset, its PLL has not locked, or the boot has stopped (R454, R461). -/
def State.linksHeld (s : State) : Bool :=
  !s.coreOn || s.pwr.seq.isSome || s.pwr.bootStop || (s.pst == 0 && decide (s.get .RST_STAT_STAGE < 5))

/-- HOST_LINK_UP: host port p comes up with a width and a rate. A port that is held, that the options switch off, that failed its test, or that waits in a
test mode does not come up, nor does one at a width or rate that the part has not (R3). -/
def execHostLinkUp (p : HostPort) (width rate : Fin 16) (s : State) : Out :=
  if s.linksHeld ∨ s.dbg.deadPorts.contains p.val ∨ bitAt (s.optByte 5) p = 1 ∨ s.pwr.testen ∨ linkTrains width rate = false then fin s
  else
    let s1 := (((s.set .HQP_PORT_UP p 1).set .HQP_PORT_WIDTH p width).set .HQP_PORT_RATE p rate).set .HQP_PORT_L1 p 0
    let due := ((List.range (min width.val 8)).map fun l => p.val * 8 + l).filter s1.hostCalDue
    fin (s1.forEach due fun t i => t.beginRun 2 i 0 0)

/-! ### MCTP (R530, R539) -/

/-- An MCTP message wakes the device, and its answer follows; during a boot, a resume, or an entry into HIBERNATE that it ends, it is held. -/
def State.mctpTake (s : State) (r : MctpReq) : State :=
  let t := s.wake 6
  if t.pst = 0 ∨ (t.pst = 5 ∧ s.hibWakes 6) then t.mctpHold r else t.mctpAnswer r

def execMctpControl (req : List Nat) (s : State) : Out := fin (s.mctpTake (.control req))
def execMctpStatus (s : State) : Out := fin (s.mctpTake .status)
def execMctpReadRegister (offset : Nat) (s : State) : Out := fin (s.mctpTake (.readRegister offset))
def execMctpTelemetry (mn : Fin 65536) (s : State) : Out := fin (s.mctpTake (.telemetry mn))
def execMctpLogEntries (seq : Nat) (count : Fin 256) (s : State) : Out := fin (s.mctpTake (.logEntries seq count))

/-- SMB_ALERT_L is driven low: an enabled bit of DBG_EVT_SUM reads 1 (R531). -/
def State.smbAlertLow (s : State) : Bool := s.evtOn != 0

/-! ### Register reads -/

/-- A dword of BAR2 as it reads: the MSI-X table, the Pending Bit Array, else 0 (R560). -/
def State.bar2At (s : State) (a : Nat) : Word :=
  let o := a % 0x10000
  let n := vectorsOf (fnAt a)
  if o < 16 * n ∨ (0x8000 ≤ o ∧ o < 0x8000 + n / 8) then s.readBar2 a else 0

/-- What a read does to the register read: an RC field clears, a LO half of device time latches the upper half, a HI half takes the latch (R10, R424). -/
def State.readEffect (s : State) (e : RegEntry) (i j : Nat) : State :=
  let hi := s.now / 2 ^ 32
  if isReg e .DRN_TIME_LO then { s with time := { s.time with drnHi := some hi } }
  else if isReg e .DRN_TIME_HI then { s with time := { s.time with drnHi := none } }
  else if isReg e .FN_TIME_LO then { s with time := { s.time with fnHi := tabPut s.time.fnHi i (some hi) none } }
  else if isReg e .FN_TIME_HI then { s with time := { s.time with fnHi := tabPut s.time.fnHi i none none } }
  else
    let w := s.rd e.reg i j
    let v := e.flds.foldl (fun (w : Word) f => if f.acc = .rc then withBits w f.lo f.width 0 else w) w
    if v = w then s else s.wr e.reg i j v

/-- A read of the setup window or a BAR0 by the steward, the debug port or a host: the data, and the effects of the read. -/
def State.readReg (s : State) (a : Nat) : State :=
  let s1 := s.emit (.regData a (s.readAt a))
  match findReg a with
  | some (e, i, j) => s1.readEffect e i j
  | none => s1

/-- REGISTER_READ. The doze shadow serves BAR0 and BAR2 without a wake and without effects (R428, R557); THERMAL_STOP answers no read (R441). -/
def execRegisterRead (addr : Nat) (s : State) : Out :=
  if addr % 4 ≠ 0 then .fault .misaligned
  else if inSetup addr = false ∧ inBar0 addr = false ∧ inBar2 addr = false then .fault .noSuchAddress
  else if s.pst = 7 then fin (s.emit (.unsupported (if inSetup addr then s.get .HQP_STEWARD_STEWARD_FN else fnAt addr)))
  else if s.closed then fin s
  else if inSetup addr then fin ((s.dozeWake 2).readReg addr)
  else if inBar2 addr then fin (s.emit (.regData addr (s.bar2At addr)))
  else if s.dozing then fin (s.emit (.regData addr (s.readAt addr)))
  else fin (s.readReg addr)

/-! ### The values a write may give a field (R282, R317, R322, R351, R418, R447, R494, R508, R561) -/

/-- A field and the least and greatest value that a write may give it. -/
structure FldRange where
  fld : Fld
  least : Nat
  most : Nat

/-- Fields whose range leaves the whole register unchanged: DRN, SAFE, DBG, FIRN. -/
def rangesA : List FldRange :=
  [⟨.DRN_DOZE_CFG_IDLE_MS, 1, 0xFFFF⟩, ⟨.DRN_PWR_CFG_PG_TO_MS, 1, 255⟩, ⟨.DRN_PWR_CFG_STEP_US, 10, 0xFFFF⟩,
   ⟨.DRN_THERM_CFG_TSD, 1520, 1920⟩, ⟨.DRN_THERM_CFG_TWARN, 1280, 1904⟩, ⟨.DRN_THERM_LIM_TRIP_MAX, 1, 255⟩,
   ⟨.DRN_THERM_LIM_TRIP_HOLD_S, 1, 255⟩, ⟨.SAFE_CFG_DISC_MS, 20, 2000⟩, ⟨.DBG_DEADLINE_MOUNT_S, 1, 1023⟩,
   ⟨.DBG_DEADLINE_ADMIN_S, 1, 1023⟩, ⟨.DBG_DEADLINE_IO_S, 1, 1023⟩, ⟨.DBG_FABRIC_FABRIC_US, 100, 0xFFFF⟩,
   ⟨.DBG_LOG_CFG_EVT_SEV, 0, 3⟩, ⟨.DBG_LOG_CFG_RATE, 1, 255⟩, ⟨.DBG_BFW_CFG_REBOOT_MS, 100, 60000⟩,
   ⟨.DBG_SUP_CFG_BOOT_MS, 1000, 0xFFFF⟩, ⟨.DBG_SUP_CFG_SUP_MS, 500, 0xFFFF⟩,
   ⟨.FIRN_RD_CFG_ACQ_BITS, 16, 255⟩, ⟨.FIRN_RD_CFG_KP_ACQ, 1, 15⟩, ⟨.FIRN_RD_CFG_KI_ACQ, 1, 15⟩, ⟨.FIRN_RD_CFG_KP_TRK, 1, 15⟩,
   ⟨.FIRN_RD_CFG_KI_TRK, 1, 15⟩, ⟨.FIRN_RD_CFG_MU, 4, 15⟩, ⟨.FIRN_AGC_CFG_AGC_TGT, 16, 255⟩, ⟨.FIRN_AGC_CFG_A_T, 4, 80⟩,
   ⟨.FIRN_AGC_CFG_AGC_SHIFT_ACQ, 4, 15⟩, ⟨.FIRN_AGC_CFG_AGC_SHIFT_TRK, 4, 15⟩, ⟨.FIRN_AGC_CFG_DC_SHIFT, 6, 15⟩,
   ⟨.FIRN_DEF_CFG_DROP_TH, 8, 127⟩, ⟨.FIRN_DEF_CFG_OVER_TH, 129, 255⟩, ⟨.FIRN_DEF_CFG_DROP_N, 1, 15⟩,
   ⟨.FIRN_SYNC_CFG_ERASE_MAX, 0, 36864⟩, ⟨.FIRN_SYNC_CFG_SYNC_TOL, 0, 12⟩, ⟨.FIRN_SYNC_CFG_SYNC_WIN, 4, 63⟩,
   ⟨.FIRN_BD_CFG_BD_ERASE_TH, 0, 31⟩, ⟨.FIRN_BD_CFG_RE_WR_X, 1, 2⟩, ⟨.FIRN_BD_CFG_WR_X, 1, 8⟩, ⟨.FIRN_BD_CFG_RD_X, 1, 12⟩]

/-- The same: MOR, BRTH, HQP, MEM, MCORE, FN. -/
def rangesB : List FldRange :=
  [⟨.MOR_GCFG_PARK_MAX, 1, 15⟩, ⟨.MOR_GCFG_NEAR_US, 1, 255⟩, ⟨.MOR_GCFG_RETRY_REVS, 1, 15⟩, ⟨.MOR_GCFG_WALL_US, 10, 200⟩,
   ⟨.MOR_TIMING_WDOG_US, 100, 10000⟩, ⟨.MOR_SET_MAX_ITER, 1, 128⟩, ⟨.BRTH_GCFG_AGE_MS, 1, 0xFFFF⟩,
   ⟨.BRTH_GCFG_THROTTLE_MIN, 16, 255⟩, ⟨.BRTH_GCFG_OVER_MS, 1, 255⟩, ⟨.BRTH_BIST_CFG_BUDGET_MW, 1000, 0xFFFF⟩,
   ⟨.HQP_GCFG_FETCH_US, 10, 255⟩, ⟨.HQP_GCFG_FETCH_TRIES, 1, 15⟩, ⟨.HQP_GCFG_POLL_MIN_US, 1, 255⟩, ⟨.HQP_FN_CFG_WEIGHT, 1, 255⟩,
   ⟨.HQP_FN_CFG_QP_QUOTA, 1, 65536⟩, ⟨.HQP_FN_TAGQ_TAG_QUOTA, 1, 262144⟩, ⟨.HQP_FN_KEYS_COUNT, 0, 4096⟩,
   ⟨.MEM_MERGE_CFG_IDLE_CYC, 4, 255⟩, ⟨.MEM_DDR_CFG_RETUNE_DELTA, 16, 255⟩, ⟨.MEM_DDR_CFG_HIT_MAX, 1, 15⟩,
   ⟨.MEM_DDR_TEST_CTRL_LEN_KIB, 1, 0xFFFF⟩, ⟨.MCORE_GCFG_HB_MS, 10, 10000⟩, ⟨.FN_AQ_CFG_CQ_LOG2, 4, 12⟩, ⟨.FN_AQ_CFG_SQ_LOG2, 4, 12⟩,
   ⟨.FN_DB_TBL_CFG_PAGES, 1, 128⟩]

/-- Fields for which a value outside the range is ignored by that field alone (R561). -/
def rangesF : List FldRange :=
  [⟨.MECH_CAL_CFG_FAIL_STOP, 1, 15⟩, ⟨.MECH_CAL_CFG_RETRY_S, 1, 255⟩, ⟨.MECH_CAL_CFG_TEMP_DELTA, 8, 160⟩, ⟨.PEN_CFG_PHASE, 0, 16⟩,
   ⟨.PEN_CFG_MAX_VER, 0, 2⟩, ⟨.PEN_CFG_RATE, 0, 2⟩, ⟨.PEN_GCFG_LOCK_TO_MS, 1, 255⟩, ⟨.PEN_GCFG_RETRY_MS, 1, 255⟩,
   ⟨.PEN_GCFG_MISS_LIMIT, 1, 7⟩, ⟨.CIRQ_GCFG_HOLD_MAX, 1, 64⟩, ⟨.CIRQ_CAP_PAGE_PAGE, 0, 260⟩, ⟨.FLOE_GCFG_OPEN_MAX, 1, 255⟩,
   ⟨.FLOE_GCFG_CLOSE_MS, 1, 0xFFFF⟩, ⟨.FLOE_ACC_ACC_MIB, 64, 4095⟩, ⟨.MEM_DDR_CFG_PAGE_POLICY, 0, 2⟩, ⟨.MEM_DDR_TEST_CTRL_PATTERN, 0, 3⟩,
   ⟨.MCORE_PERF_SEL_SEL3, 0, 8⟩, ⟨.MCORE_PERF_SEL_SEL2, 0, 8⟩, ⟨.MCORE_PERF_SEL_SEL1, 0, 8⟩, ⟨.MCORE_PERF_SEL_SEL0, 0, 8⟩]

/-- Two fields are the same one. -/
def sameFld (a b : Fld) : Bool := a.reg.base == b.reg.base && a.lo == b.lo

/-- The range of a field in a list holds v. -/
def rangeOk (l : List FldRange) (f : Fld) (v : Nat) : Bool :=
  l.all fun r => !sameFld r.fld f || (decide (r.least ≤ v) && decide (v ≤ r.most))

/-- The pull codes of 16 GPIOs, a code 3 ignored for its GPIO alone. -/
def pullWord (old v : Word) : Nat :=
  (List.range 16).foldl (fun a i => let c := bitsOf v (2 * i) 2; a + (if c = 3 then bitsOf old (2 * i) 2 else c) * 4 ^ i) 0

/-- The value that a write of v leaves in a field's bits of the dword w (R10, R561). -/
def putField (w v : Word) (f : Fld) : Word :=
  let n := bitsOf v f.lo f.width
  match f.acc with
  | .rw =>
    if sameFld f .DRN_GPIO_PULL_LO_PULL || sameFld f .DRN_GPIO_PULL_HI_PULL then BitVec.ofNat 32 (pullWord w v)
    else if rangeOk rangesF f n then withBits w f.lo f.width n else w
  | .w1c => withBits w f.lo f.width (Nat.land (bitsOf w f.lo f.width) (2 ^ f.width - 1 - n))
  | .w1s => withBits w f.lo f.width (Nat.lor (bitsOf w f.lo f.width) n)
  | .ro | .rc | .wo => w

/-- Sum of a field over the functions, function fn taken to hold v. -/
def State.fnSum (s : State) (f : Fld) (fn v : Nat) : Nat :=
  (List.range 256).foldl (fun a k => a + if k = fn then v else s.get f k) 0

/-- The key slots BASE to BASE + COUNT - 1 of function fn lie in the table and meet no other function's (R351). -/
def State.keysFree (s : State) (fn base count : Nat) : Bool :=
  decide (base + count ≤ 4096) &&
  (count == 0 || (List.range 256).all fun k =>
    let b := s.get .HQP_FN_KEYS_BASE k
    let c := s.get .HQP_FN_KEYS_COUNT k
    k == fn || c == 0 || decide (base + count ≤ b) || decide (b + c ≤ base))

/-- What relates two fields of the new dword w of register e (i, j), or it to other registers. -/
def State.relationsOk (s : State) (e : RegEntry) (i : Nat) (w : Word) : Bool :=
  let g := fun (f : Fld) => bitsOf w f.lo f.width
  if isReg e .DRN_THERM_CFG then decide (g .DRN_THERM_CFG_TWARN + 16 ≤ g .DRN_THERM_CFG_TSD)
  else if isReg e .DRN_FAN_CURVE_T then
    decide (bitsOf w 0 8 < bitsOf w 8 8) && decide (bitsOf w 8 8 < bitsOf w 16 8) && decide (bitsOf w 16 8 < bitsOf w 24 8)
  else if isReg e .MOR_SET then g .MOR_SET_ALPHA == 0 || decide (8 ≤ g .MOR_SET_ALPHA)
  else if isReg e .HQP_GCFG then decide (g .HQP_GCFG_POLL_MIN_US ≤ g .HQP_GCFG_POLL_MAX_US)
  else if isReg e .HQP_FN_CFG then decide (s.fnSum .HQP_FN_CFG_QP_QUOTA i (g .HQP_FN_CFG_QP_QUOTA) ≤ 65536)
  else if isReg e .HQP_FN_TAGQ then decide (s.fnSum .HQP_FN_TAGQ_TAG_QUOTA i (g .HQP_FN_TAGQ_TAG_QUOTA) ≤ 262144)
  else if isReg e .HQP_FN_KEYS then s.keysFree i (g .HQP_FN_KEYS_BASE) (g .HQP_FN_KEYS_COUNT)
  else if isReg e .FN_AQ_CFG then decide (g .FN_AQ_CFG_VECTOR < vectorsOf i)
  else if isReg e .BRTH_DOM_RESERVE then decide (w.toNat ≤ s.get .BRTH_DOM_BUDGET_MW i)
  else if isReg e .MECH_SLED_LIM_IN then decide (signed 32 w.toNat < signed 32 (s.get .MECH_SLED_LIM_OUT_LIM i))
  else if isReg e .MECH_SLED_LIM_OUT then decide (signed 32 (s.get .MECH_SLED_LIM_IN_LIM i) < signed 32 w.toNat)
  else true

/-- The dword w may stand in register e (i, j). -/
def State.legalWord (s : State) (e : RegEntry) (i : Nat) (w : Word) : Bool :=
  (e.flds.all fun f => f.acc != .rw || (rangeOk rangesA f (bitsOf w f.lo f.width) && rangeOk rangesB f (bitsOf w f.lo f.width))) &&
  s.relationsOk e i w

/-- A write to register e (i, j) is ignored: the register belongs to the firmware, to rows of its own, to a function that is enabled, to a PF, or to
an authenticated debug port. -/
def State.writeIgnored (s : State) (e : RegEntry) (i : Nat) : Bool :=
  if isReg e .DRN_WAKE_LO || isReg e .DRN_WAKE_HI then decide (i < 2)
  else if isReg e .MEM_RIME_CTRL then true
  else if isReg e .FN_AQ_SQ_LO || isReg e .FN_AQ_SQ_HI || isReg e .FN_AQ_CQ_LO || isReg e .FN_AQ_CQ_HI || isReg e .FN_AQ_CFG ||
    isReg e .FN_DB_TBL_LO || isReg e .FN_DB_TBL_HI || isReg e .FN_DB_TBL_CFG then s.on .FN_CTRL_EN i
  else if isReg e .FN_CLAIM_TOKEN then !isPf i
  else if isReg e .MCORE_TRACE_CTRL then !s.debugAuth
  else false

/-- A command register that is busy: the field in which it then shows RESULT 3, if it has one. -/
def State.writeBusy (s : State) (e : RegEntry) (i : Nat) : Option (Option Fld) :=
  if isReg e .DRN_PCTRL && s.on .DRN_PCTRL_BUSY then some (some .DRN_PCTRL_RESULT)
  else if isReg e .RST_BLK_CMD && s.on .RST_BLK_CMD_BUSY then some (some .RST_BLK_CMD_RESULT)
  else if isReg e .DBG_BIST_CMD && s.on .DBG_BIST_CMD_BUSY then some (some .DBG_BIST_CMD_RESULT)
  else if isReg e .MEM_DDR_CMD && s.on .MEM_DDR_CMD_BUSY then some (some .MEM_DDR_CMD_RESULT)
  else if isReg e .MCORE_CMD && s.on .MCORE_CMD_BUSY then some (some .MCORE_CMD_RESULT)
  else if isReg e .HQP_FENCE && s.on .HQP_FENCE_BUSY then some (some .HQP_FENCE_RESULT)
  else if (isReg e .RST_OPT_CMD && s.on .RST_OPT_CMD_BUSY) || (isReg e .DBG_AUTH_CMD && s.on .DBG_AUTH_CMD_BUSY) ||
    (isReg e .MECH_SLED_TBL_CTRL && s.on .MECH_SLED_TBL_CTRL_BUSY) || (isReg e .MECH_CAL_CMD && s.on .MECH_CAL_CMD_BUSY) ||
    (isReg e .CIRQ_COEF_CMD && s.on .CIRQ_COEF_CMD_BUSY) || (isReg e .FN_CLAIM_CMD && s.on .FN_CLAIM_CMD_BUSY i) then some none
  else none

/-! ### What follows a write -/

/-- A register of the power arbiter has been written: every domain is evaluated again (R306, R309, R315). -/
def State.brthWritten (s : State) : State := (s.forEach (List.range 8) State.reevaluate).grantBist

/-- Selectors of MCORE_PERF_SEL[c] that the write names clear their counters. -/
def State.perfWritten (s : State) (c : Nat) (v : Word) : State :=
  s.forEach ((List.range 4).filter fun k => decide (bitsOf v (8 * k) 8 ≤ 8)) fun t k => t.wr .MCORE_PERF c k 0

/-- What a write of a register of HQP commands, memory, cores or debug does beside storing. -/
def State.writeEffectB (s : State) (e : RegEntry) (i : Nat) (old v : Word) : State :=
  if isReg e .MEM_DDR_DLY then s.set0 .MEM_DDR_CMD_PENDING (Nat.lor (s.get .MEM_DDR_CMD_PENDING) (2 ^ i))
  else if isReg e .MCORE_PERF_SEL then s.perfWritten i v
  else if isReg e .MCORE_TRACE_CTRL then
    s.forEach ((List.range 4).filter fun c => bitAt old.toNat c == 0 && bitAt v.toNat c == 1) fun t c => t.set .MCORE_TRACE_PTR_FROZEN c 0
  else if isReg e .DBG_AUTH_RESP then s.wr e.reg i 0 v
  else if isReg e .MECH_CAL_CMD then if 5 ≤ bitsOf v 0 3 then s.set0 .MECH_CAL_CMD_ERR 6 else s
  else if isReg e .MEM_DDR_CMD then if 2 ≤ bitsOf v 8 3 then s.set0 .MEM_DDR_CMD_RESULT 2 else s
  else if isReg e .CIRQ_COEF_CMD then if 6 ≤ bitsOf v 0 3 then s.set0 .CIRQ_COEF_CMD_ERR 5 else s
  else s

/-- A register of Breath whose write has every domain evaluated again (R306, R309, R315). -/
def isBrth (e : RegEntry) : Bool :=
  isReg e .BRTH_GCFG || isReg e .BRTH_BIST_CFG || isReg e .BRTH_DOM_BUDGET || isReg e .BRTH_DOM_RESERVE || isReg e .BRTH_DOM_KEEP ||
  isReg e .BRTH_DOM_FIXED || isReg e .BRTH_CLS_SPIN || isReg e .BRTH_CLS_START || isReg e .BRTH_CLS_MOVE || isReg e .BRTH_CLS_IDLE ||
  isReg e .BRTH_PORT

/-- The effects of a write of v to register e (i, j), which now holds its new dword; `old` is what it held. -/
def State.writeEffect (s : State) (e : RegEntry) (i : Nat) (old v : Word) : State :=
  if isReg e .MECH_CFG then if isRest (s.mst i) then s.applyCfg i else s
  else if isReg e .PEN_CFG then
    match bitsOf old 0 1, bitsOf v 0 1 with
    | 0, 1 => s.portEnable i
    | 1, 0 => s.portDisable i
    | _, _ => s
  else if isReg e .DRN_FAN_CURVE_T || isReg e .DRN_FAN_CURVE_D || isReg e .DRN_FAN_CFG then (s.modPwr fun p => { p with fanSet := true }).fanUpdate
  else if isReg e .DRN_WAKE_LO || isReg e .DRN_WAKE_HI then s.timerDue i
  else if isReg e .DRN_GPIO_OUT || isReg e .DRN_GPIO_OE then s.gpioDrive
  else if isBrth e then s.brthWritten
  else s.writeEffectB e i old v

/-- DRN_WAKE_CTRL: the steward arms timers 2 and 3 and clears FIRED bits; a time already passed fires at once. -/
def State.writeWakeCtrl (s : State) (v : Word) : State :=
  let en := bitsOf (s.rd .DRN_WAKE_CTRL) 0 2 + bitsOf v 2 2 * 4
  let s1 := (s.set0 .DRN_WAKE_CTRL_EN en).set0 .DRN_WAKE_CTRL_FIRED (Nat.land (s.get .DRN_WAKE_CTRL_FIRED) (15 - bitsOf v 8 4))
  (s1.timerDue 2).timerDue 3

/-- The dword that a write of v leaves in register e (i, j); PEN_CFG.EN and FN_CTRL.EN change with the enable and disable of the port or function. -/
def State.written (s : State) (e : RegEntry) (i j : Nat) (v : Word) : Word :=
  let old := s.rd e.reg i j
  let w := e.flds.foldl (fun w f => putField w v f) old
  if isReg e .PEN_CFG || isReg e .FN_CTRL then withBits w 0 1 (bitsOf old 0 1) else w

/-- Store a dword in register (i, j) unless it holds it already. -/
def State.store (s : State) (r : Reg) (i j : Nat) (w : Word) : State := if w = s.rd r i j then s else s.wr r i j w

/-- A write of all four bytes to register e (i, j). -/
def State.writeReg (s : State) (e : RegEntry) (i j : Nat) (v : Word) : State :=
  if s.writeIgnored e i then s
  else match s.writeBusy e i with
    | some (some f) => s.set0 f 3
    | some none => s
    | none =>
      if isReg e .DRN_WAKE_CTRL then s.writeWakeCtrl v
      else if s.legalWord e i (s.written e i j v) = false then s
      else (s.store e.reg i j (s.written e i j v)).writeEffect e i (s.rd e.reg i j) v

/-- A write to BAR2: a vector that is unmasked while its pending bit is set sends its message (R560). The Pending Bit Array is read only. -/
def State.writeBar2 (s : State) (a : Nat) (v : Word) : State :=
  let fn := fnAt a
  let o := a % 0x10000
  let k := o / 16
  if 16 * vectorsOf fn ≤ o then s
  else
    let s1 := s.msixWr fn o (if o % 16 = 12 then v.toNat % 2 else v.toNat)
    let pba := 0x8000 + k / 32 * 4
    let bits := s.msixRd fn pba
    if o % 16 = 12 ∧ v.toNat % 2 = 0 ∧ bitAt bits (k % 32) = 1 then (s1.msixWr fn pba (bits - 2 ^ (k % 32))).emit (.msix fn k) else s1

/-- REGISTER_WRITE: byte enables that do not cover the dword discard the write, which is logged (R8). -/
def execRegisterWrite (addr : Nat) (value : Word) (be : Fin 16) (s : State) : Out :=
  if addr % 4 ≠ 0 then .fault .misaligned
  else if inSetup addr = false ∧ inBar0 addr = false ∧ inBar2 addr = false then .fault .noSuchAddress
  else if s.closed then fin s
  else
    let s1 := if inBar2 addr then s else s.dozeWake 2
    if be.val ≠ 15 then fin (s1.logEntry
      { cls := 1, code := 1, sev := 0, fn := if inSetup addr then 0xFFFF else fnAt addr,
        detail0 := if inSetup addr then addr else addr % 0x10000, detail1 := be })
    else if inBar2 addr then fin (s1.writeBar2 addr value)
    else match findReg addr with
      | some (e, i, j) => fin (s1.writeReg e i j value)
      | none => fin s1

end Sys2Proof.Machine
end

