-- ==== Sys2Proof/Machine/CalibCmds.lean ====
section
/-! DEFINITION. Calibration runs as they start, go on and end (spec/07_calibration.md R190 to R203, R208). -/

namespace Sys2Proof.Machine

/-! ### The write and the read-back of an OPC (R197) -/

/-- The test block of an OPC as a place. -/
def opcCluster (block : Nat) : Nat := 0xF0840 + block

/-- An OPC turns to the angle of its block: the run whose angle is that of the head relative to the block's first bit. -/
def State.opcRun (s : State) (n layer block : Nat) : RunX :=
  let r := if isBd (s.get .MECH_DISC_MEDIA n) then Config.bdTestRadius (s.disc n).bdCapacity block * 2 ^ 24 else s.clusterRadius n layer (opcCluster block)
  { s.runToward n r with opc := some 0 }

/-- The write of an OPC begins: the bridge has the levels of step 0, those of step 1 go to its other bank. -/
def State.startOpcWrite (s : State) (f n : Nat) (r : CalRunX) : State :=
  let s1 := (s.modLane f fun x => { x with run := some (s.opcRun n r.layer r.block) }).set .FIRN_STATUS_WRITE f 1
  let s2 := s1.forEach (List.range 4) fun t b => if t.get .FIRN_BEAM_TSTATE f b = 6 then t else t.set2 .FIRN_BEAM_TSTATE f b 7
  (s2.loadLevels f (s2.opcLevels n r.layer 1)).modRun n fun x => { x with phase := 1 }

/-- An OPC on its way (R197): the head on the layer, the lane with its downstream burst, the levels of step 0 in the bridge, the WRITE grant. -/
def State.opcToward (s : State) (n : Nat) (r : CalRunX) : State :=
  let s0 := s.wantHead n r.layer (opcCluster r.block)
  match s0.laneOf n with
  | none => s0
  | some f =>
    let first := s0.opcLevels n r.layer 0
    if s0.on .FIRN_STATUS_WRITE f || !s0.permit n || (s0.sx n).layer != r.layer then s0
    else if !s0.liveBurst n true then s0.turnBurst n true (s0.singleBeam n)
    else if (s0.lane f).levels ≠ first then s0.loadLevels f first
    else if (s0.lane f).bankNext.isSome then s0
    else match s0.askWrite n 0 none with
      | (t, .granted) => t.startOpcWrite f n r
      | (t, .deferred) => t
      | (t, .refused) => (t.abandonSome n fun _ i => i == 5).failWrites n r.layer 0x040B

/-- The block of an OPC is written, or its read-back is prepared: the burst turns to the upstream direction, and the block is read from its first bit on. -/
def State.opcOn (s : State) (n : Nat) (r : CalRunX) : State := match s.laneOf n with
  | none => s
  | some f =>
    if r.phase = 1 then
      match (s.lane f).run with
      | none => s.abandonSome n fun _ i => i == 5
      | some x =>
        if (opcBits : Int) * 65536 ≤ s.bitAtAngle n x.r0 (s.turnRun n x).ang then
          let s1 := ((s.set .FIRN_STATUS_WRITE f 0).searchAgain f).returnGrant n fun g => { g with write := none }
          (s1.turnBurst n false (s.singleBeam n)).modRun n fun y => { y with phase := 2 }
        else s
    else if r.phase = 2 ∧ s.liveBurst n false then
      let x := s.opcRun n r.layer r.block
      (s.modLane f fun y => { y with run := some x, opcRead := true }).modRun n fun y => { y with phase := 3, ang := x.ang }
    else s

/-- An OPC that runs goes on: toward its block, through the write, to the read-back. -/
def State.opcStep (s : State) (n : Nat) : State := match (s.sx n).run with
  | none => s
  | some r => if r.item ≠ 5 then s else if r.phase = 0 then s.opcToward n r else s.opcOn n r

/-! ### The commands -/

/-- CAL_RUN_START (R191 to R193, R196): a run starts, or the OPC that runs goes on. -/
def execCalRunStart (space : Fin 4) (index : Fin 4096) (layer : Fin 10) (item : Fin 6) (probe : Fin 4097) (s : State) : Out :=
  let l := calLayer space layer
  if (s.calRec space index l).running.contains item.val then fin (if space.val = 0 ∧ item.val = 5 then s.opcStep index else s)
  else if ¬ s.runAllowed space index l item then fin s
  else if space.val = 0 ∧ item.val = 5 then fin (s.startOpc index l probe)
  else fin (s.beginRun space index l item)

/-- CAL_RUN_DONE: a run has measured all it needs, and its result passes or fails (R198). -/
def execCalRunDone (space : Fin 4) (index : Fin 4096) (layer : Fin 10) (item : Fin 6) (x : CalData) (s : State) : Out :=
  let l := calLayer space layer
  let r := s.calRec space index l
  if ¬ r.running.contains item.val ∨ space.val = 0 ∧ s.measuredAll index item = false then fin s
  else
    let res := s.calResult space index l item x
    let s0 := if space.val = 0 then s.endMeasure index item else s
    match res with
    | .pass d => fin (s0.passRun space index l item d)
    | .fail cause v =>
      let s1 := s0.failRun space index l item cause v
      let opc := space.val = 0 ∧ item.val = 5
      let s2 := if opc then s1.refreshLevels index else s1
      fin (if opc ∧ ¬ calValid r 5 then s2.failWrites index l 0x0320 else s2)

/-- CAL_RUN_NOW: MECH_CAL_CMD OP 3. -/
def execCalRunNow (items : Fin 64) (probe : Fin 4097) (s : State) : Out := regCmd s fun s =>
  s.calCmd items fun t space index layer =>
    if space = 2 then t.calErr items 5
    else if space = 0 ∧ ¬ (t.mst index = 6 ∨ t.mst index = 7) then t.calErr items 5
    else
      let sel := if space = 0 then (List.range 6).filter fun i => bitAt items i == 1 else [0]
      let t1 := t.modCal space index layer fun r =>
        { r with forced := r.forced ++ sel.filter (fun i => !r.forced.contains i),
                 fails := (List.range 6).map fun i => if sel.contains i then 0 else r.fails.getD i 0,
                 retryAt := (List.range 6).map fun i => if sel.contains i then 0 else r.retryAt.getD i 0 }
      t1.forEach sel fun u i =>
        if (u.calRec space index layer).running.contains i ∨ ¬ u.runAllowed space index layer i then u
        else if space = 0 ∧ i = 5 then u.startOpc index layer probe else u.beginRun space index layer i

end Sys2Proof.Machine
end

