-- ==== Sys2Proof/Machine/Dispatch.lean ====
section
/-! DEFINITION. The one table of meanings: one arm for each constructor of `Instr`. -/

namespace Sys2Proof.Machine

def exec (i : Instr) (s : State) : Host.Outcome State Fault Refusal :=
  match i with
  | .registerWrite addr value be => Sys2Proof.Machine.execRegisterWrite addr value be s
  | .bar4AccessDenied fn write => Sys2Proof.Machine.execBar4AccessDenied fn write s
  | .powerOnReset => Sys2Proof.Machine.execPowerOnReset s
  | .brownOutReset g => Sys2Proof.Machine.execBrownOutReset g s
  | .pinReset => Sys2Proof.Machine.execPinReset s
  | .softWarmReset key => Sys2Proof.Machine.execSoftWarmReset key s
  | .softPinReset key => Sys2Proof.Machine.execSoftPinReset key s
  | .debugReset => Sys2Proof.Machine.execDebugReset s
  | .lockupReset hang => Sys2Proof.Machine.execLockupReset hang s
  | .bootStageDone x => Sys2Proof.Machine.execBootStageDone x s
  | .optionProgram ok => Sys2Proof.Machine.execOptionProgram ok s
  | .optionRead slot => Sys2Proof.Machine.execOptionRead slot s
  | .blockReset cls index => Sys2Proof.Machine.execBlockReset cls index s
  | .trialConfirm => Sys2Proof.Machine.execTrialConfirm s
  | .xtalLost => Sys2Proof.Machine.execXtalLost s
  | .xtalRelock => Sys2Proof.Machine.execXtalRelock s
  | .refclkLost => Sys2Proof.Machine.execRefclkLost s
  | .timeRatioMeasure ticks => Sys2Proof.Machine.execTimeRatioMeasure ticks s
  | .dozeIdle => Sys2Proof.Machine.execDozeIdle s
  | .dozeRequest => Sys2Proof.Machine.execDozeRequest s
  | .hibernateRequest retain => Sys2Proof.Machine.execHibernateRequest retain s
  | .wake src => Sys2Proof.Machine.execWake src s
  | .wakeTimer k => Sys2Proof.Machine.execWakeTimer k s
  | .retryWake => Sys2Proof.Machine.execRetryWake s
  | .pgoodTimeout => Sys2Proof.Machine.execPgoodTimeout s
  | .powerRetry => Sys2Proof.Machine.execPowerRetry s
  | .tempSample temps => Sys2Proof.Machine.execTempSample temps s
  | .fanUpdate => Sys2Proof.Machine.execFanUpdate s
  | .tachMeasure k edges => Sys2Proof.Machine.execTachMeasure k edges s
  | .thermalStop => Sys2Proof.Machine.execThermalStop s
  | .thermalRestart => Sys2Proof.Machine.execThermalRestart s
  | .tcritTrip sensor => Sys2Proof.Machine.execTcritTrip sensor s
  | .tripRestart => Sys2Proof.Machine.execTripRestart s
  | .supervisorTimeout lost => Sys2Proof.Machine.execSupervisorTimeout lost s
  | .supKick v => Sys2Proof.Machine.execSupKick v s
  | .fabricTimeout r code base granted => Sys2Proof.Machine.execFabricTimeout r code base granted s
  | .eventGatherEnd => Sys2Proof.Machine.execEventGatherEnd s
  | .bistTestBlock cls index => Sys2Proof.Machine.execBistTestBlock cls index s
  | .bistWindow fail unit channels durMs => Sys2Proof.Machine.execBistWindow fail unit channels durMs s
  | .periodicBist => Sys2Proof.Machine.execPeriodicBist s
  | .bistDone pass memory => Sys2Proof.Machine.execBistDone pass memory s
  | .authChallenge => Sys2Proof.Machine.execAuthChallenge s
  | .authVerify ok => Sys2Proof.Machine.execAuthVerify ok s
  | .authEnd => Sys2Proof.Machine.execAuthEnd s
  | .liveUpdateStep => Sys2Proof.Machine.execLiveUpdateStep s
  | .bfwUpdate mn image offer check => Sys2Proof.Machine.execBfwUpdate mn image offer check s
  | .bfwRebootTimeout mn => Sys2Proof.Machine.execBfwRebootTimeout mn s
  | .coreReady c => Sys2Proof.Machine.execCoreReady c s
  | .coreHbTimeout c => Sys2Proof.Machine.execCoreHbTimeout c s
  | .coreTrap c cause pc addr fatal ecc => Sys2Proof.Machine.execCoreTrap c cause pc addr fatal ecc s
  | .corePlannedRestart c => Sys2Proof.Machine.execCorePlannedRestart c s
  | .coreRelease c => Sys2Proof.Machine.execCoreRelease c s
  | .ceWriteback bank word => Sys2Proof.Machine.execCeWriteback bank word s
  | .patrolScrub dram hit => Sys2Proof.Machine.execPatrolScrub dram hit s
  | .mergeFlush bank word cls => Sys2Proof.Machine.execMergeFlush bank word cls s
  | .dmaHalt k ecc cmds lost cw => Sys2Proof.Machine.execDmaHalt k ecc cmds lost cw s
  | .dmaRestart k => Sys2Proof.Machine.execDmaRestart k s
  | .dramRefresh ch => Sys2Proof.Machine.execDramRefresh ch s
  | .selfRefreshEntry ch => Sys2Proof.Machine.execSelfRefreshEntry ch s
  | .ddrApplyDelays ch => Sys2Proof.Machine.execDdrApplyDelays ch s
  | .ddrRetune ch => Sys2Proof.Machine.execDdrRetune ch s
  | .ddrTestStart ch pattern len fails => Sys2Proof.Machine.execDdrTestStart ch pattern len fails s
  | .ddrTestStop => Sys2Proof.Machine.execDdrTestStop s
  | .rimeInvalidate => Sys2Proof.Machine.execRimeInvalidate s
  | .rimeFlush => Sys2Proof.Machine.execRimeFlush s
  | .rimeEnable => Sys2Proof.Machine.execRimeEnable s
  | .rimeDisable => Sys2Proof.Machine.execRimeDisable s
  | .rimeWaysChange ways => Sys2Proof.Machine.execRimeWaysChange ways s
  | .portEnable p => Sys2Proof.Machine.execPortEnable p s
  | .portDisable p => Sys2Proof.Machine.execPortDisable p s
  | .retrain p => Sys2Proof.Machine.execRetrain p s
  | .sleep p => Sys2Proof.Machine.execSleep p s
  | .portWake p => Sys2Proof.Machine.execPortWake p s
  | .clrCnt p => Sys2Proof.Machine.execClrCnt p s
  | .trainStepDone p x => Sys2Proof.Machine.execTrainStepDone p x s
  | .trainStepTimeout p partner => Sys2Proof.Machine.execTrainStepTimeout p partner s
  | .trainRetry p => Sys2Proof.Machine.execTrainRetry p s
  | .frameTick p => Sys2Proof.Machine.execFrameTick p s
  | .upstreamHeader p h => Sys2Proof.Machine.execUpstreamHeader p h s
  | .servoSlotReceived p k x onTime => Sys2Proof.Machine.execServoSlotReceived p k x onTime s
  | .servoSlotMissing p k => Sys2Proof.Machine.execServoSlotMissing p k s
  | .actuatorRepeat mn => Sys2Proof.Machine.execActuatorRepeat mn s
  | .lockTimeout p => Sys2Proof.Machine.execLockTimeout p s
  | .dropTimeout mn => Sys2Proof.Machine.execDropTimeout mn s
  | .dropNotFound mn => Sys2Proof.Machine.execDropNotFound mn s
  | .mgmtMessage p a mseq mack good b => Sys2Proof.Machine.execMgmtMessage p a mseq mack good b s
  | .mgmtResend p a => Sys2Proof.Machine.execMgmtResend p a s
  | .mapEpochChange p => Sys2Proof.Machine.execMapEpochChange p s
  | .laneLoss p lane => Sys2Proof.Machine.execLaneLoss p lane s
  | .laneModeSwitch p loopNs => Sys2Proof.Machine.execLaneModeSwitch p loopNs s
  | .laneRejoinAttempt p lock => Sys2Proof.Machine.execLaneRejoinAttempt p lock s
  | .laneRejoin p => Sys2Proof.Machine.execLaneRejoin p s
  | .txOvercurrent p lane => Sys2Proof.Machine.execTxOvercurrent p lane s
  | .txOvercurrentRetry p lane clear => Sys2Proof.Machine.execTxOvercurrentRetry p lane clear s
  | .lowpowerEntry p => Sys2Proof.Machine.execLowpowerEntry p s
  | .partnerWake p => Sys2Proof.Machine.execPartnerWake p s
  | .portWakeTimeout p => Sys2Proof.Machine.execPortWakeTimeout p s
  | .servoPositionGrant p => Sys2Proof.Machine.execServoPositionGrant p s
  | .slotSample mn x => Sys2Proof.Machine.execSlotSample mn x s
  | .clusterFault c cause => Sys2Proof.Machine.execClusterFault c cause s
  | .handoverServe copies => Sys2Proof.Machine.execHandoverServe copies s
  | .clusterTestDone c pass => Sys2Proof.Machine.execClusterTestDone c pass s
  | .hoTest c => Sys2Proof.Machine.execHoTest c s
  | .hoUcode c => Sys2Proof.Machine.execHoUcode c s
  | .hoFormat c fmt => Sys2Proof.Machine.execHoFormat c fmt s
  | .hoRetest c => Sys2Proof.Machine.execHoRetest c s
  | .plannedSwitch mn copies => Sys2Proof.Machine.execPlannedSwitch mn copies s
  | .collisionMove mn => Sys2Proof.Machine.execCollisionMove mn s
  | .coefStageToShadow mn l => Sys2Proof.Machine.execCoefStageToShadow mn l s
  | .coefShadowToStage mn l => Sys2Proof.Machine.execCoefShadowToStage mn l s
  | .coefActiveToStage mn l => Sys2Proof.Machine.execCoefActiveToStage mn l s
  | .coefStageToLibrary cls l fmt => Sys2Proof.Machine.execCoefStageToLibrary cls l fmt s
  | .coefLibraryToStage cls l fmt => Sys2Proof.Machine.execCoefLibraryToStage cls l fmt s
  | .swapFromShadow mn mask => Sys2Proof.Machine.execSwapFromShadow mn mask s
  | .swapFromLibrary mn mask => Sys2Proof.Machine.execSwapFromLibrary mn mask s
  | .swapAbort mn => Sys2Proof.Machine.execSwapAbort mn s
  | .swapExecute mn => Sys2Proof.Machine.execSwapExecute mn s
  | .swapHoldTimeout mn => Sys2Proof.Machine.execSwapHoldTimeout mn s
  | .injStart c mn l hold type => Sys2Proof.Machine.execInjStart c mn l hold type s
  | .injStop c => Sys2Proof.Machine.execInjStop c s
  | .capArm c mn dec trig => Sys2Proof.Machine.execCapArm c mn dec trig s
  | .capStop c => Sys2Proof.Machine.execCapStop c s
  | .pullInAttemptTimeout mn => Sys2Proof.Machine.execPullInAttemptTimeout mn s
  | .layerJump mn layer => Sys2Proof.Machine.execLayerJump mn layer s
  | .layerStepTimeout mn => Sys2Proof.Machine.execLayerStepTimeout mn s
  | .trackOnTimeout mn => Sys2Proof.Machine.execTrackOnTimeout mn s
  | .trackJump mn tracks => Sys2Proof.Machine.execTrackJump mn tracks s
  | .longSeek mn tracks cmd => Sys2Proof.Machine.execLongSeek mn tracks cmd s
  | .addressRead mn b a theta residual => Sys2Proof.Machine.execAddressRead mn b a theta residual s
  | .profileAlign mn => Sys2Proof.Machine.execProfileAlign mn s
  | .profileLearnDone mn => Sys2Proof.Machine.execProfileLearnDone mn s
  | .spinStart mn => Sys2Proof.Machine.execSpinStart mn s
  | .senseDone mn => Sys2Proof.Machine.execSenseDone mn s
  | .reverseShortDone mn => Sys2Proof.Machine.execReverseShortDone mn s
  | .coastWaitDone mn => Sys2Proof.Machine.execCoastWaitDone mn s
  | .catchDone mn => Sys2Proof.Machine.execCatchDone mn s
  | .restDone mn => Sys2Proof.Machine.execRestDone mn s
  | .alignDone mn => Sys2Proof.Machine.execAlignDone mn s
  | .observerHandover mn => Sys2Proof.Machine.execObserverHandover mn s
  | .observerTimeout mn => Sys2Proof.Machine.execObserverTimeout mn s
  | .spinupTimeout mn => Sys2Proof.Machine.execSpinupTimeout mn s
  | .speedReached mn => Sys2Proof.Machine.execSpeedReached mn s
  | .speedPlan mn => Sys2Proof.Machine.execSpeedPlan mn s
  | .targetDwell mn => Sys2Proof.Machine.execTargetDwell mn s
  | .idleSpinDown mn => Sys2Proof.Machine.execIdleSpinDown mn s
  | .slotReclaim mn => Sys2Proof.Machine.execSlotReclaim mn s
  | .spinDown mn => Sys2Proof.Machine.execSpinDown mn s
  | .shortBrakeDone mn => Sys2Proof.Machine.execShortBrakeDone mn s
  | .coastDownElapsed mn => Sys2Proof.Machine.execCoastDownElapsed mn s
  | .sledHoldCurrent mn => Sys2Proof.Machine.execSledHoldCurrent mn s
  | .sledTblStageToTable cls => Sys2Proof.Machine.execSledTblStageToTable cls s
  | .sledTblTableToStage cls => Sys2Proof.Machine.execSledTblTableToStage cls s
  | .sledTblDefaultToStage cls => Sys2Proof.Machine.execSledTblDefaultToStage cls s
  | .trayMoveStart mn => Sys2Proof.Machine.execTrayMoveStart mn s
  | .traySwitchReached mn => Sys2Proof.Machine.execTraySwitchReached mn s
  | .trayTimeout mn => Sys2Proof.Machine.execTrayTimeout mn s
  | .forceSafe mn => Sys2Proof.Machine.execForceSafe mn s
  | .clrFault mn => Sys2Proof.Machine.execClrFault mn s
  | .unisolate mn pass clamped => Sys2Proof.Machine.execUnisolate mn pass clamped s
  | .calTempCheck => Sys2Proof.Machine.execCalTempCheck s
  | .calRunStart space index layer item probe => Sys2Proof.Machine.execCalRunStart space index layer item probe s
  | .calRunDone space index layer item x => Sys2Proof.Machine.execCalRunDone space index layer item x s
  | .calRetry space index layer item => Sys2Proof.Machine.execCalRetry space index layer item s
  | .calReadWindow items => Sys2Proof.Machine.execCalReadWindow items s
  | .calWriteWindow items => Sys2Proof.Machine.execCalWriteWindow items s
  | .calRunNow items probe => Sys2Proof.Machine.execCalRunNow items probe s
  | .calMarkStale items => Sys2Proof.Machine.execCalMarkStale items s
  | .laneBind mn own => Sys2Proof.Machine.execLaneBind mn own s
  | .laneIdleRelease mn => Sys2Proof.Machine.execLaneIdleRelease mn s
  | .laneMigrate lane => Sys2Proof.Machine.execLaneMigrate lane s
  | .laneTest lane => Sys2Proof.Machine.execLaneTest lane s
  | .laneRetest lane => Sys2Proof.Machine.execLaneRetest lane s
  | .migrationSwitch f => Sys2Proof.Machine.execMigrationSwitch f s
  | .laneFault f cause => Sys2Proof.Machine.execLaneFault f cause s
  | .laneTestDone f pass => Sys2Proof.Machine.execLaneTestDone f pass s
  | .rfBurst f seq ovld gain words place => Sys2Proof.Machine.execRfBurst f seq ovld gain words place s
  | .levelBankSwitch f => Sys2Proof.Machine.execLevelBankSwitch f s
  | .writeStop f => Sys2Proof.Machine.execWriteStop f s
  | .writeStopTimeout f => Sys2Proof.Machine.execWriteStopTimeout f s
  | .llrMove => Sys2Proof.Machine.execLlrMove s
  | .codewordUrgent cw => Sys2Proof.Machine.execCodewordUrgent cw s
  | .parkComplete d => Sys2Proof.Machine.execParkComplete d s
  | .decoderGrant => Sys2Proof.Machine.execDecoderGrant s
  | .decodeIteration d => Sys2Proof.Machine.execDecodeIteration d s
  | .wallTimeout cw => Sys2Proof.Machine.execWallTimeout cw s
  | .starveTimeout cw => Sys2Proof.Machine.execStarveTimeout cw s
  | .decoderWatchdog d error => Sys2Proof.Machine.execDecoderWatchdog d error s
  | .decTest d => Sys2Proof.Machine.execDecTest d s
  | .decEnable d => Sys2Proof.Machine.execDecEnable d s
  | .decDisable d => Sys2Proof.Machine.execDecDisable d s
  | .decoderTestDone d pass => Sys2Proof.Machine.execDecoderTestDone d pass s
  | .outerDecode mn layer cluster => Sys2Proof.Machine.execOuterDecode mn layer cluster s
  | .sectorRetryRev mn layer cluster => Sys2Proof.Machine.execSectorRetryRev mn layer cluster s
  | .mapAppend mn ok => Sys2Proof.Machine.execMapAppend mn ok s
  | .appendRetry mn => Sys2Proof.Machine.execAppendRetry mn s
  | .stripeCloseTimeout id num => Sys2Proof.Machine.execStripeCloseTimeout id num s
  | .resync id num => Sys2Proof.Machine.execResync id num s
  | .floeReconstruct mn layer cluster => Sys2Proof.Machine.execFloeReconstruct mn layer cluster s
  | .floeRepair mn => Sys2Proof.Machine.execFloeRepair mn s
  | .scrubTick id => Sys2Proof.Machine.execScrubTick id s
  | .rebuildStep id => Sys2Proof.Machine.execRebuildStep id s
  | .breathRequest cls who v prio cmd => Sys2Proof.Machine.execBreathRequest cls who v prio cmd s
  | .breathRelease cls who => Sys2Proof.Machine.execBreathRelease cls who s
  | .requestAged cls who => Sys2Proof.Machine.execRequestAged cls who s
  | .overdrawTick => Sys2Proof.Machine.execOverdrawTick s
  | .overdrawLong d => Sys2Proof.Machine.execOverdrawLong d s
  | .mechExcess mn => Sys2Proof.Machine.execMechExcess mn s
  | .bistGapExpiry => Sys2Proof.Machine.execBistGapExpiry s
  | .hostPortReset p => Sys2Proof.Machine.execHostPortReset p s
  | .functionLevelReset fn => Sys2Proof.Machine.execFunctionLevelReset fn s
  | .busMasterClear fn => Sys2Proof.Machine.execBusMasterClear fn s
  | .fnEnable fn verReq table => Sys2Proof.Machine.execFnEnable fn verReq table s
  | .fnDisable fn => Sys2Proof.Machine.execFnDisable fn s
  | .functionStopDone fn => Sys2Proof.Machine.execFunctionStopDone fn s
  | .claim fn => Sys2Proof.Machine.execClaim fn s
  | .standby fn => Sys2Proof.Machine.execStandby fn s
  | .release fn => Sys2Proof.Machine.execRelease fn s
  | .heartbeat fn => Sys2Proof.Machine.execHeartbeat fn s
  | .stewardHbTimeout => Sys2Proof.Machine.execStewardHbTimeout s
  | .fenceFunction target => Sys2Proof.Machine.execFenceFunction target s
  | .fencePort target => Sys2Proof.Machine.execFencePort target s
  | .unfenceFunction target => Sys2Proof.Machine.execUnfenceFunction target s
  | .unfencePort target => Sys2Proof.Machine.execUnfencePort target s
  | .attentionWrite fn => Sys2Proof.Machine.execAttentionWrite fn s
  | .doorbellScan fn recs => Sys2Proof.Machine.execDoorbellScan fn recs s
  | .descriptorFetched fn qpid d => Sys2Proof.Machine.execDescriptorFetched fn qpid d s
  | .fetchTimeout fn qpid err => Sys2Proof.Machine.execFetchTimeout fn qpid err s
  | .completionWrite p => Sys2Proof.Machine.execCompletionWrite p s
  | .coalesceTimeout fn qpid => Sys2Proof.Machine.execCoalesceTimeout fn qpid s
  | .commandDeadline fn tag => Sys2Proof.Machine.execCommandDeadline fn tag s
  | .writeAccepted fn tag data dma => Sys2Proof.Machine.execWriteAccepted fn tag data dma s
  | .read fn tag dma => Sys2Proof.Machine.execRead fn tag dma s
  | .write fn tag => Sys2Proof.Machine.execWrite fn tag s
  | .verify fn tag => Sys2Proof.Machine.execVerify fn tag s
  | .commit fn tag => Sys2Proof.Machine.execCommit fn tag s
  | .mount fn tag info dma => Sys2Proof.Machine.execMount fn tag info dma s
  | .unmount fn tag => Sys2Proof.Machine.execUnmount fn tag s
  | .load fn tag => Sys2Proof.Machine.execLoad fn tag s
  | .eject fn tag => Sys2Proof.Machine.execEject fn tag s
  | .seekHint fn tag layer tracks => Sys2Proof.Machine.execSeekHint fn tag layer tracks s
  | .abort fn tag => Sys2Proof.Machine.execAbort fn tag s
  | .scrub fn tag => Sys2Proof.Machine.execScrub fn tag s
  | .servoTest fn tag dma => Sys2Proof.Machine.execServoTest fn tag dma s
  | .identify fn tag dma => Sys2Proof.Machine.execIdentify fn tag dma s
  | .getLog fn tag dma => Sys2Proof.Machine.execGetLog fn tag dma s
  | .setFeature fn tag data dma => Sys2Proof.Machine.execSetFeature fn tag data dma s
  | .getFeature fn tag dma => Sys2Proof.Machine.execGetFeature fn tag dma s
  | .fwDownload fn tag dma => Sys2Proof.Machine.execFwDownload fn tag dma s
  | .fwCommit fn tag image flash => Sys2Proof.Machine.execFwCommit fn tag image flash s
  | .fwCommitActivate fn tag image flash => Sys2Proof.Machine.execFwCommitActivate fn tag image flash s
  | .fwActivate fn tag => Sys2Proof.Machine.execFwActivate fn tag s
  | .createQp fn tag => Sys2Proof.Machine.execCreateQp fn tag s
  | .deleteQp fn tag => Sys2Proof.Machine.execDeleteQp fn tag s
  | .lease fn tag => Sys2Proof.Machine.execLease fn tag s
  | .calibSave fn tag dma => Sys2Proof.Machine.execCalibSave fn tag dma s
  | .calibRestore fn tag data dma => Sys2Proof.Machine.execCalibRestore fn tag data dma s
  | .floeDefine fn tag data dma => Sys2Proof.Machine.execFloeDefine fn tag data dma s
  | .floeDelete fn tag => Sys2Proof.Machine.execFloeDelete fn tag s
  | .floeRebuild fn tag => Sys2Proof.Machine.execFloeRebuild fn tag s
  | .arm fn tag => Sys2Proof.Machine.execArm fn tag s
  | .ilkChannelChange a b => Sys2Proof.Machine.execIlkChannelChange a b s
  | .permitHoldDone => Sys2Proof.Machine.execPermitHoldDone s
  | .discrepancyTimeout => Sys2Proof.Machine.execDiscrepancyTimeout s
  | .disarm zones => Sys2Proof.Machine.execDisarm zones s
  | .gpioEdge g level => Sys2Proof.Machine.execGpioEdge g level s
  | .gpioSet mask => Sys2Proof.Machine.execGpioSet mask s
  | .gpioClr mask => Sys2Proof.Machine.execGpioClr mask s
  | .mctpControl req => Sys2Proof.Machine.execMctpControl req s
  | .mctpStatus => Sys2Proof.Machine.execMctpStatus s
  | .mctpReadRegister offset => Sys2Proof.Machine.execMctpReadRegister offset s
  | .mctpTelemetry mn => Sys2Proof.Machine.execMctpTelemetry mn s
  | .mctpLogEntries seq count => Sys2Proof.Machine.execMctpLogEntries seq count s
  | .registerRead addr => Sys2Proof.Machine.execRegisterRead addr s
  | .refclkRestored => Sys2Proof.Machine.execRefclkRestored s
  | .powerGoodRise g => Sys2Proof.Machine.execPowerGoodRise g s
  | .hostLinkUp p width rate => Sys2Proof.Machine.execHostLinkUp p width rate s
  | .dimmTempRead ch temp => Sys2Proof.Machine.execDimmTempRead ch temp s

end Sys2Proof.Machine
end

