-- ==== Sys2Proof/Safety.lean ====
section
/-! DEFINITION. The terms in which the statements speak: what it is for a command to complete, what a safe step is, and what a sound state of the
laser permits is. -/

namespace Sys2Proof

open Sys2Proof.Machine

/-- A step that answers a next state: neither a fault nor a refusal. -/
def Safe (s : State) : Prop := ∃ t, step s = .next t

/-- Command c, run at state s, answers a next state of which P holds. -/
def Completes (c : Instr) (s : State) (P : State → Prop) : Prop := ∃ t, exec c s = .next t ∧ P t

/-- The command of function fn with this TAG has ended with this status: its context is gone, and its completion waits in the merger or with its
source, or is discarded because the function stops (R341, R346, R348). -/
def Ended (fn tag status : Nat) (t : State) : Prop :=
  t.ctx fn tag = none ∧ ((t.fnx fn).stopping = true ∨ ∃ e ∈ t.host.merge ++ t.host.held, e.fn = fn ∧ e.tag = tag ∧ e.status = status)

/-- The command has ended with this status and these result words. -/
def Answered (fn tag status r0 r1 : Nat) (t : State) : Prop :=
  t.ctx fn tag = none ∧ ((t.fnx fn).stopping = true ∨
    ∃ e ∈ t.host.merge ++ t.host.held, e.fn = fn ∧ e.tag = tag ∧ e.status = status ∧ e.res0 = r0 % 2 ^ 32 ∧ e.res1 = r1 % 2 ^ 32)

/-- An outstanding admin command of an opcode, and its context. -/
def AdminCmd (s : State) (fn tag op : Nat) (c : Ctx) : Prop := s.ctx fn tag = some c ∧ c.d.opcode = op ∧ c.qpid = 0

/-- An outstanding I/O command of an opcode that waits for nothing but its own progress, and its context. -/
def IoCmd (s : State) (fn tag op : Nat) (c : Ctx) : Prop := s.ctx fn tag = some c ∧ c.d.opcode = op ∧ c.qpid ≠ 0 ∧ c.stripes = []

/-- An outstanding I/O command that runs: it has been taken up, or the checks of R354 hold for it and neither a spin-down that has
begun to stop the disc (R45) nor a forced calibration run (R191) holds it back. -/
def ReadyIo (s : State) (c : Ctx) : Prop :=
  c.phase ≠ .fetched ∨ (s.checkIo c = 0 ∧ s.stopping c.d.mn = false ∧ (c.d.opcode ∈ [1, 2, 3, 0x0B] → s.forcedRun c.d.mn = false))

/-- The state once the command has been taken up. -/
def taken (fn tag : Nat) (s : State) : State := s.modCtx fn tag fun x => { x with phase := .running }

/-- The registers that the end of any command may write: those of the completion merger, the event entries and the error log. -/
def endRegs : List Reg := [.HQP_MERGE, .HQP_EVENT, .HQP_FN_DISCARD, .HQP_FN_STAT, .DBG_LOG_SEQ, .DBG_LOG_CFG, .DBG_LOG_LOST]

/-- The registers that the cycles of the memories, the work of the processors and the pins may change while nothing waits in the queue (R386, R398, R403,
R409). -/
def tickRegs : List Reg :=
  [.MEM_EVENT, .MEM_ECC_LAST, .MEM_ECC_ADDR, .MEM_ECC_CNT, .MEM_RIME_STAT, .MEM_RIME_CNT_HIT, .MEM_RIME_CNT_MISS, .MEM_RIME_CNT_SIDE, .MEM_RIME_CNT_EVB,
   .MEM_DDR_STAT, .MEM_DDR_CMD, .MEM_DDR_ECC_CNT, .MCORE_HB, .MCORE_PERF, .MCORE_TRACE_PTR]

/-- An event entry with this code and detail is on its way to function fn: in the merger or with its source, in the store of the function, or
discarded because the function stops (R343, R348). -/
def EventSent (fn code detail : Nat) (t : State) : Prop :=
  (t.fnx fn).stopping = true ∨
  (∃ e ∈ t.host.merge ++ t.host.held, e.fn = fn ∧ e.event = true ∧ e.res0 % 65536 = code ∧ e.res1 = detail % 2 ^ 32) ∨
  ∃ e ∈ tabGet t.host.events fn [], e.code = code ∧ e.detail = detail % 2 ^ 32

/-- Every core-domain register of the setup window from PEN to MCORE, and every register of the functions' BAR0, is as after reset (R451). -/
def CoreCleared (t : State) : Prop :=
  ∀ e ∈ allRegs, (0x30000 ≤ e.reg.base ∧ e.reg.base < 0x3E0000 ∨ 0x1000000 ≤ e.reg.base) → ∀ i j, t.rd e.reg i j = e.reg.reset i j

/-- A warm reset of the core domain has been asserted: permits low, the core cleared, power state BOOT in stage RESET, held for 200 us from now (R449,
R451, R458). -/
structure WarmReset (t : State) : Prop where
  permits : t.get .SAFE_ZONE_LPERMIT = 0
  cleared : CoreCleared t
  state : t.get .DRN_PSTAT_STATE = 0
  stage : t.get .RST_STAT_STAGE = 0
  held : t.pwr.seq = some (.warm, t.now)

/-- The laser permits of a state follow R498 and R30: a permit is high exactly in the armed zones while both channels have been CLOSED for 50 ms, no
discrepancy fault is latched and the core domain is not held off with DRAM kept; while a fault is latched no zone is armed (R502). -/
structure PermitSound (s : State) : Prop where
  permits : s.get .SAFE_ZONE_LPERMIT = if s.ilk.held && !s.on .SAFE_STAT_FAULT && !s.pwr.keep then s.get .SAFE_ZONE_ARMED else 0
  waited : s.ilk.held = true → s.ilk.since.isSome = true
  closed : s.ilk.since.isSome = true → s.get .SAFE_STAT_STATE_A = 1 ∧ s.get .SAFE_STAT_STATE_B = 1
  fault : s.on .SAFE_STAT_FAULT = true → s.get .SAFE_ZONE_ARMED = 0

/-! ### Frames -/

/-- The parts of a state beside the register file and the queue. -/
inductive Part where
  | time | log | evt | host | breath | mech | isol | port | drop | cirq | servo | cal | profiles | chan | floe | fw | ilk | pwr | dbg | memx | out | free
  deriving DecidableEq, Repr

/-- A state with one part of s, every other part as at reset. -/
def pick (p : Part) (s : State) : State :=
  match p with
  | .time => { time := s.time }
  | .log => { log := s.log }
  | .evt => { evt := s.evt }
  | .host => { host := s.host }
  | .breath => { breath := s.breath }
  | .mech => { mech := s.mech }
  | .isol => { isol := s.isol }
  | .port => { port := s.port }
  | .drop => { drop := s.drop }
  | .cirq => { cirq := s.cirq }
  | .servo => { servo := s.servo }
  | .cal => { cal := s.cal }
  | .profiles => { profiles := s.profiles }
  | .chan => { chan := s.chan }
  | .floe => { floe := s.floe }
  | .fw => { fw := s.fw }
  | .ilk => { ilk := s.ilk }
  | .pwr => { pwr := s.pwr }
  | .dbg => { dbg := s.dbg }
  | .memx => { memx := s.memx }
  | .out => { out := s.out }
  | .free => { free := s.free }

/-! ### Frames: what each command may write -/

/-- The registers of a mechanism's fault and its action (R46 to R49). -/
def faultRegs : List Reg :=
  [.MECH_STATE, .MECH_FAULT, .MECH_FAULT_TIME_LO, .MECH_FAULT_TIME_HI, .MECH_SERVO, .MECH_DISC, .MECH_SPEED, .MECH_COUNT, .MECH_CHG, .MECH_SPIN_STAT,
   .MECH_SLED_STAT, .MECH_CAL_LAST, .PEN_STATUS, .PEN_DROP, .CIRQ_EVENT, .CIRQ_SLOT, .CIRQ_LSTAT, .CIRQ_ANGLE, .CIRQ_INJ_STAT, .CIRQ_CAP_STAT,
   .CIRQ_LOOP_STAT, .FIRN_STATUS, .FIRN_EVENT, .FIRN_BEAM, .FIRN_LANE_STAT, .MOR_EVENT, .MOR_DEC_CMD_STAT, .MOR_DEC, .FLOE_EVENT, .BRTH_EVENT,
   .BRTH_DOM_STAT]

/-- The registers of a spin-down and what waits on the spindle (R176). -/
def downRegs : List Reg :=
  [.MECH_STATE, .MECH_SERVO, .MECH_DISC, .MECH_SPEED, .MECH_CHG, .MECH_SPIN_STAT, .MECH_SLED_STAT, .MECH_CAL_LAST, .PEN_STATUS, .PEN_DROP, .CIRQ_EVENT,
   .CIRQ_SLOT, .CIRQ_LSTAT, .CIRQ_ANGLE, .CIRQ_INJ_STAT, .CIRQ_CAP_STAT, .CIRQ_LOOP_STAT, .FIRN_STATUS, .FIRN_EVENT, .FIRN_BEAM, .FIRN_LANE_STAT,
   .FLOE_EVENT, .BRTH_EVENT, .BRTH_DOM_STAT]

/-- The registers of the end of writing on a lane whose permit falls (R244, R498). -/
def permitRegs : List Reg :=
  [.MECH_STATE, .MECH_SERVO, .MECH_SPEED, .MECH_CHG, .MECH_SLED_STAT, .MECH_CAL_LAST, .PEN_STATUS, .PEN_DROP, .CIRQ_EVENT, .CIRQ_SLOT, .CIRQ_LSTAT,
   .CIRQ_ANGLE, .CIRQ_INJ_STAT, .CIRQ_CAP_STAT, .CIRQ_LOOP_STAT, .FIRN_STATUS, .FIRN_EVENT, .FIRN_BEAM, .FIRN_LANE_STAT, .FLOE_EVENT, .BRTH_EVENT,
   .BRTH_DOM_STAT]

/-- The registers of a stop of writing on a lane (R244). -/
def stopRegs : List Reg :=
  [.MECH_STATE, .MECH_SERVO, .MECH_DISC, .MECH_SPEED, .MECH_CHG, .MECH_SPIN_STAT, .MECH_SLED_STAT, .PEN_STATUS, .PEN_DROP, .CIRQ_EVENT, .CIRQ_SLOT,
   .CIRQ_LSTAT, .CIRQ_ANGLE, .CIRQ_INJ_STAT, .CIRQ_CAP_STAT, .CIRQ_LOOP_STAT, .FLOE_EVENT, .BRTH_EVENT, .BRTH_DOM_STAT]

/-- The registers of the loss of focus. -/
def focusRegs : List Reg :=
  [.MECH_STATE, .MECH_SERVO, .MECH_SPEED, .MECH_CHG, .MECH_CAL_LAST, .PEN_STATUS, .PEN_DROP, .CIRQ_EVENT, .CIRQ_LSTAT, .CIRQ_INJ_STAT, .CIRQ_LOOP_STAT,
   .FIRN_STATUS, .FIRN_EVENT, .FIRN_BEAM, .FIRN_LANE_STAT, .FLOE_EVENT, .BRTH_EVENT, .BRTH_DOM_STAT]

/-- The registers of a start of a spindle and what it serves and withdraws (R177). -/
def spinRegs : List Reg :=
  [.MECH_STATE, .MECH_SERVO, .MECH_SPEED, .MECH_CHG, .MECH_SLED_STAT, .PEN_STATUS, .PEN_DROP, .CIRQ_EVENT, .CIRQ_SLOT, .CIRQ_LSTAT, .CIRQ_ANGLE,
   .CIRQ_INJ_STAT, .CIRQ_CAP_STAT, .CIRQ_LOOP_STAT, .FLOE_EVENT, .BRTH_EVENT, .BRTH_DOM_STAT]

/-- The registers of taking up a spindle that is running down. -/
def takeRegs : List Reg :=
  [.MECH_STATE, .MECH_SPEED, .MECH_CHG, .PEN_STATUS, .CIRQ_EVENT, .CIRQ_LSTAT, .CIRQ_INJ_STAT, .CIRQ_LOOP_STAT, .FLOE_EVENT, .BRTH_EVENT, .BRTH_DOM_STAT]

/-- The registers of a tray position asked for. -/
def trayRegs : List Reg :=
  [.MECH_STATE, .MECH_SPEED, .MECH_CHG, .PEN_STATUS, .PEN_DROP, .FLOE_EVENT, .BRTH_EVENT, .BRTH_DOM_STAT]

/-- The registers of the end of a move. -/
def moveRegs : List Reg :=
  [.MECH_STATE, .MECH_SPEED, .MECH_CHG, .PEN_STATUS, .FLOE_EVENT, .BRTH_EVENT, .BRTH_DOM_STAT]

/-- What a platform, memory, management, host and safety command
may write, beside what the end of any command may write: register arrays and parts of the state; none for any other command. -/
def touchesHost (c : Instr) : Option (List Reg × List Part) :=
  match c with
  | .bar4AccessDenied _ _ => some ([.DRN_PSTAT, .DRN_PCTRL], [.out])
  | .bootStageDone _ => some
    (permitRegs ++
     [.GLB_OPT_STAT, .GLB_OPT, .DRN_PSTAT, .DRN_PWR_CFG, .DRN_PWR_STAT, .DRN_CLK_STAT, .DRN_EVENT, .DRN_FAN_STAT, .DRN_GPIO_IN, .DRN_GPIO_OUT,
      .DRN_GPIO_OE, .DRN_GPIO_PULL_LO, .DRN_GPIO_PULL_HI, .RST_STAT, .RST_BOOT_MS, .RST_FW_STAT, .SAFE_STAT, .SAFE_ZONE, .SAFE_EVENT, .SAFE_CNT,
      .DBG_BIST_STAT, .DBG_BIST_FAILS, .MECH_BTEMP, .PEN_CFG] ++
     [.CIRQ_STATUS, .CIRQ_UCODE, .FIRN_PROG, .MOR_EVENT, .MOR_DEC, .MOR_PROG, .HQP_STEWARD, .HQP_STEWARD_TOKEN, .HQP_PORT, .MEM_SRAM_STAT,
      .MEM_DDR_STAT, .MEM_DDR_CMD, .MEM_DDR_DLY, .MCORE_STAT],
     [.breath, .cal, .chan, .cirq, .dbg, .drop, .floe, .free, .fw, .ilk, .mech, .memx, .out, .port, .pwr, .servo])
  | .optionProgram _ => some ([.DRN_PSTAT, .DRN_PCTRL, .RST_OPT_CMD], [.free, .pwr])
  | .optionRead _ => some ([.DRN_PSTAT, .DRN_PCTRL, .RST_OPT_CMD, .RST_OPT_STAGE], [])
  | .blockReset _ _ => some
    (spinRegs ++
     [.DRN_PSTAT, .DRN_PCTRL, .RST_BLK_CMD, .RST_FW_STAT, .DBG_UPD_STAT, .MECH_CAL_LAST, .PEN_LANE, .PEN_EVENT, .CIRQ_STATUS, .CIRQ_CAP_TRIG_LO,
      .CIRQ_CAP_TRIG_HI, .FIRN_STATUS, .FIRN_EVENT, .FIRN_BEAM, .MOR_DEC, .HQP_STEWARD, .HQP_STEWARD_TOKEN, .MEM_DMA_STAT, .MEM_RIME_STAT,
      .MCORE_EVENT, .MCORE_OWN, .MCORE_STAT, .MCORE_TRACE_PTR],
     [.breath, .cal, .chan, .cirq, .drop, .floe, .free, .fw, .mech, .memx, .out, .port, .servo])
  | .trialConfirm => some ([.RST_FW_STAT], [.fw])
  | .xtalLost => some ([.DRN_CLK_STAT, .DRN_EVENT], [])
  | .xtalRelock => some ([.DRN_CLK_STAT], [])
  | .timeRatioMeasure _ => some ([.DRN_TIME_RATIO], [.pwr])
  | .dozeIdle => some ([.DRN_PSTAT, .DRN_PCTRL], [.pwr])
  | .dozeRequest => some ([.DRN_PSTAT, .DRN_PCTRL], [.pwr])
  | .hibernateRequest _ => some ([.DRN_PSTAT, .DRN_PCTRL, .DRN_RETAIN], [.pwr])
  | .wake _ => some ([.DRN_PSTAT, .DRN_PCTRL, .DRN_PWR_STAT, .RST_STAT], [.pwr])
  | .wakeTimer _ => some ([.DRN_PSTAT, .DRN_PCTRL, .DRN_PWR_STAT, .DRN_WAKE_CTRL, .RST_STAT], [.pwr])
  | .retryWake => some
    ([.DRN_PSTAT, .DRN_PCTRL, .DRN_PWR_STAT, .RST_STAT, .MECH_SPEED, .PEN_STATUS, .PEN_DROP, .BRTH_EVENT, .BRTH_DOM_STAT],
     [.breath, .drop, .port, .pwr])
  | .powerRetry => some ([.DRN_PWR_STAT, .RST_STAT], [.pwr])
  | .tempSample _ => some ([.DRN_EVENT, .DRN_THERM_STAT, .DRN_TS, .DRN_FAN_STAT], [.pwr])
  | .fanUpdate => some ([.DRN_FAN_STAT], [.pwr])
  | .tachMeasure _ _ => some ([.DRN_EVENT, .DRN_FAN_STAT], [.pwr])
  | .thermalRestart => some ([.DRN_PSTAT, .DRN_PWR_STAT, .DRN_EVENT, .DRN_THERM_CNT, .RST_CAUSE, .RST_STAT], [.pwr])
  | .tripRestart => some ([.DRN_PSTAT, .DRN_PWR_STAT, .DRN_EVENT, .RST_CAUSE, .RST_STAT], [.pwr])
  | .supKick _ => some ([], [.pwr])
  | .fabricTimeout _ _ _ _ => some
    (permitRegs ++
     [.RST_FW_STAT, .DBG_UPD_STAT, .FIRN_CNT, .FIRN_AGC, .FIRN_TAP, .MOR_EVENT, .MOR_DEC_CMD_STAT, .MOR_CNT_UNC, .MOR_CNT_WDOG, .MOR_DEC,
      .MEM_EVENT, .MEM_DMA_STAT, .MCORE_EVENT, .MCORE_OWN, .MCORE_STAT, .MCORE_TRACE_PTR],
     [.breath, .cal, .chan, .cirq, .dbg, .drop, .floe, .free, .fw, .mech, .memx, .out, .port, .servo])
  | .eventGatherEnd => some ([], [])
  | .bistDone _ _ => some
    ([.DBG_BIST_CMD, .DBG_BIST_STAT, .DBG_BIST_FAILS, .MECH_SPEED, .MECH_CAL_LAST, .PEN_STATUS, .PEN_DROP, .CIRQ_STATUS, .CIRQ_UCODE,
      .CIRQ_EVENT, .CIRQ_HO_STAT, .FIRN_STATUS, .FIRN_EVENT, .FIRN_PROG, .FIRN_BEAM, .FIRN_LANE_STAT, .MOR_EVENT, .MOR_DEC_CMD_STAT, .MOR_DEC,
      .MOR_PROG, .BRTH_EVENT, .BRTH_DOM_STAT, .MCORE_EVENT, .MCORE_OWN] ++
     [.MCORE_STAT],
     [.breath, .cal, .chan, .cirq, .dbg, .out, .port, .servo])
  | .authChallenge => some ([.DBG_AUTH_CMD, .DBG_AUTH_CHAL], [.dbg, .free])
  | .authVerify _ => some ([.DBG_AUTH_CMD, .DBG_AUTH_STAT], [.dbg])
  | .authEnd => some ([.DBG_AUTH_CMD, .DBG_AUTH_STAT], [])
  | .liveUpdateStep => some
    ([.RST_FW_STAT, .DBG_UPD_STAT, .MECH_SPEED, .MECH_CAL_LAST, .PEN_STATUS, .PEN_DROP, .CIRQ_STATUS, .CIRQ_HO_STAT, .FIRN_STATUS, .FIRN_EVENT,
      .FIRN_PROG, .FIRN_BEAM, .FIRN_AGC, .FIRN_TAP, .MOR_DEC, .MOR_PROG, .BRTH_EVENT, .BRTH_DOM_STAT, .MCORE_EVENT, .MCORE_OWN, .MCORE_STAT,
      .MCORE_TRACE_PTR],
     [.breath, .cal, .chan, .cirq, .drop, .free, .fw, .mech, .memx, .out, .port, .servo])
  | .bfwUpdate _ _ _ _ => some ([.DBG_UPD_STAT, .DBG_BFW_STAT], [.drop, .fw, .mech, .out])
  | .bfwRebootTimeout _ => some ([.DBG_UPD_STAT, .DBG_BFW_STAT], [.fw, .mech])
  | .coreReady _ => some
    ([.MECH_SPEED, .MECH_CAL_LAST, .PEN_STATUS, .PEN_DROP, .FIRN_STATUS, .FIRN_EVENT, .FIRN_BEAM, .BRTH_EVENT, .BRTH_DOM_STAT, .MEM_RIME_STAT,
      .MCORE_EVENT, .MCORE_CMD, .MCORE_OWN, .MCORE_STAT],
     [.breath, .cal, .chan, .fw, .memx, .out, .port, .servo])
  | .coreHbTimeout _ => some
    ([.RST_FW_STAT, .DBG_UPD_STAT, .MECH_SPEED, .MECH_CAL_LAST, .PEN_STATUS, .PEN_DROP, .FIRN_STATUS, .FIRN_EVENT, .FIRN_BEAM, .BRTH_EVENT,
      .BRTH_DOM_STAT, .MCORE_EVENT, .MCORE_OWN, .MCORE_STAT, .MCORE_TRACE_PTR],
     [.breath, .cal, .chan, .free, .fw, .memx, .out, .port, .servo])
  | .coreTrap _ _ _ _ _ _ => some
    (spinRegs ++
     [.RST_FW_STAT, .DBG_UPD_STAT, .MECH_CAL_LAST, .FIRN_STATUS, .FIRN_EVENT, .FIRN_BEAM, .MEM_EVENT, .MEM_ECC_LAST, .MEM_ECC_ADDR, .MEM_ECC_CNT,
      .MEM_DDR_ECC_CNT, .MCORE_EVENT, .MCORE_OWN, .MCORE_STAT, .MCORE_TRAP, .MCORE_TRAP_PC, .MCORE_TRAP_ADDR, .MCORE_TRACE_PTR],
     [.breath, .cal, .chan, .cirq, .drop, .floe, .free, .fw, .mech, .memx, .out, .port, .servo])
  | .corePlannedRestart _ => some
    ([.DRN_PSTAT, .DRN_PCTRL, .RST_FW_STAT, .DBG_UPD_STAT, .MECH_SPEED, .MECH_CAL_LAST, .PEN_STATUS, .PEN_DROP, .FIRN_STATUS, .FIRN_EVENT,
      .FIRN_BEAM, .BRTH_EVENT, .BRTH_DOM_STAT, .MCORE_EVENT, .MCORE_CMD, .MCORE_OWN, .MCORE_STAT, .MCORE_TRACE_PTR],
     [.breath, .cal, .chan, .free, .fw, .memx, .out, .port, .servo])
  | .coreRelease _ => some
    ([.DRN_PSTAT, .DRN_PCTRL, .RST_FW_STAT, .DBG_UPD_STAT, .MECH_SPEED, .MECH_CAL_LAST, .PEN_STATUS, .PEN_DROP, .FIRN_STATUS, .FIRN_EVENT,
      .FIRN_BEAM, .BRTH_EVENT, .BRTH_DOM_STAT, .MCORE_EVENT, .MCORE_CMD, .MCORE_OWN, .MCORE_STAT, .MCORE_TRACE_PTR],
     [.breath, .cal, .chan, .free, .fw, .memx, .out, .port, .servo])
  | .ceWriteback _ _ => some ([], [.memx])
  | .patrolScrub _ _ => some ([.MEM_EVENT, .MEM_ECC_LAST, .MEM_ECC_ADDR, .MEM_ECC_CNT, .MEM_DDR_ECC_CNT], [.memx])
  | .mergeFlush _ _ _ => some ([.MEM_EVENT, .MEM_ECC_LAST, .MEM_ECC_ADDR, .MEM_ECC_CNT, .MEM_DDR_ECC_CNT], [.memx])
  | .dmaHalt _ _ _ _ _ => some
    (spinRegs ++
     [.MOR_EVENT, .MOR_DEC_CMD_STAT, .MOR_DEC, .MEM_EVENT, .MEM_ECC_LAST, .MEM_ECC_ADDR, .MEM_DMA_STAT, .MEM_ECC_CNT, .MEM_DDR_ECC_CNT],
     [.breath, .chan, .cirq, .drop, .floe, .fw, .mech, .memx, .out, .port, .servo])
  | .dmaRestart _ => some ([.MEM_EVENT, .MEM_DMA_STAT], [])
  | .dramRefresh _ => some ([], [.memx])
  | .selfRefreshEntry _ => some ([.MEM_DDR_STAT], [])
  | .ddrApplyDelays _ => some ([.DRN_PSTAT, .DRN_PCTRL, .MEM_DDR_CMD], [.memx])
  | .ddrRetune _ => some ([.MEM_DDR_CMD, .MEM_DDR_DLY], [.memx])
  | .ddrTestStart _ _ _ _ => some ([.DRN_PSTAT, .DRN_PCTRL, .MEM_DDR_TEST_CTRL, .MEM_DDR_TEST_STAT], [])
  | .ddrTestStop => some ([.DRN_PSTAT, .DRN_PCTRL, .MEM_DDR_TEST_STAT], [])
  | .rimeInvalidate => some ([.DRN_PSTAT, .DRN_PCTRL, .MEM_EVENT, .MEM_RIME_CTRL, .MEM_RIME_STAT], [.memx])
  | .rimeFlush => some ([.DRN_PSTAT, .DRN_PCTRL, .MEM_EVENT, .MEM_RIME_CTRL, .MEM_RIME_STAT], [.memx])
  | .rimeEnable => some ([.DRN_PSTAT, .DRN_PCTRL, .MEM_EVENT, .MEM_RIME_CTRL, .MEM_RIME_STAT], [])
  | .rimeDisable => some ([.DRN_PSTAT, .DRN_PCTRL, .MEM_EVENT, .MEM_RIME_CTRL, .MEM_RIME_STAT], [.memx])
  | .rimeWaysChange _ => some ([.DRN_PSTAT, .DRN_PCTRL, .MEM_EVENT, .MEM_RIME_CTRL, .MEM_RIME_STAT], [])
  | .partnerWake _ => some
    ([.DRN_PSTAT, .DRN_PCTRL, .DRN_PWR_STAT, .RST_STAT, .MECH_SPEED, .PEN_STATUS, .PEN_EVENT, .BRTH_EVENT, .BRTH_DOM_STAT],
     [.breath, .port, .pwr])
  | .breathRequest _ _ _ _ _ => some (spinRegs, [.breath, .cirq, .floe, .mech, .out, .port, .servo])
  | .breathRelease _ _ => some ([.MECH_SPEED, .PEN_STATUS, .BRTH_EVENT, .BRTH_DOM_STAT], [.breath, .port])
  | .requestAged _ _ => some ([.MECH_SPEED, .PEN_STATUS, .BRTH_EVENT, .BRTH_DOM_STAT], [.breath, .port])
  | .overdrawTick => some ([.MECH_SPEED, .MECH_SPIN_STAT, .PEN_STATUS, .BRTH_EVENT, .BRTH_DOM_MEAS, .BRTH_DOM_STAT], [.breath, .port])
  | .overdrawLong _ => some ([.BRTH_EVENT], [.breath])
  | .mechExcess _ => some ([.BRTH_EVENT, .BRTH_EXCESS], [.breath])
  | .bistGapExpiry => some ([], [.breath])
  | .busMasterClear _ => some (spinRegs ++ [.HQP_STEWARD, .HQP_STEWARD_TOKEN], [.breath, .chan, .cirq, .drop, .floe, .fw, .mech, .out, .port, .servo])
  | .fnEnable _ _ _ => some ([.DRN_PSTAT, .DRN_PCTRL, .FN_CTRL, .FN_STAT], [])
  | .fnDisable _ => some
    (spinRegs ++ [.DRN_PSTAT, .DRN_PCTRL, .HQP_STEWARD, .HQP_STEWARD_TOKEN, .FN_STAT],
     [.breath, .chan, .cirq, .drop, .floe, .fw, .mech, .out, .port, .servo])
  | .functionStopDone _ => some ([.HQP_FENCE, .FN_CTRL, .FN_STAT], [])
  | .claim _ => some ([.DRN_PSTAT, .DRN_PCTRL, .HQP_STEWARD, .HQP_STEWARD_TOKEN, .FN_CLAIM_CMD], [])
  | .standby _ => some ([.DRN_PSTAT, .DRN_PCTRL, .HQP_STEWARD, .HQP_STANDBY_TOKEN, .FN_CLAIM_CMD], [])
  | .release _ => some ([.DRN_PSTAT, .DRN_PCTRL, .HQP_STEWARD, .HQP_STEWARD_TOKEN, .FN_CLAIM_CMD], [])
  | .heartbeat _ => some ([.DRN_PSTAT, .DRN_PCTRL, .FN_CLAIM_CMD], [])
  | .stewardHbTimeout => some ([.HQP_STEWARD, .HQP_STEWARD_TOKEN], [])
  | .fenceFunction _ => some
    (spinRegs ++ [.DRN_PSTAT, .DRN_PCTRL, .HQP_STEWARD, .HQP_FENCE],
     [.breath, .chan, .cirq, .drop, .floe, .fw, .mech, .out, .port, .servo])
  | .fencePort _ => some
    (spinRegs ++ [.DRN_PSTAT, .DRN_PCTRL, .HQP_STEWARD, .HQP_FENCE],
     [.breath, .chan, .cirq, .drop, .floe, .fw, .mech, .out, .port, .servo])
  | .unfenceFunction _ => some ([.DRN_PSTAT, .DRN_PCTRL, .HQP_FENCE], [])
  | .unfencePort _ => some ([.DRN_PSTAT, .DRN_PCTRL, .HQP_FENCE], [])
  | .attentionWrite _ => some ([.DRN_PSTAT, .DRN_PCTRL, .DRN_PWR_STAT, .RST_STAT], [.pwr])
  | .doorbellScan _ _ => some ([.FN_STAT], [])
  | .fetchTimeout _ _ _ => some ([.FN_STAT], [])
  | .completionWrite _ => some ([], [.mech, .out])
  | .coalesceTimeout _ _ => some ([], [.out])
  | .identify _ _ _ => some ([], [.mech, .out])
  | .getLog _ _ _ => some ([], [.mech, .out])
  | .setFeature _ _ _ _ => some ([.MOR_EVENT], [.chan, .cirq, .mech])
  | .getFeature _ _ _ => some ([], [.mech, .out])
  | .fwDownload _ _ _ => some ([.MEM_DDR_STAT, .MEM_DDR_CMD], [.fw, .mech, .memx])
  | .fwCommit _ _ _ _ => some ([.MEM_DDR_STAT, .MEM_DDR_CMD], [.fw, .mech, .memx])
  | .createQp _ _ => some ([], [.mech])
  | .deleteQp _ _ => some ([], [.mech])
  | .lease _ _ => some (spinRegs ++ [.HQP_LEASE], [.breath, .chan, .cirq, .drop, .floe, .fw, .mech, .out, .port, .servo])
  | .calibSave _ _ _ => some ([], [.mech, .out])
  | .calibRestore _ _ _ _ => some
    ([.MECH_SPEED, .MECH_CAL_LAST, .PEN_STATUS, .PEN_DROP, .FIRN_STATUS, .FIRN_EVENT, .FIRN_BEAM, .BRTH_EVENT, .BRTH_DOM_STAT],
     [.breath, .cal, .chan, .drop, .mech, .out, .port, .servo])
  | .arm _ _ => some
    (permitRegs ++ [.SAFE_STAT, .SAFE_ZONE, .SAFE_EVENT, .SAFE_CNT],
     [.breath, .cal, .chan, .cirq, .drop, .floe, .fw, .ilk, .mech, .out, .port, .servo])
  | .ilkChannelChange _ _ => some
    (permitRegs ++ [.SAFE_STAT, .SAFE_ZONE, .SAFE_EVENT, .SAFE_DISC_LAST, .SAFE_CNT],
     [.breath, .cal, .chan, .cirq, .drop, .floe, .fw, .ilk, .mech, .out, .port, .servo])
  | .permitHoldDone => some
    (permitRegs ++ [.SAFE_STAT, .SAFE_ZONE, .SAFE_EVENT, .SAFE_CNT],
     [.breath, .cal, .chan, .cirq, .drop, .floe, .fw, .ilk, .mech, .out, .port, .servo])
  | .discrepancyTimeout => some
    (permitRegs ++ [.SAFE_STAT, .SAFE_ZONE, .SAFE_EVENT, .SAFE_DISC_LAST, .SAFE_CNT],
     [.breath, .cal, .chan, .cirq, .drop, .floe, .fw, .ilk, .mech, .out, .port, .servo])
  | .disarm _ => some
    (permitRegs ++ [.DRN_PSTAT, .DRN_PCTRL, .SAFE_STAT, .SAFE_ZONE, .SAFE_EVENT, .SAFE_CNT],
     [.breath, .cal, .chan, .cirq, .drop, .floe, .fw, .ilk, .mech, .out, .port, .servo])
  | .gpioEdge _ _ => some ([.DRN_PSTAT, .DRN_PCTRL, .DRN_PWR_STAT, .DRN_GPIO_IN, .DRN_GPIO_EVENT, .RST_STAT], [.pwr])
  | .gpioSet _ => some ([.DRN_PSTAT, .DRN_PCTRL, .DRN_PWR_STAT, .DRN_GPIO_IN, .DRN_GPIO_OUT, .DRN_GPIO_EVENT, .RST_STAT], [.pwr])
  | .gpioClr _ => some ([.DRN_PSTAT, .DRN_PCTRL, .DRN_PWR_STAT, .DRN_GPIO_IN, .DRN_GPIO_OUT, .DRN_GPIO_EVENT, .RST_STAT], [.pwr])
  | .mctpControl _ => some ([.DRN_PSTAT, .DRN_PCTRL, .DRN_PWR_STAT, .RST_STAT, .MECH_BTEMP], [.breath, .drop, .out, .pwr])
  | .mctpStatus => some ([.DRN_PSTAT, .DRN_PCTRL, .DRN_PWR_STAT, .RST_STAT, .MECH_BTEMP], [.breath, .drop, .out, .pwr])
  | .mctpReadRegister _ => some ([.DRN_PSTAT, .DRN_PCTRL, .DRN_PWR_STAT, .RST_STAT, .MECH_BTEMP], [.breath, .drop, .out, .pwr])
  | .mctpTelemetry _ => some ([.DRN_PSTAT, .DRN_PCTRL, .DRN_PWR_STAT, .RST_STAT, .MECH_BTEMP], [.breath, .drop, .out, .pwr])
  | .mctpLogEntries _ _ => some ([.DRN_PSTAT, .DRN_PCTRL, .DRN_PWR_STAT, .RST_STAT, .MECH_BTEMP], [.breath, .drop, .out, .pwr])
  | .refclkRestored => some ([.DRN_PWR_STAT, .DRN_CLK_STAT, .RST_STAT], [.pwr])
  | .powerGoodRise _ => some ([.GLB_CAUSE, .DRN_PWR_STAT, .DRN_CLK_STAT, .RST_STAT], [.pwr])
  | .hostLinkUp _ _ _ => some
    (takeRegs ++
     [.MECH_SERVO, .MECH_SLED_STAT, .MECH_CAL_LAST, .PEN_DROP, .FIRN_STATUS, .FIRN_EVENT, .FIRN_BEAM, .FIRN_AGC, .FIRN_CNT_INHIBIT, .FIRN_TAP,
      .HQP_PORT],
     [.breath, .cal, .chan, .cirq, .drop, .floe, .mech, .out, .port, .servo])
  | .dimmTempRead _ _ => some ([], [.memx])
  | _ => none

/-- What a mechanism, servo, spindle, cluster, calibration and port command
may write, beside what the end of any command may write: register arrays and parts of the state; none for any other command. -/
def touchesMechanism (c : Instr) : Option (List Reg × List Part) :=
  match c with
  | .portEnable _ => some ([.DRN_PSTAT, .DRN_PCTRL, .MECH_SPEED, .PEN_CFG, .PEN_STATUS, .PEN_DROP, .BRTH_EVENT, .BRTH_DOM_STAT], [.breath, .drop, .port])
  | .portDisable _ => some
    (faultRegs ++ [.DRN_PSTAT, .DRN_PCTRL, .MECH_BRIDGE, .PEN_CFG],
     [.breath, .cal, .chan, .cirq, .drop, .floe, .isol, .mech, .out, .port, .profiles, .servo])
  | .retrain _ => some ([.DRN_PSTAT, .DRN_PCTRL, .MECH_SPEED, .PEN_STATUS, .PEN_DROP, .BRTH_EVENT, .BRTH_DOM_STAT], [.breath, .drop, .port])
  | .sleep _ => some ([.DRN_PSTAT, .DRN_PCTRL, .MECH_SPEED, .PEN_STATUS, .PEN_EVENT, .BRTH_EVENT, .BRTH_DOM_STAT], [.breath, .drop, .port])
  | .portWake _ => some ([.DRN_PSTAT, .DRN_PCTRL, .MECH_SPEED, .PEN_STATUS, .BRTH_EVENT, .BRTH_DOM_STAT], [.breath, .port])
  | .clrCnt _ => some ([.DRN_PSTAT, .DRN_PCTRL, .PEN_CNT_CRC, .PEN_CNT_MISS, .PEN_CNT_REPEAT, .PEN_CNT_BLK, .PEN_CNT_MGMT, .PEN_CNT_TRAIN], [])
  | .trainStepDone _ _ => some
    (faultRegs ++
     [.DBG_UPD_STAT, .DBG_BFW_STAT, .MECH_BRIDGE, .MECH_BRIDGE_SN_LO, .MECH_BRIDGE_SN_HI, .MECH_SLED_LIM_IN, .MECH_SLED_LIM_OUT, .PEN_LANE,
      .PEN_EVENT, .PEN_TIMING, .PEN_FANOUT, .PEN_CNT_TRAIN],
     [.breath, .cal, .chan, .cirq, .drop, .floe, .fw, .isol, .mech, .out, .port, .profiles, .servo])
  | .trainStepTimeout _ _ => some
    (downRegs ++ [.MECH_BRIDGE, .PEN_EVENT, .PEN_CNT_TRAIN, .MOR_EVENT, .MOR_DEC_CMD_STAT, .MOR_DEC],
     [.breath, .cal, .chan, .cirq, .drop, .floe, .mech, .out, .port, .profiles, .servo])
  | .trainRetry _ => some ([.MECH_SPEED, .PEN_STATUS, .PEN_DROP, .BRTH_EVENT, .BRTH_DOM_STAT], [.breath, .drop, .port])
  | .frameTick _ => some
    ([.MECH_SPEED, .PEN_STATUS, .PEN_EVENT, .PEN_SMAP, .PEN_BMAP, .PEN_DROP, .FIRN_STATUS, .FIRN_EVENT, .FIRN_BEAM, .FIRN_CNT_MERGE, .BRTH_EVENT,
      .BRTH_DOM_STAT],
     [.breath, .chan, .drop, .out, .port])
  | .upstreamHeader _ _ => some ([.PEN_STATUS, .PEN_EVENT, .PEN_CNT_BLK], [.port])
  | .servoSlotReceived _ _ _ _ => some
    (faultRegs ++
     [.SAFE_EVENT, .SAFE_LSUP_LAST, .MECH_BTEMP, .MECH_SLED_POS, .MECH_CLAMP_CNT, .PEN_EVENT, .PEN_CNT_CRC, .PEN_CNT_MISS, .CIRQ_CAP_TRIG_LO,
      .CIRQ_CAP_TRIG_HI, .FIRN_CNT_INHIBIT],
     [.breath, .cal, .chan, .cirq, .drop, .floe, .free, .isol, .mech, .out, .port, .profiles, .servo])
  | .servoSlotMissing _ _ => some
    (faultRegs ++ [.MECH_SLED_POS, .PEN_EVENT, .PEN_CNT_MISS, .CIRQ_CAP_TRIG_LO, .CIRQ_CAP_TRIG_HI, .FIRN_CNT_INHIBIT],
     [.breath, .cal, .chan, .cirq, .drop, .floe, .free, .isol, .mech, .out, .port, .profiles, .servo])
  | .actuatorRepeat _ => some ([.PEN_CNT_REPEAT], [.drop, .out])
  | .lockTimeout _ => some ([.MECH_SPEED, .PEN_STATUS, .PEN_DROP, .BRTH_EVENT, .BRTH_DOM_STAT], [.breath, .drop, .port])
  | .dropTimeout _ => some ([.MECH_SPEED, .PEN_STATUS, .PEN_EVENT, .PEN_DROP, .BRTH_EVENT, .BRTH_DOM_STAT], [.breath, .drop, .out, .port])
  | .dropNotFound _ => some
    (downRegs ++ [.MECH_BRIDGE, .PEN_EVENT, .MOR_EVENT, .MOR_DEC_CMD_STAT, .MOR_DEC],
     [.breath, .cal, .chan, .cirq, .drop, .floe, .mech, .out, .port, .profiles, .servo])
  | .mgmtMessage _ _ _ _ _ _ => some
    (faultRegs ++
     [.DBG_UPD_STAT, .DBG_BFW_STAT, .MECH_BRIDGE, .MECH_BRIDGE_SN_LO, .MECH_BRIDGE_SN_HI, .MECH_BTEMP, .MECH_SLED_LIM_IN, .MECH_SLED_LIM_OUT,
      .MECH_CLAMP_CNT, .PEN_EVENT, .PEN_CNT_MGMT],
     [.breath, .cal, .chan, .cirq, .drop, .floe, .fw, .isol, .mech, .out, .port, .profiles, .servo])
  | .mgmtResend _ _ => some ([.PEN_EVENT, .PEN_CNT_MGMT], [.drop, .out])
  | .mapEpochChange _ => some ([.PEN_SMAP, .PEN_BMAP], [.out, .port])
  | .laneLoss _ _ => some ([.PEN_LANE, .PEN_EVENT], [.port])
  | .laneModeSwitch _ _ => some ([.PEN_STATUS, .PEN_EVENT, .PEN_TIMING, .PEN_BMAP, .PEN_DROP, .CIRQ_SLOT], [.out, .port])
  | .laneRejoinAttempt _ _ => some ([], [.port])
  | .laneRejoin _ => some ([.PEN_LANE], [.port])
  | .txOvercurrent _ _ => some ([.PEN_LANE, .PEN_EVENT], [.port])
  | .txOvercurrentRetry _ _ _ => some ([.PEN_LANE], [.port])
  | .lowpowerEntry _ => some ([.MECH_SPEED, .PEN_STATUS, .PEN_EVENT, .BRTH_EVENT, .BRTH_DOM_STAT], [.breath, .drop, .port])
  | .portWakeTimeout _ => some ([.MECH_SPEED, .PEN_STATUS, .PEN_DROP, .BRTH_EVENT, .BRTH_DOM_STAT], [.breath, .drop, .port])
  | .servoPositionGrant _ => some (spinRegs, [.breath, .cirq, .floe, .mech, .out, .port, .servo])
  | .slotSample _ _ => some
    (faultRegs ++
     [.MECH_SLED_POS, .MECH_START_CNT, .PEN_EVENT, .PEN_CNT_MISS, .CIRQ_CAP_TRIG_LO, .CIRQ_CAP_TRIG_HI, .FIRN_AGC, .FIRN_CNT_INHIBIT, .FIRN_TAP],
     [.breath, .cal, .chan, .cirq, .drop, .floe, .free, .isol, .mech, .out, .port, .profiles, .servo])
  | .clusterFault _ _ => some
    ([.RST_CAUSE, .CIRQ_STATUS, .CIRQ_EVENT, .CIRQ_CNT, .CIRQ_HO_STAT, .CIRQ_HO_TIME_LO, .CIRQ_HO_TIME_HI, .CIRQ_COEF_CMD, .CIRQ_STAGE,
      .BRTH_EVENT],
     [.breath, .cirq, .servo])
  | .handoverServe _ => some
    ([.MECH_SERVO, .CIRQ_STATUS, .CIRQ_FMT, .CIRQ_EVENT, .CIRQ_CNT, .CIRQ_CNT_ERR, .CIRQ_SLOT, .CIRQ_LSTAT, .CIRQ_ANGLE, .CIRQ_INJ_CTRL,
      .CIRQ_INJ_AMP, .CIRQ_INJ_F0, .CIRQ_INJ_F1, .CIRQ_INJ_STEP, .CIRQ_INJ_STAT, .CIRQ_CAP_CTRL, .CIRQ_CAP_SEL, .CIRQ_CAP_LEN, .CIRQ_CAP_STAT,
      .CIRQ_CAP_TRIG_LO, .CIRQ_CAP_TRIG_HI, .CIRQ_CAP_PAGE, .CIRQ_HO_STAT, .CIRQ_COEF_CMD] ++
     [.CIRQ_STAGE],
     [.cirq, .servo])
  | .clusterTestDone _ _ => some ([.CIRQ_STATUS, .CIRQ_UCODE, .CIRQ_EVENT, .CIRQ_HO_STAT], [.breath, .cirq])
  | .hoTest _ => some ([.DRN_PSTAT, .DRN_PCTRL, .CIRQ_HO_STAT], [.cirq])
  | .hoUcode _ => some ([.DRN_PSTAT, .DRN_PCTRL, .CIRQ_HO_STAT], [.cirq])
  | .hoFormat _ _ => some ([.DRN_PSTAT, .DRN_PCTRL, .CIRQ_FMT, .CIRQ_HO_STAT], [.cirq])
  | .hoRetest _ => some ([.DRN_PSTAT, .DRN_PCTRL, .CIRQ_STATUS, .CIRQ_HO_STAT, .BRTH_EVENT], [.breath, .cirq])
  | .plannedSwitch _ _ => some
    ([.MECH_SERVO, .CIRQ_STATUS, .CIRQ_FMT, .CIRQ_EVENT, .CIRQ_CNT, .CIRQ_CNT_ERR, .CIRQ_SLOT, .CIRQ_LSTAT, .CIRQ_ANGLE, .CIRQ_INJ_CTRL,
      .CIRQ_INJ_AMP, .CIRQ_INJ_F0, .CIRQ_INJ_F1, .CIRQ_INJ_STEP, .CIRQ_INJ_STAT, .CIRQ_CAP_CTRL, .CIRQ_CAP_SEL, .CIRQ_CAP_LEN, .CIRQ_CAP_STAT,
      .CIRQ_CAP_TRIG_LO, .CIRQ_CAP_TRIG_HI, .CIRQ_CAP_PAGE, .CIRQ_HO_STAT, .CIRQ_HO_TIME_LO] ++
     [.CIRQ_HO_TIME_HI, .CIRQ_COEF_CMD, .CIRQ_STAGE, .BRTH_EVENT],
     [.breath, .cirq, .servo])
  | .collisionMove _ => some ([.CIRQ_EVENT], [.cirq])
  | .coefStageToShadow _ _ => some ([.DRN_PSTAT, .DRN_PCTRL, .CIRQ_COEF_CMD, .CIRQ_STAGE], [.cirq, .servo])
  | .coefShadowToStage _ _ => some ([.DRN_PSTAT, .DRN_PCTRL, .CIRQ_COEF_CMD, .CIRQ_STAGE], [.cirq, .servo])
  | .coefActiveToStage _ _ => some ([.DRN_PSTAT, .DRN_PCTRL, .CIRQ_COEF_CMD, .CIRQ_STAGE], [.cirq, .servo])
  | .coefStageToLibrary _ _ _ => some ([.DRN_PSTAT, .DRN_PCTRL, .CIRQ_COEF_CMD], [.cirq])
  | .coefLibraryToStage _ _ _ => some ([.DRN_PSTAT, .DRN_PCTRL, .CIRQ_COEF_CMD, .CIRQ_STAGE], [])
  | .swapFromShadow _ _ => some ([.DRN_PSTAT, .DRN_PCTRL, .CIRQ_LOOP_STAT], [.servo])
  | .swapFromLibrary _ _ => some ([.DRN_PSTAT, .DRN_PCTRL, .CIRQ_LOOP_STAT], [.servo])
  | .swapAbort _ => some ([.DRN_PSTAT, .DRN_PCTRL, .CIRQ_LOOP_STAT], [.servo])
  | .swapExecute _ => some ([.CIRQ_EVENT, .CIRQ_LSTAT, .CIRQ_LOOP_STAT], [.servo])
  | .swapHoldTimeout _ => some ([.CIRQ_EVENT, .CIRQ_LSTAT, .CIRQ_LOOP_STAT], [.servo])
  | .injStart _ _ _ _ _ => some ([.DRN_PSTAT, .DRN_PCTRL, .CIRQ_INJ_CTRL, .CIRQ_INJ_STAT], [.cirq])
  | .injStop _ => some ([.DRN_PSTAT, .DRN_PCTRL, .CIRQ_INJ_STAT], [.cirq])
  | .capArm _ _ _ _ => some ([.DRN_PSTAT, .DRN_PCTRL, .CIRQ_CAP_CTRL, .CIRQ_CAP_STAT], [.cirq])
  | .capStop _ => some ([.DRN_PSTAT, .DRN_PCTRL, .CIRQ_CAP_STAT], [.cirq])
  | .pullInAttemptTimeout _ => some ([.CIRQ_EVENT, .CIRQ_LSTAT, .CIRQ_INJ_STAT, .CIRQ_LOOP_STAT], [.cirq, .servo])
  | .layerJump _ _ => some (focusRegs ++ [.MECH_SLED_STAT, .FIRN_CNT_INHIBIT], [.breath, .cal, .chan, .cirq, .floe, .mech, .out, .port, .servo])
  | .layerStepTimeout _ => some (takeRegs, [.breath, .cirq, .floe, .mech, .port, .servo])
  | .trackOnTimeout _ => some (faultRegs, [.breath, .cal, .chan, .cirq, .drop, .floe, .isol, .mech, .out, .port, .profiles, .servo])
  | .trackJump _ _ => some
    ([.MECH_SPEED, .MECH_SLED_STAT, .MECH_CAL_LAST, .PEN_STATUS, .PEN_DROP, .CIRQ_EVENT, .CIRQ_LSTAT, .CIRQ_INJ_STAT, .CIRQ_LOOP_STAT,
      .FIRN_STATUS, .FIRN_EVENT, .FIRN_BEAM, .FIRN_CNT_INHIBIT, .BRTH_EVENT, .BRTH_DOM_STAT],
     [.breath, .cal, .chan, .cirq, .out, .port, .servo])
  | .longSeek _ _ _ => some
    (faultRegs ++ [.FIRN_AGC, .FIRN_CNT_INHIBIT, .FIRN_TAP],
     [.breath, .cal, .chan, .cirq, .drop, .floe, .isol, .mech, .out, .port, .profiles, .servo])
  | .addressRead _ _ _ _ _ => some
    (faultRegs ++ [.MECH_SLED_POS, .FIRN_AGC, .FIRN_CNT_INHIBIT, .FIRN_TAP],
     [.breath, .cal, .chan, .cirq, .drop, .floe, .isol, .mech, .out, .port, .profiles, .servo])
  | .profileAlign _ => some ([.MECH_DISC, .CIRQ_EVENT, .CIRQ_LSTAT, .CIRQ_ANGLE, .CIRQ_INJ_STAT, .CIRQ_LOOP_STAT], [.cirq, .profiles, .servo])
  | .profileLearnDone _ => some ([.MECH_DISC, .CIRQ_ANGLE], [.free, .profiles, .servo])
  | .spinStart _ => some ([.MECH_SPIN_STAT], [.servo])
  | .senseDone _ => some ([.MECH_STATE, .MECH_SPIN_STAT, .MECH_START_CNT, .CIRQ_LSTAT], [.mech, .servo])
  | .reverseShortDone _ => some ([.MECH_SPIN_STAT], [.servo])
  | .coastWaitDone _ => some ([.MECH_STATE, .MECH_SPIN_STAT, .MECH_START_CNT, .CIRQ_LSTAT], [.mech, .servo])
  | .catchDone _ => some
    ([.MECH_STATE, .MECH_SPEED, .MECH_SPIN_STAT, .PEN_STATUS, .CIRQ_LSTAT, .FLOE_EVENT, .BRTH_EVENT, .BRTH_DOM_STAT],
     [.breath, .floe, .mech, .port, .servo])
  | .restDone _ => some ([.MECH_SPIN_STAT, .CIRQ_LSTAT], [.servo])
  | .alignDone _ => some ([.MECH_SPIN_STAT], [.servo])
  | .observerHandover _ => some ([], [.servo])
  | .observerTimeout _ => some (faultRegs, [.breath, .cal, .chan, .cirq, .drop, .floe, .isol, .mech, .out, .port, .profiles, .servo])
  | .spinupTimeout _ => some (faultRegs, [.breath, .cal, .chan, .cirq, .drop, .floe, .isol, .mech, .out, .port, .profiles, .servo])
  | .speedReached _ => some (takeRegs, [.breath, .cirq, .floe, .mech, .port, .servo])
  | .speedPlan _ => some ([.MECH_SPEED], [.mech, .servo])
  | .targetDwell _ => some ([.MECH_SPEED, .PEN_STATUS, .BRTH_EVENT, .BRTH_DOM_STAT], [.breath, .port, .servo])
  | .idleSpinDown _ => some (downRegs, [.breath, .cal, .chan, .cirq, .floe, .mech, .out, .port, .profiles, .servo])
  | .slotReclaim _ => some (downRegs, [.breath, .cal, .chan, .cirq, .floe, .mech, .out, .port, .profiles, .servo])
  | .spinDown _ => some ([.CIRQ_EVENT, .CIRQ_LSTAT, .CIRQ_INJ_STAT, .CIRQ_LOOP_STAT], [.cirq, .servo])
  | .shortBrakeDone _ => some (stopRegs, [.breath, .cal, .chan, .cirq, .floe, .mech, .out, .port, .profiles, .servo])
  | .coastDownElapsed _ => some ([.MECH_STATE], [])
  | .sledHoldCurrent _ => some ([.MECH_SLED_STAT], [])
  | .sledTblStageToTable _ => some ([.DRN_PSTAT, .DRN_PCTRL, .MECH_SLED_TBL_CTRL], [.cirq, .servo])
  | .sledTblTableToStage _ => some ([.DRN_PSTAT, .DRN_PCTRL, .MECH_SLED_TBL_CTRL, .MECH_SLED_TBL_STAGE], [])
  | .sledTblDefaultToStage _ => some ([.DRN_PSTAT, .DRN_PCTRL, .MECH_SLED_TBL_CTRL, .MECH_SLED_TBL_STAGE], [])
  | .trayMoveStart _ => some ([], [.mech])
  | .traySwitchReached _ => some (trayRegs ++ [.MECH_DISC, .MECH_CLAMP_CNT], [.breath, .cal, .chan, .drop, .floe, .mech, .out, .port, .profiles])
  | .trayTimeout _ => some (faultRegs, [.breath, .cal, .chan, .cirq, .drop, .floe, .isol, .mech, .out, .port, .profiles, .servo])
  | .forceSafe _ => some (faultRegs ++ [.DRN_PSTAT, .DRN_PCTRL], [.breath, .cal, .chan, .cirq, .drop, .floe, .isol, .mech, .out, .port, .profiles, .servo])
  | .clrFault _ => some (moveRegs ++ [.DRN_PSTAT, .DRN_PCTRL, .MECH_SLED_LIM_IN, .MECH_SLED_LIM_OUT], [.breath, .floe, .mech, .port])
  | .unisolate _ _ _ => some
    (faultRegs ++ [.DRN_PSTAT, .DRN_PCTRL, .MECH_SLED_LIM_IN, .MECH_SLED_LIM_OUT],
     [.breath, .cal, .chan, .cirq, .drop, .floe, .isol, .mech, .out, .port, .profiles, .servo])
  | .calTempCheck => some ([], [.cal, .time])
  | .calRunStart _ _ _ _ _ => some
    (spinRegs ++ [.MECH_CAL_STAT, .MECH_CAL_LAST, .FIRN_STATUS, .FIRN_EVENT, .FIRN_BEAM, .FIRN_AGC, .FIRN_CNT_INHIBIT, .FIRN_TAP],
     [.breath, .cal, .chan, .cirq, .drop, .floe, .mech, .out, .port, .servo])
  | .calRunDone _ _ _ _ _ => some
    ([.MECH_SPEED, .MECH_CAL_STAT, .MECH_CAL_LAST, .PEN_STATUS, .PEN_DROP, .FIRN_STATUS, .FIRN_EVENT, .FIRN_BEAM, .FLOE_EVENT, .BRTH_EVENT,
      .BRTH_DOM_STAT],
     [.breath, .cal, .chan, .drop, .mech, .out, .port, .servo])
  | .calRetry _ _ _ _ => some ([], [.cal])
  | .calReadWindow _ => some ([.DRN_PSTAT, .DRN_PCTRL, .MECH_CAL_CMD, .MECH_CAL_DATA], [])
  | .calWriteWindow _ => some
    ([.DRN_PSTAT, .DRN_PCTRL, .MECH_SPEED, .MECH_CAL_CMD, .MECH_CAL_LAST, .PEN_STATUS, .PEN_DROP, .FIRN_STATUS, .FIRN_EVENT, .FIRN_BEAM,
      .BRTH_EVENT, .BRTH_DOM_STAT],
     [.breath, .cal, .chan, .drop, .out, .port, .servo])
  | .calRunNow _ _ => some
    (takeRegs ++
     [.DRN_PSTAT, .DRN_PCTRL, .MECH_SERVO, .MECH_SLED_STAT, .MECH_CAL_CMD, .MECH_CAL_STAT, .MECH_CAL_LAST, .PEN_DROP, .FIRN_STATUS, .FIRN_EVENT,
      .FIRN_BEAM, .FIRN_AGC, .FIRN_CNT_INHIBIT, .FIRN_TAP],
     [.breath, .cal, .chan, .cirq, .drop, .floe, .mech, .out, .port, .servo])
  | .calMarkStale _ => some ([.DRN_PSTAT, .DRN_PCTRL, .MECH_CAL_CMD], [.cal])
  | _ => none

/-- What a lane, decoder, map, floe and media command
may write, beside what the end of any command may write: register arrays and parts of the state; none for any other command. -/
def touchesData (c : Instr) : Option (List Reg × List Part) :=
  match c with
  | .laneBind _ _ => some (trayRegs ++ [.MECH_SERVO, .FIRN_STATUS, .FIRN_BEAM, .FIRN_AGC, .FIRN_TAP], [.breath, .chan, .drop, .floe, .mech, .out, .port])
  | .laneIdleRelease _ => some
    (trayRegs ++ [.MECH_SERVO, .FIRN_STATUS, .FIRN_EVENT, .FIRN_BEAM, .FIRN_LANE_STAT],
     [.breath, .chan, .floe, .mech, .out, .port])
  | .laneMigrate _ => some
    ([.DRN_PSTAT, .DRN_PCTRL, .MECH_SPEED, .PEN_STATUS, .FIRN_STATUS, .FIRN_BEAM, .FIRN_AGC, .FIRN_TAP, .FIRN_LANE_STAT, .BRTH_EVENT,
      .BRTH_DOM_STAT],
     [.breath, .chan, .drop, .out, .port])
  | .laneTest _ => some ([.DRN_PSTAT, .DRN_PCTRL, .FIRN_STATUS, .FIRN_LANE_STAT, .BRTH_EVENT], [.breath, .chan])
  | .laneRetest _ => some ([.DRN_PSTAT, .DRN_PCTRL, .FIRN_STATUS, .FIRN_LANE_STAT, .BRTH_EVENT], [.breath, .chan])
  | .migrationSwitch _ => some ([.MECH_SERVO, .FIRN_STATUS, .FIRN_EVENT, .FIRN_CNT, .FIRN_BEAM, .FIRN_LANE_STAT, .BRTH_EVENT], [.breath, .chan])
  | .laneFault _ _ => some
    ([.MECH_STATE, .MECH_SERVO, .MECH_SPEED, .PEN_STATUS, .PEN_DROP, .FIRN_STATUS, .FIRN_EVENT, .FIRN_CNT, .FIRN_BEAM, .FIRN_AGC, .FIRN_TAP,
      .FIRN_LANE_STAT, .FLOE_EVENT, .BRTH_EVENT, .BRTH_DOM_STAT],
     [.breath, .chan, .drop, .floe, .mech, .out, .port])
  | .laneTestDone _ _ => some ([.FIRN_STATUS, .FIRN_EVENT, .FIRN_PROG, .FIRN_LANE_STAT], [.breath, .chan])
  | .rfBurst _ _ _ _ _ _ => some
    ([.FIRN_EVENT, .FIRN_BEAM, .FIRN_AGC, .FIRN_CNT_FRAME, .FIRN_CNT_FALLBACK, .FIRN_CNT_ERASED, .FIRN_CNT_DEFECT, .FIRN_TAP, .FIRN_RD_CFG,
      .FIRN_SYNC_CFG, .FIRN_BD_CFG, .MOR_EVENT, .MOR_CNT_OVERFLOW, .MEM_DDR_STAT, .MEM_DDR_CMD],
     [.chan, .memx, .time])
  | .levelBankSwitch _ => some ([], [.chan])
  | .writeStop _ => some ([], [.chan])
  | .writeStopTimeout _ => some
    ([.MECH_SPEED, .PEN_STATUS, .PEN_DROP, .FIRN_STATUS, .FIRN_EVENT, .FIRN_BEAM, .BRTH_EVENT, .BRTH_DOM_STAT],
     [.breath, .chan, .out, .port])
  | .llrMove => some ([], [.chan])
  | .codewordUrgent _ => some ([.MOR_EVENT, .MOR_DEC], [.chan])
  | .parkComplete _ => some ([.MOR_EVENT, .MOR_DEC_CMD_STAT, .MOR_CNT_PARK, .MOR_DEC, .BRTH_EVENT], [.breath, .chan])
  | .decoderGrant => some ([.MOR_DEC], [.chan])
  | .decodeIteration _ => some ([.MOR_EVENT, .MOR_DEC_CMD_STAT, .MOR_CNT_CW, .MOR_CNT_UNC, .MOR_CNT_CRC, .MOR_DEC, .BRTH_EVENT], [.breath, .chan, .mech])
  | .wallTimeout _ => some ([.MOR_EVENT, .MOR_DEC_CMD_STAT, .MOR_CNT_UNC, .MOR_DEC, .BRTH_EVENT], [.breath, .chan])
  | .starveTimeout _ => some ([.MOR_EVENT, .MOR_STARVE_SRC], [.chan])
  | .decoderWatchdog _ _ => some ([.MOR_EVENT, .MOR_DEC_CMD_STAT, .MOR_CNT_UNC, .MOR_CNT_WDOG, .MOR_DEC, .BRTH_EVENT], [.breath, .chan])
  | .decTest _ => some ([.DRN_PSTAT, .DRN_PCTRL, .MOR_DEC_CMD_STAT, .MOR_DEC, .BRTH_EVENT], [.breath, .chan])
  | .decEnable _ => some ([.DRN_PSTAT, .DRN_PCTRL, .MOR_DEC_CMD_STAT, .MOR_DEC], [.chan])
  | .decDisable _ => some ([.DRN_PSTAT, .DRN_PCTRL, .MOR_EVENT, .MOR_DEC_CMD_STAT, .MOR_DEC, .BRTH_EVENT], [.breath, .chan])
  | .decoderTestDone _ _ => some ([.MOR_EVENT, .MOR_DEC_CMD_STAT, .MOR_DEC, .MOR_PROG], [.breath, .chan])
  | .outerDecode _ _ _ => some ([], [.chan, .mech])
  | .sectorRetryRev _ _ _ => some ([], [.chan, .mech])
  | .mapAppend _ _ => some
    (trayRegs ++ [.MECH_SERVO, .MECH_DISC, .FIRN_STATUS, .FIRN_EVENT, .FIRN_BEAM, .FIRN_LANE_STAT, .FLOE_CNT_REPAIR],
     [.breath, .chan, .floe, .mech, .out, .port])
  | .appendRetry _ => some
    (spinRegs ++ [.FIRN_STATUS, .FIRN_BEAM, .FIRN_AGC, .FIRN_TAP],
     [.breath, .chan, .cirq, .drop, .floe, .mech, .out, .port, .servo])
  | .stripeCloseTimeout _ _ => some ([.FLOE_EVENT], [.chan, .floe])
  | .resync _ _ => some
    (spinRegs ++ [.MECH_CAL_LAST, .FIRN_STATUS, .FIRN_EVENT, .FIRN_BEAM, .FIRN_AGC, .FIRN_TAP],
     [.breath, .cal, .chan, .cirq, .drop, .floe, .mech, .out, .port, .servo])
  | .floeReconstruct _ _ _ => some
    (spinRegs ++ [.MECH_CAL_LAST, .FIRN_STATUS, .FIRN_EVENT, .FIRN_BEAM, .FIRN_AGC, .FIRN_TAP, .FLOE_CNT_RECON],
     [.breath, .cal, .chan, .cirq, .drop, .floe, .mech, .out, .port, .servo])
  | .floeRepair _ => some ([.FLOE_EVENT], [.chan])
  | .scrubTick _ => some
    (spinRegs ++ [.MECH_CAL_LAST, .FIRN_STATUS, .FIRN_EVENT, .FIRN_BEAM, .FIRN_AGC, .FIRN_TAP, .FLOE_CNT_SCRUB, .FLOE_CNT_MISMATCH],
     [.breath, .cal, .chan, .cirq, .drop, .floe, .mech, .out, .port, .servo])
  | .rebuildStep _ => some
    (spinRegs ++ [.MECH_CAL_LAST, .FIRN_STATUS, .FIRN_EVENT, .FIRN_BEAM, .FIRN_AGC, .FIRN_TAP],
     [.breath, .cal, .chan, .cirq, .drop, .floe, .mech, .out, .port, .servo])
  | .descriptorFetched _ _ _ => some (takeRegs, [.breath, .cirq, .floe, .mech, .port, .pwr, .servo])
  | .commandDeadline _ _ => some (spinRegs, [.breath, .chan, .cirq, .drop, .floe, .fw, .mech, .out, .port, .servo])
  | .writeAccepted _ _ _ _ => some ([.MEM_DDR_STAT, .MEM_DDR_CMD], [.breath, .chan, .mech, .memx])
  | .read _ _ _ => some
    (spinRegs ++ [.MECH_CAL_LAST, .FIRN_STATUS, .FIRN_EVENT, .FIRN_BEAM, .FIRN_AGC, .FIRN_TAP, .MEM_DDR_STAT, .MEM_DDR_CMD],
     [.breath, .cal, .chan, .cirq, .drop, .floe, .mech, .memx, .out, .port, .servo])
  | .write _ _ => some
    (spinRegs ++ [.MECH_CAL_LAST, .FIRN_STATUS, .FIRN_EVENT, .FIRN_BEAM, .FIRN_AGC, .FIRN_TAP, .FLOE_CNT_REPAIR, .MEM_DDR_STAT, .MEM_DDR_CMD],
     [.breath, .cal, .chan, .cirq, .drop, .floe, .mech, .memx, .out, .port, .servo])
  | .verify _ _ => some
    (spinRegs ++ [.MECH_CAL_LAST, .FIRN_STATUS, .FIRN_EVENT, .FIRN_BEAM, .FIRN_AGC, .FIRN_TAP],
     [.breath, .cal, .chan, .cirq, .drop, .floe, .mech, .out, .port, .servo])
  | .commit _ _ => some ([], [.breath, .mech])
  | .mount _ _ _ _ => some
    (downRegs ++ [.MECH_COUNT, .MECH_SLED_LIM_IN, .MECH_SLED_LIM_OUT, .FIRN_AGC, .FIRN_TAP],
     [.breath, .cal, .chan, .cirq, .drop, .floe, .mech, .out, .port, .profiles, .servo])
  | .unmount _ _ => some
    (downRegs ++ [.MECH_SLED_LIM_IN, .MECH_SLED_LIM_OUT, .FIRN_AGC, .FIRN_TAP],
     [.breath, .cal, .chan, .cirq, .drop, .floe, .mech, .out, .port, .profiles, .servo])
  | .load _ _ => some (trayRegs ++ [.MECH_SLED_LIM_IN, .MECH_SLED_LIM_OUT], [.breath, .floe, .mech, .out, .port])
  | .eject _ _ => some
    (downRegs ++ [.MECH_SLED_LIM_IN, .MECH_SLED_LIM_OUT, .FIRN_AGC, .FIRN_TAP],
     [.breath, .cal, .chan, .cirq, .drop, .floe, .mech, .out, .port, .profiles, .servo])
  | .seekHint _ _ _ _ => some
    (permitRegs ++ [.FIRN_AGC, .FIRN_CNT_INHIBIT, .FIRN_TAP],
     [.breath, .cal, .chan, .cirq, .drop, .floe, .free, .mech, .out, .port, .servo])
  | .abort _ _ => some (spinRegs, [.breath, .chan, .cirq, .drop, .floe, .fw, .mech, .out, .port, .servo])
  | .scrub _ _ => some
    (spinRegs ++ [.MECH_CAL_LAST, .FIRN_STATUS, .FIRN_EVENT, .FIRN_BEAM, .FIRN_AGC, .FIRN_TAP, .FLOE_CNT_SCRUB, .FLOE_CNT_MISMATCH],
     [.breath, .cal, .chan, .cirq, .drop, .floe, .mech, .out, .port, .servo])
  | .servoTest _ _ _ => some
    (spinRegs ++
     [.MECH_CAL_LAST, .CIRQ_INJ_CTRL, .CIRQ_INJ_AMP, .CIRQ_INJ_F0, .CIRQ_INJ_F1, .CIRQ_INJ_STEP, .CIRQ_CAP_CTRL, .CIRQ_CAP_SEL, .CIRQ_CAP_LEN,
      .FIRN_STATUS, .FIRN_EVENT, .FIRN_BEAM, .FIRN_AGC, .FIRN_TAP],
     [.breath, .cal, .chan, .cirq, .drop, .floe, .mech, .out, .port, .servo])
  | .floeDefine _ _ _ _ => some ([.FLOE_EVENT], [.floe, .mech])
  | .floeDelete _ _ => some ([.FLOE_EVENT], [.chan, .floe, .mech])
  | .floeRebuild _ _ => some ([.FLOE_EVENT], [.floe, .mech])
  | _ => none

/-- Command c, with these register arrays and parts to write, leaves the queue, every other register array but those of endRegs, and every other part
but the log, the events and the host's queues as they were. -/
def Framed (c : Instr) (regs : List Reg) (parts : List Part) : Prop :=
  ∀ s t : State, exec c s = .next t → t.pending = s.pending ∧
    (∀ e ∈ allRegs, (∀ r ∈ endRegs ++ regs, r.base ≠ e.reg.base) → ∀ i j, t.rd e.reg i j = s.rd e.reg i j) ∧
    ∀ p : Part, p ∉ [.log, .evt, .host] → p ∉ parts → pick p t = pick p s

end Sys2Proof
end

