-- ==== Sys2Proof/Certificates/Slice0/Obligations.lean ====
section
/-! DEFINITION. The statements for the provers: what each command does where the spec says it is carried out, what a step keeps, and how a step takes
the command at the front of the queue. -/

open Sys2Proof Sys2Proof.Machine

/-- Mechanism n has recorded this fault and taken its action: it is FAULTED or ISOLATED, the latter for an ISOLATED-action code, without a slot (R46, R47). -/
def FaultTaken (n code : Nat) (t : State) : Prop :=
  t.get .MECH_FAULT_CODE n = code ∧ t.on .MECH_FAULT_NEW n = true ∧ (t.mst n = 8 ∨ t.mst n = 9) ∧ (actionFaulted code = false → t.mst n = 9) ∧ t.holdsSlot n = false

/-- Port p goes on at once with its LINK grant: it holds it, or nothing waits in its domain and its request may be granted (R59, R88, R302). -/
def LinkFree (s : State) (p : Nat) : Prop :=
  tabGet s.breath.link p none ≠ none ∨
  ((∀ q ∈ s.breath.reqs, q.dom ≠ s.get .BRTH_PORT_DOMAIN p ∧ ¬ (q.cls = 1 ∧ q.who = p)) ∧
    s.grantNow { cls := 1, who := p, dom := s.get .BRTH_PORT_DOMAIN p, mw := s.get .BRTH_PORT_LINK_MW p, at_ := s.now } = true)

/-- Port p has no deferred LINK request. -/
def LinkQuiet (s : State) (p : Nat) : Prop := ∀ q ∈ s.breath.reqs, ¬ (q.cls = 1 ∧ q.who = p)

/-- A step runs the command at the front of the queue (spec/00_scope.md R1) -/
def Obligations.StepRunsFront : Prop :=
  ∀ (c : Instr) (rest : List Instr) (s : State), step { s with pending := c :: rest } = exec c { s with pending := rest }

/-- A step takes one command from the queue and adds none; with an empty queue it is one tick (the model's choice, note 1) (spec/00_scope.md, R423) -/
def Obligations.StepsAndTicks : Prop :=
  (∀ (c : Instr) (rest : List Instr) (s t : State), step { s with pending := c :: rest } = .next t → t.pending = rest) ∧
  (∀ s : State, s.pending = [] → s.pwr.seq = none → (∀ k ∈ [1, 2, 4, 5, 7], s.get .DRN_PSTAT_STATE ≠ k) →
    ∃ t, step s = .next t ∧ t = { s with time := t.time } ∧ (s.time.frac < 2 ^ 24 → s.time.now * 2 ^ 24 + s.time.frac + s.get .DRN_TIME_RATIO_RATIO < 2 ^ 88 →
      t.time.now * 2 ^ 24 + t.time.frac = s.time.now * 2 ^ 24 + s.time.frac + s.get .DRN_TIME_RATIO_RATIO)) ∧
  (∀ s : State, s.pending = [] → s.pwr.seq = none → s.get .DRN_PSTAT_STATE = 1 → s.now + 40 < 2 ^ 64 →
    ∃ t, step s = .next t ∧ t.pending = [] ∧ t.time = { s.time with now := s.now + 40 } ∧
      (∀ e ∈ allRegs, (∀ r ∈ endRegs ++ tickRegs, r.base ≠ e.reg.base) → ∀ i j, t.rd e.reg i j = s.rd e.reg i j) ∧
      ∀ p : Part, p ∉ [.time, .log, .pwr, .dbg, .memx, .out, .free] → pick p t = pick p s) ∧
  (∀ (s : State) (q : DroneSeq) (t0 : Nat), s.pending = [] → s.pwr.seq = some (q, t0) → s.get .DRN_PSTAT_STATE ≠ 1 → s.tick.now < t0 + s.seqWait q →
    ∃ t, step s = .next t ∧ t = { s with time := t.time })

/-- Every command answers a next state; only a register access outside the windows or off a dword boundary stops (R8, R9, R10) -/
def Obligations.EveryCommandAnswers : Prop :=
  ∀ (c : Instr) (s : State),
    (∀ a v be, c = .registerWrite a v be → a % 4 = 0 ∧ a < 0x3000000) → (∀ a, c = .registerRead a → a % 4 = 0 ∧ a < 0x3000000) → ∃ t, exec c s = .next t

/-- Registers are accessed as aligned dwords: others stop by name; a partial write is discarded and logged; a read returns the dword (R8) -/
def Obligations.RegisterAccesses : Prop :=
  (∀ (a : Nat) (v : Word) (be : Fin 16) (s : State),
    (a % 4 ≠ 0 → exec (.registerRead a) s = .fault .misaligned ∧ exec (.registerWrite a v be) s = .fault .misaligned) ∧
    (a % 4 = 0 → 0x3000000 ≤ a → exec (.registerRead a) s = .fault .noSuchAddress ∧ exec (.registerWrite a v be) s = .fault .noSuchAddress)) ∧
  (∀ (a : Nat) (v : Word) (be : Fin 16) (s : State), a % 4 = 0 → a < 0x3000000 → s.closed = false → be.val ≠ 15 → Completes (.registerWrite a v be) s fun t =>
    let u := if inBar2 a then s else s.dozeWake 2
    let room := decide ((tabGet u.host.events (u.get .HQP_STEWARD_STEWARD_FN) []).length < 64)
    (∀ e ∈ allRegs, endRegs.all (fun q => q.base != e.reg.base) = true → ∀ i j, t.rd e.reg i j = u.rd e.reg i j) ∧ t.host.msix = u.host.msix ∧
    (room = true → t.log = (u.logEntry { cls := 1, code := 1, sev := 0, fn := if inSetup a then 0xFFFF else fnAt a, detail0 := if inSetup a then a else a % 0x10000, detail1 := be }).log)) ∧
  (∀ (a : Nat) (s : State), a % 4 = 0 → a < 0x3000000 → s.pst = 1 → s.closed = false → Completes (.registerRead a) s fun t => ∃ v : Word, t.out = .regData a v :: s.out)

/-- Every register has an address of its own, and the address finds it (R554) -/
def Obligations.RegistersApart : Prop :=
  ∀ e ∈ allRegs, ∀ i j, e.reg.has i j = true → ∃ e', findReg (e.reg.addr i j) = some (e', i, j) ∧ e'.reg.base = e.reg.base

/-- No step changes the identity registers of the device (R10, spec/21_register_index.md) -/
def Obligations.IdentityFixed : Prop :=
  ∀ s t : State, step s = .next t → ∀ k ∈ [0, 4, 8, 12], t.readAt k = s.readAt k

/-- No step changes an OTP option slot that is not blank (R457) -/
def Obligations.OtpSlotsFixed : Prop :=
  ∀ (s t : State) (k : Nat), step s = .next t → blockBlank (s.otpSlot k) = false → t.otpSlot k = s.otpSlot k

/-- Every step keeps the laser permits sound: high only in armed zones, both channels CLOSED for 50 ms, no fault latched (R30, R498, R502, R503) -/
def Obligations.PermitsSound : Prop :=
  ∀ s t : State, PermitSound s → step s = .next t → PermitSound t

/-- The reset state holds the reset values of the register index; its queue is empty, no zone is armed and no permit is high (R499, R554, spec/21_register_index.md) -/
def Obligations.ResetValues : Prop :=
  State.reset.pending = [] ∧ (∀ e ∈ allRegs, ∀ i j, State.reset.rd e.reg i j = e.reg.reset i j) ∧
    State.reset.rd .GLB_ID = 0x7D3E8100 ∧ State.reset.get .DRN_PSTAT_STATE = 0 ∧ State.reset.get .RST_STAT_STAGE = 0 ∧
  PermitSound State.reset ∧ State.reset.get .SAFE_ZONE_LPERMIT = 0 ∧ State.reset.get .SAFE_ZONE_ARMED = 0

/-- A channel change, the 50 ms and the discrepancy timeout: what each leaves of the channels, the permits and the fault (R498, R501, R502, R503) -/
def Obligations.InterlockChannels : Prop :=
  (∀ (a b : Bool) (s : State), PermitSound s → s.ilk.bitAt + bitPeriod ≤ s.now → Completes (.ilkChannelChange a b) s fun t =>
    let x := channelState false patternA patternB (a :: s.ilk.histA.take 15) s.ilk.bit
    let y := channelState true patternB patternA (b :: s.ilk.histB.take 15) s.ilk.bit
    t.get .SAFE_STAT_STATE_A = x ∧ t.get .SAFE_STAT_STATE_B = y ∧ (x ≠ 1 ∨ y ≠ 1 → t.get .SAFE_ZONE_LPERMIT = 0) ∧ t.ilk.bit = (s.ilk.bit + 1) % 8 ∧
    (x ≠ s.get .SAFE_STAT_STATE_A ∨ y ≠ s.get .SAFE_STAT_STATE_B → (t.ilk.dis.isSome = decide ((x = 1) ≠ (y = 1))) ∧
      (x = 3 ∨ y = 3 ∨ x = 4 ∨ y = 4 → t.on .SAFE_STAT_FAULT = true ∧ t.get .SAFE_ZONE_ARMED = 0))) ∧
  (∀ (s : State) (t0 : Nat), s.ilk.since = some t0 → s.ilk.held = false → t0 + ms 50 ≤ s.now → s.on .SAFE_STAT_FAULT = false → s.pwr.keep = false →
    Completes .permitHoldDone s fun t => t.get .SAFE_ZONE_LPERMIT = s.get .SAFE_ZONE_ARMED ∧ t.get .SAFE_ZONE_ARMED = s.get .SAFE_ZONE_ARMED ∧ t.on .SAFE_STAT_OK = true) ∧
  (∀ (s : State) (t0 lim : Nat), s.ilk.dis = some (t0, lim, false) → t0 + ms lim ≤ s.now → s.on .SAFE_STAT_FAULT = false →
    Completes .discrepancyTimeout s fun t => t.on .SAFE_STAT_FAULT = true ∧ t.get .SAFE_STAT_CAUSE = 1 ∧ t.get .SAFE_ZONE_ARMED = 0 ∧ t.get .SAFE_ZONE_LPERMIT = 0 ∧
      t.on .SAFE_EVENT_FAULT = true)

/-- ARM is accepted only while both channels read CLOSED; a refused ARM changes nothing; DISARM drops the permits of its zones and latches nothing (R504, R505) -/
def Obligations.ArmAndDisarm : Prop :=
  (∀ (fn : FnIx) (tag : Nat) (s : State) (c : Ctx), AdminCmd s fn tag 0x8C c →
    let zones := specByte c.d 0
    let closed := s.get .SAFE_STAT_STATE_A = 1 ∧ s.get .SAFE_STAT_STATE_B = 1
    let ack := specByte c.d 1 % 2 = 1
    let refused := fun (st : Nat) => Completes (.arm fn tag) s fun t => Answered fn tag st (s.get .SAFE_ZONE_LPERMIT) zones t ∧
      t.rd .SAFE_ZONE = s.rd .SAFE_ZONE ∧ t.rd .SAFE_STAT = s.rd .SAFE_STAT ∧ t.ilk = s.ilk
    (¬ closed → refused 0x0604) ∧ (closed → s.on .SAFE_STAT_FAULT = true → ¬ ack → refused 0x0603) ∧
    (closed → s.on .SAFE_STAT_FAULT = false ∨ ack → Completes (.arm fn tag) s fun t => t.get .SAFE_ZONE_ARMED = Nat.lor (s.get .SAFE_ZONE_ARMED) zones % 256 ∧
      t.on .SAFE_STAT_FAULT = false ∧ t.get .SAFE_ZONE_LPERMIT = (if s.ilk.held && !s.pwr.keep then t.get .SAFE_ZONE_ARMED else 0) ∧ Ended fn tag 0 t)) ∧
  (∀ (s : State) (t0 : Nat), s.ilk.since = some t0 → s.ilk.held = false → t0 + ms 50 ≤ s.now → s.on .SAFE_STAT_FAULT = false → s.pwr.keep = false →
    Completes .permitHoldDone s fun t => t.get .SAFE_ZONE_LPERMIT = s.get .SAFE_ZONE_ARMED) ∧
  (∀ (zones : Fin 256) (s : State), s.closed = false → Completes (.disarm zones) s fun t =>
    t.get .SAFE_ZONE_ARMED = Nat.land (s.get .SAFE_ZONE_ARMED) (255 - zones) ∧ Nat.land (t.get .SAFE_ZONE_LPERMIT) zones = 0 ∧
    (Nat.land (s.get .SAFE_ZONE_LPERMIT) (255 - t.get .SAFE_ZONE_LPERMIT) ≠ 0 → t.on .SAFE_EVENT_DROP = true) ∧
    t.on .SAFE_STAT_FAULT = s.on .SAFE_STAT_FAULT ∧ t.get .SAFE_STAT_CAUSE = s.get .SAFE_STAT_CAUSE ∧ t.ilk.dis = s.ilk.dis)

/-- Write-backs, patrol, merge flush and DMA halts: the SRAM word, the place of the patrol and the channel each leaves (R386, R387, R393) -/
def Obligations.MemoryChecks : Prop :=
  (∀ (bank : Fin 48) (word : Fin 262144) (s : State), s.memx.fix.contains (bank.val * 2 ^ 18 + word.val) = true → Completes (.ceWriteback bank word) s fun t =>
    t.memx.fix.contains (bank.val * 2 ^ 18 + word.val) = false ∧ t.memx.sram = s.memx.sram) ∧
  (∀ (hit : Option EccHit) (s : State), s.get .MEM_SCRUB_CFG_SRAM_S ≠ 0 →
    patrolDue s.now s.memx.sramAt (s.get .MEM_SCRUB_CFG_SRAM_S * 1000000000) (48 * 2 ^ 18) = true → Completes (.patrolScrub false hit) s fun t =>
    t.memx.sramNext = (s.memx.sramNext + 1) % (48 * 2 ^ 18) ∧ t.memx.sram = s.memx.sram) ∧
  (∀ (hit : Option EccHit) (s : State), s.get .MEM_SCRUB_CFG_DRAM_H ≠ 0 → s.dramWords ≠ 0 →
    patrolDue s.now s.memx.dramAt (s.get .MEM_SCRUB_CFG_DRAM_H * 3600000000000) s.dramWords = true → Completes (.patrolScrub true hit) s fun t =>
    t.memx.dramNext = (s.memx.dramNext + 1) % s.dramWords) ∧
  (∀ (bank : Fin 48) (word : Fin 262144) (cls : Fin 4) (s : State) (e : MergeX), s.mergeEntry bank word = some e →
    s.get .MEM_MERGE_CFG_IDLE_CYC ≤ e.idle ∨ mergeWords ≤ (s.bank bank).merge.length → Completes (.mergeFlush bank word cls) s fun t =>
      t.mergeEntry bank word = none ∧
      (cls.val ≠ 3 → t.sramWord bank word = mergeBytes (s.sramWord bank word) e.value e.mask % 2 ^ 64) ∧
      (cls.val = 3 → t.sramWord bank word = s.sramWord bank word ∧ t.on .MEM_EVENT_MERGE_UE = true)) ∧
  (∀ (k : Fin 24) (ecc : Option EccHit) (cmds : List (FnIx × Nat)) (lost : List Nat) (cw : Option Nat) (s : State), s.get .MEM_DMA_STAT_CSTATE k < 2 →
    Completes (.dmaHalt k ecc cmds lost cw) s fun t =>
      t.get .MEM_DMA_STAT_CSTATE k = 2 ∧ t.get .MEM_DMA_STAT_CAUSE k = (if ecc.isSome then 2 else 1) ∧ t.on .MEM_EVENT_DMA_HALT = true) ∧
  (∀ (k : Fin 24) (s : State), s.get .MEM_DMA_STAT_CSTATE k = 2 → tabGet s.memx.haltAt k 0 + ms 5 ≤ s.now → Completes (.dmaRestart k) s fun t =>
    t.get .MEM_DMA_STAT_CSTATE k = 0 ∧ t.on .MEM_EVENT_DMA_RESTART = true)

/-- DRAM channels: refresh, self-refresh, applied delays, retuning, the test engine, the DIMM temperature (R399, R400, R401, R402, R525) -/
def Obligations.DramChannels : Prop :=
  (∀ (ch : ChannelIx) (s : State), s.populated ch = true → s.inSr ch = false →
    tabGet s.memx.refreshAt ch 0 + Config.refreshNs (tabGet s.memx.dimm ch 0) ≤ s.now → Completes (.dramRefresh ch) s fun t => tabGet t.memx.refreshAt ch 0 = s.now) ∧
  (∀ (ch : ChannelIx) (s : State), s.populated ch = true → s.inSr ch = false → s.get .MEM_DDR_CFG_SR_IDLE_US ≠ 0 → s.chanIdle ch = true →
    Completes (.selfRefreshEntry ch) s fun t => t.inSr ch = true) ∧
  (∀ (ch : ChannelIx) (s : State), s.closed = false → s.on .MEM_DDR_CMD_BUSY = false → s.populated ch = true → s.inSr ch = false →
    Completes (.ddrApplyDelays ch) s fun t => tabGet t.memx.delays ch [] = ((List.range 10).map fun l => (s.rd .MEM_DDR_DLY ch l).toNat) ∧
      t.get .MEM_DDR_CMD_RESULT = 0 ∧ t.get .MEM_DDR_CMD_CH = ch.val) ∧
  (∀ (ch : ChannelIx) (s : State), s.populated ch = true → s.inSr ch = false →
    s.get .MEM_DDR_CFG_RETUNE_DELTA < (s.dieTemp - tabGet s.memx.applyTemp ch 0).natAbs →
    Completes (.ddrRetune ch) s fun t => let dly := fun l => BitVec.ofNat 32 (Config.delayTable ch s.dieTemp l)
      (∀ l < 10, t.rd .MEM_DDR_DLY ch l = dly l) ∧
      tabGet t.memx.delays ch [] = ((List.range 10).map fun l => (dly l).toNat) ∧ tabGet t.memx.applyTemp ch 0 = s.dieTemp) ∧
  (∀ (ch : ChannelIx) (pattern : Fin 16) (len : Fin 65536) (fails : Option (Fin 1024)) (s : State), s.closed = false → len.val ≠ 0 →
    s.on .MEM_DDR_TEST_STAT_BUSY = false → Completes (.ddrTestStart ch pattern len fails) s fun t =>
      let traffic := (s.dozeWake 2).carriesTraffic ch
      t.get .MEM_DDR_TEST_CTRL_CH = ch.val ∧ t.get .MEM_DDR_TEST_CTRL_LEN_KIB = len.val ∧ (traffic = true → t.get .MEM_DDR_TEST_STAT_RESULT = 3) ∧
      (traffic = false → fails = none → t.on .MEM_DDR_TEST_STAT_BUSY = true) ∧
      (∀ m, traffic = false → fails = some m → t.get .MEM_DDR_TEST_STAT_FAIL_LANES = m.val ∧ t.get .MEM_DDR_TEST_STAT_RESULT = (if m.val = 0 then 0 else 1))) ∧
  (∀ s : State, s.closed = false → s.on .MEM_DDR_TEST_STAT_BUSY = true → Completes .ddrTestStop s fun t =>
    t.on .MEM_DDR_TEST_STAT_BUSY = false ∧ t.get .MEM_DDR_TEST_STAT_RESULT = 2) ∧
  (∀ (ch : ChannelIx) (temp : Int) (s : State), s.populated ch = true → tabGet s.memx.dimmAt ch 0 + ms 100 ≤ s.now → Completes (.dimmTempRead ch temp) s fun t => tabGet t.memx.dimm ch 0 = temp)

/-- The Rime cache: invalidated, flushed, enabled, disabled and resized, or refused with its error (R405) -/
def Obligations.RimeCache : Prop :=
  ∀ s : State, s.closed = false → s.on .MEM_RIME_CTRL_BUSY = false →
    (s.on .MEM_RIME_CTRL_EN = false → Completes .rimeInvalidate s fun t =>
      t.on .MEM_RIME_STAT_INVAL_DONE = true ∧ t.get .MEM_RIME_STAT_DIRTY = 0 ∧ t.on .MEM_RIME_CTRL_EN = false) ∧
    (Completes .rimeFlush s fun t => t.get .MEM_RIME_STAT_DIRTY = 0 ∧ t.on .MEM_RIME_CTRL_EN = s.on .MEM_RIME_CTRL_EN) ∧
    (s.on .MEM_RIME_CTRL_EN = false → Completes .rimeEnable s fun t =>
      (s.on .MEM_RIME_STAT_INVAL_DONE = true → t.on .MEM_RIME_CTRL_EN = true ∧ t.on .MEM_RIME_STAT_ENABLED = true ∧ t.get .MEM_RIME_CTRL_ERR = 0) ∧
      (s.on .MEM_RIME_STAT_INVAL_DONE = false → t.on .MEM_RIME_CTRL_EN = false ∧ t.get .MEM_RIME_CTRL_ERR = 1 ∧ t.on .MEM_EVENT_RIME_ERR = true)) ∧
    (s.on .MEM_RIME_CTRL_EN = true → Completes .rimeDisable s fun t =>
      t.on .MEM_RIME_CTRL_EN = false ∧ t.on .MEM_RIME_STAT_ENABLED = false ∧ t.get .MEM_RIME_STAT_DIRTY = 0 ∧ t.on .MEM_RIME_STAT_INVAL_DONE = false) ∧
    (∀ ways : Fin 32, ways.val ∈ [2, 4, 8, 12, 16] → ways.val ≠ s.get .MEM_RIME_CTRL_WAYS → Completes (.rimeWaysChange ways) s fun t =>
      (s.on .MEM_RIME_CTRL_EN = false → t.get .MEM_RIME_CTRL_WAYS = ways.val ∧ t.on .MEM_RIME_STAT_INVAL_DONE = false) ∧
      (s.on .MEM_RIME_CTRL_EN = true → t.get .MEM_RIME_CTRL_WAYS = s.get .MEM_RIME_CTRL_WAYS ∧ t.get .MEM_RIME_CTRL_ERR = 2))

/-- Management cores: ready, heartbeat timeout, trap, planned restart and release, and the ports that follow them (R391, R409, R410, R411, R412, R413) -/
def Obligations.CoreRestarts : Prop :=
  (∀ (c : CoreIx) (s : State), s.get .MCORE_STAT_CSTATE c = 1 → s.underBist 9 c = false → Completes (.coreReady c) s fun t =>
    t.get .MCORE_STAT_CSTATE c = 0 ∧ ∀ p < 64, ∀ o, t.nextOwner p = some o → t.ownerOf p = o) ∧
  (∀ (c : CoreIx) (s : State), s.running c = true → tabGet s.memx.hbAt c 0 + ms (s.get .MCORE_GCFG_HB_MS) ≤ s.now → Completes (.coreHbTimeout c) s fun t =>
    t.running c = false ∧ t.get .MCORE_STAT_LAST_CAUSE c = 1 ∧ t.on .MCORE_EVENT_HB_TIMEOUT = true ∧ ∀ p < 64, ∀ o, t.nextOwner p = some o → t.ownerOf p = o) ∧
  (∀ (c : CoreIx) (cause : Fin 256) (pc addr : Word) (fatal : Bool) (ecc : Option EccHit) (s : State), s.running c = true →
    Completes (.coreTrap c cause pc addr fatal ecc) s fun t =>
      t.get .MCORE_TRAP_CAUSE c = cause.val ∧ t.rd .MCORE_TRAP_PC c = pc ∧ t.rd .MCORE_TRAP_ADDR c = addr ∧
      (fatal = false → cause.val ≠ 1 → cause.val ≠ 2 → t.running c = true) ∧
      (fatal = true ∨ cause.val = 1 ∨ cause.val = 2 → t.running c = false ∧ t.get .MCORE_STAT_LAST_CAUSE c = trapCause cause)) ∧
  (∀ (c : CoreIx) (s : State), s.closed = false → s.on .MCORE_CMD_BUSY = false → s.planErr c = 0 → Completes (.corePlannedRestart c) s fun t =>
    t.get .MCORE_STAT_CSTATE c = 1 ∧ t.get .MCORE_STAT_LAST_CAUSE c = 5 ∧ t.get .MCORE_CMD_RESULT = 0 ∧ t.on .MCORE_CMD_BUSY = true) ∧
  (∀ (c : CoreIx) (s : State), s.closed = false → s.on .MCORE_CMD_BUSY = false → s.get .MCORE_STAT_CSTATE c = 3 → Completes (.coreRelease c) s fun t =>
    t.get .MCORE_STAT_CSTATE c = 1 ∧ t.get .MCORE_STAT_LAST_CAUSE c = 5 ∧ t.get .MCORE_CMD_RESULT = 0 ∧ t.on .MCORE_CMD_BUSY = true)

/-- MCORE_CMD OP 1 is refused on the only RUNNING core, and while another core is RESTARTING; a timeout of a RESTARTING core does nothing (R413) -/
def Obligations.PlannedRestarts : Prop :=
  (∀ (c : CoreIx) (s : State), s.closed = false → s.on .MCORE_CMD_BUSY = false → s.running c = true → Completes (.corePlannedRestart c) s fun t =>
    let other := ∃ k < 4, k ≠ c.val ∧ s.running k = true
    let restarting := ∃ k < 4, k ≠ c.val ∧ s.get .MCORE_STAT_CSTATE k = 1
    (¬ other → t.get .MCORE_CMD_RESULT = 2) ∧ (other → restarting → t.get .MCORE_CMD_RESULT = 3) ∧
    (¬ other ∨ restarting → ∀ k < 4, t.get .MCORE_STAT_CSTATE k = s.get .MCORE_STAT_CSTATE k) ∧
    (other → ¬ restarting → t.get .MCORE_CMD_RESULT = 0 ∧ t.get .MCORE_STAT_CSTATE c = 1)) ∧
  (∀ (c : CoreIx) (s : State), s.get .MCORE_STAT_CSTATE c = 1 → Completes (.coreHbTimeout c) s fun t =>
    ∀ e ∈ allRegs, endRegs.all (fun q => q.base != e.reg.base) = true → ∀ i j, t.rd e.reg i j = s.rd e.reg i j)

/-- Every reset source: what it clears, the stage it leaves the boot in, the cause it records, and how its hold ends (R448, R449, R450, R451, R452, R469, R471, R472, R542) -/
def Obligations.ResetSources : Prop :=
  (∀ s : State, Completes .powerOnReset s fun t => t.get .RST_STAT_STAGE = 1 ∧ t.now = 0 ∧ (∀ k, t.otpSlot k = s.otpSlot k) ∧
    ∀ e ∈ allRegs, 0x10 ≤ e.reg.base → e.reg.base ≠ Reg.RST_STAT.base → ∀ i j, t.rd e.reg i j = e.reg.reset i j) ∧
  (∀ s : State, Completes .pinReset s fun t => t.on .RST_CAUSE_PIN = true ∧ t.get .SAFE_ZONE_LPERMIT = 0 ∧ CoreCleared t ∧ t.get .DRN_PSTAT_STATE = 0 ∧
    t.get .RST_STAT_STAGE = 1) ∧
  (∀ s : State, s.closed = false → Completes (.softPinReset 0x5253) s fun t => t.on .RST_CAUSE_SOFT = true ∧ t.get .SAFE_ZONE_LPERMIT = 0 ∧ CoreCleared t ∧
    t.get .DRN_PSTAT_STATE = 0 ∧ t.get .RST_STAT_STAGE = 1) ∧
  (∀ s : State, s.closed = false → s.warmOk = true → Completes (.softWarmReset 0x5253) s fun t => WarmReset t ∧ t.on .RST_CAUSE_SOFT = true) ∧
  (∀ s : State, s.debugAuth = true → s.warmOk = true → Completes .debugReset s fun t => WarmReset t ∧ t.on .RST_CAUSE_DEBUG = true) ∧
  (∀ (hang : Bool) (s : State), s.warmOk = true → hang = true ∨ (∃ t0, s.pwr.noCoreAt = some t0 ∧ t0 + ms 1000 ≤ s.now) →
    Completes (.lockupReset hang) s fun t => WarmReset t ∧ t.on .RST_CAUSE_LOCKUP = true) ∧
  (∀ (lost : Fin 65536) (s : State), s.warmOk = true → s.silent = true → Completes (.supervisorTimeout lost) s fun t => WarmReset t ∧ t.on .RST_CAUSE_SUPERVISOR = true ∧
    t.pwr.crashDue = true ∧ ∀ i < 16, t.get .DBG_CRASH_DWORD i = (s.crashRecord lost).getD i 0 % 2 ^ 32) ∧
  (∀ (s : State) (t0 : Nat), s.pending = [] → s.pwr.seq = some (.warm, t0) → s.pwr.clkHold = false → t0 + us 200 ≤ s.tick.now →
    ∃ t, step s = .next t ∧ t.pwr.seq = none ∧ t.get .RST_STAT_STAGE = 4 ∧ t.rd .GLB_CAUSE = s.rd .RST_CAUSE)

/-- Option slots: a valid staged block goes into the lowest blank slot or is refused; a slot is read into the stage (R456, R457) -/
def Obligations.OptionSlots : Prop :=
  ∀ s : State, s.closed = false → s.on .RST_OPT_CMD_BUSY = false →
    (∀ ok : Bool, blockValid s.stagedBlock = false → Completes (.optionProgram ok) s fun t => t.get .RST_OPT_CMD_RESULT = 1 ∧ t.pwr.otp = s.pwr.otp) ∧
    (∀ ok : Bool, blockValid s.stagedBlock = true → (∀ k < 16, blockBlank (s.otpSlot k) = false) →
      Completes (.optionProgram ok) s fun t => t.get .RST_OPT_CMD_RESULT = 2 ∧ t.pwr.otp = s.pwr.otp) ∧
    (∀ (ok : Bool) (k : Nat), k < 16 → blockValid s.stagedBlock = true → blockBlank (s.otpSlot k) = true → (∀ j < k, blockBlank (s.otpSlot j) = false) →
      Completes (.optionProgram ok) s fun t => (∀ j, j ≠ k → t.otpSlot j = s.otpSlot j) ∧
        (ok = true → t.otpSlot k = s.stagedBlock ∧ t.get .RST_OPT_CMD_RESULT = 0) ∧ (ok = false → t.get .RST_OPT_CMD_RESULT = 3)) ∧
    (∀ slot : Fin 16, blockValid (s.otpSlot slot) = true ∨ blockBlank (s.otpSlot slot) = true → Completes (.optionRead slot) s fun t =>
      t.get .RST_OPT_CMD_RESULT = 0 ∧ t.get .RST_OPT_CMD_SLOT = slot.val ∧
      ∀ i < 32, t.rd .RST_OPT_STAGE i = BitVec.ofNat 32 (leAt (s.otpSlot slot) (4 * i) 4))

/-- The boot goes from stage to stage and ends ACTIVE; a block that is idle is reset (R458, R459, R461, R465) -/
def Obligations.BootAndBlocks : Prop :=
  (∀ (x : BootInfo) (s : State), s.pwr.bootStop = false → s.pwr.clkHold = false → s.get .DRN_PSTAT_STATE = 0 →
    Completes (.bootStageDone x) s fun t =>
      (s.get .RST_STAT_STAGE = 0 → s.pwr.seq = none → t.get .RST_STAT_STAGE = 1) ∧
      (s.get .RST_STAT_STAGE = 1 → s.pwr.testen = false → x.testen = false → t.get .RST_STAT_STAGE = 2 ∧ t.pwr.smbAddr = x.smbAddr.val) ∧
      (s.get .RST_STAT_STAGE = 4 → t.get .RST_STAT_STAGE = 5 ∧ t.on .DRN_CLK_STAT_CORE_LOCK = true) ∧
      (s.get .RST_STAT_STAGE = 5 → x.fail.val = 1 → t.pwr.bootStop = true ∧ t.get .RST_STAT_FAIL_STAGE = 5 ∧ t.get .RST_STAT_FAIL_CODE = 1) ∧
      (s.get .RST_STAT_STAGE = 10 → t.get .RST_STAT_STAGE = 11 ∧ t.get .DRN_PSTAT_STATE = 1 ∧ t.get .RST_BOOT_MS_MS = min ((s.now - s.pwr.releasedAt) / 1000000) 65535)) ∧
  (∀ (cls : Fin 16) (index : Fin 512) (s : State), s.closed = false → s.on .RST_BLK_CMD_BUSY = false → index.val < blockCount cls →
    s.blockIdle cls index = true → (cls.val = 9 → s.running index = true → s.runningCores ≠ 1) →
    Completes (.blockReset cls index) s fun t => t.get .RST_BLK_CMD_RESULT = 0 ∧ t.get .RST_BLK_CMD_CLASS = cls.val ∧ t.get .RST_BLK_CMD_INDEX = index.val ∧
      (cls.val = 4 → t.get .MEM_DMA_STAT_CSTATE index = 0) ∧ (cls.val = 9 → t.get .MCORE_STAT_LAST_CAUSE index = 6))

/-- Clocks: the crystal and REFCLK_SYS, lost and back, and the measured time ratio (R419, R420, R423) -/
def Obligations.Clocks : Prop :=
  (∀ s : State, s.on .DRN_CLK_STAT_ON_RC = false → Completes .xtalLost s fun t =>
    t.on .DRN_CLK_STAT_ON_RC = true ∧ t.on .DRN_CLK_STAT_XTAL_OK = false ∧ t.on .DRN_EVENT_XTAL_LOST = true) ∧
  (∀ s : State, Completes .xtalRelock s fun t => t.on .DRN_CLK_STAT_ON_RC = false ∧ t.on .DRN_CLK_STAT_XTAL_OK = true) ∧
  (∀ s : State, s.coreOn = true → s.on .DRN_CLK_STAT_REF_OK = true → s.warmOk = true → Completes .refclkLost s fun t =>
    t.on .DRN_CLK_STAT_REF_OK = false ∧ t.on .RST_CAUSE_CLKFAIL = true ∧ t.pwr.clkHold = true ∧ t.get .RST_STAT_STAGE = 0 ∧ t.get .SAFE_ZONE_LPERMIT = 0) ∧
  (∀ s : State, s.pwr.clkHold = true → Completes .refclkRestored s fun t =>
    t.on .DRN_CLK_STAT_REF_OK = true ∧ t.pwr.clkHold = false ∧ t.pwr.seq = s.pwr.seq ∧ t.get .RST_STAT_STAGE = s.get .RST_STAT_STAGE) ∧
  (∀ s : State, s.pwr.clkHold = false → s.pst = 0 → s.get .RST_STAT_STAGE = 2 → s.pwr.seq = none → s.pwr.bootStop = false → Completes .refclkRestored s fun t =>
    t.on .DRN_CLK_STAT_REF_OK = true ∧ t.get .RST_STAT_STAGE = 3) ∧
  (∀ (ticks : Nat) (s : State), ticks ≠ 0 → s.ratioDue = true → Completes (.timeRatioMeasure ticks) s fun t =>
    t.get .DRN_TIME_RATIO_RATIO = (1000000000 * 2 ^ 24 + ticks / 2) / ticks % 2 ^ 32)

/-- Doze, hibernate and the wake sources: the power state each leaves and the source recorded (R426, R427, R429, R430, R432) -/
def Obligations.SleepStates : Prop :=
  (∀ (s : State) (t0 : Nat), s.on .DRN_DOZE_CFG_DOZE_EN = true → s.pst = 1 → s.idleOk = true → s.pwr.idleAt = some t0 → t0 + ms (s.get .DRN_DOZE_CFG_IDLE_MS) ≤ s.now →
    Completes .dozeIdle s fun t => t.pst = 2 ∧ t.on .DRN_PCTRL_BUSY = true) ∧
  (∀ s : State, s.closed = false → s.on .DRN_PCTRL_BUSY = false → s.pst = 1 → s.idleOk = true → Completes .dozeRequest s fun t =>
    t.pst = 2 ∧ t.on .DRN_PCTRL_BUSY = true ∧ t.get .DRN_PCTRL_RESULT = 0) ∧
  (∀ (retain : List Word) (s : State), s.closed = false → s.on .DRN_PCTRL_BUSY = false → s.pst = 1 → s.idleOk = true → s.on .DRN_PWR_CFG_SEQ_MODE = false →
    Completes (.hibernateRequest retain) s fun t =>
      t.pst = 5 ∧ t.on .DRN_PCTRL_BUSY = true ∧ t.get .DRN_PCTRL_RESULT = 0 ∧ ∀ i < 256, t.rd .DRN_RETAIN i = retain.getD i 0) ∧
  (∀ (src : Fin 16) (s : State), (s.pst = 2 ∨ s.pst = 3) → src.val ∈ [1, 2, 3, 5, 6, 7] → Completes (.wake src) s fun t =>
    t.pst = 4 ∧ t.get .DRN_PSTAT_LAST_WAKE = src.val) ∧
  (∀ (src : Fin 16) (s : State), s.pst = 6 → src.val ∈ [5, 6, 7, 9] → s.hibWakes src = true → Completes (.wake src) s fun t =>
    t.pst = 0 ∧ t.get .DRN_PSTAT_LAST_WAKE = src.val ∧ t.pwr.resume = true) ∧
  (∀ (k : Fin 4) (s : State), bitAt (s.get .DRN_WAKE_CTRL_EN) k = 1 → s.get64 .DRN_WAKE_LO_TIME_NS .DRN_WAKE_HI_TIME_NS k ≤ s.now →
    Completes (.wakeTimer k) s fun t => bitAt (t.get .DRN_WAKE_CTRL_EN) k = 0 ∧ bitAt (t.get .DRN_WAKE_CTRL_FIRED) k = 1 ∧
      (s.pst = 3 → t.pst = 4 ∧ t.get .DRN_PSTAT_LAST_WAKE = 4)) ∧
  (∀ (s : State) (p : Nat), s.pst = 3 → s.get .DRN_DOZE_CFG_RETRY_WAKE_S ≠ 0 → s.pwr.dozeAt + ms (1000 * s.get .DRN_DOZE_CFG_RETRY_WAKE_S) ≤ s.now →
    p < 64 → s.pstate p = 10 → s.on .PEN_CFG_EN p = true →
    Completes .retryWake s fun t => t.pst = 4 ∧ t.get .DRN_PSTAT_LAST_WAKE = 8 ∧ t.pstate p ≠ 10)

/-- Supplies: groups come up and go off one by one, a failed power-up is retried or gives up, a brown-out resets cold (R434, R448, R449) -/
def Obligations.SupplySequence : Prop :=
  (∀ (g : Fin 6) (s : State), s.on .DRN_PWR_CFG_SEQ_MODE = false → bitAt (s.get .DRN_PWR_STAT_EN) g = 1 → s.pwr.up = some g.val → s.pwr.seq = none →
    Completes (.powerGoodRise g) s fun t => bitAt (t.get .DRN_PWR_STAT_PG) g = 1 ∧
      ((∃ k < 6, bitAt (s.get .DRN_PWR_STAT_EN) k = 0) → t.pwr.seq = some (.gap, s.now)) ∧
      ((∀ k < 6, bitAt (s.get .DRN_PWR_STAT_EN) k = 1) → t.pwr.up = none ∧ t.pwr.tries = 0 ∧ t.pwr.tripLow = false ∧
        t.get .RST_STAT_STAGE = (if s.pwr.resume && s.pwr.keep then 5 else 4))) ∧
  (∀ (s : State) (t0 k : Nat), s.pending = [] → s.pwr.seq = some (.gap, t0) → t0 + us (s.get .DRN_PWR_CFG_STEP_US) ≤ s.tick.now → k < 6 →
    bitAt (s.get .DRN_PWR_STAT_EN) k = 0 → (∀ j < k, bitAt (s.get .DRN_PWR_STAT_EN) j = 1) →
    ∃ t, step s = .next t ∧ t.pwr.seq = none ∧ t.pwr.up = some k ∧ bitAt (t.get .DRN_PWR_STAT_EN) k = 1) ∧
  (∀ (s : State) (g : Nat), s.pwr.up = some g → s.pwr.seq = none → s.pwr.upAt + ms (s.get .DRN_PWR_CFG_PG_TO_MS) ≤ s.now → Completes .pgoodTimeout s fun t =>
    t.pwr.up = none ∧ t.pwr.tries = s.pwr.tries + 1 ∧ t.pwr.seq = some (.off (.failed g (s.pwr.tries + 1)), s.now)) ∧
  (∀ (s : State) (goal : OffGoal) (t0 k : Nat), s.pending = [] → s.pwr.seq = some (.off goal, t0) → s.on .DRN_PWR_CFG_SEQ_MODE = false →
    t0 + us (s.get .DRN_PWR_CFG_STEP_US) ≤ s.tick.now → s.topGroup goal = some k →
    ∃ t, step s = .next t ∧ bitAt (t.get .DRN_PWR_STAT_EN) k = 0 ∧ t.pwr.seq = some (.off goal, s.tick.now)) ∧
  (∀ (s : State) (g n t0 : Nat), s.pending = [] → g < 6 → s.pwr.seq = some (.off (.failed g n), t0) → t0 + us (s.get .DRN_PWR_CFG_STEP_US) ≤ s.tick.now →
    s.topGroup (.failed g n) = none → ∃ t, step s = .next t ∧ t.pwr.seq = none ∧ t.get .DRN_PWR_STAT_FAIL_GRP = g ∧ t.on .DRN_EVENT_PWR_FAIL = true ∧
    (n < 3 → t.pwr.retry = true) ∧ (3 ≤ n → t.pwr.retry = false ∧ t.pst = 10)) ∧
  (∀ s : State, s.pwr.retry = true → s.pwr.retryAt + ms 1000 ≤ s.now → s.on .DRN_CLK_STAT_REF_OK = true → s.on .DRN_PWR_CFG_SEQ_MODE = false →
    Completes .powerRetry s fun t =>
      t.pwr.retry = false ∧ t.pwr.up = some 0 ∧ bitAt (t.get .DRN_PWR_STAT_EN) 0 = 1 ∧ t.get .RST_STAT_STAGE = 3) ∧
  (∀ (g : Fin 6) (s : State), s.on .DRN_PWR_CFG_SEQ_MODE = false → bitAt (s.get .DRN_PWR_STAT_PG) g = 1 → bitAt (s.get .DRN_PWR_STAT_EN) g = 1 → s.pst < 7 →
    Completes (.brownOutReset g) s fun t => t.on .RST_CAUSE_BOR = true ∧ t.pst = 0 ∧ t.get .RST_STAT_STAGE = 0 ∧ t.get .SAFE_ZONE_LPERMIT = 0 ∧
      t.pwr.seq = some (.off .cycle, s.now) ∧ CoreCleared t) ∧
  (∀ (s : State) (t0 : Nat), s.pending = [] → s.pwr.seq = some (.held, t0) → t0 + ms 100 ≤ s.tick.now → s.get .RST_STAT_STAGE = 0 →
    s.on .DRN_CLK_STAT_REF_OK = true → s.on .DRN_PWR_CFG_SEQ_MODE = false →
    ∃ t, step s = .next t ∧ t.get .RST_STAT_STAGE = 3 ∧ t.pwr.up = some 0 ∧ t.pwr.seq = none)

/-- Temperatures and fans: the die temperature and its warning, fan duties, tachometers, the managed stop, the trip, the restarts (R436, R437, R438, R439, R442, R444, R445) -/
def Obligations.Thermal : Prop :=
  (∀ (temps : List Int) (s : State), (∀ x ∈ temps, -32768 ≤ x ∧ x ≤ 32767) → s.pwr.sampleAt + us 100 ≤ s.now → Completes (.tempSample temps) s fun t =>
    (∀ i < 16, temps.getD i 0 ≤ t.dieTemp) ∧ (∃ i < 16, t.dieTemp = temps.getD i 0) ∧
    (signedField 16 (s.get .DRN_THERM_CFG_TWARN) ≤ t.dieTemp → t.on .DRN_THERM_STAT_WARN = true ∧ t.on .DRN_EVENT_WARN = true) ∧
    (t.dieTemp ≤ signedField 16 (s.get .DRN_THERM_CFG_TWARN) - 32 → t.on .DRN_THERM_STAT_WARN = false) ∧
    t.pwr.hot = (if signedField 16 (s.get .DRN_THERM_CFG_TSD) ≤ t.dieTemp then s.pwr.hot + 1 else 0)) ∧
  (∀ s : State, s.pwr.fanSet = true → s.pwr.fanAt + ms 100 ≤ s.now → Completes .fanUpdate s fun t => ∀ k < 8,
    (s.hotNow = true ∨ s.coreOn = false → t.get .DRN_FAN_STAT_DUTY k = 255) ∧
    (s.hotNow = false → s.coreOn = true → s.on .DRN_FAN_CFG_MODE k = true → t.get .DRN_FAN_STAT_DUTY k = s.get .DRN_FAN_CFG_DUTY k)) ∧
  (∀ (k : Fin 8) (edges : Nat) (s : State), (tabGet s.pwr.tachAt k (0, 255)).1 + ms 1000 ≤ s.now → Completes (.tachMeasure k edges) s fun t =>
    t.get .DRN_FAN_STAT_RPM k = min (30 * edges) 65535 ∧ (edges ≠ 0 → t.on .DRN_FAN_STAT_STUCK k = false) ∧
    (edges = 0 → 51 ≤ s.get .DRN_FAN_STAT_DUTY k → 51 ≤ (tabGet s.pwr.tachAt k (0, 255)).2 → t.on .DRN_FAN_STAT_STUCK k = true ∧ t.on .DRN_EVENT_FAN_STUCK = true)) ∧
  (∀ s : State, 3 ≤ s.pwr.hot → Completes .thermalStop s fun t =>
    (s.pst ∈ [1, 2, 3, 4] → t.pst = 7) ∧ (s.pst ∈ [0, 5, 6] → t.pst = 7 ∧ t.pwr.seq = some (.off .thermal, s.now) ∧ t.get .SAFE_ZONE_LPERMIT = 0)) ∧
  (∀ (s : State) (t0 : Nat), s.pending = [] → s.pwr.seq = some (.off .thermal, t0) → t0 + us (s.get .DRN_PWR_CFG_STEP_US) ≤ s.tick.now → s.topGroup .thermal = none →
    ∃ t, step s = .next t ∧ t.pst = 8 ∧ t.pwr.seq = none) ∧
  (∀ s : State, s.pst = 8 → s.pwr.limit = false → s.coolLong = true → Completes .thermalRestart s fun t =>
    t.pst = 0 ∧ t.on .RST_CAUSE_THERMAL = true ∧ t.on .DRN_EVENT_SD = true ∧ t.get .DRN_PSTAT_LAST_WAKE = 10) ∧
  (∀ (sensor : Fin 16) (s : State), s.pst ≠ 9 → Completes (.tcritTrip sensor) s fun t =>
    t.pst = 9 ∧ t.get .DRN_PWR_STAT_EN = 0 ∧ t.get .SAFE_ZONE_LPERMIT = 0 ∧ t.pwr.tripAt = s.now ∧ t.pwr.tripLow = true ∧ CoreCleared t) ∧
  (∀ s : State, s.pst = 9 → s.pwr.limit = false → s.coolLong = true → s.pwr.tripAt + s.get .DRN_THERM_LIM_TRIP_HOLD_S * 1000000000 ≤ s.now → Completes .tripRestart s fun t =>
    t.pst = 0 ∧ t.on .RST_CAUSE_TRIP = true ∧ t.on .DRN_EVENT_TRIP = true)

/-- Supervisor kick, fabric timeouts, gathered events, online self-tests and debug authentication (R469, R471, R473, R482, R485, R486, R487, R493) -/
def Obligations.SelfTestAndDebug : Prop :=
  (∀ (v : Word) (s : State), s.coreOn = true → s.dozing = false → s.pwr.seq = none → s.coresAlive = true → Completes (.supKick v) s fun t =>
    t.pwr.kick = v.toNat ∧ t.pwr.kickAt = s.now) ∧
  (∀ (r : Requester) (code base : Fin 65536) (granted : Nat) (s : State), granted + us (s.get .DBG_FABRIC_FABRIC_US) ≤ s.now → Completes (.fabricTimeout r code base granted) s fun t => t.dbg.fabric = (code.val, base.val) ∧
    (∀ c : CoreIx, r = .core c → s.running c = true → t.get .MCORE_STAT_CSTATE c = 1 ∧ t.get .MCORE_STAT_LAST_CAUSE c = 6) ∧
    (∀ (k : Fin 24) cmds lost cw, r = .dma k cmds lost cw → s.get .MEM_DMA_STAT_CSTATE k < 2 → t.get .MEM_DMA_STAT_CSTATE k = 2 ∧ t.get .MEM_DMA_STAT_CAUSE k = 3)) ∧
  (∀ s : State, s.evt.gathering = true → s.evt.gathered ≠ 0 → s.on .HQP_STEWARD_VALID = true → s.evt.since + ms 1 ≤ s.now → Completes .eventGatherEnd s fun t =>
    EventSent (s.get .HQP_STEWARD_STEWARD_FN) 0x80 s.evt.gathered t) ∧
  (∀ (cls : Fin 16) (index : Fin 512) (s : State), s.closed = false → s.on .DBG_BIST_CMD_BUSY = false → s.dbg.test = none → s.fw.act = none →
    ((((s.dozeWake 2).set0 .DBG_BIST_CMD_CLASS cls).set0 .DBG_BIST_CMD_INDEX index).takeOut cls index true).2 = 0 →
    Completes (.bistTestBlock cls index) s fun t => t.dbg.test = some (cls.val, index.val, true) ∧ t.on .DBG_BIST_STAT_ACTIVE = true ∧
      t.on .DBG_BIST_CMD_BUSY = true ∧ t.on .DBG_AUTH_STAT_AUTH = false) ∧
  (∀ (s : State) (j : Nat) (l r : List Nat), s.get .DBG_BIST_CFG_PERIOD_H ≠ 0 → s.fw.act = none → s.dbg.test = none → s.newRound.dbg.periodic = l ++ j :: r →
    (s.newRound.takeOut (periodicOrder.getD j (0, 0)).1 (periodicOrder.getD j (0, 0)).2 false).2 = 0 →
    (∀ i ∈ l, (s.newRound.takeOut (periodicOrder.getD i (0, 0)).1 (periodicOrder.getD i (0, 0)).2 false).2 ≠ 0) →
    Completes .periodicBist s fun t => j ∉ t.dbg.periodic ∧
      t.dbg.test = some ((periodicOrder.getD j (0, 0)).1, (periodicOrder.getD j (0, 0)).2, false)) ∧
  (∀ (pass memory : Bool) (s : State) (cls i : Nat) (cmd : Bool), s.dbg.test = some (cls, i, cmd) → s.testStage cls i = 2 →
    Completes (.bistDone pass memory) s fun t => t.dbg.test = none ∧ t.on .DBG_BIST_STAT_ACTIVE = false ∧
      (cmd = true → t.on .DBG_BIST_CMD_BUSY = false ∧ t.get .DBG_BIST_CMD_RESULT = (if pass then 0 else 1)) ∧ (pass = false → t.on .DBG_BIST_STAT_FAIL_NEW = true)) ∧
  (∀ (fail : Bool) (unit : Fin 16) (channels : Fin 256) (durMs : Fin 65536) (s : State), s.closed = false → s.on .DBG_BIST_CMD_BUSY = false → s.dbg.test = none →
    s.pst = 1 → s.idleOk = true → Completes (.bistWindow fail unit channels durMs) s fun t => t.pst = 0 ∧ t.get .RST_STAT_STAGE = 0 ∧ t.get .SAFE_ZONE_LPERMIT = 0 ∧
      t.pwr.seq = some (.window fail unit channels (min durMs 3000), s.now)) ∧
  (∀ (fail : Bool) (u c d t0 : Nat) (s : State), s.pending = [] → s.pwr.seq = some (.window fail u c d, t0) → t0 + max (ms d) (us 200) ≤ s.tick.now →
    ∃ t, step s = .next t ∧ t.pwr.seq = none ∧ t.get .RST_STAT_STAGE = 4 ∧ t.on .DBG_WIN_STAT_NEW = true ∧
      t.get .DBG_WIN_STAT_RESULT = (if fail then 1 else 0) ∧ t.get .DBG_WIN_STAT_DUR_MS = d % 65536) ∧
  (∀ s : State, s.authErr = 0 → Completes .authChallenge s fun t => t.dbg.fresh = true ∧ t.get .DBG_AUTH_CMD_RESULT = 0) ∧
  (∀ (ok : Bool) (s : State), s.authErr = 0 → s.dbg.fresh = true → Completes (.authVerify ok) s fun t => t.dbg.fresh = false ∧
    (ok = true → t.on .DBG_AUTH_STAT_AUTH = true) ∧ (ok = false → t.get .DBG_AUTH_CMD_RESULT = 1 ∧ (2 ≤ s.get .DBG_AUTH_STAT_FAILS → t.on .DBG_AUTH_STAT_LOCKED = true))) ∧
  (∀ s : State, Completes .authEnd s fun t => t.on .DBG_AUTH_STAT_AUTH = false)

/-- A register read returns the dword that stands at the address and clears what the read clears (R9, R10, R555) -/
def Obligations.RegisterReads : Prop :=
  (∀ (a : Nat) (s : State), a % 4 = 0 → a < 0x2000000 → s.pst = 1 → s.closed = false → Completes (.registerRead a) s fun t => t.out = .regData a (s.readAt a) :: s.out) ∧
  (∀ (a : Nat) (s : State), a % 4 = 0 → 0x2000000 ≤ a → a < 0x3000000 → s.pst = 1 → s.closed = false → Completes (.registerRead a) s fun t => t.out = .regData a (s.bar2At a) :: s.out) ∧
  (∀ (a : Nat) (s : State) (e : RegEntry) (i j : Nat), a % 4 = 0 → s.pst = 1 → s.closed = false → findReg a = some (e, i, j) → Completes (.registerRead a) s fun t =>
    ∀ f ∈ e.flds, endRegs.all (fun q => q.base != e.reg.base) = true → bitsOf (t.rd e.reg i j) f.lo f.width = (if f.acc = .rc then 0 else bitsOf (s.rd e.reg i j) f.lo f.width))

/-- A register write stores the RW fields, clears W1C bits written 1, leaves RO fields, or is discarded by its byte enables (R8, R10, R561) -/
def Obligations.RegisterWrites : Prop :=
  (∀ (a : Nat) (v : Word) (s : State) (e : RegEntry) (i j : Nat), a % 4 = 0 → s.pst = 1 → s.closed = false → findReg a = some (e, i, j) → isReg e .DRN_WAKE_CTRL = false →
    isReg e .PEN_CFG = false → isReg e .FN_CTRL = false → s.writeIgnored e i = false → s.writeBusy e i = none → s.legalWord e i (s.written e i j v) = true →
    (∀ (u : State) (old : Word), u.writeEffect e i old v = u) → endRegs.all (fun q => q.base != e.reg.base) = true →
    Completes (.registerWrite a v 15) s fun t => ∀ f ∈ e.flds, sameFld f .DRN_GPIO_PULL_LO_PULL = false → sameFld f .DRN_GPIO_PULL_HI_PULL = false →
      bitsOf (t.rd e.reg i j) f.lo f.width =
        match f.acc with
        | .rw => if rangeOk rangesF f (bitsOf v f.lo f.width) then bitsOf v f.lo f.width else bitsOf (s.rd e.reg i j) f.lo f.width
        | .w1c => Nat.land (bitsOf (s.rd e.reg i j) f.lo f.width) (2 ^ f.width - 1 - bitsOf v f.lo f.width)
        | .w1s => Nat.lor (bitsOf (s.rd e.reg i j) f.lo f.width) (bitsOf v f.lo f.width)
        | .ro | .rc | .wo => bitsOf (s.rd e.reg i j) f.lo f.width) ∧
  (∀ (a : Nat) (v : Word) (be : Fin 16) (s : State), a % 4 = 0 → a < 0x3000000 → s.pst = 1 → s.closed = false → be.val ≠ 15 → Completes (.registerWrite a v be) s fun t =>
    ∀ e ∈ allRegs, endRegs.all (fun q => q.base != e.reg.base) = true → ∀ i j, t.rd e.reg i j = s.rd e.reg i j)

/-- GPIOs, attention, partner wakes, host links and the sideband: the level, the link or the answer each leaves (R88, R334, R460, R527, R530, R539) -/
def Obligations.PinsAndSideband : Prop :=
  (∀ (g : Fin 32) (level : Bool) (s : State), Completes (.gpioEdge g level) s fun t => bitAt (t.get .DRN_GPIO_IN_GPIO) g = (if level then 1 else 0)) ∧
  (∀ (mask : Word) (s : State), s.closed = false → Completes (.gpioSet mask) s fun t =>
    t.get .DRN_GPIO_OUT_GPIO = Nat.lor (s.get .DRN_GPIO_OUT_GPIO) mask.toNat ∧
    ∀ g < 32, bitAt (s.get .DRN_GPIO_OE_GPIO) g = 1 → bitAt (t.get .DRN_GPIO_IN_GPIO) g = bitAt (t.get .DRN_GPIO_OUT_GPIO) g) ∧
  (∀ (mask : Word) (s : State), s.closed = false → Completes (.gpioClr mask) s fun t =>
    t.get .DRN_GPIO_OUT_GPIO = Nat.land (s.get .DRN_GPIO_OUT_GPIO) (0xFFFFFFFF - mask.toNat) ∧
    ∀ g < 32, bitAt (s.get .DRN_GPIO_OE_GPIO) g = 1 → bitAt (t.get .DRN_GPIO_IN_GPIO) g = bitAt (t.get .DRN_GPIO_OUT_GPIO) g) ∧
  (∀ (fn : FnIx) (s : State), s.closed = false → s.fenced fn = false → (s.fnx fn).stopping = false → Completes (.attentionWrite fn) s fun t =>
    (t.fnx fn).scanDue = true ∧ (s.pst = 3 → t.pst = 4 ∧ t.get .DRN_PSTAT_LAST_WAKE = 1)) ∧
  (∀ (p : PortIx) (s : State), s.pstate p = 8 → Completes (.partnerWake p) s fun t =>
    t.on .PEN_EVENT_WAKE_REQ p = true ∧ (s.pst = 3 → t.pst = 4 ∧ t.get .DRN_PSTAT_LAST_WAKE = 3)) ∧
  (∀ (p : HostPort) (width rate : Fin 16) (s : State), s.linksHeld = false → linkTrains width rate = true → s.dbg.deadPorts.contains p.val = false → bitAt (s.optByte 5) p = 0 → s.pwr.testen = false →
    Completes (.hostLinkUp p width rate) s fun t => t.on .HQP_PORT_UP p = true ∧ t.get .HQP_PORT_WIDTH p = width.val ∧ t.get .HQP_PORT_RATE p = rate.val ∧
      t.on .HQP_PORT_L1 p = false) ∧
  (∀ s : State, s.pst = 1 →
    (Completes .mctpStatus s fun t => .mctp (1 :: s.mctpStatusBytes) ∈ t.out) ∧
    (∀ a, Completes (.mctpReadRegister a) s fun t => .mctp (2 :: s.mctpReadBytes a) ∈ t.out) ∧
    (∀ n : Fin 65536, Completes (.mctpTelemetry n) s fun t => .mctp (3 :: s.mctpTelemetryBytes n) ∈ t.out) ∧
    (∀ (q : Nat) (n : Fin 256), Completes (.mctpLogEntries q n) s fun t => .mctp (4 :: s.mctpLogBytes q n) ∈ t.out) ∧
    (∀ req, Completes (.mctpControl req) s fun t => .mctp (Config.mctpAnswer s.pwr.eid req) ∈ t.out)) ∧
  (∀ s : State, s.pst = 0 → Completes .mctpStatus s fun t => t.pwr.mctp = s.pwr.mctp ++ [.status])

/-- Steward and standby: claim, standby, release, heartbeat and its timeout, and the access denied to others (R320, R325, R326) -/
def Obligations.Stewardship : Prop :=
  (∀ (fn : FnIx) (s : State), s.closed = false → isPf fn = true → s.fenced fn = false → s.get .FN_CLAIM_TOKEN_TOKEN fn ≠ 0 →
    s.get .HQP_STEWARD_TOKEN_TOKEN < s.get .FN_CLAIM_TOKEN_TOKEN fn → Completes (.claim fn) s fun t =>
      t.isSteward fn = true ∧ t.get .HQP_STEWARD_TOKEN_TOKEN = s.get .FN_CLAIM_TOKEN_TOKEN fn ∧ t.get .FN_CLAIM_CMD_RESULT fn = 0 ∧
      t.get .HQP_STEWARD_SOURCE = 2 ∧ t.host.lastHeartbeat = s.now) ∧
  (∀ (fn : FnIx) (s : State), s.closed = false → isPf fn = true → s.fenced fn = false → s.get .FN_CLAIM_TOKEN_TOKEN fn ≠ 0 → s.isSteward fn = false →
    Completes (.standby fn) s fun t => t.isStandby fn = true ∧ t.get .HQP_STANDBY_TOKEN_TOKEN = s.get .FN_CLAIM_TOKEN_TOKEN fn ∧ t.get .FN_CLAIM_CMD_RESULT fn = 0) ∧
  (∀ (fn : FnIx) (s : State), s.closed = false → isPf fn = true → s.fenced fn = false → s.isSteward fn = true → Completes (.release fn) s fun t =>
    t.get .FN_CLAIM_CMD_RESULT fn = 0 ∧ (s.on .HQP_STEWARD_STANDBY_VALID = false → t.on .HQP_STEWARD_VALID = false ∧ t.on .HQP_EVENT_STEWARD_LOST = true) ∧
    (s.on .HQP_STEWARD_STANDBY_VALID = true → s.get .HQP_STEWARD_TOKEN_TOKEN < s.get .HQP_STANDBY_TOKEN_TOKEN →
      t.isSteward (s.get .HQP_STEWARD_STANDBY_FN) = true ∧ t.on .HQP_STEWARD_STANDBY_VALID = false)) ∧
  (∀ (fn : FnIx) (s : State), s.closed = false → isPf fn = true → s.fenced fn = false → s.isSteward fn = true → Completes (.heartbeat fn) s fun t =>
    t.host.lastHeartbeat = s.now ∧ t.get .FN_CLAIM_CMD_RESULT fn = 0) ∧
  (∀ s : State, s.get .HQP_STEWARD_CFG_HB_MS ≠ 0 → s.host.lastHeartbeat + ms (s.get .HQP_STEWARD_CFG_HB_MS) ≤ s.now → s.on .HQP_STEWARD_VALID = true →
    s.on .HQP_STEWARD_STANDBY_VALID = false → Completes .stewardHbTimeout s fun t => t.on .HQP_STEWARD_VALID = false ∧ t.on .HQP_EVENT_STEWARD_LOST = true) ∧
  (∀ (fn : FnIx) (write : Bool) (s : State), s.closed = false → s.isSteward fn = false → Completes (.bar4AccessDenied fn write) s fun t => isPf fn = true →
    t.on .HQP_FN_STAT_BAR4_ERR fn = true ∧ (write = false → .unsupported fn.val ∈ t.out))

/-- Functions, doorbells, descriptors, completions: enabled, taken, fetched or rejected, written, signalled (R322, R333, R336, R337, R338, R340, R344, R347) -/
def Obligations.RingsAndDescriptors : Prop :=
  (∀ (fn : FnIx) (verReq : Fin 8) (table : Option (List Nat)) (s : State), s.closed = false → s.fenced fn = false → (s.fnx fn).stopping = false →
    s.on .FN_CTRL_EN fn = false → Completes (.fnEnable fn verReq table) s fun t => t.on .FN_CTRL_EN fn = true ∧
      (s.enableCause fn verReq table = 0 → t.on .FN_STAT_RDY fn = true ∧ t.get .FN_STAT_VER fn = min verReq.val 3 ∧ (t.qp fn 0).live = true ∧
        (t.qp fn 0).ver = min verReq.val 3) ∧
      (s.enableCause fn verReq table ≠ 0 → t.on .FN_STAT_FATAL fn = true ∧ t.get .FN_STAT_CAUSE fn = s.enableCause fn verReq table)) ∧
  (∀ (fn : FnIx) (q : Nat) (tail head : Word) (s : State), s.scanReady fn = true →
    (s.qp fn q).live = true → (s.qp fn q).error = false →
    ((s.qp fn q).tail + 2 ^ 32 - (s.qp fn q).fetched) % 2 ^ 32 + (tail.toNat + 2 ^ 32 - (s.qp fn q).tail) % 2 ^ 32 ≤ 2 ^ (s.qp fn q).sqLog2 →
    (head.toNat + 2 ^ 32 - (s.qp fn q).head) % 2 ^ 32 ≤ (s.qp fn q).kinds.length →
    Completes (.doorbellScan fn [(q, tail, head)]) s fun t => (t.qp fn q).tail = tail.toNat ∧ (t.qp fn q).head = head.toNat ∧ (t.fnx fn).scanDue = false) ∧
  (∀ (fn : FnIx) (qpid : Nat) (d : Desc) (s : State), s.fetchLate fn qpid = some false → Completes (.descriptorFetched fn qpid d) s fun t =>
    (s.checkDesc fn qpid d = none → ∃ c ∈ t.host.cmds, c.fn = fn.val ∧ c.qpid = qpid ∧ c.d = versionView (s.qp fn qpid).ver d) ∧
    (∀ st, s.checkDesc fn qpid d = some st →
      ∃ e ∈ t.host.merge ++ t.host.held, e.fn = fn.val ∧ e.qpid = qpid ∧ e.tag = d.tag ∧ e.status = st)) ∧
  (∀ (fn : FnIx) (qpid : Nat) (err late : Bool) (s : State), s.fetchLate fn qpid = some late → late = true ∨ err = true → Completes (.fetchTimeout fn qpid err) s fun t =>
    (t.qp fn qpid).fetchFails = (s.qp fn qpid).fetchFails + 1 ∧ (t.qp fn qpid).error = decide (s.get .HQP_GCFG_FETCH_TRIES ≤ (s.qp fn qpid).fetchFails + 1)) ∧
  (∀ (p : HostPort) (s : State) (c : Cpl) (r : List Cpl), headRun p s.host.merge = c :: r → (s.qp c.fn c.qpid).live = true →
    Completes (.completionWrite p) s fun t => let x := s.qp c.fn c.qpid
      .completion c.fn (cplAddr x.cqBase (x.posted % 2 ^ x.cqLog2)) (cplEntry c (1 - x.posted / 2 ^ x.cqLog2 % 2) (x.fetched % 2 ^ x.sqLog2)) ∈ t.out) ∧
  (∀ (fn : FnIx) (qpid : Nat) (s : State), (s.qp fn qpid).live = true → 0 < (s.qp fn qpid).unsignalled →
    (s.qp fn qpid).firstUnsignalled + 1000 * (s.qp fn qpid).aggUs ≤ s.now → Completes (.coalesceTimeout fn qpid) s fun t =>
    (s.msixRd fn ((s.qp fn qpid).vector * 16 + 12) % 2 = 0 → .msix fn.val (s.qp fn qpid).vector ∈ t.out) ∧
    (s.msixRd fn ((s.qp fn qpid).vector * 16 + 12) % 2 = 1 → bitAt (t.msixRd fn (0x8000 + (s.qp fn qpid).vector / 32 * 4)) ((s.qp fn qpid).vector % 32) = 1))

/-- Port and function resets, stops and fences: no command of the function is left, and its state shows it (R319, R328, R348, R349, R350) -/
def Obligations.FunctionStops : Prop :=
  (∀ (p : HostPort) (s : State), Completes (.hostPortReset p) s fun t => t.on .HQP_PORT_UP p = false ∧ t.get .HQP_PORT_WIDTH p = 0 ∧
    t.on .HQP_EVENT_PORT_DOWN = true ∧ (∀ c ∈ t.host.cmds, c.fn / 64 ≠ p.val) ∧ ∀ k < 64, t.on .FN_STAT_RDY (p.val * 64 + k) = false) ∧
  (∀ (fn : FnIx) (s : State), Completes (.functionLevelReset fn) s fun t => (t.fnx fn).stopping = true ∧ (∀ c ∈ t.host.cmds, c.fn ≠ fn.val) ∧
    t.on .FN_STAT_RDY fn = false) ∧
  (∀ (fn : FnIx) (s : State), Completes (.busMasterClear fn) s fun t => (t.fnx fn).stopping = true ∧ (t.fnx fn).busMaster = false ∧ ∀ c ∈ t.host.cmds, c.fn ≠ fn.val) ∧
  (∀ (fn : FnIx) (s : State), s.closed = false → Completes (.fnDisable fn) s fun t => (t.fnx fn).stopping = true ∧ t.on .FN_STAT_FATAL fn = false ∧
    ∀ c ∈ t.host.cmds, c.fn ≠ fn.val) ∧
  (∀ (fn : FnIx) (s : State), (s.fnx fn).stopping = true → Completes (.functionStopDone fn) s fun t => (t.fnx fn).stopping = false ∧ t.on .FN_STAT_RDY fn = false ∧
    t.on .FN_CTRL_EN fn = false ∧ ((s.fnx fn).fencePending = true → t.fenced fn = true)) ∧
  (∀ (target : Fin 256) (s : State), s.closed = false → s.on .HQP_FENCE_BUSY = false → s.isSteward target = false → Completes (.fenceFunction target) s fun t =>
    t.get .HQP_FENCE_RESULT = 0 ∧ t.on .HQP_FENCE_BUSY = true ∧ ((s.fnx target).stopping = false → t.fenced target = true ∧ (t.fnx target).stopping = true) ∧
    ((s.fnx target).stopping = true → (t.fnx target).fencePending = true)) ∧
  (∀ (target : Fin 256) (s : State), s.closed = false → s.on .HQP_FENCE_BUSY = false → target.val < 4 → Completes (.fencePort target) s fun t =>
    t.get .HQP_FENCE_RESULT = 0 ∧ ∀ k < 64, s.isSteward (target.val * 64 + k) = false →
      t.fenced (target.val * 64 + k) = true ∨ (t.fnx (target.val * 64 + k)).fencePending = true) ∧
  (∀ (target : Fin 256) (s : State), s.closed = false → s.on .HQP_FENCE_BUSY = false → Completes (.unfenceFunction target) s fun t =>
    t.fenced target = false ∧ t.get .HQP_FENCE_RESULT = 0) ∧
  (∀ (target : Fin 256) (s : State), s.closed = false → s.on .HQP_FENCE_BUSY = false → target.val < 4 → Completes (.unfencePort target) s fun t =>
    t.get .HQP_FENCE_RESULT = 0 ∧ ∀ k < 64, t.fenced (target.val * 64 + k) = false)

/-- IDENTIFY, GET_LOG, GET_FEATURE and CALIB_SAVE put their bytes into host memory and end with status 0 (R370, R371, R372, R373, R378, R477) -/
def Obligations.AdminReads : Prop :=
  (∀ (fn : FnIx) (tag : Nat) (s : State) (c : Ctx), AdminCmd s fn tag 0x80 c → Completes (.identify fn tag .done) s fun t => ∃ b : List Nat,
    b = (match specByte c.d 0 with | 0 => s.deviceStruct | 1 => s.functionStruct fn | 2 => s.mechBitmap fn | _ => s.mechStruct fn c.d.mn) ∧
    .hostWrite fn c.d.dptr0 b ∈ t.out ∧ Answered fn tag 0 b.length 0 t) ∧
  (∀ (fn : FnIx) (tag : Nat) (s : State) (c : Ctx), AdminCmd s fn tag 0x81 c → 1 ≤ specByte c.d 0 → specByte c.d 0 ≤ 3 →
    Completes (.getLog fn tag .done) s fun t => ∃ log : List Nat,
    log = (if specByte c.d 0 = 1 then s.errorLog fn else if specByte c.d 0 = 2 then s.telemetryLog fn else s.fwLog) ∧
    (∃ b, .hostWrite fn c.d.dptr0 b ∈ t.out ∧ b.length = c.d.count ∧ ∀ k < c.d.count, b.getD k 0 = log.getD (c.d.lba + k) 0) ∧
    Answered fn tag 0 c.d.count log.length t) ∧
  (∀ (fn : FnIx) (tag : Nat) (s : State) (c : Ctx), AdminCmd s fn tag 0x83 c → s.featureRefused c false = 0 → Completes (.getFeature fn tag .done) s fun t =>
    (specByte c.d 0 ≠ 0x10 → .hostWrite fn c.d.dptr0 (s.featureData (specByte c.d 0) (specByte c.d 1) (specField c.d 2 2)) ∈ t.out ∧ Answered fn tag 0 0 0 t) ∧
    (specByte c.d 0 = 0x10 → Answered fn tag 0 ((s.qp fn (specField c.d 2 2)).aggThr + (s.qp fn (specField c.d 2 2)).aggUs * 65536) 0 t)) ∧
  (∀ (fn : FnIx) (tag : Nat) (s : State) (c : Ctx), AdminCmd s fn tag 0x89 c → (specByte c.d 0 = 1 → s.on .MECH_STATE_MOUNTED c.d.mn = true) →
    Completes (.calibSave fn tag .done) s fun t =>
    ((s.calImage (specByte c.d 0) c.d.mn).length ≤ c.d.count → .hostWrite fn c.d.dptr0 (s.calImage (specByte c.d 0) c.d.mn) ∈ t.out ∧
      Answered fn tag 0 (s.calImage (specByte c.d 0) c.d.mn).length (s.calList (specByte c.d 0) c.d.mn).length t) ∧
    (c.d.count < (s.calImage (specByte c.d 0) c.d.mn).length → Answered fn tag 0x0234 (s.calImage (specByte c.d 0) c.d.mn).length 0 t))

/-- SET_FEATURE puts an accepted record, matrix, coalescing value or key in force; CALIB_RESTORE applies its records (R234, R254, R255, R344, R373, R374, R205, R206, R378) -/
def Obligations.FeaturesSet : Prop :=
  (∀ (fn : FnIx) (tag : Nat) (data : List Nat) (s : State) (c : Ctx), AdminCmd s fn tag 0x82 c → s.featureRefused c true ≠ 0 →
    Completes (.setFeature fn tag data .done) s fun t => Ended fn tag (s.featureRefused c true) t) ∧
  (∀ (fn : FnIx) (tag : Nat) (data : List Nat) (s : State) (c : Ctx), AdminCmd s fn tag 0x82 c → s.featureRefused c true = 0 → data.length = c.d.count →
    (∀ b ∈ data, b < 256) → Completes (.setFeature fn tag data .done) s fun t =>
    let r := dwordsOf data
    let k := specByte c.d 1
    let x := specField c.d 2 2
    let v := specField c.d 4 8
    match specByte c.d 0 with
    | 1 => if seqOk k r then t.seqRec k = r ∧ Ended fn tag 0 t else t.seqRec k = s.seqRec k ∧ Ended fn tag 0x0213 t
    | 2 => if driveOk k r then t.driveRec k = r ∧ Ended fn tag 0 t else t.driveRec k = s.driveRec k ∧ Ended fn tag 0x0213 t
    | 3 => if stratOk k x r then t.strategy k x = r ∧ Ended fn tag 0 t else t.strategy k x = s.strategy k x ∧ Ended fn tag 0x0213 t
    | 4 => if matrixOk data = false then t.chan.matrices = s.chan.matrices ∧ Ended fn tag 0x0211 t
           else if s.matrixPlace (leAt data 4 2) = none then t.chan.matrices = s.chan.matrices ∧ Ended fn tag 0x0212 t
           else (∃ m, t.matrixOf (leAt data 4 2) = some m ∧ m.id = leAt data 4 2) ∧ t.on .MOR_EVENT_MTX_LOADED = true ∧ Ended fn tag 0 t
    | 5 => if coefErr (x % 8) r = 0 ∧ recFmt r = x / 256 then t.libRec k (x % 8) (x / 256) = r ∧ Ended fn tag 0 t else Ended fn tag 0x0213 t
    | 0x10 => (t.qp fn x).aggThr = max 1 (v % 65536) ∧ (t.qp fn x).aggUs = v / 65536 % 256 ∧ Ended fn tag 0 t
    | _ => if s.keyInUse x then t.keySlot x = s.keySlot x ∧ Ended fn tag 0x0228 t
           else if keyErr data ≠ 0 then t.keySlot x = s.keySlot x ∧ Ended fn tag (keyErr data) t
           else (t.keySlot x).mode = leAt data 0 1 ∧ (leAt data 0 1 ≠ 0 → (t.keySlot x).tweakHi = leAt data 8 8 ∧ (t.keySlot x).key1 = leAt data 0x10 32 ∧
             (t.keySlot x).key2 = leAt data 0x30 32) ∧ Ended fn tag 0 t) ∧
  (∀ (fn : FnIx) (tag : Nat) (data : List Nat) (s : State) (c : Ctx), AdminCmd s fn tag 0x8A c → data.length = c.d.count → (∀ b ∈ data, b < 256) →
    Completes (.calibRestore fn tag data .done) s fun t =>
    if calImageOk data = false then Ended fn tag 0x0210 t
    else if leAt data 4 1 = 1 ∧ s.leaseMode fn c.d.mn ≠ 3 then Ended fn tag 0x0501 t
    else if leAt data 4 1 ≠ 1 ∧ s.isSteward fn = false then Ended fn tag 0x0107 t
    else
      let p := (taken fn tag s).calRestore (leAt data 4 1) c.d.mn (leAt data 0x10 8) ((List.range (leAt data 8 4)).map fun i => (data.drop (32 + 64 * i)).take 64)
      t.cal = p.1.cal ∧ p.2.1 + p.2.2 = leAt data 8 4 ∧ Answered fn tag 0 p.2.1 p.2.2 t)

/-- CREATE_QP, DELETE_QP and LEASE: the queue pair made or ended, the lease entries of the range changed (R329, R330, R337, R376, R377) -/
def Obligations.QueueAndLeases : Prop :=
  (∀ (fn : FnIx) (tag : Nat) (s : State) (c : Ctx), AdminCmd s fn tag 0x86 c →
    let q := specField c.d 0 2
    q ≠ 0 → q < s.get .HQP_FN_CFG_QP_QUOTA fn → q / 512 < (s.fnx fn).dbPages.length → 4 ≤ specByte c.d 2 → specByte c.d 2 ≤ 16 → 4 ≤ specByte c.d 3 →
    specByte c.d 3 ≤ 16 → specField c.d 4 2 < vectorsOf fn → specField c.d 6 2 ≤ 256 → specByte c.d 9 ≠ 0 → (s.qp fn q).live = false →
    (s.host.qps.filter fun e => e.2.live).length < 65536 → Completes (.createQp fn tag) s fun t =>
      t.qp fn q = { live := true, ver := min (specByte c.d 9) (s.get .FN_STAT_VER fn), sqBase := c.d.dptr0, cqBase := c.d.dptr1, sqLog2 := specByte c.d 2,
                    cqLog2 := specByte c.d 3, vector := specField c.d 4 2, aggThr := max (specField c.d 6 2) 1, aggUs := specByte c.d 8 } ∧
      Answered fn tag 0 (min (specByte c.d 9) (s.get .FN_STAT_VER fn)) 0 t) ∧
  (∀ (fn : FnIx) (tag : Nat) (s : State) (c : Ctx), AdminCmd s fn tag 0x87 c →
    let q := specField c.d 0 2
    q ≠ 0 → (s.qp fn q).live = true → (s.qp fn q).deletedBy = none → Completes (.deleteQp fn tag) s fun t =>
      (s.qpBusy fn q = 0 → (t.qp fn q).live = false ∧ Ended fn tag 0 t) ∧ (s.qpBusy fn q ≠ 0 → (t.qp fn q).deletedBy = some tag ∧ (t.qp fn q).live = true)) ∧
  (∀ (fn : FnIx) (tag : Nat) (s : State) (c : Ctx), AdminCmd s fn tag 0x88 c → c.d.mn + c.d.count ≤ 4096 →
    let g := specByte c.d 0
    let mode := specByte c.d 1
    mode = 0 ∨ mode = 1 ∨ mode = 3 →
    (mode = 0 ∨ ∀ n, c.d.mn ≤ n → n < c.d.mn + c.d.count → (s.leaseEntry g n).isSome = true ∨ (s.freeLease n).isSome = true) →
    Completes (.lease fn tag) s fun t => (∀ n, c.d.mn ≤ n → n < c.d.mn + c.d.count →
      (mode ≠ 0 → t.entryMode g n = mode) ∧ (mode = 0 → ∀ k, s.leaseEntry g n = some k → s.get .HQP_LEASE_MODE n k ≠ 0 → t.rd .HQP_LEASE n k = 0)) ∧
      Answered fn tag 0 (((List.range c.d.count).map fun i => c.d.mn + i).filter fun n => s.entryMode g n != mode).length 0 t)

/-- Firmware: staging, commit, activation, rolling update, confirmation of a trial, update of bridges and fan-outs (R375, R462, R463, R464, R488, R489, R490) -/
def Obligations.Firmware : Prop :=
  (∀ (fn : FnIx) (tag : Nat) (s : State) (c : Ctx), AdminCmd s fn tag 0x84 c → c.d.lba = 0 ∨ c.d.lba = s.fw.staged →
    c.d.lba + c.d.count ≤ stageLimit (c.d.spec % 256) → Completes (.fwDownload fn tag .done) s fun t => t.fw.staged = c.d.lba + c.d.count ∧
    (c.d.lba = 0 → t.fw.stagedComp = c.d.spec % 256) ∧ Answered fn tag 0 (c.d.lba + c.d.count) 0 t) ∧
  (∀ (fn : FnIx) (tag : Nat) (image : FwImage) (flash : Bool) (s : State) (c : Ctx), AdminCmd s fn tag 0x85 c → c.d.spec % 256 = 1 → s.pst ≠ 7 →
    Completes (.fwCommit fn tag image flash) s fun t => if s.commitErr image ≠ 0 then Ended fn tag (s.commitErr image) t
      else if s.fw.stagedComp = 1 then t.fw.package = some image ∧ Answered fn tag 0 s.fw.running s.activeSlot t
      else if flash then tabGet t.fw.slots (1 - s.activeSlot) none = some image ∧ Answered fn tag 0 s.fw.running s.activeSlot t else Ended fn tag 0x0224 t) ∧
  (∀ (fn : FnIx) (tag : Nat) (image : FwImage) (s : State) (c : Ctx), AdminCmd s fn tag 0x85 c → c.d.spec % 256 = 2 → s.pst ≠ 7 → s.commitErr image = 0 →
    s.fw.stagedComp ≠ 1 → Completes (.fwCommitActivate fn tag image true) s fun t =>
    (image.compat ≤ s.fw.running → t.on .DBG_UPD_STAT_BUSY = true ∧ t.get .DBG_UPD_STAT_PHASE = 1 ∧
      tabGet t.fw.slots (1 - s.activeSlot) none = some image ∧ t.fw.act = some { cmd := some (fn.val, tag), slot := 1 - s.activeSlot, image := image }) ∧
    (s.fw.running < image.compat → ∃ r, t.bootRec = some r ∧ r.active = 1 - s.activeSlot ∧ r.prev = s.activeSlot ∧ r.trial = true)) ∧
  (∀ (fn : FnIx) (tag : Nat) (s : State) (c : Ctx) (image : FwImage), AdminCmd s fn tag 0x85 c → c.d.spec % 256 = 3 → s.pst ≠ 7 → s.fw.act = none →
    tabGet s.fw.slots (c.d.spec / 256 % 256) none = some image → image.compat ≤ s.fw.running → Completes (.fwActivate fn tag) s fun t =>
    t.on .DBG_UPD_STAT_BUSY = true ∧ t.get .DBG_UPD_STAT_PHASE = 1 ∧
    t.fw.act = some { cmd := some (fn.val, tag), slot := c.d.spec / 256 % 256, image := image }) ∧
  (∀ (s : State) (a : ActX), s.fw.act = some a → a.started = false → a.todo = [] → s.pst ≠ 7 → Completes .liveUpdateStep s fun t =>
    (s.get .DBG_UPD_STAT_PHASE = 1 → t.get .DBG_UPD_STAT_PHASE = 2 ∧ ∃ r, t.bootRec = some r ∧ r.active = a.slot ∧ r.prev = s.activeSlot ∧ r.trial = true) ∧
    (s.get .DBG_UPD_STAT_PHASE = 2 → t.get .DBG_UPD_STAT_PHASE = 3 ∧ t.fw.running = a.image.version) ∧
    (s.get .DBG_UPD_STAT_PHASE = 5 → t.fw.act = none ∧ t.on .DBG_UPD_STAT_BUSY = false ∧ t.on .DBG_UPD_STAT_DONE = true ∧
      t.get .DBG_UPD_STAT_RESULT = (if a.rollback then 1 else 0) ∧ ∀ fn tag c, a.cmd = some (fn, tag) → s.ctx fn tag = some c →
        Answered fn tag 0 s.fw.running a.slot t)) ∧
  (∀ (s : State) (t0 : Nat) (r : BootRec), s.fw.trialFrom = some t0 → s.bootRec = some r → s.on .RST_FW_STAT_TRIAL = true → s.pst ≠ 7 → t0 + 60 * 1000000000 ≤ s.now →
    Completes .trialConfirm s fun t => t.on .RST_FW_STAT_TRIAL = false ∧ t.fw.trialFrom = none ∧ ∃ q, t.bootRec = some q ∧ q.active = r.active ∧ q.trial = false) ∧
  (∀ (mn : Fin 4160) (image : List Nat) (offer check : Fin 4) (s : State) (i : BfwImage), s.bfwDue mn = some i → image.length = i.bytes → crc32c image = i.crc →
    Completes (.bfwUpdate mn image offer check) s fun t =>
    (offer.val = 0 → check.val = 0 → t.fw.bfw = some { mn := mn, image := i, since := s.now }) ∧
    (offer.val ≠ 0 ∨ check.val ≠ 0 → t.fw.bfw = none ∧ t.get .DBG_BFW_STAT_FAILED = min (s.get .DBG_BFW_STAT_FAILED + 1) (2 ^ Fld.DBG_BFW_STAT_FAILED.width - 1))) ∧
  (∀ (mn : Fin 4160) (s : State) (b : BfwX), s.fw.bfw = some b → b.mn = mn.val →
    b.since + ms (s.get .DBG_BFW_CFG_REBOOT_MS) ≤ s.now → Completes (.bfwRebootTimeout mn) s fun t => t.fw.bfw = none ∧
    t.get .DBG_BFW_STAT_FAILED = min (s.get .DBG_BFW_STAT_FAILED + 1) (2 ^ Fld.DBG_BFW_STAT_FAILED.width - 1))

/-- READ, VERIFY, SCRUB and SEEK_HINT: what goes to the host and with what result the command ends (R24, R354, R356, R357, R358, R362, R363, R366) -/
def Obligations.DataReads : Prop :=
  (∀ (fn : FnIx) (tag : Nat) (dma : Dma) (s : State) (c : Ctx), IoCmd s fn tag 1 c → c.phase = .fetched → s.stopping c.d.mn = false →
    s.forcedRun c.d.mn = false → s.checkIo c ≠ 0 → Completes (.read fn tag dma) s fun t => Ended fn tag (s.checkIo c) t) ∧
  (∀ (fn : FnIx) (tag : Nat) (s : State) (c : Ctx) (b f : Nat → Nat), IoCmd s fn tag 1 c → ReadyIo s c →
    (∀ k < c.d.count, s.blockSrc c k = .data (b k) (f k)) → Completes (.read fn tag .done) s fun t => Answered fn tag 0 c.d.count 0xFFFFFFFF t ∧
      ∀ k < c.d.count, (k, decryptBlock (s.keySlot c.d.key) (c.d.lba + k) (b k)) ∉ c.sent →
        .hostBlock fn (c.d.lba + k) (decryptBlock (s.keySlot c.d.key) (c.d.lba + k) (b k)) ∈ t.out) ∧
  (∀ (fn : FnIx) (tag : Nat) (s : State) (c : Ctx) (k b f : Nat), IoCmd s fn tag 1 c → ReadyIo s c → firstUnwritten (s.sources c) = none →
    k < c.d.count → s.blockSrc c k = .data b f → (k, decryptBlock (s.keySlot c.d.key) (c.d.lba + k) b) ∉ c.sent →
    (∃ j < c.d.count, pendingSrc (s.blockSrc c j) = true) → Completes (.read fn tag .done) s fun t =>
      .hostBlock fn (c.d.lba + k) (decryptBlock (s.keySlot c.d.key) (c.d.lba + k) b) ∈ t.out ∧ (t.ctx fn tag).isSome = true) ∧
  (∀ (fn : FnIx) (tag : Nat) (dma : Dma) (s : State) (c : Ctx) (k : Nat), IoCmd s fn tag 1 c → ReadyIo s c →
    k < c.d.count → s.blockSrc c k = .bad 0x0302 0 0 → (∀ j < k, s.blockSrc c j ≠ .bad 0x0302 0 0) →
    Completes (.read fn tag dma) s fun t => Answered fn tag 0x0302 0 k t) ∧
  (∀ (fn : FnIx) (tag : Nat) (s : State) (c : Ctx), IoCmd s fn tag 3 c → ReadyIo s c →
    (s.sources c).any pendingSrc = false → firstUnwritten (s.sources c) = none → Completes (.verify fn tag) s fun t =>
      let bad := ((s.sources c).filter fun x => match x with | .bad _ _ _ => true | _ => false).length
      let hard := ((s.sources c).filter fun x => match x with | .data _ f => decide (2 ≤ f) | _ => false).length
      Answered fn tag (if bad = 0 then 0 else 0x0301) (c.d.count - bad - hard) (bad * 65536 + min hard 65535) t) ∧
  (∀ (fn : FnIx) (tag : Nat) (s : State) (c : Ctx), IoCmd s fn tag 0x0B c → ReadyIo s c → s.memberOf c.d.mn = none →
    Completes (.scrub fn tag) s fun t =>
    ((rangePlaces (s.disc c.d.mn).extents c.d.lba c.d.count).length ≤ c.done →
      Answered fn tag (if c.count1 = 0 then 0 else 0x0301) c.reads (c.count1 % 65536 * 65536 + min c.count2 65535) t) ∧
    (∀ p r, (rangePlaces (s.disc c.d.mn).extents c.d.lba c.d.count)[c.done]? = some p → s.readOf c.d.mn (placeLayer p) (placeCluster p) = some r →
      r.done = true ∨ unresolvedData r.sectors = [] → ∃ x, t.ctx fn tag = some x ∧ x.done = c.done + 1 ∧ x.reads = c.reads + 1 ∧
        x.count1 = c.count1 + (if unresolvedData r.sectors = [] then 0 else 1))) ∧
  (∀ (fn : FnIx) (tag id i : Nat) (s : State) (c : Ctx), IoCmd s fn tag 0x0B c → ReadyIo s c → s.memberOf c.d.mn = some (id, i) →
    Completes (.scrub fn tag) s fun t =>
    ((s.scrubStripes c.d.mn id i c.d.lba c.d.count).length ≤ c.done →
      Answered fn tag (if c.count1 = 0 then 0 else 0x0301) c.reads (c.count1 % 65536 * 65536 + min c.count2 65535) t) ∧
    (∀ x, (s.scrubStripes c.d.mn id i c.d.lba c.d.count)[c.done]? = some x → s.unitsWanted id x (heldBy (s.set_ id) x) = [] →
      ∃ y, t.ctx fn tag = some y ∧ y.done = c.done + 1 ∧ y.reads = c.reads + (heldBy (s.set_ id) x).length)) ∧
  (∀ (fn : FnIx) (tag layer : Nat) (tracks : Int) (s : State) (c : Ctx), IoCmd s fn tag 9 c → ReadyIo s c →
    Completes (.seekHint fn tag layer tracks) s fun t =>
    (bitAt c.d.flags 0 = 0 → s.holdsSlot c.d.mn = true → s.beyondLimit c.d.mn (s.seekTarget c.d.mn tracks) = true → Ended fn tag 0x040A t) ∧
    (bitAt c.d.flags 0 = 0 → s.holdsSlot c.d.mn = false ∨ s.beyondLimit c.d.mn (s.seekTarget c.d.mn tracks) = false →
      (∃ v, Answered fn tag 0 v 0 t) ∨ Ended fn tag 0x040B t) ∧
    (bitAt c.d.flags 0 = 1 → ∃ v, Answered fn tag 0 v 0 t))

/-- WRITE and COMMIT: buffered, accepted with clusters and encrypted, committed; the completions of BUFFERED and COMMIT (R18, R21, R272, R354, R357, R359, R361) -/
def Obligations.DataWrites : Prop :=
  (∀ (fn : FnIx) (tag : Nat) (s : State) (c : Ctx), IoCmd s fn tag 2 c → s.wbOf fn tag = none → ReadyIo s c →
    Completes (.write ⟨fn.val, by omega⟩ tag) s fun t => (s.writeRefusal c ≠ 0 → Ended fn tag (s.writeRefusal c) t) ∧
      (s.writeRefusal c = 0 → s.wbufRoom c.d.count = false → t.host.wbuf = s.host.wbuf ∧ (t.ctx fn tag).isSome = true) ∧
      (s.writeRefusal c = 0 → s.wbufRoom c.d.count = true → ∃ w ∈ t.host.wbuf, w.id = s.host.nextWb ∧ w.fn = fn ∧ w.tag = tag ∧ w.mn = c.d.mn ∧ w.lba = c.d.lba ∧ w.count = c.d.count ∧
        w.phase = .fetching)) ∧
  (∀ (fn : FnIx) (tag : Nat) (data : List Nat) (s u : State) (c : Ctx) (w : WbEntry) (cl : List Nat), s.ctx fn tag = some c → s.wbOf fn tag = some w →
    w.phase = .fetching → isBd (s.get .MECH_DISC_MEDIA w.mn) = false → s.on .MECH_DISC_SEALED w.mn = false → s.allocate w.mn w.count = some (u, cl) →
    (mapExtents (s.plannedMap w.mn) (writeExtents w.lba w.count cl)).length ≤ 1048576 → s.mapBytes w.mn (writeExtents w.lba w.count cl) ≤ s.mapPool → Completes (.writeAccepted fn tag data .done) s fun t =>
      (∃ x ∈ t.host.wbuf, x.id = w.id ∧ x.phase = .accepted ∧ x.clusters = cl ∧
        ∀ k < w.count, x.data.getD k 0 = encryptBlock (s.keySlot w.key) (w.lba + k) (data.getD k 0 % 2 ^ 32768)) ∧
      (bitAt c.d.flags 1 = 1 → Answered fn tag 0 w.count 0 t) ∧ (bitAt c.d.flags 1 = 0 → ∃ x, t.ctx fn tag = some x ∧ x.accepted = true)) ∧
  (∀ (fn : FnIx) (tag : Nat) (data : List Nat) (s : State) (c : Ctx) (w : WbEntry), s.ctx fn tag = some c → s.wbOf fn tag = some w →
    w.phase = .fetching → Completes (.writeAccepted fn tag data .done) s fun t =>
      (isBd (s.get .MECH_DISC_MEDIA w.mn) = true → ∃ x ∈ t.host.wbuf, x.id = w.id ∧ x.phase = .accepted ∧ x.clusters = []) ∧
      (isBd (s.get .MECH_DISC_MEDIA w.mn) = false → (s.on .MECH_DISC_SEALED w.mn = true → Ended fn tag 0x0330 t) ∧
        (s.on .MECH_DISC_SEALED w.mn = false → (s.allocate w.mn w.count = none → Ended fn tag 0x0331 t) ∧
          ∀ u cl, s.allocate w.mn w.count = some (u, cl) → 1048576 < (mapExtents (s.plannedMap w.mn) (writeExtents w.lba w.count cl)).length ∨
            s.mapPool < s.mapBytes w.mn (writeExtents w.lba w.count cl) → Ended fn tag 0x0332 t))) ∧
  (∀ (fn : Fin 257) (tag : Nat) (s : State) (w : WbEntry) (f : Nat) (r : RunX), s.wbOf fn tag = some w → w.phase = .writing → s.laneOf w.mn = some f →
    f < 272 → (s.lane f).run = some r → s.runStopped w.mn r = false → s.runDone w (s.turnRun w.mn r) = true →
    isBd (s.get .MECH_DISC_MEDIA w.mn) = false → Completes (.write fn tag) s fun t =>
      t.on .FIRN_STATUS_WRITE f = false ∧ (∃ x ∈ t.host.wbuf, x.id = w.id ∧ x.phase = .committing) ∧ commitOf w ∈ (t.disc w.mn).commits ∧
      ∀ u ∈ unitsOf w, .discWrite w.mn u.1 u.2 ∈ t.out) ∧
  (∀ (fn : FnIx) (tag : Nat) (s : State) (c : Ctx), IoCmd s fn tag 4 c → c.started = false →
    let cov := (s.host.wbuf.filter fun w => w.mn == c.d.mn && decide (w.fn < 256) && w.phase != .fetching && (bitAt c.d.flags 0 == 1 || w.fn == fn.val)).map (·.id)
    Completes (.commit fn tag) s fun t => (cov ≠ [] → ∃ x, t.ctx fn tag = some x ∧ x.covers = cov) ∧
      (cov = [] → (tabGet s.host.losses (fn.val * 4096 + c.d.mn) {}).count = 0 → Answered fn tag 0 c.count1 (s.disc c.d.mn).gen t))

/-- SERVO_TEST, ABORT and deadlines: the engines taken and given back with the image, the command caught or left (R355, R367, R368, R369) -/
def Obligations.TestsAbortsDeadlines : Prop :=
  (∀ (fn : FnIx) (tag : Nat) (dma : Dma) (s : State) (c : Ctx), IoCmd s fn tag 0x0C c → ReadyIo s c → s.holdsSlot c.d.mn = true →
    s.clusterOf c.d.mn < 17 → s.on .MECH_STATE_BUSY c.d.mn = false →
    let k := s.clusterOf c.d.mn
    let u := ((taken fn tag s).servoTestRegs k c.d).set .CIRQ_CAP_STAT_BUF k 0x1F
    tabGet s.cirq.inj k none = none → (s.cap k).armed = false → (s.cap k).owner = none → specByte c.d 1 = 0xFF → u.freeBuffer.isSome = true →
    u.capErr k c.d.mn (specByte c.d 2) 0 = 0 → Completes (.servoTest fn tag dma) s fun t =>
      (t.cap k).owner = some (fn.val, tag) ∧ (t.cap k).armed = true ∧ t.on .CIRQ_CAP_STAT_ARMED k = true ∧ t.get .CIRQ_CAP_LEN_LEN k = (c.d.count - 1) % 2 ^ Fld.CIRQ_CAP_LEN_LEN.width) ∧
  (∀ (fn : FnIx) (tag : Nat) (s : State) (c : Ctx), IoCmd s fn tag 0x0C c → ReadyIo s c → s.holdsSlot c.d.mn = true →
    let k := s.clusterOf c.d.mn
    (s.cap k).owner = some (fn.val, tag) → (s.cap k).armed = false → tabGet s.cirq.inj k none = none → Completes (.servoTest fn tag .done) s fun t =>
      .hostWrite fn c.d.dptr0 (s.capImage k) ∈ t.out ∧ Answered fn tag 0 (s.cap k).points.length (s.servoTestRes k) t ∧ (t.cap k).owner = none) ∧
  (∀ (fn : FnIx) (tag : Nat) (s : State) (a : Ctx), IoCmd s fn tag 0x0A a → Completes (.abort fn tag) s fun t =>
    ((taken fn tag s).abortTarget a = none → Answered fn tag 0 2 0 t) ∧
    ∀ c, (taken fn tag s).abortTarget a = some c → ((taken fn tag s).caught c = true → Ended c.fn c.d.tag 0x0111 t ∧ Answered fn tag 0 0 c.qpid t) ∧
      ((taken fn tag s).caught c = false → Answered fn tag 0 1 c.qpid t)) ∧
  (∀ (fn : FnIx) (tag : Nat) (s : State) (c : Ctx), s.ctx fn tag = some c → c.deadline ≤ s.now → Completes (.commandDeadline fn tag) s fun t =>
    Ended fn tag 0x0110 t ∧ (∀ q, q = fn.val → (t.fnx q).stopping = (s.fnx q).stopping))

/-- MOUNT, UNMOUNT, LOAD and EJECT: ended at once where the state says so, else the transition begun or the report given (R37, R38, R39, R40, R41, R187, R278, R364, R365) -/
def Obligations.StateCommands : Prop :=
  (∀ (fn : FnIx) (tag : Nat) (info : Option MountInfo) (s : State) (c : Ctx), s.ctx fn tag = some c → c.d.opcode = 5 → c.qpid ≠ 0 → c.d.mn < 4096 →
    s.stateTurn c = true → Completes (.mount fn tag info .done) s fun t =>
    (c.started = false → (s.mst c.d.mn = 0 → Ended fn tag 0x0403 t) ∧ (s.mst c.d.mn = 1 → Ended fn tag 0x0404 t) ∧ (s.mst c.d.mn = 9 → Ended fn tag 0x0402 t)) ∧
    (s.mst c.d.mn = 6 ∨ s.mst c.d.mn = 7 → s.on .MECH_STATE_BUSY c.d.mn = false → s.on .MECH_STATE_MOUNTED c.d.mn = true →
      s.on .MECH_STATE_SAFE_HOLD c.d.mn = false → Answered fn tag 0 (s.mountResult c.d.mn) (s.capacity c.d.mn) t ∧
        (c.d.dptr0 ≠ 0 → .hostWrite fn c.d.dptr0 (s.mountReport c.d.mn) ∈ t.out))) ∧
  (∀ (fn : FnIx) (tag : Nat) (s : State) (c : Ctx), s.ctx fn tag = some c → c.d.opcode = 6 → c.qpid ≠ 0 → c.d.mn < 4096 → s.stateTurn c = true → s.before c = [] →
    c.started = false → Completes (.unmount fn tag) s fun t =>
    (s.mst c.d.mn = 1 ∨ s.mst c.d.mn = 3 → Ended fn tag 0 t) ∧
    (s.mst c.d.mn = 2 → s.on .MECH_STATE_BUSY c.d.mn = false → s.quiet c.d.mn = true → t.mst c.d.mn = 3 ∧ t.on .MECH_STATE_MOUNTED c.d.mn = false ∧
      Ended fn tag 0 t)) ∧
  (∀ (fn : FnIx) (tag : Nat) (s : State) (c : Ctx), s.ctx fn tag = some c → c.d.opcode = 7 → c.qpid ≠ 0 → c.d.mn < 4096 → s.stateTurn c = true →
    c.started = false → Completes (.load fn tag) s fun t =>
    (2 ≤ s.mst c.d.mn → s.mst c.d.mn ≤ 7 → Ended fn tag 0 t) ∧
    (s.mst c.d.mn = 1 → s.on .MECH_STATE_BUSY c.d.mn = false → s.unlimited (s.domOf c.d.mn) = true →
      t.on .MECH_STATE_BUSY c.d.mn = true ∧ t.get .MECH_STATE_TARGET c.d.mn = 3 ∧ (t.mx c.d.mn).waitTray = some s.now)) ∧
  (∀ (fn : FnIx) (tag : Nat) (s : State) (c : Ctx), s.ctx fn tag = some c → c.d.opcode = 8 → c.qpid ≠ 0 → c.d.mn < 4096 → s.stateTurn c = true → s.before c = [] →
    c.started = false → Completes (.eject fn tag) s fun t =>
    (s.mst c.d.mn = 0 → Ended fn tag 0x0403 t) ∧
    (s.mst c.d.mn = 1 ∨ s.mst c.d.mn = 3 → s.on .MECH_STATE_BUSY c.d.mn = false → s.quiet c.d.mn = true → s.unlimited (s.domOf c.d.mn) = true →
      t.on .MECH_STATE_BUSY c.d.mn = true ∧ t.get .MECH_STATE_TARGET c.d.mn = 1 ∧ (t.mx c.d.mn).waitTray = some s.now))

/-- Power grants: the amount asked for, granted, deferred or refused; releases, aging, overdraw, excess and the BIST gap (R302, R305, R306, R307, R309, R310, R312, R313, R314, R315, R316) -/
def Obligations.BreathGrants : Prop :=
  (∀ (cls : Fin 8) (who : Mn) (v : Nat) (prio : Fin 256) (cmd : Option (FnIx × Nat)) (s : State), 2 ≤ cls.val → cls.val ≤ 5 → s.mayRequest cls who = true →
    (∀ q ∈ s.breath.reqs, q.dom ≠ s.domOf who) → Completes (.breathRequest cls who v prio cmd) s fun t =>
    let r := s.mechRequest cls who v prio (cmd.map fun c => (c.1.val, c.2))
    let k := s.clsOf who
    (s.grantNow r = true →
      (cls.val = 2 → (t.grants who).seek = some (s.get .BRTH_CLS_MOVE_SEEK_MW k)) ∧
      (cls.val = 3 → (t.grants who).write = some (s.get .BRTH_CLS_MOVE_WRITE_MW k * v)) ∧
      (cls.val = 4 → let p := s.pSpin k (s.get .MECH_SPEED_TARGET who)
        (t.grants who).spin = some p ∧ (t.grants who).spinup = some (max (s.get .BRTH_CLS_START_PEAK_MW k) p - p)) ∧
      (cls.val = 5 → let q := max 4800 (min v 32000)
        let p := s.pSpin k q
        (t.grants who).spin = some p ∧ (t.grants who).spinup = some (max (s.get .BRTH_CLS_START_PEAK_MW k) p - p) ∧
        t.get .MECH_SPEED_TARGET who = q)) ∧
    (s.neverFits r = false → s.grantNow r = false → s.grantNow { r with aged := true } = false →
      t.grants who = s.grants who ∧ ∃ q ∈ t.breath.reqs, q.cls = cls.val ∧ q.who = who.val ∧ q.mw = r.mw) ∧
    (s.neverFits r = true → ∀ fn tag c, cmd = some (fn, tag) → s.ctx fn tag = some c → Ended fn tag 0x040B t)) ∧
  (∀ (who : Mn) (v : Nat) (prio : Fin 256) (s : State), who.val < 64 → tabGet s.breath.link who none = none →
    (∀ q ∈ s.breath.reqs, q.dom ≠ s.get .BRTH_PORT_DOMAIN who ∧ ¬ (q.cls = 1 ∧ q.who = who.val)) →
    s.grantNow { cls := 1, who := who, dom := s.get .BRTH_PORT_DOMAIN who, mw := s.get .BRTH_PORT_LINK_MW who, at_ := s.now } = true →
    Completes (.breathRequest 1 who v prio none) s fun t =>
      tabGet t.breath.link who none = some (s.get .BRTH_PORT_DOMAIN who, s.get .BRTH_PORT_LINK_MW who)) ∧
  (∀ (who : Mn) (v : Nat) (prio : Fin 256) (s : State), s.breath.bistReqs = [] → s.bistGap = false →
    bistSum s.breath.bistHeld + v ≤ s.get .BRTH_BIST_CFG_BUDGET_MW → Completes (.breathRequest 6 who v prio none) s fun t =>
      t.bistGranted (who / 512) (who % 512) = true) ∧
  (∀ (cls : Fin 8) (who : Mn) (s : State), Completes (.breathRelease cls who) s fun t =>
    (cls.val = 1 → who.val < 64 → tabGet t.breath.link who none = none) ∧
    ((∀ q ∈ s.breath.reqs, q.cls = 1 ∨ q.who ≠ who.val) → (cls.val = 2 → (t.grants who).seek = none) ∧ (cls.val = 3 → (t.grants who).write = none) ∧
      (cls.val = 4 → (t.grants who).spin = none ∧ (t.grants who).spinup = none) ∧
      (cls.val = 5 → tabGet s.breath.spinBefore who 0 ≠ 0 → (t.grants who).spin = some (tabGet s.breath.spinBefore who 0) ∧ (t.grants who).spinup = none)) ∧
    (cls.val = 6 → ∀ r ∈ t.breath.bistHeld, ¬ (r.cls = who.val / 512 ∧ r.index = who.val % 512))) ∧
  (∀ (cls : Fin 8) (who : Mn) (s : State) (r : PowerReq), r ∈ s.breath.reqs → r.cls = cls.val → r.who = who.val → r.aged = false → r.agedOnce = false →
    r.at_ + ms (s.get .BRTH_GCFG_AGE_MS) ≤ s.now → (∀ q ∈ s.breath.reqs, q.cls = cls.val → q.who = who.val → q = r) →
    Completes (.requestAged cls who) s fun t => t.on .BRTH_EVENT_AGED = true ∧
      ∀ q ∈ t.breath.reqs, q.cls = cls.val → q.who = who.val → q.aged = true) ∧
  (∀ s : State, s.breath.tickAt + 100000 ≤ s.now → Completes .overdrawTick s fun t => ∀ d < 8, (∀ e < d, s.on .BRTH_DOM_STAT_OVERDRAW e = false) →
    let sums := (s.powerSum d :: tabGet s.breath.sums d []).take 10
    let ovr := !s.unlimited d && decide (s.get .BRTH_DOM_BUDGET_MW d * sums.length < sums.sum)
    t.get .BRTH_DOM_MEAS_MW d = min (sums.sum / sums.length) 0xFFFFFFFF ∧ t.on .BRTH_DOM_STAT_OVERDRAW d = ovr ∧
    (ovr = true → (s.on .BRTH_DOM_STAT_OVERDRAW d = false → t.on .BRTH_EVENT_OVERDRAW = true) ∧
      ((s.mechsIn d).Nodup → ∀ n ∈ s.mechsIn d, n < 4096 → s.accelerating n = true →
        t.get .MECH_SPIN_STAT_THROTTLE n = max (s.get .BRTH_GCFG_THROTTLE_MIN) (s.get .MECH_SPIN_STAT_THROTTLE n - 32)))) ∧
  (∀ (d : DomainIx) (t0 : Nat) (s : State), tabGet s.breath.longAt d none = some (t0, false) → t0 + ms (s.get .BRTH_GCFG_OVER_MS) ≤ s.now →
    Completes (.overdrawLong d) s fun t => t.on .BRTH_EVENT_OVERDRAW_LONG = true ∧ t.get .BRTH_EVENT_DOM = d.val) ∧
  (∀ (mn : Mn) (t0 : Nat) (s : State), tabGet s.breath.excessAt mn none = some (t0, false) → t0 + 10000000 ≤ s.now → Completes (.mechExcess mn) s fun t =>
    t.on .BRTH_EVENT_MECH_EXCESS = true ∧ t.get .BRTH_EXCESS_MN = mn.val ∧
    t.get .BRTH_EXCESS_EXCESS_MW = min (s.measured mn - (s.standingOf mn + grantSum (s.grants mn))) 65535) ∧
  (∀ s : State, Completes .bistGapExpiry s fun t => (s.bistGap = true → t = s) ∧
    ∀ r l, s.breath.bistReqs = r :: l → s.bistGap = false → bistSum s.breath.bistHeld + r.mw ≤ s.get .BRTH_BIST_CFG_BUDGET_MW → r ∈ t.breath.bistHeld)

/-- Calibration runs and the window: what turns stale, when a run starts, what it leaves, what MECH_CAL_CMD reads and writes (R190, R191, R192, R193, R197, R198, R203, R208) -/
def Obligations.Calibration : Prop :=
  (∀ (s : State) (space index layer item : Nat), space < 4 → index < 4096 → layer < 16 → calKey space index layer ∈ s.cal.map (·.1) →
    let r := s.calRec space index layer
    r.d.length = 8 → item ∈ tempItems space → calValid r item = true →
    (s.get .MECH_CAL_CFG_TEMP_DELTA : Int) < (s.tNow space index - r.tRun.getD item 0).natAbs →
    s.get .DRN_PSTAT_STATE = 1 → s.time.calAt + ms 100 ≤ s.now → Completes .calTempCheck s fun t => calStale (t.calRec space index layer) item = true ∧ ∀ k < 6, dw (t.calRec space index layer).d k = dw r.d k) ∧
  (∀ (space : Fin 4) (index : Fin 4096) (layer : Fin 10) (item : Fin 6) (probe : Fin 4097) (s : State),
    let l := calLayer space layer
    item.val ∉ (s.calRec space index l).running → s.runAllowed space index l item = true → Completes (.calRunStart space index layer item probe) s fun t =>
      let next := tabGet (s.disc index).testNext layer probe
      (¬ (space.val = 0 ∧ item.val = 5) ∨ next < 4096 → item.val ∈ (t.calRec space index l).running) ∧
      (space.val = 0 → item.val = 5 → next < 4096 → tabGet (t.disc index).testNext layer probe = next + 1) ∧
      (space.val = 0 → item.val = 5 → 4096 ≤ next → t.get .MECH_CAL_LAST_CAUSE = 4 ∧ t.get .MECH_CAL_LAST_INDEX = index.val ∧
        (t.calRec space index l).running = (s.calRec space index l).running)) ∧
  (∀ (space : Fin 4) (index : Fin 4096) (layer : Fin 10) (item : Fin 6) (x : CalData) (s : State),
    let l := calLayer space layer
    let r := s.calRec space index l
    item.val ∈ r.running → (space.val = 0 → s.measuredAll index item = true) → r.d.length = 8 → r.fails.length = 6 → r.retryAt.length = 6 → r.tRun.length = 6 →
    Completes (.calRunDone space index layer item x) s fun t =>
      let u := t.calRec space index l
      (∀ d, s.calResult space index l item x = .pass d → (∀ k < 5, dw u.d k = dw d k) ∧ calValid u item = true ∧ calStale u item = false ∧
        u.tRun.getD item 0 = s.tNow space index ∧ u.fails.getD item 0 = 0 ∧ u.runTime = s.now ∧ u.running = r.running.erase item.val) ∧
      (∀ cause v, s.calResult space index l item x = .fail cause v → u.d = r.d ∧ u.tRun = r.tRun ∧ u.fails.getD item 0 = r.fails.getD item 0 + 1 ∧
        u.retryAt.getD item 0 = s.now + s.get .MECH_CAL_CFG_RETRY_S * 1000000000 ∧ t.get .MECH_CAL_LAST_CAUSE = cause ∧
        t.get .MECH_CAL_LAST_ITEM = item.val ∧ u.running = r.running.erase item.val)) ∧
  (∀ (space : Fin 4) (index : Fin 4096) (layer : Fin 10) (item : Fin 6) (s : State),
    (s.calRec space index (calLayer space layer)).retryAt.getD item 0 ≤ s.now → Completes (.calRetry space index layer item) s fun t =>
    (t.calRec space index (calLayer space layer)).retryAt.getD item 0 = 0) ∧
  (∀ s : State, s.closed = false → s.on .MECH_CAL_CMD_BUSY = false →
    let space := s.calSel.1
    let index := s.calSel.2.1
    let layer := calLayer space s.calSel.2.2
    let r := s.calRec space index layer
    let data := (List.range 8).map fun i => (s.rd .MECH_CAL_DATA i).toNat
    let sel := fun (items : Fin 64) => if space = 0 then (List.range 6).filter fun i => bitAt items i == 1 else [0]
    (∀ (items : Fin 64) (probe : Fin 4097), s.calSelErr space index s.calSel.2.2 ≠ 0 →
      ∀ c ∈ [Instr.calReadWindow items, .calWriteWindow items, .calRunNow items probe, .calMarkStale items], Completes c s fun t =>
        t.get .MECH_CAL_CMD_ERR = s.calSelErr space index s.calSel.2.2 ∧ t.get .MECH_CAL_CMD_ITEMS = items.val ∧ t.cal = s.cal) ∧
    (s.calSelErr space index s.calSel.2.2 = 0 →
      (∀ items : Fin 64, Completes (.calReadWindow items) s fun t => t.get .MECH_CAL_CMD_ERR = 0 ∧ t.cal = s.cal ∧
        ∀ i < 8, t.rd .MECH_CAL_DATA i = BitVec.ofNat 32 (dw r.d i)) ∧
      (∀ items : Fin 64, s.calInRange space index layer data = false → Completes (.calWriteWindow items) s fun t =>
        t.get .MECH_CAL_CMD_ERR = 3 ∧ t.cal = s.cal) ∧
      (∀ items : Fin 64, s.calInRange space index layer data = true → Completes (.calWriteWindow items) s fun t => t.get .MECH_CAL_CMD_ERR = 0 ∧
        ∀ k ∈ [0, 1, 2, 3, 4, 5, 7], ¬ (space = 2 ∧ k = 1) → dw (t.calRec space index layer).d k = data.getD k 0) ∧
      (∀ (items : Fin 64) (probe : Fin 4097), space = 2 ∨ (space = 0 ∧ s.mst index ≠ 6 ∧ s.mst index ≠ 7) → Completes (.calRunNow items probe) s fun t =>
        t.get .MECH_CAL_CMD_ERR = 5 ∧ t.cal = s.cal) ∧
      (∀ (items : Fin 64) (probe : Fin 4097), space = 1 ∨ space = 3 ∨ (space = 0 ∧ (s.mst index = 6 ∨ s.mst index = 7)) →
        Completes (.calRunNow items probe) s fun t => t.get .MECH_CAL_CMD_ERR = 0 ∧ ∀ i ∈ sel items, ¬ (space = 0 ∧ i = 5) →
          let u := t.calRec space index layer
          i ∈ u.forced ∧ u.fails.getD i 0 = 0 ∧ (s.get .DRN_PSTAT_STATE = 1 → space ≠ 0 ∨ (i < 4 ∧ (sel items).head? = some i ∧ (s.sx index).layer = layer ∧
            (s.sx index).run = none ∧ s.onTrack index = true ∧ s.injMoves index i = false) → i ∈ u.running)) ∧
      (∀ items : Fin 64, r.d.length = 8 → Completes (.calMarkStale items) s fun t => ∀ i ∈ sel items, calStale (t.calRec space index layer) i = true)))

/-- Cluster faults, handovers, cluster tests and the planned operations of CIRQ_HO_CMD (R92, R110, R113, R114, R115, R117, R118, R120, R121, R122, R123) -/
def Obligations.ClusterHandovers : Prop :=
  (∀ (c : ClusterIx) (cause : Fin 3) (s : State), Completes (.clusterFault c cause) s fun t => t.on .RST_CAUSE_CLUSTER = true ∧
    (s.get .CIRQ_STATUS_ROLE c = 0 → t.get .CIRQ_STATUS_ROLE c = 2) ∧
    (s.get .CIRQ_STATUS_ROLE c = 0 → s.cirq.ho = none → ∀ d, s.spare = some d → t.cirq.ho = some { src := c, dst := d, at_ := s.now } ∧
      t.on .CIRQ_HO_STAT_BUSY = true ∧ t.get .CIRQ_HO_STAT_CAUSE = cause.val + 1 ∧ t.get .CIRQ_HO_STAT_FROM = c.val ∧ t.get .CIRQ_HO_STAT_TO = d) ∧
    (s.get .CIRQ_STATUS_ROLE c = 0 → s.cirq.ho = none → s.spare = none → c.val ∈ t.cirq.uncomputed) ∧
    (s.get .CIRQ_STATUS_ROLE c = 1 → s.cirq.ho = none → t.get .CIRQ_STATUS_ROLE c = 2)) ∧
  (∀ (copies : List Mn) (s : State) (h : HoX), s.cirq.ho = some h → h.op = 0 → h.at_ + 960 ≤ s.now → h.src < 17 → h.dst < 17 → h.src ≠ h.dst →
    Completes (.handoverServe copies) s fun t => t.cirq.ho = none ∧ t.get .CIRQ_HO_STAT_REPEATS = min h.lost.length 32 ∧ t.on .CIRQ_HO_STAT_BUSY = false ∧ t.get .CIRQ_STATUS_ROLE h.dst = 0 ∧
      t.get .CIRQ_FMT_FMT h.dst = s.get .CIRQ_FMT_FMT h.src ∧ ∀ k < 32, t.rd .CIRQ_SLOT h.dst k = s.rd .CIRQ_SLOT h.src k ∧ t.rd .CIRQ_SLOT h.src k = 0 ∧
        t.get .CIRQ_LSTAT_LS h.dst k = s.get .CIRQ_LSTAT_LS h.src k ∧ t.rd .CIRQ_ANGLE h.dst k = s.rd .CIRQ_ANGLE h.src k ∧
        (s.on .CIRQ_SLOT_VALID h.src k = true → t.clusterOf (s.slotMn h.src k) = h.dst)) ∧
  (∀ (c : ClusterIx) (pass : Bool) (s : State), s.underBist 1 c = false → s.get .CIRQ_STATUS_ROLE c = 2 ∨ s.get .CIRQ_STATUS_ROLE c = 3 →
    Completes (.clusterTestDone c pass) s fun t => t.get .CIRQ_STATUS_LAST_TEST c = (if pass then 1 else 2) ∧
      (pass = true → s.get .CIRQ_GCFG_FAULT_LIMIT = 0 ∨ tabGet s.cirq.faults c 0 < s.get .CIRQ_GCFG_FAULT_LIMIT →
        t.get .CIRQ_STATUS_ROLE c = (if (List.range 17).any fun x => x != c.val && s.get .CIRQ_STATUS_ROLE x == 1 then 0 else 1)) ∧
      (pass = false → t.get .CIRQ_STATUS_ROLE c = 4 ∧ t.on .CIRQ_EVENT_OOS c = true ∧ t.on .CIRQ_EVENT_TEST_FAIL c = true)) ∧
  (∀ (c : Fin 32) (fmt : Bool) (s : State), s.closed = false →
    let r := s.hoRefusal c
    let ho := fun (op f : Nat) => some ({ src := c, dst := s.spare.getD 0, at_ := s.now, op := op, fmt := f } : HoX)
    let wide := 1408 * 16 < s.clusterLines c (b2n fmt)
    let missing := (s.heldSlots c).any fun k => [0, 1, 2, 4].any fun l => (s.formatRec (s.slotMn c k) l (b2n fmt)).isEmpty
    (Completes (.hoTest c) s fun t => (r ≠ 0 → t.get .CIRQ_HO_STAT_RESULT = r ∧ t.cirq = s.cirq) ∧ (r = 0 → t.cirq.ho = ho 1 0 ∧ t.on .CIRQ_HO_STAT_BUSY = true)) ∧
    (Completes (.hoUcode c) s fun t => (r ≠ 0 → t.get .CIRQ_HO_STAT_RESULT = r ∧ t.cirq = s.cirq) ∧ (r = 0 → t.cirq.ho = ho 2 0 ∧ t.on .CIRQ_HO_STAT_BUSY = true)) ∧
    (Completes (.hoFormat c fmt) s fun t => (r ≠ 0 → t.get .CIRQ_HO_STAT_RESULT = r) ∧ (r = 0 → wide → t.get .CIRQ_HO_STAT_RESULT = 2) ∧
      (r = 0 → ¬ wide → missing = true → t.get .CIRQ_HO_STAT_RESULT = 3) ∧
      (r = 0 → ¬ wide → missing = false → t.cirq.ho = ho 3 (b2n fmt) ∧ t.get .CIRQ_FMT_FMT (s.spare.getD 0) = b2n fmt)) ∧
    (s.on .CIRQ_HO_STAT_BUSY = false → c.val < 17 → Completes (.hoRetest c) s fun t =>
      (s.get .CIRQ_STATUS_ROLE c ≠ 4 → t.get .CIRQ_HO_STAT_RESULT = 4) ∧
      (s.get .CIRQ_STATUS_ROLE c = 4 → t.get .CIRQ_STATUS_ROLE c = 2 ∧ tabGet t.cirq.testOp c 0 = 4 ∧ t.on .CIRQ_HO_STAT_BUSY = true))) ∧
  (∀ (copies : List Mn) (s : State) (h : HoX), s.cirq.ho = some h → h.op ≠ 0 → h.src < 17 → h.dst < 17 → h.src ≠ h.dst → Completes (.plannedSwitch none copies) s fun t =>
    t.cirq.ho = none ∧ t.get .CIRQ_STATUS_ROLE h.dst = 0 ∧ (h.op = 1 → t.get .CIRQ_STATUS_ROLE h.src = 2) ∧ (h.op = 2 → t.get .CIRQ_STATUS_ROLE h.src = 3) ∧
    (h.op = 3 → t.get .CIRQ_STATUS_ROLE h.src = 1 ∧ t.on .CIRQ_HO_STAT_BUSY = false) ∧
    ∀ k < 32, t.rd .CIRQ_SLOT h.dst k = s.rd .CIRQ_SLOT h.src k ∧ t.rd .CIRQ_SLOT h.src k = 0) ∧
  (∀ (n : Mn) (copies : List Mn) (s : State) (m : MoveX), (s.cirq.moves.find? fun x => x.mn == n.val) = some m → s.holdsSlot n = true → m.cluster < 17 → m.slot < 32 →
    s.clusterOf n < 17 → s.on .CIRQ_SLOT_VALID m.cluster m.slot = false → s.on .CIRQ_SLOT_VALID (s.clusterOf n) (s.slotOf n) = true →
    s.get .CIRQ_STATUS_ROLE m.cluster = 0 → Completes (.plannedSwitch (some n) copies) s fun t => t.clusterOf n = m.cluster ∧ t.slotOf n = m.slot ∧
      t.on .CIRQ_SLOT_VALID m.cluster m.slot = true ∧ t.slotMn m.cluster m.slot = s.slotMn (s.clusterOf n) (s.slotOf n) ∧
      t.get .CIRQ_LSTAT_LS m.cluster m.slot = s.get .CIRQ_LSTAT_LS (s.clusterOf n) (s.slotOf n) ∧
      (∀ p, s.positionOf (portOf n) (dropOf n) = some p →
        t.get .CIRQ_SLOT_ARR_CYC m.cluster m.slot = s.arrCycles (portOf n) p % 2 ^ Fld.CIRQ_SLOT_ARR_CYC.width) ∧ t.rd .CIRQ_SLOT (s.clusterOf n) (s.slotOf n) = 0) ∧
  (∀ (n : Mn) (s : State), s.holdsSlot n = true → s.clusterOf n < 17 → Completes (.collisionMove n) s fun t =>
    let c := s.clusterOf n
    t.on .CIRQ_EVENT_COLLIDE c = true ∧ ∀ d k, (s.wr .CIRQ_SLOT c (s.slotOf n) 0).choose (portOf n) (s.get .CIRQ_SLOT_SUB c (s.slotOf n)) (s.arrivalOf n) = some d →
      d ≠ c → s.freeSlot d = some k → { mn := n, cluster := d, slot := k } ∈ t.cirq.moves)

/-- Coefficient banks and swaps: what CIRQ_COEF_CMD and CIRQ_LOOP_CMD move, the refusals, and the swap itself (R102, R103, R105, R106, R107, R108, R562, R565) -/
def Obligations.CoefficientBanks : Prop :=
  (∀ (mn : Mn) (l : LoopIx) (s : State), s.closed = false → s.on .CIRQ_COEF_CMD_BUSY = false → s.inHandover mn = false →
    let stopped := s.get .MECH_SPIN_STAT_SPIN_STATE mn = 0 ∨ s.get .MECH_SPIN_STAT_SPIN_STATE mn = 0xA
    (Completes (.coefStageToShadow mn l) s fun t =>
      (s.holdsSlot mn = false → t.get .CIRQ_COEF_CMD_ERR = 2) ∧
      (s.holdsSlot mn = true → coefErr l s.stage ≠ 0 → t.get .CIRQ_COEF_CMD_ERR = coefErr l s.stage ∧ t.servo = s.servo) ∧
      (s.holdsSlot mn = true → coefErr l s.stage = 0 → s.ls mn l = 2 → t.get .CIRQ_COEF_CMD_ERR = 4 ∧ t.servo = s.servo) ∧
      (s.holdsSlot mn = true → coefErr l s.stage = 0 → s.ls mn l ≠ 2 → t.get .CIRQ_COEF_CMD_ERR = 0 ∧
        (¬ (l.val = 7 ∧ stopped) → (t.lx mn l).shadow = s.stage ∧ (t.lx mn l).active = (s.lx mn l).active) ∧
        (l.val = 7 ∧ stopped → (t.lx mn l).active = s.stage ∧ (t.lx mn l).shadow = (s.lx mn l).active))) ∧
    (Completes (.coefShadowToStage mn l) s fun t => (s.holdsSlot mn = false → t.get .CIRQ_COEF_CMD_ERR = 2) ∧
      (s.holdsSlot mn = true → (s.lx mn l).shadow = [] → t.get .CIRQ_COEF_CMD_ERR = 7) ∧
      (s.holdsSlot mn = true → (s.lx mn l).shadow ≠ [] → t.get .CIRQ_COEF_CMD_ERR = 0 ∧
        ∀ i < 128, t.get .CIRQ_STAGE_DWORD i = dw (s.lx mn l).shadow i % 2 ^ 32)) ∧
    (s.holdsSlot mn = true → Completes (.coefActiveToStage mn l) s fun t => t.get .CIRQ_COEF_CMD_ERR = 0 ∧
      ∀ i < 128, t.get .CIRQ_STAGE_DWORD i = dw (s.lx mn l).active i % 2 ^ 32)) ∧
  (∀ (mn : Mn) (l : LoopIx) (s : State), s.closed = false → s.on .CIRQ_COEF_CMD_BUSY = false → s.inHandover mn = true →
    (∀ c ∈ [Instr.coefStageToShadow mn l, .coefShadowToStage mn l, .coefActiveToStage mn l], Completes c s fun t => t.on .CIRQ_COEF_CMD_BUSY = true ∧
      t.servo = s.servo ∧ ∃ w, t.cirq.coefWait = some w ∧ w.mn = mn.val ∧ w.loop = l.val) ∧
    Completes (.coefStageToShadow mn l) s fun t => ∃ w, t.cirq.coefWait = some w ∧ w.op = 1 ∧ w.words = s.stage) ∧
  (∀ (cls : Fin 8) (l : LoopIx) (fmt : Bool) (s : State), s.closed = false → s.on .CIRQ_COEF_CMD_BUSY = false →
    (Completes (.coefStageToLibrary cls l fmt) s fun t => (coefErr l s.stage ≠ 0 → t.get .CIRQ_COEF_CMD_ERR = coefErr l s.stage ∧ t.cirq = s.cirq) ∧
      (coefErr l s.stage = 0 → recFmt s.stage ≠ b2n fmt → t.get .CIRQ_COEF_CMD_ERR = 6 ∧ t.cirq = s.cirq) ∧
      (coefErr l s.stage = 0 → recFmt s.stage = b2n fmt → t.get .CIRQ_COEF_CMD_ERR = 0 ∧ t.libRec cls l (b2n fmt) = s.stage)) ∧
    (Completes (.coefLibraryToStage cls l fmt) s fun t => t.get .CIRQ_COEF_CMD_ERR = 0 ∧
      ∀ i < 128, t.get .CIRQ_STAGE_DWORD i = dw (s.libRec cls l (b2n fmt)) i % 2 ^ 32)) ∧
  (∀ (mn : Mn) (mask : Fin 256) (s : State), s.closed = false →
    (Completes (.swapFromShadow mn mask) s fun t => (s.swapErr mn mask 1 ≠ 0 → t.get .CIRQ_LOOP_STAT_ERR = s.swapErr mn mask 1 ∧ t.servo = s.servo) ∧
      (s.swapErr mn mask 1 = 0 → mask.val ≠ 0 → t.get .CIRQ_LOOP_STAT_ERR = 0 ∧ t.on .CIRQ_LOOP_STAT_BUSY = true ∧ (t.sx mn).swap = some { mask := mask, src := 1 })) ∧
    (Completes (.swapFromLibrary mn mask) s fun t => (s.swapErr mn mask 2 ≠ 0 → t.get .CIRQ_LOOP_STAT_ERR = s.swapErr mn mask 2 ∧ t.servo = s.servo) ∧
      (s.swapErr mn mask 2 = 0 → mask.val ≠ 0 → t.get .CIRQ_LOOP_STAT_ERR = 0 ∧ t.on .CIRQ_LOOP_STAT_BUSY = true ∧ (t.sx mn).swap = some { mask := mask, src := 2 })) ∧
    (Completes (.swapAbort mn) s fun t => (s.holdsSlot mn = false → t.get .CIRQ_LOOP_STAT_ERR = 2) ∧
      (s.holdsSlot mn = true → (s.sx mn).swap = none → t.get .CIRQ_LOOP_STAT_ERR = 4) ∧
      (∀ w, s.holdsSlot mn = true → (s.sx mn).swap = some w →
        (w.entered = false → t.get .CIRQ_LOOP_STAT_ERR = 4 ∧ (t.sx mn).swap = some w) ∧
        (w.entered = true → t.get .CIRQ_LOOP_STAT_ERR = 0 ∧ (t.sx mn).swap = some { w with abort := true })))) ∧
  (∀ (mn : Mn) (s : State) (w : SwapX), (s.sx mn).swap = some w → w.entered = true → s.clusterOf mn < 17 →
    (w.abort = false → w.periods < s.get .CIRQ_GCFG_HOLD_MAX → Completes (.swapExecute mn) s fun t => (t.sx mn).swap = none ∧ t.on .CIRQ_EVENT_SWAP_DONE (s.clusterOf mn) = true ∧ ∀ l < 7,
      (bitAt w.mask l = 1 → t.ls mn l = 3 ∧ (t.lx mn l).active = s.swapRec mn l w.src ∧ (t.lx mn l).shadow = (s.lx mn l).active ∧ (t.lx mn l).hist = [] ∧
        (t.lx mn l).blendH = (s.lx mn l).q) ∧
      (bitAt w.mask l = 0 → t.ls mn l = s.ls mn l ∧ t.lx mn l = s.lx mn l)) ∧
    (s.get .CIRQ_GCFG_HOLD_MAX ≤ w.periods → Completes (.swapHoldTimeout mn) s fun t => (t.sx mn).swap = none ∧
      t.on .CIRQ_EVENT_SWAP_ABANDON (s.clusterOf mn) = true ∧ ∀ l < 7,
      t.lx mn l = s.lx mn l ∧ t.ls mn l = (if bitAt w.mask l = 1 ∧ s.ls mn l = 2 then 1 else s.ls mn l)))

/-- Servo samples, the injection generator and the capture engine of a slot (R95, R99, R100, R109, R116, R156, R157, R158, R159) -/
def Obligations.ServoSamples : Prop :=
  (∀ (mn : Mn) (x : UpSlot) (s : State), Completes (.slotSample mn x) s fun t =>
    (s.holdsSlot mn = true → s.computes mn = false → s.leftOut mn = false → s.clusterOf mn < 17 → ∀ l < 7, t.lx mn l = s.lx mn l ∧ t.ls mn l = s.ls mn l) ∧
    (s.samplesNow mn = false → t = s) ∧
    (s.samplesNow mn = true → s.leftOut mn = true →
      let k := s.get .PEN_DROP_MISS_RUN (portOf mn) (dropOf mn) + 1
      (k < s.get .PEN_GCFG_MISS_LIMIT → t.get .PEN_DROP_MISS_RUN (portOf mn) (dropOf mn) = min k 15) ∧
      (s.get .PEN_GCFG_MISS_LIMIT ≤ k → s.mst mn ∉ [0, 8, 9] → FaultTaken mn 0x70 t)) ∧
    (s.samplesNow mn = true → s.computes mn = true → t.holdsSlot mn = true →
      ∃ u : State, .actuator mn (u.actDwords mn false false (t.dx mn).drive) ∈ t.out)) ∧
  (∀ (l : Nat) (x : LoopX) (st : Nat) (u p g : Int), recOutMin x.active ≤ recOutMax x.active →
    let o := loopSample l x st u p g
    recOutMin x.active ≤ o.o3 ∧ o.o3 ≤ recOutMax x.active ∧ o.loop.last = o.o3 ∧ o.loop.active = x.active ∧
    (recSlew x.active ≠ 0 → x.q - recSlew x.active ≤ o.loop.q ∧ o.loop.q ≤ x.q + recSlew x.active)) ∧
  (∀ (c : ClusterIx) (mn : Mn) (l : LoopIx) (hold : Fin 16) (type : Fin 4) (s : State), s.closed = false → Completes (.injStart c mn l hold type) s fun t =>
    t.get .CIRQ_INJ_CTRL_MN c = mn.val ∧ t.get .CIRQ_INJ_CTRL_LOOP c = l.val ∧
    (s.injErr c mn l type ≠ 0 → t.get .CIRQ_INJ_STAT_ERR c = s.injErr c mn l type ∧ t.get .CIRQ_INJ_STAT_END c = 6 ∧ t.cirq.inj = s.cirq.inj) ∧
    (s.injErr c mn l type = 0 → t.on .CIRQ_INJ_STAT_ACTIVE c = true ∧ t.get .CIRQ_INJ_STAT_ERR c = 0 ∧
      tabGet t.cirq.inj c none = some { delta := s.get .CIRQ_INJ_F0_DPHI c })) ∧
  (∀ (c : ClusterIx) (s : State), s.closed = false → (tabGet s.cirq.inj c none).isSome = true → Completes (.injStop c) s fun t =>
    tabGet t.cirq.inj c none = none ∧ t.on .CIRQ_INJ_STAT_ACTIVE c = false ∧ t.get .CIRQ_INJ_STAT_END c = 2) ∧
  (∀ (c : ClusterIx) (mn : Mn) (dec : Fin 16) (trig : Fin 4) (s : State), s.closed = false → Completes (.capArm c mn dec trig) s fun t =>
    let e := s.capErr c mn dec trig
    let free := (s.set .CIRQ_CAP_STAT_BUF c 0x1F).freeBuffer
    (e ≠ 0 → t.get .CIRQ_CAP_STAT_ERR c = e ∧ t.cirq.cap = s.cirq.cap) ∧ (e = 0 → free = none → t.get .CIRQ_CAP_STAT_ERR c = 2) ∧
    (∀ b, e = 0 → free = some b → t.on .CIRQ_CAP_STAT_ARMED c = true ∧ t.get .CIRQ_CAP_STAT_ERR c = 0 ∧ t.get .CIRQ_CAP_STAT_BUF c = b ∧
      t.get .CIRQ_CAP_STAT_COUNT c = 0 ∧ (t.cap c).armed = true ∧ (t.cap c).mn = mn.val ∧ (t.cap c).points = [])) ∧
  (∀ (c : ClusterIx) (s : State), s.closed = false → (s.cap c).armed = true → Completes (.capStop c) s fun t =>
    (t.cap c).armed = false ∧ t.on .CIRQ_CAP_STAT_ARMED c = false ∧ t.on .CIRQ_CAP_STAT_DONE c = true ∧ (t.cap c).points = (s.cap c).points)

/-- Pull-in, layer step and track-on limits, layer jumps, track jumps and long seeks (R131, R133, R134, R136, R138, R140, R141, R182) -/
def Obligations.AcquisitionCommands : Prop :=
  (∀ (mn : Mn) (s : State), s.holdsSlot mn = true → s.clusterOf mn < 17 →
    let q := (s.sx mn).seq
    (1 ≤ q.step → q.step ≤ 3 → q.returning = false → q.jumpSign = 0 →
      q.attemptAt + ms (focAttemptMs (s.sx mn).sq) ≤ s.now + ms (sweepMs (s.sx mn).sq) / 4 → Completes (.pullInAttemptTimeout mn) s fun t =>
      (t.sx mn).seq.step = 2 ∧ (t.sx mn).seq.returning = true ∧ (t.sx mn).seq.attempts = q.attempts + 1 ∧ ∀ l < 6, t.ls mn l = 0) ∧
    (focAttempts (s.sx mn).sq ≤ q.attempts → s.mst mn ∉ [0, 8, 9] → FaultTaken mn (if q.afterJump then 0x62 else 0x60) (s.attemptReturned mn)) ∧
    (q.attempts < focAttempts (s.sx mn).sq → ((s.attemptReturned mn).sx mn).seq.step = 1 ∧ ((s.attemptReturned mn).sx mn).seq.attemptAt = s.now ∧
      ((s.attemptReturned mn).sx mn).seq.attempts = q.attempts) ∧
    (3 ≤ q.step → q.step ≤ 5 → q.jumpSign ≠ 0 → s.on .MECH_STATE_SAFE_HOLD mn = false →
      q.attemptAt + ms (ljMs (s.sx mn).sq) ≤ s.now → Completes (.layerStepTimeout mn) s fun t =>
      (t.sx mn).seq.step = 1 ∧ (t.sx mn).seq.target = q.target ∧ (t.sx mn).seq.afterJump = true ∧ (t.sx mn).seq.jumpSign = 0 ∧ t.ls mn 0 = 0) ∧
    (q.step = 6 → s.mst mn ∉ [0, 8, 9] → q.attemptAt + ms (trkOnMs (s.sx mn).sq) ≤ s.now → Completes (.trackOnTimeout mn) s (FaultTaken mn 0x61))) ∧
  (∀ (mn : Mn) (layer : Fin 10) (s : State), s.mst mn = 5 ∨ s.mst mn = 6 ∨ s.mst mn = 7 → s.on .MECH_STATE_BUSY mn = false → s.ls mn 0 ≠ 0 →
    s.on .MECH_STATE_SAFE_HOLD mn = false → layer.val ≠ (s.sx mn).layer → layer.val < s.layersOf mn → Completes (.layerJump mn layer) s fun t =>
      t.mst mn = 4 ∧ t.on .MECH_STATE_BUSY mn = true ∧ t.get .MECH_STATE_TARGET mn = 5 ∧ (t.sx mn).seq = { step := 12, target := layer }) ∧
  (∀ (mn : Mn) (m : Int) (s : State), s.onTrack mn = true → (s.takeSeq mn).jumpOk mn m = true → s.clusterOf mn < 17 → Completes (.trackJump mn m) s fun t =>
    (t.sx mn).seq.step = 7 ∧ (t.sx mn).seq.jumpTracks = m ∧ (t.sx mn).seq.jumpCount = 0 ∧ t.ls mn 1 = 0) ∧
  (∀ (mn : Mn) (m : Int) (cmd : Option (FnIx × Nat)) (s : State), s.onTrack mn = true → s.on .MECH_SLED_STAT_POS_VALID mn = true →
    (s.grants mn).seek.isSome = true → jumpMax (s.sx mn).sq < m.natAbs → s.clusterOf mn < 17 → Completes (.longSeek mn m cmd) s fun t =>
    let q := (s.sx mn).seq
    let again := q.step = 6 ∨ (q.check = true ∧ q.cmd = cmd.map fun x => (x.1.val, x.2))
    let u := if again then s else s.takeSeq mn
    let k := (if again then q.seekRounds else 0) + 1
    (u.beyondLimit mn (u.seekTarget mn m) = true →
      ((∀ q ∈ s.breath.reqs, q.cls = 1 ∨ q.who ≠ mn.val) → (t.grants mn).seek = none) ∧
      ∀ fn tag c, cmd = some (fn, tag) → s.ctx fn tag = some c → Ended fn tag 0x040A t) ∧
    (u.beyondLimit mn (u.seekTarget mn m) = false → seekRounds (u.sx mn).sq < k → s.mst mn ∉ [0, 8, 9] → FaultTaken mn 0x61 t) ∧
    (u.beyondLimit mn (u.seekTarget mn m) = false → k ≤ seekRounds (u.sx mn).sq → (t.sx mn).seq.step = 8 ∧ (t.sx mn).seq.seekRounds = k ∧
      (t.sx mn).sled.seekTgt = some (u.seekTarget mn m) ∧ t.ls mn 1 = 0))

/-- Addresses read from the disc, profile alignment and profile learning (R138, R141, R148, R151, R152, R154, R172, R183, R231) -/
def Obligations.AddressesAndProfiles : Prop :=
  (∀ (mn : Mn) (b : BeamIx) (a : DiscAddr) (theta : Option Word) (residual : Option Int) (s : State), s.holdsSlot mn = true → s.clusterOf mn < 17 →
    let v := s.sx mn
    let checking := v.seq.step = 6 ∧ v.seq.sub = 6
    let later := v.seq.step = 0 ∧ v.seq.check = true ∧ (s.laneOf mn).isSome = true
    let th := s.get .CIRQ_ANGLE_THETA (s.clusterOf mn) (s.slotOf mn)
    (v.addrDone = true → ¬ checking → ¬ later → Completes (.addressRead mn b a theta residual) s fun t =>
      (∀ r, (s.addressPlace mn b a).1 = some r → t.on .MECH_SLED_STAT_POS_VALID mn = true ∧
        t.get .MECH_SLED_POS_POS mn = (2 * r + max 1 (microstepNm v.sq)) / (2 * max 1 (microstepNm v.sq)) % 2 ^ 32) ∧
      (∀ w, theta = some w → isBd (s.get .MECH_DISC_MEDIA mn) = false →
        let e := signed 32 ((w.toNat + 2 ^ 32 - th) % 2 ^ 32)
        t.get .CIRQ_ANGLE_THETA (s.clusterOf mn) (s.slotOf mn) = (if e.natAbs ≤ 2 ^ 22 then unsignedOf 32 (th + e / 8) else w.toNat))) ∧
    (v.addrDone = true → checking → v.seq.check = false → addrLayer a = v.layer → residual = none ∨ residual = some 0 →
      Completes (.addressRead mn b a theta residual) s fun t => (t.mst mn = 6 ∨ t.mst mn = 7) ∧ ((s.laneOf mn).isSome = true → t.mst mn = 7) ∧
      (t.sx mn).seq.step = 0) ∧
    (v.addrDone = true → later → addrLayer a = v.layer → residual = none ∨ residual = some 0 → Completes (.addressRead mn b a theta residual) s fun t =>
      (t.sx mn).seq.check = false ∧ (t.sx mn).seq.seekRounds = 0 ∧ t.mst mn = s.mst mn) ∧
    (v.addrDone = true → checking ∨ later → addrLayer a ≠ v.layer → Completes (.addressRead mn b a theta residual) s fun t =>
      (t.sx mn).seq.step = 6 ∧ (t.sx mn).seq.attemptAt = (if v.seq.check = true then s.now else v.seq.attemptAt) ∧ t.ls mn 1 = 0) ∧
    (∀ a0 p0, v.addrDone = false → v.addr = some (a0, p0) → sameKind a0 a = true → s.now < v.addrAt + 240000000000 / max 1 (s.get .MECH_SPEED_MEAS mn) →
      (s.addressPlace mn b a).2 < p0 → s.mst mn ∉ [0, 8, 9] → Completes (.addressRead mn b a theta residual) s (FaultTaken mn 0x14))) ∧
  (∀ (mn : Mn) (s : State), s.holdsSlot mn = true → s.clusterOf mn < 17 → (s.sx mn).seq.step = 9 → (s.sx mn).seq.sub = 0 →
    2 ^ 31 ≤ (s.sx mn).prof.capAngle → Completes (.profileAlign mn) s fun t =>
    let v := s.sx mn
    let best := bestShift v.prof.capture v.prof.sf ((s.candidates mn).map (s.shiftOf mn))
    (best.any (fun b => reaches b.2 (profMatch v.sq)) = false → t.on .MECH_DISC_PROFILE_VALID mn = false ∧ (t.sx mn).prof.learning = true ∧ (t.sx mn).seq.step = 6) ∧
    (∀ d c, best = some (d, c) → reaches c (profMatch v.sq) = true →
      let th := (s.get .CIRQ_ANGLE_THETA (s.clusterOf mn) (s.slotOf mn) + d) % 2 ^ 32
      (t.sx mn).prof.aligned = true ∧ (t.sx mn).prof.rampAt = some s.now ∧ (t.sx mn).seq.sub = 1 ∧
      t.get .CIRQ_ANGLE_THETA (s.clusterOf mn) (s.slotOf mn) = th ∧ (t.profRec mn v.layer).rotorOfs = (th + 2 ^ 32 - s.rotorAngle mn) % 2 ^ 32)) ∧
  (∀ (mn : Mn) (s : State), s.holdsSlot mn = true → (s.sx mn).prof.learning = true → 16 ≤ (s.sx mn).prof.revs → Completes (.profileLearnDone mn) s fun t =>
    let p := (t.sx mn).prof
    p.learning = false ∧ p.aligned = true ∧ p.pscale = 256 ∧ t.on .MECH_DISC_PROFILE_VALID mn = true ∧
    (t.profRec mn (s.sx mn).layer).revs = (s.sx mn).prof.revs ∧
    ∀ i < 1024, ∀ (f tr : Int) (k : Nat), tabGet (s.sx mn).prof.bins i (0, 0, 0) = (f, tr, k) → k ≠ 0 →
      p.sf.getD i 0 = sat16 ((2 * f + k) / (2 * k)) ∧ p.st.getD i 0 = sat16 ((2 * tr + k) / (2 * k)))

/-- The spindle start, step by step, and how it fails (R72, R166, R167, R168, R169, R170, R171, R178) -/
def Obligations.SpindleStarts : Prop :=
  (∀ (mn : Mn) (s : State), s.holdsSlot mn = true → (s.sx mn).first = true → (s.grants mn).spinup.isSome = true → (s.sx mn).spin.startAt = none →
    Completes (.spinStart mn) s fun t => t.spinState mn = (if s.asEx1 mn = true then 0xB else 1) ∧ t.get .MECH_SPIN_STAT_TRIES mn = 0 ∧
      (t.sx mn).spin.startAt = some s.now) ∧
  (∀ (mn : Mn) (s : State), s.spinState mn = 1 → s.holdsSlot mn = true → s.clusterOf mn < 17 → (s.sx mn).spin.stateAt + ms (senseMs (s.sx mn).dr) ≤ s.now →
    (s.sx mn).spin.sense.from_.isSome = true → Completes (.senseDone mn) s fun t =>
    let z := (s.sx mn).spin.sense
    let rate := senseRate z
    let rpm := z.mag / max 1 (keOf (s.lx mn 7).active)
    let rested := ∃ d, (s.mx mn).driveStop = some d ∧ d + ms (coastMs (s.sx mn).dr) ≤ s.now
    t.on .MECH_SPIN_STAT_REVERSE mn = decide (rate < 0) ∧ t.on .MECH_STATE_TURNING mn = decide (300 ≤ rpm) ∧
    (300 ≤ rpm → 0 ≤ rate → t.spinState mn = 2 ∧ t.ls mn 7 = 1 ∧ (t.sx mn).spin.omega = rate ∧ (t.sx mn).spin.theta = (z.angle + 3 * 2 ^ 30) % 2 ^ 32) ∧
    (300 ≤ rpm → rate < 0 → t.spinState mn = 9) ∧
    (rpm < 300 → (rested → t.spinState mn = 4 ∧ t.ls mn 7 = 1) ∧ (¬ rested → t.spinState mn = 3))) ∧
  (∀ (mn : Mn) (s : State), s.starting mn = true → s.spinState mn = 9 → (s.sx mn).spin.stateAt + ms 16 ≤ s.now → Completes (.reverseShortDone mn) s fun t => t.spinState mn = 1) ∧
  (∀ (mn : Mn) (s : State), s.spinState mn = 0xB → s.holdsSlot mn = true → ((s.mx mn).driveStop).getD (s.mx mn).attachedAt + ms (coastMs (s.sx mn).dr) ≤ s.now →
    Completes (.coastWaitDone mn) s fun t => t.spinState mn = 3 ∧ t.on .MECH_STATE_TURNING mn = false ∧ (t.sx mn).spin.startAt = some s.now) ∧
  (∀ (mn : Mn) (s : State), s.holdsSlot mn = true → s.clusterOf mn < 17 →
    (s.spinState mn = 2 → 8 ≤ (s.sx mn).spin.count → Completes (.catchDone mn) s fun t => t.spinState mn = 7 ∧ t.ls mn 6 = 3 ∧ t.ls mn 7 = 1 ∧
      (t.sx mn).spin.ref = s.get .MECH_SPEED_MEAS mn * 16384 ∧ 4 ≤ t.mst mn ∧ t.mst mn ≤ 7) ∧
    (s.spinState mn = 3 → (s.sx mn).spin.stateAt + ms (restMs (s.sx mn).dr) ≤ s.now → Completes (.restDone mn) s fun t => t.spinState mn = 4 ∧ t.ls mn 7 = 1) ∧
    (s.spinState mn = 4 → (s.sx mn).spin.stateAt + ms (alignMs (s.sx mn).dr) ≤ s.now → Completes (.alignDone mn) s fun t => t.spinState mn = 5 ∧ (t.sx mn).spin.forcedSpeed = 0) ∧
    (s.spinState mn = 5 → (s.sx mn).spin.obsTest = false →
      elecOf (s.lx mn 7).active ((olRpm (s.sx mn).dr : Int) * 65536) ≤ (s.sx mn).spin.forcedSpeed → Completes (.observerHandover mn) s fun t => (t.sx mn).spin.obsTest = true ∧ t.spinState mn = 5) ∧
    (s.spinState mn = 5 → (s.sx mn).spin.obsTest = true → (s.sx mn).spin.obsAt + ms 200 ≤ s.now → Completes (.observerTimeout mn) s fun t =>
      let k := if (s.sx mn).spin.reached = true then 0 else s.get .MECH_SPIN_STAT_TRIES mn + 1
      (startTries (s.sx mn).dr ≤ k → s.mst mn ∉ [0, 8, 9] → FaultTaken mn 0x60 t) ∧
      (k < startTries (s.sx mn).dr → t.holdsSlot mn = true → (t.mx mn).stopIssued = false →
        t.spinState mn = (if s.asEx1 mn = true then 0xB else 1) ∧ t.get .MECH_SPIN_STAT_TRIES mn = k % 16))) ∧
  (∀ (mn : Mn) (s : State), s.starting mn = true → s.spinState mn ≠ 0xB → ms (spinupMs (s.sx mn).dr) ≤ (s.sx mn).spin.spinupNs → s.mst mn ∉ [0, 8, 9] →
    Completes (.spinupTimeout mn) s fun t => FaultTaken mn 0x60 t ∧ t.get .MECH_FAULT_DETAIL mn = 0xF) ∧
  (∀ (mn : Mn) (s : State), s.spinState mn = 6 → s.holdsSlot mn = true → 16 ≤ (s.sx mn).spin.count → Completes (.speedReached mn) s fun t => (t.sx mn).spin.reached = true ∧
    ((∀ q ∈ s.breath.reqs, q.cls = 1 ∨ q.who ≠ mn.val) → (t.grants mn).spinup = none) ∧
    (s.mst mn = 4 → (s.sx mn).seq.step = 0 → s.ls mn 0 = 0 → s.on .MECH_STATE_BUSY mn = true → s.get .MECH_STATE_TARGET mn = 6 →
      s.on .MECH_STATE_SAFE_HOLD mn = false → (t.sx mn).seq.step = 1))

/-- Planned speeds and the normal spin-down (R43, R44, R45, R173, R174, R176, R177, R178, R311) -/
def Obligations.SpindleSpeedsAndStops : Prop :=
  (∀ (mn : Mn) (s : State), s.holdsSlot mn = true → Completes (.speedPlan mn) s fun t =>
    let r := s.driveRec (s.clsOf mn)
    let u := (s.modServo mn fun v => { v with drPlan := r }).noteBacklog mn
    let full := u.hereSpeed mn
    let goal := (t.sx mn).spin.goal
    t.get .MECH_SPEED_TARGET mn = min (s.get .MECH_SPEED_TARGET mn) (4 * min full (min (u.speedG mn) (rpmMax r))) ∧
    (s.get .MECH_SPIN_CTRL_TARGET_OVR mn ≠ 0 → goal = max (4 * rpmMin r) (min (s.get .MECH_SPIN_CTRL_TARGET_OVR mn) (4 * min full (rpmMax r)))) ∧
    (s.get .MECH_SPIN_CTRL_TARGET_OVR mn = 0 → u.fullPlan mn = true → goal = max (4 * rpmMin r) (4 * min full (rpmMax r))) ∧
    (s.get .MECH_SPIN_CTRL_TARGET_OVR mn = 0 → u.fullPlan mn = false → goal = max (4 * rpmMin r)
      (min (4 * (full * min (u.drainNow mn * (256 + marginOf r) / 256) (u.hostShare mn) / max 1 (u.fullRate mn full))) (4 * min full (rpmMax r))))) ∧
  (∀ (mn : Mn) (t0 : Nat) (s : State), s.holdsSlot mn = true →
    let goal := (s.sx mn).spin.goal
    let tgt := s.get .MECH_SPEED_TARGET mn
    let a := s.reqAmount 5 mn 0 goal
    goal ≠ 0 → (s.sx mn).spin.goalAt = some t0 → t0 + ms (dwellMs (s.planRec mn)) ≤ s.now →
    tgt * hystOf (s.planRec mn) < ((goal : Int) - tgt).natAbs * 256 → Completes (.targetDwell mn) s fun t =>
      (goal < tgt → t.get .MECH_SPEED_TARGET mn = goal) ∧
      (tgt < goal → (∀ q ∈ s.breath.reqs, q.dom ≠ s.domOf mn ∧ ¬ (q.cls = 5 ∧ q.who = mn.val)) →
        s.grantNow { cls := 5, who := mn, dom := s.domOf mn, mw := a.1, spinPart := a.2, rpm4 := goal, at_ := s.now } = true →
        t.get .MECH_SPEED_TARGET mn = goal % 2 ^ 16 ∧ (t.grants mn).spin = some (s.pSpin (s.clsOf mn) goal))) ∧
  (∀ (mn : Mn) (s : State), s.idleReady mn = true → s.get .MECH_IDLE_IDLE_SPIN_MS mn ≠ 0 →
    (s.mx mn).idleSince + ms (s.get .MECH_IDLE_IDLE_SPIN_MS mn) ≤ s.now → (s.mx mn).spinDown = false →
    s.neverFits (s.mechRequest 2 mn 0 0 none) = false → Completes (.idleSpinDown mn) s fun t =>
      t.on .MECH_STATE_BUSY mn = true ∧ t.get .MECH_STATE_TARGET mn = 2 ∧ (t.mx mn).spinDown = true) ∧
  (∀ (mn : Mn) (s : State) (v : Nat), (s.mx mn).waitSlot.isSome = true → s.get .MECH_RECLAIM_RECLAIM_MS ≠ 0 →
    (s.freePosition (portOf mn) = none ∨ 512 ≤ s.slotsUsed) → s.reclaimVictim mn = some v → v < 4096 →
    (s.mx v).idleSince + ms (s.get .MECH_RECLAIM_RECLAIM_MS) ≤ s.now → (s.mx v).spinDown = false → s.neverFits (s.mechRequest 2 v 0 0 none) = false →
    Completes (.slotReclaim mn) s fun t => t.on .MECH_STATE_BUSY v = true ∧ t.get .MECH_STATE_TARGET v = 2 ∧ (t.mx v).spinDown = true) ∧
  (∀ (mn : Mn) (s : State), (s.mx mn).spinDown = true → (s.mx mn).stopIssued = false → (s.grants mn).seek.isSome = true → (s.sx mn).sled.seekTgt = none →
    s.clusterOf mn < 17 → Completes (.spinDown mn) s fun t => (t.sx mn).sled.seekTgt = some (parkPos (s.driveRec (s.clsOf mn))) ∧ (t.sx mn).seq.step = 8 ∧
      t.ls mn 1 = 0 ∧ t.ls mn 2 = 0 ∧ t.ls mn 5 ≠ 0) ∧
  (∀ (mn : Mn) (s : State), s.spinState mn = 9 → s.starting mn = false → (s.mx mn).shortUntil ≤ s.now → Completes (.shortBrakeDone mn) s fun t =>
    t.spinState mn = 0 ∧ t.on .MECH_STATE_TURNING mn = false ∧ ((s.mx mn).spinDown = true → s.holdsSlot mn = true → s.get .MECH_STATE_TARGET mn = 2 →
      t.mst mn = s.restState mn ∧ t.on .MECH_STATE_BUSY mn = false ∧ t.holdsSlot mn = false ∧ (t.mx mn).spinDown = false)) ∧
  (∀ (mn : Mn) (s : State), s.holdsSlot mn = false →
    ((s.mx mn).driveStop).getD (s.mx mn).attachedAt + ms (coastMs (s.driveRec (s.clsOf mn))) ≤ s.now → Completes (.coastDownElapsed mn) s fun t => t.on .MECH_STATE_TURNING mn = false)

/-- Sled tables, tray and clamp moves, freed servo positions and MECH_CTRL (R37, R38, R39, R46, R47, R50, R179, R184, R185, R186, R187, R564) -/
def Obligations.SledTrayAndControl : Prop :=
  (∀ (mn : Mn) (t0 : Nat) (s : State), s.holdsSlot mn = true → (s.sx mn).sled.restAt = some t0 → t0 + ms (holdDelayMs (s.sx mn).drSled) ≤ s.now → s.on .MECH_SLED_STAT_MOVING mn = false →
    Completes (.sledHoldCurrent mn) s fun t => t.on .MECH_SLED_STAT_HOLDING mn = true) ∧
  (∀ (cls : Fin 8) (s : State), s.closed = false →
    (Completes (.sledTblStageToTable cls) s fun t => t.sledTable cls = s.sledStage ∧ t.get .MECH_SLED_TBL_CTRL_ERR = 0 ∧
      ∀ n ∈ s.servo.map (·.1), s.holdsSlot n = true → s.clsOf n = cls.val → (t.sx n).sled.tableNew = s.sledStage) ∧
    (Completes (.sledTblTableToStage cls) s fun t => t.get .MECH_SLED_TBL_CTRL_ERR = 0 ∧ ∀ i < 256, t.rd .MECH_SLED_TBL_STAGE i = BitVec.ofNat 32 (dw (s.sledTable cls) i)) ∧
    (Completes (.sledTblDefaultToStage cls) s fun t => t.get .MECH_SLED_TBL_CTRL_ERR = 0 ∧ ∀ i < 256, t.rd .MECH_SLED_TBL_STAGE i = BitVec.ofNat 32 (dw sledDefault i))) ∧
  (∀ (mn : Mn) (s : State), (s.mx mn).waitTray.isSome = true → (s.mx mn).tray = none → (s.grants mn).seek.isSome = true →
    (s.positionOf (portOf mn) (dropOf mn)).isSome = true → s.on .MECH_STATE_TURNING mn = false → Completes (.trayMoveStart mn) s fun t =>
      (t.mx mn).waitTray = none ∧ ∃ x, (t.mx mn).tray = some x ∧ x.kind = s.trayKind mn ∧ x.start = s.now ∧ x.dr = s.driveRec (s.clsOf mn)) ∧
  (∀ (mn : Mn) (s : State) (x : TrayX) (a : Nat), (s.mx mn).tray = some x → x.since = some a → a + ms (debounceMs x.dr) ≤ s.now →
    Completes (.traySwitchReached mn) s fun t =>
    (x.kind = 1 → (s.mx mn).disc = false → t.mst mn = 1 ∧ t.on .MECH_STATE_BUSY mn = false ∧
      ∀ c ∈ s.cmdsOf mn, c.d.opcode = 7 → c.started = true → Ended c.fn c.d.tag 0x0404 t) ∧
    (x.kind = 2 → t.mst mn = 1 ∧ t.on .MECH_STATE_BUSY mn = false ∧ ∀ c ∈ s.cmdsOf mn, c.d.opcode = 8 → c.started = true → Ended c.fn c.d.tag 0 t) ∧
    (x.kind = 3 → (t.mx mn).clamped = true ∧ t.mst mn = 3 ∧
      t.get .MECH_CLAMP_CNT_CLAMPS mn = (s.get .MECH_CLAMP_CNT_CLAMPS mn + 1) % 2 ^ Fld.MECH_CLAMP_CNT_CLAMPS.width ∧
      ∀ c ∈ s.cmdsOf mn, c.d.opcode = 7 → c.started = true → Ended c.fn c.d.tag 0 t) ∧
    ((x.kind = 1 ∧ (s.mx mn).disc = true) ∨ x.kind = 4 → s.neverFits (s.mechRequest 2 mn 0 0 none) = false → (t.mx mn).waitTray = some s.now) ∧
    (x.kind = 4 → (t.mx mn).clamped = false ∧ t.rd .MECH_DISC mn = 0)) ∧
  (∀ (mn : Mn) (s : State), s.mst mn ∉ [0, 8, 9] → s.trayOverdue mn = true → Completes (.trayTimeout mn) s (FaultTaken mn 0x39)) ∧
  (∀ (p : PortIx) (s : State) (w : Nat × Nat × Bool) (l : List (Nat × Nat × Bool)), s.waiters p = w :: l → Completes (.servoPositionGrant p) s fun t =>
    (∀ k, w.2.2 = true → s.freePosition p = some k → t.on .PEN_DROP_SERVO p (dropOf w.2.1) = true) ∧
    (∀ u, w.2.2 = false → s.slotClaimed w.2.1 (some w.1) = false → s.grabSlot w.2.1 = some u → u.neverFits (u.mechRequest 4 w.2.1 0 0 none) = false → t.holdsSlot w.2.1 = true)) ∧
  (∀ (mn : Mn) (s : State), s.closed = false → s.mst mn ∉ [0, 8, 9] → Completes (.forceSafe mn) s (FaultTaken mn 0x90)) ∧
  (∀ (mn : Mn) (s : State), s.closed = false → s.mst mn = 8 → Completes (.clrFault mn) s fun t => t.mst mn = s.restState mn ∧ t.on .MECH_STATE_BUSY mn = false) ∧
  (∀ (mn : Mn) (pass clamped : Bool) (s : State), s.closed = false → s.mst mn = 9 → Completes (.unisolate mn pass clamped) s fun t =>
    (pass = true → t.mst mn = (if clamped then 3 else 1) ∧ tabGet t.isol mn none = none ∧ (t.mx mn).clamped = clamped) ∧
    (pass = false → t.mst mn = 9 ∧ t.get .MECH_FAULT_CODE mn = 0x80))

/-- Port training: enable, disable, retrain, each step and its time limit, and what identification leaves (R37, R38, R50, R59, R60, R61, R62, R63, R78, R81, R82, R88) -/
def Obligations.PortTraining : Prop :=
  (∀ (p : PortIx) (s : State), LinkFree s p →
    let detect := fun t : State => t.pstate p = 1 ∧ t.on .PEN_STATUS_LOCK p = false ∧ ∀ d < 64, t.on .PEN_DROP_PRESENT p d = false
    (s.closed = false → s.pstate p = 0 → (s.px p).want = .none → Completes (.portEnable p) s fun t => detect t ∧ t.on .PEN_CFG_EN p = true) ∧
    (s.closed = false → s.on .PEN_CFG_EN p = true → Completes (.retrain p) s detect) ∧
    (s.pstate p = 0xA → s.on .PEN_CFG_EN p = true → s.get .DRN_PSTAT_STATE = 1 →
      (s.px p).stepAt + ms (s.get .PEN_GCFG_RETRY_MS) ≤ s.now → Completes (.trainRetry p) s detect) ∧
    (∀ t0, s.portUp p = true → (s.px p).lostAt = some t0 → t0 + ms (s.get .PEN_GCFG_LOCK_TO_MS) ≤ s.now → (mnsOf p).any s.rebooting = false → Completes (.lockTimeout p) s detect) ∧
    (s.pstate p = 9 → s.stepLate p = true → Completes (.portWakeTimeout p) s detect)) ∧
  (∀ (p : PortIx) (s : State), s.closed = false → Completes (.portDisable p) s fun t =>
    t.pstate p = 0 ∧ t.on .PEN_CFG_EN p = false ∧ t.on .PEN_STATUS_LOCK p = false ∧ tabGet t.breath.link p none = none ∧ ∀ n ∈ mnsOf p, t.mst n = 0) ∧
  (∀ (p : PortIx) (s : State), LinkQuiet s p → s.stepLate p = false →
    (∀ u0 u1 d0 d1 : Fin 16, s.pstate p = 1 → Completes (.trainStepDone p (.detect u0 u1 d0 d1)) s fun t =>
      ((u0.val = 0 ∨ u1.val = 0) ∧ (d0.val = 0 ∨ d1.val = 0) → t.pstate p = 2 ∧
        t.get .PEN_STATUS_LMODE p = lmodeOf (u0.val == 0) (u1.val == 0) (d0.val == 0) (d1.val == 0)) ∧
      (¬ ((u0.val = 0 ∨ u1.val = 0) ∧ (d0.val = 0 ∨ d1.val = 0)) → t.pstate p = 0xA ∧ t.get .PEN_STATUS_FAIL_CAUSE p = 2)) ∧
    (∀ pol swap, s.pstate p = 2 → Completes (.trainStepDone p (.align pol swap)) s fun t => t.pstate p = 3 ∧ t.get .PEN_LANE_UP_POL p = pol.val) ∧
    (s.pstate p = 3 → Completes (.trainStepDone p .eq) s fun t => t.pstate p = 4) ∧
    (s.pstate p = 4 → Completes (.trainStepDone p .lock) s fun t => t.pstate p = 5 ∧ t.on .PEN_STATUS_LOCK p = true) ∧
    (∀ fan pol swap ns drops, s.pstate p = 5 → Completes (.trainStepDone p (.ident fan pol swap ns drops)) s fun t =>
      (600 < ns → t.pstate p = 0xA ∧ t.get .PEN_STATUS_FAIL_CAUSE p = 3) ∧
      (ns ≤ 600 → t.pstate p = (if s.get .PEN_STATUS_LMODE p % 4 = 0 then 6 else 7) ∧ t.on .PEN_EVENT_TRAINED p = true ∧ t.get .PEN_TIMING_LOOP_NS p = ns ∧
        t.get .PEN_TIMING_ACT_OFS p = ((ns + 116) * 100 + 127) / 128 ∧ ∀ i, drops = [i] → i.drop < 64 → s.mst (p * 64 + i.drop) = 0 →
          t.on .PEN_DROP_PRESENT p i.drop = true ∧ (i.selfTest = true → s.isolated i.sn = false → t.mst (p * 64 + i.drop) = (if i.clamped then 3 else 1)) ∧
          (i.selfTest = false ∨ s.isolated i.sn = true → t.mst (p * 64 + i.drop) = 9))) ∧
    (s.pstate p = 9 → Completes (.trainStepDone p .wake) s fun t => t.pstate p = (if s.get .PEN_STATUS_LMODE p % 4 = 0 then 6 else 7) ∧ t.on .PEN_STATUS_LOCK p = true)) ∧
  (∀ (p : PortIx) (s : State), LinkQuiet s p → s.stepLate p = true →
    (∀ partner : Bool, 1 ≤ s.pstate p → s.pstate p ≤ 5 → Completes (.trainStepTimeout p partner) s fun t => t.pstate p = 0xA ∧ t.on .PEN_EVENT_TRAIN_FAIL p = true ∧
      t.get .PEN_STATUS_FAIL_CAUSE p = (match s.pstate p with | 1 => if partner then 2 else 1 | 2 => 2 | 3 => 5 | 4 => 6 | _ => 4)))

/-- Lane faults, lane modes, frames, headers, map changes, low power and counters of a port (R61, R65, R66, R71, R78, R81, R84, R86, R87, R88) -/
def Obligations.PortLanesAndPower : Prop :=
  (∀ (p : PortIx) (lane : Fin 2) (s : State),
    let dn := if lane.val = 0 then Fld.PEN_LANE_DN0 else .PEN_LANE_DN1
    let up := if lane.val = 0 then Fld.PEN_LANE_UP0 else .PEN_LANE_UP1
    (Completes (.txOvercurrent p lane) s fun t => t.get dn p = 5 ∧ t.on .PEN_EVENT_OVERCURRENT p = true ∧ (lane.val, s.now) ∈ (t.px p).overCurrent) ∧
    (∀ l, (s.px p).overCurrent.find? (fun l => l.1 == lane.val) = some l → l.2 + ms 1000 ≤ s.now →
      (Completes (.txOvercurrentRetry p lane true) s fun t => t.get dn p = 0 ∧ ∀ l ∈ (t.px p).overCurrent, l.1 ≠ lane.val) ∧
      Completes (.txOvercurrentRetry p lane false) s fun t => t.get dn p = s.get dn p ∧ (lane.val, s.now) ∈ (t.px p).overCurrent) ∧
    (s.portUp p = true → Completes (.laneLoss p lane) s fun t => t.get up p = 6 ∧ t.on .PEN_EVENT_LANE_FAULT p = true ∧
      (s.get .PEN_STATUS_LMODE p = 0 → (s.px p).modeNext = none → (lane.val = 1 → s.get .PEN_LANE_UP0 p ≠ 6) →
        (t.px p).modeNext = some (if lane.val = 0 then 5 else 1, ((s.px p).seq + 1) % 4096)) ∧
      (∀ q, (s.px p).modeNext = some q → (t.px p).modeNext = some q))) ∧
  (∀ (p : PortIx) (lock : Bool) (s : State), s.portUp p = true → s.get .PEN_STATUS_LMODE p % 2 = 1 → (s.px p).heldAt = none →
    (s.px p).tryAt + ms 1000 ≤ s.now → Completes (.laneRejoinAttempt p lock) s fun t =>
      (t.px p).tryAt = s.now ∧ (t.px p).heldAt = (if lock then some s.now else none) ∧ t.rd .PEN_STATUS p = s.rd .PEN_STATUS p) ∧
  (∀ (p : PortIx) (s : State), s.portUp p = true → s.get .PEN_STATUS_LMODE p % 2 = 1 → (s.px p).modeNext = none → s.laneHeldLong p = true →
    Completes (.laneRejoin p) s fun t =>
    let m := s.get .PEN_STATUS_LMODE p
    t.get (if m / 4 % 2 = 1 then .PEN_LANE_UP0 else .PEN_LANE_UP1) p = 0 ∧ (t.px p).modeNext = some (m % 4 / 2 * 2 + m / 8 * 8, ((s.px p).seq + 1) % 4096)) ∧
  (∀ (p : PortIx) (loopNs m : Nat) (s : State), (s.px p).modeNext = some (m, (s.px p).seq) → Completes (.laneModeSwitch p loopNs) s fun t =>
    t.get .PEN_STATUS_LMODE p = m % 16 ∧ t.pstate p = (if m % 4 = 0 then 6 else 7) ∧ t.get .PEN_TIMING_LOOP_NS p = loopNs % 2 ^ 16 ∧
    t.on .PEN_EVENT_DEGRADED p = true ∧ (m % 2 = 1 → (t.px p).modeNext = none)) ∧
  (∀ (p : PortIx) (s : State), s.portUp p = true → (s.takeRate p).frameDue p = true → Completes (.frameTick p) s fun t =>
    let u := (s.takeRate p).takeAnnounced p
    (t.px p).seq = ((s.px p).seq + 1) % 4096 ∧ .frame p (u.px p).blocks (frameBlocks (u.px p).rate (u.px p).seq) (u.downHeader p) ∈ t.out ∧
    (s.positions p = [] → (t.px p).rate = s.get .PEN_CFG_RATE p ∧ (t.px p).phase = s.get .PEN_CFG_PHASE p) ∧
    (s.on .PEN_STATUS_LOCK p = true → (8 ≤ (s.px p).sinceHeader → t.on .PEN_STATUS_LOCK p = false ∧ t.on .PEN_EVENT_LOCK_LOST p = true) ∧
      ((s.px p).sinceHeader < 8 → t.on .PEN_STATUS_LOCK p = true))) ∧
  (∀ (p : PortIx) (h : UpHeader) (s : State), s.portUp p = true → Completes (.upstreamHeader p h) s fun t =>
    (h.crcOk = true → t.on .PEN_STATUS_LOCK p = true ∧ (t.px p).sinceHeader = 0 ∧ (t.px p).upSeq = h.seq % 4096) ∧ (h.crcOk = false → t.port = s.port)) ∧
  (∀ (p : PortIx) (s : State) (m : MapChange), (s.px p).mapNow = some ((s.px p).seq, m) → Completes (.mapEpochChange p) s fun t =>
    (t.px p).epoch = ((s.px p).epoch + 1) % 16 ∧ ∀ k < 16, t.rd .PEN_SMAP p k = lastFor m.smap k (s.rd .PEN_SMAP p k) ∧
      t.rd .PEN_BMAP p k = lastFor m.bmap k (s.rd .PEN_BMAP p k)) ∧
  (∀ (p : PortIx) (s : State), s.on .PEN_CFG_LP_EN p = true → s.portIdle p = true →
    let low := fun t : State => t.pstate p = 8 ∧ t.on .PEN_STATUS_LOCK p = false ∧ tabGet t.breath.link p none = none
    ((s.px p).busyAt + us (s.get .PEN_LP_IDLE_US p) ≤ s.now → Completes (.lowpowerEntry p) s low) ∧ (s.closed = false → Completes (.sleep p) s low)) ∧
  (∀ (p : PortIx) (s : State), s.closed = false → s.pstate p = 8 → LinkFree s p → Completes (.portWake p) s fun t => t.pstate p = 9) ∧
  (∀ (p : PortIx) (s : State), s.closed = false → Completes (.clrCnt p) s fun t =>
    ∀ r ∈ [Reg.PEN_CNT_CRC, .PEN_CNT_MISS, .PEN_CNT_REPEAT, .PEN_CNT_BLK, .PEN_CNT_MGMT, .PEN_CNT_TRAIN], t.rd r p = 0)

/-- Servo slots received and missing, repeated actuator slots, lost drops and the management channel (R37, R74, R75, R76, R77, R80, R81, R82, R185) -/
def Obligations.SlotsAndMessages : Prop :=
  (∀ (p : PortIx) (k : Fin 16) (x : UpSlot) (s : State) (n : Nat), s.slotHolder p k = some n →
    slotCrcOk x = true → ((s.px p).upSeq + 4096 - x.seq) % 4096 = 0 → x.drop = dropOf n → x.epoch = (s.px p).epoch →
    Completes (.servoSlotReceived p k x true) s fun t =>
      (x.fcode = 0 → (s.leftOut n = false → t.get .PEN_DROP_MISS_RUN p (dropOf n) = 0) ∧ (t.mx n).trayIn = x.trayIn ∧ (t.mx n).trayOut = x.trayOut ∧ (t.mx n).disc = x.disc ∧
        (t.mx n).lsup = x.lsup ∧ ((s.mx n).tray = none → (t.mx n).clamped = x.clamped) ∧ tabGet (t.dx n).tlm x.tlmIdx 0 = x.tlmVal ∧ (t.dx n).fack = none) ∧
      (x.fcode ≠ 0 → (s.dx n).faultSeen ≠ x.fcode → s.mst n ∉ [0, 8, 9] → FaultTaken n (if bridgeCode x.fcode then x.fcode else 0x80) t)) ∧
  (∀ (p : PortIx) (k : Fin 16) (s : State) (n : Nat), s.slotHolder p k = some n → Completes (.servoSlotMissing p k) s fun t =>
    let m := s.get .PEN_DROP_MISS_RUN p (dropOf n) + 1
    (m < s.get .PEN_GCFG_MISS_LIMIT → t.get .PEN_DROP_MISS_RUN p (dropOf n) = min m 15) ∧
    (s.get .PEN_GCFG_MISS_LIMIT ≤ m → s.holdsSlot n = true → s.mst n ∉ [0, 8, 9] → FaultTaken n 0x70 t ∧ t.on .PEN_EVENT_MISS p = true)) ∧
  (∀ (mn : Mn) (s : State), (s.livePosition (portOf mn) (dropOf mn)).isSome = true → s.repeatDue mn = true → Completes (.actuatorRepeat mn) s fun t =>
    let u := s.bump .PEN_CNT_REPEAT_COUNT (portOf mn)
    .actuator mn (u.actDwords mn false true (setAt (s.dx mn).drive 0 (if s.laserEn mn = 0 then 0 else (s.dx mn).drive.getD 0 0))) ∈ t.out) ∧
  (∀ (mn : Mn) (s : State), s.portUp (portOf mn) = true → s.on .PEN_DROP_PRESENT (portOf mn) (dropOf mn) = true → s.rebooting mn = false →
    max (s.dx mn).heardAt (s.px (portOf mn)).framesAt + ms (s.get .PEN_GCFG_LOCK_TO_MS) ≤ s.now → Completes (.dropTimeout mn) s fun t => t.on .PEN_DROP_PRESENT (portOf mn) (dropOf mn) = false ∧ t.get .PEN_DROP_DSTATE (portOf mn) (dropOf mn) = 1 ∧
      (s.on .PEN_FANOUT_PRESENT (portOf mn) = true → { cls := 2, payload := [dropOf mn] } ∈ (t.dx (chanKey (portOf mn) 0x40)).unacked ++ (t.dx (chanKey (portOf mn) 0x40)).queued) ∧
      (s.on .PEN_FANOUT_PRESENT (portOf mn) = false → LinkFree s (portOf mn) → t.pstate (portOf mn) = 1)) ∧
  (∀ (mn : Mn) (s : State), s.portUp (portOf mn) = true → s.get .PEN_DROP_DSTATE (portOf mn) (dropOf mn) = 1 → s.rebooting mn = false →
    ((s.dx mn).seekAt.getD (s.px (portOf mn)).framesAt) + ms (s.get .PEN_GCFG_LOCK_TO_MS) ≤ s.now → Completes (.dropNotFound mn) s fun t =>
    t.mst mn = 0 ∧ t.get .PEN_DROP_DSTATE (portOf mn) (dropOf mn) = 3 ∧ t.on .PEN_EVENT_DROP_CHG (portOf mn) = true) ∧
  (∀ (p : PortIx) (a : Fin 65) (mseq mack : Fin 4096) (b : MgmtBody) (s : State), s.portUp p = true → b ≠ .reset →
    let k := chanKey p a
    let d := (mseq.val + 4096 - (s.dx k).mseqRx) % 4096
    Completes (.mgmtMessage p a mseq mack true b) s fun t =>
      (d = 0 → b = .reserved → (t.dx k).mseqRx = ((s.dx k).mseqRx + 1) % 4096 ∧ (t.dx k).protoErrs = 0) ∧
      (∀ ti tz cl di ls sf i v, d = 0 → a.val < 64 → b = .status ti tz cl di ls sf i v → (t.mx (p * 64 + a)).trayIn = ti ∧ (t.mx (p * 64 + a)).trayOut = tz ∧
        (t.mx (p * 64 + a)).disc = di ∧ tabGet (t.dx (p * 64 + a)).tlm i 0 = v) ∧
      (d ≠ 0 → d ≤ 63 ∨ 4032 ≤ d → (t.dx k).mseqRx = (s.dx k).mseqRx) ∧
      (63 < d → d < 4032 → t.on .PEN_EVENT_MGMT_ERR p = true ∧ (t.dx k).protoErrs = (if (s.dx k).protoErrs + 1 < 4 then (s.dx k).protoErrs + 1 else 0) ∧
        (3 ≤ (s.dx k).protoErrs → (t.dx k).mseqRx = 0))) ∧
  (∀ (p : PortIx) (a : Fin 65) (s : State), s.portUp p = true → (s.dx (chanKey p a)).unacked ≠ [] → Completes (.mgmtResend p a) s fun t =>
    (∀ m ∈ (s.dx (chanKey p a)).unacked, ∃ q, .mgmt p a m.cls (some q) m.payload ∈ t.out) ∧
    ((s.dx (chanKey p a)).rounds < 8 → (t.dx (chanKey p a)).rounds = (s.dx (chanKey p a)).rounds + 1) ∧
    (8 ≤ (s.dx (chanKey p a)).rounds → (t.dx (chanKey p a)).rounds = 0 ∧ (t.dx (chanKey p a)).mseqRx = 0 ∧ t.on .PEN_EVENT_MGMT_ERR p = true))

/-- Binding, release, migration and fault of Firn lanes (R26, R37, R209, R210, R211, R212, R213) -/
def Obligations.LaneBinding : Prop :=
  (∀ (mn : Mn) (own : Bool) (s : State), s.mst mn = 6 ∨ s.mst mn = 7 → own = true ∨ s.laneWork mn = true → s.laneOf mn = none →
    Completes (.laneBind mn own) s fun t =>
    (∀ f, s.chan.laneWait.headD mn = mn.val → s.laneAllowed = true → s.freeLane = some f → t.laneOf mn = some f ∧ t.mst mn = 7 ∧
      t.get .FIRN_STATUS_LSTATE f = 1 ∧ t.on .FIRN_STATUS_VALID f = true ∧ t.get .FIRN_STATUS_MN f = mn.val ∧
      ∀ b < 4, t.get .FIRN_BEAM_TSTATE f b = (if bitAt (s.beamSet mn) b = 1 then 0 else 6)) ∧
    (s.freeLane = none → mn.val ∈ t.chan.laneWait)) ∧
  (∀ (mn : Mn) (s : State) (f : Nat), s.laneOf mn = some f → f < 272 → s.laneHeld mn = false →
    (s.mx mn).ioEnd + s.get .FIRN_GCFG_IDLE_HOLD_US * 1000 ≤ s.now → Completes (.laneIdleRelease mn) s fun t =>
    t.laneOf mn = none ∧ t.get .FIRN_STATUS_LSTATE f = 0 ∧ t.on .FIRN_STATUS_VALID f = false ∧ (s.mst mn = 7 → t.mst mn = 6)) ∧
  (∀ (lane : Fin 512) (s : State), s.closed = false → lane.val ≤ 271 → Completes (.laneMigrate lane) s fun t =>
    (s.on .FIRN_LANE_STAT_BUSY = true → t.get .FIRN_LANE_STAT_RESULT = 3) ∧
    (s.on .FIRN_LANE_STAT_BUSY = false → s.get .FIRN_STATUS_LSTATE lane ≠ 1 → t.get .FIRN_LANE_STAT_RESULT = 2) ∧
    (s.on .FIRN_LANE_STAT_BUSY = false → s.get .FIRN_STATUS_LSTATE lane = 1 → s.freeLane = none → t.get .FIRN_LANE_STAT_RESULT = 1) ∧
    (∀ g, s.on .FIRN_LANE_STAT_BUSY = false → s.get .FIRN_STATUS_LSTATE lane = 1 → s.freeLane = some g → t.on .FIRN_LANE_STAT_BUSY = true ∧
      t.get .FIRN_LANE_STAT_TO = g ∧ t.get .FIRN_STATUS_LSTATE lane = 2 ∧ t.get .FIRN_STATUS_LSTATE g = 2 ∧ (t.lane lane).migTo = some g ∧
      t.get .FIRN_STATUS_MN g = s.get .FIRN_STATUS_MN lane)) ∧
  (∀ (f : LaneIx) (s : State) (g : Nat), (s.lane f).migTo = some g → g < 272 → g ≠ f.val → s.migrationReady f g = true → Completes (.migrationSwitch f) s fun t =>
    t.get .FIRN_STATUS_LSTATE g = 1 ∧ t.get .MECH_SERVO_LANE (s.get .FIRN_STATUS_MN f) = g ∧ t.on .FIRN_EVENT_MIGRATED g = true ∧
    t.get .FIRN_STATUS_LSTATE f = (if (s.lane f).after = 3 then 3 else if (s.lane f).after = 4 then 4 else 0)) ∧
  (∀ (f : LaneIx) (cause : Fin 3) (s : State), s.get .FIRN_STATUS_LSTATE f ≤ 2 →
    (cause = 2 → (List.range 4).any (s.framingSilent f) = true) → Completes (.laneFault f cause) s fun t =>
    let n := s.get .FIRN_STATUS_MN f
    let other := (List.range 272).find? fun g => g != f.val && s.get .FIRN_STATUS_LSTATE g == 0
    t.get .FIRN_STATUS_LSTATE f = 3 ∧ t.on .FIRN_EVENT_FAULT f = true ∧ (t.lane f).faults = (s.lane f).faults + 1 ∧
    (s.get .FIRN_STATUS_LSTATE f ≠ 0 → (s.lane f).migFrom = none → (s.lane f).migTo = none →
      (∀ g, other = some g → t.laneOf n = some g ∧ t.get .FIRN_STATUS_LSTATE g = 1) ∧ (other = none → t.laneOf n = none ∧ n ∈ t.chan.laneWait)))

/-- Tests of a lane, RF bursts, level banks and the end of a write run (R213, R214, R216, R217, R221, R222, R223, R232, R237, R239) -/
def Obligations.LaneTestsAndSignals : Prop :=
  (∀ (lane : Fin 512) (s : State), s.closed = false → lane.val ≤ 271 → s.on .FIRN_LANE_STAT_BUSY = false →
    let under := fun (op : Nat) (t : State) => t.get .FIRN_STATUS_LSTATE lane = 3 ∧ (t.lane lane).testOp = op ∧ t.on .FIRN_LANE_STAT_BUSY = true
    (Completes (.laneTest lane) s fun t => (s.get .FIRN_STATUS_LSTATE lane = 0 → under 2 t) ∧ (s.get .FIRN_STATUS_LSTATE lane ≠ 0 → t.get .FIRN_LANE_STAT_RESULT = 2)) ∧
    (Completes (.laneRetest lane) s fun t => (s.get .FIRN_STATUS_LSTATE lane = 5 → under 3 t) ∧ (s.get .FIRN_STATUS_LSTATE lane ≠ 5 → t.get .FIRN_LANE_STAT_RESULT = 2))) ∧
  (∀ (f : LaneIx) (pass : Bool) (s : State), s.get .FIRN_STATUS_LSTATE f = 3 → s.underBist 2 f = false → Completes (.laneTestDone f pass) s fun t =>
    let n := if pass = true ∧ (s.lane f).testOp = 3 then 0 else (s.lane f).faults
    t.get .FIRN_STATUS_LAST_TEST f = (if pass then 1 else 2) ∧ (t.lane f).faults = n ∧
    (pass = true → s.get .FIRN_GCFG_FAULT_LIMIT = 0 ∨ n < s.get .FIRN_GCFG_FAULT_LIMIT → t.get .FIRN_STATUS_LSTATE f = 0) ∧
    (pass = false ∨ (s.get .FIRN_GCFG_FAULT_LIMIT ≠ 0 ∧ s.get .FIRN_GCFG_FAULT_LIMIT ≤ n) → t.get .FIRN_STATUS_LSTATE f = 5 ∧ t.on .FIRN_EVENT_OOS f = true)) ∧
  (∀ (f : LaneIx) (seq : Fin 4096) (ovld : Fin 16) (gain : Word) (words : List (BitVec 128)) (place : Option (Fin 16 × Fin 1048576 × Fin 8)) (s : State),
    let ahead := match (s.lane f).rfSeq with | some q => (seq.val + 4096 - q) % 4096 | none => 1
    s.on .FIRN_STATUS_VALID f = true → s.liveBurst (s.get .FIRN_STATUS_MN f) false = true → (s.lane f).migTo = none →
    Completes (.rfBurst f seq ovld gain words place) s fun t => (ahead = 0 ∨ 2048 ≤ ahead → t = s) ∧ (0 < ahead → ahead < 2048 → (t.lane f).rfSeq = some seq.val ∧
      ∀ b < 4, bitAt (s.beamSet (s.get .FIRN_STATUS_MN f)) b = 1 → bitsOf gain (8 * b) 8 ≠ (s.beam f b).gainCode → t.on .FIRN_EVENT_GAIN f = true)) ∧
  (∀ (x : BeamX) (smp : Nat) (ovld : Bool),
    let y := takeSample x smp ovld
    let v : Int := (smp : Int) - 128
    let z := clampI (roundShr ((v - roundShr x.dc 8) * x.g) 12) (-512) 511
    let sh := if x.since < 4096 then cfgField x 1 .FIRN_AGC_CFG_AGC_SHIFT_ACQ else cfgField x 1 .FIRN_AGC_CFG_AGC_SHIFT_TRK
    y.z.headD 0 = z ∧ ((y.g = x.g ∧ y.dc = x.dc) ∨ (y.dc = x.dc + roundShr (v * 256 - x.dc) (cfgField x 1 .FIRN_AGC_CFG_DC_SHIFT) ∧
      (y.g : Int) = clampI (x.g + roundShr (x.g * ((cfgField x 1 .FIRN_AGC_CFG_AGC_TGT : Int) - z.natAbs)) sh) 1024 65535))) ∧
  (∀ (f : LaneIx) (b : BeamIx) (s : State),
    let x := s.beam f b
    let st := s.get .FIRN_BEAM_TSTATE f b
    let a2 := aT x * aT x
    (st = 0 → x.since % 32 = 0 → toneFound x = true → (s.searchTone f b).get .FIRN_BEAM_TSTATE f b = 1) ∧
    (st = 1 → x.osc.k ≤ x.frm.start + 320 → (s.preambleStep f b).get .FIRN_BEAM_TSTATE f b = 2) ∧
    (st = 1 ∨ st = 2 → s.on .FIRN_STATUS_BD f = false → x.frm.start + 320 < x.osc.k → (s.preambleStep f b).get .FIRN_BEAM_TSTATE f b = 5) ∧
    (x.osc.hole = 0 → st ∉ [0, 4] → (s.regionStep f b true).get .FIRN_BEAM_TSTATE f b = 4 ∧ ((s.regionStep f b true).beam f b).held = st) ∧
    (st = 4 → 2048 ≤ x.osc.hole → (s.regionStep f b true).get .FIRN_BEAM_TSTATE f b = 0) ∧
    (st = 4 → x.osc.hole ≠ 0 → x.held < 8 → (s.regionStep f b false).get .FIRN_BEAM_TSTATE f b = x.held) ∧
    (st = 2 → cfgField x 0 .FIRN_RD_CFG_ACQ_BITS ≤ x.osc.inState → (s.judgeTiming f b).get .FIRN_BEAM_TSTATE f b = 3) ∧
    (st = 5 → 64 ≤ x.osc.inState → (meanOf x.osc.eps 64).1 * 16 < a2 * 64 → (s.judgeTiming f b).get .FIRN_BEAM_TSTATE f b = 3) ∧
    (st = 3 → 256 ≤ x.osc.inState → a2 * 256 < (meanOf x.osc.eps 256).1 * 4 → (s.judgeTiming f b).get .FIRN_BEAM_TSTATE f b = 0)) ∧
  (∀ (f : LaneIx) (s : State) (k : Nat), (s.lane f).bankNext = some k → (s.lane f).run.any (·.opc.isSome) = false → s.bankAcked f = true →
    (s.lane f).run = none ∨ (∃ c, (s.lane f).acked = some c ∧ c < s.clustersPast f) →
    Completes (.levelBankSwitch f) s fun t => (t.lane f).bank = k ∧ (t.lane f).bankNext = none) ∧
  (∀ (f : LaneIx) (s : State) (r : RunX), s.on .FIRN_STATUS_WRITE f = true → (s.lane f).run = some r → (s.lane f).stopAt = none →
    Completes (.writeStop f) s fun t => (t.lane f).stopAt = some s.now ∧ ∃ k, (t.lane f).run = some { r with stop := some k, rest := s.host.wbuf.find? fun w => w.id == r.wb } ∧
      k ≤ s.runBitAt (s.get .FIRN_STATUS_MN f) r (17 * (s.now + 100000)) / 65536) ∧
  (∀ (f : LaneIx) (s : State) (t0 : Nat), s.on .FIRN_STATUS_WRITE f = true → (s.lane f).stopAt = some t0 → t0 + 100000 ≤ s.now →
    Completes (.writeStopTimeout f) s fun t =>
    t.on .FIRN_STATUS_WRITE f = false ∧ (t.lane f).stopAt = none ∧ ∀ w ∈ s.host.wbuf, w.mn = s.get .FIRN_STATUS_MN f → w.phase = .writing →
      { w with phase := .accepted, clusters := [] } ∈ t.host.wbuf)

/-- The LLR queue and the decoder pool: moves, urgency, parking, grants, starvation, watchdog and MOR_DEC_CMD (R256, R257, R261, R262, R263, R264, R265, R266, R267) -/
def Obligations.LlrQueueAndPool : Prop :=
  (∀ (s : State) (w : Codeword), s.slotsHeld < 300 → earliest (s.chan.cws.filter fun v => v.place == .ready) = some w → Completes .llrMove s fun t =>
    ∃ v ∈ t.chan.cws, v.id = w.id ∧ v.place = .staged ∧ v.waitFrom = s.now) ∧
  (∀ (k : Nat) (s : State) (w : Codeword), s.cw k = some w → w.place = .ready →
    (if w.urgent = true then ((List.range 32).filter fun d => s.get .MOR_DEC_DSTATE d == 3).length <
      (s.chan.cws.filter fun v => v.urgent && v.place == .ready).length else s.entryNear w = true) → Completes (.codewordUrgent k) s fun t =>
    (∃ v ∈ t.chan.cws, v.id = k ∧ v.urgent = true) ∧ (s.on .MOR_GCFG_PREEMPT_EN = true → 300 ≤ s.slotsHeld →
      (32 ≤ s.parkedCount → t.on .MOR_EVENT_PARK_FULL = true) ∧
      (∀ d, s.parkedCount < 32 → s.victim (s.lanePrio w.lane) = some d → t.get .MOR_DEC_DSTATE d = 3))) ∧
  (∀ (d : DecIx) (s : State) (w : Codeword), (s.chan.cws.map (·.id)).Nodup → s.onDecoder d = some w → s.get .MOR_DEC_DSTATE d = 3 → tabGet s.chan.decTest d 0 = 0 →
    Completes (.parkComplete d) s fun t =>
    let next := earliest (s.chan.cws.filter fun v => v.urgent && v.place == .ready)
    (∃ v ∈ t.chan.cws, v.id = w.id ∧ v.place = .parked ∧ v.parks = w.parks + 1) ∧ (next = none → t.get .MOR_DEC_DSTATE d = 0) ∧
    (∀ u, next = some u → t.get .MOR_DEC_DSTATE d = 1 ∧ ∃ v ∈ t.chan.cws, v.id = u.id ∧ v.place = .decoding d ∧ v.urgent = false)) ∧
  (∀ (s : State) (d : Nat) (w : Codeword), ((List.range 32).find? fun d => s.get .MOR_DEC_DSTATE d == 0) = some d → s.firstRequest = some w →
    Completes .decoderGrant s fun t => t.get .MOR_DEC_DSTATE d = 1 ∧ t.on .MOR_DEC_RESUMED d = (w.place == .parked) ∧
      ∃ v ∈ t.chan.cws, v.id = w.id ∧ v.place = .decoding d) ∧
  (∀ (k : Nat) (s : State) (w : Codeword), s.cw k = some w → w.place = .staged ∨ w.place = .parked → w.starved = false → s.get .MOR_TIMING_STARVE_US ≠ 0 →
    w.waitFrom + s.get .MOR_TIMING_STARVE_US * 1000 < s.now →
    Completes (.starveTimeout k) s fun t => t.on .MOR_EVENT_STARVE = true ∧ t.get .MOR_STARVE_SRC_MN = w.mn % 2 ^ 12 ∧ ∃ v ∈ t.chan.cws, v.id = k ∧ v.starved = true) ∧
  (∀ (d : DecIx) (error : Bool) (s : State), 1 ≤ s.get .MOR_DEC_DSTATE d → s.get .MOR_DEC_DSTATE d ≤ 4 → tabGet s.chan.decTest d 0 = 0 →
    error = true ∨ s.decoderStuck d = true → Completes (.decoderWatchdog d error) s fun t => (∀ w, s.onDecoder d = some w → (∀ v ∈ t.chan.cws, v.id ≠ w.id) ∧ t.on .MOR_EVENT_UNCORR = true) ∧
      (error = false → t.get .MOR_DEC_DSTATE d = 0 ∧ t.on .MOR_EVENT_WDOG = true) ∧ (error = true → t.get .MOR_DEC_DSTATE d = 5)) ∧
  (∀ (d : DecIx) (s : State), s.closed = false →
    let st := s.get .MOR_DEC_DSTATE d
    let busy := s.on .MOR_DEC_CMD_STAT_BUSY
    (Completes (.decTest d) s fun t => (busy = true → t.get .MOR_DEC_CMD_STAT_RESULT = 2) ∧ (busy = false → st = 5 ∨ st = 6 → t.get .MOR_DEC_CMD_STAT_RESULT = 1) ∧
      (busy = false → st = 0 ∨ st = 7 → t.get .MOR_DEC_DSTATE d = 5 ∧ t.on .MOR_DEC_CMD_STAT_BUSY = true) ∧
      (busy = false → 1 ≤ st → st ≤ 4 → t.get .MOR_DEC_DSTATE d = st ∧ tabGet t.chan.decTest d 0 = 1 ∧ t.on .MOR_DEC_CMD_STAT_BUSY = true)) ∧
    (Completes (.decEnable d) s fun t =>
      let ready := st = 7 ∧ tabGet s.chan.decTest d 0 = 16
      (busy = false → ready → t.get .MOR_DEC_DSTATE d = 0 ∧ t.get .MOR_DEC_CMD_STAT_RESULT = 0) ∧ (busy = false → ¬ ready → t.get .MOR_DEC_CMD_STAT_RESULT = 1) ∧
      (busy = true → t.get .MOR_DEC_CMD_STAT_RESULT = 2)) ∧
    (Completes (.decDisable d) s fun t => (busy = false → st = 0 → t.get .MOR_DEC_DSTATE d = 7 ∧ t.get .MOR_DEC_CMD_STAT_RESULT = 0) ∧
      (busy = false → 1 ≤ st → st ≤ 4 → t.get .MOR_DEC_DSTATE d = st ∧ tabGet t.chan.decTest d 0 = 3) ∧
      (busy = false → 5 ≤ st → t.get .MOR_DEC_CMD_STAT_RESULT = 1) ∧ (busy = true → t.get .MOR_DEC_CMD_STAT_RESULT = 2))) ∧
  (∀ (d : DecIx) (pass : Bool) (s : State), s.get .MOR_DEC_DSTATE d = 5 → s.underBist 3 d = false → Completes (.decoderTestDone d pass) s fun t =>
    (pass = false → t.get .MOR_DEC_DSTATE d = 7 ∧ t.on .MOR_EVENT_DEC_TEST_FAIL = true) ∧
    (pass = true → tabGet s.chan.decTest d 0 = 2 → t.get .MOR_DEC_DSTATE d = 7 ∧ tabGet t.chan.decTest d 0 = 16) ∧
    (pass = true → tabGet s.chan.decTest d 0 ≠ 2 → t.get .MOR_DEC_DSTATE d = 0))

/-- A decode iteration, the wall limit, the outer decode of a cluster and its reread revolutions (R251, R252, R258, R259, R260, R268, R269, R270) -/
def Obligations.DecodingAndOuterCode : Prop :=
  (∀ (d : DecIx) (s : State) (w : Codeword), s.onDecoder d = some w → 1 ≤ s.get .MOR_DEC_DSTATE d → s.get .MOR_DEC_DSTATE d ≤ 3 →
    Completes (.decodeIteration d) s fun t =>
    let x := hardWord (decodeOnce ((s.matrixOf w.matrix).getD {}) (s.get .MOR_SET_ALPHA w.set) (s.get .MOR_SET_BETA w.set) w).post
    let clean := ∃ m, s.matrixOf w.matrix = some m ∧ ldpcClean m x = true
    let gone := ∀ v ∈ t.chan.cws, v.id ≠ w.id
    let sector := fun (v : SectorX) => ∀ r, s.readOf w.mn w.layer w.cluster = some r → w.frame < r.sectors.length → isGood (r.sectors.getD w.frame .pending) = false →
      ∃ r', t.readOf w.mn w.layer w.cluster = some r' ∧ r'.sectors.getD w.frame .pending = v
    (clean → sectorOk w.frame (infoBytes x) = true → gone ∧ sector (.good (infoBytes x))) ∧
    (clean → sectorOk w.frame (infoBytes x) = false → t.on .MOR_EVENT_CRC_FAIL = true ∧
      (w.parks = 0 → w.set ≠ 2 → ∃ v ∈ t.chan.cws, v.id = w.id ∧ v.set = (if w.set = 1 then 2 else 1) ∧ v.iter = 0) ∧
      (0 < w.parks ∨ w.set = 2 → gone ∧ sector .lost ∧ t.on .MOR_EVENT_UNCORR = true)) ∧
    (¬ clean → s.get .MOR_SET_MAX_ITER w.set ≤ w.iter + 1 → gone ∧ sector .lost ∧ t.on .MOR_EVENT_UNCORR = true) ∧
    (¬ clean → w.iter + 1 < s.get .MOR_SET_MAX_ITER w.set → t.get .MOR_DEC_DSTATE d = (if s.get .MOR_DEC_DSTATE d = 1 then 2 else s.get .MOR_DEC_DSTATE d) ∧
      ∃ v ∈ t.chan.cws, v.id = w.id ∧ v.iter = w.iter + 1)) ∧
  (∀ (k : Nat) (s : State) (w : Codeword), s.cw k = some w → (∃ t0, w.wallFrom = some t0 ∧ t0 + s.get .MOR_GCFG_WALL_US * 1000 ≤ s.now) → Completes (.wallTimeout k) s fun t =>
    (∀ v ∈ t.chan.cws, v.id ≠ k) ∧ t.on .MOR_EVENT_UNCORR = true) ∧
  (∀ (mn : Mn) (layer : Fin 16) (cluster : Nat) (s : State) (r : ClusterRead), s.readOf mn layer cluster = some r → r.done = false →
    let l := s.outerSectors r
    (∀ i, isGood (r.sectors.getD i .pending) = true → l.getD i .pending = r.sectors.getD i .pending) ∧
    (r.revs = 0 → s.verdictsIn r = true → Completes (.outerDecode mn layer cluster) s fun t => ∃ r', t.readOf mn layer cluster = some r' ∧
      (unresolvedData l = [] → r'.done = true ∧ r'.sectors = l ∧ r'.revs = 0) ∧ (unresolvedData l ≠ [] → r'.done = false ∧ r'.revs = 1)) ∧
    (r.revs ≠ 0 → s.cwsLeft r = false → s.turnedOnce r = true → Completes (.sectorRetryRev mn layer cluster) s fun t => ∃ r', t.readOf mn layer cluster = some r' ∧
      (unresolvedData l = [] ∨ s.get .MOR_GCFG_RETRY_REVS ≤ r.revs → r'.done = true ∧ r'.sectors = l) ∧
      (unresolvedData l ≠ [] → r.revs < s.get .MOR_GCFG_RETRY_REVS → r'.done = false ∧ r'.revs = r.revs + 1)))

/-- Map appends and stripe closes: a durable append, a failed one, a refused grant, a retry, the timeout of an open stripe, resync (R21, R22, R271, R273, R276, R277, R289, R290, R291, R302, R361) -/
def Obligations.MapAppends : Prop :=
  (∀ (mn : Mn) (s : State), s.committing mn ≠ [] → s.appendReady mn = true → (s.grants mn).write.isSome = true → s.get .DRN_PSTAT_STATE ≠ 7 → s.memberOf mn = none →
    let l := s.appendSet mn
    let ids := l.map (·.id)
    let mine := fun (c : CommitRec) => c.wbs.any fun i => ids.contains i
    (∀ w ∈ l, w.mn = mn.val ∧ w.stripe = none) →
    let d := s.disc mn
    (Completes (.mapAppend mn true) s fun t =>
      (t.disc mn).gen = d.gen + 1 ∧ (t.disc mn).mapNext = d.mapNext + 1 ∧ (t.disc mn).appending = [] ∧
      (d.mapNext + 1 < s.mapZone mn → d.gen + 1 < 0xFFFFFFFF → (t.disc mn).commits = d.commits.filter fun c => !(c.wbs.all fun i => ids.contains i)) ∧
      (t.disc mn).extents = l.foldl (fun m w => mapExtents m (entryExtents m w)) d.extents ∧
      (∃ b, .append mn (d.gen + 1) d.mapNext b ∈ t.out ∧ leAt b 0 2 = 0x4A4D ∧ leAt b 4 4 = (d.gen + 1) % 2 ^ 32 ∧ leAt b 8 8 = (s.mx mn).discId % 2 ^ 64) ∧
      (∀ w ∈ l, ∀ v ∈ t.host.wbuf, v.id ≠ w.id) ∧
      (s.mapZone mn ≤ d.mapNext + 1 → t.on .MECH_DISC_SEALED mn = true) ∧
      ∀ w c, l = [w] → w.buffered = false → w.floeDurable = false → s.ctx w.fn w.tag = some c → Answered w.fn w.tag 0 w.count (d.gen + 1) t) ∧
    (Completes (.mapAppend mn false) s fun t =>
      (t.disc mn).gen = d.gen ∧ (t.disc mn).mapNext = d.mapNext + 1 ∧ (t.disc mn).commits = d.commits.filter (fun c => !mine c) ∧
      (t.disc mn).appending = (d.appending ++ d.commits).filter mine ∧ (t.disc mn).extents = d.extents ∧ t.host.wbuf = s.host.wbuf)) ∧
  (∀ (mn : Mn) (ok : Bool) (s : State) (w : WbEntry), s.committing mn = [w] → s.appendReady mn = true → (s.grants mn).write = none → s.mayRequest 3 mn = true →
    s.neverFits (s.mechRequest 3 mn (if s.singleBeam mn then 1 else 4) 0 none) = true → w.mn = mn.val → w.fn < 256 →
    Completes (.mapAppend mn ok) s fun t => (t.disc mn).mapNext = (s.disc mn).mapNext ∧ (t.disc mn).gen = (s.disc mn).gen ∧
      (w.buffered = false → t.disc mn = s.disc mn ∧ t.host.wbuf = s.host.wbuf) ∧ (w.buffered = true → ∀ v ∈ t.host.wbuf, v.id ≠ w.id)) ∧
  (∀ (mn : Mn) (s : State), s.committing mn ≠ [] → s.on .MECH_STATE_MOUNTED mn = true → s.permit mn = true →
    let p := mapPlace (s.disc mn).mapNext
    let v := s.clusterSpeed mn (placeLayer p) (placeCluster p)
    (s.mst mn = 2 → s.on .MECH_STATE_BUSY mn = false → s.waiters (portOf mn) ≠ [] → Completes (.appendRetry mn) s fun t =>
      t.on .MECH_STATE_BUSY mn = true ∧ t.get .MECH_STATE_TARGET mn = 6 ∧ t.get .MECH_SPEED_TARGET mn = clampRpm (s.planned mn v v) ∧ (t.mx mn).waitSlot = some s.now) ∧
    (s.mst mn = 6 ∨ s.mst mn = 7 →
      let u := s.askLane mn ((s.laneOf mn).isNone && !s.laneWork mn)
      s.get .DRN_PSTAT_STATE ≠ 7 → u.mayRequest 3 mn = true → (∀ q ∈ u.breath.reqs, q.dom ≠ u.domOf mn) →
      u.neverFits (u.mechRequest 3 mn (if u.singleBeam mn then 1 else 4) 0 none) = false → u.grantNow (u.mechRequest 3 mn (if u.singleBeam mn then 1 else 4) 0 none) = true →
      Completes (.appendRetry mn) s fun t => (t.grants mn).write.isSome = true)) ∧
  (∀ (id : Fin 4096) (num : Nat) (s : State) (x : StripeX), (s.set_ id).stripe num = some x → x.isOpen = true →
    (s.now < x.opened + s.get .FLOE_GCFG_CLOSE_MS * 1000000 → Completes (.stripeCloseTimeout id num) s fun t => t = s) ∧
    (x.opened + s.get .FLOE_GCFG_CLOSE_MS * 1000000 ≤ s.now → Completes (.stripeCloseTimeout id num) s fun t =>
      (∃ y, (t.set_ id).stripe num = some y ∧ y.isOpen = false ∧ y.units = x.units) ∧ (x.units.length < (s.set_ id).k → t.on .FLOE_EVENT_FORCE_CLOSE = true) ∧
      ∀ n, 0 < (s.set_ id).m → s.memberMn id (s.set_ id).k = some n → s.on .MECH_DISC_SEALED n = false → (s.allocate n 28).isSome = true →
        ∃ w ∈ t.host.wbuf, w.mn = n ∧ w.lba = 28 * num ∧ w.stripe = some (id.val, num, (s.set_ id).k) ∧ w.data = accBlocks (x.accs.getD 0 []))) ∧
  (∀ (id : Fin 4096) (num : Nat) (s : State) (x : StripeX) (n : Nat), (s.set_ id).stripe num = some x → x.isOpen = false →
    (∀ e ∈ x.units, s.unitThere id x e.1 = true) → s.on .FLOE_GCFG_AUTO_RESYNC = true →
    let i := (s.set_ id).k
    let data := List.range (s.set_ id).k
    0 < (s.set_ id).m → i ∉ x.prot → s.parityPending id num i = false → s.memberMn id i = some n →
    (s.unitsWanted id x data ≠ [] → Completes (.resync id num) s fun t => (∀ e ∈ s.unitsWanted id x data, (t.readOf e.1 e.2.1 e.2.2).isSome = true) ∧ t.host.wbuf = s.host.wbuf) ∧
    ∀ bl, s.unitsWanted id x data = [] → s.rebuildUnit id x i (s.unitsRead id x data) = some bl → s.on .MECH_DISC_SEALED n = false → (s.allocate n bl.length).isSome = true →
      Completes (.resync id num) s fun t => ∃ w ∈ t.host.wbuf, w.mn = n ∧ w.lba = 28 * num ∧ w.stripe = some (id.val, num, i) ∧ w.data = bl)

/-- Floe sets: reconstruction and repair, scrub, rebuild, and FLOE_CONFIG define, delete and rebuild (R283, R284, R293, R294, R295, R296, R297, R298, R300, R379) -/
def Obligations.FloeSets : Prop :=
  (∀ (mn : Mn) (layer : Fin 16) (cluster : Nat) (s : State) (r : ClusterRead) (id i : Nat), s.readOf mn layer cluster = some r →
    s.memberOf mn = some (id, i) → r.done = true → unresolvedData r.sectors ≠ [] → i < (s.set_ id).k → r.reconFail = none →
    let x := ((s.set_ id).stripeAt i (place layer cluster)).getD { num := 0, units := [(i, place layer cluster)] }
    let lost := unresolvedData r.sectors
    let there := (((List.range (setSize (s.set_ id))).filter fun j => j != i).filter fun j => s.unitThere id x j).length
    let ins := s.inputsFor id x i lost
    let l := s.unitsRead id x ins
    (there < (s.set_ id).k → Completes (.floeReconstruct mn layer cluster) s fun t => t.on .FLOE_EVENT_RECON_FAIL = true ∧
      ∃ r', t.readOf mn layer cluster = some r' ∧ ∃ r0 r1, r'.reconFail = some (0x0701, r0, r1) ∧ r1 = id * 65536 + ((s.set_ id).k - there)) ∧
    ((s.set_ id).k ≤ there → s.unitsWanted id x ins ≠ [] → Completes (.floeReconstruct mn layer cluster) s fun t =>
      ∀ e ∈ s.unitsWanted id x ins, (t.readOf e.1 e.2.1 e.2.2).isSome = true) ∧
    ((s.set_ id).k ≤ there → s.unitsWanted id x ins = [] → (∀ j, j ≠ i → s.memberMn id j ≠ some mn.val) → Completes (.floeReconstruct mn layer cluster) s fun t =>
      ∃ r', t.readOf mn layer cluster = some r' ∧
      ((∃ b ∈ lost, s.rebuildBlock id x i l b = none) → r'.reconFail = some (0x0702, 0, 0) ∧ t.on .FLOE_EVENT_RECON_FAIL = true) ∧
      ((∀ b ∈ lost, (s.rebuildBlock id x i l b).isSome = true) → t.on .FLOE_EVENT_RECON = true ∧ r'.sectors.length = r.sectors.length ∧
        ∀ b v, b ∈ lost → b < r.sectors.length → s.rebuildBlock id x i l b = some v → r'.sectors.getD b .pending = .good (s.rebuiltBytes mn layer cluster b v)))) ∧
  (∀ (mn : Mn) (s : State) (r : RepairX) (id i : Nat) (x : StripeX), (s.chan.repairs.find? fun r => r.mn == mn.val) = some r → s.memberOf mn = some (id, i) →
    (s.set_ id).stripeAt i r.at_ = some x → Completes (.floeRepair mn) s fun t => r ∉ t.chan.repairs ∧
      (s.on .MECH_DISC_SEALED mn = true ∨ s.allocate mn r.blocks.length = none → t.on .FLOE_EVENT_RECON_FAIL = true) ∧
      (s.on .MECH_DISC_SEALED mn = false → (s.allocate mn r.blocks.length).isSome = true → ∃ w ∈ t.host.wbuf, w.mn = mn.val ∧ w.data = r.blocks ∧
        w.stripe = some (id, x.num, i) ∧ w.movedFrom = some r.at_)) ∧
  (∀ (id : Fin 4096) (s : State) (x : StripeX), s.get .FLOE_SCRUB_RATE ≠ 0 → (s.set_ id).used ≠ 0 → (s.set_ id).k ≠ 0 →
    (s.set_ id).stripe (s.set_ id).scrubNext = some x → x.isOpen = false → (s.set_ id).scrubNext < (s.set_ id).used →
    let f := s.set_ id
    (∀ i ∈ heldBy f x, ∃ n, s.memberMn id i = some n ∧ servoActive (s.mst n) = true) →
    let reads := s.unitsRead id x (heldBy f x)
    let unit := fun (i : Nat) => if i < f.k ∧ (x.place i).isNone then some (List.replicate unitLen 0)
      else (reads.find? fun r => r.member == i).bind fun r => if holdsUnit f x i then readUnit f x r else none
    let us := (List.range (setSize f)).filterMap fun i => (unit i).map fun v => (i, v)
    (s.now < f.scrubAt + 1000000000 / s.get .FLOE_SCRUB_RATE → Completes (.scrubTick id) s fun t => t = s) ∧
    (f.scrubAt + 1000000000 / s.get .FLOE_SCRUB_RATE ≤ s.now → s.unitsWanted id x (heldBy f x) ≠ [] → Completes (.scrubTick id) s fun t =>
      ∀ e ∈ s.unitsWanted id x (heldBy f x), (t.readOf e.1 e.2.1 e.2.2).isSome = true) ∧
    (f.scrubAt + 1000000000 / s.get .FLOE_SCRUB_RATE ≤ s.now → s.unitsWanted id x (heldBy f x) = [] → (∀ i ∈ heldBy f x, (unit i).isSome = true) →
      Completes (.scrubTick id) s fun t => (t.set_ id).scrubNext = (x.num + 1) % f.used ∧ (t.set_ id).scrubAt = s.now ∧
      t.get .FLOE_CNT_SCRUB_COUNT = min (s.get .FLOE_CNT_SCRUB_COUNT + 1) 0xFFFFFFFF ∧
      (agree f.k us none = true → t.host.wbuf = s.host.wbuf ∧ t.on .FLOE_EVENT_SCRUB_MISMATCH = s.on .FLOE_EVENT_SCRUB_MISMATCH) ∧
      (agree f.k us none = false → t.on .FLOE_EVENT_SCRUB_MISMATCH = true ∧ ∀ n, f.m = 1 → s.memberMn id f.k = some n → s.on .MECH_DISC_SEALED n = false →
        (s.allocate n 28).isSome = true → ∃ w ∈ t.host.wbuf, w.mn = n ∧ w.lba = 28 * x.num ∧ w.data = unitFrom f.k us f.k))) ∧
  (∀ (id : Fin 4096) (s : State) (r : RebuildX), (s.set_ id).rebuild = some r →
    let f := s.set_ id
    let next := nextStripe (rebuildStripes f r.member) r.next
    Completes (.rebuildStep id) s fun t =>
      (s.on .MECH_STATE_MOUNTED r.target = false → (t.set_ id).rebuild = none ∧ (t.set_ id).last = (r.member, r.lost, 2, r.done) ∧ t.on .FLOE_EVENT_REBUILD_FAIL = true) ∧
      (s.on .MECH_STATE_MOUNTED r.target = true → next = none → (∀ w ∈ s.host.wbuf, w.mn ≠ r.target) → (t.set_ id).rebuild = none ∧
        (t.set_ id).last = (r.member, r.lost, 0, r.done) ∧ (t.set_ id).members = f.members.set r.member (s.mx r.target).discId ∧ t.on .FLOE_EVENT_REBUILD_DONE = true) ∧
      ∀ x, s.on .MECH_STATE_MOUNTED r.target = true → next = some x →
        let there := ((List.range (setSize f)).filter fun j => j != r.member && s.unitThere id x j).length
        let ins := s.inputsFor id x r.member (List.range 28)
        (there < f.k → (t.set_ id).rebuild = some { r with wait := true }) ∧
        (f.k ≤ there → s.unitsWanted id x ins ≠ [] → (t.set_ id).rebuild = some { r with wait := false } ∧
          ∀ e ∈ s.unitsWanted id x ins, (t.readOf e.1 e.2.1 e.2.2).isSome = true) ∧
        (f.k ≤ there → s.unitsWanted id x ins = [] → s.rebuildUnit id x r.member (s.unitsRead id x ins) = none →
          (t.set_ id).rebuild = none ∧ (t.set_ id).last = (r.member, r.lost, 3, r.done) ∧ t.on .FLOE_EVENT_REBUILD_FAIL = true) ∧
        ∀ bl, f.k ≤ there → s.unitsWanted id x ins = [] → s.rebuildUnit id x r.member (s.unitsRead id x ins) = some bl → s.on .MECH_DISC_SEALED r.target = false →
          (s.allocate r.target bl.length).isSome = true →
          (t.set_ id).rebuild = some { r with next := x.num + 1, wait := false } ∧ ∃ w ∈ t.host.wbuf, w.mn = r.target ∧ w.data = bl ∧ w.stripe = some (id.val, x.num, r.member)) ∧
  (∀ (fn : FnIx) (tag : Nat) (data : List Nat) (s : State) (c : Ctx), AdminCmd s fn tag 0x8B c → specByte c.d 0 = 1 → leAt data 4 2 = c.d.floeId →
    Completes (.floeDefine fn tag data .done) s fun t => (s.setRefused data = true → Ended fn tag 0x0707 t ∧ t.floe = s.floe) ∧
      (s.setRefused data = false → Ended fn tag 0 t ∧ (t.set_ c.d.floeId).k = leAt data 6 1 ∧ (t.set_ c.d.floeId).m = leAt data 7 1 ∧
        (t.set_ c.d.floeId).members = (List.range (leAt data 6 1 + leAt data 7 1)).map fun i => leAt data (0x40 + 8 * i) 8)) ∧
  (∀ (fn : FnIx) (tag : Nat) (s : State) (c : Ctx), AdminCmd s fn tag 0x8B c → specByte c.d 0 = 2 →
    let f := s.set_ c.d.floeId
    Completes (.floeDelete fn tag) s fun t => (f.k = 0 → Ended fn tag 0x0104 t ∧ t.floe = s.floe) ∧ (f.k ≠ 0 → f.rebuild.isSome = true → Ended fn tag 0x0708 t ∧ t.floe = s.floe) ∧
      (f.k ≠ 0 → f.rebuild = none → f.open_ = [] → (∀ w ∈ s.host.wbuf, w.stripe.map (·.1) ≠ some c.d.floeId) → Ended fn tag 0 t ∧ (t.set_ c.d.floeId).k = 0) ∧
      (f.k ≠ 0 → f.rebuild = none → (∃ w ∈ s.host.wbuf, w.stripe.map (·.1) = some c.d.floeId) → (t.set_ c.d.floeId).deleting = some (fn.val, tag) ∧ (t.ctx fn tag).isSome = true)) ∧
  (∀ (fn : FnIx) (tag : Nat) (s : State) (c : Ctx), AdminCmd s fn tag 0x8B c → specByte c.d 0 = 3 → c.started = false →
    let f := s.set_ c.d.floeId
    let i := specByte c.d 1
    let n := c.d.mn
    let fit := s.on .MECH_STATE_MOUNTED n = true ∧ s.blankDisc n = true ∧ tabGet f.layers i 0 ≤ s.get .MECH_DISC_LAYERS n
    Completes (.floeRebuild fn tag) s fun t => (f.k = 0 ∨ setSize f ≤ i → Ended fn tag 0x0104 t) ∧
      (f.k ≠ 0 → i < setSize f → f.rebuild.isSome = true → Ended fn tag 0x0708 t) ∧ (f.k ≠ 0 → i < setSize f → f.rebuild = none → ¬ fit → Ended fn tag 0x0706 t) ∧
      (f.k ≠ 0 → i < setSize f → f.rebuild = none → fit → (∃ r, (t.set_ c.d.floeId).rebuild = some r ∧ r.member = i ∧ r.target = n ∧ r.next = 0) ∧
        (bitAt c.d.flags 0 ≠ 1 → Ended fn tag 0 t)))

/-- Every platform, memory, management, host and safety command leaves alone all that it may not write: registers, parts of State, the queue (spec/12_host_ports_and_rings.md, spec/21_register_index.md) -/
def Obligations.PlatformAndHostFrames : Prop :=
  ∀ (c : Instr) (regs : List Reg) (parts : List Part), touchesHost c = some (regs, parts) → Framed c regs parts

/-- Every mechanism, servo, spindle, cluster, calibration and port command leaves alone all that it may not write: registers, parts of State, the queue (spec/21_register_index.md) -/
def Obligations.MechanismFrames : Prop :=
  ∀ (c : Instr) (regs : List Reg) (parts : List Part), touchesMechanism c = some (regs, parts) → Framed c regs parts

/-- Every lane, decoder, map, floe and media command leaves alone all that it may not write: registers, parts of State, the queue (spec/21_register_index.md) -/
def Obligations.DataPathFrames : Prop :=
  ∀ (c : Instr) (regs : List Reg) (parts : List Part), touchesData c = some (regs, parts) → Framed c regs parts
end

