-- ==== Sys2Proof/Laws/Fields.lean ====
section
/-! SUPPORT. Bit fields of a dword: what a field reads after it, or another field of the dword, is written (Machine/Fields.lean). -/

namespace Sys2Proof.Laws

open Sys2Proof.Machine

theorem bitsOf_lt (w : Word) (lo n : Nat) : bitsOf w lo n < 2 ^ n := Nat.mod_lt _ (Nat.two_pow_pos n)

theorem withBits_toNat (w : Word) (lo n v : Nat) (h : lo + n ≤ 32) :
    (withBits w lo n v).toNat = w.toNat % 2 ^ lo + v % 2 ^ n * 2 ^ lo + w.toNat / 2 ^ (lo + n) * 2 ^ (lo + n) := by
  unfold withBits
  rw [BitVec.toNat_ofNat, Nat.mod_eq_of_lt]
  have hw := w.isLt
  have h1 : w.toNat % 2 ^ lo < 2 ^ lo := Nat.mod_lt _ (Nat.two_pow_pos lo)
  have h2 : v % 2 ^ n < 2 ^ n := Nat.mod_lt _ (Nat.two_pow_pos n)
  have h3 : w.toNat % 2 ^ lo + v % 2 ^ n * 2 ^ lo < 2 ^ (lo + n) := by
    have : (v % 2 ^ n + 1) * 2 ^ lo ≤ 2 ^ n * 2 ^ lo := Nat.mul_le_mul_right _ h2
    rw [Nat.pow_add, Nat.mul_comm (2 ^ lo)]
    nlinarith
  have h4 : w.toNat / 2 ^ (lo + n) + 1 ≤ 2 ^ (32 - (lo + n)) := by
    have : w.toNat / 2 ^ (lo + n) < 2 ^ (32 - (lo + n)) := by
      rw [Nat.div_lt_iff_lt_mul (Nat.two_pow_pos _), ← Nat.pow_add, Nat.sub_add_cancel h]
      exact hw
    exact this
  have h5 := Nat.mul_le_mul_right (2 ^ (lo + n)) h4
  rw [← Nat.pow_add, Nat.sub_add_cancel h] at h5
  nlinarith

theorem bitsOf_withBits (w : Word) (lo n v : Nat) (h : lo + n ≤ 32) : bitsOf (withBits w lo n v) lo n = v % 2 ^ n := by
  unfold bitsOf
  rw [withBits_toNat w lo n v h]
  have h1 : w.toNat % 2 ^ lo < 2 ^ lo := Nat.mod_lt _ (Nat.two_pow_pos lo)
  have : w.toNat % 2 ^ lo + v % 2 ^ n * 2 ^ lo + w.toNat / 2 ^ (lo + n) * 2 ^ (lo + n) =
      w.toNat % 2 ^ lo + 2 ^ lo * (v % 2 ^ n + 2 ^ n * (w.toNat / 2 ^ (lo + n))) := by
    rw [Nat.pow_add]; ring
  rw [this, Nat.add_mul_div_left _ _ (Nat.two_pow_pos lo), Nat.div_eq_of_lt h1, Nat.zero_add, Nat.add_mul_mod_self_left,
    Nat.mod_eq_of_lt (Nat.mod_lt _ (Nat.two_pow_pos n))]

/-- A field below the one written. -/
theorem bitsOf_withBits_below (w : Word) (lo n v lo' n' : Nat) (h : lo + n ≤ 32) (hd : lo' + n' ≤ lo) :
    bitsOf (withBits w lo n v) lo' n' = bitsOf w lo' n' := by
  unfold bitsOf
  rw [withBits_toNat w lo n v h]
  obtain ⟨k, rfl⟩ := Nat.exists_eq_add_of_le hd
  have e1 : ∀ x : Nat, x / 2 ^ lo' % 2 ^ n' = x % 2 ^ (lo' + n') / 2 ^ lo' := by
    intro x; rw [Nat.pow_add, Nat.mod_mul_right_div_self]
  rw [e1, e1]
  congr 1
  have : w.toNat % 2 ^ (lo' + n' + k) + v % 2 ^ n * 2 ^ (lo' + n' + k) + w.toNat / 2 ^ (lo' + n' + k + n) * 2 ^ (lo' + n' + k + n) =
      w.toNat % 2 ^ (lo' + n' + k) + 2 ^ (lo' + n') * (v % 2 ^ n * 2 ^ k + w.toNat / 2 ^ (lo' + n' + k + n) * 2 ^ (k + n)) := by
    rw [Nat.pow_add 2 (lo' + n' + k) n, Nat.pow_add 2 (lo' + n') k, Nat.pow_add 2 k n]; ring
  rw [this, Nat.add_mul_mod_self_left, Nat.pow_add 2 (lo' + n') k, Nat.mod_mul_right_mod]

/-- A field above the one written. -/
theorem bitsOf_withBits_above (w : Word) (lo n v lo' n' : Nat) (h : lo + n ≤ 32) (hd : lo + n ≤ lo') :
    bitsOf (withBits w lo n v) lo' n' = bitsOf w lo' n' := by
  unfold bitsOf
  rw [withBits_toNat w lo n v h]
  congr 1
  obtain ⟨k, rfl⟩ := Nat.exists_eq_add_of_le hd
  have h1 : w.toNat % 2 ^ lo < 2 ^ lo := Nat.mod_lt _ (Nat.two_pow_pos lo)
  have h2 : v % 2 ^ n < 2 ^ n := Nat.mod_lt _ (Nat.two_pow_pos n)
  have h3 : w.toNat % 2 ^ lo + v % 2 ^ n * 2 ^ lo < 2 ^ (lo + n) := by
    have : (v % 2 ^ n + 1) * 2 ^ lo ≤ 2 ^ n * 2 ^ lo := Nat.mul_le_mul_right _ h2
    rw [Nat.pow_add, Nat.mul_comm (2 ^ lo)]
    nlinarith
  rw [Nat.pow_add 2 (lo + n) k, ← Nat.div_div_eq_div_mul, ← Nat.div_div_eq_div_mul]
  congr 1
  rw [Nat.add_mul_div_right _ _ (Nat.two_pow_pos _), Nat.div_eq_of_lt h3, Nat.zero_add]

theorem withBits_self (w : Word) (lo n : Nat) (h : lo + n ≤ 32) : withBits w lo n (bitsOf w lo n) = w := by
  apply BitVec.eq_of_toNat_eq
  rw [withBits_toNat _ _ _ _ h]
  unfold bitsOf
  rw [Nat.mod_mod, Nat.pow_add, ← Nat.div_div_eq_div_mul]
  have a := Nat.mod_add_div (w.toNat / 2 ^ lo) (2 ^ n)
  have b := Nat.mod_add_div w.toNat (2 ^ lo)
  calc w.toNat % 2 ^ lo + w.toNat / 2 ^ lo % 2 ^ n * 2 ^ lo + w.toNat / 2 ^ lo / 2 ^ n * (2 ^ lo * 2 ^ n)
      = w.toNat % 2 ^ lo + 2 ^ lo * (w.toNat / 2 ^ lo % 2 ^ n + 2 ^ n * (w.toNat / 2 ^ lo / 2 ^ n)) := by ring
    _ = w.toNat := by rw [a, b]

end Sys2Proof.Laws
end

