-- ==== Sys2Proof/Laws/Tab.lean ====
section
/-! SUPPORT. Reading a sparse table after a write, and its rising form (Machine/Tab.lean). None of the read laws needs the rising form. -/

namespace Sys2Proof.Laws

open Sys2Proof.Machine

variable {α : Type}

theorem tabGet_tabIns_same (t : Tab α) (k : Nat) (v d : α) : tabGet (tabIns t k v) k d = v := by
  induction t with
  | nil => simp [tabIns, tabGet]
  | cons e r ih =>
    obtain ⟨k', v'⟩ := e
    simp only [tabIns]
    split
    · simp [tabGet]
    · split
      · simp [tabGet]
      · have : k' ≠ k := by omega
        simp [tabGet, this, ih]

theorem tabGet_tabIns_ne (t : Tab α) {k k' : Nat} (h : k ≠ k') (v d : α) : tabGet (tabIns t k v) k' d = tabGet t k' d := by
  induction t with
  | nil => simp [tabIns, tabGet, h]
  | cons e r ih =>
    obtain ⟨k1, v1⟩ := e
    simp only [tabIns]
    split
    · simp [tabGet, h]
    · split
      · rename_i hk
        subst hk
        simp [tabGet, h]
      · simp only [tabGet, ih]

/-- Reading after a filter that keeps every entry of the key read. -/
theorem tabGet_filter (t : Tab α) (p : Nat × α → Bool) (k : Nat) (d : α) (h : ∀ v, p (k, v) = true) :
    tabGet (t.filter p) k d = tabGet t k d := by
  induction t with
  | nil => rfl
  | cons e r ih =>
    obtain ⟨k1, v1⟩ := e
    by_cases hk : k1 = k
    · subst hk
      simp [h, tabGet]
    · by_cases hp : p (k1, v1) = true
      · simp [hp, tabGet, hk, ih]
      · simp [hp, tabGet, hk, ih]

/-- Reading after a filter that drops every entry of the key read. -/
theorem tabGet_filter_out (t : Tab α) (p : Nat × α → Bool) (k : Nat) (d : α) (h : ∀ v, p (k, v) = false) :
    tabGet (t.filter p) k d = d := by
  induction t with
  | nil => rfl
  | cons e r ih =>
    obtain ⟨k1, v1⟩ := e
    by_cases hp : p (k1, v1) = true
    · have hk : k1 ≠ k := by
        rintro rfl
        simp [h] at hp
      simp [hp, tabGet, hk, ih]
    · simp [hp, ih]

theorem tabGet_tabDel_same (t : Tab α) (k : Nat) (d : α) : tabGet (tabDel t k) k d = d :=
  tabGet_filter_out t _ k d (by simp)

theorem tabGet_tabDel_ne (t : Tab α) {k k' : Nat} (h : k ≠ k') (d : α) : tabGet (tabDel t k) k' d = tabGet t k' d :=
  tabGet_filter t _ k' d (by simp; omega)

@[simp] theorem tabGet_tabPut_same [DecidableEq α] (t : Tab α) (k : Nat) (v d : α) : tabGet (tabPut t k v d) k d = v := by
  unfold tabPut
  split
  · rename_i h
    rw [tabGet_tabDel_same, h]
  · exact tabGet_tabIns_same t k v d

theorem tabGet_tabPut_ne [DecidableEq α] (t : Tab α) {k k' : Nat} (h : k ≠ k') (v d d' : α) :
    tabGet (tabPut t k v d) k' d' = tabGet t k' d' := by
  unfold tabPut
  split
  · exact tabGet_tabDel_ne t h d'
  · exact tabGet_tabIns_ne t h v d'

@[simp] theorem tabGet_tabMod_same [DecidableEq α] (t : Tab α) (k : Nat) (d : α) (f : α → α) :
    tabGet (tabMod t k d f) k d = f (tabGet t k d) := tabGet_tabPut_same t k _ d

theorem tabGet_tabMod_ne [DecidableEq α] (t : Tab α) {k k' : Nat} (h : k ≠ k') (d d' : α) (f : α → α) :
    tabGet (tabMod t k d f) k' d' = tabGet t k' d' := tabGet_tabPut_ne t h _ d d'

/-- The keys of a rising table are above its first key. -/
theorem tabSorted_cons {e : Nat × α} {r : Tab α} (h : tabSorted (e :: r) = true) :
    tabSorted r = true ∧ ∀ x ∈ r, e.1 < x.1 := by
  induction r generalizing e with
  | nil => exact ⟨rfl, by simp⟩
  | cons b r ih =>
    simp only [tabSorted, Bool.and_eq_true, decide_eq_true_eq] at h
    refine ⟨h.2, ?_⟩
    intro x hx
    rcases List.mem_cons.mp hx with rfl | hx
    · exact h.1
    · exact h.1.trans ((ih h.2).2 x hx)

theorem tabSorted_of_cons {e : Nat × α} {r : Tab α} (h : tabSorted r = true) (hb : ∀ x ∈ r, e.1 < x.1) :
    tabSorted (e :: r) = true := by
  cases r with
  | nil => rfl
  | cons b r =>
    simp only [tabSorted, Bool.and_eq_true, decide_eq_true_eq]
    exact ⟨hb b (by simp), h⟩

theorem mem_tabIns {t : Tab α} {k : Nat} {v : α} {x : Nat × α} (h : x ∈ tabIns t k v) : x.1 = k ∨ x ∈ t := by
  induction t with
  | nil => simp [tabIns] at h; simp [h]
  | cons e r ih =>
    obtain ⟨k', v'⟩ := e
    simp only [tabIns] at h
    split at h
    · rcases List.mem_cons.mp h with rfl | h
      · exact .inl rfl
      · exact .inr h
    · split at h
      · rcases List.mem_cons.mp h with rfl | h
        · exact .inl rfl
        · exact .inr (List.mem_cons_of_mem _ h)
      · rcases List.mem_cons.mp h with rfl | h
        · exact .inr (by simp)
        · rcases ih h with h | h
          · exact .inl h
          · exact .inr (List.mem_cons_of_mem _ h)

theorem tabSorted_tabIns {t : Tab α} (h : tabSorted t = true) (k : Nat) (v : α) : tabSorted (tabIns t k v) = true := by
  induction t with
  | nil => rfl
  | cons e r ih =>
    obtain ⟨k', v'⟩ := e
    obtain ⟨hr, hb⟩ := tabSorted_cons h
    simp only [tabIns]
    split
    · rename_i hk
      simp only [tabSorted, Bool.and_eq_true, decide_eq_true_eq]
      exact ⟨hk, h⟩
    · split
      · rename_i hk
        subst hk
        exact tabSorted_of_cons hr hb
      · refine tabSorted_of_cons (ih hr) ?_
        intro x hx
        rcases mem_tabIns hx with hx | hx
        · simp only [hx]; omega
        · exact hb x hx

theorem tabSorted_filter {t : Tab α} (h : tabSorted t = true) (p : Nat × α → Bool) : tabSorted (t.filter p) = true := by
  induction t with
  | nil => rfl
  | cons e r ih =>
    obtain ⟨hr, hb⟩ := tabSorted_cons h
    rw [List.filter_cons]
    split
    · exact tabSorted_of_cons (ih hr) (fun x hx => hb x (List.mem_filter.mp hx).1)
    · exact ih hr

/-- A write keeps the rising form. -/
theorem tabSorted_tabPut [DecidableEq α] {t : Tab α} (h : tabSorted t = true) (k : Nat) (v d : α) : tabSorted (tabPut t k v d) = true := by
  unfold tabPut
  split
  · exact tabSorted_filter h _
  · exact tabSorted_tabIns h k v

end Sys2Proof.Laws
end

