-- ==== Sys2Proof/Laws/Regs.lean ====
section
/-! SUPPORT. Reading the register file after a write (Machine/Ops.lean): the register written, another register, the field written, another
field. -/

namespace Sys2Proof.Laws

open Sys2Proof.Machine

/-- The least address above every register of the array. -/
def regEnd (r : Reg) : Nat := r.base + (max r.count 1 - 1) * r.stride + (max r.count2 1 - 1) * r.stride2 + 1

theorem addr_range {r : Reg} {i j : Nat} (h : r.has i j = true) : r.base ≤ r.addr i j ∧ r.addr i j < regEnd r := by
  simp only [Reg.has, Bool.and_eq_true, decide_eq_true_eq] at h
  obtain ⟨hi, hj⟩ := h
  unfold Reg.addr regEnd
  have a : i * r.stride ≤ (max r.count 1 - 1) * r.stride := Nat.mul_le_mul_right _ (by omega)
  have b : j * r.stride2 ≤ (max r.count2 1 - 1) * r.stride2 := Nat.mul_le_mul_right _ (by omega)
  omega

theorem rd_wr_same (s : State) (r : Reg) (i j : Nat) (v : Word) (h : r.has i j = true) : (s.wr r i j v).rd r i j = v := by
  simp [State.wr, State.rd, h]

/-- Another register: its addresses are not the one written. -/
theorem rd_wr_addr (s : State) (r r' : Reg) (i j i' j' : Nat) (v : Word) (h : r.has i j = true → r'.has i' j' = true → r.addr i j ≠ r'.addr i' j') :
    (s.wr r i j v).rd r' i' j' = s.rd r' i' j' := by
  unfold State.wr State.rd
  by_cases h1 : r.has i j = true
  · by_cases h2 : r'.has i' j' = true
    · simp [h1, h2, tabGet_tabPut_ne _ (h h1 h2)]
    · simp [h2]
  · simp [h1]

/-- Another index of the same array. -/
theorem rd_wr_index (s : State) (r : Reg) (i j i' j' : Nat) (v : Word) (h : r.addr i j ≠ r.addr i' j') :
    (s.wr r i j v).rd r i' j' = s.rd r i' j' := rd_wr_addr s r r i j i' j' v fun _ _ => h

/-- Two arrays whose address ranges do not meet. -/
def apart (r r' : Reg) : Bool := decide (regEnd r ≤ r'.base) || decide (regEnd r' ≤ r.base)

theorem rd_wr_apart (s : State) (r r' : Reg) (i j i' j' : Nat) (v : Word) (h : apart r r' = true) :
    (s.wr r i j v).rd r' i' j' = s.rd r' i' j' := by
  refine rd_wr_addr s r r' i j i' j' v fun h1 h2 => ?_
  have a := addr_range h1
  have b := addr_range h2
  simp only [apart, Bool.or_eq_true, decide_eq_true_eq] at h
  omega

/-- Two arrays with one stride, interleaved: their first registers differ within the stride (an array in one index). -/
def comb (r r' : Reg) : Bool :=
  decide (r.count2 ≤ 1) && decide (r'.count2 ≤ 1) && r.stride == r'.stride && decide (0 < r.stride) && decide (r.base % r.stride ≠ r'.base % r.stride)

theorem rd_wr_comb (s : State) (r r' : Reg) (i j i' j' : Nat) (v : Word) (h : comb r r' = true) :
    (s.wr r i j v).rd r' i' j' = s.rd r' i' j' := by
  simp only [comb, Bool.and_eq_true, decide_eq_true_eq, beq_iff_eq] at h
  obtain ⟨⟨⟨⟨c1, c2⟩, hs⟩, hp⟩, hb⟩ := h
  refine rd_wr_addr s r r' i j i' j' v fun h1 h2 he => hb ?_
  simp only [Reg.has, Bool.and_eq_true, decide_eq_true_eq] at h1 h2
  have hj : j = 0 := by omega
  have hj' : j' = 0 := by omega
  subst hj hj'
  simp only [Reg.addr, Nat.zero_mul, Nat.add_zero] at he
  have := congrArg (· % r.stride) he
  simpa [hs, Nat.add_mul_mod_self_right] using this

/-- A field lies within its dword. -/
def Fld.fits (f : Fld) : Bool := decide (f.lo + f.width ≤ 32)

theorem get_set_same (s : State) (f : Fld) (i j v : Nat) (hi : f.reg.has i j = true) (hf : Fld.fits f = true) :
    (s.set2 f i j v).get f i j = v % 2 ^ f.width := by
  unfold State.set2 State.get
  rw [rd_wr_same _ _ _ _ _ hi, bitsOf_withBits _ _ _ _ (by simpa [Fld.fits] using hf)]

/-- Another field of the same register. -/
theorem get_set_field (s : State) (f g : Fld) (i j v : Nat) (hr : g.reg = f.reg) (hf : Fld.fits f = true)
    (hd : f.lo + f.width ≤ g.lo ∨ g.lo + g.width ≤ f.lo) : (s.set2 f i j v).get g i j = s.get g i j := by
  unfold State.set2 State.get
  have hf' : f.lo + f.width ≤ 32 := by simpa [Fld.fits] using hf
  rw [hr]
  by_cases hi : f.reg.has i j = true
  · rw [rd_wr_same _ _ _ _ _ hi]
    rcases hd with hd | hd
    · exact bitsOf_withBits_above _ _ _ _ _ _ hf' hd
    · exact bitsOf_withBits_below _ _ _ _ _ _ hf' hd
  · simp [State.wr, hi]

/-- A field of another register. -/
theorem get_set_apart (s : State) (f g : Fld) (i j i' j' v : Nat) (h : apart f.reg g.reg = true) :
    (s.set2 f i j v).get g i' j' = s.get g i' j' := by
  unfold State.set2 State.get
  rw [rd_wr_apart _ _ _ _ _ _ _ _ h]

theorem get_set_comb (s : State) (f g : Fld) (i j i' j' v : Nat) (h : comb f.reg g.reg = true) :
    (s.set2 f i j v).get g i' j' = s.get g i' j' := by
  unfold State.set2 State.get
  rw [rd_wr_comb _ _ _ _ _ _ _ _ h]

/-- A write keeps the rising form of the register table. -/
theorem regs_sorted_wr (s : State) (r : Reg) (i j : Nat) (v : Word) (h : tabSorted s.regs = true) : tabSorted (s.wr r i j v).regs = true := by
  unfold State.wr
  split
  · exact tabSorted_tabPut h _ _ _
  · exact h

end Sys2Proof.Laws
end

