-- ==== Sys2Proof/Laws/Foot.lean ====
section
/-! SUPPORT. What an operation leaves alone. An `Item` is a dword of the register file or a part of the state; a `Spot` is what an operation may
write; `itm q s` is what s holds at q. The Foot files give each operation the list of its spots and say that it leaves every item off them as it
was. -/

namespace Sys2Proof.Laws

open Sys2Proof.Machine

/-- What an operation may write: the register of a field, a register array, a part of the state, anything. -/
inductive Spot where
  | f (x : Fld)
  | r (x : Reg)
  | p (x : Part)
  | any

/-- A dword of the register file, or a part of the state. -/
inductive Item where
  | reg (r : Reg) (i j : Nat)
  | part (p : Part)

/-- The last offset within one stride that the registers of an array take. -/
def span (r : Reg) : Nat := r.base % r.stride + (max r.count2 1 - 1) * r.stride2

/-- Two arrays with one stride whose registers take different places within it. -/
def weave (r r' : Reg) : Bool :=
  r.stride == r'.stride && decide (span r < r.stride) && decide (span r' < r.stride) &&
  (decide (span r < r'.base % r.stride) || decide (span r' < r.base % r.stride))

/-- Two arrays without a common address. -/
def disj (r r' : Reg) : Bool := apart r r' || weave r r'

theorem rd_wr_disj (s : State) (r r' : Reg) (i j i' j' : Nat) (v : Word) (h : disj r r' = true) :
    (s.wr r i j v).rd r' i' j' = s.rd r' i' j' := by
  rcases Bool.or_eq_true _ _ ▸ h with h | h
  · exact rd_wr_apart _ _ _ _ _ _ _ _ h
  · simp only [weave, Bool.and_eq_true, Bool.or_eq_true, decide_eq_true_eq, beq_iff_eq] at h
    obtain ⟨⟨⟨hs, h1⟩, h2⟩, h3⟩ := h
    refine rd_wr_addr s r r' i j i' j' v fun a b he => ?_
    simp only [Reg.has, Bool.and_eq_true, decide_eq_true_eq] at a b
    have ja : j * r.stride2 ≤ (max r.count2 1 - 1) * r.stride2 := Nat.mul_le_mul_right _ (by omega)
    have jb : j' * r'.stride2 ≤ (max r'.count2 1 - 1) * r'.stride2 := Nat.mul_le_mul_right _ (by omega)
    unfold span at h1 h2 h3
    rw [← hs] at h2 h3
    have ea : r.addr i j % r.stride = r.base % r.stride + j * r.stride2 := by
      unfold Reg.addr
      have : r.base + i * r.stride + j * r.stride2 = (r.base + j * r.stride2) + i * r.stride := by omega
      rw [this, Nat.add_mul_mod_self_right, Nat.add_mod, Nat.mod_eq_of_lt (a := j * r.stride2) (by omega), Nat.mod_eq_of_lt (by omega)]
    have eb : r'.addr i' j' % r.stride = r'.base % r.stride + j' * r'.stride2 := by
      unfold Reg.addr
      rw [← hs]
      have : r'.base + i' * r.stride + j' * r'.stride2 = (r'.base + j' * r'.stride2) + i' * r.stride := by omega
      rw [this, Nat.add_mul_mod_self_right, Nat.add_mod, Nat.mod_eq_of_lt (a := j' * r'.stride2) (by omega), Nat.mod_eq_of_lt (by omega)]
    have := congrArg (· % r.stride) he
    simp only [ea, eb] at this
    omega

/-- The item is none that the spot covers. -/
def Item.clear (q : Item) (x : Spot) : Bool :=
  match q, x with
  | _, .any => false
  | .reg r _ _, .f x => disj x.reg r
  | .reg r _ _, .r x => disj x r
  | .reg _ _ _, .p _ => true
  | .part p, .p x => p != x
  | .part _, _ => true

/-- The item is off every spot of a list. -/
def Item.off (q : Item) (l : List Spot) : Bool := l.all q.clear

@[simp] theorem off_nil (q : Item) : q.off [] = true := rfl
@[simp] theorem off_append (q : Item) (a b : List Spot) : q.off (a ++ b) = (q.off a && q.off b) := List.all_append

/-- The spots of an operation: those of the operations it calls, and its own. -/
def spots (a : List (List Spot)) (b : List Spot) : List Spot := a.flatten ++ b

theorem off_spots (q : Item) (a : List (List Spot)) (b : List Spot) : q.off (spots a b) = (a.all q.off && q.off b) := by
  unfold spots
  rw [off_append]
  congr 1
  induction a with
  | nil => rfl
  | cons l a ih => rw [List.flatten_cons, off_append, List.all_cons, ih]

theorem off_cons_cons (q : Item) (x y : Spot) (l : List Spot) : q.off (x :: y :: l) = (q.off [x] && q.off (y :: l)) := off_append q [x] (y :: l)

theorem off_f_iff (q : Item) (x : Fld) : q.off [.f x] = q.off [.r x.reg] := by cases q <;> rfl

theorem off_any {q : Item} (h : q.off [.any] = true) : False := by cases q <;> cases h

/-- What s holds at the item. -/
def itm (q : Item) (s : State) : Word × State :=
  match q with
  | .reg r i j => (s.rd r i j, State.reset)
  | .part p => (0, pick p s)

section
variable {q : Item}

@[simp] theorem it_ite (c : Prop) [Decidable c] (a b : State) : itm q (if c then a else b) = if c then itm q a else itm q b := by
  split <;> rfl

@[simp] theorem it_wr (s : State) (r : Reg) (i j : Nat) (v : Word) (h : q.off [.r r] = true) : itm q (s.wr r i j v) = itm q s := by
  cases q with
  | reg r' i' j' =>
    refine congrArg (·, State.reset) (rd_wr_disj _ _ _ _ _ _ _ _ ?_)
    simpa [Item.off, Item.clear] using h
  | part p =>
    refine congrArg ((0 : Word), ·) ?_
    unfold State.wr
    split
    · cases p <;> rfl
    · rfl

@[simp] theorem it_set2 (s : State) (f : Fld) (i j v : Nat) (h : q.off [.f f] = true) : itm q (s.set2 f i j v) = itm q s :=
  it_wr _ _ _ _ _ (off_f_iff q f ▸ h)
@[simp] theorem it_set (s : State) (f : Fld) (i v : Nat) (h : q.off [.f f] = true) : itm q (s.set f i v) = itm q s := it_set2 _ _ _ _ _ h
@[simp] theorem it_set0 (s : State) (f : Fld) (v : Nat) (h : q.off [.f f] = true) : itm q (s.set0 f v) = itm q s := it_set2 _ _ _ _ _ h

@[simp] theorem it_setIf (s : State) (c : Bool) (f : Fld) (i v : Nat) (h : q.off [.f f] = true) : itm q (s.setIf c f i v) = itm q s := by
  unfold State.setIf
  split <;> simp [h]

@[simp] theorem it_raise (s : State) (f : Fld) (i : Nat) (h : q.off [.f f] = true) : itm q (s.raise f i) = itm q s := it_set2 _ _ _ _ _ h
@[simp] theorem it_bumpBy (s : State) (f : Fld) (i n : Nat) (h : q.off [.f f] = true) : itm q (s.bumpBy f i n) = itm q s := it_set2 _ _ _ _ _ h
@[simp] theorem it_bump (s : State) (f : Fld) (i : Nat) (h : q.off [.f f] = true) : itm q (s.bump f i) = itm q s := it_set2 _ _ _ _ _ h
@[simp] theorem it_bumpWrap (s : State) (f : Fld) (i : Nat) (h : q.off [.f f] = true) : itm q (s.bumpWrap f i) = itm q s := it_set2 _ _ _ _ _ h

@[simp] theorem it_set64 (s : State) (lo hi : Fld) (i v : Nat) (h : q.off [.f lo] = true) (h' : q.off [.f hi] = true) :
    itm q (s.set64 lo hi i v) = itm q s := by
  unfold State.set64
  rw [it_set _ _ _ _ h', it_set _ _ _ _ h]

@[simp] theorem it_forEach {α : Type} (s : State) (l : List α) (f : State → α → State) (h : ∀ t a, itm q (f t a) = itm q t) :
    itm q (s.forEach l f) = itm q s := by
  unfold State.forEach
  induction l generalizing s with
  | nil => rfl
  | cons a r ih => rw [List.foldl_cons, ih, h]

theorem it_forEach_mem {α : Type} (s : State) (l : List α) (f : State → α → State) (h : ∀ a ∈ l, ∀ t, itm q (f t a) = itm q t) :
    itm q (s.forEach l f) = itm q s := by
  unfold State.forEach
  induction l generalizing s with
  | nil => rfl
  | cons a r ih => rw [List.foldl_cons, ih _ fun b hb => h b (List.mem_cons_of_mem a hb), h a List.mem_cons_self]

theorem it_fst {α : Type} {p : State × α} {t s : State} {a : α} (h : p = (t, a)) (k : itm q p.1 = itm q s) : itm q t = itm q s := by
  rw [h] at k; exact k

@[simp] theorem it_foldl {α : Type} (s : State) (l : List α) (f : State → α → State) (h : ∀ t a, itm q (f t a) = itm q t) :
    itm q (l.foldl f s) = itm q s := it_forEach s l f h

@[simp] theorem it_with_time (s : State) (x) (h : q.off [.p .time] = true) : itm q { s with time := x } = itm q s := by
  rcases q with ⟨r, i, j⟩ | p
  · rfl
  · cases p <;> first | rfl | cases h

@[simp] theorem it_with_log (s : State) (x) (h : q.off [.p .log] = true) : itm q { s with log := x } = itm q s := by
  rcases q with ⟨r, i, j⟩ | p
  · rfl
  · cases p <;> first | rfl | cases h

@[simp] theorem it_with_evt (s : State) (x) (h : q.off [.p .evt] = true) : itm q { s with evt := x } = itm q s := by
  rcases q with ⟨r, i, j⟩ | p
  · rfl
  · cases p <;> first | rfl | cases h

@[simp] theorem it_with_host (s : State) (x) (h : q.off [.p .host] = true) : itm q { s with host := x } = itm q s := by
  rcases q with ⟨r, i, j⟩ | p
  · rfl
  · cases p <;> first | rfl | cases h

@[simp] theorem it_with_breath (s : State) (x) (h : q.off [.p .breath] = true) : itm q { s with breath := x } = itm q s := by
  rcases q with ⟨r, i, j⟩ | p
  · rfl
  · cases p <;> first | rfl | cases h

@[simp] theorem it_with_mech (s : State) (x) (h : q.off [.p .mech] = true) : itm q { s with mech := x } = itm q s := by
  rcases q with ⟨r, i, j⟩ | p
  · rfl
  · cases p <;> first | rfl | cases h

@[simp] theorem it_with_isol (s : State) (x) (h : q.off [.p .isol] = true) : itm q { s with isol := x } = itm q s := by
  rcases q with ⟨r, i, j⟩ | p
  · rfl
  · cases p <;> first | rfl | cases h

@[simp] theorem it_with_port (s : State) (x) (h : q.off [.p .port] = true) : itm q { s with port := x } = itm q s := by
  rcases q with ⟨r, i, j⟩ | p
  · rfl
  · cases p <;> first | rfl | cases h

@[simp] theorem it_with_drop (s : State) (x) (h : q.off [.p .drop] = true) : itm q { s with drop := x } = itm q s := by
  rcases q with ⟨r, i, j⟩ | p
  · rfl
  · cases p <;> first | rfl | cases h

@[simp] theorem it_with_cirq (s : State) (x) (h : q.off [.p .cirq] = true) : itm q { s with cirq := x } = itm q s := by
  rcases q with ⟨r, i, j⟩ | p
  · rfl
  · cases p <;> first | rfl | cases h

@[simp] theorem it_with_servo (s : State) (x) (h : q.off [.p .servo] = true) : itm q { s with servo := x } = itm q s := by
  rcases q with ⟨r, i, j⟩ | p
  · rfl
  · cases p <;> first | rfl | cases h

@[simp] theorem it_with_cal (s : State) (x) (h : q.off [.p .cal] = true) : itm q { s with cal := x } = itm q s := by
  rcases q with ⟨r, i, j⟩ | p
  · rfl
  · cases p <;> first | rfl | cases h

@[simp] theorem it_with_profiles (s : State) (x) (h : q.off [.p .profiles] = true) : itm q { s with profiles := x } = itm q s := by
  rcases q with ⟨r, i, j⟩ | p
  · rfl
  · cases p <;> first | rfl | cases h

@[simp] theorem it_with_chan (s : State) (x) (h : q.off [.p .chan] = true) : itm q { s with chan := x } = itm q s := by
  rcases q with ⟨r, i, j⟩ | p
  · rfl
  · cases p <;> first | rfl | cases h

@[simp] theorem it_with_floe (s : State) (x) (h : q.off [.p .floe] = true) : itm q { s with floe := x } = itm q s := by
  rcases q with ⟨r, i, j⟩ | p
  · rfl
  · cases p <;> first | rfl | cases h

@[simp] theorem it_with_fw (s : State) (x) (h : q.off [.p .fw] = true) : itm q { s with fw := x } = itm q s := by
  rcases q with ⟨r, i, j⟩ | p
  · rfl
  · cases p <;> first | rfl | cases h

@[simp] theorem it_with_ilk (s : State) (x) (h : q.off [.p .ilk] = true) : itm q { s with ilk := x } = itm q s := by
  rcases q with ⟨r, i, j⟩ | p
  · rfl
  · cases p <;> first | rfl | cases h

@[simp] theorem it_with_pwr (s : State) (x) (h : q.off [.p .pwr] = true) : itm q { s with pwr := x } = itm q s := by
  rcases q with ⟨r, i, j⟩ | p
  · rfl
  · cases p <;> first | rfl | cases h

@[simp] theorem it_with_dbg (s : State) (x) (h : q.off [.p .dbg] = true) : itm q { s with dbg := x } = itm q s := by
  rcases q with ⟨r, i, j⟩ | p
  · rfl
  · cases p <;> first | rfl | cases h

@[simp] theorem it_with_memx (s : State) (x) (h : q.off [.p .memx] = true) : itm q { s with memx := x } = itm q s := by
  rcases q with ⟨r, i, j⟩ | p
  · rfl
  · cases p <;> first | rfl | cases h

@[simp] theorem it_with_out (s : State) (x) (h : q.off [.p .out] = true) : itm q { s with out := x } = itm q s := by
  rcases q with ⟨r, i, j⟩ | p
  · rfl
  · cases p <;> first | rfl | cases h

@[simp] theorem it_with_free (s : State) (x) (h : q.off [.p .free] = true) : itm q { s with free := x } = itm q s := by
  rcases q with ⟨r, i, j⟩ | p
  · rfl
  · cases p <;> first | rfl | cases h

@[simp] theorem it_with_pending (s : State) (x) : itm q { s with pending := x } = itm q s := by
  rcases q with ⟨r, i, j⟩ | p
  · rfl
  · cases p <;> rfl

@[simp] theorem it_takeFree (s : State) (h : q.off [.p .free] = true) : itm q s.takeFree.2 = itm q s := by
  rcases q with ⟨r, i, j⟩ | p
  · rfl
  · cases p <;> first | rfl | cases h

@[simp] theorem it_setFree (s : State) (f : Fld) (i : Nat) (h : q.off [.f f] = true) (h' : q.off [.p .free] = true) :
    itm q (s.setFree f i) = itm q s := by
  unfold State.setFree
  rw [it_set _ _ _ _ h, it_takeFree _ h']

/-- Every next state of the outcome holds at the item what s holds. -/
def itOut (q : Item) (o : Out) (s : State) : Prop := ∀ t, o = .next t → itm q t = itm q s

@[simp] theorem itOut_next (t s : State) : itOut q (.next t) s ↔ itm q t = itm q s :=
  ⟨fun h => h t rfl, fun h u hu => by cases hu; exact h⟩

@[simp] theorem itOut_fault (r : Fault) (s : State) : itOut q (.fault r) s := fun _ h => by cases h

@[simp] theorem itOut_ite (c : Prop) [Decidable c] (a b : Out) (s : State) : itOut q (if c then a else b) s ↔ if c then itOut q a s else itOut q b s := by
  split <;> rfl

end

end Sys2Proof.Laws
end

