-- ==== Sys2Proof/Laws/FootOps.lean ====
section
/-! SUPPORT. What the operations of Machine/Ops.lean may write, and that they leave everything else as it was. -/

namespace Sys2Proof.Laws

open Sys2Proof.Machine

def foot_emit : List Spot := [.p .out]

@[simp] theorem it_emit {iq : Item} (s : State) (o : Output) (hq : iq.off foot_emit = true) : itm iq (State.emit s o) = itm iq s := by
  delta foot_emit at hq
  simp [hq, State.emit]

def foot_tick : List Spot := [.p .time]

@[simp] theorem it_tick {iq : Item} (s : State) (hq : iq.off foot_tick = true) : itm iq (State.tick s) = itm iq s := by
  delta foot_tick at hq
  simp [hq, State.tick]

def foot_applyDelays : List Spot := [.f .MEM_DDR_CMD_PENDING, .p .memx]

@[simp] theorem it_applyDelays {iq : Item} (s : State) (ch : Nat) (hq : iq.off foot_applyDelays = true) : itm iq (State.applyDelays s ch) = itm iq s := by
  delta foot_applyDelays at hq
  simp only [off_spots, off_cons_cons, off_nil, List.all_cons, List.all_nil, Bool.and_true, Bool.and_eq_true] at hq
  simp [hq, State.applyDelays]

def foot_dramTouch : List Spot := spots [foot_applyDelays] [.f .MEM_DDR_STAT_IN_SR, .f .MEM_DDR_CMD_BUSY, .p .memx]

@[simp] theorem it_dramTouch {iq : Item} (s0 : State) (hq : iq.off foot_dramTouch = true) : itm iq (State.dramTouch s0) = itm iq s0 := by
  delta foot_dramTouch at hq
  simp only [off_spots, off_cons_cons, off_nil, List.all_cons, List.all_nil, Bool.and_true, Bool.and_eq_true] at hq
  simp [hq, State.dramTouch]

def foot_logEntry : List Spot := [.f .DBG_LOG_SEQ_VALUE, .f .DBG_LOG_CFG_NEW, .f .DBG_LOG_LOST_VALUE, .p .log]

@[simp] theorem it_logEntry {iq : Item} (s : State) (a : LogArgs) (hq : iq.off foot_logEntry = true) : itm iq (State.logEntry s a) = itm iq s := by
  delta foot_logEntry at hq
  simp only [off_spots, off_cons_cons, off_nil, List.all_cons, List.all_nil, Bool.and_true, Bool.and_eq_true] at hq
  simp [hq, State.logEntry]

def foot_modMech : List Spot := [.p .mech]

@[simp] theorem it_modMech {iq : Item} (s : State) (n : Nat) (f : MechX → MechX) (hq : iq.off foot_modMech = true) : itm iq (State.modMech s n f) = itm iq s := by
  delta foot_modMech at hq
  simp [hq, State.modMech]

def foot_loadProgram : List Spot := []

@[simp] theorem it_loadProgram {iq : Item} (s : State) (f : Fld) (i : Nat) (v : FwImage → Nat) (h_f : iq.off [.f f] = true) : itm iq (State.loadProgram s f i v) = itm iq s := by
  simp only [State.loadProgram]
  (repeat' split) <;> simp [h_f]

def foot_modEvt : List Spot := [.p .evt]

@[simp] theorem it_modEvt {iq : Item} (s : State) (f : EvtState → EvtState) (hq : iq.off foot_modEvt = true) : itm iq (State.modEvt s f) = itm iq s := by
  delta foot_modEvt at hq
  simp [hq, State.modEvt]

def foot_modIlk : List Spot := [.p .ilk]

@[simp] theorem it_modIlk {iq : Item} (s : State) (f : IlkX → IlkX) (hq : iq.off foot_modIlk = true) : itm iq (State.modIlk s f) = itm iq s := by
  delta foot_modIlk at hq
  simp [hq, State.modIlk]

def foot_modPwr : List Spot := [.p .pwr]

@[simp] theorem it_modPwr {iq : Item} (s : State) (f : PowerX → PowerX) (hq : iq.off foot_modPwr = true) : itm iq (State.modPwr s f) = itm iq s := by
  delta foot_modPwr at hq
  simp [hq, State.modPwr]

def foot_modFw : List Spot := [.p .fw]

@[simp] theorem it_modFw {iq : Item} (s : State) (f : FwState → FwState) (hq : iq.off foot_modFw = true) : itm iq (State.modFw s f) = itm iq s := by
  delta foot_modFw at hq
  simp [hq, State.modFw]

def foot_modDbg : List Spot := [.p .dbg]

@[simp] theorem it_modDbg {iq : Item} (s : State) (f : DbgX → DbgX) (hq : iq.off foot_modDbg = true) : itm iq (State.modDbg s f) = itm iq s := by
  delta foot_modDbg at hq
  simp [hq, State.modDbg]

def foot_modBreath : List Spot := [.p .breath]

@[simp] theorem it_modBreath {iq : Item} (s : State) (f : BreathState → BreathState) (hq : iq.off foot_modBreath = true) : itm iq (State.modBreath s f) = itm iq s := by
  delta foot_modBreath at hq
  simp [hq, State.modBreath]

def foot_modFloe : List Spot := [.p .floe]

@[simp] theorem it_modFloe {iq : Item} (s : State) (f : Tab FloeSet → Tab FloeSet) (hq : iq.off foot_modFloe = true) : itm iq (State.modFloe s f) = itm iq s := by
  delta foot_modFloe at hq
  simp [hq, State.modFloe]

def foot_modCals : List Spot := [.p .cal]

@[simp] theorem it_modCals {iq : Item} (s : State) (f : Tab CalRec → Tab CalRec) (hq : iq.off foot_modCals = true) : itm iq (State.modCals s f) = itm iq s := by
  delta foot_modCals at hq
  simp [hq, State.modCals]

def foot_modProfiles : List Spot := [.p .profiles]

@[simp] theorem it_modProfiles {iq : Item} (s : State) (f : Tab ProfRec → Tab ProfRec) (hq : iq.off foot_modProfiles = true) : itm iq (State.modProfiles s f) = itm iq s := by
  delta foot_modProfiles at hq
  simp [hq, State.modProfiles]

def foot_modPort : List Spot := [.p .port]

@[simp] theorem it_modPort {iq : Item} (s : State) (p : Nat) (f : PortX → PortX) (hq : iq.off foot_modPort = true) : itm iq (State.modPort s p f) = itm iq s := by
  delta foot_modPort at hq
  simp [hq, State.modPort]

def foot_portStep : List Spot := spots [foot_modPort] [.f .PEN_STATUS_PSTATE]

@[simp] theorem it_portStep {iq : Item} (s : State) (p k : Nat) (hq : iq.off foot_portStep = true) : itm iq (State.portStep s p k) = itm iq s := by
  delta foot_portStep at hq
  simp only [off_spots, off_cons_cons, off_nil, List.all_cons, List.all_nil, Bool.and_true, Bool.and_eq_true] at hq
  simp [hq, State.portStep]

def foot_modHost : List Spot := [.p .host]

@[simp] theorem it_modHost {iq : Item} (s : State) (f : HostState → HostState) (hq : iq.off foot_modHost = true) : itm iq (State.modHost s f) = itm iq s := by
  delta foot_modHost at hq
  simp [hq, State.modHost]

def foot_modFn : List Spot := spots [foot_modHost] []

@[simp] theorem it_modFn {iq : Item} (s : State) (fn : Nat) (f : FnX → FnX) (hq : iq.off foot_modFn = true) : itm iq (State.modFn s fn f) = itm iq s := by
  delta foot_modFn at hq
  simp only [off_spots, off_cons_cons, off_nil, List.all_cons, List.all_nil, Bool.and_true, Bool.and_eq_true] at hq
  simp [hq, State.modFn]

end Sys2Proof.Laws
end

