-- ==== Sys2Proof/Laws/FootHost.lean ====
section
/-! SUPPORT. What the operations of Machine/Host.lean may write, and that they leave everything else as it was. -/

namespace Sys2Proof.Laws

open Sys2Proof.Machine

def foot_modQp : List Spot := spots [foot_modHost] []

@[simp] theorem it_modQp {iq : Item} (s : State) (fn q : Nat) (f : Qp → Qp) (hq : iq.off foot_modQp = true) : itm iq (State.modQp s fn q f) = itm iq s := by
  delta foot_modQp at hq
  simp only [off_spots, off_cons_cons, off_nil, List.all_cons, List.all_nil, Bool.and_true, Bool.and_eq_true] at hq
  simp [hq, State.modQp]

def foot_enterCpl : List Spot := spots [foot_modHost] [.f .HQP_MERGE_PEAK, .f .HQP_EVENT_MERGE_FULL]

@[simp] theorem it_enterCpl {iq : Item} (s : State) (c : Cpl) (hq : iq.off foot_enterCpl = true) : itm iq (State.enterCpl s c) = itm iq s := by
  delta foot_enterCpl at hq
  simp only [off_spots, off_cons_cons, off_nil, List.all_cons, List.all_nil, Bool.and_true, Bool.and_eq_true] at hq
  simp [hq, State.enterCpl]

def foot_acceptCpl : List Spot := spots [foot_modHost, foot_enterCpl] []

@[simp] theorem it_acceptCpl {iq : Item} (s : State) (c : Cpl) (hq : iq.off foot_acceptCpl = true) : itm iq (State.acceptCpl s c) = itm iq s := by
  delta foot_acceptCpl at hq
  simp only [off_spots, off_cons_cons, off_nil, List.all_cons, List.all_nil, Bool.and_true, Bool.and_eq_true] at hq
  simp [hq, State.acceptCpl]

def foot_postCpl : List Spot := spots [foot_acceptCpl] [.f .HQP_FN_DISCARD_COUNT]

@[simp] theorem it_postCpl {iq : Item} (s : State) (c : Cpl) (hq : iq.off foot_postCpl = true) : itm iq (State.postCpl s c) = itm iq s := by
  delta foot_postCpl at hq
  simp only [off_spots, off_cons_cons, off_nil, List.all_cons, List.all_nil, Bool.and_true, Bool.and_eq_true] at hq
  simp [hq, State.postCpl]

def foot_dropCtx : List Spot := spots [foot_modHost] []

@[simp] theorem it_dropCtx {iq : Item} (s : State) (fn tag : Nat) (hq : iq.off foot_dropCtx = true) : itm iq (State.dropCtx s fn tag) = itm iq s := by
  delta foot_dropCtx at hq
  simp only [off_spots, off_cons_cons, off_nil, List.all_cons, List.all_nil, Bool.and_true, Bool.and_eq_true] at hq
  simp [hq, State.dropCtx]

def foot_modCtx : List Spot := spots [foot_modHost] []

@[simp] theorem it_modCtx {iq : Item} (s : State) (fn tag : Nat) (f : Ctx → Ctx) (hq : iq.off foot_modCtx = true) : itm iq (State.modCtx s fn tag f) = itm iq s := by
  delta foot_modCtx at hq
  simp only [off_spots, off_cons_cons, off_nil, List.all_cons, List.all_nil, Bool.and_true, Bool.and_eq_true] at hq
  simp [hq, State.modCtx]

def foot_complete : List Spot := spots [foot_modMech, foot_postCpl, foot_dropCtx] []

@[simp] theorem it_complete {iq : Item} (s : State) (c : Ctx) (status flags r0 r1 : Nat) (hq : iq.off foot_complete = true) : itm iq (State.complete s c status flags r0 r1) = itm iq s := by
  delta foot_complete at hq
  simp only [off_spots, off_cons_cons, off_nil, List.all_cons, List.all_nil, Bool.and_true, Bool.and_eq_true] at hq
  simp [hq, State.complete]

def foot_postEvent : List Spot := spots [foot_logEntry, foot_modHost, foot_modQp, foot_acceptCpl] [.f .HQP_FN_DISCARD_COUNT, .f .HQP_FN_STAT_EVT_LOST,
  .f .HQP_EVENT_EVT_LOST]

@[simp] theorem it_postEvent {iq : Item} (s : State) (fn code qpid detail : Nat) (hq : iq.off foot_postEvent = true) : itm iq (State.postEvent s fn code qpid detail) = itm iq s := by
  delta foot_postEvent at hq
  simp only [off_spots, off_cons_cons, off_nil, List.all_cons, List.all_nil, Bool.and_true, Bool.and_eq_true] at hq
  simp [hq, State.postEvent]

def foot_drainEvents : List Spot := spots [foot_modHost, foot_postEvent] []

@[simp] theorem it_drainEvents {iq : Item} (k : Nat) (s : State) (fn : Nat) (hq : iq.off foot_drainEvents = true) : itm iq (State.drainEvents k s fn) = itm iq s := by
  delta foot_drainEvents at hq
  simp only [off_spots, off_cons_cons, off_nil, List.all_cons, List.all_nil, Bool.and_true, Bool.and_eq_true] at hq
  induction k generalizing s with
  | zero => rfl
  | succ k ih =>
    unfold State.drainEvents
    (repeat' split) <;> simp [ih, hq]

def foot_postSteward : List Spot := spots [foot_postEvent] []

@[simp] theorem it_postSteward {iq : Item} (s : State) (bits : Nat) (hq : iq.off foot_postSteward = true) : itm iq (State.postSteward s bits) = itm iq s := by
  delta foot_postSteward at hq
  simp only [off_spots, off_cons_cons, off_nil, List.all_cons, List.all_nil, Bool.and_true, Bool.and_eq_true] at hq
  simp [hq, State.postSteward]

def foot_noteEvents : List Spot := spots [foot_modEvt, foot_postSteward] []

@[simp] theorem it_noteEvents {iq : Item} (s : State) (hq : iq.off foot_noteEvents = true) : itm iq (State.noteEvents s) = itm iq s := by
  delta foot_noteEvents at hq
  simp only [off_spots, off_cons_cons, off_nil, List.all_cons, List.all_nil, Bool.and_true, Bool.and_eq_true] at hq
  simp [hq, State.noteEvents]

def foot_fin : List Spot := spots [foot_noteEvents] []

@[simp] theorem it_fin {iq : Item} (t s : State) (hq : iq.off foot_fin = true) : itOut iq (fin t) s ↔ itm iq t = itm iq s := by
  simp only [foot_fin] at hq
  unfold fin; rw [itOut_next, it_noteEvents _ hq]

def foot_dozeWake : List Spot := [.f .DRN_PSTAT_STATE, .f .DRN_PSTAT_LAST_WAKE, .f .DRN_PCTRL_BUSY]

@[simp] theorem it_dozeWake {iq : Item} (s : State) (src : Nat) (hq : iq.off foot_dozeWake = true) : itm iq (State.dozeWake s src) = itm iq s := by
  delta foot_dozeWake at hq
  simp only [off_spots, off_cons_cons, off_nil, List.all_cons, List.all_nil, Bool.and_true, Bool.and_eq_true] at hq
  simp only [State.dozeWake]
  (repeat' split) <;> simp [hq]

def foot_regCmd : List Spot := spots [foot_fin, foot_dozeWake] []

theorem it_regCmd {iq : Item} (s : State) (f : State → Out) (hq : iq.off foot_regCmd = true) (h : ∀ t, itOut iq (f t) t) : itOut iq (regCmd s f) s := by
  delta foot_regCmd at hq
  simp only [off_spots, off_cons_cons, off_nil, List.all_cons, List.all_nil, Bool.and_true, Bool.and_eq_true] at hq
  unfold regCmd
  split
  · simp [hq]
  · intro t ht
    rw [h _ _ ht, it_dozeWake _ _ hq.2]

end Sys2Proof.Laws
end

