-- ==== Sys2Proof/Laws/FootHostFns.lean ====
section
/-! SUPPORT. What the operations of Machine/HostFns.lean may write, and that they leave everything else as it was. -/

namespace Sys2Proof.Laws

open Sys2Proof.Machine

def foot_logStandby : List Spot := spots [foot_logEntry] []

@[simp] theorem it_logStandby {iq : Item} (s : State) (hq : iq.off foot_logStandby = true) : itm iq (State.logStandby s) = itm iq s := by
  delta foot_logStandby at hq
  simp only [off_spots, off_cons_cons, off_nil, List.all_cons, List.all_nil, Bool.and_true, Bool.and_eq_true] at hq
  simp [hq, State.logStandby]

def foot_endStandby : List Spot := spots [foot_postEvent, foot_logStandby] [.f .HQP_STEWARD_STANDBY_VALID, .f .HQP_EVENT_STEWARD_CHANGE]

@[simp] theorem it_endStandby {iq : Item} (s : State) (hq : iq.off foot_endStandby = true) : itm iq (State.endStandby s) = itm iq s := by
  delta foot_endStandby at hq
  simp only [off_spots, off_cons_cons, off_nil, List.all_cons, List.all_nil, Bool.and_true, Bool.and_eq_true] at hq
  simp [hq, State.endStandby]

def foot_becomeSteward : List Spot := spots [foot_logEntry, foot_modEvt, foot_modHost, foot_postEvent, foot_postSteward] [.f .HQP_STEWARD_STANDBY_VALID,
  .f .HQP_STEWARD_VALID, .f .HQP_STEWARD_STEWARD_FN, .f .HQP_STEWARD_SOURCE, .f .HQP_STEWARD_TOKEN_TOKEN, .f .HQP_EVENT_STEWARD_CHANGE]

@[simp] theorem it_becomeSteward {iq : Item} (s : State) (fn token src : Nat) (hq : iq.off foot_becomeSteward = true) : itm iq (State.becomeSteward s fn token src) = itm iq s := by
  delta foot_becomeSteward at hq
  simp only [off_spots, off_cons_cons, off_nil, List.all_cons, List.all_nil, Bool.and_true, Bool.and_eq_true] at hq
  simp [hq, State.becomeSteward]

def foot_loseSteward : List Spot := spots [foot_logEntry, foot_postEvent, foot_becomeSteward] [.f .HQP_STEWARD_VALID, .f .HQP_STEWARD_SOURCE,
  .f .HQP_EVENT_STEWARD_LOST, .f .HQP_EVENT_STEWARD_CHANGE]

@[simp] theorem it_loseSteward {iq : Item} (s : State) (hq : iq.off foot_loseSteward = true) : itm iq (State.loseSteward s) = itm iq s := by
  delta foot_loseSteward at hq
  simp only [off_spots, off_cons_cons, off_nil, List.all_cons, List.all_nil, Bool.and_true, Bool.and_eq_true] at hq
  simp [hq, State.loseSteward]

def foot_dropRoles : List Spot := spots [foot_endStandby, foot_loseSteward] []

@[simp] theorem it_dropRoles {iq : Item} (s : State) (fn : Nat) (hq : iq.off foot_dropRoles = true) : itm iq (State.dropRoles s fn) = itm iq s := by
  delta foot_dropRoles at hq
  simp only [off_spots, off_cons_cons, off_nil, List.all_cons, List.all_nil, Bool.and_true, Bool.and_eq_true] at hq
  simp [hq, State.dropRoles]

def foot_claimResult : List Spot := [.f .FN_CLAIM_CMD_RESULT]

@[simp] theorem it_claimResult {iq : Item} (s : State) (fn r : Nat) (hq : iq.off foot_claimResult = true) : itm iq (State.claimResult s fn r) = itm iq s := by
  delta foot_claimResult at hq
  simp [hq, State.claimResult]

def foot_execClaim : List Spot := spots [foot_fin, foot_regCmd, foot_becomeSteward, foot_claimResult] []

theorem it_execClaim {iq : Item} (fn : FnIx) (s : State) (hq : iq.off foot_execClaim = true) : itOut iq (execClaim fn s) s := by
  delta foot_execClaim at hq
  simp only [off_spots, off_cons_cons, off_nil, List.all_cons, List.all_nil, Bool.and_true, Bool.and_eq_true] at hq
  unfold execClaim
  refine it_regCmd _ _ (by simp [hq]) fun t => ?_
  simp [hq]

def foot_execStandby : List Spot := spots [foot_postEvent, foot_fin, foot_regCmd, foot_logStandby, foot_endStandby, foot_claimResult] [.f .HQP_STEWARD_STANDBY_VALID,
  .f .HQP_STEWARD_STANDBY_FN, .f .HQP_STANDBY_TOKEN_TOKEN, .f .HQP_EVENT_STEWARD_CHANGE]

theorem it_execStandby {iq : Item} (fn : FnIx) (s : State) (hq : iq.off foot_execStandby = true) : itOut iq (execStandby fn s) s := by
  delta foot_execStandby at hq
  simp only [off_spots, off_cons_cons, off_nil, List.all_cons, List.all_nil, Bool.and_true, Bool.and_eq_true] at hq
  unfold execStandby
  refine it_regCmd _ _ (by simp [hq]) fun t => ?_
  simp [hq]

def foot_execRelease : List Spot := spots [foot_fin, foot_regCmd, foot_endStandby, foot_loseSteward, foot_claimResult] []

theorem it_execRelease {iq : Item} (fn : FnIx) (s : State) (hq : iq.off foot_execRelease = true) : itOut iq (execRelease fn s) s := by
  delta foot_execRelease at hq
  simp only [off_spots, off_cons_cons, off_nil, List.all_cons, List.all_nil, Bool.and_true, Bool.and_eq_true] at hq
  unfold execRelease
  refine it_regCmd _ _ (by simp [hq]) fun t => ?_
  simp [hq]

def foot_execHeartbeat : List Spot := spots [foot_modHost, foot_fin, foot_regCmd, foot_claimResult] []

theorem it_execHeartbeat {iq : Item} (fn : FnIx) (s : State) (hq : iq.off foot_execHeartbeat = true) : itOut iq (execHeartbeat fn s) s := by
  delta foot_execHeartbeat at hq
  simp only [off_spots, off_cons_cons, off_nil, List.all_cons, List.all_nil, Bool.and_true, Bool.and_eq_true] at hq
  unfold execHeartbeat
  refine it_regCmd _ _ (by simp [hq]) fun t => ?_
  simp [hq]

def foot_execStewardHbTimeout : List Spot := spots [foot_fin, foot_loseSteward] []

theorem it_execStewardHbTimeout {iq : Item} (s : State) (hq : iq.off foot_execStewardHbTimeout = true) : itOut iq (execStewardHbTimeout s) s := by
  delta foot_execStewardHbTimeout at hq
  simp only [off_spots, off_cons_cons, off_nil, List.all_cons, List.all_nil, Bool.and_true, Bool.and_eq_true] at hq
  simp [hq, execStewardHbTimeout]

def foot_dropWrite : List Spot := spots [foot_modHost] []

@[simp] theorem it_dropWrite {iq : Item} (s : State) (fn tag : Nat) (hq : iq.off foot_dropWrite = true) : itm iq (State.dropWrite s fn tag) = itm iq s := by
  delta foot_dropWrite at hq
  simp only [off_spots, off_cons_cons, off_nil, List.all_cons, List.all_nil, Bool.and_true, Bool.and_eq_true] at hq
  simp [hq, State.dropWrite]

def foot_withdrawCmd : List Spot := spots [foot_modBreath] []

@[simp] theorem it_withdrawCmd {iq : Item} (s : State) (fn tag : Nat) (hq : iq.off foot_withdrawCmd = true) : itm iq (State.withdrawCmd s fn tag) = itm iq s := by
  delta foot_withdrawCmd at hq
  simp only [off_spots, off_cons_cons, off_nil, List.all_cons, List.all_nil, Bool.and_true, Bool.and_eq_true] at hq
  simp [hq, State.withdrawCmd]

def foot_resetBar0 : List Spot := [.any]

@[simp] theorem it_resetBar0 {iq : Item} (s : State) (fn : Nat) (hq : iq.off foot_resetBar0 = true) : itm iq (State.resetBar0 s fn) = itm iq s := by
  exact (off_any hq).elim

def foot_execBar4AccessDenied : List Spot := spots [foot_emit, foot_fin, foot_regCmd] [.f .HQP_FN_STAT_BAR4_ERR]

theorem it_execBar4AccessDenied {iq : Item} (fn : FnIx) (write : Bool) (s : State) (hq : iq.off foot_execBar4AccessDenied = true) : itOut iq (execBar4AccessDenied fn write s) s := by
  delta foot_execBar4AccessDenied at hq
  simp only [off_spots, off_cons_cons, off_nil, List.all_cons, List.all_nil, Bool.and_true, Bool.and_eq_true] at hq
  unfold execBar4AccessDenied
  refine it_regCmd _ _ (by simp [hq]) fun t => ?_
  simp [hq]

def foot_powerEvents : List Spot := spots [foot_modFn, foot_postEvent] []

@[simp] theorem it_powerEvents {iq : Item} (s : State) (fn : Nat) (hq : iq.off foot_powerEvents = true) : itm iq (State.powerEvents s fn) = itm iq s := by
  delta foot_powerEvents at hq
  simp only [off_spots, off_cons_cons, off_nil, List.all_cons, List.all_nil, Bool.and_true, Bool.and_eq_true] at hq
  simp [hq, State.powerEvents]

def foot_execFnEnable : List Spot := spots [foot_modFn, foot_modQp, foot_drainEvents, foot_fin, foot_regCmd, foot_powerEvents] [.f .FN_CTRL_VER_REQ,
  .f .FN_CTRL_EN, .f .FN_STAT_FATAL, .f .FN_STAT_CAUSE, .f .FN_STAT_VER, .f .FN_STAT_RDY]

theorem it_execFnEnable {iq : Item} (fn : FnIx) (verReq : Fin 8) (table : Option (List Nat)) (s : State) (hq : iq.off foot_execFnEnable = true) : itOut iq (execFnEnable fn verReq table s) s := by
  delta foot_execFnEnable at hq
  simp only [off_spots, off_cons_cons, off_nil, List.all_cons, List.all_nil, Bool.and_true, Bool.and_eq_true] at hq
  unfold execFnEnable
  refine it_regCmd _ _ (by simp [hq]) fun t => ?_
  simp [hq]

def foot_qpError : List Spot := spots [foot_logEntry, foot_modHost, foot_modQp, foot_postEvent] [.f .HQP_EVENT_QP_ERROR, .f .FN_STAT_FATAL, .f .FN_STAT_CAUSE]

@[simp] theorem it_qpError {iq : Item} (s : State) (fn q cause : Nat) (hq : iq.off foot_qpError = true) : itm iq (State.qpError s fn q cause) = itm iq s := by
  delta foot_qpError at hq
  simp only [off_spots, off_cons_cons, off_nil, List.all_cons, List.all_nil, Bool.and_true, Bool.and_eq_true] at hq
  simp [hq, State.qpError]

def foot_takeDoorbell : List Spot := spots [foot_modQp, foot_qpError] []

@[simp] theorem it_takeDoorbell {iq : Item} (s : State) (fn q : Nat) (tail head : Nat) (hq : iq.off foot_takeDoorbell = true) : itm iq (State.takeDoorbell s fn q tail head).1 = itm iq s := by
  delta foot_takeDoorbell at hq
  simp only [off_spots, off_cons_cons, off_nil, List.all_cons, List.all_nil, Bool.and_true, Bool.and_eq_true] at hq
  simp only [State.takeDoorbell]
  (repeat' split) <;> simp [hq]

def foot_modFetch : List Spot := spots [foot_modHost] []

@[simp] theorem it_modFetch {iq : Item} (s : State) (p : Nat) (f : FetchX → FetchX) (hq : iq.off foot_modFetch = true) : itm iq (State.modFetch s p f) = itm iq s := by
  delta foot_modFetch at hq
  simp only [off_spots, off_cons_cons, off_nil, List.all_cons, List.all_nil, Bool.and_true, Bool.and_eq_true] at hq
  simp [hq, State.modFetch]

def foot_noteFetch : List Spot := spots [foot_modFetch] []

@[simp] theorem it_noteFetch {iq : Item} (s : State) (p : Nat) (hq : iq.off foot_noteFetch = true) : itm iq (State.noteFetch s p) = itm iq s := by
  delta foot_noteFetch at hq
  simp only [off_spots, off_cons_cons, off_nil, List.all_cons, List.all_nil, Bool.and_true, Bool.and_eq_true] at hq
  simp [hq, State.noteFetch]

def foot_fetchTaken : List Spot := spots [foot_modFn, foot_modFetch] []

@[simp] theorem it_fetchTaken {iq : Item} (s : State) (fn q : Nat) (hq : iq.off foot_fetchTaken = true) : itm iq (State.fetchTaken s fn q) = itm iq s := by
  delta foot_fetchTaken at hq
  simp only [off_spots, off_cons_cons, off_nil, List.all_cons, List.all_nil, Bool.and_true, Bool.and_eq_true] at hq
  simp [hq, State.fetchTaken]

def foot_execDoorbellScan : List Spot := spots [foot_modFn, foot_drainEvents, foot_fin, foot_takeDoorbell, foot_noteFetch] []

theorem it_execDoorbellScan {iq : Item} (fn : FnIx) (recs : List (Nat × Word × Word)) (s : State) (hq : iq.off foot_execDoorbellScan = true) : itOut iq (execDoorbellScan fn recs s) s := by
  delta foot_execDoorbellScan at hq
  simp only [off_spots, off_cons_cons, off_nil, List.all_cons, List.all_nil, Bool.and_true, Bool.and_eq_true] at hq
  unfold execDoorbellScan
  split
  · simp [hq]
  · have h : ∀ (l : List (Nat × Word × Word)) (a : State × Bool), itm iq (l.foldl (fun (a : State × Bool) x =>
        ((a.1.takeDoorbell fn x.1 x.2.1.toNat x.2.2.toNat).1, a.2 || (a.1.takeDoorbell fn x.1 x.2.1.toNat x.2.2.toNat).2)) a).1 = itm iq a.1 := by
      intro l
      induction l with
      | nil => intro a; rfl
      | cons x r ih => intro a; rw [List.foldl_cons, ih]; simp [hq]
    simp [hq, h]

def foot_takeDescriptor : List Spot := spots [foot_modPwr, foot_modHost, foot_modQp, foot_postCpl, foot_fetchTaken] []

@[simp] theorem it_takeDescriptor {iq : Item} (s : State) (fn qpid : Nat) (d : Desc) (hq : iq.off foot_takeDescriptor = true) : itm iq (State.takeDescriptor s fn qpid d) = itm iq s := by
  delta foot_takeDescriptor at hq
  simp only [off_spots, off_cons_cons, off_nil, List.all_cons, List.all_nil, Bool.and_true, Bool.and_eq_true] at hq
  simp only [State.takeDescriptor]
  (repeat' split) <;> simp [hq]

def foot_execFetchTimeout : List Spot := spots [foot_modQp, foot_fin, foot_qpError, foot_modFetch, foot_noteFetch] []

theorem it_execFetchTimeout {iq : Item} (fn : FnIx) (qpid : Nat) (err : Bool) (s : State) (hq : iq.off foot_execFetchTimeout = true) : itOut iq (execFetchTimeout fn qpid err s) s := by
  delta foot_execFetchTimeout at hq
  simp only [off_spots, off_cons_cons, off_nil, List.all_cons, List.all_nil, Bool.and_true, Bool.and_eq_true] at hq
  simp only [execFetchTimeout]
  (repeat' split) <;> simp [hq]

def foot_msixWr : List Spot := spots [foot_modHost] []

@[simp] theorem it_msixWr {iq : Item} (s : State) (fn o v : Nat) (hq : iq.off foot_msixWr = true) : itm iq (State.msixWr s fn o v) = itm iq s := by
  delta foot_msixWr at hq
  simp only [off_spots, off_cons_cons, off_nil, List.all_cons, List.all_nil, Bool.and_true, Bool.and_eq_true] at hq
  simp [hq, State.msixWr]

def foot_signal : List Spot := spots [foot_emit, foot_modQp, foot_msixWr] []

@[simp] theorem it_signal {iq : Item} (s : State) (fn q : Nat) (hq : iq.off foot_signal = true) : itm iq (State.signal s fn q) = itm iq s := by
  delta foot_signal at hq
  simp only [off_spots, off_cons_cons, off_nil, List.all_cons, List.all_nil, Bool.and_true, Bool.and_eq_true] at hq
  simp [hq, State.signal]

def foot_writeCpl : List Spot := spots [foot_emit, foot_modQp, foot_signal] [.f .HQP_FN_DISCARD_COUNT]

@[simp] theorem it_writeCpl {iq : Item} (s : State) (c : Cpl) (hq : iq.off foot_writeCpl = true) : itm iq (State.writeCpl s c) = itm iq s := by
  delta foot_writeCpl at hq
  simp only [off_spots, off_cons_cons, off_nil, List.all_cons, List.all_nil, Bool.and_true, Bool.and_eq_true] at hq
  simp [hq, State.writeCpl]

def foot_takeHeld : List Spot := spots [foot_modHost, foot_enterCpl] []

@[simp] theorem it_takeHeld {iq : Item} (k : Nat) (s : State) (hq : iq.off foot_takeHeld = true) : itm iq (State.takeHeld k s) = itm iq s := by
  delta foot_takeHeld at hq
  simp only [off_spots, off_cons_cons, off_nil, List.all_cons, List.all_nil, Bool.and_true, Bool.and_eq_true] at hq
  induction k generalizing s with
  | zero => rfl
  | succ k ih =>
    unfold State.takeHeld
    (repeat' split) <;> simp [hq, ih]

def foot_finishDelete : List Spot := spots [foot_modHost, foot_complete] []

@[simp] theorem it_finishDelete {iq : Item} (s : State) (fn q : Nat) (hq : iq.off foot_finishDelete = true) : itm iq (State.finishDelete s fn q) = itm iq s := by
  delta foot_finishDelete at hq
  simp only [off_spots, off_cons_cons, off_nil, List.all_cons, List.all_nil, Bool.and_true, Bool.and_eq_true] at hq
  simp only [State.finishDelete]
  (repeat' split) <;> simp [hq]

def foot_execCompletionWrite : List Spot := spots [foot_modHost, foot_fin, foot_noteFetch, foot_writeCpl, foot_takeHeld, foot_finishDelete] []

theorem it_execCompletionWrite {iq : Item} (p : HostPort) (s : State) (hq : iq.off foot_execCompletionWrite = true) : itOut iq (execCompletionWrite p s) s := by
  delta foot_execCompletionWrite at hq
  simp only [off_spots, off_cons_cons, off_nil, List.all_cons, List.all_nil, Bool.and_true, Bool.and_eq_true] at hq
  simp [hq, execCompletionWrite]

def foot_execCoalesceTimeout : List Spot := spots [foot_fin, foot_signal] []

theorem it_execCoalesceTimeout {iq : Item} (fn : FnIx) (qpid : Nat) (s : State) (hq : iq.off foot_execCoalesceTimeout = true) : itOut iq (execCoalesceTimeout fn qpid s) s := by
  delta foot_execCoalesceTimeout at hq
  simp only [off_spots, off_cons_cons, off_nil, List.all_cons, List.all_nil, Bool.and_true, Bool.and_eq_true] at hq
  simp [hq, execCoalesceTimeout]

end Sys2Proof.Laws
end

