-- ==== Sys2Proof/Laws/FootBreath.lean ====
section
/-! SUPPORT. What the operations of Machine/Breath.lean may write, and that they leave everything else as it was. -/

namespace Sys2Proof.Laws

open Sys2Proof.Machine

def foot_linkGranted : List Spot := spots [foot_modPort, foot_portStep] []

@[simp] theorem it_linkGranted {iq : Item} (s : State) (p : Nat) (hq : iq.off foot_linkGranted = true) : itm iq (State.linkGranted s p) = itm iq s := by
  delta foot_linkGranted at hq
  simp only [off_spots, off_cons_cons, off_nil, List.all_cons, List.all_nil, Bool.and_true, Bool.and_eq_true] at hq
  simp only [State.linkGranted]
  (repeat' split) <;> simp [hq]

def foot_makeGrant : List Spot := spots [foot_modBreath, foot_linkGranted] [.f .MECH_SPEED_TARGET]

@[simp] theorem it_makeGrant {iq : Item} (s : State) (r : PowerReq) (hq : iq.off foot_makeGrant = true) : itm iq (State.makeGrant s r) = itm iq s := by
  delta foot_makeGrant at hq
  simp only [off_spots, off_cons_cons, off_nil, List.all_cons, List.all_nil, Bool.and_true, Bool.and_eq_true] at hq
  simp only [State.makeGrant]
  (repeat' split) <;> simp [hq]

def foot_evaluate : List Spot := spots [foot_modBreath, foot_makeGrant] [.f .BRTH_DOM_STAT_BLOCKED]

@[simp] theorem it_evaluate {iq : Item} (s : State) (b : List Nat) (l : List PowerReq) (hq : iq.off foot_evaluate = true) : itm iq (s.evaluate b l) = itm iq s := by
  delta foot_evaluate at hq
  simp only [off_spots, off_cons_cons, off_nil, List.all_cons, List.all_nil, Bool.and_true, Bool.and_eq_true] at hq
  induction l generalizing s b with
  | nil => rfl
  | cons r l ih =>
    unfold State.evaluate
    (repeat' split) <;> simp [hq, ih]

def foot_noteOvercommit : List Spot := [.f .BRTH_DOM_STAT_OVERCOMMIT, .f .BRTH_EVENT_OVERCOMMIT, .f .BRTH_EVENT_DOM]

@[simp] theorem it_noteOvercommit {iq : Item} (s : State) (d : Nat) (hq : iq.off foot_noteOvercommit = true) : itm iq (State.noteOvercommit s d) = itm iq s := by
  delta foot_noteOvercommit at hq
  simp only [off_spots, off_cons_cons, off_nil, List.all_cons, List.all_nil, Bool.and_true, Bool.and_eq_true] at hq
  simp [hq, State.noteOvercommit]

def foot_ageRequests : List Spot := spots [foot_modBreath] [.f .BRTH_EVENT_AGED, .f .BRTH_EVENT_DOM]

@[simp] theorem it_ageRequests {iq : Item} (s : State) (d : Nat) (hq : iq.off foot_ageRequests = true) : itm iq (State.ageRequests s d) = itm iq s := by
  delta foot_ageRequests at hq
  simp only [off_spots, off_cons_cons, off_nil, List.all_cons, List.all_nil, Bool.and_true, Bool.and_eq_true] at hq
  simp [hq, State.ageRequests]

def foot_reevaluate : List Spot := spots [foot_evaluate, foot_noteOvercommit, foot_ageRequests] [.f .BRTH_DOM_STAT_BLOCKED]

@[simp] theorem it_reevaluate {iq : Item} (s : State) (d : Nat) (hq : iq.off foot_reevaluate = true) : itm iq (State.reevaluate s d) = itm iq s := by
  delta foot_reevaluate at hq
  simp only [off_spots, off_cons_cons, off_nil, List.all_cons, List.all_nil, Bool.and_true, Bool.and_eq_true] at hq
  simp [hq, State.reevaluate]

def foot_request : List Spot := spots [foot_modBreath, foot_reevaluate] [.f .BRTH_EVENT_NEVER_FIT, .f .BRTH_EVENT_DOM]

@[simp] theorem it_request {iq : Item} (s : State) (r : PowerReq) (hq : iq.off foot_request = true) : itm iq (State.request s r).1 = itm iq s := by
  delta foot_request at hq
  simp only [off_spots, off_cons_cons, off_nil, List.all_cons, List.all_nil, Bool.and_true, Bool.and_eq_true] at hq
  simp only [State.request]
  (repeat' split) <;> simp [hq]

def foot_returnGrant : List Spot := spots [foot_modBreath, foot_reevaluate] []

@[simp] theorem it_returnGrant {iq : Item} (s : State) (n : Nat) (f : Grants → Grants) (hq : iq.off foot_returnGrant = true) : itm iq (State.returnGrant s n f) = itm iq s := by
  delta foot_returnGrant at hq
  simp only [off_spots, off_cons_cons, off_nil, List.all_cons, List.all_nil, Bool.and_true, Bool.and_eq_true] at hq
  simp [hq, State.returnGrant]

def foot_returnAll : List Spot := spots [foot_modBreath, foot_reevaluate] []

@[simp] theorem it_returnAll {iq : Item} (s : State) (n : Nat) (hq : iq.off foot_returnAll = true) : itm iq (State.returnAll s n) = itm iq s := by
  delta foot_returnAll at hq
  simp only [off_spots, off_cons_cons, off_nil, List.all_cons, List.all_nil, Bool.and_true, Bool.and_eq_true] at hq
  simp [hq, State.returnAll]

def foot_returnLink : List Spot := spots [foot_modBreath, foot_modPort, foot_reevaluate] []

@[simp] theorem it_returnLink {iq : Item} (s : State) (p : Nat) (hq : iq.off foot_returnLink = true) : itm iq (State.returnLink s p) = itm iq s := by
  delta foot_returnLink at hq
  simp only [off_spots, off_cons_cons, off_nil, List.all_cons, List.all_nil, Bool.and_true, Bool.and_eq_true] at hq
  simp only [State.returnLink]
  (repeat' split) <;> simp [hq]

def foot_requestLink : List Spot := spots [foot_modPort, foot_linkGranted, foot_request] []

@[simp] theorem it_requestLink {iq : Item} (s : State) (p : Nat) (w : LinkWant) (hq : iq.off foot_requestLink = true) : itm iq (State.requestLink s p w) = itm iq s := by
  delta foot_requestLink at hq
  simp only [off_spots, off_cons_cons, off_nil, List.all_cons, List.all_nil, Bool.and_true, Bool.and_eq_true] at hq
  simp only [State.requestLink]
  (repeat' split) <;> simp [hq]

def foot_chargeStanding : List Spot := spots [foot_modBreath, foot_reevaluate] []

@[simp] theorem it_chargeStanding {iq : Item} (s : State) (n : Nat) (on : Bool) (hq : iq.off foot_chargeStanding = true) : itm iq (State.chargeStanding s n on) = itm iq s := by
  delta foot_chargeStanding at hq
  simp only [off_spots, off_cons_cons, off_nil, List.all_cons, List.all_nil, Bool.and_true, Bool.and_eq_true] at hq
  simp [hq, State.chargeStanding]

def foot_grantBistQ : List Spot := spots [foot_modBreath] []

@[simp] theorem it_grantBistQ {iq : Item} (s : State) (l : List BistReq) (hq : iq.off foot_grantBistQ = true) : itm iq (s.grantBistQ l) = itm iq s := by
  delta foot_grantBistQ at hq
  simp only [off_spots, off_cons_cons, off_nil, List.all_cons, List.all_nil, Bool.and_true, Bool.and_eq_true] at hq
  induction l generalizing s with
  | nil => rfl
  | cons r l ih =>
    unfold State.grantBistQ
    split <;> simp [hq, ih]

def foot_grantBist : List Spot := spots [foot_grantBistQ] []

@[simp] theorem it_grantBist {iq : Item} (s : State) (hq : iq.off foot_grantBist = true) : itm iq (State.grantBist s) = itm iq s := by
  delta foot_grantBist at hq
  simp only [off_spots, off_cons_cons, off_nil, List.all_cons, List.all_nil, Bool.and_true, Bool.and_eq_true] at hq
  simp [hq, State.grantBist]

def foot_requestBist : List Spot := spots [foot_modBreath, foot_grantBist] [.f .BRTH_EVENT_NEVER_FIT]

@[simp] theorem it_requestBist {iq : Item} (s : State) (r : BistReq) (hq : iq.off foot_requestBist = true) : itm iq (State.requestBist s r) = itm iq s := by
  delta foot_requestBist at hq
  simp only [off_spots, off_cons_cons, off_nil, List.all_cons, List.all_nil, Bool.and_true, Bool.and_eq_true] at hq
  simp [hq, State.requestBist]

def foot_returnBist : List Spot := spots [foot_modBreath, foot_grantBist] []

@[simp] theorem it_returnBist {iq : Item} (s : State) (cls index : Nat) (hq : iq.off foot_returnBist = true) : itm iq (State.returnBist s cls index) = itm iq s := by
  delta foot_returnBist at hq
  simp only [off_spots, off_cons_cons, off_nil, List.all_cons, List.all_nil, Bool.and_true, Bool.and_eq_true] at hq
  simp [hq, State.returnBist]

def foot_requestTest : List Spot := spots [foot_requestBist] []

@[simp] theorem it_requestTest {iq : Item} (s : State) (cls index : Nat) (hq : iq.off foot_requestTest = true) : itm iq (State.requestTest s cls index) = itm iq s := by
  delta foot_requestTest at hq
  simp only [off_spots, off_cons_cons, off_nil, List.all_cons, List.all_nil, Bool.and_true, Bool.and_eq_true] at hq
  simp [hq, State.requestTest]

end Sys2Proof.Laws
end

