-- ==== Sys2Proof/Laws/FootPenMap.lean ====
section
/-! SUPPORT. What the operations of Machine/PenMap.lean may write, and that they leave everything else as it was. -/

namespace Sys2Proof.Laws

open Sys2Proof.Machine

def foot_modDrop : List Spot := [.p .drop]

@[simp] theorem it_modDrop {iq : Item} (s : State) (n : Nat) (f : DropX → DropX) (hq : iq.off foot_modDrop = true) : itm iq (State.modDrop s n f) = itm iq s := by
  delta foot_modDrop at hq
  simp [hq, State.modDrop]

def foot_wakePort : List Spot := spots [foot_requestLink] []

@[simp] theorem it_wakePort {iq : Item} (s : State) (p : Nat) (hq : iq.off foot_wakePort = true) : itm iq (State.wakePort s p) = itm iq s := by
  delta foot_wakePort at hq
  simp only [off_spots, off_cons_cons, off_nil, List.all_cons, List.all_nil, Bool.and_true, Bool.and_eq_true] at hq
  simp [hq, State.wakePort]

def foot_emitMgmt : List Spot := spots [foot_emit] []

@[simp] theorem it_emitMgmt {iq : Item} (s : State) (p a q : Nat) (l : List MgmtMsg) (hq : iq.off foot_emitMgmt = true) : itm iq (s.emitMgmt p a q l) = itm iq s := by
  delta foot_emitMgmt at hq
  simp only [off_spots, off_cons_cons, off_nil, List.all_cons, List.all_nil, Bool.and_true, Bool.and_eq_true] at hq
  induction l generalizing s q with
  | nil => rfl
  | cons m l ih => unfold State.emitMgmt; rw [ih]; simp [hq]

def foot_flushMgmt : List Spot := spots [foot_modDrop, foot_emitMgmt] []

@[simp] theorem it_flushMgmt {iq : Item} (s : State) (p a : Nat) (hq : iq.off foot_flushMgmt = true) : itm iq (State.flushMgmt s p a) = itm iq s := by
  delta foot_flushMgmt at hq
  simp only [off_spots, off_cons_cons, off_nil, List.all_cons, List.all_nil, Bool.and_true, Bool.and_eq_true] at hq
  unfold State.flushMgmt
  dsimp only
  split
  · rfl
  · simp [hq]

def foot_sendMgmt : List Spot := spots [foot_modDrop, foot_wakePort, foot_flushMgmt] []

@[simp] theorem it_sendMgmt {iq : Item} (s : State) (p a cls : Nat) (payload : List Nat) (hq : iq.off foot_sendMgmt = true) : itm iq (State.sendMgmt s p a cls payload) = itm iq s := by
  delta foot_sendMgmt at hq
  simp only [off_spots, off_cons_cons, off_nil, List.all_cons, List.all_nil, Bool.and_true, Bool.and_eq_true] at hq
  simp [hq, State.sendMgmt]

def foot_announceMap : List Spot := spots [foot_emit, foot_modPort] []

@[simp] theorem it_announceMap {iq : Item} (s : State) (p : Nat) (hq : iq.off foot_announceMap = true) : itm iq (State.announceMap s p) = itm iq s := by
  delta foot_announceMap at hq
  simp only [off_spots, off_cons_cons, off_nil, List.all_cons, List.all_nil, Bool.and_true, Bool.and_eq_true] at hq
  simp only [State.announceMap]
  (repeat' split) <;> simp [hq]

def foot_announceMode : List Spot := spots [foot_modPort] []

@[simp] theorem it_announceMode {iq : Item} (s : State) (p mode act : Nat) (hq : iq.off foot_announceMode = true) : itm iq (State.announceMode s p mode act) = itm iq s := by
  delta foot_announceMode at hq
  simp only [off_spots, off_cons_cons, off_nil, List.all_cons, List.all_nil, Bool.and_true, Bool.and_eq_true] at hq
  simp [hq, State.announceMode]

def foot_changeSmap : List Spot := spots [foot_modPort, foot_announceMap] []

@[simp] theorem it_changeSmap {iq : Item} (s : State) (p k : Nat) (w : Word) (hq : iq.off foot_changeSmap = true) : itm iq (State.changeSmap s p k w) = itm iq s := by
  delta foot_changeSmap at hq
  simp only [off_spots, off_cons_cons, off_nil, List.all_cons, List.all_nil, Bool.and_true, Bool.and_eq_true] at hq
  simp [hq, State.changeSmap]

def foot_changeBmap : List Spot := spots [foot_modPort, foot_announceMap] []

@[simp] theorem it_changeBmap {iq : Item} (s : State) (p b : Nat) (w : Word) (hq : iq.off foot_changeBmap = true) : itm iq (State.changeBmap s p b w) = itm iq s := by
  delta foot_changeBmap at hq
  simp only [off_spots, off_cons_cons, off_nil, List.all_cons, List.all_nil, Bool.and_true, Bool.and_eq_true] at hq
  simp [hq, State.changeBmap]

def foot_grantBurst : List Spot := spots [foot_modPort, foot_changeBmap] [.f .PEN_DROP_BURST]

theorem it_grantBurst {iq : Item} (s : State) (p : Nat) (b : BurstWait) (hq : iq.off foot_grantBurst = true) {t : State} (h : State.grantBurst s p b = some t) : itm iq t = itm iq s := by
  delta foot_grantBurst at hq
  simp only [off_spots, off_cons_cons, off_nil, List.all_cons, List.all_nil, Bool.and_true, Bool.and_eq_true] at hq
  revert h; simp only [State.grantBurst]; (repeat' split) <;> (intro h; first | cases h | skip) <;> simp [hq]

def foot_serveWaits : List Spot := spots [foot_modPort, foot_grantBurst] []

@[simp] theorem it_serveWaits {iq : Item} (s : State) (p : Nat) (down : Bool) (k : Nat) (hq : iq.off foot_serveWaits = true) : itm iq (s.serveWaits p down k) = itm iq s := by
  delta foot_serveWaits at hq
  simp only [off_spots, off_cons_cons, off_nil, List.all_cons, List.all_nil, Bool.and_true, Bool.and_eq_true] at hq
  induction k generalizing s with
  | zero => rfl
  | succ k ih =>
    unfold State.serveWaits
    split
    · rfl
    · split
      · rfl
      · rename_i h
        rw [ih]; simp [hq, it_grantBurst (iq := iq) _ _ _ (by simp [hq]) h]

def foot_wantBurst : List Spot := spots [foot_modPort, foot_serveWaits] []

@[simp] theorem it_wantBurst {iq : Item} (s : State) (n : Nat) (down single : Bool) (hq : iq.off foot_wantBurst = true) : itm iq (State.wantBurst s n down single) = itm iq s := by
  delta foot_wantBurst at hq
  simp only [off_spots, off_cons_cons, off_nil, List.all_cons, List.all_nil, Bool.and_true, Bool.and_eq_true] at hq
  simp [hq, State.wantBurst]

def foot_dropBursts : List Spot := spots [foot_modPort, foot_changeBmap, foot_serveWaits] [.f .PEN_DROP_BURST]

@[simp] theorem it_dropBursts {iq : Item} (s : State) (n : Nat) (hq : iq.off foot_dropBursts = true) : itm iq (State.dropBursts s n) = itm iq s := by
  delta foot_dropBursts at hq
  simp only [off_spots, off_cons_cons, off_nil, List.all_cons, List.all_nil, Bool.and_true, Bool.and_eq_true] at hq
  simp [hq, State.dropBursts]

def foot_turnBurst : List Spot := spots [foot_wantBurst, foot_dropBursts] []

@[simp] theorem it_turnBurst {iq : Item} (s : State) (n : Nat) (down single : Bool) (hq : iq.off foot_turnBurst = true) : itm iq (State.turnBurst s n down single) = itm iq s := by
  delta foot_turnBurst at hq
  simp only [off_spots, off_cons_cons, off_nil, List.all_cons, List.all_nil, Bool.and_true, Bool.and_eq_true] at hq
  simp [hq, State.turnBurst]

def foot_dropPosition : List Spot := spots [foot_changeSmap] [.f .PEN_DROP_SERVO]

@[simp] theorem it_dropPosition {iq : Item} (s : State) (n : Nat) (hq : iq.off foot_dropPosition = true) : itm iq (State.dropPosition s n) = itm iq s := by
  delta foot_dropPosition at hq
  simp only [off_spots, off_cons_cons, off_nil, List.all_cons, List.all_nil, Bool.and_true, Bool.and_eq_true] at hq
  simp only [State.dropPosition]
  (repeat' split) <;> simp [hq]

end Sys2Proof.Laws
end

