-- ==== Sys2Proof/Laws/FootRecords.lean ====
section
/-! SUPPORT. What the operations of Machine/Records.lean may write, and that they leave everything else as it was. -/

namespace Sys2Proof.Laws

open Sys2Proof.Machine

def foot_modCal : List Spot := [.p .cal]

@[simp] theorem it_modCal {iq : Item} (s : State) (space index layer : Nat) (f : CalRec → CalRec) (hq : iq.off foot_modCal = true) : itm iq (State.modCal s space index layer f) = itm iq s := by
  delta foot_modCal at hq
  simp [hq, State.modCal]

def foot_modServo : List Spot := [.p .servo]

@[simp] theorem it_modServo {iq : Item} (s : State) (n : Nat) (f : ServoX → ServoX) (hq : iq.off foot_modServo = true) : itm iq (State.modServo s n f) = itm iq s := by
  delta foot_modServo at hq
  simp [hq, State.modServo]

def foot_modSpin : List Spot := spots [foot_modServo] []

@[simp] theorem it_modSpin {iq : Item} (s : State) (n : Nat) (f : SpinX → SpinX) (hq : iq.off foot_modSpin = true) : itm iq (State.modSpin s n f) = itm iq s := by
  delta foot_modSpin at hq
  simp only [off_spots, off_cons_cons, off_nil, List.all_cons, List.all_nil, Bool.and_true, Bool.and_eq_true] at hq
  simp [hq, State.modSpin]

def foot_modCirq : List Spot := [.p .cirq]

@[simp] theorem it_modCirq {iq : Item} (s : State) (f : CirqState → CirqState) (hq : iq.off foot_modCirq = true) : itm iq (State.modCirq s f) = itm iq s := by
  delta foot_modCirq at hq
  simp [hq, State.modCirq]

def foot_modLoop : List Spot := spots [foot_modServo] []

@[simp] theorem it_modLoop {iq : Item} (s : State) (n l : Nat) (f : LoopX → LoopX) (hq : iq.off foot_modLoop = true) : itm iq (State.modLoop s n l f) = itm iq s := by
  delta foot_modLoop at hq
  simp only [off_spots, off_cons_cons, off_nil, List.all_cons, List.all_nil, Bool.and_true, Bool.and_eq_true] at hq
  simp [hq, State.modLoop]

def foot_setLs : List Spot := [.f .CIRQ_LSTAT_LS]

@[simp] theorem it_setLs {iq : Item} (s : State) (n l v : Nat) (hq : iq.off foot_setLs = true) : itm iq (State.setLs s n l v) = itm iq s := by
  delta foot_setLs at hq
  simp [hq, State.setLs]

end Sys2Proof.Laws
end

