-- ==== Sys2Proof/Laws/FootCirqOps.lean ====
section
/-! SUPPORT. What the operations of Machine/CirqOps.lean may write, and that they leave everything else as it was. -/

namespace Sys2Proof.Laws

open Sys2Proof.Machine

def foot_renewArrivals : List Spot := [.f .CIRQ_SLOT_ARR_CYC]

@[simp] theorem it_renewArrivals {iq : Item} (s : State) (p : Nat) (hq : iq.off foot_renewArrivals = true) : itm iq (State.renewArrivals s p) = itm iq s := by
  delta foot_renewArrivals at hq
  unfold State.renewArrivals
  refine it_forEach _ _ _ fun t n => ?_
  (repeat' split) <;> simp [hq]

def foot_putSlot : List Spot := [.f .CIRQ_SLOT_VALID, .f .CIRQ_SLOT_SUB, .f .CIRQ_SLOT_MN, .f .CIRQ_SLOT_ARR_CYC, .f .MECH_SERVO_SLOT_VALID, .f .MECH_SERVO_CLUSTER,
  .f .MECH_SERVO_SLOT]

@[simp] theorem it_putSlot {iq : Item} (s : State) (n c k sub pos : Nat) (hq : iq.off foot_putSlot = true) : itm iq (State.putSlot s n c k sub pos) = itm iq s := by
  delta foot_putSlot at hq
  simp only [off_spots, off_cons_cons, off_nil, List.all_cons, List.all_nil, Bool.and_true, Bool.and_eq_true] at hq
  simp [hq, State.putSlot]

def foot_takeSlot : List Spot := spots [foot_modMech, foot_modServo, foot_putSlot] [.f .CIRQ_LSTAT_LS, .f .CIRQ_LSTAT_HOLD_CNT, .f .CIRQ_ANGLE_THETA]

@[simp] theorem it_takeSlot {iq : Item} (s : State) (n c k sub pos : Nat) (hq : iq.off foot_takeSlot = true) : itm iq (State.takeSlot s n c k sub pos) = itm iq s := by
  delta foot_takeSlot at hq
  simp only [off_spots, off_cons_cons, off_nil, List.all_cons, List.all_nil, Bool.and_true, Bool.and_eq_true] at hq
  simp [hq, State.takeSlot]

def foot_takePosition : List Spot := spots [foot_changeSmap] [.f .PEN_DROP_SERVO]

@[simp] theorem it_takePosition {iq : Item} (s : State) (n k sub subph : Nat) (hq : iq.off foot_takePosition = true) : itm iq (State.takePosition s n k sub subph) = itm iq s := by
  delta foot_takePosition at hq
  simp only [off_spots, off_cons_cons, off_nil, List.all_cons, List.all_nil, Bool.and_true, Bool.and_eq_true] at hq
  simp [hq, State.takePosition]

def foot_loopStatEnd : List Spot := [.f .CIRQ_LOOP_STAT_BUSY]

@[simp] theorem it_loopStatEnd {iq : Item} (s : State) (n : Nat) (f : State → State) (h : ∀ t, itm iq (f t) = itm iq t) (hq : iq.off foot_loopStatEnd = true) : itm iq (s.loopStatEnd n f) = itm iq s := by
  delta foot_loopStatEnd at hq
  unfold State.loopStatEnd
  split
  · rw [h, it_set0 _ _ _ (by simp [hq])]
  · rfl

def foot_swapAbandoned : List Spot := spots [foot_logEntry] [.f .CIRQ_EVENT_SWAP_ABANDON]

@[simp] theorem it_swapAbandoned {iq : Item} (s : State) (n mask cause : Nat) (hq : iq.off foot_swapAbandoned = true) : itm iq (State.swapAbandoned s n mask cause) = itm iq s := by
  delta foot_swapAbandoned at hq
  simp only [off_spots, off_cons_cons, off_nil, List.all_cons, List.all_nil, Bool.and_true, Bool.and_eq_true] at hq
  simp [hq, State.swapAbandoned]

def foot_abandonSoft : List Spot := spots [foot_modServo, foot_modLoop, foot_setLs, foot_swapAbandoned] [.f .CIRQ_LOOP_STAT_ERR]

@[simp] theorem it_abandonSoft {iq : Item} (s : State) (n : Nat) (hq : iq.off foot_abandonSoft = true) : itm iq (State.abandonSoft s n) = itm iq s := by
  delta foot_abandonSoft at hq
  simp only [off_spots, off_cons_cons, off_nil, List.all_cons, List.all_nil, Bool.and_true, Bool.and_eq_true] at hq
  simp [hq, State.abandonSoft]

def foot_abandonSwap : List Spot := spots [foot_modServo, foot_setLs, foot_loopStatEnd, foot_swapAbandoned] [.f .CIRQ_LSTAT_HOLD_CNT, .f .CIRQ_LOOP_STAT_ERR]

@[simp] theorem it_abandonSwap {iq : Item} (s : State) (n cause : Nat) (hq : iq.off foot_abandonSwap = true) : itm iq (State.abandonSwap s n cause) = itm iq s := by
  delta foot_abandonSwap at hq
  simp only [off_spots, off_cons_cons, off_nil, List.all_cons, List.all_nil, Bool.and_true, Bool.and_eq_true] at hq
  simp only [State.abandonSwap]
  (repeat' split) <;> simp [hq]

def foot_endInj : List Spot := spots [foot_modCirq] [.f .CIRQ_INJ_STAT_ACTIVE, .f .CIRQ_INJ_STAT_END]

@[simp] theorem it_endInj {iq : Item} (s : State) (c e : Nat) (hq : iq.off foot_endInj = true) : itm iq (State.endInj s c e) = itm iq s := by
  delta foot_endInj at hq
  simp only [off_spots, off_cons_cons, off_nil, List.all_cons, List.all_nil, Bool.and_true, Bool.and_eq_true] at hq
  simp only [State.endInj]
  (repeat' split) <;> simp [hq]

def foot_endInjOf : List Spot := spots [foot_endInj] []

@[simp] theorem it_endInjOf {iq : Item} (s : State) (n e : Nat) (hq : iq.off foot_endInjOf = true) : itm iq (State.endInjOf s n e) = itm iq s := by
  delta foot_endInjOf at hq
  simp only [off_spots, off_cons_cons, off_nil, List.all_cons, List.all_nil, Bool.and_true, Bool.and_eq_true] at hq
  simp [hq, State.endInjOf]

def foot_modCap : List Spot := spots [foot_modCirq] []

@[simp] theorem it_modCap {iq : Item} (s : State) (c : Nat) (f : CapX → CapX) (hq : iq.off foot_modCap = true) : itm iq (State.modCap s c f) = itm iq s := by
  delta foot_modCap at hq
  simp only [off_spots, off_cons_cons, off_nil, List.all_cons, List.all_nil, Bool.and_true, Bool.and_eq_true] at hq
  simp [hq, State.modCap]

def foot_endCap : List Spot := spots [foot_modCap] [.f .CIRQ_CAP_STAT_COUNT, .f .CIRQ_CAP_STAT_ARMED, .f .CIRQ_CAP_STAT_TRIGGERED, .f .CIRQ_CAP_STAT_ERR,
  .f .CIRQ_CAP_STAT_DONE]

@[simp] theorem it_endCap {iq : Item} (s : State) (c err : Nat) (hq : iq.off foot_endCap = true) : itm iq (State.endCap s c err) = itm iq s := by
  delta foot_endCap at hq
  simp only [off_spots, off_cons_cons, off_nil, List.all_cons, List.all_nil, Bool.and_true, Bool.and_eq_true] at hq
  simp [hq, State.endCap]

def foot_stopSled : List Spot := spots [foot_returnGrant, foot_modServo] [.f .MECH_SLED_STAT_MOVING, .f .MECH_SLED_STAT_POS_VALID]

@[simp] theorem it_stopSled {iq : Item} (s : State) (n : Nat) (safe : Bool) (hq : iq.off foot_stopSled = true) : itm iq (State.stopSled s n safe) = itm iq s := by
  delta foot_stopSled at hq
  simp only [off_spots, off_cons_cons, off_nil, List.all_cons, List.all_nil, Bool.and_true, Bool.and_eq_true] at hq
  simp [hq, State.stopSled]

def foot_releaseSlot : List Spot := spots [foot_modMech, foot_dropPosition, foot_modServo, foot_modCirq, foot_abandonSoft, foot_abandonSwap, foot_endInjOf,
  foot_endCap, foot_stopSled] [.r .CIRQ_SLOT, .r .CIRQ_LSTAT, .r .CIRQ_ANGLE, .f .MECH_SERVO_SLOT_VALID, .f .MECH_SERVO_CLUSTER, .f .MECH_SERVO_SLOT]

@[simp] theorem it_releaseSlot {iq : Item} (s : State) (n : Nat) (hq : iq.off foot_releaseSlot = true) : itm iq (State.releaseSlot s n) = itm iq s := by
  delta foot_releaseSlot at hq
  simp only [off_spots, off_cons_cons, off_nil, List.all_cons, List.all_nil, Bool.and_true, Bool.and_eq_true] at hq
  simp [hq, State.releaseSlot]

def foot_closeLoop : List Spot := spots [foot_modServo, foot_modLoop, foot_setLs] []

@[simp] theorem it_closeLoop {iq : Item} (s : State) (n l : Nat) (hq : iq.off foot_closeLoop = true) : itm iq (State.closeLoop s n l) = itm iq s := by
  delta foot_closeLoop at hq
  simp only [off_spots, off_cons_cons, off_nil, List.all_cons, List.all_nil, Bool.and_true, Bool.and_eq_true] at hq
  simp [hq, State.closeLoop]

def foot_openLoop : List Spot := spots [foot_modLoop, foot_setLs] []

@[simp] theorem it_openLoop {iq : Item} (s : State) (n l : Nat) (hq : iq.off foot_openLoop = true) : itm iq (State.openLoop s n l) = itm iq s := by
  delta foot_openLoop at hq
  simp only [off_spots, off_cons_cons, off_nil, List.all_cons, List.all_nil, Bool.and_true, Bool.and_eq_true] at hq
  simp [hq, State.openLoop]

def foot_openLoops : List Spot := spots [foot_abandonSoft, foot_abandonSwap, foot_endInjOf, foot_openLoop] []

@[simp] theorem it_openLoops {iq : Item} (s : State) (n : Nat) (ls : List Nat) (hq : iq.off foot_openLoops = true) : itm iq (State.openLoops s n ls) = itm iq s := by
  delta foot_openLoops at hq
  simp only [off_spots, off_cons_cons, off_nil, List.all_cons, List.all_nil, Bool.and_true, Bool.and_eq_true] at hq
  simp [hq, State.openLoops]

def foot_driveLoop : List Spot := spots [foot_modLoop] []

@[simp] theorem it_driveLoop {iq : Item} (s : State) (n l : Nat) (v : Int) (hq : iq.off foot_driveLoop = true) : itm iq (State.driveLoop s n l v) = itm iq s := by
  delta foot_driveLoop at hq
  simp only [off_spots, off_cons_cons, off_nil, List.all_cons, List.all_nil, Bool.and_true, Bool.and_eq_true] at hq
  simp [hq, State.driveLoop]

end Sys2Proof.Laws
end

