-- ==== Sys2Proof/Laws/FootChanOps.lean ====
section
/-! SUPPORT. What the operations of Machine/ChanOps.lean may write, and that they leave everything else as it was. -/

namespace Sys2Proof.Laws

open Sys2Proof.Machine

def foot_modChan : List Spot := [.p .chan]

@[simp] theorem it_modChan {iq : Item} (s : State) (f : ChannelState → ChannelState) (hq : iq.off foot_modChan = true) : itm iq (State.modChan s f) = itm iq s := by
  delta foot_modChan at hq
  simp [hq, State.modChan]

def foot_modLane : List Spot := spots [foot_modChan] []

@[simp] theorem it_modLane {iq : Item} (s : State) (f : Nat) (g : LaneX → LaneX) (hq : iq.off foot_modLane = true) : itm iq (State.modLane s f g) = itm iq s := by
  delta foot_modLane at hq
  simp only [off_spots, off_cons_cons, off_nil, List.all_cons, List.all_nil, Bool.and_true, Bool.and_eq_true] at hq
  simp [hq, State.modLane]

def foot_modBeam : List Spot := spots [foot_modLane] []

@[simp] theorem it_modBeam {iq : Item} (s : State) (f b : Nat) (g : BeamX → BeamX) (hq : iq.off foot_modBeam = true) : itm iq (State.modBeam s f b g) = itm iq s := by
  delta foot_modBeam at hq
  simp only [off_spots, off_cons_cons, off_nil, List.all_cons, List.all_nil, Bool.and_true, Bool.and_eq_true] at hq
  simp [hq, State.modBeam]

def foot_modDisc : List Spot := spots [foot_modChan] []

@[simp] theorem it_modDisc {iq : Item} (s : State) (n : Nat) (f : DiscX → DiscX) (hq : iq.off foot_modDisc = true) : itm iq (State.modDisc s n f) = itm iq s := by
  delta foot_modDisc at hq
  simp only [off_spots, off_cons_cons, off_nil, List.all_cons, List.all_nil, Bool.and_true, Bool.and_eq_true] at hq
  simp [hq, State.modDisc]

def foot_setDelta : List Spot := spots [foot_modBeam] [.f .FIRN_BEAM_RATE]

@[simp] theorem it_setDelta {iq : Item} (s : State) (f b : Nat) (delta : Int) (hq : iq.off foot_setDelta = true) : itm iq (State.setDelta s f b delta) = itm iq s := by
  delta foot_setDelta at hq
  simp only [off_spots, off_cons_cons, off_nil, List.all_cons, List.all_nil, Bool.and_true, Bool.and_eq_true] at hq
  simp [hq, State.setDelta]

def foot_startBeams : List Spot := spots [foot_sendMgmt, foot_modLane, foot_modBeam, foot_setDelta] [.f .FIRN_BEAM_TSTATE, .f .FIRN_AGC_GAIN]

@[simp] theorem it_startBeams {iq : Item} (s : State) (f n : Nat) (hq : iq.off foot_startBeams = true) : itm iq (State.startBeams s f n) = itm iq s := by
  delta foot_startBeams at hq
  simp only [off_spots, off_cons_cons, off_nil, List.all_cons, List.all_nil, Bool.and_true, Bool.and_eq_true] at hq
  simp [hq, State.startBeams]

def foot_enterSearch : List Spot := spots [foot_modBeam, foot_setDelta] [.f .FIRN_EVENT_LOCK_LOST, .f .FIRN_BEAM_TSTATE]

@[simp] theorem it_enterSearch {iq : Item} (s : State) (f b : Nat) (hq : iq.off foot_enterSearch = true) : itm iq (State.enterSearch s f b) = itm iq s := by
  delta foot_enterSearch at hq
  simp only [off_spots, off_cons_cons, off_nil, List.all_cons, List.all_nil, Bool.and_true, Bool.and_eq_true] at hq
  simp [hq, State.enterSearch]

def foot_searchAgain : List Spot := spots [foot_modBeam, foot_enterSearch] []

@[simp] theorem it_searchAgain {iq : Item} (s : State) (f : Nat) (hq : iq.off foot_searchAgain = true) : itm iq (State.searchAgain s f) = itm iq s := by
  delta foot_searchAgain at hq
  simp only [off_spots, off_cons_cons, off_nil, List.all_cons, List.all_nil, Bool.and_true, Bool.and_eq_true] at hq
  simp [hq, State.searchAgain]

def foot_feedForward : List Spot := spots [foot_setDelta] []

@[simp] theorem it_feedForward {iq : Item} (s : State) (n : Nat) (old new : Int) (hq : iq.off foot_feedForward = true) : itm iq (State.feedForward s n old new) = itm iq s := by
  delta foot_feedForward at hq
  simp only [off_spots, off_cons_cons, off_nil, List.all_cons, List.all_nil, Bool.and_true, Bool.and_eq_true] at hq
  unfold State.feedForward
  split
  · rfl
  · split
    · rfl
    · rw [it_forEach]
      intro t g
      rw [it_forEach]
      intro u b
      split <;> simp [hq]

def foot_headLeaves : List Spot := spots [foot_modLane] []

@[simp] theorem it_headLeaves {iq : Item} (s : State) (n : Nat) (hq : iq.off foot_headLeaves = true) : itm iq (State.headLeaves s n) = itm iq s := by
  delta foot_headLeaves at hq
  simp only [off_spots, off_cons_cons, off_nil, List.all_cons, List.all_nil, Bool.and_true, Bool.and_eq_true] at hq
  simp only [State.headLeaves]
  (repeat' split) <;> simp [hq]

def foot_presetTaps : List Spot := [.r .FIRN_TAP]

@[simp] theorem it_presetTaps {iq : Item} (s : State) (f : Nat) (hq : iq.off foot_presetTaps = true) : itm iq (State.presetTaps s f) = itm iq s := by
  delta foot_presetTaps at hq
  simp [hq, State.presetTaps]

def foot_loadTaps : List Spot := spots [foot_presetTaps] [.r .FIRN_TAP]

@[simp] theorem it_loadTaps {iq : Item} (s : State) (f n : Nat) (hq : iq.off foot_loadTaps = true) : itm iq (State.loadTaps s f n) = itm iq s := by
  delta foot_loadTaps at hq
  simp only [off_spots, off_cons_cons, off_nil, List.all_cons, List.all_nil, Bool.and_true, Bool.and_eq_true] at hq
  simp only [State.loadTaps]
  (repeat' split) <;> simp [hq]

def foot_bindLane : List Spot := spots [foot_wantBurst, foot_modChan, foot_modLane, foot_startBeams, foot_loadTaps] [.f .FIRN_STATUS_LSTATE, .f .FIRN_STATUS_VALID,
  .f .FIRN_STATUS_MN, .f .FIRN_STATUS_BD, .f .MECH_SERVO_LANE_VALID, .f .MECH_SERVO_LANE]

@[simp] theorem it_bindLane {iq : Item} (s : State) (f n : Nat) (own : Bool) (hq : iq.off foot_bindLane = true) : itm iq (State.bindLane s f n own) = itm iq s := by
  delta foot_bindLane at hq
  simp only [off_spots, off_cons_cons, off_nil, List.all_cons, List.all_nil, Bool.and_true, Bool.and_eq_true] at hq
  simp [hq, State.bindLane]

def foot_storeTaps : List Spot := spots [foot_modChan] []

@[simp] theorem it_storeTaps {iq : Item} (s : State) (f n : Nat) (hq : iq.off foot_storeTaps = true) : itm iq (State.storeTaps s f n) = itm iq s := by
  delta foot_storeTaps at hq
  simp only [off_spots, off_cons_cons, off_nil, List.all_cons, List.all_nil, Bool.and_true, Bool.and_eq_true] at hq
  simp [hq, State.storeTaps]

def foot_freeLaneRegs : List Spot := spots [foot_modLane] [.f .FIRN_BEAM_TSTATE, .f .FIRN_STATUS_LSTATE, .f .FIRN_STATUS_VALID, .f .FIRN_STATUS_MN,
  .f .FIRN_STATUS_WRITE, .f .FIRN_STATUS_BD]

@[simp] theorem it_freeLaneRegs {iq : Item} (s : State) (f : Nat) (hq : iq.off foot_freeLaneRegs = true) : itm iq (State.freeLaneRegs s f) = itm iq s := by
  delta foot_freeLaneRegs at hq
  simp only [off_spots, off_cons_cons, off_nil, List.all_cons, List.all_nil, Bool.and_true, Bool.and_eq_true] at hq
  simp [hq, State.freeLaneRegs]

def foot_dropAssembling : List Spot := spots [foot_modChan] []

@[simp] theorem it_dropAssembling {iq : Item} (s : State) (f : Nat) (hq : iq.off foot_dropAssembling = true) : itm iq (State.dropAssembling s f) = itm iq s := by
  delta foot_dropAssembling at hq
  simp only [off_spots, off_cons_cons, off_nil, List.all_cons, List.all_nil, Bool.and_true, Bool.and_eq_true] at hq
  simp [hq, State.dropAssembling]

def foot_clearDecoder : List Spot := [.f .MOR_DEC_DSTATE, .f .MOR_DEC_LANE, .f .MOR_DEC_SET, .f .MOR_DEC_ITER, .f .MOR_DEC_RESUMED]

@[simp] theorem it_clearDecoder {iq : Item} (s : State) (d : Nat) (hq : iq.off foot_clearDecoder = true) : itm iq (State.clearDecoder s d) = itm iq s := by
  delta foot_clearDecoder at hq
  simp only [off_spots, off_cons_cons, off_nil, List.all_cons, List.all_nil, Bool.and_true, Bool.and_eq_true] at hq
  simp [hq, State.clearDecoder]

def foot_testDecoder : List Spot := spots [foot_requestTest, foot_clearDecoder] [.f .MOR_DEC_DSTATE]

@[simp] theorem it_testDecoder {iq : Item} (s : State) (d : Nat) (hq : iq.off foot_testDecoder = true) : itm iq (State.testDecoder s d) = itm iq s := by
  delta foot_testDecoder at hq
  simp only [off_spots, off_cons_cons, off_nil, List.all_cons, List.all_nil, Bool.and_true, Bool.and_eq_true] at hq
  simp [hq, State.testDecoder]

def foot_retireDecoder : List Spot := spots [foot_modChan, foot_clearDecoder] [.f .MOR_DEC_DSTATE, .f .MOR_EVENT_DEC_OOS]

@[simp] theorem it_retireDecoder {iq : Item} (s : State) (d : Nat) (hq : iq.off foot_retireDecoder = true) : itm iq (State.retireDecoder s d) = itm iq s := by
  delta foot_retireDecoder at hq
  simp only [off_spots, off_cons_cons, off_nil, List.all_cons, List.all_nil, Bool.and_true, Bool.and_eq_true] at hq
  simp [hq, State.retireDecoder]

def foot_decCmdDone : List Spot := [.f .MOR_DEC_CMD_STAT_BUSY, .f .MOR_DEC_CMD_STAT_RESULT]

@[simp] theorem it_decCmdDone {iq : Item} (s : State) (r : Nat) (hq : iq.off foot_decCmdDone = true) : itm iq (State.decCmdDone s r) = itm iq s := by
  delta foot_decCmdDone at hq
  simp only [off_spots, off_cons_cons, off_nil, List.all_cons, List.all_nil, Bool.and_true, Bool.and_eq_true] at hq
  simp [hq, State.decCmdDone]

def foot_idleDecoder : List Spot := spots [foot_clearDecoder, foot_testDecoder, foot_retireDecoder, foot_decCmdDone] [.f .MOR_DEC_DSTATE]

@[simp] theorem it_idleDecoder {iq : Item} (s : State) (d : Nat) (hq : iq.off foot_idleDecoder = true) : itm iq (State.idleDecoder s d) = itm iq s := by
  delta foot_idleDecoder at hq
  simp only [off_spots, off_cons_cons, off_nil, List.all_cons, List.all_nil, Bool.and_true, Bool.and_eq_true] at hq
  simp only [State.idleDecoder]
  (repeat' split) <;> simp [hq]

def foot_discardCws : List Spot := spots [foot_modChan, foot_idleDecoder] []

@[simp] theorem it_discardCws {iq : Item} (s : State) (n : Nat) (hq : iq.off foot_discardCws = true) : itm iq (State.discardCws s n) = itm iq s := by
  delta foot_discardCws at hq
  simp only [off_spots, off_cons_cons, off_nil, List.all_cons, List.all_nil, Bool.and_true, Bool.and_eq_true] at hq
  unfold State.discardCws
  rw [it_modChan _ _ (by simp [hq]), it_forEach]
  intro t w
  split <;> simp [hq]

def foot_endWrite : List Spot := spots [foot_modHost, foot_returnGrant, foot_turnBurst, foot_modLane, foot_modDisc, foot_searchAgain] [.f .FIRN_STATUS_WRITE]

@[simp] theorem it_endWrite {iq : Item} (s : State) (f : Nat) (hq : iq.off foot_endWrite = true) : itm iq (State.endWrite s f) = itm iq s := by
  delta foot_endWrite at hq
  simp only [off_spots, off_cons_cons, off_nil, List.all_cons, List.all_nil, Bool.and_true, Bool.and_eq_true] at hq
  simp [hq, State.endWrite]

def foot_releaseLane : List Spot := spots [foot_dropBursts, foot_modChan, foot_storeTaps, foot_freeLaneRegs, foot_dropAssembling, foot_endWrite] [.f .FIRN_LANE_STAT_RESULT,
  .f .FIRN_LANE_STAT_BUSY, .f .MECH_SERVO_LANE_VALID, .f .MECH_SERVO_LANE]

@[simp] theorem it_releaseLane {iq : Item} (s : State) (n : Nat) (store : Bool) (hq : iq.off foot_releaseLane = true) : itm iq (State.releaseLane s n store) = itm iq s := by
  delta foot_releaseLane at hq
  simp only [off_spots, off_cons_cons, off_nil, List.all_cons, List.all_nil, Bool.and_true, Bool.and_eq_true] at hq
  simp only [State.releaseLane]
  (repeat' split) <;> simp [hq]

def foot_clearMeas : List Spot := spots [foot_modBeam] []

@[simp] theorem it_clearMeas {iq : Item} (s : State) (f : Nat) (hq : iq.off foot_clearMeas = true) : itm iq (State.clearMeas s f) = itm iq s := by
  delta foot_clearMeas at hq
  simp only [off_spots, off_cons_cons, off_nil, List.all_cons, List.all_nil, Bool.and_true, Bool.and_eq_true] at hq
  simp [hq, State.clearMeas]

end Sys2Proof.Laws
end

