-- ==== Sys2Proof/Laws/FootFloeSets.lean ====
section
/-! SUPPORT. What the operations of Machine/FloeSets.lean may write, and that they leave everything else as it was. -/

namespace Sys2Proof.Laws

open Sys2Proof.Machine

def foot_modSet : List Spot := [.p .floe]

@[simp] theorem it_modSet {iq : Item} (s : State) (id : Nat) (f : FloeSet → FloeSet) (hq : iq.off foot_modSet = true) : itm iq (State.modSet s id f) = itm iq s := by
  delta foot_modSet at hq
  simp [hq, State.modSet]

def foot_watchSet : List Spot := spots [foot_modSet] [.f .FLOE_EVENT_DEGRADED, .f .FLOE_EVENT_INSUFFICIENT, .f .FLOE_EVENT_PLACE_WARN]

@[simp] theorem it_watchSet {iq : Item} (s : State) (id : Nat) (hq : iq.off foot_watchSet = true) : itm iq (State.watchSet s id) = itm iq s := by
  delta foot_watchSet at hq
  simp only [off_spots, off_cons_cons, off_nil, List.all_cons, List.all_nil, Bool.and_true, Bool.and_eq_true] at hq
  unfold State.watchSet
  dsimp only
  (split_ifs) <;> simp [hq]

def foot_watchSets : List Spot := spots [foot_watchSet] []

@[simp] theorem it_watchSets {iq : Item} (s : State) (hq : iq.off foot_watchSets = true) : itm iq (State.watchSets s) = itm iq s := by
  delta foot_watchSets at hq
  simp only [off_spots, off_cons_cons, off_nil, List.all_cons, List.all_nil, Bool.and_true, Bool.and_eq_true] at hq
  simp [hq, State.watchSets]

end Sys2Proof.Laws
end

