-- ==== Sys2Proof/Laws/FootMechOps.lean ====
section
/-! SUPPORT. What the operations of Machine/MechOps.lean may write, and that they leave everything else as it was. -/

namespace Sys2Proof.Laws

open Sys2Proof.Machine

def foot_chg : List Spot := [.f .MECH_CHG_CHG]

@[simp] theorem it_chg {iq : Item} (s : State) (n : Nat) (hq : iq.off foot_chg = true) : itm iq (State.chg s n) = itm iq s := by
  delta foot_chg at hq
  simp [hq, State.chg]

def foot_noteSafeHold : List Spot := [.f .MECH_STATE_SAFE_HOLD]

@[simp] theorem it_noteSafeHold {iq : Item} (s : State) (n : Nat) (hq : iq.off foot_noteSafeHold = true) : itm iq (State.noteSafeHold s n) = itm iq s := by
  delta foot_noteSafeHold at hq
  simp [hq, State.noteSafeHold]

def foot_applyCfg : List Spot := spots [foot_modMech, foot_modBreath, foot_reevaluate, foot_watchSets, foot_noteSafeHold] []

@[simp] theorem it_applyCfg {iq : Item} (s : State) (n : Nat) (hq : iq.off foot_applyCfg = true) : itm iq (State.applyCfg s n) = itm iq s := by
  delta foot_applyCfg at hq
  simp only [off_spots, off_cons_cons, off_nil, List.all_cons, List.all_nil, Bool.and_true, Bool.and_eq_true] at hq
  simp [hq, State.applyCfg]

def foot_enterState : List Spot := spots [foot_modMech, foot_chargeStanding, foot_noteSafeHold, foot_applyCfg] [.f .MECH_STATE_STATE]

@[simp] theorem it_enterState {iq : Item} (s : State) (n st : Nat) (hq : iq.off foot_enterState = true) : itm iq (State.enterState s n st) = itm iq s := by
  delta foot_enterState at hq
  simp only [off_spots, off_cons_cons, off_nil, List.all_cons, List.all_nil, Bool.and_true, Bool.and_eq_true] at hq
  simp [hq, State.enterState]

def foot_beginMove : List Spot := [.f .MECH_STATE_BUSY, .f .MECH_STATE_TARGET]

@[simp] theorem it_beginMove {iq : Item} (s : State) (n target : Nat) (hq : iq.off foot_beginMove = true) : itm iq (State.beginMove s n target) = itm iq s := by
  delta foot_beginMove at hq
  simp only [off_spots, off_cons_cons, off_nil, List.all_cons, List.all_nil, Bool.and_true, Bool.and_eq_true] at hq
  simp [hq, State.beginMove]

def foot_endMove : List Spot := spots [foot_modMech, foot_modPort, foot_chg, foot_enterState] [.f .MECH_STATE_BUSY, .f .MECH_STATE_TARGET]

@[simp] theorem it_endMove {iq : Item} (s : State) (n st : Nat) (hq : iq.off foot_endMove = true) : itm iq (State.endMove s n st) = itm iq s := by
  delta foot_endMove at hq
  simp only [off_spots, off_cons_cons, off_nil, List.all_cons, List.all_nil, Bool.and_true, Bool.and_eq_true] at hq
  simp [hq, State.endMove]

def foot_stepState : List Spot := spots [foot_chg, foot_enterState] []

@[simp] theorem it_stepState {iq : Item} (s : State) (n st : Nat) (hq : iq.off foot_stepState = true) : itm iq (State.stepState s n st) = itm iq s := by
  delta foot_stepState at hq
  simp only [off_spots, off_cons_cons, off_nil, List.all_cons, List.all_nil, Bool.and_true, Bool.and_eq_true] at hq
  simp [hq, State.stepState]

def foot_clearMount : List Spot := spots [foot_modMech, foot_modCals, foot_modProfiles, foot_modChan, foot_watchSets] [.f .MECH_STATE_MOUNTED,
  .f .MECH_DISC_PROFILE_VALID]

@[simp] theorem it_clearMount {iq : Item} (s : State) (n : Nat) (hq : iq.off foot_clearMount = true) : itm iq (State.clearMount s n) = itm iq s := by
  delta foot_clearMount at hq
  simp only [off_spots, off_cons_cons, off_nil, List.all_cons, List.all_nil, Bool.and_true, Bool.and_eq_true] at hq
  simp [hq, State.clearMount]

def foot_clearDisc : List Spot := spots [foot_clearMount] [.r .MECH_DISC]

@[simp] theorem it_clearDisc {iq : Item} (s : State) (n : Nat) (hq : iq.off foot_clearDisc = true) : itm iq (State.clearDisc s n) = itm iq s := by
  delta foot_clearDisc at hq
  simp only [off_spots, off_cons_cons, off_nil, List.all_cons, List.all_nil, Bool.and_true, Bool.and_eq_true] at hq
  simp [hq, State.clearDisc]

def foot_recordFault : List Spot := spots [foot_logEntry, foot_modMech] [.f .MECH_FAULT_CODE, .f .MECH_FAULT_DETAIL, .f .MECH_FAULT_COUNT, .f .MECH_FAULT_NEW,
  .f .MECH_FAULT_TIME_LO_TIME_NS, .f .MECH_FAULT_TIME_HI_TIME_NS, .f .MECH_COUNT_FAULTS]

@[simp] theorem it_recordFault {iq : Item} (s : State) (n code detail : Nat) (hq : iq.off foot_recordFault = true) : itm iq (State.recordFault s n code detail) = itm iq s := by
  delta foot_recordFault at hq
  simp only [off_spots, off_cons_cons, off_nil, List.all_cons, List.all_nil, Bool.and_true, Bool.and_eq_true] at hq
  simp [hq, State.recordFault]

def foot_recordIsolation : List Spot := [.p .isol]

@[simp] theorem it_recordIsolation {iq : Item} (s : State) (n : Nat) (hq : iq.off foot_recordIsolation = true) : itm iq (State.recordIsolation s n) = itm iq s := by
  delta foot_recordIsolation at hq
  simp [hq, State.recordIsolation]

def foot_repairLost : List Spot := spots [foot_logEntry] [.f .FLOE_EVENT_RECON_FAIL]

@[simp] theorem it_repairLost {iq : Item} (s : State) (w : WbEntry) (hq : iq.off foot_repairLost = true) : itm iq (State.repairLost s w) = itm iq s := by
  delta foot_repairLost at hq
  simp only [off_spots, off_cons_cons, off_nil, List.all_cons, List.all_nil, Bool.and_true, Bool.and_eq_true] at hq
  simp [hq, State.repairLost]

def foot_loseWrites : List Spot := spots [foot_logEntry, foot_modHost, foot_modDisc, foot_repairLost] []

@[simp] theorem it_loseWrites {iq : Item} (s : State) (n : Nat) (hq : iq.off foot_loseWrites = true) : itm iq (State.loseWrites s n) = itm iq s := by
  delta foot_loseWrites at hq
  simp only [off_spots, off_cons_cons, off_nil, List.all_cons, List.all_nil, Bool.and_true, Bool.and_eq_true] at hq
  simp [hq, State.loseWrites]

def foot_dropHint : List Spot := spots [foot_modBreath] []

@[simp] theorem it_dropHint {iq : Item} (s : State) (n : Nat) (hq : iq.off foot_dropHint = true) : itm iq (State.dropHint s n) = itm iq s := by
  delta foot_dropHint at hq
  simp only [off_spots, off_cons_cons, off_nil, List.all_cons, List.all_nil, Bool.and_true, Bool.and_eq_true] at hq
  simp [hq, State.dropHint]

def foot_cutCmd : List Spot := spots [foot_complete, foot_dropWrite, foot_withdrawCmd] []

@[simp] theorem it_cutCmd {iq : Item} (s : State) (c : Ctx) (st : Nat) (hq : iq.off foot_cutCmd = true) : itm iq (State.cutCmd s c st) = itm iq s := by
  delta foot_cutCmd at hq
  simp only [off_spots, off_cons_cons, off_nil, List.all_cons, List.all_nil, Bool.and_true, Bool.and_eq_true] at hq
  simp [hq, State.cutCmd]

def foot_finishCommits : List Spot := spots [foot_modHost, foot_complete] []

@[simp] theorem it_finishCommits {iq : Item} (s : State) (n : Nat) (hq : iq.off foot_finishCommits = true) : itm iq (State.finishCommits s n) = itm iq s := by
  delta foot_finishCommits at hq
  simp only [off_spots, off_cons_cons, off_nil, List.all_cons, List.all_nil, Bool.and_true, Bool.and_eq_true] at hq
  simp [hq, State.finishCommits]

def foot_completeAll : List Spot := spots [foot_cutCmd] []

@[simp] theorem it_completeAll {iq : Item} (s : State) (n st : Nat) (moveFault : Bool) (hq : iq.off foot_completeAll = true) : itm iq (State.completeAll s n st moveFault) = itm iq s := by
  delta foot_completeAll at hq
  simp only [off_spots, off_cons_cons, off_nil, List.all_cons, List.all_nil, Bool.and_true, Bool.and_eq_true] at hq
  simp [hq, State.completeAll]

def foot_sendAct : List Spot := spots [foot_emit, foot_modDrop] []

@[simp] theorem it_sendAct {iq : Item} (s : State) (n : Nat) (safe again : Bool) (w : List Int) (hq : iq.off foot_sendAct = true) : itm iq (State.sendAct s n safe again w) = itm iq s := by
  delta foot_sendAct at hq
  simp only [off_spots, off_cons_cons, off_nil, List.all_cons, List.all_nil, Bool.and_true, Bool.and_eq_true] at hq
  simp [hq, State.sendAct]

def foot_trayReads : List Spot := spots [foot_modMech] []

@[simp] theorem it_trayReads {iq : Item} (s : State) (n : Nat) (trayIn trayOut clamped : Bool) (hq : iq.off foot_trayReads = true) : itm iq (State.trayReads s n trayIn trayOut clamped) = itm iq s := by
  delta foot_trayReads at hq
  simp only [off_spots, off_cons_cons, off_nil, List.all_cons, List.all_nil, Bool.and_true, Bool.and_eq_true] at hq
  simp [hq, State.trayReads]

def foot_startShort : List Spot := spots [foot_modMech] []

@[simp] theorem it_startShort {iq : Item} (s : State) (n : Nat) (r : List Nat) (hq : iq.off foot_startShort = true) : itm iq (State.startShort s n r) = itm iq s := by
  delta foot_startShort at hq
  simp only [off_spots, off_cons_cons, off_nil, List.all_cons, List.all_nil, Bool.and_true, Bool.and_eq_true] at hq
  simp [hq, State.startShort]

def foot_safeSpindle : List Spot := spots [foot_modMech, foot_startShort] [.f .MECH_SPIN_STAT_SPIN_STATE, .f .MECH_SPIN_STAT_OBS_LOCK, .f .MECH_SPIN_STAT_SHIFTING,
  .f .MECH_STATE_TURNING]

@[simp] theorem it_safeSpindle {iq : Item} (s : State) (n : Nat) (hq : iq.off foot_safeSpindle = true) : itm iq (State.safeSpindle s n) = itm iq s := by
  delta foot_safeSpindle at hq
  simp only [off_spots, off_cons_cons, off_nil, List.all_cons, List.all_nil, Bool.and_true, Bool.and_eq_true] at hq
  simp [hq, State.safeSpindle]

def foot_endTray : List Spot := spots [foot_modMech, foot_returnGrant, foot_dropPosition] []

@[simp] theorem it_endTray {iq : Item} (s : State) (n : Nat) (hq : iq.off foot_endTray = true) : itm iq (State.endTray s n) = itm iq s := by
  delta foot_endTray at hq
  simp only [off_spots, off_cons_cons, off_nil, List.all_cons, List.all_nil, Bool.and_true, Bool.and_eq_true] at hq
  simp only [State.endTray]
  (repeat' split) <;> simp [hq]

def foot_stopTray : List Spot := spots [foot_sendAct, foot_endTray] []

@[simp] theorem it_stopTray {iq : Item} (s : State) (n : Nat) (hq : iq.off foot_stopTray = true) : itm iq (State.stopTray s n) = itm iq s := by
  delta foot_stopTray at hq
  simp only [off_spots, off_cons_cons, off_nil, List.all_cons, List.all_nil, Bool.and_true, Bool.and_eq_true] at hq
  simp [hq, State.stopTray]

def foot_endMeasure : List Spot := spots [foot_modServo, foot_modLane, foot_endWrite] []

@[simp] theorem it_endMeasure {iq : Item} (s : State) (n item : Nat) (hq : iq.off foot_endMeasure = true) : itm iq (State.endMeasure s n item) = itm iq s := by
  delta foot_endMeasure at hq
  simp only [off_spots, off_cons_cons, off_nil, List.all_cons, List.all_nil, Bool.and_true, Bool.and_eq_true] at hq
  simp only [State.endMeasure]
  (repeat' split) <;> simp [hq]

def foot_abandonIn : List Spot := spots [foot_logEntry, foot_modCal, foot_endMeasure] [.f .MECH_CAL_LAST_CAUSE, .f .MECH_CAL_LAST_SPACE, .f .MECH_CAL_LAST_LAYER,
  .f .MECH_CAL_LAST_ITEM, .f .MECH_CAL_LAST_INDEX]

@[simp] theorem it_abandonIn {iq : Item} (s : State) (space n : Nat) (p : CalRec → Nat → Bool) (hq : iq.off foot_abandonIn = true) : itm iq (State.abandonIn s space n p) = itm iq s := by
  delta foot_abandonIn at hq
  simp only [off_spots, off_cons_cons, off_nil, List.all_cons, List.all_nil, Bool.and_true, Bool.and_eq_true] at hq
  unfold State.abandonIn
  refine it_forEach _ _ _ fun t e => ?_
  dsimp only
  rw [it_forEach]
  · simp [hq]
  · intro u i; (repeat' split) <;> simp [hq]

def foot_abandonSome : List Spot := spots [foot_abandonIn] []

@[simp] theorem it_abandonSome {iq : Item} (s : State) (n : Nat) (p : CalRec → Nat → Bool) (hq : iq.off foot_abandonSome = true) : itm iq (State.abandonSome s n p) = itm iq s := by
  delta foot_abandonSome at hq
  simp only [off_spots, off_cons_cons, off_nil, List.all_cons, List.all_nil, Bool.and_true, Bool.and_eq_true] at hq
  simp [hq, State.abandonSome]

def foot_abandonRuns : List Spot := spots [foot_abandonSome] []

@[simp] theorem it_abandonRuns {iq : Item} (s : State) (n : Nat) (hq : iq.off foot_abandonRuns = true) : itm iq (State.abandonRuns s n) = itm iq s := by
  delta foot_abandonRuns at hq
  simp only [off_spots, off_cons_cons, off_nil, List.all_cons, List.all_nil, Bool.and_true, Bool.and_eq_true] at hq
  simp [hq, State.abandonRuns]

def foot_makeSafe : List Spot := spots [foot_emit, foot_modMech, foot_returnAll, foot_stopSled, foot_releaseSlot, foot_discardCws, foot_releaseLane,
  foot_beginMove, foot_endMove, foot_recordIsolation, foot_loseWrites, foot_completeAll, foot_sendAct, foot_safeSpindle, foot_endTray, foot_abandonRuns] []

@[simp] theorem it_makeSafe {iq : Item} (s : State) (n target : Nat) (moveFault : Bool) (hq : iq.off foot_makeSafe = true) : itm iq (State.makeSafe s n target moveFault) = itm iq s := by
  delta foot_makeSafe at hq
  simp only [off_spots, off_cons_cons, off_nil, List.all_cons, List.all_nil, Bool.and_true, Bool.and_eq_true] at hq
  simp [hq, State.makeSafe]

def foot_fault : List Spot := spots [foot_modMech, foot_clearDisc, foot_recordFault, foot_makeSafe] []

@[simp] theorem it_fault {iq : Item} (s : State) (n code detail : Nat) (hq : iq.off foot_fault = true) : itm iq (State.fault s n code detail) = itm iq s := by
  delta foot_fault at hq
  simp only [off_spots, off_cons_cons, off_nil, List.all_cons, List.all_nil, Bool.and_true, Bool.and_eq_true] at hq
  simp [hq, State.fault]

def foot_bridgeFault : List Spot := spots [foot_fault] []

@[simp] theorem it_bridgeFault {iq : Item} (s : State) (n code detail : Nat) (hq : iq.off foot_bridgeFault = true) : itm iq (State.bridgeFault s n code detail) = itm iq s := by
  delta foot_bridgeFault at hq
  simp only [off_spots, off_cons_cons, off_nil, List.all_cons, List.all_nil, Bool.and_true, Bool.and_eq_true] at hq
  simp [hq, State.bridgeFault]

def foot_askLane : List Spot := spots [foot_modChan, foot_modLane, foot_bindLane, foot_stepState] []

@[simp] theorem it_askLane {iq : Item} (s : State) (n : Nat) (own : Bool) (hq : iq.off foot_askLane = true) : itm iq (State.askLane s n own) = itm iq s := by
  delta foot_askLane at hq
  simp only [off_spots, off_cons_cons, off_nil, List.all_cons, List.all_nil, Bool.and_true, Bool.and_eq_true] at hq
  simp only [State.askLane]
  (repeat' split) <;> simp [hq]

def foot_backToTracking : List Spot := spots [foot_releaseLane, foot_stepState] []

@[simp] theorem it_backToTracking {iq : Item} (s : State) (n : Nat) (hq : iq.off foot_backToTracking = true) : itm iq (State.backToTracking s n) = itm iq s := by
  delta foot_backToTracking at hq
  simp only [off_spots, off_cons_cons, off_nil, List.all_cons, List.all_nil, Bool.and_true, Bool.and_eq_true] at hq
  simp [hq, State.backToTracking]

def foot_toAbsent : List Spot := spots [foot_modMech, foot_returnAll, foot_stopSled, foot_releaseSlot, foot_discardCws, foot_releaseLane, foot_endMove,
  foot_clearDisc, foot_loseWrites, foot_completeAll, foot_safeSpindle, foot_endTray, foot_abandonRuns] []

@[simp] theorem it_toAbsent {iq : Item} (s : State) (n : Nat) (hq : iq.off foot_toAbsent = true) : itm iq (State.toAbsent s n) = itm iq s := by
  delta foot_toAbsent at hq
  simp only [off_spots, off_cons_cons, off_nil, List.all_cons, List.all_nil, Bool.and_true, Bool.and_eq_true] at hq
  simp [hq, State.toAbsent]

end Sys2Proof.Laws
end

