-- ==== Sys2Proof/Laws/FootCirque.lean ====
section
/-! SUPPORT. What the operations of Machine/Cirque.lean may write, and that they leave everything else as it was. -/

namespace Sys2Proof.Laws

open Sys2Proof.Machine

def foot_putStage : List Spot := [.f .CIRQ_STAGE_DWORD]

@[simp] theorem it_putStage {iq : Item} (s : State) (r : List Nat) (hq : iq.off foot_putStage = true) : itm iq (State.putStage s r) = itm iq s := by
  delta foot_putStage at hq
  simp [hq, State.putStage]

def foot_coefDone : List Spot := [.f .CIRQ_COEF_CMD_TARGET, .f .CIRQ_COEF_CMD_LOOP, .f .CIRQ_COEF_CMD_ERR]

@[simp] theorem it_coefDone {iq : Item} (s : State) (target l err : Nat) (hq : iq.off foot_coefDone = true) : itm iq (State.coefDone s target l err) = itm iq s := by
  delta foot_coefDone at hq
  simp only [off_spots, off_cons_cons, off_nil, List.all_cons, List.all_nil, Bool.and_true, Bool.and_eq_true] at hq
  simp [hq, State.coefDone]

def foot_coefOp : List Spot := spots [foot_modSpin, foot_modLoop, foot_putStage, foot_coefDone] []

@[simp] theorem it_coefOp {iq : Item} (s : State) (op n l : Nat) (r : List Nat) (hq : iq.off foot_coefOp = true) : itm iq (State.coefOp s op n l r) = itm iq s := by
  delta foot_coefOp at hq
  simp only [off_spots, off_cons_cons, off_nil, List.all_cons, List.all_nil, Bool.and_true, Bool.and_eq_true] at hq
  simp only [State.coefOp]
  (repeat' split) <;> simp [hq]

def foot_coefCmd : List Spot := spots [foot_fin, foot_regCmd, foot_modCirq, foot_coefOp] [.f .CIRQ_COEF_CMD_TARGET, .f .CIRQ_COEF_CMD_LOOP, .f .CIRQ_COEF_CMD_BUSY]

theorem it_coefCmd {iq : Item} (s : State) (n op l : Nat) (r : List Nat) (hq : iq.off foot_coefCmd = true) : itOut iq (State.coefCmd s n op l r) s := by
  delta foot_coefCmd at hq
  simp only [off_spots, off_cons_cons, off_nil, List.all_cons, List.all_nil, Bool.and_true, Bool.and_eq_true] at hq
  unfold State.coefCmd
  refine it_regCmd _ _ (by simp [hq]) fun t => ?_
  (repeat' split) <;> simp [hq]

def foot_finishCoef : List Spot := spots [foot_modCirq, foot_coefOp] [.f .CIRQ_COEF_CMD_BUSY]

@[simp] theorem it_finishCoef {iq : Item} (s : State) (hq : iq.off foot_finishCoef = true) : itm iq (State.finishCoef s) = itm iq s := by
  delta foot_finishCoef at hq
  simp only [off_spots, off_cons_cons, off_nil, List.all_cons, List.all_nil, Bool.and_true, Bool.and_eq_true] at hq
  simp only [State.finishCoef]
  (repeat' split) <;> simp [hq]

def foot_exchange : List Spot := []

@[simp] theorem it_exchange {iq : Item} (s : State) (a b : Nat) (r : Reg) (h : iq.off [.r r] = true) (hq : iq.off foot_exchange = true) : itm iq (s.exchange a b r) = itm iq s := by
  
  simp [hq, State.exchange, h]

def foot_moveSlots : List Spot := spots [foot_logEntry, foot_modServo, foot_modCirq, foot_exchange] [.r .CIRQ_SLOT, .r .CIRQ_LSTAT, .r .CIRQ_ANGLE,
  .f .MECH_SERVO_CLUSTER, .f .CIRQ_LSTAT_HOLD_CNT, .f .CIRQ_EVENT_SWAP_ABANDON, .f .CIRQ_CNT_HANDOVERS, .f .CIRQ_STATUS_ROLE, .f .CIRQ_EVENT_HO_OUT,
  .f .CIRQ_EVENT_HO_IN, .r .CIRQ_INJ_CTRL, .r .CIRQ_INJ_AMP, .r .CIRQ_INJ_F0, .r .CIRQ_INJ_F1, .r .CIRQ_INJ_STEP, .r .CIRQ_INJ_STAT, .r .CIRQ_CAP_CTRL,
  .r .CIRQ_CAP_SEL, .r .CIRQ_CAP_LEN, .r .CIRQ_CAP_STAT, .r .CIRQ_CAP_TRIG_LO, .r .CIRQ_CAP_TRIG_HI, .r .CIRQ_CAP_PAGE]

theorem it_exchangeAll {iq : Item} (s : State) (a b : Nat) (h : ∀ r ∈ injCapRegs, iq.off [.r r] = true) : itm iq (s.forEach injCapRegs fun t r => t.exchange a b r) = itm iq s :=
  it_forEach_mem _ _ _ fun r hr _ => it_exchange _ _ _ _ (h r hr) rfl

@[simp] theorem it_moveSlots {iq : Item} (s : State) (a b : Nat) (hq : iq.off foot_moveSlots = true) : itm iq (s.moveSlots a b) = itm iq s := by
  delta foot_moveSlots at hq
  simp only [off_spots, off_cons_cons, off_nil, List.all_cons, List.all_nil, Bool.and_true, Bool.and_eq_true] at hq
  unfold State.moveSlots
  extract_lets s1 s2 ia ib ca cb s3 s4
  have h1 : itm iq s1 = itm iq s := by
    refine it_forEach _ _ _ fun t k => ?_
    dsimp only
    (repeat' split) <;> simp [hq]
  have h2 : itm iq s2 = itm iq s1 := it_exchangeAll _ _ _ (by
    simp only [injCapRegs, List.forall_mem_cons, hq, true_and]
    simp)
  have h3 : itm iq s3 = itm iq s2 := it_modCirq _ _ (by simp only [hq])
  simp [s4, hq, h1, h2, h3]

def foot_hoStat : List Spot := [.f .CIRQ_HO_STAT_BUSY, .f .CIRQ_HO_STAT_RESULT, .f .CIRQ_HO_STAT_CAUSE, .f .CIRQ_HO_STAT_TO, .f .CIRQ_HO_STAT_FROM,
  .f .CIRQ_HO_STAT_REPEATS]

@[simp] theorem it_hoStat {iq : Item} (s : State) (src dst cause : Nat) (hq : iq.off foot_hoStat = true) : itm iq (State.hoStat s src dst cause) = itm iq s := by
  delta foot_hoStat at hq
  simp only [off_spots, off_cons_cons, off_nil, List.all_cons, List.all_nil, Bool.and_true, Bool.and_eq_true] at hq
  simp [hq, State.hoStat]

def foot_hoTime : List Spot := [.f .CIRQ_HO_TIME_LO_TIME_NS, .f .CIRQ_HO_TIME_HI_TIME_NS]

@[simp] theorem it_hoTime {iq : Item} (s : State) (hq : iq.off foot_hoTime = true) : itm iq (State.hoTime s) = itm iq s := by
  delta foot_hoTime at hq
  simp only [off_spots, off_cons_cons, off_nil, List.all_cons, List.all_nil, Bool.and_true, Bool.and_eq_true] at hq
  simp [hq, State.hoTime]

def foot_logHandover : List Spot := spots [foot_logEntry] []

@[simp] theorem it_logHandover {iq : Item} (s : State) (c : Nat) (hq : iq.off foot_logHandover = true) : itm iq (State.logHandover s c) = itm iq s := by
  delta foot_logHandover at hq
  simp only [off_spots, off_cons_cons, off_nil, List.all_cons, List.all_nil, Bool.and_true, Bool.and_eq_true] at hq
  simp [hq, State.logHandover]

def foot_testCluster : List Spot := spots [foot_requestTest, foot_modCirq] [.f .CIRQ_STATUS_ROLE]

@[simp] theorem it_testCluster {iq : Item} (s : State) (c op : Nat) (hq : iq.off foot_testCluster = true) : itm iq (State.testCluster s c op) = itm iq s := by
  delta foot_testCluster at hq
  simp only [off_spots, off_cons_cons, off_nil, List.all_cons, List.all_nil, Bool.and_true, Bool.and_eq_true] at hq
  simp [hq, State.testCluster]

def foot_hoFault : List Spot := spots [foot_hoStat, foot_hoTime] [.f .CIRQ_HO_STAT_BUSY, .f .CIRQ_HO_STAT_RESULT]

@[simp] theorem it_hoFault {iq : Item} (s : State) (c cause result : Nat) (hq : iq.off foot_hoFault = true) : itm iq (State.hoFault s c cause result) = itm iq s := by
  delta foot_hoFault at hq
  simp only [off_spots, off_cons_cons, off_nil, List.all_cons, List.all_nil, Bool.and_true, Bool.and_eq_true] at hq
  simp [hq, State.hoFault]

def foot_execClusterFault : List Spot := spots [foot_fin, foot_modCirq, foot_finishCoef, foot_hoStat, foot_hoTime, foot_testCluster, foot_hoFault] [.f .CIRQ_EVENT_MISMATCH,
  .f .CIRQ_EVENT_PARITY, .f .CIRQ_EVENT_DBE, .f .CIRQ_CNT_FAULTS, .f .RST_CAUSE_CLUSTER, .f .CIRQ_HO_STAT_BUSY]

theorem it_execClusterFault {iq : Item} (c : ClusterIx) (cause : Fin 3) (s : State) (hq : iq.off foot_execClusterFault = true) : itOut iq (execClusterFault c cause s) s := by
  delta foot_execClusterFault at hq
  simp only [off_spots, off_cons_cons, off_nil, List.all_cons, List.all_nil, Bool.and_true, Bool.and_eq_true] at hq
  simp only [execClusterFault]
  (repeat' split) <;> simp [hq]

def foot_copyReads : List Spot := [.f .CIRQ_CNT_ERR_COUNT, .f .CIRQ_EVENT_CKPT_COPY]

@[simp] theorem it_copyReads {iq : Item} (s : State) (c k : Nat) (hq : iq.off foot_copyReads = true) : itm iq (State.copyReads s c k) = itm iq s := by
  delta foot_copyReads at hq
  simp only [off_spots, off_cons_cons, off_nil, List.all_cons, List.all_nil, Bool.and_true, Bool.and_eq_true] at hq
  simp [hq, State.copyReads]

def foot_execHandoverServe : List Spot := spots [foot_fin, foot_modCirq, foot_finishCoef, foot_moveSlots, foot_logHandover, foot_copyReads] [.f .CIRQ_FMT_FMT,
  .f .CIRQ_HO_STAT_REPEATS, .f .CIRQ_HO_STAT_BUSY]

theorem it_execHandoverServe {iq : Item} (copies : List Mn) (s : State) (hq : iq.off foot_execHandoverServe = true) : itOut iq (execHandoverServe copies s) s := by
  delta foot_execHandoverServe at hq
  simp only [off_spots, off_cons_cons, off_nil, List.all_cons, List.all_nil, Bool.and_true, Bool.and_eq_true] at hq
  simp only [execHandoverServe]
  (repeat' split) <;> simp [hq]

def foot_clusterTestEnd : List Spot := spots [foot_logEntry, foot_loadProgram, foot_returnBist, foot_modCirq] [.f .CIRQ_STATUS_LAST_TEST, .f .CIRQ_EVENT_TEST_PASS,
  .f .CIRQ_EVENT_TEST_FAIL, .f .CIRQ_UCODE_VERSION, .f .CIRQ_EVENT_UCODE_DONE, .f .CIRQ_STATUS_ROLE, .f .CIRQ_EVENT_OOS, .f .CIRQ_HO_STAT_BUSY,
  .f .CIRQ_HO_STAT_RESULT]

@[simp] theorem it_clusterTestEnd {iq : Item} (s : State) (c : Nat) (pass : Bool) (hq : iq.off foot_clusterTestEnd = true) : itm iq (State.clusterTestEnd s c pass) = itm iq s := by
  delta foot_clusterTestEnd at hq
  simp only [off_spots, off_cons_cons, off_nil, List.all_cons, List.all_nil, Bool.and_true, Bool.and_eq_true] at hq
  simp only [State.clusterTestEnd]
  (repeat' split) <;> simp [hq]

def foot_execClusterTestDone : List Spot := spots [foot_fin, foot_clusterTestEnd] []

theorem it_execClusterTestDone {iq : Item} (c : ClusterIx) (pass : Bool) (s : State) (hq : iq.off foot_execClusterTestDone = true) : itOut iq (execClusterTestDone c pass s) s := by
  delta foot_execClusterTestDone at hq
  simp only [off_spots, off_cons_cons, off_nil, List.all_cons, List.all_nil, Bool.and_true, Bool.and_eq_true] at hq
  simp [hq, execClusterTestDone]

def foot_startPlanned : List Spot := spots [foot_modCirq, foot_hoStat] []

@[simp] theorem it_startPlanned {iq : Item} (s : State) (c op fmt : Nat) (hq : iq.off foot_startPlanned = true) : itm iq (State.startPlanned s c op fmt) = itm iq s := by
  delta foot_startPlanned at hq
  simp only [off_spots, off_cons_cons, off_nil, List.all_cons, List.all_nil, Bool.and_true, Bool.and_eq_true] at hq
  simp [hq, State.startPlanned]

def foot_execHoTest : List Spot := spots [foot_fin, foot_regCmd, foot_startPlanned] [.f .CIRQ_HO_STAT_RESULT]

theorem it_execHoTest {iq : Item} (c : Fin 32) (s : State) (hq : iq.off foot_execHoTest = true) : itOut iq (execHoTest c s) s := by
  delta foot_execHoTest at hq
  simp only [off_spots, off_cons_cons, off_nil, List.all_cons, List.all_nil, Bool.and_true, Bool.and_eq_true] at hq
  unfold execHoTest
  refine it_regCmd _ _ (by simp [hq]) fun t => ?_
  simp [hq]

def foot_execHoUcode : List Spot := spots [foot_fin, foot_regCmd, foot_startPlanned] [.f .CIRQ_HO_STAT_RESULT]

theorem it_execHoUcode {iq : Item} (c : Fin 32) (s : State) (hq : iq.off foot_execHoUcode = true) : itOut iq (execHoUcode c s) s := by
  delta foot_execHoUcode at hq
  simp only [off_spots, off_cons_cons, off_nil, List.all_cons, List.all_nil, Bool.and_true, Bool.and_eq_true] at hq
  unfold execHoUcode
  refine it_regCmd _ _ (by simp [hq]) fun t => ?_
  simp [hq]

def foot_execHoFormat : List Spot := spots [foot_fin, foot_regCmd, foot_startPlanned] [.f .CIRQ_HO_STAT_RESULT, .f .CIRQ_FMT_FMT]

theorem it_execHoFormat {iq : Item} (c : Fin 32) (fmt : Bool) (s : State) (hq : iq.off foot_execHoFormat = true) : itOut iq (execHoFormat c fmt s) s := by
  delta foot_execHoFormat at hq
  simp only [off_spots, off_cons_cons, off_nil, List.all_cons, List.all_nil, Bool.and_true, Bool.and_eq_true] at hq
  unfold execHoFormat
  refine it_regCmd _ _ (by simp [hq]) fun t => ?_
  simp [hq]

def foot_execHoRetest : List Spot := spots [foot_fin, foot_regCmd, foot_hoStat, foot_testCluster] [.f .CIRQ_HO_STAT_RESULT]

theorem it_execHoRetest {iq : Item} (c : Fin 32) (s : State) (hq : iq.off foot_execHoRetest = true) : itOut iq (execHoRetest c s) s := by
  delta foot_execHoRetest at hq
  simp only [off_spots, off_cons_cons, off_nil, List.all_cons, List.all_nil, Bool.and_true, Bool.and_eq_true] at hq
  unfold execHoRetest
  refine it_regCmd _ _ (by simp [hq]) fun t => ?_
  simp [hq]

def foot_reformat : List Spot := spots [foot_modLoop, foot_setLs] []

@[simp] theorem it_reformat {iq : Item} (s : State) (n f : Nat) (recs : List (Nat × List Nat)) (hq : iq.off foot_reformat = true) : itm iq (State.reformat s n f recs) = itm iq s := by
  delta foot_reformat at hq
  simp only [off_spots, off_cons_cons, off_nil, List.all_cons, List.all_nil, Bool.and_true, Bool.and_eq_true] at hq
  simp [hq, State.reformat]

def foot_moveEngines : List Spot := spots [foot_modCirq, foot_endInj, foot_endCap, foot_exchange] [.r .CIRQ_INJ_CTRL, .r .CIRQ_INJ_AMP, .r .CIRQ_INJ_F0,
  .r .CIRQ_INJ_F1, .r .CIRQ_INJ_STEP, .r .CIRQ_INJ_STAT, .r .CIRQ_CAP_CTRL, .r .CIRQ_CAP_SEL, .r .CIRQ_CAP_LEN, .r .CIRQ_CAP_STAT, .r .CIRQ_CAP_TRIG_LO,
  .r .CIRQ_CAP_TRIG_HI, .r .CIRQ_CAP_PAGE]

@[simp] theorem it_moveEngines {iq : Item} (s : State) (n a b : Nat) (hq : iq.off foot_moveEngines = true) : itm iq (State.moveEngines s n a b) = itm iq s := by
  delta foot_moveEngines at hq
  simp only [off_spots, off_cons_cons, off_nil, List.all_cons, List.all_nil, Bool.and_true, Bool.and_eq_true] at hq
  have q : ∀ l : List Reg, (∀ r ∈ l, iq.off [.r r] = true) → ∀ t : State, itm iq (t.forEach l fun t r => t.exchange a b r) = itm iq t :=
    fun l hl t => it_forEach_mem _ _ _ fun r hr u => it_exchange _ _ _ _ (hl r hr) (by simp [foot_exchange])
  have q1 := q (injCapRegs.take 6) (by intro r hr; simp only [injCapRegs, List.take, List.mem_cons, List.not_mem_nil, or_false] at hr; rcases hr with h | h | h | h | h | h <;> subst h <;> simp [hq])
  have q2 := q (injCapRegs.drop 6) (by intro r hr; simp only [injCapRegs, List.drop, List.mem_cons, List.not_mem_nil, or_false] at hr; rcases hr with h | h | h | h | h | h | h <;> subst h <;> simp [hq])
  unfold State.moveEngines
  extract_lets x s1
  have k1 : itm iq s1 = itm iq s := by
    simp only [s1]
    (repeat' split) <;> simp [hq, q1]
  clear_value s1
  (repeat' split) <;> simp [hq, k1, q2]

def foot_moveSlot : List Spot := spots [foot_moveEngines] [.r .CIRQ_SLOT, .r .CIRQ_LSTAT, .r .CIRQ_ANGLE, .f .MECH_SERVO_CLUSTER, .f .MECH_SERVO_SLOT,
  .f .CIRQ_SLOT_ARR_CYC]

@[simp] theorem it_moveSlot {iq : Item} (s : State) (n c k : Nat) (hq : iq.off foot_moveSlot = true) : itm iq (State.moveSlot s n c k) = itm iq s := by
  delta foot_moveSlot at hq
  simp only [off_spots, off_cons_cons, off_nil, List.all_cons, List.all_nil, Bool.and_true, Bool.and_eq_true] at hq
  simp only [State.moveSlot]
  (repeat' split) <;> simp [hq]

def foot_execPlannedSwitch : List Spot := spots [foot_fin, foot_modCirq, foot_finishCoef, foot_moveSlots, foot_hoTime, foot_logHandover, foot_testCluster,
  foot_copyReads, foot_reformat, foot_moveSlot] [.f .CIRQ_FMT_FMT, .f .CIRQ_STATUS_ROLE, .f .CIRQ_HO_STAT_BUSY]

theorem it_execPlannedSwitch {iq : Item} (mn : Option Mn) (copies : List Mn) (s : State) (hq : iq.off foot_execPlannedSwitch = true) : itOut iq (execPlannedSwitch mn copies s) s := by
  delta foot_execPlannedSwitch at hq
  simp only [off_spots, off_cons_cons, off_nil, List.all_cons, List.all_nil, Bool.and_true, Bool.and_eq_true] at hq
  simp only [execPlannedSwitch]
  (repeat' split) <;> simp [hq]

def foot_execCollisionMove : List Spot := spots [foot_fin, foot_modCirq] [.f .CIRQ_EVENT_COLLIDE]

theorem it_execCollisionMove {iq : Item} (mn : Mn) (s : State) (hq : iq.off foot_execCollisionMove = true) : itOut iq (execCollisionMove mn s) s := by
  delta foot_execCollisionMove at hq
  simp only [off_spots, off_cons_cons, off_nil, List.all_cons, List.all_nil, Bool.and_true, Bool.and_eq_true] at hq
  simp only [execCollisionMove]
  (repeat' split) <;> simp [hq]

def foot_execCoefStageToShadow : List Spot := spots [foot_coefCmd] []

theorem it_execCoefStageToShadow {iq : Item} (mn : Mn) (l : LoopIx) (s : State) (hq : iq.off foot_execCoefStageToShadow = true) : itOut iq (execCoefStageToShadow mn l s) s := by
  delta foot_execCoefStageToShadow at hq
  simp only [off_spots, off_cons_cons, off_nil, List.all_cons, List.all_nil, Bool.and_true, Bool.and_eq_true] at hq
  unfold execCoefStageToShadow; exact it_coefCmd _ _ _ _ _ (by simp [hq])

def foot_execCoefShadowToStage : List Spot := spots [foot_coefCmd] []

theorem it_execCoefShadowToStage {iq : Item} (mn : Mn) (l : LoopIx) (s : State) (hq : iq.off foot_execCoefShadowToStage = true) : itOut iq (execCoefShadowToStage mn l s) s := by
  delta foot_execCoefShadowToStage at hq
  simp only [off_spots, off_cons_cons, off_nil, List.all_cons, List.all_nil, Bool.and_true, Bool.and_eq_true] at hq
  unfold execCoefShadowToStage; exact it_coefCmd _ _ _ _ _ (by simp [hq])

def foot_execCoefActiveToStage : List Spot := spots [foot_coefCmd] []

theorem it_execCoefActiveToStage {iq : Item} (mn : Mn) (l : LoopIx) (s : State) (hq : iq.off foot_execCoefActiveToStage = true) : itOut iq (execCoefActiveToStage mn l s) s := by
  delta foot_execCoefActiveToStage at hq
  simp only [off_spots, off_cons_cons, off_nil, List.all_cons, List.all_nil, Bool.and_true, Bool.and_eq_true] at hq
  unfold execCoefActiveToStage; exact it_coefCmd _ _ _ _ _ (by simp [hq])

def foot_execCoefStageToLibrary : List Spot := spots [foot_fin, foot_regCmd, foot_modCirq, foot_coefDone] [.f .CIRQ_COEF_CMD_FMT]

theorem it_execCoefStageToLibrary {iq : Item} (cls : Fin 8) (l : LoopIx) (fmt : Bool) (s : State) (hq : iq.off foot_execCoefStageToLibrary = true) : itOut iq (execCoefStageToLibrary cls l fmt s) s := by
  delta foot_execCoefStageToLibrary at hq
  simp only [off_spots, off_cons_cons, off_nil, List.all_cons, List.all_nil, Bool.and_true, Bool.and_eq_true] at hq
  unfold execCoefStageToLibrary
  refine it_regCmd _ _ (by simp [hq]) fun t => ?_
  simp [hq]

def foot_execCoefLibraryToStage : List Spot := spots [foot_fin, foot_regCmd, foot_putStage, foot_coefDone] [.f .CIRQ_COEF_CMD_FMT]

theorem it_execCoefLibraryToStage {iq : Item} (cls : Fin 8) (l : LoopIx) (fmt : Bool) (s : State) (hq : iq.off foot_execCoefLibraryToStage = true) : itOut iq (execCoefLibraryToStage cls l fmt s) s := by
  delta foot_execCoefLibraryToStage at hq
  simp only [off_spots, off_cons_cons, off_nil, List.all_cons, List.all_nil, Bool.and_true, Bool.and_eq_true] at hq
  unfold execCoefLibraryToStage
  refine it_regCmd _ _ (by simp [hq]) fun t => ?_
  simp [hq]

def foot_startSwap : List Spot := spots [foot_modServo] [.f .CIRQ_LOOP_STAT_MN, .f .CIRQ_LOOP_STAT_DONE, .f .CIRQ_LOOP_STAT_ERR, .f .CIRQ_LOOP_STAT_BUSY]

@[simp] theorem it_startSwap {iq : Item} (s : State) (n mask src : Nat) (hq : iq.off foot_startSwap = true) : itm iq (State.startSwap s n mask src) = itm iq s := by
  delta foot_startSwap at hq
  simp only [off_spots, off_cons_cons, off_nil, List.all_cons, List.all_nil, Bool.and_true, Bool.and_eq_true] at hq
  simp [hq, State.startSwap]

def foot_execSwapFromShadow : List Spot := spots [foot_fin, foot_regCmd, foot_startSwap] []

theorem it_execSwapFromShadow {iq : Item} (mn : Mn) (mask : Fin 256) (s : State) (hq : iq.off foot_execSwapFromShadow = true) : itOut iq (execSwapFromShadow mn mask s) s := by
  delta foot_execSwapFromShadow at hq
  simp only [off_spots, off_cons_cons, off_nil, List.all_cons, List.all_nil, Bool.and_true, Bool.and_eq_true] at hq
  unfold execSwapFromShadow
  refine it_regCmd _ _ (by simp [hq]) fun t => ?_
  simp [hq]

def foot_execSwapFromLibrary : List Spot := spots [foot_fin, foot_regCmd, foot_startSwap] []

theorem it_execSwapFromLibrary {iq : Item} (mn : Mn) (mask : Fin 256) (s : State) (hq : iq.off foot_execSwapFromLibrary = true) : itOut iq (execSwapFromLibrary mn mask s) s := by
  delta foot_execSwapFromLibrary at hq
  simp only [off_spots, off_cons_cons, off_nil, List.all_cons, List.all_nil, Bool.and_true, Bool.and_eq_true] at hq
  unfold execSwapFromLibrary
  refine it_regCmd _ _ (by simp [hq]) fun t => ?_
  simp [hq]

def foot_execSwapAbort : List Spot := spots [foot_fin, foot_regCmd, foot_modServo] [.f .CIRQ_LOOP_STAT_MN, .f .CIRQ_LOOP_STAT_DONE, .f .CIRQ_LOOP_STAT_BUSY,
  .f .CIRQ_LOOP_STAT_ERR]

theorem it_execSwapAbort {iq : Item} (mn : Mn) (s : State) (hq : iq.off foot_execSwapAbort = true) : itOut iq (execSwapAbort mn s) s := by
  delta foot_execSwapAbort at hq
  simp only [off_spots, off_cons_cons, off_nil, List.all_cons, List.all_nil, Bool.and_true, Bool.and_eq_true] at hq
  unfold execSwapAbort
  refine it_regCmd _ _ (by simp [hq]) fun t => ?_
  (try dsimp only)
  (repeat' split) <;> simp [hq]

def foot_execSwapExecute : List Spot := spots [foot_fin, foot_modServo, foot_modLoop, foot_setLs, foot_loopStatEnd] [.f .CIRQ_LSTAT_HOLD_CNT,
  .f .CIRQ_LOOP_STAT_DONE, .f .CIRQ_EVENT_SWAP_DONE]

theorem it_execSwapExecute {iq : Item} (mn : Mn) (s : State) (hq : iq.off foot_execSwapExecute = true) : itOut iq (execSwapExecute mn s) s := by
  delta foot_execSwapExecute at hq
  simp only [off_spots, off_cons_cons, off_nil, List.all_cons, List.all_nil, Bool.and_true, Bool.and_eq_true] at hq
  simp only [execSwapExecute]
  (repeat' split) <;> simp [hq]

def foot_execSwapHoldTimeout : List Spot := spots [foot_fin, foot_abandonSwap] []

theorem it_execSwapHoldTimeout {iq : Item} (mn : Mn) (s : State) (hq : iq.off foot_execSwapHoldTimeout = true) : itOut iq (execSwapHoldTimeout mn s) s := by
  delta foot_execSwapHoldTimeout at hq
  simp only [off_spots, off_cons_cons, off_nil, List.all_cons, List.all_nil, Bool.and_true, Bool.and_eq_true] at hq
  simp only [execSwapHoldTimeout]
  (repeat' split) <;> simp [hq]

end Sys2Proof.Laws
end

