-- ==== Sys2Proof/Laws/FootWaiting.lean ====
section
/-! SUPPORT. What the operations of Machine/Waiting.lean may write, and that they leave everything else as it was. -/

namespace Sys2Proof.Laws

open Sys2Proof.Machine

def foot_abandonStart : List Spot := spots [foot_modMech, foot_returnAll, foot_releaseSlot, foot_endMove] []

@[simp] theorem it_abandonStart {iq : Item} (s : State) (n : Nat) (hq : iq.off foot_abandonStart = true) : itm iq (State.abandonStart s n) = itm iq s := by
  delta foot_abandonStart at hq
  simp only [off_spots, off_cons_cons, off_nil, List.all_cons, List.all_nil, Bool.and_true, Bool.and_eq_true] at hq
  simp [hq, State.abandonStart]

def foot_askStart : List Spot := spots [foot_request, foot_cutCmd, foot_abandonStart] []

@[simp] theorem it_askStart {iq : Item} (s : State) (n : Nat) (hq : iq.off foot_askStart = true) : itm iq (State.askStart s n) = itm iq s := by
  delta foot_askStart at hq
  simp only [off_spots, off_cons_cons, off_nil, List.all_cons, List.all_nil, Bool.and_true, Bool.and_eq_true] at hq
  unfold State.askStart
  dsimp only
  split
  · rename_i h
    have k := it_fst h (it_request (iq := iq) _ _ (by simp [hq]))
    split <;> simp [hq, k]
  · rename_i h
    exact it_fst h (it_request (iq := iq) _ _ (by simp [hq]))

def foot_grabSlot : List Spot := spots [foot_modServo, foot_takeSlot, foot_takePosition] []

theorem it_grabSlot {iq : Item} (s : State) (n : Nat) (hq : iq.off foot_grabSlot = true) {t : State} (h : State.grabSlot s n = some t) : itm iq t = itm iq s := by
  delta foot_grabSlot at hq
  simp only [off_spots, off_cons_cons, off_nil, List.all_cons, List.all_nil, Bool.and_true, Bool.and_eq_true] at hq
  revert h; simp only [State.grabSlot]; (repeat' split) <;> (intro h; first | cases h | skip) <;> simp [hq]

def foot_serveWaiter : List Spot := spots [foot_takePosition, foot_askStart, foot_grabSlot] []

theorem it_serveWaiter {iq : Item} (s : State) (w : Nat × Nat × Bool) {t : State} (h : State.serveWaiter s w = some t) (hq : iq.off foot_serveWaiter = true) : itm iq t = itm iq s := by
  delta foot_serveWaiter at hq
  simp only [off_spots, off_cons_cons, off_nil, List.all_cons, List.all_nil, Bool.and_true, Bool.and_eq_true] at hq
  revert h; unfold State.serveWaiter
  split
  · intro h; obtain ⟨k, -, rfl⟩ := Option.map_eq_some_iff.mp h; simp [hq]
  · split
    · intro h; cases h
    · intro h; obtain ⟨u, hu, rfl⟩ := Option.map_eq_some_iff.mp h; simp [hq, it_grabSlot (iq := iq) _ _ (by simp [hq]) hu]

def foot_servePositions : List Spot := spots [foot_serveWaiter] []

@[simp] theorem it_servePositions {iq : Item} (s : State) (l : List (Nat × Nat × Bool)) (hq : iq.off foot_servePositions = true) : itm iq (s.servePositions l) = itm iq s := by
  delta foot_servePositions at hq
  simp only [off_spots, off_cons_cons, off_nil, List.all_cons, List.all_nil, Bool.and_true, Bool.and_eq_true] at hq
  induction l with
  | nil => rfl
  | cons w l ih =>
    unfold State.servePositions
    split
    · rename_i h; exact it_serveWaiter _ _ h (by simp [hq])
    · exact ih

def foot_noteBacklog : List Spot := spots [foot_modMech] []

@[simp] theorem it_noteBacklog {iq : Item} (s : State) (n : Nat) (hq : iq.off foot_noteBacklog = true) : itm iq (State.noteBacklog s n) = itm iq s := by
  delta foot_noteBacklog at hq
  simp only [off_spots, off_cons_cons, off_nil, List.all_cons, List.all_nil, Bool.and_true, Bool.and_eq_true] at hq
  simp [hq, State.noteBacklog]

def foot_noteDrain : List Spot := spots [foot_modMech] []

@[simp] theorem it_noteDrain {iq : Item} (s : State) (n k : Nat) (hq : iq.off foot_noteDrain = true) : itm iq (State.noteDrain s n k) = itm iq s := by
  delta foot_noteDrain at hq
  simp only [off_spots, off_cons_cons, off_nil, List.all_cons, List.all_nil, Bool.and_true, Bool.and_eq_true] at hq
  simp [hq, State.noteDrain]

def foot_wantSpin : List Spot := spots [foot_modMech, foot_wakePort, foot_beginMove, foot_askStart, foot_grabSlot] [.f .MECH_SPEED_TARGET]

@[simp] theorem it_wantSpin {iq : Item} (s : State) (n sFull layer : Nat) (hq : iq.off foot_wantSpin = true) : itm iq (State.wantSpin s n sFull layer) = itm iq s := by
  delta foot_wantSpin at hq
  simp only [off_spots, off_cons_cons, off_nil, List.all_cons, List.all_nil, Bool.and_true, Bool.and_eq_true] at hq
  unfold State.wantSpin
  extract_lets s1
  have k1 : itm iq s1 = itm iq s := by simp [hq, s1]
  clear_value s1
  split
  · rename_i h
    split at h
    · simp [hq, it_grabSlot (iq := iq) _ _ (by simp [hq]) h, k1]
    · cases h
  · simp [hq, k1]

def foot_askTray : List Spot := spots [foot_modMech, foot_request, foot_wakePort, foot_dropPosition, foot_takePosition, foot_endMove, foot_cutCmd,
  foot_endTray] []

@[simp] theorem it_askTray {iq : Item} (s : State) (n : Nat) (hq : iq.off foot_askTray = true) : itm iq (State.askTray s n) = itm iq s := by
  delta foot_askTray at hq
  simp only [off_spots, off_cons_cons, off_nil, List.all_cons, List.all_nil, Bool.and_true, Bool.and_eq_true] at hq
  unfold State.askTray
  extract_lets c s1 s2 r
  have k1 : itm iq s1 = itm iq s := by simp [hq, s1]
  clear_value s1
  have k2 : itm iq s2 = itm iq s := by
    simp only [s2]
    split <;> simp [hq, k1]
  clear_value s2
  split
  · rename_i h
    have k := (it_fst h (it_request (iq := iq) _ _ (by simp [hq]))).trans k2
    cases c <;> simp [hq, k]
  · rename_i h
    exact (it_fst h (it_request (iq := iq) _ _ (by simp [hq]))).trans k2

def foot_loadLimits : List Spot := [.f .MECH_SLED_LIM_IN_LIM, .f .MECH_SLED_LIM_OUT_LIM]

@[simp] theorem it_loadLimits {iq : Item} (s : State) (n : Nat) (hq : iq.off foot_loadLimits = true) : itm iq (State.loadLimits s n) = itm iq s := by
  delta foot_loadLimits at hq
  simp only [off_spots, off_cons_cons, off_nil, List.all_cons, List.all_nil, Bool.and_true, Bool.and_eq_true] at hq
  simp [hq, State.loadLimits]

def foot_attach : List Spot := spots [foot_modMech, foot_enterState, foot_endMove, foot_clearDisc, foot_loadLimits] []

@[simp] theorem it_attach {iq : Item} (s : State) (n : Nat) (clamped : Bool) (hq : iq.off foot_attach = true) : itm iq (State.attach s n clamped) = itm iq s := by
  delta foot_attach at hq
  simp only [off_spots, off_cons_cons, off_nil, List.all_cons, List.all_nil, Bool.and_true, Bool.and_eq_true] at hq
  simp [hq, State.attach]

end Sys2Proof.Laws
end

