-- ==== Sys2Proof/Laws/FootSequences.lean ====
section
/-! SUPPORT. What the operations of Machine/Sequences.lean may write, and that they leave everything else as it was. -/

namespace Sys2Proof.Laws

open Sys2Proof.Machine

def foot_modSeq : List Spot := spots [foot_modServo] []

@[simp] theorem it_modSeq {iq : Item} (s : State) (n : Nat) (f : SeqX → SeqX) (hq : iq.off foot_modSeq = true) : itm iq (State.modSeq s n f) = itm iq s := by
  delta foot_modSeq at hq
  simp only [off_spots, off_cons_cons, off_nil, List.all_cons, List.all_nil, Bool.and_true, Bool.and_eq_true] at hq
  simp [hq, State.modSeq]

def foot_modProf : List Spot := spots [foot_modServo] []

@[simp] theorem it_modProf {iq : Item} (s : State) (n : Nat) (f : ProfX → ProfX) (hq : iq.off foot_modProf = true) : itm iq (State.modProf s n f) = itm iq s := by
  delta foot_modProf at hq
  simp only [off_spots, off_cons_cons, off_nil, List.all_cons, List.all_nil, Bool.and_true, Bool.and_eq_true] at hq
  simp [hq, State.modProf]

def foot_modSled : List Spot := spots [foot_modServo] []

@[simp] theorem it_modSled {iq : Item} (s : State) (n : Nat) (f : SledX → SledX) (hq : iq.off foot_modSled = true) : itm iq (State.modSled s n f) = itm iq s := by
  delta foot_modSled at hq
  simp only [off_spots, off_cons_cons, off_nil, List.all_cons, List.all_nil, Bool.and_true, Bool.and_eq_true] at hq
  simp [hq, State.modSled]

def foot_capHit : List Spot := spots [foot_modCap] []

@[simp] theorem it_capHit {iq : Item} (s : State) (n kind : Nat) (hq : iq.off foot_capHit = true) : itm iq (State.capHit s n kind) = itm iq s := by
  delta foot_capHit at hq
  simp only [off_spots, off_cons_cons, off_nil, List.all_cons, List.all_nil, Bool.and_true, Bool.and_eq_true] at hq
  simp [hq, State.capHit]

def foot_rampFocus : List Spot := spots [foot_modServo] []

@[simp] theorem it_rampFocus {iq : Item} (s : State) (n : Nat) (v : Int) (dur : Nat) (hq : iq.off foot_rampFocus = true) : itm iq (State.rampFocus s n v dur) = itm iq s := by
  delta foot_rampFocus at hq
  simp only [off_spots, off_cons_cons, off_nil, List.all_cons, List.all_nil, Bool.and_true, Bool.and_eq_true] at hq
  simp [hq, State.rampFocus]

def foot_takeOffsets : List Spot := spots [foot_modServo] []

@[simp] theorem it_takeOffsets {iq : Item} (s : State) (n layer : Nat) (ramp : Bool) (hq : iq.off foot_takeOffsets = true) : itm iq (State.takeOffsets s n layer ramp) = itm iq s := by
  delta foot_takeOffsets at hq
  simp only [off_spots, off_cons_cons, off_nil, List.all_cons, List.all_nil, Bool.and_true, Bool.and_eq_true] at hq
  simp [hq, State.takeOffsets]

def foot_loadProfile : List Spot := spots [foot_modProf] [.f .MECH_DISC_PROFILE_VALID]

@[simp] theorem it_loadProfile {iq : Item} (s : State) (n layer : Nat) (hq : iq.off foot_loadProfile = true) : itm iq (State.loadProfile s n layer) = itm iq s := by
  delta foot_loadProfile at hq
  simp only [off_spots, off_cons_cons, off_nil, List.all_cons, List.all_nil, Bool.and_true, Bool.and_eq_true] at hq
  simp [hq, State.loadProfile]

def foot_endSeek : List Spot := spots [foot_returnGrant, foot_modSled] []

@[simp] theorem it_endSeek {iq : Item} (s : State) (n : Nat) (hq : iq.off foot_endSeek = true) : itm iq (State.endSeek s n) = itm iq s := by
  delta foot_endSeek at hq
  simp only [off_spots, off_cons_cons, off_nil, List.all_cons, List.all_nil, Bool.and_true, Bool.and_eq_true] at hq
  simp only [State.endSeek]
  (repeat' split) <;> simp [hq]

def foot_startLearning : List Spot := spots [foot_modProf] []

@[simp] theorem it_startLearning {iq : Item} (s : State) (n : Nat) (hq : iq.off foot_startLearning = true) : itm iq (State.startLearning s n) = itm iq s := by
  delta foot_startLearning at hq
  simp only [off_spots, off_cons_cons, off_nil, List.all_cons, List.all_nil, Bool.and_true, Bool.and_eq_true] at hq
  simp [hq, State.startLearning]

def foot_takeSeq : List Spot := spots [foot_modServo] []

@[simp] theorem it_takeSeq {iq : Item} (s : State) (n : Nat) (hq : iq.off foot_takeSeq = true) : itm iq (State.takeSeq s n) = itm iq s := by
  delta foot_takeSeq at hq
  simp only [off_spots, off_cons_cons, off_nil, List.all_cons, List.all_nil, Bool.and_true, Bool.and_eq_true] at hq
  simp [hq, State.takeSeq]

def foot_startAttempt : List Spot := spots [foot_modServo, foot_openLoops, foot_driveLoop, foot_modSeq, foot_modProf, foot_rampFocus, foot_takeOffsets] []

@[simp] theorem it_startAttempt {iq : Item} (s : State) (n : Nat) (hq : iq.off foot_startAttempt = true) : itm iq (State.startAttempt s n) = itm iq s := by
  delta foot_startAttempt at hq
  simp only [off_spots, off_cons_cons, off_nil, List.all_cons, List.all_nil, Bool.and_true, Bool.and_eq_true] at hq
  simp [hq, State.startAttempt]

def foot_startPullIn : List Spot := spots [foot_modServo, foot_endMove, foot_modSeq, foot_takeSeq, foot_startAttempt] []

@[simp] theorem it_startPullIn {iq : Item} (s : State) (n target : Nat) (jump : Bool) (hq : iq.off foot_startPullIn = true) : itm iq (State.startPullIn s n target jump) = itm iq s := by
  delta foot_startPullIn at hq
  simp only [off_spots, off_cons_cons, off_nil, List.all_cons, List.all_nil, Bool.and_true, Bool.and_eq_true] at hq
  simp [hq, State.startPullIn]

def foot_failAttempt : List Spot := spots [foot_openLoops, foot_modSeq, foot_rampFocus] []

@[simp] theorem it_failAttempt {iq : Item} (s : State) (n : Nat) (hq : iq.off foot_failAttempt = true) : itm iq (State.failAttempt s n) = itm iq s := by
  delta foot_failAttempt at hq
  simp only [off_spots, off_cons_cons, off_nil, List.all_cons, List.all_nil, Bool.and_true, Bool.and_eq_true] at hq
  simp [hq, State.failAttempt]

def foot_attemptReturned : List Spot := spots [foot_fault, foot_startAttempt] []

@[simp] theorem it_attemptReturned {iq : Item} (s : State) (n : Nat) (hq : iq.off foot_attemptReturned = true) : itm iq (State.attemptReturned s n) = itm iq s := by
  delta foot_attemptReturned at hq
  simp only [off_spots, off_cons_cons, off_nil, List.all_cons, List.all_nil, Bool.and_true, Bool.and_eq_true] at hq
  simp [hq, State.attemptReturned]

def foot_trackOnFrom : List Spot := spots [foot_openLoops, foot_driveLoop, foot_modSeq] []

@[simp] theorem it_trackOnFrom {iq : Item} (s : State) (n : Nat) (step3 : Bool) (hq : iq.off foot_trackOnFrom = true) : itm iq (State.trackOnFrom s n step3) = itm iq s := by
  delta foot_trackOnFrom at hq
  simp only [off_spots, off_cons_cons, off_nil, List.all_cons, List.all_nil, Bool.and_true, Bool.and_eq_true] at hq
  simp [hq, State.trackOnFrom]

def foot_startTrackOn : List Spot := spots [foot_takeSeq, foot_trackOnFrom] []

@[simp] theorem it_startTrackOn {iq : Item} (s : State) (n : Nat) (step3 : Bool) (hq : iq.off foot_startTrackOn = true) : itm iq (State.startTrackOn s n step3) = itm iq s := by
  delta foot_startTrackOn at hq
  simp only [off_spots, off_cons_cons, off_nil, List.all_cons, List.all_nil, Bool.and_true, Bool.and_eq_true] at hq
  simp [hq, State.startTrackOn]

def foot_retryTrackOn : List Spot := spots [foot_modSeq, foot_trackOnFrom] []

@[simp] theorem it_retryTrackOn {iq : Item} (s : State) (n : Nat) (hq : iq.off foot_retryTrackOn = true) : itm iq (State.retryTrackOn s n) = itm iq s := by
  delta foot_retryTrackOn at hq
  simp only [off_spots, off_cons_cons, off_nil, List.all_cons, List.all_nil, Bool.and_true, Bool.and_eq_true] at hq
  simp [hq, State.retryTrackOn]

def foot_reachTracking : List Spot := spots [foot_modMech, foot_enterState, foot_endMove, foot_askLane, foot_modSeq, foot_startLearning] []

@[simp] theorem it_reachTracking {iq : Item} (s : State) (n : Nat) (hq : iq.off foot_reachTracking = true) : itm iq (State.reachTracking s n) = itm iq s := by
  delta foot_reachTracking at hq
  simp only [off_spots, off_cons_cons, off_nil, List.all_cons, List.all_nil, Bool.and_true, Bool.and_eq_true] at hq
  simp [hq, State.reachTracking]

def foot_acquireAgain : List Spot := spots [foot_beginMove, foot_modSeq, foot_startPullIn] []

@[simp] theorem it_acquireAgain {iq : Item} (s : State) (n layer : Nat) (hq : iq.off foot_acquireAgain = true) : itm iq (State.acquireAgain s n layer) = itm iq s := by
  delta foot_acquireAgain at hq
  simp only [off_spots, off_cons_cons, off_nil, List.all_cons, List.all_nil, Bool.and_true, Bool.and_eq_true] at hq
  simp [hq, State.acquireAgain]

def foot_afterFocus : List Spot := spots [foot_modSeq, foot_modProf, foot_startTrackOn] []

@[simp] theorem it_afterFocus {iq : Item} (s : State) (n : Nat) (hq : iq.off foot_afterFocus = true) : itm iq (State.afterFocus s n) = itm iq s := by
  delta foot_afterFocus at hq
  simp only [off_spots, off_cons_cons, off_nil, List.all_cons, List.all_nil, Bool.and_true, Bool.and_eq_true] at hq
  simp [hq, State.afterFocus]

def foot_reachFocused : List Spot := spots [foot_enterState, foot_beginMove, foot_endMove] []

@[simp] theorem it_reachFocused {iq : Item} (s : State) (n : Nat) (hq : iq.off foot_reachFocused = true) : itm iq (State.reachFocused s n) = itm iq s := by
  delta foot_reachFocused at hq
  simp only [off_spots, off_cons_cons, off_nil, List.all_cons, List.all_nil, Bool.and_true, Bool.and_eq_true] at hq
  simp [hq, State.reachFocused]

def foot_startSaRun : List Spot := spots [foot_modCal, foot_modServo] []

@[simp] theorem it_startSaRun {iq : Item} (s : State) (n : Nat) (hq : iq.off foot_startSaRun = true) : itm iq (State.startSaRun s n) = itm iq s := by
  delta foot_startSaRun at hq
  simp only [off_spots, off_cons_cons, off_nil, List.all_cons, List.all_nil, Bool.and_true, Bool.and_eq_true] at hq
  simp [hq, State.startSaRun]

def foot_focusVerified : List Spot := spots [foot_modServo, foot_closeLoop, foot_loadProfile, foot_afterFocus, foot_reachFocused, foot_startSaRun] []

@[simp] theorem it_focusVerified {iq : Item} (s : State) (n : Nat) (hq : iq.off foot_focusVerified = true) : itm iq (State.focusVerified s n) = itm iq s := by
  delta foot_focusVerified at hq
  simp only [off_spots, off_cons_cons, off_nil, List.all_cons, List.all_nil, Bool.and_true, Bool.and_eq_true] at hq
  simp [hq, State.focusVerified]

def foot_startLayerStep : List Spot := spots [foot_modServo, foot_openLoops, foot_modSeq, foot_modProf, foot_capHit] []

@[simp] theorem it_startLayerStep {iq : Item} (s : State) (n : Nat) (hq : iq.off foot_startLayerStep = true) : itm iq (State.startLayerStep s n) = itm iq s := by
  delta foot_startLayerStep at hq
  simp only [off_spots, off_cons_cons, off_nil, List.all_cons, List.all_nil, Bool.and_true, Bool.and_eq_true] at hq
  simp [hq, State.startLayerStep]

def foot_layerStepDone : List Spot := spots [foot_modServo, foot_closeLoop, foot_beginMove, foot_modSeq, foot_modProf, foot_takeOffsets, foot_loadProfile,
  foot_afterFocus, foot_reachFocused, foot_startSaRun, foot_startLayerStep] []

@[simp] theorem it_layerStepDone {iq : Item} (s : State) (n : Nat) (hq : iq.off foot_layerStepDone = true) : itm iq (State.layerStepDone s n) = itm iq s := by
  delta foot_layerStepDone at hq
  simp only [off_spots, off_cons_cons, off_nil, List.all_cons, List.all_nil, Bool.and_true, Bool.and_eq_true] at hq
  simp [hq, State.layerStepDone]

def foot_loseFocus : List Spot := spots [foot_modServo, foot_openLoops, foot_driveLoop, foot_releaseLane, foot_chg, foot_enterState, foot_abandonRuns,
  foot_modProf, foot_rampFocus, foot_endSeek] []

@[simp] theorem it_loseFocus {iq : Item} (s : State) (n : Nat) (hq : iq.off foot_loseFocus = true) : itm iq (State.loseFocus s n) = itm iq s := by
  delta foot_loseFocus at hq
  simp only [off_spots, off_cons_cons, off_nil, List.all_cons, List.all_nil, Bool.and_true, Bool.and_eq_true] at hq
  simp [hq, State.loseFocus]

def foot_enterSpin : List Spot := spots [foot_modSpin] [.f .MECH_SPIN_STAT_SPIN_STATE]

@[simp] theorem it_enterSpin {iq : Item} (s : State) (n st : Nat) (hq : iq.off foot_enterSpin = true) : itm iq (State.enterSpin s n st) = itm iq s := by
  delta foot_enterSpin at hq
  simp only [off_spots, off_cons_cons, off_nil, List.all_cons, List.all_nil, Bool.and_true, Bool.and_eq_true] at hq
  simp [hq, State.enterSpin]

def foot_spinClosed : List Spot := spots [foot_modSpin, foot_setLs, foot_closeLoop, foot_enterState, foot_enterSpin] [.f .MECH_SPIN_STAT_OBS_LOCK]

@[simp] theorem it_spinClosed {iq : Item} (s : State) (n ref : Nat) (hq : iq.off foot_spinClosed = true) : itm iq (State.spinClosed s n ref) = itm iq s := by
  delta foot_spinClosed at hq
  simp only [off_spots, off_cons_cons, off_nil, List.all_cons, List.all_nil, Bool.and_true, Bool.and_eq_true] at hq
  simp [hq, State.spinClosed]

def foot_startSequence : List Spot := spots [foot_modServo, foot_modSpin, foot_modLoop, foot_enterSpin] []

@[simp] theorem it_startSequence {iq : Item} (s : State) (n : Nat) (hq : iq.off foot_startSequence = true) : itm iq (State.startSequence s n) = itm iq s := by
  delta foot_startSequence at hq
  simp only [off_spots, off_cons_cons, off_nil, List.all_cons, List.all_nil, Bool.and_true, Bool.and_eq_true] at hq
  simp [hq, State.startSequence]

def foot_completeState : List Spot := spots [foot_complete] []

@[simp] theorem it_completeState {iq : Item} (s : State) (n op st : Nat) (hq : iq.off foot_completeState = true) : itm iq (State.completeState s n op st) = itm iq s := by
  delta foot_completeState at hq
  simp only [off_spots, off_cons_cons, off_nil, List.all_cons, List.all_nil, Bool.and_true, Bool.and_eq_true] at hq
  simp [hq, State.completeState]

def foot_cutDriver : List Spot := spots [foot_modMech, foot_cutCmd] []

@[simp] theorem it_cutDriver {iq : Item} (s : State) (n st : Nat) (hq : iq.off foot_cutDriver = true) : itm iq (State.cutDriver s n st) = itm iq s := by
  delta foot_cutDriver at hq
  simp only [off_spots, off_cons_cons, off_nil, List.all_cons, List.all_nil, Bool.and_true, Bool.and_eq_true] at hq
  simp [hq, State.cutDriver]

def foot_endSpinDown : List Spot := spots [foot_modMech, foot_returnGrant, foot_releaseSlot, foot_enterState, foot_endMove, foot_clearMount, foot_askTray,
  foot_completeState] []

@[simp] theorem it_endSpinDown {iq : Item} (s : State) (n : Nat) (hq : iq.off foot_endSpinDown = true) : itm iq (State.endSpinDown s n) = itm iq s := by
  delta foot_endSpinDown at hq
  simp only [off_spots, off_cons_cons, off_nil, List.all_cons, List.all_nil, Bool.and_true, Bool.and_eq_true] at hq
  simp [hq, State.endSpinDown]

def foot_issueStop : List Spot := spots [foot_modMech, foot_modServo, foot_openLoops, foot_endSeek, foot_enterSpin, foot_endSpinDown] [.f .MECH_SPIN_STAT_OBS_LOCK,
  .f .MECH_STATE_TURNING]

@[simp] theorem it_issueStop {iq : Item} (s : State) (n : Nat) (hq : iq.off foot_issueStop = true) : itm iq (State.issueStop s n) = itm iq s := by
  delta foot_issueStop at hq
  simp only [off_spots, off_cons_cons, off_nil, List.all_cons, List.all_nil, Bool.and_true, Bool.and_eq_true] at hq
  simp [hq, State.issueStop]

def foot_startPark : List Spot := spots [foot_modServo, foot_closeLoop, foot_openLoops, foot_driveLoop, foot_modSeq, foot_modSled] []

@[simp] theorem it_startPark {iq : Item} (s : State) (n : Nat) (hq : iq.off foot_startPark = true) : itm iq (State.startPark s n) = itm iq s := by
  delta foot_startPark at hq
  simp only [off_spots, off_cons_cons, off_nil, List.all_cons, List.all_nil, Bool.and_true, Bool.and_eq_true] at hq
  simp [hq, State.startPark]

def foot_startSpinDown : List Spot := spots [foot_modMech, foot_request, foot_releaseLane, foot_beginMove, foot_abandonRuns, foot_issueStop, foot_startPark] [.f .MECH_STATE_TARGET]

@[simp] theorem it_startSpinDown {iq : Item} (s : State) (n target : Nat) (hq : iq.off foot_startSpinDown = true) : itm iq (State.startSpinDown s n target) = itm iq s := by
  delta foot_startSpinDown at hq
  simp only [off_spots, off_cons_cons, off_nil, List.all_cons, List.all_nil, Bool.and_true, Bool.and_eq_true] at hq
  unfold State.startSpinDown
  split
  · simp [hq]
  · dsimp only
    split <;> (rename_i h; have k := it_fst h (it_request (iq := iq) _ _ (by simp [hq])); simp [hq, k])

def foot_dropSpinDown : List Spot := spots [foot_modMech, foot_modBreath, foot_endMove, foot_endSeek] []

@[simp] theorem it_dropSpinDown {iq : Item} (s : State) (n : Nat) (hq : iq.off foot_dropSpinDown = true) : itm iq (State.dropSpinDown s n) = itm iq s := by
  delta foot_dropSpinDown at hq
  simp only [off_spots, off_cons_cons, off_nil, List.all_cons, List.all_nil, Bool.and_true, Bool.and_eq_true] at hq
  simp [hq, State.dropSpinDown]

def foot_cancelSpinDown : List Spot := spots [foot_startTrackOn, foot_dropSpinDown] []

@[simp] theorem it_cancelSpinDown {iq : Item} (s : State) (n : Nat) (hq : iq.off foot_cancelSpinDown = true) : itm iq (State.cancelSpinDown s n) = itm iq s := by
  delta foot_cancelSpinDown at hq
  simp only [off_spots, off_cons_cons, off_nil, List.all_cons, List.all_nil, Bool.and_true, Bool.and_eq_true] at hq
  simp [hq, State.cancelSpinDown]

def foot_focusLoss : List Spot := spots [foot_modServo, foot_beginMove, foot_fault, foot_modSeq, foot_capHit, foot_loseFocus, foot_issueStop,
  foot_dropSpinDown] []

@[simp] theorem it_focusLoss {iq : Item} (s : State) (n : Nat) (hq : iq.off foot_focusLoss = true) : itm iq (State.focusLoss s n) = itm iq s := by
  delta foot_focusLoss at hq
  simp only [off_spots, off_cons_cons, off_nil, List.all_cons, List.all_nil, Bool.and_true, Bool.and_eq_true] at hq
  simp [hq, State.focusLoss]

def foot_trackLoss : List Spot := spots [foot_modServo, foot_openLoops, foot_headLeaves, foot_chg, foot_enterState, foot_beginMove, foot_abandonRuns,
  foot_fault, foot_modProf, foot_capHit, foot_startTrackOn, foot_issueStop, foot_dropSpinDown] []

@[simp] theorem it_trackLoss {iq : Item} (s : State) (n : Nat) (hq : iq.off foot_trackLoss = true) : itm iq (State.trackLoss s n) = itm iq s := by
  delta foot_trackLoss at hq
  simp only [off_spots, off_cons_cons, off_nil, List.all_cons, List.all_nil, Bool.and_true, Bool.and_eq_true] at hq
  simp [hq, State.trackLoss]

def foot_spinFailed : List Spot := spots [foot_modMech, foot_modSpin, foot_openLoops, foot_fault, foot_modSeq, foot_modProf, foot_loseFocus, foot_startSequence,
  foot_focusLoss] [.f .MECH_SPIN_STAT_TRIES, .f .MECH_SPIN_STAT_OBS_LOCK, .f .MECH_STATE_TURNING]

@[simp] theorem it_spinFailed {iq : Item} (s : State) (n : Nat) (hq : iq.off foot_spinFailed = true) : itm iq (State.spinFailed s n) = itm iq s := by
  delta foot_spinFailed at hq
  simp only [off_spots, off_cons_cons, off_nil, List.all_cons, List.all_nil, Bool.and_true, Bool.and_eq_true] at hq
  simp [hq, State.spinFailed]

def foot_permitLoss : List Spot := spots [foot_enterState, foot_endMove, foot_modSeq, foot_loseFocus, foot_cutDriver, foot_dropSpinDown] []

@[simp] theorem it_permitLoss {iq : Item} (s : State) (n : Nat) (hq : iq.off foot_permitLoss = true) : itm iq (State.permitLoss s n) = itm iq s := by
  delta foot_permitLoss at hq
  simp only [off_spots, off_cons_cons, off_nil, List.all_cons, List.all_nil, Bool.and_true, Bool.and_eq_true] at hq
  simp [hq, State.permitLoss]

end Sys2Proof.Laws
end

