-- ==== Sys2Proof/Laws/FootServo.lean ====
section
/-! SUPPORT. What the operations of Machine/Servo.lean may write, and that they leave everything else as it was. -/

namespace Sys2Proof.Laws

open Sys2Proof.Machine

def foot_advanceTheta : List Spot := spots [foot_modServo] [.f .CIRQ_ANGLE_THETA]

@[simp] theorem it_advanceTheta {iq : Item} (s : State) (n : Nat) (hq : iq.off foot_advanceTheta = true) : itm iq (State.advanceTheta s n).1 = itm iq s := by
  delta foot_advanceTheta at hq
  simp only [off_spots, off_cons_cons, off_nil, List.all_cons, List.all_nil, Bool.and_true, Bool.and_eq_true] at hq
  simp [hq, State.advanceTheta]

def foot_injSample : List Spot := spots [foot_modCirq, foot_endInj] [.f .CIRQ_INJ_STAT_STEP]

@[simp] theorem it_injSample {iq : Item} (s : State) (n : Nat) (hq : iq.off foot_injSample = true) : itm iq (State.injSample s n).1 = itm iq s := by
  delta foot_injSample at hq
  simp only [off_spots, off_cons_cons, off_nil, List.all_cons, List.all_nil, Bool.and_true, Bool.and_eq_true] at hq
  simp only [State.injSample]
  (repeat' split) <;> simp [hq]

def foot_freePoint : List Spot := [.p .free]

@[simp] theorem it_freePoint {iq : Item} (s : State) (hq : iq.off foot_freePoint = true) : itm iq (State.freePoint s).1 = itm iq s := by
  delta foot_freePoint at hq
  simp [hq, State.freePoint]

def foot_padPoints : List Spot := spots [foot_freePoint] []

@[simp] theorem it_padPoints {iq : Item} (k : Nat) (s : State) (l : List (List Int × Bool)) (hq : iq.off foot_padPoints = true) : itm iq (State.padPoints k s l).1 = itm iq s := by
  delta foot_padPoints at hq
  simp only [off_spots, off_cons_cons, off_nil, List.all_cons, List.all_nil, Bool.and_true, Bool.and_eq_true] at hq
  induction k generalizing s l with
  | zero => rfl
  | succ k ih => unfold State.padPoints; rw [ih]; simp [hq]

def foot_capSample : List Spot := spots [foot_modCap, foot_endCap, foot_padPoints] [.f .CIRQ_CAP_STAT_ARMED, .f .CIRQ_CAP_STAT_TRIGGERED, .f .CIRQ_CAP_TRIG_LO_TIME_NS,
  .f .CIRQ_CAP_TRIG_HI_TIME_NS, .f .CIRQ_CAP_STAT_COUNT]

@[simp] theorem it_capSample {iq : Item} (s : State) (n : Nat) (x : UpSlot) (tew g : Int) (held : Bool) (hq : iq.off foot_capSample = true) : itm iq (State.capSample s n x tew g held) = itm iq s := by
  delta foot_capSample at hq
  simp only [off_spots, off_cons_cons, off_nil, List.all_cons, List.all_nil, Bool.and_true, Bool.and_eq_true] at hq
  simp [hq, State.capSample]

def foot_sledMove : List Spot := spots [foot_modSled] [.f .MECH_SLED_POS_POS, .f .MECH_SLED_STAT_MOVING, .f .MECH_SLED_STAT_OUTSIDE, .f .MECH_SLED_STAT_HOLDING,
  .f .MECH_SLED_STAT_CLIP_IN, .f .MECH_SLED_STAT_CLIP_OUT, .f .MECH_SLED_STAT_CLIPS]

@[simp] theorem it_sledMove {iq : Item} (s : State) (n : Nat) (held : Bool) (o35 : Int) (off : Bool) (hq : iq.off foot_sledMove = true) : itm iq (State.sledMove s n held o35 off) = itm iq s := by
  delta foot_sledMove at hq
  simp only [off_spots, off_cons_cons, off_nil, List.all_cons, List.all_nil, Bool.and_true, Bool.and_eq_true] at hq
  simp [hq, State.sledMove]

def foot_slewRef : List Spot := spots [foot_returnGrant, foot_modSpin] [.f .MECH_SPIN_STAT_SPIN_STATE]

@[simp] theorem it_slewRef {iq : Item} (s : State) (n : Nat) (hq : iq.off foot_slewRef = true) : itm iq (State.slewRef s n) = itm iq s := by
  delta foot_slewRef at hq
  simp only [off_spots, off_cons_cons, off_nil, List.all_cons, List.all_nil, Bool.and_true, Bool.and_eq_true] at hq
  simp [hq, State.slewRef]

def foot_freeDuties : List Spot := [.p .free]

@[simp] theorem it_freeDuties {iq : Item} (s : State) (hq : iq.off foot_freeDuties = true) : itm iq (State.freeDuties s).1 = itm iq s := by
  delta foot_freeDuties at hq
  simp [hq, State.freeDuties]

def foot_spinAfter : List Spot := spots [foot_modMech, foot_modSpin, foot_openLoops, foot_startShort, foot_enterSpin, foot_spinClosed, foot_spinFailed] [.f .MECH_SPEED_MEAS,
  .f .MECH_STATE_TURNING, .f .MECH_SPIN_STAT_OBS_LOCK]

@[simp] theorem it_spinAfter {iq : Item} (s : State) (n : Nat) (mag : Nat) (hq : iq.off foot_spinAfter = true) : itm iq (State.spinAfter s n mag) = itm iq s := by
  delta foot_spinAfter at hq
  simp only [off_spots, off_cons_cons, off_nil, List.all_cons, List.all_nil, Bool.and_true, Bool.and_eq_true] at hq
  simp [hq, State.spinAfter]

def foot_catchPeriod : List Spot := spots [foot_modSpin, foot_freeDuties, foot_spinAfter] [.f .MECH_SPIN_STAT_SHIFTING, .f .MECH_START_CNT_NOWIN]

@[simp] theorem it_catchPeriod {iq : Item} (s : State) (n : Nat) (x : UpSlot) (period : Nat) (hq : iq.off foot_catchPeriod = true) : itm iq (State.catchPeriod s n x period) = itm iq s := by
  delta foot_catchPeriod at hq
  simp only [off_spots, off_cons_cons, off_nil, List.all_cons, List.all_nil, Bool.and_true, Bool.and_eq_true] at hq
  simp [hq, State.catchPeriod]

def foot_spinSample : List Spot := spots [foot_modSpin, foot_freeDuties, foot_spinAfter, foot_catchPeriod] [.f .MECH_SPIN_STAT_SHIFTING, .f .MECH_START_CNT_NOWIN]

@[simp] theorem it_spinSample {iq : Item} (s00 : State) (n : Nat) (x : UpSlot) (o36 : Int) (hq : iq.off foot_spinSample = true) : itm iq (State.spinSample s00 n x o36) = itm iq s00 := by
  delta foot_spinSample at hq
  simp only [off_spots, off_cons_cons, off_nil, List.all_cons, List.all_nil, Bool.and_true, Bool.and_eq_true] at hq
  simp [hq, State.spinSample]

def foot_residSample : List Spot := spots [foot_modProf, foot_startLearning] []

@[simp] theorem it_residSample {iq : Item} (s : State) (n : Nat) (wrapped : Bool) (hq : iq.off foot_residSample = true) : itm iq (State.residSample s n wrapped) = itm iq s := by
  delta foot_residSample at hq
  simp only [off_spots, off_cons_cons, off_nil, List.all_cons, List.all_nil, Bool.and_true, Bool.and_eq_true] at hq
  simp [hq, State.residSample]

def foot_learnSample : List Spot := spots [foot_modProf, foot_residSample] []

@[simp] theorem it_learnSample {iq : Item} (s0 : State) (n : Nat) (wrapped counts closed : Bool) (hq : iq.off foot_learnSample = true) : itm iq (State.learnSample s0 n wrapped counts closed) = itm iq s0 := by
  delta foot_learnSample at hq
  simp only [off_spots, off_cons_cons, off_nil, List.all_cons, List.all_nil, Bool.and_true, Bool.and_eq_true] at hq
  simp [hq, State.learnSample]

def foot_pullSample : List Spot := spots [foot_closeLoop, foot_driveLoop, foot_fault, foot_modSeq, foot_rampFocus, foot_startAttempt, foot_failAttempt,
  foot_attemptReturned] []

@[simp] theorem it_pullSample {iq : Item} (s : State) (n : Nat) (x : UpSlot) (hq : iq.off foot_pullSample = true) : itm iq (State.pullSample s n x) = itm iq s := by
  delta foot_pullSample at hq
  simp only [off_spots, off_cons_cons, off_nil, List.all_cons, List.all_nil, Bool.and_true, Bool.and_eq_true] at hq
  unfold State.pullSample
  extract_lets
  split
  · simp [hq]
  · (repeat' split) <;> simp +zetaDelta [hq]

def foot_verifySample : List Spot := spots [foot_modSeq, foot_startPullIn, foot_failAttempt, foot_focusVerified, foot_layerStepDone] []

@[simp] theorem it_verifySample {iq : Item} (s : State) (n : Nat) (x : UpSlot) (x0 : Int) (lost : Bool) (hq : iq.off foot_verifySample = true) : itm iq (State.verifySample s n x x0 lost) = itm iq s := by
  delta foot_verifySample at hq
  simp only [off_spots, off_cons_cons, off_nil, List.all_cons, List.all_nil, Bool.and_true, Bool.and_eq_true] at hq
  simp [hq, State.verifySample]

def foot_layerSample : List Spot := spots [foot_closeLoop, foot_driveLoop, foot_modSeq] []

@[simp] theorem it_layerSample {iq : Item} (s : State) (n : Nat) (x : UpSlot) (hq : iq.off foot_layerSample = true) : itm iq (State.layerSample s n x) = itm iq s := by
  delta foot_layerSample at hq
  simp only [off_spots, off_cons_cons, off_nil, List.all_cons, List.all_nil, Bool.and_true, Bool.and_eq_true] at hq
  simp [hq, State.layerSample]

def foot_trackOnSample : List Spot := spots [foot_modMech, foot_closeLoop, foot_driveLoop, foot_fault, foot_modSeq, foot_reachTracking] []

@[simp] theorem it_trackOnSample {iq : Item} (s : State) (n : Nat) (tew : Int) (cross : Option Int) (hq : iq.off foot_trackOnSample = true) : itm iq (State.trackOnSample s n tew cross) = itm iq s := by
  delta foot_trackOnSample at hq
  simp only [off_spots, off_cons_cons, off_nil, List.all_cons, List.all_nil, Bool.and_true, Bool.and_eq_true] at hq
  simp [hq, State.trackOnSample]

def foot_jumpSample : List Spot := spots [foot_driveLoop, foot_modSeq, foot_trackOnFrom] []

@[simp] theorem it_jumpSample {iq : Item} (s : State) (n : Nat) (cross : Option Int) (hq : iq.off foot_jumpSample = true) : itm iq (State.jumpSample s n cross) = itm iq s := by
  delta foot_jumpSample at hq
  simp only [off_spots, off_cons_cons, off_nil, List.all_cons, List.all_nil, Bool.and_true, Bool.and_eq_true] at hq
  simp [hq, State.jumpSample]

def foot_seekSample : List Spot := spots [foot_modSeq, foot_endSeek, foot_trackOnFrom, foot_issueStop] []

@[simp] theorem it_seekSample {iq : Item} (s : State) (n : Nat) (hq : iq.off foot_seekSample = true) : itm iq (State.seekSample s n) = itm iq s := by
  delta foot_seekSample at hq
  simp only [off_spots, off_cons_cons, off_nil, List.all_cons, List.all_nil, Bool.and_true, Bool.and_eq_true] at hq
  simp only [State.seekSample]
  (repeat' split) <;> simp [hq]

def foot_alignSample : List Spot := spots [foot_modProf, foot_startTrackOn] []

@[simp] theorem it_alignSample {iq : Item} (s : State) (n : Nat) (cross : Option Int) (hq : iq.off foot_alignSample = true) : itm iq (State.alignSample s n cross) = itm iq s := by
  delta foot_alignSample at hq
  simp only [off_spots, off_cons_cons, off_nil, List.all_cons, List.all_nil, Bool.and_true, Bool.and_eq_true] at hq
  simp [hq, State.alignSample]

def foot_seqSample : List Spot := spots [foot_startPullIn, foot_startLayerStep, foot_pullSample, foot_verifySample, foot_layerSample, foot_trackOnSample,
  foot_jumpSample, foot_seekSample, foot_alignSample] []

@[simp] theorem it_seqSample {iq : Item} (s : State) (n : Nat) (x : UpSlot) (x0 tew : Int) (cross : Option Int) (lost : Bool) (hq : iq.off foot_seqSample = true) : itm iq (State.seqSample s n x x0 tew cross lost) = itm iq s := by
  delta foot_seqSample at hq
  simp only [off_spots, off_cons_cons, off_nil, List.all_cons, List.all_nil, Bool.and_true, Bool.and_eq_true] at hq
  unfold State.seqSample
  extract_lets
  split <;> first | rfl | simp [hq] | skip
  all_goals (split <;> first | (split <;> simp [hq]) | simp [hq])

def foot_offOutputs : List Spot := spots [foot_driveLoop] []

@[simp] theorem it_offOutputs {iq : Item} (s : State) (n : Nat) (hq : iq.off foot_offOutputs = true) : itm iq (State.offOutputs s n) = itm iq s := by
  delta foot_offOutputs at hq
  simp only [off_spots, off_cons_cons, off_nil, List.all_cons, List.all_nil, Bool.and_true, Bool.and_eq_true] at hq
  simp only [State.offOutputs]
  (repeat' split) <;> simp [hq]

def foot_loopSampleAt : List Spot := spots [foot_modServo, foot_modLoop, foot_setLs] []

@[simp] theorem it_loopSampleAt {iq : Item} (s : State) (n l : Nat) (x : Int) (g : Int) (hq : iq.off foot_loopSampleAt = true) : itm iq (State.loopSampleAt s n l x g) = itm iq s := by
  delta foot_loopSampleAt at hq
  simp only [off_spots, off_cons_cons, off_nil, List.all_cons, List.all_nil, Bool.and_true, Bool.and_eq_true] at hq
  simp [hq, State.loopSampleAt]

def foot_swapPeriod : List Spot := spots [foot_modServo] []

@[simp] theorem it_swapPeriod {iq : Item} (s : State) (n : Nat) (hq : iq.off foot_swapPeriod = true) : itm iq (State.swapPeriod s n) = itm iq s := by
  delta foot_swapPeriod at hq
  simp only [off_spots, off_cons_cons, off_nil, List.all_cons, List.all_nil, Bool.and_true, Bool.and_eq_true] at hq
  simp only [State.swapPeriod]
  (repeat' split) <;> simp [hq]

def foot_swapSample : List Spot := spots [foot_modServo, foot_setLs, foot_abandonSwap, foot_endInjOf] [.f .CIRQ_LSTAT_HOLD_CNT]

@[simp] theorem it_swapSample {iq : Item} (s : State) (n : Nat) (hq : iq.off foot_swapSample = true) : itm iq (State.swapSample s n) = itm iq s := by
  delta foot_swapSample at hq
  simp only [off_spots, off_cons_cons, off_nil, List.all_cons, List.all_nil, Bool.and_true, Bool.and_eq_true] at hq
  simp only [State.swapSample]
  (repeat' split) <;> simp [hq]

def foot_writeInhibit : List Spot := spots [foot_stopSled, foot_endWrite, foot_abandonSome] [.f .FIRN_EVENT_INHIBIT, .f .FIRN_CNT_INHIBIT_COUNT]

@[simp] theorem it_writeInhibit {iq : Item} (s : State) (n : Nat) (hq : iq.off foot_writeInhibit = true) : itm iq (State.writeInhibit s n) = itm iq s := by
  delta foot_writeInhibit at hq
  simp only [off_spots, off_cons_cons, off_nil, List.all_cons, List.all_nil, Bool.and_true, Bool.and_eq_true] at hq
  simp only [State.writeInhibit]
  (repeat' split) <;> simp [hq]

def foot_countStart : List Spot := spots [foot_modSpin] []

@[simp] theorem it_countStart {iq : Item} (s : State) (n : Nat) (hq : iq.off foot_countStart = true) : itm iq (State.countStart s n) = itm iq s := by
  delta foot_countStart at hq
  simp only [off_spots, off_cons_cons, off_nil, List.all_cons, List.all_nil, Bool.and_true, Bool.and_eq_true] at hq
  simp [hq, State.countStart]

def foot_instant : List Spot := spots [foot_modProf, foot_advanceTheta, foot_injSample, foot_swapPeriod, foot_countStart] []

@[simp] theorem it_instant {iq : Item} (s : State) (n : Nat) (hq : iq.off foot_instant = true) : itm iq (State.instant s n).1 = itm iq s := by
  delta foot_instant at hq
  simp only [off_spots, off_cons_cons, off_nil, List.all_cons, List.all_nil, Bool.and_true, Bool.and_eq_true] at hq
  simp only [State.instant]
  (repeat' split) <;> simp [hq]

def foot_startTrackJump : List Spot := spots [foot_openLoops, foot_headLeaves, foot_modSeq, foot_modProf, foot_capHit, foot_writeInhibit] []

@[simp] theorem it_startTrackJump {iq : Item} (s : State) (n : Nat) (m : Int) (hq : iq.off foot_startTrackJump = true) : itm iq (State.startTrackJump s n m) = itm iq s := by
  delta foot_startTrackJump at hq
  simp only [off_spots, off_cons_cons, off_nil, List.all_cons, List.all_nil, Bool.and_true, Bool.and_eq_true] at hq
  simp [hq, State.startTrackJump]

def foot_modRun : List Spot := spots [foot_modServo] []

@[simp] theorem it_modRun {iq : Item} (s : State) (n : Nat) (f : CalRunX → CalRunX) (hq : iq.off foot_modRun = true) : itm iq (State.modRun s n f) = itm iq s := by
  delta foot_modRun at hq
  simp only [off_spots, off_cons_cons, off_nil, List.all_cons, List.all_nil, Bool.and_true, Bool.and_eq_true] at hq
  simp [hq, State.modRun]

def foot_sweepTo : List Spot := spots [foot_modServo, foot_modRun] []

@[simp] theorem it_sweepTo {iq : Item} (s : State) (n item j : Nat) (hq : iq.off foot_sweepTo = true) : itm iq (State.sweepTo s n item j) = itm iq s := by
  delta foot_sweepTo at hq
  simp only [off_spots, off_cons_cons, off_nil, List.all_cons, List.all_nil, Bool.and_true, Bool.and_eq_true] at hq
  simp [hq, State.sweepTo]

def foot_sweepSample : List Spot := spots [foot_clearMeas, foot_modRun, foot_sweepTo] []

@[simp] theorem it_sweepSample {iq : Item} (s : State) (n : Nat) (r : CalRunX) (hq : iq.off foot_sweepSample = true) : itm iq (State.sweepSample s n r) = itm iq s := by
  delta foot_sweepSample at hq
  simp only [off_spots, off_cons_cons, off_nil, List.all_cons, List.all_nil, Bool.and_true, Bool.and_eq_true] at hq
  simp only [State.sweepSample]
  (repeat' split) <;> simp [hq]

def foot_balanceSample : List Spot := spots [foot_startTrackJump, foot_modRun] []

@[simp] theorem it_balanceSample {iq : Item} (s : State) (n : Nat) (r : CalRunX) (raw : Int) (crossed : Bool) (hq : iq.off foot_balanceSample = true) : itm iq (State.balanceSample s n r raw crossed) = itm iq s := by
  delta foot_balanceSample at hq
  simp only [off_spots, off_cons_cons, off_nil, List.all_cons, List.all_nil, Bool.and_true, Bool.and_eq_true] at hq
  simp [hq, State.balanceSample]

def foot_opcSample : List Spot := spots [foot_modBeam, foot_enterSearch, foot_modRun] []

@[simp] theorem it_opcSample {iq : Item} (s : State) (n : Nat) (r : CalRunX) (hq : iq.off foot_opcSample = true) : itm iq (State.opcSample s n r) = itm iq s := by
  delta foot_opcSample at hq
  simp only [off_spots, off_cons_cons, off_nil, List.all_cons, List.all_nil, Bool.and_true, Bool.and_eq_true] at hq
  simp only [State.opcSample]
  (repeat' split) <;> simp [hq]

def foot_presetSample : List Spot := spots [foot_modServo] []

@[simp] theorem it_presetSample {iq : Item} (s : State) (n : Nat) (hq : iq.off foot_presetSample = true) : itm iq (State.presetSample s n) = itm iq s := by
  delta foot_presetSample at hq
  simp only [off_spots, off_cons_cons, off_nil, List.all_cons, List.all_nil, Bool.and_true, Bool.and_eq_true] at hq
  simp only [State.presetSample]
  (repeat' split) <;> simp [hq]

def foot_calSample : List Spot := spots [foot_sweepSample, foot_balanceSample, foot_opcSample, foot_presetSample] []

@[simp] theorem it_calSample {iq : Item} (s : State) (n : Nat) (raw : Int) (crossed : Bool) (hq : iq.off foot_calSample = true) : itm iq (State.calSample s n raw crossed) = itm iq s := by
  delta foot_calSample at hq
  simp only [off_spots, off_cons_cons, off_nil, List.all_cons, List.all_nil, Bool.and_true, Bool.and_eq_true] at hq
  simp only [State.calSample]
  (repeat' split) <;> simp [hq]

def foot_calHeld : List Spot := spots [foot_modBeam] []

@[simp] theorem it_calHeld {iq : Item} (s : State) (n : Nat) (hq : iq.off foot_calHeld = true) : itm iq (State.calHeld s n) = itm iq s := by
  delta foot_calHeld at hq
  simp only [off_spots, off_cons_cons, off_nil, List.all_cons, List.all_nil, Bool.and_true, Bool.and_eq_true] at hq
  simp only [State.calHeld]
  (repeat' split) <;> simp [hq]

def foot_heldSample : List Spot := spots [foot_modServo, foot_capSample, foot_sledMove, foot_learnSample, foot_writeInhibit, foot_instant, foot_calHeld] []

@[simp] theorem it_heldSample {iq : Item} (s : State) (n : Nat) (x : UpSlot) (hq : iq.off foot_heldSample = true) : itm iq (State.heldSample s n x) = itm iq s := by
  delta foot_heldSample at hq
  simp only [off_spots, off_cons_cons, off_nil, List.all_cons, List.all_nil, Bool.and_true, Bool.and_eq_true] at hq
  simp [hq, State.heldSample]

def foot_rateForward : List Spot := spots [foot_feedForward] []

@[simp] theorem it_rateForward {iq : Item} (s : State) (n : Nat) (old : Int) (hq : iq.off foot_rateForward = true) : itm iq (State.rateForward s n old) = itm iq s := by
  delta foot_rateForward at hq
  simp only [off_spots, off_cons_cons, off_nil, List.all_cons, List.all_nil, Bool.and_true, Bool.and_eq_true] at hq
  simp [hq, State.rateForward]

def foot_computeSample : List Spot := spots [foot_modServo, foot_sendAct, foot_retryTrackOn, foot_focusLoss, foot_trackLoss, foot_permitLoss,
  foot_capSample, foot_sledMove, foot_slewRef, foot_spinSample, foot_learnSample, foot_seqSample, foot_offOutputs, foot_loopSampleAt, foot_swapSample,
  foot_writeInhibit, foot_instant, foot_calSample, foot_rateForward] []

@[simp] theorem it_computeSample {iq : Item} (s : State) (n : Nat) (x0raw : UpSlot) (hq : iq.off foot_computeSample = true) : itm iq (State.computeSample s n x0raw) = itm iq s := by
  delta foot_computeSample at hq
  simp only [off_spots, off_cons_cons, off_nil, List.all_cons, List.all_nil, Bool.and_true, Bool.and_eq_true] at hq
  simp [hq, State.computeSample]

def foot_missSlot : List Spot := spots [foot_fault, foot_heldSample] [.f .PEN_CNT_MISS_COUNT, .f .PEN_DROP_MISS_RUN, .f .PEN_EVENT_MISS]

@[simp] theorem it_missSlot {iq : Item} (s : State) (n : Nat) (x : UpSlot) (hq : iq.off foot_missSlot = true) : itm iq (State.missSlot s n x) = itm iq s := by
  delta foot_missSlot at hq
  simp only [off_spots, off_cons_cons, off_nil, List.all_cons, List.all_nil, Bool.and_true, Bool.and_eq_true] at hq
  simp [hq, State.missSlot]

def foot_lostSample : List Spot := spots [foot_modCirq] []

@[simp] theorem it_lostSample {iq : Item} (s : State) (n : Nat) (hq : iq.off foot_lostSample = true) : itm iq (State.lostSample s n) = itm iq s := by
  delta foot_lostSample at hq
  simp only [off_spots, off_cons_cons, off_nil, List.all_cons, List.all_nil, Bool.and_true, Bool.and_eq_true] at hq
  simp [hq, State.lostSample]

def foot_execSlotSample : List Spot := spots [foot_fin, foot_heldSample, foot_computeSample, foot_missSlot, foot_lostSample] []

theorem it_execSlotSample {iq : Item} (mn : Mn) (x : UpSlot) (s : State) (hq : iq.off foot_execSlotSample = true) : itOut iq (execSlotSample mn x s) s := by
  delta foot_execSlotSample at hq
  simp only [off_spots, off_cons_cons, off_nil, List.all_cons, List.all_nil, Bool.and_true, Bool.and_eq_true] at hq
  simp [hq, execSlotSample]

end Sys2Proof.Laws
end

