-- ==== Sys2Proof/Laws/FootServoCmds.lean ====
section
/-! SUPPORT. What the operations of Machine/ServoCmds.lean may write, and that they leave everything else as it was. -/

namespace Sys2Proof.Laws

open Sys2Proof.Machine

def foot_capInj : List Spot := spots [foot_modCap] []

@[simp] theorem it_capInj {iq : Item} (s : State) (c n l type : Nat) (hq : iq.off foot_capInj = true) : itm iq (State.capInj s c n l type) = itm iq s := by
  delta foot_capInj at hq
  simp only [off_spots, off_cons_cons, off_nil, List.all_cons, List.all_nil, Bool.and_true, Bool.and_eq_true] at hq
  simp [hq, State.capInj]

def foot_startInj : List Spot := spots [foot_modCirq, foot_capHit, foot_capInj] [.f .CIRQ_INJ_STAT_ACTIVE, .f .CIRQ_INJ_STAT_END, .f .CIRQ_INJ_STAT_ERR,
  .f .CIRQ_INJ_STAT_STEP]

@[simp] theorem it_startInj {iq : Item} (s : State) (c n l type : Nat) (hq : iq.off foot_startInj = true) : itm iq (State.startInj s c n l type) = itm iq s := by
  delta foot_startInj at hq
  simp only [off_spots, off_cons_cons, off_nil, List.all_cons, List.all_nil, Bool.and_true, Bool.and_eq_true] at hq
  simp [hq, State.startInj]

def foot_execInjStart : List Spot := spots [foot_fin, foot_regCmd, foot_startInj] [.f .CIRQ_INJ_CTRL_MN, .f .CIRQ_INJ_CTRL_LOOP, .f .CIRQ_INJ_CTRL_PRBS_HOLD,
  .f .CIRQ_INJ_CTRL_TYPE, .f .CIRQ_INJ_STAT_ERR, .f .CIRQ_INJ_STAT_END]

theorem it_execInjStart {iq : Item} (c : ClusterIx) (mn : Mn) (l : LoopIx) (hold : Fin 16) (type : Fin 4) (s : State) (hq : iq.off foot_execInjStart = true) : itOut iq (execInjStart c mn l hold type s) s := by
  delta foot_execInjStart at hq
  simp only [off_spots, off_cons_cons, off_nil, List.all_cons, List.all_nil, Bool.and_true, Bool.and_eq_true] at hq
  unfold execInjStart
  refine it_regCmd _ _ (by simp [hq]) fun t => ?_
  simp [hq]

def foot_execInjStop : List Spot := spots [foot_fin, foot_regCmd, foot_endInj] []

theorem it_execInjStop {iq : Item} (c : ClusterIx) (s : State) (hq : iq.off foot_execInjStop = true) : itOut iq (execInjStop c s) s := by
  delta foot_execInjStop at hq
  simp only [off_spots, off_cons_cons, off_nil, List.all_cons, List.all_nil, Bool.and_true, Bool.and_eq_true] at hq
  unfold execInjStop
  refine it_regCmd _ _ (by simp [hq]) fun t => ?_
  simp [hq]

def foot_armCap : List Spot := spots [foot_modCap, foot_capInj] [.f .CIRQ_CAP_STAT_ARMED, .f .CIRQ_CAP_STAT_TRIGGERED, .f .CIRQ_CAP_STAT_DONE,
  .f .CIRQ_CAP_STAT_BUF, .f .CIRQ_CAP_STAT_ERR, .f .CIRQ_CAP_STAT_COUNT]

@[simp] theorem it_armCap {iq : Item} (s : State) (c n b : Nat) (owner : Option (Nat × Nat)) (hq : iq.off foot_armCap = true) : itm iq (State.armCap s c n b owner) = itm iq s := by
  delta foot_armCap at hq
  simp only [off_spots, off_cons_cons, off_nil, List.all_cons, List.all_nil, Bool.and_true, Bool.and_eq_true] at hq
  simp [hq, State.armCap]

def foot_execCapArm : List Spot := spots [foot_fin, foot_regCmd, foot_armCap] [.f .CIRQ_CAP_CTRL_MN, .f .CIRQ_CAP_CTRL_DEC, .f .CIRQ_CAP_CTRL_TRIG,
  .f .CIRQ_CAP_STAT_ERR, .f .CIRQ_CAP_STAT_BUF]

theorem it_execCapArm {iq : Item} (c : ClusterIx) (mn : Mn) (dec : Fin 16) (trig : Fin 4) (s : State) (hq : iq.off foot_execCapArm = true) : itOut iq (execCapArm c mn dec trig s) s := by
  delta foot_execCapArm at hq
  simp only [off_spots, off_cons_cons, off_nil, List.all_cons, List.all_nil, Bool.and_true, Bool.and_eq_true] at hq
  unfold execCapArm
  refine it_regCmd _ _ (by simp [hq]) fun t => ?_
  (try dsimp only)
  (repeat' split) <;> simp [hq]

def foot_execCapStop : List Spot := spots [foot_fin, foot_regCmd, foot_endCap] []

theorem it_execCapStop {iq : Item} (c : ClusterIx) (s : State) (hq : iq.off foot_execCapStop = true) : itOut iq (execCapStop c s) s := by
  delta foot_execCapStop at hq
  simp only [off_spots, off_cons_cons, off_nil, List.all_cons, List.all_nil, Bool.and_true, Bool.and_eq_true] at hq
  unfold execCapStop
  refine it_regCmd _ _ (by simp [hq]) fun t => ?_
  simp [hq]

def foot_execPullInAttemptTimeout : List Spot := spots [foot_fin, foot_failAttempt] []

theorem it_execPullInAttemptTimeout {iq : Item} (mn : Mn) (s : State) (hq : iq.off foot_execPullInAttemptTimeout = true) : itOut iq (execPullInAttemptTimeout mn s) s := by
  delta foot_execPullInAttemptTimeout at hq
  simp only [off_spots, off_cons_cons, off_nil, List.all_cons, List.all_nil, Bool.and_true, Bool.and_eq_true] at hq
  simp [hq, execPullInAttemptTimeout]

def foot_execLayerStepTimeout : List Spot := spots [foot_fin, foot_openLoops, foot_startPullIn] []

theorem it_execLayerStepTimeout {iq : Item} (mn : Mn) (s : State) (hq : iq.off foot_execLayerStepTimeout = true) : itOut iq (execLayerStepTimeout mn s) s := by
  delta foot_execLayerStepTimeout at hq
  simp only [off_spots, off_cons_cons, off_nil, List.all_cons, List.all_nil, Bool.and_true, Bool.and_eq_true] at hq
  simp [hq, execLayerStepTimeout]

def foot_execTrackOnTimeout : List Spot := spots [foot_fin, foot_fault] []

theorem it_execTrackOnTimeout {iq : Item} (mn : Mn) (s : State) (hq : iq.off foot_execTrackOnTimeout = true) : itOut iq (execTrackOnTimeout mn s) s := by
  delta foot_execTrackOnTimeout at hq
  simp only [off_spots, off_cons_cons, off_nil, List.all_cons, List.all_nil, Bool.and_true, Bool.and_eq_true] at hq
  simp [hq, execTrackOnTimeout]

def foot_startLayerJump : List Spot := spots [foot_modServo, foot_stopSled, foot_openLoops, foot_driveLoop, foot_releaseLane, foot_chg, foot_enterState,
  foot_beginMove, foot_abandonRuns, foot_modSeq, foot_takeSeq, foot_writeInhibit] []

@[simp] theorem it_startLayerJump {iq : Item} (sr : State) (n layer : Nat) (hq : iq.off foot_startLayerJump = true) : itm iq (State.startLayerJump sr n layer) = itm iq sr := by
  delta foot_startLayerJump at hq
  simp only [off_spots, off_cons_cons, off_nil, List.all_cons, List.all_nil, Bool.and_true, Bool.and_eq_true] at hq
  simp [hq, State.startLayerJump]

def foot_execLayerJump : List Spot := spots [foot_fin, foot_startLayerJump] []

theorem it_execLayerJump {iq : Item} (mn : Mn) (layer : Fin 10) (s : State) (hq : iq.off foot_execLayerJump = true) : itOut iq (execLayerJump mn layer s) s := by
  delta foot_execLayerJump at hq
  simp only [off_spots, off_cons_cons, off_nil, List.all_cons, List.all_nil, Bool.and_true, Bool.and_eq_true] at hq
  simp [hq, execLayerJump]

def foot_execTrackJump : List Spot := spots [foot_fin, foot_takeSeq, foot_startTrackJump] []

theorem it_execTrackJump {iq : Item} (mn : Mn) (tracks : Int) (s : State) (hq : iq.off foot_execTrackJump = true) : itOut iq (execTrackJump mn tracks s) s := by
  delta foot_execTrackJump at hq
  simp only [off_spots, off_cons_cons, off_nil, List.all_cons, List.all_nil, Bool.and_true, Bool.and_eq_true] at hq
  simp [hq, execTrackJump]

def foot_seekRound : List Spot := spots [foot_openLoops, foot_driveLoop, foot_headLeaves, foot_fault, foot_modSeq, foot_modProf, foot_modSled,
  foot_writeInhibit] []

@[simp] theorem it_seekRound {iq : Item} (s : State) (n : Nat) (m : Int) (hq : iq.off foot_seekRound = true) : itm iq (State.seekRound s n m) = itm iq s := by
  delta foot_seekRound at hq
  simp only [off_spots, off_cons_cons, off_nil, List.all_cons, List.all_nil, Bool.and_true, Bool.and_eq_true] at hq
  simp [hq, State.seekRound]

def foot_startSeek : List Spot := spots [foot_returnGrant, foot_cutCmd, foot_modSeq, foot_reachTracking, foot_seekRound] []

@[simp] theorem it_startSeek {iq : Item} (s : State) (n : Nat) (m : Int) (hq : iq.off foot_startSeek = true) : itm iq (State.startSeek s n m) = itm iq s := by
  delta foot_startSeek at hq
  simp only [off_spots, off_cons_cons, off_nil, List.all_cons, List.all_nil, Bool.and_true, Bool.and_eq_true] at hq
  simp only [State.startSeek]
  (repeat' split) <;> simp [hq]

def foot_execLongSeek : List Spot := spots [foot_fin, foot_modSeq, foot_takeSeq, foot_startSeek] []

theorem it_execLongSeek {iq : Item} (mn : Mn) (tracks : Int) (cmd : Option (FnIx × Nat)) (s : State) (hq : iq.off foot_execLongSeek = true) : itOut iq (execLongSeek mn tracks cmd s) s := by
  delta foot_execLongSeek at hq
  simp only [off_spots, off_cons_cons, off_nil, List.all_cons, List.all_nil, Bool.and_true, Bool.and_eq_true] at hq
  simp only [execLongSeek]
  (repeat' split) <;> simp [hq]

def foot_placeSled : List Spot := spots [foot_modSled] [.f .MECH_SLED_POS_POS, .f .MECH_SLED_STAT_POS_VALID]

@[simp] theorem it_placeSled {iq : Item} (s : State) (n r : Nat) (hq : iq.off foot_placeSled = true) : itm iq (State.placeSled s n r) = itm iq s := by
  delta foot_placeSled at hq
  simp only [off_spots, off_cons_cons, off_nil, List.all_cons, List.all_nil, Bool.and_true, Bool.and_eq_true] at hq
  simp [hq, State.placeSled]

def foot_correctAngle : List Spot := spots [foot_logEntry] [.f .CIRQ_ANGLE_THETA]

@[simp] theorem it_correctAngle {iq : Item} (s : State) (n theta : Nat) (hq : iq.off foot_correctAngle = true) : itm iq (State.correctAngle s n theta) = itm iq s := by
  delta foot_correctAngle at hq
  simp only [off_spots, off_cons_cons, off_nil, List.all_cons, List.all_nil, Bool.and_true, Bool.and_eq_true] at hq
  simp [hq, State.correctAngle]

def foot_checkDirection : List Spot := spots [foot_modServo, foot_fault] []

@[simp] theorem it_checkDirection {iq : Item} (s : State) (n place : Nat) (a : DiscAddr) (hq : iq.off foot_checkDirection = true) : itm iq (State.checkDirection s n place a) = itm iq s := by
  delta foot_checkDirection at hq
  simp only [off_spots, off_cons_cons, off_nil, List.all_cons, List.all_nil, Bool.and_true, Bool.and_eq_true] at hq
  simp only [State.checkDirection]
  (repeat' split) <;> simp [hq]

def foot_addressMet : List Spot := spots [foot_modSeq, foot_reachTracking] []

@[simp] theorem it_addressMet {iq : Item} (s : State) (n : Nat) (hq : iq.off foot_addressMet = true) : itm iq (State.addressMet s n) = itm iq s := by
  delta foot_addressMet at hq
  simp only [off_spots, off_cons_cons, off_nil, List.all_cons, List.all_nil, Bool.and_true, Bool.and_eq_true] at hq
  simp [hq, State.addressMet]

def foot_nextRound : List Spot := spots [foot_request, foot_startSeek, foot_addressMet] []

@[simp] theorem it_nextRound {iq : Item} (s : State) (n : Nat) (d : Int) (hq : iq.off foot_nextRound = true) : itm iq (State.nextRound s n d) = itm iq s := by
  delta foot_nextRound at hq
  simp only [off_spots, off_cons_cons, off_nil, List.all_cons, List.all_nil, Bool.and_true, Bool.and_eq_true] at hq
  unfold State.nextRound
  dsimp only
  split
  · simp [hq]
  · split
    · simp [hq]
    · split <;> (rename_i h; have k := it_fst h (it_request (iq := iq) _ _ (by simp [hq])); simp [hq, k])

def foot_checkAddress : List Spot := spots [foot_retryTrackOn, foot_startTrackJump, foot_addressMet, foot_nextRound] []

@[simp] theorem it_checkAddress {iq : Item} (s : State) (n : Nat) (a : DiscAddr) (residual : Option Int) (hq : iq.off foot_checkAddress = true) : itm iq (State.checkAddress s n a residual) = itm iq s := by
  delta foot_checkAddress at hq
  simp only [off_spots, off_cons_cons, off_nil, List.all_cons, List.all_nil, Bool.and_true, Bool.and_eq_true] at hq
  simp only [State.checkAddress]
  (repeat' split) <;> simp [hq]

def foot_execAddressRead : List Spot := spots [foot_fin, foot_placeSled, foot_correctAngle, foot_checkDirection, foot_checkAddress] []

theorem it_execAddressRead {iq : Item} (mn : Mn) (b : BeamIx) (a : DiscAddr) (theta : Option Word) (residual : Option Int) (s : State) (hq : iq.off foot_execAddressRead = true) : itOut iq (execAddressRead mn b a theta residual s) s := by
  delta foot_execAddressRead at hq
  simp only [off_spots, off_cons_cons, off_nil, List.all_cons, List.all_nil, Bool.and_true, Bool.and_eq_true] at hq
  simp only [execAddressRead]
  (repeat' split) <;> simp [hq]

def foot_alignFailed : List Spot := spots [foot_modProfiles, foot_modProf, foot_startLearning, foot_startTrackOn] [.f .MECH_DISC_PROFILE_VALID]

@[simp] theorem it_alignFailed {iq : Item} (s : State) (n : Nat) (hq : iq.off foot_alignFailed = true) : itm iq (State.alignFailed s n) = itm iq s := by
  delta foot_alignFailed at hq
  simp only [off_spots, off_cons_cons, off_nil, List.all_cons, List.all_nil, Bool.and_true, Bool.and_eq_true] at hq
  simp [hq, State.alignFailed]

def foot_aligned : List Spot := spots [foot_modProfiles, foot_modSeq, foot_modProf, foot_loadProfile] [.f .CIRQ_ANGLE_THETA]

@[simp] theorem it_aligned {iq : Item} (s : State) (n shift : Nat) (hq : iq.off foot_aligned = true) : itm iq (State.aligned s n shift) = itm iq s := by
  delta foot_aligned at hq
  simp only [off_spots, off_cons_cons, off_nil, List.all_cons, List.all_nil, Bool.and_true, Bool.and_eq_true] at hq
  simp [hq, State.aligned]

def foot_execProfileAlign : List Spot := spots [foot_fin, foot_alignFailed, foot_aligned] []

theorem it_execProfileAlign {iq : Item} (mn : Mn) (s : State) (hq : iq.off foot_execProfileAlign = true) : itOut iq (execProfileAlign mn s) s := by
  delta foot_execProfileAlign at hq
  simp only [off_spots, off_cons_cons, off_nil, List.all_cons, List.all_nil, Bool.and_true, Bool.and_eq_true] at hq
  simp only [execProfileAlign]
  (repeat' split) <;> simp [hq]

def foot_binMean : List Spot := [.p .free]

@[simp] theorem it_binMean {iq : Item} (s : State) (sum : Int) (k : Nat) (hq : iq.off foot_binMean = true) : itm iq (State.binMean s sum k).1 = itm iq s := by
  delta foot_binMean at hq
  simp only [State.binMean]
  (repeat' split) <;> simp [hq]

def foot_learned : List Spot := spots [foot_binMean] []

@[simp] theorem it_learned {iq : Item} (s : State) (bins : Tab (Int × Int × Nat)) (l : List Nat) (hq : iq.off foot_learned = true) : itm iq (s.learned bins l).1 = itm iq s := by
  delta foot_learned at hq
  simp only [off_spots, off_cons_cons, off_nil, List.all_cons, List.all_nil, Bool.and_true, Bool.and_eq_true] at hq
  induction l generalizing s with
  | nil => rfl
  | cons i l ih => unfold State.learned; dsimp only; rw [ih]; simp [hq]

def foot_execProfileLearnDone : List Spot := spots [foot_fin, foot_modProf, foot_aligned, foot_learned] [.f .MECH_DISC_PROFILE_VALID, .p .free,
  .p .profiles]

theorem it_execProfileLearnDone {iq : Item} (mn : Mn) (s : State) (hq : iq.off foot_execProfileLearnDone = true) : itOut iq (execProfileLearnDone mn s) s := by
  delta foot_execProfileLearnDone at hq
  simp only [off_spots, off_cons_cons, off_nil, List.all_cons, List.all_nil, Bool.and_true, Bool.and_eq_true] at hq
  unfold execProfileLearnDone
  dsimp only
  split
  · simp [hq]
  rw [it_fin _ _ (by simp [hq])]
  simp [hq]

end Sys2Proof.Laws
end

