-- ==== Sys2Proof/Laws/FootDrives.lean ====
section
/-! SUPPORT. What the operations of Machine/Drives.lean may write, and that they leave everything else as it was. -/

namespace Sys2Proof.Laws

open Sys2Proof.Machine

def foot_execSpinStart : List Spot := spots [foot_fin, foot_modServo, foot_modSpin, foot_startSequence] [.f .MECH_SPIN_STAT_TRIES]

theorem it_execSpinStart {iq : Item} (mn : Mn) (s : State) (hq : iq.off foot_execSpinStart = true) : itOut iq (execSpinStart mn s) s := by
  delta foot_execSpinStart at hq
  simp only [off_spots, off_cons_cons, off_nil, List.all_cons, List.all_nil, Bool.and_true, Bool.and_eq_true] at hq
  simp [hq, execSpinStart]

def foot_zeroAngle : List Spot := spots [foot_modSpin, foot_setLs] []

@[simp] theorem it_zeroAngle {iq : Item} (s : State) (n : Nat) (hq : iq.off foot_zeroAngle = true) : itm iq (State.zeroAngle s n) = itm iq s := by
  delta foot_zeroAngle at hq
  simp only [off_spots, off_cons_cons, off_nil, List.all_cons, List.all_nil, Bool.and_true, Bool.and_eq_true] at hq
  simp [hq, State.zeroAngle]

def foot_startFromRest : List Spot := spots [foot_modMech, foot_enterSpin, foot_zeroAngle] [.f .MECH_START_CNT_ALIGNS]

@[simp] theorem it_startFromRest {iq : Item} (s : State) (n : Nat) (skip : Bool) (hq : iq.off foot_startFromRest = true) : itm iq (State.startFromRest s n skip) = itm iq s := by
  delta foot_startFromRest at hq
  simp only [off_spots, off_cons_cons, off_nil, List.all_cons, List.all_nil, Bool.and_true, Bool.and_eq_true] at hq
  simp [hq, State.startFromRest]

def foot_execSenseDone : List Spot := spots [foot_modMech, foot_fin, foot_modSpin, foot_setLs, foot_enterSpin, foot_startFromRest] [.f .MECH_SPIN_STAT_REVERSE,
  .f .MECH_STATE_TURNING, .f .MECH_START_CNT_CATCHES]

theorem it_execSenseDone {iq : Item} (mn : Mn) (s : State) (hq : iq.off foot_execSenseDone = true) : itOut iq (execSenseDone mn s) s := by
  delta foot_execSenseDone at hq
  simp only [off_spots, off_cons_cons, off_nil, List.all_cons, List.all_nil, Bool.and_true, Bool.and_eq_true] at hq
  simp [hq, execSenseDone]

def foot_execReverseShortDone : List Spot := spots [foot_fin, foot_modSpin, foot_enterSpin] []

theorem it_execReverseShortDone {iq : Item} (mn : Mn) (s : State) (hq : iq.off foot_execReverseShortDone = true) : itOut iq (execReverseShortDone mn s) s := by
  delta foot_execReverseShortDone at hq
  simp only [off_spots, off_cons_cons, off_nil, List.all_cons, List.all_nil, Bool.and_true, Bool.and_eq_true] at hq
  simp [hq, execReverseShortDone]

def foot_execCoastWaitDone : List Spot := spots [foot_fin, foot_modSpin, foot_startFromRest] [.f .MECH_STATE_TURNING]

theorem it_execCoastWaitDone {iq : Item} (mn : Mn) (s : State) (hq : iq.off foot_execCoastWaitDone = true) : itOut iq (execCoastWaitDone mn s) s := by
  delta foot_execCoastWaitDone at hq
  simp only [off_spots, off_cons_cons, off_nil, List.all_cons, List.all_nil, Bool.and_true, Bool.and_eq_true] at hq
  simp [hq, execCoastWaitDone]

def foot_execCatchDone : List Spot := spots [foot_fin, foot_modSpin, foot_spinClosed] []

theorem it_execCatchDone {iq : Item} (mn : Mn) (s : State) (hq : iq.off foot_execCatchDone = true) : itOut iq (execCatchDone mn s) s := by
  delta foot_execCatchDone at hq
  simp only [off_spots, off_cons_cons, off_nil, List.all_cons, List.all_nil, Bool.and_true, Bool.and_eq_true] at hq
  simp [hq, execCatchDone]

def foot_execRestDone : List Spot := spots [foot_fin, foot_enterSpin, foot_zeroAngle] []

theorem it_execRestDone {iq : Item} (mn : Mn) (s : State) (hq : iq.off foot_execRestDone = true) : itOut iq (execRestDone mn s) s := by
  delta foot_execRestDone at hq
  simp only [off_spots, off_cons_cons, off_nil, List.all_cons, List.all_nil, Bool.and_true, Bool.and_eq_true] at hq
  simp [hq, execRestDone]

def foot_execAlignDone : List Spot := spots [foot_fin, foot_modSpin, foot_enterSpin] []

theorem it_execAlignDone {iq : Item} (mn : Mn) (s : State) (hq : iq.off foot_execAlignDone = true) : itOut iq (execAlignDone mn s) s := by
  delta foot_execAlignDone at hq
  simp only [off_spots, off_cons_cons, off_nil, List.all_cons, List.all_nil, Bool.and_true, Bool.and_eq_true] at hq
  simp [hq, execAlignDone]

def foot_execObserverHandover : List Spot := spots [foot_fin, foot_modSpin] []

theorem it_execObserverHandover {iq : Item} (mn : Mn) (s : State) (hq : iq.off foot_execObserverHandover = true) : itOut iq (execObserverHandover mn s) s := by
  delta foot_execObserverHandover at hq
  simp only [off_spots, off_cons_cons, off_nil, List.all_cons, List.all_nil, Bool.and_true, Bool.and_eq_true] at hq
  simp [hq, execObserverHandover]

def foot_execObserverTimeout : List Spot := spots [foot_fin, foot_spinFailed] []

theorem it_execObserverTimeout {iq : Item} (mn : Mn) (s : State) (hq : iq.off foot_execObserverTimeout = true) : itOut iq (execObserverTimeout mn s) s := by
  delta foot_execObserverTimeout at hq
  simp only [off_spots, off_cons_cons, off_nil, List.all_cons, List.all_nil, Bool.and_true, Bool.and_eq_true] at hq
  simp [hq, execObserverTimeout]

def foot_execSpinupTimeout : List Spot := spots [foot_fin, foot_fault] []

theorem it_execSpinupTimeout {iq : Item} (mn : Mn) (s : State) (hq : iq.off foot_execSpinupTimeout = true) : itOut iq (execSpinupTimeout mn s) s := by
  delta foot_execSpinupTimeout at hq
  simp only [off_spots, off_cons_cons, off_nil, List.all_cons, List.all_nil, Bool.and_true, Bool.and_eq_true] at hq
  simp [hq, execSpinupTimeout]

def foot_execSpeedReached : List Spot := spots [foot_modBreath, foot_fin, foot_returnGrant, foot_modSpin, foot_startPullIn] []

theorem it_execSpeedReached {iq : Item} (mn : Mn) (s : State) (hq : iq.off foot_execSpeedReached = true) : itOut iq (execSpeedReached mn s) s := by
  delta foot_execSpeedReached at hq
  simp only [off_spots, off_cons_cons, off_nil, List.all_cons, List.all_nil, Bool.and_true, Bool.and_eq_true] at hq
  simp [hq, execSpeedReached]

def foot_execSpeedPlan : List Spot := spots [foot_fin, foot_modServo, foot_modSpin, foot_noteBacklog] [.f .MECH_SPEED_TARGET]

theorem it_execSpeedPlan {iq : Item} (mn : Mn) (s : State) (hq : iq.off foot_execSpeedPlan = true) : itOut iq (execSpeedPlan mn s) s := by
  delta foot_execSpeedPlan at hq
  simp only [off_spots, off_cons_cons, off_nil, List.all_cons, List.all_nil, Bool.and_true, Bool.and_eq_true] at hq
  simp [hq, execSpeedPlan]

def foot_execTargetDwell : List Spot := spots [foot_fin, foot_request, foot_modSpin] [.f .MECH_SPEED_TARGET]

theorem it_execTargetDwell {iq : Item} (mn : Mn) (s : State) (hq : iq.off foot_execTargetDwell = true) : itOut iq (execTargetDwell mn s) s := by
  delta foot_execTargetDwell at hq
  simp only [off_spots, off_cons_cons, off_nil, List.all_cons, List.all_nil, Bool.and_true, Bool.and_eq_true] at hq
  simp [hq, execTargetDwell]

def foot_execIdleSpinDown : List Spot := spots [foot_fin, foot_startSpinDown] []

theorem it_execIdleSpinDown {iq : Item} (mn : Mn) (s : State) (hq : iq.off foot_execIdleSpinDown = true) : itOut iq (execIdleSpinDown mn s) s := by
  delta foot_execIdleSpinDown at hq
  simp only [off_spots, off_cons_cons, off_nil, List.all_cons, List.all_nil, Bool.and_true, Bool.and_eq_true] at hq
  simp [hq, execIdleSpinDown]

def foot_execSlotReclaim : List Spot := spots [foot_fin, foot_startSpinDown] []

theorem it_execSlotReclaim {iq : Item} (mn : Mn) (s : State) (hq : iq.off foot_execSlotReclaim = true) : itOut iq (execSlotReclaim mn s) s := by
  delta foot_execSlotReclaim at hq
  simp only [off_spots, off_cons_cons, off_nil, List.all_cons, List.all_nil, Bool.and_true, Bool.and_eq_true] at hq
  simp only [execSlotReclaim]
  (repeat' split) <;> simp [hq]

def foot_execSpinDown : List Spot := spots [foot_fin, foot_startPark] []

theorem it_execSpinDown {iq : Item} (mn : Mn) (s : State) (hq : iq.off foot_execSpinDown = true) : itOut iq (execSpinDown mn s) s := by
  delta foot_execSpinDown at hq
  simp only [off_spots, off_cons_cons, off_nil, List.all_cons, List.all_nil, Bool.and_true, Bool.and_eq_true] at hq
  simp [hq, execSpinDown]

def foot_execShortBrakeDone : List Spot := spots [foot_fin, foot_endSpinDown] [.f .MECH_SPIN_STAT_SPIN_STATE, .f .MECH_STATE_TURNING]

theorem it_execShortBrakeDone {iq : Item} (mn : Mn) (s : State) (hq : iq.off foot_execShortBrakeDone = true) : itOut iq (execShortBrakeDone mn s) s := by
  delta foot_execShortBrakeDone at hq
  simp only [off_spots, off_cons_cons, off_nil, List.all_cons, List.all_nil, Bool.and_true, Bool.and_eq_true] at hq
  simp [hq, execShortBrakeDone]

def foot_execCoastDownElapsed : List Spot := spots [foot_fin] [.f .MECH_STATE_TURNING]

theorem it_execCoastDownElapsed {iq : Item} (mn : Mn) (s : State) (hq : iq.off foot_execCoastDownElapsed = true) : itOut iq (execCoastDownElapsed mn s) s := by
  delta foot_execCoastDownElapsed at hq
  simp only [off_spots, off_cons_cons, off_nil, List.all_cons, List.all_nil, Bool.and_true, Bool.and_eq_true] at hq
  simp [hq, execCoastDownElapsed]

def foot_execSledHoldCurrent : List Spot := spots [foot_fin] [.f .MECH_SLED_STAT_HOLDING]

theorem it_execSledHoldCurrent {iq : Item} (mn : Mn) (s : State) (hq : iq.off foot_execSledHoldCurrent = true) : itOut iq (execSledHoldCurrent mn s) s := by
  delta foot_execSledHoldCurrent at hq
  simp only [off_spots, off_cons_cons, off_nil, List.all_cons, List.all_nil, Bool.and_true, Bool.and_eq_true] at hq
  simp [hq, execSledHoldCurrent]

def foot_putSledStage : List Spot := [.r .MECH_SLED_TBL_STAGE]

@[simp] theorem it_putSledStage {iq : Item} (s : State) (t : List Nat) (hq : iq.off foot_putSledStage = true) : itm iq (State.putSledStage s t) = itm iq s := by
  delta foot_putSledStage at hq
  simp [hq, State.putSledStage]

def foot_sledDone : List Spot := [.f .MECH_SLED_TBL_CTRL_TABLE, .f .MECH_SLED_TBL_CTRL_ERR]

@[simp] theorem it_sledDone {iq : Item} (s : State) (t : Nat) (hq : iq.off foot_sledDone = true) : itm iq (State.sledDone s t) = itm iq s := by
  delta foot_sledDone at hq
  simp only [off_spots, off_cons_cons, off_nil, List.all_cons, List.all_nil, Bool.and_true, Bool.and_eq_true] at hq
  simp [hq, State.sledDone]

def foot_execSledTblStageToTable : List Spot := spots [foot_fin, foot_regCmd, foot_modCirq, foot_modSled, foot_sledDone] []

theorem it_execSledTblStageToTable {iq : Item} (cls : Fin 8) (s : State) (hq : iq.off foot_execSledTblStageToTable = true) : itOut iq (execSledTblStageToTable cls s) s := by
  delta foot_execSledTblStageToTable at hq
  simp only [off_spots, off_cons_cons, off_nil, List.all_cons, List.all_nil, Bool.and_true, Bool.and_eq_true] at hq
  unfold execSledTblStageToTable
  refine it_regCmd _ _ (by simp [hq]) fun t => ?_
  simp [hq]

def foot_execSledTblTableToStage : List Spot := spots [foot_fin, foot_regCmd, foot_putSledStage, foot_sledDone] []

theorem it_execSledTblTableToStage {iq : Item} (cls : Fin 8) (s : State) (hq : iq.off foot_execSledTblTableToStage = true) : itOut iq (execSledTblTableToStage cls s) s := by
  delta foot_execSledTblTableToStage at hq
  simp only [off_spots, off_cons_cons, off_nil, List.all_cons, List.all_nil, Bool.and_true, Bool.and_eq_true] at hq
  unfold execSledTblTableToStage
  refine it_regCmd _ _ (by simp [hq]) fun t => ?_
  simp [hq]

def foot_execSledTblDefaultToStage : List Spot := spots [foot_fin, foot_regCmd, foot_putSledStage, foot_sledDone] []

theorem it_execSledTblDefaultToStage {iq : Item} (cls : Fin 8) (s : State) (hq : iq.off foot_execSledTblDefaultToStage = true) : itOut iq (execSledTblDefaultToStage cls s) s := by
  delta foot_execSledTblDefaultToStage at hq
  simp only [off_spots, off_cons_cons, off_nil, List.all_cons, List.all_nil, Bool.and_true, Bool.and_eq_true] at hq
  unfold execSledTblDefaultToStage
  refine it_regCmd _ _ (by simp [hq]) fun t => ?_
  simp [hq]

def foot_execTrayMoveStart : List Spot := spots [foot_modMech, foot_fin, foot_trayReads] []

theorem it_execTrayMoveStart {iq : Item} (mn : Mn) (s : State) (hq : iq.off foot_execTrayMoveStart = true) : itOut iq (execTrayMoveStart mn s) s := by
  delta foot_execTrayMoveStart at hq
  simp only [off_spots, off_cons_cons, off_nil, List.all_cons, List.all_nil, Bool.and_true, Bool.and_eq_true] at hq
  simp [hq, execTrayMoveStart]

def foot_execTraySwitchReached : List Spot := spots [foot_modMech, foot_fin, foot_endMove, foot_clearDisc, foot_stopTray, foot_askTray, foot_completeState] [.f .MECH_CLAMP_CNT_CLAMPS]

theorem it_execTraySwitchReached {iq : Item} (mn : Mn) (s : State) (hq : iq.off foot_execTraySwitchReached = true) : itOut iq (execTraySwitchReached mn s) s := by
  delta foot_execTraySwitchReached at hq
  simp only [off_spots, off_cons_cons, off_nil, List.all_cons, List.all_nil, Bool.and_true, Bool.and_eq_true] at hq
  simp only [execTraySwitchReached]
  (repeat' split) <;> simp [hq]

def foot_execTrayTimeout : List Spot := spots [foot_fin, foot_fault] []

theorem it_execTrayTimeout {iq : Item} (mn : Mn) (s : State) (hq : iq.off foot_execTrayTimeout = true) : itOut iq (execTrayTimeout mn s) s := by
  delta foot_execTrayTimeout at hq
  simp only [off_spots, off_cons_cons, off_nil, List.all_cons, List.all_nil, Bool.and_true, Bool.and_eq_true] at hq
  simp [hq, execTrayTimeout]

def foot_execServoPositionGrant : List Spot := spots [foot_fin, foot_servePositions] []

theorem it_execServoPositionGrant {iq : Item} (p : PortIx) (s : State) (hq : iq.off foot_execServoPositionGrant = true) : itOut iq (execServoPositionGrant p s) s := by
  delta foot_execServoPositionGrant at hq
  simp only [off_spots, off_cons_cons, off_nil, List.all_cons, List.all_nil, Bool.and_true, Bool.and_eq_true] at hq
  simp [hq, execServoPositionGrant]

def foot_execForceSafe : List Spot := spots [foot_fin, foot_regCmd, foot_fault] []

theorem it_execForceSafe {iq : Item} (mn : Mn) (s : State) (hq : iq.off foot_execForceSafe = true) : itOut iq (execForceSafe mn s) s := by
  delta foot_execForceSafe at hq
  simp only [off_spots, off_cons_cons, off_nil, List.all_cons, List.all_nil, Bool.and_true, Bool.and_eq_true] at hq
  unfold execForceSafe
  refine it_regCmd _ _ (by simp [hq]) fun t => ?_
  simp [hq]

def foot_clearFault : List Spot := spots [foot_endMove, foot_loadLimits] []

@[simp] theorem it_clearFault {iq : Item} (s : State) (n : Nat) (hq : iq.off foot_clearFault = true) : itm iq (State.clearFault s n) = itm iq s := by
  delta foot_clearFault at hq
  simp only [off_spots, off_cons_cons, off_nil, List.all_cons, List.all_nil, Bool.and_true, Bool.and_eq_true] at hq
  simp [hq, State.clearFault]

def foot_execClrFault : List Spot := spots [foot_fin, foot_regCmd, foot_clearFault] []

theorem it_execClrFault {iq : Item} (mn : Mn) (s : State) (hq : iq.off foot_execClrFault = true) : itOut iq (execClrFault mn s) s := by
  delta foot_execClrFault at hq
  simp only [off_spots, off_cons_cons, off_nil, List.all_cons, List.all_nil, Bool.and_true, Bool.and_eq_true] at hq
  unfold execClrFault
  refine it_regCmd _ _ (by simp [hq]) fun t => ?_
  simp [hq]

def foot_execUnisolate : List Spot := spots [foot_fin, foot_regCmd, foot_fault, foot_attach] [.p .isol]

theorem it_execUnisolate {iq : Item} (mn : Mn) (pass clamped : Bool) (s : State) (hq : iq.off foot_execUnisolate = true) : itOut iq (execUnisolate mn pass clamped s) s := by
  delta foot_execUnisolate at hq
  simp only [off_spots, off_cons_cons, off_nil, List.all_cons, List.all_nil, Bool.and_true, Bool.and_eq_true] at hq
  unfold execUnisolate
  refine it_regCmd _ _ (by simp [hq]) fun t => ?_
  simp [hq]

end Sys2Proof.Laws
end

