-- ==== Sys2Proof/Laws/FootBreathCmds.lean ====
section
/-! SUPPORT. What the operations of Machine/BreathCmds.lean may write, and that they leave everything else as it was. -/

namespace Sys2Proof.Laws

open Sys2Proof.Machine

def foot_execBreathRequest : List Spot := spots [foot_fin, foot_request, foot_requestLink, foot_requestBist, foot_cutCmd, foot_abandonStart] []

theorem it_execBreathRequest {iq : Item} (cls : Fin 8) (who : Mn) (v : Nat) (prio : Fin 256) (cmd : Option (FnIx × Nat)) (s : State) (hq : iq.off foot_execBreathRequest = true) : itOut iq (execBreathRequest cls who v prio cmd s) s := by
  delta foot_execBreathRequest at hq
  simp only [off_spots, off_cons_cons, off_nil, List.all_cons, List.all_nil, Bool.and_true, Bool.and_eq_true] at hq
  unfold execBreathRequest
  dsimp only
  generalize (cmd.map fun c => (c.1.val, c.2)) = cm
  split
  · split <;> simp [hq]
  · simp [hq]
  all_goals first | (simp [hq]; done) | skip
  all_goals (
    split
    · simp [hq]
    · split
      · rename_i h
        have k := it_fst h (it_request (iq := iq) _ _ (by simp [hq]))
        rw [it_fin _ _ (by simp [hq])]
        (repeat' split) <;> first | exact k | simp [hq, k]
      · rename_i h
        have k := it_fst h (it_request (iq := iq) _ _ (by simp [hq]))
        simp [hq, k])

def foot_execBreathRelease : List Spot := spots [foot_modBreath, foot_fin, foot_returnGrant, foot_returnLink, foot_returnBist] []

theorem it_execBreathRelease {iq : Item} (cls : Fin 8) (who : Mn) (s : State) (hq : iq.off foot_execBreathRelease = true) : itOut iq (execBreathRelease cls who s) s := by
  delta foot_execBreathRelease at hq
  simp only [off_spots, off_cons_cons, off_nil, List.all_cons, List.all_nil, Bool.and_true, Bool.and_eq_true] at hq
  simp only [execBreathRelease]
  (repeat' split) <;> simp [hq]

def foot_execRequestAged : List Spot := spots [foot_fin, foot_reevaluate] []

theorem it_execRequestAged {iq : Item} (cls : Fin 8) (who : Mn) (s : State) (hq : iq.off foot_execRequestAged = true) : itOut iq (execRequestAged cls who s) s := by
  delta foot_execRequestAged at hq
  simp only [off_spots, off_cons_cons, off_nil, List.all_cons, List.all_nil, Bool.and_true, Bool.and_eq_true] at hq
  simp only [execRequestAged]
  (repeat' split) <;> simp [hq]

def foot_noteExcess : List Spot := spots [foot_modBreath] []

@[simp] theorem it_noteExcess {iq : Item} (s : State) (n : Nat) (hq : iq.off foot_noteExcess = true) : itm iq (State.noteExcess s n) = itm iq s := by
  delta foot_noteExcess at hq
  simp only [off_spots, off_cons_cons, off_nil, List.all_cons, List.all_nil, Bool.and_true, Bool.and_eq_true] at hq
  simp [hq, State.noteExcess]

def foot_reportPower : List Spot := spots [foot_modBreath, foot_noteExcess] []

@[simp] theorem it_reportPower {iq : Item} (s : State) (n item v : Nat) (hq : iq.off foot_reportPower = true) : itm iq (State.reportPower s n item v) = itm iq s := by
  delta foot_reportPower at hq
  simp only [off_spots, off_cons_cons, off_nil, List.all_cons, List.all_nil, Bool.and_true, Bool.and_eq_true] at hq
  simp [hq, State.reportPower]

def foot_overdrawTick : List Spot := spots [foot_modBreath, foot_reevaluate] [.f .BRTH_DOM_MEAS_MW, .f .MECH_SPIN_STAT_THROTTLE, .f .BRTH_DOM_STAT_OVERDRAW,
  .f .BRTH_EVENT_OVERDRAW, .f .BRTH_EVENT_DOM]

@[simp] theorem it_overdrawTick {iq : Item} (s : State) (d : Nat) (hq : iq.off foot_overdrawTick = true) : itm iq (State.overdrawTick s d) = itm iq s := by
  delta foot_overdrawTick at hq
  simp only [off_spots, off_cons_cons, off_nil, List.all_cons, List.all_nil, Bool.and_true, Bool.and_eq_true] at hq
  simp [hq, State.overdrawTick]

def foot_noteSpinupLong : List Spot := spots [foot_modBreath] [.f .BRTH_EVENT_SPINUP_LONG, .f .BRTH_EVENT_DOM]

@[simp] theorem it_noteSpinupLong {iq : Item} (s : State) (hq : iq.off foot_noteSpinupLong = true) : itm iq (State.noteSpinupLong s) = itm iq s := by
  delta foot_noteSpinupLong at hq
  simp only [off_spots, off_cons_cons, off_nil, List.all_cons, List.all_nil, Bool.and_true, Bool.and_eq_true] at hq
  simp [hq, State.noteSpinupLong]

def foot_execOverdrawTick : List Spot := spots [foot_modBreath, foot_fin, foot_noteExcess, foot_overdrawTick, foot_noteSpinupLong] []

theorem it_execOverdrawTick {iq : Item} (s : State) (hq : iq.off foot_execOverdrawTick = true) : itOut iq (execOverdrawTick s) s := by
  delta foot_execOverdrawTick at hq
  simp only [off_spots, off_cons_cons, off_nil, List.all_cons, List.all_nil, Bool.and_true, Bool.and_eq_true] at hq
  simp [hq, execOverdrawTick]

def foot_execOverdrawLong : List Spot := spots [foot_logEntry, foot_modBreath, foot_fin] [.f .BRTH_EVENT_OVERDRAW_LONG, .f .BRTH_EVENT_DOM]

theorem it_execOverdrawLong {iq : Item} (d : DomainIx) (s : State) (hq : iq.off foot_execOverdrawLong = true) : itOut iq (execOverdrawLong d s) s := by
  delta foot_execOverdrawLong at hq
  simp only [off_spots, off_cons_cons, off_nil, List.all_cons, List.all_nil, Bool.and_true, Bool.and_eq_true] at hq
  simp only [execOverdrawLong]
  (repeat' split) <;> simp [hq]

def foot_execMechExcess : List Spot := spots [foot_modBreath, foot_fin] [.f .BRTH_EVENT_MECH_EXCESS, .f .BRTH_EVENT_DOM, .f .BRTH_EXCESS_EXCESS_MW,
  .f .BRTH_EXCESS_MN]

theorem it_execMechExcess {iq : Item} (mn : Mn) (s : State) (hq : iq.off foot_execMechExcess = true) : itOut iq (execMechExcess mn s) s := by
  delta foot_execMechExcess at hq
  simp only [off_spots, off_cons_cons, off_nil, List.all_cons, List.all_nil, Bool.and_true, Bool.and_eq_true] at hq
  simp only [execMechExcess]
  (repeat' split) <;> simp [hq]

def foot_execBistGapExpiry : List Spot := spots [foot_fin, foot_grantBist] []

theorem it_execBistGapExpiry {iq : Item} (s : State) (hq : iq.off foot_execBistGapExpiry = true) : itOut iq (execBistGapExpiry s) s := by
  delta foot_execBistGapExpiry at hq
  simp only [off_spots, off_cons_cons, off_nil, List.all_cons, List.all_nil, Bool.and_true, Bool.and_eq_true] at hq
  simp [hq, execBistGapExpiry]

end Sys2Proof.Laws
end

