-- ==== Sys2Proof/Laws/FootPenetal.lean ====
section
/-! SUPPORT. What the operations of Machine/Penetal.lean may write, and that they leave everything else as it was. -/

namespace Sys2Proof.Laws

open Sys2Proof.Machine

def foot_dropLost : List Spot := spots [foot_modDrop, foot_toAbsent] [.r .MECH_BRIDGE, .r .PEN_DROP, .f .PEN_DROP_DSTATE]

@[simp] theorem it_dropLost {iq : Item} (s : State) (n : Nat) (hq : iq.off foot_dropLost = true) : itm iq (State.dropLost s n) = itm iq s := by
  delta foot_dropLost at hq
  simp only [off_spots, off_cons_cons, off_nil, List.all_cons, List.all_nil, Bool.and_true, Bool.and_eq_true] at hq
  simp [hq, State.dropLost]

def foot_packageDone : List Spot := spots [foot_modFw, foot_complete] [.f .DBG_UPD_STAT_BUSY, .f .DBG_UPD_STAT_DONE, .f .DBG_UPD_STAT_RESULT,
  .f .DBG_UPD_STAT_PHASE, .f .DBG_UPD_STAT_INDEX]

@[simp] theorem it_packageDone {iq : Item} (s : State) (hq : iq.off foot_packageDone = true) : itm iq (State.packageDone s) = itm iq s := by
  delta foot_packageDone at hq
  simp only [off_spots, off_cons_cons, off_nil, List.all_cons, List.all_nil, Bool.and_true, Bool.and_eq_true] at hq
  simp only [State.packageDone]
  (repeat' split) <;> simp [hq]

def foot_bfwEnd : List Spot := spots [foot_logEntry, foot_modFw, foot_packageDone] [.f .DBG_BFW_STAT_DONE, .f .DBG_BFW_STAT_FAILED, .f .DBG_UPD_STAT_PHASE,
  .f .DBG_UPD_STAT_INDEX]

@[simp] theorem it_bfwEnd {iq : Item} (s : State) (k cause version : Nat) (hq : iq.off foot_bfwEnd = true) : itm iq (State.bfwEnd s k cause version) = itm iq s := by
  delta foot_bfwEnd at hq
  simp only [off_spots, off_cons_cons, off_nil, List.all_cons, List.all_nil, Bool.and_true, Bool.and_eq_true] at hq
  simp only [State.bfwEnd]
  (repeat' split) <;> simp [hq]

def foot_bfwReturn : List Spot := spots [foot_bfwEnd] []

@[simp] theorem it_bfwReturn {iq : Item} (s : State) (k version : Nat) (hq : iq.off foot_bfwReturn = true) : itm iq (State.bfwReturn s k version) = itm iq s := by
  delta foot_bfwReturn at hq
  simp only [off_spots, off_cons_cons, off_nil, List.all_cons, List.all_nil, Bool.and_true, Bool.and_eq_true] at hq
  simp only [State.bfwReturn]
  (repeat' split) <;> simp [hq]

def foot_identify : List Spot := spots [foot_modMech, foot_modDrop, foot_endMove, foot_recordFault, foot_recordIsolation, foot_fault, foot_toAbsent,
  foot_attach, foot_bfwReturn] [.f .PEN_DROP_VER, .f .PEN_DROP_DSTATE, .f .PEN_DROP_MGMT_OK, .f .PEN_DROP_PRESENT, .f .PEN_DROP_MISS_RUN, .f .MECH_BRIDGE_BFW_VER,
  .f .MECH_BRIDGE_LINK_VER, .f .MECH_BRIDGE_GEN, .f .MECH_BRIDGE_SN_LO_SN, .f .MECH_BRIDGE_SN_HI_SN, .f .PEN_EVENT_DROP_CHG]

@[simp] theorem it_identify {iq : Item} (s : State) (p : Nat) (i : DropIdent) (hq : iq.off foot_identify = true) : itm iq (State.identify s p i) = itm iq s := by
  delta foot_identify at hq
  simp only [off_spots, off_cons_cons, off_nil, List.all_cons, List.all_nil, Bool.and_true, Bool.and_eq_true] at hq
  simp [hq, State.identify]

def foot_startTraining : List Spot := spots [foot_modPort, foot_portStep, foot_requestLink, foot_modDrop] [.f .PEN_DROP_PRESENT, .f .PEN_DROP_DSTATE,
  .f .PEN_DROP_MGMT_OK, .f .PEN_STATUS_LOCK]

@[simp] theorem it_startTraining {iq : Item} (s : State) (p : Nat) (hq : iq.off foot_startTraining = true) : itm iq (State.startTraining s p) = itm iq s := by
  delta foot_startTraining at hq
  simp only [off_spots, off_cons_cons, off_nil, List.all_cons, List.all_nil, Bool.and_true, Bool.and_eq_true] at hq
  simp [hq, State.startTraining]

def foot_failTraining : List Spot := spots [foot_logEntry, foot_portStep, foot_returnLink, foot_dropLost] [.f .PEN_STATUS_FAIL_CAUSE, .f .PEN_STATUS_LOCK,
  .f .PEN_EVENT_TRAIN_FAIL, .f .PEN_CNT_TRAIN_FAILS]

@[simp] theorem it_failTraining {iq : Item} (s : State) (p cause : Nat) (hq : iq.off foot_failTraining = true) : itm iq (State.failTraining s p cause) = itm iq s := by
  delta foot_failTraining at hq
  simp only [off_spots, off_cons_cons, off_nil, List.all_cons, List.all_nil, Bool.and_true, Bool.and_eq_true] at hq
  simp [hq, State.failTraining]

def foot_pairFault : List Spot := spots [foot_logEntry] [.f .PEN_EVENT_LANE_FAULT]

@[simp] theorem it_pairFault {iq : Item} (s : State) (p : Nat) (hq : iq.off foot_pairFault = true) : itm iq (State.pairFault s p) = itm iq s := by
  delta foot_pairFault at hq
  simp only [off_spots, off_cons_cons, off_nil, List.all_cons, List.all_nil, Bool.and_true, Bool.and_eq_true] at hq
  simp [hq, State.pairFault]

def foot_setLoop : List Spot := spots [foot_renewArrivals] [.f .PEN_TIMING_LOOP_NS, .f .PEN_TIMING_ACT_OFS]

@[simp] theorem it_setLoop {iq : Item} (s : State) (p ns : Nat) (hq : iq.off foot_setLoop = true) : itm iq (State.setLoop s p ns) = itm iq s := by
  delta foot_setLoop at hq
  simp only [off_spots, off_cons_cons, off_nil, List.all_cons, List.all_nil, Bool.and_true, Bool.and_eq_true] at hq
  simp [hq, State.setLoop]

def foot_runFrames : List Spot := spots [foot_modPort, foot_flushMgmt] [.f .PEN_STATUS_PSTATE, .f .PEN_STATUS_LOCK]

@[simp] theorem it_runFrames {iq : Item} (s : State) (p : Nat) (hq : iq.off foot_runFrames = true) : itm iq (State.runFrames s p) = itm iq s := by
  delta foot_runFrames at hq
  simp only [off_spots, off_cons_cons, off_nil, List.all_cons, List.all_nil, Bool.and_true, Bool.and_eq_true] at hq
  simp [hq, State.runFrames]

def foot_execTrainStepDone : List Spot := spots [foot_portStep, foot_fin, foot_bfwReturn, foot_identify, foot_failTraining, foot_pairFault, foot_setLoop,
  foot_runFrames] [.f .PEN_LANE_UP0, .f .PEN_LANE_UP1, .f .PEN_LANE_DN0, .f .PEN_LANE_DN1, .f .PEN_STATUS_LMODE, .f .PEN_LANE_UP_POL, .f .PEN_LANE_UP_SWAP,
  .f .PEN_STATUS_LOCK, .f .PEN_TIMING_LOOP_NS, .f .PEN_LANE_DN_POL, .f .PEN_LANE_DN_SWAP, .r .PEN_FANOUT, .f .PEN_STATUS_FANOUT, .f .PEN_FANOUT_FW_VER,
  .f .PEN_FANOUT_MAX_VER, .f .PEN_FANOUT_PRESENT, .f .PEN_EVENT_TRAINED, .f .PEN_CNT_TRAIN_TRAINS, .f .PEN_STATUS_FAIL_CAUSE, .f .PEN_EVENT_LP_EXIT]

theorem it_execTrainStepDone {iq : Item} (p : PortIx) (x : TrainInfo) (s : State) (hq : iq.off foot_execTrainStepDone = true) : itOut iq (execTrainStepDone p x s) s := by
  delta foot_execTrainStepDone at hq
  simp only [off_spots, off_cons_cons, off_nil, List.all_cons, List.all_nil, Bool.and_true, Bool.and_eq_true] at hq
  unfold execTrainStepDone
  cases x <;> dsimp only <;> (repeat' split) <;> simp [hq]

def foot_execTrainStepTimeout : List Spot := spots [foot_fin, foot_failTraining] []

theorem it_execTrainStepTimeout {iq : Item} (p : PortIx) (partner : Bool) (s : State) (hq : iq.off foot_execTrainStepTimeout = true) : itOut iq (execTrainStepTimeout p partner s) s := by
  delta foot_execTrainStepTimeout at hq
  simp only [off_spots, off_cons_cons, off_nil, List.all_cons, List.all_nil, Bool.and_true, Bool.and_eq_true] at hq
  simp only [execTrainStepTimeout]
  (repeat' split) <;> simp [hq]

def foot_execTrainRetry : List Spot := spots [foot_fin, foot_startTraining] []

theorem it_execTrainRetry {iq : Item} (p : PortIx) (s : State) (hq : iq.off foot_execTrainRetry = true) : itOut iq (execTrainRetry p s) s := by
  delta foot_execTrainRetry at hq
  simp only [off_spots, off_cons_cons, off_nil, List.all_cons, List.all_nil, Bool.and_true, Bool.and_eq_true] at hq
  simp [hq, execTrainRetry]

def foot_portEnable : List Spot := spots [foot_startTraining] [.f .PEN_CFG_EN]

@[simp] theorem it_portEnable {iq : Item} (s : State) (p : Nat) (hq : iq.off foot_portEnable = true) : itm iq (State.portEnable s p) = itm iq s := by
  delta foot_portEnable at hq
  simp only [off_spots, off_cons_cons, off_nil, List.all_cons, List.all_nil, Bool.and_true, Bool.and_eq_true] at hq
  simp [hq, State.portEnable]

def foot_portDisable : List Spot := spots [foot_modPort, foot_portStep, foot_returnLink, foot_fault, foot_dropLost] [.f .PEN_CFG_EN, .f .PEN_STATUS_LOCK]

@[simp] theorem it_portDisable {iq : Item} (s : State) (p : Nat) (hq : iq.off foot_portDisable = true) : itm iq (State.portDisable s p) = itm iq s := by
  delta foot_portDisable at hq
  simp only [off_spots, off_cons_cons, off_nil, List.all_cons, List.all_nil, Bool.and_true, Bool.and_eq_true] at hq
  simp [hq, State.portDisable]

def foot_execPortEnable : List Spot := spots [foot_fin, foot_regCmd, foot_portEnable] []

theorem it_execPortEnable {iq : Item} (p : PortIx) (s : State) (hq : iq.off foot_execPortEnable = true) : itOut iq (execPortEnable p s) s := by
  delta foot_execPortEnable at hq
  simp only [off_spots, off_cons_cons, off_nil, List.all_cons, List.all_nil, Bool.and_true, Bool.and_eq_true] at hq
  unfold execPortEnable
  refine it_regCmd _ _ (by simp [hq]) fun t => ?_
  simp [hq]

def foot_execPortDisable : List Spot := spots [foot_fin, foot_regCmd, foot_portDisable] []

theorem it_execPortDisable {iq : Item} (p : PortIx) (s : State) (hq : iq.off foot_execPortDisable = true) : itOut iq (execPortDisable p s) s := by
  delta foot_execPortDisable at hq
  simp only [off_spots, off_cons_cons, off_nil, List.all_cons, List.all_nil, Bool.and_true, Bool.and_eq_true] at hq
  unfold execPortDisable
  refine it_regCmd _ _ (by simp [hq]) fun t => ?_
  simp [hq]

def foot_execRetrain : List Spot := spots [foot_fin, foot_regCmd, foot_startTraining] []

theorem it_execRetrain {iq : Item} (p : PortIx) (s : State) (hq : iq.off foot_execRetrain = true) : itOut iq (execRetrain p s) s := by
  delta foot_execRetrain at hq
  simp only [off_spots, off_cons_cons, off_nil, List.all_cons, List.all_nil, Bool.and_true, Bool.and_eq_true] at hq
  unfold execRetrain
  refine it_regCmd _ _ (by simp [hq]) fun t => ?_
  simp [hq]

def foot_execClrCnt : List Spot := spots [foot_fin, foot_regCmd] [.r .PEN_CNT_CRC, .r .PEN_CNT_MISS, .r .PEN_CNT_REPEAT, .r .PEN_CNT_BLK, .r .PEN_CNT_MGMT,
  .r .PEN_CNT_TRAIN]

theorem it_execClrCnt {iq : Item} (p : PortIx) (s : State) (hq : iq.off foot_execClrCnt = true) : itOut iq (execClrCnt p s) s := by
  delta foot_execClrCnt at hq
  simp only [off_spots, off_cons_cons, off_nil, List.all_cons, List.all_nil, Bool.and_true, Bool.and_eq_true] at hq
  unfold execClrCnt
  refine it_regCmd _ _ (by simp [hq]) fun t => ?_
  rw [it_fin _ _ (by simp [hq])]
  refine it_forEach_mem _ _ _ fun r hr u => it_wr _ _ _ _ _ ?_
  simp only [List.mem_cons, List.not_mem_nil, or_false] at hr
  rcases hr with h | h | h | h | h | h <;> subst h <;> simp [hq]

def foot_execTxOvercurrent : List Spot := spots [foot_modPort, foot_fin, foot_pairFault] [.f .PEN_LANE_DN0, .f .PEN_LANE_DN1, .f .PEN_EVENT_OVERCURRENT]

theorem it_execTxOvercurrent {iq : Item} (p : PortIx) (lane : Fin 2) (s : State) (hq : iq.off foot_execTxOvercurrent = true) : itOut iq (execTxOvercurrent p lane s) s := by
  delta foot_execTxOvercurrent at hq
  simp only [off_spots, off_cons_cons, off_nil, List.all_cons, List.all_nil, Bool.and_true, Bool.and_eq_true] at hq
  simp only [execTxOvercurrent]
  (repeat' split) <;> simp [hq]

def foot_execTxOvercurrentRetry : List Spot := spots [foot_modPort, foot_fin] [.f .PEN_LANE_DN0, .f .PEN_LANE_DN1]

theorem it_execTxOvercurrentRetry {iq : Item} (p : PortIx) (lane : Fin 2) (clear : Bool) (s : State) (hq : iq.off foot_execTxOvercurrentRetry = true) : itOut iq (execTxOvercurrentRetry p lane clear s) s := by
  delta foot_execTxOvercurrentRetry at hq
  simp only [off_spots, off_cons_cons, off_nil, List.all_cons, List.all_nil, Bool.and_true, Bool.and_eq_true] at hq
  simp only [execTxOvercurrentRetry]
  (repeat' split) <;> simp [hq]

def foot_announceLoss : List Spot := spots [foot_announceMode] []

@[simp] theorem it_announceLoss {iq : Item} (s : State) (p : Nat) (hq : iq.off foot_announceLoss = true) : itm iq (State.announceLoss s p) = itm iq s := by
  delta foot_announceLoss at hq
  simp only [off_spots, off_cons_cons, off_nil, List.all_cons, List.all_nil, Bool.and_true, Bool.and_eq_true] at hq
  simp [hq, State.announceLoss]

def foot_execLaneLoss : List Spot := spots [foot_modPort, foot_fin, foot_pairFault, foot_announceLoss] [.f .PEN_LANE_UP0, .f .PEN_LANE_UP1]

theorem it_execLaneLoss {iq : Item} (p : PortIx) (lane : Fin 2) (s : State) (hq : iq.off foot_execLaneLoss = true) : itOut iq (execLaneLoss p lane s) s := by
  delta foot_execLaneLoss at hq
  simp only [off_spots, off_cons_cons, off_nil, List.all_cons, List.all_nil, Bool.and_true, Bool.and_eq_true] at hq
  simp only [execLaneLoss]
  (repeat' split) <;> simp [hq]

def foot_execLaneRejoinAttempt : List Spot := spots [foot_modPort, foot_fin] []

theorem it_execLaneRejoinAttempt {iq : Item} (p : PortIx) (lock : Bool) (s : State) (hq : iq.off foot_execLaneRejoinAttempt = true) : itOut iq (execLaneRejoinAttempt p lock s) s := by
  delta foot_execLaneRejoinAttempt at hq
  simp only [off_spots, off_cons_cons, off_nil, List.all_cons, List.all_nil, Bool.and_true, Bool.and_eq_true] at hq
  simp [hq, execLaneRejoinAttempt]

def foot_execLaneRejoin : List Spot := spots [foot_modPort, foot_fin, foot_announceMode] [.f .PEN_LANE_UP0, .f .PEN_LANE_UP1]

theorem it_execLaneRejoin {iq : Item} (p : PortIx) (s : State) (hq : iq.off foot_execLaneRejoin = true) : itOut iq (execLaneRejoin p s) s := by
  delta foot_execLaneRejoin at hq
  simp only [off_spots, off_cons_cons, off_nil, List.all_cons, List.all_nil, Bool.and_true, Bool.and_eq_true] at hq
  simp only [execLaneRejoin]
  (repeat' split) <;> simp [hq]

def foot_withdrawBursts : List Spot := spots [foot_modPort] [.r .PEN_BMAP, .f .PEN_DROP_BURST]

@[simp] theorem it_withdrawBursts {iq : Item} (s : State) (p : Nat) (down : Bool) (k : Nat) (hq : iq.off foot_withdrawBursts = true) : itm iq (s.withdrawBursts p down k) = itm iq s := by
  delta foot_withdrawBursts at hq
  simp only [off_spots, off_cons_cons, off_nil, List.all_cons, List.all_nil, Bool.and_true, Bool.and_eq_true] at hq
  induction k generalizing s with
  | zero => rfl
  | succ k ih =>
    unfold State.withdrawBursts
    (repeat' split) <;> simp [hq, ih]

def foot_replaceBursts : List Spot := spots [foot_modPort] [.r .PEN_BMAP, .f .PEN_DROP_BURST]

@[simp] theorem it_replaceBursts {iq : Item} (s : State) (p : Nat) (down : Bool) (hq : iq.off foot_replaceBursts = true) : itm iq (State.replaceBursts s p down) = itm iq s := by
  delta foot_replaceBursts at hq
  simp only [off_spots, off_cons_cons, off_nil, List.all_cons, List.all_nil, Bool.and_true, Bool.and_eq_true] at hq
  unfold State.replaceBursts
  extract_lets
  refine it_forEach _ _ _ fun u e => ?_
  dsimp only
  (repeat' split) <;> simp [hq]

def foot_refitBursts : List Spot := spots [foot_serveWaits, foot_withdrawBursts, foot_replaceBursts] []

@[simp] theorem it_refitBursts {iq : Item} (s : State) (p : Nat) (hq : iq.off foot_refitBursts = true) : itm iq (State.refitBursts s p) = itm iq s := by
  delta foot_refitBursts at hq
  simp only [off_spots, off_cons_cons, off_nil, List.all_cons, List.all_nil, Bool.and_true, Bool.and_eq_true] at hq
  simp [hq, State.refitBursts]

def foot_switchMode : List Spot := spots [foot_logEntry, foot_modPort, foot_refitBursts] [.f .PEN_STATUS_LMODE, .f .PEN_STATUS_PSTATE, .f .PEN_EVENT_DEGRADED]

@[simp] theorem it_switchMode {iq : Item} (s : State) (p m : Nat) (hq : iq.off foot_switchMode = true) : itm iq (State.switchMode s p m) = itm iq s := by
  delta foot_switchMode at hq
  simp only [off_spots, off_cons_cons, off_nil, List.all_cons, List.all_nil, Bool.and_true, Bool.and_eq_true] at hq
  simp [hq, State.switchMode]

def foot_execLaneModeSwitch : List Spot := spots [foot_modPort, foot_fin, foot_announceMap, foot_setLoop, foot_announceLoss, foot_refitBursts,
  foot_switchMode] []

theorem it_execLaneModeSwitch {iq : Item} (p : PortIx) (loopNs : Nat) (s : State) (hq : iq.off foot_execLaneModeSwitch = true) : itOut iq (execLaneModeSwitch p loopNs s) s := by
  delta foot_execLaneModeSwitch at hq
  simp only [off_spots, off_cons_cons, off_nil, List.all_cons, List.all_nil, Bool.and_true, Bool.and_eq_true] at hq
  simp only [execLaneModeSwitch]
  (repeat' split) <;> simp [hq]

def foot_useMap : List Spot := spots [foot_modPort, foot_announceMap] [.r .PEN_SMAP, .r .PEN_BMAP]

@[simp] theorem it_useMap {iq : Item} (s : State) (p : Nat) (m : MapChange) (hq : iq.off foot_useMap = true) : itm iq (State.useMap s p m) = itm iq s := by
  delta foot_useMap at hq
  simp only [off_spots, off_cons_cons, off_nil, List.all_cons, List.all_nil, Bool.and_true, Bool.and_eq_true] at hq
  simp [hq, State.useMap]

def foot_takeAnnounced : List Spot := spots [foot_switchMode, foot_useMap] []

@[simp] theorem it_takeAnnounced {iq : Item} (s : State) (p : Nat) (hq : iq.off foot_takeAnnounced = true) : itm iq (State.takeAnnounced s p) = itm iq s := by
  delta foot_takeAnnounced at hq
  simp only [off_spots, off_cons_cons, off_nil, List.all_cons, List.all_nil, Bool.and_true, Bool.and_eq_true] at hq
  simp only [State.takeAnnounced]
  (repeat' split) <;> simp [hq]

def foot_takeRate : List Spot := spots [foot_modPort] []

@[simp] theorem it_takeRate {iq : Item} (s : State) (p : Nat) (hq : iq.off foot_takeRate = true) : itm iq (State.takeRate s p) = itm iq s := by
  delta foot_takeRate at hq
  simp only [off_spots, off_cons_cons, off_nil, List.all_cons, List.all_nil, Bool.and_true, Bool.and_eq_true] at hq
  simp [hq, State.takeRate]

def foot_execUpstreamHeader : List Spot := spots [foot_modPort, foot_fin, foot_announceMode] [.f .PEN_CNT_BLK_COUNT, .f .PEN_STATUS_LOCK, .f .PEN_EVENT_DROP_CHG,
  .f .PEN_EVENT_SEQ_ERR]

theorem it_execUpstreamHeader {iq : Item} (p : PortIx) (h : UpHeader) (s : State) (hq : iq.off foot_execUpstreamHeader = true) : itOut iq (execUpstreamHeader p h s) s := by
  delta foot_execUpstreamHeader at hq
  simp only [off_spots, off_cons_cons, off_nil, List.all_cons, List.all_nil, Bool.and_true, Bool.and_eq_true] at hq
  simp [hq, execUpstreamHeader]

def foot_execMapEpochChange : List Spot := spots [foot_fin, foot_useMap] []

theorem it_execMapEpochChange {iq : Item} (p : PortIx) (s : State) (hq : iq.off foot_execMapEpochChange = true) : itOut iq (execMapEpochChange p s) s := by
  delta foot_execMapEpochChange at hq
  simp only [off_spots, off_cons_cons, off_nil, List.all_cons, List.all_nil, Bool.and_true, Bool.and_eq_true] at hq
  simp only [execMapEpochChange]
  (repeat' split) <;> simp [hq]

def foot_telemetry : List Spot := spots [foot_logEntry, foot_modDrop, foot_reportPower] [.f .MECH_BTEMP_TEMP]

@[simp] theorem it_telemetry {iq : Item} (s : State) (n idx v : Nat) (hq : iq.off foot_telemetry = true) : itm iq (State.telemetry s n idx v) = itm iq s := by
  delta foot_telemetry at hq
  simp only [off_spots, off_cons_cons, off_nil, List.all_cons, List.all_nil, Bool.and_true, Bool.and_eq_true] at hq
  simp [hq, State.telemetry]

def foot_bridgeStatus : List Spot := spots [foot_modMech, foot_modDrop, foot_trayReads] [.f .MECH_CLAMP_CNT_CLAMPS]

@[simp] theorem it_bridgeStatus {iq : Item} (s : State) (n : Nat) (trayIn trayOut clamped disc lsup safe : Bool) (hq : iq.off foot_bridgeStatus = true) : itm iq (State.bridgeStatus s n trayIn trayOut clamped disc lsup safe) = itm iq s := by
  delta foot_bridgeStatus at hq
  simp only [off_spots, off_cons_cons, off_nil, List.all_cons, List.all_nil, Bool.and_true, Bool.and_eq_true] at hq
  simp [hq, State.bridgeStatus]

def foot_lsupCheck : List Spot := spots [foot_logEntry, foot_modMech] [.f .SAFE_LSUP_LAST_ZONE, .f .SAFE_LSUP_LAST_MN, .f .SAFE_EVENT_LSUP_MISMATCH]

@[simp] theorem it_lsupCheck {iq : Item} (s : State) (n : Nat) (lsup : Bool) (hq : iq.off foot_lsupCheck = true) : itm iq (State.lsupCheck s n lsup) = itm iq s := by
  delta foot_lsupCheck at hq
  simp only [off_spots, off_cons_cons, off_nil, List.all_cons, List.all_nil, Bool.and_true, Bool.and_eq_true] at hq
  simp [hq, State.lsupCheck]

def foot_bridgeReport : List Spot := spots [foot_modDrop, foot_bridgeFault] []

@[simp] theorem it_bridgeReport {iq : Item} (s : State) (n code detail : Nat) (hq : iq.off foot_bridgeReport = true) : itm iq (State.bridgeReport s n code detail) = itm iq s := by
  delta foot_bridgeReport at hq
  simp only [off_spots, off_cons_cons, off_nil, List.all_cons, List.all_nil, Bool.and_true, Bool.and_eq_true] at hq
  simp [hq, State.bridgeReport]

def foot_restActuator : List Spot := spots [foot_sendAct] []

@[simp] theorem it_restActuator {iq : Item} (s : State) (n : Nat) (hq : iq.off foot_restActuator = true) : itm iq (State.restActuator s n) = itm iq s := by
  delta foot_restActuator at hq
  simp only [off_spots, off_cons_cons, off_nil, List.all_cons, List.all_nil, Bool.and_true, Bool.and_eq_true] at hq
  simp [hq, State.restActuator]

def foot_execServoSlotReceived : List Spot := spots [foot_fin, foot_modDrop, foot_modServo, foot_missSlot, foot_telemetry, foot_bridgeStatus,
  foot_lsupCheck, foot_bridgeReport, foot_restActuator] [.f .PEN_CNT_CRC_COUNT, .f .PEN_EVENT_LATE, .f .PEN_EVENT_SEQ_ERR, .f .PEN_DROP_MISS_RUN]

theorem it_execServoSlotReceived {iq : Item} (p : PortIx) (k : Fin 16) (x : UpSlot) (onTime : Bool) (s : State) (hq : iq.off foot_execServoSlotReceived = true) : itOut iq (execServoSlotReceived p k x onTime s) s := by
  delta foot_execServoSlotReceived at hq
  simp only [off_spots, off_cons_cons, off_nil, List.all_cons, List.all_nil, Bool.and_true, Bool.and_eq_true] at hq
  simp only [execServoSlotReceived]
  (repeat' split) <;> simp [hq]

def foot_freeField : List Spot := [.p .free]

theorem it_freeField {iq : Item} (a : State × List Int) (i : Nat) (hq : iq.off foot_freeField = true) : itm iq (State.freeField a i).1 = itm iq a.1 := by
  delta foot_freeField at hq
  simp [State.freeField, hq]

theorem it_freeFields {iq : Item} (l : List Nat) (a : State × List Int) (hq : iq.off foot_freeField = true) : itm iq (l.foldl State.freeField a).1 = itm iq a.1 := by
  induction l generalizing a with
  | nil => rfl
  | cons i l ih => rw [List.foldl_cons, ih, it_freeField _ _ hq]

def foot_execServoSlotMissing : List Spot := spots [foot_fin, foot_modDrop, foot_missSlot, foot_freeField] []

theorem it_execServoSlotMissing {iq : Item} (p : PortIx) (k : Fin 16) (s : State) (hq : iq.off foot_execServoSlotMissing = true) : itOut iq (execServoSlotMissing p k s) s := by
  delta foot_execServoSlotMissing at hq
  simp only [off_spots, off_cons_cons, off_nil, List.all_cons, List.all_nil, Bool.and_true, Bool.and_eq_true] at hq
  unfold execServoSlotMissing
  split
  · simp [hq]
  · rename_i n _
    extract_lets f v
    rw [it_fin _ _ (by simp [hq]), it_missSlot (hq := by simp [hq])]
    simp only [f]
    rw [it_freeFields _ _ (by simp [hq]), it_modDrop (hq := by simp [hq])]

def foot_execActuatorRepeat : List Spot := spots [foot_fin, foot_sendAct] [.f .PEN_CNT_REPEAT_COUNT]

theorem it_execActuatorRepeat {iq : Item} (mn : Mn) (s : State) (hq : iq.off foot_execActuatorRepeat = true) : itOut iq (execActuatorRepeat mn s) s := by
  delta foot_execActuatorRepeat at hq
  simp only [off_spots, off_cons_cons, off_nil, List.all_cons, List.all_nil, Bool.and_true, Bool.and_eq_true] at hq
  simp [hq, execActuatorRepeat]

def foot_execLockTimeout : List Spot := spots [foot_fin, foot_startTraining] []

theorem it_execLockTimeout {iq : Item} (p : PortIx) (s : State) (hq : iq.off foot_execLockTimeout = true) : itOut iq (execLockTimeout p s) s := by
  delta foot_execLockTimeout at hq
  simp only [off_spots, off_cons_cons, off_nil, List.all_cons, List.all_nil, Bool.and_true, Bool.and_eq_true] at hq
  simp [hq, execLockTimeout]

def foot_execDropTimeout : List Spot := spots [foot_fin, foot_modDrop, foot_sendMgmt, foot_startTraining] [.f .PEN_DROP_PRESENT, .f .PEN_DROP_DSTATE,
  .f .PEN_DROP_MGMT_OK, .f .PEN_EVENT_DROP_CHG]

theorem it_execDropTimeout {iq : Item} (mn : Mn) (s : State) (hq : iq.off foot_execDropTimeout = true) : itOut iq (execDropTimeout mn s) s := by
  delta foot_execDropTimeout at hq
  simp only [off_spots, off_cons_cons, off_nil, List.all_cons, List.all_nil, Bool.and_true, Bool.and_eq_true] at hq
  simp [hq, execDropTimeout]

def foot_execDropNotFound : List Spot := spots [foot_fin, foot_dropLost] [.f .PEN_EVENT_DROP_CHG]

theorem it_execDropNotFound {iq : Item} (mn : Mn) (s : State) (hq : iq.off foot_execDropNotFound = true) : itOut iq (execDropNotFound mn s) s := by
  delta foot_execDropNotFound at hq
  simp only [off_spots, off_cons_cons, off_nil, List.all_cons, List.all_nil, Bool.and_true, Bool.and_eq_true] at hq
  simp [hq, execDropNotFound]

def foot_restartChannel : List Spot := spots [foot_emit, foot_logEntry, foot_modDrop, foot_emitMgmt] [.f .PEN_EVENT_MGMT_ERR]

@[simp] theorem it_restartChannel {iq : Item} (s : State) (p a cause : Nat) (hq : iq.off foot_restartChannel = true) : itm iq (State.restartChannel s p a cause) = itm iq s := by
  delta foot_restartChannel at hq
  simp only [off_spots, off_cons_cons, off_nil, List.all_cons, List.all_nil, Bool.and_true, Bool.and_eq_true] at hq
  simp [hq, State.restartChannel]

def foot_takeMgmt : List Spot := spots [foot_sendMgmt, foot_fault, foot_bridgeFault, foot_identify, foot_telemetry, foot_bridgeStatus, foot_bridgeReport,
  foot_restartChannel] [.f .PEN_EVENT_MGMT_ERR, .f .PEN_CNT_MGMT_COUNT]

@[simp] theorem it_takeMgmt {iq : Item} (s : State) (p a : Nat) (b : MgmtBody) (hq : iq.off foot_takeMgmt = true) : itm iq (State.takeMgmt s p a b) = itm iq s := by
  delta foot_takeMgmt at hq
  simp only [off_spots, off_cons_cons, off_nil, List.all_cons, List.all_nil, Bool.and_true, Bool.and_eq_true] at hq
  simp only [State.takeMgmt]
  (repeat' split) <;> simp [hq]

def foot_ackMgmt : List Spot := spots [foot_emit] []

@[simp] theorem it_ackMgmt {iq : Item} (s : State) (p a : Nat) (hq : iq.off foot_ackMgmt = true) : itm iq (State.ackMgmt s p a) = itm iq s := by
  delta foot_ackMgmt at hq
  simp only [off_spots, off_cons_cons, off_nil, List.all_cons, List.all_nil, Bool.and_true, Bool.and_eq_true] at hq
  simp [hq, State.ackMgmt]

def foot_execMgmtMessage : List Spot := spots [foot_modPort, foot_fin, foot_modDrop, foot_flushMgmt, foot_restartChannel, foot_takeMgmt, foot_ackMgmt] [.f .PEN_CNT_MGMT_COUNT,
  .f .PEN_EVENT_MGMT_ERR]

theorem it_execMgmtMessage {iq : Item} (p : PortIx) (a : Fin 65) (mseq mack : Fin 4096) (good : Bool) (b : MgmtBody) (s : State) (hq : iq.off foot_execMgmtMessage = true) : itOut iq (execMgmtMessage p a mseq mack good b s) s := by
  delta foot_execMgmtMessage at hq
  simp only [off_spots, off_cons_cons, off_nil, List.all_cons, List.all_nil, Bool.and_true, Bool.and_eq_true] at hq
  simp [hq, execMgmtMessage]

def foot_execMgmtResend : List Spot := spots [foot_fin, foot_modDrop, foot_emitMgmt, foot_restartChannel] [.f .PEN_CNT_MGMT_COUNT]

theorem it_execMgmtResend {iq : Item} (p : PortIx) (a : Fin 65) (s : State) (hq : iq.off foot_execMgmtResend = true) : itOut iq (execMgmtResend p a s) s := by
  delta foot_execMgmtResend at hq
  simp only [off_spots, off_cons_cons, off_nil, List.all_cons, List.all_nil, Bool.and_true, Bool.and_eq_true] at hq
  simp only [execMgmtResend]
  (repeat' split) <;> simp [hq]

def foot_enterLowPower : List Spot := spots [foot_portStep, foot_returnLink, foot_modDrop] [.f .PEN_STATUS_LOCK, .f .PEN_EVENT_LP_ENTER]

@[simp] theorem it_enterLowPower {iq : Item} (s : State) (p : Nat) (hq : iq.off foot_enterLowPower = true) : itm iq (State.enterLowPower s p) = itm iq s := by
  delta foot_enterLowPower at hq
  simp only [off_spots, off_cons_cons, off_nil, List.all_cons, List.all_nil, Bool.and_true, Bool.and_eq_true] at hq
  simp [hq, State.enterLowPower]

def foot_execLowpowerEntry : List Spot := spots [foot_fin, foot_enterLowPower] []

theorem it_execLowpowerEntry {iq : Item} (p : PortIx) (s : State) (hq : iq.off foot_execLowpowerEntry = true) : itOut iq (execLowpowerEntry p s) s := by
  delta foot_execLowpowerEntry at hq
  simp only [off_spots, off_cons_cons, off_nil, List.all_cons, List.all_nil, Bool.and_true, Bool.and_eq_true] at hq
  simp [hq, execLowpowerEntry]

def foot_execSleep : List Spot := spots [foot_fin, foot_regCmd, foot_enterLowPower] []

theorem it_execSleep {iq : Item} (p : PortIx) (s : State) (hq : iq.off foot_execSleep = true) : itOut iq (execSleep p s) s := by
  delta foot_execSleep at hq
  simp only [off_spots, off_cons_cons, off_nil, List.all_cons, List.all_nil, Bool.and_true, Bool.and_eq_true] at hq
  unfold execSleep
  refine it_regCmd _ _ (by simp [hq]) fun t => ?_
  simp [hq]

def foot_execPortWake : List Spot := spots [foot_fin, foot_regCmd, foot_wakePort] []

theorem it_execPortWake {iq : Item} (p : PortIx) (s : State) (hq : iq.off foot_execPortWake = true) : itOut iq (execPortWake p s) s := by
  delta foot_execPortWake at hq
  simp only [off_spots, off_cons_cons, off_nil, List.all_cons, List.all_nil, Bool.and_true, Bool.and_eq_true] at hq
  unfold execPortWake
  refine it_regCmd _ _ (by simp [hq]) fun t => ?_
  simp [hq]

def foot_execPortWakeTimeout : List Spot := spots [foot_fin, foot_startTraining] []

theorem it_execPortWakeTimeout {iq : Item} (p : PortIx) (s : State) (hq : iq.off foot_execPortWakeTimeout = true) : itOut iq (execPortWakeTimeout p s) s := by
  delta foot_execPortWakeTimeout at hq
  simp only [off_spots, off_cons_cons, off_nil, List.all_cons, List.all_nil, Bool.and_true, Bool.and_eq_true] at hq
  simp [hq, execPortWakeTimeout]

end Sys2Proof.Laws
end

