-- ==== Sys2Proof/Laws/FootChannel.lean ====
section
/-! SUPPORT. What the operations of Machine/Channel.lean may write, and that they leave everything else as it was. -/

namespace Sys2Proof.Laws

open Sys2Proof.Machine

def foot_setTap : List Spot := [.r .FIRN_TAP]

@[simp] theorem it_setTap {iq : Item} (s : State) (f t : Nat) (v : Int) (hq : iq.off foot_setTap = true) : itm iq (State.setTap s f t v) = itm iq s := by
  delta foot_setTap at hq
  simp [hq, State.setTap]

end Sys2Proof.Laws
end

