-- ==== Sys2Proof/Laws/FootLanes.lean ====
section
/-! SUPPORT. What the operations of Machine/Lanes.lean may write, and that they leave everything else as it was. -/

namespace Sys2Proof.Laws

open Sys2Proof.Machine

def foot_execLaneBind : List Spot := spots [foot_fin, foot_askLane] []

theorem it_execLaneBind {iq : Item} (mn : Mn) (own : Bool) (s : State) (hq : iq.off foot_execLaneBind = true) : itOut iq (execLaneBind mn own s) s := by
  delta foot_execLaneBind at hq
  simp only [off_spots, off_cons_cons, off_nil, List.all_cons, List.all_nil, Bool.and_true, Bool.and_eq_true] at hq
  simp [hq, execLaneBind]

def foot_execLaneIdleRelease : List Spot := spots [foot_fin, foot_backToTracking] []

theorem it_execLaneIdleRelease {iq : Item} (mn : Mn) (s : State) (hq : iq.off foot_execLaneIdleRelease = true) : itOut iq (execLaneIdleRelease mn s) s := by
  delta foot_execLaneIdleRelease at hq
  simp only [off_spots, off_cons_cons, off_nil, List.all_cons, List.all_nil, Bool.and_true, Bool.and_eq_true] at hq
  simp [hq, execLaneIdleRelease]

def foot_stopRun : List Spot := spots [foot_modLane] []

@[simp] theorem it_stopRun {iq : Item} (s : State) (f : Nat) (hq : iq.off foot_stopRun = true) : itm iq (State.stopRun s f) = itm iq s := by
  delta foot_stopRun at hq
  simp only [off_spots, off_cons_cons, off_nil, List.all_cons, List.all_nil, Bool.and_true, Bool.and_eq_true] at hq
  simp only [State.stopRun]
  (repeat' split) <;> simp [hq]

def foot_laneStat : List Spot := [.f .FIRN_LANE_STAT_FROM, .f .FIRN_LANE_STAT_RESULT]

@[simp] theorem it_laneStat {iq : Item} (s : State) (lane res : Nat) (hq : iq.off foot_laneStat = true) : itm iq (State.laneStat s lane res) = itm iq s := by
  delta foot_laneStat at hq
  simp only [off_spots, off_cons_cons, off_nil, List.all_cons, List.all_nil, Bool.and_true, Bool.and_eq_true] at hq
  simp [hq, State.laneStat]

def foot_startMigration : List Spot := spots [foot_modLane, foot_startBeams, foot_loadTaps] [.f .FIRN_STATUS_LSTATE, .f .FIRN_STATUS_VALID, .f .FIRN_STATUS_MN,
  .f .FIRN_STATUS_BD]

@[simp] theorem it_startMigration {iq : Item} (s : State) (f g after : Nat) (hq : iq.off foot_startMigration = true) : itm iq (State.startMigration s f g after) = itm iq s := by
  delta foot_startMigration at hq
  simp only [off_spots, off_cons_cons, off_nil, List.all_cons, List.all_nil, Bool.and_true, Bool.and_eq_true] at hq
  simp [hq, State.startMigration]

def foot_execLaneMigrate : List Spot := spots [foot_fin, foot_regCmd, foot_laneStat, foot_startMigration] [.f .FIRN_LANE_STAT_TO, .f .FIRN_LANE_STAT_BUSY]

theorem it_execLaneMigrate {iq : Item} (lane : Fin 512) (s : State) (hq : iq.off foot_execLaneMigrate = true) : itOut iq (execLaneMigrate lane s) s := by
  delta foot_execLaneMigrate at hq
  simp only [off_spots, off_cons_cons, off_nil, List.all_cons, List.all_nil, Bool.and_true, Bool.and_eq_true] at hq
  unfold execLaneMigrate
  refine it_regCmd _ _ (by simp [hq]) fun t => ?_
  (try dsimp only)
  (repeat' split) <;> simp [hq]

def foot_laneCmdDone : List Spot := [.f .FIRN_LANE_STAT_BUSY, .f .FIRN_LANE_STAT_RESULT]

@[simp] theorem it_laneCmdDone {iq : Item} (s : State) (f res : Nat) (hq : iq.off foot_laneCmdDone = true) : itm iq (State.laneCmdDone s f res) = itm iq s := by
  delta foot_laneCmdDone at hq
  simp only [off_spots, off_cons_cons, off_nil, List.all_cons, List.all_nil, Bool.and_true, Bool.and_eq_true] at hq
  simp [hq, State.laneCmdDone]

def foot_testLane : List Spot := spots [foot_requestTest, foot_modLane] [.f .FIRN_STATUS_LSTATE]

@[simp] theorem it_testLane {iq : Item} (s : State) (f op : Nat) (hq : iq.off foot_testLane = true) : itm iq (State.testLane s f op) = itm iq s := by
  delta foot_testLane at hq
  simp only [off_spots, off_cons_cons, off_nil, List.all_cons, List.all_nil, Bool.and_true, Bool.and_eq_true] at hq
  simp [hq, State.testLane]

def foot_leftLane : List Spot := spots [foot_freeLaneRegs, foot_testLane] [.f .FIRN_STATUS_LSTATE]

@[simp] theorem it_leftLane {iq : Item} (s : State) (f : Nat) (hq : iq.off foot_leftLane = true) : itm iq (State.leftLane s f) = itm iq s := by
  delta foot_leftLane at hq
  simp only [off_spots, off_cons_cons, off_nil, List.all_cons, List.all_nil, Bool.and_true, Bool.and_eq_true] at hq
  simp [hq, State.leftLane]

def foot_switchMigration : List Spot := spots [foot_modLane, foot_storeTaps, foot_laneCmdDone, foot_leftLane] [.f .FIRN_STATUS_LSTATE, .f .FIRN_STATUS_WRITE,
  .f .FIRN_BEAM_TSTATE, .f .MECH_SERVO_LANE, .f .FIRN_EVENT_MIGRATED, .f .FIRN_CNT_MIGRATIONS]

@[simp] theorem it_switchMigration {iq : Item} (s : State) (f g : Nat) (store : Bool) (hq : iq.off foot_switchMigration = true) : itm iq (State.switchMigration s f g store) = itm iq s := by
  delta foot_switchMigration at hq
  simp only [off_spots, off_cons_cons, off_nil, List.all_cons, List.all_nil, Bool.and_true, Bool.and_eq_true] at hq
  simp [hq, State.switchMigration]

def foot_execMigrationSwitch : List Spot := spots [foot_fin, foot_switchMigration] []

theorem it_execMigrationSwitch {iq : Item} (f : LaneIx) (s : State) (hq : iq.off foot_execMigrationSwitch = true) : itOut iq (execMigrationSwitch f s) s := by
  delta foot_execMigrationSwitch at hq
  simp only [off_spots, off_cons_cons, off_nil, List.all_cons, List.all_nil, Bool.and_true, Bool.and_eq_true] at hq
  simp only [execMigrationSwitch]
  (repeat' split) <;> simp [hq]

def foot_modRead : List Spot := spots [foot_modChan] []

@[simp] theorem it_modRead {iq : Item} (s : State) (n layer cluster : Nat) (f : ClusterRead → ClusterRead) (hq : iq.off foot_modRead = true) : itm iq (State.modRead s n layer cluster f) = itm iq s := by
  delta foot_modRead at hq
  simp only [off_spots, off_cons_cons, off_nil, List.all_cons, List.all_nil, Bool.and_true, Bool.and_eq_true] at hq
  simp [hq, State.modRead]

def foot_verdict : List Spot := spots [foot_modRead] []

@[simp] theorem it_verdict {iq : Item} (s : State) (n layer cluster frame : Nat) (v : SectorX) (hq : iq.off foot_verdict = true) : itm iq (State.verdict s n layer cluster frame v) = itm iq s := by
  delta foot_verdict at hq
  simp only [off_spots, off_cons_cons, off_nil, List.all_cons, List.all_nil, Bool.and_true, Bool.and_eq_true] at hq
  simp [hq, State.verdict]

def foot_dropTarget : List Spot := spots [foot_modLane, foot_dropAssembling, foot_laneCmdDone] [.f .FIRN_STATUS_LSTATE]

@[simp] theorem it_dropTarget {iq : Item} (s : State) (f g : Nat) (hq : iq.off foot_dropTarget = true) : itm iq (State.dropTarget s f g) = itm iq s := by
  delta foot_dropTarget at hq
  simp only [off_spots, off_cons_cons, off_nil, List.all_cons, List.all_nil, Bool.and_true, Bool.and_eq_true] at hq
  simp [hq, State.dropTarget]

def foot_dropBegun : List Spot := spots [foot_dropAssembling, foot_verdict] []

@[simp] theorem it_dropBegun {iq : Item} (s : State) (f : Nat) (hq : iq.off foot_dropBegun = true) : itm iq (State.dropBegun s f) = itm iq s := by
  delta foot_dropBegun at hq
  simp only [off_spots, off_cons_cons, off_nil, List.all_cons, List.all_nil, Bool.and_true, Bool.and_eq_true] at hq
  simp [hq, State.dropBegun]

def foot_rebindAfterFault : List Spot := spots [foot_modChan, foot_bindLane, foot_freeLaneRegs, foot_endWrite, foot_enterState, foot_dropBegun] [.f .MECH_SERVO_LANE_VALID,
  .f .MECH_SERVO_LANE]

@[simp] theorem it_rebindAfterFault {iq : Item} (s : State) (f n : Nat) (hq : iq.off foot_rebindAfterFault = true) : itm iq (State.rebindAfterFault s f n).1 = itm iq s := by
  delta foot_rebindAfterFault at hq
  simp only [off_spots, off_cons_cons, off_nil, List.all_cons, List.all_nil, Bool.and_true, Bool.and_eq_true] at hq
  simp only [State.rebindAfterFault]
  (repeat' split) <;> simp [hq]

def foot_laneFault : List Spot := spots [foot_logEntry, foot_modLane, foot_startBeams, foot_freeLaneRegs, foot_endWrite, foot_testLane, foot_switchMigration,
  foot_dropTarget, foot_dropBegun, foot_rebindAfterFault] [.f .FIRN_EVENT_FAULT, .f .FIRN_CNT_FAULTS]

@[simp] theorem it_laneFault {iq : Item} (s : State) (f detail : Nat) (hq : iq.off foot_laneFault = true) : itm iq (State.laneFault s f detail) = itm iq s := by
  delta foot_laneFault at hq
  simp only [off_spots, off_cons_cons, off_nil, List.all_cons, List.all_nil, Bool.and_true, Bool.and_eq_true] at hq
  simp only [State.laneFault]
  (repeat' split) <;> simp [hq]

def foot_execLaneFault : List Spot := spots [foot_fin, foot_laneFault] []

theorem it_execLaneFault {iq : Item} (f : LaneIx) (cause : Fin 3) (s : State) (hq : iq.off foot_execLaneFault = true) : itOut iq (execLaneFault f cause s) s := by
  delta foot_execLaneFault at hq
  simp only [off_spots, off_cons_cons, off_nil, List.all_cons, List.all_nil, Bool.and_true, Bool.and_eq_true] at hq
  simp [hq, execLaneFault]

def foot_execLaneTest : List Spot := spots [foot_fin, foot_regCmd, foot_laneStat, foot_testLane] [.f .FIRN_LANE_STAT_BUSY]

theorem it_execLaneTest {iq : Item} (lane : Fin 512) (s : State) (hq : iq.off foot_execLaneTest = true) : itOut iq (execLaneTest lane s) s := by
  delta foot_execLaneTest at hq
  simp only [off_spots, off_cons_cons, off_nil, List.all_cons, List.all_nil, Bool.and_true, Bool.and_eq_true] at hq
  unfold execLaneTest
  refine it_regCmd _ _ (by simp [hq]) fun t => ?_
  simp [hq]

def foot_execLaneRetest : List Spot := spots [foot_fin, foot_regCmd, foot_laneStat, foot_testLane] [.f .FIRN_LANE_STAT_BUSY]

theorem it_execLaneRetest {iq : Item} (lane : Fin 512) (s : State) (hq : iq.off foot_execLaneRetest = true) : itOut iq (execLaneRetest lane s) s := by
  delta foot_execLaneRetest at hq
  simp only [off_spots, off_cons_cons, off_nil, List.all_cons, List.all_nil, Bool.and_true, Bool.and_eq_true] at hq
  unfold execLaneRetest
  refine it_regCmd _ _ (by simp [hq]) fun t => ?_
  simp [hq]

def foot_laneTestEnd : List Spot := spots [foot_logEntry, foot_loadProgram, foot_returnBist, foot_modLane, foot_laneCmdDone] [.f .FIRN_STATUS_LAST_TEST,
  .f .FIRN_EVENT_TEST_PASS, .f .FIRN_EVENT_TEST_FAIL, .f .FIRN_PROG_VERSION, .f .FIRN_STATUS_LSTATE, .f .FIRN_EVENT_OOS]

@[simp] theorem it_laneTestEnd {iq : Item} (s : State) (f : Nat) (pass : Bool) (hq : iq.off foot_laneTestEnd = true) : itm iq (State.laneTestEnd s f pass) = itm iq s := by
  delta foot_laneTestEnd at hq
  simp only [off_spots, off_cons_cons, off_nil, List.all_cons, List.all_nil, Bool.and_true, Bool.and_eq_true] at hq
  simp only [State.laneTestEnd]
  (repeat' split) <;> simp [hq]

def foot_execLaneTestDone : List Spot := spots [foot_fin, foot_laneTestEnd] []

theorem it_execLaneTestDone {iq : Item} (f : LaneIx) (pass : Bool) (s : State) (hq : iq.off foot_execLaneTestDone = true) : itOut iq (execLaneTestDone f pass s) s := by
  delta foot_execLaneTestDone at hq
  simp only [off_spots, off_cons_cons, off_nil, List.all_cons, List.all_nil, Bool.and_true, Bool.and_eq_true] at hq
  simp [hq, execLaneTestDone]

def foot_adapt : List Spot := spots [foot_setTap] [.f .FIRN_RD_CFG_MU]

@[simp] theorem it_adapt {iq : Item} (s : State) (f b : Nat) (eps : Int) (back : Nat) (hq : iq.off foot_adapt = true) : itm iq (State.adapt s f b eps back) = itm iq s := by
  delta foot_adapt at hq
  simp only [off_spots, off_cons_cons, off_nil, List.all_cons, List.all_nil, Bool.and_true, Bool.and_eq_true] at hq
  unfold State.adapt
  dsimp only
  refine it_forEach _ _ _ fun t a => it_forEach _ _ _ fun u j => ?_
  split <;> simp [hq]

def foot_eraseFrame : List Spot := spots [foot_verdict] [.f .FIRN_CNT_ERASED_COUNT, .f .FIRN_EVENT_ERASED]

@[simp] theorem it_eraseFrame {iq : Item} (s : State) (f layer cluster frame : Nat) (hq : iq.off foot_eraseFrame = true) : itm iq (State.eraseFrame s f layer cluster frame) = itm iq s := by
  delta foot_eraseFrame at hq
  simp only [off_spots, off_cons_cons, off_nil, List.all_cons, List.all_nil, Bool.and_true, Bool.and_eq_true] at hq
  simp [hq, State.eraseFrame]

def foot_eraseSearch : List Spot := spots [foot_enterSearch, foot_eraseFrame] [.f .FIRN_CNT_ERASED_COUNT, .f .FIRN_EVENT_ERASED]

@[simp] theorem it_eraseSearch {iq : Item} (s : State) (f b : Nat) (hq : iq.off foot_eraseSearch = true) : itm iq (State.eraseSearch s f b) = itm iq s := by
  delta foot_eraseSearch at hq
  simp only [off_spots, off_cons_cons, off_nil, List.all_cons, List.all_nil, Bool.and_true, Bool.and_eq_true] at hq
  simp only [State.eraseSearch]
  (repeat' split) <;> simp [hq]

def foot_startCodeword : List Spot := spots [foot_modChan, foot_modBeam, foot_verdict] [.f .MOR_CNT_OVERFLOW_COUNT, .f .MOR_EVENT_OVERFLOW]

@[simp] theorem it_startCodeword {iq : Item} (s1 : State) (f b layer cluster frame : Nat) (fromSm2 : Bool) (hq : iq.off foot_startCodeword = true) : itm iq (State.startCodeword s1 f b layer cluster frame fromSm2) = itm iq s1 := by
  delta foot_startCodeword at hq
  simp only [off_spots, off_cons_cons, off_nil, List.all_cons, List.all_nil, Bool.and_true, Bool.and_eq_true] at hq
  simp [hq, State.startCodeword]

def foot_takeFrame : List Spot := spots [foot_modLane, foot_modBeam, foot_startCodeword] [.f .FIRN_CNT_FRAME_COUNT, .f .FIRN_CNT_FALLBACK_COUNT,
  .f .FIRN_EVENT_FALLBACK, .f .FIRN_CNT_ERASED_COUNT, .f .FIRN_EVENT_ERASED]

@[simp] theorem it_takeFrame {iq : Item} (s : State) (f b : Nat) (start : Int) (fromSm2 byMark : Bool) (hq : iq.off foot_takeFrame = true) : itm iq (State.takeFrame s f b start fromSm2 byMark) = itm iq s := by
  delta foot_takeFrame at hq
  simp only [off_spots, off_cons_cons, off_nil, List.all_cons, List.all_nil, Bool.and_true, Bool.and_eq_true] at hq
  simp only [State.takeFrame]
  (repeat' split) <;> simp [hq]

def foot_frameSync : List Spot := spots [foot_modBeam, foot_eraseSearch, foot_takeFrame] []

@[simp] theorem it_frameSync {iq : Item} (s0 : State) (f b : Nat) (hq : iq.off foot_frameSync = true) : itm iq (State.frameSync s0 f b) = itm iq s0 := by
  delta foot_frameSync at hq
  simp only [off_spots, off_cons_cons, off_nil, List.all_cons, List.all_nil, Bool.and_true, Bool.and_eq_true] at hq
  simp only [State.frameSync]
  (repeat' split) <;> simp [hq]

def foot_lastLlr : List Spot := spots [foot_modChan, foot_eraseFrame] [.f .FIRN_SYNC_CFG_ERASE_MAX, .p .time]

@[simp] theorem it_lastLlr {iq : Item} (s : State) (f b : Nat) (hq : iq.off foot_lastLlr = true) : itm iq (State.lastLlr s f b) = itm iq s := by
  delta foot_lastLlr at hq
  simp only [off_spots, off_cons_cons, off_nil, List.all_cons, List.all_nil, Bool.and_true, Bool.and_eq_true] at hq
  simp only [State.lastLlr]
  (repeat' split) <;> simp [hq]

def foot_endFrame : List Spot := spots [foot_modBeam, foot_lastLlr] [.f .FIRN_AGC_AMP]

@[simp] theorem it_endFrame {iq : Item} (s : State) (f b : Nat) (hq : iq.off foot_endFrame = true) : itm iq (State.endFrame s f b) = itm iq s := by
  delta foot_endFrame at hq
  simp only [off_spots, off_cons_cons, off_nil, List.all_cons, List.all_nil, Bool.and_true, Bool.and_eq_true] at hq
  simp [hq, State.endFrame]

def foot_regionStep : List Spot := spots [foot_modBeam, foot_enterSearch] [.f .FIRN_CNT_DEFECT_COUNT, .f .FIRN_BEAM_TSTATE, .f .FIRN_EVENT_LOCK_LOST]

@[simp] theorem it_regionStep {iq : Item} (s : State) (f b : Nat) (hole : Bool) (hq : iq.off foot_regionStep = true) : itm iq (State.regionStep s f b hole) = itm iq s := by
  delta foot_regionStep at hq
  simp only [off_spots, off_cons_cons, off_nil, List.all_cons, List.all_nil, Bool.and_true, Bool.and_eq_true] at hq
  simp [hq, State.regionStep]

def foot_timingState : List Spot := spots [foot_modBeam] [.f .FIRN_BEAM_TSTATE]

@[simp] theorem it_timingState {iq : Item} (s : State) (f b st : Nat) (hq : iq.off foot_timingState = true) : itm iq (State.timingState s f b st) = itm iq s := by
  delta foot_timingState at hq
  simp only [off_spots, off_cons_cons, off_nil, List.all_cons, List.all_nil, Bool.and_true, Bool.and_eq_true] at hq
  simp [hq, State.timingState]

def foot_preambleStep : List Spot := spots [foot_modBeam, foot_timingState] []

@[simp] theorem it_preambleStep {iq : Item} (s : State) (f b : Nat) (hq : iq.off foot_preambleStep = true) : itm iq (State.preambleStep s f b) = itm iq s := by
  delta foot_preambleStep at hq
  simp only [off_spots, off_cons_cons, off_nil, List.all_cons, List.all_nil, Bool.and_true, Bool.and_eq_true] at hq
  simp [hq, State.preambleStep]

def foot_judgeTiming : List Spot := spots [foot_enterSearch, foot_timingState] [.f .FIRN_BEAM_MSE, .f .FIRN_RD_CFG_ACQ_BITS]

@[simp] theorem it_judgeTiming {iq : Item} (s : State) (f b : Nat) (hq : iq.off foot_judgeTiming = true) : itm iq (State.judgeTiming s f b) = itm iq s := by
  delta foot_judgeTiming at hq
  simp only [off_spots, off_cons_cons, off_nil, List.all_cons, List.all_nil, Bool.and_true, Bool.and_eq_true] at hq
  simp [hq, State.judgeTiming]

def foot_updateTiming : List Spot := spots [foot_modBeam, foot_setDelta, foot_adapt, foot_judgeTiming] [.f .FIRN_RD_CFG_KP_TRK, .f .FIRN_RD_CFG_KP_ACQ,
  .f .FIRN_RD_CFG_KI_TRK, .f .FIRN_RD_CFG_KI_ACQ]

@[simp] theorem it_updateTiming {iq : Item} (s : State) (f b : Nat) (hq : iq.off foot_updateTiming = true) : itm iq (State.updateTiming s f b) = itm iq s := by
  delta foot_updateTiming at hq
  simp only [off_spots, off_cons_cons, off_nil, List.all_cons, List.all_nil, Bool.and_true, Bool.and_eq_true] at hq
  simp [hq, State.updateTiming]

def foot_decideBit : List Spot := spots [foot_modBeam, foot_updateTiming] []

@[simp] theorem it_decideBit {iq : Item} (s : State) (f b : Nat) (hq : iq.off foot_decideBit = true) : itm iq (State.decideBit s f b) = itm iq s := by
  delta foot_decideBit at hq
  simp only [off_spots, off_cons_cons, off_nil, List.all_cons, List.all_nil, Bool.and_true, Bool.and_eq_true] at hq
  simp [hq, State.decideBit]

def foot_syncStep : List Spot := spots [foot_modBeam, foot_frameSync] [.f .FIRN_SYNC_CFG_SYNC_WIN]

@[simp] theorem it_syncStep {iq : Item} (s : State) (f b : Nat) (hq : iq.off foot_syncStep = true) : itm iq (State.syncStep s f b) = itm iq s := by
  delta foot_syncStep at hq
  simp only [off_spots, off_cons_cons, off_nil, List.all_cons, List.all_nil, Bool.and_true, Bool.and_eq_true] at hq
  simp [hq, State.syncStep]

def foot_opcSegmentEnd : List Spot := spots [foot_modBeam, foot_enterSearch] []

@[simp] theorem it_opcSegmentEnd {iq : Item} (s : State) (f b : Nat) (hq : iq.off foot_opcSegmentEnd = true) : itm iq (State.opcSegmentEnd s f b) = itm iq s := by
  delta foot_opcSegmentEnd at hq
  simp only [off_spots, off_cons_cons, off_nil, List.all_cons, List.all_nil, Bool.and_true, Bool.and_eq_true] at hq
  simp [hq, State.opcSegmentEnd]

def foot_bdWindow : List Spot := spots [foot_modChan] [.f .FIRN_BD_CFG_BD_ERASE_TH]

@[simp] theorem it_bdWindow {iq : Item} (s : State) (f b : Nat) (hq : iq.off foot_bdWindow = true) : itm iq (State.bdWindow s f b) = itm iq s := by
  delta foot_bdWindow at hq
  simp only [off_spots, off_cons_cons, off_nil, List.all_cons, List.all_nil, Bool.and_true, Bool.and_eq_true] at hq
  simp [hq, State.bdWindow]

def foot_bitInstant : List Spot := spots [foot_modBeam, foot_endFrame, foot_regionStep, foot_preambleStep, foot_decideBit, foot_syncStep, foot_opcSegmentEnd,
  foot_bdWindow] []

@[simp] theorem it_bitInstant {iq : Item} (s : State) (f b : Nat) (hq : iq.off foot_bitInstant = true) : itm iq (State.bitInstant s f b) = itm iq s := by
  delta foot_bitInstant at hq
  simp only [off_spots, off_cons_cons, off_nil, List.all_cons, List.all_nil, Bool.and_true, Bool.and_eq_true] at hq
  simp [hq, State.bitInstant]

def foot_searchTone : List Spot := spots [foot_modBeam, foot_endFrame, foot_timingState] []

@[simp] theorem it_searchTone {iq : Item} (s : State) (f b : Nat) (hq : iq.off foot_searchTone = true) : itm iq (State.searchTone s f b) = itm iq s := by
  delta foot_searchTone at hq
  simp only [off_spots, off_cons_cons, off_nil, List.all_cons, List.all_nil, Bool.and_true, Bool.and_eq_true] at hq
  simp [hq, State.searchTone]

def foot_rfSample : List Spot := spots [foot_modBeam, foot_bitInstant, foot_searchTone] [.f .FIRN_AGC_GAIN]

@[simp] theorem it_rfSample {iq : Item} (s : State) (f ovld : Nat) (v : List Nat) (hq : iq.off foot_rfSample = true) : itm iq (State.rfSample s f ovld v) = itm iq s := by
  delta foot_rfSample at hq
  simp only [off_spots, off_cons_cons, off_nil, List.all_cons, List.all_nil, Bool.and_true, Bool.and_eq_true] at hq
  simp [hq, State.rfSample]

def foot_takeBurst : List Spot := spots [foot_dramTouch, foot_modLane, foot_modBeam, foot_enterSearch, foot_rfSample] [.f .FIRN_EVENT_GAIN]

@[simp] theorem it_takeBurst {iq : Item} (s : State) (f : Nat) (seq : Fin 4096) (ovld : Fin 16) (gain : Word) (words : List (BitVec 128)) (place : Option (Fin 16 × Fin 1048576 × Fin 8)) (hq : iq.off foot_takeBurst = true) : itm iq (State.takeBurst s f seq ovld gain words place) = itm iq s := by
  delta foot_takeBurst at hq
  simp only [off_spots, off_cons_cons, off_nil, List.all_cons, List.all_nil, Bool.and_true, Bool.and_eq_true] at hq
  simp [hq, State.takeBurst]

def foot_execRfBurst : List Spot := spots [foot_fin, foot_takeBurst] []

theorem it_execRfBurst {iq : Item} (f : LaneIx) (seq : Fin 4096) (ovld : Fin 16) (gain : Word) (words : List (BitVec 128)) (place : Option (Fin 16 × Fin 1048576 × Fin 8)) (s : State) (hq : iq.off foot_execRfBurst = true) : itOut iq (execRfBurst f seq ovld gain words place s) s := by
  delta foot_execRfBurst at hq
  simp only [off_spots, off_cons_cons, off_nil, List.all_cons, List.all_nil, Bool.and_true, Bool.and_eq_true] at hq
  unfold execRfBurst
  rw [it_fin _ _ (by simp [hq]), it_foldl]
  · simp [hq]
  · intro t g; simp [hq]

def foot_loadLevels : List Spot := spots [foot_sendMgmt, foot_modLane] []

@[simp] theorem it_loadLevels {iq : Item} (s : State) (f : Nat) (levels : List Nat) (hq : iq.off foot_loadLevels = true) : itm iq (State.loadLevels s f levels) = itm iq s := by
  delta foot_loadLevels at hq
  simp only [off_spots, off_cons_cons, off_nil, List.all_cons, List.all_nil, Bool.and_true, Bool.and_eq_true] at hq
  simp [hq, State.loadLevels]

def foot_execLevelBankSwitch : List Spot := spots [foot_fin, foot_modLane] []

theorem it_execLevelBankSwitch {iq : Item} (f : LaneIx) (s : State) (hq : iq.off foot_execLevelBankSwitch = true) : itOut iq (execLevelBankSwitch f s) s := by
  delta foot_execLevelBankSwitch at hq
  simp only [off_spots, off_cons_cons, off_nil, List.all_cons, List.all_nil, Bool.and_true, Bool.and_eq_true] at hq
  simp only [execLevelBankSwitch]
  (repeat' split) <;> simp [hq]

def foot_execWriteStop : List Spot := spots [foot_fin, foot_stopRun] []

theorem it_execWriteStop {iq : Item} (f : LaneIx) (s : State) (hq : iq.off foot_execWriteStop = true) : itOut iq (execWriteStop f s) s := by
  delta foot_execWriteStop at hq
  simp only [off_spots, off_cons_cons, off_nil, List.all_cons, List.all_nil, Bool.and_true, Bool.and_eq_true] at hq
  simp [hq, execWriteStop]

def foot_execWriteStopTimeout : List Spot := spots [foot_fin, foot_endWrite] []

theorem it_execWriteStopTimeout {iq : Item} (f : LaneIx) (s : State) (hq : iq.off foot_execWriteStopTimeout = true) : itOut iq (execWriteStopTimeout f s) s := by
  delta foot_execWriteStopTimeout at hq
  simp only [off_spots, off_cons_cons, off_nil, List.all_cons, List.all_nil, Bool.and_true, Bool.and_eq_true] at hq
  simp only [execWriteStopTimeout]
  (repeat' split) <;> simp [hq]

end Sys2Proof.Laws
end

