-- ==== Sys2Proof/Laws/FootMoraine.lean ====
section
/-! SUPPORT. What the operations of Machine/Moraine.lean may write, and that they leave everything else as it was. -/

namespace Sys2Proof.Laws

open Sys2Proof.Machine

def foot_modCw : List Spot := spots [foot_modChan] []

@[simp] theorem it_modCw {iq : Item} (s : State) (id : Nat) (f : Codeword → Codeword) (hq : iq.off foot_modCw = true) : itm iq (State.modCw s id f) = itm iq s := by
  delta foot_modCw at hq
  simp only [off_spots, off_cons_cons, off_nil, List.all_cons, List.all_nil, Bool.and_true, Bool.and_eq_true] at hq
  simp [hq, State.modCw]

def foot_stageCw : List Spot := spots [foot_modCw] []

@[simp] theorem it_stageCw {iq : Item} (s : State) (id : Nat) (hq : iq.off foot_stageCw = true) : itm iq (State.stageCw s id) = itm iq s := by
  delta foot_stageCw at hq
  simp only [off_spots, off_cons_cons, off_nil, List.all_cons, List.all_nil, Bool.and_true, Bool.and_eq_true] at hq
  simp [hq, State.stageCw]

def foot_execLlrMove : List Spot := spots [foot_fin, foot_stageCw] []

theorem it_execLlrMove {iq : Item} (s : State) (hq : iq.off foot_execLlrMove = true) : itOut iq (execLlrMove s) s := by
  delta foot_execLlrMove at hq
  simp only [off_spots, off_cons_cons, off_nil, List.all_cons, List.all_nil, Bool.and_true, Bool.and_eq_true] at hq
  simp only [execLlrMove]
  (repeat' split) <;> simp [hq]

def foot_execCodewordUrgent : List Spot := spots [foot_fin, foot_modCw] [.f .MOR_EVENT_PARK_FULL, .f .MOR_DEC_DSTATE]

theorem it_execCodewordUrgent {iq : Item} (cw : Nat) (s : State) (hq : iq.off foot_execCodewordUrgent = true) : itOut iq (execCodewordUrgent cw s) s := by
  delta foot_execCodewordUrgent at hq
  simp only [off_spots, off_cons_cons, off_nil, List.all_cons, List.all_nil, Bool.and_true, Bool.and_eq_true] at hq
  simp only [execCodewordUrgent]
  (repeat' split) <;> simp [hq]

def foot_dropCw : List Spot := spots [foot_modChan, foot_idleDecoder] []

@[simp] theorem it_dropCw {iq : Item} (s : State) (w : Codeword) (hq : iq.off foot_dropCw = true) : itm iq (State.dropCw s w) = itm iq s := by
  delta foot_dropCw at hq
  simp only [off_spots, off_cons_cons, off_nil, List.all_cons, List.all_nil, Bool.and_true, Bool.and_eq_true] at hq
  simp only [State.dropCw]
  (repeat' split) <;> simp [hq]

def foot_uncorrectable : List Spot := spots [foot_verdict, foot_dropCw] [.f .MOR_CNT_UNC_COUNT, .f .MOR_EVENT_UNCORR]

@[simp] theorem it_uncorrectable {iq : Item} (s : State) (w : Codeword) (hq : iq.off foot_uncorrectable = true) : itm iq (State.uncorrectable s w) = itm iq s := by
  delta foot_uncorrectable at hq
  simp only [off_spots, off_cons_cons, off_nil, List.all_cons, List.all_nil, Bool.and_true, Bool.and_eq_true] at hq
  simp [hq, State.uncorrectable]

def foot_showDecoder : List Spot := [.f .MOR_DEC_LANE, .f .MOR_DEC_SET, .f .MOR_DEC_ITER]

@[simp] theorem it_showDecoder {iq : Item} (s : State) (d : Nat) (w : Codeword) (hq : iq.off foot_showDecoder = true) : itm iq (State.showDecoder s d w) = itm iq s := by
  delta foot_showDecoder at hq
  simp only [off_spots, off_cons_cons, off_nil, List.all_cons, List.all_nil, Bool.and_true, Bool.and_eq_true] at hq
  simp [hq, State.showDecoder]

def foot_giveDecoder : List Spot := spots [foot_modChan, foot_modCw, foot_showDecoder] [.f .MOR_DEC_DSTATE, .f .MOR_DEC_RESUMED]

@[simp] theorem it_giveDecoder {iq : Item} (s : State) (d : Nat) (w : Codeword) (hq : iq.off foot_giveDecoder = true) : itm iq (State.giveDecoder s d w) = itm iq s := by
  delta foot_giveDecoder at hq
  simp only [off_spots, off_cons_cons, off_nil, List.all_cons, List.all_nil, Bool.and_true, Bool.and_eq_true] at hq
  simp [hq, State.giveDecoder]

def foot_passToUrgent : List Spot := spots [foot_idleDecoder, foot_modCw, foot_stageCw, foot_giveDecoder] []

@[simp] theorem it_passToUrgent {iq : Item} (s : State) (d : Nat) (hq : iq.off foot_passToUrgent = true) : itm iq (State.passToUrgent s d) = itm iq s := by
  delta foot_passToUrgent at hq
  simp only [off_spots, off_cons_cons, off_nil, List.all_cons, List.all_nil, Bool.and_true, Bool.and_eq_true] at hq
  simp only [State.passToUrgent]
  (repeat' split) <;> simp [hq]

def foot_execParkComplete : List Spot := spots [foot_fin, foot_modCw, foot_passToUrgent] [.f .MOR_CNT_PARK_COUNT]

theorem it_execParkComplete {iq : Item} (d : DecIx) (s : State) (hq : iq.off foot_execParkComplete = true) : itOut iq (execParkComplete d s) s := by
  delta foot_execParkComplete at hq
  simp only [off_spots, off_cons_cons, off_nil, List.all_cons, List.all_nil, Bool.and_true, Bool.and_eq_true] at hq
  simp only [execParkComplete]
  (repeat' split) <;> simp [hq]

def foot_execDecoderGrant : List Spot := spots [foot_fin, foot_giveDecoder] []

theorem it_execDecoderGrant {iq : Item} (s : State) (hq : iq.off foot_execDecoderGrant = true) : itOut iq (execDecoderGrant s) s := by
  delta foot_execDecoderGrant at hq
  simp only [off_spots, off_cons_cons, off_nil, List.all_cons, List.all_nil, Bool.and_true, Bool.and_eq_true] at hq
  simp only [execDecoderGrant]
  (repeat' split) <;> simp [hq]

def foot_noteEmap : List Spot := spots [foot_modRead] []

@[simp] theorem it_noteEmap {iq : Item} (s : State) (w : Codeword) (hq : iq.off foot_noteEmap = true) : itm iq (State.noteEmap s w) = itm iq s := by
  delta foot_noteEmap at hq
  simp only [off_spots, off_cons_cons, off_nil, List.all_cons, List.all_nil, Bool.and_true, Bool.and_eq_true] at hq
  simp [hq, State.noteEmap]

def foot_converged : List Spot := spots [foot_modMech, foot_modRead, foot_verdict, foot_modCw, foot_dropCw, foot_uncorrectable, foot_showDecoder,
  foot_noteEmap] [.f .MOR_CNT_CW_COUNT, .f .MOR_CNT_CRC_COUNT, .f .MOR_EVENT_CRC_FAIL]

@[simp] theorem it_converged {iq : Item} (s : State) (d : Nat) (w : Codeword) (word : Nat) (hq : iq.off foot_converged = true) : itm iq (State.converged s d w word) = itm iq s := by
  delta foot_converged at hq
  simp only [off_spots, off_cons_cons, off_nil, List.all_cons, List.all_nil, Bool.and_true, Bool.and_eq_true] at hq
  simp [hq, State.converged]

def foot_afterVerdict : List Spot := spots [foot_passToUrgent] []

@[simp] theorem it_afterVerdict {iq : Item} (s : State) (d : Nat) (preempt : Bool) (hq : iq.off foot_afterVerdict = true) : itm iq (State.afterVerdict s d preempt) = itm iq s := by
  delta foot_afterVerdict at hq
  simp only [off_spots, off_cons_cons, off_nil, List.all_cons, List.all_nil, Bool.and_true, Bool.and_eq_true] at hq
  simp [hq, State.afterVerdict]

def foot_execDecodeIteration : List Spot := spots [foot_fin, foot_modChan, foot_modCw, foot_uncorrectable, foot_showDecoder, foot_converged, foot_afterVerdict] [.f .MOR_DEC_DSTATE]

theorem it_execDecodeIteration {iq : Item} (d : DecIx) (s : State) (hq : iq.off foot_execDecodeIteration = true) : itOut iq (execDecodeIteration d s) s := by
  delta foot_execDecodeIteration at hq
  simp only [off_spots, off_cons_cons, off_nil, List.all_cons, List.all_nil, Bool.and_true, Bool.and_eq_true] at hq
  simp only [execDecodeIteration]
  (repeat' split) <;> simp [hq]

def foot_execWallTimeout : List Spot := spots [foot_fin, foot_uncorrectable] []

theorem it_execWallTimeout {iq : Item} (cw : Nat) (s : State) (hq : iq.off foot_execWallTimeout = true) : itOut iq (execWallTimeout cw s) s := by
  delta foot_execWallTimeout at hq
  simp only [off_spots, off_cons_cons, off_nil, List.all_cons, List.all_nil, Bool.and_true, Bool.and_eq_true] at hq
  simp only [execWallTimeout]
  (repeat' split) <;> simp [hq]

def foot_execStarveTimeout : List Spot := spots [foot_logEntry, foot_fin, foot_modCw] [.f .MOR_EVENT_STARVE, .f .MOR_STARVE_SRC_MN, .f .MOR_STARVE_SRC_LANE,
  .f .MOR_STARVE_SRC_WAIT_US]

theorem it_execStarveTimeout {iq : Item} (cw : Nat) (s : State) (hq : iq.off foot_execStarveTimeout = true) : itOut iq (execStarveTimeout cw s) s := by
  delta foot_execStarveTimeout at hq
  simp only [off_spots, off_cons_cons, off_nil, List.all_cons, List.all_nil, Bool.and_true, Bool.and_eq_true] at hq
  simp only [execStarveTimeout]
  (repeat' split) <;> simp [hq]

def foot_decoderWatchdog : List Spot := spots [foot_logEntry, foot_clearDecoder, foot_testDecoder, foot_uncorrectable] [.f .MOR_EVENT_WDOG, .f .MOR_CNT_WDOG_COUNT]

@[simp] theorem it_decoderWatchdog {iq : Item} (s : State) (d : Nat) (error : Bool) (hq : iq.off foot_decoderWatchdog = true) : itm iq (State.decoderWatchdog s d error) = itm iq s := by
  delta foot_decoderWatchdog at hq
  simp only [off_spots, off_cons_cons, off_nil, List.all_cons, List.all_nil, Bool.and_true, Bool.and_eq_true] at hq
  simp only [State.decoderWatchdog]
  (repeat' split) <;> simp [hq]

def foot_execDecoderWatchdog : List Spot := spots [foot_fin, foot_decoderWatchdog] []

theorem it_execDecoderWatchdog {iq : Item} (d : DecIx) (error : Bool) (s : State) (hq : iq.off foot_execDecoderWatchdog = true) : itOut iq (execDecoderWatchdog d error s) s := by
  delta foot_execDecoderWatchdog at hq
  simp only [off_spots, off_cons_cons, off_nil, List.all_cons, List.all_nil, Bool.and_true, Bool.and_eq_true] at hq
  simp [hq, execDecoderWatchdog]

def foot_decCmd : List Spot := spots [foot_modChan] [.f .MOR_DEC_CMD_STAT_DEC, .f .MOR_DEC_CMD_STAT_RESULT, .f .MOR_DEC_CMD_STAT_BUSY]

@[simp] theorem it_decCmd {iq : Item} (s : State) (d op : Nat) (ok : Bool) (hq : iq.off foot_decCmd = true) : itm iq (s.decCmd d op ok).2 = itm iq s := by
  delta foot_decCmd at hq
  simp only [off_spots, off_cons_cons, off_nil, List.all_cons, List.all_nil, Bool.and_true, Bool.and_eq_true] at hq
  unfold State.decCmd
  (repeat' split) <;> simp [hq]

theorem it_decCmd_some {iq : Item} {s t u : State} {d op : Nat} {ok : Bool} (h : s.decCmd d op ok = (some t, u)) (hq : iq.off foot_decCmd = true) : itm iq t = itm iq s := by
  delta foot_decCmd at hq
  simp only [off_spots, off_cons_cons, off_nil, List.all_cons, List.all_nil, Bool.and_true, Bool.and_eq_true] at hq
  unfold State.decCmd at h
  dsimp only at h
  (repeat' split at h) <;> cases h
  simp [hq]

theorem it_decCmd_none {iq : Item} {s u : State} {d op : Nat} {ok : Bool} {o : Option State} (h : s.decCmd d op ok = (o, u)) (hq : iq.off foot_decCmd = true) : itm iq u = itm iq s := by
  rw [← it_decCmd s d op ok hq, h]

def foot_execDecTest : List Spot := spots [foot_fin, foot_regCmd, foot_testDecoder, foot_decCmd] []

theorem it_execDecTest {iq : Item} (d : DecIx) (s : State) (hq : iq.off foot_execDecTest = true) : itOut iq (execDecTest d s) s := by
  delta foot_execDecTest at hq
  simp only [off_spots, off_cons_cons, off_nil, List.all_cons, List.all_nil, Bool.and_true, Bool.and_eq_true] at hq
  unfold execDecTest
  refine it_regCmd _ _ (by simp [hq]) fun t => ?_
  (try dsimp only)
  split
  · rename_i h
    (repeat' split) <;> simp [hq, it_decCmd_some (iq := iq) h (by simp [hq])]
  · rename_i h
    simp [hq, it_decCmd_none (iq := iq) h (by simp [hq])]

def foot_execDecEnable : List Spot := spots [foot_fin, foot_regCmd, foot_clearDecoder, foot_decCmdDone, foot_decCmd] []

theorem it_execDecEnable {iq : Item} (d : DecIx) (s : State) (hq : iq.off foot_execDecEnable = true) : itOut iq (execDecEnable d s) s := by
  delta foot_execDecEnable at hq
  simp only [off_spots, off_cons_cons, off_nil, List.all_cons, List.all_nil, Bool.and_true, Bool.and_eq_true] at hq
  unfold execDecEnable
  refine it_regCmd _ _ (by simp [hq]) fun t => ?_
  (try dsimp only)
  split
  · rename_i h
    (repeat' split) <;> simp [hq, it_decCmd_some (iq := iq) h (by simp [hq])]
  · rename_i h
    simp [hq, it_decCmd_none (iq := iq) h (by simp [hq])]

def foot_execDecDisable : List Spot := spots [foot_fin, foot_regCmd, foot_idleDecoder, foot_decCmd] []

theorem it_execDecDisable {iq : Item} (d : DecIx) (s : State) (hq : iq.off foot_execDecDisable = true) : itOut iq (execDecDisable d s) s := by
  delta foot_execDecDisable at hq
  simp only [off_spots, off_cons_cons, off_nil, List.all_cons, List.all_nil, Bool.and_true, Bool.and_eq_true] at hq
  unfold execDecDisable
  refine it_regCmd _ _ (by simp [hq]) fun t => ?_
  (try dsimp only)
  split
  · rename_i h
    (repeat' split) <;> simp [hq, it_decCmd_some (iq := iq) h (by simp [hq])]
  · rename_i h
    simp [hq, it_decCmd_none (iq := iq) h (by simp [hq])]

def foot_decTestEnd : List Spot := spots [foot_loadProgram, foot_returnBist, foot_modChan, foot_clearDecoder, foot_retireDecoder, foot_decCmdDone] [.f .MOR_PROG_VERSION,
  .f .MOR_DEC_DSTATE, .f .MOR_EVENT_DEC_TEST_FAIL]

@[simp] theorem it_decTestEnd {iq : Item} (s : State) (d : Nat) (pass : Bool) (hq : iq.off foot_decTestEnd = true) : itm iq (State.decTestEnd s d pass) = itm iq s := by
  delta foot_decTestEnd at hq
  simp only [off_spots, off_cons_cons, off_nil, List.all_cons, List.all_nil, Bool.and_true, Bool.and_eq_true] at hq
  simp [hq, State.decTestEnd]

def foot_execDecoderTestDone : List Spot := spots [foot_fin, foot_decTestEnd] []

theorem it_execDecoderTestDone {iq : Item} (d : DecIx) (pass : Bool) (s : State) (hq : iq.off foot_execDecoderTestDone = true) : itOut iq (execDecoderTestDone d pass s) s := by
  delta foot_execDecoderTestDone at hq
  simp only [off_spots, off_cons_cons, off_nil, List.all_cons, List.all_nil, Bool.and_true, Bool.and_eq_true] at hq
  simp [hq, execDecoderTestDone]

def foot_logUnreadable : List Spot := spots [foot_logEntry, foot_modMech] []

@[simp] theorem it_logUnreadable {iq : Item} (s : State) (r : ClusterRead) (hq : iq.off foot_logUnreadable = true) : itm iq (State.logUnreadable s r) = itm iq s := by
  delta foot_logUnreadable at hq
  simp only [off_spots, off_cons_cons, off_nil, List.all_cons, List.all_nil, Bool.and_true, Bool.and_eq_true] at hq
  simp [hq, State.logUnreadable]

def foot_outerDone : List Spot := spots [foot_modMech, foot_modRead] []

@[simp] theorem it_outerDone {iq : Item} (s : State) (r : ClusterRead) (l : List SectorX) (done : Bool) (revs : Nat) (hq : iq.off foot_outerDone = true) : itm iq (State.outerDone s r l done revs) = itm iq s := by
  delta foot_outerDone at hq
  simp only [off_spots, off_cons_cons, off_nil, List.all_cons, List.all_nil, Bool.and_true, Bool.and_eq_true] at hq
  simp [hq, State.outerDone]

def foot_execOuterDecode : List Spot := spots [foot_fin, foot_outerDone] []

theorem it_execOuterDecode {iq : Item} (mn : Mn) (layer : Fin 16) (cluster : Nat) (s : State) (hq : iq.off foot_execOuterDecode = true) : itOut iq (execOuterDecode mn layer cluster s) s := by
  delta foot_execOuterDecode at hq
  simp only [off_spots, off_cons_cons, off_nil, List.all_cons, List.all_nil, Bool.and_true, Bool.and_eq_true] at hq
  simp only [execOuterDecode]
  (repeat' split) <;> simp [hq]

def foot_execSectorRetryRev : List Spot := spots [foot_fin, foot_logUnreadable, foot_outerDone] []

theorem it_execSectorRetryRev {iq : Item} (mn : Mn) (layer : Fin 16) (cluster : Nat) (s : State) (hq : iq.off foot_execSectorRetryRev = true) : itOut iq (execSectorRetryRev mn layer cluster s) s := by
  delta foot_execSectorRetryRev at hq
  simp only [off_spots, off_cons_cons, off_nil, List.all_cons, List.all_nil, Bool.and_true, Bool.and_eq_true] at hq
  simp only [execSectorRetryRev]
  (repeat' split) <;> simp [hq]

end Sys2Proof.Laws
end

