-- ==== Sys2Proof/Laws/FootCalib.lean ====
section
/-! SUPPORT. What the operations of Machine/Calib.lean may write, and that they leave everything else as it was. -/

namespace Sys2Proof.Laws

open Sys2Proof.Machine

def foot_tempStale : List Spot := spots [foot_modCal] []

@[simp] theorem it_tempStale {iq : Item} (s : State) (space index layer : Nat) (hq : iq.off foot_tempStale = true) : itm iq (State.tempStale s space index layer) = itm iq s := by
  delta foot_tempStale at hq
  simp only [off_spots, off_cons_cons, off_nil, List.all_cons, List.all_nil, Bool.and_true, Bool.and_eq_true] at hq
  simp [hq, State.tempStale]

def foot_execCalTempCheck : List Spot := spots [foot_fin, foot_tempStale] [.p .time]

theorem it_execCalTempCheck {iq : Item} (s : State) (hq : iq.off foot_execCalTempCheck = true) : itOut iq (execCalTempCheck s) s := by
  delta foot_execCalTempCheck at hq
  simp only [off_spots, off_cons_cons, off_nil, List.all_cons, List.all_nil, Bool.and_true, Bool.and_eq_true] at hq
  simp [hq, execCalTempCheck]

def foot_rampOffsets : List Spot := spots [foot_modServo] []

@[simp] theorem it_rampOffsets {iq : Item} (s : State) (n layer : Nat) (hq : iq.off foot_rampOffsets = true) : itm iq (State.rampOffsets s n layer) = itm iq s := by
  delta foot_rampOffsets at hq
  simp only [off_spots, off_cons_cons, off_nil, List.all_cons, List.all_nil, Bool.and_true, Bool.and_eq_true] at hq
  simp [hq, State.rampOffsets]

def foot_refreshLevels : List Spot := spots [foot_loadLevels] []

@[simp] theorem it_refreshLevels {iq : Item} (s : State) (n : Nat) (hq : iq.off foot_refreshLevels = true) : itm iq (State.refreshLevels s n) = itm iq s := by
  delta foot_refreshLevels at hq
  simp only [off_spots, off_cons_cons, off_nil, List.all_cons, List.all_nil, Bool.and_true, Bool.and_eq_true] at hq
  simp only [State.refreshLevels]
  (repeat' split) <;> simp [hq]

def foot_abandonAutoRuns : List Spot := spots [foot_abandonSome] []

@[simp] theorem it_abandonAutoRuns {iq : Item} (s : State) (n : Nat) (hq : iq.off foot_abandonAutoRuns = true) : itm iq (State.abandonAutoRuns s n) = itm iq s := by
  delta foot_abandonAutoRuns at hq
  simp only [off_spots, off_cons_cons, off_nil, List.all_cons, List.all_nil, Bool.and_true, Bool.and_eq_true] at hq
  simp [hq, State.abandonAutoRuns]

def foot_beginRun : List Spot := spots [foot_modCal, foot_modServo, foot_askLane, foot_startTrackJump, foot_sweepTo] []

@[simp] theorem it_beginRun {iq : Item} (s : State) (space index layer item : Nat) (hq : iq.off foot_beginRun = true) : itm iq (State.beginRun s space index layer item) = itm iq s := by
  delta foot_beginRun at hq
  simp only [off_spots, off_cons_cons, off_nil, List.all_cons, List.all_nil, Bool.and_true, Bool.and_eq_true] at hq
  simp [hq, State.beginRun]

def foot_loseEntry : List Spot := spots [foot_logEntry, foot_modHost, foot_repairLost] []

@[simp] theorem it_loseEntry {iq : Item} (s : State) (w : WbEntry) (hq : iq.off foot_loseEntry = true) : itm iq (State.loseEntry s w) = itm iq s := by
  delta foot_loseEntry at hq
  simp only [off_spots, off_cons_cons, off_nil, List.all_cons, List.all_nil, Bool.and_true, Bool.and_eq_true] at hq
  simp [hq, State.loseEntry]

def foot_failEntry : List Spot := spots [foot_modHost, foot_modDisc, foot_cutCmd, foot_finishCommits, foot_loseEntry] []

@[simp] theorem it_failEntry {iq : Item} (s : State) (w : WbEntry) (st : Nat) (hq : iq.off foot_failEntry = true) : itm iq (State.failEntry s w st) = itm iq s := by
  delta foot_failEntry at hq
  simp only [off_spots, off_cons_cons, off_nil, List.all_cons, List.all_nil, Bool.and_true, Bool.and_eq_true] at hq
  simp only [State.failEntry]
  (repeat' split) <;> simp [hq]

def foot_failWrites : List Spot := spots [foot_failEntry] []

@[simp] theorem it_failWrites {iq : Item} (s : State) (n layer st : Nat) (hq : iq.off foot_failWrites = true) : itm iq (State.failWrites s n layer st) = itm iq s := by
  delta foot_failWrites at hq
  simp only [off_spots, off_cons_cons, off_nil, List.all_cons, List.all_nil, Bool.and_true, Bool.and_eq_true] at hq
  simp [hq, State.failWrites]

def foot_failRun : List Spot := spots [foot_logEntry, foot_modCal] [.f .MECH_CAL_LAST_CAUSE, .f .MECH_CAL_LAST_SPACE, .f .MECH_CAL_LAST_LAYER,
  .f .MECH_CAL_LAST_ITEM, .f .MECH_CAL_LAST_INDEX, .f .MECH_CAL_STAT_FAILS]

@[simp] theorem it_failRun {iq : Item} (s : State) (space index layer item cause : Nat) (value : Int) (hq : iq.off foot_failRun = true) : itm iq (State.failRun s space index layer item cause value) = itm iq s := by
  delta foot_failRun at hq
  simp only [off_spots, off_cons_cons, off_nil, List.all_cons, List.all_nil, Bool.and_true, Bool.and_eq_true] at hq
  simp [hq, State.failRun]

def foot_startOpc : List Spot := spots [foot_logEntry, foot_modDisc, foot_modRun, foot_beginRun, foot_failWrites, foot_failRun] []

@[simp] theorem it_startOpc {iq : Item} (s : State) (n layer probe : Nat) (hq : iq.off foot_startOpc = true) : itm iq (State.startOpc s n layer probe) = itm iq s := by
  delta foot_startOpc at hq
  simp only [off_spots, off_cons_cons, off_nil, List.all_cons, List.all_nil, Bool.and_true, Bool.and_eq_true] at hq
  simp [hq, State.startOpc]

def foot_execCalRetry : List Spot := spots [foot_fin, foot_modCal] []

theorem it_execCalRetry {iq : Item} (space : Fin 4) (index : Fin 4096) (layer : Fin 10) (item : Fin 6) (s : State) (hq : iq.off foot_execCalRetry = true) : itOut iq (execCalRetry space index layer item s) s := by
  delta foot_execCalRetry at hq
  simp only [off_spots, off_cons_cons, off_nil, List.all_cons, List.all_nil, Bool.and_true, Bool.and_eq_true] at hq
  simp [hq, execCalRetry]

def foot_passRun : List Spot := spots [foot_modCal, foot_rampOffsets, foot_refreshLevels] [.f .MECH_CAL_STAT_RUNS]

@[simp] theorem it_passRun {iq : Item} (s : State) (space index layer item : Nat) (d : List Nat) (hq : iq.off foot_passRun = true) : itm iq (State.passRun s space index layer item d) = itm iq s := by
  delta foot_passRun at hq
  simp only [off_spots, off_cons_cons, off_nil, List.all_cons, List.all_nil, Bool.and_true, Bool.and_eq_true] at hq
  simp [hq, State.passRun]

def foot_calErr : List Spot := [.f .MECH_CAL_CMD_ITEMS, .f .MECH_CAL_CMD_ERR]

@[simp] theorem it_calErr {iq : Item} (s : State) (items err : Nat) (hq : iq.off foot_calErr = true) : itm iq (State.calErr s items err) = itm iq s := by
  delta foot_calErr at hq
  simp only [off_spots, off_cons_cons, off_nil, List.all_cons, List.all_nil, Bool.and_true, Bool.and_eq_true] at hq
  simp [hq, State.calErr]

def foot_calCmd : List Spot := spots [foot_fin, foot_calErr] [.f .MECH_CAL_CMD_ERR]

theorem it_calCmd {iq : Item} (s : State) (items : Nat) (f : State → Nat → Nat → Nat → State) (h : ∀ t a b c, itm iq (f t a b c) = itm iq t) (hq : iq.off foot_calCmd = true) : itOut iq (s.calCmd items f) s := by
  delta foot_calCmd at hq
  simp only [off_spots, off_cons_cons, off_nil, List.all_cons, List.all_nil, Bool.and_true, Bool.and_eq_true] at hq
  unfold State.calCmd
  split
  · simp [hq]
  · extract_lets q e
    split <;> simp [hq, h]

def foot_execCalReadWindow : List Spot := spots [foot_regCmd, foot_calCmd] [.r .MECH_CAL_DATA]

theorem it_execCalReadWindow {iq : Item} (items : Fin 64) (s : State) (hq : iq.off foot_execCalReadWindow = true) : itOut iq (execCalReadWindow items s) s := by
  delta foot_execCalReadWindow at hq
  simp only [off_spots, off_cons_cons, off_nil, List.all_cons, List.all_nil, Bool.and_true, Bool.and_eq_true] at hq
  unfold execCalReadWindow
  refine it_regCmd _ _ (by simp [hq]) fun t => ?_
  refine it_calCmd _ _ _ (fun u a b c => ?_) (by simp [hq])
  try dsimp only
  first | (simp [hq]; done) | ((repeat' split) <;> simp [hq])

def foot_putCal : List Spot := spots [foot_modCal, foot_abandonRuns, foot_tempStale, foot_rampOffsets, foot_refreshLevels] []

@[simp] theorem it_putCal {iq : Item} (s : State) (space index layer : Nat) (d : List Nat) (hq : iq.off foot_putCal = true) : itm iq (State.putCal s space index layer d) = itm iq s := by
  delta foot_putCal at hq
  simp only [off_spots, off_cons_cons, off_nil, List.all_cons, List.all_nil, Bool.and_true, Bool.and_eq_true] at hq
  simp [hq, State.putCal]

def foot_execCalWriteWindow : List Spot := spots [foot_regCmd, foot_calErr, foot_calCmd, foot_putCal] []

theorem it_execCalWriteWindow {iq : Item} (items : Fin 64) (s : State) (hq : iq.off foot_execCalWriteWindow = true) : itOut iq (execCalWriteWindow items s) s := by
  delta foot_execCalWriteWindow at hq
  simp only [off_spots, off_cons_cons, off_nil, List.all_cons, List.all_nil, Bool.and_true, Bool.and_eq_true] at hq
  unfold execCalWriteWindow
  refine it_regCmd _ _ (by simp [hq]) fun t => ?_
  refine it_calCmd _ _ _ (fun u a b c => ?_) (by simp [hq])
  try dsimp only
  first | (simp [hq]; done) | ((repeat' split) <;> simp [hq])

def foot_execCalMarkStale : List Spot := spots [foot_regCmd, foot_modCal, foot_calCmd] []

theorem it_execCalMarkStale {iq : Item} (items : Fin 64) (s : State) (hq : iq.off foot_execCalMarkStale = true) : itOut iq (execCalMarkStale items s) s := by
  delta foot_execCalMarkStale at hq
  simp only [off_spots, off_cons_cons, off_nil, List.all_cons, List.all_nil, Bool.and_true, Bool.and_eq_true] at hq
  unfold execCalMarkStale
  refine it_regCmd _ _ (by simp [hq]) fun t => ?_
  refine it_calCmd _ _ _ (fun u a b c => ?_) (by simp [hq])
  try dsimp only
  first | (simp [hq]; done) | ((repeat' split) <;> simp [hq])

end Sys2Proof.Laws
end

