-- ==== Sys2Proof/Laws/FootDisc.lean ====
section
/-! SUPPORT. What the operations of Machine/Disc.lean may write, and that they leave everything else as it was. -/

namespace Sys2Proof.Laws

open Sys2Proof.Machine

def foot_allocate : List Spot := spots [foot_modDisc] []

theorem it_allocate {iq : Item} {s : State} {n count : Nat} {r : State × List Nat} (h : s.allocate n count = some r) (hq : iq.off foot_allocate = true) : itm iq r.1 = itm iq s := by
  delta foot_allocate at hq
  simp only [off_spots, off_cons_cons, off_nil, List.all_cons, List.all_nil, Bool.and_true, Bool.and_eq_true] at hq
  unfold State.allocate at h
  obtain ⟨k, -, rfl⟩ := Option.map_eq_some_iff.mp h
  simp [hq]

def foot_modStripe : List Spot := spots [foot_modSet] []

@[simp] theorem it_modStripe {iq : Item} (s : State) (id num : Nat) (g : StripeX → StripeX) (hq : iq.off foot_modStripe = true) : itm iq (State.modStripe s id num g) = itm iq s := by
  delta foot_modStripe at hq
  simp only [off_spots, off_cons_cons, off_nil, List.all_cons, List.all_nil, Bool.and_true, Bool.and_eq_true] at hq
  simp [hq, State.modStripe]

def foot_ownWrite : List Spot := spots [foot_modHost, foot_allocate] []

theorem it_ownWrite {iq : Item} (s : State) (n lba : Nat) (data : List Nat) (stripe : Nat × Nat × Nat) (reloc : Bool) (from_ : Option Nat) (remap : List (Nat × Nat × Nat)) {t : State} (h : State.ownWrite s n lba data stripe reloc from_ remap = some t) (hq : iq.off foot_ownWrite = true) : itm iq t = itm iq s := by
  delta foot_ownWrite at hq
  simp only [off_spots, off_cons_cons, off_nil, List.all_cons, List.all_nil, Bool.and_true, Bool.and_eq_true] at hq
  unfold State.ownWrite at h
  split at h
  · cases h
  · obtain ⟨r, hr, rfl⟩ := Option.map_eq_some_iff.mp h
    simp [hq, it_allocate (iq := iq) hr (by simp [hq])]

def foot_writeParity : List Spot := spots [foot_ownWrite] []

@[simp] theorem it_writeParity {iq : Item} (s : State) (id num j : Nat) (blocks : List Nat) (hq : iq.off foot_writeParity = true) : itm iq (State.writeParity s id num j blocks) = itm iq s := by
  delta foot_writeParity at hq
  simp only [off_spots, off_cons_cons, off_nil, List.all_cons, List.all_nil, Bool.and_true, Bool.and_eq_true] at hq
  unfold State.writeParity
  dsimp only
  split
  · rfl
  · split
    · rfl
    · rename_i h; exact it_ownWrite (iq := iq) _ _ _ _ _ _ _ _ h (by simp [hq])

def foot_closeStripe : List Spot := spots [foot_modStripe, foot_writeParity] [.f .FLOE_EVENT_FORCE_CLOSE]

@[simp] theorem it_closeStripe {iq : Item} (s : State) (id num : Nat) (hq : iq.off foot_closeStripe = true) : itm iq (State.closeStripe s id num) = itm iq s := by
  delta foot_closeStripe at hq
  simp only [off_spots, off_cons_cons, off_nil, List.all_cons, List.all_nil, Bool.and_true, Bool.and_eq_true] at hq
  simp only [State.closeStripe]
  (repeat' split) <;> simp [hq]

def foot_makeRoom : List Spot := spots [foot_closeStripe] []

@[simp] theorem it_makeRoom {iq : Item} (s : State) (id : Nat) (hq : iq.off foot_makeRoom = true) : itm iq (State.makeRoom s id) = itm iq s := by
  delta foot_makeRoom at hq
  simp only [off_spots, off_cons_cons, off_nil, List.all_cons, List.all_nil, Bool.and_true, Bool.and_eq_true] at hq
  simp only [State.makeRoom]
  (repeat' split) <;> simp [hq]

def foot_joinStripe : List Spot := spots [foot_modSet, foot_modStripe, foot_closeStripe, foot_makeRoom] []

@[simp] theorem it_joinStripe {iq : Item} (s : State) (id i p : Nat) (blocks : List Nat) (close : Bool) (hq : iq.off foot_joinStripe = true) : itm iq (State.joinStripe s id i p blocks close).1 = itm iq s := by
  delta foot_joinStripe at hq
  simp only [off_spots, off_cons_cons, off_nil, List.all_cons, List.all_nil, Bool.and_true, Bool.and_eq_true] at hq
  simp only [State.joinStripe]
  (repeat' split) <;> simp [hq]

def foot_floeDurables : List Spot := spots [foot_complete] []

@[simp] theorem it_floeDurables {iq : Item} (s : State) (hq : iq.off foot_floeDurables = true) : itm iq (State.floeDurables s) = itm iq s := by
  delta foot_floeDurables at hq
  simp only [off_spots, off_cons_cons, off_nil, List.all_cons, List.all_nil, Bool.and_true, Bool.and_eq_true] at hq
  simp [hq, State.floeDurables]

def foot_askWrite : List Spot := spots [foot_request] []

@[simp] theorem it_askWrite {iq : Item} (s : State) (n prio : Nat) (cmd : Option (Nat × Nat)) (hq : iq.off foot_askWrite = true) : itm iq (State.askWrite s n prio cmd).1 = itm iq s := by
  delta foot_askWrite at hq
  simp only [off_spots, off_cons_cons, off_nil, List.all_cons, List.all_nil, Bool.and_true, Bool.and_eq_true] at hq
  simp only [State.askWrite]
  (repeat' split) <;> simp [hq]

def foot_addMaps : List Spot := spots [foot_modSet] []

@[simp] theorem it_addMaps {iq : Item} (s : State) (id i : Nat) (l : List Extent) (hq : iq.off foot_addMaps = true) : itm iq (State.addMaps s id i l) = itm iq s := by
  delta foot_addMaps at hq
  simp only [off_spots, off_cons_cons, off_nil, List.all_cons, List.all_nil, Bool.and_true, Bool.and_eq_true] at hq
  simp [hq, State.addMaps]

def foot_joinAll : List Spot := spots [foot_joinStripe] []

@[simp] theorem it_joinAll {iq : Item} (s : State) (id i : Nat) (close : Bool) (us : List (Nat × List Nat)) (l : List (Nat × Nat)) (hq : iq.off foot_joinAll = true) : itm iq (State.joinAll s id i close us l).1 = itm iq s := by
  delta foot_joinAll at hq
  simp only [off_spots, off_cons_cons, off_nil, List.all_cons, List.all_nil, Bool.and_true, Bool.and_eq_true] at hq
  induction us generalizing s l with
  | nil => rfl
  | cons u us ih => unfold State.joinAll; dsimp only; rw [ih]; simp [hq]

def foot_noteCommit : List Spot := spots [foot_modSet] []

@[simp] theorem it_noteCommit {iq : Item} (s : State) (id : Nat) (m : MemberCommit) (hq : iq.off foot_noteCommit = true) : itm iq (State.noteCommit s id m) = itm iq s := by
  delta foot_noteCommit at hq
  simp only [off_spots, off_cons_cons, off_nil, List.all_cons, List.all_nil, Bool.and_true, Bool.and_eq_true] at hq
  simp [hq, State.noteCommit]

def foot_ownDurable : List Spot := spots [foot_modSet, foot_modStripe, foot_floeDurables, foot_addMaps, foot_noteCommit] [.f .FLOE_EVENT_REPAIR,
  .f .FLOE_CNT_REPAIR_COUNT, .f .FLOE_EVENT_RESYNC]

@[simp] theorem it_ownDurable {iq : Item} (s : State) (w : WbEntry) (id num i : Nat) (exts : List Extent) (hq : iq.off foot_ownDurable = true) : itm iq (State.ownDurable s w id num i exts) = itm iq s := by
  delta foot_ownDurable at hq
  simp only [off_spots, off_cons_cons, off_nil, List.all_cons, List.all_nil, Bool.and_true, Bool.and_eq_true] at hq
  simp [hq, State.ownDurable]

def foot_writeDurable : List Spot := spots [foot_modMech, foot_modHost, foot_modCtx, foot_complete, foot_addMaps, foot_joinAll, foot_noteCommit,
  foot_ownDurable] []

@[simp] theorem it_writeDurable {iq : Item} (s : State) (gen : Nat) (w : WbEntry) (exts : List Extent) (hq : iq.off foot_writeDurable = true) : itm iq (State.writeDurable s gen w exts) = itm iq s := by
  delta foot_writeDurable at hq
  simp only [off_spots, off_cons_cons, off_nil, List.all_cons, List.all_nil, Bool.and_true, Bool.and_eq_true] at hq
  simp only [State.writeDurable]
  (repeat' split) <;> simp [hq]

def foot_refuseFull : List Spot := spots [foot_failEntry] [.f .FLOE_EVENT_SET_FULL]

@[simp] theorem it_refuseFull {iq : Item} (s : State) (n : Nat) (l : List WbEntry) (hq : iq.off foot_refuseFull = true) : itm iq (State.refuseFull s n l).1 = itm iq s := by
  delta foot_refuseFull at hq
  simp only [off_spots, off_cons_cons, off_nil, List.all_cons, List.all_nil, Bool.and_true, Bool.and_eq_true] at hq
  unfold State.refuseFull
  split
  · rfl
  · rename_i id i _
    have h : ∀ (l : List WbEntry) (a : State × List WbEntry), itm iq (l.foldl (fun (a : State × List WbEntry) w =>
        if i < (s.set_ id).k ∧ w.stripe.isNone ∧ a.1.stripesFull id i ((a.2 ++ [w]).foldl (fun k x => k + x.clusters.length) 0) then
          ((a.1.failEntry w 0x0705).raise .FLOE_EVENT_SET_FULL, a.2)
        else (a.1, a.2 ++ [w])) a).1 = itm iq a.1 := by
      intro l
      induction l with
      | nil => intro a; rfl
      | cons x r ih => intro a; rw [List.foldl_cons, ih]; split <;> simp [hq]
    exact h _ _

def foot_markCarried : List Spot := spots [foot_modSet] []

@[simp] theorem it_markCarried {iq : Item} (s : State) (l : List WbEntry) (hq : iq.off foot_markCarried = true) : itm iq (State.markCarried s l) = itm iq s := by
  delta foot_markCarried at hq
  simp only [off_spots, off_cons_cons, off_nil, List.all_cons, List.all_nil, Bool.and_true, Bool.and_eq_true] at hq
  simp [hq, State.markCarried]

def foot_appendDone : List Spot := spots [foot_emit, foot_logEntry, foot_modDisc, foot_finishCommits, foot_failEntry, foot_writeDurable, foot_refuseFull,
  foot_markCarried] [.f .MECH_DISC_SEALED]

@[simp] theorem it_appendDone {iq : Item} (s : State) (n : Nat) (hq : iq.off foot_appendDone = true) : itm iq (State.appendDone s n) = itm iq s := by
  delta foot_appendDone at hq
  simp only [off_spots, off_cons_cons, off_nil, List.all_cons, List.all_nil, Bool.and_true, Bool.and_eq_true] at hq
  simp [hq, State.appendDone]

def foot_appendFailed : List Spot := spots [foot_logEntry, foot_modDisc] []

@[simp] theorem it_appendFailed {iq : Item} (s : State) (n : Nat) (hq : iq.off foot_appendFailed = true) : itm iq (State.appendFailed s n) = itm iq s := by
  delta foot_appendFailed at hq
  simp only [off_spots, off_cons_cons, off_nil, List.all_cons, List.all_nil, Bool.and_true, Bool.and_eq_true] at hq
  simp [hq, State.appendFailed]

def foot_endRun : List Spot := spots [foot_returnGrant, foot_backToTracking] []

@[simp] theorem it_endRun {iq : Item} (s : State) (n : Nat) (hq : iq.off foot_endRun = true) : itm iq (State.endRun s n) = itm iq s := by
  delta foot_endRun at hq
  simp only [off_spots, off_cons_cons, off_nil, List.all_cons, List.all_nil, Bool.and_true, Bool.and_eq_true] at hq
  simp only [State.endRun]
  (repeat' split) <;> simp [hq]

def foot_execMapAppend : List Spot := spots [foot_fin, foot_failEntry, foot_askWrite, foot_appendDone, foot_appendFailed, foot_endRun] []

theorem it_execMapAppend {iq : Item} (mn : Mn) (ok : Bool) (s : State) (hq : iq.off foot_execMapAppend = true) : itOut iq (execMapAppend mn ok s) s := by
  delta foot_execMapAppend at hq
  simp only [off_spots, off_cons_cons, off_nil, List.all_cons, List.all_nil, Bool.and_true, Bool.and_eq_true] at hq
  unfold execMapAppend
  split
  · simp [hq]
  · split <;> (rename_i h; have k := it_fst h (it_askWrite (iq := iq) _ _ _ _ (by simp [hq])); rw [it_fin _ _ (by simp [hq])])
    · split <;> simp [hq, k]
    · exact k
    · rw [it_endRun _ _ (by simp [hq]), it_foldl, k]; intro t w; simp [hq]

def foot_execAppendRetry : List Spot := spots [foot_fin, foot_askLane, foot_wantSpin, foot_askWrite] []

theorem it_execAppendRetry {iq : Item} (mn : Mn) (s : State) (hq : iq.off foot_execAppendRetry = true) : itOut iq (execAppendRetry mn s) s := by
  delta foot_execAppendRetry at hq
  simp only [off_spots, off_cons_cons, off_nil, List.all_cons, List.all_nil, Bool.and_true, Bool.and_eq_true] at hq
  simp [hq, execAppendRetry]

end Sys2Proof.Laws
end

