-- ==== Sys2Proof/Laws/FootWriteSide.lean ====
section
/-! SUPPORT. What the operations of Machine/WriteSide.lean may write, and that they leave everything else as it was. -/

namespace Sys2Proof.Laws

open Sys2Proof.Machine

def foot_opcBank : List Spot := spots [foot_modLane, foot_loadLevels] []

@[simp] theorem it_opcBank {iq : Item} (s : State) (n f : Nat) (r : RunX) (x0 : Int) (hq : iq.off foot_opcBank = true) : itm iq (State.opcBank s n f r x0).1 = itm iq s := by
  delta foot_opcBank at hq
  simp only [off_spots, off_cons_cons, off_nil, List.all_cons, List.all_nil, Bool.and_true, Bool.and_eq_true] at hq
  simp only [State.opcBank]
  (repeat' split) <;> simp [hq]

def foot_sendWriteBurst : List Spot := spots [foot_emit, foot_modLane, foot_endWrite, foot_opcBank] [.f .FIRN_CNT_MERGE_COUNT, .f .FIRN_EVENT_MERGE]

@[simp] theorem it_sendWriteBurst {iq : Item} (s9 : State) (n t17 : Nat) (hq : iq.off foot_sendWriteBurst = true) : itm iq (State.sendWriteBurst s9 n t17) = itm iq s9 := by
  delta foot_sendWriteBurst at hq
  simp only [off_spots, off_cons_cons, off_nil, List.all_cons, List.all_nil, Bool.and_true, Bool.and_eq_true] at hq
  simp only [State.sendWriteBurst]
  (repeat' split) <;> simp [hq]

def foot_execFrameTick : List Spot := spots [foot_emit, foot_modPort, foot_fin, foot_takeAnnounced, foot_takeRate, foot_sendWriteBurst] [.f .PEN_STATUS_LOCK,
  .f .PEN_EVENT_LOCK_LOST]

theorem it_execFrameTick {iq : Item} (p : PortIx) (s : State) (hq : iq.off foot_execFrameTick = true) : itOut iq (execFrameTick p s) s := by
  delta foot_execFrameTick at hq
  simp only [off_spots, off_cons_cons, off_nil, List.all_cons, List.all_nil, Bool.and_true, Bool.and_eq_true] at hq
  simp [hq, execFrameTick]

end Sys2Proof.Laws
end

