-- ==== Sys2Proof/Laws/FootDataCmds.lean ====
section
/-! SUPPORT. What the operations of Machine/DataCmds.lean may write, and that they leave everything else as it was. -/

namespace Sys2Proof.Laws

open Sys2Proof.Machine

def foot_execDescriptorFetched : List Spot := spots [foot_fin, foot_noteFetch, foot_takeDescriptor, foot_cancelSpinDown] []

theorem it_execDescriptorFetched {iq : Item} (fn : FnIx) (qpid : Nat) (d : Desc) (s : State) (hq : iq.off foot_execDescriptorFetched = true) : itOut iq (execDescriptorFetched fn qpid d s) s := by
  delta foot_execDescriptorFetched at hq
  simp only [off_spots, off_cons_cons, off_nil, List.all_cons, List.all_nil, Bool.and_true, Bool.and_eq_true] at hq
  simp [hq, execDescriptorFetched]

def foot_runCmd : List Spot := spots [foot_modCtx, foot_fin, foot_dropHint, foot_cutCmd] []

theorem it_runCmd {iq : Item} (s : State) (fn tag op : Nat) (check : State → Ctx → Nat) (k : State → Ctx → State) (hq : iq.off foot_runCmd = true) (h : ∀ t c, itm iq (k t c) = itm iq t) : itOut iq (s.runCmd fn tag op check k) s := by
  delta foot_runCmd at hq
  simp only [off_spots, off_cons_cons, off_nil, List.all_cons, List.all_nil, Bool.and_true, Bool.and_eq_true] at hq
  unfold State.runCmd
  (repeat' split) <;> simp [h, hq]

def foot_startCtx : List Spot := spots [foot_modCtx] []

@[simp] theorem it_startCtx {iq : Item} (s : State) (c : Ctx) (hq : iq.off foot_startCtx = true) : itm iq (State.startCtx s c) = itm iq s := by
  delta foot_startCtx at hq
  simp only [off_spots, off_cons_cons, off_nil, List.all_cons, List.all_nil, Bool.and_true, Bool.and_eq_true] at hq
  simp [hq, State.startCtx]

def foot_dropReads : List Spot := spots [foot_modChan] []

@[simp] theorem it_dropReads {iq : Item} (s : State) (n : Nat) (hq : iq.off foot_dropReads = true) : itm iq (State.dropReads s n) = itm iq s := by
  delta foot_dropReads at hq
  simp only [off_spots, off_cons_cons, off_nil, List.all_cons, List.all_nil, Bool.and_true, Bool.and_eq_true] at hq
  simp [hq, State.dropReads]

def foot_wantHead : List Spot := spots [foot_askLane, foot_wantSpin, foot_acquireAgain, foot_abandonAutoRuns] []

@[simp] theorem it_wantHead {iq : Item} (s : State) (n layer cluster : Nat) (hq : iq.off foot_wantHead = true) : itm iq (State.wantHead s n layer cluster) = itm iq s := by
  delta foot_wantHead at hq
  simp only [off_spots, off_cons_cons, off_nil, List.all_cons, List.all_nil, Bool.and_true, Bool.and_eq_true] at hq
  simp [hq, State.wantHead]

def foot_wantBd : List Spot := spots [foot_wantSpin, foot_wantHead] []

@[simp] theorem it_wantBd {iq : Item} (s : State) (n lba : Nat) (hq : iq.off foot_wantBd = true) : itm iq (State.wantBd s n lba) = itm iq s := by
  delta foot_wantBd at hq
  simp only [off_spots, off_cons_cons, off_nil, List.all_cons, List.all_nil, Bool.and_true, Bool.and_eq_true] at hq
  simp [hq, State.wantBd]

def foot_wantCluster : List Spot := spots [foot_modChan] []

@[simp] theorem it_wantCluster {iq : Item} (s : State) (n layer cluster : Nat) (hq : iq.off foot_wantCluster = true) : itm iq (State.wantCluster s n layer cluster) = itm iq s := by
  delta foot_wantCluster at hq
  simp only [off_spots, off_cons_cons, off_nil, List.all_cons, List.all_nil, Bool.and_true, Bool.and_eq_true] at hq
  simp [hq, State.wantCluster]

def foot_fetchClusters : List Spot := spots [foot_startCtx, foot_wantHead, foot_wantBd, foot_wantCluster] []

@[simp] theorem it_fetchClusters {iq : Item} (s : State) (c : Ctx) (l : List Src) (hq : iq.off foot_fetchClusters = true) : itm iq (State.fetchClusters s c l) = itm iq s := by
  delta foot_fetchClusters at hq
  simp only [off_spots, off_cons_cons, off_nil, List.all_cons, List.all_nil, Bool.and_true, Bool.and_eq_true] at hq
  unfold State.fetchClusters
  extract_lets s1 first
  have k1 : itm iq s1 = itm iq s := by
    refine it_foldl _ _ _ fun t x => ?_
    split <;> simp [hq]
  clear_value s1 first
  split
  · split <;> simp [hq, k1]
  · simp [hq, k1]

def foot_sendBlocks : List Spot := spots [foot_emit] []

@[simp] theorem it_sendBlocks {iq : Item} (s : State) (c : Ctx) (l : List (Nat × Nat)) (hq : iq.off foot_sendBlocks = true) : itm iq (State.sendBlocks s c l) = itm iq s := by
  delta foot_sendBlocks at hq
  simp only [off_spots, off_cons_cons, off_nil, List.all_cons, List.all_nil, Bool.and_true, Bool.and_eq_true] at hq
  simp [hq, State.sendBlocks]

def foot_sendReady : List Spot := spots [foot_dramTouch, foot_modCtx, foot_sendBlocks] []

@[simp] theorem it_sendReady {iq : Item} (s : State) (c : Ctx) (dma : Dma) (l : List Src) (hq : iq.off foot_sendReady = true) : itm iq (State.sendReady s c dma l) = itm iq s := by
  delta foot_sendReady at hq
  simp only [off_spots, off_cons_cons, off_nil, List.all_cons, List.all_nil, Bool.and_true, Bool.and_eq_true] at hq
  simp [hq, State.sendReady]

def foot_deliver : List Spot := spots [foot_dramTouch, foot_modMech, foot_complete, foot_noteDrain, foot_dropReads, foot_sendBlocks] []

@[simp] theorem it_deliver {iq : Item} (s : State) (c : Ctx) (dma : Dma) (l : List Src) (hq : iq.off foot_deliver = true) : itm iq (State.deliver s c dma l) = itm iq s := by
  delta foot_deliver at hq
  simp only [off_spots, off_cons_cons, off_nil, List.all_cons, List.all_nil, Bool.and_true, Bool.and_eq_true] at hq
  simp only [State.deliver]
  (repeat' split) <;> simp [hq]

def foot_execRead : List Spot := spots [foot_complete, foot_noteBacklog, foot_runCmd, foot_fetchClusters, foot_sendReady, foot_deliver] []

theorem it_execRead {iq : Item} (fn : FnIx) (tag : Nat) (dma : Dma) (s : State) (hq : iq.off foot_execRead = true) : itOut iq (execRead fn tag dma s) s := by
  delta foot_execRead at hq
  simp only [off_spots, off_cons_cons, off_nil, List.all_cons, List.all_nil, Bool.and_true, Bool.and_eq_true] at hq
  unfold execRead
  first | refine it_runCmd _ _ _ _ _ _ ?_ fun t c => ?_ | refine it_runAdmin _ _ _ _ _ ?_ fun t c => ?_ | refine it_runFloe _ _ _ _ _ ?_ fun t c => ?_
  · simp [hq]
  (try dsimp only)
  (repeat' split) <;> simp [hq]

def foot_execVerify : List Spot := spots [foot_modCtx, foot_complete, foot_runCmd, foot_dropReads, foot_fetchClusters] []

theorem it_execVerify {iq : Item} (fn : FnIx) (tag : Nat) (s : State) (hq : iq.off foot_execVerify = true) : itOut iq (execVerify fn tag s) s := by
  delta foot_execVerify at hq
  simp only [off_spots, off_cons_cons, off_nil, List.all_cons, List.all_nil, Bool.and_true, Bool.and_eq_true] at hq
  unfold execVerify
  first | refine it_runCmd _ _ _ _ _ _ ?_ fun t c => ?_ | refine it_runAdmin _ _ _ _ _ ?_ fun t c => ?_ | refine it_runFloe _ _ _ _ _ ?_ fun t c => ?_
  · simp [hq]
  (try dsimp only)
  (repeat' split) <;> simp [hq]

def foot_modWb : List Spot := spots [foot_modHost] []

@[simp] theorem it_modWb {iq : Item} (s : State) (id : Nat) (f : WbEntry → WbEntry) (hq : iq.off foot_modWb = true) : itm iq (State.modWb s id f) = itm iq s := by
  delta foot_modWb at hq
  simp only [off_spots, off_cons_cons, off_nil, List.all_cons, List.all_nil, Bool.and_true, Bool.and_eq_true] at hq
  simp [hq, State.modWb]

def foot_openWrite : List Spot := spots [foot_modHost, foot_cutCmd, foot_startCtx] []

@[simp] theorem it_openWrite {iq : Item} (s : State) (c : Ctx) (hq : iq.off foot_openWrite = true) : itm iq (State.openWrite s c) = itm iq s := by
  delta foot_openWrite at hq
  simp only [off_spots, off_cons_cons, off_nil, List.all_cons, List.all_nil, Bool.and_true, Bool.and_eq_true] at hq
  simp [hq, State.openWrite]

def foot_execWriteAccepted : List Spot := spots [foot_dramTouch, foot_modCtx, foot_complete, foot_fin, foot_cutCmd, foot_allocate, foot_modWb] []

theorem it_execWriteAccepted {iq : Item} (fn : FnIx) (tag : Nat) (data : List Nat) (dma : Dma) (s : State) (hq : iq.off foot_execWriteAccepted = true) : itOut iq (execWriteAccepted fn tag data dma s) s := by
  delta foot_execWriteAccepted at hq
  simp only [off_spots, off_cons_cons, off_nil, List.all_cons, List.all_nil, Bool.and_true, Bool.and_eq_true] at hq
  unfold execWriteAccepted
  split
  · dsimp only
    split
    · simp [hq]
    · split
      · simp [hq]
      · (repeat' split) <;> first | (simp [hq]; done) | (have k := it_allocate (iq := iq) ‹State.allocate _ _ _ = some _› (by simp [hq]); simp at k; simp [hq, k])
  · simp [hq]

def foot_startRun : List Spot := spots [foot_dramTouch, foot_endInjOf, foot_modLane, foot_refreshLevels, foot_modWb] [.f .FIRN_STATUS_WRITE, .f .FIRN_BEAM_TSTATE]

@[simp] theorem it_startRun {iq : Item} (s : State) (f : Nat) (w : WbEntry) (hq : iq.off foot_startRun = true) : itm iq (State.startRun s f w) = itm iq s := by
  delta foot_startRun at hq
  simp only [off_spots, off_cons_cons, off_nil, List.all_cons, List.all_nil, Bool.and_true, Bool.and_eq_true] at hq
  simp [hq, State.startRun]

def foot_towardRun : List Spot := spots [foot_turnBurst, foot_failEntry, foot_allocate, foot_askWrite, foot_wantHead, foot_wantBd, foot_modWb,
  foot_startRun] []

@[simp] theorem it_towardRun {iq : Item} (s : State) (w0 : WbEntry) (hq : iq.off foot_towardRun = true) : itm iq (State.towardRun s w0) = itm iq s := by
  delta foot_towardRun at hq
  simp only [off_spots, off_cons_cons, off_nil, List.all_cons, List.all_nil, Bool.and_true, Bool.and_eq_true] at hq
  unfold State.towardRun
  extract_lets n bd s0
  have k0 : ∀ r, s0 = some r → itm iq r.1 = itm iq s := by
    intro r h
    simp only [s0] at h
    split at h
    · cases h; rfl
    · obtain ⟨r, hr, hk⟩ := Option.map_eq_some_iff.mp h
      cases hk
      simp [hq, it_allocate (iq := iq) hr]
  clear_value s0
  rcases s0 with _ | ⟨s1, w⟩
  · simp [hq]
  · have k1 : itm iq s1 = itm iq s := k0 _ rfl
    dsimp -zeta only
    extract_lets layer want s2
    have kw : ∀ t, itm iq (want t) = itm iq t := by
      intro t; simp only [want]; split <;> simp [hq]
    have k2 : itm iq s2 = itm iq s := (kw _).trans k1
    clear_value want s2
    split
    · exact k1
    · split
      · exact (kw _).trans k1
      · split
        · exact k2
        · split
          · simp [hq, k2]
          · split
            · exact k2
            · split
              · exact k2
              · split
                · simp [hq, k2]
                · split <;> (rename_i h; have k := ((it_fst h (it_askWrite (iq := iq) _ _ _ _ (by simp [hq]))).trans k2); simp [hq, k])

def foot_runWritten : List Spot := spots [foot_emit, foot_modMech, foot_returnGrant, foot_turnBurst, foot_modLane, foot_modDisc, foot_searchAgain,
  foot_writeDurable, foot_modWb] [.f .FIRN_STATUS_WRITE]

@[simp] theorem it_runWritten {iq : Item} (s : State) (f : Nat) (w : WbEntry) (hq : iq.off foot_runWritten = true) : itm iq (State.runWritten s f w) = itm iq s := by
  delta foot_runWritten at hq
  simp only [off_spots, off_cons_cons, off_nil, List.all_cons, List.all_nil, Bool.and_true, Bool.and_eq_true] at hq
  simp [hq, State.runWritten]

def foot_execWrite : List Spot := spots [foot_fin, foot_endWrite, foot_runCmd, foot_openWrite, foot_towardRun, foot_runWritten] []

theorem it_execWrite {iq : Item} (fn : Fin 257) (tag : Nat) (s : State) (hq : iq.off foot_execWrite = true) : itOut iq (execWrite fn tag s) s := by
  delta foot_execWrite at hq
  simp only [off_spots, off_cons_cons, off_nil, List.all_cons, List.all_nil, Bool.and_true, Bool.and_eq_true] at hq
  unfold execWrite
  split
  · (repeat' split) <;> simp [hq]
  · refine it_runCmd _ _ _ _ _ _ (by simp [hq]) fun t c => ?_
    simp [hq]

def foot_execCommit : List Spot := spots [foot_modCtx, foot_finishCommits, foot_runCmd, foot_startCtx] []

theorem it_execCommit {iq : Item} (fn : FnIx) (tag : Nat) (s : State) (hq : iq.off foot_execCommit = true) : itOut iq (execCommit fn tag s) s := by
  delta foot_execCommit at hq
  simp only [off_spots, off_cons_cons, off_nil, List.all_cons, List.all_nil, Bool.and_true, Bool.and_eq_true] at hq
  unfold execCommit
  first | refine it_runCmd _ _ _ _ _ _ ?_ fun t c => ?_ | refine it_runAdmin _ _ _ _ _ ?_ fun t c => ?_ | refine it_runFloe _ _ _ _ _ ?_ fun t c => ?_
  · simp [hq]
  (try dsimp only)
  (repeat' split) <;> simp [hq]

def foot_scheduleHint : List Spot := spots [foot_request, foot_takeSeq, foot_startTrackJump, foot_startLayerJump] []

@[simp] theorem it_scheduleHint {iq : Item} (s : State) (n layer : Nat) (tracks : Int) (hq : iq.off foot_scheduleHint = true) : itm iq (State.scheduleHint s n layer tracks).1 = itm iq s := by
  delta foot_scheduleHint at hq
  simp only [off_spots, off_cons_cons, off_nil, List.all_cons, List.all_nil, Bool.and_true, Bool.and_eq_true] at hq
  simp only [State.scheduleHint]
  (repeat' split) <;> simp [hq]

def foot_execSeekHint : List Spot := spots [foot_complete, foot_cutCmd, foot_wantSpin, foot_runCmd, foot_startCtx, foot_wantHead, foot_wantBd,
  foot_scheduleHint] [.p .free]

theorem it_execSeekHint {iq : Item} (fn : FnIx) (tag layer : Nat) (tracks : Int) (s : State) (hq : iq.off foot_execSeekHint = true) : itOut iq (execSeekHint fn tag layer tracks s) s := by
  delta foot_execSeekHint at hq
  simp only [off_spots, off_cons_cons, off_nil, List.all_cons, List.all_nil, Bool.and_true, Bool.and_eq_true] at hq
  unfold execSeekHint
  refine it_runCmd _ _ _ _ _ _ (by simp [hq]) fun t c => ?_
  extract_lets n only at_ r
  split
  · simp [hq]
  · have k1 : itm iq r.1 = itm iq t := by
      simp only [r]
      (repeat' split) <;> simp [hq]
    clear_value r
    obtain ⟨u, d⟩ := r
    cases d <;> simp_all

def foot_refreshCluster : List Spot := spots [foot_modHost, foot_allocate] []

@[simp] theorem it_refreshCluster {iq : Item} (s : State) (n : Nat) (r : ClusterRead) (hq : iq.off foot_refreshCluster = true) : itm iq (State.refreshCluster s n r) = itm iq s := by
  delta foot_refreshCluster at hq
  simp only [off_spots, off_cons_cons, off_nil, List.all_cons, List.all_nil, Bool.and_true, Bool.and_eq_true] at hq
  unfold State.refreshCluster
  refine it_forEach _ _ _ fun t e => ?_
  split
  · rfl
  · rename_i h; have k := it_allocate (iq := iq) h (by simp [hq]); simp at k; simp [hq, k]

def foot_servoTestRegs : List Spot := [.f .CIRQ_INJ_CTRL_MN, .f .CIRQ_INJ_CTRL_LOOP, .f .CIRQ_INJ_CTRL_PRBS_HOLD, .f .CIRQ_INJ_CTRL_TYPE, .f .CIRQ_INJ_AMP_AMP,
  .f .CIRQ_INJ_F0_DPHI, .f .CIRQ_INJ_F1_DPHI, .f .CIRQ_INJ_STEP_RATIO, .f .CIRQ_INJ_STEP_DWELL, .r .CIRQ_CAP_SEL, .f .CIRQ_CAP_CTRL_MN, .f .CIRQ_CAP_CTRL_DEC,
  .f .CIRQ_CAP_CTRL_TRIG, .f .CIRQ_CAP_LEN_LEN, .f .CIRQ_CAP_LEN_PRE]

@[simp] theorem it_servoTestRegs {iq : Item} (s : State) (c : Nat) (d : Desc) (hq : iq.off foot_servoTestRegs = true) : itm iq (State.servoTestRegs s c d) = itm iq s := by
  delta foot_servoTestRegs at hq
  simp only [off_spots, off_cons_cons, off_nil, List.all_cons, List.all_nil, Bool.and_true, Bool.and_eq_true] at hq
  simp [hq, State.servoTestRegs]

def foot_beginServoTest : List Spot := spots [foot_complete, foot_cutCmd, foot_startInj, foot_armCap, foot_startCtx, foot_servoTestRegs] [.f .CIRQ_CAP_STAT_BUF,
  .f .CIRQ_INJ_STAT_ERR, .f .CIRQ_INJ_STAT_END, .f .CIRQ_CAP_STAT_ERR]

@[simp] theorem it_beginServoTest {iq : Item} (s : State) (c : Nat) (x : Ctx) (hq : iq.off foot_beginServoTest = true) : itm iq (State.beginServoTest s c x) = itm iq s := by
  delta foot_beginServoTest at hq
  simp only [off_spots, off_cons_cons, off_nil, List.all_cons, List.all_nil, Bool.and_true, Bool.and_eq_true] at hq
  simp [hq, State.beginServoTest]

def foot_endServoTest : List Spot := spots [foot_emit, foot_complete, foot_modCap] [.f .CIRQ_CAP_STAT_BUF]

@[simp] theorem it_endServoTest {iq : Item} (s : State) (c : Nat) (x : Ctx) (dma : Dma) (hq : iq.off foot_endServoTest = true) : itm iq (State.endServoTest s c x dma) = itm iq s := by
  delta foot_endServoTest at hq
  simp only [off_spots, off_cons_cons, off_nil, List.all_cons, List.all_nil, Bool.and_true, Bool.and_eq_true] at hq
  simp [hq, State.endServoTest]

def foot_execServoTest : List Spot := spots [foot_endInj, foot_runCmd, foot_startCtx, foot_wantHead, foot_beginServoTest, foot_endServoTest] []

theorem it_execServoTest {iq : Item} (fn : FnIx) (tag : Nat) (dma : Dma) (s : State) (hq : iq.off foot_execServoTest = true) : itOut iq (execServoTest fn tag dma s) s := by
  delta foot_execServoTest at hq
  simp only [off_spots, off_cons_cons, off_nil, List.all_cons, List.all_nil, Bool.and_true, Bool.and_eq_true] at hq
  unfold execServoTest
  first | refine it_runCmd _ _ _ _ _ _ ?_ fun t c => ?_ | refine it_runAdmin _ _ _ _ _ ?_ fun t c => ?_ | refine it_runFloe _ _ _ _ _ ?_ fun t c => ?_
  · simp [hq]
  (try dsimp only)
  (repeat' split) <;> simp [hq]

def foot_withdrawStart : List Spot := spots [foot_modBreath, foot_abandonStart] []

@[simp] theorem it_withdrawStart {iq : Item} (s : State) (c : Ctx) (hq : iq.off foot_withdrawStart = true) : itm iq (State.withdrawStart s c) = itm iq s := by
  delta foot_withdrawStart at hq
  simp only [off_spots, off_cons_cons, off_nil, List.all_cons, List.all_nil, Bool.and_true, Bool.and_eq_true] at hq
  simp [hq, State.withdrawStart]

def foot_withdrawTray : List Spot := spots [foot_modBreath, foot_endMove, foot_stopTray] []

@[simp] theorem it_withdrawTray {iq : Item} (s : State) (c : Ctx) (hq : iq.off foot_withdrawTray = true) : itm iq (State.withdrawTray s c) = itm iq s := by
  delta foot_withdrawTray at hq
  simp only [off_spots, off_cons_cons, off_nil, List.all_cons, List.all_nil, Bool.and_true, Bool.and_eq_true] at hq
  simp [hq, State.withdrawTray]

def foot_leaveOrphan : List Spot := spots [foot_modMech] []

@[simp] theorem it_leaveOrphan {iq : Item} (s : State) (c : Ctx) (hq : iq.off foot_leaveOrphan = true) : itm iq (State.leaveOrphan s c) = itm iq s := by
  delta foot_leaveOrphan at hq
  simp only [off_spots, off_cons_cons, off_nil, List.all_cons, List.all_nil, Bool.and_true, Bool.and_eq_true] at hq
  simp [hq, State.leaveOrphan]

def foot_freeEngines : List Spot := spots [foot_endInj, foot_modCap, foot_endCap] []

@[simp] theorem it_freeEngines {iq : Item} (s : State) (c : Ctx) (hq : iq.off foot_freeEngines = true) : itm iq (State.freeEngines s c) = itm iq s := by
  delta foot_freeEngines at hq
  simp only [off_spots, off_cons_cons, off_nil, List.all_cons, List.all_nil, Bool.and_true, Bool.and_eq_true] at hq
  simp only [State.freeEngines]
  (repeat' split) <;> simp [hq]

def foot_withdrawAppend : List Spot := spots [foot_modBreath] []

@[simp] theorem it_withdrawAppend {iq : Item} (s : State) (n : Nat) (hq : iq.off foot_withdrawAppend = true) : itm iq (State.withdrawAppend s n) = itm iq s := by
  delta foot_withdrawAppend at hq
  simp only [off_spots, off_cons_cons, off_nil, List.all_cons, List.all_nil, Bool.and_true, Bool.and_eq_true] at hq
  simp [hq, State.withdrawAppend]

def foot_haltCmd : List Spot := spots [foot_modFw, foot_modFloe, foot_modHost, foot_modDisc, foot_stopRun, foot_withdrawStart, foot_withdrawTray,
  foot_leaveOrphan, foot_freeEngines, foot_withdrawAppend] []

@[simp] theorem it_haltCmd {iq : Item} (s : State) (c : Ctx) (hq : iq.off foot_haltCmd = true) : itm iq (State.haltCmd s c) = itm iq s := by
  delta foot_haltCmd at hq
  simp only [off_spots, off_cons_cons, off_nil, List.all_cons, List.all_nil, Bool.and_true, Bool.and_eq_true] at hq
  simp only [State.haltCmd]
  (repeat' split) <;> simp [hq]

def foot_stopCmd : List Spot := spots [foot_cutCmd, foot_dropReads, foot_haltCmd] []

@[simp] theorem it_stopCmd {iq : Item} (s : State) (c : Ctx) (st : Nat) (hq : iq.off foot_stopCmd = true) : itm iq (State.stopCmd s c st) = itm iq s := by
  delta foot_stopCmd at hq
  simp only [off_spots, off_cons_cons, off_nil, List.all_cons, List.all_nil, Bool.and_true, Bool.and_eq_true] at hq
  simp [hq, State.stopCmd]

def foot_execAbort : List Spot := spots [foot_complete, foot_runCmd, foot_stopCmd] []

theorem it_execAbort {iq : Item} (fn : FnIx) (tag : Nat) (s : State) (hq : iq.off foot_execAbort = true) : itOut iq (execAbort fn tag s) s := by
  delta foot_execAbort at hq
  simp only [off_spots, off_cons_cons, off_nil, List.all_cons, List.all_nil, Bool.and_true, Bool.and_eq_true] at hq
  unfold execAbort
  first | refine it_runCmd _ _ _ _ _ _ ?_ fun t c => ?_ | refine it_runAdmin _ _ _ _ _ ?_ fun t c => ?_ | refine it_runFloe _ _ _ _ _ ?_ fun t c => ?_
  · simp [hq]
  (try dsimp only)
  (repeat' split) <;> simp [hq]

def foot_execCommandDeadline : List Spot := spots [foot_logEntry, foot_fin, foot_stopCmd] []

theorem it_execCommandDeadline {iq : Item} (fn : FnIx) (tag : Nat) (s : State) (hq : iq.off foot_execCommandDeadline = true) : itOut iq (execCommandDeadline fn tag s) s := by
  delta foot_execCommandDeadline at hq
  simp only [off_spots, off_cons_cons, off_nil, List.all_cons, List.all_nil, Bool.and_true, Bool.and_eq_true] at hq
  simp only [execCommandDeadline]
  (repeat' split) <;> simp [hq]

end Sys2Proof.Laws
end

