-- ==== Sys2Proof/Laws/FootDiscRecords.lean ====
section
/-! SUPPORT. What the operations of Machine/DiscRecords.lean may write, and that they leave everything else as it was. -/

namespace Sys2Proof.Laws

open Sys2Proof.Machine

def foot_applyCal : List Spot := spots [foot_modCal, foot_putCal] []

theorem it_applyCal {iq : Item} (s : State) (c : CalImg) (hq : iq.off foot_applyCal = true) {t : State} (h : State.applyCal s c = some t) : itm iq t = itm iq s := by
  delta foot_applyCal at hq
  simp only [off_spots, off_cons_cons, off_nil, List.all_cons, List.all_nil, Bool.and_true, Bool.and_eq_true] at hq
  revert h; simp only [State.applyCal]; (repeat' split) <;> (intro h; first | cases h | skip) <;> simp [hq]

def foot_foreignCal : List Spot := spots [foot_modCal, foot_rampOffsets] []

@[simp] theorem it_foreignCal {iq : Item} (s : State) (n : Nat) (c : CalImg) (hq : iq.off foot_foreignCal = true) : itm iq (State.foreignCal s n c) = itm iq s := by
  delta foot_foreignCal at hq
  simp only [off_spots, off_cons_cons, off_nil, List.all_cons, List.all_nil, Bool.and_true, Bool.and_eq_true] at hq
  simp [hq, State.foreignCal]

end Sys2Proof.Laws
end

