-- ==== Sys2Proof/Laws/FootStateCmds.lean ====
section
/-! SUPPORT. What the operations of Machine/StateCmds.lean may write, and that they leave everything else as it was. -/

namespace Sys2Proof.Laws

open Sys2Proof.Machine

def foot_loadRecords : List Spot := spots [foot_modProfiles, foot_modCal, foot_putCal, foot_foreignCal] []

@[simp] theorem it_loadRecords {iq : Item} (s : State) (n : Nat) (i : MountInfo) (hq : iq.off foot_loadRecords = true) : itm iq (State.loadRecords s n i) = itm iq s := by
  delta foot_loadRecords at hq
  simp only [off_spots, off_cons_cons, off_nil, List.all_cons, List.all_nil, Bool.and_true, Bool.and_eq_true] at hq
  unfold State.loadRecords
  dsimp only
  rw [it_forEach, it_forEach]
  · intro t p; simp [hq]
  · intro t c; (repeat' split) <;> simp [hq]

def foot_joinSet : List Spot := spots [foot_modSet] []

@[simp] theorem it_joinSet {iq : Item} (s : State) (n : Nat) (hq : iq.off foot_joinSet = true) : itm iq (State.joinSet s n) = itm iq s := by
  delta foot_joinSet at hq
  simp only [off_spots, off_cons_cons, off_nil, List.all_cons, List.all_nil, Bool.and_true, Bool.and_eq_true] at hq
  simp only [State.joinSet]
  (repeat' split) <;> simp [hq]

def foot_mountDone : List Spot := spots [foot_emit, foot_modMech, foot_modCals, foot_complete] [.f .MECH_COUNT_MOUNTS]

@[simp] theorem it_mountDone {iq : Item} (s : State) (n : Nat) (c : Option Ctx) (dma : Dma) (hq : iq.off foot_mountDone = true) : itm iq (State.mountDone s n c dma) = itm iq s := by
  delta foot_mountDone at hq
  simp only [off_spots, off_cons_cons, off_nil, List.all_cons, List.all_nil, Bool.and_true, Bool.and_eq_true] at hq
  simp only [State.mountDone]
  (repeat' split) <;> simp [hq]

def foot_setMounted : List Spot := spots [foot_modMech, foot_watchSets, foot_endRun, foot_joinSet] [.f .MECH_STATE_MOUNTED]

@[simp] theorem it_setMounted {iq : Item} (s : State) (n : Nat) (hq : iq.off foot_setMounted = true) : itm iq (State.setMounted s n) = itm iq s := by
  delta foot_setMounted at hq
  simp only [off_spots, off_cons_cons, off_nil, List.all_cons, List.all_nil, Bool.and_true, Bool.and_eq_true] at hq
  simp [hq, State.setMounted]

def foot_mountFails : List Spot := spots [foot_modMech, foot_complete, foot_clearMount, foot_startSpinDown] [.r .MECH_DISC, .f .MECH_DISC_MEDIA]

@[simp] theorem it_mountFails {iq : Item} (s : State) (n media st : Nat) (c : Option Ctx) (hq : iq.off foot_mountFails = true) : itm iq (State.mountFails s n media st c) = itm iq s := by
  delta foot_mountFails at hq
  simp only [off_spots, off_cons_cons, off_nil, List.all_cons, List.all_nil, Bool.and_true, Bool.and_eq_true] at hq
  simp only [State.mountFails]
  (repeat' split) <;> simp [hq]

def foot_readDisc : List Spot := spots [foot_modMech, foot_modDisc, foot_clearMount, foot_loadProfile, foot_startLearning, foot_loadRecords, foot_mountFails] [.r .MECH_DISC,
  .f .MECH_DISC_MEDIA, .f .MECH_DISC_LAYERS, .f .MECH_DISC_SEALED]

@[simp] theorem it_readDisc {iq : Item} (s : State) (n : Nat) (i : MountInfo) (c : Option Ctx) (hq : iq.off foot_readDisc = true) : itm iq (State.readDisc s n i c) = itm iq s := by
  delta foot_readDisc at hq
  simp only [off_spots, off_cons_cons, off_nil, List.all_cons, List.all_nil, Bool.and_true, Bool.and_eq_true] at hq
  simp only [State.readDisc]
  (repeat' split) <;> simp [hq]

def foot_mountStep : List Spot := spots [foot_askLane, foot_wantSpin, foot_acquireAgain, foot_mountDone, foot_setMounted, foot_readDisc] []

@[simp] theorem it_mountStep {iq : Item} (s : State) (n : Nat) (info : Option MountInfo) (c : Option Ctx) (dma : Dma) (hq : iq.off foot_mountStep = true) : itm iq (State.mountStep s n info c dma) = itm iq s := by
  delta foot_mountStep at hq
  simp only [off_spots, off_cons_cons, off_nil, List.all_cons, List.all_nil, Bool.and_true, Bool.and_eq_true] at hq
  simp only [State.mountStep]
  (repeat' split) <;> simp [hq]

def foot_leaveFault : List Spot := spots [foot_clearFault] []

@[simp] theorem it_leaveFault {iq : Item} (s : State) (n : Nat) (hq : iq.off foot_leaveFault = true) : itm iq (State.leaveFault s n) = itm iq s := by
  delta foot_leaveFault at hq
  simp only [off_spots, off_cons_cons, off_nil, List.all_cons, List.all_nil, Bool.and_true, Bool.and_eq_true] at hq
  simp [hq, State.leaveFault]

def foot_runCtx : List Spot := spots [foot_modCtx, foot_dropHint] []

@[simp] theorem it_runCtx {iq : Item} (s : State) (c : Ctx) (hq : iq.off foot_runCtx = true) : itm iq (State.runCtx s c) = itm iq s := by
  delta foot_runCtx at hq
  simp only [off_spots, off_cons_cons, off_nil, List.all_cons, List.all_nil, Bool.and_true, Bool.and_eq_true] at hq
  simp [hq, State.runCtx]

def foot_execMount : List Spot := spots [foot_fin, foot_cutCmd, foot_mountStep, foot_leaveFault, foot_runCtx] []

theorem it_execMount {iq : Item} (fn : FnIx) (tag : Nat) (info : Option MountInfo) (dma : Dma) (s : State) (hq : iq.off foot_execMount = true) : itOut iq (execMount fn tag info dma s) s := by
  delta foot_execMount at hq
  simp only [off_spots, off_cons_cons, off_nil, List.all_cons, List.all_nil, Bool.and_true, Bool.and_eq_true] at hq
  simp only [execMount]
  (repeat' split) <;> simp [hq]

def foot_writeCkpt : List Spot := spots [foot_emit, foot_modDisc] []

@[simp] theorem it_writeCkpt {iq : Item} (s : State) (n : Nat) (hq : iq.off foot_writeCkpt = true) : itm iq (State.writeCkpt s n) = itm iq s := by
  delta foot_writeCkpt at hq
  simp only [off_spots, off_cons_cons, off_nil, List.all_cons, List.all_nil, Bool.and_true, Bool.and_eq_true] at hq
  simp [hq, State.writeCkpt]

def foot_writeProf : List Spot := spots [foot_emit, foot_modProfiles, foot_modDisc] []

@[simp] theorem it_writeProf {iq : Item} (s : State) (n : Nat) (hq : iq.off foot_writeProf = true) : itm iq (State.writeProf s n) = itm iq s := by
  delta foot_writeProf at hq
  simp only [off_spots, off_cons_cons, off_nil, List.all_cons, List.all_nil, Bool.and_true, Bool.and_eq_true] at hq
  simp [hq, State.writeProf]

def foot_unmountActive : List Spot := spots [foot_beginMove, foot_endMove, foot_askLane, foot_startSpinDown, foot_askWrite, foot_endRun, foot_writeCkpt,
  foot_writeProf] []

@[simp] theorem it_unmountActive {iq : Item} (s0 : State) (n target : Nat) (hq : iq.off foot_unmountActive = true) : itm iq (State.unmountActive s0 n target) = itm iq s0 := by
  delta foot_unmountActive at hq
  simp only [off_spots, off_cons_cons, off_nil, List.all_cons, List.all_nil, Bool.and_true, Bool.and_eq_true] at hq
  unfold State.unmountActive
  extract_lets s1 t
  have k1 : itm iq s1 = itm iq s0 := by
    simp only [s1]
    (repeat' split) <;> simp [hq]
  clear_value s1
  split
  · simp [hq, k1]
  · have k2 : itm iq t = itm iq s0 := by simp [hq, t, k1]
    clear_value t
    split
    · exact k2
    · split <;> (rename_i h; have k := (it_fst h (it_askWrite (iq := iq) _ _ _ _ (by simp [hq]))).trans k2)
      · exact k
      · simp [hq, k]
      · dsimp only
        (repeat' split) <;> simp [hq, k]

def foot_unmountStep : List Spot := spots [foot_enterState, foot_beginMove, foot_endMove, foot_clearMount, foot_askTray, foot_completeState, foot_unmountActive] []

@[simp] theorem it_unmountStep {iq : Item} (s : State) (n target : Nat) (hq : iq.off foot_unmountStep = true) : itm iq (State.unmountStep s n target) = itm iq s := by
  delta foot_unmountStep at hq
  simp only [off_spots, off_cons_cons, off_nil, List.all_cons, List.all_nil, Bool.and_true, Bool.and_eq_true] at hq
  simp [hq, State.unmountStep]

def foot_takeOver : List Spot := spots [foot_cancelSpinDown] []

@[simp] theorem it_takeOver {iq : Item} (s : State) (n : Nat) (hq : iq.off foot_takeOver = true) : itm iq (State.takeOver s n) = itm iq s := by
  delta foot_takeOver at hq
  simp only [off_spots, off_cons_cons, off_nil, List.all_cons, List.all_nil, Bool.and_true, Bool.and_eq_true] at hq
  simp [hq, State.takeOver]

def foot_unmountCmd : List Spot := spots [foot_fin, foot_cutCmd, foot_leaveFault, foot_runCtx, foot_unmountStep, foot_takeOver] []

theorem it_unmountCmd {iq : Item} (s : State) (fn tag op target : Nat) (done : Nat → Bool) (hq : iq.off foot_unmountCmd = true) : itOut iq (State.unmountCmd s fn tag op target done) s := by
  delta foot_unmountCmd at hq
  simp only [off_spots, off_cons_cons, off_nil, List.all_cons, List.all_nil, Bool.and_true, Bool.and_eq_true] at hq
  simp only [State.unmountCmd]
  (repeat' split) <;> simp [hq]

def foot_execUnmount : List Spot := spots [foot_unmountCmd] []

theorem it_execUnmount {iq : Item} (fn : FnIx) (tag : Nat) (s : State) (hq : iq.off foot_execUnmount = true) : itOut iq (execUnmount fn tag s) s := by
  delta foot_execUnmount at hq
  simp only [off_spots, off_cons_cons, off_nil, List.all_cons, List.all_nil, Bool.and_true, Bool.and_eq_true] at hq
  exact it_unmountCmd _ _ _ _ _ _ (by simp [hq])

def foot_execEject : List Spot := spots [foot_unmountCmd] []

theorem it_execEject {iq : Item} (fn : FnIx) (tag : Nat) (s : State) (hq : iq.off foot_execEject = true) : itOut iq (execEject fn tag s) s := by
  delta foot_execEject at hq
  simp only [off_spots, off_cons_cons, off_nil, List.all_cons, List.all_nil, Bool.and_true, Bool.and_eq_true] at hq
  exact it_unmountCmd _ _ _ _ _ _ (by simp [hq])

def foot_execLoad : List Spot := spots [foot_fin, foot_beginMove, foot_cutCmd, foot_askTray, foot_leaveFault, foot_runCtx] []

theorem it_execLoad {iq : Item} (fn : FnIx) (tag : Nat) (s : State) (hq : iq.off foot_execLoad = true) : itOut iq (execLoad fn tag s) s := by
  delta foot_execLoad at hq
  simp only [off_spots, off_cons_cons, off_nil, List.all_cons, List.all_nil, Bool.and_true, Bool.and_eq_true] at hq
  simp only [execLoad]
  (repeat' split) <;> simp [hq]

end Sys2Proof.Laws
end

