-- ==== Sys2Proof/Laws/FootFnStops.lean ====
section
/-! SUPPORT. What the operations of Machine/FnStops.lean may write, and that they leave everything else as it was. -/

namespace Sys2Proof.Laws

open Sys2Proof.Machine

def foot_stopFn : List Spot := spots [foot_logEntry, foot_modHost, foot_modFn, foot_dropCtx, foot_dropWrite, foot_withdrawCmd, foot_dropReads,
  foot_haltCmd] [.f .HQP_FN_DISCARD_COUNT, .f .HQP_EVENT_FN_STOP]

@[simp] theorem it_stopFn {iq : Item} (s : State) (fn cause : Nat) (hq : iq.off foot_stopFn = true) : itm iq (State.stopFn s fn cause) = itm iq s := by
  delta foot_stopFn at hq
  simp only [off_spots, off_cons_cons, off_nil, List.all_cons, List.all_nil, Bool.and_true, Bool.and_eq_true] at hq
  simp [hq, State.stopFn]

def foot_portReset : List Spot := spots [foot_dropRoles, foot_resetBar0, foot_stopFn] [.f .HQP_PORT_RESETS, .f .HQP_PORT_WIDTH, .f .HQP_PORT_RATE,
  .f .HQP_PORT_L1, .f .HQP_PORT_UP, .f .HQP_EVENT_PORT_DOWN]

@[simp] theorem it_portReset {iq : Item} (s : State) (p : Nat) (hq : iq.off foot_portReset = true) : itm iq (State.portReset s p) = itm iq s := by
  delta foot_portReset at hq
  simp only [off_spots, off_cons_cons, off_nil, List.all_cons, List.all_nil, Bool.and_true, Bool.and_eq_true] at hq
  simp [hq, State.portReset]

def foot_execHostPortReset : List Spot := spots [foot_fin, foot_portReset] []

theorem it_execHostPortReset {iq : Item} (p : HostPort) (s : State) (hq : iq.off foot_execHostPortReset = true) : itOut iq (execHostPortReset p s) s := by
  delta foot_execHostPortReset at hq
  simp only [off_spots, off_cons_cons, off_nil, List.all_cons, List.all_nil, Bool.and_true, Bool.and_eq_true] at hq
  simp [hq, execHostPortReset]

def foot_execFunctionLevelReset : List Spot := spots [foot_fin, foot_dropRoles, foot_resetBar0, foot_stopFn] []

theorem it_execFunctionLevelReset {iq : Item} (fn : FnIx) (s : State) (hq : iq.off foot_execFunctionLevelReset = true) : itOut iq (execFunctionLevelReset fn s) s := by
  delta foot_execFunctionLevelReset at hq
  simp only [off_spots, off_cons_cons, off_nil, List.all_cons, List.all_nil, Bool.and_true, Bool.and_eq_true] at hq
  simp [hq, execFunctionLevelReset]

def foot_execBusMasterClear : List Spot := spots [foot_modFn, foot_fin, foot_dropRoles, foot_stopFn] []

theorem it_execBusMasterClear {iq : Item} (fn : FnIx) (s : State) (hq : iq.off foot_execBusMasterClear = true) : itOut iq (execBusMasterClear fn s) s := by
  delta foot_execBusMasterClear at hq
  simp only [off_spots, off_cons_cons, off_nil, List.all_cons, List.all_nil, Bool.and_true, Bool.and_eq_true] at hq
  simp [hq, execBusMasterClear]

def foot_execFnDisable : List Spot := spots [foot_fin, foot_regCmd, foot_dropRoles, foot_stopFn] [.f .FN_STAT_FATAL, .f .FN_STAT_CAUSE]

theorem it_execFnDisable {iq : Item} (fn : FnIx) (s : State) (hq : iq.off foot_execFnDisable = true) : itOut iq (execFnDisable fn s) s := by
  delta foot_execFnDisable at hq
  simp only [off_spots, off_cons_cons, off_nil, List.all_cons, List.all_nil, Bool.and_true, Bool.and_eq_true] at hq
  unfold execFnDisable
  refine it_regCmd _ _ (by simp [hq]) fun t => ?_
  simp [hq]

def foot_applyFence : List Spot := spots [foot_endStandby, foot_stopFn] [.f .HQP_FN_STAT_FENCED]

@[simp] theorem it_applyFence {iq : Item} (s : State) (fn : Nat) (hq : iq.off foot_applyFence = true) : itm iq (State.applyFence s fn) = itm iq s := by
  delta foot_applyFence at hq
  simp only [off_spots, off_cons_cons, off_nil, List.all_cons, List.all_nil, Bool.and_true, Bool.and_eq_true] at hq
  simp [hq, State.applyFence]

def foot_execFunctionStopDone : List Spot := spots [foot_modFn, foot_fin] [.f .FN_STAT_RDY, .f .FN_STAT_VER, .f .FN_CTRL_EN, .f .HQP_FN_STAT_FENCED,
  .f .HQP_FENCE_BUSY]

theorem it_execFunctionStopDone {iq : Item} (fn : FnIx) (s : State) (hq : iq.off foot_execFunctionStopDone = true) : itOut iq (execFunctionStopDone fn s) s := by
  delta foot_execFunctionStopDone at hq
  simp only [off_spots, off_cons_cons, off_nil, List.all_cons, List.all_nil, Bool.and_true, Bool.and_eq_true] at hq
  simp [hq, execFunctionStopDone]

def foot_fenceFn : List Spot := spots [foot_modFn, foot_applyFence] [.f .HQP_FENCE_BUSY]

@[simp] theorem it_fenceFn {iq : Item} (s : State) (fn : Nat) (hq : iq.off foot_fenceFn = true) : itm iq (State.fenceFn s fn) = itm iq s := by
  delta foot_fenceFn at hq
  simp only [off_spots, off_cons_cons, off_nil, List.all_cons, List.all_nil, Bool.and_true, Bool.and_eq_true] at hq
  simp [hq, State.fenceFn]

def foot_execFenceFunction : List Spot := spots [foot_fin, foot_regCmd, foot_fenceFn] [.f .HQP_FENCE_TARGET, .f .HQP_FENCE_RESULT]

theorem it_execFenceFunction {iq : Item} (target : Fin 256) (s : State) (hq : iq.off foot_execFenceFunction = true) : itOut iq (execFenceFunction target s) s := by
  delta foot_execFenceFunction at hq
  simp only [off_spots, off_cons_cons, off_nil, List.all_cons, List.all_nil, Bool.and_true, Bool.and_eq_true] at hq
  unfold execFenceFunction
  refine it_regCmd _ _ (by simp [hq]) fun t => ?_
  simp [hq]

def foot_execFencePort : List Spot := spots [foot_fin, foot_regCmd, foot_fenceFn] [.f .HQP_FENCE_TARGET, .f .HQP_FENCE_RESULT]

theorem it_execFencePort {iq : Item} (target : Fin 256) (s : State) (hq : iq.off foot_execFencePort = true) : itOut iq (execFencePort target s) s := by
  delta foot_execFencePort at hq
  simp only [off_spots, off_cons_cons, off_nil, List.all_cons, List.all_nil, Bool.and_true, Bool.and_eq_true] at hq
  unfold execFencePort
  refine it_regCmd _ _ (by simp [hq]) fun t => ?_
  simp [hq]

def foot_execUnfenceFunction : List Spot := spots [foot_fin, foot_regCmd] [.f .HQP_FENCE_RESULT, .f .HQP_FENCE_TARGET, .f .HQP_FN_STAT_FENCED]

theorem it_execUnfenceFunction {iq : Item} (target : Fin 256) (s : State) (hq : iq.off foot_execUnfenceFunction = true) : itOut iq (execUnfenceFunction target s) s := by
  delta foot_execUnfenceFunction at hq
  simp only [off_spots, off_cons_cons, off_nil, List.all_cons, List.all_nil, Bool.and_true, Bool.and_eq_true] at hq
  unfold execUnfenceFunction
  refine it_regCmd _ _ (by simp [hq]) fun t => ?_
  simp [hq]

def foot_execUnfencePort : List Spot := spots [foot_fin, foot_regCmd] [.f .HQP_FENCE_TARGET, .f .HQP_FENCE_RESULT, .f .HQP_FN_STAT_FENCED]

theorem it_execUnfencePort {iq : Item} (target : Fin 256) (s : State) (hq : iq.off foot_execUnfencePort = true) : itOut iq (execUnfencePort target s) s := by
  delta foot_execUnfencePort at hq
  simp only [off_spots, off_cons_cons, off_nil, List.all_cons, List.all_nil, Bool.and_true, Bool.and_eq_true] at hq
  unfold execUnfencePort
  refine it_regCmd _ _ (by simp [hq]) fun t => ?_
  simp [hq]

end Sys2Proof.Laws
end

