-- ==== Sys2Proof/Laws/FootFloeCmds.lean ====
section
/-! SUPPORT. What the operations of Machine/FloeCmds.lean may write, and that they leave everything else as it was. -/

namespace Sys2Proof.Laws

open Sys2Proof.Machine

def foot_fetchUnits : List Spot := spots [foot_wantHead, foot_wantCluster] []

@[simp] theorem it_fetchUnits {iq : Item} (s : State) (l : List (Nat × Nat × Nat)) (hq : iq.off foot_fetchUnits = true) : itm iq (State.fetchUnits s l) = itm iq s := by
  delta foot_fetchUnits at hq
  simp only [off_spots, off_cons_cons, off_nil, List.all_cons, List.all_nil, Bool.and_true, Bool.and_eq_true] at hq
  simp [hq, State.fetchUnits]

def foot_dropUnits : List Spot := spots [foot_dropReads] []

@[simp] theorem it_dropUnits {iq : Item} (s : State) (id : Nat) (x : StripeX) (l : List Nat) (hq : iq.off foot_dropUnits = true) : itm iq (State.dropUnits s id x l) = itm iq s := by
  delta foot_dropUnits at hq
  simp only [off_spots, off_cons_cons, off_nil, List.all_cons, List.all_nil, Bool.and_true, Bool.and_eq_true] at hq
  simp [hq, State.dropUnits]

def foot_execStripeCloseTimeout : List Spot := spots [foot_fin, foot_closeStripe] []

theorem it_execStripeCloseTimeout {iq : Item} (id : Fin 4096) (num : Nat) (s : State) (hq : iq.off foot_execStripeCloseTimeout = true) : itOut iq (execStripeCloseTimeout id num s) s := by
  delta foot_execStripeCloseTimeout at hq
  simp only [off_spots, off_cons_cons, off_nil, List.all_cons, List.all_nil, Bool.and_true, Bool.and_eq_true] at hq
  simp only [execStripeCloseTimeout]
  (repeat' split) <;> simp [hq]

def foot_execResync : List Spot := spots [foot_fin, foot_modStripe, foot_writeParity, foot_fetchUnits, foot_dropUnits] []

theorem it_execResync {iq : Item} (id : Fin 4096) (num : Nat) (s : State) (hq : iq.off foot_execResync = true) : itOut iq (execResync id num s) s := by
  delta foot_execResync at hq
  simp only [off_spots, off_cons_cons, off_nil, List.all_cons, List.all_nil, Bool.and_true, Bool.and_eq_true] at hq
  unfold execResync
  dsimp only
  split
  · simp [hq]
  · split
    · simp [hq]
    · split
      · simp [hq]
      · split
        · simp [hq]
        · rw [it_fin _ _ (by simp [hq]), it_dropUnits (hq := by simp [hq])]
          refine it_forEach _ _ _ fun t i => ?_
          split <;> simp [hq]

def foot_reconFails : List Spot := spots [foot_logEntry, foot_modRead] [.f .FLOE_EVENT_RECON_FAIL]

@[simp] theorem it_reconFails {iq : Item} (s : State) (n layer cluster id num st r0 r1 : Nat) (hq : iq.off foot_reconFails = true) : itm iq (State.reconFails s n layer cluster id num st r0 r1) = itm iq s := by
  delta foot_reconFails at hq
  simp only [off_spots, off_cons_cons, off_nil, List.all_cons, List.all_nil, Bool.and_true, Bool.and_eq_true] at hq
  simp [hq, State.reconFails]

def foot_reconDone : List Spot := spots [foot_modMech, foot_modChan, foot_modRead] [.f .FLOE_EVENT_RECON, .f .FLOE_CNT_RECON_COUNT]

@[simp] theorem it_reconDone {iq : Item} (s : State) (n layer cluster : Nat) (got : List (Nat × List Nat)) (hq : iq.off foot_reconDone = true) : itm iq (State.reconDone s n layer cluster got) = itm iq s := by
  delta foot_reconDone at hq
  simp only [off_spots, off_cons_cons, off_nil, List.all_cons, List.all_nil, Bool.and_true, Bool.and_eq_true] at hq
  unfold State.reconDone
  extract_lets s1 s2
  have k1 : itm iq s1 = itm iq s := it_modRead _ _ _ _ _ (by simp [hq])
  have k2 : itm iq s2 = itm iq s := by
    simp only [s2]
    rw [it_modMech _ _ _ (by simp [hq]), it_bumpBy _ _ _ _ (by simp [hq]), it_raise _ _ _ (by simp [hq]), k1]
  clear_value s2
  split
  · exact k2
  · split
    · exact k2
    · exact (it_modChan _ _ (by simp [hq])).trans k2

def foot_execFloeReconstruct : List Spot := spots [foot_fin, foot_fetchUnits, foot_dropUnits, foot_reconFails, foot_reconDone] []

theorem it_execFloeReconstruct {iq : Item} (mn : Mn) (layer : Fin 16) (cluster : Nat) (s : State) (hq : iq.off foot_execFloeReconstruct = true) : itOut iq (execFloeReconstruct mn layer cluster s) s := by
  delta foot_execFloeReconstruct at hq
  simp only [off_spots, off_cons_cons, off_nil, List.all_cons, List.all_nil, Bool.and_true, Bool.and_eq_true] at hq
  simp only [execFloeReconstruct]
  (repeat' split) <;> simp [hq]

def foot_execFloeRepair : List Spot := spots [foot_logEntry, foot_fin, foot_modChan, foot_ownWrite] [.f .FLOE_EVENT_RECON_FAIL]

theorem it_execFloeRepair {iq : Item} (mn : Mn) (s : State) (hq : iq.off foot_execFloeRepair = true) : itOut iq (execFloeRepair mn s) s := by
  delta foot_execFloeRepair at hq
  simp only [off_spots, off_cons_cons, off_nil, List.all_cons, List.all_nil, Bool.and_true, Bool.and_eq_true] at hq
  unfold execFloeRepair
  split
  · dsimp only
    split
    · simp [hq]
    · split
      · rename_i h; simp [hq, it_ownWrite (iq := iq) _ _ _ _ _ _ _ _ h (by simp [hq])]
      · simp [hq]
  · simp [hq]

def foot_rewriteUnit : List Spot := spots [foot_logEntry, foot_ownWrite] [.f .FLOE_EVENT_RECON_FAIL]

@[simp] theorem it_rewriteUnit {iq : Item} (s : State) (id : Nat) (x : StripeX) (i : Nat) (blocks : List Nat) (hq : iq.off foot_rewriteUnit = true) : itm iq (State.rewriteUnit s id x i blocks) = itm iq s := by
  delta foot_rewriteUnit at hq
  simp only [off_spots, off_cons_cons, off_nil, List.all_cons, List.all_nil, Bool.and_true, Bool.and_eq_true] at hq
  unfold State.rewriteUnit
  dsimp only
  split
  · rfl
  · split
    all_goals (
      rename_i n _ _
      generalize h : State.ownWrite _ _ _ _ _ _ _ = o
      cases o with
      | none => simp [hq]
      | some u => simpa using it_ownWrite (iq := iq) _ _ _ _ _ _ _ _ h (by simp [hq]))

def foot_scrubStripe : List Spot := spots [foot_logEntry, foot_rewriteUnit] [.f .FLOE_CNT_SCRUB_COUNT, .f .FLOE_EVENT_RECON_FAIL, .f .FLOE_EVENT_RECON,
  .f .FLOE_EVENT_SCRUB_MISMATCH, .f .FLOE_CNT_MISMATCH_COUNT, .f .FLOE_EVENT_SCRUB_UNRES]

@[simp] theorem it_scrubStripe {iq : Item} (s : State) (id : Nat) (x : StripeX) (reads : List FloeRead) (hq : iq.off foot_scrubStripe = true) : itm iq (State.scrubStripe s id x reads).1 = itm iq s := by
  delta foot_scrubStripe at hq
  simp only [off_spots, off_cons_cons, off_nil, List.all_cons, List.all_nil, Bool.and_true, Bool.and_eq_true] at hq
  unfold State.scrubStripe
  extract_lets f held s0 us bad lost placed
  have k0 : itm iq s0 = itm iq s := by simp [hq, s0]
  clear_value s0
  split
  · rw [it_forEach, k0]
    intro t i
    split <;> simp [hq]
  · split
    · exact k0
    · clear_value placed
      split <;> simp [hq, k0]

def foot_execScrubTick : List Spot := spots [foot_fin, foot_modSet, foot_fetchUnits, foot_dropUnits, foot_scrubStripe] []

theorem it_execScrubTick {iq : Item} (id : Fin 4096) (s : State) (hq : iq.off foot_execScrubTick = true) : itOut iq (execScrubTick id s) s := by
  delta foot_execScrubTick at hq
  simp only [off_spots, off_cons_cons, off_nil, List.all_cons, List.all_nil, Bool.and_true, Bool.and_eq_true] at hq
  simp only [execScrubTick]
  (repeat' split) <;> simp [hq]

def foot_scrubEnd : List Spot := spots [foot_complete, foot_dropReads] []

@[simp] theorem it_scrubEnd {iq : Item} (s : State) (c : Ctx) (hq : iq.off foot_scrubEnd = true) : itm iq (State.scrubEnd s c) = itm iq s := by
  delta foot_scrubEnd at hq
  simp only [off_spots, off_cons_cons, off_nil, List.all_cons, List.all_nil, Bool.and_true, Bool.and_eq_true] at hq
  simp [hq, State.scrubEnd]

def foot_scrubMember : List Spot := spots [foot_modCtx, foot_startCtx, foot_fetchUnits, foot_dropUnits, foot_scrubStripe, foot_scrubEnd] []

@[simp] theorem it_scrubMember {iq : Item} (s : State) (c : Ctx) (id i : Nat) (hq : iq.off foot_scrubMember = true) : itm iq (State.scrubMember s c id i) = itm iq s := by
  delta foot_scrubMember at hq
  simp only [off_spots, off_cons_cons, off_nil, List.all_cons, List.all_nil, Bool.and_true, Bool.and_eq_true] at hq
  simp only [State.scrubMember]
  (repeat' split) <;> simp [hq]

def foot_execScrub : List Spot := spots [foot_modCtx, foot_runCmd, foot_startCtx, foot_wantHead, foot_wantCluster, foot_refreshCluster, foot_scrubEnd,
  foot_scrubMember] []

theorem it_execScrub {iq : Item} (fn : FnIx) (tag : Nat) (s : State) (hq : iq.off foot_execScrub = true) : itOut iq (execScrub fn tag s) s := by
  delta foot_execScrub at hq
  simp only [off_spots, off_cons_cons, off_nil, List.all_cons, List.all_nil, Bool.and_true, Bool.and_eq_true] at hq
  unfold execScrub
  first | refine it_runCmd _ _ _ _ _ _ ?_ fun t c => ?_ | refine it_runAdmin _ _ _ _ _ ?_ fun t c => ?_ | refine it_runFloe _ _ _ _ _ ?_ fun t c => ?_
  · simp [hq]
  (try dsimp only)
  (repeat' split) <;> simp [hq]

def foot_endRebuild : List Spot := spots [foot_logEntry, foot_complete, foot_modSet, foot_watchSets, foot_joinSet] [.f .FLOE_EVENT_REBUILD_DONE,
  .f .FLOE_EVENT_REBUILD_FAIL]

@[simp] theorem it_endRebuild {iq : Item} (s : State) (id res : Nat) (r : RebuildX) (hq : iq.off foot_endRebuild = true) : itm iq (State.endRebuild s id res r) = itm iq s := by
  delta foot_endRebuild at hq
  simp only [off_spots, off_cons_cons, off_nil, List.all_cons, List.all_nil, Bool.and_true, Bool.and_eq_true] at hq
  simp only [State.endRebuild]
  (repeat' split) <;> simp [hq]

def foot_execRebuildStep : List Spot := spots [foot_fin, foot_modSet, foot_ownWrite, foot_fetchUnits, foot_dropUnits, foot_endRebuild] []

theorem it_execRebuildStep {iq : Item} (id : Fin 4096) (s : State) (hq : iq.off foot_execRebuildStep = true) : itOut iq (execRebuildStep id s) s := by
  delta foot_execRebuildStep at hq
  simp only [off_spots, off_cons_cons, off_nil, List.all_cons, List.all_nil, Bool.and_true, Bool.and_eq_true] at hq
  unfold execRebuildStep
  dsimp only
  split
  · simp [hq]
  · split
    · simp [hq]
    · split
      · split <;> simp [hq]
      · split
        · simp [hq]
        · split
          · simp [hq]
          · split
            · simp [hq]
            · split
              · simp [hq]
              · rename_i h
                split at h <;> (have k := it_ownWrite (iq := iq) _ _ _ _ _ _ _ _ h (by simp [hq]); simp [hq, k])

def foot_runFloe : List Spot := spots [foot_modCtx, foot_fin] []

theorem it_runFloe {iq : Item} (s : State) (fn tag op : Nat) (k : State → Ctx → State) (hq : iq.off foot_runFloe = true) (h : ∀ t c, itm iq (k t c) = itm iq t) : itOut iq (s.runFloe fn tag op k) s := by
  delta foot_runFloe at hq
  simp only [off_spots, off_cons_cons, off_nil, List.all_cons, List.all_nil, Bool.and_true, Bool.and_eq_true] at hq
  unfold State.runFloe
  (repeat' split) <;> simp [h, hq]

def foot_execFloeDefine : List Spot := spots [foot_complete, foot_modSet, foot_watchSets, foot_joinSet, foot_runFloe] []

theorem it_execFloeDefine {iq : Item} (fn : FnIx) (tag : Nat) (data : List Nat) (dma : Dma) (s : State) (hq : iq.off foot_execFloeDefine = true) : itOut iq (execFloeDefine fn tag data dma s) s := by
  delta foot_execFloeDefine at hq
  simp only [off_spots, off_cons_cons, off_nil, List.all_cons, List.all_nil, Bool.and_true, Bool.and_eq_true] at hq
  unfold execFloeDefine
  first | refine it_runCmd _ _ _ _ _ _ ?_ fun t c => ?_ | refine it_runAdmin _ _ _ _ _ ?_ fun t c => ?_ | refine it_runFloe _ _ _ _ _ ?_ fun t c => ?_
  · simp [hq]
  (try dsimp only)
  (repeat' split) <;> simp [hq]

def foot_execFloeDelete : List Spot := spots [foot_modFloe, foot_complete, foot_modSet, foot_closeStripe, foot_runFloe] []

theorem it_execFloeDelete {iq : Item} (fn : FnIx) (tag : Nat) (s : State) (hq : iq.off foot_execFloeDelete = true) : itOut iq (execFloeDelete fn tag s) s := by
  delta foot_execFloeDelete at hq
  simp only [off_spots, off_cons_cons, off_nil, List.all_cons, List.all_nil, Bool.and_true, Bool.and_eq_true] at hq
  unfold execFloeDelete
  first | refine it_runCmd _ _ _ _ _ _ ?_ fun t c => ?_ | refine it_runAdmin _ _ _ _ _ ?_ fun t c => ?_ | refine it_runFloe _ _ _ _ _ ?_ fun t c => ?_
  · simp [hq]
  (try dsimp only)
  (repeat' split) <;> simp [hq]

def foot_execFloeRebuild : List Spot := spots [foot_complete, foot_modSet, foot_watchSets, foot_startCtx, foot_runFloe] []

theorem it_execFloeRebuild {iq : Item} (fn : FnIx) (tag : Nat) (s : State) (hq : iq.off foot_execFloeRebuild = true) : itOut iq (execFloeRebuild fn tag s) s := by
  delta foot_execFloeRebuild at hq
  simp only [off_spots, off_cons_cons, off_nil, List.all_cons, List.all_nil, Bool.and_true, Bool.and_eq_true] at hq
  unfold execFloeRebuild
  first | refine it_runCmd _ _ _ _ _ _ ?_ fun t c => ?_ | refine it_runAdmin _ _ _ _ _ ?_ fun t c => ?_ | refine it_runFloe _ _ _ _ _ ?_ fun t c => ?_
  · simp [hq]
  (try dsimp only)
  (repeat' split) <;> simp [hq]

end Sys2Proof.Laws
end

