-- ==== Sys2Proof/Laws/FootInterlock.lean ====
section
/-! SUPPORT. What the operations of Machine/Interlock.lean may write, and that they leave everything else as it was. -/

namespace Sys2Proof.Laws

open Sys2Proof.Machine

def foot_permitCut : List Spot := spots [foot_modCtx, foot_stopCmd] []

@[simp] theorem it_permitCut {iq : Item} (s : State) (c : Ctx) (hq : iq.off foot_permitCut = true) : itm iq (State.permitCut s c) = itm iq s := by
  delta foot_permitCut at hq
  simp only [off_spots, off_cons_cons, off_nil, List.all_cons, List.all_nil, Bool.and_true, Bool.and_eq_true] at hq
  simp [hq, State.permitCut]

def foot_permitDown : List Spot := spots [foot_noteSafeHold, foot_permitLoss, foot_permitCut] []

@[simp] theorem it_permitDown {iq : Item} (s : State) (n : Nat) (hq : iq.off foot_permitDown = true) : itm iq (State.permitDown s n) = itm iq s := by
  delta foot_permitDown at hq
  simp only [off_spots, off_cons_cons, off_nil, List.all_cons, List.all_nil, Bool.and_true, Bool.and_eq_true] at hq
  simp [hq, State.permitDown]

def foot_permitUp : List Spot := spots [foot_modMech, foot_noteSafeHold] []

@[simp] theorem it_permitUp {iq : Item} (s : State) (n : Nat) (hq : iq.off foot_permitUp = true) : itm iq (State.permitUp s n) = itm iq s := by
  delta foot_permitUp at hq
  simp only [off_spots, off_cons_cons, off_nil, List.all_cons, List.all_nil, Bool.and_true, Bool.and_eq_true] at hq
  simp [hq, State.permitUp]

def foot_permitsLow : List Spot := spots [foot_modIlk] [.f .SAFE_ZONE_LPERMIT, .f .SAFE_CNT_DROPS]

@[simp] theorem it_permitsLow {iq : Item} (s : State) (hq : iq.off foot_permitsLow = true) : itm iq (State.permitsLow s) = itm iq s := by
  delta foot_permitsLow at hq
  simp only [off_spots, off_cons_cons, off_nil, List.all_cons, List.all_nil, Bool.and_true, Bool.and_eq_true] at hq
  simp [hq, State.permitsLow]

def foot_followPermits : List Spot := spots [foot_modIlk, foot_permitDown, foot_permitUp] [.f .SAFE_ZONE_LPERMIT, .f .SAFE_STAT_OK, .f .SAFE_EVENT_DROP,
  .f .SAFE_CNT_DROPS]

@[simp] theorem it_followPermits {iq : Item} (s : State) (hq : iq.off foot_followPermits = true) : itm iq (State.followPermits s) = itm iq s := by
  delta foot_followPermits at hq
  simp only [off_spots, off_cons_cons, off_nil, List.all_cons, List.all_nil, Bool.and_true, Bool.and_eq_true] at hq
  simp [hq, State.followPermits]

def foot_latchFault : List Spot := spots [foot_logEntry, foot_modIlk, foot_followPermits] [.f .SAFE_STAT_FAULT, .f .SAFE_STAT_CAUSE, .f .SAFE_ZONE_ARMED,
  .f .SAFE_EVENT_FAULT, .f .SAFE_CNT_FAULTS]

@[simp] theorem it_latchFault {iq : Item} (s : State) (cause : Nat) (hq : iq.off foot_latchFault = true) : itm iq (State.latchFault s cause) = itm iq s := by
  delta foot_latchFault at hq
  simp only [off_spots, off_cons_cons, off_nil, List.all_cons, List.all_nil, Bool.and_true, Bool.and_eq_true] at hq
  simp [hq, State.latchFault]

def foot_endDisagreement : List Spot := spots [foot_logEntry, foot_modIlk, foot_latchFault] [.f .SAFE_STAT_DISC, .f .SAFE_DISC_LAST_DUR_MS, .f .SAFE_EVENT_TRANSIENT]

@[simp] theorem it_endDisagreement {iq : Item} (s : State) (hq : iq.off foot_endDisagreement = true) : itm iq (State.endDisagreement s) = itm iq s := by
  delta foot_endDisagreement at hq
  simp only [off_spots, off_cons_cons, off_nil, List.all_cons, List.all_nil, Bool.and_true, Bool.and_eq_true] at hq
  simp only [State.endDisagreement]
  (repeat' split) <;> simp [hq]

def foot_leaveClosed : List Spot := spots [foot_logEntry, foot_modIlk, foot_followPermits] [.f .SAFE_ZONE_ARMED]

@[simp] theorem it_leaveClosed {iq : Item} (s : State) (hq : iq.off foot_leaveClosed = true) : itm iq (State.leaveClosed s) = itm iq s := by
  delta foot_leaveClosed at hq
  simp only [off_spots, off_cons_cons, off_nil, List.all_cons, List.all_nil, Bool.and_true, Bool.and_eq_true] at hq
  simp [hq, State.leaveClosed]

def foot_channelsRead : List Spot := spots [foot_modIlk, foot_latchFault, foot_endDisagreement, foot_leaveClosed] [.f .SAFE_STAT_STATE_A, .f .SAFE_STAT_STATE_B,
  .f .SAFE_STAT_DISC, .f .SAFE_DISC_LAST_LAGGED_B]

@[simp] theorem it_channelsRead {iq : Item} (s : State) (a b : Nat) (hq : iq.off foot_channelsRead = true) : itm iq (State.channelsRead s a b) = itm iq s := by
  delta foot_channelsRead at hq
  simp only [off_spots, off_cons_cons, off_nil, List.all_cons, List.all_nil, Bool.and_true, Bool.and_eq_true] at hq
  simp [hq, State.channelsRead]

def foot_takeSamples : List Spot := spots [foot_modIlk] []

@[simp] theorem it_takeSamples {iq : Item} (s : State) (a b : Bool) (hq : iq.off foot_takeSamples = true) : itm iq (State.takeSamples s a b) = itm iq s := by
  delta foot_takeSamples at hq
  simp only [off_spots, off_cons_cons, off_nil, List.all_cons, List.all_nil, Bool.and_true, Bool.and_eq_true] at hq
  simp [hq, State.takeSamples]

def foot_execIlkChannelChange : List Spot := spots [foot_fin, foot_channelsRead, foot_takeSamples] []

theorem it_execIlkChannelChange {iq : Item} (a b : Bool) (s : State) (hq : iq.off foot_execIlkChannelChange = true) : itOut iq (execIlkChannelChange a b s) s := by
  delta foot_execIlkChannelChange at hq
  simp only [off_spots, off_cons_cons, off_nil, List.all_cons, List.all_nil, Bool.and_true, Bool.and_eq_true] at hq
  simp [hq, execIlkChannelChange]

def foot_execPermitHoldDone : List Spot := spots [foot_logEntry, foot_modIlk, foot_fin, foot_followPermits] []

theorem it_execPermitHoldDone {iq : Item} (s : State) (hq : iq.off foot_execPermitHoldDone = true) : itOut iq (execPermitHoldDone s) s := by
  delta foot_execPermitHoldDone at hq
  simp only [off_spots, off_cons_cons, off_nil, List.all_cons, List.all_nil, Bool.and_true, Bool.and_eq_true] at hq
  simp [hq, execPermitHoldDone]

def foot_execDiscrepancyTimeout : List Spot := spots [foot_fin, foot_latchFault] [.f .SAFE_DISC_LAST_DUR_MS]

theorem it_execDiscrepancyTimeout {iq : Item} (s : State) (hq : iq.off foot_execDiscrepancyTimeout = true) : itOut iq (execDiscrepancyTimeout s) s := by
  delta foot_execDiscrepancyTimeout at hq
  simp only [off_spots, off_cons_cons, off_nil, List.all_cons, List.all_nil, Bool.and_true, Bool.and_eq_true] at hq
  simp only [execDiscrepancyTimeout]
  (repeat' split) <;> simp [hq]

def foot_execDisarm : List Spot := spots [foot_modIlk, foot_fin, foot_regCmd, foot_followPermits] [.f .SAFE_ZONE_ARMED]

theorem it_execDisarm {iq : Item} (zones : Fin 256) (s : State) (hq : iq.off foot_execDisarm = true) : itOut iq (execDisarm zones s) s := by
  delta foot_execDisarm at hq
  simp only [off_spots, off_cons_cons, off_nil, List.all_cons, List.all_nil, Bool.and_true, Bool.and_eq_true] at hq
  unfold execDisarm
  refine it_regCmd _ _ (by simp [hq]) fun t => ?_
  simp [hq]

def foot_execArm : List Spot := spots [foot_logEntry, foot_complete, foot_fin, foot_followPermits] [.f .SAFE_STAT_FAULT, .f .SAFE_STAT_CAUSE,
  .f .SAFE_ZONE_ARMED, .f .SAFE_EVENT_ARMED]

theorem it_execArm {iq : Item} (fn : FnIx) (tag : Nat) (s : State) (hq : iq.off foot_execArm = true) : itOut iq (execArm fn tag s) s := by
  delta foot_execArm at hq
  simp only [off_spots, off_cons_cons, off_nil, List.all_cons, List.all_nil, Bool.and_true, Bool.and_eq_true] at hq
  simp only [execArm]
  (repeat' split) <;> simp [hq]

end Sys2Proof.Laws
end

