-- ==== Sys2Proof/Laws/FootAdmin.lean ====
section
/-! SUPPORT. What the operations of Machine/Admin.lean may write, and that they leave everything else as it was. -/

namespace Sys2Proof.Laws

open Sys2Proof.Machine

def foot_runAdmin : List Spot := spots [foot_modCtx, foot_fin] []

theorem it_runAdmin {iq : Item} (s : State) (fn tag op : Nat) (k : State → Ctx → State) (hq : iq.off foot_runAdmin = true) (h : ∀ t c, itm iq (k t c) = itm iq t) : itOut iq (s.runAdmin fn tag op k) s := by
  delta foot_runAdmin at hq
  simp only [off_spots, off_cons_cons, off_nil, List.all_cons, List.all_nil, Bool.and_true, Bool.and_eq_true] at hq
  unfold State.runAdmin
  (repeat' split) <;> simp [h, hq]

theorem it_runAdmin_of {iq : Item} (s : State) (fn tag op : Nat) (k : State → Ctx → State) (hq : iq.off foot_runAdmin = true) (h : ∀ t c, itm iq t = itm iq s → itm iq (k t c) = itm iq s) : itOut iq (s.runAdmin fn tag op k) s := by
  delta foot_runAdmin at hq
  simp only [off_spots, off_cons_cons, off_nil, List.all_cons, List.all_nil, Bool.and_true, Bool.and_eq_true] at hq
  unfold State.runAdmin
  split
  · simp [hq]
  · split
    · simp [hq]
    · rw [it_fin _ _ (by simp [hq])]; exact h _ _ (by simp [hq])

def foot_answer : List Spot := spots [foot_emit, foot_complete] []

@[simp] theorem it_answer {iq : Item} (s : State) (c : Ctx) (dma : Dma) (bytes : List Nat) (r0 r1 : Nat) (hq : iq.off foot_answer = true) : itm iq (State.answer s c dma bytes r0 r1) = itm iq s := by
  delta foot_answer at hq
  simp only [off_spots, off_cons_cons, off_nil, List.all_cons, List.all_nil, Bool.and_true, Bool.and_eq_true] at hq
  simp [hq, State.answer]

def foot_execIdentify : List Spot := spots [foot_runAdmin, foot_answer] []

theorem it_execIdentify {iq : Item} (fn : FnIx) (tag : Nat) (dma : Dma) (s : State) (hq : iq.off foot_execIdentify = true) : itOut iq (execIdentify fn tag dma s) s := by
  delta foot_execIdentify at hq
  simp only [off_spots, off_cons_cons, off_nil, List.all_cons, List.all_nil, Bool.and_true, Bool.and_eq_true] at hq
  unfold execIdentify
  first | refine it_runCmd _ _ _ _ _ _ ?_ fun t c => ?_ | refine it_runAdmin _ _ _ _ _ ?_ fun t c => ?_ | refine it_runFloe _ _ _ _ _ ?_ fun t c => ?_
  · simp [hq]
  (try dsimp only)
  (repeat' split) <;> simp [hq]

def foot_execGetLog : List Spot := spots [foot_complete, foot_runAdmin, foot_answer] []

theorem it_execGetLog {iq : Item} (fn : FnIx) (tag : Nat) (dma : Dma) (s : State) (hq : iq.off foot_execGetLog = true) : itOut iq (execGetLog fn tag dma s) s := by
  delta foot_execGetLog at hq
  simp only [off_spots, off_cons_cons, off_nil, List.all_cons, List.all_nil, Bool.and_true, Bool.and_eq_true] at hq
  unfold execGetLog
  first | refine it_runCmd _ _ _ _ _ _ ?_ fun t c => ?_ | refine it_runAdmin _ _ _ _ _ ?_ fun t c => ?_ | refine it_runFloe _ _ _ _ _ ?_ fun t c => ?_
  · simp [hq]
  (try dsimp only)
  (repeat' split) <;> simp [hq]

def foot_execCreateQp : List Spot := spots [foot_modQp, foot_complete, foot_runAdmin] []

theorem it_execCreateQp {iq : Item} (fn : FnIx) (tag : Nat) (s : State) (hq : iq.off foot_execCreateQp = true) : itOut iq (execCreateQp fn tag s) s := by
  delta foot_execCreateQp at hq
  simp only [off_spots, off_cons_cons, off_nil, List.all_cons, List.all_nil, Bool.and_true, Bool.and_eq_true] at hq
  unfold execCreateQp
  first | refine it_runCmd _ _ _ _ _ _ ?_ fun t c => ?_ | refine it_runAdmin _ _ _ _ _ ?_ fun t c => ?_ | refine it_runFloe _ _ _ _ _ ?_ fun t c => ?_
  · simp [hq]
  (try dsimp only)
  (repeat' split) <;> simp [hq]

def foot_execDeleteQp : List Spot := spots [foot_modQp, foot_complete, foot_finishDelete, foot_runAdmin] []

theorem it_execDeleteQp {iq : Item} (fn : FnIx) (tag : Nat) (s : State) (hq : iq.off foot_execDeleteQp = true) : itOut iq (execDeleteQp fn tag s) s := by
  delta foot_execDeleteQp at hq
  simp only [off_spots, off_cons_cons, off_nil, List.all_cons, List.all_nil, Bool.and_true, Bool.and_eq_true] at hq
  unfold execDeleteQp
  first | refine it_runCmd _ _ _ _ _ _ ?_ fun t c => ?_ | refine it_runAdmin _ _ _ _ _ ?_ fun t c => ?_ | refine it_runFloe _ _ _ _ _ ?_ fun t c => ?_
  · simp [hq]
  (try dsimp only)
  (repeat' split) <;> simp [hq]

def foot_putLease : List Spot := [.r .HQP_LEASE]

@[simp] theorem it_putLease {iq : Item} (s : State) (fn n mode : Nat) (hq : iq.off foot_putLease = true) : itm iq (State.putLease s fn n mode) = itm iq s := by
  delta foot_putLease at hq
  simp only [State.putLease]
  (repeat' split) <;> simp [hq]

def foot_changeLease : List Spot := spots [foot_postEvent, foot_stopCmd, foot_putLease] []

@[simp] theorem it_changeLease {iq : Item} (s : State) (fn n mode : Nat) (hq : iq.off foot_changeLease = true) : itm iq (State.changeLease s fn n mode) = itm iq s := by
  delta foot_changeLease at hq
  simp only [off_spots, off_cons_cons, off_nil, List.all_cons, List.all_nil, Bool.and_true, Bool.and_eq_true] at hq
  simp [hq, State.changeLease]

def foot_execLease : List Spot := spots [foot_modCtx, foot_complete, foot_runAdmin, foot_changeLease] []

theorem it_execLease {iq : Item} (fn : FnIx) (tag : Nat) (s : State) (hq : iq.off foot_execLease = true) : itOut iq (execLease fn tag s) s := by
  delta foot_execLease at hq
  simp only [off_spots, off_cons_cons, off_nil, List.all_cons, List.all_nil, Bool.and_true, Bool.and_eq_true] at hq
  unfold execLease
  first | refine it_runCmd _ _ _ _ _ _ ?_ fun t c => ?_ | refine it_runAdmin _ _ _ _ _ ?_ fun t c => ?_ | refine it_runFloe _ _ _ _ _ ?_ fun t c => ?_
  · simp [hq]
  (try dsimp only)
  (repeat' split) <;> simp [hq]

end Sys2Proof.Laws
end

