-- ==== Sys2Proof/Laws/FootFeatures.lean ====
section
/-! SUPPORT. What the operations of Machine/Features.lean may write, and that they leave everything else as it was. -/

namespace Sys2Proof.Laws

open Sys2Proof.Machine

def foot_loadMatrix : List Spot := spots [foot_modChan] [.f .MOR_EVENT_MTX_LOADED]

@[simp] theorem it_loadMatrix {iq : Item} (s : State) (k : Nat) (b : List Nat) (hq : iq.off foot_loadMatrix = true) : itm iq (State.loadMatrix s k b) = itm iq s := by
  delta foot_loadMatrix at hq
  simp only [off_spots, off_cons_cons, off_nil, List.all_cons, List.all_nil, Bool.and_true, Bool.and_eq_true] at hq
  simp [hq, State.loadMatrix]

def foot_setFeature : List Spot := spots [foot_modHost, foot_modQp, foot_modCirq, foot_modChan, foot_loadMatrix] []

@[simp] theorem it_setFeature {iq : Item} (s : State) (fn fid s0 s1 value : Nat) (b : List Nat) (hq : iq.off foot_setFeature = true) : itm iq (State.setFeature s fn fid s0 s1 value b).1 = itm iq s := by
  delta foot_setFeature at hq
  simp only [off_spots, off_cons_cons, off_nil, List.all_cons, List.all_nil, Bool.and_true, Bool.and_eq_true] at hq
  simp only [State.setFeature]
  (repeat' split) <;> simp [hq]

def foot_execSetFeature : List Spot := spots [foot_complete, foot_runAdmin, foot_setFeature] []

theorem it_execSetFeature {iq : Item} (fn : FnIx) (tag : Nat) (data : List Nat) (dma : Dma) (s : State) (hq : iq.off foot_execSetFeature = true) : itOut iq (execSetFeature fn tag data dma s) s := by
  delta foot_execSetFeature at hq
  simp only [off_spots, off_cons_cons, off_nil, List.all_cons, List.all_nil, Bool.and_true, Bool.and_eq_true] at hq
  unfold execSetFeature
  first | refine it_runCmd _ _ _ _ _ _ ?_ fun t c => ?_ | refine it_runAdmin _ _ _ _ _ ?_ fun t c => ?_ | refine it_runFloe _ _ _ _ _ ?_ fun t c => ?_
  · simp [hq]
  (try dsimp only)
  (repeat' split) <;> simp [hq]

def foot_execGetFeature : List Spot := spots [foot_complete, foot_runAdmin, foot_answer] []

theorem it_execGetFeature {iq : Item} (fn : FnIx) (tag : Nat) (dma : Dma) (s : State) (hq : iq.off foot_execGetFeature = true) : itOut iq (execGetFeature fn tag dma s) s := by
  delta foot_execGetFeature at hq
  simp only [off_spots, off_cons_cons, off_nil, List.all_cons, List.all_nil, Bool.and_true, Bool.and_eq_true] at hq
  unfold execGetFeature
  first | refine it_runCmd _ _ _ _ _ _ ?_ fun t c => ?_ | refine it_runAdmin _ _ _ _ _ ?_ fun t c => ?_ | refine it_runFloe _ _ _ _ _ ?_ fun t c => ?_
  · simp [hq]
  (try dsimp only)
  (repeat' split) <;> simp [hq]

def foot_execCalibSave : List Spot := spots [foot_complete, foot_runAdmin, foot_answer] []

theorem it_execCalibSave {iq : Item} (fn : FnIx) (tag : Nat) (dma : Dma) (s : State) (hq : iq.off foot_execCalibSave = true) : itOut iq (execCalibSave fn tag dma s) s := by
  delta foot_execCalibSave at hq
  simp only [off_spots, off_cons_cons, off_nil, List.all_cons, List.all_nil, Bool.and_true, Bool.and_eq_true] at hq
  unfold execCalibSave
  first | refine it_runCmd _ _ _ _ _ _ ?_ fun t c => ?_ | refine it_runAdmin _ _ _ _ _ ?_ fun t c => ?_ | refine it_runFloe _ _ _ _ _ ?_ fun t c => ?_
  · simp [hq]
  (try dsimp only)
  (repeat' split) <;> simp [hq]

def foot_calRestore : List Spot := spots [foot_putCal] []

@[simp] theorem it_calRestore {iq : Item} (s : State) (scope mn dev : Nat) (recs : List (List Nat)) (hq : iq.off foot_calRestore = true) : itm iq (State.calRestore s scope mn dev recs).1 = itm iq s := by
  delta foot_calRestore at hq
  simp only [off_spots, off_cons_cons, off_nil, List.all_cons, List.all_nil, Bool.and_true, Bool.and_eq_true] at hq
  unfold State.calRestore
  have h : ∀ (l : List (List Nat)) (a : State × Nat × Nat), itm iq (l.foldl (fun (a : State × Nat × Nat) b =>
      if a.1.calApplies scope mn dev b then
        (a.1.putCal (leAt b 0 1) (leAt b 2 2) (calLayer (leAt b 0 1) (leAt b 1 1)) (dwordsOf (b.drop 0x20)), a.2.1 + 1, a.2.2)
      else (a.1, a.2.1, a.2.2 + 1)) a).1 = itm iq a.1 := by
    intro l
    induction l with
    | nil => intro a; rfl
    | cons x r ih => intro a; rw [List.foldl_cons, ih]; split <;> simp [hq]
  exact h _ _

def foot_execCalibRestore : List Spot := spots [foot_complete, foot_runAdmin, foot_calRestore] []

theorem it_execCalibRestore {iq : Item} (fn : FnIx) (tag : Nat) (data : List Nat) (dma : Dma) (s : State) (hq : iq.off foot_execCalibRestore = true) : itOut iq (execCalibRestore fn tag data dma s) s := by
  delta foot_execCalibRestore at hq
  simp only [off_spots, off_cons_cons, off_nil, List.all_cons, List.all_nil, Bool.and_true, Bool.and_eq_true] at hq
  unfold execCalibRestore
  first | refine it_runCmd _ _ _ _ _ _ ?_ fun t c => ?_ | refine it_runAdmin _ _ _ _ _ ?_ fun t c => ?_ | refine it_runFloe _ _ _ _ _ ?_ fun t c => ?_
  · simp [hq]
  (try dsimp only)
  (repeat' split) <;> simp [hq]

end Sys2Proof.Laws
end

