-- ==== Sys2Proof/Laws/FootMemOps.lean ====
section
/-! SUPPORT. What the operations of Machine/MemOps.lean may write, and that they leave everything else as it was. -/

namespace Sys2Proof.Laws

open Sys2Proof.Machine

def foot_modMem : List Spot := [.p .memx]

@[simp] theorem it_modMem {iq : Item} (s : State) (f : MemX → MemX) (hq : iq.off foot_modMem = true) : itm iq (State.modMem s f) = itm iq s := by
  delta foot_modMem at hq
  simp [hq, State.modMem]

def foot_sramWrite : List Spot := spots [foot_modMem] []

@[simp] theorem it_sramWrite {iq : Item} (s : State) (bank word v : Nat) (hq : iq.off foot_sramWrite = true) : itm iq (State.sramWrite s bank word v) = itm iq s := by
  delta foot_sramWrite at hq
  simp only [off_spots, off_cons_cons, off_nil, List.all_cons, List.all_nil, Bool.and_true, Bool.and_eq_true] at hq
  simp [hq, State.sramWrite]

def foot_recordEcc : List Spot := spots [foot_logEntry, foot_modMem] [.r .MEM_ECC_LAST, .f .MEM_ECC_ADDR_LINE, .f .MEM_ECC_CNT_CE_DATA, .f .MEM_DDR_ECC_CNT_CE_DATA,
  .f .MEM_EVENT_CE_DATA, .f .MEM_EVENT_DDR_CE, .f .MEM_ECC_CNT_CE_CHECK, .f .MEM_DDR_ECC_CNT_CE_CHECK, .f .MEM_EVENT_CE_CHECK, .f .MEM_ECC_CNT_UE,
  .f .MEM_DDR_ECC_CNT_UE, .f .MEM_EVENT_UE, .f .MEM_EVENT_DDR_UE]

@[simp] theorem it_recordEcc {iq : Item} (s : State) (loc req cls word line : Nat) (hq : iq.off foot_recordEcc = true) : itm iq (State.recordEcc s loc req cls word line) = itm iq s := by
  delta foot_recordEcc at hq
  simp only [off_spots, off_cons_cons, off_nil, List.all_cons, List.all_nil, Bool.and_true, Bool.and_eq_true] at hq
  unfold State.recordEcc
  by_cases h1 : cls = 1 <;> by_cases h2 : cls = 2 <;> by_cases hd : 48 ≤ loc <;> simp [h1, h2, hd, hq] <;> (repeat' split) <;> simp [hq]

def foot_modBank : List Spot := spots [foot_modMem] []

@[simp] theorem it_modBank {iq : Item} (s : State) (b : Nat) (f : BankX → BankX) (hq : iq.off foot_modBank = true) : itm iq (State.modBank s b f) = itm iq s := by
  delta foot_modBank at hq
  simp only [off_spots, off_cons_cons, off_nil, List.all_cons, List.all_nil, Bool.and_true, Bool.and_eq_true] at hq
  simp [hq, State.modBank]

def foot_dropMerge : List Spot := spots [foot_modBank] []

@[simp] theorem it_dropMerge {iq : Item} (s : State) (b word : Nat) (hq : iq.off foot_dropMerge = true) : itm iq (State.dropMerge s b word) = itm iq s := by
  delta foot_dropMerge at hq
  simp only [off_spots, off_cons_cons, off_nil, List.all_cons, List.all_nil, Bool.and_true, Bool.and_eq_true] at hq
  simp [hq, State.dropMerge]

def foot_bankWrite : List Spot := spots [foot_sramWrite, foot_modBank, foot_dropMerge] []

@[simp] theorem it_bankWrite {iq : Item} (s : State) (b word mask value req : Nat) (hq : iq.off foot_bankWrite = true) : itm iq (State.bankWrite s b word mask value req) = itm iq s := by
  delta foot_bankWrite at hq
  simp only [off_spots, off_cons_cons, off_nil, List.all_cons, List.all_nil, Bool.and_true, Bool.and_eq_true] at hq
  simp [hq, State.bankWrite]

def foot_passWord : List Spot := spots [foot_modBank, foot_bankWrite] []

@[simp] theorem it_passWord {iq : Item} (s : State) (b : Nat) (r : BankReq) (hq : iq.off foot_passWord = true) : itm iq (State.passWord s b r) = itm iq s := by
  delta foot_passWord at hq
  simp only [off_spots, off_cons_cons, off_nil, List.all_cons, List.all_nil, Bool.and_true, Bool.and_eq_true] at hq
  simp only [State.passWord]
  (repeat' split) <;> simp [hq]

def foot_bankCycle : List Spot := spots [foot_modBank, foot_passWord] []

@[simp] theorem it_bankCycle {iq : Item} (s : State) (b : Nat) (arrive : List BankReq) (hq : iq.off foot_bankCycle = true) : itm iq (State.bankCycle s b arrive) = itm iq s := by
  delta foot_bankCycle at hq
  simp only [off_spots, off_cons_cons, off_nil, List.all_cons, List.all_nil, Bool.and_true, Bool.and_eq_true] at hq
  simp only [State.bankCycle]
  (repeat' split) <;> simp [hq]

def foot_modDdr : List Spot := spots [foot_modMem] []

@[simp] theorem it_modDdr {iq : Item} (s : State) (ch : Nat) (f : ChanX → ChanX) (hq : iq.off foot_modDdr = true) : itm iq (State.modDdr s ch f) = itm iq s := by
  delta foot_modDdr at hq
  simp only [off_spots, off_cons_cons, off_nil, List.all_cons, List.all_nil, Bool.and_true, Bool.and_eq_true] at hq
  simp [hq, State.modDdr]

def foot_leaveSr : List Spot := spots [foot_applyDelays] [.f .MEM_DDR_STAT_IN_SR, .f .MEM_DDR_CMD_BUSY]

@[simp] theorem it_leaveSr {iq : Item} (s : State) (ch : Nat) (hq : iq.off foot_leaveSr = true) : itm iq (State.leaveSr s ch) = itm iq s := by
  delta foot_leaveSr at hq
  simp only [off_spots, off_cons_cons, off_nil, List.all_cons, List.all_nil, Bool.and_true, Bool.and_eq_true] at hq
  simp [hq, State.leaveSr]

def foot_chanCycle : List Spot := spots [foot_modDdr, foot_leaveSr] []

@[simp] theorem it_chanCycle {iq : Item} (s : State) (ch : Nat) (arrive : List DramReq) (ready : List Nat) (hq : iq.off foot_chanCycle = true) : itm iq (State.chanCycle s ch arrive ready) = itm iq s := by
  delta foot_chanCycle at hq
  simp only [off_spots, off_cons_cons, off_nil, List.all_cons, List.all_nil, Bool.and_true, Bool.and_eq_true] at hq
  simp [hq, State.chanCycle]

def foot_modRime : List Spot := spots [foot_modMem] []

@[simp] theorem it_modRime {iq : Item} (s : State) (f : RimeX → RimeX) (hq : iq.off foot_modRime = true) : itm iq (State.modRime s f) = itm iq s := by
  delta foot_modRime at hq
  simp only [off_spots, off_cons_cons, off_nil, List.all_cons, List.all_nil, Bool.and_true, Bool.and_eq_true] at hq
  simp [hq, State.modRime]

def foot_showRime : List Spot := [.f .MEM_RIME_STAT_DIRTY, .f .MEM_RIME_STAT_SIDE]

@[simp] theorem it_showRime {iq : Item} (s : State) (hq : iq.off foot_showRime = true) : itm iq (State.showRime s) = itm iq s := by
  delta foot_showRime at hq
  simp only [off_spots, off_cons_cons, off_nil, List.all_cons, List.all_nil, Bool.and_true, Bool.and_eq_true] at hq
  simp [hq, State.showRime]

def foot_evictLine : List Spot := spots [foot_recordEcc, foot_modRime] []

@[simp] theorem it_evictLine {iq : Item} (s : State) (bank : Nat) (lost : Option Nat) (l : RimeLine) (hq : iq.off foot_evictLine = true) : itm iq (State.evictLine s bank lost l) = itm iq s := by
  delta foot_evictLine at hq
  simp only [off_spots, off_cons_cons, off_nil, List.all_cons, List.all_nil, Bool.and_true, Bool.and_eq_true] at hq
  simp [hq, State.evictLine]

def foot_allocLine : List Spot := spots [foot_modRime, foot_evictLine] []

@[simp] theorem it_allocLine {iq : Item} (s : State) (lost : Option Nat) (l : RimeLine) (hq : iq.off foot_allocLine = true) : itm iq (State.allocLine s lost l) = itm iq s := by
  delta foot_allocLine at hq
  simp only [off_spots, off_cons_cons, off_nil, List.all_cons, List.all_nil, Bool.and_true, Bool.and_eq_true] at hq
  simp only [State.allocLine]
  (repeat' split) <;> simp [hq]

def foot_fillLine : List Spot := spots [foot_recordEcc] []

theorem it_fillLine {iq : Item} (s : State) (r : RimeReq) (hq : iq.off foot_fillLine = true) : itm iq (s.fillLine r).2 = itm iq s := by
  delta foot_fillLine at hq
  simp only [off_spots, off_cons_cons, off_nil, List.all_cons, List.all_nil, Bool.and_true, Bool.and_eq_true] at hq
  unfold State.fillLine
  dsimp only
  (repeat' split) <;> simp [hq]

def foot_rimeDemand : List Spot := spots [foot_modRime, foot_allocLine, foot_fillLine] [.f .MEM_RIME_CNT_HIT_COUNT, .f .MEM_RIME_CNT_SIDE_COUNT,
  .f .MEM_RIME_CNT_EVB_COUNT, .f .MEM_RIME_CNT_MISS_COUNT]

@[simp] theorem it_rimeDemand {iq : Item} (s : State) (r : RimeReq) (hq : iq.off foot_rimeDemand = true) : itm iq (State.rimeDemand s r) = itm iq s := by
  delta foot_rimeDemand at hq
  simp only [off_spots, off_cons_cons, off_nil, List.all_cons, List.all_nil, Bool.and_true, Bool.and_eq_true] at hq
  unfold State.rimeDemand
  extract_lets ways x e1 m1
  have k1 : itm iq e1 = itm iq s := it_bump _ _ _ (by simp [hq])
  have k2 : itm iq m1 = itm iq s := it_bump _ _ _ (by simp [hq])
  clear_value e1 m1
  split
  · simp [hq]
  · split
    · simp [hq]
    · dsimp only
      (repeat' split) <;> simp [hq, k1]
    · split
      · simp [hq, k2]
      · dsimp only
        split <;> simp [hq, k2, it_fillLine]

def foot_rimePrefetch : List Spot := spots [foot_modRime, foot_fillLine] []

@[simp] theorem it_rimePrefetch {iq : Item} (s : State) (r : RimeReq) (hq : iq.off foot_rimePrefetch = true) : itm iq (State.rimePrefetch s r) = itm iq s := by
  delta foot_rimePrefetch at hq
  simp only [off_spots, off_cons_cons, off_nil, List.all_cons, List.all_nil, Bool.and_true, Bool.and_eq_true] at hq
  unfold State.rimePrefetch
  dsimp only
  split
  · rfl
  · simp [hq, it_fillLine]

def foot_rimeBypass : List Spot := spots [foot_modRime, foot_fillLine] []

@[simp] theorem it_rimeBypass {iq : Item} (s : State) (r : RimeReq) (hq : iq.off foot_rimeBypass = true) : itm iq (State.rimeBypass s r) = itm iq s := by
  delta foot_rimeBypass at hq
  simp only [off_spots, off_cons_cons, off_nil, List.all_cons, List.all_nil, Bool.and_true, Bool.and_eq_true] at hq
  unfold State.rimeBypass
  split <;> simp [hq, it_fillLine]

def foot_rimeRequest : List Spot := spots [foot_rimeDemand, foot_rimePrefetch, foot_rimeBypass] []

@[simp] theorem it_rimeRequest {iq : Item} (s : State) (r : RimeReq) (hq : iq.off foot_rimeRequest = true) : itm iq (State.rimeRequest s r) = itm iq s := by
  delta foot_rimeRequest at hq
  simp only [off_spots, off_cons_cons, off_nil, List.all_cons, List.all_nil, Bool.and_true, Bool.and_eq_true] at hq
  simp only [State.rimeRequest]
  (repeat' split) <;> simp [hq]

def foot_memCycle : List Spot := spots [foot_bankCycle, foot_chanCycle, foot_modRime, foot_showRime, foot_rimeRequest] []

@[simp] theorem it_memCycle {iq : Item} (s : State) (c : MemCycle) (hq : iq.off foot_memCycle = true) : itm iq (State.memCycle s c) = itm iq s := by
  delta foot_memCycle at hq
  simp only [off_spots, off_cons_cons, off_nil, List.all_cons, List.all_nil, Bool.and_true, Bool.and_eq_true] at hq
  simp [hq, State.memCycle]

def foot_memTick : List Spot := spots [foot_memCycle] [.p .free]

@[simp] theorem it_memTick {iq : Item} (s : State) (hq : iq.off foot_memTick = true) : itm iq (State.memTick s) = itm iq s := by
  delta foot_memTick at hq
  simp only [off_spots, off_cons_cons, off_nil, List.all_cons, List.all_nil, Bool.and_true, Bool.and_eq_true] at hq
  simp [hq, State.memTick]

end Sys2Proof.Laws
end

