-- ==== Sys2Proof/Laws/FootMemory.lean ====
section
/-! SUPPORT. What the operations of Machine/Memory.lean may write, and that they leave everything else as it was. -/

namespace Sys2Proof.Laws

open Sys2Proof.Machine

def foot_recordHit : List Spot := spots [foot_stopCmd, foot_recordEcc] []

@[simp] theorem it_recordHit {iq : Item} (s : State) (h : EccHit) (hq : iq.off foot_recordHit = true) : itm iq (State.recordHit s h) = itm iq s := by
  delta foot_recordHit at hq
  simp only [off_spots, off_cons_cons, off_nil, List.all_cons, List.all_nil, Bool.and_true, Bool.and_eq_true] at hq
  simp only [State.recordHit]
  (repeat' split) <;> simp [hq]

def foot_execCeWriteback : List Spot := spots [foot_fin, foot_modMem] []

theorem it_execCeWriteback {iq : Item} (bank : Fin 48) (word : Fin 262144) (s : State) (hq : iq.off foot_execCeWriteback = true) : itOut iq (execCeWriteback bank word s) s := by
  delta foot_execCeWriteback at hq
  simp only [off_spots, off_cons_cons, off_nil, List.all_cons, List.all_nil, Bool.and_true, Bool.and_eq_true] at hq
  simp [hq, execCeWriteback]

def foot_execPatrolScrub : List Spot := spots [foot_fin, foot_modMem, foot_recordEcc] []

theorem it_execPatrolScrub {iq : Item} (dram : Bool) (hit : Option EccHit) (s : State) (hq : iq.off foot_execPatrolScrub = true) : itOut iq (execPatrolScrub dram hit s) s := by
  delta foot_execPatrolScrub at hq
  simp only [off_spots, off_cons_cons, off_nil, List.all_cons, List.all_nil, Bool.and_true, Bool.and_eq_true] at hq
  simp only [execPatrolScrub]
  (repeat' split) <;> simp [hq]

def foot_execMergeFlush : List Spot := spots [foot_logEntry, foot_fin, foot_sramWrite, foot_recordEcc, foot_dropMerge] [.f .MEM_EVENT_MERGE_UE]

theorem it_execMergeFlush {iq : Item} (bank : Fin 48) (word : Fin 262144) (cls : Fin 4) (s : State) (hq : iq.off foot_execMergeFlush = true) : itOut iq (execMergeFlush bank word cls s) s := by
  delta foot_execMergeFlush at hq
  simp only [off_spots, off_cons_cons, off_nil, List.all_cons, List.all_nil, Bool.and_true, Bool.and_eq_true] at hq
  simp only [execMergeFlush]
  (repeat' split) <;> simp [hq]

def foot_haltDma : List Spot := spots [foot_logEntry, foot_modMem] [.f .MEM_DMA_STAT_CSTATE, .f .MEM_DMA_STAT_CAUSE, .f .MEM_DMA_STAT_HALTS, .f .MEM_EVENT_DMA_HALT]

@[simp] theorem it_haltDma {iq : Item} (s : State) (k cause : Nat) (hq : iq.off foot_haltDma = true) : itm iq (State.haltDma s k cause) = itm iq s := by
  delta foot_haltDma at hq
  simp only [off_spots, off_cons_cons, off_nil, List.all_cons, List.all_nil, Bool.and_true, Bool.and_eq_true] at hq
  simp [hq, State.haltDma]

def foot_eraseCw : List Spot := spots [foot_verdict, foot_dropCw] []

@[simp] theorem it_eraseCw {iq : Item} (s : State) (id : Nat) (hq : iq.off foot_eraseCw = true) : itm iq (State.eraseCw s id) = itm iq s := by
  delta foot_eraseCw at hq
  simp only [off_spots, off_cons_cons, off_nil, List.all_cons, List.all_nil, Bool.and_true, Bool.and_eq_true] at hq
  simp only [State.eraseCw]
  (repeat' split) <;> simp [hq]

def foot_failTransfers : List Spot := spots [foot_loseEntry, foot_stopCmd, foot_eraseCw] []

@[simp] theorem it_failTransfers {iq : Item} (s : State) (cmds : List (FnIx × Nat)) (lost : List Nat) (cw : Option Nat) (hq : iq.off foot_failTransfers = true) : itm iq (State.failTransfers s cmds lost cw) = itm iq s := by
  delta foot_failTransfers at hq
  simp only [off_spots, off_cons_cons, off_nil, List.all_cons, List.all_nil, Bool.and_true, Bool.and_eq_true] at hq
  unfold State.failTransfers
  extract_lets s1 s2
  have k1 : itm iq s1 = itm iq s := by
    simp only [s1]
    refine it_forEach _ _ _ fun t x => ?_
    split <;> simp [hq]
  have k2 : itm iq s2 = itm iq s := by
    simp only [s2]
    rw [it_forEach, k1]; intro t a; simp [hq]
  clear_value s2
  split <;> simp [hq, k2]

def foot_execDmaHalt : List Spot := spots [foot_fin, foot_recordHit, foot_haltDma, foot_failTransfers] []

theorem it_execDmaHalt {iq : Item} (k : Fin 24) (ecc : Option EccHit) (cmds : List (FnIx × Nat)) (lost : List Nat) (cw : Option Nat) (s : State) (hq : iq.off foot_execDmaHalt = true) : itOut iq (execDmaHalt k ecc cmds lost cw s) s := by
  delta foot_execDmaHalt at hq
  simp only [off_spots, off_cons_cons, off_nil, List.all_cons, List.all_nil, Bool.and_true, Bool.and_eq_true] at hq
  simp only [execDmaHalt]
  (repeat' split) <;> simp [hq]

def foot_execDmaRestart : List Spot := spots [foot_fin] [.f .MEM_DMA_STAT_CSTATE, .f .MEM_EVENT_DMA_RESTART]

theorem it_execDmaRestart {iq : Item} (k : Fin 24) (s : State) (hq : iq.off foot_execDmaRestart = true) : itOut iq (execDmaRestart k s) s := by
  delta foot_execDmaRestart at hq
  simp only [off_spots, off_cons_cons, off_nil, List.all_cons, List.all_nil, Bool.and_true, Bool.and_eq_true] at hq
  simp [hq, execDmaRestart]

def foot_execDramRefresh : List Spot := spots [foot_fin, foot_modMem, foot_modDdr] []

theorem it_execDramRefresh {iq : Item} (ch : ChannelIx) (s : State) (hq : iq.off foot_execDramRefresh = true) : itOut iq (execDramRefresh ch s) s := by
  delta foot_execDramRefresh at hq
  simp only [off_spots, off_cons_cons, off_nil, List.all_cons, List.all_nil, Bool.and_true, Bool.and_eq_true] at hq
  simp [hq, execDramRefresh]

def foot_execSelfRefreshEntry : List Spot := spots [foot_fin] [.f .MEM_DDR_STAT_IN_SR]

theorem it_execSelfRefreshEntry {iq : Item} (ch : ChannelIx) (s : State) (hq : iq.off foot_execSelfRefreshEntry = true) : itOut iq (execSelfRefreshEntry ch s) s := by
  delta foot_execSelfRefreshEntry at hq
  simp only [off_spots, off_cons_cons, off_nil, List.all_cons, List.all_nil, Bool.and_true, Bool.and_eq_true] at hq
  simp [hq, execSelfRefreshEntry]

def foot_execDdrApplyDelays : List Spot := spots [foot_applyDelays, foot_fin, foot_regCmd] [.f .MEM_DDR_CMD_RESULT, .f .MEM_DDR_CMD_CH, .f .MEM_DDR_CMD_BUSY]

theorem it_execDdrApplyDelays {iq : Item} (ch : ChannelIx) (s : State) (hq : iq.off foot_execDdrApplyDelays = true) : itOut iq (execDdrApplyDelays ch s) s := by
  delta foot_execDdrApplyDelays at hq
  simp only [off_spots, off_cons_cons, off_nil, List.all_cons, List.all_nil, Bool.and_true, Bool.and_eq_true] at hq
  unfold execDdrApplyDelays
  refine it_regCmd _ _ (by simp [hq]) fun t => ?_
  simp [hq]

def foot_execDdrRetune : List Spot := spots [foot_applyDelays, foot_fin] [.r .MEM_DDR_DLY]

theorem it_execDdrRetune {iq : Item} (ch : ChannelIx) (s : State) (hq : iq.off foot_execDdrRetune = true) : itOut iq (execDdrRetune ch s) s := by
  delta foot_execDdrRetune at hq
  simp only [off_spots, off_cons_cons, off_nil, List.all_cons, List.all_nil, Bool.and_true, Bool.and_eq_true] at hq
  simp [hq, execDdrRetune]

def foot_execDdrTestStart : List Spot := spots [foot_fin, foot_regCmd] [.f .MEM_DDR_TEST_CTRL_CH, .f .MEM_DDR_TEST_CTRL_LEN_KIB, .f .MEM_DDR_TEST_CTRL_PATTERN,
  .f .MEM_DDR_TEST_STAT_RESULT, .f .MEM_DDR_TEST_STAT_BUSY, .f .MEM_DDR_TEST_STAT_FAIL_LANES]

theorem it_execDdrTestStart {iq : Item} (ch : ChannelIx) (pattern : Fin 16) (len : Fin 65536) (fails : Option (Fin 1024)) (s : State) (hq : iq.off foot_execDdrTestStart = true) : itOut iq (execDdrTestStart ch pattern len fails s) s := by
  delta foot_execDdrTestStart at hq
  simp only [off_spots, off_cons_cons, off_nil, List.all_cons, List.all_nil, Bool.and_true, Bool.and_eq_true] at hq
  unfold execDdrTestStart
  refine it_regCmd _ _ (by simp [hq]) fun t => ?_
  (try dsimp only)
  (repeat' split) <;> simp [hq]

def foot_execDdrTestStop : List Spot := spots [foot_fin, foot_regCmd] [.f .MEM_DDR_TEST_STAT_BUSY, .f .MEM_DDR_TEST_STAT_RESULT]

theorem it_execDdrTestStop {iq : Item} (s : State) (hq : iq.off foot_execDdrTestStop = true) : itOut iq (execDdrTestStop s) s := by
  delta foot_execDdrTestStop at hq
  simp only [off_spots, off_cons_cons, off_nil, List.all_cons, List.all_nil, Bool.and_true, Bool.and_eq_true] at hq
  unfold execDdrTestStop
  refine it_regCmd _ _ (by simp [hq]) fun t => ?_
  simp [hq]

def foot_rimeErr : List Spot := [.f .MEM_RIME_CTRL_ERR, .f .MEM_EVENT_RIME_ERR]

@[simp] theorem it_rimeErr {iq : Item} (s : State) (e : Nat) (hq : iq.off foot_rimeErr = true) : itm iq (State.rimeErr s e) = itm iq s := by
  delta foot_rimeErr at hq
  simp only [off_spots, off_cons_cons, off_nil, List.all_cons, List.all_nil, Bool.and_true, Bool.and_eq_true] at hq
  simp [hq, State.rimeErr]

def foot_rimeOp : List Spot := spots [foot_fin, foot_rimeErr] [.f .MEM_RIME_CTRL_ERR]

theorem it_rimeOp {iq : Item} (s : State) (f : State → State) (h : ∀ t, itm iq (f t) = itm iq t) (hq : iq.off foot_rimeOp = true) : itOut iq (s.rimeOp f) s := by
  delta foot_rimeOp at hq
  simp only [off_spots, off_cons_cons, off_nil, List.all_cons, List.all_nil, Bool.and_true, Bool.and_eq_true] at hq
  unfold State.rimeOp
  split <;> simp [hq, h]

def foot_execRimeInvalidate : List Spot := spots [foot_regCmd, foot_modRime, foot_showRime, foot_rimeErr, foot_rimeOp] [.f .MEM_RIME_STAT_INVAL_DONE]

theorem it_execRimeInvalidate {iq : Item} (s : State) (hq : iq.off foot_execRimeInvalidate = true) : itOut iq (execRimeInvalidate s) s := by
  delta foot_execRimeInvalidate at hq
  simp only [off_spots, off_cons_cons, off_nil, List.all_cons, List.all_nil, Bool.and_true, Bool.and_eq_true] at hq
  unfold execRimeInvalidate
  refine it_regCmd _ _ (by simp [hq]) fun t => ?_
  (repeat' split) <;> first | (simp [hq]; done) | (refine it_rimeOp _ _ (fun u => ?_) (by simp [hq]); (repeat' split) <;> simp [hq])

def foot_execRimeFlush : List Spot := spots [foot_regCmd, foot_modRime, foot_showRime, foot_rimeOp] []

theorem it_execRimeFlush {iq : Item} (s : State) (hq : iq.off foot_execRimeFlush = true) : itOut iq (execRimeFlush s) s := by
  delta foot_execRimeFlush at hq
  simp only [off_spots, off_cons_cons, off_nil, List.all_cons, List.all_nil, Bool.and_true, Bool.and_eq_true] at hq
  unfold execRimeFlush
  refine it_regCmd _ _ (by simp [hq]) fun t => ?_
  (repeat' split) <;> first | (simp [hq]; done) | (refine it_rimeOp _ _ (fun u => ?_) (by simp [hq]); (repeat' split) <;> simp [hq])

def foot_execRimeEnable : List Spot := spots [foot_regCmd, foot_rimeErr, foot_rimeOp] [.f .MEM_RIME_CTRL_EN, .f .MEM_RIME_STAT_ENABLED]

theorem it_execRimeEnable {iq : Item} (s : State) (hq : iq.off foot_execRimeEnable = true) : itOut iq (execRimeEnable s) s := by
  delta foot_execRimeEnable at hq
  simp only [off_spots, off_cons_cons, off_nil, List.all_cons, List.all_nil, Bool.and_true, Bool.and_eq_true] at hq
  unfold execRimeEnable
  refine it_regCmd _ _ (by simp [hq]) fun t => ?_
  (repeat' split) <;> first | (simp [hq]; done) | (refine it_rimeOp _ _ (fun u => ?_) (by simp [hq]); (repeat' split) <;> simp [hq])

def foot_rimeOff : List Spot := spots [foot_modRime, foot_showRime] [.f .MEM_RIME_CTRL_EN, .f .MEM_RIME_STAT_ENABLED, .f .MEM_RIME_STAT_INVAL_DONE]

@[simp] theorem it_rimeOff {iq : Item} (s : State) (hq : iq.off foot_rimeOff = true) : itm iq (State.rimeOff s) = itm iq s := by
  delta foot_rimeOff at hq
  simp only [off_spots, off_cons_cons, off_nil, List.all_cons, List.all_nil, Bool.and_true, Bool.and_eq_true] at hq
  simp [hq, State.rimeOff]

def foot_execRimeDisable : List Spot := spots [foot_regCmd, foot_rimeOp, foot_rimeOff] []

theorem it_execRimeDisable {iq : Item} (s : State) (hq : iq.off foot_execRimeDisable = true) : itOut iq (execRimeDisable s) s := by
  delta foot_execRimeDisable at hq
  simp only [off_spots, off_cons_cons, off_nil, List.all_cons, List.all_nil, Bool.and_true, Bool.and_eq_true] at hq
  unfold execRimeDisable
  refine it_regCmd _ _ (by simp [hq]) fun t => ?_
  (repeat' split) <;> first | (simp [hq]; done) | (refine it_rimeOp _ _ (fun u => ?_) (by simp [hq]); (repeat' split) <;> simp [hq])

def foot_execRimeWaysChange : List Spot := spots [foot_fin, foot_regCmd, foot_rimeErr, foot_rimeOp] [.f .MEM_RIME_CTRL_WAYS, .f .MEM_RIME_STAT_INVAL_DONE]

theorem it_execRimeWaysChange {iq : Item} (ways : Fin 32) (s : State) (hq : iq.off foot_execRimeWaysChange = true) : itOut iq (execRimeWaysChange ways s) s := by
  delta foot_execRimeWaysChange at hq
  simp only [off_spots, off_cons_cons, off_nil, List.all_cons, List.all_nil, Bool.and_true, Bool.and_eq_true] at hq
  unfold execRimeWaysChange
  refine it_regCmd _ _ (by simp [hq]) fun t => ?_
  (repeat' split) <;> first | (simp [hq]; done) | (refine it_rimeOp _ _ (fun u => ?_) (by simp [hq]); (repeat' split) <;> simp [hq])

def foot_execDimmTempRead : List Spot := spots [foot_fin, foot_modMem] []

theorem it_execDimmTempRead {iq : Item} (ch : ChannelIx) (temp : Int) (s : State) (hq : iq.off foot_execDimmTempRead = true) : itOut iq (execDimmTempRead ch temp s) s := by
  delta foot_execDimmTempRead at hq
  simp only [off_spots, off_cons_cons, off_nil, List.all_cons, List.all_nil, Bool.and_true, Bool.and_eq_true] at hq
  simp [hq, execDimmTempRead]

end Sys2Proof.Laws
end

