-- ==== Sys2Proof/Laws/FootCores.lean ====
section
/-! SUPPORT. What the operations of Machine/Cores.lean may write, and that they leave everything else as it was. -/

namespace Sys2Proof.Laws

open Sys2Proof.Machine

def foot_tracePut : List Spot := spots [foot_modMem] [.f .MCORE_TRACE_PTR_NEXT, .f .MCORE_TRACE_PTR_WRAPPED]

@[simp] theorem it_tracePut {iq : Item} (s : State) (c : Nat) (r : TraceRec) (hq : iq.off foot_tracePut = true) : itm iq (State.tracePut s c r) = itm iq s := by
  delta foot_tracePut at hq
  simp only [off_spots, off_cons_cons, off_nil, List.all_cons, List.all_nil, Bool.and_true, Bool.and_eq_true] at hq
  simp [hq, State.tracePut]

def foot_traceOne : List Spot := spots [foot_tracePut] [.p .free]

@[simp] theorem it_traceOne {iq : Item} (s : State) (c type pc : Nat) (hq : iq.off foot_traceOne = true) : itm iq (State.traceOne s c type pc) = itm iq s := by
  delta foot_traceOne at hq
  simp only [off_spots, off_cons_cons, off_nil, List.all_cons, List.all_nil, Bool.and_true, Bool.and_eq_true] at hq
  simp [hq, State.traceOne]

def foot_traceSync : List Spot := spots [foot_traceOne] []

@[simp] theorem it_traceSync {iq : Item} (s : State) (c pc : Nat) (hq : iq.off foot_traceSync = true) : itm iq (State.traceSync s c pc) = itm iq s := by
  delta foot_traceSync at hq
  simp only [off_spots, off_cons_cons, off_nil, List.all_cons, List.all_nil, Bool.and_true, Bool.and_eq_true] at hq
  simp [hq, State.traceSync]

def foot_traceEvent : List Spot := spots [foot_traceOne, foot_traceSync] []

@[simp] theorem it_traceEvent {iq : Item} (s : State) (c type pc : Nat) (hq : iq.off foot_traceEvent = true) : itm iq (State.traceEvent s c type pc) = itm iq s := by
  delta foot_traceEvent at hq
  simp only [off_spots, off_cons_cons, off_nil, List.all_cons, List.all_nil, Bool.and_true, Bool.and_eq_true] at hq
  simp [hq, State.traceEvent]

def foot_traceBranch : List Spot := spots [foot_tracePut, foot_traceSync] []

@[simp] theorem it_traceBranch {iq : Item} (s : State) (c icnt pc : Nat) (hq : iq.off foot_traceBranch = true) : itm iq (State.traceBranch s c icnt pc) = itm iq s := by
  delta foot_traceBranch at hq
  simp only [off_spots, off_cons_cons, off_nil, List.all_cons, List.all_nil, Bool.and_true, Bool.and_eq_true] at hq
  simp [hq, State.traceBranch]

def foot_beat : List Spot := spots [foot_modMem] []

@[simp] theorem it_beat {iq : Item} (s : State) (c : Nat) (hq : iq.off foot_beat = true) : itm iq (State.beat s c) = itm iq s := by
  delta foot_beat at hq
  simp only [off_spots, off_cons_cons, off_nil, List.all_cons, List.all_nil, Bool.and_true, Bool.and_eq_true] at hq
  simp [hq, State.beat]

def foot_startCore : List Spot := spots [foot_beat] [.f .MCORE_STAT_CSTATE]

@[simp] theorem it_startCore {iq : Item} (s : State) (c : Nat) (hq : iq.off foot_startCore = true) : itm iq (State.startCore s c) = itm iq s := by
  delta foot_startCore at hq
  simp only [off_spots, off_cons_cons, off_nil, List.all_cons, List.all_nil, Bool.and_true, Bool.and_eq_true] at hq
  simp [hq, State.startCore]

def foot_coreWork : List Spot := spots [foot_traceBranch, foot_beat] [.f .MCORE_HB_VALUE, .r .MCORE_PERF]

@[simp] theorem it_coreWork {iq : Item} (s : State) (from_ c : Nat) (x : CoreTick) (hq : iq.off foot_coreWork = true) : itm iq (State.coreWork s from_ c x) = itm iq s := by
  delta foot_coreWork at hq
  simp only [off_spots, off_cons_cons, off_nil, List.all_cons, List.all_nil, Bool.and_true, Bool.and_eq_true] at hq
  simp [hq, State.coreWork]

def foot_coreTick : List Spot := spots [foot_coreWork] [.p .free]

@[simp] theorem it_coreTick {iq : Item} (s : State) (from_ : Nat) (hq : iq.off foot_coreTick = true) : itm iq (State.coreTick s from_) = itm iq s := by
  delta foot_coreTick at hq
  simp only [off_spots, off_cons_cons, off_nil, List.all_cons, List.all_nil, Bool.and_true, Bool.and_eq_true] at hq
  simp [hq, State.coreTick]

def foot_passPort : List Spot := spots [foot_abandonRuns] [.r .MCORE_OWN]

@[simp] theorem it_passPort {iq : Item} (s : State) (p c : Nat) (hq : iq.off foot_passPort = true) : itm iq (State.passPort s p c) = itm iq s := by
  delta foot_passPort at hq
  simp only [off_spots, off_cons_cons, off_nil, List.all_cons, List.all_nil, Bool.and_true, Bool.and_eq_true] at hq
  simp [hq, State.passPort]

def foot_followOwners : List Spot := spots [foot_passPort] [.f .MCORE_EVENT_OWNER]

@[simp] theorem it_followOwners {iq : Item} (s : State) (hq : iq.off foot_followOwners = true) : itm iq (State.followOwners s) = itm iq s := by
  delta foot_followOwners at hq
  simp only [off_spots, off_cons_cons, off_nil, List.all_cons, List.all_nil, Bool.and_true, Bool.and_eq_true] at hq
  unfold State.followOwners
  dsimp only
  split
  · rfl
  · rw [it_raise _ _ _ (by simp [hq])]
    refine it_forEach _ _ _ fun t p => ?_
    split <;> simp [hq]

def foot_writeBootRec : List Spot := spots [foot_modFw] [.f .RST_FW_STAT_TRIAL]

@[simp] theorem it_writeBootRec {iq : Item} (s : State) (active prev : Nat) (trial : Bool) (tries : Nat) (hq : iq.off foot_writeBootRec = true) : itm iq (State.writeBootRec s active prev trial tries) = itm iq s := by
  delta foot_writeBootRec at hq
  simp only [off_spots, off_cons_cons, off_nil, List.all_cons, List.all_nil, Bool.and_true, Bool.and_eq_true] at hq
  simp [hq, State.writeBootRec]

def foot_showUpd : List Spot := [.f .DBG_UPD_STAT_PHASE, .f .DBG_UPD_STAT_INDEX]

@[simp] theorem it_showUpd {iq : Item} (s : State) (phase index : Nat) (hq : iq.off foot_showUpd = true) : itm iq (State.showUpd s phase index) = itm iq s := by
  delta foot_showUpd at hq
  simp only [off_spots, off_cons_cons, off_nil, List.all_cons, List.all_nil, Bool.and_true, Bool.and_eq_true] at hq
  simp [hq, State.showUpd]

def foot_rollBack : List Spot := spots [foot_modFw, foot_writeBootRec, foot_showUpd] [.f .DBG_UPD_STAT_BUSY, .f .DBG_UPD_STAT_RESULT]

@[simp] theorem it_rollBack {iq : Item} (s : State) (hq : iq.off foot_rollBack = true) : itm iq (State.rollBack s) = itm iq s := by
  delta foot_rollBack at hq
  simp only [off_spots, off_cons_cons, off_nil, List.all_cons, List.all_nil, Bool.and_true, Bool.and_eq_true] at hq
  simp only [State.rollBack]
  (repeat' split) <;> simp [hq]

def foot_trialFault : List Spot := spots [foot_modFw, foot_rollBack] []

@[simp] theorem it_trialFault {iq : Item} (s : State) (hq : iq.off foot_trialFault = true) : itm iq (State.trialFault s) = itm iq s := by
  delta foot_trialFault at hq
  simp only [off_spots, off_cons_cons, off_nil, List.all_cons, List.all_nil, Bool.and_true, Bool.and_eq_true] at hq
  simp [hq, State.trialFault]

def foot_restartCore : List Spot := spots [foot_logEntry, foot_modFw, foot_traceEvent, foot_followOwners, foot_trialFault] [.f .MCORE_STAT_CSTATE,
  .f .MCORE_STAT_LAST_CAUSE, .f .MCORE_STAT_RESTARTS, .f .MCORE_EVENT_RESTART, .f .MCORE_EVENT_HELD, .p .free]

@[simp] theorem it_restartCore {iq : Item} (s : State) (c cause : Nat) (hq : iq.off foot_restartCore = true) : itm iq (State.restartCore s c cause) = itm iq s := by
  delta foot_restartCore at hq
  simp only [off_spots, off_cons_cons, off_nil, List.all_cons, List.all_nil, Bool.and_true, Bool.and_eq_true] at hq
  simp [hq, State.restartCore]

def foot_trialStart : List Spot := spots [foot_modFw] []

@[simp] theorem it_trialStart {iq : Item} (s : State) (hq : iq.off foot_trialStart = true) : itm iq (State.trialStart s) = itm iq s := by
  delta foot_trialStart at hq
  simp only [off_spots, off_cons_cons, off_nil, List.all_cons, List.all_nil, Bool.and_true, Bool.and_eq_true] at hq
  simp [hq, State.trialStart]

def foot_reloadPage : List Spot := spots [foot_modMem, foot_modRime, foot_showRime] []

@[simp] theorem it_reloadPage {iq : Item} (s : State) (c : Nat) (hq : iq.off foot_reloadPage = true) : itm iq (State.reloadPage s c) = itm iq s := by
  delta foot_reloadPage at hq
  simp only [off_spots, off_cons_cons, off_nil, List.all_cons, List.all_nil, Bool.and_true, Bool.and_eq_true] at hq
  simp only [State.reloadPage]
  (repeat' split) <;> simp [hq]

def foot_execCoreReady : List Spot := spots [foot_fin, foot_startCore, foot_followOwners, foot_trialStart, foot_reloadPage] [.f .MCORE_CMD_BUSY]

theorem it_execCoreReady {iq : Item} (c : CoreIx) (s : State) (hq : iq.off foot_execCoreReady = true) : itOut iq (execCoreReady c s) s := by
  delta foot_execCoreReady at hq
  simp only [off_spots, off_cons_cons, off_nil, List.all_cons, List.all_nil, Bool.and_true, Bool.and_eq_true] at hq
  simp [hq, execCoreReady]

def foot_execCoreHbTimeout : List Spot := spots [foot_fin, foot_restartCore] [.f .MCORE_EVENT_HB_TIMEOUT]

theorem it_execCoreHbTimeout {iq : Item} (c : CoreIx) (s : State) (hq : iq.off foot_execCoreHbTimeout = true) : itOut iq (execCoreHbTimeout c s) s := by
  delta foot_execCoreHbTimeout at hq
  simp only [off_spots, off_cons_cons, off_nil, List.all_cons, List.all_nil, Bool.and_true, Bool.and_eq_true] at hq
  simp [hq, execCoreHbTimeout]

def foot_execCoreTrap : List Spot := spots [foot_fin, foot_modMem, foot_recordHit, foot_traceEvent, foot_restartCore] [.f .MCORE_TRAP_CAUSE, .f .MCORE_TRAP_FATAL,
  .f .MCORE_TRAP_COUNT, .f .MCORE_TRAP_PC_VALUE, .f .MCORE_TRAP_ADDR_VALUE, .f .MCORE_TRACE_PTR_FROZEN, .f .MCORE_EVENT_FATAL_TRAP]

theorem it_execCoreTrap {iq : Item} (c : CoreIx) (cause : Fin 256) (pc addr : Word) (fatal : Bool) (ecc : Option EccHit) (s : State) (hq : iq.off foot_execCoreTrap = true) : itOut iq (execCoreTrap c cause pc addr fatal ecc s) s := by
  delta foot_execCoreTrap at hq
  simp only [off_spots, off_cons_cons, off_nil, List.all_cons, List.all_nil, Bool.and_true, Bool.and_eq_true] at hq
  simp only [execCoreTrap]
  (repeat' split) <;> simp [hq]

def foot_execCorePlannedRestart : List Spot := spots [foot_fin, foot_regCmd, foot_restartCore] [.f .MCORE_CMD_RESULT, .f .MCORE_CMD_CORE, .f .MCORE_CMD_BUSY]

theorem it_execCorePlannedRestart {iq : Item} (c : CoreIx) (s : State) (hq : iq.off foot_execCorePlannedRestart = true) : itOut iq (execCorePlannedRestart c s) s := by
  delta foot_execCorePlannedRestart at hq
  simp only [off_spots, off_cons_cons, off_nil, List.all_cons, List.all_nil, Bool.and_true, Bool.and_eq_true] at hq
  unfold execCorePlannedRestart
  refine it_regCmd _ _ (by simp [hq]) fun t => ?_
  simp [hq]

def foot_execCoreRelease : List Spot := spots [foot_fin, foot_regCmd, foot_restartCore] [.f .MCORE_CMD_RESULT, .f .MCORE_CMD_CORE, .f .MCORE_CMD_BUSY]

theorem it_execCoreRelease {iq : Item} (c : CoreIx) (s : State) (hq : iq.off foot_execCoreRelease = true) : itOut iq (execCoreRelease c s) s := by
  delta foot_execCoreRelease at hq
  simp only [off_spots, off_cons_cons, off_nil, List.all_cons, List.all_nil, Bool.and_true, Bool.and_eq_true] at hq
  unfold execCoreRelease
  refine it_regCmd _ _ (by simp [hq]) fun t => ?_
  simp [hq]

end Sys2Proof.Laws
end

