-- ==== Sys2Proof/Laws/FootConsole.lean ====
section
/-! SUPPORT. What the operations of Machine/Console.lean may write, and that they leave everything else as it was. -/

namespace Sys2Proof.Laws

open Sys2Proof.Machine

def foot_uartSend : List Spot := spots [foot_emit] []

@[simp] theorem it_uartSend {iq : Item} (s : State) (l : List Nat) (hq : iq.off foot_uartSend = true) : itm iq (State.uartSend s l) = itm iq s := by
  delta foot_uartSend at hq
  simp only [off_spots, off_cons_cons, off_nil, List.all_cons, List.all_nil, Bool.and_true, Bool.and_eq_true] at hq
  simp [hq, State.uartSend]

def foot_bootProgress : List Spot := spots [foot_uartSend] []

@[simp] theorem it_bootProgress {iq : Item} (s : State) (stage code : Nat) (hq : iq.off foot_bootProgress = true) : itm iq (State.bootProgress s stage code) = itm iq s := by
  delta foot_bootProgress at hq
  simp only [off_spots, off_cons_cons, off_nil, List.all_cons, List.all_nil, Bool.and_true, Bool.and_eq_true] at hq
  simp [hq, State.bootProgress]

def foot_uartReceive : List Spot := [.p .dbg]

@[simp] theorem it_uartReceive {iq : Item} (s : State) (l : List Nat) (hq : iq.off foot_uartReceive = true) : itm iq (State.uartReceive s l) = itm iq s := by
  delta foot_uartReceive at hq
  simp [hq, State.uartReceive]

def foot_jtagCapture : List Spot := [.p .free]

@[simp] theorem it_jtagCapture {iq : Item} (s : State) (i : JtagInstr) (hq : iq.off foot_jtagCapture = true) : itm iq (s.jtagCapture i).2 = itm iq s := by
  delta foot_jtagCapture at hq
  unfold State.jtagCapture
  split <;> simp [hq]

def foot_jtagScan : List Spot := spots [foot_emit, foot_jtagCapture] [.p .dbg]

@[simp] theorem it_jtagScan {iq : Item} (s : State) (x : JtagScan) (hq : iq.off foot_jtagScan = true) : itm iq (State.jtagScan s x) = itm iq s := by
  delta foot_jtagScan at hq
  simp only [off_spots, off_cons_cons, off_nil, List.all_cons, List.all_nil, Bool.and_true, Bool.and_eq_true] at hq
  simp [hq, State.jtagScan]

def foot_pinTick : List Spot := spots [foot_uartSend, foot_uartReceive, foot_jtagScan] [.p .free, .p .dbg]

@[simp] theorem it_pinTick {iq : Item} (s : State) (hq : iq.off foot_pinTick = true) : itm iq (State.pinTick s) = itm iq s := by
  delta foot_pinTick at hq
  simp only [off_spots, off_cons_cons, off_nil, List.all_cons, List.all_nil, Bool.and_true, Bool.and_eq_true] at hq
  simp [hq, State.pinTick]

end Sys2Proof.Laws
end

