-- ==== Sys2Proof/Laws/FootSideband.lean ====
section
/-! SUPPORT. What the operations of Machine/Sideband.lean may write, and that they leave everything else as it was. -/

namespace Sys2Proof.Laws

open Sys2Proof.Machine

def foot_mctpAnswer : List Spot := spots [foot_emit, foot_modPwr, foot_telemetry] []

@[simp] theorem it_mctpAnswer {iq : Item} (s : State) (r : MctpReq) (hq : iq.off foot_mctpAnswer = true) : itm iq (State.mctpAnswer s r) = itm iq s := by
  delta foot_mctpAnswer at hq
  simp only [off_spots, off_cons_cons, off_nil, List.all_cons, List.all_nil, Bool.and_true, Bool.and_eq_true] at hq
  simp only [State.mctpAnswer]
  (repeat' split) <;> simp [hq]

def foot_mctpHold : List Spot := spots [foot_modPwr] []

@[simp] theorem it_mctpHold {iq : Item} (s : State) (r : MctpReq) (hq : iq.off foot_mctpHold = true) : itm iq (State.mctpHold s r) = itm iq s := by
  delta foot_mctpHold at hq
  simp only [off_spots, off_cons_cons, off_nil, List.all_cons, List.all_nil, Bool.and_true, Bool.and_eq_true] at hq
  simp [hq, State.mctpHold]

def foot_mctpRelease : List Spot := spots [foot_modPwr, foot_mctpAnswer] []

@[simp] theorem it_mctpRelease {iq : Item} (s : State) (hq : iq.off foot_mctpRelease = true) : itm iq (State.mctpRelease s) = itm iq s := by
  delta foot_mctpRelease at hq
  simp only [off_spots, off_cons_cons, off_nil, List.all_cons, List.all_nil, Bool.and_true, Bool.and_eq_true] at hq
  simp [hq, State.mctpRelease]

end Sys2Proof.Laws
end

