-- ==== Sys2Proof/Laws/FootReset.lean ====
section
/-! SUPPORT. What the operations of Machine/Reset.lean may write, and that they leave everything else as it was. -/

namespace Sys2Proof.Laws

open Sys2Proof.Machine

def foot_permitsOff : List Spot := spots [foot_modIlk, foot_permitsLow] [.f .SAFE_ZONE_ARMED]

@[simp] theorem it_permitsOff {iq : Item} (s : State) (hq : iq.off foot_permitsOff = true) : itm iq (State.permitsOff s) = itm iq s := by
  delta foot_permitsOff at hq
  simp only [off_spots, off_cons_cons, off_nil, List.all_cons, List.all_nil, Bool.and_true, Bool.and_eq_true] at hq
  simp [hq, State.permitsOff]

def foot_clearCore : List Spot := [.any]

@[simp] theorem it_clearCore {iq : Item} (s : State) (hq : iq.off foot_clearCore = true) : itm iq (State.clearCore s) = itm iq s := by
  exact (off_any hq).elim

def foot_prelude : List Spot := spots [foot_emit] []

@[simp] theorem it_prelude {iq : Item} (s : State) (hq : iq.off foot_prelude = true) : itm iq (State.prelude s) = itm iq s := by
  delta foot_prelude at hq
  simp only [off_spots, off_cons_cons, off_nil, List.all_cons, List.all_nil, Bool.and_true, Bool.and_eq_true] at hq
  simp [hq, State.prelude]

def foot_assertReset : List Spot := spots [foot_permitsOff, foot_clearCore] [.f .DRN_PSTAT_STATE, .f .RST_STAT_STAGE]

@[simp] theorem it_assertReset {iq : Item} (s : State) (hq : iq.off foot_assertReset = true) : itm iq (State.assertReset s) = itm iq s := by
  delta foot_assertReset at hq
  simp only [off_spots, off_cons_cons, off_nil, List.all_cons, List.all_nil, Bool.and_true, Bool.and_eq_true] at hq
  simp [hq, State.assertReset]

def foot_releaseReset : List Spot := spots [foot_modPwr] [.r .GLB_CAUSE, .f .RST_STAT_STAGE]

@[simp] theorem it_releaseReset {iq : Item} (s : State) (hq : iq.off foot_releaseReset = true) : itm iq (State.releaseReset s) = itm iq s := by
  delta foot_releaseReset at hq
  simp only [off_spots, off_cons_cons, off_nil, List.all_cons, List.all_nil, Bool.and_true, Bool.and_eq_true] at hq
  simp [hq, State.releaseReset]

def foot_await : List Spot := spots [foot_modPwr] []

@[simp] theorem it_await {iq : Item} (s : State) (q : DroneSeq) (hq : iq.off foot_await = true) : itm iq (State.await s q) = itm iq s := by
  delta foot_await at hq
  simp only [off_spots, off_cons_cons, off_nil, List.all_cons, List.all_nil, Bool.and_true, Bool.and_eq_true] at hq
  simp [hq, State.await]

def foot_endAwait : List Spot := spots [foot_modPwr] []

@[simp] theorem it_endAwait {iq : Item} (s : State) (hq : iq.off foot_endAwait = true) : itm iq (State.endAwait s) = itm iq s := by
  delta foot_endAwait at hq
  simp only [off_spots, off_cons_cons, off_nil, List.all_cons, List.all_nil, Bool.and_true, Bool.and_eq_true] at hq
  simp [hq, State.endAwait]

def foot_warmHeld : List Spot := spots [foot_prelude, foot_assertReset, foot_await] []

@[simp] theorem it_warmHeld {iq : Item} (s : State) (cause : Fld) (q : DroneSeq) (hq : iq.off foot_warmHeld = true) (h_cause : iq.off [.f cause] = true) : itm iq (State.warmHeld s cause q) = itm iq s := by
  delta foot_warmHeld at hq
  simp only [off_spots, off_cons_cons, off_nil, List.all_cons, List.all_nil, Bool.and_true, Bool.and_eq_true] at hq
  simp [hq, h_cause, State.warmHeld]

def foot_warmReset : List Spot := spots [foot_warmHeld] []

@[simp] theorem it_warmReset {iq : Item} (s : State) (cause : Fld) (hq : iq.off foot_warmReset = true) (h_cause : iq.off [.f cause] = true) : itm iq (State.warmReset s cause) = itm iq s := by
  delta foot_warmReset at hq
  simp only [off_spots, off_cons_cons, off_nil, List.all_cons, List.all_nil, Bool.and_true, Bool.and_eq_true] at hq
  simp [hq, h_cause, State.warmReset]

def foot_beginPower : List Spot := spots [foot_modPwr, foot_await, foot_endAwait] [.f .RST_STAT_STAGE, .f .DRN_PWR_STAT_EN]

@[simp] theorem it_beginPower {iq : Item} (s : State) (hq : iq.off foot_beginPower = true) : itm iq (State.beginPower s) = itm iq s := by
  delta foot_beginPower at hq
  simp only [off_spots, off_cons_cons, off_nil, List.all_cons, List.all_nil, Bool.and_true, Bool.and_eq_true] at hq
  simp [hq, State.beginPower]

def foot_powerUp : List Spot := spots [foot_beginPower] [.f .RST_STAT_STAGE]

@[simp] theorem it_powerUp {iq : Item} (s : State) (hq : iq.off foot_powerUp = true) : itm iq (State.powerUp s) = itm iq s := by
  delta foot_powerUp at hq
  simp only [off_spots, off_cons_cons, off_nil, List.all_cons, List.all_nil, Bool.and_true, Bool.and_eq_true] at hq
  simp [hq, State.powerUp]

def foot_suppliesOff : List Spot := [.f .DRN_PWR_STAT_EN, .f .DRN_PWR_STAT_PG]

@[simp] theorem it_suppliesOff {iq : Item} (s : State) (hq : iq.off foot_suppliesOff = true) : itm iq (State.suppliesOff s) = itm iq s := by
  delta foot_suppliesOff at hq
  simp only [off_spots, off_cons_cons, off_nil, List.all_cons, List.all_nil, Bool.and_true, Bool.and_eq_true] at hq
  simp [hq, State.suppliesOff]

def foot_dropGroup : List Spot := [.f .DRN_PWR_STAT_EN, .f .DRN_PWR_STAT_PG]

@[simp] theorem it_dropGroup {iq : Item} (s : State) (g : Nat) (hq : iq.off foot_dropGroup = true) : itm iq (State.dropGroup s g) = itm iq s := by
  delta foot_dropGroup at hq
  simp only [off_spots, off_cons_cons, off_nil, List.all_cons, List.all_nil, Bool.and_true, Bool.and_eq_true] at hq
  simp [hq, State.dropGroup]

def foot_beginOff : List Spot := spots [foot_await, foot_dropGroup] []

@[simp] theorem it_beginOff {iq : Item} (s : State) (g : OffGoal) (hq : iq.off foot_beginOff = true) : itm iq (State.beginOff s g) = itm iq s := by
  delta foot_beginOff at hq
  simp only [off_spots, off_cons_cons, off_nil, List.all_cons, List.all_nil, Bool.and_true, Bool.and_eq_true] at hq
  simp only [State.beginOff]
  (repeat' split) <;> simp [hq]

def foot_coldSupplies : List Spot := spots [foot_beginPower, foot_beginOff] []

@[simp] theorem it_coldSupplies {iq : Item} (s : State) (hq : iq.off foot_coldSupplies = true) : itm iq (State.coldSupplies s) = itm iq s := by
  delta foot_coldSupplies at hq
  simp only [off_spots, off_cons_cons, off_nil, List.all_cons, List.all_nil, Bool.and_true, Bool.and_eq_true] at hq
  simp [hq, State.coldSupplies]

def foot_coldReset : List Spot := spots [foot_assertReset, foot_coldSupplies] []

@[simp] theorem it_coldReset {iq : Item} (s : State) (hq : iq.off foot_coldReset = true) : itm iq (State.coldReset s) = itm iq s := by
  delta foot_coldReset at hq
  simp only [off_spots, off_cons_cons, off_nil, List.all_cons, List.all_nil, Bool.and_true, Bool.and_eq_true] at hq
  simp [hq, State.coldReset]

def foot_pinsToReset : List Spot := [.any]

@[simp] theorem it_pinsToReset {iq : Item} (s : State) (hq : iq.off foot_pinsToReset = true) : itm iq (State.pinsToReset s) = itm iq s := by
  exact (off_any hq).elim

def foot_execPowerOnReset : List Spot := [.any]

theorem it_execPowerOnReset {iq : Item} (s : State) (hq : iq.off foot_execPowerOnReset = true) : itOut iq (execPowerOnReset s) s := by
  exact (off_any hq).elim

def foot_pinReset : List Spot := spots [foot_modPwr, foot_assertReset, foot_endAwait, foot_beginOff, foot_pinsToReset] [.f .RST_STAT_STAGE]

@[simp] theorem it_pinReset {iq : Item} (s : State) (cause : Fld) (hq : iq.off foot_pinReset = true) (h_cause : iq.off [.f cause] = true) : itm iq (State.pinReset s cause) = itm iq s := by
  delta foot_pinReset at hq
  simp only [off_spots, off_cons_cons, off_nil, List.all_cons, List.all_nil, Bool.and_true, Bool.and_eq_true] at hq
  simp [hq, h_cause, State.pinReset]

def foot_execPinReset : List Spot := spots [foot_fin, foot_pinReset] [.f .RST_CAUSE_PIN]

theorem it_execPinReset {iq : Item} (s : State) (hq : iq.off foot_execPinReset = true) : itOut iq (execPinReset s) s := by
  delta foot_execPinReset at hq
  simp only [off_spots, off_cons_cons, off_nil, List.all_cons, List.all_nil, Bool.and_true, Bool.and_eq_true] at hq
  simp [hq, execPinReset]

def foot_execBrownOutReset : List Spot := spots [foot_fin, foot_coldReset] [.f .DRN_PWR_STAT_PG, .f .RST_CAUSE_BOR, .f .RST_CAUSE_THERMAL]

theorem it_execBrownOutReset {iq : Item} (g : Fin 6) (s : State) (hq : iq.off foot_execBrownOutReset = true) : itOut iq (execBrownOutReset g s) s := by
  delta foot_execBrownOutReset at hq
  simp only [off_spots, off_cons_cons, off_nil, List.all_cons, List.all_nil, Bool.and_true, Bool.and_eq_true] at hq
  simp [hq, execBrownOutReset]

def foot_execSoftWarmReset : List Spot := spots [foot_fin, foot_regCmd, foot_warmReset] [.f .RST_CAUSE_SOFT]

theorem it_execSoftWarmReset {iq : Item} (key : Fin 65536) (s : State) (hq : iq.off foot_execSoftWarmReset = true) : itOut iq (execSoftWarmReset key s) s := by
  delta foot_execSoftWarmReset at hq
  simp only [off_spots, off_cons_cons, off_nil, List.all_cons, List.all_nil, Bool.and_true, Bool.and_eq_true] at hq
  unfold execSoftWarmReset
  refine it_regCmd _ _ (by simp [hq]) fun t => ?_
  simp [hq]

def foot_execSoftPinReset : List Spot := spots [foot_fin, foot_regCmd, foot_pinReset] [.f .RST_CAUSE_SOFT]

theorem it_execSoftPinReset {iq : Item} (key : Fin 65536) (s : State) (hq : iq.off foot_execSoftPinReset = true) : itOut iq (execSoftPinReset key s) s := by
  delta foot_execSoftPinReset at hq
  simp only [off_spots, off_cons_cons, off_nil, List.all_cons, List.all_nil, Bool.and_true, Bool.and_eq_true] at hq
  unfold execSoftPinReset
  refine it_regCmd _ _ (by simp [hq]) fun t => ?_
  simp [hq]

def foot_execDebugReset : List Spot := spots [foot_fin, foot_warmReset] [.f .RST_CAUSE_DEBUG]

theorem it_execDebugReset {iq : Item} (s : State) (hq : iq.off foot_execDebugReset = true) : itOut iq (execDebugReset s) s := by
  delta foot_execDebugReset at hq
  simp only [off_spots, off_cons_cons, off_nil, List.all_cons, List.all_nil, Bool.and_true, Bool.and_eq_true] at hq
  simp [hq, execDebugReset]

def foot_execLockupReset : List Spot := spots [foot_fin, foot_warmReset] [.f .RST_CAUSE_LOCKUP]

theorem it_execLockupReset {iq : Item} (hang : Bool) (s : State) (hq : iq.off foot_execLockupReset = true) : itOut iq (execLockupReset hang s) s := by
  delta foot_execLockupReset at hq
  simp only [off_spots, off_cons_cons, off_nil, List.all_cons, List.all_nil, Bool.and_true, Bool.and_eq_true] at hq
  simp [hq, execLockupReset]

def foot_loadOptions : List Spot := [.r .GLB_OPT, .f .GLB_OPT_STAT_VALID, .f .GLB_OPT_STAT_DEFAULT, .f .GLB_OPT_STAT_BLANK, .f .DRN_PWR_CFG_SEQ_MODE,
  .f .DRN_PWR_STAT_EN, .f .DRN_GPIO_OE_GPIO, .f .DRN_GPIO_OUT_GPIO, .f .DRN_GPIO_PULL_LO_PULL, .f .DRN_GPIO_PULL_HI_PULL, .f .DRN_GPIO_IN_GPIO,
  .f .DRN_FAN_STAT_DUTY]

@[simp] theorem it_loadOptions {iq : Item} (s : State) (hq : iq.off foot_loadOptions = true) : itm iq (State.loadOptions s) = itm iq s := by
  delta foot_loadOptions at hq
  simp only [off_spots, off_cons_cons, off_nil, List.all_cons, List.all_nil, Bool.and_true, Bool.and_eq_true] at hq
  simp [hq, State.loadOptions]

def foot_execOptionProgram : List Spot := spots [foot_modPwr, foot_fin, foot_regCmd] [.f .RST_OPT_CMD_RESULT, .p .free]

theorem it_execOptionProgram {iq : Item} (ok : Bool) (s : State) (hq : iq.off foot_execOptionProgram = true) : itOut iq (execOptionProgram ok s) s := by
  delta foot_execOptionProgram at hq
  simp only [off_spots, off_cons_cons, off_nil, List.all_cons, List.all_nil, Bool.and_true, Bool.and_eq_true] at hq
  unfold execOptionProgram
  refine it_regCmd _ _ (by simp [hq]) fun t => ?_
  (try dsimp only)
  (repeat' split) <;> simp [hq]

def foot_execOptionRead : List Spot := spots [foot_fin, foot_regCmd] [.f .RST_OPT_CMD_SLOT, .r .RST_OPT_STAGE, .f .RST_OPT_CMD_RESULT]

theorem it_execOptionRead {iq : Item} (slot : Fin 16) (s : State) (hq : iq.off foot_execOptionRead = true) : itOut iq (execOptionRead slot s) s := by
  delta foot_execOptionRead at hq
  simp only [off_spots, off_cons_cons, off_nil, List.all_cons, List.all_nil, Bool.and_true, Bool.and_eq_true] at hq
  unfold execOptionRead
  refine it_regCmd _ _ (by simp [hq]) fun t => ?_
  simp [hq]

def foot_portIdleLink : List Spot := [.f .HQP_PORT_WIDTH, .f .HQP_PORT_RATE, .f .HQP_PORT_L1, .f .HQP_PORT_UP]

@[simp] theorem it_portIdleLink {iq : Item} (s : State) (p : Nat) (hq : iq.off foot_portIdleLink = true) : itm iq (State.portIdleLink s p) = itm iq s := by
  delta foot_portIdleLink at hq
  simp only [off_spots, off_cons_cons, off_nil, List.all_cons, List.all_nil, Bool.and_true, Bool.and_eq_true] at hq
  unfold State.portIdleLink
  simp only [State.forEach, List.foldl]
  simp [hq]

def foot_stopBoot : List Spot := spots [foot_modPwr, foot_bootProgress, foot_portIdleLink] [.f .RST_STAT_FAIL_STAGE, .f .RST_STAT_FAIL_CODE]

@[simp] theorem it_stopBoot {iq : Item} (s : State) (code : Nat) (hq : iq.off foot_stopBoot = true) : itm iq (State.stopBoot s code) = itm iq s := by
  delta foot_stopBoot at hq
  simp only [off_spots, off_cons_cons, off_nil, List.all_cons, List.all_nil, Bool.and_true, Bool.and_eq_true] at hq
  simp [hq, State.stopBoot]

def foot_bootRom : List Spot := spots [foot_modFw, foot_writeBootRec] [.f .RST_FW_STAT_TRIAL, .f .RST_FW_STAT_BOOTED, .f .RST_FW_STAT_FALLBACK,
  .p .free]

@[simp] theorem it_bootRom {iq : Item} (s : State) (hq : iq.off foot_bootRom = true) : itm iq (State.bootRom s) = itm iq s := by
  delta foot_bootRom at hq
  simp only [off_spots, off_cons_cons, off_nil, List.all_cons, List.all_nil, Bool.and_true, Bool.and_eq_true] at hq
  unfold State.bootRom
  extract_lets r p t boot u
  have kp : itm iq t = itm iq s := by
    simp only [t, p]
    (repeat' split) <;> simp [hq]
  have kb : ∀ v k, itm iq (boot v k) = itm iq v := fun v k => by simp [boot, hq]
  clear_value boot
  split
  · rw [kb]; simp [hq, kp]
  · split
    · rw [kb]; simp [hq, kp]
    · simp [u, hq, kp]

def foot_bootDram : List Spot := spots [foot_applyDelays, foot_stopBoot] [.f .MEM_DDR_STAT_PRESENT, .f .MEM_DDR_STAT_RATE, .f .MEM_DDR_STAT_DIMM_GIB,
  .f .DRN_CLK_STAT_DDR_LOCK, .r .MEM_DDR_DLY, .f .RST_STAT_STAGE]

@[simp] theorem it_bootDram {iq : Item} (s : State) (x : BootInfo) (hq : iq.off foot_bootDram = true) : itm iq (State.bootDram s x) = itm iq s := by
  delta foot_bootDram at hq
  simp only [off_spots, off_cons_cons, off_nil, List.all_cons, List.all_nil, Bool.and_true, Bool.and_eq_true] at hq
  unfold State.bootDram
  extract_lets pop s1 s2 s3
  have k1 : itm iq s1 = itm iq s := by
    simp only [s1]
    rw [it_set0 _ _ _ (by simp [hq]), it_set0 _ _ _ (by simp [hq]), it_set0 _ _ _ (by simp [hq]), it_set0 _ _ _ (by simp [hq])]
  have k2 : itm iq s2 = itm iq s := by
    simp only [s2]
    rw [it_forEach, k1]
    intro t e
    exact it_forEach _ _ _ fun u l => it_wr _ _ _ _ _ (by simp [hq])
  have k3 : itm iq s3 = itm iq s := by
    simp only [s3]
    rw [it_forEach, k2]; intro t e; simp [hq]
  clear_value s3
  split
  · simp [hq]
  · split
    · simp [hq]
    · rw [it_set0 _ _ _ (by simp [hq]), k3]

def foot_selfTestFailed : List Spot := spots [foot_logEntry] [.f .DBG_BIST_STAT_FAIL_NEW, .f .DBG_BIST_STAT_KIND, .f .DBG_BIST_STAT_CLASS, .f .DBG_BIST_STAT_INDEX,
  .f .DBG_BIST_FAILS_MEMORY, .f .DBG_BIST_FAILS_LOGIC]

@[simp] theorem it_selfTestFailed {iq : Item} (s : State) (cls index kind : Nat) (hq : iq.off foot_selfTestFailed = true) : itm iq (State.selfTestFailed s cls index kind) = itm iq s := by
  delta foot_selfTestFailed at hq
  simp only [off_spots, off_cons_cons, off_nil, List.all_cons, List.all_nil, Bool.and_true, Bool.and_eq_true] at hq
  simp only [State.selfTestFailed]
  (repeat' split) <;> simp [hq]

def foot_loadShipped : List Spot := spots [foot_loadMatrix] []

@[simp] theorem it_loadShipped {iq : Item} (s : State) (hq : iq.off foot_loadShipped = true) : itm iq (State.loadShipped s) = itm iq s := by
  delta foot_loadShipped at hq
  simp only [off_spots, off_cons_cons, off_nil, List.all_cons, List.all_nil, Bool.and_true, Bool.and_eq_true] at hq
  unfold State.loadShipped
  split
  · rfl
  · refine it_forEach _ _ _ fun t b => ?_
    split <;> simp [hq]

def foot_loadPrograms : List Spot := spots [foot_loadProgram] [.f .CIRQ_UCODE_VERSION, .f .FIRN_PROG_VERSION, .f .MOR_PROG_VERSION, .p .free]

@[simp] theorem it_loadPrograms {iq : Item} (s : State) (hq : iq.off foot_loadPrograms = true) : itm iq (State.loadPrograms s) = itm iq s := by
  delta foot_loadPrograms at hq
  simp only [off_spots, off_cons_cons, off_nil, List.all_cons, List.all_nil, Bool.and_true, Bool.and_eq_true] at hq
  simp [hq, State.loadPrograms]

def foot_bootEngines : List Spot := spots [foot_startCore, foot_stopBoot, foot_selfTestFailed, foot_loadShipped, foot_loadPrograms] [.f .CIRQ_STATUS_ROLE,
  .f .CIRQ_STATUS_LAST_TEST, .f .FIRN_STATUS_LSTATE, .f .FIRN_STATUS_LAST_TEST, .f .MOR_DEC_DSTATE, .f .RST_STAT_STAGE]

@[simp] theorem it_bootEngines {iq : Item} (s : State) (x : BootInfo) (hq : iq.off foot_bootEngines = true) : itm iq (State.bootEngines s x) = itm iq s := by
  delta foot_bootEngines at hq
  simp only [off_spots, off_cons_cons, off_nil, List.all_cons, List.all_nil, Bool.and_true, Bool.and_eq_true] at hq
  simp [hq, State.bootEngines]

def foot_oweResume : List Spot := spots [foot_modPwr, foot_modFn] [.f .DRN_EVENT_HIB_WAKE]

@[simp] theorem it_oweResume {iq : Item} (s : State) (hq : iq.off foot_oweResume = true) : itm iq (State.oweResume s) = itm iq s := by
  delta foot_oweResume at hq
  simp only [off_spots, off_cons_cons, off_nil, List.all_cons, List.all_nil, Bool.and_true, Bool.and_eq_true] at hq
  simp [hq, State.oweResume]

def foot_logCrash : List Spot := spots [foot_logEntry, foot_modPwr] []

@[simp] theorem it_logCrash {iq : Item} (s : State) (hq : iq.off foot_logCrash = true) : itm iq (State.logCrash s) = itm iq s := by
  delta foot_logCrash at hq
  simp only [off_spots, off_cons_cons, off_nil, List.all_cons, List.all_nil, Bool.and_true, Bool.and_eq_true] at hq
  simp [hq, State.logCrash]

def foot_optionSteward : List Spot := spots [foot_becomeSteward] []

@[simp] theorem it_optionSteward {iq : Item} (s : State) (hq : iq.off foot_optionSteward = true) : itm iq (State.optionSteward s) = itm iq s := by
  delta foot_optionSteward at hq
  simp only [off_spots, off_cons_cons, off_nil, List.all_cons, List.all_nil, Bool.and_true, Bool.and_eq_true] at hq
  simp [hq, State.optionSteward]

def foot_enablePort : List Spot := spots [foot_startTraining] [.f .PEN_CFG_EN]

@[simp] theorem it_enablePort {iq : Item} (s : State) (p : Nat) (hq : iq.off foot_enablePort = true) : itm iq (State.enablePort s p) = itm iq s := by
  delta foot_enablePort at hq
  simp only [off_spots, off_cons_cons, off_nil, List.all_cons, List.all_nil, Bool.and_true, Bool.and_eq_true] at hq
  simp [hq, State.enablePort]

def foot_becomeActive : List Spot := spots [foot_modPwr, foot_modDbg] [.f .RST_STAT_STAGE, .f .DRN_PSTAT_STATE]

@[simp] theorem it_becomeActive {iq : Item} (s : State) (hq : iq.off foot_becomeActive = true) : itm iq (State.becomeActive s) = itm iq s := by
  delta foot_becomeActive at hq
  simp only [off_spots, off_cons_cons, off_nil, List.all_cons, List.all_nil, Bool.and_true, Bool.and_eq_true] at hq
  simp [hq, State.becomeActive]

def foot_bootDone : List Spot := spots [foot_beat, foot_trialStart, foot_mctpRelease, foot_oweResume, foot_logCrash, foot_optionSteward, foot_enablePort,
  foot_becomeActive] [.f .RST_BOOT_MS_MS]

@[simp] theorem it_bootDone {iq : Item} (s : State) (hq : iq.off foot_bootDone = true) : itm iq (State.bootDone s) = itm iq s := by
  delta foot_bootDone at hq
  simp only [off_spots, off_cons_cons, off_nil, List.all_cons, List.all_nil, Bool.and_true, Bool.and_eq_true] at hq
  unfold State.bootDone
  extract_lets s1 s2
  have k1 : itm iq s1 = itm iq s := by
    simp only [s1]
    simp [hq]
  clear_value s1
  have k2 : itm iq s2 = itm iq s := by
    simp only [s2]
    simp [hq, k1]
  clear_value s2
  split <;> simp [hq, k2]

def foot_resumeDone : List Spot := spots [foot_applyDelays, foot_modPwr, foot_startTraining, foot_followPermits, foot_startCore, foot_mctpRelease,
  foot_oweResume, foot_becomeActive] [.f .DRN_CLK_STAT_DDR_LOCK, .f .MCORE_STAT_LAST_CAUSE, .f .MEM_DDR_STAT_IN_SR]

@[simp] theorem it_resumeDone {iq : Item} (s : State) (hq : iq.off foot_resumeDone = true) : itm iq (State.resumeDone s) = itm iq s := by
  delta foot_resumeDone at hq
  simp only [off_spots, off_cons_cons, off_nil, List.all_cons, List.all_nil, Bool.and_true, Bool.and_eq_true] at hq
  simp [hq, State.resumeDone]

def foot_bootStage : List Spot := spots [foot_modPwr, foot_beginPower, foot_loadOptions, foot_stopBoot, foot_bootRom, foot_bootDram, foot_bootEngines,
  foot_bootDone, foot_resumeDone] [.f .RST_STAT_STAGE, .f .DRN_CLK_STAT_REF_OK, .f .DRN_CLK_STAT_CORE_LOCK, .f .MEM_SRAM_STAT_TEST_DONE, .f .MEM_SRAM_STAT_TEST_FAIL,
  .f .MEM_SRAM_STAT_FAIL_LOC]

@[simp] theorem it_bootStage {iq : Item} (s : State) (x : BootInfo) (hq : iq.off foot_bootStage = true) : itm iq (State.bootStage s x) = itm iq s := by
  delta foot_bootStage at hq
  simp only [off_spots, off_cons_cons, off_nil, List.all_cons, List.all_nil, Bool.and_true, Bool.and_eq_true] at hq
  simp only [State.bootStage]
  (repeat' split) <;> simp [hq]

def foot_execBootStageDone : List Spot := spots [foot_fin, foot_bootProgress, foot_bootStage] []

theorem it_execBootStageDone {iq : Item} (x : BootInfo) (s : State) (hq : iq.off foot_execBootStageDone = true) : itOut iq (execBootStageDone x s) s := by
  delta foot_execBootStageDone at hq
  simp only [off_spots, off_cons_cons, off_nil, List.all_cons, List.all_nil, Bool.and_true, Bool.and_eq_true] at hq
  simp only [execBootStageDone]
  (repeat' split) <;> simp [hq]

def foot_clearRegs : List Spot := []

@[simp] theorem it_clearRegs {iq : Item} (s : State) (rs : List Reg) (i : Nat) (h : ∀ r ∈ rs, iq.off [.r r] = true) (hq : iq.off foot_clearRegs = true) : itm iq (s.clearRegs rs i) = itm iq s := by
  unfold State.clearRegs
  exact it_forEach_mem _ _ _ fun r hr t => it_wr _ _ _ _ _ (h r hr)

def foot_blockReset : List Spot := spots [foot_modPort, foot_dropRoles, foot_returnLink, foot_modCirq, foot_modChan, foot_clearDecoder, foot_testDecoder,
  foot_testCluster, foot_startTraining, foot_testLane, foot_stopFn, foot_restartCore, foot_clearRegs] [.r .PEN_STATUS, .r .PEN_EVENT, .r .PEN_LANE,
  .r .CIRQ_EVENT, .r .FIRN_STATUS, .r .FIRN_EVENT, .f .MEM_DMA_STAT_CAUSE, .f .MEM_DMA_STAT_CSTATE, .r .FLOE_EVENT, .r .MEM_RIME_STAT, .r .CIRQ_INJ_STAT,
  .r .CIRQ_CAP_STAT, .r .CIRQ_CAP_TRIG_LO, .r .CIRQ_CAP_TRIG_HI]

@[simp] theorem it_blockReset {iq : Item} (s : State) (cls i : Nat) (hq : iq.off foot_blockReset = true) : itm iq (State.blockReset s cls i) = itm iq s := by
  delta foot_blockReset at hq
  simp only [off_spots, off_cons_cons, off_nil, List.all_cons, List.all_nil, Bool.and_true, Bool.and_eq_true] at hq
  unfold State.blockReset
  split
  · dsimp only
    split <;> simp [hq]
  · rw [it_testCluster _ _ _ (by simp only [hq]), it_modCirq _ _ (by simp only [hq]), it_clearRegs _ _ _ _ (by simp only [hq])]
    split <;> simp [engineStat, hq]
  all_goals simp [hq]

def foot_execBlockReset : List Spot := spots [foot_fin, foot_regCmd, foot_blockReset] [.f .RST_BLK_CMD_RESULT, .f .RST_BLK_CMD_CLASS, .f .RST_BLK_CMD_INDEX]

theorem it_execBlockReset {iq : Item} (cls : Fin 16) (index : Fin 512) (s : State) (hq : iq.off foot_execBlockReset = true) : itOut iq (execBlockReset cls index s) s := by
  delta foot_execBlockReset at hq
  simp only [off_spots, off_cons_cons, off_nil, List.all_cons, List.all_nil, Bool.and_true, Bool.and_eq_true] at hq
  unfold execBlockReset
  refine it_regCmd _ _ (by simp [hq]) fun t => ?_
  simp [hq]

end Sys2Proof.Laws
end

