-- ==== Sys2Proof/Laws/FootPower.lean ====
section
/-! SUPPORT. What the operations of Machine/Power.lean may write, and that they leave everything else as it was. -/

namespace Sys2Proof.Laws

open Sys2Proof.Machine

def foot_execXtalLost : List Spot := spots [foot_logEntry, foot_fin] [.f .DRN_CLK_STAT_XTAL_OK, .f .DRN_CLK_STAT_ON_RC, .f .DRN_EVENT_XTAL_LOST]

theorem it_execXtalLost {iq : Item} (s : State) (hq : iq.off foot_execXtalLost = true) : itOut iq (execXtalLost s) s := by
  delta foot_execXtalLost at hq
  simp only [off_spots, off_cons_cons, off_nil, List.all_cons, List.all_nil, Bool.and_true, Bool.and_eq_true] at hq
  simp [hq, execXtalLost]

def foot_execXtalRelock : List Spot := spots [foot_fin] [.f .DRN_CLK_STAT_XTAL_OK, .f .DRN_CLK_STAT_ON_RC]

theorem it_execXtalRelock {iq : Item} (s : State) (hq : iq.off foot_execXtalRelock = true) : itOut iq (execXtalRelock s) s := by
  delta foot_execXtalRelock at hq
  simp only [off_spots, off_cons_cons, off_nil, List.all_cons, List.all_nil, Bool.and_true, Bool.and_eq_true] at hq
  simp [hq, execXtalRelock]

def foot_execRefclkLost : List Spot := spots [foot_logEntry, foot_modPwr, foot_fin, foot_assertReset, foot_await] [.f .DRN_CLK_STAT_REF_OK, .f .DRN_EVENT_REF_LOST,
  .f .RST_CAUSE_CLKFAIL]

theorem it_execRefclkLost {iq : Item} (s : State) (hq : iq.off foot_execRefclkLost = true) : itOut iq (execRefclkLost s) s := by
  delta foot_execRefclkLost at hq
  simp only [off_spots, off_cons_cons, off_nil, List.all_cons, List.all_nil, Bool.and_true, Bool.and_eq_true] at hq
  simp [hq, execRefclkLost]

def foot_execRefclkRestored : List Spot := spots [foot_modPwr, foot_fin, foot_beginPower] [.f .DRN_CLK_STAT_REF_OK]

theorem it_execRefclkRestored {iq : Item} (s : State) (hq : iq.off foot_execRefclkRestored = true) : itOut iq (execRefclkRestored s) s := by
  delta foot_execRefclkRestored at hq
  simp only [off_spots, off_cons_cons, off_nil, List.all_cons, List.all_nil, Bool.and_true, Bool.and_eq_true] at hq
  simp [hq, execRefclkRestored]

def foot_execTimeRatioMeasure : List Spot := spots [foot_modPwr, foot_fin] [.f .DRN_TIME_RATIO_RATIO]

theorem it_execTimeRatioMeasure {iq : Item} (ticks : Nat) (s : State) (hq : iq.off foot_execTimeRatioMeasure = true) : itOut iq (execTimeRatioMeasure ticks s) s := by
  delta foot_execTimeRatioMeasure at hq
  simp only [off_spots, off_cons_cons, off_nil, List.all_cons, List.all_nil, Bool.and_true, Bool.and_eq_true] at hq
  simp [hq, execTimeRatioMeasure]

def foot_beginEntry : List Spot := spots [foot_modPwr] [.f .DRN_PSTAT_STATE, .f .DRN_PCTRL_BUSY]

@[simp] theorem it_beginEntry {iq : Item} (s : State) (st : Nat) (hq : iq.off foot_beginEntry = true) : itm iq (State.beginEntry s st) = itm iq s := by
  delta foot_beginEntry at hq
  simp only [off_spots, off_cons_cons, off_nil, List.all_cons, List.all_nil, Bool.and_true, Bool.and_eq_true] at hq
  simp [hq, State.beginEntry]

def foot_noteIdle : List Spot := spots [foot_modPwr] []

@[simp] theorem it_noteIdle {iq : Item} (s : State) (hq : iq.off foot_noteIdle = true) : itm iq (State.noteIdle s) = itm iq s := by
  delta foot_noteIdle at hq
  simp only [off_spots, off_cons_cons, off_nil, List.all_cons, List.all_nil, Bool.and_true, Bool.and_eq_true] at hq
  simp [hq, State.noteIdle]

def foot_execDozeIdle : List Spot := spots [foot_fin, foot_beginEntry] []

theorem it_execDozeIdle {iq : Item} (s : State) (hq : iq.off foot_execDozeIdle = true) : itOut iq (execDozeIdle s) s := by
  delta foot_execDozeIdle at hq
  simp only [off_spots, off_cons_cons, off_nil, List.all_cons, List.all_nil, Bool.and_true, Bool.and_eq_true] at hq
  simp [hq, execDozeIdle]

def foot_execDozeRequest : List Spot := spots [foot_fin, foot_regCmd, foot_beginEntry] [.f .DRN_PCTRL_RESULT]

theorem it_execDozeRequest {iq : Item} (s : State) (hq : iq.off foot_execDozeRequest = true) : itOut iq (execDozeRequest s) s := by
  delta foot_execDozeRequest at hq
  simp only [off_spots, off_cons_cons, off_nil, List.all_cons, List.all_nil, Bool.and_true, Bool.and_eq_true] at hq
  unfold execDozeRequest
  refine it_regCmd _ _ (by simp [hq]) fun t => ?_
  simp [hq]

def foot_resumeBegin : List Spot := spots [foot_modPwr, foot_powerUp] [.f .DRN_PSTAT_STATE, .f .DRN_PSTAT_LAST_WAKE]

@[simp] theorem it_resumeBegin {iq : Item} (s : State) (src : Nat) (hq : iq.off foot_resumeBegin = true) : itm iq (State.resumeBegin s src) = itm iq s := by
  delta foot_resumeBegin at hq
  simp only [off_spots, off_cons_cons, off_nil, List.all_cons, List.all_nil, Bool.and_true, Bool.and_eq_true] at hq
  simp [hq, State.resumeBegin]

def foot_wake : List Spot := spots [foot_modPwr, foot_dozeWake, foot_resumeBegin] []

@[simp] theorem it_wake {iq : Item} (s : State) (src : Nat) (hq : iq.off foot_wake = true) : itm iq (State.wake s src) = itm iq s := by
  delta foot_wake at hq
  simp only [off_spots, off_cons_cons, off_nil, List.all_cons, List.all_nil, Bool.and_true, Bool.and_eq_true] at hq
  simp only [State.wake]
  (repeat' split) <;> simp [hq]

def foot_execWake : List Spot := spots [foot_fin, foot_wake] []

theorem it_execWake {iq : Item} (src : Fin 16) (s : State) (hq : iq.off foot_execWake = true) : itOut iq (execWake src s) s := by
  delta foot_execWake at hq
  simp only [off_spots, off_cons_cons, off_nil, List.all_cons, List.all_nil, Bool.and_true, Bool.and_eq_true] at hq
  simp [hq, execWake]

def foot_timerDue : List Spot := spots [foot_wake] [.f .DRN_WAKE_CTRL_EN, .f .DRN_WAKE_CTRL_FIRED]

@[simp] theorem it_timerDue {iq : Item} (s : State) (k : Nat) (hq : iq.off foot_timerDue = true) : itm iq (State.timerDue s k) = itm iq s := by
  delta foot_timerDue at hq
  simp only [off_spots, off_cons_cons, off_nil, List.all_cons, List.all_nil, Bool.and_true, Bool.and_eq_true] at hq
  simp [hq, State.timerDue]

def foot_execWakeTimer : List Spot := spots [foot_fin, foot_timerDue] []

theorem it_execWakeTimer {iq : Item} (k : Fin 4) (s : State) (hq : iq.off foot_execWakeTimer = true) : itOut iq (execWakeTimer k s) s := by
  delta foot_execWakeTimer at hq
  simp only [off_spots, off_cons_cons, off_nil, List.all_cons, List.all_nil, Bool.and_true, Bool.and_eq_true] at hq
  simp [hq, execWakeTimer]

def foot_execRetryWake : List Spot := spots [foot_fin, foot_startTraining, foot_wake] []

theorem it_execRetryWake {iq : Item} (s : State) (hq : iq.off foot_execRetryWake = true) : itOut iq (execRetryWake s) s := by
  delta foot_execRetryWake at hq
  simp only [off_spots, off_cons_cons, off_nil, List.all_cons, List.all_nil, Bool.and_true, Bool.and_eq_true] at hq
  simp [hq, execRetryWake]

def foot_execHibernateRequest : List Spot := spots [foot_fin, foot_regCmd, foot_beginEntry] [.f .DRN_PCTRL_RESULT, .r .DRN_RETAIN]

theorem it_execHibernateRequest {iq : Item} (retain : List Word) (s : State) (hq : iq.off foot_execHibernateRequest = true) : itOut iq (execHibernateRequest retain s) s := by
  delta foot_execHibernateRequest at hq
  simp only [off_spots, off_cons_cons, off_nil, List.all_cons, List.all_nil, Bool.and_true, Bool.and_eq_true] at hq
  unfold execHibernateRequest
  refine it_regCmd _ _ (by simp [hq]) fun t => ?_
  simp [hq]

def foot_hostsGone : List Spot := spots [foot_endStandby, foot_loseSteward, foot_portReset] []

@[simp] theorem it_hostsGone {iq : Item} (s : State) (hq : iq.off foot_hostsGone = true) : itm iq (State.hostsGone s) = itm iq s := by
  delta foot_hostsGone at hq
  simp only [off_spots, off_cons_cons, off_nil, List.all_cons, List.all_nil, Bool.and_true, Bool.and_eq_true] at hq
  simp [hq, State.hostsGone]

def foot_stripCore : List Spot := [.any]

@[simp] theorem it_stripCore {iq : Item} (s : State) (hq : iq.off foot_stripCore = true) : itm iq (State.stripCore s) = itm iq s := by
  exact (off_any hq).elim

def foot_hibLoses : List Spot := [.any]

@[simp] theorem it_hibLoses {iq : Item} (s : State) (hq : iq.off foot_hibLoses = true) : itm iq (State.hibLoses s) = itm iq s := by
  exact (off_any hq).elim

def foot_fansFull : List Spot := [.f .DRN_FAN_STAT_DUTY]

@[simp] theorem it_fansFull {iq : Item} (s : State) (force : Bool) (hq : iq.off foot_fansFull = true) : itm iq (State.fansFull s force) = itm iq s := by
  delta foot_fansFull at hq
  simp [hq, State.fansFull]

def foot_hibernate : List Spot := spots [foot_modPwr, foot_permitsLow, foot_assertReset, foot_beginOff, foot_hibLoses] [.f .MEM_DDR_STAT_IN_SR,
  .f .RST_STAT_STAGE, .f .DRN_PSTAT_STATE, .f .DRN_PCTRL_BUSY]

@[simp] theorem it_hibernate {iq : Item} (s : State) (hq : iq.off foot_hibernate = true) : itm iq (State.hibernate s) = itm iq s := by
  delta foot_hibernate at hq
  simp only [off_spots, off_cons_cons, off_nil, List.all_cons, List.all_nil, Bool.and_true, Bool.and_eq_true] at hq
  simp [hq, State.hibernate]

def foot_hibernated : List Spot := spots [foot_modPwr, foot_resumeBegin, foot_fansFull] [.f .DRN_PSTAT_STATE, .f .DRN_PCTRL_BUSY, .f .DRN_THERM_STAT_DRONE_ONLY]

@[simp] theorem it_hibernated {iq : Item} (s : State) (hq : iq.off foot_hibernated = true) : itm iq (State.hibernated s) = itm iq s := by
  delta foot_hibernated at hq
  simp only [off_spots, off_cons_cons, off_nil, List.all_cons, List.all_nil, Bool.and_true, Bool.and_eq_true] at hq
  simp [hq, State.hibernated]

def foot_powerDone : List Spot := spots [foot_modPwr, foot_releaseReset] [.f .DRN_CLK_STAT_CORE_LOCK, .f .RST_STAT_STAGE]

@[simp] theorem it_powerDone {iq : Item} (s : State) (hq : iq.off foot_powerDone = true) : itm iq (State.powerDone s) = itm iq s := by
  delta foot_powerDone at hq
  simp only [off_spots, off_cons_cons, off_nil, List.all_cons, List.all_nil, Bool.and_true, Bool.and_eq_true] at hq
  simp [hq, State.powerDone]

def foot_enableGroup : List Spot := spots [foot_modPwr] [.f .DRN_PWR_STAT_EN]

@[simp] theorem it_enableGroup {iq : Item} (s : State) (k : Nat) (hq : iq.off foot_enableGroup = true) : itm iq (State.enableGroup s k) = itm iq s := by
  delta foot_enableGroup at hq
  simp only [off_spots, off_cons_cons, off_nil, List.all_cons, List.all_nil, Bool.and_true, Bool.and_eq_true] at hq
  simp [hq, State.enableGroup]

def foot_execPowerGoodRise : List Spot := spots [foot_fin, foot_await, foot_powerDone] [.f .DRN_PWR_STAT_PG]

theorem it_execPowerGoodRise {iq : Item} (g : Fin 6) (s : State) (hq : iq.off foot_execPowerGoodRise = true) : itOut iq (execPowerGoodRise g s) s := by
  delta foot_execPowerGoodRise at hq
  simp only [off_spots, off_cons_cons, off_nil, List.all_cons, List.all_nil, Bool.and_true, Bool.and_eq_true] at hq
  simp only [execPowerGoodRise]
  (repeat' split) <;> simp [hq]

def foot_execPgoodTimeout : List Spot := spots [foot_modPwr, foot_fin, foot_permitsOff, foot_clearCore, foot_beginOff] []

theorem it_execPgoodTimeout {iq : Item} (s : State) (hq : iq.off foot_execPgoodTimeout = true) : itOut iq (execPgoodTimeout s) s := by
  delta foot_execPgoodTimeout at hq
  simp only [off_spots, off_cons_cons, off_nil, List.all_cons, List.all_nil, Bool.and_true, Bool.and_eq_true] at hq
  simp only [execPgoodTimeout]
  (repeat' split) <;> simp [hq]

def foot_powerFailed : List Spot := spots [foot_logEntry, foot_modPwr, foot_fansFull] [.f .DRN_EVENT_PWR_FAIL, .f .DRN_PWR_STAT_FAIL_GRP, .f .DRN_PWR_STAT_FAILS,
  .f .DRN_PSTAT_STATE]

@[simp] theorem it_powerFailed {iq : Item} (s : State) (g n : Nat) (hq : iq.off foot_powerFailed = true) : itm iq (State.powerFailed s g n) = itm iq s := by
  delta foot_powerFailed at hq
  simp only [off_spots, off_cons_cons, off_nil, List.all_cons, List.all_nil, Bool.and_true, Bool.and_eq_true] at hq
  simp [hq, State.powerFailed]

def foot_execPowerRetry : List Spot := spots [foot_modPwr, foot_fin, foot_powerUp] []

theorem it_execPowerRetry {iq : Item} (s : State) (hq : iq.off foot_execPowerRetry = true) : itOut iq (execPowerRetry s) s := by
  delta foot_execPowerRetry at hq
  simp only [off_spots, off_cons_cons, off_nil, List.all_cons, List.all_nil, Bool.and_true, Bool.and_eq_true] at hq
  simp [hq, execPowerRetry]

def foot_fanUpdate : List Spot := [.f .DRN_FAN_STAT_DUTY]

@[simp] theorem it_fanUpdate {iq : Item} (s : State) (hq : iq.off foot_fanUpdate = true) : itm iq (State.fanUpdate s) = itm iq s := by
  delta foot_fanUpdate at hq
  simp [hq, State.fanUpdate]

def foot_noteCool : List Spot := spots [foot_modPwr] []

@[simp] theorem it_noteCool {iq : Item} (s : State) (tmax : Int) (hq : iq.off foot_noteCool = true) : itm iq (State.noteCool s tmax) = itm iq s := by
  delta foot_noteCool at hq
  simp only [off_spots, off_cons_cons, off_nil, List.all_cons, List.all_nil, Bool.and_true, Bool.and_eq_true] at hq
  simp [hq, State.noteCool]

def foot_execTempSample : List Spot := spots [foot_modPwr, foot_fin, foot_fansFull, foot_noteCool] [.f .DRN_TS_TS_LO, .f .DRN_TS_TS_HI, .f .DRN_THERM_STAT_TMAX,
  .f .DRN_THERM_STAT_HOT, .f .DRN_THERM_STAT_DRONE_ONLY, .f .DRN_THERM_STAT_WARN, .f .DRN_EVENT_WARN]

theorem it_execTempSample {iq : Item} (temps : List Int) (s : State) (hq : iq.off foot_execTempSample = true) : itOut iq (execTempSample temps s) s := by
  delta foot_execTempSample at hq
  simp only [off_spots, off_cons_cons, off_nil, List.all_cons, List.all_nil, Bool.and_true, Bool.and_eq_true] at hq
  simp [hq, execTempSample]

def foot_execFanUpdate : List Spot := spots [foot_modPwr, foot_fin, foot_fanUpdate] []

theorem it_execFanUpdate {iq : Item} (s : State) (hq : iq.off foot_execFanUpdate = true) : itOut iq (execFanUpdate s) s := by
  delta foot_execFanUpdate at hq
  simp only [off_spots, off_cons_cons, off_nil, List.all_cons, List.all_nil, Bool.and_true, Bool.and_eq_true] at hq
  simp [hq, execFanUpdate]

def foot_execTachMeasure : List Spot := spots [foot_modPwr, foot_fin] [.f .DRN_FAN_STAT_RPM, .f .DRN_FAN_STAT_STUCK, .f .DRN_EVENT_FAN_STUCK]

theorem it_execTachMeasure {iq : Item} (k : Fin 8) (edges : Nat) (s : State) (hq : iq.off foot_execTachMeasure = true) : itOut iq (execTachMeasure k edges s) s := by
  delta foot_execTachMeasure at hq
  simp only [off_spots, off_cons_cons, off_nil, List.all_cons, List.all_nil, Bool.and_true, Bool.and_eq_true] at hq
  simp [hq, execTachMeasure]

def foot_thermalOff : List Spot := spots [foot_modPwr, foot_assertReset, foot_beginOff, foot_fansFull] [.f .DRN_PSTAT_STATE]

@[simp] theorem it_thermalOff {iq : Item} (s : State) (hq : iq.off foot_thermalOff = true) : itm iq (State.thermalOff s) = itm iq s := by
  delta foot_thermalOff at hq
  simp only [off_spots, off_cons_cons, off_nil, List.all_cons, List.all_nil, Bool.and_true, Bool.and_eq_true] at hq
  simp [hq, State.thermalOff]

def foot_thermalReached : List Spot := [.f .DRN_PSTAT_STATE, .f .DRN_THERM_STAT_DRONE_ONLY]

@[simp] theorem it_thermalReached {iq : Item} (s : State) (hq : iq.off foot_thermalReached = true) : itm iq (State.thermalReached s) = itm iq s := by
  delta foot_thermalReached at hq
  simp only [off_spots, off_cons_cons, off_nil, List.all_cons, List.all_nil, Bool.and_true, Bool.and_eq_true] at hq
  simp [hq, State.thermalReached]

def foot_abandonAll : List Spot := spots [foot_abandonIn] []

@[simp] theorem it_abandonAll {iq : Item} (s : State) (hq : iq.off foot_abandonAll = true) : itm iq (State.abandonAll s) = itm iq s := by
  delta foot_abandonAll at hq
  simp only [off_spots, off_cons_cons, off_nil, List.all_cons, List.all_nil, Bool.and_true, Bool.and_eq_true] at hq
  simp [hq, State.abandonAll]

def foot_thermalBegin : List Spot := spots [foot_logEntry, foot_stopRun, foot_abandonAll] [.f .DRN_PSTAT_STATE]

@[simp] theorem it_thermalBegin {iq : Item} (s : State) (hq : iq.off foot_thermalBegin = true) : itm iq (State.thermalBegin s) = itm iq s := by
  delta foot_thermalBegin at hq
  simp only [off_spots, off_cons_cons, off_nil, List.all_cons, List.all_nil, Bool.and_true, Bool.and_eq_true] at hq
  simp [hq, State.thermalBegin]

def foot_endLateRuns : List Spot := spots [foot_endWrite] []

@[simp] theorem it_endLateRuns {iq : Item} (s : State) (hq : iq.off foot_endLateRuns = true) : itm iq (State.endLateRuns s) = itm iq s := by
  delta foot_endLateRuns at hq
  simp only [off_spots, off_cons_cons, off_nil, List.all_cons, List.all_nil, Bool.and_true, Bool.and_eq_true] at hq
  simp [hq, State.endLateRuns]

def foot_thermalStop : List Spot := spots [foot_emit, foot_modPwr, foot_postEvent, foot_loseWrites, foot_stopCmd] []

@[simp] theorem it_thermalStop {iq : Item} (s : State) (hq : iq.off foot_thermalStop = true) : itm iq (State.thermalStop s) = itm iq s := by
  delta foot_thermalStop at hq
  simp only [off_spots, off_cons_cons, off_nil, List.all_cons, List.all_nil, Bool.and_true, Bool.and_eq_true] at hq
  simp [hq, State.thermalStop]

def foot_execThermalStop : List Spot := spots [foot_fin, foot_thermalOff, foot_thermalBegin] [.f .DRN_CLK_STAT_CORE_LOCK]

theorem it_execThermalStop {iq : Item} (s : State) (hq : iq.off foot_execThermalStop = true) : itOut iq (execThermalStop s) s := by
  delta foot_execThermalStop at hq
  simp only [off_spots, off_cons_cons, off_nil, List.all_cons, List.all_nil, Bool.and_true, Bool.and_eq_true] at hq
  simp only [execThermalStop]
  (repeat' split) <;> simp [hq]

def foot_thermalUp : List Spot := spots [foot_modPwr, foot_powerUp] [.f .DRN_PSTAT_LAST_WAKE, .f .DRN_PSTAT_STATE]

@[simp] theorem it_thermalUp {iq : Item} (s : State) (cause ev : Fld) (h : iq.off [.f cause] = true) (h' : iq.off [.f ev] = true) (hq : iq.off foot_thermalUp = true) : itm iq (s.thermalUp cause ev) = itm iq s := by
  delta foot_thermalUp at hq
  simp only [off_spots, off_cons_cons, off_nil, List.all_cons, List.all_nil, Bool.and_true, Bool.and_eq_true] at hq
  unfold State.thermalUp
  simp [hq, h, h']

def foot_execThermalRestart : List Spot := spots [foot_fin, foot_thermalUp] [.f .RST_CAUSE_THERMAL, .f .DRN_EVENT_SD, .f .DRN_THERM_CNT_SHUTDOWNS]

theorem it_execThermalRestart {iq : Item} (s : State) (hq : iq.off foot_execThermalRestart = true) : itOut iq (execThermalRestart s) s := by
  delta foot_execThermalRestart at hq
  simp only [off_spots, off_cons_cons, off_nil, List.all_cons, List.all_nil, Bool.and_true, Bool.and_eq_true] at hq
  simp [hq, execThermalRestart]

def foot_execTcritTrip : List Spot := spots [foot_logEntry, foot_modPwr, foot_fin, foot_assertReset, foot_endAwait, foot_suppliesOff, foot_fansFull] [.f .DRN_PSTAT_STATE,
  .f .DRN_THERM_STAT_DRONE_ONLY, .f .DRN_PWR_STAT_EN, .f .DRN_THERM_CNT_TRIPS]

theorem it_execTcritTrip {iq : Item} (sensor : Fin 16) (s : State) (hq : iq.off foot_execTcritTrip = true) : itOut iq (execTcritTrip sensor s) s := by
  delta foot_execTcritTrip at hq
  simp only [off_spots, off_cons_cons, off_nil, List.all_cons, List.all_nil, Bool.and_true, Bool.and_eq_true] at hq
  simp [hq, execTcritTrip]

def foot_execTripRestart : List Spot := spots [foot_fin, foot_thermalUp] [.f .RST_CAUSE_TRIP, .f .DRN_EVENT_TRIP]

theorem it_execTripRestart {iq : Item} (s : State) (hq : iq.off foot_execTripRestart = true) : itOut iq (execTripRestart s) s := by
  delta foot_execTripRestart at hq
  simp only [off_spots, off_cons_cons, off_nil, List.all_cons, List.all_nil, Bool.and_true, Bool.and_eq_true] at hq
  simp [hq, execTripRestart]

def foot_offDone : List Spot := spots [foot_await, foot_hibernate, foot_hibernated, foot_powerFailed, foot_thermalReached] []

@[simp] theorem it_offDone {iq : Item} (s : State) (g : OffGoal) (hq : iq.off foot_offDone = true) : itm iq (s.offDone g) = itm iq s := by
  delta foot_offDone at hq
  simp only [off_spots, off_cons_cons, off_nil, List.all_cons, List.all_nil, Bool.and_true, Bool.and_eq_true] at hq
  cases g <;> simp [hq, State.offDone]

def foot_windowDone : List Spot := [.f .DBG_WIN_STAT_NEW, .f .DBG_WIN_STAT_RESULT, .f .DBG_WIN_STAT_DUR_MS, .f .DBG_WIN_STAT_UNIT, .f .DBG_WIN_STAT_CHANNELS]

@[simp] theorem it_windowDone {iq : Item} (s : State) (fail : Bool) (unit channels durMs : Nat) (hq : iq.off foot_windowDone = true) : itm iq (State.windowDone s fail unit channels durMs) = itm iq s := by
  delta foot_windowDone at hq
  simp only [off_spots, off_cons_cons, off_nil, List.all_cons, List.all_nil, Bool.and_true, Bool.and_eq_true] at hq
  simp [hq, State.windowDone]

def foot_seqDone : List Spot := spots [foot_releaseReset, foot_await, foot_endAwait, foot_powerUp, foot_dropGroup, foot_powerDone, foot_enableGroup,
  foot_offDone, foot_windowDone] []

@[simp] theorem it_seqDone {iq : Item} (s : State) (q : DroneSeq) (hq : iq.off foot_seqDone = true) : itm iq (s.seqDone q) = itm iq s := by
  delta foot_seqDone at hq
  simp only [off_spots, off_cons_cons, off_nil, List.all_cons, List.all_nil, Bool.and_true, Bool.and_eq_true] at hq
  cases q <;> simp only [State.seqDone]
  all_goals (repeat' split) <;> simp [hq]

def foot_waken : List Spot := spots [foot_dramTouch, foot_modPwr, foot_modMem] [.f .DRN_PSTAT_STATE, .f .DRN_CLK_STAT_CORE_LOCK, .f .DRN_CLK_STAT_DDR_LOCK]

@[simp] theorem it_waken {iq : Item} (s : State) (hq : iq.off foot_waken = true) : itm iq (State.waken s) = itm iq s := by
  delta foot_waken at hq
  simp only [off_spots, off_cons_cons, off_nil, List.all_cons, List.all_nil, Bool.and_true, Bool.and_eq_true] at hq
  simp [hq, State.waken]

def foot_noteCores : List Spot := spots [foot_modPwr] []

@[simp] theorem it_noteCores {iq : Item} (s : State) (hq : iq.off foot_noteCores = true) : itm iq (State.noteCores s) = itm iq s := by
  delta foot_noteCores at hq
  simp only [off_spots, off_cons_cons, off_nil, List.all_cons, List.all_nil, Bool.and_true, Bool.and_eq_true] at hq
  simp [hq, State.noteCores]

def foot_idleTick : List Spot := spots [foot_tick, foot_modPwr, foot_memTick, foot_coreTick, foot_pinTick, foot_noteIdle, foot_hibernate, foot_thermalOff,
  foot_endLateRuns, foot_thermalStop, foot_seqDone, foot_waken, foot_noteCores] [.f .DRN_PSTAT_STATE, .f .DRN_PCTRL_BUSY, .f .MEM_DDR_STAT_IN_SR,
  .f .DRN_CLK_STAT_CORE_LOCK, .f .DRN_CLK_STAT_DDR_LOCK]

@[simp] theorem it_idleTick {iq : Item} (s : State) (hq : iq.off foot_idleTick = true) : itm iq (State.idleTick s) = itm iq s := by
  delta foot_idleTick at hq
  simp only [off_spots, off_cons_cons, off_nil, List.all_cons, List.all_nil, Bool.and_true, Bool.and_eq_true] at hq
  simp only [State.idleTick]
  (repeat' split) <;> simp [hq]

end Sys2Proof.Laws
end

