-- ==== Sys2Proof/Laws/FootFirmware.lean ====
section
/-! SUPPORT. What the operations of Machine/Firmware.lean may write, and that they leave everything else as it was. -/

namespace Sys2Proof.Laws

open Sys2Proof.Machine

def foot_execFwDownload : List Spot := spots [foot_dramTouch, foot_modFw, foot_complete, foot_runAdmin] []

theorem it_execFwDownload {iq : Item} (fn : FnIx) (tag : Nat) (dma : Dma) (s : State) (hq : iq.off foot_execFwDownload = true) : itOut iq (execFwDownload fn tag dma s) s := by
  delta foot_execFwDownload at hq
  simp only [off_spots, off_cons_cons, off_nil, List.all_cons, List.all_nil, Bool.and_true, Bool.and_eq_true] at hq
  unfold execFwDownload
  first | refine it_runCmd _ _ _ _ _ _ ?_ fun t c => ?_ | refine it_runAdmin _ _ _ _ _ ?_ fun t c => ?_ | refine it_runFloe _ _ _ _ _ ?_ fun t c => ?_
  · simp [hq]
  (try dsimp only)
  (repeat' split) <;> simp [hq]

def foot_commitImage : List Spot := spots [foot_modFw] []

@[simp] theorem it_commitImage {iq : Item} (s : State) (image : FwImage) (flash : Bool) (hq : iq.off foot_commitImage = true) : itm iq (State.commitImage s image flash) = itm iq s := by
  delta foot_commitImage at hq
  simp only [off_spots, off_cons_cons, off_nil, List.all_cons, List.all_nil, Bool.and_true, Bool.and_eq_true] at hq
  simp [hq, State.commitImage]

def foot_execFwCommit : List Spot := spots [foot_dramTouch, foot_complete, foot_runAdmin, foot_commitImage] []

theorem it_execFwCommit {iq : Item} (fn : FnIx) (tag : Nat) (image : FwImage) (flash : Bool) (s : State) (hq : iq.off foot_execFwCommit = true) : itOut iq (execFwCommit fn tag image flash s) s := by
  delta foot_execFwCommit at hq
  simp only [off_spots, off_cons_cons, off_nil, List.all_cons, List.all_nil, Bool.and_true, Bool.and_eq_true] at hq
  unfold execFwCommit
  refine it_runAdmin_of _ _ _ _ _ (by simp [hq]) fun t c h => ?_
  dsimp only
  (repeat' split) <;> simp [hq, h]

def foot_flushFn : List Spot := spots [foot_modHost, foot_writeCpl] []

@[simp] theorem it_flushFn {iq : Item} (s : State) (fn : Nat) (hq : iq.off foot_flushFn = true) : itm iq (State.flushFn s fn) = itm iq s := by
  delta foot_flushFn at hq
  simp only [off_spots, off_cons_cons, off_nil, List.all_cons, List.all_nil, Bool.and_true, Bool.and_eq_true] at hq
  simp [hq, State.flushFn]

def foot_activate : List Spot := spots [foot_modFw, foot_complete, foot_writeBootRec, foot_showUpd, foot_warmReset, foot_flushFn] [.f .DBG_UPD_STAT_BUSY,
  .f .DBG_UPD_STAT_RESULT, .f .RST_CAUSE_SOFT]

@[simp] theorem it_activate {iq : Item} (s : State) (c : Ctx) (slot : Nat) (image : FwImage) (hq : iq.off foot_activate = true) : itm iq (State.activate s c slot image) = itm iq s := by
  delta foot_activate at hq
  simp only [off_spots, off_cons_cons, off_nil, List.all_cons, List.all_nil, Bool.and_true, Bool.and_eq_true] at hq
  simp [hq, State.activate]

def foot_activatePackage : List Spot := spots [foot_modFw, foot_packageDone, foot_showUpd] [.r .DBG_BFW_STAT, .f .DBG_UPD_STAT_BUSY, .f .DBG_UPD_STAT_RESULT]

@[simp] theorem it_activatePackage {iq : Item} (s : State) (c : Ctx) (image : FwImage) (hq : iq.off foot_activatePackage = true) : itm iq (State.activatePackage s c image) = itm iq s := by
  delta foot_activatePackage at hq
  simp only [off_spots, off_cons_cons, off_nil, List.all_cons, List.all_nil, Bool.and_true, Bool.and_eq_true] at hq
  simp [hq, State.activatePackage]

def foot_execFwCommitActivate : List Spot := spots [foot_dramTouch, foot_complete, foot_runAdmin, foot_commitImage, foot_activate, foot_activatePackage] []

theorem it_execFwCommitActivate {iq : Item} (fn : FnIx) (tag : Nat) (image : FwImage) (flash : Bool) (s : State) (hq : iq.off foot_execFwCommitActivate = true) : itOut iq (execFwCommitActivate fn tag image flash s) s := by
  delta foot_execFwCommitActivate at hq
  simp only [off_spots, off_cons_cons, off_nil, List.all_cons, List.all_nil, Bool.and_true, Bool.and_eq_true] at hq
  unfold execFwCommitActivate
  refine it_runAdmin_of _ _ _ _ _ (by simp [hq]) fun t c h => ?_
  dsimp only
  (repeat' split) <;> simp [hq, h]

def foot_execFwActivate : List Spot := spots [foot_complete, foot_runAdmin, foot_activate] []

theorem it_execFwActivate {iq : Item} (fn : FnIx) (tag : Nat) (s : State) (hq : iq.off foot_execFwActivate = true) : itOut iq (execFwActivate fn tag s) s := by
  delta foot_execFwActivate at hq
  simp only [off_spots, off_cons_cons, off_nil, List.all_cons, List.all_nil, Bool.and_true, Bool.and_eq_true] at hq
  unfold execFwActivate
  refine it_runAdmin_of _ _ _ _ _ (by simp [hq]) fun t c h => ?_
  dsimp only
  (repeat' split) <;> simp [hq, h]

def foot_modAct : List Spot := spots [foot_modFw] []

@[simp] theorem it_modAct {iq : Item} (s : State) (f : ActX → ActX) (hq : iq.off foot_modAct = true) : itm iq (State.modAct s f) = itm iq s := by
  delta foot_modAct at hq
  simp only [off_spots, off_cons_cons, off_nil, List.all_cons, List.all_nil, Bool.and_true, Bool.and_eq_true] at hq
  simp [hq, State.modAct]

def foot_unitDone : List Spot := spots [foot_modAct] []

@[simp] theorem it_unitDone {iq : Item} (s : State) (u : Nat) (hq : iq.off foot_unitDone = true) : itm iq (State.unitDone s u) = itm iq s := by
  delta foot_unitDone at hq
  simp only [off_spots, off_cons_cons, off_nil, List.all_cons, List.all_nil, Bool.and_true, Bool.and_eq_true] at hq
  simp [hq, State.unitDone]

def foot_nextPhase : List Spot := spots [foot_logEntry, foot_showUpd, foot_modAct] []

@[simp] theorem it_nextPhase {iq : Item} (s : State) (a : ActX) (k : Nat) (hq : iq.off foot_nextPhase = true) : itm iq (State.nextPhase s a k) = itm iq s := by
  delta foot_nextPhase at hq
  simp only [off_spots, off_cons_cons, off_nil, List.all_cons, List.all_nil, Bool.and_true, Bool.and_eq_true] at hq
  simp [hq, State.nextPhase]

def foot_updateDone : List Spot := spots [foot_logEntry, foot_modFw, foot_complete, foot_showUpd] [.f .DBG_UPD_STAT_BUSY, .f .DBG_UPD_STAT_DONE,
  .f .DBG_UPD_STAT_RESULT]

@[simp] theorem it_updateDone {iq : Item} (s : State) (a : ActX) (hq : iq.off foot_updateDone = true) : itm iq (State.updateDone s a) = itm iq s := by
  delta foot_updateDone at hq
  simp only [off_spots, off_cons_cons, off_nil, List.all_cons, List.all_nil, Bool.and_true, Bool.and_eq_true] at hq
  simp only [State.updateDone]
  (repeat' split) <;> simp [hq]

def foot_finishUnit : List Spot := spots [foot_modChan, foot_clearDecoder, foot_modAct, foot_unitDone] [.f .FIRN_PROG_VERSION, .f .FIRN_EVENT_PROG_DONE,
  .f .FIRN_STATUS_LSTATE, .f .MOR_PROG_VERSION]

@[simp] theorem it_finishUnit {iq : Item} (s : State) (a : ActX) (k : Nat) (hq : iq.off foot_finishUnit = true) : itm iq (State.finishUnit s a k) = itm iq s := by
  delta foot_finishUnit at hq
  simp only [off_spots, off_cons_cons, off_nil, List.all_cons, List.all_nil, Bool.and_true, Bool.and_eq_true] at hq
  simp only [State.finishUnit]
  (repeat' split) <;> simp [hq]

def foot_beginUnit : List Spot := spots [foot_showUpd, foot_modAct] [.f .DBG_UPD_STAT_RESULT]

@[simp] theorem it_beginUnit {iq : Item} (s : State) (k u : Nat) (hq : iq.off foot_beginUnit = true) : itm iq (State.beginUnit s k u) = itm iq s := by
  delta foot_beginUnit at hq
  simp only [off_spots, off_cons_cons, off_nil, List.all_cons, List.all_nil, Bool.and_true, Bool.and_eq_true] at hq
  simp [hq, State.beginUnit]

def foot_startUnit : List Spot := spots [foot_modChan, foot_testCluster, foot_startPlanned, foot_startMigration, foot_showUpd, foot_restartCore,
  foot_beginUnit] [.f .DBG_UPD_STAT_RESULT, .f .FIRN_STATUS_LSTATE, .f .MOR_DEC_DSTATE]

@[simp] theorem it_startUnit {iq : Item} (s : State) (a : ActX) (k : Nat) (hq : iq.off foot_startUnit = true) : itm iq (State.startUnit s a k) = itm iq s := by
  delta foot_startUnit at hq
  simp only [off_spots, off_cons_cons, off_nil, List.all_cons, List.all_nil, Bool.and_true, Bool.and_eq_true] at hq
  simp only [State.startUnit]
  (repeat' split) <;> simp [hq]

def foot_coresUpdated : List Spot := spots [foot_modFw, foot_modCirq] [.f .RST_FW_STAT_BOOTED]

@[simp] theorem it_coresUpdated {iq : Item} (s : State) (a : ActX) (hq : iq.off foot_coresUpdated = true) : itm iq (State.coresUpdated s a) = itm iq s := by
  delta foot_coresUpdated at hq
  simp only [off_spots, off_cons_cons, off_nil, List.all_cons, List.all_nil, Bool.and_true, Bool.and_eq_true] at hq
  simp [hq, State.coresUpdated]

def foot_endPhase : List Spot := spots [foot_writeBootRec, foot_trialStart, foot_nextPhase, foot_updateDone, foot_coresUpdated] []

@[simp] theorem it_endPhase {iq : Item} (s : State) (a : ActX) (k : Nat) (hq : iq.off foot_endPhase = true) : itm iq (State.endPhase s a k) = itm iq s := by
  delta foot_endPhase at hq
  simp only [off_spots, off_cons_cons, off_nil, List.all_cons, List.all_nil, Bool.and_true, Bool.and_eq_true] at hq
  unfold State.endPhase
  (repeat' split) <;> simp [hq]

def foot_execLiveUpdateStep : List Spot := spots [foot_fin, foot_modAct, foot_finishUnit, foot_startUnit, foot_endPhase] []

theorem it_execLiveUpdateStep {iq : Item} (s : State) (hq : iq.off foot_execLiveUpdateStep = true) : itOut iq (execLiveUpdateStep s) s := by
  delta foot_execLiveUpdateStep at hq
  simp only [off_spots, off_cons_cons, off_nil, List.all_cons, List.all_nil, Bool.and_true, Bool.and_eq_true] at hq
  simp only [execLiveUpdateStep]
  (repeat' split) <;> simp [hq]

def foot_execTrialConfirm : List Spot := spots [foot_modFw, foot_fin, foot_writeBootRec] []

theorem it_execTrialConfirm {iq : Item} (s : State) (hq : iq.off foot_execTrialConfirm = true) : itOut iq (execTrialConfirm s) s := by
  delta foot_execTrialConfirm at hq
  simp only [off_spots, off_cons_cons, off_nil, List.all_cons, List.all_nil, Bool.and_true, Bool.and_eq_true] at hq
  simp only [execTrialConfirm]
  (repeat' split) <;> simp [hq]

def foot_sendBfw : List Spot := spots [foot_modDrop, foot_emitMgmt] []

@[simp] theorem it_sendBfw {iq : Item} (s : State) (k : Nat) (l : List (List Nat)) (hq : iq.off foot_sendBfw = true) : itm iq (State.sendBfw s k l) = itm iq s := by
  delta foot_sendBfw at hq
  simp only [off_spots, off_cons_cons, off_nil, List.all_cons, List.all_nil, Bool.and_true, Bool.and_eq_true] at hq
  simp [hq, State.sendBfw]

def foot_execBfwUpdate : List Spot := spots [foot_modFw, foot_fin, foot_bfwEnd, foot_showUpd, foot_sendBfw] []

theorem it_execBfwUpdate {iq : Item} (mn : Fin 4160) (image : List Nat) (offer check : Fin 4) (s : State) (hq : iq.off foot_execBfwUpdate = true) : itOut iq (execBfwUpdate mn image offer check s) s := by
  delta foot_execBfwUpdate at hq
  simp only [off_spots, off_cons_cons, off_nil, List.all_cons, List.all_nil, Bool.and_true, Bool.and_eq_true] at hq
  simp only [execBfwUpdate]
  (repeat' split) <;> simp [hq]

def foot_execBfwRebootTimeout : List Spot := spots [foot_fin, foot_bfwEnd] []

theorem it_execBfwRebootTimeout {iq : Item} (mn : Fin 4160) (s : State) (hq : iq.off foot_execBfwRebootTimeout = true) : itOut iq (execBfwRebootTimeout mn s) s := by
  delta foot_execBfwRebootTimeout at hq
  simp only [off_spots, off_cons_cons, off_nil, List.all_cons, List.all_nil, Bool.and_true, Bool.and_eq_true] at hq
  simp only [execBfwRebootTimeout]
  (repeat' split) <;> simp [hq]

end Sys2Proof.Laws
end

