-- ==== Sys2Proof/Laws/FootService.lean ====
section
/-! SUPPORT. What the operations of Machine/Service.lean may write, and that they leave everything else as it was. -/

namespace Sys2Proof.Laws

open Sys2Proof.Machine

def foot_execSupervisorTimeout : List Spot := spots [foot_modPwr, foot_fin, foot_warmReset] [.f .DBG_CRASH_DWORD, .f .RST_CAUSE_SUPERVISOR]

theorem it_execSupervisorTimeout {iq : Item} (lost : Fin 65536) (s : State) (hq : iq.off foot_execSupervisorTimeout = true) : itOut iq (execSupervisorTimeout lost s) s := by
  delta foot_execSupervisorTimeout at hq
  simp only [off_spots, off_cons_cons, off_nil, List.all_cons, List.all_nil, Bool.and_true, Bool.and_eq_true] at hq
  simp [hq, execSupervisorTimeout]

def foot_execSupKick : List Spot := spots [foot_modPwr, foot_fin] []

theorem it_execSupKick {iq : Item} (v : Word) (s : State) (hq : iq.off foot_execSupKick = true) : itOut iq (execSupKick v s) s := by
  delta foot_execSupKick at hq
  simp only [off_spots, off_cons_cons, off_nil, List.all_cons, List.all_nil, Bool.and_true, Bool.and_eq_true] at hq
  simp [hq, execSupKick]

def foot_execFabricTimeout : List Spot := spots [foot_logEntry, foot_modDbg, foot_fin, foot_laneFault, foot_decoderWatchdog, foot_haltDma, foot_failTransfers,
  foot_restartCore] [.p .free]

theorem it_execFabricTimeout {iq : Item} (r : Requester) (code base : Fin 65536) (granted : Nat) (s : State) (hq : iq.off foot_execFabricTimeout = true) : itOut iq (execFabricTimeout r code base granted s) s := by
  delta foot_execFabricTimeout at hq
  simp only [off_spots, off_cons_cons, off_nil, List.all_cons, List.all_nil, Bool.and_true, Bool.and_eq_true] at hq
  simp only [execFabricTimeout]
  (repeat' split) <;> simp [hq]

def foot_execEventGatherEnd : List Spot := spots [foot_modEvt, foot_postSteward, foot_fin] []

theorem it_execEventGatherEnd {iq : Item} (s : State) (hq : iq.off foot_execEventGatherEnd = true) : itOut iq (execEventGatherEnd s) s := by
  delta foot_execEventGatherEnd at hq
  simp only [off_spots, off_cons_cons, off_nil, List.all_cons, List.all_nil, Bool.and_true, Bool.and_eq_true] at hq
  simp [hq, execEventGatherEnd]

def foot_beginTest : List Spot := spots [foot_modDbg] [.f .DBG_AUTH_STAT_AUTH, .f .DBG_BIST_STAT_ACTIVE, .f .DBG_BIST_CMD_BUSY, .f .DBG_BIST_CMD_RESULT]

@[simp] theorem it_beginTest {iq : Item} (s : State) (cls i : Nat) (cmd : Bool) (hq : iq.off foot_beginTest = true) : itm iq (State.beginTest s cls i cmd) = itm iq s := by
  delta foot_beginTest at hq
  simp only [off_spots, off_cons_cons, off_nil, List.all_cons, List.all_nil, Bool.and_true, Bool.and_eq_true] at hq
  simp [hq, State.beginTest]

def foot_takeOut : List Spot := spots [foot_requestTest, foot_modChan, foot_testDecoder, foot_testCluster, foot_startPlanned, foot_startMigration,
  foot_testLane, foot_portReset, foot_restartCore, foot_beginTest] []

@[simp] theorem it_takeOut {iq : Item} (s : State) (cls i : Nat) (cmd : Bool) (hq : iq.off foot_takeOut = true) : itm iq (State.takeOut s cls i cmd).1 = itm iq s := by
  delta foot_takeOut at hq
  simp only [off_spots, off_cons_cons, off_nil, List.all_cons, List.all_nil, Bool.and_true, Bool.and_eq_true] at hq
  simp only [State.takeOut]
  (repeat' split) <;> simp [hq]

def foot_execBistTestBlock : List Spot := spots [foot_fin, foot_regCmd, foot_takeOut] [.f .DBG_BIST_CMD_RESULT, .f .DBG_BIST_CMD_CLASS, .f .DBG_BIST_CMD_INDEX]

theorem it_execBistTestBlock {iq : Item} (cls : Fin 16) (index : Fin 512) (s : State) (hq : iq.off foot_execBistTestBlock = true) : itOut iq (execBistTestBlock cls index s) s := by
  delta foot_execBistTestBlock at hq
  simp only [off_spots, off_cons_cons, off_nil, List.all_cons, List.all_nil, Bool.and_true, Bool.and_eq_true] at hq
  unfold execBistTestBlock
  refine it_regCmd _ _ (by simp [hq]) fun t => ?_
  simp [hq]

def foot_newRound : List Spot := spots [foot_modDbg] []

@[simp] theorem it_newRound {iq : Item} (s : State) (hq : iq.off foot_newRound = true) : itm iq (State.newRound s) = itm iq s := by
  delta foot_newRound at hq
  simp only [off_spots, off_cons_cons, off_nil, List.all_cons, List.all_nil, Bool.and_true, Bool.and_eq_true] at hq
  simp [hq, State.newRound]

def foot_execPeriodicBist : List Spot := spots [foot_modDbg, foot_fin, foot_takeOut, foot_newRound] []

theorem it_execPeriodicBist {iq : Item} (s : State) (hq : iq.off foot_execPeriodicBist = true) : itOut iq (execPeriodicBist s) s := by
  delta foot_execPeriodicBist at hq
  simp only [off_spots, off_cons_cons, off_nil, List.all_cons, List.all_nil, Bool.and_true, Bool.and_eq_true] at hq
  unfold execPeriodicBist
  split
  · simp [hq]
  · extract_lets t
    have kt : itm iq t = itm iq s := it_newRound s (by simp [hq])
    clear_value t
    split
    · simp [hq, kt]
    · dsimp only
      rw [it_fin _ _ (by simp [hq])]; simp [hq, kt]

def foot_endTest : List Spot := spots [foot_logEntry, foot_modDbg, foot_returnBist, foot_clusterTestEnd, foot_laneTestEnd, foot_decTestEnd, foot_followOwners] [.f .MCORE_STAT_CSTATE,
  .f .MCORE_EVENT_HELD]

@[simp] theorem it_endTest {iq : Item} (s : State) (cls i : Nat) (pass : Bool) (hq : iq.off foot_endTest = true) : itm iq (State.endTest s cls i pass) = itm iq s := by
  delta foot_endTest at hq
  simp only [off_spots, off_cons_cons, off_nil, List.all_cons, List.all_nil, Bool.and_true, Bool.and_eq_true] at hq
  simp only [State.endTest]
  (repeat' split) <;> simp [hq]

def foot_execBistDone : List Spot := spots [foot_modDbg, foot_fin, foot_selfTestFailed, foot_endTest] [.f .DBG_BIST_STAT_ACTIVE, .f .DBG_BIST_CMD_BUSY,
  .f .DBG_BIST_CMD_RESULT]

theorem it_execBistDone {iq : Item} (pass memory : Bool) (s : State) (hq : iq.off foot_execBistDone = true) : itOut iq (execBistDone pass memory s) s := by
  delta foot_execBistDone at hq
  simp only [off_spots, off_cons_cons, off_nil, List.all_cons, List.all_nil, Bool.and_true, Bool.and_eq_true] at hq
  simp only [execBistDone]
  (repeat' split) <;> simp [hq]

def foot_execBistWindow : List Spot := spots [foot_modHost, foot_fin, foot_regCmd, foot_warmHeld] [.f .DBG_BIST_CMD_RESULT, .f .RST_CAUSE_SOFT]

theorem it_execBistWindow {iq : Item} (fail : Bool) (unit : Fin 16) (channels : Fin 256) (durMs : Fin 65536) (s : State) (hq : iq.off foot_execBistWindow = true) : itOut iq (execBistWindow fail unit channels durMs s) s := by
  delta foot_execBistWindow at hq
  simp only [off_spots, off_cons_cons, off_nil, List.all_cons, List.all_nil, Bool.and_true, Bool.and_eq_true] at hq
  unfold execBistWindow
  refine it_regCmd _ _ (by simp [hq]) fun t => ?_
  simp [hq]

def foot_execAuthChallenge : List Spot := spots [foot_modDbg, foot_fin] [.f .DBG_AUTH_CMD_RESULT, .f .DBG_AUTH_CHAL_DWORD, .p .free]

theorem it_execAuthChallenge {iq : Item} (s : State) (hq : iq.off foot_execAuthChallenge = true) : itOut iq (execAuthChallenge s) s := by
  delta foot_execAuthChallenge at hq
  simp only [off_spots, off_cons_cons, off_nil, List.all_cons, List.all_nil, Bool.and_true, Bool.and_eq_true] at hq
  simp [hq, execAuthChallenge]

def foot_execAuthVerify : List Spot := spots [foot_modDbg, foot_fin] [.f .DBG_AUTH_CMD_RESULT, .f .DBG_AUTH_STAT_AUTH, .f .DBG_AUTH_STAT_FAILS,
  .f .DBG_AUTH_STAT_LOCKED]

theorem it_execAuthVerify {iq : Item} (ok : Bool) (s : State) (hq : iq.off foot_execAuthVerify = true) : itOut iq (execAuthVerify ok s) s := by
  delta foot_execAuthVerify at hq
  simp only [off_spots, off_cons_cons, off_nil, List.all_cons, List.all_nil, Bool.and_true, Bool.and_eq_true] at hq
  simp [hq, execAuthVerify]

def foot_execAuthEnd : List Spot := spots [foot_fin] [.f .DBG_AUTH_STAT_AUTH, .f .DBG_AUTH_CMD_RESULT]

theorem it_execAuthEnd {iq : Item} (s : State) (hq : iq.off foot_execAuthEnd = true) : itOut iq (execAuthEnd s) s := by
  delta foot_execAuthEnd at hq
  simp only [off_spots, off_cons_cons, off_nil, List.all_cons, List.all_nil, Bool.and_true, Bool.and_eq_true] at hq
  simp [hq, execAuthEnd]

end Sys2Proof.Laws
end

