-- ==== Sys2Proof/Laws/FootAccess.lean ====
section
/-! SUPPORT. What the operations of Machine/Access.lean may write, and that they leave everything else as it was. -/

namespace Sys2Proof.Laws

open Sys2Proof.Machine

def foot_gpioLevel : List Spot := spots [foot_wake] [.f .DRN_GPIO_IN_GPIO, .f .DRN_GPIO_EVENT_GPIO]

@[simp] theorem it_gpioLevel {iq : Item} (s : State) (g : Nat) (lvl : Bool) (hq : iq.off foot_gpioLevel = true) : itm iq (State.gpioLevel s g lvl) = itm iq s := by
  delta foot_gpioLevel at hq
  simp only [off_spots, off_cons_cons, off_nil, List.all_cons, List.all_nil, Bool.and_true, Bool.and_eq_true] at hq
  simp [hq, State.gpioLevel]

def foot_gpioDrive : List Spot := spots [foot_gpioLevel] []

@[simp] theorem it_gpioDrive {iq : Item} (s : State) (hq : iq.off foot_gpioDrive = true) : itm iq (State.gpioDrive s) = itm iq s := by
  delta foot_gpioDrive at hq
  simp only [off_spots, off_cons_cons, off_nil, List.all_cons, List.all_nil, Bool.and_true, Bool.and_eq_true] at hq
  simp [hq, State.gpioDrive]

def foot_execGpioEdge : List Spot := spots [foot_fin, foot_gpioLevel] []

theorem it_execGpioEdge {iq : Item} (g : Fin 32) (level : Bool) (s : State) (hq : iq.off foot_execGpioEdge = true) : itOut iq (execGpioEdge g level s) s := by
  delta foot_execGpioEdge at hq
  simp only [off_spots, off_cons_cons, off_nil, List.all_cons, List.all_nil, Bool.and_true, Bool.and_eq_true] at hq
  simp [hq, execGpioEdge]

def foot_execGpioSet : List Spot := spots [foot_fin, foot_regCmd, foot_gpioDrive] [.f .DRN_GPIO_OUT_GPIO]

theorem it_execGpioSet {iq : Item} (mask : Word) (s : State) (hq : iq.off foot_execGpioSet = true) : itOut iq (execGpioSet mask s) s := by
  delta foot_execGpioSet at hq
  simp only [off_spots, off_cons_cons, off_nil, List.all_cons, List.all_nil, Bool.and_true, Bool.and_eq_true] at hq
  unfold execGpioSet
  refine it_regCmd _ _ (by simp [hq]) fun t => ?_
  simp [hq]

def foot_execGpioClr : List Spot := spots [foot_fin, foot_regCmd, foot_gpioDrive] [.f .DRN_GPIO_OUT_GPIO]

theorem it_execGpioClr {iq : Item} (mask : Word) (s : State) (hq : iq.off foot_execGpioClr = true) : itOut iq (execGpioClr mask s) s := by
  delta foot_execGpioClr at hq
  simp only [off_spots, off_cons_cons, off_nil, List.all_cons, List.all_nil, Bool.and_true, Bool.and_eq_true] at hq
  unfold execGpioClr
  refine it_regCmd _ _ (by simp [hq]) fun t => ?_
  simp [hq]

def foot_execAttentionWrite : List Spot := spots [foot_modFn, foot_fin, foot_wake] []

theorem it_execAttentionWrite {iq : Item} (fn : FnIx) (s : State) (hq : iq.off foot_execAttentionWrite = true) : itOut iq (execAttentionWrite fn s) s := by
  delta foot_execAttentionWrite at hq
  simp only [off_spots, off_cons_cons, off_nil, List.all_cons, List.all_nil, Bool.and_true, Bool.and_eq_true] at hq
  simp [hq, execAttentionWrite]

def foot_execPartnerWake : List Spot := spots [foot_fin, foot_wakePort, foot_wake] [.f .PEN_EVENT_WAKE_REQ]

theorem it_execPartnerWake {iq : Item} (p : PortIx) (s : State) (hq : iq.off foot_execPartnerWake = true) : itOut iq (execPartnerWake p s) s := by
  delta foot_execPartnerWake at hq
  simp only [off_spots, off_cons_cons, off_nil, List.all_cons, List.all_nil, Bool.and_true, Bool.and_eq_true] at hq
  simp [hq, execPartnerWake]

def foot_execHostLinkUp : List Spot := spots [foot_fin, foot_beginRun] [.f .HQP_PORT_UP, .f .HQP_PORT_WIDTH, .f .HQP_PORT_RATE, .f .HQP_PORT_L1]

theorem it_execHostLinkUp {iq : Item} (p : HostPort) (width rate : Fin 16) (s : State) (hq : iq.off foot_execHostLinkUp = true) : itOut iq (execHostLinkUp p width rate s) s := by
  delta foot_execHostLinkUp at hq
  simp only [off_spots, off_cons_cons, off_nil, List.all_cons, List.all_nil, Bool.and_true, Bool.and_eq_true] at hq
  simp [hq, execHostLinkUp]

def foot_mctpTake : List Spot := spots [foot_mctpAnswer, foot_mctpHold, foot_wake] []

@[simp] theorem it_mctpTake {iq : Item} (s : State) (r : MctpReq) (hq : iq.off foot_mctpTake = true) : itm iq (State.mctpTake s r) = itm iq s := by
  delta foot_mctpTake at hq
  simp only [off_spots, off_cons_cons, off_nil, List.all_cons, List.all_nil, Bool.and_true, Bool.and_eq_true] at hq
  simp [hq, State.mctpTake]

def foot_execMctpControl : List Spot := spots [foot_fin, foot_mctpTake] []

theorem it_execMctpControl {iq : Item} (req : List Nat) (s : State) (hq : iq.off foot_execMctpControl = true) : itOut iq (execMctpControl req s) s := by
  delta foot_execMctpControl at hq
  simp only [off_spots, off_cons_cons, off_nil, List.all_cons, List.all_nil, Bool.and_true, Bool.and_eq_true] at hq
  simp [hq, execMctpControl]

def foot_execMctpStatus : List Spot := spots [foot_fin, foot_mctpTake] []

theorem it_execMctpStatus {iq : Item} (s : State) (hq : iq.off foot_execMctpStatus = true) : itOut iq (execMctpStatus s) s := by
  delta foot_execMctpStatus at hq
  simp only [off_spots, off_cons_cons, off_nil, List.all_cons, List.all_nil, Bool.and_true, Bool.and_eq_true] at hq
  simp [hq, execMctpStatus]

def foot_execMctpReadRegister : List Spot := spots [foot_fin, foot_mctpTake] []

theorem it_execMctpReadRegister {iq : Item} (offset : Nat) (s : State) (hq : iq.off foot_execMctpReadRegister = true) : itOut iq (execMctpReadRegister offset s) s := by
  delta foot_execMctpReadRegister at hq
  simp only [off_spots, off_cons_cons, off_nil, List.all_cons, List.all_nil, Bool.and_true, Bool.and_eq_true] at hq
  simp [hq, execMctpReadRegister]

def foot_execMctpTelemetry : List Spot := spots [foot_fin, foot_telemetry, foot_mctpTake] []

theorem it_execMctpTelemetry {iq : Item} (mn : Fin 65536) (s : State) (hq : iq.off foot_execMctpTelemetry = true) : itOut iq (execMctpTelemetry mn s) s := by
  delta foot_execMctpTelemetry at hq
  simp only [off_spots, off_cons_cons, off_nil, List.all_cons, List.all_nil, Bool.and_true, Bool.and_eq_true] at hq
  simp [hq, execMctpTelemetry]

def foot_execMctpLogEntries : List Spot := spots [foot_fin, foot_mctpTake] []

theorem it_execMctpLogEntries {iq : Item} (seq : Nat) (count : Fin 256) (s : State) (hq : iq.off foot_execMctpLogEntries = true) : itOut iq (execMctpLogEntries seq count s) s := by
  delta foot_execMctpLogEntries at hq
  simp only [off_spots, off_cons_cons, off_nil, List.all_cons, List.all_nil, Bool.and_true, Bool.and_eq_true] at hq
  simp [hq, execMctpLogEntries]

def foot_readEffect : List Spot := [.any]

@[simp] theorem it_readEffect {iq : Item} (s : State) (e : RegEntry) (i j : Nat) (hq : iq.off foot_readEffect = true) : itm iq (State.readEffect s e i j) = itm iq s := by
  exact (off_any hq).elim

def foot_readReg : List Spot := [.any]

@[simp] theorem it_readReg {iq : Item} (s : State) (a : Nat) (hq : iq.off foot_readReg = true) : itm iq (State.readReg s a) = itm iq s := by
  exact (off_any hq).elim

def foot_execRegisterRead : List Spot := spots [foot_emit, foot_fin, foot_dozeWake, foot_fault, foot_readReg] []

theorem it_execRegisterRead {iq : Item} (addr : Nat) (s : State) (hq : iq.off foot_execRegisterRead = true) : itOut iq (execRegisterRead addr s) s := by
  delta foot_execRegisterRead at hq
  simp only [off_spots, off_cons_cons, off_nil, List.all_cons, List.all_nil, Bool.and_true, Bool.and_eq_true] at hq
  simp [hq, execRegisterRead]

def foot_brthWritten : List Spot := spots [foot_reevaluate, foot_grantBist] []

@[simp] theorem it_brthWritten {iq : Item} (s : State) (hq : iq.off foot_brthWritten = true) : itm iq (State.brthWritten s) = itm iq s := by
  delta foot_brthWritten at hq
  simp only [off_spots, off_cons_cons, off_nil, List.all_cons, List.all_nil, Bool.and_true, Bool.and_eq_true] at hq
  simp [hq, State.brthWritten]

def foot_perfWritten : List Spot := [.r .MCORE_PERF]

@[simp] theorem it_perfWritten {iq : Item} (s : State) (c : Nat) (v : Word) (hq : iq.off foot_perfWritten = true) : itm iq (State.perfWritten s c v) = itm iq s := by
  delta foot_perfWritten at hq
  simp [hq, State.perfWritten]

def foot_writeEffectB : List Spot := [.any]

@[simp] theorem it_writeEffectB {iq : Item} (s : State) (e : RegEntry) (i : Nat) (old v : Word) (hq : iq.off foot_writeEffectB = true) : itm iq (State.writeEffectB s e i old v) = itm iq s := by
  exact (off_any hq).elim

def foot_writeEffect : List Spot := [.any]

@[simp] theorem it_writeEffect {iq : Item} (s : State) (e : RegEntry) (i : Nat) (old v : Word) (hq : iq.off foot_writeEffect = true) : itm iq (State.writeEffect s e i old v) = itm iq s := by
  exact (off_any hq).elim

def foot_writeWakeCtrl : List Spot := spots [foot_timerDue] [.f .DRN_WAKE_CTRL_EN, .f .DRN_WAKE_CTRL_FIRED]

@[simp] theorem it_writeWakeCtrl {iq : Item} (s : State) (v : Word) (hq : iq.off foot_writeWakeCtrl = true) : itm iq (State.writeWakeCtrl s v) = itm iq s := by
  delta foot_writeWakeCtrl at hq
  simp only [off_spots, off_cons_cons, off_nil, List.all_cons, List.all_nil, Bool.and_true, Bool.and_eq_true] at hq
  simp [hq, State.writeWakeCtrl]

def foot_store : List Spot := [.any]

@[simp] theorem it_store {iq : Item} (s : State) (r : Reg) (i j : Nat) (w : Word) (hq : iq.off foot_store = true) (h_r : iq.off [.r r] = true) : itm iq (State.store s r i j w) = itm iq s := by
  exact (off_any hq).elim

def foot_writeReg : List Spot := [.any]

@[simp] theorem it_writeReg {iq : Item} (s : State) (e : RegEntry) (i j : Nat) (v : Word) (hq : iq.off foot_writeReg = true) : itm iq (State.writeReg s e i j v) = itm iq s := by
  exact (off_any hq).elim

def foot_writeBar2 : List Spot := spots [foot_emit, foot_msixWr] []

@[simp] theorem it_writeBar2 {iq : Item} (s : State) (a : Nat) (v : Word) (hq : iq.off foot_writeBar2 = true) : itm iq (State.writeBar2 s a v) = itm iq s := by
  delta foot_writeBar2 at hq
  simp only [off_spots, off_cons_cons, off_nil, List.all_cons, List.all_nil, Bool.and_true, Bool.and_eq_true] at hq
  simp [hq, State.writeBar2]

def foot_execRegisterWrite : List Spot := spots [foot_logEntry, foot_fin, foot_dozeWake, foot_fault, foot_writeReg, foot_writeBar2] []

theorem it_execRegisterWrite {iq : Item} (addr : Nat) (value : Word) (be : Fin 16) (s : State) (hq : iq.off foot_execRegisterWrite = true) : itOut iq (execRegisterWrite addr value be s) s := by
  delta foot_execRegisterWrite at hq
  simp only [off_spots, off_cons_cons, off_nil, List.all_cons, List.all_nil, Bool.and_true, Bool.and_eq_true] at hq
  unfold execRegisterWrite
  extract_lets s1
  have k1 : itm iq s1 = itm iq s := by simp only [s1]; split <;> simp [hq]
  clear_value s1
  (repeat' split) <;> first | (simp [hq, k1]; done) | (rw [it_fin _ _ (by simp [hq]), it_writeReg _ _ _ _ _ (findReg_mem ‹_›), k1])

end Sys2Proof.Laws
end

