-- ==== Sys2Proof/Laws/FootCalibCmds.lean ====
section
/-! SUPPORT. What the operations of Machine/CalibCmds.lean may write, and that they leave everything else as it was. -/

namespace Sys2Proof.Laws

open Sys2Proof.Machine

def foot_startOpcWrite : List Spot := spots [foot_modLane, foot_modRun, foot_loadLevels] [.f .FIRN_STATUS_WRITE, .f .FIRN_BEAM_TSTATE]

@[simp] theorem it_startOpcWrite {iq : Item} (s : State) (f n : Nat) (r : CalRunX) (hq : iq.off foot_startOpcWrite = true) : itm iq (State.startOpcWrite s f n r) = itm iq s := by
  delta foot_startOpcWrite at hq
  simp only [off_spots, off_cons_cons, off_nil, List.all_cons, List.all_nil, Bool.and_true, Bool.and_eq_true] at hq
  simp [hq, State.startOpcWrite]

def foot_opcToward : List Spot := spots [foot_turnBurst, foot_abandonSome, foot_loadLevels, foot_failWrites, foot_askWrite, foot_wantHead, foot_startOpcWrite] []

@[simp] theorem it_opcToward {iq : Item} (s : State) (n : Nat) (r : CalRunX) (hq : iq.off foot_opcToward = true) : itm iq (State.opcToward s n r) = itm iq s := by
  delta foot_opcToward at hq
  simp only [off_spots, off_cons_cons, off_nil, List.all_cons, List.all_nil, Bool.and_true, Bool.and_eq_true] at hq
  unfold State.opcToward
  dsimp only
  have k0 : itm iq (s.wantHead n r.layer (opcCluster r.block)) = itm iq s := by simp [hq]
  generalize s.wantHead n r.layer (opcCluster r.block) = s0 at k0
  split
  · exact k0
  · rename_i f _
    generalize s0.opcLevels n r.layer 0 = first
    split
    · exact k0
    · split
      · simp [hq, k0]
      · split
        · simp [hq, k0]
        · split
          · exact k0
          · split <;> (rename_i h; have k := (it_fst h (it_askWrite (iq := iq) _ _ _ _ (by simp [hq]))).trans k0; simp [hq, k])

def foot_opcOn : List Spot := spots [foot_returnGrant, foot_turnBurst, foot_modLane, foot_searchAgain, foot_abandonSome, foot_modRun] [.f .FIRN_STATUS_WRITE]

@[simp] theorem it_opcOn {iq : Item} (s : State) (n : Nat) (r : CalRunX) (hq : iq.off foot_opcOn = true) : itm iq (State.opcOn s n r) = itm iq s := by
  delta foot_opcOn at hq
  simp only [off_spots, off_cons_cons, off_nil, List.all_cons, List.all_nil, Bool.and_true, Bool.and_eq_true] at hq
  simp only [State.opcOn]
  (repeat' split) <;> simp [hq]

def foot_opcStep : List Spot := spots [foot_opcToward, foot_opcOn] []

@[simp] theorem it_opcStep {iq : Item} (s : State) (n : Nat) (hq : iq.off foot_opcStep = true) : itm iq (State.opcStep s n) = itm iq s := by
  delta foot_opcStep at hq
  simp only [off_spots, off_cons_cons, off_nil, List.all_cons, List.all_nil, Bool.and_true, Bool.and_eq_true] at hq
  simp only [State.opcStep]
  (repeat' split) <;> simp [hq]

def foot_execCalRunStart : List Spot := spots [foot_fin, foot_beginRun, foot_startOpc, foot_opcStep] []

theorem it_execCalRunStart {iq : Item} (space : Fin 4) (index : Fin 4096) (layer : Fin 10) (item : Fin 6) (probe : Fin 4097) (s : State) (hq : iq.off foot_execCalRunStart = true) : itOut iq (execCalRunStart space index layer item probe s) s := by
  delta foot_execCalRunStart at hq
  simp only [off_spots, off_cons_cons, off_nil, List.all_cons, List.all_nil, Bool.and_true, Bool.and_eq_true] at hq
  simp [hq, execCalRunStart]

def foot_execCalRunDone : List Spot := spots [foot_fin, foot_endMeasure, foot_refreshLevels, foot_failWrites, foot_failRun, foot_passRun] []

theorem it_execCalRunDone {iq : Item} (space : Fin 4) (index : Fin 4096) (layer : Fin 10) (item : Fin 6) (x : CalData) (s : State) (hq : iq.off foot_execCalRunDone = true) : itOut iq (execCalRunDone space index layer item x s) s := by
  delta foot_execCalRunDone at hq
  simp only [off_spots, off_cons_cons, off_nil, List.all_cons, List.all_nil, Bool.and_true, Bool.and_eq_true] at hq
  simp only [execCalRunDone]
  (repeat' split) <;> simp [hq]

def foot_execCalRunNow : List Spot := spots [foot_regCmd, foot_modCal, foot_beginRun, foot_startOpc, foot_calErr, foot_calCmd] []

theorem it_execCalRunNow {iq : Item} (items : Fin 64) (probe : Fin 4097) (s : State) (hq : iq.off foot_execCalRunNow = true) : itOut iq (execCalRunNow items probe s) s := by
  delta foot_execCalRunNow at hq
  simp only [off_spots, off_cons_cons, off_nil, List.all_cons, List.all_nil, Bool.and_true, Bool.and_eq_true] at hq
  unfold execCalRunNow
  refine it_regCmd _ _ (by simp [hq]) fun t => ?_
  refine it_calCmd _ _ _ (fun u a b c => ?_) (by simp [hq])
  try dsimp only
  first | (simp [hq]; done) | ((repeat' split) <;> simp [hq])

end Sys2Proof.Laws
end

