-- ==== Sys2Proof/Laws/Quiet.lean ====
section
/-! SUPPORT. What the end of a meaning and a log entry touch. `quiet r` says that register array r is none of the registers of the log, the
merger and the event entries; every other register passes through `noteEvents`, `logEntry` and `complete` unchanged. -/

namespace Sys2Proof.Laws

open Sys2Proof.Machine

/-- The registers that a log entry writes. -/
def logRegs : List Reg := [.DBG_LOG_SEQ, .DBG_LOG_CFG, .DBG_LOG_LOST]

/-- The registers that a completion or an event entry writes beside those of the log. -/
def hostRegs : List Reg := [.HQP_MERGE, .HQP_EVENT, .HQP_FN_DISCARD, .HQP_FN_STAT]

/-- r meets none of them. -/
def quiet (r : Reg) : Bool := (logRegs ++ hostRegs).all fun q => apart q r || comb q r

theorem rd_wr_quiet (s : State) (q r : Reg) (i j i' j' : Nat) (v : Word) (h : (apart q r || comb q r) = true) :
    (s.wr q i j v).rd r i' j' = s.rd r i' j' := by
  rcases Bool.or_eq_true _ _ ▸ h with h | h
  · exact rd_wr_apart _ _ _ _ _ _ _ _ h
  · exact rd_wr_comb _ _ _ _ _ _ _ _ h

section
variable {r : Reg} (h : quiet r = true)
include h

theorem quiet_of {q : Reg} (hq : q ∈ logRegs ++ hostRegs) : (apart q r || comb q r) = true := List.all_eq_true.mp h q hq

theorem rd_wr_q (s : State) {q : Reg} (hq : q ∈ logRegs ++ hostRegs) (a b : Nat) (v : Word) (i j : Nat) :
    (s.wr q a b v).rd r i j = s.rd r i j := rd_wr_quiet _ _ _ _ _ _ _ _ (quiet_of h hq)

theorem rd_set_q (s : State) (f : Fld) (hq : f.reg ∈ logRegs ++ hostRegs) (a v i j : Nat) : (s.set f a v).rd r i j = s.rd r i j :=
  rd_wr_q h s hq _ _ _ _ _

theorem rd_set0_q (s : State) (f : Fld) (hq : f.reg ∈ logRegs ++ hostRegs) (v i j : Nat) : (s.set0 f v).rd r i j = s.rd r i j :=
  rd_wr_q h s hq _ _ _ _ _

theorem rd_raise_q (s : State) (f : Fld) (hq : f.reg ∈ logRegs ++ hostRegs) (a i j : Nat) : (s.raise f a).rd r i j = s.rd r i j :=
  rd_wr_q h s hq _ _ _ _ _

theorem rd_bump_q (s : State) (f : Fld) (hq : f.reg ∈ logRegs ++ hostRegs) (a i j : Nat) : (s.bump f a).rd r i j = s.rd r i j :=
  rd_wr_q h s hq _ _ _ _ _

theorem rd_bumpWrap_q (s : State) (f : Fld) (hq : f.reg ∈ logRegs ++ hostRegs) (a i j : Nat) : (s.bumpWrap f a).rd r i j = s.rd r i j :=
  rd_wr_q h s hq _ _ _ _ _

theorem rd_logEntry (s : State) (a : LogArgs) (i j : Nat) : (s.logEntry a).rd r i j = s.rd r i j := by
  unfold State.logEntry
  dsimp only
  (repeat' split) <;> first
    | (rw [rd_raise_q h _ .DBG_LOG_CFG_NEW (by simp [logRegs, hostRegs, Fld.DBG_LOG_CFG_NEW]), rd_bumpWrap_q h _ .DBG_LOG_SEQ_VALUE (by simp [logRegs, hostRegs, Fld.DBG_LOG_SEQ_VALUE])]; rfl)
    | (rw [rd_bumpWrap_q h _ .DBG_LOG_SEQ_VALUE (by simp [logRegs, hostRegs, Fld.DBG_LOG_SEQ_VALUE])]; rfl)
    | (rw [rd_bump_q h _ .DBG_LOG_LOST_VALUE (by simp [logRegs, hostRegs, Fld.DBG_LOG_LOST_VALUE])]; rfl)

theorem rd_enterCpl (s : State) (c : Cpl) (i j : Nat) : (s.enterCpl c).rd r i j = s.rd r i j := by
  unfold State.enterCpl
  dsimp only
  split
  · rw [rd_raise_q h _ .HQP_EVENT_MERGE_FULL (by simp [logRegs, hostRegs, Fld.HQP_EVENT_MERGE_FULL]), rd_set0_q h _ .HQP_MERGE_PEAK (by simp [logRegs, hostRegs, Fld.HQP_MERGE_PEAK])]; rfl
  · rw [rd_set0_q h _ .HQP_MERGE_PEAK (by simp [logRegs, hostRegs, Fld.HQP_MERGE_PEAK])]; rfl

theorem rd_acceptCpl (s : State) (c : Cpl) (i j : Nat) : (s.acceptCpl c).rd r i j = s.rd r i j := by
  unfold State.acceptCpl
  split
  · exact rd_enterCpl h _ _ _ _
  · rfl

theorem rd_postCpl (s : State) (c : Cpl) (i j : Nat) : (s.postCpl c).rd r i j = s.rd r i j := by
  unfold State.postCpl
  split
  · exact rd_bump_q h _ .HQP_FN_DISCARD_COUNT (by simp [logRegs, hostRegs, Fld.HQP_FN_DISCARD_COUNT]) _ _ _
  · exact rd_acceptCpl h _ _ _ _

theorem rd_postEvent (s : State) (fn code qpid detail i j : Nat) : (s.postEvent fn code qpid detail).rd r i j = s.rd r i j := by
  unfold State.postEvent
  dsimp only
  split
  · exact rd_bump_q h _ .HQP_FN_DISCARD_COUNT (by simp [logRegs, hostRegs, Fld.HQP_FN_DISCARD_COUNT]) _ _ _
  · split
    · rw [rd_acceptCpl h]; rfl
    · split
      · rfl
      · rw [rd_logEntry h, rd_raise_q h _ .HQP_EVENT_EVT_LOST (by simp [logRegs, hostRegs, Fld.HQP_EVENT_EVT_LOST]), rd_raise_q h _ .HQP_FN_STAT_EVT_LOST (by simp [logRegs, hostRegs, Fld.HQP_FN_STAT_EVT_LOST])]; rfl

theorem rd_complete (s : State) (c : Ctx) (status flags r0 r1 i j : Nat) : (s.complete c status flags r0 r1).rd r i j = s.rd r i j := by
  unfold State.complete
  dsimp only
  rw [rd_postCpl h]
  (repeat' split) <;> rfl

theorem rd_noteEvents (s : State) (i j : Nat) : s.noteEvents.rd r i j = s.rd r i j := by
  unfold State.noteEvents
  dsimp only
  split
  · rfl
  · split
    · unfold State.postSteward
      rw [rd_postEvent h]; rfl
    · rfl

end

theorem get_logEntry {f : Fld} (h : quiet f.reg = true) (s : State) (a : LogArgs) (i j : Nat) : (s.logEntry a).get f i j = s.get f i j := by
  unfold State.get; rw [rd_logEntry h]

theorem get_complete {f : Fld} (h : quiet f.reg = true) (s : State) (c : Ctx) (status flags r0 r1 i j : Nat) :
    (s.complete c status flags r0 r1).get f i j = s.get f i j := by
  unfold State.get; rw [rd_complete h]

theorem get_noteEvents {f : Fld} (h : quiet f.reg = true) (s : State) (i j : Nat) : s.noteEvents.get f i j = s.get f i j := by
  unfold State.get; rw [rd_noteEvents h]

end Sys2Proof.Laws
end

