-- ==== Sys2Proof/Laws/State.lean ====
section
/-! SUPPORT. What each update of State leaves as it is: one lemma for each field and update, and the registers under every update of a record. -/

namespace Sys2Proof.Laws

open Sys2Proof.Machine

/-! ### Register writes touch the register table alone -/

@[simp] theorem wr_pending (s : State) (r : Reg) (i j : Nat) (v : Word) : (s.wr r i j v).pending = s.pending := by unfold State.wr; split <;> rfl
@[simp] theorem wr_time (s : State) (r : Reg) (i j : Nat) (v : Word) : (s.wr r i j v).time = s.time := by unfold State.wr; split <;> rfl
@[simp] theorem wr_log (s : State) (r : Reg) (i j : Nat) (v : Word) : (s.wr r i j v).log = s.log := by unfold State.wr; split <;> rfl
@[simp] theorem wr_evt (s : State) (r : Reg) (i j : Nat) (v : Word) : (s.wr r i j v).evt = s.evt := by unfold State.wr; split <;> rfl
@[simp] theorem wr_host (s : State) (r : Reg) (i j : Nat) (v : Word) : (s.wr r i j v).host = s.host := by unfold State.wr; split <;> rfl
@[simp] theorem wr_breath (s : State) (r : Reg) (i j : Nat) (v : Word) : (s.wr r i j v).breath = s.breath := by unfold State.wr; split <;> rfl
@[simp] theorem wr_mech (s : State) (r : Reg) (i j : Nat) (v : Word) : (s.wr r i j v).mech = s.mech := by unfold State.wr; split <;> rfl
@[simp] theorem wr_isol (s : State) (r : Reg) (i j : Nat) (v : Word) : (s.wr r i j v).isol = s.isol := by unfold State.wr; split <;> rfl
@[simp] theorem wr_port (s : State) (r : Reg) (i j : Nat) (v : Word) : (s.wr r i j v).port = s.port := by unfold State.wr; split <;> rfl
@[simp] theorem wr_drop (s : State) (r : Reg) (i j : Nat) (v : Word) : (s.wr r i j v).drop = s.drop := by unfold State.wr; split <;> rfl
@[simp] theorem wr_cirq (s : State) (r : Reg) (i j : Nat) (v : Word) : (s.wr r i j v).cirq = s.cirq := by unfold State.wr; split <;> rfl
@[simp] theorem wr_servo (s : State) (r : Reg) (i j : Nat) (v : Word) : (s.wr r i j v).servo = s.servo := by unfold State.wr; split <;> rfl
@[simp] theorem wr_cal (s : State) (r : Reg) (i j : Nat) (v : Word) : (s.wr r i j v).cal = s.cal := by unfold State.wr; split <;> rfl
@[simp] theorem wr_profiles (s : State) (r : Reg) (i j : Nat) (v : Word) : (s.wr r i j v).profiles = s.profiles := by unfold State.wr; split <;> rfl
@[simp] theorem wr_chan (s : State) (r : Reg) (i j : Nat) (v : Word) : (s.wr r i j v).chan = s.chan := by unfold State.wr; split <;> rfl
@[simp] theorem wr_floe (s : State) (r : Reg) (i j : Nat) (v : Word) : (s.wr r i j v).floe = s.floe := by unfold State.wr; split <;> rfl
@[simp] theorem wr_fw (s : State) (r : Reg) (i j : Nat) (v : Word) : (s.wr r i j v).fw = s.fw := by unfold State.wr; split <;> rfl
@[simp] theorem wr_ilk (s : State) (r : Reg) (i j : Nat) (v : Word) : (s.wr r i j v).ilk = s.ilk := by unfold State.wr; split <;> rfl
@[simp] theorem wr_pwr (s : State) (r : Reg) (i j : Nat) (v : Word) : (s.wr r i j v).pwr = s.pwr := by unfold State.wr; split <;> rfl
@[simp] theorem wr_dbg (s : State) (r : Reg) (i j : Nat) (v : Word) : (s.wr r i j v).dbg = s.dbg := by unfold State.wr; split <;> rfl
@[simp] theorem wr_memx (s : State) (r : Reg) (i j : Nat) (v : Word) : (s.wr r i j v).memx = s.memx := by unfold State.wr; split <;> rfl
@[simp] theorem wr_out (s : State) (r : Reg) (i j : Nat) (v : Word) : (s.wr r i j v).out = s.out := by unfold State.wr; split <;> rfl
@[simp] theorem wr_free (s : State) (r : Reg) (i j : Nat) (v : Word) : (s.wr r i j v).free = s.free := by unfold State.wr; split <;> rfl
@[simp] theorem set2_pending (s : State) (f : Fld) (i j v : Nat) : (s.set2 f i j v).pending = s.pending := wr_pending _ _ _ _ _
@[simp] theorem set2_time (s : State) (f : Fld) (i j v : Nat) : (s.set2 f i j v).time = s.time := wr_time _ _ _ _ _
@[simp] theorem set2_log (s : State) (f : Fld) (i j v : Nat) : (s.set2 f i j v).log = s.log := wr_log _ _ _ _ _
@[simp] theorem set2_evt (s : State) (f : Fld) (i j v : Nat) : (s.set2 f i j v).evt = s.evt := wr_evt _ _ _ _ _
@[simp] theorem set2_host (s : State) (f : Fld) (i j v : Nat) : (s.set2 f i j v).host = s.host := wr_host _ _ _ _ _
@[simp] theorem set2_breath (s : State) (f : Fld) (i j v : Nat) : (s.set2 f i j v).breath = s.breath := wr_breath _ _ _ _ _
@[simp] theorem set2_mech (s : State) (f : Fld) (i j v : Nat) : (s.set2 f i j v).mech = s.mech := wr_mech _ _ _ _ _
@[simp] theorem set2_isol (s : State) (f : Fld) (i j v : Nat) : (s.set2 f i j v).isol = s.isol := wr_isol _ _ _ _ _
@[simp] theorem set2_port (s : State) (f : Fld) (i j v : Nat) : (s.set2 f i j v).port = s.port := wr_port _ _ _ _ _
@[simp] theorem set2_drop (s : State) (f : Fld) (i j v : Nat) : (s.set2 f i j v).drop = s.drop := wr_drop _ _ _ _ _
@[simp] theorem set2_cirq (s : State) (f : Fld) (i j v : Nat) : (s.set2 f i j v).cirq = s.cirq := wr_cirq _ _ _ _ _
@[simp] theorem set2_servo (s : State) (f : Fld) (i j v : Nat) : (s.set2 f i j v).servo = s.servo := wr_servo _ _ _ _ _
@[simp] theorem set2_cal (s : State) (f : Fld) (i j v : Nat) : (s.set2 f i j v).cal = s.cal := wr_cal _ _ _ _ _
@[simp] theorem set2_profiles (s : State) (f : Fld) (i j v : Nat) : (s.set2 f i j v).profiles = s.profiles := wr_profiles _ _ _ _ _
@[simp] theorem set2_chan (s : State) (f : Fld) (i j v : Nat) : (s.set2 f i j v).chan = s.chan := wr_chan _ _ _ _ _
@[simp] theorem set2_floe (s : State) (f : Fld) (i j v : Nat) : (s.set2 f i j v).floe = s.floe := wr_floe _ _ _ _ _
@[simp] theorem set2_fw (s : State) (f : Fld) (i j v : Nat) : (s.set2 f i j v).fw = s.fw := wr_fw _ _ _ _ _
@[simp] theorem set2_ilk (s : State) (f : Fld) (i j v : Nat) : (s.set2 f i j v).ilk = s.ilk := wr_ilk _ _ _ _ _
@[simp] theorem set2_pwr (s : State) (f : Fld) (i j v : Nat) : (s.set2 f i j v).pwr = s.pwr := wr_pwr _ _ _ _ _
@[simp] theorem set2_dbg (s : State) (f : Fld) (i j v : Nat) : (s.set2 f i j v).dbg = s.dbg := wr_dbg _ _ _ _ _
@[simp] theorem set2_memx (s : State) (f : Fld) (i j v : Nat) : (s.set2 f i j v).memx = s.memx := wr_memx _ _ _ _ _
@[simp] theorem set2_out (s : State) (f : Fld) (i j v : Nat) : (s.set2 f i j v).out = s.out := wr_out _ _ _ _ _
@[simp] theorem set2_free (s : State) (f : Fld) (i j v : Nat) : (s.set2 f i j v).free = s.free := wr_free _ _ _ _ _
@[simp] theorem set_pending (s : State) (f : Fld) (i v : Nat) : (s.set f i v).pending = s.pending := set2_pending _ _ _ _ _
@[simp] theorem set_time (s : State) (f : Fld) (i v : Nat) : (s.set f i v).time = s.time := set2_time _ _ _ _ _
@[simp] theorem set_log (s : State) (f : Fld) (i v : Nat) : (s.set f i v).log = s.log := set2_log _ _ _ _ _
@[simp] theorem set_evt (s : State) (f : Fld) (i v : Nat) : (s.set f i v).evt = s.evt := set2_evt _ _ _ _ _
@[simp] theorem set_host (s : State) (f : Fld) (i v : Nat) : (s.set f i v).host = s.host := set2_host _ _ _ _ _
@[simp] theorem set_breath (s : State) (f : Fld) (i v : Nat) : (s.set f i v).breath = s.breath := set2_breath _ _ _ _ _
@[simp] theorem set_mech (s : State) (f : Fld) (i v : Nat) : (s.set f i v).mech = s.mech := set2_mech _ _ _ _ _
@[simp] theorem set_isol (s : State) (f : Fld) (i v : Nat) : (s.set f i v).isol = s.isol := set2_isol _ _ _ _ _
@[simp] theorem set_port (s : State) (f : Fld) (i v : Nat) : (s.set f i v).port = s.port := set2_port _ _ _ _ _
@[simp] theorem set_drop (s : State) (f : Fld) (i v : Nat) : (s.set f i v).drop = s.drop := set2_drop _ _ _ _ _
@[simp] theorem set_cirq (s : State) (f : Fld) (i v : Nat) : (s.set f i v).cirq = s.cirq := set2_cirq _ _ _ _ _
@[simp] theorem set_servo (s : State) (f : Fld) (i v : Nat) : (s.set f i v).servo = s.servo := set2_servo _ _ _ _ _
@[simp] theorem set_cal (s : State) (f : Fld) (i v : Nat) : (s.set f i v).cal = s.cal := set2_cal _ _ _ _ _
@[simp] theorem set_profiles (s : State) (f : Fld) (i v : Nat) : (s.set f i v).profiles = s.profiles := set2_profiles _ _ _ _ _
@[simp] theorem set_chan (s : State) (f : Fld) (i v : Nat) : (s.set f i v).chan = s.chan := set2_chan _ _ _ _ _
@[simp] theorem set_floe (s : State) (f : Fld) (i v : Nat) : (s.set f i v).floe = s.floe := set2_floe _ _ _ _ _
@[simp] theorem set_fw (s : State) (f : Fld) (i v : Nat) : (s.set f i v).fw = s.fw := set2_fw _ _ _ _ _
@[simp] theorem set_ilk (s : State) (f : Fld) (i v : Nat) : (s.set f i v).ilk = s.ilk := set2_ilk _ _ _ _ _
@[simp] theorem set_pwr (s : State) (f : Fld) (i v : Nat) : (s.set f i v).pwr = s.pwr := set2_pwr _ _ _ _ _
@[simp] theorem set_dbg (s : State) (f : Fld) (i v : Nat) : (s.set f i v).dbg = s.dbg := set2_dbg _ _ _ _ _
@[simp] theorem set_memx (s : State) (f : Fld) (i v : Nat) : (s.set f i v).memx = s.memx := set2_memx _ _ _ _ _
@[simp] theorem set_out (s : State) (f : Fld) (i v : Nat) : (s.set f i v).out = s.out := set2_out _ _ _ _ _
@[simp] theorem set_free (s : State) (f : Fld) (i v : Nat) : (s.set f i v).free = s.free := set2_free _ _ _ _ _
@[simp] theorem set0_pending (s : State) (f : Fld) (v : Nat) : (s.set0 f v).pending = s.pending := set2_pending _ _ _ _ _
@[simp] theorem set0_time (s : State) (f : Fld) (v : Nat) : (s.set0 f v).time = s.time := set2_time _ _ _ _ _
@[simp] theorem set0_log (s : State) (f : Fld) (v : Nat) : (s.set0 f v).log = s.log := set2_log _ _ _ _ _
@[simp] theorem set0_evt (s : State) (f : Fld) (v : Nat) : (s.set0 f v).evt = s.evt := set2_evt _ _ _ _ _
@[simp] theorem set0_host (s : State) (f : Fld) (v : Nat) : (s.set0 f v).host = s.host := set2_host _ _ _ _ _
@[simp] theorem set0_breath (s : State) (f : Fld) (v : Nat) : (s.set0 f v).breath = s.breath := set2_breath _ _ _ _ _
@[simp] theorem set0_mech (s : State) (f : Fld) (v : Nat) : (s.set0 f v).mech = s.mech := set2_mech _ _ _ _ _
@[simp] theorem set0_isol (s : State) (f : Fld) (v : Nat) : (s.set0 f v).isol = s.isol := set2_isol _ _ _ _ _
@[simp] theorem set0_port (s : State) (f : Fld) (v : Nat) : (s.set0 f v).port = s.port := set2_port _ _ _ _ _
@[simp] theorem set0_drop (s : State) (f : Fld) (v : Nat) : (s.set0 f v).drop = s.drop := set2_drop _ _ _ _ _
@[simp] theorem set0_cirq (s : State) (f : Fld) (v : Nat) : (s.set0 f v).cirq = s.cirq := set2_cirq _ _ _ _ _
@[simp] theorem set0_servo (s : State) (f : Fld) (v : Nat) : (s.set0 f v).servo = s.servo := set2_servo _ _ _ _ _
@[simp] theorem set0_cal (s : State) (f : Fld) (v : Nat) : (s.set0 f v).cal = s.cal := set2_cal _ _ _ _ _
@[simp] theorem set0_profiles (s : State) (f : Fld) (v : Nat) : (s.set0 f v).profiles = s.profiles := set2_profiles _ _ _ _ _
@[simp] theorem set0_chan (s : State) (f : Fld) (v : Nat) : (s.set0 f v).chan = s.chan := set2_chan _ _ _ _ _
@[simp] theorem set0_floe (s : State) (f : Fld) (v : Nat) : (s.set0 f v).floe = s.floe := set2_floe _ _ _ _ _
@[simp] theorem set0_fw (s : State) (f : Fld) (v : Nat) : (s.set0 f v).fw = s.fw := set2_fw _ _ _ _ _
@[simp] theorem set0_ilk (s : State) (f : Fld) (v : Nat) : (s.set0 f v).ilk = s.ilk := set2_ilk _ _ _ _ _
@[simp] theorem set0_pwr (s : State) (f : Fld) (v : Nat) : (s.set0 f v).pwr = s.pwr := set2_pwr _ _ _ _ _
@[simp] theorem set0_dbg (s : State) (f : Fld) (v : Nat) : (s.set0 f v).dbg = s.dbg := set2_dbg _ _ _ _ _
@[simp] theorem set0_memx (s : State) (f : Fld) (v : Nat) : (s.set0 f v).memx = s.memx := set2_memx _ _ _ _ _
@[simp] theorem set0_out (s : State) (f : Fld) (v : Nat) : (s.set0 f v).out = s.out := set2_out _ _ _ _ _
@[simp] theorem set0_free (s : State) (f : Fld) (v : Nat) : (s.set0 f v).free = s.free := set2_free _ _ _ _ _
@[simp] theorem raise_pending (s : State) (f : Fld) (i : Nat) : (s.raise f i).pending = s.pending := set2_pending _ _ _ _ _
@[simp] theorem raise_time (s : State) (f : Fld) (i : Nat) : (s.raise f i).time = s.time := set2_time _ _ _ _ _
@[simp] theorem raise_log (s : State) (f : Fld) (i : Nat) : (s.raise f i).log = s.log := set2_log _ _ _ _ _
@[simp] theorem raise_evt (s : State) (f : Fld) (i : Nat) : (s.raise f i).evt = s.evt := set2_evt _ _ _ _ _
@[simp] theorem raise_host (s : State) (f : Fld) (i : Nat) : (s.raise f i).host = s.host := set2_host _ _ _ _ _
@[simp] theorem raise_breath (s : State) (f : Fld) (i : Nat) : (s.raise f i).breath = s.breath := set2_breath _ _ _ _ _
@[simp] theorem raise_mech (s : State) (f : Fld) (i : Nat) : (s.raise f i).mech = s.mech := set2_mech _ _ _ _ _
@[simp] theorem raise_isol (s : State) (f : Fld) (i : Nat) : (s.raise f i).isol = s.isol := set2_isol _ _ _ _ _
@[simp] theorem raise_port (s : State) (f : Fld) (i : Nat) : (s.raise f i).port = s.port := set2_port _ _ _ _ _
@[simp] theorem raise_drop (s : State) (f : Fld) (i : Nat) : (s.raise f i).drop = s.drop := set2_drop _ _ _ _ _
@[simp] theorem raise_cirq (s : State) (f : Fld) (i : Nat) : (s.raise f i).cirq = s.cirq := set2_cirq _ _ _ _ _
@[simp] theorem raise_servo (s : State) (f : Fld) (i : Nat) : (s.raise f i).servo = s.servo := set2_servo _ _ _ _ _
@[simp] theorem raise_cal (s : State) (f : Fld) (i : Nat) : (s.raise f i).cal = s.cal := set2_cal _ _ _ _ _
@[simp] theorem raise_profiles (s : State) (f : Fld) (i : Nat) : (s.raise f i).profiles = s.profiles := set2_profiles _ _ _ _ _
@[simp] theorem raise_chan (s : State) (f : Fld) (i : Nat) : (s.raise f i).chan = s.chan := set2_chan _ _ _ _ _
@[simp] theorem raise_floe (s : State) (f : Fld) (i : Nat) : (s.raise f i).floe = s.floe := set2_floe _ _ _ _ _
@[simp] theorem raise_fw (s : State) (f : Fld) (i : Nat) : (s.raise f i).fw = s.fw := set2_fw _ _ _ _ _
@[simp] theorem raise_ilk (s : State) (f : Fld) (i : Nat) : (s.raise f i).ilk = s.ilk := set2_ilk _ _ _ _ _
@[simp] theorem raise_pwr (s : State) (f : Fld) (i : Nat) : (s.raise f i).pwr = s.pwr := set2_pwr _ _ _ _ _
@[simp] theorem raise_dbg (s : State) (f : Fld) (i : Nat) : (s.raise f i).dbg = s.dbg := set2_dbg _ _ _ _ _
@[simp] theorem raise_memx (s : State) (f : Fld) (i : Nat) : (s.raise f i).memx = s.memx := set2_memx _ _ _ _ _
@[simp] theorem raise_out (s : State) (f : Fld) (i : Nat) : (s.raise f i).out = s.out := set2_out _ _ _ _ _
@[simp] theorem raise_free (s : State) (f : Fld) (i : Nat) : (s.raise f i).free = s.free := set2_free _ _ _ _ _
@[simp] theorem bumpBy_pending (s : State) (f : Fld) (i n : Nat) : (s.bumpBy f i n).pending = s.pending := set_pending _ _ _ _
@[simp] theorem bumpBy_time (s : State) (f : Fld) (i n : Nat) : (s.bumpBy f i n).time = s.time := set_time _ _ _ _
@[simp] theorem bumpBy_log (s : State) (f : Fld) (i n : Nat) : (s.bumpBy f i n).log = s.log := set_log _ _ _ _
@[simp] theorem bumpBy_evt (s : State) (f : Fld) (i n : Nat) : (s.bumpBy f i n).evt = s.evt := set_evt _ _ _ _
@[simp] theorem bumpBy_host (s : State) (f : Fld) (i n : Nat) : (s.bumpBy f i n).host = s.host := set_host _ _ _ _
@[simp] theorem bumpBy_breath (s : State) (f : Fld) (i n : Nat) : (s.bumpBy f i n).breath = s.breath := set_breath _ _ _ _
@[simp] theorem bumpBy_mech (s : State) (f : Fld) (i n : Nat) : (s.bumpBy f i n).mech = s.mech := set_mech _ _ _ _
@[simp] theorem bumpBy_isol (s : State) (f : Fld) (i n : Nat) : (s.bumpBy f i n).isol = s.isol := set_isol _ _ _ _
@[simp] theorem bumpBy_port (s : State) (f : Fld) (i n : Nat) : (s.bumpBy f i n).port = s.port := set_port _ _ _ _
@[simp] theorem bumpBy_drop (s : State) (f : Fld) (i n : Nat) : (s.bumpBy f i n).drop = s.drop := set_drop _ _ _ _
@[simp] theorem bumpBy_cirq (s : State) (f : Fld) (i n : Nat) : (s.bumpBy f i n).cirq = s.cirq := set_cirq _ _ _ _
@[simp] theorem bumpBy_servo (s : State) (f : Fld) (i n : Nat) : (s.bumpBy f i n).servo = s.servo := set_servo _ _ _ _
@[simp] theorem bumpBy_cal (s : State) (f : Fld) (i n : Nat) : (s.bumpBy f i n).cal = s.cal := set_cal _ _ _ _
@[simp] theorem bumpBy_profiles (s : State) (f : Fld) (i n : Nat) : (s.bumpBy f i n).profiles = s.profiles := set_profiles _ _ _ _
@[simp] theorem bumpBy_chan (s : State) (f : Fld) (i n : Nat) : (s.bumpBy f i n).chan = s.chan := set_chan _ _ _ _
@[simp] theorem bumpBy_floe (s : State) (f : Fld) (i n : Nat) : (s.bumpBy f i n).floe = s.floe := set_floe _ _ _ _
@[simp] theorem bumpBy_fw (s : State) (f : Fld) (i n : Nat) : (s.bumpBy f i n).fw = s.fw := set_fw _ _ _ _
@[simp] theorem bumpBy_ilk (s : State) (f : Fld) (i n : Nat) : (s.bumpBy f i n).ilk = s.ilk := set_ilk _ _ _ _
@[simp] theorem bumpBy_pwr (s : State) (f : Fld) (i n : Nat) : (s.bumpBy f i n).pwr = s.pwr := set_pwr _ _ _ _
@[simp] theorem bumpBy_dbg (s : State) (f : Fld) (i n : Nat) : (s.bumpBy f i n).dbg = s.dbg := set_dbg _ _ _ _
@[simp] theorem bumpBy_memx (s : State) (f : Fld) (i n : Nat) : (s.bumpBy f i n).memx = s.memx := set_memx _ _ _ _
@[simp] theorem bumpBy_out (s : State) (f : Fld) (i n : Nat) : (s.bumpBy f i n).out = s.out := set_out _ _ _ _
@[simp] theorem bumpBy_free (s : State) (f : Fld) (i n : Nat) : (s.bumpBy f i n).free = s.free := set_free _ _ _ _
@[simp] theorem bump_pending (s : State) (f : Fld) (i : Nat) : (s.bump f i).pending = s.pending := bumpBy_pending _ _ _ _
@[simp] theorem bump_time (s : State) (f : Fld) (i : Nat) : (s.bump f i).time = s.time := bumpBy_time _ _ _ _
@[simp] theorem bump_log (s : State) (f : Fld) (i : Nat) : (s.bump f i).log = s.log := bumpBy_log _ _ _ _
@[simp] theorem bump_evt (s : State) (f : Fld) (i : Nat) : (s.bump f i).evt = s.evt := bumpBy_evt _ _ _ _
@[simp] theorem bump_host (s : State) (f : Fld) (i : Nat) : (s.bump f i).host = s.host := bumpBy_host _ _ _ _
@[simp] theorem bump_breath (s : State) (f : Fld) (i : Nat) : (s.bump f i).breath = s.breath := bumpBy_breath _ _ _ _
@[simp] theorem bump_mech (s : State) (f : Fld) (i : Nat) : (s.bump f i).mech = s.mech := bumpBy_mech _ _ _ _
@[simp] theorem bump_isol (s : State) (f : Fld) (i : Nat) : (s.bump f i).isol = s.isol := bumpBy_isol _ _ _ _
@[simp] theorem bump_port (s : State) (f : Fld) (i : Nat) : (s.bump f i).port = s.port := bumpBy_port _ _ _ _
@[simp] theorem bump_drop (s : State) (f : Fld) (i : Nat) : (s.bump f i).drop = s.drop := bumpBy_drop _ _ _ _
@[simp] theorem bump_cirq (s : State) (f : Fld) (i : Nat) : (s.bump f i).cirq = s.cirq := bumpBy_cirq _ _ _ _
@[simp] theorem bump_servo (s : State) (f : Fld) (i : Nat) : (s.bump f i).servo = s.servo := bumpBy_servo _ _ _ _
@[simp] theorem bump_cal (s : State) (f : Fld) (i : Nat) : (s.bump f i).cal = s.cal := bumpBy_cal _ _ _ _
@[simp] theorem bump_profiles (s : State) (f : Fld) (i : Nat) : (s.bump f i).profiles = s.profiles := bumpBy_profiles _ _ _ _
@[simp] theorem bump_chan (s : State) (f : Fld) (i : Nat) : (s.bump f i).chan = s.chan := bumpBy_chan _ _ _ _
@[simp] theorem bump_floe (s : State) (f : Fld) (i : Nat) : (s.bump f i).floe = s.floe := bumpBy_floe _ _ _ _
@[simp] theorem bump_fw (s : State) (f : Fld) (i : Nat) : (s.bump f i).fw = s.fw := bumpBy_fw _ _ _ _
@[simp] theorem bump_ilk (s : State) (f : Fld) (i : Nat) : (s.bump f i).ilk = s.ilk := bumpBy_ilk _ _ _ _
@[simp] theorem bump_pwr (s : State) (f : Fld) (i : Nat) : (s.bump f i).pwr = s.pwr := bumpBy_pwr _ _ _ _
@[simp] theorem bump_dbg (s : State) (f : Fld) (i : Nat) : (s.bump f i).dbg = s.dbg := bumpBy_dbg _ _ _ _
@[simp] theorem bump_memx (s : State) (f : Fld) (i : Nat) : (s.bump f i).memx = s.memx := bumpBy_memx _ _ _ _
@[simp] theorem bump_out (s : State) (f : Fld) (i : Nat) : (s.bump f i).out = s.out := bumpBy_out _ _ _ _
@[simp] theorem bump_free (s : State) (f : Fld) (i : Nat) : (s.bump f i).free = s.free := bumpBy_free _ _ _ _
@[simp] theorem bumpWrap_pending (s : State) (f : Fld) (i : Nat) : (s.bumpWrap f i).pending = s.pending := set_pending _ _ _ _
@[simp] theorem bumpWrap_time (s : State) (f : Fld) (i : Nat) : (s.bumpWrap f i).time = s.time := set_time _ _ _ _
@[simp] theorem bumpWrap_log (s : State) (f : Fld) (i : Nat) : (s.bumpWrap f i).log = s.log := set_log _ _ _ _
@[simp] theorem bumpWrap_evt (s : State) (f : Fld) (i : Nat) : (s.bumpWrap f i).evt = s.evt := set_evt _ _ _ _
@[simp] theorem bumpWrap_host (s : State) (f : Fld) (i : Nat) : (s.bumpWrap f i).host = s.host := set_host _ _ _ _
@[simp] theorem bumpWrap_breath (s : State) (f : Fld) (i : Nat) : (s.bumpWrap f i).breath = s.breath := set_breath _ _ _ _
@[simp] theorem bumpWrap_mech (s : State) (f : Fld) (i : Nat) : (s.bumpWrap f i).mech = s.mech := set_mech _ _ _ _
@[simp] theorem bumpWrap_isol (s : State) (f : Fld) (i : Nat) : (s.bumpWrap f i).isol = s.isol := set_isol _ _ _ _
@[simp] theorem bumpWrap_port (s : State) (f : Fld) (i : Nat) : (s.bumpWrap f i).port = s.port := set_port _ _ _ _
@[simp] theorem bumpWrap_drop (s : State) (f : Fld) (i : Nat) : (s.bumpWrap f i).drop = s.drop := set_drop _ _ _ _
@[simp] theorem bumpWrap_cirq (s : State) (f : Fld) (i : Nat) : (s.bumpWrap f i).cirq = s.cirq := set_cirq _ _ _ _
@[simp] theorem bumpWrap_servo (s : State) (f : Fld) (i : Nat) : (s.bumpWrap f i).servo = s.servo := set_servo _ _ _ _
@[simp] theorem bumpWrap_cal (s : State) (f : Fld) (i : Nat) : (s.bumpWrap f i).cal = s.cal := set_cal _ _ _ _
@[simp] theorem bumpWrap_profiles (s : State) (f : Fld) (i : Nat) : (s.bumpWrap f i).profiles = s.profiles := set_profiles _ _ _ _
@[simp] theorem bumpWrap_chan (s : State) (f : Fld) (i : Nat) : (s.bumpWrap f i).chan = s.chan := set_chan _ _ _ _
@[simp] theorem bumpWrap_floe (s : State) (f : Fld) (i : Nat) : (s.bumpWrap f i).floe = s.floe := set_floe _ _ _ _
@[simp] theorem bumpWrap_fw (s : State) (f : Fld) (i : Nat) : (s.bumpWrap f i).fw = s.fw := set_fw _ _ _ _
@[simp] theorem bumpWrap_ilk (s : State) (f : Fld) (i : Nat) : (s.bumpWrap f i).ilk = s.ilk := set_ilk _ _ _ _
@[simp] theorem bumpWrap_pwr (s : State) (f : Fld) (i : Nat) : (s.bumpWrap f i).pwr = s.pwr := set_pwr _ _ _ _
@[simp] theorem bumpWrap_dbg (s : State) (f : Fld) (i : Nat) : (s.bumpWrap f i).dbg = s.dbg := set_dbg _ _ _ _
@[simp] theorem bumpWrap_memx (s : State) (f : Fld) (i : Nat) : (s.bumpWrap f i).memx = s.memx := set_memx _ _ _ _
@[simp] theorem bumpWrap_out (s : State) (f : Fld) (i : Nat) : (s.bumpWrap f i).out = s.out := set_out _ _ _ _
@[simp] theorem bumpWrap_free (s : State) (f : Fld) (i : Nat) : (s.bumpWrap f i).free = s.free := set_free _ _ _ _
@[simp] theorem setIf_pending (s : State) (c : Bool) (f : Fld) (i v : Nat) : (s.setIf c f i v).pending = s.pending := by unfold State.setIf; split <;> simp
@[simp] theorem setIf_time (s : State) (c : Bool) (f : Fld) (i v : Nat) : (s.setIf c f i v).time = s.time := by unfold State.setIf; split <;> simp
@[simp] theorem setIf_log (s : State) (c : Bool) (f : Fld) (i v : Nat) : (s.setIf c f i v).log = s.log := by unfold State.setIf; split <;> simp
@[simp] theorem setIf_evt (s : State) (c : Bool) (f : Fld) (i v : Nat) : (s.setIf c f i v).evt = s.evt := by unfold State.setIf; split <;> simp
@[simp] theorem setIf_host (s : State) (c : Bool) (f : Fld) (i v : Nat) : (s.setIf c f i v).host = s.host := by unfold State.setIf; split <;> simp
@[simp] theorem setIf_breath (s : State) (c : Bool) (f : Fld) (i v : Nat) : (s.setIf c f i v).breath = s.breath := by unfold State.setIf; split <;> simp
@[simp] theorem setIf_mech (s : State) (c : Bool) (f : Fld) (i v : Nat) : (s.setIf c f i v).mech = s.mech := by unfold State.setIf; split <;> simp
@[simp] theorem setIf_isol (s : State) (c : Bool) (f : Fld) (i v : Nat) : (s.setIf c f i v).isol = s.isol := by unfold State.setIf; split <;> simp
@[simp] theorem setIf_port (s : State) (c : Bool) (f : Fld) (i v : Nat) : (s.setIf c f i v).port = s.port := by unfold State.setIf; split <;> simp
@[simp] theorem setIf_drop (s : State) (c : Bool) (f : Fld) (i v : Nat) : (s.setIf c f i v).drop = s.drop := by unfold State.setIf; split <;> simp
@[simp] theorem setIf_cirq (s : State) (c : Bool) (f : Fld) (i v : Nat) : (s.setIf c f i v).cirq = s.cirq := by unfold State.setIf; split <;> simp
@[simp] theorem setIf_servo (s : State) (c : Bool) (f : Fld) (i v : Nat) : (s.setIf c f i v).servo = s.servo := by unfold State.setIf; split <;> simp
@[simp] theorem setIf_cal (s : State) (c : Bool) (f : Fld) (i v : Nat) : (s.setIf c f i v).cal = s.cal := by unfold State.setIf; split <;> simp
@[simp] theorem setIf_profiles (s : State) (c : Bool) (f : Fld) (i v : Nat) : (s.setIf c f i v).profiles = s.profiles := by unfold State.setIf; split <;> simp
@[simp] theorem setIf_chan (s : State) (c : Bool) (f : Fld) (i v : Nat) : (s.setIf c f i v).chan = s.chan := by unfold State.setIf; split <;> simp
@[simp] theorem setIf_floe (s : State) (c : Bool) (f : Fld) (i v : Nat) : (s.setIf c f i v).floe = s.floe := by unfold State.setIf; split <;> simp
@[simp] theorem setIf_fw (s : State) (c : Bool) (f : Fld) (i v : Nat) : (s.setIf c f i v).fw = s.fw := by unfold State.setIf; split <;> simp
@[simp] theorem setIf_ilk (s : State) (c : Bool) (f : Fld) (i v : Nat) : (s.setIf c f i v).ilk = s.ilk := by unfold State.setIf; split <;> simp
@[simp] theorem setIf_pwr (s : State) (c : Bool) (f : Fld) (i v : Nat) : (s.setIf c f i v).pwr = s.pwr := by unfold State.setIf; split <;> simp
@[simp] theorem setIf_dbg (s : State) (c : Bool) (f : Fld) (i v : Nat) : (s.setIf c f i v).dbg = s.dbg := by unfold State.setIf; split <;> simp
@[simp] theorem setIf_memx (s : State) (c : Bool) (f : Fld) (i v : Nat) : (s.setIf c f i v).memx = s.memx := by unfold State.setIf; split <;> simp
@[simp] theorem setIf_out (s : State) (c : Bool) (f : Fld) (i v : Nat) : (s.setIf c f i v).out = s.out := by unfold State.setIf; split <;> simp
@[simp] theorem setIf_free (s : State) (c : Bool) (f : Fld) (i v : Nat) : (s.setIf c f i v).free = s.free := by unfold State.setIf; split <;> simp
@[simp] theorem set64_pending (s : State) (lo hi : Fld) (i v : Nat) : (s.set64 lo hi i v).pending = s.pending := by unfold State.set64; simp
@[simp] theorem set64_time (s : State) (lo hi : Fld) (i v : Nat) : (s.set64 lo hi i v).time = s.time := by unfold State.set64; simp
@[simp] theorem set64_log (s : State) (lo hi : Fld) (i v : Nat) : (s.set64 lo hi i v).log = s.log := by unfold State.set64; simp
@[simp] theorem set64_evt (s : State) (lo hi : Fld) (i v : Nat) : (s.set64 lo hi i v).evt = s.evt := by unfold State.set64; simp
@[simp] theorem set64_host (s : State) (lo hi : Fld) (i v : Nat) : (s.set64 lo hi i v).host = s.host := by unfold State.set64; simp
@[simp] theorem set64_breath (s : State) (lo hi : Fld) (i v : Nat) : (s.set64 lo hi i v).breath = s.breath := by unfold State.set64; simp
@[simp] theorem set64_mech (s : State) (lo hi : Fld) (i v : Nat) : (s.set64 lo hi i v).mech = s.mech := by unfold State.set64; simp
@[simp] theorem set64_isol (s : State) (lo hi : Fld) (i v : Nat) : (s.set64 lo hi i v).isol = s.isol := by unfold State.set64; simp
@[simp] theorem set64_port (s : State) (lo hi : Fld) (i v : Nat) : (s.set64 lo hi i v).port = s.port := by unfold State.set64; simp
@[simp] theorem set64_drop (s : State) (lo hi : Fld) (i v : Nat) : (s.set64 lo hi i v).drop = s.drop := by unfold State.set64; simp
@[simp] theorem set64_cirq (s : State) (lo hi : Fld) (i v : Nat) : (s.set64 lo hi i v).cirq = s.cirq := by unfold State.set64; simp
@[simp] theorem set64_servo (s : State) (lo hi : Fld) (i v : Nat) : (s.set64 lo hi i v).servo = s.servo := by unfold State.set64; simp
@[simp] theorem set64_cal (s : State) (lo hi : Fld) (i v : Nat) : (s.set64 lo hi i v).cal = s.cal := by unfold State.set64; simp
@[simp] theorem set64_profiles (s : State) (lo hi : Fld) (i v : Nat) : (s.set64 lo hi i v).profiles = s.profiles := by unfold State.set64; simp
@[simp] theorem set64_chan (s : State) (lo hi : Fld) (i v : Nat) : (s.set64 lo hi i v).chan = s.chan := by unfold State.set64; simp
@[simp] theorem set64_floe (s : State) (lo hi : Fld) (i v : Nat) : (s.set64 lo hi i v).floe = s.floe := by unfold State.set64; simp
@[simp] theorem set64_fw (s : State) (lo hi : Fld) (i v : Nat) : (s.set64 lo hi i v).fw = s.fw := by unfold State.set64; simp
@[simp] theorem set64_ilk (s : State) (lo hi : Fld) (i v : Nat) : (s.set64 lo hi i v).ilk = s.ilk := by unfold State.set64; simp
@[simp] theorem set64_pwr (s : State) (lo hi : Fld) (i v : Nat) : (s.set64 lo hi i v).pwr = s.pwr := by unfold State.set64; simp
@[simp] theorem set64_dbg (s : State) (lo hi : Fld) (i v : Nat) : (s.set64 lo hi i v).dbg = s.dbg := by unfold State.set64; simp
@[simp] theorem set64_memx (s : State) (lo hi : Fld) (i v : Nat) : (s.set64 lo hi i v).memx = s.memx := by unfold State.set64; simp
@[simp] theorem set64_out (s : State) (lo hi : Fld) (i v : Nat) : (s.set64 lo hi i v).out = s.out := by unfold State.set64; simp
@[simp] theorem set64_free (s : State) (lo hi : Fld) (i v : Nat) : (s.set64 lo hi i v).free = s.free := by unfold State.set64; simp

/-! ### Updates of one record -/

@[simp] theorem modMech_pending (s : State) (n : Nat) (f : MechX → MechX) : (s.modMech n f).pending = s.pending := rfl
@[simp] theorem modMech_regs (s : State) (n : Nat) (f : MechX → MechX) : (s.modMech n f).regs = s.regs := rfl
@[simp] theorem modMech_time (s : State) (n : Nat) (f : MechX → MechX) : (s.modMech n f).time = s.time := rfl
@[simp] theorem modMech_log (s : State) (n : Nat) (f : MechX → MechX) : (s.modMech n f).log = s.log := rfl
@[simp] theorem modMech_evt (s : State) (n : Nat) (f : MechX → MechX) : (s.modMech n f).evt = s.evt := rfl
@[simp] theorem modMech_host (s : State) (n : Nat) (f : MechX → MechX) : (s.modMech n f).host = s.host := rfl
@[simp] theorem modMech_breath (s : State) (n : Nat) (f : MechX → MechX) : (s.modMech n f).breath = s.breath := rfl
@[simp] theorem modMech_isol (s : State) (n : Nat) (f : MechX → MechX) : (s.modMech n f).isol = s.isol := rfl
@[simp] theorem modMech_port (s : State) (n : Nat) (f : MechX → MechX) : (s.modMech n f).port = s.port := rfl
@[simp] theorem modMech_drop (s : State) (n : Nat) (f : MechX → MechX) : (s.modMech n f).drop = s.drop := rfl
@[simp] theorem modMech_cirq (s : State) (n : Nat) (f : MechX → MechX) : (s.modMech n f).cirq = s.cirq := rfl
@[simp] theorem modMech_servo (s : State) (n : Nat) (f : MechX → MechX) : (s.modMech n f).servo = s.servo := rfl
@[simp] theorem modMech_cal (s : State) (n : Nat) (f : MechX → MechX) : (s.modMech n f).cal = s.cal := rfl
@[simp] theorem modMech_profiles (s : State) (n : Nat) (f : MechX → MechX) : (s.modMech n f).profiles = s.profiles := rfl
@[simp] theorem modMech_chan (s : State) (n : Nat) (f : MechX → MechX) : (s.modMech n f).chan = s.chan := rfl
@[simp] theorem modMech_floe (s : State) (n : Nat) (f : MechX → MechX) : (s.modMech n f).floe = s.floe := rfl
@[simp] theorem modMech_fw (s : State) (n : Nat) (f : MechX → MechX) : (s.modMech n f).fw = s.fw := rfl
@[simp] theorem modMech_ilk (s : State) (n : Nat) (f : MechX → MechX) : (s.modMech n f).ilk = s.ilk := rfl
@[simp] theorem modMech_pwr (s : State) (n : Nat) (f : MechX → MechX) : (s.modMech n f).pwr = s.pwr := rfl
@[simp] theorem modMech_dbg (s : State) (n : Nat) (f : MechX → MechX) : (s.modMech n f).dbg = s.dbg := rfl
@[simp] theorem modMech_memx (s : State) (n : Nat) (f : MechX → MechX) : (s.modMech n f).memx = s.memx := rfl
@[simp] theorem modMech_out (s : State) (n : Nat) (f : MechX → MechX) : (s.modMech n f).out = s.out := rfl
@[simp] theorem modMech_free (s : State) (n : Nat) (f : MechX → MechX) : (s.modMech n f).free = s.free := rfl
@[simp] theorem rd_modMech (s : State) (n : Nat) (f : MechX → MechX) (r : Reg) (i j : Nat) : (s.modMech n f).rd r i j = s.rd r i j := rfl
@[simp] theorem get_modMech (s : State) (n : Nat) (f : MechX → MechX) (g : Fld) (i j : Nat) : (s.modMech n f).get g i j = s.get g i j := rfl
@[simp] theorem modHost_pending (s : State) (f : HostState → HostState) : (s.modHost f).pending = s.pending := rfl
@[simp] theorem modHost_regs (s : State) (f : HostState → HostState) : (s.modHost f).regs = s.regs := rfl
@[simp] theorem modHost_time (s : State) (f : HostState → HostState) : (s.modHost f).time = s.time := rfl
@[simp] theorem modHost_log (s : State) (f : HostState → HostState) : (s.modHost f).log = s.log := rfl
@[simp] theorem modHost_evt (s : State) (f : HostState → HostState) : (s.modHost f).evt = s.evt := rfl
@[simp] theorem modHost_breath (s : State) (f : HostState → HostState) : (s.modHost f).breath = s.breath := rfl
@[simp] theorem modHost_mech (s : State) (f : HostState → HostState) : (s.modHost f).mech = s.mech := rfl
@[simp] theorem modHost_isol (s : State) (f : HostState → HostState) : (s.modHost f).isol = s.isol := rfl
@[simp] theorem modHost_port (s : State) (f : HostState → HostState) : (s.modHost f).port = s.port := rfl
@[simp] theorem modHost_drop (s : State) (f : HostState → HostState) : (s.modHost f).drop = s.drop := rfl
@[simp] theorem modHost_cirq (s : State) (f : HostState → HostState) : (s.modHost f).cirq = s.cirq := rfl
@[simp] theorem modHost_servo (s : State) (f : HostState → HostState) : (s.modHost f).servo = s.servo := rfl
@[simp] theorem modHost_cal (s : State) (f : HostState → HostState) : (s.modHost f).cal = s.cal := rfl
@[simp] theorem modHost_profiles (s : State) (f : HostState → HostState) : (s.modHost f).profiles = s.profiles := rfl
@[simp] theorem modHost_chan (s : State) (f : HostState → HostState) : (s.modHost f).chan = s.chan := rfl
@[simp] theorem modHost_floe (s : State) (f : HostState → HostState) : (s.modHost f).floe = s.floe := rfl
@[simp] theorem modHost_fw (s : State) (f : HostState → HostState) : (s.modHost f).fw = s.fw := rfl
@[simp] theorem modHost_ilk (s : State) (f : HostState → HostState) : (s.modHost f).ilk = s.ilk := rfl
@[simp] theorem modHost_pwr (s : State) (f : HostState → HostState) : (s.modHost f).pwr = s.pwr := rfl
@[simp] theorem modHost_dbg (s : State) (f : HostState → HostState) : (s.modHost f).dbg = s.dbg := rfl
@[simp] theorem modHost_memx (s : State) (f : HostState → HostState) : (s.modHost f).memx = s.memx := rfl
@[simp] theorem modHost_out (s : State) (f : HostState → HostState) : (s.modHost f).out = s.out := rfl
@[simp] theorem modHost_free (s : State) (f : HostState → HostState) : (s.modHost f).free = s.free := rfl
@[simp] theorem rd_modHost (s : State) (f : HostState → HostState) (r : Reg) (i j : Nat) : (s.modHost f).rd r i j = s.rd r i j := rfl
@[simp] theorem get_modHost (s : State) (f : HostState → HostState) (g : Fld) (i j : Nat) : (s.modHost f).get g i j = s.get g i j := rfl
@[simp] theorem modFn_pending (s : State) (n : Nat) (f : FnX → FnX) : (s.modFn n f).pending = s.pending := rfl
@[simp] theorem modFn_regs (s : State) (n : Nat) (f : FnX → FnX) : (s.modFn n f).regs = s.regs := rfl
@[simp] theorem modFn_time (s : State) (n : Nat) (f : FnX → FnX) : (s.modFn n f).time = s.time := rfl
@[simp] theorem modFn_log (s : State) (n : Nat) (f : FnX → FnX) : (s.modFn n f).log = s.log := rfl
@[simp] theorem modFn_evt (s : State) (n : Nat) (f : FnX → FnX) : (s.modFn n f).evt = s.evt := rfl
@[simp] theorem modFn_breath (s : State) (n : Nat) (f : FnX → FnX) : (s.modFn n f).breath = s.breath := rfl
@[simp] theorem modFn_mech (s : State) (n : Nat) (f : FnX → FnX) : (s.modFn n f).mech = s.mech := rfl
@[simp] theorem modFn_isol (s : State) (n : Nat) (f : FnX → FnX) : (s.modFn n f).isol = s.isol := rfl
@[simp] theorem modFn_port (s : State) (n : Nat) (f : FnX → FnX) : (s.modFn n f).port = s.port := rfl
@[simp] theorem modFn_drop (s : State) (n : Nat) (f : FnX → FnX) : (s.modFn n f).drop = s.drop := rfl
@[simp] theorem modFn_cirq (s : State) (n : Nat) (f : FnX → FnX) : (s.modFn n f).cirq = s.cirq := rfl
@[simp] theorem modFn_servo (s : State) (n : Nat) (f : FnX → FnX) : (s.modFn n f).servo = s.servo := rfl
@[simp] theorem modFn_cal (s : State) (n : Nat) (f : FnX → FnX) : (s.modFn n f).cal = s.cal := rfl
@[simp] theorem modFn_profiles (s : State) (n : Nat) (f : FnX → FnX) : (s.modFn n f).profiles = s.profiles := rfl
@[simp] theorem modFn_chan (s : State) (n : Nat) (f : FnX → FnX) : (s.modFn n f).chan = s.chan := rfl
@[simp] theorem modFn_floe (s : State) (n : Nat) (f : FnX → FnX) : (s.modFn n f).floe = s.floe := rfl
@[simp] theorem modFn_fw (s : State) (n : Nat) (f : FnX → FnX) : (s.modFn n f).fw = s.fw := rfl
@[simp] theorem modFn_ilk (s : State) (n : Nat) (f : FnX → FnX) : (s.modFn n f).ilk = s.ilk := rfl
@[simp] theorem modFn_pwr (s : State) (n : Nat) (f : FnX → FnX) : (s.modFn n f).pwr = s.pwr := rfl
@[simp] theorem modFn_dbg (s : State) (n : Nat) (f : FnX → FnX) : (s.modFn n f).dbg = s.dbg := rfl
@[simp] theorem modFn_memx (s : State) (n : Nat) (f : FnX → FnX) : (s.modFn n f).memx = s.memx := rfl
@[simp] theorem modFn_out (s : State) (n : Nat) (f : FnX → FnX) : (s.modFn n f).out = s.out := rfl
@[simp] theorem modFn_free (s : State) (n : Nat) (f : FnX → FnX) : (s.modFn n f).free = s.free := rfl
@[simp] theorem rd_modFn (s : State) (n : Nat) (f : FnX → FnX) (r : Reg) (i j : Nat) : (s.modFn n f).rd r i j = s.rd r i j := rfl
@[simp] theorem get_modFn (s : State) (n : Nat) (f : FnX → FnX) (g : Fld) (i j : Nat) : (s.modFn n f).get g i j = s.get g i j := rfl
@[simp] theorem modQp_pending (s : State) (n q : Nat) (f : Qp → Qp) : (s.modQp n q f).pending = s.pending := rfl
@[simp] theorem modQp_regs (s : State) (n q : Nat) (f : Qp → Qp) : (s.modQp n q f).regs = s.regs := rfl
@[simp] theorem modQp_time (s : State) (n q : Nat) (f : Qp → Qp) : (s.modQp n q f).time = s.time := rfl
@[simp] theorem modQp_log (s : State) (n q : Nat) (f : Qp → Qp) : (s.modQp n q f).log = s.log := rfl
@[simp] theorem modQp_evt (s : State) (n q : Nat) (f : Qp → Qp) : (s.modQp n q f).evt = s.evt := rfl
@[simp] theorem modQp_breath (s : State) (n q : Nat) (f : Qp → Qp) : (s.modQp n q f).breath = s.breath := rfl
@[simp] theorem modQp_mech (s : State) (n q : Nat) (f : Qp → Qp) : (s.modQp n q f).mech = s.mech := rfl
@[simp] theorem modQp_isol (s : State) (n q : Nat) (f : Qp → Qp) : (s.modQp n q f).isol = s.isol := rfl
@[simp] theorem modQp_port (s : State) (n q : Nat) (f : Qp → Qp) : (s.modQp n q f).port = s.port := rfl
@[simp] theorem modQp_drop (s : State) (n q : Nat) (f : Qp → Qp) : (s.modQp n q f).drop = s.drop := rfl
@[simp] theorem modQp_cirq (s : State) (n q : Nat) (f : Qp → Qp) : (s.modQp n q f).cirq = s.cirq := rfl
@[simp] theorem modQp_servo (s : State) (n q : Nat) (f : Qp → Qp) : (s.modQp n q f).servo = s.servo := rfl
@[simp] theorem modQp_cal (s : State) (n q : Nat) (f : Qp → Qp) : (s.modQp n q f).cal = s.cal := rfl
@[simp] theorem modQp_profiles (s : State) (n q : Nat) (f : Qp → Qp) : (s.modQp n q f).profiles = s.profiles := rfl
@[simp] theorem modQp_chan (s : State) (n q : Nat) (f : Qp → Qp) : (s.modQp n q f).chan = s.chan := rfl
@[simp] theorem modQp_floe (s : State) (n q : Nat) (f : Qp → Qp) : (s.modQp n q f).floe = s.floe := rfl
@[simp] theorem modQp_fw (s : State) (n q : Nat) (f : Qp → Qp) : (s.modQp n q f).fw = s.fw := rfl
@[simp] theorem modQp_ilk (s : State) (n q : Nat) (f : Qp → Qp) : (s.modQp n q f).ilk = s.ilk := rfl
@[simp] theorem modQp_pwr (s : State) (n q : Nat) (f : Qp → Qp) : (s.modQp n q f).pwr = s.pwr := rfl
@[simp] theorem modQp_dbg (s : State) (n q : Nat) (f : Qp → Qp) : (s.modQp n q f).dbg = s.dbg := rfl
@[simp] theorem modQp_memx (s : State) (n q : Nat) (f : Qp → Qp) : (s.modQp n q f).memx = s.memx := rfl
@[simp] theorem modQp_out (s : State) (n q : Nat) (f : Qp → Qp) : (s.modQp n q f).out = s.out := rfl
@[simp] theorem modQp_free (s : State) (n q : Nat) (f : Qp → Qp) : (s.modQp n q f).free = s.free := rfl
@[simp] theorem rd_modQp (s : State) (n q : Nat) (f : Qp → Qp) (r : Reg) (i j : Nat) : (s.modQp n q f).rd r i j = s.rd r i j := rfl
@[simp] theorem get_modQp (s : State) (n q : Nat) (f : Qp → Qp) (g : Fld) (i j : Nat) : (s.modQp n q f).get g i j = s.get g i j := rfl
@[simp] theorem modCtx_pending (s : State) (n q : Nat) (f : Ctx → Ctx) : (s.modCtx n q f).pending = s.pending := rfl
@[simp] theorem modCtx_regs (s : State) (n q : Nat) (f : Ctx → Ctx) : (s.modCtx n q f).regs = s.regs := rfl
@[simp] theorem modCtx_time (s : State) (n q : Nat) (f : Ctx → Ctx) : (s.modCtx n q f).time = s.time := rfl
@[simp] theorem modCtx_log (s : State) (n q : Nat) (f : Ctx → Ctx) : (s.modCtx n q f).log = s.log := rfl
@[simp] theorem modCtx_evt (s : State) (n q : Nat) (f : Ctx → Ctx) : (s.modCtx n q f).evt = s.evt := rfl
@[simp] theorem modCtx_breath (s : State) (n q : Nat) (f : Ctx → Ctx) : (s.modCtx n q f).breath = s.breath := rfl
@[simp] theorem modCtx_mech (s : State) (n q : Nat) (f : Ctx → Ctx) : (s.modCtx n q f).mech = s.mech := rfl
@[simp] theorem modCtx_isol (s : State) (n q : Nat) (f : Ctx → Ctx) : (s.modCtx n q f).isol = s.isol := rfl
@[simp] theorem modCtx_port (s : State) (n q : Nat) (f : Ctx → Ctx) : (s.modCtx n q f).port = s.port := rfl
@[simp] theorem modCtx_drop (s : State) (n q : Nat) (f : Ctx → Ctx) : (s.modCtx n q f).drop = s.drop := rfl
@[simp] theorem modCtx_cirq (s : State) (n q : Nat) (f : Ctx → Ctx) : (s.modCtx n q f).cirq = s.cirq := rfl
@[simp] theorem modCtx_servo (s : State) (n q : Nat) (f : Ctx → Ctx) : (s.modCtx n q f).servo = s.servo := rfl
@[simp] theorem modCtx_cal (s : State) (n q : Nat) (f : Ctx → Ctx) : (s.modCtx n q f).cal = s.cal := rfl
@[simp] theorem modCtx_profiles (s : State) (n q : Nat) (f : Ctx → Ctx) : (s.modCtx n q f).profiles = s.profiles := rfl
@[simp] theorem modCtx_chan (s : State) (n q : Nat) (f : Ctx → Ctx) : (s.modCtx n q f).chan = s.chan := rfl
@[simp] theorem modCtx_floe (s : State) (n q : Nat) (f : Ctx → Ctx) : (s.modCtx n q f).floe = s.floe := rfl
@[simp] theorem modCtx_fw (s : State) (n q : Nat) (f : Ctx → Ctx) : (s.modCtx n q f).fw = s.fw := rfl
@[simp] theorem modCtx_ilk (s : State) (n q : Nat) (f : Ctx → Ctx) : (s.modCtx n q f).ilk = s.ilk := rfl
@[simp] theorem modCtx_pwr (s : State) (n q : Nat) (f : Ctx → Ctx) : (s.modCtx n q f).pwr = s.pwr := rfl
@[simp] theorem modCtx_dbg (s : State) (n q : Nat) (f : Ctx → Ctx) : (s.modCtx n q f).dbg = s.dbg := rfl
@[simp] theorem modCtx_memx (s : State) (n q : Nat) (f : Ctx → Ctx) : (s.modCtx n q f).memx = s.memx := rfl
@[simp] theorem modCtx_out (s : State) (n q : Nat) (f : Ctx → Ctx) : (s.modCtx n q f).out = s.out := rfl
@[simp] theorem modCtx_free (s : State) (n q : Nat) (f : Ctx → Ctx) : (s.modCtx n q f).free = s.free := rfl
@[simp] theorem rd_modCtx (s : State) (n q : Nat) (f : Ctx → Ctx) (r : Reg) (i j : Nat) : (s.modCtx n q f).rd r i j = s.rd r i j := rfl
@[simp] theorem get_modCtx (s : State) (n q : Nat) (f : Ctx → Ctx) (g : Fld) (i j : Nat) : (s.modCtx n q f).get g i j = s.get g i j := rfl
@[simp] theorem dropCtx_pending (s : State) (n q : Nat) : (s.dropCtx n q).pending = s.pending := rfl
@[simp] theorem dropCtx_regs (s : State) (n q : Nat) : (s.dropCtx n q).regs = s.regs := rfl
@[simp] theorem dropCtx_time (s : State) (n q : Nat) : (s.dropCtx n q).time = s.time := rfl
@[simp] theorem dropCtx_log (s : State) (n q : Nat) : (s.dropCtx n q).log = s.log := rfl
@[simp] theorem dropCtx_evt (s : State) (n q : Nat) : (s.dropCtx n q).evt = s.evt := rfl
@[simp] theorem dropCtx_breath (s : State) (n q : Nat) : (s.dropCtx n q).breath = s.breath := rfl
@[simp] theorem dropCtx_mech (s : State) (n q : Nat) : (s.dropCtx n q).mech = s.mech := rfl
@[simp] theorem dropCtx_isol (s : State) (n q : Nat) : (s.dropCtx n q).isol = s.isol := rfl
@[simp] theorem dropCtx_port (s : State) (n q : Nat) : (s.dropCtx n q).port = s.port := rfl
@[simp] theorem dropCtx_drop (s : State) (n q : Nat) : (s.dropCtx n q).drop = s.drop := rfl
@[simp] theorem dropCtx_cirq (s : State) (n q : Nat) : (s.dropCtx n q).cirq = s.cirq := rfl
@[simp] theorem dropCtx_servo (s : State) (n q : Nat) : (s.dropCtx n q).servo = s.servo := rfl
@[simp] theorem dropCtx_cal (s : State) (n q : Nat) : (s.dropCtx n q).cal = s.cal := rfl
@[simp] theorem dropCtx_profiles (s : State) (n q : Nat) : (s.dropCtx n q).profiles = s.profiles := rfl
@[simp] theorem dropCtx_chan (s : State) (n q : Nat) : (s.dropCtx n q).chan = s.chan := rfl
@[simp] theorem dropCtx_floe (s : State) (n q : Nat) : (s.dropCtx n q).floe = s.floe := rfl
@[simp] theorem dropCtx_fw (s : State) (n q : Nat) : (s.dropCtx n q).fw = s.fw := rfl
@[simp] theorem dropCtx_ilk (s : State) (n q : Nat) : (s.dropCtx n q).ilk = s.ilk := rfl
@[simp] theorem dropCtx_pwr (s : State) (n q : Nat) : (s.dropCtx n q).pwr = s.pwr := rfl
@[simp] theorem dropCtx_dbg (s : State) (n q : Nat) : (s.dropCtx n q).dbg = s.dbg := rfl
@[simp] theorem dropCtx_memx (s : State) (n q : Nat) : (s.dropCtx n q).memx = s.memx := rfl
@[simp] theorem dropCtx_out (s : State) (n q : Nat) : (s.dropCtx n q).out = s.out := rfl
@[simp] theorem dropCtx_free (s : State) (n q : Nat) : (s.dropCtx n q).free = s.free := rfl
@[simp] theorem rd_dropCtx (s : State) (n q : Nat) (r : Reg) (i j : Nat) : (s.dropCtx n q).rd r i j = s.rd r i j := rfl
@[simp] theorem get_dropCtx (s : State) (n q : Nat) (g : Fld) (i j : Nat) : (s.dropCtx n q).get g i j = s.get g i j := rfl
@[simp] theorem modPort_pending (s : State) (n : Nat) (f : PortX → PortX) : (s.modPort n f).pending = s.pending := rfl
@[simp] theorem modPort_regs (s : State) (n : Nat) (f : PortX → PortX) : (s.modPort n f).regs = s.regs := rfl
@[simp] theorem modPort_time (s : State) (n : Nat) (f : PortX → PortX) : (s.modPort n f).time = s.time := rfl
@[simp] theorem modPort_log (s : State) (n : Nat) (f : PortX → PortX) : (s.modPort n f).log = s.log := rfl
@[simp] theorem modPort_evt (s : State) (n : Nat) (f : PortX → PortX) : (s.modPort n f).evt = s.evt := rfl
@[simp] theorem modPort_host (s : State) (n : Nat) (f : PortX → PortX) : (s.modPort n f).host = s.host := rfl
@[simp] theorem modPort_breath (s : State) (n : Nat) (f : PortX → PortX) : (s.modPort n f).breath = s.breath := rfl
@[simp] theorem modPort_mech (s : State) (n : Nat) (f : PortX → PortX) : (s.modPort n f).mech = s.mech := rfl
@[simp] theorem modPort_isol (s : State) (n : Nat) (f : PortX → PortX) : (s.modPort n f).isol = s.isol := rfl
@[simp] theorem modPort_drop (s : State) (n : Nat) (f : PortX → PortX) : (s.modPort n f).drop = s.drop := rfl
@[simp] theorem modPort_cirq (s : State) (n : Nat) (f : PortX → PortX) : (s.modPort n f).cirq = s.cirq := rfl
@[simp] theorem modPort_servo (s : State) (n : Nat) (f : PortX → PortX) : (s.modPort n f).servo = s.servo := rfl
@[simp] theorem modPort_cal (s : State) (n : Nat) (f : PortX → PortX) : (s.modPort n f).cal = s.cal := rfl
@[simp] theorem modPort_profiles (s : State) (n : Nat) (f : PortX → PortX) : (s.modPort n f).profiles = s.profiles := rfl
@[simp] theorem modPort_chan (s : State) (n : Nat) (f : PortX → PortX) : (s.modPort n f).chan = s.chan := rfl
@[simp] theorem modPort_floe (s : State) (n : Nat) (f : PortX → PortX) : (s.modPort n f).floe = s.floe := rfl
@[simp] theorem modPort_fw (s : State) (n : Nat) (f : PortX → PortX) : (s.modPort n f).fw = s.fw := rfl
@[simp] theorem modPort_ilk (s : State) (n : Nat) (f : PortX → PortX) : (s.modPort n f).ilk = s.ilk := rfl
@[simp] theorem modPort_pwr (s : State) (n : Nat) (f : PortX → PortX) : (s.modPort n f).pwr = s.pwr := rfl
@[simp] theorem modPort_dbg (s : State) (n : Nat) (f : PortX → PortX) : (s.modPort n f).dbg = s.dbg := rfl
@[simp] theorem modPort_memx (s : State) (n : Nat) (f : PortX → PortX) : (s.modPort n f).memx = s.memx := rfl
@[simp] theorem modPort_out (s : State) (n : Nat) (f : PortX → PortX) : (s.modPort n f).out = s.out := rfl
@[simp] theorem modPort_free (s : State) (n : Nat) (f : PortX → PortX) : (s.modPort n f).free = s.free := rfl
@[simp] theorem rd_modPort (s : State) (n : Nat) (f : PortX → PortX) (r : Reg) (i j : Nat) : (s.modPort n f).rd r i j = s.rd r i j := rfl
@[simp] theorem get_modPort (s : State) (n : Nat) (f : PortX → PortX) (g : Fld) (i j : Nat) : (s.modPort n f).get g i j = s.get g i j := rfl
@[simp] theorem modBreath_pending (s : State) (f : BreathState → BreathState) : (s.modBreath f).pending = s.pending := rfl
@[simp] theorem modBreath_regs (s : State) (f : BreathState → BreathState) : (s.modBreath f).regs = s.regs := rfl
@[simp] theorem modBreath_time (s : State) (f : BreathState → BreathState) : (s.modBreath f).time = s.time := rfl
@[simp] theorem modBreath_log (s : State) (f : BreathState → BreathState) : (s.modBreath f).log = s.log := rfl
@[simp] theorem modBreath_evt (s : State) (f : BreathState → BreathState) : (s.modBreath f).evt = s.evt := rfl
@[simp] theorem modBreath_host (s : State) (f : BreathState → BreathState) : (s.modBreath f).host = s.host := rfl
@[simp] theorem modBreath_mech (s : State) (f : BreathState → BreathState) : (s.modBreath f).mech = s.mech := rfl
@[simp] theorem modBreath_isol (s : State) (f : BreathState → BreathState) : (s.modBreath f).isol = s.isol := rfl
@[simp] theorem modBreath_port (s : State) (f : BreathState → BreathState) : (s.modBreath f).port = s.port := rfl
@[simp] theorem modBreath_drop (s : State) (f : BreathState → BreathState) : (s.modBreath f).drop = s.drop := rfl
@[simp] theorem modBreath_cirq (s : State) (f : BreathState → BreathState) : (s.modBreath f).cirq = s.cirq := rfl
@[simp] theorem modBreath_servo (s : State) (f : BreathState → BreathState) : (s.modBreath f).servo = s.servo := rfl
@[simp] theorem modBreath_cal (s : State) (f : BreathState → BreathState) : (s.modBreath f).cal = s.cal := rfl
@[simp] theorem modBreath_profiles (s : State) (f : BreathState → BreathState) : (s.modBreath f).profiles = s.profiles := rfl
@[simp] theorem modBreath_chan (s : State) (f : BreathState → BreathState) : (s.modBreath f).chan = s.chan := rfl
@[simp] theorem modBreath_floe (s : State) (f : BreathState → BreathState) : (s.modBreath f).floe = s.floe := rfl
@[simp] theorem modBreath_fw (s : State) (f : BreathState → BreathState) : (s.modBreath f).fw = s.fw := rfl
@[simp] theorem modBreath_ilk (s : State) (f : BreathState → BreathState) : (s.modBreath f).ilk = s.ilk := rfl
@[simp] theorem modBreath_pwr (s : State) (f : BreathState → BreathState) : (s.modBreath f).pwr = s.pwr := rfl
@[simp] theorem modBreath_dbg (s : State) (f : BreathState → BreathState) : (s.modBreath f).dbg = s.dbg := rfl
@[simp] theorem modBreath_memx (s : State) (f : BreathState → BreathState) : (s.modBreath f).memx = s.memx := rfl
@[simp] theorem modBreath_out (s : State) (f : BreathState → BreathState) : (s.modBreath f).out = s.out := rfl
@[simp] theorem modBreath_free (s : State) (f : BreathState → BreathState) : (s.modBreath f).free = s.free := rfl
@[simp] theorem rd_modBreath (s : State) (f : BreathState → BreathState) (r : Reg) (i j : Nat) : (s.modBreath f).rd r i j = s.rd r i j := rfl
@[simp] theorem get_modBreath (s : State) (f : BreathState → BreathState) (g : Fld) (i j : Nat) : (s.modBreath f).get g i j = s.get g i j := rfl
@[simp] theorem modDrop_pending (s : State) (n : Nat) (f : DropX → DropX) : (s.modDrop n f).pending = s.pending := rfl
@[simp] theorem modDrop_regs (s : State) (n : Nat) (f : DropX → DropX) : (s.modDrop n f).regs = s.regs := rfl
@[simp] theorem modDrop_time (s : State) (n : Nat) (f : DropX → DropX) : (s.modDrop n f).time = s.time := rfl
@[simp] theorem modDrop_log (s : State) (n : Nat) (f : DropX → DropX) : (s.modDrop n f).log = s.log := rfl
@[simp] theorem modDrop_evt (s : State) (n : Nat) (f : DropX → DropX) : (s.modDrop n f).evt = s.evt := rfl
@[simp] theorem modDrop_host (s : State) (n : Nat) (f : DropX → DropX) : (s.modDrop n f).host = s.host := rfl
@[simp] theorem modDrop_breath (s : State) (n : Nat) (f : DropX → DropX) : (s.modDrop n f).breath = s.breath := rfl
@[simp] theorem modDrop_mech (s : State) (n : Nat) (f : DropX → DropX) : (s.modDrop n f).mech = s.mech := rfl
@[simp] theorem modDrop_isol (s : State) (n : Nat) (f : DropX → DropX) : (s.modDrop n f).isol = s.isol := rfl
@[simp] theorem modDrop_port (s : State) (n : Nat) (f : DropX → DropX) : (s.modDrop n f).port = s.port := rfl
@[simp] theorem modDrop_cirq (s : State) (n : Nat) (f : DropX → DropX) : (s.modDrop n f).cirq = s.cirq := rfl
@[simp] theorem modDrop_servo (s : State) (n : Nat) (f : DropX → DropX) : (s.modDrop n f).servo = s.servo := rfl
@[simp] theorem modDrop_cal (s : State) (n : Nat) (f : DropX → DropX) : (s.modDrop n f).cal = s.cal := rfl
@[simp] theorem modDrop_profiles (s : State) (n : Nat) (f : DropX → DropX) : (s.modDrop n f).profiles = s.profiles := rfl
@[simp] theorem modDrop_chan (s : State) (n : Nat) (f : DropX → DropX) : (s.modDrop n f).chan = s.chan := rfl
@[simp] theorem modDrop_floe (s : State) (n : Nat) (f : DropX → DropX) : (s.modDrop n f).floe = s.floe := rfl
@[simp] theorem modDrop_fw (s : State) (n : Nat) (f : DropX → DropX) : (s.modDrop n f).fw = s.fw := rfl
@[simp] theorem modDrop_ilk (s : State) (n : Nat) (f : DropX → DropX) : (s.modDrop n f).ilk = s.ilk := rfl
@[simp] theorem modDrop_pwr (s : State) (n : Nat) (f : DropX → DropX) : (s.modDrop n f).pwr = s.pwr := rfl
@[simp] theorem modDrop_dbg (s : State) (n : Nat) (f : DropX → DropX) : (s.modDrop n f).dbg = s.dbg := rfl
@[simp] theorem modDrop_memx (s : State) (n : Nat) (f : DropX → DropX) : (s.modDrop n f).memx = s.memx := rfl
@[simp] theorem modDrop_out (s : State) (n : Nat) (f : DropX → DropX) : (s.modDrop n f).out = s.out := rfl
@[simp] theorem modDrop_free (s : State) (n : Nat) (f : DropX → DropX) : (s.modDrop n f).free = s.free := rfl
@[simp] theorem rd_modDrop (s : State) (n : Nat) (f : DropX → DropX) (r : Reg) (i j : Nat) : (s.modDrop n f).rd r i j = s.rd r i j := rfl
@[simp] theorem get_modDrop (s : State) (n : Nat) (f : DropX → DropX) (g : Fld) (i j : Nat) : (s.modDrop n f).get g i j = s.get g i j := rfl
@[simp] theorem modCal_pending (s : State) (a b c : Nat) (f : CalRec → CalRec) : (s.modCal a b c f).pending = s.pending := rfl
@[simp] theorem modCal_regs (s : State) (a b c : Nat) (f : CalRec → CalRec) : (s.modCal a b c f).regs = s.regs := rfl
@[simp] theorem modCal_time (s : State) (a b c : Nat) (f : CalRec → CalRec) : (s.modCal a b c f).time = s.time := rfl
@[simp] theorem modCal_log (s : State) (a b c : Nat) (f : CalRec → CalRec) : (s.modCal a b c f).log = s.log := rfl
@[simp] theorem modCal_evt (s : State) (a b c : Nat) (f : CalRec → CalRec) : (s.modCal a b c f).evt = s.evt := rfl
@[simp] theorem modCal_host (s : State) (a b c : Nat) (f : CalRec → CalRec) : (s.modCal a b c f).host = s.host := rfl
@[simp] theorem modCal_breath (s : State) (a b c : Nat) (f : CalRec → CalRec) : (s.modCal a b c f).breath = s.breath := rfl
@[simp] theorem modCal_mech (s : State) (a b c : Nat) (f : CalRec → CalRec) : (s.modCal a b c f).mech = s.mech := rfl
@[simp] theorem modCal_isol (s : State) (a b c : Nat) (f : CalRec → CalRec) : (s.modCal a b c f).isol = s.isol := rfl
@[simp] theorem modCal_port (s : State) (a b c : Nat) (f : CalRec → CalRec) : (s.modCal a b c f).port = s.port := rfl
@[simp] theorem modCal_drop (s : State) (a b c : Nat) (f : CalRec → CalRec) : (s.modCal a b c f).drop = s.drop := rfl
@[simp] theorem modCal_cirq (s : State) (a b c : Nat) (f : CalRec → CalRec) : (s.modCal a b c f).cirq = s.cirq := rfl
@[simp] theorem modCal_servo (s : State) (a b c : Nat) (f : CalRec → CalRec) : (s.modCal a b c f).servo = s.servo := rfl
@[simp] theorem modCal_profiles (s : State) (a b c : Nat) (f : CalRec → CalRec) : (s.modCal a b c f).profiles = s.profiles := rfl
@[simp] theorem modCal_chan (s : State) (a b c : Nat) (f : CalRec → CalRec) : (s.modCal a b c f).chan = s.chan := rfl
@[simp] theorem modCal_floe (s : State) (a b c : Nat) (f : CalRec → CalRec) : (s.modCal a b c f).floe = s.floe := rfl
@[simp] theorem modCal_fw (s : State) (a b c : Nat) (f : CalRec → CalRec) : (s.modCal a b c f).fw = s.fw := rfl
@[simp] theorem modCal_ilk (s : State) (a b c : Nat) (f : CalRec → CalRec) : (s.modCal a b c f).ilk = s.ilk := rfl
@[simp] theorem modCal_pwr (s : State) (a b c : Nat) (f : CalRec → CalRec) : (s.modCal a b c f).pwr = s.pwr := rfl
@[simp] theorem modCal_dbg (s : State) (a b c : Nat) (f : CalRec → CalRec) : (s.modCal a b c f).dbg = s.dbg := rfl
@[simp] theorem modCal_memx (s : State) (a b c : Nat) (f : CalRec → CalRec) : (s.modCal a b c f).memx = s.memx := rfl
@[simp] theorem modCal_out (s : State) (a b c : Nat) (f : CalRec → CalRec) : (s.modCal a b c f).out = s.out := rfl
@[simp] theorem modCal_free (s : State) (a b c : Nat) (f : CalRec → CalRec) : (s.modCal a b c f).free = s.free := rfl
@[simp] theorem rd_modCal (s : State) (a b c : Nat) (f : CalRec → CalRec) (r : Reg) (i j : Nat) : (s.modCal a b c f).rd r i j = s.rd r i j := rfl
@[simp] theorem get_modCal (s : State) (a b c : Nat) (f : CalRec → CalRec) (g : Fld) (i j : Nat) : (s.modCal a b c f).get g i j = s.get g i j := rfl
@[simp] theorem modServo_pending (s : State) (n : Nat) (f : ServoX → ServoX) : (s.modServo n f).pending = s.pending := rfl
@[simp] theorem modServo_regs (s : State) (n : Nat) (f : ServoX → ServoX) : (s.modServo n f).regs = s.regs := rfl
@[simp] theorem modServo_time (s : State) (n : Nat) (f : ServoX → ServoX) : (s.modServo n f).time = s.time := rfl
@[simp] theorem modServo_log (s : State) (n : Nat) (f : ServoX → ServoX) : (s.modServo n f).log = s.log := rfl
@[simp] theorem modServo_evt (s : State) (n : Nat) (f : ServoX → ServoX) : (s.modServo n f).evt = s.evt := rfl
@[simp] theorem modServo_host (s : State) (n : Nat) (f : ServoX → ServoX) : (s.modServo n f).host = s.host := rfl
@[simp] theorem modServo_breath (s : State) (n : Nat) (f : ServoX → ServoX) : (s.modServo n f).breath = s.breath := rfl
@[simp] theorem modServo_mech (s : State) (n : Nat) (f : ServoX → ServoX) : (s.modServo n f).mech = s.mech := rfl
@[simp] theorem modServo_isol (s : State) (n : Nat) (f : ServoX → ServoX) : (s.modServo n f).isol = s.isol := rfl
@[simp] theorem modServo_port (s : State) (n : Nat) (f : ServoX → ServoX) : (s.modServo n f).port = s.port := rfl
@[simp] theorem modServo_drop (s : State) (n : Nat) (f : ServoX → ServoX) : (s.modServo n f).drop = s.drop := rfl
@[simp] theorem modServo_cirq (s : State) (n : Nat) (f : ServoX → ServoX) : (s.modServo n f).cirq = s.cirq := rfl
@[simp] theorem modServo_cal (s : State) (n : Nat) (f : ServoX → ServoX) : (s.modServo n f).cal = s.cal := rfl
@[simp] theorem modServo_profiles (s : State) (n : Nat) (f : ServoX → ServoX) : (s.modServo n f).profiles = s.profiles := rfl
@[simp] theorem modServo_chan (s : State) (n : Nat) (f : ServoX → ServoX) : (s.modServo n f).chan = s.chan := rfl
@[simp] theorem modServo_floe (s : State) (n : Nat) (f : ServoX → ServoX) : (s.modServo n f).floe = s.floe := rfl
@[simp] theorem modServo_fw (s : State) (n : Nat) (f : ServoX → ServoX) : (s.modServo n f).fw = s.fw := rfl
@[simp] theorem modServo_ilk (s : State) (n : Nat) (f : ServoX → ServoX) : (s.modServo n f).ilk = s.ilk := rfl
@[simp] theorem modServo_pwr (s : State) (n : Nat) (f : ServoX → ServoX) : (s.modServo n f).pwr = s.pwr := rfl
@[simp] theorem modServo_dbg (s : State) (n : Nat) (f : ServoX → ServoX) : (s.modServo n f).dbg = s.dbg := rfl
@[simp] theorem modServo_memx (s : State) (n : Nat) (f : ServoX → ServoX) : (s.modServo n f).memx = s.memx := rfl
@[simp] theorem modServo_out (s : State) (n : Nat) (f : ServoX → ServoX) : (s.modServo n f).out = s.out := rfl
@[simp] theorem modServo_free (s : State) (n : Nat) (f : ServoX → ServoX) : (s.modServo n f).free = s.free := rfl
@[simp] theorem rd_modServo (s : State) (n : Nat) (f : ServoX → ServoX) (r : Reg) (i j : Nat) : (s.modServo n f).rd r i j = s.rd r i j := rfl
@[simp] theorem get_modServo (s : State) (n : Nat) (f : ServoX → ServoX) (g : Fld) (i j : Nat) : (s.modServo n f).get g i j = s.get g i j := rfl
@[simp] theorem modLoop_pending (s : State) (n l : Nat) (f : LoopX → LoopX) : (s.modLoop n l f).pending = s.pending := rfl
@[simp] theorem modLoop_regs (s : State) (n l : Nat) (f : LoopX → LoopX) : (s.modLoop n l f).regs = s.regs := rfl
@[simp] theorem modLoop_time (s : State) (n l : Nat) (f : LoopX → LoopX) : (s.modLoop n l f).time = s.time := rfl
@[simp] theorem modLoop_log (s : State) (n l : Nat) (f : LoopX → LoopX) : (s.modLoop n l f).log = s.log := rfl
@[simp] theorem modLoop_evt (s : State) (n l : Nat) (f : LoopX → LoopX) : (s.modLoop n l f).evt = s.evt := rfl
@[simp] theorem modLoop_host (s : State) (n l : Nat) (f : LoopX → LoopX) : (s.modLoop n l f).host = s.host := rfl
@[simp] theorem modLoop_breath (s : State) (n l : Nat) (f : LoopX → LoopX) : (s.modLoop n l f).breath = s.breath := rfl
@[simp] theorem modLoop_mech (s : State) (n l : Nat) (f : LoopX → LoopX) : (s.modLoop n l f).mech = s.mech := rfl
@[simp] theorem modLoop_isol (s : State) (n l : Nat) (f : LoopX → LoopX) : (s.modLoop n l f).isol = s.isol := rfl
@[simp] theorem modLoop_port (s : State) (n l : Nat) (f : LoopX → LoopX) : (s.modLoop n l f).port = s.port := rfl
@[simp] theorem modLoop_drop (s : State) (n l : Nat) (f : LoopX → LoopX) : (s.modLoop n l f).drop = s.drop := rfl
@[simp] theorem modLoop_cirq (s : State) (n l : Nat) (f : LoopX → LoopX) : (s.modLoop n l f).cirq = s.cirq := rfl
@[simp] theorem modLoop_cal (s : State) (n l : Nat) (f : LoopX → LoopX) : (s.modLoop n l f).cal = s.cal := rfl
@[simp] theorem modLoop_profiles (s : State) (n l : Nat) (f : LoopX → LoopX) : (s.modLoop n l f).profiles = s.profiles := rfl
@[simp] theorem modLoop_chan (s : State) (n l : Nat) (f : LoopX → LoopX) : (s.modLoop n l f).chan = s.chan := rfl
@[simp] theorem modLoop_floe (s : State) (n l : Nat) (f : LoopX → LoopX) : (s.modLoop n l f).floe = s.floe := rfl
@[simp] theorem modLoop_fw (s : State) (n l : Nat) (f : LoopX → LoopX) : (s.modLoop n l f).fw = s.fw := rfl
@[simp] theorem modLoop_ilk (s : State) (n l : Nat) (f : LoopX → LoopX) : (s.modLoop n l f).ilk = s.ilk := rfl
@[simp] theorem modLoop_pwr (s : State) (n l : Nat) (f : LoopX → LoopX) : (s.modLoop n l f).pwr = s.pwr := rfl
@[simp] theorem modLoop_dbg (s : State) (n l : Nat) (f : LoopX → LoopX) : (s.modLoop n l f).dbg = s.dbg := rfl
@[simp] theorem modLoop_memx (s : State) (n l : Nat) (f : LoopX → LoopX) : (s.modLoop n l f).memx = s.memx := rfl
@[simp] theorem modLoop_out (s : State) (n l : Nat) (f : LoopX → LoopX) : (s.modLoop n l f).out = s.out := rfl
@[simp] theorem modLoop_free (s : State) (n l : Nat) (f : LoopX → LoopX) : (s.modLoop n l f).free = s.free := rfl
@[simp] theorem rd_modLoop (s : State) (n l : Nat) (f : LoopX → LoopX) (r : Reg) (i j : Nat) : (s.modLoop n l f).rd r i j = s.rd r i j := rfl
@[simp] theorem get_modLoop (s : State) (n l : Nat) (f : LoopX → LoopX) (g : Fld) (i j : Nat) : (s.modLoop n l f).get g i j = s.get g i j := rfl
@[simp] theorem modSeq_pending (s : State) (n : Nat) (f : SeqX → SeqX) : (s.modSeq n f).pending = s.pending := rfl
@[simp] theorem modSeq_regs (s : State) (n : Nat) (f : SeqX → SeqX) : (s.modSeq n f).regs = s.regs := rfl
@[simp] theorem modSeq_time (s : State) (n : Nat) (f : SeqX → SeqX) : (s.modSeq n f).time = s.time := rfl
@[simp] theorem modSeq_log (s : State) (n : Nat) (f : SeqX → SeqX) : (s.modSeq n f).log = s.log := rfl
@[simp] theorem modSeq_evt (s : State) (n : Nat) (f : SeqX → SeqX) : (s.modSeq n f).evt = s.evt := rfl
@[simp] theorem modSeq_host (s : State) (n : Nat) (f : SeqX → SeqX) : (s.modSeq n f).host = s.host := rfl
@[simp] theorem modSeq_breath (s : State) (n : Nat) (f : SeqX → SeqX) : (s.modSeq n f).breath = s.breath := rfl
@[simp] theorem modSeq_mech (s : State) (n : Nat) (f : SeqX → SeqX) : (s.modSeq n f).mech = s.mech := rfl
@[simp] theorem modSeq_isol (s : State) (n : Nat) (f : SeqX → SeqX) : (s.modSeq n f).isol = s.isol := rfl
@[simp] theorem modSeq_port (s : State) (n : Nat) (f : SeqX → SeqX) : (s.modSeq n f).port = s.port := rfl
@[simp] theorem modSeq_drop (s : State) (n : Nat) (f : SeqX → SeqX) : (s.modSeq n f).drop = s.drop := rfl
@[simp] theorem modSeq_cirq (s : State) (n : Nat) (f : SeqX → SeqX) : (s.modSeq n f).cirq = s.cirq := rfl
@[simp] theorem modSeq_cal (s : State) (n : Nat) (f : SeqX → SeqX) : (s.modSeq n f).cal = s.cal := rfl
@[simp] theorem modSeq_profiles (s : State) (n : Nat) (f : SeqX → SeqX) : (s.modSeq n f).profiles = s.profiles := rfl
@[simp] theorem modSeq_chan (s : State) (n : Nat) (f : SeqX → SeqX) : (s.modSeq n f).chan = s.chan := rfl
@[simp] theorem modSeq_floe (s : State) (n : Nat) (f : SeqX → SeqX) : (s.modSeq n f).floe = s.floe := rfl
@[simp] theorem modSeq_fw (s : State) (n : Nat) (f : SeqX → SeqX) : (s.modSeq n f).fw = s.fw := rfl
@[simp] theorem modSeq_ilk (s : State) (n : Nat) (f : SeqX → SeqX) : (s.modSeq n f).ilk = s.ilk := rfl
@[simp] theorem modSeq_pwr (s : State) (n : Nat) (f : SeqX → SeqX) : (s.modSeq n f).pwr = s.pwr := rfl
@[simp] theorem modSeq_dbg (s : State) (n : Nat) (f : SeqX → SeqX) : (s.modSeq n f).dbg = s.dbg := rfl
@[simp] theorem modSeq_memx (s : State) (n : Nat) (f : SeqX → SeqX) : (s.modSeq n f).memx = s.memx := rfl
@[simp] theorem modSeq_out (s : State) (n : Nat) (f : SeqX → SeqX) : (s.modSeq n f).out = s.out := rfl
@[simp] theorem modSeq_free (s : State) (n : Nat) (f : SeqX → SeqX) : (s.modSeq n f).free = s.free := rfl
@[simp] theorem rd_modSeq (s : State) (n : Nat) (f : SeqX → SeqX) (r : Reg) (i j : Nat) : (s.modSeq n f).rd r i j = s.rd r i j := rfl
@[simp] theorem get_modSeq (s : State) (n : Nat) (f : SeqX → SeqX) (g : Fld) (i j : Nat) : (s.modSeq n f).get g i j = s.get g i j := rfl
@[simp] theorem modProf_pending (s : State) (n : Nat) (f : ProfX → ProfX) : (s.modProf n f).pending = s.pending := rfl
@[simp] theorem modProf_regs (s : State) (n : Nat) (f : ProfX → ProfX) : (s.modProf n f).regs = s.regs := rfl
@[simp] theorem modProf_time (s : State) (n : Nat) (f : ProfX → ProfX) : (s.modProf n f).time = s.time := rfl
@[simp] theorem modProf_log (s : State) (n : Nat) (f : ProfX → ProfX) : (s.modProf n f).log = s.log := rfl
@[simp] theorem modProf_evt (s : State) (n : Nat) (f : ProfX → ProfX) : (s.modProf n f).evt = s.evt := rfl
@[simp] theorem modProf_host (s : State) (n : Nat) (f : ProfX → ProfX) : (s.modProf n f).host = s.host := rfl
@[simp] theorem modProf_breath (s : State) (n : Nat) (f : ProfX → ProfX) : (s.modProf n f).breath = s.breath := rfl
@[simp] theorem modProf_mech (s : State) (n : Nat) (f : ProfX → ProfX) : (s.modProf n f).mech = s.mech := rfl
@[simp] theorem modProf_isol (s : State) (n : Nat) (f : ProfX → ProfX) : (s.modProf n f).isol = s.isol := rfl
@[simp] theorem modProf_port (s : State) (n : Nat) (f : ProfX → ProfX) : (s.modProf n f).port = s.port := rfl
@[simp] theorem modProf_drop (s : State) (n : Nat) (f : ProfX → ProfX) : (s.modProf n f).drop = s.drop := rfl
@[simp] theorem modProf_cirq (s : State) (n : Nat) (f : ProfX → ProfX) : (s.modProf n f).cirq = s.cirq := rfl
@[simp] theorem modProf_cal (s : State) (n : Nat) (f : ProfX → ProfX) : (s.modProf n f).cal = s.cal := rfl
@[simp] theorem modProf_profiles (s : State) (n : Nat) (f : ProfX → ProfX) : (s.modProf n f).profiles = s.profiles := rfl
@[simp] theorem modProf_chan (s : State) (n : Nat) (f : ProfX → ProfX) : (s.modProf n f).chan = s.chan := rfl
@[simp] theorem modProf_floe (s : State) (n : Nat) (f : ProfX → ProfX) : (s.modProf n f).floe = s.floe := rfl
@[simp] theorem modProf_fw (s : State) (n : Nat) (f : ProfX → ProfX) : (s.modProf n f).fw = s.fw := rfl
@[simp] theorem modProf_ilk (s : State) (n : Nat) (f : ProfX → ProfX) : (s.modProf n f).ilk = s.ilk := rfl
@[simp] theorem modProf_pwr (s : State) (n : Nat) (f : ProfX → ProfX) : (s.modProf n f).pwr = s.pwr := rfl
@[simp] theorem modProf_dbg (s : State) (n : Nat) (f : ProfX → ProfX) : (s.modProf n f).dbg = s.dbg := rfl
@[simp] theorem modProf_memx (s : State) (n : Nat) (f : ProfX → ProfX) : (s.modProf n f).memx = s.memx := rfl
@[simp] theorem modProf_out (s : State) (n : Nat) (f : ProfX → ProfX) : (s.modProf n f).out = s.out := rfl
@[simp] theorem modProf_free (s : State) (n : Nat) (f : ProfX → ProfX) : (s.modProf n f).free = s.free := rfl
@[simp] theorem rd_modProf (s : State) (n : Nat) (f : ProfX → ProfX) (r : Reg) (i j : Nat) : (s.modProf n f).rd r i j = s.rd r i j := rfl
@[simp] theorem get_modProf (s : State) (n : Nat) (f : ProfX → ProfX) (g : Fld) (i j : Nat) : (s.modProf n f).get g i j = s.get g i j := rfl
@[simp] theorem modSpin_pending (s : State) (n : Nat) (f : SpinX → SpinX) : (s.modSpin n f).pending = s.pending := rfl
@[simp] theorem modSpin_regs (s : State) (n : Nat) (f : SpinX → SpinX) : (s.modSpin n f).regs = s.regs := rfl
@[simp] theorem modSpin_time (s : State) (n : Nat) (f : SpinX → SpinX) : (s.modSpin n f).time = s.time := rfl
@[simp] theorem modSpin_log (s : State) (n : Nat) (f : SpinX → SpinX) : (s.modSpin n f).log = s.log := rfl
@[simp] theorem modSpin_evt (s : State) (n : Nat) (f : SpinX → SpinX) : (s.modSpin n f).evt = s.evt := rfl
@[simp] theorem modSpin_host (s : State) (n : Nat) (f : SpinX → SpinX) : (s.modSpin n f).host = s.host := rfl
@[simp] theorem modSpin_breath (s : State) (n : Nat) (f : SpinX → SpinX) : (s.modSpin n f).breath = s.breath := rfl
@[simp] theorem modSpin_mech (s : State) (n : Nat) (f : SpinX → SpinX) : (s.modSpin n f).mech = s.mech := rfl
@[simp] theorem modSpin_isol (s : State) (n : Nat) (f : SpinX → SpinX) : (s.modSpin n f).isol = s.isol := rfl
@[simp] theorem modSpin_port (s : State) (n : Nat) (f : SpinX → SpinX) : (s.modSpin n f).port = s.port := rfl
@[simp] theorem modSpin_drop (s : State) (n : Nat) (f : SpinX → SpinX) : (s.modSpin n f).drop = s.drop := rfl
@[simp] theorem modSpin_cirq (s : State) (n : Nat) (f : SpinX → SpinX) : (s.modSpin n f).cirq = s.cirq := rfl
@[simp] theorem modSpin_cal (s : State) (n : Nat) (f : SpinX → SpinX) : (s.modSpin n f).cal = s.cal := rfl
@[simp] theorem modSpin_profiles (s : State) (n : Nat) (f : SpinX → SpinX) : (s.modSpin n f).profiles = s.profiles := rfl
@[simp] theorem modSpin_chan (s : State) (n : Nat) (f : SpinX → SpinX) : (s.modSpin n f).chan = s.chan := rfl
@[simp] theorem modSpin_floe (s : State) (n : Nat) (f : SpinX → SpinX) : (s.modSpin n f).floe = s.floe := rfl
@[simp] theorem modSpin_fw (s : State) (n : Nat) (f : SpinX → SpinX) : (s.modSpin n f).fw = s.fw := rfl
@[simp] theorem modSpin_ilk (s : State) (n : Nat) (f : SpinX → SpinX) : (s.modSpin n f).ilk = s.ilk := rfl
@[simp] theorem modSpin_pwr (s : State) (n : Nat) (f : SpinX → SpinX) : (s.modSpin n f).pwr = s.pwr := rfl
@[simp] theorem modSpin_dbg (s : State) (n : Nat) (f : SpinX → SpinX) : (s.modSpin n f).dbg = s.dbg := rfl
@[simp] theorem modSpin_memx (s : State) (n : Nat) (f : SpinX → SpinX) : (s.modSpin n f).memx = s.memx := rfl
@[simp] theorem modSpin_out (s : State) (n : Nat) (f : SpinX → SpinX) : (s.modSpin n f).out = s.out := rfl
@[simp] theorem modSpin_free (s : State) (n : Nat) (f : SpinX → SpinX) : (s.modSpin n f).free = s.free := rfl
@[simp] theorem rd_modSpin (s : State) (n : Nat) (f : SpinX → SpinX) (r : Reg) (i j : Nat) : (s.modSpin n f).rd r i j = s.rd r i j := rfl
@[simp] theorem get_modSpin (s : State) (n : Nat) (f : SpinX → SpinX) (g : Fld) (i j : Nat) : (s.modSpin n f).get g i j = s.get g i j := rfl
@[simp] theorem modSled_pending (s : State) (n : Nat) (f : SledX → SledX) : (s.modSled n f).pending = s.pending := rfl
@[simp] theorem modSled_regs (s : State) (n : Nat) (f : SledX → SledX) : (s.modSled n f).regs = s.regs := rfl
@[simp] theorem modSled_time (s : State) (n : Nat) (f : SledX → SledX) : (s.modSled n f).time = s.time := rfl
@[simp] theorem modSled_log (s : State) (n : Nat) (f : SledX → SledX) : (s.modSled n f).log = s.log := rfl
@[simp] theorem modSled_evt (s : State) (n : Nat) (f : SledX → SledX) : (s.modSled n f).evt = s.evt := rfl
@[simp] theorem modSled_host (s : State) (n : Nat) (f : SledX → SledX) : (s.modSled n f).host = s.host := rfl
@[simp] theorem modSled_breath (s : State) (n : Nat) (f : SledX → SledX) : (s.modSled n f).breath = s.breath := rfl
@[simp] theorem modSled_mech (s : State) (n : Nat) (f : SledX → SledX) : (s.modSled n f).mech = s.mech := rfl
@[simp] theorem modSled_isol (s : State) (n : Nat) (f : SledX → SledX) : (s.modSled n f).isol = s.isol := rfl
@[simp] theorem modSled_port (s : State) (n : Nat) (f : SledX → SledX) : (s.modSled n f).port = s.port := rfl
@[simp] theorem modSled_drop (s : State) (n : Nat) (f : SledX → SledX) : (s.modSled n f).drop = s.drop := rfl
@[simp] theorem modSled_cirq (s : State) (n : Nat) (f : SledX → SledX) : (s.modSled n f).cirq = s.cirq := rfl
@[simp] theorem modSled_cal (s : State) (n : Nat) (f : SledX → SledX) : (s.modSled n f).cal = s.cal := rfl
@[simp] theorem modSled_profiles (s : State) (n : Nat) (f : SledX → SledX) : (s.modSled n f).profiles = s.profiles := rfl
@[simp] theorem modSled_chan (s : State) (n : Nat) (f : SledX → SledX) : (s.modSled n f).chan = s.chan := rfl
@[simp] theorem modSled_floe (s : State) (n : Nat) (f : SledX → SledX) : (s.modSled n f).floe = s.floe := rfl
@[simp] theorem modSled_fw (s : State) (n : Nat) (f : SledX → SledX) : (s.modSled n f).fw = s.fw := rfl
@[simp] theorem modSled_ilk (s : State) (n : Nat) (f : SledX → SledX) : (s.modSled n f).ilk = s.ilk := rfl
@[simp] theorem modSled_pwr (s : State) (n : Nat) (f : SledX → SledX) : (s.modSled n f).pwr = s.pwr := rfl
@[simp] theorem modSled_dbg (s : State) (n : Nat) (f : SledX → SledX) : (s.modSled n f).dbg = s.dbg := rfl
@[simp] theorem modSled_memx (s : State) (n : Nat) (f : SledX → SledX) : (s.modSled n f).memx = s.memx := rfl
@[simp] theorem modSled_out (s : State) (n : Nat) (f : SledX → SledX) : (s.modSled n f).out = s.out := rfl
@[simp] theorem modSled_free (s : State) (n : Nat) (f : SledX → SledX) : (s.modSled n f).free = s.free := rfl
@[simp] theorem rd_modSled (s : State) (n : Nat) (f : SledX → SledX) (r : Reg) (i j : Nat) : (s.modSled n f).rd r i j = s.rd r i j := rfl
@[simp] theorem get_modSled (s : State) (n : Nat) (f : SledX → SledX) (g : Fld) (i j : Nat) : (s.modSled n f).get g i j = s.get g i j := rfl
@[simp] theorem modCirq_pending (s : State) (f : CirqState → CirqState) : (s.modCirq f).pending = s.pending := rfl
@[simp] theorem modCirq_regs (s : State) (f : CirqState → CirqState) : (s.modCirq f).regs = s.regs := rfl
@[simp] theorem modCirq_time (s : State) (f : CirqState → CirqState) : (s.modCirq f).time = s.time := rfl
@[simp] theorem modCirq_log (s : State) (f : CirqState → CirqState) : (s.modCirq f).log = s.log := rfl
@[simp] theorem modCirq_evt (s : State) (f : CirqState → CirqState) : (s.modCirq f).evt = s.evt := rfl
@[simp] theorem modCirq_host (s : State) (f : CirqState → CirqState) : (s.modCirq f).host = s.host := rfl
@[simp] theorem modCirq_breath (s : State) (f : CirqState → CirqState) : (s.modCirq f).breath = s.breath := rfl
@[simp] theorem modCirq_mech (s : State) (f : CirqState → CirqState) : (s.modCirq f).mech = s.mech := rfl
@[simp] theorem modCirq_isol (s : State) (f : CirqState → CirqState) : (s.modCirq f).isol = s.isol := rfl
@[simp] theorem modCirq_port (s : State) (f : CirqState → CirqState) : (s.modCirq f).port = s.port := rfl
@[simp] theorem modCirq_drop (s : State) (f : CirqState → CirqState) : (s.modCirq f).drop = s.drop := rfl
@[simp] theorem modCirq_servo (s : State) (f : CirqState → CirqState) : (s.modCirq f).servo = s.servo := rfl
@[simp] theorem modCirq_cal (s : State) (f : CirqState → CirqState) : (s.modCirq f).cal = s.cal := rfl
@[simp] theorem modCirq_profiles (s : State) (f : CirqState → CirqState) : (s.modCirq f).profiles = s.profiles := rfl
@[simp] theorem modCirq_chan (s : State) (f : CirqState → CirqState) : (s.modCirq f).chan = s.chan := rfl
@[simp] theorem modCirq_floe (s : State) (f : CirqState → CirqState) : (s.modCirq f).floe = s.floe := rfl
@[simp] theorem modCirq_fw (s : State) (f : CirqState → CirqState) : (s.modCirq f).fw = s.fw := rfl
@[simp] theorem modCirq_ilk (s : State) (f : CirqState → CirqState) : (s.modCirq f).ilk = s.ilk := rfl
@[simp] theorem modCirq_pwr (s : State) (f : CirqState → CirqState) : (s.modCirq f).pwr = s.pwr := rfl
@[simp] theorem modCirq_dbg (s : State) (f : CirqState → CirqState) : (s.modCirq f).dbg = s.dbg := rfl
@[simp] theorem modCirq_memx (s : State) (f : CirqState → CirqState) : (s.modCirq f).memx = s.memx := rfl
@[simp] theorem modCirq_out (s : State) (f : CirqState → CirqState) : (s.modCirq f).out = s.out := rfl
@[simp] theorem modCirq_free (s : State) (f : CirqState → CirqState) : (s.modCirq f).free = s.free := rfl
@[simp] theorem rd_modCirq (s : State) (f : CirqState → CirqState) (r : Reg) (i j : Nat) : (s.modCirq f).rd r i j = s.rd r i j := rfl
@[simp] theorem get_modCirq (s : State) (f : CirqState → CirqState) (g : Fld) (i j : Nat) : (s.modCirq f).get g i j = s.get g i j := rfl
@[simp] theorem modCap_pending (s : State) (n : Nat) (f : CapX → CapX) : (s.modCap n f).pending = s.pending := rfl
@[simp] theorem modCap_regs (s : State) (n : Nat) (f : CapX → CapX) : (s.modCap n f).regs = s.regs := rfl
@[simp] theorem modCap_time (s : State) (n : Nat) (f : CapX → CapX) : (s.modCap n f).time = s.time := rfl
@[simp] theorem modCap_log (s : State) (n : Nat) (f : CapX → CapX) : (s.modCap n f).log = s.log := rfl
@[simp] theorem modCap_evt (s : State) (n : Nat) (f : CapX → CapX) : (s.modCap n f).evt = s.evt := rfl
@[simp] theorem modCap_host (s : State) (n : Nat) (f : CapX → CapX) : (s.modCap n f).host = s.host := rfl
@[simp] theorem modCap_breath (s : State) (n : Nat) (f : CapX → CapX) : (s.modCap n f).breath = s.breath := rfl
@[simp] theorem modCap_mech (s : State) (n : Nat) (f : CapX → CapX) : (s.modCap n f).mech = s.mech := rfl
@[simp] theorem modCap_isol (s : State) (n : Nat) (f : CapX → CapX) : (s.modCap n f).isol = s.isol := rfl
@[simp] theorem modCap_port (s : State) (n : Nat) (f : CapX → CapX) : (s.modCap n f).port = s.port := rfl
@[simp] theorem modCap_drop (s : State) (n : Nat) (f : CapX → CapX) : (s.modCap n f).drop = s.drop := rfl
@[simp] theorem modCap_servo (s : State) (n : Nat) (f : CapX → CapX) : (s.modCap n f).servo = s.servo := rfl
@[simp] theorem modCap_cal (s : State) (n : Nat) (f : CapX → CapX) : (s.modCap n f).cal = s.cal := rfl
@[simp] theorem modCap_profiles (s : State) (n : Nat) (f : CapX → CapX) : (s.modCap n f).profiles = s.profiles := rfl
@[simp] theorem modCap_chan (s : State) (n : Nat) (f : CapX → CapX) : (s.modCap n f).chan = s.chan := rfl
@[simp] theorem modCap_floe (s : State) (n : Nat) (f : CapX → CapX) : (s.modCap n f).floe = s.floe := rfl
@[simp] theorem modCap_fw (s : State) (n : Nat) (f : CapX → CapX) : (s.modCap n f).fw = s.fw := rfl
@[simp] theorem modCap_ilk (s : State) (n : Nat) (f : CapX → CapX) : (s.modCap n f).ilk = s.ilk := rfl
@[simp] theorem modCap_pwr (s : State) (n : Nat) (f : CapX → CapX) : (s.modCap n f).pwr = s.pwr := rfl
@[simp] theorem modCap_dbg (s : State) (n : Nat) (f : CapX → CapX) : (s.modCap n f).dbg = s.dbg := rfl
@[simp] theorem modCap_memx (s : State) (n : Nat) (f : CapX → CapX) : (s.modCap n f).memx = s.memx := rfl
@[simp] theorem modCap_out (s : State) (n : Nat) (f : CapX → CapX) : (s.modCap n f).out = s.out := rfl
@[simp] theorem modCap_free (s : State) (n : Nat) (f : CapX → CapX) : (s.modCap n f).free = s.free := rfl
@[simp] theorem rd_modCap (s : State) (n : Nat) (f : CapX → CapX) (r : Reg) (i j : Nat) : (s.modCap n f).rd r i j = s.rd r i j := rfl
@[simp] theorem get_modCap (s : State) (n : Nat) (f : CapX → CapX) (g : Fld) (i j : Nat) : (s.modCap n f).get g i j = s.get g i j := rfl
@[simp] theorem modChan_pending (s : State) (f : ChannelState → ChannelState) : (s.modChan f).pending = s.pending := rfl
@[simp] theorem modChan_regs (s : State) (f : ChannelState → ChannelState) : (s.modChan f).regs = s.regs := rfl
@[simp] theorem modChan_time (s : State) (f : ChannelState → ChannelState) : (s.modChan f).time = s.time := rfl
@[simp] theorem modChan_log (s : State) (f : ChannelState → ChannelState) : (s.modChan f).log = s.log := rfl
@[simp] theorem modChan_evt (s : State) (f : ChannelState → ChannelState) : (s.modChan f).evt = s.evt := rfl
@[simp] theorem modChan_host (s : State) (f : ChannelState → ChannelState) : (s.modChan f).host = s.host := rfl
@[simp] theorem modChan_breath (s : State) (f : ChannelState → ChannelState) : (s.modChan f).breath = s.breath := rfl
@[simp] theorem modChan_mech (s : State) (f : ChannelState → ChannelState) : (s.modChan f).mech = s.mech := rfl
@[simp] theorem modChan_isol (s : State) (f : ChannelState → ChannelState) : (s.modChan f).isol = s.isol := rfl
@[simp] theorem modChan_port (s : State) (f : ChannelState → ChannelState) : (s.modChan f).port = s.port := rfl
@[simp] theorem modChan_drop (s : State) (f : ChannelState → ChannelState) : (s.modChan f).drop = s.drop := rfl
@[simp] theorem modChan_cirq (s : State) (f : ChannelState → ChannelState) : (s.modChan f).cirq = s.cirq := rfl
@[simp] theorem modChan_servo (s : State) (f : ChannelState → ChannelState) : (s.modChan f).servo = s.servo := rfl
@[simp] theorem modChan_cal (s : State) (f : ChannelState → ChannelState) : (s.modChan f).cal = s.cal := rfl
@[simp] theorem modChan_profiles (s : State) (f : ChannelState → ChannelState) : (s.modChan f).profiles = s.profiles := rfl
@[simp] theorem modChan_floe (s : State) (f : ChannelState → ChannelState) : (s.modChan f).floe = s.floe := rfl
@[simp] theorem modChan_fw (s : State) (f : ChannelState → ChannelState) : (s.modChan f).fw = s.fw := rfl
@[simp] theorem modChan_ilk (s : State) (f : ChannelState → ChannelState) : (s.modChan f).ilk = s.ilk := rfl
@[simp] theorem modChan_pwr (s : State) (f : ChannelState → ChannelState) : (s.modChan f).pwr = s.pwr := rfl
@[simp] theorem modChan_dbg (s : State) (f : ChannelState → ChannelState) : (s.modChan f).dbg = s.dbg := rfl
@[simp] theorem modChan_memx (s : State) (f : ChannelState → ChannelState) : (s.modChan f).memx = s.memx := rfl
@[simp] theorem modChan_out (s : State) (f : ChannelState → ChannelState) : (s.modChan f).out = s.out := rfl
@[simp] theorem modChan_free (s : State) (f : ChannelState → ChannelState) : (s.modChan f).free = s.free := rfl
@[simp] theorem rd_modChan (s : State) (f : ChannelState → ChannelState) (r : Reg) (i j : Nat) : (s.modChan f).rd r i j = s.rd r i j := rfl
@[simp] theorem get_modChan (s : State) (f : ChannelState → ChannelState) (g : Fld) (i j : Nat) : (s.modChan f).get g i j = s.get g i j := rfl
@[simp] theorem modLane_pending (s : State) (n : Nat) (f : LaneX → LaneX) : (s.modLane n f).pending = s.pending := rfl
@[simp] theorem modLane_regs (s : State) (n : Nat) (f : LaneX → LaneX) : (s.modLane n f).regs = s.regs := rfl
@[simp] theorem modLane_time (s : State) (n : Nat) (f : LaneX → LaneX) : (s.modLane n f).time = s.time := rfl
@[simp] theorem modLane_log (s : State) (n : Nat) (f : LaneX → LaneX) : (s.modLane n f).log = s.log := rfl
@[simp] theorem modLane_evt (s : State) (n : Nat) (f : LaneX → LaneX) : (s.modLane n f).evt = s.evt := rfl
@[simp] theorem modLane_host (s : State) (n : Nat) (f : LaneX → LaneX) : (s.modLane n f).host = s.host := rfl
@[simp] theorem modLane_breath (s : State) (n : Nat) (f : LaneX → LaneX) : (s.modLane n f).breath = s.breath := rfl
@[simp] theorem modLane_mech (s : State) (n : Nat) (f : LaneX → LaneX) : (s.modLane n f).mech = s.mech := rfl
@[simp] theorem modLane_isol (s : State) (n : Nat) (f : LaneX → LaneX) : (s.modLane n f).isol = s.isol := rfl
@[simp] theorem modLane_port (s : State) (n : Nat) (f : LaneX → LaneX) : (s.modLane n f).port = s.port := rfl
@[simp] theorem modLane_drop (s : State) (n : Nat) (f : LaneX → LaneX) : (s.modLane n f).drop = s.drop := rfl
@[simp] theorem modLane_cirq (s : State) (n : Nat) (f : LaneX → LaneX) : (s.modLane n f).cirq = s.cirq := rfl
@[simp] theorem modLane_servo (s : State) (n : Nat) (f : LaneX → LaneX) : (s.modLane n f).servo = s.servo := rfl
@[simp] theorem modLane_cal (s : State) (n : Nat) (f : LaneX → LaneX) : (s.modLane n f).cal = s.cal := rfl
@[simp] theorem modLane_profiles (s : State) (n : Nat) (f : LaneX → LaneX) : (s.modLane n f).profiles = s.profiles := rfl
@[simp] theorem modLane_floe (s : State) (n : Nat) (f : LaneX → LaneX) : (s.modLane n f).floe = s.floe := rfl
@[simp] theorem modLane_fw (s : State) (n : Nat) (f : LaneX → LaneX) : (s.modLane n f).fw = s.fw := rfl
@[simp] theorem modLane_ilk (s : State) (n : Nat) (f : LaneX → LaneX) : (s.modLane n f).ilk = s.ilk := rfl
@[simp] theorem modLane_pwr (s : State) (n : Nat) (f : LaneX → LaneX) : (s.modLane n f).pwr = s.pwr := rfl
@[simp] theorem modLane_dbg (s : State) (n : Nat) (f : LaneX → LaneX) : (s.modLane n f).dbg = s.dbg := rfl
@[simp] theorem modLane_memx (s : State) (n : Nat) (f : LaneX → LaneX) : (s.modLane n f).memx = s.memx := rfl
@[simp] theorem modLane_out (s : State) (n : Nat) (f : LaneX → LaneX) : (s.modLane n f).out = s.out := rfl
@[simp] theorem modLane_free (s : State) (n : Nat) (f : LaneX → LaneX) : (s.modLane n f).free = s.free := rfl
@[simp] theorem rd_modLane (s : State) (n : Nat) (f : LaneX → LaneX) (r : Reg) (i j : Nat) : (s.modLane n f).rd r i j = s.rd r i j := rfl
@[simp] theorem get_modLane (s : State) (n : Nat) (f : LaneX → LaneX) (g : Fld) (i j : Nat) : (s.modLane n f).get g i j = s.get g i j := rfl
@[simp] theorem modBeam_pending (s : State) (n b : Nat) (f : BeamX → BeamX) : (s.modBeam n b f).pending = s.pending := rfl
@[simp] theorem modBeam_regs (s : State) (n b : Nat) (f : BeamX → BeamX) : (s.modBeam n b f).regs = s.regs := rfl
@[simp] theorem modBeam_time (s : State) (n b : Nat) (f : BeamX → BeamX) : (s.modBeam n b f).time = s.time := rfl
@[simp] theorem modBeam_log (s : State) (n b : Nat) (f : BeamX → BeamX) : (s.modBeam n b f).log = s.log := rfl
@[simp] theorem modBeam_evt (s : State) (n b : Nat) (f : BeamX → BeamX) : (s.modBeam n b f).evt = s.evt := rfl
@[simp] theorem modBeam_host (s : State) (n b : Nat) (f : BeamX → BeamX) : (s.modBeam n b f).host = s.host := rfl
@[simp] theorem modBeam_breath (s : State) (n b : Nat) (f : BeamX → BeamX) : (s.modBeam n b f).breath = s.breath := rfl
@[simp] theorem modBeam_mech (s : State) (n b : Nat) (f : BeamX → BeamX) : (s.modBeam n b f).mech = s.mech := rfl
@[simp] theorem modBeam_isol (s : State) (n b : Nat) (f : BeamX → BeamX) : (s.modBeam n b f).isol = s.isol := rfl
@[simp] theorem modBeam_port (s : State) (n b : Nat) (f : BeamX → BeamX) : (s.modBeam n b f).port = s.port := rfl
@[simp] theorem modBeam_drop (s : State) (n b : Nat) (f : BeamX → BeamX) : (s.modBeam n b f).drop = s.drop := rfl
@[simp] theorem modBeam_cirq (s : State) (n b : Nat) (f : BeamX → BeamX) : (s.modBeam n b f).cirq = s.cirq := rfl
@[simp] theorem modBeam_servo (s : State) (n b : Nat) (f : BeamX → BeamX) : (s.modBeam n b f).servo = s.servo := rfl
@[simp] theorem modBeam_cal (s : State) (n b : Nat) (f : BeamX → BeamX) : (s.modBeam n b f).cal = s.cal := rfl
@[simp] theorem modBeam_profiles (s : State) (n b : Nat) (f : BeamX → BeamX) : (s.modBeam n b f).profiles = s.profiles := rfl
@[simp] theorem modBeam_floe (s : State) (n b : Nat) (f : BeamX → BeamX) : (s.modBeam n b f).floe = s.floe := rfl
@[simp] theorem modBeam_fw (s : State) (n b : Nat) (f : BeamX → BeamX) : (s.modBeam n b f).fw = s.fw := rfl
@[simp] theorem modBeam_ilk (s : State) (n b : Nat) (f : BeamX → BeamX) : (s.modBeam n b f).ilk = s.ilk := rfl
@[simp] theorem modBeam_pwr (s : State) (n b : Nat) (f : BeamX → BeamX) : (s.modBeam n b f).pwr = s.pwr := rfl
@[simp] theorem modBeam_dbg (s : State) (n b : Nat) (f : BeamX → BeamX) : (s.modBeam n b f).dbg = s.dbg := rfl
@[simp] theorem modBeam_memx (s : State) (n b : Nat) (f : BeamX → BeamX) : (s.modBeam n b f).memx = s.memx := rfl
@[simp] theorem modBeam_out (s : State) (n b : Nat) (f : BeamX → BeamX) : (s.modBeam n b f).out = s.out := rfl
@[simp] theorem modBeam_free (s : State) (n b : Nat) (f : BeamX → BeamX) : (s.modBeam n b f).free = s.free := rfl
@[simp] theorem rd_modBeam (s : State) (n b : Nat) (f : BeamX → BeamX) (r : Reg) (i j : Nat) : (s.modBeam n b f).rd r i j = s.rd r i j := rfl
@[simp] theorem get_modBeam (s : State) (n b : Nat) (f : BeamX → BeamX) (g : Fld) (i j : Nat) : (s.modBeam n b f).get g i j = s.get g i j := rfl
@[simp] theorem modDisc_pending (s : State) (n : Nat) (f : DiscX → DiscX) : (s.modDisc n f).pending = s.pending := rfl
@[simp] theorem modDisc_regs (s : State) (n : Nat) (f : DiscX → DiscX) : (s.modDisc n f).regs = s.regs := rfl
@[simp] theorem modDisc_time (s : State) (n : Nat) (f : DiscX → DiscX) : (s.modDisc n f).time = s.time := rfl
@[simp] theorem modDisc_log (s : State) (n : Nat) (f : DiscX → DiscX) : (s.modDisc n f).log = s.log := rfl
@[simp] theorem modDisc_evt (s : State) (n : Nat) (f : DiscX → DiscX) : (s.modDisc n f).evt = s.evt := rfl
@[simp] theorem modDisc_host (s : State) (n : Nat) (f : DiscX → DiscX) : (s.modDisc n f).host = s.host := rfl
@[simp] theorem modDisc_breath (s : State) (n : Nat) (f : DiscX → DiscX) : (s.modDisc n f).breath = s.breath := rfl
@[simp] theorem modDisc_mech (s : State) (n : Nat) (f : DiscX → DiscX) : (s.modDisc n f).mech = s.mech := rfl
@[simp] theorem modDisc_isol (s : State) (n : Nat) (f : DiscX → DiscX) : (s.modDisc n f).isol = s.isol := rfl
@[simp] theorem modDisc_port (s : State) (n : Nat) (f : DiscX → DiscX) : (s.modDisc n f).port = s.port := rfl
@[simp] theorem modDisc_drop (s : State) (n : Nat) (f : DiscX → DiscX) : (s.modDisc n f).drop = s.drop := rfl
@[simp] theorem modDisc_cirq (s : State) (n : Nat) (f : DiscX → DiscX) : (s.modDisc n f).cirq = s.cirq := rfl
@[simp] theorem modDisc_servo (s : State) (n : Nat) (f : DiscX → DiscX) : (s.modDisc n f).servo = s.servo := rfl
@[simp] theorem modDisc_cal (s : State) (n : Nat) (f : DiscX → DiscX) : (s.modDisc n f).cal = s.cal := rfl
@[simp] theorem modDisc_profiles (s : State) (n : Nat) (f : DiscX → DiscX) : (s.modDisc n f).profiles = s.profiles := rfl
@[simp] theorem modDisc_floe (s : State) (n : Nat) (f : DiscX → DiscX) : (s.modDisc n f).floe = s.floe := rfl
@[simp] theorem modDisc_fw (s : State) (n : Nat) (f : DiscX → DiscX) : (s.modDisc n f).fw = s.fw := rfl
@[simp] theorem modDisc_ilk (s : State) (n : Nat) (f : DiscX → DiscX) : (s.modDisc n f).ilk = s.ilk := rfl
@[simp] theorem modDisc_pwr (s : State) (n : Nat) (f : DiscX → DiscX) : (s.modDisc n f).pwr = s.pwr := rfl
@[simp] theorem modDisc_dbg (s : State) (n : Nat) (f : DiscX → DiscX) : (s.modDisc n f).dbg = s.dbg := rfl
@[simp] theorem modDisc_memx (s : State) (n : Nat) (f : DiscX → DiscX) : (s.modDisc n f).memx = s.memx := rfl
@[simp] theorem modDisc_out (s : State) (n : Nat) (f : DiscX → DiscX) : (s.modDisc n f).out = s.out := rfl
@[simp] theorem modDisc_free (s : State) (n : Nat) (f : DiscX → DiscX) : (s.modDisc n f).free = s.free := rfl
@[simp] theorem rd_modDisc (s : State) (n : Nat) (f : DiscX → DiscX) (r : Reg) (i j : Nat) : (s.modDisc n f).rd r i j = s.rd r i j := rfl
@[simp] theorem get_modDisc (s : State) (n : Nat) (f : DiscX → DiscX) (g : Fld) (i j : Nat) : (s.modDisc n f).get g i j = s.get g i j := rfl
@[simp] theorem modCw_pending (s : State) (n : Nat) (f : Codeword → Codeword) : (s.modCw n f).pending = s.pending := rfl
@[simp] theorem modCw_regs (s : State) (n : Nat) (f : Codeword → Codeword) : (s.modCw n f).regs = s.regs := rfl
@[simp] theorem modCw_time (s : State) (n : Nat) (f : Codeword → Codeword) : (s.modCw n f).time = s.time := rfl
@[simp] theorem modCw_log (s : State) (n : Nat) (f : Codeword → Codeword) : (s.modCw n f).log = s.log := rfl
@[simp] theorem modCw_evt (s : State) (n : Nat) (f : Codeword → Codeword) : (s.modCw n f).evt = s.evt := rfl
@[simp] theorem modCw_host (s : State) (n : Nat) (f : Codeword → Codeword) : (s.modCw n f).host = s.host := rfl
@[simp] theorem modCw_breath (s : State) (n : Nat) (f : Codeword → Codeword) : (s.modCw n f).breath = s.breath := rfl
@[simp] theorem modCw_mech (s : State) (n : Nat) (f : Codeword → Codeword) : (s.modCw n f).mech = s.mech := rfl
@[simp] theorem modCw_isol (s : State) (n : Nat) (f : Codeword → Codeword) : (s.modCw n f).isol = s.isol := rfl
@[simp] theorem modCw_port (s : State) (n : Nat) (f : Codeword → Codeword) : (s.modCw n f).port = s.port := rfl
@[simp] theorem modCw_drop (s : State) (n : Nat) (f : Codeword → Codeword) : (s.modCw n f).drop = s.drop := rfl
@[simp] theorem modCw_cirq (s : State) (n : Nat) (f : Codeword → Codeword) : (s.modCw n f).cirq = s.cirq := rfl
@[simp] theorem modCw_servo (s : State) (n : Nat) (f : Codeword → Codeword) : (s.modCw n f).servo = s.servo := rfl
@[simp] theorem modCw_cal (s : State) (n : Nat) (f : Codeword → Codeword) : (s.modCw n f).cal = s.cal := rfl
@[simp] theorem modCw_profiles (s : State) (n : Nat) (f : Codeword → Codeword) : (s.modCw n f).profiles = s.profiles := rfl
@[simp] theorem modCw_floe (s : State) (n : Nat) (f : Codeword → Codeword) : (s.modCw n f).floe = s.floe := rfl
@[simp] theorem modCw_fw (s : State) (n : Nat) (f : Codeword → Codeword) : (s.modCw n f).fw = s.fw := rfl
@[simp] theorem modCw_ilk (s : State) (n : Nat) (f : Codeword → Codeword) : (s.modCw n f).ilk = s.ilk := rfl
@[simp] theorem modCw_pwr (s : State) (n : Nat) (f : Codeword → Codeword) : (s.modCw n f).pwr = s.pwr := rfl
@[simp] theorem modCw_dbg (s : State) (n : Nat) (f : Codeword → Codeword) : (s.modCw n f).dbg = s.dbg := rfl
@[simp] theorem modCw_memx (s : State) (n : Nat) (f : Codeword → Codeword) : (s.modCw n f).memx = s.memx := rfl
@[simp] theorem modCw_out (s : State) (n : Nat) (f : Codeword → Codeword) : (s.modCw n f).out = s.out := rfl
@[simp] theorem modCw_free (s : State) (n : Nat) (f : Codeword → Codeword) : (s.modCw n f).free = s.free := rfl
@[simp] theorem rd_modCw (s : State) (n : Nat) (f : Codeword → Codeword) (r : Reg) (i j : Nat) : (s.modCw n f).rd r i j = s.rd r i j := rfl
@[simp] theorem get_modCw (s : State) (n : Nat) (f : Codeword → Codeword) (g : Fld) (i j : Nat) : (s.modCw n f).get g i j = s.get g i j := rfl
@[simp] theorem modRead_pending (s : State) (a b c : Nat) (f : ClusterRead → ClusterRead) : (s.modRead a b c f).pending = s.pending := rfl
@[simp] theorem modRead_regs (s : State) (a b c : Nat) (f : ClusterRead → ClusterRead) : (s.modRead a b c f).regs = s.regs := rfl
@[simp] theorem modRead_time (s : State) (a b c : Nat) (f : ClusterRead → ClusterRead) : (s.modRead a b c f).time = s.time := rfl
@[simp] theorem modRead_log (s : State) (a b c : Nat) (f : ClusterRead → ClusterRead) : (s.modRead a b c f).log = s.log := rfl
@[simp] theorem modRead_evt (s : State) (a b c : Nat) (f : ClusterRead → ClusterRead) : (s.modRead a b c f).evt = s.evt := rfl
@[simp] theorem modRead_host (s : State) (a b c : Nat) (f : ClusterRead → ClusterRead) : (s.modRead a b c f).host = s.host := rfl
@[simp] theorem modRead_breath (s : State) (a b c : Nat) (f : ClusterRead → ClusterRead) : (s.modRead a b c f).breath = s.breath := rfl
@[simp] theorem modRead_mech (s : State) (a b c : Nat) (f : ClusterRead → ClusterRead) : (s.modRead a b c f).mech = s.mech := rfl
@[simp] theorem modRead_isol (s : State) (a b c : Nat) (f : ClusterRead → ClusterRead) : (s.modRead a b c f).isol = s.isol := rfl
@[simp] theorem modRead_port (s : State) (a b c : Nat) (f : ClusterRead → ClusterRead) : (s.modRead a b c f).port = s.port := rfl
@[simp] theorem modRead_drop (s : State) (a b c : Nat) (f : ClusterRead → ClusterRead) : (s.modRead a b c f).drop = s.drop := rfl
@[simp] theorem modRead_cirq (s : State) (a b c : Nat) (f : ClusterRead → ClusterRead) : (s.modRead a b c f).cirq = s.cirq := rfl
@[simp] theorem modRead_servo (s : State) (a b c : Nat) (f : ClusterRead → ClusterRead) : (s.modRead a b c f).servo = s.servo := rfl
@[simp] theorem modRead_cal (s : State) (a b c : Nat) (f : ClusterRead → ClusterRead) : (s.modRead a b c f).cal = s.cal := rfl
@[simp] theorem modRead_profiles (s : State) (a b c : Nat) (f : ClusterRead → ClusterRead) : (s.modRead a b c f).profiles = s.profiles := rfl
@[simp] theorem modRead_floe (s : State) (a b c : Nat) (f : ClusterRead → ClusterRead) : (s.modRead a b c f).floe = s.floe := rfl
@[simp] theorem modRead_fw (s : State) (a b c : Nat) (f : ClusterRead → ClusterRead) : (s.modRead a b c f).fw = s.fw := rfl
@[simp] theorem modRead_ilk (s : State) (a b c : Nat) (f : ClusterRead → ClusterRead) : (s.modRead a b c f).ilk = s.ilk := rfl
@[simp] theorem modRead_pwr (s : State) (a b c : Nat) (f : ClusterRead → ClusterRead) : (s.modRead a b c f).pwr = s.pwr := rfl
@[simp] theorem modRead_dbg (s : State) (a b c : Nat) (f : ClusterRead → ClusterRead) : (s.modRead a b c f).dbg = s.dbg := rfl
@[simp] theorem modRead_memx (s : State) (a b c : Nat) (f : ClusterRead → ClusterRead) : (s.modRead a b c f).memx = s.memx := rfl
@[simp] theorem modRead_out (s : State) (a b c : Nat) (f : ClusterRead → ClusterRead) : (s.modRead a b c f).out = s.out := rfl
@[simp] theorem modRead_free (s : State) (a b c : Nat) (f : ClusterRead → ClusterRead) : (s.modRead a b c f).free = s.free := rfl
@[simp] theorem rd_modRead (s : State) (a b c : Nat) (f : ClusterRead → ClusterRead) (r : Reg) (i j : Nat) : (s.modRead a b c f).rd r i j = s.rd r i j := rfl
@[simp] theorem get_modRead (s : State) (a b c : Nat) (f : ClusterRead → ClusterRead) (g : Fld) (i j : Nat) : (s.modRead a b c f).get g i j = s.get g i j := rfl
@[simp] theorem modSet_pending (s : State) (n : Nat) (f : FloeSet → FloeSet) : (s.modSet n f).pending = s.pending := rfl
@[simp] theorem modSet_regs (s : State) (n : Nat) (f : FloeSet → FloeSet) : (s.modSet n f).regs = s.regs := rfl
@[simp] theorem modSet_time (s : State) (n : Nat) (f : FloeSet → FloeSet) : (s.modSet n f).time = s.time := rfl
@[simp] theorem modSet_log (s : State) (n : Nat) (f : FloeSet → FloeSet) : (s.modSet n f).log = s.log := rfl
@[simp] theorem modSet_evt (s : State) (n : Nat) (f : FloeSet → FloeSet) : (s.modSet n f).evt = s.evt := rfl
@[simp] theorem modSet_host (s : State) (n : Nat) (f : FloeSet → FloeSet) : (s.modSet n f).host = s.host := rfl
@[simp] theorem modSet_breath (s : State) (n : Nat) (f : FloeSet → FloeSet) : (s.modSet n f).breath = s.breath := rfl
@[simp] theorem modSet_mech (s : State) (n : Nat) (f : FloeSet → FloeSet) : (s.modSet n f).mech = s.mech := rfl
@[simp] theorem modSet_isol (s : State) (n : Nat) (f : FloeSet → FloeSet) : (s.modSet n f).isol = s.isol := rfl
@[simp] theorem modSet_port (s : State) (n : Nat) (f : FloeSet → FloeSet) : (s.modSet n f).port = s.port := rfl
@[simp] theorem modSet_drop (s : State) (n : Nat) (f : FloeSet → FloeSet) : (s.modSet n f).drop = s.drop := rfl
@[simp] theorem modSet_cirq (s : State) (n : Nat) (f : FloeSet → FloeSet) : (s.modSet n f).cirq = s.cirq := rfl
@[simp] theorem modSet_servo (s : State) (n : Nat) (f : FloeSet → FloeSet) : (s.modSet n f).servo = s.servo := rfl
@[simp] theorem modSet_cal (s : State) (n : Nat) (f : FloeSet → FloeSet) : (s.modSet n f).cal = s.cal := rfl
@[simp] theorem modSet_profiles (s : State) (n : Nat) (f : FloeSet → FloeSet) : (s.modSet n f).profiles = s.profiles := rfl
@[simp] theorem modSet_chan (s : State) (n : Nat) (f : FloeSet → FloeSet) : (s.modSet n f).chan = s.chan := rfl
@[simp] theorem modSet_fw (s : State) (n : Nat) (f : FloeSet → FloeSet) : (s.modSet n f).fw = s.fw := rfl
@[simp] theorem modSet_ilk (s : State) (n : Nat) (f : FloeSet → FloeSet) : (s.modSet n f).ilk = s.ilk := rfl
@[simp] theorem modSet_pwr (s : State) (n : Nat) (f : FloeSet → FloeSet) : (s.modSet n f).pwr = s.pwr := rfl
@[simp] theorem modSet_dbg (s : State) (n : Nat) (f : FloeSet → FloeSet) : (s.modSet n f).dbg = s.dbg := rfl
@[simp] theorem modSet_memx (s : State) (n : Nat) (f : FloeSet → FloeSet) : (s.modSet n f).memx = s.memx := rfl
@[simp] theorem modSet_out (s : State) (n : Nat) (f : FloeSet → FloeSet) : (s.modSet n f).out = s.out := rfl
@[simp] theorem modSet_free (s : State) (n : Nat) (f : FloeSet → FloeSet) : (s.modSet n f).free = s.free := rfl
@[simp] theorem rd_modSet (s : State) (n : Nat) (f : FloeSet → FloeSet) (r : Reg) (i j : Nat) : (s.modSet n f).rd r i j = s.rd r i j := rfl
@[simp] theorem get_modSet (s : State) (n : Nat) (f : FloeSet → FloeSet) (g : Fld) (i j : Nat) : (s.modSet n f).get g i j = s.get g i j := rfl
@[simp] theorem modStripe_pending (s : State) (n m : Nat) (f : StripeX → StripeX) : (s.modStripe n m f).pending = s.pending := rfl
@[simp] theorem modStripe_regs (s : State) (n m : Nat) (f : StripeX → StripeX) : (s.modStripe n m f).regs = s.regs := rfl
@[simp] theorem modStripe_time (s : State) (n m : Nat) (f : StripeX → StripeX) : (s.modStripe n m f).time = s.time := rfl
@[simp] theorem modStripe_log (s : State) (n m : Nat) (f : StripeX → StripeX) : (s.modStripe n m f).log = s.log := rfl
@[simp] theorem modStripe_evt (s : State) (n m : Nat) (f : StripeX → StripeX) : (s.modStripe n m f).evt = s.evt := rfl
@[simp] theorem modStripe_host (s : State) (n m : Nat) (f : StripeX → StripeX) : (s.modStripe n m f).host = s.host := rfl
@[simp] theorem modStripe_breath (s : State) (n m : Nat) (f : StripeX → StripeX) : (s.modStripe n m f).breath = s.breath := rfl
@[simp] theorem modStripe_mech (s : State) (n m : Nat) (f : StripeX → StripeX) : (s.modStripe n m f).mech = s.mech := rfl
@[simp] theorem modStripe_isol (s : State) (n m : Nat) (f : StripeX → StripeX) : (s.modStripe n m f).isol = s.isol := rfl
@[simp] theorem modStripe_port (s : State) (n m : Nat) (f : StripeX → StripeX) : (s.modStripe n m f).port = s.port := rfl
@[simp] theorem modStripe_drop (s : State) (n m : Nat) (f : StripeX → StripeX) : (s.modStripe n m f).drop = s.drop := rfl
@[simp] theorem modStripe_cirq (s : State) (n m : Nat) (f : StripeX → StripeX) : (s.modStripe n m f).cirq = s.cirq := rfl
@[simp] theorem modStripe_servo (s : State) (n m : Nat) (f : StripeX → StripeX) : (s.modStripe n m f).servo = s.servo := rfl
@[simp] theorem modStripe_cal (s : State) (n m : Nat) (f : StripeX → StripeX) : (s.modStripe n m f).cal = s.cal := rfl
@[simp] theorem modStripe_profiles (s : State) (n m : Nat) (f : StripeX → StripeX) : (s.modStripe n m f).profiles = s.profiles := rfl
@[simp] theorem modStripe_chan (s : State) (n m : Nat) (f : StripeX → StripeX) : (s.modStripe n m f).chan = s.chan := rfl
@[simp] theorem modStripe_fw (s : State) (n m : Nat) (f : StripeX → StripeX) : (s.modStripe n m f).fw = s.fw := rfl
@[simp] theorem modStripe_ilk (s : State) (n m : Nat) (f : StripeX → StripeX) : (s.modStripe n m f).ilk = s.ilk := rfl
@[simp] theorem modStripe_pwr (s : State) (n m : Nat) (f : StripeX → StripeX) : (s.modStripe n m f).pwr = s.pwr := rfl
@[simp] theorem modStripe_dbg (s : State) (n m : Nat) (f : StripeX → StripeX) : (s.modStripe n m f).dbg = s.dbg := rfl
@[simp] theorem modStripe_memx (s : State) (n m : Nat) (f : StripeX → StripeX) : (s.modStripe n m f).memx = s.memx := rfl
@[simp] theorem modStripe_out (s : State) (n m : Nat) (f : StripeX → StripeX) : (s.modStripe n m f).out = s.out := rfl
@[simp] theorem modStripe_free (s : State) (n m : Nat) (f : StripeX → StripeX) : (s.modStripe n m f).free = s.free := rfl
@[simp] theorem rd_modStripe (s : State) (n m : Nat) (f : StripeX → StripeX) (r : Reg) (i j : Nat) : (s.modStripe n m f).rd r i j = s.rd r i j := rfl
@[simp] theorem get_modStripe (s : State) (n m : Nat) (f : StripeX → StripeX) (g : Fld) (i j : Nat) : (s.modStripe n m f).get g i j = s.get g i j := rfl
@[simp] theorem modWb_pending (s : State) (n : Nat) (f : WbEntry → WbEntry) : (s.modWb n f).pending = s.pending := rfl
@[simp] theorem modWb_regs (s : State) (n : Nat) (f : WbEntry → WbEntry) : (s.modWb n f).regs = s.regs := rfl
@[simp] theorem modWb_time (s : State) (n : Nat) (f : WbEntry → WbEntry) : (s.modWb n f).time = s.time := rfl
@[simp] theorem modWb_log (s : State) (n : Nat) (f : WbEntry → WbEntry) : (s.modWb n f).log = s.log := rfl
@[simp] theorem modWb_evt (s : State) (n : Nat) (f : WbEntry → WbEntry) : (s.modWb n f).evt = s.evt := rfl
@[simp] theorem modWb_breath (s : State) (n : Nat) (f : WbEntry → WbEntry) : (s.modWb n f).breath = s.breath := rfl
@[simp] theorem modWb_mech (s : State) (n : Nat) (f : WbEntry → WbEntry) : (s.modWb n f).mech = s.mech := rfl
@[simp] theorem modWb_isol (s : State) (n : Nat) (f : WbEntry → WbEntry) : (s.modWb n f).isol = s.isol := rfl
@[simp] theorem modWb_port (s : State) (n : Nat) (f : WbEntry → WbEntry) : (s.modWb n f).port = s.port := rfl
@[simp] theorem modWb_drop (s : State) (n : Nat) (f : WbEntry → WbEntry) : (s.modWb n f).drop = s.drop := rfl
@[simp] theorem modWb_cirq (s : State) (n : Nat) (f : WbEntry → WbEntry) : (s.modWb n f).cirq = s.cirq := rfl
@[simp] theorem modWb_servo (s : State) (n : Nat) (f : WbEntry → WbEntry) : (s.modWb n f).servo = s.servo := rfl
@[simp] theorem modWb_cal (s : State) (n : Nat) (f : WbEntry → WbEntry) : (s.modWb n f).cal = s.cal := rfl
@[simp] theorem modWb_profiles (s : State) (n : Nat) (f : WbEntry → WbEntry) : (s.modWb n f).profiles = s.profiles := rfl
@[simp] theorem modWb_chan (s : State) (n : Nat) (f : WbEntry → WbEntry) : (s.modWb n f).chan = s.chan := rfl
@[simp] theorem modWb_floe (s : State) (n : Nat) (f : WbEntry → WbEntry) : (s.modWb n f).floe = s.floe := rfl
@[simp] theorem modWb_fw (s : State) (n : Nat) (f : WbEntry → WbEntry) : (s.modWb n f).fw = s.fw := rfl
@[simp] theorem modWb_ilk (s : State) (n : Nat) (f : WbEntry → WbEntry) : (s.modWb n f).ilk = s.ilk := rfl
@[simp] theorem modWb_pwr (s : State) (n : Nat) (f : WbEntry → WbEntry) : (s.modWb n f).pwr = s.pwr := rfl
@[simp] theorem modWb_dbg (s : State) (n : Nat) (f : WbEntry → WbEntry) : (s.modWb n f).dbg = s.dbg := rfl
@[simp] theorem modWb_memx (s : State) (n : Nat) (f : WbEntry → WbEntry) : (s.modWb n f).memx = s.memx := rfl
@[simp] theorem modWb_out (s : State) (n : Nat) (f : WbEntry → WbEntry) : (s.modWb n f).out = s.out := rfl
@[simp] theorem modWb_free (s : State) (n : Nat) (f : WbEntry → WbEntry) : (s.modWb n f).free = s.free := rfl
@[simp] theorem rd_modWb (s : State) (n : Nat) (f : WbEntry → WbEntry) (r : Reg) (i j : Nat) : (s.modWb n f).rd r i j = s.rd r i j := rfl
@[simp] theorem get_modWb (s : State) (n : Nat) (f : WbEntry → WbEntry) (g : Fld) (i j : Nat) : (s.modWb n f).get g i j = s.get g i j := rfl
@[simp] theorem modMem_pending (s : State) (f : MemX → MemX) : (s.modMem f).pending = s.pending := rfl
@[simp] theorem modMem_regs (s : State) (f : MemX → MemX) : (s.modMem f).regs = s.regs := rfl
@[simp] theorem modMem_time (s : State) (f : MemX → MemX) : (s.modMem f).time = s.time := rfl
@[simp] theorem modMem_log (s : State) (f : MemX → MemX) : (s.modMem f).log = s.log := rfl
@[simp] theorem modMem_evt (s : State) (f : MemX → MemX) : (s.modMem f).evt = s.evt := rfl
@[simp] theorem modMem_host (s : State) (f : MemX → MemX) : (s.modMem f).host = s.host := rfl
@[simp] theorem modMem_breath (s : State) (f : MemX → MemX) : (s.modMem f).breath = s.breath := rfl
@[simp] theorem modMem_mech (s : State) (f : MemX → MemX) : (s.modMem f).mech = s.mech := rfl
@[simp] theorem modMem_isol (s : State) (f : MemX → MemX) : (s.modMem f).isol = s.isol := rfl
@[simp] theorem modMem_port (s : State) (f : MemX → MemX) : (s.modMem f).port = s.port := rfl
@[simp] theorem modMem_drop (s : State) (f : MemX → MemX) : (s.modMem f).drop = s.drop := rfl
@[simp] theorem modMem_cirq (s : State) (f : MemX → MemX) : (s.modMem f).cirq = s.cirq := rfl
@[simp] theorem modMem_servo (s : State) (f : MemX → MemX) : (s.modMem f).servo = s.servo := rfl
@[simp] theorem modMem_cal (s : State) (f : MemX → MemX) : (s.modMem f).cal = s.cal := rfl
@[simp] theorem modMem_profiles (s : State) (f : MemX → MemX) : (s.modMem f).profiles = s.profiles := rfl
@[simp] theorem modMem_chan (s : State) (f : MemX → MemX) : (s.modMem f).chan = s.chan := rfl
@[simp] theorem modMem_floe (s : State) (f : MemX → MemX) : (s.modMem f).floe = s.floe := rfl
@[simp] theorem modMem_fw (s : State) (f : MemX → MemX) : (s.modMem f).fw = s.fw := rfl
@[simp] theorem modMem_ilk (s : State) (f : MemX → MemX) : (s.modMem f).ilk = s.ilk := rfl
@[simp] theorem modMem_pwr (s : State) (f : MemX → MemX) : (s.modMem f).pwr = s.pwr := rfl
@[simp] theorem modMem_dbg (s : State) (f : MemX → MemX) : (s.modMem f).dbg = s.dbg := rfl
@[simp] theorem modMem_out (s : State) (f : MemX → MemX) : (s.modMem f).out = s.out := rfl
@[simp] theorem modMem_free (s : State) (f : MemX → MemX) : (s.modMem f).free = s.free := rfl
@[simp] theorem rd_modMem (s : State) (f : MemX → MemX) (r : Reg) (i j : Nat) : (s.modMem f).rd r i j = s.rd r i j := rfl
@[simp] theorem get_modMem (s : State) (f : MemX → MemX) (g : Fld) (i j : Nat) : (s.modMem f).get g i j = s.get g i j := rfl
@[simp] theorem modPwr_pending (s : State) (f : PowerX → PowerX) : (s.modPwr f).pending = s.pending := rfl
@[simp] theorem modPwr_regs (s : State) (f : PowerX → PowerX) : (s.modPwr f).regs = s.regs := rfl
@[simp] theorem modPwr_time (s : State) (f : PowerX → PowerX) : (s.modPwr f).time = s.time := rfl
@[simp] theorem modPwr_log (s : State) (f : PowerX → PowerX) : (s.modPwr f).log = s.log := rfl
@[simp] theorem modPwr_evt (s : State) (f : PowerX → PowerX) : (s.modPwr f).evt = s.evt := rfl
@[simp] theorem modPwr_host (s : State) (f : PowerX → PowerX) : (s.modPwr f).host = s.host := rfl
@[simp] theorem modPwr_breath (s : State) (f : PowerX → PowerX) : (s.modPwr f).breath = s.breath := rfl
@[simp] theorem modPwr_mech (s : State) (f : PowerX → PowerX) : (s.modPwr f).mech = s.mech := rfl
@[simp] theorem modPwr_isol (s : State) (f : PowerX → PowerX) : (s.modPwr f).isol = s.isol := rfl
@[simp] theorem modPwr_port (s : State) (f : PowerX → PowerX) : (s.modPwr f).port = s.port := rfl
@[simp] theorem modPwr_drop (s : State) (f : PowerX → PowerX) : (s.modPwr f).drop = s.drop := rfl
@[simp] theorem modPwr_cirq (s : State) (f : PowerX → PowerX) : (s.modPwr f).cirq = s.cirq := rfl
@[simp] theorem modPwr_servo (s : State) (f : PowerX → PowerX) : (s.modPwr f).servo = s.servo := rfl
@[simp] theorem modPwr_cal (s : State) (f : PowerX → PowerX) : (s.modPwr f).cal = s.cal := rfl
@[simp] theorem modPwr_profiles (s : State) (f : PowerX → PowerX) : (s.modPwr f).profiles = s.profiles := rfl
@[simp] theorem modPwr_chan (s : State) (f : PowerX → PowerX) : (s.modPwr f).chan = s.chan := rfl
@[simp] theorem modPwr_floe (s : State) (f : PowerX → PowerX) : (s.modPwr f).floe = s.floe := rfl
@[simp] theorem modPwr_fw (s : State) (f : PowerX → PowerX) : (s.modPwr f).fw = s.fw := rfl
@[simp] theorem modPwr_ilk (s : State) (f : PowerX → PowerX) : (s.modPwr f).ilk = s.ilk := rfl
@[simp] theorem modPwr_dbg (s : State) (f : PowerX → PowerX) : (s.modPwr f).dbg = s.dbg := rfl
@[simp] theorem modPwr_memx (s : State) (f : PowerX → PowerX) : (s.modPwr f).memx = s.memx := rfl
@[simp] theorem modPwr_out (s : State) (f : PowerX → PowerX) : (s.modPwr f).out = s.out := rfl
@[simp] theorem modPwr_free (s : State) (f : PowerX → PowerX) : (s.modPwr f).free = s.free := rfl
@[simp] theorem rd_modPwr (s : State) (f : PowerX → PowerX) (r : Reg) (i j : Nat) : (s.modPwr f).rd r i j = s.rd r i j := rfl
@[simp] theorem get_modPwr (s : State) (f : PowerX → PowerX) (g : Fld) (i j : Nat) : (s.modPwr f).get g i j = s.get g i j := rfl
@[simp] theorem modFw_pending (s : State) (f : FwState → FwState) : (s.modFw f).pending = s.pending := rfl
@[simp] theorem modFw_regs (s : State) (f : FwState → FwState) : (s.modFw f).regs = s.regs := rfl
@[simp] theorem modFw_time (s : State) (f : FwState → FwState) : (s.modFw f).time = s.time := rfl
@[simp] theorem modFw_log (s : State) (f : FwState → FwState) : (s.modFw f).log = s.log := rfl
@[simp] theorem modFw_evt (s : State) (f : FwState → FwState) : (s.modFw f).evt = s.evt := rfl
@[simp] theorem modFw_host (s : State) (f : FwState → FwState) : (s.modFw f).host = s.host := rfl
@[simp] theorem modFw_breath (s : State) (f : FwState → FwState) : (s.modFw f).breath = s.breath := rfl
@[simp] theorem modFw_mech (s : State) (f : FwState → FwState) : (s.modFw f).mech = s.mech := rfl
@[simp] theorem modFw_isol (s : State) (f : FwState → FwState) : (s.modFw f).isol = s.isol := rfl
@[simp] theorem modFw_port (s : State) (f : FwState → FwState) : (s.modFw f).port = s.port := rfl
@[simp] theorem modFw_drop (s : State) (f : FwState → FwState) : (s.modFw f).drop = s.drop := rfl
@[simp] theorem modFw_cirq (s : State) (f : FwState → FwState) : (s.modFw f).cirq = s.cirq := rfl
@[simp] theorem modFw_servo (s : State) (f : FwState → FwState) : (s.modFw f).servo = s.servo := rfl
@[simp] theorem modFw_cal (s : State) (f : FwState → FwState) : (s.modFw f).cal = s.cal := rfl
@[simp] theorem modFw_profiles (s : State) (f : FwState → FwState) : (s.modFw f).profiles = s.profiles := rfl
@[simp] theorem modFw_chan (s : State) (f : FwState → FwState) : (s.modFw f).chan = s.chan := rfl
@[simp] theorem modFw_floe (s : State) (f : FwState → FwState) : (s.modFw f).floe = s.floe := rfl
@[simp] theorem modFw_ilk (s : State) (f : FwState → FwState) : (s.modFw f).ilk = s.ilk := rfl
@[simp] theorem modFw_pwr (s : State) (f : FwState → FwState) : (s.modFw f).pwr = s.pwr := rfl
@[simp] theorem modFw_dbg (s : State) (f : FwState → FwState) : (s.modFw f).dbg = s.dbg := rfl
@[simp] theorem modFw_memx (s : State) (f : FwState → FwState) : (s.modFw f).memx = s.memx := rfl
@[simp] theorem modFw_out (s : State) (f : FwState → FwState) : (s.modFw f).out = s.out := rfl
@[simp] theorem modFw_free (s : State) (f : FwState → FwState) : (s.modFw f).free = s.free := rfl
@[simp] theorem rd_modFw (s : State) (f : FwState → FwState) (r : Reg) (i j : Nat) : (s.modFw f).rd r i j = s.rd r i j := rfl
@[simp] theorem get_modFw (s : State) (f : FwState → FwState) (g : Fld) (i j : Nat) : (s.modFw f).get g i j = s.get g i j := rfl
@[simp] theorem modAct_pending (s : State) (f : ActX → ActX) : (s.modAct f).pending = s.pending := rfl
@[simp] theorem modAct_regs (s : State) (f : ActX → ActX) : (s.modAct f).regs = s.regs := rfl
@[simp] theorem modAct_time (s : State) (f : ActX → ActX) : (s.modAct f).time = s.time := rfl
@[simp] theorem modAct_log (s : State) (f : ActX → ActX) : (s.modAct f).log = s.log := rfl
@[simp] theorem modAct_evt (s : State) (f : ActX → ActX) : (s.modAct f).evt = s.evt := rfl
@[simp] theorem modAct_host (s : State) (f : ActX → ActX) : (s.modAct f).host = s.host := rfl
@[simp] theorem modAct_breath (s : State) (f : ActX → ActX) : (s.modAct f).breath = s.breath := rfl
@[simp] theorem modAct_mech (s : State) (f : ActX → ActX) : (s.modAct f).mech = s.mech := rfl
@[simp] theorem modAct_isol (s : State) (f : ActX → ActX) : (s.modAct f).isol = s.isol := rfl
@[simp] theorem modAct_port (s : State) (f : ActX → ActX) : (s.modAct f).port = s.port := rfl
@[simp] theorem modAct_drop (s : State) (f : ActX → ActX) : (s.modAct f).drop = s.drop := rfl
@[simp] theorem modAct_cirq (s : State) (f : ActX → ActX) : (s.modAct f).cirq = s.cirq := rfl
@[simp] theorem modAct_servo (s : State) (f : ActX → ActX) : (s.modAct f).servo = s.servo := rfl
@[simp] theorem modAct_cal (s : State) (f : ActX → ActX) : (s.modAct f).cal = s.cal := rfl
@[simp] theorem modAct_profiles (s : State) (f : ActX → ActX) : (s.modAct f).profiles = s.profiles := rfl
@[simp] theorem modAct_chan (s : State) (f : ActX → ActX) : (s.modAct f).chan = s.chan := rfl
@[simp] theorem modAct_floe (s : State) (f : ActX → ActX) : (s.modAct f).floe = s.floe := rfl
@[simp] theorem modAct_ilk (s : State) (f : ActX → ActX) : (s.modAct f).ilk = s.ilk := rfl
@[simp] theorem modAct_pwr (s : State) (f : ActX → ActX) : (s.modAct f).pwr = s.pwr := rfl
@[simp] theorem modAct_dbg (s : State) (f : ActX → ActX) : (s.modAct f).dbg = s.dbg := rfl
@[simp] theorem modAct_memx (s : State) (f : ActX → ActX) : (s.modAct f).memx = s.memx := rfl
@[simp] theorem modAct_out (s : State) (f : ActX → ActX) : (s.modAct f).out = s.out := rfl
@[simp] theorem modAct_free (s : State) (f : ActX → ActX) : (s.modAct f).free = s.free := rfl
@[simp] theorem rd_modAct (s : State) (f : ActX → ActX) (r : Reg) (i j : Nat) : (s.modAct f).rd r i j = s.rd r i j := rfl
@[simp] theorem get_modAct (s : State) (f : ActX → ActX) (g : Fld) (i j : Nat) : (s.modAct f).get g i j = s.get g i j := rfl
@[simp] theorem modDbg_pending (s : State) (f : DbgX → DbgX) : (s.modDbg f).pending = s.pending := rfl
@[simp] theorem modDbg_regs (s : State) (f : DbgX → DbgX) : (s.modDbg f).regs = s.regs := rfl
@[simp] theorem modDbg_time (s : State) (f : DbgX → DbgX) : (s.modDbg f).time = s.time := rfl
@[simp] theorem modDbg_log (s : State) (f : DbgX → DbgX) : (s.modDbg f).log = s.log := rfl
@[simp] theorem modDbg_evt (s : State) (f : DbgX → DbgX) : (s.modDbg f).evt = s.evt := rfl
@[simp] theorem modDbg_host (s : State) (f : DbgX → DbgX) : (s.modDbg f).host = s.host := rfl
@[simp] theorem modDbg_breath (s : State) (f : DbgX → DbgX) : (s.modDbg f).breath = s.breath := rfl
@[simp] theorem modDbg_mech (s : State) (f : DbgX → DbgX) : (s.modDbg f).mech = s.mech := rfl
@[simp] theorem modDbg_isol (s : State) (f : DbgX → DbgX) : (s.modDbg f).isol = s.isol := rfl
@[simp] theorem modDbg_port (s : State) (f : DbgX → DbgX) : (s.modDbg f).port = s.port := rfl
@[simp] theorem modDbg_drop (s : State) (f : DbgX → DbgX) : (s.modDbg f).drop = s.drop := rfl
@[simp] theorem modDbg_cirq (s : State) (f : DbgX → DbgX) : (s.modDbg f).cirq = s.cirq := rfl
@[simp] theorem modDbg_servo (s : State) (f : DbgX → DbgX) : (s.modDbg f).servo = s.servo := rfl
@[simp] theorem modDbg_cal (s : State) (f : DbgX → DbgX) : (s.modDbg f).cal = s.cal := rfl
@[simp] theorem modDbg_profiles (s : State) (f : DbgX → DbgX) : (s.modDbg f).profiles = s.profiles := rfl
@[simp] theorem modDbg_chan (s : State) (f : DbgX → DbgX) : (s.modDbg f).chan = s.chan := rfl
@[simp] theorem modDbg_floe (s : State) (f : DbgX → DbgX) : (s.modDbg f).floe = s.floe := rfl
@[simp] theorem modDbg_fw (s : State) (f : DbgX → DbgX) : (s.modDbg f).fw = s.fw := rfl
@[simp] theorem modDbg_ilk (s : State) (f : DbgX → DbgX) : (s.modDbg f).ilk = s.ilk := rfl
@[simp] theorem modDbg_pwr (s : State) (f : DbgX → DbgX) : (s.modDbg f).pwr = s.pwr := rfl
@[simp] theorem modDbg_memx (s : State) (f : DbgX → DbgX) : (s.modDbg f).memx = s.memx := rfl
@[simp] theorem modDbg_out (s : State) (f : DbgX → DbgX) : (s.modDbg f).out = s.out := rfl
@[simp] theorem modDbg_free (s : State) (f : DbgX → DbgX) : (s.modDbg f).free = s.free := rfl
@[simp] theorem rd_modDbg (s : State) (f : DbgX → DbgX) (r : Reg) (i j : Nat) : (s.modDbg f).rd r i j = s.rd r i j := rfl
@[simp] theorem get_modDbg (s : State) (f : DbgX → DbgX) (g : Fld) (i j : Nat) : (s.modDbg f).get g i j = s.get g i j := rfl
@[simp] theorem modEvt_pending (s : State) (f : EvtState → EvtState) : (s.modEvt f).pending = s.pending := rfl
@[simp] theorem modEvt_regs (s : State) (f : EvtState → EvtState) : (s.modEvt f).regs = s.regs := rfl
@[simp] theorem modEvt_time (s : State) (f : EvtState → EvtState) : (s.modEvt f).time = s.time := rfl
@[simp] theorem modEvt_log (s : State) (f : EvtState → EvtState) : (s.modEvt f).log = s.log := rfl
@[simp] theorem modEvt_host (s : State) (f : EvtState → EvtState) : (s.modEvt f).host = s.host := rfl
@[simp] theorem modEvt_breath (s : State) (f : EvtState → EvtState) : (s.modEvt f).breath = s.breath := rfl
@[simp] theorem modEvt_mech (s : State) (f : EvtState → EvtState) : (s.modEvt f).mech = s.mech := rfl
@[simp] theorem modEvt_isol (s : State) (f : EvtState → EvtState) : (s.modEvt f).isol = s.isol := rfl
@[simp] theorem modEvt_port (s : State) (f : EvtState → EvtState) : (s.modEvt f).port = s.port := rfl
@[simp] theorem modEvt_drop (s : State) (f : EvtState → EvtState) : (s.modEvt f).drop = s.drop := rfl
@[simp] theorem modEvt_cirq (s : State) (f : EvtState → EvtState) : (s.modEvt f).cirq = s.cirq := rfl
@[simp] theorem modEvt_servo (s : State) (f : EvtState → EvtState) : (s.modEvt f).servo = s.servo := rfl
@[simp] theorem modEvt_cal (s : State) (f : EvtState → EvtState) : (s.modEvt f).cal = s.cal := rfl
@[simp] theorem modEvt_profiles (s : State) (f : EvtState → EvtState) : (s.modEvt f).profiles = s.profiles := rfl
@[simp] theorem modEvt_chan (s : State) (f : EvtState → EvtState) : (s.modEvt f).chan = s.chan := rfl
@[simp] theorem modEvt_floe (s : State) (f : EvtState → EvtState) : (s.modEvt f).floe = s.floe := rfl
@[simp] theorem modEvt_fw (s : State) (f : EvtState → EvtState) : (s.modEvt f).fw = s.fw := rfl
@[simp] theorem modEvt_ilk (s : State) (f : EvtState → EvtState) : (s.modEvt f).ilk = s.ilk := rfl
@[simp] theorem modEvt_pwr (s : State) (f : EvtState → EvtState) : (s.modEvt f).pwr = s.pwr := rfl
@[simp] theorem modEvt_dbg (s : State) (f : EvtState → EvtState) : (s.modEvt f).dbg = s.dbg := rfl
@[simp] theorem modEvt_memx (s : State) (f : EvtState → EvtState) : (s.modEvt f).memx = s.memx := rfl
@[simp] theorem modEvt_out (s : State) (f : EvtState → EvtState) : (s.modEvt f).out = s.out := rfl
@[simp] theorem modEvt_free (s : State) (f : EvtState → EvtState) : (s.modEvt f).free = s.free := rfl
@[simp] theorem rd_modEvt (s : State) (f : EvtState → EvtState) (r : Reg) (i j : Nat) : (s.modEvt f).rd r i j = s.rd r i j := rfl
@[simp] theorem get_modEvt (s : State) (f : EvtState → EvtState) (g : Fld) (i j : Nat) : (s.modEvt f).get g i j = s.get g i j := rfl
@[simp] theorem modIlk_pending (s : State) (f : IlkX → IlkX) : (s.modIlk f).pending = s.pending := rfl
@[simp] theorem modIlk_regs (s : State) (f : IlkX → IlkX) : (s.modIlk f).regs = s.regs := rfl
@[simp] theorem modIlk_time (s : State) (f : IlkX → IlkX) : (s.modIlk f).time = s.time := rfl
@[simp] theorem modIlk_log (s : State) (f : IlkX → IlkX) : (s.modIlk f).log = s.log := rfl
@[simp] theorem modIlk_evt (s : State) (f : IlkX → IlkX) : (s.modIlk f).evt = s.evt := rfl
@[simp] theorem modIlk_host (s : State) (f : IlkX → IlkX) : (s.modIlk f).host = s.host := rfl
@[simp] theorem modIlk_breath (s : State) (f : IlkX → IlkX) : (s.modIlk f).breath = s.breath := rfl
@[simp] theorem modIlk_mech (s : State) (f : IlkX → IlkX) : (s.modIlk f).mech = s.mech := rfl
@[simp] theorem modIlk_isol (s : State) (f : IlkX → IlkX) : (s.modIlk f).isol = s.isol := rfl
@[simp] theorem modIlk_port (s : State) (f : IlkX → IlkX) : (s.modIlk f).port = s.port := rfl
@[simp] theorem modIlk_drop (s : State) (f : IlkX → IlkX) : (s.modIlk f).drop = s.drop := rfl
@[simp] theorem modIlk_cirq (s : State) (f : IlkX → IlkX) : (s.modIlk f).cirq = s.cirq := rfl
@[simp] theorem modIlk_servo (s : State) (f : IlkX → IlkX) : (s.modIlk f).servo = s.servo := rfl
@[simp] theorem modIlk_cal (s : State) (f : IlkX → IlkX) : (s.modIlk f).cal = s.cal := rfl
@[simp] theorem modIlk_profiles (s : State) (f : IlkX → IlkX) : (s.modIlk f).profiles = s.profiles := rfl
@[simp] theorem modIlk_chan (s : State) (f : IlkX → IlkX) : (s.modIlk f).chan = s.chan := rfl
@[simp] theorem modIlk_floe (s : State) (f : IlkX → IlkX) : (s.modIlk f).floe = s.floe := rfl
@[simp] theorem modIlk_fw (s : State) (f : IlkX → IlkX) : (s.modIlk f).fw = s.fw := rfl
@[simp] theorem modIlk_pwr (s : State) (f : IlkX → IlkX) : (s.modIlk f).pwr = s.pwr := rfl
@[simp] theorem modIlk_dbg (s : State) (f : IlkX → IlkX) : (s.modIlk f).dbg = s.dbg := rfl
@[simp] theorem modIlk_memx (s : State) (f : IlkX → IlkX) : (s.modIlk f).memx = s.memx := rfl
@[simp] theorem modIlk_out (s : State) (f : IlkX → IlkX) : (s.modIlk f).out = s.out := rfl
@[simp] theorem modIlk_free (s : State) (f : IlkX → IlkX) : (s.modIlk f).free = s.free := rfl
@[simp] theorem rd_modIlk (s : State) (f : IlkX → IlkX) (r : Reg) (i j : Nat) : (s.modIlk f).rd r i j = s.rd r i j := rfl
@[simp] theorem get_modIlk (s : State) (f : IlkX → IlkX) (g : Fld) (i j : Nat) : (s.modIlk f).get g i j = s.get g i j := rfl
@[simp] theorem modFloe_pending (s : State) (f : Tab FloeSet → Tab FloeSet) : (s.modFloe f).pending = s.pending := rfl
@[simp] theorem modFloe_regs (s : State) (f : Tab FloeSet → Tab FloeSet) : (s.modFloe f).regs = s.regs := rfl
@[simp] theorem modFloe_time (s : State) (f : Tab FloeSet → Tab FloeSet) : (s.modFloe f).time = s.time := rfl
@[simp] theorem modFloe_log (s : State) (f : Tab FloeSet → Tab FloeSet) : (s.modFloe f).log = s.log := rfl
@[simp] theorem modFloe_evt (s : State) (f : Tab FloeSet → Tab FloeSet) : (s.modFloe f).evt = s.evt := rfl
@[simp] theorem modFloe_host (s : State) (f : Tab FloeSet → Tab FloeSet) : (s.modFloe f).host = s.host := rfl
@[simp] theorem modFloe_breath (s : State) (f : Tab FloeSet → Tab FloeSet) : (s.modFloe f).breath = s.breath := rfl
@[simp] theorem modFloe_mech (s : State) (f : Tab FloeSet → Tab FloeSet) : (s.modFloe f).mech = s.mech := rfl
@[simp] theorem modFloe_isol (s : State) (f : Tab FloeSet → Tab FloeSet) : (s.modFloe f).isol = s.isol := rfl
@[simp] theorem modFloe_port (s : State) (f : Tab FloeSet → Tab FloeSet) : (s.modFloe f).port = s.port := rfl
@[simp] theorem modFloe_drop (s : State) (f : Tab FloeSet → Tab FloeSet) : (s.modFloe f).drop = s.drop := rfl
@[simp] theorem modFloe_cirq (s : State) (f : Tab FloeSet → Tab FloeSet) : (s.modFloe f).cirq = s.cirq := rfl
@[simp] theorem modFloe_servo (s : State) (f : Tab FloeSet → Tab FloeSet) : (s.modFloe f).servo = s.servo := rfl
@[simp] theorem modFloe_cal (s : State) (f : Tab FloeSet → Tab FloeSet) : (s.modFloe f).cal = s.cal := rfl
@[simp] theorem modFloe_profiles (s : State) (f : Tab FloeSet → Tab FloeSet) : (s.modFloe f).profiles = s.profiles := rfl
@[simp] theorem modFloe_chan (s : State) (f : Tab FloeSet → Tab FloeSet) : (s.modFloe f).chan = s.chan := rfl
@[simp] theorem modFloe_fw (s : State) (f : Tab FloeSet → Tab FloeSet) : (s.modFloe f).fw = s.fw := rfl
@[simp] theorem modFloe_ilk (s : State) (f : Tab FloeSet → Tab FloeSet) : (s.modFloe f).ilk = s.ilk := rfl
@[simp] theorem modFloe_pwr (s : State) (f : Tab FloeSet → Tab FloeSet) : (s.modFloe f).pwr = s.pwr := rfl
@[simp] theorem modFloe_dbg (s : State) (f : Tab FloeSet → Tab FloeSet) : (s.modFloe f).dbg = s.dbg := rfl
@[simp] theorem modFloe_memx (s : State) (f : Tab FloeSet → Tab FloeSet) : (s.modFloe f).memx = s.memx := rfl
@[simp] theorem modFloe_out (s : State) (f : Tab FloeSet → Tab FloeSet) : (s.modFloe f).out = s.out := rfl
@[simp] theorem modFloe_free (s : State) (f : Tab FloeSet → Tab FloeSet) : (s.modFloe f).free = s.free := rfl
@[simp] theorem rd_modFloe (s : State) (f : Tab FloeSet → Tab FloeSet) (r : Reg) (i j : Nat) : (s.modFloe f).rd r i j = s.rd r i j := rfl
@[simp] theorem get_modFloe (s : State) (f : Tab FloeSet → Tab FloeSet) (g : Fld) (i j : Nat) : (s.modFloe f).get g i j = s.get g i j := rfl
@[simp] theorem modCals_pending (s : State) (f : Tab CalRec → Tab CalRec) : (s.modCals f).pending = s.pending := rfl
@[simp] theorem modCals_regs (s : State) (f : Tab CalRec → Tab CalRec) : (s.modCals f).regs = s.regs := rfl
@[simp] theorem modCals_time (s : State) (f : Tab CalRec → Tab CalRec) : (s.modCals f).time = s.time := rfl
@[simp] theorem modCals_log (s : State) (f : Tab CalRec → Tab CalRec) : (s.modCals f).log = s.log := rfl
@[simp] theorem modCals_evt (s : State) (f : Tab CalRec → Tab CalRec) : (s.modCals f).evt = s.evt := rfl
@[simp] theorem modCals_host (s : State) (f : Tab CalRec → Tab CalRec) : (s.modCals f).host = s.host := rfl
@[simp] theorem modCals_breath (s : State) (f : Tab CalRec → Tab CalRec) : (s.modCals f).breath = s.breath := rfl
@[simp] theorem modCals_mech (s : State) (f : Tab CalRec → Tab CalRec) : (s.modCals f).mech = s.mech := rfl
@[simp] theorem modCals_isol (s : State) (f : Tab CalRec → Tab CalRec) : (s.modCals f).isol = s.isol := rfl
@[simp] theorem modCals_port (s : State) (f : Tab CalRec → Tab CalRec) : (s.modCals f).port = s.port := rfl
@[simp] theorem modCals_drop (s : State) (f : Tab CalRec → Tab CalRec) : (s.modCals f).drop = s.drop := rfl
@[simp] theorem modCals_cirq (s : State) (f : Tab CalRec → Tab CalRec) : (s.modCals f).cirq = s.cirq := rfl
@[simp] theorem modCals_servo (s : State) (f : Tab CalRec → Tab CalRec) : (s.modCals f).servo = s.servo := rfl
@[simp] theorem modCals_profiles (s : State) (f : Tab CalRec → Tab CalRec) : (s.modCals f).profiles = s.profiles := rfl
@[simp] theorem modCals_chan (s : State) (f : Tab CalRec → Tab CalRec) : (s.modCals f).chan = s.chan := rfl
@[simp] theorem modCals_floe (s : State) (f : Tab CalRec → Tab CalRec) : (s.modCals f).floe = s.floe := rfl
@[simp] theorem modCals_fw (s : State) (f : Tab CalRec → Tab CalRec) : (s.modCals f).fw = s.fw := rfl
@[simp] theorem modCals_ilk (s : State) (f : Tab CalRec → Tab CalRec) : (s.modCals f).ilk = s.ilk := rfl
@[simp] theorem modCals_pwr (s : State) (f : Tab CalRec → Tab CalRec) : (s.modCals f).pwr = s.pwr := rfl
@[simp] theorem modCals_dbg (s : State) (f : Tab CalRec → Tab CalRec) : (s.modCals f).dbg = s.dbg := rfl
@[simp] theorem modCals_memx (s : State) (f : Tab CalRec → Tab CalRec) : (s.modCals f).memx = s.memx := rfl
@[simp] theorem modCals_out (s : State) (f : Tab CalRec → Tab CalRec) : (s.modCals f).out = s.out := rfl
@[simp] theorem modCals_free (s : State) (f : Tab CalRec → Tab CalRec) : (s.modCals f).free = s.free := rfl
@[simp] theorem rd_modCals (s : State) (f : Tab CalRec → Tab CalRec) (r : Reg) (i j : Nat) : (s.modCals f).rd r i j = s.rd r i j := rfl
@[simp] theorem get_modCals (s : State) (f : Tab CalRec → Tab CalRec) (g : Fld) (i j : Nat) : (s.modCals f).get g i j = s.get g i j := rfl
@[simp] theorem modProfiles_pending (s : State) (f : Tab ProfRec → Tab ProfRec) : (s.modProfiles f).pending = s.pending := rfl
@[simp] theorem modProfiles_regs (s : State) (f : Tab ProfRec → Tab ProfRec) : (s.modProfiles f).regs = s.regs := rfl
@[simp] theorem modProfiles_time (s : State) (f : Tab ProfRec → Tab ProfRec) : (s.modProfiles f).time = s.time := rfl
@[simp] theorem modProfiles_log (s : State) (f : Tab ProfRec → Tab ProfRec) : (s.modProfiles f).log = s.log := rfl
@[simp] theorem modProfiles_evt (s : State) (f : Tab ProfRec → Tab ProfRec) : (s.modProfiles f).evt = s.evt := rfl
@[simp] theorem modProfiles_host (s : State) (f : Tab ProfRec → Tab ProfRec) : (s.modProfiles f).host = s.host := rfl
@[simp] theorem modProfiles_breath (s : State) (f : Tab ProfRec → Tab ProfRec) : (s.modProfiles f).breath = s.breath := rfl
@[simp] theorem modProfiles_mech (s : State) (f : Tab ProfRec → Tab ProfRec) : (s.modProfiles f).mech = s.mech := rfl
@[simp] theorem modProfiles_isol (s : State) (f : Tab ProfRec → Tab ProfRec) : (s.modProfiles f).isol = s.isol := rfl
@[simp] theorem modProfiles_port (s : State) (f : Tab ProfRec → Tab ProfRec) : (s.modProfiles f).port = s.port := rfl
@[simp] theorem modProfiles_drop (s : State) (f : Tab ProfRec → Tab ProfRec) : (s.modProfiles f).drop = s.drop := rfl
@[simp] theorem modProfiles_cirq (s : State) (f : Tab ProfRec → Tab ProfRec) : (s.modProfiles f).cirq = s.cirq := rfl
@[simp] theorem modProfiles_servo (s : State) (f : Tab ProfRec → Tab ProfRec) : (s.modProfiles f).servo = s.servo := rfl
@[simp] theorem modProfiles_cal (s : State) (f : Tab ProfRec → Tab ProfRec) : (s.modProfiles f).cal = s.cal := rfl
@[simp] theorem modProfiles_chan (s : State) (f : Tab ProfRec → Tab ProfRec) : (s.modProfiles f).chan = s.chan := rfl
@[simp] theorem modProfiles_floe (s : State) (f : Tab ProfRec → Tab ProfRec) : (s.modProfiles f).floe = s.floe := rfl
@[simp] theorem modProfiles_fw (s : State) (f : Tab ProfRec → Tab ProfRec) : (s.modProfiles f).fw = s.fw := rfl
@[simp] theorem modProfiles_ilk (s : State) (f : Tab ProfRec → Tab ProfRec) : (s.modProfiles f).ilk = s.ilk := rfl
@[simp] theorem modProfiles_pwr (s : State) (f : Tab ProfRec → Tab ProfRec) : (s.modProfiles f).pwr = s.pwr := rfl
@[simp] theorem modProfiles_dbg (s : State) (f : Tab ProfRec → Tab ProfRec) : (s.modProfiles f).dbg = s.dbg := rfl
@[simp] theorem modProfiles_memx (s : State) (f : Tab ProfRec → Tab ProfRec) : (s.modProfiles f).memx = s.memx := rfl
@[simp] theorem modProfiles_out (s : State) (f : Tab ProfRec → Tab ProfRec) : (s.modProfiles f).out = s.out := rfl
@[simp] theorem modProfiles_free (s : State) (f : Tab ProfRec → Tab ProfRec) : (s.modProfiles f).free = s.free := rfl
@[simp] theorem rd_modProfiles (s : State) (f : Tab ProfRec → Tab ProfRec) (r : Reg) (i j : Nat) : (s.modProfiles f).rd r i j = s.rd r i j := rfl
@[simp] theorem get_modProfiles (s : State) (f : Tab ProfRec → Tab ProfRec) (g : Fld) (i j : Nat) : (s.modProfiles f).get g i j = s.get g i j := rfl
@[simp] theorem emit_pending (s : State) (o : Output) : (s.emit o).pending = s.pending := rfl
@[simp] theorem emit_regs (s : State) (o : Output) : (s.emit o).regs = s.regs := rfl
@[simp] theorem emit_time (s : State) (o : Output) : (s.emit o).time = s.time := rfl
@[simp] theorem emit_log (s : State) (o : Output) : (s.emit o).log = s.log := rfl
@[simp] theorem emit_evt (s : State) (o : Output) : (s.emit o).evt = s.evt := rfl
@[simp] theorem emit_host (s : State) (o : Output) : (s.emit o).host = s.host := rfl
@[simp] theorem emit_breath (s : State) (o : Output) : (s.emit o).breath = s.breath := rfl
@[simp] theorem emit_mech (s : State) (o : Output) : (s.emit o).mech = s.mech := rfl
@[simp] theorem emit_isol (s : State) (o : Output) : (s.emit o).isol = s.isol := rfl
@[simp] theorem emit_port (s : State) (o : Output) : (s.emit o).port = s.port := rfl
@[simp] theorem emit_drop (s : State) (o : Output) : (s.emit o).drop = s.drop := rfl
@[simp] theorem emit_cirq (s : State) (o : Output) : (s.emit o).cirq = s.cirq := rfl
@[simp] theorem emit_servo (s : State) (o : Output) : (s.emit o).servo = s.servo := rfl
@[simp] theorem emit_cal (s : State) (o : Output) : (s.emit o).cal = s.cal := rfl
@[simp] theorem emit_profiles (s : State) (o : Output) : (s.emit o).profiles = s.profiles := rfl
@[simp] theorem emit_chan (s : State) (o : Output) : (s.emit o).chan = s.chan := rfl
@[simp] theorem emit_floe (s : State) (o : Output) : (s.emit o).floe = s.floe := rfl
@[simp] theorem emit_fw (s : State) (o : Output) : (s.emit o).fw = s.fw := rfl
@[simp] theorem emit_ilk (s : State) (o : Output) : (s.emit o).ilk = s.ilk := rfl
@[simp] theorem emit_pwr (s : State) (o : Output) : (s.emit o).pwr = s.pwr := rfl
@[simp] theorem emit_dbg (s : State) (o : Output) : (s.emit o).dbg = s.dbg := rfl
@[simp] theorem emit_memx (s : State) (o : Output) : (s.emit o).memx = s.memx := rfl
@[simp] theorem emit_free (s : State) (o : Output) : (s.emit o).free = s.free := rfl
@[simp] theorem rd_emit (s : State) (o : Output) (r : Reg) (i j : Nat) : (s.emit o).rd r i j = s.rd r i j := rfl
@[simp] theorem get_emit (s : State) (o : Output) (g : Fld) (i j : Nat) : (s.emit o).get g i j = s.get g i j := rfl

/-! ### Registers of a state with another record -/

@[simp] theorem rd_with_pending (s : State) (v : List Instr) (r : Reg) (i j : Nat) : State.rd { s with pending := v } r i j = s.rd r i j := rfl
@[simp] theorem get_with_pending (s : State) (v : List Instr) (g : Fld) (i j : Nat) : State.get { s with pending := v } g i j = s.get g i j := rfl
@[simp] theorem rd_with_time (s : State) (v : TimeState) (r : Reg) (i j : Nat) : State.rd { s with time := v } r i j = s.rd r i j := rfl
@[simp] theorem get_with_time (s : State) (v : TimeState) (g : Fld) (i j : Nat) : State.get { s with time := v } g i j = s.get g i j := rfl
@[simp] theorem rd_with_log (s : State) (v : LogState) (r : Reg) (i j : Nat) : State.rd { s with log := v } r i j = s.rd r i j := rfl
@[simp] theorem get_with_log (s : State) (v : LogState) (g : Fld) (i j : Nat) : State.get { s with log := v } g i j = s.get g i j := rfl
@[simp] theorem rd_with_evt (s : State) (v : EvtState) (r : Reg) (i j : Nat) : State.rd { s with evt := v } r i j = s.rd r i j := rfl
@[simp] theorem get_with_evt (s : State) (v : EvtState) (g : Fld) (i j : Nat) : State.get { s with evt := v } g i j = s.get g i j := rfl
@[simp] theorem rd_with_host (s : State) (v : HostState) (r : Reg) (i j : Nat) : State.rd { s with host := v } r i j = s.rd r i j := rfl
@[simp] theorem get_with_host (s : State) (v : HostState) (g : Fld) (i j : Nat) : State.get { s with host := v } g i j = s.get g i j := rfl
@[simp] theorem rd_with_breath (s : State) (v : BreathState) (r : Reg) (i j : Nat) : State.rd { s with breath := v } r i j = s.rd r i j := rfl
@[simp] theorem get_with_breath (s : State) (v : BreathState) (g : Fld) (i j : Nat) : State.get { s with breath := v } g i j = s.get g i j := rfl
@[simp] theorem rd_with_mech (s : State) (v : Tab MechX) (r : Reg) (i j : Nat) : State.rd { s with mech := v } r i j = s.rd r i j := rfl
@[simp] theorem get_with_mech (s : State) (v : Tab MechX) (g : Fld) (i j : Nat) : State.get { s with mech := v } g i j = s.get g i j := rfl
@[simp] theorem rd_with_isol (s : State) (v : Tab (Option Nat)) (r : Reg) (i j : Nat) : State.rd { s with isol := v } r i j = s.rd r i j := rfl
@[simp] theorem get_with_isol (s : State) (v : Tab (Option Nat)) (g : Fld) (i j : Nat) : State.get { s with isol := v } g i j = s.get g i j := rfl
@[simp] theorem rd_with_port (s : State) (v : Tab PortX) (r : Reg) (i j : Nat) : State.rd { s with port := v } r i j = s.rd r i j := rfl
@[simp] theorem get_with_port (s : State) (v : Tab PortX) (g : Fld) (i j : Nat) : State.get { s with port := v } g i j = s.get g i j := rfl
@[simp] theorem rd_with_drop (s : State) (v : Tab DropX) (r : Reg) (i j : Nat) : State.rd { s with drop := v } r i j = s.rd r i j := rfl
@[simp] theorem get_with_drop (s : State) (v : Tab DropX) (g : Fld) (i j : Nat) : State.get { s with drop := v } g i j = s.get g i j := rfl
@[simp] theorem rd_with_cirq (s : State) (v : CirqState) (r : Reg) (i j : Nat) : State.rd { s with cirq := v } r i j = s.rd r i j := rfl
@[simp] theorem get_with_cirq (s : State) (v : CirqState) (g : Fld) (i j : Nat) : State.get { s with cirq := v } g i j = s.get g i j := rfl
@[simp] theorem rd_with_servo (s : State) (v : Tab ServoX) (r : Reg) (i j : Nat) : State.rd { s with servo := v } r i j = s.rd r i j := rfl
@[simp] theorem get_with_servo (s : State) (v : Tab ServoX) (g : Fld) (i j : Nat) : State.get { s with servo := v } g i j = s.get g i j := rfl
@[simp] theorem rd_with_cal (s : State) (v : Tab CalRec) (r : Reg) (i j : Nat) : State.rd { s with cal := v } r i j = s.rd r i j := rfl
@[simp] theorem get_with_cal (s : State) (v : Tab CalRec) (g : Fld) (i j : Nat) : State.get { s with cal := v } g i j = s.get g i j := rfl
@[simp] theorem rd_with_profiles (s : State) (v : Tab ProfRec) (r : Reg) (i j : Nat) : State.rd { s with profiles := v } r i j = s.rd r i j := rfl
@[simp] theorem get_with_profiles (s : State) (v : Tab ProfRec) (g : Fld) (i j : Nat) : State.get { s with profiles := v } g i j = s.get g i j := rfl
@[simp] theorem rd_with_chan (s : State) (v : ChannelState) (r : Reg) (i j : Nat) : State.rd { s with chan := v } r i j = s.rd r i j := rfl
@[simp] theorem get_with_chan (s : State) (v : ChannelState) (g : Fld) (i j : Nat) : State.get { s with chan := v } g i j = s.get g i j := rfl
@[simp] theorem rd_with_floe (s : State) (v : Tab FloeSet) (r : Reg) (i j : Nat) : State.rd { s with floe := v } r i j = s.rd r i j := rfl
@[simp] theorem get_with_floe (s : State) (v : Tab FloeSet) (g : Fld) (i j : Nat) : State.get { s with floe := v } g i j = s.get g i j := rfl
@[simp] theorem rd_with_fw (s : State) (v : FwState) (r : Reg) (i j : Nat) : State.rd { s with fw := v } r i j = s.rd r i j := rfl
@[simp] theorem get_with_fw (s : State) (v : FwState) (g : Fld) (i j : Nat) : State.get { s with fw := v } g i j = s.get g i j := rfl
@[simp] theorem rd_with_ilk (s : State) (v : IlkX) (r : Reg) (i j : Nat) : State.rd { s with ilk := v } r i j = s.rd r i j := rfl
@[simp] theorem get_with_ilk (s : State) (v : IlkX) (g : Fld) (i j : Nat) : State.get { s with ilk := v } g i j = s.get g i j := rfl
@[simp] theorem rd_with_pwr (s : State) (v : PowerX) (r : Reg) (i j : Nat) : State.rd { s with pwr := v } r i j = s.rd r i j := rfl
@[simp] theorem get_with_pwr (s : State) (v : PowerX) (g : Fld) (i j : Nat) : State.get { s with pwr := v } g i j = s.get g i j := rfl
@[simp] theorem rd_with_dbg (s : State) (v : DbgX) (r : Reg) (i j : Nat) : State.rd { s with dbg := v } r i j = s.rd r i j := rfl
@[simp] theorem get_with_dbg (s : State) (v : DbgX) (g : Fld) (i j : Nat) : State.get { s with dbg := v } g i j = s.get g i j := rfl
@[simp] theorem rd_with_memx (s : State) (v : MemX) (r : Reg) (i j : Nat) : State.rd { s with memx := v } r i j = s.rd r i j := rfl
@[simp] theorem get_with_memx (s : State) (v : MemX) (g : Fld) (i j : Nat) : State.get { s with memx := v } g i j = s.get g i j := rfl
@[simp] theorem rd_with_out (s : State) (v : List Output) (r : Reg) (i j : Nat) : State.rd { s with out := v } r i j = s.rd r i j := rfl
@[simp] theorem get_with_out (s : State) (v : List Output) (g : Fld) (i j : Nat) : State.get { s with out := v } g i j = s.get g i j := rfl
@[simp] theorem rd_with_free (s : State) (v : Nat) (r : Reg) (i j : Nat) : State.rd { s with free := v } r i j = s.rd r i j := rfl
@[simp] theorem get_with_free (s : State) (v : Nat) (g : Fld) (i j : Nat) : State.get { s with free := v } g i j = s.get g i j := rfl
@[simp] theorem takeFree_regs (s : State) : s.takeFree.2.regs = s.regs := rfl
@[simp] theorem rd_takeFree (s : State) (r : Reg) (i j : Nat) : s.takeFree.2.rd r i j = s.rd r i j := rfl
@[simp] theorem get_takeFree (s : State) (g : Fld) (i j : Nat) : s.takeFree.2.get g i j = s.get g i j := rfl

end Sys2Proof.Laws
end

