-- ==== Sys2Proof/Laws/Get.lean ====
section
/-! SUPPORT. Reading a field after the register operations, by where the field stands: the field written, another field of its register, another
register. Side conditions close by `decide` or `rfl` on concrete fields. -/

namespace Sys2Proof.Laws

open Sys2Proof.Machine

/-- The registers of two fields do not meet. -/
def sep (f g : Fld) : Bool := apart f.reg g.reg || comb f.reg g.reg

theorem rd_wr_sep (s : State) (q r : Reg) (i j i' j' : Nat) (v : Word) (h : (apart q r || comb q r) = true) :
    (s.wr q i j v).rd r i' j' = s.rd r i' j' := rd_wr_quiet s q r i j i' j' v h

theorem get_wr_sep (s : State) (q : Reg) (g : Fld) (i j i' j' : Nat) (v : Word) (h : (apart q g.reg || comb q g.reg) = true) :
    (s.wr q i j v).get g i' j' = s.get g i' j' := by
  unfold State.get; rw [rd_wr_quiet _ _ _ _ _ _ _ _ h]

section sepLemmas
variable {f g : Fld} (h : sep f g = true)
include h

theorem get_set2_sep (s : State) (i j v i' j' : Nat) : (s.set2 f i j v).get g i' j' = s.get g i' j' := get_wr_sep _ _ _ _ _ _ _ _ h
theorem get_set_sep (s : State) (i v i' j' : Nat) : (s.set f i v).get g i' j' = s.get g i' j' := get_set2_sep h _ _ _ _ _ _
theorem get_set0_sep (s : State) (v i' j' : Nat) : (s.set0 f v).get g i' j' = s.get g i' j' := get_set2_sep h _ _ _ _ _ _
theorem get_raise_sep (s : State) (i i' j' : Nat) : (s.raise f i).get g i' j' = s.get g i' j' := get_set2_sep h _ _ _ _ _ _
theorem get_bumpBy_sep (s : State) (i n i' j' : Nat) : (s.bumpBy f i n).get g i' j' = s.get g i' j' := get_set2_sep h _ _ _ _ _ _
theorem get_bump_sep (s : State) (i i' j' : Nat) : (s.bump f i).get g i' j' = s.get g i' j' := get_set2_sep h _ _ _ _ _ _
theorem get_bumpWrap_sep (s : State) (i i' j' : Nat) : (s.bumpWrap f i).get g i' j' = s.get g i' j' := get_set2_sep h _ _ _ _ _ _
theorem get_setIf_sep (s : State) (c : Bool) (i v i' j' : Nat) : (s.setIf c f i v).get g i' j' = s.get g i' j' := by
  unfold State.setIf
  split
  · exact get_set_sep h _ _ _ _ _
  · rfl

end sepLemmas

/-- Two fields of one register that share no bit. -/
def beside (f g : Fld) : Bool := decide (f.lo + f.width ≤ 32) && (decide (f.lo + f.width ≤ g.lo) || decide (g.lo + g.width ≤ f.lo))

section besideLemmas
variable {f g : Fld} (hr : g.reg = f.reg) (h : beside f g = true)
include hr h

theorem get_set2_beside (s : State) (i j v : Nat) : (s.set2 f i j v).get g i j = s.get g i j := by
  simp only [beside, Bool.and_eq_true, Bool.or_eq_true, decide_eq_true_eq] at h
  exact get_set_field s f g i j v hr (by simpa [Fld.fits] using h.1) h.2

theorem get_set_beside (s : State) (i v : Nat) : (s.set f i v).get g i = s.get g i := get_set2_beside hr h _ _ _ _
theorem get_set0_beside (s : State) (v : Nat) : (s.set0 f v).get g = s.get g := get_set2_beside hr h _ _ _ _
theorem get_raise_beside (s : State) (i : Nat) : (s.raise f i).get g i = s.get g i := get_set2_beside hr h _ _ _ _
theorem get_bumpBy_beside (s : State) (i n : Nat) : (s.bumpBy f i n).get g i = s.get g i := get_set2_beside hr h _ _ _ _
theorem get_bump_beside (s : State) (i : Nat) : (s.bump f i).get g i = s.get g i := get_set2_beside hr h _ _ _ _

end besideLemmas

section sameLemmas
variable {f : Fld} (hf : Fld.fits f = true)
include hf

theorem get_set_self (s : State) (i v : Nat) (hi : f.reg.has i 0 = true) : (s.set f i v).get f i = v % 2 ^ f.width := get_set_same s f i 0 v hi hf
theorem get_set0_self (s : State) (v : Nat) (hi : f.reg.has 0 0 = true) : (s.set0 f v).get f = v % 2 ^ f.width := get_set_same s f 0 0 v hi hf
theorem get_raise_self (s : State) (i : Nat) (hi : f.reg.has i 0 = true) (hw : 0 < f.width) : (s.raise f i).get f i = 1 := by
  rw [State.raise, get_set_self hf _ _ _ hi]
  exact Nat.mod_eq_of_lt (Nat.one_lt_two_pow (by omega))
theorem get_bumpBy_self (s : State) (i n : Nat) (hi : f.reg.has i 0 = true) : (s.bumpBy f i n).get f i = min (s.get f i + n) (2 ^ f.width - 1) := by
  rw [State.bumpBy, get_set_self hf _ _ _ hi]
  have := Nat.two_pow_pos f.width
  exact Nat.mod_eq_of_lt (by omega)
theorem get_bump_self (s : State) (i : Nat) (hi : f.reg.has i 0 = true) : (s.bump f i).get f i = min (s.get f i + 1) (2 ^ f.width - 1) :=
  get_bumpBy_self hf s i 1 hi

end sameLemmas

theorem get_lt (s : State) (f : Fld) (i j : Nat) : s.get f i j < 2 ^ f.width := Nat.mod_lt _ (Nat.two_pow_pos _)

end Sys2Proof.Laws
end

