-- ==== Sys2Proof/Laws/KeptBase.lean ====
section
/-! SUPPORT. What almost no command touches: the queue, the identity registers, the interlock's permits and channel states, the OTP option slots and
whether the power domains are held for HIBERNATE.
`kept` gathers them, and the Kept files say of each operation that it leaves them as they are. -/

namespace Sys2Proof.Laws

open Sys2Proof.Machine

/-- The queue, the identity registers, SAFE_ZONE, SAFE_STAT, the interlock record and the OTP slots, from the parts of a state that hold them. -/
def keptOf (p : List Instr) (r : Tab Word) (k : IlkX) (o : Tab (List Nat) × Bool) :
    List Instr × (Word × Word × Word × Word) × Word × Word × IlkX × Tab (List Nat) × Bool :=
  (p, (tabGet r 0 0x7D3E8100, tabGet r 4 0, tabGet r 8 0, tabGet r 12 0), tabGet r 0x3E0008 0, tabGet r 0x3E0004 0, k, o)

def kept (s : State) : List Instr × (Word × Word × Word × Word) × Word × Word × IlkX × Tab (List Nat) × Bool :=
  keptOf s.pending s.regs s.ilk (s.pwr.otp, s.pwr.keep)

@[simp] theorem keptOf_self (s : State) : keptOf s.pending s.regs s.ilk (s.pwr.otp, s.pwr.keep) = kept s := rfl

@[simp] theorem kept_mk (p r a b c d e f g h i j k l m n o q u v w x y z) :
    kept (State.mk p r a b c d e f g h i j k l m n o q u v w x y z) = keptOf p r u (v.otp, v.keep) := rfl

@[simp] theorem kept_ite (c : Prop) [Decidable c] (a b : State) : kept (if c then a else b) = if c then kept a else kept b := by
  split <;> rfl

/-- No register of the array is an identity register, SAFE_ZONE or SAFE_STAT. -/
def calm (r : Reg) : Bool := decide (0x10 ≤ r.base) && (decide (regEnd r ≤ 0x3E0004) || decide (0x3E000C ≤ r.base))

@[simp] theorem kept_wr (s : State) (r : Reg) (i j : Nat) (v : Word) (h : calm r = true) : kept (s.wr r i j v) = kept s := by
  unfold State.wr
  split
  · rename_i hi
    have a := addr_range hi
    simp only [calm, Bool.and_eq_true, Bool.or_eq_true, decide_eq_true_eq] at h
    simp only [kept, keptOf]
    rw [tabGet_tabPut_ne (k' := 0) _ (by omega), tabGet_tabPut_ne (k' := 4) _ (by omega), tabGet_tabPut_ne (k' := 8) _ (by omega),
      tabGet_tabPut_ne (k' := 12) _ (by omega), tabGet_tabPut_ne (k' := 0x3E0008) _ (by omega), tabGet_tabPut_ne (k' := 0x3E0004) _ (by omega)]
  · rfl

@[simp] theorem kept_set2 (s : State) (f : Fld) (i j v : Nat) (h : calm f.reg = true) : kept (s.set2 f i j v) = kept s := kept_wr _ _ _ _ _ h
@[simp] theorem kept_set (s : State) (f : Fld) (i v : Nat) (h : calm f.reg = true) : kept (s.set f i v) = kept s := kept_wr _ _ _ _ _ h
@[simp] theorem kept_set0 (s : State) (f : Fld) (v : Nat) (h : calm f.reg = true) : kept (s.set0 f v) = kept s := kept_wr _ _ _ _ _ h

@[simp] theorem kept_setIf (s : State) (c : Bool) (f : Fld) (i v : Nat) (h : calm f.reg = true) : kept (s.setIf c f i v) = kept s := by
  unfold State.setIf
  split <;> simp [h]

@[simp] theorem kept_raise (s : State) (f : Fld) (i : Nat) (h : calm f.reg = true) : kept (s.raise f i) = kept s := kept_wr _ _ _ _ _ h
@[simp] theorem kept_bumpBy (s : State) (f : Fld) (i n : Nat) (h : calm f.reg = true) : kept (s.bumpBy f i n) = kept s := kept_wr _ _ _ _ _ h
@[simp] theorem kept_bump (s : State) (f : Fld) (i : Nat) (h : calm f.reg = true) : kept (s.bump f i) = kept s := kept_wr _ _ _ _ _ h
@[simp] theorem kept_bumpWrap (s : State) (f : Fld) (i : Nat) (h : calm f.reg = true) : kept (s.bumpWrap f i) = kept s := kept_wr _ _ _ _ _ h

@[simp] theorem kept_set64 (s : State) (lo hi : Fld) (i v : Nat) (h : calm lo.reg = true) (h' : calm hi.reg = true) :
    kept (s.set64 lo hi i v) = kept s := by
  unfold State.set64
  rw [kept_set _ _ _ _ h', kept_set _ _ _ _ h]

@[simp] theorem kept_forEach {α : Type} (s : State) (l : List α) (f : State → α → State) (h : ∀ t a, kept (f t a) = kept t) :
    kept (s.forEach l f) = kept s := by
  unfold State.forEach
  induction l generalizing s with
  | nil => rfl
  | cons a r ih => rw [List.foldl_cons, ih, h]

theorem kept_forEach_mem {α : Type} (s : State) (l : List α) (f : State → α → State) (h : ∀ a ∈ l, ∀ t, kept (f t a) = kept t) :
    kept (s.forEach l f) = kept s := by
  unfold State.forEach
  induction l generalizing s with
  | nil => rfl
  | cons a r ih => rw [List.foldl_cons, ih _ fun b hb => h b (List.mem_cons_of_mem a hb), h a List.mem_cons_self]

theorem kept_fst {α : Type} {p : State × α} {t s : State} {a : α} (h : p = (t, a)) (k : kept p.1 = kept s) : kept t = kept s := by
  rw [h] at k; exact k

theorem kept_withFw (s : State) (f : FwState) : kept { s with fw := f } = kept s := rfl

@[simp] theorem kept_takeFree (s : State) : kept s.takeFree.2 = kept s := rfl

@[simp] theorem keptOf_takeFree (s : State) :
    keptOf s.takeFree.2.pending s.regs s.takeFree.2.ilk (s.takeFree.2.pwr.otp, s.takeFree.2.pwr.keep) = kept s := rfl

@[simp] theorem kept_setFree (s : State) (f : Fld) (i : Nat) (h : calm f.reg = true) : kept (s.setFree f i) = kept s := by
  unfold State.setFree
  rw [kept_set _ _ _ _ h, kept_takeFree]

@[simp] theorem kept_foldl {α : Type} (s : State) (l : List α) (f : State → α → State) (h : ∀ t a, kept (f t a) = kept t) :
    kept (l.foldl f s) = kept s := kept_forEach s l f h

/-- Every next state of the outcome keeps what `kept` gathers. -/
def keptOut (o : Out) (s : State) : Prop := ∀ t, o = .next t → kept t = kept s

@[simp] theorem keptOut_next (t s : State) : keptOut (.next t) s ↔ kept t = kept s :=
  ⟨fun h => h t rfl, fun h u hu => by cases hu; exact h⟩

@[simp] theorem keptOut_fault (r : Fault) (s : State) : keptOut (.fault r) s := fun _ h => by cases h

@[simp] theorem keptOut_ite (c : Prop) [Decidable c] (a b : Out) (s : State) : keptOut (if c then a else b) s ↔ if c then keptOut a s else keptOut b s := by
  split <;> rfl

end Sys2Proof.Laws
end

