-- ==== Sys2Proof/Laws/KeptOps.lean ====
section
/-! SUPPORT. The operations of Machine/Ops.lean leave alone what `kept` gathers. -/

namespace Sys2Proof.Laws

open Sys2Proof.Machine

@[simp] theorem kept_emit (s : State) (o : Output) : kept (State.emit s o) = kept s := by
  simp +decide [State.emit]

@[simp] theorem kept_tick (s : State) : kept (State.tick s) = kept s := by
  simp +decide [State.tick]

@[simp] theorem kept_applyDelays (s : State) (ch : Nat) : kept (State.applyDelays s ch) = kept s := by
  simp +decide [State.applyDelays]

@[simp] theorem kept_dramTouch (s0 : State) : kept (State.dramTouch s0) = kept s0 := by
  simp +decide [State.dramTouch]

@[simp] theorem kept_logEntry (s : State) (a : LogArgs) : kept (State.logEntry s a) = kept s := by
  simp +decide [State.logEntry]

@[simp] theorem kept_modMech (s : State) (n : Nat) (f : MechX → MechX) : kept (State.modMech s n f) = kept s := by
  simp +decide [State.modMech]

@[simp] theorem kept_loadProgram (s : State) (f : Fld) (i : Nat) (v : FwImage → Nat) (h : calm f.reg = true) : kept (s.loadProgram f i v) = kept s := by
  unfold State.loadProgram
  split <;> simp [h]

@[simp] theorem kept_modEvt (s : State) (f : EvtState → EvtState) : kept (State.modEvt s f) = kept s := by
  simp +decide [State.modEvt]

@[simp] theorem kept_modPwr (s : State) (f : PowerX → PowerX) (h : ∀ p, ((f p).otp, (f p).keep) = (p.otp, p.keep)) : kept (s.modPwr f) = kept s := by
  simp only [State.modPwr, kept, h]

@[simp] theorem kept_modFw (s : State) (f : FwState → FwState) : kept (State.modFw s f) = kept s := by
  simp +decide [State.modFw]

@[simp] theorem kept_modDbg (s : State) (f : DbgX → DbgX) : kept (State.modDbg s f) = kept s := by
  simp +decide [State.modDbg]

@[simp] theorem kept_modBreath (s : State) (f : BreathState → BreathState) : kept (State.modBreath s f) = kept s := by
  simp +decide [State.modBreath]

@[simp] theorem kept_modFloe (s : State) (f : Tab FloeSet → Tab FloeSet) : kept (State.modFloe s f) = kept s := by
  simp +decide [State.modFloe]

@[simp] theorem kept_modCals (s : State) (f : Tab CalRec → Tab CalRec) : kept (State.modCals s f) = kept s := by
  simp +decide [State.modCals]

@[simp] theorem kept_modProfiles (s : State) (f : Tab ProfRec → Tab ProfRec) : kept (State.modProfiles s f) = kept s := by
  simp +decide [State.modProfiles]

@[simp] theorem kept_modPort (s : State) (p : Nat) (f : PortX → PortX) : kept (State.modPort s p f) = kept s := by
  simp +decide [State.modPort]

@[simp] theorem kept_portStep (s : State) (p k : Nat) : kept (State.portStep s p k) = kept s := by
  simp +decide [State.portStep]

@[simp] theorem kept_modHost (s : State) (f : HostState → HostState) : kept (State.modHost s f) = kept s := by
  simp +decide [State.modHost]

@[simp] theorem kept_modFn (s : State) (fn : Nat) (f : FnX → FnX) : kept (State.modFn s fn f) = kept s := by
  simp +decide [State.modFn]

end Sys2Proof.Laws
end

