-- ==== Sys2Proof/Laws/KeptHost.lean ====
section
/-! SUPPORT. The operations of Machine/Host.lean leave alone what `kept` gathers. -/

namespace Sys2Proof.Laws

open Sys2Proof.Machine

@[simp] theorem kept_modQp (s : State) (fn q : Nat) (f : Qp → Qp) : kept (State.modQp s fn q f) = kept s := by
  simp +decide [State.modQp]

@[simp] theorem kept_enterCpl (s : State) (c : Cpl) : kept (State.enterCpl s c) = kept s := by
  simp +decide [State.enterCpl]

@[simp] theorem kept_acceptCpl (s : State) (c : Cpl) : kept (State.acceptCpl s c) = kept s := by
  simp +decide [State.acceptCpl]

@[simp] theorem kept_postCpl (s : State) (c : Cpl) : kept (State.postCpl s c) = kept s := by
  simp +decide [State.postCpl]

@[simp] theorem kept_dropCtx (s : State) (fn tag : Nat) : kept (State.dropCtx s fn tag) = kept s := by
  simp +decide [State.dropCtx]

@[simp] theorem kept_modCtx (s : State) (fn tag : Nat) (f : Ctx → Ctx) : kept (State.modCtx s fn tag f) = kept s := by
  simp +decide [State.modCtx]

@[simp] theorem kept_complete (s : State) (c : Ctx) (status flags r0 r1 : Nat) : kept (State.complete s c status flags r0 r1) = kept s := by
  simp +decide [State.complete]

@[simp] theorem kept_postEvent (s : State) (fn code qpid detail : Nat) : kept (State.postEvent s fn code qpid detail) = kept s := by
  simp +decide [State.postEvent]

@[simp] theorem kept_drainEvents (k : Nat) (s : State) (fn : Nat) : kept (State.drainEvents k s fn) = kept s := by
  induction k generalizing s with
  | zero => rfl
  | succ k ih =>
    unfold State.drainEvents
    (repeat' split) <;> simp [ih]

@[simp] theorem kept_postSteward (s : State) (bits : Nat) : kept (State.postSteward s bits) = kept s := by
  simp +decide [State.postSteward]

@[simp] theorem kept_noteEvents (s : State) : kept (State.noteEvents s) = kept s := by
  simp +decide [State.noteEvents]

@[simp] theorem kept_fin (t s : State) : keptOut (fin t) s ↔ kept t = kept s := by
  unfold fin; rw [keptOut_next, kept_noteEvents]

@[simp] theorem kept_dozeWake (s : State) (src : Nat) : kept (State.dozeWake s src) = kept s := by
  simp only [State.dozeWake]
  (repeat' split) <;> simp +decide

theorem kept_regCmd (s : State) (f : State → Out) (h : ∀ t, keptOut (f t) t) : keptOut (regCmd s f) s := by
  unfold regCmd
  split
  · simp
  · intro t ht
    rw [h _ _ ht, kept_dozeWake]

end Sys2Proof.Laws
end

