-- ==== Sys2Proof/Laws/KeptHostFns.lean ====
section
/-! SUPPORT. The operations of Machine/HostFns.lean leave alone what `kept` gathers. -/

namespace Sys2Proof.Laws

open Sys2Proof.Machine

@[simp] theorem kept_logStandby (s : State) : kept (State.logStandby s) = kept s := by
  simp +decide [State.logStandby]

@[simp] theorem kept_endStandby (s : State) : kept (State.endStandby s) = kept s := by
  simp +decide [State.endStandby]

@[simp] theorem kept_becomeSteward (s : State) (fn token src : Nat) : kept (State.becomeSteward s fn token src) = kept s := by
  simp +decide [State.becomeSteward]

@[simp] theorem kept_loseSteward (s : State) : kept (State.loseSteward s) = kept s := by
  simp +decide [State.loseSteward]

@[simp] theorem kept_dropRoles (s : State) (fn : Nat) : kept (State.dropRoles s fn) = kept s := by
  simp +decide [State.dropRoles]

@[simp] theorem kept_claimResult (s : State) (fn r : Nat) : kept (State.claimResult s fn r) = kept s := by
  simp +decide [State.claimResult]

@[simp] theorem kept_execClaim (fn : FnIx) (s : State) : keptOut (execClaim fn s) s := by
  unfold execClaim
  refine kept_regCmd _ _ fun t => ?_
  simp +decide

@[simp] theorem kept_execStandby (fn : FnIx) (s : State) : keptOut (execStandby fn s) s := by
  unfold execStandby
  refine kept_regCmd _ _ fun t => ?_
  simp +decide

@[simp] theorem kept_execRelease (fn : FnIx) (s : State) : keptOut (execRelease fn s) s := by
  unfold execRelease
  refine kept_regCmd _ _ fun t => ?_
  simp +decide

@[simp] theorem kept_execHeartbeat (fn : FnIx) (s : State) : keptOut (execHeartbeat fn s) s := by
  unfold execHeartbeat
  refine kept_regCmd _ _ fun t => ?_
  simp +decide

@[simp] theorem kept_execStewardHbTimeout (s : State) : keptOut (execStewardHbTimeout s) s := by
  simp +decide [execStewardHbTimeout]

@[simp] theorem kept_dropWrite (s : State) (fn tag : Nat) : kept (State.dropWrite s fn tag) = kept s := by
  simp +decide [State.dropWrite]

@[simp] theorem kept_withdrawCmd (s : State) (fn tag : Nat) : kept (State.withdrawCmd s fn tag) = kept s := by
  simp +decide [State.withdrawCmd]

@[simp] theorem kept_resetBar0 (s : State) (fn : Nat) : kept (State.resetBar0 s fn) = kept s := by
  simp only [State.resetBar0, kept, keptOf]
  rw [tabGet_filter, tabGet_filter, tabGet_filter, tabGet_filter, tabGet_filter, tabGet_filter] <;> simp <;> omega

@[simp] theorem kept_execBar4AccessDenied (fn : FnIx) (write : Bool) (s : State) : keptOut (execBar4AccessDenied fn write s) s := by
  unfold execBar4AccessDenied
  refine kept_regCmd _ _ fun t => ?_
  simp +decide

@[simp] theorem kept_powerEvents (s : State) (fn : Nat) : kept (State.powerEvents s fn) = kept s := by
  simp +decide [State.powerEvents]

@[simp] theorem kept_execFnEnable (fn : FnIx) (verReq : Fin 8) (table : Option (List Nat)) (s : State) : keptOut (execFnEnable fn verReq table s) s := by
  unfold execFnEnable
  refine kept_regCmd _ _ fun t => ?_
  simp +decide

@[simp] theorem kept_qpError (s : State) (fn q cause : Nat) : kept (State.qpError s fn q cause) = kept s := by
  simp +decide [State.qpError]

@[simp] theorem kept_takeDoorbell (s : State) (fn q : Nat) (tail head : Nat) : kept (State.takeDoorbell s fn q tail head).1 = kept s := by
  simp only [State.takeDoorbell]
  (repeat' split) <;> simp +decide

@[simp] theorem kept_modFetch (s : State) (p : Nat) (f : FetchX → FetchX) : kept (State.modFetch s p f) = kept s := by
  simp +decide [State.modFetch]

@[simp] theorem kept_noteFetch (s : State) (p : Nat) : kept (State.noteFetch s p) = kept s := by
  simp +decide [State.noteFetch]

@[simp] theorem kept_fetchTaken (s : State) (fn q : Nat) : kept (State.fetchTaken s fn q) = kept s := by
  simp +decide [State.fetchTaken]

@[simp] theorem kept_execDoorbellScan (fn : FnIx) (recs : List (Nat × Word × Word)) (s : State) : keptOut (execDoorbellScan fn recs s) s := by
  unfold execDoorbellScan
  split
  · simp
  · have h : ∀ (l : List (Nat × Word × Word)) (a : State × Bool), kept (l.foldl (fun (a : State × Bool) x =>
        ((a.1.takeDoorbell fn x.1 x.2.1.toNat x.2.2.toNat).1, a.2 || (a.1.takeDoorbell fn x.1 x.2.1.toNat x.2.2.toNat).2)) a).1 = kept a.1 := by
      intro l
      induction l with
      | nil => intro a; rfl
      | cons x r ih => intro a; rw [List.foldl_cons, ih]; simp
    simp [h]

@[simp] theorem kept_takeDescriptor (s : State) (fn qpid : Nat) (d : Desc) : kept (State.takeDescriptor s fn qpid d) = kept s := by
  simp only [State.takeDescriptor]
  (repeat' split) <;> simp +decide

@[simp] theorem kept_execFetchTimeout (fn : FnIx) (qpid : Nat) (err : Bool) (s : State) : keptOut (execFetchTimeout fn qpid err s) s := by
  simp only [execFetchTimeout]
  (repeat' split) <;> simp +decide

@[simp] theorem kept_msixWr (s : State) (fn o v : Nat) : kept (State.msixWr s fn o v) = kept s := by
  simp +decide [State.msixWr]

@[simp] theorem kept_signal (s : State) (fn q : Nat) : kept (State.signal s fn q) = kept s := by
  simp +decide [State.signal]

@[simp] theorem kept_writeCpl (s : State) (c : Cpl) : kept (State.writeCpl s c) = kept s := by
  simp +decide [State.writeCpl]

@[simp] theorem kept_takeHeld (k : Nat) (s : State) : kept (State.takeHeld k s) = kept s := by
  induction k generalizing s with
  | zero => rfl
  | succ k ih =>
    unfold State.takeHeld
    (repeat' split) <;> simp +decide [ih]

@[simp] theorem kept_finishDelete (s : State) (fn q : Nat) : kept (State.finishDelete s fn q) = kept s := by
  simp only [State.finishDelete]
  (repeat' split) <;> simp +decide

@[simp] theorem kept_execCompletionWrite (p : HostPort) (s : State) : keptOut (execCompletionWrite p s) s := by
  simp +decide [execCompletionWrite]

@[simp] theorem kept_execCoalesceTimeout (fn : FnIx) (qpid : Nat) (s : State) : keptOut (execCoalesceTimeout fn qpid s) s := by
  simp +decide [execCoalesceTimeout]

end Sys2Proof.Laws
end

