-- ==== Sys2Proof/Laws/KeptBreath.lean ====
section
/-! SUPPORT. The operations of Machine/Breath.lean leave alone what `kept` gathers. -/

namespace Sys2Proof.Laws

open Sys2Proof.Machine

@[simp] theorem kept_linkGranted (s : State) (p : Nat) : kept (State.linkGranted s p) = kept s := by
  simp only [State.linkGranted]
  (repeat' split) <;> simp +decide

@[simp] theorem kept_makeGrant (s : State) (r : PowerReq) : kept (State.makeGrant s r) = kept s := by
  simp only [State.makeGrant]
  (repeat' split) <;> simp +decide

@[simp] theorem kept_evaluate (s : State) (b : List Nat) (l : List PowerReq) : kept (s.evaluate b l) = kept s := by
  induction l generalizing s b with
  | nil => rfl
  | cons r l ih =>
    unfold State.evaluate
    (repeat' split) <;> simp +decide [ih]

@[simp] theorem kept_noteOvercommit (s : State) (d : Nat) : kept (State.noteOvercommit s d) = kept s := by
  simp +decide [State.noteOvercommit]

@[simp] theorem kept_ageRequests (s : State) (d : Nat) : kept (State.ageRequests s d) = kept s := by
  simp +decide [State.ageRequests]

@[simp] theorem kept_reevaluate (s : State) (d : Nat) : kept (State.reevaluate s d) = kept s := by
  simp +decide [State.reevaluate]

@[simp] theorem kept_request (s : State) (r : PowerReq) : kept (State.request s r).1 = kept s := by
  simp only [State.request]
  (repeat' split) <;> simp +decide

@[simp] theorem kept_returnGrant (s : State) (n : Nat) (f : Grants → Grants) : kept (State.returnGrant s n f) = kept s := by
  simp +decide [State.returnGrant]

@[simp] theorem kept_returnAll (s : State) (n : Nat) : kept (State.returnAll s n) = kept s := by
  simp +decide [State.returnAll]

@[simp] theorem kept_returnLink (s : State) (p : Nat) : kept (State.returnLink s p) = kept s := by
  simp only [State.returnLink]
  (repeat' split) <;> simp +decide

@[simp] theorem kept_requestLink (s : State) (p : Nat) (w : LinkWant) : kept (State.requestLink s p w) = kept s := by
  simp only [State.requestLink]
  (repeat' split) <;> simp +decide

@[simp] theorem kept_chargeStanding (s : State) (n : Nat) (on : Bool) : kept (State.chargeStanding s n on) = kept s := by
  simp +decide [State.chargeStanding]

@[simp] theorem kept_grantBistQ (s : State) (l : List BistReq) : kept (s.grantBistQ l) = kept s := by
  induction l generalizing s with
  | nil => rfl
  | cons r l ih =>
    unfold State.grantBistQ
    split <;> simp [ih]

@[simp] theorem kept_grantBist (s : State) : kept (State.grantBist s) = kept s := by
  simp +decide [State.grantBist]

@[simp] theorem kept_requestBist (s : State) (r : BistReq) : kept (State.requestBist s r) = kept s := by
  simp +decide [State.requestBist]

@[simp] theorem kept_returnBist (s : State) (cls index : Nat) : kept (State.returnBist s cls index) = kept s := by
  simp +decide [State.returnBist]

@[simp] theorem kept_requestTest (s : State) (cls index : Nat) : kept (State.requestTest s cls index) = kept s := by
  simp +decide [State.requestTest]

end Sys2Proof.Laws
end

