-- ==== Sys2Proof/Laws/KeptPenMap.lean ====
section
/-! SUPPORT. The operations of Machine/PenMap.lean leave alone what `kept` gathers. -/

namespace Sys2Proof.Laws

open Sys2Proof.Machine

@[simp] theorem kept_modDrop (s : State) (n : Nat) (f : DropX → DropX) : kept (State.modDrop s n f) = kept s := by
  simp +decide [State.modDrop]

@[simp] theorem kept_wakePort (s : State) (p : Nat) : kept (State.wakePort s p) = kept s := by
  simp +decide [State.wakePort]

@[simp] theorem kept_emitMgmt (s : State) (p a q : Nat) (l : List MgmtMsg) : kept (s.emitMgmt p a q l) = kept s := by
  induction l generalizing s q with
  | nil => rfl
  | cons m l ih => unfold State.emitMgmt; rw [ih]; simp

@[simp] theorem kept_flushMgmt (s : State) (p a : Nat) : kept (State.flushMgmt s p a) = kept s := by
  unfold State.flushMgmt
  dsimp only
  split
  · rfl
  · simp +decide

@[simp] theorem kept_sendMgmt (s : State) (p a cls : Nat) (payload : List Nat) : kept (State.sendMgmt s p a cls payload) = kept s := by
  simp +decide [State.sendMgmt]

@[simp] theorem kept_announceMap (s : State) (p : Nat) : kept (State.announceMap s p) = kept s := by
  simp only [State.announceMap]
  (repeat' split) <;> simp +decide

@[simp] theorem kept_announceMode (s : State) (p mode act : Nat) : kept (State.announceMode s p mode act) = kept s := by
  simp +decide [State.announceMode]

@[simp] theorem kept_changeSmap (s : State) (p k : Nat) (w : Word) : kept (State.changeSmap s p k w) = kept s := by
  simp +decide [State.changeSmap]

@[simp] theorem kept_changeBmap (s : State) (p b : Nat) (w : Word) : kept (State.changeBmap s p b w) = kept s := by
  simp +decide [State.changeBmap]

theorem kept_grantBurst (s : State) (p : Nat) (b : BurstWait) {t : State} (h : State.grantBurst s p b = some t) : kept t = kept s := by
  revert h; simp only [State.grantBurst]; (repeat' split) <;> (intro h; first | cases h | skip) <;> simp +decide

@[simp] theorem kept_serveWaits (s : State) (p : Nat) (down : Bool) (k : Nat) : kept (s.serveWaits p down k) = kept s := by
  induction k generalizing s with
  | zero => rfl
  | succ k ih =>
    unfold State.serveWaits
    split
    · rfl
    · split
      · rfl
      · rename_i h
        rw [ih]; simp [kept_grantBurst _ _ _ h]

@[simp] theorem kept_wantBurst (s : State) (n : Nat) (down single : Bool) : kept (State.wantBurst s n down single) = kept s := by
  simp +decide [State.wantBurst]

@[simp] theorem kept_dropBursts (s : State) (n : Nat) : kept (State.dropBursts s n) = kept s := by
  simp +decide [State.dropBursts]

@[simp] theorem kept_turnBurst (s : State) (n : Nat) (down single : Bool) : kept (State.turnBurst s n down single) = kept s := by
  simp +decide [State.turnBurst]

@[simp] theorem kept_dropPosition (s : State) (n : Nat) : kept (State.dropPosition s n) = kept s := by
  simp only [State.dropPosition]
  (repeat' split) <;> simp +decide

end Sys2Proof.Laws
end

