-- ==== Sys2Proof/Laws/KeptRecords.lean ====
section
/-! SUPPORT. The operations of Machine/Records.lean leave alone what `kept` gathers. -/

namespace Sys2Proof.Laws

open Sys2Proof.Machine

@[simp] theorem kept_modCal (s : State) (space index layer : Nat) (f : CalRec → CalRec) : kept (State.modCal s space index layer f) = kept s := by
  simp +decide [State.modCal]

@[simp] theorem kept_modServo (s : State) (n : Nat) (f : ServoX → ServoX) : kept (State.modServo s n f) = kept s := by
  simp +decide [State.modServo]

@[simp] theorem kept_modSpin (s : State) (n : Nat) (f : SpinX → SpinX) : kept (State.modSpin s n f) = kept s := by
  simp +decide [State.modSpin]

@[simp] theorem kept_modCirq (s : State) (f : CirqState → CirqState) : kept (State.modCirq s f) = kept s := by
  simp +decide [State.modCirq]

@[simp] theorem kept_modLoop (s : State) (n l : Nat) (f : LoopX → LoopX) : kept (State.modLoop s n l f) = kept s := by
  simp +decide [State.modLoop]

@[simp] theorem kept_setLs (s : State) (n l v : Nat) : kept (State.setLs s n l v) = kept s := by
  simp +decide [State.setLs]

end Sys2Proof.Laws
end

