-- ==== Sys2Proof/Laws/KeptCirqOps.lean ====
section
/-! SUPPORT. The operations of Machine/CirqOps.lean leave alone what `kept` gathers. -/

namespace Sys2Proof.Laws

open Sys2Proof.Machine

@[simp] theorem kept_renewArrivals (s : State) (p : Nat) : kept (State.renewArrivals s p) = kept s := by
  unfold State.renewArrivals
  refine kept_forEach _ _ _ fun t n => ?_
  (repeat' split) <;> simp +decide

@[simp] theorem kept_putSlot (s : State) (n c k sub pos : Nat) : kept (State.putSlot s n c k sub pos) = kept s := by
  simp +decide [State.putSlot]

@[simp] theorem kept_takeSlot (s : State) (n c k sub pos : Nat) : kept (State.takeSlot s n c k sub pos) = kept s := by
  simp +decide [State.takeSlot]

@[simp] theorem kept_takePosition (s : State) (n k sub subph : Nat) : kept (State.takePosition s n k sub subph) = kept s := by
  simp +decide [State.takePosition]

@[simp] theorem kept_loopStatEnd (s : State) (n : Nat) (f : State → State) (h : ∀ t, kept (f t) = kept t) : kept (s.loopStatEnd n f) = kept s := by
  unfold State.loopStatEnd
  split
  · rw [h, kept_set0 _ _ _ (by decide)]
  · rfl

@[simp] theorem kept_swapAbandoned (s : State) (n mask cause : Nat) : kept (State.swapAbandoned s n mask cause) = kept s := by
  simp +decide [State.swapAbandoned]

@[simp] theorem kept_abandonSoft (s : State) (n : Nat) : kept (State.abandonSoft s n) = kept s := by
  simp +decide [State.abandonSoft]

@[simp] theorem kept_abandonSwap (s : State) (n cause : Nat) : kept (State.abandonSwap s n cause) = kept s := by
  simp only [State.abandonSwap]
  (repeat' split) <;> simp +decide

@[simp] theorem kept_endInj (s : State) (c e : Nat) : kept (State.endInj s c e) = kept s := by
  simp only [State.endInj]
  (repeat' split) <;> simp +decide

@[simp] theorem kept_endInjOf (s : State) (n e : Nat) : kept (State.endInjOf s n e) = kept s := by
  simp +decide [State.endInjOf]

@[simp] theorem kept_modCap (s : State) (c : Nat) (f : CapX → CapX) : kept (State.modCap s c f) = kept s := by
  simp +decide [State.modCap]

@[simp] theorem kept_endCap (s : State) (c err : Nat) : kept (State.endCap s c err) = kept s := by
  simp +decide [State.endCap]

@[simp] theorem kept_stopSled (s : State) (n : Nat) (safe : Bool) : kept (State.stopSled s n safe) = kept s := by
  simp +decide [State.stopSled]

@[simp] theorem kept_releaseSlot (s : State) (n : Nat) : kept (State.releaseSlot s n) = kept s := by
  simp +decide [State.releaseSlot]

@[simp] theorem kept_closeLoop (s : State) (n l : Nat) : kept (State.closeLoop s n l) = kept s := by
  simp +decide [State.closeLoop]

@[simp] theorem kept_openLoop (s : State) (n l : Nat) : kept (State.openLoop s n l) = kept s := by
  simp +decide [State.openLoop]

@[simp] theorem kept_openLoops (s : State) (n : Nat) (ls : List Nat) : kept (State.openLoops s n ls) = kept s := by
  simp +decide [State.openLoops]

@[simp] theorem kept_driveLoop (s : State) (n l : Nat) (v : Int) : kept (State.driveLoop s n l v) = kept s := by
  simp +decide [State.driveLoop]

end Sys2Proof.Laws
end

