-- ==== Sys2Proof/Laws/KeptChanOps.lean ====
section
/-! SUPPORT. The operations of Machine/ChanOps.lean leave alone what `kept` gathers. -/

namespace Sys2Proof.Laws

open Sys2Proof.Machine

@[simp] theorem kept_modChan (s : State) (f : ChannelState → ChannelState) : kept (State.modChan s f) = kept s := by
  simp +decide [State.modChan]

@[simp] theorem kept_modLane (s : State) (f : Nat) (g : LaneX → LaneX) : kept (State.modLane s f g) = kept s := by
  simp +decide [State.modLane]

@[simp] theorem kept_modBeam (s : State) (f b : Nat) (g : BeamX → BeamX) : kept (State.modBeam s f b g) = kept s := by
  simp +decide [State.modBeam]

@[simp] theorem kept_modDisc (s : State) (n : Nat) (f : DiscX → DiscX) : kept (State.modDisc s n f) = kept s := by
  simp +decide [State.modDisc]

@[simp] theorem kept_setDelta (s : State) (f b : Nat) (delta : Int) : kept (State.setDelta s f b delta) = kept s := by
  simp +decide [State.setDelta]

@[simp] theorem kept_startBeams (s : State) (f n : Nat) : kept (State.startBeams s f n) = kept s := by
  simp +decide [State.startBeams]

@[simp] theorem kept_enterSearch (s : State) (f b : Nat) : kept (State.enterSearch s f b) = kept s := by
  simp +decide [State.enterSearch]

@[simp] theorem kept_searchAgain (s : State) (f : Nat) : kept (State.searchAgain s f) = kept s := by
  simp +decide [State.searchAgain]

@[simp] theorem kept_feedForward (s : State) (n : Nat) (old new : Int) : kept (State.feedForward s n old new) = kept s := by
  simp only [State.feedForward]
  (repeat' split) <;> simp +decide

@[simp] theorem kept_headLeaves (s : State) (n : Nat) : kept (State.headLeaves s n) = kept s := by
  simp only [State.headLeaves]
  (repeat' split) <;> simp +decide

@[simp] theorem kept_presetTaps (s : State) (f : Nat) : kept (State.presetTaps s f) = kept s := by
  simp +decide [State.presetTaps]

@[simp] theorem kept_loadTaps (s : State) (f n : Nat) : kept (State.loadTaps s f n) = kept s := by
  simp only [State.loadTaps]
  (repeat' split) <;> simp +decide

@[simp] theorem kept_bindLane (s : State) (f n : Nat) (own : Bool) : kept (State.bindLane s f n own) = kept s := by
  simp +decide [State.bindLane]

@[simp] theorem kept_storeTaps (s : State) (f n : Nat) : kept (State.storeTaps s f n) = kept s := by
  simp +decide [State.storeTaps]

@[simp] theorem kept_freeLaneRegs (s : State) (f : Nat) : kept (State.freeLaneRegs s f) = kept s := by
  simp +decide [State.freeLaneRegs]

@[simp] theorem kept_dropAssembling (s : State) (f : Nat) : kept (State.dropAssembling s f) = kept s := by
  simp +decide [State.dropAssembling]

@[simp] theorem kept_clearDecoder (s : State) (d : Nat) : kept (State.clearDecoder s d) = kept s := by
  simp +decide [State.clearDecoder]

@[simp] theorem kept_testDecoder (s : State) (d : Nat) : kept (State.testDecoder s d) = kept s := by
  simp +decide [State.testDecoder]

@[simp] theorem kept_retireDecoder (s : State) (d : Nat) : kept (State.retireDecoder s d) = kept s := by
  simp +decide [State.retireDecoder]

@[simp] theorem kept_decCmdDone (s : State) (r : Nat) : kept (State.decCmdDone s r) = kept s := by
  simp +decide [State.decCmdDone]

@[simp] theorem kept_idleDecoder (s : State) (d : Nat) : kept (State.idleDecoder s d) = kept s := by
  simp only [State.idleDecoder]
  (repeat' split) <;> simp +decide

@[simp] theorem kept_discardCws (s : State) (n : Nat) : kept (State.discardCws s n) = kept s := by
  unfold State.discardCws
  simp only [kept_modChan]
  rw [kept_forEach]
  intro t w
  split <;> simp

@[simp] theorem kept_endWrite (s : State) (f : Nat) : kept (State.endWrite s f) = kept s := by
  simp +decide [State.endWrite]

@[simp] theorem kept_releaseLane (s : State) (n : Nat) (store : Bool) : kept (State.releaseLane s n store) = kept s := by
  simp only [State.releaseLane]
  (repeat' split) <;> simp +decide

@[simp] theorem kept_clearMeas (s : State) (f : Nat) : kept (State.clearMeas s f) = kept s := by
  simp +decide [State.clearMeas]

end Sys2Proof.Laws
end

