-- ==== Sys2Proof/Laws/KeptFloeSets.lean ====
section
/-! SUPPORT. The operations of Machine/FloeSets.lean leave alone what `kept` gathers. -/

namespace Sys2Proof.Laws

open Sys2Proof.Machine

@[simp] theorem kept_modSet (s : State) (id : Nat) (f : FloeSet → FloeSet) : kept (State.modSet s id f) = kept s := by
  simp +decide [State.modSet]

@[simp] theorem kept_watchSet (s : State) (id : Nat) : kept (State.watchSet s id) = kept s := by
  unfold State.watchSet
  dsimp only
  (split_ifs) <;> simp +decide

@[simp] theorem kept_watchSets (s : State) : kept (State.watchSets s) = kept s := by
  simp +decide [State.watchSets]

end Sys2Proof.Laws
end

