-- ==== Sys2Proof/Laws/KeptMechOps.lean ====
section
/-! SUPPORT. The operations of Machine/MechOps.lean leave alone what `kept` gathers. -/

namespace Sys2Proof.Laws

open Sys2Proof.Machine

@[simp] theorem kept_chg (s : State) (n : Nat) : kept (State.chg s n) = kept s := by
  simp +decide [State.chg]

@[simp] theorem kept_noteSafeHold (s : State) (n : Nat) : kept (State.noteSafeHold s n) = kept s := by
  simp +decide [State.noteSafeHold]

@[simp] theorem kept_applyCfg (s : State) (n : Nat) : kept (State.applyCfg s n) = kept s := by
  simp +decide [State.applyCfg]

@[simp] theorem kept_enterState (s : State) (n st : Nat) : kept (State.enterState s n st) = kept s := by
  simp +decide [State.enterState]

@[simp] theorem kept_beginMove (s : State) (n target : Nat) : kept (State.beginMove s n target) = kept s := by
  simp +decide [State.beginMove]

@[simp] theorem kept_endMove (s : State) (n st : Nat) : kept (State.endMove s n st) = kept s := by
  simp +decide [State.endMove]

@[simp] theorem kept_stepState (s : State) (n st : Nat) : kept (State.stepState s n st) = kept s := by
  simp +decide [State.stepState]

@[simp] theorem kept_clearMount (s : State) (n : Nat) : kept (State.clearMount s n) = kept s := by
  simp +decide [State.clearMount]

@[simp] theorem kept_clearDisc (s : State) (n : Nat) : kept (State.clearDisc s n) = kept s := by
  simp +decide [State.clearDisc]

@[simp] theorem kept_recordFault (s : State) (n code detail : Nat) : kept (State.recordFault s n code detail) = kept s := by
  simp +decide [State.recordFault]

@[simp] theorem kept_recordIsolation (s : State) (n : Nat) : kept (State.recordIsolation s n) = kept s := by
  simp +decide [State.recordIsolation]

@[simp] theorem kept_repairLost (s : State) (w : WbEntry) : kept (State.repairLost s w) = kept s := by
  simp +decide [State.repairLost]

@[simp] theorem kept_loseWrites (s : State) (n : Nat) : kept (State.loseWrites s n) = kept s := by
  simp +decide [State.loseWrites]

@[simp] theorem kept_dropHint (s : State) (n : Nat) : kept (State.dropHint s n) = kept s := by
  simp +decide [State.dropHint]

@[simp] theorem kept_cutCmd (s : State) (c : Ctx) (st : Nat) : kept (State.cutCmd s c st) = kept s := by
  simp +decide [State.cutCmd]

@[simp] theorem kept_finishCommits (s : State) (n : Nat) : kept (State.finishCommits s n) = kept s := by
  simp +decide [State.finishCommits]

@[simp] theorem kept_completeAll (s : State) (n st : Nat) (moveFault : Bool) : kept (State.completeAll s n st moveFault) = kept s := by
  simp +decide [State.completeAll]

@[simp] theorem kept_sendAct (s : State) (n : Nat) (safe again : Bool) (w : List Int) : kept (State.sendAct s n safe again w) = kept s := by
  simp +decide [State.sendAct]

@[simp] theorem kept_trayReads (s : State) (n : Nat) (trayIn trayOut clamped : Bool) : kept (State.trayReads s n trayIn trayOut clamped) = kept s := by
  simp +decide [State.trayReads]

@[simp] theorem kept_startShort (s : State) (n : Nat) (r : List Nat) : kept (State.startShort s n r) = kept s := by
  simp +decide [State.startShort]

@[simp] theorem kept_safeSpindle (s : State) (n : Nat) : kept (State.safeSpindle s n) = kept s := by
  simp +decide [State.safeSpindle]

@[simp] theorem kept_endTray (s : State) (n : Nat) : kept (State.endTray s n) = kept s := by
  simp only [State.endTray]
  (repeat' split) <;> simp +decide

@[simp] theorem kept_stopTray (s : State) (n : Nat) : kept (State.stopTray s n) = kept s := by
  simp +decide [State.stopTray]

@[simp] theorem kept_endMeasure (s : State) (n item : Nat) : kept (State.endMeasure s n item) = kept s := by
  simp only [State.endMeasure]
  (repeat' split) <;> simp +decide

@[simp] theorem kept_abandonIn (s : State) (space n : Nat) (p : CalRec → Nat → Bool) : kept (State.abandonIn s space n p) = kept s := by
  unfold State.abandonIn
  refine kept_forEach _ _ _ fun t e => ?_
  dsimp only
  rw [kept_forEach]
  · simp
  · intro u i; (repeat' split) <;> simp +decide

@[simp] theorem kept_abandonSome (s : State) (n : Nat) (p : CalRec → Nat → Bool) : kept (State.abandonSome s n p) = kept s := by
  simp +decide [State.abandonSome]

@[simp] theorem kept_abandonRuns (s : State) (n : Nat) : kept (State.abandonRuns s n) = kept s := by
  unfold State.abandonRuns
  refine kept_forEach _ _ _ fun t e => ?_
  dsimp only
  rw [kept_forEach]
  · simp
  · intro u i; simp +decide

@[simp] theorem kept_makeSafe (s : State) (n target : Nat) (moveFault : Bool) : kept (State.makeSafe s n target moveFault) = kept s := by
  simp +decide [State.makeSafe]

@[simp] theorem kept_fault (s : State) (n code detail : Nat) : kept (State.fault s n code detail) = kept s := by
  simp +decide [State.fault]

@[simp] theorem kept_bridgeFault (s : State) (n code detail : Nat) : kept (State.bridgeFault s n code detail) = kept s := by
  simp +decide [State.bridgeFault]

@[simp] theorem kept_askLane (s : State) (n : Nat) (own : Bool) : kept (State.askLane s n own) = kept s := by
  simp only [State.askLane]
  (repeat' split) <;> simp +decide

@[simp] theorem kept_backToTracking (s : State) (n : Nat) : kept (State.backToTracking s n) = kept s := by
  simp +decide [State.backToTracking]

@[simp] theorem kept_toAbsent (s : State) (n : Nat) : kept (State.toAbsent s n) = kept s := by
  simp +decide [State.toAbsent]

end Sys2Proof.Laws
end

