-- ==== Sys2Proof/Laws/KeptCirque.lean ====
section
/-! SUPPORT. The operations of Machine/Cirque.lean leave alone what `kept` gathers. -/

namespace Sys2Proof.Laws

open Sys2Proof.Machine

@[simp] theorem kept_putStage (s : State) (r : List Nat) : kept (State.putStage s r) = kept s := by
  simp +decide [State.putStage]

@[simp] theorem kept_coefDone (s : State) (target l err : Nat) : kept (State.coefDone s target l err) = kept s := by
  simp +decide [State.coefDone]

@[simp] theorem kept_coefOp (s : State) (op n l : Nat) (r : List Nat) : kept (State.coefOp s op n l r) = kept s := by
  simp only [State.coefOp]
  (repeat' split) <;> simp +decide

@[simp] theorem kept_coefCmd (s : State) (n op l : Nat) (r : List Nat) : keptOut (State.coefCmd s n op l r) s := by
  unfold State.coefCmd
  refine kept_regCmd _ _ fun t => ?_
  (repeat' split) <;> simp +decide

@[simp] theorem kept_finishCoef (s : State) : kept (State.finishCoef s) = kept s := by
  simp only [State.finishCoef]
  (repeat' split) <;> simp +decide

@[simp] theorem kept_exchange (s : State) (a b : Nat) (r : Reg) (h : calm r = true) : kept (s.exchange a b r) = kept s := by
  simp [State.exchange, h]

@[simp] theorem kept_moveSlots (s : State) (a b : Nat) : kept (State.moveSlots s a b) = kept s := by
  unfold State.moveSlots
  have h : ∀ r ∈ injCapRegs, ∀ t : State, kept (t.exchange a b r) = kept t := fun r hr t => kept_exchange _ _ _ _ (by revert r; decide)
  simp +decide [kept_forEach_mem _ _ _ h]
  rw [kept_forEach]
  intro t k
  (repeat' split) <;> simp +decide

@[simp] theorem kept_hoStat (s : State) (src dst cause : Nat) : kept (State.hoStat s src dst cause) = kept s := by
  simp +decide [State.hoStat]

@[simp] theorem kept_hoTime (s : State) : kept (State.hoTime s) = kept s := by
  simp +decide [State.hoTime]

@[simp] theorem kept_logHandover (s : State) (c : Nat) : kept (State.logHandover s c) = kept s := by
  simp +decide [State.logHandover]

@[simp] theorem kept_testCluster (s : State) (c op : Nat) : kept (State.testCluster s c op) = kept s := by
  simp +decide [State.testCluster]

@[simp] theorem kept_hoFault (s : State) (c cause result : Nat) : kept (State.hoFault s c cause result) = kept s := by
  simp +decide [State.hoFault]

@[simp] theorem kept_execClusterFault (c : ClusterIx) (cause : Fin 3) (s : State) : keptOut (execClusterFault c cause s) s := by
  simp only [execClusterFault]
  (repeat' split) <;> simp +decide

@[simp] theorem kept_copyReads (s : State) (c k : Nat) : kept (State.copyReads s c k) = kept s := by
  simp +decide [State.copyReads]

@[simp] theorem kept_execHandoverServe (copies : List Mn) (s : State) : keptOut (execHandoverServe copies s) s := by
  simp only [execHandoverServe]
  (repeat' split) <;> simp +decide

@[simp] theorem kept_clusterTestEnd (s : State) (c : Nat) (pass : Bool) : kept (State.clusterTestEnd s c pass) = kept s := by
  simp only [State.clusterTestEnd]
  (repeat' split) <;> simp +decide

@[simp] theorem kept_execClusterTestDone (c : ClusterIx) (pass : Bool) (s : State) : keptOut (execClusterTestDone c pass s) s := by
  simp +decide [execClusterTestDone]

@[simp] theorem kept_startPlanned (s : State) (c op fmt : Nat) : kept (State.startPlanned s c op fmt) = kept s := by
  simp +decide [State.startPlanned]

@[simp] theorem kept_execHoTest (c : Fin 32) (s : State) : keptOut (execHoTest c s) s := by
  unfold execHoTest
  refine kept_regCmd _ _ fun t => ?_
  simp +decide

@[simp] theorem kept_execHoUcode (c : Fin 32) (s : State) : keptOut (execHoUcode c s) s := by
  unfold execHoUcode
  refine kept_regCmd _ _ fun t => ?_
  simp +decide

@[simp] theorem kept_execHoFormat (c : Fin 32) (fmt : Bool) (s : State) : keptOut (execHoFormat c fmt s) s := by
  unfold execHoFormat
  refine kept_regCmd _ _ fun t => ?_
  simp +decide

@[simp] theorem kept_execHoRetest (c : Fin 32) (s : State) : keptOut (execHoRetest c s) s := by
  unfold execHoRetest
  refine kept_regCmd _ _ fun t => ?_
  simp +decide

@[simp] theorem kept_reformat (s : State) (n f : Nat) (recs : List (Nat × List Nat)) : kept (State.reformat s n f recs) = kept s := by
  simp +decide [State.reformat]

@[simp] theorem kept_moveEngines (s : State) (n a b : Nat) : kept (State.moveEngines s n a b) = kept s := by
  have hq : ∀ l : List Reg, (∀ r ∈ l, calm r = true) → ∀ t : State, kept (t.forEach l fun t r => t.exchange a b r) = kept t :=
    fun l hl t => kept_forEach_mem _ _ _ fun r hr u => kept_exchange _ _ _ _ (hl r hr)
  have q1 := hq (injCapRegs.take 6) (by decide)
  have q2 := hq (injCapRegs.drop 6) (by decide)
  unfold State.moveEngines
  extract_lets x s1
  have k1 : kept s1 = kept s := by
    simp only [s1]
    (repeat' split) <;> simp +decide [q1]
  clear_value s1
  (repeat' split) <;> simp +decide [k1, q2]

@[simp] theorem kept_moveSlot (s : State) (n c k : Nat) : kept (State.moveSlot s n c k) = kept s := by
  simp only [State.moveSlot]
  (repeat' split) <;> simp +decide

@[simp] theorem kept_execPlannedSwitch (mn : Option Mn) (copies : List Mn) (s : State) : keptOut (execPlannedSwitch mn copies s) s := by
  simp only [execPlannedSwitch]
  (repeat' split) <;> simp +decide

@[simp] theorem kept_execCollisionMove (mn : Mn) (s : State) : keptOut (execCollisionMove mn s) s := by
  simp only [execCollisionMove]
  (repeat' split) <;> simp +decide

@[simp] theorem kept_execCoefStageToShadow (mn : Mn) (l : LoopIx) (s : State) : keptOut (execCoefStageToShadow mn l s) s := by
  unfold execCoefStageToShadow
  refine kept_regCmd _ _ fun t => ?_
  simp +decide

@[simp] theorem kept_execCoefShadowToStage (mn : Mn) (l : LoopIx) (s : State) : keptOut (execCoefShadowToStage mn l s) s := by
  simp +decide [execCoefShadowToStage]

@[simp] theorem kept_execCoefActiveToStage (mn : Mn) (l : LoopIx) (s : State) : keptOut (execCoefActiveToStage mn l s) s := by
  unfold execCoefActiveToStage
  refine kept_regCmd _ _ fun t => ?_
  simp +decide

@[simp] theorem kept_execCoefStageToLibrary (cls : Fin 8) (l : LoopIx) (fmt : Bool) (s : State) : keptOut (execCoefStageToLibrary cls l fmt s) s := by
  unfold execCoefStageToLibrary
  refine kept_regCmd _ _ fun t => ?_
  simp +decide

@[simp] theorem kept_execCoefLibraryToStage (cls : Fin 8) (l : LoopIx) (fmt : Bool) (s : State) : keptOut (execCoefLibraryToStage cls l fmt s) s := by
  unfold execCoefLibraryToStage
  refine kept_regCmd _ _ fun t => ?_
  simp +decide

@[simp] theorem kept_startSwap (s : State) (n mask src : Nat) : kept (State.startSwap s n mask src) = kept s := by
  simp +decide [State.startSwap]

@[simp] theorem kept_execSwapFromShadow (mn : Mn) (mask : Fin 256) (s : State) : keptOut (execSwapFromShadow mn mask s) s := by
  unfold execSwapFromShadow
  refine kept_regCmd _ _ fun t => ?_
  simp +decide

@[simp] theorem kept_execSwapFromLibrary (mn : Mn) (mask : Fin 256) (s : State) : keptOut (execSwapFromLibrary mn mask s) s := by
  unfold execSwapFromLibrary
  refine kept_regCmd _ _ fun t => ?_
  simp +decide

@[simp] theorem kept_execSwapAbort (mn : Mn) (s : State) : keptOut (execSwapAbort mn s) s := by
  unfold execSwapAbort
  refine kept_regCmd _ _ fun t => ?_
  (try dsimp only)
  (repeat' split) <;> simp +decide

@[simp] theorem kept_execSwapExecute (mn : Mn) (s : State) : keptOut (execSwapExecute mn s) s := by
  simp only [execSwapExecute]
  (repeat' split) <;> simp +decide

@[simp] theorem kept_execSwapHoldTimeout (mn : Mn) (s : State) : keptOut (execSwapHoldTimeout mn s) s := by
  simp only [execSwapHoldTimeout]
  (repeat' split) <;> simp +decide

end Sys2Proof.Laws
end

