-- ==== Sys2Proof/Laws/KeptWaiting.lean ====
section
/-! SUPPORT. The operations of Machine/Waiting.lean leave alone what `kept` gathers. -/

namespace Sys2Proof.Laws

open Sys2Proof.Machine

@[simp] theorem kept_abandonStart (s : State) (n : Nat) : kept (State.abandonStart s n) = kept s := by
  simp +decide [State.abandonStart]

@[simp] theorem kept_askStart (s : State) (n : Nat) : kept (State.askStart s n) = kept s := by
  unfold State.askStart
  dsimp only
  split
  · rename_i h
    have k := kept_fst h (kept_request _ _)
    split <;> simp [k]
  · rename_i h
    exact kept_fst h (kept_request _ _)

theorem kept_grabSlot (s : State) (n : Nat) {t : State} (h : State.grabSlot s n = some t) : kept t = kept s := by
  revert h; simp only [State.grabSlot]; (repeat' split) <;> (intro h; first | cases h | skip) <;> simp +decide

theorem kept_serveWaiter (s : State) (w : Nat × Nat × Bool) {t : State} (h : State.serveWaiter s w = some t) : kept t = kept s := by
  revert h; unfold State.serveWaiter
  split
  · intro h; obtain ⟨k, -, rfl⟩ := Option.map_eq_some_iff.mp h; simp
  · split
    · intro h; cases h
    · intro h; obtain ⟨u, hu, rfl⟩ := Option.map_eq_some_iff.mp h; simp [kept_grabSlot _ _ hu]

@[simp] theorem kept_servePositions (s : State) (l : List (Nat × Nat × Bool)) : kept (s.servePositions l) = kept s := by
  induction l with
  | nil => rfl
  | cons w l ih =>
    unfold State.servePositions
    split
    · rename_i h; exact kept_serveWaiter _ _ h
    · exact ih

@[simp] theorem kept_noteBacklog (s : State) (n : Nat) : kept (State.noteBacklog s n) = kept s := by
  simp +decide [State.noteBacklog]

@[simp] theorem kept_noteDrain (s : State) (n k : Nat) : kept (State.noteDrain s n k) = kept s := by
  simp +decide [State.noteDrain]

@[simp] theorem kept_wantSpin (s : State) (n sFull layer : Nat) : kept (State.wantSpin s n sFull layer) = kept s := by
  unfold State.wantSpin
  extract_lets s1
  have k1 : kept s1 = kept s := by simp +decide [s1]
  clear_value s1
  split
  · rename_i h
    split at h
    · simp +decide [kept_grabSlot _ _ h, k1]
    · cases h
  · simp +decide [k1]

@[simp] theorem kept_askTray (s : State) (n : Nat) : kept (State.askTray s n) = kept s := by
  unfold State.askTray
  extract_lets c s1 s2 r
  have k1 : kept s1 = kept s := by simp +decide [s1]
  clear_value s1
  have k2 : kept s2 = kept s := by
    simp only [s2]
    split <;> simp +decide [k1]
  clear_value s2
  split
  · rename_i h
    have k := (kept_fst h (kept_request _ _)).trans k2
    cases c <;> simp +decide [k]
  · rename_i h
    exact (kept_fst h (kept_request _ _)).trans k2

@[simp] theorem kept_loadLimits (s : State) (n : Nat) : kept (State.loadLimits s n) = kept s := by
  simp +decide [State.loadLimits]

@[simp] theorem kept_attach (s : State) (n : Nat) (clamped : Bool) : kept (State.attach s n clamped) = kept s := by
  simp +decide [State.attach]

end Sys2Proof.Laws
end

