-- ==== Sys2Proof/Laws/KeptSequences.lean ====
section
/-! SUPPORT. The operations of Machine/Sequences.lean leave alone what `kept` gathers. -/

namespace Sys2Proof.Laws

open Sys2Proof.Machine

@[simp] theorem kept_modSeq (s : State) (n : Nat) (f : SeqX → SeqX) : kept (State.modSeq s n f) = kept s := by
  simp +decide [State.modSeq]

@[simp] theorem kept_modProf (s : State) (n : Nat) (f : ProfX → ProfX) : kept (State.modProf s n f) = kept s := by
  simp +decide [State.modProf]

@[simp] theorem kept_modSled (s : State) (n : Nat) (f : SledX → SledX) : kept (State.modSled s n f) = kept s := by
  simp +decide [State.modSled]

@[simp] theorem kept_capHit (s : State) (n kind : Nat) : kept (State.capHit s n kind) = kept s := by
  simp +decide [State.capHit]

@[simp] theorem kept_rampFocus (s : State) (n : Nat) (v : Int) (dur : Nat) : kept (State.rampFocus s n v dur) = kept s := by
  simp +decide [State.rampFocus]

@[simp] theorem kept_takeOffsets (s : State) (n layer : Nat) (ramp : Bool) : kept (State.takeOffsets s n layer ramp) = kept s := by
  simp +decide [State.takeOffsets]

@[simp] theorem kept_loadProfile (s : State) (n layer : Nat) : kept (State.loadProfile s n layer) = kept s := by
  simp +decide [State.loadProfile]

@[simp] theorem kept_endSeek (s : State) (n : Nat) : kept (State.endSeek s n) = kept s := by
  simp only [State.endSeek]
  (repeat' split) <;> simp +decide

@[simp] theorem kept_startLearning (s : State) (n : Nat) : kept (State.startLearning s n) = kept s := by
  simp +decide [State.startLearning]

@[simp] theorem kept_takeSeq (s : State) (n : Nat) : kept (State.takeSeq s n) = kept s := by
  simp +decide [State.takeSeq]

@[simp] theorem kept_startAttempt (s : State) (n : Nat) : kept (State.startAttempt s n) = kept s := by
  simp +decide [State.startAttempt]

@[simp] theorem kept_startPullIn (s : State) (n target : Nat) (jump : Bool) : kept (State.startPullIn s n target jump) = kept s := by
  simp +decide [State.startPullIn]

@[simp] theorem kept_failAttempt (s : State) (n : Nat) : kept (State.failAttempt s n) = kept s := by
  simp +decide [State.failAttempt]

@[simp] theorem kept_attemptReturned (s : State) (n : Nat) : kept (State.attemptReturned s n) = kept s := by
  simp +decide [State.attemptReturned]

@[simp] theorem kept_trackOnFrom (s : State) (n : Nat) (step3 : Bool) : kept (State.trackOnFrom s n step3) = kept s := by
  simp +decide [State.trackOnFrom]

@[simp] theorem kept_startTrackOn (s : State) (n : Nat) (step3 : Bool) : kept (State.startTrackOn s n step3) = kept s := by
  simp +decide [State.startTrackOn]

@[simp] theorem kept_retryTrackOn (s : State) (n : Nat) : kept (State.retryTrackOn s n) = kept s := by
  simp +decide [State.retryTrackOn]

@[simp] theorem kept_reachTracking (s : State) (n : Nat) : kept (State.reachTracking s n) = kept s := by
  simp +decide [State.reachTracking]

@[simp] theorem kept_acquireAgain (s : State) (n layer : Nat) : kept (State.acquireAgain s n layer) = kept s := by
  simp +decide [State.acquireAgain]

@[simp] theorem kept_afterFocus (s : State) (n : Nat) : kept (State.afterFocus s n) = kept s := by
  simp +decide [State.afterFocus]

@[simp] theorem kept_reachFocused (s : State) (n : Nat) : kept (State.reachFocused s n) = kept s := by
  simp +decide [State.reachFocused]

@[simp] theorem kept_startSaRun (s : State) (n : Nat) : kept (State.startSaRun s n) = kept s := by
  simp +decide [State.startSaRun]

@[simp] theorem kept_focusVerified (s : State) (n : Nat) : kept (State.focusVerified s n) = kept s := by
  simp +decide [State.focusVerified]

@[simp] theorem kept_startLayerStep (s : State) (n : Nat) : kept (State.startLayerStep s n) = kept s := by
  simp +decide [State.startLayerStep]

@[simp] theorem kept_layerStepDone (s : State) (n : Nat) : kept (State.layerStepDone s n) = kept s := by
  simp +decide [State.layerStepDone]

@[simp] theorem kept_loseFocus (s : State) (n : Nat) : kept (State.loseFocus s n) = kept s := by
  simp +decide [State.loseFocus]

@[simp] theorem kept_enterSpin (s : State) (n st : Nat) : kept (State.enterSpin s n st) = kept s := by
  simp +decide [State.enterSpin]

@[simp] theorem kept_spinClosed (s : State) (n ref : Nat) : kept (State.spinClosed s n ref) = kept s := by
  simp +decide [State.spinClosed]

@[simp] theorem kept_startSequence (s : State) (n : Nat) : kept (State.startSequence s n) = kept s := by
  simp +decide [State.startSequence]

@[simp] theorem kept_completeState (s : State) (n op st : Nat) : kept (State.completeState s n op st) = kept s := by
  simp +decide [State.completeState]

@[simp] theorem kept_cutDriver (s : State) (n st : Nat) : kept (State.cutDriver s n st) = kept s := by
  simp +decide [State.cutDriver]

@[simp] theorem kept_endSpinDown (s : State) (n : Nat) : kept (State.endSpinDown s n) = kept s := by
  simp +decide [State.endSpinDown]

@[simp] theorem kept_issueStop (s : State) (n : Nat) : kept (State.issueStop s n) = kept s := by
  simp +decide [State.issueStop]

@[simp] theorem kept_startPark (s : State) (n : Nat) : kept (State.startPark s n) = kept s := by
  simp +decide [State.startPark]

@[simp] theorem kept_startSpinDown (s : State) (n target : Nat) : kept (State.startSpinDown s n target) = kept s := by
  unfold State.startSpinDown
  split
  · simp +decide
  · dsimp only
    split <;> (rename_i h; have k := kept_fst h (kept_request _ _); simp +decide [k])

@[simp] theorem kept_dropSpinDown (s : State) (n : Nat) : kept (State.dropSpinDown s n) = kept s := by
  simp +decide [State.dropSpinDown]

@[simp] theorem kept_cancelSpinDown (s : State) (n : Nat) : kept (State.cancelSpinDown s n) = kept s := by
  simp +decide [State.cancelSpinDown]

@[simp] theorem kept_focusLoss (s : State) (n : Nat) : kept (State.focusLoss s n) = kept s := by
  simp +decide [State.focusLoss]

@[simp] theorem kept_trackLoss (s : State) (n : Nat) : kept (State.trackLoss s n) = kept s := by
  simp +decide [State.trackLoss]

@[simp] theorem kept_spinFailed (s : State) (n : Nat) : kept (State.spinFailed s n) = kept s := by
  simp +decide [State.spinFailed]

@[simp] theorem kept_permitLoss (s : State) (n : Nat) : kept (State.permitLoss s n) = kept s := by
  simp +decide [State.permitLoss]

end Sys2Proof.Laws
end

