-- ==== Sys2Proof/Laws/KeptServo.lean ====
section
/-! SUPPORT. The operations of Machine/Servo.lean leave alone what `kept` gathers. -/

namespace Sys2Proof.Laws

open Sys2Proof.Machine

@[simp] theorem kept_advanceTheta (s : State) (n : Nat) : kept (State.advanceTheta s n).1 = kept s := by
  simp +decide [State.advanceTheta]

@[simp] theorem kept_injSample (s : State) (n : Nat) : kept (State.injSample s n).1 = kept s := by
  simp only [State.injSample]
  (repeat' split) <;> simp +decide

@[simp] theorem kept_freePoint (s : State) : kept (State.freePoint s).1 = kept s := by
  simp +decide [State.freePoint]

@[simp] theorem kept_padPoints (k : Nat) (s : State) (l : List (List Int × Bool)) : kept (State.padPoints k s l).1 = kept s := by
  induction k generalizing s l with
  | zero => rfl
  | succ k ih => unfold State.padPoints; rw [ih]; simp

@[simp] theorem kept_capSample (s : State) (n : Nat) (x : UpSlot) (tew g : Int) (held : Bool) : kept (State.capSample s n x tew g held) = kept s := by
  simp +decide [State.capSample]

@[simp] theorem kept_sledMove (s : State) (n : Nat) (held : Bool) (o35 : Int) (off : Bool) : kept (State.sledMove s n held o35 off) = kept s := by
  simp +decide [State.sledMove]

@[simp] theorem kept_slewRef (s : State) (n : Nat) : kept (State.slewRef s n) = kept s := by
  simp +decide [State.slewRef]

@[simp] theorem kept_freeDuties (s : State) : kept (State.freeDuties s).1 = kept s := by
  simp +decide [State.freeDuties]

@[simp] theorem kept_spinAfter (s : State) (n : Nat) (mag : Nat) : kept (State.spinAfter s n mag) = kept s := by
  simp +decide [State.spinAfter]

@[simp] theorem kept_catchPeriod (s : State) (n : Nat) (x : UpSlot) (period : Nat) : kept (State.catchPeriod s n x period) = kept s := by
  simp +decide [State.catchPeriod]

@[simp] theorem kept_spinSample (s00 : State) (n : Nat) (x : UpSlot) (o36 : Int) : kept (State.spinSample s00 n x o36) = kept s00 := by
  simp +decide [State.spinSample]

@[simp] theorem kept_residSample (s : State) (n : Nat) (wrapped : Bool) : kept (State.residSample s n wrapped) = kept s := by
  simp +decide [State.residSample]

@[simp] theorem kept_learnSample (s0 : State) (n : Nat) (wrapped counts closed : Bool) : kept (State.learnSample s0 n wrapped counts closed) = kept s0 := by
  simp +decide [State.learnSample]

@[simp] theorem kept_pullSample (s : State) (n : Nat) (x : UpSlot) : kept (State.pullSample s n x) = kept s := by
  unfold State.pullSample
  extract_lets
  split
  · simp
  · (repeat' split) <;> simp +zetaDelta

@[simp] theorem kept_verifySample (s : State) (n : Nat) (x : UpSlot) (x0 : Int) (lost : Bool) : kept (State.verifySample s n x x0 lost) = kept s := by
  simp +decide [State.verifySample]

@[simp] theorem kept_layerSample (s : State) (n : Nat) (x : UpSlot) : kept (State.layerSample s n x) = kept s := by
  simp +decide [State.layerSample]

@[simp] theorem kept_trackOnSample (s : State) (n : Nat) (tew : Int) (cross : Option Int) : kept (State.trackOnSample s n tew cross) = kept s := by
  simp +decide [State.trackOnSample]

@[simp] theorem kept_jumpSample (s : State) (n : Nat) (cross : Option Int) : kept (State.jumpSample s n cross) = kept s := by
  simp +decide [State.jumpSample]

@[simp] theorem kept_seekSample (s : State) (n : Nat) : kept (State.seekSample s n) = kept s := by
  simp only [State.seekSample]
  (repeat' split) <;> simp +decide

@[simp] theorem kept_alignSample (s : State) (n : Nat) (cross : Option Int) : kept (State.alignSample s n cross) = kept s := by
  simp +decide [State.alignSample]

@[simp] theorem kept_seqSample (s : State) (n : Nat) (x : UpSlot) (x0 tew : Int) (cross : Option Int) (lost : Bool) : kept (State.seqSample s n x x0 tew cross lost) = kept s := by
  unfold State.seqSample
  extract_lets
  split <;> first | rfl | simp | skip
  all_goals (split <;> first | (split <;> simp) | simp)

@[simp] theorem kept_offOutputs (s : State) (n : Nat) : kept (State.offOutputs s n) = kept s := by
  simp only [State.offOutputs]
  (repeat' split) <;> simp +decide

@[simp] theorem kept_loopSampleAt (s : State) (n l : Nat) (x : Int) (g : Int) : kept (State.loopSampleAt s n l x g) = kept s := by
  simp +decide [State.loopSampleAt]

@[simp] theorem kept_swapPeriod (s : State) (n : Nat) : kept (State.swapPeriod s n) = kept s := by
  simp only [State.swapPeriod]
  (repeat' split) <;> simp +decide

@[simp] theorem kept_swapSample (s : State) (n : Nat) : kept (State.swapSample s n) = kept s := by
  simp only [State.swapSample]
  (repeat' split) <;> simp +decide

@[simp] theorem kept_writeInhibit (s : State) (n : Nat) : kept (State.writeInhibit s n) = kept s := by
  simp only [State.writeInhibit]
  (repeat' split) <;> simp +decide

@[simp] theorem kept_countStart (s : State) (n : Nat) : kept (State.countStart s n) = kept s := by
  simp +decide [State.countStart]

@[simp] theorem kept_instant (s : State) (n : Nat) : kept (State.instant s n).1 = kept s := by
  simp only [State.instant]
  (repeat' split) <;> simp +decide

@[simp] theorem kept_startTrackJump (s : State) (n : Nat) (m : Int) : kept (State.startTrackJump s n m) = kept s := by
  simp +decide [State.startTrackJump]

@[simp] theorem kept_modRun (s : State) (n : Nat) (f : CalRunX → CalRunX) : kept (State.modRun s n f) = kept s := by
  simp +decide [State.modRun]

@[simp] theorem kept_sweepTo (s : State) (n item j : Nat) : kept (State.sweepTo s n item j) = kept s := by
  simp +decide [State.sweepTo]

@[simp] theorem kept_sweepSample (s : State) (n : Nat) (r : CalRunX) : kept (State.sweepSample s n r) = kept s := by
  simp only [State.sweepSample]
  (repeat' split) <;> simp +decide

@[simp] theorem kept_balanceSample (s : State) (n : Nat) (r : CalRunX) (raw : Int) (crossed : Bool) : kept (State.balanceSample s n r raw crossed) = kept s := by
  simp +decide [State.balanceSample]

@[simp] theorem kept_opcSample (s : State) (n : Nat) (r : CalRunX) : kept (State.opcSample s n r) = kept s := by
  simp only [State.opcSample]
  (repeat' split) <;> simp +decide

@[simp] theorem kept_presetSample (s : State) (n : Nat) : kept (State.presetSample s n) = kept s := by
  simp only [State.presetSample]
  (repeat' split) <;> simp +decide

@[simp] theorem kept_calSample (s : State) (n : Nat) (raw : Int) (crossed : Bool) : kept (State.calSample s n raw crossed) = kept s := by
  simp only [State.calSample]
  (repeat' split) <;> simp +decide

@[simp] theorem kept_calHeld (s : State) (n : Nat) : kept (State.calHeld s n) = kept s := by
  simp only [State.calHeld]
  (repeat' split) <;> simp +decide

@[simp] theorem kept_heldSample (s : State) (n : Nat) (x : UpSlot) : kept (State.heldSample s n x) = kept s := by
  simp +decide [State.heldSample]

@[simp] theorem kept_rateForward (s : State) (n : Nat) (old : Int) : kept (State.rateForward s n old) = kept s := by
  simp +decide [State.rateForward]

@[simp] theorem kept_computeSample (s : State) (n : Nat) (x0raw : UpSlot) : kept (State.computeSample s n x0raw) = kept s := by
  simp +decide [State.computeSample]

@[simp] theorem kept_missSlot (s : State) (n : Nat) (x : UpSlot) : kept (State.missSlot s n x) = kept s := by
  simp +decide [State.missSlot]

@[simp] theorem kept_lostSample (s : State) (n : Nat) : kept (State.lostSample s n) = kept s := by
  simp +decide [State.lostSample]

@[simp] theorem kept_execSlotSample (mn : Mn) (x : UpSlot) (s : State) : keptOut (execSlotSample mn x s) s := by
  simp +decide [execSlotSample]

end Sys2Proof.Laws
end

