-- ==== Sys2Proof/Laws/KeptServoCmds.lean ====
section
/-! SUPPORT. The operations of Machine/ServoCmds.lean leave alone what `kept` gathers. -/

namespace Sys2Proof.Laws

open Sys2Proof.Machine

@[simp] theorem kept_capInj (s : State) (c n l type : Nat) : kept (State.capInj s c n l type) = kept s := by
  simp +decide [State.capInj]

@[simp] theorem kept_startInj (s : State) (c n l type : Nat) : kept (State.startInj s c n l type) = kept s := by
  simp +decide [State.startInj]

@[simp] theorem kept_execInjStart (c : ClusterIx) (mn : Mn) (l : LoopIx) (hold : Fin 16) (type : Fin 4) (s : State) : keptOut (execInjStart c mn l hold type s) s := by
  unfold execInjStart
  refine kept_regCmd _ _ fun t => ?_
  simp +decide

@[simp] theorem kept_execInjStop (c : ClusterIx) (s : State) : keptOut (execInjStop c s) s := by
  unfold execInjStop
  refine kept_regCmd _ _ fun t => ?_
  simp +decide

@[simp] theorem kept_armCap (s : State) (c n b : Nat) (owner : Option (Nat × Nat)) : kept (State.armCap s c n b owner) = kept s := by
  simp +decide [State.armCap]

@[simp] theorem kept_execCapArm (c : ClusterIx) (mn : Mn) (dec : Fin 16) (trig : Fin 4) (s : State) : keptOut (execCapArm c mn dec trig s) s := by
  unfold execCapArm
  refine kept_regCmd _ _ fun t => ?_
  (try dsimp only)
  (repeat' split) <;> simp +decide

@[simp] theorem kept_execCapStop (c : ClusterIx) (s : State) : keptOut (execCapStop c s) s := by
  unfold execCapStop
  refine kept_regCmd _ _ fun t => ?_
  simp +decide

@[simp] theorem kept_execPullInAttemptTimeout (mn : Mn) (s : State) : keptOut (execPullInAttemptTimeout mn s) s := by
  simp +decide [execPullInAttemptTimeout]

@[simp] theorem kept_execLayerStepTimeout (mn : Mn) (s : State) : keptOut (execLayerStepTimeout mn s) s := by
  simp +decide [execLayerStepTimeout]

@[simp] theorem kept_execTrackOnTimeout (mn : Mn) (s : State) : keptOut (execTrackOnTimeout mn s) s := by
  simp +decide [execTrackOnTimeout]

@[simp] theorem kept_startLayerJump (sr : State) (n layer : Nat) : kept (State.startLayerJump sr n layer) = kept sr := by
  simp +decide [State.startLayerJump]

@[simp] theorem kept_execLayerJump (mn : Mn) (layer : Fin 10) (s : State) : keptOut (execLayerJump mn layer s) s := by
  simp +decide [execLayerJump]

@[simp] theorem kept_execTrackJump (mn : Mn) (tracks : Int) (s : State) : keptOut (execTrackJump mn tracks s) s := by
  simp +decide [execTrackJump]

@[simp] theorem kept_seekRound (s : State) (n : Nat) (m : Int) : kept (State.seekRound s n m) = kept s := by
  simp +decide [State.seekRound]

@[simp] theorem kept_startSeek (s : State) (n : Nat) (m : Int) : kept (State.startSeek s n m) = kept s := by
  simp only [State.startSeek]
  (repeat' split) <;> simp +decide

@[simp] theorem kept_execLongSeek (mn : Mn) (tracks : Int) (cmd : Option (FnIx × Nat)) (s : State) : keptOut (execLongSeek mn tracks cmd s) s := by
  simp only [execLongSeek]
  (repeat' split) <;> simp +decide

@[simp] theorem kept_placeSled (s : State) (n r : Nat) : kept (State.placeSled s n r) = kept s := by
  simp +decide [State.placeSled]

@[simp] theorem kept_correctAngle (s : State) (n theta : Nat) : kept (State.correctAngle s n theta) = kept s := by
  simp +decide [State.correctAngle]

@[simp] theorem kept_checkDirection (s : State) (n place : Nat) (a : DiscAddr) : kept (State.checkDirection s n place a) = kept s := by
  simp only [State.checkDirection]
  (repeat' split) <;> simp +decide

@[simp] theorem kept_addressMet (s : State) (n : Nat) : kept (State.addressMet s n) = kept s := by
  simp +decide [State.addressMet]

@[simp] theorem kept_nextRound (s : State) (n : Nat) (d : Int) : kept (State.nextRound s n d) = kept s := by
  unfold State.nextRound
  dsimp only
  split
  · simp
  · split
    · simp
    · split <;> (rename_i h; have k := kept_fst h (kept_request _ _); simp [k])

@[simp] theorem kept_checkAddress (s : State) (n : Nat) (a : DiscAddr) (residual : Option Int) : kept (State.checkAddress s n a residual) = kept s := by
  unfold State.checkAddress
  have hq : ∀ p : State × Decision, kept p.1 = kept s → ∀ d, kept (match p with
      | (t, .granted) => t.startSeek n d
      | (t, _) => t) = kept s := by
    rintro ⟨t, g⟩ k d
    cases g <;> simp_all
  (repeat' split) <;> first | rfl | simp | skip
  all_goals (rename_i h; have k := kept_fst h (kept_request _ _); simp [k])

@[simp] theorem kept_execAddressRead (mn : Mn) (b : BeamIx) (a : DiscAddr) (theta : Option Word) (residual : Option Int) (s : State) : keptOut (execAddressRead mn b a theta residual s) s := by
  simp only [execAddressRead]
  (repeat' split) <;> simp +decide

@[simp] theorem kept_alignFailed (s : State) (n : Nat) : kept (State.alignFailed s n) = kept s := by
  simp +decide [State.alignFailed]

@[simp] theorem kept_aligned (s : State) (n shift : Nat) : kept (State.aligned s n shift) = kept s := by
  simp +decide [State.aligned]

@[simp] theorem kept_execProfileAlign (mn : Mn) (s : State) : keptOut (execProfileAlign mn s) s := by
  simp only [execProfileAlign]
  (repeat' split) <;> simp +decide

@[simp] theorem kept_binMean (s : State) (sum : Int) (k : Nat) : kept (State.binMean s sum k).1 = kept s := by
  simp only [State.binMean]
  (repeat' split) <;> simp +decide

@[simp] theorem kept_learned (s : State) (bins : Tab (Int × Int × Nat)) (l : List Nat) : kept (s.learned bins l).1 = kept s := by
  induction l generalizing s with
  | nil => rfl
  | cons i l ih => unfold State.learned; dsimp only; rw [ih]; simp

@[simp] theorem kept_execProfileLearnDone (mn : Mn) (s : State) : keptOut (execProfileLearnDone mn s) s := by
  simp +decide [execProfileLearnDone]

end Sys2Proof.Laws
end

