-- ==== Sys2Proof/Laws/KeptDrives.lean ====
section
/-! SUPPORT. The operations of Machine/Drives.lean leave alone what `kept` gathers. -/

namespace Sys2Proof.Laws

open Sys2Proof.Machine

@[simp] theorem kept_execSpinStart (mn : Mn) (s : State) : keptOut (execSpinStart mn s) s := by
  simp +decide [execSpinStart]

@[simp] theorem kept_zeroAngle (s : State) (n : Nat) : kept (State.zeroAngle s n) = kept s := by
  simp +decide [State.zeroAngle]

@[simp] theorem kept_startFromRest (s : State) (n : Nat) (skip : Bool) : kept (State.startFromRest s n skip) = kept s := by
  simp +decide [State.startFromRest]

@[simp] theorem kept_execSenseDone (mn : Mn) (s : State) : keptOut (execSenseDone mn s) s := by
  simp +decide [execSenseDone]

@[simp] theorem kept_execReverseShortDone (mn : Mn) (s : State) : keptOut (execReverseShortDone mn s) s := by
  simp +decide [execReverseShortDone]

@[simp] theorem kept_execCoastWaitDone (mn : Mn) (s : State) : keptOut (execCoastWaitDone mn s) s := by
  simp +decide [execCoastWaitDone]

@[simp] theorem kept_execCatchDone (mn : Mn) (s : State) : keptOut (execCatchDone mn s) s := by
  simp +decide [execCatchDone]

@[simp] theorem kept_execRestDone (mn : Mn) (s : State) : keptOut (execRestDone mn s) s := by
  simp +decide [execRestDone]

@[simp] theorem kept_execAlignDone (mn : Mn) (s : State) : keptOut (execAlignDone mn s) s := by
  simp +decide [execAlignDone]

@[simp] theorem kept_execObserverHandover (mn : Mn) (s : State) : keptOut (execObserverHandover mn s) s := by
  simp +decide [execObserverHandover]

@[simp] theorem kept_execObserverTimeout (mn : Mn) (s : State) : keptOut (execObserverTimeout mn s) s := by
  simp +decide [execObserverTimeout]

@[simp] theorem kept_execSpinupTimeout (mn : Mn) (s : State) : keptOut (execSpinupTimeout mn s) s := by
  simp +decide [execSpinupTimeout]

@[simp] theorem kept_execSpeedReached (mn : Mn) (s : State) : keptOut (execSpeedReached mn s) s := by
  simp +decide [execSpeedReached]

@[simp] theorem kept_execSpeedPlan (mn : Mn) (s : State) : keptOut (execSpeedPlan mn s) s := by
  simp +decide [execSpeedPlan]

@[simp] theorem kept_execTargetDwell (mn : Mn) (s : State) : keptOut (execTargetDwell mn s) s := by
  simp +decide [execTargetDwell]

@[simp] theorem kept_execIdleSpinDown (mn : Mn) (s : State) : keptOut (execIdleSpinDown mn s) s := by
  simp +decide [execIdleSpinDown]

@[simp] theorem kept_execSlotReclaim (mn : Mn) (s : State) : keptOut (execSlotReclaim mn s) s := by
  simp only [execSlotReclaim]
  (repeat' split) <;> simp +decide

@[simp] theorem kept_execSpinDown (mn : Mn) (s : State) : keptOut (execSpinDown mn s) s := by
  simp +decide [execSpinDown]

@[simp] theorem kept_execShortBrakeDone (mn : Mn) (s : State) : keptOut (execShortBrakeDone mn s) s := by
  simp +decide [execShortBrakeDone]

@[simp] theorem kept_execCoastDownElapsed (mn : Mn) (s : State) : keptOut (execCoastDownElapsed mn s) s := by
  simp +decide [execCoastDownElapsed]

@[simp] theorem kept_execSledHoldCurrent (mn : Mn) (s : State) : keptOut (execSledHoldCurrent mn s) s := by
  simp +decide [execSledHoldCurrent]

@[simp] theorem kept_putSledStage (s : State) (t : List Nat) : kept (State.putSledStage s t) = kept s := by
  simp +decide [State.putSledStage]

@[simp] theorem kept_sledDone (s : State) (t : Nat) : kept (State.sledDone s t) = kept s := by
  simp +decide [State.sledDone]

@[simp] theorem kept_execSledTblStageToTable (cls : Fin 8) (s : State) : keptOut (execSledTblStageToTable cls s) s := by
  unfold execSledTblStageToTable
  refine kept_regCmd _ _ fun t => ?_
  simp +decide

@[simp] theorem kept_execSledTblTableToStage (cls : Fin 8) (s : State) : keptOut (execSledTblTableToStage cls s) s := by
  unfold execSledTblTableToStage
  refine kept_regCmd _ _ fun t => ?_
  simp +decide

@[simp] theorem kept_execSledTblDefaultToStage (cls : Fin 8) (s : State) : keptOut (execSledTblDefaultToStage cls s) s := by
  unfold execSledTblDefaultToStage
  refine kept_regCmd _ _ fun t => ?_
  simp +decide

@[simp] theorem kept_execTrayMoveStart (mn : Mn) (s : State) : keptOut (execTrayMoveStart mn s) s := by
  simp +decide [execTrayMoveStart]

@[simp] theorem kept_execTraySwitchReached (mn : Mn) (s : State) : keptOut (execTraySwitchReached mn s) s := by
  simp only [execTraySwitchReached]
  (repeat' split) <;> simp +decide

@[simp] theorem kept_execTrayTimeout (mn : Mn) (s : State) : keptOut (execTrayTimeout mn s) s := by
  simp +decide [execTrayTimeout]

@[simp] theorem kept_execServoPositionGrant (p : PortIx) (s : State) : keptOut (execServoPositionGrant p s) s := by
  simp +decide [execServoPositionGrant]

@[simp] theorem kept_execForceSafe (mn : Mn) (s : State) : keptOut (execForceSafe mn s) s := by
  unfold execForceSafe
  refine kept_regCmd _ _ fun t => ?_
  simp +decide

@[simp] theorem kept_clearFault (s : State) (n : Nat) : kept (State.clearFault s n) = kept s := by
  simp +decide [State.clearFault]

@[simp] theorem kept_execClrFault (mn : Mn) (s : State) : keptOut (execClrFault mn s) s := by
  unfold execClrFault
  refine kept_regCmd _ _ fun t => ?_
  simp +decide

@[simp] theorem kept_execUnisolate (mn : Mn) (pass clamped : Bool) (s : State) : keptOut (execUnisolate mn pass clamped s) s := by
  unfold execUnisolate
  refine kept_regCmd _ _ fun t => ?_
  simp +decide

end Sys2Proof.Laws
end

