-- ==== Sys2Proof/Laws/KeptBreathCmds.lean ====
section
/-! SUPPORT. The operations of Machine/BreathCmds.lean leave alone what `kept` gathers. -/

namespace Sys2Proof.Laws

open Sys2Proof.Machine

@[simp] theorem kept_execBreathRequest (cls : Fin 8) (who : Mn) (v : Nat) (prio : Fin 256) (cmd : Option (FnIx × Nat)) (s : State) : keptOut (execBreathRequest cls who v prio cmd s) s := by
  unfold execBreathRequest
  dsimp only
  generalize (cmd.map fun c => (c.1.val, c.2)) = cm
  split
  · split <;> simp
  · simp
  all_goals first | (simp; done) | skip
  all_goals (
    split
    · simp
    · split
      · rename_i h
        have k := kept_fst h (kept_request _ _)
        rw [kept_fin]
        (repeat' split) <;> first | exact k | simp [k]
      · rename_i h
        have k := kept_fst h (kept_request _ _)
        simp [k])

@[simp] theorem kept_execBreathRelease (cls : Fin 8) (who : Mn) (s : State) : keptOut (execBreathRelease cls who s) s := by
  simp only [execBreathRelease]
  (repeat' split) <;> simp +decide

@[simp] theorem kept_execRequestAged (cls : Fin 8) (who : Mn) (s : State) : keptOut (execRequestAged cls who s) s := by
  simp only [execRequestAged]
  (repeat' split) <;> simp +decide

@[simp] theorem kept_noteExcess (s : State) (n : Nat) : kept (State.noteExcess s n) = kept s := by
  simp +decide [State.noteExcess]

@[simp] theorem kept_reportPower (s : State) (n item v : Nat) : kept (State.reportPower s n item v) = kept s := by
  simp +decide [State.reportPower]

@[simp] theorem kept_overdrawTick (s : State) (d : Nat) : kept (State.overdrawTick s d) = kept s := by
  simp +decide [State.overdrawTick]

@[simp] theorem kept_noteSpinupLong (s : State) : kept (State.noteSpinupLong s) = kept s := by
  simp +decide [State.noteSpinupLong]

@[simp] theorem kept_execOverdrawTick (s : State) : keptOut (execOverdrawTick s) s := by
  simp +decide [execOverdrawTick]

@[simp] theorem kept_execOverdrawLong (d : DomainIx) (s : State) : keptOut (execOverdrawLong d s) s := by
  simp only [execOverdrawLong]
  (repeat' split) <;> simp +decide

@[simp] theorem kept_execMechExcess (mn : Mn) (s : State) : keptOut (execMechExcess mn s) s := by
  simp only [execMechExcess]
  (repeat' split) <;> simp +decide

@[simp] theorem kept_execBistGapExpiry (s : State) : keptOut (execBistGapExpiry s) s := by
  simp +decide [execBistGapExpiry]

end Sys2Proof.Laws
end

