-- ==== Sys2Proof/Laws/KeptPenetal.lean ====
section
/-! SUPPORT. The operations of Machine/Penetal.lean leave alone what `kept` gathers. -/

namespace Sys2Proof.Laws

open Sys2Proof.Machine

@[simp] theorem kept_dropLost (s : State) (n : Nat) : kept (State.dropLost s n) = kept s := by
  simp +decide [State.dropLost]

@[simp] theorem kept_packageDone (s : State) : kept (State.packageDone s) = kept s := by
  simp only [State.packageDone]
  (repeat' split) <;> simp +decide

@[simp] theorem kept_bfwEnd (s : State) (k cause version : Nat) : kept (State.bfwEnd s k cause version) = kept s := by
  simp only [State.bfwEnd]
  (repeat' split) <;> simp +decide

@[simp] theorem kept_bfwReturn (s : State) (k version : Nat) : kept (State.bfwReturn s k version) = kept s := by
  simp only [State.bfwReturn]
  (repeat' split) <;> simp +decide

@[simp] theorem kept_identify (s : State) (p : Nat) (i : DropIdent) : kept (State.identify s p i) = kept s := by
  simp +decide [State.identify]

@[simp] theorem kept_startTraining (s : State) (p : Nat) : kept (State.startTraining s p) = kept s := by
  simp +decide [State.startTraining]

@[simp] theorem kept_failTraining (s : State) (p cause : Nat) : kept (State.failTraining s p cause) = kept s := by
  simp +decide [State.failTraining]

@[simp] theorem kept_pairFault (s : State) (p : Nat) : kept (State.pairFault s p) = kept s := by
  simp +decide [State.pairFault]

@[simp] theorem kept_setLoop (s : State) (p ns : Nat) : kept (State.setLoop s p ns) = kept s := by
  simp +decide [State.setLoop]

@[simp] theorem kept_runFrames (s : State) (p : Nat) : kept (State.runFrames s p) = kept s := by
  simp +decide [State.runFrames]

@[simp] theorem kept_execTrainStepDone (p : PortIx) (x : TrainInfo) (s : State) : keptOut (execTrainStepDone p x s) s := by
  simp only [execTrainStepDone]
  (repeat' split) <;> simp +decide

@[simp] theorem kept_execTrainStepTimeout (p : PortIx) (partner : Bool) (s : State) : keptOut (execTrainStepTimeout p partner s) s := by
  simp only [execTrainStepTimeout]
  (repeat' split) <;> simp +decide

@[simp] theorem kept_execTrainRetry (p : PortIx) (s : State) : keptOut (execTrainRetry p s) s := by
  simp +decide [execTrainRetry]

@[simp] theorem kept_portEnable (s : State) (p : Nat) : kept (State.portEnable s p) = kept s := by
  simp +decide [State.portEnable]

@[simp] theorem kept_portDisable (s : State) (p : Nat) : kept (State.portDisable s p) = kept s := by
  simp +decide [State.portDisable]

@[simp] theorem kept_execPortEnable (p : PortIx) (s : State) : keptOut (execPortEnable p s) s := by
  unfold execPortEnable
  refine kept_regCmd _ _ fun t => ?_
  simp +decide

@[simp] theorem kept_execPortDisable (p : PortIx) (s : State) : keptOut (execPortDisable p s) s := by
  unfold execPortDisable
  refine kept_regCmd _ _ fun t => ?_
  simp +decide

@[simp] theorem kept_execRetrain (p : PortIx) (s : State) : keptOut (execRetrain p s) s := by
  unfold execRetrain
  refine kept_regCmd _ _ fun t => ?_
  simp +decide

@[simp] theorem kept_execClrCnt (p : PortIx) (s : State) : keptOut (execClrCnt p s) s := by
  unfold execClrCnt
  refine kept_regCmd _ _ fun t => ?_
  rw [kept_fin]
  refine kept_forEach_mem _ _ _ fun r hr u => kept_wr _ _ _ _ _ ?_
  revert r; decide

@[simp] theorem kept_execTxOvercurrent (p : PortIx) (lane : Fin 2) (s : State) : keptOut (execTxOvercurrent p lane s) s := by
  simp only [execTxOvercurrent]
  (repeat' split) <;> simp +decide

@[simp] theorem kept_execTxOvercurrentRetry (p : PortIx) (lane : Fin 2) (clear : Bool) (s : State) : keptOut (execTxOvercurrentRetry p lane clear s) s := by
  simp only [execTxOvercurrentRetry]
  (repeat' split) <;> simp +decide

@[simp] theorem kept_announceLoss (s : State) (p : Nat) : kept (State.announceLoss s p) = kept s := by
  simp +decide [State.announceLoss]

@[simp] theorem kept_execLaneLoss (p : PortIx) (lane : Fin 2) (s : State) : keptOut (execLaneLoss p lane s) s := by
  simp only [execLaneLoss]
  (repeat' split) <;> simp +decide

@[simp] theorem kept_execLaneRejoinAttempt (p : PortIx) (lock : Bool) (s : State) : keptOut (execLaneRejoinAttempt p lock s) s := by
  simp +decide [execLaneRejoinAttempt]

@[simp] theorem kept_execLaneRejoin (p : PortIx) (s : State) : keptOut (execLaneRejoin p s) s := by
  simp only [execLaneRejoin]
  (repeat' split) <;> simp +decide

@[simp] theorem kept_withdrawBursts (s : State) (p : Nat) (down : Bool) (k : Nat) : kept (s.withdrawBursts p down k) = kept s := by
  induction k generalizing s with
  | zero => rfl
  | succ k ih =>
    unfold State.withdrawBursts
    (repeat' split) <;> simp +decide [ih]

@[simp] theorem kept_replaceBursts (s : State) (p : Nat) (down : Bool) : kept (State.replaceBursts s p down) = kept s := by
  unfold State.replaceBursts
  extract_lets
  refine kept_forEach _ _ _ fun u e => ?_
  dsimp only
  (repeat' split) <;> simp +decide

@[simp] theorem kept_refitBursts (s : State) (p : Nat) : kept (State.refitBursts s p) = kept s := by
  simp +decide [State.refitBursts]

@[simp] theorem kept_switchMode (s : State) (p m : Nat) : kept (State.switchMode s p m) = kept s := by
  simp +decide [State.switchMode]

@[simp] theorem kept_execLaneModeSwitch (p : PortIx) (loopNs : Nat) (s : State) : keptOut (execLaneModeSwitch p loopNs s) s := by
  simp only [execLaneModeSwitch]
  (repeat' split) <;> simp +decide

@[simp] theorem kept_useMap (s : State) (p : Nat) (m : MapChange) : kept (State.useMap s p m) = kept s := by
  simp +decide [State.useMap]

@[simp] theorem kept_takeAnnounced (s : State) (p : Nat) : kept (State.takeAnnounced s p) = kept s := by
  simp only [State.takeAnnounced]
  (repeat' split) <;> simp +decide

@[simp] theorem kept_takeRate (s : State) (p : Nat) : kept (State.takeRate s p) = kept s := by
  simp +decide [State.takeRate]

@[simp] theorem kept_execUpstreamHeader (p : PortIx) (h : UpHeader) (s : State) : keptOut (execUpstreamHeader p h s) s := by
  simp +decide [execUpstreamHeader]

@[simp] theorem kept_execMapEpochChange (p : PortIx) (s : State) : keptOut (execMapEpochChange p s) s := by
  simp only [execMapEpochChange]
  (repeat' split) <;> simp +decide

@[simp] theorem kept_telemetry (s : State) (n idx v : Nat) : kept (State.telemetry s n idx v) = kept s := by
  simp +decide [State.telemetry]

@[simp] theorem kept_bridgeStatus (s : State) (n : Nat) (trayIn trayOut clamped disc lsup safe : Bool) : kept (State.bridgeStatus s n trayIn trayOut clamped disc lsup safe) = kept s := by
  simp +decide [State.bridgeStatus]

@[simp] theorem kept_lsupCheck (s : State) (n : Nat) (lsup : Bool) : kept (State.lsupCheck s n lsup) = kept s := by
  simp +decide [State.lsupCheck]

@[simp] theorem kept_bridgeReport (s : State) (n code detail : Nat) : kept (State.bridgeReport s n code detail) = kept s := by
  simp +decide [State.bridgeReport]

@[simp] theorem kept_restActuator (s : State) (n : Nat) : kept (State.restActuator s n) = kept s := by
  simp +decide [State.restActuator]

@[simp] theorem kept_execServoSlotReceived (p : PortIx) (k : Fin 16) (x : UpSlot) (onTime : Bool) (s : State) : keptOut (execServoSlotReceived p k x onTime s) s := by
  simp only [execServoSlotReceived]
  (repeat' split) <;> simp +decide

theorem kept_freeField (a : State × List Int) (i : Nat) : kept (State.freeField a i).1 = kept a.1 := rfl

theorem kept_freeFields (l : List Nat) (a : State × List Int) : kept (l.foldl State.freeField a).1 = kept a.1 := by
  induction l generalizing a with
  | nil => rfl
  | cons i l ih => rw [List.foldl_cons, ih, kept_freeField]

@[simp] theorem kept_execServoSlotMissing (p : PortIx) (k : Fin 16) (s : State) : keptOut (execServoSlotMissing p k s) s := by
  unfold execServoSlotMissing
  split
  · simp
  · rename_i n _
    extract_lets f v
    rw [kept_fin, kept_missSlot]
    simp only [f]
    rw [kept_freeFields, kept_modDrop]

@[simp] theorem kept_execActuatorRepeat (mn : Mn) (s : State) : keptOut (execActuatorRepeat mn s) s := by
  simp +decide [execActuatorRepeat]

@[simp] theorem kept_execLockTimeout (p : PortIx) (s : State) : keptOut (execLockTimeout p s) s := by
  simp +decide [execLockTimeout]

@[simp] theorem kept_execDropTimeout (mn : Mn) (s : State) : keptOut (execDropTimeout mn s) s := by
  simp +decide [execDropTimeout]

@[simp] theorem kept_execDropNotFound (mn : Mn) (s : State) : keptOut (execDropNotFound mn s) s := by
  simp +decide [execDropNotFound]

@[simp] theorem kept_restartChannel (s : State) (p a cause : Nat) : kept (State.restartChannel s p a cause) = kept s := by
  simp +decide [State.restartChannel]

@[simp] theorem kept_takeMgmt (s : State) (p a : Nat) (b : MgmtBody) : kept (State.takeMgmt s p a b) = kept s := by
  simp only [State.takeMgmt]
  (repeat' split) <;> simp +decide

@[simp] theorem kept_ackMgmt (s : State) (p a : Nat) : kept (State.ackMgmt s p a) = kept s := by
  simp +decide [State.ackMgmt]

@[simp] theorem kept_execMgmtMessage (p : PortIx) (a : Fin 65) (mseq mack : Fin 4096) (good : Bool) (b : MgmtBody) (s : State) : keptOut (execMgmtMessage p a mseq mack good b s) s := by
  simp +decide [execMgmtMessage]

@[simp] theorem kept_execMgmtResend (p : PortIx) (a : Fin 65) (s : State) : keptOut (execMgmtResend p a s) s := by
  simp only [execMgmtResend]
  (repeat' split) <;> simp +decide

@[simp] theorem kept_enterLowPower (s : State) (p : Nat) : kept (State.enterLowPower s p) = kept s := by
  simp +decide [State.enterLowPower]

@[simp] theorem kept_execLowpowerEntry (p : PortIx) (s : State) : keptOut (execLowpowerEntry p s) s := by
  simp +decide [execLowpowerEntry]

@[simp] theorem kept_execSleep (p : PortIx) (s : State) : keptOut (execSleep p s) s := by
  unfold execSleep
  refine kept_regCmd _ _ fun t => ?_
  simp +decide

@[simp] theorem kept_execPortWake (p : PortIx) (s : State) : keptOut (execPortWake p s) s := by
  unfold execPortWake
  refine kept_regCmd _ _ fun t => ?_
  simp +decide

@[simp] theorem kept_execPortWakeTimeout (p : PortIx) (s : State) : keptOut (execPortWakeTimeout p s) s := by
  simp +decide [execPortWakeTimeout]

end Sys2Proof.Laws
end

