-- ==== Sys2Proof/Laws/KeptChannel.lean ====
section
/-! SUPPORT. The operations of Machine/Channel.lean leave alone what `kept` gathers. -/

namespace Sys2Proof.Laws

open Sys2Proof.Machine

@[simp] theorem kept_setTap (s : State) (f t : Nat) (v : Int) : kept (State.setTap s f t v) = kept s := by
  simp +decide [State.setTap]

end Sys2Proof.Laws
end

