-- ==== Sys2Proof/Laws/KeptLanes.lean ====
section
/-! SUPPORT. The operations of Machine/Lanes.lean leave alone what `kept` gathers. -/

namespace Sys2Proof.Laws

open Sys2Proof.Machine

@[simp] theorem kept_execLaneBind (mn : Mn) (own : Bool) (s : State) : keptOut (execLaneBind mn own s) s := by
  simp +decide [execLaneBind]

@[simp] theorem kept_execLaneIdleRelease (mn : Mn) (s : State) : keptOut (execLaneIdleRelease mn s) s := by
  simp +decide [execLaneIdleRelease]

@[simp] theorem kept_stopRun (s : State) (f : Nat) : kept (State.stopRun s f) = kept s := by
  simp only [State.stopRun]
  (repeat' split) <;> simp +decide

@[simp] theorem kept_laneStat (s : State) (lane res : Nat) : kept (State.laneStat s lane res) = kept s := by
  simp +decide [State.laneStat]

@[simp] theorem kept_startMigration (s : State) (f g after : Nat) : kept (State.startMigration s f g after) = kept s := by
  simp +decide [State.startMigration]

@[simp] theorem kept_execLaneMigrate (lane : Fin 512) (s : State) : keptOut (execLaneMigrate lane s) s := by
  unfold execLaneMigrate
  refine kept_regCmd _ _ fun t => ?_
  (try dsimp only)
  (repeat' split) <;> simp +decide

@[simp] theorem kept_laneCmdDone (s : State) (f res : Nat) : kept (State.laneCmdDone s f res) = kept s := by
  simp +decide [State.laneCmdDone]

@[simp] theorem kept_testLane (s : State) (f op : Nat) : kept (State.testLane s f op) = kept s := by
  simp +decide [State.testLane]

@[simp] theorem kept_leftLane (s : State) (f : Nat) : kept (State.leftLane s f) = kept s := by
  simp +decide [State.leftLane]

@[simp] theorem kept_switchMigration (s : State) (f g : Nat) (store : Bool) : kept (State.switchMigration s f g store) = kept s := by
  simp +decide [State.switchMigration]

@[simp] theorem kept_execMigrationSwitch (f : LaneIx) (s : State) : keptOut (execMigrationSwitch f s) s := by
  simp only [execMigrationSwitch]
  (repeat' split) <;> simp +decide

@[simp] theorem kept_modRead (s : State) (n layer cluster : Nat) (f : ClusterRead → ClusterRead) : kept (State.modRead s n layer cluster f) = kept s := by
  simp +decide [State.modRead]

@[simp] theorem kept_verdict (s : State) (n layer cluster frame : Nat) (v : SectorX) : kept (State.verdict s n layer cluster frame v) = kept s := by
  simp +decide [State.verdict]

@[simp] theorem kept_dropTarget (s : State) (f g : Nat) : kept (State.dropTarget s f g) = kept s := by
  simp +decide [State.dropTarget]

@[simp] theorem kept_dropBegun (s : State) (f : Nat) : kept (State.dropBegun s f) = kept s := by
  simp +decide [State.dropBegun]

@[simp] theorem kept_rebindAfterFault (s : State) (f n : Nat) : kept (State.rebindAfterFault s f n).1 = kept s := by
  simp only [State.rebindAfterFault]
  (repeat' split) <;> simp +decide

@[simp] theorem kept_laneFault (s : State) (f detail : Nat) : kept (State.laneFault s f detail) = kept s := by
  simp only [State.laneFault]
  (repeat' split) <;> simp +decide

@[simp] theorem kept_execLaneFault (f : LaneIx) (cause : Fin 3) (s : State) : keptOut (execLaneFault f cause s) s := by
  simp +decide [execLaneFault]

@[simp] theorem kept_execLaneTest (lane : Fin 512) (s : State) : keptOut (execLaneTest lane s) s := by
  unfold execLaneTest
  refine kept_regCmd _ _ fun t => ?_
  simp +decide

@[simp] theorem kept_execLaneRetest (lane : Fin 512) (s : State) : keptOut (execLaneRetest lane s) s := by
  unfold execLaneRetest
  refine kept_regCmd _ _ fun t => ?_
  simp +decide

@[simp] theorem kept_laneTestEnd (s : State) (f : Nat) (pass : Bool) : kept (State.laneTestEnd s f pass) = kept s := by
  simp only [State.laneTestEnd]
  (repeat' split) <;> simp +decide

@[simp] theorem kept_execLaneTestDone (f : LaneIx) (pass : Bool) (s : State) : keptOut (execLaneTestDone f pass s) s := by
  simp +decide [execLaneTestDone]

@[simp] theorem kept_adapt (s : State) (f b : Nat) (eps : Int) (back : Nat) : kept (State.adapt s f b eps back) = kept s := by
  simp +decide [State.adapt]

@[simp] theorem kept_eraseFrame (s : State) (f layer cluster frame : Nat) : kept (State.eraseFrame s f layer cluster frame) = kept s := by
  simp +decide [State.eraseFrame]

@[simp] theorem kept_eraseSearch (s : State) (f b : Nat) : kept (State.eraseSearch s f b) = kept s := by
  simp only [State.eraseSearch]
  (repeat' split) <;> simp +decide

@[simp] theorem kept_startCodeword (s1 : State) (f b layer cluster frame : Nat) (fromSm2 : Bool) : kept (State.startCodeword s1 f b layer cluster frame fromSm2) = kept s1 := by
  simp +decide [State.startCodeword]

@[simp] theorem kept_takeFrame (s : State) (f b : Nat) (start : Int) (fromSm2 byMark : Bool) : kept (State.takeFrame s f b start fromSm2 byMark) = kept s := by
  simp only [State.takeFrame]
  (repeat' split) <;> simp +decide

@[simp] theorem kept_frameSync (s0 : State) (f b : Nat) : kept (State.frameSync s0 f b) = kept s0 := by
  simp only [State.frameSync]
  (repeat' split) <;> simp +decide

@[simp] theorem kept_lastLlr (s : State) (f b : Nat) : kept (State.lastLlr s f b) = kept s := by
  simp only [State.lastLlr]
  (repeat' split) <;> simp +decide

@[simp] theorem kept_endFrame (s : State) (f b : Nat) : kept (State.endFrame s f b) = kept s := by
  simp +decide [State.endFrame]

@[simp] theorem kept_regionStep (s : State) (f b : Nat) (hole : Bool) : kept (State.regionStep s f b hole) = kept s := by
  simp +decide [State.regionStep]

@[simp] theorem kept_timingState (s : State) (f b st : Nat) : kept (State.timingState s f b st) = kept s := by
  simp +decide [State.timingState]

@[simp] theorem kept_preambleStep (s : State) (f b : Nat) : kept (State.preambleStep s f b) = kept s := by
  simp +decide [State.preambleStep]

@[simp] theorem kept_judgeTiming (s : State) (f b : Nat) : kept (State.judgeTiming s f b) = kept s := by
  simp +decide [State.judgeTiming]

@[simp] theorem kept_updateTiming (s : State) (f b : Nat) : kept (State.updateTiming s f b) = kept s := by
  simp +decide [State.updateTiming]

@[simp] theorem kept_decideBit (s : State) (f b : Nat) : kept (State.decideBit s f b) = kept s := by
  simp +decide [State.decideBit]

@[simp] theorem kept_syncStep (s : State) (f b : Nat) : kept (State.syncStep s f b) = kept s := by
  simp +decide [State.syncStep]

@[simp] theorem kept_opcSegmentEnd (s : State) (f b : Nat) : kept (State.opcSegmentEnd s f b) = kept s := by
  simp +decide [State.opcSegmentEnd]

@[simp] theorem kept_bdWindow (s : State) (f b : Nat) : kept (State.bdWindow s f b) = kept s := by
  simp +decide [State.bdWindow]

@[simp] theorem kept_bitInstant (s : State) (f b : Nat) : kept (State.bitInstant s f b) = kept s := by
  simp +decide [State.bitInstant]

@[simp] theorem kept_searchTone (s : State) (f b : Nat) : kept (State.searchTone s f b) = kept s := by
  simp +decide [State.searchTone]

@[simp] theorem kept_rfSample (s : State) (f ovld : Nat) (v : List Nat) : kept (State.rfSample s f ovld v) = kept s := by
  simp +decide [State.rfSample]

@[simp] theorem kept_takeBurst (s : State) (f : Nat) (seq : Fin 4096) (ovld : Fin 16) (gain : Word) (words : List (BitVec 128)) (place : Option (Fin 16 × Fin 1048576 × Fin 8)) : kept (State.takeBurst s f seq ovld gain words place) = kept s := by
  simp +decide [State.takeBurst]

@[simp] theorem kept_execRfBurst (f : LaneIx) (seq : Fin 4096) (ovld : Fin 16) (gain : Word) (words : List (BitVec 128)) (place : Option (Fin 16 × Fin 1048576 × Fin 8)) (s : State) : keptOut (execRfBurst f seq ovld gain words place s) s := by
  unfold execRfBurst
  rw [kept_fin, kept_foldl]
  · simp
  · intro t g; simp

@[simp] theorem kept_loadLevels (s : State) (f : Nat) (levels : List Nat) : kept (State.loadLevels s f levels) = kept s := by
  simp +decide [State.loadLevels]

@[simp] theorem kept_execLevelBankSwitch (f : LaneIx) (s : State) : keptOut (execLevelBankSwitch f s) s := by
  simp only [execLevelBankSwitch]
  (repeat' split) <;> simp +decide

@[simp] theorem kept_execWriteStop (f : LaneIx) (s : State) : keptOut (execWriteStop f s) s := by
  simp +decide [execWriteStop]

@[simp] theorem kept_execWriteStopTimeout (f : LaneIx) (s : State) : keptOut (execWriteStopTimeout f s) s := by
  simp only [execWriteStopTimeout]
  (repeat' split) <;> simp +decide

end Sys2Proof.Laws
end

