-- ==== Sys2Proof/Laws/KeptMoraine.lean ====
section
/-! SUPPORT. The operations of Machine/Moraine.lean leave alone what `kept` gathers. -/

namespace Sys2Proof.Laws

open Sys2Proof.Machine

@[simp] theorem kept_modCw (s : State) (id : Nat) (f : Codeword → Codeword) : kept (State.modCw s id f) = kept s := by
  simp +decide [State.modCw]

@[simp] theorem kept_stageCw (s : State) (id : Nat) : kept (State.stageCw s id) = kept s := by
  simp +decide [State.stageCw]

@[simp] theorem kept_execLlrMove (s : State) : keptOut (execLlrMove s) s := by
  simp only [execLlrMove]
  (repeat' split) <;> simp +decide

@[simp] theorem kept_execCodewordUrgent (cw : Nat) (s : State) : keptOut (execCodewordUrgent cw s) s := by
  simp only [execCodewordUrgent]
  (repeat' split) <;> simp +decide

@[simp] theorem kept_dropCw (s : State) (w : Codeword) : kept (State.dropCw s w) = kept s := by
  simp only [State.dropCw]
  (repeat' split) <;> simp +decide

@[simp] theorem kept_uncorrectable (s : State) (w : Codeword) : kept (State.uncorrectable s w) = kept s := by
  simp +decide [State.uncorrectable]

@[simp] theorem kept_showDecoder (s : State) (d : Nat) (w : Codeword) : kept (State.showDecoder s d w) = kept s := by
  simp +decide [State.showDecoder]

@[simp] theorem kept_giveDecoder (s : State) (d : Nat) (w : Codeword) : kept (State.giveDecoder s d w) = kept s := by
  simp +decide [State.giveDecoder]

@[simp] theorem kept_passToUrgent (s : State) (d : Nat) : kept (State.passToUrgent s d) = kept s := by
  simp only [State.passToUrgent]
  (repeat' split) <;> simp +decide

@[simp] theorem kept_execParkComplete (d : DecIx) (s : State) : keptOut (execParkComplete d s) s := by
  simp only [execParkComplete]
  (repeat' split) <;> simp +decide

@[simp] theorem kept_execDecoderGrant (s : State) : keptOut (execDecoderGrant s) s := by
  simp only [execDecoderGrant]
  (repeat' split) <;> simp +decide

@[simp] theorem kept_noteEmap (s : State) (w : Codeword) : kept (State.noteEmap s w) = kept s := by
  simp +decide [State.noteEmap]

@[simp] theorem kept_converged (s : State) (d : Nat) (w : Codeword) (word : Nat) : kept (State.converged s d w word) = kept s := by
  simp +decide [State.converged]

@[simp] theorem kept_afterVerdict (s : State) (d : Nat) (preempt : Bool) : kept (State.afterVerdict s d preempt) = kept s := by
  simp +decide [State.afterVerdict]

@[simp] theorem kept_execDecodeIteration (d : DecIx) (s : State) : keptOut (execDecodeIteration d s) s := by
  simp only [execDecodeIteration]
  (repeat' split) <;> simp +decide

@[simp] theorem kept_execWallTimeout (cw : Nat) (s : State) : keptOut (execWallTimeout cw s) s := by
  simp only [execWallTimeout]
  (repeat' split) <;> simp +decide

@[simp] theorem kept_execStarveTimeout (cw : Nat) (s : State) : keptOut (execStarveTimeout cw s) s := by
  simp only [execStarveTimeout]
  (repeat' split) <;> simp +decide

@[simp] theorem kept_decoderWatchdog (s : State) (d : Nat) (error : Bool) : kept (State.decoderWatchdog s d error) = kept s := by
  simp only [State.decoderWatchdog]
  (repeat' split) <;> simp +decide

@[simp] theorem kept_execDecoderWatchdog (d : DecIx) (error : Bool) (s : State) : keptOut (execDecoderWatchdog d error s) s := by
  simp +decide [execDecoderWatchdog]

@[simp] theorem kept_decCmd (s : State) (d op : Nat) (ok : Bool) : kept (s.decCmd d op ok).2 = kept s := by
  unfold State.decCmd
  (repeat' split) <;> simp +decide

theorem kept_decCmd_some {s t u : State} {d op : Nat} {ok : Bool} (h : s.decCmd d op ok = (some t, u)) : kept t = kept s := by
  unfold State.decCmd at h
  dsimp only at h
  (repeat' split at h) <;> cases h
  simp +decide

theorem kept_decCmd_none {s u : State} {d op : Nat} {ok : Bool} {o : Option State} (h : s.decCmd d op ok = (o, u)) : kept u = kept s := by
  rw [← kept_decCmd s d op ok, h]

@[simp] theorem kept_execDecTest (d : DecIx) (s : State) : keptOut (execDecTest d s) s := by
  unfold execDecTest
  refine kept_regCmd _ _ fun t => ?_
  (try dsimp only)
  split
  · rename_i h
    (repeat' split) <;> simp +decide [kept_decCmd_some h]
  · rename_i h
    simp [kept_decCmd_none h]

@[simp] theorem kept_execDecEnable (d : DecIx) (s : State) : keptOut (execDecEnable d s) s := by
  unfold execDecEnable
  refine kept_regCmd _ _ fun t => ?_
  (try dsimp only)
  split
  · rename_i h
    (repeat' split) <;> simp +decide [kept_decCmd_some h]
  · rename_i h
    simp [kept_decCmd_none h]

@[simp] theorem kept_execDecDisable (d : DecIx) (s : State) : keptOut (execDecDisable d s) s := by
  unfold execDecDisable
  refine kept_regCmd _ _ fun t => ?_
  (try dsimp only)
  split
  · rename_i h
    (repeat' split) <;> simp +decide [kept_decCmd_some h]
  · rename_i h
    simp [kept_decCmd_none h]

@[simp] theorem kept_decTestEnd (s : State) (d : Nat) (pass : Bool) : kept (State.decTestEnd s d pass) = kept s := by
  simp +decide [State.decTestEnd]

@[simp] theorem kept_execDecoderTestDone (d : DecIx) (pass : Bool) (s : State) : keptOut (execDecoderTestDone d pass s) s := by
  simp +decide [execDecoderTestDone]

@[simp] theorem kept_logUnreadable (s : State) (r : ClusterRead) : kept (State.logUnreadable s r) = kept s := by
  simp +decide [State.logUnreadable]

@[simp] theorem kept_outerDone (s : State) (r : ClusterRead) (l : List SectorX) (done : Bool) (revs : Nat) : kept (State.outerDone s r l done revs) = kept s := by
  simp +decide [State.outerDone]

@[simp] theorem kept_execOuterDecode (mn : Mn) (layer : Fin 16) (cluster : Nat) (s : State) : keptOut (execOuterDecode mn layer cluster s) s := by
  simp only [execOuterDecode]
  (repeat' split) <;> simp +decide

@[simp] theorem kept_execSectorRetryRev (mn : Mn) (layer : Fin 16) (cluster : Nat) (s : State) : keptOut (execSectorRetryRev mn layer cluster s) s := by
  simp only [execSectorRetryRev]
  (repeat' split) <;> simp +decide

end Sys2Proof.Laws
end

