-- ==== Sys2Proof/Laws/KeptCalib.lean ====
section
/-! SUPPORT. The operations of Machine/Calib.lean leave alone what `kept` gathers. -/

namespace Sys2Proof.Laws

open Sys2Proof.Machine

@[simp] theorem kept_tempStale (s : State) (space index layer : Nat) : kept (State.tempStale s space index layer) = kept s := by
  simp +decide [State.tempStale]

@[simp] theorem kept_execCalTempCheck (s : State) : keptOut (execCalTempCheck s) s := by
  simp +decide [execCalTempCheck]

@[simp] theorem kept_rampOffsets (s : State) (n layer : Nat) : kept (State.rampOffsets s n layer) = kept s := by
  simp +decide [State.rampOffsets]

@[simp] theorem kept_refreshLevels (s : State) (n : Nat) : kept (State.refreshLevels s n) = kept s := by
  simp only [State.refreshLevels]
  (repeat' split) <;> simp +decide

@[simp] theorem kept_abandonAutoRuns (s : State) (n : Nat) : kept (State.abandonAutoRuns s n) = kept s := by
  simp +decide [State.abandonAutoRuns]

@[simp] theorem kept_beginRun (s : State) (space index layer item : Nat) : kept (State.beginRun s space index layer item) = kept s := by
  simp +decide [State.beginRun]

@[simp] theorem kept_loseEntry (s : State) (w : WbEntry) : kept (State.loseEntry s w) = kept s := by
  simp +decide [State.loseEntry]

@[simp] theorem kept_failEntry (s : State) (w : WbEntry) (st : Nat) : kept (State.failEntry s w st) = kept s := by
  simp only [State.failEntry]
  (repeat' split) <;> simp +decide

@[simp] theorem kept_failWrites (s : State) (n layer st : Nat) : kept (State.failWrites s n layer st) = kept s := by
  simp +decide [State.failWrites]

@[simp] theorem kept_failRun (s : State) (space index layer item cause : Nat) (value : Int) : kept (State.failRun s space index layer item cause value) = kept s := by
  simp +decide [State.failRun]

@[simp] theorem kept_startOpc (s : State) (n layer probe : Nat) : kept (State.startOpc s n layer probe) = kept s := by
  simp +decide [State.startOpc]

@[simp] theorem kept_execCalRetry (space : Fin 4) (index : Fin 4096) (layer : Fin 10) (item : Fin 6) (s : State) : keptOut (execCalRetry space index layer item s) s := by
  simp +decide [execCalRetry]

@[simp] theorem kept_passRun (s : State) (space index layer item : Nat) (d : List Nat) : kept (State.passRun s space index layer item d) = kept s := by
  simp +decide [State.passRun]

@[simp] theorem kept_calErr (s : State) (items err : Nat) : kept (State.calErr s items err) = kept s := by
  simp +decide [State.calErr]

theorem kept_calCmd (s : State) (items : Nat) (f : State → Nat → Nat → Nat → State) (h : ∀ t a b c, kept (f t a b c) = kept t) : keptOut (s.calCmd items f) s := by
  unfold State.calCmd
  split
  · simp +decide
  · extract_lets q e
    split <;> simp [h]

@[simp] theorem kept_execCalReadWindow (items : Fin 64) (s : State) : keptOut (execCalReadWindow items s) s := by
  unfold execCalReadWindow
  refine kept_regCmd _ _ fun t => ?_
  refine kept_calCmd _ _ _ fun u a b c => ?_
  try dsimp only
  first | (simp +decide; done) | ((repeat' split) <;> simp +decide)

@[simp] theorem kept_putCal (s : State) (space index layer : Nat) (d : List Nat) : kept (State.putCal s space index layer d) = kept s := by
  simp +decide [State.putCal]

@[simp] theorem kept_execCalWriteWindow (items : Fin 64) (s : State) : keptOut (execCalWriteWindow items s) s := by
  unfold execCalWriteWindow
  refine kept_regCmd _ _ fun t => ?_
  refine kept_calCmd _ _ _ fun u a b c => ?_
  try dsimp only
  first | (simp +decide; done) | ((repeat' split) <;> simp +decide)

@[simp] theorem kept_execCalMarkStale (items : Fin 64) (s : State) : keptOut (execCalMarkStale items s) s := by
  unfold execCalMarkStale
  refine kept_regCmd _ _ fun t => ?_
  refine kept_calCmd _ _ _ fun u a b c => ?_
  try dsimp only
  first | (simp +decide; done) | ((repeat' split) <;> simp +decide)

end Sys2Proof.Laws
end

