-- ==== Sys2Proof/Laws/KeptDisc.lean ====
section
/-! SUPPORT. The operations of Machine/Disc.lean leave alone what `kept` gathers. -/

namespace Sys2Proof.Laws

open Sys2Proof.Machine

theorem kept_allocate {s : State} {n count : Nat} {r : State × List Nat} (h : s.allocate n count = some r) : kept r.1 = kept s := by
  unfold State.allocate at h
  obtain ⟨k, -, rfl⟩ := Option.map_eq_some_iff.mp h
  simp

@[simp] theorem kept_modStripe (s : State) (id num : Nat) (g : StripeX → StripeX) : kept (State.modStripe s id num g) = kept s := by
  simp +decide [State.modStripe]

theorem kept_ownWrite (s : State) (n lba : Nat) (data : List Nat) (stripe : Nat × Nat × Nat) (reloc : Bool) (from_ : Option Nat) (remap : List (Nat × Nat × Nat)) {t : State} (h : State.ownWrite s n lba data stripe reloc from_ remap = some t) : kept t = kept s := by
  unfold State.ownWrite at h
  split at h
  · cases h
  · obtain ⟨r, hr, rfl⟩ := Option.map_eq_some_iff.mp h
    simp [kept_allocate hr]

@[simp] theorem kept_writeParity (s : State) (id num j : Nat) (blocks : List Nat) : kept (State.writeParity s id num j blocks) = kept s := by
  unfold State.writeParity
  dsimp only
  split
  · rfl
  · split
    · rfl
    · rename_i h; exact kept_ownWrite _ _ _ _ _ _ _ _ h

@[simp] theorem kept_closeStripe (s : State) (id num : Nat) : kept (State.closeStripe s id num) = kept s := by
  simp only [State.closeStripe]
  (repeat' split) <;> simp +decide

@[simp] theorem kept_makeRoom (s : State) (id : Nat) : kept (State.makeRoom s id) = kept s := by
  simp only [State.makeRoom]
  (repeat' split) <;> simp +decide

@[simp] theorem kept_joinStripe (s : State) (id i p : Nat) (blocks : List Nat) (close : Bool) : kept (State.joinStripe s id i p blocks close).1 = kept s := by
  simp only [State.joinStripe]
  (repeat' split) <;> simp +decide

@[simp] theorem kept_floeDurables (s : State) : kept (State.floeDurables s) = kept s := by
  simp +decide [State.floeDurables]

@[simp] theorem kept_askWrite (s : State) (n prio : Nat) (cmd : Option (Nat × Nat)) : kept (State.askWrite s n prio cmd).1 = kept s := by
  simp only [State.askWrite]
  (repeat' split) <;> simp +decide

@[simp] theorem kept_addMaps (s : State) (id i : Nat) (l : List Extent) : kept (State.addMaps s id i l) = kept s := by
  simp +decide [State.addMaps]

@[simp] theorem kept_joinAll (s : State) (id i : Nat) (close : Bool) (us : List (Nat × List Nat)) (l : List (Nat × Nat)) : kept (State.joinAll s id i close us l).1 = kept s := by
  induction us generalizing s l with
  | nil => rfl
  | cons u us ih => unfold State.joinAll; dsimp only; rw [ih]; simp

@[simp] theorem kept_noteCommit (s : State) (id : Nat) (m : MemberCommit) : kept (State.noteCommit s id m) = kept s := by
  simp +decide [State.noteCommit]

@[simp] theorem kept_ownDurable (s : State) (w : WbEntry) (id num i : Nat) (exts : List Extent) : kept (State.ownDurable s w id num i exts) = kept s := by
  simp +decide [State.ownDurable]

@[simp] theorem kept_writeDurable (s : State) (gen : Nat) (w : WbEntry) (exts : List Extent) : kept (State.writeDurable s gen w exts) = kept s := by
  simp only [State.writeDurable]
  (repeat' split) <;> simp +decide

@[simp] theorem kept_refuseFull (s : State) (n : Nat) (l : List WbEntry) : kept (State.refuseFull s n l).1 = kept s := by
  unfold State.refuseFull
  split
  · rfl
  · rename_i id i _
    have h : ∀ (l : List WbEntry) (a : State × List WbEntry), kept (l.foldl (fun (a : State × List WbEntry) w =>
        if i < (s.set_ id).k ∧ w.stripe.isNone ∧ a.1.stripesFull id i ((a.2 ++ [w]).foldl (fun k x => k + x.clusters.length) 0) then
          ((a.1.failEntry w 0x0705).raise .FLOE_EVENT_SET_FULL, a.2)
        else (a.1, a.2 ++ [w])) a).1 = kept a.1 := by
      intro l
      induction l with
      | nil => intro a; rfl
      | cons x r ih => intro a; rw [List.foldl_cons, ih]; split <;> simp +decide
    exact h _ _

@[simp] theorem kept_markCarried (s : State) (l : List WbEntry) : kept (State.markCarried s l) = kept s := by
  simp +decide [State.markCarried]

@[simp] theorem kept_appendDone (s : State) (n : Nat) : kept (State.appendDone s n) = kept s := by
  simp +decide [State.appendDone]

@[simp] theorem kept_appendFailed (s : State) (n : Nat) : kept (State.appendFailed s n) = kept s := by
  simp +decide [State.appendFailed]

@[simp] theorem kept_endRun (s : State) (n : Nat) : kept (State.endRun s n) = kept s := by
  simp only [State.endRun]
  (repeat' split) <;> simp +decide

@[simp] theorem kept_execMapAppend (mn : Mn) (ok : Bool) (s : State) : keptOut (execMapAppend mn ok s) s := by
  unfold execMapAppend
  split
  · simp
  · split <;> (rename_i h; have k := kept_fst h (kept_askWrite _ _ _ _); rw [kept_fin])
    · split <;> simp [k]
    · exact k
    · rw [kept_endRun, kept_foldl, k]; intro t w; simp

@[simp] theorem kept_execAppendRetry (mn : Mn) (s : State) : keptOut (execAppendRetry mn s) s := by
  simp +decide [execAppendRetry]

end Sys2Proof.Laws
end

