-- ==== Sys2Proof/Laws/KeptWriteSide.lean ====
section
/-! SUPPORT. The operations of Machine/WriteSide.lean leave alone what `kept` gathers. -/

namespace Sys2Proof.Laws

open Sys2Proof.Machine

@[simp] theorem kept_opcBank (s : State) (n f : Nat) (r : RunX) (x0 : Int) : kept (State.opcBank s n f r x0).1 = kept s := by
  simp only [State.opcBank]
  (repeat' split) <;> simp +decide

@[simp] theorem kept_sendWriteBurst (s9 : State) (n t17 : Nat) : kept (State.sendWriteBurst s9 n t17) = kept s9 := by
  simp only [State.sendWriteBurst]
  (repeat' split) <;> simp +decide

@[simp] theorem kept_execFrameTick (p : PortIx) (s : State) : keptOut (execFrameTick p s) s := by
  simp +decide [execFrameTick]

end Sys2Proof.Laws
end

