-- ==== Sys2Proof/Laws/KeptDataCmds.lean ====
section
/-! SUPPORT. The operations of Machine/DataCmds.lean leave alone what `kept` gathers. -/

namespace Sys2Proof.Laws

open Sys2Proof.Machine

@[simp] theorem kept_execDescriptorFetched (fn : FnIx) (qpid : Nat) (d : Desc) (s : State) : keptOut (execDescriptorFetched fn qpid d s) s := by
  simp +decide [execDescriptorFetched]

@[simp] theorem kept_runCmd (s : State) (fn tag op : Nat) (check : State → Ctx → Nat) (k : State → Ctx → State) (h : ∀ t c, kept (k t c) = kept t) : keptOut (s.runCmd fn tag op check k) s := by
  unfold State.runCmd
  (repeat' split) <;> simp [h]

@[simp] theorem kept_startCtx (s : State) (c : Ctx) : kept (State.startCtx s c) = kept s := by
  simp +decide [State.startCtx]

@[simp] theorem kept_dropReads (s : State) (n : Nat) : kept (State.dropReads s n) = kept s := by
  simp +decide [State.dropReads]

@[simp] theorem kept_wantHead (s : State) (n layer cluster : Nat) : kept (State.wantHead s n layer cluster) = kept s := by
  simp +decide [State.wantHead]

@[simp] theorem kept_wantBd (s : State) (n lba : Nat) : kept (State.wantBd s n lba) = kept s := by
  simp +decide [State.wantBd]

@[simp] theorem kept_wantCluster (s : State) (n layer cluster : Nat) : kept (State.wantCluster s n layer cluster) = kept s := by
  simp +decide [State.wantCluster]

@[simp] theorem kept_fetchClusters (s : State) (c : Ctx) (l : List Src) : kept (State.fetchClusters s c l) = kept s := by
  unfold State.fetchClusters
  extract_lets s1 first
  have k1 : kept s1 = kept s := by
    refine kept_foldl _ _ _ fun t x => ?_
    split <;> simp
  clear_value s1 first
  split
  · split <;> simp [k1]
  · simp [k1]

@[simp] theorem kept_sendBlocks (s : State) (c : Ctx) (l : List (Nat × Nat)) : kept (State.sendBlocks s c l) = kept s := by
  simp +decide [State.sendBlocks]

@[simp] theorem kept_sendReady (s : State) (c : Ctx) (dma : Dma) (l : List Src) : kept (State.sendReady s c dma l) = kept s := by
  simp +decide [State.sendReady]

@[simp] theorem kept_deliver (s : State) (c : Ctx) (dma : Dma) (l : List Src) : kept (State.deliver s c dma l) = kept s := by
  simp only [State.deliver]
  (repeat' split) <;> simp +decide

@[simp] theorem kept_execRead (fn : FnIx) (tag : Nat) (dma : Dma) (s : State) : keptOut (execRead fn tag dma s) s := by
  unfold execRead
  first | refine kept_runCmd _ _ _ _ _ _ fun t c => ?_ | refine kept_runAdmin _ _ _ _ _ fun t c => ?_ | refine kept_runFloe _ _ _ _ _ fun t c => ?_
  (try dsimp only)
  (repeat' split) <;> simp +decide

@[simp] theorem kept_execVerify (fn : FnIx) (tag : Nat) (s : State) : keptOut (execVerify fn tag s) s := by
  unfold execVerify
  first | refine kept_runCmd _ _ _ _ _ _ fun t c => ?_ | refine kept_runAdmin _ _ _ _ _ fun t c => ?_ | refine kept_runFloe _ _ _ _ _ fun t c => ?_
  (try dsimp only)
  (repeat' split) <;> simp +decide

@[simp] theorem kept_modWb (s : State) (id : Nat) (f : WbEntry → WbEntry) : kept (State.modWb s id f) = kept s := by
  simp +decide [State.modWb]

@[simp] theorem kept_openWrite (s : State) (c : Ctx) : kept (State.openWrite s c) = kept s := by
  simp +decide [State.openWrite]

@[simp] theorem kept_execWriteAccepted (fn : FnIx) (tag : Nat) (data : List Nat) (dma : Dma) (s : State) : keptOut (execWriteAccepted fn tag data dma s) s := by
  unfold execWriteAccepted
  split
  · dsimp only
    split
    · simp
    · split
      · simp
      · (repeat' split) <;> first | (simp; done) | (have k := kept_allocate ‹State.allocate _ _ _ = some _›; simp at k; simp [k])
  · simp

@[simp] theorem kept_startRun (s : State) (f : Nat) (w : WbEntry) : kept (State.startRun s f w) = kept s := by
  simp +decide [State.startRun]

@[simp] theorem kept_towardRun (s : State) (w0 : WbEntry) : kept (State.towardRun s w0) = kept s := by
  unfold State.towardRun
  extract_lets n bd s0
  have k0 : ∀ r, s0 = some r → kept r.1 = kept s := by
    intro r h
    simp only [s0] at h
    split at h
    · cases h; rfl
    · obtain ⟨r, hr, hk⟩ := Option.map_eq_some_iff.mp h
      cases hk
      simp [kept_allocate hr]
  clear_value s0
  rcases s0 with _ | ⟨s1, w⟩
  · simp
  · have k1 : kept s1 = kept s := k0 _ rfl
    dsimp -zeta only
    extract_lets layer want s2
    have kw : ∀ t, kept (want t) = kept t := by
      intro t; simp only [want]; split <;> simp
    have k2 : kept s2 = kept s := (kw _).trans k1
    clear_value want s2
    split
    · exact k1
    · split
      · exact (kw _).trans k1
      · split
        · exact k2
        · split
          · simp [k2]
          · split
            · exact k2
            · split
              · exact k2
              · split
                · simp [k2]
                · split <;> (rename_i h; have k := ((kept_fst h (kept_askWrite _ _ _ _)).trans k2); simp [k])

@[simp] theorem kept_runWritten (s : State) (f : Nat) (w : WbEntry) : kept (State.runWritten s f w) = kept s := by
  simp +decide [State.runWritten]

@[simp] theorem kept_execWrite (fn : Fin 257) (tag : Nat) (s : State) : keptOut (execWrite fn tag s) s := by
  simp only [execWrite]
  (repeat' split) <;> simp +decide

@[simp] theorem kept_execCommit (fn : FnIx) (tag : Nat) (s : State) : keptOut (execCommit fn tag s) s := by
  simp +decide [execCommit]

@[simp] theorem kept_scheduleHint (s : State) (n layer : Nat) (tracks : Int) : kept (State.scheduleHint s n layer tracks).1 = kept s := by
  simp only [State.scheduleHint]
  (repeat' split) <;> simp +decide

@[simp] theorem kept_execSeekHint (fn : FnIx) (tag layer : Nat) (tracks : Int) (s : State) : keptOut (execSeekHint fn tag layer tracks s) s := by
  unfold execSeekHint
  refine kept_runCmd _ _ _ _ _ _ fun t c => ?_
  extract_lets n only at_ r
  split
  · simp
  · have k1 : kept r.1 = kept t := by
      simp only [r]
      (repeat' split) <;> simp
    clear_value r
    obtain ⟨u, d⟩ := r
    cases d <;> simp_all

@[simp] theorem kept_refreshCluster (s : State) (n : Nat) (r : ClusterRead) : kept (State.refreshCluster s n r) = kept s := by
  unfold State.refreshCluster
  refine kept_forEach _ _ _ fun t e => ?_
  split
  · rfl
  · rename_i h; have k := kept_allocate h; simp at k; simp [k]

@[simp] theorem kept_servoTestRegs (s : State) (c : Nat) (d : Desc) : kept (State.servoTestRegs s c d) = kept s := by
  simp +decide [State.servoTestRegs]

@[simp] theorem kept_beginServoTest (s : State) (c : Nat) (x : Ctx) : kept (State.beginServoTest s c x) = kept s := by
  simp +decide [State.beginServoTest]

@[simp] theorem kept_endServoTest (s : State) (c : Nat) (x : Ctx) (dma : Dma) : kept (State.endServoTest s c x dma) = kept s := by
  simp +decide [State.endServoTest]

@[simp] theorem kept_execServoTest (fn : FnIx) (tag : Nat) (dma : Dma) (s : State) : keptOut (execServoTest fn tag dma s) s := by
  simp +decide [execServoTest]

@[simp] theorem kept_withdrawStart (s : State) (c : Ctx) : kept (State.withdrawStart s c) = kept s := by
  simp +decide [State.withdrawStart]

@[simp] theorem kept_withdrawTray (s : State) (c : Ctx) : kept (State.withdrawTray s c) = kept s := by
  simp +decide [State.withdrawTray]

@[simp] theorem kept_leaveOrphan (s : State) (c : Ctx) : kept (State.leaveOrphan s c) = kept s := by
  simp +decide [State.leaveOrphan]

@[simp] theorem kept_freeEngines (s : State) (c : Ctx) : kept (State.freeEngines s c) = kept s := by
  simp only [State.freeEngines]
  (repeat' split) <;> simp +decide

@[simp] theorem kept_withdrawAppend (s : State) (n : Nat) : kept (State.withdrawAppend s n) = kept s := by
  simp +decide [State.withdrawAppend]

@[simp] theorem kept_haltCmd (s : State) (c : Ctx) : kept (State.haltCmd s c) = kept s := by
  simp only [State.haltCmd]
  (repeat' split) <;> simp +decide

@[simp] theorem kept_stopCmd (s : State) (c : Ctx) (st : Nat) : kept (State.stopCmd s c st) = kept s := by
  simp +decide [State.stopCmd]

@[simp] theorem kept_execAbort (fn : FnIx) (tag : Nat) (s : State) : keptOut (execAbort fn tag s) s := by
  unfold execAbort
  first | refine kept_runCmd _ _ _ _ _ _ fun t c => ?_ | refine kept_runAdmin _ _ _ _ _ fun t c => ?_ | refine kept_runFloe _ _ _ _ _ fun t c => ?_
  (try dsimp only)
  (repeat' split) <;> simp +decide

@[simp] theorem kept_execCommandDeadline (fn : FnIx) (tag : Nat) (s : State) : keptOut (execCommandDeadline fn tag s) s := by
  simp only [execCommandDeadline]
  (repeat' split) <;> simp +decide

end Sys2Proof.Laws
end

