-- ==== Sys2Proof/Laws/KeptDiscRecords.lean ====
section
/-! SUPPORT. The operations of Machine/DiscRecords.lean leave alone what `kept` gathers. -/

namespace Sys2Proof.Laws

open Sys2Proof.Machine

theorem kept_applyCal (s : State) (c : CalImg) {t : State} (h : State.applyCal s c = some t) : kept t = kept s := by
  revert h; simp only [State.applyCal]; (repeat' split) <;> (intro h; first | cases h | skip) <;> simp +decide

@[simp] theorem kept_foreignCal (s : State) (n : Nat) (c : CalImg) : kept (State.foreignCal s n c) = kept s := by
  simp +decide [State.foreignCal]

end Sys2Proof.Laws
end

