-- ==== Sys2Proof/Laws/KeptStateCmds.lean ====
section
/-! SUPPORT. The operations of Machine/StateCmds.lean leave alone what `kept` gathers. -/

namespace Sys2Proof.Laws

open Sys2Proof.Machine

@[simp] theorem kept_loadRecords (s : State) (n : Nat) (i : MountInfo) : kept (State.loadRecords s n i) = kept s := by
  unfold State.loadRecords
  dsimp only
  rw [kept_forEach, kept_forEach]
  · intro t p; simp
  · intro t c; (repeat' split) <;> simp

@[simp] theorem kept_joinSet (s : State) (n : Nat) : kept (State.joinSet s n) = kept s := by
  simp only [State.joinSet]
  (repeat' split) <;> simp +decide

@[simp] theorem kept_mountDone (s : State) (n : Nat) (c : Option Ctx) (dma : Dma) : kept (State.mountDone s n c dma) = kept s := by
  simp only [State.mountDone]
  (repeat' split) <;> simp +decide

@[simp] theorem kept_setMounted (s : State) (n : Nat) : kept (State.setMounted s n) = kept s := by
  simp +decide [State.setMounted]

@[simp] theorem kept_mountFails (s : State) (n media st : Nat) (c : Option Ctx) : kept (State.mountFails s n media st c) = kept s := by
  simp only [State.mountFails]
  (repeat' split) <;> simp +decide

@[simp] theorem kept_readDisc (s : State) (n : Nat) (i : MountInfo) (c : Option Ctx) : kept (State.readDisc s n i c) = kept s := by
  simp only [State.readDisc]
  (repeat' split) <;> simp +decide

@[simp] theorem kept_mountStep (s : State) (n : Nat) (info : Option MountInfo) (c : Option Ctx) (dma : Dma) : kept (State.mountStep s n info c dma) = kept s := by
  simp only [State.mountStep]
  (repeat' split) <;> simp +decide

@[simp] theorem kept_leaveFault (s : State) (n : Nat) : kept (State.leaveFault s n) = kept s := by
  simp +decide [State.leaveFault]

@[simp] theorem kept_runCtx (s : State) (c : Ctx) : kept (State.runCtx s c) = kept s := by
  simp +decide [State.runCtx]

@[simp] theorem kept_execMount (fn : FnIx) (tag : Nat) (info : Option MountInfo) (dma : Dma) (s : State) : keptOut (execMount fn tag info dma s) s := by
  simp only [execMount]
  (repeat' split) <;> simp +decide

@[simp] theorem kept_writeCkpt (s : State) (n : Nat) : kept (State.writeCkpt s n) = kept s := by
  simp +decide [State.writeCkpt]

@[simp] theorem kept_writeProf (s : State) (n : Nat) : kept (State.writeProf s n) = kept s := by
  simp +decide [State.writeProf]

@[simp] theorem kept_unmountActive (s0 : State) (n target : Nat) : kept (State.unmountActive s0 n target) = kept s0 := by
  unfold State.unmountActive
  extract_lets s1 t
  have k1 : kept s1 = kept s0 := by
    simp only [s1]
    (repeat' split) <;> simp +decide
  clear_value s1
  split
  · simp [k1]
  · have k2 : kept t = kept s0 := by simp [t, k1]
    clear_value t
    split
    · exact k2
    · split <;> (rename_i h; have k := (kept_fst h (kept_askWrite _ _ _ _)).trans k2)
      · exact k
      · simp [k]
      · dsimp only
        (repeat' split) <;> simp [k]

@[simp] theorem kept_unmountStep (s : State) (n target : Nat) : kept (State.unmountStep s n target) = kept s := by
  simp +decide [State.unmountStep]

@[simp] theorem kept_takeOver (s : State) (n : Nat) : kept (State.takeOver s n) = kept s := by
  simp +decide [State.takeOver]

@[simp] theorem kept_unmountCmd (s : State) (fn tag op target : Nat) (done : Nat → Bool) : keptOut (State.unmountCmd s fn tag op target done) s := by
  simp only [State.unmountCmd]
  (repeat' split) <;> simp +decide

@[simp] theorem kept_execUnmount (fn : FnIx) (tag : Nat) (s : State) : keptOut (execUnmount fn tag s) s := by
  simp +decide [execUnmount]

@[simp] theorem kept_execEject (fn : FnIx) (tag : Nat) (s : State) : keptOut (execEject fn tag s) s := by
  simp +decide [execEject]

@[simp] theorem kept_execLoad (fn : FnIx) (tag : Nat) (s : State) : keptOut (execLoad fn tag s) s := by
  simp only [execLoad]
  (repeat' split) <;> simp +decide

end Sys2Proof.Laws
end

