-- ==== Sys2Proof/Laws/KeptFnStops.lean ====
section
/-! SUPPORT. The operations of Machine/FnStops.lean leave alone what `kept` gathers. -/

namespace Sys2Proof.Laws

open Sys2Proof.Machine

@[simp] theorem kept_stopFn (s : State) (fn cause : Nat) : kept (State.stopFn s fn cause) = kept s := by
  simp +decide [State.stopFn]

@[simp] theorem kept_portReset (s : State) (p : Nat) : kept (State.portReset s p) = kept s := by
  simp +decide [State.portReset]

@[simp] theorem kept_execHostPortReset (p : HostPort) (s : State) : keptOut (execHostPortReset p s) s := by
  simp +decide [execHostPortReset]

@[simp] theorem kept_execFunctionLevelReset (fn : FnIx) (s : State) : keptOut (execFunctionLevelReset fn s) s := by
  simp +decide [execFunctionLevelReset]

@[simp] theorem kept_execBusMasterClear (fn : FnIx) (s : State) : keptOut (execBusMasterClear fn s) s := by
  simp +decide [execBusMasterClear]

@[simp] theorem kept_execFnDisable (fn : FnIx) (s : State) : keptOut (execFnDisable fn s) s := by
  unfold execFnDisable
  refine kept_regCmd _ _ fun t => ?_
  simp +decide

@[simp] theorem kept_applyFence (s : State) (fn : Nat) : kept (State.applyFence s fn) = kept s := by
  simp +decide [State.applyFence]

@[simp] theorem kept_execFunctionStopDone (fn : FnIx) (s : State) : keptOut (execFunctionStopDone fn s) s := by
  simp +decide [execFunctionStopDone]

@[simp] theorem kept_fenceFn (s : State) (fn : Nat) : kept (State.fenceFn s fn) = kept s := by
  simp +decide [State.fenceFn]

@[simp] theorem kept_execFenceFunction (target : Fin 256) (s : State) : keptOut (execFenceFunction target s) s := by
  unfold execFenceFunction
  refine kept_regCmd _ _ fun t => ?_
  simp +decide

@[simp] theorem kept_execFencePort (target : Fin 256) (s : State) : keptOut (execFencePort target s) s := by
  unfold execFencePort
  refine kept_regCmd _ _ fun t => ?_
  simp +decide

@[simp] theorem kept_execUnfenceFunction (target : Fin 256) (s : State) : keptOut (execUnfenceFunction target s) s := by
  unfold execUnfenceFunction
  refine kept_regCmd _ _ fun t => ?_
  simp +decide

@[simp] theorem kept_execUnfencePort (target : Fin 256) (s : State) : keptOut (execUnfencePort target s) s := by
  unfold execUnfencePort
  refine kept_regCmd _ _ fun t => ?_
  simp +decide

end Sys2Proof.Laws
end

