-- ==== Sys2Proof/Laws/KeptFloeCmds.lean ====
section
/-! SUPPORT. The operations of Machine/FloeCmds.lean leave alone what `kept` gathers. -/

namespace Sys2Proof.Laws

open Sys2Proof.Machine

@[simp] theorem kept_fetchUnits (s : State) (l : List (Nat × Nat × Nat)) : kept (State.fetchUnits s l) = kept s := by
  simp +decide [State.fetchUnits]

@[simp] theorem kept_dropUnits (s : State) (id : Nat) (x : StripeX) (l : List Nat) : kept (State.dropUnits s id x l) = kept s := by
  simp +decide [State.dropUnits]

@[simp] theorem kept_execStripeCloseTimeout (id : Fin 4096) (num : Nat) (s : State) : keptOut (execStripeCloseTimeout id num s) s := by
  simp only [execStripeCloseTimeout]
  (repeat' split) <;> simp +decide

@[simp] theorem kept_execResync (id : Fin 4096) (num : Nat) (s : State) : keptOut (execResync id num s) s := by
  unfold execResync
  dsimp only
  split
  · simp
  · split
    · simp
    · split
      · simp
      · split
        · simp
        · rw [kept_fin, kept_dropUnits]
          refine kept_forEach _ _ _ fun t i => ?_
          split <;> simp

@[simp] theorem kept_reconFails (s : State) (n layer cluster id num st r0 r1 : Nat) : kept (State.reconFails s n layer cluster id num st r0 r1) = kept s := by
  simp +decide [State.reconFails]

@[simp] theorem kept_reconDone (s : State) (n layer cluster : Nat) (got : List (Nat × List Nat)) : kept (State.reconDone s n layer cluster got) = kept s := by
  unfold State.reconDone
  extract_lets s1 s2
  have k1 : kept s1 = kept s := kept_modRead _ _ _ _ _
  have k2 : kept s2 = kept s := by
    simp only [s2]
    rw [kept_modMech, kept_bumpBy _ _ _ _ (by decide), kept_raise _ _ _ (by decide), k1]
  clear_value s2
  split
  · exact k2
  · split
    · exact k2
    · exact (kept_modChan _ _).trans k2

@[simp] theorem kept_execFloeReconstruct (mn : Mn) (layer : Fin 16) (cluster : Nat) (s : State) : keptOut (execFloeReconstruct mn layer cluster s) s := by
  simp only [execFloeReconstruct]
  (repeat' split) <;> simp +decide

@[simp] theorem kept_execFloeRepair (mn : Mn) (s : State) : keptOut (execFloeRepair mn s) s := by
  unfold execFloeRepair
  split
  · dsimp only
    split
    · simp
    · split
      · rename_i h; simp [kept_ownWrite _ _ _ _ _ _ _ _ h]
      · simp +decide
  · simp

@[simp] theorem kept_rewriteUnit (s : State) (id : Nat) (x : StripeX) (i : Nat) (blocks : List Nat) : kept (State.rewriteUnit s id x i blocks) = kept s := by
  unfold State.rewriteUnit
  dsimp only
  split
  · rfl
  · split
    all_goals (
      rename_i n _ _
      generalize h : State.ownWrite _ _ _ _ _ _ _ = o
      cases o with
      | none => simp +decide
      | some u => simpa using kept_ownWrite _ _ _ _ _ _ _ _ h)

@[simp] theorem kept_scrubStripe (s : State) (id : Nat) (x : StripeX) (reads : List FloeRead) : kept (State.scrubStripe s id x reads).1 = kept s := by
  unfold State.scrubStripe
  extract_lets f held s0 us bad lost placed
  have k0 : kept s0 = kept s := by simp +decide [s0]
  clear_value s0
  split
  · rw [kept_forEach, k0]
    intro t i
    split <;> simp +decide
  · split
    · exact k0
    · clear_value placed
      split <;> simp +decide [k0]

@[simp] theorem kept_execScrubTick (id : Fin 4096) (s : State) : keptOut (execScrubTick id s) s := by
  simp only [execScrubTick]
  (repeat' split) <;> simp +decide

@[simp] theorem kept_scrubEnd (s : State) (c : Ctx) : kept (State.scrubEnd s c) = kept s := by
  simp +decide [State.scrubEnd]

@[simp] theorem kept_scrubMember (s : State) (c : Ctx) (id i : Nat) : kept (State.scrubMember s c id i) = kept s := by
  simp only [State.scrubMember]
  (repeat' split) <;> simp +decide

@[simp] theorem kept_execScrub (fn : FnIx) (tag : Nat) (s : State) : keptOut (execScrub fn tag s) s := by
  unfold execScrub
  first | refine kept_runCmd _ _ _ _ _ _ fun t c => ?_ | refine kept_runAdmin _ _ _ _ _ fun t c => ?_ | refine kept_runFloe _ _ _ _ _ fun t c => ?_
  (try dsimp only)
  (repeat' split) <;> simp +decide

@[simp] theorem kept_endRebuild (s : State) (id res : Nat) (r : RebuildX) : kept (State.endRebuild s id res r) = kept s := by
  simp only [State.endRebuild]
  (repeat' split) <;> simp +decide

@[simp] theorem kept_execRebuildStep (id : Fin 4096) (s : State) : keptOut (execRebuildStep id s) s := by
  unfold execRebuildStep
  dsimp only
  split
  · simp
  · split
    · simp
    · split
      · split <;> simp
      · split
        · simp
        · split
          · simp
          · split
            · simp
            · split
              · simp
              · rename_i h
                split at h <;> (have k := kept_ownWrite _ _ _ _ _ _ _ _ h; simp [k])

@[simp] theorem kept_runFloe (s : State) (fn tag op : Nat) (k : State → Ctx → State) (h : ∀ t c, kept (k t c) = kept t) : keptOut (s.runFloe fn tag op k) s := by
  unfold State.runFloe
  (repeat' split) <;> simp [h]

@[simp] theorem kept_execFloeDefine (fn : FnIx) (tag : Nat) (data : List Nat) (dma : Dma) (s : State) : keptOut (execFloeDefine fn tag data dma s) s := by
  simp +decide [execFloeDefine]

@[simp] theorem kept_execFloeDelete (fn : FnIx) (tag : Nat) (s : State) : keptOut (execFloeDelete fn tag s) s := by
  simp +decide [execFloeDelete]

@[simp] theorem kept_execFloeRebuild (fn : FnIx) (tag : Nat) (s : State) : keptOut (execFloeRebuild fn tag s) s := by
  simp +decide [execFloeRebuild]

end Sys2Proof.Laws
end

