-- ==== Sys2Proof/Laws/KeptInterlock.lean ====
section
/-! SUPPORT. The operations of Machine/Interlock.lean leave alone what `kept` gathers. -/

namespace Sys2Proof.Laws

open Sys2Proof.Machine

@[simp] theorem kept_permitCut (s : State) (c : Ctx) : kept (State.permitCut s c) = kept s := by
  simp +decide [State.permitCut]

@[simp] theorem kept_permitDown (s : State) (n : Nat) : kept (State.permitDown s n) = kept s := by
  simp +decide [State.permitDown]

@[simp] theorem kept_permitUp (s : State) (n : Nat) : kept (State.permitUp s n) = kept s := by
  simp +decide [State.permitUp]

end Sys2Proof.Laws
end

