-- ==== Sys2Proof/Laws/KeptAdmin.lean ====
section
/-! SUPPORT. The operations of Machine/Admin.lean leave alone what `kept` gathers. -/

namespace Sys2Proof.Laws

open Sys2Proof.Machine

@[simp] theorem kept_runAdmin (s : State) (fn tag op : Nat) (k : State → Ctx → State) (h : ∀ t c, kept (k t c) = kept t) : keptOut (s.runAdmin fn tag op k) s := by
  unfold State.runAdmin
  (repeat' split) <;> simp [h]

theorem kept_runAdmin_of (s : State) (fn tag op : Nat) (k : State → Ctx → State) (h : ∀ t c, kept t = kept s → kept (k t c) = kept s) : keptOut (s.runAdmin fn tag op k) s := by
  unfold State.runAdmin
  split
  · simp
  · split
    · simp
    · rw [kept_fin]; exact h _ _ (by simp)

@[simp] theorem kept_answer (s : State) (c : Ctx) (dma : Dma) (bytes : List Nat) (r0 r1 : Nat) : kept (State.answer s c dma bytes r0 r1) = kept s := by
  simp +decide [State.answer]

@[simp] theorem kept_execIdentify (fn : FnIx) (tag : Nat) (dma : Dma) (s : State) : keptOut (execIdentify fn tag dma s) s := by
  simp +decide [execIdentify]

@[simp] theorem kept_execGetLog (fn : FnIx) (tag : Nat) (dma : Dma) (s : State) : keptOut (execGetLog fn tag dma s) s := by
  simp +decide [execGetLog]

@[simp] theorem kept_execCreateQp (fn : FnIx) (tag : Nat) (s : State) : keptOut (execCreateQp fn tag s) s := by
  simp +decide [execCreateQp]

@[simp] theorem kept_execDeleteQp (fn : FnIx) (tag : Nat) (s : State) : keptOut (execDeleteQp fn tag s) s := by
  simp +decide [execDeleteQp]

@[simp] theorem kept_putLease (s : State) (fn n mode : Nat) : kept (State.putLease s fn n mode) = kept s := by
  simp only [State.putLease]
  (repeat' split) <;> simp +decide

@[simp] theorem kept_changeLease (s : State) (fn n mode : Nat) : kept (State.changeLease s fn n mode) = kept s := by
  simp +decide [State.changeLease]

@[simp] theorem kept_execLease (fn : FnIx) (tag : Nat) (s : State) : keptOut (execLease fn tag s) s := by
  simp +decide [execLease]

end Sys2Proof.Laws
end

