-- ==== Sys2Proof/Laws/KeptFeatures.lean ====
section
/-! SUPPORT. The operations of Machine/Features.lean leave alone what `kept` gathers. -/

namespace Sys2Proof.Laws

open Sys2Proof.Machine

@[simp] theorem kept_loadMatrix (s : State) (k : Nat) (b : List Nat) : kept (State.loadMatrix s k b) = kept s := by
  simp +decide [State.loadMatrix]

@[simp] theorem kept_setFeature (s : State) (fn fid s0 s1 value : Nat) (b : List Nat) : kept (State.setFeature s fn fid s0 s1 value b).1 = kept s := by
  simp only [State.setFeature]
  (repeat' split) <;> simp +decide

@[simp] theorem kept_execSetFeature (fn : FnIx) (tag : Nat) (data : List Nat) (dma : Dma) (s : State) : keptOut (execSetFeature fn tag data dma s) s := by
  simp +decide [execSetFeature]

@[simp] theorem kept_execGetFeature (fn : FnIx) (tag : Nat) (dma : Dma) (s : State) : keptOut (execGetFeature fn tag dma s) s := by
  simp +decide [execGetFeature]

@[simp] theorem kept_execCalibSave (fn : FnIx) (tag : Nat) (dma : Dma) (s : State) : keptOut (execCalibSave fn tag dma s) s := by
  simp +decide [execCalibSave]

@[simp] theorem kept_calRestore (s : State) (scope mn dev : Nat) (recs : List (List Nat)) : kept (State.calRestore s scope mn dev recs).1 = kept s := by
  unfold State.calRestore
  have h : ∀ (l : List (List Nat)) (a : State × Nat × Nat), kept (l.foldl (fun (a : State × Nat × Nat) b =>
      if a.1.calApplies scope mn dev b then
        (a.1.putCal (leAt b 0 1) (leAt b 2 2) (calLayer (leAt b 0 1) (leAt b 1 1)) (dwordsOf (b.drop 0x20)), a.2.1 + 1, a.2.2)
      else (a.1, a.2.1, a.2.2 + 1)) a).1 = kept a.1 := by
    intro l
    induction l with
    | nil => intro a; rfl
    | cons x r ih => intro a; rw [List.foldl_cons, ih]; split <;> simp
  exact h _ _

@[simp] theorem kept_execCalibRestore (fn : FnIx) (tag : Nat) (data : List Nat) (dma : Dma) (s : State) : keptOut (execCalibRestore fn tag data dma s) s := by
  simp +decide [execCalibRestore]

end Sys2Proof.Laws
end

