-- ==== Sys2Proof/Laws/KeptMemOps.lean ====
section
/-! SUPPORT. The operations of Machine/MemOps.lean leave alone what `kept` gathers. -/

namespace Sys2Proof.Laws

open Sys2Proof.Machine

@[simp] theorem kept_modMem (s : State) (f : MemX → MemX) : kept (State.modMem s f) = kept s := by
  simp +decide [State.modMem]

@[simp] theorem kept_sramWrite (s : State) (bank word v : Nat) : kept (State.sramWrite s bank word v) = kept s := by
  simp +decide [State.sramWrite]

@[simp] theorem kept_recordEcc (s : State) (loc req cls word line : Nat) : kept (State.recordEcc s loc req cls word line) = kept s := by
  simp only [State.recordEcc]
  (repeat' split) <;> simp +decide

@[simp] theorem kept_modBank (s : State) (b : Nat) (f : BankX → BankX) : kept (State.modBank s b f) = kept s := by
  simp +decide [State.modBank]

@[simp] theorem kept_dropMerge (s : State) (b word : Nat) : kept (State.dropMerge s b word) = kept s := by
  simp +decide [State.dropMerge]

@[simp] theorem kept_bankWrite (s : State) (b word mask value req : Nat) : kept (State.bankWrite s b word mask value req) = kept s := by
  simp +decide [State.bankWrite]

@[simp] theorem kept_passWord (s : State) (b : Nat) (r : BankReq) : kept (State.passWord s b r) = kept s := by
  simp only [State.passWord]
  (repeat' split) <;> simp +decide

@[simp] theorem kept_bankCycle (s : State) (b : Nat) (arrive : List BankReq) : kept (State.bankCycle s b arrive) = kept s := by
  simp only [State.bankCycle]
  (repeat' split) <;> simp +decide

@[simp] theorem kept_modDdr (s : State) (ch : Nat) (f : ChanX → ChanX) : kept (State.modDdr s ch f) = kept s := by
  simp +decide [State.modDdr]

@[simp] theorem kept_leaveSr (s : State) (ch : Nat) : kept (State.leaveSr s ch) = kept s := by
  simp +decide [State.leaveSr]

@[simp] theorem kept_chanCycle (s : State) (ch : Nat) (arrive : List DramReq) (ready : List Nat) : kept (State.chanCycle s ch arrive ready) = kept s := by
  simp +decide [State.chanCycle]

@[simp] theorem kept_modRime (s : State) (f : RimeX → RimeX) : kept (State.modRime s f) = kept s := by
  simp +decide [State.modRime]

@[simp] theorem kept_showRime (s : State) : kept (State.showRime s) = kept s := by
  simp +decide [State.showRime]

@[simp] theorem kept_evictLine (s : State) (bank : Nat) (lost : Option Nat) (l : RimeLine) : kept (State.evictLine s bank lost l) = kept s := by
  simp +decide [State.evictLine]

@[simp] theorem kept_allocLine (s : State) (lost : Option Nat) (l : RimeLine) : kept (State.allocLine s lost l) = kept s := by
  simp only [State.allocLine]
  (repeat' split) <;> simp +decide

theorem kept_fillLine (s : State) (r : RimeReq) : kept (s.fillLine r).2 = kept s := by
  unfold State.fillLine
  dsimp only
  (repeat' split) <;> simp

@[simp] theorem kept_rimeDemand (s : State) (r : RimeReq) : kept (State.rimeDemand s r) = kept s := by
  unfold State.rimeDemand
  extract_lets ways x e1 m1
  have k1 : kept e1 = kept s := kept_bump _ _ _ (by decide)
  have k2 : kept m1 = kept s := kept_bump _ _ _ (by decide)
  clear_value e1 m1
  split
  · simp +decide
  · split
    · simp +decide
    · dsimp only
      (repeat' split) <;> simp +decide [k1]
    · split
      · simp +decide [k2]
      · dsimp only
        split <;> simp [k2, kept_fillLine]

@[simp] theorem kept_rimePrefetch (s : State) (r : RimeReq) : kept (State.rimePrefetch s r) = kept s := by
  unfold State.rimePrefetch
  dsimp only
  split
  · rfl
  · simp +decide [kept_fillLine]

@[simp] theorem kept_rimeBypass (s : State) (r : RimeReq) : kept (State.rimeBypass s r) = kept s := by
  unfold State.rimeBypass
  split <;> simp +decide [kept_fillLine]

@[simp] theorem kept_rimeRequest (s : State) (r : RimeReq) : kept (State.rimeRequest s r) = kept s := by
  simp only [State.rimeRequest]
  (repeat' split) <;> simp +decide

@[simp] theorem kept_memCycle (s : State) (c : MemCycle) : kept (State.memCycle s c) = kept s := by
  simp +decide [State.memCycle]

@[simp] theorem kept_memTick (s : State) : kept (State.memTick s) = kept s := by
  simp +decide [State.memTick]

end Sys2Proof.Laws
end

