-- ==== Sys2Proof/Laws/KeptMemory.lean ====
section
/-! SUPPORT. The operations of Machine/Memory.lean leave alone what `kept` gathers. -/

namespace Sys2Proof.Laws

open Sys2Proof.Machine

@[simp] theorem kept_recordHit (s : State) (h : EccHit) : kept (State.recordHit s h) = kept s := by
  simp only [State.recordHit]
  (repeat' split) <;> simp +decide

@[simp] theorem kept_execCeWriteback (bank : Fin 48) (word : Fin 262144) (s : State) : keptOut (execCeWriteback bank word s) s := by
  simp +decide [execCeWriteback]

@[simp] theorem kept_execPatrolScrub (dram : Bool) (hit : Option EccHit) (s : State) : keptOut (execPatrolScrub dram hit s) s := by
  simp only [execPatrolScrub]
  (repeat' split) <;> simp +decide

@[simp] theorem kept_execMergeFlush (bank : Fin 48) (word : Fin 262144) (cls : Fin 4) (s : State) : keptOut (execMergeFlush bank word cls s) s := by
  simp only [execMergeFlush]
  (repeat' split) <;> simp +decide

@[simp] theorem kept_haltDma (s : State) (k cause : Nat) : kept (State.haltDma s k cause) = kept s := by
  simp +decide [State.haltDma]

@[simp] theorem kept_eraseCw (s : State) (id : Nat) : kept (State.eraseCw s id) = kept s := by
  simp only [State.eraseCw]
  (repeat' split) <;> simp +decide

@[simp] theorem kept_failTransfers (s : State) (cmds : List (FnIx × Nat)) (lost : List Nat) (cw : Option Nat) : kept (State.failTransfers s cmds lost cw) = kept s := by
  unfold State.failTransfers
  extract_lets s1 s2
  have k1 : kept s1 = kept s := by
    simp only [s1]
    refine kept_forEach _ _ _ fun t x => ?_
    split <;> simp
  have k2 : kept s2 = kept s := by
    simp only [s2]
    rw [kept_forEach, k1]; intro t a; simp
  clear_value s2
  split <;> simp [k2]

@[simp] theorem kept_execDmaHalt (k : Fin 24) (ecc : Option EccHit) (cmds : List (FnIx × Nat)) (lost : List Nat) (cw : Option Nat) (s : State) : keptOut (execDmaHalt k ecc cmds lost cw s) s := by
  simp only [execDmaHalt]
  (repeat' split) <;> simp +decide

@[simp] theorem kept_execDmaRestart (k : Fin 24) (s : State) : keptOut (execDmaRestart k s) s := by
  simp +decide [execDmaRestart]

@[simp] theorem kept_execDramRefresh (ch : ChannelIx) (s : State) : keptOut (execDramRefresh ch s) s := by
  simp +decide [execDramRefresh]

@[simp] theorem kept_execSelfRefreshEntry (ch : ChannelIx) (s : State) : keptOut (execSelfRefreshEntry ch s) s := by
  simp +decide [execSelfRefreshEntry]

@[simp] theorem kept_execDdrApplyDelays (ch : ChannelIx) (s : State) : keptOut (execDdrApplyDelays ch s) s := by
  unfold execDdrApplyDelays
  refine kept_regCmd _ _ fun t => ?_
  simp +decide

@[simp] theorem kept_execDdrRetune (ch : ChannelIx) (s : State) : keptOut (execDdrRetune ch s) s := by
  simp +decide [execDdrRetune]

@[simp] theorem kept_execDdrTestStart (ch : ChannelIx) (pattern : Fin 16) (len : Fin 65536) (fails : Option (Fin 1024)) (s : State) : keptOut (execDdrTestStart ch pattern len fails s) s := by
  unfold execDdrTestStart
  refine kept_regCmd _ _ fun t => ?_
  (try dsimp only)
  (repeat' split) <;> simp +decide

@[simp] theorem kept_execDdrTestStop (s : State) : keptOut (execDdrTestStop s) s := by
  unfold execDdrTestStop
  refine kept_regCmd _ _ fun t => ?_
  simp +decide

@[simp] theorem kept_rimeErr (s : State) (e : Nat) : kept (State.rimeErr s e) = kept s := by
  simp +decide [State.rimeErr]

theorem kept_rimeOp (s : State) (f : State → State) (h : ∀ t, kept (f t) = kept t) : keptOut (s.rimeOp f) s := by
  unfold State.rimeOp
  split <;> simp +decide [h]

@[simp] theorem kept_execRimeInvalidate (s : State) : keptOut (execRimeInvalidate s) s := by
  unfold execRimeInvalidate
  refine kept_regCmd _ _ fun t => ?_
  (repeat' split) <;> first | (simp; done) | (refine kept_rimeOp _ _ fun u => ?_; (repeat' split) <;> simp +decide)

@[simp] theorem kept_execRimeFlush (s : State) : keptOut (execRimeFlush s) s := by
  unfold execRimeFlush
  refine kept_regCmd _ _ fun t => ?_
  (repeat' split) <;> first | (simp; done) | (refine kept_rimeOp _ _ fun u => ?_; (repeat' split) <;> simp +decide)

@[simp] theorem kept_execRimeEnable (s : State) : keptOut (execRimeEnable s) s := by
  unfold execRimeEnable
  refine kept_regCmd _ _ fun t => ?_
  (repeat' split) <;> first | (simp; done) | (refine kept_rimeOp _ _ fun u => ?_; (repeat' split) <;> simp +decide)

@[simp] theorem kept_rimeOff (s : State) : kept (State.rimeOff s) = kept s := by
  simp +decide [State.rimeOff]

@[simp] theorem kept_execRimeDisable (s : State) : keptOut (execRimeDisable s) s := by
  unfold execRimeDisable
  refine kept_regCmd _ _ fun t => ?_
  (repeat' split) <;> first | (simp; done) | (refine kept_rimeOp _ _ fun u => ?_; (repeat' split) <;> simp +decide)

@[simp] theorem kept_execRimeWaysChange (ways : Fin 32) (s : State) : keptOut (execRimeWaysChange ways s) s := by
  unfold execRimeWaysChange
  refine kept_regCmd _ _ fun t => ?_
  (repeat' split) <;> first | (simp; done) | (refine kept_rimeOp _ _ fun u => ?_; (repeat' split) <;> simp +decide)

@[simp] theorem kept_execDimmTempRead (ch : ChannelIx) (temp : Int) (s : State) : keptOut (execDimmTempRead ch temp s) s := by
  simp +decide [execDimmTempRead]

end Sys2Proof.Laws
end

