-- ==== Sys2Proof/Laws/KeptCores.lean ====
section
/-! SUPPORT. The operations of Machine/Cores.lean leave alone what `kept` gathers. -/

namespace Sys2Proof.Laws

open Sys2Proof.Machine

@[simp] theorem kept_tracePut (s : State) (c : Nat) (r : TraceRec) : kept (State.tracePut s c r) = kept s := by
  simp +decide [State.tracePut]

@[simp] theorem kept_traceOne (s : State) (c type pc : Nat) : kept (State.traceOne s c type pc) = kept s := by
  simp +decide [State.traceOne]

@[simp] theorem kept_traceSync (s : State) (c pc : Nat) : kept (State.traceSync s c pc) = kept s := by
  simp +decide [State.traceSync]

@[simp] theorem kept_traceEvent (s : State) (c type pc : Nat) : kept (State.traceEvent s c type pc) = kept s := by
  simp +decide [State.traceEvent]

@[simp] theorem kept_traceBranch (s : State) (c icnt pc : Nat) : kept (State.traceBranch s c icnt pc) = kept s := by
  simp +decide [State.traceBranch]

@[simp] theorem kept_beat (s : State) (c : Nat) : kept (State.beat s c) = kept s := by
  simp +decide [State.beat]

@[simp] theorem kept_startCore (s : State) (c : Nat) : kept (State.startCore s c) = kept s := by
  simp +decide [State.startCore]

@[simp] theorem kept_coreWork (s : State) (from_ c : Nat) (x : CoreTick) : kept (State.coreWork s from_ c x) = kept s := by
  simp +decide [State.coreWork]

@[simp] theorem kept_coreTick (s : State) (from_ : Nat) : kept (State.coreTick s from_) = kept s := by
  simp +decide [State.coreTick]

@[simp] theorem kept_passPort (s : State) (p c : Nat) : kept (State.passPort s p c) = kept s := by
  simp +decide [State.passPort]

@[simp] theorem kept_followOwners (s : State) : kept (State.followOwners s) = kept s := by
  unfold State.followOwners
  dsimp only
  split
  · rfl
  · rw [kept_raise _ _ _ (by decide)]
    refine kept_forEach _ _ _ fun t p => ?_
    split <;> simp

@[simp] theorem kept_writeBootRec (s : State) (active prev : Nat) (trial : Bool) (tries : Nat) : kept (State.writeBootRec s active prev trial tries) = kept s := by
  simp +decide [State.writeBootRec]

@[simp] theorem kept_showUpd (s : State) (phase index : Nat) : kept (State.showUpd s phase index) = kept s := by
  simp +decide [State.showUpd]

@[simp] theorem kept_rollBack (s : State) : kept (State.rollBack s) = kept s := by
  simp only [State.rollBack]
  (repeat' split) <;> simp +decide

@[simp] theorem kept_trialFault (s : State) : kept (State.trialFault s) = kept s := by
  simp +decide [State.trialFault]

@[simp] theorem kept_restartCore (s : State) (c cause : Nat) : kept (State.restartCore s c cause) = kept s := by
  simp +decide [State.restartCore]

@[simp] theorem kept_trialStart (s : State) : kept (State.trialStart s) = kept s := by
  simp +decide [State.trialStart]

@[simp] theorem kept_reloadPage (s : State) (c : Nat) : kept (State.reloadPage s c) = kept s := by
  simp only [State.reloadPage]
  (repeat' split) <;> simp +decide

@[simp] theorem kept_execCoreReady (c : CoreIx) (s : State) : keptOut (execCoreReady c s) s := by
  simp +decide [execCoreReady]

@[simp] theorem kept_execCoreHbTimeout (c : CoreIx) (s : State) : keptOut (execCoreHbTimeout c s) s := by
  simp +decide [execCoreHbTimeout]

@[simp] theorem kept_execCoreTrap (c : CoreIx) (cause : Fin 256) (pc addr : Word) (fatal : Bool) (ecc : Option EccHit) (s : State) : keptOut (execCoreTrap c cause pc addr fatal ecc s) s := by
  simp only [execCoreTrap]
  (repeat' split) <;> simp +decide

@[simp] theorem kept_execCorePlannedRestart (c : CoreIx) (s : State) : keptOut (execCorePlannedRestart c s) s := by
  unfold execCorePlannedRestart
  refine kept_regCmd _ _ fun t => ?_
  simp +decide

@[simp] theorem kept_execCoreRelease (c : CoreIx) (s : State) : keptOut (execCoreRelease c s) s := by
  unfold execCoreRelease
  refine kept_regCmd _ _ fun t => ?_
  simp +decide

end Sys2Proof.Laws
end

