-- ==== Sys2Proof/Laws/KeptConsole.lean ====
section
/-! SUPPORT. The operations of Machine/Console.lean leave alone what `kept` gathers. -/

namespace Sys2Proof.Laws

open Sys2Proof.Machine

@[simp] theorem kept_uartSend (s : State) (l : List Nat) : kept (State.uartSend s l) = kept s := by
  simp +decide [State.uartSend]

@[simp] theorem kept_bootProgress (s : State) (stage code : Nat) : kept (State.bootProgress s stage code) = kept s := by
  simp +decide [State.bootProgress]

@[simp] theorem kept_uartReceive (s : State) (l : List Nat) : kept (State.uartReceive s l) = kept s := by
  simp +decide [State.uartReceive]

@[simp] theorem kept_jtagScan (s : State) (x : JtagScan) : kept (State.jtagScan s x) = kept s := by
  have h : kept (s.jtagCapture (s.jtagInstr x.instr)).2 = kept s := by
    unfold State.jtagCapture
    split <;> rfl
  exact h

@[simp] theorem kept_pinTick (s : State) : kept (State.pinTick s) = kept s := by
  simp +decide [State.pinTick]

end Sys2Proof.Laws
end

