-- ==== Sys2Proof/Laws/KeptSideband.lean ====
section
/-! SUPPORT. The operations of Machine/Sideband.lean leave alone what `kept` gathers. -/

namespace Sys2Proof.Laws

open Sys2Proof.Machine

@[simp] theorem kept_mctpAnswer (s : State) (r : MctpReq) : kept (State.mctpAnswer s r) = kept s := by
  simp only [State.mctpAnswer]
  (repeat' split) <;> simp +decide

@[simp] theorem kept_mctpHold (s : State) (r : MctpReq) : kept (State.mctpHold s r) = kept s := by
  simp +decide [State.mctpHold]

@[simp] theorem kept_mctpRelease (s : State) : kept (State.mctpRelease s) = kept s := by
  simp +decide [State.mctpRelease]

end Sys2Proof.Laws
end

