-- ==== Sys2Proof/Laws/KeptReset.lean ====
section
/-! SUPPORT. The operations of Machine/Reset.lean leave alone what `kept` gathers. -/

namespace Sys2Proof.Laws

open Sys2Proof.Machine

@[simp] theorem kept_prelude (s : State) : kept (State.prelude s) = kept s := by
  simp +decide [State.prelude]

@[simp] theorem kept_releaseReset (s : State) : kept (State.releaseReset s) = kept s := by
  simp +decide [State.releaseReset]

@[simp] theorem kept_await (s : State) (q : DroneSeq) : kept (State.await s q) = kept s := by
  simp +decide [State.await]

@[simp] theorem kept_endAwait (s : State) : kept (State.endAwait s) = kept s := by
  simp +decide [State.endAwait]

@[simp] theorem kept_beginPower (s : State) : kept (State.beginPower s) = kept s := by
  simp +decide [State.beginPower]

@[simp] theorem kept_powerUp (s : State) : kept (State.powerUp s) = kept s := by
  simp +decide [State.powerUp]

@[simp] theorem kept_suppliesOff (s : State) : kept (State.suppliesOff s) = kept s := by
  simp +decide [State.suppliesOff]

@[simp] theorem kept_dropGroup (s : State) (g : Nat) : kept (State.dropGroup s g) = kept s := by
  simp +decide [State.dropGroup]

@[simp] theorem kept_beginOff (s : State) (g : OffGoal) : kept (State.beginOff s g) = kept s := by
  simp only [State.beginOff]
  (repeat' split) <;> simp +decide

@[simp] theorem kept_coldSupplies (s : State) : kept (State.coldSupplies s) = kept s := by
  simp +decide [State.coldSupplies]

@[simp] theorem kept_pinsToReset (s : State) : kept (State.pinsToReset s) = kept s := by
  unfold State.pinsToReset
  extract_lets gpio s1
  have k1 : kept s1 = kept s := by
    simp only [s1, gpio, kept, keptOf]
    rw [tabGet_filter, tabGet_filter, tabGet_filter, tabGet_filter, tabGet_filter, tabGet_filter] <;> intro v <;> rfl
  clear_value s1
  (rw [kept_modPwr, kept_forEach, k1] <;> first | (intro _; rfl) | skip)
  intro t k; simp +decide

@[simp] theorem kept_loadOptions (s : State) : kept (State.loadOptions s) = kept s := by
  simp +decide [State.loadOptions]

@[simp] theorem kept_execOptionRead (slot : Fin 16) (s : State) : keptOut (execOptionRead slot s) s := by
  unfold execOptionRead
  refine kept_regCmd _ _ fun t => ?_
  simp +decide

@[simp] theorem kept_portIdleLink (s : State) (p : Nat) : kept (State.portIdleLink s p) = kept s := by
  unfold State.portIdleLink
  simp only [State.forEach, List.foldl]
  simp +decide

@[simp] theorem kept_stopBoot (s : State) (code : Nat) : kept (State.stopBoot s code) = kept s := by
  simp +decide [State.stopBoot]

@[simp] theorem kept_bootRom (s : State) : kept (State.bootRom s) = kept s := by
  unfold State.bootRom
  extract_lets r p t boot u
  have kp : kept t = kept s := by
    simp only [t, p]
    (repeat' split) <;> simp +decide
  have kb : ∀ v k, kept (boot v k) = kept v := fun v k => by
    simp only [boot]
    rw [kept_modFw, kept_set0 _ _ _ (by decide)]
  clear_value t
  split
  · rw [kb, kept_set0 _ _ _ (by decide), kp]
  · split
    · rw [kb, kept_set0 _ _ _ (by decide), kp]
    · rw [kept_modFw]
      simp only [u]
      rw [kept_set0 _ _ _ (by decide), kept_set0 _ _ _ (by decide), kept_takeFree, kp]

@[simp] theorem kept_bootDram (s : State) (x : BootInfo) : kept (State.bootDram s x) = kept s := by
  unfold State.bootDram
  extract_lets pop s1 s2 s3
  have k1 : kept s1 = kept s := by
    simp only [s1]
    rw [kept_set0 _ _ _ (by decide), kept_set0 _ _ _ (by decide), kept_set0 _ _ _ (by decide), kept_set0 _ _ _ (by decide)]
  have k2 : kept s2 = kept s := by
    simp only [s2]
    rw [kept_forEach, k1]
    intro t e
    exact kept_forEach _ _ _ fun u l => kept_wr _ _ _ _ _ (by decide)
  have k3 : kept s3 = kept s := by
    simp only [s3]
    rw [kept_forEach, k2]; intro t e; simp
  clear_value s3
  split
  · simp
  · split
    · simp
    · rw [kept_set0 _ _ _ (by decide), k3]

@[simp] theorem kept_selfTestFailed (s : State) (cls index kind : Nat) : kept (State.selfTestFailed s cls index kind) = kept s := by
  simp only [State.selfTestFailed]
  (repeat' split) <;> simp +decide

@[simp] theorem kept_loadShipped (s : State) : kept (State.loadShipped s) = kept s := by
  unfold State.loadShipped
  split
  · rfl
  · refine kept_forEach _ _ _ fun t b => ?_
    split <;> simp

@[simp] theorem kept_loadPrograms (s : State) : kept (State.loadPrograms s) = kept s := by
  simp +decide [State.loadPrograms]

@[simp] theorem kept_bootEngines (s : State) (x : BootInfo) : kept (State.bootEngines s x) = kept s := by
  simp +decide [State.bootEngines]

@[simp] theorem kept_oweResume (s : State) : kept (State.oweResume s) = kept s := by
  simp +decide [State.oweResume]

@[simp] theorem kept_logCrash (s : State) : kept (State.logCrash s) = kept s := by
  simp +decide [State.logCrash]

@[simp] theorem kept_optionSteward (s : State) : kept (State.optionSteward s) = kept s := by
  simp +decide [State.optionSteward]

@[simp] theorem kept_enablePort (s : State) (p : Nat) : kept (State.enablePort s p) = kept s := by
  simp +decide [State.enablePort]

@[simp] theorem kept_becomeActive (s : State) : kept (State.becomeActive s) = kept s := by
  simp +decide [State.becomeActive]

@[simp] theorem kept_bootDone (s : State) : kept (State.bootDone s) = kept s := by
  unfold State.bootDone
  extract_lets s1 s2
  have k1 : kept s1 = kept s := by
    simp only [s1]
    rw [kept_optionSteward, kept_logCrash, kept_set0 _ _ _ (by decide), kept_becomeActive]
  clear_value s1
  have k2 : kept s2 = kept s := by
    simp only [s2]
    rw [kept_forEach, kept_forEach, k1] <;> (intro t a; simp)
  clear_value s2
  split <;> simp [k2]

@[simp] theorem kept_clearRegs (s : State) (rs : List Reg) (i : Nat) (h : rs.all calm = true) : kept (s.clearRegs rs i) = kept s := by
  unfold State.clearRegs
  refine kept_forEach_mem _ _ _ fun r hr t => kept_wr _ _ _ _ _ ?_
  exact List.all_eq_true.mp h r hr

@[simp] theorem kept_blockReset (s : State) (cls i : Nat) : kept (State.blockReset s cls i) = kept s := by
  unfold State.blockReset
  split
  · dsimp only
    split <;> simp +decide
  · rw [kept_testCluster, kept_modCirq, kept_clearRegs]
    split <;> decide
  all_goals simp +decide

@[simp] theorem kept_execBlockReset (cls : Fin 16) (index : Fin 512) (s : State) : keptOut (execBlockReset cls index s) s := by
  unfold execBlockReset
  refine kept_regCmd _ _ fun t => ?_
  simp +decide

end Sys2Proof.Laws
end

