-- ==== Sys2Proof/Laws/KeptPower.lean ====
section
/-! SUPPORT. The operations of Machine/Power.lean leave alone what `kept` gathers. -/

namespace Sys2Proof.Laws

open Sys2Proof.Machine

@[simp] theorem kept_execXtalLost (s : State) : keptOut (execXtalLost s) s := by
  simp +decide [execXtalLost]

@[simp] theorem kept_execXtalRelock (s : State) : keptOut (execXtalRelock s) s := by
  simp +decide [execXtalRelock]

@[simp] theorem kept_execRefclkRestored (s : State) : keptOut (execRefclkRestored s) s := by
  simp +decide [execRefclkRestored]

@[simp] theorem kept_execTimeRatioMeasure (ticks : Nat) (s : State) : keptOut (execTimeRatioMeasure ticks s) s := by
  simp +decide [execTimeRatioMeasure]

@[simp] theorem kept_beginEntry (s : State) (st : Nat) : kept (State.beginEntry s st) = kept s := by
  simp +decide [State.beginEntry]

@[simp] theorem kept_noteIdle (s : State) : kept (State.noteIdle s) = kept s := by
  simp +decide [State.noteIdle]

@[simp] theorem kept_execDozeIdle (s : State) : keptOut (execDozeIdle s) s := by
  simp +decide [execDozeIdle]

@[simp] theorem kept_execDozeRequest (s : State) : keptOut (execDozeRequest s) s := by
  unfold execDozeRequest
  refine kept_regCmd _ _ fun t => ?_
  simp +decide

@[simp] theorem kept_resumeBegin (s : State) (src : Nat) : kept (State.resumeBegin s src) = kept s := by
  simp +decide [State.resumeBegin]

@[simp] theorem kept_wake (s : State) (src : Nat) : kept (State.wake s src) = kept s := by
  simp only [State.wake]
  (repeat' split) <;> simp +decide

@[simp] theorem kept_execWake (src : Fin 16) (s : State) : keptOut (execWake src s) s := by
  simp +decide [execWake]

@[simp] theorem kept_timerDue (s : State) (k : Nat) : kept (State.timerDue s k) = kept s := by
  simp +decide [State.timerDue]

@[simp] theorem kept_execWakeTimer (k : Fin 4) (s : State) : keptOut (execWakeTimer k s) s := by
  simp +decide [execWakeTimer]

@[simp] theorem kept_execRetryWake (s : State) : keptOut (execRetryWake s) s := by
  simp +decide [execRetryWake]

@[simp] theorem kept_execHibernateRequest (retain : List Word) (s : State) : keptOut (execHibernateRequest retain s) s := by
  unfold execHibernateRequest
  refine kept_regCmd _ _ fun t => ?_
  simp +decide

@[simp] theorem kept_hostsGone (s : State) : kept (State.hostsGone s) = kept s := by
  simp +decide [State.hostsGone]

@[simp] theorem kept_stripCore (s : State) : kept (State.stripCore s) = kept s := by
  unfold State.stripCore
  simp only [kept, keptOf]
  rw [tabGet_filter, tabGet_filter, tabGet_filter, tabGet_filter, tabGet_filter, tabGet_filter] <;> intro v <;> rfl

@[simp] theorem kept_hibLoses (s : State) : kept (State.hibLoses s) = kept s := by
  unfold State.hibLoses
  extract_lets s2 s3 s4
  have k2 : kept s2 = kept s := by simp [s2]
  clear_value s2
  have k3 : kept s3 = kept s := by
    simp only [s3]
    rw [kept_forEach, k2]
    intro t p
    rw [kept_forEach]
    · simp +decide
    · intro u d; simp +decide
  clear_value s3
  have k4 : kept s4 = kept s := by
    simp only [s4]
    rw [kept_forEach, k3]
    intro t c
    exact kept_clearRegs _ _ _ (by decide)
  clear_value s4
  simp +decide [k4]

@[simp] theorem kept_fansFull (s : State) (force : Bool) : kept (State.fansFull s force) = kept s := by
  simp +decide [State.fansFull]

@[simp] theorem kept_hibernated (s : State) : kept (State.hibernated s) = kept s := by
  simp +decide [State.hibernated]

@[simp] theorem kept_powerDone (s : State) : kept (State.powerDone s) = kept s := by
  simp +decide [State.powerDone]

@[simp] theorem kept_enableGroup (s : State) (k : Nat) : kept (State.enableGroup s k) = kept s := by
  simp +decide [State.enableGroup]

@[simp] theorem kept_execPowerGoodRise (g : Fin 6) (s : State) : keptOut (execPowerGoodRise g s) s := by
  simp only [execPowerGoodRise]
  (repeat' split) <;> simp +decide

@[simp] theorem kept_powerFailed (s : State) (g n : Nat) : kept (State.powerFailed s g n) = kept s := by
  simp +decide [State.powerFailed]

@[simp] theorem kept_execPowerRetry (s : State) : keptOut (execPowerRetry s) s := by
  simp +decide [execPowerRetry]

@[simp] theorem kept_fanUpdate (s : State) : kept (State.fanUpdate s) = kept s := by
  simp +decide [State.fanUpdate]

@[simp] theorem kept_noteCool (s : State) (tmax : Int) : kept (State.noteCool s tmax) = kept s := by
  simp +decide [State.noteCool]

@[simp] theorem kept_execTempSample (temps : List Int) (s : State) : keptOut (execTempSample temps s) s := by
  simp +decide [execTempSample]

@[simp] theorem kept_execFanUpdate (s : State) : keptOut (execFanUpdate s) s := by
  simp +decide [execFanUpdate]

@[simp] theorem kept_execTachMeasure (k : Fin 8) (edges : Nat) (s : State) : keptOut (execTachMeasure k edges s) s := by
  simp +decide [execTachMeasure]

@[simp] theorem kept_thermalReached (s : State) : kept (State.thermalReached s) = kept s := by
  simp +decide [State.thermalReached]

@[simp] theorem kept_abandonAll (s : State) : kept (State.abandonAll s) = kept s := by
  simp +decide [State.abandonAll]

@[simp] theorem kept_thermalBegin (s : State) : kept (State.thermalBegin s) = kept s := by
  simp +decide [State.thermalBegin]

@[simp] theorem kept_endLateRuns (s : State) : kept (State.endLateRuns s) = kept s := by
  simp +decide [State.endLateRuns]

@[simp] theorem kept_thermalStop (s : State) : kept (State.thermalStop s) = kept s := by
  simp +decide [State.thermalStop]

@[simp] theorem kept_thermalUp (s : State) (cause ev : Fld) (h : calm cause.reg = true) (h' : calm ev.reg = true) : kept (s.thermalUp cause ev) = kept s := by
  unfold State.thermalUp
  (rw [kept_powerUp, kept_modPwr, kept_set0 _ _ _ (by decide), kept_set0 _ _ _ (by decide), kept_raise _ _ _ h', kept_raise _ _ _ h] <;> first | (intro _; rfl) | skip)

@[simp] theorem kept_execThermalRestart (s : State) : keptOut (execThermalRestart s) s := by
  simp +decide [execThermalRestart]

@[simp] theorem kept_execTripRestart (s : State) : keptOut (execTripRestart s) s := by
  simp +decide [execTripRestart]

@[simp] theorem kept_offDone (s : State) (g : OffGoal) : kept (s.offDone g) = kept s := by
  cases g <;> simp +decide [State.offDone]

@[simp] theorem kept_windowDone (s : State) (fail : Bool) (unit channels durMs : Nat) : kept (State.windowDone s fail unit channels durMs) = kept s := by
  simp +decide [State.windowDone]

@[simp] theorem kept_seqDone (s : State) (q : DroneSeq) : kept (s.seqDone q) = kept s := by
  cases q <;> simp only [State.seqDone]
  all_goals (repeat' split) <;> simp +decide

@[simp] theorem kept_waken (s : State) : kept (State.waken s) = kept s := by
  simp +decide [State.waken]

@[simp] theorem kept_noteCores (s : State) : kept (State.noteCores s) = kept s := by
  simp +decide [State.noteCores]

end Sys2Proof.Laws
end

