-- ==== Sys2Proof/Laws/KeptFirmware.lean ====
section
/-! SUPPORT. The operations of Machine/Firmware.lean leave alone what `kept` gathers. -/

namespace Sys2Proof.Laws

open Sys2Proof.Machine

@[simp] theorem kept_execFwDownload (fn : FnIx) (tag : Nat) (dma : Dma) (s : State) : keptOut (execFwDownload fn tag dma s) s := by
  simp +decide [execFwDownload]

@[simp] theorem kept_commitImage (s : State) (image : FwImage) (flash : Bool) : kept (State.commitImage s image flash) = kept s := by
  simp +decide [State.commitImage]

@[simp] theorem kept_execFwCommit (fn : FnIx) (tag : Nat) (image : FwImage) (flash : Bool) (s : State) : keptOut (execFwCommit fn tag image flash s) s := by
  unfold execFwCommit
  refine kept_runAdmin_of _ _ _ _ _ fun t c h => ?_
  dsimp only
  (repeat' split) <;> simp [h]

@[simp] theorem kept_flushFn (s : State) (fn : Nat) : kept (State.flushFn s fn) = kept s := by
  simp +decide [State.flushFn]

@[simp] theorem kept_activatePackage (s : State) (c : Ctx) (image : FwImage) : kept (State.activatePackage s c image) = kept s := by
  simp +decide [State.activatePackage]

@[simp] theorem kept_modAct (s : State) (f : ActX → ActX) : kept (State.modAct s f) = kept s := by
  simp +decide [State.modAct]

@[simp] theorem kept_unitDone (s : State) (u : Nat) : kept (State.unitDone s u) = kept s := by
  simp +decide [State.unitDone]

@[simp] theorem kept_nextPhase (s : State) (a : ActX) (k : Nat) : kept (State.nextPhase s a k) = kept s := by
  simp +decide [State.nextPhase]

@[simp] theorem kept_updateDone (s : State) (a : ActX) : kept (State.updateDone s a) = kept s := by
  simp only [State.updateDone]
  (repeat' split) <;> simp +decide

@[simp] theorem kept_finishUnit (s : State) (a : ActX) (k : Nat) : kept (State.finishUnit s a k) = kept s := by
  simp only [State.finishUnit]
  (repeat' split) <;> simp +decide

@[simp] theorem kept_beginUnit (s : State) (k u : Nat) : kept (State.beginUnit s k u) = kept s := by
  simp +decide [State.beginUnit]

@[simp] theorem kept_startUnit (s : State) (a : ActX) (k : Nat) : kept (State.startUnit s a k) = kept s := by
  simp only [State.startUnit]
  (repeat' split) <;> simp +decide

@[simp] theorem kept_coresUpdated (s : State) (a : ActX) : kept (State.coresUpdated s a) = kept s := by
  simp +decide [State.coresUpdated]

@[simp] theorem kept_endPhase (s : State) (a : ActX) (k : Nat) : kept (State.endPhase s a k) = kept s := by
  unfold State.endPhase
  (repeat' split) <;> simp +decide

@[simp] theorem kept_execLiveUpdateStep (s : State) : keptOut (execLiveUpdateStep s) s := by
  simp only [execLiveUpdateStep]
  (repeat' split) <;> simp +decide

@[simp] theorem kept_execTrialConfirm (s : State) : keptOut (execTrialConfirm s) s := by
  simp only [execTrialConfirm]
  (repeat' split) <;> simp +decide

@[simp] theorem kept_sendBfw (s : State) (k : Nat) (l : List (List Nat)) : kept (State.sendBfw s k l) = kept s := by
  simp +decide [State.sendBfw]

@[simp] theorem kept_execBfwUpdate (mn : Fin 4160) (image : List Nat) (offer check : Fin 4) (s : State) : keptOut (execBfwUpdate mn image offer check s) s := by
  simp only [execBfwUpdate]
  (repeat' split) <;> simp +decide

@[simp] theorem kept_execBfwRebootTimeout (mn : Fin 4160) (s : State) : keptOut (execBfwRebootTimeout mn s) s := by
  simp only [execBfwRebootTimeout]
  (repeat' split) <;> simp +decide

end Sys2Proof.Laws
end

