-- ==== Sys2Proof/Laws/KeptService.lean ====
section
/-! SUPPORT. The operations of Machine/Service.lean leave alone what `kept` gathers. -/

namespace Sys2Proof.Laws

open Sys2Proof.Machine

@[simp] theorem kept_execSupKick (v : Word) (s : State) : keptOut (execSupKick v s) s := by
  simp +decide [execSupKick]

@[simp] theorem kept_execFabricTimeout (r : Requester) (code base : Fin 65536) (granted : Nat) (s : State) : keptOut (execFabricTimeout r code base granted s) s := by
  simp only [execFabricTimeout]
  (repeat' split) <;> simp +decide

@[simp] theorem kept_execEventGatherEnd (s : State) : keptOut (execEventGatherEnd s) s := by
  simp +decide [execEventGatherEnd]

@[simp] theorem kept_beginTest (s : State) (cls i : Nat) (cmd : Bool) : kept (State.beginTest s cls i cmd) = kept s := by
  simp +decide [State.beginTest]

@[simp] theorem kept_takeOut (s : State) (cls i : Nat) (cmd : Bool) : kept (State.takeOut s cls i cmd).1 = kept s := by
  simp only [State.takeOut]
  (repeat' split) <;> simp +decide

@[simp] theorem kept_execBistTestBlock (cls : Fin 16) (index : Fin 512) (s : State) : keptOut (execBistTestBlock cls index s) s := by
  unfold execBistTestBlock
  refine kept_regCmd _ _ fun t => ?_
  simp +decide

@[simp] theorem kept_newRound (s : State) : kept (State.newRound s) = kept s := by
  simp +decide [State.newRound]

@[simp] theorem kept_execPeriodicBist (s : State) : keptOut (execPeriodicBist s) s := by
  unfold execPeriodicBist
  split
  · simp
  · extract_lets t
    have kt : kept t = kept s := kept_newRound s
    clear_value t
    split
    · simp [kt]
    · dsimp only
      rw [kept_fin, kept_modDbg, kept_takeOut, kt]

@[simp] theorem kept_endTest (s : State) (cls i : Nat) (pass : Bool) : kept (State.endTest s cls i pass) = kept s := by
  simp only [State.endTest]
  (repeat' split) <;> simp +decide

@[simp] theorem kept_execBistDone (pass memory : Bool) (s : State) : keptOut (execBistDone pass memory s) s := by
  simp only [execBistDone]
  (repeat' split) <;> simp +decide

@[simp] theorem kept_execAuthChallenge (s : State) : keptOut (execAuthChallenge s) s := by
  simp +decide [execAuthChallenge]

@[simp] theorem kept_execAuthVerify (ok : Bool) (s : State) : keptOut (execAuthVerify ok s) s := by
  simp +decide [execAuthVerify]

@[simp] theorem kept_execAuthEnd (s : State) : keptOut (execAuthEnd s) s := by
  simp +decide [execAuthEnd]

end Sys2Proof.Laws
end

