-- ==== Sys2Proof/Laws/KeptAccess.lean ====
section
/-! SUPPORT. The operations of Machine/Access.lean leave alone what `kept` gathers. -/

namespace Sys2Proof.Laws

open Sys2Proof.Machine

@[simp] theorem kept_gpioLevel (s : State) (g : Nat) (lvl : Bool) : kept (State.gpioLevel s g lvl) = kept s := by
  simp +decide [State.gpioLevel]

@[simp] theorem kept_gpioDrive (s : State) : kept (State.gpioDrive s) = kept s := by
  simp +decide [State.gpioDrive]

@[simp] theorem kept_execGpioEdge (g : Fin 32) (level : Bool) (s : State) : keptOut (execGpioEdge g level s) s := by
  simp +decide [execGpioEdge]

@[simp] theorem kept_execGpioSet (mask : Word) (s : State) : keptOut (execGpioSet mask s) s := by
  unfold execGpioSet
  refine kept_regCmd _ _ fun t => ?_
  simp +decide

@[simp] theorem kept_execGpioClr (mask : Word) (s : State) : keptOut (execGpioClr mask s) s := by
  unfold execGpioClr
  refine kept_regCmd _ _ fun t => ?_
  simp +decide

@[simp] theorem kept_execAttentionWrite (fn : FnIx) (s : State) : keptOut (execAttentionWrite fn s) s := by
  simp +decide [execAttentionWrite]

@[simp] theorem kept_execPartnerWake (p : PortIx) (s : State) : keptOut (execPartnerWake p s) s := by
  simp +decide [execPartnerWake]

@[simp] theorem kept_execHostLinkUp (p : HostPort) (width rate : Fin 16) (s : State) : keptOut (execHostLinkUp p width rate s) s := by
  simp +decide [execHostLinkUp]

@[simp] theorem kept_mctpTake (s : State) (r : MctpReq) : kept (State.mctpTake s r) = kept s := by
  simp +decide [State.mctpTake]

@[simp] theorem kept_execMctpControl (req : List Nat) (s : State) : keptOut (execMctpControl req s) s := by
  simp +decide [execMctpControl]

@[simp] theorem kept_execMctpStatus (s : State) : keptOut (execMctpStatus s) s := by
  simp +decide [execMctpStatus]

@[simp] theorem kept_execMctpReadRegister (offset : Nat) (s : State) : keptOut (execMctpReadRegister offset s) s := by
  simp +decide [execMctpReadRegister]

@[simp] theorem kept_execMctpTelemetry (mn : Fin 65536) (s : State) : keptOut (execMctpTelemetry mn s) s := by
  simp +decide [execMctpTelemetry]

@[simp] theorem kept_execMctpLogEntries (seq : Nat) (count : Fin 256) (s : State) : keptOut (execMctpLogEntries seq count s) s := by
  simp +decide [execMctpLogEntries]

/-- A register that is not calm has only read-only fields. -/
theorem ro_or_calm : ∀ e ∈ allRegs, calm e.reg = true ∨ (e.flds.all fun f => decide (f.acc = .ro)) = true ∧ isReg e .PEN_CFG = false := by
  decide +kernel

theorem calm_authResp : ∀ e ∈ allRegs, isReg e .DBG_AUTH_RESP = true → calm e.reg = true := by
  decide +kernel

theorem calm_fnCtrl : ∀ e ∈ allRegs, isReg e .FN_CTRL = true → calm e.reg = true := by
  decide +kernel

theorem findReg_mem {a : Nat} {e : RegEntry} {i j : Nat} (h : findReg a = some (e, i, j)) : e ∈ allRegs := by
  obtain ⟨x, hx, hy⟩ := List.exists_of_findSome?_eq_some h
  obtain ⟨ij, -, hz⟩ := Option.map_eq_some_iff.mp hy
  cases hz
  exact hx

theorem foldl_ro {e : RegEntry} (h : (e.flds.all fun f => decide (f.acc = .ro)) = true) (g : Word → Fld → Word) (w : Word)
    (hg : ∀ w f, f.acc = .ro → g w f = w) : e.flds.foldl g w = w := by
  revert h
  induction e.flds with
  | nil => intro _; rfl
  | cons f l ih =>
    intro h
    simp only [List.all_cons, Bool.and_eq_true, decide_eq_true_eq] at h
    rw [List.foldl_cons, hg _ _ h.1, ih h.2]

theorem kept_readEffect (s : State) (e : RegEntry) (i j : Nat) (he : e ∈ allRegs) : kept (s.readEffect e i j) = kept s := by
  unfold State.readEffect
  dsimp only
  split
  · rfl
  · split
    · rfl
    · split
      · rfl
      · split
        · rfl
        · split
          · rfl
          · rename_i h
            rcases ro_or_calm e he with hc | hr
            · exact kept_wr _ _ _ _ _ hc
            · exact absurd (foldl_ro hr.1 _ _ fun w f hf => by simp [hf]) h

@[simp] theorem kept_readReg (s : State) (a : Nat) : kept (State.readReg s a) = kept s := by
  unfold State.readReg
  dsimp only
  split
  · rename_i h
    rw [kept_readEffect _ _ _ _ (findReg_mem h)]; simp
  · simp

@[simp] theorem kept_execRegisterRead (addr : Nat) (s : State) : keptOut (execRegisterRead addr s) s := by
  simp +decide [execRegisterRead]

@[simp] theorem kept_brthWritten (s : State) : kept (State.brthWritten s) = kept s := by
  simp +decide [State.brthWritten]

@[simp] theorem kept_perfWritten (s : State) (c : Nat) (v : Word) : kept (State.perfWritten s c v) = kept s := by
  simp +decide [State.perfWritten]

theorem kept_writeEffectB (s : State) (e : RegEntry) (i : Nat) (old v : Word) (he : e ∈ allRegs) : kept (s.writeEffectB e i old v) = kept s := by
  unfold State.writeEffectB
  split
  · exact kept_set0 _ _ _ (by decide)
  · split
    · simp
    · split
      · exact kept_forEach _ _ _ fun t c => kept_set _ _ _ _ (by decide)
      · split
        · rename_i h; exact kept_wr _ _ _ _ _ (calm_authResp e he h)
        · (repeat' split) <;> first | rfl | exact kept_set0 _ _ _ (by decide)

theorem kept_writeEffect (s : State) (e : RegEntry) (i : Nat) (old v : Word) (he : e ∈ allRegs) : kept (s.writeEffect e i old v) = kept s := by
  unfold State.writeEffect
  split
  · split <;> simp
  · split
    · split <;> simp
    · split
      · (rw [kept_fanUpdate, kept_modPwr] <;> first | (intro _; rfl) | skip)
      · split
        · simp
        · split
          · simp
          · split
            · simp
            · exact kept_writeEffectB _ _ _ _ _ he

@[simp] theorem kept_writeWakeCtrl (s : State) (v : Word) : kept (State.writeWakeCtrl s v) = kept s := by
  simp +decide [State.writeWakeCtrl]

theorem kept_store (s : State) (r : Reg) (i j : Nat) (w : Word) (h : calm r = true ∨ w = s.rd r i j) : kept (s.store r i j w) = kept s := by
  unfold State.store
  split
  · rfl
  · rename_i hw
    exact kept_wr _ _ _ _ _ (h.resolve_right hw)

theorem written_ro (s : State) (e : RegEntry) (i j : Nat) (v : Word) (he : e ∈ allRegs) : calm e.reg = true ∨ s.written e i j v = s.rd e.reg i j := by
  rcases ro_or_calm e he with hc | hr
  · exact .inl hc
  · by_cases hc : calm e.reg = true
    · exact .inl hc
    · refine .inr ?_
      have hp : isReg e .PEN_CFG = false := hr.2
      have hf : isReg e .FN_CTRL = false := by
        cases h : isReg e .FN_CTRL with
        | false => rfl
        | true => exact absurd (calm_fnCtrl e he h) hc
      unfold State.written
      dsimp only
      rw [hp, hf]
      exact foldl_ro hr.1 _ _ fun w f hf => by simp [putField, hf]

theorem kept_writeReg (s : State) (e : RegEntry) (i j : Nat) (v : Word) (he : e ∈ allRegs) : kept (s.writeReg e i j v) = kept s := by
  unfold State.writeReg
  split
  · rfl
  · split
    · rename_i f h
      refine kept_set0 _ _ _ ?_
      unfold State.writeBusy at h
      (repeat' split at h) <;> cases h <;> decide
    · rfl
    · split
      · simp
      · split
        · rfl
        · rw [kept_writeEffect _ _ _ _ _ he, kept_store _ _ _ _ _ (written_ro s e i j v he)]

@[simp] theorem kept_writeBar2 (s : State) (a : Nat) (v : Word) : kept (State.writeBar2 s a v) = kept s := by
  simp +decide [State.writeBar2]

@[simp] theorem kept_execRegisterWrite (addr : Nat) (value : Word) (be : Fin 16) (s : State) : keptOut (execRegisterWrite addr value be s) s := by
  unfold execRegisterWrite
  extract_lets s1
  have k1 : kept s1 = kept s := by simp only [s1]; split <;> simp
  clear_value s1
  (repeat' split) <;> first | (simp [k1]; done) | (rw [kept_fin, kept_writeReg _ _ _ _ _ (findReg_mem ‹_›), k1])

end Sys2Proof.Laws
end

