-- ==== Sys2Proof/Laws/KeptCalibCmds.lean ====
section
/-! SUPPORT. The operations of Machine/CalibCmds.lean leave alone what `kept` gathers. -/

namespace Sys2Proof.Laws

open Sys2Proof.Machine

@[simp] theorem kept_startOpcWrite (s : State) (f n : Nat) (r : CalRunX) : kept (State.startOpcWrite s f n r) = kept s := by
  simp +decide [State.startOpcWrite]

@[simp] theorem kept_opcToward (s : State) (n : Nat) (r : CalRunX) : kept (State.opcToward s n r) = kept s := by
  unfold State.opcToward
  dsimp only
  have k0 : kept (s.wantHead n r.layer (opcCluster r.block)) = kept s := by simp +decide
  generalize s.wantHead n r.layer (opcCluster r.block) = s0 at k0
  split
  · exact k0
  · rename_i f _
    generalize s0.opcLevels n r.layer 0 = first
    split
    · exact k0
    · split
      · simp +decide [k0]
      · split
        · simp +decide [k0]
        · split
          · exact k0
          · split <;> (rename_i h; have k := (kept_fst h (kept_askWrite _ _ _ _)).trans k0; simp +decide [k])

@[simp] theorem kept_opcOn (s : State) (n : Nat) (r : CalRunX) : kept (State.opcOn s n r) = kept s := by
  simp only [State.opcOn]
  (repeat' split) <;> simp +decide

@[simp] theorem kept_opcStep (s : State) (n : Nat) : kept (State.opcStep s n) = kept s := by
  simp only [State.opcStep]
  (repeat' split) <;> simp +decide

@[simp] theorem kept_execCalRunStart (space : Fin 4) (index : Fin 4096) (layer : Fin 10) (item : Fin 6) (probe : Fin 4097) (s : State) : keptOut (execCalRunStart space index layer item probe s) s := by
  simp +decide [execCalRunStart]

@[simp] theorem kept_execCalRunDone (space : Fin 4) (index : Fin 4096) (layer : Fin 10) (item : Fin 6) (x : CalData) (s : State) : keptOut (execCalRunDone space index layer item x s) s := by
  simp only [execCalRunDone]
  (repeat' split) <;> simp +decide

@[simp] theorem kept_execCalRunNow (items : Fin 64) (probe : Fin 4097) (s : State) : keptOut (execCalRunNow items probe s) s := by
  unfold execCalRunNow
  refine kept_regCmd _ _ fun t => ?_
  refine kept_calCmd _ _ _ fun u a b c => ?_
  try dsimp only
  first | (simp +decide; done) | ((repeat' split) <;> simp +decide)

end Sys2Proof.Laws
end

