-- ==== Sys2Proof/Laws/Next.lean ====
section
/-! SUPPORT. Every meaning answers a next state, the reads and writes of a register at a bad address apart. -/

namespace Sys2Proof.Laws

open Sys2Proof.Machine

/-- The outcome is a next state. -/
def isNext (o : Out) : Prop := ∃ t, o = .next t

@[simp] theorem isNext_next (t : State) : isNext (.next t) := ⟨t, rfl⟩

@[simp] theorem isNext_fin (t : State) : isNext (fin t) := ⟨_, rfl⟩

theorem isNext_regCmd {s : State} {f : State → Out} (h : ∀ t, isNext (f t)) : isNext (regCmd s f) := by
  unfold regCmd
  split
  · exact isNext_fin s
  · exact h _

theorem isNext_runCmd (s : State) (fn tag op : Nat) (check : State → Ctx → Nat) (k : State → Ctx → State) : isNext (s.runCmd fn tag op check k) := by
  unfold State.runCmd
  repeat' (first | with_reducible exact isNext_fin _ | split | dsimp only)

theorem isNext_runAdmin (s : State) (fn tag op : Nat) (k : State → Ctx → State) : isNext (s.runAdmin fn tag op k) := by
  unfold State.runAdmin
  repeat' (first | with_reducible exact isNext_fin _ | split | dsimp only)

theorem isNext_runFloe (s : State) (fn tag op : Nat) (k : State → Ctx → State) : isNext (s.runFloe fn tag op k) := by
  unfold State.runFloe
  repeat' (first | with_reducible exact isNext_fin _ | split | dsimp only)

theorem isNext_calCmd (s : State) (items : Nat) (f : State → Nat → Nat → Nat → State) : isNext (s.calCmd items f) := by
  unfold State.calCmd
  repeat' (first | with_reducible exact isNext_fin _ | split | dsimp only)

theorem isNext_rimeOp (s : State) (f : State → State) : isNext (s.rimeOp f) := by
  unfold State.rimeOp
  split <;> exact isNext_fin _

theorem next_execClaim (fn : FnIx) (s : State) : isNext (execClaim fn s) := by
  unfold execClaim
  refine isNext_regCmd fun t => ?_
  repeat' (first | with_reducible exact isNext_fin _ | split | dsimp only)

theorem next_execStandby (fn : FnIx) (s : State) : isNext (execStandby fn s) := by
  unfold execStandby
  refine isNext_regCmd fun t => ?_
  repeat' (first | with_reducible exact isNext_fin _ | split | dsimp only)

theorem next_execRelease (fn : FnIx) (s : State) : isNext (execRelease fn s) := by
  unfold execRelease
  refine isNext_regCmd fun t => ?_
  repeat' (first | with_reducible exact isNext_fin _ | split | dsimp only)

theorem next_execHeartbeat (fn : FnIx) (s : State) : isNext (execHeartbeat fn s) := by
  unfold execHeartbeat
  refine isNext_regCmd fun t => ?_
  repeat' (first | with_reducible exact isNext_fin _ | split | dsimp only)

theorem next_execStewardHbTimeout (s : State) : isNext (execStewardHbTimeout s) := by
  unfold execStewardHbTimeout
  repeat' (first | with_reducible exact isNext_fin _ | split | dsimp only)

theorem next_execBar4AccessDenied (fn : FnIx) (write : Bool) (s : State) : isNext (execBar4AccessDenied fn write s) := by
  unfold execBar4AccessDenied
  refine isNext_regCmd fun t => ?_
  repeat' (first | with_reducible exact isNext_fin _ | split | dsimp only)

theorem next_execFnEnable (fn : FnIx) (verReq : Fin 8) (table : Option (List Nat)) (s : State) : isNext (execFnEnable fn verReq table s) := by
  unfold execFnEnable
  refine isNext_regCmd fun t => ?_
  repeat' (first | with_reducible exact isNext_fin _ | split | dsimp only)

theorem next_execDoorbellScan (fn : FnIx) (recs : List (Nat × Word × Word)) (s : State) : isNext (execDoorbellScan fn recs s) := by
  unfold execDoorbellScan
  repeat' (first | with_reducible exact isNext_fin _ | split | dsimp only)

theorem next_execFetchTimeout (fn : FnIx) (qpid : Nat) (err : Bool) (s : State) : isNext (execFetchTimeout fn qpid err s) := by
  unfold execFetchTimeout
  repeat' (first | with_reducible exact isNext_fin _ | split | dsimp only)

theorem next_execCompletionWrite (p : HostPort) (s : State) : isNext (execCompletionWrite p s) := by
  unfold execCompletionWrite
  repeat' (first | with_reducible exact isNext_fin _ | split | dsimp only)

theorem next_execCoalesceTimeout (fn : FnIx) (qpid : Nat) (s : State) : isNext (execCoalesceTimeout fn qpid s) := by
  unfold execCoalesceTimeout
  repeat' (first | with_reducible exact isNext_fin _ | split | dsimp only)

theorem next_coefCmd (s : State) (n op l : Nat) (r : List Nat) : isNext (State.coefCmd s n op l r) := by
  unfold State.coefCmd
  refine isNext_regCmd fun t => ?_
  repeat' (first | with_reducible exact isNext_fin _ | split | dsimp only)

theorem next_execClusterFault (c : ClusterIx) (cause : Fin 3) (s : State) : isNext (execClusterFault c cause s) := by
  unfold execClusterFault
  repeat' (first | with_reducible exact isNext_fin _ | split | dsimp only)

theorem next_execHandoverServe (copies : List Mn) (s : State) : isNext (execHandoverServe copies s) := by
  unfold execHandoverServe
  repeat' (first | with_reducible exact isNext_fin _ | split | dsimp only)

theorem next_execClusterTestDone (c : ClusterIx) (pass : Bool) (s : State) : isNext (execClusterTestDone c pass s) := by
  unfold execClusterTestDone
  repeat' (first | with_reducible exact isNext_fin _ | split | dsimp only)

theorem next_execHoTest (c : Fin 32) (s : State) : isNext (execHoTest c s) := by
  unfold execHoTest
  refine isNext_regCmd fun t => ?_
  repeat' (first | with_reducible exact isNext_fin _ | split | dsimp only)

theorem next_execHoUcode (c : Fin 32) (s : State) : isNext (execHoUcode c s) := by
  unfold execHoUcode
  refine isNext_regCmd fun t => ?_
  repeat' (first | with_reducible exact isNext_fin _ | split | dsimp only)

theorem next_execHoFormat (c : Fin 32) (fmt : Bool) (s : State) : isNext (execHoFormat c fmt s) := by
  unfold execHoFormat
  refine isNext_regCmd fun t => ?_
  repeat' (first | with_reducible exact isNext_fin _ | split | dsimp only)

theorem next_execHoRetest (c : Fin 32) (s : State) : isNext (execHoRetest c s) := by
  unfold execHoRetest
  refine isNext_regCmd fun t => ?_
  repeat' (first | with_reducible exact isNext_fin _ | split | dsimp only)

theorem next_execPlannedSwitch (mn : Option Mn) (copies : List Mn) (s : State) : isNext (execPlannedSwitch mn copies s) := by
  unfold execPlannedSwitch
  repeat' (first | with_reducible exact isNext_fin _ | split | dsimp only)

theorem next_execCollisionMove (mn : Mn) (s : State) : isNext (execCollisionMove mn s) := by
  unfold execCollisionMove
  repeat' (first | with_reducible exact isNext_fin _ | split | dsimp only)

theorem next_execCoefStageToShadow (mn : Mn) (l : LoopIx) (s : State) : isNext (execCoefStageToShadow mn l s) := by
  unfold execCoefStageToShadow
  exact next_coefCmd _ _ _ _ _

theorem next_execCoefShadowToStage (mn : Mn) (l : LoopIx) (s : State) : isNext (execCoefShadowToStage mn l s) := by
  unfold execCoefShadowToStage
  exact next_coefCmd _ _ _ _ _

theorem next_execCoefActiveToStage (mn : Mn) (l : LoopIx) (s : State) : isNext (execCoefActiveToStage mn l s) := by
  unfold execCoefActiveToStage
  exact next_coefCmd _ _ _ _ _

theorem next_execCoefStageToLibrary (cls : Fin 8) (l : LoopIx) (fmt : Bool) (s : State) : isNext (execCoefStageToLibrary cls l fmt s) := by
  unfold execCoefStageToLibrary
  refine isNext_regCmd fun t => ?_
  repeat' (first | with_reducible exact isNext_fin _ | split | dsimp only)

theorem next_execCoefLibraryToStage (cls : Fin 8) (l : LoopIx) (fmt : Bool) (s : State) : isNext (execCoefLibraryToStage cls l fmt s) := by
  unfold execCoefLibraryToStage
  refine isNext_regCmd fun t => ?_
  repeat' (first | with_reducible exact isNext_fin _ | split | dsimp only)

theorem next_execSwapFromShadow (mn : Mn) (mask : Fin 256) (s : State) : isNext (execSwapFromShadow mn mask s) := by
  unfold execSwapFromShadow
  refine isNext_regCmd fun t => ?_
  repeat' (first | with_reducible exact isNext_fin _ | split | dsimp only)

theorem next_execSwapFromLibrary (mn : Mn) (mask : Fin 256) (s : State) : isNext (execSwapFromLibrary mn mask s) := by
  unfold execSwapFromLibrary
  refine isNext_regCmd fun t => ?_
  repeat' (first | with_reducible exact isNext_fin _ | split | dsimp only)

theorem next_execSwapAbort (mn : Mn) (s : State) : isNext (execSwapAbort mn s) := by
  unfold execSwapAbort
  refine isNext_regCmd fun t => ?_
  repeat' (first | with_reducible exact isNext_fin _ | split | dsimp only)

theorem next_execSwapExecute (mn : Mn) (s : State) : isNext (execSwapExecute mn s) := by
  unfold execSwapExecute
  repeat' (first | with_reducible exact isNext_fin _ | split | dsimp only)

theorem next_execSwapHoldTimeout (mn : Mn) (s : State) : isNext (execSwapHoldTimeout mn s) := by
  unfold execSwapHoldTimeout
  repeat' (first | with_reducible exact isNext_fin _ | split | dsimp only)

theorem next_execSlotSample (mn : Mn) (x : UpSlot) (s : State) : isNext (execSlotSample mn x s) := by
  unfold execSlotSample
  repeat' (first | with_reducible exact isNext_fin _ | split | dsimp only)

theorem next_execInjStart (c : ClusterIx) (mn : Mn) (l : LoopIx) (hold : Fin 16) (type : Fin 4) (s : State) : isNext (execInjStart c mn l hold type s) := by
  unfold execInjStart
  refine isNext_regCmd fun t => ?_
  repeat' (first | with_reducible exact isNext_fin _ | split | dsimp only)

theorem next_execInjStop (c : ClusterIx) (s : State) : isNext (execInjStop c s) := by
  unfold execInjStop
  refine isNext_regCmd fun t => ?_
  repeat' (first | with_reducible exact isNext_fin _ | split | dsimp only)

theorem next_execCapArm (c : ClusterIx) (mn : Mn) (dec : Fin 16) (trig : Fin 4) (s : State) : isNext (execCapArm c mn dec trig s) := by
  unfold execCapArm
  refine isNext_regCmd fun t => ?_
  repeat' (first | with_reducible exact isNext_fin _ | split | dsimp only)

theorem next_execCapStop (c : ClusterIx) (s : State) : isNext (execCapStop c s) := by
  unfold execCapStop
  refine isNext_regCmd fun t => ?_
  repeat' (first | with_reducible exact isNext_fin _ | split | dsimp only)

theorem next_execPullInAttemptTimeout (mn : Mn) (s : State) : isNext (execPullInAttemptTimeout mn s) := by
  unfold execPullInAttemptTimeout
  repeat' (first | with_reducible exact isNext_fin _ | split | dsimp only)

theorem next_execLayerStepTimeout (mn : Mn) (s : State) : isNext (execLayerStepTimeout mn s) := by
  unfold execLayerStepTimeout
  repeat' (first | with_reducible exact isNext_fin _ | split | dsimp only)

theorem next_execTrackOnTimeout (mn : Mn) (s : State) : isNext (execTrackOnTimeout mn s) := by
  unfold execTrackOnTimeout
  repeat' (first | with_reducible exact isNext_fin _ | split | dsimp only)

theorem next_execLayerJump (mn : Mn) (layer : Fin 10) (s : State) : isNext (execLayerJump mn layer s) := by
  unfold execLayerJump
  repeat' (first | with_reducible exact isNext_fin _ | split | dsimp only)

theorem next_execTrackJump (mn : Mn) (tracks : Int) (s : State) : isNext (execTrackJump mn tracks s) := by
  unfold execTrackJump
  repeat' (first | with_reducible exact isNext_fin _ | split | dsimp only)

theorem next_execLongSeek (mn : Mn) (tracks : Int) (cmd : Option (FnIx × Nat)) (s : State) : isNext (execLongSeek mn tracks cmd s) := by
  unfold execLongSeek
  repeat' (first | with_reducible exact isNext_fin _ | split | dsimp only)

theorem next_execAddressRead (mn : Mn) (b : BeamIx) (a : DiscAddr) (theta : Option Word) (residual : Option Int) (s : State) : isNext (execAddressRead mn b a theta residual s) := by
  unfold execAddressRead
  repeat' (first | with_reducible exact isNext_fin _ | split | dsimp only)

theorem next_execProfileAlign (mn : Mn) (s : State) : isNext (execProfileAlign mn s) := by
  unfold execProfileAlign
  repeat' (first | with_reducible exact isNext_fin _ | split | dsimp only)

theorem next_execProfileLearnDone (mn : Mn) (s : State) : isNext (execProfileLearnDone mn s) := by
  unfold execProfileLearnDone
  repeat' (first | with_reducible exact isNext_fin _ | split | dsimp only)

theorem next_execSpinStart (mn : Mn) (s : State) : isNext (execSpinStart mn s) := by
  unfold execSpinStart
  repeat' (first | with_reducible exact isNext_fin _ | split | dsimp only)

theorem next_execSenseDone (mn : Mn) (s : State) : isNext (execSenseDone mn s) := by
  unfold execSenseDone
  repeat' (first | with_reducible exact isNext_fin _ | split | dsimp only)

theorem next_execReverseShortDone (mn : Mn) (s : State) : isNext (execReverseShortDone mn s) := by
  unfold execReverseShortDone
  repeat' (first | with_reducible exact isNext_fin _ | split | dsimp only)

theorem next_execCoastWaitDone (mn : Mn) (s : State) : isNext (execCoastWaitDone mn s) := by
  unfold execCoastWaitDone
  repeat' (first | with_reducible exact isNext_fin _ | split | dsimp only)

theorem next_execCatchDone (mn : Mn) (s : State) : isNext (execCatchDone mn s) := by
  unfold execCatchDone
  repeat' (first | with_reducible exact isNext_fin _ | split | dsimp only)

theorem next_execRestDone (mn : Mn) (s : State) : isNext (execRestDone mn s) := by
  unfold execRestDone
  repeat' (first | with_reducible exact isNext_fin _ | split | dsimp only)

theorem next_execAlignDone (mn : Mn) (s : State) : isNext (execAlignDone mn s) := by
  unfold execAlignDone
  repeat' (first | with_reducible exact isNext_fin _ | split | dsimp only)

theorem next_execObserverHandover (mn : Mn) (s : State) : isNext (execObserverHandover mn s) := by
  unfold execObserverHandover
  repeat' (first | with_reducible exact isNext_fin _ | split | dsimp only)

theorem next_execObserverTimeout (mn : Mn) (s : State) : isNext (execObserverTimeout mn s) := by
  unfold execObserverTimeout
  repeat' (first | with_reducible exact isNext_fin _ | split | dsimp only)

theorem next_execSpinupTimeout (mn : Mn) (s : State) : isNext (execSpinupTimeout mn s) := by
  unfold execSpinupTimeout
  repeat' (first | with_reducible exact isNext_fin _ | split | dsimp only)

theorem next_execSpeedReached (mn : Mn) (s : State) : isNext (execSpeedReached mn s) := by
  unfold execSpeedReached
  repeat' (first | with_reducible exact isNext_fin _ | split | dsimp only)

theorem next_execSpeedPlan (mn : Mn) (s : State) : isNext (execSpeedPlan mn s) := by
  unfold execSpeedPlan
  repeat' (first | with_reducible exact isNext_fin _ | split | dsimp only)

theorem next_execTargetDwell (mn : Mn) (s : State) : isNext (execTargetDwell mn s) := by
  unfold execTargetDwell
  repeat' (first | with_reducible exact isNext_fin _ | split | dsimp only)

theorem next_execIdleSpinDown (mn : Mn) (s : State) : isNext (execIdleSpinDown mn s) := by
  unfold execIdleSpinDown
  repeat' (first | with_reducible exact isNext_fin _ | split | dsimp only)

theorem next_execSlotReclaim (mn : Mn) (s : State) : isNext (execSlotReclaim mn s) := by
  unfold execSlotReclaim
  repeat' (first | with_reducible exact isNext_fin _ | split | dsimp only)

theorem next_execSpinDown (mn : Mn) (s : State) : isNext (execSpinDown mn s) := by
  unfold execSpinDown
  repeat' (first | with_reducible exact isNext_fin _ | split | dsimp only)

theorem next_execShortBrakeDone (mn : Mn) (s : State) : isNext (execShortBrakeDone mn s) := by
  unfold execShortBrakeDone
  repeat' (first | with_reducible exact isNext_fin _ | split | dsimp only)

theorem next_execCoastDownElapsed (mn : Mn) (s : State) : isNext (execCoastDownElapsed mn s) := by
  unfold execCoastDownElapsed
  repeat' (first | with_reducible exact isNext_fin _ | split | dsimp only)

theorem next_execSledHoldCurrent (mn : Mn) (s : State) : isNext (execSledHoldCurrent mn s) := by
  unfold execSledHoldCurrent
  repeat' (first | with_reducible exact isNext_fin _ | split | dsimp only)

theorem next_execSledTblStageToTable (cls : Fin 8) (s : State) : isNext (execSledTblStageToTable cls s) := by
  unfold execSledTblStageToTable
  refine isNext_regCmd fun t => ?_
  repeat' (first | with_reducible exact isNext_fin _ | split | dsimp only)

theorem next_execSledTblTableToStage (cls : Fin 8) (s : State) : isNext (execSledTblTableToStage cls s) := by
  unfold execSledTblTableToStage
  refine isNext_regCmd fun t => ?_
  repeat' (first | with_reducible exact isNext_fin _ | split | dsimp only)

theorem next_execSledTblDefaultToStage (cls : Fin 8) (s : State) : isNext (execSledTblDefaultToStage cls s) := by
  unfold execSledTblDefaultToStage
  refine isNext_regCmd fun t => ?_
  repeat' (first | with_reducible exact isNext_fin _ | split | dsimp only)

theorem next_execTrayMoveStart (mn : Mn) (s : State) : isNext (execTrayMoveStart mn s) := by
  unfold execTrayMoveStart
  repeat' (first | with_reducible exact isNext_fin _ | split | dsimp only)

theorem next_execTraySwitchReached (mn : Mn) (s : State) : isNext (execTraySwitchReached mn s) := by
  unfold execTraySwitchReached
  repeat' (first | with_reducible exact isNext_fin _ | split | dsimp only)

theorem next_execTrayTimeout (mn : Mn) (s : State) : isNext (execTrayTimeout mn s) := by
  unfold execTrayTimeout
  repeat' (first | with_reducible exact isNext_fin _ | split | dsimp only)

theorem next_execServoPositionGrant (p : PortIx) (s : State) : isNext (execServoPositionGrant p s) := by
  unfold execServoPositionGrant
  exact isNext_fin _

theorem next_execForceSafe (mn : Mn) (s : State) : isNext (execForceSafe mn s) := by
  unfold execForceSafe
  refine isNext_regCmd fun t => ?_
  repeat' (first | with_reducible exact isNext_fin _ | split | dsimp only)

theorem next_execClrFault (mn : Mn) (s : State) : isNext (execClrFault mn s) := by
  unfold execClrFault
  refine isNext_regCmd fun t => ?_
  repeat' (first | with_reducible exact isNext_fin _ | split | dsimp only)

theorem next_execUnisolate (mn : Mn) (pass clamped : Bool) (s : State) : isNext (execUnisolate mn pass clamped s) := by
  unfold execUnisolate
  refine isNext_regCmd fun t => ?_
  repeat' (first | with_reducible exact isNext_fin _ | split | dsimp only)

theorem next_execBreathRequest (cls : Fin 8) (who : Mn) (v : Nat) (prio : Fin 256) (cmd : Option (FnIx × Nat)) (s : State) : isNext (execBreathRequest cls who v prio cmd s) := by
  unfold execBreathRequest
  repeat' (first | with_reducible exact isNext_fin _ | split | dsimp only)

theorem next_execBreathRelease (cls : Fin 8) (who : Mn) (s : State) : isNext (execBreathRelease cls who s) := by
  unfold execBreathRelease
  repeat' (first | with_reducible exact isNext_fin _ | split | dsimp only)

theorem next_execRequestAged (cls : Fin 8) (who : Mn) (s : State) : isNext (execRequestAged cls who s) := by
  unfold execRequestAged
  repeat' (first | with_reducible exact isNext_fin _ | split | dsimp only)

theorem next_execOverdrawTick (s : State) : isNext (execOverdrawTick s) := by
  unfold execOverdrawTick
  repeat' (first | with_reducible exact isNext_fin _ | split | dsimp only)

theorem next_execOverdrawLong (d : DomainIx) (s : State) : isNext (execOverdrawLong d s) := by
  unfold execOverdrawLong
  repeat' (first | with_reducible exact isNext_fin _ | split | dsimp only)

theorem next_execMechExcess (mn : Mn) (s : State) : isNext (execMechExcess mn s) := by
  unfold execMechExcess
  repeat' (first | with_reducible exact isNext_fin _ | split | dsimp only)

theorem next_execBistGapExpiry (s : State) : isNext (execBistGapExpiry s) := by
  unfold execBistGapExpiry
  exact isNext_fin _

theorem next_execTrainStepDone (p : PortIx) (x : TrainInfo) (s : State) : isNext (execTrainStepDone p x s) := by
  unfold execTrainStepDone
  repeat' (first | with_reducible exact isNext_fin _ | split | dsimp only)

theorem next_execTrainStepTimeout (p : PortIx) (partner : Bool) (s : State) : isNext (execTrainStepTimeout p partner s) := by
  unfold execTrainStepTimeout
  repeat' (first | with_reducible exact isNext_fin _ | split | dsimp only)

theorem next_execTrainRetry (p : PortIx) (s : State) : isNext (execTrainRetry p s) := by
  unfold execTrainRetry
  repeat' (first | with_reducible exact isNext_fin _ | split | dsimp only)

theorem next_execPortEnable (p : PortIx) (s : State) : isNext (execPortEnable p s) := by
  unfold execPortEnable
  refine isNext_regCmd fun t => ?_
  repeat' (first | with_reducible exact isNext_fin _ | split | dsimp only)

theorem next_execPortDisable (p : PortIx) (s : State) : isNext (execPortDisable p s) := by
  unfold execPortDisable
  refine isNext_regCmd fun t => ?_
  repeat' (first | with_reducible exact isNext_fin _ | split | dsimp only)

theorem next_execRetrain (p : PortIx) (s : State) : isNext (execRetrain p s) := by
  unfold execRetrain
  refine isNext_regCmd fun t => ?_
  repeat' (first | with_reducible exact isNext_fin _ | split | dsimp only)

theorem next_execClrCnt (p : PortIx) (s : State) : isNext (execClrCnt p s) := by
  unfold execClrCnt
  refine isNext_regCmd fun t => ?_
  repeat' (first | with_reducible exact isNext_fin _ | split | dsimp only)

theorem next_execTxOvercurrent (p : PortIx) (lane : Fin 2) (s : State) : isNext (execTxOvercurrent p lane s) := by
  unfold execTxOvercurrent
  repeat' (first | with_reducible exact isNext_fin _ | split | dsimp only)

theorem next_execTxOvercurrentRetry (p : PortIx) (lane : Fin 2) (clear : Bool) (s : State) : isNext (execTxOvercurrentRetry p lane clear s) := by
  unfold execTxOvercurrentRetry
  repeat' (first | with_reducible exact isNext_fin _ | split | dsimp only)

theorem next_execLaneLoss (p : PortIx) (lane : Fin 2) (s : State) : isNext (execLaneLoss p lane s) := by
  unfold execLaneLoss
  repeat' (first | with_reducible exact isNext_fin _ | split | dsimp only)

theorem next_execLaneRejoinAttempt (p : PortIx) (lock : Bool) (s : State) : isNext (execLaneRejoinAttempt p lock s) := by
  unfold execLaneRejoinAttempt
  repeat' (first | with_reducible exact isNext_fin _ | split | dsimp only)

theorem next_execLaneRejoin (p : PortIx) (s : State) : isNext (execLaneRejoin p s) := by
  unfold execLaneRejoin
  repeat' (first | with_reducible exact isNext_fin _ | split | dsimp only)

theorem next_execLaneModeSwitch (p : PortIx) (loopNs : Nat) (s : State) : isNext (execLaneModeSwitch p loopNs s) := by
  unfold execLaneModeSwitch
  repeat' (first | with_reducible exact isNext_fin _ | split | dsimp only)

theorem next_execUpstreamHeader (p : PortIx) (h : UpHeader) (s : State) : isNext (execUpstreamHeader p h s) := by
  unfold execUpstreamHeader
  repeat' (first | with_reducible exact isNext_fin _ | split | dsimp only)

theorem next_execMapEpochChange (p : PortIx) (s : State) : isNext (execMapEpochChange p s) := by
  unfold execMapEpochChange
  repeat' (first | with_reducible exact isNext_fin _ | split | dsimp only)

theorem next_execServoSlotReceived (p : PortIx) (k : Fin 16) (x : UpSlot) (onTime : Bool) (s : State) : isNext (execServoSlotReceived p k x onTime s) := by
  unfold execServoSlotReceived
  repeat' (first | with_reducible exact isNext_fin _ | split | dsimp only)

theorem next_execServoSlotMissing (p : PortIx) (k : Fin 16) (s : State) : isNext (execServoSlotMissing p k s) := by
  unfold execServoSlotMissing
  repeat' (first | with_reducible exact isNext_fin _ | split | dsimp only)

theorem next_execActuatorRepeat (mn : Mn) (s : State) : isNext (execActuatorRepeat mn s) := by
  unfold execActuatorRepeat
  repeat' (first | with_reducible exact isNext_fin _ | split | dsimp only)

theorem next_execLockTimeout (p : PortIx) (s : State) : isNext (execLockTimeout p s) := by
  unfold execLockTimeout
  repeat' (first | with_reducible exact isNext_fin _ | split | dsimp only)

theorem next_execDropTimeout (mn : Mn) (s : State) : isNext (execDropTimeout mn s) := by
  unfold execDropTimeout
  repeat' (first | with_reducible exact isNext_fin _ | split | dsimp only)

theorem next_execDropNotFound (mn : Mn) (s : State) : isNext (execDropNotFound mn s) := by
  unfold execDropNotFound
  repeat' (first | with_reducible exact isNext_fin _ | split | dsimp only)

theorem next_execMgmtMessage (p : PortIx) (a : Fin 65) (mseq mack : Fin 4096) (good : Bool) (b : MgmtBody) (s : State) : isNext (execMgmtMessage p a mseq mack good b s) := by
  unfold execMgmtMessage
  repeat' (first | with_reducible exact isNext_fin _ | split | dsimp only)

theorem next_execMgmtResend (p : PortIx) (a : Fin 65) (s : State) : isNext (execMgmtResend p a s) := by
  unfold execMgmtResend
  repeat' (first | with_reducible exact isNext_fin _ | split | dsimp only)

theorem next_execLowpowerEntry (p : PortIx) (s : State) : isNext (execLowpowerEntry p s) := by
  unfold execLowpowerEntry
  repeat' (first | with_reducible exact isNext_fin _ | split | dsimp only)

theorem next_execSleep (p : PortIx) (s : State) : isNext (execSleep p s) := by
  unfold execSleep
  refine isNext_regCmd fun t => ?_
  repeat' (first | with_reducible exact isNext_fin _ | split | dsimp only)

theorem next_execPortWake (p : PortIx) (s : State) : isNext (execPortWake p s) := by
  unfold execPortWake
  refine isNext_regCmd fun t => ?_
  repeat' (first | with_reducible exact isNext_fin _ | split | dsimp only)

theorem next_execPortWakeTimeout (p : PortIx) (s : State) : isNext (execPortWakeTimeout p s) := by
  unfold execPortWakeTimeout
  repeat' (first | with_reducible exact isNext_fin _ | split | dsimp only)

theorem next_execLaneBind (mn : Mn) (own : Bool) (s : State) : isNext (execLaneBind mn own s) := by
  unfold execLaneBind
  repeat' (first | with_reducible exact isNext_fin _ | split | dsimp only)

theorem next_execLaneIdleRelease (mn : Mn) (s : State) : isNext (execLaneIdleRelease mn s) := by
  unfold execLaneIdleRelease
  repeat' (first | with_reducible exact isNext_fin _ | split | dsimp only)

theorem next_execLaneMigrate (lane : Fin 512) (s : State) : isNext (execLaneMigrate lane s) := by
  unfold execLaneMigrate
  refine isNext_regCmd fun t => ?_
  repeat' (first | with_reducible exact isNext_fin _ | split | dsimp only)

theorem next_execMigrationSwitch (f : LaneIx) (s : State) : isNext (execMigrationSwitch f s) := by
  unfold execMigrationSwitch
  repeat' (first | with_reducible exact isNext_fin _ | split | dsimp only)

theorem next_execLaneFault (f : LaneIx) (cause : Fin 3) (s : State) : isNext (execLaneFault f cause s) := by
  unfold execLaneFault
  repeat' (first | with_reducible exact isNext_fin _ | split | dsimp only)

theorem next_execLaneTest (lane : Fin 512) (s : State) : isNext (execLaneTest lane s) := by
  unfold execLaneTest
  refine isNext_regCmd fun t => ?_
  repeat' (first | with_reducible exact isNext_fin _ | split | dsimp only)

theorem next_execLaneRetest (lane : Fin 512) (s : State) : isNext (execLaneRetest lane s) := by
  unfold execLaneRetest
  refine isNext_regCmd fun t => ?_
  repeat' (first | with_reducible exact isNext_fin _ | split | dsimp only)

theorem next_execLaneTestDone (f : LaneIx) (pass : Bool) (s : State) : isNext (execLaneTestDone f pass s) := by
  unfold execLaneTestDone
  repeat' (first | with_reducible exact isNext_fin _ | split | dsimp only)

theorem next_execRfBurst (f : LaneIx) (seq : Fin 4096) (ovld : Fin 16) (gain : Word) (words : List (BitVec 128)) (place : Option (Fin 16 × Fin 1048576 × Fin 8)) (s : State) : isNext (execRfBurst f seq ovld gain words place s) := by
  unfold execRfBurst
  exact isNext_fin _

theorem next_execLevelBankSwitch (f : LaneIx) (s : State) : isNext (execLevelBankSwitch f s) := by
  unfold execLevelBankSwitch
  repeat' (first | with_reducible exact isNext_fin _ | split | dsimp only)

theorem next_execWriteStop (f : LaneIx) (s : State) : isNext (execWriteStop f s) := by
  unfold execWriteStop
  exact isNext_fin _

theorem next_execWriteStopTimeout (f : LaneIx) (s : State) : isNext (execWriteStopTimeout f s) := by
  unfold execWriteStopTimeout
  repeat' (first | with_reducible exact isNext_fin _ | split | dsimp only)

theorem next_execLlrMove (s : State) : isNext (execLlrMove s) := by
  unfold execLlrMove
  repeat' (first | with_reducible exact isNext_fin _ | split | dsimp only)

theorem next_execCodewordUrgent (cw : Nat) (s : State) : isNext (execCodewordUrgent cw s) := by
  unfold execCodewordUrgent
  repeat' (first | with_reducible exact isNext_fin _ | split | dsimp only)

theorem next_execParkComplete (d : DecIx) (s : State) : isNext (execParkComplete d s) := by
  unfold execParkComplete
  repeat' (first | with_reducible exact isNext_fin _ | split | dsimp only)

theorem next_execDecoderGrant (s : State) : isNext (execDecoderGrant s) := by
  unfold execDecoderGrant
  repeat' (first | with_reducible exact isNext_fin _ | split | dsimp only)

theorem next_execDecodeIteration (d : DecIx) (s : State) : isNext (execDecodeIteration d s) := by
  unfold execDecodeIteration
  repeat' (first | with_reducible exact isNext_fin _ | split | dsimp only)

theorem next_execWallTimeout (cw : Nat) (s : State) : isNext (execWallTimeout cw s) := by
  unfold execWallTimeout
  repeat' (first | with_reducible exact isNext_fin _ | split | dsimp only)

theorem next_execStarveTimeout (cw : Nat) (s : State) : isNext (execStarveTimeout cw s) := by
  unfold execStarveTimeout
  repeat' (first | with_reducible exact isNext_fin _ | split | dsimp only)

theorem next_execDecoderWatchdog (d : DecIx) (error : Bool) (s : State) : isNext (execDecoderWatchdog d error s) := by
  unfold execDecoderWatchdog
  repeat' (first | with_reducible exact isNext_fin _ | split | dsimp only)

theorem next_execDecTest (d : DecIx) (s : State) : isNext (execDecTest d s) := by
  unfold execDecTest
  refine isNext_regCmd fun t => ?_
  repeat' (first | with_reducible exact isNext_fin _ | split | dsimp only)

theorem next_execDecEnable (d : DecIx) (s : State) : isNext (execDecEnable d s) := by
  unfold execDecEnable
  refine isNext_regCmd fun t => ?_
  repeat' (first | with_reducible exact isNext_fin _ | split | dsimp only)

theorem next_execDecDisable (d : DecIx) (s : State) : isNext (execDecDisable d s) := by
  unfold execDecDisable
  refine isNext_regCmd fun t => ?_
  repeat' (first | with_reducible exact isNext_fin _ | split | dsimp only)

theorem next_execDecoderTestDone (d : DecIx) (pass : Bool) (s : State) : isNext (execDecoderTestDone d pass s) := by
  unfold execDecoderTestDone
  repeat' (first | with_reducible exact isNext_fin _ | split | dsimp only)

theorem next_execOuterDecode (mn : Mn) (layer : Fin 16) (cluster : Nat) (s : State) : isNext (execOuterDecode mn layer cluster s) := by
  unfold execOuterDecode
  repeat' (first | with_reducible exact isNext_fin _ | split | dsimp only)

theorem next_execSectorRetryRev (mn : Mn) (layer : Fin 16) (cluster : Nat) (s : State) : isNext (execSectorRetryRev mn layer cluster s) := by
  unfold execSectorRetryRev
  repeat' (first | with_reducible exact isNext_fin _ | split | dsimp only)

theorem next_execCalTempCheck (s : State) : isNext (execCalTempCheck s) := by
  unfold execCalTempCheck
  repeat' (first | with_reducible exact isNext_fin _ | split | dsimp only)

theorem next_execCalRetry (space : Fin 4) (index : Fin 4096) (layer : Fin 10) (item : Fin 6) (s : State) : isNext (execCalRetry space index layer item s) := by
  unfold execCalRetry
  exact isNext_fin _

theorem next_execCalReadWindow (items : Fin 64) (s : State) : isNext (execCalReadWindow items s) := by
  unfold execCalReadWindow
  refine isNext_regCmd fun t => ?_
  repeat' (first | with_reducible exact isNext_fin _ | exact isNext_calCmd _ _ _ | split | dsimp only)

theorem next_execCalWriteWindow (items : Fin 64) (s : State) : isNext (execCalWriteWindow items s) := by
  unfold execCalWriteWindow
  refine isNext_regCmd fun t => ?_
  repeat' (first | with_reducible exact isNext_fin _ | exact isNext_calCmd _ _ _ | split | dsimp only)

theorem next_execCalMarkStale (items : Fin 64) (s : State) : isNext (execCalMarkStale items s) := by
  unfold execCalMarkStale
  refine isNext_regCmd fun t => ?_
  repeat' (first | with_reducible exact isNext_fin _ | exact isNext_calCmd _ _ _ | split | dsimp only)

theorem next_execMapAppend (mn : Mn) (ok : Bool) (s : State) : isNext (execMapAppend mn ok s) := by
  unfold execMapAppend
  repeat' (first | with_reducible exact isNext_fin _ | split | dsimp only)

theorem next_execAppendRetry (mn : Mn) (s : State) : isNext (execAppendRetry mn s) := by
  unfold execAppendRetry
  repeat' (first | with_reducible exact isNext_fin _ | split | dsimp only)

theorem next_execFrameTick (p : PortIx) (s : State) : isNext (execFrameTick p s) := by
  unfold execFrameTick
  repeat' (first | with_reducible exact isNext_fin _ | split | dsimp only)

theorem next_execDescriptorFetched (fn : FnIx) (qpid : Nat) (d : Desc) (s : State) : isNext (execDescriptorFetched fn qpid d s) := by
  unfold execDescriptorFetched
  repeat' (first | with_reducible exact isNext_fin _ | split | dsimp only)

theorem next_execRead (fn : FnIx) (tag : Nat) (dma : Dma) (s : State) : isNext (execRead fn tag dma s) := by
  unfold execRead
  exact isNext_runCmd _ _ _ _ _ _

theorem next_execVerify (fn : FnIx) (tag : Nat) (s : State) : isNext (execVerify fn tag s) := by
  unfold execVerify
  exact isNext_runCmd _ _ _ _ _ _

theorem next_execWriteAccepted (fn : FnIx) (tag : Nat) (data : List Nat) (dma : Dma) (s : State) : isNext (execWriteAccepted fn tag data dma s) := by
  unfold execWriteAccepted
  repeat' (first | with_reducible exact isNext_fin _ | split | dsimp only)

theorem next_execWrite (fn : Fin 257) (tag : Nat) (s : State) : isNext (execWrite fn tag s) := by
  unfold execWrite
  repeat' (first | with_reducible exact isNext_fin _ | exact isNext_runCmd _ _ _ _ _ _ | split | dsimp only)

theorem next_execCommit (fn : FnIx) (tag : Nat) (s : State) : isNext (execCommit fn tag s) := by
  unfold execCommit
  exact isNext_runCmd _ _ _ _ _ _

theorem next_execSeekHint (fn : FnIx) (tag layer : Nat) (tracks : Int) (s : State) : isNext (execSeekHint fn tag layer tracks s) := by
  unfold execSeekHint
  exact isNext_runCmd _ _ _ _ _ _

theorem next_execServoTest (fn : FnIx) (tag : Nat) (dma : Dma) (s : State) : isNext (execServoTest fn tag dma s) := by
  unfold execServoTest
  exact isNext_runCmd _ _ _ _ _ _

theorem next_execAbort (fn : FnIx) (tag : Nat) (s : State) : isNext (execAbort fn tag s) := by
  unfold execAbort
  exact isNext_runCmd _ _ _ _ _ _

theorem next_execCommandDeadline (fn : FnIx) (tag : Nat) (s : State) : isNext (execCommandDeadline fn tag s) := by
  unfold execCommandDeadline
  repeat' (first | with_reducible exact isNext_fin _ | split | dsimp only)

theorem next_execMount (fn : FnIx) (tag : Nat) (info : Option MountInfo) (dma : Dma) (s : State) : isNext (execMount fn tag info dma s) := by
  unfold execMount
  repeat' (first | with_reducible exact isNext_fin _ | split | dsimp only)

theorem next_unmountCmd (s : State) (fn tag op target : Nat) (done : Nat → Bool) : isNext (State.unmountCmd s fn tag op target done) := by
  unfold State.unmountCmd
  repeat' (first | with_reducible exact isNext_fin _ | split | dsimp only)

theorem next_execUnmount (fn : FnIx) (tag : Nat) (s : State) : isNext (execUnmount fn tag s) := by
  unfold execUnmount
  exact next_unmountCmd _ _ _ _ _ _

theorem next_execEject (fn : FnIx) (tag : Nat) (s : State) : isNext (execEject fn tag s) := by
  unfold execEject
  exact next_unmountCmd _ _ _ _ _ _

theorem next_execLoad (fn : FnIx) (tag : Nat) (s : State) : isNext (execLoad fn tag s) := by
  unfold execLoad
  repeat' (first | with_reducible exact isNext_fin _ | split | dsimp only)

theorem next_execHostPortReset (p : HostPort) (s : State) : isNext (execHostPortReset p s) := by
  unfold execHostPortReset
  exact isNext_fin _

theorem next_execFunctionLevelReset (fn : FnIx) (s : State) : isNext (execFunctionLevelReset fn s) := by
  unfold execFunctionLevelReset
  repeat' (first | with_reducible exact isNext_fin _ | split | dsimp only)

theorem next_execBusMasterClear (fn : FnIx) (s : State) : isNext (execBusMasterClear fn s) := by
  unfold execBusMasterClear
  exact isNext_fin _

theorem next_execFnDisable (fn : FnIx) (s : State) : isNext (execFnDisable fn s) := by
  unfold execFnDisable
  refine isNext_regCmd fun t => ?_
  repeat' (first | with_reducible exact isNext_fin _ | split | dsimp only)

theorem next_execFunctionStopDone (fn : FnIx) (s : State) : isNext (execFunctionStopDone fn s) := by
  unfold execFunctionStopDone
  repeat' (first | with_reducible exact isNext_fin _ | split | dsimp only)

theorem next_execFenceFunction (target : Fin 256) (s : State) : isNext (execFenceFunction target s) := by
  unfold execFenceFunction
  refine isNext_regCmd fun t => ?_
  repeat' (first | with_reducible exact isNext_fin _ | split | dsimp only)

theorem next_execFencePort (target : Fin 256) (s : State) : isNext (execFencePort target s) := by
  unfold execFencePort
  refine isNext_regCmd fun t => ?_
  repeat' (first | with_reducible exact isNext_fin _ | split | dsimp only)

theorem next_execUnfenceFunction (target : Fin 256) (s : State) : isNext (execUnfenceFunction target s) := by
  unfold execUnfenceFunction
  refine isNext_regCmd fun t => ?_
  repeat' (first | with_reducible exact isNext_fin _ | split | dsimp only)

theorem next_execUnfencePort (target : Fin 256) (s : State) : isNext (execUnfencePort target s) := by
  unfold execUnfencePort
  refine isNext_regCmd fun t => ?_
  repeat' (first | with_reducible exact isNext_fin _ | split | dsimp only)

theorem next_execStripeCloseTimeout (id : Fin 4096) (num : Nat) (s : State) : isNext (execStripeCloseTimeout id num s) := by
  unfold execStripeCloseTimeout
  repeat' (first | with_reducible exact isNext_fin _ | split | dsimp only)

theorem next_execResync (id : Fin 4096) (num : Nat) (s : State) : isNext (execResync id num s) := by
  unfold execResync
  repeat' (first | with_reducible exact isNext_fin _ | split | dsimp only)

theorem next_execFloeReconstruct (mn : Mn) (layer : Fin 16) (cluster : Nat) (s : State) : isNext (execFloeReconstruct mn layer cluster s) := by
  unfold execFloeReconstruct
  repeat' (first | with_reducible exact isNext_fin _ | split | dsimp only)

theorem next_execFloeRepair (mn : Mn) (s : State) : isNext (execFloeRepair mn s) := by
  unfold execFloeRepair
  repeat' (first | with_reducible exact isNext_fin _ | split | dsimp only)

theorem next_execScrubTick (id : Fin 4096) (s : State) : isNext (execScrubTick id s) := by
  unfold execScrubTick
  repeat' (first | with_reducible exact isNext_fin _ | split | dsimp only)

theorem next_execScrub (fn : FnIx) (tag : Nat) (s : State) : isNext (execScrub fn tag s) := by
  unfold execScrub
  exact isNext_runCmd _ _ _ _ _ _

theorem next_execRebuildStep (id : Fin 4096) (s : State) : isNext (execRebuildStep id s) := by
  unfold execRebuildStep
  repeat' (first | with_reducible exact isNext_fin _ | split | dsimp only)

theorem next_execFloeDefine (fn : FnIx) (tag : Nat) (data : List Nat) (dma : Dma) (s : State) : isNext (execFloeDefine fn tag data dma s) := by
  unfold execFloeDefine
  exact isNext_runFloe _ _ _ _ _

theorem next_execFloeDelete (fn : FnIx) (tag : Nat) (s : State) : isNext (execFloeDelete fn tag s) := by
  unfold execFloeDelete
  exact isNext_runFloe _ _ _ _ _

theorem next_execFloeRebuild (fn : FnIx) (tag : Nat) (s : State) : isNext (execFloeRebuild fn tag s) := by
  unfold execFloeRebuild
  exact isNext_runFloe _ _ _ _ _

theorem next_execIlkChannelChange (a b : Bool) (s : State) : isNext (execIlkChannelChange a b s) := by
  unfold execIlkChannelChange
  repeat' (first | with_reducible exact isNext_fin _ | split | dsimp only)

theorem next_execPermitHoldDone (s : State) : isNext (execPermitHoldDone s) := by
  unfold execPermitHoldDone
  repeat' (first | with_reducible exact isNext_fin _ | split | dsimp only)

theorem next_execDiscrepancyTimeout (s : State) : isNext (execDiscrepancyTimeout s) := by
  unfold execDiscrepancyTimeout
  repeat' (first | with_reducible exact isNext_fin _ | split | dsimp only)

theorem next_execDisarm (zones : Fin 256) (s : State) : isNext (execDisarm zones s) := by
  unfold execDisarm
  refine isNext_regCmd fun t => ?_
  repeat' (first | with_reducible exact isNext_fin _ | split | dsimp only)

theorem next_execArm (fn : FnIx) (tag : Nat) (s : State) : isNext (execArm fn tag s) := by
  unfold execArm
  repeat' (first | with_reducible exact isNext_fin _ | split | dsimp only)

theorem next_execIdentify (fn : FnIx) (tag : Nat) (dma : Dma) (s : State) : isNext (execIdentify fn tag dma s) := by
  unfold execIdentify
  exact isNext_runAdmin _ _ _ _ _

theorem next_execGetLog (fn : FnIx) (tag : Nat) (dma : Dma) (s : State) : isNext (execGetLog fn tag dma s) := by
  unfold execGetLog
  exact isNext_runAdmin _ _ _ _ _

theorem next_execCreateQp (fn : FnIx) (tag : Nat) (s : State) : isNext (execCreateQp fn tag s) := by
  unfold execCreateQp
  exact isNext_runAdmin _ _ _ _ _

theorem next_execDeleteQp (fn : FnIx) (tag : Nat) (s : State) : isNext (execDeleteQp fn tag s) := by
  unfold execDeleteQp
  exact isNext_runAdmin _ _ _ _ _

theorem next_execLease (fn : FnIx) (tag : Nat) (s : State) : isNext (execLease fn tag s) := by
  unfold execLease
  exact isNext_runAdmin _ _ _ _ _

theorem next_execSetFeature (fn : FnIx) (tag : Nat) (data : List Nat) (dma : Dma) (s : State) : isNext (execSetFeature fn tag data dma s) := by
  unfold execSetFeature
  exact isNext_runAdmin _ _ _ _ _

theorem next_execGetFeature (fn : FnIx) (tag : Nat) (dma : Dma) (s : State) : isNext (execGetFeature fn tag dma s) := by
  unfold execGetFeature
  exact isNext_runAdmin _ _ _ _ _

theorem next_execCalibSave (fn : FnIx) (tag : Nat) (dma : Dma) (s : State) : isNext (execCalibSave fn tag dma s) := by
  unfold execCalibSave
  exact isNext_runAdmin _ _ _ _ _

theorem next_execCalibRestore (fn : FnIx) (tag : Nat) (data : List Nat) (dma : Dma) (s : State) : isNext (execCalibRestore fn tag data dma s) := by
  unfold execCalibRestore
  exact isNext_runAdmin _ _ _ _ _

theorem next_execCeWriteback (bank : Fin 48) (word : Fin 262144) (s : State) : isNext (execCeWriteback bank word s) := by
  unfold execCeWriteback
  repeat' (first | with_reducible exact isNext_fin _ | split | dsimp only)

theorem next_execPatrolScrub (dram : Bool) (hit : Option EccHit) (s : State) : isNext (execPatrolScrub dram hit s) := by
  unfold execPatrolScrub
  repeat' (first | with_reducible exact isNext_fin _ | split | dsimp only)

theorem next_execMergeFlush (bank : Fin 48) (word : Fin 262144) (cls : Fin 4) (s : State) : isNext (execMergeFlush bank word cls s) := by
  unfold execMergeFlush
  repeat' (first | with_reducible exact isNext_fin _ | split | dsimp only)

theorem next_execDmaHalt (k : Fin 24) (ecc : Option EccHit) (cmds : List (FnIx × Nat)) (lost : List Nat) (cw : Option Nat) (s : State) : isNext (execDmaHalt k ecc cmds lost cw s) := by
  unfold execDmaHalt
  repeat' (first | with_reducible exact isNext_fin _ | split | dsimp only)

theorem next_execDmaRestart (k : Fin 24) (s : State) : isNext (execDmaRestart k s) := by
  unfold execDmaRestart
  repeat' (first | with_reducible exact isNext_fin _ | split | dsimp only)

theorem next_execDramRefresh (ch : ChannelIx) (s : State) : isNext (execDramRefresh ch s) := by
  unfold execDramRefresh
  repeat' (first | with_reducible exact isNext_fin _ | split | dsimp only)

theorem next_execSelfRefreshEntry (ch : ChannelIx) (s : State) : isNext (execSelfRefreshEntry ch s) := by
  unfold execSelfRefreshEntry
  repeat' (first | with_reducible exact isNext_fin _ | split | dsimp only)

theorem next_execDdrApplyDelays (ch : ChannelIx) (s : State) : isNext (execDdrApplyDelays ch s) := by
  unfold execDdrApplyDelays
  refine isNext_regCmd fun t => ?_
  repeat' (first | with_reducible exact isNext_fin _ | split | dsimp only)

theorem next_execDdrRetune (ch : ChannelIx) (s : State) : isNext (execDdrRetune ch s) := by
  unfold execDdrRetune
  repeat' (first | with_reducible exact isNext_fin _ | split | dsimp only)

theorem next_execDdrTestStart (ch : ChannelIx) (pattern : Fin 16) (len : Fin 65536) (fails : Option (Fin 1024)) (s : State) : isNext (execDdrTestStart ch pattern len fails s) := by
  unfold execDdrTestStart
  refine isNext_regCmd fun t => ?_
  repeat' (first | with_reducible exact isNext_fin _ | split | dsimp only)

theorem next_execDdrTestStop (s : State) : isNext (execDdrTestStop s) := by
  unfold execDdrTestStop
  refine isNext_regCmd fun t => ?_
  repeat' (first | with_reducible exact isNext_fin _ | split | dsimp only)

theorem next_execRimeInvalidate (s : State) : isNext (execRimeInvalidate s) := by
  unfold execRimeInvalidate
  refine isNext_regCmd fun t => ?_
  repeat' (first | with_reducible exact isNext_fin _ | exact isNext_rimeOp _ _ | split | dsimp only)

theorem next_execRimeFlush (s : State) : isNext (execRimeFlush s) := by
  unfold execRimeFlush
  refine isNext_regCmd fun t => ?_
  repeat' (first | with_reducible exact isNext_fin _ | exact isNext_rimeOp _ _ | split | dsimp only)

theorem next_execRimeEnable (s : State) : isNext (execRimeEnable s) := by
  unfold execRimeEnable
  refine isNext_regCmd fun t => ?_
  repeat' (first | with_reducible exact isNext_fin _ | exact isNext_rimeOp _ _ | split | dsimp only)

theorem next_execRimeDisable (s : State) : isNext (execRimeDisable s) := by
  unfold execRimeDisable
  refine isNext_regCmd fun t => ?_
  repeat' (first | with_reducible exact isNext_fin _ | exact isNext_rimeOp _ _ | split | dsimp only)

theorem next_execRimeWaysChange (ways : Fin 32) (s : State) : isNext (execRimeWaysChange ways s) := by
  unfold execRimeWaysChange
  refine isNext_regCmd fun t => ?_
  repeat' (first | with_reducible exact isNext_fin _ | exact isNext_rimeOp _ _ | split | dsimp only)

theorem next_execDimmTempRead (ch : ChannelIx) (temp : Int) (s : State) : isNext (execDimmTempRead ch temp s) := by
  unfold execDimmTempRead
  repeat' (first | with_reducible exact isNext_fin _ | split | dsimp only)

theorem next_execCoreReady (c : CoreIx) (s : State) : isNext (execCoreReady c s) := by
  unfold execCoreReady
  repeat' (first | with_reducible exact isNext_fin _ | split | dsimp only)

theorem next_execCoreHbTimeout (c : CoreIx) (s : State) : isNext (execCoreHbTimeout c s) := by
  unfold execCoreHbTimeout
  repeat' (first | with_reducible exact isNext_fin _ | split | dsimp only)

theorem next_execCoreTrap (c : CoreIx) (cause : Fin 256) (pc addr : Word) (fatal : Bool) (ecc : Option EccHit) (s : State) : isNext (execCoreTrap c cause pc addr fatal ecc s) := by
  unfold execCoreTrap
  repeat' (first | with_reducible exact isNext_fin _ | split | dsimp only)

theorem next_execCorePlannedRestart (c : CoreIx) (s : State) : isNext (execCorePlannedRestart c s) := by
  unfold execCorePlannedRestart
  refine isNext_regCmd fun t => ?_
  repeat' (first | with_reducible exact isNext_fin _ | split | dsimp only)

theorem next_execCoreRelease (c : CoreIx) (s : State) : isNext (execCoreRelease c s) := by
  unfold execCoreRelease
  refine isNext_regCmd fun t => ?_
  repeat' (first | with_reducible exact isNext_fin _ | split | dsimp only)

theorem next_execPowerOnReset (s : State) : isNext (execPowerOnReset s) := by
  unfold execPowerOnReset
  repeat' (first | with_reducible exact isNext_fin _ | split | dsimp only)

theorem next_execPinReset (s : State) : isNext (execPinReset s) := by
  unfold execPinReset
  exact isNext_fin _

theorem next_execBrownOutReset (g : Fin 6) (s : State) : isNext (execBrownOutReset g s) := by
  unfold execBrownOutReset
  repeat' (first | with_reducible exact isNext_fin _ | split | dsimp only)

theorem next_execSoftWarmReset (key : Fin 65536) (s : State) : isNext (execSoftWarmReset key s) := by
  unfold execSoftWarmReset
  refine isNext_regCmd fun t => ?_
  repeat' (first | with_reducible exact isNext_fin _ | split | dsimp only)

theorem next_execSoftPinReset (key : Fin 65536) (s : State) : isNext (execSoftPinReset key s) := by
  unfold execSoftPinReset
  refine isNext_regCmd fun t => ?_
  repeat' (first | with_reducible exact isNext_fin _ | split | dsimp only)

theorem next_execDebugReset (s : State) : isNext (execDebugReset s) := by
  unfold execDebugReset
  repeat' (first | with_reducible exact isNext_fin _ | split | dsimp only)

theorem next_execLockupReset (hang : Bool) (s : State) : isNext (execLockupReset hang s) := by
  unfold execLockupReset
  repeat' (first | with_reducible exact isNext_fin _ | split | dsimp only)

theorem next_execOptionProgram (ok : Bool) (s : State) : isNext (execOptionProgram ok s) := by
  unfold execOptionProgram
  refine isNext_regCmd fun t => ?_
  repeat' (first | with_reducible exact isNext_fin _ | split | dsimp only)

theorem next_execOptionRead (slot : Fin 16) (s : State) : isNext (execOptionRead slot s) := by
  unfold execOptionRead
  refine isNext_regCmd fun t => ?_
  repeat' (first | with_reducible exact isNext_fin _ | split | dsimp only)

theorem next_execBootStageDone (x : BootInfo) (s : State) : isNext (execBootStageDone x s) := by
  unfold execBootStageDone
  repeat' (first | with_reducible exact isNext_fin _ | split | dsimp only)

theorem next_execBlockReset (cls : Fin 16) (index : Fin 512) (s : State) : isNext (execBlockReset cls index s) := by
  unfold execBlockReset
  refine isNext_regCmd fun t => ?_
  repeat' (first | with_reducible exact isNext_fin _ | split | dsimp only)

theorem next_execXtalLost (s : State) : isNext (execXtalLost s) := by
  unfold execXtalLost
  repeat' (first | with_reducible exact isNext_fin _ | split | dsimp only)

theorem next_execXtalRelock (s : State) : isNext (execXtalRelock s) := by
  unfold execXtalRelock
  exact isNext_fin _

theorem next_execRefclkLost (s : State) : isNext (execRefclkLost s) := by
  unfold execRefclkLost
  repeat' (first | with_reducible exact isNext_fin _ | split | dsimp only)

theorem next_execRefclkRestored (s : State) : isNext (execRefclkRestored s) := by
  unfold execRefclkRestored
  repeat' (first | with_reducible exact isNext_fin _ | split | dsimp only)

theorem next_execTimeRatioMeasure (ticks : Nat) (s : State) : isNext (execTimeRatioMeasure ticks s) := by
  unfold execTimeRatioMeasure
  repeat' (first | with_reducible exact isNext_fin _ | split | dsimp only)

theorem next_execDozeIdle (s : State) : isNext (execDozeIdle s) := by
  unfold execDozeIdle
  repeat' (first | with_reducible exact isNext_fin _ | split | dsimp only)

theorem next_execDozeRequest (s : State) : isNext (execDozeRequest s) := by
  unfold execDozeRequest
  refine isNext_regCmd fun t => ?_
  repeat' (first | with_reducible exact isNext_fin _ | split | dsimp only)

theorem next_execWake (src : Fin 16) (s : State) : isNext (execWake src s) := by
  unfold execWake
  exact isNext_fin _

theorem next_execWakeTimer (k : Fin 4) (s : State) : isNext (execWakeTimer k s) := by
  unfold execWakeTimer
  exact isNext_fin _

theorem next_execRetryWake (s : State) : isNext (execRetryWake s) := by
  unfold execRetryWake
  repeat' (first | with_reducible exact isNext_fin _ | split | dsimp only)

theorem next_execHibernateRequest (retain : List Word) (s : State) : isNext (execHibernateRequest retain s) := by
  unfold execHibernateRequest
  refine isNext_regCmd fun t => ?_
  repeat' (first | with_reducible exact isNext_fin _ | split | dsimp only)

theorem next_execPowerGoodRise (g : Fin 6) (s : State) : isNext (execPowerGoodRise g s) := by
  unfold execPowerGoodRise
  repeat' (first | with_reducible exact isNext_fin _ | split | dsimp only)

theorem next_execPgoodTimeout (s : State) : isNext (execPgoodTimeout s) := by
  unfold execPgoodTimeout
  repeat' (first | with_reducible exact isNext_fin _ | split | dsimp only)

theorem next_execPowerRetry (s : State) : isNext (execPowerRetry s) := by
  unfold execPowerRetry
  repeat' (first | with_reducible exact isNext_fin _ | split | dsimp only)

theorem next_execTempSample (temps : List Int) (s : State) : isNext (execTempSample temps s) := by
  unfold execTempSample
  repeat' (first | with_reducible exact isNext_fin _ | split | dsimp only)

theorem next_execFanUpdate (s : State) : isNext (execFanUpdate s) := by
  unfold execFanUpdate
  repeat' (first | with_reducible exact isNext_fin _ | split | dsimp only)

theorem next_execTachMeasure (k : Fin 8) (edges : Nat) (s : State) : isNext (execTachMeasure k edges s) := by
  unfold execTachMeasure
  repeat' (first | with_reducible exact isNext_fin _ | split | dsimp only)

theorem next_execThermalStop (s : State) : isNext (execThermalStop s) := by
  unfold execThermalStop
  repeat' (first | with_reducible exact isNext_fin _ | split | dsimp only)

theorem next_execThermalRestart (s : State) : isNext (execThermalRestart s) := by
  unfold execThermalRestart
  repeat' (first | with_reducible exact isNext_fin _ | split | dsimp only)

theorem next_execTcritTrip (sensor : Fin 16) (s : State) : isNext (execTcritTrip sensor s) := by
  unfold execTcritTrip
  repeat' (first | with_reducible exact isNext_fin _ | split | dsimp only)

theorem next_execTripRestart (s : State) : isNext (execTripRestart s) := by
  unfold execTripRestart
  repeat' (first | with_reducible exact isNext_fin _ | split | dsimp only)

theorem next_execFwDownload (fn : FnIx) (tag : Nat) (dma : Dma) (s : State) : isNext (execFwDownload fn tag dma s) := by
  unfold execFwDownload
  exact isNext_runAdmin _ _ _ _ _

theorem next_execFwCommit (fn : FnIx) (tag : Nat) (image : FwImage) (flash : Bool) (s : State) : isNext (execFwCommit fn tag image flash s) := by
  unfold execFwCommit
  exact isNext_runAdmin _ _ _ _ _

theorem next_execFwCommitActivate (fn : FnIx) (tag : Nat) (image : FwImage) (flash : Bool) (s : State) : isNext (execFwCommitActivate fn tag image flash s) := by
  unfold execFwCommitActivate
  exact isNext_runAdmin _ _ _ _ _

theorem next_execFwActivate (fn : FnIx) (tag : Nat) (s : State) : isNext (execFwActivate fn tag s) := by
  unfold execFwActivate
  exact isNext_runAdmin _ _ _ _ _

theorem next_execLiveUpdateStep (s : State) : isNext (execLiveUpdateStep s) := by
  unfold execLiveUpdateStep
  repeat' (first | with_reducible exact isNext_fin _ | split | dsimp only)

theorem next_execTrialConfirm (s : State) : isNext (execTrialConfirm s) := by
  unfold execTrialConfirm
  repeat' (first | with_reducible exact isNext_fin _ | split | dsimp only)

theorem next_execBfwUpdate (mn : Fin 4160) (image : List Nat) (offer check : Fin 4) (s : State) : isNext (execBfwUpdate mn image offer check s) := by
  unfold execBfwUpdate
  repeat' (first | with_reducible exact isNext_fin _ | split | dsimp only)

theorem next_execBfwRebootTimeout (mn : Fin 4160) (s : State) : isNext (execBfwRebootTimeout mn s) := by
  unfold execBfwRebootTimeout
  repeat' (first | with_reducible exact isNext_fin _ | split | dsimp only)

theorem next_execSupervisorTimeout (lost : Fin 65536) (s : State) : isNext (execSupervisorTimeout lost s) := by
  unfold execSupervisorTimeout
  repeat' (first | with_reducible exact isNext_fin _ | split | dsimp only)

theorem next_execSupKick (v : Word) (s : State) : isNext (execSupKick v s) := by
  unfold execSupKick
  repeat' (first | with_reducible exact isNext_fin _ | split | dsimp only)

theorem next_execFabricTimeout (r : Requester) (code base : Fin 65536) (granted : Nat) (s : State) : isNext (execFabricTimeout r code base granted s) := by
  unfold execFabricTimeout
  repeat' (first | with_reducible exact isNext_fin _ | split | dsimp only)

theorem next_execEventGatherEnd (s : State) : isNext (execEventGatherEnd s) := by
  unfold execEventGatherEnd
  repeat' (first | with_reducible exact isNext_fin _ | split | dsimp only)

theorem next_execBistTestBlock (cls : Fin 16) (index : Fin 512) (s : State) : isNext (execBistTestBlock cls index s) := by
  unfold execBistTestBlock
  refine isNext_regCmd fun t => ?_
  repeat' (first | with_reducible exact isNext_fin _ | split | dsimp only)

theorem next_execPeriodicBist (s : State) : isNext (execPeriodicBist s) := by
  unfold execPeriodicBist
  split
  · exact isNext_fin _
  · extract_lets u
    split <;> exact isNext_fin _

theorem next_execBistDone (pass memory : Bool) (s : State) : isNext (execBistDone pass memory s) := by
  unfold execBistDone
  repeat' (first | with_reducible exact isNext_fin _ | split | dsimp only)

theorem next_execBistWindow (fail : Bool) (unit : Fin 16) (channels : Fin 256) (durMs : Fin 65536) (s : State) : isNext (execBistWindow fail unit channels durMs s) := by
  unfold execBistWindow
  refine isNext_regCmd fun t => ?_
  repeat' (first | with_reducible exact isNext_fin _ | split | dsimp only)

theorem next_execAuthChallenge (s : State) : isNext (execAuthChallenge s) := by
  unfold execAuthChallenge
  repeat' (first | with_reducible exact isNext_fin _ | split | dsimp only)

theorem next_execAuthVerify (ok : Bool) (s : State) : isNext (execAuthVerify ok s) := by
  unfold execAuthVerify
  repeat' (first | with_reducible exact isNext_fin _ | split | dsimp only)

theorem next_execAuthEnd (s : State) : isNext (execAuthEnd s) := by
  unfold execAuthEnd
  exact isNext_fin _

theorem next_execGpioEdge (g : Fin 32) (level : Bool) (s : State) : isNext (execGpioEdge g level s) := by
  unfold execGpioEdge
  exact isNext_fin _

theorem next_execGpioSet (mask : Word) (s : State) : isNext (execGpioSet mask s) := by
  unfold execGpioSet
  refine isNext_regCmd fun t => ?_
  repeat' (first | with_reducible exact isNext_fin _ | split | dsimp only)

theorem next_execGpioClr (mask : Word) (s : State) : isNext (execGpioClr mask s) := by
  unfold execGpioClr
  refine isNext_regCmd fun t => ?_
  repeat' (first | with_reducible exact isNext_fin _ | split | dsimp only)

theorem next_execAttentionWrite (fn : FnIx) (s : State) : isNext (execAttentionWrite fn s) := by
  unfold execAttentionWrite
  repeat' (first | with_reducible exact isNext_fin _ | split | dsimp only)

theorem next_execPartnerWake (p : PortIx) (s : State) : isNext (execPartnerWake p s) := by
  unfold execPartnerWake
  repeat' (first | with_reducible exact isNext_fin _ | split | dsimp only)

theorem next_execHostLinkUp (p : HostPort) (width rate : Fin 16) (s : State) : isNext (execHostLinkUp p width rate s) := by
  unfold execHostLinkUp
  repeat' (first | with_reducible exact isNext_fin _ | split | dsimp only)

theorem next_execMctpControl (req : List Nat) (s : State) : isNext (execMctpControl req s) := by
  unfold execMctpControl
  exact isNext_fin _

theorem next_execMctpStatus (s : State) : isNext (execMctpStatus s) := by
  unfold execMctpStatus
  exact isNext_fin _

theorem next_execMctpReadRegister (offset : Nat) (s : State) : isNext (execMctpReadRegister offset s) := by
  unfold execMctpReadRegister
  exact isNext_fin _

theorem next_execMctpTelemetry (mn : Fin 65536) (s : State) : isNext (execMctpTelemetry mn s) := by
  unfold execMctpTelemetry
  exact isNext_fin _

theorem next_execMctpLogEntries (seq : Nat) (count : Fin 256) (s : State) : isNext (execMctpLogEntries seq count s) := by
  unfold execMctpLogEntries
  exact isNext_fin _

end Sys2Proof.Laws
end

