-- ==== Sys2Proof/Laws/Permit.lean ====
section
/-! SUPPORT. The operations that do touch the interlock or reset the device leave the laser permits sound. With the Kept files, which cover every
other operation, that is every operation there is. -/

namespace Sys2Proof.Laws

open Sys2Proof.Machine

/-- The registers and the record of the interlock. -/
def zoneView (s : State) : Word × Word × IlkX := (s.rd .SAFE_ZONE, s.rd .SAFE_STAT, s.ilk)

/-- All that soundness of the permits looks at. -/
def permitView (s : State) : (Word × Word × IlkX) × Bool := (zoneView s, s.pwr.keep)

theorem zone_of_view {s t : State} (h : permitView t = permitView s) : zoneView t = zoneView s := congrArg (·.1) h

theorem permitView_of_kept {s t : State} (h : kept t = kept s) : permitView t = permitView s := by
  simp only [kept, keptOf, Prod.mk.injEq] at h
  exact Prod.ext (Prod.ext h.2.2.1 (Prod.ext h.2.2.2.1 h.2.2.2.2.1)) h.2.2.2.2.2.2

/-- What is sound of a state before its permits follow. -/
structure PermitBase (s : State) : Prop where
  waited : s.ilk.held = true → s.ilk.since.isSome = true
  closed : s.ilk.since.isSome = true → s.get .SAFE_STAT_STATE_A = 1 ∧ s.get .SAFE_STAT_STATE_B = 1
  fault : s.on .SAFE_STAT_FAULT = true → s.get .SAFE_ZONE_ARMED = 0

theorem base_of_sound {s : State} (h : PermitSound s) : PermitBase s := ⟨h.waited, h.closed, h.fault⟩

theorem get_of_zone {s t : State} (h : zoneView t = zoneView s) {f : Fld} (hf : f.reg = .SAFE_ZONE ∨ f.reg = .SAFE_STAT) : t.get f = s.get f := by
  simp only [zoneView, Prod.mk.injEq] at h
  unfold State.get
  rcases hf with hf | hf <;> simp only [hf] <;> simp [h.1, h.2.1]

theorem base_of_zone {s t : State} (h : zoneView t = zoneView s) (b : PermitBase s) : PermitBase t := by
  have hi : t.ilk = s.ilk := congrArg (·.2.2) h
  have ha := get_of_zone h (f := .SAFE_STAT_STATE_A) (.inr rfl)
  have hb := get_of_zone h (f := .SAFE_STAT_STATE_B) (.inr rfl)
  have hf := get_of_zone h (f := .SAFE_STAT_FAULT) (.inr rfl)
  have hz := get_of_zone h (f := .SAFE_ZONE_ARMED) (.inl rfl)
  exact ⟨by rw [hi]; exact b.waited, by rw [hi, ha, hb]; exact b.closed, by unfold State.on; rw [hf, hz]; exact b.fault⟩

theorem base_of_view {s t : State} (h : permitView t = permitView s) (b : PermitBase s) : PermitBase t := base_of_zone (zone_of_view h) b

theorem sound_of_view {s t : State} (h : permitView t = permitView s) (b : PermitSound s) : PermitSound t := by
  have z := zone_of_view h
  have c := base_of_zone z (base_of_sound b)
  have hi : t.ilk = s.ilk := congrArg (·.2.2) z
  have hk : t.pwr.keep = s.pwr.keep := congrArg (·.2) h
  have hf := get_of_zone z (f := .SAFE_STAT_FAULT) (.inr rfl)
  have hz := get_of_zone z (f := .SAFE_ZONE_ARMED) (.inl rfl)
  have hl := get_of_zone z (f := .SAFE_ZONE_LPERMIT) (.inl rfl)
  refine ⟨?_, c.waited, c.closed, c.fault⟩
  unfold State.on
  rw [hi, hk, hf, hz, hl]
  exact b.permits

/-- No permit is high and no zone is armed. -/
structure PermitDark (s : State) : Prop where
  base : PermitBase s
  low : s.get .SAFE_ZONE_LPERMIT = 0
  armed : s.get .SAFE_ZONE_ARMED = 0

theorem sound_of_dark {s : State} (d : PermitDark s) : PermitSound s :=
  ⟨by rw [d.low, d.armed]; simp, d.base.waited, d.base.closed, d.base.fault⟩

theorem dark_of_zone {s t : State} (h : zoneView t = zoneView s) (d : PermitDark s) : PermitDark t :=
  ⟨base_of_zone h d.base, (get_of_zone h (.inl rfl)).trans d.low, (get_of_zone h (.inl rfl)).trans d.armed⟩

theorem sound_of_kept {s t : State} (h : kept t = kept s) (b : PermitSound s) : PermitSound t := sound_of_view (permitView_of_kept h) b

theorem base_of_kept {s t : State} (h : kept t = kept s) (b : PermitBase s) : PermitBase t := base_of_view (permitView_of_kept h) b

/-- A command that keeps what `kept` gathers keeps the permits sound. -/
theorem sound_of_keptOut {s t : State} {o : Out} (h : keptOut o s) (ho : o = .next t) (b : PermitSound s) : PermitSound t := sound_of_kept (h t ho) b

/-! ### Writes of registers that soundness does not look at -/

theorem view_wr (s : State) (r : Reg) (i j : Nat) (v : Word) (hz : apart r .SAFE_ZONE = true) (ht : apart r .SAFE_STAT = true) :
    permitView (s.wr r i j v) = permitView s := by
  simp only [permitView, zoneView]
  rw [rd_wr_apart _ _ _ _ _ _ _ _ hz, rd_wr_apart _ _ _ _ _ _ _ _ ht, wr_ilk, wr_pwr]

theorem view_set0 (s : State) (f : Fld) (v : Nat) (hz : apart f.reg .SAFE_ZONE = true) (ht : apart f.reg .SAFE_STAT = true) :
    permitView (s.set0 f v) = permitView s := view_wr _ _ _ _ _ hz ht

theorem view_set (s : State) (f : Fld) (i v : Nat) (hz : apart f.reg .SAFE_ZONE = true) (ht : apart f.reg .SAFE_STAT = true) :
    permitView (s.set f i v) = permitView s := view_wr _ _ _ _ _ hz ht

theorem view_raise (s : State) (f : Fld) (i : Nat) (hz : apart f.reg .SAFE_ZONE = true) (ht : apart f.reg .SAFE_STAT = true) :
    permitView (s.raise f i) = permitView s := view_wr _ _ _ _ _ hz ht

theorem view_bumpBy (s : State) (f : Fld) (i n : Nat) (hz : apart f.reg .SAFE_ZONE = true) (ht : apart f.reg .SAFE_STAT = true) :
    permitView (s.bumpBy f i n) = permitView s := view_wr _ _ _ _ _ hz ht

theorem view_bump (s : State) (f : Fld) (i : Nat) (hz : apart f.reg .SAFE_ZONE = true) (ht : apart f.reg .SAFE_STAT = true) :
    permitView (s.bump f i) = permitView s := view_wr _ _ _ _ _ hz ht

theorem view_logEntry (s : State) (a : LogArgs) : permitView (s.logEntry a) = permitView s := permitView_of_kept (kept_logEntry s a)

theorem logEntry_ilk (s : State) (a : LogArgs) : (s.logEntry a).ilk = s.ilk := congrArg (·.1.2.2) (view_logEntry s a)

theorem view_noteEvents (s : State) : permitView s.noteEvents = permitView s := permitView_of_kept (kept_noteEvents s)

/-- The state at the end of a meaning is sound when the state before is. -/
theorem sound_fin {s t : State} (h : fin s = .next t) (b : PermitSound s) : PermitSound t := by
  unfold fin at h
  cases h
  exact sound_of_view (view_noteEvents s) b

/-- A write of SAFE_STAT.OK, DISC or CAUSE, which soundness does not look at. -/
theorem base_set0_stat (s : State) (f : Fld) (v : Nat) (hr : f.reg = .SAFE_STAT) (ha : beside f .SAFE_STAT_STATE_A = true)
    (hb : beside f .SAFE_STAT_STATE_B = true) (hf : beside f .SAFE_STAT_FAULT = true) (b : PermitBase s) : PermitBase (s.set0 f v) := by
  have hz : sep f .SAFE_ZONE_ARMED = true := by simp [sep, hr]; decide
  refine ⟨by simpa using b.waited, ?_, ?_⟩
  · rw [get_set0_beside hr.symm ha, get_set0_beside hr.symm hb]; simpa using b.closed
  · unfold State.on
    rw [get_set0_beside hr.symm hf, get_set0_sep hz]
    exact b.fault

theorem sound_set0_stat (s : State) (f : Fld) (v : Nat) (hr : f.reg = .SAFE_STAT) (ha : beside f .SAFE_STAT_STATE_A = true)
    (hb : beside f .SAFE_STAT_STATE_B = true) (hf : beside f .SAFE_STAT_FAULT = true) (b : PermitSound s) : PermitSound (s.set0 f v) := by
  have c := base_set0_stat s f v hr ha hb hf (base_of_sound b)
  have hz : sep f .SAFE_ZONE_ARMED = true := by simp [sep, hr]; decide
  have hl : sep f .SAFE_ZONE_LPERMIT = true := by simp [sep, hr]; decide
  refine ⟨?_, c.waited, c.closed, c.fault⟩
  unfold State.on
  rw [get_set0_sep hl, get_set0_sep hz, get_set0_beside hr.symm hf, set0_ilk, set0_pwr]
  exact b.permits

/-! ### Permits follow (R498) -/

theorem view_forEach_low (s : State) (l : List Nat) :
    ∃ low, permitView (s.forEach l fun t z => t.modIlk fun k => { k with low := tabPut k.low z t.now 0 }) =
      ((s.rd .SAFE_ZONE, s.rd .SAFE_STAT, { s.ilk with low := low }), s.pwr.keep) := by
  unfold State.forEach
  induction l generalizing s with
  | nil => exact ⟨s.ilk.low, rfl⟩
  | cons z l ih =>
    obtain ⟨low, h⟩ := ih (s.modIlk fun k => { k with low := tabPut k.low z s.now 0 })
    exact ⟨low, by rw [List.foldl_cons, h]; rfl⟩

/-- Other falling times leave a sound state sound. -/
theorem sound_of_low {s t : State} {low : Tab Nat} (h : permitView t = ((s.rd .SAFE_ZONE, s.rd .SAFE_STAT, { s.ilk with low := low }), s.pwr.keep)) (b : PermitSound s) :
    PermitSound t :=
  sound_of_view (s := { s with ilk := { s.ilk with low := low } }) h ⟨b.permits, b.waited, b.closed, b.fault⟩

theorem sound_followPermits {s : State} (b : PermitBase s) : PermitSound s.followPermits := by
  unfold State.followPermits
  extract_lets old new fell rose s1 s2 s3 s4
  have h1 : PermitSound s1 := by
    have c : PermitBase (s.set0 .SAFE_ZONE_LPERMIT new) := by
      refine ⟨by simpa using b.waited, ?_, ?_⟩
      · simp (disch := first | decide | exact id rfl) only [get_set0_sep, set0_ilk]
        exact b.closed
      · simp (disch := first | decide | exact id rfl) only [get_set0_sep, get_set0_beside, State.on]
        exact b.fault
    have d := base_set0_stat _ .SAFE_STAT_OK (b2n (s.ilk.held && !s.on .SAFE_STAT_FAULT)) rfl (by decide) (by decide) (by decide) c
    refine ⟨?_, d.waited, d.closed, d.fault⟩
    simp (disch := first | decide | exact id rfl) only [s1, get_set0_sep, get_set0_beside, get_set0_self, State.on, set0_ilk, set0_pwr]
    have hn : new < 2 ^ 8 := by
      simp only [new]
      split
      · exact get_lt s .SAFE_ZONE_ARMED 0 0
      · decide
    exact Nat.mod_eq_of_lt hn
  have h2 : PermitSound s2 := by
    obtain ⟨low, h⟩ := view_forEach_low s1 fell
    exact sound_of_low h h1
  have h3 : PermitSound s3 := by
    simp only [s3]
    split
    · exact h2
    · exact sound_of_view (by rw [view_bumpBy _ _ _ _ (by decide) (by decide), view_raise _ _ _ (by decide) (by decide)]) h2
  have h4 : PermitSound s4 := sound_of_kept (kept_forEach _ _ _ fun t n => kept_permitDown t n) h3
  exact sound_of_kept (kept_forEach _ _ _ fun t n => kept_permitUp t n) h4

/-! ### Channels, faults, arming (R501 to R505) -/

theorem base_disarm {s : State} (b : PermitBase s) (v : Nat) (hv : v = 0 ∨ s.on .SAFE_STAT_FAULT = false) : PermitBase (s.set0 .SAFE_ZONE_ARMED v) := by
  refine ⟨by simpa using b.waited, ?_, ?_⟩
  · simp (disch := first | decide | exact id rfl) only [get_set0_sep, set0_ilk]
    exact b.closed
  · simp (disch := first | decide | exact id rfl) only [get_set0_sep, get_set0_self, State.on]
    intro hf
    rcases hv with hv | hv
    · simp [hv]
    · simp [State.on, hf] at hv

theorem base_fault {s : State} (b : PermitBase s) (cause : Nat) :
    PermitBase (((s.raise .SAFE_STAT_FAULT).set0 .SAFE_STAT_CAUSE cause).set0 .SAFE_ZONE_ARMED 0) := by
  refine ⟨by simpa using b.waited, ?_, ?_⟩
  · simp (disch := first | decide | exact id rfl) only [get_set0_sep, get_set0_beside, get_raise_beside, set0_ilk, raise_ilk]
    exact b.closed
  · intro _
    simp (disch := first | decide | exact id rfl) only [get_set0_self]
    rfl

theorem base_fault_log {s : State} (b : PermitBase s) (a : LogArgs) : PermitBase (((s.raise .SAFE_EVENT_FAULT).bump .SAFE_CNT_FAULTS).logEntry a) :=
  base_of_view (by rw [view_logEntry, view_bump _ _ _ (by decide) (by decide), view_raise _ _ _ (by decide) (by decide)]) b

/-- A change of the interlock record that keeps what soundness looks at. -/
theorem base_modIlk {s : State} (b : PermitBase s) (f : IlkX → IlkX) (hs : ∀ k, (f k).since = k.since) (hh : ∀ k, (f k).held = k.held) :
    PermitBase (s.modIlk f) := by
  refine ⟨?_, ?_, b.fault⟩
  · simp only [State.modIlk, hs, hh]; exact b.waited
  · simp only [State.modIlk, hs]; exact b.closed

theorem sound_modIlk {s : State} (b : PermitSound s) (f : IlkX → IlkX) (hs : ∀ k, (f k).since = k.since) (hh : ∀ k, (f k).held = k.held) :
    PermitSound (s.modIlk f) := by
  have c := base_modIlk (base_of_sound b) f hs hh
  refine ⟨?_, c.waited, c.closed, c.fault⟩
  have h := b.permits
  rw [← hh s.ilk] at h
  exact h

theorem sound_latchFault {s : State} (b : PermitBase s) (cause : Nat) (hp : s.on .SAFE_STAT_FAULT = true → PermitSound s) : PermitSound (s.latchFault cause) := by
  unfold State.latchFault
  split
  · rename_i h; exact hp h
  · exact sound_followPermits (base_modIlk (base_fault_log (base_fault b cause) _) _ (fun _ => rfl) fun _ => rfl)

theorem sound_endDisagreement {s : State} (b : PermitSound s) : PermitSound s.endDisagreement := by
  unfold State.endDisagreement
  split
  · exact b
  · extract_lets dur s1
    have h1 : PermitSound s1 := by
      refine sound_of_view (view_set0 _ _ _ (by decide) (by decide)) ?_
      exact sound_set0_stat _ .SAFE_STAT_DISC 0 rfl (by decide) (by decide) (by decide) (sound_modIlk b _ (fun _ => rfl) fun _ => rfl)
    clear_value s1
    split
    · exact h1
    · split
      · exact sound_latchFault (base_of_sound h1) 1 fun _ => h1
      · exact sound_of_view (by rw [view_raise _ _ _ (by decide) (by decide), view_logEntry]) h1

/-- The interlock record after the permits follow: only the falling times differ. -/
theorem followPermits_ilk (s : State) : ∃ low, s.followPermits.ilk = { s.ilk with low := low } := by
  unfold State.followPermits
  extract_lets old new fell rose s1 s2 s3 s4
  obtain ⟨low, h⟩ := view_forEach_low s1 fell
  refine ⟨low, ?_⟩
  have h4 : permitView (s4.forEach (rose.flatMap s4.zoneMechs) State.permitUp) = permitView s3 := by
    rw [permitView_of_kept (kept_forEach _ _ _ fun t n => kept_permitUp t n)]
    exact permitView_of_kept (kept_forEach _ _ _ fun t n => kept_permitDown t n)
  have h3 : permitView s3 = permitView s2 := by
    simp only [s3]
    split
    · rfl
    · rw [view_bumpBy _ _ _ _ (by decide) (by decide), view_raise _ _ _ (by decide) (by decide)]
  have h2 : s2.ilk = { s1.ilk with low := low } := congrArg (·.1.2.2) h
  have := congrArg (·.1.2.2) (h4.trans h3)
  simp only [permitView, zoneView] at this
  rw [this, h2]
  simp only [s1, set0_ilk]
  rfl

/-- After a channel leaves CLOSED the 50 ms are to begin anew, and the permits are low. -/
theorem sound_leaveClosed {s : State} (hf : s.on .SAFE_STAT_FAULT = true → s.get .SAFE_ZONE_ARMED = 0) :
    PermitSound s.leaveClosed ∧ s.leaveClosed.ilk.since = none := by
  unfold State.leaveClosed
  extract_lets low s1 s2 s3
  have h1 : PermitBase s1 := ⟨by simp [s1, State.modIlk], by simp [s1, State.modIlk], hf⟩
  have hs1 : s1.ilk.since = none := rfl
  clear_value s1
  have h2 : PermitBase s2 ∧ s2.ilk.since = none := by
    simp only [s2]
    split
    · exact ⟨h1, hs1⟩
    · split
      · exact ⟨base_modIlk h1 _ (fun _ => rfl) fun _ => rfl, hs1⟩
      · exact ⟨base_disarm h1 0 (.inl rfl), by simpa using hs1⟩
  clear_value s2
  have h3 : PermitSound s3 ∧ s3.ilk.since = none := by
    obtain ⟨low, h⟩ := followPermits_ilk s2
    exact ⟨sound_followPermits h2.1, by simp only [s3]; rw [h]; exact h2.2⟩
  clear_value s3
  split
  · exact h3
  · exact ⟨sound_of_view (view_logEntry _ _) h3.1, by rw [logEntry_ilk]; exact h3.2⟩

theorem permitOut_fin {s : State} (b : PermitSound s) {t : State} (h : fin s = .next t) : PermitSound t := sound_fin h b

theorem sound_channelsRead {s : State} (a b : Nat) (la : a < 8) (lb : b < 8) (c : PermitSound s) : PermitSound (s.channelsRead a b) := by
  unfold State.channelsRead
  extract_lets wasA wasB isA isB s1 s2 s3 lagB s4 s5
  have hf : s1.on .SAFE_STAT_FAULT = true → s1.get .SAFE_ZONE_ARMED = 0 := by
    simp (disch := first | decide | exact id rfl) only [s1, get_set0_sep, get_set0_beside, State.on]
    exact c.fault
  have hA : s1.get .SAFE_STAT_STATE_A = a := by
    simp (disch := first | decide | exact id rfl) only [s1, get_set0_beside, get_set0_self]
    exact Nat.mod_eq_of_lt la
  have hB : s1.get .SAFE_STAT_STATE_B = b := by
    simp (disch := first | decide | exact id rfl) only [s1, get_set0_self]
    exact Nat.mod_eq_of_lt lb
  have hi : s1.ilk = s.ilk := by simp [s1]
  have hp : s1.get .SAFE_ZONE_LPERMIT = if s1.ilk.held && !s1.on .SAFE_STAT_FAULT && !s1.pwr.keep then s1.get .SAFE_ZONE_ARMED else 0 := by
    rw [hi, show s1.pwr = s.pwr by simp [s1]]
    simp (disch := first | decide | exact id rfl) only [s1, get_set0_sep, get_set0_beside, State.on]
    exact c.permits
  clear_value s1
  have h2 : PermitSound s2 ∧ (isA = true → isB = true → s2.get .SAFE_STAT_STATE_A = 1 ∧ s2.get .SAFE_STAT_STATE_B = 1) := by
    simp only [s2]
    split
    · rename_i hl
      refine ⟨(sound_leaveClosed hf).1, fun ha hb => ?_⟩
      simp [ha, hb] at hl
    · rename_i hl
      have close : isA = true → isB = true → s1.get .SAFE_STAT_STATE_A = 1 ∧ s1.get .SAFE_STAT_STATE_B = 1 := by
        intro ha hb
        simp only [isA, isB, decide_eq_true_eq] at ha hb
        omega
      refine ⟨⟨hp, by rw [hi]; exact c.waited, ?_, hf⟩, close⟩
      rw [hi]
      intro hs
      have k := c.closed hs
      have wa : wasA = true := by simp [wasA, k.1]
      have wb : wasB = true := by simp [wasB, k.2]
      simp only [wa, wb, Bool.true_and, Bool.or_eq_true, Bool.not_eq_true', not_or, Bool.not_eq_false] at hl
      exact close hl.1 hl.2
  clear_value s2
  have h3 : PermitSound s3 := by
    simp only [s3]
    split
    · rename_i hc
      simp only [Bool.and_eq_true] at hc
      exact ⟨h2.1.permits, fun _ => rfl, fun _ => h2.2 hc.1.1 hc.1.2, h2.1.fault⟩
    · exact h2.1
  clear_value s3
  have h4 : PermitSound s4 := by
    simp only [s4]
    split
    · refine sound_of_view (view_set0 _ _ _ (by decide) (by decide)) ?_
      exact sound_set0_stat _ .SAFE_STAT_DISC 1 rfl (by decide) (by decide) (by decide) (sound_modIlk h3 _ (fun _ => rfl) fun _ => rfl)
    · exact h3
  clear_value s4
  have h5 : PermitSound s5 := by
    simp only [s5]
    (repeat' split) <;> first | exact h4 | exact sound_latchFault (base_of_sound h4) _ fun _ => h4
  clear_value s5
  split
  · exact sound_endDisagreement h5
  · exact h5

theorem channelState_lt (pull : Bool) (own other : Nat) (h : List Bool) (k : Nat) : channelState pull own other h k < 8 := by
  unfold channelState
  extract_lets rests
  (repeat' split) <;> decide

/-- ILK_CHANNEL_CHANGE. -/
theorem sound_execIlkChannelChange (a b : Bool) {s t : State} (c : PermitSound s) (h : execIlkChannelChange a b s = .next t) : PermitSound t := by
  unfold execIlkChannelChange at h
  split at h
  · exact sound_fin h c
  · extract_lets u x y at h
    have hu : PermitSound u := sound_modIlk c _ (fun _ => rfl) fun _ => rfl
    refine sound_fin h ?_
    split
    · exact hu
    · exact sound_channelsRead _ _ (channelState_lt _ _ _ _ _) (channelState_lt _ _ _ _ _) hu

/-- PERMIT_HOLD_DONE. -/
theorem sound_execPermitHoldDone {s t : State} (c : PermitSound s) (h : execPermitHoldDone s = .next t) : PermitSound t := by
  unfold execPermitHoldDone at h
  split at h
  · exact sound_fin h c
  · rename_i hc
    extract_lets s1 re at h
    have h1 : PermitSound s1 := by
      refine sound_followPermits ⟨fun _ => ?_, fun hs => c.closed hs, c.fault⟩
      simp only [not_or] at hc
      have := hc.1
      cases hk : s.ilk.since <;> simp_all [State.modIlk]
    clear_value s1
    refine sound_fin h ?_
    split
    · exact h1
    · exact sound_of_view (view_logEntry _ _) h1

/-- DISCREPANCY_TIMEOUT. -/
theorem sound_execDiscrepancyTimeout {s t : State} (c : PermitSound s) (h : execDiscrepancyTimeout s = .next t) : PermitSound t := by
  unfold execDiscrepancyTimeout at h
  split at h
  · split at h
    · exact sound_fin h c
    · refine sound_fin h ?_
      have k : ∀ v, PermitSound (s.set0 .SAFE_DISC_LAST_DUR_MS v) := fun v =>
        sound_of_view (view_set0 s .SAFE_DISC_LAST_DUR_MS v (by decide) (by decide)) c
      exact sound_latchFault (base_of_sound (k _)) _ fun _ => k _
  · exact sound_fin h c

/-- A register command: it runs on the state that its access wakes. -/
theorem sound_regCmd {s t : State} {f : State → Out} (c : PermitSound s) (h : regCmd s f = .next t)
    (hf : ∀ u v, PermitSound u → f u = .next v → PermitSound v) : PermitSound t := by
  unfold regCmd at h
  split at h
  · exact sound_fin h c
  · exact hf _ _ (sound_of_kept (kept_dozeWake s 2) c) h

/-- DISARM. -/
theorem sound_execDisarm (zones : Fin 256) {s t : State} (c : PermitSound s) (h : execDisarm zones s = .next t) : PermitSound t := by
  unfold execDisarm at h
  refine sound_regCmd c h fun u v b hv => ?_
  refine sound_fin hv (sound_followPermits (base_modIlk ?_ _ (fun _ => rfl) fun _ => rfl))
  refine ⟨by simpa using b.waited, ?_, ?_⟩
  · simp (disch := first | decide | exact id rfl) only [get_set0_sep, set0_ilk]
    exact b.closed
  · simp (disch := first | decide | exact id rfl) only [get_set0_sep, get_set0_self, State.on]
    intro hf
    rw [b.fault hf]
    simp

/-- ARM. -/
theorem sound_execArm (fn : FnIx) (tag : Nat) {s t : State} (c : PermitSound s) (h : execArm fn tag s = .next t) : PermitSound t := by
  unfold execArm at h
  split at h
  · exact sound_fin h c
  · split at h
    · exact sound_fin h c
    · extract_lets zones ack low was now s1 s2 s3 high at h
      split at h
      · exact sound_fin h (sound_of_kept (kept_complete _ _ _ _ _ _) c)
      · split at h
        · exact sound_fin h (sound_of_kept (kept_complete _ _ _ _ _ _) c)
        · have h1 : PermitBase s1 := by
            simp only [s1]
            refine ⟨by simpa using c.waited, ?_, ?_⟩
            · simp (disch := first | decide | exact id rfl) only [get_set0_sep, get_set0_beside, set0_ilk]
              exact c.closed
            · simp (disch := first | decide | exact id rfl) only [get_set0_sep, get_set0_beside, get_set0_self, State.on]
              intro hf
              simp at hf
          clear_value s1
          have h2 : PermitSound s2 := by
            simp only [s2]
            split
            · exact sound_followPermits (base_of_view (view_raise _ _ _ (by decide) (by decide)) h1)
            · exact sound_followPermits h1
          clear_value s2
          have h3 : PermitSound s3 := by
            simp only [s3]
            split
            · exact h2
            · exact sound_of_view (view_logEntry _ _) h2
          clear_value s3
          exact sound_fin h (sound_of_kept (kept_complete _ _ _ _ _ _) h3)

/-! ### Resets -/

theorem base_permitsLow {s : State} (c : PermitBase s) : PermitBase s.permitsLow ∧ s.permitsLow.get .SAFE_ZONE_LPERMIT = 0 := by
  unfold State.permitsLow
  extract_lets fell s1
  have h1 : PermitBase s1 := by
    obtain ⟨low, h⟩ := view_forEach_low s fell
    exact base_of_view (s := { s with ilk := { s.ilk with low := low } }) h ⟨c.waited, c.closed, c.fault⟩
  clear_value s1
  have v := view_bumpBy (s1.set0 .SAFE_ZONE_LPERMIT 0) .SAFE_CNT_DROPS 0 fell.length (by decide) (by decide)
  constructor
  · refine base_of_view v ⟨by simpa using h1.waited, ?_, ?_⟩
    · simp (disch := first | decide | exact id rfl) only [get_set0_sep, set0_ilk]
      exact h1.closed
    · simp (disch := first | decide | exact id rfl) only [get_set0_sep, get_set0_beside, State.on]
      exact h1.fault
  · rw [get_of_zone (zone_of_view v) (.inl rfl)]
    simp (disch := first | decide | exact id rfl) only [get_set0_self]
    rfl

theorem dark_permitsOff {s : State} (c : PermitBase s) : PermitDark s.permitsOff := by
  obtain ⟨hb, hl⟩ := base_permitsLow c
  unfold State.permitsOff
  generalize s.permitsLow = t at hb hl
  have h : PermitDark (t.set0 .SAFE_ZONE_ARMED 0) := by
    refine ⟨base_disarm hb 0 (.inl rfl), ?_, ?_⟩
    · simp (disch := first | decide | exact id rfl) only [get_set0_beside]
      exact hl
    · simp (disch := first | decide | exact id rfl) only [get_set0_self]
      rfl
  exact ⟨base_modIlk h.base _ (fun _ => rfl) fun _ => rfl, h.low, h.armed⟩

theorem zone_modPwr (s : State) (f : PowerX → PowerX) : zoneView (s.modPwr f) = zoneView s := rfl

theorem zone_set0 (s : State) (f : Fld) (v : Nat) (hz : apart f.reg .SAFE_ZONE = true) (ht : apart f.reg .SAFE_STAT = true) :
    zoneView (s.set0 f v) = zoneView s := zone_of_view (view_set0 s f v hz ht)

theorem zone_clearCore (s : State) : zoneView s.clearCore = zoneView s := by
  unfold State.clearCore
  extract_lets cut e s1 s2
  have h1 : zoneView s1 = zoneView s := by
    simp only [zoneView, s1, State.rd]
    rw [tabGet_filter, tabGet_filter] <;> intro v <;> rfl
  clear_value s1
  have h2 : zoneView s2 = zoneView s := by
    simp only [s2]
    split
    · rw [zone_of_view (view_raise _ _ _ (by decide) (by decide)), zone_set0 _ _ _ (by decide) (by decide), h1]
    · exact h1
  clear_value s2
  rw [zone_modPwr, zone_set0 _ _ _ (by decide) (by decide), zone_set0 _ _ _ (by decide) (by decide), zone_set0 _ _ _ (by decide) (by decide),
    zone_set0 _ _ _ (by decide) (by decide), h2]

theorem dark_assertReset {s : State} (c : PermitBase s) : PermitDark s.assertReset := by
  unfold State.assertReset
  refine dark_of_zone ?_ (dark_permitsOff c)
  rw [zone_set0 _ _ _ (by decide) (by decide), zone_set0 _ _ _ (by decide) (by decide), zone_clearCore]

theorem sound_assertReset {s : State} (c : PermitSound s) : PermitSound s.assertReset := sound_of_dark (dark_assertReset (base_of_sound c))

theorem sound_warmHeld {s : State} (c : PermitSound s) (cause : Fld) (q : DroneSeq) (h : calm cause.reg = true) : PermitSound (s.warmHeld cause q) := by
  unfold State.warmHeld
  refine sound_of_kept (kept_await _ _) (sound_assertReset ?_)
  exact sound_of_kept (by rw [kept_prelude, kept_raise _ _ _ h]) c

theorem sound_warmReset {s : State} (c : PermitSound s) (cause : Fld) (h : calm cause.reg = true) : PermitSound (s.warmReset cause) :=
  sound_warmHeld c cause _ h

theorem sound_coldReset {s : State} (c : PermitSound s) : PermitSound s.coldReset := by
  unfold State.coldReset
  exact sound_of_kept (kept_coldSupplies _) (sound_assertReset c)

theorem sound_pinReset {s : State} (c : PermitSound s) (cause : Fld) (h : calm cause.reg = true) : PermitSound (s.pinReset cause) := by
  unfold State.pinReset
  extract_lets s1 s2
  have h1 : PermitSound s1 := by
    refine sound_of_kept (s := (s.raise cause).assertReset) (by simp only [s1]; rw [kept_pinsToReset, kept_endAwait]) (sound_assertReset ?_)
    exact sound_of_kept (kept_raise _ _ _ h) c
  clear_value s1
  have h2 : PermitSound s2 := sound_of_kept (by simp only [s2]; (rw [kept_modPwr]; intro _; rfl)) h1
  clear_value s2
  refine sound_of_kept (kept_set0 _ _ _ (by decide)) ?_
  split
  · exact h2
  · exact sound_of_kept (kept_beginOff _ _) h2

theorem sound_thermalOff {s : State} (c : PermitSound s) : PermitSound s.thermalOff := by
  unfold State.thermalOff
  extract_lets l lim held s1
  have h1 : PermitSound s1 :=
    sound_of_kept (by simp only [s1]; (rw [kept_modPwr, kept_set0 _ _ _ (by decide)]; intro _; rfl)) (sound_assertReset c)
  clear_value s1
  exact sound_of_kept (by rw [kept_fansFull, kept_beginOff]) h1

theorem sound_heldLow {s : State} (b : PermitBase s) (hl : s.get .SAFE_ZONE_LPERMIT = 0) (k : s.pwr.keep = true) : PermitSound s :=
  ⟨by rw [hl, k]; simp, b.waited, b.closed, b.fault⟩

theorem sound_hibernate {s : State} (c : PermitSound s) : PermitSound s.hibernate := by
  unfold State.hibernate
  extract_lets t s1
  have h1 : PermitSound s1 := by
    simp only [s1]
    split
    · have ht : PermitSound t := sound_of_kept (by simp only [t]; rw [kept_set0 _ _ _ (by decide), kept_hibLoses]) c
      clear_value t
      obtain ⟨hb, hl⟩ := base_permitsLow (base_of_sound ht)
      generalize t.permitsLow = u at hb hl
      have z : zoneView ((u.set0 .RST_STAT_STAGE 0).modPwr fun p => { p with keep := true }) = zoneView u :=
        (zone_modPwr _ _).trans (zone_set0 _ _ _ (by decide) (by decide))
      have k : ((u.set0 .RST_STAT_STAGE 0).modPwr fun p => { p with keep := true }).pwr.keep = true := rfl
      generalize (u.set0 .RST_STAT_STAGE 0).modPwr (fun p => { p with keep := true }) = w at z k
      exact sound_heldLow (base_of_zone z hb) ((get_of_zone z (.inl rfl)).trans hl) k
    · exact sound_assertReset c
  clear_value s1
  refine sound_of_kept ?_ h1
  (rw [kept_beginOff, kept_modPwr, kept_set0 _ _ _ (by decide), kept_set0 _ _ _ (by decide)]; intro _; rfl)

/-- The tick of an empty queue. -/
theorem sound_idleTick {s : State} (c : PermitSound s) : PermitSound s.idleTick := by
  have h1 : PermitSound s.tick := sound_of_kept (kept_tick s) c
  unfold State.idleTick
  generalize s.tick = t at h1
  dsimp only
  split
  · split
    · exact h1
    · exact sound_of_kept (kept_seqDone _ _) h1
  · split
    · exact sound_of_kept (by simp) h1
    · refine sound_of_kept ?_ h1
      (rw [kept_modPwr] <;> first | (intro _; rfl) | skip)
      simp +decide
    · exact sound_of_kept (kept_waken _) h1
    · exact sound_hibernate h1
    · split
      · split
        · exact sound_thermalOff h1
        · exact h1
      · split
        · exact sound_of_kept ((kept_thermalStop _).trans (kept_endLateRuns _)) h1
        · exact sound_of_kept (kept_endLateRuns _) h1
    · exact h1

/-- POWER_ON_RESET. -/
theorem sound_execPowerOnReset {s t : State} (h : execPowerOnReset s = .next t) : PermitSound t := by
  unfold execPowerOnReset at h
  extract_lets s1 at h
  refine sound_fin h (sound_of_kept (kept_set0 s1 _ _ (by decide)) ?_)
  have z : ∀ a, 0x10 ≤ a → ∀ d : Word, tabGet s1.regs a d = d := fun a ha d =>
    tabGet_filter_out _ _ _ _ (by intro v; simp; omega)
  have g : ∀ f : Fld, f.reg = .SAFE_ZONE ∨ f.reg = .SAFE_STAT → s1.get f = 0 := by
    intro f hf
    unfold State.get State.rd
    rcases hf with hf | hf <;> rw [hf, z _ (by decide)] <;> simp [bitsOf, Reg.reset, Reg.SAFE_ZONE, Reg.SAFE_STAT, Reg.has]
  have hi : s1.ilk = {} := rfl
  refine ⟨?_, by simp [hi], by simp [hi], fun _ => g _ (.inl rfl)⟩
  rw [g _ (.inl rfl), hi]
  rfl

theorem sound_execPinReset {s t : State} (c : PermitSound s) (h : execPinReset s = .next t) : PermitSound t := sound_fin h (sound_pinReset c _ (by decide))

theorem sound_execBrownOutReset (g : Fin 6) {s t : State} (c : PermitSound s) (h : execBrownOutReset g s = .next t) : PermitSound t := by
  unfold execBrownOutReset at h
  extract_lets pg s1 st off s2 at h
  have h1 : PermitSound s1 := sound_of_kept (by simp only [s1]; split <;> simp +decide) c
  clear_value s1
  split at h
  · exact sound_fin h h1
  · refine sound_fin h (sound_coldReset (sound_of_kept ?_ h1))
    simp only [s2]
    split <;> simp +decide

theorem sound_execSoftWarmReset (key : Fin 65536) {s t : State} (c : PermitSound s) (h : execSoftWarmReset key s = .next t) : PermitSound t := by
  unfold execSoftWarmReset at h
  refine sound_regCmd c h fun u v b hv => ?_
  split at hv
  · exact sound_fin hv (sound_warmReset b _ (by decide))
  · exact sound_fin hv b

theorem sound_execSoftPinReset (key : Fin 65536) {s t : State} (c : PermitSound s) (h : execSoftPinReset key s = .next t) : PermitSound t := by
  unfold execSoftPinReset at h
  refine sound_regCmd c h fun u v b hv => ?_
  split at hv
  · exact sound_fin hv (sound_pinReset b _ (by decide))
  · exact sound_fin hv b

theorem sound_execDebugReset {s t : State} (c : PermitSound s) (h : execDebugReset s = .next t) : PermitSound t := by
  unfold execDebugReset at h
  split at h
  · exact sound_fin h (sound_warmReset c _ (by decide))
  · exact sound_fin h c

theorem sound_execLockupReset (hang : Bool) {s t : State} (c : PermitSound s) (h : execLockupReset hang s = .next t) : PermitSound t := by
  unfold execLockupReset at h
  extract_lets dead at h
  split at h
  · exact sound_fin h (sound_warmReset c _ (by decide))
  · exact sound_fin h c

theorem sound_execOptionProgram (ok : Bool) {s t : State} (c : PermitSound s) (h : execOptionProgram ok s = .next t) : PermitSound t := by
  unfold execOptionProgram at h
  refine sound_regCmd c h fun u v b hv => ?_
  have w : ∀ (p : State) (f : PowerX → PowerX) (k : Nat), (∀ x, (f x).keep = x.keep) → permitView p = permitView u →
      PermitSound ((p.modPwr f).set0 .RST_OPT_CMD_RESULT k) := fun p f k hf hp =>
    sound_of_view (by rw [view_set0 _ _ _ (by decide) (by decide), ← hp]; exact Prod.ext rfl (hf _)) b
  dsimp only at hv
  (repeat' split at hv) <;> first
    | exact sound_fin hv b
    | exact sound_fin hv (sound_of_view (view_set0 _ _ _ (by decide) (by decide)) b)
    | exact sound_fin hv (w _ _ _ (fun _ => rfl) rfl)

theorem sound_execTcritTrip (sensor : Fin 16) {s t : State} (c : PermitSound s) (h : execTcritTrip sensor s = .next t) : PermitSound t := by
  unfold execTcritTrip at h
  split at h
  · exact sound_fin h c
  · extract_lets l held s0 s1 s2 at h
    have h0 : PermitSound s0 := sound_of_kept (s := s.assertReset)
      (by simp only [s0]; rw [kept_set0 _ _ _ (by decide), kept_set0 _ _ _ (by decide), kept_endAwait, kept_suppliesOff]) (sound_assertReset c)
    clear_value s0
    have h1 : PermitSound s1 := sound_of_kept (by simp only [s1]; rw [kept_bump _ _ _ (by decide), kept_set0 _ _ _ (by decide)]) h0
    clear_value s1
    have h2 : PermitSound s2 := sound_of_kept (by simp only [s2]; (rw [kept_modPwr]; intro _; rfl)) h1
    clear_value s2
    exact sound_fin h (sound_of_kept (by rw [kept_logEntry, kept_fansFull]) h2)

theorem sound_execThermalStop {s t : State} (c : PermitSound s) (h : execThermalStop s = .next t) : PermitSound t := by
  unfold execThermalStop at h
  split at h
  · exact sound_fin h c
  · split at h <;> first
      | exact sound_fin h (sound_of_kept (kept_thermalBegin _) c)
      | exact sound_fin h (sound_of_kept (by rw [kept_thermalBegin, kept_set0 _ _ _ (by decide)]) c)
      | exact sound_fin h (sound_thermalOff c)
      | exact sound_fin h c

theorem sound_execPgoodTimeout {s t : State} (c : PermitSound s) (h : execPgoodTimeout s = .next t) : PermitSound t := by
  unfold execPgoodTimeout at h
  split at h
  · exact sound_fin h c
  · split at h
    · exact sound_fin h c
    · extract_lets n s0 at h
      have h0 : PermitSound s0 := by
        simp only [s0]
        split
        · exact sound_of_dark (dark_of_zone ((zone_modPwr _ _).trans (zone_clearCore _)) (dark_permitsOff (base_of_sound c)))
        · exact c
      clear_value s0
      refine sound_fin h (sound_of_kept ?_ h0)
      (rw [kept_beginOff, kept_modPwr]; intro _; rfl)

theorem sound_execRefclkLost {s t : State} (c : PermitSound s) (h : execRefclkLost s = .next t) : PermitSound t := by
  unfold execRefclkLost at h
  extract_lets s1 s2 at h
  have h1 : PermitSound s1 := sound_of_kept (kept_set0 _ _ _ (by decide)) c
  have h2 : PermitSound s2 := sound_of_kept (s := s1) (kept_raise _ _ _ (by decide)) h1
  clear_value s2
  split at h
  · exact sound_fin h h1
  · split at h
    · refine sound_fin h (sound_of_kept ?_ (sound_assertReset (sound_of_kept (kept_raise s2 .RST_CAUSE_CLKFAIL 0 (by decide)) h2)))
      (rw [kept_logEntry, kept_modPwr, kept_await]; intro _; rfl)
    · exact sound_fin h h2

theorem sound_execSupervisorTimeout (lost : Fin 65536) {s t : State} (c : PermitSound s) (h : execSupervisorTimeout lost s = .next t) : PermitSound t := by
  unfold execSupervisorTimeout at h
  split at h
  · exact sound_fin h c
  · extract_lets rec_ s1 at h
    have h1 : PermitSound s1 := sound_of_kept (kept_forEach _ _ _ fun t i => kept_set _ _ _ _ (by decide)) c
    clear_value s1
    exact sound_fin h (sound_warmReset (sound_of_kept (by (rw [kept_modPwr]; intro _; rfl)) h1) _ (by decide))

theorem sound_execBistWindow (fail : Bool) (unit : Fin 16) (channels : Fin 256) (durMs : Fin 65536) {s t : State} (c : PermitSound s)
    (h : execBistWindow fail unit channels durMs s = .next t) : PermitSound t := by
  unfold execBistWindow at h
  refine sound_regCmd c h fun u v b hv => ?_
  split at hv
  · exact sound_fin hv (sound_of_kept (kept_set0 _ _ _ (by decide)) b)
  · split at hv
    · exact sound_fin hv (sound_of_kept (kept_set0 _ _ _ (by decide)) b)
    · exact sound_fin hv (sound_warmHeld (sound_of_kept (kept_modHost _ _) b) _ _ (by decide))

/-! ### The boot -/

theorem sound_resumeDone {s : State} (c : PermitSound s) : PermitSound s.resumeDone := by
  unfold State.resumeDone
  extract_lets s1 s2 s3 s4
  have k : kept s4 = kept s := by simp +decide [s4, s3, s2, s1]
  clear_value s4
  refine sound_followPermits ?_
  have b := base_of_sound (sound_of_kept ((kept_oweResume _).trans k) c)
  refine base_of_view (permitView_of_kept (kept_mctpRelease _)) ?_
  exact base_of_zone (zone_modPwr _ _) b

theorem sound_bootStage {s : State} (x : BootInfo) (c : PermitSound s) : PermitSound (s.bootStage x) := by
  unfold State.bootStage
  split
  · split
    · exact c
    · exact sound_of_kept (kept_set0 _ _ _ (by decide)) c
  · split
    · exact c
    · extract_lets t
      have ht : PermitSound t := sound_of_kept (by simp only [t]; (rw [kept_modPwr, kept_loadOptions]; intro _; rfl)) c
      clear_value t
      split
      · exact ht
      · exact sound_of_kept (kept_set0 _ _ _ (by decide)) ht
  · split
    · exact c
    · exact sound_of_kept (by rw [kept_beginPower, kept_set0 _ _ _ (by decide)]) c
  · exact sound_of_kept (by rw [kept_set0 _ _ _ (by decide), kept_set0 _ _ _ (by decide)]) c
  · extract_lets t
    have ht : PermitSound t := sound_of_kept (kept_set0 _ _ _ (by decide)) c
    clear_value t
    split
    · exact sound_of_kept (by rw [kept_stopBoot, kept_set0 _ _ _ (by decide), kept_set0 _ _ _ (by decide)]) ht
    · split
      · exact sound_of_kept (kept_stopBoot _ _) ht
      · split
        · exact sound_resumeDone ht
        · exact sound_of_kept (kept_set0 _ _ _ (by decide)) ht
  · exact sound_of_kept (by rw [kept_set0 _ _ _ (by decide), kept_bootRom]) c
  · exact sound_of_kept (kept_bootDram _ _) c
  · split
    · exact sound_of_kept (kept_stopBoot _ _) c
    · exact sound_of_kept (kept_set0 _ _ _ (by decide)) c
  · exact sound_of_kept (kept_bootEngines _ _) c
  · exact sound_of_kept (kept_bootDone _) c
  · exact c

theorem sound_execBootStageDone (x : BootInfo) {s t : State} (c : PermitSound s) (h : execBootStageDone x s = .next t) : PermitSound t := by
  unfold execBootStageDone at h
  split at h
  · exact sound_fin h c
  · extract_lets u k at h
    have hu : PermitSound u := sound_bootStage x c
    refine sound_fin h ?_
    split
    · exact sound_of_kept (kept_bootProgress _ _ _) hu
    · exact hu

/-! ### Activations -/

theorem sound_activate {s : State} (b : PermitSound s) (c : Ctx) (slot : Nat) (image : FwImage) : PermitSound (s.activate c slot image) := by
  unfold State.activate
  split
  · refine sound_of_kept ?_ b
    simp +decide
  · extract_lets s1 s2
    have h2 : PermitSound s2 := sound_of_kept (by simp [s2, s1]) b
    clear_value s2
    split
    · exact sound_warmReset h2 _ (by decide)
    · exact h2

theorem sound_runAdmin {s t : State} {fn tag op : Nat} {k : State → Ctx → State} (b : PermitSound s) (h : s.runAdmin fn tag op k = .next t)
    (hk : ∀ u c, PermitSound u → PermitSound (k u c)) : PermitSound t := by
  unfold State.runAdmin at h
  split at h
  · exact sound_fin h b
  · split at h
    · exact sound_fin h b
    · exact sound_fin h (hk _ _ (sound_of_kept (kept_modCtx _ _ _ _) b))

theorem sound_execFwActivate (fn : FnIx) (tag : Nat) {s t : State} (b : PermitSound s) (h : execFwActivate fn tag s = .next t) : PermitSound t := by
  unfold execFwActivate at h
  refine sound_runAdmin b h fun u c hu => ?_
  dsimp only
  (repeat' split) <;> first
    | exact b
    | exact sound_of_kept (kept_complete _ _ _ _ _ _) hu
    | exact sound_activate hu _ _ _

theorem sound_execFwCommitActivate (fn : FnIx) (tag : Nat) (image : FwImage) (flash : Bool) {s t : State} (b : PermitSound s)
    (h : execFwCommitActivate fn tag image flash s = .next t) : PermitSound t := by
  unfold execFwCommitActivate at h
  refine sound_runAdmin b h fun u c hu => ?_
  have hc : PermitSound (u.dramTouch.commitImage image flash) := sound_of_kept (by simp) hu
  dsimp only
  (repeat' split) <;> first
    | exact b
    | exact sound_of_kept (kept_complete _ _ _ _ _ _) hu
    | exact sound_activate hc _ _ _
    | exact sound_of_kept (kept_activatePackage _ _ _) hc
    | exact sound_of_kept (kept_complete _ _ _ _ _ _) hc

end Sys2Proof.Laws
end

