-- ==== Sys2Proof/WellFormed.lean ====
section
/-! DEFINITION. Which commands are well formed: an operand that the type holds as a number, a list or an integer lies within the width that the
spec gives the field it stands for. -/

namespace Sys2Proof

/-- A register access is aligned and lies in the setup window, a BAR0 or a BAR2 (R8, R554, R560). -/
def addrOk (a : Nat) : Bool := a % 4 == 0 && decide (a < 0x3000000)

/-- Every value is a byte. -/
def bytesOk (l : List Nat) : Bool := l.all fun x => decide (x < 256)

/-- A signed quantity of n bits. -/
def intOk (n : Nat) (v : Int) : Bool := decide (-(2 : Int) ^ (n - 1) ≤ v) && decide (v < (2 : Int) ^ (n - 1))

/-- A logical block of 4,096 bytes as a number. -/
def blockOk (b : Nat) : Bool := decide (b < 2 ^ 32768)

/-- A condition on what is there, if it is there. -/
def optOk {α : Type} (p : α → Bool) (o : Option α) : Bool := match o with
  | some x => p x
  | none => true

/-- The fields of a descriptor fit its bytes (R12). -/
def descOk (d : Desc) : Bool :=
  decide (d.opcode < 256) && decide (d.flags < 256) && decide (d.ver < 256) && decide (d.prio < 256) && decide (d.tag < 2 ^ 32) &&
  decide (d.mn < 65536) && decide (d.key < 65536) && decide (d.atomicId < 65536) && decide (d.floeId < 65536) && decide (d.lba < 2 ^ 64) &&
  decide (d.count < 2 ^ 32) && decide (d.deadlineMs < 2 ^ 32) && decide (d.dptr0 < 2 ^ 64) && decide (d.dptr1 < 2 ^ 64) &&
  decide (d.spec < 2 ^ 96) && decide (d.rsvd < 65536) && decide (d.dchk < 65536)

/-- The fields of an upstream servo slot fit their bits (spec/03 "Upstream servo slot"). -/
def slotOk (x : UpSlot) : Bool :=
  decide (x.type < 256) && decide (x.drop < 64) && decide (x.ver < 4) && decide (x.seq < 4096) && decide (x.epoch < 16) &&
  decide (x.fcode < 256) && decide (x.fdetail < 16) && decide (x.tlmIdx < 16) && decide (x.tlmVal < 65536) && decide (x.ackSeq < 4096) &&
  decide (x.crc < 2 ^ 32) &&
  ([x.fe, x.sum, x.te0, x.te1, x.te2, x.te3, x.lens, x.tilt, x.sae, x.lmon, x.ish1, x.ish2, x.bemfA, x.bemfB, x.vbus, x.isled].all (intOk 16))

/-- The numbers of a firmware image fit their fields, and its matrix files are bytes. -/
def imageOk (m : FwImage) : Bool :=
  decide (m.version < 2 ^ 32) && decide (m.compat < 2 ^ 32) && m.matrices.all bytesOk

/-- A checker's error names a word of an SRAM bank. -/
def hitOk (h : EccHit) : Bool := decide (h.word < 2 ^ 18)

/-- A boot stage names DRAM channels 0 to 7 with ten lanes each, and blocks that the device has (R458, R461). -/
def bootOk (x : BootInfo) : Bool :=
  (x.delays.all fun (e : Nat × List Word) => decide (e.1 < 8) && e.2.length == 10) && (x.clusters.all fun c => decide (c < 17)) &&
  (x.lanes.all fun f => decide (f < 272)) && (x.decoders.all fun d => decide (d < 32))

/-- An RF burst holds at most the words of a frame at 250 kHz, and names a layer of a disc (R68, R73). -/
def burstOk (words : List (BitVec 128)) (place : Option (Fin 16 × Fin 1048576 × Fin 8)) : Bool :=
  decide (words.length ≤ 440) && optOk (fun (q : Fin 16 × Fin 1048576 × Fin 8) => decide (q.1.val < 10)) place

/-- The fields of an upstream frame header fit their bits (spec/03 "Upstream frame header"). -/
def headerOk (h : UpHeader) : Bool := decide (h.seq < 4096) && decide (h.actSeq < 4096) && decide (h.reqLmode < 16)

/-- What a drop reports of itself fits the registers that show it (MECH_BRIDGE, PEN_DROP). -/
def identOk (i : DropIdent) : Bool :=
  decide (i.drop < 64) && decide (i.gen < 16) && decide (i.sn < 2 ^ 64) && decide (i.fw < 65536) && decide (i.maxVer < 256)

/-- What a training step found fits the registers that show it (PEN_FANOUT, PEN_DROP). -/
def trainOk (x : TrainInfo) : Bool := match x with
  | .ident fanout _ _ _ drops => optOk (fun (e : Nat × Nat) => decide (e.1 < 65536) && decide (e.2 < 256)) fanout && drops.all identOk
  | .detect _ _ _ _ | .align _ _ | .eq | .lock | .wake => true

/-- An address read lies on a disc of ten layers: 2^20 clusters of 32 frames a layer. -/
def placeOk (a : DiscAddr) : Bool := match a with
  | .header layer cluster frame => decide (layer < 10) && decide (cluster < 2 ^ 20) && decide (frame < 32)
  | .wobble layer _ => decide (layer < 10)
  | .bd layer _ _ => decide (layer < 10)

/-- A command has a tag of 32 bits. -/
def cmdOk (e : FnIx × Nat) : Bool := decide (e.2 < 2 ^ 32)

/-- The values of a management message fit their fields. -/
def mgmtOk (b : MgmtBody) : Bool := match b with
  | .fault code detail => decide (code < 256) && decide (detail < 16)
  | .status _ _ _ _ _ _ tlmIdx tlmVal => decide (tlmIdx < 16) && decide (tlmVal < 65536)
  | .ident i => identOk i
  | .bfw | .test _ | .reset | .reserved => true

/-- The command is well formed. -/
def Instr.wf (i : Instr) : Bool :=
  match i with
  | .registerWrite addr _ _ => addrOk addr
  | .bar4AccessDenied _ _ => true
  | .powerOnReset => true
  | .brownOutReset _ => true
  | .pinReset => true
  | .softWarmReset _ => true
  | .softPinReset _ => true
  | .debugReset => true
  | .lockupReset _ => true
  | .bootStageDone x => bootOk x
  | .optionProgram _ => true
  | .optionRead _ => true
  | .blockReset _ _ => true
  | .trialConfirm => true
  | .xtalLost => true
  | .xtalRelock => true
  | .refclkLost => true
  | .timeRatioMeasure _ => true
  | .dozeIdle => true
  | .dozeRequest => true
  | .hibernateRequest retain => retain.length == 256
  | .wake _ => true
  | .wakeTimer _ => true
  | .retryWake => true
  | .pgoodTimeout => true
  | .powerRetry => true
  | .tempSample temps => (temps.length == 16 && temps.all (intOk 16))
  | .fanUpdate => true
  | .tachMeasure _ _ => true
  | .thermalStop => true
  | .thermalRestart => true
  | .tcritTrip _ => true
  | .tripRestart => true
  | .supervisorTimeout _ => true
  | .supKick _ => true
  | .fabricTimeout _ _ _ _ => true
  | .eventGatherEnd => true
  | .bistTestBlock _ _ => true
  | .bistWindow _ _ _ _ => true
  | .periodicBist => true
  | .bistDone _ _ => true
  | .authChallenge => true
  | .authVerify _ => true
  | .authEnd => true
  | .liveUpdateStep => true
  | .bfwUpdate _ image _ _ => bytesOk image
  | .bfwRebootTimeout _ => true
  | .coreReady _ => true
  | .coreHbTimeout _ => true
  | .coreTrap _ _ _ _ _ ecc => optOk hitOk ecc
  | .corePlannedRestart _ => true
  | .coreRelease _ => true
  | .ceWriteback _ _ => true
  | .patrolScrub _ hit => optOk hitOk hit
  | .mergeFlush _ _ _ => true
  | .dmaHalt _ ecc cmds _ _ => optOk hitOk ecc && cmds.all cmdOk
  | .dmaRestart _ => true
  | .dramRefresh _ => true
  | .selfRefreshEntry _ => true
  | .ddrApplyDelays _ => true
  | .ddrRetune _ => true
  | .ddrTestStart _ _ _ _ => true
  | .ddrTestStop => true
  | .rimeInvalidate => true
  | .rimeFlush => true
  | .rimeEnable => true
  | .rimeDisable => true
  | .rimeWaysChange _ => true
  | .portEnable _ => true
  | .portDisable _ => true
  | .retrain _ => true
  | .sleep _ => true
  | .portWake _ => true
  | .clrCnt _ => true
  | .trainStepDone _ x => trainOk x
  | .trainStepTimeout _ _ => true
  | .trainRetry _ => true
  | .frameTick _ => true
  | .upstreamHeader _ h => headerOk h
  | .servoSlotReceived _ _ x _ => slotOk x
  | .servoSlotMissing _ _ => true
  | .actuatorRepeat _ => true
  | .lockTimeout _ => true
  | .dropTimeout _ => true
  | .dropNotFound _ => true
  | .mgmtMessage _ _ _ _ _ b => mgmtOk b
  | .mgmtResend _ _ => true
  | .mapEpochChange _ => true
  | .laneLoss _ _ => true
  | .laneModeSwitch _ _ => true
  | .laneRejoinAttempt _ _ => true
  | .laneRejoin _ => true
  | .txOvercurrent _ _ => true
  | .txOvercurrentRetry _ _ _ => true
  | .lowpowerEntry _ => true
  | .partnerWake _ => true
  | .portWakeTimeout _ => true
  | .servoPositionGrant _ => true
  | .slotSample _ x => slotOk x
  | .clusterFault _ _ => true
  | .handoverServe _ => true
  | .clusterTestDone _ _ => true
  | .hoTest _ => true
  | .hoUcode _ => true
  | .hoFormat _ _ => true
  | .hoRetest _ => true
  | .plannedSwitch _ _ => true
  | .collisionMove _ => true
  | .coefStageToShadow _ _ => true
  | .coefShadowToStage _ _ => true
  | .coefActiveToStage _ _ => true
  | .coefStageToLibrary _ _ _ => true
  | .coefLibraryToStage _ _ _ => true
  | .swapFromShadow _ _ => true
  | .swapFromLibrary _ _ => true
  | .swapAbort _ => true
  | .swapExecute _ => true
  | .swapHoldTimeout _ => true
  | .injStart _ _ _ _ _ => true
  | .injStop _ => true
  | .capArm _ _ _ _ => true
  | .capStop _ => true
  | .pullInAttemptTimeout _ => true
  | .layerJump _ _ => true
  | .layerStepTimeout _ => true
  | .trackOnTimeout _ => true
  | .trackJump _ _ => true
  | .longSeek _ _ cmd => optOk cmdOk cmd
  | .addressRead _ _ a _ _ => placeOk a
  | .profileAlign _ => true
  | .profileLearnDone _ => true
  | .spinStart _ => true
  | .senseDone _ => true
  | .reverseShortDone _ => true
  | .coastWaitDone _ => true
  | .catchDone _ => true
  | .restDone _ => true
  | .alignDone _ => true
  | .observerHandover _ => true
  | .observerTimeout _ => true
  | .spinupTimeout _ => true
  | .speedReached _ => true
  | .speedPlan _ => true
  | .targetDwell _ => true
  | .idleSpinDown _ => true
  | .slotReclaim _ => true
  | .spinDown _ => true
  | .shortBrakeDone _ => true
  | .coastDownElapsed _ => true
  | .sledHoldCurrent _ => true
  | .sledTblStageToTable _ => true
  | .sledTblTableToStage _ => true
  | .sledTblDefaultToStage _ => true
  | .trayMoveStart _ => true
  | .traySwitchReached _ => true
  | .trayTimeout _ => true
  | .forceSafe _ => true
  | .clrFault _ => true
  | .unisolate _ _ _ => true
  | .calTempCheck => true
  | .calRunStart _ _ _ _ _ => true
  | .calRunDone _ _ _ _ _ => true
  | .calRetry _ _ _ _ => true
  | .calReadWindow _ => true
  | .calWriteWindow _ => true
  | .calRunNow _ _ => true
  | .calMarkStale _ => true
  | .laneBind _ _ => true
  | .laneIdleRelease _ => true
  | .laneMigrate _ => true
  | .laneTest _ => true
  | .laneRetest _ => true
  | .migrationSwitch _ => true
  | .laneFault _ _ => true
  | .laneTestDone _ _ => true
  | .rfBurst _ _ _ _ words place => burstOk words place
  | .levelBankSwitch _ => true
  | .writeStop _ => true
  | .writeStopTimeout _ => true
  | .llrMove => true
  | .codewordUrgent _ => true
  | .parkComplete _ => true
  | .decoderGrant => true
  | .decodeIteration _ => true
  | .wallTimeout _ => true
  | .starveTimeout _ => true
  | .decoderWatchdog _ _ => true
  | .decTest _ => true
  | .decEnable _ => true
  | .decDisable _ => true
  | .decoderTestDone _ _ => true
  | .outerDecode _ _ cluster => decide (cluster < 2 ^ 20)
  | .sectorRetryRev _ _ cluster => decide (cluster < 2 ^ 20)
  | .mapAppend _ _ => true
  | .appendRetry _ => true
  | .stripeCloseTimeout _ _ => true
  | .resync _ _ => true
  | .floeReconstruct _ _ cluster => decide (cluster < 2 ^ 20)
  | .floeRepair _ => true
  | .scrubTick _ => true
  | .rebuildStep _ => true
  | .breathRequest _ _ _ _ cmd => optOk cmdOk cmd
  | .breathRelease _ _ => true
  | .requestAged _ _ => true
  | .overdrawTick => true
  | .overdrawLong _ => true
  | .mechExcess _ => true
  | .bistGapExpiry => true
  | .hostPortReset _ => true
  | .functionLevelReset _ => true
  | .busMasterClear _ => true
  | .fnEnable _ _ _ => true
  | .fnDisable _ => true
  | .functionStopDone _ => true
  | .claim _ => true
  | .standby _ => true
  | .release _ => true
  | .heartbeat _ => true
  | .stewardHbTimeout => true
  | .fenceFunction _ => true
  | .fencePort _ => true
  | .unfenceFunction _ => true
  | .unfencePort _ => true
  | .attentionWrite _ => true
  | .doorbellScan _ recs => (recs.all fun (e : Nat × Word × Word) => decide (e.1 < 65536))
  | .descriptorFetched _ qpid d => decide (qpid < 65536) && descOk d
  | .fetchTimeout _ qpid _ => decide (qpid < 65536)
  | .completionWrite _ => true
  | .coalesceTimeout _ qpid => decide (qpid < 65536)
  | .commandDeadline _ tag => decide (tag < 2 ^ 32)
  | .writeAccepted _ tag data _ => decide (tag < 2 ^ 32) && data.all blockOk
  | .read _ tag _ => decide (tag < 2 ^ 32)
  | .write _ tag => decide (tag < 2 ^ 32)
  | .verify _ tag => decide (tag < 2 ^ 32)
  | .commit _ tag => decide (tag < 2 ^ 32)
  | .mount _ tag _ _ => decide (tag < 2 ^ 32)
  | .unmount _ tag => decide (tag < 2 ^ 32)
  | .load _ tag => decide (tag < 2 ^ 32)
  | .eject _ tag => decide (tag < 2 ^ 32)
  | .seekHint _ tag _ _ => decide (tag < 2 ^ 32)
  | .abort _ tag => decide (tag < 2 ^ 32)
  | .scrub _ tag => decide (tag < 2 ^ 32)
  | .servoTest _ tag _ => decide (tag < 2 ^ 32)
  | .identify _ tag _ => decide (tag < 2 ^ 32)
  | .getLog _ tag _ => decide (tag < 2 ^ 32)
  | .setFeature _ tag data _ => decide (tag < 2 ^ 32) && bytesOk data
  | .getFeature _ tag _ => decide (tag < 2 ^ 32)
  | .fwDownload _ tag _ => decide (tag < 2 ^ 32)
  | .fwCommit _ tag image _ => decide (tag < 2 ^ 32) && imageOk image
  | .fwCommitActivate _ tag image _ => decide (tag < 2 ^ 32) && imageOk image
  | .fwActivate _ tag => decide (tag < 2 ^ 32)
  | .createQp _ tag => decide (tag < 2 ^ 32)
  | .deleteQp _ tag => decide (tag < 2 ^ 32)
  | .lease _ tag => decide (tag < 2 ^ 32)
  | .calibSave _ tag _ => decide (tag < 2 ^ 32)
  | .calibRestore _ tag data _ => decide (tag < 2 ^ 32) && bytesOk data
  | .floeDefine _ tag data _ => decide (tag < 2 ^ 32) && bytesOk data
  | .floeDelete _ tag => decide (tag < 2 ^ 32)
  | .floeRebuild _ tag => decide (tag < 2 ^ 32)
  | .arm _ tag => decide (tag < 2 ^ 32)
  | .ilkChannelChange _ _ => true
  | .permitHoldDone => true
  | .discrepancyTimeout => true
  | .disarm _ => true
  | .gpioEdge _ _ => true
  | .gpioSet _ => true
  | .gpioClr _ => true
  | .mctpControl req => bytesOk req
  | .mctpStatus => true
  | .mctpReadRegister offset => decide (offset < 2 ^ 32)
  | .mctpTelemetry _ => true
  | .mctpLogEntries seq _ => decide (seq < 2 ^ 32)
  | .registerRead addr => addrOk addr
  | .refclkRestored => true
  | .powerGoodRise _ => true
  | .hostLinkUp _ _ _ => true
  | .dimmTempRead _ temp => intOk 16 temp

end Sys2Proof
end

