-- ==== Sys2Proof/Tests/Slice0.lean ====
section
/-! SUPPORT. Tests: an ill-formed command for each check of WellFormed; for every statement, states and operands that meet its hypotheses (a clause of the
statement is applied to them, and each hypothesis is decided); results of a few commands, worked out by hand from the rules. -/

namespace Sys2Proof.Tests

open Sys2Proof Sys2Proof.Machine

set_option Elab.async false

/-- Command c at state s answers a next state. -/
def Runs (c : Instr) (s : State) : Prop := ∃ t, exec c s = .next t

theorem runs {c : Instr} {s : State} {P : State → Prop} (h : Completes c s P) : Runs c s := h.imp fun _ x => x.1

/-- The reset state with these fields set: field, index, value. -/
def st (l : List (Fld × Nat × Nat)) : State := l.foldl (fun s x => s.set x.1 x.2.1 x.2.2) State.reset

/-- ACTIVE, one second after power-on, with these fields set. -/
def act (l : List (Fld × Nat × Nat)) : State := { st ((.DRN_PSTAT_STATE, 0, 1) :: l) with time := { now := 1000000000 } }

/-- The state with one outstanding command. -/
def withCtx (c : Ctx) (s : State) : State := { s with host := { s.host with cmds := [c] } }

/-- A warm reset under way, and a device with one option slot used. -/
def sWarm : State := { st [(.RST_STAT_STAGE, 0, 4)] with pwr := { seq := some (.warm, 0) } }
def sOtp : State := { State.reset with pwr := { otp := [(15, [1])] }, pending := [.xtalRelock] }

/-- Function fn's outstanding command d of queue pair q. -/
def ctxOf (fn q : Nat) (d : Desc) (phase : CtxPhase := .fetched) (started : Bool := false) : Ctx :=
  { fn := fn, qpid := q, d := d, phase := phase, started := started }
/-- The state 400 ms after power-on. -/
def late (s : State) : State := { s with time := { now := 400000000 } }

/-- The state with this power-control record, at this time, in this power state. -/
def powered (pst now : Nat) (p : PowerX) (l : List (Fld × Nat × Nat)) : State :=
  { st ((.DRN_PSTAT_STATE, 0, pst) :: l) with pwr := p, time := { now := now } }

/-- ACTIVE with every management core RUNNING, and with these fields set. -/
def run4 (l : List (Fld × Nat × Nat)) : State := act ((List.range 4).map (fun c => (Fld.MCORE_STAT_CSTATE, c, 0)) ++ l)

/-- ACTIVE, with this record of what function 255 and host port 3 have besides their registers. -/
def hosted (h : HostState) (l : List (Fld × Nat × Nat)) : State := { act l with host := h }
/-- Function 0 is the Steward, and has this outstanding command. -/
def admin (fn : Nat) (d : Desc) (l : List (Fld × Nat × Nat)) : State :=
  hosted { cmds := [ctxOf fn 0 d] } ((.HQP_STEWARD_VALID, 0, 1) :: l)

/-- Mechanism n is TRACKING with a mounted HAF disc of one layer. -/
def tracking (n : Nat) : List (Fld × Nat × Nat) :=
  [(.MECH_STATE_STATE, n, 6), (.MECH_STATE_MOUNTED, n, 1), (.MECH_DISC_MEDIA, n, 1), (.MECH_DISC_LAYERS, n, 1)]
/-- DRAM in channel 0. -/
def dram16 : List (Fld × Nat × Nat) := [(.MEM_DDR_STAT_PRESENT, 0, 1), (.MEM_DDR_STAT_DIMM_GIB, 0, 16)]
/-- Mechanism 4095 is TRACKING, key slot 0 encrypts, function 255 has the outstanding command d of queue pair 1, and these entries stand in the write buffer. -/
def io (d : Desc) (w : List WbEntry) (l : List (Fld × Nat × Nat)) : State :=
  hosted { cmds := [ctxOf 255 1 d], keys := [(0, { mode := 1 })], wbuf := w, nextWb := 9 } (tracking 4095 ++ dram16 ++ l)
def cmd (op lba count spec flags : Nat) : Desc := { opcode := op, tag := 7, mn := 4095, lba := lba, count := count, spec := spec, flags := flags }
/-- A WRITE of block 100 in the write buffer. -/
def wb (p : WbPhase) (data : List Nat) : WbEntry := { id := 3, fn := 0, qpid := 1, tag := 9, mn := 4095, lba := 100, count := 1, phase := p, data := data }

/-- Mechanism 4095 holds slot k of cluster c, with its loops in these states, this servo record, and these fields set. -/
def slotted (c k ls : Nat) (v : ServoX) (l : List (Fld × Nat × Nat)) : State :=
  let s := act ([(.MECH_SERVO_SLOT_VALID, 4095, 1), (.MECH_SERVO_CLUSTER, 4095, c), (.MECH_SERVO_SLOT, 4095, k), (.CIRQ_STATUS_ROLE, c, 0)] ++ l)
  { ((s.set2 .CIRQ_SLOT_VALID c k 1).set2 .CIRQ_SLOT_MN c k 4095).set2 .CIRQ_LSTAT_LS c k ls with servo := [(4095, v)] }
/-- The stage holds the default record of loop 7. -/
def staged : List (Fld × Nat × Nat) :=
  [(0, 117506058), (8, 65536006), (9, 7866120), (10, 865075720), (11, 98304800), (12, 33554688), (13, 13107600), (14, 4251976335), (127, 1854114565)].map
    fun e => (.CIRQ_STAGE_DWORD, e.1, e.2)

/-- The drop of mechanism 4095 has servo position 0 of port 63 and samples in every frame. -/
def mapped (s : State) : State := s.wr .PEN_SMAP 63 0 0x803F
/-- 1,100 s after power-on. -/
def long (s : State) : State := { s with time := { now := 0x10000000000 } }
/-- Slot 31 of cluster 16 is mechanism 4095's: loop states, servo record, fields; 1,100 s after power-on. -/
def servoAt (ls : Nat) (v : ServoX) (l : List (Fld × Nat × Nat)) : State := long (slotted 16 31 ls v l)

/-- Statements on steps: a step that answers, an idle step in BOOT, one in ACTIVE, and one in a power sequence. -/
theorem witness_StepsAndTicks (h : Obligations.StepsAndTicks) : (∃ t, step { State.reset with pending := [.xtalRelock, .fanUpdate] } = .next t ∧ t.pending = [.fanUpdate]) ∧
    (∃ t, step State.reset = .next t) ∧ (∃ t, step (act []) = .next t) ∧ ∃ t, step sWarm = .next t :=
  ⟨⟨_, rfl, h.1 .xtalRelock [.fanUpdate] State.reset _ rfl⟩, (h.2.1 State.reset rfl rfl (by decide +kernel)).imp fun _ x => x.1,
   (h.2.2.1 (act []) rfl rfl (by decide +kernel) (by decide +kernel)).imp fun _ x => x.1,
   (h.2.2.2 sWarm _ _ rfl rfl (by decide +kernel) (by decide +kernel)).imp fun _ x => x.1⟩

/-- A step from a state with an option slot that is not blank. -/
theorem witness_steps (i : Obligations.IdentityFixed) (o : Obligations.OtpSlotsFixed) : (∃ t, step { State.reset with pending := [.xtalRelock] } = .next t ∧ t.readAt 12 = State.reset.readAt 12) ∧
    ∃ t, step sOtp = .next t ∧ t.otpSlot 15 = sOtp.otpSlot 15 :=
  ⟨⟨_, rfl, i { State.reset with pending := [.xtalRelock] } _ rfl 12 (by decide)⟩, ⟨_, rfl, o sOtp _ 15 rfl (by decide +kernel)⟩⟩

/-- PermitsSound has a sound state that steps. -/
theorem witness_PermitsSound (h : Obligations.PermitsSound) : ∃ t, step { State.reset with pending := [.xtalRelock] } = .next t ∧ PermitSound t :=
  ⟨_, rfl, h { State.reset with pending := [.xtalRelock] } _ ⟨by decide +kernel, by decide +kernel, by decide +kernel, by decide +kernel⟩ rfl⟩

/-- The first and the last register of an array have an address each. -/
theorem witness_RegistersApart : (∃ e ∈ allRegs, e.reg.has 0 0 = true) ∧ ∃ e ∈ allRegs, e.reg.has 4095 0 = true := by decide +kernel

theorem witness_EveryCommandAnswers (h : Obligations.EveryCommandAnswers) : Runs (.registerWrite 0x2FFFFFC 0 15) State.reset ∧ Runs (.registerRead 0) State.reset :=
  ⟨h _ _ (by intro a v be e; cases e; decide) (by intro a e; cases e), h _ _ (by intro a v be e; cases e) (by intro a e; cases e; decide)⟩

/-- An odd address, the first address beyond the windows, a write with a missing byte, a read. -/
theorem witness_RegisterAccesses (h : Obligations.RegisterAccesses) : exec (.registerRead 2) State.reset = .fault .misaligned ∧
    exec (.registerRead 0x3000000) State.reset = .fault .noSuchAddress ∧ Runs (.registerWrite 0 0 14) (act []) ∧ Runs (.registerRead 0x2FFFFFC) (act []) :=
  ⟨((h.1 2 0 0 State.reset).1 (by decide)).1, ((h.1 0x3000000 0 0 State.reset).2 (by decide) (by decide)).1,
   runs (h.2.1 0 0 14 (act []) (by decide) (by decide) (by decide +kernel) (by decide)),
   runs (h.2.2 0x2FFFFFC (act []) (by decide) (by decide) (by decide +kernel) (by decide +kernel))⟩

/-- Both channels CLOSED for exactly 50 ms; a discrepancy that has lasted its limit. -/
def sClosed : State :=
  { st [(.SAFE_STAT_STATE_A, 0, 1), (.SAFE_STAT_STATE_B, 0, 1)] with ilk := { since := some 0, bitAt := 1000 }, time := { now := 50000000 } }
def sDis : State := { State.reset with ilk := { dis := some (0, 400, false) }, time := { now := 400000000 } }
def armDesc : Desc := { opcode := 0x8C, spec := 0x01FF, tag := 7 }
def sArm (s : State) : State := withCtx (ctxOf 0 0 armDesc) s
def sBitLate : State := { State.reset with time := { now := 61035 } }

/-- A channel bit exactly one bit period after the last; the 50 ms; the discrepancy limit. -/
theorem witness_InterlockChannels (h : Obligations.InterlockChannels) :
    Runs (.ilkChannelChange true false) sBitLate ∧
    Runs (.permitHoldDone) sClosed ∧
    Runs (.discrepancyTimeout) sDis :=
  ⟨runs (h.1 true false sBitLate ⟨by decide +kernel, by decide +kernel, by decide +kernel, by decide +kernel⟩ (by decide +kernel)),
   runs (h.2.1 sClosed 0 rfl (by decide +kernel) (by decide +kernel) (by decide +kernel) (by decide +kernel)),
   runs (h.2.2 sDis 0 400 rfl (by decide +kernel) (by decide +kernel))⟩

/-- ARM with the channels not CLOSED, with a fault that is not acknowledged, and accepted; the hold; DISARM at both ends of its range. -/
theorem witness_ArmAndDisarm (h : Obligations.ArmAndDisarm) :
    Runs (.arm 0 7) (sArm State.reset) ∧
    Runs (.arm 0 7) (withCtx (ctxOf 0 0 { armDesc with spec := 1 }) (sClosed.set0 .SAFE_STAT_FAULT 1)) ∧
    Runs (.arm 0 7) (sArm sClosed) ∧
    Runs (.arm 0 7) (sArm (sClosed.set0 .SAFE_STAT_FAULT 1)) ∧
    Runs (.permitHoldDone) sClosed ∧
    Runs (.disarm 0) State.reset ∧
    Runs (.disarm 255) (sClosed.set0 .SAFE_ZONE_LPERMIT 255) :=
  ⟨runs ((h.1 0 7 (sArm State.reset) (ctxOf 0 0 armDesc) ⟨by decide +kernel, rfl, rfl⟩).1 (by decide +kernel)),
   runs ((h.1 0 7 (withCtx (ctxOf 0 0 { armDesc with spec := 1 }) (sClosed.set0 .SAFE_STAT_FAULT 1)) (ctxOf 0 0 { armDesc with spec := 1 }) ⟨by decide +kernel, rfl, rfl⟩).2.1 (by decide +kernel) (by decide +kernel) (by decide +kernel)),
   runs ((h.1 0 7 (sArm sClosed) (ctxOf 0 0 armDesc) ⟨by decide +kernel, rfl, rfl⟩).2.2 (by decide +kernel) (by decide +kernel)),
   runs ((h.1 0 7 (sArm (sClosed.set0 .SAFE_STAT_FAULT 1)) (ctxOf 0 0 armDesc) ⟨by decide +kernel, rfl, rfl⟩).2.2 (by decide +kernel) (by decide +kernel)),
   runs (h.2.1 sClosed 0 rfl (by decide +kernel) (by decide +kernel) (by decide +kernel) (by decide +kernel)),
   runs (h.2.2 0 State.reset (by decide +kernel)),
   runs (h.2.2 255 (sClosed.set0 .SAFE_ZONE_LPERMIT 255) (by decide +kernel))⟩

def sMerge : State := { State.reset with memx := { banks := [(47, { merge := [{ word := 262143, mask := 0x0F, value := 5, req := 0, idle := 65535 }] })] } }
def sPatrol : State := { act [(.MEM_SCRUB_CFG_SRAM_S, 0, 1), (.MEM_SCRUB_CFG_DRAM_H, 0, 1), (.MEM_DDR_STAT_PRESENT, 0, 1), (.MEM_DDR_STAT_DIMM_GIB, 0, 16)] with
  time := { now := 3600000000000 } }

/-- The clauses of Obligations.MemoryChecks at states and operands that meet their hypotheses. -/
theorem witness_MemoryChecks (h : Obligations.MemoryChecks) :
    Runs (.ceWriteback 47 262143) ({ State.reset with memx := { fix := [12582911] } }) ∧
    Runs (.patrolScrub false none) sPatrol ∧
    Runs (.patrolScrub true none) sPatrol ∧
    Runs (.mergeFlush 47 262143 0) sMerge ∧
    Runs (.mergeFlush 47 262143 3) sMerge ∧
    Runs (.dmaHalt 23 none [] [] none) State.reset ∧
    Runs (.dmaRestart 0) ({ act [(.MEM_DMA_STAT_CSTATE, 0, 2)] with time := { now := 5000000 } }) :=
  ⟨runs (h.1 47 262143 { State.reset with memx := { fix := [12582911] } } (by decide +kernel)),
   runs (h.2.1 none sPatrol (by decide +kernel) (by decide +kernel)),
   runs (h.2.2.1 none sPatrol (by decide +kernel) (by decide +kernel) (by decide +kernel)),
   runs (h.2.2.2.1 47 262143 0 sMerge _ rfl (by decide +kernel)),
   runs (h.2.2.2.1 47 262143 3 sMerge _ rfl (by decide +kernel)),
   runs (h.2.2.2.2.1 23 none [] [] none State.reset (by decide +kernel)),
   runs (h.2.2.2.2.2 0 ({ act [(.MEM_DMA_STAT_CSTATE, 0, 2)] with time := { now := 5000000 } }) (by decide +kernel) (by decide +kernel))⟩

def sDdr : State := act [(.MEM_DDR_STAT_PRESENT, 0, 0x80), (.MEM_DDR_CFG_SR_IDLE_US, 0, 1)]
/-- Channel 7's refresh is as long ago as its DIMM's temperature asks. -/
def sRefresh : State := { sDdr with time := { now := Config.refreshNs 0 } }
def sHot : State := { sDdr.set0 .DRN_THERM_STAT_TMAX 0x7FFF with memx := { applyTemp := [(7, 0)] } }

/-- The clauses of Obligations.DramChannels at states and operands that meet their hypotheses. -/
theorem witness_DramChannels (h : Obligations.DramChannels) :
    Runs (.dramRefresh 7) sRefresh ∧
    Runs (.selfRefreshEntry 7) sDdr ∧
    Runs (.ddrApplyDelays 7) sDdr ∧
    Runs (.ddrRetune 7) sHot ∧
    Runs (.ddrTestStart 7 1 65535 (some 1)) sDdr ∧
    Runs (.ddrTestStart 0 1 1 none) sDdr ∧
    Runs (.ddrTestStart 0 1 1 (some 1023)) sDdr ∧
    Runs (.ddrTestStop) (act [(.MEM_DDR_TEST_STAT_BUSY, 0, 1)]) ∧
    Runs (.dimmTempRead 7 (-40)) ({ sDdr with time := { now := 100000000 } }) :=
  ⟨runs (h.1 7 sRefresh (by decide +kernel) (by decide +kernel) (by first | decide +kernel | exact le_of_eq (Nat.zero_add _))),
   runs (h.2.1 7 sDdr (by decide +kernel) (by decide +kernel) (by decide +kernel) (by decide +kernel)),
   runs (h.2.2.1 7 sDdr (by decide +kernel) (by decide +kernel) (by decide +kernel) (by decide +kernel)),
   runs (h.2.2.2.1 7 sHot (by decide +kernel) (by decide +kernel) (by decide +kernel)),
   runs (h.2.2.2.2.1 7 1 65535 (some 1) sDdr (by decide +kernel) (by decide +kernel) (by decide +kernel)),
   runs (h.2.2.2.2.1 0 1 1 none sDdr (by decide +kernel) (by decide +kernel) (by decide +kernel)),
   runs (h.2.2.2.2.1 0 1 1 (some 1023) sDdr (by decide +kernel) (by decide +kernel) (by decide +kernel)),
   runs (h.2.2.2.2.2.1 (act [(.MEM_DDR_TEST_STAT_BUSY, 0, 1)]) (by decide +kernel) (by decide +kernel)),
   runs (h.2.2.2.2.2.2 7 (-40) ({ sDdr with time := { now := 100000000 } }) (by decide +kernel) (by decide +kernel))⟩

/-- The clauses of Obligations.RimeCache at states and operands that meet their hypotheses. -/
theorem witness_RimeCache (h : Obligations.RimeCache) :
    Runs (.rimeInvalidate) (act []) ∧
    Runs (.rimeFlush) (act []) ∧
    Runs (.rimeEnable) (act []) ∧
    Runs (.rimeEnable) (act [(.MEM_RIME_STAT_INVAL_DONE, 0, 1)]) ∧
    Runs (.rimeDisable) (act [(.MEM_RIME_CTRL_EN, 0, 1)]) ∧
    Runs (.rimeWaysChange 16) (act [(.MEM_RIME_CTRL_WAYS, 0, 2)]) ∧
    Runs (.rimeWaysChange 2) (act [(.MEM_RIME_CTRL_EN, 0, 1), (.MEM_RIME_CTRL_WAYS, 0, 16)]) :=
  ⟨runs ((h (act []) (by decide +kernel) (by decide +kernel)).1 (by decide +kernel)),
   runs ((h (act []) (by decide +kernel) (by decide +kernel)).2.1),
   runs ((h (act []) (by decide +kernel) (by decide +kernel)).2.2.1 (by decide +kernel)),
   runs ((h (act [(.MEM_RIME_STAT_INVAL_DONE, 0, 1)]) (by decide +kernel) (by decide +kernel)).2.2.1 (by decide +kernel)),
   runs ((h (act [(.MEM_RIME_CTRL_EN, 0, 1)]) (by decide +kernel) (by decide +kernel)).2.2.2.1 (by decide +kernel)),
   runs ((h (act [(.MEM_RIME_CTRL_WAYS, 0, 2)]) (by decide +kernel) (by decide +kernel)).2.2.2.2 16 (by decide) (by decide +kernel)),
   runs ((h (act [(.MEM_RIME_CTRL_EN, 0, 1), (.MEM_RIME_CTRL_WAYS, 0, 16)]) (by decide +kernel) (by decide +kernel)).2.2.2.2 2 (by decide) (by decide +kernel))⟩

/-- The clauses of Obligations.CoreRestarts at states and operands that meet their hypotheses. -/
theorem witness_CoreRestarts (h : Obligations.CoreRestarts) :
    Runs (.coreReady 3) (run4 [(.MCORE_STAT_CSTATE, 3, 1)]) ∧
    Runs (.coreHbTimeout 0) (run4 []) ∧
    Runs (.coreTrap 0 1 4 8 false none) (run4 []) ∧
    Runs (.coreTrap 3 255 4 8 true none) (run4 []) ∧
    Runs (.coreTrap 3 0 4 8 false none) (run4 []) ∧
    Runs (.corePlannedRestart 0) (run4 []) ∧
    Runs (.coreRelease 3) (run4 [(.MCORE_STAT_CSTATE, 3, 3)]) :=
  ⟨runs (h.1 3 (run4 [(.MCORE_STAT_CSTATE, 3, 1)]) (by decide +kernel) (by decide +kernel)),
   runs (h.2.1 0 (run4 []) (by decide +kernel) (by decide +kernel)),
   runs (h.2.2.1 0 1 4 8 false none (run4 []) (by decide +kernel)),
   runs (h.2.2.1 3 255 4 8 true none (run4 []) (by decide +kernel)),
   runs (h.2.2.1 3 0 4 8 false none (run4 []) (by decide +kernel)),
   runs (h.2.2.2.1 0 (run4 []) (by decide +kernel) (by decide +kernel) (by decide +kernel)),
   runs (h.2.2.2.2 3 (run4 [(.MCORE_STAT_CSTATE, 3, 3)]) (by decide +kernel) (by decide +kernel) (by decide +kernel))⟩

/-- The clauses of Obligations.PlannedRestarts at states and operands that meet their hypotheses. -/
theorem witness_PlannedRestarts (h : Obligations.PlannedRestarts) :
    Runs (.corePlannedRestart 3) (run4 []) ∧
    Runs (.corePlannedRestart 0) (run4 [(.MCORE_STAT_CSTATE, 1, 3), (.MCORE_STAT_CSTATE, 2, 3), (.MCORE_STAT_CSTATE, 3, 3)]) ∧
    Runs (.corePlannedRestart 0) (run4 [(.MCORE_STAT_CSTATE, 1, 1)]) ∧
    Runs (.coreHbTimeout 0) (run4 [(.MCORE_STAT_CSTATE, 0, 1)]) :=
  ⟨runs (h.1 3 (run4 []) (by decide +kernel) (by decide +kernel) (by decide +kernel)),
   runs (h.1 0 (run4 [(.MCORE_STAT_CSTATE, 1, 3), (.MCORE_STAT_CSTATE, 2, 3), (.MCORE_STAT_CSTATE, 3, 3)]) (by decide +kernel) (by decide +kernel) (by decide +kernel)),
   runs (h.1 0 (run4 [(.MCORE_STAT_CSTATE, 1, 1)]) (by decide +kernel) (by decide +kernel) (by decide +kernel)),
   runs (h.2 0 (run4 [(.MCORE_STAT_CSTATE, 0, 1)]) (by decide +kernel))⟩

/-- A power sequence that began at 0 and has lasted exactly this long before the step's own tick is added. -/
def sSeq (q : DroneSeq) (now : Nat) (l : List (Fld × Nat × Nat)) : State := powered 0 now { seq := some (q, 0) } l
def sStaged : State := act ((List.range 32).map fun i => (.RST_OPT_STAGE_DWORD, i, leAt defaultBlock (4 * i) 4))
def sFull : State := { sStaged with pwr := { otp := (List.range 16).map fun k => (k, [1]) } }

/-- The clauses of Obligations.ResetSources at states and operands that meet their hypotheses. -/
theorem witness_ResetSources (h : Obligations.ResetSources) :
    Runs (.powerOnReset) (act []) ∧
    Runs (.pinReset) (act []) ∧
    Runs (.softPinReset 0x5253) (act []) ∧
    Runs (.softWarmReset 0x5253) (act [(.RST_STAT_STAGE, 0, 11)]) ∧
    Runs (.debugReset) (act [(.RST_STAT_STAGE, 0, 11), (.DBG_AUTH_STAT_AUTH, 0, 1)]) ∧
    Runs (.lockupReset true) (act [(.RST_STAT_STAGE, 0, 11)]) ∧
    Runs (.lockupReset false) (powered 1 1000000000 { noCoreAt := some 0 } [(.RST_STAT_STAGE, 0, 11)]) ∧
    Runs (.supervisorTimeout 65535) (powered 1 5000000000 {} [(.RST_STAT_STAGE, 0, 11)]) ∧
    (∃ t, step (sSeq .warm 200000 []) = .next t) :=
  ⟨runs (h.1 (act [])),
   runs (h.2.1 (act [])),
   runs (h.2.2.1 (act []) (by decide +kernel)),
   runs (h.2.2.2.1 (act [(.RST_STAT_STAGE, 0, 11)]) (by decide +kernel) (by decide +kernel)),
   runs (h.2.2.2.2.1 (act [(.RST_STAT_STAGE, 0, 11), (.DBG_AUTH_STAT_AUTH, 0, 1)]) (by decide +kernel) (by decide +kernel)),
   runs (h.2.2.2.2.2.1 true (act [(.RST_STAT_STAGE, 0, 11)]) (by decide +kernel) (Or.inl rfl)),
   runs (h.2.2.2.2.2.1 false (powered 1 1000000000 { noCoreAt := some 0 } [(.RST_STAT_STAGE, 0, 11)]) (by decide +kernel) (Or.inr ⟨0, rfl, by decide +kernel⟩)),
   runs (h.2.2.2.2.2.2.1 65535 (powered 1 5000000000 {} [(.RST_STAT_STAGE, 0, 11)]) (by decide +kernel) (by decide +kernel)),
   (h.2.2.2.2.2.2.2 (sSeq .warm 200000 []) 0 rfl rfl (by decide +kernel) (by decide +kernel)).imp fun _ x => x.1⟩

/-- The clauses of Obligations.OptionSlots at states and operands that meet their hypotheses. -/
theorem witness_OptionSlots (h : Obligations.OptionSlots) :
    Runs (.optionProgram true) (act []) ∧
    Runs (.optionProgram true) sFull ∧
    Runs (.optionProgram true) sStaged ∧
    Runs (.optionProgram false) sStaged ∧
    Runs (.optionRead 0) sStaged ∧
    Runs (.optionRead 15) sStaged :=
  ⟨runs ((h (act []) (by decide +kernel) (by decide +kernel)).1 true (by decide +kernel)),
   runs ((h sFull (by decide +kernel) (by decide +kernel)).2.1 true (by decide +kernel) (by decide +kernel)),
   runs ((h sStaged (by decide +kernel) (by decide +kernel)).2.2.1 true 1 (by decide +kernel) (by decide +kernel) (by decide +kernel) (by decide +kernel)),
   runs ((h sStaged (by decide +kernel) (by decide +kernel)).2.2.1 false 1 (by decide +kernel) (by decide +kernel) (by decide +kernel) (by decide +kernel)),
   runs ((h sStaged (by decide +kernel) (by decide +kernel)).2.2.2 0 (by decide +kernel)),
   runs ((h sStaged (by decide +kernel) (by decide +kernel)).2.2.2 15 (by decide +kernel))⟩

/-- The clauses of Obligations.BootAndBlocks at states and operands that meet their hypotheses. -/
theorem witness_BootAndBlocks (h : Obligations.BootAndBlocks) :
    Runs (.bootStageDone {}) (st [(.RST_STAT_STAGE, 0, 0)]) ∧
    Runs (.bootStageDone { smbAddr := 7 }) (st [(.RST_STAT_STAGE, 0, 1)]) ∧
    Runs (.bootStageDone {}) (st [(.RST_STAT_STAGE, 0, 4)]) ∧
    Runs (.bootStageDone { fail := 1 }) (st [(.RST_STAT_STAGE, 0, 5)]) ∧
    Runs (.bootStageDone {}) (st [(.RST_STAT_STAGE, 0, 10)]) ∧
    Runs (.blockReset 4 23) (act [(.MEM_DMA_STAT_CSTATE, 23, 2)]) ∧
    Runs (.blockReset 9 3) (act [(.MCORE_STAT_CSTATE, 3, 1)]) ∧
    Runs (.blockReset 8 255) (act []) :=
  ⟨runs (h.1 {} (st [(.RST_STAT_STAGE, 0, 0)]) (by decide +kernel) (by decide +kernel) (by decide +kernel)),
   runs (h.1 { smbAddr := 7 } (st [(.RST_STAT_STAGE, 0, 1)]) (by decide +kernel) (by decide +kernel) (by decide +kernel)),
   runs (h.1 {} (st [(.RST_STAT_STAGE, 0, 4)]) (by decide +kernel) (by decide +kernel) (by decide +kernel)),
   runs (h.1 { fail := 1 } (st [(.RST_STAT_STAGE, 0, 5)]) (by decide +kernel) (by decide +kernel) (by decide +kernel)),
   runs (h.1 {} (st [(.RST_STAT_STAGE, 0, 10)]) (by decide +kernel) (by decide +kernel) (by decide +kernel)),
   runs (h.2 4 23 (act [(.MEM_DMA_STAT_CSTATE, 23, 2)]) (by decide +kernel) (by decide +kernel) (by decide +kernel) (by decide +kernel) (by decide +kernel)),
   runs (h.2 9 3 (act [(.MCORE_STAT_CSTATE, 3, 1)]) (by decide +kernel) (by decide +kernel) (by decide +kernel) (by decide +kernel) (by decide +kernel)),
   runs (h.2 8 255 (act []) (by decide +kernel) (by decide +kernel) (by decide +kernel) (by decide +kernel) (by decide +kernel))⟩

/-- The clauses of Obligations.Clocks at states and operands that meet their hypotheses. -/
theorem witness_Clocks (h : Obligations.Clocks) :
    Runs (.xtalLost) State.reset ∧
    Runs (.xtalRelock) State.reset ∧
    Runs (.refclkLost) (act [(.DRN_CLK_STAT_REF_OK, 0, 1), (.RST_STAT_STAGE, 0, 11)]) ∧
    Runs (.refclkRestored) (powered 0 0 { clkHold := true } []) ∧
    Runs (.refclkRestored) (st [(.RST_STAT_STAGE, 0, 2)]) ∧
    Runs (.timeRatioMeasure 1) (powered 1 1000000000 { ratioAt := some 0 } []) :=
  ⟨runs (h.1 State.reset (by decide +kernel)),
   runs (h.2.1 State.reset),
   runs (h.2.2.1 (act [(.DRN_CLK_STAT_REF_OK, 0, 1), (.RST_STAT_STAGE, 0, 11)]) (by decide +kernel) (by decide +kernel) (by decide +kernel)),
   runs (h.2.2.2.1 (powered 0 0 { clkHold := true } []) (by decide +kernel)),
   runs (h.2.2.2.2.1 (st [(.RST_STAT_STAGE, 0, 2)]) (by decide +kernel) (by decide +kernel) (by decide +kernel) (by decide +kernel) (by decide +kernel)),
   runs (h.2.2.2.2.2 1 (powered 1 1000000000 { ratioAt := some 0 } []) (by decide +kernel) (by decide +kernel))⟩

/-- The clauses of Obligations.SleepStates at states and operands that meet their hypotheses. -/
theorem witness_SleepStates (h : Obligations.SleepStates) :
    Runs (.dozeIdle) (powered 1 0x10000000000 { idleAt := some 0 } [(.DRN_DOZE_CFG_DOZE_EN, 0, 1)]) ∧
    Runs (.dozeRequest) (act []) ∧
    Runs (.hibernateRequest [1, 2]) (act []) ∧
    Runs (.wake 1) (st [(.DRN_PSTAT_STATE, 0, 2)]) ∧
    Runs (.wake 7) (st [(.DRN_PSTAT_STATE, 0, 3)]) ∧
    Runs (.wake 7) (st [(.DRN_PSTAT_STATE, 0, 6)]) ∧
    Runs (.wake 9) (st [(.DRN_PSTAT_STATE, 0, 6), (.DRN_WAKE_EN_PERST, 0, 1)]) ∧
    Runs (.wakeTimer 3) (st [(.DRN_PSTAT_STATE, 0, 3), (.DRN_WAKE_CTRL_EN, 0, 8)]) ∧
    Runs (.retryWake) (powered 3 1000000000 {} [(.DRN_DOZE_CFG_RETRY_WAKE_S, 0, 1), (.PEN_STATUS_PSTATE, 63, 10), (.PEN_CFG_EN, 63, 1)]) :=
  ⟨runs (h.1 (powered 1 0x10000000000 { idleAt := some 0 } [(.DRN_DOZE_CFG_DOZE_EN, 0, 1)]) 0 (by decide +kernel) (by decide +kernel) (by decide +kernel) rfl (by decide +kernel)),
   runs (h.2.1 (act []) (by decide +kernel) (by decide +kernel) (by decide +kernel) (by decide +kernel)),
   runs (h.2.2.1 [1, 2] (act []) (by decide +kernel) (by decide +kernel) (by decide +kernel) (by decide +kernel) (by decide +kernel)),
   runs (h.2.2.2.1 1 (st [(.DRN_PSTAT_STATE, 0, 2)]) (by decide +kernel) (by decide +kernel)),
   runs (h.2.2.2.1 7 (st [(.DRN_PSTAT_STATE, 0, 3)]) (by decide +kernel) (by decide +kernel)),
   runs (h.2.2.2.2.1 7 (st [(.DRN_PSTAT_STATE, 0, 6)]) (by decide +kernel) (by decide +kernel) (by decide +kernel)),
   runs (h.2.2.2.2.1 9 (st [(.DRN_PSTAT_STATE, 0, 6), (.DRN_WAKE_EN_PERST, 0, 1)]) (by decide +kernel) (by decide +kernel) (by decide +kernel)),
   runs (h.2.2.2.2.2.1 3 (st [(.DRN_PSTAT_STATE, 0, 3), (.DRN_WAKE_CTRL_EN, 0, 8)]) (by decide +kernel) (by decide +kernel)),
   runs (h.2.2.2.2.2.2 (powered 3 1000000000 {} [(.DRN_DOZE_CFG_RETRY_WAKE_S, 0, 1), (.PEN_STATUS_PSTATE, 63, 10), (.PEN_CFG_EN, 63, 1)]) 63 (by decide +kernel) (by decide +kernel) (by decide +kernel) (by decide +kernel) (by decide +kernel) (by decide +kernel))⟩

/-- The clauses of Obligations.SupplySequence at states and operands that meet their hypotheses. -/
theorem witness_SupplySequence (h : Obligations.SupplySequence) :
    Runs (.powerGoodRise 5) (powered 0 0x10000000 { up := some 5, upAt := 0 } [(.DRN_PWR_STAT_EN, 0, 63)]) ∧
    Runs (.powerGoodRise 0) (powered 0 0x10000000 { up := some 0, upAt := 0 } [(.DRN_PWR_STAT_EN, 0, 1)]) ∧
    (∃ t, step (sSeq (.gap) 16777216 [(.DRN_PWR_STAT_EN, 0, 3)]) = .next t) ∧
    Runs (.pgoodTimeout) (powered 0 0x10000000 { up := some 0, upAt := 0 } [(.DRN_PWR_STAT_EN, 0, 1)]) ∧
    (∃ t, step (sSeq (.off .cycle) 16777216 [(.DRN_PWR_STAT_EN, 0, 63)]) = .next t) ∧
    (∃ t, step (sSeq (.off (.failed 5 1)) 16777216 []) = .next t) ∧
    (∃ t, step (sSeq (.off (.failed 0 3)) 16777216 []) = .next t) ∧
    Runs (.powerRetry) (powered 0 1000000000 { retry := true } [(.DRN_CLK_STAT_REF_OK, 0, 1)]) ∧
    Runs (.brownOutReset 5) (act [(.DRN_PWR_STAT_EN, 0, 63), (.DRN_PWR_STAT_PG, 0, 63)]) ∧
    (∃ t, step (sSeq (.held) 100000000 [(.DRN_CLK_STAT_REF_OK, 0, 1)]) = .next t) :=
  ⟨runs (h.1 5 (powered 0 0x10000000 { up := some 5, upAt := 0 } [(.DRN_PWR_STAT_EN, 0, 63)]) (by decide +kernel) (by decide +kernel) (by decide +kernel) (by decide +kernel)),
   runs (h.1 0 (powered 0 0x10000000 { up := some 0, upAt := 0 } [(.DRN_PWR_STAT_EN, 0, 1)]) (by decide +kernel) (by decide +kernel) (by decide +kernel) (by decide +kernel)),
   (h.2.1 (sSeq (.gap) 16777216 [(.DRN_PWR_STAT_EN, 0, 3)]) 0 2 rfl rfl (by decide +kernel) (by decide +kernel) (by decide +kernel) (by decide +kernel)).imp fun _ x => x.1,
   runs (h.2.2.1 (powered 0 0x10000000 { up := some 0, upAt := 0 } [(.DRN_PWR_STAT_EN, 0, 1)]) 0 rfl (by decide +kernel) (by decide +kernel)),
   (h.2.2.2.1 (sSeq (.off .cycle) 16777216 [(.DRN_PWR_STAT_EN, 0, 63)]) .cycle 0 5 rfl rfl (by decide +kernel) (by decide +kernel) (by decide +kernel)).imp fun _ x => x.1,
   (h.2.2.2.2.1 (sSeq (.off (.failed 5 1)) 16777216 []) 5 1 0 rfl (by decide +kernel) rfl (by decide +kernel) (by decide +kernel)).imp fun _ x => x.1,
   (h.2.2.2.2.1 (sSeq (.off (.failed 0 3)) 16777216 []) 0 3 0 rfl (by decide +kernel) rfl (by decide +kernel) (by decide +kernel)).imp fun _ x => x.1,
   runs (h.2.2.2.2.2.1 (powered 0 1000000000 { retry := true } [(.DRN_CLK_STAT_REF_OK, 0, 1)]) (by decide +kernel) (by decide +kernel) (by decide +kernel) (by decide +kernel)),
   runs (h.2.2.2.2.2.2.1 5 (act [(.DRN_PWR_STAT_EN, 0, 63), (.DRN_PWR_STAT_PG, 0, 63)]) (by decide +kernel) (by decide +kernel) (by decide +kernel) (by decide +kernel)),
   (h.2.2.2.2.2.2.2 (sSeq (.held) 100000000 [(.DRN_CLK_STAT_REF_OK, 0, 1)]) 0 rfl rfl (by decide +kernel) (by decide +kernel) (by decide +kernel) (by decide +kernel)).imp fun _ x => x.1⟩

/-- The clauses of Obligations.Thermal at states and operands that meet their hypotheses. -/
theorem witness_Thermal (h : Obligations.Thermal) :
    Runs (.tempSample [16, 32767, -32768]) (act []) ∧
    Runs (.tempSample []) (act []) ∧
    Runs (.fanUpdate) (powered 1 1000000000 { fanSet := true } [(.DRN_FAN_CFG_MODE, 7, 1), (.DRN_FAN_CFG_DUTY, 7, 77)]) ∧
    Runs (.fanUpdate) (powered 1 1000000000 { fanSet := true } [(.DRN_THERM_STAT_TMAX, 0, 0x7FFF)]) ∧
    Runs (.tachMeasure 7 0) (powered 1 1000000000 {} [(.DRN_FAN_STAT_DUTY, 7, 51)]) ∧
    Runs (.tachMeasure 0 70) (powered 1 1000000000 {} [(.DRN_FAN_STAT_DUTY, 7, 51)]) ∧
    Runs (.thermalStop) (powered 1 1000000000 { hot := 3 } []) ∧
    Runs (.thermalStop) (powered 0 1000000000 { hot := 3 } []) ∧
    (∃ t, step (sSeq (.off .thermal) 16777216 []) = .next t) ∧
    Runs (.thermalRestart) (powered 8 1000000000 { coolAt := some 0 } []) ∧
    Runs (.tcritTrip 15) (act []) ∧
    Runs (.tripRestart) (powered 9 0x100000000000 { coolAt := some 0 } []) :=
  ⟨runs (h.1 [16, 32767, -32768] (act []) (by decide +kernel) (by decide +kernel)),
   runs (h.1 [] (act []) (by decide +kernel) (by decide +kernel)),
   runs (h.2.1 (powered 1 1000000000 { fanSet := true } [(.DRN_FAN_CFG_MODE, 7, 1), (.DRN_FAN_CFG_DUTY, 7, 77)]) (by decide +kernel) (by decide +kernel)),
   runs (h.2.1 (powered 1 1000000000 { fanSet := true } [(.DRN_THERM_STAT_TMAX, 0, 0x7FFF)]) (by decide +kernel) (by decide +kernel)),
   runs (h.2.2.1 7 0 (powered 1 1000000000 {} [(.DRN_FAN_STAT_DUTY, 7, 51)]) (by decide +kernel)),
   runs (h.2.2.1 0 70 (powered 1 1000000000 {} [(.DRN_FAN_STAT_DUTY, 7, 51)]) (by decide +kernel)),
   runs (h.2.2.2.1 (powered 1 1000000000 { hot := 3 } []) (by decide +kernel)),
   runs (h.2.2.2.1 (powered 0 1000000000 { hot := 3 } []) (by decide +kernel)),
   (h.2.2.2.2.1 (sSeq (.off .thermal) 16777216 []) 0 rfl rfl (by decide +kernel) (by decide +kernel)).imp fun _ x => x.1,
   runs (h.2.2.2.2.2.1 (powered 8 1000000000 { coolAt := some 0 } []) (by decide +kernel) (by decide +kernel) (by decide +kernel)),
   runs (h.2.2.2.2.2.2.1 15 (act []) (by decide +kernel)),
   runs (h.2.2.2.2.2.2.2 (powered 9 0x100000000000 { coolAt := some 0 } []) (by decide +kernel) (by decide +kernel) (by decide +kernel) (by decide +kernel))⟩

/-- The clauses of Obligations.SelfTestAndDebug at states and operands that meet their hypotheses. -/
theorem witness_SelfTestAndDebug (h : Obligations.SelfTestAndDebug) :
    Runs (.supKick 7) (act []) ∧
    Runs (.fabricTimeout (.core 3) 5 6 0) (run4 []) ∧
    Runs (.fabricTimeout (.dma 23 [] [] none) 5 6 0) (act []) ∧
    Runs (.eventGatherEnd) ({ act [(.HQP_STEWARD_VALID, 0, 1)] with evt := { gathering := true, gathered := 1 } }) ∧
    Runs (.bistTestBlock 2 271) (act []) ∧
    Runs (.periodicBist) ({ act [(.DBG_BIST_CFG_PERIOD_H, 0, 1)] with dbg := { periodic := [17], roundAt := 1000000000 } }) ∧
    Runs (.bistDone true false) ({ act [(.FIRN_STATUS_LSTATE, 0, 3)] with dbg := { test := some (2, 0, true) } }) ∧
    Runs (.bistDone false false) ({ act [(.FIRN_STATUS_LSTATE, 0, 3)] with dbg := { test := some (2, 0, true) } }) ∧
    Runs (.bistWindow false 15 255 65535) (act []) ∧
    (∃ t, step (sSeq (.window true 1 2 0) 200000 []) = .next t) ∧
    Runs (.authChallenge) (act []) ∧
    Runs (.authVerify true) ({ act [] with dbg := { fresh := true } }) ∧
    Runs (.authVerify false) ({ act [(.DBG_AUTH_STAT_FAILS, 0, 2)] with dbg := { fresh := true } }) ∧
    Runs (.authEnd) (act []) :=
  ⟨runs (h.1 7 (act []) (by decide +kernel) (by decide +kernel) (by decide +kernel) (by decide +kernel)),
   runs (h.2.1 (.core 3) 5 6 0 (run4 []) (by decide +kernel)),
   runs (h.2.1 (.dma 23 [] [] none) 5 6 0 (act []) (by decide +kernel)),
   runs (h.2.2.1 ({ act [(.HQP_STEWARD_VALID, 0, 1)] with evt := { gathering := true, gathered := 1 } }) (by decide +kernel) (by decide +kernel) (by decide +kernel) (by decide +kernel)),
   runs (h.2.2.2.1 2 271 (act []) (by decide +kernel) (by decide +kernel) (by decide +kernel) (by decide +kernel) (by decide +kernel)),
   runs (h.2.2.2.2.1 ({ act [(.DBG_BIST_CFG_PERIOD_H, 0, 1)] with dbg := { periodic := [17], roundAt := 1000000000 } }) 17 [] [] (by decide +kernel) (by decide +kernel) (by decide +kernel) rfl (by decide +kernel) (by decide +kernel)),
   runs (h.2.2.2.2.2.1 true false ({ act [(.FIRN_STATUS_LSTATE, 0, 3)] with dbg := { test := some (2, 0, true) } }) 2 0 true rfl (by decide +kernel)),
   runs (h.2.2.2.2.2.1 false false ({ act [(.FIRN_STATUS_LSTATE, 0, 3)] with dbg := { test := some (2, 0, true) } }) 2 0 true rfl (by decide +kernel)),
   runs (h.2.2.2.2.2.2.1 false 15 255 65535 (act []) (by decide +kernel) (by decide +kernel) (by decide +kernel) (by decide +kernel) (by decide +kernel)),
   (h.2.2.2.2.2.2.2.1 true 1 2 0 0 (sSeq (.window true 1 2 0) 200000 []) rfl rfl (by decide +kernel)).imp fun _ x => x.1,
   runs (h.2.2.2.2.2.2.2.2.1 (act []) (by decide +kernel)),
   runs (h.2.2.2.2.2.2.2.2.2.1 true ({ act [] with dbg := { fresh := true } }) (by decide +kernel) (by decide +kernel)),
   runs (h.2.2.2.2.2.2.2.2.2.1 false ({ act [(.DBG_AUTH_STAT_FAILS, 0, 2)] with dbg := { fresh := true } }) (by decide +kernel) (by decide +kernel)),
   runs (h.2.2.2.2.2.2.2.2.2.2 (act []))⟩

def rMemScrub : RegEntry := { reg := .MEM_SCRUB_CFG, flds := [.MEM_SCRUB_CFG_DRAM_H, .MEM_SCRUB_CFG_SRAM_S] }
set_option maxRecDepth 20000 in
theorem find_rMemScrub : findReg 0x380018 = some (rMemScrub, 0, 0) := rfl

/-- The clauses of Obligations.RegisterReads at states and operands that meet their hypotheses. -/
theorem witness_RegisterReads (h : Obligations.RegisterReads) :
    Runs (.registerRead 0x380018) (act []) ∧
    Runs (.registerRead 0x2000000) (act []) ∧
    Runs (.registerRead 0x380018) (act []) :=
  ⟨runs (h.1 0x380018 (act []) (by decide +kernel) (by decide +kernel) (by decide +kernel) (by decide +kernel)),
   runs (h.2.1 0x2000000 (act []) (by decide +kernel) (by decide +kernel) (by decide +kernel) (by decide +kernel) (by decide +kernel)),
   runs (h.2.2 0x380018 (act []) rMemScrub 0 0 (by decide +kernel) (by decide +kernel) (by decide +kernel) find_rMemScrub)⟩

/-- The clauses of Obligations.RegisterWrites at states and operands that meet their hypotheses. -/
theorem witness_RegisterWrites (h : Obligations.RegisterWrites) :
    Runs (.registerWrite 0x380018 0x00010002 15) (act []) ∧
    Runs (.registerWrite 0x380018 5 14) (act []) :=
  ⟨runs (h.1 0x380018 0x00010002 (act []) rMemScrub 0 0 (by decide +kernel) (by decide +kernel) (by decide +kernel) find_rMemScrub rfl rfl rfl (by decide +kernel) (by decide +kernel) (by decide +kernel) (fun _ _ => rfl) (by decide +kernel)),
   runs (h.2 0x380018 5 14 (act []) (by decide +kernel) (by decide +kernel) (by decide +kernel) (by decide +kernel) (by decide +kernel))⟩

/-- The clauses of Obligations.PinsAndSideband at states and operands that meet their hypotheses. -/
theorem witness_PinsAndSideband (h : Obligations.PinsAndSideband) :
    Runs (.gpioEdge 31 true) (act []) ∧
    Runs (.gpioEdge 0 false) (act []) ∧
    Runs (.gpioSet 0xFFFFFFFF) (act [(.DRN_GPIO_OE_GPIO, 0, 1)]) ∧
    Runs (.gpioClr 1) (act [(.DRN_GPIO_OE_GPIO, 0, 0xFFFFFFFF)]) ∧
    Runs (.attentionWrite 255) (act []) ∧
    Runs (.attentionWrite 0) (st [(.DRN_PSTAT_STATE, 0, 3)]) ∧
    Runs (.partnerWake 63) (act [(.PEN_STATUS_PSTATE, 63, 8)]) ∧
    Runs (.partnerWake 0) (st [(.DRN_PSTAT_STATE, 0, 3), (.PEN_STATUS_PSTATE, 0, 8)]) ∧
    Runs (.hostLinkUp 3 8 5) (act []) ∧
    Runs (.hostLinkUp 0 1 3) (act []) ∧
    Runs (.mctpStatus) (act []) ∧
    Runs (.mctpReadRegister 0x380018) (act []) ∧
    Runs (.mctpTelemetry 65535) (act []) ∧
    Runs (.mctpLogEntries 0 255) (act []) ∧
    Runs (.mctpControl [1]) (act []) ∧
    Runs (.mctpStatus) (st []) :=
  ⟨runs (h.1 31 true (act [])),
   runs (h.1 0 false (act [])),
   runs (h.2.1 0xFFFFFFFF (act [(.DRN_GPIO_OE_GPIO, 0, 1)]) (by decide +kernel)),
   runs (h.2.2.1 1 (act [(.DRN_GPIO_OE_GPIO, 0, 0xFFFFFFFF)]) (by decide +kernel)),
   runs (h.2.2.2.1 255 (act []) (by decide +kernel) (by decide +kernel) (by decide +kernel)),
   runs (h.2.2.2.1 0 (st [(.DRN_PSTAT_STATE, 0, 3)]) (by decide +kernel) (by decide +kernel) (by decide +kernel)),
   runs (h.2.2.2.2.1 63 (act [(.PEN_STATUS_PSTATE, 63, 8)]) (by decide +kernel)),
   runs (h.2.2.2.2.1 0 (st [(.DRN_PSTAT_STATE, 0, 3), (.PEN_STATUS_PSTATE, 0, 8)]) (by decide +kernel)),
   runs (h.2.2.2.2.2.1 3 8 5 (act []) (by decide +kernel) (by decide +kernel) (by decide +kernel) (by decide +kernel) (by decide +kernel)),
   runs (h.2.2.2.2.2.1 0 1 3 (act []) (by decide +kernel) (by decide +kernel) (by decide +kernel) (by decide +kernel) (by decide +kernel)),
   runs ((h.2.2.2.2.2.2.1 (act []) (by decide +kernel)).1),
   runs ((h.2.2.2.2.2.2.1 (act []) (by decide +kernel)).2.1 0x380018),
   runs ((h.2.2.2.2.2.2.1 (act []) (by decide +kernel)).2.2.1 65535),
   runs ((h.2.2.2.2.2.2.1 (act []) (by decide +kernel)).2.2.2.1 0 255),
   runs ((h.2.2.2.2.2.2.1 (act []) (by decide +kernel)).2.2.2.2 [1]),
   runs (h.2.2.2.2.2.2.2 (st []) (by decide +kernel))⟩

/-- The clauses of Obligations.Stewardship at states and operands that meet their hypotheses. -/
theorem witness_Stewardship (h : Obligations.Stewardship) :
    Runs (.claim 192) (act [(.FN_CLAIM_TOKEN_TOKEN, 192, 1)]) ∧
    Runs (.standby 192) (act [(.FN_CLAIM_TOKEN_TOKEN, 192, 1)]) ∧
    Runs (.release 192) (act [(.HQP_STEWARD_VALID, 0, 1), (.HQP_STEWARD_STEWARD_FN, 0, 192)]) ∧
    Runs (.release 192) (act [(.HQP_STEWARD_VALID, 0, 1), (.HQP_STEWARD_STEWARD_FN, 0, 192), (.HQP_STEWARD_STANDBY_VALID, 0, 1), (.HQP_STEWARD_STANDBY_FN, 0, 64), (.HQP_STANDBY_TOKEN_TOKEN, 0, 1)]) ∧
    Runs (.heartbeat 192) (act [(.HQP_STEWARD_VALID, 0, 1), (.HQP_STEWARD_STEWARD_FN, 0, 192)]) ∧
    Runs (.stewardHbTimeout) ({ (act [(.HQP_STEWARD_CFG_HB_MS, 0, 100), (.HQP_STEWARD_VALID, 0, 1), (.HQP_STEWARD_STEWARD_FN, 0, 192)]) with time := { now := 0x100000000000 } }) ∧
    Runs (.bar4AccessDenied 0 false) (act [(.HQP_STEWARD_VALID, 0, 1), (.HQP_STEWARD_STEWARD_FN, 0, 192)]) ∧
    Runs (.bar4AccessDenied 255 true) (act [(.HQP_STEWARD_VALID, 0, 1), (.HQP_STEWARD_STEWARD_FN, 0, 192)]) :=
  ⟨runs (h.1 192 (act [(.FN_CLAIM_TOKEN_TOKEN, 192, 1)]) (by decide +kernel) (by decide +kernel) (by decide +kernel) (by decide +kernel) (by decide +kernel)),
   runs (h.2.1 192 (act [(.FN_CLAIM_TOKEN_TOKEN, 192, 1)]) (by decide +kernel) (by decide +kernel) (by decide +kernel) (by decide +kernel) (by decide +kernel)),
   runs (h.2.2.1 192 (act [(.HQP_STEWARD_VALID, 0, 1), (.HQP_STEWARD_STEWARD_FN, 0, 192)]) (by decide +kernel) (by decide +kernel) (by decide +kernel) (by decide +kernel)),
   runs (h.2.2.1 192 (act [(.HQP_STEWARD_VALID, 0, 1), (.HQP_STEWARD_STEWARD_FN, 0, 192), (.HQP_STEWARD_STANDBY_VALID, 0, 1), (.HQP_STEWARD_STANDBY_FN, 0, 64), (.HQP_STANDBY_TOKEN_TOKEN, 0, 1)]) (by decide +kernel) (by decide +kernel) (by decide +kernel) (by decide +kernel)),
   runs (h.2.2.2.1 192 (act [(.HQP_STEWARD_VALID, 0, 1), (.HQP_STEWARD_STEWARD_FN, 0, 192)]) (by decide +kernel) (by decide +kernel) (by decide +kernel) (by decide +kernel)),
   runs (h.2.2.2.2.1 ({ (act [(.HQP_STEWARD_CFG_HB_MS, 0, 100), (.HQP_STEWARD_VALID, 0, 1), (.HQP_STEWARD_STEWARD_FN, 0, 192)]) with time := { now := 0x100000000000 } }) (by decide +kernel) (by decide +kernel) (by decide +kernel) (by decide +kernel)),
   runs (h.2.2.2.2.2 0 false (act [(.HQP_STEWARD_VALID, 0, 1), (.HQP_STEWARD_STEWARD_FN, 0, 192)]) (by decide +kernel) (by decide +kernel)),
   runs (h.2.2.2.2.2 255 true (act [(.HQP_STEWARD_VALID, 0, 1), (.HQP_STEWARD_STEWARD_FN, 0, 192)]) (by decide +kernel) (by decide +kernel))⟩

/-- Function 255 is enabled, with the live queue pair 1; a descriptor of it has been asked for. -/
def sRing : State := hosted { fnx := [(255, { scanDue := true })], qps := [(qpKey 255 1, { live := true, ver := 3, kinds := [false] })] } [(.FN_STAT_RDY, 255, 1)]
def sFetch : State := hosted { qps := [(qpKey 255 1, { live := true, ver := 3, tail := 1 })], fetch := [(3, { issued := some (255, 1, 1000000000) })] } [(.FN_STAT_RDY, 255, 1), (.HQP_FN_TAGQ_TAG_QUOTA, 255, 1), (.HQP_FN_CFG_WEIGHT, 255, 1)]
def sPosted : State := hosted { qps := [(qpKey 255 1, { live := true, cqBase := 4096 })], merge := [{ fn := 255, qpid := 1, tag := 7, ver := 1 }] } []
def sSignal (m : Nat) : State := hosted { qps := [(qpKey 255 1, { live := true, unsignalled := 1, vector := 63 })], msix := [(msixKey 255 1020, m)] } []

/-- The clauses of Obligations.RingsAndDescriptors at states and operands that meet their hypotheses. -/
theorem witness_RingsAndDescriptors (h : Obligations.RingsAndDescriptors) :
    Runs (.fnEnable 255 7 (some [4096])) (act [(.FN_DB_TBL_CFG_PAGES, 255, 1)]) ∧
    Runs (.fnEnable 0 0 none) (act []) ∧
    Runs (.fnEnable 255 1 none) (act [(.FN_DB_TBL_CFG_PAGES, 255, 1)]) ∧
    Runs (.doorbellScan 255 [(1, 16, 1)]) sRing ∧
    Runs (.descriptorFetched 255 1 { opcode := 1, count := 1 }) sFetch ∧
    Runs (.descriptorFetched 255 1 { opcode := 0x7F }) sFetch ∧
    Runs (.fetchTimeout 255 1 true) sFetch ∧
    Runs (.fetchTimeout 255 1 false) ({ sFetch with time := { now := 0x100000000000 } }) ∧
    Runs (.completionWrite 3) sPosted ∧
    Runs (.coalesceTimeout 255 1) (sSignal 0) ∧
    Runs (.coalesceTimeout 255 1) (sSignal 1) :=
  ⟨runs (h.1 255 7 (some [4096]) (act [(.FN_DB_TBL_CFG_PAGES, 255, 1)]) (by decide +kernel) (by decide +kernel) (by decide +kernel) (by decide +kernel)),
   runs (h.1 0 0 none (act []) (by decide +kernel) (by decide +kernel) (by decide +kernel) (by decide +kernel)),
   runs (h.1 255 1 none (act [(.FN_DB_TBL_CFG_PAGES, 255, 1)]) (by decide +kernel) (by decide +kernel) (by decide +kernel) (by decide +kernel)),
   runs (h.2.1 255 1 16 1 sRing (by decide +kernel) (by decide +kernel) (by decide +kernel) (by decide +kernel) (by decide +kernel)),
   runs (h.2.2.1 255 1 { opcode := 1, count := 1 } sFetch (by decide +kernel)),
   runs (h.2.2.1 255 1 { opcode := 0x7F } sFetch (by decide +kernel)),
   runs (h.2.2.2.1 255 1 true false sFetch (by decide +kernel) (by decide +kernel)),
   runs (h.2.2.2.1 255 1 false true ({ sFetch with time := { now := 0x100000000000 } }) (by decide +kernel) (by decide +kernel)),
   runs (h.2.2.2.2.1 3 sPosted { fn := 255, qpid := 1, tag := 7, ver := 1 } [] rfl (by decide +kernel)),
   runs (h.2.2.2.2.2 255 1 (sSignal 0) (by decide +kernel) (by decide +kernel) (by decide +kernel)),
   runs (h.2.2.2.2.2 255 1 (sSignal 1) (by decide +kernel) (by decide +kernel) (by decide +kernel))⟩

/-- The clauses of Obligations.FunctionStops at states and operands that meet their hypotheses. -/
theorem witness_FunctionStops (h : Obligations.FunctionStops) :
    Runs (.hostPortReset 3) (act [(.HQP_PORT_UP, 3, 1)]) ∧
    Runs (.functionLevelReset 255) (act []) ∧
    Runs (.busMasterClear 0) (act []) ∧
    Runs (.fnDisable 255) (act []) ∧
    Runs (.functionStopDone 255) (hosted { fnx := [(255, { stopping := true, fencePending := true })] } []) ∧
    Runs (.fenceFunction 255) (act []) ∧
    Runs (.fenceFunction 255) (hosted { fnx := [(255, { stopping := true, fencePending := true })] } []) ∧
    Runs (.fencePort 3) (act []) ∧
    Runs (.unfenceFunction 255) (act [(.HQP_FN_STAT_FENCED, 255, 1)]) ∧
    Runs (.unfencePort 0) (act [(.HQP_FN_STAT_FENCED, 0, 1)]) :=
  ⟨runs (h.1 3 (act [(.HQP_PORT_UP, 3, 1)])),
   runs (h.2.1 255 (act [])),
   runs (h.2.2.1 0 (act [])),
   runs (h.2.2.2.1 255 (act []) (by decide +kernel)),
   runs (h.2.2.2.2.1 255 (hosted { fnx := [(255, { stopping := true, fencePending := true })] } []) (by decide +kernel)),
   runs (h.2.2.2.2.2.1 255 (act []) (by decide +kernel) (by decide +kernel) (by decide +kernel)),
   runs (h.2.2.2.2.2.1 255 (hosted { fnx := [(255, { stopping := true, fencePending := true })] } []) (by decide +kernel) (by decide +kernel) (by decide +kernel)),
   runs (h.2.2.2.2.2.2.1 3 (act []) (by decide +kernel) (by decide +kernel) (by decide +kernel)),
   runs (h.2.2.2.2.2.2.2.1 255 (act [(.HQP_FN_STAT_FENCED, 255, 1)]) (by decide +kernel) (by decide +kernel)),
   runs (h.2.2.2.2.2.2.2.2 0 (act [(.HQP_FN_STAT_FENCED, 0, 1)]) (by decide +kernel) (by decide +kernel) (by decide +kernel))⟩

/-- The clauses of Obligations.AdminReads at states and operands that meet their hypotheses. -/
theorem witness_AdminReads (h : Obligations.AdminReads) :
    Runs (.identify 0 7 .done) (admin 0 { opcode := 128, spec := 0, tag := 7 } []) ∧
    Runs (.identify 0 7 .done) (admin 0 { opcode := 128, spec := 1, tag := 7 } []) ∧
    Runs (.identify 0 7 .done) (admin 0 { opcode := 128, spec := 2, tag := 7 } []) ∧
    Runs (.identify 0 7 .done) (admin 0 { opcode := 128, spec := 0x10003, tag := 7 } []) ∧
    Runs (.getLog 0 7 .done) (admin 0 { opcode := 129, spec := 1, tag := 7, count := 64 } []) ∧
    Runs (.getLog 0 7 .done) (admin 0 { opcode := 129, spec := 2, tag := 7, count := 64 } []) ∧
    Runs (.getLog 0 7 .done) (admin 0 { opcode := 129, spec := 3, tag := 7, count := 64 } []) ∧
    Runs (.getFeature 0 7 .done) (admin 0 { opcode := 131, spec := 1, tag := 7, count := 128 } []) ∧
    Runs (.getFeature 0 7 .done) (admin 0 { opcode := 131, spec := 2, tag := 7, count := 128 } []) ∧
    Runs (.getFeature 0 7 .done) (hosted { cmds := [ctxOf 0 0 { opcode := 0x83, spec := 0x010010, tag := 7 }], qps := [(1, { live := true })] } []) ∧
    Runs (.calibSave 0 7 .done) (admin 0 { opcode := 137, spec := 0, tag := 7, count := 32 } []) ∧
    Runs (.calibSave 0 7 .done) (admin 0 { opcode := 137, spec := 0, tag := 7, count := 31 } []) :=
  ⟨runs (h.1 0 7 (admin 0 { opcode := 128, spec := 0, tag := 7 } []) (ctxOf 0 0 { opcode := 128, spec := 0, tag := 7 }) ⟨by decide +kernel, rfl, rfl⟩),
   runs (h.1 0 7 (admin 0 { opcode := 128, spec := 1, tag := 7 } []) (ctxOf 0 0 { opcode := 128, spec := 1, tag := 7 }) ⟨by decide +kernel, rfl, rfl⟩),
   runs (h.1 0 7 (admin 0 { opcode := 128, spec := 2, tag := 7 } []) (ctxOf 0 0 { opcode := 128, spec := 2, tag := 7 }) ⟨by decide +kernel, rfl, rfl⟩),
   runs (h.1 0 7 (admin 0 { opcode := 128, spec := 0x10003, tag := 7 } []) (ctxOf 0 0 { opcode := 128, spec := 0x10003, tag := 7 }) ⟨by decide +kernel, rfl, rfl⟩),
   runs (h.2.1 0 7 (admin 0 { opcode := 129, spec := 1, tag := 7, count := 64 } []) (ctxOf 0 0 { opcode := 129, spec := 1, tag := 7, count := 64 }) ⟨by decide +kernel, rfl, rfl⟩ (by decide +kernel) (by decide +kernel)),
   runs (h.2.1 0 7 (admin 0 { opcode := 129, spec := 2, tag := 7, count := 64 } []) (ctxOf 0 0 { opcode := 129, spec := 2, tag := 7, count := 64 }) ⟨by decide +kernel, rfl, rfl⟩ (by decide +kernel) (by decide +kernel)),
   runs (h.2.1 0 7 (admin 0 { opcode := 129, spec := 3, tag := 7, count := 64 } []) (ctxOf 0 0 { opcode := 129, spec := 3, tag := 7, count := 64 }) ⟨by decide +kernel, rfl, rfl⟩ (by decide +kernel) (by decide +kernel)),
   runs (h.2.2.1 0 7 (admin 0 { opcode := 131, spec := 1, tag := 7, count := 128 } []) (ctxOf 0 0 { opcode := 131, spec := 1, tag := 7, count := 128 }) ⟨by decide +kernel, rfl, rfl⟩ (by decide +kernel)),
   runs (h.2.2.1 0 7 (admin 0 { opcode := 131, spec := 2, tag := 7, count := 128 } []) (ctxOf 0 0 { opcode := 131, spec := 2, tag := 7, count := 128 }) ⟨by decide +kernel, rfl, rfl⟩ (by decide +kernel)),
   runs (h.2.2.1 0 7 (hosted { cmds := [ctxOf 0 0 { opcode := 0x83, spec := 0x010010, tag := 7 }], qps := [(1, { live := true })] } []) (ctxOf 0 0 { opcode := 0x83, spec := 0x010010, tag := 7 }) ⟨by decide +kernel, rfl, rfl⟩ (by decide +kernel)),
   runs (h.2.2.2 0 7 (admin 0 { opcode := 137, spec := 0, tag := 7, count := 32 } []) (ctxOf 0 0 { opcode := 137, spec := 0, tag := 7, count := 32 }) ⟨by decide +kernel, rfl, rfl⟩ (by decide +kernel)),
   runs (h.2.2.2 0 7 (admin 0 { opcode := 137, spec := 0, tag := 7, count := 31 } []) (ctxOf 0 0 { opcode := 137, spec := 0, tag := 7, count := 31 }) ⟨by decide +kernel, rfl, rfl⟩ (by decide +kernel))⟩

def feature (fid k x v : Nat) (n : Nat) : Desc := { opcode := 0x82, spec := fid + k * 2 ^ 8 + x * 2 ^ 16 + v * 2 ^ 32, count := n, tag := 7 }
def restore (scope n : Nat) : Desc := { opcode := 0x8A, spec := scope, count := n, tag := 7 }
/-- The calibration image of a mechanism without valid items. -/
def saved : List Nat := State.reset.calImage 1 0

theorem bytes_lt (r : List Nat) : ∀ b ∈ r.flatMap (leBytes 4), b < 256 := by
  intro b hb
  obtain ⟨v, _, h⟩ := List.mem_flatMap.1 hb
  simp [leBytes] at h
  omega

/-- The clauses of Obligations.FeaturesSet at states and operands that meet their hypotheses. -/
theorem witness_FeaturesSet (h : Obligations.FeaturesSet) :
    Runs (.setFeature 0 7 [] .done) (admin 0 (feature 99 0 0 0 0) []) ∧
    Runs (.setFeature 0 7 ((seqDefault 7).flatMap (leBytes 4)) .done) (admin 0 (feature 1 7 0 0 128) []) ∧
    Runs (.setFeature 0 7 (List.replicate 128 255) .done) (admin 0 (feature 1 0 0 0 128) []) ∧
    Runs (.setFeature 0 7 ((driveDefault 7).flatMap (leBytes 4)) .done) (admin 0 (feature 2 7 0 0 128) []) ∧
    Runs (.setFeature 0 7 (List.replicate 384 0) .done) (admin 0 (feature 3 0 2 0 384) []) ∧
    Runs (.setFeature 0 7 (List.replicate 4400 0) .done) (admin 0 (feature 4 0 0 0 4400) []) ∧
    Runs (.setFeature 0 7 (commDefault.flatMap (leBytes 4)) .done) (admin 0 (feature 5 0 0x107 0 512) []) ∧
    Runs (.setFeature 0 7 (List.replicate 512 0) .done) (admin 0 (feature 5 0 0x100 0 512) []) ∧
    Runs (.setFeature 0 7 [] .done) (hosted { cmds := [ctxOf 0 0 (feature 16 0 1 0x050004 0)], qps := [(1, { live := true })] } []) ∧
    Runs (.setFeature 0 7 ([1] ++ zeros 15 ++ List.replicate 32 1 ++ zeros 32) .done) (admin 0 (feature 32 0 5 0 80) [(.HQP_FN_KEYS_BASE, 0, 5), (.HQP_FN_KEYS_COUNT, 0, 1)]) ∧
    Runs (.calibRestore 0 7 [] .done) (admin 0 (restore 0 0) []) ∧
    Runs (.calibRestore 0 7 saved .done) (admin 0 (restore 1 saved.length) []) :=
  ⟨runs (h.1 0 7 [] (admin 0 (feature 99 0 0 0 0) []) (ctxOf 0 0 (feature 99 0 0 0 0)) ⟨by decide +kernel, rfl, rfl⟩ (by decide +kernel)),
   runs (h.2.1 0 7 ((seqDefault 7).flatMap (leBytes 4)) (admin 0 (feature 1 7 0 0 128) []) (ctxOf 0 0 (feature 1 7 0 0 128)) ⟨by decide +kernel, rfl, rfl⟩ (by decide +kernel) (by decide +kernel) (bytes_lt _)),
   runs (h.2.1 0 7 (List.replicate 128 255) (admin 0 (feature 1 0 0 0 128) []) (ctxOf 0 0 (feature 1 0 0 0 128)) ⟨by decide +kernel, rfl, rfl⟩ (by decide +kernel) (by decide +kernel) (fun b hb => by rw [List.eq_of_mem_replicate hb]; decide)),
   runs (h.2.1 0 7 ((driveDefault 7).flatMap (leBytes 4)) (admin 0 (feature 2 7 0 0 128) []) (ctxOf 0 0 (feature 2 7 0 0 128)) ⟨by decide +kernel, rfl, rfl⟩ (by decide +kernel) (by decide +kernel) (bytes_lt _)),
   runs (h.2.1 0 7 (List.replicate 384 0) (admin 0 (feature 3 0 2 0 384) []) (ctxOf 0 0 (feature 3 0 2 0 384)) ⟨by decide +kernel, rfl, rfl⟩ (by decide +kernel) (by decide +kernel) (fun b hb => by rw [List.eq_of_mem_replicate hb]; decide)),
   runs (h.2.1 0 7 (List.replicate 4400 0) (admin 0 (feature 4 0 0 0 4400) []) (ctxOf 0 0 (feature 4 0 0 0 4400)) ⟨by decide +kernel, rfl, rfl⟩ (by decide +kernel) (by decide +kernel) (fun b hb => by rw [List.eq_of_mem_replicate hb]; decide)),
   runs (h.2.1 0 7 (commDefault.flatMap (leBytes 4)) (admin 0 (feature 5 0 0x107 0 512) []) (ctxOf 0 0 (feature 5 0 0x107 0 512)) ⟨by decide +kernel, rfl, rfl⟩ (by decide +kernel) (by decide +kernel) (bytes_lt _)),
   runs (h.2.1 0 7 (List.replicate 512 0) (admin 0 (feature 5 0 0x100 0 512) []) (ctxOf 0 0 (feature 5 0 0x100 0 512)) ⟨by decide +kernel, rfl, rfl⟩ (by decide +kernel) (by decide +kernel) (fun b hb => by rw [List.eq_of_mem_replicate hb]; decide)),
   runs (h.2.1 0 7 [] (hosted { cmds := [ctxOf 0 0 (feature 16 0 1 0x050004 0)], qps := [(1, { live := true })] } []) (ctxOf 0 0 (feature 16 0 1 0x050004 0)) ⟨by decide +kernel, rfl, rfl⟩ (by decide +kernel) (by decide +kernel) (by decide +kernel)),
   runs (h.2.1 0 7 ([1] ++ zeros 15 ++ List.replicate 32 1 ++ zeros 32) (admin 0 (feature 32 0 5 0 80) [(.HQP_FN_KEYS_BASE, 0, 5), (.HQP_FN_KEYS_COUNT, 0, 1)]) (ctxOf 0 0 (feature 32 0 5 0 80)) ⟨by decide +kernel, rfl, rfl⟩ (by decide +kernel) (by decide +kernel) (by decide +kernel)),
   runs (h.2.2 0 7 [] (admin 0 (restore 0 0) []) (ctxOf 0 0 (restore 0 0)) ⟨by decide +kernel, rfl, rfl⟩ (by decide +kernel) (by decide +kernel)),
   runs (h.2.2 0 7 saved (admin 0 (restore 1 saved.length) []) (ctxOf 0 0 (restore 1 saved.length)) ⟨by decide +kernel, rfl, rfl⟩ (by decide +kernel) (by decide +kernel))⟩

theorem forPair {P : Nat → Prop} (a : P 4094) (b : P 4095) : ∀ n, 4094 ≤ n → n < 4094 + 2 → P n := fun n h k => by
  obtain rfl | rfl : n = 4094 ∨ n = 4095 := by omega
  · exact a
  · exact b

/-- The clauses of Obligations.QueueAndLeases at states and operands that meet their hypotheses. -/
theorem witness_QueueAndLeases (h : Obligations.QueueAndLeases) :
    Runs (.createQp 0 7) (hosted { cmds := [ctxOf 0 0 { opcode := 0x86, spec := 1 + 4 * 2 ^ 16 + 16 * 2 ^ 24 + 2047 * 2 ^ 32 + 256 * 2 ^ 48 + 3 * 2 ^ 72, tag := 7 }], fnx := [(0, { dbPages := [0] })] } [(.HQP_FN_CFG_QP_QUOTA, 0, 2)]) ∧
    Runs (.deleteQp 0 7) (hosted { cmds := [ctxOf 0 0 { opcode := 0x87, spec := 65535, tag := 7 }], qps := [(65535, { live := true })] } []) ∧
    Runs (.deleteQp 0 7) (hosted { cmds := [ctxOf 0 0 { opcode := 0x87, spec := 65535, tag := 7 }, ctxOf 0 65535 { opcode := 1 }], qps := [(65535, { live := true })] } []) ∧
    Runs (.lease 0 7) (admin 0 { opcode := 0x88, spec := 255 + 1 * 256, mn := 4094, count := 2, tag := 7 } []) ∧
    Runs (.lease 0 7) (admin 0 { opcode := 0x88, spec := 255 + 3 * 256, mn := 4094, count := 2, tag := 7 } []) ∧
    Runs (.lease 0 7) (admin 0 { opcode := 0x88, spec := 255 + 0 * 256, mn := 4094, count := 2, tag := 7 } [(.HQP_LEASE_VALID, 4095, 1), (.HQP_LEASE_FN, 4095, 255), (.HQP_LEASE_MODE, 4095, 3)]) :=
  ⟨runs (h.1 0 7 (hosted { cmds := [ctxOf 0 0 { opcode := 0x86, spec := 1 + 4 * 2 ^ 16 + 16 * 2 ^ 24 + 2047 * 2 ^ 32 + 256 * 2 ^ 48 + 3 * 2 ^ 72, tag := 7 }], fnx := [(0, { dbPages := [0] })] } [(.HQP_FN_CFG_QP_QUOTA, 0, 2)]) (ctxOf 0 0 { opcode := 0x86, spec := 1 + 4 * 2 ^ 16 + 16 * 2 ^ 24 + 2047 * 2 ^ 32 + 256 * 2 ^ 48 + 3 * 2 ^ 72, tag := 7 }) ⟨by decide +kernel, rfl, rfl⟩ (by decide +kernel) (by decide +kernel) (by decide +kernel) (by decide +kernel) (by decide +kernel) (by decide +kernel) (by decide +kernel) (by decide +kernel) (by decide +kernel) (by decide +kernel) (by decide +kernel) (by decide +kernel)),
   runs (h.2.1 0 7 (hosted { cmds := [ctxOf 0 0 { opcode := 0x87, spec := 65535, tag := 7 }], qps := [(65535, { live := true })] } []) (ctxOf 0 0 { opcode := 0x87, spec := 65535, tag := 7 }) ⟨by decide +kernel, rfl, rfl⟩ (by decide +kernel) (by decide +kernel) (by decide +kernel)),
   runs (h.2.1 0 7 (hosted { cmds := [ctxOf 0 0 { opcode := 0x87, spec := 65535, tag := 7 }, ctxOf 0 65535 { opcode := 1 }], qps := [(65535, { live := true })] } []) (ctxOf 0 0 { opcode := 0x87, spec := 65535, tag := 7 }) ⟨by decide +kernel, rfl, rfl⟩ (by decide +kernel) (by decide +kernel) (by decide +kernel)),
   runs (h.2.2 0 7 (admin 0 { opcode := 0x88, spec := 255 + 1 * 256, mn := 4094, count := 2, tag := 7 } []) (ctxOf 0 0 { opcode := 0x88, spec := 255 + 1 * 256, mn := 4094, count := 2, tag := 7 }) ⟨by decide +kernel, rfl, rfl⟩ (by decide +kernel) (by decide +kernel) (Or.inr (forPair (by decide +kernel) (by decide +kernel)))),
   runs (h.2.2 0 7 (admin 0 { opcode := 0x88, spec := 255 + 3 * 256, mn := 4094, count := 2, tag := 7 } []) (ctxOf 0 0 { opcode := 0x88, spec := 255 + 3 * 256, mn := 4094, count := 2, tag := 7 }) ⟨by decide +kernel, rfl, rfl⟩ (by decide +kernel) (by decide +kernel) (Or.inr (forPair (by decide +kernel) (by decide +kernel)))),
   runs (h.2.2 0 7 (admin 0 { opcode := 0x88, spec := 255 + 0 * 256, mn := 4094, count := 2, tag := 7 } [(.HQP_LEASE_VALID, 4095, 1), (.HQP_LEASE_FN, 4095, 255), (.HQP_LEASE_MODE, 4095, 3)]) (ctxOf 0 0 { opcode := 0x88, spec := 255 + 0 * 256, mn := 4094, count := 2, tag := 7 }) ⟨by decide +kernel, rfl, rfl⟩ (by decide +kernel) (by decide +kernel) (Or.inl (by decide +kernel)))⟩

/-- An admin command, with this firmware state. -/
def fwState (f : FwState) (d : Desc) (l : List (Fld × Nat × Nat)) : State := { admin 0 d l with fw := f }
def img (v k : Nat) : FwImage := { version := v, compat := k }
def bImg : BfwImage := { gen := 2, version := 5, bytes := 4, crc := crc32c [1, 2, 3, 4] }
def fan : FwState := { package := some { version := 9, bridges := [bImg] } }

/-- The clauses of Obligations.Firmware at states and operands that meet their hypotheses. -/
theorem witness_Firmware (h : Obligations.Firmware) :
    Runs (.fwDownload 0 7 .done) (fwState {} { opcode := 0x84, lba := 0, count := 64, tag := 7, spec := 0 } []) ∧
    Runs (.fwDownload 0 7 .done) (fwState { staged := 125829056 } { opcode := 0x84, lba := 125829056, count := 64, tag := 7, spec := 0 } []) ∧
    Runs (.fwCommit 0 7 (img 2 0) true) (fwState { staged := 1 } { opcode := 0x85, spec := 1, tag := 7 } []) ∧
    Runs (.fwCommit 0 7 (img 2 0) true) (fwState { staged := 1, stagedComp := 1 } { opcode := 0x85, spec := 1, tag := 7 } []) ∧
    Runs (.fwCommit 0 7 (img 2 0) false) (fwState { staged := 1 } { opcode := 0x85, spec := 1, tag := 7 } []) ∧
    Runs (.fwCommit 0 7 (img 2 0) true) (fwState {} { opcode := 0x85, spec := 1, tag := 7 } []) ∧
    Runs (.fwCommitActivate 0 7 (img 2 2) true) (fwState { staged := 1, running := 1 } { opcode := 0x85, spec := 2, tag := 7 } []) ∧
    Runs (.fwCommitActivate 0 7 (img 2 2) true) (fwState { staged := 1, running := 3 } { opcode := 0x85, spec := 2, tag := 7 } []) ∧
    Runs (.fwActivate 0 7) (fwState { running := 2, slots := [(1, some (img 2 2))] } { opcode := 0x85, spec := 3 + 256, tag := 7 } []) ∧
    Runs (.liveUpdateStep) (fwState { act := some { cmd := some (0, 7), slot := 1, image := img 2 2 }, recs := [(0, some {})] } { opcode := 0x85, spec := 2, tag := 7 } [(.DBG_UPD_STAT_PHASE, 0, 1)]) ∧
    Runs (.liveUpdateStep) (fwState { act := some { cmd := some (0, 7), slot := 1, image := img 2 2 }, recs := [(0, some {})] } { opcode := 0x85, spec := 2, tag := 7 } [(.DBG_UPD_STAT_PHASE, 0, 2)]) ∧
    Runs (.liveUpdateStep) (fwState { act := some { cmd := some (0, 7), slot := 1, image := img 2 2 }, recs := [(0, some {})] } { opcode := 0x85, spec := 2, tag := 7 } [(.DBG_UPD_STAT_PHASE, 0, 5)]) ∧
    Runs (.trialConfirm) ({ fwState { trialFrom := some 0, recs := [(0, some { trial := true })] } { opcode := 0x85, spec := 2, tag := 7 } [(.RST_FW_STAT_TRIAL, 0, 1)] with time := { now := 60000000000 } }) ∧
    Runs (.bfwUpdate 4095 [1, 2, 3, 4] 0 0) (fwState fan { opcode := 0x85, spec := 2, tag := 7 } [(.DBG_BFW_CFG_AUTO, 0, 1), (.MECH_STATE_STATE, 4095, 1), (.MECH_BRIDGE_GEN, 4095, 2)]) ∧
    Runs (.bfwUpdate 4095 [1, 2, 3, 4] 1 0) (fwState fan { opcode := 0x85, spec := 2, tag := 7 } [(.DBG_BFW_CFG_AUTO, 0, 1), (.MECH_STATE_STATE, 4095, 1), (.MECH_BRIDGE_GEN, 4095, 2)]) ∧
    Runs (.bfwUpdate 4095 [1, 2, 3, 4] 0 1) (fwState fan { opcode := 0x85, spec := 2, tag := 7 } [(.DBG_BFW_CFG_AUTO, 0, 1), (.MECH_STATE_STATE, 4095, 1), (.MECH_BRIDGE_GEN, 4095, 2)]) ∧
    Runs (.bfwRebootTimeout 4095) ({ fwState { bfw := some { mn := 4095, image := bImg } } { opcode := 0x85, spec := 2, tag := 7 } [] with time := { now := 0x10000000000 } }) :=
  ⟨runs (h.1 0 7 (fwState {} { opcode := 0x84, lba := 0, count := 64, tag := 7, spec := 0 } []) (ctxOf 0 0 { opcode := 0x84, lba := 0, count := 64, tag := 7, spec := 0 }) ⟨by decide +kernel, rfl, rfl⟩ (by decide +kernel) (by decide +kernel)),
   runs (h.1 0 7 (fwState { staged := 125829056 } { opcode := 0x84, lba := 125829056, count := 64, tag := 7, spec := 0 } []) (ctxOf 0 0 { opcode := 0x84, lba := 125829056, count := 64, tag := 7, spec := 0 }) ⟨by decide +kernel, rfl, rfl⟩ (Or.inr rfl) (by decide +kernel)),
   runs (h.2.1 0 7 (img 2 0) true (fwState { staged := 1 } { opcode := 0x85, spec := 1, tag := 7 } []) (ctxOf 0 0 { opcode := 0x85, spec := 1, tag := 7 }) ⟨by decide +kernel, rfl, rfl⟩ (by decide +kernel) (by decide +kernel)),
   runs (h.2.1 0 7 (img 2 0) true (fwState { staged := 1, stagedComp := 1 } { opcode := 0x85, spec := 1, tag := 7 } []) (ctxOf 0 0 { opcode := 0x85, spec := 1, tag := 7 }) ⟨by decide +kernel, rfl, rfl⟩ (by decide +kernel) (by decide +kernel)),
   runs (h.2.1 0 7 (img 2 0) false (fwState { staged := 1 } { opcode := 0x85, spec := 1, tag := 7 } []) (ctxOf 0 0 { opcode := 0x85, spec := 1, tag := 7 }) ⟨by decide +kernel, rfl, rfl⟩ (by decide +kernel) (by decide +kernel)),
   runs (h.2.1 0 7 (img 2 0) true (fwState {} { opcode := 0x85, spec := 1, tag := 7 } []) (ctxOf 0 0 { opcode := 0x85, spec := 1, tag := 7 }) ⟨by decide +kernel, rfl, rfl⟩ (by decide +kernel) (by decide +kernel)),
   runs (h.2.2.1 0 7 (img 2 2) (fwState { staged := 1, running := 1 } { opcode := 0x85, spec := 2, tag := 7 } []) (ctxOf 0 0 { opcode := 0x85, spec := 2, tag := 7 }) ⟨by decide +kernel, rfl, rfl⟩ (by decide +kernel) (by decide +kernel) (by decide +kernel) (by decide +kernel)),
   runs (h.2.2.1 0 7 (img 2 2) (fwState { staged := 1, running := 3 } { opcode := 0x85, spec := 2, tag := 7 } []) (ctxOf 0 0 { opcode := 0x85, spec := 2, tag := 7 }) ⟨by decide +kernel, rfl, rfl⟩ (by decide +kernel) (by decide +kernel) (by decide +kernel) (by decide +kernel)),
   runs (h.2.2.2.1 0 7 (fwState { running := 2, slots := [(1, some (img 2 2))] } { opcode := 0x85, spec := 3 + 256, tag := 7 } []) (ctxOf 0 0 { opcode := 0x85, spec := 3 + 256, tag := 7 }) (img 2 2) ⟨by decide +kernel, rfl, rfl⟩ (by decide +kernel) (by decide +kernel) rfl (by decide +kernel) (by decide +kernel)),
   runs (h.2.2.2.2.1 (fwState { act := some { cmd := some (0, 7), slot := 1, image := img 2 2 }, recs := [(0, some {})] } { opcode := 0x85, spec := 2, tag := 7 } [(.DBG_UPD_STAT_PHASE, 0, 1)]) { cmd := some (0, 7), slot := 1, image := img 2 2 } rfl rfl rfl (by decide +kernel)),
   runs (h.2.2.2.2.1 (fwState { act := some { cmd := some (0, 7), slot := 1, image := img 2 2 }, recs := [(0, some {})] } { opcode := 0x85, spec := 2, tag := 7 } [(.DBG_UPD_STAT_PHASE, 0, 2)]) { cmd := some (0, 7), slot := 1, image := img 2 2 } rfl rfl rfl (by decide +kernel)),
   runs (h.2.2.2.2.1 (fwState { act := some { cmd := some (0, 7), slot := 1, image := img 2 2 }, recs := [(0, some {})] } { opcode := 0x85, spec := 2, tag := 7 } [(.DBG_UPD_STAT_PHASE, 0, 5)]) { cmd := some (0, 7), slot := 1, image := img 2 2 } rfl rfl rfl (by decide +kernel)),
   runs (h.2.2.2.2.2.1 ({ fwState { trialFrom := some 0, recs := [(0, some { trial := true })] } { opcode := 0x85, spec := 2, tag := 7 } [(.RST_FW_STAT_TRIAL, 0, 1)] with time := { now := 60000000000 } }) 0 { trial := true } rfl rfl (by decide +kernel) (by decide +kernel) (by decide +kernel)),
   runs (h.2.2.2.2.2.2.1 4095 [1, 2, 3, 4] 0 0 (fwState fan { opcode := 0x85, spec := 2, tag := 7 } [(.DBG_BFW_CFG_AUTO, 0, 1), (.MECH_STATE_STATE, 4095, 1), (.MECH_BRIDGE_GEN, 4095, 2)]) bImg (by decide +kernel) rfl rfl),
   runs (h.2.2.2.2.2.2.1 4095 [1, 2, 3, 4] 1 0 (fwState fan { opcode := 0x85, spec := 2, tag := 7 } [(.DBG_BFW_CFG_AUTO, 0, 1), (.MECH_STATE_STATE, 4095, 1), (.MECH_BRIDGE_GEN, 4095, 2)]) bImg (by decide +kernel) rfl rfl),
   runs (h.2.2.2.2.2.2.1 4095 [1, 2, 3, 4] 0 1 (fwState fan { opcode := 0x85, spec := 2, tag := 7 } [(.DBG_BFW_CFG_AUTO, 0, 1), (.MECH_STATE_STATE, 4095, 1), (.MECH_BRIDGE_GEN, 4095, 2)]) bImg (by decide +kernel) rfl rfl),
   runs (h.2.2.2.2.2.2.2 4095 ({ fwState { bfw := some { mn := 4095, image := bImg } } { opcode := 0x85, spec := 2, tag := 7 } [] with time := { now := 0x10000000000 } }) { mn := 4095, image := bImg } rfl rfl (by decide +kernel))⟩

/-- The clauses of Obligations.DataReads at states and operands that meet their hypotheses. -/
theorem witness_DataReads (h : Obligations.DataReads) :
    Runs (.read 255 7 .done) (io (cmd 1 24414096 1 0 0) [] []) ∧
    Runs (.read 255 7 .done) (io (cmd 1 100 1 0 0) [wb .accepted [5]] []) ∧
    Runs (.read 255 7 .done) ({ (io (cmd 1 100 2 0 0) [wb .accepted [5]] []) with chan := { discs := [(4095, { extents := [(101, 1, 0, 0, 0)] })] } }) ∧
    Runs (.read 255 7 .done) (io (cmd 1 99 2 0 0) [wb .accepted [5]] []) ∧
    Runs (.read 255 7 .done) (io (cmd 1 100 2 0 0) [wb .accepted [5]] []) ∧
    Runs (.verify 255 7) (io (cmd 3 100 1 0 0) [wb .accepted [5]] []) ∧
    Runs (.scrub 255 7) (io (cmd 11 0 1 0 0) [] []) ∧
    Runs (.scrub 255 7) ({ (io (cmd 11 0 1 0 0) [] []) with floe := [(1, { k := 2, m := 1, members := [5, 6, 7], used := 1, stripes := [{ num := 0, units := [(0, 0)] }] })], mech := [(4095, { discId := 5 })] }) ∧
    Runs (.seekHint 255 7 0 (-5)) (io (cmd 9 5 0 0 0) [] []) ∧
    Runs (.seekHint 255 7 0 (-5)) (io (cmd 9 5 0 0 1) [] []) ∧
    Runs (.seekHint 255 7 0 0) (io (cmd 9 5 0 0 0) [] [(.MECH_SERVO_SLOT_VALID, 4095, 1), (.MECH_SLED_STAT_POS_VALID, 4095, 1), (.MECH_SLED_LIM_OUT_LIM, 4095, 0), (.MECH_SLED_LIM_IN_LIM, 4095, 5)]) :=
  ⟨runs (h.1 255 7 .done (io (cmd 1 24414096 1 0 0) [] []) (ctxOf 255 1 (cmd 1 24414096 1 0 0)) ⟨by decide +kernel, rfl, by decide +kernel, rfl⟩ rfl (by decide +kernel) (by decide +kernel) (by decide +kernel)),
   runs (h.2.1 255 7 (io (cmd 1 100 1 0 0) [wb .accepted [5]] []) (ctxOf 255 1 (cmd 1 100 1 0 0)) (fun _ => 5) (fun _ => 1) ⟨by decide +kernel, rfl, by decide +kernel, rfl⟩ (Or.inr (by decide +kernel)) (by decide +kernel)),
   runs (h.2.2.1 255 7 ({ (io (cmd 1 100 2 0 0) [wb .accepted [5]] []) with chan := { discs := [(4095, { extents := [(101, 1, 0, 0, 0)] })] } }) (ctxOf 255 1 (cmd 1 100 2 0 0)) 0 5 1 ⟨by decide +kernel, rfl, by decide +kernel, rfl⟩ (Or.inr (by decide +kernel)) (by decide +kernel) (by decide +kernel) (by decide +kernel) (by decide +kernel) ⟨1, by decide +kernel, by decide +kernel⟩),
   runs (h.2.2.2.1 255 7 .done (io (cmd 1 99 2 0 0) [wb .accepted [5]] []) (ctxOf 255 1 (cmd 1 99 2 0 0)) 0 ⟨by decide +kernel, rfl, by decide +kernel, rfl⟩ (Or.inr (by decide +kernel)) (by decide +kernel) (by decide +kernel) (by decide +kernel)),
   runs (h.2.2.2.1 255 7 .done (io (cmd 1 100 2 0 0) [wb .accepted [5]] []) (ctxOf 255 1 (cmd 1 100 2 0 0)) 1 ⟨by decide +kernel, rfl, by decide +kernel, rfl⟩ (Or.inr (by decide +kernel)) (by decide +kernel) (by decide +kernel) (by decide +kernel)),
   runs (h.2.2.2.2.1 255 7 (io (cmd 3 100 1 0 0) [wb .accepted [5]] []) (ctxOf 255 1 (cmd 3 100 1 0 0)) ⟨by decide +kernel, rfl, by decide +kernel, rfl⟩ (Or.inr (by decide +kernel)) (by decide +kernel) (by decide +kernel)),
   runs (h.2.2.2.2.2.1 255 7 (io (cmd 11 0 1 0 0) [] []) (ctxOf 255 1 (cmd 11 0 1 0 0)) ⟨by decide +kernel, rfl, by decide +kernel, rfl⟩ (Or.inr (by decide +kernel)) (by decide +kernel)),
   runs (h.2.2.2.2.2.2.1 255 7 1 0 ({ (io (cmd 11 0 1 0 0) [] []) with floe := [(1, { k := 2, m := 1, members := [5, 6, 7], used := 1, stripes := [{ num := 0, units := [(0, 0)] }] })], mech := [(4095, { discId := 5 })] }) (ctxOf 255 1 (cmd 11 0 1 0 0)) ⟨by decide +kernel, rfl, by decide +kernel, rfl⟩ (Or.inr (by decide +kernel)) (by decide +kernel)),
   runs (h.2.2.2.2.2.2.2 255 7 0 (-5) (io (cmd 9 5 0 0 0) [] []) (ctxOf 255 1 (cmd 9 5 0 0 0)) ⟨by decide +kernel, rfl, by decide +kernel, rfl⟩ (Or.inr (by decide +kernel))),
   runs (h.2.2.2.2.2.2.2 255 7 0 (-5) (io (cmd 9 5 0 0 1) [] []) (ctxOf 255 1 (cmd 9 5 0 0 1)) ⟨by decide +kernel, rfl, by decide +kernel, rfl⟩ (Or.inr (by decide +kernel))),
   runs (h.2.2.2.2.2.2.2 255 7 0 0 (io (cmd 9 5 0 0 0) [] [(.MECH_SERVO_SLOT_VALID, 4095, 1), (.MECH_SLED_STAT_POS_VALID, 4095, 1), (.MECH_SLED_LIM_OUT_LIM, 4095, 0), (.MECH_SLED_LIM_IN_LIM, 4095, 5)]) (ctxOf 255 1 (cmd 9 5 0 0 0)) ⟨by decide +kernel, rfl, by decide +kernel, rfl⟩ (Or.inr (by decide +kernel)))⟩

def wNew (p : WbPhase) (n : Nat) : WbEntry := { id := 3, fn := 255, qpid := 1, tag := 7, mn := 4095, lba := 100, count := n, phase := p }
def sNew : State := { io (cmd 2 100 1 0 0) [wNew .fetching 1] [] with mech := [(4095, {})], chan := { discs := [(4095, { dz := 1 })] } }

theorem sNew_alloc : (sNew.allocate 4095 1).isSome = true := by decide +kernel
/-- What the other users of DRAM leave to the extent maps, whatever the code of the active image takes. -/
theorem pool_of {s : State} {d a l : Nat} (h1 : s.dramMib = d) (h2 : s.get .FLOE_ACC_ACC_MIB = a)
    (h3 : ((s.mech.filter fun e => s.on .MECH_STATE_MOUNTED e.1).foldl (fun a e => a + s.get .MECH_DISC_LAYERS e.1) 0) = l) :
    d * 2 ^ 20 - (128 * 2 ^ 20 + 120 * 2 ^ 20 + d * 2 ^ 20 / 8 + a * 2 ^ 20 + 27648 * 2 * 4 * 256 + 65 * 1024 + l * (480 + 4160)) ≤ s.mapPool := by
  have d : min (Config.codeBytes s.fw.running) (120 * 2 ^ 20) ≤ 120 * 2 ^ 20 := Nat.min_le_right _ _
  unfold State.mapPool
  rw [h1, h2, h3]
  generalize min (Config.codeBytes s.fw.running) (120 * 2 ^ 20) = x at d
  dsimp only
  exact Nat.sub_le_sub_left (by gcongr) _

theorem sNew_pool : 16 ≤ sNew.mapPool :=
  le_trans (by decide) (pool_of (d := 16384) (a := 2048) (l := 1) (by decide +kernel) (by decide +kernel) (by decide +kernel))

/-- The clauses of Obligations.DataWrites at states and operands that meet their hypotheses. -/
theorem witness_DataWrites (h : Obligations.DataWrites) :
    Runs (.write 255 7) (io (cmd 2 100 1 0 0) [] []) ∧
    Runs (.write 255 7) (io (cmd 2 100 1 0 0) [] [(.MECH_DISC_SEALED, 4095, 1)]) ∧
    Runs (.write 255 7) (io (cmd 2 100 1 0 0) [wb .accepted [], { wb .accepted [] with count := 2 ^ 20 }] []) ∧
    Runs (.writeAccepted 255 7 [5] .done) sNew ∧
    Runs (.writeAccepted 255 7 [5] .done) (io (cmd 2 100 1 0 0) [wNew .fetching 1] []) ∧
    Runs (.writeAccepted 255 7 [5] .done) (io (cmd 2 100 1 0 0) [wNew .fetching 1] [(.MECH_DISC_SEALED, 4095, 1)]) ∧
    Runs (.writeAccepted 255 7 [5] .done) (io (cmd 2 100 1 0 0) [wNew .fetching 1] [(.MECH_DISC_MEDIA, 4095, 8)]) ∧
    Runs (.writeAccepted 255 7 [5] .done) (io (cmd 2 100 1 0 0) [wNew .fetching 1] [(.MECH_DISC_LAYERS, 4095, 0)]) ∧
    Runs (.write 255 7) ({ io (cmd 2 100 0 0 0) [wNew .writing 0] [(.MECH_SERVO_LANE_VALID, 4095, 1), (.MECH_SERVO_LANE, 4095, 271)] with chan := { lanes := [(271, { run := some { wb := 3, r0 := 0, ang := 0, theta := 0 } })] } }) ∧
    Runs (.commit 255 7) (io (cmd 4 0 0 0 1) [] []) ∧
    Runs (.commit 255 7) (io (cmd 4 0 0 0 1) [wb .accepted []] []) :=
  ⟨runs (h.1 255 7 (io (cmd 2 100 1 0 0) [] []) (ctxOf 255 1 (cmd 2 100 1 0 0)) ⟨by decide +kernel, rfl, by decide +kernel, rfl⟩ (by decide +kernel) (Or.inr (by decide +kernel))),
   runs (h.1 255 7 (io (cmd 2 100 1 0 0) [] [(.MECH_DISC_SEALED, 4095, 1)]) (ctxOf 255 1 (cmd 2 100 1 0 0)) ⟨by decide +kernel, rfl, by decide +kernel, rfl⟩ (by decide +kernel) (Or.inr (by decide +kernel))),
   runs (h.1 255 7 (io (cmd 2 100 1 0 0) [wb .accepted [], { wb .accepted [] with count := 2 ^ 20 }] []) (ctxOf 255 1 (cmd 2 100 1 0 0)) ⟨by decide +kernel, rfl, by decide +kernel, rfl⟩ (by decide +kernel) (Or.inr (by decide +kernel))),
   runs (h.2.1 255 7 [5] sNew ((sNew.allocate 4095 1).get sNew_alloc).1 (ctxOf 255 1 (cmd 2 100 1 0 0)) (wNew .fetching 1) ((sNew.allocate 4095 1).get sNew_alloc).2 (by decide +kernel) (by decide +kernel) rfl (by decide +kernel) (by decide +kernel) (Option.some_get sNew_alloc).symm (by decide +kernel) (le_trans (by decide +kernel) sNew_pool)),
   runs (h.2.2.1 255 7 [5] (io (cmd 2 100 1 0 0) [wNew .fetching 1] []) (ctxOf 255 1 (cmd 2 100 1 0 0)) (wNew .fetching 1) (by decide +kernel) (by decide +kernel) rfl),
   runs (h.2.2.1 255 7 [5] (io (cmd 2 100 1 0 0) [wNew .fetching 1] [(.MECH_DISC_SEALED, 4095, 1)]) (ctxOf 255 1 (cmd 2 100 1 0 0)) (wNew .fetching 1) (by decide +kernel) (by decide +kernel) rfl),
   runs (h.2.2.1 255 7 [5] (io (cmd 2 100 1 0 0) [wNew .fetching 1] [(.MECH_DISC_MEDIA, 4095, 8)]) (ctxOf 255 1 (cmd 2 100 1 0 0)) (wNew .fetching 1) (by decide +kernel) (by decide +kernel) rfl),
   runs (h.2.2.1 255 7 [5] (io (cmd 2 100 1 0 0) [wNew .fetching 1] [(.MECH_DISC_LAYERS, 4095, 0)]) (ctxOf 255 1 (cmd 2 100 1 0 0)) (wNew .fetching 1) (by decide +kernel) (by decide +kernel) rfl),
   runs (h.2.2.2.1 255 7 ({ io (cmd 2 100 0 0 0) [wNew .writing 0] [(.MECH_SERVO_LANE_VALID, 4095, 1), (.MECH_SERVO_LANE, 4095, 271)] with chan := { lanes := [(271, { run := some { wb := 3, r0 := 0, ang := 0, theta := 0 } })] } }) (wNew .writing 0) 271 { wb := 3, r0 := 0, ang := 0, theta := 0 } (by decide +kernel) rfl (by decide +kernel) (by decide +kernel) (by decide +kernel) (by decide +kernel) (by decide +kernel) (by decide +kernel)),
   runs (h.2.2.2.2 255 7 (io (cmd 4 0 0 0 1) [] []) (ctxOf 255 1 (cmd 4 0 0 0 1)) ⟨by decide +kernel, rfl, by decide +kernel, rfl⟩ rfl),
   runs (h.2.2.2.2 255 7 (io (cmd 4 0 0 0 1) [wb .accepted []] []) (ctxOf 255 1 (cmd 4 0 0 0 1)) ⟨by decide +kernel, rfl, by decide +kernel, rfl⟩ rfl)⟩

/-- The clauses of Obligations.TestsAbortsDeadlines at states and operands that meet their hypotheses. -/
theorem witness_TestsAbortsDeadlines (h : Obligations.TestsAbortsDeadlines) :
    Runs (.servoTest 255 7 .done) (io (cmd 12 0 256 65280 0) [] [(.MECH_SERVO_SLOT_VALID, 4095, 1), (.MECH_SERVO_CLUSTER, 4095, 16)]) ∧
    Runs (.servoTest 255 7 .done) ({ (io (cmd 12 0 256 65280 0) [] [(.MECH_SERVO_SLOT_VALID, 4095, 1), (.MECH_SERVO_CLUSTER, 4095, 16)]) with cirq := { cap := [(16, { owner := some (255, 7) })] } }) ∧
    Runs (.abort 255 7) (hosted { cmds := [ctxOf 255 1 { opcode := 0x0A, tag := 7, spec := 8 }] } []) ∧
    Runs (.abort 255 7) (hosted { cmds := [ctxOf 255 1 { opcode := 0x0A, tag := 7, spec := 8 + 65535 * 2 ^ 32 }, ctxOf 255 2 { opcode := 1, tag := 8 }] } []) ∧
    Runs (.abort 255 7) (hosted { cmds := [ctxOf 255 1 { opcode := 0x0A, tag := 7, spec := 8 + 2 * 2 ^ 32 }, ctxOf 255 2 { opcode := 5, tag := 8 } .running true] } []) ∧
    Runs (.commandDeadline 255 7) (io (cmd 1 0 1 0 0) [] []) :=
  ⟨runs (h.1 255 7 .done (io (cmd 12 0 256 65280 0) [] [(.MECH_SERVO_SLOT_VALID, 4095, 1), (.MECH_SERVO_CLUSTER, 4095, 16)]) (ctxOf 255 1 (cmd 12 0 256 65280 0)) ⟨by decide +kernel, rfl, by decide +kernel, rfl⟩ (Or.inr (by decide +kernel)) (by decide +kernel) (by decide +kernel) (by decide +kernel) (by decide +kernel) (by decide +kernel) (by decide +kernel) (by decide +kernel) (by decide +kernel) (by decide +kernel)),
   runs (h.2.1 255 7 ({ (io (cmd 12 0 256 65280 0) [] [(.MECH_SERVO_SLOT_VALID, 4095, 1), (.MECH_SERVO_CLUSTER, 4095, 16)]) with cirq := { cap := [(16, { owner := some (255, 7) })] } }) (ctxOf 255 1 (cmd 12 0 256 65280 0)) ⟨by decide +kernel, rfl, by decide +kernel, rfl⟩ (Or.inr (by decide +kernel)) (by decide +kernel) (by decide +kernel) (by decide +kernel) (by decide +kernel)),
   runs (h.2.2.1 255 7 (hosted { cmds := [ctxOf 255 1 { opcode := 0x0A, tag := 7, spec := 8 }] } []) (ctxOf 255 1 { opcode := 0x0A, tag := 7, spec := 8 }) ⟨by decide +kernel, rfl, by decide +kernel, rfl⟩),
   runs (h.2.2.1 255 7 (hosted { cmds := [ctxOf 255 1 { opcode := 0x0A, tag := 7, spec := 8 + 65535 * 2 ^ 32 }, ctxOf 255 2 { opcode := 1, tag := 8 }] } []) (ctxOf 255 1 { opcode := 0x0A, tag := 7, spec := 8 + 65535 * 2 ^ 32 }) ⟨by decide +kernel, rfl, by decide +kernel, rfl⟩),
   runs (h.2.2.1 255 7 (hosted { cmds := [ctxOf 255 1 { opcode := 0x0A, tag := 7, spec := 8 + 2 * 2 ^ 32 }, ctxOf 255 2 { opcode := 5, tag := 8 } .running true] } []) (ctxOf 255 1 { opcode := 0x0A, tag := 7, spec := 8 + 2 * 2 ^ 32 }) ⟨by decide +kernel, rfl, by decide +kernel, rfl⟩),
   runs (h.2.2.2 255 7 (io (cmd 1 0 1 0 0) [] []) (ctxOf 255 1 (cmd 1 0 1 0 0)) (by decide +kernel) (by decide +kernel))⟩

/-- The clauses of Obligations.StateCommands at states and operands that meet their hypotheses. -/
theorem witness_StateCommands (h : Obligations.StateCommands) :
    Runs (.mount 255 7 none .done) (hosted { cmds := [ctxOf 255 1 (cmd 5 0 0 0 0)] } [(.MECH_STATE_STATE, 4095, 0)]) ∧
    Runs (.mount 255 7 none .done) (hosted { cmds := [ctxOf 255 1 (cmd 5 0 0 0 0)] } [(.MECH_STATE_STATE, 4095, 1)]) ∧
    Runs (.mount 255 7 none .done) (hosted { cmds := [ctxOf 255 1 (cmd 5 0 0 0 0)] } [(.MECH_STATE_STATE, 4095, 9)]) ∧
    Runs (.mount 255 7 none .done) (hosted { cmds := [ctxOf 255 1 (cmd 5 0 0 0 0)] } [(.MECH_STATE_STATE, 4095, 6), (.MECH_STATE_MOUNTED, 4095, 1)]) ∧
    Runs (.unmount 255 7) (hosted { cmds := [ctxOf 255 1 (cmd 6 0 0 0 0)] } [(.MECH_STATE_STATE, 4095, 1)]) ∧
    Runs (.unmount 255 7) (hosted { cmds := [ctxOf 255 1 (cmd 6 0 0 0 0)] } [(.MECH_STATE_STATE, 4095, 2), (.MECH_STATE_MOUNTED, 4095, 1)]) ∧
    Runs (.load 255 7) (hosted { cmds := [ctxOf 255 1 (cmd 7 0 0 0 0)] } [(.MECH_STATE_STATE, 4095, 7)]) ∧
    Runs (.load 255 7) (hosted { cmds := [ctxOf 255 1 (cmd 7 0 0 0 0)] } [(.MECH_STATE_STATE, 4095, 1), (.BRTH_DOM_BUDGET_MW, 0, 0xFFFFFFFF)]) ∧
    Runs (.eject 255 7) (hosted { cmds := [ctxOf 255 1 (cmd 8 0 0 0 0)] } [(.MECH_STATE_STATE, 4095, 0)]) ∧
    Runs (.eject 255 7) (hosted { cmds := [ctxOf 255 1 (cmd 8 0 0 0 0)] } [(.MECH_STATE_STATE, 4095, 3), (.BRTH_DOM_BUDGET_MW, 0, 0xFFFFFFFF)]) :=
  ⟨runs (h.1 255 7 none (hosted { cmds := [ctxOf 255 1 (cmd 5 0 0 0 0)] } [(.MECH_STATE_STATE, 4095, 0)]) (ctxOf 255 1 (cmd 5 0 0 0 0)) (by decide +kernel) rfl (by decide +kernel) (by decide +kernel) (by decide +kernel)),
   runs (h.1 255 7 none (hosted { cmds := [ctxOf 255 1 (cmd 5 0 0 0 0)] } [(.MECH_STATE_STATE, 4095, 1)]) (ctxOf 255 1 (cmd 5 0 0 0 0)) (by decide +kernel) rfl (by decide +kernel) (by decide +kernel) (by decide +kernel)),
   runs (h.1 255 7 none (hosted { cmds := [ctxOf 255 1 (cmd 5 0 0 0 0)] } [(.MECH_STATE_STATE, 4095, 9)]) (ctxOf 255 1 (cmd 5 0 0 0 0)) (by decide +kernel) rfl (by decide +kernel) (by decide +kernel) (by decide +kernel)),
   runs (h.1 255 7 none (hosted { cmds := [ctxOf 255 1 (cmd 5 0 0 0 0)] } [(.MECH_STATE_STATE, 4095, 6), (.MECH_STATE_MOUNTED, 4095, 1)]) (ctxOf 255 1 (cmd 5 0 0 0 0)) (by decide +kernel) rfl (by decide +kernel) (by decide +kernel) (by decide +kernel)),
   runs (h.2.1 255 7 (hosted { cmds := [ctxOf 255 1 (cmd 6 0 0 0 0)] } [(.MECH_STATE_STATE, 4095, 1)]) (ctxOf 255 1 (cmd 6 0 0 0 0)) (by decide +kernel) rfl (by decide +kernel) (by decide +kernel) (by decide +kernel) (by decide +kernel) rfl),
   runs (h.2.1 255 7 (hosted { cmds := [ctxOf 255 1 (cmd 6 0 0 0 0)] } [(.MECH_STATE_STATE, 4095, 2), (.MECH_STATE_MOUNTED, 4095, 1)]) (ctxOf 255 1 (cmd 6 0 0 0 0)) (by decide +kernel) rfl (by decide +kernel) (by decide +kernel) (by decide +kernel) (by decide +kernel) rfl),
   runs (h.2.2.1 255 7 (hosted { cmds := [ctxOf 255 1 (cmd 7 0 0 0 0)] } [(.MECH_STATE_STATE, 4095, 7)]) (ctxOf 255 1 (cmd 7 0 0 0 0)) (by decide +kernel) rfl (by decide +kernel) (by decide +kernel) (by decide +kernel) rfl),
   runs (h.2.2.1 255 7 (hosted { cmds := [ctxOf 255 1 (cmd 7 0 0 0 0)] } [(.MECH_STATE_STATE, 4095, 1), (.BRTH_DOM_BUDGET_MW, 0, 0xFFFFFFFF)]) (ctxOf 255 1 (cmd 7 0 0 0 0)) (by decide +kernel) rfl (by decide +kernel) (by decide +kernel) (by decide +kernel) rfl),
   runs (h.2.2.2 255 7 (hosted { cmds := [ctxOf 255 1 (cmd 8 0 0 0 0)] } [(.MECH_STATE_STATE, 4095, 0)]) (ctxOf 255 1 (cmd 8 0 0 0 0)) (by decide +kernel) rfl (by decide +kernel) (by decide +kernel) (by decide +kernel) (by decide +kernel) rfl),
   runs (h.2.2.2 255 7 (hosted { cmds := [ctxOf 255 1 (cmd 8 0 0 0 0)] } [(.MECH_STATE_STATE, 4095, 3), (.BRTH_DOM_BUDGET_MW, 0, 0xFFFFFFFF)]) (ctxOf 255 1 (cmd 8 0 0 0 0)) (by decide +kernel) rfl (by decide +kernel) (by decide +kernel) (by decide +kernel) (by decide +kernel) rfl)⟩

def power (b : BreathState) (l : List (Fld × Nat × Nat)) : State := { act ((.MECH_STATE_STATE, 4095, 6) :: l) with breath := b }
def rSeek : PowerReq := { cls := 2, who := 4095, dom := 0, mw := 0 }
def free : List (Fld × Nat × Nat) := [(.BRTH_DOM_BUDGET_MW, 0, 0xFFFFFFFF)]

/-- The clauses of Obligations.BreathGrants at states and operands that meet their hypotheses. -/
theorem witness_BreathGrants (h : Obligations.BreathGrants) :
    Runs (.breathRequest 2 4095 4 0 none) (power {} free) ∧
    Runs (.breathRequest 3 4095 4 0 none) (power {} free) ∧
    Runs (.breathRequest 4 4095 4 0 none) (power {} free) ∧
    Runs (.breathRequest 5 4095 32001 255 none) (power { grants := [(4095, { spin := some 1 })] } free) ∧
    Runs (.breathRequest 4 4095 5000 0 none) (power {} [(.BRTH_DOM_BUDGET_MW, 0, 0)]) ∧
    Runs (.breathRequest 4 4095 5000 0 (some (0, 7))) ({ power {} [(.BRTH_DOM_BUDGET_MW, 0, 0)] with host := { cmds := [ctxOf 0 1 (cmd 1 0 1 0 0)] } }) ∧
    Runs (.breathRequest 1 63 0 0 none) (power {} free) ∧
    Runs (.breathRequest 6 4095 5 0 none) (power {} free) ∧
    Runs (.breathRelease 1 63) (power { grants := [(4095, { spin := some 1, seek := some 2, write := some 3, spinup := some 4 })], spinBefore := [(4095, 9)], link := [(63, some (0, 5))] } free) ∧
    Runs (.breathRelease 2 4095) (power { grants := [(4095, { spin := some 1, seek := some 2, write := some 3, spinup := some 4 })], spinBefore := [(4095, 9)], link := [(63, some (0, 5))] } free) ∧
    Runs (.breathRelease 3 4095) (power { grants := [(4095, { spin := some 1, seek := some 2, write := some 3, spinup := some 4 })], spinBefore := [(4095, 9)], link := [(63, some (0, 5))] } free) ∧
    Runs (.breathRelease 4 4095) (power { grants := [(4095, { spin := some 1, seek := some 2, write := some 3, spinup := some 4 })], spinBefore := [(4095, 9)], link := [(63, some (0, 5))] } free) ∧
    Runs (.breathRelease 5 4095) (power { grants := [(4095, { spin := some 1, seek := some 2, write := some 3, spinup := some 4 })], spinBefore := [(4095, 9)], link := [(63, some (0, 5))] } free) ∧
    Runs (.breathRelease 6 4095) (power { grants := [(4095, { spin := some 1, seek := some 2, write := some 3, spinup := some 4 })], spinBefore := [(4095, 9)], link := [(63, some (0, 5))] } free) ∧
    Runs (.requestAged 2 4095) ({ power { reqs := [rSeek] } [(.BRTH_GCFG_AGE_MS, 0, 1000)] with time := { now := 1000000000 } }) ∧
    Runs (.overdrawTick) (power { standing := [(4095, true)] } [(.BRTH_DOM_BUDGET_MW, 0, 0), (.BRTH_DOM_FIXED_MW, 0, 5)]) ∧
    Runs (.overdrawLong 7) ({ power { longAt := [(7, some (0, false))], excessAt := [(4095, some (0, false))] } [] with time := { now := 0x100000000000 } }) ∧
    Runs (.mechExcess 4095) ({ power { longAt := [(7, some (0, false))], excessAt := [(4095, some (0, false))] } [] with time := { now := 0x100000000000 } }) ∧
    Runs (.bistGapExpiry) (power { bistReqs := [{ cls := 2, index := 1, mw := 0 }] } free) :=
  ⟨runs (h.1 2 4095 4 0 none (power {} free) (by decide +kernel) (by decide +kernel) (by decide +kernel) (by decide +kernel)),
   runs (h.1 3 4095 4 0 none (power {} free) (by decide +kernel) (by decide +kernel) (by decide +kernel) (by decide +kernel)),
   runs (h.1 4 4095 4 0 none (power {} free) (by decide +kernel) (by decide +kernel) (by decide +kernel) (by decide +kernel)),
   runs (h.1 5 4095 32001 255 none (power { grants := [(4095, { spin := some 1 })] } free) (by decide +kernel) (by decide +kernel) (by decide +kernel) (by decide +kernel)),
   runs (h.1 4 4095 5000 0 none (power {} [(.BRTH_DOM_BUDGET_MW, 0, 0)]) (by decide +kernel) (by decide +kernel) (by decide +kernel) (by decide +kernel)),
   runs (h.1 4 4095 5000 0 (some (0, 7)) ({ power {} [(.BRTH_DOM_BUDGET_MW, 0, 0)] with host := { cmds := [ctxOf 0 1 (cmd 1 0 1 0 0)] } }) (by decide +kernel) (by decide +kernel) (by decide +kernel) (by decide +kernel)),
   runs (h.2.1 63 0 0 (power {} free) (by decide +kernel) (by decide +kernel) (by decide +kernel) (by decide +kernel)),
   runs (h.2.2.1 4095 5 0 (power {} free) (by decide +kernel) (by decide +kernel) (by decide +kernel)),
   runs (h.2.2.2.1 1 63 (power { grants := [(4095, { spin := some 1, seek := some 2, write := some 3, spinup := some 4 })], spinBefore := [(4095, 9)], link := [(63, some (0, 5))] } free)),
   runs (h.2.2.2.1 2 4095 (power { grants := [(4095, { spin := some 1, seek := some 2, write := some 3, spinup := some 4 })], spinBefore := [(4095, 9)], link := [(63, some (0, 5))] } free)),
   runs (h.2.2.2.1 3 4095 (power { grants := [(4095, { spin := some 1, seek := some 2, write := some 3, spinup := some 4 })], spinBefore := [(4095, 9)], link := [(63, some (0, 5))] } free)),
   runs (h.2.2.2.1 4 4095 (power { grants := [(4095, { spin := some 1, seek := some 2, write := some 3, spinup := some 4 })], spinBefore := [(4095, 9)], link := [(63, some (0, 5))] } free)),
   runs (h.2.2.2.1 5 4095 (power { grants := [(4095, { spin := some 1, seek := some 2, write := some 3, spinup := some 4 })], spinBefore := [(4095, 9)], link := [(63, some (0, 5))] } free)),
   runs (h.2.2.2.1 6 4095 (power { grants := [(4095, { spin := some 1, seek := some 2, write := some 3, spinup := some 4 })], spinBefore := [(4095, 9)], link := [(63, some (0, 5))] } free)),
   runs (h.2.2.2.2.1 2 4095 ({ power { reqs := [rSeek] } [(.BRTH_GCFG_AGE_MS, 0, 1000)] with time := { now := 1000000000 } }) rSeek (by decide +kernel) rfl rfl rfl rfl (by decide +kernel) (fun q h _ _ => by simpa [power] using h)),
   runs (h.2.2.2.2.2.1 (power { standing := [(4095, true)] } [(.BRTH_DOM_BUDGET_MW, 0, 0), (.BRTH_DOM_FIXED_MW, 0, 5)]) (by decide +kernel)),
   runs (h.2.2.2.2.2.2.1 7 0 ({ power { longAt := [(7, some (0, false))], excessAt := [(4095, some (0, false))] } [] with time := { now := 0x100000000000 } }) (by decide +kernel) (by decide +kernel)),
   runs (h.2.2.2.2.2.2.2.1 4095 0 ({ power { longAt := [(7, some (0, false))], excessAt := [(4095, some (0, false))] } [] with time := { now := 0x100000000000 } }) (by decide +kernel) (by decide +kernel)),
   runs (h.2.2.2.2.2.2.2.2 (power { bistReqs := [{ cls := 2, index := 1, mw := 0 }] } free))⟩

/-- ACTIVE with the calibration record r of a space, index and layer. -/
def calState (space index layer : Nat) (r : CalRec) (l : List (Fld × Nat × Nat)) : State := { act l with cal := [(calKey space index layer, r)] }
def validRec : CalRec := { d := [0, 0, 0, 0, 0, 0, 1, 0] }
def sOpc : State := { slotted 16 31 4 {} (tracking 4095) with cal := [(calKey 0 4095 0, { forced := [5] })] }

/-- The clauses of Obligations.Calibration at states and operands that meet their hypotheses. -/
theorem witness_Calibration (h : Obligations.Calibration) :
    Runs (.calTempCheck) (calState 1 255 0 validRec [(.DRN_THERM_STAT_TMAX, 0, 0x7FFF)]) ∧
    Runs (.calRunStart 3 23 9 0 4096) (calState 3 23 0 { forced := [0] } []) ∧
    Runs (.calRunStart 0 4095 0 5 4096) sOpc ∧
    Runs (.calRunDone 1 255 0 0 (.link 1 2 true true)) (calState 1 255 0 { running := [0] } []) ∧
    Runs (.calRunDone 1 255 0 0 (.link 1 2 false true)) (calState 1 255 0 { running := [0] } []) ∧
    Runs (.calRunDone 0 4095 9 3 .measured) ({ calState 0 4095 9 { running := [3] } [] with servo := [(4095, { run := some { item := 3, layer := 9, ms := [0, 0, 0, 0, 0, 0, 0, 0, 0] } })] }) ∧
    Runs (.calRetry 0 4095 9 5) (calState 0 4095 9 { retryAt := [0, 0, 0, 0, 0, 5] } []) ∧
    Runs (.calReadWindow 63) (act [(.MECH_CAL_SEL_SPACE, 0, 3), (.MECH_CAL_SEL_INDEX, 0, 24)]) ∧
    Runs (.calReadWindow 0) (act [(.MECH_CAL_SEL_SPACE, 0, 2), (.MECH_CAL_SEL_INDEX, 0, 31)]) ∧
    Runs (.calWriteWindow 1) (act [(.MECH_CAL_SEL_SPACE, 0, 0), (.MECH_CAL_SEL_INDEX, 0, 4095), (.MECH_STATE_MOUNTED, 4095, 1), (.MECH_CAL_DATA_DWORD, 0, 0x7FFF7FFF), (.MECH_CAL_DATA_DWORD, 1, 0x7FFF7FFF)]) ∧
    Runs (.calWriteWindow 1) (act [(.MECH_CAL_SEL_SPACE, 0, 1), (.MECH_CAL_SEL_INDEX, 0, 255)]) ∧
    Runs (.calRunNow 1 0) (act [(.MECH_CAL_SEL_SPACE, 0, 2), (.MECH_CAL_SEL_INDEX, 0, 31)]) ∧
    Runs (.calRunNow 63 4096) (act [(.MECH_CAL_SEL_SPACE, 0, 0), (.MECH_CAL_SEL_INDEX, 0, 4095), (.MECH_STATE_MOUNTED, 4095, 1)]) ∧
    Runs (.calRunNow 1 0) (act [(.MECH_CAL_SEL_SPACE, 0, 3), (.MECH_CAL_SEL_INDEX, 0, 23)]) ∧
    Runs (.calRunNow 31 0) (act [(.MECH_CAL_SEL_SPACE, 0, 0), (.MECH_CAL_SEL_INDEX, 0, 4095), (.MECH_STATE_MOUNTED, 4095, 1), (.MECH_STATE_STATE, 4095, 7)]) ∧
    Runs (.calMarkStale 63) (act [(.MECH_CAL_SEL_SPACE, 0, 1), (.MECH_CAL_SEL_INDEX, 0, 0)]) :=
  ⟨runs (h.1 (calState 1 255 0 validRec [(.DRN_THERM_STAT_TMAX, 0, 0x7FFF)]) 1 255 0 0 (by decide +kernel) (by decide +kernel) (by decide +kernel) (by decide +kernel) rfl (by decide +kernel) (by decide +kernel) (by decide +kernel) (by decide +kernel) (by decide +kernel)),
   runs (h.2.1 3 23 9 0 4096 (calState 3 23 0 { forced := [0] } []) (by decide +kernel) (by decide +kernel)),
   runs (h.2.1 0 4095 0 5 4096 sOpc (by decide +kernel) (by decide +kernel)),
   runs (h.2.2.1 1 255 0 0 (.link 1 2 true true) (calState 1 255 0 { running := [0] } []) (by decide +kernel) (fun h => absurd h (by decide)) rfl rfl rfl rfl),
   runs (h.2.2.1 1 255 0 0 (.link 1 2 false true) (calState 1 255 0 { running := [0] } []) (by decide +kernel) (fun h => absurd h (by decide)) rfl rfl rfl rfl),
   runs (h.2.2.1 0 4095 9 3 .measured ({ calState 0 4095 9 { running := [3] } [] with servo := [(4095, { run := some { item := 3, layer := 9, ms := [0, 0, 0, 0, 0, 0, 0, 0, 0] } })] }) (by decide +kernel) (fun _ => by decide +kernel) rfl rfl rfl rfl),
   runs (h.2.2.2.1 0 4095 9 5 (calState 0 4095 9 { retryAt := [0, 0, 0, 0, 0, 5] } []) (by decide +kernel)),
   runs ((h.2.2.2.2 (act [(.MECH_CAL_SEL_SPACE, 0, 3), (.MECH_CAL_SEL_INDEX, 0, 24)]) (by decide +kernel) (by decide +kernel)).1 63 4096 (by decide +kernel) (.calReadWindow 63) (by decide)),
   runs (((h.2.2.2.2 (act [(.MECH_CAL_SEL_SPACE, 0, 2), (.MECH_CAL_SEL_INDEX, 0, 31)]) (by decide +kernel) (by decide +kernel)).2 (by decide +kernel)).1 0),
   runs (((h.2.2.2.2 (act [(.MECH_CAL_SEL_SPACE, 0, 0), (.MECH_CAL_SEL_INDEX, 0, 4095), (.MECH_STATE_MOUNTED, 4095, 1), (.MECH_CAL_DATA_DWORD, 0, 0x7FFF7FFF), (.MECH_CAL_DATA_DWORD, 1, 0x7FFF7FFF)]) (by decide +kernel) (by decide +kernel)).2 (by decide +kernel)).2.1 1 (by decide +kernel)),
   runs (((h.2.2.2.2 (act [(.MECH_CAL_SEL_SPACE, 0, 1), (.MECH_CAL_SEL_INDEX, 0, 255)]) (by decide +kernel) (by decide +kernel)).2 (by decide +kernel)).2.2.1 1 (by decide +kernel)),
   runs (((h.2.2.2.2 (act [(.MECH_CAL_SEL_SPACE, 0, 2), (.MECH_CAL_SEL_INDEX, 0, 31)]) (by decide +kernel) (by decide +kernel)).2 (by decide +kernel)).2.2.2.1 1 0 (by decide +kernel)),
   runs (((h.2.2.2.2 (act [(.MECH_CAL_SEL_SPACE, 0, 0), (.MECH_CAL_SEL_INDEX, 0, 4095), (.MECH_STATE_MOUNTED, 4095, 1)]) (by decide +kernel) (by decide +kernel)).2 (by decide +kernel)).2.2.2.1 63 4096 (by decide +kernel)),
   runs (((h.2.2.2.2 (act [(.MECH_CAL_SEL_SPACE, 0, 3), (.MECH_CAL_SEL_INDEX, 0, 23)]) (by decide +kernel) (by decide +kernel)).2 (by decide +kernel)).2.2.2.2.1 1 0 (by decide +kernel)),
   runs (((h.2.2.2.2 (act [(.MECH_CAL_SEL_SPACE, 0, 0), (.MECH_CAL_SEL_INDEX, 0, 4095), (.MECH_STATE_MOUNTED, 4095, 1), (.MECH_STATE_STATE, 4095, 7)]) (by decide +kernel) (by decide +kernel)).2 (by decide +kernel)).2.2.2.2.1 31 0 (by decide +kernel)),
   runs (((h.2.2.2.2 (act [(.MECH_CAL_SEL_SPACE, 0, 1), (.MECH_CAL_SEL_INDEX, 0, 0)]) (by decide +kernel) (by decide +kernel)).2 (by decide +kernel)).2.2.2.2.2 63 rfl)⟩

/-- The clauses of Obligations.ClusterHandovers at states and operands that meet their hypotheses. -/
theorem witness_ClusterHandovers (h : Obligations.ClusterHandovers) :
    Runs (.clusterFault 15 2) (act [(.CIRQ_STATUS_ROLE, 0, 0), (.CIRQ_STATUS_ROLE, 1, 0), (.CIRQ_STATUS_ROLE, 2, 0), (.CIRQ_STATUS_ROLE, 3, 0), (.CIRQ_STATUS_ROLE, 4, 0), (.CIRQ_STATUS_ROLE, 5, 0), (.CIRQ_STATUS_ROLE, 6, 0), (.CIRQ_STATUS_ROLE, 7, 0), (.CIRQ_STATUS_ROLE, 8, 0), (.CIRQ_STATUS_ROLE, 9, 0), (.CIRQ_STATUS_ROLE, 10, 0), (.CIRQ_STATUS_ROLE, 11, 0), (.CIRQ_STATUS_ROLE, 12, 0), (.CIRQ_STATUS_ROLE, 13, 0), (.CIRQ_STATUS_ROLE, 14, 0), (.CIRQ_STATUS_ROLE, 15, 0), (.CIRQ_STATUS_ROLE, 16, 1)]) ∧
    Runs (.clusterFault 16 2) (act [(.CIRQ_STATUS_ROLE, 0, 0), (.CIRQ_STATUS_ROLE, 1, 0), (.CIRQ_STATUS_ROLE, 2, 0), (.CIRQ_STATUS_ROLE, 3, 0), (.CIRQ_STATUS_ROLE, 4, 0), (.CIRQ_STATUS_ROLE, 5, 0), (.CIRQ_STATUS_ROLE, 6, 0), (.CIRQ_STATUS_ROLE, 7, 0), (.CIRQ_STATUS_ROLE, 8, 0), (.CIRQ_STATUS_ROLE, 9, 0), (.CIRQ_STATUS_ROLE, 10, 0), (.CIRQ_STATUS_ROLE, 11, 0), (.CIRQ_STATUS_ROLE, 12, 0), (.CIRQ_STATUS_ROLE, 13, 0), (.CIRQ_STATUS_ROLE, 14, 0), (.CIRQ_STATUS_ROLE, 15, 0), (.CIRQ_STATUS_ROLE, 16, 1)]) ∧
    Runs (.clusterFault 15 2) (act [(.CIRQ_STATUS_ROLE, 0, 0), (.CIRQ_STATUS_ROLE, 1, 0), (.CIRQ_STATUS_ROLE, 2, 0), (.CIRQ_STATUS_ROLE, 3, 0), (.CIRQ_STATUS_ROLE, 4, 0), (.CIRQ_STATUS_ROLE, 5, 0), (.CIRQ_STATUS_ROLE, 6, 0), (.CIRQ_STATUS_ROLE, 7, 0), (.CIRQ_STATUS_ROLE, 8, 0), (.CIRQ_STATUS_ROLE, 9, 0), (.CIRQ_STATUS_ROLE, 10, 0), (.CIRQ_STATUS_ROLE, 11, 0), (.CIRQ_STATUS_ROLE, 12, 0), (.CIRQ_STATUS_ROLE, 13, 0), (.CIRQ_STATUS_ROLE, 14, 0), (.CIRQ_STATUS_ROLE, 15, 0), (.CIRQ_STATUS_ROLE, 16, 4)]) ∧
    Runs (.handoverServe [4095]) ({ slotted 15 31 0 {} [(.CIRQ_HO_STAT_BUSY, 0, 1)] with cirq := { ho := some { src := 15, dst := 16, at_ := 999999040, lost := [1] } } }) ∧
    Runs (.clusterTestDone 16 true) (act [(.CIRQ_STATUS_ROLE, 16, 2)]) ∧
    Runs (.clusterTestDone 0 true) (act [(.CIRQ_STATUS_ROLE, 16, 1), (.CIRQ_STATUS_ROLE, 0, 3)]) ∧
    Runs (.clusterTestDone 16 false) (act [(.CIRQ_STATUS_ROLE, 16, 3)]) ∧
    Runs (.hoTest 15) (act [(.CIRQ_STATUS_ROLE, 0, 0), (.CIRQ_STATUS_ROLE, 1, 0), (.CIRQ_STATUS_ROLE, 2, 0), (.CIRQ_STATUS_ROLE, 3, 0), (.CIRQ_STATUS_ROLE, 4, 0), (.CIRQ_STATUS_ROLE, 5, 0), (.CIRQ_STATUS_ROLE, 6, 0), (.CIRQ_STATUS_ROLE, 7, 0), (.CIRQ_STATUS_ROLE, 8, 0), (.CIRQ_STATUS_ROLE, 9, 0), (.CIRQ_STATUS_ROLE, 10, 0), (.CIRQ_STATUS_ROLE, 11, 0), (.CIRQ_STATUS_ROLE, 12, 0), (.CIRQ_STATUS_ROLE, 13, 0), (.CIRQ_STATUS_ROLE, 14, 0), (.CIRQ_STATUS_ROLE, 15, 0), (.CIRQ_STATUS_ROLE, 16, 1)]) ∧
    Runs (.hoUcode 15) (act [(.CIRQ_STATUS_ROLE, 0, 0), (.CIRQ_STATUS_ROLE, 1, 0), (.CIRQ_STATUS_ROLE, 2, 0), (.CIRQ_STATUS_ROLE, 3, 0), (.CIRQ_STATUS_ROLE, 4, 0), (.CIRQ_STATUS_ROLE, 5, 0), (.CIRQ_STATUS_ROLE, 6, 0), (.CIRQ_STATUS_ROLE, 7, 0), (.CIRQ_STATUS_ROLE, 8, 0), (.CIRQ_STATUS_ROLE, 9, 0), (.CIRQ_STATUS_ROLE, 10, 0), (.CIRQ_STATUS_ROLE, 11, 0), (.CIRQ_STATUS_ROLE, 12, 0), (.CIRQ_STATUS_ROLE, 13, 0), (.CIRQ_STATUS_ROLE, 14, 0), (.CIRQ_STATUS_ROLE, 15, 0), (.CIRQ_STATUS_ROLE, 16, 1)]) ∧
    Runs (.hoFormat 15 true) (act [(.CIRQ_STATUS_ROLE, 0, 0), (.CIRQ_STATUS_ROLE, 1, 0), (.CIRQ_STATUS_ROLE, 2, 0), (.CIRQ_STATUS_ROLE, 3, 0), (.CIRQ_STATUS_ROLE, 4, 0), (.CIRQ_STATUS_ROLE, 5, 0), (.CIRQ_STATUS_ROLE, 6, 0), (.CIRQ_STATUS_ROLE, 7, 0), (.CIRQ_STATUS_ROLE, 8, 0), (.CIRQ_STATUS_ROLE, 9, 0), (.CIRQ_STATUS_ROLE, 10, 0), (.CIRQ_STATUS_ROLE, 11, 0), (.CIRQ_STATUS_ROLE, 12, 0), (.CIRQ_STATUS_ROLE, 13, 0), (.CIRQ_STATUS_ROLE, 14, 0), (.CIRQ_STATUS_ROLE, 15, 0), (.CIRQ_STATUS_ROLE, 16, 1)]) ∧
    Runs (.hoTest 31) (act [(.CIRQ_STATUS_ROLE, 0, 0), (.CIRQ_STATUS_ROLE, 1, 0), (.CIRQ_STATUS_ROLE, 2, 0), (.CIRQ_STATUS_ROLE, 3, 0), (.CIRQ_STATUS_ROLE, 4, 0), (.CIRQ_STATUS_ROLE, 5, 0), (.CIRQ_STATUS_ROLE, 6, 0), (.CIRQ_STATUS_ROLE, 7, 0), (.CIRQ_STATUS_ROLE, 8, 0), (.CIRQ_STATUS_ROLE, 9, 0), (.CIRQ_STATUS_ROLE, 10, 0), (.CIRQ_STATUS_ROLE, 11, 0), (.CIRQ_STATUS_ROLE, 12, 0), (.CIRQ_STATUS_ROLE, 13, 0), (.CIRQ_STATUS_ROLE, 14, 0), (.CIRQ_STATUS_ROLE, 15, 0), (.CIRQ_STATUS_ROLE, 16, 1)]) ∧
    Runs (.hoUcode 31) (act [(.CIRQ_STATUS_ROLE, 0, 0), (.CIRQ_STATUS_ROLE, 1, 0), (.CIRQ_STATUS_ROLE, 2, 0), (.CIRQ_STATUS_ROLE, 3, 0), (.CIRQ_STATUS_ROLE, 4, 0), (.CIRQ_STATUS_ROLE, 5, 0), (.CIRQ_STATUS_ROLE, 6, 0), (.CIRQ_STATUS_ROLE, 7, 0), (.CIRQ_STATUS_ROLE, 8, 0), (.CIRQ_STATUS_ROLE, 9, 0), (.CIRQ_STATUS_ROLE, 10, 0), (.CIRQ_STATUS_ROLE, 11, 0), (.CIRQ_STATUS_ROLE, 12, 0), (.CIRQ_STATUS_ROLE, 13, 0), (.CIRQ_STATUS_ROLE, 14, 0), (.CIRQ_STATUS_ROLE, 15, 0), (.CIRQ_STATUS_ROLE, 16, 1)]) ∧
    Runs (.hoFormat 31 true) (act [(.CIRQ_STATUS_ROLE, 0, 0), (.CIRQ_STATUS_ROLE, 1, 0), (.CIRQ_STATUS_ROLE, 2, 0), (.CIRQ_STATUS_ROLE, 3, 0), (.CIRQ_STATUS_ROLE, 4, 0), (.CIRQ_STATUS_ROLE, 5, 0), (.CIRQ_STATUS_ROLE, 6, 0), (.CIRQ_STATUS_ROLE, 7, 0), (.CIRQ_STATUS_ROLE, 8, 0), (.CIRQ_STATUS_ROLE, 9, 0), (.CIRQ_STATUS_ROLE, 10, 0), (.CIRQ_STATUS_ROLE, 11, 0), (.CIRQ_STATUS_ROLE, 12, 0), (.CIRQ_STATUS_ROLE, 13, 0), (.CIRQ_STATUS_ROLE, 14, 0), (.CIRQ_STATUS_ROLE, 15, 0), (.CIRQ_STATUS_ROLE, 16, 1)]) ∧
    Runs (.hoTest 0) (act [(.CIRQ_STATUS_ROLE, 0, 0), (.CIRQ_STATUS_ROLE, 1, 0), (.CIRQ_STATUS_ROLE, 2, 0), (.CIRQ_STATUS_ROLE, 3, 0), (.CIRQ_STATUS_ROLE, 4, 0), (.CIRQ_STATUS_ROLE, 5, 0), (.CIRQ_STATUS_ROLE, 6, 0), (.CIRQ_STATUS_ROLE, 7, 0), (.CIRQ_STATUS_ROLE, 8, 0), (.CIRQ_STATUS_ROLE, 9, 0), (.CIRQ_STATUS_ROLE, 10, 0), (.CIRQ_STATUS_ROLE, 11, 0), (.CIRQ_STATUS_ROLE, 12, 0), (.CIRQ_STATUS_ROLE, 13, 0), (.CIRQ_STATUS_ROLE, 14, 0), (.CIRQ_STATUS_ROLE, 15, 0), (.CIRQ_STATUS_ROLE, 16, 1), (.CIRQ_HO_STAT_BUSY, 0, 1)]) ∧
    Runs (.hoUcode 0) (act [(.CIRQ_STATUS_ROLE, 0, 0), (.CIRQ_STATUS_ROLE, 1, 0), (.CIRQ_STATUS_ROLE, 2, 0), (.CIRQ_STATUS_ROLE, 3, 0), (.CIRQ_STATUS_ROLE, 4, 0), (.CIRQ_STATUS_ROLE, 5, 0), (.CIRQ_STATUS_ROLE, 6, 0), (.CIRQ_STATUS_ROLE, 7, 0), (.CIRQ_STATUS_ROLE, 8, 0), (.CIRQ_STATUS_ROLE, 9, 0), (.CIRQ_STATUS_ROLE, 10, 0), (.CIRQ_STATUS_ROLE, 11, 0), (.CIRQ_STATUS_ROLE, 12, 0), (.CIRQ_STATUS_ROLE, 13, 0), (.CIRQ_STATUS_ROLE, 14, 0), (.CIRQ_STATUS_ROLE, 15, 0), (.CIRQ_STATUS_ROLE, 16, 1), (.CIRQ_HO_STAT_BUSY, 0, 1)]) ∧
    Runs (.hoFormat 0 true) (act [(.CIRQ_STATUS_ROLE, 0, 0), (.CIRQ_STATUS_ROLE, 1, 0), (.CIRQ_STATUS_ROLE, 2, 0), (.CIRQ_STATUS_ROLE, 3, 0), (.CIRQ_STATUS_ROLE, 4, 0), (.CIRQ_STATUS_ROLE, 5, 0), (.CIRQ_STATUS_ROLE, 6, 0), (.CIRQ_STATUS_ROLE, 7, 0), (.CIRQ_STATUS_ROLE, 8, 0), (.CIRQ_STATUS_ROLE, 9, 0), (.CIRQ_STATUS_ROLE, 10, 0), (.CIRQ_STATUS_ROLE, 11, 0), (.CIRQ_STATUS_ROLE, 12, 0), (.CIRQ_STATUS_ROLE, 13, 0), (.CIRQ_STATUS_ROLE, 14, 0), (.CIRQ_STATUS_ROLE, 15, 0), (.CIRQ_STATUS_ROLE, 16, 1), (.CIRQ_HO_STAT_BUSY, 0, 1)]) ∧
    Runs (.hoRetest 0) (act [(.CIRQ_STATUS_ROLE, 0, 0), (.CIRQ_STATUS_ROLE, 1, 0), (.CIRQ_STATUS_ROLE, 2, 0), (.CIRQ_STATUS_ROLE, 3, 0), (.CIRQ_STATUS_ROLE, 4, 0), (.CIRQ_STATUS_ROLE, 5, 0), (.CIRQ_STATUS_ROLE, 6, 0), (.CIRQ_STATUS_ROLE, 7, 0), (.CIRQ_STATUS_ROLE, 8, 0), (.CIRQ_STATUS_ROLE, 9, 0), (.CIRQ_STATUS_ROLE, 10, 0), (.CIRQ_STATUS_ROLE, 11, 0), (.CIRQ_STATUS_ROLE, 12, 0), (.CIRQ_STATUS_ROLE, 13, 0), (.CIRQ_STATUS_ROLE, 14, 0), (.CIRQ_STATUS_ROLE, 15, 0), (.CIRQ_STATUS_ROLE, 16, 1)]) ∧
    Runs (.hoRetest 15) (act [(.CIRQ_STATUS_ROLE, 0, 0), (.CIRQ_STATUS_ROLE, 1, 0), (.CIRQ_STATUS_ROLE, 2, 0), (.CIRQ_STATUS_ROLE, 3, 0), (.CIRQ_STATUS_ROLE, 4, 0), (.CIRQ_STATUS_ROLE, 5, 0), (.CIRQ_STATUS_ROLE, 6, 0), (.CIRQ_STATUS_ROLE, 7, 0), (.CIRQ_STATUS_ROLE, 8, 0), (.CIRQ_STATUS_ROLE, 9, 0), (.CIRQ_STATUS_ROLE, 10, 0), (.CIRQ_STATUS_ROLE, 11, 0), (.CIRQ_STATUS_ROLE, 12, 0), (.CIRQ_STATUS_ROLE, 13, 0), (.CIRQ_STATUS_ROLE, 14, 0), (.CIRQ_STATUS_ROLE, 15, 4), (.CIRQ_STATUS_ROLE, 16, 1)]) ∧
    Runs (.plannedSwitch none [4095]) ({ slotted 15 31 0 {} [] with cirq := { ho := some { src := 15, dst := 16, op := 1 } } }) ∧
    Runs (.plannedSwitch none [4095]) ({ slotted 15 31 0 {} [] with cirq := { ho := some { src := 15, dst := 16, op := 2 } } }) ∧
    Runs (.plannedSwitch none [4095]) ({ slotted 15 31 0 {} [] with cirq := { ho := some { src := 15, dst := 16, op := 3 } } }) ∧
    Runs (.plannedSwitch (some 4095) []) ({ slotted 15 31 0 {} [(.CIRQ_STATUS_ROLE, 16, 0)] with cirq := { moves := [{ mn := 4095, cluster := 16, slot := 0 }] } }) ∧
    Runs (.collisionMove 4095) (slotted 15 31 0 {} [(.CIRQ_STATUS_ROLE, 16, 0)]) :=
  ⟨runs (h.1 15 2 (act [(.CIRQ_STATUS_ROLE, 0, 0), (.CIRQ_STATUS_ROLE, 1, 0), (.CIRQ_STATUS_ROLE, 2, 0), (.CIRQ_STATUS_ROLE, 3, 0), (.CIRQ_STATUS_ROLE, 4, 0), (.CIRQ_STATUS_ROLE, 5, 0), (.CIRQ_STATUS_ROLE, 6, 0), (.CIRQ_STATUS_ROLE, 7, 0), (.CIRQ_STATUS_ROLE, 8, 0), (.CIRQ_STATUS_ROLE, 9, 0), (.CIRQ_STATUS_ROLE, 10, 0), (.CIRQ_STATUS_ROLE, 11, 0), (.CIRQ_STATUS_ROLE, 12, 0), (.CIRQ_STATUS_ROLE, 13, 0), (.CIRQ_STATUS_ROLE, 14, 0), (.CIRQ_STATUS_ROLE, 15, 0), (.CIRQ_STATUS_ROLE, 16, 1)])),
   runs (h.1 16 2 (act [(.CIRQ_STATUS_ROLE, 0, 0), (.CIRQ_STATUS_ROLE, 1, 0), (.CIRQ_STATUS_ROLE, 2, 0), (.CIRQ_STATUS_ROLE, 3, 0), (.CIRQ_STATUS_ROLE, 4, 0), (.CIRQ_STATUS_ROLE, 5, 0), (.CIRQ_STATUS_ROLE, 6, 0), (.CIRQ_STATUS_ROLE, 7, 0), (.CIRQ_STATUS_ROLE, 8, 0), (.CIRQ_STATUS_ROLE, 9, 0), (.CIRQ_STATUS_ROLE, 10, 0), (.CIRQ_STATUS_ROLE, 11, 0), (.CIRQ_STATUS_ROLE, 12, 0), (.CIRQ_STATUS_ROLE, 13, 0), (.CIRQ_STATUS_ROLE, 14, 0), (.CIRQ_STATUS_ROLE, 15, 0), (.CIRQ_STATUS_ROLE, 16, 1)])),
   runs (h.1 15 2 (act [(.CIRQ_STATUS_ROLE, 0, 0), (.CIRQ_STATUS_ROLE, 1, 0), (.CIRQ_STATUS_ROLE, 2, 0), (.CIRQ_STATUS_ROLE, 3, 0), (.CIRQ_STATUS_ROLE, 4, 0), (.CIRQ_STATUS_ROLE, 5, 0), (.CIRQ_STATUS_ROLE, 6, 0), (.CIRQ_STATUS_ROLE, 7, 0), (.CIRQ_STATUS_ROLE, 8, 0), (.CIRQ_STATUS_ROLE, 9, 0), (.CIRQ_STATUS_ROLE, 10, 0), (.CIRQ_STATUS_ROLE, 11, 0), (.CIRQ_STATUS_ROLE, 12, 0), (.CIRQ_STATUS_ROLE, 13, 0), (.CIRQ_STATUS_ROLE, 14, 0), (.CIRQ_STATUS_ROLE, 15, 0), (.CIRQ_STATUS_ROLE, 16, 4)])),
   runs (h.2.1 [4095] ({ slotted 15 31 0 {} [(.CIRQ_HO_STAT_BUSY, 0, 1)] with cirq := { ho := some { src := 15, dst := 16, at_ := 999999040, lost := [1] } } }) { src := 15, dst := 16, at_ := 999999040, lost := [1] } rfl rfl (by decide +kernel) (by decide +kernel) (by decide +kernel) (by decide +kernel)),
   runs (h.2.2.1 16 true (act [(.CIRQ_STATUS_ROLE, 16, 2)]) (by decide +kernel) (by decide +kernel)),
   runs (h.2.2.1 0 true (act [(.CIRQ_STATUS_ROLE, 16, 1), (.CIRQ_STATUS_ROLE, 0, 3)]) (by decide +kernel) (by decide +kernel)),
   runs (h.2.2.1 16 false (act [(.CIRQ_STATUS_ROLE, 16, 3)]) (by decide +kernel) (by decide +kernel)),
   runs ((h.2.2.2.1 15 true (act [(.CIRQ_STATUS_ROLE, 0, 0), (.CIRQ_STATUS_ROLE, 1, 0), (.CIRQ_STATUS_ROLE, 2, 0), (.CIRQ_STATUS_ROLE, 3, 0), (.CIRQ_STATUS_ROLE, 4, 0), (.CIRQ_STATUS_ROLE, 5, 0), (.CIRQ_STATUS_ROLE, 6, 0), (.CIRQ_STATUS_ROLE, 7, 0), (.CIRQ_STATUS_ROLE, 8, 0), (.CIRQ_STATUS_ROLE, 9, 0), (.CIRQ_STATUS_ROLE, 10, 0), (.CIRQ_STATUS_ROLE, 11, 0), (.CIRQ_STATUS_ROLE, 12, 0), (.CIRQ_STATUS_ROLE, 13, 0), (.CIRQ_STATUS_ROLE, 14, 0), (.CIRQ_STATUS_ROLE, 15, 0), (.CIRQ_STATUS_ROLE, 16, 1)]) (by decide +kernel)).1),
   runs ((h.2.2.2.1 15 true (act [(.CIRQ_STATUS_ROLE, 0, 0), (.CIRQ_STATUS_ROLE, 1, 0), (.CIRQ_STATUS_ROLE, 2, 0), (.CIRQ_STATUS_ROLE, 3, 0), (.CIRQ_STATUS_ROLE, 4, 0), (.CIRQ_STATUS_ROLE, 5, 0), (.CIRQ_STATUS_ROLE, 6, 0), (.CIRQ_STATUS_ROLE, 7, 0), (.CIRQ_STATUS_ROLE, 8, 0), (.CIRQ_STATUS_ROLE, 9, 0), (.CIRQ_STATUS_ROLE, 10, 0), (.CIRQ_STATUS_ROLE, 11, 0), (.CIRQ_STATUS_ROLE, 12, 0), (.CIRQ_STATUS_ROLE, 13, 0), (.CIRQ_STATUS_ROLE, 14, 0), (.CIRQ_STATUS_ROLE, 15, 0), (.CIRQ_STATUS_ROLE, 16, 1)]) (by decide +kernel)).2.1),
   runs ((h.2.2.2.1 15 true (act [(.CIRQ_STATUS_ROLE, 0, 0), (.CIRQ_STATUS_ROLE, 1, 0), (.CIRQ_STATUS_ROLE, 2, 0), (.CIRQ_STATUS_ROLE, 3, 0), (.CIRQ_STATUS_ROLE, 4, 0), (.CIRQ_STATUS_ROLE, 5, 0), (.CIRQ_STATUS_ROLE, 6, 0), (.CIRQ_STATUS_ROLE, 7, 0), (.CIRQ_STATUS_ROLE, 8, 0), (.CIRQ_STATUS_ROLE, 9, 0), (.CIRQ_STATUS_ROLE, 10, 0), (.CIRQ_STATUS_ROLE, 11, 0), (.CIRQ_STATUS_ROLE, 12, 0), (.CIRQ_STATUS_ROLE, 13, 0), (.CIRQ_STATUS_ROLE, 14, 0), (.CIRQ_STATUS_ROLE, 15, 0), (.CIRQ_STATUS_ROLE, 16, 1)]) (by decide +kernel)).2.2.1),
   runs ((h.2.2.2.1 31 true (act [(.CIRQ_STATUS_ROLE, 0, 0), (.CIRQ_STATUS_ROLE, 1, 0), (.CIRQ_STATUS_ROLE, 2, 0), (.CIRQ_STATUS_ROLE, 3, 0), (.CIRQ_STATUS_ROLE, 4, 0), (.CIRQ_STATUS_ROLE, 5, 0), (.CIRQ_STATUS_ROLE, 6, 0), (.CIRQ_STATUS_ROLE, 7, 0), (.CIRQ_STATUS_ROLE, 8, 0), (.CIRQ_STATUS_ROLE, 9, 0), (.CIRQ_STATUS_ROLE, 10, 0), (.CIRQ_STATUS_ROLE, 11, 0), (.CIRQ_STATUS_ROLE, 12, 0), (.CIRQ_STATUS_ROLE, 13, 0), (.CIRQ_STATUS_ROLE, 14, 0), (.CIRQ_STATUS_ROLE, 15, 0), (.CIRQ_STATUS_ROLE, 16, 1)]) (by decide +kernel)).1),
   runs ((h.2.2.2.1 31 true (act [(.CIRQ_STATUS_ROLE, 0, 0), (.CIRQ_STATUS_ROLE, 1, 0), (.CIRQ_STATUS_ROLE, 2, 0), (.CIRQ_STATUS_ROLE, 3, 0), (.CIRQ_STATUS_ROLE, 4, 0), (.CIRQ_STATUS_ROLE, 5, 0), (.CIRQ_STATUS_ROLE, 6, 0), (.CIRQ_STATUS_ROLE, 7, 0), (.CIRQ_STATUS_ROLE, 8, 0), (.CIRQ_STATUS_ROLE, 9, 0), (.CIRQ_STATUS_ROLE, 10, 0), (.CIRQ_STATUS_ROLE, 11, 0), (.CIRQ_STATUS_ROLE, 12, 0), (.CIRQ_STATUS_ROLE, 13, 0), (.CIRQ_STATUS_ROLE, 14, 0), (.CIRQ_STATUS_ROLE, 15, 0), (.CIRQ_STATUS_ROLE, 16, 1)]) (by decide +kernel)).2.1),
   runs ((h.2.2.2.1 31 true (act [(.CIRQ_STATUS_ROLE, 0, 0), (.CIRQ_STATUS_ROLE, 1, 0), (.CIRQ_STATUS_ROLE, 2, 0), (.CIRQ_STATUS_ROLE, 3, 0), (.CIRQ_STATUS_ROLE, 4, 0), (.CIRQ_STATUS_ROLE, 5, 0), (.CIRQ_STATUS_ROLE, 6, 0), (.CIRQ_STATUS_ROLE, 7, 0), (.CIRQ_STATUS_ROLE, 8, 0), (.CIRQ_STATUS_ROLE, 9, 0), (.CIRQ_STATUS_ROLE, 10, 0), (.CIRQ_STATUS_ROLE, 11, 0), (.CIRQ_STATUS_ROLE, 12, 0), (.CIRQ_STATUS_ROLE, 13, 0), (.CIRQ_STATUS_ROLE, 14, 0), (.CIRQ_STATUS_ROLE, 15, 0), (.CIRQ_STATUS_ROLE, 16, 1)]) (by decide +kernel)).2.2.1),
   runs ((h.2.2.2.1 0 true (act [(.CIRQ_STATUS_ROLE, 0, 0), (.CIRQ_STATUS_ROLE, 1, 0), (.CIRQ_STATUS_ROLE, 2, 0), (.CIRQ_STATUS_ROLE, 3, 0), (.CIRQ_STATUS_ROLE, 4, 0), (.CIRQ_STATUS_ROLE, 5, 0), (.CIRQ_STATUS_ROLE, 6, 0), (.CIRQ_STATUS_ROLE, 7, 0), (.CIRQ_STATUS_ROLE, 8, 0), (.CIRQ_STATUS_ROLE, 9, 0), (.CIRQ_STATUS_ROLE, 10, 0), (.CIRQ_STATUS_ROLE, 11, 0), (.CIRQ_STATUS_ROLE, 12, 0), (.CIRQ_STATUS_ROLE, 13, 0), (.CIRQ_STATUS_ROLE, 14, 0), (.CIRQ_STATUS_ROLE, 15, 0), (.CIRQ_STATUS_ROLE, 16, 1), (.CIRQ_HO_STAT_BUSY, 0, 1)]) (by decide +kernel)).1),
   runs ((h.2.2.2.1 0 true (act [(.CIRQ_STATUS_ROLE, 0, 0), (.CIRQ_STATUS_ROLE, 1, 0), (.CIRQ_STATUS_ROLE, 2, 0), (.CIRQ_STATUS_ROLE, 3, 0), (.CIRQ_STATUS_ROLE, 4, 0), (.CIRQ_STATUS_ROLE, 5, 0), (.CIRQ_STATUS_ROLE, 6, 0), (.CIRQ_STATUS_ROLE, 7, 0), (.CIRQ_STATUS_ROLE, 8, 0), (.CIRQ_STATUS_ROLE, 9, 0), (.CIRQ_STATUS_ROLE, 10, 0), (.CIRQ_STATUS_ROLE, 11, 0), (.CIRQ_STATUS_ROLE, 12, 0), (.CIRQ_STATUS_ROLE, 13, 0), (.CIRQ_STATUS_ROLE, 14, 0), (.CIRQ_STATUS_ROLE, 15, 0), (.CIRQ_STATUS_ROLE, 16, 1), (.CIRQ_HO_STAT_BUSY, 0, 1)]) (by decide +kernel)).2.1),
   runs ((h.2.2.2.1 0 true (act [(.CIRQ_STATUS_ROLE, 0, 0), (.CIRQ_STATUS_ROLE, 1, 0), (.CIRQ_STATUS_ROLE, 2, 0), (.CIRQ_STATUS_ROLE, 3, 0), (.CIRQ_STATUS_ROLE, 4, 0), (.CIRQ_STATUS_ROLE, 5, 0), (.CIRQ_STATUS_ROLE, 6, 0), (.CIRQ_STATUS_ROLE, 7, 0), (.CIRQ_STATUS_ROLE, 8, 0), (.CIRQ_STATUS_ROLE, 9, 0), (.CIRQ_STATUS_ROLE, 10, 0), (.CIRQ_STATUS_ROLE, 11, 0), (.CIRQ_STATUS_ROLE, 12, 0), (.CIRQ_STATUS_ROLE, 13, 0), (.CIRQ_STATUS_ROLE, 14, 0), (.CIRQ_STATUS_ROLE, 15, 0), (.CIRQ_STATUS_ROLE, 16, 1), (.CIRQ_HO_STAT_BUSY, 0, 1)]) (by decide +kernel)).2.2.1),
   runs ((h.2.2.2.1 0 true (act [(.CIRQ_STATUS_ROLE, 0, 0), (.CIRQ_STATUS_ROLE, 1, 0), (.CIRQ_STATUS_ROLE, 2, 0), (.CIRQ_STATUS_ROLE, 3, 0), (.CIRQ_STATUS_ROLE, 4, 0), (.CIRQ_STATUS_ROLE, 5, 0), (.CIRQ_STATUS_ROLE, 6, 0), (.CIRQ_STATUS_ROLE, 7, 0), (.CIRQ_STATUS_ROLE, 8, 0), (.CIRQ_STATUS_ROLE, 9, 0), (.CIRQ_STATUS_ROLE, 10, 0), (.CIRQ_STATUS_ROLE, 11, 0), (.CIRQ_STATUS_ROLE, 12, 0), (.CIRQ_STATUS_ROLE, 13, 0), (.CIRQ_STATUS_ROLE, 14, 0), (.CIRQ_STATUS_ROLE, 15, 0), (.CIRQ_STATUS_ROLE, 16, 1)]) (by decide +kernel)).2.2.2 (by decide +kernel) (by decide +kernel)),
   runs ((h.2.2.2.1 15 true (act [(.CIRQ_STATUS_ROLE, 0, 0), (.CIRQ_STATUS_ROLE, 1, 0), (.CIRQ_STATUS_ROLE, 2, 0), (.CIRQ_STATUS_ROLE, 3, 0), (.CIRQ_STATUS_ROLE, 4, 0), (.CIRQ_STATUS_ROLE, 5, 0), (.CIRQ_STATUS_ROLE, 6, 0), (.CIRQ_STATUS_ROLE, 7, 0), (.CIRQ_STATUS_ROLE, 8, 0), (.CIRQ_STATUS_ROLE, 9, 0), (.CIRQ_STATUS_ROLE, 10, 0), (.CIRQ_STATUS_ROLE, 11, 0), (.CIRQ_STATUS_ROLE, 12, 0), (.CIRQ_STATUS_ROLE, 13, 0), (.CIRQ_STATUS_ROLE, 14, 0), (.CIRQ_STATUS_ROLE, 15, 4), (.CIRQ_STATUS_ROLE, 16, 1)]) (by decide +kernel)).2.2.2 (by decide +kernel) (by decide +kernel)),
   runs (h.2.2.2.2.1 [4095] ({ slotted 15 31 0 {} [] with cirq := { ho := some { src := 15, dst := 16, op := 1 } } }) { src := 15, dst := 16, op := 1 } rfl (by decide +kernel) (by decide +kernel) (by decide +kernel) (by decide +kernel)),
   runs (h.2.2.2.2.1 [4095] ({ slotted 15 31 0 {} [] with cirq := { ho := some { src := 15, dst := 16, op := 2 } } }) { src := 15, dst := 16, op := 2 } rfl (by decide +kernel) (by decide +kernel) (by decide +kernel) (by decide +kernel)),
   runs (h.2.2.2.2.1 [4095] ({ slotted 15 31 0 {} [] with cirq := { ho := some { src := 15, dst := 16, op := 3 } } }) { src := 15, dst := 16, op := 3 } rfl (by decide +kernel) (by decide +kernel) (by decide +kernel) (by decide +kernel)),
   runs (h.2.2.2.2.2.1 4095 [] ({ slotted 15 31 0 {} [(.CIRQ_STATUS_ROLE, 16, 0)] with cirq := { moves := [{ mn := 4095, cluster := 16, slot := 0 }] } }) { mn := 4095, cluster := 16, slot := 0 } (by decide +kernel) (by decide +kernel) (by decide +kernel) (by decide +kernel) (by decide +kernel) (by decide +kernel) (by decide +kernel) (by decide +kernel)),
   runs (h.2.2.2.2.2.2 4095 (slotted 15 31 0 {} [(.CIRQ_STATUS_ROLE, 16, 0)]) (by decide +kernel) (by decide +kernel))⟩

/-- The clauses of Obligations.CoefficientBanks at states and operands that meet their hypotheses. -/
theorem witness_CoefficientBanks (h : Obligations.CoefficientBanks) :
    Runs (.coefStageToShadow 4095 7) (slotted 16 31 0 {} staged) ∧
    Runs (.coefStageToShadow 4095 7) (slotted 16 31 0 {} []) ∧
    Runs (.coefStageToShadow 4095 7) (slotted 16 31 32768 {} staged) ∧
    Runs (.coefStageToShadow 0 0) (act []) ∧
    Runs (.coefShadowToStage 4095 7) (slotted 16 31 0 {} []) ∧
    Runs (.coefShadowToStage 4095 7) (slotted 16 31 0 { loops := [(7, { shadow := commDefault, active := commDefault })] } []) ∧
    Runs (.coefActiveToStage 4095 7) (slotted 16 31 0 { loops := [(7, { shadow := commDefault, active := commDefault })] } []) ∧
    Runs (.coefShadowToStage 4095 7) ({ slotted 16 31 0 {} staged with cirq := { ho := some { src := 16, dst := 0 } } }) ∧
    Runs (.coefStageToShadow 4095 7) ({ slotted 16 31 0 {} staged with cirq := { ho := some { src := 16, dst := 0 } } }) ∧
    Runs (.coefStageToLibrary 7 7 true) (act staged) ∧
    Runs (.coefStageToLibrary 7 7 false) (act staged) ∧
    Runs (.coefStageToLibrary 7 7 true) (act []) ∧
    Runs (.coefLibraryToStage 0 7 true) (act []) ∧
    Runs (.swapFromShadow 4095 64) (slotted 16 31 21845 { loops := [(6, { shadow := commDefault })] } [(.CIRQ_FMT_FMT, 16, 1)]) ∧
    Runs (.swapFromShadow 4095 255) (slotted 16 31 21845 { loops := [(6, { shadow := commDefault })] } [(.CIRQ_FMT_FMT, 16, 1)]) ∧
    Runs (.swapFromLibrary 4095 64) (slotted 16 31 21845 { loops := [(6, { shadow := commDefault })] } [(.CIRQ_FMT_FMT, 16, 1)]) ∧
    Runs (.swapAbort 4095) (slotted 16 31 0 {} []) ∧
    Runs (.swapAbort 4095) (slotted 16 31 0 { swap := some { mask := 1, src := 1 } } []) ∧
    Runs (.swapAbort 4095) (slotted 16 31 0 { swap := some { mask := 1, src := 1, entered := true } } []) ∧
    Runs (.swapAbort 0) (act []) ∧
    Runs (.swapExecute 4095) (slotted 16 31 10922 { swap := some { mask := 0x41, src := 1, entered := true } } []) ∧
    Runs (.swapHoldTimeout 4095) (slotted 16 31 10922 { swap := some { mask := 0x41, src := 1, entered := true, periods := 2000 } } []) :=
  ⟨runs ((h.1 4095 7 (slotted 16 31 0 {} staged) (by decide +kernel) (by decide +kernel) (by decide +kernel)).1),
   runs ((h.1 4095 7 (slotted 16 31 0 {} []) (by decide +kernel) (by decide +kernel) (by decide +kernel)).1),
   runs ((h.1 4095 7 (slotted 16 31 32768 {} staged) (by decide +kernel) (by decide +kernel) (by decide +kernel)).1),
   runs ((h.1 0 0 (act []) (by decide +kernel) (by decide +kernel) (by decide +kernel)).1),
   runs ((h.1 4095 7 (slotted 16 31 0 {} []) (by decide +kernel) (by decide +kernel) (by decide +kernel)).2.1),
   runs ((h.1 4095 7 (slotted 16 31 0 { loops := [(7, { shadow := commDefault, active := commDefault })] } []) (by decide +kernel) (by decide +kernel) (by decide +kernel)).2.1),
   runs ((h.1 4095 7 (slotted 16 31 0 { loops := [(7, { shadow := commDefault, active := commDefault })] } []) (by decide +kernel) (by decide +kernel) (by decide +kernel)).2.2 (by decide +kernel)),
   runs ((h.2.1 4095 7 ({ slotted 16 31 0 {} staged with cirq := { ho := some { src := 16, dst := 0 } } }) (by decide +kernel) (by decide +kernel) (by decide +kernel)).1 (.coefShadowToStage 4095 7) (by decide)),
   runs ((h.2.1 4095 7 ({ slotted 16 31 0 {} staged with cirq := { ho := some { src := 16, dst := 0 } } }) (by decide +kernel) (by decide +kernel) (by decide +kernel)).2),
   runs ((h.2.2.1 7 7 true (act staged) (by decide +kernel) (by decide +kernel)).1),
   runs ((h.2.2.1 7 7 false (act staged) (by decide +kernel) (by decide +kernel)).1),
   runs ((h.2.2.1 7 7 true (act []) (by decide +kernel) (by decide +kernel)).1),
   runs ((h.2.2.1 0 7 true (act []) (by decide +kernel) (by decide +kernel)).2),
   runs ((h.2.2.2.1 4095 64 (slotted 16 31 21845 { loops := [(6, { shadow := commDefault })] } [(.CIRQ_FMT_FMT, 16, 1)]) (by decide +kernel)).1),
   runs ((h.2.2.2.1 4095 255 (slotted 16 31 21845 { loops := [(6, { shadow := commDefault })] } [(.CIRQ_FMT_FMT, 16, 1)]) (by decide +kernel)).1),
   runs ((h.2.2.2.1 4095 64 (slotted 16 31 21845 { loops := [(6, { shadow := commDefault })] } [(.CIRQ_FMT_FMT, 16, 1)]) (by decide +kernel)).2.1),
   runs ((h.2.2.2.1 4095 1 (slotted 16 31 0 {} []) (by decide +kernel)).2.2),
   runs ((h.2.2.2.1 4095 1 (slotted 16 31 0 { swap := some { mask := 1, src := 1 } } []) (by decide +kernel)).2.2),
   runs ((h.2.2.2.1 4095 1 (slotted 16 31 0 { swap := some { mask := 1, src := 1, entered := true } } []) (by decide +kernel)).2.2),
   runs ((h.2.2.2.1 0 1 (act []) (by decide +kernel)).2.2),
   runs ((h.2.2.2.2 4095 (slotted 16 31 10922 { swap := some { mask := 0x41, src := 1, entered := true } } []) { mask := 0x41, src := 1, entered := true } (by decide +kernel) (by decide +kernel) (by decide +kernel)).1 rfl (by decide +kernel)),
   runs ((h.2.2.2.2 4095 (slotted 16 31 10922 { swap := some { mask := 0x41, src := 1, entered := true, periods := 2000 } } []) { mask := 0x41, src := 1, entered := true, periods := 2000 } (by decide +kernel) (by decide +kernel) (by decide +kernel)).2 (by decide +kernel))⟩

def slot0 : UpSlot := { drop := 63 }
def boundLoop : LoopX := { active := [0, 2 ^ 31, 2 ^ 31] }

/-- The clauses of Obligations.ServoSamples at states and operands that meet their hypotheses. -/
theorem witness_ServoSamples (h : Obligations.ServoSamples) :
    Runs (.slotSample 4095 slot0) (mapped (slotted 16 31 21845 {} [])) ∧
    Runs (.slotSample 4095 slot0) (mapped ({ slotted 16 31 0 {} [(.MECH_STATE_STATE, 4095, 6)] with cirq := { uncomputed := [16] } })) ∧
    Runs (.slotSample 4095 slot0) (mapped ({ slotted 16 31 0 {} [(.MECH_STATE_STATE, 4095, 6), (.PEN_GCFG_MISS_LIMIT, 0, 1)] with cirq := { uncomputed := [16] } })) ∧
    Runs (.slotSample 4095 slot0) (slotted 16 31 0 {} [(.CIRQ_STATUS_ROLE, 16, 2)]) ∧
    recOutMin ([] : List Nat) ≤ (loopSample 0 {} 1 5 0 0).o3 ∧
    Runs (.injStart 16 4095 1 0 0) (servoAt 4 {} [(.CIRQ_INJ_F0_DPHI, 16, 1), (.CIRQ_INJ_F1_DPHI, 16, 1), (.CIRQ_INJ_STEP_DWELL, 16, 1)]) ∧
    Runs (.injStart 16 4095 7 15 3) (servoAt 4 {} [(.CIRQ_INJ_F0_DPHI, 16, 1), (.CIRQ_INJ_F1_DPHI, 16, 1), (.CIRQ_INJ_STEP_DWELL, 16, 1)]) ∧
    Runs (.injStop 16) ({ slotted 16 31 0 {} [] with cirq := { inj := [(16, some {})], cap := [(16, { armed := true })] } }) ∧
    Runs (.capStop 16) ({ slotted 16 31 0 {} [] with cirq := { inj := [(16, some {})], cap := [(16, { armed := true })] } }) ∧
    Runs (.capArm 16 4095 0 0) (slotted 16 31 0 {} []) ∧
    Runs (.capArm 16 4095 15 3) (slotted 16 31 0 {} []) :=
  ⟨runs (h.1 4095 slot0 (mapped (slotted 16 31 21845 {} []))),
   runs (h.1 4095 slot0 (mapped ({ slotted 16 31 0 {} [(.MECH_STATE_STATE, 4095, 6)] with cirq := { uncomputed := [16] } }))),
   runs (h.1 4095 slot0 (mapped ({ slotted 16 31 0 {} [(.MECH_STATE_STATE, 4095, 6), (.PEN_GCFG_MISS_LIMIT, 0, 1)] with cirq := { uncomputed := [16] } }))),
   runs (h.1 4095 slot0 (slotted 16 31 0 {} [(.CIRQ_STATUS_ROLE, 16, 2)])),
   (h.2.1 0 {} 1 5 0 0 (by decide +kernel)).1,
   runs (h.2.2.1 16 4095 1 0 0 (servoAt 4 {} [(.CIRQ_INJ_F0_DPHI, 16, 1), (.CIRQ_INJ_F1_DPHI, 16, 1), (.CIRQ_INJ_STEP_DWELL, 16, 1)]) (by decide +kernel)),
   runs (h.2.2.1 16 4095 7 15 3 (servoAt 4 {} [(.CIRQ_INJ_F0_DPHI, 16, 1), (.CIRQ_INJ_F1_DPHI, 16, 1), (.CIRQ_INJ_STEP_DWELL, 16, 1)]) (by decide +kernel)),
   runs (h.2.2.2.1 16 ({ slotted 16 31 0 {} [] with cirq := { inj := [(16, some {})], cap := [(16, { armed := true })] } }) (by decide +kernel) (by decide +kernel)),
   runs (h.2.2.2.2.2 16 ({ slotted 16 31 0 {} [] with cirq := { inj := [(16, some {})], cap := [(16, { armed := true })] } }) (by decide +kernel) (by decide +kernel)),
   runs (h.2.2.2.2.1 16 4095 0 0 (slotted 16 31 0 {} []) (by decide +kernel)),
   runs (h.2.2.2.2.1 16 4095 15 3 (slotted 16 31 0 {} []) (by decide +kernel))⟩

/-- The clauses of Obligations.AcquisitionCommands at states and operands that meet their hypotheses. -/
theorem witness_AcquisitionCommands (h : Obligations.AcquisitionCommands) :
    Runs (.pullInAttemptTimeout 4095) (servoAt 0 { seq := { step := 3 }, sq := seqDefault 0 } [(.MECH_STATE_STATE, 4095, 4)]) ∧
    FaultTaken 4095 0x60 ((servoAt 0 { seq := { step := 3, attempts := 8 }, sq := seqDefault 0 } [(.MECH_STATE_STATE, 4095, 4)]).attemptReturned 4095) ∧
    (((servoAt 0 { seq := { step := 3, attempts := 0 }, sq := seqDefault 0 } [(.MECH_STATE_STATE, 4095, 4)]).attemptReturned (4095 : Mn)).sx (4095 : Mn)).seq.step = 1 ∧
    Runs (.layerStepTimeout 4095) (servoAt 0 { seq := { step := 5, jumpSign := 1 }, sq := seqDefault 0 } [(.MECH_STATE_STATE, 4095, 4)]) ∧
    Runs (.trackOnTimeout 4095) (servoAt 0 { seq := { step := 6 }, sq := seqDefault 0 } [(.MECH_STATE_STATE, 4095, 5)]) ∧
    Runs (.layerJump 4095 9) (servoAt 21845 { layer := 8, sq := seqDefault 0 } [(.MECH_STATE_STATE, 4095, 5), (.MECH_DISC_LAYERS, 4095, 10)]) ∧
    Runs (.layerJump 4095 9) (servoAt 21845 { layer := 8, sq := seqDefault 0 } [(.MECH_STATE_STATE, 4095, 7), (.MECH_DISC_LAYERS, 4095, 10)]) ∧
    Runs (.trackJump 4095 (-4)) (servoAt 21845 { sq := seqDefault 0 } [(.MECH_STATE_STATE, 4095, 6), (.MECH_DISC_MEDIA, 4095, 1)]) ∧
    Runs (.longSeek 4095 (-2000) none) ({ servoAt 21845 { sq := seqDefault 0 } [(.MECH_STATE_STATE, 4095, 6), (.MECH_SLED_STAT_POS_VALID, 4095, 1), (.MECH_SLED_LIM_OUT_LIM, 4095, 0x7FFFFFFF)] with breath := { grants := [(4095, { seek := some 1 })] } }) ∧
    Runs (.longSeek 4095 (-2000) none) ({ servoAt 21845 { sq := seqDefault 0 } [(.MECH_STATE_STATE, 4095, 6), (.MECH_SLED_STAT_POS_VALID, 4095, 1), (.MECH_SLED_LIM_OUT_LIM, 4095, 0x7FFFFFFF), (.MECH_SLED_LIM_IN_LIM, 4095, 0x7FFFFFFF)] with breath := { grants := [(4095, { seek := some 1 })] } }) ∧
    Runs (.longSeek 4095 (-2000) none) ({ servoAt 21845 { seq := { step := 6, sub := 6, seekRounds := 8 }, sq := seqDefault 0 } [(.MECH_STATE_STATE, 4095, 6), (.MECH_SLED_STAT_POS_VALID, 4095, 1), (.MECH_SLED_LIM_OUT_LIM, 4095, 0x7FFFFFFF)] with breath := { grants := [(4095, { seek := some 1 })] } }) :=
  ⟨runs ((h.1 4095 (servoAt 0 { seq := { step := 3 }, sq := seqDefault 0 } [(.MECH_STATE_STATE, 4095, 4)]) (by decide +kernel) (by decide +kernel)).1 (by decide +kernel) (by decide +kernel) (by decide +kernel) (by decide +kernel) (by decide +kernel)),
   (h.1 4095 (servoAt 0 { seq := { step := 3, attempts := 8 }, sq := seqDefault 0 } [(.MECH_STATE_STATE, 4095, 4)]) (by decide +kernel) (by decide +kernel)).2.1 (by decide +kernel) (by decide +kernel),
   ((h.1 4095 (servoAt 0 { seq := { step := 3, attempts := 0 }, sq := seqDefault 0 } [(.MECH_STATE_STATE, 4095, 4)]) (by decide +kernel) (by decide +kernel)).2.2.1 (by decide +kernel)).1,
   runs ((h.1 4095 (servoAt 0 { seq := { step := 5, jumpSign := 1 }, sq := seqDefault 0 } [(.MECH_STATE_STATE, 4095, 4)]) (by decide +kernel) (by decide +kernel)).2.2.2.1 (by decide +kernel) (by decide +kernel) (by decide +kernel) (by decide +kernel) (by decide +kernel)),
   runs ((h.1 4095 (servoAt 0 { seq := { step := 6 }, sq := seqDefault 0 } [(.MECH_STATE_STATE, 4095, 5)]) (by decide +kernel) (by decide +kernel)).2.2.2.2 (by decide +kernel) (by decide +kernel) (by decide +kernel)),
   runs (h.2.1 4095 9 (servoAt 21845 { layer := 8, sq := seqDefault 0 } [(.MECH_STATE_STATE, 4095, 5), (.MECH_DISC_LAYERS, 4095, 10)]) (by decide +kernel) (by decide +kernel) (by decide +kernel) (by decide +kernel) (by decide +kernel) (by decide +kernel)),
   runs (h.2.1 4095 9 (servoAt 21845 { layer := 8, sq := seqDefault 0 } [(.MECH_STATE_STATE, 4095, 7), (.MECH_DISC_LAYERS, 4095, 10)]) (by decide +kernel) (by decide +kernel) (by decide +kernel) (by decide +kernel) (by decide +kernel) (by decide +kernel)),
   runs (h.2.2.1 4095 (-4) (servoAt 21845 { sq := seqDefault 0 } [(.MECH_STATE_STATE, 4095, 6), (.MECH_DISC_MEDIA, 4095, 1)]) (by decide +kernel) (by decide +kernel) (by decide +kernel)),
   runs (h.2.2.2 4095 (-2000) none ({ servoAt 21845 { sq := seqDefault 0 } [(.MECH_STATE_STATE, 4095, 6), (.MECH_SLED_STAT_POS_VALID, 4095, 1), (.MECH_SLED_LIM_OUT_LIM, 4095, 0x7FFFFFFF)] with breath := { grants := [(4095, { seek := some 1 })] } }) (by decide +kernel) (by decide +kernel) (by decide +kernel) (by decide +kernel) (by decide +kernel)),
   runs (h.2.2.2 4095 (-2000) none ({ servoAt 21845 { sq := seqDefault 0 } [(.MECH_STATE_STATE, 4095, 6), (.MECH_SLED_STAT_POS_VALID, 4095, 1), (.MECH_SLED_LIM_OUT_LIM, 4095, 0x7FFFFFFF), (.MECH_SLED_LIM_IN_LIM, 4095, 0x7FFFFFFF)] with breath := { grants := [(4095, { seek := some 1 })] } }) (by decide +kernel) (by decide +kernel) (by decide +kernel) (by decide +kernel) (by decide +kernel)),
   runs (h.2.2.2 4095 (-2000) none ({ servoAt 21845 { seq := { step := 6, sub := 6, seekRounds := 8 }, sq := seqDefault 0 } [(.MECH_STATE_STATE, 4095, 6), (.MECH_SLED_STAT_POS_VALID, 4095, 1), (.MECH_SLED_LIM_OUT_LIM, 4095, 0x7FFFFFFF)] with breath := { grants := [(4095, { seek := some 1 })] } }) (by decide +kernel) (by decide +kernel) (by decide +kernel) (by decide +kernel) (by decide +kernel))⟩

/-- The clauses of Obligations.AddressesAndProfiles at states and operands that meet their hypotheses. -/
theorem witness_AddressesAndProfiles (h : Obligations.AddressesAndProfiles) :
    Runs (.addressRead 4095 3 (.wobble 0 5) (some 7) none) ({ servoAt 0 { addrDone := true, sq := seqDefault 0 } [(.MECH_STATE_STATE, 4095, 6), (.MECH_DISC_MEDIA, 4095, 1)] with chan := { discs := [(4095, { zones := [(22400000, 0)] })] } }) ∧
    Runs (.addressRead 4095 0 (.header 0 0 0) (some 0x80000000) none) ({ servoAt 0 { addrDone := true, sq := seqDefault 0 } [(.MECH_STATE_STATE, 4095, 6), (.MECH_DISC_MEDIA, 4095, 1)] with chan := { discs := [(4095, { zones := [(22400000, 0)] })] } }) ∧
    Runs (.addressRead 4095 0 (.header 0 0 0) none none) (servoAt 4 { addrDone := true, seq := { step := 6, sub := 6 }, sq := seqDefault 0 } [(.MECH_STATE_STATE, 4095, 5), (.MECH_DISC_MEDIA, 4095, 1)]) ∧
    Runs (.addressRead 4095 0 (.header 0 0 0) none (some 0)) (servoAt 4 { addrDone := true, seq := { step := 6, sub := 6 }, sq := seqDefault 0 } [(.MECH_STATE_STATE, 4095, 5), (.MECH_DISC_MEDIA, 4095, 1), (.MECH_SERVO_LANE_VALID, 4095, 1)]) ∧
    Runs (.addressRead 4095 0 (.bd 0 5 6) none none) (servoAt 4 { addrDone := true, seq := { check := true }, sq := seqDefault 0 } [(.MECH_STATE_STATE, 4095, 7), (.MECH_DISC_MEDIA, 4095, 8), (.MECH_SERVO_LANE_VALID, 4095, 1)]) ∧
    Runs (.addressRead 4095 0 (.header 1 0 0) none none) (servoAt 4 { addrDone := true, seq := { step := 6, sub := 6 }, sq := seqDefault 0 } [(.MECH_STATE_STATE, 4095, 5), (.MECH_DISC_MEDIA, 4095, 1)]) ∧
    Runs (.addressRead 4095 0 (.wobble 0 5) none none) (servoAt 4 { addr := some (.wobble 0 6, 6), addrAt := 0x10000000000, sq := seqDefault 0 } [(.MECH_STATE_STATE, 4095, 6), (.MECH_DISC_MEDIA, 4095, 1)]) ∧
    Runs (.profileAlign 4095) (servoAt 4 { seq := { step := 9 }, prof := { capAngle := 2 ^ 31 }, sq := seqDefault 0 } [(.MECH_STATE_STATE, 4095, 5), (.MECH_DISC_MEDIA, 4095, 1)]) ∧
    Runs (.profileLearnDone 4095) (servoAt 4 { prof := { learning := true, revs := 16, bins := [(0, 5, 6, 2)] }, sq := seqDefault 0 } [(.MECH_STATE_STATE, 4095, 6), (.MECH_DISC_MEDIA, 4095, 1)]) :=
  ⟨runs ((h.1 4095 3 (.wobble 0 5) (some 7) none ({ servoAt 0 { addrDone := true, sq := seqDefault 0 } [(.MECH_STATE_STATE, 4095, 6), (.MECH_DISC_MEDIA, 4095, 1)] with chan := { discs := [(4095, { zones := [(22400000, 0)] })] } }) (by decide +kernel) (by decide +kernel)).1 rfl (by decide +kernel) (by decide +kernel)),
   runs ((h.1 4095 0 (.header 0 0 0) (some 0x80000000) none ({ servoAt 0 { addrDone := true, sq := seqDefault 0 } [(.MECH_STATE_STATE, 4095, 6), (.MECH_DISC_MEDIA, 4095, 1)] with chan := { discs := [(4095, { zones := [(22400000, 0)] })] } }) (by decide +kernel) (by decide +kernel)).1 rfl (by decide +kernel) (by decide +kernel)),
   runs ((h.1 4095 0 (.header 0 0 0) none none (servoAt 4 { addrDone := true, seq := { step := 6, sub := 6 }, sq := seqDefault 0 } [(.MECH_STATE_STATE, 4095, 5), (.MECH_DISC_MEDIA, 4095, 1)]) (by decide +kernel) (by decide +kernel)).2.1 rfl (by decide +kernel) (by decide +kernel) rfl (by decide +kernel)),
   runs ((h.1 4095 0 (.header 0 0 0) none (some 0) (servoAt 4 { addrDone := true, seq := { step := 6, sub := 6 }, sq := seqDefault 0 } [(.MECH_STATE_STATE, 4095, 5), (.MECH_DISC_MEDIA, 4095, 1), (.MECH_SERVO_LANE_VALID, 4095, 1)]) (by decide +kernel) (by decide +kernel)).2.1 rfl (by decide +kernel) (by decide +kernel) rfl (by decide +kernel)),
   runs ((h.1 4095 0 (.bd 0 5 6) none none (servoAt 4 { addrDone := true, seq := { check := true }, sq := seqDefault 0 } [(.MECH_STATE_STATE, 4095, 7), (.MECH_DISC_MEDIA, 4095, 8), (.MECH_SERVO_LANE_VALID, 4095, 1)]) (by decide +kernel) (by decide +kernel)).2.2.1 rfl (by decide +kernel) rfl (by decide +kernel)),
   runs ((h.1 4095 0 (.header 1 0 0) none none (servoAt 4 { addrDone := true, seq := { step := 6, sub := 6 }, sq := seqDefault 0 } [(.MECH_STATE_STATE, 4095, 5), (.MECH_DISC_MEDIA, 4095, 1)]) (by decide +kernel) (by decide +kernel)).2.2.2.1 rfl (by decide +kernel) (by decide +kernel)),
   runs ((h.1 4095 0 (.wobble 0 5) none none (servoAt 4 { addr := some (.wobble 0 6, 6), addrAt := 0x10000000000, sq := seqDefault 0 } [(.MECH_STATE_STATE, 4095, 6), (.MECH_DISC_MEDIA, 4095, 1)]) (by decide +kernel) (by decide +kernel)).2.2.2.2 (.wobble 0 6) 6 rfl rfl rfl (by decide +kernel) (by decide +kernel) (by decide +kernel)),
   runs (h.2.1 4095 (servoAt 4 { seq := { step := 9 }, prof := { capAngle := 2 ^ 31 }, sq := seqDefault 0 } [(.MECH_STATE_STATE, 4095, 5), (.MECH_DISC_MEDIA, 4095, 1)]) (by decide +kernel) (by decide +kernel) (by decide +kernel) (by decide +kernel) (by decide +kernel)),
   runs (h.2.2 4095 (servoAt 4 { prof := { learning := true, revs := 16, bins := [(0, 5, 6, 2)] }, sq := seqDefault 0 } [(.MECH_STATE_STATE, 4095, 6), (.MECH_DISC_MEDIA, 4095, 1)]) (by decide +kernel) (by decide +kernel) (by decide +kernel))⟩

/-- The clauses of Obligations.SpindleStarts at states and operands that meet their hypotheses. -/
theorem witness_SpindleStarts (h : Obligations.SpindleStarts) :
    Runs (.spinStart 4095) ({ servoAt 0 { first := true, dr := driveDefault 0, sq := seqDefault 0 } [(.MECH_BRIDGE_GEN, 4095, 1)] with breath := { grants := [(4095, { spinup := some 1 })] } }) ∧
    Runs (.spinStart 4095) ({ servoAt 0 { first := true, dr := driveDefault 0, sq := seqDefault 0 } [(.MECH_BRIDGE_GEN, 4095, 4)] with breath := { grants := [(4095, { spinup := some 1 })] } }) ∧
    Runs (.senseDone 4095) (servoAt 0 { spin := { sense := { from_ := some 0, at_ := 1000000000, turned := 65536, mag := 500, angle := 5 } }, dr := driveDefault 0, sq := seqDefault 0 } [(.MECH_STATE_STATE, 4095, 4), (.MECH_SPIN_STAT_SPIN_STATE, 4095, 1)]) ∧
    Runs (.senseDone 4095) (servoAt 0 { spin := { sense := { from_ := some 0, at_ := 1000000000, turned := (-65536), mag := 500, angle := 5 } }, dr := driveDefault 0, sq := seqDefault 0 } [(.MECH_STATE_STATE, 4095, 4), (.MECH_SPIN_STAT_SPIN_STATE, 4095, 1)]) ∧
    Runs (.senseDone 4095) (servoAt 0 { spin := { sense := { from_ := some 0, at_ := 1000000000, turned := 0, mag := 0, angle := 5 } }, dr := driveDefault 0, sq := seqDefault 0 } [(.MECH_STATE_STATE, 4095, 4), (.MECH_SPIN_STAT_SPIN_STATE, 4095, 1)]) ∧
    Runs (.senseDone 4095) ({ (servoAt 0 { spin := { sense := { from_ := some 0, at_ := 1000000000, turned := 0, mag := 0, angle := 5 } }, dr := driveDefault 0, sq := seqDefault 0 } [(.MECH_STATE_STATE, 4095, 4), (.MECH_SPIN_STAT_SPIN_STATE, 4095, 1)]) with mech := [(4095, { driveStop := some 0 })] }) ∧
    Runs (.reverseShortDone 4095) (servoAt 0 { spin := { startAt := some 0 }, dr := driveDefault 0, sq := seqDefault 0 } [(.MECH_STATE_STATE, 4095, 4), (.MECH_SPIN_STAT_SPIN_STATE, 4095, 9)]) ∧
    Runs (.coastWaitDone 4095) (servoAt 0 { spin := { startAt := some 0 }, dr := driveDefault 0, sq := seqDefault 0 } [(.MECH_STATE_STATE, 4095, 4), (.MECH_SPIN_STAT_SPIN_STATE, 4095, 11)]) ∧
    Runs (.catchDone 4095) (servoAt 0 { spin := { count := 8 }, dr := driveDefault 0, sq := seqDefault 0 } [(.MECH_STATE_STATE, 4095, 4), (.MECH_SPIN_STAT_SPIN_STATE, 4095, 2)]) ∧
    Runs (.restDone 4095) (servoAt 0 { spin := {  }, dr := driveDefault 0, sq := seqDefault 0 } [(.MECH_STATE_STATE, 4095, 4), (.MECH_SPIN_STAT_SPIN_STATE, 4095, 3)]) ∧
    Runs (.alignDone 4095) (servoAt 0 { spin := {  }, dr := driveDefault 0, sq := seqDefault 0 } [(.MECH_STATE_STATE, 4095, 4), (.MECH_SPIN_STAT_SPIN_STATE, 4095, 4)]) ∧
    Runs (.observerHandover 4095) (servoAt 0 { spin := { forcedSpeed := 2 ^ 40 }, dr := driveDefault 0, sq := seqDefault 0 } [(.MECH_STATE_STATE, 4095, 4), (.MECH_SPIN_STAT_SPIN_STATE, 4095, 5)]) ∧
    Runs (.observerTimeout 4095) (servoAt 0 { spin := { obsTest := true }, dr := driveDefault 0, sq := seqDefault 0 } [(.MECH_STATE_STATE, 4095, 4), (.MECH_SPIN_STAT_SPIN_STATE, 4095, 5)]) ∧
    Runs (.observerTimeout 4095) (servoAt 0 { spin := { obsTest := true }, dr := driveDefault 0, sq := seqDefault 0 } [(.MECH_STATE_STATE, 4095, 4), (.MECH_SPIN_STAT_SPIN_STATE, 4095, 5), (.MECH_SPIN_STAT_TRIES, 4095, 15)]) ∧
    Runs (.spinupTimeout 4095) (servoAt 0 { spin := { startAt := some 0, spinupNs := 2 ^ 40 }, dr := driveDefault 0, sq := seqDefault 0 } [(.MECH_STATE_STATE, 4095, 4), (.MECH_SPIN_STAT_SPIN_STATE, 4095, 7)]) ∧
    Runs (.speedReached 4095) (servoAt 0 { spin := { count := 16 }, dr := driveDefault 0, sq := seqDefault 0 } [(.MECH_STATE_STATE, 4095, 4), (.MECH_SPIN_STAT_SPIN_STATE, 4095, 6), (.MECH_STATE_BUSY, 4095, 1), (.MECH_STATE_TARGET, 4095, 6)]) :=
  ⟨runs (h.1 4095 ({ servoAt 0 { first := true, dr := driveDefault 0, sq := seqDefault 0 } [(.MECH_BRIDGE_GEN, 4095, 1)] with breath := { grants := [(4095, { spinup := some 1 })] } }) (by decide +kernel) (by decide +kernel) (by decide +kernel) (by decide +kernel)),
   runs (h.1 4095 ({ servoAt 0 { first := true, dr := driveDefault 0, sq := seqDefault 0 } [(.MECH_BRIDGE_GEN, 4095, 4)] with breath := { grants := [(4095, { spinup := some 1 })] } }) (by decide +kernel) (by decide +kernel) (by decide +kernel) (by decide +kernel)),
   runs (h.2.1 4095 (servoAt 0 { spin := { sense := { from_ := some 0, at_ := 1000000000, turned := 65536, mag := 500, angle := 5 } }, dr := driveDefault 0, sq := seqDefault 0 } [(.MECH_STATE_STATE, 4095, 4), (.MECH_SPIN_STAT_SPIN_STATE, 4095, 1)]) (by decide +kernel) (by decide +kernel) (by decide +kernel) (by decide +kernel) (by decide +kernel)),
   runs (h.2.1 4095 (servoAt 0 { spin := { sense := { from_ := some 0, at_ := 1000000000, turned := (-65536), mag := 500, angle := 5 } }, dr := driveDefault 0, sq := seqDefault 0 } [(.MECH_STATE_STATE, 4095, 4), (.MECH_SPIN_STAT_SPIN_STATE, 4095, 1)]) (by decide +kernel) (by decide +kernel) (by decide +kernel) (by decide +kernel) (by decide +kernel)),
   runs (h.2.1 4095 (servoAt 0 { spin := { sense := { from_ := some 0, at_ := 1000000000, turned := 0, mag := 0, angle := 5 } }, dr := driveDefault 0, sq := seqDefault 0 } [(.MECH_STATE_STATE, 4095, 4), (.MECH_SPIN_STAT_SPIN_STATE, 4095, 1)]) (by decide +kernel) (by decide +kernel) (by decide +kernel) (by decide +kernel) (by decide +kernel)),
   runs (h.2.1 4095 ({ (servoAt 0 { spin := { sense := { from_ := some 0, at_ := 1000000000, turned := 0, mag := 0, angle := 5 } }, dr := driveDefault 0, sq := seqDefault 0 } [(.MECH_STATE_STATE, 4095, 4), (.MECH_SPIN_STAT_SPIN_STATE, 4095, 1)]) with mech := [(4095, { driveStop := some 0 })] }) (by decide +kernel) (by decide +kernel) (by decide +kernel) (by decide +kernel) (by decide +kernel)),
   runs (h.2.2.1 4095 (servoAt 0 { spin := { startAt := some 0 }, dr := driveDefault 0, sq := seqDefault 0 } [(.MECH_STATE_STATE, 4095, 4), (.MECH_SPIN_STAT_SPIN_STATE, 4095, 9)]) (by decide +kernel) (by decide +kernel) (by decide +kernel)),
   runs (h.2.2.2.1 4095 (servoAt 0 { spin := { startAt := some 0 }, dr := driveDefault 0, sq := seqDefault 0 } [(.MECH_STATE_STATE, 4095, 4), (.MECH_SPIN_STAT_SPIN_STATE, 4095, 11)]) (by decide +kernel) (by decide +kernel) (by decide +kernel)),
   runs ((h.2.2.2.2.1 4095 (servoAt 0 { spin := { count := 8 }, dr := driveDefault 0, sq := seqDefault 0 } [(.MECH_STATE_STATE, 4095, 4), (.MECH_SPIN_STAT_SPIN_STATE, 4095, 2)]) (by decide +kernel) (by decide +kernel)).1 (by decide +kernel) (by decide +kernel)),
   runs ((h.2.2.2.2.1 4095 (servoAt 0 { spin := {  }, dr := driveDefault 0, sq := seqDefault 0 } [(.MECH_STATE_STATE, 4095, 4), (.MECH_SPIN_STAT_SPIN_STATE, 4095, 3)]) (by decide +kernel) (by decide +kernel)).2.1 (by decide +kernel) (by decide +kernel)),
   runs ((h.2.2.2.2.1 4095 (servoAt 0 { spin := {  }, dr := driveDefault 0, sq := seqDefault 0 } [(.MECH_STATE_STATE, 4095, 4), (.MECH_SPIN_STAT_SPIN_STATE, 4095, 4)]) (by decide +kernel) (by decide +kernel)).2.2.1 (by decide +kernel) (by decide +kernel)),
   runs ((h.2.2.2.2.1 4095 (servoAt 0 { spin := { forcedSpeed := 2 ^ 40 }, dr := driveDefault 0, sq := seqDefault 0 } [(.MECH_STATE_STATE, 4095, 4), (.MECH_SPIN_STAT_SPIN_STATE, 4095, 5)]) (by decide +kernel) (by decide +kernel)).2.2.2.1 (by decide +kernel) (by decide +kernel) (by decide +kernel)),
   runs ((h.2.2.2.2.1 4095 (servoAt 0 { spin := { obsTest := true }, dr := driveDefault 0, sq := seqDefault 0 } [(.MECH_STATE_STATE, 4095, 4), (.MECH_SPIN_STAT_SPIN_STATE, 4095, 5)]) (by decide +kernel) (by decide +kernel)).2.2.2.2 (by decide +kernel) (by decide +kernel) (by decide +kernel)),
   runs ((h.2.2.2.2.1 4095 (servoAt 0 { spin := { obsTest := true }, dr := driveDefault 0, sq := seqDefault 0 } [(.MECH_STATE_STATE, 4095, 4), (.MECH_SPIN_STAT_SPIN_STATE, 4095, 5), (.MECH_SPIN_STAT_TRIES, 4095, 15)]) (by decide +kernel) (by decide +kernel)).2.2.2.2 (by decide +kernel) (by decide +kernel) (by decide +kernel)),
   runs (h.2.2.2.2.2.1 4095 (servoAt 0 { spin := { startAt := some 0, spinupNs := 2 ^ 40 }, dr := driveDefault 0, sq := seqDefault 0 } [(.MECH_STATE_STATE, 4095, 4), (.MECH_SPIN_STAT_SPIN_STATE, 4095, 7)]) (by decide +kernel) (by decide +kernel) (by decide +kernel) (by decide +kernel)),
   runs (h.2.2.2.2.2.2 4095 (servoAt 0 { spin := { count := 16 }, dr := driveDefault 0, sq := seqDefault 0 } [(.MECH_STATE_STATE, 4095, 4), (.MECH_SPIN_STAT_SPIN_STATE, 4095, 6), (.MECH_STATE_BUSY, 4095, 1), (.MECH_STATE_TARGET, 4095, 6)]) (by decide +kernel) (by decide +kernel) (by decide +kernel))⟩

/-- The clauses of Obligations.SpindleSpeedsAndStops at states and operands that meet their hypotheses. -/
theorem witness_SpindleSpeedsAndStops (h : Obligations.SpindleSpeedsAndStops) :
    Runs (.speedPlan 4095) ({ servoAt 0 { spin := {  }, dr := driveDefault 0, sq := seqDefault 0 } [(.MECH_STATE_STATE, 4095, 6), (.MECH_SPEED_TARGET, 4095, 20000)] with mech := [(4095, {})] }) ∧
    Runs (.speedPlan 4095) ({ servoAt 0 { spin := {  }, dr := driveDefault 0, sq := seqDefault 0 } [(.MECH_STATE_STATE, 4095, 6), (.MECH_SPIN_CTRL_TARGET_OVR, 4095, 0xFFFF), (.MECH_SPEED_TARGET, 4095, 20000)] with mech := [(4095, {})] }) ∧
    Runs (.speedPlan 4095) ({ servoAt 0 { spin := {  }, dr := driveDefault 0, sq := seqDefault 0 } [(.MECH_STATE_STATE, 4095, 6), (.MECH_STATE_STATE, 4095, 7), (.MECH_SPEED_TARGET, 4095, 20000)] with mech := [(4095, {})] }) ∧
    Runs (.targetDwell 4095) ({ servoAt 0 { spin := { goal := 5000, goalAt := some 0 }, dr := driveDefault 0, sq := seqDefault 0 } [(.MECH_STATE_STATE, 4095, 6), (.MECH_SPEED_TARGET, 4095, 20000), (.BRTH_DOM_BUDGET_MW, 0, 0xFFFFFFFF)] with mech := [(4095, {})] }) ∧
    Runs (.targetDwell 4095) ({ servoAt 0 { spin := { goal := 30000, goalAt := some 0 }, dr := driveDefault 0, sq := seqDefault 0 } [(.MECH_STATE_STATE, 4095, 6), (.MECH_SPEED_TARGET, 4095, 20000), (.BRTH_DOM_BUDGET_MW, 0, 0xFFFFFFFF)] with mech := [(4095, {})] }) ∧
    Runs (.idleSpinDown 4095) ({ servoAt 0 { spin := {  }, dr := driveDefault 0, sq := seqDefault 0 } [(.MECH_STATE_STATE, 4095, 6), (.MECH_IDLE_IDLE_SPIN_MS, 4095, 1)] with mech := [(4095, {})] }) ∧
    Runs (.slotReclaim 4094) ((List.range 16).foldl (fun s k => s.wr .PEN_SMAP 63 k (BitVec.ofNat 32 (0x8000 + k))) ({ servoAt 0 { dr := driveDefault 0, sq := seqDefault 0 } ([(.MECH_STATE_STATE, 4095, 6), (.MECH_RECLAIM_RECLAIM_MS, 0, 1)]) with mech := [(4094, { waitSlot := some 0 }), (4095, {})] })) ∧
    Runs (.spinDown 4095) ({ servoAt 0x800 { dr := driveDefault 0, sq := seqDefault 0 } [(.MECH_STATE_STATE, 4095, 6)] with mech := [(4095, { spinDown := true })], breath := { grants := [(4095, { seek := some 1 })] } }) ∧
    Runs (.shortBrakeDone 4095) ({ servoAt 0 { spin := {  }, dr := driveDefault 0, sq := seqDefault 0 } [(.MECH_STATE_STATE, 4095, 6), (.MECH_SPIN_STAT_SPIN_STATE, 4095, 9), (.MECH_STATE_TARGET, 4095, 2)] with mech := [(4095, { spinDown := true, clamped := true })] }) ∧
    Runs (.coastDownElapsed 4095) (long (act [(.MECH_STATE_TURNING, 4095, 1)])) :=
  ⟨runs (h.1 4095 ({ servoAt 0 { spin := {  }, dr := driveDefault 0, sq := seqDefault 0 } [(.MECH_STATE_STATE, 4095, 6), (.MECH_SPEED_TARGET, 4095, 20000)] with mech := [(4095, {})] }) (by decide +kernel)),
   runs (h.1 4095 ({ servoAt 0 { spin := {  }, dr := driveDefault 0, sq := seqDefault 0 } [(.MECH_STATE_STATE, 4095, 6), (.MECH_SPIN_CTRL_TARGET_OVR, 4095, 0xFFFF), (.MECH_SPEED_TARGET, 4095, 20000)] with mech := [(4095, {})] }) (by decide +kernel)),
   runs (h.1 4095 ({ servoAt 0 { spin := {  }, dr := driveDefault 0, sq := seqDefault 0 } [(.MECH_STATE_STATE, 4095, 6), (.MECH_STATE_STATE, 4095, 7), (.MECH_SPEED_TARGET, 4095, 20000)] with mech := [(4095, {})] }) (by decide +kernel)),
   runs (h.2.1 4095 0 ({ servoAt 0 { spin := { goal := 5000, goalAt := some 0 }, dr := driveDefault 0, sq := seqDefault 0 } [(.MECH_STATE_STATE, 4095, 6), (.MECH_SPEED_TARGET, 4095, 20000), (.BRTH_DOM_BUDGET_MW, 0, 0xFFFFFFFF)] with mech := [(4095, {})] }) (by decide +kernel) (by decide +kernel) rfl (by decide +kernel) (by decide +kernel)),
   runs (h.2.1 4095 0 ({ servoAt 0 { spin := { goal := 30000, goalAt := some 0 }, dr := driveDefault 0, sq := seqDefault 0 } [(.MECH_STATE_STATE, 4095, 6), (.MECH_SPEED_TARGET, 4095, 20000), (.BRTH_DOM_BUDGET_MW, 0, 0xFFFFFFFF)] with mech := [(4095, {})] }) (by decide +kernel) (by decide +kernel) rfl (by decide +kernel) (by decide +kernel)),
   runs (h.2.2.1 4095 ({ servoAt 0 { spin := {  }, dr := driveDefault 0, sq := seqDefault 0 } [(.MECH_STATE_STATE, 4095, 6), (.MECH_IDLE_IDLE_SPIN_MS, 4095, 1)] with mech := [(4095, {})] }) (by decide +kernel) (by decide +kernel) (by decide +kernel) (by decide +kernel) (by decide +kernel)),
   runs (h.2.2.2.1 4094 ((List.range 16).foldl (fun s k => s.wr .PEN_SMAP 63 k (BitVec.ofNat 32 (0x8000 + k))) ({ servoAt 0 { dr := driveDefault 0, sq := seqDefault 0 } ([(.MECH_STATE_STATE, 4095, 6), (.MECH_RECLAIM_RECLAIM_MS, 0, 1)]) with mech := [(4094, { waitSlot := some 0 }), (4095, {})] })) 4095 (by decide +kernel) (by decide +kernel) (Or.inl (by decide +kernel)) (by decide +kernel) (by decide +kernel) (by decide +kernel) (by decide +kernel) (by decide +kernel)),
   runs (h.2.2.2.2.1 4095 ({ servoAt 0x800 { dr := driveDefault 0, sq := seqDefault 0 } [(.MECH_STATE_STATE, 4095, 6)] with mech := [(4095, { spinDown := true })], breath := { grants := [(4095, { seek := some 1 })] } }) (by decide +kernel) (by decide +kernel) (by decide +kernel) (by decide +kernel) (by decide +kernel)),
   runs (h.2.2.2.2.2.1 4095 ({ servoAt 0 { spin := {  }, dr := driveDefault 0, sq := seqDefault 0 } [(.MECH_STATE_STATE, 4095, 6), (.MECH_SPIN_STAT_SPIN_STATE, 4095, 9), (.MECH_STATE_TARGET, 4095, 2)] with mech := [(4095, { spinDown := true, clamped := true })] }) (by decide +kernel) (by decide +kernel) (by decide +kernel)),
   runs (h.2.2.2.2.2.2 4095 (long (act [(.MECH_STATE_TURNING, 4095, 1)])) (by decide +kernel) (by decide +kernel))⟩

/-- The clauses of Obligations.SledTrayAndControl at states and operands that meet their hypotheses. -/
theorem witness_SledTrayAndControl (h : Obligations.SledTrayAndControl) :
    Runs (.sledHoldCurrent 4095) (servoAt 0 { sled := { restAt := some 0 } } []) ∧
    Runs (.sledTblStageToTable 0) (servoAt 0 {} []) ∧
    Runs (.sledTblTableToStage 0) (servoAt 0 {} []) ∧
    Runs (.sledTblDefaultToStage 0) (servoAt 0 {} []) ∧
    Runs (.trayMoveStart 4095) ({ long (mapped (act ((.MECH_STATE_STATE, 4095, 1) :: []))) with mech := [(4095, { waitTray := some 0 })], breath := { grants := [(4095, { seek := some 1 })] } }) ∧
    Runs (.traySwitchReached 4095) ({ long (mapped (act ((.MECH_STATE_STATE, 4095, 1) :: [(.MECH_STATE_BUSY, 4095, 1)]))) with mech := [(4095, { tray := some { kind := 1, start := 0, since := some 0 } })], host := { cmds := [ctxOf 255 1 (cmd 7 0 0 0 0) .running true] } }) ∧
    Runs (.traySwitchReached 4095) ({ long (mapped (act ((.MECH_STATE_STATE, 4095, 1) :: [(.MECH_STATE_BUSY, 4095, 1)]))) with mech := [(4095, { tray := some { kind := 2, start := 0, since := some 0 } })], host := { cmds := [ctxOf 255 1 (cmd 8 0 0 0 0) .running true] } }) ∧
    Runs (.traySwitchReached 4095) ({ long (mapped (act ((.MECH_STATE_STATE, 4095, 1) :: [(.MECH_STATE_BUSY, 4095, 1)]))) with mech := [(4095, { tray := some { kind := 3, start := 0, since := some 0 } })], host := { cmds := [ctxOf 255 1 (cmd 7 0 0 0 0) .running true] } }) ∧
    Runs (.traySwitchReached 4095) ({ long (mapped (act ((.MECH_STATE_STATE, 4095, 1) :: [(.MECH_STATE_BUSY, 4095, 1)]))) with mech := [(4095, { tray := some { kind := 1, start := 0, since := some 0 }, disc := true })], host := { cmds := [ctxOf 255 1 (cmd 7 0 0 0 0) .running true] } }) ∧
    Runs (.traySwitchReached 4095) ({ long (mapped (act ((.MECH_STATE_STATE, 4095, 1) :: [(.MECH_STATE_BUSY, 4095, 1)]))) with mech := [(4095, { tray := some { kind := 4, start := 0, since := some 0 }, clamped := true })], host := { cmds := [ctxOf 255 1 (cmd 8 0 0 0 0) .running true] } }) ∧
    Runs (.trayTimeout 4095) ({ long (mapped (act ((.MECH_STATE_STATE, 4095, 1) :: []))) with mech := [(4095, { tray := some { kind := 1, start := 0 } })] }) ∧
    Runs (.servoPositionGrant 63) ({ long (id (act ((.MECH_STATE_STATE, 4095, 1) :: []))) with mech := [(4095, { waitTray := some 5 })] }) ∧
    Runs (.servoPositionGrant 63) ({ long (act [(.MECH_STATE_STATE, 4095, 2), (.CIRQ_STATUS_ROLE, 0, 0)]) with mech := [(4095, { waitSlot := some 5 })] }) ∧
    Runs (.forceSafe 4095) (act [(.MECH_STATE_STATE, 4095, 7)]) ∧
    Runs (.clrFault 0) (act [(.MECH_STATE_STATE, 0, 8)]) ∧
    Runs (.unisolate 4095 true true) (act [(.MECH_STATE_STATE, 4095, 9)]) ∧
    Runs (.unisolate 4095 true false) (act [(.MECH_STATE_STATE, 4095, 9)]) ∧
    Runs (.unisolate 4095 false false) (act [(.MECH_STATE_STATE, 4095, 9)]) :=
  ⟨runs (h.1 4095 0 (servoAt 0 { sled := { restAt := some 0 } } []) (by decide +kernel) rfl (by decide +kernel) (by decide +kernel)),
   runs ((h.2.1 0 (servoAt 0 {} []) (by decide +kernel)).1),
   runs ((h.2.1 0 (servoAt 0 {} []) (by decide +kernel)).2.1),
   runs ((h.2.1 0 (servoAt 0 {} []) (by decide +kernel)).2.2),
   runs (h.2.2.1 4095 ({ long (mapped (act ((.MECH_STATE_STATE, 4095, 1) :: []))) with mech := [(4095, { waitTray := some 0 })], breath := { grants := [(4095, { seek := some 1 })] } }) (by decide +kernel) (by decide +kernel) (by decide +kernel) (by decide +kernel) (by decide +kernel)),
   runs (h.2.2.2.1 4095 ({ long (mapped (act ((.MECH_STATE_STATE, 4095, 1) :: [(.MECH_STATE_BUSY, 4095, 1)]))) with mech := [(4095, { tray := some { kind := 1, start := 0, since := some 0 } })], host := { cmds := [ctxOf 255 1 (cmd 7 0 0 0 0) .running true] } }) { kind := 1, start := 0, since := some 0 } 0 rfl rfl (by decide +kernel)),
   runs (h.2.2.2.1 4095 ({ long (mapped (act ((.MECH_STATE_STATE, 4095, 1) :: [(.MECH_STATE_BUSY, 4095, 1)]))) with mech := [(4095, { tray := some { kind := 2, start := 0, since := some 0 } })], host := { cmds := [ctxOf 255 1 (cmd 8 0 0 0 0) .running true] } }) { kind := 2, start := 0, since := some 0 } 0 rfl rfl (by decide +kernel)),
   runs (h.2.2.2.1 4095 ({ long (mapped (act ((.MECH_STATE_STATE, 4095, 1) :: [(.MECH_STATE_BUSY, 4095, 1)]))) with mech := [(4095, { tray := some { kind := 3, start := 0, since := some 0 } })], host := { cmds := [ctxOf 255 1 (cmd 7 0 0 0 0) .running true] } }) { kind := 3, start := 0, since := some 0 } 0 rfl rfl (by decide +kernel)),
   runs (h.2.2.2.1 4095 ({ long (mapped (act ((.MECH_STATE_STATE, 4095, 1) :: [(.MECH_STATE_BUSY, 4095, 1)]))) with mech := [(4095, { tray := some { kind := 1, start := 0, since := some 0 }, disc := true })], host := { cmds := [ctxOf 255 1 (cmd 7 0 0 0 0) .running true] } }) { kind := 1, start := 0, since := some 0 } 0 rfl rfl (by decide +kernel)),
   runs (h.2.2.2.1 4095 ({ long (mapped (act ((.MECH_STATE_STATE, 4095, 1) :: [(.MECH_STATE_BUSY, 4095, 1)]))) with mech := [(4095, { tray := some { kind := 4, start := 0, since := some 0 }, clamped := true })], host := { cmds := [ctxOf 255 1 (cmd 8 0 0 0 0) .running true] } }) { kind := 4, start := 0, since := some 0 } 0 rfl rfl (by decide +kernel)),
   runs (h.2.2.2.2.1 4095 ({ long (mapped (act ((.MECH_STATE_STATE, 4095, 1) :: []))) with mech := [(4095, { tray := some { kind := 1, start := 0 } })] }) (by decide +kernel) (by decide +kernel)),
   runs (h.2.2.2.2.2.1 63 ({ long (id (act ((.MECH_STATE_STATE, 4095, 1) :: []))) with mech := [(4095, { waitTray := some 5 })] }) (5, 4095, true) [] rfl),
   runs (h.2.2.2.2.2.1 63 ({ long (act [(.MECH_STATE_STATE, 4095, 2), (.CIRQ_STATUS_ROLE, 0, 0)]) with mech := [(4095, { waitSlot := some 5 })] }) (5, 4095, false) [] rfl),
   runs (h.2.2.2.2.2.2.1 4095 (act [(.MECH_STATE_STATE, 4095, 7)]) (by decide +kernel) (by decide +kernel)),
   runs (h.2.2.2.2.2.2.2.1 0 (act [(.MECH_STATE_STATE, 0, 8)]) (by decide +kernel) (by decide +kernel)),
   runs (h.2.2.2.2.2.2.2.2 4095 true true (act [(.MECH_STATE_STATE, 4095, 9)]) (by decide +kernel) (by decide +kernel)),
   runs (h.2.2.2.2.2.2.2.2 4095 true false (act [(.MECH_STATE_STATE, 4095, 9)]) (by decide +kernel) (by decide +kernel)),
   runs (h.2.2.2.2.2.2.2.2 4095 false false (act [(.MECH_STATE_STATE, 4095, 9)]) (by decide +kernel) (by decide +kernel))⟩

/-- Port 63 with this record and these fields, one second after power-on. -/
def ported (x : PortX) (l : List (Fld × Nat × Nat)) : State := { act l with port := [(63, x)] }
/-- The servo slot with the CRC it carries. -/
def sealed (x : UpSlot) : UpSlot := { x with crc := crc32c (dwBytes (slotWords x)) }
/-- The drop of mechanism 4095 is present on a port that runs frames, has servo position 15 and this record. -/
def dropped (x : DropX) (l : List (Fld × Nat × Nat)) : State :=
  { ((ported {} ((.PEN_STATUS_PSTATE, 63, 6) :: l)).set2 .PEN_DROP_PRESENT 63 63 1).wr .PEN_SMAP 63 15 0x803F with drop := [(4095, x)] }

/-- The clauses of Obligations.PortTraining at states and operands that meet their hypotheses. -/
theorem witness_PortTraining (h : Obligations.PortTraining) :
    Runs (.portEnable 63) (act []) ∧
    Runs (.retrain 63) (ported {  } [(.PEN_CFG_EN, 63, 1)]) ∧
    Runs (.trainRetry 63) (long (ported {  } [(.PEN_CFG_EN, 63, 1), (.PEN_STATUS_PSTATE, 63, 10)])) ∧
    Runs (.lockTimeout 63) (long (ported { lostAt := some 0 } [(.PEN_STATUS_PSTATE, 63, 7)])) ∧
    Runs (.portWakeTimeout 63) (ported {  } [(.PEN_STATUS_PSTATE, 63, 9)]) ∧
    Runs (.portDisable 63) (act []) ∧
    Runs (.trainStepDone 63 (.detect 0 15 15 0)) (ported { stepAt := 1000000000 } [(.PEN_STATUS_PSTATE, 63, 1)]) ∧
    Runs (.trainStepDone 63 (.detect 1 1 0 0)) (ported { stepAt := 1000000000 } [(.PEN_STATUS_PSTATE, 63, 1)]) ∧
    Runs (.trainStepDone 63 (.detect 15 0 0 0)) (ported { stepAt := 1000000000 } [(.PEN_STATUS_PSTATE, 63, 1)]) ∧
    Runs (.trainStepDone 63 (.align 3 true)) (ported { stepAt := 1000000000 } [(.PEN_STATUS_PSTATE, 63, 2)]) ∧
    Runs (.trainStepDone 63 .eq) (ported { stepAt := 1000000000 } [(.PEN_STATUS_PSTATE, 63, 3)]) ∧
    Runs (.trainStepDone 63 .lock) (ported { stepAt := 1000000000 } [(.PEN_STATUS_PSTATE, 63, 4)]) ∧
    Runs (.trainStepDone 63 (.ident none 0 false 601 [])) (ported { stepAt := 1000000000 } [(.PEN_STATUS_PSTATE, 63, 5), (.PEN_STATUS_LMODE, 63, 1)]) ∧
    Runs (.trainStepDone 63 (.ident none 3 true 600 [{ drop := 63, sn := 7 }])) (ported { stepAt := 1000000000 } [(.PEN_STATUS_PSTATE, 63, 5), (.PEN_STATUS_LMODE, 63, 1)]) ∧
    Runs (.trainStepDone 63 (.ident (some (1, 0x20)) 0 false 0 [{ drop := 0, selfTest := false }])) (ported { stepAt := 1000000000 } [(.PEN_STATUS_PSTATE, 63, 5), (.PEN_STATUS_LMODE, 63, 1)]) ∧
    Runs (.trainStepDone 63 (.ident none 0 false 600 [{ drop := 63, sn := 7, clamped := true }])) (ported { stepAt := 1000000000 } [(.PEN_STATUS_PSTATE, 63, 5), (.PEN_STATUS_LMODE, 63, 1)]) ∧
    Runs (.trainStepDone 63 .wake) (ported { stepAt := 1000000000 } [(.PEN_STATUS_PSTATE, 63, 9)]) ∧
    Runs (.trainStepTimeout 63 true) (ported {  } [(.PEN_STATUS_PSTATE, 63, 1)]) ∧
    Runs (.trainStepTimeout 63 false) (ported {  } [(.PEN_STATUS_PSTATE, 63, 2)]) ∧
    Runs (.trainStepTimeout 63 false) (ported {  } [(.PEN_STATUS_PSTATE, 63, 3)]) ∧
    Runs (.trainStepTimeout 63 false) (ported {  } [(.PEN_STATUS_PSTATE, 63, 4)]) ∧
    Runs (.trainStepTimeout 63 false) (ported {  } [(.PEN_STATUS_PSTATE, 63, 5)]) ∧
    Runs (.trainStepTimeout 63 false) (ported {  } [(.PEN_STATUS_PSTATE, 63, 1)]) :=
  ⟨runs ((h.1 63 (act []) (Or.inr ⟨by decide +kernel, by decide +kernel⟩)).1 (by decide +kernel) (by decide +kernel) rfl),
   runs ((h.1 63 (ported {  } [(.PEN_CFG_EN, 63, 1)]) (Or.inr ⟨by decide +kernel, by decide +kernel⟩)).2.1 (by decide +kernel) (by decide +kernel)),
   runs ((h.1 63 (long (ported {  } [(.PEN_CFG_EN, 63, 1), (.PEN_STATUS_PSTATE, 63, 10)])) (Or.inr ⟨by decide +kernel, by decide +kernel⟩)).2.2.1 (by decide +kernel) (by decide +kernel) (by decide +kernel) (by decide +kernel)),
   runs ((h.1 63 (long (ported { lostAt := some 0 } [(.PEN_STATUS_PSTATE, 63, 7)])) (Or.inr ⟨by decide +kernel, by decide +kernel⟩)).2.2.2.1 0 (by decide +kernel) rfl (by decide +kernel) (by decide +kernel)),
   runs ((h.1 63 (ported {  } [(.PEN_STATUS_PSTATE, 63, 9)]) (Or.inr ⟨by decide +kernel, by decide +kernel⟩)).2.2.2.2 (by decide +kernel) (by decide +kernel)),
   runs (h.2.1 63 (act []) (by decide +kernel)),
   runs ((h.2.2.1 63 (ported { stepAt := 1000000000 } [(.PEN_STATUS_PSTATE, 63, 1)]) (by unfold LinkQuiet; decide +kernel) (by decide +kernel)).1 0 15 15 0 (by decide +kernel)),
   runs ((h.2.2.1 63 (ported { stepAt := 1000000000 } [(.PEN_STATUS_PSTATE, 63, 1)]) (by unfold LinkQuiet; decide +kernel) (by decide +kernel)).1 1 1 0 0 (by decide +kernel)),
   runs ((h.2.2.1 63 (ported { stepAt := 1000000000 } [(.PEN_STATUS_PSTATE, 63, 1)]) (by unfold LinkQuiet; decide +kernel) (by decide +kernel)).1 15 0 0 0 (by decide +kernel)),
   runs ((h.2.2.1 63 (ported { stepAt := 1000000000 } [(.PEN_STATUS_PSTATE, 63, 2)]) (by unfold LinkQuiet; decide +kernel) (by decide +kernel)).2.1 3 true (by decide +kernel)),
   runs ((h.2.2.1 63 (ported { stepAt := 1000000000 } [(.PEN_STATUS_PSTATE, 63, 3)]) (by unfold LinkQuiet; decide +kernel) (by decide +kernel)).2.2.1 (by decide +kernel)),
   runs ((h.2.2.1 63 (ported { stepAt := 1000000000 } [(.PEN_STATUS_PSTATE, 63, 4)]) (by unfold LinkQuiet; decide +kernel) (by decide +kernel)).2.2.2.1 (by decide +kernel)),
   runs ((h.2.2.1 63 (ported { stepAt := 1000000000 } [(.PEN_STATUS_PSTATE, 63, 5), (.PEN_STATUS_LMODE, 63, 1)]) (by unfold LinkQuiet; decide +kernel) (by decide +kernel)).2.2.2.2.1 none 0 false 601 [] (by decide +kernel)),
   runs ((h.2.2.1 63 (ported { stepAt := 1000000000 } [(.PEN_STATUS_PSTATE, 63, 5), (.PEN_STATUS_LMODE, 63, 1)]) (by unfold LinkQuiet; decide +kernel) (by decide +kernel)).2.2.2.2.1 none 3 true 600 [{ drop := 63, sn := 7 }] (by decide +kernel)),
   runs ((h.2.2.1 63 (ported { stepAt := 1000000000 } [(.PEN_STATUS_PSTATE, 63, 5), (.PEN_STATUS_LMODE, 63, 1)]) (by unfold LinkQuiet; decide +kernel) (by decide +kernel)).2.2.2.2.1 (some (1, 0x20)) 0 false 0 [{ drop := 0, selfTest := false }] (by decide +kernel)),
   runs ((h.2.2.1 63 (ported { stepAt := 1000000000 } [(.PEN_STATUS_PSTATE, 63, 5), (.PEN_STATUS_LMODE, 63, 1)]) (by unfold LinkQuiet; decide +kernel) (by decide +kernel)).2.2.2.2.1 none 0 false 600 [{ drop := 63, sn := 7, clamped := true }] (by decide +kernel)),
   runs ((h.2.2.1 63 (ported { stepAt := 1000000000 } [(.PEN_STATUS_PSTATE, 63, 9)]) (by unfold LinkQuiet; decide +kernel) (by decide +kernel)).2.2.2.2.2 (by decide +kernel)),
   runs (h.2.2.2 63 (ported {  } [(.PEN_STATUS_PSTATE, 63, 1)]) (by unfold LinkQuiet; decide +kernel) (by decide +kernel) true (by decide +kernel) (by decide +kernel)),
   runs (h.2.2.2 63 (ported {  } [(.PEN_STATUS_PSTATE, 63, 2)]) (by unfold LinkQuiet; decide +kernel) (by decide +kernel) false (by decide +kernel) (by decide +kernel)),
   runs (h.2.2.2 63 (ported {  } [(.PEN_STATUS_PSTATE, 63, 3)]) (by unfold LinkQuiet; decide +kernel) (by decide +kernel) false (by decide +kernel) (by decide +kernel)),
   runs (h.2.2.2 63 (ported {  } [(.PEN_STATUS_PSTATE, 63, 4)]) (by unfold LinkQuiet; decide +kernel) (by decide +kernel) false (by decide +kernel) (by decide +kernel)),
   runs (h.2.2.2 63 (ported {  } [(.PEN_STATUS_PSTATE, 63, 5)]) (by unfold LinkQuiet; decide +kernel) (by decide +kernel) false (by decide +kernel) (by decide +kernel)),
   runs (h.2.2.2 63 (ported {  } [(.PEN_STATUS_PSTATE, 63, 1)]) (by unfold LinkQuiet; decide +kernel) (by decide +kernel) false (by decide +kernel) (by decide +kernel))⟩

/-- The clauses of Obligations.PortLanesAndPower at states and operands that meet their hypotheses. -/
theorem witness_PortLanesAndPower (h : Obligations.PortLanesAndPower) :
    Runs (.txOvercurrent 63 1) (ported { overCurrent := [(1, 0)] } [(.PEN_STATUS_PSTATE, 63, 6)]) ∧
    Runs (.txOvercurrent 63 0) (ported { overCurrent := [(1, 0)] } [(.PEN_STATUS_PSTATE, 63, 6)]) ∧
    Runs (.txOvercurrentRetry 63 1 true) (ported { overCurrent := [(1, 0)] } [(.PEN_STATUS_PSTATE, 63, 6)]) ∧
    Runs (.txOvercurrentRetry 63 1 false) (ported { overCurrent := [(1, 0)] } [(.PEN_STATUS_PSTATE, 63, 6)]) ∧
    Runs (.laneLoss 63 1) (ported { overCurrent := [(1, 0)] } [(.PEN_STATUS_PSTATE, 63, 6)]) ∧
    Runs (.laneLoss 63 0) (ported { overCurrent := [(1, 0)] } [(.PEN_STATUS_PSTATE, 63, 6)]) ∧
    Runs (.laneRejoinAttempt 63 true) (ported {  } [(.PEN_STATUS_PSTATE, 63, 7), (.PEN_STATUS_LMODE, 63, 15)]) ∧
    Runs (.laneRejoinAttempt 63 false) (ported {  } [(.PEN_STATUS_PSTATE, 63, 7), (.PEN_STATUS_LMODE, 63, 15)]) ∧
    Runs (.laneRejoin 63) (ported { heldAt := some 0 } [(.PEN_STATUS_PSTATE, 63, 7), (.PEN_STATUS_LMODE, 63, 1)]) ∧
    Runs (.laneRejoin 63) (ported { heldAt := some 0 } [(.PEN_STATUS_PSTATE, 63, 7), (.PEN_STATUS_LMODE, 63, 15)]) ∧
    Runs (.laneModeSwitch 63 65535) (ported { modeNext := some (0, 4095), seq := 4095 } [(.PEN_STATUS_PSTATE, 63, 7)]) ∧
    Runs (.laneModeSwitch 63 65535) (ported { modeNext := some (15, 4095), seq := 4095 } [(.PEN_STATUS_PSTATE, 63, 7)]) ∧
    Runs (.frameTick 63) (ported {  } [(.PEN_STATUS_PSTATE, 63, 6), (.PEN_STATUS_LOCK, 63, 1)]) ∧
    Runs (.frameTick 63) (ported { sinceHeader := 8, seq := 4095 } [(.PEN_STATUS_PSTATE, 63, 6), (.PEN_STATUS_LOCK, 63, 1)]) ∧
    Runs (.frameTick 63) (ported { sinceHeader := 7 } [(.PEN_STATUS_PSTATE, 63, 6), (.PEN_STATUS_LOCK, 63, 1)]) ∧
    Runs (.upstreamHeader 63 { seq := 4095 }) (ported {  } [(.PEN_STATUS_PSTATE, 63, 6)]) ∧
    Runs (.upstreamHeader 63 { seq := 0, crcOk := false }) (ported {  } [(.PEN_STATUS_PSTATE, 63, 6)]) ∧
    Runs (.mapEpochChange 63) (ported { mapNow := some (4095, { smap := [(15, 0x803F)], bmap := [(0, 7)] }), seq := 4095, epoch := 15 } []) ∧
    Runs (.lowpowerEntry 63) (ported {  } [(.PEN_STATUS_PSTATE, 63, 6), (.PEN_CFG_LP_EN, 63, 1)]) ∧
    Runs (.sleep 63) (ported {  } [(.PEN_STATUS_PSTATE, 63, 6), (.PEN_CFG_LP_EN, 63, 1)]) ∧
    Runs (.portWake 63) (ported {  } [(.PEN_STATUS_PSTATE, 63, 8)]) ∧
    Runs (.clrCnt 63) (act []) :=
  ⟨runs ((h.1 63 1 (ported { overCurrent := [(1, 0)] } [(.PEN_STATUS_PSTATE, 63, 6)])).1),
   runs ((h.1 63 0 (ported { overCurrent := [(1, 0)] } [(.PEN_STATUS_PSTATE, 63, 6)])).1),
   runs (((h.1 63 1 (ported { overCurrent := [(1, 0)] } [(.PEN_STATUS_PSTATE, 63, 6)])).2.1 (1, 0) rfl (by decide +kernel)).1),
   runs (((h.1 63 1 (ported { overCurrent := [(1, 0)] } [(.PEN_STATUS_PSTATE, 63, 6)])).2.1 (1, 0) rfl (by decide +kernel)).2),
   runs ((h.1 63 1 (ported { overCurrent := [(1, 0)] } [(.PEN_STATUS_PSTATE, 63, 6)])).2.2 (by decide +kernel)),
   runs ((h.1 63 0 (ported { overCurrent := [(1, 0)] } [(.PEN_STATUS_PSTATE, 63, 6)])).2.2 (by decide +kernel)),
   runs (h.2.1 63 true (ported {  } [(.PEN_STATUS_PSTATE, 63, 7), (.PEN_STATUS_LMODE, 63, 15)]) (by decide +kernel) (by decide +kernel) rfl (by decide +kernel)),
   runs (h.2.1 63 false (ported {  } [(.PEN_STATUS_PSTATE, 63, 7), (.PEN_STATUS_LMODE, 63, 15)]) (by decide +kernel) (by decide +kernel) rfl (by decide +kernel)),
   runs (h.2.2.1 63 (ported { heldAt := some 0 } [(.PEN_STATUS_PSTATE, 63, 7), (.PEN_STATUS_LMODE, 63, 1)]) (by decide +kernel) (by decide +kernel) rfl (by decide +kernel)),
   runs (h.2.2.1 63 (ported { heldAt := some 0 } [(.PEN_STATUS_PSTATE, 63, 7), (.PEN_STATUS_LMODE, 63, 15)]) (by decide +kernel) (by decide +kernel) rfl (by decide +kernel)),
   runs (h.2.2.2.1 63 65535 0 (ported { modeNext := some (0, 4095), seq := 4095 } [(.PEN_STATUS_PSTATE, 63, 7)]) rfl),
   runs (h.2.2.2.1 63 65535 15 (ported { modeNext := some (15, 4095), seq := 4095 } [(.PEN_STATUS_PSTATE, 63, 7)]) rfl),
   runs (h.2.2.2.2.1 63 (ported {  } [(.PEN_STATUS_PSTATE, 63, 6), (.PEN_STATUS_LOCK, 63, 1)]) (by decide +kernel) (by decide +kernel)),
   runs (h.2.2.2.2.1 63 (ported { sinceHeader := 8, seq := 4095 } [(.PEN_STATUS_PSTATE, 63, 6), (.PEN_STATUS_LOCK, 63, 1)]) (by decide +kernel) (by decide +kernel)),
   runs (h.2.2.2.2.1 63 (ported { sinceHeader := 7 } [(.PEN_STATUS_PSTATE, 63, 6), (.PEN_STATUS_LOCK, 63, 1)]) (by decide +kernel) (by decide +kernel)),
   runs (h.2.2.2.2.2.1 63 { seq := 4095 } (ported {  } [(.PEN_STATUS_PSTATE, 63, 6)]) (by decide +kernel)),
   runs (h.2.2.2.2.2.1 63 { seq := 0, crcOk := false } (ported {  } [(.PEN_STATUS_PSTATE, 63, 6)]) (by decide +kernel)),
   runs (h.2.2.2.2.2.2.1 63 (ported { mapNow := some (4095, { smap := [(15, 0x803F)], bmap := [(0, 7)] }), seq := 4095, epoch := 15 } []) { smap := [(15, 0x803F)], bmap := [(0, 7)] } rfl),
   runs ((h.2.2.2.2.2.2.2.1 63 (ported {  } [(.PEN_STATUS_PSTATE, 63, 6), (.PEN_CFG_LP_EN, 63, 1)]) (by decide +kernel) (by decide +kernel)).1 (by decide +kernel)),
   runs ((h.2.2.2.2.2.2.2.1 63 (ported {  } [(.PEN_STATUS_PSTATE, 63, 6), (.PEN_CFG_LP_EN, 63, 1)]) (by decide +kernel) (by decide +kernel)).2 (by decide +kernel)),
   runs (h.2.2.2.2.2.2.2.2.1 63 (ported {  } [(.PEN_STATUS_PSTATE, 63, 8)]) (by decide +kernel) (by decide +kernel) (Or.inr ⟨by decide +kernel, by decide +kernel⟩)),
   runs (h.2.2.2.2.2.2.2.2.2 63 (act []) (by decide +kernel))⟩

/-- The clauses of Obligations.SlotsAndMessages at states and operands that meet their hypotheses. -/
theorem witness_SlotsAndMessages (h : Obligations.SlotsAndMessages) :
    Runs (.servoSlotReceived 63 15 (sealed { drop := 63 }) true) (dropped {} []) ∧
    Runs (.servoSlotReceived 63 15 (sealed { drop := 63, trayIn := true, tlmIdx := 7, tlmVal := 65535 }) true) (dropped {} []) ∧
    Runs (.servoSlotReceived 63 15 (sealed { drop := 63, fcode := 0x20 }) true) (dropped {} [(.MECH_STATE_STATE, 4095, 1)]) ∧
    Runs (.servoSlotReceived 63 15 (sealed { drop := 63, fcode := 0xFF }) true) (dropped {} [(.MECH_STATE_STATE, 4095, 1)]) ∧
    Runs (.servoSlotMissing 63 15) (dropped {} []) ∧
    Runs (.servoSlotMissing 63 15) (dropped {} [(.PEN_GCFG_MISS_LIMIT, 0, 1), (.MECH_STATE_STATE, 4095, 6), (.MECH_SERVO_SLOT_VALID, 4095, 1), (.MECH_SERVO_CLUSTER, 4095, 1)]) ∧
    Runs (.actuatorRepeat 4095) (dropped { dueAt := some 999999904 } []) ∧
    Runs (.dropTimeout 4095) (long (dropped {} [(.PEN_FANOUT_PRESENT, 63, 0)])) ∧
    Runs (.dropTimeout 4095) (long (dropped {} [(.PEN_FANOUT_PRESENT, 63, 1)])) ∧
    Runs (.dropNotFound 4095) (long ((dropped {} []).set2 .PEN_DROP_DSTATE 63 63 1)) ∧
    Runs (.mgmtMessage 63 63 0 0 true .reserved) (dropped {  } []) ∧
    Runs (.mgmtMessage 63 63 0 0 true (.status true false true true false true 7 65535)) (dropped {  } []) ∧
    Runs (.mgmtMessage 63 63 63 0 true .bfw) (dropped {  } []) ∧
    Runs (.mgmtMessage 63 63 4032 0 true .reserved) (dropped {  } []) ∧
    Runs (.mgmtMessage 63 63 64 0 true .reserved) (dropped {  } []) ∧
    Runs (.mgmtMessage 63 63 4031 0 true .reserved) (dropped { protoErrs := 3 } []) ∧
    Runs (.mgmtMessage 63 64 0 0 true .reserved) (dropped {  } []) ∧
    Runs (.mgmtResend 63 63) (dropped { unacked := [{ cls := 2 }], rounds := 7 } []) ∧
    Runs (.mgmtResend 63 63) (dropped { unacked := [{ cls := 2 }], rounds := 8 } []) :=
  ⟨runs (h.1 63 15 (sealed { drop := 63 }) (dropped {} []) 4095 rfl (by decide +kernel) (by decide +kernel) rfl rfl),
   runs (h.1 63 15 (sealed { drop := 63, trayIn := true, tlmIdx := 7, tlmVal := 65535 }) (dropped {} []) 4095 rfl (by decide +kernel) (by decide +kernel) rfl rfl),
   runs (h.1 63 15 (sealed { drop := 63, fcode := 0x20 }) (dropped {} [(.MECH_STATE_STATE, 4095, 1)]) 4095 rfl (by decide +kernel) (by decide +kernel) rfl rfl),
   runs (h.1 63 15 (sealed { drop := 63, fcode := 0xFF }) (dropped {} [(.MECH_STATE_STATE, 4095, 1)]) 4095 rfl (by decide +kernel) (by decide +kernel) rfl rfl),
   runs (h.2.1 63 15 (dropped {} []) 4095 rfl),
   runs (h.2.1 63 15 (dropped {} [(.PEN_GCFG_MISS_LIMIT, 0, 1), (.MECH_STATE_STATE, 4095, 6), (.MECH_SERVO_SLOT_VALID, 4095, 1), (.MECH_SERVO_CLUSTER, 4095, 1)]) 4095 rfl),
   runs (h.2.2.1 4095 (dropped { dueAt := some 999999904 } []) (by decide +kernel) (by decide +kernel)),
   runs (h.2.2.2.1 4095 (long (dropped {} [(.PEN_FANOUT_PRESENT, 63, 0)])) (by decide +kernel) (by decide +kernel) (by decide +kernel) (by decide +kernel)),
   runs (h.2.2.2.1 4095 (long (dropped {} [(.PEN_FANOUT_PRESENT, 63, 1)])) (by decide +kernel) (by decide +kernel) (by decide +kernel) (by decide +kernel)),
   runs (h.2.2.2.2.1 4095 (long ((dropped {} []).set2 .PEN_DROP_DSTATE 63 63 1)) (by decide +kernel) (by decide +kernel) (by decide +kernel) (by decide +kernel)),
   runs (h.2.2.2.2.2.1 63 63 0 0 .reserved (dropped {  } []) (by decide +kernel) (by decide +kernel)),
   runs (h.2.2.2.2.2.1 63 63 0 0 (.status true false true true false true 7 65535) (dropped {  } []) (by decide +kernel) (by decide +kernel)),
   runs (h.2.2.2.2.2.1 63 63 63 0 .bfw (dropped {  } []) (by decide +kernel) (by decide +kernel)),
   runs (h.2.2.2.2.2.1 63 63 4032 0 .reserved (dropped {  } []) (by decide +kernel) (by decide +kernel)),
   runs (h.2.2.2.2.2.1 63 63 64 0 .reserved (dropped {  } []) (by decide +kernel) (by decide +kernel)),
   runs (h.2.2.2.2.2.1 63 63 4031 0 .reserved (dropped { protoErrs := 3 } []) (by decide +kernel) (by decide +kernel)),
   runs (h.2.2.2.2.2.1 63 64 0 0 .reserved (dropped {  } []) (by decide +kernel) (by decide +kernel)),
   runs (h.2.2.2.2.2.2 63 63 (dropped { unacked := [{ cls := 2 }], rounds := 7 } []) (by decide +kernel) (by decide +kernel)),
   runs (h.2.2.2.2.2.2 63 63 (dropped { unacked := [{ cls := 2 }], rounds := 8 } []) (by decide +kernel) (by decide +kernel))⟩

/-- Mechanism 4095 has Firn lane 271, which holds this record; these fields are set. -/
def laned (x : LaneX) (l : List (Fld × Nat × Nat)) : State :=
  { act ([(.FIRN_STATUS_VALID, 271, 1), (.FIRN_STATUS_MN, 271, 4095), (.FIRN_STATUS_LSTATE, 271, 1), (.MECH_SERVO_LANE_VALID, 4095, 1), (.MECH_SERVO_LANE, 4095, 271)] ++ l) with
    chan := { lanes := [(271, x)] } }
/-- Beam 3 of lane 271 in this timing state. -/
def beamed (ts : Nat) (x : BeamX) : State := (laned { beams := [(3, x)] } []).set2 .FIRN_BEAM_TSTATE 271 3 ts
/-- Lanes 0 to 270 are in service and bound. -/
def noLane (s : State) : State :=
  let a := fun f => Reg.FIRN_STATUS.addr f 0
  { s with regs := s.regs.filter (fun e => decide (e.1 < a 0)) ++ (List.range 271).map (fun f => (a f, BitVec.ofNat 32 (2 ^ Fld.FIRN_STATUS_LSTATE.lo))) ++
      s.regs.filter fun e => decide (a 270 < e.1) }
/-- A codeword of lane 271's beam 3 that stands at this place. -/
def cwAt (id : Nat) (p : CwPlace) : Codeword := { id := id, mn := 4095, lane := 271, beam := 3, layer := 9, frame := 28, cluster := 5, place := p }
/-- These codewords stand in the LLR queue. -/
def pooled (l : List Codeword) (fs : List (Fld × Nat × Nat)) : State := { act fs with chan := { cws := l } }
/-- The posteriors that spell the bits of w in column 0. -/
def spelling (w : Nat) : List (List Int) := [(List.range 256).map fun i => if w / 2 ^ i % 2 = 1 then -1 else 1]
/-- Decoder 31 works on this codeword, with one matrix without an entry loaded. -/
def onDec (st : Nat) (w : Codeword) (fs : List (Fld × Nat × Nat)) : State :=
  { act ((.MOR_DEC_DSTATE, 31, st) :: fs) with chan := { cws := [w], matrices := [(0, {})] } }
/-- Mechanism 4095 reads cluster 5 of layer 9. -/
def reading (l : List SectorX) (revs : Nat) : ClusterRead := { mn := 4095, layer := 9, cluster := 5, sectors := l, revs := revs }
def readSt (r : ClusterRead) : State := { act [(.MECH_SPEED_MEAS, 4095, 4000)] with chan := { reads := [r] } }

/-- The clauses of Obligations.LaneBinding at states and operands that meet their hypotheses. -/
theorem witness_LaneBinding (h : Obligations.LaneBinding) :
    Runs (.laneBind 4095 true) (act (tracking 4095)) ∧
    Runs (.laneBind 4095 false) (io { opcode := 1, tag := 7, mn := 4095, count := 1 } [] []) ∧
    Runs (.laneBind 4095 true) (noLane (laned {} [(.MECH_STATE_STATE, 4095, 6), (.MECH_SERVO_LANE_VALID, 4095, 0)])) ∧
    Runs (.laneIdleRelease 4095) (laned {} [(.MECH_STATE_STATE, 4095, 7)]) ∧
    Runs (.laneMigrate 271) (laned {} [(.FIRN_LANE_STAT_BUSY, 0, 1)]) ∧
    Runs (.laneMigrate 271) (act []) ∧
    Runs (.laneMigrate 271) (noLane (laned {} [])) ∧
    Runs (.laneMigrate 271) (laned {} []) ∧
    Runs (.migrationSwitch 271) (laned { migTo := some 0, after := 0 } []) ∧
    Runs (.migrationSwitch 271) (laned { migTo := some 0, after := 3 } []) ∧
    Runs (.migrationSwitch 271) (laned { migTo := some 0, after := 4 } []) ∧
    Runs (.laneFault 271 0) (laned {} [(.FIRN_STATUS_LSTATE, 271, 0)]) ∧
    Runs (.laneFault 271 1) (laned {} [(.FIRN_STATUS_LSTATE, 271, 1)]) ∧
    Runs (.laneFault 271 2) ((laned {} [(.FIRN_STATUS_LSTATE, 271, 2)]).set2 .FIRN_BEAM_TSTATE 271 3 5) ∧
    Runs (.laneFault 271 0) (noLane (laned {} [])) :=
  ⟨runs (h.1 4095 true (act (tracking 4095)) (by decide +kernel) (by decide +kernel) (by decide +kernel)),
   runs (h.1 4095 false (io { opcode := 1, tag := 7, mn := 4095, count := 1 } [] []) (by decide +kernel) (by decide +kernel) (by decide +kernel)),
   runs (h.1 4095 true (noLane (laned {} [(.MECH_STATE_STATE, 4095, 6), (.MECH_SERVO_LANE_VALID, 4095, 0)])) (by decide +kernel) (by decide +kernel) (by decide +kernel)),
   runs (h.2.1 4095 (laned {} [(.MECH_STATE_STATE, 4095, 7)]) 271 (by decide +kernel) (by decide +kernel) (by decide +kernel) (by decide +kernel)),
   runs (h.2.2.1 271 (laned {} [(.FIRN_LANE_STAT_BUSY, 0, 1)]) (by decide +kernel) (by decide +kernel)),
   runs (h.2.2.1 271 (act []) (by decide +kernel) (by decide +kernel)),
   runs (h.2.2.1 271 (noLane (laned {} [])) (by decide +kernel) (by decide +kernel)),
   runs (h.2.2.1 271 (laned {} []) (by decide +kernel) (by decide +kernel)),
   runs (h.2.2.2.1 271 (laned { migTo := some 0, after := 0 } []) 0 (by decide +kernel) (by decide +kernel) (by decide +kernel) (by decide +kernel)),
   runs (h.2.2.2.1 271 (laned { migTo := some 0, after := 3 } []) 0 (by decide +kernel) (by decide +kernel) (by decide +kernel) (by decide +kernel)),
   runs (h.2.2.2.1 271 (laned { migTo := some 0, after := 4 } []) 0 (by decide +kernel) (by decide +kernel) (by decide +kernel) (by decide +kernel)),
   runs (h.2.2.2.2 271 0 (laned {} [(.FIRN_STATUS_LSTATE, 271, 0)]) (by decide +kernel) (by decide +kernel)),
   runs (h.2.2.2.2 271 1 (laned {} [(.FIRN_STATUS_LSTATE, 271, 1)]) (by decide +kernel) (by decide +kernel)),
   runs (h.2.2.2.2 271 2 ((laned {} [(.FIRN_STATUS_LSTATE, 271, 2)]).set2 .FIRN_BEAM_TSTATE 271 3 5) (by decide +kernel) (by decide +kernel)),
   runs (h.2.2.2.2 271 0 (noLane (laned {} [])) (by decide +kernel) (by decide +kernel))⟩

/-- The clauses of Obligations.LaneTestsAndSignals at states and operands that meet their hypotheses. -/
theorem witness_LaneTestsAndSignals (h : Obligations.LaneTestsAndSignals) :
    Runs (.laneTest 271) (act [(.FIRN_STATUS_LSTATE, 271, 0)]) ∧
    Runs (.laneRetest 271) (act [(.FIRN_STATUS_LSTATE, 271, 0)]) ∧
    Runs (.laneTest 271) (act [(.FIRN_STATUS_LSTATE, 271, 5)]) ∧
    Runs (.laneRetest 271) (act [(.FIRN_STATUS_LSTATE, 271, 5)]) ∧
    Runs (.laneTestDone 271 true) (laned { faults := 3, testOp := 2 } [(.FIRN_STATUS_LSTATE, 271, 3), (.FIRN_GCFG_FAULT_LIMIT, 0, 0)]) ∧
    Runs (.laneTestDone 271 true) (laned { faults := 3, testOp := 2 } [(.FIRN_STATUS_LSTATE, 271, 3), (.FIRN_GCFG_FAULT_LIMIT, 0, 4)]) ∧
    Runs (.laneTestDone 271 true) (laned { faults := 3, testOp := 2 } [(.FIRN_STATUS_LSTATE, 271, 3), (.FIRN_GCFG_FAULT_LIMIT, 0, 3)]) ∧
    Runs (.laneTestDone 271 false) (laned { faults := 3, testOp := 2 } [(.FIRN_STATUS_LSTATE, 271, 3), (.FIRN_GCFG_FAULT_LIMIT, 0, 3)]) ∧
    Runs (.rfBurst 271 0 15 0xFF000000 [0] none) ((laned { rfSeq := none } []).wr .PEN_BMAP 63 15 0x803F0000) ∧
    Runs (.rfBurst 271 0 15 0xFF000000 [0] none) ((laned { rfSeq := (some 0) } []).wr .PEN_BMAP 63 15 0x803F0000) ∧
    Runs (.rfBurst 271 0 15 0xFF000000 [0] none) ((laned { rfSeq := (some 2047) } []).wr .PEN_BMAP 63 15 0x803F0000) ∧
    Runs (.rfBurst 271 0 15 0xFF000000 [0] none) ((laned { rfSeq := (some 4095) } []).wr .PEN_BMAP 63 15 0x803F0000) ∧
    (State.searchTone (beamed 0 { cfg := [0, 0] }) (271 : LaneIx) (3 : BeamIx)).get .FIRN_BEAM_TSTATE (271 : LaneIx) (3 : BeamIx) = 1 ∧
    (State.preambleStep (beamed 1 { frm := { start := 100 }, osc := { k := 420 } }) (271 : LaneIx) (3 : BeamIx)).get .FIRN_BEAM_TSTATE (271 : LaneIx) (3 : BeamIx) = 2 ∧
    (State.preambleStep (beamed 1 { frm := { start := 100 }, osc := { k := 421 } }) (271 : LaneIx) (3 : BeamIx)).get .FIRN_BEAM_TSTATE (271 : LaneIx) (3 : BeamIx) = 5 ∧
    (State.preambleStep (beamed 2 { frm := { start := 100 }, osc := { k := 421 } }) (271 : LaneIx) (3 : BeamIx)).get .FIRN_BEAM_TSTATE (271 : LaneIx) (3 : BeamIx) = 5 ∧
    (State.regionStep (beamed 3 {}) (271 : LaneIx) (3 : BeamIx) true).get .FIRN_BEAM_TSTATE (271 : LaneIx) (3 : BeamIx) = 4 ∧
    (State.regionStep (beamed 4 { osc := { hole := 2048 } }) (271 : LaneIx) (3 : BeamIx) true).get .FIRN_BEAM_TSTATE (271 : LaneIx) (3 : BeamIx) = 0 ∧
    (State.regionStep (beamed 4 { held := 5, osc := { hole := 1 } }) (271 : LaneIx) (3 : BeamIx) false).get .FIRN_BEAM_TSTATE (271 : LaneIx) (3 : BeamIx) = ((beamed 4 { held := 5, osc := { hole := 1 } }).beam (271 : LaneIx) (3 : BeamIx)).held ∧
    (State.judgeTiming (beamed 2 { osc := { inState := 65535 } }) (271 : LaneIx) (3 : BeamIx)).get .FIRN_BEAM_TSTATE (271 : LaneIx) (3 : BeamIx) = 3 ∧
    (State.judgeTiming (beamed 5 { osc := { inState := 64, eps := List.replicate 64 0 } }) (271 : LaneIx) (3 : BeamIx)).get .FIRN_BEAM_TSTATE (271 : LaneIx) (3 : BeamIx) = 3 ∧
    (State.judgeTiming (beamed 3 { osc := { inState := 256, eps := List.replicate 256 60000 } }) (271 : LaneIx) (3 : BeamIx)).get .FIRN_BEAM_TSTATE (271 : LaneIx) (3 : BeamIx) = 0 ∧
    Runs (.levelBankSwitch 271) (laned { bankNext := some 3 } []) ∧
    Runs (.writeStop 271) (laned { run := some { wb := 3, r0 := 24000000 * 2 ^ 24, ang := 0, theta := 0 } } [(.FIRN_STATUS_WRITE, 271, 1)]) ∧
    Runs (.writeStopTimeout 271) (laned { stopAt := some 999900000 } [(.FIRN_STATUS_WRITE, 271, 1)]) :=
  ⟨runs ((h.1 271 (act [(.FIRN_STATUS_LSTATE, 271, 0)]) (by decide +kernel) (by decide +kernel) (by decide +kernel)).1),
   runs ((h.1 271 (act [(.FIRN_STATUS_LSTATE, 271, 0)]) (by decide +kernel) (by decide +kernel) (by decide +kernel)).2),
   runs ((h.1 271 (act [(.FIRN_STATUS_LSTATE, 271, 5)]) (by decide +kernel) (by decide +kernel) (by decide +kernel)).1),
   runs ((h.1 271 (act [(.FIRN_STATUS_LSTATE, 271, 5)]) (by decide +kernel) (by decide +kernel) (by decide +kernel)).2),
   runs (h.2.1 271 true (laned { faults := 3, testOp := 2 } [(.FIRN_STATUS_LSTATE, 271, 3), (.FIRN_GCFG_FAULT_LIMIT, 0, 0)]) (by decide +kernel) (by decide +kernel)),
   runs (h.2.1 271 true (laned { faults := 3, testOp := 2 } [(.FIRN_STATUS_LSTATE, 271, 3), (.FIRN_GCFG_FAULT_LIMIT, 0, 4)]) (by decide +kernel) (by decide +kernel)),
   runs (h.2.1 271 true (laned { faults := 3, testOp := 2 } [(.FIRN_STATUS_LSTATE, 271, 3), (.FIRN_GCFG_FAULT_LIMIT, 0, 3)]) (by decide +kernel) (by decide +kernel)),
   runs (h.2.1 271 false (laned { faults := 3, testOp := 2 } [(.FIRN_STATUS_LSTATE, 271, 3), (.FIRN_GCFG_FAULT_LIMIT, 0, 3)]) (by decide +kernel) (by decide +kernel)),
   runs (h.2.2.1 271 0 15 0xFF000000 [0] none ((laned { rfSeq := none } []).wr .PEN_BMAP 63 15 0x803F0000) (by decide +kernel) (by decide +kernel) rfl),
   runs (h.2.2.1 271 0 15 0xFF000000 [0] none ((laned { rfSeq := (some 0) } []).wr .PEN_BMAP 63 15 0x803F0000) (by decide +kernel) (by decide +kernel) rfl),
   runs (h.2.2.1 271 0 15 0xFF000000 [0] none ((laned { rfSeq := (some 2047) } []).wr .PEN_BMAP 63 15 0x803F0000) (by decide +kernel) (by decide +kernel) rfl),
   runs (h.2.2.1 271 0 15 0xFF000000 [0] none ((laned { rfSeq := (some 4095) } []).wr .PEN_BMAP 63 15 0x803F0000) (by decide +kernel) (by decide +kernel) rfl),
   (h.2.2.2.2.1 (271 : LaneIx) (3 : BeamIx) (beamed 0 { cfg := [0, 0] })).1 (by decide +kernel) (by decide +kernel) (by decide +kernel),
   (h.2.2.2.2.1 (271 : LaneIx) (3 : BeamIx) (beamed 1 { frm := { start := 100 }, osc := { k := 420 } })).2.1 (by decide +kernel) (by decide +kernel),
   (h.2.2.2.2.1 (271 : LaneIx) (3 : BeamIx) (beamed 1 { frm := { start := 100 }, osc := { k := 421 } })).2.2.1 (Or.inl (by decide +kernel)) (by decide +kernel) (by decide +kernel),
   (h.2.2.2.2.1 (271 : LaneIx) (3 : BeamIx) (beamed 2 { frm := { start := 100 }, osc := { k := 421 } })).2.2.1 (Or.inr (by decide +kernel)) (by decide +kernel) (by decide +kernel),
   ((h.2.2.2.2.1 (271 : LaneIx) (3 : BeamIx) (beamed 3 {})).2.2.2.1 (by decide +kernel) (by decide +kernel)).1,
   (h.2.2.2.2.1 (271 : LaneIx) (3 : BeamIx) (beamed 4 { osc := { hole := 2048 } })).2.2.2.2.1 (by decide +kernel) (by decide +kernel),
   (h.2.2.2.2.1 (271 : LaneIx) (3 : BeamIx) (beamed 4 { held := 5, osc := { hole := 1 } })).2.2.2.2.2.1 (by decide +kernel) (by decide +kernel) (by decide +kernel),
   (h.2.2.2.2.1 (271 : LaneIx) (3 : BeamIx) (beamed 2 { osc := { inState := 65535 } })).2.2.2.2.2.2.1 (by decide +kernel) (by decide +kernel),
   (h.2.2.2.2.1 (271 : LaneIx) (3 : BeamIx) (beamed 5 { osc := { inState := 64, eps := List.replicate 64 0 } })).2.2.2.2.2.2.2.1 (by decide +kernel) (by decide +kernel) (by decide +kernel),
   (h.2.2.2.2.1 (271 : LaneIx) (3 : BeamIx) (beamed 3 { osc := { inState := 256, eps := List.replicate 256 60000 } })).2.2.2.2.2.2.2.2 (by decide +kernel) (by decide +kernel) (by decide +kernel),
   runs (h.2.2.2.2.2.1 271 (laned { bankNext := some 3 } []) 3 rfl rfl (by decide +kernel) (Or.inl rfl)),
   runs (h.2.2.2.2.2.2.1 271 (laned { run := some { wb := 3, r0 := 24000000 * 2 ^ 24, ang := 0, theta := 0 } } [(.FIRN_STATUS_WRITE, 271, 1)]) { wb := 3, r0 := 24000000 * 2 ^ 24, ang := 0, theta := 0 } (by decide +kernel) rfl rfl),
   runs (h.2.2.2.2.2.2.2 271 (laned { stopAt := some 999900000 } [(.FIRN_STATUS_WRITE, 271, 1)]) 999900000 (by decide +kernel) rfl (by decide +kernel))⟩

/-- The clauses of Obligations.LlrQueueAndPool at states and operands that meet their hypotheses. -/
theorem witness_LlrQueueAndPool (h : Obligations.LlrQueueAndPool) :
    Runs (.llrMove) (pooled [cwAt 7 .ready] []) ∧
    Runs (.codewordUrgent 7) (pooled [{ cwAt 7 .ready with urgent := true }] []) ∧
    Runs (.codewordUrgent 7) (pooled [cwAt 7 .ready, cwAt 8 .assembling] []) ∧
    Runs (.codewordUrgent 7) (pooled ([cwAt 7 .ready, cwAt 8 .assembling, cwAt 9 (.decoding 31)] ++ List.replicate 299 (cwAt 9 .staged) ++ List.replicate 32 (cwAt 9 .parked)) [(.MOR_GCFG_PREEMPT_EN, 0, 1), (.MOR_DEC_DSTATE, 31, 2), (.MOR_GCFG_PARK_MAX, 0, 1)]) ∧
    Runs (.codewordUrgent 7) (pooled ([cwAt 7 .ready, cwAt 8 .assembling, cwAt 9 (.decoding 31)] ++ List.replicate 299 (cwAt 9 .staged) ++ []) [(.MOR_GCFG_PREEMPT_EN, 0, 1), (.MOR_DEC_DSTATE, 31, 2), (.MOR_GCFG_PARK_MAX, 0, 1)]) ∧
    Runs (.parkComplete 31) (pooled [cwAt 7 (.decoding 31)] [(.MOR_DEC_DSTATE, 31, 3)]) ∧
    Runs (.parkComplete 31) (pooled [{ cwAt 8 .ready with urgent := true }, cwAt 7 (.decoding 31)] [(.MOR_DEC_DSTATE, 31, 3)]) ∧
    Runs (.decoderGrant) (pooled [cwAt 7 .staged] [(.MOR_DEC_DSTATE, 31, 0)]) ∧
    Runs (.decoderGrant) (pooled [cwAt 7 .parked] [(.MOR_DEC_DSTATE, 31, 0)]) ∧
    Runs (.starveTimeout 7) (pooled [cwAt 7 .staged] [(.MOR_TIMING_STARVE_US, 0, 1)]) ∧
    Runs (.starveTimeout 7) (pooled [cwAt 7 .parked] [(.MOR_TIMING_STARVE_US, 0, 1)]) ∧
    Runs (.decoderWatchdog 31 true) (onDec 1 (cwAt 7 (.decoding 31)) []) ∧
    Runs (.decoderWatchdog 31 false) (onDec 4 (cwAt 7 (.decoding 31)) []) ∧
    Runs (.decTest 31) ({ act [(.MOR_DEC_DSTATE, 31, 0), (.MOR_DEC_CMD_STAT_BUSY, 0, 0)] with chan := { decTest := [(31, 0)] } }) ∧
    Runs (.decEnable 31) ({ act [(.MOR_DEC_DSTATE, 31, 0), (.MOR_DEC_CMD_STAT_BUSY, 0, 0)] with chan := { decTest := [(31, 0)] } }) ∧
    Runs (.decDisable 31) ({ act [(.MOR_DEC_DSTATE, 31, 0), (.MOR_DEC_CMD_STAT_BUSY, 0, 0)] with chan := { decTest := [(31, 0)] } }) ∧
    Runs (.decTest 31) ({ act [(.MOR_DEC_DSTATE, 31, 1), (.MOR_DEC_CMD_STAT_BUSY, 0, 0)] with chan := { decTest := [(31, 0)] } }) ∧
    Runs (.decEnable 31) ({ act [(.MOR_DEC_DSTATE, 31, 1), (.MOR_DEC_CMD_STAT_BUSY, 0, 0)] with chan := { decTest := [(31, 0)] } }) ∧
    Runs (.decDisable 31) ({ act [(.MOR_DEC_DSTATE, 31, 1), (.MOR_DEC_CMD_STAT_BUSY, 0, 0)] with chan := { decTest := [(31, 0)] } }) ∧
    Runs (.decTest 31) ({ act [(.MOR_DEC_DSTATE, 31, 4), (.MOR_DEC_CMD_STAT_BUSY, 0, 0)] with chan := { decTest := [(31, 0)] } }) ∧
    Runs (.decEnable 31) ({ act [(.MOR_DEC_DSTATE, 31, 4), (.MOR_DEC_CMD_STAT_BUSY, 0, 0)] with chan := { decTest := [(31, 0)] } }) ∧
    Runs (.decDisable 31) ({ act [(.MOR_DEC_DSTATE, 31, 4), (.MOR_DEC_CMD_STAT_BUSY, 0, 0)] with chan := { decTest := [(31, 0)] } }) ∧
    Runs (.decTest 31) ({ act [(.MOR_DEC_DSTATE, 31, 5), (.MOR_DEC_CMD_STAT_BUSY, 0, 0)] with chan := { decTest := [(31, 0)] } }) ∧
    Runs (.decEnable 31) ({ act [(.MOR_DEC_DSTATE, 31, 5), (.MOR_DEC_CMD_STAT_BUSY, 0, 0)] with chan := { decTest := [(31, 0)] } }) ∧
    Runs (.decDisable 31) ({ act [(.MOR_DEC_DSTATE, 31, 5), (.MOR_DEC_CMD_STAT_BUSY, 0, 0)] with chan := { decTest := [(31, 0)] } }) ∧
    Runs (.decTest 31) ({ act [(.MOR_DEC_DSTATE, 31, 6), (.MOR_DEC_CMD_STAT_BUSY, 0, 0)] with chan := { decTest := [(31, 0)] } }) ∧
    Runs (.decEnable 31) ({ act [(.MOR_DEC_DSTATE, 31, 6), (.MOR_DEC_CMD_STAT_BUSY, 0, 0)] with chan := { decTest := [(31, 0)] } }) ∧
    Runs (.decDisable 31) ({ act [(.MOR_DEC_DSTATE, 31, 6), (.MOR_DEC_CMD_STAT_BUSY, 0, 0)] with chan := { decTest := [(31, 0)] } }) ∧
    Runs (.decTest 31) ({ act [(.MOR_DEC_DSTATE, 31, 7), (.MOR_DEC_CMD_STAT_BUSY, 0, 0)] with chan := { decTest := [(31, 16)] } }) ∧
    Runs (.decEnable 31) ({ act [(.MOR_DEC_DSTATE, 31, 7), (.MOR_DEC_CMD_STAT_BUSY, 0, 0)] with chan := { decTest := [(31, 16)] } }) ∧
    Runs (.decDisable 31) ({ act [(.MOR_DEC_DSTATE, 31, 7), (.MOR_DEC_CMD_STAT_BUSY, 0, 0)] with chan := { decTest := [(31, 16)] } }) ∧
    Runs (.decTest 31) ({ act [(.MOR_DEC_DSTATE, 31, 7), (.MOR_DEC_CMD_STAT_BUSY, 0, 0)] with chan := { decTest := [(31, 0)] } }) ∧
    Runs (.decEnable 31) ({ act [(.MOR_DEC_DSTATE, 31, 7), (.MOR_DEC_CMD_STAT_BUSY, 0, 0)] with chan := { decTest := [(31, 0)] } }) ∧
    Runs (.decDisable 31) ({ act [(.MOR_DEC_DSTATE, 31, 7), (.MOR_DEC_CMD_STAT_BUSY, 0, 0)] with chan := { decTest := [(31, 0)] } }) ∧
    Runs (.decTest 31) ({ act [(.MOR_DEC_DSTATE, 31, 0), (.MOR_DEC_CMD_STAT_BUSY, 0, 1)] with chan := { decTest := [(31, 0)] } }) ∧
    Runs (.decEnable 31) ({ act [(.MOR_DEC_DSTATE, 31, 0), (.MOR_DEC_CMD_STAT_BUSY, 0, 1)] with chan := { decTest := [(31, 0)] } }) ∧
    Runs (.decDisable 31) ({ act [(.MOR_DEC_DSTATE, 31, 0), (.MOR_DEC_CMD_STAT_BUSY, 0, 1)] with chan := { decTest := [(31, 0)] } }) ∧
    Runs (.decoderTestDone 31 false) ({ act [(.MOR_DEC_DSTATE, 31, 5)] with chan := { decTest := [(31, 1)] } }) ∧
    Runs (.decoderTestDone 31 true) ({ act [(.MOR_DEC_DSTATE, 31, 5)] with chan := { decTest := [(31, 2)] } }) ∧
    Runs (.decoderTestDone 31 true) ({ act [(.MOR_DEC_DSTATE, 31, 5)] with chan := { decTest := [(31, 1)] } }) :=
  ⟨runs (h.1 (pooled [cwAt 7 .ready] []) (cwAt 7 .ready) (by decide +kernel) rfl),
   runs (h.2.1 7 (pooled [{ cwAt 7 .ready with urgent := true }] []) { cwAt 7 .ready with urgent := true } rfl rfl (by decide +kernel)),
   runs (h.2.1 7 (pooled [cwAt 7 .ready, cwAt 8 .assembling] []) (cwAt 7 .ready) rfl rfl (by decide +kernel)),
   runs (h.2.1 7 (pooled ([cwAt 7 .ready, cwAt 8 .assembling, cwAt 9 (.decoding 31)] ++ List.replicate 299 (cwAt 9 .staged) ++ List.replicate 32 (cwAt 9 .parked)) [(.MOR_GCFG_PREEMPT_EN, 0, 1), (.MOR_DEC_DSTATE, 31, 2), (.MOR_GCFG_PARK_MAX, 0, 1)]) (cwAt 7 .ready) rfl rfl (by decide +kernel)),
   runs (h.2.1 7 (pooled ([cwAt 7 .ready, cwAt 8 .assembling, cwAt 9 (.decoding 31)] ++ List.replicate 299 (cwAt 9 .staged) ++ []) [(.MOR_GCFG_PREEMPT_EN, 0, 1), (.MOR_DEC_DSTATE, 31, 2), (.MOR_GCFG_PARK_MAX, 0, 1)]) (cwAt 7 .ready) rfl rfl (by decide +kernel)),
   runs (h.2.2.1 31 (pooled [cwAt 7 (.decoding 31)] [(.MOR_DEC_DSTATE, 31, 3)]) (cwAt 7 (.decoding 31)) (by decide +kernel) rfl (by decide +kernel) rfl),
   runs (h.2.2.1 31 (pooled [{ cwAt 8 .ready with urgent := true }, cwAt 7 (.decoding 31)] [(.MOR_DEC_DSTATE, 31, 3)]) (cwAt 7 (.decoding 31)) (by decide +kernel) rfl (by decide +kernel) rfl),
   runs (h.2.2.2.1 (pooled [cwAt 7 .staged] [(.MOR_DEC_DSTATE, 31, 0)]) 0 (cwAt 7 .staged) (by decide +kernel) rfl),
   runs (h.2.2.2.1 (pooled [cwAt 7 .parked] [(.MOR_DEC_DSTATE, 31, 0)]) 0 (cwAt 7 .parked) (by decide +kernel) rfl),
   runs (h.2.2.2.2.1 7 (pooled [cwAt 7 .staged] [(.MOR_TIMING_STARVE_US, 0, 1)]) (cwAt 7 .staged) rfl (Or.inl rfl) rfl (by decide +kernel) (by decide +kernel)),
   runs (h.2.2.2.2.1 7 (pooled [cwAt 7 .parked] [(.MOR_TIMING_STARVE_US, 0, 1)]) (cwAt 7 .parked) rfl (Or.inr rfl) rfl (by decide +kernel) (by decide +kernel)),
   runs (h.2.2.2.2.2.1 31 true (onDec 1 (cwAt 7 (.decoding 31)) []) (by decide +kernel) (by decide +kernel) rfl (by decide +kernel)),
   runs (h.2.2.2.2.2.1 31 false (onDec 4 (cwAt 7 (.decoding 31)) []) (by decide +kernel) (by decide +kernel) rfl (by decide +kernel)),
   runs ((h.2.2.2.2.2.2.1 31 ({ act [(.MOR_DEC_DSTATE, 31, 0), (.MOR_DEC_CMD_STAT_BUSY, 0, 0)] with chan := { decTest := [(31, 0)] } }) (by decide +kernel)).1),
   runs ((h.2.2.2.2.2.2.1 31 ({ act [(.MOR_DEC_DSTATE, 31, 0), (.MOR_DEC_CMD_STAT_BUSY, 0, 0)] with chan := { decTest := [(31, 0)] } }) (by decide +kernel)).2.1),
   runs ((h.2.2.2.2.2.2.1 31 ({ act [(.MOR_DEC_DSTATE, 31, 0), (.MOR_DEC_CMD_STAT_BUSY, 0, 0)] with chan := { decTest := [(31, 0)] } }) (by decide +kernel)).2.2),
   runs ((h.2.2.2.2.2.2.1 31 ({ act [(.MOR_DEC_DSTATE, 31, 1), (.MOR_DEC_CMD_STAT_BUSY, 0, 0)] with chan := { decTest := [(31, 0)] } }) (by decide +kernel)).1),
   runs ((h.2.2.2.2.2.2.1 31 ({ act [(.MOR_DEC_DSTATE, 31, 1), (.MOR_DEC_CMD_STAT_BUSY, 0, 0)] with chan := { decTest := [(31, 0)] } }) (by decide +kernel)).2.1),
   runs ((h.2.2.2.2.2.2.1 31 ({ act [(.MOR_DEC_DSTATE, 31, 1), (.MOR_DEC_CMD_STAT_BUSY, 0, 0)] with chan := { decTest := [(31, 0)] } }) (by decide +kernel)).2.2),
   runs ((h.2.2.2.2.2.2.1 31 ({ act [(.MOR_DEC_DSTATE, 31, 4), (.MOR_DEC_CMD_STAT_BUSY, 0, 0)] with chan := { decTest := [(31, 0)] } }) (by decide +kernel)).1),
   runs ((h.2.2.2.2.2.2.1 31 ({ act [(.MOR_DEC_DSTATE, 31, 4), (.MOR_DEC_CMD_STAT_BUSY, 0, 0)] with chan := { decTest := [(31, 0)] } }) (by decide +kernel)).2.1),
   runs ((h.2.2.2.2.2.2.1 31 ({ act [(.MOR_DEC_DSTATE, 31, 4), (.MOR_DEC_CMD_STAT_BUSY, 0, 0)] with chan := { decTest := [(31, 0)] } }) (by decide +kernel)).2.2),
   runs ((h.2.2.2.2.2.2.1 31 ({ act [(.MOR_DEC_DSTATE, 31, 5), (.MOR_DEC_CMD_STAT_BUSY, 0, 0)] with chan := { decTest := [(31, 0)] } }) (by decide +kernel)).1),
   runs ((h.2.2.2.2.2.2.1 31 ({ act [(.MOR_DEC_DSTATE, 31, 5), (.MOR_DEC_CMD_STAT_BUSY, 0, 0)] with chan := { decTest := [(31, 0)] } }) (by decide +kernel)).2.1),
   runs ((h.2.2.2.2.2.2.1 31 ({ act [(.MOR_DEC_DSTATE, 31, 5), (.MOR_DEC_CMD_STAT_BUSY, 0, 0)] with chan := { decTest := [(31, 0)] } }) (by decide +kernel)).2.2),
   runs ((h.2.2.2.2.2.2.1 31 ({ act [(.MOR_DEC_DSTATE, 31, 6), (.MOR_DEC_CMD_STAT_BUSY, 0, 0)] with chan := { decTest := [(31, 0)] } }) (by decide +kernel)).1),
   runs ((h.2.2.2.2.2.2.1 31 ({ act [(.MOR_DEC_DSTATE, 31, 6), (.MOR_DEC_CMD_STAT_BUSY, 0, 0)] with chan := { decTest := [(31, 0)] } }) (by decide +kernel)).2.1),
   runs ((h.2.2.2.2.2.2.1 31 ({ act [(.MOR_DEC_DSTATE, 31, 6), (.MOR_DEC_CMD_STAT_BUSY, 0, 0)] with chan := { decTest := [(31, 0)] } }) (by decide +kernel)).2.2),
   runs ((h.2.2.2.2.2.2.1 31 ({ act [(.MOR_DEC_DSTATE, 31, 7), (.MOR_DEC_CMD_STAT_BUSY, 0, 0)] with chan := { decTest := [(31, 16)] } }) (by decide +kernel)).1),
   runs ((h.2.2.2.2.2.2.1 31 ({ act [(.MOR_DEC_DSTATE, 31, 7), (.MOR_DEC_CMD_STAT_BUSY, 0, 0)] with chan := { decTest := [(31, 16)] } }) (by decide +kernel)).2.1),
   runs ((h.2.2.2.2.2.2.1 31 ({ act [(.MOR_DEC_DSTATE, 31, 7), (.MOR_DEC_CMD_STAT_BUSY, 0, 0)] with chan := { decTest := [(31, 16)] } }) (by decide +kernel)).2.2),
   runs ((h.2.2.2.2.2.2.1 31 ({ act [(.MOR_DEC_DSTATE, 31, 7), (.MOR_DEC_CMD_STAT_BUSY, 0, 0)] with chan := { decTest := [(31, 0)] } }) (by decide +kernel)).1),
   runs ((h.2.2.2.2.2.2.1 31 ({ act [(.MOR_DEC_DSTATE, 31, 7), (.MOR_DEC_CMD_STAT_BUSY, 0, 0)] with chan := { decTest := [(31, 0)] } }) (by decide +kernel)).2.1),
   runs ((h.2.2.2.2.2.2.1 31 ({ act [(.MOR_DEC_DSTATE, 31, 7), (.MOR_DEC_CMD_STAT_BUSY, 0, 0)] with chan := { decTest := [(31, 0)] } }) (by decide +kernel)).2.2),
   runs ((h.2.2.2.2.2.2.1 31 ({ act [(.MOR_DEC_DSTATE, 31, 0), (.MOR_DEC_CMD_STAT_BUSY, 0, 1)] with chan := { decTest := [(31, 0)] } }) (by decide +kernel)).1),
   runs ((h.2.2.2.2.2.2.1 31 ({ act [(.MOR_DEC_DSTATE, 31, 0), (.MOR_DEC_CMD_STAT_BUSY, 0, 1)] with chan := { decTest := [(31, 0)] } }) (by decide +kernel)).2.1),
   runs ((h.2.2.2.2.2.2.1 31 ({ act [(.MOR_DEC_DSTATE, 31, 0), (.MOR_DEC_CMD_STAT_BUSY, 0, 1)] with chan := { decTest := [(31, 0)] } }) (by decide +kernel)).2.2),
   runs (h.2.2.2.2.2.2.2 31 false ({ act [(.MOR_DEC_DSTATE, 31, 5)] with chan := { decTest := [(31, 1)] } }) (by decide +kernel) (by decide +kernel)),
   runs (h.2.2.2.2.2.2.2 31 true ({ act [(.MOR_DEC_DSTATE, 31, 5)] with chan := { decTest := [(31, 2)] } }) (by decide +kernel) (by decide +kernel)),
   runs (h.2.2.2.2.2.2.2 31 true ({ act [(.MOR_DEC_DSTATE, 31, 5)] with chan := { decTest := [(31, 1)] } }) (by decide +kernel) (by decide +kernel))⟩

/-- The clauses of Obligations.DecodingAndOuterCode at states and operands that meet their hypotheses. -/
theorem witness_DecodingAndOuterCode (h : Obligations.DecodingAndOuterCode) :
    Runs (.decodeIteration 31) (onDec 1 { cwAt 7 (.decoding 31) with post := spelling (2 ^ 96) } []) ∧
    Runs (.decodeIteration 31) (onDec 3 { cwAt 7 (.decoding 31) with post := spelling (2 ^ 96) } []) ∧
    Runs (.decodeIteration 31) (onDec 2 { cwAt 7 (.decoding 31) with post := spelling 1 } []) ∧
    Runs (.decodeIteration 31) (onDec 2 { cwAt 7 (.decoding 31) with post := spelling 1, parks := 1 } []) ∧
    Runs (.decodeIteration 31) (onDec 2 { cwAt 7 (.decoding 31) with post := spelling 1, set := 2 } []) ∧
    Runs (.decodeIteration 31) (onDec 2 { cwAt 7 (.decoding 31) with matrix := 9, iter := 255, post := spelling 1 } []) ∧
    Runs (.decodeIteration 31) (onDec 1 { cwAt 7 (.decoding 31) with matrix := 9, post := spelling 1 } [(.MOR_SET_MAX_ITER, 0, 9)]) ∧
    Runs (.wallTimeout 7) (pooled [{ cwAt 7 .staged with wallFrom := some 0 }] []) ∧
    Runs (.outerDecode 4095 9 5) (readSt (reading (List.replicate 32 .lost) 0)) ∧
    Runs (.outerDecode 4095 9 5) (readSt (reading (List.replicate 32 (.good [])) 0)) ∧
    Runs (.sectorRetryRev 4095 9 5) (readSt (reading (List.replicate 32 .lost) 1)) ∧
    Runs (.sectorRetryRev 4095 9 5) (readSt (reading (List.replicate 32 .lost) 255)) ∧
    Runs (.sectorRetryRev 4095 9 5) (readSt (reading (List.replicate 32 (.good [])) 1)) :=
  ⟨runs (h.1 31 (onDec 1 { cwAt 7 (.decoding 31) with post := spelling (2 ^ 96) } []) { cwAt 7 (.decoding 31) with post := spelling (2 ^ 96) } rfl (by decide +kernel) (by decide +kernel)),
   runs (h.1 31 (onDec 3 { cwAt 7 (.decoding 31) with post := spelling (2 ^ 96) } []) { cwAt 7 (.decoding 31) with post := spelling (2 ^ 96) } rfl (by decide +kernel) (by decide +kernel)),
   runs (h.1 31 (onDec 2 { cwAt 7 (.decoding 31) with post := spelling 1 } []) { cwAt 7 (.decoding 31) with post := spelling 1 } rfl (by decide +kernel) (by decide +kernel)),
   runs (h.1 31 (onDec 2 { cwAt 7 (.decoding 31) with post := spelling 1, parks := 1 } []) { cwAt 7 (.decoding 31) with post := spelling 1, parks := 1 } rfl (by decide +kernel) (by decide +kernel)),
   runs (h.1 31 (onDec 2 { cwAt 7 (.decoding 31) with post := spelling 1, set := 2 } []) { cwAt 7 (.decoding 31) with post := spelling 1, set := 2 } rfl (by decide +kernel) (by decide +kernel)),
   runs (h.1 31 (onDec 2 { cwAt 7 (.decoding 31) with matrix := 9, iter := 255, post := spelling 1 } []) { cwAt 7 (.decoding 31) with matrix := 9, iter := 255, post := spelling 1 } rfl (by decide +kernel) (by decide +kernel)),
   runs (h.1 31 (onDec 1 { cwAt 7 (.decoding 31) with matrix := 9, post := spelling 1 } [(.MOR_SET_MAX_ITER, 0, 9)]) { cwAt 7 (.decoding 31) with matrix := 9, post := spelling 1 } rfl (by decide +kernel) (by decide +kernel)),
   runs (h.2.1 7 (pooled [{ cwAt 7 .staged with wallFrom := some 0 }] []) { cwAt 7 .staged with wallFrom := some 0 } rfl ⟨0, rfl, (by decide +kernel)⟩),
   runs ((h.2.2 4095 9 5 (readSt (reading (List.replicate 32 .lost) 0)) (reading (List.replicate 32 .lost) 0) rfl rfl).2.1 rfl (by decide +kernel)),
   runs ((h.2.2 4095 9 5 (readSt (reading (List.replicate 32 (.good [])) 0)) (reading (List.replicate 32 (.good [])) 0) rfl rfl).2.1 rfl (by decide +kernel)),
   runs ((h.2.2 4095 9 5 (readSt (reading (List.replicate 32 .lost) 1)) (reading (List.replicate 32 .lost) 1) rfl rfl).2.2 (by decide +kernel) (by decide +kernel) (by decide +kernel)),
   runs ((h.2.2 4095 9 5 (readSt (reading (List.replicate 32 .lost) 255)) (reading (List.replicate 32 .lost) 255) rfl rfl).2.2 (by decide +kernel) (by decide +kernel) (by decide +kernel)),
   runs ((h.2.2 4095 9 5 (readSt (reading (List.replicate 32 (.good [])) 1)) (reading (List.replicate 32 (.good [])) 1) rfl rfl).2.2 (by decide +kernel) (by decide +kernel) (by decide +kernel))⟩

/-- Mechanism 4095 has a mounted HAF disc whose power calibration is valid, a permit and unlimited power; its journal and the write buffer hold this. -/
def journaled (d : DiscX) (w : List WbEntry) (g : Grants) (l : List (Fld × Nat × Nat)) : State :=
  { act (tracking 4095 ++ (.SAFE_ZONE_LPERMIT, 0, 255) :: (.BRTH_DOM_BUDGET_MW, 0, 0xFFFFFFFF) :: l) with
    cal := [(calKey 0 4095 0, { d := [0, 0, 0, 0, 0, 0, 32, 0] })], chan := { discs := [(4095, d)] }, host := { wbuf := w, cmds := [ctxOf 255 1 { opcode := 2, tag := 9, mn := 4095 }] },
    breath := { grants := [(4095, g)] } }
/-- A written entry of mechanism 4095, and its commit record. -/
def written (buffered : Bool) : WbEntry :=
  { id := 3, fn := 255, qpid := 1, tag := 9, mn := 4095, lba := 100, count := 1, phase := .committing, clusters := [5], data := [7], buffered := buffered }
def commit3 : CommitRec := { extents := [(100, 1, 0, 5, 0)], wbs := [3] }
/-- A set of two data members and one parity member, the discs 11, 12 and 13. -/
def threeOf (l : List StripeX) : FloeSet := { k := 2, m := 1, members := [11, 12, 13], used := 8, stripes := l, layers := [(0, 1), (1, 1), (2, 1)] }
/-- Its stripe 7 has a unit of each data member, and these protecting members. -/
def stripe7 (prot : List Nat) : StripeX := { num := 7, units := [(0, 5), (1, 6)], prot := prot }
/-- The set 5, its discs mounted and tracking in mechanisms 0, 1 and 4095; the parity unit of stripe 7 stands in cluster 9. -/
def setSt (f : FloeSet) (reads : List ClusterRead) (l : List (Fld × Nat × Nat)) : State :=
  { act (tracking 0 ++ tracking 1 ++ tracking 4095 ++ l) with
    mech := [(0, { discId := 11 }), (1, { discId := 12 }), (4095, { discId := 13 })], floe := [(5, f)],
    chan := { discs := [(0, { dz := 100 }), (1, { dz := 100 }), (4095, { dz := 100, extents := [(196, 28, 0, 9, 0)] })], reads := reads } }
/-- A read that is over: every sector good, or every sector lost. -/
def readOver (mn cluster : Nat) (good : Bool) : ClusterRead :=
  { mn := mn, layer := 0, cluster := cluster, sectors := List.replicate 32 (if good then .good [] else .lost), done := true }
/-- A file that defines set 5 of the discs 11, 12 and 13 with k 2 and m 1 (spec/10, FLOE_CONFIG). -/
def setFile : List Nat :=
  let h := leBytes 2 0x5346 ++ leBytes 2 1 ++ leBytes 2 5 ++ [2, 1] ++ List.replicate 52 0
  let b := leBytes 8 11 ++ leBytes 8 12 ++ leBytes 8 13
  h ++ leBytes 4 (crc32c (h ++ b)) ++ b
/-- Function 255's FLOE_CONFIG of set 5 with this SPEC and flags, for mechanism 4095. -/
def floeCmd (spec flags : Nat) : Ctx := ctxOf 255 0 { opcode := 0x8B, tag := 7, mn := 4095, spec := spec, floeId := 5, flags := flags }
theorem all_three {l : List Nat} {P : Nat → Prop} (e : l = [0, 1, 2]) (h0 : P 0) (h1 : P 1) (h2 : P 2) : ∀ i ∈ l, P i := by subst e; simp [h0, h1, h2]
theorem getD_of_isSome {α : Type} {o : Option α} (d : α) (h : o.isSome = true) : o = some (o.getD d) := by cases o <;> simp_all

/-- The clauses of Obligations.MapAppends at states and operands that meet their hypotheses. -/
theorem witness_MapAppends (h : Obligations.MapAppends) :
    Runs (.mapAppend 4095 true) (journaled { commits := [commit3], mapNext := 0 } [written false] { write := some 1 } []) ∧
    Runs (.mapAppend 4095 true) (journaled { commits := [commit3], mapNext := 16383 } [written false] { write := some 1 } []) ∧
    Runs (.mapAppend 4095 true) (journaled { commits := [commit3], mapNext := 7 } [written true] { write := some 1 } []) ∧
    Runs (.mapAppend 4095 false) (journaled { commits := [commit3], mapNext := 0 } [written false] { write := some 1 } []) ∧
    Runs (.mapAppend 4095 true) (journaled { commits := [commit3] } [written false] {} [(.BRTH_DOM_BUDGET_MW, 0, 0)]) ∧
    Runs (.mapAppend 4095 true) (journaled { commits := [commit3] } [written true] {} [(.BRTH_DOM_BUDGET_MW, 0, 0)]) ∧
    Runs (.appendRetry 4095) ({ journaled { commits := [commit3] } [written false] {} [(.MECH_STATE_STATE, 4095, 2)] with mech := [(4032, { waitSlot := some 5 })] }) ∧
    Runs (.appendRetry 4095) ({ journaled {} [written false] {} [(.MECH_STATE_STATE, 4095, 6)] with chan := { discs := [(4095, { commits := [commit3] })], laneWait := [0] } }) ∧
    Runs (.appendRetry 4095) (journaled { commits := [commit3] } [written false] {} [(.MECH_STATE_STATE, 4095, 7), (.MECH_SERVO_LANE_VALID, 4095, 1), (.MECH_SERVO_LANE, 4095, 271)]) ∧
    Runs (.stripeCloseTimeout 5 7) (setSt (threeOf [{ num := 7, units := [(0, 5)], isOpen := true, opened := 1000000000 }]) [] []) ∧
    Runs (.stripeCloseTimeout 5 7) (long (setSt (threeOf [{ num := 7, units := [(0, 5)], isOpen := true }]) [] [])) ∧
    Runs (.resync 5 7) (setSt (threeOf [stripe7 []]) [] [(.FLOE_GCFG_AUTO_RESYNC, 0, 1)]) ∧
    Runs (.resync 5 7) (setSt (threeOf [stripe7 []]) [readOver 0 5 true, readOver 1 6 true] [(.FLOE_GCFG_AUTO_RESYNC, 0, 1)]) :=
  ⟨runs ((h.1 4095 (journaled { commits := [commit3], mapNext := 0 } [written false] { write := some 1 } []) (by decide +kernel) (by decide +kernel) (by decide +kernel) (by decide +kernel) rfl (by decide +kernel)).1),
   runs ((h.1 4095 (journaled { commits := [commit3], mapNext := 16383 } [written false] { write := some 1 } []) (by decide +kernel) (by decide +kernel) (by decide +kernel) (by decide +kernel) rfl (by decide +kernel)).1),
   runs ((h.1 4095 (journaled { commits := [commit3], mapNext := 7 } [written true] { write := some 1 } []) (by decide +kernel) (by decide +kernel) (by decide +kernel) (by decide +kernel) rfl (by decide +kernel)).1),
   runs ((h.1 4095 (journaled { commits := [commit3], mapNext := 0 } [written false] { write := some 1 } []) (by decide +kernel) (by decide +kernel) (by decide +kernel) (by decide +kernel) rfl (by decide +kernel)).2),
   runs (h.2.1 4095 true (journaled { commits := [commit3] } [written false] {} [(.BRTH_DOM_BUDGET_MW, 0, 0)]) (written false) rfl (by decide +kernel) rfl (by decide +kernel) (by decide +kernel) rfl (by decide +kernel)),
   runs (h.2.1 4095 true (journaled { commits := [commit3] } [written true] {} [(.BRTH_DOM_BUDGET_MW, 0, 0)]) (written true) rfl (by decide +kernel) rfl (by decide +kernel) (by decide +kernel) rfl (by decide +kernel)),
   runs ((h.2.2.1 4095 ({ journaled { commits := [commit3] } [written false] {} [(.MECH_STATE_STATE, 4095, 2)] with mech := [(4032, { waitSlot := some 5 })] }) (by decide +kernel) (by decide +kernel) (by decide +kernel)).1 (by decide +kernel) (by decide +kernel) (by decide +kernel)),
   runs ((h.2.2.1 4095 ({ journaled {} [written false] {} [(.MECH_STATE_STATE, 4095, 6)] with chan := { discs := [(4095, { commits := [commit3] })], laneWait := [0] } }) (by decide +kernel) (by decide +kernel) (by decide +kernel)).2 (by decide +kernel) (by decide +kernel) (by decide +kernel) (by decide +kernel) (by decide +kernel) (by decide +kernel)),
   runs ((h.2.2.1 4095 (journaled { commits := [commit3] } [written false] {} [(.MECH_STATE_STATE, 4095, 7), (.MECH_SERVO_LANE_VALID, 4095, 1), (.MECH_SERVO_LANE, 4095, 271)]) (by decide +kernel) (by decide +kernel) (by decide +kernel)).2 (by decide +kernel) (by decide +kernel) (by decide +kernel) (by decide +kernel) (by decide +kernel) (by decide +kernel)),
   runs ((h.2.2.2.1 5 7 (setSt (threeOf [{ num := 7, units := [(0, 5)], isOpen := true, opened := 1000000000 }]) [] []) { num := 7, units := [(0, 5)], isOpen := true, opened := 1000000000 } rfl rfl).1 (by decide +kernel)),
   runs ((h.2.2.2.1 5 7 (long (setSt (threeOf [{ num := 7, units := [(0, 5)], isOpen := true }]) [] [])) { num := 7, units := [(0, 5)], isOpen := true } rfl rfl).2 (by decide +kernel)),
   runs ((h.2.2.2.2 5 7 (setSt (threeOf [stripe7 []]) [] [(.FLOE_GCFG_AUTO_RESYNC, 0, 1)]) (stripe7 []) 4095 rfl rfl (by decide +kernel) (by decide +kernel) (by decide +kernel) (by decide +kernel) (by decide +kernel) (by decide +kernel)).1 (by decide +kernel)),
   runs ((h.2.2.2.2 5 7 (setSt (threeOf [stripe7 []]) [readOver 0 5 true, readOver 1 6 true] [(.FLOE_GCFG_AUTO_RESYNC, 0, 1)]) (stripe7 []) 4095 rfl rfl (by decide +kernel) (by decide +kernel) (by decide +kernel) (by decide +kernel) (by decide +kernel) (by decide +kernel)).2 ((((setSt (threeOf [stripe7 []]) [readOver 0 5 true, readOver 1 6 true] [(.FLOE_GCFG_AUTO_RESYNC, 0, 1)])).rebuildUnit 5 (stripe7 []) 2 (((setSt (threeOf [stripe7 []]) [readOver 0 5 true, readOver 1 6 true] [(.FLOE_GCFG_AUTO_RESYNC, 0, 1)])).unitsRead 5 (stripe7 []) (List.range 2))).getD []) (by decide +kernel) (getD_of_isSome [] (by decide +kernel)) (by decide +kernel) (by decide +kernel))⟩

/-- The clauses of Obligations.FloeSets at states and operands that meet their hypotheses. -/
theorem witness_FloeSets (h : Obligations.FloeSets) :
    Runs (.floeReconstruct 0 0 5) (setSt (threeOf [stripe7 [2]]) [readOver 0 5 false] [(.MECH_STATE_MOUNTED, 1, 0)]) ∧
    Runs (.floeReconstruct 0 0 5) (setSt (threeOf [stripe7 [2]]) [readOver 0 5 false] []) ∧
    Runs (.floeReconstruct 0 0 5) (setSt (threeOf [stripe7 [2]]) [readOver 0 5 false, readOver 1 6 true, readOver 4095 9 true] []) ∧
    Runs (.floeReconstruct 0 0 5) (setSt (threeOf [stripe7 [2]]) [readOver 0 5 false, readOver 1 6 false, readOver 4095 9 true] []) ∧
    Runs (.floeRepair 0) ({ setSt (threeOf [stripe7 [2]]) [] [(.MECH_DISC_SEALED, 0, 0)] with chan := { discs := [(0, { dz := 100 })], repairs := [{ mn := 0, at_ := 5, blocks := List.replicate 28 0 }] } }) ∧
    Runs (.floeRepair 0) ({ setSt (threeOf [stripe7 [2]]) [] [(.MECH_DISC_SEALED, 0, 1)] with chan := { discs := [(0, { dz := 100 })], repairs := [{ mn := 0, at_ := 5, blocks := List.replicate 28 0 }] } }) ∧
    Runs (.scrubTick 5) (setSt { threeOf [stripe7 [2]] with scrubNext := 7, scrubAt := 1 } [] [(.FLOE_SCRUB_RATE, 0, 1)]) ∧
    Runs (.scrubTick 5) (setSt { threeOf [stripe7 [2]] with scrubNext := 7 } [] [(.FLOE_SCRUB_RATE, 0, 1)]) ∧
    Runs (.scrubTick 5) (setSt { threeOf [stripe7 [2]] with scrubNext := 7 } [readOver 0 5 true, readOver 1 6 true, readOver 4095 9 true] [(.FLOE_SCRUB_RATE, 0, 1)]) ∧
    Runs (.rebuildStep 5) (setSt { threeOf [stripe7 [2]] with rebuild := some { member := 1, target := 1, next := 0 } } [] [(.MECH_STATE_MOUNTED, 1, 0)]) ∧
    Runs (.rebuildStep 5) (setSt { threeOf [stripe7 [2]] with rebuild := some { member := 1, target := 1, next := 8 } } [] []) ∧
    Runs (.rebuildStep 5) (setSt { threeOf [stripe7 [2]] with rebuild := some { member := 1, target := 1, next := 0 } } [] [(.MECH_STATE_MOUNTED, 0, 0)]) ∧
    Runs (.rebuildStep 5) (setSt { threeOf [stripe7 [2]] with rebuild := some { member := 1, target := 1, next := 0 } } [] []) ∧
    Runs (.rebuildStep 5) (setSt { threeOf [stripe7 [2]] with rebuild := some { member := 1, target := 1, next := 7 } } [readOver 0 5 false, readOver 4095 9 true] []) ∧
    Runs (.rebuildStep 5) (setSt { threeOf [stripe7 [2]] with rebuild := some { member := 1, target := 1, next := 0 } } [readOver 0 5 true, readOver 4095 9 true] []) ∧
    Runs (.floeDefine 255 7 setFile .done) ({ setSt {} [] [] with host := { cmds := [floeCmd 1 0] } }) ∧
    Runs (.floeDefine 255 7 [0, 0, 0, 0, 5, 0] .done) ({ setSt {} [] [] with host := { cmds := [floeCmd 1 0] } }) ∧
    Runs (.floeDelete 255 7) ({ setSt {} [] [] with host := { cmds := [floeCmd 2 0], wbuf := [] } }) ∧
    Runs (.floeDelete 255 7) ({ setSt { threeOf [] with rebuild := some { member := 1, target := 1 } } [] [] with host := { cmds := [floeCmd 2 0], wbuf := [] } }) ∧
    Runs (.floeDelete 255 7) ({ setSt (threeOf []) [] [] with host := { cmds := [floeCmd 2 0], wbuf := [] } }) ∧
    Runs (.floeDelete 255 7) ({ setSt (threeOf []) [] [] with host := { cmds := [floeCmd 2 0], wbuf := [{ written false with stripe := some (5, 7, 2) }] } }) ∧
    Runs (.floeRebuild 255 7) ({ setSt {} [] [] with host := { cmds := [floeCmd 3 0] } }) ∧
    Runs (.floeRebuild 255 7) ({ setSt (threeOf []) [] [] with host := { cmds := [floeCmd 771 0] } }) ∧
    Runs (.floeRebuild 255 7) ({ setSt { threeOf [] with rebuild := some { member := 1, target := 1 } } [] [] with host := { cmds := [floeCmd 259 0] } }) ∧
    Runs (.floeRebuild 255 7) ({ setSt (threeOf []) [] [(.MECH_STATE_MOUNTED, 4095, 0)] with host := { cmds := [floeCmd 259 0] } }) ∧
    Runs (.floeRebuild 255 7) ({ setSt (threeOf []) [] [] with host := { cmds := [floeCmd 515 0] } }) ∧
    Runs (.floeRebuild 255 7) ({ setSt (threeOf []) [] [] with host := { cmds := [floeCmd 515 1] } }) :=
  ⟨runs ((h.1 0 0 5 (setSt (threeOf [stripe7 [2]]) [readOver 0 5 false] [(.MECH_STATE_MOUNTED, 1, 0)]) (readOver 0 5 false) 5 0 rfl (by decide +kernel) rfl (by decide +kernel) (by decide +kernel) rfl).1 (by decide +kernel)),
   runs ((h.1 0 0 5 (setSt (threeOf [stripe7 [2]]) [readOver 0 5 false] []) (readOver 0 5 false) 5 0 rfl (by decide +kernel) rfl (by decide +kernel) (by decide +kernel) rfl).2.1 (by decide +kernel) (by decide +kernel)),
   runs ((h.1 0 0 5 (setSt (threeOf [stripe7 [2]]) [readOver 0 5 false, readOver 1 6 true, readOver 4095 9 true] []) (readOver 0 5 false) 5 0 rfl (by decide +kernel) rfl (by decide +kernel) (by decide +kernel) rfl).2.2 (by decide +kernel) (by decide +kernel) (by rintro (_ | _ | _ | j) h <;> first | exact absurd rfl h | decide +kernel | nofun)),
   runs ((h.1 0 0 5 (setSt (threeOf [stripe7 [2]]) [readOver 0 5 false, readOver 1 6 false, readOver 4095 9 true] []) (readOver 0 5 false) 5 0 rfl (by decide +kernel) rfl (by decide +kernel) (by decide +kernel) rfl).2.2 (by decide +kernel) (by decide +kernel) (by rintro (_ | _ | _ | j) h <;> first | exact absurd rfl h | decide +kernel | nofun)),
   runs (h.2.1 0 ({ setSt (threeOf [stripe7 [2]]) [] [(.MECH_DISC_SEALED, 0, 0)] with chan := { discs := [(0, { dz := 100 })], repairs := [{ mn := 0, at_ := 5, blocks := List.replicate 28 0 }] } }) { mn := 0, at_ := 5, blocks := List.replicate 28 0 } 5 0 (stripe7 [2]) rfl (by decide +kernel) rfl),
   runs (h.2.1 0 ({ setSt (threeOf [stripe7 [2]]) [] [(.MECH_DISC_SEALED, 0, 1)] with chan := { discs := [(0, { dz := 100 })], repairs := [{ mn := 0, at_ := 5, blocks := List.replicate 28 0 }] } }) { mn := 0, at_ := 5, blocks := List.replicate 28 0 } 5 0 (stripe7 [2]) rfl (by decide +kernel) rfl),
   runs ((h.2.2.1 5 (setSt { threeOf [stripe7 [2]] with scrubNext := 7, scrubAt := 1 } [] [(.FLOE_SCRUB_RATE, 0, 1)]) (stripe7 [2]) (by decide +kernel) (by decide +kernel) (by decide +kernel) rfl rfl (by decide +kernel) (all_three (by decide +kernel) ⟨0, (by decide +kernel), (by decide +kernel)⟩ ⟨1, (by decide +kernel), (by decide +kernel)⟩ ⟨4095, (by decide +kernel), (by decide +kernel)⟩)).1 (by decide +kernel)),
   runs ((h.2.2.1 5 (setSt { threeOf [stripe7 [2]] with scrubNext := 7 } [] [(.FLOE_SCRUB_RATE, 0, 1)]) (stripe7 [2]) (by decide +kernel) (by decide +kernel) (by decide +kernel) rfl rfl (by decide +kernel) (all_three (by decide +kernel) ⟨0, (by decide +kernel), (by decide +kernel)⟩ ⟨1, (by decide +kernel), (by decide +kernel)⟩ ⟨4095, (by decide +kernel), (by decide +kernel)⟩)).2.1 (by decide +kernel) (by decide +kernel)),
   runs ((h.2.2.1 5 (setSt { threeOf [stripe7 [2]] with scrubNext := 7 } [readOver 0 5 true, readOver 1 6 true, readOver 4095 9 true] [(.FLOE_SCRUB_RATE, 0, 1)]) (stripe7 [2]) (by decide +kernel) (by decide +kernel) (by decide +kernel) rfl rfl (by decide +kernel) (all_three (by decide +kernel) ⟨0, (by decide +kernel), (by decide +kernel)⟩ ⟨1, (by decide +kernel), (by decide +kernel)⟩ ⟨4095, (by decide +kernel), (by decide +kernel)⟩)).2.2 (by decide +kernel) (by decide +kernel) (by decide +kernel)),
   runs (h.2.2.2.1 5 (setSt { threeOf [stripe7 [2]] with rebuild := some { member := 1, target := 1, next := 0 } } [] [(.MECH_STATE_MOUNTED, 1, 0)]) { member := 1, target := 1, next := 0 } rfl),
   runs (h.2.2.2.1 5 (setSt { threeOf [stripe7 [2]] with rebuild := some { member := 1, target := 1, next := 8 } } [] []) { member := 1, target := 1, next := 8 } rfl),
   runs (h.2.2.2.1 5 (setSt { threeOf [stripe7 [2]] with rebuild := some { member := 1, target := 1, next := 0 } } [] [(.MECH_STATE_MOUNTED, 0, 0)]) { member := 1, target := 1, next := 0 } rfl),
   runs (h.2.2.2.1 5 (setSt { threeOf [stripe7 [2]] with rebuild := some { member := 1, target := 1, next := 0 } } [] []) { member := 1, target := 1, next := 0 } rfl),
   runs (h.2.2.2.1 5 (setSt { threeOf [stripe7 [2]] with rebuild := some { member := 1, target := 1, next := 7 } } [readOver 0 5 false, readOver 4095 9 true] []) { member := 1, target := 1, next := 7 } rfl),
   runs (h.2.2.2.1 5 (setSt { threeOf [stripe7 [2]] with rebuild := some { member := 1, target := 1, next := 0 } } [readOver 0 5 true, readOver 4095 9 true] []) { member := 1, target := 1, next := 0 } rfl),
   runs (h.2.2.2.2.1 255 7 setFile ({ setSt {} [] [] with host := { cmds := [floeCmd 1 0] } }) (floeCmd 1 0) ⟨by decide +kernel, rfl, rfl⟩ rfl (by decide +kernel)),
   runs (h.2.2.2.2.1 255 7 [0, 0, 0, 0, 5, 0] ({ setSt {} [] [] with host := { cmds := [floeCmd 1 0] } }) (floeCmd 1 0) ⟨by decide +kernel, rfl, rfl⟩ rfl (by decide +kernel)),
   runs (h.2.2.2.2.2.1 255 7 ({ setSt {} [] [] with host := { cmds := [floeCmd 2 0], wbuf := [] } }) (floeCmd 2 0) ⟨by decide +kernel, rfl, rfl⟩ rfl),
   runs (h.2.2.2.2.2.1 255 7 ({ setSt { threeOf [] with rebuild := some { member := 1, target := 1 } } [] [] with host := { cmds := [floeCmd 2 0], wbuf := [] } }) (floeCmd 2 0) ⟨by decide +kernel, rfl, rfl⟩ rfl),
   runs (h.2.2.2.2.2.1 255 7 ({ setSt (threeOf []) [] [] with host := { cmds := [floeCmd 2 0], wbuf := [] } }) (floeCmd 2 0) ⟨by decide +kernel, rfl, rfl⟩ rfl),
   runs (h.2.2.2.2.2.1 255 7 ({ setSt (threeOf []) [] [] with host := { cmds := [floeCmd 2 0], wbuf := [{ written false with stripe := some (5, 7, 2) }] } }) (floeCmd 2 0) ⟨by decide +kernel, rfl, rfl⟩ rfl),
   runs (h.2.2.2.2.2.2 255 7 ({ setSt {} [] [] with host := { cmds := [floeCmd 3 0] } }) (floeCmd 3 0) ⟨by decide +kernel, rfl, rfl⟩ rfl rfl),
   runs (h.2.2.2.2.2.2 255 7 ({ setSt (threeOf []) [] [] with host := { cmds := [floeCmd 771 0] } }) (floeCmd 771 0) ⟨by decide +kernel, rfl, rfl⟩ rfl rfl),
   runs (h.2.2.2.2.2.2 255 7 ({ setSt { threeOf [] with rebuild := some { member := 1, target := 1 } } [] [] with host := { cmds := [floeCmd 259 0] } }) (floeCmd 259 0) ⟨by decide +kernel, rfl, rfl⟩ rfl rfl),
   runs (h.2.2.2.2.2.2 255 7 ({ setSt (threeOf []) [] [(.MECH_STATE_MOUNTED, 4095, 0)] with host := { cmds := [floeCmd 259 0] } }) (floeCmd 259 0) ⟨by decide +kernel, rfl, rfl⟩ rfl rfl),
   runs (h.2.2.2.2.2.2 255 7 ({ setSt (threeOf []) [] [] with host := { cmds := [floeCmd 515 0] } }) (floeCmd 515 0) ⟨by decide +kernel, rfl, rfl⟩ rfl rfl),
   runs (h.2.2.2.2.2.2 255 7 ({ setSt (threeOf []) [] [] with host := { cmds := [floeCmd 515 1] } }) (floeCmd 515 1) ⟨by decide +kernel, rfl, rfl⟩ rfl rfl)⟩

/-- A command of each frame statement runs, and the statement speaks of the state it gives. -/
theorem witness_PlatformAndHostFrames (h : Obligations.PlatformAndHostFrames) :
    ∃ t, exec (.gpioSet 5) (act []) = .next t ∧ t.pending = (act []).pending ∧ pick .mech t = pick .mech (act []) :=
  have x := fun t => h (.gpioSet 5) _ _ rfl (act []) t
  ⟨_, rfl, (x _ rfl).1, (x _ rfl).2.2 .mech (by decide) (by decide)⟩
theorem witness_MechanismFrames (h : Obligations.MechanismFrames) :
    ∃ t, exec (.clrCnt 63) (act []) = .next t ∧ t.pending = (act []).pending ∧ pick .chan t = pick .chan (act []) :=
  have x := fun t => h (.clrCnt 63) _ _ rfl (act []) t
  ⟨_, rfl, (x _ rfl).1, (x _ rfl).2.2 .chan (by decide) (by decide)⟩
theorem witness_DataPathFrames (h : Obligations.DataPathFrames) :
    ∃ t, exec (.writeStop 271) (act []) = .next t ∧ t.pending = (act []).pending ∧ pick .mech t = pick .mech (act []) :=
  have x := fun t => h (.writeStop 271) _ _ rfl (act []) t
  ⟨_, rfl, (x _ rfl).1, (x _ rfl).2.2 .mech (by decide) (by decide)⟩

/-- Refused: its address is not aligned. -/
theorem test_wf_register_address : Instr.wf (.registerWrite 3 0 15) = false := by decide +kernel

/-- Refused: its address lies outside the windows. -/
theorem test_wf_register_window : Instr.wf (.registerRead 0x3000000) = false := by decide +kernel

/-- Refused: OPCODE is a byte. -/
theorem test_wf_descriptor : Instr.wf (.descriptorFetched 0 1 { opcode := 256 }) = false := by decide +kernel

/-- Refused: QPID has 16 bits. -/
theorem test_wf_queue_id : Instr.wf (.fetchTimeout 0 65536 false) = false := by decide +kernel

/-- Refused: TAG has 32 bits. -/
theorem test_wf_tag : Instr.wf (.read 0 0x100000000 .done) = false := by decide +kernel

/-- Refused: TLM_IDX has 4 bits. -/
theorem test_wf_slot_field : Instr.wf (.slotSample 0 { tlmIdx := 16 }) = false := by decide +kernel

/-- Refused: FE has 16 bits. -/
theorem test_wf_slot_integer : Instr.wf (.slotSample 0 { fe := 32768 }) = false := by decide +kernel

/-- Refused: VERSION has 32 bits. -/
theorem test_wf_image : Instr.wf (.fwCommit 0 0 { version := 0x100000000 } true) = false := by decide +kernel

/-- Refused: an SRAM bank has 2^18 words. -/
theorem test_wf_hit : Instr.wf (.patrolScrub false (some { cls := 0, loc := 0, req := 0, word := 262144 })) = false := by decide +kernel

/-- Refused: there are 272 lanes. -/
theorem test_wf_boot : Instr.wf (.bootStageDone { lanes := [272] }) = false := by decide +kernel

/-- Refused: a frame has no room for 441 words. -/
theorem test_wf_burst_words : Instr.wf (.rfBurst 0 0 0 0 (List.replicate 441 0) none) = false := by decide +kernel

/-- Refused: a disc has ten layers. -/
theorem test_wf_burst_layer : Instr.wf (.rfBurst 0 0 0 0 [] (some (10, 0, 0))) = false := by decide +kernel

/-- Refused: SEQ has 12 bits. -/
theorem test_wf_header : Instr.wf (.upstreamHeader 0 { seq := 4096 }) = false := by decide +kernel

/-- Refused: a port has 64 drops. -/
theorem test_wf_ident : Instr.wf (.trainStepDone 0 (.ident none 0 false 0 [{ drop := 64 }])) = false := by decide +kernel

/-- Refused: a layer has 2^20 clusters. -/
theorem test_wf_address : Instr.wf (.addressRead 0 0 (.header 0 0x100000 0) none none) = false := by decide +kernel

/-- Refused: CODE is a byte. -/
theorem test_wf_message : Instr.wf (.mgmtMessage 0 0 0 0 true (.fault 256 0)) = false := by decide +kernel

/-- Refused: a layer has 2^20 clusters. -/
theorem test_wf_cluster : Instr.wf (.outerDecode 0 0 0x100000) = false := by decide +kernel

/-- Refused: TAG has 32 bits. -/
theorem test_wf_command : Instr.wf (.breathRequest 4 0 0 0 (some (0, 0x100000000))) = false := by decide +kernel

/-- Refused: 256 retention words. -/
theorem test_wf_retain : Instr.wf (.hibernateRequest []) = false := by decide +kernel

/-- Refused: 16 sensors. -/
theorem test_wf_temps : Instr.wf (.tempSample (List.replicate 15 0)) = false := by decide +kernel

/-- Refused: a temperature has 16 bits. -/
theorem test_wf_temp : Instr.wf (.dimmTempRead 0 32768) = false := by decide +kernel

/-- Refused: a block has 4,096 bytes. -/
theorem test_wf_block : Instr.wf (.writeAccepted 0 0 [2 ^ 32768] .done) = false := by decide +kernel

/-- Refused: a byte. -/
theorem test_wf_bytes : Instr.wf (.setFeature 0 0 [256] .done) = false := by decide +kernel

/-- Refused: OFFSET has 32 bits. -/
theorem test_wf_mctp : Instr.wf (.mctpReadRegister 0x100000000) = false := by decide +kernel

/-- Refused: QPID has 16 bits. -/
theorem test_wf_records : Instr.wf (.doorbellScan 0 [(65536, 0, 0)]) = false := by decide +kernel

/-- Taken: the top of each width. -/
theorem test_wf_tops : Instr.wf (.registerRead 0x2FFFFFC) && Instr.wf (.slotSample 4095 { fe := -32768, tlmIdx := 15 }) && Instr.wf (.read 255 0xFFFFFFFF .done) = true := by decide +kernel

/-- MN 1234 is port 19, drop 18 (spec/00_scope.md, the example of R4). -/
theorem test_mn : (portOf 1234, dropOf 1234) = (19, 18) := by decide
/-- Addresses and resets of the example of spec/21_register_index.md. -/
theorem test_addresses : [Reg.PEN_CFG.addr 19, Reg.MECH_CFG.addr 1234, Reg.MECH_SPIN_STAT.addr 1234, Reg.BRTH_MECH_MEAS.addr 1234, Reg.HQP_FN_KEYS.addr 64,
    Reg.CIRQ_CAP_STAT.addr 5].map (· 0) = [0x44C04, 0x93488, 0xCDA40, 0x303694, 0x341808, 0x12904C] := by decide +kernel
theorem test_address_lease : Reg.HQP_LEASE.addr 1234 0 = 0x364D20 := by decide +kernel
theorem test_resets : [Reg.PEN_CFG.reset 19 0, Reg.MECH_CFG.reset 1234 0, Reg.MECH_SPIN_STAT.reset 1234 0, Reg.HQP_FN_KEYS.reset 64 0, Reg.CIRQ_CAP_STAT.reset 5 0] =
    [0x22A, 0x200, 0x1000000, 0x100400, 0x1F000000] := by decide +kernel
/-- Six four-beam readers take 666 words of the 781 at 1 MHz (spec/03_penetal_link.md, the example of R69). -/
theorem test_burst_length : 6 * burstLen false false 1 = 666 := by decide
/-- At 1 MHz a frame spans 781.25 blocks a lane: three of 781 and one of 782 (R65). -/
theorem test_frame_spans : (List.range 4).map (frameBlocks 2) = [781, 781, 781, 782] := by decide
/-- 8 slots at 1 MHz and 16 at 500 kHz fill a cluster of 1,408 lines; one at 250 kHz costs 22 more (spec/04_cirque_engine.md, the example of R91). -/
theorem test_slot_lines : 8 * slotLines 1 2 0 + 16 * slotLines 1 1 0 = 16 * 1408 ∧ slotLines 1 0 0 = 16 * 22 := by decide
/-- Zones 10 and 222 have full speeds of 7,905 and 3,288 rpm (spec/09_codes_and_moraine.md, the example of R245). -/
theorem test_zone_speeds : (zoneSpeed 24000000, zoneSpeed 57920000) = (7905, 3288) := by decide
/-- The spindle's power at 4,800 and 2,109 rpm (spec/11_breath_arbiter.md, R305 and its example). -/
theorem test_spin_power : (State.reset.pSpin 0 19200, State.reset.pSpin 0 8436) = (3043, 1556) := by decide +kernel
/-- The set of a line with 12 and with 16 ways (spec/14_memory_and_cores.md, the example of R403). -/
theorem test_rime_set : (0x2468ACF1 % rimeSets 12, 0x2468ACF1 % rimeSets 16) = (0x2CF1, 3313) := by decide
/-- An idle block keeps its queue; a step takes the front command alone (R1). -/
theorem test_step_takes_front : (match step { State.reset with pending := [.xtalLost, .tripRestart] } with | .next t => t.pending | _ => []) = [.tripRestart] := by decide +kernel
/-- GPIO_SET raises the output bits that it names, and no other (R528). -/
theorem test_gpio_set : (match exec (.gpioSet 5) (act [(.DRN_GPIO_OUT_GPIO, 0, 8), (.DRN_GPIO_OE_GPIO, 0, 15)]) with | .next t => t.get .DRN_GPIO_OUT_GPIO | _ => 0) = 13 := by decide +kernel
/-- A W1C register bit written 1 is cleared, the bit beside it stays (R10). -/
theorem test_w1c : (match exec (.registerWrite (Reg.PEN_EVENT.addr 63 0) (BitVec.ofNat 32 (2 ^ Fld.PEN_EVENT_TRAINED.lo)) 15)
    (act [(.PEN_EVENT_TRAINED, 63, 1), (.PEN_EVENT_LANE_FAULT, 63, 1)]) with
    | .next t => (t.get .PEN_EVENT_TRAINED 63, t.get .PEN_EVENT_LANE_FAULT 63) | _ => (9, 9)) = (0, 1) := by decide +kernel
/-- The block has no instruction words. -/
theorem test_no_word_spells_a_command : decodeTableWord 32 0 = none := rfl

end Sys2Proof.Tests
end

section
/-! SUPPORT. The end of a meaning: which registers, which records and which log entries `noteEvents` and `logEntry` leave as they were. -/

namespace Sys2Proof.Proofs

open Sys2Proof.Machine Sys2Proof.Laws

/-! States that agree on the item of a part (Laws/Foot.lean) agree on the part. -/

theorem log_of_itm {s t : State} (h : itm (.part .log) t = itm (.part .log) s) : t.log = s.log := congrArg (·.2.log) h

theorem host_of_itm {s t : State} (h : itm (.part .host) t = itm (.part .host) s) : t.host = s.host := congrArg (·.2.host) h

theorem out_of_itm {s t : State} (h : itm (.part .out) t = itm (.part .out) s) : t.out = s.out := congrArg (·.2.out) h

@[simp] theorem noteEvents_out (s : State) : s.noteEvents.out = s.out := out_of_itm (it_noteEvents s (by decide))

@[simp] theorem logEntry_host (s : State) (a : LogArgs) : (s.logEntry a).host = s.host := host_of_itm (it_logEntry s a (by decide))

/-! ### The MSI-X tables -/

theorem enterCpl_msix (s : State) (c : Cpl) : (s.enterCpl c).host.msix = s.host.msix := by
  unfold State.enterCpl
  dsimp only
  split <;> simp [State.modHost]

theorem acceptCpl_msix (s : State) (c : Cpl) : (s.acceptCpl c).host.msix = s.host.msix := by
  unfold State.acceptCpl
  split
  · exact enterCpl_msix s c
  · rfl

theorem postEvent_msix (s : State) (fn code qpid detail : Nat) : (s.postEvent fn code qpid detail).host.msix = s.host.msix := by
  unfold State.postEvent
  dsimp only
  split
  · simp
  · split
    · rw [acceptCpl_msix]; rfl
    · split
      · rfl
      · simp [State.modHost]

theorem noteEvents_msix (s : State) : s.noteEvents.host.msix = s.host.msix := by
  unfold State.noteEvents
  dsimp only
  split
  · rfl
  · split
    · exact postEvent_msix _ _ _ _ _
    · rfl

/-! ### The log -/

/-- Function fn's store of events has room for one more (R343). -/
abbrev EventRoom (s : State) (fn : Nat) : Prop := (tabGet s.host.events fn []).length < 64

/-- An event entry for which there is room loses none, so nothing is logged. -/
theorem postEvent_log {s : State} {fn : Nat} (h : EventRoom s fn) (code qpid detail : Nat) : (s.postEvent fn code qpid detail).log = s.log := by
  unfold State.postEvent
  split
  · simp
  · split
    · exact log_of_itm (it_acceptCpl _ _ (by decide))
    · have room : (tabGet s.host.events fn []).length < 64 := h
      dsimp only
      rw [if_pos room]
      rfl

theorem noteEvents_log {s : State} (h : EventRoom s (s.get .HQP_STEWARD_STEWARD_FN)) : s.noteEvents.log = s.log := by
  unfold State.noteEvents
  dsimp only
  split
  · rfl
  · split
    · unfold State.postSteward
      rw [postEvent_log]
      · rfl
      · simpa [EventRoom] using h
    · rfl

/-! ### The registers -/

/-- An array other than those that the end of a command may write meets none of them. -/
theorem quiet_of_ne_endRegs : ∀ e ∈ allRegs, endRegs.all (fun q => q.base != e.reg.base) = true → quiet e.reg = true := by
  decide +kernel

theorem rd_noteEvents_of_ne_endRegs {e : RegEntry} (he : e ∈ allRegs) (hq : endRegs.all (fun q => q.base != e.reg.base) = true) (s : State) (i j : Nat) :
    s.noteEvents.rd e.reg i j = s.rd e.reg i j := rd_noteEvents (quiet_of_ne_endRegs e he hq) s i j

theorem rd_logEntry_of_ne_endRegs {e : RegEntry} (he : e ∈ allRegs) (hq : endRegs.all (fun q => q.base != e.reg.base) = true) (s : State)
    (a : LogArgs) (i j : Nat) : (s.logEntry a).rd e.reg i j = s.rd e.reg i j := rd_logEntry (quiet_of_ne_endRegs e he hq) s a i j

end Sys2Proof.Proofs
end

section
/-! SUPPORT. The paths of REGISTER_READ and REGISTER_WRITE (Machine/Access.lean), and the address at which a register is found. -/

namespace Sys2Proof.Proofs

open Sys2Proof.Machine Sys2Proof.Laws

/-! ### Addresses -/

/-- One of the windows holds the address. -/
theorem windows_iff (a : Nat) : (inSetup a = false ∧ inBar0 a = false ∧ inBar2 a = false) ↔ 0x3000000 ≤ a := by
  simp only [inSetup, inBar0, inBar2, Bool.and_eq_false_iff, decide_eq_false_iff_not]
  omega

theorem inBar2_eq_false {a : Nat} (h : a < 0x2000000) : inBar2 a = false := by
  simp only [inBar2, Bool.and_eq_false_iff, decide_eq_false_iff_not]
  omega

theorem inBar2_eq_true {a : Nat} (h : 0x2000000 ≤ a) (h' : a < 0x3000000) : inBar2 a = true := by simp [inBar2, h, h']

theorem inSetup_eq_false {a : Nat} (h : 0x1000000 ≤ a) : inSetup a = false := by
  simp only [inSetup, decide_eq_false_iff_not]
  omega

/-- The indices that an array finds for an address are those of a register that stands there. -/
theorem index_spec {r : Reg} {a i j : Nat} (h : r.index a = some (i, j)) : r.has i j = true ∧ r.addr i j = a := by
  unfold Reg.index at h
  extract_lets o i' q j' rest at h
  rw [Option.ite_none_right_eq_some, Option.some_inj, Prod.mk.injEq] at h
  obtain ⟨⟨hb, hi, hj, hr⟩, rfl, rfl⟩ := h
  have hq : i' * r.stride + q = o := by
    simp only [i', q]
    split
    · simp [*]
    · exact Nat.div_add_mod' o r.stride
  have hj' : j' * r.stride2 + rest = q := by
    simp only [j', rest]
    split
    · simp [*]
    · exact Nat.div_add_mod' q r.stride2
  refine ⟨by simp [Reg.has, hi, hj], ?_⟩
  unfold Reg.addr
  omega

/-- Every register stands below the BAR2s. -/
theorem regEnd_le : ∀ e ∈ allRegs, regEnd e.reg ≤ 0x2000000 := by decide +kernel

theorem findReg_index {a : Nat} {e : RegEntry} {i j : Nat} (h : findReg a = some (e, i, j)) : e.reg.index a = some (i, j) := by
  obtain ⟨x, -, hx⟩ := List.exists_of_findSome?_eq_some h
  obtain ⟨ij, hij, hy⟩ := Option.map_eq_some_iff.mp hx
  cases hy
  exact hij

theorem findReg_has {a : Nat} {e : RegEntry} {i j : Nat} (h : findReg a = some (e, i, j)) : e.reg.has i j = true := (index_spec (findReg_index h)).1

theorem findReg_lt {a : Nat} {e : RegEntry} {i j : Nat} (h : findReg a = some (e, i, j)) : a < 0x2000000 := by
  obtain ⟨hi, ha⟩ := index_spec (findReg_index h)
  have := (addr_range hi).2
  have := regEnd_le e (findReg_mem h)
  omega

/-! ### Both commands -/

theorem dozeWake_of_active {s : State} (h : s.pst = 1) (k : Nat) : s.dozeWake k = s := by
  unfold State.pst at h
  simp [State.dozeWake, h]

theorem not_dozing_of_active {s : State} (h : s.pst = 1) : s.dozing = false := by
  unfold State.pst at h
  simp [State.dozing, h]

theorem execRegisterRead_misaligned {a : Nat} (h : a % 4 ≠ 0) (s : State) : execRegisterRead a s = .fault .misaligned := by
  rw [execRegisterRead, if_pos h]

theorem execRegisterWrite_misaligned {a : Nat} (h : a % 4 ≠ 0) (v : Word) (be : Fin 16) (s : State) : execRegisterWrite a v be s = .fault .misaligned := by
  rw [execRegisterWrite, if_pos h]

theorem execRegisterRead_noSuchAddress {a : Nat} (h : a % 4 = 0) (hw : 0x3000000 ≤ a) (s : State) : execRegisterRead a s = .fault .noSuchAddress := by
  rw [execRegisterRead, if_neg (not_not.mpr h), if_pos ((windows_iff a).mpr hw)]

theorem execRegisterWrite_noSuchAddress {a : Nat} (h : a % 4 = 0) (hw : 0x3000000 ≤ a) (v : Word) (be : Fin 16) (s : State) :
    execRegisterWrite a v be s = .fault .noSuchAddress := by
  rw [execRegisterWrite, if_neg (not_not.mpr h), if_pos ((windows_iff a).mpr hw)]

section
variable {a : Nat} (h : a % 4 = 0) (hw : a < 0x3000000)
include h hw

theorem isNext_execRegisterRead (s : State) : isNext (execRegisterRead a s) := by
  rw [execRegisterRead, if_neg (not_not.mpr h), if_neg (by rw [windows_iff]; omega)]
  (repeat' split) <;> exact isNext_fin _

theorem isNext_execRegisterWrite (v : Word) (be : Fin 16) (s : State) : isNext (execRegisterWrite a v be s) := by
  rw [execRegisterWrite, if_neg (not_not.mpr h), if_neg (by rw [windows_iff]; omega)]
  extract_lets s1
  (repeat' split) <;> exact isNext_fin _

end

end Sys2Proof.Proofs
end

section
/-! SUPPORT. Every command answers a next state. -/

namespace Sys2Proof.Proofs

open Sys2Proof.Machine Sys2Proof.Laws

theorem next_execCalRunStart (space : Fin 4) (index : Fin 4096) (layer : Fin 10) (item : Fin 6) (probe : Fin 4097) (s : State) :
    isNext (execCalRunStart space index layer item probe s) := by
  unfold execCalRunStart
  extract_lets l
  (repeat' split) <;> exact isNext_fin _

theorem next_execCalRunDone (space : Fin 4) (index : Fin 4096) (layer : Fin 10) (item : Fin 6) (x : CalData) (s : State) :
    isNext (execCalRunDone space index layer item x s) := by
  unfold execCalRunDone
  dsimp only
  split
  · exact isNext_fin _
  · split <;> exact isNext_fin _

theorem next_execCalRunNow (items : Fin 64) (probe : Fin 4097) (s : State) : isNext (execCalRunNow items probe s) := by
  unfold execCalRunNow
  exact isNext_regCmd fun t => isNext_calCmd _ _ _

/-- Every command answers a next state, an access to a register within the windows and on a dword boundary included: one lemma for each arm of `exec`. -/
theorem isNext_exec (c : Instr) (s : State) (hw : ∀ a v be, c = .registerWrite a v be → a % 4 = 0 ∧ a < 0x3000000)
    (hr : ∀ a, c = .registerRead a → a % 4 = 0 ∧ a < 0x3000000) : isNext (exec c s) :=
  match c with
  | .registerWrite addr value be => isNext_execRegisterWrite (hw addr value be rfl).1 (hw addr value be rfl).2 value be s
  | .bar4AccessDenied fn write => next_execBar4AccessDenied fn write s
  | .powerOnReset => next_execPowerOnReset s
  | .brownOutReset g => next_execBrownOutReset g s
  | .pinReset => next_execPinReset s
  | .softWarmReset key => next_execSoftWarmReset key s
  | .softPinReset key => next_execSoftPinReset key s
  | .debugReset => next_execDebugReset s
  | .lockupReset hang => next_execLockupReset hang s
  | .bootStageDone x => next_execBootStageDone x s
  | .optionProgram ok => next_execOptionProgram ok s
  | .optionRead slot => next_execOptionRead slot s
  | .blockReset cls index => next_execBlockReset cls index s
  | .trialConfirm => next_execTrialConfirm s
  | .xtalLost => next_execXtalLost s
  | .xtalRelock => next_execXtalRelock s
  | .refclkLost => next_execRefclkLost s
  | .timeRatioMeasure ticks => next_execTimeRatioMeasure ticks s
  | .dozeIdle => next_execDozeIdle s
  | .dozeRequest => next_execDozeRequest s
  | .hibernateRequest retain => next_execHibernateRequest retain s
  | .wake src => next_execWake src s
  | .wakeTimer k => next_execWakeTimer k s
  | .retryWake => next_execRetryWake s
  | .pgoodTimeout => next_execPgoodTimeout s
  | .powerRetry => next_execPowerRetry s
  | .tempSample temps => next_execTempSample temps s
  | .fanUpdate => next_execFanUpdate s
  | .tachMeasure k edges => next_execTachMeasure k edges s
  | .thermalStop => next_execThermalStop s
  | .thermalRestart => next_execThermalRestart s
  | .tcritTrip sensor => next_execTcritTrip sensor s
  | .tripRestart => next_execTripRestart s
  | .supervisorTimeout lost => next_execSupervisorTimeout lost s
  | .supKick v => next_execSupKick v s
  | .fabricTimeout r code base granted => next_execFabricTimeout r code base granted s
  | .eventGatherEnd => next_execEventGatherEnd s
  | .bistTestBlock cls index => next_execBistTestBlock cls index s
  | .bistWindow fail unit channels durMs => next_execBistWindow fail unit channels durMs s
  | .periodicBist => next_execPeriodicBist s
  | .bistDone pass memory => next_execBistDone pass memory s
  | .authChallenge => next_execAuthChallenge s
  | .authVerify ok => next_execAuthVerify ok s
  | .authEnd => next_execAuthEnd s
  | .liveUpdateStep => next_execLiveUpdateStep s
  | .bfwUpdate mn image offer check => next_execBfwUpdate mn image offer check s
  | .bfwRebootTimeout mn => next_execBfwRebootTimeout mn s
  | .coreReady c => next_execCoreReady c s
  | .coreHbTimeout c => next_execCoreHbTimeout c s
  | .coreTrap c cause pc addr fatal ecc => next_execCoreTrap c cause pc addr fatal ecc s
  | .corePlannedRestart c => next_execCorePlannedRestart c s
  | .coreRelease c => next_execCoreRelease c s
  | .ceWriteback bank word => next_execCeWriteback bank word s
  | .patrolScrub dram hit => next_execPatrolScrub dram hit s
  | .mergeFlush bank word cls => next_execMergeFlush bank word cls s
  | .dmaHalt k ecc cmds lost cw => next_execDmaHalt k ecc cmds lost cw s
  | .dmaRestart k => next_execDmaRestart k s
  | .dramRefresh ch => next_execDramRefresh ch s
  | .selfRefreshEntry ch => next_execSelfRefreshEntry ch s
  | .ddrApplyDelays ch => next_execDdrApplyDelays ch s
  | .ddrRetune ch => next_execDdrRetune ch s
  | .ddrTestStart ch pattern len fails => next_execDdrTestStart ch pattern len fails s
  | .ddrTestStop => next_execDdrTestStop s
  | .rimeInvalidate => next_execRimeInvalidate s
  | .rimeFlush => next_execRimeFlush s
  | .rimeEnable => next_execRimeEnable s
  | .rimeDisable => next_execRimeDisable s
  | .rimeWaysChange ways => next_execRimeWaysChange ways s
  | .portEnable p => next_execPortEnable p s
  | .portDisable p => next_execPortDisable p s
  | .retrain p => next_execRetrain p s
  | .sleep p => next_execSleep p s
  | .portWake p => next_execPortWake p s
  | .clrCnt p => next_execClrCnt p s
  | .trainStepDone p x => next_execTrainStepDone p x s
  | .trainStepTimeout p partner => next_execTrainStepTimeout p partner s
  | .trainRetry p => next_execTrainRetry p s
  | .frameTick p => next_execFrameTick p s
  | .upstreamHeader p h => next_execUpstreamHeader p h s
  | .servoSlotReceived p k x onTime => next_execServoSlotReceived p k x onTime s
  | .servoSlotMissing p k => next_execServoSlotMissing p k s
  | .actuatorRepeat mn => next_execActuatorRepeat mn s
  | .lockTimeout p => next_execLockTimeout p s
  | .dropTimeout mn => next_execDropTimeout mn s
  | .dropNotFound mn => next_execDropNotFound mn s
  | .mgmtMessage p a mseq mack good b => next_execMgmtMessage p a mseq mack good b s
  | .mgmtResend p a => next_execMgmtResend p a s
  | .mapEpochChange p => next_execMapEpochChange p s
  | .laneLoss p lane => next_execLaneLoss p lane s
  | .laneModeSwitch p loopNs => next_execLaneModeSwitch p loopNs s
  | .laneRejoinAttempt p lock => next_execLaneRejoinAttempt p lock s
  | .laneRejoin p => next_execLaneRejoin p s
  | .txOvercurrent p lane => next_execTxOvercurrent p lane s
  | .txOvercurrentRetry p lane clear => next_execTxOvercurrentRetry p lane clear s
  | .lowpowerEntry p => next_execLowpowerEntry p s
  | .partnerWake p => next_execPartnerWake p s
  | .portWakeTimeout p => next_execPortWakeTimeout p s
  | .servoPositionGrant p => next_execServoPositionGrant p s
  | .slotSample mn x => next_execSlotSample mn x s
  | .clusterFault c cause => next_execClusterFault c cause s
  | .handoverServe copies => next_execHandoverServe copies s
  | .clusterTestDone c pass => next_execClusterTestDone c pass s
  | .hoTest c => next_execHoTest c s
  | .hoUcode c => next_execHoUcode c s
  | .hoFormat c fmt => next_execHoFormat c fmt s
  | .hoRetest c => next_execHoRetest c s
  | .plannedSwitch mn copies => next_execPlannedSwitch mn copies s
  | .collisionMove mn => next_execCollisionMove mn s
  | .coefStageToShadow mn l => next_execCoefStageToShadow mn l s
  | .coefShadowToStage mn l => next_execCoefShadowToStage mn l s
  | .coefActiveToStage mn l => next_execCoefActiveToStage mn l s
  | .coefStageToLibrary cls l fmt => next_execCoefStageToLibrary cls l fmt s
  | .coefLibraryToStage cls l fmt => next_execCoefLibraryToStage cls l fmt s
  | .swapFromShadow mn mask => next_execSwapFromShadow mn mask s
  | .swapFromLibrary mn mask => next_execSwapFromLibrary mn mask s
  | .swapAbort mn => next_execSwapAbort mn s
  | .swapExecute mn => next_execSwapExecute mn s
  | .swapHoldTimeout mn => next_execSwapHoldTimeout mn s
  | .injStart c mn l hold type => next_execInjStart c mn l hold type s
  | .injStop c => next_execInjStop c s
  | .capArm c mn dec trig => next_execCapArm c mn dec trig s
  | .capStop c => next_execCapStop c s
  | .pullInAttemptTimeout mn => next_execPullInAttemptTimeout mn s
  | .layerJump mn layer => next_execLayerJump mn layer s
  | .layerStepTimeout mn => next_execLayerStepTimeout mn s
  | .trackOnTimeout mn => next_execTrackOnTimeout mn s
  | .trackJump mn tracks => next_execTrackJump mn tracks s
  | .longSeek mn tracks cmd => next_execLongSeek mn tracks cmd s
  | .addressRead mn b a theta residual => next_execAddressRead mn b a theta residual s
  | .profileAlign mn => next_execProfileAlign mn s
  | .profileLearnDone mn => next_execProfileLearnDone mn s
  | .spinStart mn => next_execSpinStart mn s
  | .senseDone mn => next_execSenseDone mn s
  | .reverseShortDone mn => next_execReverseShortDone mn s
  | .coastWaitDone mn => next_execCoastWaitDone mn s
  | .catchDone mn => next_execCatchDone mn s
  | .restDone mn => next_execRestDone mn s
  | .alignDone mn => next_execAlignDone mn s
  | .observerHandover mn => next_execObserverHandover mn s
  | .observerTimeout mn => next_execObserverTimeout mn s
  | .spinupTimeout mn => next_execSpinupTimeout mn s
  | .speedReached mn => next_execSpeedReached mn s
  | .speedPlan mn => next_execSpeedPlan mn s
  | .targetDwell mn => next_execTargetDwell mn s
  | .idleSpinDown mn => next_execIdleSpinDown mn s
  | .slotReclaim mn => next_execSlotReclaim mn s
  | .spinDown mn => next_execSpinDown mn s
  | .shortBrakeDone mn => next_execShortBrakeDone mn s
  | .coastDownElapsed mn => next_execCoastDownElapsed mn s
  | .sledHoldCurrent mn => next_execSledHoldCurrent mn s
  | .sledTblStageToTable cls => next_execSledTblStageToTable cls s
  | .sledTblTableToStage cls => next_execSledTblTableToStage cls s
  | .sledTblDefaultToStage cls => next_execSledTblDefaultToStage cls s
  | .trayMoveStart mn => next_execTrayMoveStart mn s
  | .traySwitchReached mn => next_execTraySwitchReached mn s
  | .trayTimeout mn => next_execTrayTimeout mn s
  | .forceSafe mn => next_execForceSafe mn s
  | .clrFault mn => next_execClrFault mn s
  | .unisolate mn pass clamped => next_execUnisolate mn pass clamped s
  | .calTempCheck => next_execCalTempCheck s
  | .calRunStart space index layer item probe => next_execCalRunStart space index layer item probe s
  | .calRunDone space index layer item x => next_execCalRunDone space index layer item x s
  | .calRetry space index layer item => next_execCalRetry space index layer item s
  | .calReadWindow items => next_execCalReadWindow items s
  | .calWriteWindow items => next_execCalWriteWindow items s
  | .calRunNow items probe => next_execCalRunNow items probe s
  | .calMarkStale items => next_execCalMarkStale items s
  | .laneBind mn own => next_execLaneBind mn own s
  | .laneIdleRelease mn => next_execLaneIdleRelease mn s
  | .laneMigrate lane => next_execLaneMigrate lane s
  | .laneTest lane => next_execLaneTest lane s
  | .laneRetest lane => next_execLaneRetest lane s
  | .migrationSwitch f => next_execMigrationSwitch f s
  | .laneFault f cause => next_execLaneFault f cause s
  | .laneTestDone f pass => next_execLaneTestDone f pass s
  | .rfBurst f seq ovld gain words place => next_execRfBurst f seq ovld gain words place s
  | .levelBankSwitch f => next_execLevelBankSwitch f s
  | .writeStop f => next_execWriteStop f s
  | .writeStopTimeout f => next_execWriteStopTimeout f s
  | .llrMove => next_execLlrMove s
  | .codewordUrgent cw => next_execCodewordUrgent cw s
  | .parkComplete d => next_execParkComplete d s
  | .decoderGrant => next_execDecoderGrant s
  | .decodeIteration d => next_execDecodeIteration d s
  | .wallTimeout cw => next_execWallTimeout cw s
  | .starveTimeout cw => next_execStarveTimeout cw s
  | .decoderWatchdog d error => next_execDecoderWatchdog d error s
  | .decTest d => next_execDecTest d s
  | .decEnable d => next_execDecEnable d s
  | .decDisable d => next_execDecDisable d s
  | .decoderTestDone d pass => next_execDecoderTestDone d pass s
  | .outerDecode mn layer cluster => next_execOuterDecode mn layer cluster s
  | .sectorRetryRev mn layer cluster => next_execSectorRetryRev mn layer cluster s
  | .mapAppend mn ok => next_execMapAppend mn ok s
  | .appendRetry mn => next_execAppendRetry mn s
  | .stripeCloseTimeout id num => next_execStripeCloseTimeout id num s
  | .resync id num => next_execResync id num s
  | .floeReconstruct mn layer cluster => next_execFloeReconstruct mn layer cluster s
  | .floeRepair mn => next_execFloeRepair mn s
  | .scrubTick id => next_execScrubTick id s
  | .rebuildStep id => next_execRebuildStep id s
  | .breathRequest cls who v prio cmd => next_execBreathRequest cls who v prio cmd s
  | .breathRelease cls who => next_execBreathRelease cls who s
  | .requestAged cls who => next_execRequestAged cls who s
  | .overdrawTick => next_execOverdrawTick s
  | .overdrawLong d => next_execOverdrawLong d s
  | .mechExcess mn => next_execMechExcess mn s
  | .bistGapExpiry => next_execBistGapExpiry s
  | .hostPortReset p => next_execHostPortReset p s
  | .functionLevelReset fn => next_execFunctionLevelReset fn s
  | .busMasterClear fn => next_execBusMasterClear fn s
  | .fnEnable fn verReq table => next_execFnEnable fn verReq table s
  | .fnDisable fn => next_execFnDisable fn s
  | .functionStopDone fn => next_execFunctionStopDone fn s
  | .claim fn => next_execClaim fn s
  | .standby fn => next_execStandby fn s
  | .release fn => next_execRelease fn s
  | .heartbeat fn => next_execHeartbeat fn s
  | .stewardHbTimeout => next_execStewardHbTimeout s
  | .fenceFunction target => next_execFenceFunction target s
  | .fencePort target => next_execFencePort target s
  | .unfenceFunction target => next_execUnfenceFunction target s
  | .unfencePort target => next_execUnfencePort target s
  | .attentionWrite fn => next_execAttentionWrite fn s
  | .doorbellScan fn recs => next_execDoorbellScan fn recs s
  | .descriptorFetched fn qpid d => next_execDescriptorFetched fn qpid d s
  | .fetchTimeout fn qpid err => next_execFetchTimeout fn qpid err s
  | .completionWrite p => next_execCompletionWrite p s
  | .coalesceTimeout fn qpid => next_execCoalesceTimeout fn qpid s
  | .commandDeadline fn tag => next_execCommandDeadline fn tag s
  | .writeAccepted fn tag data dma => next_execWriteAccepted fn tag data dma s
  | .read fn tag dma => next_execRead fn tag dma s
  | .write fn tag => next_execWrite fn tag s
  | .verify fn tag => next_execVerify fn tag s
  | .commit fn tag => next_execCommit fn tag s
  | .mount fn tag info dma => next_execMount fn tag info dma s
  | .unmount fn tag => next_execUnmount fn tag s
  | .load fn tag => next_execLoad fn tag s
  | .eject fn tag => next_execEject fn tag s
  | .seekHint fn tag layer tracks => next_execSeekHint fn tag layer tracks s
  | .abort fn tag => next_execAbort fn tag s
  | .scrub fn tag => next_execScrub fn tag s
  | .servoTest fn tag dma => next_execServoTest fn tag dma s
  | .identify fn tag dma => next_execIdentify fn tag dma s
  | .getLog fn tag dma => next_execGetLog fn tag dma s
  | .setFeature fn tag data dma => next_execSetFeature fn tag data dma s
  | .getFeature fn tag dma => next_execGetFeature fn tag dma s
  | .fwDownload fn tag dma => next_execFwDownload fn tag dma s
  | .fwCommit fn tag image flash => next_execFwCommit fn tag image flash s
  | .fwCommitActivate fn tag image flash => next_execFwCommitActivate fn tag image flash s
  | .fwActivate fn tag => next_execFwActivate fn tag s
  | .createQp fn tag => next_execCreateQp fn tag s
  | .deleteQp fn tag => next_execDeleteQp fn tag s
  | .lease fn tag => next_execLease fn tag s
  | .calibSave fn tag dma => next_execCalibSave fn tag dma s
  | .calibRestore fn tag data dma => next_execCalibRestore fn tag data dma s
  | .floeDefine fn tag data dma => next_execFloeDefine fn tag data dma s
  | .floeDelete fn tag => next_execFloeDelete fn tag s
  | .floeRebuild fn tag => next_execFloeRebuild fn tag s
  | .arm fn tag => next_execArm fn tag s
  | .ilkChannelChange a b => next_execIlkChannelChange a b s
  | .permitHoldDone => next_execPermitHoldDone s
  | .discrepancyTimeout => next_execDiscrepancyTimeout s
  | .disarm zones => next_execDisarm zones s
  | .gpioEdge g level => next_execGpioEdge g level s
  | .gpioSet mask => next_execGpioSet mask s
  | .gpioClr mask => next_execGpioClr mask s
  | .mctpControl req => next_execMctpControl req s
  | .mctpStatus => next_execMctpStatus s
  | .mctpReadRegister offset => next_execMctpReadRegister offset s
  | .mctpTelemetry mn => next_execMctpTelemetry mn s
  | .mctpLogEntries seq count => next_execMctpLogEntries seq count s
  | .registerRead addr => isNext_execRegisterRead (hr addr rfl).1 (hr addr rfl).2 s
  | .refclkRestored => next_execRefclkRestored s
  | .powerGoodRise g => next_execPowerGoodRise g s
  | .hostLinkUp p width rate => next_execHostLinkUp p width rate s
  | .dimmTempRead ch temp => next_execDimmTempRead ch temp s

/-! ### The obligations -/

/-- Settles O1: a step takes the front of the queue by its definition (the queue is the model's own, notes 2 and 84). -/
theorem stepRunsFront : Obligations.StepRunsFront := fun _ _ _ => rfl

/-- Settles O3: every arm of `exec` ends in a next state, the two register accesses at the addresses that the windows serve. -/
theorem everyCommandAnswers : Obligations.EveryCommandAnswers := fun c s hw hr => isNext_exec c s hw hr

end Sys2Proof.Proofs
end

section
/-! SUPPORT. The identity registers (GLB_ID, GLB_SILICON, GLB_DEVICE_ID_LO and GLB_DEVICE_ID_HI), which the Kept files gather with the queue, the interlock
and the options. The operations that touch one of those others, the resets among them, leave the identity alone all the same: a reset of the core
domain keeps the GLB block, and POWER_ON_RESET keeps what manufacture gave. -/

namespace Sys2Proof.Proofs

open Sys2Proof.Machine Sys2Proof.Laws

/-- What the four identity registers hold. -/
def identity (s : State) : Word × Word × Word × Word := (s.rd .GLB_ID, s.rd .GLB_SILICON, s.rd .GLB_DEVICE_ID_LO, s.rd .GLB_DEVICE_ID_HI)

theorem identity_of_kept {s t : State} (h : kept t = kept s) : identity t = identity s := congrArg (·.2.1) h

theorem identity_of_regs {s t : State} (h : t.regs = s.regs) : identity t = identity s := by
  simp only [identity, State.rd, h]

theorem identity_modPwr (s : State) (f : PowerX → PowerX) : identity (s.modPwr f) = identity s := identity_of_regs rfl

/-- The identity registers as items (Laws/Foot.lean). -/
def identityItems : List Item := [.reg .GLB_ID 0 0, .reg .GLB_SILICON 0 0, .reg .GLB_DEVICE_ID_LO 0 0, .reg .GLB_DEVICE_ID_HI 0 0]

/-- An operation none of whose spots covers an identity register. -/
theorem identity_of_off {l : List Spot} {s t : State} (hl : ∀ q ∈ identityItems, q.off l = true) (h : ∀ q : Item, q.off l = true → itm q t = itm q s) :
    identity t = identity s := by
  have hq : ∀ q ∈ identityItems, itm q t = itm q s := fun q hq => h q (hl q hq)
  simp only [identityItems, List.forall_mem_cons, itm, Prod.mk.injEq, and_true] at hq
  obtain ⟨h0, h4, h8, hC, -⟩ := hq
  simp only [identity, h0, h4, h8, hC]

/-- Every next state of the outcome has the identity of s. -/
def idOut (o : Out) (s : State) : Prop := ∀ t, o = .next t → identity t = identity s

theorem idOut_of_keptOut {o : Out} {s : State} (h : keptOut o s) : idOut o s := fun t ht => identity_of_kept (h t ht)

theorem idOut_of_off {l : List Spot} {o : Out} {s : State} (hl : ∀ q ∈ identityItems, q.off l = true) (h : ∀ q : Item, q.off l = true → itOut q o s) :
    idOut o s := fun t ht => identity_of_off hl fun q hq => h q hq t ht

theorem idOut_fin {t s : State} (h : identity t = identity s) : idOut (fin t) s := by
  intro u hu
  cases hu
  rw [identity_of_kept (kept_noteEvents t), h]

theorem idOut_regCmd {s : State} {f : State → Out} (h : ∀ u, idOut (f u) u) : idOut (regCmd s f) s := by
  unfold regCmd
  split
  · exact idOut_fin rfl
  · exact fun t ht => (h _ t ht).trans (identity_of_kept (kept_dozeWake s 2))

theorem idOut_runAdmin {s : State} {fn tag op : Nat} {k : State → Ctx → State} (h : ∀ u c, identity u = identity s → identity (k u c) = identity s) :
    idOut (s.runAdmin fn tag op k) s := by
  unfold State.runAdmin
  split
  · exact idOut_fin rfl
  · split
    · exact idOut_fin rfl
    · exact idOut_fin (h _ _ (identity_of_kept (kept_modCtx _ _ _ _)))

/-! ### Resets -/

/-- An operation on the whole table that keeps every entry below 0x10. -/
theorem identity_filter {s t : State} {p : Nat × Word → Bool} (h : t.regs = s.regs.filter p) (hp : ∀ a < 0x10, ∀ v, p (a, v) = true) :
    identity t = identity s := by
  have hr : ∀ r : Reg, r.addr 0 0 < 0x10 → t.rd r = s.rd r := fun r hr => by
    simp only [State.rd, h, tabGet_filter _ _ _ _ (hp _ hr)]
  simp only [identity, hr .GLB_ID (by decide), hr .GLB_SILICON (by decide), hr .GLB_DEVICE_ID_LO (by decide), hr .GLB_DEVICE_ID_HI (by decide)]

theorem identity_permitsOff (s : State) : identity s.permitsOff = identity s :=
  identity_of_off (l := foot_permitsOff) (by decide) fun _ hq => it_permitsOff s hq

/-- A reset of the core domain keeps the registers of the GLB block. -/
theorem identity_clearCore (s : State) : identity s.clearCore = identity s := by
  unfold State.clearCore
  extract_lets cut e s1 s2
  have h1 : identity s1 = identity s := identity_filter rfl fun a ha _ => by
    simp only [droneReg, Bool.or_eq_true, decide_eq_true_eq]
    omega
  have h2 : identity s2 = identity s := by
    rw [← h1]
    simp only [s2]
    split
    · exact identity_of_kept (by rw [kept_raise _ _ _ (by decide), kept_set0 _ _ _ (by decide)])
    · rfl
  rw [← h2, identity_modPwr]
  clear_value s2
  refine identity_of_kept ?_
  rw [kept_set0 _ _ _ (by decide), kept_set0 _ _ _ (by decide), kept_set0 _ _ _ (by decide), kept_set0 _ _ _ (by decide)]

theorem identity_assertReset (s : State) : identity s.assertReset = identity s :=
  calc identity s.assertReset = identity s.permitsOff.clearCore :=
        identity_of_kept (by rw [State.assertReset, kept_set0 _ _ _ (by decide), kept_set0 _ _ _ (by decide)])
    _ = identity s.permitsOff := identity_clearCore _
    _ = identity s := identity_permitsOff s

theorem identity_warmHeld (s : State) (q : DroneSeq) {cause : Fld} (h : calm cause.reg = true) : identity (s.warmHeld cause q) = identity s :=
  calc identity (s.warmHeld cause q) = identity (s.raise cause).prelude.assertReset := identity_of_kept (kept_await _ _)
    _ = identity (s.raise cause).prelude := identity_assertReset _
    _ = identity s := identity_of_kept (by rw [kept_prelude, kept_raise _ _ _ h])

theorem identity_warmReset (s : State) {cause : Fld} (h : calm cause.reg = true) : identity (s.warmReset cause) = identity s := identity_warmHeld s _ h

theorem identity_coldReset (s : State) : identity s.coldReset = identity s :=
  (identity_of_kept (kept_coldSupplies _)).trans (identity_assertReset s)

theorem identity_pinReset (s : State) {cause : Fld} (h : calm cause.reg = true) : identity (s.pinReset cause) = identity s := by
  unfold State.pinReset
  extract_lets s1 s2
  have h1 : identity s1 = identity s :=
    calc identity s1 = identity (s.raise cause).assertReset := identity_of_kept (by rw [kept_pinsToReset, kept_endAwait])
      _ = identity (s.raise cause) := identity_assertReset _
      _ = identity s := identity_of_kept (kept_raise _ _ _ h)
  have h2 : identity s2 = identity s := (identity_modPwr s1 _).trans h1
  clear_value s2
  refine (identity_of_kept (kept_set0 _ _ _ (by decide))).trans ?_
  split
  · exact h2
  · exact (identity_of_kept (kept_beginOff _ _)).trans h2

theorem identity_thermalOff (s : State) : identity s.thermalOff = identity s := by
  unfold State.thermalOff
  extract_lets l lim held s1
  have h1 : identity s1 = identity s :=
    calc identity s1 = identity (s.assertReset.set0 .DRN_PSTAT_STATE 7) := identity_modPwr _ _
      _ = identity s.assertReset := identity_of_kept (kept_set0 _ _ _ (by decide))
      _ = identity s := identity_assertReset s
  exact (identity_of_kept (by rw [kept_fansFull, kept_beginOff])).trans h1

theorem identity_hibernate (s : State) : identity s.hibernate = identity s := by
  unfold State.hibernate
  extract_lets t s1
  have h1 : identity s1 = identity s := by
    simp only [s1]
    split
    · calc identity ((t.permitsLow.set0 .RST_STAT_STAGE 0).modPwr fun p => { p with keep := true })
          = identity (t.permitsLow.set0 .RST_STAT_STAGE 0) := identity_modPwr _ _
        _ = identity t.permitsLow := identity_of_kept (kept_set0 _ _ _ (by decide))
        _ = identity t := identity_of_off (l := foot_permitsLow) (by decide) fun _ hq => it_permitsLow t hq
        _ = identity s := identity_of_kept (by rw [kept_set0 _ _ _ (by decide), kept_hibLoses])
    · exact identity_assertReset s
  clear_value s1
  rw [identity_of_kept (kept_beginOff _ _), identity_modPwr, ← h1]
  refine identity_of_kept ?_
  rw [kept_set0 _ _ _ (by decide), kept_set0 _ _ _ (by decide)]

theorem identity_idleTick (s : State) : identity s.idleTick = identity s := by
  unfold State.idleTick
  have h1 : identity s.tick = identity s := identity_of_kept (kept_tick s)
  generalize s.tick = t at h1
  rw [← h1]
  dsimp only
  split
  · split
    · rfl
    · exact identity_of_kept (kept_seqDone _ _)
  · split
    · exact identity_of_kept (by simp)
    · rw [identity_modPwr]
      exact identity_of_kept (by simp +decide)
    · exact identity_of_kept (kept_waken _)
    · exact identity_hibernate t
    · split
      · split
        · exact identity_thermalOff t
        · rfl
      · split
        · exact identity_of_kept ((kept_thermalStop _).trans (kept_endLateRuns _))
        · exact identity_of_kept (kept_endLateRuns _)
    · rfl

/-! ### The commands that the Kept files leave out -/

theorem idOut_execPowerOnReset (s : State) : idOut (execPowerOnReset s) s := by
  unfold execPowerOnReset
  extract_lets s1
  refine idOut_fin ((identity_of_kept (kept_set0 s1 _ _ (by decide))).trans (identity_filter rfl fun a ha _ => ?_))
  simpa using ha

theorem idOut_execPinReset (s : State) : idOut (execPinReset s) s := idOut_fin (identity_pinReset s (by decide))

theorem idOut_execBrownOutReset (g : Fin 6) (s : State) : idOut (execBrownOutReset g s) s := by
  unfold execBrownOutReset
  extract_lets pg s1 st off s2
  have h1 : identity s1 = identity s := identity_of_kept (by simp only [s1]; split <;> simp +decide)
  split
  · exact idOut_fin h1
  · refine idOut_fin ((identity_coldReset _).trans ((identity_of_kept ?_).trans h1))
    simp only [s2]
    split <;> simp +decide

theorem idOut_execSoftWarmReset (key : Fin 65536) (s : State) : idOut (execSoftWarmReset key s) s :=
  idOut_regCmd fun u => by
    split
    · exact idOut_fin (identity_warmReset u (by decide))
    · exact idOut_fin rfl

theorem idOut_execSoftPinReset (key : Fin 65536) (s : State) : idOut (execSoftPinReset key s) s :=
  idOut_regCmd fun u => by
    split
    · exact idOut_fin (identity_pinReset u (by decide))
    · exact idOut_fin rfl

theorem idOut_execDebugReset (s : State) : idOut (execDebugReset s) s := by
  unfold execDebugReset
  split
  · exact idOut_fin (identity_warmReset s (by decide))
  · exact idOut_fin rfl

theorem idOut_execLockupReset (hang : Bool) (s : State) : idOut (execLockupReset hang s) s := by
  unfold execLockupReset
  extract_lets dead
  split
  · exact idOut_fin (identity_warmReset s (by decide))
  · exact idOut_fin rfl

theorem idOut_execTcritTrip (sensor : Fin 16) (s : State) : idOut (execTcritTrip sensor s) s := by
  unfold execTcritTrip
  split
  · exact idOut_fin rfl
  · extract_lets l held s0 s1 s2
    have h1 : identity s1 = identity s :=
      calc identity s1 = identity s.assertReset := identity_of_kept (by simp +decide [s1, s0])
        _ = identity s := identity_assertReset s
    refine idOut_fin (calc _ = identity s2 := identity_of_kept (by rw [kept_logEntry, kept_fansFull])
      _ = identity s1 := identity_modPwr _ _
      _ = identity s := h1)

theorem idOut_execThermalStop (s : State) : idOut (execThermalStop s) s := by
  unfold execThermalStop
  split
  · exact idOut_fin rfl
  · split
    case h_5 | h_6 | h_7 => exact idOut_fin (identity_thermalOff s)
    case h_1 => exact idOut_fin (identity_of_kept (kept_thermalBegin _))
    case h_8 => exact idOut_fin rfl
    all_goals exact idOut_fin (identity_of_kept (by rw [kept_thermalBegin, kept_set0 _ _ _ (by decide)]))

theorem idOut_execPgoodTimeout (s : State) : idOut (execPgoodTimeout s) s := by
  unfold execPgoodTimeout
  split
  · exact idOut_fin rfl
  · split
    · exact idOut_fin rfl
    · extract_lets n s0
      have h0 : identity s0 = identity s := by
        simp only [s0]
        split
        · exact (identity_modPwr _ _).trans ((identity_clearCore _).trans (identity_permitsOff s))
        · rfl
      exact idOut_fin ((identity_of_kept (kept_beginOff _ _)).trans ((identity_modPwr _ _).trans h0))

theorem idOut_execRefclkLost (s : State) : idOut (execRefclkLost s) s := by
  unfold execRefclkLost
  extract_lets s1 s2
  have h1 : identity s1 = identity s := identity_of_kept (kept_set0 _ _ _ (by decide))
  have h2 : identity s2 = identity s := (identity_of_kept (kept_raise _ _ _ (by decide))).trans h1
  split
  · exact idOut_fin h1
  · split
    · have hr : identity (s2.raise .RST_CAUSE_CLKFAIL).assertReset = identity s :=
        (identity_assertReset _).trans ((identity_of_kept (kept_raise _ _ _ (by decide))).trans h2)
      exact idOut_fin ((identity_of_kept (kept_logEntry _ _)).trans ((identity_modPwr _ _).trans ((identity_of_kept (kept_await _ _)).trans hr)))
    · exact idOut_fin h2

theorem idOut_execSupervisorTimeout (lost : Fin 65536) (s : State) : idOut (execSupervisorTimeout lost s) s := by
  unfold execSupervisorTimeout
  split
  · exact idOut_fin rfl
  · extract_lets rec_ s1
    have h1 : identity s1 = identity s := identity_of_kept (kept_forEach _ _ _ fun t i => kept_set _ _ _ _ (by decide))
    exact idOut_fin ((identity_warmReset _ (by decide)).trans ((identity_modPwr _ _).trans h1))

theorem idOut_execBistWindow (fail : Bool) (unit : Fin 16) (channels : Fin 256) (durMs : Fin 65536) (s : State) :
    idOut (execBistWindow fail unit channels durMs s) s :=
  idOut_regCmd fun u => by
    split
    · exact idOut_fin (identity_of_kept (kept_set0 _ _ _ (by decide)))
    · split
      · exact idOut_fin (identity_of_kept (kept_set0 _ _ _ (by decide)))
      · exact idOut_fin ((identity_warmHeld _ _ (by decide)).trans (identity_of_kept (kept_modHost _ _)))

theorem identity_activate (s : State) (c : Ctx) (slot : Nat) (image : FwImage) : identity (s.activate c slot image) = identity s := by
  unfold State.activate
  split
  · exact identity_of_kept (by simp +decide)
  · extract_lets s1 s2
    have h2 : identity s2 = identity s := identity_of_kept (by simp [s2, s1])
    split
    · exact (identity_warmReset _ (by decide)).trans h2
    · exact h2

theorem idOut_execFwActivate (fn : FnIx) (tag : Nat) (s : State) : idOut (execFwActivate fn tag s) s :=
  idOut_runAdmin fun u c hu => by
    dsimp only
    split
    · rfl
    · split
      · exact (identity_of_kept (kept_complete _ _ _ _ _ _)).trans hu
      · split
        · exact (identity_of_kept (kept_complete _ _ _ _ _ _)).trans hu
        · exact (identity_activate _ _ _ _).trans hu

theorem idOut_execFwCommitActivate (fn : FnIx) (tag : Nat) (image : FwImage) (flash : Bool) (s : State) :
    idOut (execFwCommitActivate fn tag image flash s) s :=
  idOut_runAdmin fun u c hu => by
    have hc : identity (u.dramTouch.commitImage image flash) = identity s := (identity_of_kept (by simp)).trans hu
    dsimp only
    split
    · rfl
    · split
      · exact (identity_of_kept (kept_complete _ _ _ _ _ _)).trans hu
      · split
        · exact (identity_of_kept (kept_activatePackage _ _ _)).trans hc
        · split
          · exact (identity_activate _ _ _ _).trans hc
          · exact (identity_of_kept (kept_complete _ _ _ _ _ _)).trans hc

/-- Every command leaves the identity alone: the Kept files say so of most, the lemmas above and the spots (Laws/Foot.lean) of the others. -/
theorem idOut_exec (c : Instr) (s : State) : idOut (exec c s) s := by
  cases c with
  | powerOnReset => exact idOut_execPowerOnReset s
  | pinReset => exact idOut_execPinReset s
  | brownOutReset g => exact idOut_execBrownOutReset g s
  | softWarmReset key => exact idOut_execSoftWarmReset key s
  | softPinReset key => exact idOut_execSoftPinReset key s
  | debugReset => exact idOut_execDebugReset s
  | lockupReset hang => exact idOut_execLockupReset hang s
  | tcritTrip sensor => exact idOut_execTcritTrip sensor s
  | thermalStop => exact idOut_execThermalStop s
  | pgoodTimeout => exact idOut_execPgoodTimeout s
  | refclkLost => exact idOut_execRefclkLost s
  | supervisorTimeout lost => exact idOut_execSupervisorTimeout lost s
  | bistWindow fail unit channels durMs => exact idOut_execBistWindow fail unit channels durMs s
  | fwActivate fn tag => exact idOut_execFwActivate fn tag s
  | fwCommitActivate fn tag image flash => exact idOut_execFwCommitActivate fn tag image flash s
  | arm fn tag => exact idOut_of_off (l := foot_execArm) (by decide +kernel) fun _ hq => it_execArm fn tag s hq
  | disarm zones => exact idOut_of_off (l := foot_execDisarm) (by decide +kernel) fun _ hq => it_execDisarm zones s hq
  | discrepancyTimeout => exact idOut_of_off (l := foot_execDiscrepancyTimeout) (by decide +kernel) fun _ hq => it_execDiscrepancyTimeout s hq
  | ilkChannelChange a b => exact idOut_of_off (l := foot_execIlkChannelChange) (by decide +kernel) fun _ hq => it_execIlkChannelChange a b s hq
  | permitHoldDone => exact idOut_of_off (l := foot_execPermitHoldDone) (by decide +kernel) fun _ hq => it_execPermitHoldDone s hq
  | optionProgram ok => exact idOut_of_off (l := foot_execOptionProgram) (by decide +kernel) fun _ hq => it_execOptionProgram ok s hq
  | bootStageDone x => exact idOut_of_off (l := foot_execBootStageDone) (by decide +kernel) fun _ hq => it_execBootStageDone x s hq
  | _ => exact idOut_of_keptOut (by simp [exec])

/-- The dwords that the first 16 bytes of the setup window read are the identity registers. -/
theorem readAt_identity (s : State) : (s.readAt 0, s.readAt 4, s.readAt 8, s.readAt 12) = identity s := rfl

/-! ### The obligations -/

/-- Settles O6: every command and the tick of an empty queue leave the four registers alone, the resets because they keep the GLB block. -/
theorem identityFixed : Obligations.IdentityFixed := by
  intro s t h
  have hid : identity t = identity s := by
    unfold step at h
    split at h
    · cases h
      exact identity_idleTick s
    · rename_i c rest _
      exact (idOut_exec c _ t h).trans (identity_of_regs rfl)
  rw [← readAt_identity, ← readAt_identity] at hid
  simp only [Prod.mk.injEq] at hid
  obtain ⟨h0, h4, h8, hC⟩ := hid
  simp only [List.forall_mem_cons]
  exact ⟨h0, h4, h8, hC, by simp⟩

end Sys2Proof.Proofs
end

section
/-! SUPPORT. What REGISTER_READ answers and leaves (R8 to R10, R555). -/

namespace Sys2Proof.Proofs

open Sys2Proof.Machine Sys2Proof.Laws

/-! ### The fields of a register -/

/-- The fields of every register lie within its dword and apart from one another. -/
theorem flds_apart : ∀ e ∈ allRegs, (∀ f ∈ e.flds, f.lo + f.width ≤ 32) ∧ e.flds.Pairwise fun f g => beside f g = true ∧ beside g f = true := by
  decide +kernel

/-- A field reads the same after the bits of another field of the dword are replaced. -/
theorem bitsOf_withBits_beside {f g : Fld} (h : beside f g = true) (w : Word) (v : Nat) :
    bitsOf (withBits w f.lo f.width v) g.lo g.width = bitsOf w g.lo g.width := by
  simp only [beside, Bool.and_eq_true, Bool.or_eq_true, decide_eq_true_eq] at h
  obtain ⟨hf, hd | hd⟩ := h
  · exact bitsOf_withBits_above _ _ _ _ _ _ hf hd
  · exact bitsOf_withBits_below _ _ _ _ _ _ hf hd

/-- An operation on a dword, one field after the other: `own` is what it makes of a field's bits, `g` leaves every other field alone. A field then reads
what `own` makes of what it read. -/
theorem bitsOf_foldl_flds {g : Word → Fld → Word} {own : Fld → Nat → Nat} {l : List Fld}
    (hown : ∀ f ∈ l, ∀ w, bitsOf (g w f) f.lo f.width = own f (bitsOf w f.lo f.width))
    (hother : ∀ f ∈ l, ∀ f', beside f f' = true → ∀ w, bitsOf (g w f) f'.lo f'.width = bitsOf w f'.lo f'.width)
    (hl : l.Pairwise fun f f' => beside f f' = true ∧ beside f' f = true) {f : Fld} (hf : f ∈ l) (w : Word) :
    bitsOf (l.foldl g w) f.lo f.width = own f (bitsOf w f.lo f.width) := by
  have hkeep : ∀ l' ⊆ l, (∀ f' ∈ l', beside f' f = true) → ∀ w, bitsOf (l'.foldl g w) f.lo f.width = bitsOf w f.lo f.width := by
    intro l' hs hb
    induction l' with
    | nil => intro w; rfl
    | cons f' r ih =>
      intro w
      rw [List.foldl_cons, ih (List.subset_of_cons_subset hs) (fun x hx => hb x (List.mem_cons_of_mem _ hx)),
        hother f' (hs List.mem_cons_self) f (hb f' List.mem_cons_self)]
  obtain ⟨l1, l2, rfl⟩ := List.append_of_mem hf
  obtain ⟨-, h2, h12⟩ := List.pairwise_append.mp hl
  rw [List.foldl_append, List.foldl_cons, hkeep l2 (fun x hx => by simp [hx]) (fun x hx => (List.rel_of_pairwise_cons h2 hx).2),
    hown f hf, hkeep l1 (fun x hx => by simp [hx]) (fun x hx => (h12 x hx f List.mem_cons_self).1)]

/-! ### The answer -/

theorem readEffect_out (s : State) (e : RegEntry) (i j : Nat) : (s.readEffect e i j).out = s.out := by
  unfold State.readEffect
  dsimp only
  (repeat' split) <;> simp

theorem readReg_out (s : State) (a : Nat) : (s.readReg a).out = .regData a (s.readAt a) :: s.out := by
  unfold State.readReg
  dsimp only
  split
  · exact readEffect_out _ _ _ _
  · rfl

section
variable {a : Nat} {s : State} (ha : a % 4 = 0) (hs : s.pst = 1) (hc : s.closed = false)
include ha hs hc

/-- While the device is ACTIVE a read of the setup window or a BAR0 answers and has its effect. -/
theorem exec_registerRead (hw : a < 0x2000000) : exec (.registerRead a) s = fin (s.readReg a) := by
  show execRegisterRead a s = _
  rw [execRegisterRead, if_neg (not_not.mpr ha), if_neg (by rw [windows_iff]; omega), if_neg (by rw [hs]; decide), hc, if_neg Bool.false_ne_true,
    inBar2_eq_false hw, if_neg Bool.false_ne_true, not_dozing_of_active hs, if_neg Bool.false_ne_true, dozeWake_of_active hs, ite_self]

/-- A read of a BAR2 answers and has no effect. -/
theorem exec_registerRead_bar2 (h2 : 0x2000000 ≤ a) (hw : a < 0x3000000) :
    exec (.registerRead a) s = fin (s.emit (.regData a (s.bar2At a))) := by
  show execRegisterRead a s = _
  rw [execRegisterRead, if_neg (not_not.mpr ha), if_neg (by rw [windows_iff]; omega), if_neg (by rw [hs]; decide), hc, if_neg Bool.false_ne_true,
    inSetup_eq_false (by omega), if_neg Bool.false_ne_true, inBar2_eq_true h2 hw, if_pos rfl]

theorem registerRead_answers (hw : a < 0x2000000) : Completes (.registerRead a) s fun t => t.out = .regData a (s.readAt a) :: s.out :=
  ⟨_, exec_registerRead ha hs hc hw, (noteEvents_out _).trans (readReg_out s a)⟩

theorem registerRead_bar2_answers (h2 : 0x2000000 ≤ a) (hw : a < 0x3000000) :
    Completes (.registerRead a) s fun t => t.out = .regData a (s.bar2At a) :: s.out :=
  ⟨_, exec_registerRead_bar2 ha hs hc h2 hw, noteEvents_out _⟩

end

/-! ### The effect -/

/-- A dword with its read-to-clear fields cleared. -/
def clearRc (l : List Fld) (w : Word) : Word := l.foldl (fun w f => if f.acc = .rc then withBits w f.lo f.width 0 else w) w

theorem bitsOf_clearRc {e : RegEntry} (he : e ∈ allRegs) {f : Fld} (hf : f ∈ e.flds) (w : Word) :
    bitsOf (clearRc e.flds w) f.lo f.width = if f.acc = .rc then 0 else bitsOf w f.lo f.width := by
  obtain ⟨hfit, hp⟩ := flds_apart e he
  refine bitsOf_foldl_flds (own := fun f n => if f.acc = .rc then 0 else n) (fun f hf w => ?_) (fun f _ f' hb w => ?_) hp hf w
  · split
    · rw [bitsOf_withBits _ _ _ _ (hfit f hf), Nat.zero_mod]
    · rfl
  · split
    · exact bitsOf_withBits_beside hb w 0
    · rfl

/-- The registers of device time, whose reads latch, have no read-to-clear field. -/
theorem clearRc_time : ∀ e ∈ allRegs, (isReg e .DRN_TIME_LO || isReg e .DRN_TIME_HI || isReg e .FN_TIME_LO || isReg e .FN_TIME_HI) = true →
    ∀ f ∈ e.flds, f.acc ≠ .rc := by
  decide +kernel

theorem clearRc_of_no_rc {l : List Fld} (h : ∀ f ∈ l, f.acc ≠ .rc) (w : Word) : clearRc l w = w := by
  induction l generalizing w with
  | nil => rfl
  | cons f r ih =>
    unfold clearRc
    rw [List.foldl_cons, if_neg (h f List.mem_cons_self)]
    exact ih (fun x hx => h x (List.mem_cons_of_mem _ hx)) w

theorem rd_readEffect {e : RegEntry} (he : e ∈ allRegs) {i j : Nat} (hi : e.reg.has i j = true) (s : State) :
    (s.readEffect e i j).rd e.reg i j = clearRc e.flds (s.rd e.reg i j) := by
  by_cases ht : (isReg e .DRN_TIME_LO || isReg e .DRN_TIME_HI || isReg e .FN_TIME_LO || isReg e .FN_TIME_HI) = true
  · rw [clearRc_of_no_rc (clearRc_time e he ht)]
    unfold State.readEffect
    simp only [Bool.or_eq_true] at ht
    obtain ((h | h) | h) | h := ht <;> (repeat' split) <;> rfl
  · simp only [Bool.or_eq_true, not_or, Bool.not_eq_true] at ht
    obtain ⟨⟨⟨h1, h2⟩, h3⟩, h4⟩ := ht
    unfold State.readEffect
    rw [h1, h2, h3, h4]
    simp only [Bool.false_eq_true, if_false]
    split
    · rename_i h; exact h.symm
    · exact rd_wr_same _ _ _ _ _ hi

theorem rd_readReg {a i j : Nat} {e : RegEntry} (h : findReg a = some (e, i, j)) (s : State) :
    (s.readReg a).rd e.reg i j = clearRc e.flds (s.rd e.reg i j) := by
  unfold State.readReg
  rw [h]
  exact rd_readEffect (findReg_mem h) (findReg_has h) _

/-! ### The obligations -/

/-- Settles O25: a read answers the dword that stands at the address, and clears the read-to-clear fields field by field. -/
theorem registerReads : Obligations.RegisterReads := by
  refine ⟨fun a s ha hw hs hc => registerRead_answers ha hs hc hw, fun a s ha h2 hw hs hc => registerRead_bar2_answers ha hs hc h2 hw,
    fun a s e i j ha hs hc h => ⟨_, exec_registerRead ha hs hc (findReg_lt h), fun f hf hq => ?_⟩⟩
  rw [rd_noteEvents_of_ne_endRegs (findReg_mem h) hq, rd_readReg h, bitsOf_clearRc (findReg_mem h) hf]

end Sys2Proof.Proofs
end

section
/-! SUPPORT. What REGISTER_WRITE leaves: a write that does not cover its dword is a log entry (R8), a write of all four bytes stores by the access types of the
fields (R10, R561). -/

namespace Sys2Proof.Proofs

open Sys2Proof.Machine Sys2Proof.Laws

/-! ### A partial write -/

/-- The state in which a write to address a is taken: the device leaves its doze for the setup window and BAR0, not for BAR2 (R428, R557). -/
def awake (a : Nat) (s : State) : State := if inBar2 a then s else s.dozeWake 2

theorem awake_of_active {s : State} (h : s.pst = 1) (a : Nat) : awake a s = s := by
  unfold awake
  rw [dozeWake_of_active h, ite_self]

/-- The log entry of a partial write. -/
def partialEntry (a : Nat) (be : Fin 16) : LogArgs :=
  { cls := 1, code := 1, sev := 0, fn := if inSetup a then 0xFFFF else fnAt a, detail0 := if inSetup a then a else a % 0x10000, detail1 := be }

theorem exec_registerWrite_partial {a : Nat} {be : Fin 16} {s : State} (ha : a % 4 = 0) (hw : a < 0x3000000) (hc : s.closed = false) (hbe : be.val ≠ 15)
    (v : Word) : exec (.registerWrite a v be) s = fin ((awake a s).logEntry (partialEntry a be)) := by
  show execRegisterWrite a v be s = _
  rw [execRegisterWrite, if_neg (not_not.mpr ha), if_neg (by rw [windows_iff]; omega), hc, if_neg Bool.false_ne_true]
  exact if_pos hbe

theorem rd_partial {e : RegEntry} (he : e ∈ allRegs) (hq : endRegs.all (fun q => q.base != e.reg.base) = true) (s : State) (x : LogArgs) (i j : Nat) :
    (s.logEntry x).noteEvents.rd e.reg i j = s.rd e.reg i j := by
  rw [rd_noteEvents_of_ne_endRegs he hq, rd_logEntry_of_ne_endRegs he hq]

/-- Where the steward's store of events has room, the entry is the only one: no lost event is logged beside it. -/
theorem log_partial {s : State} (h : EventRoom s (s.get .HQP_STEWARD_STEWARD_FN)) (x : LogArgs) : (s.logEntry x).noteEvents.log = (s.logEntry x).log := by
  refine noteEvents_log ?_
  rw [get_logEntry (by decide)]
  simpa [EventRoom] using h

/-! ### A write of all four bytes -/

/-- The field that holds the pull codes of 16 GPIOs, which a write stores code by code (R561). -/
def isPull (f : Fld) : Bool := sameFld f .DRN_GPIO_PULL_LO_PULL || sameFld f .DRN_GPIO_PULL_HI_PULL

/-- A register of pull codes has no other field. -/
theorem pull_alone : ∀ e ∈ allRegs, (∀ f ∈ e.flds, isPull f = false) ∨ ∀ f ∈ e.flds, isPull f = true := by
  decide +kernel

/-- What a write of v leaves in field f that reads n. -/
def fieldAfter (v : Word) (f : Fld) (n : Nat) : Nat :=
  match f.acc with
  | .rw => if rangeOk rangesF f (bitsOf v f.lo f.width) then bitsOf v f.lo f.width else n
  | .w1c => Nat.land n (2 ^ f.width - 1 - bitsOf v f.lo f.width)
  | .w1s => Nat.lor n (bitsOf v f.lo f.width)
  | .ro | .rc | .wo => n

section
variable {f : Fld} (hp : isPull f = false) (v : Word)
include hp

theorem bitsOf_putField_same (hfit : f.lo + f.width ≤ 32) (w : Word) :
    bitsOf (putField w v f) f.lo f.width = fieldAfter v f (bitsOf w f.lo f.width) := by
  have hn := bitsOf_lt w f.lo f.width
  have hv := bitsOf_lt v f.lo f.width
  unfold isPull at hp
  unfold putField fieldAfter
  dsimp only
  cases f.acc with
  | rw =>
    simp only [hp, Bool.false_eq_true, if_false]
    split
    · rw [bitsOf_withBits _ _ _ _ hfit, Nat.mod_eq_of_lt hv]
    · rfl
  | w1c => exact (bitsOf_withBits _ _ _ _ hfit).trans (Nat.mod_eq_of_lt (Nat.and_le_left.trans_lt hn))
  | w1s => exact (bitsOf_withBits _ _ _ _ hfit).trans (Nat.mod_eq_of_lt (Nat.or_lt_two_pow hn hv))
  | ro | rc | wo => rfl

theorem bitsOf_putField_other {g : Fld} (h : beside f g = true) (w : Word) : bitsOf (putField w v f) g.lo g.width = bitsOf w g.lo g.width := by
  unfold isPull at hp
  unfold putField
  dsimp only
  cases f.acc with
  | rw =>
    simp only [hp, Bool.false_eq_true, if_false]
    split
    · exact bitsOf_withBits_beside h w _
    · rfl
  | w1c | w1s => exact bitsOf_withBits_beside h w _
  | ro | rc | wo => rfl

end

theorem bitsOf_written {e : RegEntry} (he : e ∈ allRegs) {f : Fld} (hf : f ∈ e.flds) (hp : isPull f = false) (h1 : isReg e .PEN_CFG = false)
    (h2 : isReg e .FN_CTRL = false) (s : State) (i j : Nat) (v : Word) :
    bitsOf (s.written e i j v) f.lo f.width = fieldAfter v f (bitsOf (s.rd e.reg i j) f.lo f.width) := by
  obtain ⟨hfit, hd⟩ := flds_apart e he
  have hpull : ∀ f ∈ e.flds, isPull f = false := (pull_alone e he).resolve_right fun h => by simp [h f hf] at hp
  unfold State.written
  dsimp only
  rw [h1, h2]
  exact bitsOf_foldl_flds (own := fieldAfter v) (fun f hf w => bitsOf_putField_same (hpull f hf) v (hfit f hf) w)
    (fun f hf _ hb w => bitsOf_putField_other (hpull f hf) v hb w) hd hf _

theorem rd_store_same {r : Reg} {i j : Nat} (h : r.has i j = true) (s : State) (w : Word) : (s.store r i j w).rd r i j = w := by
  unfold State.store
  split
  · rename_i hw; exact hw.symm
  · exact rd_wr_same _ _ _ _ _ h

/-- A write that is allowed where it stands, to a register other than DRN_WAKE_CTRL, stores the dword and has its effects. -/
theorem writeReg_allowed {s : State} {e : RegEntry} {i j : Nat} {v : Word} (h : isReg e .DRN_WAKE_CTRL = false) (hi : s.writeIgnored e i = false)
    (hb : s.writeBusy e i = none) (hl : s.legalWord e i (s.written e i j v) = true) :
    s.writeReg e i j v = (s.store e.reg i j (s.written e i j v)).writeEffect e i (s.rd e.reg i j) v := by
  unfold State.writeReg
  simp [h, hi, hb, hl]

theorem exec_registerWrite {a : Nat} {s : State} {e : RegEntry} {i j : Nat} (ha : a % 4 = 0) (hs : s.pst = 1) (hc : s.closed = false)
    (h : findReg a = some (e, i, j)) (v : Word) : exec (.registerWrite a v 15) s = fin (s.writeReg e i j v) := by
  have hw := findReg_lt h
  show execRegisterWrite a v 15 s = _
  rw [execRegisterWrite, if_neg (not_not.mpr ha), if_neg (by rw [windows_iff]; omega), hc, if_neg Bool.false_ne_true, inBar2_eq_false hw,
    dozeWake_of_active hs, ite_self]
  simp [h]

/-! ### The obligations -/

/-- Settles O4: the stops by name (notes 25 and 26), the log entry of a partial write (note 33), and the dword that a read answers. -/
theorem registerAccesses : Obligations.RegisterAccesses := by
  refine ⟨fun a v be s => ⟨fun h => ?_, fun h hw => ?_⟩, fun a v be s ha hw hc hbe => ?_, fun a s ha hw hs hc => ?_⟩
  · exact ⟨execRegisterRead_misaligned h s, execRegisterWrite_misaligned h v be s⟩
  · exact ⟨execRegisterRead_noSuchAddress h hw s, execRegisterWrite_noSuchAddress h hw v be s⟩
  · refine ⟨_, exec_registerWrite_partial ha hw hc hbe v, fun e he hq i j => rd_partial he hq (awake a s) _ i j, ?_, fun hroom => ?_⟩
    · rw [noteEvents_msix, logEntry_host]; rfl
    · exact log_partial (s := awake a s) (of_decide_eq_true hroom) _
  · by_cases h2 : a < 0x2000000
    · obtain ⟨t, ht, ho⟩ := registerRead_answers ha hs hc h2
      exact ⟨t, ht, _, ho⟩
    · obtain ⟨t, ht, ho⟩ := registerRead_bar2_answers ha hs hc (by omega) hw
      exact ⟨t, ht, _, ho⟩

/-- Settles O26: the fields of the dword are stored one by one, each by its access type, and a partial write is a log entry. -/
theorem registerWrites : Obligations.RegisterWrites := by
  refine ⟨fun a v s e i j ha hs hc h hwake hpen hfn hi hb hl heff hq => ?_, fun a v be s ha hw hs hc hbe => ?_⟩
  · refine ⟨_, exec_registerWrite ha hs hc h v, fun f hf hlo hhi => ?_⟩
    have he := findReg_mem h
    have hp : isPull f = false := by rw [isPull, hlo, hhi]; rfl
    rw [rd_noteEvents_of_ne_endRegs he hq, writeReg_allowed hwake hi hb hl, heff, rd_store_same (findReg_has h), bitsOf_written he hf hp hpen hfn]
    rfl
  · refine ⟨_, exec_registerWrite_partial ha hw hc hbe v, fun e he hq i j => ?_⟩
    rw [rd_partial he hq, awake_of_active hs]

end Sys2Proof.Proofs
end

section
/-! SUPPORT. Every command, and the tick of an empty queue, keeps the laser permits sound: Laws/Permit.lean says so of the commands that touch the
interlock or reset the core domain, the Kept files of every other. -/

namespace Sys2Proof.Proofs

open Sys2Proof.Machine Sys2Proof.Laws

theorem sound_exec (c : Instr) {s t : State} (b : PermitSound s) (h : exec c s = .next t) : PermitSound t := by
  cases c with
  | powerOnReset => exact sound_execPowerOnReset h
  | pinReset => exact sound_execPinReset b h
  | brownOutReset g => exact sound_execBrownOutReset g b h
  | softWarmReset key => exact sound_execSoftWarmReset key b h
  | softPinReset key => exact sound_execSoftPinReset key b h
  | debugReset => exact sound_execDebugReset b h
  | lockupReset hang => exact sound_execLockupReset hang b h
  | tcritTrip sensor => exact sound_execTcritTrip sensor b h
  | thermalStop => exact sound_execThermalStop b h
  | pgoodTimeout => exact sound_execPgoodTimeout b h
  | refclkLost => exact sound_execRefclkLost b h
  | supervisorTimeout lost => exact sound_execSupervisorTimeout lost b h
  | bistWindow fail unit channels durMs => exact sound_execBistWindow fail unit channels durMs b h
  | fwActivate fn tag => exact sound_execFwActivate fn tag b h
  | fwCommitActivate fn tag image flash => exact sound_execFwCommitActivate fn tag image flash b h
  | arm fn tag => exact sound_execArm fn tag b h
  | disarm zones => exact sound_execDisarm zones b h
  | discrepancyTimeout => exact sound_execDiscrepancyTimeout b h
  | ilkChannelChange x y => exact sound_execIlkChannelChange x y b h
  | permitHoldDone => exact sound_execPermitHoldDone b h
  | optionProgram ok => exact sound_execOptionProgram ok b h
  | bootStageDone x => exact sound_execBootStageDone x b h
  | _ => exact sound_of_keptOut (by simp [exec]) h b

/-- Taking a command from the queue leaves the interlock and the power state as they are. -/
theorem sound_setPending {s : State} (b : PermitSound s) (l : List Instr) : PermitSound { s with pending := l } :=
  sound_of_view (s := s) rfl b

/-! ### The obligations -/

/-- Settles O8: the permits stay sound over the tick of an empty queue and over every command (the HIBERNATE clause is note 75). -/
theorem permitsSound : Obligations.PermitsSound := by
  intro s t b h
  unfold step at h
  split at h
  · cases h
    exact sound_idleTick b
  · exact sound_exec _ (sound_setPending b _) h

end Sys2Proof.Proofs
end

section
/-! SUPPORT. What a start of the spindle that can never fit its domain does to the statements on reads. A PARKED mechanism whose head is wanted spins up
(R42); when its START can never fit, the command that it serves completes with 0x040B (R302, R310). The statements on READ and on RESYNC leave that
out, and a state for each shows it. -/

namespace Sys2Proof.Proofs

open Sys2Proof.Machine

/-- The next state of an outcome has a property. -/
def nextHas (o : Out) (p : State → Bool) : Bool :=
  match o with
  | .next t => p t
  | _ => false

theorem nextHas_next {o : Out} {p : State → Bool} {t : State} (h : nextHas o p = true) (ht : o = .next t) : p t = true := by
  rw [ht] at h
  exact h

/-- A completion of function fn's command with this TAG and status waits in the merger. -/
def completed (fn tag status : Nat) (t : State) : Bool := t.host.merge.any fun e => e.fn == fn && e.tag == tag && e.status == status

/-- ACTIVE, with these fields beside the reset values: field, index, value. -/
def activeWith (l : List (Fld × Nat × Nat)) : State := l.foldl (fun s x => s.set x.1 x.2.1 x.2.2) (State.reset.set0 .DRN_PSTAT_STATE 1)

/-- Mechanism n holds a mounted HAF disc of one layer. -/
def mounted (n : Nat) : List (Fld × Nat × Nat) := [(.MECH_STATE_MOUNTED, n, 1), (.MECH_DISC_MEDIA, n, 1), (.MECH_DISC_LAYERS, n, 1)]

/-- Mechanism n is PARKED in domain 0, which grants 1 mW; cluster 0 of the Cirque engine has room for its slot. -/
def parked (n : Nat) : List (Fld × Nat × Nat) := mounted n ++ [(.MECH_STATE_STATE, n, 2), (.CIRQ_STATUS_ROLE, 0, 0), (.BRTH_DOM_BUDGET_MW, 0, 1)]

/-- MECH_CFG with AUTO_SPIN, in domain 0. -/
def autoSpinCfg : Word := 0x200

/-! ### READ -/

/-- A READ of the blocks 100 and 101 of mechanism 0. -/
def readCtx : Ctx := { fn := 0, qpid := 1, d := { opcode := 1, tag := 7, mn := 0, lba := 100, count := 2 } }

/-- The READ, with block 100 in the write buffer and block 101 on the disc of the PARKED mechanism. -/
def readParked : State :=
  { activeWith (parked 0) with
    mech := [(0, { cfgEff := autoSpinCfg })], chan := { discs := [(0, { extents := [(101, 1, 0, 0, 0)] })] },
    host := { cmds := [readCtx], keys := [(0, { mode := 1 })],
              wbuf := [{ id := 3, fn := 0, qpid := 1, tag := 9, mn := 0, lba := 100, count := 1, phase := .accepted, data := [5] }] } }

/-- The READ ends with 0x040B although its first block is in hand and its second is awaited. -/
theorem read_readParked : nextHas (exec (.read 0 7 .done) readParked) (fun t => completed 0 7 0x040B t && (t.ctx 0 7).isNone) = true := by
  decide +kernel

/-- Refutes O35: a READ with a block in hand and one awaited is not left outstanding where the START of its PARKED mechanism can never fit. -/
theorem not_dataReads : ¬ Obligations.DataReads := by
  intro ⟨_, _, inHand, _⟩
  obtain ⟨t, ht, -, hsome⟩ := inHand 0 7 readParked readCtx 0 5 1 ⟨by decide +kernel, rfl, by decide, rfl⟩
    (Or.inr (by decide +kernel)) (by decide +kernel) (by decide) (by decide +kernel) List.not_mem_nil ⟨1, by decide, by decide +kernel⟩
  obtain ⟨-, hnone⟩ := Bool.and_eq_true_iff.mp (nextHas_next read_readParked ht)
  exact Option.not_isSome_iff_eq_none.mpr (Option.isNone_iff_eq_none.mp hnone) hsome

/-! ### RESYNC -/

/-- A closed stripe of a set of two data members: a unit of each, and no parity. -/
def bareStripe : StripeX := { num := 7, units := [(0, 5), (1, 6)] }

/-- Set 5: the discs 11 and 12 hold data, the disc 13 parity. -/
def bareSet : FloeSet := { k := 2, m := 1, members := [11, 12, 13], used := 8, stripes := [bareStripe], layers := [(0, 1), (1, 1), (2, 1)] }

/-- Mechanism 0 with the disc 11 is PARKED and has an outstanding WRITE in the write buffer; the unit of the disc 12 is read, that of the disc 11 is not. -/
def resyncParked : State :=
  { activeWith (parked 0 ++ mounted 1 ++ mounted 2 ++ [(.FLOE_GCFG_AUTO_RESYNC, 0, 1)]) with
    mech := [(0, { discId := 11, cfgEff := autoSpinCfg }), (1, { discId := 12 }), (2, { discId := 13 })], floe := [(5, bareSet)],
    chan := { reads := [{ mn := 1, layer := 0, cluster := 6, sectors := List.replicate 32 (.good []), done := true }] },
    host := { cmds := [{ fn := 0, qpid := 1, d := { opcode := 2, tag := 9, mn := 0, lba := 100, count := 1 }, phase := .running, started := true }],
              wbuf := [{ id := 3, fn := 0, qpid := 1, tag := 9, mn := 0, lba := 100, count := 1, phase := .accepted }] } }

/-- RESYNC asks for the head of mechanism 0; its WRITE ends with 0x040B and leaves the write buffer. -/
theorem resync_resyncParked : nextHas (exec (.resync 5 7) resyncParked) (fun t => completed 0 9 0x040B t && t.host.wbuf.isEmpty) = true := by
  decide +kernel

/-- Refutes O56: a RESYNC that asks for reads changes the write buffer where the START of a PARKED member with a WRITE can never fit. -/
theorem not_mapAppends : ¬ Obligations.MapAppends := by
  intro ⟨_, _, _, _, resyncs⟩
  obtain ⟨t, ht, -, hbuf⟩ := (resyncs 5 7 resyncParked bareStripe 2 rfl rfl (by decide +kernel) (by decide +kernel) (by decide +kernel)
    (by decide +kernel) (by decide +kernel) (by decide +kernel)).1 (by decide +kernel)
  obtain ⟨-, hempty⟩ := Bool.and_eq_true_iff.mp (nextHas_next resync_resyncParked ht)
  rw [hbuf] at hempty
  exact absurd hempty (by decide)

end Sys2Proof.Proofs
end

section
/-! SUPPORT. The host's records: the contexts of the commands, the write buffer and the functions, which the end of a meaning leaves alone, and the
completions on their way, which it never takes back (R341, R346, R348). A command that completes has ended, and stays so. -/

namespace Sys2Proof.Proofs

open Sys2Proof.Machine Sys2Proof.Laws

/-! ### What an accepted result leaves -/

/-- The contexts, the write buffer, what the functions have and the recorded losses. -/
def work (s : State) : List Ctx × List WbEntry × Tab FnX × Tab LossRec := (s.host.cmds, s.host.wbuf, s.host.fnx, s.host.losses)

/-- The completions in the merger and with their sources. -/
def onTheWay (s : State) : List Cpl := s.host.merge ++ s.host.held

theorem work_of_host {s t : State} (h : t.host = s.host) : work t = work s := by rw [work, h]; rfl

theorem cmds_of_work {s t : State} (h : work t = work s) : t.host.cmds = s.host.cmds := congrArg (·.1) h

theorem wbuf_of_work {s t : State} (h : work t = work s) : t.host.wbuf = s.host.wbuf := congrArg (·.2.1) h

theorem ctx_of_cmds {s t : State} (h : t.host.cmds = s.host.cmds) (fn tag : Nat) : t.ctx fn tag = s.ctx fn tag := by rw [State.ctx, h]; rfl

theorem enterCpl_host (s : State) (c : Cpl) :
    ∃ e : Cpl, (e.fn = c.fn ∧ e.tag = c.tag ∧ e.status = c.status ∧ e.res0 = c.res0 ∧ e.res1 = c.res1) ∧
      (s.enterCpl c).host = { s.host with merge := s.host.merge ++ [e] } := by
  unfold State.enterCpl
  extract_lets n svc s1 s2
  refine ⟨{ c with time := s.now % 2 ^ 32, service := svc }, ⟨rfl, rfl, rfl, rfl, rfl⟩, ?_⟩
  split
  · exact (raise_host _ _ _).trans (set0_host _ _ _)
  · exact set0_host _ _ _

/-- An accepted result is on its way, with all that were. -/
theorem acceptCpl_host (s : State) (c : Cpl) :
    work (s.acceptCpl c) = work s ∧ (∀ e ∈ onTheWay s, e ∈ onTheWay (s.acceptCpl c)) ∧
      ∃ e ∈ onTheWay (s.acceptCpl c), e.fn = c.fn ∧ e.tag = c.tag ∧ e.status = c.status ∧ e.res0 = c.res0 ∧ e.res1 = c.res1 := by
  unfold State.acceptCpl
  split
  · obtain ⟨e, he, hh⟩ := enterCpl_host s c
    simp only [work, onTheWay, hh]
    exact ⟨trivial, fun x hx => by simp only [List.mem_append] at hx ⊢; tauto, e, by simp, he⟩
  · simp only [work, onTheWay, State.modHost]
    exact ⟨trivial, fun x hx => by simp only [List.mem_append] at hx ⊢; tauto, c, by simp, rfl, rfl, rfl, rfl, rfl⟩

theorem chan_of_itm {s t : State} (h : itm (.part .chan) t = itm (.part .chan) s) : t.chan = s.chan := congrArg (·.2.chan) h

/-! ### The order of states in which an ended command stays ended -/

/-- In t the functions are as in s, every completion on its way is so still, and no ended command is outstanding again. -/
structure Later (s t : State) : Prop where
  fnx : t.host.fnx = s.host.fnx
  way : ∀ e ∈ onTheWay s, e ∈ onTheWay t
  gone : ∀ fn tag, s.ctx fn tag = none → t.ctx fn tag = none

theorem Later.trans {s t u : State} (h : Later s t) (k : Later t u) : Later s u :=
  ⟨k.fnx.trans h.fnx, fun e he => k.way e (h.way e he), fun fn tag hn => k.gone fn tag (h.gone fn tag hn)⟩

theorem later_of_work {s t : State} (h : work t = work s) (hw : ∀ e ∈ onTheWay s, e ∈ onTheWay t) : Later s t :=
  ⟨congrArg (·.2.2.1) h, hw, fun fn tag hn => (ctx_of_cmds (cmds_of_work h) fn tag).trans hn⟩

theorem Later.answered {s t : State} (h : Later s t) {fn tag st r0 r1 : Nat} (a : Answered fn tag st r0 r1 s) : Answered fn tag st r0 r1 t := by
  obtain ⟨hn, hs | ⟨e, he, hp⟩⟩ := a
  · exact ⟨h.gone fn tag hn, .inl (by rw [State.fnx, h.fnx]; exact hs)⟩
  · exact ⟨h.gone fn tag hn, .inr ⟨e, h.way e he, hp⟩⟩

theorem Later.ended {s t : State} (h : Later s t) {fn tag st : Nat} (a : Ended fn tag st s) : Ended fn tag st t := by
  obtain ⟨hn, hs | ⟨e, he, hp⟩⟩ := a
  · exact ⟨h.gone fn tag hn, .inl (by rw [State.fnx, h.fnx]; exact hs)⟩
  · exact ⟨h.gone fn tag hn, .inr ⟨e, h.way e he, hp⟩⟩

/-! ### The end of a meaning -/

/-- An operation that leaves the work alone and takes back no completion. -/
def HostQuiet (s t : State) : Prop := work t = work s ∧ ∀ e ∈ onTheWay s, e ∈ onTheWay t

theorem hostQuiet_of_host {s t : State} (h : t.host = s.host) : HostQuiet s t := ⟨work_of_host h, fun e he => by rwa [onTheWay, h]⟩

theorem HostQuiet.trans {s t u : State} (h : HostQuiet s t) (k : HostQuiet t u) : HostQuiet s u := ⟨k.1.trans h.1, fun e he => k.2 e (h.2 e he)⟩

theorem hostQuiet_acceptCpl (s : State) (c : Cpl) : HostQuiet s (s.acceptCpl c) := ⟨(acceptCpl_host s c).1, (acceptCpl_host s c).2.1⟩

theorem hostQuiet_postEvent (s : State) (fn code qpid detail : Nat) : HostQuiet s (s.postEvent fn code qpid detail) := by
  unfold State.postEvent
  split
  · exact hostQuiet_of_host (bump_host _ _ _)
  · split
    · exact HostQuiet.trans (t := s.modQp fn 0 _) ⟨rfl, fun _ he => he⟩ (hostQuiet_acceptCpl _ _)
    · extract_lets l e put
      have hp : ∀ x, HostQuiet s (put x) := fun x => ⟨rfl, fun _ he => he⟩
      split
      · exact hp _
      · exact (hp (l.drop 1 ++ [e])).trans (hostQuiet_of_host ((logEntry_host _ _).trans ((raise_host _ _ _).trans (raise_host _ _ _))))

theorem hostQuiet_noteEvents (s : State) : HostQuiet s s.noteEvents := by
  unfold State.noteEvents
  extract_lets on rose s1
  split
  · exact hostQuiet_of_host rfl
  · split
    · exact HostQuiet.trans (t := s1.modEvt _) (hostQuiet_of_host rfl) (hostQuiet_postEvent _ _ _ _ _)
    · exact hostQuiet_of_host rfl

theorem noteEvents_cmds (s : State) : s.noteEvents.host.cmds = s.host.cmds := cmds_of_work (hostQuiet_noteEvents s).1

theorem noteEvents_wbuf (s : State) : s.noteEvents.host.wbuf = s.host.wbuf := wbuf_of_work (hostQuiet_noteEvents s).1

theorem ctx_noteEvents (s : State) (fn tag : Nat) : s.noteEvents.ctx fn tag = s.ctx fn tag := ctx_of_cmds (noteEvents_cmds s) fn tag

theorem later_noteEvents (s : State) : Later s s.noteEvents := later_of_work (hostQuiet_noteEvents s).1 (hostQuiet_noteEvents s).2

theorem noteEvents_disc (s : State) (n : Nat) : s.noteEvents.disc n = s.disc n := by
  rw [State.disc, chan_of_itm (it_noteEvents s (by decide))]
  rfl

/-- What holds of the state once its events are accounted for holds of the outcome. -/
theorem completes_fin {c : Instr} {s u : State} {P : State → Prop} (h : exec c s = fin u) (hp : P u.noteEvents) : Completes c s P := ⟨u.noteEvents, h, hp⟩

/-! ### Contexts -/

theorem ctx_spec {s : State} {fn tag : Nat} {c : Ctx} (h : s.ctx fn tag = some c) : c.fn = fn ∧ c.d.tag = tag ∧ c ∈ s.host.cmds := by
  have := List.find?_some h
  simp only [Bool.and_eq_true, beq_iff_eq] at this
  exact ⟨this.1, this.2, List.mem_of_find?_eq_some h⟩

/-- A change that keeps FN and TAG of every context. -/
theorem ctx_modCtx {s : State} {fn tag : Nat} {c : Ctx} (h : s.ctx fn tag = some c) {f : Ctx → Ctx} (hf : ∀ x, (f x).fn = x.fn ∧ (f x).d.tag = x.d.tag) :
    (s.modCtx fn tag f).ctx fn tag = some (f c) := by
  simp only [State.ctx, State.modCtx, State.modHost, List.find?_map] at h ⊢
  have hp : ((fun x : Ctx => x.fn == fn && x.d.tag == tag) ∘ fun x => if x.fn == fn && x.d.tag == tag then f x else x) =
      fun x => x.fn == fn && x.d.tag == tag := by
    funext x
    by_cases hx : (x.fn == fn && x.d.tag == tag) = true
    · simp only [Function.comp, hx, if_true, (hf x).1, (hf x).2]
    · simp only [Function.comp, if_neg hx]
  rw [hp, h]
  have := List.find?_some h
  simp only [Option.map_some, this, if_true]

/-! ### Completion -/

/-- Every context but those with the FN and TAG of c stays outstanding. -/
theorem complete_work (s : State) (c : Ctx) (st fl r0 r1 : Nat) :
    work (s.complete c st fl r0 r1) = (s.host.cmds.filter fun x => !(x.fn == c.fn && x.d.tag == c.d.tag), s.host.wbuf, s.host.fnx, s.host.losses) := by
  unfold State.complete
  extract_lets s1 busy s2 io s3
  have h3 : s3.host = s1.host := by
    simp only [s3, s2]
    split <;> split <;> simp
  have hw : work s3 = work s1 := work_of_host h3
  clear_value s3
  unfold State.postCpl
  split
  · exact (work_of_host (bump_host _ _ _)).trans hw
  · exact (acceptCpl_host _ _).1.trans hw

theorem complete_way (s : State) (c : Ctx) (st fl r0 r1 : Nat) :
    (∀ e ∈ onTheWay s, e ∈ onTheWay (s.complete c st fl r0 r1)) ∧ ((s.fnx c.fn).stopping = true ∨
      ∃ e ∈ onTheWay (s.complete c st fl r0 r1), e.fn = c.fn ∧ e.tag = c.d.tag ∧ e.status = st ∧ e.res0 = r0 % 2 ^ 32 ∧ e.res1 = r1 % 2 ^ 32) := by
  unfold State.complete
  extract_lets s1 busy s2 io s3
  have h3 : s3.host = s1.host := by
    simp only [s3, s2]
    split <;> split <;> simp
  have hx : s3.fnx c.fn = s.fnx c.fn := by rw [State.fnx, h3]; rfl
  have hm : onTheWay s3 = onTheWay s := by rw [onTheWay, h3]; rfl
  clear_value s3
  unfold State.postCpl
  rw [← hx, ← hm]
  split
  next hs => exact ⟨fun e he => by rwa [onTheWay, bump_host], .inl hs⟩
  next => exact ⟨(acceptCpl_host _ _).2.1, .inr (acceptCpl_host _ _).2.2⟩

theorem ctx_complete_self (s : State) (c : Ctx) (st fl r0 r1 : Nat) : (s.complete c st fl r0 r1).ctx c.fn c.d.tag = none := by
  have h : (s.complete c st fl r0 r1).host.cmds = _ := congrArg (·.1) (complete_work s c st fl r0 r1)
  rw [State.ctx, h, List.find?_eq_none]
  intro x hx
  have := (List.mem_filter.mp hx).2
  simpa [imp_iff_not_or] using this

theorem ctx_complete_other (s : State) (c : Ctx) (st fl r0 r1 : Nat) {fn tag : Nat} (hne : ¬ (c.fn = fn ∧ c.d.tag = tag)) :
    (s.complete c st fl r0 r1).ctx fn tag = s.ctx fn tag := by
  have h : (s.complete c st fl r0 r1).host.cmds = _ := congrArg (·.1) (complete_work s c st fl r0 r1)
  rw [State.ctx, h, List.find?_filter, State.ctx]
  congr 1
  funext x
  by_cases hx : x.fn = fn ∧ x.d.tag = tag
  · obtain ⟨rfl, rfl⟩ := hx
    have : (x.fn == c.fn && x.d.tag == c.d.tag) = false := by
      rw [Bool.and_eq_false_iff, beq_eq_false_iff_ne, beq_eq_false_iff_ne]
      by_contra hc
      push Not at hc
      exact hne ⟨hc.1.symm, hc.2.symm⟩
    simp [this]
  · have : (x.fn == fn && x.d.tag == tag) = false := by
      rw [Bool.and_eq_false_iff, beq_eq_false_iff_ne, beq_eq_false_iff_ne]
      by_contra hc
      push Not at hc
      exact hx hc
    simp [this]

theorem later_complete (s : State) (c : Ctx) (st fl r0 r1 : Nat) : Later s (s.complete c st fl r0 r1) := by
  refine ⟨congrArg (·.2.2.1) (complete_work s c st fl r0 r1), (complete_way s c st fl r0 r1).1, fun fn tag hn => ?_⟩
  by_cases h : c.fn = fn ∧ c.d.tag = tag
  · obtain ⟨rfl, rfl⟩ := h
    exact ctx_complete_self s c st fl r0 r1
  · rw [ctx_complete_other s c st fl r0 r1 h, hn]

theorem complete_wbuf (s : State) (c : Ctx) (st fl r0 r1 : Nat) : (s.complete c st fl r0 r1).host.wbuf = s.host.wbuf :=
  congrArg (·.2.1) (complete_work s c st fl r0 r1)

theorem answered_complete (s : State) (c : Ctx) (st fl r0 r1 : Nat) : Answered c.fn c.d.tag st r0 r1 (s.complete c st fl r0 r1) := by
  have hx : (s.complete c st fl r0 r1).fnx c.fn = s.fnx c.fn := by rw [State.fnx, (later_complete s c st fl r0 r1).fnx]; rfl
  exact ⟨ctx_complete_self s c st fl r0 r1, hx ▸ (complete_way s c st fl r0 r1).2⟩

theorem ended_of_answered {fn tag st r0 r1 : Nat} {s : State} (h : Answered fn tag st r0 r1 s) : Ended fn tag st s := by
  obtain ⟨hn, hs | ⟨e, he, hf, ht, hst, -⟩⟩ := h
  · exact ⟨hn, .inl hs⟩
  · exact ⟨hn, .inr ⟨e, he, hf, ht, hst⟩⟩

theorem ended_cutCmd (s : State) (c : Ctx) (st : Nat) : Ended c.fn c.d.tag st (s.cutCmd c st) := ended_of_answered (answered_complete _ c st _ _ _)

end Sys2Proof.Proofs
end

section
/-! SUPPORT. WRITE: its entry of the write buffer and its acceptance (R354, R359). -/

namespace Sys2Proof.Proofs

open Sys2Proof.Machine Sys2Proof.Laws

/-! ### A command that runs -/

/-- State s with other requests for power and other contexts. -/
def withCmds (s : State) (b : BreathState) (l : List Ctx) : State := { s with breath := b, host := { s.host with cmds := l } }

/-- The context of a command that has been taken up. -/
def running (c : Ctx) : Ctx := { c with phase := .running }

theorem running_of_not_fetched {c : Ctx} (h : c.phase ≠ .fetched) : running c = c := by
  obtain ⟨fn, qpid, d, fa, dl, phase⟩ := c
  cases phase
  · exact absurd rfl h
  · rfl

/-- A command whose checks hold goes on with its context RUNNING. -/
theorem runCmd_runs {s : State} {fn tag op : Nat} {c : Ctx} (h : IoCmd s fn tag op c) (check : State → Ctx → Nat) (k : State → Ctx → State)
    (hc : c.phase = .fetched → check s c = 0) (hstop : c.phase = .fetched → op ≠ 4 → s.stopping c.d.mn = false)
    (hforce : c.phase = .fetched → op ∈ [1, 2, 3, 0x0B] → s.forcedRun c.d.mn = false) :
    ∃ b l, s.runCmd fn tag op check k = fin (k (withCmds s b l) (running c)) ∧
      (withCmds s b l).ctx fn tag = some (running c) := by
  obtain ⟨hctx, hop, -, hst⟩ := h
  have hguard : ¬ (c.d.opcode ≠ op ∨ ¬ c.stripes.isEmpty) := by simp [hop, hst]
  unfold State.runCmd
  simp only [hctx, if_neg hguard]
  by_cases hp : c.phase = .fetched
  · have hs : ¬ (c.phase = .fetched ∧ s.stopping c.d.mn ∧ op ≠ 4 ∧ op ≠ 0x0A) := fun ⟨_, h1, h2, _⟩ => by simp [hstop hp h2] at h1
    have hf : ¬ (c.phase = .fetched ∧ (op = 1 ∨ op = 2 ∨ op = 3 ∨ op = 0x0B) ∧ s.forcedRun c.d.mn) := fun ⟨_, h1, h2⟩ => by
      simp [hforce hp (by simpa using h1)] at h2
    rw [if_neg hs, if_neg hf, if_pos hp, hc hp]
    have hm : (s.modCtx fn tag fun x => { x with phase := .running }).ctx fn tag = some (running c) :=
      ctx_modCtx hctx fun _ => ⟨rfl, rfl⟩
    simp only [ne_eq, not_true_eq_false, if_false]
    split
    · exact ⟨s.breath, _, rfl, hm⟩
    · unfold State.dropHint
      split
      · exact ⟨_, _, rfl, hm⟩
      · exact ⟨s.breath, _, rfl, hm⟩
  · simp only [hp, false_and, if_false]
    rw [running_of_not_fetched hp]
    exact ⟨s.breath, s.host.cmds, rfl, hctx⟩

theorem runCmd_ready {s : State} {fn tag op : Nat} {c : Ctx} (h : IoCmd s fn tag op c) (hr : ReadyIo s c) (k : State → Ctx → State) :
    ∃ b l, s.runCmd fn tag op State.checkIo k = fin (k (withCmds s b l) (running c)) ∧
      (withCmds s b l).ctx fn tag = some (running c) := by
  have hr' : c.phase = .fetched → s.checkIo c = 0 ∧ s.stopping c.d.mn = false ∧ (op ∈ [1, 2, 3, 0x0B] → s.forcedRun c.d.mn = false) :=
    fun hp => h.2.1 ▸ hr.resolve_left (not_not.mpr hp)
  exact runCmd_runs h _ k (fun hp => (hr' hp).1) (fun hp _ => (hr' hp).2.1) fun hp => (hr' hp).2.2

/-! ### A new WRITE -/

theorem exec_write_new {s : State} {fn : Fin 257} {tag : Nat} (h : s.wbOf fn tag = none) :
    exec (.write fn tag) s = s.runCmd fn tag 2 State.checkIo fun t c => t.openWrite c := by
  show execWrite fn tag s = _
  rw [execWrite, h]

theorem openWrite_refused {s : State} {c : Ctx} (h : s.writeRefusal c ≠ 0) : s.openWrite c = s.cutCmd c (s.writeRefusal c) := by
  simp only [State.openWrite, h, ne_eq, not_false_eq_true, if_true]

theorem openWrite_full {s : State} {c : Ctx} (h : s.writeRefusal c = 0) (hr : s.wbufRoom c.d.count = false) : s.openWrite c = s := by
  simp [State.openWrite, h, hr]

theorem openWrite_opens {s : State} {c : Ctx} (h : s.writeRefusal c = 0) (hr : s.wbufRoom c.d.count = true) :
    ∃ w ∈ (s.openWrite c).host.wbuf, w.id = s.host.nextWb ∧ w.fn = c.fn ∧ w.tag = c.d.tag ∧ w.mn = c.d.mn ∧ w.lba = c.d.lba ∧ w.count = c.d.count ∧
      w.phase = .fetching := by
  simp only [State.openWrite, h, hr, ne_eq, not_true_eq_false, if_false, Bool.not_true, Bool.false_eq_true]
  exact ⟨_, List.mem_append_right _ (List.mem_singleton.mpr rfl), rfl, rfl, rfl, rfl, rfl, rfl, rfl⟩

/-- A WRITE that runs is refused, waits for room, or opens its entry. -/
theorem write_opens {fn : FnIx} {tag : Nat} {s : State} {c : Ctx} (hio : IoCmd s fn tag 2 c) (hnone : s.wbOf fn tag = none) (hr : ReadyIo s c) :
    Completes (.write ⟨fn.val, by omega⟩ tag) s fun t => (s.writeRefusal c ≠ 0 → Ended fn tag (s.writeRefusal c) t) ∧
      (s.writeRefusal c = 0 → s.wbufRoom c.d.count = false → t.host.wbuf = s.host.wbuf ∧ (t.ctx fn tag).isSome = true) ∧
      (s.writeRefusal c = 0 → s.wbufRoom c.d.count = true → ∃ w ∈ t.host.wbuf, w.id = s.host.nextWb ∧ w.fn = fn ∧ w.tag = tag ∧ w.mn = c.d.mn ∧ w.lba = c.d.lba ∧ w.count = c.d.count ∧
        w.phase = .fetching) := by
  obtain ⟨b, l, hrun, hctx⟩ := runCmd_ready hio hr fun t c => t.openWrite c
  obtain ⟨hfn, htag, -⟩ := ctx_spec hio.1
  have hnew := exec_write_new (fn := ⟨fn.val, by omega⟩) hnone
  have hw : (withCmds s b l).writeRefusal (running c) = s.writeRefusal c := rfl
  refine completes_fin (hnew.trans hrun) ⟨fun h => ?_, fun h hn => ?_, fun h hn => ?_⟩
  · rw [openWrite_refused (hw.symm ▸ h), hw, ← hfn, ← htag]
    exact (later_noteEvents _).ended (ended_cutCmd _ (running c) _)
  · rw [openWrite_full (hw.trans h) hn, noteEvents_wbuf, ctx_noteEvents, hctx]
    exact ⟨rfl, rfl⟩
  · rw [noteEvents_wbuf, ← hfn, ← htag]
    exact openWrite_opens (hw.trans h) hn

/-! ### Its data have come -/

theorem wbOf_mem {s : State} {fn tag : Nat} {w : WbEntry} (h : s.wbOf fn tag = some w) : w ∈ s.host.wbuf :=
  (List.mem_filter.mp (List.mem_of_getLast? h)).1

theorem modWb_mem {s : State} {w : WbEntry} (h : w ∈ s.host.wbuf) (f : WbEntry → WbEntry) : f w ∈ (s.modWb w.id f).host.wbuf :=
  List.mem_map.mpr ⟨w, h, if_pos rfl⟩

theorem dramTouch_host (s : State) : s.dramTouch.host = s.host := host_of_itm (it_dramTouch s (by decide))

theorem allocate_host {s u : State} {n count : Nat} {cl : List Nat} (h : s.allocate n count = some (u, cl)) : u.host = s.host := by
  obtain ⟨r, -, hr⟩ := Option.map_eq_some_iff.mp h
  rw [← (Prod.mk.inj hr).1]
  rfl

/-- The entry as acceptance leaves it. -/
def acceptedEntry (s : State) (w : WbEntry) (data cl : List Nat) (buffered : Bool) : WbEntry :=
  { w with
    phase := .accepted
    data := (List.range w.count).map fun k => encryptBlock (s.keySlot w.key) (w.lba + k) (data.getD k 0 % 2 ^ 32768)
    clusters := cl
    buffered := buffered }

theorem acceptedEntry_data (s : State) (w : WbEntry) (data cl : List Nat) (buffered : Bool) {k : Nat} (h : k < w.count) :
    (acceptedEntry s w data cl buffered).data.getD k 0 = encryptBlock (s.keySlot w.key) (w.lba + k) (data.getD k 0 % 2 ^ 32768) := by
  simp [acceptedEntry, h]

/-- Acceptance of entry w with clusters cl, t the state in which they are taken: the command waits on, or ends when it was BUFFERED. -/
def accept (s t : State) (fn tag : Nat) (data cl : List Nat) (c : Ctx) (w : WbEntry) : State :=
  let buffered := bitAt c.d.flags 1 == 1
  let t1 := (t.dramTouch.modWb w.id fun x => { x with
      phase := .accepted
      data := (List.range w.count).map fun k => encryptBlock (s.keySlot w.key) (w.lba + k) (data.getD k 0 % 2 ^ 32768)
      clusters := cl
      buffered := buffered }).modCtx fn tag fun x => { x with accepted := true, done := w.count }
  if buffered then t1.complete c 0 0 w.count 0 else t1

theorem accept_entry {s t : State} {fn tag : Nat} (data cl : List Nat) (c : Ctx) {w : WbEntry} (h : w ∈ t.host.wbuf) :
    acceptedEntry s w data cl (bitAt c.d.flags 1 == 1) ∈ (accept s t fn tag data cl c w).host.wbuf := by
  rw [← dramTouch_host] at h
  unfold accept
  extract_lets buffered t1
  have h1 : acceptedEntry s w data cl buffered ∈ t1.host.wbuf := modWb_mem h _
  split
  · rwa [complete_wbuf]
  · exact h1

theorem accept_buffered (s t : State) {fn tag : Nat} (data cl : List Nat) {c : Ctx} (w : WbEntry) (hfn : c.fn = fn) (htag : c.d.tag = tag)
    (hb : bitAt c.d.flags 1 = 1) : Answered fn tag 0 w.count 0 (accept s t fn tag data cl c w) := by
  subst hfn htag
  simp only [accept, hb, beq_self_eq_true, if_true]
  exact answered_complete _ _ _ _ _ _

theorem accept_unbuffered (s : State) {t : State} {fn tag : Nat} (data cl : List Nat) {c : Ctx} (w : WbEntry) (hc : t.ctx fn tag = some c)
    (hb : bitAt c.d.flags 1 = 0) : ∃ x, (accept s t fn tag data cl c w).ctx fn tag = some x ∧ x.accepted = true := by
  simp only [accept, hb, Nat.reduceBEq, Bool.false_eq_true, if_false]
  refine ⟨_, ctx_modCtx (c := c) ?_ fun _ => ⟨rfl, rfl⟩, rfl⟩
  rw [← hc]
  exact ctx_of_cmds (congrArg (·.cmds) (dramTouch_host t)) fn tag

/-- What the whole data of a WRITE bring: acceptance with clusters taken, or the end of the command. -/
theorem exec_writeAccepted {fn : FnIx} {tag : Nat} {data : List Nat} {s : State} {c : Ctx} {w : WbEntry} (hc : s.ctx fn tag = some c)
    (hw : s.wbOf fn tag = some w) (hp : w.phase = .fetching) : exec (.writeAccepted fn tag data .done) s =
      if isBd (s.get .MECH_DISC_MEDIA w.mn) then fin (accept s s fn tag data [] c w)
      else if s.on .MECH_DISC_SEALED w.mn then fin (s.cutCmd c 0x0330)
      else match s.allocate w.mn w.count with
        | none => fin (s.cutCmd c 0x0331)
        | some (t, cl) =>
          if 1048576 < (mapExtents (s.plannedMap w.mn) (writeExtents w.lba w.count cl)).length ∨
            s.mapPool < s.mapBytes w.mn (writeExtents w.lba w.count cl) then fin (s.cutCmd c 0x0332)
          else fin (accept s t fn tag data cl c w) := by
  show execWriteAccepted fn tag data .done s = _
  unfold execWriteAccepted
  simp only [hc, hw, hp, ne_eq, not_true_eq_false, if_false]
  rfl

theorem writeAccepted_haf {fn : FnIx} {tag : Nat} (data : List Nat) {s u : State} {c : Ctx} {w : WbEntry} {cl : List Nat} (hc : s.ctx fn tag = some c)
    (hw : s.wbOf fn tag = some w) (hp : w.phase = .fetching) (hbd : isBd (s.get .MECH_DISC_MEDIA w.mn) = false)
    (hseal : s.on .MECH_DISC_SEALED w.mn = false) (hall : s.allocate w.mn w.count = some (u, cl))
    (hlen : (mapExtents (s.plannedMap w.mn) (writeExtents w.lba w.count cl)).length ≤ 1048576)
    (hpool : s.mapBytes w.mn (writeExtents w.lba w.count cl) ≤ s.mapPool) : Completes (.writeAccepted fn tag data .done) s fun t =>
      (∃ x ∈ t.host.wbuf, x.id = w.id ∧ x.phase = .accepted ∧ x.clusters = cl ∧
        ∀ k < w.count, x.data.getD k 0 = encryptBlock (s.keySlot w.key) (w.lba + k) (data.getD k 0 % 2 ^ 32768)) ∧
      (bitAt c.d.flags 1 = 1 → Answered fn tag 0 w.count 0 t) ∧ (bitAt c.d.flags 1 = 0 → ∃ x, t.ctx fn tag = some x ∧ x.accepted = true) := by
  obtain ⟨hfn, htag, -⟩ := ctx_spec hc
  have hhost := allocate_host hall
  have hexec : exec (.writeAccepted fn tag data .done) s = fin (accept s u fn tag data cl c w) := by
    rw [exec_writeAccepted hc hw hp]
    simp only [hbd, hseal, hall, Bool.false_eq_true, if_false, Nat.not_lt.mpr hlen, Nat.not_lt.mpr hpool, or_self]
  refine completes_fin hexec ⟨?_, fun hb => ?_, fun hb => ?_⟩
  · rw [noteEvents_wbuf]
    exact ⟨_, accept_entry data cl c (hhost ▸ wbOf_mem hw), rfl, rfl, rfl, fun k hk => acceptedEntry_data s w data cl _ hk⟩
  · exact (later_noteEvents _).answered (accept_buffered s u data cl w hfn htag hb)
  · rw [ctx_noteEvents]
    exact accept_unbuffered s data cl w ((ctx_of_cmds (congrArg (·.cmds) hhost) fn tag).trans hc) hb

theorem writeAccepted_ends {fn : FnIx} {tag : Nat} (data : List Nat) {s : State} {c : Ctx} {w : WbEntry} (hc : s.ctx fn tag = some c)
    (hw : s.wbOf fn tag = some w) (hp : w.phase = .fetching) : Completes (.writeAccepted fn tag data .done) s fun t =>
      (isBd (s.get .MECH_DISC_MEDIA w.mn) = true → ∃ x ∈ t.host.wbuf, x.id = w.id ∧ x.phase = .accepted ∧ x.clusters = []) ∧
      (isBd (s.get .MECH_DISC_MEDIA w.mn) = false → (s.on .MECH_DISC_SEALED w.mn = true → Ended fn tag 0x0330 t) ∧
        (s.on .MECH_DISC_SEALED w.mn = false → (s.allocate w.mn w.count = none → Ended fn tag 0x0331 t) ∧
          ∀ u cl, s.allocate w.mn w.count = some (u, cl) → 1048576 < (mapExtents (s.plannedMap w.mn) (writeExtents w.lba w.count cl)).length ∨
            s.mapPool < s.mapBytes w.mn (writeExtents w.lba w.count cl) → Ended fn tag 0x0332 t)) := by
  obtain ⟨hfn, htag, -⟩ := ctx_spec hc
  have hcut : ∀ st, Ended fn tag st (s.cutCmd c st).noteEvents := fun st =>
    (later_noteEvents _).ended (hfn ▸ htag ▸ ended_cutCmd s c st)
  have hexec := exec_writeAccepted (data := data) hc hw hp
  split at hexec
  case isTrue hbd =>
    refine completes_fin hexec ⟨fun _ => ?_, fun h => by simp [hbd] at h⟩
    rw [noteEvents_wbuf]
    exact ⟨_, accept_entry data [] c (wbOf_mem hw), rfl, rfl, rfl⟩
  case isFalse hbd =>
  split at hexec
  case isTrue hseal => exact completes_fin hexec ⟨fun h => absurd h hbd, fun _ => ⟨fun _ => hcut _, fun h => by simp [hseal] at h⟩⟩
  case isFalse hseal =>
  split at hexec
  next hall =>
    exact completes_fin hexec ⟨fun h => absurd h hbd, fun _ => ⟨fun h => absurd h hseal, fun _ => ⟨fun _ => hcut _, fun u cl h => by simp [hall] at h⟩⟩⟩
  next t cl hall =>
  split at hexec
  case isTrue =>
    exact completes_fin hexec ⟨fun h => absurd h hbd, fun _ => ⟨fun h => absurd h hseal, fun _ => ⟨fun h => by simp [hall] at h, fun _ _ _ _ => hcut _⟩⟩⟩
  case isFalse hfit =>
    refine completes_fin hexec ⟨fun h => absurd h hbd, fun _ => ⟨fun h => absurd h hseal, fun _ => ⟨fun h => by simp [hall] at h, fun u cl' h hf => ?_⟩⟩⟩
    obtain ⟨-, rfl⟩ := Prod.mk.inj (Option.some.inj (hall.symm.trans h))
    exact absurd hf hfit

end Sys2Proof.Proofs
end

section
/-! SUPPORT. The end of a WRITE's run on a HAF disc: its commit record waits for the next append (R21, R357). -/

namespace Sys2Proof.Proofs

open Sys2Proof.Machine Sys2Proof.Laws

/-! ### What an operation leaves off its footprint -/

theorem off_reg (r : Reg) (i j : Nat) (l : List Spot) : (Item.reg r i j).off l = (Item.reg r 0 0).off l := by
  unfold Item.off
  congr 1
  funext x
  cases x <;> rfl

section
variable {s t : State} {l : List Spot} (it : ∀ {q : Item}, q.off l = true → itm q t = itm q s)
include it

theorem get_off {f : Fld} {i j : Nat} (h : (Item.reg f.reg 0 0).off l = true) : t.get f i j = s.get f i j := by
  have hrd : t.rd f.reg i j = s.rd f.reg i j := congrArg (·.1) (it (off_reg f.reg i j l ▸ h))
  rw [State.get, hrd]
  rfl

theorem on_off {f : Fld} {i j : Nat} (h : (Item.reg f.reg 0 0).off l = true) : t.on f i j = s.on f i j := by
  rw [State.on, get_off it h]
  rfl

theorem host_off (h : (Item.part .host).off l = true) : t.host = s.host := host_of_itm (it h)

theorem chan_off (h : (Item.part .chan).off l = true) : t.chan = s.chan := chan_of_itm (it h)

end

/-! ### The end of a run -/

theorem disc_of_chan {s t : State} (h : t.chan = s.chan) (n : Nat) : t.disc n = s.disc n := by rw [State.disc, h]; rfl

theorem disc_modDisc (s : State) (n : Nat) (f : DiscX → DiscX) : (s.modDisc n f).disc n = f (s.disc n) := tabGet_tabMod_same _ _ _ _

theorem forEach_emit {α : Type} (s : State) (l : List α) (f : α → Output) :
    s.forEach l (fun t x => t.emit (f x)) = { s with out := (l.map f).reverse ++ s.out } := by
  induction l generalizing s with
  | nil => rfl
  | cons x l ih =>
    show (s.emit (f x)).forEach l _ = _
    rw [ih]
    simp [State.emit]

theorem exec_write_written {s : State} {fn : Fin 257} {tag f : Nat} {w : WbEntry} {r : RunX} (hw : s.wbOf fn tag = some w) (hp : w.phase = .writing)
    (hl : s.laneOf w.mn = some f) (hr : (s.lane f).run = some r) (hstop : s.runStopped w.mn r = false) (hdone : s.runDone w (s.turnRun w.mn r) = true) :
    exec (.write fn tag) s = fin (s.runWritten f w) := by
  show execWrite fn tag s = _
  simp [execWrite, hw, hp, hl, hr, hstop, hdone]

theorem firnStatus_has {f : Nat} (hf : f < 272) : Reg.has Fld.FIRN_STATUS_WRITE.reg f 0 = true := by
  have : Fld.FIRN_STATUS_WRITE.reg.count = 272 := by decide
  simp only [Reg.has, this]
  simpa using hf

/-- The state of runWritten before the frames go out: WRITE is clear, and the write buffer and the channel's discs are as before. -/
theorem runWritten_haf {s : State} {f : Nat} {w : WbEntry} (hf : f < 272) (hbd : isBd (s.get .MECH_DISC_MEDIA w.mn) = false) :
    ∃ t : State, t.on .FIRN_STATUS_WRITE f = false ∧ t.host = s.host ∧
      s.runWritten f w = ((t.forEach (unitsOf w) fun t u => t.emit (.discWrite w.mn u.1 u.2)).modWb w.id fun x => { x with phase := .committing }).modDisc w.mn
        fun d => { d with commits := d.commits ++ [commitOf w] } := by
  unfold State.runWritten
  extract_lets n s1 s2 s3 s4 s5
  refine ⟨s2, ?_, ?_, by simp only [n, hbd, Bool.false_eq_true, if_false, s5]⟩
  · calc
      s2.on .FIRN_STATUS_WRITE f = (s1.turnBurst n false (s.singleBeam n)).on .FIRN_STATUS_WRITE f := on_off (it_returnGrant _ _ _) (by decide)
      _ = s1.on .FIRN_STATUS_WRITE f := on_off (it_turnBurst _ _ _ _) (by decide)
      _ = (((s.set .FIRN_STATUS_WRITE f 0).modLane f _).modMech n _).on .FIRN_STATUS_WRITE f := on_off (it_searchAgain _ _) (by decide)
      _ = ((s.set .FIRN_STATUS_WRITE f 0).get .FIRN_STATUS_WRITE f == 1) := rfl
      _ = false := by rw [get_set_self (by decide) _ _ _ (firnStatus_has hf)]; rfl
  · calc
      s2.host = (s1.turnBurst n false (s.singleBeam n)).host := host_off (it_returnGrant _ _ _) (by decide)
      _ = s1.host := host_off (it_turnBurst _ _ _ _) (by decide)
      _ = (((s.set .FIRN_STATUS_WRITE f 0).modLane f _).modMech n _).host := host_off (it_searchAgain _ _) (by decide)
      _ = s.host := set_host _ _ _ _

theorem write_written {fn : Fin 257} {tag : Nat} {s : State} {w : WbEntry} {f : Nat} {r : RunX} (hw : s.wbOf fn tag = some w) (hp : w.phase = .writing)
    (hl : s.laneOf w.mn = some f) (hf : f < 272) (hr : (s.lane f).run = some r) (hstop : s.runStopped w.mn r = false)
    (hdone : s.runDone w (s.turnRun w.mn r) = true) (hbd : isBd (s.get .MECH_DISC_MEDIA w.mn) = false) : Completes (.write fn tag) s fun t =>
      t.on .FIRN_STATUS_WRITE f = false ∧ (∃ x ∈ t.host.wbuf, x.id = w.id ∧ x.phase = .committing) ∧ commitOf w ∈ (t.disc w.mn).commits ∧
      ∀ u ∈ unitsOf w, .discWrite w.mn u.1 u.2 ∈ t.out := by
  obtain ⟨t, hwrite, hhost, hrun⟩ := runWritten_haf hf hbd
  rw [forEach_emit] at hrun
  refine completes_fin ((exec_write_written hw hp hl hr hstop hdone).trans (congrArg fin hrun)) ⟨?_, ?_, ?_, fun u hu => ?_⟩
  · exact (on_off (it_noteEvents _) (by decide)).trans hwrite
  · rw [noteEvents_wbuf]
    have hmem : w ∈ t.host.wbuf := hhost ▸ wbOf_mem hw
    exact ⟨_, modWb_mem (s := { t with out := _ }) hmem _, rfl, rfl⟩
  · rw [noteEvents_disc, disc_modDisc]
    simp
  · rw [noteEvents_out]
    have : Output.discWrite w.mn u.1 u.2 ∈ (unitsOf w).map fun u => Output.discWrite w.mn u.1 u.2 := List.mem_map_of_mem hu
    exact List.mem_append_left _ (List.mem_reverse.mpr this)

end Sys2Proof.Proofs
end

section
/-! SUPPORT. COMMIT: the accepted WRITEs that it covers, and its end when there is none (R361). -/

namespace Sys2Proof.Proofs

open Sys2Proof.Machine Sys2Proof.Laws

/-- What every element keeps, the whole list keeps. -/
theorem forEach_keeps {α : Type} {P : State → Prop} (f : State → α → State) :
    ∀ (l : List α) (s : State), (∀ a ∈ l, ∀ t, P t → P (f t a)) → P s → P (s.forEach l f)
  | [], _, _, hs => hs
  | a :: l, s, h, hs => forEach_keeps f l (f s a) (fun b hb => h b (List.mem_cons_of_mem a hb)) (h a List.mem_cons_self s hs)

/-- What holds once an element has been taken, and what every element keeps, holds at the end. -/
theorem forEach_reaches {α : Type} {P Q : State → Prop} {f : State → α → State} {l : List α} {a : α} (ha : a ∈ l) {s : State} (hs : P s)
    (hP : ∀ b t, P t → P (f t b)) (hPQ : ∀ t, P t → Q (f t a)) (hQ : ∀ b t, Q t → Q (f t b)) : Q (s.forEach l f) := by
  obtain ⟨l₁, l₂, rfl⟩ := List.append_of_mem ha
  rw [State.forEach, List.foldl_append]
  exact forEach_keeps f l₂ _ (fun b _ => hQ b) (hPQ _ (forEach_keeps f l₁ s (fun b _ => hP b) hs))

/-- One COMMIT whose WRITEs are durable or lost completes. -/
def finishCommit (n : Nat) (t : State) (c : Ctx) : State :=
  let l := tabGet t.host.losses (c.fn * 4096 + n) {}
  let t1 := t.modHost fun h => { h with losses := tabDel h.losses (c.fn * 4096 + n) }
  if l.count = 0 then t1.complete c 0 16 c.count1 (t.disc n).gen else t1.complete c 0x0230 16 c.count1 (l.tags.headD 0)

/-- The COMMITs of mechanism n that complete now. -/
def doneCommits (s : State) (n : Nat) : List Ctx :=
  (s.cmdsOf n).filter fun c => c.d.opcode == 4 && c.phase == .running && c.covers.all fun w => !(s.host.wbuf.any fun x => x.id == w)

theorem finishCommits_eq (s : State) (n : Nat) : s.finishCommits n = s.forEach (doneCommits s n) (finishCommit n) := rfl

theorem doneCommits_mem {s : State} {n : Nat} {c : Ctx} (h : c ∈ doneCommits s n) :
    c ∈ s.host.cmds ∧ ∀ id ∈ c.covers, ∀ w ∈ s.host.wbuf, w.id ≠ id := by
  obtain ⟨hc, hp⟩ := List.mem_filter.mp h
  simp only [Bool.and_eq_true, List.all_eq_true, Bool.not_eq_true', List.any_eq_false, beq_iff_eq] at hp
  exact ⟨(List.mem_filter.mp hc).1, fun id hi w hw => hp.2 id hi w hw⟩

theorem mem_doneCommits {s : State} {n : Nat} {c : Ctx} (hc : c ∈ s.host.cmds) (hq : c.qpid ≠ 0) (hn : c.d.mn = n) (hop : c.d.opcode = 4)
    (hp : c.phase = .running) (hcov : c.covers = []) : c ∈ doneCommits s n := by
  refine List.mem_filter.mpr ⟨List.mem_filter.mpr ⟨hc, ?_⟩, ?_⟩
  · simp [hq, hn, hop, ioOpcode]
  · simp [hop, hp, hcov]

theorem finishCommit_later (n : Nat) (t : State) (c : Ctx) : Later t (finishCommit n t c) := by
  unfold finishCommit
  extract_lets l t1
  have h : Later t t1 := ⟨rfl, fun _ he => he, fun _ _ hn => hn⟩
  split
  · exact h.trans (later_complete _ _ _ _ _ _)
  · exact h.trans (later_complete _ _ _ _ _ _)

theorem ctx_finishCommit_other (n : Nat) (t : State) (c : Ctx) {fn tag : Nat} (hne : ¬ (c.fn = fn ∧ c.d.tag = tag)) :
    (finishCommit n t c).ctx fn tag = t.ctx fn tag := by
  unfold finishCommit
  extract_lets l t1
  have h : t1.ctx fn tag = t.ctx fn tag := rfl
  split
  · rw [ctx_complete_other _ _ _ _ _ _ hne, h]
  · rw [ctx_complete_other _ _ _ _ _ _ hne, h]

/-- No losses are recorded under key k, and the last append to the disc of mechanism n had generation g. -/
def Clean (k n g : Nat) (t : State) : Prop := (tabGet t.host.losses k {}).count = 0 ∧ (t.disc n).gen = g

theorem complete_losses (s : State) (c : Ctx) (st fl r0 r1 : Nat) : (s.complete c st fl r0 r1).host.losses = s.host.losses :=
  congrArg (·.2.2.2) (complete_work s c st fl r0 r1)

theorem complete_disc (s : State) (c : Ctx) (st fl r0 r1 n : Nat) : (s.complete c st fl r0 r1).disc n = s.disc n :=
  disc_of_chan (chan_off (it_complete _ _ _ _ _ _) (by decide)) n

theorem finishCommit_clean {k n g : Nat} (m : Nat) (t : State) (c : Ctx) (h : Clean k n g t) : Clean k n g (finishCommit m t c) := by
  obtain ⟨hl, hg⟩ := h
  unfold finishCommit
  extract_lets l t1
  have h1 : Clean k n g t1 := by
    refine ⟨?_, hg⟩
    show (tabGet (tabDel t.host.losses (c.fn * 4096 + m)) k {}).count = 0
    by_cases hk : c.fn * 4096 + m = k
    · rw [hk, tabGet_tabDel_same]
    · rw [tabGet_tabDel_ne _ hk, hl]
  split
  · exact ⟨by rw [complete_losses]; exact h1.1, by rw [complete_disc]; exact h1.2⟩
  · exact ⟨by rw [complete_losses]; exact h1.1, by rw [complete_disc]; exact h1.2⟩

theorem finishCommit_answers {n g : Nat} {t : State} {c : Ctx} (h : Clean (c.fn * 4096 + n) n g t) :
    Answered c.fn c.d.tag 0 c.count1 g (finishCommit n t c) := by
  obtain ⟨hl, rfl⟩ := h
  simp only [finishCommit, hl, if_true]
  exact answered_complete _ _ _ _ _ _

/-- A COMMIT that covers a WRITE still in the write buffer stays. -/
theorem finishCommits_stays {s : State} {n fn tag : Nat} (h : ∀ c ∈ s.host.cmds, c.fn = fn → c.d.tag = tag → ∃ id ∈ c.covers, ∃ w ∈ s.host.wbuf, w.id = id) :
    (s.finishCommits n).ctx fn tag = s.ctx fn tag := by
  rw [finishCommits_eq]
  refine forEach_keeps (P := fun t => t.ctx fn tag = s.ctx fn tag) _ _ _ (fun c hc t ht => ?_) rfl
  obtain ⟨hmem, hno⟩ := doneCommits_mem hc
  refine (ctx_finishCommit_other n t c fun ⟨hf, htag⟩ => ?_).trans ht
  obtain ⟨id, hi, w, hw, he⟩ := h c hmem hf htag
  exact hno id hi w hw he

/-- A COMMIT among those that complete is answered. -/
theorem finishCommits_answers {s : State} {n g : Nat} {c : Ctx} (hc : c ∈ doneCommits s n) (h : Clean (c.fn * 4096 + n) n g s) :
    Answered c.fn c.d.tag 0 c.count1 g (s.finishCommits n) := by
  rw [finishCommits_eq]
  exact forEach_reaches hc h (fun b t => finishCommit_clean n t b) (fun t => finishCommit_answers) fun b t ht => (finishCommit_later n t b).answered ht

/-- The WRITEs that a COMMIT of function fn on mechanism n covers. -/
def coverOf (s : State) (fn : FnIx) (c : Ctx) : List Nat :=
  (s.host.wbuf.filter fun w => w.mn == c.d.mn && decide (w.fn < 256) && w.phase != .fetching && (bitAt c.d.flags 0 == 1 || w.fn == fn.val)).map (·.id)

theorem coverOf_mem {s : State} {fn : FnIx} {c : Ctx} {id : Nat} (h : id ∈ coverOf s fn c) : ∃ w ∈ s.host.wbuf, w.id = id := by
  obtain ⟨w, hw, rfl⟩ := List.mem_map.mp h
  exact ⟨w, (List.mem_filter.mp hw).1, rfl⟩

/-- The COMMIT has started and knows what it covers. -/
def covered (s : State) (fn : FnIx) (tag : Nat) (c : Ctx) : State :=
  (s.modCtx fn tag fun x => { x with covers := coverOf s fn c }).startCtx c

theorem exec_commit (fn : FnIx) (tag : Nat) (s : State) : exec (.commit fn tag) s =
    s.runCmd fn tag 4 (fun _ _ => 0) fun t c => if c.started then t else (covered t fn tag c).finishCommits c.d.mn := rfl

theorem covered_ctx {s : State} {fn : FnIx} {tag : Nat} {c : Ctx} (h : s.ctx fn tag = some c) :
    (covered s fn tag c).ctx fn tag = some { c with covers := coverOf s fn c, started := true } := by
  obtain ⟨hfn, htag, -⟩ := ctx_spec h
  conv_lhs => rw [covered, State.startCtx, hfn, htag]
  have hcovers := ctx_modCtx h (f := fun x => { x with covers := coverOf s fn c }) fun _ => ⟨rfl, rfl⟩
  exact ctx_modCtx hcovers (f := fun x => { x with started := true }) fun _ => ⟨rfl, rfl⟩

/-- Every context under this FN and TAG covers the same WRITEs. -/
theorem covered_covers {s : State} {fn : FnIx} {tag : Nat} {c x : Ctx} (hx : x ∈ (covered s fn tag c).host.cmds) (hf : x.fn = fn) (ht : x.d.tag = tag) :
    x.covers = coverOf s fn c := by
  obtain ⟨y, hy, rfl⟩ := List.mem_map.mp hx
  obtain ⟨z, -, rfl⟩ := List.mem_map.mp hy
  by_cases hz : (z.fn == fn.val && z.d.tag == tag) = true
  · simp only [hz, if_true]
    split <;> rfl
  · simp only [hz] at hf ht
    refine absurd ?_ hz
    revert hf ht
    simp only [Bool.false_eq_true, if_false]
    split <;> simp +contextual

theorem commit_covers {fn : FnIx} {tag : Nat} {s : State} {c : Ctx} (hio : IoCmd s fn tag 4 c) (hst : c.started = false) :
    Completes (.commit fn tag) s fun t => (coverOf s fn c ≠ [] → ∃ x, t.ctx fn tag = some x ∧ x.covers = coverOf s fn c) ∧
      (coverOf s fn c = [] → (tabGet s.host.losses (fn.val * 4096 + c.d.mn) {}).count = 0 → Answered fn tag 0 c.count1 (s.disc c.d.mn).gen t) := by
  obtain ⟨b, l, hrun, hctx⟩ := runCmd_runs hio (fun _ _ => 0)
    (fun t c => if c.started then t else (covered t fn tag c).finishCommits c.d.mn) (fun _ => rfl) (fun _ h => absurd rfl h) fun _ h => by simp at h
  have hns : (running c).started = false := hst
  simp only [hns, Bool.false_eq_true, if_false] at hrun
  have hcov : coverOf (withCmds s b l) fn (running c) = coverOf s fn c := rfl
  have hc := covered_ctx hctx
  refine completes_fin ((exec_commit fn tag s).trans hrun) ⟨fun hne => ?_, fun hnone hl => ?_⟩
  · refine ⟨_, (ctx_noteEvents _ _ _).trans ((finishCommits_stays fun x hx hf ht => ?_).trans hc), hcov⟩
    obtain ⟨id, hid⟩ := List.exists_mem_of_ne_nil _ hne
    exact ⟨id, by rw [covered_covers hx hf ht, hcov]; exact hid, coverOf_mem hid⟩
  · obtain ⟨hfn, htag, hmem⟩ := ctx_spec hc
    have hdone := mem_doneCommits hmem hio.2.2.1 (n := c.d.mn) rfl hio.2.1 rfl (hcov.trans hnone)
    have := finishCommits_answers (g := (s.disc c.d.mn).gen) hdone ⟨by rw [hfn]; exact hl, rfl⟩
    rw [hfn, htag] at this
    exact (later_noteEvents _).answered this

end Sys2Proof.Proofs
end

section
/-! OBLIGATION O36. -/

namespace Sys2Proof.Proofs

open Sys2Proof.Machine Sys2Proof.Laws

/-- Settles O36, clause by clause: a new WRITE, its acceptance or its end, the end of its run, and COMMIT. -/
theorem dataWrites : Obligations.DataWrites :=
  ⟨fun _ _ _ _ hio hw hr => write_opens hio hw hr,
    fun _ _ data _ _ _ _ _ hc hw hp hbd hseal hall hlen hpool => writeAccepted_haf data hc hw hp hbd hseal hall hlen hpool,
    fun _ _ data _ _ _ hc hw hp => writeAccepted_ends data hc hw hp,
    fun _ _ _ _ _ _ hw hp hl hf hr hstop hdone hbd => write_written hw hp hl hf hr hstop hdone hbd,
    fun _ _ _ _ hio hst => commit_covers hio hst⟩

end Sys2Proof.Proofs
end

section
/-! SUPPORT. The registers and records of the Firn lanes: what each operation on a lane, and on the mechanism that it is bound to, writes and what it
leaves as it was (R209 to R213). -/

namespace Sys2Proof.Proofs

open Sys2Proof.Machine Sys2Proof.Laws

/-! ### Fields of an array -/

theorem addr_ne {r : Reg} {i i' : Nat} (hs : 0 < r.stride) (h : i ≠ i') : r.addr i 0 ≠ r.addr i' 0 := by
  intro he
  simp only [Reg.addr, Nat.zero_mul, Nat.add_zero, Nat.add_left_cancel_iff] at he
  exact h (Nat.eq_of_mul_eq_mul_right hs he)

section
variable {f g : Fld} (hr : g.reg = f.reg) (hs : 0 < f.reg.stride)
include hr hs

theorem get_set_otherIndex (s : State) {i i' : Nat} (v : Nat) (h : i ≠ i') : (s.set f i v).get g i' = s.get g i' := by
  rw [State.get, hr, State.set, State.set2, rd_wr_index _ _ _ _ _ _ _ (addr_ne hs h), ← hr]
  rfl

theorem get_set_otherField (hb : beside f g = true) (s : State) (i v i' : Nat) : (s.set f i v).get g i' = s.get g i' := by
  by_cases h : i = i'
  · subst h
    exact get_set_beside hr hb s i v
  · exact get_set_otherIndex hr hs s v h

end

/-- A dword of an array whose second index is another one. -/
theorem get_set2_otherSecond {f g : Fld} (hr : g.reg = f.reg) (hs : 0 < f.reg.stride2) (s : State) (i v : Nat) {j j' : Nat} (h : j ≠ j') :
    (s.set2 f i j v).get g i j' = s.get g i j' := by
  have ha : f.reg.addr i j ≠ f.reg.addr i j' := fun he => by
    simp only [Reg.addr, Nat.add_left_cancel_iff] at he
    exact h (Nat.eq_of_mul_eq_mul_right hs he)
  rw [State.get, hr, State.set2, rd_wr_index _ _ _ _ _ _ _ ha, ← hr]
  rfl

/-- A field of an array without an address in common. -/
theorem get_set2_disj {f g : Fld} (h : disj f.reg g.reg = true) (s : State) (i j v i' j' : Nat) : (s.set2 f i j v).get g i' j' = s.get g i' j' := by
  rw [State.get, State.set2, rd_wr_disj _ _ _ _ _ _ _ _ h]
  rfl

theorem get_set_disj {f g : Fld} (h : disj f.reg g.reg = true) (s : State) (i v i' j' : Nat) : (s.set f i v).get g i' j' = s.get g i' j' :=
  get_set2_disj h s i 0 v i' j'

theorem get_set0_disj {f g : Fld} (h : disj f.reg g.reg = true) (s : State) (v i' j' : Nat) : (s.set0 f v).get g i' j' = s.get g i' j' :=
  get_set2_disj h s 0 0 v i' j'

/-! ### Records -/

theorem lane_of_chan {s t : State} (h : t.chan = s.chan) (f : Nat) : t.lane f = s.lane f := by rw [State.lane, h]; rfl

@[simp] theorem lane_set (s : State) (x : Fld) (i v f : Nat) : (s.set x i v).lane f = s.lane f := lane_of_chan (set_chan _ _ _ _) f

@[simp] theorem lane_modLane_same (s : State) (f : Nat) (g : LaneX → LaneX) : (s.modLane f g).lane f = g (s.lane f) := tabGet_tabMod_same _ _ _ _

theorem lane_modLane_ne (s : State) {f f' : Nat} (h : f ≠ f') (g : LaneX → LaneX) : (s.modLane f g).lane f' = s.lane f' := tabGet_tabMod_ne _ h _ _ _

@[simp] theorem get_modLane (s : State) (f : Nat) (g : LaneX → LaneX) (x : Fld) (i j : Nat) : (s.modLane f g).get x i j = s.get x i j := rfl

/-! ### FIRN_STATUS -/

section
variable {x y : Fld} (hx : x.reg = .FIRN_STATUS)
include hx

theorem status_set_self (hb : Fld.fits x = true) (s : State) {f : Nat} (hf : f < 272) (v : Nat) : (s.set x f v).get x f = v % 2 ^ x.width :=
  get_set_self hb _ _ _ (hx ▸ firnStatus_has hf)

variable (hy : y.reg = .FIRN_STATUS)
include hy

theorem status_set_field (hb : beside x y = true) (s : State) (f v g : Nat) : (s.set x f v).get y g = s.get y g :=
  get_set_otherField (hy.trans hx.symm) (hx ▸ by decide) hb s f v g

theorem status_set_ne (s : State) {f g : Nat} (h : f ≠ g) (v : Nat) : (s.set x f v).get y g = s.get y g :=
  get_set_otherIndex (hy.trans hx.symm) (hx ▸ by decide) s v h

end

theorem freeLane_spec {s : State} {f : Nat} (h : s.freeLane = some f) : f < 272 ∧ s.get .FIRN_STATUS_LSTATE f = 0 :=
  ⟨List.mem_range.mp (List.mem_of_find?_eq_some h), by simpa using List.find?_some h⟩

/-! ### A lane becomes FREE -/

/-- Every beam of lane f is IDLE. -/
def idleBeams (s : State) (f : Nat) : State := s.forEach (List.range 4) fun t b => t.set2 .FIRN_BEAM_TSTATE f b 6

theorem it_idleBeams {q : Item} (s : State) (f : Nat) (h : q.off [.f .FIRN_BEAM_TSTATE] = true) : itm q (idleBeams s f) = itm q s :=
  it_forEach _ _ _ fun t _ => it_set2 t _ _ _ _ h

theorem freeLaneRegs_lstate (s : State) {f : Nat} (hf : f < 272) : (s.freeLaneRegs f).get .FIRN_STATUS_LSTATE f = 0 := by
  unfold State.freeLaneRegs
  rw [get_modLane]
  iterate 4 rw [status_set_field rfl rfl (by decide)]
  exact status_set_self rfl (by decide) _ hf 0

theorem freeLaneRegs_valid (s : State) {f : Nat} (hf : f < 272) : (s.freeLaneRegs f).get .FIRN_STATUS_VALID f = 0 := by
  unfold State.freeLaneRegs
  rw [get_modLane]
  iterate 3 rw [status_set_field rfl rfl (by decide)]
  exact status_set_self rfl (by decide) _ hf 0

theorem freeLaneRegs_ne (s : State) {x : Fld} (hx : x.reg = .FIRN_STATUS) {f g : Nat} (h : f ≠ g) : (s.freeLaneRegs f).get x g = s.get x g := by
  unfold State.freeLaneRegs
  rw [get_modLane]
  iterate 5 rw [status_set_ne rfl hx _ h]
  exact get_off (it_idleBeams s f) (hx ▸ by decide)

/-! ### The end of a run -/

theorem endWrite_lstate (s : State) (f g : Nat) : (s.endWrite f).get .FIRN_STATUS_LSTATE g = s.get .FIRN_STATUS_LSTATE g := by
  unfold State.endWrite
  split
  · extract_lets n s0 s1 back cut
    show s1.get .FIRN_STATUS_LSTATE g = _
    rw [get_off (it_returnGrant _ _ _) (by decide), get_off (it_turnBurst _ _ _ _) (by decide), get_off (it_searchAgain _ _) (by decide)]
    exact status_set_field rfl rfl (by decide) s f 0 g
  · rfl

end Sys2Proof.Proofs
end

section
/-! SUPPORT. Binding a lane to a mechanism and giving it back (R26, R37, R209 to R211). -/

namespace Sys2Proof.Proofs

open Sys2Proof.Machine Sys2Proof.Laws

/-! ### The beams of a lane that is bound -/

/-- What startBeams does with beam b of lane f, s the state in which it began. -/
def startBeam (s : State) (f n : Nat) (t : State) (b : Nat) : State :=
  let used := bitAt (s.beamSet n) b = 1
  let t1 := t.set2 .FIRN_BEAM_TSTATE f b (if used then 0 else 6)
  let t2 := (t1.set2 .FIRN_AGC_GAIN f b 4096).modBeam f b fun _ => { cfg := s.beamCfg, gainCode := s.gainCodes n, eNom := Config.eNomStart }
  if used then t2.setDelta f b (s.predictedDelta n) else t2

theorem startBeams_eq (s : State) (f n : Nat) : s.startBeams f n =
    ((s.modLane f fun x => { x with passing := none, rfSeq := none }).sendMgmt (portOf n) (dropOf n) 2 (Config.gainPayload (s.gainCodes n))).forEach
      (List.range 4) (startBeam s f n) := rfl

/-- The beam's TSTATE after startBeam is the one written first. -/
theorem startBeam_tstate (s : State) (f n : Nat) (t : State) (b b' : Nat) : (startBeam s f n t b).get .FIRN_BEAM_TSTATE f b' =
    (t.set2 .FIRN_BEAM_TSTATE f b (if bitAt (s.beamSet n) b = 1 then 0 else 6)).get .FIRN_BEAM_TSTATE f b' := by
  unfold startBeam
  extract_lets used t1 t2
  have h2 : t2.get .FIRN_BEAM_TSTATE f b' = t1.get .FIRN_BEAM_TSTATE f b' := get_set2_disj (by decide) _ _ _ _ _ _
  refine Eq.trans ?_ h2
  split
  · unfold State.setDelta
    by_cases h : b = b'
    · subst h
      exact get_set2_beside (f := .FIRN_BEAM_RATE) (g := .FIRN_BEAM_TSTATE) rfl (by decide) _ _ _ _
    · exact get_set2_otherSecond (f := .FIRN_BEAM_RATE) (g := .FIRN_BEAM_TSTATE) rfl (by decide) _ _ _ h
  · rfl

theorem firnBeam_has {f b : Nat} (hf : f < 272) (hb : b < 4) : Reg.has Fld.FIRN_BEAM_TSTATE.reg f b = true := by
  have h1 : Fld.FIRN_BEAM_TSTATE.reg.count = 272 := rfl
  have h2 : Fld.FIRN_BEAM_TSTATE.reg.count2 = 4 := rfl
  simp only [Reg.has, h1, h2]
  simp [hf, hb]

theorem startBeams_tstate (s : State) {f b : Nat} (n : Nat) (hf : f < 272) (hb : b < 4) :
    (s.startBeams f n).get .FIRN_BEAM_TSTATE f b = if bitAt (s.beamSet n) b = 1 then 0 else 6 := by
  have hself : ∀ t, (startBeam s f n t b).get .FIRN_BEAM_TSTATE f b = if bitAt (s.beamSet n) b = 1 then 0 else 6 := fun t => by
    rw [startBeam_tstate, get_set_same _ _ _ _ _ (firnBeam_has hf hb) (by decide)]
    split <;> rfl
  rw [startBeams_eq]
  refine forEach_reaches (P := fun _ => True) (Q := fun t => t.get .FIRN_BEAM_TSTATE f b = if bitAt (s.beamSet n) b = 1 then 0 else 6)
    (List.mem_range.mpr hb) trivial (fun _ _ _ => trivial) (fun t _ => hself t) fun b' t ht => ?_
  by_cases h : b' = b
  · exact h ▸ hself t
  · rw [startBeam_tstate, get_set2_otherSecond rfl (by decide) _ _ _ h, ht]

/-- The beams of a mechanism come of its bridge and its disc. -/
theorem beamSet_of_get {s t : State} {n : Nat} (hg : t.get .MECH_BRIDGE_GEN n = s.get .MECH_BRIDGE_GEN n)
    (hv : t.get .MECH_BRIDGE_LINK_VER n = s.get .MECH_BRIDGE_LINK_VER n) (hm : t.get .MECH_DISC_MEDIA n = s.get .MECH_DISC_MEDIA n) :
    t.beamSet n = s.beamSet n := by
  rw [State.beamSet, State.singleBeam, hg, hv, hm]
  rfl

/-! ### The lane of a mechanism -/

theorem laneOf_eq_some {s : State} {n f : Nat} : s.laneOf n = some f ↔ s.on .MECH_SERVO_LANE_VALID n = true ∧ s.get .MECH_SERVO_LANE n = f := by
  unfold State.laneOf
  split <;> simp_all

theorem laneOf_eq_none {s : State} {n : Nat} : s.laneOf n = none ↔ s.on .MECH_SERVO_LANE_VALID n = false := by
  unfold State.laneOf
  split <;> simp_all

theorem laneOf_off {s t : State} {l : List Spot} (it : ∀ {q : Item}, q.off l = true → itm q t = itm q s)
    (h : (Item.reg .MECH_SERVO 0 0).off l = true) (n : Nat) : t.laneOf n = s.laneOf n := by
  simp only [State.laneOf, on_off it (f := .MECH_SERVO_LANE_VALID) h, get_off it (f := .MECH_SERVO_LANE) h]

theorem mechServo_has {n : Nat} (hn : n < 4096) : Reg.has .MECH_SERVO n 0 = true := by
  have : Reg.MECH_SERVO.count = 4096 := by decide
  simp only [Reg.has, this]
  simpa using hn

theorem laneOf_bound (s : State) {n f : Nat} (hn : n < 4096) (hf : f < 272) :
    ((s.set .MECH_SERVO_LANE_VALID n 1).set .MECH_SERVO_LANE n f).laneOf n = some f := by
  refine laneOf_eq_some.mpr ⟨?_, ?_⟩
  · rw [State.on, get_set_beside (f := .MECH_SERVO_LANE) (g := .MECH_SERVO_LANE_VALID) rfl (by decide), get_set_self (by decide) _ _ _ (mechServo_has hn)]
    rfl
  · rw [get_set_self (by decide) _ _ _ (mechServo_has hn)]
    exact Nat.mod_eq_of_lt (hf.trans (by decide))

theorem laneOf_cleared (s : State) {n : Nat} (hn : n < 4096) : ((s.set .MECH_SERVO_LANE_VALID n 0).set .MECH_SERVO_LANE n 0).laneOf n = none := by
  refine laneOf_eq_none.mpr ?_
  rw [State.on, get_set_beside (f := .MECH_SERVO_LANE) (g := .MECH_SERVO_LANE_VALID) rfl (by decide), get_set_self (by decide) _ _ _ (mechServo_has hn)]
  rfl

/-! ### bindLane -/

/-- FIRN_STATUS of the lanes once lane f is bound to mechanism n. -/
def boundStatus (s : State) (f n : Nat) : State :=
  (((s.set .FIRN_STATUS_LSTATE f 1).set .FIRN_STATUS_VALID f 1).set .FIRN_STATUS_MN f n).set .FIRN_STATUS_BD f (b2n (isBd (s.get .MECH_DISC_MEDIA n)))

/-- MECH_SERVO of mechanism n once it has lane f. -/
def boundServo (s : State) (f n : Nat) : State := ((boundStatus s f n).set .MECH_SERVO_LANE_VALID n 1).set .MECH_SERVO_LANE n f

/-- The lane's record and its taps. -/
def boundTaps (s : State) (f n : Nat) (own : Bool) : State :=
  ((boundServo s f n).modLane f fun x => { x with own := own, migTo := none, migFrom := none, stopAt := none, bankNext := none }).loadTaps f n

theorem bindLane_eq (s : State) (f n : Nat) (own : Bool) : s.bindLane f n own =
    (((boundTaps s f n own).startBeams f n).modChan fun c => { c with laneWait := c.laneWait.erase n }).wantBurst n false (s.singleBeam n) := rfl

theorem bindLane_get {x : Fld} (s : State) (f n : Nat) (own : Bool) (i j : Nat) (h1 : (Item.reg x.reg 0 0).off foot_wantBurst = true)
    (h2 : (Item.reg x.reg 0 0).off foot_startBeams = true) (h3 : (Item.reg x.reg 0 0).off foot_loadTaps = true) :
    (s.bindLane f n own).get x i j = (boundServo s f n).get x i j := by
  rw [bindLane_eq, get_off (it_wantBurst _ _ _ _) h1]
  show ((boundTaps s f n own).startBeams f n).get x i j = _
  rw [get_off (it_startBeams _ _ _) h2, boundTaps, get_off (it_loadTaps _ _ _) h3, get_modLane]

theorem boundServo_status (s : State) {x : Fld} (hx : x.reg = .FIRN_STATUS) (f n i : Nat) : (boundServo s f n).get x i = (boundStatus s f n).get x i := by
  rw [boundServo, get_set_disj (hx ▸ by decide), get_set_disj (hx ▸ by decide)]

theorem bindLane_status (s : State) {x : Fld} (hx : x.reg = .FIRN_STATUS) (f n : Nat) (own : Bool) (i : Nat) :
    (s.bindLane f n own).get x i = (boundStatus s f n).get x i := by
  rw [bindLane_get s f n own i 0 (hx ▸ by decide) (hx ▸ by decide) (hx ▸ by decide), boundServo_status s hx]

theorem bindLane_lstate (s : State) {f : Nat} (n : Nat) (own : Bool) (hf : f < 272) : (s.bindLane f n own).get .FIRN_STATUS_LSTATE f = 1 := by
  rw [bindLane_status s rfl, boundStatus]
  iterate 3 rw [status_set_field rfl rfl (by decide)]
  exact status_set_self rfl (by decide) _ hf 1

theorem bindLane_valid (s : State) {f : Nat} (n : Nat) (own : Bool) (hf : f < 272) : (s.bindLane f n own).get .FIRN_STATUS_VALID f = 1 := by
  rw [bindLane_status s rfl, boundStatus]
  iterate 2 rw [status_set_field rfl rfl (by decide)]
  exact status_set_self rfl (by decide) _ hf 1

theorem bindLane_mn (s : State) {f n : Nat} (own : Bool) (hf : f < 272) (hn : n < 4096) : (s.bindLane f n own).get .FIRN_STATUS_MN f = n := by
  rw [bindLane_status s rfl, boundStatus, status_set_field rfl rfl (by decide), status_set_self rfl (by decide) _ hf]
  exact Nat.mod_eq_of_lt hn

theorem bindLane_laneOf (s : State) {f n : Nat} (own : Bool) (hf : f < 272) (hn : n < 4096) : (s.bindLane f n own).laneOf n = some f := by
  have h := laneOf_bound (boundStatus s f n) hn hf
  simp only [State.laneOf, State.on, bindLane_get (x := .MECH_SERVO_LANE_VALID) s f n own n 0 (by decide) (by decide) (by decide),
    bindLane_get (x := .MECH_SERVO_LANE) s f n own n 0 (by decide) (by decide) (by decide)]
  exact h

/-- A register beside those of the lane and of its mechanism's servo. -/
theorem boundTaps_get {x : Fld} (s : State) (f n : Nat) (own : Bool) (i : Nat) (h1 : (Item.reg x.reg 0 0).off foot_loadTaps = true)
    (h2 : disj .MECH_SERVO x.reg = true) (h3 : disj .FIRN_STATUS x.reg = true) :
    (boundTaps s f n own).get x i = s.get x i := by
  rw [boundTaps, get_off (it_loadTaps _ _ _) h1, get_modLane, boundServo, get_set_disj h2, get_set_disj h2, boundStatus]
  iterate 4 rw [get_set_disj h3]

theorem boundTaps_beamSet (s : State) (f n : Nat) (own : Bool) : (boundTaps s f n own).beamSet n = s.beamSet n :=
  beamSet_of_get (boundTaps_get s f n own n (by decide) (by decide) (by decide)) (boundTaps_get s f n own n (by decide) (by decide) (by decide))
    (boundTaps_get s f n own n (by decide) (by decide) (by decide))

theorem bindLane_tstate (s : State) {f b : Nat} (n : Nat) (own : Bool) (hf : f < 272) (hb : b < 4) :
    (s.bindLane f n own).get .FIRN_BEAM_TSTATE f b = if bitAt (s.beamSet n) b = 1 then 0 else 6 := by
  rw [bindLane_eq, get_off (it_wantBurst _ _ _ _) (by decide), ← boundTaps_beamSet s f n own]
  exact startBeams_tstate _ n hf hb

/-! ### TRACKING and STREAMING -/

theorem mechState_has {n : Nat} (hn : n < 4096) : Reg.has .MECH_STATE n 0 = true := by
  have : Reg.MECH_STATE.count = 4096 := by decide
  simp only [Reg.has, this]
  simpa using hn

theorem enterState_mst (s : State) {n st : Nat} (hn : n < 4096) (h : st = 6 ∨ st = 7) : (s.enterState n st).mst n = st := by
  have hset : ∀ t : State, ((t.set .MECH_STATE_STATE n st).noteSafeHold n).mst n = st := fun t => by
    rw [State.noteSafeHold, State.mst, get_set_beside (f := .MECH_STATE_SAFE_HOLD) (g := .MECH_STATE_STATE) rfl (by decide), get_set_self (by decide) _ _ _ (mechState_has hn)]
    rcases h with rfl | rfl <;> rfl
  have hrest : ¬ (isRest st = true ∨ st = 8 ∨ st = 9) := by rcases h with rfl | rfl <;> decide
  unfold State.enterState
  extract_lets sa s0 s1 s2
  have h2 : s2 = s1 := if_neg hrest
  rw [h2]
  split
  · exact hset s0
  · exact (get_off (f := .MECH_STATE_STATE) (it_chargeStanding _ _ _) (by decide)).trans (hset s0)

theorem stepState_mst (s : State) {n st : Nat} (hn : n < 4096) (h : st = 6 ∨ st = 7) : (s.stepState n st).mst n = st := by
  unfold State.stepState
  split
  · exact enterState_mst s hn h
  · exact (get_off (f := .MECH_STATE_STATE) (it_chg _ _) (by decide)).trans (enterState_mst s hn h)

/-! ### LANE_BIND -/

theorem askLane_binds {s : State} {n f : Nat} (own : Bool) (hl : s.laneOf n = none) (hfirst : s.chan.laneWait.headD n = n) (hal : s.laneAllowed = true)
    (hf : s.freeLane = some f) : s.askLane n own = if (s.bindLane f n own).mst n = 6 then (s.bindLane f n own).stepState n 7 else s.bindLane f n own := by
  simp only [State.askLane, hl, hfirst, beq_self_eq_true, hal, Bool.and_self, if_true, hf]

theorem askLane_waits {s : State} {n : Nat} (own : Bool) (hl : s.laneOf n = none) (hf : s.freeLane = none) : n ∈ (s.askLane n own).chan.laneWait := by
  simp only [State.askLane, hl, hf, ite_self]
  split
  next h => simpa using h
  next => exact List.mem_append_right _ (List.mem_singleton.mpr rfl)

/-- A mechanism on track that binds lane f is STREAMING, with the lane as bindLane leaves it. -/
theorem askLane_bound {s : State} {n f : Nat} (own : Bool) (hn : n < 4096) (hst : s.mst n = 6 ∨ s.mst n = 7) (hl : s.laneOf n = none)
    (hfirst : s.chan.laneWait.headD n = n) (hal : s.laneAllowed = true) (hf : s.freeLane = some f) :
    (s.askLane n own).laneOf n = some f ∧ (s.askLane n own).mst n = 7 ∧ (s.askLane n own).get .FIRN_STATUS_LSTATE f = 1 ∧
      (s.askLane n own).on .FIRN_STATUS_VALID f = true ∧ (s.askLane n own).get .FIRN_STATUS_MN f = n ∧
      ∀ b < 4, (s.askLane n own).get .FIRN_BEAM_TSTATE f b = if bitAt (s.beamSet n) b = 1 then 0 else 6 := by
  have hlt := (freeLane_spec hf).1
  have hm : (s.bindLane f n own).mst n = s.mst n := get_off (f := .MECH_STATE_STATE) (it_bindLane s f n own) (by decide)
  have hv : (s.bindLane f n own).on .FIRN_STATUS_VALID f = true := by rw [State.on, bindLane_valid s n own hlt]; rfl
  rw [askLane_binds own hl hfirst hal hf, hm]
  split
  next =>
    refine ⟨(laneOf_off (it_stepState _ _ _) (by decide) n).trans (bindLane_laneOf s own hlt hn), stepState_mst _ hn (.inr rfl),
      (get_off (it_stepState _ _ _) (by decide)).trans (bindLane_lstate s n own hlt), (on_off (it_stepState _ _ _) (by decide)).trans hv,
      (get_off (it_stepState _ _ _) (by decide)).trans (bindLane_mn s own hlt hn), fun b hb => ?_⟩
    exact (get_off (it_stepState _ _ _) (by decide)).trans (bindLane_tstate s n own hlt hb)
  next h6 =>
    exact ⟨bindLane_laneOf s own hlt hn, hm.trans (hst.resolve_left h6), bindLane_lstate s n own hlt, hv, bindLane_mn s own hlt hn,
      fun b hb => bindLane_tstate s n own hlt hb⟩

theorem laneBind_binds {mn : Mn} {own : Bool} {s : State} (hst : s.mst mn = 6 ∨ s.mst mn = 7) (hw : own = true ∨ s.laneWork mn = true)
    (hl : s.laneOf mn = none) : Completes (.laneBind mn own) s fun t =>
    (∀ f, s.chan.laneWait.headD mn = mn.val → s.laneAllowed = true → s.freeLane = some f → t.laneOf mn = some f ∧ t.mst mn = 7 ∧
      t.get .FIRN_STATUS_LSTATE f = 1 ∧ t.on .FIRN_STATUS_VALID f = true ∧ t.get .FIRN_STATUS_MN f = mn.val ∧
      ∀ b < 4, t.get .FIRN_BEAM_TSTATE f b = (if bitAt (s.beamSet mn) b = 1 then 0 else 6)) ∧
    (s.freeLane = none → mn.val ∈ t.chan.laneWait) := by
  have hexec : exec (.laneBind mn own) s = fin (s.askLane mn own) := by
    show execLaneBind mn own s = _
    exact if_pos ⟨hst, hw⟩
  refine completes_fin hexec ⟨fun f hfirst hal hf => ?_, fun hf => ?_⟩
  · obtain ⟨hlane, hmst, hls, hv, hmn, hb⟩ := askLane_bound own mn.isLt hst hl hfirst hal hf
    refine ⟨(laneOf_off (it_noteEvents _) (by decide) mn).trans hlane, (get_off (f := .MECH_STATE_STATE) (it_noteEvents _) (by decide)).trans hmst,
      (get_off (it_noteEvents _) (by decide)).trans hls, (on_off (it_noteEvents _) (by decide)).trans hv,
      (get_off (it_noteEvents _) (by decide)).trans hmn, fun b hb' => ?_⟩
    exact (get_off (it_noteEvents _) (by decide)).trans (hb b hb')
  · rw [chan_off (it_noteEvents _) (by decide)]
    exact askLane_waits own hl hf

/-! ### LANE_IDLE_RELEASE -/

/-- The registers of the lanes that mechanism n gives back, lane f and, in a migration, its target. -/
def releasedLanes (s : State) (n f : Nat) : State :=
  let s2 := (((s.endWrite f).storeTaps f n).dropAssembling f).freeLaneRegs f
  match (s.lane f).migTo with
  | none => s2
  | some g => (((s2.dropAssembling g).freeLaneRegs g).set0 .FIRN_LANE_STAT_RESULT 2).set0 .FIRN_LANE_STAT_BUSY 0

theorem releaseLane_eq {s : State} {n f : Nat} (h : s.laneOf n = some f) :
    s.releaseLane n true = (((releasedLanes s n f).set .MECH_SERVO_LANE_VALID n 0).set .MECH_SERVO_LANE n 0).dropBursts n := by
  unfold State.releaseLane releasedLanes
  cases hm : (s.lane f).migTo with
  | none => simp only [h, hm, if_true]
  | some g => simp only [h, hm, if_true]

/-- Lane f is FREE, whichever the target of its migration is. -/
theorem releasedLanes_free (s : State) (n : Nat) {f : Nat} (hf : f < 272) :
    (releasedLanes s n f).get .FIRN_STATUS_LSTATE f = 0 ∧ (releasedLanes s n f).get .FIRN_STATUS_VALID f = 0 := by
  unfold releasedLanes
  extract_lets s2
  have h2 : s2.get .FIRN_STATUS_LSTATE f = 0 ∧ s2.get .FIRN_STATUS_VALID f = 0 := ⟨freeLaneRegs_lstate _ hf, freeLaneRegs_valid _ hf⟩
  split
  · exact h2
  next g _ =>
    have hset : ∀ (t : State) (x : Fld), x.reg = .FIRN_STATUS → ((t.set0 .FIRN_LANE_STAT_RESULT 2).set0 .FIRN_LANE_STAT_BUSY 0).get x f = t.get x f :=
      fun t x hx => (get_set0_disj (hx ▸ by decide) _ _ _ _).trans (get_set0_disj (hx ▸ by decide) _ _ _ _)
    rw [hset _ _ rfl, hset _ _ rfl]
    by_cases h : g = f
    · subst h
      exact ⟨freeLaneRegs_lstate _ hf, freeLaneRegs_valid _ hf⟩
    · rw [freeLaneRegs_ne _ rfl h, freeLaneRegs_ne _ rfl h]
      exact h2

theorem releaseLane_frees {s : State} {n f : Nat} (hn : n < 4096) (hf : f < 272) (h : s.laneOf n = some f) :
    (s.releaseLane n true).laneOf n = none ∧ (s.releaseLane n true).get .FIRN_STATUS_LSTATE f = 0 ∧
      (s.releaseLane n true).get .FIRN_STATUS_VALID f = 0 := by
  obtain ⟨hls, hv⟩ := releasedLanes_free s n hf
  have hset : ∀ x : Fld, x.reg = .FIRN_STATUS → (s.releaseLane n true).get x f = (releasedLanes s n f).get x f := fun x hx => by
    rw [releaseLane_eq h, get_off (it_dropBursts _ _) (hx ▸ by decide), get_set_disj (hx ▸ by decide), get_set_disj (hx ▸ by decide)]
  refine ⟨?_, (hset _ rfl).trans hls, (hset _ rfl).trans hv⟩
  rw [releaseLane_eq h, laneOf_off (it_dropBursts _ _) (by decide)]
  exact laneOf_cleared _ hn

/-- A mechanism that gives its lane back has none, and is TRACKING if it was STREAMING. -/
theorem backToTracking_frees {s : State} {n f : Nat} (hn : n < 4096) (hf : f < 272) (h : s.laneOf n = some f) :
    (s.backToTracking n).laneOf n = none ∧ (s.backToTracking n).get .FIRN_STATUS_LSTATE f = 0 ∧ (s.backToTracking n).on .FIRN_STATUS_VALID f = false ∧
      (s.mst n = 7 → (s.backToTracking n).mst n = 6) := by
  obtain ⟨hlane, hls, hv⟩ := releaseLane_frees hn hf h
  have hv' : (s.releaseLane n true).on .FIRN_STATUS_VALID f = false := by rw [State.on, hv]; rfl
  have hm : (s.releaseLane n true).mst n = s.mst n := get_off (f := .MECH_STATE_STATE) (it_releaseLane s n true) (by decide)
  unfold State.backToTracking
  extract_lets s1
  rw [hm]
  split
  next =>
    exact ⟨(laneOf_off (it_stepState _ _ _) (by decide) n).trans hlane, (get_off (it_stepState _ _ _) (by decide)).trans hls,
      (on_off (it_stepState _ _ _) (by decide)).trans hv', fun _ => stepState_mst _ hn (.inl rfl)⟩
  next h7 => exact ⟨hlane, hls, hv', fun h => absurd h h7⟩

theorem laneIdleRelease_frees {mn : Mn} {s : State} {f : Nat} (hl : s.laneOf mn = some f) (hf : f < 272) (hheld : s.laneHeld mn = false)
    (hidle : (s.mx mn).ioEnd + s.get .FIRN_GCFG_IDLE_HOLD_US * 1000 ≤ s.now) : Completes (.laneIdleRelease mn) s fun t =>
    t.laneOf mn = none ∧ t.get .FIRN_STATUS_LSTATE f = 0 ∧ t.on .FIRN_STATUS_VALID f = false ∧ (s.mst mn = 7 → t.mst mn = 6) := by
  have hexec : exec (.laneIdleRelease mn) s = fin (s.backToTracking mn) := by
    show execLaneIdleRelease mn s = _
    exact if_pos ⟨by rw [hl]; rfl, by simp [hheld], hidle⟩
  obtain ⟨hlane, hls, hv, hm⟩ := backToTracking_frees mn.isLt hf hl
  exact completes_fin hexec ⟨(laneOf_off (it_noteEvents _) (by decide) mn).trans hlane, (get_off (it_noteEvents _) (by decide)).trans hls,
    (on_off (it_noteEvents _) (by decide)).trans hv, fun h => (get_off (f := .MECH_STATE_STATE) (it_noteEvents _) (by decide)).trans (hm h)⟩

end Sys2Proof.Proofs
end

section
/-! SUPPORT. The migration of a lane: its begin and its switch (R212). -/

namespace Sys2Proof.Proofs

open Sys2Proof.Machine Sys2Proof.Laws

/-! ### What startBeams does to other lanes -/

theorem lane_modBeam_ne (s : State) {f g : Nat} (h : g ≠ f) (b : Nat) (m : BeamX → BeamX) : (s.modBeam g b m).lane f = s.lane f := lane_modLane_ne s h _

theorem set2_chan_lane (s : State) (x : Fld) (i j v f : Nat) : (s.set2 x i j v).lane f = s.lane f := lane_of_chan (set2_chan _ _ _ _ _) f

theorem startBeam_lane_ne (s : State) {f g : Nat} (h : g ≠ f) (n : Nat) (t : State) (b : Nat) : (startBeam s g n t b).lane f = t.lane f := by
  unfold startBeam
  extract_lets used t1 t2
  have h2 : t2.lane f = t.lane f := by rw [lane_modBeam_ne _ h, set2_chan_lane, set2_chan_lane]
  split
  · rw [State.setDelta, set2_chan_lane, lane_modBeam_ne _ h, h2]
  · exact h2

theorem startBeams_lane_ne (s : State) {f g : Nat} (h : g ≠ f) (n : Nat) : (s.startBeams g n).lane f = s.lane f := by
  rw [startBeams_eq]
  refine forEach_keeps (P := fun t => t.lane f = s.lane f) _ _ _ (fun b _ t ht => (startBeam_lane_ne s h n t b).trans ht) ?_
  rw [lane_of_chan (chan_off (it_sendMgmt _ _ _ _ _) (by decide)), lane_modLane_ne _ h]

/-! ### The begin of a migration -/

/-- FIRN_STATUS and the records of both lanes when the migration from lane f to lane g has begun. -/
def migrating (s : State) (f g after : Nat) : State :=
  let n := s.get .FIRN_STATUS_MN f
  let s1 := (s.set .FIRN_STATUS_LSTATE f 2).modLane f fun x => { x with migTo := some g, after := after, migAt := s.clustersPast f }
  ((((s1.set .FIRN_STATUS_LSTATE g 2).set .FIRN_STATUS_VALID g 1).set .FIRN_STATUS_MN g n).set .FIRN_STATUS_BD g
    (s.get .FIRN_STATUS_BD f)).modLane g fun x => { x with migFrom := some f, own := (s.lane f).own, stopAt := none,
                                                           bank := (s.lane f).bank, levels := (s.lane f).levels, bankNext := none }

theorem startMigration_eq (s : State) (f g after : Nat) : s.startMigration f g after =
    ((migrating s f g after).loadTaps g (s.get .FIRN_STATUS_MN f)).startBeams g (s.get .FIRN_STATUS_MN f) := rfl

theorem startMigration_status (s : State) {x : Fld} (hx : x.reg = .FIRN_STATUS) (f g after i : Nat) :
    (s.startMigration f g after).get x i = (migrating s f g after).get x i := by
  rw [startMigration_eq, get_off (it_startBeams _ _ _) (hx ▸ by decide), get_off (it_loadTaps _ _ _) (hx ▸ by decide)]

theorem startMigration_source (s : State) {f g : Nat} (after : Nat) (hf : f < 272) (h : g ≠ f) : (s.startMigration f g after).get .FIRN_STATUS_LSTATE f = 2 := by
  rw [startMigration_status s rfl, migrating, get_modLane]
  iterate 4 rw [status_set_ne rfl rfl _ h]
  exact status_set_self rfl (by decide) s hf 2

theorem startMigration_target (s : State) (f : Nat) {g : Nat} (after : Nat) (hg : g < 272) : (s.startMigration f g after).get .FIRN_STATUS_LSTATE g = 2 := by
  rw [startMigration_status s rfl, migrating, get_modLane]
  iterate 3 rw [status_set_field rfl rfl (by decide)]
  exact status_set_self rfl (by decide) _ hg 2

theorem startMigration_mn (s : State) (f : Nat) {g : Nat} (after : Nat) (hg : g < 272) :
    (s.startMigration f g after).get .FIRN_STATUS_MN g = s.get .FIRN_STATUS_MN f := by
  rw [startMigration_status s rfl, migrating, get_modLane, status_set_field rfl rfl (by decide), status_set_self rfl (by decide) _ hg]
  exact Nat.mod_eq_of_lt (get_lt s .FIRN_STATUS_MN f 0)

theorem startMigration_migTo (s : State) {f g : Nat} (after : Nat) (h : g ≠ f) : ((s.startMigration f g after).lane f).migTo = some g := by
  rw [startMigration_eq, startBeams_lane_ne _ h, lane_of_chan (chan_off (it_loadTaps _ _ _) (by decide)), migrating, lane_modLane_ne _ h]
  iterate 4 rw [lane_set]
  rw [lane_modLane_same]

/-! ### LANE_MIGRATE -/

theorem laneStat_result (s : State) (lane : Nat) {res : Nat} (h : res < 8) : (s.laneStat lane res).get .FIRN_LANE_STAT_RESULT = res :=
  (get_set0_self (by decide) _ _ (by decide)).trans (Nat.mod_eq_of_lt h)

theorem freeLane_of_lstate {s t : State} (h : ∀ f, t.get .FIRN_STATUS_LSTATE f = s.get .FIRN_STATUS_LSTATE f) : t.freeLane = s.freeLane := by
  simp only [State.freeLane, h]

/-- FIRN_LANE_STAT while a migration of lane f to lane g runs. -/
def migrationStat (s : State) (f g : Nat) : State := ((s.laneStat f 0).set0 .FIRN_LANE_STAT_TO g).set0 .FIRN_LANE_STAT_BUSY 1

theorem migrationStat_get (s : State) {x : Fld} (h : disj .FIRN_LANE_STAT x.reg = true) (f g i : Nat) : (migrationStat s f g).get x i = s.get x i := by
  rw [migrationStat, State.laneStat]
  iterate 4 rw [get_set0_disj h]

theorem migrationStat_busy (s : State) (f g : Nat) : (migrationStat s f g).on .FIRN_LANE_STAT_BUSY = true := by
  rw [migrationStat, State.on, get_set0_self (by decide) _ _ (by decide)]
  rfl

theorem migrationStat_to (s : State) (f : Nat) {g : Nat} (hg : g < 272) : (migrationStat s f g).get .FIRN_LANE_STAT_TO = g := by
  rw [migrationStat, get_set0_beside (f := .FIRN_LANE_STAT_BUSY) (g := .FIRN_LANE_STAT_TO) rfl (by decide), get_set0_self (by decide) _ _ (by decide)]
  exact Nat.mod_eq_of_lt (hg.trans (by decide))

/-- LANE_MIGRATE in the state in which the device is awake. -/
def migrateAwake (s : State) (lane : Nat) : State :=
  if s.on .FIRN_LANE_STAT_BUSY then s.laneStat lane 3
  else if s.get .FIRN_STATUS_LSTATE lane ≠ 1 then s.laneStat lane 2
  else match s.freeLane with
    | none => s.laneStat lane 1
    | some g => (migrationStat s lane g).startMigration lane g 0

theorem exec_laneMigrate {lane : Fin 512} {s : State} (hc : s.closed = false) (hl : lane.val ≤ 271) :
    exec (.laneMigrate lane) s = fin (migrateAwake (s.dozeWake 2) lane) := by
  show execLaneMigrate lane s = _
  simp only [execLaneMigrate, regCmd, hc, Bool.false_eq_true, if_false, Nat.not_lt.mpr hl, migrateAwake]
  split
  · rfl
  · split
    · rfl
    · cases (s.dozeWake 2).freeLane <;> rfl

theorem migrateAwake_busy {s : State} (lane : Nat) (h : s.on .FIRN_LANE_STAT_BUSY = true) : (migrateAwake s lane).get .FIRN_LANE_STAT_RESULT = 3 := by
  rw [migrateAwake, if_pos h]
  exact laneStat_result s lane (by decide)

theorem migrateAwake_notBound {s : State} {lane : Nat} (h : s.on .FIRN_LANE_STAT_BUSY = false) (hl : s.get .FIRN_STATUS_LSTATE lane ≠ 1) :
    (migrateAwake s lane).get .FIRN_LANE_STAT_RESULT = 2 := by
  rw [migrateAwake, if_neg (by simp [h]), if_pos hl]
  exact laneStat_result s lane (by decide)

theorem migrateAwake_noTarget {s : State} {lane : Nat} (h : s.on .FIRN_LANE_STAT_BUSY = false) (hl : s.get .FIRN_STATUS_LSTATE lane = 1)
    (hf : s.freeLane = none) : (migrateAwake s lane).get .FIRN_LANE_STAT_RESULT = 1 := by
  rw [migrateAwake, if_neg (by simp [h]), if_neg (not_not.mpr hl), hf]
  exact laneStat_result s lane (by decide)

theorem migrateAwake_begins {s : State} {lane g : Nat} (h : s.on .FIRN_LANE_STAT_BUSY = false) (hl : s.get .FIRN_STATUS_LSTATE lane = 1)
    (hf : s.freeLane = some g) (hlane : lane ≤ 271) : (migrateAwake s lane).on .FIRN_LANE_STAT_BUSY = true ∧
      (migrateAwake s lane).get .FIRN_LANE_STAT_TO = g ∧ (migrateAwake s lane).get .FIRN_STATUS_LSTATE lane = 2 ∧
      (migrateAwake s lane).get .FIRN_STATUS_LSTATE g = 2 ∧ ((migrateAwake s lane).lane lane).migTo = some g ∧
      (migrateAwake s lane).get .FIRN_STATUS_MN g = s.get .FIRN_STATUS_MN lane := by
  obtain ⟨hg, hfree⟩ := freeLane_spec hf
  have hne : g ≠ lane := fun he => by rw [he, hl] at hfree; exact absurd hfree (by decide)
  have heq : migrateAwake s lane = (migrationStat s lane g).startMigration lane g 0 := by
    rw [migrateAwake, if_neg (by simp [h]), if_neg (not_not.mpr hl), hf]
  rw [heq]
  exact ⟨(on_off (it_startMigration _ _ _ _) (by decide)).trans (migrationStat_busy s lane g),
    (get_off (it_startMigration _ _ _ _) (by decide)).trans (migrationStat_to s lane hg), startMigration_source _ 0 (by omega) hne,
    startMigration_target _ lane 0 hg, startMigration_migTo _ 0 hne, (startMigration_mn _ lane 0 hg).trans (migrationStat_get s (by decide) lane g lane)⟩

theorem laneMigrate_migrates {lane : Fin 512} {s : State} (hc : s.closed = false) (hl : lane.val ≤ 271) : Completes (.laneMigrate lane) s fun t =>
    (s.on .FIRN_LANE_STAT_BUSY = true → t.get .FIRN_LANE_STAT_RESULT = 3) ∧
    (s.on .FIRN_LANE_STAT_BUSY = false → s.get .FIRN_STATUS_LSTATE lane ≠ 1 → t.get .FIRN_LANE_STAT_RESULT = 2) ∧
    (s.on .FIRN_LANE_STAT_BUSY = false → s.get .FIRN_STATUS_LSTATE lane = 1 → s.freeLane = none → t.get .FIRN_LANE_STAT_RESULT = 1) ∧
    (∀ g, s.on .FIRN_LANE_STAT_BUSY = false → s.get .FIRN_STATUS_LSTATE lane = 1 → s.freeLane = some g → t.on .FIRN_LANE_STAT_BUSY = true ∧
      t.get .FIRN_LANE_STAT_TO = g ∧ t.get .FIRN_STATUS_LSTATE lane = 2 ∧ t.get .FIRN_STATUS_LSTATE g = 2 ∧ (t.lane lane).migTo = some g ∧
      t.get .FIRN_STATUS_MN g = s.get .FIRN_STATUS_MN lane) := by
  have hb : (s.dozeWake 2).on .FIRN_LANE_STAT_BUSY = s.on .FIRN_LANE_STAT_BUSY := on_off (it_dozeWake s 2) (by decide)
  have hs : ∀ f, (s.dozeWake 2).get .FIRN_STATUS_LSTATE f = s.get .FIRN_STATUS_LSTATE f := fun f => get_off (it_dozeWake s 2) (by decide)
  have hm : (s.dozeWake 2).get .FIRN_STATUS_MN lane = s.get .FIRN_STATUS_MN lane := get_off (it_dozeWake s 2) (by decide)
  have hres : (migrateAwake (s.dozeWake 2) lane).noteEvents.get .FIRN_LANE_STAT_RESULT = (migrateAwake (s.dozeWake 2) lane).get .FIRN_LANE_STAT_RESULT :=
    get_off (it_noteEvents _) (by decide)
  rw [← hb, ← hs, ← freeLane_of_lstate hs, ← hm]
  refine completes_fin (exec_laneMigrate hc hl) ⟨fun h => hres.trans (migrateAwake_busy _ h), fun h h1 => hres.trans (migrateAwake_notBound h h1),
    fun h h1 hf => hres.trans (migrateAwake_noTarget h h1 hf), fun g h h1 hf => ?_⟩
  obtain ⟨hbusy, hto, hsrc, hdst, hmig, hmn⟩ := migrateAwake_begins h h1 hf hl
  refine ⟨(on_off (it_noteEvents _) (by decide)).trans hbusy, (get_off (it_noteEvents _) (by decide)).trans hto,
    (get_off (it_noteEvents _) (by decide)).trans hsrc, (get_off (it_noteEvents _) (by decide)).trans hdst, ?_,
    (get_off (it_noteEvents _) (by decide)).trans hmn⟩
  rw [lane_of_chan (chan_off (it_noteEvents _) (by decide)), hmig]

/-! ### The lane that is left -/

theorem testLane_lstate (s : State) {f : Nat} (op : Nat) (hf : f < 272) : (s.testLane f op).get .FIRN_STATUS_LSTATE f = 3 := by
  rw [State.testLane, get_off (it_requestTest _ _ _) (by decide), get_modLane]
  exact status_set_self rfl (by decide) s hf 3

theorem testLane_lstate_ne (s : State) {f g : Nat} (op : Nat) (h : f ≠ g) : (s.testLane f op).get .FIRN_STATUS_LSTATE g = s.get .FIRN_STATUS_LSTATE g := by
  rw [State.testLane, get_off (it_requestTest _ _ _) (by decide), get_modLane]
  exact status_set_ne rfl rfl s h 3

theorem leftLane_lstate (s : State) {f : Nat} (hf : f < 272) : (s.leftLane f).get .FIRN_STATUS_LSTATE f =
    if (s.lane f).after = 3 then 3 else if (s.lane f).after = 4 then 4 else 0 := by
  unfold State.leftLane
  extract_lets after s1
  show State.get _ _ _ = if after = 3 then 3 else if after = 4 then 4 else 0
  split
  · exact testLane_lstate _ 4 hf
  · split
    · exact status_set_self rfl (by decide) _ hf 4
    · exact freeLaneRegs_lstate s hf

theorem leftLane_lstate_ne (s : State) {f g : Nat} (h : f ≠ g) : (s.leftLane f).get .FIRN_STATUS_LSTATE g = s.get .FIRN_STATUS_LSTATE g := by
  unfold State.leftLane
  extract_lets after s1
  have h1 : s1.get .FIRN_STATUS_LSTATE g = s.get .FIRN_STATUS_LSTATE g := freeLaneRegs_ne s rfl h
  split
  · exact (testLane_lstate_ne _ 4 h).trans h1
  · split
    · exact (status_set_ne rfl rfl _ h 4).trans h1
    · exact h1

/-! ### The switch -/

/-- The target serves: its FIRN_STATUS and its record, with those of the source that it goes on with. -/
def targetServes (s : State) (f g : Nat) (store : Bool) : State :=
  let s0 := if store then s.storeTaps f (s.get .FIRN_STATUS_MN f) else s
  ((s0.set .FIRN_STATUS_LSTATE g 1).set .FIRN_STATUS_WRITE g (s.get .FIRN_STATUS_WRITE f)).modLane g fun x =>
    { x with migFrom := none, passing := (s.lane f).passing, run := (s.lane f).run }

/-- Its beams write when the source wrote. -/
def targetBeams (s : State) (f g : Nat) (store : Bool) : State :=
  if s.get .FIRN_STATUS_WRITE f = 1 then
    (targetServes s f g store).forEach (List.range 4) fun t b => if t.get .FIRN_BEAM_TSTATE g b = 6 then t else t.set2 .FIRN_BEAM_TSTATE g b 7
  else targetServes s f g store

/-- The mechanism's LANE, and the event and the count of the target. -/
def targetCounts (s : State) (f g : Nat) (store : Bool) : State :=
  (((targetBeams s f g store).set .MECH_SERVO_LANE (s.get .FIRN_STATUS_MN f) g).raise .FIRN_EVENT_MIGRATED g).bump .FIRN_CNT_MIGRATIONS g

theorem switchMigration_eq (s : State) (f g : Nat) (store : Bool) : s.switchMigration f g store =
    ((((targetCounts s f g store).leftLane f).raise .FIRN_EVENT_MIGRATED f).bump .FIRN_CNT_MIGRATIONS f).laneCmdDone f 0 := rfl

theorem it_targetBeams {q : Item} (s : State) (f g : Nat) (store : Bool) (h : q.off [.f .FIRN_BEAM_TSTATE] = true) :
    itm q (targetBeams s f g store) = itm q (targetServes s f g store) := by
  unfold targetBeams
  split
  · refine it_forEach _ _ _ fun t b => ?_
    split
    · rfl
    · exact it_set2 t _ _ _ _ h
  · rfl

theorem targetServes_lstate (s : State) (f : Nat) {g : Nat} (store : Bool) (hg : g < 272) : (targetServes s f g store).get .FIRN_STATUS_LSTATE g = 1 := by
  rw [targetServes, get_modLane, status_set_field rfl rfl (by decide)]
  exact status_set_self rfl (by decide) _ hg 1

theorem targetServes_lane (s : State) {f g : Nat} (store : Bool) (h : g ≠ f) : (targetServes s f g store).lane f = s.lane f := by
  rw [targetServes, lane_modLane_ne _ h, lane_set, lane_set]
  split <;> rfl

theorem targetCounts_lstate (s : State) (f : Nat) {g : Nat} (store : Bool) (hg : g < 272) : (targetCounts s f g store).get .FIRN_STATUS_LSTATE g = 1 := by
  rw [targetCounts, get_off (it_bump _ _ _) (by decide), get_off (it_raise _ _ _) (by decide), get_set_disj (by decide),
    get_off (it_targetBeams _ _ _ _) (by decide)]
  exact targetServes_lstate s f store hg

theorem targetCounts_lane (s : State) {f g : Nat} (store : Bool) (h : g ≠ f) : (targetCounts s f g store).lane f = s.lane f := by
  rw [targetCounts, lane_of_chan (bump_chan _ _ _), lane_of_chan (raise_chan _ _ _), lane_set, lane_of_chan (chan_off (it_targetBeams _ _ _ _) (by decide))]
  exact targetServes_lane s store h

theorem targetCounts_servo (s : State) (f : Nat) {g : Nat} (store : Bool) (hg : g < 272) :
    (targetCounts s f g store).get .MECH_SERVO_LANE (s.get .FIRN_STATUS_MN f) = g := by
  rw [targetCounts, get_off (it_bump _ _ _) (by decide), get_off (it_raise _ _ _) (by decide),
    get_set_self (by decide) _ _ _ (mechServo_has (get_lt s .FIRN_STATUS_MN f 0))]
  exact Nat.mod_eq_of_lt (hg.trans (by decide))

theorem firnEvent_has {f : Nat} (hf : f < 272) : Reg.has .FIRN_EVENT f 0 = true := by
  have : Reg.FIRN_EVENT.count = 272 := rfl
  simp only [Reg.has, this]
  simpa using hf

theorem targetCounts_migrated (s : State) (f : Nat) {g : Nat} (store : Bool) (hg : g < 272) : (targetCounts s f g store).get .FIRN_EVENT_MIGRATED g = 1 := by
  rw [targetCounts, get_off (it_bump _ _ _) (by decide)]
  exact get_raise_self (by decide) _ _ (firnEvent_has hg) (by decide)

/-- The registers but for the source's event and count, and for FIRN_LANE_STAT, once it has left. -/
theorem switchMigration_get (s : State) {x : Fld} (f g : Nat) (store : Bool) (i : Nat) (h1 : (Item.reg x.reg 0 0).off foot_laneCmdDone = true)
    (h2 : disj .FIRN_CNT x.reg = true) (h3 : disj .FIRN_EVENT x.reg = true) :
    (s.switchMigration f g store).get x i = ((targetCounts s f g store).leftLane f).get x i := by
  rw [switchMigration_eq, get_off (it_laneCmdDone _ _ _) h1]
  exact (get_set_disj h2 _ _ _ _ _).trans (get_set_disj h3 _ _ _ _ _)

theorem switchMigration_migrated (s : State) {f g : Nat} (store : Bool) (hg : g < 272) (h : g ≠ f) :
    (s.switchMigration f g store).on .FIRN_EVENT_MIGRATED g = true := by
  have hcount := targetCounts_migrated s f store hg
  rw [switchMigration_eq, State.on, get_off (it_laneCmdDone _ _ _) (by decide), get_off (it_bump _ _ _) (by decide), State.raise,
    get_set_otherIndex (f := .FIRN_EVENT_MIGRATED) rfl (by decide) _ _ h.symm, get_off (it_leftLane _ _) (by decide), hcount]
  rfl

theorem migrationSwitch_switches {f : LaneIx} {s : State} {g : Nat} (hm : (s.lane f).migTo = some g) (hg : g < 272) (h : g ≠ f.val)
    (hr : s.migrationReady f g = true) : Completes (.migrationSwitch f) s fun t =>
    t.get .FIRN_STATUS_LSTATE g = 1 ∧ t.get .MECH_SERVO_LANE (s.get .FIRN_STATUS_MN f) = g ∧ t.on .FIRN_EVENT_MIGRATED g = true ∧
    t.get .FIRN_STATUS_LSTATE f = (if (s.lane f).after = 3 then 3 else if (s.lane f).after = 4 then 4 else 0) := by
  have hexec : exec (.migrationSwitch f) s = fin (s.switchMigration f g true) := by
    show execMigrationSwitch f s = _
    rw [execMigrationSwitch, hm]
    exact if_pos hr
  refine completes_fin hexec ⟨?_, ?_, (on_off (it_noteEvents _) (by decide)).trans (switchMigration_migrated s true hg h), ?_⟩
  · rw [get_off (it_noteEvents _) (by decide), switchMigration_get s f g true g (by decide) (by decide) (by decide), leftLane_lstate_ne _ h.symm]
    exact targetCounts_lstate s f true hg
  · rw [get_off (it_noteEvents _) (by decide), switchMigration_get s f g true _ (by decide) (by decide) (by decide), get_off (it_leftLane _ _) (by decide)]
    exact targetCounts_servo s f true hg
  · rw [get_off (it_noteEvents _) (by decide), switchMigration_get s f g true f (by decide) (by decide) (by decide), leftLane_lstate _ f.isLt,
      targetCounts_lane s true h]

end Sys2Proof.Proofs
end

section
/-! SUPPORT. The fault of a lane: the lane goes under test, and its mechanism to another lane (R213). -/

namespace Sys2Proof.Proofs

open Sys2Proof.Machine Sys2Proof.Laws

/-! ### Operations that leave the fault event and the fault count of every lane -/

/-- The FAULT event and the fault count of every lane are in t as in s. -/
def FaultKept (s t : State) : Prop := ∀ f, t.on .FIRN_EVENT_FAULT f = s.on .FIRN_EVENT_FAULT f ∧ (t.lane f).faults = (s.lane f).faults

theorem FaultKept.refl (s : State) : FaultKept s s := fun _ => ⟨rfl, rfl⟩

section
variable {s t : State}

theorem faultKept_off {u : State} {l : List Spot} (it : ∀ {q : Item}, q.off l = true → itm q u = itm q t)
    (h1 : (Item.reg .FIRN_EVENT 0 0).off l = true) (h2 : (Item.part .chan).off l = true) (h : FaultKept s t) : FaultKept s u := fun f =>
  ⟨(on_off it (f := .FIRN_EVENT_FAULT) h1).trans (h f).1, (congrArg (·.faults) (lane_of_chan (chan_off it h2) f)).trans (h f).2⟩

theorem faultKept_set2 {x : Fld} {i j v : Nat} (hd : disj x.reg .FIRN_EVENT = true) (h : FaultKept s t) : FaultKept s (t.set2 x i j v) := fun f => by
  obtain ⟨h1, h2⟩ := h f
  exact ⟨by rw [State.on, get_set2_disj hd]; exact h1, by rw [set2_chan_lane, h2]⟩

theorem faultKept_set {x : Fld} {i v : Nat} (hd : disj x.reg .FIRN_EVENT = true) (h : FaultKept s t) : FaultKept s (t.set x i v) := faultKept_set2 hd h

/-- Another event of a lane. -/
theorem faultKept_raise {x : Fld} {i : Nat} (hx : x.reg = .FIRN_EVENT) (hb : beside x .FIRN_EVENT_FAULT = true) (h : FaultKept s t) :
    FaultKept s (t.raise x i) := fun f => by
  obtain ⟨h1, h2⟩ := h f
  refine ⟨?_, by rw [State.raise, lane_set, h2]⟩
  rw [State.on, State.raise, get_set_otherField hx.symm (hx ▸ by decide) hb]
  exact h1

theorem faultKept_modLane {g : Nat} {m : LaneX → LaneX} (hm : ∀ x, (m x).faults = x.faults) (h : FaultKept s t) : FaultKept s (t.modLane g m) := fun f => by
  refine ⟨(h f).1, Eq.trans ?_ (h f).2⟩
  by_cases hg : g = f
  · rw [hg, lane_modLane_same, hm]
  · rw [lane_modLane_ne t hg]

theorem faultKept_modBeam {g b : Nat} {m : BeamX → BeamX} (h : FaultKept s t) : FaultKept s (t.modBeam g b m) := by
  unfold State.modBeam
  exact faultKept_modLane (fun _ => rfl) h

theorem faultKept_modChan {m : ChannelState → ChannelState} (hm : ∀ c, (m c).lanes = c.lanes) (h : FaultKept s t) : FaultKept s (t.modChan m) := fun f => by
  refine ⟨(h f).1, Eq.trans ?_ (h f).2⟩
  rw [State.lane, show (t.modChan m).chan.lanes = t.chan.lanes from hm _]
  rfl

theorem faultKept_modHost {m : HostState → HostState} (h : FaultKept s t) : FaultKept s (t.modHost m) := h

theorem faultKept_forEach {α : Type} {l : List α} {m : State → α → State} (hm : ∀ t a, FaultKept s t → FaultKept s (m t a)) (h : FaultKept s t) :
    FaultKept s (t.forEach l m) := forEach_keeps (P := FaultKept s) m l t (fun a _ t => hm t a) h

/-! ### The operations on lanes -/

theorem faultKept_setDelta {f b : Nat} {d : Int} (h : FaultKept s t) : FaultKept s (t.setDelta f b d) := by
  unfold State.setDelta
  exact faultKept_set2 (by decide) (faultKept_modBeam h)

theorem faultKept_startBeam {u : State} {f n b : Nat} (h : FaultKept s t) : FaultKept s (startBeam u f n t b) := by
  unfold startBeam
  extract_lets used t1 t2
  have h2 : FaultKept s t2 := faultKept_modBeam (faultKept_set2 (by decide) (faultKept_set2 (by decide) h))
  split
  · exact faultKept_setDelta h2
  · exact h2

theorem faultKept_startBeams {f n : Nat} (h : FaultKept s t) : FaultKept s (t.startBeams f n) := by
  rw [startBeams_eq]
  refine faultKept_forEach (fun _ _ => faultKept_startBeam) ?_
  refine faultKept_off (it_sendMgmt _ _ _ _ _) (by decide) (by decide) ?_
  exact faultKept_modLane (fun _ => rfl) h

theorem faultKept_enterSearch {f b : Nat} (h : FaultKept s t) : FaultKept s (t.enterSearch f b) := by
  unfold State.enterSearch
  extract_lets s1 s2
  have h1 : FaultKept s s1 := by
    simp only [s1]
    split
    · exact faultKept_raise rfl (by decide) h
    · exact h
  exact faultKept_setDelta (faultKept_modBeam (faultKept_set2 (by decide) h1))

theorem faultKept_searchAgain {f : Nat} (h : FaultKept s t) : FaultKept s (t.searchAgain f) := by
  unfold State.searchAgain
  refine faultKept_forEach (fun u b hu => ?_) h
  split
  · exact faultKept_enterSearch (faultKept_modBeam hu)
  · exact hu

theorem faultKept_endWrite {f : Nat} (h : FaultKept s t) : FaultKept s (t.endWrite f) := by
  unfold State.endWrite
  split
  · extract_lets n s0 s1 back cut
    have h0 : FaultKept s s0 := faultKept_modLane (fun _ => rfl) (faultKept_set (by decide) h)
    have h1 : FaultKept s s1 := faultKept_off (it_returnGrant _ _ _) (by decide) (by decide)
      (faultKept_off (it_turnBurst _ _ _ _) (by decide) (by decide) (faultKept_searchAgain h0))
    exact faultKept_modChan (fun _ => rfl) (faultKept_modHost h1)
  · exact h

theorem faultKept_dropAssembling {f : Nat} (h : FaultKept s t) : FaultKept s (t.dropAssembling f) := by
  unfold State.dropAssembling
  exact faultKept_modChan (fun _ => rfl) h

theorem faultKept_dropBegun {f : Nat} (h : FaultKept s t) : FaultKept s (t.dropBegun f) := by
  unfold State.dropBegun
  refine faultKept_dropAssembling (faultKept_forEach (fun u w hu => ?_) h)
  unfold State.verdict State.modRead
  exact faultKept_modChan (fun _ => rfl) hu

theorem faultKept_freeLaneRegs {f : Nat} (h : FaultKept s t) : FaultKept s (t.freeLaneRegs f) := by
  unfold State.freeLaneRegs
  refine faultKept_modLane (fun _ => rfl) ?_
  iterate 5 refine faultKept_set (by decide) ?_
  exact faultKept_forEach (fun _ _ => faultKept_set2 (by decide)) h

theorem faultKept_testLane {f op : Nat} (h : FaultKept s t) : FaultKept s (t.testLane f op) := by
  unfold State.testLane
  refine faultKept_off (it_requestTest _ _ _) (by decide) (by decide) ?_
  exact faultKept_modLane (fun _ => rfl) (faultKept_set (by decide) h)

theorem faultKept_leftLane {f : Nat} (h : FaultKept s t) : FaultKept s (t.leftLane f) := by
  unfold State.leftLane
  extract_lets after s1
  have h1 : FaultKept s s1 := faultKept_freeLaneRegs h
  split
  · exact faultKept_testLane h1
  · split
    · exact faultKept_set (by decide) h1
    · exact h1

theorem faultKept_laneCmdDone {f res : Nat} (h : FaultKept s t) : FaultKept s (t.laneCmdDone f res) :=
  faultKept_off (it_laneCmdDone t f res) (by decide) (by decide) h

theorem faultKept_targetServes {f g : Nat} {store : Bool} (h : FaultKept s t) : FaultKept s (targetServes t f g store) := by
  unfold targetServes
  extract_lets s0
  have h0 : FaultKept s s0 := by
    simp only [s0]
    split
    · exact faultKept_modChan (fun _ => rfl) h
    · exact h
  exact faultKept_modLane (fun _ => rfl) (faultKept_set (by decide) (faultKept_set (by decide) h0))

theorem faultKept_targetCounts {f g : Nat} {store : Bool} (h : FaultKept s t) : FaultKept s (targetCounts t f g store) := by
  unfold targetCounts
  refine faultKept_off (it_bump _ _ _) (by decide) (by decide) (faultKept_raise rfl (by decide) (faultKept_set (by decide) ?_))
  exact faultKept_off (it_targetBeams t f g store) (by decide) (by decide) (faultKept_targetServes h)

theorem faultKept_switchMigration {f g : Nat} {store : Bool} (h : FaultKept s t) : FaultKept s (t.switchMigration f g store) := by
  rw [switchMigration_eq]
  refine faultKept_laneCmdDone (faultKept_off (it_bump _ _ _) (by decide) (by decide) (faultKept_raise rfl (by decide) ?_))
  exact faultKept_leftLane (faultKept_targetCounts h)

theorem faultKept_dropTarget {f g : Nat} (h : FaultKept s t) : FaultKept s (t.dropTarget f g) := by
  unfold State.dropTarget
  exact faultKept_laneCmdDone (faultKept_dropAssembling (faultKept_modLane (fun _ => rfl) (faultKept_set (by decide) h)))

theorem faultKept_boundServo {f n : Nat} (h : FaultKept s t) : FaultKept s (boundServo t f n) := by
  unfold boundServo boundStatus
  iterate 6 refine faultKept_set (by decide) ?_
  exact h

theorem faultKept_bindLane {f n : Nat} {own : Bool} (h : FaultKept s t) : FaultKept s (t.bindLane f n own) := by
  rw [bindLane_eq]
  refine faultKept_off (it_wantBurst _ _ _ _) (by decide) (by decide) (faultKept_modChan (fun _ => rfl) (faultKept_startBeams ?_))
  unfold boundTaps
  exact faultKept_off (it_loadTaps _ _ _) (by decide) (by decide) (faultKept_modLane (fun _ => rfl) (faultKept_boundServo h))

end

/-! ### The mechanism of a faulted lane -/

/-- The faulted lane f, and the mechanism n that it served, before another lane is found. -/
def unbound (s : State) (f n : Nat) : State :=
  ((((s.endWrite f).dropBegun f).freeLaneRegs f).set .MECH_SERVO_LANE_VALID n 0).set .MECH_SERVO_LANE n 0

theorem rebindAfterFault_eq (s : State) (f n : Nat) : s.rebindAfterFault f n =
    match (List.range 272).find? fun g => g != f && (unbound s f n).get .FIRN_STATUS_LSTATE g == 0 with
    | some g => ((unbound s f n).bindLane g n (s.lane f).own, some g)
    | none => ((if (unbound s f n).mst n = 7 then (unbound s f n).enterState n 6 else unbound s f n).modChan fun c => { c with laneWait := c.laneWait ++ [n] }, none) :=
  rfl

theorem unbound_lstate_ne (s : State) {f g : Nat} (n : Nat) (h : f ≠ g) : (unbound s f n).get .FIRN_STATUS_LSTATE g = s.get .FIRN_STATUS_LSTATE g := by
  rw [unbound, get_set_disj (by decide), get_set_disj (by decide), freeLaneRegs_ne _ rfl h, get_off (it_dropBegun _ _) (by decide), endWrite_lstate]

/-- The lowest other lane that is FREE in s. -/
def otherFree (s : State) (f : Nat) : Option Nat := (List.range 272).find? fun g => g != f && s.get .FIRN_STATUS_LSTATE g == 0

theorem otherFree_spec {s : State} {f g : Nat} (h : otherFree s f = some g) : g < 272 ∧ g ≠ f := by
  have := List.find?_some h
  simp only [Bool.and_eq_true, bne_iff_ne] at this
  exact ⟨List.mem_range.mp (List.mem_of_find?_eq_some h), this.1⟩

/-- It is found by the LSTATE of the lanes but f. -/
theorem otherFree_of_lstate {s t : State} {f : Nat} (h : ∀ g, f ≠ g → t.get .FIRN_STATUS_LSTATE g = s.get .FIRN_STATUS_LSTATE g) :
    otherFree t f = otherFree s f := by
  unfold otherFree
  congr 1
  funext g
  by_cases hg : f = g
  · simp [hg]
  · rw [h g hg]

theorem rebind_found {s : State} {f g : Nat} (n : Nat) (h : otherFree s f = some g) :
    s.rebindAfterFault f n = ((unbound s f n).bindLane g n (s.lane f).own, some g) := by
  have hu : otherFree (unbound s f n) f = some g := (otherFree_of_lstate fun _ hg => unbound_lstate_ne s n hg).trans h
  rw [otherFree] at hu
  rw [rebindAfterFault_eq, hu]

theorem rebind_waits {s : State} {f : Nat} (n : Nat) (h : otherFree s f = none) : s.rebindAfterFault f n =
    ((if (unbound s f n).mst n = 7 then (unbound s f n).enterState n 6 else unbound s f n).modChan fun c => { c with laneWait := c.laneWait ++ [n] }, none) := by
  have hu : otherFree (unbound s f n) f = none := (otherFree_of_lstate fun _ hg => unbound_lstate_ne s n hg).trans h
  rw [otherFree] at hu
  rw [rebindAfterFault_eq, hu]

section
variable {s t : State}

theorem faultKept_unbound {f n : Nat} (h : FaultKept s t) : FaultKept s (unbound t f n) := by
  unfold unbound
  iterate 2 refine faultKept_set (by decide) ?_
  exact faultKept_freeLaneRegs (faultKept_dropBegun (faultKept_endWrite h))

theorem faultKept_rebind {f n : Nat} (h : FaultKept s t) : FaultKept s (t.rebindAfterFault f n).1 := by
  cases hf : otherFree t f with
  | some g =>
    rw [rebind_found n hf]
    exact faultKept_bindLane (faultKept_unbound h)
  | none =>
    rw [rebind_waits n hf]
    refine faultKept_modChan (fun _ => rfl) ?_
    split
    · exact faultKept_off (it_enterState _ _ _) (by decide) (by decide) (faultKept_unbound h)
    · exact faultKept_unbound h

end

/-! ### The fault -/

/-- The fault is counted. -/
def faultCounted (s : State) (f : Nat) : State :=
  ((s.raise .FIRN_EVENT_FAULT f).bump .FIRN_CNT_FAULTS f).modLane f fun x => { x with faults := x.faults + 1 }

/-- The state and the lane to which the mechanism of a faulted lane goes. -/
def afterFault (s : State) (f : Nat) : State × Option Nat :=
  let s1 := faultCounted s f
  let n := s1.get .FIRN_STATUS_MN f
  if s.get .FIRN_STATUS_LSTATE f = 0 then (s1, none)
  else match (s1.lane f).migFrom, (s1.lane f).migTo with
    | some g, _ => ((s1.dropTarget g f).freeLaneRegs f, some g)
    | none, some g =>
      let s2 := ((s1.endWrite f).dropBegun f).switchMigration f g false
      (if (List.range 4).any fun b => (s1.beam g b).framed then s2 else s2.startBeams g n, some g)
    | none, none => s1.rebindAfterFault f n

/-- Lane f goes under test, whatever became of its mechanism. -/
theorem laneFault_tests {s : State} {f : Nat} (detail : Nat) (h : s.get .FIRN_STATUS_LSTATE f ≤ 2) :
    ∃ a, s.laneFault f detail = ((afterFault s f).1.logEntry a).testLane f 0 := by
  unfold State.laneFault
  extract_lets st s1 x n r s2
  exact ⟨_, if_neg (Nat.not_lt.mpr h)⟩

theorem faultCounted_fault (s : State) {f : Nat} (hf : f < 272) : (faultCounted s f).on .FIRN_EVENT_FAULT f = true := by
  rw [faultCounted, State.on, get_modLane, get_off (it_bump _ _ _) (by decide), get_raise_self (by decide) _ _ (firnEvent_has hf) (by decide)]
  rfl

theorem faultCounted_lane (s : State) (f : Nat) : (faultCounted s f).lane f = { s.lane f with faults := (s.lane f).faults + 1 } := by
  rw [faultCounted, lane_modLane_same, lane_of_chan (bump_chan _ _ _), lane_of_chan (raise_chan _ _ _)]

theorem faultCounted_status (s : State) {x : Fld} (hx : x.reg = .FIRN_STATUS) (f g : Nat) : (faultCounted s f).get x g = s.get x g := by
  rw [faultCounted, get_modLane, get_off (it_bump _ _ _) (hx ▸ by decide), get_off (it_raise _ _ _) (hx ▸ by decide)]

theorem faultKept_afterFault (s : State) (f : Nat) : FaultKept (faultCounted s f) (afterFault s f).1 := by
  have h : FaultKept (faultCounted s f) (faultCounted s f) := FaultKept.refl _
  unfold afterFault
  extract_lets s1 n
  split
  · exact h
  · split
    · exact faultKept_freeLaneRegs (faultKept_dropTarget h)
    · have h2 := fun g => faultKept_switchMigration (f := f) (g := g) (store := false) (faultKept_dropBegun (f := f) (faultKept_endWrite (f := f) h))
      dsimp only
      split
      · exact h2 _
      · exact faultKept_startBeams (h2 _)
    · exact faultKept_rebind h

/-- The mechanism of a lane that served it alone is bound anew, or waits. -/
theorem afterFault_rebinds {s : State} {f : Nat} (h0 : s.get .FIRN_STATUS_LSTATE f ≠ 0) (hfrom : (s.lane f).migFrom = none) (hto : (s.lane f).migTo = none) :
    afterFault s f = (faultCounted s f).rebindAfterFault f (s.get .FIRN_STATUS_MN f) := by
  simp only [afterFault, if_neg h0, faultCounted_lane, hfrom, hto, faultCounted_status s (x := .FIRN_STATUS_MN) rfl]

theorem otherFree_faultCounted (s : State) (f : Nat) : otherFree (faultCounted s f) f = otherFree s f :=
  otherFree_of_lstate fun g _ => faultCounted_status s rfl f g

theorem rebind_binds {s : State} {f g n : Nat} (hn : n < 4096) (h : otherFree s f = some g) :
    (s.rebindAfterFault f n).1.laneOf n = some g ∧ (s.rebindAfterFault f n).1.get .FIRN_STATUS_LSTATE g = 1 := by
  have hg := (otherFree_spec h).1
  rw [rebind_found n h]
  exact ⟨bindLane_laneOf _ _ hg hn, bindLane_lstate _ n _ hg⟩

theorem rebind_queues {s : State} {f n : Nat} (hn : n < 4096) (h : otherFree s f = none) :
    (s.rebindAfterFault f n).1.laneOf n = none ∧ n ∈ (s.rebindAfterFault f n).1.chan.laneWait := by
  rw [rebind_waits n h]
  refine ⟨?_, List.mem_append_right _ (List.mem_singleton.mpr rfl)⟩
  show State.laneOf (if _ then _ else _) n = none
  split
  · exact (laneOf_off (it_enterState _ _ _) (by decide) n).trans (laneOf_cleared _ hn)
  · exact laneOf_cleared _ hn

theorem testLane_laneWait (s : State) (f op : Nat) : (s.testLane f op).chan.laneWait = s.chan.laneWait := by
  rw [State.testLane, chan_off (it_requestTest _ _ _) (by decide)]
  show (s.set .FIRN_STATUS_LSTATE f 3).chan.laneWait = _
  rw [set_chan]

/-- The log entry and the test of lane f leave its mechanism, the other lanes and the queue of those that wait. -/
theorem faultLogged_mechanism (s : State) (a : LogArgs) (f n : Nat) : ((s.logEntry a).testLane f 0).laneOf n = s.laneOf n ∧
    (∀ g, f ≠ g → ((s.logEntry a).testLane f 0).get .FIRN_STATUS_LSTATE g = s.get .FIRN_STATUS_LSTATE g) ∧
    ((s.logEntry a).testLane f 0).chan.laneWait = s.chan.laneWait := by
  refine ⟨?_, fun g h => ?_, ?_⟩
  · rw [laneOf_off (it_testLane _ _ _) (by decide), laneOf_off (it_logEntry _ _) (by decide)]
  · rw [testLane_lstate_ne _ 0 h, get_off (it_logEntry _ _) (by decide)]
  · rw [testLane_laneWait, chan_off (it_logEntry _ _) (by decide)]

theorem exec_laneFault {f : LaneIx} {cause : Fin 3} {s : State} (h : cause = 2 → (List.range 4).any (s.framingSilent f) = true) :
    exec (.laneFault f cause) s = fin (s.laneFault f (cause.val + 1)) := by
  show execLaneFault f cause s = _
  exact if_neg fun hc => hc.2 (h hc.1)

theorem laneFault_faults {f : LaneIx} {cause : Fin 3} {s : State} (h : s.get .FIRN_STATUS_LSTATE f ≤ 2)
    (hc : cause = 2 → (List.range 4).any (s.framingSilent f) = true) : Completes (.laneFault f cause) s fun t =>
    t.get .FIRN_STATUS_LSTATE f = 3 ∧ t.on .FIRN_EVENT_FAULT f = true ∧ (t.lane f).faults = (s.lane f).faults + 1 ∧
    (s.get .FIRN_STATUS_LSTATE f ≠ 0 → (s.lane f).migFrom = none → (s.lane f).migTo = none →
      (∀ g, otherFree s f = some g → t.laneOf (s.get .FIRN_STATUS_MN f) = some g ∧ t.get .FIRN_STATUS_LSTATE g = 1) ∧
      (otherFree s f = none → t.laneOf (s.get .FIRN_STATUS_MN f) = none ∧ s.get .FIRN_STATUS_MN f ∈ t.chan.laneWait)) := by
  obtain ⟨a, ha⟩ := laneFault_tests (cause.val + 1) h
  have hmn : s.get .FIRN_STATUS_MN f < 4096 := get_lt s .FIRN_STATUS_MN f 0
  have hkept : FaultKept (faultCounted s f) (((afterFault s f).1.logEntry a).testLane f 0).noteEvents :=
    faultKept_off (it_noteEvents _) (by decide) (by decide) (faultKept_testLane
      (faultKept_off (it_logEntry _ a) (by decide) (by decide) (faultKept_afterFault s f)))
  obtain ⟨hfault, hcount⟩ := hkept f
  obtain ⟨hlane, hls, hwait⟩ := faultLogged_mechanism (afterFault s f).1 a f (s.get .FIRN_STATUS_MN f)
  refine completes_fin ((exec_laneFault hc).trans (congrArg fin ha)) ⟨?_, hfault.trans (faultCounted_fault s f.isLt), ?_, fun h0 hfrom hto => ?_⟩
  · rw [get_off (it_noteEvents _) (by decide)]
    exact testLane_lstate _ 0 f.isLt
  · rw [hcount, faultCounted_lane]
  · rw [afterFault_rebinds h0 hfrom hto] at hlane hls hwait ⊢
    refine ⟨fun g hg => ?_, fun hno => ?_⟩
    · obtain ⟨h1, h2⟩ := rebind_binds hmn ((otherFree_faultCounted s f).trans hg)
      rw [laneOf_off (it_noteEvents _) (by decide), get_off (it_noteEvents _) (by decide), hlane, hls g (otherFree_spec hg).2.symm]
      exact ⟨h1, h2⟩
    · rw [laneOf_off (it_noteEvents _) (by decide), chan_off (it_noteEvents _) (by decide), hlane, hwait]
      exact rebind_queues hmn ((otherFree_faultCounted s f).trans hno)

end Sys2Proof.Proofs
end

section
/-! OBLIGATION O52. -/

namespace Sys2Proof.Proofs

open Sys2Proof.Machine Sys2Proof.Laws

/-- Settles O52, clause by clause: a lane bound, given back, migrated, taken over and faulted. -/
theorem laneBinding : Obligations.LaneBinding :=
  ⟨fun _ _ _ hst hw hl => laneBind_binds hst hw hl, fun _ _ _ hl hf hheld hidle => laneIdleRelease_frees hl hf hheld hidle,
    fun _ _ hc hl => laneMigrate_migrates hc hl, fun _ _ _ hm hg hne hr => migrationSwitch_switches hm hg hne hr,
    fun _ _ _ h hc => laneFault_faults h hc⟩

end Sys2Proof.Proofs
end

section
/-! OBLIGATION O38. What MECH_CFG does to an EJECT. A mechanism whose record still shows an idle spin-down gives that up when an EJECT comes (R45), and as it
comes to rest again the written MECH_CFG is in force (R55): the tray's SEEK is then asked of the new domain, where it may never fit (R310). The statement
asks only that the domain before that is unlimited, and says nothing of the spin-down. -/

namespace Sys2Proof.Proofs

open Sys2Proof.Machine

/-- An EJECT of mechanism 0. -/
def ejectCtx : Ctx := { fn := 0, qpid := 1, d := { opcode := 8, tag := 7, mn := 0 } }

/-- Mechanism 0 is LOADED in domain 0, which is unlimited; the MECH_CFG written to it names domain 1, which grants less than its SEEK, and its record shows an
idle spin-down whose stop has not been issued. -/
def ejectLoaded : State :=
  { activeWith [(.MECH_STATE_STATE, 0, 3), (.MECH_STATE_TARGET, 0, 2), (.MECH_CFG_DOMAIN, 0, 1), (.BRTH_DOM_BUDGET_MW, 0, 0xFFFFFFFF),
      (.BRTH_DOM_BUDGET_MW, 1, 1), (.BRTH_CLS_MOVE_SEEK_MW, 0, 2)] with
    mech := [(0, { cfgEff := autoSpinCfg, spinDown := true, clamped := true })], host := { cmds := [ejectCtx] } }

/-- The EJECT ends with 0x040B, and no transition is under way. -/
theorem eject_ejectLoaded : nextHas (exec (.eject 0 7) ejectLoaded) (fun t => completed 0 7 0x040B t && !t.on .MECH_STATE_BUSY 0) = true := by
  decide +kernel

/-- Refutes O38: the EJECT of a LOADED mechanism in an unlimited domain does not begin the tray move where a MECH_CFG that comes into force with it (R55)
moves the mechanism to a domain that its SEEK can never fit. -/
theorem not_stateCommands : ¬ Obligations.StateCommands := by
  intro ⟨_, _, _, ejects⟩
  obtain ⟨t, ht, -, begun⟩ := ejects 0 7 ejectLoaded ejectCtx (by decide +kernel) rfl (by decide) (by decide) (by decide +kernel) (by decide +kernel) rfl
  obtain ⟨(hbusy : t.on .MECH_STATE_BUSY 0 = true), -⟩ := begun (Or.inr (by decide +kernel)) (by decide +kernel) (by decide +kernel) (by decide +kernel)
  obtain ⟨-, hidle⟩ := Bool.and_eq_true_iff.mp (nextHas_next eject_ejectLoaded ht)
  simp [hbusy] at hidle

end Sys2Proof.Proofs
end

section
/-! SUPPORT. MECH_STATE and the hidden record of a mechanism: what the operations that begin, end and step its transitions leave there (R36 to R38, R53, R55). -/

namespace Sys2Proof.Proofs

open Sys2Proof.Machine Sys2Proof.Laws

/-! ### What an operation leaves off its footprint -/

section
variable {s t : State} {l : List Spot} (it : ∀ {q : Item}, q.off l = true → itm q t = itm q s)
include it

theorem rd_off {r : Reg} {i j : Nat} (h : (Item.reg r 0 0).off l = true) : t.rd r i j = s.rd r i j := congrArg (·.1) (it (off_reg r i j l ▸ h))

theorem mech_off (h : (Item.part .mech).off l = true) : t.mech = s.mech := congrArg (·.2.mech) (it h)

theorem breath_off (h : (Item.part .breath).off l = true) : t.breath = s.breath := congrArg (·.2.breath) (it h)

theorem port_off (h : (Item.part .port).off l = true) : t.port = s.port := congrArg (·.2.port) (it h)

theorem drop_off (h : (Item.part .drop).off l = true) : t.drop = s.drop := congrArg (·.2.drop) (it h)

theorem isol_off (h : (Item.part .isol).off l = true) : t.isol = s.isol := congrArg (·.2.isol) (it h)

theorem servo_off (h : (Item.part .servo).off l = true) : t.servo = s.servo := congrArg (·.2.servo) (it h)

theorem cirq_off (h : (Item.part .cirq).off l = true) : t.cirq = s.cirq := congrArg (·.2.cirq) (it h)

theorem time_off (h : (Item.part .time).off l = true) : t.time = s.time := congrArg (·.2.time) (it h)

theorem mx_off (h : (Item.part .mech).off l = true) (n : Nat) : t.mx n = s.mx n := by rw [State.mx, mech_off it h]; rfl

theorem px_off (h : (Item.part .port).off l = true) (p : Nat) : t.px p = s.px p := by rw [State.px, port_off it h]; rfl

theorem dx_off (h : (Item.part .drop).off l = true) (n : Nat) : t.dx n = s.dx n := by rw [State.dx, drop_off it h]; rfl

theorem sx_off (h : (Item.part .servo).off l = true) (n : Nat) : t.sx n = s.sx n := by rw [State.sx, servo_off it h]; rfl

theorem now_off (h : (Item.part .time).off l = true) : t.now = s.now := by rw [State.now, time_off it h]; rfl

end

/-! ### Fields of an array -/

/-- A field that is one bit wide reads 0 where it is not on. -/
theorem on_eq_false_of_get {s : State} {f : Fld} {i j : Nat} (h : s.get f i j = 0) : s.on f i j = false := by rw [State.on, h]; rfl

theorem on_eq_true_of_get {s : State} {f : Fld} {i j : Nat} (h : s.get f i j = 1) : s.on f i j = true := by rw [State.on, h]; rfl

theorem on_of_get {s t : State} {f : Fld} {i j : Nat} (h : t.get f i j = s.get f i j) : t.on f i j = s.on f i j := by rw [State.on, h]; rfl

theorem get_of_rd {s t : State} {f : Fld} {i j : Nat} (h : t.rd f.reg i j = s.rd f.reg i j) : t.get f i j = s.get f i j := by rw [State.get, h]; rfl

/-- `get_set_otherField`, its premises closed by `rfl`: which `simp (disch := with_unfolding_all exact id rfl)` finds. -/
theorem get_set_field {f g : Fld} (hr : g.reg = f.reg) (hs : decide (0 < f.reg.stride) = true) (hb : beside f g = true) (s : State) (i v i' : Nat) :
    (s.set f i v).get g i' = s.get g i' := get_set_otherField hr (of_decide_eq_true hs) hb s i v i'

/-- A mechanism's register exists for each of the 4096 mechanisms. -/
theorem mechReg_has {r : Reg} (hc : r.count = 4096) {n : Nat} (hn : n < 4096) : r.has n 0 = true := by
  simp only [Reg.has, hc, decide_eq_true_eq, Bool.and_eq_true]
  omega

/-! ### Hidden records -/

@[simp] theorem mx_set2 (s : State) (f : Fld) (i j v n : Nat) : (s.set2 f i j v).mx n = s.mx n := by rw [State.mx, set2_mech]; rfl
@[simp] theorem mx_set (s : State) (f : Fld) (i v n : Nat) : (s.set f i v).mx n = s.mx n := mx_set2 s f i 0 v n
@[simp] theorem mx_modMech_same (s : State) (n : Nat) (f : MechX → MechX) : (s.modMech n f).mx n = f (s.mx n) := tabGet_tabMod_same _ _ _ _
theorem mx_modMech_ne (s : State) {n k : Nat} (h : n ≠ k) (f : MechX → MechX) : (s.modMech n f).mx k = s.mx k := tabGet_tabMod_ne _ h _ _ _

@[simp] theorem sx_modServo_same (s : State) (n : Nat) (f : ServoX → ServoX) : (s.modServo n f).sx n = f (s.sx n) := tabGet_tabMod_same _ _ _ _
theorem sx_modServo_ne (s : State) {n k : Nat} (h : n ≠ k) (f : ServoX → ServoX) : (s.modServo n f).sx k = s.sx k := tabGet_tabMod_ne _ h _ _ _

/-- What a change of one record leaves in it, it leaves in every record. -/
theorem mx_modMech_eq {α : Type} {g : MechX → α} {f : MechX → MechX} (s : State) (n k : Nat) (h : ∀ m, g (f m) = g m := by intro _; rfl) :
    g ((s.modMech n f).mx k) = g (s.mx k) := by
  by_cases hk : n = k
  · rw [hk, mx_modMech_same, h]
  · rw [mx_modMech_ne s hk]

/-- A record but for what a transition, and the end of a command, write in it: the stream, the time spent servo-active, the configuration in force, the
command that drives it without a context, the disc's data held for a MOUNT and the idle times. -/
def lasting (m : MechX) : MechX :=
  { m with streamAt := 0, activeAt := none, activeNs := 0, cfgEff := 0, orphan := none, mountHeld := false, idleSince := 0, ioEnd := 0 }

theorem lasting_modMech {f : MechX → MechX} (s : State) (n k : Nat) (h : ∀ m, lasting (f m) = lasting m := by intro _; rfl) :
    lasting ((s.modMech n f).mx k) = lasting (s.mx k) := mx_modMech_eq (g := lasting) s n k h

theorem lasting_complete (s : State) (c : Ctx) (st fl r0 r1 k : Nat) : lasting ((s.complete c st fl r0 r1).mx k) = lasting (s.mx k) := by
  unfold State.complete
  extract_lets s1 busy s2 io s3
  have h2 : lasting (s2.mx k) = lasting (s.mx k) := by
    simp only [s2]
    split
    · exact lasting_modMech s1 _ k
    · rfl
  have h3 : lasting (s3.mx k) = lasting (s.mx k) := by
    simp only [s3]
    split
    · exact (lasting_modMech s2 _ k).trans h2
    · exact h2
  rw [mx_off (it_postCpl s3 _) (by decide), h3]

/-! ### Transitions -/

theorem get_set_of_regs {s t : State} (h : t.regs = s.regs) (f g : Fld) (i v k : Nat) : (t.set f i v).get g k = (s.set f i v).get g k := by
  by_cases hf : f.reg.has i 0 = true <;> simp [State.get, State.rd, State.set, State.set2, State.wr, h, hf]

theorem noteSafeHold_get {g : Fld} (hg : g.reg = .MECH_STATE) (hb : beside .MECH_STATE_SAFE_HOLD g = true) (s : State) (n k : Nat) :
    (s.noteSafeHold n).get g k = s.get g k := get_set_otherField hg (by decide) hb s n _ k

theorem applyCfg_get {g : Fld} (hg : g.reg = .MECH_STATE) (hb : beside .MECH_STATE_SAFE_HOLD g = true) (s : State) (n k : Nat) :
    (s.applyCfg n).get g k = s.get g k := by
  unfold State.applyCfg
  extract_lets w d s1
  split
  · rfl
  · rw [noteSafeHold_get hg hb, get_off (it_watchSets _) (hg ▸ by decide), get_off (it_reevaluate _ _) (hg ▸ by decide),
      get_off (it_reevaluate _ _) (hg ▸ by decide)]
    rfl

section
variable {g : Fld} (hg : g.reg = .MECH_STATE) (hb : beside .MECH_STATE_SAFE_HOLD g = true)
include hg hb

/-- Entering a state writes STATE, and SAFE_HOLD. -/
theorem enterState_get (s : State) (n st k : Nat) : (s.enterState n st).get g k = (s.set .MECH_STATE_STATE n st).get g k := by
  unfold State.enterState
  extract_lets sa s0 s1 s2
  have h0 : s0.regs = s.regs := by
    simp only [s0, sa]
    split <;> rfl
  have h1 : s1.get g k = (s.set .MECH_STATE_STATE n st).get g k := (noteSafeHold_get hg hb _ n k).trans (get_set_of_regs h0 _ _ _ _ _)
  have h2 : s2.get g k = (s.set .MECH_STATE_STATE n st).get g k := by
    simp only [s2]
    split
    · rw [applyCfg_get hg hb, h1]
    · exact h1
  split
  · exact h2
  · rw [get_off (it_chargeStanding _ _ _) (hg ▸ by decide), h2]

/-- The end of a transition writes STATE beside SAFE_HOLD, BUSY and TARGET. -/
theorem endMove_get (hbusy : beside .MECH_STATE_BUSY g = true) (htarget : beside .MECH_STATE_TARGET g = true) (s : State) (n st k : Nat) :
    (s.endMove n st).get g k = (s.set .MECH_STATE_STATE n st).get g k := by
  unfold State.endMove
  extract_lets s1
  rw [get_off (it_chg _ _) (hg ▸ by decide), get_off (it_modPort _ _ _) (hg ▸ by decide), get_set_otherField hg (by decide) htarget,
    get_set_otherField hg (by decide) hbusy, enterState_get hg hb]
  refine get_set_of_regs ?_ _ _ _ _ _
  split <;> rfl

theorem enterState_keeps (hst : beside .MECH_STATE_STATE g = true) (s : State) (n st k : Nat) : (s.enterState n st).get g k = s.get g k :=
  (enterState_get hg hb s n st k).trans (get_set_otherField hg (by decide) hst s n st k)

theorem endMove_keeps (hst : beside .MECH_STATE_STATE g = true) (hbusy : beside .MECH_STATE_BUSY g = true) (htarget : beside .MECH_STATE_TARGET g = true)
    (s : State) (n st k : Nat) : (s.endMove n st).get g k = s.get g k :=
  (endMove_get hg hb hbusy htarget s n st k).trans (get_set_otherField hg (by decide) hst s n st k)

end

theorem mst_endMove (s : State) {n st : Nat} (hn : n < 4096) (h : st < 16) : (s.endMove n st).mst n = st := by
  rw [State.mst, endMove_get rfl (by decide) (by decide) (by decide), get_set_self (by decide) _ _ _ (mechState_has hn)]
  exact Nat.mod_eq_of_lt h

theorem mst_endMove_ne (s : State) {n k : Nat} (st : Nat) (h : n ≠ k) : (s.endMove n st).mst k = s.mst k := by
  rw [State.mst, endMove_get rfl (by decide) (by decide) (by decide), get_set_otherIndex rfl (by decide) _ _ h]
  rfl

theorem busy_endMove (s : State) {n : Nat} (st : Nat) (hn : n < 4096) : (s.endMove n st).on .MECH_STATE_BUSY n = false := by
  refine on_eq_false_of_get ?_
  unfold State.endMove
  extract_lets s1
  rw [get_off (it_chg _ _) (by decide), get_off (it_modPort _ _ _) (by decide), get_set_otherField (f := .MECH_STATE_TARGET) (g := .MECH_STATE_BUSY) rfl (by decide) (by decide),
    get_set_self (by decide) _ _ _ (mechState_has hn)]
  rfl

theorem busy_beginMove (s : State) {n : Nat} (target : Nat) (hn : n < 4096) : (s.beginMove n target).on .MECH_STATE_BUSY n = true := by
  refine on_eq_true_of_get ?_
  rw [State.beginMove, get_set_otherField (f := .MECH_STATE_TARGET) (g := .MECH_STATE_BUSY) rfl (by decide) (by decide), get_set_self (by decide) _ _ _ (mechState_has hn)]
  rfl

theorem target_beginMove (s : State) {n target : Nat} (hn : n < 4096) (h : target < 16) : (s.beginMove n target).get .MECH_STATE_TARGET n = target := by
  rw [State.beginMove, get_set_self (by decide) _ _ _ (mechState_has hn)]
  exact Nat.mod_eq_of_lt h

theorem restState_le (s : State) (n : Nat) : s.restState n ≤ 3 := by
  unfold State.restState
  (repeat' split) <;> decide

/-- The rest state comes of the clamp and of MOUNTED. -/
theorem restState_congr {s t : State} {n : Nat} (hc : (t.mx n).clamped = (s.mx n).clamped)
    (hm : t.get .MECH_STATE_MOUNTED n = s.get .MECH_STATE_MOUNTED n) : t.restState n = s.restState n := by
  rw [State.restState, hc, on_of_get hm]
  rfl

/-! ### The hidden record through a transition -/

theorem lasting_applyCfg (s : State) (n k : Nat) : lasting ((s.applyCfg n).mx k) = lasting (s.mx k) := by
  unfold State.applyCfg
  extract_lets w d s1
  split
  · rfl
  · rw [mx_off (it_noteSafeHold _ _) (by decide), mx_off (it_watchSets _) (by decide), mx_off (it_reevaluate _ _) (by decide),
      mx_off (it_reevaluate _ _) (by decide)]
    exact lasting_modMech (f := fun m => { m with cfgEff := w }) s n k

theorem lasting_enterState (s : State) (n st k : Nat) : lasting ((s.enterState n st).mx k) = lasting (s.mx k) := by
  unfold State.enterState
  extract_lets sa s0 s1 s2
  have ha : lasting (sa.mx k) = lasting (s.mx k) := by
    simp only [sa]
    split
    · exact lasting_modMech s n k
    · rfl
  have h0 : lasting (s0.mx k) = lasting (s.mx k) := by
    refine (lasting_modMech sa n k fun m => ?_).trans ha
    (repeat' split) <;> rfl
  have h1 : lasting (s1.mx k) = lasting (s.mx k) := by rw [mx_off (it_noteSafeHold _ _) (by decide), mx_set, h0]
  have h2 : lasting (s2.mx k) = lasting (s.mx k) := by
    simp only [s2]
    split
    · rw [lasting_applyCfg, h1]
    · exact h1
  split
  · exact h2
  · rw [mx_off (it_chargeStanding _ _ _) (by decide), h2]

theorem lasting_endMove (s : State) (n st k : Nat) : lasting ((s.endMove n st).mx k) = lasting (s.mx k) := by
  unfold State.endMove
  extract_lets s1
  rw [mx_off (it_chg _ _) (by decide), mx_off (it_modPort _ _ _) (by decide), mx_set, mx_set, lasting_enterState]
  split
  · exact lasting_modMech s n k
  · rfl

end Sys2Proof.Proofs
end

section
/-! SUPPORT. The rules of a fault that is recorded and whose action is taken (R46, R47): what it leaves of MECH_FAULT, of MECH_STATE and of the slot. -/

namespace Sys2Proof.Proofs

open Sys2Proof.Machine Sys2Proof.Laws

theorem holdsSlot_off {s t : State} {l : List Spot} (it : ∀ {q : Item}, q.off l = true → itm q t = itm q s)
    (h : (Item.reg .MECH_SERVO 0 0).off l = true) (n : Nat) : t.holdsSlot n = s.holdsSlot n := on_of_get (get_off it h)

theorem holdsSlot_of_valid {s : State} {n : Nat} (h : s.get .MECH_SERVO_SLOT_VALID n = 0) : s.holdsSlot n = false := on_eq_false_of_get h

theorem holdsSlot_releaseSlot (s : State) {n : Nat} (hn : n < 4096) : (s.releaseSlot n).holdsSlot n = false := by
  unfold State.releaseSlot
  split
  next h => simpa using h
  · extract_lets c k s1 s2 s3 s4 s5 s6
    rw [holdsSlot_off (it_modMech _ _ _) (by decide), holdsSlot_off (it_dropPosition _ _) (by decide)]
    refine holdsSlot_of_valid ?_
    show s5.get .MECH_SERVO_SLOT_VALID n = 0
    simp (disch := with_unfolding_all exact id rfl) only [s5, get_set_field]
    exact get_set_self (f := .MECH_SERVO_SLOT_VALID) (by decide) _ _ _ (mechServo_has hn)

theorem mst_makeSafe (s : State) {n target : Nat} (moveFault : Bool) (hn : n < 4096) (h : target < 16) : (s.makeSafe n target moveFault).mst n = target :=
  mst_endMove _ hn h

theorem holdsSlot_makeSafe (s : State) {n : Nat} (target : Nat) (moveFault : Bool) (hn : n < 4096) : (s.makeSafe n target moveFault).holdsSlot n = false := by
  unfold State.makeSafe
  extract_lets s0 s1 s2 s3 s4 s5 s6 s7
  have h7 : s7.holdsSlot n = s6.holdsSlot n := by
    simp only [s7]
    split
    · exact holdsSlot_off (it_recordIsolation _ _) (by decide) n
    · rfl
  rw [holdsSlot_off (it_endMove _ _ _) (by decide), h7, holdsSlot_off (it_modMech _ _ _) (by decide), holdsSlot_off (it_returnAll _ _) (by decide),
    holdsSlot_releaseSlot _ hn]

theorem faultTarget_cases (s : State) (n code : Nat) : s.faultTarget n code = 8 ∧ actionFaulted code = true ∨ s.faultTarget n code = 9 := by
  unfold State.faultTarget
  cases actionFaulted code
  · exact Or.inr rfl
  · extract_lets lim
    by_cases h : lim ≠ 0 ∧ lim ≤ (s.mx n).faultTimes.length
    · exact Or.inr (if_pos h)
    · exact Or.inl ⟨if_neg h, rfl⟩

theorem recordFault_code (s : State) {n code : Nat} (detail : Nat) (hn : n < 4096) (hc : code < 256) : (s.recordFault n code detail).get .MECH_FAULT_CODE n = code := by
  unfold State.recordFault
  extract_lets before now win times s1 s2 s3
  rw [get_off (it_logEntry _ _) (by decide), get_off (it_bump _ _ _) (by decide)]
  simp (disch := with_unfolding_all exact id rfl) only [s2, State.set64, get_set_disj, get_set_field]
  rw [get_set_self (by decide) _ _ _ (mechReg_has (by decide) hn)]
  exact Nat.mod_eq_of_lt hc

theorem recordFault_new (s : State) {n : Nat} (code detail : Nat) (hn : n < 4096) : (s.recordFault n code detail).on .MECH_FAULT_NEW n = true := by
  refine on_eq_true_of_get ?_
  unfold State.recordFault
  extract_lets before now win times s1 s2 s3
  rw [get_off (it_logEntry _ _) (by decide), get_off (it_bump _ _ _) (by decide)]
  simp (disch := with_unfolding_all exact id rfl) only [State.set64, get_set_disj]
  exact get_set_self (by decide) _ _ _ (mechReg_has (by decide) hn)

/-- A mechanism that is neither ABSENT, FAULTED nor ISOLATED takes the action of its fault. -/
theorem faultTaken_fault {s : State} {n code : Nat} (detail : Nat) (hn : n < 4096) (h0 : code ≠ 0) (hc : code < 256) (hst : s.mst n ∉ [0, 8, 9]) :
    FaultTaken n code (s.fault n code detail) := by
  simp only [List.mem_cons, List.not_mem_nil, or_false, not_or] at hst
  obtain ⟨hst0, hst8, hst9⟩ := hst
  unfold State.fault
  extract_lets st c s1 t s2
  have hc' : c = code := if_neg h0
  rw [if_neg hst0, if_neg hst9, if_neg fun h => hst8 h.1]
  have hs2 : ∀ f : Fld, f.reg = .MECH_FAULT → s2.get f n = s1.get f n := fun f hf => by
    simp only [s2]
    split
    · rw [get_off (it_clearDisc _ _) (hf ▸ by decide), get_modMech]
    · rfl
  have hcases : t = 8 ∧ actionFaulted c = true ∨ t = 9 := faultTarget_cases s1 n c
  have ht : t < 16 := by omega
  have hmst := mst_makeSafe s2 (c == 0x39) hn ht
  refine ⟨?_, ?_, ?_, fun ha => ?_, holdsSlot_makeSafe s2 t _ hn⟩
  · rw [get_off (it_makeSafe _ _ _ _) (by decide +kernel), hs2 .MECH_FAULT_CODE rfl, ← hc']
    exact recordFault_code s detail hn (hc' ▸ hc)
  · rw [on_of_get (get_off (it_makeSafe _ _ _ _) (by decide +kernel)), on_of_get (hs2 .MECH_FAULT_NEW rfl)]
    exact recordFault_new s c detail hn
  · rw [hmst]
    exact hcases.imp_left And.left
  · rw [hmst]
    exact hcases.resolve_left fun h => by rw [hc', ha] at h; exact absurd h.2 (by decide)

/-- What NOTE_EVENTS leaves of a fault taken. -/
theorem faultTaken_noteEvents {n code : Nat} {t : State} (h : FaultTaken n code t) : FaultTaken n code t.noteEvents := by
  unfold FaultTaken State.mst
  rw [get_off (it_noteEvents t) (by decide), on_of_get (get_off (it_noteEvents t) (by decide)), get_off (it_noteEvents t) (by decide),
    holdsSlot_off (it_noteEvents t) (by decide)]
  exact h

end Sys2Proof.Proofs
end

section
/-! SUPPORT. The arbiter (R302 to R310): what an evaluation of a domain can do, what the operations that return grants leave, and when a request is refused
or granted at once. -/

namespace Sys2Proof.Proofs

open Sys2Proof.Machine Sys2Proof.Laws

/-! ### Evaluations -/

theorem mem_rankInsert {r x : PowerReq} {l : List PowerReq} (h : x ∈ rankInsert r l) : x = r ∨ x ∈ l := by
  induction l with
  | nil => simpa [rankInsert] using h
  | cons y l ih =>
    unfold rankInsert at h
    split at h
    · exact List.mem_cons.mp h
    · rcases List.mem_cons.mp h with rfl | h
      · exact Or.inr List.mem_cons_self
      · exact (ih h).imp_right (List.mem_cons_of_mem _)

theorem mem_of_mem_rankSort {l : List PowerReq} {x : PowerReq} (h : x ∈ rankSort l) : x ∈ l := by
  have main : ∀ (l acc : List PowerReq), x ∈ l.foldl (fun a r => rankInsert r a) acc → x ∈ l ∨ x ∈ acc := by
    intro l
    induction l with
    | nil => exact fun acc h => Or.inr h
    | cons y l ih =>
      intro acc h
      rcases ih _ h with h | h
      · exact Or.inl (List.mem_cons_of_mem _ h)
      · exact (mem_rankInsert h).elim (fun he => Or.inl (he ▸ List.mem_cons_self)) Or.inr
  exact (main l [] h).resolve_right List.not_mem_nil

/-- The state that a deferred request leaves as it is granted. -/
def granted (s : State) (r : PowerReq) : State := (s.modBreath fun b => { b with reqs := b.reqs.erase r }).makeGrant r

/-- P holds through an evaluation when a grant and BLOCKED keep it. -/
theorem evaluate_keeps {P : State → Prop} {Q : PowerReq → Prop} (hblock : ∀ s d, P s → P (s.raise .BRTH_DOM_STAT_BLOCKED d))
    (hgrant : ∀ s r, Q r → P s → P (granted s r)) (l : List PowerReq) : ∀ (s : State) (blocked : List Nat), (∀ r ∈ l, Q r) → P s → P (s.evaluate blocked l) := by
  induction l with
  | nil => exact fun _ _ _ h => h
  | cons r l ih =>
    intro s blocked hq h
    obtain ⟨hr, hl⟩ := List.forall_mem_cons.mp hq
    unfold State.evaluate
    split
    · exact ih _ _ hl h
    · split
      · exact ih _ _ hl (hgrant s r hr h)
      · split
        · exact ih _ _ hl (hblock s _ h)
        · exact ih _ _ hl h

/-- What an evaluation of a domain may do, each step of it kept by P; Q holds of every request that may be granted. -/
structure EvalKept (P : State → Prop) (Q : PowerReq → Prop) : Prop where
  set : ∀ (s : State) (f : Fld) (i v : Nat), f.reg = .BRTH_DOM_STAT ∨ f.reg = .BRTH_EVENT → P s → P (s.set f i v)
  age : ∀ (s : State) (g : PowerReq → PowerReq), (∀ r, (g r).cls = r.cls ∧ (g r).who = r.who) → P s → P (s.modBreath fun b => { b with reqs := b.reqs.map g })
  grant : ∀ (s : State) (r : PowerReq), Q r → P s → P (granted s r)
  reqs : ∀ (s : State), P s → ∀ r ∈ s.breath.reqs, Q r

theorem EvalKept.noteOvercommit {P : State → Prop} {Q : PowerReq → Prop} (hk : EvalKept P Q) {s : State} (d : Nat) (h : P s) : P (s.noteOvercommit d) := by
  unfold State.noteOvercommit
  split
  · split
    · exact h
    · exact hk.set _ _ 0 d (Or.inr rfl) (hk.set _ _ 0 1 (Or.inr rfl) (hk.set _ _ d 1 (Or.inl rfl) h))
  · exact hk.set _ _ d 0 (Or.inl rfl) h

theorem EvalKept.ageRequests {P : State → Prop} {Q : PowerReq → Prop} (hk : EvalKept P Q) {s : State} (d : Nat) (h : P s) : P (s.ageRequests d) := by
  unfold State.ageRequests
  extract_lets old s1
  have h1 : P s1 := hk.age s _ (fun r => by split <;> exact ⟨rfl, rfl⟩) h
  split
  · exact hk.set _ _ 0 d (Or.inr rfl) (hk.set _ _ 0 1 (Or.inr rfl) h1)
  · exact h1

theorem EvalKept.reevaluate {P : State → Prop} {Q : PowerReq → Prop} (hk : EvalKept P Q) {s : State} (d : Nat) (h : P s) : P (s.reevaluate d) := by
  unfold State.reevaluate
  extract_lets s1
  have h1 : P s1 := hk.set _ _ d 0 (Or.inl rfl) (hk.ageRequests d (hk.noteOvercommit d h))
  refine hk.noteOvercommit d (evaluate_keeps (fun s d => hk.set s _ d 1 (Or.inl rfl)) hk.grant _ _ _ (fun r hr => ?_) h1)
  exact hk.reqs s1 h1 r (List.mem_filter.mp (mem_of_mem_rankSort hr)).1

/-! ### What a grant is decided by -/

/-- The registers that give costs and budgets; with the states of the ports, what an arbitrated property sees. -/
def costRegs : List Reg := [.BRTH_DOM_BUDGET, .BRTH_DOM_RESERVE, .BRTH_CLS_IDLE, .BRTH_CLS_MOVE, .BRTH_CLS_START, .BRTH_CLS_SPIN]

def viewRegs : List Reg := .PEN_STATUS :: costRegs

/-- Nothing that the arbiter decides by has changed, but for what it writes itself in BRTH_DOM_STAT. -/
structure SameView (s t : State) : Prop where
  regs : ∀ r ∈ viewRegs, ∀ i, t.rd r i = s.rd r i
  breath : t.breath = s.breath
  cfg : ∀ n, (t.mx n).cfgEff = (s.mx n).cfgEff

def viewOff (l : List Spot) : Bool := viewRegs.all (fun r => (Item.reg r 0 0).off l) && ((Item.part .breath).off l && (Item.part .mech).off l)

theorem sameView_off {s t : State} {l : List Spot} (it : ∀ {q : Item}, q.off l = true → itm q t = itm q s) (h : viewOff l = true) : SameView s t := by
  rw [viewOff, Bool.and_eq_true, Bool.and_eq_true, List.all_eq_true] at h
  obtain ⟨hregs, hbreath, hmech⟩ := h
  exact ⟨fun r hr i => rd_off it (hregs r hr), breath_off it hbreath, fun n => by rw [mx_off it hmech]⟩

theorem SameView.trans {s t u : State} (h : SameView s t) (h' : SameView t u) : SameView s u :=
  ⟨fun r hr i => (h'.regs r hr i).trans (h.regs r hr i), h'.breath.trans h.breath, fun n => (h'.cfg n).trans (h.cfg n)⟩

theorem sameView_modMech (s : State) (n : Nat) {f : MechX → MechX} (h : ∀ m, (f m).cfgEff = m.cfgEff := by intro _; rfl) : SameView s (s.modMech n f) :=
  ⟨fun _ _ _ => rfl, rfl, fun k => mx_modMech_eq (g := MechX.cfgEff) s n k h⟩

/-! ### What returns a grant -/

/-- A property that holds of a state for what the arbiter sees of it, and that a change of grants and an evaluation keep. -/
structure Arbitrated (P : State → Prop) : Prop where
  same : ∀ {s t : State}, SameView s t → P s → P t
  grants : ∀ (s : State) (f : Tab Grants → Tab Grants), P s → P (s.modBreath fun b => { b with grants := f b.grants })
  reevaluate : ∀ (s : State) (d : Nat), P s → P (s.reevaluate d)

section
variable {P : State → Prop} (hp : Arbitrated P) {s : State}
include hp

theorem Arbitrated.off {t : State} {l : List Spot} (it : ∀ {q : Item}, q.off l = true → itm q t = itm q s) (hl : viewOff l = true) (h : P s) : P t :=
  hp.same (sameView_off it hl) h

theorem Arbitrated.returnGrant (n : Nat) (f : Grants → Grants) (h : P s) : P (s.returnGrant n f) := hp.reevaluate _ _ (hp.grants s (fun g => tabMod g n {} f) h)

theorem Arbitrated.endWrite (f : Nat) (h : P s) : P (s.endWrite f) := by
  unfold State.endWrite
  split
  · extract_lets n s0 s1 back cut
    have h0 : P s0 := hp.off (it_modLane _ _ _) (by decide) (hp.off (it_set _ _ _ _) (by decide) h)
    have h1 : P s1 := hp.returnGrant n _ (hp.off (it_turnBurst _ _ _ _) (by decide) (hp.off (it_searchAgain _ _) (by decide) h0))
    exact hp.off (it_modDisc _ _ _) (by decide) (hp.off (it_modHost _ _) (by decide) h1)
  · exact h

theorem Arbitrated.endMeasure (n item : Nat) (h : P s) : P (s.endMeasure n item) := by
  unfold State.endMeasure
  split
  · exact hp.off (it_modServo _ _ _) (by decide) h
  · split
    · exact h
    · split
      · exact h
      · extract_lets s1
        have h1 : P s1 := hp.off (it_modServo _ _ _) (by decide) h
        split
        · exact h1
        · split
          · refine hp.off (it_modLane _ _ _) (by decide) ?_
            split
            · exact hp.endWrite _ h1
            · exact h1
          · exact h1

theorem Arbitrated.abandonRuns (n : Nat) (h : P s) : P (s.abandonRuns n) := by
  unfold State.abandonRuns State.abandonSome State.abandonIn
  extract_lets runs
  refine forEach_keeps _ _ _ (fun e _ t ht => ?_) h
  extract_lets gone t1
  refine forEach_keeps _ _ _ (fun i _ u hu => ?_) (hp.off (it_modCal _ _ _ _ _) (by decide) ht)
  extract_lets u0 u1
  have h0 : P u0 := by
    simp only [u0]
    split
    · exact hp.endMeasure n i hu
    · exact hu
  refine hp.off (it_logEntry _ _) (by decide) ?_
  iterate 5 refine hp.off (it_set0 _ _ _) (by decide) ?_
  exact h0

theorem Arbitrated.releaseLane (n : Nat) (store : Bool) (h : P s) : P (s.releaseLane n store) := by
  unfold State.releaseLane
  split
  · exact hp.off (it_modChan _ _) (by decide) h
  · next f _ =>
    extract_lets x s0 s1 s2 s3 s4 s5
    have h1 : P s1 := by
      simp only [s1]
      split
      · exact hp.off (it_storeTaps _ _ _) (by decide) (hp.endWrite f h)
      · exact hp.endWrite f h
    have h2 : P s2 := hp.off (it_freeLaneRegs _ _) (by decide) (hp.off (it_dropAssembling _ _) (by decide) h1)
    have h3 : P s3 := by
      simp only [s3]
      split
      · exact h2
      · exact hp.off (it_set0 _ _ _) (by decide) (hp.off (it_freeLaneRegs _ _) (by decide) (hp.off (it_dropAssembling _ _) (by decide) h2))
    have h4 : P s4 := by
      simp only [s4]
      split
      · exact h3
      · exact hp.off (it_set0 _ _ _) (by decide) h3
    exact hp.off (it_dropBursts _ _) (by decide) (hp.off (it_set _ _ _ _) (by decide) (hp.off (it_set _ _ _ _) (by decide) h4))

theorem Arbitrated.endTray (n : Nat) (h : P s) : P (s.endTray n) := by
  unfold State.endTray
  split
  · split
    · exact hp.off (it_dropPosition _ _) (by decide) (hp.same (sameView_modMech _ _) h)
    · exact h
  · exact hp.off (it_dropPosition _ _) (by decide) (hp.returnGrant n _ (hp.same (sameView_modMech _ _) h))

theorem Arbitrated.stopTray (n : Nat) (h : P s) : P (s.stopTray n) := by
  unfold State.stopTray
  split
  · exact hp.endTray n (hp.off (it_sendAct _ _ _ _ _) (by decide) h)
  · exact hp.endTray n h

theorem Arbitrated.stopSled (n : Nat) (safe : Bool) (h : P s) : P (s.stopSled n safe) := by
  unfold State.stopSled
  extract_lets v fast s1 s2 s3
  have h1 : P s1 := by
    simp only [s1]
    split
    · exact hp.off (it_modServo _ _ _) (by decide) h
    · exact h
  have h2 : P s2 := hp.off (it_set _ _ _ _) (by decide) h1
  have h3 : P s3 := by
    simp only [s3]
    split
    · exact hp.returnGrant n _ h2
    · exact h2
  split
  · exact hp.off (it_set _ _ _ _) (by decide) h3
  · exact h3

end

/-! ### Costs -/

/-- The costs of mechanisms, the budgets of domains and the standing costs are the same. -/
structure SameCosts (s t : State) : Prop where
  regs : ∀ r ∈ costRegs, ∀ i, t.rd r i = s.rd r i
  standing : t.breath.standing = s.breath.standing
  cfg : ∀ n, (t.mx n).cfgEff = (s.mx n).cfgEff

theorem SameCosts.refl (s : State) : SameCosts s s := ⟨fun _ _ _ => rfl, rfl, fun _ => rfl⟩

theorem SameCosts.same {s t u : State} (hv : SameView t u) (h : SameCosts s t) : SameCosts s u :=
  ⟨fun r hr i => (hv.regs r (List.mem_cons_of_mem _ hr) i).trans (h.regs r hr i), (congrArg BreathState.standing hv.breath).trans h.standing,
    fun n => (hv.cfg n).trans (h.cfg n)⟩

theorem costRegs_off {l : List Spot} (h : costRegs.all (fun r => (Item.reg r 0 0).off l) = true) {r : Reg} (hr : r ∈ costRegs) : (Item.reg r 0 0).off l = true :=
  List.all_eq_true.mp h r hr

theorem makeGrant_standing (s : State) (r : PowerReq) : (s.makeGrant r).breath.standing = s.breath.standing := by
  unfold State.makeGrant
  extract_lets up
  split
  · rw [breath_off (it_linkGranted _ _) (by decide)]
    rfl
  · rfl
  · rfl
  · rfl
  · simp only [State.set, set2_breath]
    rfl

theorem costs_evalKept (s0 : State) : EvalKept (SameCosts s0) fun _ => True where
  set s f i v hf h := by
    refine ⟨fun r hr k => ?_, (congrArg BreathState.standing (set2_breath s f i 0 v)).trans h.standing, fun n => (congrArg MechX.cfgEff (mx_set s f i v n)).trans (h.cfg n)⟩
    refine Eq.trans (rd_wr_disj s f.reg r i 0 k 0 _ ?_) (h.regs r hr k)
    have hall : ∀ e ∈ [Reg.BRTH_DOM_STAT, .BRTH_EVENT], ∀ r ∈ costRegs, disj e r = true := by decide
    exact hf.elim (fun h => hall _ (by simp [h]) r hr) fun h => hall _ (by simp [h]) r hr
  age _ _ _ h := ⟨h.regs, h.standing, h.cfg⟩
  grant s r _ h :=
    ⟨fun q hq i => (rd_off (it_makeGrant _ _) (costRegs_off (by decide) hq)).trans (h.regs q hq i), (makeGrant_standing _ r).trans h.standing,
      fun n => (congrArg MechX.cfgEff (mx_off (it_makeGrant _ _) (by decide) n)).trans (h.cfg n)⟩
  reqs _ _ _ _ := trivial

theorem costs_arbitrated (s0 : State) : Arbitrated (SameCosts s0) :=
  ⟨SameCosts.same, fun _ _ h => ⟨h.regs, h.standing, h.cfg⟩, fun _ d h => (costs_evalKept s0).reevaluate d h⟩

theorem SameCosts.off {s t u : State} {l : List Spot} (it : ∀ {q : Item}, q.off l = true → itm q u = itm q t)
    (hl : (costRegs.all (fun r => (Item.reg r 0 0).off l) && ((Item.part .breath).off l && (Item.part .mech).off l)) = true) (h : SameCosts s t) : SameCosts s u := by
  rw [Bool.and_eq_true, Bool.and_eq_true] at hl
  obtain ⟨hregs, hbreath, hmech⟩ := hl
  exact ⟨fun r hr i => (rd_off it (costRegs_off hregs hr)).trans (h.regs r hr i), (congrArg BreathState.standing (breath_off it hbreath)).trans h.standing,
    fun n => (congrArg MechX.cfgEff (mx_off it hmech n)).trans (h.cfg n)⟩

theorem SameCosts.request {s t : State} (r : PowerReq) (h : SameCosts s t) : SameCosts s (t.request r).1 := by
  unfold State.request
  split
  · exact h
  · extract_lets s0 s1
    have h0 : SameCosts s s0 := by
      simp only [s0]
      split
      · exact .off (it_set0 _ _ _) (by decide) (.off (it_raise _ _ _) (by decide) h)
      · exact h
    have h1 : SameCosts s (s0.modBreath fun b => { b with reqs := b.reqs ++ [r] }) := ⟨h0.regs, h0.standing, h0.cfg⟩
    exact (costs_evalKept s).reevaluate r.dom h1

theorem SameCosts.wakePort {s t : State} (p : Nat) (h : SameCosts s t) : SameCosts s (t.wakePort p) := by
  unfold State.wakePort State.requestLink
  split
  · extract_lets s1
    have h1 : SameCosts s s1 := .off (it_modPort _ _ _) (by decide) h
    split
    · exact .off (it_linkGranted _ _) (by decide) h1
    · split
      · exact h1
      · exact h1.request _
  · exact h

/-! ### Requests -/

section
variable {s t : State} (h : SameCosts s t)
include h

theorem SameCosts.domOf (n : Nat) : t.domOf n = s.domOf n := by rw [State.domOf, h.cfg]; rfl

theorem SameCosts.clsOf (n : Nat) : t.clsOf n = s.clsOf n := by rw [State.clsOf, h.cfg]; rfl

theorem SameCosts.get (f : Fld) (hf : f.reg ∈ costRegs) (i : Nat) : t.get f i = s.get f i := by rw [State.get, h.regs _ hf]; rfl

theorem SameCosts.standingIn (d : Nat) : t.standingIn d = s.standingIn d := by
  have hof : t.standingOf = s.standingOf := funext fun n => by
    rw [State.standingOf, h.standing, h.clsOf, h.get .BRTH_CLS_IDLE_IDLE_MW (by simp [costRegs, Fld.BRTH_CLS_IDLE_IDLE_MW])]
    rfl
  simp only [State.standingIn, h.standing, h.domOf, hof]

/-- A request that replaces nothing fits its domain as before. -/
theorem SameCosts.neverFits {r q : PowerReq} (hr : r.cls ≠ 5) (hq : q.cls ≠ 5) (hd : q.dom = r.dom) (hm : q.mw = r.mw) : t.neverFits q = s.neverFits r := by
  rw [State.neverFits, State.neverFits, State.unlimited, State.unlimited, State.grantable, State.grantable, State.replaces, State.replaces, if_neg hr, if_neg hq,
    h.standingIn, hd, hm, h.get .BRTH_DOM_BUDGET_MW (by simp [costRegs, Fld.BRTH_DOM_BUDGET_MW]), h.get .BRTH_DOM_RESERVE_MW (by simp [costRegs, Fld.BRTH_DOM_RESERVE_MW])]

end

theorem reqAmount_seek (s : State) (n beams rpm4 : Nat) : s.reqAmount 2 n beams rpm4 = (s.get .BRTH_CLS_MOVE_SEEK_MW (s.clsOf n), 0) := rfl

theorem reqAmount_start (s : State) (n beams rpm4 : Nat) :
    s.reqAmount 4 n beams rpm4 = (max (s.get .BRTH_CLS_START_PEAK_MW (s.clsOf n)) (s.pSpin (s.clsOf n) rpm4), s.pSpin (s.clsOf n) rpm4) := rfl

/-- A SEEK of mechanism n fits its domain as before. -/
theorem SameCosts.neverFits_seek {s t : State} (h : SameCosts s t) {n : Nat} {q : PowerReq} (hc : q.cls = 2) (hd : q.dom = t.domOf n)
    (hm : q.mw = (t.reqAmount 2 n 0 0).1) : t.neverFits q = s.neverFits (s.mechRequest 2 n 0 0 none) := by
  refine h.neverFits (by simp [State.mechRequest]) (by simp [hc]) (hd.trans (h.domOf n)) (hm.trans ?_)
  simp only [State.mechRequest, reqAmount_seek, h.clsOf]
  exact h.get _ (by simp [costRegs, Fld.BRTH_CLS_MOVE_SEEK_MW]) _

theorem request_not_refused {s : State} {r : PowerReq} (h : s.neverFits r = false) : (s.request r).2 ≠ .refused := by
  unfold State.request
  rw [if_neg (by simp [h])]
  extract_lets s0 s1
  show (if _ then Decision.deferred else Decision.granted) ≠ _
  split <;> exact Decision.noConfusion

end Sys2Proof.Proofs
end

section
/-! SUPPORT. Tray and clamp moves, the commands they end, the waiters for servo positions, and attaching (R37, R39, R185, R187, R564). -/

namespace Sys2Proof.Proofs

open Sys2Proof.Machine Sys2Proof.Laws

/-! ### What a command completes with -/

theorem completes_of_next {c : Instr} {s : State} {P : State → Prop} (hn : isNext (exec c s)) (h : ∀ t, exec c s = .next t → P t) : Completes c s P := by
  obtain ⟨t, ht⟩ := hn
  exact ⟨t, ht, h t ht⟩

theorem completes_at {c : Instr} {s t : State} {P : State → Prop} (h : Completes c s P) (ht : exec c s = .next t) : P t := by
  obtain ⟨u, hu, hp⟩ := h
  obtain rfl : u = t := by simpa [hu] using ht
  exact hp

/-! ### Commands given by a register -/

theorem regCmd_open {s : State} (h : s.closed = false) (f : State → Out) : regCmd s f = f (s.dozeWake 2) := if_neg (by simp [h])

theorem mst_off {s t : State} {l : List Spot} (it : ∀ {q : Item}, q.off l = true → itm q t = itm q s)
    (h : (Item.reg .MECH_STATE 0 0).off l = true) (n : Nat) : t.mst n = s.mst n := get_off it h

/-! ### State commands that end -/

theorem completeState_ended {s : State} {n op : Nat} (st : Nat) {c : Ctx} (hc : c ∈ s.cmdsOf n) (hop : c.d.opcode = op) (hstart : c.started = true) :
    Ended c.fn c.d.tag st (s.completeState n op st) := by
  refine forEach_reaches (P := fun _ => True) (a := c) (List.mem_filter.mpr ⟨hc, by simp [hop, hstart]⟩) trivial (fun _ _ _ => trivial)
    (fun t _ => ended_of_answered (answered_complete t c st _ _ _)) fun c' t ht => (later_complete t c' st _ _ _).ended ht

theorem cmdsOf_off {s t : State} {l : List Spot} (it : ∀ {q : Item}, q.off l = true → itm q t = itm q s)
    (h : (Item.part .host).off l = true) (n : Nat) : t.cmdsOf n = s.cmdsOf n := by rw [State.cmdsOf, host_off it h]; rfl

theorem lasting_completeState (s : State) (n op st k : Nat) : lasting ((s.completeState n op st).mx k) = lasting (s.mx k) :=
  forEach_keeps (P := fun t => lasting (t.mx k) = lasting (s.mx k)) _ _ _ (fun c _ t ht => (lasting_complete t c st _ _ _ k).trans ht) rfl

/-- A move ends in a rest state and the command it served ends. -/
theorem endMove_completeState {s : State} {n st op status : Nat} (hn : n < 4096) (hst : st < 16) :
    let t := ((s.endMove n st).completeState n op status).noteEvents
    t.mst n = st ∧ t.on .MECH_STATE_BUSY n = false ∧ ∀ c ∈ s.cmdsOf n, c.d.opcode = op → c.started = true → Ended c.fn c.d.tag status t := by
  refine ⟨?_, ?_, fun c hc hop hstart => ?_⟩
  · rw [mst_off (it_noteEvents _) (by decide), mst_off (it_completeState _ _ _ _) (by decide), mst_endMove s hn hst]
  · rw [on_off (it_noteEvents _) (by decide), on_off (it_completeState _ _ _ _) (by decide), busy_endMove s st hn]
  · exact (later_noteEvents _).ended (completeState_ended status (cmdsOf_off (it_endMove s n st) (by decide) n ▸ hc) hop hstart)

/-! ### A tray move wanted -/

theorem clamped_endTray (s : State) (n k : Nat) : ((s.endTray n).mx k).clamped = (s.mx k).clamped := by
  unfold State.endTray
  split
  · split
    · rw [mx_off (it_dropPosition _ _) (by decide)]
      exact mx_modMech_eq (g := MechX.clamped) s n k
    · rfl
  · rw [mx_off (it_dropPosition _ _) (by decide), mx_off (it_returnGrant _ _ _) (by decide)]
    exact mx_modMech_eq (g := MechX.clamped) s n k

theorem clamped_of_lasting {s t : State} {k : Nat} (h : lasting (t.mx k) = lasting (s.mx k)) : (t.mx k).clamped = (s.mx k).clamped :=
  (congrArg MechX.clamped h : (lasting (t.mx k)).clamped = (lasting (s.mx k)).clamped)

theorem lasting_cutCmd (s : State) (c : Ctx) (st k : Nat) : lasting ((s.cutCmd c st).mx k) = lasting (s.mx k) := by
  unfold State.cutCmd
  extract_lets r
  rw [lasting_complete, mx_off (it_dropWrite _ _ _) (by decide), mx_off (it_withdrawCmd _ _ _) (by decide)]

/-- Asking for a tray move leaves the clamp as it is. -/
theorem clamped_askTray (s : State) (n k : Nat) : ((s.askTray n).mx k).clamped = (s.mx k).clamped := by
  unfold State.askTray
  extract_lets c s1 s2 r
  clear_value c
  have h1 : (s1.mx k).clamped = (s.mx k).clamped :=
    (mx_modMech_eq (g := MechX.clamped) (s.wakePort (portOf n)) n k).trans (by rw [mx_off (it_wakePort _ _) (by decide)])
  have h2 : (s2.mx k).clamped = (s.mx k).clamped := by
    simp only [s2]
    split
    · rw [mx_off (it_takePosition _ _ _ _ _) (by decide), h1]
    · exact h1
  have ht : ((s2.request r).1.mx k).clamped = (s.mx k).clamped := by rw [mx_off (it_request _ _) (by decide), h2]
  split
  · next t heq =>
    rw [heq] at ht
    extract_lets t1
    have h3 : ((t1.endMove n (t1.restState n)).mx k).clamped = (s.mx k).clamped := by
      rw [clamped_of_lasting (lasting_endMove _ _ _ _), mx_off (it_dropPosition _ _) (by decide), clamped_endTray]
      exact ht
    split
    · exact h3
    · exact (clamped_of_lasting (lasting_cutCmd _ _ _ _)).trans h3
  · next t d _ heq =>
    rw [heq] at ht
    exact ht

/-- A tray move whose SEEK may fit its domain waits for its grant (R185, R187). -/
theorem waitTray_askTray {s : State} {n : Nat} (h : s.neverFits (s.mechRequest 2 n 0 0 none) = false) : ((s.askTray n).mx n).waitTray = some s.now := by
  unfold State.askTray
  extract_lets c s1 s2 r
  have hv : SameCosts s s2 := by
    have h1 : SameCosts s s1 := .same (sameView_modMech _ _) ((SameCosts.refl s).wakePort (portOf n))
    simp only [s2]
    split
    · exact .same (sameView_off (it_takePosition _ _ _ _ _) (by decide)) h1
    · exact h1
  have h1 : (s1.mx n).waitTray = some s.now := congrArg MechX.waitTray (mx_modMech_same _ n _)
  have h2 : (s2.mx n).waitTray = some s.now := by
    simp only [s2]
    split
    · rw [mx_off (it_takePosition _ _ _ _ _) (by decide), h1]
    · exact h1
  have hr : s2.neverFits r = false := (hv.neverFits_seek (n := n) rfl (hv.domOf n).symm
    (by simp only [r, reqAmount_seek, hv.clsOf]; exact (hv.get _ (by simp [costRegs, Fld.BRTH_CLS_MOVE_SEEK_MW]) _).symm)).trans h
  have ht : ((s2.request r).1.mx n).waitTray = some s.now := by rw [mx_off (it_request _ _) (by decide), h2]
  split
  · next t heq => exact absurd (congrArg Prod.snd heq) (request_not_refused hr)
  · next t d _ heq =>
    rw [heq] at ht
    exact ht

theorem SameCosts.seek {s t : State} (h : SameCosts s t) (n : Nat) :
    t.neverFits (t.mechRequest 2 n 0 0 none) = s.neverFits (s.mechRequest 2 n 0 0 none) :=
  h.neverFits_seek rfl rfl (by simp only [State.mechRequest, reqAmount_seek])

/-- What of MECH_STATE is neither STATE, BUSY, TARGET nor SAFE_HOLD stays as it is when a tray move is asked for. -/
theorem askTray_keeps {g : Fld} (hg : g.reg = .MECH_STATE) (hb : beside .MECH_STATE_SAFE_HOLD g = true) (hst : beside .MECH_STATE_STATE g = true)
    (hbusy : beside .MECH_STATE_BUSY g = true) (htarget : beside .MECH_STATE_TARGET g = true) (s : State) (n k : Nat) : (s.askTray n).get g k = s.get g k := by
  unfold State.askTray
  extract_lets c s1 s2 r
  clear_value c
  have h1 : s1.get g k = s.get g k := by rw [get_modMech, get_off (it_wakePort _ _) (hg ▸ by decide)]
  have h2 : s2.get g k = s.get g k := by
    simp only [s2]
    split
    · rw [get_off (it_takePosition _ _ _ _ _) (hg ▸ by decide), h1]
    · exact h1
  have ht : (s2.request r).1.get g k = s.get g k := by rw [get_off (it_request _ _) (hg ▸ by decide), h2]
  split
  · next t heq =>
    rw [heq] at ht
    extract_lets t1
    have h3 : (t1.endMove n (t1.restState n)).get g k = s.get g k := by
      rw [endMove_keeps hg hb hst hbusy htarget, get_off (it_dropPosition _ _) (hg ▸ by decide), get_off (it_endTray _ _) (hg ▸ by decide)]
      exact ht
    split
    · exact h3
    · rw [get_off (it_cutCmd _ _ _) (hg ▸ by decide)]
      exact h3
  · next t d _ heq =>
    rw [heq] at ht
    exact ht

/-! ### The disc of a mechanism -/

theorem cfg_clearDisc (s : State) (n k : Nat) : ((s.clearDisc n).mx k).cfgEff = (s.mx k).cfgEff := by
  unfold State.clearDisc State.clearMount
  rw [mx_off (it_wr _ _ _ _ _) (by decide), mx_off (it_watchSets _) (by decide)]
  refine (mx_modMech_eq (g := MechX.cfgEff) (f := fun m => { m with discId := 0, mountHeld := false }) _ n k).trans ?_
  show (((s.set _ n 0).set _ n 0).mx k).cfgEff = _
  rw [mx_set, mx_set]

theorem sameView_clearDisc (s : State) (n : Nat) : SameView s (s.clearDisc n) :=
  ⟨fun r hr i => rd_off (it_clearDisc s n) (List.all_eq_true.mp (by decide : viewRegs.all (fun r => (Item.reg r 0 0).off foot_clearDisc) = true) r hr),
    breath_off (it_clearDisc s n) (by decide), fun k => cfg_clearDisc s n k⟩

theorem clearMount_keeps {g : Fld} (hg : g.reg = .MECH_STATE) (hm : beside .MECH_STATE_MOUNTED g = true) (s : State) (n k : Nat) :
    (s.clearMount n).get g k = s.get g k := by
  unfold State.clearMount
  rw [get_off (it_watchSets _) (hg ▸ by decide), get_modMech, get_off (it_modChan _ _) (hg ▸ by decide), get_off (it_modProfiles _ _) (hg ▸ by decide),
    get_off (it_modCals _ _) (hg ▸ by decide), get_set_disj (by rw [hg]; decide), get_set_otherField hg (by decide) hm]

theorem clearDisc_disc (s : State) {n : Nat} (hn : n < 4096) : (s.clearDisc n).rd .MECH_DISC n = 0 := rd_wr_same _ _ _ _ _ (mechReg_has (by decide) hn)

/-! ### Servo positions and their waiters -/

theorem mem_insertWaiter {w x : Nat × Nat × Bool} {l : List (Nat × Nat × Bool)} (h : x ∈ insertWaiter w l) : x = w ∨ x ∈ l := by
  induction l with
  | nil => simpa [insertWaiter] using h
  | cons y l ih =>
    unfold insertWaiter at h
    split at h
    · exact List.mem_cons.mp h
    · rcases List.mem_cons.mp h with rfl | h
      · exact Or.inr List.mem_cons_self
      · exact (ih h).imp_right (List.mem_cons_of_mem _)

/-- The waiters of a port are its mechanisms. -/
theorem waiters_port {s : State} {p : Nat} {w : Nat × Nat × Bool} (h : w ∈ s.waiters p) : portOf w.2.1 = p := by
  refine List.foldlRecOn (motive := fun (l : List (Nat × Nat × Bool)) => ∀ w ∈ l, portOf w.2.1 = p) s.mech _ (fun _ h => absurd h List.not_mem_nil) (fun l hl e _ => ?_) w h
  split
  · exact hl
  · next hp =>
    have hins : ∀ t b, ∀ w ∈ insertWaiter (t, e.1, b) l, portOf w.2.1 = p := fun t b w hw =>
      (mem_insertWaiter hw).elim (fun h => h ▸ Decidable.not_not.mp hp) (hl w)
    split
    · exact hins _ _
    · split
      · split
        · exact hl
        · exact hins _ _
      · exact hl

theorem lt_of_port {n : Nat} {p : PortIx} (h : portOf n = p) : n < 4096 := by
  have hp := p.isLt
  rw [portOf] at h
  omega

theorem penDrop_has {p d : Nat} (hp : p < 64) (hd : d < 64) : Reg.PEN_DROP.has p d = true := by
  rw [Reg.has, Bool.and_eq_true]
  exact ⟨decide_eq_true hp, decide_eq_true hd⟩

theorem dropOf_lt (n : Nat) : dropOf n < 64 := Nat.mod_lt _ (by decide)

theorem takePosition_servo (s : State) {n : Nat} (k sub subph : Nat) (hn : n < 4096) : (s.takePosition n k sub subph).on .PEN_DROP_SERVO (portOf n) (dropOf n) = true := by
  refine on_eq_true_of_get ?_
  have hp : portOf n < 64 := by rw [portOf]; omega
  exact get_set_same _ .PEN_DROP_SERVO _ _ 1 (penDrop_has hp (dropOf_lt n)) (by decide)

theorem holdsSlot_takeSlot (s : State) {n : Nat} (c k sub pos : Nat) (hn : n < 4096) : (s.takeSlot n c k sub pos).holdsSlot n = true := by
  refine on_eq_true_of_get ?_
  unfold State.takeSlot State.putSlot
  rw [get_modMech, get_set2_disj (by decide), get_set2_disj (by decide), get_set2_disj (by decide)]
  show ((State.set _ _ _ _).get .MECH_SERVO_SLOT_VALID n) = 1
  simp (disch := with_unfolding_all exact id rfl) only [get_set_field]
  exact get_set_self (by decide) _ _ _ (mechServo_has hn)

theorem holdsSlot_grabSlot {s u : State} {n : Nat} (hn : n < 4096) (h : s.grabSlot n = some u) : u.holdsSlot n = true := by
  unfold State.grabSlot at h
  extract_lets p sub at h
  split at h
  · exact nomatch h
  · split at h
    · exact nomatch h
    · split at h
      · exact nomatch h
      · extract_lets c at h
        split at h
        · exact nomatch h
        · rw [← Option.some.inj h, holdsSlot_off (it_modServo _ _ _) (by decide), holdsSlot_takeSlot _ _ _ _ _ hn]

/-- A START that may fit its domain leaves the slot. -/
theorem holdsSlot_askStart {s : State} {n : Nat} (h : s.neverFits (s.mechRequest 4 n 0 0 none) = false) : (s.askStart n).holdsSlot n = s.holdsSlot n := by
  unfold State.askStart
  extract_lets amt c r
  have hr : s.neverFits r = false := by
    refine ((SameCosts.refl s).neverFits (r := s.mechRequest 4 n 0 0 none) (q := r) (by simp [State.mechRequest]) (by simp [r]) rfl ?_).trans h
    simp only [State.mechRequest, r, amt, reqAmount_start, if_neg (show ¬ (4 : Nat) = 5 by decide)]
  have ht : (s.request r).1.holdsSlot n = s.holdsSlot n := holdsSlot_off (it_request _ _) (by decide) n
  split
  · next t heq => exact absurd (congrArg Prod.snd heq) (request_not_refused hr)
  · next t d _ heq =>
    rw [heq] at ht
    exact ht

/-! ### Attaching -/

theorem attach_rests (s : State) {n : Nat} (clamped : Bool) (hn : n < 4096) :
    (s.attach n clamped).mst n = (if clamped then 3 else 1) ∧ ((s.attach n clamped).mx n).clamped = clamped := by
  unfold State.attach
  extract_lets s1
  refine ⟨mst_endMove _ hn (by cases clamped <;> decide), ?_⟩
  rw [clamped_of_lasting (lasting_endMove _ _ _ _), mx_off (it_loadLimits _ _) (by decide), clamped_of_lasting (lasting_enterState _ _ _ _), mx_modMech_same]

end Sys2Proof.Proofs
end

section
/-! OBLIGATION O48. -/

namespace Sys2Proof.Proofs

open Sys2Proof.Machine Sys2Proof.Laws

/-! ### The sled -/

theorem sledHoldCurrent_holds {mn : Mn} {t0 : Nat} {s : State} (hslot : s.holdsSlot mn = true) (hrest : (s.sx mn).sled.restAt = some t0)
    (hdue : t0 + ms (holdDelayMs (s.sx mn).drSled) ≤ s.now) (hmoving : s.on .MECH_SLED_STAT_MOVING mn = false) :
    Completes (.sledHoldCurrent mn) s fun t => t.on .MECH_SLED_STAT_HOLDING mn = true := by
  have he : exec (.sledHoldCurrent mn) s = fin (s.raise .MECH_SLED_STAT_HOLDING mn) := by
    show execSledHoldCurrent mn s = _
    simp [execSledHoldCurrent, hslot, hrest, hdue, hmoving]
  refine completes_fin he ?_
  rw [on_off (it_noteEvents _) (by decide)]
  exact on_eq_true_of_get (get_raise_self (by decide) _ _ (mechReg_has (by decide) mn.isLt) (by decide))

theorem sledDone_err (s : State) (t : Nat) : (s.sledDone t).noteEvents.get .MECH_SLED_TBL_CTRL_ERR = 0 := by
  rw [get_off (it_noteEvents _) (by decide)]
  exact get_set0_self (by decide) _ _ (by decide)

theorem sledDone_stage (s : State) (t i : Nat) : (s.sledDone t).noteEvents.rd .MECH_SLED_TBL_STAGE i = s.rd .MECH_SLED_TBL_STAGE i := by
  rw [rd_off (it_noteEvents _) (by decide), rd_off (it_sledDone _ _) (by decide)]

theorem putSledStage_stage (s : State) (t : List Nat) {i : Nat} (hi : i < 256) : (s.putSledStage t).rd .MECH_SLED_TBL_STAGE i = BitVec.ofNat 32 (dw t i) := by
  have hhas : ∀ j < 256, Reg.MECH_SLED_TBL_STAGE.has j 0 = true := fun j hj => by simpa [Reg.has, Reg.MECH_SLED_TBL_STAGE] using hj
  refine forEach_reaches (P := fun _ => True) (Q := fun u => u.rd .MECH_SLED_TBL_STAGE i = BitVec.ofNat 32 (dw t i)) (List.mem_range.mpr hi) trivial
    (fun _ _ _ => trivial) (fun u _ => rd_wr_same _ _ _ _ _ (hhas i hi)) fun j u hu => ?_
  by_cases h : j = i
  · subst h
    exact rd_wr_same _ _ _ _ _ (hhas j hi)
  · rw [rd_wr_index _ _ _ _ _ _ _ (addr_ne (by decide) h), hu]

/-- The slots of a class hold the table anew. -/
theorem forEach_tableNew {s : State} {l : List (Nat × ServoX)} {t : List Nat} {n : Nat} (hn : n ∈ l.map (·.1)) :
    ((s.forEach l fun u e => u.modSled e.1 fun x => { x with tableNew := t }).sx n).sled.tableNew = t := by
  obtain ⟨e, he, rfl⟩ := List.mem_map.mp hn
  have hsame : ∀ (u : State) (k : Nat), ((u.modSled k fun x => { x with tableNew := t }).sx k).sled.tableNew = t := fun u k =>
    congrArg (fun v : ServoX => v.sled.tableNew) (sx_modServo_same u k _)
  refine forEach_reaches (P := fun _ => True) (Q := fun u => (u.sx e.1).sled.tableNew = t) he trivial (fun _ _ _ => trivial) (fun u _ => hsame u _) fun e' u hu => ?_
  by_cases h : e'.1 = e.1
  · rw [← h]
    exact hsame u _
  · exact (congrArg (fun v : ServoX => v.sled.tableNew) (sx_modServo_ne u h _)).trans hu

/-- Every cluster holds the staged table for the class. -/
def tableHeld (s : State) (cls : Nat) : State := s.modCirq fun q => { q with sledTbl := tabPut q.sledTbl cls s.sledStage sledDefault }

/-- The slots of the class. -/
def slotsOfClass (s : State) (cls : Nat) : Tab ServoX := s.servo.filter fun e => s.holdsSlot e.1 && s.clsOf e.1 == cls

theorem sledTblStageToTable_copies {cls : Fin 8} {s : State} (hc : s.closed = false) : Completes (.sledTblStageToTable cls) s fun t =>
    t.sledTable cls = s.sledStage ∧ t.get .MECH_SLED_TBL_CTRL_ERR = 0 ∧
      ∀ n ∈ s.servo.map (·.1), s.holdsSlot n = true → s.clsOf n = cls.val → (t.sx n).sled.tableNew = s.sledStage := by
  have hstage : (s.dozeWake 2).sledStage = s.sledStage := by
    simp only [State.sledStage, rd_off (it_dozeWake s 2) (r := .MECH_SLED_TBL_STAGE) (j := 0) (by decide)]
  have he : exec (.sledTblStageToTable cls) s = fin (((tableHeld (s.dozeWake 2) cls).forEach (slotsOfClass (tableHeld (s.dozeWake 2) cls) cls) fun u e =>
      u.modSled e.1 fun x => { x with tableNew := (s.dozeWake 2).sledStage }).sledDone cls) := by
    show execSledTblStageToTable cls s = _
    rw [execSledTblStageToTable, regCmd_open hc]
    rfl
  refine completes_fin he ⟨?_, sledDone_err _ _, fun n hn hslot hcls => ?_⟩
  · rw [State.sledTable, cirq_off (it_noteEvents _) (by decide), cirq_off (it_sledDone _ _) (by decide),
      cirq_off (l := foot_modSled) (fun hq => it_forEach _ _ _ fun _ _ => it_modSled _ _ _ hq) (by decide)]
    exact (tabGet_tabPut_same _ _ _ _).trans hstage
  · rw [sx_off (it_noteEvents _) (by decide), sx_off (it_sledDone _ _) (by decide), hstage]
    refine forEach_tableNew ?_
    obtain ⟨e, he, rfl⟩ := List.mem_map.mp hn
    refine List.mem_map.mpr ⟨e, List.mem_filter.mpr ⟨?_, ?_⟩, rfl⟩
    · exact (servo_off (it_dozeWake s 2) (by decide)) ▸ he
    · have h1 : (tableHeld (s.dozeWake 2) cls).holdsSlot e.1 = s.holdsSlot e.1 := by
        rw [tableHeld, holdsSlot_off (it_modCirq _ _) (by decide), holdsSlot_off (it_dozeWake s 2) (by decide)]
      have h2 : (s.dozeWake 2).clsOf e.1 = s.clsOf e.1 := by rw [State.clsOf, mx_off (it_dozeWake s 2) (by decide)]; rfl
      rw [h1, hslot, Bool.true_and, beq_iff_eq]
      exact h2.trans hcls

theorem sledTblTableToStage_copies {cls : Fin 8} {s : State} (hc : s.closed = false) : Completes (.sledTblTableToStage cls) s fun t =>
    t.get .MECH_SLED_TBL_CTRL_ERR = 0 ∧ ∀ i < 256, t.rd .MECH_SLED_TBL_STAGE i = BitVec.ofNat 32 (dw (s.sledTable cls) i) := by
  have he : exec (.sledTblTableToStage cls) s = fin (((s.dozeWake 2).putSledStage ((s.dozeWake 2).sledTable cls)).sledDone cls) := by
    show execSledTblTableToStage cls s = _
    rw [execSledTblTableToStage, regCmd_open hc]
  refine completes_fin he ⟨sledDone_err _ _, fun i hi => ?_⟩
  rw [sledDone_stage, putSledStage_stage _ _ hi, State.sledTable, cirq_off (it_dozeWake s 2) (by decide)]
  rfl

theorem sledTblDefaultToStage_copies {cls : Fin 8} {s : State} (hc : s.closed = false) : Completes (.sledTblDefaultToStage cls) s fun t =>
    t.get .MECH_SLED_TBL_CTRL_ERR = 0 ∧ ∀ i < 256, t.rd .MECH_SLED_TBL_STAGE i = BitVec.ofNat 32 (dw sledDefault i) := by
  have he : exec (.sledTblDefaultToStage cls) s = fin (((s.dozeWake 2).putSledStage sledDefault).sledDone cls) := by
    show execSledTblDefaultToStage cls s = _
    rw [execSledTblDefaultToStage, regCmd_open hc]
  refine completes_fin he ⟨sledDone_err _ _, fun i hi => ?_⟩
  rw [sledDone_stage, putSledStage_stage _ _ hi]

/-! ### Tray and clamp moves -/

theorem trayMoveStart_starts {mn : Mn} {s : State} (hwait : (s.mx mn).waitTray.isSome = true) (htray : (s.mx mn).tray = none)
    (hseek : (s.grants mn).seek.isSome = true) (hpos : (s.positionOf (portOf mn) (dropOf mn)).isSome = true) (hturn : s.on .MECH_STATE_TURNING mn = false) :
    Completes (.trayMoveStart mn) s fun t => (t.mx mn).waitTray = none ∧
      ∃ x, (t.mx mn).tray = some x ∧ x.kind = s.trayKind mn ∧ x.start = s.now ∧ x.dr = s.driveRec (s.clsOf mn) := by
  have he : exec (.trayMoveStart mn) s = fin ((s.modMech mn fun x =>
      { x with tray := some { kind := s.trayKind mn, start := s.now, dr := s.driveRec (s.clsOf mn) }, waitTray := none }).trayReads mn (s.mx mn).trayIn (s.mx mn).trayOut (s.mx mn).clamped) := by
    show execTrayMoveStart mn s = _
    rw [execTrayMoveStart]
    refine if_neg ?_
    simp [Option.isNone_eq_false_iff.mpr hwait, htray, Option.isNone_eq_false_iff.mpr hseek, Option.isNone_eq_false_iff.mpr hpos, hturn]
  refine completes_fin he ?_
  rw [mx_off (it_noteEvents _) (by decide)]
  simp only [State.trayReads, mx_modMech_same, Option.map_some]
  exact ⟨trivial, _, rfl, rfl, rfl, rfl⟩

/-- What a move that has reached its switch leaves, by its kind: the meaning of TRAY_SWITCH_REACHED. -/
def switchReached (s : State) (n kind : Nat) : State :=
  let s1 := s.stopTray n
  match kind with
  | 1 => if (s.mx n).disc then s1.askTray n else (s1.endMove n 1).completeState n 7 0x0404
  | 2 => (s1.endMove n 1).completeState n 8 0
  | 3 => (((s1.bumpWrap .MECH_CLAMP_CNT_CLAMPS n).modMech n fun m => { m with clamped := true }).endMove n 3).completeState n 7 0
  | _ => (((s1.modMech n fun m => { m with clamped := false }).clearDisc n).askTray n)

theorem exec_traySwitchReached {mn : Mn} {s : State} {x : TrayX} {a : Nat} (hx : (s.mx mn).tray = some x) (ha : x.since = some a)
    (hdue : a + ms (debounceMs x.dr) ≤ s.now) : exec (.traySwitchReached mn) s = fin (switchReached s mn x.kind) := by
  show execTraySwitchReached mn s = _
  rw [execTraySwitchReached, hx]
  simp only [ha, hdue, decide_true, Bool.not_true, Bool.false_eq_true, if_false]
  generalize x.kind = k
  match k with
  | 1 => exact (apply_ite fin _ _ _).symm
  | 0 | 2 | 3 | _ + 4 => rfl

theorem cmdsOf_stopTray (s : State) (n : Nat) : (s.stopTray n).cmdsOf n = s.cmdsOf n := cmdsOf_off (it_stopTray s n) (by decide) n

theorem clamped_switchReached {s : State} {n : Nat} : ((switchReached s n 3).mx n).clamped = true := by
  show ((State.completeState _ n 7 0).mx n).clamped = true
  rw [clamped_of_lasting (lasting_completeState _ _ _ _ _), clamped_of_lasting (lasting_endMove _ _ _ _), mx_modMech_same]

theorem clamps_switchReached (s : State) {n : Nat} (hn : n < 4096) :
    (switchReached s n 3).get .MECH_CLAMP_CNT_CLAMPS n = (s.get .MECH_CLAMP_CNT_CLAMPS n + 1) % 2 ^ Fld.MECH_CLAMP_CNT_CLAMPS.width := by
  show (State.completeState _ n 7 0).get .MECH_CLAMP_CNT_CLAMPS n = _
  rw [get_off (it_completeState _ _ _ _) (by decide), get_off (it_endMove _ _ _) (by decide), get_modMech, State.bumpWrap,
    get_set_self (f := .MECH_CLAMP_CNT_CLAMPS) (by decide) _ _ _ (mechReg_has (by decide) hn), get_off (it_stopTray s n) (by decide)]

theorem now_stopTray (s : State) (n : Nat) : (s.stopTray n).now = s.now := now_off (it_stopTray s n) (by decide)

theorem costs_stopTray (s : State) (n : Nat) : SameCosts s (s.stopTray n) := (costs_arbitrated s).stopTray n (.refl s)

/-- A LOAD with a disc in the tray goes on to clamp it, and an EJECT that has released its disc goes on to open. -/
theorem waitTray_switchReached {s : State} {n kind : Nat} (hk : (kind = 1 ∧ (s.mx n).disc = true) ∨ kind = 4)
    (h : s.neverFits (s.mechRequest 2 n 0 0 none) = false) : ((switchReached s n kind).mx n).waitTray = some s.now := by
  rcases hk with ⟨rfl, hd⟩ | rfl
  · have he : switchReached s n 1 = (s.stopTray n).askTray n := if_pos hd
    rw [he, waitTray_askTray (((costs_stopTray s n).seek n).trans h), now_stopTray]
  · have hv : SameCosts s (((s.stopTray n).modMech n fun m => { m with clamped := false }).clearDisc n) :=
      .same (sameView_clearDisc _ n) (.same (sameView_modMech _ n) (costs_stopTray s n))
    show ((State.askTray _ n).mx n).waitTray = _
    rw [waitTray_askTray ((hv.seek n).trans h), now_off (it_clearDisc _ n) (by decide)]
    exact congrArg some (now_stopTray s n)

theorem clamped_clearDisc (s : State) (n k : Nat) : ((s.clearDisc n).mx k).clamped = (s.mx k).clamped := by
  unfold State.clearDisc State.clearMount
  rw [mx_off (it_wr _ _ _ _ _) (by decide), mx_off (it_watchSets _) (by decide)]
  refine (mx_modMech_eq (g := MechX.clamped) (f := fun m => { m with discId := 0, mountHeld := false }) _ n k).trans ?_
  show (((s.set _ n 0).set _ n 0).mx k).clamped = _
  rw [mx_set, mx_set]

theorem released_switchReached (s : State) {n : Nat} (hn : n < 4096) :
    ((switchReached s n 4).mx n).clamped = false ∧ (switchReached s n 4).rd .MECH_DISC n = 0 := by
  constructor
  · show ((State.askTray _ n).mx n).clamped = false
    rw [clamped_askTray, clamped_clearDisc, mx_modMech_same]
  · show (State.askTray _ n).rd .MECH_DISC n = 0
    rw [rd_off (it_askTray _ _) (by decide), clearDisc_disc _ hn]

theorem traySwitchReached_goesOn {mn : Mn} {s : State} {x : TrayX} {a : Nat} (hx : (s.mx mn).tray = some x) (ha : x.since = some a)
    (hdue : a + ms (debounceMs x.dr) ≤ s.now) : Completes (.traySwitchReached mn) s fun t =>
    (x.kind = 1 → (s.mx mn).disc = false → t.mst mn = 1 ∧ t.on .MECH_STATE_BUSY mn = false ∧
      ∀ c ∈ s.cmdsOf mn, c.d.opcode = 7 → c.started = true → Ended c.fn c.d.tag 0x0404 t) ∧
    (x.kind = 2 → t.mst mn = 1 ∧ t.on .MECH_STATE_BUSY mn = false ∧ ∀ c ∈ s.cmdsOf mn, c.d.opcode = 8 → c.started = true → Ended c.fn c.d.tag 0 t) ∧
    (x.kind = 3 → (t.mx mn).clamped = true ∧ t.mst mn = 3 ∧
      t.get .MECH_CLAMP_CNT_CLAMPS mn = (s.get .MECH_CLAMP_CNT_CLAMPS mn + 1) % 2 ^ Fld.MECH_CLAMP_CNT_CLAMPS.width ∧
      ∀ c ∈ s.cmdsOf mn, c.d.opcode = 7 → c.started = true → Ended c.fn c.d.tag 0 t) ∧
    ((x.kind = 1 ∧ (s.mx mn).disc = true) ∨ x.kind = 4 → s.neverFits (s.mechRequest 2 mn 0 0 none) = false → (t.mx mn).waitTray = some s.now) ∧
    (x.kind = 4 → (t.mx mn).clamped = false ∧ t.rd .MECH_DISC mn = 0) := by
  have hmx : ∀ u : State, u.noteEvents.mx mn = u.mx mn := fun u => mx_off (it_noteEvents u) (by decide) mn
  refine completes_fin (exec_traySwitchReached hx ha hdue) ⟨fun hk hd => ?_, fun hk => ?_, fun hk => ?_, fun hk hf => ?_, fun hk => ?_⟩
  · have he : switchReached s mn 1 = ((s.stopTray mn).endMove mn 1).completeState mn 7 0x0404 := if_neg (by simp [hd])
    rw [hk, he, ← cmdsOf_stopTray]
    exact endMove_completeState mn.isLt (by decide)
  · rw [hk, ← cmdsOf_stopTray]
    exact endMove_completeState mn.isLt (by decide)
  · have hcmds : s.cmdsOf mn = (((s.stopTray mn).bumpWrap .MECH_CLAMP_CNT_CLAMPS mn).modMech mn fun m => { m with clamped := true }).cmdsOf mn := by
      rw [cmdsOf_off (it_modMech _ _ _) (by decide), cmdsOf_off (it_bumpWrap _ _ _) (by decide), cmdsOf_stopTray]
    obtain ⟨hst, -, hend⟩ := endMove_completeState (s := ((s.stopTray mn).bumpWrap .MECH_CLAMP_CNT_CLAMPS mn).modMech mn fun m => { m with clamped := true })
      (op := 7) (status := 0) mn.isLt (show 3 < 16 by decide)
    rw [hk, hmx, hcmds]
    exact ⟨clamped_switchReached, hst, (get_off (it_noteEvents _) (by decide)).trans (clamps_switchReached s mn.isLt), hend⟩
  · rw [hmx]
    exact waitTray_switchReached hk hf
  · rw [hk, hmx, rd_off (it_noteEvents _) (by decide)]
    exact released_switchReached s mn.isLt

theorem trayTimeout_faults {mn : Mn} {s : State} (hst : s.mst mn ∉ [0, 8, 9]) (h : s.trayOverdue mn = true) :
    Completes (.trayTimeout mn) s (FaultTaken mn 0x39) := by
  have he : exec (.trayTimeout mn) s = fin (s.fault mn 0x39 0) := by
    show execTrayTimeout mn s = _
    exact if_pos h
  exact completes_fin he (faultTaken_noteEvents (faultTaken_fault 0 mn.isLt (by decide) (by decide) hst))

/-! ### Freed servo positions -/

theorem servoPositionGrant_serves {p : PortIx} {s : State} {w : Nat × Nat × Bool} {l : List (Nat × Nat × Bool)} (hw : s.waiters p = w :: l) :
    Completes (.servoPositionGrant p) s fun t =>
    (∀ k, w.2.2 = true → s.freePosition p = some k → t.on .PEN_DROP_SERVO p (dropOf w.2.1) = true) ∧
    (∀ u, w.2.2 = false → s.slotClaimed w.2.1 (some w.1) = false → s.grabSlot w.2.1 = some u → u.neverFits (u.mechRequest 4 w.2.1 0 0 none) = false →
      t.holdsSlot w.2.1 = true) := by
  have hport : portOf w.2.1 = p := waiters_port (s := s) (hw ▸ List.mem_cons_self)
  have hlt := lt_of_port hport
  have he : exec (.servoPositionGrant p) s = fin (s.servePositions (w :: l)) := by
    rw [← hw]
    rfl
  have hserve : ∀ {u}, s.serveWaiter w = some u → s.servePositions (w :: l) = u := fun h => by rw [State.servePositions, h]
  refine completes_fin he ⟨fun k hb hk => ?_, fun u hb hclaim hgrab hfit => ?_⟩
  · have hs : s.serveWaiter w = some (s.takePosition w.2.1 k 0 0) := by rw [State.serveWaiter, if_pos hb, hport, hk]; rfl
    rw [hserve hs, on_off (it_noteEvents _) (by decide), ← hport]
    exact takePosition_servo s k 0 0 hlt
  · have hs : s.serveWaiter w = some (u.askStart w.2.1) := by rw [State.serveWaiter, if_neg (by simp [hb]), if_neg (by simp [hclaim]), hgrab]; rfl
    rw [hserve hs, holdsSlot_off (it_noteEvents _) (by decide), holdsSlot_askStart hfit, holdsSlot_grabSlot hlt hgrab]

/-! ### MECH_CTRL -/

theorem mst_dozeWake (s : State) (n : Nat) : (s.dozeWake 2).mst n = s.mst n := mst_off (it_dozeWake s 2) (by decide) n

theorem forceSafe_faults {mn : Mn} {s : State} (hc : s.closed = false) (hst : s.mst mn ∉ [0, 8, 9]) : Completes (.forceSafe mn) s (FaultTaken mn 0x90) := by
  have he : exec (.forceSafe mn) s = fin ((s.dozeWake 2).fault mn 0x90 0) := by
    show execForceSafe mn s = _
    rw [execForceSafe, regCmd_open hc]
  exact completes_fin he (faultTaken_noteEvents (faultTaken_fault 0 mn.isLt (by decide) (by decide) (mst_dozeWake s mn ▸ hst)))

theorem clrFault_rests {mn : Mn} {s : State} (hc : s.closed = false) (hst : s.mst mn = 8) : Completes (.clrFault mn) s fun t =>
    t.mst mn = s.restState mn ∧ t.on .MECH_STATE_BUSY mn = false := by
  have he : exec (.clrFault mn) s = fin ((s.dozeWake 2).clearFault mn) := by
    show execClrFault mn s = _
    rw [execClrFault, regCmd_open hc]
    exact if_pos ((mst_dozeWake s mn).trans hst)
  have hrest : (s.dozeWake 2).restState mn = s.restState mn := restState_congr (by rw [mx_off (it_dozeWake s 2) (by decide)]) (get_off (it_dozeWake s 2) (by decide))
  refine completes_fin he ⟨?_, ?_⟩
  · rw [mst_off (it_noteEvents _) (by decide), ← hrest]
    exact mst_endMove _ mn.isLt (Nat.lt_of_le_of_lt (restState_le _ _) (by decide))
  · rw [on_off (it_noteEvents _) (by decide)]
    exact busy_endMove _ _ mn.isLt

theorem unisolate_ends {mn : Mn} {pass clamped : Bool} {s : State} (hc : s.closed = false) (hst : s.mst mn = 9) : Completes (.unisolate mn pass clamped) s fun t =>
    (pass = true → t.mst mn = (if clamped then 3 else 1) ∧ tabGet t.isol mn none = none ∧ (t.mx mn).clamped = clamped) ∧
    (pass = false → t.mst mn = 9 ∧ t.get .MECH_FAULT_CODE mn = 0x80) := by
  have hst' := (mst_dozeWake s mn).trans hst
  cases pass with
  | true =>
    have he : exec (.unisolate mn true clamped) s = fin ({ s.dozeWake 2 with isol := tabDel (s.dozeWake 2).isol mn }.attach mn clamped) := by
      show execUnisolate mn true clamped s = _
      rw [execUnisolate, regCmd_open hc]
      exact if_neg (fun h => h hst')
    obtain ⟨hrest, hclamp⟩ := attach_rests { s.dozeWake 2 with isol := tabDel (s.dozeWake 2).isol mn } clamped mn.isLt
    refine completes_fin he ⟨fun _ => ⟨?_, ?_, ?_⟩, nofun⟩
    · rw [mst_off (it_noteEvents _) (by decide), hrest]
    · rw [isol_off (it_noteEvents _) (by decide), isol_off (it_attach _ _ _) (by decide)]
      exact tabGet_tabDel_same _ _ _
    · rw [mx_off (it_noteEvents _) (by decide), hclamp]
  | false =>
    have he : exec (.unisolate mn false clamped) s = fin ((s.dozeWake 2).recordFault mn 0x80 0) := by
      show execUnisolate mn false clamped s = _
      rw [execUnisolate, regCmd_open hc]
      refine (if_neg (fun h => h hst')).trans (congrArg fin ?_)
      rw [State.fault]
      simp [hst']
    refine completes_fin he ⟨nofun, fun _ => ⟨?_, ?_⟩⟩
    · rw [mst_off (it_noteEvents _) (by decide), mst_off (it_recordFault _ _ _ _) (by decide), hst']
    · rw [get_off (it_noteEvents _) (by decide), recordFault_code _ _ mn.isLt (by decide)]

/-- Settles O48, clause by clause: the sled, the tray and clamp moves, the freed servo positions and MECH_CTRL. -/
theorem sledTrayAndControl : Obligations.SledTrayAndControl :=
  ⟨fun _ _ _ hslot hrest hdue hmoving => sledHoldCurrent_holds hslot hrest hdue hmoving,
    fun _ _ hc => ⟨sledTblStageToTable_copies hc, sledTblTableToStage_copies hc, sledTblDefaultToStage_copies hc⟩,
    fun _ _ hwait htray hseek hpos hturn => trayMoveStart_starts hwait htray hseek hpos hturn,
    fun _ _ _ _ hx ha hdue => traySwitchReached_goesOn hx ha hdue, fun _ _ hst h => trayTimeout_faults hst h,
    fun _ _ _ _ hw => servoPositionGrant_serves hw, fun _ _ hc hst => forceSafe_faults hc hst, fun _ _ hc hst => clrFault_rests hc hst,
    fun _ _ _ _ hc hst => unisolate_ends hc hst⟩

end Sys2Proof.Proofs
end

section
/-! SUPPORT. A request that is granted at once (R306, R307): nothing else waits in its domain and it may be granted. -/

namespace Sys2Proof.Proofs

open Sys2Proof.Machine Sys2Proof.Laws

/-! ### What a decision depends on -/

/-- A grant is decided as before: only deferred requests and the flags that an evaluation writes differ. -/
structure SamePower (s t : State) : Prop where
  regs : ∀ r ∈ Reg.BRTH_DOM_KEEP :: costRegs, ∀ i, t.rd r i = s.rd r i
  grants : t.breath.grants = s.breath.grants
  link : t.breath.link = s.breath.link
  standing : t.breath.standing = s.breath.standing
  cfg : ∀ n, (t.mx n).cfgEff = (s.mx n).cfgEff
  overdraw : ∀ d, t.get .BRTH_DOM_STAT_OVERDRAW d = s.get .BRTH_DOM_STAT_OVERDRAW d

theorem SamePower.refl (s : State) : SamePower s s := ⟨fun _ _ _ => rfl, rfl, rfl, rfl, fun _ => rfl, fun _ => rfl⟩

theorem SamePower.trans {s t u : State} (h : SamePower s t) (k : SamePower t u) : SamePower s u :=
  ⟨fun r hr i => (k.regs r hr i).trans (h.regs r hr i), k.grants.trans h.grants, k.link.trans h.link, k.standing.trans h.standing,
    fun n => (k.cfg n).trans (h.cfg n), fun d => (k.overdraw d).trans (h.overdraw d)⟩

section
variable {s t : State} (h : SamePower s t)
include h

theorem SamePower.costs : SameCosts s t := ⟨fun r hr => h.regs r (List.mem_cons_of_mem _ hr), h.standing, h.cfg⟩

theorem SamePower.committed (d : Nat) : t.committed d = s.committed d := by
  rw [State.committed, State.committed, h.costs.standingIn, h.grants, h.link]
  simp only [h.costs.domOf]

theorem SamePower.unlimited (d : Nat) : t.unlimited d = s.unlimited d := by
  rw [State.unlimited, h.costs.get .BRTH_DOM_BUDGET_MW (by simp [costRegs, Fld.BRTH_DOM_BUDGET_MW])]
  rfl

theorem SamePower.grantable (d : Nat) : t.grantable d = s.grantable d := by
  rw [State.grantable, h.costs.get .BRTH_DOM_BUDGET_MW (by simp [costRegs, Fld.BRTH_DOM_BUDGET_MW]),
    h.costs.get .BRTH_DOM_RESERVE_MW (by simp [costRegs, Fld.BRTH_DOM_RESERVE_MW])]
  rfl

theorem SamePower.overcommit (d : Nat) : t.overcommit d = s.overcommit d := by
  rw [State.overcommit, h.unlimited, h.grantable, h.committed]
  rfl

end

/-- The same request, but for its rank and the command it serves; it may have aged. -/
structure SameRequest (r q : PowerReq) : Prop where
  cls : q.cls = r.cls
  who : q.who = r.who
  dom : q.dom = r.dom
  mw : q.mw = r.mw
  spinPart : q.spinPart = r.spinPart
  rpm4 : q.rpm4 = r.rpm4
  aged : r.aged = true → q.aged = true

theorem fits_iff (s : State) (r : PowerReq) : s.fits r = true ↔ s.unlimited r.dom = true ∨
    r.mw - s.replaces r + (if (r.cls = 4 ∨ r.cls = 5) ∧ ¬ r.aged then s.get .BRTH_DOM_KEEP_MW r.dom else 0) ≤ s.freePower r.dom :=
  (Bool.or_eq_true _ _).to_iff.trans (or_congr_right decide_eq_true_iff)

theorem SamePower.grantNow {s t : State} {r q : PowerReq} (h : SamePower s t) (hq : SameRequest r q) (hg : s.grantNow r = true) : t.grantNow q = true := by
  rw [State.grantNow, Bool.and_eq_true, Bool.and_eq_true] at hg ⊢
  obtain ⟨⟨hfit, hover⟩, hdraw⟩ := hg
  refine ⟨⟨?_, by rw [hq.dom, h.overcommit]; exact hover⟩, by rw [hq.dom, on_of_get (h.overdraw _)]; exact hdraw⟩
  have hrep : t.replaces q = s.replaces r := by
    rw [State.replaces, hq.cls, hq.who, State.grants, h.grants]
    rfl
  have hkeep : t.get .BRTH_DOM_KEEP_MW q.dom = s.get .BRTH_DOM_KEEP_MW r.dom := by
    rw [hq.dom, State.get, h.regs (Fld.BRTH_DOM_KEEP_MW.reg) List.mem_cons_self]
    rfl
  have hfree : t.freePower q.dom = s.freePower r.dom := by rw [State.freePower, hq.dom, h.grantable, h.committed]; rfl
  rw [fits_iff] at hfit ⊢
  rw [hrep, hkeep, hfree, hq.mw, hq.cls, hq.dom, h.unlimited]
  refine hfit.imp_right fun hle => Nat.le_trans (Nat.add_le_add_left ?_ _) hle
  have haged := hq.aged
  split
  · next hk => rw [if_pos ⟨hk.1, fun hr => hk.2 (haged hr)⟩]
  · exact Nat.zero_le _

/-! ### What a grant leaves out of account -/

theorem standing_le_committed (s : State) (d : Nat) : s.standingIn d ≤ s.committed d := by
  rw [State.committed]
  omega

theorem fits_of_grantNow {s : State} {r : PowerReq} (h : s.grantNow r = true) : s.fits r = true := by
  rw [State.grantNow, Bool.and_eq_true, Bool.and_eq_true] at h
  exact h.1.1

/-- A request that may be granted can fit its domain. -/
theorem neverFits_of_grantNow {s : State} {r : PowerReq} (h : s.grantNow r = true) : s.neverFits r = false := by
  have hfit := (fits_iff s r).mp (fits_of_grantNow h)
  have hle := standing_le_committed s r.dom
  rw [State.freePower] at hfit
  rw [State.neverFits, Bool.and_eq_false_iff]
  rcases hfit with hu | hle'
  · exact Or.inl (by rw [hu]; rfl)
  · refine Or.inr (decide_eq_false ?_)
    omega

/-! ### The evaluation that grants it -/

theorem SamePower.set {s t : State} {f : Fld} (hf : f.reg = .BRTH_DOM_STAT ∧ beside f .BRTH_DOM_STAT_OVERDRAW = true ∨ f.reg = .BRTH_EVENT) (i v : Nat)
    (h : SamePower s t) : SamePower s (t.set f i v) := by
  have hdisj : ∀ e ∈ [Reg.BRTH_DOM_STAT, .BRTH_EVENT], ∀ r ∈ Reg.BRTH_DOM_KEEP :: costRegs, disj e r = true := by decide
  have hreg : f.reg ∈ [Reg.BRTH_DOM_STAT, .BRTH_EVENT] := by
    rcases hf with ⟨h, -⟩ | h <;> simp [h]
  have hb : (t.set f i v).breath = t.breath := set2_breath t f i 0 v
  refine ⟨fun r hr k => (rd_wr_disj t f.reg r i 0 k 0 _ (hdisj _ hreg r hr)).trans (h.regs r hr k), by rw [hb, h.grants], by rw [hb, h.link],
    by rw [hb, h.standing], fun n => ?_, fun d => ?_⟩
  · rw [mx_set]
    exact h.cfg n
  · refine Eq.trans ?_ (h.overdraw d)
    rcases hf with ⟨hr, hb⟩ | hr
    · exact get_set_otherField hr.symm (hr ▸ by decide) hb t i v d
    · exact get_set_disj (hr ▸ by decide) t i v d 0

theorem SamePower.noteOvercommit {s t : State} (d : Nat) (h : SamePower s t) : SamePower s (t.noteOvercommit d) := by
  unfold State.noteOvercommit
  split
  · split
    · exact h
    · exact .set (Or.inr rfl) 0 d (.set (Or.inr rfl) 0 1 (.set (Or.inl ⟨rfl, by decide⟩) d 1 h))
  · exact .set (Or.inl ⟨rfl, by decide⟩) d 0 h

/-- What becomes of the requests of a domain as they age. -/
def agedNow (s : State) (d : Nat) (r : PowerReq) : PowerReq :=
  if r.dom = d then { r with aged := decide (r.at_ + ms (s.get .BRTH_GCFG_AGE_MS) ≤ s.now), agedOnce := r.agedOnce || decide (r.at_ + ms (s.get .BRTH_GCFG_AGE_MS) ≤ s.now) }
  else r

theorem reqs_ageRequests (s : State) (d : Nat) : (s.ageRequests d).breath.reqs = s.breath.reqs.map (agedNow s d) := by
  unfold State.ageRequests
  extract_lets old s1
  split
  · simp only [State.set0, State.raise, State.set, set2_breath]
    rfl
  · rfl

theorem SamePower.ageRequests {s t : State} (d : Nat) (h : SamePower s t) : SamePower s (t.ageRequests d) := by
  unfold State.ageRequests
  extract_lets old s1
  have h1 : SamePower s s1 := ⟨h.regs, h.grants, h.link, h.standing, h.cfg, h.overdraw⟩
  split
  · exact .set (Or.inr rfl) 0 d (.set (Or.inr rfl) 0 1 h1)
  · exact h1

theorem sameRequest_agedNow {s : State} {r : PowerReq} (d : Nat) (h : r.aged = false) : SameRequest r (agedNow s d r) := by
  unfold agedNow
  split <;> exact ⟨rfl, rfl, rfl, rfl, rfl, rfl, by simp [h]⟩

/-- A request has come, and its domain is about to be evaluated (R306). -/
def asked (s : State) (r : PowerReq) : State :=
  (((s.modBreath fun b => { b with reqs := b.reqs ++ [r] }).noteOvercommit r.dom).ageRequests r.dom).set .BRTH_DOM_STAT_BLOCKED r.dom 0

theorem samePower_asked (s : State) (r : PowerReq) : SamePower s (asked s r) := by
  refine .set (Or.inl ⟨rfl, by decide⟩) _ _ (.ageRequests _ (.noteOvercommit _ ?_))
  exact ⟨fun _ _ _ => rfl, rfl, rfl, rfl, fun _ => rfl, fun _ => rfl⟩

/-- What a request writes before its domain is evaluated. -/
def askedSpots : List Spot := foot_ageRequests ++ foot_noteOvercommit ++ [.f .BRTH_DOM_STAT_BLOCKED, .p .breath]

theorem it_asked {iq : Item} (s : State) (r : PowerReq) (hq : iq.off askedSpots = true) : itm iq (asked s r) = itm iq s := by
  rw [askedSpots, off_append, off_append, Bool.and_eq_true, Bool.and_eq_true] at hq
  obtain ⟨⟨hage, hover⟩, hrest⟩ := hq
  rw [Item.off, List.all_cons, List.all_cons, Bool.and_eq_true, Bool.and_eq_true] at hrest
  obtain ⟨hblocked, hbreath, -⟩ := hrest
  rw [asked, it_set _ _ _ _ (by rw [Item.off, List.all_cons, hblocked]; rfl), it_ageRequests _ _ hage, it_noteOvercommit _ _ hover,
    it_modBreath _ _ (by rw [foot_modBreath, Item.off, List.all_cons, hbreath]; rfl)]

/-- The deferred requests of its domain are this one alone, where nothing else waited. -/
theorem reqs_asked {s : State} {r : PowerReq} (hfree : ∀ q ∈ s.breath.reqs, q.dom ≠ r.dom) :
    ∃ t, (asked s r).breath.reqs.filter (fun q => q.dom == r.dom) = [agedNow t r.dom r] := by
  have hdom : ∀ (t : State) (q : PowerReq), (agedNow t r.dom q).dom = q.dom := fun t q => by
    unfold agedNow
    split <;> rfl
  refine ⟨(s.modBreath fun b => { b with reqs := b.reqs ++ [r] }).noteOvercommit r.dom, ?_⟩
  have hover : ((s.modBreath fun b => { b with reqs := b.reqs ++ [r] }).noteOvercommit r.dom).breath.reqs = s.breath.reqs ++ [r] := by
    rw [breath_off (it_noteOvercommit _ _) (by decide)]
    rfl
  rw [asked, State.set, set2_breath, reqs_ageRequests, hover, List.map_append, List.filter_append]
  have hnone : (s.breath.reqs.map (agedNow ((s.modBreath fun b => { b with reqs := b.reqs ++ [r] }).noteOvercommit r.dom) r.dom)).filter
      (fun q => q.dom == r.dom) = [] := by
    refine List.filter_eq_nil_iff.mpr fun q hq => ?_
    obtain ⟨q', hq', rfl⟩ := List.mem_map.mp hq
    simpa [hdom] using hfree q' hq'
  rw [hnone, List.map_singleton, List.filter_singleton, hdom]
  simp

/-- A request that may be granted, in a domain where nothing waits, is granted at once. -/
theorem request_grants {s : State} {r : PowerReq} (hfree : ∀ q ∈ s.breath.reqs, q.dom ≠ r.dom) (haged : r.aged = false) (hg : s.grantNow r = true) :
    ∃ q, SameRequest r q ∧ (s.request r).1 = (granted (asked s r) q).noteOvercommit r.dom := by
  obtain ⟨t, hreqs⟩ := reqs_asked hfree
  have hq := sameRequest_agedNow (s := t) r.dom haged
  refine ⟨agedNow t r.dom r, hq, ?_⟩
  have hnever := neverFits_of_grantNow hg
  have hnow : (asked s r).grantNow (agedNow t r.dom r) = true := (samePower_asked s r).grantNow hq hg
  unfold State.request
  rw [if_neg (by simp [hnever])]
  extract_lets s0 s1
  have h0 : s0 = s := if_neg (by simp [hnever])
  show s1 = _
  simp only [s1, h0]
  show ((asked s r).evaluate [] (rankSort ((asked s r).breath.reqs.filter fun q => q.dom == r.dom))).noteOvercommit r.dom = _
  rw [hreqs]
  show ((asked s r).evaluate [] [agedNow t r.dom r]).noteOvercommit r.dom = _
  rw [State.evaluate, if_neg (by simp), if_pos hnow, State.evaluate]
  rfl

/-- A RISE that is granted moves TARGET and the SPIN part (R302, R311). -/
theorem makeGrant_rise (s : State) {r : PowerReq} (h : r.cls = 5) (hn : r.who < 4096) :
    (s.makeGrant r).get .MECH_SPEED_TARGET r.who = r.rpm4 % 2 ^ 16 ∧ ((s.makeGrant r).grants r.who).spin = some r.spinPart := by
  rw [State.makeGrant, h]
  refine ⟨get_set_self (by decide) _ _ _ (mechReg_has (by decide) hn), ?_⟩
  simp only [State.grants, State.set, set2_breath]
  refine congrArg Grants.spin (tabGet_tabMod_same s.breath.grants r.who {} fun g => ?_)

end Sys2Proof.Proofs
end

section
/-! SUPPORT. The loop states of a slot (R104, R107) as operations that open and close loops leave them. -/

namespace Sys2Proof.Proofs

open Sys2Proof.Machine Sys2Proof.Laws

/-! ### Digits of base 4 -/

theorem digit_mod (x : Nat) {k m : Nat} (h : k < m) : x % 4 ^ m / 4 ^ k % 4 = x / 4 ^ k % 4 := by
  obtain ⟨d, rfl⟩ := Nat.exists_eq_add_of_lt h
  have hpow : 4 ^ (k + d + 1) = 4 ^ k * (4 * 4 ^ d) := by rw [Nat.pow_succ, Nat.pow_add]; ac_rfl
  rw [hpow, Nat.mod_mul_right_div_self, Nat.mod_mul_right_mod]

theorem digit_div (x : Nat) {k m : Nat} (h : m ≤ k) : x / 4 ^ k % 4 = x / 4 ^ m / 4 ^ (k - m) % 4 := by
  rw [Nat.div_div_eq_div_mul, ← Nat.pow_add, Nat.add_sub_cancel' h]

/-- Digit l of w replaced by v. -/
def setDigit (w l v : Nat) : Nat := w - w / 4 ^ l % 4 * 4 ^ l + v * 4 ^ l

theorem setDigit_eq (w l v : Nat) : setDigit w l v = w % 4 ^ l + 4 ^ l * (v + 4 * (w / 4 ^ (l + 1))) := by
  have hw : w = w % 4 ^ l + 4 ^ l * (w / 4 ^ l % 4 + 4 * (w / 4 ^ (l + 1))) := by
    rw [Nat.pow_succ, ← Nat.div_div_eq_div_mul, Nat.mod_add_div, Nat.mod_add_div]
  have hsub : w - w / 4 ^ l % 4 * 4 ^ l = w % 4 ^ l + 4 ^ l * (4 * (w / 4 ^ (l + 1))) := by
    conv_lhs => lhs; rw [hw]
    rw [Nat.mul_add, Nat.mul_comm (w / 4 ^ l % 4)]
    omega
  rw [setDigit, hsub, Nat.mul_add, Nat.mul_comm v]
  omega

theorem setDigit_same (w l : Nat) {v : Nat} (hv : v < 4) : setDigit w l v / 4 ^ l % 4 = v := by
  rw [setDigit_eq, Nat.add_mul_div_left _ _ (Nat.pow_pos (by decide)), Nat.div_eq_of_lt (Nat.mod_lt _ (Nat.pow_pos (by decide)))]
  omega

theorem setDigit_other (w v : Nat) {l k : Nat} (hv : v < 4) (h : k ≠ l) : setDigit w l v / 4 ^ k % 4 = w / 4 ^ k % 4 := by
  rcases Nat.lt_or_gt_of_ne h with hlt | hgt
  · have hmod : setDigit w l v % 4 ^ l = w % 4 ^ l := by rw [setDigit_eq, Nat.add_mul_mod_self_left, Nat.mod_mod]
    rw [← digit_mod _ hlt, hmod, digit_mod _ hlt]
  · have hdiv : setDigit w l v / 4 ^ (l + 1) = w / 4 ^ (l + 1) := by
      rw [setDigit_eq, Nat.pow_succ, ← Nat.div_div_eq_div_mul, Nat.add_mul_div_left _ _ (Nat.pow_pos (by decide)),
        Nat.div_eq_of_lt (Nat.mod_lt _ (Nat.pow_pos (by decide))), ← Nat.div_div_eq_div_mul]
      omega
    rw [digit_div _ hgt, hdiv, ← digit_div _ hgt]

/-! ### Loop states -/

theorem lstat_has {c k : Nat} (hc : c < 17) (hk : k < 32) : Reg.CIRQ_LSTAT.has c k = true := by
  rw [Reg.has, Bool.and_eq_true]
  exact ⟨decide_eq_true hc, decide_eq_true hk⟩

theorem clusterOf_off {s t : State} {l : List Spot} (it : ∀ {q : Item}, q.off l = true → itm q t = itm q s)
    (h : (Item.reg .MECH_SERVO 0 0).off l = true) (n : Nat) : t.clusterOf n = s.clusterOf n ∧ t.slotOf n = s.slotOf n := ⟨get_off it h, get_off it h⟩

/-- What leaves CIRQ_LSTAT and the slot leaves the loop states. -/
theorem ls_off {s t : State} {l : List Spot} (it : ∀ {q : Item}, q.off l = true → itm q t = itm q s)
    (hl : (Item.reg .CIRQ_LSTAT 0 0).off l = true) (h : (Item.reg .MECH_SERVO 0 0).off l = true) (n k : Nat) : t.ls n k = s.ls n k := by
  obtain ⟨hc, hs⟩ := clusterOf_off it h n
  rw [State.ls, hc, hs, get_off it hl]
  rfl

theorem clusterOf_setLs (s : State) (n l v k : Nat) : (s.setLs n l v).clusterOf k = s.clusterOf k ∧ (s.setLs n l v).slotOf k = s.slotOf k :=
  clusterOf_off (it_setLs s n l v) (by decide) k

theorem ls_setLs (s : State) {n l v k : Nat} (hc : s.clusterOf n < 17) (hk : k < 8) (hv : v < 4) :
    (s.setLs n l v).ls n k = if k = l then v else s.ls n k := by
  obtain ⟨hcl, hsl⟩ := clusterOf_setLs s n l v n
  have hslot : s.slotOf n < 32 := get_lt s .MECH_SERVO_SLOT n 0
  have hget : (s.setLs n l v).get .CIRQ_LSTAT_LS (s.clusterOf n) (s.slotOf n) = setDigit (s.get .CIRQ_LSTAT_LS (s.clusterOf n) (s.slotOf n)) l v % 4 ^ 8 :=
    get_set_same s .CIRQ_LSTAT_LS _ _ _ (lstat_has hc hslot) (by decide)
  rw [State.ls, hcl, hsl, hget, digit_mod _ hk]
  split
  · next h => rw [h, setDigit_same _ _ hv]
  · next h => rw [setDigit_other _ _ hv h]; rfl

theorem ls_openLoop (s : State) {n l k : Nat} (hc : s.clusterOf n < 17) (hk : k < 8) : (s.openLoop n l).ls n k = if k = l then 0 else s.ls n k := by
  have hc' : (s.modLoop n l fun x => { x with hist := [], fresh := false, blendH := x.last }).clusterOf n < 17 := hc
  exact ls_setLs _ hc' hk (by decide)

theorem ls_closeLoop (s : State) {n l k : Nat} (hc : s.clusterOf n < 17) (hk : k < 8) : (s.closeLoop n l).ls n k = if k = l then 3 else s.ls n k := by
  refine ls_setLs _ ?_ hk (by decide)
  exact hc

/-- Loops that are opened are OFF (R104). -/
theorem ls_openLoops (s : State) {n k : Nat} {ls : List Nat} (hc : s.clusterOf n < 17) (hk : k < 8) (h : k ∈ ls) : (s.openLoops n ls).ls n k = 0 := by
  unfold State.openLoops
  extract_lets s1 s2
  have h1 : s1.clusterOf n < 17 := by
    rw [(clusterOf_off (it_abandonSoft (s.abandonSwap n 3) n) (by decide) n).1, (clusterOf_off (it_abandonSwap s n 3) (by decide) n).1]
    exact hc
  have h2 : s2.clusterOf n < 17 ∧ s2.ls n k = 0 := by
    refine forEach_reaches (P := fun t => t.clusterOf n < 17) (Q := fun t => t.clusterOf n < 17 ∧ t.ls n k = 0) h h1 (fun l t ht => ?_) (fun t ht => ?_)
      fun l t ht => ?_
    · exact (clusterOf_off (it_openLoop t n l) (by decide) n).1 ▸ ht
    · exact ⟨(clusterOf_off (it_openLoop t n k) (by decide) n).1 ▸ ht, by rw [ls_openLoop t ht hk, if_pos rfl]⟩
    · refine ⟨(clusterOf_off (it_openLoop t n l) (by decide) n).1 ▸ ht.1, ?_⟩
      rw [ls_openLoop t ht.1 hk, ht.2, ite_self]
  split
  · rw [ls_off (it_endInjOf _ _ _) (by decide) (by decide), h2.2]
  · exact h2.2

theorem clusterOf_openLoops (s : State) (n : Nat) (ls : List Nat) : (s.openLoops n ls).clusterOf n = s.clusterOf n :=
  (clusterOf_off (it_openLoops s n ls) (by decide) n).1

end Sys2Proof.Proofs
end

section
/-! OBLIGATION O47. -/

namespace Sys2Proof.Proofs

open Sys2Proof.Machine Sys2Proof.Laws

/-! ### Planned speeds -/

/-- The state in which SPEED_PLAN plans: the drive record in force is the plan's, and the backlog is noted. -/
def planning (s : State) (n : Nat) : State := (s.modServo n fun v => { v with drPlan := s.driveRec (s.clsOf n) }).noteBacklog n

theorem planRec_planning (s : State) (n : Nat) : (planning s n).planRec n = s.driveRec (s.clsOf n) := by
  have hplan : ((planning s n).sx n).drPlan = s.driveRec (s.clsOf n) := 
    congrArg ServoX.drPlan (sx_modServo_same s n fun v => { v with drPlan := s.driveRec (s.clsOf n) })
  have hcls : (planning s n).clsOf n = s.clsOf n :=
    congrArg (fun w => bitsOf w 4 3) (mx_modMech_eq (g := MechX.cfgEff) (s.modServo n fun v => { v with drPlan := s.driveRec (s.clsOf n) }) n n)
  rw [State.planRec, hplan, hcls]
  split <;> rfl

/-- The cap of TARGET, in quarter rpm (R174). -/
def speedCap (s : State) (n : Nat) : Nat := 4 * min (s.hereSpeed n) (min (s.speedG n) (rpmMax (s.planRec n)))

/-- TARGET falls to its cap. -/
def capped (s : State) (n : Nat) : State := if speedCap s n < s.get .MECH_SPEED_TARGET n then s.set .MECH_SPEED_TARGET n (speedCap s n) else s

theorem capped_target (s : State) {n : Nat} (hn : n < 4096) : (capped s n).get .MECH_SPEED_TARGET n = min (s.get .MECH_SPEED_TARGET n) (speedCap s n) := by
  have hlt : s.get .MECH_SPEED_TARGET n < 2 ^ 16 := get_lt s .MECH_SPEED_TARGET n 0
  unfold capped
  split
  · next h =>
    rw [get_set_self (by decide) _ _ _ (mechReg_has (by decide) hn), Nat.min_eq_right (Nat.le_of_lt h)]
    exact Nat.mod_eq_of_lt (Nat.lt_trans h hlt)
  · next h => rw [Nat.min_eq_left (Nat.not_lt.mp h)]

/-- The goal that SPEED_PLAN sets. -/
def speedGoal (s : State) (n : Nat) : Nat := s.planned n (s.hereSpeed n) (s.speedPlan n (s.hereSpeed n))

theorem exec_speedPlan {mn : Mn} {s : State} (h : s.holdsSlot mn = true) : ∃ a : SpinX → Option Nat, exec (.speedPlan mn) s =
    fin ((capped (planning s mn) mn).modSpin mn fun p => { p with goal := speedGoal (planning s mn) mn, goalAt := a p }) := by
  refine ⟨fun p => if (capped (planning s mn) mn).beyondHyst mn (speedGoal (planning s mn) mn) then some (p.goalAt.getD s.now) else none, ?_⟩
  show execSpeedPlan mn s = _
  rw [execSpeedPlan, if_neg (by simp [h])]
  rfl

theorem speedPlan_plans {mn : Mn} {s : State} (h : s.holdsSlot mn = true) : Completes (.speedPlan mn) s fun t =>
    let r := s.driveRec (s.clsOf mn)
    let u := (s.modServo mn fun v => { v with drPlan := r }).noteBacklog mn
    let full := u.hereSpeed mn
    let goal := (t.sx mn).spin.goal
    t.get .MECH_SPEED_TARGET mn = min (s.get .MECH_SPEED_TARGET mn) (4 * min full (min (u.speedG mn) (rpmMax r))) ∧
    (s.get .MECH_SPIN_CTRL_TARGET_OVR mn ≠ 0 → goal = max (4 * rpmMin r) (min (s.get .MECH_SPIN_CTRL_TARGET_OVR mn) (4 * min full (rpmMax r)))) ∧
    (s.get .MECH_SPIN_CTRL_TARGET_OVR mn = 0 → u.fullPlan mn = true → goal = max (4 * rpmMin r) (4 * min full (rpmMax r))) ∧
    (s.get .MECH_SPIN_CTRL_TARGET_OVR mn = 0 → u.fullPlan mn = false → goal = max (4 * rpmMin r)
      (min (4 * (full * min (u.drainNow mn * (256 + marginOf r) / 256) (u.hostShare mn) / max 1 (u.fullRate mn full))) (4 * min full (rpmMax r)))) := by
  obtain ⟨a, he⟩ := exec_speedPlan h
  refine completes_fin he ?_
  intro r u full goal
  have hplan : u.planRec mn = r := planRec_planning s mn
  have hgoal : goal = speedGoal u mn := by
    simp only [goal]
    rw [sx_off (it_noteEvents _) (by decide)]
    exact congrArg (fun v : ServoX => v.spin.goal) (sx_modServo_same _ _ _)
  have hplanned : speedGoal u mn = max (4 * rpmMin r) (min (if s.get .MECH_SPIN_CTRL_TARGET_OVR mn = 0 then 4 * u.speedPlan mn full
      else s.get .MECH_SPIN_CTRL_TARGET_OVR mn) (4 * min full (rpmMax r))) := by
    rw [speedGoal, State.planned, hplan]
    rfl
  rw [hgoal, hplanned]
  refine ⟨?_, fun ho => ?_, fun ho hfull => ?_, fun ho hfull => ?_⟩
  · rw [get_off (it_noteEvents _) (by decide), get_off (it_modSpin _ _ _) (by decide), capped_target _ mn.isLt, speedCap]
    exact hplan ▸ rfl
  · rw [if_neg ho]
  · rw [if_pos ho, State.speedPlan, if_pos hfull, Nat.min_eq_right (Nat.mul_le_mul_left 4 (Nat.min_le_left _ _))]
  · rw [if_pos ho, State.speedPlan, if_neg (by simp [hfull]), hplan]

/-- The RISE that a dwell asks for, without its rank. -/
def riseOf (s : State) (n goal : Nat) : PowerReq :=
  { cls := 5, who := n, dom := s.domOf n, mw := (s.reqAmount 5 n 0 goal).1, spinPart := (s.reqAmount 5 n 0 goal).2, rpm4 := goal, at_ := s.now }

/-- The RISE that is asked, for the command that the mechanism works for. -/
def riseFor (s : State) (n goal : Nat) : PowerReq :=
  { riseOf s n goal with prio := ((s.headCmd n).map fun x => x.d.prio).getD 0, forCmd := (s.headCmd n).map ctxId }

section
variable {mn : Mn} {t0 : Nat} {s : State} (hslot : s.holdsSlot mn = true) (hgoal : (s.sx mn).spin.goal ≠ 0) (hat : (s.sx mn).spin.goalAt = some t0)
  (hdue : t0 + ms (dwellMs (s.planRec mn)) ≤ s.now) (hhyst : s.beyondHyst mn (s.sx mn).spin.goal = true)
include hslot hgoal hat hdue hhyst

theorem exec_targetDwell_falls (hlt : (s.sx mn).spin.goal < s.get .MECH_SPEED_TARGET mn) :
    exec (.targetDwell mn) s = fin ((s.set .MECH_SPEED_TARGET mn (s.sx mn).spin.goal).modSpin mn fun p => { p with goalAt := none }) := by
  show execTargetDwell mn s = _
  simp [execTargetDwell, hslot, hgoal, hat, hdue, hhyst, hlt]

theorem exec_targetDwell_rises (hlt : s.get .MECH_SPEED_TARGET mn < (s.sx mn).spin.goal) (hno : ∀ q ∈ s.breath.reqs, ¬ (q.cls = 5 ∧ q.who = mn.val)) :
    exec (.targetDwell mn) s = fin (s.request (riseFor s mn (s.sx mn).spin.goal)).1 := by
  have hany : (s.breath.reqs.any fun r => r.cls == 5 && r.who == mn.val) = false := by
    simp only [List.any_eq_false, Bool.and_eq_true, beq_iff_eq]
    exact hno
  show execTargetDwell mn s = _
  simp only [execTargetDwell, hslot, hat, hdue, hhyst, hany, if_neg (Nat.not_lt.mpr (Nat.le_of_lt hlt)), beq_eq_false_iff_ne.mpr hgoal, decide_true, Bool.not_true,
    Bool.or_self, Bool.false_eq_true, if_false]
  rfl

theorem targetDwell_falls (hlt : (s.sx mn).spin.goal < s.get .MECH_SPEED_TARGET mn) : Completes (.targetDwell mn) s fun t =>
    t.get .MECH_SPEED_TARGET mn = (s.sx mn).spin.goal := by
  have hw : s.get .MECH_SPEED_TARGET mn < 2 ^ 16 := get_lt s .MECH_SPEED_TARGET mn 0
  refine completes_fin (exec_targetDwell_falls hslot hgoal hat hdue hhyst hlt) ?_
  rw [get_off (it_noteEvents _) (by decide), get_off (it_modSpin _ _ _) (by decide), get_set_self (by decide) _ _ _ (mechReg_has (by decide) mn.isLt)]
  exact Nat.mod_eq_of_lt (Nat.lt_trans hlt hw)

theorem targetDwell_rises (hlt : s.get .MECH_SPEED_TARGET mn < (s.sx mn).spin.goal)
    (hno : ∀ q ∈ s.breath.reqs, q.dom ≠ s.domOf mn ∧ ¬ (q.cls = 5 ∧ q.who = mn.val)) (hg : s.grantNow (riseOf s mn (s.sx mn).spin.goal) = true) :
    Completes (.targetDwell mn) s fun t => t.get .MECH_SPEED_TARGET mn = (s.sx mn).spin.goal % 2 ^ 16 ∧
      (t.grants mn).spin = some (s.pSpin (s.clsOf mn) (s.sx mn).spin.goal) := by
  refine completes_fin (exec_targetDwell_rises hslot hgoal hat hdue hhyst hlt fun q hq => (hno q hq).2) ?_
  have hrise : s.grantNow (riseFor s mn (s.sx mn).spin.goal) = true := (SamePower.refl s).grantNow ⟨rfl, rfl, rfl, rfl, rfl, rfl, id⟩ hg
  obtain ⟨q, hq, he⟩ := request_grants (fun q hq => (hno q hq).1) rfl hrise
  obtain ⟨htarget, hspin⟩ := makeGrant_rise ((asked s (riseFor s mn (s.sx mn).spin.goal)).modBreath fun b => { b with reqs := b.reqs.erase q }) hq.cls
    (hq.who ▸ mn.isLt)
  rw [he, get_off (it_noteEvents _) (by decide), get_off (it_noteOvercommit _ _) (by decide), State.grants, breath_off (it_noteEvents _) (by decide),
    breath_off (it_noteOvercommit _ _) (by decide)]
  rw [hq.who, hq.rpm4] at htarget
  rw [hq.who, hq.spinPart] at hspin
  exact ⟨htarget, hspin⟩

theorem targetDwell_moves : Completes (.targetDwell mn) s fun t =>
    ((s.sx mn).spin.goal < s.get .MECH_SPEED_TARGET mn → t.get .MECH_SPEED_TARGET mn = (s.sx mn).spin.goal) ∧
    (s.get .MECH_SPEED_TARGET mn < (s.sx mn).spin.goal → (∀ q ∈ s.breath.reqs, q.dom ≠ s.domOf mn ∧ ¬ (q.cls = 5 ∧ q.who = mn.val)) →
      s.grantNow (riseOf s mn (s.sx mn).spin.goal) = true → t.get .MECH_SPEED_TARGET mn = (s.sx mn).spin.goal % 2 ^ 16 ∧
        (t.grants mn).spin = some (s.pSpin (s.clsOf mn) (s.sx mn).spin.goal)) := by
  refine completes_of_next (isNext_exec _ s nofun nofun) fun t ht => ⟨fun hlt => ?_, fun hlt hno hg => ?_⟩
  · exact completes_at (targetDwell_falls hslot hgoal hat hdue hhyst hlt) ht
  · exact completes_at (targetDwell_rises hslot hgoal hat hdue hhyst hlt hno hg) ht

end

/-! ### A spin-down begins -/

/-- A spin-down of mechanism n toward `target` is under way. -/
def SpinningDown (n target : Nat) (t : State) : Prop := t.on .MECH_STATE_BUSY n = true ∧ t.get .MECH_STATE_TARGET n = target ∧ (t.mx n).spinDown = true

theorem spinningDown_off {s t : State} {l : List Spot} (it : ∀ {q : Item}, q.off l = true → itm q t = itm q s)
    (hl : ((Item.reg .MECH_STATE 0 0).off l && (Item.part .mech).off l) = true) {n target : Nat} (h : SpinningDown n target s) : SpinningDown n target t := by
  obtain ⟨hst, hmech⟩ := Bool.and_eq_true_iff.mp hl
  unfold SpinningDown
  rw [on_off it hst, get_off it hst, mx_off it hmech]
  exact h

/-- A spin-down whose SEEK may fit begins: it goes on with its park move, or waits for it (R43, R44, R176). -/
theorem startSpinDown_begins {s : State} {n target : Nat} (hn : n < 4096) (ht : target < 16) (hno : (s.mx n).spinDown = false)
    (hfit : s.neverFits (s.mechRequest 2 n 0 0 none) = false) : SpinningDown n target (s.startSpinDown n target) := by
  unfold State.startSpinDown
  rw [if_neg (by simp [hno])]
  extract_lets s1 amt
  have hv : SameCosts s s1 := by
    have h1 : SameCosts s ((s.abandonRuns n).releaseLane n true) := (costs_arbitrated s).releaseLane n true ((costs_arbitrated s).abandonRuns n (.refl s))
    exact .same (sameView_modMech _ n) (.off (it_beginMove _ _ _) (by decide) h1)
  have h1 : SpinningDown n target s1 := ⟨busy_beginMove _ _ hn, target_beginMove _ hn ht, congrArg MechX.spinDown (mx_modMech_same _ n _)⟩
  have hk := fun r => spinningDown_off (it_request s1 r) (by decide) h1
  split
  · next t heq =>
    obtain rfl : (s1.request _).1 = t := congrArg Prod.fst heq
    exact spinningDown_off (it_startPark _ n) (by decide) (hk _)
  · next t heq =>
    obtain rfl : (s1.request _).1 = t := congrArg Prod.fst heq
    exact hk _
  · next t heq => exact absurd (congrArg Prod.snd heq) (request_not_refused ((hv.neverFits_seek rfl rfl rfl).trans hfit))

theorem idleSpinDown_begins {mn : Mn} {s : State} (hidle : s.idleReady mn = true) (hms : s.get .MECH_IDLE_IDLE_SPIN_MS mn ≠ 0)
    (hdue : (s.mx mn).idleSince + ms (s.get .MECH_IDLE_IDLE_SPIN_MS mn) ≤ s.now) (hno : (s.mx mn).spinDown = false)
    (hfit : s.neverFits (s.mechRequest 2 mn 0 0 none) = false) : Completes (.idleSpinDown mn) s fun t =>
    t.on .MECH_STATE_BUSY mn = true ∧ t.get .MECH_STATE_TARGET mn = 2 ∧ (t.mx mn).spinDown = true := by
  have he : exec (.idleSpinDown mn) s = fin (s.startSpinDown mn 2) := by
    show execIdleSpinDown mn s = _
    exact if_pos (by simp [hidle, hms, hdue])
  exact completes_fin he (spinningDown_off (it_noteEvents _) (by decide) (startSpinDown_begins mn.isLt (by decide) hno hfit))

theorem slotReclaim_begins {mn : Mn} {s : State} {v : Nat} (hwait : (s.mx mn).waitSlot.isSome = true) (hms : s.get .MECH_RECLAIM_RECLAIM_MS ≠ 0)
    (hlimit : s.freePosition (portOf mn) = none ∨ 512 ≤ s.slotsUsed) (hv : s.reclaimVictim mn = some v) (hlt : v < 4096)
    (hdue : (s.mx v).idleSince + ms (s.get .MECH_RECLAIM_RECLAIM_MS) ≤ s.now) (hno : (s.mx v).spinDown = false)
    (hfit : s.neverFits (s.mechRequest 2 v 0 0 none) = false) : Completes (.slotReclaim mn) s fun t =>
    t.on .MECH_STATE_BUSY v = true ∧ t.get .MECH_STATE_TARGET v = 2 ∧ (t.mx v).spinDown = true := by
  have hlim : ((s.freePosition (portOf mn)).isNone || decide (512 ≤ s.slotsUsed)) = true := by simpa using hlimit
  have he : exec (.slotReclaim mn) s = fin (s.startSpinDown v 2) := by
    show execSlotReclaim mn s = _
    rw [execSlotReclaim, if_neg (by simp [Option.isNone_eq_false_iff.mpr hwait, hms, hlim]), hv]
    exact if_pos hdue
  exact completes_fin he (spinningDown_off (it_noteEvents _) (by decide) (startSpinDown_begins hlt (by decide) hno hfit))

/-! ### The park move -/

/-- The loops of a park move: 1 and 2 OFF, loop 5 on. -/
def ParkLoops (n : Nat) (t : State) : Prop := t.ls n 1 = 0 ∧ t.ls n 2 = 0 ∧ t.ls n 5 ≠ 0

theorem parkLoops_off {s t : State} {l : List Spot} (it : ∀ {q : Item}, q.off l = true → itm q t = itm q s)
    (hl : ((Item.reg .CIRQ_LSTAT 0 0).off l && (Item.reg .MECH_SERVO 0 0).off l) = true) {n : Nat} (h : ParkLoops n s) : ParkLoops n t := by
  obtain ⟨hst, hservo⟩ := Bool.and_eq_true_iff.mp hl
  unfold ParkLoops
  rw [ls_off it hst hservo, ls_off it hst hservo, ls_off it hst hservo]
  exact h

theorem parkLoops_closeLoop {s : State} {n : Nat} (hc : s.clusterOf n < 17) (h1 : s.ls n 1 = 0) (h2 : s.ls n 2 = 0) : ParkLoops n (s.closeLoop n 5) := by
  refine ⟨?_, ?_, ?_⟩
  · rw [ls_closeLoop s hc (by decide), if_neg (by decide), h1]
  · rw [ls_closeLoop s hc (by decide), if_neg (by decide), h2]
  · rw [ls_closeLoop s hc (by decide), if_pos rfl]
    decide

theorem startPark_loops {s : State} {n : Nat} (hc : s.clusterOf n < 17) : ParkLoops n (s.startPark n) := by
  unfold State.startPark
  extract_lets s1 s2 r s3
  have hc1 : s1.clusterOf n < 17 := by
    rw [(clusterOf_off (it_driveLoop (s.openLoops n [1, 2]) n 1 0) (by decide) n).1, clusterOf_openLoops]
    exact hc
  have hopen : ∀ k, k < 8 → k ∈ [1, 2] → s1.ls n k = 0 := fun k hk hmem =>
    (ls_off (it_driveLoop (s.openLoops n [1, 2]) n 1 0) (by decide) (by decide) n k).trans (ls_openLoops s hc hk hmem)
  have h2 : ParkLoops n s2 := by
    simp only [s2]
    split
    · exact parkLoops_closeLoop hc1 (hopen 1 (by decide) (by simp)) (hopen 2 (by decide) (by simp))
    · next h5 => exact ⟨hopen 1 (by decide) (by simp), hopen 2 (by decide) (by simp), h5⟩
  exact parkLoops_off (it_modSeq _ _ _) (by decide) (parkLoops_off (it_modSled _ _ _) (by decide) (parkLoops_off (it_modServo s2 n _) (by decide) h2))

theorem startPark_moves (s : State) (n : Nat) :
    ((s.startPark n).sx n).sled.seekTgt = some (parkPos (s.driveRec (s.clsOf n))) ∧ ((s.startPark n).sx n).seq.step = 8 := by
  unfold State.startPark
  extract_lets s1 s2 r s3
  have hv : (((s3.modSled n fun x => { x with seekTgt := some (parkPos r) }).modSeq n fun q => { q with step := 8, sub := 0, landed := 0 }).sx n) =
      { s3.sx n with sled := { (s3.sx n).sled with seekTgt := some (parkPos r) }, seq := { (s3.sx n).seq with step := 8, sub := 0, landed := 0 } } := by
    rw [State.modSeq, sx_modServo_same, State.modSled, sx_modServo_same]
  rw [hv]
  exact ⟨rfl, rfl⟩

theorem spinDown_parks {mn : Mn} {s : State} (hdown : (s.mx mn).spinDown = true) (hstop : (s.mx mn).stopIssued = false) (hseek : (s.grants mn).seek.isSome = true)
    (hnot : (s.sx mn).sled.seekTgt = none) (hc : s.clusterOf mn < 17) : Completes (.spinDown mn) s fun t =>
    (t.sx mn).sled.seekTgt = some (parkPos (s.driveRec (s.clsOf mn))) ∧ (t.sx mn).seq.step = 8 ∧ t.ls mn 1 = 0 ∧ t.ls mn 2 = 0 ∧ t.ls mn 5 ≠ 0 := by
  have he : exec (.spinDown mn) s = fin (s.startPark mn) := by
    show execSpinDown mn s = _
    exact if_pos (by simp [hdown, hstop, hseek, hnot])
  refine completes_fin he ?_
  obtain ⟨hseekTgt, hstep⟩ := startPark_moves s mn
  rw [sx_off (it_noteEvents _) (by decide)]
  exact ⟨hseekTgt, hstep, parkLoops_off (it_noteEvents _) (by decide) (startPark_loops hc)⟩

/-! ### The end of a spin-down -/

/-- The end of a spin-down leaves TURNING. -/
theorem endSpinDown_turning (s : State) (n k : Nat) : (s.endSpinDown n).get .MECH_STATE_TURNING k = s.get .MECH_STATE_TURNING k := by
  unfold State.endSpinDown
  extract_lets s0 s1 s2
  have h0 : s0.get .MECH_STATE_TURNING k = s.get .MECH_STATE_TURNING k := by
    simp only [s0]
    split
    · rfl
    · exact clearMount_keeps rfl (by decide) s n k
  have h2 : s2.get .MECH_STATE_TURNING k = s.get .MECH_STATE_TURNING k := by
    rw [get_off (it_returnGrant _ _ _) (by decide), get_modMech, get_off (it_releaseSlot _ _) (by decide), h0]
  split
  · rw [askTray_keeps rfl (by decide) (by decide) (by decide) (by decide), enterState_keeps rfl (by decide) (by decide), h2]
  · rw [get_off (it_completeState _ _ _ _) (by decide), endMove_keeps rfl (by decide) (by decide) (by decide) (by decide), h2]

theorem clamped_releaseSlot (s : State) (n k : Nat) : ((s.releaseSlot n).mx k).clamped = (s.mx k).clamped := by
  unfold State.releaseSlot
  split
  · rfl
  · extract_lets c j s1 s2 s3 s4 s5 s6
    have h3 : s3.mx k = s.mx k := by
      simp only [s3]
      split
      · rw [mx_off (it_endCap _ _ _) (by decide), mx_off (it_endInjOf _ _ _) (by decide), mx_off (it_stopSled _ _ _) (by decide),
          mx_off (it_abandonSoft _ _) (by decide), mx_off (it_abandonSwap _ _ _) (by decide)]
      · rw [mx_off (it_endInjOf _ _ _) (by decide), mx_off (it_stopSled _ _ _) (by decide), mx_off (it_abandonSoft _ _) (by decide),
          mx_off (it_abandonSwap _ _ _) (by decide)]
    have h5 : s5.mx k = s.mx k := by
      rw [mx_set, mx_set, mx_set, mx_off (it_wr _ _ _ _ _) (by decide), mx_off (it_wr _ _ _ _ _) (by decide), mx_off (it_wr _ _ _ _ _) (by decide), h3]
    refine (mx_modMech_eq (g := MechX.clamped) (s6.dropPosition n) n k).trans ?_
    rw [mx_off (it_dropPosition _ _) (by decide)]
    exact congrArg MechX.clamped h5

/-- A spin-down has ended, and slot and grants are given back. -/
def givenBack (s : State) (n : Nat) : State :=
  ((s.releaseSlot n).modMech n fun m => { m with spinDown := false, stopIssued := false }).returnGrant n fun g => { g with spin := none, spinup := none, spinupAt := 0 }

theorem endSpinDown_parked {s : State} {n : Nat} (h : s.get .MECH_STATE_TARGET n = 2) :
    s.endSpinDown n = ((givenBack s n).endMove n ((givenBack s n).restState n)).completeState n 6 0 := by
  unfold State.endSpinDown
  rw [if_pos h, if_neg (by rw [h]; decide)]
  rfl

theorem restState_givenBack (s : State) (n : Nat) : (givenBack s n).restState n = s.restState n := by
  refine restState_congr ?_ ?_
  · rw [givenBack, mx_off (it_returnGrant _ _ _) (by decide), mx_modMech_same]
    exact clamped_releaseSlot s n n
  · rw [givenBack, get_off (it_returnGrant _ _ _) (by decide), get_modMech, get_off (it_releaseSlot _ _) (by decide)]

/-- Mechanism n rests in state st, without a slot. -/
def Rests (n st : Nat) (t : State) : Prop := t.mst n = st ∧ t.on .MECH_STATE_BUSY n = false ∧ t.holdsSlot n = false ∧ (t.mx n).spinDown = false

/-- A spin-down toward PARKED ends in the rest state, without a slot (R43, R176). -/
theorem endSpinDown_rests {s : State} {n : Nat} (hn : n < 4096) (h : s.get .MECH_STATE_TARGET n = 2) : Rests n (s.restState n) (s.endSpinDown n) := by
  rw [endSpinDown_parked h]
  refine ⟨?_, ?_, ?_, ?_⟩
  · rw [mst_off (it_completeState _ _ _ _) (by decide), mst_endMove _ hn (Nat.lt_of_le_of_lt (restState_le _ _) (by decide)), restState_givenBack]
  · rw [on_off (it_completeState _ _ _ _) (by decide), busy_endMove _ _ hn]
  · rw [holdsSlot_off (it_completeState _ _ _ _) (by decide), holdsSlot_off (it_endMove _ _ _) (by decide), givenBack,
      holdsSlot_off (it_returnGrant _ _ _) (by decide), holdsSlot_off (it_modMech _ _ _) (by decide), holdsSlot_releaseSlot _ hn]
  · have hl := (lasting_completeState ((givenBack s n).endMove n ((givenBack s n).restState n)) n 6 0 n).trans (lasting_endMove (givenBack s n) n _ n)
    have hd : ((givenBack s n).mx n).spinDown = false := by rw [givenBack, mx_off (it_returnGrant _ _ _) (by decide), mx_modMech_same]
    exact (congrArg MechX.spinDown hl : (lasting _).spinDown = (lasting _).spinDown).trans hd

/-- The spindle is STOPPED. -/
def stoppedSpin (s : State) (n : Nat) : State := (s.set .MECH_SPIN_STAT_SPIN_STATE n 0).set .MECH_STATE_TURNING n 0

theorem exec_shortBrakeDone {mn : Mn} {s : State} (hstate : s.spinState mn = 9) (hstart : s.starting mn = false) (hdue : (s.mx mn).shortUntil ≤ s.now) :
    exec (.shortBrakeDone mn) s = fin (if (s.mx mn).spinDown ∧ s.holdsSlot mn then (stoppedSpin s mn).endSpinDown mn else stoppedSpin s mn) := by
  show execShortBrakeDone mn s = _
  exact if_neg (by simp [hstate, hstart, hdue])

theorem stoppedSpin_stops (s : State) {n : Nat} (hn : n < 4096) : (stoppedSpin s n).spinState n = 0 ∧ (stoppedSpin s n).on .MECH_STATE_TURNING n = false := by
  refine ⟨?_, on_eq_false_of_get (get_set_self (by decide) _ _ _ (mechState_has hn))⟩
  rw [State.spinState, stoppedSpin, get_set_disj (by decide)]
  exact get_set_self (by decide) _ _ _ (mechReg_has (by decide) hn)

theorem stoppedSpin_keeps {g : Fld} (hg : g.reg = .MECH_STATE) (hb : beside .MECH_STATE_TURNING g = true) (s : State) (n : Nat) :
    (stoppedSpin s n).get g n = s.get g n := by
  rw [stoppedSpin, get_set_otherField hg (by decide) hb, get_set_disj (by rw [hg]; decide)]

theorem shortBrakeDone_stops {mn : Mn} {s : State} (hstate : s.spinState mn = 9) (hstart : s.starting mn = false) (hdue : (s.mx mn).shortUntil ≤ s.now) :
    Completes (.shortBrakeDone mn) s fun t =>
    t.spinState mn = 0 ∧ t.on .MECH_STATE_TURNING mn = false ∧ ((s.mx mn).spinDown = true → s.holdsSlot mn = true → s.get .MECH_STATE_TARGET mn = 2 →
      t.mst mn = s.restState mn ∧ t.on .MECH_STATE_BUSY mn = false ∧ t.holdsSlot mn = false ∧ (t.mx mn).spinDown = false) := by
  obtain ⟨hspin, hturn⟩ := stoppedSpin_stops s mn.isLt
  refine completes_fin (exec_shortBrakeDone hstate hstart hdue) ⟨?_, ?_, fun hdown hslot htarget => ?_⟩
  · rw [State.spinState, get_off (it_noteEvents _) (by decide)]
    split
    · rw [get_off (it_endSpinDown _ _) (by decide +kernel)]
      exact hspin
    · exact hspin
  · rw [on_off (it_noteEvents _) (by decide)]
    split
    · rw [on_of_get (endSpinDown_turning _ _ _), hturn]
    · exact hturn
  · rw [if_pos ⟨hdown, hslot⟩, mst_off (it_noteEvents _) (by decide), on_off (it_noteEvents _) (by decide), holdsSlot_off (it_noteEvents _) (by decide),
      mx_off (it_noteEvents _) (by decide)]
    have hrest : (stoppedSpin s mn).restState mn = s.restState mn :=
      restState_congr (by rw [stoppedSpin, mx_set, mx_set]) (stoppedSpin_keeps rfl (by decide) s mn)
    rw [← hrest]
    exact endSpinDown_rests mn.isLt ((stoppedSpin_keeps rfl (by decide) s mn).trans htarget)

theorem coastDownElapsed_stops {mn : Mn} {s : State} (hslot : s.holdsSlot mn = false)
    (hdue : ((s.mx mn).driveStop).getD (s.mx mn).attachedAt + ms (coastMs (s.driveRec (s.clsOf mn))) ≤ s.now) :
    Completes (.coastDownElapsed mn) s fun t => t.on .MECH_STATE_TURNING mn = false := by
  have he : exec (.coastDownElapsed mn) s = fin (s.set .MECH_STATE_TURNING mn 0) := by
    show execCoastDownElapsed mn s = _
    exact if_neg (by simpa [hslot] using hdue)
  refine completes_fin he ?_
  rw [on_off (it_noteEvents _) (by decide)]
  exact on_eq_false_of_get (get_set_self (by decide) _ _ _ (mechState_has mn.isLt))

/-- Settles O47, clause by clause: the planned speed, its dwell, the spin-downs that begin, the park move and the two ways a spindle comes to rest. -/
theorem spindleSpeedsAndStops : Obligations.SpindleSpeedsAndStops :=
  ⟨fun _ _ hslot => speedPlan_plans hslot,
    fun _ _ _ hslot hgoal hat hdue hhyst => targetDwell_moves hslot hgoal hat hdue (decide_eq_true hhyst),
    fun _ _ hidle hms hdue hno hfit => idleSpinDown_begins hidle hms hdue hno hfit,
    fun _ _ _ hwait hms hlimit hv hlt hdue hno hfit => slotReclaim_begins hwait hms hlimit hv hlt hdue hno hfit,
    fun _ _ hdown hstop hseek hnot hc => spinDown_parks hdown hstop hseek hnot hc,
    fun _ _ hstate hstart hdue => shortBrakeDone_stops hstate hstart hdue, fun _ _ hslot hdue => coastDownElapsed_stops hslot hdue⟩

end Sys2Proof.Proofs
end

section
/-! SUPPORT. A training that starts, where its port goes on at once with its LINK grant (R59, R82, R302). -/

namespace Sys2Proof.Proofs

open Sys2Proof.Machine Sys2Proof.Laws

/-! ### The LINK grant -/

/-- A register of the ports exists for each of the 64 ports. -/
theorem portReg_has {r : Reg} (hc : r.count = 64) (hc2 : r.count2 = 1) {p : Nat} (hp : p < 64) : r.has p 0 = true := by
  rw [Reg.has, hc, hc2, Bool.and_eq_true]
  exact ⟨decide_eq_true hp, rfl⟩

theorem penStatus_has {p : Nat} (hp : p < 64) : Reg.PEN_STATUS.has p 0 = true := portReg_has rfl rfl hp

@[simp] theorem px_modPort_same (s : State) (p : Nat) (f : PortX → PortX) : (s.modPort p f).px p = f (s.px p) := tabGet_tabMod_same _ _ _ _

/-- Nothing that decides on a LINK grant, and no deferred request, has changed. -/
def linkOff (l : List Spot) : Bool :=
  (Reg.BRTH_PORT :: Reg.BRTH_DOM_STAT :: Reg.BRTH_DOM_KEEP :: costRegs).all (fun r => (Item.reg r 0 0).off l) && ((Item.part .breath).off l && (Item.part .mech).off l)

theorem linkFree_off {s t : State} {l : List Spot} (it : ∀ {q : Item}, q.off l = true → itm q t = itm q s) (hl : linkOff l = true) {p : Nat}
    (h : LinkFree s p) : LinkFree t p := by
  rw [linkOff, Bool.and_eq_true, Bool.and_eq_true, List.all_eq_true] at hl
  obtain ⟨hregs, hbreath, hmech⟩ := hl
  have hb : t.breath = s.breath := breath_off it hbreath
  have hport : ∀ f : Fld, f.reg = .BRTH_PORT → t.get f p = s.get f p := fun f hf => get_off it (hf ▸ hregs _ List.mem_cons_self)
  have hpow : SamePower s t := by
    refine ⟨fun r hr i => rd_off it (hregs r (List.mem_cons_of_mem _ (List.mem_cons_of_mem _ hr))), by rw [hb], by rw [hb], by rw [hb],
      fun n => by rw [mx_off it hmech], fun d => get_off it (hregs _ (List.mem_cons_of_mem _ List.mem_cons_self))⟩
  unfold LinkFree
  rw [hb, hport _ rfl, hport _ rfl]
  exact h.imp_right fun ⟨hno, hg⟩ => ⟨hno, hpow.grantNow ⟨rfl, rfl, rfl, rfl, rfl, rfl, id⟩ hg⟩

/-- The port goes on in DETECT. -/
def InDetect (p : Nat) (t : State) : Prop := t.pstate p = 1 ∧ t.on .PEN_STATUS_LOCK p = false

theorem linkGranted_eq {s : State} {p : Nat} (hw : (s.px p).want = .train) : s.linkGranted p = (s.modPort p fun x => { x with want := .none }).portStep p 1 := by
  rw [State.linkGranted, hw]

theorem linkGranted_train {s : State} {p : Nat} (hp : p < 64) (hw : (s.px p).want = .train) (hl : s.on .PEN_STATUS_LOCK p = false) : InDetect p (s.linkGranted p) := by
  rw [linkGranted_eq hw]
  refine ⟨?_, ?_⟩
  · rw [State.pstate, State.portStep, get_modPort, get_set_self (by decide) _ _ _ (penStatus_has hp)]
    rfl
  · refine (on_of_get ?_).trans hl
    rw [State.portStep, get_modPort, get_set_otherField (f := .PEN_STATUS_PSTATE) (g := .PEN_STATUS_LOCK) rfl (by decide) (by decide), get_modPort]

theorem makeGrant_link (s : State) {r : PowerReq} (h : r.cls = 1) :
    s.makeGrant r = (s.modBreath fun b => { b with link := tabPut b.link r.who (some (r.dom, r.mw)) none }).linkGranted r.who := by
  rw [State.makeGrant, h]
  rfl

/-- A port whose LINK grant is free trains at once. -/
theorem requestLink_train {s : State} {p : Nat} (hp : p < 64) (hl : s.on .PEN_STATUS_LOCK p = false) (h : LinkFree s p) : InDetect p (s.requestLink p .train) := by
  unfold State.requestLink
  extract_lets s1
  have hw : (s1.px p).want = .train := congrArg PortX.want (px_modPort_same s p _)
  have hl1 : s1.on .PEN_STATUS_LOCK p = false := hl
  have h1 : LinkFree s1 p := linkFree_off (it_modPort s p _) (by decide) h
  split
  · exact linkGranted_train hp hw hl1
  · next hlink =>
    obtain hheld | ⟨hno, hg⟩ := h1
    · exact absurd hlink hheld
    · have hany : (s.breath.reqs.any fun r => r.cls == 1 && r.who == p) = false := by
        simp only [List.any_eq_false, Bool.and_eq_true, beq_iff_eq]
        exact fun q hq => (hno q hq).2
      rw [if_neg (by rw [hany]; decide)]
      obtain ⟨q, hq, he⟩ := request_grants (fun q hq => (hno q hq).1) rfl hg
      have hwho : q.who = p := hq.who
      show InDetect p (s1.request { cls := 1, who := p, dom := s1.get .BRTH_PORT_DOMAIN p, mw := s1.get .BRTH_PORT_LINK_MW p, at_ := s1.now }).1
      rw [he, InDetect, State.pstate, get_off (it_noteOvercommit _ _) (by decide), on_off (it_noteOvercommit _ _) (by decide), granted,
        makeGrant_link _ hq.cls, hwho]
      refine linkGranted_train hp ?_ ?_
      · show ((asked s1 _).px p).want = _
        rw [px_off (it_asked _ _) (by decide), hw]
      · show (asked s1 _).on .PEN_STATUS_LOCK p = false
        rw [on_off (it_asked _ _) (by decide), hl1]

/-! ### Training starts -/

/-- A drop has to be identified again. -/
def dropUnseen (s : State) (p d : Nat) : State := ((s.set2 .PEN_DROP_PRESENT p d 0).set2 .PEN_DROP_DSTATE p d 1).set2 .PEN_DROP_MGMT_OK p d 0

theorem dropUnseen_present (s : State) {p d : Nat} (hp : p < 64) (hd : d < 64) : (dropUnseen s p d).on .PEN_DROP_PRESENT p d = false := by
  refine on_eq_false_of_get ?_
  rw [dropUnseen, get_set2_beside (f := .PEN_DROP_MGMT_OK) (g := .PEN_DROP_PRESENT) rfl (by decide),
    get_set2_beside (f := .PEN_DROP_DSTATE) (g := .PEN_DROP_PRESENT) rfl (by decide)]
  exact get_set_same s .PEN_DROP_PRESENT p d 0 (penDrop_has hp hd) (by decide)

theorem dropUnseen_other (s : State) (p : Nat) {d k : Nat} (h : d ≠ k) : (dropUnseen s p d).on .PEN_DROP_PRESENT p k = s.on .PEN_DROP_PRESENT p k := by
  refine on_of_get ?_
  rw [dropUnseen, get_set2_otherSecond (f := .PEN_DROP_MGMT_OK) (g := .PEN_DROP_PRESENT) rfl (by decide) _ _ _ h,
    get_set2_otherSecond (f := .PEN_DROP_DSTATE) (g := .PEN_DROP_PRESENT) rfl (by decide) _ _ _ h,
    get_set2_otherSecond (f := .PEN_DROP_PRESENT) (g := .PEN_DROP_PRESENT) rfl (by decide) _ _ _ h]

/-- No drop of the port is present any more. -/
def dropsUnseen (s : State) (p : Nat) : State := s.forEach (List.range 64) fun t d => if t.on .PEN_DROP_PRESENT p d then dropUnseen t p d else t

def foot_dropsUnseen : List Spot := [.f .PEN_DROP_PRESENT, .f .PEN_DROP_DSTATE, .f .PEN_DROP_MGMT_OK]

theorem it_dropsUnseen {iq : Item} (s : State) (p : Nat) (hq : iq.off foot_dropsUnseen = true) : itm iq (dropsUnseen s p) = itm iq s := by
  delta foot_dropsUnseen at hq
  simp only [off_cons_cons, Bool.and_eq_true] at hq
  simp [hq, dropsUnseen, dropUnseen]

/-- The port as it asks for the LINK grant of a training. -/
def trainingAsked (s : State) (p : Nat) : State :=
  ((((dropsUnseen s p).set .PEN_STATUS_LOCK p 0).portStep p 0).forEach (mnsOf p) fun t n =>
    if (t.dx n).seekAt.isSome then t.modDrop n fun x => { x with seekAt := none } else t).modPort p fun x =>
    { x with modeNext := none, remeasure := false, sinceHeader := 0, blocks := 0, tickAt := none, lostAt := none, heldAt := none }

theorem startTraining_eq (s : State) (p : Nat) : s.startTraining p = (trainingAsked s p).requestLink p .train := rfl

/-- What begins a training but does not ask for a grant. -/
def foot_trainingAsked : List Spot := spots [foot_modPort, foot_portStep, foot_modDrop, foot_dropsUnseen] [.f .PEN_STATUS_LOCK]

theorem it_trainingAsked {iq : Item} (s : State) (p : Nat) (hq : iq.off foot_trainingAsked = true) : itm iq (trainingAsked s p) = itm iq s := by
  delta foot_trainingAsked at hq
  simp only [off_spots, List.all_cons, List.all_nil, Bool.and_true, Bool.and_eq_true] at hq
  simp [hq, trainingAsked, it_dropsUnseen]

theorem dropsUnseen_present (s : State) {p d : Nat} (hp : p < 64) (hd : d < 64) : (dropsUnseen s p).on .PEN_DROP_PRESENT p d = false := by
  refine forEach_reaches (P := fun _ => True) (Q := fun t => t.on .PEN_DROP_PRESENT p d = false) (List.mem_range.mpr hd) trivial (fun _ _ _ => trivial)
    (fun t _ => ?_) fun k t ht => ?_
  · split
    · exact dropUnseen_present t hp hd
    · next hoff => exact Bool.eq_false_iff.mpr hoff
  · split
    · by_cases hk : k = d
      · exact hk ▸ dropUnseen_present t hp (hk ▸ hd)
      · rw [dropUnseen_other t p hk, ht]
    · exact ht

/-- Clearing what the drops of a port waited for writes no register. -/
theorem seekAt_get (s : State) (l : List Nat) {f : Fld} (i j : Nat) : (s.forEach l fun t n =>
    if (t.dx n).seekAt.isSome then t.modDrop n fun x => { x with seekAt := none } else t).get f i j = s.get f i j :=
  forEach_keeps (P := fun t => t.get f i j = s.get f i j) _ _ _ (fun n _ t ht => by split <;> exact ht) rfl

theorem trainingAsked_lock (s : State) {p : Nat} (hp : p < 64) : (trainingAsked s p).on .PEN_STATUS_LOCK p = false := by
  refine on_eq_false_of_get ?_
  rw [trainingAsked, get_modPort, seekAt_get, State.portStep, get_modPort,
    get_set_otherField (f := .PEN_STATUS_PSTATE) (g := .PEN_STATUS_LOCK) rfl (by decide) (by decide)]
  exact get_set_self (by decide) _ _ _ (penStatus_has hp)

theorem trainingAsked_present (s : State) {p d : Nat} (hp : p < 64) (hd : d < 64) : (trainingAsked s p).on .PEN_DROP_PRESENT p d = false := by
  refine (on_of_get ?_).trans (dropsUnseen_present s hp hd)
  rw [trainingAsked, get_modPort, seekAt_get, get_off (it_portStep _ _ _) (by decide), get_set_disj (by decide)]

/-- The port trains from DETECT with no drop present (R59, R82). -/
def Detects (p : Nat) (t : State) : Prop := t.pstate p = 1 ∧ t.on .PEN_STATUS_LOCK p = false ∧ ∀ d < 64, t.on .PEN_DROP_PRESENT p d = false

theorem startTraining_detects {s : State} {p : Nat} (hp : p < 64) (h : LinkFree s p) : Detects p (s.startTraining p) := by
  rw [startTraining_eq]
  obtain ⟨hstate, hlock⟩ := requestLink_train hp (trainingAsked_lock s hp) (linkFree_off (it_trainingAsked s p) (by decide) h)
  refine ⟨hstate, hlock, fun d hd => ?_⟩
  rw [on_off (it_requestLink _ _ _) (by decide)]
  exact trainingAsked_present s hp hd

theorem detects_noteEvents {p : Nat} {t : State} (h : Detects p t) : Detects p t.noteEvents := by
  obtain ⟨hstate, hlock, hpresent⟩ := h
  refine ⟨(get_off (it_noteEvents t) (by decide)).trans hstate, (on_off (it_noteEvents t) (by decide)).trans hlock, fun d hd => ?_⟩
  exact (on_off (it_noteEvents t) (by decide)).trans (hpresent d hd)

end Sys2Proof.Proofs
end

section
/-! SUPPORT. A port that holds no deferred LINK request keeps its state and its grant while its mechanisms are lost, faulted and made safe. -/

namespace Sys2Proof.Proofs

open Sys2Proof.Machine Sys2Proof.Laws

/-- Port p has no deferred LINK request; PEN_STATUS reads w, and the LINK grant it holds is l. -/
structure LinkIdle (p : Nat) (w : Word) (l : Option (Nat × Nat)) (t : State) : Prop where
  quiet : LinkQuiet t p
  status : t.rd .PEN_STATUS p = w
  link : tabGet t.breath.link p none = l

theorem linkIdle_of_quiet {s : State} {p : Nat} (h : LinkQuiet s p) : LinkIdle p (s.rd .PEN_STATUS p) (tabGet s.breath.link p none) s := ⟨h, rfl, rfl⟩

section
variable {p : Nat} {w : Word} {l : Option (Nat × Nat)} {s : State}

/-- Deferred requests may go; PEN_STATUS and the LINK grants stay. -/
theorem LinkIdle.of {t : State} (h : LinkIdle p w l s) (hreqs : ∀ r ∈ t.breath.reqs, r ∈ s.breath.reqs) (hst : t.rd .PEN_STATUS p = s.rd .PEN_STATUS p)
    (hlink : t.breath.link = s.breath.link) : LinkIdle p w l t :=
  ⟨fun r hr => h.quiet r (hreqs r hr), hst.trans h.status, hlink ▸ h.link⟩

/-- Requests that keep class and owner stay no LINK request of the port. -/
theorem LinkIdle.map {g : PowerReq → PowerReq} (hg : ∀ r, (g r).cls = r.cls ∧ (g r).who = r.who) {f : BreathState → BreathState}
    (hreqs : (f s.breath).reqs = s.breath.reqs.map g) (hlink : (f s.breath).link = s.breath.link) (h : LinkIdle p w l s) : LinkIdle p w l (s.modBreath f) := by
  refine ⟨fun r hr => ?_, h.status, (congrArg (tabGet · p none) hlink).trans h.link⟩
  obtain ⟨q, hq, rfl⟩ := List.mem_map.mp (hreqs ▸ hr : r ∈ s.breath.reqs.map g)
  rw [(hg q).1, (hg q).2]
  exact h.quiet q hq

/-- A port that goes on leaves the others. -/
theorem linkGranted_rd_ne (s : State) {q : Nat} (h : q ≠ p) : (s.linkGranted q).rd .PEN_STATUS p = s.rd .PEN_STATUS p := by
  unfold State.linkGranted
  extract_lets w s1
  have hstep : ∀ k, (s1.portStep q k).rd .PEN_STATUS p = s.rd .PEN_STATUS p := fun k => by
    show (s1.set .PEN_STATUS_PSTATE q k).rd .PEN_STATUS p = _
    exact rd_wr_index _ _ _ _ _ _ _ (addr_ne (by decide) h)
  clear_value w
  split
  · rfl
  · exact hstep 1
  · exact hstep 9

theorem LinkIdle.makeGrant {r : PowerReq} (hr : ¬ (r.cls = 1 ∧ r.who = p)) (h : LinkIdle p w l s) : LinkIdle p w l (s.makeGrant r) := by
  by_cases hc : r.cls = 1
  · have hne : r.who ≠ p := fun he => hr ⟨hc, he⟩
    rw [makeGrant_link s hc]
    refine ⟨?_, (linkGranted_rd_ne _ hne).trans h.status, ?_⟩
    · rw [LinkQuiet, breath_off (it_linkGranted _ _) (by decide)]
      exact h.quiet
    · rw [breath_off (it_linkGranted _ _) (by decide)]
      exact (tabGet_tabPut_ne s.breath.link hne (some (r.dom, r.mw)) none none).trans h.link
  · have hreqs : (s.makeGrant r).breath.reqs = s.breath.reqs ∧ (s.makeGrant r).breath.link = s.breath.link ∧
        (s.makeGrant r).rd .PEN_STATUS p = s.rd .PEN_STATUS p := by
      unfold State.makeGrant
      extract_lets up
      split
      · exact absurd ‹_› hc
      · exact ⟨rfl, rfl, rfl⟩
      · exact ⟨rfl, rfl, rfl⟩
      · exact ⟨rfl, rfl, rfl⟩
      · rw [rd_off (it_set _ _ _ _) (by decide), State.set, set2_breath]
        exact ⟨rfl, rfl, rfl⟩
    exact h.of (fun r hr => hreqs.1 ▸ hr) hreqs.2.2 hreqs.2.1

theorem linkIdle_evalKept (p : Nat) (w : Word) (l : Option (Nat × Nat)) : EvalKept (LinkIdle p w l) fun r => ¬ (r.cls = 1 ∧ r.who = p) where
  set s f i v hf h := by
    have hb : (s.set f i v).breath = s.breath := set2_breath s f i 0 v
    refine h.of (fun r hr => hb ▸ hr) (rd_wr_disj s f.reg _ i 0 p 0 _ ?_) (by rw [hb])
    rcases hf with hf | hf <;> rw [hf] <;> decide
  age _ g hg h := h.map hg rfl rfl
  grant s r hr h := by
    have h1 : LinkIdle p w l (s.modBreath fun b => { b with reqs := b.reqs.erase r }) := h.of (fun _ hq => List.mem_of_mem_erase hq) rfl rfl
    exact h1.makeGrant hr
  reqs _ h := h.quiet

theorem linkIdle_arbitrated (p : Nat) (w : Word) (l : Option (Nat × Nat)) : Arbitrated (LinkIdle p w l) where
  same hv h := h.of (fun _ hr => hv.breath ▸ hr) (hv.regs _ List.mem_cons_self p) (by rw [hv.breath])
  grants _ _ h := h.of (fun _ hr => hr) rfl rfl
  reevaluate _ d h := (linkIdle_evalKept p w l).reevaluate d h

/-- What leaves PEN_STATUS and the arbiter. -/
theorem LinkIdle.off {t : State} {f : List Spot} (it : ∀ {q : Item}, q.off f = true → itm q t = itm q s)
    (hf : ((Item.reg .PEN_STATUS 0 0).off f && (Item.part .breath).off f) = true) (h : LinkIdle p w l s) : LinkIdle p w l t := by
  obtain ⟨hst, hbreath⟩ := Bool.and_eq_true_iff.mp hf
  have hb := breath_off it hbreath
  exact h.of (fun _ hr => hb ▸ hr) (rd_off it hst) (by rw [hb])

theorem LinkIdle.reevaluate (d : Nat) (h : LinkIdle p w l s) : LinkIdle p w l (s.reevaluate d) := (linkIdle_evalKept p w l).reevaluate d h

/-! ### States and transitions -/

theorem LinkIdle.applyCfg (n : Nat) (h : LinkIdle p w l s) : LinkIdle p w l (s.applyCfg n) := by
  unfold State.applyCfg
  extract_lets v d s1
  split
  · exact h
  · have h0 : LinkIdle p w l (s.modMech n fun m => { m with cfgEff := v }) := h.off (it_modMech _ _ _) (by decide)
    have h1 : LinkIdle p w l s1 := h0.map (fun r => by split <;> exact ⟨rfl, rfl⟩) rfl rfl
    exact .off (it_noteSafeHold _ _) (by decide) (.off (it_watchSets _) (by decide) ((h1.reevaluate _).reevaluate _))

theorem LinkIdle.chargeStanding (n : Nat) (on : Bool) (h : LinkIdle p w l s) : LinkIdle p w l (s.chargeStanding n on) := by
  refine LinkIdle.reevaluate _ ?_
  exact h.of (fun _ hr => hr) rfl rfl

theorem LinkIdle.enterState (n st : Nat) (h : LinkIdle p w l s) : LinkIdle p w l (s.enterState n st) := by
  unfold State.enterState
  extract_lets sa s0 s1 s2
  have ha : LinkIdle p w l sa := by
    simp only [sa]
    split
    · exact h.off (it_modMech _ _ _) (by decide)
    · exact h
  have h1 : LinkIdle p w l s1 := .off (it_noteSafeHold _ _) (by decide) (.off (it_set _ _ _ _) (by decide) (ha.off (it_modMech _ _ _) (by decide)))
  have h2 : LinkIdle p w l s2 := by
    simp only [s2]
    split
    · exact h1.applyCfg n
    · exact h1
  split
  · exact h2
  · exact h2.chargeStanding n _

theorem LinkIdle.endMove (n st : Nat) (h : LinkIdle p w l s) : LinkIdle p w l (s.endMove n st) := by
  unfold State.endMove
  extract_lets s1
  have h0 : LinkIdle p w l (if isRest st || st == 8 || st == 9 then s.modMech n fun m => { m with orphan := none, mountHeld := false } else s) := by
    split
    · exact h.off (it_modMech _ _ _) (by decide)
    · exact h
  have h1 : LinkIdle p w l s1 := h0.enterState n st
  exact .off (it_chg _ _) (by decide) (.off (it_modPort _ _ _) (by decide) (.off (it_set _ _ _ _) (by decide) (h1.off (it_set _ _ _ _) (by decide))))

theorem LinkIdle.returnAll (n : Nat) (h : LinkIdle p w l s) : LinkIdle p w l (s.returnAll n) := by
  refine LinkIdle.reevaluate _ ?_
  exact h.of (fun _ hr => (List.mem_filter.mp hr).1) rfl rfl

/-! ### Commands, codewords and slots -/

theorem LinkIdle.cutCmd (c : Ctx) (st : Nat) (h : LinkIdle p w l s) : LinkIdle p w l (s.cutCmd c st) := by
  have h1 : LinkIdle p w l (s.withdrawCmd c.fn c.d.tag) := h.of (fun _ hr => (List.mem_filter.mp hr).1) rfl rfl
  exact .off (it_complete _ _ _ _ _ _) (by decide) (h1.off (it_dropWrite _ _ _) (by decide))

theorem LinkIdle.completeAll (n st : Nat) (moveFault : Bool) (h : LinkIdle p w l s) : LinkIdle p w l (s.completeAll n st moveFault) :=
  forEach_keeps _ _ _ (fun c _ _ ht => LinkIdle.cutCmd c _ ht) h

theorem LinkIdle.grantBistQ (q : List BistReq) : ∀ {s : State}, LinkIdle p w l s → LinkIdle p w l (s.grantBistQ q) := by
  induction q with
  | nil => exact fun h => h
  | cons r q ih =>
    intro s h
    unfold State.grantBistQ
    split
    · exact h
    · exact ih (h.of (fun _ hr => hr) rfl rfl)

theorem LinkIdle.requestTest (cls index : Nat) (h : LinkIdle p w l s) : LinkIdle p w l (s.requestTest cls index) := by
  unfold State.requestTest State.requestBist State.grantBist
  extract_lets s1
  have h1 : LinkIdle p w l s1 := by
    simp only [s1]
    split
    · exact h.off (it_raise _ _ _) (by decide)
    · exact h
  exact .grantBistQ _ (h1.of (fun _ hr => hr) rfl rfl)

theorem LinkIdle.idleDecoder (d : Nat) (h : LinkIdle p w l s) : LinkIdle p w l (s.idleDecoder d) := by
  have htest : LinkIdle p w l (s.testDecoder d) := .requestTest _ _ (.off (it_set _ _ _ _) (by decide) (h.off (it_clearDecoder _ _) (by decide)))
  unfold State.idleDecoder
  split
  · exact htest
  · exact htest
  · exact .off (it_decCmdDone _ _) (by decide) (h.off (it_retireDecoder _ _) (by decide))
  · exact .off (it_set _ _ _ _) (by decide) (h.off (it_clearDecoder _ _) (by decide))
  · exact h.off (it_clearDecoder _ _) (by decide)

theorem LinkIdle.discardCws (n : Nat) (h : LinkIdle p w l s) : LinkIdle p w l (s.discardCws n) := by
  unfold State.discardCws
  extract_lets mine s1
  refine LinkIdle.off (it_modChan _ _) (by decide) (forEach_keeps _ _ _ (fun c _ t ht => ?_) h)
  split
  · exact ht.idleDecoder _
  · exact ht

theorem LinkIdle.releaseSlot (n : Nat) (h : LinkIdle p w l s) : LinkIdle p w l (s.releaseSlot n) := by
  unfold State.releaseSlot
  split
  · exact h
  · extract_lets c k s1 s2 s3 s4 s5 s6
    have h1 : LinkIdle p w l s1 := (linkIdle_arbitrated p w l).stopSled n false (.off (it_abandonSoft _ _) (by decide) (h.off (it_abandonSwap _ _ _) (by decide)))
    have h2 : LinkIdle p w l s2 := h1.off (it_endInjOf _ _ _) (by decide)
    have h3 : LinkIdle p w l s3 := by
      simp only [s3]
      split
      · exact h2.off (it_endCap _ _ _) (by decide)
      · exact h2
    have h4 : LinkIdle p w l s4 := .off (it_wr _ _ _ _ _) (by decide) (.off (it_wr _ _ _ _ _) (by decide) (h3.off (it_wr _ _ _ _ _) (by decide)))
    have h5 : LinkIdle p w l s5 := .off (it_set _ _ _ _) (by decide) (.off (it_set _ _ _ _) (by decide) (h4.off (it_set _ _ _ _) (by decide)))
    have h6 : LinkIdle p w l s6 := .off (it_modCirq _ _) (by decide) (h5.off (it_modServo _ _ _) (by decide))
    exact .off (it_modMech _ _ _) (by decide) (h6.off (it_dropPosition _ _) (by decide))

theorem LinkIdle.clearDisc (n : Nat) (h : LinkIdle p w l s) : LinkIdle p w l (s.clearDisc n) := h.off (it_clearDisc _ _) (by decide)

/-! ### Mechanisms lost, faulted and identified -/

theorem LinkIdle.toAbsent (n : Nat) (h : LinkIdle p w l s) : LinkIdle p w l (s.toAbsent n) := by
  have ha := linkIdle_arbitrated p w l
  unfold State.toAbsent
  split
  · exact h
  · extract_lets s1 s2 s3 s4
    have h1 : LinkIdle p w l s1 := (ha.abandonRuns n h).off (it_loseWrites _ _) (by decide)
    have h2 : LinkIdle p w l s2 := ha.releaseLane n false ((h1.completeAll n _ _).discardCws n)
    have h3 : LinkIdle p w l s3 := by
      refine ha.endTray n (.releaseSlot n (ha.stopSled n true ?_))
      split
      · exact h2.off (it_safeSpindle _ _) (by decide)
      · exact h2
    have h4 : LinkIdle p w l s4 := ((h3.returnAll n).clearDisc n).off (it_modMech _ _ _) (by decide)
    exact h4.endMove n 0

theorem LinkIdle.dropLost (n : Nat) (h : LinkIdle p w l s) : LinkIdle p w l (s.dropLost n) := by
  unfold State.dropLost
  extract_lets s1
  have h1 : LinkIdle p w l s1 := (h.toAbsent n).off (it_wr _ _ _ _ _) (by decide)
  exact .off (it_modDrop _ _ _) (by decide) (.off (it_set2 _ _ _ _ _) (by decide) (h1.off (it_wr _ _ _ _ _) (by decide)))

theorem LinkIdle.makeSafe (n target : Nat) (moveFault : Bool) (h : LinkIdle p w l s) : LinkIdle p w l (s.makeSafe n target moveFault) := by
  have ha := linkIdle_arbitrated p w l
  unfold State.makeSafe
  extract_lets s0 s1 s2 s3 s4 s5 s6 s7
  have h0 : LinkIdle p w l s0 := .off (it_emit _ _) (by decide) (h.off (it_beginMove _ _ _) (by decide))
  have h1 : LinkIdle p w l s1 := by
    simp only [s1]
    split
    · exact h0.off (it_sendAct _ _ _ _ _) (by decide)
    · exact h0
  have h2 : LinkIdle p w l s2 := ha.endTray n (ha.stopSled n true ((ha.abandonRuns n h1).off (it_safeSpindle _ _) (by decide)))
  have h3 : LinkIdle p w l s3 := LinkIdle.completeAll n _ _ (h2.off (it_loseWrites _ _) (by decide))
  have h4 : LinkIdle p w l s4 := ha.releaseLane n false (h3.discardCws n)
  have h6 : LinkIdle p w l s6 := ((h4.releaseSlot n).returnAll n).off (it_modMech _ _ _) (by decide)
  have h7 : LinkIdle p w l s7 := by
    simp only [s7]
    split
    · exact h6.off (it_recordIsolation _ _) (by decide)
    · exact h6
  exact h7.endMove n target

theorem LinkIdle.fault (n code detail : Nat) (h : LinkIdle p w l s) : LinkIdle p w l (s.fault n code detail) := by
  unfold State.fault
  extract_lets st c s1 t s2
  have h1 : LinkIdle p w l s1 := h.off (it_recordFault _ _ _ _) (by decide)
  have h2 : LinkIdle p w l s2 := by
    simp only [s2]
    split
    · exact LinkIdle.clearDisc n (h1.off (it_modMech _ _ _) (by decide))
    · exact h1
  split
  · exact h
  · split
    · exact h1
    · split
      · exact h2
      · exact h2.makeSafe n t _

theorem LinkIdle.attach (n : Nat) (clamped : Bool) (h : LinkIdle p w l s) : LinkIdle p w l (s.attach n clamped) := by
  unfold State.attach
  extract_lets s1
  have h1 : LinkIdle p w l s1 := LinkIdle.enterState n 1 ((h.clearDisc n).off (it_modMech _ _ _) (by decide))
  exact LinkIdle.endMove n _ (h1.off (it_loadLimits _ _) (by decide))

/-- A port gives its LINK grant back, and any request for one. -/
theorem returnLink_idle (s : State) (p : Nat) : LinkIdle p (s.rd .PEN_STATUS p) none (s.returnLink p) := by
  unfold State.returnLink
  extract_lets s1
  have h1 : LinkIdle p (s.rd .PEN_STATUS p) none s1 := by
    refine ⟨fun r hr hp => ?_, rfl, tabGet_tabDel_same s.breath.link p none⟩
    have hkeep := (List.mem_filter.mp hr).2
    rw [beq_iff_eq.mpr hp.1, beq_iff_eq.mpr hp.2] at hkeep
    exact absurd hkeep (by decide)
  split
  · exact h1
  · exact h1.reevaluate _

end

end Sys2Proof.Proofs
end

section
/-! SUPPORT. Drops lost and identified, and trainings that fail (R37, R50, R59, R82). -/

namespace Sys2Proof.Proofs

open Sys2Proof.Machine Sys2Proof.Laws

/-! ### Drops identified -/

/-- The registers of a drop that is identified, before its mechanism attaches (R59, R63). -/
def dropSeen (s : State) (p : Nat) (i : DropIdent) : State :=
  let d := i.drop % 64
  let n := p * 64 + d
  let sr := s.bfwReturn n i.fw
  let s0 := if s.mst n ≠ 0 ∧ s.bridgeSn n ≠ i.sn then sr.toAbsent n else sr
  let fan := if s.on .PEN_FANOUT_PRESENT p then s.get .PEN_FANOUT_MAX_VER p else 0x20
  let ver := min (verOf (s.get .PEN_CFG_MAX_VER p)) (min fan i.maxVer)
  let s1 := ((((s0.set2 .PEN_DROP_VER p d ver).set2 .PEN_DROP_DSTATE p d 2).set2 .PEN_DROP_MGMT_OK p d 1).set2 .PEN_DROP_PRESENT p d 1).set2
    .PEN_DROP_MISS_RUN p d 0
  let s2 := (((s1.set .MECH_BRIDGE_BFW_VER n i.fw).set .MECH_BRIDGE_LINK_VER n ver).set .MECH_BRIDGE_GEN n i.gen).set64
    .MECH_BRIDGE_SN_LO_SN .MECH_BRIDGE_SN_HI_SN n i.sn
  let s3 := (s2.raise .PEN_EVENT_DROP_CHG p).modMech n fun m =>
    { m with attachedAt := s.now, polarityDue := true, scaleI := i.scaleI, scaleV := i.scaleV }
  s3.modDrop n fun x => { x with heardAt := s.now, seekAt := none }

/-- What becomes of a mechanism whose drop is identified (R37, R50). -/
def seenState (s : State) (n : Nat) (i : DropIdent) : State :=
  if s.mst n ≠ 0 then (if i.selfTest then s else s.fault n 0x80 0)
  else
    let s4 := s.modMech n fun m => { m with driveStop := none }
    if !i.selfTest then ((s4.recordFault n 0x80 0).recordIsolation n).endMove n 9
    else if s4.isolated i.sn then s4.endMove n 9
    else s4.attach n i.clamped

theorem identify_eq (s : State) (p : Nat) (i : DropIdent) : s.identify p i = seenState (dropSeen s p i) (p * 64 + i.drop % 64) i := rfl

/-- Where a mechanism was ABSENT, the drop seen leaves it so. -/
theorem mst_dropSeen {s : State} {p : Nat} {i : DropIdent} (h : s.mst (p * 64 + i.drop % 64) = 0) : (dropSeen s p i).mst (p * 64 + i.drop % 64) = 0 := by
  unfold dropSeen
  extract_lets d n sr s0 fan ver s1 s2 s3
  have h0 : s0 = sr := if_neg fun hne => hne.1 h
  rw [mst_off (it_modDrop _ _ _) (by decide), mst_off (it_modMech _ _ _) (by decide), mst_off (it_raise _ _ _) (by decide)]
  simp only [s2, s1, h0, sr, State.set64, State.mst]
  rw [get_set_disj (by decide), get_set_disj (by decide), get_set_disj (by decide), get_set_disj (by decide), get_set_disj (by decide), get_set2_disj (by decide),
    get_set2_disj (by decide), get_set2_disj (by decide), get_set2_disj (by decide), get_set2_disj (by decide), get_off (it_bfwReturn _ _ _) (by decide)]
  exact h

theorem dropSeen_present (s : State) {p : Nat} {i : DropIdent} (hp : p < 64) (hd : i.drop < 64) : (dropSeen s p i).on .PEN_DROP_PRESENT p i.drop = true := by
  refine on_eq_true_of_get ?_
  unfold dropSeen
  extract_lets d n sr s0 fan ver s1 s2 s3
  have hd' : d = i.drop := Nat.mod_eq_of_lt hd
  have h1 : s1.get .PEN_DROP_PRESENT p d = 1 := by
    rw [get_set2_beside (f := .PEN_DROP_MISS_RUN) (g := .PEN_DROP_PRESENT) rfl (by decide), hd']
    exact get_set_same _ .PEN_DROP_PRESENT p i.drop 1 (penDrop_has hp hd) (by decide)
  rw [get_off (it_modDrop _ _ _) (by decide), get_off (it_modMech _ _ _) (by decide), get_off (it_raise _ _ _) (by decide), ← hd']
  simp only [s2, State.set64]
  rw [get_set_disj (by decide), get_set_disj (by decide), get_set_disj (by decide), get_set_disj (by decide), get_set_disj (by decide), h1]

theorem isol_dropSeen {s : State} {p : Nat} {i : DropIdent} (h : s.mst (p * 64 + i.drop % 64) = 0) : (dropSeen s p i).isol = s.isol := by
  unfold dropSeen
  extract_lets d n sr s0 fan ver s1 s2 s3
  have h0 : s0 = sr := if_neg fun hne => hne.1 h
  rw [isol_off (it_modDrop _ _ _) (by decide), isol_off (it_modMech _ _ _) (by decide), isol_off (it_raise _ _ _) (by decide)]
  simp only [s2, s1, h0, sr, State.set64, State.set, set2_isol]
  rw [isol_off (it_bfwReturn _ _ _) (by decide)]

/-- An event of the port other than DROP_CHG stays as it is when a drop is seen. -/
theorem event_dropSeen {g : Fld} (hg : g.reg = .PEN_EVENT) (hb : beside .PEN_EVENT_DROP_CHG g = true) (s : State) (p q : Nat) (i : DropIdent) :
    (dropSeen s p i).get g q = s.get g q := by
  unfold dropSeen
  extract_lets d n sr s0 fan ver s1 s2 s3
  have hr : sr.get g q = s.get g q := get_off (it_bfwReturn _ _ _) (hg ▸ by decide)
  have h0 : s0.get g q = s.get g q := by
    simp only [s0]
    split
    · rw [get_off (it_toAbsent _ _) (hg ▸ by decide +kernel), hr]
    · exact hr
  rw [get_off (it_modDrop _ _ _) (hg ▸ by decide), get_modMech, State.raise, get_set_otherField hg (by decide) hb]
  simp only [s2, s1, State.set64]
  rw [get_set_disj (by rw [hg]; decide), get_set_disj (by rw [hg]; decide), get_set_disj (by rw [hg]; decide), get_set_disj (by rw [hg]; decide),
    get_set_disj (by rw [hg]; decide), get_set2_disj (by rw [hg]; decide), get_set2_disj (by rw [hg]; decide), get_set2_disj (by rw [hg]; decide),
    get_set2_disj (by rw [hg]; decide), get_set2_disj (by rw [hg]; decide), h0]

/-! ### The mechanism of a drop seen -/

def foot_seenState : List Spot := foot_fault ++ (foot_modMech ++ (foot_recordFault ++ (foot_recordIsolation ++ (foot_endMove ++ foot_attach))))

theorem it_seenState {iq : Item} (s : State) (n : Nat) (i : DropIdent) (hq : iq.off foot_seenState = true) : itm iq (seenState s n i) = itm iq s := by
  simp only [foot_seenState, off_append, Bool.and_eq_true] at hq
  simp [hq, seenState]

theorem seenState_rests {s : State} {n : Nat} {i : DropIdent} (hn : n < 4096) (h : s.mst n = 0) :
    (i.selfTest = true → s.isolated i.sn = false → (seenState s n i).mst n = (if i.clamped then 3 else 1)) ∧
    (i.selfTest = false ∨ s.isolated i.sn = true → (seenState s n i).mst n = 9) := by
  unfold seenState
  rw [if_neg (fun hne => hne h)]
  extract_lets s4
  have hi : s4.isolated i.sn = s.isolated i.sn := rfl
  refine ⟨fun ht hs => ?_, fun hor => ?_⟩
  · rw [if_neg (by simp [ht]), if_neg (by simp [hi, hs])]
    exact (attach_rests s4 i.clamped hn).1
  · split
    · exact mst_endMove _ hn (by decide)
    · next ht =>
      have hs : s4.isolated i.sn = true := hi.trans (hor.resolve_left fun hf => ht (by simp [hf]))
      rw [if_pos hs]
      exact mst_endMove _ hn (by decide)

section
variable {p : Nat} {w : Word} {l : Option (Nat × Nat)} {s : State}

theorem LinkIdle.dropSeen (q : Nat) (i : DropIdent) (h : LinkIdle p w l s) : LinkIdle p w l (dropSeen s q i) := by
  unfold Proofs.dropSeen
  extract_lets d n sr s0 fan ver s1 s2 s3
  have hr : LinkIdle p w l sr := h.off (it_bfwReturn _ _ _) (by decide)
  have h0 : LinkIdle p w l s0 := by
    simp only [s0]
    split
    · exact hr.toAbsent n
    · exact hr
  have h1 : LinkIdle p w l s1 := by
    iterate 5 refine LinkIdle.off (it_set2 _ _ _ _ _) (by decide) ?_
    exact h0
  have h2 : LinkIdle p w l s2 := by
    iterate 5 refine LinkIdle.off (it_set _ _ _ _) (by decide) ?_
    exact h1
  exact .off (it_modDrop _ _ _) (by decide) (.off (it_modMech _ _ _) (by decide) (h2.off (it_raise _ _ _) (by decide)))

theorem LinkIdle.seenState (n : Nat) (i : DropIdent) (h : LinkIdle p w l s) : LinkIdle p w l (seenState s n i) := by
  unfold Proofs.seenState
  split
  · split
    · exact h
    · exact h.fault n _ _
  · extract_lets s4
    have h4 : LinkIdle p w l s4 := h.off (it_modMech _ _ _) (by decide)
    split
    · exact LinkIdle.endMove n 9 (.off (it_recordIsolation _ _) (by decide) (h4.off (it_recordFault _ _ _ _) (by decide)))
    · split
      · exact h4.endMove n 9
      · exact h4.attach n _

theorem LinkIdle.identify (q : Nat) (i : DropIdent) (h : LinkIdle p w l s) : LinkIdle p w l (s.identify q i) := (h.dropSeen q i).seenState _ i

end

theorem event_identify {g : Fld} (hg : g.reg = .PEN_EVENT) (hb : beside .PEN_EVENT_DROP_CHG g = true) (s : State) (p q : Nat) (i : DropIdent) :
    (s.identify p i).get g q = s.get g q := by
  rw [identify_eq, get_off (it_seenState _ _ _) (by rw [hg]; decide +kernel), event_dropSeen hg hb]

/-! ### Drops lost -/

theorem mst_clearDisc (s : State) (n k : Nat) : (s.clearDisc n).mst k = s.mst k := by
  unfold State.clearDisc
  rw [mst_off (it_wr _ _ _ _ _) (by decide)]
  exact clearMount_keeps rfl (by decide) s n k

theorem mst_safeSpindle (s : State) (n k : Nat) : (s.safeSpindle n).mst k = s.mst k := by
  unfold State.safeSpindle
  extract_lets s0 s1 s2
  have h2 : s2.mst k = s.mst k := by
    rw [mst_off (it_set _ _ _ _) (by decide), mst_off (it_set _ _ _ _) (by decide), mst_off (it_set _ _ _ _) (by decide), mst_off (it_startShort _ _ _) (by decide)]
  split
  · unfold State.setIf
    split
    · exact (get_set_otherField (f := .MECH_STATE_TURNING) (g := .MECH_STATE_STATE) rfl (by decide) (by decide) _ _ _ _).trans h2
    · exact h2
  · exact h2

/-- A drop that is lost leaves ABSENT alone, and the other mechanisms (R37). -/
theorem mst_toAbsent (s : State) {n k : Nat} (hn : n < 4096) : (s.toAbsent n).mst k = if k = n then 0 else s.mst k := by
  unfold State.toAbsent
  split
  · next h0 =>
    split
    · next hk => exact hk ▸ h0
    · rfl
  · extract_lets s1 s2 s3 s4
    have h2 : s2.mst k = s.mst k := by
      rw [mst_off (it_releaseLane _ _ _) (by decide), mst_off (it_discardCws _ _) (by decide), mst_off (it_completeAll _ _ _ _) (by decide),
        mst_off (it_loseWrites _ _) (by decide), mst_off (it_abandonRuns _ _) (by decide)]
    have h3 : s3.mst k = s.mst k := by
      rw [mst_off (it_endTray _ _) (by decide), mst_off (it_releaseSlot _ _) (by decide), mst_off (it_stopSled _ _ _) (by decide)]
      split
      · rw [mst_safeSpindle, h2]
      · exact h2
    have h4 : s4.mst k = s.mst k := by rw [mst_off (it_modMech _ _ _) (by decide), mst_clearDisc, mst_off (it_returnAll _ _) (by decide), h3]
    split
    · next hk => rw [hk, mst_endMove s4 hn (by decide)]
    · next hk => rw [mst_endMove_ne s4 0 (Ne.symm hk), h4]

theorem mst_dropLost (s : State) {n k : Nat} (hn : n < 4096) : (s.dropLost n).mst k = if k = n then 0 else s.mst k := by
  unfold State.dropLost
  extract_lets s1
  rw [mst_off (it_modDrop _ _ _) (by decide), mst_off (it_set2 _ _ _ _ _) (by decide), mst_off (it_wr _ _ _ _ _) (by decide), mst_off (it_wr _ _ _ _ _) (by decide),
    mst_toAbsent s hn]

/-! ### Trainings that fail -/

/-- The port shows FAILED, before its drops are lost (R59). -/
def trainingFailed (s : State) (p cause : Nat) : State :=
  let s1 := (((s.portStep p 0xA).set .PEN_STATUS_FAIL_CAUSE p cause).set .PEN_STATUS_LOCK p 0).raise .PEN_EVENT_TRAIN_FAIL p
  (s1.bump .PEN_CNT_TRAIN_FAILS p).logEntry { cls := 4, code := 1, sev := 1, unit := p, detail0 := cause, detail1 := (s1.rd .PEN_LANE p).toNat }

theorem failTraining_eq (s : State) (p cause : Nat) : s.failTraining p cause =
    ((trainingFailed s p cause).forEach ((mnsOf p).filter fun n => s.mst n != 0 && !s.rebooting n) State.dropLost).returnLink p := rfl

theorem trainingFailed_shows (s : State) {p cause : Nat} (hp : p < 64) (hc : cause < 16) : (trainingFailed s p cause).pstate p = 0xA ∧
    (trainingFailed s p cause).get .PEN_STATUS_FAIL_CAUSE p = cause ∧ (trainingFailed s p cause).on .PEN_EVENT_TRAIN_FAIL p = true := by
  unfold trainingFailed
  extract_lets s1
  rw [State.pstate, get_off (it_logEntry _ _) (by decide), get_off (it_bump _ _ _) (by decide), get_off (it_logEntry _ _) (by decide),
    get_off (it_bump _ _ _) (by decide), on_off (it_logEntry _ _) (by decide), on_off (it_bump _ _ _) (by decide)]
  refine ⟨?_, ?_, on_eq_true_of_get (get_raise_self (by decide) _ _ (portReg_has rfl rfl hp) (by decide))⟩
  · rw [get_off (it_raise _ _ _) (by decide)]
    simp (disch := with_unfolding_all exact id rfl) only [State.portStep, get_set_field, get_modPort]
    exact get_set_self (by decide) _ _ _ (penStatus_has hp)
  · rw [get_off (it_raise _ _ _) (by decide), get_set_otherField (f := .PEN_STATUS_LOCK) (g := .PEN_STATUS_FAIL_CAUSE) rfl (by decide) (by decide),
      get_set_self (by decide) _ _ _ (penStatus_has hp)]
    exact Nat.mod_eq_of_lt hc

/-- A training that fails leaves the port FAILED with its cause, whatever becomes of its drops (R59). -/
theorem failTraining_fails {s : State} {p cause : Nat} (hp : p < 64) (hc : cause < 16) (hq : LinkQuiet s p) : (s.failTraining p cause).pstate p = 0xA ∧
    (s.failTraining p cause).get .PEN_STATUS_FAIL_CAUSE p = cause ∧ (s.failTraining p cause).on .PEN_EVENT_TRAIN_FAIL p = true := by
  obtain ⟨hstate, hcause, hevent⟩ := trainingFailed_shows s hp hc
  have hb : (trainingFailed s p cause).breath = s.breath := by
    unfold trainingFailed
    extract_lets s1
    rw [breath_off (it_logEntry _ _) (by decide), breath_off (it_bump _ _ _) (by decide), breath_off (it_raise _ _ _) (by decide), breath_off (it_set _ _ _ _) (by decide),
      breath_off (it_set _ _ _ _) (by decide), breath_off (it_portStep _ _ _) (by decide)]
  have hq0 : LinkQuiet (trainingFailed s p cause) p := by
    rw [LinkQuiet, hb]
    exact hq
  have hlost := forEach_keeps State.dropLost ((mnsOf p).filter fun n => s.mst n != 0 && !s.rebooting n) _ (fun n _ _ ht => LinkIdle.dropLost n ht) (linkIdle_of_quiet hq0)
  rw [failTraining_eq]
  have hst := (returnLink_idle ((trainingFailed s p cause).forEach ((mnsOf p).filter fun n => s.mst n != 0 && !s.rebooting n) State.dropLost) p).status.trans hlost.status
  refine ⟨(get_of_rd (f := .PEN_STATUS_PSTATE) hst).trans hstate, (get_of_rd (f := .PEN_STATUS_FAIL_CAUSE) hst).trans hcause, ?_⟩
  · rw [on_off (it_returnLink _ _) (by decide), on_off (l := foot_dropLost) (fun hq => it_forEach _ _ _ fun _ _ => it_dropLost _ _ hq) (by decide +kernel), hevent]

end Sys2Proof.Proofs
end

section
/-! OBLIGATION O49. -/

namespace Sys2Proof.Proofs

open Sys2Proof.Machine Sys2Proof.Laws

/-! ### Trainings that start -/

section
variable {p : PortIx} {s : State}

theorem completes_detects {c : Instr} (he : exec c s = fin (s.startTraining p)) (h : LinkFree s p) : Completes c s (Detects p) :=
  completes_fin he (detects_noteEvents (startTraining_detects p.isLt h))

theorem portEnable_detects (hc : s.closed = false) (hoff : s.pstate p = 0) (hw : (s.px p).want = .none) (h : LinkFree s p) :
    Completes (.portEnable p) s fun t => Detects p t ∧ t.on .PEN_CFG_EN p = true := by
  have hoff' : (s.dozeWake 2).pstate p = 0 := (get_off (it_dozeWake s 2) (by decide)).trans hoff
  have hw' : ((s.dozeWake 2).px p).want = .none := by rw [px_off (it_dozeWake s 2) (by decide), hw]
  have he : exec (.portEnable p) s = fin (((s.dozeWake 2).set .PEN_CFG_EN p 1).startTraining p) := by
    show execPortEnable p s = _
    rw [execPortEnable, regCmd_open hc]
    exact congrArg fin (if_pos ⟨hoff', hw'⟩)
  have hfree : LinkFree ((s.dozeWake 2).set .PEN_CFG_EN p 1) p := linkFree_off (it_set _ _ _ _) (by decide) (linkFree_off (it_dozeWake s 2) (by decide) h)
  refine completes_fin he ⟨detects_noteEvents (startTraining_detects p.isLt hfree), ?_⟩
  rw [on_off (it_noteEvents _) (by decide), on_off (it_startTraining _ _) (by decide)]
  exact on_eq_true_of_get (get_set_self (by decide) _ _ _ (portReg_has rfl rfl p.isLt))

theorem retrain_detects (hc : s.closed = false) (hen : s.on .PEN_CFG_EN p = true) (h : LinkFree s p) : Completes (.retrain p) s (Detects p) := by
  have he : exec (.retrain p) s = fin ((s.dozeWake 2).startTraining p) := by
    show execRetrain p s = _
    rw [execRetrain, regCmd_open hc]
    exact if_pos ((on_off (it_dozeWake s 2) (by decide)).trans hen)
  exact completes_fin he (detects_noteEvents (startTraining_detects p.isLt (linkFree_off (it_dozeWake s 2) (by decide) h)))

theorem trainRetry_detects (hst : s.pstate p = 0xA) (hen : s.on .PEN_CFG_EN p = true) (hact : s.get .DRN_PSTAT_STATE = 1)
    (hdue : (s.px p).stepAt + ms (s.get .PEN_GCFG_RETRY_MS) ≤ s.now) (h : LinkFree s p) : Completes (.trainRetry p) s (Detects p) := by
  have he : exec (.trainRetry p) s = fin (s.startTraining p) := by
    show execTrainRetry p s = _
    exact if_pos ⟨hst, hen, Or.inl (by rw [hact]; decide), hdue⟩
  exact completes_detects he h

theorem lockTimeout_detects {t0 : Nat} (hup : s.portUp p = true) (hlost : (s.px p).lostAt = some t0) (hdue : t0 + ms (s.get .PEN_GCFG_LOCK_TO_MS) ≤ s.now)
    (hboot : (mnsOf p).any s.rebooting = false) (h : LinkFree s p) : Completes (.lockTimeout p) s (Detects p) := by
  have he : exec (.lockTimeout p) s = fin (s.startTraining p) := by
    show execLockTimeout p s = _
    rw [execLockTimeout]
    exact if_pos (by simp [hup, hlost, hdue, hboot])
  exact completes_detects he h

theorem portWakeTimeout_detects (hst : s.pstate p = 9) (hlate : s.stepLate p = true) (h : LinkFree s p) : Completes (.portWakeTimeout p) s (Detects p) := by
  have he : exec (.portWakeTimeout p) s = fin (s.startTraining p) := by
    show execPortWakeTimeout p s = _
    exact if_pos ⟨hst, hlate⟩
  exact completes_detects he h

end

/-! ### A port disabled -/

theorem mst_forEach_dropLost (l : List Nat) (hl : ∀ k ∈ l, k < 4096) (s : State) (n : Nat) :
    (s.forEach l State.dropLost).mst n = if n ∈ l then 0 else s.mst n := by
  induction l generalizing s with
  | nil => rfl
  | cons a l ih =>
    show ((s.dropLost a).forEach l State.dropLost).mst n = _
    rw [ih (fun k hk => hl k (List.mem_cons_of_mem a hk)), mst_dropLost s (hl a List.mem_cons_self)]
    by_cases hn : n ∈ l
    · simp [hn]
    · simp [hn]

theorem lt_of_mnsOf {p k : Nat} (hp : p < 64) (hk : k ∈ mnsOf p) : k < 4096 := by
  obtain ⟨d, hd, rfl⟩ := List.mem_map.mp hk
  have := List.mem_range.mp hd
  omega

/-- The mechanisms of a port whose drops are lost are ABSENT. -/
theorem forEach_dropLost {s : State} {p n : Nat} (hp : p < 64) (hn : n ∈ mnsOf p) :
    (s.forEach ((mnsOf p).filter fun k => s.mst k != 0) State.dropLost).mst n = 0 := by
  rw [mst_forEach_dropLost _ fun k hk => lt_of_mnsOf hp (List.mem_filter.mp hk).1]
  split
  · rfl
  · next hnot =>
    refine Decidable.byContradiction fun h => hnot (List.mem_filter.mpr ⟨hn, ?_⟩)
    simpa using h

/-- The port disabled, before its LINK grant goes back. -/
def portClosed (s : State) (p : Nat) : State :=
  (((s.set .PEN_CFG_EN p 0).portStep p 0).set .PEN_STATUS_LOCK p 0).modPort p fun x =>
    { x with modeNext := none, remeasure := false, sinceHeader := 0, blocks := 0, tickAt := none, lostAt := none, heldAt := none }

theorem portDisable_eq (s : State) (p : Nat) : ∃ u : State, s.portDisable p =
    (portClosed (u.forEach ((mnsOf p).filter fun n => u.mst n != 0) State.dropLost) p).returnLink p := ⟨_, rfl⟩

theorem portClosed_shows (s : State) {p : Nat} (hp : p < 64) : (portClosed s p).pstate p = 0 ∧ (portClosed s p).on .PEN_CFG_EN p = false ∧
    (portClosed s p).on .PEN_STATUS_LOCK p = false := by
  unfold portClosed
  refine ⟨?_, on_eq_false_of_get ?_, on_eq_false_of_get ?_⟩
  · rw [State.pstate, get_modPort, get_set_field (f := .PEN_STATUS_LOCK) (g := .PEN_STATUS_PSTATE) rfl (by decide) (by decide), State.portStep, get_modPort]
    exact get_set_self (by decide) _ _ _ (penStatus_has hp)
  · rw [get_modPort, get_set_disj (by decide), get_off (it_portStep _ _ _) (by decide)]
    exact get_set_self (by decide) _ _ _ (portReg_has rfl rfl hp)
  · rw [get_modPort]
    exact get_set_self (by decide) _ _ _ (penStatus_has hp)

theorem mst_portClosed (s : State) (p n : Nat) : (portClosed s p).mst n = s.mst n := by
  unfold portClosed
  rw [mst_off (it_modPort _ _ _) (by decide), mst_off (it_set _ _ _ _) (by decide), mst_off (it_portStep _ _ _) (by decide), mst_off (it_set _ _ _ _) (by decide)]

theorem portDisable_off {p : PortIx} {s : State} (hc : s.closed = false) : Completes (.portDisable p) s fun t =>
    t.pstate p = 0 ∧ t.on .PEN_CFG_EN p = false ∧ t.on .PEN_STATUS_LOCK p = false ∧ tabGet t.breath.link p none = none ∧ ∀ n ∈ mnsOf p, t.mst n = 0 := by
  have he : exec (.portDisable p) s = fin ((s.dozeWake 2).portDisable p) := by
    show execPortDisable p s = _
    rw [execPortDisable, regCmd_open hc]
  refine completes_fin he ?_
  obtain ⟨u, hu⟩ := portDisable_eq (s.dozeWake 2) p
  rw [hu]
  set v := u.forEach ((mnsOf p).filter fun n => u.mst n != 0) State.dropLost with hv
  obtain ⟨hstate, hen, hlock⟩ := portClosed_shows v p.isLt
  obtain ⟨-, hst, hlink⟩ := returnLink_idle (portClosed v p) p
  refine ⟨?_, ?_, ?_, ?_, fun n hn => ?_⟩
  · exact (get_off (it_noteEvents _) (by decide)).trans ((get_of_rd (f := .PEN_STATUS_PSTATE) hst).trans hstate)
  · rw [on_off (it_noteEvents _) (by decide), on_off (it_returnLink _ _) (by decide), hen]
  · exact (on_off (it_noteEvents _) (by decide)).trans ((on_of_get (get_of_rd (f := .PEN_STATUS_LOCK) hst)).trans hlock)
  · rw [breath_off (it_noteEvents _) (by decide), hlink]
  · rw [mst_off (it_noteEvents _) (by decide), mst_off (it_returnLink _ _) (by decide), mst_portClosed, hv, forEach_dropLost p.isLt hn]

/-! ### Steps of a training -/

theorem completes_fails {c : Instr} {s u : State} {p cause : Nat} (he : exec c s = fin (u.failTraining p cause)) (hp : p < 64) (hc : cause < 16) (hq : LinkQuiet u p) :
    Completes c s fun t => t.pstate p = 0xA ∧ t.get .PEN_STATUS_FAIL_CAUSE p = cause ∧ t.on .PEN_EVENT_TRAIN_FAIL p = true := by
  obtain ⟨hstate, hcause, hevent⟩ := failTraining_fails hp hc hq
  exact completes_fin he ⟨(get_off (it_noteEvents _) (by decide)).trans hstate, (get_off (it_noteEvents _) (by decide)).trans hcause,
    (on_off (it_noteEvents _) (by decide)).trans hevent⟩

theorem pstate_portStep (s : State) {p : Nat} (st : Nat) (hp : p < 64) (hst : st < 16) : (s.portStep p st).pstate p = st := by
  rw [State.pstate, State.portStep, get_modPort, get_set_self (by decide) _ _ _ (penStatus_has hp)]
  exact Nat.mod_eq_of_lt hst

theorem exec_trainStepDone (p : PortIx) (x : TrainInfo) (s : State) : exec (.trainStepDone p x) s = execTrainStepDone p x s := rfl

section
variable {p : PortIx} {s : State}

/-- The lanes as they are detected. -/
def lanesSeen (s : State) (p : Nat) (u0 u1 d0 d1 : Fin 16) : State :=
  let s1 := (((s.set .PEN_LANE_UP0 p u0).set .PEN_LANE_UP1 p u1).set .PEN_LANE_DN0 p d0).set .PEN_LANE_DN1 p d1
  if u0.val + u1.val + d0.val + d1.val = 0 then s1 else s1.pairFault p

def foot_lanesSeen : List Spot := foot_pairFault ++ [.f .PEN_LANE_UP0, .f .PEN_LANE_UP1, .f .PEN_LANE_DN0, .f .PEN_LANE_DN1]

theorem it_lanesSeen {iq : Item} (s : State) (p : Nat) (u0 u1 d0 d1 : Fin 16) (hq : iq.off foot_lanesSeen = true) : itm iq (lanesSeen s p u0 u1 d0 d1) = itm iq s := by
  simp only [foot_lanesSeen, off_append, off_cons_cons, Bool.and_eq_true] at hq
  simp [hq, lanesSeen]

theorem linkQuiet_off {t : State} {f : List Spot} (it : ∀ {q : Item}, q.off f = true → itm q t = itm q s) (hf : (Item.part .breath).off f = true)
    (h : LinkQuiet s p) : LinkQuiet t p := by
  rw [LinkQuiet, breath_off it hf]
  exact h

theorem detect_steps {u0 u1 d0 d1 : Fin 16} (hq : LinkQuiet s p) (hlate : s.stepLate p = false) (hst : s.pstate p = 1) :
    Completes (.trainStepDone p (.detect u0 u1 d0 d1)) s fun t =>
      ((u0.val = 0 ∨ u1.val = 0) ∧ (d0.val = 0 ∨ d1.val = 0) → t.pstate p = 2 ∧
        t.get .PEN_STATUS_LMODE p = lmodeOf (u0.val == 0) (u1.val == 0) (d0.val == 0) (d1.val == 0)) ∧
      (¬ ((u0.val = 0 ∨ u1.val = 0) ∧ (d0.val = 0 ∨ d1.val = 0)) → t.pstate p = 0xA ∧ t.get .PEN_STATUS_FAIL_CAUSE p = 2) := by
  have hiff : (!(laneUsable u0 || laneUsable u1) || !(laneUsable d0 || laneUsable d1)) = true ↔ ¬ ((u0.val = 0 ∨ u1.val = 0) ∧ (d0.val = 0 ∨ d1.val = 0)) := by
    simp [laneUsable]
    tauto
  have he : exec (.trainStepDone p (.detect u0 u1 d0 d1)) s =
      if !(laneUsable u0 || laneUsable u1) || !(laneUsable d0 || laneUsable d1) then fin ((lanesSeen s p u0 u1 d0 d1).failTraining p 2)
      else fin (((lanesSeen s p u0 u1 d0 d1).set .PEN_STATUS_LMODE p (lmodeOf (laneUsable u0) (laneUsable u1) (laneUsable d0) (laneUsable d1))).portStep p 2) := by
    rw [exec_trainStepDone, execTrainStepDone, if_neg (by simp [hlate])]
    exact if_neg (by simp [hst])
  by_cases husable : (u0.val = 0 ∨ u1.val = 0) ∧ (d0.val = 0 ∨ d1.val = 0)
  · rw [if_neg (fun h => hiff.mp h husable)] at he
    refine completes_fin he ⟨fun _ => ⟨?_, ?_⟩, fun h => absurd husable h⟩
    · exact (get_off (it_noteEvents _) (by decide)).trans (pstate_portStep _ 2 p.isLt (by decide))
    · rw [get_off (it_noteEvents _) (by decide), State.portStep, get_modPort, get_set_field (f := .PEN_STATUS_PSTATE) (g := .PEN_STATUS_LMODE) rfl (by decide) (by decide),
        get_set_self (by decide) _ _ _ (penStatus_has p.isLt)]
      refine Nat.mod_eq_of_lt ?_
      show lmodeOf (u0.val == 0) (u1.val == 0) (d0.val == 0) (d1.val == 0) < 16
      generalize (u0.val == 0) = a, (u1.val == 0) = b, (d0.val == 0) = c, (d1.val == 0) = d
      revert a b c d
      decide
  · rw [if_pos (hiff.mpr husable)] at he
    obtain ⟨t, ht, hstate, hcause, -⟩ := completes_fails he p.isLt (by decide) (linkQuiet_off (it_lanesSeen _ _ _ _ _ _) (by decide) hq)
    exact ⟨t, ht, fun h => absurd h husable, fun _ => ⟨hstate, hcause⟩⟩

theorem align_steps {pol : Fin 4} {swap : Bool} (hlate : s.stepLate p = false) (hst : s.pstate p = 2) :
    Completes (.trainStepDone p (.align pol swap)) s fun t => t.pstate p = 3 ∧ t.get .PEN_LANE_UP_POL p = pol.val := by
  have he : exec (.trainStepDone p (.align pol swap)) s = fin (((s.set .PEN_LANE_UP_POL p pol).set .PEN_LANE_UP_SWAP p (b2n swap)).portStep p 3) := by
    rw [exec_trainStepDone, execTrainStepDone, if_neg (by simp [hlate])]
    exact if_neg (by simp [hst])
  refine completes_fin he ⟨(get_off (it_noteEvents _) (by decide)).trans (pstate_portStep _ 3 p.isLt (by decide)), ?_⟩
  rw [get_off (it_noteEvents _) (by decide), get_off (it_portStep _ _ _) (by decide), get_set_field (f := .PEN_LANE_UP_SWAP) (g := .PEN_LANE_UP_POL) rfl (by decide) (by decide),
    get_set_self (by decide) _ _ _ (portReg_has rfl rfl p.isLt)]
  exact Nat.mod_eq_of_lt pol.isLt

theorem eq_steps (hlate : s.stepLate p = false) (hst : s.pstate p = 3) : Completes (.trainStepDone p .eq) s fun t => t.pstate p = 4 := by
  have he : exec (.trainStepDone p .eq) s = fin (s.portStep p 4) := by
    rw [exec_trainStepDone, execTrainStepDone, if_neg (by simp [hlate])]
    exact if_neg (by simp [hst])
  exact completes_fin he ((get_off (it_noteEvents _) (by decide)).trans (pstate_portStep _ 4 p.isLt (by decide)))

theorem lock_steps (hlate : s.stepLate p = false) (hst : s.pstate p = 4) :
    Completes (.trainStepDone p .lock) s fun t => t.pstate p = 5 ∧ t.on .PEN_STATUS_LOCK p = true := by
  have he : exec (.trainStepDone p .lock) s = fin ((s.set .PEN_STATUS_LOCK p 1).portStep p 5) := by
    rw [exec_trainStepDone, execTrainStepDone, if_neg (by simp [hlate])]
    exact if_neg (by simp [hst])
  refine completes_fin he ⟨(get_off (it_noteEvents _) (by decide)).trans (pstate_portStep _ 5 p.isLt (by decide)), on_eq_true_of_get ?_⟩
  rw [get_off (it_noteEvents _) (by decide), State.portStep, get_modPort, get_set_field (f := .PEN_STATUS_PSTATE) (g := .PEN_STATUS_LOCK) rfl (by decide) (by decide)]
  exact get_set_self (by decide) _ _ _ (penStatus_has p.isLt)

/-! ### A port runs frames -/

/-- The port runs frames; its other fields of PEN_STATUS stay. -/
theorem runFrames_shows (s : State) {p : Nat} (hp : p < 64) : (s.runFrames p).pstate p = (if s.get .PEN_STATUS_LMODE p % 4 = 0 then 6 else 7) ∧
    (s.runFrames p).on .PEN_STATUS_LOCK p = true := by
  have hget : ∀ f : Fld, f.reg = .PEN_STATUS → (s.runFrames p).get f p =
      ((s.set .PEN_STATUS_PSTATE p (if s.get .PEN_STATUS_LMODE p % 4 = 0 then 6 else 7)).set .PEN_STATUS_LOCK p 1).get f p := fun f hf =>
    get_off (l := foot_flushMgmt) (fun hq => it_forEach _ _ _ fun _ _ => it_flushMgmt _ _ _ hq) (hf ▸ by decide)
  refine ⟨?_, on_eq_true_of_get ?_⟩
  · rw [State.pstate, hget _ rfl, get_set_field (f := .PEN_STATUS_LOCK) (g := .PEN_STATUS_PSTATE) rfl (by decide) (by decide),
      get_set_self (by decide) _ _ _ (penStatus_has hp)]
    refine Nat.mod_eq_of_lt ?_
    split <;> decide
  · rw [hget _ rfl]
    exact get_set_self (by decide) _ _ _ (penStatus_has hp)

theorem wake_steps (hlate : s.stepLate p = false) (hst : s.pstate p = 9) :
    Completes (.trainStepDone p .wake) s fun t => t.pstate p = (if s.get .PEN_STATUS_LMODE p % 4 = 0 then 6 else 7) ∧ t.on .PEN_STATUS_LOCK p = true := by
  have he : exec (.trainStepDone p .wake) s = fin ((s.runFrames p).raise .PEN_EVENT_LP_EXIT p) := by
    rw [exec_trainStepDone, execTrainStepDone, if_neg (by simp [hlate])]
    exact if_neg (by simp [hst])
  obtain ⟨hstate, hlock⟩ := runFrames_shows s p.isLt
  refine completes_fin he ⟨?_, ?_⟩
  · exact (get_off (it_noteEvents _) (by decide)).trans ((get_off (it_raise _ _ _) (by decide)).trans hstate)
  · rw [on_off (it_noteEvents _) (by decide), on_off (it_raise _ _ _) (by decide), hlock]

/-! ### Identification -/

/-- The fan-out of the port as it is identified. -/
def fanoutSeen (s : State) (p : Nat) : Option (Nat × Nat) → State
  | none => (s.wr .PEN_FANOUT p 0 0).set .PEN_STATUS_FANOUT p 0
  | some f => ((((s.set .PEN_FANOUT_FW_VER p f.1).set .PEN_FANOUT_MAX_VER p f.2).set .PEN_FANOUT_PRESENT p 1).set .PEN_STATUS_FANOUT p 1).bfwReturn (4096 + p) f.1

/-- What identification writes before the fan-out's registers. -/
def loopSeen (s : State) (p : Nat) (pol : Fin 4) (swap : Bool) (ns : Nat) : State := ((s.set .PEN_LANE_DN_POL p pol).set .PEN_LANE_DN_SWAP p (b2n swap)).setLoop p ns

/-- The port runs frames after a training. -/
def trainedRuns (s : State) (p : Nat) : State := (((s.runFrames p).raise .PEN_EVENT_TRAINED p).bump .PEN_CNT_TRAIN_TRAINS p).set .PEN_STATUS_FAIL_CAUSE p 0

/-- The port once trained, before its drops are identified (R59, R60). -/
def portTrained (s : State) (p : Nat) (fan : Option (Nat × Nat)) (pol : Fin 4) (swap : Bool) (ns : Nat) : State :=
  trainedRuns (fanoutSeen (loopSeen s p pol swap ns) p fan) p

def foot_fanoutSeen : List Spot := foot_bfwReturn ++ [.r .PEN_FANOUT, .f .PEN_FANOUT_FW_VER, .f .PEN_FANOUT_MAX_VER, .f .PEN_FANOUT_PRESENT, .f .PEN_STATUS_FANOUT]
def foot_loopSeen : List Spot := foot_setLoop ++ [.f .PEN_LANE_DN_POL, .f .PEN_LANE_DN_SWAP]
def foot_trainedRuns : List Spot := foot_runFrames ++ [.f .PEN_EVENT_TRAINED, .f .PEN_CNT_TRAIN_TRAINS, .f .PEN_STATUS_FAIL_CAUSE]
def foot_portTrained : List Spot := foot_fanoutSeen ++ (foot_loopSeen ++ foot_trainedRuns)

theorem it_fanoutSeen {iq : Item} (s : State) (p : Nat) (fan : Option (Nat × Nat)) (hq : iq.off foot_fanoutSeen = true) : itm iq (fanoutSeen s p fan) = itm iq s := by
  simp only [foot_fanoutSeen, off_append, off_cons_cons, Bool.and_eq_true] at hq
  cases fan <;> simp [hq, fanoutSeen]

theorem it_loopSeen {iq : Item} (s : State) (p : Nat) (pol : Fin 4) (swap : Bool) (ns : Nat) (hq : iq.off foot_loopSeen = true) :
    itm iq (loopSeen s p pol swap ns) = itm iq s := by
  simp only [foot_loopSeen, off_append, off_cons_cons, Bool.and_eq_true] at hq
  simp [hq, loopSeen]

theorem it_trainedRuns {iq : Item} (s : State) (p : Nat) (hq : iq.off foot_trainedRuns = true) : itm iq (trainedRuns s p) = itm iq s := by
  simp only [foot_trainedRuns, off_append, off_cons_cons, Bool.and_eq_true] at hq
  simp [hq, trainedRuns]

theorem it_portTrained {iq : Item} (s : State) (p : Nat) (fan : Option (Nat × Nat)) (pol : Fin 4) (swap : Bool) (ns : Nat) (hq : iq.off foot_portTrained = true) :
    itm iq (portTrained s p fan pol swap ns) = itm iq s := by
  simp only [foot_portTrained, off_append, Bool.and_eq_true] at hq
  rw [portTrained, it_trainedRuns _ _ hq.2.2, it_fanoutSeen _ _ _ hq.1, it_loopSeen _ _ _ _ _ hq.2.1]

/-- LMODE and the state stay while a fan-out is identified. -/
theorem loopSeen_shows (s : State) {p : Nat} {ns : Nat} (hp : p < 64) (pol : Fin 4) (swap : Bool) (hns : ns ≤ 600) : (loopSeen s p pol swap ns).get .PEN_TIMING_LOOP_NS p = ns ∧
    (loopSeen s p pol swap ns).get .PEN_TIMING_ACT_OFS p = ((ns + 116) * 100 + 127) / 128 := by
  have hr : ∀ (u : State) (f : Fld), f.reg = .PEN_TIMING → (u.renewArrivals p).get f p = u.get f p := fun u f hf => get_off (it_renewArrivals _ _) (hf ▸ by decide)
  rw [loopSeen, State.setLoop, hr _ _ rfl, hr _ _ rfl]
  refine ⟨?_, ?_⟩
  · rw [get_set_field (f := .PEN_TIMING_ACT_OFS) (g := .PEN_TIMING_LOOP_NS) rfl (by decide) (by decide), get_set_self (by decide) _ _ _ (portReg_has rfl rfl hp)]
    exact Nat.mod_eq_of_lt (show ns < 2 ^ 16 by omega)
  · rw [get_set_self (by decide) _ _ _ (portReg_has rfl rfl hp)]
    exact Nat.mod_eq_of_lt (show ((ns + 116) * 100 + 127) / 128 < 2 ^ 12 by omega)

theorem fanoutSeen_lmode (s : State) (p : Nat) (fan : Option (Nat × Nat)) : (fanoutSeen s p fan).get .PEN_STATUS_LMODE p = s.get .PEN_STATUS_LMODE p := by
  have hset : ∀ u : State, ∀ v, (u.set .PEN_STATUS_FANOUT p v).get .PEN_STATUS_LMODE p = u.get .PEN_STATUS_LMODE p := fun u v =>
    get_set_field (f := .PEN_STATUS_FANOUT) (g := .PEN_STATUS_LMODE) rfl (by decide) (by decide) _ _ _ _
  cases fan with
  | none => rw [fanoutSeen, hset, get_off (it_wr _ _ _ _ _) (by decide)]
  | some f =>
    rw [fanoutSeen, get_off (it_bfwReturn _ _ _) (by decide), hset, get_set_disj (by decide), get_set_disj (by decide), get_set_disj (by decide)]

theorem trainedRuns_shows (s : State) {p : Nat} (hp : p < 64) : (trainedRuns s p).pstate p = (if s.get .PEN_STATUS_LMODE p % 4 = 0 then 6 else 7) ∧
    (trainedRuns s p).on .PEN_EVENT_TRAINED p = true := by
  refine ⟨?_, ?_⟩
  · rw [trainedRuns, State.pstate, get_set_field (f := .PEN_STATUS_FAIL_CAUSE) (g := .PEN_STATUS_PSTATE) rfl (by decide) (by decide), get_off (it_bump _ _ _) (by decide),
      get_off (it_raise _ _ _) (by decide)]
    exact (runFrames_shows s hp).1
  · rw [trainedRuns, on_off (it_set _ _ _ _) (by decide), on_off (it_bump _ _ _) (by decide)]
    exact on_eq_true_of_get (get_raise_self (by decide) _ _ (portReg_has rfl rfl hp) (by decide))

/-- What a training that succeeds leaves of its port (R59, R60, R62). -/
theorem portTrained_shows (s : State) {p : Nat} {ns : Nat} (hp : p < 64) (fan : Option (Nat × Nat)) (pol : Fin 4) (swap : Bool) (hns : ns ≤ 600) :
    let u := portTrained s p fan pol swap ns
    u.pstate p = (if s.get .PEN_STATUS_LMODE p % 4 = 0 then 6 else 7) ∧ u.on .PEN_EVENT_TRAINED p = true ∧ u.get .PEN_TIMING_LOOP_NS p = ns ∧
      u.get .PEN_TIMING_ACT_OFS p = ((ns + 116) * 100 + 127) / 128 := by
  obtain ⟨hstate, htrained⟩ := trainedRuns_shows (fanoutSeen (loopSeen s p pol swap ns) p fan) hp
  obtain ⟨hloop, hofs⟩ := loopSeen_shows s hp pol swap hns
  rw [fanoutSeen_lmode, get_off (it_loopSeen _ _ _ _ _) (by decide)] at hstate
  refine ⟨hstate, htrained, ?_, ?_⟩
  · rw [portTrained, get_off (it_trainedRuns _ _) (by decide), get_off (it_fanoutSeen _ _ _) (by decide), hloop]
  · rw [portTrained, get_off (it_trainedRuns _ _) (by decide), get_off (it_fanoutSeen _ _ _) (by decide), hofs]

/-- What may change where the mechanism of a drop seen was ABSENT. -/
def foot_seenAbsent : List Spot := foot_modMech ++ (foot_recordFault ++ (foot_recordIsolation ++ (foot_endMove ++ foot_attach)))

theorem it_seenAbsent {iq : Item} {s : State} {n : Nat} (i : DropIdent) (h : s.mst n = 0) (hq : iq.off foot_seenAbsent = true) :
    itm iq (seenState s n i) = itm iq s := by
  simp only [foot_seenAbsent, off_append, Bool.and_eq_true] at hq
  rw [seenState, if_neg fun hne => hne h]
  simp [hq]

/-- A drop identified where its mechanism was ABSENT (R37, R50). -/
theorem identify_rests {u : State} {i : DropIdent} (hd : i.drop < 64) (h : u.mst (p * 64 + i.drop) = 0) : (u.identify p i).on .PEN_DROP_PRESENT p i.drop = true ∧
    (i.selfTest = true → u.isolated i.sn = false → (u.identify p i).mst (p * 64 + i.drop) = (if i.clamped then 3 else 1)) ∧
    (i.selfTest = false ∨ u.isolated i.sn = true → (u.identify p i).mst (p * 64 + i.drop) = 9) := by
  have hn : p * 64 + i.drop % 64 = p * 64 + i.drop := by rw [Nat.mod_eq_of_lt hd]
  have hlt : p * 64 + i.drop < 4096 := by have := p.isLt; omega
  rw [← hn] at h hlt ⊢
  have hi : (dropSeen u p i).isolated i.sn = u.isolated i.sn := by rw [State.isolated, isol_dropSeen h]; rfl
  obtain ⟨hrest, hisol⟩ := seenState_rests (i := i) hlt (mst_dropSeen h)
  rw [identify_eq]
  rw [hi] at hrest hisol
  exact ⟨(on_off (it_seenAbsent i (mst_dropSeen h)) (by decide +kernel)).trans (dropSeen_present u p.isLt hd), hrest, hisol⟩

theorem ident_steps {fan : Option (Nat × Nat)} {pol : Fin 4} {swap : Bool} {ns : Nat} {drops : List DropIdent} (hq : LinkQuiet s p) (hlate : s.stepLate p = false)
    (hst : s.pstate p = 5) : Completes (.trainStepDone p (.ident fan pol swap ns drops)) s fun t =>
      (600 < ns → t.pstate p = 0xA ∧ t.get .PEN_STATUS_FAIL_CAUSE p = 3) ∧
      (ns ≤ 600 → t.pstate p = (if s.get .PEN_STATUS_LMODE p % 4 = 0 then 6 else 7) ∧ t.on .PEN_EVENT_TRAINED p = true ∧ t.get .PEN_TIMING_LOOP_NS p = ns ∧
        t.get .PEN_TIMING_ACT_OFS p = ((ns + 116) * 100 + 127) / 128 ∧ ∀ i, drops = [i] → i.drop < 64 → s.mst (p * 64 + i.drop) = 0 →
          t.on .PEN_DROP_PRESENT p i.drop = true ∧ (i.selfTest = true → s.isolated i.sn = false → t.mst (p * 64 + i.drop) = (if i.clamped then 3 else 1)) ∧
          (i.selfTest = false ∨ s.isolated i.sn = true → t.mst (p * 64 + i.drop) = 9)) := by
  have he : exec (.trainStepDone p (.ident fan pol swap ns drops)) s = if 600 < ns then fin ((s.set .PEN_TIMING_LOOP_NS p ns).failTraining p 3)
      else fin ((portTrained s p fan pol swap ns).forEach drops fun t i => t.identify p i) := by
    rw [exec_trainStepDone, execTrainStepDone, if_neg (by simp [hlate])]
    refine (if_neg (by simp [hst])).trans ?_
    cases fan <;> rfl
  by_cases hns : 600 < ns
  · rw [if_pos hns] at he
    obtain ⟨t, ht, hstate, hcause, -⟩ := completes_fails he p.isLt (by decide) (linkQuiet_off (it_set _ _ _ _) (by decide) hq)
    exact ⟨t, ht, fun _ => ⟨hstate, hcause⟩, fun hle => absurd hns (by omega)⟩
  · rw [if_neg hns] at he
    obtain ⟨hstate, htrained, hloop, hofs⟩ := portTrained_shows s p.isLt fan pol swap (Nat.le_of_not_lt hns)
    set u := portTrained s p fan pol swap ns with hu
    have hqu : LinkQuiet u p := linkQuiet_off (it_portTrained _ _ _ _ _ _) (by decide) hq
    have hall := forEach_keeps (fun t i => t.identify p i) drops u (fun i _ _ ht => LinkIdle.identify p i ht) (linkIdle_of_quiet hqu)
    have hevent : (u.forEach drops fun t i => t.identify p i).get .PEN_EVENT_TRAINED p = u.get .PEN_EVENT_TRAINED p :=
      forEach_keeps (P := fun t => t.get .PEN_EVENT_TRAINED p = u.get .PEN_EVENT_TRAINED p) _ _ _
        (fun i _ t ht => (event_identify rfl (by decide) t p p i).trans ht) rfl
    have htiming : ∀ f : Fld, f.reg = .PEN_TIMING → (u.forEach drops fun t i => t.identify p i).get f p = u.get f p := fun f hf =>
      get_off (l := foot_identify) (fun hq => it_forEach _ _ _ fun _ _ => it_identify _ _ _ hq) (hf ▸ by decide +kernel)
    refine completes_fin he ⟨fun h => absurd h hns, fun _ => ⟨?_, ?_, ?_, ?_, ?_⟩⟩
    · exact (get_off (it_noteEvents _) (by decide)).trans ((get_of_rd (f := .PEN_STATUS_PSTATE) hall.status).trans hstate)
    · exact (on_off (it_noteEvents _) (by decide)).trans ((on_of_get hevent).trans htrained)
    · rw [get_off (it_noteEvents _) (by decide), htiming _ rfl, hloop]
    · rw [get_off (it_noteEvents _) (by decide), htiming _ rfl, hofs]
    · rintro i rfl hd habsent
      have hu0 : u.mst (p * 64 + i.drop) = 0 := (mst_off (it_portTrained _ _ _ _ _ _) (by decide) _).trans habsent
      have hui : u.isolated i.sn = s.isolated i.sn := by rw [State.isolated, isol_off (it_portTrained _ _ _ _ _ _) (by decide)]; rfl
      obtain ⟨hpresent, hrest, hisol⟩ := identify_rests (p := p) hd hu0
      rw [hui] at hrest hisol
      rw [mst_off (it_noteEvents _) (by decide), on_off (it_noteEvents _) (by decide)]
      exact ⟨hpresent, hrest, hisol⟩

/-! ### A step at its limit -/

theorem trainStepTimeout_fails {partner : Bool} (hq : LinkQuiet s p) (hlate : s.stepLate p = true) (h1 : 1 ≤ s.pstate p) (h5 : s.pstate p ≤ 5) :
    Completes (.trainStepTimeout p partner) s fun t => t.pstate p = 0xA ∧ t.on .PEN_EVENT_TRAIN_FAIL p = true ∧
      t.get .PEN_STATUS_FAIL_CAUSE p = (match s.pstate p with | 1 => if partner then 2 else 1 | 2 => 2 | 3 => 5 | 4 => 6 | _ => 4) := by
  have hfails : ∀ cause, cause < 16 → exec (.trainStepTimeout p partner) s = fin (s.failTraining p cause) →
      Completes (.trainStepTimeout p partner) s fun t => t.pstate p = 0xA ∧ t.on .PEN_EVENT_TRAIN_FAIL p = true ∧ t.get .PEN_STATUS_FAIL_CAUSE p = cause := by
    intro cause hc he
    obtain ⟨t, ht, hstate, hcause, hevent⟩ := completes_fails he p.isLt hc hq
    exact ⟨t, ht, hstate, hevent, hcause⟩
  have he : ∀ k, s.pstate p = k → exec (.trainStepTimeout p partner) s =
      match k with
      | 1 => fin (s.failTraining p (if partner then 2 else 1))
      | 2 => fin (s.failTraining p 2)
      | 3 => fin (s.failTraining p 5)
      | 4 => fin (s.failTraining p 6)
      | 5 => fin (s.failTraining p 4)
      | _ => fin s := by
    rintro k rfl
    show execTrainStepTimeout p partner s = _
    exact if_neg (by simp [hlate])
  generalize hk : s.pstate p = k at h1 h5 ⊢
  have := he k hk
  interval_cases k
  · exact hfails _ (by cases partner <;> decide) this
  · exact hfails 2 (by decide) this
  · exact hfails 5 (by decide) this
  · exact hfails 6 (by decide) this
  · exact hfails 4 (by decide) this

end

/-- Settles O49: a training that asks goes on in DETECT with its LINK grant, each step leads to the next, identification attaches its drops, and a step that fails
leaves the port FAILED. -/
theorem portTraining : Obligations.PortTraining := by
  unfold Obligations.PortTraining
  refine ⟨fun p s hfree => ⟨fun hc hoff hw => portEnable_detects hc hoff hw hfree, fun hc hen => retrain_detects hc hen hfree,
      fun hst hen hact hdue => trainRetry_detects hst hen hact hdue hfree, fun t0 hup hlost hdue hboot => lockTimeout_detects hup hlost hdue hboot hfree,
      fun hst hlate => portWakeTimeout_detects hst hlate hfree⟩,
    fun p s hc => portDisable_off hc, fun p s hq hlate => ⟨?_, ?_, ?_, ?_, ?_, ?_⟩,
    fun p s hq hlate partner h1 h5 => trainStepTimeout_fails hq hlate h1 h5⟩
  · exact fun u0 u1 d0 d1 hst => detect_steps hq hlate hst
  · exact fun pol swap hst => align_steps hlate hst
  · exact fun hst => eq_steps hlate hst
  · exact fun hst => lock_steps hlate hst
  · exact fun fan pol swap ns drops hst => ident_steps hq hlate hst
  · exact fun hst => wake_steps hlate hst

end Sys2Proof.Proofs
end

section
/-! SUPPORT. What a held sample leaves of a drop's entry, and the messages of a management channel (R70, R75, R80). -/

namespace Sys2Proof.Proofs

open Sys2Proof.Machine Sys2Proof.Laws

/-! ### Fields of a drop that no burst writes -/

/-- Field g of PEN_DROP, which no burst writes, reads v at drop d of port p. -/
structure DropReads (g : Fld) (p d v : Nat) (t : State) : Prop where
  reg : g.reg = .PEN_DROP
  apart : beside .PEN_DROP_BURST g = true
  reads : t.get g p d = v

section
variable {g : Fld} {p d v : Nat} {s t : State}

theorem DropReads.off {l : List Spot} (it : ∀ {q : Item}, q.off l = true → itm q t = itm q s) (hl : (Item.reg .PEN_DROP 0 0).off l = true)
    (h : DropReads g p d v s) : DropReads g p d v t := ⟨h.reg, h.apart, (get_off it (h.reg ▸ hl)).trans h.reads⟩

theorem DropReads.burst (q e w : Nat) (h : DropReads g p d v s) : DropReads g p d v (s.set2 .PEN_DROP_BURST q e w) := by
  refine ⟨h.reg, h.apart, Eq.trans ?_ h.reads⟩
  by_cases hi : q = p ∧ e = d
  · obtain ⟨rfl, rfl⟩ := hi
    exact get_set2_beside h.reg h.apart _ _ _ _
  · have hrd : (s.set2 .PEN_DROP_BURST q e w).rd .PEN_DROP p d = s.rd .PEN_DROP p d := by
      refine rd_wr_addr s _ _ _ _ _ _ _ fun h1 h2 ha => hi ?_
      have hd : e < 64 := of_decide_eq_true (Bool.and_eq_true_iff.mp h1).2
      have hd' : d < 64 := of_decide_eq_true (Bool.and_eq_true_iff.mp h2).2
      have : 0x0040100 + q * 0x400 + e * 4 = 0x0040100 + p * 0x400 + d * 4 := ha
      omega
    exact get_of_rd (h.reg ▸ hrd)

theorem DropReads.grantBurst {q : Nat} {b : BurstWait} (h : DropReads g p d v s) (hg : s.grantBurst q b = some t) : DropReads g p d v t := by
  unfold State.grantBurst at hg
  extract_lets r at hg
  split at hg
  · exact nomatch hg
  · split at hg
    · obtain rfl := Option.some.inj hg
      exact .burst q _ _ (.off (it_modPort _ _ _) (by decide) (h.off (it_changeBmap _ _ _ _) (by decide)))
    · exact nomatch hg

theorem DropReads.serveWaits (q : Nat) (down : Bool) (k : Nat) (h : DropReads g p d v s) : DropReads g p d v (s.serveWaits q down k) := by
  induction k generalizing s with
  | zero => exact h
  | succ k ih =>
    unfold State.serveWaits
    split
    · exact h
    · split
      · exact h
      · next hg => exact ih ((h.grantBurst hg).off (it_modPort _ _ _) (by decide))

theorem DropReads.wantBurst (n : Nat) (down single : Bool) (h : DropReads g p d v s) : DropReads g p d v (s.wantBurst n down single) := by
  unfold State.wantBurst
  extract_lets b q
  split
  · exact h
  · exact .serveWaits q down 16 (h.off (it_modPort _ _ _) (by decide))

theorem DropReads.dropBursts (n : Nat) (h : DropReads g p d v s) : DropReads g p d v (s.dropBursts n) := by
  unfold State.dropBursts
  extract_lets q e mine s1 s2
  have h1 : DropReads g p d v s1 :=
    forEach_keeps _ _ _ (fun _ _ _ ht => .off (it_modPort _ _ _) (by decide) (ht.off (it_changeBmap _ _ _ _) (by decide))) h
  have h2 : DropReads g p d v s2 := .burst q e 0 (h1.off (it_modPort _ _ _) (by decide))
  split
  · exact h2
  · exact (h2.serveWaits q false 16).serveWaits q true 16

theorem DropReads.turnBurst (n : Nat) (down single : Bool) (h : DropReads g p d v s) : DropReads g p d v (s.turnBurst n down single) := by
  unfold State.turnBurst
  extract_lets has
  split
  · exact h
  · exact (h.dropBursts n).wantBurst n down single

theorem DropReads.endWrite (f : Nat) (h : DropReads g p d v s) : DropReads g p d v (s.endWrite f) := by
  unfold State.endWrite
  split
  · extract_lets n s0 s1 back cut
    have h0 : DropReads g p d v s0 := .off (it_modLane _ _ _) (by decide) (h.off (it_set _ _ _ _) (by decide))
    have h1 : DropReads g p d v s1 := .off (it_returnGrant _ _ _) (by decide) (.turnBurst n false _ (h0.off (it_searchAgain _ _) (by decide)))
    exact .off (it_modDisc _ _ _) (by decide) (h1.off (it_modHost _ _) (by decide))
  · exact h

theorem DropReads.endMeasure (n item : Nat) (h : DropReads g p d v s) : DropReads g p d v (s.endMeasure n item) := by
  unfold State.endMeasure
  split
  · exact h.off (it_modServo _ _ _) (by decide)
  · split
    · exact h
    · next r hrun =>
      split
      · exact h
      · extract_lets s1
        have h1 : DropReads g p d v s1 := h.off (it_modServo _ _ _) (by decide)
        split
        · exact h1
        · split
          · refine .off (it_modLane _ _ _) (by decide) ?_
            split
            · exact h1.endWrite _
            · exact h1
          · exact h1

theorem DropReads.abandonSome (n : Nat) (pick : CalRec → Nat → Bool) (h : DropReads g p d v s) : DropReads g p d v (s.abandonSome n pick) := by
  unfold State.abandonSome State.abandonIn
  extract_lets runs
  refine forEach_keeps _ _ _ (fun e _ t ht => ?_) h
  extract_lets gone t1
  refine forEach_keeps _ _ _ (fun i _ u hu => ?_) (ht.off (it_modCal _ _ _ _ _) (by decide))
  extract_lets u0 u1
  have h0 : DropReads g p d v u0 := hu.endMeasure n i
  refine .off (it_logEntry _ _) (by decide) ?_
  iterate 5 refine DropReads.off (it_set0 _ _ _) (by decide) ?_
  exact h0

theorem DropReads.writeInhibit (n : Nat) (h : DropReads g p d v s) : DropReads g p d v (s.writeInhibit n) := by
  unfold State.writeInhibit
  split
  · exact h
  · next f hf =>
    split
    · extract_lets s0
      have h0 : DropReads g p d v s0 := by
        simp only [s0]
        split
        · exact h.off (it_stopSled _ _ _) (by decide)
        · exact h
      exact .off (it_bump _ _ _) (by decide) (.off (it_raise _ _ _) (by decide) ((h0.abandonSome n _).endWrite f))
    · exact h

/-- A held sample leaves a drop's entry as it is, but for the burst of a write that ends. -/
theorem DropReads.heldSample (n : Nat) (x : UpSlot) (h : DropReads g p d v s) : DropReads g p d v (s.heldSample n x) := by
  unfold State.heldSample
  split
  · exact h
  · extract_lets i s1 s2
    have hi : DropReads g p d v i.1 := h.off (it_instant _ _) (by decide)
    have h1 : DropReads g p d v s1 := .off (it_modServo _ _ _) (by decide) (hi.off (it_sledMove _ _ _ _ _) (by decide))
    have h2 : DropReads g p d v s2 := h1.off (it_learnSample _ _ _ _ _) (by decide)
    exact .writeInhibit n (.off (it_calHeld _ _) (by decide) (h2.off (it_capSample _ _ _ _ _ _) (by decide)))

end

/-! ### Messages -/

theorem emitMgmt_out_mono (s : State) (p a q : Nat) (l : List MgmtMsg) {o : Output} (h : o ∈ s.out) : o ∈ (s.emitMgmt p a q l).out := by
  induction l generalizing s q with
  | nil => exact h
  | cons m l ih => exact ih _ _ (List.mem_cons_of_mem _ h)

/-- Every message of a list that goes out. -/
theorem emitMgmt_out (s : State) (p a q : Nat) {l : List MgmtMsg} {m : MgmtMsg} (h : m ∈ l) :
    ∃ r, .mgmt p a m.cls (some r) m.payload ∈ (s.emitMgmt p a q l).out := by
  induction l generalizing s q with
  | nil => exact nomatch h
  | cons k l ih =>
    obtain rfl | hl := List.mem_cons.mp h
    · exact ⟨_, emitMgmt_out_mono (s.emit _) p a _ l List.mem_cons_self⟩
    · exact ih _ _ hl

theorem emitMgmt_drop (s : State) (p a q : Nat) (l : List MgmtMsg) : (s.emitMgmt p a q l).drop = s.drop := by
  induction l generalizing s q with
  | nil => rfl
  | cons m l ih => exact ih _ _

theorem dx_emitMgmt (s : State) (p a q : Nat) (l : List MgmtMsg) (k : Nat) : (s.emitMgmt p a q l).dx k = s.dx k := by
  rw [State.dx, emitMgmt_drop]
  rfl

@[simp] theorem dx_modDrop_same (s : State) (n : Nat) (f : DropX → DropX) : (s.modDrop n f).dx n = f (s.dx n) := tabGet_tabMod_same _ _ _ _

/-- Messages that go out leave the rest of their channel's record. -/
theorem dx_flushMgmt (s : State) (p a : Nat) : ∃ u q m, (s.flushMgmt p a).dx (chanKey p a) = { s.dx (chanKey p a) with unacked := u, queued := q, mseqTx := m } ∧
    u ++ q = (s.dx (chanKey p a)).unacked ++ (s.dx (chanKey p a)).queued := by
  unfold State.flushMgmt
  extract_lets k x l
  split
  · exact ⟨_, _, _, rfl, rfl⟩
  · refine ⟨x.unacked ++ l, x.queued.drop l.length, _, (dx_emitMgmt _ _ _ _ _ _).trans (dx_modDrop_same s k _), ?_⟩
    rw [List.append_assoc, ← List.prefix_append_drop (List.take_prefix _ _)]

/-- A message sent waits in its channel, or is on its way. -/
theorem sendMgmt_mem (s : State) (p a cls : Nat) (payload : List Nat) (hst : s.pstate p ≠ 8) :
    { cls := cls, payload := payload } ∈ ((s.sendMgmt p a cls payload).dx (chanKey p a)).unacked ++ ((s.sendMgmt p a cls payload).dx (chanKey p a)).queued := by
  unfold State.sendMgmt
  set s1 := s.modDrop (chanKey p a) fun d => { d with queued := d.queued ++ [{ cls := cls, payload := payload }] } with hs1
  have hwake : (s1.flushMgmt p a).wakePort p = s1.flushMgmt p a := by
    rw [State.wakePort, if_neg]
    exact fun h => hst ((get_off (f := .PEN_STATUS_PSTATE) (it_flushMgmt s1 p a) (by decide)).symm.trans h)
  obtain ⟨u, q, m, hdx, hall⟩ := dx_flushMgmt s1 p a
  rw [hwake, hdx]
  show _ ∈ u ++ q
  rw [hall, hs1, dx_modDrop_same, ← List.append_assoc]
  exact List.mem_append_right _ List.mem_cons_self

/-- The channel at MSEQ 0, before what was not acknowledged goes out again. -/
def channelReset (s : State) (p a cause : Nat) : State :=
  let s1 := s.modDrop (chanKey p a) fun d => { d with mseqTx := (s.dx (chanKey p a)).unacked.length, mseqRx := 0, protoErrs := 0, rounds := 0 }
  if cause = 0 then s1
  else ((s1.emit (.mgmt p a 9 (some (0, 0)) [])).raise .PEN_EVENT_MGMT_ERR p).logEntry { cls := 4, code := 4, sev := 1, unit := p, detail0 := a, detail1 := cause }

theorem restartChannel_eq (s : State) (p a cause : Nat) :
    s.restartChannel p a cause = (channelReset s p a cause).emitMgmt p a 0 (s.dx (chanKey p a)).unacked := rfl

theorem dx_restartChannel (s : State) (p a cause : Nat) : (s.restartChannel p a cause).dx (chanKey p a) =
    { s.dx (chanKey p a) with mseqTx := (s.dx (chanKey p a)).unacked.length, mseqRx := 0, protoErrs := 0, rounds := 0 } := by
  rw [restartChannel_eq, dx_emitMgmt, channelReset]
  split
  · exact dx_modDrop_same _ _ _
  · rw [dx_off (it_logEntry _ _) (by decide), dx_off (it_raise _ _ _) (by decide), dx_off (it_emit _ _) (by decide), dx_modDrop_same]

/-- A channel that restarts for a cause says so. -/
theorem restartChannel_err (s : State) {p : Nat} (a : Nat) {cause : Nat} (hp : p < 64) (hc : cause ≠ 0) : (s.restartChannel p a cause).on .PEN_EVENT_MGMT_ERR p = true := by
  rw [restartChannel_eq, on_off (it_emitMgmt _ _ _ _ _) (by decide), channelReset]
  rw [if_neg hc, on_off (it_logEntry _ _) (by decide)]
  exact on_eq_true_of_get (get_raise_self (by decide) _ _ (portReg_has rfl rfl hp) (by decide))

end Sys2Proof.Proofs
end

section
/-! OBLIGATION O51. -/

namespace Sys2Proof.Proofs

open Sys2Proof.Machine Sys2Proof.Laws

/-! ### A servo slot received -/

theorem slotHolder_spec {s : State} {p : PortIx} {k : Nat} {n : Nat} (h : s.slotHolder p k = some n) : n < 4096 ∧ portOf n = p.val := by
  unfold State.slotHolder at h
  extract_lets w at h
  split at h
  · obtain rfl := Option.some.inj h
    have hw : bitsOf w 0 6 < 64 := Nat.mod_lt _ (by decide)
    have hp := p.isLt
    rw [portOf]
    omega
  · exact nomatch h

/-- What a bridge reports of its switches, its clamp and its disc is what the mechanism shows (R185). -/
structure Shows (m : MechX) (trayIn trayOut disc : Bool) : Prop where
  trayIn : m.trayIn = trayIn
  trayOut : m.trayOut = trayOut
  disc : m.disc = disc

theorem bridgeStatus_shows (s : State) (n : Nat) (ti tz cl di ls sf : Bool) : Shows ((s.bridgeStatus n ti tz cl di ls sf).mx n) ti tz di ∧
    ((s.bridgeStatus n ti tz cl di ls sf).mx n).lsup = ls ∧ ((s.mx n).tray = none → ((s.bridgeStatus n ti tz cl di ls sf).mx n).clamped = cl) := by
  unfold State.bridgeStatus
  extract_lets m moving s1 s2
  rw [mx_off (it_modDrop _ _ _) (by decide), State.trayReads, mx_modMech_same, mx_modMech_same]
  refine ⟨⟨rfl, rfl, rfl⟩, rfl, fun htray => ?_⟩
  have hmoving : moving = false := by
    simp only [moving, m, htray]
  show (if moving then _ else cl) = cl
  rw [hmoving]
  rfl

theorem telemetry_drop (s : State) (n idx v k : Nat) : (s.telemetry n idx v).dx k = (s.modDrop n fun d => { d with tlm := tabPut d.tlm idx v 0 }).dx k := by
  unfold State.telemetry
  extract_lets old s1
  split
  · exact dx_off (it_set _ _ _ _) (by decide) k
  · split
    · exact dx_off (it_reportPower _ _ _ _) (by decide) k
    · split
      · exact dx_off (it_logEntry _ _) (by decide) k
      · rfl

theorem telemetry_tlm (s : State) (n idx v : Nat) : tabGet ((s.telemetry n idx v).dx n).tlm idx 0 = v := by
  rw [telemetry_drop, dx_modDrop_same]
  exact tabGet_tabPut_same _ _ _ _

/-- LSUP holds the lasers and is reported; what else the mechanism shows stays (R506). -/
theorem lsupCheck_mx (s : State) (n : Nat) (lsup : Bool) : ∃ r h, (s.lsupCheck n lsup).mx n = { s.mx n with lsupReported := r, lsupHeld := h } := by
  unfold State.lsupCheck
  split
  · split
    · exact ⟨_, _, mx_modMech_same _ _ _⟩
    · exact ⟨_, _, rfl⟩
  · split
    · rw [mx_off (it_raise _ _ _) (by decide), mx_off (it_set0 _ _ _) (by decide), mx_off (it_set0 _ _ _) (by decide), mx_off (it_logEntry _ _) (by decide)]
      exact ⟨_, _, mx_modMech_same _ _ _⟩
    · exact ⟨_, _, rfl⟩

/-- A slot that has passed its checks, before its sample's first instant is noted. -/
def slotHeard (s : State) (p n : Nat) : State :=
  let s0 := s.modDrop n fun d => { d with dueAt := some s.now }
  (if s0.leftOut n then s0 else s0.set2 .PEN_DROP_MISS_RUN p (dropOf n) 0).modDrop n fun d => { d with heardAt := s.now }

/-- The status that a slot carries is shown. -/
def slotStatus (s : State) (p : Nat) (x : UpSlot) (n : Nat) : State := (slotHeard s p n).bridgeStatus n x.trayIn x.trayOut x.clamped x.disc x.lsup x.safe

/-- The first sample of a slot is dated. -/
def slotDated (s : State) (n now : Nat) : State := if s.holdsSlot n then s.modServo n fun v => { v with firstAt := some (v.firstAt.getD now) } else s

/-- What a slot shows before the fault code in it is taken. -/
def slotShown (s : State) (p : Nat) (x : UpSlot) (n : Nat) : State :=
  ((slotDated (slotStatus s p x n) n s.now).telemetry n x.tlmIdx x.tlmVal).lsupCheck n x.lsup

theorem exec_slotReceived {p : PortIx} {k : Fin 16} {x : UpSlot} {s : State} {n : Nat} (hn : s.slotHolder p k = some n) (hcrc : slotCrcOk x = true)
    (hseq : ((s.px p).upSeq + 4096 - x.seq) % 4096 = 0) (hdrop : x.drop = dropOf n) (hepoch : x.epoch = (s.px p).epoch) :
    exec (.servoSlotReceived p k x true) s = fin (((slotShown s p x n).bridgeReport n x.fcode x.fdetail).restActuator n) := by
  show execServoSlotReceived p k x true s = _
  unfold execServoSlotReceived
  rw [hn]
  dsimp only
  rw [if_neg (by simp [hcrc]), if_neg (by simp [hseq]), if_neg]
  · rfl
  · rintro (h | h | h)
    · exact h hdrop
    · exact h hepoch
    · exact nomatch h

def foot_slotHeard : List Spot := foot_modDrop ++ [.f .PEN_DROP_MISS_RUN]
def foot_slotShown : List Spot := foot_slotHeard ++ (foot_bridgeStatus ++ (foot_modServo ++ (foot_telemetry ++ foot_lsupCheck)))

theorem it_slotHeard {iq : Item} (s : State) (p n : Nat) (hq : iq.off foot_slotHeard = true) : itm iq (slotHeard s p n) = itm iq s := by
  simp only [foot_slotHeard, off_append, Bool.and_eq_true] at hq
  unfold slotHeard
  extract_lets s0
  have h0 : itm iq s0 = itm iq s := it_modDrop _ _ _ hq.1
  rw [it_modDrop _ _ _ hq.1]
  split
  · exact h0
  · rw [it_set2 _ _ _ _ _ hq.2, h0]

theorem it_slotDated {iq : Item} (s : State) (n now : Nat) (hq : iq.off foot_modServo = true) : itm iq (slotDated s n now) = itm iq s := by
  unfold slotDated
  split
  · exact it_modServo _ _ _ hq
  · rfl

theorem it_slotShown {iq : Item} (s : State) (p : Nat) (x : UpSlot) (n : Nat) (hq : iq.off foot_slotShown = true) : itm iq (slotShown s p x n) = itm iq s := by
  simp only [foot_slotShown, off_append, Bool.and_eq_true] at hq
  obtain ⟨hheard, hstatus, hdated, htlm, hlsup⟩ := hq
  rw [slotShown, it_lsupCheck _ _ _ hlsup, it_telemetry _ _ _ _ htlm, it_slotDated _ _ _ hdated, slotStatus, it_bridgeStatus _ _ _ _ _ _ _ _ hstatus,
    it_slotHeard _ _ _ hheard]

theorem slotHeard_missRun {s : State} {p : PortIx} {n : Nat} (h : s.leftOut n = false) : (slotHeard s p n).get .PEN_DROP_MISS_RUN p (dropOf n) = 0 := by
  unfold slotHeard
  extract_lets s0
  have h0 : s0.leftOut n = false := h
  rw [get_off (it_modDrop _ _ _) (by decide), if_neg (by rw [h0]; decide)]
  exact get_set_same _ .PEN_DROP_MISS_RUN _ _ 0 (penDrop_has p.isLt (dropOf_lt n)) (by decide)

theorem slotShown_missRun {s : State} {p : PortIx} {x : UpSlot} {n : Nat} (h : s.leftOut n = false) : (slotShown s p x n).get .PEN_DROP_MISS_RUN p (dropOf n) = 0 := by
  rw [slotShown, get_off (it_lsupCheck _ _ _) (by decide), get_off (it_telemetry _ _ _ _) (by decide), get_off (it_slotDated _ _ _) (by decide), slotStatus,
    get_off (it_bridgeStatus _ _ _ _ _ _ _ _) (by decide), slotHeard_missRun h]

theorem slotShown_mx (s : State) (p : Nat) (x : UpSlot) (n : Nat) : Shows ((slotShown s p x n).mx n) x.trayIn x.trayOut x.disc ∧
    ((slotShown s p x n).mx n).lsup = x.lsup ∧ ((s.mx n).tray = none → ((slotShown s p x n).mx n).clamped = x.clamped) := by
  obtain ⟨⟨hin, hout, hdisc⟩, hlsup, hclamp⟩ := bridgeStatus_shows (slotHeard s p n) n x.trayIn x.trayOut x.clamped x.disc x.lsup x.safe
  obtain ⟨r, h, hmx⟩ := lsupCheck_mx ((slotDated (slotStatus s p x n) n s.now).telemetry n x.tlmIdx x.tlmVal) n x.lsup
  rw [mx_off (it_telemetry _ _ _ _) (by decide), mx_off (it_slotDated _ _ _) (by decide)] at hmx
  rw [slotShown, hmx]
  exact ⟨⟨hin, hout, hdisc⟩, hlsup, fun htray => hclamp (by rw [mx_off (it_slotHeard _ _ _) (by decide), htray])⟩

theorem slotShown_tlm (s : State) (p : Nat) (x : UpSlot) (n : Nat) : tabGet ((slotShown s p x n).dx n).tlm x.tlmIdx 0 = x.tlmVal := by
  rw [slotShown, dx_off (it_lsupCheck _ _ _) (by decide), telemetry_tlm]

theorem bridgeStatus_dx (s : State) (n : Nat) (ti tz cl di ls sf : Bool) : (s.bridgeStatus n ti tz cl di ls sf).dx n = { s.dx n with safe := sf } := by
  unfold State.bridgeStatus
  extract_lets m moving s1 s2
  have h2 : s2.dx n = s.dx n := by
    rw [dx_off (it_modMech _ _ _) (by decide)]
    simp only [s1]
    split
    · exact dx_off (it_bumpWrap _ _ _) (by decide) n
    · rfl
  rw [dx_modDrop_same, dx_off (it_trayReads _ _ _ _ _) (by decide), h2]

theorem slotHeard_faultSeen (s : State) (p n : Nat) : ((slotHeard s p n).dx n).faultSeen = (s.dx n).faultSeen := by
  unfold slotHeard
  extract_lets s0
  have h0 : s0.dx n = { s.dx n with dueAt := some s.now } := dx_modDrop_same _ _ _
  rw [dx_modDrop_same]
  split
  · rw [h0]
  · rw [dx_off (it_set2 _ _ _ _ _) (by decide), h0]

theorem slotShown_faultSeen (s : State) (p : Nat) (x : UpSlot) (n : Nat) : ((slotShown s p x n).dx n).faultSeen = (s.dx n).faultSeen := by
  rw [slotShown, dx_off (it_lsupCheck _ _ _) (by decide), telemetry_drop, dx_modDrop_same, dx_off (it_slotDated _ _ _) (by decide), slotStatus, bridgeStatus_dx]
  exact slotHeard_faultSeen s p n

theorem restActuator_dx (s : State) (n : Nat) : ((s.restActuator n).dx n).tlm = (s.dx n).tlm ∧ ((s.dx n).fack = none → ((s.restActuator n).dx n).fack = none) := by
  unfold State.restActuator
  split
  · exact ⟨rfl, id⟩
  · rw [State.sendAct, dx_off (it_emit _ _) (by decide), dx_modDrop_same]
    exact ⟨rfl, fun _ => rfl⟩

theorem bridgeCode_lt {c : Nat} (h : bridgeCode c = true) : c < 256 := by
  have hm : c ∈ [0x10, 0x11, 0x12, 0x13, 0x20, 0x24, 0x28, 0x2C, 0x30, 0x38, 0x3A, 0x40, 0x41, 0x42, 0x43, 0x44, 0x50, 0x51, 0x80] := List.contains_iff_mem.mp h
  have hall : ∀ b ∈ [0x10, 0x11, 0x12, 0x13, 0x20, 0x24, 0x28, 0x2C, 0x30, 0x38, 0x3A, 0x40, 0x41, 0x42, 0x43, 0x44, 0x50, 0x51, 0x80], b < 256 := by decide
  exact hall c hm

/-- A new fault code of a bridge is recorded and taken (R46, R76). -/
theorem bridgeReport_faults {s : State} {n code : Nat} (detail : Nat) (hn : n < 4096) (h0 : code ≠ 0) (hnew : (s.dx n).faultSeen ≠ code) (hst : s.mst n ∉ [0, 8, 9]) :
    FaultTaken n (if bridgeCode code then code else 0x80) (s.bridgeReport n code detail) := by
  rw [State.bridgeReport, if_neg h0, if_neg hnew, State.bridgeFault]
  refine faultTaken_fault detail hn ?_ ?_ hst
  · split
    · exact h0
    · decide
  · split
    · next hc => exact bridgeCode_lt hc
    · decide

theorem faultTaken_off {n code : Nat} {s t : State} {l : List Spot} (it : ∀ {q : Item}, q.off l = true → itm q t = itm q s)
    (hl : ([Reg.MECH_FAULT, .MECH_STATE, .MECH_SERVO].all fun r => (Item.reg r 0 0).off l) = true) (h : FaultTaken n code s) : FaultTaken n code t := by
  simp only [List.all_cons, List.all_nil, Bool.and_true, Bool.and_eq_true] at hl
  obtain ⟨hf, hs, hh⟩ := hl
  unfold FaultTaken State.mst
  rw [get_off it hf, on_off it hf, get_off it hs, holdsSlot_off it hh]
  exact h

section
variable {p : PortIx} {k : Fin 16} {x : UpSlot} {s : State} {n : Nat}

theorem servoSlotReceived_takes (hn : s.slotHolder p k = some n) (hcrc : slotCrcOk x = true) (hseq : ((s.px p).upSeq + 4096 - x.seq) % 4096 = 0)
    (hdrop : x.drop = dropOf n) (hepoch : x.epoch = (s.px p).epoch) : Completes (.servoSlotReceived p k x true) s fun t =>
      (x.fcode = 0 → (s.leftOut n = false → t.get .PEN_DROP_MISS_RUN p (dropOf n) = 0) ∧ (t.mx n).trayIn = x.trayIn ∧ (t.mx n).trayOut = x.trayOut ∧ (t.mx n).disc = x.disc ∧
        (t.mx n).lsup = x.lsup ∧ ((s.mx n).tray = none → (t.mx n).clamped = x.clamped) ∧ tabGet (t.dx n).tlm x.tlmIdx 0 = x.tlmVal ∧ (t.dx n).fack = none) ∧
      (x.fcode ≠ 0 → (s.dx n).faultSeen ≠ x.fcode → s.mst n ∉ [0, 8, 9] → FaultTaken n (if bridgeCode x.fcode then x.fcode else 0x80) t) := by
  obtain ⟨hlt, -⟩ := slotHolder_spec hn
  refine completes_fin (exec_slotReceived hn hcrc hseq hdrop hepoch) ⟨fun hcode => ?_, fun hcode hnew hst => ?_⟩
  · have hreport : (slotShown s p x n).bridgeReport n x.fcode x.fdetail = (slotShown s p x n).modDrop n fun d => { d with faultSeen := 0, fack := none } := by
      rw [State.bridgeReport, if_pos hcode]
    rw [hreport]
    set u := (slotShown s p x n).modDrop n fun d => { d with faultSeen := 0, fack := none } with hu
    obtain ⟨htlm, hfack⟩ := restActuator_dx u n
    obtain ⟨⟨hin, hout, hdisc⟩, hlsup, hclamp⟩ := slotShown_mx s p x n
    have hmx : ((u.restActuator n).noteEvents).mx n = (slotShown s p x n).mx n := by
      rw [mx_off (it_noteEvents _) (by decide), mx_off (it_restActuator _ _) (by decide), hu, mx_off (it_modDrop _ _ _) (by decide)]
    have hdx : u.dx n = { (slotShown s p x n).dx n with faultSeen := 0, fack := none } := dx_modDrop_same _ _ _
    rw [hmx, dx_off (it_noteEvents _) (by decide), htlm, hdx]
    refine ⟨fun hleft => ?_, hin, hout, hdisc, hlsup, hclamp, slotShown_tlm s p x n, hfack (by rw [hdx])⟩
    rw [get_off (it_noteEvents _) (by decide), get_off (it_restActuator _ _) (by decide), hu, get_off (it_modDrop _ _ _) (by decide), slotShown_missRun hleft]
  · refine faultTaken_noteEvents (faultTaken_off (it_restActuator _ _) (by decide) (bridgeReport_faults x.fdetail hlt hcode ?_ ?_))
    · rw [slotShown_faultSeen]
      exact hnew
    · rw [mst_off (it_slotShown _ _ _ _) (by decide)]
      exact hst

/-! ### A servo slot missing -/

/-- A servo slot that never came. -/
def slotGone (s : State) (n : Nat) : State × List Int := (List.range 16).foldl State.freeField (s.modDrop n fun d => { d with dueAt := some s.now }, [])

def foot_slotGone : List Spot := foot_freeField ++ foot_modDrop

theorem it_slotGone {iq : Item} (s : State) (n : Nat) (hq : iq.off foot_slotGone = true) : itm iq (slotGone s n).1 = itm iq s := by
  simp only [foot_slotGone, off_append, Bool.and_eq_true] at hq
  rw [slotGone, it_freeFields _ _ hq.1, it_modDrop _ _ _ hq.2]

/-- A missing slot counts up to MISS_LIMIT, where it is fault 0x70 (R80). -/
theorem missSlot_counts {u : State} (x : UpSlot) (hp : portOf n = p.val) (hn : n < 4096) :
    let m := u.get .PEN_DROP_MISS_RUN p (dropOf n) + 1
    let t := u.missSlot n x
    (m < u.get .PEN_GCFG_MISS_LIMIT → t.get .PEN_DROP_MISS_RUN p (dropOf n) = min m 15) ∧
    (u.get .PEN_GCFG_MISS_LIMIT ≤ m → u.holdsSlot n = true → u.mst n ∉ [0, 8, 9] → FaultTaken n 0x70 t ∧ t.on .PEN_EVENT_MISS p = true) := by
  intro m t
  simp only [t]
  unfold State.missSlot
  extract_lets q d k s1
  have hk : k = m := by simp only [k, m, q, hp]; rfl
  have h1 : s1.get .PEN_DROP_MISS_RUN p d = min k 15 := by
    simp only [s1, q, hp]
    refine (get_set_same _ .PEN_DROP_MISS_RUN _ _ _ (penDrop_has p.isLt (dropOf_lt n)) (by decide)).trans (Nat.mod_eq_of_lt ?_)
    show min k 15 < 16
    omega
  refine ⟨fun hlt => ?_, fun hge hslot hst => ?_⟩
  · rw [if_pos (by rw [hk]; exact hlt)]
    have := DropReads.heldSample (g := .PEN_DROP_MISS_RUN) n x ⟨rfl, by decide, h1⟩
    rw [← hk]
    exact this.reads
  · rw [if_neg (by rw [hk]; omega), if_pos hslot]
    have hmst : (s1.raise .PEN_EVENT_MISS q).mst n = u.mst n := by
      rw [mst_off (it_raise _ _ _) (by decide), mst_off (it_set2 _ _ _ _ _) (by decide), mst_off (it_bump _ _ _) (by decide)]
    refine ⟨faultTaken_fault 0 hn (by decide) (by decide) (by rw [hmst]; exact hst), ?_⟩
    have hq : q = p.val := hp
    rw [on_off (it_fault _ _ _ _) (by decide +kernel), hq]
    exact on_eq_true_of_get (get_raise_self (by decide) _ _ (portReg_has rfl rfl p.isLt) (by decide))

theorem servoSlotMissing_counts (hn : s.slotHolder p k = some n) : Completes (.servoSlotMissing p k) s fun t =>
    let m := s.get .PEN_DROP_MISS_RUN p (dropOf n) + 1
    (m < s.get .PEN_GCFG_MISS_LIMIT → t.get .PEN_DROP_MISS_RUN p (dropOf n) = min m 15) ∧
    (s.get .PEN_GCFG_MISS_LIMIT ≤ m → s.holdsSlot n = true → s.mst n ∉ [0, 8, 9] → FaultTaken n 0x70 t ∧ t.on .PEN_EVENT_MISS p = true) := by
  obtain ⟨hlt, hp⟩ := slotHolder_spec hn
  have he : ∃ x, exec (.servoSlotMissing p k) s = fin ((slotGone s n).1.missSlot n x) := by
    show ∃ x, execServoSlotMissing p k s = _
    unfold execServoSlotMissing
    rw [hn]
    exact ⟨_, rfl⟩
  obtain ⟨x, he⟩ := he
  have hcounts := missSlot_counts (p := p) (u := (slotGone s n).1) x hp hlt
  rw [get_off (it_slotGone _ _) (by decide), get_off (it_slotGone _ _) (by decide), holdsSlot_off (it_slotGone _ _) (by decide), mst_off (it_slotGone _ _) (by decide)] at hcounts
  obtain ⟨hfew, hmany⟩ := hcounts
  refine completes_fin he ⟨fun h => (get_off (it_noteEvents _) (by decide)).trans (hfew h), fun h hslot hst => ?_⟩
  obtain ⟨hfault, hmiss⟩ := hmany h hslot hst
  exact ⟨faultTaken_noteEvents hfault, (on_off (it_noteEvents _) (by decide)).trans hmiss⟩

end

/-! ### A repeated actuator slot -/

section
variable {mn : Mn} {s : State}

theorem actuatorRepeat_sends (hlive : (s.livePosition (portOf mn) (dropOf mn)).isSome = true) (hdue : s.repeatDue mn = true) : Completes (.actuatorRepeat mn) s fun t =>
    let u := s.bump .PEN_CNT_REPEAT_COUNT (portOf mn)
    .actuator mn (u.actDwords mn false true (setAt (s.dx mn).drive 0 (if s.laserEn mn = 0 then 0 else (s.dx mn).drive.getD 0 0))) ∈ t.out := by
  have he : exec (.actuatorRepeat mn) s = fin ((s.bump .PEN_CNT_REPEAT_COUNT (portOf mn)).sendAct mn false true
      (setAt (s.dx mn).drive 0 (if s.laserEn mn = 0 then 0 else (s.dx mn).drive.getD 0 0))) := by
    show execActuatorRepeat mn s = _
    refine if_neg ?_
    rw [Option.isNone_eq_false_iff.mpr hlive, hdue]
    decide
  refine completes_fin he ?_
  rw [noteEvents_out]
  exact List.mem_cons_self

/-! ### Drops that are lost -/

theorem dropUnseen_dstate (s : State) {p d : Nat} (hp : p < 64) (hd : d < 64) : (dropUnseen s p d).get .PEN_DROP_DSTATE p d = 1 := by
  rw [dropUnseen, get_set2_beside (f := .PEN_DROP_MGMT_OK) (g := .PEN_DROP_DSTATE) rfl (by decide)]
  exact get_set_same _ .PEN_DROP_DSTATE p d 1 (penDrop_has hp hd) (by decide)

theorem dropUnseen_otherDstate (s : State) (p : Nat) {d k : Nat} (h : d ≠ k) : (dropUnseen s p d).get .PEN_DROP_DSTATE p k = s.get .PEN_DROP_DSTATE p k := by
  rw [dropUnseen, get_set2_otherSecond (f := .PEN_DROP_MGMT_OK) (g := .PEN_DROP_DSTATE) rfl (by decide) _ _ _ h,
    get_set2_otherSecond (f := .PEN_DROP_DSTATE) (g := .PEN_DROP_DSTATE) rfl (by decide) _ _ _ h,
    get_set2_otherSecond (f := .PEN_DROP_PRESENT) (g := .PEN_DROP_DSTATE) rfl (by decide) _ _ _ h]

/-- A drop that was present has to be identified again. -/
theorem dropsUnseen_dstate {p d : Nat} (hp : p < 64) (hd : d < 64) (h : s.on .PEN_DROP_PRESENT p d = true) : (dropsUnseen s p).get .PEN_DROP_DSTATE p d = 1 := by
  have hor : (dropsUnseen s p).on .PEN_DROP_PRESENT p d = true ∨ (dropsUnseen s p).get .PEN_DROP_DSTATE p d = 1 := by
    refine forEach_keeps (P := fun t => t.on .PEN_DROP_PRESENT p d = true ∨ t.get .PEN_DROP_DSTATE p d = 1) _ _ _ (fun k hk t ht => ?_) (Or.inl h)
    split
    · by_cases hkd : k = d
      · subst hkd
        exact Or.inr (dropUnseen_dstate t hp hd)
      · rw [dropUnseen_other t p hkd, dropUnseen_otherDstate t p hkd]
        exact ht
    · exact ht
  refine hor.resolve_left ?_
  rw [dropsUnseen_present s hp hd]
  exact Bool.false_ne_true

theorem trainingAsked_dstate {p d : Nat} (hp : p < 64) (hd : d < 64) (h : s.on .PEN_DROP_PRESENT p d = true) : (trainingAsked s p).get .PEN_DROP_DSTATE p d = 1 := by
  rw [trainingAsked, get_modPort, seekAt_get, get_off (it_portStep _ _ _) (by decide), get_set_disj (by decide), dropsUnseen_dstate hp hd h]

/-- A fan-out's drop that is silent is asked for again. -/
def dropAsked (s : State) (mn : Nat) : State :=
  (dropUnseen (s.modDrop mn fun x => { x with seekAt := some s.now }) (portOf mn) (dropOf mn)).raise .PEN_EVENT_DROP_CHG (portOf mn)

theorem portOf_lt (mn : Mn) : portOf mn < 64 := by
  have := mn.isLt
  rw [portOf]
  omega

theorem dropTimeout_retrains (hup : s.portUp (portOf mn) = true) (hpresent : s.on .PEN_DROP_PRESENT (portOf mn) (dropOf mn) = true) (hboot : s.rebooting mn = false)
    (hdue : max (s.dx mn).heardAt (s.px (portOf mn)).framesAt + ms (s.get .PEN_GCFG_LOCK_TO_MS) ≤ s.now) : Completes (.dropTimeout mn) s fun t =>
      t.on .PEN_DROP_PRESENT (portOf mn) (dropOf mn) = false ∧ t.get .PEN_DROP_DSTATE (portOf mn) (dropOf mn) = 1 ∧
      (s.on .PEN_FANOUT_PRESENT (portOf mn) = true → { cls := 2, payload := [dropOf mn] } ∈ (t.dx (chanKey (portOf mn) 0x40)).unacked ++ (t.dx (chanKey (portOf mn) 0x40)).queued) ∧
      (s.on .PEN_FANOUT_PRESENT (portOf mn) = false → LinkFree s (portOf mn) → t.pstate (portOf mn) = 1) := by
  have hp := portOf_lt mn
  have hd := dropOf_lt mn
  have he : exec (.dropTimeout mn) s = if s.on .PEN_FANOUT_PRESENT (portOf mn) then fin ((dropAsked s mn).sendMgmt (portOf mn) 0x40 2 [dropOf mn])
      else fin (s.startTraining (portOf mn)) := by
    show execDropTimeout mn s = _
    refine if_neg ?_
    simp [hup, hpresent, hboot, hdue]
  by_cases hfan : s.on .PEN_FANOUT_PRESENT (portOf mn) = true
  · rw [if_pos hfan] at he
    refine completes_fin he ⟨?_, ?_, fun _ => ?_, fun h => absurd hfan (by rw [h]; decide)⟩
    · rw [on_off (it_noteEvents _) (by decide), on_off (it_sendMgmt _ _ _ _ _) (by decide), dropAsked, on_off (it_raise _ _ _) (by decide), dropUnseen_present _ hp hd]
    · rw [get_off (it_noteEvents _) (by decide), get_off (it_sendMgmt _ _ _ _ _) (by decide), dropAsked, get_off (it_raise _ _ _) (by decide), dropUnseen_dstate _ hp hd]
    · rw [dx_off (it_noteEvents _) (by decide)]
      refine sendMgmt_mem _ _ _ _ _ fun h8 => ?_
      have hst : (dropAsked s mn).pstate (portOf mn) = s.pstate (portOf mn) := by
        rw [dropAsked, State.pstate, get_off (it_raise _ _ _) (by decide), dropUnseen, get_set2_disj (by decide), get_set2_disj (by decide), get_set2_disj (by decide)]
        rfl
      rw [State.portUp, ← hst, h8] at hup
      exact absurd hup (by decide)
  · rw [if_neg hfan] at he
    refine completes_fin he ⟨?_, ?_, fun h => absurd h hfan, fun _ hfree => (detects_noteEvents (startTraining_detects hp hfree)).1⟩
    · rw [on_off (it_noteEvents _) (by decide), startTraining_eq, on_off (it_requestLink _ _ _) (by decide), trainingAsked_present s hp hd]
    · rw [get_off (it_noteEvents _) (by decide), startTraining_eq, get_off (it_requestLink _ _ _) (by decide), trainingAsked_dstate hp hd hpresent]

theorem dropLost_dstate (s : State) (mn : Mn) : (s.dropLost mn).get .PEN_DROP_DSTATE (portOf mn) (dropOf mn) = 3 := by
  unfold State.dropLost
  extract_lets s1
  rw [get_off (it_modDrop _ _ _) (by decide)]
  exact get_set_same _ .PEN_DROP_DSTATE _ _ 3 (penDrop_has (portOf_lt mn) (dropOf_lt mn)) (by decide)

theorem dropNotFound_absent (hup : s.portUp (portOf mn) = true) (hseek : s.get .PEN_DROP_DSTATE (portOf mn) (dropOf mn) = 1) (hboot : s.rebooting mn = false)
    (hdue : ((s.dx mn).seekAt.getD (s.px (portOf mn)).framesAt) + ms (s.get .PEN_GCFG_LOCK_TO_MS) ≤ s.now) : Completes (.dropNotFound mn) s fun t =>
    t.mst mn = 0 ∧ t.get .PEN_DROP_DSTATE (portOf mn) (dropOf mn) = 3 ∧ t.on .PEN_EVENT_DROP_CHG (portOf mn) = true := by
  have he : exec (.dropNotFound mn) s = fin ((s.dropLost mn).raise .PEN_EVENT_DROP_CHG (portOf mn)) := by
    show execDropNotFound mn s = _
    refine if_neg ?_
    simp [hup, hseek, hboot, hdue]
  refine completes_fin he ⟨?_, ?_, ?_⟩
  · rw [mst_off (it_noteEvents _) (by decide), mst_off (it_raise _ _ _) (by decide), mst_dropLost s mn.isLt, if_pos rfl]
  · rw [get_off (it_noteEvents _) (by decide), get_off (it_raise _ _ _) (by decide), dropLost_dstate]
  · rw [on_off (it_noteEvents _) (by decide)]
    exact on_eq_true_of_get (get_raise_self (by decide) _ _ (portReg_has rfl rfl (portOf_lt mn)) (by decide))

end

/-! ### The management channel -/

section
variable {p : PortIx} {a : Fin 65} {s : State}

/-- What a message acknowledges leaves the channel's record, and messages that waited go out (R75). -/
def mgmtAcked (s : State) (p a mack : Nat) : State :=
  let x := s.dx (chanKey p a)
  let acked := (mack + 4096 - (x.mseqTx + 4096 - x.unacked.length) % 4096) % 4096
  (if acked ≠ 0 ∧ acked ≤ x.unacked.length then
    ((s.modDrop (chanKey p a) fun d => { d with unacked := d.unacked.drop acked, rounds := 0 }).modPort p fun y => { y with busyAt := s.now }).flushMgmt p a
  else s).modDrop (chanKey p a) fun d => { d with heardAt := s.now }

theorem mgmtAcked_rx (s : State) (p a mack : Nat) : ((mgmtAcked s p a mack).dx (chanKey p a)).mseqRx = (s.dx (chanKey p a)).mseqRx ∧
    ((mgmtAcked s p a mack).dx (chanKey p a)).protoErrs = (s.dx (chanKey p a)).protoErrs := by
  unfold mgmtAcked
  extract_lets x acked
  rw [dx_modDrop_same]
  split
  · set u := (s.modDrop (chanKey p a) fun d => { d with unacked := d.unacked.drop acked, rounds := 0 }).modPort p fun y => { y with busyAt := s.now } with hu
    obtain ⟨l, q, m, hdx, -⟩ := dx_flushMgmt u p a
    rw [hdx, hu, dx_off (it_modPort _ _ _) (by decide), dx_modDrop_same]
    exact ⟨rfl, rfl⟩
  · exact ⟨rfl, rfl⟩

/-- A message in order is noted and acknowledged, before its content is taken. -/
def mgmtInOrder (s : State) (p a : Nat) : State :=
  (s.modDrop (chanKey p a) fun y => { y with mseqRx := (y.mseqRx + 1) % 4096, protoErrs := 0 }).ackMgmt p a

/-- A message far out of order counts as an error of the protocol. -/
def mgmtStrayed (s : State) (p a : Nat) : State :=
  ((s.bump .PEN_CNT_MGMT_COUNT p).raise .PEN_EVENT_MGMT_ERR p).modDrop (chanKey p a) fun y => { y with protoErrs := y.protoErrs + 1 }

theorem exec_mgmtMessage {mseq mack : Fin 4096} {b : MgmtBody} (hup : s.portUp p = true) (hb : b ≠ .reset) :
    exec (.mgmtMessage p a mseq mack true b) s =
      let u := mgmtAcked s p a mack
      let d := (mseq.val + 4096 - (s.dx (chanKey p a)).mseqRx) % 4096
      if d = 0 then fin ((mgmtInOrder u p a).takeMgmt p a b)
      else if d ≤ 63 then fin (u.bump .PEN_CNT_MGMT_COUNT p)
      else if 4032 ≤ d then fin ((u.bump .PEN_CNT_MGMT_COUNT p).ackMgmt p a)
      else fin (if 4 ≤ ((mgmtStrayed u p a).dx (chanKey p a)).protoErrs then (mgmtStrayed u p a).restartChannel p a 1 else mgmtStrayed u p a) := by
  show execMgmtMessage p a mseq mack true b s = _
  unfold execMgmtMessage
  rw [if_neg (by rw [hup]; decide), if_neg (by decide)]
  exact if_neg hb

theorem mgmtInOrder_dx (s : State) (p a : Nat) : (mgmtInOrder s p a).dx (chanKey p a) =
    { s.dx (chanKey p a) with mseqRx := ((s.dx (chanKey p a)).mseqRx + 1) % 4096, protoErrs := 0 } := by
  rw [mgmtInOrder, State.ackMgmt, dx_off (it_emit _ _) (by decide), dx_modDrop_same]

theorem takeMgmt_status {s : State} {p a : Nat} (ha : a < 64) (ti tz cl di ls sf : Bool) (i v : Nat) :
    Shows ((s.takeMgmt p a (.status ti tz cl di ls sf i v)).mx (p * 64 + a)) ti tz di ∧
      tabGet ((s.takeMgmt p a (.status ti tz cl di ls sf i v)).dx (p * 64 + a)).tlm i 0 = v := by
  have ht : s.takeMgmt p a (.status ti tz cl di ls sf i v) = (s.bridgeStatus (p * 64 + a) ti tz cl di ls sf).telemetry (p * 64 + a) i v := if_pos ha
  rw [ht, mx_off (it_telemetry _ _ _ _) (by decide), telemetry_tlm]
  exact ⟨(bridgeStatus_shows s _ ti tz cl di ls sf).1, rfl⟩

theorem mgmtStrayed_dx (s : State) (p a : Nat) : (mgmtStrayed s p a).dx (chanKey p a) =
    { s.dx (chanKey p a) with protoErrs := (s.dx (chanKey p a)).protoErrs + 1 } := by
  rw [mgmtStrayed, dx_modDrop_same, dx_off (it_raise _ _ _) (by decide), dx_off (it_bump _ _ _) (by decide)]

theorem mgmtStrayed_err (s : State) (p : PortIx) (a : Nat) : (mgmtStrayed s p a).on .PEN_EVENT_MGMT_ERR p = true := by
  rw [mgmtStrayed, on_off (it_modDrop _ _ _) (by decide)]
  exact on_eq_true_of_get (get_raise_self (by decide) _ _ (portReg_has rfl rfl p.isLt) (by decide))

/-- The fourth error of the protocol in a row restarts the channel (R75). -/
theorem mgmtStrayed_restarts (u : State) (p : PortIx) (a : Nat) :
    let w := if 4 ≤ ((mgmtStrayed u p a).dx (chanKey p a)).protoErrs then (mgmtStrayed u p a).restartChannel p a 1 else mgmtStrayed u p a
    w.on .PEN_EVENT_MGMT_ERR p = true ∧
      (w.dx (chanKey p a)).protoErrs = (if (u.dx (chanKey p a)).protoErrs + 1 < 4 then (u.dx (chanKey p a)).protoErrs + 1 else 0) ∧
      (3 ≤ (u.dx (chanKey p a)).protoErrs → (w.dx (chanKey p a)).mseqRx = 0) := by
  intro w
  have hdx := mgmtStrayed_dx u p a
  have hcount : ((mgmtStrayed u p a).dx (chanKey p a)).protoErrs = (u.dx (chanKey p a)).protoErrs + 1 := by rw [hdx]
  by_cases h4 : 4 ≤ ((mgmtStrayed u p a).dx (chanKey p a)).protoErrs
  · have hw : w = (mgmtStrayed u p a).restartChannel p a 1 := if_pos h4
    rw [hw, dx_restartChannel, if_neg (by omega)]
    exact ⟨restartChannel_err _ a p.isLt (by decide), rfl, fun _ => rfl⟩
  · have hw : w = mgmtStrayed u p a := if_neg h4
    rw [hw, if_pos (by omega)]
    exact ⟨mgmtStrayed_err u p a, hcount, fun h3 => absurd h3 (by omega)⟩

theorem mgmtMessage_taken {mseq mack : Fin 4096} {b : MgmtBody} (hup : s.portUp p = true) (hb : b ≠ .reset) :
    let k := chanKey p a
    let d := (mseq.val + 4096 - (s.dx k).mseqRx) % 4096
    Completes (.mgmtMessage p a mseq mack true b) s fun t =>
      (d = 0 → b = .reserved → (t.dx k).mseqRx = ((s.dx k).mseqRx + 1) % 4096 ∧ (t.dx k).protoErrs = 0) ∧
      (∀ ti tz cl di ls sf i v, d = 0 → a.val < 64 → b = .status ti tz cl di ls sf i v → (t.mx (p * 64 + a)).trayIn = ti ∧ (t.mx (p * 64 + a)).trayOut = tz ∧
        (t.mx (p * 64 + a)).disc = di ∧ tabGet (t.dx (p * 64 + a)).tlm i 0 = v) ∧
      (d ≠ 0 → d ≤ 63 ∨ 4032 ≤ d → (t.dx k).mseqRx = (s.dx k).mseqRx) ∧
      (63 < d → d < 4032 → t.on .PEN_EVENT_MGMT_ERR p = true ∧ (t.dx k).protoErrs = (if (s.dx k).protoErrs + 1 < 4 then (s.dx k).protoErrs + 1 else 0) ∧
        (3 ≤ (s.dx k).protoErrs → (t.dx k).mseqRx = 0)) := by
  intro k d
  have he := exec_mgmtMessage (a := a) (mseq := mseq) (mack := mack) hup hb
  extract_lets u at he
  obtain ⟨hrx, herrs⟩ : (u.dx k).mseqRx = (s.dx k).mseqRx ∧ (u.dx k).protoErrs = (s.dx k).protoErrs := mgmtAcked_rx s p a mack
  by_cases h0 : d = 0
  · rw [if_pos h0] at he
    refine completes_fin he ⟨fun _ hres => ?_, fun ti tz cl di ls sf i v _ ha hst => ?_, fun h => absurd h0 h, fun h => absurd h (by omega)⟩
    · subst hres
      rw [dx_off (it_noteEvents _) (by decide), State.takeMgmt, dx_off (it_bump _ _ _) (by decide), mgmtInOrder_dx]
      exact ⟨by rw [← hrx], rfl⟩
    · subst hst
      obtain ⟨⟨hin, hout, hdisc⟩, htlm⟩ := takeMgmt_status (s := mgmtInOrder u p a) (p := p) ha ti tz cl di ls sf i v
      rw [mx_off (it_noteEvents _) (by decide), dx_off (it_noteEvents _) (by decide)]
      exact ⟨hin, hout, hdisc, htlm⟩
  · rw [if_neg h0] at he
    have hkept : d ≤ 63 ∨ 4032 ≤ d → ∃ w : State, exec (.mgmtMessage p a mseq mack true b) s = fin w ∧ w.dx k = u.dx k := by
      intro hnear
      by_cases hnew : d ≤ 63
      · rw [if_pos hnew] at he
        exact ⟨_, he, dx_off (it_bump _ _ _) (by decide) k⟩
      · rw [if_neg hnew, if_pos (hnear.resolve_left hnew)] at he
        exact ⟨_, he, by rw [State.ackMgmt, dx_off (it_emit _ _) (by decide), dx_off (it_bump _ _ _) (by decide)]⟩
    by_cases hnear : d ≤ 63 ∨ 4032 ≤ d
    · obtain ⟨w, hw, hdx⟩ := hkept hnear
      refine completes_fin hw ⟨fun h => absurd h h0, fun _ _ _ _ _ _ _ _ h => absurd h h0, fun _ _ => ?_, fun h1 h2 => absurd hnear (by omega)⟩
      rw [dx_off (it_noteEvents _) (by decide), hdx, hrx]
    · rw [if_neg (fun h => hnear (Or.inl h)), if_neg (fun h => hnear (Or.inr h))] at he
      refine completes_fin he ⟨fun h => absurd h h0, fun _ _ _ _ _ _ _ _ h => absurd h h0, fun _ h => absurd h hnear, fun _ _ => ?_⟩
      rw [on_off (it_noteEvents _) (by decide), dx_off (it_noteEvents _) (by decide), ← herrs]
      exact mgmtStrayed_restarts u p a

theorem mgmtResend_sends (hup : s.portUp p = true) (hun : (s.dx (chanKey p a)).unacked ≠ []) : Completes (.mgmtResend p a) s fun t =>
    (∀ m ∈ (s.dx (chanKey p a)).unacked, ∃ q, .mgmt p a m.cls (some q) m.payload ∈ t.out) ∧
    ((s.dx (chanKey p a)).rounds < 8 → (t.dx (chanKey p a)).rounds = (s.dx (chanKey p a)).rounds + 1) ∧
    (8 ≤ (s.dx (chanKey p a)).rounds → (t.dx (chanKey p a)).rounds = 0 ∧ (t.dx (chanKey p a)).mseqRx = 0 ∧ t.on .PEN_EVENT_MGMT_ERR p = true) := by
  have he : exec (.mgmtResend p a) s = if 8 ≤ (s.dx (chanKey p a)).rounds then fin (s.restartChannel p a 2)
      else fin (((s.bumpBy .PEN_CNT_MGMT_COUNT p (s.dx (chanKey p a)).unacked.length).modDrop (chanKey p a) fun y => { y with rounds := y.rounds + 1 }).emitMgmt p a
        (((s.dx (chanKey p a)).mseqTx + 4096 - (s.dx (chanKey p a)).unacked.length) % 4096) (s.dx (chanKey p a)).unacked) := by
    show execMgmtResend p a s = _
    refine if_neg ?_
    simp [hup, hun]
  by_cases h8 : 8 ≤ (s.dx (chanKey p a)).rounds
  · rw [if_pos h8] at he
    have hre := dx_restartChannel s p a 2
    refine completes_fin he ⟨fun m hm => ?_, fun h => absurd h8 (by omega), fun _ => ?_⟩
    · rw [noteEvents_out, restartChannel_eq]
      obtain ⟨q, hq⟩ := emitMgmt_out (channelReset s p a 2) p a 0 hm
      exact ⟨q, hq⟩
    · rw [dx_off (it_noteEvents _) (by decide), on_off (it_noteEvents _) (by decide), hre]
      exact ⟨rfl, rfl, restartChannel_err s a p.isLt (by decide)⟩
  · rw [if_neg h8] at he
    refine completes_fin he ⟨fun m hm => ?_, fun _ => ?_, fun h => absurd h h8⟩
    · rw [noteEvents_out]
      obtain ⟨q, hq⟩ := emitMgmt_out _ p a _ hm
      exact ⟨q, hq⟩
    · rw [dx_off (it_noteEvents _) (by decide), dx_emitMgmt, dx_modDrop_same, dx_off (it_bumpBy _ _ _ _) (by decide)]

end

/-- Settles O51: slots received and missing, repeated actuator slots, lost drops and the messages of the management channels, each from what its command does. -/
theorem slotsAndMessages : Obligations.SlotsAndMessages := by
  unfold Obligations.SlotsAndMessages
  exact ⟨fun p k x s n hn hcrc hseq hdrop hepoch => servoSlotReceived_takes hn hcrc hseq hdrop hepoch,
    fun p k s n hn => servoSlotMissing_counts hn,
    fun mn s hlive hdue => actuatorRepeat_sends hlive hdue,
    fun mn s hup hpresent hboot hdue => dropTimeout_retrains hup hpresent hboot hdue,
    fun mn s hup hseek hboot hdue => dropNotFound_absent hup hseek hboot hdue,
    fun p a mseq mack b s hup hb => mgmtMessage_taken hup hb,
    fun p a s hup hun => mgmtResend_sends hup hun⟩

end Sys2Proof.Proofs
end

section
/-! OBLIGATION O27. -/

namespace Sys2Proof.Proofs

open Sys2Proof.Machine Sys2Proof.Laws

/-! ### A bit of a dword -/

theorem add_two_pow_div_above {v g k : Nat} (h : bitAt v g = 0) (hk : g < k) : (v + 2 ^ g) / 2 ^ k = v / 2 ^ k := by
  obtain ⟨j, rfl⟩ := Nat.exists_eq_add_of_lt hk
  have hstep : (v + 2 ^ g) / 2 ^ g = v / 2 ^ g + 1 := Nat.add_div_right _ (Nat.two_pow_pos g)
  have heven : v / 2 ^ g % 2 = 0 := h
  have hsplit : 2 ^ (g + j + 1) = 2 ^ g * (2 * 2 ^ j) := by rw [Nat.pow_succ, Nat.pow_add, Nat.mul_assoc, Nat.mul_comm (2 ^ j)]
  rw [hsplit, ← Nat.div_div_eq_div_mul, ← Nat.div_div_eq_div_mul, hstep, ← Nat.div_div_eq_div_mul, ← Nat.div_div_eq_div_mul]
  congr 1
  omega

theorem bitAt_add_same {v g : Nat} (h : bitAt v g = 0) : bitAt (v + 2 ^ g) g = 1 := by
  have heven : v / 2 ^ g % 2 = 0 := h
  rw [bitAt, Nat.add_div_right _ (Nat.two_pow_pos g)]
  omega

theorem bitAt_add_ne {v g k : Nat} (h : bitAt v g = 0) (hk : k ≠ g) : bitAt (v + 2 ^ g) k = bitAt v k := by
  rcases Nat.lt_or_gt_of_ne hk with hlt | hgt
  · obtain ⟨j, rfl⟩ := Nat.exists_eq_add_of_lt hlt
    have hsplit : 2 ^ (k + j + 1) = 2 ^ k * (2 * 2 ^ j) := by rw [Nat.pow_succ, Nat.pow_add, Nat.mul_assoc, Nat.mul_comm (2 ^ j)]
    rw [bitAt, hsplit, Nat.add_mul_div_left _ _ (Nat.two_pow_pos k), Nat.add_mul_mod_self_left]
    rfl
  · rw [bitAt, add_two_pow_div_above h hgt]
    rfl

theorem add_two_pow_lt {v g n : Nat} (h : bitAt v g = 0) (hg : g < n) (hv : v < 2 ^ n) : v + 2 ^ g < 2 ^ n := by
  have := add_two_pow_div_above h hg
  rw [Nat.div_eq_of_lt hv] at this
  exact (Nat.div_eq_zero_iff_lt (Nat.two_pow_pos n)).mp this

theorem bitAt_cases (v g : Nat) : bitAt v g = 0 ∨ bitAt v g = 1 := Nat.mod_two_eq_zero_or_one _

/-- A dword with one bit put to a level. -/
def putLevel (v g : Nat) (lvl : Bool) : Nat := if (bitAt v g == 1) = lvl then v else if lvl then v + 2 ^ g else v - 2 ^ g

theorem eq_add_of_bitAt {v g : Nat} (h : bitAt v g = 1) : ∃ w, v = w + 2 ^ g ∧ bitAt w g = 0 := by
  have hodd : v / 2 ^ g % 2 = 1 := h
  have hle : 2 ^ g ≤ v := Nat.le_of_not_lt fun hlt => by rw [Nat.div_eq_of_lt hlt] at hodd; contradiction
  obtain ⟨w, rfl⟩ := Nat.exists_eq_add_of_le' hle
  refine ⟨w, rfl, ?_⟩
  rw [Nat.add_div_right _ (Nat.two_pow_pos g)] at hodd
  rw [bitAt]
  omega

theorem bitAt_eq_b2n {v g : Nat} {lvl : Bool} (h : (bitAt v g == 1) = lvl) : bitAt v g = b2n lvl := by
  subst h
  rcases bitAt_cases v g with h | h <;> rw [h] <;> rfl

/-- Putting one bit of a dword to a level sets that bit and leaves the others: it rises, or the dword is another one whose bit rose. -/
theorem putLevel_spec {v g n : Nat} (hg : g < n) (hv : v < 2 ^ n) (lvl : Bool) :
    putLevel v g lvl < 2 ^ n ∧ bitAt (putLevel v g lvl) g = b2n lvl ∧ ∀ k, k ≠ g → bitAt (putLevel v g lvl) k = bitAt v k := by
  rw [putLevel]
  split
  next hsame => exact ⟨hv, bitAt_eq_b2n hsame, fun _ _ => rfl⟩
  next hother =>
  cases lvl with
  | true =>
    have h0 : bitAt v g = 0 := (bitAt_cases v g).resolve_right fun h => hother (by simp [h])
    exact ⟨add_two_pow_lt h0 hg hv, bitAt_add_same h0, fun k hk => bitAt_add_ne h0 hk⟩
  | false =>
    have h1 : bitAt v g = 1 := (bitAt_cases v g).resolve_left fun h => hother (by simp [h])
    obtain ⟨w, rfl, hw0⟩ := eq_add_of_bitAt h1
    rw [if_neg Bool.false_ne_true, Nat.add_sub_cancel]
    exact ⟨Nat.lt_of_le_of_lt (Nat.le_add_right _ _) hv, hw0, fun k hk => (bitAt_add_ne hw0 hk).symm⟩

/-! ### GPIOs (R527, R528) -/

theorem gpioLevel_in (s : State) {g : Nat} (hg : g < 32) (lvl : Bool) : (s.gpioLevel g lvl).get .DRN_GPIO_IN_GPIO = putLevel (s.get .DRN_GPIO_IN_GPIO) g lvl := by
  have hlt := (putLevel_spec hg (get_lt s .DRN_GPIO_IN_GPIO 0 0) lvl).1
  unfold State.gpioLevel
  extract_lets inn s1 code s2
  split
  next hsame => exact (if_pos hsame).symm
  next hother =>
  have h1 : s1.get .DRN_GPIO_IN_GPIO = putLevel inn g lvl := by
    rw [putLevel, if_neg hother] at hlt ⊢
    exact (get_set0_self (by decide) _ _ (by decide)).trans (Nat.mod_eq_of_lt hlt)
  have h2 : s2.get .DRN_GPIO_IN_GPIO = putLevel inn g lvl := (get_set0_disj (by decide) _ _ _ _).trans h1
  by_cases hsel : bitAt code (if lvl then 0 else 1) = 0
  · rw [if_pos hsel]
    exact h1
  · rw [if_neg hsel]
    split
    · exact (get_off (it_wake _ _) (by decide)).trans h2
    · exact h2

theorem gpioLevel_out (s : State) (g : Nat) (lvl : Bool) : (s.gpioLevel g lvl).get .DRN_GPIO_OUT_GPIO = s.get .DRN_GPIO_OUT_GPIO :=
  get_off (it_gpioLevel s g lvl) (by decide)

theorem gpioLevel_bit (s : State) {g : Nat} (hg : g < 32) (lvl : Bool) : bitAt ((s.gpioLevel g lvl).get .DRN_GPIO_IN_GPIO) g = b2n lvl := by
  rw [gpioLevel_in s hg]
  exact (putLevel_spec hg (get_lt _ _ _ _) lvl).2.1

theorem gpioLevel_otherBit (s : State) {g k : Nat} (hg : g < 32) (hk : k ≠ g) (lvl : Bool) :
    bitAt ((s.gpioLevel g lvl).get .DRN_GPIO_IN_GPIO) k = bitAt (s.get .DRN_GPIO_IN_GPIO) k := by
  rw [gpioLevel_in s hg]
  exact (putLevel_spec hg (get_lt _ _ _ _) lvl).2.2 k hk

/-- The ball of GPIO g is at the level of its output bit. -/
def BallFollows (g : Nat) (t : State) : Prop := bitAt (t.get .DRN_GPIO_IN_GPIO) g = bitAt (t.get .DRN_GPIO_OUT_GPIO) g

/-- One driven ball follows its output bit. -/
def driveBall (t : State) (g : Nat) : State := t.gpioLevel g (bitAt (t.get .DRN_GPIO_OUT_GPIO) g == 1)

theorem driveBall_follows (t : State) {g : Nat} (hg : g < 32) : BallFollows g (driveBall t g) := by
  rw [BallFollows, driveBall, gpioLevel_bit t hg, gpioLevel_out]
  exact (bitAt_eq_b2n rfl).symm

theorem BallFollows.driveBall {t : State} {g k : Nat} (hk : k < 32) (h : BallFollows g t) : BallFollows g (driveBall t k) := by
  by_cases hkg : g = k
  · subst hkg
    exact driveBall_follows t hk
  · rw [BallFollows, Proofs.driveBall, gpioLevel_otherBit t hk hkg, gpioLevel_out]
    exact h

theorem gpioDrive_out (s : State) : s.gpioDrive.get .DRN_GPIO_OUT_GPIO = s.get .DRN_GPIO_OUT_GPIO := get_off (it_gpioDrive s) (by decide)

theorem gpioDrive_follows {s : State} {g : Nat} (hg : g < 32) (hoe : bitAt (s.get .DRN_GPIO_OE_GPIO) g = 1) : BallFollows g s.gpioDrive := by
  have hmem : g ∈ (List.range 32).filter fun g => bitAt (s.get .DRN_GPIO_OE_GPIO) g == 1 :=
    List.mem_filter.mpr ⟨List.mem_range.mpr hg, beq_iff_eq.mpr hoe⟩
  obtain ⟨l₁, l₂, hl⟩ := List.append_of_mem hmem
  have hlt : ∀ k ∈ l₂, k < 32 := fun k hk =>
    List.mem_range.mp (List.mem_of_mem_filter (hl ▸ List.mem_append_right _ (List.mem_cons_of_mem _ hk)))
  show BallFollows g (s.forEach _ driveBall)
  rw [hl, State.forEach, List.foldl_append]
  exact forEach_keeps driveBall l₂ _ (fun k hk _ h => h.driveBall (hlt k hk)) (driveBall_follows _ hg)

/-- The output bits are v, and each ball that s drives follows its bit. -/
def OutputsDriven (s : State) (v : Nat) (t : State) : Prop :=
  t.get .DRN_GPIO_OUT_GPIO = v ∧ ∀ g < 32, bitAt (s.get .DRN_GPIO_OE_GPIO) g = 1 → BallFollows g t

theorem outputs_driven {s : State} {v : Nat} (hv : v < 2 ^ 32) {c : Instr} (he : exec c s = fin ((s.dozeWake 2).set0 .DRN_GPIO_OUT_GPIO v).gpioDrive) :
    Completes c s (OutputsDriven s v) := by
  refine completes_fin he ⟨?_, fun g hg hoe => ?_⟩
  · rw [get_off (it_noteEvents _) (by decide), gpioDrive_out, get_set0_self (by decide) _ _ (by decide)]
    exact Nat.mod_eq_of_lt hv
  · rw [BallFollows, get_off (it_noteEvents _) (by decide), get_off (it_noteEvents _) (by decide)]
    refine gpioDrive_follows hg ?_
    rw [get_set0_disj (by decide), get_off (it_dozeWake _ _) (by decide)]
    exact hoe

theorem gpioEdge_shows (g : Fin 32) (level : Bool) (s : State) :
    Completes (.gpioEdge g level) s fun t => bitAt (t.get .DRN_GPIO_IN_GPIO) g = (if level then 1 else 0) :=
  completes_fin rfl <| by
    rw [get_off (it_noteEvents _) (by decide)]
    exact gpioLevel_bit s g.isLt level

theorem gpioSet_drives {s : State} (hopen : s.closed = false) (mask : Word) :
    Completes (.gpioSet mask) s (OutputsDriven s (Nat.lor (s.get .DRN_GPIO_OUT_GPIO) mask.toNat)) := by
  have hout := get_off (it_dozeWake s 2) (f := .DRN_GPIO_OUT_GPIO) (i := 0) (j := 0) (by decide)
  exact outputs_driven (Nat.or_lt_two_pow (get_lt s _ 0 0) mask.isLt) (by rw [← hout]; show execGpioSet mask s = _; rw [execGpioSet, regCmd_open hopen]; rfl)

theorem gpioClr_drives {s : State} (hopen : s.closed = false) (mask : Word) :
    Completes (.gpioClr mask) s (OutputsDriven s (Nat.land (s.get .DRN_GPIO_OUT_GPIO) (0xFFFFFFFF - mask.toNat))) := by
  have hout := get_off (it_dozeWake s 2) (f := .DRN_GPIO_OUT_GPIO) (i := 0) (j := 0) (by decide)
  exact outputs_driven (Nat.lt_of_le_of_lt Nat.and_le_left (get_lt s _ 0 0)) (by rw [← hout]; show execGpioClr mask s = _; rw [execGpioClr, regCmd_open hopen]; rfl)

/-! ### Wake sources -/

theorem wake_of_doze {s : State} {src : Nat} (h : s.pst = 3) (h1 : 1 ≤ src) (h8 : src ≤ 8) :
    (s.wake src).pst = 4 ∧ (s.wake src).get .DRN_PSTAT_LAST_WAKE = src := by
  have hwake : s.wake src = (s.set0 .DRN_PSTAT_STATE 4).set0 .DRN_PSTAT_LAST_WAKE src := by
    have hdoze : s.get .DRN_PSTAT_STATE = 3 := h
    simp [State.wake, h, h1, h8, State.dozeWake, hdoze]
  rw [hwake, State.pst]
  constructor
  · rw [get_set0_beside (f := .DRN_PSTAT_LAST_WAKE) (g := .DRN_PSTAT_STATE) rfl (by decide)]
    exact get_set0_self (by decide) _ _ (by decide)
  · rw [get_set0_self (by decide) _ _ (by decide)]
    exact Nat.mod_eq_of_lt (Nat.lt_of_le_of_lt h8 (by decide))

theorem wake_of_active {s : State} (h : s.pst = 1) (src : Nat) : s.wake src = s := by simp [State.wake, h]

theorem wake_of_boot {s : State} (h : s.pst = 0) (src : Nat) : s.wake src = s := by simp [State.wake, h]

theorem pst_noteEvents (s : State) : s.noteEvents.pst = s.pst := get_off (it_noteEvents s) (by decide)

theorem attentionWrite_owes {s : State} {fn : FnIx} (hopen : s.closed = false) (hfence : s.fenced fn = false) (hstop : (s.fnx fn).stopping = false) :
    Completes (.attentionWrite fn) s fun t => (t.fnx fn).scanDue = true ∧ (s.pst = 3 → t.pst = 4 ∧ t.get .DRN_PSTAT_LAST_WAKE = 1) := by
  have he : exec (.attentionWrite fn) s = fin ((s.modFn fn fun f => { f with scanDue := true }).wake 1) := if_neg (by simp [hopen, hfence, hstop])
  refine completes_fin he ⟨?_, fun h3 => ?_⟩
  · rw [State.fnx, (later_noteEvents _).fnx, host_off (it_wake _ _) (by decide)]
    exact congrArg FnX.scanDue (tabGet_tabMod_same s.host.fnx fn {} fun f => { f with scanDue := true })
  · rw [pst_noteEvents, get_off (it_noteEvents _) (by decide)]
    exact wake_of_doze (src := 1) h3 (by decide) (by decide)

theorem partnerWake_shown {s : State} {p : PortIx} (hlow : s.pstate p = 8) :
    Completes (.partnerWake p) s fun t => t.on .PEN_EVENT_WAKE_REQ p = true ∧ (s.pst = 3 → t.pst = 4 ∧ t.get .DRN_PSTAT_LAST_WAKE = 3) := by
  have he : exec (.partnerWake p) s = fin (((s.raise .PEN_EVENT_WAKE_REQ p).wakePort p).wake 3) := if_pos hlow
  refine completes_fin he ⟨?_, fun h3 => ?_⟩
  · rw [on_off (it_noteEvents _) (by decide), on_off (it_wake _ _) (by decide), on_off (it_wakePort _ _) (by decide)]
    exact on_eq_true_of_get (get_raise_self (by decide) _ _ (portReg_has rfl rfl p.isLt) (by decide))
  · rw [pst_noteEvents, get_off (it_noteEvents _) (by decide)]
    refine wake_of_doze (src := 3) ?_ (by decide) (by decide)
    have hpst : ((s.raise .PEN_EVENT_WAKE_REQ p).wakePort p).pst = (s.raise .PEN_EVENT_WAKE_REQ p).pst := get_off (it_wakePort _ _) (by decide)
    rw [hpst]
    exact (get_set2_disj (by decide) _ _ _ _ _ _).trans h3

/-! ### Host links -/

theorem hostPort_has {p : Nat} (hp : p < 4) : Reg.HQP_PORT.has p 0 = true := by
  rw [Reg.has, Bool.and_eq_true]
  exact ⟨decide_eq_true hp, rfl⟩

/-- The registers of a host port whose link has come up. -/
def linkShown (s : State) (p width rate : Nat) : State :=
  (((s.set .HQP_PORT_UP p 1).set .HQP_PORT_WIDTH p width).set .HQP_PORT_RATE p rate).set .HQP_PORT_L1 p 0

theorem linkShown_spec (s : State) {p width rate : Nat} (hp : p < 4) (hw : width < 16) (hr : rate < 16) :
    (linkShown s p width rate).on .HQP_PORT_UP p = true ∧ (linkShown s p width rate).get .HQP_PORT_WIDTH p = width ∧
      (linkShown s p width rate).get .HQP_PORT_RATE p = rate ∧ (linkShown s p width rate).on .HQP_PORT_L1 p = false := by
  have hhas := hostPort_has hp
  unfold linkShown
  refine ⟨on_eq_true_of_get ?_, ?_, ?_, on_eq_false_of_get (get_set_self (by decide) _ _ _ hhas)⟩ <;>
    simp (disch := with_unfolding_all exact id rfl) only [get_set_field]
  · exact get_set_self (by decide) _ _ _ hhas
  · exact (get_set_self (by decide) _ _ _ hhas).trans (Nat.mod_eq_of_lt hw)
  · exact (get_set_self (by decide) _ _ _ hhas).trans (Nat.mod_eq_of_lt hr)

theorem hostLinkUp_shows {s : State} {p : HostPort} {width rate : Fin 16} (hheld : s.linksHeld = false) (htrains : linkTrains width rate = true)
    (hlive : s.dbg.deadPorts.contains p.val = false) (hopt : bitAt (s.optByte 5) p = 0) (htest : s.pwr.testen = false) :
    Completes (.hostLinkUp p width rate) s fun t => t.on .HQP_PORT_UP p = true ∧ t.get .HQP_PORT_WIDTH p = width.val ∧ t.get .HQP_PORT_RATE p = rate.val ∧
      t.on .HQP_PORT_L1 p = false := by
  have he : exec (.hostLinkUp p width rate) s = fin ((linkShown s p width rate).forEach
      (((List.range (min width.val 8)).map fun l => p.val * 8 + l).filter (linkShown s p width rate).hostCalDue) fun t i => t.beginRun 2 i 0 0) := by
    refine if_neg ?_
    rw [hheld, htrains, hlive, hopt, htest]
    decide
  obtain ⟨hup, hwidth, hrate, hl1⟩ := linkShown_spec s p.isLt width.isLt rate.isLt
  have hkeep {f : Fld} (h : (Item.reg f.reg 0 0).off foot_beginRun = true) (l : List Nat) :=
    forEach_keeps (P := fun t => t.get f p = (linkShown s p width rate).get f p) (fun t i => t.beginRun 2 i 0 0) l _
      (fun i _ t ht => (get_off (it_beginRun t 2 i 0 0) h).trans ht) rfl
  refine completes_fin he ⟨?_, ?_, ?_, ?_⟩
  · exact (on_off (it_noteEvents _) (by decide)).trans ((on_of_get (hkeep (by decide +kernel) _)).trans hup)
  · exact (get_off (it_noteEvents _) (by decide)).trans ((hkeep (by decide +kernel) _).trans hwidth)
  · exact (get_off (it_noteEvents _) (by decide)).trans ((hkeep (by decide +kernel) _).trans hrate)
  · exact (on_off (it_noteEvents _) (by decide)).trans ((on_of_get (hkeep (by decide +kernel) _)).trans hl1)

/-! ### The sideband (R530, R539) -/

theorem mctpTake_active {s : State} (h : s.pst = 1) (r : MctpReq) : s.mctpTake r = s.mctpAnswer r := by
  rw [State.mctpTake, wake_of_active h, if_neg (by simp [h])]

theorem mctpTake_boot {s : State} (h : s.pst = 0) (r : MctpReq) : s.mctpTake r = s.mctpHold r := by
  rw [State.mctpTake, wake_of_boot h, if_pos (Or.inl h)]

/-- While the device is ACTIVE, a request is answered as it comes. -/
theorem mctp_answered {s : State} (h : s.pst = 1) {c : Instr} {r : MctpReq} {b : List Nat} (he : exec c s = fin (s.mctpTake r))
    (hb : Output.mctp b ∈ (s.mctpAnswer r).out) : Completes c s fun t => Output.mctp b ∈ t.out := by
  refine completes_fin he ?_
  rw [noteEvents_out, mctpTake_active h]
  exact hb

theorem mctpControl_out (s : State) (req : List Nat) : Output.mctp (Config.mctpAnswer s.pwr.eid req) ∈ (s.mctpAnswer (.control req)).out := by
  simp only [State.mctpAnswer]
  split <;> exact List.mem_cons_self

theorem mctpStatus_held {s : State} (h : s.pst = 0) : Completes .mctpStatus s fun t => t.pwr.mctp = s.pwr.mctp ++ [.status] := by
  refine completes_fin (u := s.mctpTake .status) rfl ?_
  have hpwr : (s.mctpTake .status).noteEvents.pwr = (s.mctpTake .status).pwr := congrArg (·.2.pwr) (it_noteEvents (iq := .part .pwr) _ (by decide))
  rw [hpwr, mctpTake_boot h]
  rfl

/-- Settles O27: the pins, the partners' wakes, the host links and the sideband, each from what its command does. The form of a vendor answer, the balls that
follow at once and the refusals of HOST_LINK_UP are the model's (notes/assumptions/14.md, 29.md, 32.md). -/
theorem pinsAndSideband : Obligations.PinsAndSideband := by
  unfold Obligations.PinsAndSideband
  exact ⟨gpioEdge_shows, fun mask s hopen => gpioSet_drives hopen mask, fun mask s hopen => gpioClr_drives hopen mask,
    fun fn s hopen hfence hstop => attentionWrite_owes hopen hfence hstop, fun p s hlow => partnerWake_shown hlow,
    fun p width rate s hheld htrains hlive hopt htest => hostLinkUp_shows hheld htrains hlive hopt htest,
    fun s h => ⟨mctp_answered h rfl List.mem_cons_self, fun a => mctp_answered h rfl List.mem_cons_self, fun n => mctp_answered h rfl List.mem_cons_self,
      fun q n => mctp_answered h rfl List.mem_cons_self, fun req => mctp_answered h rfl (mctpControl_out s req)⟩,
    fun s h => mctpStatus_held h⟩

end Sys2Proof.Proofs
end

section
/-! SUPPORT. The spindle's state register, and how a start changes it (R166 to R171). -/

namespace Sys2Proof.Proofs

open Sys2Proof.Machine Sys2Proof.Laws

/-! ### MECH_SPIN_STAT -/

theorem spinStat_has {n : Nat} (hn : n < 4096) : Reg.MECH_SPIN_STAT.has n 0 = true := mechReg_has (by decide) hn

theorem spinState_off {s t : State} {l : List Spot} (it : ∀ {q : Item}, q.off l = true → itm q t = itm q s)
    (h : (Item.reg .MECH_SPIN_STAT 0 0).off l = true) (n : Nat) : t.spinState n = s.spinState n := get_off it h

/-- A spindle state that is entered leaves the other fields of its register. -/
theorem enterSpin_keeps {g : Fld} (hg : g.reg = .MECH_SPIN_STAT) (hb : beside .MECH_SPIN_STAT_SPIN_STATE g = true) (s : State) (n st k : Nat) :
    (s.enterSpin n st).get g k = s.get g k := get_set_otherField hg (by decide) hb s n st k

theorem spinState_enterSpin (s : State) {n st : Nat} (hn : n < 4096) (h : st < 16) : (s.enterSpin n st).spinState n = st :=
  (get_set_self (f := .MECH_SPIN_STAT_SPIN_STATE) (by decide) s n st (spinStat_has hn)).trans (Nat.mod_eq_of_lt h)

theorem spin_enterSpin (s : State) (n st : Nat) : ((s.enterSpin n st).sx n).spin = { (s.sx n).spin with stateAt := s.now, count := 0 } := by
  rw [State.enterSpin, State.modSpin, sx_modServo_same, sx_off (it_set _ _ _ _) (by decide)]

/-! ### A start from rest (R166, R169) -/

theorem ls_zeroAngle (s : State) {n : Nat} (hc : s.clusterOf n < 17) : (s.zeroAngle n).ls n 7 = 1 := ls_setLs s hc (by decide) (by decide)

theorem spinState_zeroAngle (s : State) (n : Nat) : (s.zeroAngle n).spinState n = s.spinState n := spinState_off (it_zeroAngle s n) (by decide) n

/-- The spindle enters ALIGN, the drive's angle at 0. -/
theorem align_entered (s : State) {n : Nat} (hn : n < 4096) (hc : s.clusterOf n < 17) :
    ((s.enterSpin n 4).zeroAngle n).spinState n = 4 ∧ ((s.enterSpin n 4).zeroAngle n).ls n 7 = 1 := by
  refine ⟨(spinState_zeroAngle _ n).trans (spinState_enterSpin s hn (by decide)), ls_zeroAngle _ ?_⟩
  rw [(clusterOf_off (it_enterSpin s n 4) (by decide) n).1]
  exact hc

theorem startFromRest_aligns (s : State) {n : Nat} (hn : n < 4096) (hc : s.clusterOf n < 17) :
    (s.startFromRest n true).spinState n = 4 ∧ (s.startFromRest n true).ls n 7 = 1 :=
  align_entered (s.bump .MECH_START_CNT_ALIGNS n) hn ((clusterOf_off (it_bump s .MECH_START_CNT_ALIGNS n) (by decide) n).1 ▸ hc)

theorem startFromRest_rests (s : State) {n : Nat} (hn : n < 4096) : (s.startFromRest n false).spinState n = 3 :=
  spinState_enterSpin (s.bump .MECH_START_CNT_ALIGNS n) hn (by decide)

theorem startFromRest_reverse (s : State) (n : Nat) (skip : Bool) (k : Nat) :
    (s.startFromRest n skip).get .MECH_SPIN_STAT_REVERSE k = s.get .MECH_SPIN_STAT_REVERSE k := by
  have henter : ∀ st, ((s.bump .MECH_START_CNT_ALIGNS n).enterSpin n st).get .MECH_SPIN_STAT_REVERSE k = s.get .MECH_SPIN_STAT_REVERSE k := fun st =>
    (enterSpin_keeps rfl (by decide) _ n st k).trans (get_off (it_bump s _ n) (by decide))
  cases skip with
  | true => exact (get_off (it_zeroAngle _ n) (by decide)).trans (henter 4)
  | false => exact henter 3

theorem startAt_startFromRest (s : State) (n : Nat) : ((s.startFromRest n false).sx n).spin.startAt = (s.sx n).spin.startAt := by
  show (((s.bump .MECH_START_CNT_ALIGNS n).enterSpin n 3).sx n).spin.startAt = _
  rw [spin_enterSpin, sx_off (it_bump _ _ _) (by decide)]

/-! ### A start sequence (R166, R167) -/

theorem spinState_startSequence (s : State) {n : Nat} (hn : n < 4096) : (s.startSequence n).spinState n = if s.asEx1 n = true then 0xB else 1 := by
  unfold State.startSequence
  extract_lets s1 s2
  refine spinState_enterSpin s2 hn ?_
  split <;> decide

theorem startSequence_tries (s : State) (n k : Nat) : (s.startSequence n).get .MECH_SPIN_STAT_TRIES k = s.get .MECH_SPIN_STAT_TRIES k := by
  unfold State.startSequence
  extract_lets s1 s2
  have h2 : s2.get .MECH_SPIN_STAT_TRIES k = s.get .MECH_SPIN_STAT_TRIES k := by
    simp only [s2, s1]
    split <;> rfl
  exact (enterSpin_keeps rfl (by decide) s2 n _ k).trans h2

theorem asEx1_off {s t : State} {l : List Spot} (it : ∀ {q : Item}, q.off l = true → itm q t = itm q s)
    (h : (Item.reg .MECH_BRIDGE 0 0).off l = true) (n : Nat) : t.asEx1 n = s.asEx1 n := by
  rw [State.asEx1, get_off it h, get_off it h]
  rfl

/-! ### The spindle closes (R168, R169) -/

theorem spinClosed_slews (s : State) {n : Nat} (ref : Nat) (hn : n < 4096) (hc : s.clusterOf n < 17) :
    (s.spinClosed n ref).spinState n = 7 ∧ (s.spinClosed n ref).ls n 6 = 3 ∧ (s.spinClosed n ref).ls n 7 = 1 ∧
      4 ≤ (s.spinClosed n ref).mst n ∧ (s.spinClosed n ref).mst n ≤ 7 := by
  unfold State.spinClosed
  extract_lets s1 s2
  have hc0 : ((s.closeLoop n 6).enterSpin n 7).clusterOf n < 17 := by
    rw [(clusterOf_off (it_enterSpin _ n 7) (by decide) n).1, (clusterOf_off (it_closeLoop s n 6) (by decide) n).1]
    exact hc
  have hc1 : s1.clusterOf n < 17 := (clusterOf_off (it_set ((s.closeLoop n 6).enterSpin n 7) .MECH_SPIN_STAT_OBS_LOCK n 1) (by decide) n).1 ▸ hc0
  have hst : s2.spinState n = 7 := by
    refine (spinState_off (it_setLs s1 n 7 1) (by decide) n).trans ?_
    rw [State.spinState, get_set_otherField (f := .MECH_SPIN_STAT_OBS_LOCK) (g := .MECH_SPIN_STAT_SPIN_STATE) rfl (by decide) (by decide)]
    exact spinState_enterSpin _ hn (by decide)
  have h6 : s2.ls n 6 = 3 := by
    refine (ls_setLs s1 hc1 (by decide) (by decide)).trans ?_
    rw [if_neg (by decide), ls_off (it_set _ _ _ _) (by decide) (by decide), ls_off (it_enterSpin _ n 7) (by decide) (by decide), ls_closeLoop s hc (by decide),
      if_pos rfl]
  have h7 : s2.ls n 7 = 1 := ls_setLs s1 hc1 (by decide) (by decide)
  split
  next hactive =>
    rw [servoActive, Bool.and_eq_true, decide_eq_true_eq, decide_eq_true_eq] at hactive
    exact ⟨hst, h6, h7, hactive⟩
  next =>
    have hmst : (s2.enterState n 4).mst n = 4 := by
      rw [State.mst, enterState_get rfl (by decide), get_set_self (by decide) _ _ _ (mechState_has hn)]
      rfl
    rw [spinState_off (it_enterState _ _ _) (by decide), ls_off (it_enterState _ _ _) (by decide) (by decide), ls_off (it_enterState _ _ _) (by decide) (by decide),
      hmst]
    exact ⟨hst, h6, h7, by decide⟩

/-! ### A failed attempt (R143, R170) -/

/-- A fault either makes the mechanism safe, which releases its slot, or leaves what it does not record. -/
theorem fault_releases_or_keeps (s : State) {n : Nat} (code detail : Nat) (hn : n < 4096) (k : Nat) :
    (s.fault n code detail).holdsSlot n = false ∨ (s.fault n code detail).get .MECH_SPIN_STAT_TRIES k = s.get .MECH_SPIN_STAT_TRIES k := by
  unfold State.fault
  extract_lets st c s1 t s2
  have h1 : s1.get .MECH_SPIN_STAT_TRIES k = s.get .MECH_SPIN_STAT_TRIES k := get_off (it_recordFault _ _ _ _) (by decide)
  split
  · exact Or.inr rfl
  split
  · exact Or.inr h1
  split
  · refine Or.inr (Eq.trans ?_ h1)
    simp only [s2]
    split
    · exact get_off (it_clearDisc _ _) (by decide)
    · rfl
  · exact Or.inl (holdsSlot_makeSafe s2 t _ hn)

theorem issueStop_tries (s : State) (n k : Nat) : (s.issueStop n).get .MECH_SPIN_STAT_TRIES k = s.get .MECH_SPIN_STAT_TRIES k := by
  unfold State.issueStop
  extract_lets s1 s2 st r s3 s4
  have h1 : s1.get .MECH_SPIN_STAT_TRIES k = s.get .MECH_SPIN_STAT_TRIES k :=
    (get_off (it_openLoops _ _ _) (by decide)).trans (get_off (it_endSeek s n) (by decide))
  split
  · exact (enterSpin_keeps rfl (by decide) _ n 8 k).trans h1
  · have h3 : s3.get .MECH_SPIN_STAT_TRIES k = s.get .MECH_SPIN_STAT_TRIES k := by
      rw [get_set_otherField (f := .MECH_SPIN_STAT_OBS_LOCK) (g := .MECH_SPIN_STAT_TRIES) rfl (by decide) (by decide), enterSpin_keeps rfl (by decide),
        get_off (it_openLoops _ _ _) (by decide)]
      exact h1
    have h4 : s4.get .MECH_SPIN_STAT_TRIES k = s3.get .MECH_SPIN_STAT_TRIES k := get_off (it_setIf (s3.modMech n _) _ _ _ _) (by decide)
    exact (get_off (it_endSpinDown s4 n) (by decide +kernel)).trans (h4.trans h3)

/-- The loops open on a lost focus; the tries stay, unless the loss is a fault that releases the slot. -/
theorem focusLoss_tries (s : State) {n : Nat} (hn : n < 4096) (k : Nat) :
    (s.focusLoss n).holdsSlot n = false ∨ (s.focusLoss n).get .MECH_SPIN_STAT_TRIES k = s.get .MECH_SPIN_STAT_TRIES k := by
  unfold State.focusLoss
  extract_lets v times s0 s1 busy s2 s3
  have h0 : s0.get .MECH_SPIN_STAT_TRIES k = s.get .MECH_SPIN_STAT_TRIES k := get_off (it_capHit _ n 2) (by decide)
  split
  · exact (fault_releases_or_keeps s0 0x60 0 hn k).imp_right fun h => h.trans h0
  split
  · exact Or.inr ((issueStop_tries _ n k).trans ((get_off (it_loseFocus s0 n) (by decide)).trans h0))
  · have h1 : s1.get .MECH_SPIN_STAT_TRIES k = s0.get .MECH_SPIN_STAT_TRIES k := by
      simp only [s1]
      split
      · exact get_off (it_dropSpinDown s0 n) (by decide)
      · rfl
    have h2 : s2.get .MECH_SPIN_STAT_TRIES k = s.get .MECH_SPIN_STAT_TRIES k := (get_off (it_loseFocus s1 n) (by decide)).trans (h1.trans h0)
    have h3 : s3.get .MECH_SPIN_STAT_TRIES k = s2.get .MECH_SPIN_STAT_TRIES k := by
      simp only [s3]
      split
      · rfl
      · exact get_off (it_beginMove s2 n 6) (by decide)
    exact Or.inr (h3.trans h2)

theorem focusLoss_asEx1 (s : State) (n : Nat) : (s.focusLoss n).asEx1 n = s.asEx1 n := asEx1_off (it_focusLoss s n) (by decide +kernel) n

end Sys2Proof.Proofs
end

section
/-! OBLIGATION O46. -/

namespace Sys2Proof.Proofs

open Sys2Proof.Machine Sys2Proof.Laws

/-! ### What the end of a command leaves -/

theorem spinState_noteEvents (s : State) (n : Nat) : s.noteEvents.spinState n = s.spinState n := spinState_off (it_noteEvents s) (by decide) n

theorem ls_noteEvents (s : State) (n l : Nat) : s.noteEvents.ls n l = s.ls n l := ls_off (it_noteEvents s) (by decide) (by decide) n l

theorem sx_noteEvents (s : State) (n : Nat) : s.noteEvents.sx n = s.sx n := sx_off (it_noteEvents s) (by decide) n

/-- A spindle state that has lasted its time, on a mechanism that holds a slot. -/
theorem spinFor_of {s : State} {n st k : Nat} (hslot : s.holdsSlot n = true) (hst : s.spinState n = st) (hdue : (s.sx n).spin.stateAt + ms k ≤ s.now) :
    s.spinFor n st k = true := by
  rw [State.spinFor, hslot, hst, decide_eq_true hdue, beq_self_eq_true]
  rfl

variable {mn : Mn} {s : State}

/-! ### The start (R72, R166, R167) -/

theorem spinStart_starts (hslot : s.holdsSlot mn = true) (hfirst : (s.sx mn).first = true) (hgrant : (s.grants mn).spinup.isSome = true)
    (hnew : (s.sx mn).spin.startAt = none) : Completes (.spinStart mn) s fun t => t.spinState mn = (if s.asEx1 mn = true then 0xB else 1) ∧
      t.get .MECH_SPIN_STAT_TRIES mn = 0 ∧ (t.sx mn).spin.startAt = some s.now := by
  have he : exec (.spinStart mn) s = fin ((((s.startSequence mn).set .MECH_SPIN_STAT_TRIES mn 0).modSpin mn fun p => { p with startAt := some s.now, spinupNs := 0 }).modServo mn
      fun v => { v with addr := none, addrDone := false }) := by
    refine if_neg ?_
    simp [hslot, hfirst, hnew, Option.isSome_iff_ne_none.mp hgrant]
  refine completes_fin he ⟨?_, ?_, ?_⟩
  · refine (spinState_noteEvents _ mn).trans (Eq.trans ?_ (spinState_startSequence s mn.isLt))
    exact get_set_otherField (f := .MECH_SPIN_STAT_TRIES) (g := .MECH_SPIN_STAT_SPIN_STATE) rfl (by decide) (by decide) _ _ _ _
  · rw [get_off (it_noteEvents _) (by decide)]
    exact get_set_self (f := .MECH_SPIN_STAT_TRIES) (by decide) _ _ _ (spinStat_has mn.isLt)
  · rw [sx_noteEvents, sx_modServo_same, State.modSpin, sx_modServo_same]

/-! ### SENSE (R166, R168) -/

/-- The speed and the direction that SENSE found are shown. -/
def sensed (s : State) (n : Nat) : State :=
  (s.set .MECH_SPIN_STAT_REVERSE n (b2n (decide (senseRate (s.sx n).spin.sense < 0)))).set .MECH_STATE_TURNING n
    (b2n (decide (300 ≤ (s.sx n).spin.sense.mag / max 1 (keOf (s.lx n 7).active))))

theorem sensed_reverse (s : State) {n : Nat} (hn : n < 4096) :
    (sensed s n).get .MECH_SPIN_STAT_REVERSE n = b2n (decide (senseRate (s.sx n).spin.sense < 0)) := by
  rw [sensed, get_set_disj (by decide), get_set_self (by decide) _ _ _ (spinStat_has hn)]
  cases decide (senseRate (s.sx n).spin.sense < 0) <;> rfl

theorem sensed_turning (s : State) {n : Nat} (hn : n < 4096) :
    (sensed s n).get .MECH_STATE_TURNING n = b2n (decide (300 ≤ (s.sx n).spin.sense.mag / max 1 (keOf (s.lx n 7).active))) := by
  rw [sensed, get_set_self (by decide) _ _ _ (mechState_has hn)]
  cases decide (300 ≤ (s.sx n).spin.sense.mag / max 1 (keOf (s.lx n 7).active)) <;> rfl

theorem on_b2n {f : Fld} {n : Nat} {t : State} {b : Bool} (h : t.get f n = b2n b) : t.on f n = b := by
  rw [State.on, h]
  cases b <;> rfl

theorem clusterOf_sensed (s : State) (n : Nat) : (sensed s n).clusterOf n = s.clusterOf n :=
  (clusterOf_off (it_set (s.set .MECH_SPIN_STAT_REVERSE n _) .MECH_STATE_TURNING n _) (by decide) n).1.trans
    (clusterOf_off (it_set s .MECH_SPIN_STAT_REVERSE n _) (by decide) n).1

/-- A spindle that turns forward is caught (R168). -/
def caught (s : State) (n angle : Nat) (rate : Int) : State :=
  (((((s.bump .MECH_START_CNT_CATCHES n).enterSpin n 2).setLs n 7 1).modSpin n fun p =>
    { p with theta := (angle + 3 * 2 ^ 30) % 2 ^ 32, omega := rate, intD := 0, intQ := 0 }).modMech n fun m => { m with driveStop := none })

theorem caught_spec (s : State) {n : Nat} (angle : Nat) (rate : Int) (hn : n < 4096) (hc : s.clusterOf n < 17) :
    (caught s n angle rate).spinState n = 2 ∧ (caught s n angle rate).ls n 7 = 1 ∧ ((caught s n angle rate).sx n).spin.omega = rate ∧
      ((caught s n angle rate).sx n).spin.theta = (angle + 3 * 2 ^ 30) % 2 ^ 32 := by
  have hspin : ((caught s n angle rate).sx n).spin.omega = rate ∧ ((caught s n angle rate).sx n).spin.theta = (angle + 3 * 2 ^ 30) % 2 ^ 32 := by
    rw [caught, sx_off (it_modMech _ _ _) (by decide), State.modSpin, sx_modServo_same]
    exact ⟨rfl, rfl⟩
  have hcl : ((s.bump .MECH_START_CNT_CATCHES n).enterSpin n 2).clusterOf n < 17 := by
    rw [(clusterOf_off (it_enterSpin _ _ _) (by decide) n).1, (clusterOf_off (it_bump _ _ _) (by decide) n).1]
    exact hc
  refine ⟨?_, ls_setLs _ hcl (by decide) (by decide), hspin⟩
  exact (spinState_off (it_setLs _ n 7 1) (by decide) n).trans (spinState_enterSpin _ hn (by decide))

theorem caught_shows (s : State) (n angle : Nat) (rate : Int) : (caught s n angle rate).get .MECH_SPIN_STAT_REVERSE n = s.get .MECH_SPIN_STAT_REVERSE n ∧
    (caught s n angle rate).get .MECH_STATE_TURNING n = s.get .MECH_STATE_TURNING n := by
  have hbump : ∀ g : Fld, g.reg = .MECH_SPIN_STAT ∨ g.reg = .MECH_STATE → (s.bump .MECH_START_CNT_CATCHES n).get g n = s.get g n := fun g hg =>
    get_off (it_bump s .MECH_START_CNT_CATCHES n) (by rcases hg with h | h <;> rw [h] <;> decide)
  constructor
  · exact (get_off (it_setLs _ n 7 1) (by decide)).trans ((enterSpin_keeps rfl (by decide) _ n 2 n).trans (hbump _ (Or.inl rfl)))
  · exact (get_off (it_setLs _ n 7 1) (by decide)).trans ((get_off (it_enterSpin _ n 2) (by decide)).trans (hbump _ (Or.inr rfl)))

/-- What SENSE does: CATCH, SHORT, or the start from rest, which skips REST where the spindle has coasted out. -/
def senseEnds (s : State) (n : Nat) : State :=
  let z := (s.sx n).spin.sense
  if 300 ≤ z.mag / max 1 (keOf (s.lx n 7).active) ∧ 0 ≤ senseRate z then caught (sensed s n) n z.angle (senseRate z)
  else if 300 ≤ z.mag / max 1 (keOf (s.lx n 7).active) then (sensed s n).enterSpin n 9
  else (sensed s n).startFromRest n (match (s.mx n).driveStop with
    | some t => decide (t + ms (coastMs (s.sx n).dr) ≤ s.now)
    | none => false)

/-- SENSE leaves what it showed. -/
theorem senseEnds_shows (s : State) (n : Nat) : (senseEnds s n).get .MECH_SPIN_STAT_REVERSE n = (sensed s n).get .MECH_SPIN_STAT_REVERSE n ∧
    (senseEnds s n).get .MECH_STATE_TURNING n = (sensed s n).get .MECH_STATE_TURNING n := by
  unfold senseEnds
  extract_lets z
  split
  · exact caught_shows _ _ _ _
  split
  · exact ⟨enterSpin_keeps rfl (by decide) _ _ _ _, get_off (it_enterSpin _ n 9) (by decide)⟩
  · exact ⟨startFromRest_reverse _ _ _ _, get_off (it_startFromRest _ n _) (by decide)⟩

theorem senseDone_leads (hst : s.spinState mn = 1) (hslot : s.holdsSlot mn = true) (hc : s.clusterOf mn < 17)
    (hdue : (s.sx mn).spin.stateAt + ms (senseMs (s.sx mn).dr) ≤ s.now) (hfrom : (s.sx mn).spin.sense.from_.isSome = true) :
    Completes (.senseDone mn) s fun t =>
      let z := (s.sx mn).spin.sense
      let rate := senseRate z
      let rpm := z.mag / max 1 (keOf (s.lx mn 7).active)
      let rested := ∃ d, (s.mx mn).driveStop = some d ∧ d + ms (coastMs (s.sx mn).dr) ≤ s.now
      t.on .MECH_SPIN_STAT_REVERSE mn = decide (rate < 0) ∧ t.on .MECH_STATE_TURNING mn = decide (300 ≤ rpm) ∧
      (300 ≤ rpm → 0 ≤ rate → t.spinState mn = 2 ∧ t.ls mn 7 = 1 ∧ (t.sx mn).spin.omega = rate ∧ (t.sx mn).spin.theta = (z.angle + 3 * 2 ^ 30) % 2 ^ 32) ∧
      (300 ≤ rpm → rate < 0 → t.spinState mn = 9) ∧
      (rpm < 300 → (rested → t.spinState mn = 4 ∧ t.ls mn 7 = 1) ∧ (¬ rested → t.spinState mn = 3)) := by
  have he : exec (.senseDone mn) s = fin (senseEnds s mn) := by
    have hready : (!s.spinFor mn 1 (senseMs (s.sx mn).dr) || (s.sx mn).spin.sense.from_.isNone) = false := by
      rw [spinFor_of hslot hst hdue, ← Option.not_isSome, hfrom]
      rfl
    refine (if_neg (by rw [hready]; decide)).trans ?_
    rw [senseEnds, apply_ite fin, apply_ite fin]
    rfl
  have hcs : (sensed s mn).clusterOf mn < 17 := clusterOf_sensed s mn ▸ hc
  obtain ⟨hrev, hturn⟩ := senseEnds_shows s mn
  refine completes_fin he ⟨?_, ?_, fun hrpm hrate => ?_, fun hrpm hrate => ?_, fun hrpm => ⟨fun hrest => ?_, fun hrest => ?_⟩⟩
  · rw [on_off (it_noteEvents _) (by decide)]
    exact on_b2n (hrev.trans (sensed_reverse s mn.isLt))
  · rw [on_off (it_noteEvents _) (by decide)]
    exact on_b2n (hturn.trans (sensed_turning s mn.isLt))
  · rw [spinState_noteEvents, ls_noteEvents, sx_noteEvents, senseEnds, if_pos ⟨hrpm, hrate⟩]
    exact caught_spec _ _ _ mn.isLt hcs
  · rw [spinState_noteEvents, senseEnds, if_neg fun h => absurd h.2 (not_le.mpr hrate), if_pos hrpm]
    exact spinState_enterSpin _ mn.isLt (by decide)
  · obtain ⟨d, hd, hdue⟩ := hrest
    rw [spinState_noteEvents, ls_noteEvents, senseEnds, if_neg fun h => absurd h.1 (not_le.mpr hrpm), if_neg (not_le.mpr hrpm), hd]
    show ((sensed s mn).startFromRest mn (decide _)).spinState mn = 4 ∧ ((sensed s mn).startFromRest mn (decide _)).ls mn 7 = 1
    rw [decide_eq_true hdue]
    exact startFromRest_aligns _ mn.isLt hcs
  · rw [spinState_noteEvents, senseEnds, if_neg fun h => absurd h.1 (not_le.mpr hrpm), if_neg (not_le.mpr hrpm)]
    split
    next d hd =>
      rw [decide_eq_false fun hdue => hrest ⟨d, hd, hdue⟩]
      exact startFromRest_rests _ mn.isLt
    next => exact startFromRest_rests _ mn.isLt

theorem reverseShortDone_senses (hstart : s.starting mn = true) (hst : s.spinState mn = 9) (hdue : (s.sx mn).spin.stateAt + ms 16 ≤ s.now) :
    Completes (.reverseShortDone mn) s fun t => t.spinState mn = 1 := by
  have hslot : s.holdsSlot mn = true := by
    rw [State.starting, Bool.and_eq_true, Bool.and_eq_true] at hstart
    exact hstart.1.1
  have he : exec (.reverseShortDone mn) s = fin ((s.enterSpin mn 1).modSpin mn fun p => { p with sense := {} }) :=
    if_pos (by rw [hstart, spinFor_of hslot hst hdue]; rfl)
  refine completes_fin he ?_
  rw [spinState_noteEvents]
  exact spinState_enterSpin s mn.isLt (by decide)

/-! ### WAIT, CATCH, REST, ALIGN, RAMP (R167 to R169) -/

theorem coastWaitDone_rests (hst : s.spinState mn = 0xB) (hslot : s.holdsSlot mn = true)
    (hdue : ((s.mx mn).driveStop).getD (s.mx mn).attachedAt + ms (coastMs (s.sx mn).dr) ≤ s.now) : Completes (.coastWaitDone mn) s fun t =>
      t.spinState mn = 3 ∧ t.on .MECH_STATE_TURNING mn = false ∧ (t.sx mn).spin.startAt = some s.now := by
  have he : exec (.coastWaitDone mn) s = fin (((s.set .MECH_STATE_TURNING mn 0).modSpin mn fun p => { p with startAt := some s.now }).startFromRest mn false) :=
    if_pos (by rw [hst, hslot, decide_eq_true hdue]; rfl)
  refine completes_fin he ⟨?_, ?_, ?_⟩
  · rw [spinState_noteEvents]
    exact startFromRest_rests _ mn.isLt
  · rw [on_off (it_noteEvents _) (by decide), on_off (it_startFromRest _ _ _) (by decide)]
    exact on_eq_false_of_get (get_set_self (f := .MECH_STATE_TURNING) (by decide) _ _ _ (mechState_has mn.isLt))
  · rw [sx_noteEvents, startAt_startFromRest, State.modSpin, sx_modServo_same]

theorem catchDone_slews (hslot : s.holdsSlot mn = true) (hc : s.clusterOf mn < 17) (hst : s.spinState mn = 2) (hcount : 8 ≤ (s.sx mn).spin.count) :
    Completes (.catchDone mn) s fun t => t.spinState mn = 7 ∧ t.ls mn 6 = 3 ∧ t.ls mn 7 = 1 ∧
      (t.sx mn).spin.ref = s.get .MECH_SPEED_MEAS mn * 16384 ∧ 4 ≤ t.mst mn ∧ t.mst mn ≤ 7 := by
  have he : exec (.catchDone mn) s = fin ((s.spinClosed mn (s.get .MECH_SPEED_MEAS mn / 4)).modSpin mn fun p => { p with ref := s.get .MECH_SPEED_MEAS mn * 16384 }) :=
    if_pos (by rw [hst, hslot, decide_eq_true hcount]; rfl)
  obtain ⟨h7, hl6, hl7, hlo, hhi⟩ := spinClosed_slews s (s.get .MECH_SPEED_MEAS mn / 4) mn.isLt hc
  refine completes_fin he ?_
  rw [spinState_noteEvents, ls_noteEvents, ls_noteEvents, sx_noteEvents, mst_off (it_noteEvents _) (by decide)]
  refine ⟨h7, hl6, hl7, ?_, hlo, hhi⟩
  rw [State.modSpin, sx_modServo_same]

theorem restDone_aligns (hslot : s.holdsSlot mn = true) (hc : s.clusterOf mn < 17) (hst : s.spinState mn = 3)
    (hdue : (s.sx mn).spin.stateAt + ms (restMs (s.sx mn).dr) ≤ s.now) : Completes (.restDone mn) s fun t => t.spinState mn = 4 ∧ t.ls mn 7 = 1 := by
  have he : exec (.restDone mn) s = fin ((s.enterSpin mn 4).zeroAngle mn) := if_pos (spinFor_of hslot hst hdue)
  refine completes_fin he ?_
  rw [spinState_noteEvents, ls_noteEvents]
  exact align_entered s mn.isLt hc

theorem alignDone_ramps (hslot : s.holdsSlot mn = true) (hst : s.spinState mn = 4) (hdue : (s.sx mn).spin.stateAt + ms (alignMs (s.sx mn).dr) ≤ s.now) :
    Completes (.alignDone mn) s fun t => t.spinState mn = 5 ∧ (t.sx mn).spin.forcedSpeed = 0 := by
  have he : exec (.alignDone mn) s = fin ((s.enterSpin mn 5).modSpin mn fun p => { p with forced := 0, forcedSpeed := 0, obsTest := false }) :=
    if_pos (spinFor_of hslot hst hdue)
  refine completes_fin he ?_
  rw [spinState_noteEvents, sx_noteEvents, State.modSpin, sx_modServo_same]
  exact ⟨spinState_enterSpin s mn.isLt (by decide), rfl⟩

theorem observerHandover_tests (hslot : s.holdsSlot mn = true) (hst : s.spinState mn = 5) (hno : (s.sx mn).spin.obsTest = false)
    (hspeed : elecOf (s.lx mn 7).active ((olRpm (s.sx mn).dr : Int) * 65536) ≤ (s.sx mn).spin.forcedSpeed) :
    Completes (.observerHandover mn) s fun t => (t.sx mn).spin.obsTest = true ∧ t.spinState mn = 5 := by
  have he : exec (.observerHandover mn) s = fin (s.modSpin mn fun p => { p with obsTest := true, obsAt := s.now, count := 0 }) :=
    if_pos (by rw [hst, hslot, hno, decide_eq_true hspeed]; rfl)
  refine completes_fin he ?_
  rw [spinState_noteEvents, sx_noteEvents, State.modSpin, sx_modServo_same]
  exact ⟨rfl, hst⟩

end Sys2Proof.Proofs
end

section
/-! OBLIGATION O46: failed attempts, and the speed reached. -/

namespace Sys2Proof.Proofs

open Sys2Proof.Machine Sys2Proof.Laws

/-! ### Faults of a start (R167, R170) -/

theorem recordFault_detail (s : State) {n detail : Nat} (code : Nat) (hn : n < 4096) (hd : detail < 16) :
    (s.recordFault n code detail).get .MECH_FAULT_DETAIL n = detail := by
  unfold State.recordFault
  extract_lets before now win times s1 s2 s3
  rw [get_off (it_logEntry _ _) (by decide), get_off (it_bump _ _ _) (by decide)]
  simp (disch := with_unfolding_all exact id rfl) only [s2, State.set64, get_set_disj, get_set_field]
  rw [get_set_self (by decide) _ _ _ (mechReg_has (by decide) hn)]
  exact Nat.mod_eq_of_lt hd

/-- The action of a fault leaves what the fault recorded. -/
theorem fault_recorded {f : Fld} (hf : f.reg = .MECH_FAULT) {s : State} {n code : Nat} (detail : Nat) (h0 : code ≠ 0) (hst : s.mst n ∉ [0, 8, 9]) :
    (s.fault n code detail).get f n = (s.recordFault n code detail).get f n := by
  simp only [List.mem_cons, List.not_mem_nil, or_false, not_or] at hst
  obtain ⟨hst0, hst8, hst9⟩ := hst
  unfold State.fault
  extract_lets st c s1 t s2
  rw [if_neg hst0, if_neg hst9, if_neg fun h => hst8 h.1, get_off (it_makeSafe _ _ _ _) (hf ▸ by decide +kernel)]
  have hs1 : s1 = s.recordFault n code detail := congrArg (s.recordFault n · detail) (if_neg h0)
  rw [← hs1]
  simp only [s2]
  split
  · exact get_off (it_clearDisc _ _) (hf ▸ by decide)
  · rfl

section
variable {mn : Mn} {s : State}

theorem spinupTimeout_faults (hstart : s.starting mn = true) (hwait : s.spinState mn ≠ 0xB) (hlate : ms (spinupMs (s.sx mn).dr) ≤ (s.sx mn).spin.spinupNs)
    (hst : s.mst mn ∉ [0, 8, 9]) : Completes (.spinupTimeout mn) s fun t => FaultTaken mn 0x60 t ∧ t.get .MECH_FAULT_DETAIL mn = 0xF := by
  have he : exec (.spinupTimeout mn) s = fin (s.fault mn 0x60 0xF) :=
    if_pos (by rw [hstart, bne_iff_ne.mpr hwait, decide_eq_true hlate]; rfl)
  refine completes_fin he ⟨faultTaken_noteEvents (faultTaken_fault 0xF mn.isLt (by decide) (by decide) hst), ?_⟩
  rw [get_off (it_noteEvents _) (by decide), fault_recorded rfl 0xF (by decide) hst]
  exact recordFault_detail s 0x60 mn.isLt (by decide)

end

/-! ### A failed attempt (R143, R170) -/

/-- The tries counted with a failed attempt: anew after the speed was once reached. -/
def triesNext (s : State) (n : Nat) : Nat := if (s.sx n).spin.reached = true then 0 else s.get .MECH_SPIN_STAT_TRIES n + 1

/-- A failed attempt is counted. -/
def attemptCounted (s : State) (n : Nat) : State :=
  ((s.set .MECH_SPIN_STAT_TRIES n (triesNext s n)).set .MECH_SPIN_STAT_OBS_LOCK n 0).modSpin n fun p =>
    { p with spinupNs := if (s.sx n).spin.reached = true then 0 else p.spinupNs }

theorem attemptCounted_tries (s : State) {n : Nat} (hn : n < 4096) : (attemptCounted s n).get .MECH_SPIN_STAT_TRIES n = triesNext s n % 16 := by
  show ((s.set .MECH_SPIN_STAT_TRIES n (triesNext s n)).set .MECH_SPIN_STAT_OBS_LOCK n 0).get .MECH_SPIN_STAT_TRIES n = _
  rw [get_set_otherField (f := .MECH_SPIN_STAT_OBS_LOCK) (g := .MECH_SPIN_STAT_TRIES) rfl (by decide) (by decide), get_set_self (by decide) _ _ _ (spinStat_has hn)]
  rfl

theorem mst_attemptCounted (s : State) (n : Nat) : (attemptCounted s n).mst n = s.mst n :=
  (mst_off (it_set (s.set .MECH_SPIN_STAT_TRIES n _) .MECH_SPIN_STAT_OBS_LOCK n 0) (by decide) n).trans (mst_off (it_set s .MECH_SPIN_STAT_TRIES n _) (by decide) n)

theorem asEx1_attemptCounted (s : State) (n : Nat) : (attemptCounted s n).asEx1 n = s.asEx1 n :=
  (asEx1_off (it_set (s.set .MECH_SPIN_STAT_TRIES n _) .MECH_SPIN_STAT_OBS_LOCK n 0) (by decide) n).trans
    (asEx1_off (it_set s .MECH_SPIN_STAT_TRIES n _) (by decide) n)

/-- The phases float; a locked focus counts as lost, one that is being pulled in is given up. -/
def attemptDropped (s : State) (n : Nat) : State :=
  let s1 := (attemptCounted s n).openLoops n [6, 7]
  if s.ls n 0 ≠ 0 then s1.focusLoss n else if (s.sx n).seq.step ≠ 0 then s1.loseFocus n else s1.openLoops n [5]

theorem attemptDropped_tries (s : State) {n : Nat} (hn : n < 4096) :
    (attemptDropped s n).holdsSlot n = false ∨ (attemptDropped s n).get .MECH_SPIN_STAT_TRIES n = triesNext s n % 16 := by
  unfold attemptDropped
  extract_lets s1
  have h1 : s1.get .MECH_SPIN_STAT_TRIES n = triesNext s n % 16 := (get_off (it_openLoops (attemptCounted s n) n _) (by decide)).trans (attemptCounted_tries s hn)
  split
  · exact (focusLoss_tries s1 hn n).imp_right fun h => h.trans h1
  split
  · exact Or.inr ((get_off (it_loseFocus s1 n) (by decide)).trans h1)
  · exact Or.inr ((get_off (it_openLoops s1 n _) (by decide)).trans h1)

theorem asEx1_attemptDropped (s : State) (n : Nat) : (attemptDropped s n).asEx1 n = s.asEx1 n := by
  unfold attemptDropped
  extract_lets s1
  have h1 : s1.asEx1 n = s.asEx1 n := (asEx1_off (it_openLoops (attemptCounted s n) n _) (by decide) n).trans (asEx1_attemptCounted s n)
  split
  · exact (focusLoss_asEx1 s1 n).trans h1
  split
  · exact (asEx1_off (it_loseFocus s1 n) (by decide) n).trans h1
  · exact (asEx1_off (it_openLoops s1 n _) (by decide) n).trans h1

/-- A new attempt begins; the drive of an EX1 mechanism stops with the failed one. -/
def attemptBegun (s : State) (n : Nat) (ex1 : Bool) (now : Nat) : State :=
  if ex1 then ((s.startSequence n).modMech n fun m => { m with driveStop := some now }).set .MECH_STATE_TURNING n 1 else s.startSequence n

theorem attemptBegun_spec (s : State) {n : Nat} (ex1 : Bool) (now : Nat) (hn : n < 4096) : (attemptBegun s n ex1 now).spinState n = (if s.asEx1 n = true then 0xB else 1) ∧
    (attemptBegun s n ex1 now).get .MECH_SPIN_STAT_TRIES n = s.get .MECH_SPIN_STAT_TRIES n := by
  have hsame : ∀ g : Fld, g.reg = .MECH_SPIN_STAT → (attemptBegun s n ex1 now).get g n = (s.startSequence n).get g n := fun g hg => by
    unfold attemptBegun
    split
    · exact get_off (it_set ((s.startSequence n).modMech n fun m => { m with driveStop := some now }) .MECH_STATE_TURNING n 1) (hg ▸ by decide)
    · rfl
  exact ⟨(hsame _ rfl).trans (spinState_startSequence s hn), (hsame _ rfl).trans (startSequence_tries s n n)⟩

theorem spinFailed_faults {s : State} {n : Nat} (hn : n < 4096) (hk : startTries (s.sx n).dr ≤ triesNext s n) (hst : s.mst n ∉ [0, 8, 9]) :
    FaultTaken n 0x60 (s.spinFailed n) := by
  have he : s.spinFailed n = (attemptCounted s n).fault n 0x60 0xF := if_pos hk
  rw [he]
  exact faultTaken_fault 0xF hn (by decide) (by decide) (by rw [mst_attemptCounted]; exact hst)

/-- The new attempt pulls in again, to the layer that was in focus or that was pulled in to, once its speed is reached. -/
def attemptSequence (s t : State) (n : Nat) : State :=
  (t.modSeq n fun _ => { ({} : SeqX) with target := if s.ls n 0 ≠ 0 then (s.sx n).layer else (s.sx n).seq.target,
                                          afterJump := s.ls n 0 = 0 && (s.sx n).seq.afterJump }).modProf n fun p => { p with aligned := false }

theorem spinFailed_begins {s : State} {n : Nat} (hk : triesNext s n < startTries (s.sx n).dr)
    (hgo : ¬ (!(attemptDropped s n).holdsSlot n || ((attemptDropped s n).mx n).stopIssued) = true) :
    s.spinFailed n = attemptSequence s (attemptBegun (attemptDropped s n) n (s.asEx1 n) s.now) n := (if_neg (Nat.not_le.mpr hk)).trans (if_neg hgo)

theorem spinFailed_restarts {s : State} {n : Nat} (hn : n < 4096) (hk : triesNext s n < startTries (s.sx n).dr) (hslot : (s.spinFailed n).holdsSlot n = true)
    (hstop : ((s.spinFailed n).mx n).stopIssued = false) : (s.spinFailed n).spinState n = (if s.asEx1 n = true then 0xB else 1) ∧
      (s.spinFailed n).get .MECH_SPIN_STAT_TRIES n = triesNext s n % 16 := by
  by_cases hgo : (!(attemptDropped s n).holdsSlot n || ((attemptDropped s n).mx n).stopIssued) = true
  · have he : s.spinFailed n = attemptDropped s n := (if_neg (Nat.not_le.mpr hk)).trans (if_pos hgo)
    rw [← he, hslot, hstop] at hgo
    contradiction
  · have hboth : ∀ f : Fld, (s.spinFailed n).get f n = (attemptBegun (attemptDropped s n) n (s.asEx1 n) s.now).get f n := fun f => by
      rw [spinFailed_begins hk hgo]
      rfl
    have hheld : (attemptDropped s n).holdsSlot n = true := by
      cases h : (attemptDropped s n).holdsSlot n with
      | true => rfl
      | false => exact absurd (by rw [h]; rfl) hgo
    obtain ⟨hspin, htries⟩ := attemptBegun_spec (attemptDropped s n) (s.asEx1 n) s.now hn
    refine ⟨(hboth _).trans (hspin.trans (by rw [asEx1_attemptDropped])), (hboth _).trans (htries.trans ?_)⟩
    exact (attemptDropped_tries s hn).resolve_left fun h => by rw [hheld] at h; contradiction

section
variable {mn : Mn} {s : State}

theorem observerTimeout_counts (hslot : s.holdsSlot mn = true) (hst : s.spinState mn = 5) (htest : (s.sx mn).spin.obsTest = true)
    (hlate : (s.sx mn).spin.obsAt + ms 200 ≤ s.now) : Completes (.observerTimeout mn) s fun t =>
      (startTries (s.sx mn).dr ≤ triesNext s mn → s.mst mn ∉ [0, 8, 9] → FaultTaken mn 0x60 t) ∧
      (triesNext s mn < startTries (s.sx mn).dr → t.holdsSlot mn = true → (t.mx mn).stopIssued = false →
        t.spinState mn = (if s.asEx1 mn = true then 0xB else 1) ∧ t.get .MECH_SPIN_STAT_TRIES mn = triesNext s mn % 16) := by
  have he : exec (.observerTimeout mn) s = fin (s.spinFailed mn) := if_pos (by rw [hst, hslot, htest, decide_eq_true hlate]; rfl)
  refine completes_fin he ⟨fun hk hmst => faultTaken_noteEvents (spinFailed_faults mn.isLt hk hmst), fun hk hheld hgo => ?_⟩
  rw [holdsSlot_off (it_noteEvents _) (by decide)] at hheld
  rw [mx_off (it_noteEvents _) (by decide)] at hgo
  rw [spinState_noteEvents, get_off (it_noteEvents _) (by decide)]
  exact spinFailed_restarts mn.isLt hk hheld hgo

end

end Sys2Proof.Proofs
end

section
/-! OBLIGATION O46: the speed reached, and the whole. -/

namespace Sys2Proof.Proofs

open Sys2Proof.Machine Sys2Proof.Laws

/-! ### The spindle's record through a pull-in -/

theorem spin_modServo (s : State) (n : Nat) {f : ServoX → ServoX} (h : ∀ v, (f v).spin = v.spin := by intro _; rfl) : ((s.modServo n f).sx n).spin = (s.sx n).spin := by
  rw [sx_modServo_same, h]

theorem sx_set2 (s : State) (f : Fld) (i j v n : Nat) : (s.set2 f i j v).sx n = s.sx n := by
  rw [State.sx, set2_servo]
  rfl

theorem spin_off {s t : State} {l : List Spot} (it : ∀ {q : Item}, q.off l = true → itm q t = itm q s) (h : (Item.part .servo).off l = true) (n : Nat) :
    (t.sx n).spin = (s.sx n).spin := congrArg ServoX.spin (sx_off it h n)

theorem spin_loopStatEnd (s : State) (n : Nat) (f : Fld) (v k : Nat) : ((s.loopStatEnd n fun t => t.set0 f v).sx k).spin = (s.sx k).spin := by
  unfold State.loopStatEnd
  split
  · exact congrArg ServoX.spin ((sx_set2 _ f 0 0 v k).trans (sx_set2 s .CIRQ_LOOP_STAT_BUSY 0 0 0 k))
  · rfl

theorem spin_abandonSwap (s : State) (n cause : Nat) : ((s.abandonSwap n cause).sx n).spin = (s.sx n).spin := by
  unfold State.abandonSwap
  split
  · rfl
  · extract_lets c s1 s2
    have h1 : (s1.sx n).spin = (s.sx n).spin :=
      forEach_keeps (P := fun t => (t.sx n).spin = (s.sx n).spin) _ _ s (fun l _ t ht => by
        split
        · exact (spin_off (it_setLs t n l 1) (by decide) n).trans ht
        · exact ht) rfl
    have h2 : (s2.sx n).spin = (s1.sx n).spin := (spin_off (it_set2 _ _ _ _ _) (by decide) n).trans (spin_modServo s1 n)
    rw [spin_off (it_swapAbandoned _ _ _ _) (by decide), spin_loopStatEnd, h2, h1]

theorem spin_abandonSoft (s : State) (n : Nat) : ((s.abandonSoft n).sx n).spin = (s.sx n).spin := by
  unfold State.abandonSoft
  extract_lets ls mask s1
  split
  · rfl
  · have hloop (t : State) (l : Nat) : (((t.modLoop n l fun x => { x with active := x.shadow, shadow := x.active }).setLs n l 1).sx n).spin = (t.sx n).spin :=
      (spin_off (it_setLs _ n l 1) (by decide) n).trans (spin_modServo t n)
    have h1 : (s1.sx n).spin = (s.sx n).spin := (spin_modServo _ n).trans
      (forEach_keeps (P := fun t => (t.sx n).spin = (s.sx n).spin) _ ls s (fun l _ t ht => (hloop t l).trans ht) rfl)
    rw [spin_off (it_swapAbandoned _ _ _ _) (by decide), spin_off (it_setIf _ _ _ _ _) (by decide), h1]

theorem spin_openLoop (s : State) (n l : Nat) : ((s.openLoop n l).sx n).spin = (s.sx n).spin :=
  (spin_off (it_setLs _ n l 0) (by decide) n).trans (spin_modServo s n)

theorem spin_openLoops (s : State) (n : Nat) (ls : List Nat) : ((s.openLoops n ls).sx n).spin = (s.sx n).spin := by
  unfold State.openLoops
  extract_lets s1 s2
  have h2 : (s2.sx n).spin = (s.sx n).spin :=
    forEach_keeps (P := fun t => (t.sx n).spin = (s.sx n).spin) _ ls s1 (fun l _ t ht => (spin_openLoop t n l).trans ht)
      ((spin_abandonSoft _ n).trans (spin_abandonSwap s n 3))
  split
  · exact (spin_off (it_endInjOf s2 n 3) (by decide) n).trans h2
  · exact h2

theorem spin_startAttempt (s : State) (n : Nat) : ((s.startAttempt n).sx n).spin = (s.sx n).spin := by
  unfold State.startAttempt
  extract_lets v s1 s2 s3
  have h2 : (s2.sx n).spin = (s.sx n).spin :=
    (spin_modServo _ n).trans ((spin_modServo _ n).trans ((spin_modServo s1 n).trans (spin_openLoops s n _)))
  have h3 : (s3.sx n).spin = (s2.sx n).spin := (spin_modServo _ n).trans (spin_modServo s2 n)
  exact (spin_modServo _ n).trans ((spin_modServo s3 n).trans (h3.trans h2))

theorem spin_startPullIn (s : State) (n target : Nat) (jump : Bool) : ((s.startPullIn n target jump).sx n).spin = (s.sx n).spin := by
  unfold State.startPullIn
  extract_lets s1 s2
  split
  · have h1 : (s1.sx n).spin = (s.sx n).spin := spin_modServo s n
    split
    · exact (spin_off (it_endMove s1 n _) (by decide) n).trans h1
    · exact h1
  · exact (spin_startAttempt s2 n).trans ((spin_modServo _ n).trans (spin_modServo s n))

theorem startPullIn_attempts {s : State} {n : Nat} (target : Nat) (jump : Bool) (h : s.on .MECH_STATE_SAFE_HOLD n = false) :
    ((s.startPullIn n target jump).sx n).seq.step = 1 := by
  rw [State.startPullIn, if_neg (by rw [h]; decide), State.startAttempt, State.modSeq, sx_modServo_same]

/-! ### The SPINUP part is returned (R72, R171) -/

/-- Mechanism n holds no SPINUP part, and no deferred request of it can give one. -/
structure SpinupGone (n : Nat) (t : State) : Prop where
  gone : (t.grants n).spinup = none
  quiet : ∀ q ∈ t.breath.reqs, q.cls = 1 ∨ q.who ≠ n

section
variable {n : Nat} {s : State}

theorem SpinupGone.of {t : State} (h : SpinupGone n s) (hreqs : ∀ r ∈ t.breath.reqs, r ∈ s.breath.reqs) (hg : t.grants n = s.grants n) : SpinupGone n t :=
  ⟨hg ▸ h.gone, fun r hr => h.quiet r (hreqs r hr)⟩

theorem SpinupGone.off {t : State} {f : List Spot} (it : ∀ {q : Item}, q.off f = true → itm q t = itm q s) (hf : (Item.part .breath).off f = true)
    (h : SpinupGone n s) : SpinupGone n t := by
  have hb := breath_off it hf
  exact h.of (fun _ hr => hb ▸ hr) (by rw [State.grants, hb]; rfl)

theorem SpinupGone.map {g : PowerReq → PowerReq} (hg : ∀ r, (g r).cls = r.cls ∧ (g r).who = r.who) {f : BreathState → BreathState}
    (hreqs : (f s.breath).reqs = s.breath.reqs.map g) (hgrants : (f s.breath).grants = s.breath.grants) (h : SpinupGone n s) : SpinupGone n (s.modBreath f) := by
  refine ⟨(congrArg (fun t => (tabGet t n {}).spinup) hgrants).trans h.gone, fun r hr => ?_⟩
  obtain ⟨q, hq, rfl⟩ := List.mem_map.mp (hreqs ▸ hr : r ∈ s.breath.reqs.map g)
  rw [(hg q).1, (hg q).2]
  exact h.quiet q hq

/-- A grant to another mechanism, or to a port, leaves the grants of this one. -/
theorem SpinupGone.makeGrant {r : PowerReq} (hr : r.cls = 1 ∨ r.who ≠ n) (h : SpinupGone n s) : SpinupGone n (s.makeGrant r) := by
  by_cases hc : r.cls = 1
  · rw [makeGrant_link s hc]
    exact .off (it_linkGranted _ _) (by decide) (h.of (fun _ hq => hq) rfl)
  · have hne : r.who ≠ n := hr.resolve_left hc
    unfold State.makeGrant
    extract_lets up s1
    have hup (f : Grants → Grants) : SpinupGone n (up f) := h.of (fun _ hq => hq) (tabGet_tabMod_ne s.breath.grants hne _ _ _)
    split
    · exact absurd ‹_› hc
    · exact hup _
    · exact hup _
    · exact hup _
    · refine .off (it_set _ _ _ _) (by decide) ?_
      exact (hup fun g => { g with spin := some r.spinPart, spinup := some (r.mw - r.spinPart), spinupAt := s.now, spinupLong := false }).of (fun _ hq => hq) rfl

theorem spinupGone_evalKept (n : Nat) : EvalKept (SpinupGone n) fun r => r.cls = 1 ∨ r.who ≠ n where
  set s f i v _ h := by
    have hb : (s.set f i v).breath = s.breath := set2_breath s f i 0 v
    exact h.of (fun r hr => hb ▸ hr) (by rw [State.grants, hb]; rfl)
  age _ g hg h := h.map hg rfl rfl
  grant s r hr h := by
    have h1 : SpinupGone n (s.modBreath fun b => { b with reqs := b.reqs.erase r }) := h.of (fun _ hq => List.mem_of_mem_erase hq) rfl
    exact h1.makeGrant hr
  reqs _ h := h.quiet

theorem SpinupGone.reevaluate (d : Nat) (h : SpinupGone n s) : SpinupGone n (s.reevaluate d) := (spinupGone_evalKept n).reevaluate d h

theorem SpinupGone.applyCfg (k : Nat) (h : SpinupGone n s) : SpinupGone n (s.applyCfg k) := by
  unfold State.applyCfg
  extract_lets v d s1
  split
  · exact h
  · have h0 : SpinupGone n (s.modMech k fun m => { m with cfgEff := v }) := h.off (it_modMech _ _ _) (by decide)
    have h1 : SpinupGone n s1 := h0.map (fun r => by split <;> exact ⟨rfl, rfl⟩) rfl rfl
    exact .off (it_noteSafeHold _ _) (by decide) (.off (it_watchSets _) (by decide) ((h1.reevaluate _).reevaluate _))

theorem SpinupGone.enterState (k st : Nat) (h : SpinupGone n s) : SpinupGone n (s.enterState k st) := by
  unfold State.enterState
  extract_lets sa s0 s1 s2
  have ha : SpinupGone n sa := by
    simp only [sa]
    split
    · exact h.off (it_modMech _ _ _) (by decide)
    · exact h
  have h1 : SpinupGone n s1 := .off (it_noteSafeHold _ _) (by decide) (.off (it_set _ _ _ _) (by decide) (ha.off (it_modMech _ _ _) (by decide)))
  have h2 : SpinupGone n s2 := by
    simp only [s2]
    split
    · exact h1.applyCfg k
    · exact h1
  split
  · exact h2
  · refine SpinupGone.reevaluate _ ?_
    exact h2.of (fun _ hr => hr) rfl

theorem SpinupGone.endMove (k st : Nat) (h : SpinupGone n s) : SpinupGone n (s.endMove k st) := by
  unfold State.endMove
  extract_lets s1
  have h0 : SpinupGone n (if isRest st || st == 8 || st == 9 then s.modMech k fun m => { m with orphan := none, mountHeld := false } else s) := by
    split
    · exact h.off (it_modMech _ _ _) (by decide)
    · exact h
  have h1 : SpinupGone n s1 := h0.enterState k st
  exact .off (it_chg _ _) (by decide) (.off (it_modPort _ _ _) (by decide) (.off (it_set _ _ _ _) (by decide) (h1.off (it_set _ _ _ _) (by decide))))

theorem SpinupGone.startPullIn (k target : Nat) (jump : Bool) (h : SpinupGone n s) : SpinupGone n (s.startPullIn k target jump) := by
  unfold State.startPullIn
  extract_lets s1 s2
  split
  · have h1 : SpinupGone n s1 := h.off (it_modSeq _ _ _) (by decide)
    split
    · exact h1.endMove k _
    · exact h1
  · exact .off (it_startAttempt _ _) (by decide) (.off (it_modServo _ _ _) (by decide) (h.off (it_takeSeq _ _) (by decide)))

end

/-! ### SPEED_REACHED -/

/-- The speed is shown reached, and the SPINUP part goes back. -/
def speedShown (s : State) (n : Nat) : State :=
  ((s.modSpin n fun p => { p with reached := true }).modBreath fun b => { b with spinBefore := tabDel b.spinBefore n }).returnGrant n fun g =>
    { g with spinup := none, spinupAt := 0 }

theorem speedShown_reached (s : State) (n : Nat) : ((speedShown s n).sx n).spin.reached = true := by
  rw [speedShown, sx_off (it_returnGrant _ _ _) (by decide), sx_off (it_modBreath _ _) (by decide), State.modSpin, sx_modServo_same]

theorem speedShown_returns {s : State} {n : Nat} (h : ∀ q ∈ s.breath.reqs, q.cls = 1 ∨ q.who ≠ n) : SpinupGone n (speedShown s n) :=
  SpinupGone.reevaluate _ ⟨congrArg Grants.spinup (tabGet_tabMod_same s.breath.grants n {} fun g => { g with spinup := none, spinupAt := 0 }), h⟩

section
variable {mn : Mn} {s : State}

theorem speedReached_returns (hst : s.spinState mn = 6) (hslot : s.holdsSlot mn = true) (hcount : 16 ≤ (s.sx mn).spin.count) :
    Completes (.speedReached mn) s fun t => (t.sx mn).spin.reached = true ∧
      ((∀ q ∈ s.breath.reqs, q.cls = 1 ∨ q.who ≠ mn.val) → (t.grants mn).spinup = none) ∧
      (s.mst mn = 4 → (s.sx mn).seq.step = 0 → s.ls mn 0 = 0 → s.on .MECH_STATE_BUSY mn = true → s.get .MECH_STATE_TARGET mn = 6 →
        s.on .MECH_STATE_SAFE_HOLD mn = false → (t.sx mn).seq.step = 1) := by
  have hready : ¬ (s.spinState mn ≠ 6 ∨ ¬ s.holdsSlot mn ∨ (s.sx mn).spin.count < 16) := by
    rw [hst, hslot]
    simpa using hcount
  by_cases hpull : (s.mst mn == 4 && (s.sx mn).seq.step == 0 && s.ls mn 0 == 0 && s.on .MECH_STATE_BUSY mn && s.get .MECH_STATE_TARGET mn == 6) = true
  · have he : exec (.speedReached mn) s = fin ((speedShown s mn).startPullIn mn (s.sx mn).seq.target (s.sx mn).seq.afterJump) :=
      (if_neg hready).trans (if_pos hpull)
    refine completes_fin he ⟨?_, fun h => ?_, fun _ _ _ _ _ hhold => ?_⟩
    · rw [sx_noteEvents, spin_startPullIn, speedShown_reached]
    · rw [State.grants, breath_off (it_noteEvents _) (by decide)]
      exact ((speedShown_returns h).startPullIn mn _ _).gone
    · rw [sx_noteEvents]
      refine startPullIn_attempts _ _ ?_
      rw [speedShown, on_off (it_returnGrant _ _ _) (by decide)]
      exact hhold
  · have he : exec (.speedReached mn) s = fin (speedShown s mn) := (if_neg hready).trans (if_neg hpull)
    refine completes_fin he ⟨?_, fun h => ?_, fun hmst hstep hls hbusy htarget _ => ?_⟩
    · rw [sx_noteEvents, speedShown_reached]
    · rw [State.grants, breath_off (it_noteEvents _) (by decide)]
      exact (speedShown_returns h).gone
    · exact absurd (by rw [hmst, hstep, hls, hbusy, htarget]; rfl) hpull

end

/-- Settles O46: the start's states and how it fails, one step of it after the other. That the tries are counted anew after the speed was once reached is the
model's (notes/assumptions/99.md). -/
theorem spindleStarts : Obligations.SpindleStarts := by
  unfold Obligations.SpindleStarts
  exact ⟨fun mn s hslot hfirst hgrant hnew => spinStart_starts hslot hfirst hgrant hnew,
    fun mn s hst hslot hc hdue hfrom => senseDone_leads hst hslot hc hdue hfrom,
    fun mn s hstart hst hdue => reverseShortDone_senses hstart hst hdue,
    fun mn s hst hslot hdue => coastWaitDone_rests hst hslot hdue,
    fun mn s hslot hc => ⟨catchDone_slews hslot hc, restDone_aligns hslot hc, alignDone_ramps hslot, fun hst => observerHandover_tests hslot hst,
      fun hst htest hlate => observerTimeout_counts hslot hst htest hlate⟩,
    fun mn s hstart hwait hlate hst => spinupTimeout_faults hstart hwait hlate hst,
    fun mn s hst hslot hcount => speedReached_returns hst hslot hcount⟩

end Sys2Proof.Proofs
end

section
/-! SUPPORT. What the map operations, the arbiter and the write bursts leave of a port's frames (R65, R71, R81, R236). -/

namespace Sys2Proof.Proofs

open Sys2Proof.Machine Sys2Proof.Laws

/-- What the frames of a port run by, its map apart: SEQ, RATE and PHASE, the frames since a header, and the announced lane mode. -/
def frameView (x : PortX) : Nat × Nat × Nat × Nat × Option (Nat × Nat) × Bool := (x.seq, x.rate, x.phase, x.sinceHeader, x.modeNext, x.remeasure)

/-- From s to t the frames of port p run by the same, the port keeps or lacks lock as before, and nothing sent is taken back. -/
structure FrameKept (p : Nat) (s t : State) : Prop where
  view : frameView (t.px p) = frameView (s.px p)
  lock : t.get .PEN_STATUS_LOCK p = s.get .PEN_STATUS_LOCK p
  out : ∀ o ∈ s.out, o ∈ t.out

theorem FrameKept.refl (p : Nat) (s : State) : FrameKept p s s := ⟨rfl, rfl, fun _ h => h⟩

/-- What leaves the ports, PEN_STATUS and the outputs. -/
def frameOff (l : List Spot) : Bool := (Item.reg .PEN_STATUS 0 0).off l && ((Item.part .port).off l && (Item.part .out).off l)

section
variable {p : Nat} {s t : State}

theorem FrameKept.off {u : State} {l : List Spot} (it : ∀ {q : Item}, q.off l = true → itm q u = itm q t) (hl : frameOff l = true) (h : FrameKept p s t) :
    FrameKept p s u := by
  rw [frameOff, Bool.and_eq_true, Bool.and_eq_true] at hl
  obtain ⟨hst, hport, hout⟩ := hl
  have ho : u.out = t.out := out_of_itm (it hout)
  exact ⟨by rw [px_off it hport]; exact h.view, (get_off it hst).trans h.lock, fun o hm => ho ▸ h.out o hm⟩

theorem px_modPort_ne (s : State) {q k : Nat} (h : q ≠ k) (f : PortX → PortX) : (s.modPort q f).px k = s.px k := tabGet_tabMod_ne _ h _ _ _

theorem FrameKept.modPort (q : Nat) {f : PortX → PortX} (h : FrameKept p s t) (hf : ∀ x, frameView (f x) = frameView x := by intro _; rfl) :
    FrameKept p s (t.modPort q f) := by
  refine ⟨Eq.trans ?_ h.view, h.lock, h.out⟩
  by_cases hq : q = p
  · rw [hq, px_modPort_same, hf]
  · rw [px_modPort_ne t hq]

theorem FrameKept.emit (o : Output) (h : FrameKept p s t) : FrameKept p s (t.emit o) := ⟨h.view, h.lock, fun x hx => List.mem_cons_of_mem o (h.out x hx)⟩

theorem FrameKept.set {f : Fld} (hf : disj f.reg .PEN_STATUS = true) (i v : Nat) (h : FrameKept p s t) : FrameKept p s (t.set f i v) := by
  refine ⟨?_, (get_set_disj hf t i v p 0).trans h.lock, fun o ho => ?_⟩
  · rw [State.px, set_port]
    exact h.view
  · rw [set_out]
    exact h.out o ho

/-! ### The arbiter -/

theorem FrameKept.portStep (q k : Nat) (h : FrameKept p s t) : FrameKept p s (t.portStep q k) := by
  have hset : FrameKept p s (t.set .PEN_STATUS_PSTATE q k) := by
    refine ⟨?_, (get_set_otherField (f := .PEN_STATUS_PSTATE) (g := .PEN_STATUS_LOCK) rfl (by decide) (by decide) t q k p).trans h.lock, fun o ho => ?_⟩
    · rw [State.px, set_port]
      exact h.view
    · rw [set_out]
      exact h.out o ho
  exact hset.modPort q

theorem FrameKept.linkGranted (q : Nat) (h : FrameKept p s t) : FrameKept p s (t.linkGranted q) := by
  unfold State.linkGranted
  extract_lets w s1
  have h1 : FrameKept p s s1 := h.modPort q
  clear_value w
  split
  · exact h1
  · exact h1.portStep q 1
  · exact h1.portStep q 9

theorem FrameKept.modBreath (f : BreathState → BreathState) (h : FrameKept p s t) : FrameKept p s (t.modBreath f) := ⟨h.view, h.lock, h.out⟩

theorem FrameKept.makeGrant (r : PowerReq) (h : FrameKept p s t) : FrameKept p s (t.makeGrant r) := by
  unfold State.makeGrant
  extract_lets up s1
  split
  · exact (h.modBreath _).linkGranted _
  · exact h.modBreath _
  · exact h.modBreath _
  · exact h.modBreath _
  · exact ((h.modBreath _).modBreath _).set (by decide) _ _

theorem frameKept_evalKept (p : Nat) (s : State) : EvalKept (FrameKept p s) fun _ => True where
  set t f i v hf h := h.set (by rcases hf with hf | hf <;> rw [hf] <;> decide) i v
  age _ _ _ h := h.modBreath _
  grant _ r _ h := (h.modBreath _).makeGrant r
  reqs _ _ _ _ := trivial

theorem FrameKept.reevaluate (d : Nat) (h : FrameKept p s t) : FrameKept p s (t.reevaluate d) := (frameKept_evalKept p s).reevaluate d h

theorem FrameKept.request (r : PowerReq) (h : FrameKept p s t) : FrameKept p s (t.request r).1 := by
  unfold State.request
  split
  · exact h
  · extract_lets s0 s1
    have h0 : FrameKept p s s0 := by
      simp only [s0]
      split
      · exact (h.off (it_raise _ _ _) (by decide)).off (it_set0 _ _ _) (by decide)
      · exact h
    exact (h0.modBreath _).reevaluate r.dom

theorem FrameKept.wakePort (q : Nat) (h : FrameKept p s t) : FrameKept p s (t.wakePort q) := by
  unfold State.wakePort State.requestLink
  split
  · extract_lets s1
    have h1 : FrameKept p s s1 := h.modPort q
    split
    · exact h1.linkGranted q
    · split
      · exact h1
      · exact h1.request _
  · exact h

theorem FrameKept.sendMgmt (q a cls : Nat) (payload : List Nat) (h : FrameKept p s t) : FrameKept p s (t.sendMgmt q a cls payload) := by
  refine FrameKept.wakePort q ?_
  have h0 : FrameKept p s (t.modDrop (chanKey q a) fun d => { d with queued := d.queued ++ [{ cls := cls, payload := payload }] }) := h.off (it_modDrop _ _ _) (by decide)
  unfold State.flushMgmt
  extract_lets k d l
  split
  · exact h0
  · have h1 := h0.off (it_modDrop _ k fun x => { x with queued := x.queued.drop l.length, unacked := x.unacked ++ l, mseqTx := (x.mseqTx + l.length) % 4096 }) (by decide)
    exact ⟨(congrArg frameView (px_off (it_emitMgmt _ _ _ _ _) (by decide) p)).trans h1.view, (get_off (it_emitMgmt _ _ _ _ _) (by decide)).trans h1.lock,
      fun o ho => emitMgmt_out_mono _ _ _ _ _ (h1.out o ho)⟩

/-! ### The slot map (R70, R71, R85) -/

theorem FrameKept.announceMap (q : Nat) (h : FrameKept p s t) : FrameKept p s (t.announceMap q) := by
  unfold State.announceMap
  extract_lets x
  split
  · exact h
  · exact (h.modPort q).emit _

theorem FrameKept.changeBmap (q b : Nat) (w : Word) (h : FrameKept p s t) : FrameKept p s (t.changeBmap q b w) := (h.modPort q).announceMap q

theorem FrameKept.grantBurst {q : Nat} {b : BurstWait} {u : State} (h : FrameKept p s t) (hg : t.grantBurst q b = some u) : FrameKept p s u := by
  unfold State.grantBurst at hg
  extract_lets r at hg
  split at hg
  · exact nomatch hg
  · split at hg
    · obtain rfl := Option.some.inj hg
      exact .off (it_set2 _ _ _ _ _) (by decide) ((h.changeBmap q _ _).modPort q)
    · exact nomatch hg

theorem FrameKept.serveWaits (q : Nat) (down : Bool) (k : Nat) (h : FrameKept p s t) : FrameKept p s (t.serveWaits q down k) := by
  induction k generalizing t with
  | zero => exact h
  | succ k ih =>
    unfold State.serveWaits
    split
    · exact h
    · split
      · exact h
      · next hg => exact ih ((h.grantBurst hg).modPort q)

theorem FrameKept.wantBurst (n : Nat) (down single : Bool) (h : FrameKept p s t) : FrameKept p s (t.wantBurst n down single) := by
  unfold State.wantBurst
  extract_lets b q
  split
  · exact h
  · exact (h.modPort q).serveWaits q down 16

theorem FrameKept.dropBursts (n : Nat) (h : FrameKept p s t) : FrameKept p s (t.dropBursts n) := by
  unfold State.dropBursts
  extract_lets q e mine s1 s2
  have h1 : FrameKept p s s1 := forEach_keeps _ _ _ (fun _ _ _ ht => (ht.changeBmap q _ 0).modPort q) h
  have h2 : FrameKept p s s2 := .off (it_set2 _ _ _ _ _) (by decide) (h1.modPort q)
  split
  · exact h2
  · exact (h2.serveWaits q false 16).serveWaits q true 16

theorem FrameKept.turnBurst (n : Nat) (down single : Bool) (h : FrameKept p s t) : FrameKept p s (t.turnBurst n down single) := by
  unfold State.turnBurst
  extract_lets has
  split
  · exact h
  · exact (h.dropBursts n).wantBurst n down single

theorem FrameKept.withdrawBursts (q : Nat) (down : Bool) (k : Nat) (h : FrameKept p s t) : FrameKept p s (t.withdrawBursts q down k) := by
  induction k generalizing t with
  | zero => exact h
  | succ k ih =>
    unfold State.withdrawBursts
    split
    · exact h
    · split
      · exact h
      · exact ih (.modPort q (.off (it_set2 _ _ _ _ _) (by decide) (h.off (it_wr _ _ _ _ _) (by decide))))

theorem FrameKept.replaceBursts (q : Nat) (down : Bool) (h : FrameKept p s t) : FrameKept p s (t.replaceBursts q down) := by
  refine forEach_keeps _ _ _ (fun e _ u hu => ?_) h
  extract_lets len v
  split
  · exact hu
  · split
    · exact .modPort q (.off (it_set2 _ _ _ _ _) (by decide) (hu.off (it_wr _ _ _ _ _) (by decide)))
    · exact hu.off (it_wr _ _ _ _ _) (by decide)

theorem FrameKept.refitBursts (q : Nat) (h : FrameKept p s t) : FrameKept p s (t.refitBursts q) :=
  ((((((h.withdrawBursts q false 16).replaceBursts q false).withdrawBursts q true 16).replaceBursts q true).serveWaits q false 16).serveWaits q true 16)

theorem FrameKept.useMap (q : Nat) (m : MapChange) (h : FrameKept p s t) : FrameKept p s (t.useMap q m) := by
  unfold State.useMap
  extract_lets s1 s2
  have h1 : FrameKept p s s1 := forEach_keeps _ _ _ (fun _ _ _ ht => ht.off (it_wr _ _ _ _ _) (by decide)) h
  have h2 : FrameKept p s s2 := forEach_keeps _ _ _ (fun _ _ _ ht => ht.off (it_wr _ _ _ _ _) (by decide)) h1
  exact (h2.modPort q).announceMap q

/-! ### Write bursts (R236, R239) -/

theorem FrameKept.endWrite (f : Nat) (h : FrameKept p s t) : FrameKept p s (t.endWrite f) := by
  unfold State.endWrite
  split
  · extract_lets n s0 s1 back cut
    have h0 : FrameKept p s s0 := .off (it_modLane _ _ _) (by decide) (h.off (it_set _ _ _ _) (by decide))
    have h1 : FrameKept p s s1 := .reevaluate _ (.modBreath _ (.turnBurst n false _ (h0.off (it_searchAgain _ _) (by decide))))
    exact .off (it_modDisc _ _ _) (by decide) (h1.off (it_modHost _ _) (by decide))
  · exact h

theorem FrameKept.opcBank (n f : Nat) (r : RunX) (x0 : Int) (h : FrameKept p s t) : FrameKept p s (t.opcBank n f r x0).1 := by
  unfold State.opcBank
  split
  · extract_lets seg s1
    split
    · exact h
    · have h1 : FrameKept p s s1 := h.off (it_modLane _ _ _) (by decide)
      split
      · exact (h1.off (it_modLane _ _ _) (by decide)).sendMgmt _ _ _ _
      · exact h1
  · exact h

theorem FrameKept.sendWriteBurst (n t17 : Nat) (h : FrameKept p s t) : FrameKept p s (t.sendWriteBurst n t17) := by
  unfold State.sendWriteBurst
  extract_lets s0 rate slots single beams out idle per
  have h0 : FrameKept p s s0 := by
    simp only [s0]
    split
    · split
      · exact h.endWrite _
      · exact h
    · exact h
  split
  · exact h0.emit _
  next f _ =>
  extract_lets bank
  split
  · exact h0.emit _
  next r0 _ =>
  split
  · exact h0.emit _
  next =>
  extract_lets r1 x0 x1
  have hsb := h0.opcBank n f r1 x0
  split
  next sb r ho =>
  rw [ho] at hsb
  extract_lets u l moved s1
  have hu : FrameKept p s u := by
    simp only [u]
    split
    · exact FrameKept.off (it_modLane _ _ _) (by decide) hsb
    · exact hsb
  have h1 : FrameKept p s s1 := .off (it_modLane _ _ _) (by decide) (hu.emit _)
  split
  · exact h1
  · exact .off (it_raise _ _ _) (by decide) (h1.off (it_bumpBy _ _ _ _) (by decide))

end

end Sys2Proof.Proofs
end

section
/-! OBLIGATION O50: pair faults and lane modes. -/

namespace Sys2Proof.Proofs

open Sys2Proof.Machine Sys2Proof.Laws

/-! ### The lanes of a port (R61, R84) -/

/-- The state of a transmit lane, and of a receive lane. -/
def dnLane (lane : Fin 2) : Fld := if lane.val = 0 then .PEN_LANE_DN0 else .PEN_LANE_DN1

def upLane (lane : Fin 2) : Fld := if lane.val = 0 then .PEN_LANE_UP0 else .PEN_LANE_UP1

theorem penLane_has {p : Nat} (hp : p < 64) : Reg.PEN_LANE.has p 0 = true := portReg_has rfl rfl hp

theorem dnLane_spec (lane : Fin 2) : (dnLane lane).reg = .PEN_LANE ∧ Fld.fits (dnLane lane) = true ∧ (dnLane lane).width = 4 := by
  unfold dnLane
  split <;> exact ⟨rfl, by decide, rfl⟩

theorem upLane_spec (lane : Fin 2) : (upLane lane).reg = .PEN_LANE ∧ Fld.fits (upLane lane) = true ∧ (upLane lane).width = 4 := by
  unfold upLane
  split <;> exact ⟨rfl, by decide, rfl⟩

/-- A lane field reads what was written to it. -/
theorem penLane_set {f : Fld} (hf : f.reg = .PEN_LANE ∧ Fld.fits f = true ∧ f.width = 4) (s : State) {p v : Nat} (hp : p < 64) (hv : v < 16) :
    (s.set f p v).get f p = v := by
  obtain ⟨hreg, hfit, hw⟩ := hf
  rw [get_set_self hfit _ _ _ (hreg ▸ penLane_has hp), hw]
  exact Nat.mod_eq_of_lt hv

theorem pairFault_lane {f : Fld} (hf : f.reg = .PEN_LANE) (s : State) (p k : Nat) : (s.pairFault p).get f k = s.get f k := get_off (it_pairFault s p) (hf ▸ by decide)

theorem pairFault_shown (s : State) {p : Nat} (hp : p < 64) : (s.pairFault p).on .PEN_EVENT_LANE_FAULT p = true := by
  rw [State.pairFault, on_off (it_logEntry _ _) (by decide)]
  exact on_eq_true_of_get (get_raise_self (by decide) _ _ (portReg_has rfl rfl hp) (by decide))

section
variable {p : PortIx} {lane : Fin 2} {s : State}

theorem txOvercurrent_shuts : Completes (.txOvercurrent p lane) s fun t =>
    t.get (dnLane lane) p = 5 ∧ t.on .PEN_EVENT_OVERCURRENT p = true ∧ (lane.val, s.now) ∈ (t.px p).overCurrent := by
  have hreg := (dnLane_spec lane).1
  refine completes_fin (u := (((s.set (dnLane lane) p 5).raise .PEN_EVENT_OVERCURRENT p).pairFault p).modPort p fun x =>
    { x with overCurrent := (lane.val, s.now) :: x.overCurrent.filter fun l => l.1 != lane.val }) rfl ⟨?_, ?_, ?_⟩
  · rw [get_off (it_noteEvents _) (hreg ▸ by decide), get_modPort, pairFault_lane hreg, get_off (it_raise _ _ _) (hreg ▸ by decide)]
    exact penLane_set (dnLane_spec lane) s p.isLt (by decide)
  · rw [on_off (it_noteEvents _) (by decide), on_off (it_modPort _ _ _) (by decide), State.pairFault, on_off (it_logEntry _ _) (by decide)]
    refine on_eq_true_of_get ?_
    rw [get_raise_beside (f := .PEN_EVENT_LANE_FAULT) (g := .PEN_EVENT_OVERCURRENT) rfl (by decide)]
    exact get_raise_self (by decide) _ _ (portReg_has rfl rfl p.isLt) (by decide)
  · rw [px_off (it_noteEvents _) (by decide), px_modPort_same]
    exact List.mem_cons_self

theorem txOvercurrentRetry_tries {l : Nat × Nat} (hl : (s.px p).overCurrent.find? (fun l => l.1 == lane.val) = some l) (hdue : l.2 + ms 1000 ≤ s.now) :
    (Completes (.txOvercurrentRetry p lane true) s fun t => t.get (dnLane lane) p = 0 ∧ ∀ l ∈ (t.px p).overCurrent, l.1 ≠ lane.val) ∧
    Completes (.txOvercurrentRetry p lane false) s fun t => t.get (dnLane lane) p = s.get (dnLane lane) p ∧ (lane.val, s.now) ∈ (t.px p).overCurrent := by
  have hreg := (dnLane_spec lane).1
  have he : ∀ clear, exec (.txOvercurrentRetry p lane clear) s =
      if clear then fin ((s.set (dnLane lane) p 0).modPort p fun x => { x with overCurrent := (s.px p).overCurrent.filter fun l => l.1 != lane.val })
      else fin (s.modPort p fun x => { x with overCurrent := (lane.val, s.now) :: (s.px p).overCurrent.filter fun l => l.1 != lane.val }) := fun clear => by
    show execTxOvercurrentRetry p lane clear s = _
    rw [execTxOvercurrentRetry, hl]
    exact if_neg (Nat.not_lt.mpr hdue)
  refine ⟨completes_fin (he true) ⟨?_, fun l hm => ?_⟩, completes_fin (he false) ⟨?_, ?_⟩⟩
  · rw [get_off (it_noteEvents _) (hreg ▸ by decide), get_modPort]
    exact penLane_set (dnLane_spec lane) s p.isLt (by decide)
  · rw [px_off (it_noteEvents _) (by decide), px_modPort_same] at hm
    exact bne_iff_ne.mp (List.mem_filter.mp hm).2
  · rw [get_off (it_noteEvents _) (hreg ▸ by decide), get_modPort]
  · rw [px_off (it_noteEvents _) (by decide), px_modPort_same]
    exact List.mem_cons_self

/-! ### A lost receive lane (R84) -/

/-- A receive lane is lost: the fault is recorded. -/
def laneLost (s : State) (p : Nat) (lane : Fin 2) : State :=
  ((s.modPort p fun x => { x with tryAt := s.now, heldAt := none }).set (upLane lane) p 6).pairFault p

theorem px_laneLost (s : State) (p : Nat) (lane : Fin 2) : (laneLost s p lane).px p = { s.px p with tryAt := s.now, heldAt := none } := by
  rw [laneLost, px_off (it_pairFault _ _) (by decide), State.px, set_port]
  exact px_modPort_same s p _

theorem laneLost_lmode (s : State) (p : Nat) (lane : Fin 2) : (laneLost s p lane).get .PEN_STATUS_LMODE p = s.get .PEN_STATUS_LMODE p := by
  rw [laneLost, get_off (it_pairFault _ _) (by decide), get_set_disj ((upLane_spec lane).1 ▸ by decide), get_modPort]

theorem laneLost_up (s : State) {p : Nat} (lane : Fin 2) (hp : p < 64) : (laneLost s p lane).get (upLane lane) p = 6 := by
  rw [laneLost, pairFault_lane (upLane_spec lane).1]
  exact penLane_set (upLane_spec lane) _ hp (by decide)

/-- A change announced before goes on first. -/
theorem announceLoss_pending {q : Nat × Nat} {n : Nat} (h : (s.px n).modeNext = some q) : s.announceLoss n = s :=
  if_pos (Or.inr (Or.inl (by rw [h]; rfl)))

theorem announceLoss_single {n : Nat} (h : s.get .PEN_STATUS_LMODE n % 2 = 1) : s.announceLoss n = s := if_pos (Or.inl h)

/-- In dual-lane operation without an announced change, single-lane upstream is announced for a lost lane. -/
theorem announceLoss_announces {n : Nat} (hm : s.get .PEN_STATUS_LMODE n = 0) (hnext : (s.px n).modeNext = none)
    (hlost : (s.get .PEN_LANE_UP0 n == 6 || s.get .PEN_LANE_UP1 n == 6) = true) :
    ((s.announceLoss n).px n).modeNext = some (1 + b2n (s.get .PEN_LANE_UP0 n == 6) * 4, ((s.px n).seq + 1) % 4096) := by
  unfold State.announceLoss
  extract_lets m l0
  have hm' : m = 0 := hm
  rw [if_neg (by rw [hm', hnext, hlost]; simp), hm', State.announceMode, px_modPort_same]

theorem laneLoss_announces (hup : s.portUp p = true) : Completes (.laneLoss p lane) s fun t =>
    t.get (upLane lane) p = 6 ∧ t.on .PEN_EVENT_LANE_FAULT p = true ∧
      (s.get .PEN_STATUS_LMODE p = 0 → (s.px p).modeNext = none → (lane.val = 1 → s.get .PEN_LANE_UP0 p ≠ 6) →
        (t.px p).modeNext = some (if lane.val = 0 then 5 else 1, ((s.px p).seq + 1) % 4096)) ∧
      (∀ q, (s.px p).modeNext = some q → (t.px p).modeNext = some q) := by
  have hreg := (upLane_spec lane).1
  have he : exec (.laneLoss p lane) s = fin ((laneLost s p lane).announceLoss p) := if_neg (by rw [hup]; decide)
  have hpx := px_laneLost s p lane
  have hsix := laneLost_up s lane p.isLt
  refine completes_fin he ⟨?_, ?_, fun hm hnext hother => ?_, fun q hq => ?_⟩
  · rw [get_off (it_noteEvents _) (hreg ▸ by decide), get_off (it_announceLoss _ _) (hreg ▸ by decide)]
    exact hsix
  · rw [on_off (it_noteEvents _) (by decide), on_off (it_announceLoss _ _) (by decide)]
    exact pairFault_shown _ p.isLt
  · rw [px_off (it_noteEvents _) (by decide)]
    have hm' := (laneLost_lmode s p lane).trans hm
    have hnext' : ((laneLost s p lane).px p).modeNext = none := by rw [hpx]; exact hnext
    have hseq : ((laneLost s p lane).px p).seq = (s.px p).seq := by rw [hpx]
    by_cases h0 : lane.val = 0
    · have hup0 : (laneLost s p lane).get .PEN_LANE_UP0 p = 6 := by rw [upLane, if_pos h0] at hsix; exact hsix
      rw [announceLoss_announces hm' hnext' (by rw [hup0]; rfl), hup0, hseq, if_pos h0]
      rfl
    · have hup1 : (laneLost s p lane).get .PEN_LANE_UP1 p = 6 := by rw [upLane, if_neg h0] at hsix; exact hsix
      have hup0 : (laneLost s p lane).get .PEN_LANE_UP0 p = s.get .PEN_LANE_UP0 p := by
        rw [laneLost, pairFault_lane rfl, upLane, if_neg h0, get_set_otherField (f := .PEN_LANE_UP1) (g := .PEN_LANE_UP0) rfl (by decide) (by decide), get_modPort]
      have hno : (s.get .PEN_LANE_UP0 p == 6) = false := beq_false_of_ne (hother (by omega))
      rw [announceLoss_announces hm' hnext' (by rw [hup1]; simp), hup0, hno, hseq, if_neg h0]
      rfl
  · have hnext : ((laneLost s p lane).px p).modeNext = some q := by rw [hpx]; exact hq
    rw [px_off (it_noteEvents _) (by decide), announceLoss_pending hnext, hnext]

/-! ### A lane that rejoins (R86) -/

theorem laneRejoinAttempt_tries (lock : Bool) (hup : s.portUp p = true) (hm : s.get .PEN_STATUS_LMODE p % 2 = 1) (hheld : (s.px p).heldAt = none)
    (hdue : (s.px p).tryAt + ms 1000 ≤ s.now) : Completes (.laneRejoinAttempt p lock) s fun t =>
      (t.px p).tryAt = s.now ∧ (t.px p).heldAt = (if lock then some s.now else none) ∧ t.rd .PEN_STATUS p = s.rd .PEN_STATUS p := by
  have he : exec (.laneRejoinAttempt p lock) s = fin (s.modPort p fun y => { y with tryAt := s.now, heldAt := if lock then some s.now else none }) :=
    if_neg (by rw [hup, hm, hheld, decide_eq_false (Nat.not_lt.mpr hdue)]; decide)
  refine completes_fin he ?_
  rw [px_off (it_noteEvents _) (by decide), rd_off (it_noteEvents _) (by decide), px_modPort_same]
  exact ⟨rfl, rfl, rfl⟩

theorem laneRejoin_announces (hup : s.portUp p = true) (hm : s.get .PEN_STATUS_LMODE p % 2 = 1) (hnext : (s.px p).modeNext = none)
    (hlong : s.laneHeldLong p = true) : Completes (.laneRejoin p) s fun t =>
      let m := s.get .PEN_STATUS_LMODE p
      t.get (if m / 4 % 2 = 1 then .PEN_LANE_UP0 else .PEN_LANE_UP1) p = 0 ∧ (t.px p).modeNext = some (m % 4 / 2 * 2 + m / 8 * 8, ((s.px p).seq + 1) % 4096) := by
  extract_lets m
  let f : Fld := if m / 4 % 2 = 1 then .PEN_LANE_UP0 else .PEN_LANE_UP1
  have hf : f.reg = .PEN_LANE ∧ Fld.fits f = true ∧ f.width = 4 := by
    simp only [f]
    split <;> exact ⟨rfl, by decide, rfl⟩
  have he : exec (.laneRejoin p) s = fin (((s.set f p 0).modPort p fun x => { x with heldAt := none }).announceMode p (m % 4 / 2 * 2 + m / 8 * 8) ((s.px p).seq + 1)) :=
    if_neg (by rw [hup, hm, hnext, hlong]; decide)
  refine completes_fin he ⟨?_, ?_⟩
  · show State.get _ f p = 0
    rw [get_off (it_noteEvents _) (hf.1 ▸ by decide), get_off (it_announceMode _ _ _ _) (hf.1 ▸ by decide), get_modPort]
    exact penLane_set hf s p.isLt (by decide)
  · rw [px_off (it_noteEvents _) (by decide), State.announceMode, px_modPort_same]

/-! ### An announced lane mode takes effect (R78, R84) -/

theorem penTiming_has {n : Nat} (hp : n < 64) : Reg.PEN_TIMING.has n 0 = true := portReg_has rfl rfl hp

/-- A lane mode in force: shown, with the state of the port, its event, and LOOP_NS to be measured again. -/
structure ModeSwitched (p m : Nat) (t : State) : Prop where
  lmode : t.get .PEN_STATUS_LMODE p = m % 16
  pstate : t.pstate p = if m % 4 = 0 then 6 else 7
  event : t.on .PEN_EVENT_DEGRADED p = true
  next : (t.px p).modeNext = none

/-- What leaves PEN_STATUS, PEN_EVENT and the announced mode leaves a mode that was switched. -/
theorem ModeSwitched.off {n m : Nat} {t u : State} {l : List Spot} (it : ∀ {q : Item}, q.off l = true → itm q u = itm q t)
    (hl : ((Item.reg .PEN_STATUS 0 0).off l && (Item.reg .PEN_EVENT 0 0).off l) = true) (hnext : (u.px n).modeNext = (t.px n).modeNext)
    (h : ModeSwitched n m t) : ModeSwitched n m u := by
  obtain ⟨hst, hev⟩ := Bool.and_eq_true_iff.mp hl
  exact ⟨(get_off it hst).trans h.lmode, (get_off it hst : u.pstate n = t.pstate n).trans h.pstate, (on_off it hev).trans h.event, hnext.trans h.next⟩

/-- The bursts fitted into a frame leave what the frame runs by. -/
theorem refitBursts_view (t : State) (n : Nat) : frameView ((t.refitBursts n).px n) = frameView (t.px n) := ((FrameKept.refl n t).refitBursts n).view

theorem modeNext_of_view {x y : PortX} (h : frameView x = frameView y) : x.modeNext = y.modeNext := congrArg (·.2.2.2.2.1) h

theorem remeasure_of_view {x y : PortX} (h : frameView x = frameView y) : x.remeasure = y.remeasure := congrArg (·.2.2.2.2.2) h

/-- The mode is shown, and its announcement taken back, before the bursts are fitted. -/
def modeShown (s : State) (p m : Nat) : State :=
  ((((s.set .PEN_STATUS_LMODE p m).set .PEN_STATUS_PSTATE p (if m % 4 = 0 then 6 else 7)).raise .PEN_EVENT_DEGRADED p).logEntry
    { cls := 4, code := 3, sev := 1, unit := p, detail0 := m, detail1 := s.get .PEN_STATUS_LMODE p }).modPort p fun x =>
      { x with modeNext := none, remeasure := true }

theorem px_modeShown (s : State) (n m : Nat) : (modeShown s n m).px n = { s.px n with modeNext := none, remeasure := true } := by
  rw [modeShown, px_modPort_same, px_off (it_logEntry _ _) (by decide), State.px, raise_port, set_port, set_port]
  rfl

theorem switchMode_eq (s : State) (n m : Nat) : s.switchMode n m = (modeShown s n m).refitBursts n := rfl

theorem modeShown_switched (s : State) {n m : Nat} (hn : n < 64) : ModeSwitched n m (modeShown s n m) := by
  have hlog : ∀ f : Fld, f.reg = .PEN_STATUS → (modeShown s n m).get f n =
      ((s.set .PEN_STATUS_LMODE n m).set .PEN_STATUS_PSTATE n (if m % 4 = 0 then 6 else 7)).get f n := fun f hf => by
    rw [modeShown, get_modPort, get_off (it_logEntry _ _) (hf ▸ by decide), get_off (it_raise _ _ _) (hf ▸ by decide)]
  refine ⟨?_, ?_, ?_, by rw [px_modeShown]⟩
  · rw [hlog _ rfl, get_set_otherField (f := .PEN_STATUS_PSTATE) (g := .PEN_STATUS_LMODE) rfl (by decide) (by decide)]
    exact get_set_self (by decide) _ _ _ (penStatus_has hn)
  · rw [State.pstate, hlog _ rfl, get_set_self (by decide) _ _ _ (penStatus_has hn)]
    split <;> rfl
  · rw [modeShown, on_off (it_modPort _ _ _) (by decide), on_off (it_logEntry _ _) (by decide)]
    exact on_eq_true_of_get (get_raise_self (by decide) _ _ (portReg_has rfl rfl hn) (by decide))

theorem ModeSwitched.refitBursts {n m : Nat} {t : State} (h : ModeSwitched n m t) : ModeSwitched n m (t.refitBursts n) :=
  h.off (it_refitBursts t n) (by decide) (modeNext_of_view (refitBursts_view t n))

theorem switchMode_switched (s : State) {n m : Nat} (hn : n < 64) : ModeSwitched n m (s.switchMode n m) := (modeShown_switched s hn).refitBursts

theorem switchMode_remeasures (s : State) (n m : Nat) : ((s.switchMode n m).px n).remeasure = true := by
  rw [switchMode_eq, remeasure_of_view (refitBursts_view _ n), px_modeShown]

/-- The announced lane mode takes effect in the frame of its ACT_SEQ. -/
def modeTaken (s : State) (p : Nat) : State := match (s.px p).modeNext with
  | some (m, a) => if a = (s.px p).seq then s.switchMode p m else s
  | none => s

theorem modeTaken_now {s : State} {n m : Nat} (h : (s.px n).modeNext = some (m, (s.px n).seq)) : modeTaken s n = s.switchMode n m := by
  rw [modeTaken, h]
  exact if_pos rfl

/-- LOOP_NS is measured in the new mode, and the bursts are fitted to it. -/
def remeasured (s : State) (p loopNs : Nat) : State := ((s.setLoop p loopNs).modPort p fun y => { y with remeasure := false }).refitBursts p

theorem remeasured_switched {n m loopNs : Nat} (h : ModeSwitched n m s) : ModeSwitched n m (remeasured s n loopNs) := by
  have hset : ModeSwitched n m (s.setLoop n loopNs) := h.off (it_setLoop s n loopNs) (by decide) (by rw [px_off (it_setLoop s n loopNs) (by decide)])
  exact (hset.off (it_modPort _ n _) (by decide) (by rw [px_modPort_same])).refitBursts

theorem remeasured_loop (s : State) {n : Nat} (loopNs : Nat) (hn : n < 64) : (remeasured s n loopNs).get .PEN_TIMING_LOOP_NS n = loopNs % 2 ^ 16 := by
  rw [remeasured, get_off (it_refitBursts _ _) (by decide), get_modPort, State.setLoop, get_off (it_renewArrivals _ _) (by decide),
    get_set_otherField (f := .PEN_TIMING_ACT_OFS) (g := .PEN_TIMING_LOOP_NS) rfl (by decide) (by decide)]
  exact get_set_self (by decide) _ _ _ (penTiming_has hn)

theorem laneModeSwitch_switches {m loopNs : Nat} (hnext : (s.px p).modeNext = some (m, (s.px p).seq)) : Completes (.laneModeSwitch p loopNs) s fun t =>
    t.get .PEN_STATUS_LMODE p = m % 16 ∧ t.pstate p = (if m % 4 = 0 then 6 else 7) ∧ t.get .PEN_TIMING_LOOP_NS p = loopNs % 2 ^ 16 ∧
    t.on .PEN_EVENT_DEGRADED p = true ∧ (m % 2 = 1 → (t.px p).modeNext = none) := by
  have he : exec (.laneModeSwitch p loopNs) s = fin (((remeasured (s.switchMode p m) p loopNs).announceLoss p).announceMap p) := by
    have htaken : exec (.laneModeSwitch p loopNs) s = if !((modeTaken s p).px p).remeasure then fin (modeTaken s p)
        else fin (((remeasured (modeTaken s p) p loopNs).announceLoss p).announceMap p) := rfl
    rw [htaken, modeTaken_now hnext, switchMode_remeasures]
    rfl
  have hsw : ModeSwitched p m (remeasured (s.switchMode p m) p loopNs) := remeasured_switched (switchMode_switched s p.isLt)
  refine completes_fin he ⟨?_, ?_, ?_, ?_, fun hodd => ?_⟩
  · rw [get_off (it_noteEvents _) (by decide), get_off (it_announceMap _ _) (by decide), get_off (it_announceLoss _ _) (by decide), hsw.lmode]
  · rw [State.pstate, get_off (it_noteEvents _) (by decide), get_off (it_announceMap _ _) (by decide), get_off (it_announceLoss _ _) (by decide)]
    exact hsw.pstate
  · rw [get_off (it_noteEvents _) (by decide), get_off (it_announceMap _ _) (by decide), get_off (it_announceLoss _ _) (by decide)]
    exact remeasured_loop _ loopNs p.isLt
  · rw [on_off (it_noteEvents _) (by decide), on_off (it_announceMap _ _) (by decide), on_off (it_announceLoss _ _) (by decide), hsw.event]
  · rw [px_off (it_noteEvents _) (by decide), announceLoss_single (by rw [hsw.lmode]; omega),
      modeNext_of_view ((FrameKept.refl p.val (remeasured (s.switchMode p m) p loopNs)).announceMap p).view, hsw.next]

end

end Sys2Proof.Proofs
end

section
/-! OBLIGATION O50: frames, headers and map changes. -/

namespace Sys2Proof.Proofs

open Sys2Proof.Machine Sys2Proof.Laws

/-! ### A frame and what takes effect in it (R65, R66, R71, R84) -/

/-- What a frame counts by. -/
def beat (x : PortX) : Nat × Nat × Nat × Nat := (x.seq, x.rate, x.phase, x.sinceHeader)

theorem beat_of_view {x y : PortX} (h : frameView x = frameView y) : beat x = beat y := congrArg (fun v => (v.1, v.2.1, v.2.2.1, v.2.2.2.1)) h

theorem modeTaken_beat (s : State) (n : Nat) : beat ((modeTaken s n).px n) = beat (s.px n) ∧ (modeTaken s n).get .PEN_STATUS_LOCK n = s.get .PEN_STATUS_LOCK n := by
  unfold modeTaken
  split
  · split
    next m a _ _ =>
      refine ⟨(beat_of_view (refitBursts_view (modeShown s n m) n)).trans (by rw [px_modeShown]; rfl), ?_⟩
      rw [switchMode_eq, get_off (it_refitBursts _ _) (by decide), modeShown, get_modPort, get_off (it_logEntry _ _) (by decide), get_off (it_raise _ _ _) (by decide),
        get_set_otherField (f := .PEN_STATUS_PSTATE) (g := .PEN_STATUS_LOCK) rfl (by decide) (by decide),
        get_set_otherField (f := .PEN_STATUS_LMODE) (g := .PEN_STATUS_LOCK) rfl (by decide) (by decide)]
    next => exact ⟨rfl, rfl⟩
  · exact ⟨rfl, rfl⟩

/-- A lane mode or a map that takes effect leaves the count of the frames, and lock. -/
theorem takeAnnounced_beat (s : State) (n : Nat) :
    beat ((s.takeAnnounced n).px n) = beat (s.px n) ∧ (s.takeAnnounced n).get .PEN_STATUS_LOCK n = s.get .PEN_STATUS_LOCK n := by
  obtain ⟨hbeat, hlock⟩ := modeTaken_beat s n
  have he : s.takeAnnounced n = match ((modeTaken s n).px n).mapNow with
    | some (a, m) => if a = (s.px n).seq then (modeTaken s n).useMap n m else modeTaken s n
    | none => modeTaken s n := rfl
  rw [he]
  split
  · split
    · have hkept := (FrameKept.refl n (modeTaken s n)).useMap n
      exact ⟨(beat_of_view (hkept _).view).trans hbeat, (hkept _).lock.trans hlock⟩
    · exact ⟨hbeat, hlock⟩
  · exact ⟨hbeat, hlock⟩

theorem px_takeRate (s : State) (n : Nat) :
    (s.takeRate n).px n = if (s.positions n).isEmpty then { s.px n with rate := s.get .PEN_CFG_RATE n, phase := s.get .PEN_CFG_PHASE n } else s.px n := by
  unfold State.takeRate
  split
  · exact px_modPort_same s n _
  · rfl

/-- The frame is sent with its write bursts. -/
def frameSent (u : State) (p : Nat) : State :=
  (u.emit (.frame p (u.px p).blocks (frameBlocks (u.px p).rate (u.px p).seq) (u.downHeader p))).forEach (u.writers p) fun t m => t.sendWriteBurst m ((u.tickNow p).getD 0)

theorem frameSent_kept (u : State) (n : Nat) :
    FrameKept n (u.emit (.frame n (u.px n).blocks (frameBlocks (u.px n).rate (u.px n).seq) (u.downHeader n))) (frameSent u n) :=
  forEach_keeps _ _ _ (fun m _ _ ht => ht.sendWriteBurst m _) (.refl n _)

/-- The port counts the frame. -/
def framed (s : State) (p : Nat) : State :=
  let u := (s.takeRate p).takeAnnounced p
  (frameSent u p).modPort p fun x =>
    { x with seq := (x.seq + 1) % 4096, upSeq := x.seq, sinceHeader := min 9 (x.sinceHeader + 1), tickAt := u.tickNow p,
             blocks := x.blocks + frameBlocks (u.px p).rate (u.px p).seq }

theorem framed_beat (s : State) (n : Nat) : beat ((framed s n).px n) =
    ((((s.takeRate n).px n).seq + 1) % 4096, ((s.takeRate n).px n).rate, ((s.takeRate n).px n).phase, min 9 (((s.takeRate n).px n).sinceHeader + 1)) := by
  have hb : beat ((frameSent ((s.takeRate n).takeAnnounced n) n).px n) = beat ((s.takeRate n).px n) :=
    (beat_of_view (frameSent_kept _ n).view).trans (takeAnnounced_beat _ n).1
  simp only [beat, Prod.mk.injEq] at hb ⊢
  obtain ⟨hseq, hrate, hphase, hsince⟩ := hb
  rw [framed, px_modPort_same]
  exact ⟨by rw [hseq], hrate, hphase, by rw [hsince]⟩

theorem framed_lock (s : State) (n : Nat) : (framed s n).get .PEN_STATUS_LOCK n = s.get .PEN_STATUS_LOCK n := by
  rw [framed, get_modPort, (frameSent_kept _ n).lock]
  exact (takeAnnounced_beat _ n).2.trans (get_off (it_takeRate s n) (by decide))

theorem framed_out (s : State) (n : Nat) :
    let u := (s.takeRate n).takeAnnounced n
    .frame n (u.px n).blocks (frameBlocks (u.px n).rate (u.px n).seq) (u.downHeader n) ∈ (framed s n).out :=
  (frameSent_kept _ n).out _ List.mem_cons_self

/-- Lock is lost after 8 frames without an upstream header. -/
def lockLost (s : State) (p : Nat) (now : Nat) : State :=
  ((s.set .PEN_STATUS_LOCK p 0).raise .PEN_EVENT_LOCK_LOST p).modPort p fun x => { x with lostAt := some now }

theorem px_lockLost (s : State) (n now : Nat) : (lockLost s n now).px n = { s.px n with lostAt := some now } := by
  rw [lockLost, px_modPort_same, State.px, raise_port, set_port]
  rfl

theorem lockLost_shows (s : State) {n : Nat} (now : Nat) (hn : n < 64) :
    (lockLost s n now).on .PEN_STATUS_LOCK n = false ∧ (lockLost s n now).on .PEN_EVENT_LOCK_LOST n = true := by
  constructor
  · rw [lockLost, on_off (it_modPort _ _ _) (by decide), on_off (it_raise _ _ _) (by decide)]
    exact on_eq_false_of_get (get_set_self (by decide) _ _ _ (penStatus_has hn))
  · exact on_eq_true_of_get (get_raise_self (f := .PEN_EVENT_LOCK_LOST) (by decide) _ _ (portReg_has rfl rfl hn) (by decide))

/-- What a frame tick says of the port and the outputs, lock apart. -/
def FrameGone (p : Nat) (s t : State) : Prop :=
  let u := (s.takeRate p).takeAnnounced p
  (t.px p).seq = ((s.px p).seq + 1) % 4096 ∧ .frame p (u.px p).blocks (frameBlocks (u.px p).rate (u.px p).seq) (u.downHeader p) ∈ t.out ∧
    (s.positions p = [] → (t.px p).rate = s.get .PEN_CFG_RATE p ∧ (t.px p).phase = s.get .PEN_CFG_PHASE p)

theorem takeRate_counts (s : State) (n : Nat) : ((s.takeRate n).px n).seq = (s.px n).seq ∧ ((s.takeRate n).px n).sinceHeader = (s.px n).sinceHeader := by
  rw [px_takeRate]
  split <;> exact ⟨rfl, rfl⟩

theorem frameGone_of {n : Nat} {s t : State} (hbeat : beat (t.px n) = beat ((framed s n).px n)) (hout : t.out = (framed s n).out) : FrameGone n s t := by
  rw [framed_beat, (takeRate_counts s n).1, (takeRate_counts s n).2] at hbeat
  simp only [beat, Prod.mk.injEq] at hbeat
  obtain ⟨hseq, hrate, hphase, -⟩ := hbeat
  refine ⟨hseq, hout ▸ framed_out s n, fun hpos => ?_⟩
  rw [hrate, hphase, px_takeRate, hpos]
  exact ⟨rfl, rfl⟩

section
variable {p : PortIx} {s : State}

theorem framed_since : ((framed s p).px p).sinceHeader = min 9 ((s.px p).sinceHeader + 1) := by
  have hbeat := framed_beat s p
  rw [(takeRate_counts s p).2] at hbeat
  exact congrArg (·.2.2.2) hbeat

theorem frameTick_sends (hup : s.portUp p = true) (hdue : (s.takeRate p).frameDue p = true) : Completes (.frameTick p) s fun t => FrameGone p s t ∧
    (s.on .PEN_STATUS_LOCK p = true → (8 ≤ (s.px p).sinceHeader → t.on .PEN_STATUS_LOCK p = false ∧ t.on .PEN_EVENT_LOCK_LOST p = true) ∧
      ((s.px p).sinceHeader < 8 → t.on .PEN_STATUS_LOCK p = true)) := by
  have he : exec (.frameTick p) s = if 8 < ((framed s p).px p).sinceHeader ∧ s.on .PEN_STATUS_LOCK p then fin (lockLost (framed s p) p s.now) else fin (framed s p) :=
    if_neg (by rw [hup, hdue]; decide)
  rw [framed_since] at he
  by_cases hlost : 8 < min 9 ((s.px p).sinceHeader + 1) ∧ s.on .PEN_STATUS_LOCK p = true
  · rw [if_pos hlost] at he
    obtain ⟨hlock, hevent⟩ := lockLost_shows (framed s p) s.now p.isLt
    refine completes_fin he ⟨frameGone_of ?_ ?_, fun _ => ⟨fun _ => ?_, fun hfew => ?_⟩⟩
    · rw [px_off (it_noteEvents _) (by decide), px_lockLost]
      rfl
    · rw [noteEvents_out, lockLost, modPort_out, raise_out, set_out]
    · rw [on_off (it_noteEvents _) (by decide), on_off (it_noteEvents _) (by decide)]
      exact ⟨hlock, hevent⟩
    · omega
  · rw [if_neg hlost] at he
    refine completes_fin he ⟨frameGone_of ?_ (noteEvents_out _), fun hon => ⟨fun hmany => absurd ⟨by omega, hon⟩ hlost, fun _ => ?_⟩⟩
    · rw [px_off (it_noteEvents _) (by decide)]
    · rw [on_off (it_noteEvents _) (by decide), on_of_get (framed_lock s p)]
      exact hon

/-! ### Upstream headers (R81, R84) -/

/-- A good header of port p was taken: lock stands, and no frame has passed since. -/
def HeaderTaken (p : Nat) (h : UpHeader) (t : State) : Prop :=
  t.get .PEN_STATUS_LOCK p = 1 ∧ (t.px p).sinceHeader = 0 ∧ (t.px p).upSeq = h.seq % 4096

theorem HeaderTaken.off {n : Nat} {h : UpHeader} {t u : State} {l : List Spot} (it : ∀ {q : Item}, q.off l = true → itm q u = itm q t)
    (hl : ((Item.reg .PEN_STATUS 0 0).off l && (Item.part .port).off l) = true) (ht : HeaderTaken n h t) : HeaderTaken n h u := by
  obtain ⟨hst, hport⟩ := Bool.and_eq_true_iff.mp hl
  rw [HeaderTaken, get_off it hst, px_off it hport]
  exact ht

/-- A header with a good CRC is taken. -/
def headerTaken (s : State) (p : Nat) (h : UpHeader) : State :=
  ((s.bumpBy .PEN_CNT_BLK_COUNT p h.syncErrs).set .PEN_STATUS_LOCK p 1).modPort p fun x => { x with sinceHeader := 0, upSeq := h.seq % 4096, lostAt := none }

theorem headerTaken_spec (s : State) {n : Nat} (h : UpHeader) (hn : n < 64) : HeaderTaken n h (headerTaken s n h) := by
  rw [HeaderTaken, headerTaken, get_modPort, px_modPort_same]
  exact ⟨get_set_self (f := .PEN_STATUS_LOCK) (by decide) _ _ _ (penStatus_has hn), rfl, rfl⟩

/-- What a header leaves: lock and its count where its CRC is good, the ports as they were where it is not. -/
def HeaderSays (p : Nat) (h : UpHeader) (s t : State) : Prop :=
  (h.crcOk = true → t.on .PEN_STATUS_LOCK p = true ∧ (t.px p).sinceHeader = 0 ∧ (t.px p).upSeq = h.seq % 4096) ∧ (h.crcOk = false → t.port = s.port)

theorem headerSays_of_taken {h : UpHeader} {u : State} (hcrc : h.crcOk = true) (he : exec (.upstreamHeader p h) s = fin u) (hu : HeaderTaken p h u) :
    Completes (.upstreamHeader p h) s (HeaderSays p h s) := by
  obtain ⟨hlock, hcount⟩ := hu.off (it_noteEvents _) (by decide)
  exact completes_fin he ⟨fun _ => ⟨on_eq_true_of_get hlock, hcount⟩, fun hbad => absurd (hcrc.symm.trans hbad) (by decide)⟩

theorem upstreamHeader_locks (h : UpHeader) (hup : s.portUp p = true) : Completes (.upstreamHeader p h) s (HeaderSays p h s) := by
  by_cases hcrc : h.crcOk = true
  · have he : exec (.upstreamHeader p h) s = execUpstreamHeader p h s := rfl
    rw [execUpstreamHeader, if_neg (by rw [hup]; decide), if_neg (by rw [hcrc]; decide)] at he
    extract_lets s1 s2 m want ahead at he
    have h1 : HeaderTaken p h s1 := headerTaken_spec s h p.isLt
    have h2 : HeaderTaken p h s2 := by
      simp only [s2]
      split
      · exact h1.off (it_raise _ _ _) (by decide)
      · exact h1
    split at he
    · exact headerSays_of_taken hcrc he h2
    split at he
    · exact headerSays_of_taken hcrc he (h2.off (it_raise _ _ _) (by decide))
    split at he
    · exact headerSays_of_taken hcrc he h2
    · refine headerSays_of_taken hcrc he ?_
      rw [HeaderTaken, State.announceMode, get_modPort, px_modPort_same]
      exact h2
  · have he : exec (.upstreamHeader p h) s = fin (s.bumpBy .PEN_CNT_BLK_COUNT p h.syncErrs) :=
      (if_neg (by rw [hup]; decide)).trans (if_pos (by simpa using hcrc))
    refine completes_fin he ⟨fun hgood => absurd hgood hcrc, fun _ => ?_⟩
    rw [port_off (it_noteEvents _) (by decide), port_off (it_bumpBy _ _ _ _) (by decide)]

/-! ### A map change takes effect (R71) -/

theorem rd_wr_second {r : Reg} (hs : 0 < r.stride2) (s : State) (i : Nat) (v : Word) {j j' : Nat} (h : j ≠ j') : (s.wr r i j v).rd r i j' = s.rd r i j' := by
  refine rd_wr_index s r i j i j' v fun he => h ?_
  simp only [Reg.addr, Nat.add_left_cancel_iff] at he
  exact Nat.eq_of_mul_eq_mul_right hs he

/-- Entries written one after the other leave the last one for each index. -/
theorem rd_forEach_wr {r : Reg} (hs : 0 < r.stride2) {i k : Nat} (hk : r.has i k = true) (l : List (Nat × Word)) (s : State) :
    (s.forEach l fun t e => t.wr r i e.1 e.2).rd r i k = lastFor l k (s.rd r i k) := by
  induction l generalizing s with
  | nil => rfl
  | cons e l ih =>
    refine (ih (s.wr r i e.1 e.2)).trans (congrArg (lastFor l k) ?_)
    by_cases he : e.1 = k
    · refine Eq.trans ?_ (if_pos he).symm
      rw [he, rd_wr_same s r i k e.2 hk]
    · exact (rd_wr_second hs s i e.2 he).trans (if_neg he).symm

theorem rd_forEach_wr_disj {r q : Reg} (hd : disj r q = true) (i j k : Nat) (l : List (Nat × Word)) (s : State) :
    (s.forEach l fun t e => t.wr r i e.1 e.2).rd q j k = s.rd q j k :=
  forEach_keeps (P := fun t => t.rd q j k = s.rd q j k) _ l s (fun e _ t ht => (rd_wr_disj t r q i e.1 j k e.2 hd).trans ht) rfl

theorem penMap_has {n k : Nat} (hn : n < 64) (hk : k < 16) : Reg.PEN_SMAP.has n k = true ∧ Reg.PEN_BMAP.has n k = true := by
  constructor <;> (rw [Reg.has, Bool.and_eq_true]; exact ⟨decide_eq_true hn, decide_eq_true hk⟩)

theorem epoch_announceMap (s : State) (n : Nat) : ((s.announceMap n).px n).epoch = (s.px n).epoch := by
  unfold State.announceMap
  extract_lets x
  split
  · rfl
  · rw [px_off (it_emit _ _) (by decide), px_modPort_same]

theorem useMap_writes (s : State) {n : Nat} (m : MapChange) (hn : n < 64) : ((s.useMap n m).px n).epoch = ((s.px n).epoch + 1) % 16 ∧
    ∀ k < 16, (s.useMap n m).rd .PEN_SMAP n k = lastFor m.smap k (s.rd .PEN_SMAP n k) ∧ (s.useMap n m).rd .PEN_BMAP n k = lastFor m.bmap k (s.rd .PEN_BMAP n k) := by
  unfold State.useMap
  extract_lets s1 s2
  refine ⟨?_, fun k hk => ?_⟩
  · have hpx : s2.px n = s.px n :=
      forEach_keeps (P := fun t => t.px n = s.px n) _ m.bmap s1 (fun e _ t ht => (px_off (it_wr t .PEN_BMAP n e.1 e.2) (by decide) n).trans ht)
        (forEach_keeps (P := fun t => t.px n = s.px n) _ m.smap s (fun e _ t ht => (px_off (it_wr t .PEN_SMAP n e.1 e.2) (by decide) n).trans ht) rfl)
    rw [epoch_announceMap, px_modPort_same, hpx]
  · obtain ⟨hs, hb⟩ := penMap_has hn hk
    rw [rd_off (it_announceMap _ _) (by decide), rd_off (it_announceMap _ _) (by decide), rd_modPort, rd_modPort]
    constructor
    · rw [rd_forEach_wr_disj (by decide)]
      exact rd_forEach_wr (by decide) hs m.smap s
    · refine (rd_forEach_wr (by decide) hb m.bmap s1).trans ?_
      rw [rd_forEach_wr_disj (by decide)]

theorem mapEpochChange_uses {m : MapChange} (hnow : (s.px p).mapNow = some ((s.px p).seq, m)) : Completes (.mapEpochChange p) s fun t =>
    (t.px p).epoch = ((s.px p).epoch + 1) % 16 ∧ ∀ k < 16, t.rd .PEN_SMAP p k = lastFor m.smap k (s.rd .PEN_SMAP p k) ∧
      t.rd .PEN_BMAP p k = lastFor m.bmap k (s.rd .PEN_BMAP p k) := by
  have he : exec (.mapEpochChange p) s = fin (s.useMap p m) := by
    show execMapEpochChange p s = _
    rw [execMapEpochChange, hnow]
    exact if_pos rfl
  obtain ⟨hepoch, hmap⟩ := useMap_writes s m p.isLt
  refine completes_fin he ⟨?_, fun k hk => ?_⟩
  · rw [px_off (it_noteEvents _) (by decide), hepoch]
  · rw [rd_off (it_noteEvents _) (by decide), rd_off (it_noteEvents _) (by decide)]
    exact hmap k hk

end

end Sys2Proof.Proofs
end

section
/-! OBLIGATION O50: low power and counters, and the whole. -/

namespace Sys2Proof.Proofs

open Sys2Proof.Machine Sys2Proof.Laws

/-! ### LOWPOWER (R87) -/

/-- Port p is in LOWPOWER: without lock, its LINK grant returned. -/
def LowPower (p : Nat) (t : State) : Prop := t.pstate p = 8 ∧ t.on .PEN_STATUS_LOCK p = false ∧ tabGet t.breath.link p none = none

theorem LowPower.noteEvents {n : Nat} {t : State} (h : LowPower n t) : LowPower n t.noteEvents := by
  rw [LowPower, State.pstate, get_off (it_noteEvents _) (by decide), on_off (it_noteEvents _) (by decide), breath_off (it_noteEvents _) (by decide)]
  exact h

theorem enterLowPower_low (s : State) {n : Nat} (hn : n < 64) : LowPower n (s.enterLowPower n) := by
  unfold State.enterLowPower
  extract_lets s1
  have hst : ∀ f : Fld, f.reg = .PEN_STATUS → s1.get f n = ((s.portStep n 8).set .PEN_STATUS_LOCK n 0).get f n := fun f hf => get_off (it_raise _ _ _) (hf ▸ by decide)
  have hpstate : s1.pstate n = 8 := by
    rw [State.pstate, hst _ rfl, get_set_otherField (f := .PEN_STATUS_LOCK) (g := .PEN_STATUS_PSTATE) rfl (by decide) (by decide), State.portStep, get_modPort,
      get_set_self (by decide) _ _ _ (penStatus_has hn)]
    rfl
  have hlock : s1.get .PEN_STATUS_LOCK n = 0 := (hst _ rfl).trans (get_set_self (by decide) _ _ _ (penStatus_has hn))
  have hdrops : ∀ l : List Nat, (s1.forEach l fun t k => t.modDrop k fun d => { d with safe := true }).rd .PEN_STATUS n = s1.rd .PEN_STATUS n := fun l =>
    forEach_keeps (P := fun t => t.rd .PEN_STATUS n = s1.rd .PEN_STATUS n) _ l s1 (fun _ _ _ ht => ht) rfl
  obtain ⟨-, hstatus, hlink⟩ := returnLink_idle (s1.forEach ((mnsOf n).filter fun k => s.mst k != 0) fun t k => t.modDrop k fun d => { d with safe := true }) n
  have hrd := hstatus.trans (hdrops _)
  exact ⟨(get_of_rd (f := .PEN_STATUS_PSTATE) hrd).trans hpstate, on_eq_false_of_get ((get_of_rd (f := .PEN_STATUS_LOCK) hrd).trans hlock), hlink⟩

/-- What keeps a port out of LOWPOWER is seen in its state, its map, the drops' channels and the transitions. -/
theorem portIdle_off {s t : State} {l : List Spot} (it : ∀ {q : Item}, q.off l = true → itm q t = itm q s)
    (hl : ([Reg.PEN_STATUS, .PEN_SMAP, .PEN_BMAP, .MECH_STATE].all (fun r => (Item.reg r 0 0).off l) && ((Item.part .port).off l && (Item.part .drop).off l)) = true)
    (n : Nat) : t.portIdle n = s.portIdle n := by
  rw [Bool.and_eq_true, Bool.and_eq_true, List.all_eq_true] at hl
  obtain ⟨hregs, hport, hdrop⟩ := hl
  have hup : t.portUp n = s.portUp n := by
    rw [State.portUp, State.pstate, get_off it (hregs .PEN_STATUS (by simp))]
    rfl
  have hpos : t.positions n = s.positions n := by
    simp only [State.positions, State.smapView, px_off it hport, rd_off it (hregs .PEN_SMAP (by simp))]
  have hbursts : t.bursts n = s.bursts n := by
    simp only [State.bursts, State.bmapView, px_off it hport, rd_off it (hregs .PEN_BMAP (by simp))]
  simp only [State.portIdle, hup, hpos, hbursts, dx_off it hdrop, on_off it (f := .MECH_STATE_BUSY) (hregs .MECH_STATE (by simp))]

section
variable {p : PortIx} {s : State}

theorem lowpowerEntry_enters (hen : s.on .PEN_CFG_LP_EN p = true) (hidle : s.portIdle p = true)
    (hlong : (s.px p).busyAt + us (s.get .PEN_LP_IDLE_US p) ≤ s.now) : Completes (.lowpowerEntry p) s (LowPower p) := by
  have he : exec (.lowpowerEntry p) s = fin (s.enterLowPower p) := if_pos (by rw [hen, hidle, decide_eq_true hlong]; rfl)
  exact completes_fin he (enterLowPower_low s p.isLt).noteEvents

theorem sleep_enters (hen : s.on .PEN_CFG_LP_EN p = true) (hidle : s.portIdle p = true) (hopen : s.closed = false) : Completes (.sleep p) s (LowPower p) := by
  have he : exec (.sleep p) s = fin ((s.dozeWake 2).enterLowPower p) := by
    show execSleep p s = _
    rw [execSleep, regCmd_open hopen, on_off (it_dozeWake _ _) (by decide), portIdle_off (it_dozeWake s 2) (by decide), hen, hidle]
    rfl
  exact completes_fin he (enterLowPower_low _ p.isLt).noteEvents

/-! ### The wake (R88) -/

theorem linkGranted_wake {t : State} {n : Nat} (hn : n < 64) (hw : (t.px n).want = .wake) : (t.linkGranted n).pstate n = 9 := by
  have he : t.linkGranted n = (t.modPort n fun x => { x with want := .none }).portStep n 9 := by rw [State.linkGranted, hw]
  rw [he, State.pstate, State.portStep, get_modPort, get_set_self (by decide) _ _ _ (penStatus_has hn)]
  rfl

/-- A port whose LINK grant is free wakes at once. -/
theorem requestLink_wake {t : State} {n : Nat} (hn : n < 64) (h : LinkFree t n) : (t.requestLink n .wake).pstate n = 9 := by
  unfold State.requestLink
  extract_lets t1
  have hw : (t1.px n).want = .wake := congrArg PortX.want (px_modPort_same t n _)
  have h1 : LinkFree t1 n := linkFree_off (it_modPort t n _) (by decide) h
  split
  · exact linkGranted_wake hn hw
  · next hlink =>
    obtain ⟨hno, hg⟩ := h1.resolve_left fun hheld => hheld hlink
    have hany : ¬ (t.breath.reqs.any fun r => r.cls == 1 && r.who == n) = true := by
      simp only [List.any_eq_true, Bool.and_eq_true, beq_iff_eq]
      exact fun ⟨q, hq, hmine⟩ => (hno q hq).2 hmine
    rw [if_neg hany]
    obtain ⟨q, hq, he⟩ := request_grants (fun q hq => (hno q hq).1) rfl hg
    have hwho : q.who = n := hq.who
    show (t1.request { cls := 1, who := n, dom := t1.get .BRTH_PORT_DOMAIN n, mw := t1.get .BRTH_PORT_LINK_MW n, at_ := t1.now }).1.pstate n = 9
    rw [he, State.pstate, get_off (it_noteOvercommit _ _) (by decide), granted, makeGrant_link _ hq.cls, hwho]
    refine linkGranted_wake hn ?_
    show ((asked t1 _).px n).want = _
    rw [px_off (it_asked _ _) (by decide), hw]

theorem portWake_wakes (hopen : s.closed = false) (hlow : s.pstate p = 8) (h : LinkFree s p) : Completes (.portWake p) s fun t => t.pstate p = 9 := by
  have hlow' : (s.dozeWake 2).pstate p = 8 := (get_off (it_dozeWake s 2) (by decide)).trans hlow
  have he : exec (.portWake p) s = fin ((s.dozeWake 2).requestLink p .wake) := by
    show execPortWake p s = _
    rw [execPortWake, regCmd_open hopen, State.wakePort, if_pos hlow']
  refine completes_fin he ?_
  rw [State.pstate, get_off (it_noteEvents _) (by decide)]
  exact requestLink_wake p.isLt (linkFree_off (it_dozeWake s 2) (by decide) h)

/-! ### The counters -/

/-- Registers that do not meet are each 0 after all were cleared. -/
theorem forEach_clears {r : Reg} {i : Nat} (hr : r.has i 0 = true) {l : List Reg} (hl : l.Pairwise fun a b => disj b a = true) (hm : r ∈ l) (t : State) :
    (t.forEach l fun u q => u.wr q i 0 0).rd r i = 0 := by
  induction l generalizing t with
  | nil => exact absurd hm List.not_mem_nil
  | cons a l ih =>
    obtain ⟨hrest, hl'⟩ := List.pairwise_cons.mp hl
    rcases List.mem_cons.mp hm with rfl | hm'
    · have hkept : ((t.wr r i 0 0).forEach l fun u q => u.wr q i 0 0).rd r i = (t.wr r i 0 0).rd r i :=
        forEach_keeps (P := fun u => u.rd r i = (t.wr r i 0 0).rd r i) _ l _ (fun q hq u hu => (rd_wr_disj u q r i 0 i 0 0 (hrest q hq)).trans hu) rfl
      exact hkept.trans (rd_wr_same t r i 0 0 hr)
    · exact ih hl' hm' (t.wr a i 0 0)

/-- The counters of a port. -/
def countRegs : List Reg := [.PEN_CNT_CRC, .PEN_CNT_MISS, .PEN_CNT_REPEAT, .PEN_CNT_BLK, .PEN_CNT_MGMT, .PEN_CNT_TRAIN]

theorem countRegs_off {l : List Spot} (h : (countRegs.all fun r => (Item.reg r 0 0).off l) = true) {r : Reg} (hr : r ∈ countRegs) : (Item.reg r 0 0).off l = true :=
  List.all_eq_true.mp h r hr

theorem countRegs_has {r : Reg} (hr : r ∈ countRegs) {n : Nat} (hn : n < 64) : r.has n 0 = true := by
  have hall : ∀ q ∈ countRegs, q.count = 64 ∧ q.count2 = 1 := by decide
  exact portReg_has (hall r hr).1 (hall r hr).2 hn

theorem clrCnt_clears (hopen : s.closed = false) : Completes (.clrCnt p) s fun t => ∀ r ∈ countRegs, t.rd r p = 0 := by
  have he : exec (.clrCnt p) s = fin ((s.dozeWake 2).forEach countRegs fun t r => t.wr r p 0 0) := by
    show execClrCnt p s = _
    rw [execClrCnt, regCmd_open hopen]
    rfl
  refine completes_fin he fun r hr => ?_
  rw [rd_off (it_noteEvents _) (countRegs_off (by decide) hr)]
  exact forEach_clears (countRegs_has hr p.isLt) (by decide) hr _

end

/-- Settles O50: lanes, modes, frames, headers, map changes, low power and counters of a port, each from what its command does. That a lane loss leaves an
announced mode as it is, to be announced after it, is the model's (notes/assumptions/92.md). -/
theorem portLanesAndPower : Obligations.PortLanesAndPower := by
  unfold Obligations.PortLanesAndPower
  exact ⟨fun p lane s => ⟨txOvercurrent_shuts, fun l hl hdue => txOvercurrentRetry_tries hl hdue, fun hup => laneLoss_announces hup⟩,
    fun p lock s hup hm hheld hdue => laneRejoinAttempt_tries lock hup hm hheld hdue,
    fun p s hup hm hnext hlong => laneRejoin_announces hup hm hnext hlong,
    fun p loopNs m s hnext => laneModeSwitch_switches hnext,
    fun p s hup hdue => by
      obtain ⟨t, hstep, ⟨hseq, hout, hrate⟩, hlock⟩ := frameTick_sends hup hdue
      exact ⟨t, hstep, hseq, hout, hrate, hlock⟩,
    fun p h s hup => upstreamHeader_locks h hup,
    fun p s m hnow => mapEpochChange_uses hnow,
    fun p s hen hidle => ⟨fun hlong => lowpowerEntry_enters hen hidle hlong, fun hopen => sleep_enters hen hidle hopen⟩,
    fun p s hopen hlow h => portWake_wakes hopen hlow h,
    fun p s hopen => clrCnt_clears hopen⟩

end Sys2Proof.Proofs
end

section
/-! SUPPORT. The registers of a cluster, of its slots and of the engine's commands: where a write of one of them shows (R90, R104, R121), and what the wake of
a dozing device by a register command leaves alone (R428). -/

namespace Sys2Proof.Proofs

open Sys2Proof.Machine Sys2Proof.Laws

/-! ### Registers -/

/-- A cluster's register exists for each of the 17 clusters. -/
theorem clusterReg_has {r : Reg} (hr : r.count = 17) {c : Nat} (hc : c < 17) : r.has c 0 = true := by
  simp only [Reg.has, hr, Bool.and_eq_true, decide_eq_true_eq]
  omega

/-- The arrays that hold a dword for each slot of each cluster. -/
def slotRegs : List Reg := [.CIRQ_SLOT, .CIRQ_LSTAT, .CIRQ_ANGLE]

theorem slotReg_shape {r : Reg} (hr : r ∈ slotRegs) : r.count = 17 ∧ r.count2 = 32 ∧ r.stride = 0x8000 ∧ r.stride2 = 4 := by
  simp only [slotRegs, List.mem_cons, List.not_mem_nil, or_false] at hr
  rcases hr with rfl | rfl | rfl <;> exact ⟨rfl, rfl, rfl, rfl⟩

theorem slotReg_has {r : Reg} (hr : r ∈ slotRegs) {c k : Nat} (hc : c < 17) (hk : k < 32) : r.has c k = true := by
  obtain ⟨h, h2, -, -⟩ := slotReg_shape hr
  simp only [Reg.has, h, h2, Bool.and_eq_true, decide_eq_true_eq]
  omega

theorem rd_wr_otherSlot {r : Reg} (hr : r ∈ slotRegs) (s : State) {c k c' k' : Nat} (v : Word) (h : c ≠ c' ∨ k ≠ k') :
    (s.wr r c k v).rd r c' k' = s.rd r c' k' := by
  obtain ⟨h1, h2, h3, h4⟩ := slotReg_shape hr
  refine rd_wr_addr _ _ _ _ _ _ _ _ fun ha hb => ?_
  simp only [Reg.has, h1, h2, Bool.and_eq_true, decide_eq_true_eq] at ha hb
  simp only [Reg.addr, h3, h4]
  omega

/-- Another field of the same array, at any index. -/
theorem get_set2_slotField {f g : Fld} (hf : f.reg ∈ slotRegs) (hr : g.reg = f.reg) (hb : beside f g = true) (s : State) (c k v c' k' : Nat) :
    (s.set2 f c k v).get g c' k' = s.get g c' k' := by
  by_cases h : c = c' ∧ k = k'
  · obtain ⟨rfl, rfl⟩ := h
    exact get_set2_beside hr hb s c k v
  · rw [State.get, State.set2, hr, rd_wr_otherSlot hf _ _ (by omega), ← hr]
    rfl

/-- What holds once an element has been taken, where no other element breaks what is so before and after it, holds at the end. -/
theorem forEach_once {α : Type} {P Q : State → Prop} {f : State → α → State} {l : List α} {a : α} (hl : l.Nodup) (ha : a ∈ l) {s : State} (hs : P s)
    (hP : ∀ b ∈ l, b ≠ a → ∀ t, P t → P (f t b)) (hPQ : ∀ t, P t → Q (f t a)) (hQ : ∀ b ∈ l, b ≠ a → ∀ t, Q t → Q (f t b)) : Q (s.forEach l f) := by
  obtain ⟨l₁, l₂, rfl⟩ := List.append_of_mem ha
  obtain ⟨-, h2, hd⟩ := List.nodup_append.mp hl
  rw [State.forEach, List.foldl_append]
  refine forEach_keeps f l₂ _ (fun b hb => hQ b (by simp [hb]) ?_) (hPQ _ (forEach_keeps f l₁ s (fun b hb => hP b (by simp [hb]) ?_) hs))
  · rintro rfl
    exact (List.nodup_cons.mp h2).1 hb
  · exact hd b hb a List.mem_cons_self

/-! ### Register commands -/

theorem dozeWake_get {f : Fld} (h : (Item.reg f.reg 0 0).off foot_dozeWake = true) (s : State) (i j : Nat) : (s.dozeWake 2).get f i j = s.get f i j :=
  get_off (it_dozeWake s 2) h

theorem dozeWake_on {f : Fld} (h : (Item.reg f.reg 0 0).off foot_dozeWake = true) (s : State) (i j : Nat) : (s.dozeWake 2).on f i j = s.on f i j :=
  on_off (it_dozeWake s 2) h

theorem dozeWake_cirq (s : State) : (s.dozeWake 2).cirq = s.cirq := cirq_off (it_dozeWake s 2) (by decide)

theorem dozeWake_servo (s : State) : (s.dozeWake 2).servo = s.servo := servo_off (it_dozeWake s 2) (by decide)

theorem dozeWake_sx (s : State) (n : Nat) : (s.dozeWake 2).sx n = s.sx n := sx_off (it_dozeWake s 2) (by decide) n

theorem dozeWake_lx (s : State) (n l : Nat) : (s.dozeWake 2).lx n l = s.lx n l := by rw [State.lx, dozeWake_sx]; rfl

theorem dozeWake_px (s : State) (p : Nat) : (s.dozeWake 2).px p = s.px p := px_off (it_dozeWake s 2) (by decide) p

theorem dozeWake_now (s : State) : (s.dozeWake 2).now = s.now := now_off (it_dozeWake s 2) (by decide)

theorem dozeWake_clsOf (s : State) (n : Nat) : (s.dozeWake 2).clsOf n = s.clsOf n := by rw [State.clsOf, mx_off (it_dozeWake s 2) (by decide)]; rfl

theorem dozeWake_holdsSlot (s : State) (n : Nat) : (s.dozeWake 2).holdsSlot n = s.holdsSlot n := dozeWake_on (by decide) s n 0

theorem dozeWake_clusterOf (s : State) (n : Nat) : (s.dozeWake 2).clusterOf n = s.clusterOf n := dozeWake_get (by decide) s n 0

theorem dozeWake_ls (s : State) (n l : Nat) : (s.dozeWake 2).ls n l = s.ls n l := ls_off (it_dozeWake s 2) (by decide) (by decide) n l

theorem dozeWake_libRec (s : State) (c l f : Nat) : (s.dozeWake 2).libRec c l f = s.libRec c l f := by rw [State.libRec, dozeWake_cirq]; rfl

end Sys2Proof.Proofs
end

section
/-! SUPPORT. Cluster faults, tests and the commands of CIRQ_HO_CMD (R113, R117, R121, R123): what CIRQ_HO_STAT, CIRQ_STATUS and the engine's record show. -/

namespace Sys2Proof.Proofs

open Sys2Proof.Machine Sys2Proof.Laws

/-! ### CIRQ_HO_STAT -/

theorem hoStat_busy (s : State) (src dst cause : Nat) : (s.hoStat src dst cause).on .CIRQ_HO_STAT_BUSY = true := by
  refine on_eq_true_of_get ?_
  unfold State.hoStat
  simp (disch := with_unfolding_all exact id rfl) only [get_set0_beside]
  exact get_set0_self (by decide) _ _ (by decide)

/-- A handover or planned operation that starts shows itself (R113). -/
theorem hoStat_shows (s : State) {src dst cause : Nat} (hs : src < 32) (hd : dst < 32) (hc : cause < 8) : (s.hoStat src dst cause).on .CIRQ_HO_STAT_BUSY = true ∧
    (s.hoStat src dst cause).get .CIRQ_HO_STAT_CAUSE = cause ∧ (s.hoStat src dst cause).get .CIRQ_HO_STAT_FROM = src ∧
    (s.hoStat src dst cause).get .CIRQ_HO_STAT_TO = dst := by
  refine ⟨hoStat_busy s src dst cause, ?_, ?_, ?_⟩ <;> unfold State.hoStat <;> simp (disch := with_unfolding_all exact id rfl) only [get_set0_beside]
  · exact (get_set0_self (by decide) _ _ (by decide)).trans (Nat.mod_eq_of_lt hc)
  · exact (get_set0_self (by decide) _ _ (by decide)).trans (Nat.mod_eq_of_lt hs)
  · exact (get_set0_self (by decide) _ _ (by decide)).trans (Nat.mod_eq_of_lt hd)

theorem hoResult_set0 (s : State) {r : Nat} (h : r < 8) : (s.set0 .CIRQ_HO_STAT_RESULT r).get .CIRQ_HO_STAT_RESULT = r :=
  (get_set0_self (by decide) _ _ (by decide)).trans (Nat.mod_eq_of_lt h)

/-! ### The role of a cluster -/

theorem clusterStatus_set {f : Fld} (hf : f.reg = .CIRQ_STATUS) (hfit : Fld.fits f = true) (s : State) {c : Nat} (hc : c < 17) (v : Nat) :
    (s.set f c v).get f c = v % 2 ^ f.width := get_set_self hfit _ _ _ (hf ▸ clusterReg_has rfl hc)

theorem testCluster_role (s : State) {c : Nat} (op : Nat) (hc : c < 17) :
    (s.testCluster c op).get .CIRQ_STATUS_ROLE c = if op = 2 ∨ op = 5 then 3 else 2 := by
  rw [State.testCluster, get_off (it_requestTest _ _ _) (by decide), get_modCirq, clusterStatus_set rfl (by decide) _ hc]
  split <;> rfl

theorem testCluster_cirq (s : State) (c op : Nat) : (s.testCluster c op).cirq = { s.cirq with testOp := tabPut s.cirq.testOp c op 0 } := by
  rw [State.testCluster, cirq_off (it_requestTest _ _ _) (by decide), State.modCirq, set_cirq]

theorem spare_lt {s : State} {d : Nat} (h : s.spare = some d) : d < 17 := by
  unfold State.spare at h
  cases hf : (List.range 17).find? fun c => s.get .CIRQ_STATUS_ROLE c == 1 with
  | none => simp [hf] at h
  | some e =>
    have hlt : e < 17 := List.mem_range.mp (List.mem_of_find?_eq_some hf)
    have hd : e = d := by
      rw [hf] at h
      dsimp only at h
      (repeat' split at h) <;> simp_all
    exact hd ▸ hlt

/-! ### Cluster faults (R113 to R117) -/

theorem rstCause_shown (s : State) : (s.raise .RST_CAUSE_CLUSTER).on .RST_CAUSE_CLUSTER = true :=
  on_eq_true_of_get (get_raise_self (by decide) _ _ (by decide) (by decide))

/-- The event that shows a fault of this cause (R113). -/
def faultEvent (cause : Fin 3) : Fld :=
  match cause.val with
  | 0 => .CIRQ_EVENT_MISMATCH
  | 1 => .CIRQ_EVENT_PARITY
  | _ => .CIRQ_EVENT_DBE

/-- The fault is shown and counted. -/
def clusterFaultCounted (c : ClusterIx) (cause : Fin 3) (s : State) : State :=
  (((s.raise (faultEvent cause) c).bump .CIRQ_CNT_FAULTS c).raise .RST_CAUSE_CLUSTER).modCirq fun q =>
    { q with faults := tabPut q.faults c (tabGet q.faults c 0 + 1) 0 }

/-- What is done about the fault leaves RST_CAUSE as it was. -/
theorem execClusterFault_off (c : ClusterIx) (cause : Fin 3) (s : State) :
    itOut (.reg .RST_CAUSE 0 0) (execClusterFault c cause s) (clusterFaultCounted c cause s) := by
  unfold execClusterFault
  extract_lets +onlyGivenNames s1 s2 role
  have h2 : s2 = clusterFaultCounted c cause s := by fin_cases cause <;> rfl
  clear_value s2
  subst h2
  dsimp only
  (repeat' split) <;> simp (disch := decide)

theorem clusterFault_cause (c : ClusterIx) (cause : Fin 3) (s : State) :
    Completes (.clusterFault c cause) s fun t => t.on .RST_CAUSE_CLUSTER = true := by
  refine completes_of_next (next_execClusterFault c cause s) fun t ht => ?_
  have hrd : t.rd .RST_CAUSE = (clusterFaultCounted c cause s).rd .RST_CAUSE := congrArg Prod.fst (execClusterFault_off c cause s t ht)
  rw [on_of_get (get_of_rd (f := .RST_CAUSE_CLUSTER) hrd), clusterFaultCounted, on_of_get (get_modCirq _ _ _ _ _)]
  exact rstCause_shown _

/-- An ACTIVE cluster that faults is tested (R113, R117). -/
theorem clusterFault_tests {c : ClusterIx} (cause : Fin 3) {s : State} (hrole : s.get .CIRQ_STATUS_ROLE c = 0) :
    Completes (.clusterFault c cause) s fun t => t.get .CIRQ_STATUS_ROLE c = 2 := by
  refine completes_of_next (next_execClusterFault c cause s) fun t ht => ?_
  replace ht : execClusterFault c cause s = .next t := ht
  unfold execClusterFault at ht
  extract_lets s1 s2 role s3 s4 planned at ht
  have hr : role = 0 := hrole
  rw [if_neg (by omega), if_pos hr] at ht
  have htest := testCluster_role s2 0 c.isLt
  split at ht <;> cases ht
  · rw [get_off (it_noteEvents _) (by decide), get_modCirq, get_off (it_hoTime _) (by decide), get_off (it_hoStat _ _ _ _) (by decide)]
    exact htest
  · rw [get_off (it_noteEvents _) (by decide), get_off (it_hoFault _ _ _ _) (by decide), get_modCirq]
    exact htest

/-- With a spare and no handover under way its slots are to be handed over to the spare (R114). -/
theorem clusterFault_handsOver {c : ClusterIx} (cause : Fin 3) {s : State} {d : Nat} (hrole : s.get .CIRQ_STATUS_ROLE c = 0) (hho : s.cirq.ho = none)
    (hspare : s.spare = some d) : Completes (.clusterFault c cause) s fun t => t.cirq.ho = some { src := c, dst := d, at_ := s.now } ∧
      t.on .CIRQ_HO_STAT_BUSY = true ∧ t.get .CIRQ_HO_STAT_CAUSE = cause.val + 1 ∧ t.get .CIRQ_HO_STAT_FROM = c.val ∧ t.get .CIRQ_HO_STAT_TO = d := by
  have he : exec (.clusterFault c cause) s = fin (((((clusterFaultCounted c cause s).testCluster c 0).hoStat c d (cause.val + 1)).hoTime).modCirq fun q =>
      { q with ho := some { src := c, dst := d, at_ := s.now } }) := by
    show execClusterFault c cause s = _
    fin_cases cause <;> simp [execClusterFault, clusterFaultCounted, faultEvent, hrole, hho, hspare]
  have hcause := cause.isLt
  obtain ⟨h1, h2, h3, h4⟩ := hoStat_shows ((clusterFaultCounted c cause s).testCluster c 0) (src := c) (dst := d) (cause := cause.val + 1) (by omega)
    (Nat.lt_trans (spare_lt hspare) (by decide)) (by omega)
  refine completes_fin he ⟨?_, ?_, ?_, ?_, ?_⟩
  · rw [cirq_off (it_noteEvents _) (by decide)]
    rfl
  · rw [on_off (it_noteEvents _) (by decide), on_of_get (get_modCirq _ _ _ _ _), on_off (it_hoTime _) (by decide), h1]
  · rw [get_off (it_noteEvents _) (by decide), get_modCirq, get_off (it_hoTime _) (by decide), h2]
  · rw [get_off (it_noteEvents _) (by decide), get_modCirq, get_off (it_hoTime _) (by decide), h3]
  · rw [get_off (it_noteEvents _) (by decide), get_modCirq, get_off (it_hoTime _) (by decide), h4]

/-- Without a spare no cluster computes its slots (R116). -/
theorem clusterFault_leavesOut {c : ClusterIx} (cause : Fin 3) {s : State} (hrole : s.get .CIRQ_STATUS_ROLE c = 0) (hho : s.cirq.ho = none)
    (hspare : s.spare = none) : Completes (.clusterFault c cause) s fun t => c.val ∈ t.cirq.uncomputed := by
  have he : exec (.clusterFault c cause) s = fin ((((clusterFaultCounted c cause s).testCluster c 0).modCirq fun q =>
      { q with uncomputed := c.val :: q.uncomputed.filter fun x => x != c.val }).hoFault c (cause.val + 1) 1) := by
    show execClusterFault c cause s = _
    fin_cases cause <;> simp [execClusterFault, clusterFaultCounted, faultEvent, hrole, hho, hspare]
  refine completes_fin he ?_
  rw [cirq_off (it_noteEvents _) (by decide), cirq_off (it_hoFault _ _ _ _) (by decide)]
  exact List.mem_cons_self

theorem clusterFault_testsSpare {c : ClusterIx} (cause : Fin 3) {s : State} (hrole : s.get .CIRQ_STATUS_ROLE c = 1) (hho : s.cirq.ho = none) :
    Completes (.clusterFault c cause) s fun t => t.get .CIRQ_STATUS_ROLE c = 2 := by
  have he : exec (.clusterFault c cause) s = fin (((clusterFaultCounted c cause s).testCluster c 0).hoFault c (cause.val + 1) 0) := by
    show execClusterFault c cause s = _
    fin_cases cause <;> simp [execClusterFault, clusterFaultCounted, faultEvent, hrole, hho]
  refine completes_fin he ?_
  rw [get_off (it_noteEvents _) (by decide), get_off (it_hoFault _ _ _ _) (by decide)]
  exact testCluster_role _ 0 c.isLt

/-! ### The end of a test (R117, R121, R123) -/

/-- A test that ends shows its result: LAST_TEST and its event. -/
def testShown (s : State) (c : Nat) (pass : Bool) : State :=
  ((s.returnBist 1 c).set .CIRQ_STATUS_LAST_TEST c (if pass then 1 else 2)).raise (if pass then .CIRQ_EVENT_TEST_PASS else .CIRQ_EVENT_TEST_FAIL) c

theorem testShown_lastTest (s : State) {c : Nat} (hc : c < 17) (pass : Bool) :
    (testShown s c pass).get .CIRQ_STATUS_LAST_TEST c = if pass then 1 else 2 := by
  have hset : ((s.returnBist 1 c).set .CIRQ_STATUS_LAST_TEST c (if pass then 1 else 2)).get .CIRQ_STATUS_LAST_TEST c = if pass then 1 else 2 := by
    rw [clusterStatus_set rfl (by decide) _ hc]
    cases pass <;> rfl
  cases pass
  · exact (get_set2_disj (by decide) _ _ _ _ _ _).trans hset
  · exact (get_set2_disj (by decide) _ _ _ _ _ _).trans hset

theorem testShown_failed (s : State) {c : Nat} (hc : c < 17) : (testShown s c false).get .CIRQ_EVENT_TEST_FAIL c = 1 :=
  get_raise_self (by decide) _ _ (clusterReg_has rfl hc) (by decide)

/-- The role of a cluster whose test passes: spare unless another cluster is. -/
def testedRole (s : State) (c : Nat) : Nat := if (List.range 17).any fun x => x != c && s.get .CIRQ_STATUS_ROLE x == 1 then 0 else 1

/-- The cluster returns to service, or is OUT_OF_SERVICE. -/
def testRoled (s : State) (c : Nat) (serves : Bool) (u : State) : State :=
  if serves then u.set .CIRQ_STATUS_ROLE c (testedRole s c) else (u.set .CIRQ_STATUS_ROLE c 4).raise .CIRQ_EVENT_OOS c

/-- In CIRQ_STATUS and CIRQ_EVENT a test that ends shows its result and what becomes of the cluster, which serves again where the test passes and the faults
stay below the limit. -/
theorem clusterTestEnd_shows {s : State} {c : Nat} (hc : c < 17) (pass : Bool) (hrole : s.get .CIRQ_STATUS_ROLE c = 2 ∨ s.get .CIRQ_STATUS_ROLE c = 3) :
    ∃ (u : State) (serves : Bool), u.get .CIRQ_STATUS_LAST_TEST c = (testShown s c pass).get .CIRQ_STATUS_LAST_TEST c ∧
      (pass = false → u.get .CIRQ_EVENT_TEST_FAIL c = 1 ∧ serves = false) ∧
      (pass = true → s.get .CIRQ_GCFG_FAULT_LIMIT = 0 ∨ tabGet s.cirq.faults c 0 < s.get .CIRQ_GCFG_FAULT_LIMIT → serves = true) ∧
      ∀ f : Fld, f.reg = .CIRQ_STATUS ∨ f.reg = .CIRQ_EVENT → (s.clusterTestEnd c pass).get f c = (testRoled s c serves u).get f c := by
  unfold State.clusterTestEnd
  extract_lets +onlyGivenNames role
  have hr : role = 2 ∨ role = 3 := hrole
  clear_value role
  rw [if_neg (by omega)]
  extract_lets op s1 n s2 lim s3 s4
  have hs1 : s1 = testShown s c pass := rfl
  have hn : n ≤ tabGet s.cirq.faults c 0 := by simp only [n]; split <;> omega
  have hn0 : lim = 0 ∨ tabGet s.cirq.faults c 0 < lim → ¬ (lim ≠ 0 ∧ lim ≤ n) := by omega
  refine ⟨s3, decide (pass ∧ ¬ (lim ≠ 0 ∧ lim ≤ n)), ?_, fun hp => ⟨?_, ?_⟩, fun hp hl => ?_, fun f hf => ?_⟩
  · have hoff : ∀ {q : Item}, q.off (spots [foot_modCirq] [.f .CIRQ_UCODE_VERSION, .f .CIRQ_EVENT_UCODE_DONE]) = true → itm q s3 = itm q s1 := by
      intro q hq
      simp only [off_spots, List.all_cons, List.all_nil, off_cons_cons, Bool.and_true, Bool.and_eq_true] at hq
      simp [hq, s3, s2]
    rw [get_off hoff (by decide), hs1]
  · subst hp
    simpa [s3, s2, hs1] using testShown_failed s hc
  · simp [hp]
  · simp [hp, hn0 hl]
  · have hoff : ∀ {q : Item}, q.off (spots [foot_logEntry] [.f .CIRQ_HO_STAT_BUSY, .f .CIRQ_HO_STAT_RESULT]) = true →
        itm q (if op = 0 ∨ op = 5 then s4 else (s4.set0 .CIRQ_HO_STAT_BUSY 0).set0 .CIRQ_HO_STAT_RESULT (if pass then 0 else 6)) =
          itm q (testRoled s c (decide (pass ∧ ¬ (lim ≠ 0 ∧ lim ≤ n))) s3) := by
      intro q hq
      simp only [off_spots, off_cons_cons, List.all_cons, List.all_nil, Bool.and_true, Bool.and_eq_true] at hq
      simp only [s4, testRoled]
      by_cases hs : pass = true ∧ ¬ (lim ≠ 0 ∧ lim ≤ n)
      · rw [if_pos hs, decide_eq_true hs, if_pos rfl, testedRole]
        split <;> simp only [it_set0, hq]
      · rw [if_neg hs, decide_eq_false hs, if_neg Bool.false_ne_true]
        split <;> simp only [it_set0, it_logEntry, hq]
    rcases hf with hf | hf <;> exact get_off hoff (hf ▸ by decide)

theorem testRoled_lastTest (s u : State) (c : Nat) (serves : Bool) :
    (testRoled s c serves u).get .CIRQ_STATUS_LAST_TEST c = u.get .CIRQ_STATUS_LAST_TEST c := by
  unfold testRoled
  split
  · exact get_set_beside (f := .CIRQ_STATUS_ROLE) (g := .CIRQ_STATUS_LAST_TEST) rfl (by decide) _ _ _
  · exact (get_set2_disj (by decide) _ _ _ _ _ _).trans (get_set_beside (f := .CIRQ_STATUS_ROLE) (g := .CIRQ_STATUS_LAST_TEST) rfl (by decide) _ _ _)

theorem testRoled_serves (s u : State) {c : Nat} (hc : c < 17) : (testRoled s c true u).get .CIRQ_STATUS_ROLE c = testedRole s c := by
  rw [testRoled, if_pos rfl, clusterStatus_set rfl (by decide) _ hc, testedRole]
  split <;> rfl

theorem testRoled_out (s u : State) {c : Nat} (hc : c < 17) : (testRoled s c false u).get .CIRQ_STATUS_ROLE c = 4 ∧
    (testRoled s c false u).get .CIRQ_EVENT_OOS c = 1 ∧ (testRoled s c false u).get .CIRQ_EVENT_TEST_FAIL c = u.get .CIRQ_EVENT_TEST_FAIL c := by
  rw [testRoled, if_neg Bool.false_ne_true]
  refine ⟨?_, get_raise_self (by decide) _ _ (clusterReg_has rfl hc) (by decide), ?_⟩
  · exact (get_set2_disj (by decide) _ _ _ _ _ _).trans (clusterStatus_set rfl (by decide) _ hc 4)
  · rw [get_raise_beside (f := .CIRQ_EVENT_OOS) (g := .CIRQ_EVENT_TEST_FAIL) rfl (by decide)]
    exact get_set2_disj (by decide) _ _ _ _ _ _

theorem clusterTestDone_shows {c : ClusterIx} (pass : Bool) {s : State} (hbist : s.underBist 1 c = false)
    (hrole : s.get .CIRQ_STATUS_ROLE c = 2 ∨ s.get .CIRQ_STATUS_ROLE c = 3) : Completes (.clusterTestDone c pass) s fun t =>
      t.get .CIRQ_STATUS_LAST_TEST c = (if pass then 1 else 2) ∧
      (pass = true → s.get .CIRQ_GCFG_FAULT_LIMIT = 0 ∨ tabGet s.cirq.faults c 0 < s.get .CIRQ_GCFG_FAULT_LIMIT →
        t.get .CIRQ_STATUS_ROLE c = testedRole s c) ∧
      (pass = false → t.get .CIRQ_STATUS_ROLE c = 4 ∧ t.on .CIRQ_EVENT_OOS c = true ∧ t.on .CIRQ_EVENT_TEST_FAIL c = true) := by
  obtain ⟨u, serves, hlast, hfail, hpass, hall⟩ := clusterTestEnd_shows c.isLt pass hrole
  have he : exec (.clusterTestDone c pass) s = fin (s.clusterTestEnd c pass) := by
    show execClusterTestDone c pass s = _
    simp [execClusterTestDone, hbist]
  have hnote : ∀ f : Fld, f.reg = .CIRQ_STATUS ∨ f.reg = .CIRQ_EVENT → (s.clusterTestEnd c pass).noteEvents.get f c = (testRoled s c serves u).get f c := by
    intro f hf
    rw [← hall f hf]
    rcases hf with hf | hf <;> exact get_off (it_noteEvents _) (hf ▸ by decide)
  refine completes_fin he ⟨?_, fun hp hl => ?_, fun hp => ?_⟩
  · rw [hnote _ (.inl rfl), testRoled_lastTest, hlast, testShown_lastTest s c.isLt]
  · rw [hnote _ (.inl rfl), hpass hp hl, testRoled_serves s u c.isLt]
  · obtain ⟨hf, hserves⟩ := hfail hp
    subst hserves
    obtain ⟨hout, hoos, hkept⟩ := testRoled_out s u c.isLt
    exact ⟨(hnote _ (.inl rfl)).trans hout, on_eq_true_of_get ((hnote _ (.inr rfl)).trans hoos),
      on_eq_true_of_get ((hnote _ (.inr rfl)).trans (hkept.trans hf))⟩

end Sys2Proof.Proofs
end

section
/-! SUPPORT. The commands of CIRQ_HO_CMD (R120 to R122): what they refuse and what they start. -/

namespace Sys2Proof.Proofs

open Sys2Proof.Machine Sys2Proof.Laws

/-! ### What the wake of a dozing device leaves alone -/

theorem dozeWake_spare (s : State) : (s.dozeWake 2).spare = s.spare := by
  simp only [State.spare, dozeWake_cirq, dozeWake_get (f := .CIRQ_STATUS_ROLE) (by decide)]

theorem dozeWake_hoRefusal (s : State) (c : Nat) : (s.dozeWake 2).hoRefusal c = s.hoRefusal c := by
  simp only [State.hoRefusal, dozeWake_spare, dozeWake_get (f := .CIRQ_STATUS_ROLE) (by decide), dozeWake_on (f := .CIRQ_HO_STAT_BUSY) (by decide)]

theorem dozeWake_heldSlots (s : State) (c : Nat) : (s.dozeWake 2).heldSlots c = s.heldSlots c := by
  simp only [State.heldSlots, dozeWake_on (f := .CIRQ_SLOT_VALID) (by decide)]

theorem dozeWake_slotMn (s : State) (c k : Nat) : (s.dozeWake 2).slotMn c k = s.slotMn c k := dozeWake_get (by decide) s c k

theorem dozeWake_clusterLines (s : State) (c f : Nat) : (s.dozeWake 2).clusterLines c f = s.clusterLines c f := by
  simp only [State.clusterLines, dozeWake_heldSlots, dozeWake_slotMn, dozeWake_px, dozeWake_get (f := .CIRQ_SLOT_SUB) (by decide)]

theorem dozeWake_formatRec (s : State) (n l f : Nat) : (s.dozeWake 2).formatRec n l f = s.formatRec n l f := by
  simp only [State.formatRec, dozeWake_lx, dozeWake_libRec, dozeWake_clsOf]

/-! ### Refused and started -/

theorem hoRefusal_lt (s : State) (c : Nat) : s.hoRefusal c < 8 := by
  unfold State.hoRefusal
  (repeat' split) <;> omega

section
variable {i : Instr} {s : State}

theorem hoCommand_refused {r : Nat} (he : exec i s = fin ((s.dozeWake 2).set0 .CIRQ_HO_STAT_RESULT r)) (hr : r < 8) :
    Completes i s fun t => t.get .CIRQ_HO_STAT_RESULT = r ∧ t.cirq = s.cirq := by
  refine completes_fin he ⟨?_, ?_⟩
  · rw [get_off (it_noteEvents _) (by decide)]
    exact hoResult_set0 _ hr
  · rw [cirq_off (it_noteEvents _) (by decide), set0_cirq, dozeWake_cirq]

/-- The planned operation of this OP on cluster c, to the spare (R120). -/
def plannedHo (s : State) (c op f : Nat) : HoX := { src := c, dst := s.spare.getD 0, at_ := s.now, op := op, fmt := f }

theorem startPlanned_shows (s : State) (c op f : Nat) : (s.startPlanned c op f).cirq.ho = some (plannedHo s c op f) ∧
    (s.startPlanned c op f).on .CIRQ_HO_STAT_BUSY = true :=
  ⟨rfl, (on_of_get (get_modCirq _ _ _ _ _)).trans (hoStat_busy _ _ _ _)⟩

theorem dozeWake_plannedHo (s : State) (c op f : Nat) : plannedHo (s.dozeWake 2) c op f = plannedHo s c op f := by
  rw [plannedHo, dozeWake_spare, dozeWake_now]
  rfl

theorem hoCommand_started {c op f : Nat} (he : exec i s = fin ((s.dozeWake 2).startPlanned c op f)) :
    Completes i s fun t => t.cirq.ho = some (plannedHo s c op f) ∧ t.on .CIRQ_HO_STAT_BUSY = true := by
  obtain ⟨hho, hbusy⟩ := startPlanned_shows (s.dozeWake 2) c op f
  refine completes_fin he ⟨?_, ?_⟩
  · rw [cirq_off (it_noteEvents _) (by decide), hho, dozeWake_plannedHo]
  · rw [on_off (it_noteEvents _) (by decide), hbusy]

end

/-! ### TEST and UCODE -/

section
variable {c : Fin 32} {s : State} (hopen : s.closed = false)
include hopen

theorem execHoTest_open : execHoTest c s = if s.hoRefusal c ≠ 0 then fin ((s.dozeWake 2).set0 .CIRQ_HO_STAT_RESULT (s.hoRefusal c))
    else fin ((s.dozeWake 2).startPlanned c 1 0) := by
  rw [execHoTest, regCmd_open hopen, dozeWake_hoRefusal]

theorem execHoUcode_open : execHoUcode c s = if s.hoRefusal c ≠ 0 then fin ((s.dozeWake 2).set0 .CIRQ_HO_STAT_RESULT (s.hoRefusal c))
    else fin ((s.dozeWake 2).startPlanned c 2 0) := by
  rw [execHoUcode, regCmd_open hopen, dozeWake_hoRefusal]

omit hopen in
/-- A command that is refused, or starts its planned operation. -/
theorem plannedCommand_answers {i : Instr} {op : Nat} (he : exec i s = if s.hoRefusal c ≠ 0 then fin ((s.dozeWake 2).set0 .CIRQ_HO_STAT_RESULT (s.hoRefusal c))
    else fin ((s.dozeWake 2).startPlanned c op 0)) : Completes i s fun t =>
      (s.hoRefusal c ≠ 0 → t.get .CIRQ_HO_STAT_RESULT = s.hoRefusal c ∧ t.cirq = s.cirq) ∧
      (s.hoRefusal c = 0 → t.cirq.ho = some (plannedHo s c op 0) ∧ t.on .CIRQ_HO_STAT_BUSY = true) := by
  by_cases hr : s.hoRefusal c = 0
  · rw [if_neg (not_not.mpr hr)] at he
    obtain ⟨t, ht, hstart⟩ := hoCommand_started he
    exact ⟨t, ht, fun h => absurd hr h, fun _ => hstart⟩
  · rw [if_pos hr] at he
    obtain ⟨t, ht, hrefused⟩ := hoCommand_refused he (hoRefusal_lt s c)
    exact ⟨t, ht, fun _ => hrefused, fun h => absurd h hr⟩

end

/-! ### FORMAT -/

/-- A held slot of the cluster lacks a record of the format for one of its loops 0, 1, 2 and 4. -/
def lacksRecord (s : State) (c f : Nat) : Bool := (s.heldSlots c).any fun k => [0, 1, 2, 4].any fun l => (s.formatRec (s.slotMn c k) l f).isEmpty

theorem dozeWake_lacksRecord (s : State) (c f : Nat) : lacksRecord (s.dozeWake 2) c f = lacksRecord s c f := by
  simp only [lacksRecord, dozeWake_heldSlots, dozeWake_formatRec, dozeWake_slotMn]

/-- What FORMAT is refused with: a refusal that it shares, 2 for the lines and 3 for a record. -/
def formatRefusal (s : State) (c f : Nat) : Nat :=
  if s.hoRefusal c ≠ 0 then s.hoRefusal c else if 1408 * 16 < s.clusterLines c f then 2 else if lacksRecord s c f then 3 else 0

theorem formatRefusal_lt (s : State) (c f : Nat) : formatRefusal s c f < 8 := by
  have h := hoRefusal_lt s c
  unfold formatRefusal
  (repeat' split) <;> omega

theorem spare_getD_lt (s : State) : s.spare.getD 0 < 17 := by
  cases hs : s.spare with
  | none => decide
  | some d => exact spare_lt hs

section
variable {s : State} {c f : Nat}

theorem formatRefusal_shared (h : s.hoRefusal c ≠ 0) : formatRefusal s c f = s.hoRefusal c := if_pos h

theorem formatRefusal_wide (h : s.hoRefusal c = 0) (hw : 1408 * 16 < s.clusterLines c f) : formatRefusal s c f = 2 :=
  (if_neg (not_not.mpr h)).trans (if_pos hw)

theorem formatRefusal_missing (h : s.hoRefusal c = 0) (hw : ¬ 1408 * 16 < s.clusterLines c f) (hm : lacksRecord s c f = true) : formatRefusal s c f = 3 :=
  (if_neg (not_not.mpr h)).trans ((if_neg hw).trans (if_pos hm))

theorem formatRefusal_none (h : s.hoRefusal c = 0) (hw : ¬ 1408 * 16 < s.clusterLines c f) (hm : lacksRecord s c f = false) : formatRefusal s c f = 0 :=
  (if_neg (not_not.mpr h)).trans ((if_neg hw).trans (if_neg (by rw [hm]; exact Bool.false_ne_true)))

end

theorem execHoFormat_open {c : Fin 32} {fmt : Bool} {s : State} (hopen : s.closed = false) : execHoFormat c fmt s =
    if formatRefusal s c (b2n fmt) ≠ 0 then fin ((s.dozeWake 2).set0 .CIRQ_HO_STAT_RESULT (formatRefusal s c (b2n fmt)))
    else fin (((s.dozeWake 2).startPlanned c 3 (b2n fmt)).set .CIRQ_FMT_FMT (s.spare.getD 0) (b2n fmt)) := by
  have hlacks := dozeWake_lacksRecord s c (b2n fmt)
  rw [lacksRecord] at hlacks
  rw [execHoFormat, regCmd_open hopen]
  simp only [dozeWake_hoRefusal, dozeWake_clusterLines, dozeWake_spare, hlacks]
  unfold formatRefusal
  by_cases hr : s.hoRefusal c = 0
  · by_cases hw : 1408 * 16 < s.clusterLines c (b2n fmt)
    · simp [hr, hw]
    · cases lacksRecord s c (b2n fmt) <;> simp [hr, hw]
  · simp [hr]

theorem hoFormat_answers {c : Fin 32} {fmt : Bool} {s : State} (hopen : s.closed = false) : Completes (.hoFormat c fmt) s fun t =>
    (formatRefusal s c (b2n fmt) ≠ 0 → t.get .CIRQ_HO_STAT_RESULT = formatRefusal s c (b2n fmt)) ∧
    (formatRefusal s c (b2n fmt) = 0 → t.cirq.ho = some (plannedHo s c 3 (b2n fmt)) ∧ t.get .CIRQ_FMT_FMT (s.spare.getD 0) = b2n fmt) := by
  have hnote : ∀ {f : Fld}, (Item.reg f.reg 0 0).off foot_noteEvents = true → ∀ (u : State) (k : Nat), u.noteEvents.get f k = u.get f k :=
    fun hf u k => get_off (it_noteEvents u) hf
  by_cases hr : formatRefusal s c (b2n fmt) = 0
  · have he : exec (.hoFormat c fmt) s = fin (((s.dozeWake 2).startPlanned c 3 (b2n fmt)).set .CIRQ_FMT_FMT (s.spare.getD 0) (b2n fmt)) := by
      show execHoFormat c fmt s = _
      rw [execHoFormat_open hopen, if_neg (not_not.mpr hr)]
    refine completes_fin he ⟨fun h => absurd hr h, fun _ => ⟨?_, ?_⟩⟩
    · rw [cirq_off (it_noteEvents _) (by decide), set_cirq, (startPlanned_shows _ _ _ _).1, dozeWake_plannedHo]
    · rw [hnote (by decide), get_set_self (by decide) _ _ _ (clusterReg_has rfl (spare_getD_lt s))]
      exact Nat.mod_eq_of_lt (by cases fmt <;> decide)
  · have he : exec (.hoFormat c fmt) s = fin ((s.dozeWake 2).set0 .CIRQ_HO_STAT_RESULT (formatRefusal s c (b2n fmt))) := by
      show execHoFormat c fmt s = _
      rw [execHoFormat_open hopen, if_pos hr]
    obtain ⟨t, ht, hrefused, -⟩ := hoCommand_refused he (formatRefusal_lt s c (b2n fmt))
    exact ⟨t, ht, fun _ => hrefused, fun h => absurd h hr⟩

/-! ### RETEST (OP 4) -/

theorem hoRetest_answers {c : Fin 32} {s : State} (hopen : s.closed = false) (hbusy : s.on .CIRQ_HO_STAT_BUSY = false) (hc : c.val < 17) :
    Completes (.hoRetest c) s fun t => (s.get .CIRQ_STATUS_ROLE c ≠ 4 → t.get .CIRQ_HO_STAT_RESULT = 4) ∧
      (s.get .CIRQ_STATUS_ROLE c = 4 → t.get .CIRQ_STATUS_ROLE c = 2 ∧ tabGet t.cirq.testOp c 0 = 4 ∧ t.on .CIRQ_HO_STAT_BUSY = true) := by
  have hexec : exec (.hoRetest c) s = if s.get .CIRQ_STATUS_ROLE c ≠ 4 then fin ((s.dozeWake 2).set0 .CIRQ_HO_STAT_RESULT 4)
      else fin (((s.dozeWake 2).hoStat c c 0).testCluster c 4) := by
    show execHoRetest c s = _
    rw [execHoRetest, regCmd_open hopen, dozeWake_on (by decide), hbusy, if_neg Bool.false_ne_true, if_neg (by omega), dozeWake_get (by decide)]
  by_cases hrole : s.get .CIRQ_STATUS_ROLE c = 4
  · rw [if_neg (not_not.mpr hrole)] at hexec
    refine completes_fin hexec ⟨fun h => absurd hrole h, fun _ => ⟨?_, ?_, ?_⟩⟩
    · rw [get_off (it_noteEvents _) (by decide)]
      exact testCluster_role _ 4 hc
    · rw [cirq_off (it_noteEvents _) (by decide), testCluster_cirq]
      exact tabGet_tabPut_same (_ : Tab Nat) c 4 0
    · rw [on_off (it_noteEvents _) (by decide), on_off (it_testCluster _ _ _) (by decide), hoStat_busy]
  · rw [if_pos hrole] at hexec
    obtain ⟨t, ht, hrefused, -⟩ := hoCommand_refused hexec (by decide)
    exact ⟨t, ht, fun _ => hrefused, fun h => absurd h hrole⟩

end Sys2Proof.Proofs
end

section
/-! SUPPORT. Slots that move to another cluster (R110, R114, R120): what a slot shows there, and what its move leaves of it. -/

namespace Sys2Proof.Proofs

open Sys2Proof.Machine Sys2Proof.Laws

/-! ### The dwords of one slot -/

theorem slotRegs_slot : Reg.CIRQ_SLOT ∈ slotRegs := List.mem_cons_self

theorem slotRegs_lstat : Reg.CIRQ_LSTAT ∈ slotRegs := List.mem_cons_of_mem _ List.mem_cons_self

theorem slotRegs_angle : Reg.CIRQ_ANGLE ∈ slotRegs := List.mem_cons_of_mem _ (List.mem_cons_of_mem _ List.mem_cons_self)

/-- Write the three dwords of a slot. -/
def wrSlot (c k : Nat) (v : Reg → Word) (s : State) : State :=
  ((s.wr .CIRQ_SLOT c k (v .CIRQ_SLOT)).wr .CIRQ_LSTAT c k (v .CIRQ_LSTAT)).wr .CIRQ_ANGLE c k (v .CIRQ_ANGLE)

/-- Slot j of cluster a goes to slot k of cluster b, with its states and angle. -/
def slotCopied (a j b k : Nat) (s : State) : State := wrSlot a j (fun _ => 0) (wrSlot b k (fun r => s.rd r a j) s)

theorem slotRegs_off {l : List Spot} (h : (slotRegs.all fun r => (Item.reg r 0 0).off l) = true) {r : Reg} (hr : r ∈ slotRegs) :
    (Item.reg r 0 0).off l = true := List.all_eq_true.mp h r hr

theorem slotRegs_disj {q : Reg} (h : (slotRegs.all fun r => disj q r) = true) {r : Reg} (hr : r ∈ slotRegs) : disj q r = true := List.all_eq_true.mp h r hr

section
variable {r : Reg} (hr : r ∈ slotRegs) (s : State)
include hr

theorem rd_wrSlot_same (v : Reg → Word) {c k : Nat} (hc : c < 17) (hk : k < 32) : (wrSlot c k v s).rd r c k = v r := by
  have hslot := slotReg_has hr hc hk
  unfold wrSlot
  simp only [slotRegs, List.mem_cons, List.not_mem_nil, or_false] at hr
  rcases hr with rfl | rfl | rfl
  · rw [rd_wr_disj _ _ _ _ _ _ _ _ (by decide), rd_wr_disj _ _ _ _ _ _ _ _ (by decide), rd_wr_same _ _ _ _ _ hslot]
  · rw [rd_wr_disj _ _ _ _ _ _ _ _ (by decide), rd_wr_same _ _ _ _ _ hslot]
  · rw [rd_wr_same _ _ _ _ _ hslot]

theorem rd_wrSlot_other (v : Reg → Word) {c k c' k' : Nat} (h : c ≠ c' ∨ k ≠ k') : (wrSlot c k v s).rd r c' k' = s.rd r c' k' := by
  have hother := fun (u : State) (w : Word) => rd_wr_otherSlot hr u w h
  unfold wrSlot
  simp only [slotRegs, List.mem_cons, List.not_mem_nil, or_false] at hr
  rcases hr with rfl | rfl | rfl
  · rw [rd_wr_disj _ _ _ _ _ _ _ _ (by decide), rd_wr_disj _ _ _ _ _ _ _ _ (by decide), hother]
  · rw [rd_wr_disj _ _ _ _ _ _ _ _ (by decide), hother, rd_wr_disj _ _ _ _ _ _ _ _ (by decide)]
  · rw [hother, rd_wr_disj _ _ _ _ _ _ _ _ (by decide), rd_wr_disj _ _ _ _ _ _ _ _ (by decide)]

theorem slotCopied_to {a j b k : Nat} (hb : b < 17) (hk : k < 32) (hne : a ≠ b ∨ j ≠ k) : (slotCopied a j b k s).rd r b k = s.rd r a j :=
  (rd_wrSlot_other hr _ _ hne).trans (rd_wrSlot_same hr _ _ hb hk)

theorem slotCopied_from {a j b k : Nat} (ha : a < 17) (hj : j < 32) : (slotCopied a j b k s).rd r a j = 0 := rd_wrSlot_same hr _ _ ha hj

theorem slotCopied_other {a j b k c i : Nat} (hfrom : a ≠ c ∨ j ≠ i) (hto : b ≠ c ∨ k ≠ i) : (slotCopied a j b k s).rd r c i = s.rd r c i :=
  (rd_wrSlot_other hr _ _ hfrom).trans (rd_wrSlot_other hr _ _ hto)

end

def foot_slotCopied : List Spot := [.r .CIRQ_SLOT, .r .CIRQ_LSTAT, .r .CIRQ_ANGLE]

theorem it_slotCopied (a j b k : Nat) (s : State) {q : Item} (hq : q.off foot_slotCopied = true) : itm q (slotCopied a j b k s) = itm q s := by
  delta foot_slotCopied at hq
  simp only [off_cons_cons, Bool.and_eq_true] at hq
  simp [slotCopied, wrSlot, hq]

/-! ### The swap of a slot that moves -/

/-- A swap in HOLD is abandoned where its slot moves away, and begins to count again where the slot goes (R118). -/
def swapMoved (a b k n : Nat) (s : State) : State :=
  match (s.sx n).swap with
  | some w =>
    if w.entered then
      (((s.set2 .CIRQ_LSTAT_HOLD_CNT b k 0).modServo n fun v => { v with swap := some { w with periods := 0 } }).raise .CIRQ_EVENT_SWAP_ABANDON a).logEntry
        { cls := 5, code := 3, sev := 1, mn := n, unit := a, detail0 := w.mask, detail1 := 2 }
    else s
  | none => s

def foot_swapMoved : List Spot := spots [foot_logEntry, foot_modServo] [.f .CIRQ_LSTAT_HOLD_CNT, .f .CIRQ_EVENT_SWAP_ABANDON]

theorem it_swapMoved (a b k n : Nat) (s : State) {q : Item} (hq : q.off foot_swapMoved = true) : itm q (swapMoved a b k n s) = itm q s := by
  delta foot_swapMoved at hq
  simp only [off_spots, off_cons_cons, List.all_cons, List.all_nil, Bool.and_true, Bool.and_eq_true] at hq
  unfold swapMoved
  (repeat' split) <;> simp [hq]

/-- A swap that is abandoned changes none but the hold count of the slot. -/
theorem swapMoved_lstat (a b k n : Nat) (s : State) : (swapMoved a b k n s).get .CIRQ_LSTAT_LS b k = s.get .CIRQ_LSTAT_LS b k ∧
    ∀ c i, b ≠ c ∨ k ≠ i → (swapMoved a b k n s).rd .CIRQ_LSTAT c i = s.rd .CIRQ_LSTAT c i := by
  have hpast : ∀ (f : ServoX → ServoX) (e : LogArgs) (c i : Nat), ((((s.set2 .CIRQ_LSTAT_HOLD_CNT b k 0).modServo n f).raise .CIRQ_EVENT_SWAP_ABANDON a).logEntry e).rd
      .CIRQ_LSTAT c i = (s.set2 .CIRQ_LSTAT_HOLD_CNT b k 0).rd .CIRQ_LSTAT c i := by
    intro f e c i
    rw [rd_off (it_logEntry _ _) (by decide), State.raise, State.set, State.set2, rd_wr_disj _ _ _ _ _ _ _ _ (by decide), rd_modServo]
  unfold swapMoved
  split
  · split
    · exact ⟨(get_of_rd (f := .CIRQ_LSTAT_LS) (hpast _ _ b k)).trans
        (get_set2_slotField (f := .CIRQ_LSTAT_HOLD_CNT) (g := .CIRQ_LSTAT_LS) slotRegs_lstat rfl (by decide) s b k 0 b k),
        fun c i h => (hpast _ _ c i).trans (rd_wr_otherSlot slotRegs_lstat _ _ h)⟩
    · exact ⟨rfl, fun _ _ _ => rfl⟩
  · exact ⟨rfl, fun _ _ _ => rfl⟩

/-! ### Every slot of a cluster (R114) -/

/-- Slot k of cluster a moves to the same slot of cluster b, with the mechanism that holds it. -/
def slotMoved (a b : Nat) (s : State) (k : Nat) : State :=
  if s.on .CIRQ_SLOT_VALID a k then swapMoved a b k (s.slotMn a k) ((slotCopied a k b k s).set .MECH_SERVO_CLUSTER (s.slotMn a k) b)
  else slotCopied a k b k s

/-- What is seen of slot k of cluster a after it has moved to cluster b. -/
structure SlotMoved (s : State) (a b k : Nat) (t : State) : Prop where
  slot : t.rd .CIRQ_SLOT b k = s.rd .CIRQ_SLOT a k
  emptied : t.rd .CIRQ_SLOT a k = 0
  loops : t.get .CIRQ_LSTAT_LS b k = s.get .CIRQ_LSTAT_LS a k
  angle : t.rd .CIRQ_ANGLE b k = s.rd .CIRQ_ANGLE a k
  serves : s.on .CIRQ_SLOT_VALID a k = true → t.clusterOf (s.slotMn a k) = b

theorem slotMn_lt (s : State) (c k : Nat) : s.slotMn c k < 4096 := get_lt s .CIRQ_SLOT_MN c k

theorem clusterOf_set_same (s : State) {n b : Nat} (hn : n < 4096) (hb : b < 32) : (s.set .MECH_SERVO_CLUSTER n b).clusterOf n = b :=
  (get_set_self (by decide) _ _ _ (mechReg_has rfl hn)).trans (Nat.mod_eq_of_lt hb)

theorem swapMoved_other (a b k n : Nat) (s : State) {r : Reg} (hr : r ∈ slotRegs) {c i : Nat} (h : b ≠ c ∨ k ≠ i) :
    (swapMoved a b k n s).rd r c i = s.rd r c i := by
  simp only [slotRegs, List.mem_cons, List.not_mem_nil, or_false] at hr
  rcases hr with rfl | rfl | rfl
  · exact rd_off (it_swapMoved _ _ _ _ _) (by decide)
  · exact (swapMoved_lstat a b k n s).2 c i h
  · exact rd_off (it_swapMoved _ _ _ _ _) (by decide)

section
variable {a b : Nat}

theorem slotMoved_other (s : State) {k i c : Nat} (h : k ≠ i) {r : Reg} (hr : r ∈ slotRegs) : (slotMoved a b s k).rd r c i = s.rd r c i := by
  have hcopy := slotCopied_other hr s (a := a) (j := k) (b := b) (k := k) (c := c) (i := i) (.inr h) (.inr h)
  unfold slotMoved
  split
  · rw [swapMoved_other _ _ _ _ _ hr (.inr h), State.set, State.set2, rd_wr_disj _ _ _ _ _ _ _ _ (slotRegs_disj (by decide) hr), hcopy]
  · exact hcopy

/-- The mechanism that holds a slot that moves goes with it, the others stay. -/
theorem slotMoved_clusterOf (hb : b < 17) (s : State) (k n : Nat) :
    (slotMoved a b s k).clusterOf n = if s.on .CIRQ_SLOT_VALID a k ∧ n = s.slotMn a k then b else s.clusterOf n := by
  have hcopy : (slotCopied a k b k s).clusterOf n = s.clusterOf n := get_off (it_slotCopied _ _ _ _ _) (by decide)
  unfold slotMoved
  by_cases hv : s.on .CIRQ_SLOT_VALID a k = true
  · rw [if_pos hv]
    have hswap : (swapMoved a b k (s.slotMn a k) ((slotCopied a k b k s).set .MECH_SERVO_CLUSTER (s.slotMn a k) b)).clusterOf n =
        ((slotCopied a k b k s).set .MECH_SERVO_CLUSTER (s.slotMn a k) b).clusterOf n := get_off (it_swapMoved _ _ _ _ _) (by decide)
    rw [hswap]
    by_cases hn : n = s.slotMn a k
    · rw [if_pos ⟨hv, hn⟩, hn, clusterOf_set_same _ (slotMn_lt _ _ _) (by omega)]
    · rw [if_neg fun h => hn h.2, ← hcopy]
      exact get_set_otherIndex (f := .MECH_SERVO_CLUSTER) (g := .MECH_SERVO_CLUSTER) rfl (by decide) _ b (Ne.symm hn)
  · rw [if_neg hv, if_neg fun h => hv h.1, hcopy]

theorem slotMoved_moves (ha : a < 17) (hb : b < 17) (hne : a ≠ b) (s : State) {k : Nat} (hk : k < 32) : SlotMoved s a b k (slotMoved a b s k) := by
  have hserves : s.on .CIRQ_SLOT_VALID a k = true → (slotMoved a b s k).clusterOf (s.slotMn a k) = b := fun hv => by
    rw [slotMoved_clusterOf hb, if_pos ⟨hv, rfl⟩]
  have hto : ∀ {r : Reg}, r ∈ slotRegs → (slotCopied a k b k s).rd r b k = s.rd r a k := fun hr => slotCopied_to hr s hb hk (.inl hne)
  have hfrom : (slotCopied a k b k s).rd .CIRQ_SLOT a k = 0 := slotCopied_from slotRegs_slot s ha hk
  have hloops : (slotCopied a k b k s).get .CIRQ_LSTAT_LS b k = s.get .CIRQ_LSTAT_LS a k :=
    congrArg (fun w => bitsOf w Fld.CIRQ_LSTAT_LS.lo Fld.CIRQ_LSTAT_LS.width) (hto slotRegs_lstat)
  unfold slotMoved at hserves ⊢
  split
  next hv =>
    have hset : ∀ {r : Reg} (c : Nat), r ∈ slotRegs → ((slotCopied a k b k s).set .MECH_SERVO_CLUSTER (s.slotMn a k) b).rd r c k = (slotCopied a k b k s).rd r c k :=
      fun c hr => rd_wr_disj _ _ _ _ _ _ _ _ (slotRegs_disj (by decide) hr)
    have hswap : ∀ {q : Item}, q.off foot_swapMoved = true → _ :=
      fun hq => it_swapMoved a b k (s.slotMn a k) ((slotCopied a k b k s).set .MECH_SERVO_CLUSTER (s.slotMn a k) b) hq
    refine ⟨?_, ?_, ?_, ?_, fun h => (if_pos hv ▸ hserves) h⟩
    · rw [rd_off hswap (by decide), hset b slotRegs_slot, hto slotRegs_slot]
    · rw [rd_off hswap (by decide), hset a slotRegs_slot, hfrom]
    · rw [(swapMoved_lstat _ _ _ _ _).1, get_of_rd (f := .CIRQ_LSTAT_LS) (hset b slotRegs_lstat), hloops]
    · rw [rd_off hswap (by decide), hset b slotRegs_angle, hto slotRegs_angle]
  next hv => exact ⟨hto slotRegs_slot, hfrom, hloops, hto slotRegs_angle, fun h => absurd h hv⟩

theorem slotMoved_keeps (hb : b < 17) {s t : State} {k i : Nat} (h : k ≠ i) (hm : SlotMoved s a b i t) : SlotMoved s a b i (slotMoved a b t k) := by
  obtain ⟨hslot, hemptied, hloops, hangle, hserves⟩ := hm
  have hkept : ∀ {c : Nat} {r : Reg}, r ∈ slotRegs → (slotMoved a b t k).rd r c i = t.rd r c i := slotMoved_other t h
  refine ⟨(hkept slotRegs_slot).trans hslot, (hkept slotRegs_slot).trans hemptied, (get_of_rd (f := .CIRQ_LSTAT_LS) (hkept slotRegs_lstat)).trans hloops,
    (hkept slotRegs_angle).trans hangle, fun hv => ?_⟩
  rw [slotMoved_clusterOf hb, hserves hv, ite_self]

/-- What is kept by a step off the slots and MECH_SERVO. -/
theorem SlotMoved.off {s t u : State} {k : Nat} (hm : SlotMoved s a b k t) {l : List Spot} (it : ∀ {q : Item}, q.off l = true → itm q u = itm q t)
    (hslots : (slotRegs.all fun r => (Item.reg r 0 0).off l) = true) (hservo : (Item.reg .MECH_SERVO 0 0).off l = true) : SlotMoved s a b k u := by
  obtain ⟨hslot, hemptied, hloops, hangle, hserves⟩ := hm
  have hkept : ∀ {c : Nat} {r : Reg}, r ∈ slotRegs → u.rd r c k = t.rd r c k := fun hr => rd_off it (slotRegs_off hslots hr)
  refine ⟨(hkept slotRegs_slot).trans hslot, (hkept slotRegs_slot).trans hemptied, (get_of_rd (f := .CIRQ_LSTAT_LS) (hkept slotRegs_lstat)).trans hloops,
    (hkept slotRegs_angle).trans hangle, fun hv => ?_⟩
  exact (get_off (f := .MECH_SERVO_CLUSTER) it hservo).trans (hserves hv)

/-- Only the dwords of the slot count of the state that it moves from. -/
theorem SlotMoved.congr {s s' t : State} {k : Nat} (hm : SlotMoved s' a b k t) (h : ∀ r ∈ slotRegs, s'.rd r a k = s.rd r a k) : SlotMoved s a b k t := by
  obtain ⟨hslot, hemptied, hloops, hangle, hserves⟩ := hm
  have hget : ∀ {f : Fld}, f.reg ∈ slotRegs → s'.get f a k = s.get f a k := fun {f} hf => get_of_rd (h f.reg hf)
  have hvalid : s'.on .CIRQ_SLOT_VALID a k = s.on .CIRQ_SLOT_VALID a k := on_of_get (hget slotRegs_slot)
  have hmn : s'.slotMn a k = s.slotMn a k := hget (f := .CIRQ_SLOT_MN) slotRegs_slot
  exact ⟨hslot.trans (h _ slotRegs_slot), hemptied, hloops.trans (hget (f := .CIRQ_LSTAT_LS) slotRegs_lstat), hangle.trans (h _ slotRegs_angle),
    fun hv => hmn ▸ hserves (hvalid.trans hv)⟩

theorem slots_moved (ha : a < 17) (hb : b < 17) (hne : a ≠ b) (s : State) {k : Nat} (hk : k < 32) : SlotMoved s a b k (s.forEach (List.range 32) (slotMoved a b)) :=
  forEach_once (P := fun t => ∀ r ∈ slotRegs, t.rd r a k = s.rd r a k) List.nodup_range (List.mem_range.mpr hk) (fun _ _ => rfl)
    (fun _ _ hi t ht r hr => (slotMoved_other t hi hr).trans (ht r hr)) (fun t ht => (slotMoved_moves ha hb hne t hk).congr ht)
    (fun _ _ hi _ ht => slotMoved_keeps hb hi ht)

/-- What follows the slots of a cluster: the engines, the counts, the role and the events (R114, R119). -/
def foot_enginesMoved : List Spot := spots [foot_modCirq, injCapRegs.map .r]
  [.f .CIRQ_CNT_HANDOVERS, .f .CIRQ_STATUS_ROLE, .f .CIRQ_EVENT_HO_OUT, .f .CIRQ_EVENT_HO_IN]

/-- The cluster that takes the slots is ACTIVE. -/
theorem moveSlots_moves (ha : a < 17) (hb : b < 17) (hne : a ≠ b) (s : State) : (s.moveSlots a b).get .CIRQ_STATUS_ROLE b = 0 ∧
    ∀ k < 32, SlotMoved s a b k (s.moveSlots a b) := by
  unfold State.moveSlots
  extract_lets +onlyGivenNames s1 s2 ia ib ca cb s3 s4
  have hslots : ∀ k < 32, SlotMoved s a b k s1 := fun k hk => slots_moved ha hb hne s hk
  clear_value s1
  constructor
  · exact (get_set2_disj (by decide) _ _ _ _ _ _).trans ((get_set2_disj (by decide) _ _ _ _ _ _).trans (clusterStatus_set rfl (by decide) _ hb 0))
  · have hoff : ∀ {q : Item}, q.off foot_enginesMoved = true → itm q ((s4.raise .CIRQ_EVENT_HO_OUT a).raise .CIRQ_EVENT_HO_IN b) = itm q s1 := by
      intro q hq
      simp only [foot_enginesMoved, off_spots, off_cons_cons, List.all_cons, List.all_nil, Bool.and_true, Bool.and_eq_true] at hq
      obtain ⟨⟨hcirq, hregs⟩, hown⟩ := hq
      have h2 : itm q s2 = itm q s1 := it_exchangeAll _ _ _ fun r hr => List.all_eq_true.mpr fun x hx =>
        List.all_eq_true.mp hregs x (List.mem_singleton.mp hx ▸ List.mem_map_of_mem hr)
      simp [s4, s3, h2, hcirq, hown]
    exact fun k hk => (hslots k hk).off hoff (by decide) (by decide)

end

end Sys2Proof.Proofs
end

section
/-! SUPPORT. Handovers and planned switches (R114, R115, R120, R122): the cluster that takes every slot, and what becomes of the other. -/

namespace Sys2Proof.Proofs

open Sys2Proof.Machine Sys2Proof.Laws

/-! ### The end of a move of every slot: its log, and a coefficient command that waited -/

def moveEnded (c : Nat) (s : State) : State := ((s.logHandover c).finishCoef).noteEvents

def foot_moveEnded : List Spot := spots [foot_noteEvents, foot_finishCoef, foot_logHandover] []

theorem it_moveEnded (c : Nat) (s : State) {q : Item} (hq : q.off foot_moveEnded = true) : itm q (moveEnded c s) = itm q s := by
  simp only [foot_moveEnded, off_spots, off_nil, List.all_cons, List.all_nil, Bool.and_true, Bool.and_eq_true] at hq
  simp [moveEnded, hq]

theorem finishCoef_ho (s : State) : s.finishCoef.cirq.ho = s.cirq.ho := by
  unfold State.finishCoef
  split
  · rfl
  · rw [cirq_off (it_coefOp _ _ _ _ _) (by decide), set0_cirq]
    rfl

theorem moveEnded_ho (c : Nat) (s : State) : (moveEnded c s).cirq.ho = s.cirq.ho := by
  rw [moveEnded, cirq_off (it_noteEvents _) (by decide), finishCoef_ho, cirq_off (it_logHandover _ _) (by decide)]

/-! ### HANDOVER_SERVE -/

/-- Every slot has moved, the cluster that takes them has the format, and the handover has ended; some reads came from the other copy. -/
def handoverServed (s : State) (h : HoX) (reads : Nat) : State :=
  (((((s.moveSlots h.src h.dst).set .CIRQ_FMT_FMT h.dst (s.get .CIRQ_FMT_FMT h.src)).set0 .CIRQ_HO_STAT_REPEATS (min h.lost.length 32)).set0
    .CIRQ_HO_STAT_BUSY 0).modCirq fun q => { q with ho := none }).copyReads h.dst reads

def foot_handoverServed : List Spot := spots [foot_modCirq, foot_copyReads] [.f .CIRQ_FMT_FMT, .f .CIRQ_HO_STAT_REPEATS, .f .CIRQ_HO_STAT_BUSY]

theorem it_handoverServed (s : State) (h : HoX) (reads : Nat) {q : Item} (hq : q.off foot_handoverServed = true) :
    itm q (handoverServed s h reads) = itm q (s.moveSlots h.src h.dst) := by
  simp only [foot_handoverServed, off_spots, off_cons_cons, List.all_cons, List.all_nil, Bool.and_true, Bool.and_eq_true] at hq
  simp [handoverServed, hq]

theorem handoverServed_stat (s : State) (h : HoX) (reads : Nat) : (handoverServed s h reads).get .CIRQ_HO_STAT_REPEATS = min h.lost.length 32 ∧
    (handoverServed s h reads).on .CIRQ_HO_STAT_BUSY = false := by
  refine ⟨?_, on_eq_false_of_get ?_⟩ <;> rw [handoverServed, get_off (it_copyReads _ _ _) (by decide), get_modCirq]
  · rw [get_set0_beside (f := .CIRQ_HO_STAT_BUSY) (g := .CIRQ_HO_STAT_REPEATS) rfl (by decide), get_set0_self (by decide) _ _ (by decide)]
    exact Nat.mod_eq_of_lt (lt_of_le_of_lt (Nat.min_le_right _ _) (by decide))
  · exact get_set0_self (by decide) _ _ (by decide)

theorem fmt_set_same (s u : State) {c d : Nat} (hd : d < 17) : (u.set .CIRQ_FMT_FMT d (s.get .CIRQ_FMT_FMT c)).get .CIRQ_FMT_FMT d = s.get .CIRQ_FMT_FMT c :=
  (get_set_self (by decide) _ _ _ (clusterReg_has rfl hd)).trans (Nat.mod_eq_of_lt (get_lt _ _ _ _))

theorem handoverServed_fmt (s : State) {h : HoX} (reads : Nat) (hdst : h.dst < 17) : (handoverServed s h reads).get .CIRQ_FMT_FMT h.dst = s.get .CIRQ_FMT_FMT h.src := by
  rw [handoverServed, get_off (it_copyReads _ _ _) (by decide), get_modCirq]
  exact (get_set2_disj (by decide) _ _ _ _ _ _).trans ((get_set2_disj (by decide) _ _ _ _ _ _).trans (fmt_set_same s _ hdst))

theorem handoverServe_serves {s : State} {h : HoX} (copies : List Mn) (hho : s.cirq.ho = some h) (hop : h.op = 0) (hdue : h.at_ + 960 ≤ s.now)
    (hsrc : h.src < 17) (hdst : h.dst < 17) (hne : h.src ≠ h.dst) : Completes (.handoverServe copies) s fun t => t.cirq.ho = none ∧
      t.get .CIRQ_HO_STAT_REPEATS = min h.lost.length 32 ∧ t.on .CIRQ_HO_STAT_BUSY = false ∧ t.get .CIRQ_STATUS_ROLE h.dst = 0 ∧
      t.get .CIRQ_FMT_FMT h.dst = s.get .CIRQ_FMT_FMT h.src ∧ ∀ k < 32, SlotMoved s h.src h.dst k t := by
  have he : exec (.handoverServe copies) s = .next (moveEnded h.src (handoverServed s h copies.length)) := by
    show execHandoverServe copies s = _
    rw [execHandoverServe, hho]
    dsimp only
    rw [if_neg (by omega)]
    rfl
  obtain ⟨hrole, hslots⟩ := moveSlots_moves hsrc hdst hne s
  obtain ⟨hrepeats, hbusy⟩ := handoverServed_stat s h copies.length
  have hend := fun {q : Item} (hq : q.off foot_moveEnded = true) => it_moveEnded h.src (handoverServed s h copies.length) hq
  have hserved := fun {q : Item} (hq : q.off foot_handoverServed = true) => it_handoverServed s h copies.length hq
  refine ⟨_, he, ?_, ?_, ?_, ?_, ?_, fun k hk => ((hslots k hk).off hserved (by decide) (by decide)).off hend (by decide) (by decide)⟩
  · rw [moveEnded_ho, handoverServed, cirq_off (it_copyReads _ _ _) (by decide)]
    rfl
  · rw [get_off hend (by decide), hrepeats]
  · rw [on_off hend (by decide), hbusy]
  · rw [get_off hend (by decide), get_off hserved (by decide), hrole]
  · rw [get_off hend (by decide), handoverServed_fmt s _ hdst]

/-! ### The switch of a planned operation -/

/-- The slots take their records of the new format (OP 3), or the cluster that takes them has the format of the other. -/
def switchFormatted (s : State) (h : HoX) (u : State) : State :=
  if h.op = 3 then
    u.forEach (((s.heldSlots h.src).map fun k => s.slotMn h.src k).map fun n => (n, [0, 1, 2, 4].map fun l => (l, s.formatRec n l h.fmt))) fun t r =>
      t.reformat r.1 h.fmt r.2
  else u.set .CIRQ_FMT_FMT h.dst (s.get .CIRQ_FMT_FMT h.src)

def foot_switchFormatted : List Spot := spots [foot_reformat] [.f .CIRQ_FMT_FMT]

theorem it_switchFormatted (s : State) (h : HoX) (u : State) {q : Item} (hq : q.off foot_switchFormatted = true) : itm q (switchFormatted s h u) = itm q u := by
  simp only [foot_switchFormatted, off_spots, List.all_cons, List.all_nil, Bool.and_true, Bool.and_eq_true] at hq
  unfold switchFormatted
  split
  · exact it_forEach _ _ _ fun t r => it_reformat _ _ _ _ hq.1
  · simp [hq]

/-- The cluster that the slots left is spare (OP 3), or is tested (OP 1 and 2). -/
def switchRoled (h : HoX) (u : State) : State :=
  if h.op = 3 then (u.set .CIRQ_STATUS_ROLE h.src 1).set0 .CIRQ_HO_STAT_BUSY 0 else u.testCluster h.src h.op

def foot_switchRoled : List Spot := spots [foot_testCluster] [.f .CIRQ_STATUS_ROLE, .f .CIRQ_HO_STAT_BUSY]

theorem it_switchRoled (h : HoX) (u : State) {q : Item} (hq : q.off foot_switchRoled = true) : itm q (switchRoled h u) = itm q u := by
  simp only [foot_switchRoled, off_spots, off_cons_cons, List.all_cons, List.all_nil, Bool.and_true, Bool.and_eq_true] at hq
  unfold switchRoled
  split <;> simp [hq]

theorem switchRoled_ho (h : HoX) (u : State) : (switchRoled h u).cirq.ho = u.cirq.ho := by
  unfold switchRoled
  split
  · rw [set0_cirq, set_cirq]
  · rw [testCluster_cirq]

theorem testCluster_otherRole (u : State) {c d : Nat} (op : Nat) (hne : c ≠ d) : (u.testCluster c op).get .CIRQ_STATUS_ROLE d = u.get .CIRQ_STATUS_ROLE d := by
  rw [State.testCluster, get_off (it_requestTest _ _ _) (by decide), get_modCirq]
  exact get_set_otherIndex (f := .CIRQ_STATUS_ROLE) (g := .CIRQ_STATUS_ROLE) rfl (by decide) _ _ hne

theorem switchRoled_otherRole {h : HoX} (u : State) {d : Nat} (hne : h.src ≠ d) : (switchRoled h u).get .CIRQ_STATUS_ROLE d = u.get .CIRQ_STATUS_ROLE d := by
  unfold switchRoled
  split
  · exact (get_set2_disj (by decide) _ _ _ _ _ _).trans (get_set_otherIndex (f := .CIRQ_STATUS_ROLE) (g := .CIRQ_STATUS_ROLE) rfl (by decide) _ _ hne)
  · exact testCluster_otherRole u h.op hne

theorem switchRoled_role {h : HoX} (u : State) (hsrc : h.src < 17) :
    (switchRoled h u).get .CIRQ_STATUS_ROLE h.src = if h.op = 3 then 1 else if h.op = 2 ∨ h.op = 5 then 3 else 2 := by
  unfold switchRoled
  split
  · exact (get_set2_disj (by decide) _ _ _ _ _ _).trans (clusterStatus_set rfl (by decide) _ hsrc 1)
  · exact testCluster_role u h.op hsrc

/-- Every slot has moved and no handover is under way. -/
def switchMoved (s : State) (h : HoX) : State := switchFormatted s h ((s.moveSlots h.src h.dst).modCirq fun q => { q with ho := none })

theorem it_switchMoved (s : State) (h : HoX) {q : Item} (hq : q.off (spots [foot_switchFormatted, foot_modCirq] []) = true) :
    itm q (switchMoved s h) = itm q (s.moveSlots h.src h.dst) := by
  simp only [off_spots, off_nil, List.all_cons, List.all_nil, Bool.and_true, Bool.and_eq_true] at hq
  rw [switchMoved, it_switchFormatted _ _ _ hq.1, it_modCirq _ _ hq.2]

theorem switchMoved_ho (s : State) (h : HoX) : (switchMoved s h).cirq.ho = none := by
  rw [switchMoved, cirq_off (it_switchFormatted _ _ _) (by decide)]
  rfl

/-- The planned operation has switched. -/
def plannedSwitched (s : State) (h : HoX) (reads : Nat) : State := ((switchRoled h (switchMoved s h)).copyReads h.dst reads).hoTime

theorem it_plannedSwitched (s : State) (h : HoX) (reads : Nat) {q : Item} (hq : q.off (spots [foot_hoTime, foot_copyReads] []) = true) :
    itm q (plannedSwitched s h reads) = itm q (switchRoled h (switchMoved s h)) := by
  simp only [off_spots, off_nil, List.all_cons, List.all_nil, Bool.and_true, Bool.and_eq_true] at hq
  rw [plannedSwitched, it_hoTime _ hq.1, it_copyReads _ _ _ hq.2]

theorem plannedSwitch_switches {s : State} {h : HoX} (copies : List Mn) (hho : s.cirq.ho = some h) (hop : h.op ≠ 0) (hsrc : h.src < 17) (hdst : h.dst < 17)
    (hne : h.src ≠ h.dst) : Completes (.plannedSwitch none copies) s fun t => t.cirq.ho = none ∧ t.get .CIRQ_STATUS_ROLE h.dst = 0 ∧
      t.get .CIRQ_STATUS_ROLE h.src = (if h.op = 3 then 1 else if h.op = 2 ∨ h.op = 5 then 3 else 2) ∧ (h.op = 3 → t.on .CIRQ_HO_STAT_BUSY = false) ∧
      ∀ k < 32, t.rd .CIRQ_SLOT h.dst k = s.rd .CIRQ_SLOT h.src k ∧ t.rd .CIRQ_SLOT h.src k = 0 := by
  have he : exec (.plannedSwitch none copies) s = .next (moveEnded h.src (plannedSwitched s h copies.length)) := by
    show execPlannedSwitch none copies s = _
    rw [execPlannedSwitch, hho]
    dsimp only
    rw [if_neg hop]
    rfl
  obtain ⟨hrole, hslots⟩ := moveSlots_moves hsrc hdst hne s
  have hend := fun {q : Item} (hq : q.off foot_moveEnded = true) => it_moveEnded h.src (plannedSwitched s h copies.length) hq
  have hlate := fun {q : Item} (hq : q.off (spots [foot_hoTime, foot_copyReads] []) = true) => it_plannedSwitched s h copies.length hq
  have hroled := fun {q : Item} (hq : q.off foot_switchRoled = true) => it_switchRoled h (switchMoved s h) hq
  have hmoved := fun {q : Item} (hq : q.off (spots [foot_switchFormatted, foot_modCirq] []) = true) => it_switchMoved s h hq
  have hkept : ∀ c k, (moveEnded h.src (plannedSwitched s h copies.length)).rd .CIRQ_SLOT c k = (s.moveSlots h.src h.dst).rd .CIRQ_SLOT c k := fun c k => by
    rw [rd_off hend (by decide), rd_off hlate (by decide), rd_off hroled (by decide), rd_off hmoved (by decide)]
  refine ⟨_, he, ?_, ?_, ?_, fun hop3 => ?_, fun k hk => ⟨(hkept _ k).trans (hslots k hk).slot, (hkept _ k).trans (hslots k hk).emptied⟩⟩
  · rw [moveEnded_ho, cirq_off hlate (by decide), switchRoled_ho, switchMoved_ho]
  · rw [get_off hend (by decide), get_off hlate (by decide), switchRoled_otherRole _ hne, get_off hmoved (by decide), hrole]
  · rw [get_off hend (by decide), get_off hlate (by decide), switchRoled_role _ hsrc]
  · rw [on_off hend (by decide), on_off hlate (by decide), switchRoled, if_pos hop3]
    exact on_eq_false_of_get (get_set0_self (by decide) _ _ (by decide))

end Sys2Proof.Proofs
end

section
/-! SUPPORT. The move of one slot (R110, R120) and the plan of a move after a collision (R92, R110). -/

namespace Sys2Proof.Proofs

open Sys2Proof.Machine Sys2Proof.Laws

/-! ### The move of one slot -/

/-- The slot of mechanism n goes to slot k of cluster c, with the engines that work on it. -/
def slotFollowed (s : State) (n c k : Nat) : State :=
  (((slotCopied (s.clusterOf n) (s.slotOf n) c k s).set .MECH_SERVO_CLUSTER n c).set .MECH_SERVO_SLOT n k).moveEngines n (s.clusterOf n) c

theorem slotFollowed_rd (s : State) (n c k : Nat) {r : Reg} (hr : r ∈ slotRegs) (d i : Nat) :
    (slotFollowed s n c k).rd r d i = (slotCopied (s.clusterOf n) (s.slotOf n) c k s).rd r d i := by
  have hdisj : disj .MECH_SERVO r = true := slotRegs_disj (by decide) hr
  have hengines := fun {q : Item} (hq : q.off foot_moveEngines = true) => it_moveEngines
    (((slotCopied (s.clusterOf n) (s.slotOf n) c k s).set .MECH_SERVO_CLUSTER n c).set .MECH_SERVO_SLOT n k) n (s.clusterOf n) c hq
  have hset : ∀ (u : State) (f : Fld) (v : Nat), f.reg = .MECH_SERVO → (u.set f n v).rd r d i = u.rd r d i :=
    fun u f v hf => rd_wr_disj _ _ _ _ _ _ _ _ (hf ▸ hdisj)
  rw [slotFollowed, rd_off hengines (slotRegs_off (by decide) hr), hset _ _ _ rfl, hset _ _ _ rfl]

theorem slotFollowed_mech (s : State) {n c k : Nat} (hn : n < 4096) (hc : c < 32) (hk : k < 32) :
    (slotFollowed s n c k).clusterOf n = c ∧ (slotFollowed s n c k).slotOf n = k := by
  have hengines := fun {q : Item} (hq : q.off foot_moveEngines = true) => it_moveEngines
    (((slotCopied (s.clusterOf n) (s.slotOf n) c k s).set .MECH_SERVO_CLUSTER n c).set .MECH_SERVO_SLOT n k) n (s.clusterOf n) c hq
  have hcluster := clusterOf_set_same (slotCopied (s.clusterOf n) (s.slotOf n) c k s) hn hc
  constructor
  · rw [State.clusterOf, slotFollowed, get_off hengines (by decide), get_set_beside (f := .MECH_SERVO_SLOT) (g := .MECH_SERVO_CLUSTER) rfl (by decide)]
    exact hcluster
  · rw [State.slotOf, slotFollowed, get_off hengines (by decide)]
    exact (get_set_self (by decide) _ _ _ (mechReg_has rfl hn)).trans (Nat.mod_eq_of_lt hk)

/-- The nominal arrival in its new cluster is all that a slot does not take along. -/
def arrived (s : State) (n c k : Nat) (u : State) : State :=
  match s.positionOf (portOf n) (dropOf n) with
  | some p => u.set2 .CIRQ_SLOT_ARR_CYC c k (s.arrCycles (portOf n) p)
  | none => u

theorem arrived_field (s u : State) (n c k : Nat) {f : Fld} (hf : f.reg = .CIRQ_SLOT) (hb : beside .CIRQ_SLOT_ARR_CYC f = true) (d i : Nat) :
    (arrived s n c k u).get f d i = u.get f d i := by
  unfold arrived
  split
  · exact get_set2_slotField (f := .CIRQ_SLOT_ARR_CYC) slotRegs_slot hf hb _ _ _ _ _ _
  · rfl

theorem arrived_other (s u : State) (n c k : Nat) {d i : Nat} (h : c ≠ d ∨ k ≠ i) : (arrived s n c k u).rd .CIRQ_SLOT d i = u.rd .CIRQ_SLOT d i := by
  unfold arrived
  split
  · exact rd_wr_otherSlot slotRegs_slot _ _ h
  · rfl

theorem it_arrived (s u : State) (n c k : Nat) {q : Item} (hq : q.off [.f .CIRQ_SLOT_ARR_CYC] = true) : itm q (arrived s n c k u) = itm q u := by
  unfold arrived
  split <;> simp [hq]

/-- What is seen of slot j of cluster a after it has become slot k of cluster c. -/
structure SlotFollowed (s : State) (n c k : Nat) (t : State) : Prop where
  cluster : t.clusterOf n = c
  place : t.slotOf n = k
  valid : t.on .CIRQ_SLOT_VALID c k = s.on .CIRQ_SLOT_VALID (s.clusterOf n) (s.slotOf n)
  mn : t.slotMn c k = s.slotMn (s.clusterOf n) (s.slotOf n)
  loops : t.get .CIRQ_LSTAT_LS c k = s.get .CIRQ_LSTAT_LS (s.clusterOf n) (s.slotOf n)
  arrival : ∀ p, s.positionOf (portOf n) (dropOf n) = some p → t.get .CIRQ_SLOT_ARR_CYC c k = s.arrCycles (portOf n) p % 2 ^ Fld.CIRQ_SLOT_ARR_CYC.width
  emptied : t.rd .CIRQ_SLOT (s.clusterOf n) (s.slotOf n) = 0

theorem moveSlot_follows (s : State) {n c k : Nat} (hn : n < 4096) (ha : s.clusterOf n < 17) (hc : c < 17) (hk : k < 32)
    (hne : s.clusterOf n ≠ c ∨ s.slotOf n ≠ k) : SlotFollowed s n c k (s.moveSlot n c k) := by
  have hj : s.slotOf n < 32 := get_lt s .MECH_SERVO_SLOT n 0
  have he : s.moveSlot n c k = arrived s n c k (slotFollowed s n c k) := rfl
  obtain ⟨hcluster, hplace⟩ := slotFollowed_mech s hn (Nat.lt_trans hc (by decide)) hk
  have hto : ∀ {f : Fld}, f.reg ∈ slotRegs → (slotFollowed s n c k).get f c k = s.get f (s.clusterOf n) (s.slotOf n) := fun {f} hf =>
    congrArg (fun w => bitsOf w f.lo f.width) ((slotFollowed_rd s n c k hf c k).trans (slotCopied_to hf s hc hk hne))
  have hfrom := (slotFollowed_rd s n c k slotRegs_slot (s.clusterOf n) (s.slotOf n)).trans (slotCopied_from slotRegs_slot s ha hj)
  have hlate := fun {q : Item} (hq : q.off [.f .CIRQ_SLOT_ARR_CYC] = true) => it_arrived s (slotFollowed s n c k) n c k hq
  rw [he]
  refine ⟨(get_off hlate (by decide)).trans hcluster, (get_off hlate (by decide)).trans hplace, ?_, ?_, ?_, fun p hp => ?_, ?_⟩
  · rw [State.on, State.on, arrived_field _ _ _ _ _ rfl (by decide), hto slotRegs_slot]
  · rw [State.slotMn, arrived_field _ _ _ _ _ rfl (by decide), hto slotRegs_slot]
    rfl
  · rw [get_off hlate (by decide), hto slotRegs_lstat]
  · rw [arrived, hp]
    exact get_set_same _ .CIRQ_SLOT_ARR_CYC _ _ _ (slotReg_has slotRegs_slot hc hk) (by decide)
  · rw [arrived_other _ _ _ _ _ (hne.imp Ne.symm Ne.symm), hfrom]

theorem slotFollowed_copyReads {s t : State} {n c k : Nat} (d reads : Nat) (h : SlotFollowed s n c k t) : SlotFollowed s n c k (t.copyReads d reads).noteEvents := by
  obtain ⟨hcluster, hplace, hvalid, hmn, hloops, harrival, hemptied⟩ := h
  have hoff : ∀ {q : Item}, q.off (spots [foot_noteEvents, foot_copyReads] []) = true → itm q (t.copyReads d reads).noteEvents = itm q t := by
    intro q hq
    simp only [off_spots, off_nil, List.all_cons, List.all_nil, Bool.and_true, Bool.and_eq_true] at hq
    rw [it_noteEvents _ hq.1, it_copyReads _ _ _ hq.2]
  exact ⟨(get_off hoff (by decide)).trans hcluster, (get_off hoff (by decide)).trans hplace, (on_off hoff (by decide)).trans hvalid,
    (get_off hoff (by decide)).trans hmn, (get_off hoff (by decide)).trans hloops, fun p hp => (get_off hoff (by decide)).trans (harrival p hp),
    (rd_off hoff (by decide)).trans hemptied⟩

/-- A planned single-slot move is made at its instant where its slot is still free. -/
theorem plannedSwitch_moves {s : State} {n : Mn} (copies : List Mn) {m : MoveX} (hm : (s.cirq.moves.find? fun x => x.mn == n.val) = some m)
    (hholds : s.holdsSlot n = true) (hc : m.cluster < 17) (hk : m.slot < 32) (ha : s.clusterOf n < 17) (hfree : s.on .CIRQ_SLOT_VALID m.cluster m.slot = false)
    (hvalid : s.on .CIRQ_SLOT_VALID (s.clusterOf n) (s.slotOf n) = true) (hrole : s.get .CIRQ_STATUS_ROLE m.cluster = 0) :
    Completes (.plannedSwitch (some n) copies) s (SlotFollowed s n m.cluster m.slot) := by
  have he : exec (.plannedSwitch (some n) copies) s =
      fin (((s.modCirq fun q => { q with moves := q.moves.erase m }).moveSlot n m.cluster m.slot).copyReads m.cluster copies.length) := by
    show execPlannedSwitch (some n) copies s = _
    rw [execPlannedSwitch]
    dsimp only
    rw [hm]
    dsimp only
    rw [if_pos (by rw [hholds, hfree, hrole]; rfl)]
  have hne : s.clusterOf n ≠ m.cluster ∨ s.slotOf n ≠ m.slot := by
    by_contra h
    obtain ⟨h1, h2⟩ := not_or.mp h
    rw [not_not.mp h1, not_not.mp h2, hfree] at hvalid
    exact Bool.false_ne_true hvalid
  have hmove := moveSlot_follows (s.modCirq fun q => { q with moves := q.moves.erase m }) n.isLt ha hc hk hne
  obtain ⟨hcluster, hplace, hon, hmn, hloops, harrival, hemptied⟩ := slotFollowed_copyReads m.cluster copies.length hmove
  exact completes_fin he ⟨hcluster, hplace, hon, hmn, hloops, harrival, hemptied⟩

/-! ### A collision (R110) -/

theorem wr_regs (s : State) (r : Reg) (i j : Nat) (v : Word) : { s with regs := (s.wr r i j v).regs } = s.wr r i j v := by
  unfold State.wr
  split <;> rfl

/-- The cluster that takes mechanism n away from its own: the one that would be chosen were its slot free. -/
def awayCluster (s : State) (n : Nat) : Option Nat := (s.wr .CIRQ_SLOT (s.clusterOf n) (s.slotOf n) 0).choose (portOf n)
  (s.get .CIRQ_SLOT_SUB (s.clusterOf n) (s.slotOf n)) (s.arrivalOf n)

/-- The collision is shown, and perhaps a move is planned. -/
theorem execCollisionMove_held {s : State} {n : Mn} (hholds : s.holdsSlot n = true) : execCollisionMove n s =
    match awayCluster s n with
    | none => fin (s.raise .CIRQ_EVENT_COLLIDE (s.clusterOf n))
    | some d =>
      if d = s.clusterOf n then fin (s.raise .CIRQ_EVENT_COLLIDE (s.clusterOf n))
      else match s.freeSlot d with
        | none => fin (s.raise .CIRQ_EVENT_COLLIDE (s.clusterOf n))
        | some k => fin ((s.raise .CIRQ_EVENT_COLLIDE (s.clusterOf n)).modCirq fun q =>
            { q with moves := q.moves.filter (fun m => m.mn != n.val) ++ [{ mn := n, cluster := d, slot := k }] }) := by
  unfold execCollisionMove
  rw [hholds, Bool.not_true, if_neg Bool.false_ne_true]
  dsimp only
  rw [wr_regs] <;> rfl

theorem collisionMove_plans {s : State} {n : Mn} (hholds : s.holdsSlot n = true) (hc : s.clusterOf n < 17) : Completes (.collisionMove n) s fun t =>
    t.on .CIRQ_EVENT_COLLIDE (s.clusterOf n) = true ∧ ∀ d k, awayCluster s n = some d → d ≠ s.clusterOf n → s.freeSlot d = some k →
        { mn := n, cluster := d, slot := k } ∈ t.cirq.moves := by
  have hshown : (s.raise .CIRQ_EVENT_COLLIDE (s.clusterOf n)).on .CIRQ_EVENT_COLLIDE (s.clusterOf n) = true :=
    on_eq_true_of_get (get_raise_self (by decide) _ _ (clusterReg_has rfl hc) (by decide))
  have hnote : ∀ u : State, u.on .CIRQ_EVENT_COLLIDE (s.clusterOf n) = true → u.noteEvents.on .CIRQ_EVENT_COLLIDE (s.clusterOf n) = true :=
    fun u hu => (on_off (it_noteEvents u) (by decide)).trans hu
  have he : exec (.collisionMove n) s = execCollisionMove n s := rfl
  rw [execCollisionMove_held hholds] at he
  cases haway : awayCluster s n with
  | none =>
    rw [haway] at he
    exact completes_fin he ⟨hnote _ hshown, fun d k h => by simp at h⟩
  | some d =>
    rw [haway] at he
    dsimp only at he
    by_cases hd : d = s.clusterOf n
    · rw [if_pos hd] at he
      refine completes_fin he ⟨hnote _ hshown, fun e k h hne => absurd (Option.some.inj h ▸ hd) hne⟩
    · rw [if_neg hd] at he
      cases hfree : s.freeSlot d with
      | none =>
        rw [hfree] at he
        refine completes_fin he ⟨hnote _ hshown, fun e k h _ hk => ?_⟩
        rw [← Option.some.inj h, hfree] at hk
        exact absurd hk (by simp)
      | some k =>
        rw [hfree] at he
        refine completes_fin he ⟨hnote _ ((on_of_get (get_modCirq _ _ _ _ _)).trans hshown), fun e i h _ hi => ?_⟩
        obtain rfl := Option.some.inj h
        rw [hfree] at hi
        obtain rfl := Option.some.inj hi
        rw [cirq_off (it_noteEvents _) (by decide)]
        exact List.mem_append_right _ List.mem_cons_self

end Sys2Proof.Proofs
end

section
/-! OBLIGATION O41. Cluster faults, handovers, cluster tests and the planned operations of CIRQ_HO_CMD. -/

namespace Sys2Proof.Proofs

open Sys2Proof.Machine Sys2Proof.Laws

theorem clusterFault_answers (c : ClusterIx) (cause : Fin 3) (s : State) : Completes (.clusterFault c cause) s fun t => t.on .RST_CAUSE_CLUSTER = true ∧
    (s.get .CIRQ_STATUS_ROLE c = 0 → t.get .CIRQ_STATUS_ROLE c = 2) ∧
    (s.get .CIRQ_STATUS_ROLE c = 0 → s.cirq.ho = none → ∀ d, s.spare = some d → t.cirq.ho = some { src := c, dst := d, at_ := s.now } ∧
      t.on .CIRQ_HO_STAT_BUSY = true ∧ t.get .CIRQ_HO_STAT_CAUSE = cause.val + 1 ∧ t.get .CIRQ_HO_STAT_FROM = c.val ∧ t.get .CIRQ_HO_STAT_TO = d) ∧
    (s.get .CIRQ_STATUS_ROLE c = 0 → s.cirq.ho = none → s.spare = none → c.val ∈ t.cirq.uncomputed) ∧
    (s.get .CIRQ_STATUS_ROLE c = 1 → s.cirq.ho = none → t.get .CIRQ_STATUS_ROLE c = 2) := by
  obtain ⟨t, ht, hcause⟩ := clusterFault_cause c cause s
  exact ⟨t, ht, hcause, fun h => completes_at (clusterFault_tests cause h) ht, fun h hho _ hd => completes_at (clusterFault_handsOver cause h hho hd) ht,
    fun h hho hs => completes_at (clusterFault_leavesOut cause h hho hs) ht, fun h hho => completes_at (clusterFault_testsSpare cause h hho) ht⟩

/-- Settles O41: each command is stated through what it does to the slots, the roles and CIRQ_HO_STAT. The order of refusals that hold at once is the model's
(notes/assumptions/95.md). -/
theorem clusterHandovers : Obligations.ClusterHandovers := by
  unfold Obligations.ClusterHandovers
  refine ⟨clusterFault_answers, fun copies s h hho hop hdue hsrc hdst hne => ?_, fun c pass s hbist hrole => clusterTestDone_shows pass hbist hrole,
    fun c fmt s hopen => ⟨plannedCommand_answers (execHoTest_open hopen), plannedCommand_answers (execHoUcode_open hopen), ?_,
      fun hbusy hc => hoRetest_answers hopen hbusy hc⟩, fun copies s h hho hop hsrc hdst hne => ?_,
    fun n copies s m hm hholds hc hk ha hfree hvalid hrole => ?_, fun n s hholds hc => collisionMove_plans hholds hc⟩
  · obtain ⟨t, ht, hnone, hrepeats, hbusy, hrole, hfmt, hslots⟩ := handoverServe_serves copies hho hop hdue hsrc hdst hne
    refine ⟨t, ht, hnone, hrepeats, hbusy, hrole, hfmt, fun k hk => ?_⟩
    obtain ⟨hslot, hemptied, hloops, hangle, hserves⟩ := hslots k hk
    exact ⟨hslot, hemptied, hloops, hangle, hserves⟩
  · obtain ⟨t, ht, hrefused, hstarted⟩ := hoFormat_answers (c := c) (fmt := fmt) hopen
    refine ⟨t, ht, fun hr => ?_, fun hr hw => ?_, fun hr hw hm => ?_, fun hr hw hm => hstarted (formatRefusal_none hr hw hm)⟩
    · have h := formatRefusal_shared (f := b2n fmt) hr
      exact (hrefused (h ▸ hr)).trans h
    · have h := formatRefusal_wide hr hw
      exact (hrefused (by omega)).trans h
    · have h := formatRefusal_missing hr hw hm
      exact (hrefused (by omega)).trans h
  · obtain ⟨t, ht, hnone, hto, hfrom, hbusy, hslots⟩ := plannedSwitch_switches copies hho hop hsrc hdst hne
    exact ⟨t, ht, hnone, hto, fun h1 => by rw [hfrom, h1]; rfl, fun h2 => by rw [hfrom, h2]; rfl, fun h3 => ⟨by rw [hfrom, h3]; rfl, hbusy h3⟩, hslots⟩
  · obtain ⟨t, ht, hcluster, hplace, hon, hmn, hloops, harrival, hemptied⟩ := plannedSwitch_moves copies hm hholds hc hk ha hfree hvalid hrole
    exact ⟨t, ht, hcluster, hplace, hon.trans hvalid, hmn, hloops, harrival, hemptied⟩

end Sys2Proof.Proofs
end

section
/-! SUPPORT. The commands of CIRQ_COEF_CMD (R102, R108, R562): the stage, the banks of a loop, and what CIRQ_COEF_CMD shows. -/

namespace Sys2Proof.Proofs

open Sys2Proof.Machine Sys2Proof.Laws

/-! ### The stage and the banks -/

/-- What the stage holds once a record has been put there. -/
theorem putStage_dword (s : State) (r : List Nat) {i : Nat} (hi : i < 128) : (s.putStage r).get .CIRQ_STAGE_DWORD i = dw r i % 2 ^ 32 := by
  have hself : ∀ u : State, (u.set .CIRQ_STAGE_DWORD i (dw r i)).get .CIRQ_STAGE_DWORD i = dw r i % 2 ^ 32 := fun u =>
    get_set_self (by decide) _ _ _ (by simpa [Reg.has, Fld.CIRQ_STAGE_DWORD, Reg.CIRQ_STAGE] using hi)
  refine forEach_once (P := fun _ => True) (Q := fun u => u.get .CIRQ_STAGE_DWORD i = dw r i % 2 ^ 32) List.nodup_range (List.mem_range.mpr hi) trivial
    (fun _ _ _ _ _ => trivial) (fun u _ => hself u) fun j _ hj u hu => ?_
  exact (get_set_otherIndex (f := .CIRQ_STAGE_DWORD) (g := .CIRQ_STAGE_DWORD) rfl (by decide) u _ hj).trans hu

theorem lx_of_servo {s t : State} (h : t.servo = s.servo) (n l : Nat) : t.lx n l = s.lx n l := by
  rw [State.lx, State.sx, h]
  rfl

theorem lx_modLoop_same (s : State) (n l : Nat) (f : LoopX → LoopX) : (s.modLoop n l f).lx n l = f (s.lx n l) := by
  rw [State.lx, State.modLoop, sx_modServo_same]
  exact tabGet_tabMod_same _ _ _ _

theorem lx_modLoop_ne (s : State) (n : Nat) {l k : Nat} (h : l ≠ k) (f : LoopX → LoopX) : (s.modLoop n l f).lx n k = s.lx n k := by
  rw [State.lx, State.modLoop, sx_modServo_same]
  exact tabGet_tabMod_ne _ h _ _ _

theorem lx_modSpin (s : State) (n l : Nat) (f : SpinX → SpinX) : (s.modSpin n f).lx n l = s.lx n l := by
  rw [State.lx, State.modSpin, sx_modServo_same]
  rfl

/-- The spindle stands or coasts. -/
def Stopped (s : State) (n : Nat) : Prop := s.get .MECH_SPIN_STAT_SPIN_STATE n = 0 ∨ s.get .MECH_SPIN_STAT_SPIN_STATE n = 0xA

/-- The record r of loop l, whose check has passed, goes to its bank: that of loop 7 is active at once where the spindle is stopped. -/
def bankTaken (n l : Nat) (r : List Nat) (s : State) : State :=
  let atOnce := s.get .MECH_SPIN_STAT_SPIN_STATE n == 0 || s.get .MECH_SPIN_STAT_SPIN_STATE n == 0xA
  if l = 7 then
    (s.modSpin n fun p => { p with staged7 := !atOnce }).modLoop n l fun x => if atOnce then { x with active := r, shadow := x.active } else { x with shadow := r }
  else s.modLoop n l fun x => { x with shadow := r }

theorem bankTaken_shadow {s : State} {n l : Nat} (r : List Nat) (h : ¬ (l = 7 ∧ Stopped s n)) :
    ((bankTaken n l r s).lx n l).shadow = r ∧ ((bankTaken n l r s).lx n l).active = (s.lx n l).active := by
  unfold bankTaken
  split
  next h7 =>
    have hrun : (s.get .MECH_SPIN_STAT_SPIN_STATE n == 0 || s.get .MECH_SPIN_STAT_SPIN_STATE n == 0xA) = false := by
      simpa [Stopped, h7] using h
    rw [lx_modLoop_same, lx_modSpin, hrun]
    exact ⟨rfl, rfl⟩
  next =>
    rw [lx_modLoop_same]
    exact ⟨rfl, rfl⟩

theorem bankTaken_atOnce {s : State} {n : Nat} (r : List Nat) (h : Stopped s n) :
    ((bankTaken n 7 r s).lx n 7).active = r ∧ ((bankTaken n 7 r s).lx n 7).shadow = (s.lx n 7).active := by
  have hstop : (s.get .MECH_SPIN_STAT_SPIN_STATE n == 0 || s.get .MECH_SPIN_STAT_SPIN_STATE n == 0xA) = true := by simpa [Stopped] using h
  rw [bankTaken, if_pos rfl, lx_modLoop_same, lx_modSpin, hstop]
  exact ⟨rfl, rfl⟩

/-! ### CIRQ_COEF_CMD -/

theorem coefDone_err (s : State) (k l : Nat) {e : Nat} (he : e < 8) : (s.coefDone k l e).get .CIRQ_COEF_CMD_ERR = e :=
  (get_set0_self (by decide) _ _ (by decide)).trans (Nat.mod_eq_of_lt he)

/-- A command that ends with this ERR keeps what it has done to the banks, the library and the stage. -/
theorem coefCommand_ends {i : Instr} {s u : State} {k l e : Nat} (hexec : exec i s = fin (u.coefDone k l e)) (he : e < 8) : Completes i s fun t =>
    t.get .CIRQ_COEF_CMD_ERR = e ∧ t.servo = u.servo ∧ t.cirq = u.cirq ∧ ∀ j, t.get .CIRQ_STAGE_DWORD j = u.get .CIRQ_STAGE_DWORD j := by
  refine completes_fin hexec ⟨?_, ?_, ?_, fun j => ?_⟩
  · rw [get_off (it_noteEvents _) (by decide), coefDone_err _ _ _ he]
  · rw [servo_off (it_noteEvents _) (by decide), servo_off (it_coefDone _ _ _ _) (by decide)]
  · rw [cirq_off (it_noteEvents _) (by decide), cirq_off (it_coefDone _ _ _ _) (by decide)]
  · rw [get_off (it_noteEvents _) (by decide), get_off (it_coefDone _ _ _ _) (by decide)]

theorem coefErr_lt (l : Nat) (r : List Nat) : coefErr l r < 8 := by
  unfold coefErr
  (repeat' split) <;> omega

/-! ### The operations addressed by MN -/

theorem dozeWake_inHandover (s : State) (n : Nat) : (s.dozeWake 2).inHandover n = s.inHandover n := by
  simp only [State.inHandover, dozeWake_holdsSlot, dozeWake_cirq, dozeWake_clusterOf]

section
variable {s : State} (hopen : s.closed = false) (hidle : s.on .CIRQ_COEF_CMD_BUSY = false)
include hopen hidle

theorem coefCmd_now {n : Nat} (hho : s.inHandover n = false) (op l : Nat) (r : List Nat) : s.coefCmd n op l r = fin ((s.dozeWake 2).coefOp op n l r) := by
  rw [State.coefCmd, regCmd_open hopen, dozeWake_on (by decide), hidle, dozeWake_inHandover, hho, if_neg Bool.false_ne_true, if_neg Bool.false_ne_true]

/-- A command that meets a handover waits for its end. -/
def coefWaiting (n op l : Nat) (r : List Nat) (u : State) : State :=
  (((u.set0 .CIRQ_COEF_CMD_TARGET n).set0 .CIRQ_COEF_CMD_LOOP l).set0 .CIRQ_COEF_CMD_BUSY 1).modCirq fun q =>
    { q with coefWait := some { op := op, mn := n, loop := l, words := r } }

theorem coefCmd_later {n : Nat} (hho : s.inHandover n = true) (op l : Nat) (r : List Nat) : s.coefCmd n op l r = fin (coefWaiting n op l r (s.dozeWake 2)) := by
  rw [State.coefCmd, regCmd_open hopen, dozeWake_on (by decide), hidle, dozeWake_inHandover, hho, if_neg Bool.false_ne_true, if_pos rfl]
  rfl

theorem coefCommand_waits {i : Instr} {n op l : Nat} {r : List Nat} (hho : s.inHandover n = true) (he : exec i s = s.coefCmd n op l r) : Completes i s fun t =>
    t.on .CIRQ_COEF_CMD_BUSY = true ∧ t.servo = s.servo ∧ t.cirq.coefWait = some { op := op, mn := n, loop := l, words := r } := by
  rw [coefCmd_later hopen hidle hho] at he
  refine completes_fin he ⟨?_, ?_, ?_⟩
  · rw [on_off (it_noteEvents _) (by decide), coefWaiting, on_of_get (get_modCirq _ _ _ _ _)]
    exact on_eq_true_of_get (get_set0_self (by decide) _ _ (by decide))
  · rw [servo_off (it_noteEvents _) (by decide), coefWaiting, servo_off (it_modCirq _ _) (by decide), set0_servo, set0_servo, set0_servo, dozeWake_servo]
  · rw [cirq_off (it_noteEvents _) (by decide)]
    rfl

end

section
variable {s : State} {n : Nat}

theorem coefOp_noSlot (h : s.holdsSlot n = false) (op l : Nat) (r : List Nat) : s.coefOp op n l r = s.coefDone n l 2 := by
  rw [State.coefOp, h, Bool.not_false, if_pos rfl]

variable (h : s.holdsSlot n = true)
include h

theorem coefOp_held (op l : Nat) (r : List Nat) : s.coefOp op n l r =
    if op = 1 then
      if coefErr l r ≠ 0 then s.coefDone n l (coefErr l r) else if s.ls n l = 2 then s.coefDone n l 4 else (bankTaken n l r s).coefDone n l 0
    else if op = 2 then if (s.lx n l).shadow = [] then s.coefDone n l 7 else (s.putStage (s.lx n l).shadow).coefDone n l 0
    else (s.putStage (s.lx n l).active).coefDone n l 0 := by
  rw [State.coefOp, h, Bool.not_true, if_neg Bool.false_ne_true]
  by_cases h1 : op = 1
  · rw [if_pos h1, if_pos h1]
    by_cases h7 : l = 7
    · simp only [bankTaken, if_pos h7]
    · simp only [bankTaken, if_neg h7]
  · rw [if_neg h1, if_neg h1]
    by_cases h2 : op = 2
    · rw [if_pos h2, if_pos h2]
      cases (s.lx n l).shadow with
      | nil => rw [if_pos rfl]
      | cons w r => rw [if_neg (List.cons_ne_nil w r)]
    · rw [if_neg h2, if_neg h2]

end

/-! ### COEF_STAGE_TO_SHADOW, COEF_SHADOW_TO_STAGE and COEF_ACTIVE_TO_STAGE -/

section
variable {s : State} {mn : Mn} {l : LoopIx} (hopen : s.closed = false) (hidle : s.on .CIRQ_COEF_CMD_BUSY = false) (hho : s.inHandover mn = false)
include hopen hidle hho

theorem coefCmd_noSlot {i : Instr} {op : Nat} {r : List Nat} (hi : exec i s = s.coefCmd mn op l r) (h : s.holdsSlot mn = false) :
    Completes i s fun t => t.get .CIRQ_COEF_CMD_ERR = 2 := by
  rw [coefCmd_now hopen hidle hho, coefOp_noSlot ((dozeWake_holdsSlot s mn).trans h)] at hi
  obtain ⟨t, ht, herr, -⟩ := coefCommand_ends hi (by decide)
  exact ⟨t, ht, herr⟩

/-- Of a mechanism with a slot: the operation, in the words of the state before the command. -/
theorem coefCmd_held (h : s.holdsSlot mn = true) (op : Nat) (r : List Nat) : s.coefCmd mn op l r = fin (
    if op = 1 then
      if coefErr l r ≠ 0 then (s.dozeWake 2).coefDone mn l (coefErr l r)
      else if s.ls mn l = 2 then (s.dozeWake 2).coefDone mn l 4 else (bankTaken mn l r (s.dozeWake 2)).coefDone mn l 0
    else if op = 2 then if (s.lx mn l).shadow = [] then (s.dozeWake 2).coefDone mn l 7 else ((s.dozeWake 2).putStage (s.lx mn l).shadow).coefDone mn l 0
    else ((s.dozeWake 2).putStage (s.lx mn l).active).coefDone mn l 0) := by
  rw [coefCmd_now hopen hidle hho, coefOp_held ((dozeWake_holdsSlot s mn).trans h), dozeWake_ls, dozeWake_lx]

theorem coefStageToShadow_refused (h : s.holdsSlot mn = true) (hbad : coefErr l s.stage ≠ 0) : Completes (.coefStageToShadow mn l) s fun t =>
    t.get .CIRQ_COEF_CMD_ERR = coefErr l s.stage ∧ t.servo = s.servo := by
  have he : exec (.coefStageToShadow mn l) s = fin ((s.dozeWake 2).coefDone mn l (coefErr l s.stage)) := by
    show s.coefCmd mn 1 l s.stage = _
    rw [coefCmd_held hopen hidle hho h, if_pos rfl, if_pos hbad]
  obtain ⟨t, ht, herr, hservo, -⟩ := coefCommand_ends he (coefErr_lt _ _)
  exact ⟨t, ht, herr, hservo.trans (dozeWake_servo s)⟩

theorem coefStageToShadow_inHold (h : s.holdsSlot mn = true) (hgood : coefErr l s.stage = 0) (hhold : s.ls mn l = 2) :
    Completes (.coefStageToShadow mn l) s fun t => t.get .CIRQ_COEF_CMD_ERR = 4 ∧ t.servo = s.servo := by
  have he : exec (.coefStageToShadow mn l) s = fin ((s.dozeWake 2).coefDone mn l 4) := by
    show s.coefCmd mn 1 l s.stage = _
    rw [coefCmd_held hopen hidle hho h, if_pos rfl, if_neg (not_not.mpr hgood), if_pos hhold]
  obtain ⟨t, ht, herr, hservo, -⟩ := coefCommand_ends he (by decide)
  exact ⟨t, ht, herr, hservo.trans (dozeWake_servo s)⟩

theorem coefStageToShadow_takes (h : s.holdsSlot mn = true) (hgood : coefErr l s.stage = 0) (hhold : s.ls mn l ≠ 2) :
    Completes (.coefStageToShadow mn l) s fun t => t.get .CIRQ_COEF_CMD_ERR = 0 ∧
      (¬ (l.val = 7 ∧ Stopped s mn) → (t.lx mn l).shadow = s.stage ∧ (t.lx mn l).active = (s.lx mn l).active) ∧
      (l.val = 7 ∧ Stopped s mn → (t.lx mn l).active = s.stage ∧ (t.lx mn l).shadow = (s.lx mn l).active) := by
  have he : exec (.coefStageToShadow mn l) s = fin ((bankTaken mn l s.stage (s.dozeWake 2)).coefDone mn l 0) := by
    show s.coefCmd mn 1 l s.stage = _
    rw [coefCmd_held hopen hidle hho h, if_pos rfl, if_neg (not_not.mpr hgood), if_neg hhold]
  have hstop : Stopped (s.dozeWake 2) mn ↔ Stopped s mn := by
    rw [Stopped, dozeWake_get (by decide)]
    rfl
  obtain ⟨t, ht, herr, hservo, -⟩ := coefCommand_ends he (by decide)
  refine ⟨t, ht, herr, fun h7 => ?_, fun ⟨h7, hs⟩ => ?_⟩
  · rw [lx_of_servo hservo, ← dozeWake_lx s]
    exact bankTaken_shadow _ (by rwa [hstop])
  · rw [lx_of_servo hservo, ← dozeWake_lx s, h7]
    exact bankTaken_atOnce _ (hstop.mpr hs)

theorem coefShadowToStage_empty (h : s.holdsSlot mn = true) (hnone : (s.lx mn l).shadow = []) :
    Completes (.coefShadowToStage mn l) s fun t => t.get .CIRQ_COEF_CMD_ERR = 7 := by
  have he : exec (.coefShadowToStage mn l) s = fin ((s.dozeWake 2).coefDone mn l 7) := by
    show s.coefCmd mn 2 l [] = _
    rw [coefCmd_held hopen hidle hho h, if_neg (by decide), if_pos rfl, if_pos hnone]
  obtain ⟨t, ht, herr, -⟩ := coefCommand_ends he (by decide)
  exact ⟨t, ht, herr⟩

theorem coefShadowToStage_shows (h : s.holdsSlot mn = true) (hsome : (s.lx mn l).shadow ≠ []) : Completes (.coefShadowToStage mn l) s fun t =>
    t.get .CIRQ_COEF_CMD_ERR = 0 ∧ ∀ i < 128, t.get .CIRQ_STAGE_DWORD i = dw (s.lx mn l).shadow i % 2 ^ 32 := by
  have he : exec (.coefShadowToStage mn l) s = fin (((s.dozeWake 2).putStage (s.lx mn l).shadow).coefDone mn l 0) := by
    show s.coefCmd mn 2 l [] = _
    rw [coefCmd_held hopen hidle hho h, if_neg (by decide), if_pos rfl, if_neg hsome]
  obtain ⟨t, ht, herr, -, -, hstage⟩ := coefCommand_ends he (by decide)
  exact ⟨t, ht, herr, fun i hi => (hstage i).trans (putStage_dword _ _ hi)⟩

theorem coefActiveToStage_shows (h : s.holdsSlot mn = true) : Completes (.coefActiveToStage mn l) s fun t =>
    t.get .CIRQ_COEF_CMD_ERR = 0 ∧ ∀ i < 128, t.get .CIRQ_STAGE_DWORD i = dw (s.lx mn l).active i % 2 ^ 32 := by
  have he : exec (.coefActiveToStage mn l) s = fin (((s.dozeWake 2).putStage (s.lx mn l).active).coefDone mn l 0) := by
    show s.coefCmd mn 3 l [] = _
    rw [coefCmd_held hopen hidle hho h, if_neg (by decide), if_neg (by decide)]
  obtain ⟨t, ht, herr, -, -, hstage⟩ := coefCommand_ends he (by decide)
  exact ⟨t, ht, herr, fun i hi => (hstage i).trans (putStage_dword _ _ hi)⟩

end

end Sys2Proof.Proofs
end

section
/-! SUPPORT. The commands of the coefficient library (R102, R108): what they refuse, hold and show. -/

namespace Sys2Proof.Proofs

open Sys2Proof.Machine Sys2Proof.Laws

/-! ### The library -/

section
variable {cls : Fin 8} {l : LoopIx} {fmt : Bool} {s : State} (hopen : s.closed = false) (hidle : s.on .CIRQ_COEF_CMD_BUSY = false)

/-- The format is shown, and the command wakes the device. -/
def libraryShown (fmt : Bool) (s : State) : State := (s.dozeWake 2).set0 .CIRQ_COEF_CMD_FMT (b2n fmt)

theorem libraryShown_cirq (fmt : Bool) (s : State) : (libraryShown fmt s).cirq = s.cirq := by
  rw [libraryShown, set0_cirq, dozeWake_cirq]

theorem dozeWake_stage (s : State) : (s.dozeWake 2).stage = s.stage := by
  simp only [State.stage, dozeWake_get (f := .CIRQ_STAGE_DWORD) (by decide)]

/-- The record is held in the library. -/
def libraryTaken (cls l f : Nat) (r : List Nat) (s : State) : State := s.modCirq fun q => { q with library := tabIns q.library (cls * 16 + l * 2 + f) r }

theorem libRec_libraryTaken {s t : State} {k l f : Nat} {r : List Nat} (h : t.cirq = (libraryTaken k l f r s).cirq) : t.libRec k l f = r := by
  rw [State.libRec, h]
  exact tabGet_tabIns_same _ _ _ _

include hopen hidle

theorem execCoefStageToLibrary_open : execCoefStageToLibrary cls l fmt s =
    if coefErr l s.stage ≠ 0 then fin ((libraryShown fmt s).coefDone cls l (coefErr l s.stage))
    else if recFmt s.stage ≠ b2n fmt then fin ((libraryShown fmt s).coefDone cls l 6)
    else fin ((libraryTaken cls l (b2n fmt) s.stage (libraryShown fmt s)).coefDone cls l 0) := by
  rw [execCoefStageToLibrary, regCmd_open hopen, dozeWake_on (by decide), hidle, if_neg Bool.false_ne_true, dozeWake_stage]
  rfl

theorem coefStageToLibrary_answers : Completes (.coefStageToLibrary cls l fmt) s fun t =>
    (coefErr l s.stage ≠ 0 → t.get .CIRQ_COEF_CMD_ERR = coefErr l s.stage ∧ t.cirq = s.cirq) ∧
    (coefErr l s.stage = 0 → recFmt s.stage ≠ b2n fmt → t.get .CIRQ_COEF_CMD_ERR = 6 ∧ t.cirq = s.cirq) ∧
    (coefErr l s.stage = 0 → recFmt s.stage = b2n fmt → t.get .CIRQ_COEF_CMD_ERR = 0 ∧ t.libRec cls l (b2n fmt) = s.stage) := by
  have he : exec (.coefStageToLibrary cls l fmt) s = execCoefStageToLibrary cls l fmt s := rfl
  rw [execCoefStageToLibrary_open hopen hidle] at he
  by_cases hbad : coefErr l s.stage = 0
  · rw [if_neg (not_not.mpr hbad)] at he
    by_cases hfmt : recFmt s.stage = b2n fmt
    · rw [if_neg (not_not.mpr hfmt)] at he
      obtain ⟨t, ht, herr, -, hcirq, -⟩ := coefCommand_ends he (by decide)
      exact ⟨t, ht, fun h => absurd hbad h, fun _ h => absurd hfmt h, fun _ _ => ⟨herr, libRec_libraryTaken hcirq⟩⟩
    · rw [if_pos hfmt] at he
      obtain ⟨t, ht, herr, -, hcirq, -⟩ := coefCommand_ends he (by decide)
      exact ⟨t, ht, fun h => absurd hbad h, fun _ _ => ⟨herr, hcirq.trans (libraryShown_cirq _ _)⟩, fun _ h => absurd h hfmt⟩
  · rw [if_pos hbad] at he
    obtain ⟨t, ht, herr, -, hcirq, -⟩ := coefCommand_ends he (coefErr_lt _ _)
    exact ⟨t, ht, fun _ => ⟨herr, hcirq.trans (libraryShown_cirq _ _)⟩, fun h => absurd h hbad, fun h => absurd h hbad⟩

theorem coefLibraryToStage_shows : Completes (.coefLibraryToStage cls l fmt) s fun t => t.get .CIRQ_COEF_CMD_ERR = 0 ∧
    ∀ i < 128, t.get .CIRQ_STAGE_DWORD i = dw (s.libRec cls l (b2n fmt)) i % 2 ^ 32 := by
  have he : exec (.coefLibraryToStage cls l fmt) s =
      fin ((((s.dozeWake 2).putStage (s.libRec cls l (b2n fmt))).set0 .CIRQ_COEF_CMD_FMT (b2n fmt)).coefDone cls l 0) := by
    show execCoefLibraryToStage cls l fmt s = _
    rw [execCoefLibraryToStage, regCmd_open hopen, dozeWake_on (by decide), hidle, if_neg Bool.false_ne_true, dozeWake_libRec]
  obtain ⟨t, ht, herr, -, -, hstage⟩ := coefCommand_ends he (by decide)
  exact ⟨t, ht, herr, fun i hi => (hstage i).trans ((get_set2_disj (by decide) _ _ _ _ _ _).trans (putStage_dword _ _ hi))⟩

end

end Sys2Proof.Proofs
end

section
/-! SUPPORT. The commands of CIRQ_LOOP_CMD (R105, R106): a swap that is asked for, refused or aborted. -/

namespace Sys2Proof.Proofs

open Sys2Proof.Machine Sys2Proof.Laws

/-! ### The refusals of a swap -/

theorem dozeWake_swapRec (s : State) (n l src : Nat) : (s.dozeWake 2).swapRec n l src = s.swapRec n l src := by
  simp only [State.swapRec, dozeWake_lx, dozeWake_libRec, dozeWake_clsOf, dozeWake_clusterOf, dozeWake_get (f := .CIRQ_FMT_FMT) (by decide)]

theorem dozeWake_swapErr (s : State) (n mask src : Nat) : (s.dozeWake 2).swapErr n mask src = s.swapErr n mask src := by
  simp only [State.swapErr, dozeWake_swapRec, dozeWake_lx, dozeWake_ls, dozeWake_sx, dozeWake_holdsSlot, dozeWake_clusterOf,
    dozeWake_get (f := .CIRQ_FMT_FMT) (by decide)]

theorem swapErr_lt (s : State) (n mask src : Nat) : s.swapErr n mask src < 8 := by
  unfold State.swapErr
  extract_lets ls fmt
  (repeat' split) <;> omega

/-- A swap that is not refused is one of loops 0 to 6. -/
theorem mask_of_swapErr {s : State} {n mask src : Nat} (h : s.swapErr n mask src = 0) (hm : mask < 256) : mask % 128 = mask := by
  have h7 : bitAt mask 7 ≠ 1 := fun h7 => by
    rw [State.swapErr, if_pos h7] at h
    omega
  unfold bitAt at h7
  omega

/-! ### CIRQ_LOOP_STAT -/

/-- CIRQ_LOOP_STAT shows a command for mechanism n with this ERR and BUSY. -/
def loopStatShown (n err busy : Nat) (s : State) : State :=
  (((s.set0 .CIRQ_LOOP_STAT_MN n).set0 .CIRQ_LOOP_STAT_DONE 0).set0 .CIRQ_LOOP_STAT_ERR err).set0 .CIRQ_LOOP_STAT_BUSY busy

theorem loopStatShown_err (s : State) (n busy : Nat) {err : Nat} (h : err < 8) : (loopStatShown n err busy s).get .CIRQ_LOOP_STAT_ERR = err := by
  rw [loopStatShown, get_set0_beside (f := .CIRQ_LOOP_STAT_BUSY) (g := .CIRQ_LOOP_STAT_ERR) rfl (by decide), get_set0_self (by decide) _ _ (by decide)]
  exact Nat.mod_eq_of_lt h

theorem loopStatShown_busy (s : State) (n err : Nat) : (loopStatShown n err 1 s).on .CIRQ_LOOP_STAT_BUSY = true :=
  on_eq_true_of_get (get_set0_self (by decide) _ _ (by decide))

theorem loopStatShown_servo (s : State) (n err busy : Nat) : (loopStatShown n err busy s).servo = s.servo := by
  rw [loopStatShown, set0_servo, set0_servo, set0_servo, set0_servo]

theorem startSwap_eq (s : State) (n mask src : Nat) : s.startSwap n mask src =
    if s.swapErr n mask src ≠ 0 then loopStatShown n (s.swapErr n mask src) 0 s
    else if mask % 128 = 0 then loopStatShown n 0 0 s
    else (loopStatShown n 0 1 s).modServo n fun v => { v with swap := some { mask := mask, src := src } } := rfl

theorem swapCommand_answers {i : Instr} {s : State} {mn : Mn} {mask : Fin 256} {src : Nat} (he : exec i s = fin ((s.dozeWake 2).startSwap mn mask src)) :
    Completes i s fun t =>
      (s.swapErr mn mask src ≠ 0 → t.get .CIRQ_LOOP_STAT_ERR = s.swapErr mn mask src ∧ t.servo = s.servo) ∧
      (s.swapErr mn mask src = 0 → mask.val ≠ 0 → t.get .CIRQ_LOOP_STAT_ERR = 0 ∧ t.on .CIRQ_LOOP_STAT_BUSY = true ∧
        (t.sx mn).swap = some { mask := mask, src := src }) := by
  rw [startSwap_eq, dozeWake_swapErr] at he
  by_cases herr : s.swapErr mn mask src = 0
  · rw [if_neg (not_not.mpr herr), mask_of_swapErr herr mask.isLt] at he
    by_cases hm : mask.val = 0
    · rw [if_pos hm] at he
      exact completes_fin he ⟨fun h => absurd herr h, fun _ h => absurd hm h⟩
    · rw [if_neg hm] at he
      refine completes_fin he ⟨fun h => absurd herr h, fun _ _ => ⟨?_, ?_, ?_⟩⟩
      · rw [get_off (it_noteEvents _) (by decide), get_modServo, loopStatShown_err _ _ _ (by decide)]
      · rw [on_off (it_noteEvents _) (by decide), on_of_get (get_modServo _ _ _ _ _ _), loopStatShown_busy]
      · rw [sx_off (it_noteEvents _) (by decide), sx_modServo_same]
  · rw [if_pos herr] at he
    refine completes_fin he ⟨fun _ => ⟨?_, ?_⟩, fun h => absurd h herr⟩
    · rw [get_off (it_noteEvents _) (by decide), loopStatShown_err _ _ _ (swapErr_lt _ _ _ _)]
    · rw [servo_off (it_noteEvents _) (by decide), loopStatShown_servo, dozeWake_servo]

theorem exec_swapFromShadow {s : State} {mn : Mn} {mask : Fin 256} (hopen : s.closed = false) :
    exec (.swapFromShadow mn mask) s = fin ((s.dozeWake 2).startSwap mn mask 1) := by
  show execSwapFromShadow mn mask s = _
  rw [execSwapFromShadow, regCmd_open hopen]

theorem exec_swapFromLibrary {s : State} {mn : Mn} {mask : Fin 256} (hopen : s.closed = false) :
    exec (.swapFromLibrary mn mask) s = fin ((s.dozeWake 2).startSwap mn mask 2) := by
  show execSwapFromLibrary mn mask s = _
  rw [execSwapFromLibrary, regCmd_open hopen]

/-! ### SWAP_ABORT -/

/-- CIRQ_LOOP_STAT shows an ABORT for mechanism n with this ERR. -/
def abortShown (n err : Nat) (s : State) : State :=
  (((s.set0 .CIRQ_LOOP_STAT_MN n).set0 .CIRQ_LOOP_STAT_DONE 0).set0 .CIRQ_LOOP_STAT_BUSY 0).set0 .CIRQ_LOOP_STAT_ERR err

theorem abortShown_err (s : State) (n : Nat) {err : Nat} (h : err < 8) : (abortShown n err s).get .CIRQ_LOOP_STAT_ERR = err :=
  (get_set0_self (by decide) _ _ (by decide)).trans (Nat.mod_eq_of_lt h)

theorem sx_abortShown (s : State) (n err k : Nat) : (abortShown n err s).sx k = s.sx k := by
  rw [State.sx, abortShown, set0_servo, set0_servo, set0_servo, set0_servo]
  rfl

theorem abort_refused {i : Instr} {s : State} {n err : Nat} (hlt : err < 8) (he : exec i s = fin (abortShown n err (s.dozeWake 2))) :
    Completes i s fun t => t.get .CIRQ_LOOP_STAT_ERR = err ∧ (t.sx n).swap = (s.sx n).swap := by
  refine completes_fin he ⟨?_, ?_⟩
  · rw [get_off (it_noteEvents _) (by decide), abortShown_err _ _ hlt]
  · rw [sx_off (it_noteEvents _) (by decide), sx_abortShown, dozeWake_sx]

section
variable {s : State} {mn : Mn} (hopen : s.closed = false)
include hopen

theorem swapAbort_noSlot (h : s.holdsSlot mn = false) : Completes (.swapAbort mn) s fun t => t.get .CIRQ_LOOP_STAT_ERR = 2 := by
  have he : exec (.swapAbort mn) s = fin (abortShown mn 2 (s.dozeWake 2)) := by
    show execSwapAbort mn s = _
    simp [execSwapAbort, regCmd_open hopen, dozeWake_holdsSlot, h, abortShown]
  obtain ⟨t, ht, herr, -⟩ := abort_refused (by decide) he
  exact ⟨t, ht, herr⟩

variable (hslot : s.holdsSlot mn = true)
include hslot

theorem swapAbort_noSwap (hnone : (s.sx mn).swap = none) : Completes (.swapAbort mn) s fun t => t.get .CIRQ_LOOP_STAT_ERR = 4 := by
  have he : exec (.swapAbort mn) s = fin (abortShown mn 4 (s.dozeWake 2)) := by
    show execSwapAbort mn s = _
    simp [execSwapAbort, regCmd_open hopen, dozeWake_holdsSlot, dozeWake_sx, hslot, hnone, abortShown]
  obtain ⟨t, ht, herr, -⟩ := abort_refused (by decide) he
  exact ⟨t, ht, herr⟩

variable {w : SwapX} (hswap : (s.sx mn).swap = some w)
include hswap

theorem swapAbort_early (hearly : w.entered = false) : Completes (.swapAbort mn) s fun t => t.get .CIRQ_LOOP_STAT_ERR = 4 ∧ (t.sx mn).swap = some w := by
  have he : exec (.swapAbort mn) s = fin (abortShown mn 4 (s.dozeWake 2)) := by
    show execSwapAbort mn s = _
    simp [execSwapAbort, regCmd_open hopen, dozeWake_holdsSlot, dozeWake_sx, hslot, hswap, hearly, abortShown]
  obtain ⟨t, ht, herr, hkept⟩ := abort_refused (by decide) he
  exact ⟨t, ht, herr, hkept.trans hswap⟩

theorem swapAbort_marks (hentered : w.entered = true) : Completes (.swapAbort mn) s fun t =>
    t.get .CIRQ_LOOP_STAT_ERR = 0 ∧ (t.sx mn).swap = some { w with abort := true } := by
  have he : exec (.swapAbort mn) s = fin (((abortShown mn 0 (s.dozeWake 2)).set0 .CIRQ_LOOP_STAT_BUSY 1).modServo mn fun v =>
      { v with swap := some { w with abort := true } }) := by
    show execSwapAbort mn s = _
    simp [execSwapAbort, regCmd_open hopen, dozeWake_holdsSlot, dozeWake_sx, hslot, hswap, hentered, abortShown]
  refine completes_fin he ⟨?_, ?_⟩
  · rw [get_off (it_noteEvents _) (by decide), get_modServo, get_set0_beside (f := .CIRQ_LOOP_STAT_BUSY) (g := .CIRQ_LOOP_STAT_ERR) rfl (by decide),
      abortShown_err _ _ (by decide)]
  · rw [sx_off (it_noteEvents _) (by decide), sx_modServo_same]

end

end Sys2Proof.Proofs
end

section
/-! SUPPORT. The swap itself (R105 to R107): the loops that take their new banks, and those of a swap that is abandoned. -/

namespace Sys2Proof.Proofs

open Sys2Proof.Machine Sys2Proof.Laws

/-! ### One loop -/

theorem lx_setLs (s : State) (n l v m k : Nat) : (s.setLs n l v).lx m k = s.lx m k := lx_of_servo (set2_servo _ _ _ _ _) m k

/-- Loop l of mechanism n takes the record as its new bank and enters SOFT (R107). -/
def loopSwapped (n : Nat) (rec : Nat → List Nat) (s : State) (l : Nat) : State := (s.modLoop n l fun x => newBank x (rec l) x.q).setLs n l 3

section
variable (s : State) (n : Nat) (rec : Nat → List Nat) {l k : Nat}

theorem loopSwapped_clusterOf (l : Nat) : (loopSwapped n rec s l).clusterOf n = s.clusterOf n := (clusterOf_setLs _ n l 3 n).1

theorem loopSwapped_ls (hc : s.clusterOf n < 17) (hk : k < 8) : (loopSwapped n rec s l).ls n k = if k = l then 3 else s.ls n k :=
  ls_setLs (s.modLoop n l fun x => newBank x (rec l) x.q) hc hk (by decide)

theorem loopSwapped_lx_same (l : Nat) : (loopSwapped n rec s l).lx n l = newBank (s.lx n l) (rec l) (s.lx n l).q :=
  (lx_setLs _ _ _ _ _ _).trans (lx_modLoop_same _ _ _ _)

theorem loopSwapped_lx_other (h : l ≠ k) : (loopSwapped n rec s l).lx n k = s.lx n k := (lx_setLs _ _ _ _ _ _).trans (lx_modLoop_ne _ _ h _)

end

/-! ### Every loop of the mask -/

/-- The loops of a mask. -/
def maskLoops (mask : Nat) : List Nat := (List.range 7).filter fun l => bitAt mask l == 1

theorem mem_maskLoops {mask l : Nat} : l ∈ maskLoops mask ↔ l < 7 ∧ bitAt mask l = 1 := by
  simp [maskLoops]

theorem nodup_maskLoops (mask : Nat) : (maskLoops mask).Nodup := List.nodup_range.filter _

section
variable {s : State} {n : Nat} (hc : s.clusterOf n < 17) (rec : Nat → List Nat) {mask l : Nat} (hl : l < 7)
include hc hl

theorem loopsSwapped_in (hbit : bitAt mask l = 1) : (s.forEach (maskLoops mask) (loopSwapped n rec)).ls n l = 3 ∧
    (s.forEach (maskLoops mask) (loopSwapped n rec)).lx n l = newBank (s.lx n l) (rec l) (s.lx n l).q := by
  have hQ := forEach_once (P := fun t => t.clusterOf n = s.clusterOf n ∧ t.lx n l = s.lx n l)
    (Q := fun t => t.clusterOf n = s.clusterOf n ∧ t.ls n l = 3 ∧ t.lx n l = newBank (s.lx n l) (rec l) (s.lx n l).q) (f := loopSwapped n rec)
    (nodup_maskLoops mask) (mem_maskLoops.mpr ⟨hl, hbit⟩) (s := s) ⟨rfl, rfl⟩
    (fun j _ hj t ⟨ht, hx⟩ => ⟨(loopSwapped_clusterOf t n rec j).trans ht, (loopSwapped_lx_other t n rec hj).trans hx⟩)
    (fun t ⟨ht, hx⟩ => ⟨(loopSwapped_clusterOf t n rec l).trans ht, (loopSwapped_ls t n rec (ht ▸ hc) (by omega)).trans (if_pos rfl),
      by rw [loopSwapped_lx_same, hx]⟩)
    (fun j _ hj t ⟨ht, hs, hx⟩ => ⟨(loopSwapped_clusterOf t n rec j).trans ht,
      (loopSwapped_ls t n rec (ht ▸ hc) (by omega)).trans ((if_neg (Ne.symm hj)).trans hs), (loopSwapped_lx_other t n rec hj).trans hx⟩)
  exact hQ.2

theorem loopsSwapped_out (hbit : bitAt mask l = 0) : (s.forEach (maskLoops mask) (loopSwapped n rec)).ls n l = s.ls n l ∧
    (s.forEach (maskLoops mask) (loopSwapped n rec)).lx n l = s.lx n l := by
  have hP := forEach_keeps (P := fun t => t.clusterOf n = s.clusterOf n ∧ t.ls n l = s.ls n l ∧ t.lx n l = s.lx n l) (loopSwapped n rec) (maskLoops mask) s
    (fun j hj t ⟨ht, hs, hx⟩ => by
      have hne : j ≠ l := by
        rintro rfl
        have := (mem_maskLoops.mp hj).2
        omega
      exact ⟨(loopSwapped_clusterOf t n rec j).trans ht, (loopSwapped_ls t n rec (ht ▸ hc) (by omega)).trans ((if_neg (Ne.symm hne)).trans hs),
        (loopSwapped_lx_other t n rec hne).trans hx⟩) ⟨rfl, rfl, rfl⟩
  exact hP.2

end

/-! ### The loops of a swap that is abandoned (R106) -/

/-- A loop of the mask that is in HOLD returns to CLOSED. -/
def loopFreed (n mask : Nat) (s : State) (l : Nat) : State := if bitAt mask l = 1 ∧ s.ls n l = 2 then s.setLs n l 1 else s

section
variable (s : State) (n mask : Nat)

theorem loopFreed_servo (l : Nat) : (loopFreed n mask s l).servo = s.servo := by
  unfold loopFreed
  split
  · exact set2_servo _ _ _ _ _
  · rfl

theorem loopFreed_clusterOf (l : Nat) : (loopFreed n mask s l).clusterOf n = s.clusterOf n := by
  unfold loopFreed
  split
  · exact (clusterOf_setLs _ _ _ _ _).1
  · rfl

variable {s n mask} in
theorem loopFreed_same (hc : s.clusterOf n < 17) {l : Nat} (hl : l < 8) :
    (loopFreed n mask s l).ls n l = if bitAt mask l = 1 ∧ s.ls n l = 2 then 1 else s.ls n l := by
  unfold loopFreed
  split
  · exact (ls_setLs s hc hl (by decide)).trans (if_pos rfl)
  · rfl

variable {s n mask} in
theorem loopFreed_other (hc : s.clusterOf n < 17) {l k : Nat} (hk : k < 8) (h : l ≠ k) : (loopFreed n mask s l).ls n k = s.ls n k := by
  unfold loopFreed
  split
  · exact (ls_setLs s hc hk (by decide)).trans (if_neg (Ne.symm h))
  · rfl

end

theorem loopsFreed_servo (s : State) (n mask : Nat) : (s.forEach (List.range 7) (loopFreed n mask)).servo = s.servo :=
  forEach_keeps (P := fun t => t.servo = s.servo) _ _ _ (fun l _ t ht => (loopFreed_servo t n mask l).trans ht) rfl

theorem loopsFreed_ls {s : State} {n : Nat} (hc : s.clusterOf n < 17) (mask : Nat) {l : Nat} (hl : l < 7) :
    (s.forEach (List.range 7) (loopFreed n mask)).ls n l = if bitAt mask l = 1 ∧ s.ls n l = 2 then 1 else s.ls n l := by
  have hQ := forEach_once (P := fun t => t.clusterOf n = s.clusterOf n ∧ t.ls n l = s.ls n l)
    (Q := fun t => t.clusterOf n = s.clusterOf n ∧ t.ls n l = if bitAt mask l = 1 ∧ s.ls n l = 2 then 1 else s.ls n l) (f := loopFreed n mask)
    List.nodup_range (List.mem_range.mpr hl) (s := s) ⟨rfl, rfl⟩
    (fun j _ hj t ⟨ht, hs⟩ => ⟨(loopFreed_clusterOf t n mask j).trans ht, (loopFreed_other (ht ▸ hc) (by omega) hj).trans hs⟩)
    (fun t ⟨ht, hs⟩ => ⟨(loopFreed_clusterOf t n mask l).trans ht, by rw [loopFreed_same (ht ▸ hc) (by omega), hs]⟩)
    (fun j _ hj t ⟨ht, hs⟩ => ⟨(loopFreed_clusterOf t n mask j).trans ht, (loopFreed_other (ht ▸ hc) (by omega) hj).trans hs⟩)
  exact hQ.2

/-! ### The end of a swap -/

/-- The swap of mechanism n ends: its hold count at slot k of cluster c is cleared, and CIRQ_LOOP_STAT shows the end in field F where it shows the swap. -/
def swapClosed (n c k : Nat) (g : ServoX → ServoX) (F : Fld) (v : Nat) (s : State) : State :=
  ((s.modServo n g).set2 .CIRQ_LSTAT_HOLD_CNT c k 0).loopStatEnd n fun t => t.set0 F v

section
variable {n c k : Nat} {g : ServoX → ServoX} {F : Fld} {v : Nat} (hF : F.reg = .CIRQ_LOOP_STAT) (s : State)

include hF in
theorem it_swapClosed {q : Item} (hq : q.off [.f .CIRQ_LOOP_STAT_BUSY] = true) :
    itm q (swapClosed n c k g F v s) = itm q ((s.modServo n g).set2 .CIRQ_LSTAT_HOLD_CNT c k 0) := by
  have hreg : q.off [.f F] = true := by
    rw [off_f_iff, hF]
    exact (off_f_iff q .CIRQ_LOOP_STAT_BUSY).symm.trans hq
  exact it_loopStatEnd _ _ _ (fun t => it_set0 _ _ _ hreg) hq

include hF in
theorem swapClosed_sx : (swapClosed n c k g F v s).sx n = g (s.sx n) := by
  rw [sx_off (it_swapClosed hF s) (by decide), State.sx, set2_servo]
  exact sx_modServo_same s n g

include hF in
theorem swapClosed_lx (hg : ∀ x, (g x).loops = x.loops) (l : Nat) : (swapClosed n c k g F v s).lx n l = s.lx n l := by
  rw [State.lx, swapClosed_sx hF, hg]
  rfl

include hF in
theorem swapClosed_place : (swapClosed n c k g F v s).clusterOf n = s.clusterOf n ∧ (swapClosed n c k g F v s).slotOf n = s.slotOf n := by
  have hoff := fun {q : Item} (hq : q.off [.f .CIRQ_LOOP_STAT_BUSY] = true) => it_swapClosed (n := n) (c := c) (k := k) (g := g) (v := v) hF s hq
  exact ⟨(get_off hoff (by decide)).trans (get_set2_disj (by decide) _ _ _ _ _ _), (get_off hoff (by decide)).trans (get_set2_disj (by decide) _ _ _ _ _ _)⟩

include hF in
theorem swapClosed_ls (l : Nat) : (swapClosed n c k g F v s).ls n l = s.ls n l := by
  have hoff := fun {q : Item} (hq : q.off [.f .CIRQ_LOOP_STAT_BUSY] = true) => it_swapClosed (n := n) (c := c) (k := k) (g := g) (v := v) hF s hq
  obtain ⟨hcluster, hplace⟩ := swapClosed_place (n := n) (c := c) (k := k) (g := g) (v := v) hF s
  have hget : ∀ d i, (swapClosed n c k g F v s).get .CIRQ_LSTAT_LS d i = s.get .CIRQ_LSTAT_LS d i := fun d i =>
    (get_off hoff (by decide)).trans (get_set2_slotField (f := .CIRQ_LSTAT_HOLD_CNT) (g := .CIRQ_LSTAT_LS) slotRegs_lstat rfl (by decide) _ _ _ _ _ _)
  rw [State.ls, hcluster, hplace, hget]
  rfl

end

/-! ### SWAP_EXECUTE and SWAP_HOLD_TIMEOUT -/

/-- The swap has ended, and its loops are in SOFT. -/
def swapDone (w : SwapX) (x : ServoX) : ServoX := { x with swap := none, softMask := Nat.lor x.softMask w.mask }

def swapDropped (x : ServoX) : ServoX := { x with swap := none }

/-- The loops of the mask have taken their banks. -/
def loopsSwapped (n : Nat) (w : SwapX) (s : State) : State := s.forEach (maskLoops w.mask) (loopSwapped n fun l => s.swapRec n l w.src)

def swapExecuted (n : Nat) (w : SwapX) (s : State) : State :=
  swapClosed n (s.clusterOf n) (s.slotOf n) (swapDone w) .CIRQ_LOOP_STAT_DONE w.mask (loopsSwapped n w s)

def loopsFreed (n mask : Nat) (s : State) : State := s.forEach (List.range 7) (loopFreed n mask)

def swapFreed (n : Nat) (w : SwapX) (s : State) : State :=
  swapClosed n (s.clusterOf n) (s.slotOf n) swapDropped .CIRQ_LOOP_STAT_ERR 6 (loopsFreed n w.mask s)

section
variable (n : Nat) (w : SwapX) (s : State)

theorem swapExecuted_swap : ((swapExecuted n w s).sx n).swap = none :=
  congrArg ServoX.swap (swapClosed_sx (g := swapDone w) (F := .CIRQ_LOOP_STAT_DONE) rfl (loopsSwapped n w s))

theorem swapExecuted_lx (l : Nat) : (swapExecuted n w s).lx n l = (loopsSwapped n w s).lx n l :=
  swapClosed_lx (g := swapDone w) (F := .CIRQ_LOOP_STAT_DONE) rfl (loopsSwapped n w s) (fun _ => rfl) l

theorem swapExecuted_ls (l : Nat) : (swapExecuted n w s).ls n l = (loopsSwapped n w s).ls n l :=
  swapClosed_ls (g := swapDone w) (F := .CIRQ_LOOP_STAT_DONE) rfl (loopsSwapped n w s) l

theorem swapFreed_swap : ((swapFreed n w s).sx n).swap = none :=
  congrArg ServoX.swap (swapClosed_sx (g := swapDropped) (F := .CIRQ_LOOP_STAT_ERR) rfl (loopsFreed n w.mask s))

theorem swapFreed_lx (l : Nat) : (swapFreed n w s).lx n l = s.lx n l :=
  (swapClosed_lx (g := swapDropped) (F := .CIRQ_LOOP_STAT_ERR) rfl (loopsFreed n w.mask s) (fun _ => rfl) l).trans (lx_of_servo (loopsFreed_servo s n w.mask) n l)

theorem swapFreed_ls (l : Nat) : (swapFreed n w s).ls n l = (loopsFreed n w.mask s).ls n l :=
  swapClosed_ls (g := swapDropped) (F := .CIRQ_LOOP_STAT_ERR) rfl (loopsFreed n w.mask s) l

theorem swapFreed_clusterOf : (swapFreed n w s).clusterOf n = s.clusterOf n :=
  (swapClosed_place (g := swapDropped) (F := .CIRQ_LOOP_STAT_ERR) rfl (loopsFreed n w.mask s)).1.trans
    (forEach_keeps (P := fun t => t.clusterOf n = s.clusterOf n) _ _ _ (fun l _ t ht => (loopFreed_clusterOf t n w.mask l).trans ht) rfl)

end

section
variable {s : State} {mn : Mn} {w : SwapX} (hswap : (s.sx mn).swap = some w) (hentered : w.entered = true) (hc : s.clusterOf mn < 17)
include hswap hentered hc

theorem swapExecute_swaps (habort : w.abort = false) (hdue : w.periods < s.get .CIRQ_GCFG_HOLD_MAX) : Completes (.swapExecute mn) s fun t =>
    (t.sx mn).swap = none ∧ t.on .CIRQ_EVENT_SWAP_DONE (s.clusterOf mn) = true ∧ ∀ l < 7,
      (bitAt w.mask l = 1 → t.ls mn l = 3 ∧ t.lx mn l = newBank (s.lx mn l) (s.swapRec mn l w.src) (s.lx mn l).q) ∧
      (bitAt w.mask l = 0 → t.ls mn l = s.ls mn l ∧ t.lx mn l = s.lx mn l) := by
  have he : exec (.swapExecute mn) s = fin ((swapExecuted mn w s).raise .CIRQ_EVENT_SWAP_DONE (s.clusterOf mn)) := by
    show execSwapExecute mn s = _
    rw [execSwapExecute, hswap]
    dsimp only
    rw [if_neg (by simp [hentered, habort]; omega)]
    rfl
  have hoff : ∀ {q : Item}, q.off (spots [foot_noteEvents] [.f .CIRQ_EVENT_SWAP_DONE]) = true →
      itm q ((swapExecuted mn w s).raise .CIRQ_EVENT_SWAP_DONE (s.clusterOf mn)).noteEvents = itm q (swapExecuted mn w s) := by
    intro q hq
    simp only [off_spots, List.all_cons, List.all_nil, Bool.and_true, Bool.and_eq_true] at hq
    rw [it_noteEvents _ hq.1, it_raise _ _ _ hq.2]
  refine completes_fin he ⟨?_, ?_, fun l hl => ?_⟩
  · rw [sx_off hoff (by decide), swapExecuted_swap]
  · rw [on_off (it_noteEvents _) (by decide)]
    exact on_eq_true_of_get (get_raise_self (by decide) _ _ (clusterReg_has rfl hc) (by decide))
  · rw [ls_off hoff (by decide) (by decide), lx_of_servo (servo_off hoff (by decide)), swapExecuted_ls, swapExecuted_lx]
    exact ⟨fun hbit => loopsSwapped_in hc _ hl hbit, fun hbit => loopsSwapped_out hc _ hl hbit⟩

theorem swapHoldTimeout_abandons (hlate : s.get .CIRQ_GCFG_HOLD_MAX ≤ w.periods) : Completes (.swapHoldTimeout mn) s fun t =>
    (t.sx mn).swap = none ∧ t.on .CIRQ_EVENT_SWAP_ABANDON (s.clusterOf mn) = true ∧ ∀ l < 7,
      t.lx mn l = s.lx mn l ∧ t.ls mn l = (if bitAt w.mask l = 1 ∧ s.ls mn l = 2 then 1 else s.ls mn l) := by
  have he : exec (.swapHoldTimeout mn) s = fin ((swapFreed mn w s).swapAbandoned mn w.mask 1) := by
    show execSwapHoldTimeout mn s = _
    rw [execSwapHoldTimeout, hswap]
    dsimp only
    rw [if_pos (by simp [hentered, hlate]), State.abandonSwap, hswap]
    rfl
  have hoff : ∀ {q : Item}, q.off (spots [foot_noteEvents, foot_swapAbandoned] []) = true →
      itm q ((swapFreed mn w s).swapAbandoned mn w.mask 1).noteEvents = itm q (swapFreed mn w s) := by
    intro q hq
    simp only [off_spots, off_nil, List.all_cons, List.all_nil, Bool.and_true, Bool.and_eq_true] at hq
    rw [it_noteEvents _ hq.1, it_swapAbandoned _ _ _ _ hq.2]
  refine completes_fin he ⟨?_, ?_, fun l hl => ⟨?_, ?_⟩⟩
  · rw [sx_off hoff (by decide), swapFreed_swap]
  · rw [on_off (it_noteEvents _) (by decide), State.swapAbandoned, on_off (it_logEntry _ _) (by decide), swapFreed_clusterOf]
    exact on_eq_true_of_get (get_raise_self (by decide) _ _ (clusterReg_has rfl hc) (by decide))
  · rw [lx_of_servo (servo_off hoff (by decide)), swapFreed_lx]
  · rw [ls_off hoff (by decide) (by decide), swapFreed_ls]
    exact loopsFreed_ls hc w.mask hl

end

end Sys2Proof.Proofs
end

section
/-! OBLIGATION O42. Coefficient banks and swaps. -/

namespace Sys2Proof.Proofs

open Sys2Proof.Machine Sys2Proof.Laws

section
variable {mn : Mn} {l : LoopIx} {s : State} (hopen : s.closed = false) (hidle : s.on .CIRQ_COEF_CMD_BUSY = false)
include hopen hidle

theorem coefStageToShadow_answers (hho : s.inHandover mn = false) : Completes (.coefStageToShadow mn l) s fun t =>
    (s.holdsSlot mn = false → t.get .CIRQ_COEF_CMD_ERR = 2) ∧
    (s.holdsSlot mn = true → coefErr l s.stage ≠ 0 → t.get .CIRQ_COEF_CMD_ERR = coefErr l s.stage ∧ t.servo = s.servo) ∧
    (s.holdsSlot mn = true → coefErr l s.stage = 0 → s.ls mn l = 2 → t.get .CIRQ_COEF_CMD_ERR = 4 ∧ t.servo = s.servo) ∧
    (s.holdsSlot mn = true → coefErr l s.stage = 0 → s.ls mn l ≠ 2 → t.get .CIRQ_COEF_CMD_ERR = 0 ∧
      (¬ (l.val = 7 ∧ Stopped s mn) → (t.lx mn l).shadow = s.stage ∧ (t.lx mn l).active = (s.lx mn l).active) ∧
      (l.val = 7 ∧ Stopped s mn → (t.lx mn l).active = s.stage ∧ (t.lx mn l).shadow = (s.lx mn l).active)) :=
  completes_of_next (next_execCoefStageToShadow mn l s) fun _ ht => ⟨fun h => completes_at (coefCmd_noSlot hopen hidle hho (op := 1) rfl h) ht,
    fun h hbad => completes_at (coefStageToShadow_refused hopen hidle hho h hbad) ht,
    fun h hgood hhold => completes_at (coefStageToShadow_inHold hopen hidle hho h hgood hhold) ht,
    fun h hgood hhold => completes_at (coefStageToShadow_takes hopen hidle hho h hgood hhold) ht⟩

theorem coefShadowToStage_answers (hho : s.inHandover mn = false) : Completes (.coefShadowToStage mn l) s fun t =>
    (s.holdsSlot mn = false → t.get .CIRQ_COEF_CMD_ERR = 2) ∧
    (s.holdsSlot mn = true → (s.lx mn l).shadow = [] → t.get .CIRQ_COEF_CMD_ERR = 7) ∧
    (s.holdsSlot mn = true → (s.lx mn l).shadow ≠ [] → t.get .CIRQ_COEF_CMD_ERR = 0 ∧
      ∀ i < 128, t.get .CIRQ_STAGE_DWORD i = dw (s.lx mn l).shadow i % 2 ^ 32) :=
  completes_of_next (next_execCoefShadowToStage mn l s) fun _ ht => ⟨fun h => completes_at (coefCmd_noSlot hopen hidle hho (op := 2) rfl h) ht,
    fun h hnone => completes_at (coefShadowToStage_empty hopen hidle hho h hnone) ht,
    fun h hsome => completes_at (coefShadowToStage_shows hopen hidle hho h hsome) ht⟩

theorem coefCommands_wait (hho : s.inHandover mn = true) :
    (∀ c ∈ [Instr.coefStageToShadow mn l, .coefShadowToStage mn l, .coefActiveToStage mn l], Completes c s fun t => t.on .CIRQ_COEF_CMD_BUSY = true ∧
      t.servo = s.servo ∧ ∃ w, t.cirq.coefWait = some w ∧ w.mn = mn.val ∧ w.loop = l.val) ∧
    Completes (.coefStageToShadow mn l) s fun t => ∃ w, t.cirq.coefWait = some w ∧ w.op = 1 ∧ w.words = s.stage := by
  have hwait : ∀ {c : Instr} {op : Nat} {r : List Nat}, exec c s = s.coefCmd mn op l r → Completes c s fun t => t.on .CIRQ_COEF_CMD_BUSY = true ∧
      t.servo = s.servo ∧ ∃ w, t.cirq.coefWait = some w ∧ w.mn = mn.val ∧ w.loop = l.val := fun he => by
    obtain ⟨t, ht, hbusy, hservo, hw⟩ := coefCommand_waits hopen hidle hho he
    exact ⟨t, ht, hbusy, hservo, _, hw, rfl, rfl⟩
  constructor
  · intro c hc
    simp only [List.mem_cons, List.not_mem_nil, or_false] at hc
    rcases hc with rfl | rfl | rfl
    · exact hwait (op := 1) (r := s.stage) rfl
    · exact hwait (op := 2) (r := []) rfl
    · exact hwait (op := 3) (r := []) rfl
  · obtain ⟨t, ht, -, -, hw⟩ := coefCommand_waits (i := .coefStageToShadow mn l) (op := 1) (r := s.stage) hopen hidle hho rfl
    exact ⟨t, ht, _, hw, rfl, rfl⟩

end

theorem swapAbort_answers {mn : Mn} {s : State} (hopen : s.closed = false) : Completes (.swapAbort mn) s fun t =>
    (s.holdsSlot mn = false → t.get .CIRQ_LOOP_STAT_ERR = 2) ∧
    (s.holdsSlot mn = true → (s.sx mn).swap = none → t.get .CIRQ_LOOP_STAT_ERR = 4) ∧
    (∀ w, s.holdsSlot mn = true → (s.sx mn).swap = some w →
      (w.entered = false → t.get .CIRQ_LOOP_STAT_ERR = 4 ∧ (t.sx mn).swap = some w) ∧
      (w.entered = true → t.get .CIRQ_LOOP_STAT_ERR = 0 ∧ (t.sx mn).swap = some { w with abort := true })) :=
  completes_of_next (next_execSwapAbort mn s) fun _ ht => ⟨fun h => completes_at (swapAbort_noSlot hopen h) ht,
    fun h hnone => completes_at (swapAbort_noSwap hopen h hnone) ht, fun _ h hswap =>
      ⟨fun hearly => completes_at (swapAbort_early hopen h hswap hearly) ht, fun hentered => completes_at (swapAbort_marks hopen h hswap hentered) ht⟩⟩

/-- Settles O42: each command of CIRQ_COEF_CMD and CIRQ_LOOP_CMD is stated through what it moves and the ERR that it shows, and a swap loop by loop. The order
of the refusals, and ERR 6 for a record of another FMT, are the model's (notes/assumptions/95.md). -/
theorem coefficientBanks : Obligations.CoefficientBanks := by
  unfold Obligations.CoefficientBanks
  refine ⟨fun mn l s hopen hidle hho => ⟨coefStageToShadow_answers hopen hidle hho, coefShadowToStage_answers hopen hidle hho,
      fun h => coefActiveToStage_shows hopen hidle hho h⟩, fun mn l s hopen hidle hho => coefCommands_wait hopen hidle hho,
    fun cls l fmt s hopen hidle => ⟨coefStageToLibrary_answers hopen hidle, coefLibraryToStage_shows hopen hidle⟩,
    fun mn mask s hopen => ⟨swapCommand_answers (exec_swapFromShadow hopen), swapCommand_answers (exec_swapFromLibrary hopen), swapAbort_answers hopen⟩,
    fun mn s w hswap hentered hc => ⟨fun habort hdue => ?_, fun hlate => swapHoldTimeout_abandons hswap hentered hc hlate⟩⟩
  obtain ⟨t, ht, hnone, hdone, hloops⟩ := swapExecute_swaps hswap hentered hc habort hdue
  refine ⟨t, ht, hnone, hdone, fun l hl => ⟨fun hbit => ?_, (hloops l hl).2⟩⟩
  obtain ⟨hls, hlx⟩ := (hloops l hl).1 hbit
  rw [hlx]
  exact ⟨hls, rfl, rfl, rfl, rfl⟩

end Sys2Proof.Proofs
end

section
/-! OBLIGATION O43. A servo sample that is not taken is not quite without effect: the command ends as every command does, with the events of the steward
accounted for (R473). -/

namespace Sys2Proof.Proofs

open Sys2Proof.Machine Sys2Proof.Laws

/-- No drop has a servo position, and a summary bit that was accounted for has gone since. -/
def accountedGone : State := { State.reset with evt := { seen := 1 } }

theorem slotSample_accountedGone : nextHas (exec (.slotSample 0 {}) accountedGone) (fun t => t.evt.seen == 0) = true := by
  decide +kernel

/-- Refutes O43: "a sample that is not taken leaves the state as it is" does not hold of a state whose accounted summary bits are not those now enabled, for
the end of every command records the latter (R473). -/
theorem not_servoSamples : ¬ Obligations.ServoSamples := by
  unfold Obligations.ServoSamples
  rintro ⟨samples, -⟩
  obtain ⟨t, hstep, -, idle, -⟩ := samples 0 {} accountedGone
  have hsame : t = accountedGone := idle (by decide +kernel)
  have hseen : (t.evt.seen == 0) = true := nextHas_next slotSample_accountedGone hstep
  rw [hsame] at hseen
  exact absurd hseen (by decide)

end Sys2Proof.Proofs
end

section
/-! SUPPORT. The servo record of a mechanism, and its loop states, under the operations that its sequences are made of (R104, R128, R147): what they leave of the
sequence, of the sled and of the profile, and which loops they leave OFF. -/

namespace Sys2Proof.Proofs

open Sys2Proof.Machine Sys2Proof.Laws

/-! ### What the servo record keeps -/

/-- A servo record but for its loops and the swap of their banks. -/
def loopless (v : ServoX) : ServoX := { v with loops := [], swap := none, softMask := 0 }

theorem seq_of_loopless {v w : ServoX} (h : loopless v = loopless w) : v.seq = w.seq :=
  (congrArg ServoX.seq h : (loopless v).seq = (loopless w).seq)

theorem prof_of_loopless {v w : ServoX} (h : loopless v = loopless w) : v.prof = w.prof :=
  (congrArg ServoX.prof h : (loopless v).prof = (loopless w).prof)

/-- A swap that is abandoned frees the loops that it holds, and is recorded. -/
theorem abandonSwap_eq {s : State} {n : Nat} {w : SwapX} (h : (s.sx n).swap = some w) (cause : Nat) :
    s.abandonSwap n cause = (swapFreed n w s).swapAbandoned n w.mask cause := by
  rw [State.abandonSwap, h]
  rfl

section
variable (s : State) (n : Nat)

theorem loopless_modServo {f : ServoX → ServoX} (h : ∀ v, loopless (f v) = loopless v := by intro _; rfl) : loopless ((s.modServo n f).sx n) = loopless (s.sx n) := by
  rw [sx_modServo_same, h]

theorem loopless_modLoop (l : Nat) (f : LoopX → LoopX) : loopless ((s.modLoop n l f).sx n) = loopless (s.sx n) := loopless_modServo s n

theorem loopless_setLs (l v : Nat) : loopless ((s.setLs n l v).sx n) = loopless (s.sx n) := by
  rw [sx_off (it_setLs s n l v) (by decide)]

theorem loopless_abandonSoft : loopless ((s.abandonSoft n).sx n) = loopless (s.sx n) := by
  unfold State.abandonSoft
  extract_lets ls mask s1
  split
  · rfl
  · have h1 : loopless (s1.sx n) = loopless (s.sx n) := by
      refine (loopless_modServo _ n).trans (forEach_keeps (P := fun t => loopless (t.sx n) = loopless (s.sx n)) _ _ _ (fun l _ t ht => ?_) rfl)
      rw [loopless_setLs, loopless_modLoop, ht]
    rw [sx_off (it_swapAbandoned _ _ _ _) (by decide), sx_off (it_setIf _ _ _ _ _) (by decide), h1]

theorem loopless_abandonSwap (cause : Nat) : loopless ((s.abandonSwap n cause).sx n) = loopless (s.sx n) := by
  cases h : (s.sx n).swap with
  | none => rw [State.abandonSwap, h]
  | some w =>
    have hfreed : (swapFreed n w s).sx n = swapDropped ((loopsFreed n w.mask s).sx n) := swapClosed_sx (g := swapDropped) (F := .CIRQ_LOOP_STAT_ERR) rfl _
    rw [abandonSwap_eq h, sx_off (it_swapAbandoned _ _ _ _) (by decide), hfreed, State.sx, loopsFreed, loopsFreed_servo]
    rfl

theorem loopless_openLoop (l : Nat) : loopless ((s.openLoop n l).sx n) = loopless (s.sx n) := (loopless_setLs _ n l 0).trans (loopless_modLoop s n l _)

theorem loopless_openLoops (ls : List Nat) : loopless ((s.openLoops n ls).sx n) = loopless (s.sx n) := by
  unfold State.openLoops
  extract_lets s1 s2
  have h2 : loopless (s2.sx n) = loopless (s.sx n) :=
    forEach_keeps (P := fun t => loopless (t.sx n) = loopless (s.sx n)) _ _ _ (fun l _ t ht => (loopless_openLoop t n l).trans ht)
      ((loopless_abandonSoft _ n).trans (loopless_abandonSwap s n 3))
  split
  · rw [sx_off (it_endInjOf _ _ _) (by decide), h2]
  · exact h2

theorem loopless_driveLoop (l : Nat) (v : Int) : loopless ((s.driveLoop n l v).sx n) = loopless (s.sx n) := loopless_modLoop s n l _

/-- What leaves the sequence of every record leaves that of mechanism n. -/
theorem seq_modServo {f : ServoX → ServoX} (h : ∀ v, (f v).seq = v.seq := by intro _; rfl) : ((s.modServo n f).sx n).seq = (s.sx n).seq := by
  rw [sx_modServo_same, h]

theorem seq_openLoops (ls : List Nat) : ((s.openLoops n ls).sx n).seq = (s.sx n).seq := seq_of_loopless (loopless_openLoops s n ls)

theorem prof_openLoops (ls : List Nat) : ((s.openLoops n ls).sx n).prof = (s.sx n).prof := prof_of_loopless (loopless_openLoops s n ls)

theorem seq_modSeq (f : SeqX → SeqX) : ((s.modSeq n f).sx n).seq = f (s.sx n).seq := by
  rw [State.modSeq, sx_modServo_same]

end

/-! ### Loops that are OFF -/

theorem ls_modServo (s : State) (n : Nat) (f : ServoX → ServoX) (m k : Nat) : (s.modServo n f).ls m k = s.ls m k := rfl

/-- Loop k of mechanism n, which serves in a cluster, is OFF. -/
def LoopOff (n k : Nat) (t : State) : Prop := t.clusterOf n < 17 ∧ t.ls n k = 0

section
variable {s : State} {n k : Nat}

theorem loopOff_off {t : State} {l : List Spot} (it : ∀ {q : Item}, q.off l = true → itm q t = itm q s)
    (hl : ((Item.reg .CIRQ_LSTAT 0 0).off l && (Item.reg .MECH_SERVO 0 0).off l) = true) (h : LoopOff n k s) : LoopOff n k t := by
  obtain ⟨hst, hservo⟩ := Bool.and_eq_true_iff.mp hl
  exact ⟨(clusterOf_off it hservo n).1 ▸ h.1, (ls_off it hst hservo n k).trans h.2⟩

/-- Another loop's state, or OFF. -/
theorem loopOff_setLs {l v : Nat} (hk : k < 8) (hv : v < 4) (h : LoopOff n k s) (hne : k ≠ l ∨ v = 0) : LoopOff n k (s.setLs n l v) := by
  refine ⟨(clusterOf_setLs s n l v n).1 ▸ h.1, (ls_setLs s h.1 hk hv).trans ?_⟩
  split
  next he => exact hne.resolve_left (fun hn => hn he)
  next => exact h.2

/-- The loops that return from a swap to CLOSED were in HOLD. -/
theorem loopOff_abandonSwap (cause : Nat) (hk : k < 7) (h : LoopOff n k s) : LoopOff n k (s.abandonSwap n cause) := by
  cases hswap : (s.sx n).swap with
  | none =>
    rw [State.abandonSwap, hswap]
    exact h
  | some w =>
    have hfreed : (swapFreed n w s).ls n k = 0 := by
      rw [swapFreed_ls, loopsFreed, loopsFreed_ls h.1 _ hk, h.2, if_neg (by omega)]
    rw [abandonSwap_eq hswap]
    exact loopOff_off (it_swapAbandoned _ _ _ _) (by decide) ⟨(swapFreed_clusterOf n w s).symm ▸ h.1, hfreed⟩

/-- The loops that take their old banks back were in SOFT. -/
theorem loopOff_abandonSoft (hk : k < 8) (h : LoopOff n k s) : LoopOff n k (s.abandonSoft n) := by
  unfold State.abandonSoft
  extract_lets ls mask s1
  split
  · exact h
  · have h1 : LoopOff n k s1 := by
      refine loopOff_off (it_modServo _ _ _) (by decide) (forEach_keeps (P := LoopOff n k) _ _ _ (fun l hl t ht => ?_) h)
      refine loopOff_setLs hk (by decide) (loopOff_off (it_modLoop _ _ _ _) (by decide) ht) (.inl ?_)
      rintro rfl
      have hsoft : s.ls n k = 3 := by simpa using (List.mem_filter.mp hl).2 |> (Bool.and_eq_true_iff.mp ·) |>.2
      exact absurd (h.2.symm.trans hsoft) (by decide)
    exact loopOff_off (it_swapAbandoned _ _ _ _) (by decide) (loopOff_off (it_setIf _ _ _ _ _) (by decide) h1)

theorem loopOff_openLoops (ls : List Nat) (hk : k < 7) (h : LoopOff n k s) : LoopOff n k (s.openLoops n ls) := by
  unfold State.openLoops
  extract_lets s1 s2
  have h2 : LoopOff n k s2 := by
    refine forEach_keeps (P := LoopOff n k) _ _ _ (fun l _ t ht => ?_) (loopOff_abandonSoft (by omega) (loopOff_abandonSwap 3 hk h))
    exact loopOff_setLs (by omega) (by decide) (loopOff_off (it_modLoop _ _ _ _) (by decide) ht) (.inr rfl)
  split
  · exact loopOff_off (it_endInjOf _ _ _) (by decide) h2
  · exact h2

theorem loopOff_opened {ls : List Nat} (hc : s.clusterOf n < 17) (hk : k < 8) (h : k ∈ ls) : LoopOff n k (s.openLoops n ls) :=
  ⟨(clusterOf_openLoops s n ls).symm ▸ hc, ls_openLoops s hc hk h⟩

theorem loopOff_modServo {f : ServoX → ServoX} (m : Nat) (h : LoopOff n k s) : LoopOff n k (s.modServo m f) := h

end

end Sys2Proof.Proofs
end

section
/-! SUPPORT. Pull-ins, layer steps, layer jumps and track jumps (R129 to R140): the sequence that each starts or fails, and the loops that it opens. -/

namespace Sys2Proof.Proofs

open Sys2Proof.Machine Sys2Proof.Laws

/-! ### Attempts (R129 to R132) -/

section
variable (s : State) (n : Nat)

theorem failAttempt_seq : ((s.failAttempt n).sx n).seq =
    { (s.sx n).seq with step := 2, returning := true, attempts := (s.sx n).seq.attempts + 1, jumpSign := 0 } := by
  unfold State.failAttempt
  extract_lets v
  rw [seq_modSeq, State.rampFocus, seq_modServo, seq_openLoops]

/-- An attempt that starts keeps its target, the attempts that failed and whether it follows a layer jump. -/
theorem startAttempt_seq : ((s.startAttempt n).sx n).seq =
    { (s.sx n).seq with step := 1, sub := 0, attemptAt := s.now, returning := false, curves := 0, inCurve := false, lobe := 0, passed := false, verify := 0,
                        sinceClose := 0, jumpSign := 0 } := by
  unfold State.startAttempt
  extract_lets v s1 s2 s3
  have h1 : (s1.sx n).seq = (s.sx n).seq := seq_openLoops s n _
  have h2 : (s2.sx n).seq = (s.sx n).seq := by
    rw [seq_modServo, seq_of_loopless (loopless_driveLoop _ n 1 0), seq_of_loopless (loopless_driveLoop _ n 4 _), h1]
  have h3 : (s3.sx n).seq = (s.sx n).seq := by
    simp only [s3]
    rw [State.rampFocus, seq_modServo, State.modProf, seq_modServo, h2]
  rw [seq_modSeq, State.takeOffsets, seq_modServo, h3]

variable {s n} (hc : s.clusterOf n < 17)
include hc

theorem failAttempt_opens {k : Nat} (hk : k < 6) : (s.failAttempt n).ls n k = 0 := by
  unfold State.failAttempt
  extract_lets v
  rw [State.modSeq, ls_modServo, State.rampFocus, ls_modServo]
  exact ls_openLoops s hc (by omega) (by simp; omega)

theorem startAttempt_opens {k : Nat} (hk : k < 6) : (s.startAttempt n).ls n k = 0 := by
  unfold State.startAttempt
  extract_lets v s1 s2 s3
  have h1 : s1.ls n k = 0 := ls_openLoops s hc (by omega) (by simp; omega)
  have h2 : s2.ls n k = 0 := by rw [ls_modServo, State.driveLoop, State.modLoop, ls_modServo, State.driveLoop, State.modLoop, ls_modServo, h1]
  have h3 : s3.ls n k = 0 := by
    simp only [s3]
    rw [State.rampFocus, ls_modServo, State.modProf, ls_modServo, h2]
  rw [State.modSeq, ls_modServo, State.takeOffsets, ls_modServo, h3]

end

/-- The sequence of a pull-in that starts, the laser not held off. -/
theorem startPullIn_starts {s : State} {n : Nat} (target : Nat) (jump : Bool) (hsafe : s.on .MECH_STATE_SAFE_HOLD n = false) (hc : s.clusterOf n < 17) :
    ((s.startPullIn n target jump).sx n).seq = { target := target, afterJump := jump, step := 1, attemptAt := s.now } ∧
    (s.startPullIn n target jump).ls n 0 = 0 := by
  unfold State.startPullIn
  rw [if_neg (by simp [hsafe])]
  extract_lets s1
  have hseq : (s1.sx n).seq = { target := target, afterJump := jump } := by rw [sx_modServo_same]
  exact ⟨(startAttempt_seq s1 n).trans (by rw [hseq]; rfl), startAttempt_opens (s := s1) hc (by decide)⟩

/-! ### The limits of acquisition -/

section
variable {s : State} {mn : Mn} (hslot : s.holdsSlot mn = true)
include hslot

theorem pullInAttemptTimeout_returns (hc : s.clusterOf mn < 17) (hfirst : 1 ≤ (s.sx mn).seq.step) (hlast : (s.sx mn).seq.step ≤ 3)
    (hret : (s.sx mn).seq.returning = false) (hjump : (s.sx mn).seq.jumpSign = 0)
    (hdue : (s.sx mn).seq.attemptAt + ms (focAttemptMs (s.sx mn).sq) ≤ s.now + ms (sweepMs (s.sx mn).sq) / 4) :
    Completes (.pullInAttemptTimeout mn) s fun t => (t.sx mn).seq.step = 2 ∧ (t.sx mn).seq.returning = true ∧
      (t.sx mn).seq.attempts = (s.sx mn).seq.attempts + 1 ∧ ∀ l < 6, t.ls mn l = 0 := by
  have he : exec (.pullInAttemptTimeout mn) s = fin (s.failAttempt mn) := by
    show execPullInAttemptTimeout mn s = _
    exact if_pos (by simp [hslot, hfirst, hlast, hret, hjump, hdue])
  refine completes_fin he ?_
  rw [sx_off (it_noteEvents _) (by decide), failAttempt_seq]
  exact ⟨rfl, rfl, rfl, fun l hl => (ls_off (it_noteEvents _) (by decide) (by decide) mn l).trans (failAttempt_opens hc hl)⟩

theorem layerStepTimeout_pullsIn (hc : s.clusterOf mn < 17) (hfirst : 3 ≤ (s.sx mn).seq.step) (hlast : (s.sx mn).seq.step ≤ 5)
    (hjump : (s.sx mn).seq.jumpSign ≠ 0) (hsafe : s.on .MECH_STATE_SAFE_HOLD mn = false) (hdue : (s.sx mn).seq.attemptAt + ms (ljMs (s.sx mn).sq) ≤ s.now) :
    Completes (.layerStepTimeout mn) s fun t => (t.sx mn).seq.step = 1 ∧ (t.sx mn).seq.target = (s.sx mn).seq.target ∧
      (t.sx mn).seq.afterJump = true ∧ (t.sx mn).seq.jumpSign = 0 ∧ t.ls mn 0 = 0 := by
  have he : exec (.layerStepTimeout mn) s = fin ((s.openLoops mn [0]).startPullIn mn (s.sx mn).seq.target true) := by
    show execLayerStepTimeout mn s = _
    exact if_pos (by simp [hslot, hfirst, hlast, hjump, hdue])
  obtain ⟨hseq, hls⟩ := startPullIn_starts (s.sx mn).seq.target true
    ((on_off (it_openLoops s mn [0]) (by decide)).trans hsafe) ((clusterOf_openLoops s mn [0]).symm ▸ hc)
  refine completes_fin he ?_
  rw [sx_off (it_noteEvents _) (by decide), hseq]
  exact ⟨rfl, rfl, rfl, rfl, (ls_off (it_noteEvents _) (by decide) (by decide) mn 0).trans hls⟩

theorem trackOnTimeout_faults (hstep : (s.sx mn).seq.step = 6) (hst : s.mst mn ∉ [0, 8, 9])
    (hdue : (s.sx mn).seq.attemptAt + ms (trkOnMs (s.sx mn).sq) ≤ s.now) : Completes (.trackOnTimeout mn) s (FaultTaken mn 0x61) := by
  have he : exec (.trackOnTimeout mn) s = fin (s.fault mn 0x61 0) := by
    show execTrackOnTimeout mn s = _
    exact if_pos (by simp [hslot, hstep, hdue])
  exact completes_fin he (faultTaken_noteEvents (faultTaken_fault 0 mn.isLt (by decide) (by decide) hst))

end

section
variable {s : State} {n : Nat}

/-- The attempt that was the last fails with its fault (R131, R136). -/
theorem attemptReturned_faults (hn : n < 4096) (hlast : focAttempts (s.sx n).sq ≤ (s.sx n).seq.attempts) (hst : s.mst n ∉ [0, 8, 9]) :
    FaultTaken n (if (s.sx n).seq.afterJump then 0x62 else 0x60) (s.attemptReturned n) := by
  unfold State.attemptReturned
  rw [if_pos hlast]
  split
  · exact faultTaken_fault 0 hn (by decide) (by decide) hst
  · exact faultTaken_fault 0 hn (by decide) (by decide) hst

theorem attemptReturned_retries (hmore : (s.sx n).seq.attempts < focAttempts (s.sx n).sq) : ((s.attemptReturned n).sx n).seq.step = 1 ∧
    ((s.attemptReturned n).sx n).seq.attemptAt = s.now ∧ ((s.attemptReturned n).sx n).seq.attempts = (s.sx n).seq.attempts := by
  unfold State.attemptReturned
  rw [if_neg (by omega), startAttempt_seq]
  exact ⟨rfl, rfl, rfl⟩

end

/-! ### Jumps (R133, R140) -/

/-- A layer jump is a transition to FOCUSED, with a sequence of its own (R133). -/
theorem startLayerJump_begins (s : State) {n : Nat} (layer : Nat) (hn : n < 4096) : (s.startLayerJump n layer).mst n = 4 ∧
    (s.startLayerJump n layer).on .MECH_STATE_BUSY n = true ∧ (s.startLayerJump n layer).get .MECH_STATE_TARGET n = 5 ∧
    ((s.startLayerJump n layer).sx n).seq = { step := 12, target := layer } := by
  unfold State.startLayerJump
  extract_lets s' s0 s1 r s2 s3
  refine ⟨?_, busy_beginMove _ _ hn, target_beginMove _ hn (by decide), ?_⟩
  · rw [State.mst, State.beginMove, get_set_field (f := .MECH_STATE_TARGET) (g := .MECH_STATE_STATE) rfl rfl (by decide),
      get_set_field (f := .MECH_STATE_BUSY) (g := .MECH_STATE_STATE) rfl rfl (by decide), get_off (it_chg _ _) (by decide), enterState_get rfl (by decide),
      get_set_self (by decide) _ _ _ (mechState_has hn)]
    rfl
  · rw [sx_off (it_beginMove _ _ _) (by decide), sx_off (it_chg _ _) (by decide), sx_off (it_enterState _ _ _) (by decide), seq_modSeq]

theorem layerJump_begins {mn : Mn} {layer : Fin 10} {s : State} (hst : s.mst mn = 5 ∨ s.mst mn = 6 ∨ s.mst mn = 7) (hbusy : s.on .MECH_STATE_BUSY mn = false)
    (hfocus : s.ls mn 0 ≠ 0) (hsafe : s.on .MECH_STATE_SAFE_HOLD mn = false) (hother : layer.val ≠ (s.sx mn).layer) (hlt : layer.val < s.layersOf mn) :
    Completes (.layerJump mn layer) s fun t =>
      t.mst mn = 4 ∧ t.on .MECH_STATE_BUSY mn = true ∧ t.get .MECH_STATE_TARGET mn = 5 ∧ (t.sx mn).seq = { step := 12, target := layer } := by
  have hst' : (s.mst mn == 5 || s.mst mn == 6 || s.mst mn == 7) = true := by simpa [or_assoc] using hst
  have he : exec (.layerJump mn layer) s = fin (s.startLayerJump mn layer) := by
    show execLayerJump mn layer s = _
    exact if_pos (by simp [hst', hbusy, hfocus, hsafe, hother, hlt])
  refine completes_fin he ?_
  rw [mst_off (it_noteEvents _) (by decide), on_off (it_noteEvents _) (by decide), get_off (it_noteEvents _) (by decide), sx_off (it_noteEvents _) (by decide)]
  exact startLayerJump_begins s layer mn.isLt

theorem trackJump_starts {mn : Mn} {m : Int} {s : State} (hon : s.onTrack mn = true) (hok : (s.takeSeq mn).jumpOk mn m = true) (hc : s.clusterOf mn < 17) :
    Completes (.trackJump mn m) s fun t =>
      (t.sx mn).seq.step = 7 ∧ (t.sx mn).seq.jumpTracks = m ∧ (t.sx mn).seq.jumpCount = 0 ∧ t.ls mn 1 = 0 := by
  have he : exec (.trackJump mn m) s = fin ((s.takeSeq mn).startTrackJump mn m) := by
    show execTrackJump mn m s = _
    exact if_pos (by simp [hon, hok])
  have hc' : (((s.takeSeq mn).writeInhibit mn).headLeaves mn).clusterOf mn < 17 := by
    rw [(clusterOf_off (it_headLeaves _ _) (by decide) mn).1, (clusterOf_off (it_writeInhibit _ _) (by decide) mn).1]
    exact hc
  refine completes_fin he ?_
  rw [sx_off (it_noteEvents _) (by decide), ls_off (it_noteEvents _) (by decide) (by decide), State.startTrackJump, seq_modSeq]
  refine ⟨rfl, rfl, rfl, ?_⟩
  rw [State.modSeq, ls_modServo, State.modProf, ls_modServo, ls_off (it_capHit _ _ _) (by decide) (by decide)]
  exact ls_openLoops _ hc' (by decide) (by decide)

end Sys2Proof.Proofs
end

section
/-! SUPPORT. Long seeks (R141, R182): the round that starts, the fault after the last, and the seek that its limit ends. -/

namespace Sys2Proof.Proofs

open Sys2Proof.Machine Sys2Proof.Laws

/-! ### A mechanism that neither holds SEEK nor waits for power -/

/-- No request but LINK requests waits for mechanism n. -/
def NoRequest (n : Nat) (t : State) : Prop := ∀ r ∈ t.breath.reqs, r.cls = 1 ∨ r.who ≠ n

/-- Mechanism n holds no SEEK grant, and no request of its own waits that could grant it one. -/
structure Unsought (n : Nat) (t : State) : Prop where
  reqs : NoRequest n t
  seek : (t.grants n).seek = none

section
variable {n : Nat} {s : State}

/-- Requests may go; the grants stay. -/
theorem Unsought.of {t : State} (h : Unsought n s) (hreqs : ∀ r ∈ t.breath.reqs, r ∈ s.breath.reqs) (hgrants : t.breath.grants = s.breath.grants) : Unsought n t :=
  ⟨fun r hr => h.reqs r (hreqs r hr), by rw [State.grants, hgrants]; exact h.seek⟩

theorem Unsought.off {t : State} {l : List Spot} (it : ∀ {q : Item}, q.off l = true → itm q t = itm q s) (hl : (Item.part .breath).off l = true)
    (h : Unsought n s) : Unsought n t := by
  have hb := breath_off it hl
  exact h.of (fun r hr => hb ▸ hr) (by rw [hb])

/-- Requests that keep class and owner. -/
theorem Unsought.map {g : PowerReq → PowerReq} (hg : ∀ r, (g r).cls = r.cls ∧ (g r).who = r.who) {f : BreathState → BreathState}
    (hreqs : (f s.breath).reqs = s.breath.reqs.map g) (hgrants : (f s.breath).grants = s.breath.grants) (h : Unsought n s) : Unsought n (s.modBreath f) := by
  refine ⟨fun r hr => ?_, (congrArg (fun l => (tabGet l n ({} : Grants)).seek) hgrants).trans h.seek⟩
  obtain ⟨q, hq, rfl⟩ := List.mem_map.mp (hreqs ▸ hr : r ∈ s.breath.reqs.map g)
  rw [(hg q).1, (hg q).2]
  exact h.reqs q hq

/-- A grant to another mechanism, or of a LINK. -/
theorem Unsought.makeGrant {r : PowerReq} (hr : r.cls = 1 ∨ r.who ≠ n) (h : Unsought n s) : Unsought n (s.makeGrant r) := by
  by_cases hc : r.cls = 1
  · rw [makeGrant_link s hc]
    exact Unsought.off (it_linkGranted _ _) (by decide) (h.of (fun _ hq => hq) rfl)
  · have hne := hr.resolve_left hc
    have hup : ∀ f : Grants → Grants, Unsought n (s.modBreath fun b => { b with grants := tabMod b.grants r.who {} f }) := fun f =>
      ⟨h.reqs, (congrArg Grants.seek (tabGet_tabMod_ne s.breath.grants hne {} {} f)).trans h.seek⟩
    unfold State.makeGrant
    extract_lets up s1
    have h1 : Unsought n s1 := hup _
    split
    · exact absurd ‹_› hc
    · exact hup _
    · exact hup _
    · exact hup _
    · exact Unsought.off (it_set _ _ _ _) (by decide) (h1.of (fun _ hq => hq) rfl)

theorem unsought_evalKept (n : Nat) : EvalKept (Unsought n) fun r => r.cls = 1 ∨ r.who ≠ n where
  set s f i v _ h := by
    have hb : (s.set f i v).breath = s.breath := set2_breath s f i 0 v
    exact h.of (fun r hr => hb ▸ hr) (by rw [hb])
  age _ g hg h := h.map hg rfl rfl
  grant s r hr h := by
    have h1 : Unsought n (s.modBreath fun b => { b with reqs := b.reqs.erase r }) := h.of (fun _ hq => List.mem_of_mem_erase hq) rfl
    exact h1.makeGrant hr
  reqs _ h := h.reqs

theorem Unsought.reevaluate (d : Nat) (h : Unsought n s) : Unsought n (s.reevaluate d) := (unsought_evalKept n).reevaluate d h

/-- SEEK is returned. -/
theorem unsought_returnGrant (h : NoRequest n s) : Unsought n (s.returnGrant n fun g => { g with seek := none }) := by
  refine Unsought.reevaluate _ ⟨h, ?_⟩
  exact congrArg Grants.seek (tabGet_tabMod_same s.breath.grants n {} fun g => { g with seek := none })

theorem Unsought.cutCmd (c : Ctx) (st : Nat) (h : Unsought n s) : Unsought n (s.cutCmd c st) := by
  have h1 : Unsought n (s.withdrawCmd c.fn c.d.tag) := h.of (fun _ hr => (List.mem_filter.mp hr).1) rfl
  exact .off (it_complete _ _ _ _ _ _) (by decide) (h1.off (it_dropWrite _ _ _) (by decide))

theorem Unsought.applyCfg (m : Nat) (h : Unsought n s) : Unsought n (s.applyCfg m) := by
  unfold State.applyCfg
  extract_lets v d s1
  split
  · exact h
  · have h0 : Unsought n (s.modMech m fun x => { x with cfgEff := v }) := h.off (it_modMech _ _ _) (by decide)
    have h1 : Unsought n s1 := h0.map (fun r => by split <;> exact ⟨rfl, rfl⟩) rfl rfl
    exact .off (it_noteSafeHold _ _) (by decide) (.off (it_watchSets _) (by decide) ((h1.reevaluate _).reevaluate _))

theorem Unsought.enterState (m st : Nat) (h : Unsought n s) : Unsought n (s.enterState m st) := by
  unfold State.enterState
  extract_lets sa s0 s1 s2
  have ha : Unsought n sa := by
    simp only [sa]
    split
    · exact h.off (it_modMech _ _ _) (by decide)
    · exact h
  have h1 : Unsought n s1 := .off (it_noteSafeHold _ _) (by decide) (.off (it_set _ _ _ _) (by decide) (ha.off (it_modMech _ _ _) (by decide)))
  have h2 : Unsought n s2 := by
    simp only [s2]
    split
    · exact h1.applyCfg m
    · exact h1
  split
  · exact h2
  · exact Unsought.reevaluate _ (h2.of (fun _ hr => hr) rfl)

theorem Unsought.endMove (m st : Nat) (h : Unsought n s) : Unsought n (s.endMove m st) := by
  unfold State.endMove
  extract_lets s1
  have h0 : Unsought n (if isRest st || st == 8 || st == 9 then s.modMech m fun x => { x with orphan := none, mountHeld := false } else s) := by
    split
    · exact h.off (it_modMech _ _ _) (by decide)
    · exact h
  have h1 : Unsought n s1 := h0.enterState m st
  exact .off (it_chg _ _) (by decide) (.off (it_modPort _ _ _) (by decide) (.off (it_set _ _ _ _) (by decide) (h1.off (it_set _ _ _ _) (by decide))))

theorem Unsought.request {r : PowerReq} (hr : r.cls = 1 ∨ r.who ≠ n) (h : Unsought n s) : Unsought n (s.request r).1 := by
  unfold State.request
  split
  · exact h
  · extract_lets s0 s1
    have h0 : Unsought n s0 := by
      simp only [s0]
      split
      · exact .off (it_set0 _ _ _) (by decide) (h.off (it_raise _ _ _) (by decide))
      · exact h
    refine Unsought.reevaluate _ ⟨fun q hq => ?_, h0.seek⟩
    rcases List.mem_append.mp hq with hq | hq
    · exact h0.reqs q hq
    · exact List.mem_singleton.mp hq ▸ hr

/-- A port that wakes asks for a LINK grant. -/
theorem Unsought.wakePort (p : Nat) (h : Unsought n s) : Unsought n (s.wakePort p) := by
  unfold State.wakePort State.requestLink
  split
  · extract_lets s1
    have h1 : Unsought n s1 := h.off (it_modPort _ _ _) (by decide)
    split
    · exact h1.off (it_linkGranted _ _) (by decide)
    · split
      · exact h1
      · exact h1.request (.inl rfl)
  · exact h

theorem Unsought.startBeams (f m : Nat) (h : Unsought n s) : Unsought n (s.startBeams f m) := by
  rw [startBeams_eq]
  refine forEach_keeps _ _ _ (fun b _ t ht => ?_) ?_
  · unfold startBeam
    extract_lets used t1 t2
    have h2 : Unsought n t2 := .off (it_modBeam _ _ _ _) (by decide) (.off (it_set2 _ _ _ _ _) (by decide) (ht.off (it_set2 _ _ _ _ _) (by decide)))
    split
    · exact h2.off (it_setDelta _ _ _ _) (by decide)
    · exact h2
  · exact .wakePort _ (.off (it_flushMgmt _ _ _) (by decide) (.off (it_modDrop _ _ _) (by decide) (h.off (it_modLane _ _ _) (by decide))))

theorem Unsought.bindLane (f m : Nat) (own : Bool) (h : Unsought n s) : Unsought n (s.bindLane f m own) := by
  unfold State.bindLane
  extract_lets bd s1 s2 s3
  have h1 : Unsought n s1 := by
    iterate 4 refine .off (it_set _ _ _ _) (by decide) ?_
    exact h
  have h2 : Unsought n s2 := .off (it_modLane _ _ _) (by decide) (.off (it_set _ _ _ _) (by decide) (h1.off (it_set _ _ _ _) (by decide)))
  have h3 : Unsought n s3 := .startBeams f m (h2.off (it_loadTaps _ _ _) (by decide))
  exact .off (it_wantBurst _ _ _ _) (by decide) (h3.off (it_modChan _ _) (by decide))

theorem Unsought.askLane (m : Nat) (own : Bool) (h : Unsought n s) : Unsought n (s.askLane m own) := by
  unfold State.askLane
  split
  · exact h.off (it_modLane _ _ _) (by decide)
  · extract_lets first
    split
    next f _ =>
      extract_lets s1
      have h1 : Unsought n s1 := h.bindLane f m own
      split
      · unfold State.stepState
        split
        · exact h1.enterState m 7
        · exact .off (it_chg _ _) (by decide) (h1.enterState m 7)
      · exact h1
    · split
      · exact h
      · exact h.off (it_modChan _ _) (by decide)

theorem Unsought.reachTracking (m : Nat) (h : Unsought n s) : Unsought n (s.reachTracking m) := by
  unfold State.reachTracking
  extract_lets st s0 s1 s2
  have h0 : Unsought n s0 := .off (it_modMech _ _ _) (by decide) (h.off (it_modSeq _ _ _) (by decide))
  have h1 : Unsought n s1 := by
    simp only [s1]
    split
    · exact h0.off (it_startLearning _ _) (by decide)
    · exact h0
  have h2 : Unsought n s2 := by
    simp only [s2]
    split
    · exact h1.endMove m st
    · split
      · exact h1
      · exact h1.enterState m st
  split
  · exact h2.askLane m false
  · exact h2

end

/-! ### A round (R141) -/

section
variable {s : State} {n : Nat} {m : Int}

theorem seekRound_faults (hn : n < 4096) (hlast : seekRounds (s.sx n).sq < (s.sx n).seq.seekRounds + 1) (hst : s.mst n ∉ [0, 8, 9]) :
    FaultTaken n 0x61 (s.seekRound n m) := by
  unfold State.seekRound
  extract_lets k
  rw [if_pos hlast]
  exact faultTaken_fault 0 hn (by decide) (by decide) hst

/-- A round aims the sled, and takes the head off its track. -/
theorem seekRound_aims (hmore : (s.sx n).seq.seekRounds + 1 ≤ seekRounds (s.sx n).sq) (hc : s.clusterOf n < 17) : ((s.seekRound n m).sx n).seq.step = 8 ∧
    ((s.seekRound n m).sx n).seq.seekRounds = (s.sx n).seq.seekRounds + 1 ∧ ((s.seekRound n m).sx n).sled.seekTgt = some (s.seekTarget n m) ∧
    (s.seekRound n m).ls n 1 = 0 := by
  unfold State.seekRound
  extract_lets k tgt s1 s2
  rw [if_neg (by omega)]
  have hc' : ((s.writeInhibit n).headLeaves n).clusterOf n < 17 := by
    rw [(clusterOf_off (it_headLeaves _ _) (by decide) n).1, (clusterOf_off (it_writeInhibit _ _) (by decide) n).1]
    exact hc
  refine ⟨?_, ?_, ?_, ?_⟩
  · rw [seq_modSeq]
  · rw [seq_modSeq]
  · simp only [s2, State.modSeq, State.modProf, State.modSled, sx_modServo_same, tgt]
  · simp only [s2, s1, State.modSeq, State.modProf, State.modSled, State.driveLoop, State.modLoop, ls_modServo]
    exact ls_openLoops _ hc' (by decide) (by decide)

end

/-! ### A seek beyond a limit (R182) -/

/-- The command that a seek served ends with 0x040A. -/
def seekCut (n : Nat) (s : State) : State :=
  match (s.sx n).seq.cmd.bind fun c => s.ctx c.1 c.2 with
  | some c => s.cutCmd c 0x040A
  | none => s

/-- The seek ends where the head is. -/
def seekLeft (n step : Nat) (s : State) : State := if step = 6 then s.reachTracking n else s.modSeq n fun y => { y with seekRounds := 0, cmd := none }

theorem startSeek_beyond {s : State} {n : Nat} {m : Int} (h : s.beyondLimit n (s.seekTarget n m) = true) :
    s.startSeek n m = seekLeft n (s.sx n).seq.step (seekCut n (s.returnGrant n fun g => { g with seek := none })) := by
  have hsx : (s.returnGrant n fun g => { g with seek := none }).sx n = s.sx n := sx_off (it_returnGrant _ _ _) (by decide) n
  rw [seekCut, hsx, State.startSeek, if_neg (by simp [h])]
  rfl

theorem startSeek_within {s : State} {n : Nat} {m : Int} (h : s.beyondLimit n (s.seekTarget n m) = false) : s.startSeek n m = s.seekRound n m :=
  if_pos (by simp [h])

section
variable {s : State} {n : Nat}

theorem Unsought.seekCut (h : Unsought n s) : Unsought n (seekCut n s) := by
  unfold Proofs.seekCut
  split
  · exact h.cutCmd _ _
  · exact h

theorem Unsought.seekLeft (step : Nat) (h : Unsought n s) : Unsought n (seekLeft n step s) := by
  unfold Proofs.seekLeft
  split
  · exact h.reachTracking n
  · exact h.off (it_modSeq _ _ _) (by decide)

theorem ended_seekCut {fn tag : Nat} {c : Ctx} (hcmd : (s.sx n).seq.cmd = some (fn, tag)) (hctx : s.ctx fn tag = some c) : Ended fn tag 0x040A (seekCut n s) := by
  obtain ⟨rfl, rfl, -⟩ := ctx_spec hctx
  have hfound : ((s.sx n).seq.cmd.bind fun c => s.ctx c.1 c.2) = some c := by rw [hcmd]; exact hctx
  rw [seekCut, hfound]
  exact ended_cutCmd s c 0x040A

theorem later_seekLeft (n step : Nat) (s : State) : Later s (seekLeft n step s) := by
  have hhost : (seekLeft n step s).host = s.host := by
    unfold seekLeft
    split
    · exact host_off (it_reachTracking _ _) (by decide +kernel)
    · exact host_off (it_modSeq _ _ _) (by decide)
  exact later_of_work (work_of_host hhost) fun e he => by rwa [onTheWay, hhost]

end

/-! ### LONG_SEEK -/

/-- State b, in which a seek for command c begins a round after k of them, is s but for the servo records; its sequence and drive records are those of u. -/
structure SeekFrom (s u b : State) (n : Nat) (c : Option (Nat × Nat)) (k : Nat) : Prop where
  rest : ∀ {q : Item}, q.off [.p .servo] = true → itm q b = itm q s
  base : ∀ {q : Item}, q.off [.p .servo] = true → itm q u = itm q s
  sq : (b.sx n).sq = (u.sx n).sq
  sled : (b.sx n).sled = (u.sx n).sled
  cmd : (b.sx n).seq.cmd = c
  rounds : (b.sx n).seq.seekRounds = k

/-- What a round of a seek that begins from u after k rounds, for a command, leaves in t (R141, R182). -/
def SeekAnswered (s u : State) (n : Nat) (m : Int) (cmd : Option (FnIx × Nat)) (k : Nat) (t : State) : Prop :=
  (u.beyondLimit n (u.seekTarget n m) = true → (NoRequest n s → (t.grants n).seek = none) ∧
    ∀ fn tag c, cmd = some (fn, tag) → s.ctx fn tag = some c → Ended fn tag 0x040A t) ∧
  (u.beyondLimit n (u.seekTarget n m) = false → seekRounds (u.sx n).sq < k + 1 → s.mst n ∉ [0, 8, 9] → FaultTaken n 0x61 t) ∧
  (u.beyondLimit n (u.seekTarget n m) = false → k + 1 ≤ seekRounds (u.sx n).sq → (t.sx n).seq.step = 8 ∧ (t.sx n).seq.seekRounds = k + 1 ∧
    (t.sx n).sled.seekTgt = some (u.seekTarget n m) ∧ t.ls n 1 = 0)

section
variable {s u b : State} {n k : Nat} {c : Option (Nat × Nat)} (h : SeekFrom s u b n c k)
include h

theorem SeekFrom.target (m : Int) : b.seekTarget n m = u.seekTarget n m := by
  rw [State.seekTarget, h.sq, h.sled, get_off h.rest (by decide), ← get_off h.base (by decide)]
  rfl

theorem SeekFrom.beyond (pos : Int) : b.beyondLimit n pos = u.beyondLimit n pos := by
  rw [State.beyondLimit, on_off h.rest (by decide), get_off h.rest (by decide), get_off h.rest (by decide), ← on_off h.base (by decide),
    ← get_off (f := .MECH_SLED_LIM_IN_LIM) h.base (by decide), ← get_off (f := .MECH_SLED_LIM_OUT_LIM) h.base (by decide)]
  rfl

theorem SeekFrom.noRequest (hno : NoRequest n s) : NoRequest n b := by
  rw [NoRequest, breath_off h.rest (by decide)]
  exact hno

theorem SeekFrom.ctx (fn tag : Nat) : b.ctx fn tag = s.ctx fn tag := ctx_of_cmds (by rw [host_off h.rest (by decide)]) fn tag

end

theorem seekAnswered_startSeek {s u b : State} {n k : Nat} {m : Int} {cmd : Option (FnIx × Nat)} (h : SeekFrom s u b n (cmd.map fun x => (x.1.val, x.2)) k)
    (hn : n < 4096) (hc : s.clusterOf n < 17) : SeekAnswered s u n m cmd k (b.startSeek n m) := by
  have hcluster : b.clusterOf n < 17 := (clusterOf_off h.rest (by decide) n).1.symm ▸ hc
  rw [SeekAnswered, ← h.target, ← h.beyond, ← h.sq]
  refine ⟨fun hbeyond => ?_, fun hwithin hlast hst => ?_, fun hwithin hmore => ?_⟩
  · rw [startSeek_beyond hbeyond]
    refine ⟨fun hno => (((unsought_returnGrant (h.noRequest hno)).seekCut).seekLeft _).seek, fun fn tag c hcmd hctx => ?_⟩
    refine (later_seekLeft _ _ _).ended (ended_seekCut (c := c) ?_ ?_)
    · rw [sx_off (it_returnGrant _ _ _) (by decide), h.cmd, hcmd]
      rfl
    · exact (ctx_of_cmds (by rw [host_off (it_returnGrant _ _ _) (by decide)]) _ _).trans ((h.ctx _ _).trans hctx)
  · rw [startSeek_within hwithin]
    exact seekRound_faults hn (h.rounds.symm ▸ hlast) (mst_off h.rest (by decide) n ▸ hst)
  · rw [startSeek_within hwithin, ← h.rounds]
    exact seekRound_aims (h.rounds.symm ▸ hmore) hcluster

theorem seekAnswered_noteEvents {s u t : State} {n k : Nat} {m : Int} {cmd : Option (FnIx × Nat)} (h : SeekAnswered s u n m cmd k t) :
    SeekAnswered s u n m cmd k t.noteEvents := by
  obtain ⟨hbeyond, hfault, haims⟩ := h
  refine ⟨fun hb => ⟨fun hno => ?_, fun fn tag c hcmd hctx => (later_noteEvents t).ended ((hbeyond hb).2 fn tag c hcmd hctx)⟩,
    fun hw hlast hst => faultTaken_noteEvents (hfault hw hlast hst), fun hw hmore => ?_⟩
  · rw [State.grants, breath_off (it_noteEvents _) (by decide)]
    exact (hbeyond hb).1 hno
  · rw [sx_off (it_noteEvents _) (by decide), ls_off (it_noteEvents _) (by decide) (by decide)]
    exact haims hw hmore

section
variable {mn : Mn} {m : Int} {cmd : Option (FnIx × Nat)} {s : State} (hon : s.onTrack mn = true) (hpos : s.on .MECH_SLED_STAT_POS_VALID mn = true)
  (hseek : (s.grants mn).seek.isSome = true) (hfar : jumpMax (s.sx mn).sq < m.natAbs)
include hon hpos hseek hfar

/-- From the address check of a seek it is that seek's next round. -/
theorem exec_longSeek_again (hagain : (s.sx mn).seq.step = 6 ∨ ((s.sx mn).seq.check = true ∧ (s.sx mn).seq.cmd = cmd.map fun x => (x.1.val, x.2))) :
    ∃ b, exec (.longSeek mn m cmd) s = fin (b.startSeek mn m) ∧ SeekFrom s s b mn (cmd.map fun x => (x.1.val, x.2)) (s.sx mn).seq.seekRounds := by
  refine ⟨s.modSeq mn fun y => { y with cmd := cmd.map fun x => (x.1.val, x.2) }, ?_, fun hq => it_modSeq _ _ _ hq, fun _ => rfl, ?_, ?_, ?_, ?_⟩
  · show execLongSeek mn m cmd s = _
    rw [execLongSeek, if_neg (by simp [hon, hpos, Option.isNone_eq_false_iff.mpr hseek, hfar])]
    extract_lets c q again s1
    have h1 : s1 = s := if_pos (by simpa [again, q, c] using hagain)
    rw [h1]
  all_goals rw [State.modSeq, sx_modServo_same]

/-- Else a seek begins, with the records in force (R128, R162). -/
theorem exec_longSeek_anew (hanew : ¬ ((s.sx mn).seq.step = 6 ∨ ((s.sx mn).seq.check = true ∧ (s.sx mn).seq.cmd = cmd.map fun x => (x.1.val, x.2)))) :
    ∃ b, exec (.longSeek mn m cmd) s = fin (b.startSeek mn m) ∧ SeekFrom s (s.takeSeq mn) b mn (cmd.map fun x => (x.1.val, x.2)) 0 := by
  refine ⟨((s.takeSeq mn).modSeq mn fun y => { y with seekRounds := 0 }).modSeq mn fun y => { y with cmd := cmd.map fun x => (x.1.val, x.2) }, ?_,
    fun hq => by rw [it_modSeq _ _ _ hq, it_modSeq _ _ _ hq, it_takeSeq _ _ hq], fun hq => it_takeSeq _ _ hq, ?_, ?_, ?_, ?_⟩
  · show execLongSeek mn m cmd s = _
    rw [execLongSeek, if_neg (by simp [hon, hpos, Option.isNone_eq_false_iff.mpr hseek, hfar])]
    extract_lets c q again s1
    have h1 : s1 = (s.takeSeq mn).modSeq mn fun y => { y with seekRounds := 0 } := if_neg (by simpa [again, q, c] using hanew)
    rw [h1]
  all_goals rw [State.modSeq, State.modSeq, sx_modServo_same, sx_modServo_same]

end

theorem longSeek_answered {mn : Mn} {m : Int} {cmd : Option (FnIx × Nat)} {s u b : State} {k : Nat} (hc : s.clusterOf mn < 17)
    (he : exec (.longSeek mn m cmd) s = fin (b.startSeek mn m)) (h : SeekFrom s u b mn (cmd.map fun x => (x.1.val, x.2)) k) :
    Completes (.longSeek mn m cmd) s (SeekAnswered s u mn m cmd k) :=
  completes_fin he (seekAnswered_noteEvents (seekAnswered_startSeek h mn.isLt hc))

end Sys2Proof.Proofs
end

section
/-! OBLIGATION O44. Pull-in, layer step and track-on limits, layer jumps, track jumps and long seeks. -/

namespace Sys2Proof.Proofs

open Sys2Proof.Machine Sys2Proof.Laws

/-- Settles O44: each limit by what its sequence does then, each jump by the sequence that it starts, and a long seek by the round that follows from the state in
which it begins. That BD media has the same limit for track-on is the model's (notes/assumptions/97.md). -/
theorem acquisitionCommands : Obligations.AcquisitionCommands := by
  unfold Obligations.AcquisitionCommands
  refine ⟨fun mn s hslot hc => ⟨pullInAttemptTimeout_returns hslot hc, attemptReturned_faults mn.isLt, attemptReturned_retries, layerStepTimeout_pullsIn hslot hc,
    trackOnTimeout_faults hslot⟩, fun mn layer s => layerJump_begins, fun mn m s => trackJump_starts, fun mn m cmd s hon hpos hseek hfar hc => ?_⟩
  by_cases hagain : (s.sx mn).seq.step = 6 ∨ ((s.sx mn).seq.check = true ∧ (s.sx mn).seq.cmd = cmd.map fun x => (x.1.val, x.2))
  · simp only [if_pos hagain]
    obtain ⟨b, he, h⟩ := exec_longSeek_again hon hpos hseek hfar hagain
    exact longSeek_answered hc he h
  · simp only [if_neg hagain]
    obtain ⟨b, he, h⟩ := exec_longSeek_anew hon hpos hseek hfar hagain
    exact longSeek_answered hc he h

end Sys2Proof.Proofs
end

section
/-! SUPPORT. Track-on (R137 to R139): the state that a mechanism on track has, and the track-on that starts again. -/

namespace Sys2Proof.Proofs

open Sys2Proof.Machine Sys2Proof.Laws

section
variable {s : State} {n : Nat}

/-- A mechanism on track that asks for a lane stays on track (R26, R37). -/
theorem askLane_onTrack (own : Bool) (hn : n < 4096) (h : s.mst n = 6 ∨ s.mst n = 7) : (s.askLane n own).mst n = 6 ∨ (s.askLane n own).mst n = 7 := by
  unfold State.askLane
  split
  · exact h
  · extract_lets first
    split
    next f _ =>
      extract_lets s1
      have h1 : s1.mst n = s.mst n := mst_off (it_bindLane _ _ _ _) (by decide) n
      split
      · exact .inr (stepState_mst s1 hn (.inr rfl))
      · exact h1.symm ▸ h
    · split
      · exact h
      · exact h

/-- The mechanism is in TRACKING or STREAMING, in the latter where it holds a lane (R37). -/
theorem reachTracking_mst (hn : n < 4096) : ((s.reachTracking n).mst n = 6 ∨ (s.reachTracking n).mst n = 7) ∧
    ((s.laneOf n).isSome = true → (s.reachTracking n).mst n = 7) := by
  unfold State.reachTracking
  extract_lets st s0 s1 s2
  have hst : st = 6 ∨ st = 7 := by
    simp only [st]
    split
    · exact .inr rfl
    · exact .inl rfl
  have h1 : s1.mst n = s.mst n := by
    simp only [s1]
    split
    · exact mst_off (it_startLearning _ _) (by decide) n
    · rfl
  have h2 : s2.mst n = st := by
    simp only [s2]
    split
    · exact mst_endMove _ hn (by omega)
    · split
      · next h => exact h1.trans h
      · exact enterState_mst s1 hn hst
  refine ⟨?_, fun hlane => ?_⟩
  · split
    · exact askLane_onTrack false hn (h2 ▸ hst)
    · exact h2 ▸ hst
  · have h7 : st = 7 := if_pos hlane
    rw [if_neg fun h => absurd (h7.symm.trans h.1) (by decide), h2, h7]

theorem reachTracking_step (s : State) (n : Nat) : ((s.reachTracking n).sx n).seq.step = 0 := by
  unfold State.reachTracking
  extract_lets st s0 s1 s2
  have h0 : (s0.sx n).seq.step = 0 := by
    simp only [s0]
    rw [sx_off (it_modMech _ _ _) (by decide), seq_modSeq]
  have h1 : (s1.sx n).seq.step = 0 := by
    simp only [s1]
    split
    · rw [State.startLearning, State.modProf, seq_modServo, h0]
    · exact h0
  have h2 : (s2.sx n).seq.step = 0 := by
    simp only [s2]
    split
    · rw [sx_off (it_endMove _ _ _) (by decide), h1]
    · split
      · exact h1
      · rw [sx_off (it_enterState _ _ _) (by decide), h1]
  split
  · rw [sx_off (it_askLane _ _ _) (by decide), h2]
  · exact h2

theorem trackOnFrom_seq (s : State) (n : Nat) (step3 : Bool) : ((s.trackOnFrom n step3).sx n).seq.step = 6 ∧
    ((s.trackOnFrom n step3).sx n).seq.attemptAt = s.now := by
  unfold State.trackOnFrom
  extract_lets s1 s2 pol
  rw [seq_modSeq]
  exact ⟨rfl, rfl⟩

theorem trackOnFrom_prof (s : State) (n : Nat) (step3 : Bool) : ((s.trackOnFrom n step3).sx n).prof = (s.sx n).prof := by
  unfold State.trackOnFrom
  extract_lets s1 s2 pol
  have h1 : (s1.sx n).prof = (s.sx n).prof := (prof_of_loopless (loopless_driveLoop _ n 1 0)).trans (prof_openLoops s n [1])
  have h2 : (s2.sx n).prof = (s.sx n).prof := by
    simp only [s2]
    split
    · exact h1
    · exact (prof_openLoops s1 n [2, 5]).trans h1
  rw [State.modSeq, sx_modServo_same, h2]

/-- Track-on begins with loop 1 OFF. -/
theorem trackOnFrom_opens (hc : s.clusterOf n < 17) (step3 : Bool) : LoopOff n 1 (s.trackOnFrom n step3) := by
  unfold State.trackOnFrom
  extract_lets s1 s2 pol
  have h1 : LoopOff n 1 s1 := loopOff_off (it_driveLoop _ _ _ _) (by decide) (loopOff_opened hc (by decide) (by decide))
  refine loopOff_off (it_modSeq _ _ _) (by decide) ?_
  simp only [s2]
  split
  · exact h1
  · exact loopOff_openLoops [2, 5] (by decide) h1

/-- The limit of track-on runs on, but for one that had entered TRACKING (R138). -/
theorem retryTrackOn_restarts (hc : s.clusterOf n < 17) : ((s.retryTrackOn n).sx n).seq.step = 6 ∧
    ((s.retryTrackOn n).sx n).seq.attemptAt = (if (s.sx n).seq.check = true then s.now else (s.sx n).seq.attemptAt) ∧ (s.retryTrackOn n).ls n 1 = 0 := by
  obtain ⟨hstep, hat⟩ := trackOnFrom_seq s n false
  unfold State.retryTrackOn
  extract_lets q0
  rw [seq_modSeq]
  exact ⟨hstep, by rw [hat], (trackOnFrom_opens hc false).2⟩

end

end Sys2Proof.Proofs
end

section
/-! SUPPORT. ADDRESS_READ (R138, R148, R172, R183): where an address places the sled, what it corrects of the profile angle, and the checks that it meets. -/

namespace Sys2Proof.Proofs

open Sys2Proof.Machine Sys2Proof.Laws

theorem unsignedOf_natCast (n v : Nat) : unsignedOf n (v : Int) = v % 2 ^ n := by
  rw [unsignedOf]
  norm_cast

/-! ### The sled and the angle -/

/-- The sled is placed where the radius of the address is known. -/
def addressPlaced (n : Nat) (r : Option Nat) (s : State) : State :=
  match r with
  | some r => s.placeSled n r
  | none => s

/-- The profile angle is corrected where the address came with an angle and the media has one. -/
def angleRead (n : Nat) (theta : Option Word) (bd : Bool) (s : State) : State :=
  match theta with
  | some w => if bd then s else s.correctAngle n w.toNat
  | none => s

/-- The sled and the angle as an address leaves them. -/
def addressNoted (s : State) (n : Nat) (b : Nat) (a : DiscAddr) (theta : Option Word) : State :=
  angleRead n theta (isBd (s.get .MECH_DISC_MEDIA n)) (addressPlaced n (s.addressPlace n b a).1 s)

theorem angleRead_corrects (n : Nat) (w : Word) (s : State) : angleRead n (some w) false s = s.correctAngle n w.toNat := by
  rw [angleRead, if_neg Bool.false_ne_true]

def foot_addressNoted : List Spot := spots [foot_placeSled, foot_correctAngle] []

theorem it_addressPlaced {q : Item} (n : Nat) (r : Option Nat) (s : State) (hq : q.off foot_placeSled = true) : itm q (addressPlaced n r s) = itm q s := by
  unfold addressPlaced
  split
  · exact it_placeSled _ _ _ hq
  · rfl

theorem it_angleRead {q : Item} (n : Nat) (theta : Option Word) (bd : Bool) (s : State) (hq : q.off foot_correctAngle = true) :
    itm q (angleRead n theta bd s) = itm q s := by
  unfold angleRead
  split
  · split
    · rfl
    · exact it_correctAngle _ _ _ hq
  · rfl

theorem it_addressNoted {q : Item} (s : State) (n b : Nat) (a : DiscAddr) (theta : Option Word) (hq : q.off foot_addressNoted = true) :
    itm q (addressNoted s n b a theta) = itm q s := by
  simp only [foot_addressNoted, off_spots, off_nil, List.all_cons, List.all_nil, Bool.and_true, Bool.and_eq_true] at hq
  rw [addressNoted, it_angleRead _ _ _ _ hq.2, it_addressPlaced _ _ _ hq.1]

/-- Of the servo record an address moves the sled only. -/
theorem addressNoted_sx (s : State) (n b : Nat) (a : DiscAddr) (theta : Option Word) :
    ∃ d, (addressNoted s n b a theta).sx n = { s.sx n with sled := d } := by
  have hplaced : ∃ d, (addressPlaced n (s.addressPlace n b a).1 s).sx n = { s.sx n with sled := d } := by
    unfold addressPlaced
    split
    · rw [State.placeSled, sx_off (it_set _ _ _ _) (by decide), sx_off (it_set _ _ _ _) (by decide), State.modSled, sx_modServo_same]
      exact ⟨_, rfl⟩
    · exact ⟨(s.sx n).sled, rfl⟩
  rw [addressNoted, sx_off (it_angleRead _ _ _ _) (by decide)]
  exact hplaced

theorem placeSled_places (s : State) {n : Nat} (r : Nat) (hn : n < 4096) : (s.placeSled n r).on .MECH_SLED_STAT_POS_VALID n = true ∧
    (s.placeSled n r).get .MECH_SLED_POS_POS n = (2 * r + max 1 (microstepNm (s.sx n).sq)) / (2 * max 1 (microstepNm (s.sx n).sq)) % 2 ^ 32 := by
  unfold State.placeSled
  extract_lets u p s1
  refine ⟨on_eq_true_of_get (get_set_self (by decide) _ _ _ (mechReg_has rfl hn)), ?_⟩
  rw [get_set_disj (by decide), get_set_self (by decide) _ _ _ (mechReg_has rfl hn)]
  simp only [p, unsignedOf_natCast]
  exact Nat.mod_mod _ _

/-- The error of the profile angle against a reference (R148). -/
def angleError (s : State) (n theta : Nat) : Int := signed 32 ((theta + 2 ^ 32 - s.get .CIRQ_ANGLE_THETA (s.clusterOf n) (s.slotOf n)) % 2 ^ 32)

/-- The profile angle corrected by an eighth of its error, or by all of it past 2^22 (R148). -/
def angleAfter (s : State) (n theta : Nat) : Nat :=
  if (angleError s n theta).natAbs ≤ 2 ^ 22 then unsignedOf 32 (s.get .CIRQ_ANGLE_THETA (s.clusterOf n) (s.slotOf n) + angleError s n theta / 8) else theta

theorem correctAngle_eq (s : State) (n theta : Nat) : s.correctAngle n theta =
    if (angleError s n theta).natAbs ≤ 2 ^ 22 then
      s.set2 .CIRQ_ANGLE_THETA (s.clusterOf n) (s.slotOf n) (unsignedOf 32 (s.get .CIRQ_ANGLE_THETA (s.clusterOf n) (s.slotOf n) + angleError s n theta / 8))
    else (s.set2 .CIRQ_ANGLE_THETA (s.clusterOf n) (s.slotOf n) theta).logEntry
      { cls := 3, code := 3, sev := 1, mn := n, detail0 := unsignedOf 32 (angleError s n theta), detail1 := (s.sx n).layer } := rfl

theorem theta_set2 (s : State) {n : Nat} (v : Nat) (hc : s.clusterOf n < 17) :
    (s.set2 .CIRQ_ANGLE_THETA (s.clusterOf n) (s.slotOf n) v).get .CIRQ_ANGLE_THETA (s.clusterOf n) (s.slotOf n) = v % 2 ^ 32 :=
  get_set_same s .CIRQ_ANGLE_THETA _ _ _ (slotReg_has slotRegs_angle hc (get_lt s .MECH_SERVO_SLOT n 0)) (by decide)

theorem correctAngle_theta (s : State) {n theta : Nat} (hlt : theta < 2 ^ 32) (hc : s.clusterOf n < 17) :
    (s.correctAngle n theta).get .CIRQ_ANGLE_THETA (s.clusterOf n) (s.slotOf n) = angleAfter s n theta := by
  rw [correctAngle_eq, angleAfter]
  split
  · rw [theta_set2 s _ hc]
    exact Nat.mod_eq_of_lt (by rw [unsignedOf]; omega)
  · rw [get_off (it_logEntry _ _) (by decide), theta_set2 s _ hc]
    exact Nat.mod_eq_of_lt hlt

section
variable {s : State} {n b : Nat} {a : DiscAddr} {theta : Option Word}

theorem addressNoted_places {r : Nat} (hn : n < 4096) (hr : (s.addressPlace n b a).1 = some r) :
    (addressNoted s n b a theta).on .MECH_SLED_STAT_POS_VALID n = true ∧
    (addressNoted s n b a theta).get .MECH_SLED_POS_POS n =
      (2 * r + max 1 (microstepNm (s.sx n).sq)) / (2 * max 1 (microstepNm (s.sx n).sq)) % 2 ^ 32 := by
  rw [addressNoted, on_off (it_angleRead _ _ _ _) (by decide), get_off (it_angleRead _ _ _ _) (by decide), hr]
  exact placeSled_places s r hn

theorem addressNoted_theta {w : Word} (hc : s.clusterOf n < 17) (hw : theta = some w) (hbd : isBd (s.get .MECH_DISC_MEDIA n) = false) :
    (addressNoted s n b a theta).get .CIRQ_ANGLE_THETA (s.clusterOf n) (s.slotOf n) = angleAfter s n w.toNat := by
  have hoff := fun {q : Item} (hq : q.off foot_placeSled = true) => it_addressPlaced n (s.addressPlace n b a).1 s hq
  obtain ⟨hcluster, hplace⟩ := clusterOf_off hoff (by decide) n
  have hth : ∀ c k, (addressPlaced n (s.addressPlace n b a).1 s).get .CIRQ_ANGLE_THETA c k = s.get .CIRQ_ANGLE_THETA c k := fun c k => get_off hoff (by decide)
  have h := correctAngle_theta (addressPlaced n (s.addressPlace n b a).1 s) w.isLt (hcluster.symm ▸ hc)
  rw [angleAfter, angleError, hcluster, hplace, hth] at h
  rw [addressNoted, hbd, hw, angleRead_corrects, h, angleAfter, angleError]

end

/-! ### The checks -/

/-- The address check of track-on is due (R138). -/
def Checking (v : ServoX) : Prop := v.seq.step = 6 ∧ v.seq.sub = 6

/-- The first sector header that a lane reads is still to be checked (R138). -/
def CheckLater (s : State) (n : Nat) : Prop := (s.sx n).seq.step = 0 ∧ (s.sx n).seq.check = true ∧ (s.laneOf n).isSome = true

section
variable {s : State} {n : Nat} {a : DiscAddr} {residual : Option Int}

/-- An address is checked. -/
def checkDue (s : State) (n : Nat) : Bool :=
  (s.sx n).seq.step == 6 && (s.sx n).seq.sub == 6 || (s.sx n).seq.step == 0 && (s.sx n).seq.check && (s.laneOf n).isSome

theorem checkDue_iff : checkDue s n = true ↔ Checking (s.sx n) ∨ CheckLater s n := by
  simp [checkDue, Checking, CheckLater, and_assoc]

theorem checkAddress_eq : s.checkAddress n a residual =
    if checkDue s n then
      if addrLayer a ≠ (s.sx n).layer then s.retryTrackOn n
      else match residual with
        | none => s.addressMet n
        | some d =>
          if d = 0 then s.addressMet n
          else if (s.sx n).seq.seekRounds = 0 then s.retryTrackOn n
          else if s.jumpOk n d then s.startTrackJump n d
          else s.nextRound n d
    else s := by
  have hnot : (!((s.sx n).seq.step == 6 && (s.sx n).seq.sub == 6) && !((s.sx n).seq.step == 0 && (s.sx n).seq.check && (s.laneOf n).isSome)) =
      !checkDue s n := (Bool.not_or _ _).symm
  unfold State.checkAddress
  extract_lets q
  simp only [q, hnot]
  cases checkDue s n <;> rfl

theorem checkDirection_done (place : Nat) (h : (s.sx n).addrDone = true) : s.checkDirection n place a = s := if_pos h

/-- The disc turns the other way. -/
theorem checkDirection_faults {a0 : DiscAddr} {place p0 : Nat} (hn : n < 4096) (hdone : (s.sx n).addrDone = false) (haddr : (s.sx n).addr = some (a0, p0))
    (hkind : sameKind a0 a = true) (hsoon : s.now < (s.sx n).addrAt + 240000000000 / max 1 (s.get .MECH_SPEED_MEAS n)) (hback : place < p0)
    (hst : s.mst n ∉ [0, 8, 9]) : FaultTaken n 0x14 (s.checkDirection n place a) := by
  unfold State.checkDirection
  extract_lets v meas
  rw [if_neg (by simp [v, hdone]), haddr]
  dsimp only
  rw [if_pos (by simp [hkind, v, meas, hsoon]), if_pos hback]
  exact faultTaken_fault 0 hn (by decide) (by decide) hst

theorem checkAddress_idle (hno : ¬ Checking (s.sx n)) (hlater : ¬ CheckLater s n) : s.checkAddress n a residual = s := by
  have hnone : checkDue s n = false := Bool.eq_false_iff.mpr fun h => (checkDue_iff.mp h).elim hno hlater
  rw [checkAddress_eq, if_neg (by simp [hnone])]

theorem checkAddress_meets (h : Checking (s.sx n) ∨ CheckLater s n) (hlayer : addrLayer a = (s.sx n).layer) (hres : residual = none ∨ residual = some 0) :
    s.checkAddress n a residual = s.addressMet n := by
  rw [checkAddress_eq, if_pos (checkDue_iff.mpr h), if_neg (not_not.mpr hlayer)]
  rcases hres with rfl | rfl
  · rfl
  · exact if_pos rfl

theorem checkAddress_retries (h : Checking (s.sx n) ∨ CheckLater s n) (hlayer : addrLayer a ≠ (s.sx n).layer) :
    s.checkAddress n a residual = s.retryTrackOn n := by
  rw [checkAddress_eq, if_pos (checkDue_iff.mpr h), if_pos hlayer]

end

/-! ### ADDRESS_READ -/

section
variable {s : State} {mn : Mn} {b : BeamIx} {a : DiscAddr} {theta : Option Word} {residual : Option Int}

theorem addressNoted_checking : Checking ((addressNoted s mn b a theta).sx mn) ↔ Checking (s.sx mn) := by
  obtain ⟨d, hd⟩ := addressNoted_sx s mn b a theta
  rw [hd]
  rfl

theorem addressNoted_later : CheckLater (addressNoted s mn b a theta) mn ↔ CheckLater s mn := by
  obtain ⟨d, hd⟩ := addressNoted_sx s mn b a theta
  rw [CheckLater, hd, laneOf_off (it_addressNoted s mn b a theta) (by decide)]
  rfl

theorem exec_addressRead (hslot : s.holdsSlot mn = true) : exec (.addressRead mn b a theta residual) s =
    fin (if ((addressNoted s mn b a theta).checkDirection mn (s.addressPlace mn b a).2 a).holdsSlot mn then
      ((addressNoted s mn b a theta).checkDirection mn (s.addressPlace mn b a).2 a).checkAddress mn a residual
    else (addressNoted s mn b a theta).checkDirection mn (s.addressPlace mn b a).2 a) := by
  show execAddressRead mn b a theta residual s = _
  rw [execAddressRead, if_neg (by simp [hslot])]
  rfl

variable (hslot : s.holdsSlot mn = true)
include hslot

/-- Once the direction is known the address is checked only. -/
theorem exec_addressRead_done (hdone : (s.sx mn).addrDone = true) :
    exec (.addressRead mn b a theta residual) s = fin ((addressNoted s mn b a theta).checkAddress mn a residual) := by
  have hdone' : ((addressNoted s mn b a theta).sx mn).addrDone = true := by
    obtain ⟨d, hd⟩ := addressNoted_sx s mn b a theta
    rw [hd]
    exact hdone
  rw [exec_addressRead hslot, checkDirection_done _ hdone', holdsSlot_off (it_addressNoted s mn b a theta) (by decide), if_pos hslot]

theorem addressRead_places (hc : s.clusterOf mn < 17) (hdone : (s.sx mn).addrDone = true) (hno : ¬ Checking (s.sx mn)) (hlater : ¬ CheckLater s mn) :
    Completes (.addressRead mn b a theta residual) s fun t =>
      (∀ r, (s.addressPlace mn b a).1 = some r → t.on .MECH_SLED_STAT_POS_VALID mn = true ∧
        t.get .MECH_SLED_POS_POS mn = (2 * r + max 1 (microstepNm (s.sx mn).sq)) / (2 * max 1 (microstepNm (s.sx mn).sq)) % 2 ^ 32) ∧
      (∀ w, theta = some w → isBd (s.get .MECH_DISC_MEDIA mn) = false →
        t.get .CIRQ_ANGLE_THETA (s.clusterOf mn) (s.slotOf mn) = angleAfter s mn w.toNat) := by
  have he := exec_addressRead_done (b := b) (a := a) (theta := theta) (residual := residual) hslot hdone
  rw [checkAddress_idle (addressNoted_checking.not.mpr hno) (addressNoted_later.not.mpr hlater)] at he
  refine completes_fin he ⟨fun r hr => ?_, fun w hw hbd => ?_⟩
  · rw [on_off (it_noteEvents _) (by decide), get_off (it_noteEvents _) (by decide)]
    exact addressNoted_places mn.isLt hr
  · rw [get_off (it_noteEvents _) (by decide)]
    exact addressNoted_theta hc hw hbd

/-- The address check is met on the layer in focus, at the track wanted. -/
theorem exec_addressRead_met (hdone : (s.sx mn).addrDone = true) (hdue : Checking (s.sx mn) ∨ CheckLater s mn) (hlayer : addrLayer a = (s.sx mn).layer)
    (hres : residual = none ∨ residual = some 0) :
    exec (.addressRead mn b a theta residual) s = fin ((addressNoted s mn b a theta).addressMet mn) := by
  obtain ⟨d, hd⟩ := addressNoted_sx s mn b a theta
  rw [exec_addressRead_done hslot hdone,
    checkAddress_meets (hdue.imp addressNoted_checking.mpr addressNoted_later.mpr) (by rw [hd]; exact hlayer) hres]

theorem addressRead_onTrack (hdone : (s.sx mn).addrDone = true) (hdue : Checking (s.sx mn)) (hcheck : (s.sx mn).seq.check = false)
    (hlayer : addrLayer a = (s.sx mn).layer) (hres : residual = none ∨ residual = some 0) :
    Completes (.addressRead mn b a theta residual) s fun t => (t.mst mn = 6 ∨ t.mst mn = 7) ∧ ((s.laneOf mn).isSome = true → t.mst mn = 7) ∧
      (t.sx mn).seq.step = 0 := by
  obtain ⟨d, hd⟩ := addressNoted_sx s mn b a theta
  have hmet : (addressNoted s mn b a theta).addressMet mn = (addressNoted s mn b a theta).reachTracking mn := by
    rw [State.addressMet, hd, if_neg (by simp [hcheck])]
  obtain ⟨hmst, hlane⟩ := reachTracking_mst (s := addressNoted s mn b a theta) mn.isLt
  rw [laneOf_off (it_addressNoted s mn b a theta) (by decide)] at hlane
  refine completes_fin (exec_addressRead_met hslot hdone (.inl hdue) hlayer hres) ?_
  rw [mst_off (it_noteEvents _) (by decide), sx_off (it_noteEvents _) (by decide), hmet]
  exact ⟨hmst, hlane, reachTracking_step _ _⟩

theorem addressRead_checked (hdone : (s.sx mn).addrDone = true) (hdue : CheckLater s mn) (hlayer : addrLayer a = (s.sx mn).layer)
    (hres : residual = none ∨ residual = some 0) : Completes (.addressRead mn b a theta residual) s fun t =>
      (t.sx mn).seq.check = false ∧ (t.sx mn).seq.seekRounds = 0 ∧ t.mst mn = s.mst mn := by
  obtain ⟨d, hd⟩ := addressNoted_sx s mn b a theta
  have hcheck : ((addressNoted s mn b a theta).sx mn).seq.check = true := by rw [hd]; exact hdue.2.1
  refine completes_fin (exec_addressRead_met hslot hdone (.inr hdue) hlayer hres) ?_
  rw [mst_off (it_noteEvents _) (by decide), sx_off (it_noteEvents _) (by decide), State.addressMet, if_pos hcheck, seq_modSeq,
    mst_off (it_modSeq _ _ _) (by decide), mst_off (it_addressNoted _ _ _ _ _) (by decide)]
  exact ⟨rfl, rfl, rfl⟩

theorem addressRead_retries (hc : s.clusterOf mn < 17) (hdone : (s.sx mn).addrDone = true) (hdue : Checking (s.sx mn) ∨ CheckLater s mn)
    (hlayer : addrLayer a ≠ (s.sx mn).layer) : Completes (.addressRead mn b a theta residual) s fun t => (t.sx mn).seq.step = 6 ∧
      (t.sx mn).seq.attemptAt = (if (s.sx mn).seq.check = true then s.now else (s.sx mn).seq.attemptAt) ∧ t.ls mn 1 = 0 := by
  obtain ⟨d, hd⟩ := addressNoted_sx s mn b a theta
  have he := exec_addressRead_done (b := b) (a := a) (theta := theta) (residual := residual) hslot hdone
  rw [checkAddress_retries (hdue.imp addressNoted_checking.mpr addressNoted_later.mpr) (by rw [hd]; exact hlayer)] at he
  have hretry := retryTrackOn_restarts (s := addressNoted s mn b a theta) (n := mn) ((clusterOf_off (it_addressNoted _ _ _ _ _) (by decide) mn).1.symm ▸ hc)
  rw [hd, now_off (it_addressNoted _ _ _ _ _) (by decide)] at hretry
  refine completes_fin he ?_
  rw [sx_off (it_noteEvents _) (by decide), ls_off (it_noteEvents _) (by decide) (by decide)]
  exact hretry

theorem addressRead_faults {a0 : DiscAddr} {p0 : Nat} (hdone : (s.sx mn).addrDone = false) (haddr : (s.sx mn).addr = some (a0, p0))
    (hkind : sameKind a0 a = true) (hsoon : s.now < (s.sx mn).addrAt + 240000000000 / max 1 (s.get .MECH_SPEED_MEAS mn))
    (hback : (s.addressPlace mn b a).2 < p0) (hst : s.mst mn ∉ [0, 8, 9]) : Completes (.addressRead mn b a theta residual) s (FaultTaken mn 0x14) := by
  obtain ⟨d, hd⟩ := addressNoted_sx s mn b a theta
  have hoff := fun {q : Item} (hq : q.off foot_addressNoted = true) => it_addressNoted s mn b a theta hq
  have hfault : FaultTaken mn 0x14 ((addressNoted s mn b a theta).checkDirection mn (s.addressPlace mn b a).2 a) := by
    refine checkDirection_faults mn.isLt (by rw [hd]; exact hdone) (by rw [hd]; exact haddr) hkind ?_ hback (mst_off hoff (by decide) mn ▸ hst)
    rw [hd, now_off hoff (by decide), get_off hoff (by decide)]
    exact hsoon
  have hgone := hfault.2.2.2.2
  refine completes_fin (exec_addressRead hslot) ?_
  rw [if_neg (by simp [hgone])]
  exact faultTaken_noteEvents hfault

end

end Sys2Proof.Proofs
end


section
/-! SUPPORT. The profiles of a disc (R151, R152, R154): what PROFILE_ALIGN and PROFILE_LEARN_DONE leave. -/

namespace Sys2Proof.Proofs

open Sys2Proof.Machine Sys2Proof.Laws

/-- The profile records, outside what an operation writes. -/
theorem profRec_off {s t : State} {l : List Spot} (it : ∀ {q : Item}, q.off l = true → itm q t = itm q s) (h : (Item.part .profiles).off l = true)
    (n layer : Nat) : t.profRec n layer = s.profRec n layer := by
  have hprofiles : t.profiles = s.profiles := congrArg (·.2.profiles) (it h)
  rw [State.profRec, hprofiles]
  rfl

/-! ### Alignment -/

section
variable {mn : Mn} {s : State}

/-- The profiles are discarded, learning starts, and track-on begins (R154). -/
theorem alignFailed_learns (s : State) (mn : Mn) : (s.alignFailed mn).on .MECH_DISC_PROFILE_VALID mn = false ∧ ((s.alignFailed mn).sx mn).prof.learning = true ∧
    ((s.alignFailed mn).sx mn).seq.step = 6 := by
  unfold State.alignFailed
  extract_lets s1 s2
  rw [State.startTrackOn]
  refine ⟨?_, ?_, (trackOnFrom_seq _ _ _).1⟩
  · rw [on_off (it_trackOnFrom _ _ _) (by decide), on_off (it_takeSeq _ _) (by decide), on_off (it_startLearning _ _) (by decide)]
    exact on_eq_false_of_get (get_set_self (by decide) _ _ _ (mechReg_has rfl mn.isLt))
  · rw [trackOnFrom_prof, State.takeSeq, sx_modServo_same, State.startLearning, State.modProf, sx_modServo_same]

/-- The angle that an alignment by `shift` gives. -/
def alignedAngle (s : State) (n shift : Nat) : Nat := (s.get .CIRQ_ANGLE_THETA (s.clusterOf n) (s.slotOf n) + shift) % 2 ^ 32

/-- θ moves by the shift, the record takes the offset of the rotor, and the ramp starts (R149, R154). -/
theorem aligned_ramps (hc : s.clusterOf mn < 17) (shift : Nat) : ((s.aligned mn shift).sx mn).prof.aligned = true ∧
    ((s.aligned mn shift).sx mn).prof.rampAt = some s.now ∧ ((s.aligned mn shift).sx mn).seq.sub = 1 ∧
    (s.aligned mn shift).get .CIRQ_ANGLE_THETA (s.clusterOf mn) (s.slotOf mn) = alignedAngle s mn shift ∧
    ((s.aligned mn shift).profRec mn (s.sx mn).layer).rotorOfs = (alignedAngle s mn shift + 2 ^ 32 - s.rotorAngle mn) % 2 ^ 32 := by
  unfold State.aligned
  extract_lets v same c th harm s1 s2
  have h1 : (s1.profRec mn v.layer).rotorOfs = (th + 2 ^ 32 - s.rotorAngle mn) % 2 ^ 32 := by
    simp only [s1, State.modProfiles, State.profRec, tabGet_tabMod_same]
  have h2 : (s2.profRec mn v.layer).rotorOfs = (th + 2 ^ 32 - s.rotorAngle mn) % 2 ^ 32 := by
    rw [profRec_off (it_set2 _ _ _ _ _) (by decide)]
    split
    · exact h1
    · rw [profRec_off (it_loadProfile _ _ _) (by decide), h1]
  have hth : s2.get .CIRQ_ANGLE_THETA c (s.slotOf mn) = th :=
    (get_set_same _ _ _ _ _ (slotReg_has slotRegs_angle hc (get_lt s .MECH_SERVO_SLOT mn 0)) (by decide)).trans (Nat.mod_mod _ _)
  rw [get_off (it_modSeq _ _ _) (by decide), get_off (it_modProf _ _ _) (by decide), profRec_off (it_modSeq _ _ _) (by decide),
    profRec_off (it_modProf _ _ _) (by decide), State.modSeq, sx_modServo_same, State.modProf, sx_modServo_same]
  exact ⟨rfl, rfl, rfl, hth, h2⟩

/-- The best candidate of an alignment, with its correlation (R154). -/
def bestCandidate (s : State) (n : Nat) : Option (Nat × Int × Int) :=
  bestShift (s.sx n).prof.capture (s.sx n).prof.sf ((s.candidates n).map (s.shiftOf n))

variable (hslot : s.holdsSlot mn = true) (hstep : (s.sx mn).seq.step = 9) (hsub : (s.sx mn).seq.sub = 0) (hcap : 2 ^ 31 ≤ (s.sx mn).prof.capAngle)
include hslot hstep hsub hcap

theorem exec_profileAlign : exec (.profileAlign mn) s =
    match bestCandidate s mn with
    | some b => if reaches b.2 (profMatch (s.sx mn).sq) then fin (s.aligned mn b.1) else fin (s.alignFailed mn)
    | none => fin (s.alignFailed mn) := by
  show execProfileAlign mn s = _
  rw [execProfileAlign, if_neg (by simpa [hslot, hstep, hsub] using hcap)]
  rfl

/-- No candidate reaches PROF_MATCH. -/
theorem profileAlign_discards (hbest : (bestCandidate s mn).any (fun b => reaches b.2 (profMatch (s.sx mn).sq)) = false) :
    Completes (.profileAlign mn) s fun t => t.on .MECH_DISC_PROFILE_VALID mn = false ∧ (t.sx mn).prof.learning = true ∧ (t.sx mn).seq.step = 6 := by
  have he : exec (.profileAlign mn) s = fin (s.alignFailed mn) := by
    rw [exec_profileAlign hslot hstep hsub hcap]
    cases hb : bestCandidate s mn with
    | none => rfl
    | some b =>
      rw [hb, Option.any_some] at hbest
      exact if_neg (by simp [hbest])
  refine completes_fin he ?_
  rw [on_off (it_noteEvents _) (by decide), sx_off (it_noteEvents _) (by decide)]
  exact alignFailed_learns s mn

/-- The best candidate reaches PROF_MATCH. -/
theorem profileAlign_aligns (hc : s.clusterOf mn < 17) {d : Nat} {c : Int × Int} (hbest : bestCandidate s mn = some (d, c))
    (hreach : reaches c (profMatch (s.sx mn).sq) = true) : Completes (.profileAlign mn) s fun t =>
      (t.sx mn).prof.aligned = true ∧ (t.sx mn).prof.rampAt = some s.now ∧ (t.sx mn).seq.sub = 1 ∧
      t.get .CIRQ_ANGLE_THETA (s.clusterOf mn) (s.slotOf mn) = alignedAngle s mn d ∧
      (t.profRec mn (s.sx mn).layer).rotorOfs = (alignedAngle s mn d + 2 ^ 32 - s.rotorAngle mn) % 2 ^ 32 := by
  have he : exec (.profileAlign mn) s = fin (s.aligned mn d) := by
    rw [exec_profileAlign hslot hstep hsub hcap, hbest]
    exact if_pos hreach
  refine completes_fin he ?_
  rw [sx_off (it_noteEvents _) (by decide), get_off (it_noteEvents _) (by decide), profRec_off (it_noteEvents _) (by decide)]
  exact aligned_ramps hc d

end

/-! ### Learning -/

theorem binMean_eq {k : Nat} (hk : k ≠ 0) (s : State) (sum : Int) : (s.binMean sum k).2 = sat16 ((2 * sum + k) / (2 * k)) := by
  rw [State.binMean, if_neg hk]

/-- The learned tables hold the rounded mean of each bin that has samples (R151). -/
theorem learned_getD {bins : Tab (Int × Int × Nat)} {l : List Nat} {i j k : Nat} {f tr : Int} (hj : l[i]? = some j)
    (hbin : tabGet bins j (0, 0, 0) = (f, tr, k)) (hk : k ≠ 0) (s : State) :
    (s.learned bins l).2.1.getD i 0 = sat16 ((2 * f + k) / (2 * k)) ∧ (s.learned bins l).2.2.getD i 0 = sat16 ((2 * tr + k) / (2 * k)) := by
  induction l generalizing s i with
  | nil => simp at hj
  | cons j0 l ih =>
    cases i with
    | zero =>
      obtain rfl : j0 = j := by simpa using hj
      simp only [State.learned, hbin, List.getD_cons_zero, binMean_eq hk, and_self]
    | succ i =>
      simp only [State.learned, List.getD_cons_succ]
      exact ih (by simpa using hj) _

/-- After 16 good revolutions the learned tables take the place of the old ones (R151, R152). -/
theorem profileLearnDone_stores {mn : Mn} {s : State} (hslot : s.holdsSlot mn = true) (hlearn : (s.sx mn).prof.learning = true)
    (hrevs : 16 ≤ (s.sx mn).prof.revs) : Completes (.profileLearnDone mn) s fun t =>
      (t.sx mn).prof.learning = false ∧ (t.sx mn).prof.aligned = true ∧ (t.sx mn).prof.pscale = 256 ∧ t.on .MECH_DISC_PROFILE_VALID mn = true ∧
      (t.profRec mn (s.sx mn).layer).revs = (s.sx mn).prof.revs ∧
      ∀ i < 1024, ∀ (f tr : Int) (k : Nat), tabGet (s.sx mn).prof.bins i (0, 0, 0) = (f, tr, k) → k ≠ 0 →
        (t.sx mn).prof.sf.getD i 0 = sat16 ((2 * f + k) / (2 * k)) ∧ (t.sx mn).prof.st.getD i 0 = sat16 ((2 * tr + k) / (2 * k)) := by
  refine completes_of_next (next_execProfileLearnDone mn s) fun t ht => ?_
  change execProfileLearnDone mn s = .next t at ht
  unfold execProfileLearnDone at ht
  extract_lets v r s0 rec_ free s1 s2 at ht
  rw [if_neg (by simp [v, hslot, hlearn, hrevs])] at ht
  obtain rfl : (s2.set .MECH_DISC_PROFILE_VALID mn 1).noteEvents = t := Host.Outcome.next.inj ht
  have hsx : ((s2.set .MECH_DISC_PROFILE_VALID mn 1).noteEvents.sx mn).prof =
      { (s1.sx mn).prof with sf := r.2.1, st := r.2.2, pscale := 256, rampAt := none, aligned := true, learning := false, bins := [], revBins := [], revs := 0 } := by
    rw [sx_off (it_noteEvents _) (by decide), sx_off (it_set _ _ _ _) (by decide)]
    simp only [s2, State.modProf, sx_modServo_same]
  have hrec : s2.profRec mn v.layer = rec_ := by
    rw [profRec_off (it_modProf _ _ _) (by decide), State.profRec]
    simp only [s1, tabGet_tabIns_same]
  rw [hsx, on_off (it_noteEvents _) (by decide), profRec_off (it_noteEvents _) (by decide), profRec_off (it_set _ _ _ _) (by decide), hrec]
  refine ⟨rfl, rfl, rfl, on_eq_true_of_get (get_set_self (by decide) _ _ _ (mechReg_has rfl mn.isLt)), rfl, fun i hi f tr k hbin hk => ?_⟩
  simp only [r, v]
  exact learned_getD (List.getElem?_range hi) hbin hk s

end Sys2Proof.Proofs
end

section
/-! OBLIGATION O45. Addresses read from the disc, profile alignment and profile learning. -/

namespace Sys2Proof.Proofs

open Sys2Proof.Machine Sys2Proof.Laws

/-- Settles O45: what ADDRESS_READ notes and the check that it meets, the two ends of PROFILE_ALIGN, and the tables of PROFILE_LEARN_DONE. The score of a
candidate offset is the model's (notes/assumptions/98.md). -/
theorem addressesAndProfiles : Obligations.AddressesAndProfiles := by
  unfold Obligations.AddressesAndProfiles
  refine ⟨fun mn b a theta residual s hslot hc => ⟨fun hdone hno hlater => addressRead_places hslot hc hdone hno hlater,
    fun hdone hdue hcheck hlayer hres => addressRead_onTrack hslot hdone hdue hcheck hlayer hres,
    fun hdone hdue hlayer hres => addressRead_checked hslot hdone hdue hlayer hres,
    fun hdone hdue hlayer => addressRead_retries hslot hc hdone hdue hlayer,
    fun a0 p0 hdone haddr hkind hsoon hback hst => addressRead_faults hslot hdone haddr hkind hsoon hback hst⟩,
    fun mn s hslot hc hstep hsub hcap => ?_, fun mn s hslot hlearn hrevs => profileLearnDone_stores hslot hlearn hrevs⟩
  exact completes_of_next (next_execProfileAlign mn s) fun t ht => ⟨fun hbest => completes_at (profileAlign_discards hslot hstep hsub hcap hbest) ht,
    fun d c hbest hreach => completes_at (profileAlign_aligns hslot hstep hsub hcap hc hbest hreach) ht⟩

end Sys2Proof.Proofs
end
